-- ==== Sys2Proof/Word.lean ====
section
/-! DEFINITION.  The word and byte types of the module and their plainest arithmetic. -/

namespace Sys2Proof

/-- A register word: 32 bits (R8). -/
abbrev Word := BitVec 32

/-- The smallest addressable unit of the stacks and stores. -/
abbrev Byte := BitVec 8

end Sys2Proof
end

