-- ==== Sys2Proof/Syntax.lean ====
section
/-! DEFINITION.  The commands of the module: one constructor for each row of spec/opcode_table.json, with the
operands each carries, and the operand types. -/

namespace Sys2Proof

/-- An error a read of a cluster store met (R76): the store address and whether it is uncorrectable. -/
structure EccHit where
  addr : BitVec 26
  uncorrectable : Bool
  deriving DecidableEq, Repr

/-- An engine instruction, the fields of R103. -/
structure EngInstr where
  opc : BitVec 8
  flags : BitVec 8
  fmtAB : BitVec 8
  fmtOut : BitVec 8
  waitTok : BitVec 8
  waitN : BitVec 8
  sigTok : BitVec 8
  sigN : BitVec 8
  addrA : BitVec 32
  addrB : BitVec 32
  addrC : BitVec 32
  addrLA : BitVec 32
  addrLB : BitVec 32
  len : BitVec 16
  aux : BitVec 16
  deriving DecidableEq, Repr

/-- A bobbin descriptor, the fields of R110. -/
structure BobDesc where
  opc : BitVec 8
  flags : BitVec 8
  waitTok : BitVec 8
  waitN : BitVec 8
  sigTok : BitVec 8
  sigN : BitVec 8
  flow : BitVec 16
  src : BitVec 64
  dst : BitVec 64
  rows : BitVec 32
  rowBytes : BitVec 32
  srcStride : BitVec 32
  dstStride : BitVec 32
  index : BitVec 64
  nindex : BitVec 32
  listDst : BitVec 32
  aux : BitVec 32
  argsel : BitVec 8
  deriving DecidableEq, Repr

/-- An error a stack access met in one codeword (R135, R138): the stack, the physical address, how many of the 36 symbols
are erroneous, and the bank and row the address lies in (the spec gives no row mapping). -/
structure StackHit where
  stack : Fin 8
  addr : BitVec 37
  symbols : Fin 37
  bank : Fin 512
  row : BitVec 20
  deriving DecidableEq, Repr

/-- A transport packet, the header fields of R185 and its data lines. -/
structure Packet where
  dstMod : BitVec 12
  dstPart : BitVec 4
  srcMod : BitVec 12
  srcPart : BitVec 4
  typ : BitVec 8
  lines : BitVec 4
  retx : Bool
  epoch : Bool
  route : BitVec 2
  pmask : BitVec 8
  unit : BitVec 8
  flow : BitVec 16
  psn : BitVec 16
  cls : BitVec 2
  hops : BitVec 6
  space : Bool
  addr : BitVec 64
  tag : BitVec 32
  data : List Byte
  deriving DecidableEq, Repr

/-- What the peer says in HELLO (R177): module, port, link, width, the four VC buffer sizes, keep-alive. -/
structure Hello where
  module : BitVec 12
  port : BitVec 5
  link : BitVec 3
  width : BitVec 4
  vcbuf : List (BitVec 16)
  keepalive : Bool
  deriving DecidableEq, Repr

/-- A link-management message (R164).  The spec lays out no arguments: lanes are a mask of the port's eight, REMAP names the
lanes that changed, and a drop says whether it was planned (log entry 85). -/
inductive CtrlMsg where
  | hello (h : Hello)
  | laneDrop (mask : BitVec 8) (planned : Bool)
  | laneAdd (mask : BitVec 8)
  | remap (mask : BitVec 8)
  | narrow
  | widen
  | down (moduleStops : Bool)
  deriving DecidableEq, Repr

/-- A flooded message of the management class as it arrives (R193): the module that sent this copy, and its PSN. -/
structure Note where
  src : BitVec 12
  psn : BitVec 16
  deriving DecidableEq, Repr

/-- A flit on a link: header fields of R164 and its payload (244 bytes) or its control message. -/
structure Flit where
  seq : BitVec 8
  ack : BitVec 8
  nak : Bool
  typ : BitVec 3
  vc : BitVec 2
  crvc : BitVec 2
  credits : BitVec 8
  sop : Bool
  eop : Bool
  poison : Bool
  payload : List Byte
  ctrl : Option CtrlMsg
  deriving DecidableEq, Repr

/-- What an Announce message says of a grandmaster (IEEE 1588-2019, named by R232): priority1, clock class, accuracy,
variance, priority2, identity, and the steps removed. -/
structure PtpData where
  prio1 : BitVec 8
  cls : BitVec 8
  acc : BitVec 8
  var_ : BitVec 16
  prio2 : BitVec 8
  id : BitVec 64
  steps : BitVec 16
  deriving DecidableEq, Repr

/-- A PTP message as the module takes it (R232, R423): an Announce; what the timing messages of a slave port give (whether
the servo is locked, the offset to the grandmaster, local minus master in ns, and TAI - UTC); or a delay request, with its
sequence number. -/
inductive PtpMsg where
  | announce (d : PtpData)
  | timing (lock : Bool) (off : Option Int) (utc : Option (BitVec 16))
  | delayReq (seq : BitVec 16)
  deriving DecidableEq, Repr

/-- The head of an HMP request (R229, R230): the session it came in, its SEQ, and whether the header is well formed (LENGTH is
the body's, TYPE is one of the table; log entry 86). -/
structure HmpHead where
  client : Nat
  seq : Word
  ok : Bool
  deriving DecidableEq, Repr

/-- An Ethernet frame as R213 to R221 look at it: size from destination address to FCS with the MACsec fields, an 802.1ad
service tag, a good FCS, the VID and PCP of its 802.1Q tag, EtherType, the MACsec verification (none for an unprotected
frame) and packet number, whether it is RoCEv2, whether it is for the port's management address, the bytes its priority then
holds in the receive buffer, and, of a PAUSE frame, the priorities and quanta it names. -/
structure EthFrame where
  size : Nat
  sTag : Bool
  fcsOk : Bool
  vid : Option (BitVec 12)
  pcp : BitVec 3
  etherType : BitVec 16
  macsec : Option Bool
  pn : BitVec 64
  roce : Bool
  forMgmt : Bool
  fill : Nat
  pause : List (Fin 8 × BitVec 16)
  deriving DecidableEq, Repr

/-- Position of a packet in an RDMA WRITE message (R223). -/
inductive WritePos where
  | first | middle | last | only
  deriving DecidableEq, Repr



/-- A CAN FD frame as R364 to R371 look at it: extended FD format, identifier, payload with the sequence byte first. -/
structure CanFrame where
  fdExt : Bool
  id : BitVec 29
  data : List Byte
  deriving DecidableEq, Repr

/-- What a start-up step reads (R435): the PUF readings of step 3, and the records whose CRC fails at step 4 (those of the
change log marked), by SEQ. -/
inductive StepData where
  | none_
  | puf (readings : List (List Byte))
  | scan (bad : List (Bool × Word))
  deriving DecidableEq, Repr

/-- What a SND_UD of M-Bus asks (R397, R399): selection by identification number; the sealed parameters medium,
calibration coefficient and verification date; the verification command; primary address, baud and clock. -/
inductive MbusWrite where
  | select (id : Word)
  | medium (pg25 : Bool)
  | calibrate (i : BitVec 8) (w : Word)
  | date (d : Word)
  | verify
  | address (a : BitVec 8)
  | baud (b : BitVec 2)
  | clock (t : Word)
  deriving DecidableEq, Repr

/-- A meter firmware update (R398): it begins, or an image has come: version, body, meter key, signature. -/
inductive MeterUpdate where
  | begin_
  | image (ver : Word) (body key sig : List Byte)
  deriving DecidableEq, Repr


/-- An engine instruction in flight on a failed engine (R472, R473): its stream, the instruction, and whether it
had written its first output line. -/
structure InFlight where
  stream : Fin 16
  instr : EngInstr
  wrote : Bool
  deriving DecidableEq, Repr


/-- The commands, one constructor per row of the table; a docstring names the row and its rule. -/
inductive Instr where
  /-- REFERENCE_LOSS (R24). -/
  | referenceLoss
  /-- REFERENCE_RESTORED (R24). -/
  | referenceRestored
  /-- NOP (R105). -/
  | nop (p : Fin 68) (e : Fin 16) (i : EngInstr)
  /-- MMA_OS (R66). -/
  | mmaOs (p : Fin 68) (e : Fin 16) (i : EngInstr) (h : List EccHit)
  /-- MMA_WS (R67). -/
  | mmaWs (p : Fin 68) (e : Fin 16) (i : EngInstr) (h : List EccHit)
  /-- VEC_EW (R105). -/
  | vecEw (p : Fin 68) (e : Fin 16) (i : EngInstr) (h : List EccHit)
  /-- VEC_RED (R71). -/
  | vecRed (p : Fin 68) (e : Fin 16) (i : EngInstr) (h : List EccHit)
  /-- VEC_ACT (R72). -/
  | vecAct (p : Fin 68) (e : Fin 16) (i : EngInstr) (h : List EccHit)
  /-- VEC_TLOAD (R72). -/
  | vecTload (p : Fin 68) (e : Fin 16) (i : EngInstr) (h : List EccHit)
  /-- VEC_SOFTMAX (R71). -/
  | vecSoftmax (p : Fin 68) (e : Fin 16) (i : EngInstr) (h : List EccHit)
  /-- VEC_RECIP (R71). -/
  | vecRecip (p : Fin 68) (e : Fin 16) (i : EngInstr) (h : List EccHit)
  /-- QUANT (R40). -/
  | quant (p : Fin 68) (e : Fin 16) (i : EngInstr) (h : List EccHit)
  /-- DEQUANT (R43). -/
  | dequant (p : Fin 68) (e : Fin 16) (i : EngInstr) (h : List EccHit)
  /-- GATHER (R108). -/
  | gather (p : Fin 68) (e : Fin 16) (i : EngInstr) (h : List EccHit)
  /-- SCATTER (R108). -/
  | scatter (p : Fin 68) (e : Fin 16) (i : EngInstr) (h : List EccHit)
  /-- SYNC (R106). -/
  | sync (p : Fin 68) (e : Fin 16) (i : EngInstr)
  /-- BEACON (R109). -/
  | beacon (p : Fin 68) (e : Fin 16) (i : EngInstr)
  /-- END (R102). -/
  | endSeg (p : Fin 68) (e : Fin 16) (i : EngInstr)
  /-- TOKEN_WAIT (R80). -/
  | tokenWait (p : Fin 68) (unit : Fin 21) (glob : Bool) (t : BitVec 8) (n : BitVec 8)
  /-- TOKEN_WAIT_RELEASE (R80). -/
  | tokenWaitRelease (p : Fin 68) (glob : Bool) (t : BitVec 8)
  /-- TOKEN_SIGNAL (R80). -/
  | tokenSignal (p : Fin 68) (glob : Bool) (t : BitVec 8) (n : BitVec 8)
  /-- STALL_TIMEOUT (R83). -/
  | stallTimeout (p : Fin 68) (unit : Fin 21)
  /-- STORE_SCRUB_FORCED (R75). -/
  | storeScrubForced (p : Fin 68) (bank : Fin 32) (h : List EccHit)
  /-- STORE_PATROL_READ (R76). -/
  | storePatrolRead (p : Fin 68) (h : List EccHit)
  /-- BOBBIN_MOVE (R112). -/
  | bobbinMove (p : Fin 68) (b : Fin 4) (d : BobDesc) (h : List EccHit) (m : List StackHit)
  /-- BOBBIN_GATHER (R112). -/
  | bobbinGather (p : Fin 68) (b : Fin 4) (d : BobDesc) (h : List EccHit) (m : List StackHit)
  /-- BOBBIN_SCATTER (R112). -/
  | bobbinScatter (p : Fin 68) (b : Fin 4) (d : BobDesc) (h : List EccHit) (m : List StackHit)
  /-- BOBBIN_PUT (R112). -/
  | bobbinPut (p : Fin 68) (b : Fin 4) (d : BobDesc) (h : List EccHit) (m : List StackHit)
  /-- BOBBIN_GET (R112). -/
  | bobbinGet (p : Fin 68) (b : Fin 4) (d : BobDesc)
  /-- BOBBIN_COLL (R204). -/
  | bobbinColl (p : Fin 68) (b : Fin 4) (d : BobDesc) (h : List EccHit) (m : List StackHit)
  /-- BOBBIN_SYNC (R112). -/
  | bobbinSync (p : Fin 68) (b : Fin 4) (d : BobDesc)
  /-- BOBBIN_END (R112). -/
  | bobbinEnd (p : Fin 68) (b : Fin 4) (d : BobDesc)
  /-- DESCRIPTOR_STATUS_END (R111). -/
  | descriptorStatusEnd (p : Fin 68) (b : Fin 4)
  /-- ENGINE_FAULT (R92). -/
  | engineFault (p : Fin 68) (e : Fin 16) (l : List InFlight)
  /-- ENGINE_HANDSHAKE_TIMEOUT (R92). -/
  | engineHandshakeTimeout (p : Fin 68) (e : Fin 16) (l : List InFlight)
  /-- ENGINE_REPLAY (R472). -/
  | engineReplay (p : Fin 68) (e : Fin 16) (h : List EccHit)
  /-- CLUSTER_FAULT (R475). -/
  | clusterFault (p : Fin 68)
  /-- SPARE_BRING_IN_COMPLETE (R91). -/
  | spareBringInComplete (p : Fin 68) (pass : Bool)
  /-- ROUTER_FAULT (R88). -/
  | routerFault
  /-- CLUSTER_TEST_DONE (R90). -/
  | clusterTestDone (pass : BitVec 68) (bad : List (Fin 68 × BitVec 16))
  /-- CLUSTER_MAP_WRITE (R90). -/
  | clusterMapWrite
  /-- CLUSTER_GATE (R413). -/
  | clusterGate (p : Fin 68)
  /-- CLUSTER_UNGATE (R413). -/
  | clusterUngate (p : Fin 68)
  /-- RELAX_PENDING (R59). -/
  | relaxPending
  /-- RELAX_END_PENDING (R59). -/
  | relaxEndPending
  /-- PART_ASSIGN (R520). -/
  | partAssign (x : HmpHead) (body : List Byte)
  /-- PART_RELEASE (R520). -/
  | partRelease (x : HmpHead) (body : List Byte)
  /-- PART_STATE (R520). -/
  | partState (x : HmpHead)
  /-- SCRUB_HALTED (R263). -/
  | scrubHalted (n : Fin 16)
  /-- SCRUB_STORES_ZEROED (R263). -/
  | scrubStoresZeroed (n : Fin 16)
  /-- ZERO_FILL_DONE (R146). -/
  | zeroFillDone (k : Fin 8) (loan : Bool) (owner : Fin 32)
  /-- ETH_RING_PI_WRITE (R128). -/
  | ethRingPiWrite (i : Fin 64) (v : Word)
  /-- ETH_RING_CTL_WRITE (R128). -/
  | ethRingCtlWrite (i : Fin 64) (w : Word)
  /-- ETH_CQ_CI_WRITE (R117). -/
  | ethCqCiWrite (i : Fin 64) (w : Word)
  /-- RING_FETCH (R118). -/
  | ringFetch (i : Fin 64) (h : List StackHit)
  /-- COMMAND_START (R120). -/
  | commandStart (i : Fin 64)
  /-- CMD_NOP (R119). -/
  | cmdNop (i : Fin 64) (c : Word)
  /-- JOB_OPEN (R99). -/
  | jobOpen (i : Fin 64) (c : Word)
  /-- LOAD (R121). -/
  | load (i : Fin 64) (c : Word)
  /-- RUN (R102). -/
  | run (i : Fin 64) (c : Word)
  /-- FENCE (R124). -/
  | fence (i : Fin 64) (c : Word)
  /-- SIGNAL (R114). -/
  | signal (i : Fin 64) (c : Word)
  /-- MARK (R119). -/
  | mark (i : Fin 64) (c : Word)
  /-- JOB_CLOSE (R96). -/
  | jobClose (i : Fin 64) (c : Word)
  /-- COMMAND_COMPLETE (R122). -/
  | commandComplete (i : Fin 64) (c : Word)
  /-- INGEST_SEALED_RECORD (R254). -/
  | ingestSealedRecord (i : Fin 64) (c : Word)
  /-- STACK_READ (R136). -/
  | stackRead (k : Fin 8) (line : BitVec 31) (crc : Fin 10) (h : List StackHit)
  /-- STACK_WRITE (R136). -/
  | stackWrite (k : Fin 8) (line : BitVec 31) (data : BitVec 512) (mask : BitVec 64) (poison : Bool) (crc : Fin 10)
  /-- PAGE_CONVERSION_DONE (R142). -/
  | pageConversionDone (k : Fin 8) (frame : BitVec 21)
  /-- MEM_PATROL_SCRUB (R137). -/
  | memPatrolScrub (k : Fin 8) (h : List StackHit)
  /-- ROW_SPARE_DONE (R138). -/
  | rowSpareDone (k : Fin 8) (bank : Fin 512)
  /-- STACK_FAIL (R139). -/
  | stackFail (k : Fin 8)
  /-- ROTATION_REQ (R143). -/
  | rotationReq (n : Fin 16)
  /-- ROTATION_KEY_LOADED (R143). -/
  | rotationKeyLoaded (n : Fin 16)
  /-- SWEEP_CONVERSION (R143). -/
  | sweepConversion (k : Fin 8) (n : Fin 16) (h : List StackHit)
  /-- LEND_OFFER_ADVERTISE (R152). -/
  | lendOfferAdvertise
  /-- LEND_OFFER (R152). -/
  | lendOffer (j : Fin 145) (p : Packet)
  /-- LEND_REQUEST (R153). -/
  | lendRequest (j : Fin 145) (p : Packet)
  /-- LEND_GRANT (R153). -/
  | lendGrant (j : Fin 145) (p : Packet)
  /-- LOAN_TIMEOUT (R153). -/
  | loanTimeout (i : Fin 64) (c : Word)
  /-- STACK_TRAINING_DONE (R156). -/
  | stackTrainingDone (k : Fin 8) (ok : Bool)
  /-- FLIT_TRANSMIT (R169). -/
  | flitTransmit (j : Fin 144)
  /-- FLIT_RECEIVE (R167). -/
  | flitReceive (j : Fin 144) (f : Flit) (good : Bool) (copy : Bool) (fec : List (Fin 8 × Bool))
  /-- HELLO (R177). -/
  | hello (j : Fin 144) (q : BitVec 8) (h : Hello)
  /-- LANE_DROP (R172). -/
  | laneDrop (j : Fin 144) (q : BitVec 8) (mask : BitVec 8) (planned : Bool)
  /-- LANE_ADD (R174). -/
  | laneAdd (j : Fin 144) (q : BitVec 8) (mask : BitVec 8)
  /-- REMAP (R172). -/
  | remap (j : Fin 144) (q : BitVec 8) (mask : BitVec 8)
  /-- NARROW (R178). -/
  | narrow (j : Fin 144) (q : BitVec 8)
  /-- WIDEN (R178). -/
  | widen (j : Fin 144) (q : BitVec 8)
  /-- DOWN (R175). -/
  | down (j : Fin 144) (q : BitVec 8) (moduleStops : Bool)
  /-- LANE_FAULT (R171). -/
  | laneFault (j : Fin 144) (mask : BitVec 8)
  /-- LINK_SILENCE_TIMEOUT (R165). -/
  | linkSilenceTimeout (j : Fin 144)
  /-- LINK_RETRAIN_TIMER (R176). -/
  | linkRetrainTimer (j : Fin 144)
  /-- LINK_TRAINING_DONE (R177). -/
  | linkTrainingDone (j : Fin 144) (lanes : BitVec 8) (rtt : BitVec 16)
  /-- LANE_READD_RETRY (R174). -/
  | laneReaddRetry (l : Fin 144)
  /-- LANE_READD_TEST_DONE (R174). -/
  | laneReaddTestDone (l : Fin 144) (pass : Bool)
  /-- RETRAIN (R174). -/
  | retrain (p : Fin 18) (mask : BitVec 8)
  /-- FAB_PORT_CFG_WRITE (R180). -/
  | fabPortCfgWrite (p : Fin 18) (w : Word)
  /-- RTT_MEASURE (R168). -/
  | rttMeasure (j : Fin 144) (ns : Nat)
  /-- CABLE_PRESENT (R510). -/
  | cablePresent (p : Fin 18) (present : Bool)
  /-- CABLE_OVERCURRENT (R510). -/
  | cableOvercurrent (p : Fin 18)
  /-- PUT (R194). -/
  | put (j : Fin 145) (p : Packet)
  /-- GET_REQ (R186). -/
  | getReq (j : Fin 145) (p : Packet) (h : List StackHit)
  /-- GET_RESP (R196). -/
  | getResp (j : Fin 145) (p : Packet)
  /-- ACK (R193). -/
  | ack (j : Fin 145) (p : Packet)
  /-- REFUSE (R198). -/
  | refuse (j : Fin 145) (p : Packet)
  /-- PACKET_FORWARD (R188). -/
  | packetForward (j : Fin 144) (p : Packet)
  /-- ACK_TIMER (R194). -/
  | ackTimer
  /-- E2E_TIMEOUT (R197). -/
  | e2eTimeout (m : BitVec 12) (cls : BitVec 2) (psn : BitVec 16)
  /-- COLL_DATA (R205). -/
  | collData (j : Fin 145) (p : Packet)
  /-- ARRIVE (R207). -/
  | arrive (j : Fin 145) (p : Packet)
  /-- READY (R206). -/
  | ready (j : Fin 145) (p : Packet)
  /-- COMMIT (R206). -/
  | commit (j : Fin 145) (p : Packet)
  /-- ABORT (R206). -/
  | abort (j : Fin 145) (p : Packet)
  /-- COLL_END (R207). -/
  | collEnd (j : Fin 145) (p : Packet)
  /-- QUERY (R206). -/
  | query (j : Fin 145) (p : Packet)
  /-- NOTICE_FAULT (R200). -/
  | noticeFault (x : Note) (m : BitVec 12) (p : Fin 18) (l : Fin 9)
  /-- NOTICE_SUSPECT (R201). -/
  | noticeSuspect (x : Note) (m : BitVec 12)
  /-- NOTICE_ALIVE (R201). -/
  | noticeAlive (x : Note) (m : BitVec 12)
  /-- NOTICE_LOST (R202). -/
  | noticeLost (x : Note) (m : BitVec 12)
  /-- SUSPECT_TIMEOUT (R201). -/
  | suspectTimeout (m : BitVec 12)
  /-- EPOCH (R191). -/
  | epoch (x : Note) (e : BitVec 16)
  /-- TOPO_LINK_STATE (R182). -/
  | topoLinkState (x : Note) (m : BitVec 12) (link : Fin 144) (peer : BitVec 12) (linkUp : Bool) (peloton : BitVec 12) (srcEn : Bool)
  /-- TOPO_READY (R191). -/
  | topoReady (x : Note) (m : BitVec 12) (e : BitVec 16)
  /-- RELAY (R186). -/
  | relay (j : Fin 145) (p : Packet)
  /-- SHADOW_REBUILD (R191). -/
  | shadowRebuild (entries : List (BitVec 12 × Word × Word))
  /-- SHADOW_READY_WRITE (R190). -/
  | shadowReadyWrite (ready : Bool)
  /-- EPOCH_SOURCE_TIMEOUT (R191). -/
  | epochSourceTimeout
  /-- EPOCH_DRAIN_END (R191). -/
  | epochDrainEnd
  /-- ETH_LINK_UP (R212). -/
  | ethLinkUp (p : Fin 2) (rate : BitVec 2)
  /-- ETH_LINK_DOWN (R212). -/
  | ethLinkDown (p : Fin 2)
  /-- ETH_LINK_RETRY (R212). -/
  | ethLinkRetry (p : Fin 2)
  /-- ETH_FRAME_RECEIVE (R213). -/
  | ethFrameReceive (p : Fin 2) (f : EthFrame)
  /-- MKA_FRAME (R220). -/
  | mkaFrame (p : Fin 2) (valid : Bool) (sak : Bool)
  /-- MKA_SA_INSTALLED (R217). -/
  | mkaSaInstalled (p : Fin 2)
  /-- MKA_PEER_TIMEOUT (R217). -/
  | mkaPeerTimeout (p : Fin 2)
  /-- RDMA_WRITE (R226). -/
  | rdmaWrite (q : BitVec 12) (psn : BitVec 24) (pos : WritePos) (va : BitVec 64) (rkey : Word) (len : Word) (data : List Byte) (ce : Bool)
  /-- RDMA_READ_REQUEST (R224). -/
  | rdmaReadRequest (q : BitVec 12) (psn : BitVec 24) (va : BitVec 64) (rkey : Word) (len : Word) (ce : Bool) (h : List StackHit)
  /-- ROCE_INVALID_REQUEST (R225). -/
  | roceInvalidRequest (q : BitVec 12) (psn : BitVec 24) (ce : Bool)
  /-- RDMA_READ_RESPONSE (R223). -/
  | rdmaReadResponse (q : BitVec 12) (psn : BitVec 24) (data : List Byte) (ce : Bool)
  /-- ROCE_NAK_RECEIVED (R228). -/
  | roceNakReceived (q : BitVec 12) (syn : BitVec 8) (ce : Bool)
  /-- ROCE_ACK_TIMEOUT (R228). -/
  | roceAckTimeout (q : BitVec 12)
  /-- CNP_RECEIVE (R227). -/
  | cnpReceive (q : BitVec 12)
  /-- CNP_RATE_RECOVERY (R227). -/
  | cnpRateRecovery (q : BitVec 12)
  /-- ETH_QP_BIND_WRITE (R237). -/
  | ethQpBindWrite (q : BitVec 12) (w : Word)
  /-- ETH_MW_CTL_WRITE (R224). -/
  | ethMwCtlWrite (i : Fin 128) (w : Word)
  /-- ETH_DB_TAG_NEW (R224). -/
  | ethDbTagNew (n : Fin 16)
  /-- ETH_VLAN_WRITE (R237). -/
  | ethVlanWrite (i : Fin 64) (w : Word)
  /-- HMP_CONNECT (R229). -/
  | hmpConnect (p : Fin 2) (client : Nat) (anchor : List Byte) (hash : List Byte)
  /-- HMP_IDLE_TIMEOUT (R229). -/
  | hmpIdleTimeout (client : Nat)
  /-- REG_READ (R230). -/
  | regRead (x : HmpHead) (addr : Word) (n : Word)
  /-- REG_WRITE (R230). -/
  | regWrite (x : HmpHead) (addr : Word) (n : Word) (vals : List Word)
  /-- ARP_REQUEST (R215). -/
  | arpRequest (i : Fin 64) (ip : BitVec 128)
  /-- NEIGHBOUR_SOLICITATION (R215). -/
  | neighbourSolicitation (i : Fin 64) (ip : BitVec 128)
  /-- ICMP_ECHO (R214). -/
  | icmpEcho (i : Fin 64) (ip : BitVec 128) (payload : List Byte)
  /-- PTP_MESSAGE (R232). -/
  | ptpMessage (p : Fin 2) (dom : BitVec 8) (m : PtpMsg)
  /-- LLDP_SEND (R233). -/
  | lldpSend (p : Fin 2)
  /-- LLDP_RECEIVE (R233). -/
  | lldpReceive (p : Fin 2) (id : List Byte) (info : List Byte)
  /-- IDENTITY_CHAIN (R246). -/
  | identityChain (x : HmpHead)
  /-- ATTEST (R247). -/
  | attest (x : HmpHead) (nonce : List Byte) (meterUp : Bool)
  /-- KEY_DELIVER (R250). -/
  | keyDeliver (x : HmpHead) (body : List Byte)
  /-- KEY_REVOKE (R253). -/
  | keyRevoke (x : HmpHead) (body : List Byte)
  /-- CLAIM (R244). -/
  | claim (x : HmpHead) (body : List Byte)
  /-- PEER_ADMIT (R257). -/
  | peerAdmit (x : HmpHead) (body : List Byte)
  /-- DEBUG_CHALLENGE (R261). -/
  | debugChallenge (x : HmpHead)
  /-- DEBUG_UNLOCK (R261). -/
  | debugUnlock (x : HmpHead) (body : List Byte)
  /-- ATTEST_KEY_EXPIRY (R247). -/
  | attestKeyExpiry (i : Fin 8)
  /-- SVN_ADVANCE (R243). -/
  | svnAdvance (n : BitVec 8)
  /-- SEC_AT_RIGHTS_WRITE (R268). -/
  | secAtRightsWrite (w : Word)
  /-- CADENCE_WINDOW (R271). -/
  | cadenceWindow (rates : Vector (BitVec 16) 68)
  /-- POWER_SAMPLE (R276). -/
  | powerSample (w : BitVec 16)
  /-- CAP_UNMET (R277). -/
  | capUnmet
  /-- GEAR_CHANGE (R274). -/
  | gearChange (mv : BitVec 12)
  /-- GEAR_SWITCH_DONE (R274). -/
  | gearSwitchDone
  /-- GEAR_SETTLED (R274). -/
  | gearSettled
  /-- LIMITER_TRIGGER (R278). -/
  | limiterTrigger
  /-- LIMITER_RELEASE (R278). -/
  | limiterRelease
  /-- LIMITER_HOLD_STEP (R278). -/
  | limiterHoldStep
  /-- TJ_SAMPLE (R279). -/
  | tjSample (src : BitVec 7) (t : BitVec 12)
  /-- THERMAL_TRIP (R280). -/
  | thermalTrip (t : BitVec 12)
  /-- PWR_TRIP_REARM (R280). -/
  | pwrTripRearm
  /-- TRIP_RESTART (R280). -/
  | tripRestart
  /-- QUIESCE_COMPLETE (R28). -/
  | quiesceComplete
  /-- CLE_TICK (R286). -/
  | cleTick
  /-- SLOT_FAULT_CLEAR (R295). -/
  | slotFaultClear (w : Word)
  /-- SLOT_CFG_WRITE (R287). -/
  | slotCfgWrite (k : Fin 32) (w : Word)
  /-- SLOT_COEFF_WRITE (R310). -/
  | slotCoeffWrite (k : Fin 32) (j : Fin 21) (w : Word)
  /-- REP_TABLE_WRITE (R314). -/
  | repTableWrite (k : Fin 32) (i : BitVec 8) (w : Word)
  /-- REP_BEACON_TIMEOUT (R302). -/
  | repBeaconTimeout
  /-- TRACE_ARM (R306). -/
  | traceArm (b : Fin 4)
  /-- TRACE_FIRE (R306). -/
  | traceFire (b : Fin 4)
  /-- TRACE_DATA_READ (R306). -/
  | traceDataRead (b : Fin 4) (master : BitVec 10)
  /-- PWM_CFG_WRITE (R320). -/
  | pwmCfgWrite (c : Fin 8) (cmd : Bool) (w : Word)
  /-- TACH_EDGE (R321). -/
  | tachEdge (t : Fin 8) (period : Word)
  /-- KICK_TIMEOUT (R322). -/
  | kickTimeout (c : Fin 8)
  /-- PAUSE_END (R322). -/
  | pauseEnd (c : Fin 8)
  /-- PWM_RAMP_END (R321). -/
  | pwmRampEnd (c : Fin 8)
  /-- TACH_LOST (R323). -/
  | tachLost (c : Fin 8)
  /-- TACH_OVR_TIMEOUT (R324). -/
  | tachOvrTimeout (t : Fin 8)
  /-- CIO_PWM_CLR (R325). -/
  | cioPwmClr (m : BitVec 8)
  /-- AO_FAULT (R319). -/
  | aoFault (a : Fin 4)
  /-- AO_FAULT_CLEAR (R319). -/
  | aoFaultClear (a : Fin 4)
  /-- AI_SAMPLE (R333). -/
  | aiSample (ch : Fin 10) (raw : Rat) (val : Rat)
  /-- SENSOR_SAMPLE (R316). -/
  | sensorSample (k : Fin 7) (v : Rat)
  /-- RANGE_FAULT_CLEAR (R333). -/
  | rangeFaultClear (b : Fin 24)
  /-- PAIR_MISMATCH (R334). -/
  | pairMismatch (i : Fin 2)
  /-- HEAT_BALANCE (R335). -/
  | heatBalance
  /-- DI_CHANGE (R326). -/
  | diChange (d : Fin 8) (high : Bool)
  /-- DI_STUCK_CLEAR (R327). -/
  | diStuckClear (m : BitVec 8)
  /-- LEAK_SAMPLE (R330). -/
  | leakSample (k : Fin 5) (ohm : Word)
  /-- VALVE_CLOSE_DELAY (R331). -/
  | valveCloseDelay
  /-- PROTECTIVE_AFTER_READINGS (R457). -/
  | protectiveAfterReadings (k : Fin 8)
  /-- LEAK_ACK (R332). -/
  | leakAck
  /-- SENS_STAT_CLEAR (R337). -/
  | sensStatClear (w : Word)
  /-- ILK_IN_CHANGE (R346). -/
  | ilkInChange (low : Bool)
  /-- ACQUIRE_TIMEOUT (R348). -/
  | acquireTimeout
  /-- LISTEN_END (R353). -/
  | listenEnd
  /-- HB_MISSING (R353). -/
  | hbMissing
  /-- ILK_CONFLICT (R353). -/
  | ilkConflict
  /-- HOLDER_SELF_RELEASE (R349). -/
  | holderSelfRelease (why : Fin 3)
  /-- HEALTH_REACHED (R355). -/
  | healthReached
  /-- HANDOVER (R356). -/
  | handover (master : BitVec 10)
  /-- PUMPCLR (R345). -/
  | pumpclr (m : BitVec 4)
  /-- PUMP_STATUS_TIMEOUT (R345). -/
  | pumpStatusTimeout (k : Fin 4) (slow : Bool)
  /-- PUMP_ROTATION (R345). -/
  | pumpRotation
  /-- ROTATION_STOP_OLD (R345). -/
  | rotationStopOld
  /-- STARTUP_PUMP_KICK_END (R438). -/
  | startupPumpKickEnd
  /-- ROW_BUDGET_COMPUTE (R357). -/
  | rowBudgetCompute
  /-- CAP_TABLE_STALE (R360). -/
  | capTableStale
  /-- CYCLE_START (R374). -/
  | cycleStart
  /-- SCHED_SLOT (R375). -/
  | schedSlot (slot : Fin 32)
  /-- REF_LOST (R374). -/
  | refLost
  /-- CLARN_TX_DONE (R380). -/
  | clarnTxDone (c : Fin 2) (id : BitVec 29) (delay : Nat)
  /-- CLARN_BUS_ERROR (R384). -/
  | clarnBusError (c : Fin 2) (tec : BitVec 9) (errs : BitVec 9)
  /-- BUSOFF_RECOVERY (R384). -/
  | busoffRecovery (c : Fin 2)
  /-- SUBMIT (R379). -/
  | submit
  /-- CANCEL (R379). -/
  | cancel (e : BitVec 5)
  /-- CLN_RXQ_ACK (R382). -/
  | clnRxqAck (c : Fin 2) (n : BitVec 9)
  /-- CLN_CH_CFG_WRITE (R367). -/
  | clnChCfgWrite (c : Fin 2) (w : Word)
  /-- SEQ_FORGET (R370). -/
  | seqForget (id : BitVec 29)
  /-- CLARN_FRAME_RECEIVE (R382). -/
  | clarnFrameReceive (c : Fin 2) (f : CanFrame)
  /-- REF (R374). -/
  | ref (c : Fin 2) (f : CanFrame)
  /-- CAP_TABLE (R359). -/
  | capTable (c : Fin 2) (f : CanFrame)
  /-- HB (R350). -/
  | hb (c : Fin 2) (f : CanFrame)
  /-- MIRROR (R351). -/
  | mirror (c : Fin 2) (f : CanFrame)
  /-- MOD_STATUS (R358). -/
  | modStatus (c : Fin 2) (f : CanFrame)
  /-- MOD_ALARM (R371). -/
  | modAlarm (c : Fin 2) (f : CanFrame)
  /-- PUMP_STATUS (R345). -/
  | pumpStatus (c : Fin 2) (f : CanFrame)
  /-- VALVE_STATUS (R371). -/
  | valveStatus (c : Fin 2) (f : CanFrame)
  /-- SENSOR_VALUE (R383). -/
  | sensorValue (c : Fin 2) (f : CanFrame)
  /-- LEAK_STATUS (R371). -/
  | leakStatus (c : Fin 2) (f : CanFrame)
  /-- NODE_HELLO (R371). -/
  | nodeHello (c : Fin 2) (f : CanFrame)
  /-- METER_CALC (R391). -/
  | meterCalc (vol : Rat) (flow : Rat) (ti : Rat) (t : Rat) (noTransit : Bool) (soundOff : Bool)
  /-- METER_COMMIT (R395). -/
  | meterCommit (marked : Bool)
  /-- METER_SUPPLY_FAIL (R395). -/
  | meterSupplyFail
  /-- SEAL_CHECK (R396). -/
  | sealCheck (loopOpen : Bool)
  /-- SND_NKE (R399). -/
  | sndNke (a : BitVec 8)
  /-- REQ_UD2 (R400). -/
  | reqUd2 (a : BitVec 8)
  /-- SND_UD (R397). -/
  | sndUd (a : BitVec 8) (w : MbusWrite)
  /-- METER_FW_UPDATE (R398). -/
  | meterFwUpdate (u : MeterUpdate)
  /-- SNAPSHOT (R401). -/
  | snapshot
  /-- METER_UNREACH (R404). -/
  | meterUnreach
  /-- READ_ACC (R402). -/
  | readAcc
  /-- READ_ID (R402). -/
  | readId
  /-- READ_LOG (R402). -/
  | readLog (n : BitVec 8)
  /-- READ_PARAM (R402). -/
  | readParam
  /-- METER_ANSWER (R407). -/
  | meterAnswer (crcOk : Bool)
  /-- METER_REQ_TIMEOUT (R406). -/
  | meterReqTimeout
  /-- REQ_RUN (R412). -/
  | reqRun
  /-- REQ_TRIM (R412). -/
  | reqTrim
  /-- REQ_STANDBY (R412). -/
  | reqStandby
  /-- REQ_FREEWHEEL (R412). -/
  | reqFreewheel
  /-- PWR_VOTE_WRITE (R411). -/
  | pwrVoteWrite (m : BitVec 16)
  /-- AUTO_STANDBY_IDLE (R411). -/
  | autoStandbyIdle
  /-- ENTRY_STEP_COMPLETE (R414). -/
  | entryStepComplete
  /-- HANDSHAKE_REPLY (R415). -/
  | handshakeReply (c : Fin 8)
  /-- HANDSHAKE_TIMEOUT (R415). -/
  | handshakeTimeout
  /-- FW_SEQUENCER_SAMPLE (R418). -/
  | fwSequencerSample (sens : Vector Rat 7) (ai : Vector (Rat × Rat) 8)
  /-- WAKE_COMPLETE (R418). -/
  | wakeComplete (n : BitVec 48)
  /-- DOMAIN_AWAKE (R419). -/
  | domainAwake (d : Fin 9)
  /-- DOMAIN_IDLE (R420). -/
  | domainIdle (d : Fin 9)
  /-- TIM_SET (R423). -/
  | timSet (master : BitVec 10)
  /-- TIM_NOW_LO_READ (R500). -/
  | timNowLoRead (master : BitVec 10)
  /-- AON_OSC_STOP (R425). -/
  | aonOscStop
  /-- COUNTER_PERSIST (R426). -/
  | counterPersist (ok : Bool)
  /-- VAON_UP (R435). -/
  | vaonUp
  /-- VAON_DOWN (R408). -/
  | vaonDown
  /-- OVERVOLTAGE (R503). -/
  | overvoltage
  /-- STARTUP_STEP_COMPLETE (R435). -/
  | startupStepComplete (d : StepData)
  /-- FLOW_PERMIT_HELD (R436). -/
  | flowPermitHeld
  /-- PERMIT_WAIT (R436). -/
  | permitWait
  /-- PERMIT_LOST (R437). -/
  | permitLost
  /-- PERMIT_REGAIN (R437). -/
  | permitRegain
  /-- WDOG_KICK (R447). -/
  | wdogKick
  /-- WDOG_EXPIRY (R447). -/
  | wdogExpiry
  /-- MGMT_RESTART_DONE (R447). -/
  | mgmtRestartDone
  /-- RESET_N (R449). -/
  | resetN
  /-- PF_WARN_N (R460). -/
  | pfWarnN (ok : Bool)
  /-- HEARTBEAT (R450). -/
  | heartbeat
  /-- TRAY_MODE_WRITE (R450). -/
  | trayModeWrite (master : BitVec 10) (guard : Bool)
  /-- TRAY_RESTART (R450). -/
  | trayRestart (master : BitVec 10)
  /-- HB_MISS (R450). -/
  | hbMiss
  /-- TRAY_SHUTDOWN (R450). -/
  | trayShutdown
  /-- TRAY_VALVE_HOLD_END (R450). -/
  | trayValveHoldEnd
  /-- ALIVE_TICK (R451). -/
  | aliveTick
  /-- RECORDER_FLUSH (R460). -/
  | recorderFlush (bad : Bool)
  /-- FLUSH_TIMER (R460). -/
  | flushTimer
  /-- FLUSH (R460). -/
  | flush
  /-- SECTOR_ERASE_DONE (R463). -/
  | sectorEraseDone (ok : Bool)
  /-- FREEZE (R467). -/
  | freeze (on : Bool)
  /-- FREEZE_END (R467). -/
  | freezeEnd
  /-- CURSOR_FIRST (R466). -/
  | cursorFirst (c : Fin 2) (area : Bool) (minsev : BitVec 2)
  /-- CURSOR_LAST (R466). -/
  | cursorLast (c : Fin 2) (area : Bool) (minsev : BitVec 2)
  /-- REC_CUR_SEQ_WRITE (R466). -/
  | recCurSeqWrite (c : Fin 2) (v : Word)
  /-- REC_WIN_WORD15_READ (R466). -/
  | recWinWord15Read (c : Fin 2) (master : BitVec 10)
  /-- IRQ_TRAY_PEND_WRITE (R492). -/
  | irqTrayPendWrite (master : BitVec 10) (w : Word)
  /-- IRQ_REEDGE_PULSE_END (R493). -/
  | irqReedgePulseEnd
  /-- I3C_PRIVATE_WRITE (R487). -/
  | i3cPrivateWrite (addr : BitVec 24) (words : List Word)
  /-- I3C_PRIVATE_READ (R487). -/
  | i3cPrivateRead (addr : BitVec 24) (n : BitVec 5)
  /-- ENTDAA (R487). -/
  | entdaa (da : BitVec 7)
  /-- SETDASA (R487). -/
  | setdasa (static : BitVec 7) (da : BitVec 7)
  /-- RSTDAA (R487). -/
  | rstdaa
  /-- SETNEWDA (R487). -/
  | setnewda (da : BitVec 7)
  /-- GETPID (R487). -/
  | getpid
  /-- GETBCR (R487). -/
  | getbcr
  /-- GETDCR (R487). -/
  | getdcr
  /-- GETSTATUS (R487). -/
  | getstatus
  /-- SETMWL (R487). -/
  | setmwl (n : BitVec 16)
  /-- SETMRL (R487). -/
  | setmrl (n : BitVec 16)
  /-- GETMWL (R487). -/
  | getmwl
  /-- GETMRL (R487). -/
  | getmrl
  /-- CFG_IMAGE (R446). -/
  | cfgImage (x : HmpHead) (body : List Byte)
  /-- FW_IMAGE (R446). -/
  | fwImage (x : HmpHead) (body : List Byte)
  /-- REGISTER_WRITE (R9). -/
  | registerWrite (master : BitVec 10) (addr : BitVec 24) (wide : Bool) (w : Word)
  /-- OVERVOLTAGE_RECOVERY (R503). -/
  | overvoltageRecovery
  /-- MIRROR_OLD (R351). -/
  | mirrorOld
  /-- CRITICAL_OUTPUT_OFF (R329). -/
  | criticalOutputOff
  /-- RNR_NAK (R225). -/
  | rnrNak (q : BitVec 12) (psn : BitVec 24)
  /-- ROCE_ACKNOWLEDGE (R223). -/
  | roceAcknowledge (q : BitVec 12) (psn : BitVec 24) (ce : Bool)
  /-- MKA_HELLO (R220). -/
  | mkaHello (p : Fin 2)
  /-- PTP_LOCK_LOST (R232). -/
  | ptpLockLost (p : Fin 2)
  deriving DecidableEq, Repr

end Sys2Proof
end

