-- ==== Sys2Proof/Machine/Flags.lean ====
section
/-! DEFINITION.  The number formats and every flag computation of the arithmetic (R31 to R55, R62): exact
values, rounding, quantising, dequantising, chunk accumulation and the vector unit's scalar operations.
A result is a pair of a value and the flags it raises. -/

namespace Sys2Proof.Machine

/-! ### Flags (R62), bit numbers as in CLU_ARITH_STAT (R63) -/

abbrev flNANIN : Nat := 1
abbrev flINV : Nat := 2
abbrev flOVF : Nat := 4
abbrev flUNF : Nat := 8
abbrev flSAT : Nat := 16
abbrev flRELAX : Nat := 32

/-! ### Formats (R31, R104) -/

/-- Element parameters of a block format: width, E, M, bias, h and q of R37. -/
structure BlkFmt where
  w : Nat
  ebits : Nat
  mbits : Nat
  bias : Nat
  h : Nat
  q : Int
  vmaxMag : Nat
  vmaxExp : Int
  deriving DecidableEq, Repr

/-- The block formats by the codes of R104; SBI8 has no exponent field. -/
def blkFmt : Nat → Option BlkFmt
  | 0 => some ⟨4, 2, 1, 1, 3, -4, 6, 0⟩
  | 1 => some ⟨6, 3, 2, 3, 5, -4, 28, 0⟩
  | 2 => some ⟨6, 2, 3, 1, 3, -3, 15, -1⟩
  | 3 => some ⟨8, 4, 3, 7, 9, -9, 480, 0⟩
  | 4 => some ⟨8, 5, 2, 15, 17, -16, 114688, 0⟩
  | 5 => some ⟨8, 0, 7, 0, 2, -6, 127, -6⟩
  | _ => none

/-- Bytes of a block (R36). -/
def blkBytes (fmt : Nat) : Nat :=
  match fmt with
  | 0 => 18
  | 1 | 2 => 25
  | _ => 33

/-- Bytes of a scalar element. -/
def scalarBytes (fmt : Nat) : Nat := if fmt = 6 then 2 else 4

/-! ### Exact values -/

/-- A scalar value: NaN, an infinity, or (-1)^neg * mag * 2^exp. -/
inductive FVal where
  | nan
  | inf (neg : Bool)
  | fin (neg : Bool) (mag : Nat) (exp : Int)
  deriving DecidableEq, Repr

/-- The value of an SF32 word (R33) or, with 7 fraction bits, of an SF16 word (R34). -/
def fvalOf (frac : Nat) (w : Nat) : FVal :=
  let m := w % 2 ^ frac
  let e := w / 2 ^ frac % 256
  let neg := w / 2 ^ (frac + 8) % 2 = 1
  if e = 255 then (if m = 0 then .inf neg else .nan)
  else if e = 0 then .fin neg m (-126 - (frac : Int))
  else .fin neg (2 ^ frac + m) ((e : Int) - 127 - (frac : Int))

/-- Fraction bits of a scalar format: SF16 7, SF32 23. -/
def fracOf (fmt : Nat) : Nat := if fmt = 6 then 7 else 23

/-- Canonical NaN (R35). -/
def canonNaN (frac : Nat) : Nat := 255 * 2 ^ frac + 2 ^ (frac - 1)

/-- Code of an infinity. -/
def infCode (frac : Nat) (neg : Bool) : Nat := (if neg then 2 ^ (frac + 8) else 0) + 255 * 2 ^ frac

/-- How a down-conversion rounds: to nearest even, or with a 32-bit random number (R54). -/
inductive RndMode where
  | rne
  | stoch (r : Nat)
  deriving DecidableEq, Repr

/-- Round `mag * 2^exp` to a multiple of `2^q`: the multiple, and whether it is inexact. -/
def roundAt (rm : RndMode) (mag : Nat) (exp q : Int) : Nat × Bool :=
  if q ≤ exp then (mag * 2 ^ (exp - q).toNat, false)
  else
    let sh := (q - exp).toNat
    let lo := mag / 2 ^ sh
    let rem := mag % 2 ^ sh
    if rem = 0 then (lo, false)
    else match rm with
      | .rne =>
        if 2 * rem < 2 ^ sh then (lo, true)
        else if 2 ^ sh < 2 * rem then (lo + 1, true)
        else (lo + lo % 2, true)
      | .stoch r => (if r < rem * 2 ^ 32 / 2 ^ sh then lo + 1 else lo, true)

/-- Exponent of the leading bit of `mag * 2^exp`. -/
def topExp (mag : Nat) (exp : Int) : Int := (Nat.log2 mag : Int) + exp

/-- Encode an exact value in SF32 or SF16 with gradual underflow, raising OVF and UNF (R49, R53, R62). -/
def encodeF (frac : Nat) (rm : RndMode) (neg : Bool) (mag : Nat) (exp : Int) : Nat × Nat :=
  let sgn := if neg then 2 ^ (frac + 8) else 0
  if mag = 0 then (sgn, 0)
  else
    let t := topExp mag exp
    let q := max (t - (frac : Int)) (-126 - (frac : Int))
    let r := roundAt rm mag exp q
    let carry := 2 ^ (frac + 1) ≤ r.1
    let n := if carry then r.1 / 2 else r.1
    let q' := if carry then q + 1 else q
    let unf := if t < -126 ∧ r.2 then flUNF else 0
    let e := q' + (frac : Int) + 127
    if n < 2 ^ frac then (sgn + n, unf)
    else if 255 ≤ e then (infCode frac neg, flOVF)
    else (sgn + e.toNat * 2 ^ frac + (n - 2 ^ frac), unf)

/-- Encode a value; a NaN is canonical. -/
def encodeV (frac : Nat) (rm : RndMode) : FVal → Nat × Nat
  | .nan => (canonNaN frac, 0)
  | .inf neg => (infCode frac neg, 0)
  | .fin neg m e => encodeF frac rm neg m e

/-- Signed integer of a finite value at exponent `q` (`q` at most its exponent). -/
def fixAt (neg : Bool) (mag : Nat) (exp q : Int) : Int :=
  let n : Int := mag * 2 ^ (exp - q).toNat
  if neg then -n else n

/-- Encode a signed integer times `2^q` in SF32; an exact zero takes the sign given. -/
def encodeInt (rm : RndMode) (v : Int) (q : Int) (zeroNeg : Bool) : Nat × Nat :=
  if v = 0 then encodeF 23 rm zeroNeg 0 q else encodeF 23 rm (v < 0) v.natAbs q

/-- NANIN when either operand is a NaN. -/
def nanIn (l : List FVal) : Nat := if l.any (· = .nan) then flNANIN else 0

/-- SF32 fused multiply-add a * b + c in round-to-nearest-even (R33, R35, R62). -/
def fmaV (a b c : FVal) : Nat × Nat :=
  match a, b, c with
  | .nan, _, _ | _, .nan, _ | _, _, .nan => (canonNaN 23, flNANIN)
  | .inf s, .inf t, .inf u => if (s ^^ t) = u then (infCode 23 u, 0) else (canonNaN 23, flINV)
  | .inf s, .inf t, .fin _ _ _ => (infCode 23 (s ^^ t), 0)
  | .inf s, .fin t m _, .inf u | .fin s m _, .inf t, .inf u =>
    if m = 0 then (canonNaN 23, flINV) else if (s ^^ t) = u then (infCode 23 u, 0) else (canonNaN 23, flINV)
  | .inf s, .fin t m _, .fin _ _ _ | .fin s m _, .inf t, .fin _ _ _ =>
    if m = 0 then (canonNaN 23, flINV) else (infCode 23 (s ^^ t), 0)
  | .fin _ _ _, .fin _ _ _, .inf u => (infCode 23 u, 0)
  | .fin s m e, .fin t n f, .fin u k g =>
    let pn := s ^^ t
    let q := min (e + f) g
    let sum := fixAt pn (m * n) (e + f) q + fixAt u k g q
    encodeInt .rne sum q (pn && u)

/-- SF32 one. -/
def oneV : FVal := .fin false 1 0

/-- Negate a value. -/
def negV : FVal → FVal
  | .nan => .nan
  | .inf s => .inf (!s)
  | .fin s m e => .fin (!s) m e

/-- SF32 addition. -/
def addV (a b : FVal) : Nat × Nat := fmaV a oneV b

/-- SF32 multiplication: the sign of a zero product is the product of the signs. -/
def mulV (a b : FVal) : Nat × Nat :=
  match a, b with
  | .fin s m e, .fin t n f => encodeF 23 .rne (s ^^ t) (m * n) (e + f)
  | _, _ => fmaV a b (.fin false 0 0)

/-- SF32 addition on words. -/
def addW (a b : Nat) : Nat × Nat := addV (fvalOf 23 a) (fvalOf 23 b)

/-- Exact comparison of finite values: `a < b`. -/
def ltV : FVal → FVal → Bool
  | .fin s m e, .fin t n f =>
    let q := min e f
    fixAt s m e q < fixAt t n f q
  | .inf true, .inf false => true
  | .inf true, .fin _ _ _ => true
  | .fin _ _ _, .inf false => true
  | _, _ => false

/-- Whether a value is zero. -/
def isZeroV : FVal → Bool
  | .fin _ 0 _ => true
  | _ => false

/-- Sign of a value. -/
def signV : FVal → Bool
  | .nan => false
  | .inf s => s
  | .fin s _ _ => s

/-- Max of R519. -/
def maxV (a b : FVal) : FVal × Nat :=
  if a = .nan ∨ b = .nan then (.nan, flNANIN)
  else if isZeroV a && isZeroV b then (if signV a && signV b then a else .fin false 0 0, 0)
  else if ltV a b then (b, 0) else (a, 0)

/-- Min of R519. -/
def minV (a b : FVal) : FVal × Nat :=
  if a = .nan ∨ b = .nan then (.nan, flNANIN)
  else if isZeroV a && isZeroV b then (if signV a || signV b then .fin true 0 0 else a, 0)
  else if ltV b a then (b, 0) else (a, 0)

/-- Compare less-than of R519: 1.0 or +0.0. -/
def cmpLtV (a b : FVal) : FVal × Nat :=
  if a = .nan ∨ b = .nan then (.fin false 0 0, flNANIN)
  else (if ltV a b then oneV else .fin false 0 0, 0)

/-! ### Blocks (R36 to R39) -/

/-- A block: shared exponent, darts of the four groups, and 32 element codes. -/
structure Blk where
  x : Nat
  darts : List Nat
  codes : List Nat
  deriving DecidableEq, Repr

/-- Little-endian number of a byte list (R36's bit string). -/
def bytesNat : List Byte → Nat
  | [] => 0
  | b :: t => b.toNat + 256 * bytesNat t

/-- `n` bytes of a number, little-endian. -/
def natBytes (n v : Nat) : List Byte :=
  match n with
  | 0 => []
  | k + 1 => BitVec.ofNat 8 v :: natBytes k (v / 256)

/-- Element bytes of a block in a format. -/
def elemBytes (fmt : Nat) : Nat := match fmt with | 0 => 16 | 1 | 2 => 24 | _ => 32

/-- Read a block from its bytes (R36). -/
def readBlk (fmt : Nat) (f : BlkFmt) (l : List Byte) : Blk :=
  let v := bytesNat l
  let n := elemBytes fmt
  let dart := if fmt = 0 then v / 2 ^ (8 * (n + 1)) % 256 else 0
  { x := v / 2 ^ (8 * n) % 256
    darts := (List.range 4).map fun g => dart / 4 ^ g % 4
    codes := (List.range 32).map fun i => v / 2 ^ (f.w * i) % 2 ^ f.w }

/-- Number whose digits in base `2^w` are the codes, first lowest. -/
def packCodes (w : Nat) : List Nat → Nat
  | [] => 0
  | c :: t => c + 2 ^ w * packCodes w t

/-- The bytes of a block (R36). -/
def writeBlk (fmt : Nat) (f : BlkFmt) (b : Blk) : List Byte :=
  natBytes (elemBytes fmt) (packCodes f.w b.codes) ++ [BitVec.ofNat 8 b.x] ++
    (if fmt = 0 then [BitVec.ofNat 8 (packCodes 2 b.darts)] else [])

/-- Sign, magnitude and exponent of an element code, without X and dart (R38). -/
def elemVal (fmt : Nat) (f : BlkFmt) (c : Nat) : Bool × Nat × Int :=
  if fmt = 5 then
    if c < 128 then (false, c, -6) else (true, 256 - c, -6)
  else
    let m := c % 2 ^ f.mbits
    let e := c / 2 ^ f.mbits % 2 ^ f.ebits
    let neg := c / 2 ^ (f.mbits + f.ebits) % 2 = 1
    if e = 0 then (neg, m, 1 - (f.bias : Int) - f.mbits)
    else (neg, 2 ^ f.mbits + m, (e : Int) - f.bias - f.mbits)

/-- Whether every element of a block is zero (R39). -/
def blkZero (fmt : Nat) (f : BlkFmt) (b : Blk) : Bool := b.codes.all fun c => (elemVal fmt f c).2.1 = 0

/-- Dart of element `i`. -/
def Blk.dartOf (b : Blk) (i : Nat) : Nat := (b.darts[i / 8]?).getD 0

/-- Value of element `i` of a block (R38, R39). -/
def blkElem (fmt : Nat) (f : BlkFmt) (b : Blk) (i : Nat) : FVal :=
  if b.x = 255 then .nan
  else
    let v := elemVal fmt f ((b.codes[i]?).getD 0)
    .fin v.1 v.2.1 (v.2.2 + b.x - 127 - b.dartOf i)

/-- All element values of a block. -/
def blkVals (fmt : Nat) (f : BlkFmt) (b : Blk) : List FVal := (List.range 32).map (blkElem fmt f b)

/-! ### Quantising (R40 to R42) -/

/-- `a * 2^e ≤ b * 2^g`. -/
def leMag (a : Nat) (e : Int) (b : Nat) (g : Int) : Bool :=
  let q := min e g
  a * 2 ^ (e - q).toNat ≤ b * 2 ^ (g - q).toNat

/-- The larger of two magnitudes. -/
def maxMag (x y : Nat × Int) : Nat × Int := if leMag x.1 x.2 y.1 y.2 then y else x

/-- Magnitude of a value, 0 for a NaN or an infinity (such a block is a NaN block). -/
def magOf : FVal → Nat × Int
  | .fin _ m e => (m, e)
  | _ => (0, 0)

/-- Largest magnitude of a list. -/
def amaxOf (l : List FVal) : Nat × Int := l.foldl (fun a v => maxMag a (magOf v)) (0, 0)

/-- The shared exponent X of R40. -/
def chooseX (f : BlkFmt) (a : Nat × Int) : Nat :=
  if a.1 = 0 then 0
  else ((List.range 255).find? fun (x : Nat) => leMag a.1 a.2 f.vmaxMag (f.vmaxExp + (x : Int) - 127)).getD 254

/-- The dart of a group (R41). -/
def chooseDart (x : Nat) (a : Nat × Int) : Nat :=
  ([3, 2, 1, 0].find? fun (d : Nat) => leMag a.1 a.2 6 ((x : Int) - 127 - (d : Int))).getD 0

/-- Round one scaled magnitude to an element code: code and flags (R42).  UNF is never set here (R62; log entry 81). -/
def quantElem (fmt : Nat) (f : BlkFmt) (rm : RndMode) (neg : Bool) (mag : Nat) (exp : Int) : Nat × Nat :=
  let clamp := !(leMag mag exp f.vmaxMag f.vmaxExp)
  let m := if clamp then f.vmaxMag else mag
  let e := if clamp then f.vmaxExp else exp
  let fl := if clamp then flSAT else 0
  if m = 0 then (0, fl)
  else if fmt = 5 then
    let n := (roundAt rm m e (-6)).1
    (if n = 0 then 0 else if neg then 256 - n else n, fl)
  else
    let q := max (topExp m e - f.mbits) (1 - (f.bias : Int) - f.mbits)
    let r := (roundAt rm m e q).1
    let carry := 2 ^ (f.mbits + 1) ≤ r
    let n := if carry then r / 2 else r
    let q' := if carry then q + 1 else q
    let sgn := if neg then 2 ^ (f.mbits + f.ebits) else 0
    if n = 0 then (0, fl)
    else if n < 2 ^ f.mbits then (sgn + n, fl)
    else (sgn + (q' + f.mbits + f.bias).toNat * 2 ^ f.mbits + (n - 2 ^ f.mbits), fl)

/-- The 32-bit xorshift step of R55. -/
def xorshift (x : Word) : Word :=
  let a := x ^^^ (x <<< 13)
  let b := a ^^^ (a >>> 17)
  b ^^^ (b <<< 5)

/-- Initial state of consumer `c` (R55). -/
def streamInit (seed : Word) (c : Nat) : Word :=
  let v := seed ^^^ (BitVec.ofNat 32 (c + 1) * 0x9E3779B9)
  if v = 0 then 1 else v

/-- A consumer's rounding source: nearest even, or a stream that every down-conversion draws from (R53, R55). -/
structure RndSrc where
  stoch : Bool
  st : Word
  deriving DecidableEq, Repr

/-- Draw for one value. -/
def RndSrc.draw (r : RndSrc) : RndMode × RndSrc :=
  if r.stoch then
    let x := xorshift r.st
    (.stoch x.toNat, { r with st := x })
  else (.rne, r)

/-- Round the elements in order 0 to 31, drawing one output each. -/
def quantList (fmt : Nat) (f : BlkFmt) (x : Nat) (darts : List Nat) :
    List FVal → Nat → RndSrc → List Nat × Nat × RndSrc
  | [], _, r => ([], 0, r)
  | v :: t, i, r =>
    let d := r.draw
    let dart := (darts[i / 8]?).getD 0
    let c := match v with
      | .fin neg m e => quantElem fmt f d.1 neg m (e - x + 127 + dart)
      | _ => (0, 0)
    let rest := quantList fmt f x darts t (i + 1) d.2
    (c.1 :: rest.1, c.2 ||| rest.2.1, rest.2.2)

/-- Draw `n` outputs and discard them. -/
def RndSrc.skip (r : RndSrc) : Nat → RndSrc
  | 0 => r
  | n + 1 => RndSrc.skip r.draw.2 n

/-- Whether a value is not finite. -/
def notFinite : FVal → Bool
  | .fin _ _ _ => false
  | _ => true

/-- Quantise 32 values to a block (R40 to R42). -/
def quantBlk (fmt : Nat) (f : BlkFmt) (vals : List FVal) (r : RndSrc) : Blk × Nat × RndSrc :=
  if vals.any notFinite then
    ({ x := 255, darts := [0, 0, 0, 0], codes := List.replicate 32 0 },
      flNANIN ||| (if vals.any (fun v => v = .inf true ∨ v = .inf false) then flINV else 0), r.skip 32)
  else
    let x := chooseX f (amaxOf vals)
    let darts := if fmt = 0 then
        (List.range 4).map fun g => chooseDart x (amaxOf ((vals.drop (8 * g)).take 8))
      else [0, 0, 0, 0]
    let q := quantList fmt f x darts vals 0 r
    ({ x := x, darts := darts, codes := q.1 }, q.2.1, q.2.2)

/-- Dequantise one value to SF32 or SF16 (R43). -/
def dequantV (frac : Nat) (v : FVal) : Nat × Nat := encodeV frac .rne v

/-! ### Accumulation inside an engine (R44 to R50) -/

/-- Integer of an element at weight `2^q` of its format, dart included. -/
def elemInt (fmt : Nat) (f : BlkFmt) (b : Blk) (i : Nat) : Int :=
  let v := elemVal fmt f ((b.codes[i]?).getD 0)
  fixAt v.1 v.2.1 (v.2.2 - b.dartOf i) f.q

/-- Exact sum of the 32 products of a block pair at weight `2^(qA + qB)` (R46). -/
def pairSum (fa : Nat) (A : BlkFmt) (fb : Nat) (B : BlkFmt) (a b : Blk) : Int :=
  (List.range 32).foldl (fun s i => s + elemInt fa A a i * elemInt fb B b i) 0

/-- Largest of a list of optional exponents. -/
def maxExp (l : List (Option Int)) : Option Int :=
  l.foldl (fun m e => match m, e with
    | none, e => e
    | m, none => m
    | some x, some y => some (max x y)) none

/-- Shift an integer by `k` places, truncating toward minus infinity for negative `k`. -/
def shiftFloor (v : Int) (k : Int) : Int :=
  if 0 ≤ k then v * 2 ^ k.toNat else Int.fdiv v (2 ^ (-k).toNat)

/-- One chunk of block pairs (R45, R46, R49, R50). -/
def chunkBlocks (fa : Nat) (A : BlkFmt) (fb : Nat) (B : BlkFmt) (pairs : List (Blk × Blk)) : Nat × Nat :=
  if pairs.any fun p => p.1.x = 255 ∨ p.2.x = 255 then (canonNaN 23, flNANIN)
  else
    let ek := fun (p : Blk × Blk) => (p.1.x : Int) + p.2.x - 254
    match maxExp (pairs.map fun p => if blkZero fa A p.1 || blkZero fb B p.2 then none else some (ek p)) with
    | none => (0, 0)
    | some anchor =>
      let lsb := anchor + A.h + B.h - 84
      let sum := pairs.foldl (fun s p => s + shiftFloor (pairSum fa A fb B p.1 p.2) (ek p + A.q + B.q - lsb)) 0
      encodeInt .rne sum lsb false

/-- Exponent of an SF16 element under R48: unbiased, -126 for subnormals. -/
def exp16 : FVal → Int
  | .fin _ _ e => e + 7
  | _ => 0

/-- One chunk of SF16 element pairs (R48 to R50).  A NaN among the operands sets NANIN alone, whatever products stand beside it
(log entry 80). -/
def chunkScalars (pairs : List (FVal × FVal)) : Nat × Nat :=
  if pairs.any fun p => p.1 = .nan ∨ p.2 = .nan then (canonNaN 23, flNANIN)
  else
    let infs := pairs.map fun p => match p.1, p.2 with
      | .inf s, .inf t => some (some (s ^^ t))
      | .inf s, .fin t m _ | .fin t m _, .inf s => if m = 0 then some none else some (some (s ^^ t))
      | _, _ => none
    let hits := infs.filterMap id
    if hits ≠ [] then
      if hits.any (· = none) then (canonNaN 23, flINV)
      else if hits.all (· = some true) then (infCode 23 true, 0)
      else if hits.all (· = some false) then (infCode 23 false, 0)
      else (canonNaN 23, flINV)
    else
      match maxExp (pairs.map fun p => if isZeroV p.1 || isZeroV p.2 then none else some (exp16 p.1 + exp16 p.2)) with
      | none => (0, 0)
      | some anchor =>
        let lsb := anchor - 82
        let sum := pairs.foldl (fun s p => match p.1, p.2 with
          | .fin sa m e, .fin sb n f =>
            let v : Int := if sa ^^ sb then -((m * n : Nat) : Int) else (m * n : Nat)
            s + shiftFloor v (e + f - lsb)
          | _, _ => s) 0
        encodeInt .rne sum lsb false

/-- An exponent-list entry of a block (R68). -/
def listEntry (fmt : Nat) (f : BlkFmt) (b : Blk) : Nat := b.x + (if blkZero fmt f b then 256 else 0)

/-- Sum or maximum over lanes in the fixed pairwise tree of R71; `n` levels over `2^n` lanes. -/
def laneTree (op : Nat → Nat → Nat × Nat) : Nat → List Nat → Nat × Nat
  | 0, l => ((l.head?).getD 0, 0)
  | n + 1, l =>
    let half := (List.range (l.length / 2)).map fun i => op ((l[2 * i]?).getD 0) ((l[2 * i + 1]?).getD 0)
    let r := laneTree op n (half.map Prod.fst)
    (r.1, half.foldl (fun a h => a ||| h.2) r.2)

/-- Max on SF32 words. -/
def maxW (a b : Nat) : Nat × Nat :=
  let r := maxV (fvalOf 23 a) (fvalOf 23 b)
  ((encodeV 23 .rne r.1).1, r.2)

/-- The segment an input uses (R72): `t = (x - lo) * inv` in SF32, floored and clamped to 0..255; none where `t` is
a NaN.  With it the flags of the two operations. -/
def actIndex (lo inv : Nat) (v : FVal) : Option Nat × Nat :=
  let d := addV v (negV (fvalOf 23 lo))
  let t := mulV (fvalOf 23 d.1) (fvalOf 23 inv)
  let i : Option Nat := match fvalOf 23 t.1 with
    | .nan => none
    | .inf neg => some (if neg then 0 else 255)
    | .fin neg m e => some (if neg then 0 else min 255 (if 0 ≤ e then m * 2 ^ e.toNat else m / 2 ^ (-e).toNat))
  (i, d.2 ||| t.2)

/-- The value of segment `i` at `v` (R72): `fma(s_i, v, c_i)`. -/
def actAt (seg : List (Nat × Nat)) (i : Nat) (v : FVal) : Nat × Nat :=
  let sc := (seg[i]?).getD (0, 0)
  fmaV (fvalOf 23 sc.1) v (fvalOf 23 sc.2)

/-- An activation value (R72) where `pick` answers the segment of an input whose `t` is a NaN. -/
def actLookup (pick : Nat) (seg : List (Nat × Nat)) (lo inv : Nat) (x : Nat) : Nat × Nat :=
  match fvalOf 23 x with
  | .nan => (canonNaN 23, flNANIN)
  | v =>
    let i := actIndex lo inv v
    let r := actAt seg (i.1.getD pick) v
    (r.1, i.2 ||| r.2)

/-- Relative error of `y` as reciprocal of `x` at most 2^-22: |x*y - 1| ≤ 2^-22 (R71). -/
def recipOk (x y : FVal) : Bool :=
  match x, y with
  | .fin s m e, .fin t n f =>
    let q := min (e + f) (-22)
    let one : Int := 2 ^ (-q).toNat
    let p := fixAt (s ^^ t) (m * n) (e + f) q
    (p - one).natAbs ≤ 2 ^ (-22 - q).toNat
  | _, _ => false

/-- Relative error of `y` as reciprocal square root of `x` at most 2^-22:
(1 - 2^-22)^2 ≤ x*y^2 ≤ (1 + 2^-22)^2 with y positive. -/
def rsqrtOk (x y : FVal) : Bool :=
  match x, y with
  | .fin false m e, .fin false n f =>
    let q := min (e + f + f) (-44)
    let p := fixAt false (m * n * n) (e + f + f) q
    let u : Int := 2 ^ (-44 - q).toNat
    (2 ^ 22 - 1) ^ 2 * u ≤ p && p ≤ (2 ^ 22 + 1) ^ 2 * u
  | _, _ => false

/-- Integer square root by bisection on `k` bits. -/
def isqrt (n : Nat) : Nat := Nat.sqrt n

/-- A first approximation of a reciprocal (0) or reciprocal square root (1) as an SF32 word: the words near
it that meet the bound of R71 are the values the hardware may give. -/
def recipSeed (k : Nat) : FVal → Nat
  | .fin s m e =>
    if m = 0 then 0
    else if k = 0 then (encodeF 23 .rne s (2 ^ 60 * 2 ^ 60 / m) (-120 - e)).1
    else
      -- m*2^e = m' * 4^g with m' scaled up by 2^60 or 2^61
      let odd := e % 2
      let m' := if odd = 0 then m else 2 * m
      let g := (e - odd) / 2
      (encodeF 23 .rne false (isqrt (2 ^ 200 / m')) (-100 - g)).1
  | _ => 0

/-- The SF32 words the bound of R71 allows as reciprocal (0) or reciprocal square root (1) of `x`. -/
def recipChoices (k : Nat) (x : FVal) : List Nat :=
  let c := recipSeed k x
  ((List.range 9).map fun d => c + d - 4).filter fun w =>
    let y := fvalOf 23 w
    if k = 0 then recipOk x y else rsqrtOk x y

/-- Whether `y` is exactly the reciprocal of the finite `x`. -/
def recipExact (x y : FVal) : Bool :=
  match x, y with
  | .fin _ m e, .fin _ n f => m * n * 2 ^ (e + f).toNat = 2 ^ (-(e + f)).toNat
  | _, _ => false

/-- A result word `w` of operation `k` on the non-NaN operand `x` with its flags (R62): a NaN is canonical (R35) and
sets INV, an infinity from a finite non-zero operand sets OVF, an inexact reciprocal whose exact value is below
2^-126 sets UNF.  An infinity from a zero operand sets no flag (log entry 13). -/
def recipFlags (k : Nat) (x : FVal) (w : Nat) : Nat × Nat :=
  match fvalOf 23 w, x with
  | .nan, _ => (canonNaN 23, flINV)
  | .inf _, .fin _ m _ => (w, if m = 0 then 0 else flOVF)
  | .fin n m e, .fin a b c =>
    (w, if k = 0 ∧ b ≠ 0 ∧ 126 ≤ topExp b c ∧ !(b = 2 ^ (126 - c).toNat ∧ topExp b c = 126)
        ∧ !(recipExact (.fin a b c) (.fin n m e)) then flUNF else 0)
  | _, _ => (w, 0)

end Sys2Proof.Machine
end

