-- ==== Sys2Proof/Config.lean ====
section
/-! DEFINITION.  What the spec leaves open or takes from a named standard without giving its text:
constants with no body, so that no proof can see a value of them. -/

namespace Sys2Proof.Config

/-- The free values (log entry 4): the k-th value the machine takes where the spec states none. -/
opaque freeNat : Nat → Nat

/-- SHA-384 (R238 to R250; the algorithm is named, its text is not in the spec; log entry 10). -/
opaque sha384 : List Byte → List Byte

/-- ECDSA verification on P-384 (R116, R242, R244, R261): public key in SEC1 form, digest, signature r then s. -/
opaque ecdsaVerify : List Byte → List Byte → List Byte → Bool

/-- AES-256-GCM opening (R250, R254): key, nonce, additional data, ciphertext, tag; the plaintext when the
tag verifies. -/
opaque gcmOpen : List Byte → List Byte → List Byte → List Byte → List Byte → Option (List Byte)

/-- ECDSA signing on P-384 (R240, R247): private key, digest; the signature r then s. -/
opaque ecdsaSign : List Byte → List Byte → List Byte

/-- ECDH on P-384 (R250): private key, the other end's public key; the 48-byte x-coordinate, nothing when that key is not on
the curve. -/
opaque ecdhX : List Byte → List Byte → Option (List Byte)

/-- The seed the PUF reconstruction of R238 gives from a reading and helper data. -/
opaque pufSeed : List Byte → List Byte → List Byte

/-- Subject name and key identifier of a certificate (R247), as DER. -/
opaque certSubject : List Byte → List Byte
opaque certKeyId : List Byte → List Byte

/-- SHA-384 of the boot ROM's content (R248). -/
opaque romDigest : List Byte

/-- The public key of a private key (R240, R247). -/
opaque publicKey : List Byte → List Byte

/-- The firmware root-key hash held in the boot ROM (R242). -/
opaque romKeyHash : List Byte

/-- Holtier's MIPI manufacturer ID (R487; no number is given for it). -/
opaque manufacturerId : BitVec 15

/-- Hops of a non-minimal path beyond the minimal count (R188; the entry states none; log entry 30). -/
opaque nmHops : Nat → Nat

/-- The torus ring a port serves, 0 for none (R184, R189; the spec does not say how a module is told; log entry 70). -/
opaque portRing : Nat → Nat

/-- Whether two lines of a stack lie in one row (R138; the spec gives no row mapping; log entry 7): stack, the two line
numbers. -/
opaque sameRow : Nat → Nat → Nat → Bool

/-- AES-256-XTS encryption of one line (R140; the algorithm is named, its text is not in the spec): the 512-bit key, the
128-bit tweak, the 64 bytes. -/
opaque xtsLine : Nat → Nat → List Byte → List Byte

/-- Heat coefficient of water k(θi, θo) in kWh/(m³·K) (R391; from EN 1434-1, whose tables are not in the spec; log
entry 44). -/
opaque waterK : Rat → Rat → Rat

/-- Heat coefficient of 25 % propylene glycol (R393; its table is not in the spec; log entry 44). -/
opaque glycolK : Rat → Rat → Rat

end Sys2Proof.Config
end

