-- ==== Sys2Proof/Machine/Regs.lean ====
section
/-! DEFINITION.  The register map of the module: every register the spec's field tables name, with
its block, its offset formula, its instance count, and its fields with their access types and reset
values (R8 to R15, R485, and the register tables of every chapter). -/

namespace Sys2Proof.Machine

/-- The blocks of the management space in the order of R485; the position is the BLOCK number. -/
inductive Block where
  | SYS | IRQ | PWR | TIM | CFG | REC | SEC | CLE | CIO | CLN | MTR | FAB | ETH | MEM | CLU
  deriving DecidableEq, Repr

/-- The access types of R9. -/
inductive Acc where
  | RO | RW | W1C | W1S | WO
  deriving DecidableEq, Repr

/-- One constructor for each register (or array of replicated registers) of the spec's tables. -/
inductive Reg where
  | SYS_ID | SYS_FWVER | SYS_RESET | SYS_CAUSE | SYS_CAUSE_IE | SYS_CLK | SYS_SERIAL | SYS_I3C_STAT
  | SYS_SCRATCH | IRQ_SUM | IRQ_MGMT_EN | IRQ_TRAY_PEND | IRQ_TRAY_EN | IRQ_PIN | IRQ_INST_FAB
  | IRQ_INST_ETH | IRQ_INST_MEM | IRQ_INST_CLU0 | IRQ_INST_CLU1 | IRQ_INST_CLU2 | PWR_GEAR_STAT
  | PWR_GEAR_REQ | PWR_CADENCE | PWR_CAD_SEL | PWR_CAD_CLU | PWR_TJ | PWR_TJ_WARN | PWR_CAP_CFG
  | PWR_CAP_TRAY | PWR_CAP_ROW | PWR_CAP_EFF | PWR_INPUT | PWR_VCORE_ILIM | PWR_LIM_CFG | PWR_LIM_CNT
  | PWR_CAUSE | PWR_CAUSE_IE | PWR_TRIP | PWR_PS_STAT | PWR_PS_REQ | PWR_PS_CFG | PWR_VOTE
  | PWR_PS_CAUSE | PWR_PS_CAUSE_IE | PWR_HS_STAT | PWR_FW_CFG | PWR_FW_THR | PWR_WAKE_SRC | TIM_NOW_LO
  | TIM_NOW_HI | TIM_STAT | TIM_CTL | TIM_SET_LO | TIM_SET_HI | TIM_UTC | TIM_RATE | TIM_OPTIME
  | TIM_CYCLES | TIM_CAUSE | TIM_CAUSE_IE | CFG_STAT | CFG_CAUSE | CFG_CAUSE_IE | CFG_TRAY | CFG_HB
  | CFG_ALIVE | CFG_WDOG | CFG_PERMIT_CFG | REC_STAT | REC_CTL | REC_CAUSE | REC_CAUSE_IE
  | REC_LOST_CNT | REC_FIRST_SEQ | REC_LAST_SEQ | REC_CUR_CTL | REC_CUR_SEQ | REC_CUR_STAT | REC_WIN
  | SEC_STATE | SEC_SVN | SEC_CAUSE | SEC_CAUSE_IE | SEC_AF_CNT | SEC_AF_LAST | SEC_AF_ADDR_LO
  | SEC_AF_ADDR_HI | SEC_SCRUB_BUSY | SEC_SCRUB_LAST | SEC_KSLOT | SEC_AT_SEL | SEC_AT_BASE_LO
  | SEC_AT_BASE_HI | SEC_AT_LIMIT_LO | SEC_AT_LIMIT_HI | SEC_AT_RIGHTS | SEC_ADMIT_MOD | SEC_ADMIT_PART
  | SEC_SEAL_BASE | SEC_SEAL_END | CLE_CTL | CLE_CAUSE | CLE_CAUSE_IE | CLE_SLOT_FAULT | CLE_SLOT_DEGR
  | CLE_REP_SRC | CLE_REP_STAT | CLE_GRP_STAT | CLE_SLOT_CFG | CLE_SLOT_IO | CLE_SLOT_STAT
  | CLE_SLOT_FE | CLE_SLOT_REP | CLE_SLOT_W_A | CLE_SLOT_W_B | CLE_SLOT_W_W | CLE_SLOT_W_BAND
  | CLE_SLOT_W_KP | CLE_SLOT_W_KI | CLE_SLOT_W_KD | CLE_SLOT_W_DF | CLE_SLOT_W_KT | CLE_SLOT_W_KFF
  | CLE_SLOT_W_BIAS | CLE_SLOT_W_UMIN | CLE_SLOT_W_UMAX | CLE_SLOT_W_FE_LIM | CLE_SLOT_W_SAFE
  | CLE_SLOT_W_VLIM | CLE_SLOT_W_ALIM | CLE_SLOT_W_JLIM | CLE_SLOT_W_GAIN | CLE_SLOT_W_FORGET
  | CLE_SLOT_W_LPF | CLE_SLOT_Y | CLE_SLOT_U | CLE_SLOT_I | CLE_TRC_CFG | CLE_TRC_NODE | CLE_TRC_THR
  | CLE_TRC_STAT | CLE_TRC_CUR | CLE_TRC_DATA | CLE_REP_TABLE | CIO_STAT | CIO_CAUSE | CIO_CAUSE_IE
  | CIO_PWM_CFG | CIO_PWM_STAT | CIO_PWM_CLR | CIO_AO_CFG | CIO_AI_CFG | CIO_DI_CFG | CIO_DI_STAT
  | CIO_DO_CFG | CIO_LEAK_CFG | CIO_LEAK_CTL | CIO_LEAK_STAT | CIO_SENS_STAT | CIO_HB_CFG | CIO_HB_STAT
  | CIO_CH_AO | CIO_CH_PWM | CIO_CH_AI | CIO_CH_TACH | CIO_CH_PT | CIO_CH_TEMP | CIO_CH_PRESS
  | CIO_CH_FLOW | CIO_CH_HB | CLN_CH_CFG | CLN_NBT | CLN_DBT | CLN_CH_STAT | SUPERSEDED | DUPLICATE
  | RX_DROP | IGNORED | BUSOFF_CNT | CLN_RXQ_STAT | CLN_RXQ_CUR | CLN_RXQ_ACK | CLN_RXWIN | CLN_CTL
  | CLN_TIME | CLN_CAUSE | CLN_CAUSE_IE | CLN_RXQ_MASK_LO | CLN_RXQ_MASK_HI | CLN_EVQ_ID | CLN_EVQ_LEN
  | CLN_EVQ_CMD | CLN_EVQ_BUSY | CLN_EVQ_DATA | CLN_SCHED | CLN_TXMAP | CLN_RXMAP | ROW_CFG | ROW_STAT
  | ROW_CMD | ROW_CAUSE | ROW_CAUSE_IE | ROW_GATED_CNT | ROW_BUDGET | ROW_HEAT_CFG | ROW_HEAT_CFG2
  | ROW_SRC | ROW_SLOTS | ROW_PUMP_CFG | ROW_PUMP | ROW_MEMBER | MTR_STAT | MTR_CAUSE | MTR_CAUSE_IE
  | MTR_LINK_CNT | MTR_SNAP_FLOW | MTR_SNAP_TEMP | MTR_SNAP_PWR | MTR_SNAP_STATUS | MTR_SNAP_STAMP
  | MTR_REQ | MTR_RESP | FAB_PORT_CFG | FAB_PORT_STAT | FAB_PORT_CMD | FAB_PORT_CAUSE
  | FAB_PORT_CAUSE_IE | FAB_PORT_VCBUF | FAB_PORT_ARB | FAB_LINK_STAT | FAB_LINK_PEER
  | FAB_LINK_REPLAY_CNT | FAB_LINK_DOWN_CNT | FAB_LANE_STAT | FAB_LANE_FEC_CE | FAB_LANE_FEC_UE
  | FAB_TR_ID | FAB_TR_CTL | FAB_TR_CAUSE | FAB_TR_CAUSE_IE | FAB_RT_CTL | FAB_RT_EPOCH
  | FAB_TR_LAST_STALL | FAB_TR_RETX_CNT | FAB_TR_DROP_CNT | FAB_MOD_SEL | FAB_MOD_STAT
  | FAB_COLL_BUSY_LO | FAB_COLL_BUSY_HI | FAB_ROUTE_LO | FAB_ROUTE_HI | ETH_PORT_CFG | ETH_PORT_STAT
  | ETH_PORT_CAUSE | ETH_PORT_CAUSE_IE | ETH_PORT_DROP_CNT | ETH_PORT_SECERR_CNT | ETH_PORT_CNP_CNT
  | ETH_PTP_CFG | ETH_VLAN | ETH_IPADDR0 | ETH_IPADDR1 | ETH_IPADDR2 | ETH_IPADDR3 | ETH_MW_BASE_LO
  | ETH_MW_BASE_HI | ETH_MW_LEN | ETH_MW_CTL | ETH_DB_TAG | ETH_QP_BIND | ETH_QP_DQPN | ETH_QP_SPSN
  | ETH_QP_RPSN | ETH_QP_DGID0 | ETH_QP_DGID1 | ETH_QP_DGID2 | ETH_QP_DGID3 | ETH_QP_DMAC_LO
  | ETH_QP_DMAC_HI | ETH_QP_PARAM | ETH_QP_STAT | ETH_RING_BASE_LO | ETH_RING_BASE_HI | ETH_RING_CTL
  | ETH_RING_PI | ETH_RING_CI | ETH_RING_DONE | ETH_CQ_BASE_LO | ETH_CQ_BASE_HI | ETH_CQ_CI
  | ETH_RING_STAT | ETH_PART_STATE | ETH_PART_CKPT_LO | ETH_PART_CKPT_HI | MEM_ID | MEM_STATE
  | MEM_CAUSE | MEM_CAUSE_IE | MEM_CE_CNT | MEM_UE_CNT | MEM_UE_ADDR_LO | MEM_UE_ADDR_HI
  | MEM_SCRUB_CTL | MEM_SPARE_CTL | MEM_SPARE_STAT | MEM_SWEEP_CTL | MEM_PART_SET | MEM_PART_BASE
  | MEM_PART_FRAMES | MEM_PART_LEND | MEM_ROT_CTL | MEM_ROT_OLDCNT | MEM_LEND_OFFER | MEM_LEND_OUT
  | CLU_ID | CLU_STATE | CLU_ENG_MAP | CLU_CAUSE | CLU_CAUSE_IE | CLU_STORE_CE_CNT | CLU_STORE_UE_ADDR
  | CLU_WDOG | CLU_STALL | CLU_TOK_SEL | CLU_TOK_READ | CLU_BOB_STAT | CLU_ARITH_STAT
  | CLU_ARITH_RELAX_CNT | CLU_ARITH_IE
  deriving DecidableEq, Repr

/-- A named field of a register: the register and the field's end bits. -/
structure Fld where
  reg : Reg
  hi : Nat
  lo : Nat
  deriving DecidableEq, Repr

/-- One row of a field table: end bits, access type and reset value. -/
structure FieldSpec where
  hi : Nat
  lo : Nat
  acc : Acc
  rst : Nat
  deriving DecidableEq, Repr

/-- Where a register stands: instance `i` lies at
`off + (i / inner) * outerStep + (i % inner) * innerStep` from its block's base, `i < count`. -/
structure RegInfo where
  block : Block
  off : Nat
  count : Nat
  inner : Nat
  outerStep : Nat
  innerStep : Nat
  deriving DecidableEq, Repr

/-- The address map of every register (the offset tables of each chapter). -/
def Reg.info : Reg → RegInfo
  | .SYS_ID => ⟨.SYS, 0x0, 1, 1, 0x0, 0x0⟩
  | .SYS_FWVER => ⟨.SYS, 0x4, 1, 1, 0x0, 0x0⟩
  | .SYS_RESET => ⟨.SYS, 0x8, 1, 1, 0x0, 0x0⟩
  | .SYS_CAUSE => ⟨.SYS, 0x10, 1, 1, 0x0, 0x0⟩
  | .SYS_CAUSE_IE => ⟨.SYS, 0x14, 1, 1, 0x0, 0x0⟩
  | .SYS_CLK => ⟨.SYS, 0x18, 1, 1, 0x0, 0x0⟩
  | .SYS_SERIAL => ⟨.SYS, 0x20, 4, 1, 0x4, 0x0⟩
  | .SYS_I3C_STAT => ⟨.SYS, 0x30, 1, 1, 0x0, 0x0⟩
  | .SYS_SCRATCH => ⟨.SYS, 0x34, 1, 1, 0x0, 0x0⟩
  | .IRQ_SUM => ⟨.IRQ, 0x0, 1, 1, 0x0, 0x0⟩
  | .IRQ_MGMT_EN => ⟨.IRQ, 0x4, 1, 1, 0x0, 0x0⟩
  | .IRQ_TRAY_PEND => ⟨.IRQ, 0x10, 1, 1, 0x0, 0x0⟩
  | .IRQ_TRAY_EN => ⟨.IRQ, 0x14, 1, 1, 0x0, 0x0⟩
  | .IRQ_PIN => ⟨.IRQ, 0x18, 1, 1, 0x0, 0x0⟩
  | .IRQ_INST_FAB => ⟨.IRQ, 0x40, 1, 1, 0x0, 0x0⟩
  | .IRQ_INST_ETH => ⟨.IRQ, 0x44, 1, 1, 0x0, 0x0⟩
  | .IRQ_INST_MEM => ⟨.IRQ, 0x48, 1, 1, 0x0, 0x0⟩
  | .IRQ_INST_CLU0 => ⟨.IRQ, 0x50, 1, 1, 0x0, 0x0⟩
  | .IRQ_INST_CLU1 => ⟨.IRQ, 0x54, 1, 1, 0x0, 0x0⟩
  | .IRQ_INST_CLU2 => ⟨.IRQ, 0x58, 1, 1, 0x0, 0x0⟩
  | .PWR_GEAR_STAT => ⟨.PWR, 0x0, 1, 1, 0x0, 0x0⟩
  | .PWR_GEAR_REQ => ⟨.PWR, 0x4, 1, 1, 0x0, 0x0⟩
  | .PWR_CADENCE => ⟨.PWR, 0x8, 1, 1, 0x0, 0x0⟩
  | .PWR_CAD_SEL => ⟨.PWR, 0xC, 1, 1, 0x0, 0x0⟩
  | .PWR_CAD_CLU => ⟨.PWR, 0x10, 1, 1, 0x0, 0x0⟩
  | .PWR_TJ => ⟨.PWR, 0x14, 1, 1, 0x0, 0x0⟩
  | .PWR_TJ_WARN => ⟨.PWR, 0x18, 1, 1, 0x0, 0x0⟩
  | .PWR_CAP_CFG => ⟨.PWR, 0x20, 1, 1, 0x0, 0x0⟩
  | .PWR_CAP_TRAY => ⟨.PWR, 0x24, 1, 1, 0x0, 0x0⟩
  | .PWR_CAP_ROW => ⟨.PWR, 0x28, 1, 1, 0x0, 0x0⟩
  | .PWR_CAP_EFF => ⟨.PWR, 0x2C, 1, 1, 0x0, 0x0⟩
  | .PWR_INPUT => ⟨.PWR, 0x30, 1, 1, 0x0, 0x0⟩
  | .PWR_VCORE_ILIM => ⟨.PWR, 0x34, 1, 1, 0x0, 0x0⟩
  | .PWR_LIM_CFG => ⟨.PWR, 0x38, 1, 1, 0x0, 0x0⟩
  | .PWR_LIM_CNT => ⟨.PWR, 0x3C, 1, 1, 0x0, 0x0⟩
  | .PWR_CAUSE => ⟨.PWR, 0x40, 1, 1, 0x0, 0x0⟩
  | .PWR_CAUSE_IE => ⟨.PWR, 0x44, 1, 1, 0x0, 0x0⟩
  | .PWR_TRIP => ⟨.PWR, 0x48, 1, 1, 0x0, 0x0⟩
  | .PWR_PS_STAT => ⟨.PWR, 0x100, 1, 1, 0x0, 0x0⟩
  | .PWR_PS_REQ => ⟨.PWR, 0x104, 1, 1, 0x0, 0x0⟩
  | .PWR_PS_CFG => ⟨.PWR, 0x108, 1, 1, 0x0, 0x0⟩
  | .PWR_VOTE => ⟨.PWR, 0x10C, 1, 1, 0x0, 0x0⟩
  | .PWR_PS_CAUSE => ⟨.PWR, 0x110, 1, 1, 0x0, 0x0⟩
  | .PWR_PS_CAUSE_IE => ⟨.PWR, 0x114, 1, 1, 0x0, 0x0⟩
  | .PWR_HS_STAT => ⟨.PWR, 0x118, 1, 1, 0x0, 0x0⟩
  | .PWR_FW_CFG => ⟨.PWR, 0x11C, 1, 1, 0x0, 0x0⟩
  | .PWR_FW_THR => ⟨.PWR, 0x120, 1, 1, 0x0, 0x0⟩
  | .PWR_WAKE_SRC => ⟨.PWR, 0x124, 1, 1, 0x0, 0x0⟩
  | .TIM_NOW_LO => ⟨.TIM, 0x0, 1, 1, 0x0, 0x0⟩
  | .TIM_NOW_HI => ⟨.TIM, 0x4, 1, 1, 0x0, 0x0⟩
  | .TIM_STAT => ⟨.TIM, 0x8, 1, 1, 0x0, 0x0⟩
  | .TIM_CTL => ⟨.TIM, 0xC, 1, 1, 0x0, 0x0⟩
  | .TIM_SET_LO => ⟨.TIM, 0x10, 1, 1, 0x0, 0x0⟩
  | .TIM_SET_HI => ⟨.TIM, 0x14, 1, 1, 0x0, 0x0⟩
  | .TIM_UTC => ⟨.TIM, 0x18, 1, 1, 0x0, 0x0⟩
  | .TIM_RATE => ⟨.TIM, 0x1C, 1, 1, 0x0, 0x0⟩
  | .TIM_OPTIME => ⟨.TIM, 0x20, 1, 1, 0x0, 0x0⟩
  | .TIM_CYCLES => ⟨.TIM, 0x24, 1, 1, 0x0, 0x0⟩
  | .TIM_CAUSE => ⟨.TIM, 0x30, 1, 1, 0x0, 0x0⟩
  | .TIM_CAUSE_IE => ⟨.TIM, 0x34, 1, 1, 0x0, 0x0⟩
  | .CFG_STAT => ⟨.CFG, 0x0, 1, 1, 0x0, 0x0⟩
  | .CFG_CAUSE => ⟨.CFG, 0x10, 1, 1, 0x0, 0x0⟩
  | .CFG_CAUSE_IE => ⟨.CFG, 0x14, 1, 1, 0x0, 0x0⟩
  | .CFG_TRAY => ⟨.CFG, 0x20, 1, 1, 0x0, 0x0⟩
  | .CFG_HB => ⟨.CFG, 0x24, 1, 1, 0x0, 0x0⟩
  | .CFG_ALIVE => ⟨.CFG, 0x28, 1, 1, 0x0, 0x0⟩
  | .CFG_WDOG => ⟨.CFG, 0x30, 1, 1, 0x0, 0x0⟩
  | .CFG_PERMIT_CFG => ⟨.CFG, 0x34, 1, 1, 0x0, 0x0⟩
  | .REC_STAT => ⟨.REC, 0x0, 1, 1, 0x0, 0x0⟩
  | .REC_CTL => ⟨.REC, 0x4, 1, 1, 0x0, 0x0⟩
  | .REC_CAUSE => ⟨.REC, 0x10, 1, 1, 0x0, 0x0⟩
  | .REC_CAUSE_IE => ⟨.REC, 0x14, 1, 1, 0x0, 0x0⟩
  | .REC_LOST_CNT => ⟨.REC, 0x20, 1, 1, 0x0, 0x0⟩
  | .REC_FIRST_SEQ => ⟨.REC, 0x24, 1, 1, 0x0, 0x0⟩
  | .REC_LAST_SEQ => ⟨.REC, 0x28, 1, 1, 0x0, 0x0⟩
  | .REC_CUR_CTL => ⟨.REC, 0x100, 2, 1, 0x80, 0x0⟩
  | .REC_CUR_SEQ => ⟨.REC, 0x104, 2, 1, 0x80, 0x0⟩
  | .REC_CUR_STAT => ⟨.REC, 0x108, 2, 1, 0x80, 0x0⟩
  | .REC_WIN => ⟨.REC, 0x140, 32, 16, 0x80, 0x4⟩
  | .SEC_STATE => ⟨.SEC, 0x0, 1, 1, 0x0, 0x0⟩
  | .SEC_SVN => ⟨.SEC, 0x4, 1, 1, 0x0, 0x0⟩
  | .SEC_CAUSE => ⟨.SEC, 0x10, 1, 1, 0x0, 0x0⟩
  | .SEC_CAUSE_IE => ⟨.SEC, 0x14, 1, 1, 0x0, 0x0⟩
  | .SEC_AF_CNT => ⟨.SEC, 0x20, 1, 1, 0x0, 0x0⟩
  | .SEC_AF_LAST => ⟨.SEC, 0x24, 1, 1, 0x0, 0x0⟩
  | .SEC_AF_ADDR_LO => ⟨.SEC, 0x28, 1, 1, 0x0, 0x0⟩
  | .SEC_AF_ADDR_HI => ⟨.SEC, 0x2C, 1, 1, 0x0, 0x0⟩
  | .SEC_SCRUB_BUSY => ⟨.SEC, 0x30, 1, 1, 0x0, 0x0⟩
  | .SEC_SCRUB_LAST => ⟨.SEC, 0x34, 1, 1, 0x0, 0x0⟩
  | .SEC_KSLOT => ⟨.SEC, 0x100, 16, 1, 0x4, 0x0⟩
  | .SEC_AT_SEL => ⟨.SEC, 0x200, 1, 1, 0x0, 0x0⟩
  | .SEC_AT_BASE_LO => ⟨.SEC, 0x204, 1, 1, 0x0, 0x0⟩
  | .SEC_AT_BASE_HI => ⟨.SEC, 0x208, 1, 1, 0x0, 0x0⟩
  | .SEC_AT_LIMIT_LO => ⟨.SEC, 0x20C, 1, 1, 0x0, 0x0⟩
  | .SEC_AT_LIMIT_HI => ⟨.SEC, 0x210, 1, 1, 0x0, 0x0⟩
  | .SEC_AT_RIGHTS => ⟨.SEC, 0x214, 1, 1, 0x0, 0x0⟩
  | .SEC_ADMIT_MOD => ⟨.SEC, 0x400, 64, 1, 0x8, 0x0⟩
  | .SEC_ADMIT_PART => ⟨.SEC, 0x404, 64, 1, 0x8, 0x0⟩
  | .SEC_SEAL_BASE => ⟨.SEC, 0x800, 256, 1, 0x8, 0x0⟩
  | .SEC_SEAL_END => ⟨.SEC, 0x804, 256, 1, 0x8, 0x0⟩
  | .CLE_CTL => ⟨.CLE, 0x0, 1, 1, 0x0, 0x0⟩
  | .CLE_CAUSE => ⟨.CLE, 0x10, 1, 1, 0x0, 0x0⟩
  | .CLE_CAUSE_IE => ⟨.CLE, 0x14, 1, 1, 0x0, 0x0⟩
  | .CLE_SLOT_FAULT => ⟨.CLE, 0x20, 1, 1, 0x0, 0x0⟩
  | .CLE_SLOT_DEGR => ⟨.CLE, 0x24, 1, 1, 0x0, 0x0⟩
  | .CLE_REP_SRC => ⟨.CLE, 0x30, 1, 1, 0x0, 0x0⟩
  | .CLE_REP_STAT => ⟨.CLE, 0x34, 1, 1, 0x0, 0x0⟩
  | .CLE_GRP_STAT => ⟨.CLE, 0x40, 8, 1, 0x4, 0x0⟩
  | .CLE_SLOT_CFG => ⟨.CLE, 0x1000, 32, 1, 0x80, 0x0⟩
  | .CLE_SLOT_IO => ⟨.CLE, 0x1004, 32, 1, 0x80, 0x0⟩
  | .CLE_SLOT_STAT => ⟨.CLE, 0x1008, 32, 1, 0x80, 0x0⟩
  | .CLE_SLOT_FE => ⟨.CLE, 0x100C, 32, 1, 0x80, 0x0⟩
  | .CLE_SLOT_REP => ⟨.CLE, 0x1010, 32, 1, 0x80, 0x0⟩
  | .CLE_SLOT_W_A => ⟨.CLE, 0x1020, 32, 1, 0x80, 0x0⟩
  | .CLE_SLOT_W_B => ⟨.CLE, 0x1024, 32, 1, 0x80, 0x0⟩
  | .CLE_SLOT_W_W => ⟨.CLE, 0x1028, 32, 1, 0x80, 0x0⟩
  | .CLE_SLOT_W_BAND => ⟨.CLE, 0x102C, 32, 1, 0x80, 0x0⟩
  | .CLE_SLOT_W_KP => ⟨.CLE, 0x1030, 32, 1, 0x80, 0x0⟩
  | .CLE_SLOT_W_KI => ⟨.CLE, 0x1034, 32, 1, 0x80, 0x0⟩
  | .CLE_SLOT_W_KD => ⟨.CLE, 0x1038, 32, 1, 0x80, 0x0⟩
  | .CLE_SLOT_W_DF => ⟨.CLE, 0x103C, 32, 1, 0x80, 0x0⟩
  | .CLE_SLOT_W_KT => ⟨.CLE, 0x1040, 32, 1, 0x80, 0x0⟩
  | .CLE_SLOT_W_KFF => ⟨.CLE, 0x1044, 32, 1, 0x80, 0x0⟩
  | .CLE_SLOT_W_BIAS => ⟨.CLE, 0x1048, 32, 1, 0x80, 0x0⟩
  | .CLE_SLOT_W_UMIN => ⟨.CLE, 0x104C, 32, 1, 0x80, 0x0⟩
  | .CLE_SLOT_W_UMAX => ⟨.CLE, 0x1050, 32, 1, 0x80, 0x0⟩
  | .CLE_SLOT_W_FE_LIM => ⟨.CLE, 0x1054, 32, 1, 0x80, 0x0⟩
  | .CLE_SLOT_W_SAFE => ⟨.CLE, 0x1058, 32, 1, 0x80, 0x0⟩
  | .CLE_SLOT_W_VLIM => ⟨.CLE, 0x105C, 32, 1, 0x80, 0x0⟩
  | .CLE_SLOT_W_ALIM => ⟨.CLE, 0x1060, 32, 1, 0x80, 0x0⟩
  | .CLE_SLOT_W_JLIM => ⟨.CLE, 0x1064, 32, 1, 0x80, 0x0⟩
  | .CLE_SLOT_W_GAIN => ⟨.CLE, 0x1068, 32, 1, 0x80, 0x0⟩
  | .CLE_SLOT_W_FORGET => ⟨.CLE, 0x106C, 32, 1, 0x80, 0x0⟩
  | .CLE_SLOT_W_LPF => ⟨.CLE, 0x1070, 32, 1, 0x80, 0x0⟩
  | .CLE_SLOT_Y => ⟨.CLE, 0x1074, 32, 1, 0x80, 0x0⟩
  | .CLE_SLOT_U => ⟨.CLE, 0x1078, 32, 1, 0x80, 0x0⟩
  | .CLE_SLOT_I => ⟨.CLE, 0x107C, 32, 1, 0x80, 0x0⟩
  | .CLE_TRC_CFG => ⟨.CLE, 0x2000, 4, 1, 0x40, 0x0⟩
  | .CLE_TRC_NODE => ⟨.CLE, 0x2004, 16, 4, 0x40, 0x4⟩
  | .CLE_TRC_THR => ⟨.CLE, 0x2014, 4, 1, 0x40, 0x0⟩
  | .CLE_TRC_STAT => ⟨.CLE, 0x2018, 4, 1, 0x40, 0x0⟩
  | .CLE_TRC_CUR => ⟨.CLE, 0x201C, 4, 1, 0x40, 0x0⟩
  | .CLE_TRC_DATA => ⟨.CLE, 0x2020, 4, 1, 0x40, 0x0⟩
  | .CLE_REP_TABLE => ⟨.CLE, 0x4000, 8192, 256, 0x400, 0x4⟩
  | .CIO_STAT => ⟨.CIO, 0x0, 1, 1, 0x0, 0x0⟩
  | .CIO_CAUSE => ⟨.CIO, 0x10, 1, 1, 0x0, 0x0⟩
  | .CIO_CAUSE_IE => ⟨.CIO, 0x14, 1, 1, 0x0, 0x0⟩
  | .CIO_PWM_CFG => ⟨.CIO, 0x20, 8, 1, 0x4, 0x0⟩
  | .CIO_PWM_STAT => ⟨.CIO, 0x40, 8, 1, 0x4, 0x0⟩
  | .CIO_PWM_CLR => ⟨.CIO, 0x60, 1, 1, 0x0, 0x0⟩
  | .CIO_AO_CFG => ⟨.CIO, 0x80, 4, 1, 0x4, 0x0⟩
  | .CIO_AI_CFG => ⟨.CIO, 0x90, 8, 1, 0x4, 0x0⟩
  | .CIO_DI_CFG => ⟨.CIO, 0xC0, 8, 1, 0x4, 0x0⟩
  | .CIO_DI_STAT => ⟨.CIO, 0xE0, 1, 1, 0x0, 0x0⟩
  | .CIO_DO_CFG => ⟨.CIO, 0xE4, 1, 1, 0x0, 0x0⟩
  | .CIO_LEAK_CFG => ⟨.CIO, 0x100, 5, 1, 0x4, 0x0⟩
  | .CIO_LEAK_CTL => ⟨.CIO, 0x114, 1, 1, 0x0, 0x0⟩
  | .CIO_LEAK_STAT => ⟨.CIO, 0x118, 1, 1, 0x0, 0x0⟩
  | .CIO_SENS_STAT => ⟨.CIO, 0x130, 1, 1, 0x0, 0x0⟩
  | .CIO_HB_CFG => ⟨.CIO, 0x134, 1, 1, 0x0, 0x0⟩
  | .CIO_HB_STAT => ⟨.CIO, 0x138, 1, 1, 0x0, 0x0⟩
  | .CIO_CH_AO => ⟨.CIO, 0x8000, 4, 1, 0x4, 0x0⟩
  | .CIO_CH_PWM => ⟨.CIO, 0x8020, 8, 1, 0x4, 0x0⟩
  | .CIO_CH_AI => ⟨.CIO, 0x8040, 8, 1, 0x4, 0x0⟩
  | .CIO_CH_TACH => ⟨.CIO, 0x8060, 8, 1, 0x4, 0x0⟩
  | .CIO_CH_PT => ⟨.CIO, 0x8080, 2, 1, 0x4, 0x0⟩
  | .CIO_CH_TEMP => ⟨.CIO, 0x8088, 4, 1, 0x4, 0x0⟩
  | .CIO_CH_PRESS => ⟨.CIO, 0x8098, 2, 1, 0x4, 0x0⟩
  | .CIO_CH_FLOW => ⟨.CIO, 0x80A0, 1, 1, 0x0, 0x0⟩
  | .CIO_CH_HB => ⟨.CIO, 0x80A4, 1, 1, 0x0, 0x0⟩
  | .CLN_CH_CFG => ⟨.CLN, 0x0, 2, 1, 0x100, 0x0⟩
  | .CLN_NBT => ⟨.CLN, 0x4, 2, 1, 0x100, 0x0⟩
  | .CLN_DBT => ⟨.CLN, 0x8, 2, 1, 0x100, 0x0⟩
  | .CLN_CH_STAT => ⟨.CLN, 0xC, 2, 1, 0x100, 0x0⟩
  | .SUPERSEDED => ⟨.CLN, 0x10, 2, 1, 0x100, 0x0⟩
  | .DUPLICATE => ⟨.CLN, 0x14, 2, 1, 0x100, 0x0⟩
  | .RX_DROP => ⟨.CLN, 0x18, 2, 1, 0x100, 0x0⟩
  | .IGNORED => ⟨.CLN, 0x1C, 2, 1, 0x100, 0x0⟩
  | .BUSOFF_CNT => ⟨.CLN, 0x20, 2, 1, 0x100, 0x0⟩
  | .CLN_RXQ_STAT => ⟨.CLN, 0x30, 2, 1, 0x100, 0x0⟩
  | .CLN_RXQ_CUR => ⟨.CLN, 0x34, 2, 1, 0x100, 0x0⟩
  | .CLN_RXQ_ACK => ⟨.CLN, 0x38, 2, 1, 0x100, 0x0⟩
  | .CLN_RXWIN => ⟨.CLN, 0x40, 38, 19, 0x100, 0x4⟩
  | .CLN_CTL => ⟨.CLN, 0x800, 1, 1, 0x0, 0x0⟩
  | .CLN_TIME => ⟨.CLN, 0x804, 1, 1, 0x0, 0x0⟩
  | .CLN_CAUSE => ⟨.CLN, 0x810, 1, 1, 0x0, 0x0⟩
  | .CLN_CAUSE_IE => ⟨.CLN, 0x814, 1, 1, 0x0, 0x0⟩
  | .CLN_RXQ_MASK_LO => ⟨.CLN, 0x818, 1, 1, 0x0, 0x0⟩
  | .CLN_RXQ_MASK_HI => ⟨.CLN, 0x81C, 1, 1, 0x0, 0x0⟩
  | .CLN_EVQ_ID => ⟨.CLN, 0xC00, 1, 1, 0x0, 0x0⟩
  | .CLN_EVQ_LEN => ⟨.CLN, 0xC04, 1, 1, 0x0, 0x0⟩
  | .CLN_EVQ_CMD => ⟨.CLN, 0xC08, 1, 1, 0x0, 0x0⟩
  | .CLN_EVQ_BUSY => ⟨.CLN, 0xC0C, 1, 1, 0x0, 0x0⟩
  | .CLN_EVQ_DATA => ⟨.CLN, 0xC40, 16, 1, 0x4, 0x0⟩
  | .CLN_SCHED => ⟨.CLN, 0x1000, 512, 1, 0x4, 0x0⟩
  | .CLN_TXMAP => ⟨.CLN, 0x1800, 64, 1, 0x4, 0x0⟩
  | .CLN_RXMAP => ⟨.CLN, 0x1900, 64, 1, 0x4, 0x0⟩
  | .ROW_CFG => ⟨.CLN, 0x8000, 1, 1, 0x0, 0x0⟩
  | .ROW_STAT => ⟨.CLN, 0x8004, 1, 1, 0x0, 0x0⟩
  | .ROW_CMD => ⟨.CLN, 0x8008, 1, 1, 0x0, 0x0⟩
  | .ROW_CAUSE => ⟨.CLN, 0x8010, 1, 1, 0x0, 0x0⟩
  | .ROW_CAUSE_IE => ⟨.CLN, 0x8014, 1, 1, 0x0, 0x0⟩
  | .ROW_GATED_CNT => ⟨.CLN, 0x8018, 1, 1, 0x0, 0x0⟩
  | .ROW_BUDGET => ⟨.CLN, 0x8020, 1, 1, 0x0, 0x0⟩
  | .ROW_HEAT_CFG => ⟨.CLN, 0x8024, 1, 1, 0x0, 0x0⟩
  | .ROW_HEAT_CFG2 => ⟨.CLN, 0x8028, 1, 1, 0x0, 0x0⟩
  | .ROW_SRC => ⟨.CLN, 0x802C, 1, 1, 0x0, 0x0⟩
  | .ROW_SLOTS => ⟨.CLN, 0x8030, 1, 1, 0x0, 0x0⟩
  | .ROW_PUMP_CFG => ⟨.CLN, 0x8034, 1, 1, 0x0, 0x0⟩
  | .ROW_PUMP => ⟨.CLN, 0x8080, 4, 1, 0x4, 0x0⟩
  | .ROW_MEMBER => ⟨.CLN, 0x8100, 96, 1, 0x4, 0x0⟩
  | .MTR_STAT => ⟨.MTR, 0x0, 1, 1, 0x0, 0x0⟩
  | .MTR_CAUSE => ⟨.MTR, 0x10, 1, 1, 0x0, 0x0⟩
  | .MTR_CAUSE_IE => ⟨.MTR, 0x14, 1, 1, 0x0, 0x0⟩
  | .MTR_LINK_CNT => ⟨.MTR, 0x20, 1, 1, 0x0, 0x0⟩
  | .MTR_SNAP_FLOW => ⟨.MTR, 0x8000, 1, 1, 0x0, 0x0⟩
  | .MTR_SNAP_TEMP => ⟨.MTR, 0x8004, 1, 1, 0x0, 0x0⟩
  | .MTR_SNAP_PWR => ⟨.MTR, 0x8008, 1, 1, 0x0, 0x0⟩
  | .MTR_SNAP_STATUS => ⟨.MTR, 0x800C, 1, 1, 0x0, 0x0⟩
  | .MTR_SNAP_STAMP => ⟨.MTR, 0x8010, 1, 1, 0x0, 0x0⟩
  | .MTR_REQ => ⟨.MTR, 0x8040, 1, 1, 0x0, 0x0⟩
  | .MTR_RESP => ⟨.MTR, 0x8080, 16, 1, 0x4, 0x0⟩
  | .FAB_PORT_CFG => ⟨.FAB, 0x0, 18, 1, 0x8000, 0x0⟩
  | .FAB_PORT_STAT => ⟨.FAB, 0x4, 18, 1, 0x8000, 0x0⟩
  | .FAB_PORT_CMD => ⟨.FAB, 0x8, 18, 1, 0x8000, 0x0⟩
  | .FAB_PORT_CAUSE => ⟨.FAB, 0x10, 18, 1, 0x8000, 0x0⟩
  | .FAB_PORT_CAUSE_IE => ⟨.FAB, 0x14, 18, 1, 0x8000, 0x0⟩
  | .FAB_PORT_VCBUF => ⟨.FAB, 0x20, 18, 1, 0x8000, 0x0⟩
  | .FAB_PORT_ARB => ⟨.FAB, 0x24, 18, 1, 0x8000, 0x0⟩
  | .FAB_LINK_STAT => ⟨.FAB, 0x100, 144, 8, 0x8000, 0x20⟩
  | .FAB_LINK_PEER => ⟨.FAB, 0x104, 144, 8, 0x8000, 0x20⟩
  | .FAB_LINK_REPLAY_CNT => ⟨.FAB, 0x108, 144, 8, 0x8000, 0x20⟩
  | .FAB_LINK_DOWN_CNT => ⟨.FAB, 0x10C, 144, 8, 0x8000, 0x20⟩
  | .FAB_LANE_STAT => ⟨.FAB, 0x400, 144, 8, 0x8000, 0x20⟩
  | .FAB_LANE_FEC_CE => ⟨.FAB, 0x404, 144, 8, 0x8000, 0x20⟩
  | .FAB_LANE_FEC_UE => ⟨.FAB, 0x408, 144, 8, 0x8000, 0x20⟩
  | .FAB_TR_ID => ⟨.FAB, 0x90000, 1, 1, 0x0, 0x0⟩
  | .FAB_TR_CTL => ⟨.FAB, 0x90004, 1, 1, 0x0, 0x0⟩
  | .FAB_TR_CAUSE => ⟨.FAB, 0x90010, 1, 1, 0x0, 0x0⟩
  | .FAB_TR_CAUSE_IE => ⟨.FAB, 0x90014, 1, 1, 0x0, 0x0⟩
  | .FAB_RT_CTL => ⟨.FAB, 0x90020, 1, 1, 0x0, 0x0⟩
  | .FAB_RT_EPOCH => ⟨.FAB, 0x90024, 1, 1, 0x0, 0x0⟩
  | .FAB_TR_LAST_STALL => ⟨.FAB, 0x90030, 1, 1, 0x0, 0x0⟩
  | .FAB_TR_RETX_CNT => ⟨.FAB, 0x90034, 1, 1, 0x0, 0x0⟩
  | .FAB_TR_DROP_CNT => ⟨.FAB, 0x90038, 1, 1, 0x0, 0x0⟩
  | .FAB_MOD_SEL => ⟨.FAB, 0x90040, 1, 1, 0x0, 0x0⟩
  | .FAB_MOD_STAT => ⟨.FAB, 0x90044, 1, 1, 0x0, 0x0⟩
  | .FAB_COLL_BUSY_LO => ⟨.FAB, 0x91000, 16, 1, 0x10, 0x0⟩
  | .FAB_COLL_BUSY_HI => ⟨.FAB, 0x91004, 16, 1, 0x10, 0x0⟩
  | .FAB_ROUTE_LO => ⟨.FAB, 0xA0000, 8192, 1, 0x8, 0x0⟩
  | .FAB_ROUTE_HI => ⟨.FAB, 0xA0004, 8192, 1, 0x8, 0x0⟩
  | .ETH_PORT_CFG => ⟨.ETH, 0x0, 2, 1, 0x1000, 0x0⟩
  | .ETH_PORT_STAT => ⟨.ETH, 0x4, 2, 1, 0x1000, 0x0⟩
  | .ETH_PORT_CAUSE => ⟨.ETH, 0x8, 2, 1, 0x1000, 0x0⟩
  | .ETH_PORT_CAUSE_IE => ⟨.ETH, 0xC, 2, 1, 0x1000, 0x0⟩
  | .ETH_PORT_DROP_CNT => ⟨.ETH, 0x10, 2, 1, 0x1000, 0x0⟩
  | .ETH_PORT_SECERR_CNT => ⟨.ETH, 0x14, 2, 1, 0x1000, 0x0⟩
  | .ETH_PORT_CNP_CNT => ⟨.ETH, 0x18, 2, 1, 0x1000, 0x0⟩
  | .ETH_PTP_CFG => ⟨.ETH, 0x20, 2, 1, 0x1000, 0x0⟩
  | .ETH_VLAN => ⟨.ETH, 0x2000, 64, 1, 0x4, 0x0⟩
  | .ETH_IPADDR0 => ⟨.ETH, 0x4000, 64, 1, 0x10, 0x0⟩
  | .ETH_IPADDR1 => ⟨.ETH, 0x4004, 64, 1, 0x10, 0x0⟩
  | .ETH_IPADDR2 => ⟨.ETH, 0x4008, 64, 1, 0x10, 0x0⟩
  | .ETH_IPADDR3 => ⟨.ETH, 0x400C, 64, 1, 0x10, 0x0⟩
  | .ETH_MW_BASE_LO => ⟨.ETH, 0x30000, 128, 1, 0x10, 0x0⟩
  | .ETH_MW_BASE_HI => ⟨.ETH, 0x30004, 128, 1, 0x10, 0x0⟩
  | .ETH_MW_LEN => ⟨.ETH, 0x30008, 128, 1, 0x10, 0x0⟩
  | .ETH_MW_CTL => ⟨.ETH, 0x3000C, 128, 1, 0x10, 0x0⟩
  | .ETH_DB_TAG => ⟨.ETH, 0x30800, 16, 1, 0x4, 0x0⟩
  | .ETH_QP_BIND => ⟨.ETH, 0x40000, 4096, 1, 0x40, 0x0⟩
  | .ETH_QP_DQPN => ⟨.ETH, 0x40004, 4096, 1, 0x40, 0x0⟩
  | .ETH_QP_SPSN => ⟨.ETH, 0x40008, 4096, 1, 0x40, 0x0⟩
  | .ETH_QP_RPSN => ⟨.ETH, 0x4000C, 4096, 1, 0x40, 0x0⟩
  | .ETH_QP_DGID0 => ⟨.ETH, 0x40010, 4096, 1, 0x40, 0x0⟩
  | .ETH_QP_DGID1 => ⟨.ETH, 0x40014, 4096, 1, 0x40, 0x0⟩
  | .ETH_QP_DGID2 => ⟨.ETH, 0x40018, 4096, 1, 0x40, 0x0⟩
  | .ETH_QP_DGID3 => ⟨.ETH, 0x4001C, 4096, 1, 0x40, 0x0⟩
  | .ETH_QP_DMAC_LO => ⟨.ETH, 0x40020, 4096, 1, 0x40, 0x0⟩
  | .ETH_QP_DMAC_HI => ⟨.ETH, 0x40024, 4096, 1, 0x40, 0x0⟩
  | .ETH_QP_PARAM => ⟨.ETH, 0x40028, 4096, 1, 0x40, 0x0⟩
  | .ETH_QP_STAT => ⟨.ETH, 0x4002C, 4096, 1, 0x40, 0x0⟩
  | .ETH_RING_BASE_LO => ⟨.ETH, 0x80000, 64, 4, 0x1000, 0x40⟩
  | .ETH_RING_BASE_HI => ⟨.ETH, 0x80004, 64, 4, 0x1000, 0x40⟩
  | .ETH_RING_CTL => ⟨.ETH, 0x80008, 64, 4, 0x1000, 0x40⟩
  | .ETH_RING_PI => ⟨.ETH, 0x8000C, 64, 4, 0x1000, 0x40⟩
  | .ETH_RING_CI => ⟨.ETH, 0x80010, 64, 4, 0x1000, 0x40⟩
  | .ETH_RING_DONE => ⟨.ETH, 0x80014, 64, 4, 0x1000, 0x40⟩
  | .ETH_CQ_BASE_LO => ⟨.ETH, 0x80018, 64, 4, 0x1000, 0x40⟩
  | .ETH_CQ_BASE_HI => ⟨.ETH, 0x8001C, 64, 4, 0x1000, 0x40⟩
  | .ETH_CQ_CI => ⟨.ETH, 0x80020, 64, 4, 0x1000, 0x40⟩
  | .ETH_RING_STAT => ⟨.ETH, 0x80024, 64, 4, 0x1000, 0x40⟩
  | .ETH_PART_STATE => ⟨.ETH, 0x80200, 16, 1, 0x1000, 0x0⟩
  | .ETH_PART_CKPT_LO => ⟨.ETH, 0x80204, 16, 1, 0x1000, 0x0⟩
  | .ETH_PART_CKPT_HI => ⟨.ETH, 0x80208, 16, 1, 0x1000, 0x0⟩
  | .MEM_ID => ⟨.MEM, 0x0, 8, 1, 0x10000, 0x0⟩
  | .MEM_STATE => ⟨.MEM, 0x4, 8, 1, 0x10000, 0x0⟩
  | .MEM_CAUSE => ⟨.MEM, 0x10, 8, 1, 0x10000, 0x0⟩
  | .MEM_CAUSE_IE => ⟨.MEM, 0x14, 8, 1, 0x10000, 0x0⟩
  | .MEM_CE_CNT => ⟨.MEM, 0x20, 8, 1, 0x10000, 0x0⟩
  | .MEM_UE_CNT => ⟨.MEM, 0x24, 8, 1, 0x10000, 0x0⟩
  | .MEM_UE_ADDR_LO => ⟨.MEM, 0x28, 8, 1, 0x10000, 0x0⟩
  | .MEM_UE_ADDR_HI => ⟨.MEM, 0x2C, 8, 1, 0x10000, 0x0⟩
  | .MEM_SCRUB_CTL => ⟨.MEM, 0x30, 8, 1, 0x10000, 0x0⟩
  | .MEM_SPARE_CTL => ⟨.MEM, 0x34, 8, 1, 0x10000, 0x0⟩
  | .MEM_SPARE_STAT => ⟨.MEM, 0x38, 8, 1, 0x10000, 0x0⟩
  | .MEM_SWEEP_CTL => ⟨.MEM, 0x40, 8, 1, 0x10000, 0x0⟩
  | .MEM_PART_SET => ⟨.MEM, 0x8000, 16, 1, 0x40, 0x0⟩
  | .MEM_PART_BASE => ⟨.MEM, 0x8004, 16, 1, 0x40, 0x0⟩
  | .MEM_PART_FRAMES => ⟨.MEM, 0x8008, 16, 1, 0x40, 0x0⟩
  | .MEM_PART_LEND => ⟨.MEM, 0x800C, 16, 1, 0x40, 0x0⟩
  | .MEM_ROT_CTL => ⟨.MEM, 0x8010, 16, 1, 0x40, 0x0⟩
  | .MEM_ROT_OLDCNT => ⟨.MEM, 0x8014, 16, 1, 0x40, 0x0⟩
  | .MEM_LEND_OFFER => ⟨.MEM, 0x8400, 1, 1, 0x0, 0x0⟩
  | .MEM_LEND_OUT => ⟨.MEM, 0x8404, 1, 1, 0x0, 0x0⟩
  | .CLU_ID => ⟨.CLU, 0x0, 68, 1, 0x4000, 0x0⟩
  | .CLU_STATE => ⟨.CLU, 0x4, 68, 1, 0x4000, 0x0⟩
  | .CLU_ENG_MAP => ⟨.CLU, 0x8, 68, 1, 0x4000, 0x0⟩
  | .CLU_CAUSE => ⟨.CLU, 0x10, 68, 1, 0x4000, 0x0⟩
  | .CLU_CAUSE_IE => ⟨.CLU, 0x14, 68, 1, 0x4000, 0x0⟩
  | .CLU_STORE_CE_CNT => ⟨.CLU, 0x20, 68, 1, 0x4000, 0x0⟩
  | .CLU_STORE_UE_ADDR => ⟨.CLU, 0x24, 68, 1, 0x4000, 0x0⟩
  | .CLU_WDOG => ⟨.CLU, 0x30, 68, 1, 0x4000, 0x0⟩
  | .CLU_STALL => ⟨.CLU, 0x34, 68, 1, 0x4000, 0x0⟩
  | .CLU_TOK_SEL => ⟨.CLU, 0x40, 68, 1, 0x4000, 0x0⟩
  | .CLU_TOK_READ => ⟨.CLU, 0x44, 68, 1, 0x4000, 0x0⟩
  | .CLU_BOB_STAT => ⟨.CLU, 0x50, 68, 1, 0x4000, 0x0⟩
  | .CLU_ARITH_STAT => ⟨.CLU, 0x180, 68, 1, 0x4000, 0x0⟩
  | .CLU_ARITH_RELAX_CNT => ⟨.CLU, 0x184, 68, 1, 0x4000, 0x0⟩
  | .CLU_ARITH_IE => ⟨.CLU, 0x188, 68, 1, 0x4000, 0x0⟩

/-- The fields of every register, reserved bits left out (they read 0 and ignore writes, R11). -/
def Reg.fields : Reg → List FieldSpec
  | .SYS_ID => [⟨11, 8, .RO, 0x1⟩, ⟨15, 12, .RO, 0xA⟩, ⟨31, 16, .RO, 0x5831⟩]
  | .SYS_FWVER => [⟨31, 0, .RO, 0x0⟩]
  | .SYS_RESET => [⟨1, 0, .RO, 0x0⟩]
  | .SYS_CAUSE => [⟨0, 0, .W1C, 0x0⟩, ⟨1, 1, .W1C, 0x0⟩]
  | .SYS_CAUSE_IE => [⟨1, 0, .RW, 0x1⟩]
  | .SYS_CLK => [⟨0, 0, .RO, 0x0⟩, ⟨1, 1, .RO, 0x0⟩]
  | .SYS_SERIAL => [⟨31, 0, .RO, 0x0⟩]
  | .SYS_I3C_STAT => [⟨0, 0, .W1C, 0x0⟩, ⟨1, 1, .W1C, 0x0⟩, ⟨2, 2, .W1C, 0x0⟩, ⟨22, 16, .RO, 0x0⟩]
  | .SYS_SCRATCH => [⟨31, 0, .RW, 0x0⟩]
  | .IRQ_SUM => [⟨14, 0, .RO, 0x0⟩]
  | .IRQ_MGMT_EN => [⟨14, 0, .RW, 0x7FFD⟩]
  | .IRQ_TRAY_PEND => [⟨14, 0, .W1C, 0x0⟩]
  | .IRQ_TRAY_EN => [⟨14, 0, .RW, 0x735⟩]
  | .IRQ_PIN => [⟨0, 0, .RO, 0x0⟩, ⟨1, 1, .RO, 0x0⟩, ⟨8, 8, .RW, 0x0⟩, ⟨9, 9, .RW, 0x0⟩]
  | .IRQ_INST_FAB => [⟨31, 0, .RO, 0x0⟩]
  | .IRQ_INST_ETH => [⟨31, 0, .RO, 0x0⟩]
  | .IRQ_INST_MEM => [⟨31, 0, .RO, 0x0⟩]
  | .IRQ_INST_CLU0 => [⟨31, 0, .RO, 0x0⟩]
  | .IRQ_INST_CLU1 => [⟨31, 0, .RO, 0x0⟩]
  | .IRQ_INST_CLU2 => [⟨31, 0, .RO, 0x0⟩]
  | .PWR_GEAR_STAT => [⟨3, 0, .RO, 0x0⟩, ⟨7, 4, .RO, 0x0⟩, ⟨12, 8, .RO, 0x0⟩, ⟨20, 16, .RO, 0x0⟩, ⟨24, 24, .RO, 0x0⟩, ⟨25, 25, .RO, 0x0⟩, ⟨26, 26, .RO, 0x0⟩, ⟨27, 27, .RO, 0x0⟩]
  | .PWR_GEAR_REQ => [⟨3, 0, .RW, 0xF⟩]
  | .PWR_CADENCE => [⟨15, 0, .RO, 0x0⟩, ⟨31, 16, .RO, 0x0⟩]
  | .PWR_CAD_SEL => [⟨6, 0, .RW, 0x0⟩]
  | .PWR_CAD_CLU => [⟨15, 0, .RO, 0x0⟩]
  | .PWR_TJ => [⟨11, 0, .RO, 0x0⟩, ⟨30, 24, .RO, 0x0⟩]
  | .PWR_TJ_WARN => [⟨11, 0, .RW, 0x2F8⟩]
  | .PWR_CAP_CFG => [⟨11, 0, .RW, 0x0⟩]
  | .PWR_CAP_TRAY => [⟨11, 0, .RW, 0x0⟩]
  | .PWR_CAP_ROW => [⟨11, 0, .RO, 0x0⟩, ⟨31, 31, .RO, 0x0⟩]
  | .PWR_CAP_EFF => [⟨11, 0, .RO, 0x960⟩, ⟨13, 12, .RO, 0x0⟩]
  | .PWR_INPUT => [⟨15, 0, .RO, 0x0⟩, ⟨31, 16, .RO, 0x0⟩]
  | .PWR_VCORE_ILIM => [⟨11, 0, .RW, 0xBB8⟩]
  | .PWR_LIM_CFG => [⟨2, 0, .RW, 0x2⟩, ⟨15, 8, .RW, 0xA⟩]
  | .PWR_LIM_CNT => [⟨31, 0, .RO, 0x0⟩]
  | .PWR_CAUSE => [⟨0, 0, .W1C, 0x0⟩, ⟨1, 1, .W1C, 0x0⟩, ⟨2, 2, .W1C, 0x0⟩, ⟨3, 3, .W1C, 0x0⟩, ⟨4, 4, .W1C, 0x0⟩, ⟨5, 5, .W1C, 0x0⟩]
  | .PWR_CAUSE_IE => [⟨5, 0, .RW, 0x33⟩]
  | .PWR_TRIP => [⟨11, 0, .RO, 0x0⟩, ⟨16, 16, .W1S, 0x0⟩, ⟨31, 31, .RO, 0x0⟩]
  | .PWR_PS_STAT => [⟨2, 0, .RO, 0x0⟩, ⟨6, 4, .RO, 0x0⟩, ⟨8, 8, .RO, 0x0⟩, ⟨10, 9, .RO, 0x0⟩, ⟨19, 12, .RO, 0x0⟩, ⟨20, 20, .RO, 0x0⟩, ⟨22, 21, .RO, 0x0⟩]
  | .PWR_PS_REQ => [⟨1, 0, .RW, 0x0⟩, ⟨31, 31, .W1S, 0x0⟩]
  | .PWR_PS_CFG => [⟨15, 0, .RW, 0x64⟩, ⟨23, 16, .RW, 0xA⟩, ⟨31, 31, .RW, 0x0⟩]
  | .PWR_VOTE => [⟨15, 0, .RW, 0x0⟩, ⟨31, 16, .RO, 0x0⟩]
  | .PWR_PS_CAUSE => [⟨0, 0, .W1C, 0x0⟩, ⟨1, 1, .W1C, 0x0⟩, ⟨2, 2, .W1C, 0x0⟩, ⟨3, 3, .W1C, 0x0⟩, ⟨4, 4, .W1C, 0x0⟩]
  | .PWR_PS_CAUSE_IE => [⟨4, 0, .RW, 0xE⟩]
  | .PWR_HS_STAT => [⟨0, 0, .RO, 0x0⟩, ⟨11, 8, .RO, 0x0⟩, ⟨23, 16, .RO, 0x0⟩]
  | .PWR_FW_CFG => [⟨15, 0, .RW, 0x64⟩, ⟨31, 16, .RW, 0x3E8⟩]
  | .PWR_FW_THR => [⟨11, 0, .RW, 0x1E0⟩, ⟨27, 16, .RW, 0x1F4⟩]
  | .PWR_WAKE_SRC => [⟨0, 0, .W1C, 0x0⟩, ⟨1, 1, .W1C, 0x0⟩, ⟨2, 2, .W1C, 0x0⟩, ⟨3, 3, .W1C, 0x0⟩, ⟨4, 4, .W1C, 0x0⟩, ⟨5, 5, .W1C, 0x0⟩]
  | .TIM_NOW_LO => [⟨31, 0, .RO, 0x0⟩]
  | .TIM_NOW_HI => [⟨31, 0, .RO, 0x0⟩]
  | .TIM_STAT => [⟨0, 0, .RO, 0x1⟩, ⟨1, 1, .RO, 0x1⟩, ⟨2, 2, .RO, 0x0⟩, ⟨3, 3, .RO, 0x0⟩, ⟨4, 4, .RO, 0x0⟩, ⟨5, 5, .RO, 0x0⟩]
  | .TIM_CTL => [⟨0, 0, .RW, 0x1⟩, ⟨1, 1, .W1S, 0x0⟩]
  | .TIM_SET_LO => [⟨31, 0, .RW, 0x0⟩]
  | .TIM_SET_HI => [⟨31, 0, .RW, 0x0⟩]
  | .TIM_UTC => [⟨15, 0, .RW, 0x25⟩]
  | .TIM_RATE => [⟨31, 0, .RO, 0x0⟩]
  | .TIM_OPTIME => [⟨31, 0, .RO, 0x0⟩]
  | .TIM_CYCLES => [⟨31, 0, .RO, 0x0⟩]
  | .TIM_CAUSE => [⟨0, 0, .W1C, 0x0⟩, ⟨1, 1, .W1C, 0x0⟩, ⟨2, 2, .W1C, 0x0⟩, ⟨3, 3, .W1C, 0x0⟩]
  | .TIM_CAUSE_IE => [⟨3, 0, .RW, 0x6⟩]
  | .CFG_STAT => [⟨3, 0, .RO, 0x1⟩, ⟨9, 8, .RO, 0x0⟩, ⟨10, 10, .RO, 0x0⟩, ⟨11, 11, .RO, 0x0⟩, ⟨12, 12, .RO, 0x0⟩, ⟨13, 13, .RO, 0x0⟩, ⟨14, 14, .RO, 0x0⟩, ⟨15, 15, .RO, 0x0⟩, ⟨16, 16, .RO, 0x0⟩, ⟨19, 17, .RO, 0x0⟩, ⟨23, 20, .RO, 0x0⟩, ⟨24, 24, .RO, 0x0⟩, ⟨25, 25, .RO, 0x0⟩]
  | .CFG_CAUSE => [⟨0, 0, .W1C, 0x0⟩, ⟨1, 1, .W1C, 0x0⟩, ⟨2, 2, .W1C, 0x0⟩, ⟨3, 3, .W1C, 0x0⟩, ⟨4, 4, .W1C, 0x0⟩, ⟨5, 5, .W1C, 0x0⟩, ⟨6, 6, .W1C, 0x0⟩, ⟨7, 7, .W1C, 0x0⟩, ⟨8, 8, .W1C, 0x0⟩, ⟨9, 9, .W1C, 0x0⟩]
  | .CFG_CAUSE_IE => [⟨9, 0, .RW, 0x3F6⟩]
  | .CFG_TRAY => [⟨0, 0, .RW, 0x0⟩, ⟨1, 1, .RW, 0x1⟩, ⟨2, 2, .W1S, 0x0⟩, ⟨15, 8, .RW, 0xA⟩, ⟨23, 16, .RW, 0xA⟩]
  | .CFG_HB => [⟨31, 0, .WO, 0x0⟩]
  | .CFG_ALIVE => [⟨15, 0, .RO, 0x0⟩, ⟨31, 16, .RO, 0xFFFF⟩]
  | .CFG_WDOG => [⟨15, 0, .RW, 0xFA⟩, ⟨16, 16, .RW, 0x1⟩, ⟨31, 31, .WO, 0x0⟩]
  | .CFG_PERMIT_CFG => [⟨7, 0, .RW, 0xA⟩, ⟨15, 8, .RW, 0xF⟩, ⟨23, 16, .RW, 0x2D⟩, ⟨31, 24, .RW, 0x5⟩]
  | .REC_STAT => [⟨10, 0, .RO, 0x0⟩, ⟨22, 16, .RO, 0x0⟩, ⟨28, 28, .RO, 0x0⟩, ⟨29, 29, .RO, 0x0⟩, ⟨30, 30, .RO, 0x0⟩, ⟨31, 31, .RO, 0x0⟩]
  | .REC_CTL => [⟨23, 16, .RW, 0x1E⟩, ⟨30, 30, .W1S, 0x0⟩, ⟨31, 31, .RW, 0x0⟩]
  | .REC_CAUSE => [⟨0, 0, .W1C, 0x0⟩, ⟨1, 1, .W1C, 0x0⟩, ⟨2, 2, .W1C, 0x0⟩, ⟨3, 3, .W1C, 0x0⟩, ⟨4, 4, .W1C, 0x0⟩, ⟨5, 5, .W1C, 0x0⟩]
  | .REC_CAUSE_IE => [⟨5, 0, .RW, 0x37⟩]
  | .REC_LOST_CNT => [⟨31, 0, .RO, 0x0⟩]
  | .REC_FIRST_SEQ => [⟨31, 0, .RO, 0x0⟩]
  | .REC_LAST_SEQ => [⟨31, 0, .RO, 0x0⟩]
  | .REC_CUR_CTL => [⟨1, 0, .RW, 0x0⟩, ⟨8, 8, .RW, 0x0⟩, ⟨30, 30, .W1S, 0x0⟩, ⟨31, 31, .W1S, 0x0⟩]
  | .REC_CUR_SEQ => [⟨31, 0, .RW, 0x0⟩]
  | .REC_CUR_STAT => [⟨28, 28, .RO, 0x0⟩, ⟨29, 29, .RO, 0x0⟩, ⟨30, 30, .RO, 0x0⟩, ⟨31, 31, .RO, 0x0⟩]
  | .REC_WIN => [⟨31, 0, .RO, 0x0⟩]
  | .SEC_STATE => [⟨1, 0, .RO, 0x0⟩, ⟨4, 4, .RO, 0x0⟩, ⟨7, 7, .RO, 0x0⟩, ⟨11, 8, .RO, 0x0⟩]
  | .SEC_SVN => [⟨7, 0, .RO, 0x0⟩, ⟨8, 8, .RO, 0x0⟩, ⟨23, 16, .RO, 0x0⟩]
  | .SEC_CAUSE => [⟨0, 0, .W1C, 0x0⟩, ⟨1, 1, .W1C, 0x0⟩, ⟨2, 2, .W1C, 0x0⟩, ⟨3, 3, .W1C, 0x0⟩, ⟨4, 4, .W1C, 0x0⟩, ⟨5, 5, .W1C, 0x0⟩, ⟨6, 6, .W1C, 0x0⟩, ⟨7, 7, .W1C, 0x0⟩]
  | .SEC_CAUSE_IE => [⟨7, 0, .RW, 0xEB⟩]
  | .SEC_AF_CNT => [⟨31, 0, .RO, 0x0⟩]
  | .SEC_AF_LAST => [⟨1, 0, .RO, 0x0⟩, ⟨15, 8, .RO, 0x0⟩, ⟨25, 16, .RO, 0x0⟩, ⟨31, 31, .RO, 0x0⟩]
  | .SEC_AF_ADDR_LO => [⟨31, 0, .RO, 0x0⟩]
  | .SEC_AF_ADDR_HI => [⟨4, 0, .RO, 0x0⟩]
  | .SEC_SCRUB_BUSY => [⟨15, 0, .RO, 0x0⟩]
  | .SEC_SCRUB_LAST => [⟨27, 0, .RO, 0x0⟩, ⟨31, 28, .RO, 0x0⟩]
  | .SEC_KSLOT => [⟨7, 0, .RO, 0x0⟩, ⟨27, 24, .RO, 0x0⟩, ⟨30, 30, .RO, 0x0⟩, ⟨31, 31, .RO, 0x0⟩]
  | .SEC_AT_SEL => [⟨2, 0, .RW, 0x0⟩, ⟨15, 8, .RW, 0x0⟩, ⟨25, 16, .RW, 0x0⟩]
  | .SEC_AT_BASE_LO => [⟨31, 2, .RW, 0x0⟩]
  | .SEC_AT_BASE_HI => [⟨4, 0, .RW, 0x0⟩]
  | .SEC_AT_LIMIT_LO => [⟨31, 2, .RW, 0x0⟩]
  | .SEC_AT_LIMIT_HI => [⟨4, 0, .RW, 0x0⟩]
  | .SEC_AT_RIGHTS => [⟨0, 0, .RW, 0x0⟩, ⟨1, 1, .RW, 0x0⟩, ⟨2, 2, .RW, 0x0⟩, ⟨31, 31, .RW, 0x0⟩]
  | .SEC_ADMIT_MOD => [⟨11, 0, .RW, 0x0⟩, ⟨27, 16, .RW, 0x0⟩, ⟨31, 31, .RW, 0x0⟩]
  | .SEC_ADMIT_PART => [⟨15, 0, .RW, 0x0⟩]
  | .SEC_SEAL_BASE => [⟨23, 0, .RO, 0x0⟩, ⟨31, 31, .RO, 0x0⟩]
  | .SEC_SEAL_END => [⟨23, 0, .RO, 0x0⟩, ⟨31, 31, .RO, 0x0⟩]
  | .CLE_CTL => [⟨0, 0, .RW, 0x0⟩]
  | .CLE_CAUSE => [⟨0, 0, .W1C, 0x0⟩, ⟨1, 1, .W1C, 0x0⟩, ⟨2, 2, .W1C, 0x0⟩, ⟨3, 3, .W1C, 0x0⟩, ⟨4, 4, .W1C, 0x0⟩, ⟨5, 5, .W1C, 0x0⟩, ⟨6, 6, .W1C, 0x0⟩, ⟨7, 7, .W1C, 0x0⟩]
  | .CLE_CAUSE_IE => [⟨7, 0, .RW, 0xCF⟩]
  | .CLE_SLOT_FAULT => [⟨31, 0, .W1C, 0x0⟩]
  | .CLE_SLOT_DEGR => [⟨31, 0, .RO, 0x0⟩]
  | .CLE_REP_SRC => [⟨3, 0, .RW, 0x0⟩, ⟨31, 31, .RW, 0x1⟩]
  | .CLE_REP_STAT => [⟨29, 0, .RO, 0x0⟩, ⟨31, 31, .RO, 0x0⟩]
  | .CLE_GRP_STAT => [⟨7, 0, .RO, 0x0⟩, ⟨20, 16, .RO, 0x0⟩, ⟨31, 31, .RO, 0x0⟩]
  | .CLE_SLOT_CFG => [⟨0, 0, .RW, 0x0⟩, ⟨1, 1, .RW, 0x0⟩, ⟨4, 2, .RW, 0x0⟩, ⟨5, 5, .RW, 0x0⟩, ⟨7, 6, .RW, 0x0⟩, ⟨8, 8, .RW, 0x0⟩, ⟨11, 9, .RW, 0x0⟩, ⟨31, 14, .RW, 0x0⟩]
  | .CLE_SLOT_IO => [⟨7, 0, .RW, 0x0⟩, ⟨15, 8, .RW, 0x0⟩, ⟨23, 16, .RW, 0x0⟩]
  | .CLE_SLOT_STAT => [⟨0, 0, .RO, 0x0⟩, ⟨1, 1, .RO, 0x0⟩, ⟨3, 3, .RO, 0x0⟩, ⟨4, 4, .RO, 0x0⟩, ⟨5, 5, .RO, 0x0⟩, ⟨6, 6, .RO, 0x0⟩, ⟨7, 7, .RO, 0x0⟩, ⟨8, 8, .RO, 0x0⟩, ⟨9, 9, .RO, 0x0⟩, ⟨10, 10, .RO, 0x0⟩, ⟨31, 16, .RO, 0x0⟩]
  | .CLE_SLOT_FE => [⟨15, 0, .RW, 0x0⟩]
  | .CLE_SLOT_REP => [⟨7, 0, .RW, 0x0⟩, ⟨8, 8, .RW, 0x0⟩]
  | .CLE_SLOT_W_A => [⟨23, 0, .RW, 0x0⟩, ⟨31, 24, .RW, 0x0⟩]
  | .CLE_SLOT_W_B => [⟨23, 0, .RW, 0x0⟩, ⟨31, 24, .RW, 0x0⟩]
  | .CLE_SLOT_W_W => [⟨23, 0, .RW, 0x0⟩, ⟨31, 24, .RW, 0x0⟩]
  | .CLE_SLOT_W_BAND => [⟨23, 0, .RW, 0x0⟩, ⟨31, 24, .RW, 0x0⟩]
  | .CLE_SLOT_W_KP => [⟨23, 0, .RW, 0x0⟩, ⟨31, 24, .RW, 0x0⟩]
  | .CLE_SLOT_W_KI => [⟨23, 0, .RW, 0x0⟩, ⟨31, 24, .RW, 0x0⟩]
  | .CLE_SLOT_W_KD => [⟨23, 0, .RW, 0x0⟩, ⟨31, 24, .RW, 0x0⟩]
  | .CLE_SLOT_W_DF => [⟨23, 0, .RW, 0x0⟩, ⟨31, 24, .RW, 0x0⟩]
  | .CLE_SLOT_W_KT => [⟨23, 0, .RW, 0x0⟩, ⟨31, 24, .RW, 0x0⟩]
  | .CLE_SLOT_W_KFF => [⟨23, 0, .RW, 0x0⟩, ⟨31, 24, .RW, 0x0⟩]
  | .CLE_SLOT_W_BIAS => [⟨23, 0, .RW, 0x0⟩, ⟨31, 24, .RW, 0x0⟩]
  | .CLE_SLOT_W_UMIN => [⟨23, 0, .RW, 0x0⟩, ⟨31, 24, .RW, 0x0⟩]
  | .CLE_SLOT_W_UMAX => [⟨23, 0, .RW, 0x0⟩, ⟨31, 24, .RW, 0x0⟩]
  | .CLE_SLOT_W_FE_LIM => [⟨23, 0, .RW, 0x0⟩, ⟨31, 24, .RW, 0x0⟩]
  | .CLE_SLOT_W_SAFE => [⟨23, 0, .RW, 0x0⟩, ⟨31, 24, .RW, 0x0⟩]
  | .CLE_SLOT_W_VLIM => [⟨23, 0, .RW, 0x0⟩, ⟨31, 24, .RW, 0x0⟩]
  | .CLE_SLOT_W_ALIM => [⟨23, 0, .RW, 0x0⟩, ⟨31, 24, .RW, 0x0⟩]
  | .CLE_SLOT_W_JLIM => [⟨23, 0, .RW, 0x0⟩, ⟨31, 24, .RW, 0x0⟩]
  | .CLE_SLOT_W_GAIN => [⟨23, 0, .RW, 0x0⟩, ⟨31, 24, .RW, 0x0⟩]
  | .CLE_SLOT_W_FORGET => [⟨23, 0, .RW, 0x0⟩, ⟨31, 24, .RW, 0x0⟩]
  | .CLE_SLOT_W_LPF => [⟨23, 0, .RW, 0x0⟩, ⟨31, 24, .RW, 0x0⟩]
  | .CLE_SLOT_Y => [⟨23, 0, .RO, 0x0⟩, ⟨31, 24, .RO, 0x0⟩]
  | .CLE_SLOT_U => [⟨23, 0, .RO, 0x0⟩, ⟨31, 24, .RO, 0x0⟩]
  | .CLE_SLOT_I => [⟨23, 0, .RO, 0x0⟩, ⟨31, 24, .RO, 0x0⟩]
  | .CLE_TRC_CFG => [⟨12, 0, .RW, 0x0⟩, ⟨21, 13, .RW, 0x0⟩, ⟨26, 22, .RW, 0x0⟩, ⟨29, 27, .RW, 0x0⟩, ⟨30, 30, .W1S, 0x0⟩, ⟨31, 31, .W1S, 0x0⟩]
  | .CLE_TRC_NODE => [⟨8, 0, .RW, 0x0⟩, ⟨24, 16, .RW, 0x0⟩]
  | .CLE_TRC_THR => [⟨23, 0, .RW, 0x0⟩, ⟨31, 24, .RW, 0x0⟩]
  | .CLE_TRC_STAT => [⟨12, 0, .RO, 0x0⟩, ⟨31, 30, .RO, 0x0⟩]
  | .CLE_TRC_CUR => [⟨2, 0, .RW, 0x0⟩, ⟨15, 3, .RW, 0x0⟩]
  | .CLE_TRC_DATA => [⟨31, 0, .RO, 0x0⟩]
  | .CLE_REP_TABLE => [⟨23, 0, .RW, 0x0⟩, ⟨31, 24, .RW, 0x0⟩]
  | .CIO_STAT => [⟨0, 0, .RO, 0x0⟩, ⟨1, 1, .RO, 0x0⟩, ⟨2, 2, .RO, 0x0⟩, ⟨3, 3, .RO, 0x0⟩]
  | .CIO_CAUSE => [⟨0, 0, .W1C, 0x0⟩, ⟨1, 1, .W1C, 0x0⟩, ⟨2, 2, .W1C, 0x0⟩, ⟨3, 3, .W1C, 0x0⟩, ⟨4, 4, .W1C, 0x0⟩, ⟨5, 5, .W1C, 0x0⟩, ⟨6, 6, .W1C, 0x0⟩, ⟨7, 7, .W1C, 0x0⟩, ⟨8, 8, .W1C, 0x0⟩, ⟨9, 9, .W1C, 0x0⟩, ⟨10, 10, .W1C, 0x0⟩]
  | .CIO_CAUSE_IE => [⟨10, 0, .RW, 0x3F7⟩]
  | .CIO_PWM_CFG => [⟨0, 0, .RW, 0x1⟩, ⟨15, 8, .RW, 0x5⟩, ⟨23, 16, .RW, 0x14⟩, ⟨25, 24, .RW, 0x0⟩, ⟨26, 26, .RW, 0x0⟩, ⟨31, 31, .RW, 0x0⟩]
  | .CIO_PWM_STAT => [⟨9, 0, .RO, 0x0⟩, ⟨19, 18, .RO, 0x0⟩, ⟨26, 24, .RO, 0x0⟩, ⟨27, 27, .RO, 0x0⟩, ⟨28, 28, .RO, 0x0⟩, ⟨31, 29, .RO, 0x0⟩]
  | .CIO_PWM_CLR => [⟨7, 0, .W1S, 0x0⟩]
  | .CIO_AO_CFG => [⟨1, 0, .RW, 0x0⟩, ⟨15, 8, .RW, 0x0⟩, ⟨16, 16, .RW, 0x0⟩, ⟨31, 31, .RO, 0x0⟩]
  | .CIO_AI_CFG => [⟨1, 0, .RW, 0x0⟩, ⟨7, 4, .RW, 0x3⟩, ⟨31, 31, .RO, 0x0⟩]
  | .CIO_DI_CFG => [⟨15, 0, .RW, 0x3E8⟩, ⟨17, 16, .RW, 0x0⟩, ⟨18, 18, .RW, 0x0⟩]
  | .CIO_DI_STAT => [⟨7, 0, .RO, 0x0⟩, ⟨15, 8, .W1C, 0x0⟩]
  | .CIO_DO_CFG => [⟨15, 0, .RW, 0x0⟩]
  | .CIO_LEAK_CFG => [⟨0, 0, .RW, 0x0⟩, ⟨1, 1, .RW, 0x0⟩, ⟨2, 2, .RW, 0x1⟩]
  | .CIO_LEAK_CTL => [⟨7, 0, .RW, 0x5⟩, ⟨11, 10, .RW, 0x0⟩, ⟨12, 12, .W1S, 0x0⟩]
  | .CIO_LEAK_STAT => [⟨9, 0, .RO, 0x2FF⟩, ⟨16, 16, .RO, 0x0⟩, ⟨17, 17, .RO, 0x0⟩]
  | .CIO_SENS_STAT => [⟨3, 0, .W1C, 0x0⟩, ⟨5, 4, .W1C, 0x0⟩, ⟨6, 6, .W1C, 0x0⟩, ⟨8, 7, .W1C, 0x0⟩, ⟨23, 16, .W1C, 0x0⟩, ⟨31, 24, .W1C, 0x0⟩]
  | .CIO_HB_CFG => [⟨0, 0, .RW, 0x1⟩, ⟨1, 1, .RW, 0x0⟩, ⟨15, 8, .RW, 0x19⟩, ⟨23, 16, .RW, 0xA⟩]
  | .CIO_HB_STAT => [⟨15, 0, .RO, 0x0⟩, ⟨23, 16, .RO, 0x0⟩, ⟨24, 24, .RO, 0x0⟩, ⟨25, 25, .RO, 0x0⟩, ⟨26, 26, .RO, 0x0⟩]
  | .CIO_CH_AO => [⟨23, 0, .RW, 0x0⟩, ⟨31, 24, .RW, 0x0⟩]
  | .CIO_CH_PWM => [⟨23, 0, .RW, 0x0⟩, ⟨31, 24, .RW, 0x0⟩]
  | .CIO_CH_AI => [⟨23, 0, .RO, 0x0⟩, ⟨31, 24, .RO, 0x0⟩]
  | .CIO_CH_TACH => [⟨23, 0, .RO, 0x0⟩, ⟨31, 24, .RO, 0x0⟩]
  | .CIO_CH_PT => [⟨23, 0, .RO, 0x0⟩, ⟨31, 24, .RO, 0x0⟩]
  | .CIO_CH_TEMP => [⟨23, 0, .RO, 0x0⟩, ⟨31, 24, .RO, 0x0⟩]
  | .CIO_CH_PRESS => [⟨23, 0, .RO, 0x0⟩, ⟨31, 24, .RO, 0x0⟩]
  | .CIO_CH_FLOW => [⟨23, 0, .RO, 0x0⟩, ⟨31, 24, .RO, 0x0⟩]
  | .CIO_CH_HB => [⟨23, 0, .RO, 0x0⟩, ⟨31, 24, .RO, 0x0⟩]
  | .CLN_CH_CFG => [⟨0, 0, .RW, 0x1⟩, ⟨4, 4, .RW, 0x0⟩, ⟨9, 8, .RW, 0x0⟩, ⟨31, 31, .RW, 0x0⟩]
  | .CLN_NBT => [⟨6, 0, .RW, 0xF⟩, ⟨14, 8, .RW, 0xF⟩, ⟨23, 16, .RW, 0x3E⟩, ⟨31, 24, .RW, 0x0⟩]
  | .CLN_DBT => [⟨6, 0, .RW, 0x8⟩, ⟨17, 14, .RW, 0x1⟩, ⟨21, 18, .RW, 0x1⟩, ⟨26, 22, .RW, 0x6⟩, ⟨31, 27, .RW, 0x0⟩]
  | .CLN_CH_STAT => [⟨7, 0, .RO, 0x0⟩, ⟨14, 8, .RO, 0x0⟩, ⟨22, 16, .RO, 0x0⟩, ⟨29, 29, .RO, 0x0⟩, ⟨31, 30, .RO, 0x3⟩]
  | .SUPERSEDED => [⟨31, 0, .RO, 0x0⟩]
  | .DUPLICATE => [⟨31, 0, .RO, 0x0⟩]
  | .RX_DROP => [⟨31, 0, .RO, 0x0⟩]
  | .IGNORED => [⟨31, 0, .RO, 0x0⟩]
  | .BUSOFF_CNT => [⟨31, 0, .RO, 0x0⟩]
  | .CLN_RXQ_STAT => [⟨7, 0, .RO, 0x0⟩, ⟨16, 8, .RO, 0x0⟩]
  | .CLN_RXQ_CUR => [⟨7, 0, .RW, 0x0⟩]
  | .CLN_RXQ_ACK => [⟨8, 0, .WO, 0x0⟩]
  | .CLN_RXWIN => [⟨31, 0, .RO, 0x0⟩]
  | .CLN_CTL => [⟨7, 0, .RW, 0x64⟩, ⟨20, 16, .RW, 0xA⟩]
  | .CLN_TIME => [⟨31, 0, .RO, 0x0⟩]
  | .CLN_CAUSE => [⟨1, 0, .W1C, 0x0⟩, ⟨3, 2, .W1C, 0x0⟩, ⟨5, 4, .W1C, 0x0⟩, ⟨6, 6, .W1C, 0x0⟩, ⟨7, 7, .W1C, 0x0⟩, ⟨8, 8, .W1C, 0x0⟩, ⟨9, 9, .W1C, 0x0⟩]
  | .CLN_CAUSE_IE => [⟨9, 0, .RW, 0x27F⟩]
  | .CLN_RXQ_MASK_LO => [⟨31, 0, .RW, 0xFFFFFFE0⟩]
  | .CLN_RXQ_MASK_HI => [⟨31, 0, .RW, 0xFFFFFFFF⟩]
  | .CLN_EVQ_ID => [⟨28, 0, .RW, 0x0⟩, ⟨30, 29, .RW, 0x3⟩]
  | .CLN_EVQ_LEN => [⟨6, 0, .RW, 0x8⟩]
  | .CLN_EVQ_CMD => [⟨4, 0, .RW, 0x0⟩, ⟨12, 8, .RO, 0x0⟩, ⟨30, 30, .W1S, 0x0⟩, ⟨31, 31, .W1S, 0x0⟩]
  | .CLN_EVQ_BUSY => [⟨31, 0, .RO, 0x0⟩]
  | .CLN_EVQ_DATA => [⟨31, 0, .RW, 0x0⟩]
  | .CLN_SCHED => [⟨5, 0, .RW, 0x0⟩, ⟨14, 8, .RW, 0x0⟩, ⟨15, 15, .RW, 0x0⟩]
  | .CLN_TXMAP => [⟨13, 8, .RW, 0x0⟩, ⟨22, 16, .RW, 0x0⟩, ⟨31, 31, .RW, 0x0⟩]
  | .CLN_RXMAP => [⟨2, 0, .RW, 0x0⟩, ⟨13, 8, .RW, 0x0⟩, ⟨22, 16, .RW, 0x0⟩, ⟨30, 23, .RW, 0x0⟩, ⟨31, 31, .RW, 0x0⟩]
  | .ROW_CFG => [⟨1, 0, .RO, 0x0⟩, ⟨2, 2, .RO, 0x0⟩, ⟨14, 8, .RO, 0x0⟩, ⟨27, 16, .RW, 0x0⟩]
  | .ROW_STAT => [⟨2, 0, .RO, 0x0⟩, ⟨5, 5, .RO, 0x0⟩, ⟨6, 6, .RO, 0x0⟩, ⟨7, 7, .RO, 0x0⟩, ⟨8, 8, .RO, 0x0⟩, ⟨9, 9, .RO, 0x0⟩, ⟨15, 10, .RO, 0x0⟩, ⟨31, 16, .RO, 0xFFFF⟩]
  | .ROW_CMD => [⟨3, 0, .W1S, 0x0⟩, ⟨4, 4, .W1S, 0x0⟩]
  | .ROW_CAUSE => [⟨0, 0, .W1C, 0x0⟩, ⟨1, 1, .W1C, 0x0⟩, ⟨2, 2, .W1C, 0x0⟩, ⟨3, 3, .W1C, 0x0⟩, ⟨4, 4, .W1C, 0x0⟩, ⟨5, 5, .W1C, 0x0⟩, ⟨6, 6, .W1C, 0x0⟩, ⟨7, 7, .W1C, 0x0⟩, ⟨8, 8, .W1C, 0x0⟩, ⟨9, 9, .W1C, 0x0⟩, ⟨10, 10, .W1C, 0x0⟩]
  | .ROW_CAUSE_IE => [⟨10, 0, .RW, 0x7DF⟩]
  | .ROW_GATED_CNT => [⟨31, 0, .RO, 0x0⟩]
  | .ROW_BUDGET => [⟨17, 0, .RO, 0x0⟩, ⟨31, 25, .RO, 0x64⟩]
  | .ROW_HEAT_CFG => [⟨11, 0, .RW, 0x140⟩, ⟨23, 16, .RW, 0x50⟩, ⟨31, 24, .RW, 0x61⟩]
  | .ROW_HEAT_CFG2 => [⟨11, 0, .RW, 0x64⟩, ⟨31, 16, .RW, 0x0⟩]
  | .ROW_SRC => [⟨5, 0, .RW, 0x0⟩, ⟨13, 8, .RW, 0x0⟩, ⟨20, 16, .RW, 0x0⟩]
  | .ROW_SLOTS => [⟨31, 0, .RW, 0x0⟩]
  | .ROW_PUMP_CFG => [⟨1, 0, .RW, 0x1⟩, ⟨15, 8, .RW, 0x7⟩]
  | .ROW_PUMP => [⟨19, 0, .RO, 0x0⟩, ⟨26, 20, .RW, 0x0⟩, ⟨30, 28, .RO, 0x0⟩, ⟨31, 31, .RW, 0x0⟩]
  | .ROW_MEMBER => [⟨11, 0, .RO, 0x0⟩, ⟨23, 12, .RO, 0x0⟩, ⟨27, 24, .RW, 0x1⟩, ⟨30, 30, .RO, 0x0⟩, ⟨31, 31, .RW, 0x0⟩]
  | .MTR_STAT => [⟨0, 0, .RO, 0x0⟩, ⟨1, 1, .RO, 0x0⟩, ⟨2, 2, .RO, 0x0⟩, ⟨3, 3, .RO, 0x0⟩, ⟨4, 4, .RO, 0x0⟩]
  | .MTR_CAUSE => [⟨0, 0, .W1C, 0x0⟩, ⟨1, 1, .W1C, 0x0⟩, ⟨2, 2, .W1C, 0x0⟩, ⟨3, 3, .W1C, 0x0⟩, ⟨4, 4, .W1C, 0x0⟩, ⟨5, 5, .W1C, 0x0⟩, ⟨6, 6, .W1C, 0x0⟩, ⟨7, 7, .W1C, 0x0⟩]
  | .MTR_CAUSE_IE => [⟨7, 0, .RW, 0xBD⟩]
  | .MTR_LINK_CNT => [⟨31, 0, .RO, 0x0⟩]
  | .MTR_SNAP_FLOW => [⟨31, 0, .RO, 0x0⟩]
  | .MTR_SNAP_TEMP => [⟨15, 0, .RO, 0x0⟩, ⟨31, 16, .RO, 0x0⟩]
  | .MTR_SNAP_PWR => [⟨31, 0, .RO, 0x0⟩]
  | .MTR_SNAP_STATUS => [⟨0, 0, .RO, 0x0⟩, ⟨1, 1, .RO, 0x0⟩, ⟨2, 2, .RO, 0x0⟩, ⟨3, 3, .RO, 0x0⟩, ⟨4, 4, .RO, 0x0⟩, ⟨5, 5, .RO, 0x0⟩, ⟨6, 6, .RO, 0x0⟩, ⟨7, 7, .RO, 0x0⟩, ⟨8, 8, .RO, 0x0⟩, ⟨31, 16, .RO, 0x0⟩]
  | .MTR_SNAP_STAMP => [⟨31, 0, .RO, 0x0⟩]
  | .MTR_REQ => [⟨7, 0, .RW, 0x0⟩, ⟨15, 8, .RW, 0x0⟩, ⟨29, 28, .RO, 0x0⟩, ⟨30, 30, .RO, 0x0⟩, ⟨31, 31, .W1S, 0x0⟩]
  | .MTR_RESP => [⟨31, 0, .RO, 0x0⟩]
  | .FAB_PORT_CFG => [⟨1, 0, .RW, 0x0⟩, ⟨8, 8, .RW, 0x0⟩, ⟨9, 9, .RW, 0x1⟩, ⟨23, 16, .RW, 0xFF⟩, ⟨31, 31, .RW, 0x0⟩]
  | .FAB_PORT_STAT => [⟨7, 0, .RO, 0x0⟩, ⟨15, 8, .RO, 0x0⟩, ⟨18, 16, .RO, 0x0⟩]
  | .FAB_PORT_CMD => [⟨7, 0, .W1S, 0x0⟩]
  | .FAB_PORT_CAUSE => [⟨0, 0, .W1C, 0x0⟩, ⟨1, 1, .W1C, 0x0⟩, ⟨2, 2, .W1C, 0x0⟩, ⟨3, 3, .W1C, 0x0⟩, ⟨4, 4, .W1C, 0x0⟩, ⟨5, 5, .W1C, 0x0⟩, ⟨6, 6, .W1C, 0x0⟩, ⟨15, 8, .W1C, 0x0⟩]
  | .FAB_PORT_CAUSE_IE => [⟨6, 0, .RW, 0x75⟩]
  | .FAB_PORT_VCBUF => [⟨7, 0, .RW, 0x8⟩, ⟨15, 8, .RW, 0x60⟩, ⟨23, 16, .RW, 0x60⟩, ⟨31, 24, .RW, 0x38⟩]
  | .FAB_PORT_ARB => [⟨7, 0, .RW, 0x10⟩, ⟨15, 8, .RW, 0x10⟩]
  | .FAB_LINK_STAT => [⟨2, 0, .RO, 0x0⟩, ⟨11, 8, .RO, 0x0⟩, ⟨31, 16, .RO, 0x0⟩]
  | .FAB_LINK_PEER => [⟨2, 0, .RO, 0x0⟩, ⟨12, 8, .RO, 0x0⟩, ⟨27, 16, .RO, 0x0⟩, ⟨31, 31, .RO, 0x0⟩]
  | .FAB_LINK_REPLAY_CNT => [⟨31, 0, .RO, 0x0⟩]
  | .FAB_LINK_DOWN_CNT => [⟨31, 0, .RO, 0x0⟩]
  | .FAB_LANE_STAT => [⟨2, 0, .RO, 0x0⟩, ⟨7, 6, .RO, 0x0⟩]
  | .FAB_LANE_FEC_CE => [⟨31, 0, .RO, 0x0⟩]
  | .FAB_LANE_FEC_UE => [⟨31, 0, .RO, 0x0⟩]
  | .FAB_TR_ID => [⟨11, 0, .RO, 0x0⟩, ⟨27, 16, .RO, 0x0⟩]
  | .FAB_TR_CTL => [⟨3, 3, .RW, 0x0⟩, ⟨8, 8, .RW, 0x0⟩, ⟨23, 16, .RW, 0x14⟩, ⟨31, 31, .RW, 0x0⟩]
  | .FAB_TR_CAUSE => [⟨0, 0, .W1C, 0x0⟩, ⟨1, 1, .W1C, 0x0⟩, ⟨2, 2, .W1C, 0x0⟩, ⟨3, 3, .W1C, 0x0⟩, ⟨4, 4, .W1C, 0x0⟩, ⟨5, 5, .W1C, 0x0⟩, ⟨6, 6, .W1C, 0x0⟩, ⟨7, 7, .W1C, 0x0⟩, ⟨8, 8, .W1C, 0x0⟩, ⟨9, 9, .W1C, 0x0⟩, ⟨10, 10, .W1C, 0x0⟩]
  | .FAB_TR_CAUSE_IE => [⟨10, 0, .RW, 0x7C2⟩]
  | .FAB_RT_CTL => [⟨29, 29, .RO, 0x0⟩, ⟨30, 30, .RW, 0x0⟩, ⟨31, 31, .RO, 0x0⟩]
  | .FAB_RT_EPOCH => [⟨15, 0, .RO, 0x0⟩, ⟨31, 16, .RW, 0x1⟩]
  | .FAB_TR_LAST_STALL => [⟨31, 0, .RO, 0x0⟩]
  | .FAB_TR_RETX_CNT => [⟨31, 0, .RO, 0x0⟩]
  | .FAB_TR_DROP_CNT => [⟨31, 0, .RO, 0x0⟩]
  | .FAB_MOD_SEL => [⟨11, 0, .RW, 0x0⟩]
  | .FAB_MOD_STAT => [⟨15, 0, .RO, 0x0⟩, ⟨21, 16, .RO, 0x3F⟩, ⟨29, 29, .RO, 0x0⟩, ⟨30, 30, .RO, 0x0⟩, ⟨31, 31, .RO, 0x0⟩]
  | .FAB_COLL_BUSY_LO => [⟨31, 0, .RO, 0x0⟩]
  | .FAB_COLL_BUSY_HI => [⟨31, 0, .RO, 0x0⟩]
  | .FAB_ROUTE_LO => [⟨7, 0, .RW, 0x0⟩, ⟨15, 8, .RW, 0x0⟩, ⟨23, 16, .RW, 0x0⟩, ⟨31, 24, .RW, 0x0⟩]
  | .FAB_ROUTE_HI => [⟨7, 0, .RW, 0x0⟩, ⟨12, 8, .RW, 0x0⟩, ⟨13, 13, .RO, 0x0⟩, ⟨14, 14, .RW, 0x0⟩, ⟨21, 16, .RW, 0x0⟩]
  | .ETH_PORT_CFG => [⟨7, 0, .RW, 0x0⟩, ⟨12, 12, .RW, 0x1⟩, ⟨18, 16, .RW, 0x7⟩, ⟨31, 31, .RW, 0x0⟩]
  | .ETH_PORT_STAT => [⟨7, 4, .RO, 0x0⟩, ⟨8, 8, .RO, 0x0⟩, ⟨18, 16, .RO, 0x0⟩, ⟨31, 30, .RO, 0x0⟩]
  | .ETH_PORT_CAUSE => [⟨0, 0, .W1C, 0x0⟩, ⟨1, 1, .W1C, 0x0⟩, ⟨2, 2, .W1C, 0x0⟩, ⟨3, 3, .W1C, 0x0⟩, ⟨4, 4, .W1C, 0x0⟩, ⟨5, 5, .W1C, 0x0⟩, ⟨6, 6, .W1C, 0x0⟩, ⟨7, 7, .W1C, 0x0⟩, ⟨8, 8, .W1C, 0x0⟩]
  | .ETH_PORT_CAUSE_IE => [⟨8, 0, .RW, 0x12E⟩]
  | .ETH_PORT_DROP_CNT => [⟨31, 0, .RO, 0x0⟩]
  | .ETH_PORT_SECERR_CNT => [⟨31, 0, .RO, 0x0⟩]
  | .ETH_PORT_CNP_CNT => [⟨31, 0, .RO, 0x0⟩]
  | .ETH_PTP_CFG => [⟨7, 0, .RW, 0x0⟩, ⟨15, 8, .RW, 0x80⟩, ⟨23, 16, .RW, 0x80⟩, ⟨31, 31, .RW, 0x0⟩]
  | .ETH_VLAN => [⟨11, 0, .RW, 0x0⟩, ⟨23, 20, .RW, 0x0⟩, ⟨27, 26, .RW, 0x0⟩, ⟨30, 28, .RW, 0x0⟩, ⟨31, 31, .RW, 0x0⟩]
  | .ETH_IPADDR0 => [⟨31, 0, .RW, 0x0⟩]
  | .ETH_IPADDR1 => [⟨31, 0, .RW, 0x0⟩]
  | .ETH_IPADDR2 => [⟨31, 0, .RW, 0x0⟩]
  | .ETH_IPADDR3 => [⟨31, 0, .RW, 0x0⟩]
  | .ETH_MW_BASE_LO => [⟨31, 12, .RW, 0x0⟩]
  | .ETH_MW_BASE_HI => [⟨7, 0, .RW, 0x0⟩]
  | .ETH_MW_LEN => [⟨27, 0, .RW, 0x0⟩]
  | .ETH_MW_CTL => [⟨23, 0, .RO, 0x0⟩, ⟨29, 29, .RW, 0x0⟩, ⟨30, 30, .RW, 0x0⟩, ⟨31, 31, .RW, 0x0⟩]
  | .ETH_DB_TAG => [⟨23, 0, .RO, 0x0⟩, ⟨31, 31, .W1S, 0x0⟩]
  | .ETH_QP_BIND => [⟨4, 0, .RW, 0x0⟩, ⟨16, 16, .RW, 0x0⟩, ⟨27, 24, .RW, 0x0⟩, ⟨31, 31, .RW, 0x0⟩]
  | .ETH_QP_DQPN => [⟨23, 0, .RW, 0x0⟩]
  | .ETH_QP_SPSN => [⟨23, 0, .RW, 0x0⟩]
  | .ETH_QP_RPSN => [⟨23, 0, .RW, 0x0⟩]
  | .ETH_QP_DGID0 => [⟨31, 0, .RW, 0x0⟩]
  | .ETH_QP_DGID1 => [⟨31, 0, .RW, 0x0⟩]
  | .ETH_QP_DGID2 => [⟨31, 0, .RW, 0x0⟩]
  | .ETH_QP_DGID3 => [⟨31, 0, .RW, 0x0⟩]
  | .ETH_QP_DMAC_LO => [⟨31, 0, .RW, 0x0⟩]
  | .ETH_QP_DMAC_HI => [⟨15, 0, .RW, 0x0⟩]
  | .ETH_QP_PARAM => [⟨13, 8, .RW, 0x1A⟩, ⟨18, 16, .RW, 0x7⟩, ⟨22, 20, .RW, 0x7⟩, ⟨28, 24, .RW, 0xE⟩, ⟨31, 30, .RW, 0x2⟩]
  | .ETH_QP_STAT => [⟨7, 0, .RO, 0x0⟩, ⟨31, 30, .RO, 0x0⟩]
  | .ETH_RING_BASE_LO => [⟨31, 12, .RW, 0x0⟩]
  | .ETH_RING_BASE_HI => [⟨7, 0, .RW, 0x0⟩]
  | .ETH_RING_CTL => [⟨4, 0, .RW, 0x6⟩, ⟨5, 5, .RW, 0x0⟩, ⟨27, 16, .RW, 0x0⟩, ⟨31, 31, .RW, 0x0⟩]
  | .ETH_RING_PI => [⟨31, 0, .RW, 0x0⟩]
  | .ETH_RING_CI => [⟨31, 0, .RO, 0x0⟩]
  | .ETH_RING_DONE => [⟨31, 0, .RO, 0x0⟩]
  | .ETH_CQ_BASE_LO => [⟨31, 12, .RW, 0x0⟩]
  | .ETH_CQ_BASE_HI => [⟨7, 0, .RW, 0x0⟩]
  | .ETH_CQ_CI => [⟨31, 0, .RW, 0x0⟩]
  | .ETH_RING_STAT => [⟨0, 0, .W1C, 0x0⟩, ⟨1, 1, .W1C, 0x0⟩, ⟨2, 2, .RO, 0x0⟩, ⟨3, 3, .RO, 0x0⟩]
  | .ETH_PART_STATE => [⟨2, 0, .RO, 0x0⟩, ⟨11, 8, .RO, 0x0⟩]
  | .ETH_PART_CKPT_LO => [⟨31, 0, .RO, 0x0⟩]
  | .ETH_PART_CKPT_HI => [⟨31, 0, .RO, 0x0⟩]
  | .MEM_ID => [⟨20, 0, .RO, 0x120000⟩, ⟨28, 24, .RO, 0x10⟩]
  | .MEM_STATE => [⟨2, 0, .RO, 0x0⟩, ⟨8, 8, .RO, 0x0⟩, ⟨9, 9, .RO, 0x0⟩]
  | .MEM_CAUSE => [⟨0, 0, .W1C, 0x0⟩, ⟨1, 1, .W1C, 0x0⟩, ⟨2, 2, .W1C, 0x0⟩, ⟨3, 3, .W1C, 0x0⟩, ⟨4, 4, .W1C, 0x0⟩, ⟨5, 5, .W1C, 0x0⟩, ⟨6, 6, .W1C, 0x0⟩, ⟨7, 7, .W1C, 0x0⟩, ⟨8, 8, .W1C, 0x0⟩]
  | .MEM_CAUSE_IE => [⟨8, 0, .RW, 0x1DE⟩]
  | .MEM_CE_CNT => [⟨31, 0, .RO, 0x0⟩]
  | .MEM_UE_CNT => [⟨31, 0, .RO, 0x0⟩]
  | .MEM_UE_ADDR_LO => [⟨31, 6, .RO, 0x0⟩]
  | .MEM_UE_ADDR_HI => [⟨4, 0, .RO, 0x0⟩, ⟨31, 31, .RO, 0x0⟩]
  | .MEM_SCRUB_CTL => [⟨7, 0, .RW, 0x18⟩, ⟨8, 8, .RW, 0x1⟩]
  | .MEM_SPARE_CTL => [⟨7, 0, .RW, 0x10⟩]
  | .MEM_SPARE_STAT => [⟨15, 0, .RO, 0x0⟩, ⟨25, 16, .RO, 0x0⟩]
  | .MEM_SWEEP_CTL => [⟨5, 0, .RW, 0x5⟩]
  | .MEM_PART_SET => [⟨7, 0, .RW, 0x0⟩, ⟨8, 8, .RW, 0x0⟩]
  | .MEM_PART_BASE => [⟨20, 0, .RW, 0x0⟩]
  | .MEM_PART_FRAMES => [⟨20, 0, .RW, 0x0⟩]
  | .MEM_PART_LEND => [⟨31, 0, .RO, 0x0⟩]
  | .MEM_ROT_CTL => [⟨0, 0, .W1S, 0x0⟩, ⟨1, 1, .RO, 0x0⟩, ⟨5, 4, .RO, 0x0⟩, ⟨7, 6, .RO, 0x0⟩]
  | .MEM_ROT_OLDCNT => [⟨23, 0, .RO, 0x0⟩]
  | .MEM_LEND_OFFER => [⟨23, 0, .RW, 0x0⟩]
  | .MEM_LEND_OUT => [⟨23, 0, .RO, 0x0⟩]
  | .CLU_ID => [⟨6, 0, .RO, 0x0⟩, ⟨9, 8, .RO, 0x0⟩, ⟨23, 16, .RO, 0xFF⟩]
  | .CLU_STATE => [⟨3, 0, .RO, 0x0⟩, ⟨4, 4, .RO, 0x0⟩, ⟨11, 8, .RO, 0x0⟩, ⟨12, 12, .RO, 0x0⟩]
  | .CLU_ENG_MAP => [⟨15, 0, .RO, 0x0⟩, ⟨18, 16, .RO, 0x0⟩]
  | .CLU_CAUSE => [⟨0, 0, .W1C, 0x0⟩, ⟨1, 1, .W1C, 0x0⟩, ⟨2, 2, .W1C, 0x0⟩, ⟨3, 3, .W1C, 0x0⟩, ⟨4, 4, .RO, 0x0⟩, ⟨5, 5, .W1C, 0x0⟩, ⟨6, 6, .W1C, 0x0⟩, ⟨7, 7, .W1C, 0x0⟩, ⟨8, 8, .W1C, 0x0⟩]
  | .CLU_CAUSE_IE => [⟨8, 0, .RW, 0x1FB⟩]
  | .CLU_STORE_CE_CNT => [⟨31, 0, .RO, 0x0⟩]
  | .CLU_STORE_UE_ADDR => [⟨0, 0, .RO, 0x0⟩, ⟨25, 6, .RO, 0x0⟩]
  | .CLU_WDOG => [⟨15, 0, .RW, 0x100⟩]
  | .CLU_STALL => [⟨15, 0, .RO, 0x0⟩, ⟨19, 16, .RO, 0x0⟩, ⟨20, 20, .RO, 0x0⟩]
  | .CLU_TOK_SEL => [⟨7, 0, .RW, 0x0⟩, ⟨8, 8, .RW, 0x0⟩]
  | .CLU_TOK_READ => [⟨15, 0, .RO, 0x0⟩, ⟨23, 16, .RO, 0x0⟩]
  | .CLU_BOB_STAT => [⟨6, 0, .RO, 0x0⟩, ⟨14, 8, .RO, 0x0⟩, ⟨22, 16, .RO, 0x0⟩, ⟨30, 24, .RO, 0x0⟩]
  | .CLU_ARITH_STAT => [⟨0, 0, .W1C, 0x0⟩, ⟨1, 1, .W1C, 0x0⟩, ⟨2, 2, .W1C, 0x0⟩, ⟨3, 3, .W1C, 0x0⟩, ⟨4, 4, .W1C, 0x0⟩, ⟨5, 5, .W1C, 0x0⟩, ⟨31, 16, .W1C, 0x0⟩]
  | .CLU_ARITH_RELAX_CNT => [⟨31, 0, .RO, 0x0⟩]
  | .CLU_ARITH_IE => [⟨5, 0, .RW, 0x0⟩]

/-- Registers of block SYS, part 0. -/
def regsOfSYS0 : List Reg := [Reg.SYS_ID, Reg.SYS_FWVER, Reg.SYS_RESET, Reg.SYS_CAUSE, Reg.SYS_CAUSE_IE, Reg.SYS_CLK, Reg.SYS_SERIAL, Reg.SYS_I3C_STAT, Reg.SYS_SCRATCH]
/-- The registers of block SYS. -/
def regsOfSYS : List Reg := regsOfSYS0
/-- Registers of block IRQ, part 0. -/
def regsOfIRQ0 : List Reg := [Reg.IRQ_SUM, Reg.IRQ_MGMT_EN, Reg.IRQ_TRAY_PEND, Reg.IRQ_TRAY_EN, Reg.IRQ_PIN, Reg.IRQ_INST_FAB, Reg.IRQ_INST_ETH, Reg.IRQ_INST_MEM, Reg.IRQ_INST_CLU0, Reg.IRQ_INST_CLU1, Reg.IRQ_INST_CLU2]
/-- The registers of block IRQ. -/
def regsOfIRQ : List Reg := regsOfIRQ0
/-- Registers of block PWR, part 0. -/
def regsOfPWR0 : List Reg := [Reg.PWR_GEAR_STAT, Reg.PWR_GEAR_REQ, Reg.PWR_CADENCE, Reg.PWR_CAD_SEL, Reg.PWR_CAD_CLU, Reg.PWR_TJ, Reg.PWR_TJ_WARN, Reg.PWR_CAP_CFG, Reg.PWR_CAP_TRAY, Reg.PWR_CAP_ROW, Reg.PWR_CAP_EFF, Reg.PWR_INPUT, Reg.PWR_VCORE_ILIM, Reg.PWR_LIM_CFG, Reg.PWR_LIM_CNT, Reg.PWR_CAUSE]
/-- Registers of block PWR, part 1. -/
def regsOfPWR1 : List Reg := [Reg.PWR_CAUSE_IE, Reg.PWR_TRIP, Reg.PWR_PS_STAT, Reg.PWR_PS_REQ, Reg.PWR_PS_CFG, Reg.PWR_VOTE, Reg.PWR_PS_CAUSE, Reg.PWR_PS_CAUSE_IE, Reg.PWR_HS_STAT, Reg.PWR_FW_CFG, Reg.PWR_FW_THR, Reg.PWR_WAKE_SRC]
/-- The registers of block PWR. -/
def regsOfPWR : List Reg := regsOfPWR0 ++ regsOfPWR1
/-- Registers of block TIM, part 0. -/
def regsOfTIM0 : List Reg := [Reg.TIM_NOW_LO, Reg.TIM_NOW_HI, Reg.TIM_STAT, Reg.TIM_CTL, Reg.TIM_SET_LO, Reg.TIM_SET_HI, Reg.TIM_UTC, Reg.TIM_RATE, Reg.TIM_OPTIME, Reg.TIM_CYCLES, Reg.TIM_CAUSE, Reg.TIM_CAUSE_IE]
/-- The registers of block TIM. -/
def regsOfTIM : List Reg := regsOfTIM0
/-- Registers of block CFG, part 0. -/
def regsOfCFG0 : List Reg := [Reg.CFG_STAT, Reg.CFG_CAUSE, Reg.CFG_CAUSE_IE, Reg.CFG_TRAY, Reg.CFG_HB, Reg.CFG_ALIVE, Reg.CFG_WDOG, Reg.CFG_PERMIT_CFG]
/-- The registers of block CFG. -/
def regsOfCFG : List Reg := regsOfCFG0
/-- Registers of block REC, part 0. -/
def regsOfREC0 : List Reg := [Reg.REC_STAT, Reg.REC_CTL, Reg.REC_CAUSE, Reg.REC_CAUSE_IE, Reg.REC_LOST_CNT, Reg.REC_FIRST_SEQ, Reg.REC_LAST_SEQ, Reg.REC_CUR_CTL, Reg.REC_CUR_SEQ, Reg.REC_CUR_STAT, Reg.REC_WIN]
/-- The registers of block REC. -/
def regsOfREC : List Reg := regsOfREC0
/-- Registers of block SEC, part 0. -/
def regsOfSEC0 : List Reg := [Reg.SEC_STATE, Reg.SEC_SVN, Reg.SEC_CAUSE, Reg.SEC_CAUSE_IE, Reg.SEC_AF_CNT, Reg.SEC_AF_LAST, Reg.SEC_AF_ADDR_LO, Reg.SEC_AF_ADDR_HI, Reg.SEC_SCRUB_BUSY, Reg.SEC_SCRUB_LAST, Reg.SEC_KSLOT, Reg.SEC_AT_SEL, Reg.SEC_AT_BASE_LO, Reg.SEC_AT_BASE_HI, Reg.SEC_AT_LIMIT_LO, Reg.SEC_AT_LIMIT_HI]
/-- Registers of block SEC, part 1. -/
def regsOfSEC1 : List Reg := [Reg.SEC_AT_RIGHTS, Reg.SEC_ADMIT_MOD, Reg.SEC_ADMIT_PART, Reg.SEC_SEAL_BASE, Reg.SEC_SEAL_END]
/-- The registers of block SEC. -/
def regsOfSEC : List Reg := regsOfSEC0 ++ regsOfSEC1
/-- Registers of block CLE, part 0. -/
def regsOfCLE0 : List Reg := [Reg.CLE_CTL, Reg.CLE_CAUSE, Reg.CLE_CAUSE_IE, Reg.CLE_SLOT_FAULT, Reg.CLE_SLOT_DEGR, Reg.CLE_REP_SRC, Reg.CLE_REP_STAT, Reg.CLE_GRP_STAT, Reg.CLE_SLOT_CFG, Reg.CLE_SLOT_IO, Reg.CLE_SLOT_STAT, Reg.CLE_SLOT_FE, Reg.CLE_SLOT_REP, Reg.CLE_SLOT_W_A, Reg.CLE_SLOT_W_B, Reg.CLE_SLOT_W_W]
/-- Registers of block CLE, part 1. -/
def regsOfCLE1 : List Reg := [Reg.CLE_SLOT_W_BAND, Reg.CLE_SLOT_W_KP, Reg.CLE_SLOT_W_KI, Reg.CLE_SLOT_W_KD, Reg.CLE_SLOT_W_DF, Reg.CLE_SLOT_W_KT, Reg.CLE_SLOT_W_KFF, Reg.CLE_SLOT_W_BIAS, Reg.CLE_SLOT_W_UMIN, Reg.CLE_SLOT_W_UMAX, Reg.CLE_SLOT_W_FE_LIM, Reg.CLE_SLOT_W_SAFE, Reg.CLE_SLOT_W_VLIM, Reg.CLE_SLOT_W_ALIM, Reg.CLE_SLOT_W_JLIM, Reg.CLE_SLOT_W_GAIN]
/-- Registers of block CLE, part 2. -/
def regsOfCLE2 : List Reg := [Reg.CLE_SLOT_W_FORGET, Reg.CLE_SLOT_W_LPF, Reg.CLE_SLOT_Y, Reg.CLE_SLOT_U, Reg.CLE_SLOT_I, Reg.CLE_TRC_CFG, Reg.CLE_TRC_NODE, Reg.CLE_TRC_THR, Reg.CLE_TRC_STAT, Reg.CLE_TRC_CUR, Reg.CLE_TRC_DATA, Reg.CLE_REP_TABLE]
/-- The registers of block CLE. -/
def regsOfCLE : List Reg := regsOfCLE0 ++ regsOfCLE1 ++ regsOfCLE2
/-- Registers of block CIO, part 0. -/
def regsOfCIO0 : List Reg := [Reg.CIO_STAT, Reg.CIO_CAUSE, Reg.CIO_CAUSE_IE, Reg.CIO_PWM_CFG, Reg.CIO_PWM_STAT, Reg.CIO_PWM_CLR, Reg.CIO_AO_CFG, Reg.CIO_AI_CFG, Reg.CIO_DI_CFG, Reg.CIO_DI_STAT, Reg.CIO_DO_CFG, Reg.CIO_LEAK_CFG, Reg.CIO_LEAK_CTL, Reg.CIO_LEAK_STAT, Reg.CIO_SENS_STAT, Reg.CIO_HB_CFG]
/-- Registers of block CIO, part 1. -/
def regsOfCIO1 : List Reg := [Reg.CIO_HB_STAT, Reg.CIO_CH_AO, Reg.CIO_CH_PWM, Reg.CIO_CH_AI, Reg.CIO_CH_TACH, Reg.CIO_CH_PT, Reg.CIO_CH_TEMP, Reg.CIO_CH_PRESS, Reg.CIO_CH_FLOW, Reg.CIO_CH_HB]
/-- The registers of block CIO. -/
def regsOfCIO : List Reg := regsOfCIO0 ++ regsOfCIO1
/-- Registers of block CLN, part 0. -/
def regsOfCLN0 : List Reg := [Reg.CLN_CH_CFG, Reg.CLN_NBT, Reg.CLN_DBT, Reg.CLN_CH_STAT, Reg.SUPERSEDED, Reg.DUPLICATE, Reg.RX_DROP, Reg.IGNORED, Reg.BUSOFF_CNT, Reg.CLN_RXQ_STAT, Reg.CLN_RXQ_CUR, Reg.CLN_RXQ_ACK, Reg.CLN_RXWIN, Reg.CLN_CTL, Reg.CLN_TIME, Reg.CLN_CAUSE]
/-- Registers of block CLN, part 1. -/
def regsOfCLN1 : List Reg := [Reg.CLN_CAUSE_IE, Reg.CLN_RXQ_MASK_LO, Reg.CLN_RXQ_MASK_HI, Reg.CLN_EVQ_ID, Reg.CLN_EVQ_LEN, Reg.CLN_EVQ_CMD, Reg.CLN_EVQ_BUSY, Reg.CLN_EVQ_DATA, Reg.CLN_SCHED, Reg.CLN_TXMAP, Reg.CLN_RXMAP, Reg.ROW_CFG, Reg.ROW_STAT, Reg.ROW_CMD, Reg.ROW_CAUSE, Reg.ROW_CAUSE_IE]
/-- Registers of block CLN, part 2. -/
def regsOfCLN2 : List Reg := [Reg.ROW_GATED_CNT, Reg.ROW_BUDGET, Reg.ROW_HEAT_CFG, Reg.ROW_HEAT_CFG2, Reg.ROW_SRC, Reg.ROW_SLOTS, Reg.ROW_PUMP_CFG, Reg.ROW_PUMP, Reg.ROW_MEMBER]
/-- The registers of block CLN. -/
def regsOfCLN : List Reg := regsOfCLN0 ++ regsOfCLN1 ++ regsOfCLN2
/-- Registers of block MTR, part 0. -/
def regsOfMTR0 : List Reg := [Reg.MTR_STAT, Reg.MTR_CAUSE, Reg.MTR_CAUSE_IE, Reg.MTR_LINK_CNT, Reg.MTR_SNAP_FLOW, Reg.MTR_SNAP_TEMP, Reg.MTR_SNAP_PWR, Reg.MTR_SNAP_STATUS, Reg.MTR_SNAP_STAMP, Reg.MTR_REQ, Reg.MTR_RESP]
/-- The registers of block MTR. -/
def regsOfMTR : List Reg := regsOfMTR0
/-- Registers of block FAB, part 0. -/
def regsOfFAB0 : List Reg := [Reg.FAB_PORT_CFG, Reg.FAB_PORT_STAT, Reg.FAB_PORT_CMD, Reg.FAB_PORT_CAUSE, Reg.FAB_PORT_CAUSE_IE, Reg.FAB_PORT_VCBUF, Reg.FAB_PORT_ARB, Reg.FAB_LINK_STAT, Reg.FAB_LINK_PEER, Reg.FAB_LINK_REPLAY_CNT, Reg.FAB_LINK_DOWN_CNT, Reg.FAB_LANE_STAT, Reg.FAB_LANE_FEC_CE, Reg.FAB_LANE_FEC_UE, Reg.FAB_TR_ID, Reg.FAB_TR_CTL]
/-- Registers of block FAB, part 1. -/
def regsOfFAB1 : List Reg := [Reg.FAB_TR_CAUSE, Reg.FAB_TR_CAUSE_IE, Reg.FAB_RT_CTL, Reg.FAB_RT_EPOCH, Reg.FAB_TR_LAST_STALL, Reg.FAB_TR_RETX_CNT, Reg.FAB_TR_DROP_CNT, Reg.FAB_MOD_SEL, Reg.FAB_MOD_STAT, Reg.FAB_COLL_BUSY_LO, Reg.FAB_COLL_BUSY_HI, Reg.FAB_ROUTE_LO, Reg.FAB_ROUTE_HI]
/-- The registers of block FAB. -/
def regsOfFAB : List Reg := regsOfFAB0 ++ regsOfFAB1
/-- Registers of block ETH, part 0. -/
def regsOfETH0 : List Reg := [Reg.ETH_PORT_CFG, Reg.ETH_PORT_STAT, Reg.ETH_PORT_CAUSE, Reg.ETH_PORT_CAUSE_IE, Reg.ETH_PORT_DROP_CNT, Reg.ETH_PORT_SECERR_CNT, Reg.ETH_PORT_CNP_CNT, Reg.ETH_PTP_CFG, Reg.ETH_VLAN, Reg.ETH_IPADDR0, Reg.ETH_IPADDR1, Reg.ETH_IPADDR2, Reg.ETH_IPADDR3, Reg.ETH_MW_BASE_LO, Reg.ETH_MW_BASE_HI, Reg.ETH_MW_LEN]
/-- Registers of block ETH, part 1. -/
def regsOfETH1 : List Reg := [Reg.ETH_MW_CTL, Reg.ETH_DB_TAG, Reg.ETH_QP_BIND, Reg.ETH_QP_DQPN, Reg.ETH_QP_SPSN, Reg.ETH_QP_RPSN, Reg.ETH_QP_DGID0, Reg.ETH_QP_DGID1, Reg.ETH_QP_DGID2, Reg.ETH_QP_DGID3, Reg.ETH_QP_DMAC_LO, Reg.ETH_QP_DMAC_HI, Reg.ETH_QP_PARAM, Reg.ETH_QP_STAT, Reg.ETH_RING_BASE_LO, Reg.ETH_RING_BASE_HI]
/-- Registers of block ETH, part 2. -/
def regsOfETH2 : List Reg := [Reg.ETH_RING_CTL, Reg.ETH_RING_PI, Reg.ETH_RING_CI, Reg.ETH_RING_DONE, Reg.ETH_CQ_BASE_LO, Reg.ETH_CQ_BASE_HI, Reg.ETH_CQ_CI, Reg.ETH_RING_STAT, Reg.ETH_PART_STATE, Reg.ETH_PART_CKPT_LO, Reg.ETH_PART_CKPT_HI]
/-- The registers of block ETH. -/
def regsOfETH : List Reg := regsOfETH0 ++ regsOfETH1 ++ regsOfETH2
/-- Registers of block MEM, part 0. -/
def regsOfMEM0 : List Reg := [Reg.MEM_ID, Reg.MEM_STATE, Reg.MEM_CAUSE, Reg.MEM_CAUSE_IE, Reg.MEM_CE_CNT, Reg.MEM_UE_CNT, Reg.MEM_UE_ADDR_LO, Reg.MEM_UE_ADDR_HI, Reg.MEM_SCRUB_CTL, Reg.MEM_SPARE_CTL, Reg.MEM_SPARE_STAT, Reg.MEM_SWEEP_CTL, Reg.MEM_PART_SET, Reg.MEM_PART_BASE, Reg.MEM_PART_FRAMES, Reg.MEM_PART_LEND]
/-- Registers of block MEM, part 1. -/
def regsOfMEM1 : List Reg := [Reg.MEM_ROT_CTL, Reg.MEM_ROT_OLDCNT, Reg.MEM_LEND_OFFER, Reg.MEM_LEND_OUT]
/-- The registers of block MEM. -/
def regsOfMEM : List Reg := regsOfMEM0 ++ regsOfMEM1
/-- Registers of block CLU, part 0. -/
def regsOfCLU0 : List Reg := [Reg.CLU_ID, Reg.CLU_STATE, Reg.CLU_ENG_MAP, Reg.CLU_CAUSE, Reg.CLU_CAUSE_IE, Reg.CLU_STORE_CE_CNT, Reg.CLU_STORE_UE_ADDR, Reg.CLU_WDOG, Reg.CLU_STALL, Reg.CLU_TOK_SEL, Reg.CLU_TOK_READ, Reg.CLU_BOB_STAT, Reg.CLU_ARITH_STAT, Reg.CLU_ARITH_RELAX_CNT, Reg.CLU_ARITH_IE]
/-- The registers of block CLU. -/
def regsOfCLU : List Reg := regsOfCLU0
/-- The registers of a block. -/
def Block.regs : Block → List Reg
  | .SYS => regsOfSYS
  | .IRQ => regsOfIRQ
  | .PWR => regsOfPWR
  | .TIM => regsOfTIM
  | .CFG => regsOfCFG
  | .REC => regsOfREC
  | .SEC => regsOfSEC
  | .CLE => regsOfCLE
  | .CIO => regsOfCIO
  | .CLN => regsOfCLN
  | .MTR => regsOfMTR
  | .FAB => regsOfFAB
  | .ETH => regsOfETH
  | .MEM => regsOfMEM
  | .CLU => regsOfCLU

/-- First address of a block (R485). -/
def Block.base : Block → Nat
  | .SYS => 0x0
  | .IRQ => 0x10000
  | .PWR => 0x20000
  | .TIM => 0x30000
  | .CFG => 0x40000
  | .REC => 0x50000
  | .SEC => 0x60000
  | .CLE => 0x80000
  | .CIO => 0xA0000
  | .CLN => 0xB0000
  | .MTR => 0xC0000
  | .FAB => 0x100000
  | .ETH => 0x200000
  | .MEM => 0x300000
  | .CLU => 0x400000

/-- Last address of a block (R485). -/
def Block.last : Block → Nat
  | .SYS => 0xFFFF
  | .IRQ => 0x1FFFF
  | .PWR => 0x2FFFF
  | .TIM => 0x3FFFF
  | .CFG => 0x4FFFF
  | .REC => 0x5FFFF
  | .SEC => 0x6FFFF
  | .CLE => 0x9FFFF
  | .CIO => 0xAFFFF
  | .CLN => 0xBFFFF
  | .MTR => 0xCFFFF
  | .FAB => 0x1FFFFF
  | .ETH => 0x2FFFFF
  | .MEM => 0x37FFFF
  | .CLU => 0x50FFFF

/-- The BLOCK number of R485. -/
def Block.num : Block → Nat
  | .SYS => 0
  | .IRQ => 1
  | .PWR => 2
  | .TIM => 3
  | .CFG => 4
  | .REC => 5
  | .SEC => 6
  | .CLE => 7
  | .CIO => 8
  | .CLN => 9
  | .MTR => 10
  | .FAB => 11
  | .ETH => 12
  | .MEM => 13
  | .CLU => 14

/-- Every block, in the order of R485. -/
def Block.all : List Block := [.SYS, .IRQ, .PWR, .TIM, .CFG, .REC, .SEC, .CLE, .CIO, .CLN, .MTR, .FAB, .ETH, .MEM, .CLU]

/-- Address of instance `i` of a register in the management space. -/
def Reg.addr (r : Reg) (i : Nat) : Nat :=
  r.info.block.base + r.info.off + i / r.info.inner * r.info.outerStep + i % r.info.inner * r.info.innerStep

/-- The instance of register `r` that stands at offset `o` of its block, if one does. -/
def Reg.instAt (r : Reg) (o : Nat) : Option Nat :=
  let n := r.info
  if o < n.off then none
  else if n.count ≤ 1 then (if o = n.off then some 0 else none)
  else
    let d := o - n.off
    let a := d / n.outerStep
    let b := d % n.outerStep
    if n.inner ≤ 1 then (if b = 0 ∧ a < n.count then some a else none)
    else if b % n.innerStep = 0 ∧ b / n.innerStep < n.inner ∧ a * n.inner + b / n.innerStep < n.count then
      some (a * n.inner + b / n.innerStep)
    else none

/-- The block an address belongs to, if any (R485). -/
def blockAt (a : Nat) : Option Block := Block.all.find? fun b => decide (b.base ≤ a ∧ a ≤ b.last)

/-- The register instance at offset `o` among a list of registers. -/
def findReg (o : Nat) : List Reg → Option (Reg × Nat)
  | [] => none
  | r :: rs => match r.instAt o with
    | some i => some (r, i)
    | none => findReg o rs

/-- The register instance at an address; `none` at a reserved address or outside every block. -/
def regAt (a : Nat) : Option (Reg × Nat) :=
  match blockAt a with
  | none => none
  | some b => findReg (a - b.base) b.regs

/-- The bits `lo` to `hi` of a word as a mask. -/
def maskBits (hi lo : Nat) : Word := BitVec.ofNat 32 (2 ^ (hi + 1 - lo) - 1) <<< lo

/-- The bits of a register whose access type is `a`. -/
def Reg.accMask (r : Reg) (a : Acc) : Word :=
  r.fields.foldl (fun w f => if f.acc = a then w ||| maskBits f.hi f.lo else w) 0

/-- The reset value the field table gives, without the terms that depend on the instance. -/
def Reg.resetBase (r : Reg) : Word :=
  r.fields.foldl (fun w f => w ||| (BitVec.ofNat 32 f.rst <<< f.lo)) 0

/-- The reset value of instance `i`: the field tables' values, with the three fields whose reset value
is stated as a function of the index (CLU_ID of R93, CIO_AO_CFG and CIO_LEAK_CFG of R340).  A field
whose reset value names a source reads 0 from reset (R497). -/
def Reg.reset (r : Reg) (i : Nat) : Word :=
  match r with
  | .CLU_ID => Reg.resetBase .CLU_ID ||| BitVec.ofNat 32 (i / 17 * 0x100 + i % 128)
  | .CIO_AO_CFG => Reg.resetBase .CIO_AO_CFG ||| (if i = 0 then 0x6400 else 0)
  | .CIO_LEAK_CFG => Reg.resetBase .CIO_LEAK_CFG ||| (if i = 4 then 1 else 0)
  | r => r.resetBase

end Sys2Proof.Machine

namespace Sys2Proof.Machine.F

/-! Named fields, REGISTER.FIELD of the spec written REGISTER_FIELD. -/

def SYS_ID_PART : Fld := ⟨.SYS_ID, 31, 16⟩
def SYS_ID_STEP_LETTER : Fld := ⟨.SYS_ID, 15, 12⟩
def SYS_ID_STEP_NUM : Fld := ⟨.SYS_ID, 11, 8⟩
def SYS_FWVER_FWVER : Fld := ⟨.SYS_FWVER, 31, 0⟩
def SYS_RESET_LAST : Fld := ⟨.SYS_RESET, 1, 0⟩
def SYS_CAUSE_REF_BACK : Fld := ⟨.SYS_CAUSE, 1, 1⟩
def SYS_CAUSE_REF_LOSS : Fld := ⟨.SYS_CAUSE, 0, 0⟩
def SYS_CAUSE_IE_EN : Fld := ⟨.SYS_CAUSE_IE, 1, 0⟩
def SYS_CLK_BACKUP : Fld := ⟨.SYS_CLK, 1, 1⟩
def SYS_CLK_REF_OK : Fld := ⟨.SYS_CLK, 0, 0⟩
def SYS_SERIAL_ASCII : Fld := ⟨.SYS_SERIAL, 31, 0⟩
def SYS_I3C_STAT_DYNADDR : Fld := ⟨.SYS_I3C_STAT, 22, 16⟩
def SYS_I3C_STAT_BUSY : Fld := ⟨.SYS_I3C_STAT, 2, 2⟩
def SYS_I3C_STAT_WAKE_NACK : Fld := ⟨.SYS_I3C_STAT, 1, 1⟩
def SYS_I3C_STAT_AF : Fld := ⟨.SYS_I3C_STAT, 0, 0⟩
def SYS_SCRATCH_VALUE : Fld := ⟨.SYS_SCRATCH, 31, 0⟩
def IRQ_SUM_BLOCK : Fld := ⟨.IRQ_SUM, 14, 0⟩
def IRQ_MGMT_EN_BLOCK : Fld := ⟨.IRQ_MGMT_EN, 14, 0⟩
def IRQ_TRAY_PEND_BLOCK : Fld := ⟨.IRQ_TRAY_PEND, 14, 0⟩
def IRQ_TRAY_EN_BLOCK : Fld := ⟨.IRQ_TRAY_EN, 14, 0⟩
def IRQ_PIN_FORCE : Fld := ⟨.IRQ_PIN, 9, 9⟩
def IRQ_PIN_REEDGE : Fld := ⟨.IRQ_PIN, 8, 8⟩
def IRQ_PIN_MGMT : Fld := ⟨.IRQ_PIN, 1, 1⟩
def IRQ_PIN_ASSERTED : Fld := ⟨.IRQ_PIN, 0, 0⟩
def IRQ_INST_FAB_INST : Fld := ⟨.IRQ_INST_FAB, 31, 0⟩
def IRQ_INST_ETH_INST : Fld := ⟨.IRQ_INST_ETH, 31, 0⟩
def IRQ_INST_MEM_INST : Fld := ⟨.IRQ_INST_MEM, 31, 0⟩
def IRQ_INST_CLU0_INST : Fld := ⟨.IRQ_INST_CLU0, 31, 0⟩
def IRQ_INST_CLU1_INST : Fld := ⟨.IRQ_INST_CLU1, 31, 0⟩
def IRQ_INST_CLU2_INST : Fld := ⟨.IRQ_INST_CLU2, 31, 0⟩
def PWR_GEAR_STAT_ASSIST : Fld := ⟨.PWR_GEAR_STAT, 27, 27⟩
def PWR_GEAR_STAT_FBB : Fld := ⟨.PWR_GEAR_STAT, 26, 26⟩
def PWR_GEAR_STAT_SLEW : Fld := ⟨.PWR_GEAR_STAT, 25, 25⟩
def PWR_GEAR_STAT_HOLD : Fld := ⟨.PWR_GEAR_STAT, 24, 24⟩
def PWR_GEAR_STAT_LEVEL : Fld := ⟨.PWR_GEAR_STAT, 20, 16⟩
def PWR_GEAR_STAT_CEIL : Fld := ⟨.PWR_GEAR_STAT, 12, 8⟩
def PWR_GEAR_STAT_DUTY : Fld := ⟨.PWR_GEAR_STAT, 7, 4⟩
def PWR_GEAR_STAT_GEAR : Fld := ⟨.PWR_GEAR_STAT, 3, 0⟩
def PWR_GEAR_REQ_MAX : Fld := ⟨.PWR_GEAR_REQ, 3, 0⟩
def PWR_CADENCE_MIN : Fld := ⟨.PWR_CADENCE, 31, 16⟩
def PWR_CADENCE_MEAN : Fld := ⟨.PWR_CADENCE, 15, 0⟩
def PWR_CAD_SEL_CLUSTER : Fld := ⟨.PWR_CAD_SEL, 6, 0⟩
def PWR_CAD_CLU_RATE : Fld := ⟨.PWR_CAD_CLU, 15, 0⟩
def PWR_TJ_SRC : Fld := ⟨.PWR_TJ, 30, 24⟩
def PWR_TJ_MAX : Fld := ⟨.PWR_TJ, 11, 0⟩
def PWR_TJ_WARN_THRESH : Fld := ⟨.PWR_TJ_WARN, 11, 0⟩
def PWR_CAP_CFG_WATTS : Fld := ⟨.PWR_CAP_CFG, 11, 0⟩
def PWR_CAP_TRAY_WATTS : Fld := ⟨.PWR_CAP_TRAY, 11, 0⟩
def PWR_CAP_ROW_STALE : Fld := ⟨.PWR_CAP_ROW, 31, 31⟩
def PWR_CAP_ROW_WATTS : Fld := ⟨.PWR_CAP_ROW, 11, 0⟩
def PWR_CAP_EFF_SRC : Fld := ⟨.PWR_CAP_EFF, 13, 12⟩
def PWR_CAP_EFF_WATTS : Fld := ⟨.PWR_CAP_EFF, 11, 0⟩
def PWR_INPUT_P_1S : Fld := ⟨.PWR_INPUT, 31, 16⟩
def PWR_INPUT_P_10MS : Fld := ⟨.PWR_INPUT, 15, 0⟩
def PWR_VCORE_ILIM_AMPS : Fld := ⟨.PWR_VCORE_ILIM, 11, 0⟩
def PWR_LIM_CFG_HOLD : Fld := ⟨.PWR_LIM_CFG, 15, 8⟩
def PWR_LIM_CFG_STEP : Fld := ⟨.PWR_LIM_CFG, 2, 0⟩
def PWR_LIM_CNT_COUNT : Fld := ⟨.PWR_LIM_CNT, 31, 0⟩
def PWR_CAUSE_ROW_STALE : Fld := ⟨.PWR_CAUSE, 5, 5⟩
def PWR_CAUSE_CAP_UNMET : Fld := ⟨.PWR_CAUSE, 4, 4⟩
def PWR_CAUSE_CAP_CHG : Fld := ⟨.PWR_CAUSE, 3, 3⟩
def PWR_CAUSE_LIMIT : Fld := ⟨.PWR_CAUSE, 2, 2⟩
def PWR_CAUSE_TJ_WARN : Fld := ⟨.PWR_CAUSE, 1, 1⟩
def PWR_CAUSE_TRIP : Fld := ⟨.PWR_CAUSE, 0, 0⟩
def PWR_CAUSE_IE_EN : Fld := ⟨.PWR_CAUSE_IE, 5, 0⟩
def PWR_TRIP_TRIPPED : Fld := ⟨.PWR_TRIP, 31, 31⟩
def PWR_TRIP_REARM : Fld := ⟨.PWR_TRIP, 16, 16⟩
def PWR_TRIP_TJ_AT_TRIP : Fld := ⟨.PWR_TRIP, 11, 0⟩
def PWR_PS_STAT_TGT : Fld := ⟨.PWR_PS_STAT, 22, 21⟩
def PWR_PS_STAT_CORE_AWAKE : Fld := ⟨.PWR_PS_STAT, 20, 20⟩
def PWR_PS_STAT_STACKS_AWAKE : Fld := ⟨.PWR_PS_STAT, 19, 12⟩
def PWR_PS_STAT_PEND_TGT : Fld := ⟨.PWR_PS_STAT, 10, 9⟩
def PWR_PS_STAT_PEND : Fld := ⟨.PWR_PS_STAT, 8, 8⟩
def PWR_PS_STAT_POINT : Fld := ⟨.PWR_PS_STAT, 6, 4⟩
def PWR_PS_STAT_STATE : Fld := ⟨.PWR_PS_STAT, 2, 0⟩
def PWR_PS_REQ_GO : Fld := ⟨.PWR_PS_REQ, 31, 31⟩
def PWR_PS_REQ_TARGET : Fld := ⟨.PWR_PS_REQ, 1, 0⟩
def PWR_PS_CFG_AUTO : Fld := ⟨.PWR_PS_CFG, 31, 31⟩
def PWR_PS_CFG_IDLE : Fld := ⟨.PWR_PS_CFG, 23, 16⟩
def PWR_PS_CFG_TRIM_IDLE : Fld := ⟨.PWR_PS_CFG, 15, 0⟩
def PWR_VOTE_HELD : Fld := ⟨.PWR_VOTE, 31, 16⟩
def PWR_VOTE_HOLD : Fld := ⟨.PWR_VOTE, 15, 0⟩
def PWR_PS_CAUSE_REPLACED : Fld := ⟨.PWR_PS_CAUSE, 4, 4⟩
def PWR_PS_CAUSE_WAKE : Fld := ⟨.PWR_PS_CAUSE, 3, 3⟩
def PWR_PS_CAUSE_REFUSED : Fld := ⟨.PWR_PS_CAUSE, 2, 2⟩
def PWR_PS_CAUSE_ABORTED : Fld := ⟨.PWR_PS_CAUSE, 1, 1⟩
def PWR_PS_CAUSE_ENTERED : Fld := ⟨.PWR_PS_CAUSE, 0, 0⟩
def PWR_PS_CAUSE_IE_EN : Fld := ⟨.PWR_PS_CAUSE_IE, 4, 0⟩
def PWR_HS_STAT_WAITING : Fld := ⟨.PWR_HS_STAT, 23, 16⟩
def PWR_HS_STAT_LAST : Fld := ⟨.PWR_HS_STAT, 11, 8⟩
def PWR_HS_STAT_TIMEOUT : Fld := ⟨.PWR_HS_STAT, 0, 0⟩
def PWR_FW_CFG_MAXDELAY : Fld := ⟨.PWR_FW_CFG, 31, 16⟩
def PWR_FW_CFG_PERIOD : Fld := ⟨.PWR_FW_CFG, 15, 0⟩
def PWR_FW_THR_PRESS : Fld := ⟨.PWR_FW_THR, 27, 16⟩
def PWR_FW_THR_TOUT : Fld := ⟨.PWR_FW_THR, 11, 0⟩
def PWR_WAKE_SRC_REQ : Fld := ⟨.PWR_WAKE_SRC, 5, 5⟩
def PWR_WAKE_SRC_LEAK : Fld := ⟨.PWR_WAKE_SRC, 4, 4⟩
def PWR_WAKE_SRC_THRESH : Fld := ⟨.PWR_WAKE_SRC, 3, 3⟩
def PWR_WAKE_SRC_I3C : Fld := ⟨.PWR_WAKE_SRC, 2, 2⟩
def PWR_WAKE_SRC_FABRIC : Fld := ⟨.PWR_WAKE_SRC, 1, 1⟩
def PWR_WAKE_SRC_WAKE_IN : Fld := ⟨.PWR_WAKE_SRC, 0, 0⟩
def TIM_NOW_LO_NS : Fld := ⟨.TIM_NOW_LO, 31, 0⟩
def TIM_NOW_HI_NS : Fld := ⟨.TIM_NOW_HI, 31, 0⟩
def TIM_STAT_LOCK_PORT : Fld := ⟨.TIM_STAT, 5, 5⟩
def TIM_STAT_LOCKED : Fld := ⟨.TIM_STAT, 4, 4⟩
def TIM_STAT_HOLDOVER : Fld := ⟨.TIM_STAT, 3, 3⟩
def TIM_STAT_AONSTOP : Fld := ⟨.TIM_STAT, 2, 2⟩
def TIM_STAT_DISC : Fld := ⟨.TIM_STAT, 1, 1⟩
def TIM_STAT_UNSET : Fld := ⟨.TIM_STAT, 0, 0⟩
def TIM_CTL_SET : Fld := ⟨.TIM_CTL, 1, 1⟩
def TIM_CTL_PTP_EN : Fld := ⟨.TIM_CTL, 0, 0⟩
def TIM_SET_LO_NS : Fld := ⟨.TIM_SET_LO, 31, 0⟩
def TIM_SET_HI_NS : Fld := ⟨.TIM_SET_HI, 31, 0⟩
def TIM_UTC_OFFSET : Fld := ⟨.TIM_UTC, 15, 0⟩
def TIM_RATE_TRIM : Fld := ⟨.TIM_RATE, 31, 0⟩
def TIM_OPTIME_COUNT : Fld := ⟨.TIM_OPTIME, 31, 0⟩
def TIM_CYCLES_COUNT : Fld := ⟨.TIM_CYCLES, 31, 0⟩
def TIM_CAUSE_LOCK : Fld := ⟨.TIM_CAUSE, 3, 3⟩
def TIM_CAUSE_PERSIST : Fld := ⟨.TIM_CAUSE, 2, 2⟩
def TIM_CAUSE_DISC : Fld := ⟨.TIM_CAUSE, 1, 1⟩
def TIM_CAUSE_STEP : Fld := ⟨.TIM_CAUSE, 0, 0⟩
def TIM_CAUSE_IE_EN : Fld := ⟨.TIM_CAUSE_IE, 3, 0⟩
def CFG_STAT_MGMT_DEAD : Fld := ⟨.CFG_STAT, 25, 25⟩
def CFG_STAT_RECOVERY : Fld := ⟨.CFG_STAT, 24, 24⟩
def CFG_STAT_RESTARTS : Fld := ⟨.CFG_STAT, 23, 20⟩
def CFG_STAT_DENSITY : Fld := ⟨.CFG_STAT, 19, 17⟩
def CFG_STAT_GATE : Fld := ⟨.CFG_STAT, 16, 16⟩
def CFG_STAT_TRAY_OK : Fld := ⟨.CFG_STAT, 15, 15⟩
def CFG_STAT_TRIP_OK : Fld := ⟨.CFG_STAT, 14, 14⟩
def CFG_STAT_INLET : Fld := ⟨.CFG_STAT, 13, 13⟩
def CFG_STAT_EMERG_OK : Fld := ⟨.CFG_STAT, 12, 12⟩
def CFG_STAT_DRY : Fld := ⟨.CFG_STAT, 11, 11⟩
def CFG_STAT_FLOW : Fld := ⟨.CFG_STAT, 10, 10⟩
def CFG_STAT_IMAGE : Fld := ⟨.CFG_STAT, 9, 8⟩
def CFG_STAT_STEP : Fld := ⟨.CFG_STAT, 3, 0⟩
def CFG_CAUSE_CFGERR : Fld := ⟨.CFG_CAUSE, 9, 9⟩
def CFG_CAUSE_CFG_REC : Fld := ⟨.CFG_CAUSE, 8, 8⟩
def CFG_CAUSE_CFG_BAD : Fld := ⟨.CFG_CAUSE, 7, 7⟩
def CFG_CAUSE_MGMT_DEAD : Fld := ⟨.CFG_CAUSE, 6, 6⟩
def CFG_CAUSE_MGMT_RESTART : Fld := ⟨.CFG_CAUSE, 5, 5⟩
def CFG_CAUSE_TRAY_SHUT : Fld := ⟨.CFG_CAUSE, 4, 4⟩
def CFG_CAUSE_HB_MISS : Fld := ⟨.CFG_CAUSE, 3, 3⟩
def CFG_CAUSE_PERMIT_LOST : Fld := ⟨.CFG_CAUSE, 2, 2⟩
def CFG_CAUSE_PERMIT_WAIT : Fld := ⟨.CFG_CAUSE, 1, 1⟩
def CFG_CAUSE_STARTED : Fld := ⟨.CFG_CAUSE, 0, 0⟩
def CFG_CAUSE_IE_EN : Fld := ⟨.CFG_CAUSE_IE, 9, 0⟩
def CFG_TRAY_MINFLOW : Fld := ⟨.CFG_TRAY, 23, 16⟩
def CFG_TRAY_PERIOD : Fld := ⟨.CFG_TRAY, 15, 8⟩
def CFG_TRAY_RESTART : Fld := ⟨.CFG_TRAY, 2, 2⟩
def CFG_TRAY_AUTO : Fld := ⟨.CFG_TRAY, 1, 1⟩
def CFG_TRAY_MODE : Fld := ⟨.CFG_TRAY, 0, 0⟩
def CFG_HB_VALUE : Fld := ⟨.CFG_HB, 31, 0⟩
def CFG_ALIVE_HB_AGE : Fld := ⟨.CFG_ALIVE, 31, 16⟩
def CFG_ALIVE_COUNT : Fld := ⟨.CFG_ALIVE, 15, 0⟩
def CFG_WDOG_KICK : Fld := ⟨.CFG_WDOG, 31, 31⟩
def CFG_WDOG_EN : Fld := ⟨.CFG_WDOG, 16, 16⟩
def CFG_WDOG_TIMEOUT : Fld := ⟨.CFG_WDOG, 15, 0⟩
def CFG_PERMIT_CFG_LOSS : Fld := ⟨.CFG_PERMIT_CFG, 31, 24⟩
def CFG_PERMIT_CFG_INLET_MAX : Fld := ⟨.CFG_PERMIT_CFG, 23, 16⟩
def CFG_PERMIT_CFG_INLET_MIN : Fld := ⟨.CFG_PERMIT_CFG, 15, 8⟩
def CFG_PERMIT_CFG_FLOW_MIN : Fld := ⟨.CFG_PERMIT_CFG, 7, 0⟩
def REC_STAT_SCHEME : Fld := ⟨.REC_STAT, 31, 31⟩
def REC_STAT_FROZEN : Fld := ⟨.REC_STAT, 30, 30⟩
def REC_STAT_FLUSHING : Fld := ⟨.REC_STAT, 29, 29⟩
def REC_STAT_ERASING : Fld := ⟨.REC_STAT, 28, 28⟩
def REC_STAT_CHG_FILL : Fld := ⟨.REC_STAT, 22, 16⟩
def REC_STAT_FILL : Fld := ⟨.REC_STAT, 10, 0⟩
def REC_CTL_FREEZE : Fld := ⟨.REC_CTL, 31, 31⟩
def REC_CTL_FLUSH : Fld := ⟨.REC_CTL, 30, 30⟩
def REC_CTL_FREEZE_MAX : Fld := ⟨.REC_CTL, 23, 16⟩
def REC_CAUSE_BAD_RECORD : Fld := ⟨.REC_CAUSE, 5, 5⟩
def REC_CAUSE_CHG_FULL : Fld := ⟨.REC_CAUSE, 4, 4⟩
def REC_CAUSE_FREEZE_END : Fld := ⟨.REC_CAUSE, 3, 3⟩
def REC_CAUSE_FULL : Fld := ⟨.REC_CAUSE, 2, 2⟩
def REC_CAUSE_FLASH_ERR : Fld := ⟨.REC_CAUSE, 1, 1⟩
def REC_CAUSE_LOST : Fld := ⟨.REC_CAUSE, 0, 0⟩
def REC_CAUSE_IE_EN : Fld := ⟨.REC_CAUSE_IE, 5, 0⟩
def REC_LOST_CNT_VALUE : Fld := ⟨.REC_LOST_CNT, 31, 0⟩
def REC_FIRST_SEQ_VALUE : Fld := ⟨.REC_FIRST_SEQ, 31, 0⟩
def REC_LAST_SEQ_VALUE : Fld := ⟨.REC_LAST_SEQ, 31, 0⟩
def REC_CUR_CTL_FIRST : Fld := ⟨.REC_CUR_CTL, 31, 31⟩
def REC_CUR_CTL_LAST : Fld := ⟨.REC_CUR_CTL, 30, 30⟩
def REC_CUR_CTL_AREA : Fld := ⟨.REC_CUR_CTL, 8, 8⟩
def REC_CUR_CTL_MINSEV : Fld := ⟨.REC_CUR_CTL, 1, 0⟩
def REC_CUR_SEQ_SEQ : Fld := ⟨.REC_CUR_SEQ, 31, 0⟩
def REC_CUR_STAT_VALID : Fld := ⟨.REC_CUR_STAT, 31, 31⟩
def REC_CUR_STAT_FETCH : Fld := ⟨.REC_CUR_STAT, 30, 30⟩
def REC_CUR_STAT_BUFFER : Fld := ⟨.REC_CUR_STAT, 29, 29⟩
def REC_CUR_STAT_CRCERR : Fld := ⟨.REC_CUR_STAT, 28, 28⟩
def REC_WIN_WORD : Fld := ⟨.REC_WIN, 31, 0⟩
def SEC_STATE_OPKEY : Fld := ⟨.SEC_STATE, 11, 8⟩
def SEC_STATE_DEBUG : Fld := ⟨.SEC_STATE, 7, 7⟩
def SEC_STATE_COPY : Fld := ⟨.SEC_STATE, 4, 4⟩
def SEC_STATE_ID : Fld := ⟨.SEC_STATE, 1, 0⟩
def SEC_SVN_IMAGE : Fld := ⟨.SEC_SVN, 23, 16⟩
def SEC_SVN_ADVANCED : Fld := ⟨.SEC_SVN, 8, 8⟩
def SEC_SVN_COUNTER : Fld := ⟨.SEC_SVN, 7, 0⟩
def SEC_CAUSE_SVN_ADVANCE : Fld := ⟨.SEC_CAUSE, 7, 7⟩
def SEC_CAUSE_DEBUG_UNLOCK : Fld := ⟨.SEC_CAUSE, 6, 6⟩
def SEC_CAUSE_ID_FAIL : Fld := ⟨.SEC_CAUSE, 5, 5⟩
def SEC_CAUSE_ATTEST : Fld := ⟨.SEC_CAUSE, 4, 4⟩
def SEC_CAUSE_KEY_REFUSED : Fld := ⟨.SEC_CAUSE, 3, 3⟩
def SEC_CAUSE_KEY_LOADED : Fld := ⟨.SEC_CAUSE, 2, 2⟩
def SEC_CAUSE_SCRUB_DONE : Fld := ⟨.SEC_CAUSE, 1, 1⟩
def SEC_CAUSE_ACCESS_FAULT : Fld := ⟨.SEC_CAUSE, 0, 0⟩
def SEC_CAUSE_IE_EN : Fld := ⟨.SEC_CAUSE_IE, 7, 0⟩
def SEC_AF_CNT_COUNT : Fld := ⟨.SEC_AF_CNT, 31, 0⟩
def SEC_AF_LAST_VALID : Fld := ⟨.SEC_AF_LAST, 31, 31⟩
def SEC_AF_LAST_MASTER : Fld := ⟨.SEC_AF_LAST, 25, 16⟩
def SEC_AF_LAST_TARGET : Fld := ⟨.SEC_AF_LAST, 15, 8⟩
def SEC_AF_LAST_KIND : Fld := ⟨.SEC_AF_LAST, 1, 0⟩
def SEC_AF_ADDR_LO_ADDR : Fld := ⟨.SEC_AF_ADDR_LO, 31, 0⟩
def SEC_AF_ADDR_HI_ADDR : Fld := ⟨.SEC_AF_ADDR_HI, 4, 0⟩
def SEC_SCRUB_BUSY_PART : Fld := ⟨.SEC_SCRUB_BUSY, 15, 0⟩
def SEC_SCRUB_LAST_PART : Fld := ⟨.SEC_SCRUB_LAST, 31, 28⟩
def SEC_SCRUB_LAST_TIME : Fld := ⟨.SEC_SCRUB_LAST, 27, 0⟩
def SEC_KSLOT_LOADED : Fld := ⟨.SEC_KSLOT, 31, 31⟩
def SEC_KSLOT_OLD : Fld := ⟨.SEC_KSLOT, 30, 30⟩
def SEC_KSLOT_PART : Fld := ⟨.SEC_KSLOT, 27, 24⟩
def SEC_KSLOT_LOADS : Fld := ⟨.SEC_KSLOT, 7, 0⟩
def SEC_AT_SEL_MASTER : Fld := ⟨.SEC_AT_SEL, 25, 16⟩
def SEC_AT_SEL_TARGET : Fld := ⟨.SEC_AT_SEL, 15, 8⟩
def SEC_AT_SEL_WINDOW : Fld := ⟨.SEC_AT_SEL, 2, 0⟩
def SEC_AT_BASE_LO_ADDR : Fld := ⟨.SEC_AT_BASE_LO, 31, 2⟩
def SEC_AT_BASE_HI_ADDR : Fld := ⟨.SEC_AT_BASE_HI, 4, 0⟩
def SEC_AT_LIMIT_LO_ADDR : Fld := ⟨.SEC_AT_LIMIT_LO, 31, 2⟩
def SEC_AT_LIMIT_HI_ADDR : Fld := ⟨.SEC_AT_LIMIT_HI, 4, 0⟩
def SEC_AT_RIGHTS_VALID : Fld := ⟨.SEC_AT_RIGHTS, 31, 31⟩
def SEC_AT_RIGHTS_X : Fld := ⟨.SEC_AT_RIGHTS, 2, 2⟩
def SEC_AT_RIGHTS_W : Fld := ⟨.SEC_AT_RIGHTS, 1, 1⟩
def SEC_AT_RIGHTS_R : Fld := ⟨.SEC_AT_RIGHTS, 0, 0⟩
def SEC_ADMIT_MOD_VALID : Fld := ⟨.SEC_ADMIT_MOD, 31, 31⟩
def SEC_ADMIT_MOD_HI : Fld := ⟨.SEC_ADMIT_MOD, 27, 16⟩
def SEC_ADMIT_MOD_LO : Fld := ⟨.SEC_ADMIT_MOD, 11, 0⟩
def SEC_ADMIT_PART_MASK : Fld := ⟨.SEC_ADMIT_PART, 15, 0⟩
def SEC_SEAL_BASE_VALID : Fld := ⟨.SEC_SEAL_BASE, 31, 31⟩
def SEC_SEAL_BASE_UNIT : Fld := ⟨.SEC_SEAL_BASE, 23, 0⟩
def SEC_SEAL_END_VALID : Fld := ⟨.SEC_SEAL_END, 31, 31⟩
def SEC_SEAL_END_UNIT : Fld := ⟨.SEC_SEAL_END, 23, 0⟩
def CLE_CTL_EN : Fld := ⟨.CLE_CTL, 0, 0⟩
def CLE_CAUSE_CFGERR : Fld := ⟨.CLE_CAUSE, 7, 7⟩
def CLE_CAUSE_OVF : Fld := ⟨.CLE_CAUSE, 6, 6⟩
def CLE_CAUSE_WIN : Fld := ⟨.CLE_CAUSE, 5, 5⟩
def CLE_CAUSE_TRACE : Fld := ⟨.CLE_CAUSE, 4, 4⟩
def CLE_CAUSE_REP_LOCK : Fld := ⟨.CLE_CAUSE, 3, 3⟩
def CLE_CAUSE_INPUT_LOST : Fld := ⟨.CLE_CAUSE, 2, 2⟩
def CLE_CAUSE_DEGRADED : Fld := ⟨.CLE_CAUSE, 1, 1⟩
def CLE_CAUSE_FAULT : Fld := ⟨.CLE_CAUSE, 0, 0⟩
def CLE_CAUSE_IE_EN : Fld := ⟨.CLE_CAUSE_IE, 7, 0⟩
def CLE_SLOT_FAULT_SLOT : Fld := ⟨.CLE_SLOT_FAULT, 31, 0⟩
def CLE_SLOT_DEGR_SLOT : Fld := ⟨.CLE_SLOT_DEGR, 31, 0⟩
def CLE_REP_SRC_EN : Fld := ⟨.CLE_REP_SRC, 31, 31⟩
def CLE_REP_SRC_PART : Fld := ⟨.CLE_REP_SRC, 3, 0⟩
def CLE_REP_STAT_LOCK : Fld := ⟨.CLE_REP_STAT, 31, 31⟩
def CLE_REP_STAT_PERIOD : Fld := ⟨.CLE_REP_STAT, 29, 0⟩
def CLE_GRP_STAT_ACTIVE : Fld := ⟨.CLE_GRP_STAT, 31, 31⟩
def CLE_GRP_STAT_WIN : Fld := ⟨.CLE_GRP_STAT, 20, 16⟩
def CLE_GRP_STAT_DST : Fld := ⟨.CLE_GRP_STAT, 7, 0⟩
def CLE_SLOT_CFG_PERIOD : Fld := ⟨.CLE_SLOT_CFG, 31, 14⟩
def CLE_SLOT_CFG_ROLE : Fld := ⟨.CLE_SLOT_CFG, 11, 9⟩
def CLE_SLOT_CFG_REPEN : Fld := ⟨.CLE_SLOT_CFG, 8, 8⟩
def CLE_SLOT_CFG_FACT : Fld := ⟨.CLE_SLOT_CFG, 7, 6⟩
def CLE_SLOT_CFG_GRPEN : Fld := ⟨.CLE_SLOT_CFG, 5, 5⟩
def CLE_SLOT_CFG_GRP : Fld := ⟨.CLE_SLOT_CFG, 4, 2⟩
def CLE_SLOT_CFG_DIR : Fld := ⟨.CLE_SLOT_CFG, 1, 1⟩
def CLE_SLOT_CFG_EN : Fld := ⟨.CLE_SLOT_CFG, 0, 0⟩
def CLE_SLOT_IO_DST : Fld := ⟨.CLE_SLOT_IO, 23, 16⟩
def CLE_SLOT_IO_FFSRC : Fld := ⟨.CLE_SLOT_IO, 15, 8⟩
def CLE_SLOT_IO_SRC : Fld := ⟨.CLE_SLOT_IO, 7, 0⟩
def CLE_SLOT_STAT_FE_COUNT : Fld := ⟨.CLE_SLOT_STAT, 31, 16⟩
def CLE_SLOT_STAT_REP_RANGE : Fld := ⟨.CLE_SLOT_STAT, 10, 10⟩
def CLE_SLOT_STAT_HELD : Fld := ⟨.CLE_SLOT_STAT, 9, 9⟩
def CLE_SLOT_STAT_OVF : Fld := ⟨.CLE_SLOT_STAT, 8, 8⟩
def CLE_SLOT_STAT_FORCED : Fld := ⟨.CLE_SLOT_STAT, 7, 7⟩
def CLE_SLOT_STAT_WINNING : Fld := ⟨.CLE_SLOT_STAT, 6, 6⟩
def CLE_SLOT_STAT_MOVING : Fld := ⟨.CLE_SLOT_STAT, 5, 5⟩
def CLE_SLOT_STAT_DEGRADED : Fld := ⟨.CLE_SLOT_STAT, 4, 4⟩
def CLE_SLOT_STAT_INVALID : Fld := ⟨.CLE_SLOT_STAT, 3, 3⟩
def CLE_SLOT_STAT_FAULT : Fld := ⟨.CLE_SLOT_STAT, 1, 1⟩
def CLE_SLOT_STAT_RUN : Fld := ⟨.CLE_SLOT_STAT, 0, 0⟩
def CLE_SLOT_FE_FE_TIME : Fld := ⟨.CLE_SLOT_FE, 15, 0⟩
def CLE_SLOT_REP_FREEZE : Fld := ⟨.CLE_SLOT_REP, 8, 8⟩
def CLE_SLOT_REP_LEAD : Fld := ⟨.CLE_SLOT_REP, 7, 0⟩
def CLE_SLOT_W_A_X : Fld := ⟨.CLE_SLOT_W_A, 31, 24⟩
def CLE_SLOT_W_A_M : Fld := ⟨.CLE_SLOT_W_A, 23, 0⟩
def CLE_SLOT_W_B_X : Fld := ⟨.CLE_SLOT_W_B, 31, 24⟩
def CLE_SLOT_W_B_M : Fld := ⟨.CLE_SLOT_W_B, 23, 0⟩
def CLE_SLOT_W_W_X : Fld := ⟨.CLE_SLOT_W_W, 31, 24⟩
def CLE_SLOT_W_W_M : Fld := ⟨.CLE_SLOT_W_W, 23, 0⟩
def CLE_SLOT_W_BAND_X : Fld := ⟨.CLE_SLOT_W_BAND, 31, 24⟩
def CLE_SLOT_W_BAND_M : Fld := ⟨.CLE_SLOT_W_BAND, 23, 0⟩
def CLE_SLOT_W_KP_X : Fld := ⟨.CLE_SLOT_W_KP, 31, 24⟩
def CLE_SLOT_W_KP_M : Fld := ⟨.CLE_SLOT_W_KP, 23, 0⟩
def CLE_SLOT_W_KI_X : Fld := ⟨.CLE_SLOT_W_KI, 31, 24⟩
def CLE_SLOT_W_KI_M : Fld := ⟨.CLE_SLOT_W_KI, 23, 0⟩
def CLE_SLOT_W_KD_X : Fld := ⟨.CLE_SLOT_W_KD, 31, 24⟩
def CLE_SLOT_W_KD_M : Fld := ⟨.CLE_SLOT_W_KD, 23, 0⟩
def CLE_SLOT_W_DF_X : Fld := ⟨.CLE_SLOT_W_DF, 31, 24⟩
def CLE_SLOT_W_DF_M : Fld := ⟨.CLE_SLOT_W_DF, 23, 0⟩
def CLE_SLOT_W_KT_X : Fld := ⟨.CLE_SLOT_W_KT, 31, 24⟩
def CLE_SLOT_W_KT_M : Fld := ⟨.CLE_SLOT_W_KT, 23, 0⟩
def CLE_SLOT_W_KFF_X : Fld := ⟨.CLE_SLOT_W_KFF, 31, 24⟩
def CLE_SLOT_W_KFF_M : Fld := ⟨.CLE_SLOT_W_KFF, 23, 0⟩
def CLE_SLOT_W_BIAS_X : Fld := ⟨.CLE_SLOT_W_BIAS, 31, 24⟩
def CLE_SLOT_W_BIAS_M : Fld := ⟨.CLE_SLOT_W_BIAS, 23, 0⟩
def CLE_SLOT_W_UMIN_X : Fld := ⟨.CLE_SLOT_W_UMIN, 31, 24⟩
def CLE_SLOT_W_UMIN_M : Fld := ⟨.CLE_SLOT_W_UMIN, 23, 0⟩
def CLE_SLOT_W_UMAX_X : Fld := ⟨.CLE_SLOT_W_UMAX, 31, 24⟩
def CLE_SLOT_W_UMAX_M : Fld := ⟨.CLE_SLOT_W_UMAX, 23, 0⟩
def CLE_SLOT_W_FE_LIM_X : Fld := ⟨.CLE_SLOT_W_FE_LIM, 31, 24⟩
def CLE_SLOT_W_FE_LIM_M : Fld := ⟨.CLE_SLOT_W_FE_LIM, 23, 0⟩
def CLE_SLOT_W_SAFE_X : Fld := ⟨.CLE_SLOT_W_SAFE, 31, 24⟩
def CLE_SLOT_W_SAFE_M : Fld := ⟨.CLE_SLOT_W_SAFE, 23, 0⟩
def CLE_SLOT_W_VLIM_X : Fld := ⟨.CLE_SLOT_W_VLIM, 31, 24⟩
def CLE_SLOT_W_VLIM_M : Fld := ⟨.CLE_SLOT_W_VLIM, 23, 0⟩
def CLE_SLOT_W_ALIM_X : Fld := ⟨.CLE_SLOT_W_ALIM, 31, 24⟩
def CLE_SLOT_W_ALIM_M : Fld := ⟨.CLE_SLOT_W_ALIM, 23, 0⟩
def CLE_SLOT_W_JLIM_X : Fld := ⟨.CLE_SLOT_W_JLIM, 31, 24⟩
def CLE_SLOT_W_JLIM_M : Fld := ⟨.CLE_SLOT_W_JLIM, 23, 0⟩
def CLE_SLOT_W_GAIN_X : Fld := ⟨.CLE_SLOT_W_GAIN, 31, 24⟩
def CLE_SLOT_W_GAIN_M : Fld := ⟨.CLE_SLOT_W_GAIN, 23, 0⟩
def CLE_SLOT_W_FORGET_X : Fld := ⟨.CLE_SLOT_W_FORGET, 31, 24⟩
def CLE_SLOT_W_FORGET_M : Fld := ⟨.CLE_SLOT_W_FORGET, 23, 0⟩
def CLE_SLOT_W_LPF_X : Fld := ⟨.CLE_SLOT_W_LPF, 31, 24⟩
def CLE_SLOT_W_LPF_M : Fld := ⟨.CLE_SLOT_W_LPF, 23, 0⟩
def CLE_SLOT_Y_X : Fld := ⟨.CLE_SLOT_Y, 31, 24⟩
def CLE_SLOT_Y_M : Fld := ⟨.CLE_SLOT_Y, 23, 0⟩
def CLE_SLOT_U_X : Fld := ⟨.CLE_SLOT_U, 31, 24⟩
def CLE_SLOT_U_M : Fld := ⟨.CLE_SLOT_U, 23, 0⟩
def CLE_SLOT_I_X : Fld := ⟨.CLE_SLOT_I, 31, 24⟩
def CLE_SLOT_I_M : Fld := ⟨.CLE_SLOT_I, 23, 0⟩
def CLE_TRC_CFG_ARM : Fld := ⟨.CLE_TRC_CFG, 31, 31⟩
def CLE_TRC_CFG_FIRE : Fld := ⟨.CLE_TRC_CFG, 30, 30⟩
def CLE_TRC_CFG_TRIG : Fld := ⟨.CLE_TRC_CFG, 29, 27⟩
def CLE_TRC_CFG_TSLOT : Fld := ⟨.CLE_TRC_CFG, 26, 22⟩
def CLE_TRC_CFG_PRE : Fld := ⟨.CLE_TRC_CFG, 21, 13⟩
def CLE_TRC_CFG_DIV : Fld := ⟨.CLE_TRC_CFG, 12, 0⟩
def CLE_TRC_NODE_NODE_HI : Fld := ⟨.CLE_TRC_NODE, 24, 16⟩
def CLE_TRC_NODE_NODE_LO : Fld := ⟨.CLE_TRC_NODE, 8, 0⟩
def CLE_TRC_THR_X : Fld := ⟨.CLE_TRC_THR, 31, 24⟩
def CLE_TRC_THR_M : Fld := ⟨.CLE_TRC_THR, 23, 0⟩
def CLE_TRC_STAT_STATE : Fld := ⟨.CLE_TRC_STAT, 31, 30⟩
def CLE_TRC_STAT_PRE_GOT : Fld := ⟨.CLE_TRC_STAT, 12, 0⟩
def CLE_TRC_CUR_SAMPLE : Fld := ⟨.CLE_TRC_CUR, 15, 3⟩
def CLE_TRC_CUR_NODE : Fld := ⟨.CLE_TRC_CUR, 2, 0⟩
def CLE_TRC_DATA_WORD : Fld := ⟨.CLE_TRC_DATA, 31, 0⟩
def CLE_REP_TABLE_X : Fld := ⟨.CLE_REP_TABLE, 31, 24⟩
def CLE_REP_TABLE_M : Fld := ⟨.CLE_REP_TABLE, 23, 0⟩
def CIO_STAT_HB_FAULT : Fld := ⟨.CIO_STAT, 3, 3⟩
def CIO_STAT_EMERG : Fld := ⟨.CIO_STAT, 2, 2⟩
def CIO_STAT_LEAK : Fld := ⟨.CIO_STAT, 1, 1⟩
def CIO_STAT_VPERI : Fld := ⟨.CIO_STAT, 0, 0⟩
def CIO_CAUSE_CFGERR : Fld := ⟨.CIO_CAUSE, 10, 10⟩
def CIO_CAUSE_AO_FAULT : Fld := ⟨.CIO_CAUSE, 9, 9⟩
def CIO_CAUSE_PLAUS : Fld := ⟨.CIO_CAUSE, 8, 8⟩
def CIO_CAUSE_PAIR_MISMATCH : Fld := ⟨.CIO_CAUSE, 7, 7⟩
def CIO_CAUSE_SENS_FAULT : Fld := ⟨.CIO_CAUSE, 6, 6⟩
def CIO_CAUSE_EMERG : Fld := ⟨.CIO_CAUSE, 5, 5⟩
def CIO_CAUSE_DI_STUCK : Fld := ⟨.CIO_CAUSE, 4, 4⟩
def CIO_CAUSE_TACH_OVR : Fld := ⟨.CIO_CAUSE, 3, 3⟩
def CIO_CAUSE_FAN_FAIL : Fld := ⟨.CIO_CAUSE, 2, 2⟩
def CIO_CAUSE_LEAK_FAULT : Fld := ⟨.CIO_CAUSE, 1, 1⟩
def CIO_CAUSE_LEAK_WET : Fld := ⟨.CIO_CAUSE, 0, 0⟩
def CIO_CAUSE_IE_EN : Fld := ⟨.CIO_CAUSE_IE, 10, 0⟩
def CIO_PWM_CFG_EN : Fld := ⟨.CIO_PWM_CFG, 31, 31⟩
def CIO_PWM_CFG_FGEN : Fld := ⟨.CIO_PWM_CFG, 26, 26⟩
def CIO_PWM_CFG_FGRP : Fld := ⟨.CIO_PWM_CFG, 25, 24⟩
def CIO_PWM_CFG_RAMP : Fld := ⟨.CIO_PWM_CFG, 23, 16⟩
def CIO_PWM_CFG_TMIN : Fld := ⟨.CIO_PWM_CFG, 15, 8⟩
def CIO_PWM_CFG_TACHEN : Fld := ⟨.CIO_PWM_CFG, 0, 0⟩
def CIO_PWM_STAT_STATE : Fld := ⟨.CIO_PWM_STAT, 31, 29⟩
def CIO_PWM_STAT_FULL : Fld := ⟨.CIO_PWM_STAT, 28, 28⟩
def CIO_PWM_STAT_OVR : Fld := ⟨.CIO_PWM_STAT, 27, 27⟩
def CIO_PWM_STAT_TRIES : Fld := ⟨.CIO_PWM_STAT, 26, 24⟩
def CIO_PWM_STAT_WHY : Fld := ⟨.CIO_PWM_STAT, 19, 18⟩
def CIO_PWM_STAT_DUTY : Fld := ⟨.CIO_PWM_STAT, 9, 0⟩
def CIO_PWM_CLR_CLR : Fld := ⟨.CIO_PWM_CLR, 7, 0⟩
def CIO_AO_CFG_FAULT : Fld := ⟨.CIO_AO_CFG, 31, 31⟩
def CIO_AO_CFG_REV : Fld := ⟨.CIO_AO_CFG, 16, 16⟩
def CIO_AO_CFG_INIT : Fld := ⟨.CIO_AO_CFG, 15, 8⟩
def CIO_AO_CFG_MODE : Fld := ⟨.CIO_AO_CFG, 1, 0⟩
def CIO_AI_CFG_FAULT : Fld := ⟨.CIO_AI_CFG, 31, 31⟩
def CIO_AI_CFG_FILT : Fld := ⟨.CIO_AI_CFG, 7, 4⟩
def CIO_AI_CFG_MODE : Fld := ⟨.CIO_AI_CFG, 1, 0⟩
def CIO_DI_CFG_POL : Fld := ⟨.CIO_DI_CFG, 18, 18⟩
def CIO_DI_CFG_FUNC : Fld := ⟨.CIO_DI_CFG, 17, 16⟩
def CIO_DI_CFG_FILT : Fld := ⟨.CIO_DI_CFG, 15, 0⟩
def CIO_DI_STAT_STUCK : Fld := ⟨.CIO_DI_STAT, 15, 8⟩
def CIO_DI_STAT_ACTIVE : Fld := ⟨.CIO_DI_STAT, 7, 0⟩
def CIO_DO_CFG_OUT : Fld := ⟨.CIO_DO_CFG, 15, 0⟩
def CIO_LEAK_CFG_RESP : Fld := ⟨.CIO_LEAK_CFG, 2, 2⟩
def CIO_LEAK_CFG_FWET : Fld := ⟨.CIO_LEAK_CFG, 1, 1⟩
def CIO_LEAK_CFG_EN : Fld := ⟨.CIO_LEAK_CFG, 0, 0⟩
def CIO_LEAK_CTL_ACK : Fld := ⟨.CIO_LEAK_CTL, 12, 12⟩
def CIO_LEAK_CTL_VALVE : Fld := ⟨.CIO_LEAK_CTL, 11, 10⟩
def CIO_LEAK_CTL_VDELAY : Fld := ⟨.CIO_LEAK_CTL, 7, 0⟩
def CIO_LEAK_STAT_VCLOSED : Fld := ⟨.CIO_LEAK_STAT, 17, 17⟩
def CIO_LEAK_STAT_LATCH : Fld := ⟨.CIO_LEAK_STAT, 16, 16⟩
def CIO_LEAK_STAT_STATE : Fld := ⟨.CIO_LEAK_STAT, 9, 0⟩
def CIO_SENS_STAT_TACH : Fld := ⟨.CIO_SENS_STAT, 31, 24⟩
def CIO_SENS_STAT_AI : Fld := ⟨.CIO_SENS_STAT, 23, 16⟩
def CIO_SENS_STAT_PT : Fld := ⟨.CIO_SENS_STAT, 8, 7⟩
def CIO_SENS_STAT_FLOW : Fld := ⟨.CIO_SENS_STAT, 6, 6⟩
def CIO_SENS_STAT_PRESS : Fld := ⟨.CIO_SENS_STAT, 5, 4⟩
def CIO_SENS_STAT_TEMP : Fld := ⟨.CIO_SENS_STAT, 3, 0⟩
def CIO_HB_CFG_TIME : Fld := ⟨.CIO_HB_CFG, 23, 16⟩
def CIO_HB_CFG_LIMIT : Fld := ⟨.CIO_HB_CFG, 15, 8⟩
def CIO_HB_CFG_FLUID : Fld := ⟨.CIO_HB_CFG, 1, 1⟩
def CIO_HB_CFG_EN : Fld := ⟨.CIO_HB_CFG, 0, 0⟩
def CIO_HB_STAT_LOWP : Fld := ⟨.CIO_HB_STAT, 26, 26⟩
def CIO_HB_STAT_ISOLATED : Fld := ⟨.CIO_HB_STAT, 25, 25⟩
def CIO_HB_STAT_FAULT : Fld := ⟨.CIO_HB_STAT, 24, 24⟩
def CIO_HB_STAT_M : Fld := ⟨.CIO_HB_STAT, 23, 16⟩
def CIO_HB_STAT_Q : Fld := ⟨.CIO_HB_STAT, 15, 0⟩
def CIO_CH_AO_X : Fld := ⟨.CIO_CH_AO, 31, 24⟩
def CIO_CH_AO_M : Fld := ⟨.CIO_CH_AO, 23, 0⟩
def CIO_CH_PWM_X : Fld := ⟨.CIO_CH_PWM, 31, 24⟩
def CIO_CH_PWM_M : Fld := ⟨.CIO_CH_PWM, 23, 0⟩
def CIO_CH_AI_X : Fld := ⟨.CIO_CH_AI, 31, 24⟩
def CIO_CH_AI_M : Fld := ⟨.CIO_CH_AI, 23, 0⟩
def CIO_CH_TACH_X : Fld := ⟨.CIO_CH_TACH, 31, 24⟩
def CIO_CH_TACH_M : Fld := ⟨.CIO_CH_TACH, 23, 0⟩
def CIO_CH_PT_X : Fld := ⟨.CIO_CH_PT, 31, 24⟩
def CIO_CH_PT_M : Fld := ⟨.CIO_CH_PT, 23, 0⟩
def CIO_CH_TEMP_X : Fld := ⟨.CIO_CH_TEMP, 31, 24⟩
def CIO_CH_TEMP_M : Fld := ⟨.CIO_CH_TEMP, 23, 0⟩
def CIO_CH_PRESS_X : Fld := ⟨.CIO_CH_PRESS, 31, 24⟩
def CIO_CH_PRESS_M : Fld := ⟨.CIO_CH_PRESS, 23, 0⟩
def CIO_CH_FLOW_X : Fld := ⟨.CIO_CH_FLOW, 31, 24⟩
def CIO_CH_FLOW_M : Fld := ⟨.CIO_CH_FLOW, 23, 0⟩
def CIO_CH_HB_X : Fld := ⟨.CIO_CH_HB, 31, 24⟩
def CIO_CH_HB_M : Fld := ⟨.CIO_CH_HB, 23, 0⟩
def CLN_CH_CFG_EN : Fld := ⟨.CLN_CH_CFG, 31, 31⟩
def CLN_CH_CFG_MODE : Fld := ⟨.CLN_CH_CFG, 9, 8⟩
def CLN_CH_CFG_TERM : Fld := ⟨.CLN_CH_CFG, 4, 4⟩
def CLN_CH_CFG_TDC_EN : Fld := ⟨.CLN_CH_CFG, 0, 0⟩
def CLN_NBT_NPRE : Fld := ⟨.CLN_NBT, 31, 24⟩
def CLN_NBT_NTSEG1 : Fld := ⟨.CLN_NBT, 23, 16⟩
def CLN_NBT_NTSEG2 : Fld := ⟨.CLN_NBT, 14, 8⟩
def CLN_NBT_NSJW : Fld := ⟨.CLN_NBT, 6, 0⟩
def CLN_DBT_DPRE : Fld := ⟨.CLN_DBT, 31, 27⟩
def CLN_DBT_DTSEG1 : Fld := ⟨.CLN_DBT, 26, 22⟩
def CLN_DBT_DTSEG2 : Fld := ⟨.CLN_DBT, 21, 18⟩
def CLN_DBT_DSJW : Fld := ⟨.CLN_DBT, 17, 14⟩
def CLN_DBT_TDCO : Fld := ⟨.CLN_DBT, 6, 0⟩
def CLN_CH_STAT_STATE : Fld := ⟨.CLN_CH_STAT, 31, 30⟩
def CLN_CH_STAT_RECEIVING : Fld := ⟨.CLN_CH_STAT, 29, 29⟩
def CLN_CH_STAT_TDCV : Fld := ⟨.CLN_CH_STAT, 22, 16⟩
def CLN_CH_STAT_REC : Fld := ⟨.CLN_CH_STAT, 14, 8⟩
def CLN_CH_STAT_TEC : Fld := ⟨.CLN_CH_STAT, 7, 0⟩
def SUPERSEDED_COUNT : Fld := ⟨.SUPERSEDED, 31, 0⟩
def DUPLICATE_COUNT : Fld := ⟨.DUPLICATE, 31, 0⟩
def RX_DROP_COUNT : Fld := ⟨.RX_DROP, 31, 0⟩
def IGNORED_COUNT : Fld := ⟨.IGNORED, 31, 0⟩
def BUSOFF_CNT_COUNT : Fld := ⟨.BUSOFF_CNT, 31, 0⟩
def CLN_RXQ_STAT_FILL : Fld := ⟨.CLN_RXQ_STAT, 16, 8⟩
def CLN_RXQ_STAT_OLDEST : Fld := ⟨.CLN_RXQ_STAT, 7, 0⟩
def CLN_RXQ_CUR_OFF : Fld := ⟨.CLN_RXQ_CUR, 7, 0⟩
def CLN_RXQ_ACK_COUNT : Fld := ⟨.CLN_RXQ_ACK, 8, 0⟩
def CLN_RXWIN_VALUE : Fld := ⟨.CLN_RXWIN, 31, 0⟩
def CLN_CTL_NCYC : Fld := ⟨.CLN_CTL, 20, 16⟩
def CLN_CTL_CYCLE : Fld := ⟨.CLN_CTL, 7, 0⟩
def CLN_TIME_COUNT : Fld := ⟨.CLN_TIME, 31, 0⟩
def CLN_CAUSE_CFGERR : Fld := ⟨.CLN_CAUSE, 9, 9⟩
def CLN_CAUSE_HELLO : Fld := ⟨.CLN_CAUSE, 8, 8⟩
def CLN_CAUSE_EVQ_FULL : Fld := ⟨.CLN_CAUSE, 7, 7⟩
def CLN_CAUSE_REF_LOST : Fld := ⟨.CLN_CAUSE, 6, 6⟩
def CLN_CAUSE_RXOVF : Fld := ⟨.CLN_CAUSE, 5, 4⟩
def CLN_CAUSE_PASSIVE : Fld := ⟨.CLN_CAUSE, 3, 2⟩
def CLN_CAUSE_BUSOFF : Fld := ⟨.CLN_CAUSE, 1, 0⟩
def CLN_CAUSE_IE_EN : Fld := ⟨.CLN_CAUSE_IE, 9, 0⟩
def CLN_RXQ_MASK_LO_CLASS : Fld := ⟨.CLN_RXQ_MASK_LO, 31, 0⟩
def CLN_RXQ_MASK_HI_CLASS : Fld := ⟨.CLN_RXQ_MASK_HI, 31, 0⟩
def CLN_EVQ_ID_CH : Fld := ⟨.CLN_EVQ_ID, 30, 29⟩
def CLN_EVQ_ID_ID : Fld := ⟨.CLN_EVQ_ID, 28, 0⟩
def CLN_EVQ_LEN_LEN : Fld := ⟨.CLN_EVQ_LEN, 6, 0⟩
def CLN_EVQ_CMD_SUBMIT : Fld := ⟨.CLN_EVQ_CMD, 31, 31⟩
def CLN_EVQ_CMD_CANCEL : Fld := ⟨.CLN_EVQ_CMD, 30, 30⟩
def CLN_EVQ_CMD_LAST : Fld := ⟨.CLN_EVQ_CMD, 12, 8⟩
def CLN_EVQ_CMD_ENTRY : Fld := ⟨.CLN_EVQ_CMD, 4, 0⟩
def CLN_EVQ_BUSY_VALUE : Fld := ⟨.CLN_EVQ_BUSY, 31, 0⟩
def CLN_EVQ_DATA_VALUE : Fld := ⟨.CLN_EVQ_DATA, 31, 0⟩
def CLN_SCHED_VALID : Fld := ⟨.CLN_SCHED, 15, 15⟩
def CLN_SCHED_NODE : Fld := ⟨.CLN_SCHED, 14, 8⟩
def CLN_SCHED_CLASS : Fld := ⟨.CLN_SCHED, 5, 0⟩
def CLN_TXMAP_VALID : Fld := ⟨.CLN_TXMAP, 31, 31⟩
def CLN_TXMAP_NODE : Fld := ⟨.CLN_TXMAP, 22, 16⟩
def CLN_TXMAP_CLASS : Fld := ⟨.CLN_TXMAP, 13, 8⟩
def CLN_RXMAP_VALID : Fld := ⟨.CLN_RXMAP, 31, 31⟩
def CLN_RXMAP_PER : Fld := ⟨.CLN_RXMAP, 30, 23⟩
def CLN_RXMAP_NODE : Fld := ⟨.CLN_RXMAP, 22, 16⟩
def CLN_RXMAP_CLASS : Fld := ⟨.CLN_RXMAP, 13, 8⟩
def CLN_RXMAP_FIELD : Fld := ⟨.CLN_RXMAP, 2, 0⟩
def ROW_CFG_STALE_CAP : Fld := ⟨.ROW_CFG, 27, 16⟩
def ROW_CFG_NODE : Fld := ⟨.ROW_CFG, 14, 8⟩
def ROW_CFG_MEMBER : Fld := ⟨.ROW_CFG, 2, 2⟩
def ROW_CFG_ROLE : Fld := ⟨.ROW_CFG, 1, 0⟩
def ROW_STAT_MIRROR_AGE : Fld := ⟨.ROW_STAT, 31, 16⟩
def ROW_STAT_HEALTHY : Fld := ⟨.ROW_STAT, 15, 10⟩
def ROW_STAT_NOREVERT : Fld := ⟨.ROW_STAT, 9, 9⟩
def ROW_STAT_GATE : Fld := ⟨.ROW_STAT, 8, 8⟩
def ROW_STAT_ILK_PEER : Fld := ⟨.ROW_STAT, 7, 7⟩
def ROW_STAT_ILK_OWN : Fld := ⟨.ROW_STAT, 6, 6⟩
def ROW_STAT_HB_OK : Fld := ⟨.ROW_STAT, 5, 5⟩
def ROW_STAT_STATE : Fld := ⟨.ROW_STAT, 2, 0⟩
def ROW_CMD_HANDOVER : Fld := ⟨.ROW_CMD, 4, 4⟩
def ROW_CMD_PUMPCLR : Fld := ⟨.ROW_CMD, 3, 0⟩
def ROW_CAUSE_CFGERR : Fld := ⟨.ROW_CAUSE, 10, 10⟩
def ROW_CAUSE_CFG_DIFF : Fld := ⟨.ROW_CAUSE, 9, 9⟩
def ROW_CAUSE_BUDGET_INV : Fld := ⟨.ROW_CAUSE, 8, 8⟩
def ROW_CAUSE_ROW_SHORT : Fld := ⟨.ROW_CAUSE, 7, 7⟩
def ROW_CAUSE_PUMP_FAIL : Fld := ⟨.ROW_CAUSE, 6, 6⟩
def ROW_CAUSE_GATED : Fld := ⟨.ROW_CAUSE, 5, 5⟩
def ROW_CAUSE_MIRROR_OLD : Fld := ⟨.ROW_CAUSE, 4, 4⟩
def ROW_CAUSE_ILK_STUCK : Fld := ⟨.ROW_CAUSE, 3, 3⟩
def ROW_CAUSE_ILK_CONFLICT : Fld := ⟨.ROW_CAUSE, 2, 2⟩
def ROW_CAUSE_HANDBACK : Fld := ⟨.ROW_CAUSE, 1, 1⟩
def ROW_CAUSE_TAKEOVER : Fld := ⟨.ROW_CAUSE, 0, 0⟩
def ROW_CAUSE_IE_EN : Fld := ⟨.ROW_CAUSE_IE, 10, 0⟩
def ROW_GATED_CNT_COUNT : Fld := ⟨.ROW_GATED_CNT, 31, 0⟩
def ROW_BUDGET_TRIM : Fld := ⟨.ROW_BUDGET, 31, 25⟩
def ROW_BUDGET_B : Fld := ⟨.ROW_BUDGET, 17, 0⟩
def ROW_HEAT_CFG_LIQ : Fld := ⟨.ROW_HEAT_CFG, 31, 24⟩
def ROW_HEAT_CFG_EPS : Fld := ⟨.ROW_HEAT_CFG, 23, 16⟩
def ROW_HEAT_CFG_T_LIM : Fld := ⟨.ROW_HEAT_CFG, 11, 0⟩
def ROW_HEAT_CFG2_H_FIXED : Fld := ⟨.ROW_HEAT_CFG2, 31, 16⟩
def ROW_HEAT_CFG2_HEADROOM : Fld := ⟨.ROW_HEAT_CFG2, 11, 0⟩
def ROW_SRC_SUP_SLOT : Fld := ⟨.ROW_SRC, 20, 16⟩
def ROW_SRC_FW_TEMP : Fld := ⟨.ROW_SRC, 13, 8⟩
def ROW_SRC_FW_FLOW : Fld := ⟨.ROW_SRC, 5, 0⟩
def ROW_SLOTS_SLOT : Fld := ⟨.ROW_SLOTS, 31, 0⟩
def ROW_PUMP_CFG_ROTATE : Fld := ⟨.ROW_PUMP_CFG, 15, 8⟩
def ROW_PUMP_CFG_NDUTY : Fld := ⟨.ROW_PUMP_CFG, 1, 0⟩
def ROW_PUMP_FITTED : Fld := ⟨.ROW_PUMP, 31, 31⟩
def ROW_PUMP_STATE : Fld := ⟨.ROW_PUMP, 30, 28⟩
def ROW_PUMP_NODE : Fld := ⟨.ROW_PUMP, 26, 20⟩
def ROW_PUMP_HOURS : Fld := ⟨.ROW_PUMP, 19, 0⟩
def ROW_MEMBER_VALID : Fld := ⟨.ROW_MEMBER, 31, 31⟩
def ROW_MEMBER_SILENT : Fld := ⟨.ROW_MEMBER, 30, 30⟩
def ROW_MEMBER_WEIGHT : Fld := ⟨.ROW_MEMBER, 27, 24⟩
def ROW_MEMBER_P : Fld := ⟨.ROW_MEMBER, 23, 12⟩
def ROW_MEMBER_CAP : Fld := ⟨.ROW_MEMBER, 11, 0⟩
def MTR_STAT_MEDIUM_DIFF : Fld := ⟨.MTR_STAT, 4, 4⟩
def MTR_STAT_SEAL_OPENED : Fld := ⟨.MTR_STAT, 3, 3⟩
def MTR_STAT_ERRTIME : Fld := ⟨.MTR_STAT, 2, 2⟩
def MTR_STAT_MEDIUM : Fld := ⟨.MTR_STAT, 1, 1⟩
def MTR_STAT_REACH : Fld := ⟨.MTR_STAT, 0, 0⟩
def MTR_CAUSE_CFGERR : Fld := ⟨.MTR_CAUSE, 7, 7⟩
def MTR_CAUSE_LINK : Fld := ⟨.MTR_CAUSE, 6, 6⟩
def MTR_CAUSE_MEDIUM_DIFF : Fld := ⟨.MTR_CAUSE, 5, 5⟩
def MTR_CAUSE_CHANGE : Fld := ⟨.MTR_CAUSE, 4, 4⟩
def MTR_CAUSE_SEAL : Fld := ⟨.MTR_CAUSE, 3, 3⟩
def MTR_CAUSE_ERRTIME : Fld := ⟨.MTR_CAUSE, 2, 2⟩
def MTR_CAUSE_REACH : Fld := ⟨.MTR_CAUSE, 1, 1⟩
def MTR_CAUSE_UNREACH : Fld := ⟨.MTR_CAUSE, 0, 0⟩
def MTR_CAUSE_IE_EN : Fld := ⟨.MTR_CAUSE_IE, 7, 0⟩
def MTR_LINK_CNT_COUNT : Fld := ⟨.MTR_LINK_CNT, 31, 0⟩
def MTR_SNAP_FLOW_VALUE : Fld := ⟨.MTR_SNAP_FLOW, 31, 0⟩
def MTR_SNAP_TEMP_TOUT : Fld := ⟨.MTR_SNAP_TEMP, 31, 16⟩
def MTR_SNAP_TEMP_TIN : Fld := ⟨.MTR_SNAP_TEMP, 15, 0⟩
def MTR_SNAP_PWR_VALUE : Fld := ⟨.MTR_SNAP_PWR, 31, 0⟩
def MTR_SNAP_STATUS_SEQ : Fld := ⟨.MTR_SNAP_STATUS, 31, 16⟩
def MTR_SNAP_STATUS_REVERSE : Fld := ⟨.MTR_SNAP_STATUS, 8, 8⟩
def MTR_SNAP_STATUS_POWER_GAP : Fld := ⟨.MTR_SNAP_STATUS, 7, 7⟩
def MTR_SNAP_STATUS_SEAL_OPENED : Fld := ⟨.MTR_SNAP_STATUS, 6, 6⟩
def MTR_SNAP_STATUS_PG25 : Fld := ⟨.MTR_SNAP_STATUS, 5, 5⟩
def MTR_SNAP_STATUS_OUT_OF_RANGE : Fld := ⟨.MTR_SNAP_STATUS, 4, 4⟩
def MTR_SNAP_STATUS_MEDIUM_FAULT : Fld := ⟨.MTR_SNAP_STATUS, 3, 3⟩
def MTR_SNAP_STATUS_FLOW_FAULT : Fld := ⟨.MTR_SNAP_STATUS, 2, 2⟩
def MTR_SNAP_STATUS_TOUT_FAULT : Fld := ⟨.MTR_SNAP_STATUS, 1, 1⟩
def MTR_SNAP_STATUS_TIN_FAULT : Fld := ⟨.MTR_SNAP_STATUS, 0, 0⟩
def MTR_SNAP_STAMP_TIME : Fld := ⟨.MTR_SNAP_STAMP, 31, 0⟩
def MTR_REQ_GO : Fld := ⟨.MTR_REQ, 31, 31⟩
def MTR_REQ_BUSY : Fld := ⟨.MTR_REQ, 30, 30⟩
def MTR_REQ_RESULT : Fld := ⟨.MTR_REQ, 29, 28⟩
def MTR_REQ_ARG : Fld := ⟨.MTR_REQ, 15, 8⟩
def MTR_REQ_CODE : Fld := ⟨.MTR_REQ, 7, 0⟩
def MTR_RESP_WORD : Fld := ⟨.MTR_RESP, 31, 0⟩
def FAB_PORT_CFG_EN : Fld := ⟨.FAB_PORT_CFG, 31, 31⟩
def FAB_PORT_CFG_LANE_EN : Fld := ⟨.FAB_PORT_CFG, 23, 16⟩
def FAB_PORT_CFG_AUTOREADD : Fld := ⟨.FAB_PORT_CFG, 9, 9⟩
def FAB_PORT_CFG_KEEPALIVE : Fld := ⟨.FAB_PORT_CFG, 8, 8⟩
def FAB_PORT_CFG_MODE : Fld := ⟨.FAB_PORT_CFG, 1, 0⟩
def FAB_PORT_STAT_RXCLK_LANE : Fld := ⟨.FAB_PORT_STAT, 18, 16⟩
def FAB_PORT_STAT_LANES_UP : Fld := ⟨.FAB_PORT_STAT, 15, 8⟩
def FAB_PORT_STAT_LINKS_UP : Fld := ⟨.FAB_PORT_STAT, 7, 0⟩
def FAB_PORT_CMD_RETRAIN : Fld := ⟨.FAB_PORT_CMD, 7, 0⟩
def FAB_PORT_CAUSE_LINKS : Fld := ⟨.FAB_PORT_CAUSE, 15, 8⟩
def FAB_PORT_CAUSE_CFGERR : Fld := ⟨.FAB_PORT_CAUSE, 6, 6⟩
def FAB_PORT_CAUSE_MISWIRED : Fld := ⟨.FAB_PORT_CAUSE, 5, 5⟩
def FAB_PORT_CAUSE_TRAIN_FAIL : Fld := ⟨.FAB_PORT_CAUSE, 4, 4⟩
def FAB_PORT_CAUSE_LANE_ADD : Fld := ⟨.FAB_PORT_CAUSE, 3, 3⟩
def FAB_PORT_CAUSE_LANE_DROP : Fld := ⟨.FAB_PORT_CAUSE, 2, 2⟩
def FAB_PORT_CAUSE_LINK_UP : Fld := ⟨.FAB_PORT_CAUSE, 1, 1⟩
def FAB_PORT_CAUSE_LINK_DOWN : Fld := ⟨.FAB_PORT_CAUSE, 0, 0⟩
def FAB_PORT_CAUSE_IE_EN : Fld := ⟨.FAB_PORT_CAUSE_IE, 6, 0⟩
def FAB_PORT_VCBUF_COLL : Fld := ⟨.FAB_PORT_VCBUF, 31, 24⟩
def FAB_PORT_VCBUF_UNORD : Fld := ⟨.FAB_PORT_VCBUF, 23, 16⟩
def FAB_PORT_VCBUF_ORD : Fld := ⟨.FAB_PORT_VCBUF, 15, 8⟩
def FAB_PORT_VCBUF_MGMT : Fld := ⟨.FAB_PORT_VCBUF, 7, 0⟩
def FAB_PORT_ARB_W_UNORD : Fld := ⟨.FAB_PORT_ARB, 15, 8⟩
def FAB_PORT_ARB_W_ORD : Fld := ⟨.FAB_PORT_ARB, 7, 0⟩
def FAB_LINK_STAT_RTT : Fld := ⟨.FAB_LINK_STAT, 31, 16⟩
def FAB_LINK_STAT_WIDTH : Fld := ⟨.FAB_LINK_STAT, 11, 8⟩
def FAB_LINK_STAT_STATE : Fld := ⟨.FAB_LINK_STAT, 2, 0⟩
def FAB_LINK_PEER_VALID : Fld := ⟨.FAB_LINK_PEER, 31, 31⟩
def FAB_LINK_PEER_MODULE : Fld := ⟨.FAB_LINK_PEER, 27, 16⟩
def FAB_LINK_PEER_PORT : Fld := ⟨.FAB_LINK_PEER, 12, 8⟩
def FAB_LINK_PEER_LINK : Fld := ⟨.FAB_LINK_PEER, 2, 0⟩
def FAB_LINK_REPLAY_CNT_COUNT : Fld := ⟨.FAB_LINK_REPLAY_CNT, 31, 0⟩
def FAB_LINK_DOWN_CNT_COUNT : Fld := ⟨.FAB_LINK_DOWN_CNT, 31, 0⟩
def FAB_LANE_STAT_TRIES : Fld := ⟨.FAB_LANE_STAT, 7, 6⟩
def FAB_LANE_STAT_STATE : Fld := ⟨.FAB_LANE_STAT, 2, 0⟩
def FAB_LANE_FEC_CE_COUNT : Fld := ⟨.FAB_LANE_FEC_CE, 31, 0⟩
def FAB_LANE_FEC_UE_COUNT : Fld := ⟨.FAB_LANE_FEC_UE, 31, 0⟩
def FAB_TR_ID_PELOTON : Fld := ⟨.FAB_TR_ID, 27, 16⟩
def FAB_TR_ID_MODULE : Fld := ⟨.FAB_TR_ID, 11, 0⟩
def FAB_TR_CTL_EN : Fld := ⟨.FAB_TR_CTL, 31, 31⟩
def FAB_TR_CTL_E2E_TIMEOUT : Fld := ⟨.FAB_TR_CTL, 23, 16⟩
def FAB_TR_CTL_ORD_SPREAD : Fld := ⟨.FAB_TR_CTL, 8, 8⟩
def FAB_TR_CTL_EPOCH_SRC_EN : Fld := ⟨.FAB_TR_CTL, 3, 3⟩
def FAB_TR_CAUSE_CFGERR : Fld := ⟨.FAB_TR_CAUSE, 10, 10⟩
def FAB_TR_CAUSE_COLL_FAIL : Fld := ⟨.FAB_TR_CAUSE, 9, 9⟩
def FAB_TR_CAUSE_PELOTON_BIG : Fld := ⟨.FAB_TR_CAUSE, 8, 8⟩
def FAB_TR_CAUSE_DUPID : Fld := ⟨.FAB_TR_CAUSE, 7, 7⟩
def FAB_TR_CAUSE_STALL_OVER : Fld := ⟨.FAB_TR_CAUSE, 6, 6⟩
def FAB_TR_CAUSE_NO_ROUTE : Fld := ⟨.FAB_TR_CAUSE, 5, 5⟩
def FAB_TR_CAUSE_HOP_DROP : Fld := ⟨.FAB_TR_CAUSE, 4, 4⟩
def FAB_TR_CAUSE_EPOCH_DROP : Fld := ⟨.FAB_TR_CAUSE, 3, 3⟩
def FAB_TR_CAUSE_EPOCH : Fld := ⟨.FAB_TR_CAUSE, 2, 2⟩
def FAB_TR_CAUSE_MODULE_LOST : Fld := ⟨.FAB_TR_CAUSE, 1, 1⟩
def FAB_TR_CAUSE_FAULT : Fld := ⟨.FAB_TR_CAUSE, 0, 0⟩
def FAB_TR_CAUSE_IE_EN : Fld := ⟨.FAB_TR_CAUSE_IE, 10, 0⟩
def FAB_RT_CTL_LIVE : Fld := ⟨.FAB_RT_CTL, 31, 31⟩
def FAB_RT_CTL_SHADOW_READY : Fld := ⟨.FAB_RT_CTL, 30, 30⟩
def FAB_RT_CTL_DRAINING : Fld := ⟨.FAB_RT_CTL, 29, 29⟩
def FAB_RT_EPOCH_SHADOW : Fld := ⟨.FAB_RT_EPOCH, 31, 16⟩
def FAB_RT_EPOCH_LIVE : Fld := ⟨.FAB_RT_EPOCH, 15, 0⟩
def FAB_TR_LAST_STALL_VALUE : Fld := ⟨.FAB_TR_LAST_STALL, 31, 0⟩
def FAB_TR_RETX_CNT_VALUE : Fld := ⟨.FAB_TR_RETX_CNT, 31, 0⟩
def FAB_TR_DROP_CNT_VALUE : Fld := ⟨.FAB_TR_DROP_CNT, 31, 0⟩
def FAB_MOD_SEL_MODULE : Fld := ⟨.FAB_MOD_SEL, 11, 0⟩
def FAB_MOD_STAT_LOST : Fld := ⟨.FAB_MOD_STAT, 31, 31⟩
def FAB_MOD_STAT_REACHABLE : Fld := ⟨.FAB_MOD_STAT, 30, 30⟩
def FAB_MOD_STAT_PELOTON : Fld := ⟨.FAB_MOD_STAT, 29, 29⟩
def FAB_MOD_STAT_HOPS : Fld := ⟨.FAB_MOD_STAT, 21, 16⟩
def FAB_MOD_STAT_PEERSET : Fld := ⟨.FAB_MOD_STAT, 15, 0⟩
def FAB_COLL_BUSY_LO_ID : Fld := ⟨.FAB_COLL_BUSY_LO, 31, 0⟩
def FAB_COLL_BUSY_HI_ID : Fld := ⟨.FAB_COLL_BUSY_HI, 31, 0⟩
def FAB_ROUTE_LO_MIN : Fld := ⟨.FAB_ROUTE_LO, 7, 0⟩
def FAB_ROUTE_LO_NM0 : Fld := ⟨.FAB_ROUTE_LO, 15, 8⟩
def FAB_ROUTE_LO_NM1 : Fld := ⟨.FAB_ROUTE_LO, 23, 16⟩
def FAB_ROUTE_LO_NM2 : Fld := ⟨.FAB_ROUTE_LO, 31, 24⟩
def FAB_ROUTE_HI_ALT : Fld := ⟨.FAB_ROUTE_HI, 7, 0⟩
def FAB_ROUTE_HI_VALID : Fld := ⟨.FAB_ROUTE_HI, 12, 8⟩
def FAB_ROUTE_HI_STALE : Fld := ⟨.FAB_ROUTE_HI, 13, 13⟩
def FAB_ROUTE_HI_LOCAL : Fld := ⟨.FAB_ROUTE_HI, 14, 14⟩
def FAB_ROUTE_HI_HOPS : Fld := ⟨.FAB_ROUTE_HI, 21, 16⟩
def ETH_PORT_CFG_EN : Fld := ⟨.ETH_PORT_CFG, 31, 31⟩
def ETH_PORT_CFG_RATES : Fld := ⟨.ETH_PORT_CFG, 18, 16⟩
def ETH_PORT_CFG_AN : Fld := ⟨.ETH_PORT_CFG, 12, 12⟩
def ETH_PORT_CFG_PFC : Fld := ⟨.ETH_PORT_CFG, 7, 0⟩
def ETH_PORT_STAT_RATE : Fld := ⟨.ETH_PORT_STAT, 31, 30⟩
def ETH_PORT_STAT_ADM : Fld := ⟨.ETH_PORT_STAT, 18, 16⟩
def ETH_PORT_STAT_CAK : Fld := ⟨.ETH_PORT_STAT, 8, 8⟩
def ETH_PORT_STAT_PTP_STATE : Fld := ⟨.ETH_PORT_STAT, 7, 4⟩
def ETH_PORT_CAUSE_CFGERR : Fld := ⟨.ETH_PORT_CAUSE, 8, 8⟩
def ETH_PORT_CAUSE_LLDP : Fld := ⟨.ETH_PORT_CAUSE, 7, 7⟩
def ETH_PORT_CAUSE_PTP : Fld := ⟨.ETH_PORT_CAUSE, 6, 6⟩
def ETH_PORT_CAUSE_QP_ERR : Fld := ⟨.ETH_PORT_CAUSE, 5, 5⟩
def ETH_PORT_CAUSE_SECERR : Fld := ⟨.ETH_PORT_CAUSE, 4, 4⟩
def ETH_PORT_CAUSE_CLOSED : Fld := ⟨.ETH_PORT_CAUSE, 3, 3⟩
def ETH_PORT_CAUSE_OPEN : Fld := ⟨.ETH_PORT_CAUSE, 2, 2⟩
def ETH_PORT_CAUSE_LINK_DOWN : Fld := ⟨.ETH_PORT_CAUSE, 1, 1⟩
def ETH_PORT_CAUSE_LINK_UP : Fld := ⟨.ETH_PORT_CAUSE, 0, 0⟩
def ETH_PORT_CAUSE_IE_EN : Fld := ⟨.ETH_PORT_CAUSE_IE, 8, 0⟩
def ETH_PORT_DROP_CNT_VALUE : Fld := ⟨.ETH_PORT_DROP_CNT, 31, 0⟩
def ETH_PORT_SECERR_CNT_VALUE : Fld := ⟨.ETH_PORT_SECERR_CNT, 31, 0⟩
def ETH_PORT_CNP_CNT_VALUE : Fld := ⟨.ETH_PORT_CNP_CNT, 31, 0⟩
def ETH_PTP_CFG_EN : Fld := ⟨.ETH_PTP_CFG, 31, 31⟩
def ETH_PTP_CFG_PRIO1 : Fld := ⟨.ETH_PTP_CFG, 23, 16⟩
def ETH_PTP_CFG_PRIO2 : Fld := ⟨.ETH_PTP_CFG, 15, 8⟩
def ETH_PTP_CFG_DOMAIN : Fld := ⟨.ETH_PTP_CFG, 7, 0⟩
def ETH_VLAN_VALID : Fld := ⟨.ETH_VLAN, 31, 31⟩
def ETH_VLAN_PCP : Fld := ⟨.ETH_VLAN, 30, 28⟩
def ETH_VLAN_CLASS : Fld := ⟨.ETH_VLAN, 27, 26⟩
def ETH_VLAN_PART : Fld := ⟨.ETH_VLAN, 23, 20⟩
def ETH_VLAN_VID : Fld := ⟨.ETH_VLAN, 11, 0⟩
def ETH_IPADDR0_VALUE : Fld := ⟨.ETH_IPADDR0, 31, 0⟩
def ETH_IPADDR1_VALUE : Fld := ⟨.ETH_IPADDR1, 31, 0⟩
def ETH_IPADDR2_VALUE : Fld := ⟨.ETH_IPADDR2, 31, 0⟩
def ETH_IPADDR3_VALUE : Fld := ⟨.ETH_IPADDR3, 31, 0⟩
def ETH_MW_BASE_LO_ADDR : Fld := ⟨.ETH_MW_BASE_LO, 31, 12⟩
def ETH_MW_BASE_HI_ADDR : Fld := ⟨.ETH_MW_BASE_HI, 7, 0⟩
def ETH_MW_LEN_UNITS : Fld := ⟨.ETH_MW_LEN, 27, 0⟩
def ETH_MW_CTL_VALID : Fld := ⟨.ETH_MW_CTL, 31, 31⟩
def ETH_MW_CTL_RD : Fld := ⟨.ETH_MW_CTL, 30, 30⟩
def ETH_MW_CTL_WR : Fld := ⟨.ETH_MW_CTL, 29, 29⟩
def ETH_MW_CTL_TAG : Fld := ⟨.ETH_MW_CTL, 23, 0⟩
def ETH_DB_TAG_NEW : Fld := ⟨.ETH_DB_TAG, 31, 31⟩
def ETH_DB_TAG_TAG : Fld := ⟨.ETH_DB_TAG, 23, 0⟩
def ETH_QP_BIND_EN : Fld := ⟨.ETH_QP_BIND, 31, 31⟩
def ETH_QP_BIND_PART : Fld := ⟨.ETH_QP_BIND, 27, 24⟩
def ETH_QP_BIND_PORT : Fld := ⟨.ETH_QP_BIND, 16, 16⟩
def ETH_QP_BIND_VLAN : Fld := ⟨.ETH_QP_BIND, 4, 0⟩
def ETH_QP_DQPN_VALUE : Fld := ⟨.ETH_QP_DQPN, 23, 0⟩
def ETH_QP_SPSN_VALUE : Fld := ⟨.ETH_QP_SPSN, 23, 0⟩
def ETH_QP_RPSN_VALUE : Fld := ⟨.ETH_QP_RPSN, 23, 0⟩
def ETH_QP_DGID0_VALUE : Fld := ⟨.ETH_QP_DGID0, 31, 0⟩
def ETH_QP_DGID1_VALUE : Fld := ⟨.ETH_QP_DGID1, 31, 0⟩
def ETH_QP_DGID2_VALUE : Fld := ⟨.ETH_QP_DGID2, 31, 0⟩
def ETH_QP_DGID3_VALUE : Fld := ⟨.ETH_QP_DGID3, 31, 0⟩
def ETH_QP_DMAC_LO_VALUE : Fld := ⟨.ETH_QP_DMAC_LO, 31, 0⟩
def ETH_QP_DMAC_HI_VALUE : Fld := ⟨.ETH_QP_DMAC_HI, 15, 0⟩
def ETH_QP_PARAM_MTU : Fld := ⟨.ETH_QP_PARAM, 31, 30⟩
def ETH_QP_PARAM_TIMEOUT : Fld := ⟨.ETH_QP_PARAM, 28, 24⟩
def ETH_QP_PARAM_RETRY : Fld := ⟨.ETH_QP_PARAM, 22, 20⟩
def ETH_QP_PARAM_RNR_RETRY : Fld := ⟨.ETH_QP_PARAM, 18, 16⟩
def ETH_QP_PARAM_DSCP : Fld := ⟨.ETH_QP_PARAM, 13, 8⟩
def ETH_QP_STAT_STATE : Fld := ⟨.ETH_QP_STAT, 31, 30⟩
def ETH_QP_STAT_SYNDROME : Fld := ⟨.ETH_QP_STAT, 7, 0⟩
def ETH_RING_BASE_LO_ADDR : Fld := ⟨.ETH_RING_BASE_LO, 31, 12⟩
def ETH_RING_BASE_HI_ADDR : Fld := ⟨.ETH_RING_BASE_HI, 7, 0⟩
def ETH_RING_CTL_EN : Fld := ⟨.ETH_RING_CTL, 31, 31⟩
def ETH_RING_CTL_NQP : Fld := ⟨.ETH_RING_CTL, 27, 16⟩
def ETH_RING_CTL_NOTIFY_EN : Fld := ⟨.ETH_RING_CTL, 5, 5⟩
def ETH_RING_CTL_LOG2SIZE : Fld := ⟨.ETH_RING_CTL, 4, 0⟩
def ETH_RING_PI_COUNT : Fld := ⟨.ETH_RING_PI, 31, 0⟩
def ETH_RING_CI_COUNT : Fld := ⟨.ETH_RING_CI, 31, 0⟩
def ETH_RING_DONE_COUNT : Fld := ⟨.ETH_RING_DONE, 31, 0⟩
def ETH_CQ_BASE_LO_ADDR : Fld := ⟨.ETH_CQ_BASE_LO, 31, 12⟩
def ETH_CQ_BASE_HI_ADDR : Fld := ⟨.ETH_CQ_BASE_HI, 7, 0⟩
def ETH_CQ_CI_COUNT : Fld := ⟨.ETH_CQ_CI, 31, 0⟩
def ETH_RING_STAT_CQ_FULL : Fld := ⟨.ETH_RING_STAT, 3, 3⟩
def ETH_RING_STAT_MGMT_WAIT : Fld := ⟨.ETH_RING_STAT, 2, 2⟩
def ETH_RING_STAT_OVERRUN : Fld := ⟨.ETH_RING_STAT, 1, 1⟩
def ETH_RING_STAT_CFGERR : Fld := ⟨.ETH_RING_STAT, 0, 0⟩
def ETH_PART_STATE_NPAT : Fld := ⟨.ETH_PART_STATE, 11, 8⟩
def ETH_PART_STATE_STATE : Fld := ⟨.ETH_PART_STATE, 2, 0⟩
def ETH_PART_CKPT_LO_CKPT : Fld := ⟨.ETH_PART_CKPT_LO, 31, 0⟩
def ETH_PART_CKPT_HI_CKPT : Fld := ⟨.ETH_PART_CKPT_HI, 31, 0⟩
def MEM_ID_DIES : Fld := ⟨.MEM_ID, 28, 24⟩
def MEM_ID_FRAMES : Fld := ⟨.MEM_ID, 20, 0⟩
def MEM_STATE_SWEEP : Fld := ⟨.MEM_STATE, 9, 9⟩
def MEM_STATE_ZFILL : Fld := ⟨.MEM_STATE, 8, 8⟩
def MEM_STATE_STATE : Fld := ⟨.MEM_STATE, 2, 0⟩
def MEM_CAUSE_ZERO_DONE : Fld := ⟨.MEM_CAUSE, 8, 8⟩
def MEM_CAUSE_SWEEP_DONE : Fld := ⟨.MEM_CAUSE, 7, 7⟩
def MEM_CAUSE_FAIL : Fld := ⟨.MEM_CAUSE, 6, 6⟩
def MEM_CAUSE_LINK : Fld := ⟨.MEM_CAUSE, 5, 5⟩
def MEM_CAUSE_DECODE : Fld := ⟨.MEM_CAUSE, 4, 4⟩
def MEM_CAUSE_SPARE_OUT : Fld := ⟨.MEM_CAUSE, 3, 3⟩
def MEM_CAUSE_SPARED : Fld := ⟨.MEM_CAUSE, 2, 2⟩
def MEM_CAUSE_UE : Fld := ⟨.MEM_CAUSE, 1, 1⟩
def MEM_CAUSE_CE : Fld := ⟨.MEM_CAUSE, 0, 0⟩
def MEM_CAUSE_IE_EN : Fld := ⟨.MEM_CAUSE_IE, 8, 0⟩
def MEM_CE_CNT_COUNT : Fld := ⟨.MEM_CE_CNT, 31, 0⟩
def MEM_UE_CNT_COUNT : Fld := ⟨.MEM_UE_CNT, 31, 0⟩
def MEM_UE_ADDR_LO_ADDR : Fld := ⟨.MEM_UE_ADDR_LO, 31, 6⟩
def MEM_UE_ADDR_HI_VALID : Fld := ⟨.MEM_UE_ADDR_HI, 31, 31⟩
def MEM_UE_ADDR_HI_ADDR : Fld := ⟨.MEM_UE_ADDR_HI, 4, 0⟩
def MEM_SCRUB_CTL_EN : Fld := ⟨.MEM_SCRUB_CTL, 8, 8⟩
def MEM_SCRUB_CTL_PERIOD : Fld := ⟨.MEM_SCRUB_CTL, 7, 0⟩
def MEM_SPARE_CTL_THRESH : Fld := ⟨.MEM_SPARE_CTL, 7, 0⟩
def MEM_SPARE_STAT_EXHAUSTED : Fld := ⟨.MEM_SPARE_STAT, 25, 16⟩
def MEM_SPARE_STAT_SPARED : Fld := ⟨.MEM_SPARE_STAT, 15, 0⟩
def MEM_SWEEP_CTL_SHARE : Fld := ⟨.MEM_SWEEP_CTL, 5, 0⟩
def MEM_PART_SET_VALID : Fld := ⟨.MEM_PART_SET, 8, 8⟩
def MEM_PART_SET_STACKS : Fld := ⟨.MEM_PART_SET, 7, 0⟩
def MEM_PART_BASE_VALUE : Fld := ⟨.MEM_PART_BASE, 20, 0⟩
def MEM_PART_FRAMES_VALUE : Fld := ⟨.MEM_PART_FRAMES, 20, 0⟩
def MEM_PART_LEND_FRAMES : Fld := ⟨.MEM_PART_LEND, 31, 0⟩
def MEM_ROT_CTL_OLDGEN : Fld := ⟨.MEM_ROT_CTL, 7, 6⟩
def MEM_ROT_CTL_WGEN : Fld := ⟨.MEM_ROT_CTL, 5, 4⟩
def MEM_ROT_CTL_ACTIVE : Fld := ⟨.MEM_ROT_CTL, 1, 1⟩
def MEM_ROT_CTL_REQ : Fld := ⟨.MEM_ROT_CTL, 0, 0⟩
def MEM_ROT_OLDCNT_PAGES : Fld := ⟨.MEM_ROT_OLDCNT, 23, 0⟩
def MEM_LEND_OFFER_FRAMES : Fld := ⟨.MEM_LEND_OFFER, 23, 0⟩
def MEM_LEND_OUT_FRAMES : Fld := ⟨.MEM_LEND_OUT, 23, 0⟩
def CLU_ID_LOGICAL : Fld := ⟨.CLU_ID, 23, 16⟩
def CLU_ID_FIELD : Fld := ⟨.CLU_ID, 9, 8⟩
def CLU_ID_PHYS : Fld := ⟨.CLU_ID, 6, 0⟩
def CLU_STATE_PVALID : Fld := ⟨.CLU_STATE, 12, 12⟩
def CLU_STATE_PART : Fld := ⟨.CLU_STATE, 11, 8⟩
def CLU_STATE_GATED : Fld := ⟨.CLU_STATE, 4, 4⟩
def CLU_STATE_STATE : Fld := ⟨.CLU_STATE, 3, 0⟩
def CLU_ENG_MAP_NFAIL : Fld := ⟨.CLU_ENG_MAP, 18, 16⟩
def CLU_ENG_MAP_FAILED : Fld := ⟨.CLU_ENG_MAP, 15, 0⟩
def CLU_CAUSE_SPAREIN : Fld := ⟨.CLU_CAUSE, 8, 8⟩
def CLU_CAUSE_STALL : Fld := ⟨.CLU_CAUSE, 7, 7⟩
def CLU_CAUSE_TOKOVF : Fld := ⟨.CLU_CAUSE, 6, 6⟩
def CLU_CAUSE_EXPLIST : Fld := ⟨.CLU_CAUSE, 5, 5⟩
def CLU_CAUSE_ARITH : Fld := ⟨.CLU_CAUSE, 4, 4⟩
def CLU_CAUSE_STORE_UE : Fld := ⟨.CLU_CAUSE, 3, 3⟩
def CLU_CAUSE_STORE_CE : Fld := ⟨.CLU_CAUSE, 2, 2⟩
def CLU_CAUSE_ENGFAULT : Fld := ⟨.CLU_CAUSE, 1, 1⟩
def CLU_CAUSE_CLFAULT : Fld := ⟨.CLU_CAUSE, 0, 0⟩
def CLU_CAUSE_IE_EN : Fld := ⟨.CLU_CAUSE_IE, 8, 0⟩
def CLU_STORE_CE_CNT_COUNT : Fld := ⟨.CLU_STORE_CE_CNT, 31, 0⟩
def CLU_STORE_UE_ADDR_LINE : Fld := ⟨.CLU_STORE_UE_ADDR, 25, 6⟩
def CLU_STORE_UE_ADDR_VALID : Fld := ⟨.CLU_STORE_UE_ADDR, 0, 0⟩
def CLU_WDOG_LIMIT : Fld := ⟨.CLU_WDOG, 15, 0⟩
def CLU_STALL_CORE : Fld := ⟨.CLU_STALL, 20, 20⟩
def CLU_STALL_BOB : Fld := ⟨.CLU_STALL, 19, 16⟩
def CLU_STALL_ENG : Fld := ⟨.CLU_STALL, 15, 0⟩
def CLU_TOK_SEL_GLOBAL : Fld := ⟨.CLU_TOK_SEL, 8, 8⟩
def CLU_TOK_SEL_INDEX : Fld := ⟨.CLU_TOK_SEL, 7, 0⟩
def CLU_TOK_READ_WAITERS : Fld := ⟨.CLU_TOK_READ, 23, 16⟩
def CLU_TOK_READ_COUNT : Fld := ⟨.CLU_TOK_READ, 15, 0⟩
def CLU_BOB_STAT_Q3 : Fld := ⟨.CLU_BOB_STAT, 30, 24⟩
def CLU_BOB_STAT_Q2 : Fld := ⟨.CLU_BOB_STAT, 22, 16⟩
def CLU_BOB_STAT_Q1 : Fld := ⟨.CLU_BOB_STAT, 14, 8⟩
def CLU_BOB_STAT_Q0 : Fld := ⟨.CLU_BOB_STAT, 6, 0⟩
def CLU_ARITH_STAT_ENG : Fld := ⟨.CLU_ARITH_STAT, 31, 16⟩
def CLU_ARITH_STAT_RELAX : Fld := ⟨.CLU_ARITH_STAT, 5, 5⟩
def CLU_ARITH_STAT_SAT : Fld := ⟨.CLU_ARITH_STAT, 4, 4⟩
def CLU_ARITH_STAT_UNF : Fld := ⟨.CLU_ARITH_STAT, 3, 3⟩
def CLU_ARITH_STAT_OVF : Fld := ⟨.CLU_ARITH_STAT, 2, 2⟩
def CLU_ARITH_STAT_INV : Fld := ⟨.CLU_ARITH_STAT, 1, 1⟩
def CLU_ARITH_STAT_NANIN : Fld := ⟨.CLU_ARITH_STAT, 0, 0⟩
def CLU_ARITH_RELAX_CNT_COUNT : Fld := ⟨.CLU_ARITH_RELAX_CNT, 31, 0⟩
def CLU_ARITH_IE_EN : Fld := ⟨.CLU_ARITH_IE, 5, 0⟩

end Sys2Proof.Machine.F
end

