-- ==== Sys2Proof/Machine/State.lean ====
section
/-! DEFINITION.  The state of the module as plain data, the reasons a step can stop, and the state after reset. -/

namespace Sys2Proof.Machine

/-- Why a step stops with a fault. -/
inductive Fault where
  /-- A byte outside every store and stack was named by the machine itself; the spec gives no such byte.
  Raised by nothing a well-formed command does.  Safe: it stops where the spec has no address. -/
  | noSuchAddress
  deriving DecidableEq, Repr

/-- Why a command has no meaning. -/
inductive Refusal where
  /-- The command is not modelled yet; raised by the dispatch alone.  Safe. -/
  | notModelled (mnemonic : String)
  /-- The command is an engine instruction or a bobbin descriptor that the checks of R99, R105 and R110 to R112 reject before it
  is ever run, so the spec gives it no effect.  Raised by the meanings of engine instructions and descriptors.  Safe. -/
  | illFormed
  deriving DecidableEq, Repr

/-- The header of a frame the module sends (R214, R221, R227): port, VID and PCP of its tag, whether MACsec protects it, and
DSCP and ECN of a RoCEv2 packet (ECN 2 is ECT(0)). -/
structure EthHdr where
  port : Nat
  tag : Option (Nat × Nat) := none
  secured : Bool := false
  dscp : Nat := 0
  ecn : Nat := 0
  deriving DecidableEq, Repr

/-- A RoCEv2 packet the module sends (R223). -/
inductive RocePkt where
  /-- A READ request: PSN, host address, remote key, length. -/
  | read (psn va rkey len : Nat)
  /-- A notification SEND with its immediate. -/
  | send (psn imm : Nat)
  /-- An acknowledgement or NAK: PSN and AETH syndrome. -/
  | ack (psn syndrome : Nat)
  /-- The response to a READ. -/
  | resp (psn : Nat) (data : List Byte)
  /-- A congestion notification packet. -/
  | cnp
  deriving DecidableEq, Repr

/-- What the module has put on its outputs (the model's own list, log entry 6). -/
inductive Emit where
  /-- Words a read returned to the master that asked. -/
  | readData (master : Nat) (words : List Word)
  /-- An HMP response to a session (R230): TYPE, STATUS, SEQ of the request, body; LENGTH is the body's. -/
  | hmp (client typ status seq : Nat) (body : List Byte)
  /-- The module's answer in a TLS handshake (R229, R239, R240): client, certificate, CertificateVerify signature. -/
  | tls (client : Nat) (cert sig : List Byte)
  /-- A connection closed after its handshake with an alert (R229). -/
  | tlsAlert (client : Nat)
  /-- A line a base die returned: stack, physical address, 64 bytes, poison mark. -/
  | stackLine (stack addr : Nat) (data : List Byte) (poison : Bool)
  /-- A RoCEv2 packet of queue pair `q` with the header of its frame. -/
  | roce (h : EthHdr) (q : Nat) (p : RocePkt)
  /-- Another Ethernet frame: its header, EtherType and payload. -/
  | frame (h : EthHdr) (etherType : Nat) (body : List Byte)
  /-- A priority-based flow-control frame of a port (R216): the priority, and whether it is paused. -/
  | pfc (p prio : Nat) (xoff : Bool)
  /-- A flit on link `j`. -/
  | flit (j : Nat) (f : Flit)
  /-- A frame sent on Clarn channel `c`: identifier and payload. -/
  | can (c id : Nat) (data : List Byte)
  /-- Bytes an I3C private read or a CCC returned to the tray. -/
  | i3c (data : List Byte)
  /-- An I3C address header was not acknowledged. -/
  | i3cNack
  /-- The meter's acknowledgement on M-Bus. -/
  | mbusAck
  /-- A RSP_UD of the meter (R400): status (bit 0 error flag, bit 1 manufacturer flag) and the data records in order, each
  its VIF and value. -/
  | rspUd (status : Nat) (records : List (Nat × Int))
  /-- A packet handed up to the management firmware (RELAY, TOPO, LEND, NOTICE contents). -/
  | packetUp (p : Packet)
  deriving DecidableEq, Repr

/-- An event record (R455); its 64 bytes are built by `Rec.bytes`. -/
structure Rec where
  time : Nat
  optime : Nat
  cycles : Nat
  seq : Nat
  master : Nat
  block : Nat
  reg : Nat
  event : Nat
  inst : Nat
  sev : Nat
  disc : Bool
  unset : Bool
  data : List Word
  deriving DecidableEq, Repr

/-- A protective-action record that waits for its after set (R457): the record with no DATA yet, its before set, and
whether the action is a leak response, which completes with the valve closure. -/
structure Prot where
  r : Rec
  before : List Nat
  leak : Bool
  deriving DecidableEq, Repr

/-- A sector of the recorder area that holds records (R462, R463): its number, the severity it is for (0 in the split
scheme), its records in address order. -/
structure Sector where
  no : Nat
  sev : Nat
  recs : List Rec
  deriving DecidableEq, Repr

/-- The event recorder (R459 to R467): the SRAM buffers of both series, oldest first, the stored records, the
next SEQ of each series, the discards no LOST record has reported, a flush asked for, protective records that
wait, the readings of the last 2 s (newest first), when the last critical record was written, and whether any was since
power-up (R355). -/
structure RecState where
  buf : List Rec := []
  chg : List Rec := []
  sectors : List Sector := []
  opens : List (Nat × Nat) := []
  readies : List (Nat × Nat) := []
  bad : List Nat := []
  erasing : Option Nat := none
  chgStored : List Rec := []
  nextSeq : Nat := 0
  nextChg : Nat := 0
  lost : Option (Nat × Nat × Nat) := none
  flushDue : Bool := false
  prot : List Prot := []
  hist : List (Nat × List Nat) := []
  critAt : Option Nat := none
  critEver : Bool := false
  deriving DecidableEq, Repr

/-- A unit waiting on a token, in arrival order (R80): token key, unit code, count, start of the wait. -/
structure Waiter where
  tok : Nat
  unit : Nat
  n : Nat
  since : Nat
  deriving DecidableEq, Repr

/-- An activation table of an engine (R72): 256 segments, lower bound and inverse width, as SF32 words. -/
structure ActTab where
  seg : List (Nat × Nat)
  lo : Nat
  inv : Nat
  /-- Whether a line the table was read from was poisoned (R61, R76). -/
  poison : Bool := false
  deriving DecidableEq, Repr

/-- An instruction to be replayed after an engine fold (R472). -/
structure Replay where
  cluster : Nat
  engine : Nat
  instr : EngInstr
  deriving DecidableEq, Repr

/-- Where a command in flight stands: taken from the fetch buffer (R120), running, or finished and waiting
for its record (R122). -/
inductive CmdPhase where
  | started | running | ready
  deriving DecidableEq, Repr

/-- The key a LOAD is bound to (R253): slot, the delivery it came with, the key. -/
structure BoundKey where
  slot : Nat
  id : Nat
  key : List Byte
  deriving DecidableEq, Repr

/-- A command in flight (R119 to R124): ring, SEQ, the 64 bytes of its entry, what its record will say, whether it
started in ENDED, the host data received for it, its ingest key, and how far a LOAD has come: sealed bytes and records
taken, plaintext not yet converted, source blocks written, output and list bytes of a line not yet full, list entries of a
tile not yet complete, and the identities of its writes on their way to lenders. -/
structure Cmd where
  ring : Nat
  seq : Nat
  entry : List Byte
  opc : Nat
  tag : Nat
  phase : CmdPhase
  status : Nat := 0
  origin : Nat := 0
  flags : Nat := 0
  poison : Bool := false
  detail : Nat := 0
  ended : Bool := false
  buf : List Byte := []
  key : Option BoundKey := none
  pos : Nat := 0
  recs : Nat := 0
  carry : List Byte := []
  blocks : Nat := 0
  tail : List Byte := []
  ltail : List Byte := []
  entries : List Nat := []
  put : List Nat := []
  deriving DecidableEq, Repr

/-- A parsed pattern (R100 to R116): slots, entries, streams of each slot and engine, lists of each slot and
bobbin, token plan, ranks of the slots, and STORE_INIT copies as (slot, address, bytes). -/
structure Pattern where
  slots : Nat
  entries : Nat
  hasBeacon : Bool
  eng : List (List (List EngInstr))
  bob : List (List (List BobDesc))
  locals : List (List Nat)
  globals : List Nat
  place : List Nat
  init : List (Nat × Nat × List Byte)
  deriving DecidableEq, Repr

/-- A loan a partition has taken (R153, R154): lender module, the loan's slot at the lender, frames. -/
structure LoanIn where
  lender : Nat
  slot : Nat
  frames : Nat
  deriving DecidableEq, Repr

/-- A completed command of a fence's scope that failed (R124), or the scope's start. -/
structure Scope where
  failed : Option Nat := none
  deriving DecidableEq, Repr

/-- The running RUN of a partition (R102): pattern, entry, arguments. -/
structure RunInfo where
  pat : Nat
  entry : Nat
  args : List Nat
  deriving DecidableEq, Repr

/-- A partition's bookkeeping beside its registers (R96 to R99, R114, R58 to R60, R263): policy, patterns, the running
RUN, held signals, loans taken, the relaxation episode with its count, the step of a scrub and when it began, its queue
pairs with their ports while it runs (R264), whether its key rotation was abandoned (R145), and
the time base and AUX of its last step beacon (R109). -/
structure Part where
  stoch : Bool := false
  seed : Word := 0
  relaxOk : Bool := false
  beaconOn : Bool := false
  pats : List Pattern := []
  run : Option RunInfo := none
  held : List (Nat × Nat) := []
  loans : List LoanIn := []
  relax : Bool := false
  relaxCount : Nat := 0
  scrubStep : Nat := 0
  scrubStart : Nat := 0
  scrubQps : List (Nat × EthHdr) := []
  rotOff : Bool := false
  beacon : Option (Nat × Nat) := none
  deriving DecidableEq, Repr

/-- A partition with nothing in it. -/
def Part.empty : Part := {}

/-- An entry of a ring's fetch buffer (R118): command number, its bytes, and the status of a failed fetch
with its origin. -/
structure Fetched where
  seq : Nat
  entry : List Byte
  fail : Option (Nat × Nat)
  deriving DecidableEq, Repr

/-- A command ring's bookkeeping beside its registers: entries fetched and not started, the 64 slots of the fetch buffer as
(slot, bytes) (R118), the first failed command of the next fence's scope, and whether the ring has had a fence (R124). -/
structure Ring where
  buf : List Fetched := []
  slots : List (Nat × List Byte) := []
  scope : Option Nat := none
  fenced : Bool := false
  deriving DecidableEq, Repr

/-- A page that holds data (R141, R142): its generation and its count of corrected errors; a page not listed has
ZERO = 1. -/
structure Page where
  data : Bool
  gen : Nat
  ce : Nat
  deriving DecidableEq, Repr

/-- A page conversion (R142): stack, frame, write generation, and the accesses that wait for it, in order: the address,
and the write's bytes with their mark, or none for a read.  Of a stack's conversions the first four run. -/
structure Conv where
  stack : Nat
  frame : Nat
  gen : Nat
  ops : List (Nat × Option (List (Option Byte) × Bool))
  deriving DecidableEq, Repr

/-- A key slot of a base die (R140): stack, loan flag, owner (partition or loan slot), generation, key. -/
structure KeySlot where
  stack : Nat
  loan : Bool
  owner : Nat
  gen : Nat
  key : Nat
  deriving DecidableEq, Repr

/-- A zero-fill running in a stack (R146): the frames, and the partition or loan slot it serves. -/
structure ZFill where
  stack : Nat
  base : Nat
  frames : Nat
  loan : Bool
  owner : Nat
  deriving DecidableEq, Repr

/-- A row copy running (R138): its row, a line of that row, and the accesses to the row that wait for it. -/
structure RowCopy where
  stack : Nat
  bank : Nat
  row : Nat
  line : Nat := 0
  ops : List (Nat × Option (List (Option Byte) × Bool)) := []
  deriving DecidableEq, Repr

/-- A loan this module has given (R153): loan slot, borrower module and partition, stack set mask, frame range. -/
structure LoanOut where
  slot : Nat
  module : Nat
  part : Nat
  mask : Nat
  base : Nat
  frames : Nat
  deriving DecidableEq, Repr

/-- A free offer a peer advertised (R152). -/
structure Offer where
  module : Nat
  frames : Nat
  deriving DecidableEq, Repr

/-- Loans asked for by a JOB_OPEN (R153): partition, ring, command, requests as (lender, frames, grant). -/
structure LendAsk where
  part : Nat
  ring : Nat
  seq : Nat
  asks : List (Nat × Nat × Option Nat)
  deriving DecidableEq, Repr

/-- A flit's worth of a packet: the packet, which slice of its bytes, and the credits its first flit asks for
(R189). -/
structure Piece where
  pkt : Packet
  k : Nat
  need : Nat
  deriving DecidableEq, Repr

/-- A sequenced flit in a replay buffer (R167). -/
structure TxFlit where
  seq : Nat
  vc : Nat
  piece : Option Piece
  ctrl : Option CtrlMsg
  deriving DecidableEq, Repr

/-- A link's state beside its registers (R163 to R178): among them whether the peer keeps alive, the lanes a LANE_DROP or a
LANE_ADD of the peer named and its REMAP has not yet changed (with whether the drop is planned), the lanes whose last FEC
codeword was uncorrectable (R171), and whether the link is down by a fault (R176). -/
structure Link where
  txSeq : Nat := 0
  rxAck : Nat := 0
  nakDue : Bool := false
  nakSent : Bool := false
  nakCount : Nat := 0
  replay : List TxFlit := []
  replayPos : Option Nat := none
  ctrl : List CtrlMsg := []
  vcq : List (List Piece) := [[], [], [], []]
  credits : List Nat := [0, 0, 0, 0]
  returns : List Nat := [0, 0, 0, 0]
  slots : Nat := 0
  wrrVc : Nat := 1
  wrrLeft : Nat := 0
  asm : List (List Byte) := [[], [], [], []]
  interval : Nat := 100
  expect : Option (Nat × Nat × Nat) := none
  peerWidth : Nat := 0
  peerBuf : List Nat := []
  peerKeep : Bool := false
  usable : Bool := false
  dropDue : Nat := 0
  dropPlan : Bool := false
  addDue : Nat := 0
  badLanes : List Nat := []
  faulted : Bool := false
  deriving DecidableEq, Repr

/-- A packet held until it is acknowledged (R193, R197): when it was sent, how often it was sent again, and the
descriptor it belongs to. -/
structure Unacked where
  pkt : Packet
  at_ : Nat
  tries : Nat
  desc : Option Nat
  deriving DecidableEq, Repr

/-- The sending side of a flow class (R193): next PSN, unacknowledged packets, packets that wait for a place. -/
structure TxFlow where
  psn : Nat := 0
  unacked : List Unacked := []
  waiting : List (Packet × Option Nat) := []
  deriving DecidableEq, Repr

/-- The receiving side of a flow class: the next PSN without a gap, packets or PSNs ahead of a gap, packets since
the last ACK. -/
structure RxFlow where
  next : Nat := 0
  ahead : List Packet := []
  since : Nat := 0
  deriving DecidableEq, Repr

/-- A descriptor whose work is under way (R79, R111): its identity, unit, partition, the packets or rows still
outstanding, how it ended so far, whether it still waits for an index list held by another module, and the pieces of it
that have come.  The writes of a LOAD and the accesses of a host to loans are kept in the same way, with a unit of their
own (R121, R226). -/
structure DescRun where
  id : Nat
  unit : Nat
  part : Nat
  desc : BobDesc
  left : Nat
  issued : Bool
  status : Nat
  origin : Nat
  fetch : Bool := false
  idx : List (Nat × List (Byte × Bool)) := []
  deriving DecidableEq, Repr

/-- Where data a partition moves is written: its own memory at an offset, a cluster store, a peer's memory or
store; an answer a host waits for, or an index list a descriptor waits for, at an offset; or a line of a loan into which
bytes are to be merged. -/
inductive Dest where
  | mem (o : Nat)
  | store (p a : Nat)
  | peer (a : Nat)
  | host (id off : Nat)
  | index (id off : Nat)
  | merge (m slot off : Nat) (l : List (Byte × Bool)) (ord : Bool) (flow : Nat)
  deriving DecidableEq, Repr

/-- A GET whose responses are awaited: request tag, the descriptor, where the lines go, and whether a poisoned index chose
them. -/
structure GetWait where
  tag : Nat
  desc : Option Nat
  part : Nat
  dst : Dest
  lines : Nat
  bad : Bool := false
  deriving DecidableEq, Repr

/-- A collective or barrier of a partition (R204 to R208): partition, ID, its descriptor run, cluster and
descriptor, the group's entries in rank order and this participant's rank; the message pieces received, as
(step * 2048 + sender, pieces); the running partial of the tree and how many children it holds; bytes of output
still to be written; READY or ARRIVE held; what was sent; END counts and rows received by sender; answers to a
QUERY; poison met; and, once over, whether it was committed. -/
structure Coll where
  part : Nat
  id : Nat
  run : Nat
  cluster : Nat
  desc : BobDesc
  group : List Nat
  rank : Nat
  msgs : List (Nat × List (Nat × List (Byte × Bool))) := []
  acc : List (Byte × Bool) := []
  kids : Nat := 0
  outLeft : Nat := 0
  ready : List Nat := []
  sentReady : Bool := false
  sentCommit : Bool := false
  ends : List (Nat × Nat) := []
  rowsIn : List (Nat × Nat) := []
  answers : List (Nat × Bool) := []
  poison : Bool := false
  done : Option Bool := none
  deriving DecidableEq, Repr

/-- What the module knows of another module of the system (R182, R191): whether it can be reached follows from the links
known. -/
structure TopoMod where
  peloton : Nat := 0
  srcEn : Bool := false
  deriving DecidableEq, Repr

/-- Fabric transport (R181 to R210): links by number, sending and receiving sides of the flow classes, packets
received and not yet taken by their command, descriptors and GETs under way, collectives and COLL steps that wait
for their ID, the modules known and the peers of their links, modules lost, modules suspected by this one, peer sets by module, READY received as (module, epoch), an EPOCH
marker that waits for the shadow, a duplicate ID, notices flooded with their time, the time of the last fault and the flow
classes not yet delivered to since (R199), and the cable ends as (connector, present, powered). -/
structure Fabric where
  links : List (Nat × Link) := []
  tx : List (Nat × TxFlow) := []
  rx : List (Nat × RxFlow) := []
  inbox : List (Nat × Packet) := []
  descs : List DescRun := []
  gets : List GetWait := []
  nextDesc : Nat := 0
  nextTag : Nat := 0
  colls : List Coll := []
  mods : List (Nat × TopoMod) := []
  lost : List Nat := []
  suspects : List Nat := []
  peerSets : List (Nat × Nat) := []
  topo : List (Nat × Nat) := []
  readyMods : List (Nat × Nat) := []
  epochDue : Option Nat := none
  dupId : Bool := false
  seenNotice : List (Nat × Nat) := []
  faultAt : Option Nat := none
  stalled : List Nat := []
  cables : List (Nat × Bool × Bool) := []
  deriving DecidableEq, Repr

/-- A packet the module sent as requester and that is not yet acknowledged (R223, R228): its PSN, the PSNs it spans,
the READ's address, key and length (none for a notification SEND), the immediate, the command it feeds, bytes
received, and the retries spent. -/
structure OutReq where
  psn : Nat
  span : Nat
  read : Option (Nat × Nat × Nat)
  imm : Nat
  cmd : Option (Nat × Nat)
  got : Nat := 0
  tries : Nat := 0
  rnr : Nat := 0
  deriving DecidableEq, Repr

/-- A queue pair's state beside its registers (R222 to R228): outstanding requests, requests that wait for a place
among the 16, a WRITE of several packets in progress as (next address, bytes left, rkey), the send-rate limit in
steps of r / 2^40, and when a congestion notification was last obeyed and last sent. -/
structure Qp where
  out : List OutReq := []
  queued : List OutReq := []
  write : Option (Nat × Nat × Nat) := none
  limit : Nat := 2 ^ 40
  cnpAt : Option Nat := none
  cnpSent : Option Nat := none
  deriving DecidableEq, Repr

/-- What a queue pair owes a host (R225, R226): the acknowledgement of a WRITE, the data of a READ with the pieces that
have come, a write of the register page that follows WRITEs not yet visible, a read of the page, or a NAK. -/
inductive OwedJob where
  | write
  | read (len : Nat) (parts : List (Nat × List (Byte × Bool)))
  | page (off : Nat) (w : Word)
  | pageRead (off : Nat)
  | nak (syn : Nat)
  deriving DecidableEq, Repr

/-- An answer a queue pair owes, in the order of the requests: queue pair, PSN, the identity of the accesses it waits for,
whether they are over, and whether one failed. -/
structure Owed where
  qp : Nat
  psn : Nat
  id : Nat
  job : OwedJob
  settled : Bool
  bad : Bool := false
  deriving DecidableEq, Repr

/-- An Ethernet port's state beside its registers (R212 to R221, R232, R233): the CAK held with its name, a live MKA
peer, the receive and transmit associations of the session, whether an older session's associations still serve (R219), the
next transmit packet number and the next one expected (R220), the priorities paused with the time their pause ends and the
frames that wait for it, the priorities sent XOFF (R216), the best master heard and when, since when the port listens for one, and
neighbours heard by LLDP. -/
structure EthPort where
  cak : Option (List Byte × List Byte) := none
  live : Bool := false
  rxSa : Bool := false
  txSa : Bool := false
  older : Bool := false
  txPn : Nat := 1
  rxPn : Nat := 1
  paused : List (Nat × Nat) := []
  waiting : List (Nat × Emit) := []
  xoff : List Nat := []
  foreign : Option (PtpData × Nat) := none
  listenAt : Nat := 0
  neighbours : List (List Byte × List Byte) := []
  deriving DecidableEq, Repr

/-- An ingest key slot's contents (R252, R253): the delivery that placed it, and the key. -/
structure KSlot where
  id : Nat
  key : List Byte
  deriving DecidableEq, Repr

/-- What the configuration image in force says beyond registers (R443): client trust anchors, system name, pattern-key
hashes, ALLOW and BEACON bits permitted, MACsec replay window and key-server priority, open runtime categories. -/
structure Conf where
  anchors : List (List Byte) := []
  sysname : List Byte := []
  patKeys : Option (List (List Byte)) := none
  allow : Nat := 0
  beacon : Nat := 0
  replay : Nat := 0
  ksPrio : Nat := 255
  runtime : Nat := 15
  deriving DecidableEq, Repr


/-- A window of an access table (R259): base, inclusive limit, rights. -/
structure Win where
  valid : Bool := false
  base : Nat := 0
  limit : Nat := 0
  r : Bool := false
  w : Bool := false
  x : Bool := false
  deriving DecidableEq, Repr

/-- Core power (R26, R28, R280): VCORE on, at its retention level, the cluster tests done since it came on, a quiesce in
progress, compute requested, a router that failed its checks (R88), whether the power-cap loop last won for 50 ms (R59);
VCORE in mV and the gear it moves to, the limiter hold with the forced duty and the time of its last record, the highest
gear in force, whether TJ_WARN may be raised again, input-power samples (newest first), and ring rates by cluster. -/
structure Pwr where
  vcore : Bool := false
  retention : Bool := false
  tested : Bool := false
  quiesce : Bool := false
  computeReq : Bool := false
  routerBad : Bool := false
  capWin : Bool := false
  mv : Nat := 550
  goal : Nat := 0
  hold : Option Nat := none
  forced : Bool := false
  limRec : Option Nat := none
  maxGear : Nat := 15
  tjArmed : Bool := true
  power : List Nat := []
  rates : List (Nat × Nat) := []
  deriving DecidableEq, Repr


/-- A reading of an input (R288): its value in the unit of its source, and when it was last refreshed. -/
structure Reading where
  v : Rat
  at_ : Nat
  deriving DecidableEq, Repr

/-- A supervised leak input (R330): the band of the last samples (0 none, 1 dry, 2 wet, 3 fault), how many came in it,
and whether a first decision is still awaited. -/
structure LeakIn where
  band : Nat := 0
  run : Nat := 0
  undecided : Bool := true
  deriving DecidableEq, Repr

/-- The coolant I/O beside its registers (R315 to R341): readings by source code (0x100 to 0x103 are inlet A, inlet B,
outlet A, outlet B), their last second, masks over CIO_SENS_STAT's bits (range faults, latched faults, those of R336, last reading in
range), channel-space command words by offset, leak inputs, since when all have been dry, activations of wake inputs,
heat-balance runs over and under the limit in tenths of a second, the last Q, the duty a PWM channel ramps from with
the time the ramp began, and outputs a first command or driver has acted on. -/
structure Cio where
  reads : List (Nat × Reading) := []
  hist : List (Nat × List Rat) := []
  ranged : Nat := 0
  latched : Nat := 0
  iso : Nat := 0
  good : Nat := 0
  cmds : List (Nat × Word) := []
  leak : List LeakIn := [{}, {}, {}, {}, {}]
  dryAt : Option Nat := none
  wakes : List (Nat × List Nat) := []
  over_ : Nat := 0
  under : Nat := 0
  q : Rat := 0
  ramps : List (Nat × Nat) := []
  touched : Nat := 0
  deriving DecidableEq, Repr

/-- A loop slot beside its registers (R292 to R310): the profile's w, v, a; the previous y; the clamped and the applied
output; the integrator with its residue; the derivative; the last error; the fade factor in sixteenths; whether it must
start under R294; the output its sum must equal at the next sample; the coefficients before a write not yet sampled;
whether it was forced at its last sample; whether its source was lost; the nodes of its last sample; its table. -/
structure Slot where
  w : Rat := 0
  v : Rat := 0
  a : Rat := 0
  y : Option Rat := none
  uc : Rat := 0
  uPrev : Rat := 0
  integ : Rat := 0
  resid : Rat := 0
  d : Rat := 0
  e : Rat := 0
  fade : Nat := 0
  start : Bool := true
  match_ : Option Rat := none
  old : Option (List Word) := none
  forced : Bool := false
  lost : Bool := false
  nodes : List Word := []
  q : List (Nat × Word) := []
  deriving DecidableEq, Repr

/-- A trace buffer (R305, R306): samples of 8 words, oldest first, samples still to be recorded after the trigger, and
node 0 of the last sample. -/
structure Trace where
  data : List (List Word) := []
  left : Nat := 0
  last : Option Rat := none
  deriving DecidableEq, Repr

/-- The control engine beside its registers: ticks so far, the slots, the outputs applied at destinations by their codes
(R289), the resolved outputs of slots and groups, the last
mean beacon period in ns with the time of the last beacon (R302) and its AUX (R109), and the trace buffers. -/
structure Cle where
  ticks : Nat := 0
  slots : List (Nat × Slot) := []
  acts : List (Nat × Rat) := []
  res : List (Nat × Rat) := []
  repP : Rat := 0
  lastBeat : Option Nat := none
  beatAux : Nat := 0
  traces : List (Nat × Trace) := []
  deriving DecidableEq, Repr

/-- An attestation key (R247): key identifier, nonce of its certificate, private key, issue time, and the time base at
notAfter where time is known. -/
structure AttKey where
  akid : List Byte
  nonce : List Byte
  priv : List Byte
  issued : Nat
  notAfter : Option Nat
  deriving DecidableEq, Repr

/-- The security core (R238 to R261): the PUF SRAM's content, the identity key's private scalar (none without an identity), the
key generated at this power-up for sessions without an identity, live attestation keys, the debug challenge with the time it
was drawn, the firmware image that runs, and the configuration image in force (empty for the default). -/
structure Sec where
  puf : List Byte := []
  identity : Option (List Byte) := none
  tempKey : List Byte := []
  aks : List AttKey := []
  challenge : Option (List Byte × Nat) := none
  fw : List Byte := []
  cfg : List Byte := []
  deriving DecidableEq, Repr

/-- An entry of the meter's log (R403): clock, code, data. -/
structure MLog where
  clock : Nat
  code : Nat
  data : Nat
  deriving DecidableEq, Repr

/-- The heat meter's measuring part (R389 to R403): accumulated energies in mWh (legal, informative, error-time), volume
in mL, error and operating time in ms, the same six as last committed with the close marker, the last valid ΔT and
volume of an interval, flags as in MTR_SNAP_STATUS, quarter seconds toward REVERSE, a medium fault and its end, the seal
loop, sealed parameters, change counter, firmware with the hash of Holtier's meter key, serial number, log (newest first),
M-Bus address and baud, clock in ms, whether the firmware runs, secondary selection, discarded selvedge patterns, present
values (flow in L/min, temperatures, power in W) and the snapshot sequence. -/
structure Meter where
  legal : Nat := 0
  inform : Nat := 0
  err : Nat := 0
  volume : Nat := 0
  errTime : Nat := 0
  opTime : Nat := 0
  stored : List Nat := [0, 0, 0, 0, 0, 0]
  closed : Bool := true
  lastDt : Rat := 0
  lastVol : Rat := 0
  flags : Nat := 0
  revRun : Nat := 0
  medBad : Nat := 0
  medGood : Nat := 0
  loopOpen : Bool := false
  medium : Bool := false
  cal : List (Nat × Word) := []
  verified : Nat := 0
  change : Nat := 0
  fwVer : Word := 0
  fwHash : List Byte := List.replicate 48 0
  fwKey : List Byte := []
  serial : Word := 0
  log : List MLog := []
  addr : Nat := 1
  baud : Nat := 1
  clock : Nat := 0
  running : Bool := true
  selected : Bool := false
  badFrames : Nat := 0
  flow : Rat := 0
  tin : Rat := 0
  tout : Rat := 0
  power : Rat := 0
  seq : Nat := 0
  deriving DecidableEq, Repr

/-- The meter interface of the MTR block (R401 to R407): the answer on its way, a loss of snapshots reported, and the
change counter read at the previous and at this power-up. -/
structure MtrIf where
  answer : Option (List Word) := none
  unreach : Bool := false
  prevChange : Option Nat := none
  thisChange : Option Nat := none
  deriving DecidableEq, Repr

/-- Start-up and supervision (R435 to R451): the tray shutdown in force with its time, a heartbeat written since it
began, the branch valve's hold (0 none, 1 held, 2 at minimum flow) and the output it holds, the time of the last
heartbeat, whether the engine or the sequencer has sampled since the alive count last moved, whether VAON came up from
Off, the state Off, an overvoltage disconnect in force, the recorder's scan done, a permit wait reported, a permit lost
while compute ran, and the training of step 9 begun. -/
structure Boot where
  shut : Option Nat := none
  hbSeen : Bool := false
  valveHold : Nat := 0
  heldValve : Rat := 0
  lastHb : Option Nat := none
  sampled : Bool := false
  fromOff : Bool := false
  off : Bool := true
  over_ : Bool := false
  scanned : Bool := false
  waited : Bool := false
  lost : Bool := false
  trained : Bool := false
  deriving DecidableEq, Repr

/-- The power-state machine (R411 to R424): an entry abandoned at its next point (0 no, 1 by a wake event, 2 by a request
or a vote), a wake event that is served once Freewheel is reached, the state of Run and Trim last left or asked for, and
the time base latched at step 5 in 10^-9 ns. -/
structure Ps where
  abort : Nat := 0
  wake : Bool := false
  ran : Nat := 0
  t0 : Nat := 0
  deriving DecidableEq, Repr


/-- A frame that waits on a Clarn channel (R378 to R380): identifier, payload, what it came from (0 to 31 an event-queue
entry, 32 the alarm entry, 33 the schedule) and its place in submission order. -/
structure Tx where
  id : Nat
  data : List Byte
  src : Nat
  ord : Nat
  deriving DecidableEq, Repr

/-- An entry of a receive queue (R382): stamp, identifier, loop-back mark, payload. -/
structure RxEnt where
  stamp : Nat
  id : Nat
  loop : Bool
  data : List Byte
  deriving DecidableEq, Repr

/-- A Clarn channel beside its registers: frames that wait, the receive queue, frames dropped since it was last not
full, when a frame of another node was last accepted (R384), and the
secondary sample point of the last frame sent, in clock cycles (R368). -/
structure Chan where
  pend : List Tx := []
  rxq : List RxEnt := []
  dropping : Bool := false
  heardAt : Option Nat := none
  ssp : Option Nat := none
  deriving DecidableEq, Repr

/-- The Clarn bus (R364 to R386): the channels; the last SEQ sent and the last accepted, by identifier; the cycle; REF lost;
the time base at the start of the previous REF; the next parts of the cap table and of the mirror set; the submission
count; the latest accepted frame of each class and node with its time; and the words of the matrix and the maps still in
force, where a register was written since the cycle began (R388). -/
structure Clarn where
  ch : List Chan := [{}, {}]
  sent : List (Nat × Nat) := []
  held : List (Nat × Nat) := []
  cycle : Nat := 0
  noRef : Bool := false
  prevRef : Option Nat := none
  capPart : Nat := 0
  mirPart : Nat := 0
  ord : Nat := 0
  got : List (Nat × Nat × List Byte) := []
  staged : List (Nat × Word) := []
  deriving DecidableEq, Repr

/-- The peer's last heartbeat (R350): when it came, its flags, its mirror sequence, its configuration hash. -/
structure RowPeer where
  at_ : Nat
  flags : Nat
  seq : Nat
  hash : List Byte
  deriving DecidableEq, Repr

/-- A mirror set as received (R351): sequence, when it was complete, image. -/
structure MirrorSet where
  seq : Nat
  at_ : Nat
  image : List Byte
  deriving DecidableEq, Repr

/-- Row coordination beside its registers (R342 to R361): the peer's heartbeat; RELEASING of the own one; healthy
for 60 s, and since when healthy; ILK_STUCK and CFG_DIFF reported; the last mirror set sent and its image; the newest
complete set received, and parts of the one under way; the cap table's sequence, parts of a table under way, the last
accepted sequence and its time; the trim; since when the supply runs high and the budget inputs are invalid, and whether
that was reported; when each member's status came; run time of each pump below 0.1 h in ms; the time of the next rotation, the
pump a rotation stops, the pump drive of start-up step 8, ROW_SHORT reported, and the cap table being sent with its
sequence. -/
structure Row where
  peer : Option RowPeer := none
  releasing : Bool := false
  well : Bool := false
  okAt : Option Nat := none
  stuck : Bool := false
  diff : Bool := false
  outSeq : Nat := 0
  outImage : List Byte := []
  mirror : Option MirrorSet := none
  parts : List (Nat × Nat × Nat × List Byte) := []
  capSeq : Nat := 0
  tparts : List (Nat × Nat × List Byte) := []
  tseq : Nat := 0
  tableAt : Option Nat := none
  trim : Rat := 100
  hiAt : Option Nat := none
  invAt : Option Nat := none
  invTold : Bool := false
  heard : List (Nat × Nat) := []
  runMs : List (Nat × Nat) := []
  rotAt : Nat := 0
  stopping : Option Nat := none
  kick : Bool := false
  short : Bool := false
  tableOut : Nat × List Byte := (0, [])
  deriving DecidableEq, Repr

/-- The I3C target beside SYS_I3C_STAT (R487): maximum write and read lengths. -/
structure I3c where
  mwl : Nat := 67
  mrl : Nat := 64
  deriving DecidableEq, Repr

/-- A copy of the cluster map (R432): sequence, held-back cluster of each field, mask of disabled engines of each
cluster that has one, mask of failed clusters. -/
structure ClusterMap where
  seq : Nat := 0
  held : List Nat := [16, 33, 50, 67]
  masks : List (Nat × Nat) := []
  failed : Nat := 0
  deriving DecidableEq, Repr

/-- A copy of the PUF helper data (R239, R432): salt, check value, helper data, and whether its CRC holds. -/
structure Helper where
  salt : List Byte
  check : List Byte
  data : List Byte
  ok : Bool
  deriving DecidableEq, Repr

/-- The configuration memory (R430 to R433) but for the recorder area and the change log: SFDP density class (5 for
none in the list), helper copies, manufacturing certificate, serial number, MAC base, cluster-map copies, counter
copies as (operating time, cycles, sequence), the two images, the rollback counter and the operator-key hashes. -/
structure Nv where
  density : Nat := 0
  helpers : List (Option Helper) := [none, none]
  cert : List Byte := []
  serial : List Byte := List.replicate 16 0
  mac : Nat := 0
  maps : List (Option ClusterMap) := [some {}, none]
  counters : List (Option (Nat × Nat × Nat)) := [none, none]
  cfgImage : List Byte := []
  fwImage : List Byte := []
  rollback : Nat := 0
  opKeys : List (List Byte) := []
  deriving DecidableEq, Repr

/-- A spare's bring-in (R91): the spare, the logical number it takes, the partition it joins. -/
structure BringIn where
  spare : Nat
  logical : Nat
  part : Option Nat
  deriving DecidableEq, Repr

/-- The management cores (R447, R448): in reset after a watchdog expiry, the times of the last hour's restarts, and when
the watchdog was last kicked. -/
structure Mgmt where
  down : Bool := false
  restarts : List Nat := []
  kickAt : Option Nat := none
  deriving DecidableEq, Repr


/-- The state of the module. -/
structure State where
  /-- Commands that wait, first in, first out. -/
  pending : List Instr
  /-- How many free values have been taken (the model's own). -/
  free : Nat
  /-- Nanoseconds since VAON rose (the model's own measure of elapsed time). -/
  up : Nat
  /-- The time base (R423). -/
  timeBase : BitVec 64
  /-- Registers that differ from their reset values, by key. -/
  regs : List (Nat × Word)
  /-- A re-edge pulse of IRQ_N is running (R493). -/
  irqPulse : Bool
  /-- The event recorder. -/
  evr : RecState
  /-- What the module has sent, oldest first (the model's own). -/
  out : List Emit
  /-- Cluster stores, bytes by key. -/
  store : List Host.Cell
  /-- Poison bits of store lines. -/
  storePoison : List (Nat × Bool)
  /-- Distinct uncorrectable store lines of the running patrol pass (R474). -/
  ueLines : List (Nat × Bool)
  /-- Next patrol row of each cluster and bank. -/
  patrol : List (Nat × Nat)
  /-- Tokens, local then global. -/
  tok : List (Nat × Nat)
  /-- Time of the last signal to each token (R83). -/
  tokSig : List (Nat × Nat)
  /-- Waiters in arrival order. -/
  waiters : List Waiter
  /-- Units whose wait was released and that have not gone on yet. -/
  granted : List Nat
  /-- Activation tables. -/
  tabs : List (Nat × ActTab)
  /-- Vector registers. -/
  vregs : List (Nat × List Nat)
  /-- Rounding streams. -/
  rng : List (Nat × Word)
  /-- Instructions left in each engine stream of the running segment. -/
  engQ : List (Nat × List EngInstr)
  /-- Descriptors left in each bobbin list of the running segment. -/
  bobQ : List (Nat × List BobDesc)
  /-- Instructions to be replayed after an engine fold, in order. -/
  replayQ : List Replay
  /-- Partitions 0 to 15. -/
  parts : List Part
  /-- Command rings 0 to 63. -/
  rings : List Ring
  /-- Commands in flight, in start order. -/
  cmds : List Cmd
  /-- Stack bytes, by stack and physical address. -/
  mem : List Host.Cell
  /-- Poison of stack lines. -/
  memPoison : List (Nat × Bool)
  /-- Pages that hold data, with generation and corrected-error count. -/
  pages : List (Nat × Page)
  /-- Page conversions running or waiting. -/
  convs : List Conv
  /-- Base-die key slots. -/
  keys : List KeySlot
  /-- The module's own memory key, drawn at power-up (R140). -/
  modKey : Nat
  /-- Zero-fills running. -/
  zfills : List ZFill
  /-- Next patrol line of each stack. -/
  memPatrol : List (Nat × Nat)
  /-- Corrected errors of each row in this scrub period. -/
  rowCe : List (Nat × Nat)
  /-- Spare rows used in each bank. -/
  spares : List (Nat × Nat)
  /-- Rows being copied to a spare. -/
  rowCopies : List RowCopy
  /-- Loans given. -/
  loansOut : List LoanOut
  /-- Offers of peers. -/
  offers : List Offer
  /-- Loan requests of JOB_OPENs that wait for answers. -/
  asks : List LendAsk
  /-- Links and transport. -/
  fab : Fabric
  /-- Windows written through SEC_AT_RIGHTS. -/
  wins : List (Nat × Win)
  /-- Time of the last access-fault record of each master and target (R262). -/
  afSeen : List (Nat × Nat)
  /-- Core power. -/
  pwr : Pwr
  /-- The configuration memory. -/
  nv : Nv
  /-- The cluster map in memory differs from the clusters as they are (R90). -/
  mapDue : Bool
  /-- Spare bring-ins running, in order. -/
  bringIns : List BringIn
  /-- Queue pairs that hold anything. -/
  qps : List (Nat × Qp)
  /-- Ethernet ports 0 and 1. -/
  ports : List EthPort
  /-- Ingest key slots that hold a key. -/
  kslots : List (Nat × KSlot)
  /-- Deliveries of keys so far (the model's own count). -/
  deliveries : Nat
  /-- The configuration in force. -/
  conf : Conf
  /-- Open HMP sessions. -/
  sessions : List Nat
  /-- Times of the last 9 beacons that reached the control engine, newest first (R302). -/
  beats : List Nat
  /-- The management cores. -/
  mgmt : Mgmt
  /-- Answers that queue pairs owe to hosts (R225, R226), oldest first. -/
  owed : List Owed
  /-- What is left below a nanosecond of the time base, in 10^-9 ns. -/
  timeFrac : Nat
  /-- TIM_NOW_HI as latched for each master (R500). -/
  timLatch : List (Nat × Word)
  /-- Coolant I/O. -/
  cio : Cio
  /-- The control engine. -/
  cle : Cle
  /-- The security core. -/
  sec : Sec
  /-- The heat meter's measuring part. -/
  meter : Meter
  /-- The meter interface. -/
  mtrIf : MtrIf
  /-- Start-up and supervision. -/
  boot : Boot
  /-- The power-state machine. -/
  ps : Ps
  /-- The Clarn bus. -/
  clarn : Clarn
  /-- Row coordination. -/
  row : Row
  /-- The I3C target. -/
  i3c : I3c
  deriving DecidableEq, Repr

/-- The machine right after reset (R497: sources read 0 until their start-up step). -/
def State.reset : State where
  pending := []
  free := 0
  up := 0
  timeBase := 0
  regs := []
  irqPulse := false
  evr := {}
  out := []
  store := []
  storePoison := []
  ueLines := []
  patrol := []
  tok := []
  tokSig := []
  waiters := []
  granted := []
  tabs := []
  vregs := []
  rng := []
  engQ := []
  bobQ := []
  replayQ := []
  parts := List.replicate 16 Part.empty
  rings := List.replicate 64 {}
  cmds := []
  mem := []
  memPoison := []
  pages := []
  convs := []
  keys := []
  modKey := 0
  zfills := []
  memPatrol := []
  rowCe := []
  spares := []
  rowCopies := []
  loansOut := []
  offers := []
  asks := []
  fab := {}
  wins := []
  afSeen := []
  pwr := {}
  nv := {}
  mapDue := false
  bringIns := []
  qps := []
  ports := [{}, {}]
  kslots := []
  deliveries := 0
  conf := {}
  sessions := []
  beats := []
  mgmt := {}
  owed := []
  timeFrac := 0
  timLatch := []
  cio := {}
  cle := { acts := [(1, 100)] }
  sec := {}
  meter := {}
  mtrIf := {}
  boot := { off := false, fromOff := true }
  ps := {}
  clarn := {}
  row := {}
  i3c := {}

/-- The outcome of a command. -/
abbrev Out := Host.Outcome State Fault Refusal

end Sys2Proof.Machine
end

