-- ==== Sys2Proof/Machine/Ops.lean ====
section
/-! DEFINITION.  The named operations over maps, memory and registers; raising a cause (R490 to R492);
writing a record (R455 to R461); the free values. -/

namespace Sys2Proof.Machine

/-! ### Sorted maps with a default -/

/-- The value a map holds for key `k`, `d` where it lists none. -/
def Assoc.get {β : Type} (d : β) (m : List (Nat × β)) (k : Nat) : β :=
  match m with
  | [] => d
  | (a, b) :: t => if a = k then b else Assoc.get d t k

/-- Insert a pair before the first greater key. -/
def Assoc.insert {β : Type} (k : Nat) (v : β) : List (Nat × β) → List (Nat × β)
  | [] => [(k, v)]
  | (a, b) :: t => if k < a then (k, v) :: (a, b) :: t else (a, b) :: Assoc.insert k v t

/-- A map without key `k`. -/
def Assoc.erase {β : Type} (m : List (Nat × β)) (k : Nat) : List (Nat × β) :=
  m.filter fun e => e.1 ≠ k

/-- Set key `k` to `v`; the default is not listed, so equal maps are equal lists. -/
def Assoc.set {β : Type} [DecidableEq β] (d : β) (m : List (Nat × β)) (k : Nat) (v : β) : List (Nat × β) :=
  if v = d then Assoc.erase m k else Assoc.insert k v (Assoc.erase m k)

/-- Set without a default: every set key stays listed. -/
def Assoc.put {β : Type} (m : List (Nat × β)) (k : Nat) (v : β) : List (Nat × β) :=
  Assoc.insert k v (Assoc.erase m k)

/-- The listed value of key `k`. -/
def Assoc.find {β : Type} (m : List (Nat × β)) (k : Nat) : Option β :=
  match m with
  | [] => none
  | (a, b) :: t => if a = k then some b else Assoc.find t k

/-- The canonical form: keys strictly rising, no entry equal to the default. -/
def Assoc.wf {β : Type} [DecidableEq β] (d : β) (m : List (Nat × β)) : Bool :=
  decide (m.Pairwise (fun x y => x.1 < y.1)) && m.all fun e => decide (e.2 ≠ d)

/-! ### Small list helpers -/

/-- Replace the element at position `i` by `f` of it. -/
def modifyAt {α : Type} (i : Nat) (f : α → α) : List α → List α
  | [] => []
  | a :: t => match i with
    | 0 => f a :: t
    | j + 1 => a :: modifyAt j f t

/-- The element at position `i`, or `d`. -/
def getAt {α : Type} (d : α) (l : List α) (i : Nat) : α := (l[i]?).getD d

/-- Fold a state transformer over a list. -/
def forEach {α σ : Type} (l : List α) (f : α → σ → σ) (s : σ) : σ := l.foldl (fun s a => f a s) s

/-- Little-endian value of a list of bytes. -/
def leNat : List Byte → Nat
  | [] => 0
  | b :: t => b.toNat + 256 * leNat t

/-- The `n` low bytes of a number, little-endian. -/
def natLE (n : Nat) (v : Nat) : List Byte :=
  match n with
  | 0 => []
  | k + 1 => BitVec.ofNat 8 v :: natLE k (v / 256)

/-- Bits `lo` up to `lo + w - 1` of a number. -/
def bitsOf (v lo w : Nat) : Nat := v / 2 ^ lo % 2 ^ w

/-- A signed reading of the low `w` bits. -/
def signedOf (w v : Nat) : Int :=
  let u := v % 2 ^ w
  if 2 * u < 2 ^ w then u else (u : Int) - (2 ^ w : Nat)

/-- Saturating increment of a counter of `w` bits. -/
def satInc (w v : Nat) : Nat := if v + 1 < 2 ^ w then v + 1 else 2 ^ w - 1

/-- Saturating sum in `w` bits. -/
def satAdd (w v n : Nat) : Nat := if v + n < 2 ^ w then v + n else 2 ^ w - 1

/-! ### Registers -/

/-- The key of register `r`, instance `i`, in the register map (there are fewer than 1,024 registers). -/
def regKey (r : Reg) (i : Nat) : Nat := i * 1024 + r.ctorIdx

/-- The stored word of a register instance. -/
def State.reg (s : State) (r : Reg) (i : Nat) : Word := Assoc.get (r.reset i) s.regs (regKey r i)

/-- Store a word in a register instance. -/
def State.setReg (s : State) (r : Reg) (i : Nat) (w : Word) : State :=
  { s with regs := Assoc.set (r.reset i) s.regs (regKey r i) w }

/-- A field of a word. -/
def fieldOf (w : Word) (f : Fld) : Nat := bitsOf w.toNat f.lo (f.hi + 1 - f.lo)

/-- A word with a field replaced. -/
def setField (w : Word) (f : Fld) (v : Nat) : Word :=
  (w &&& ~~~(maskBits f.hi f.lo)) ||| ((BitVec.ofNat 32 v <<< f.lo) &&& maskBits f.hi f.lo)

/-- Read a field of a register instance. -/
def State.rd (s : State) (f : Fld) (i : Nat := 0) : Nat := fieldOf (s.reg f.reg i) f

/-- Write a field of a register instance. -/
def State.wr (s : State) (f : Fld) (i : Nat) (v : Nat) : State :=
  s.setReg f.reg i (setField (s.reg f.reg i) f v)

/-- A one-bit field as a truth value. -/
def State.flag (s : State) (f : Fld) (i : Nat := 0) : Bool := s.rd f i ≠ 0

/-- Add 1 to a counting field, saturating at all ones. -/
def State.count (s : State) (f : Fld) (i : Nat) : State := s.wr f i (satInc (f.hi + 1 - f.lo) (s.rd f i))

/-- A field read as a signed number. -/
def State.rdS (s : State) (f : Fld) (i : Nat := 0) : Int := signedOf (f.hi + 1 - f.lo) (s.rd f i)

/-- Write a signed number to a field (its low bits). -/
def State.wrS (s : State) (f : Fld) (i : Nat) (v : Int) : State :=
  s.wr f i (v % (2 ^ (f.hi + 1 - f.lo) : Nat)).toNat

/-- Give every instance of a register its reset value. -/
def State.resetReg (s : State) (r : Reg) : State :=
  { s with regs := s.regs.filter fun e => e.1 % 1024 ≠ r.ctorIdx }

/-- Give every register of a block, but those listed, its reset value. -/
def State.resetBlock (s : State) (b : Block) (keep : List Reg) : State :=
  let gone := (b.regs.filter fun r => !(keep.elem r)).map Reg.ctorIdx
  { s with regs := s.regs.filter fun e => !(gone.elem (e.1 % 1024)) }

/-! ### Free values -/

/-- The next free value, a number below `n`: nothing constrains it (log entry 4). -/
def State.freeNat (s : State) (n : Nat) : Nat × State :=
  (Config.freeNat s.free % n, { s with free := s.free + 1 })

/-- A list of free bytes. -/
def State.freeBytes (s : State) : Nat → List Byte × State
  | 0 => ([], s)
  | n + 1 =>
    let r := s.freeNat 256
    let t := State.freeBytes r.2 n
    (BitVec.ofNat 8 r.1 :: t.1, t.2)

/-! ### What the module sends out -/

/-- Put a message on the module's outputs, oldest first. -/
def State.emit (s : State) (e : Emit) : State := { s with out := s.out ++ [e] }

/-! ### The record (R455 to R461) -/

/-- One step of the CRC-16 of R455 over a byte: polynomial 0x1021, no reflection. -/
def crc16Byte (c : BitVec 16) (b : Byte) : BitVec 16 :=
  (List.range 8).foldl (fun c _ => if c.msb then (c <<< 1) ^^^ 0x1021 else c <<< 1)
    (c ^^^ (b.setWidth 16 <<< 8))

/-- CRC-16 with initial value 0xFFFF and no final XOR. -/
def crc16 (l : List Byte) : BitVec 16 := l.foldl crc16Byte 0xFFFF

/-- Bytes 0 to 19 of a record (R455). -/
def Rec.front (r : Rec) : List Byte :=
  natLE 8 r.time ++ natLE 4 r.optime ++ natLE 4 r.cycles ++ natLE 4 r.seq

/-- Bytes 22 to 63 of a record. -/
def Rec.back (r : Rec) : List Byte :=
  natLE 2 (r.master % 1024) ++
  natLE 2 (r.block % 16 * 4096 + r.reg % 16 * 256 + r.event % 256) ++
  natLE 2 (r.inst % 4096 + r.sev % 4 * 4096 + (if r.disc then 16384 else 0) + (if r.unset then 32768 else 0)) ++
  ((r.data ++ List.replicate 9 0).take 9).flatMap fun (w : Word) => natLE 4 w.toNat

/-- The 64 bytes of a record, CRC in bytes 20 and 21 (R455). -/
def Rec.bytes (r : Rec) : List Byte :=
  r.front ++ natLE 2 (crc16 (r.front ++ r.back)).toNat ++ r.back

/-- The SEQ after `n`: modulo 2^32, skipping 0xFFFF_FFFF (R459). -/
def seqAfter (n : Nat) : Nat := if n + 1 ≥ 0xFFFFFFFF then 0 else n + 1

/-- The lowest severity below `sev` among buffered records (R461). -/
def lowestSevBelow (sev : Nat) (l : List Rec) : Option Nat :=
  (List.range sev).find? fun v => l.any fun r => r.sev = v

/-- Drop the newest record of severity `v` (R461); the list is oldest first. -/
def dropNewest (v : Nat) (l : List Rec) : List Rec :=
  (l.reverse.eraseP fun r => r.sev = v).reverse

/-- The newest record of severity `v`. -/
def newestOf (v : Nat) (l : List Rec) : Option Rec := l.reverse.find? fun r => r.sev = v

/-- Ask for a flush of the recorder; the RECORDER_FLUSH command carries it out (R460). -/
def State.requestFlush (s : State) : State :=
  ({ s with evr := { s.evr with flushDue := true } }).wr F.REC_STAT_FLUSHING 0 (if s.flag F.REC_STAT_FROZEN then 0 else 1)

/-- Set a cause bit without a record, and with it the tray's pending bit of block `b` when the IE bit is
set (R492); a pending bit set while IRQ_N is low starts a re-edge pulse under R493. -/
def State.setPend (s : State) (b : Nat) : State :=
  let low := (s.rd F.IRQ_TRAY_PEND_BLOCK &&& s.rd F.IRQ_TRAY_EN_BLOCK) ≠ 0 || s.flag F.IRQ_PIN_FORCE
  let s1 := s.wr F.IRQ_TRAY_PEND_BLOCK 0 (s.rd F.IRQ_TRAY_PEND_BLOCK ||| 2 ^ b)
  if s.flag F.IRQ_PIN_REEDGE && low && (s.rd F.IRQ_TRAY_EN_BLOCK).testBit b && !s.irqPulse then
    { s1 with irqPulse := true }
  else s1

/-- The IE register of a cause register and its REG number (R491). -/
def causeInfo : Reg → Option (Reg × Nat)
  | .SYS_CAUSE => some (.SYS_CAUSE_IE, 0)
  | .PWR_CAUSE => some (.PWR_CAUSE_IE, 0)
  | .PWR_PS_CAUSE => some (.PWR_PS_CAUSE_IE, 1)
  | .TIM_CAUSE => some (.TIM_CAUSE_IE, 0)
  | .CFG_CAUSE => some (.CFG_CAUSE_IE, 0)
  | .REC_CAUSE => some (.REC_CAUSE_IE, 0)
  | .SEC_CAUSE => some (.SEC_CAUSE_IE, 0)
  | .CLE_CAUSE => some (.CLE_CAUSE_IE, 0)
  | .CIO_CAUSE => some (.CIO_CAUSE_IE, 0)
  | .CLN_CAUSE => some (.CLN_CAUSE_IE, 0)
  | .ROW_CAUSE => some (.ROW_CAUSE_IE, 1)
  | .MTR_CAUSE => some (.MTR_CAUSE_IE, 0)
  | .FAB_PORT_CAUSE => some (.FAB_PORT_CAUSE_IE, 0)
  | .FAB_TR_CAUSE => some (.FAB_TR_CAUSE_IE, 1)
  | .ETH_PORT_CAUSE => some (.ETH_PORT_CAUSE_IE, 0)
  | .MEM_CAUSE => some (.MEM_CAUSE_IE, 0)
  | .CLU_CAUSE => some (.CLU_CAUSE_IE, 0)
  | _ => none

/-- Set a cause bit (R490) and, where its IE bit is set, the tray's pending bit (R492). -/
def State.raiseBit (s : State) (f : Fld) (i : Nat) : State :=
  let s1 := s.wr f i 1
  match causeInfo f.reg with
  | none => s1
  | some (ie, _) => if (s.reg ie i).getLsbD f.lo then s1.setPend f.reg.info.block.num else s1

/-- Count a discarded record (R461): REC_LOST_CNT, LOST, and the span the next LOST record reports. -/
def State.discardRec (s : State) (q : Nat) : State :=
  let s1 := (s.count F.REC_LOST_CNT_VALUE 0).raiseBit F.REC_CAUSE_LOST 0
  { s1 with evr := { s1.evr with
      lost := match s1.evr.lost with
        | none => some (1, q, q)
        | some (n, a, b) => some (n + 1, min a q, max b q) } }

/-- Enter a record into the SRAM buffer under R459 and R461, and ask for the flushes of R460. -/
def State.insertRec (s0 : State) (r : Rec) : State :=
  let s : State := if r.sev = 3 then { s0 with evr := { s0.evr with critAt := some s0.up, critEver := true } } else s0
  if s.evr.buf.length < 1024 then
    let s1 := { s with evr := { s.evr with buf := s.evr.buf ++ [r] } }
    if r.sev = 3 ∨ 32 ≤ s1.evr.buf.length then s1.requestFlush else s1
  else match lowestSevBelow r.sev s.evr.buf with
    | some v =>
      let gone := (newestOf v s.evr.buf).elim 0 Rec.seq
      let s1 := { s with evr := { s.evr with buf := dropNewest v s.evr.buf ++ [r] } }
      (s1.discardRec gone).requestFlush
    | none => s.discardRec r.seq

/-- Build a record with the time, the counters and the marks in force, and enter it (R455 to R459). -/
def State.record (s : State) (block reg event inst sev : Nat) (data : List Word := []) (master : Nat := 0x3FF) : State :=
  let r : Rec := {
    time := s.timeBase.toNat, optime := s.rd F.TIM_OPTIME_COUNT, cycles := s.rd F.TIM_CYCLES_COUNT,
    seq := s.evr.nextSeq, master := master, block := block, reg := reg, event := event, inst := inst,
    sev := sev, disc := s.flag F.TIM_STAT_DISC, unset := s.flag F.TIM_STAT_UNSET, data := data }
  ({ s with evr := { s.evr with nextSeq := seqAfter s.evr.nextSeq } }).insertRec r

/-- Raise a cause: the cause bit, the pending bit, and the record whose CODE names the bit (R456).  `inst`
is the record's INSTANCE. -/
def State.raiseFor (s : State) (f : Fld) (i inst : Nat) (sev : Nat := 0) (data : List Word := [])
    (master : Nat := 0x3FF) : State :=
  let s1 := s.raiseBit f i
  s1.record f.reg.info.block.num ((causeInfo f.reg).elim 15 Prod.snd) f.lo inst sev data master

/-- Raise a cause whose record's INSTANCE is the cause register's own index. -/
def State.raise (s : State) (f : Fld) (i : Nat := 0) (sev : Nat := 0) (data : List Word := [])
    (master : Nat := 0x3FF) : State := s.raiseFor f i i sev data master

/-- A record to which the spec gives no cause bit and no listed code: REG 15 and a free EVENT (log entry 5). -/
def State.recordOpen (s : State) (block inst sev : Nat) (data : List Word := []) : State :=
  let d := s.freeNat 256
  d.2.record block 15 d.1 inst sev data

/-- A number as a 32-bit word of DATA. -/
def wd (n : Nat) : Word := BitVec.ofNat 32 n

/-! ### The interrupt tree (R490 to R493): nothing is stored, each level follows its inputs -/

/-- The output of a cause register instance. -/
def State.causeOut (s : State) (r : Reg) (i : Nat) : Bool :=
  match causeInfo r with
  | some (ie, _) => (s.reg r i &&& s.reg ie i) ≠ 0
  | none => false

/-- The cause registers of each block (R491). -/
def Block.causes : Block → List Reg
  | .SYS => [.SYS_CAUSE] | .IRQ => [] | .PWR => [.PWR_CAUSE, .PWR_PS_CAUSE] | .TIM => [.TIM_CAUSE]
  | .CFG => [.CFG_CAUSE] | .REC => [.REC_CAUSE] | .SEC => [.SEC_CAUSE] | .CLE => [.CLE_CAUSE]
  | .CIO => [.CIO_CAUSE] | .CLN => [.CLN_CAUSE, .ROW_CAUSE] | .MTR => [.MTR_CAUSE]
  | .FAB => [.FAB_PORT_CAUSE, .FAB_TR_CAUSE] | .ETH => [.ETH_PORT_CAUSE] | .MEM => [.MEM_CAUSE]
  | .CLU => [.CLU_CAUSE]

/-- The summary bit of a block. -/
def State.blockSum (s : State) (b : Block) : Bool :=
  b.causes.any fun r => (List.range r.info.count).any fun i => s.causeOut r i

/-- Pack truth values into a number, first in bit 0. -/
def packBits : List Bool → Nat
  | [] => 0
  | b :: t => (if b then 1 else 0) + 2 * packBits t

/-- IRQ_SUM (R490). -/
def State.irqSum (s : State) : Nat := packBits (Block.all.map s.blockSum)

/-- The management line (R492). -/
def State.mgmtLine (s : State) : Bool := (s.irqSum &&& s.rd F.IRQ_MGMT_EN_BLOCK) ≠ 0

/-- IRQ_N driven low (R492), released during a re-edge pulse (R493). -/
def State.irqLow (s : State) : Bool :=
  ((s.rd F.IRQ_TRAY_PEND_BLOCK &&& s.rd F.IRQ_TRAY_EN_BLOCK) ≠ 0 || s.flag F.IRQ_PIN_FORCE) && !s.irqPulse

/-! ### The power state and wake events (R408, R416, R418) -/

/-- STATE codes of PWR_PS_STAT. -/
abbrev psRun : Nat := 0
abbrev psTrim : Nat := 1
abbrev psStandby : Nat := 2
abbrev psFreewheel : Nat := 3
abbrev psEntering : Nat := 4
abbrev psWaking : Nat := 5

/-- The power state. -/
def State.psState (s : State) : Nat := s.rd F.PWR_PS_STAT_STATE

/-- Target of the transition in progress. -/
def State.psTgt (s : State) : Nat := s.rd F.PWR_PS_STAT_TGT

/-- A wake from Freewheel to Standby begins (R418). -/
def State.wakeFreewheel (s : State) : State :=
  (({ s with ps := { s.ps with abort := 0, wake := false } }).wr F.PWR_PS_STAT_STATE 0 psWaking).wr F.PWR_PS_STAT_TGT 0 psStandby

/-- A wake event (R416, R418): in Freewheel the module wakes; in an entry the entry is abandoned at its next point, except
that a leak or an emergency lets it go on (R427), and one that comes during step 5 is served after it. -/
def State.wakeEvent (s : State) (f : Fld) : State :=
  if s.psState = psFreewheel then (s.wr f 0 1).wakeFreewheel
  else if s.psState = psEntering then
    let leak := decide (f = F.PWR_WAKE_SRC_LEAK)
    let fw := decide (s.psTgt = psFreewheel)
    let s1 : State := { s with ps := { s.ps with abort := if leak then s.ps.abort else max 1 s.ps.abort, wake := s.ps.wake || fw } }
    if leak && !fw then s1 else s1.wr f 0 1
  else s

end Sys2Proof.Machine
end

