-- ==== Sys2Proof/Machine/Operands.lean ====
section
/-! DEFINITION.  The operand forms: engine instructions (R103 to R108) and bobbin descriptors (R110 to R112) from
their bytes, and the checks R99 makes of them. -/

namespace Sys2Proof.Machine

/-- Slice of a byte list as a little-endian number. -/
def leAt (l : List Byte) (off n : Nat) : Nat := leNat ((l.drop off).take n)

/-- Byte of a list, 0 past its end. -/
def byteAt (l : List Byte) (off : Nat) : Nat := leAt l off 1

/-- Whether a slice is all zeros. -/
def zerosAt (l : List Byte) (off n : Nat) : Bool := ((l.drop off).take n).all (· = 0)

/-- Read an engine instruction from its 32 bytes (R103). -/
def readEng (l : List Byte) : EngInstr :=
  { opc := BitVec.ofNat 8 (byteAt l 0), flags := BitVec.ofNat 8 (byteAt l 1)
    fmtAB := BitVec.ofNat 8 (byteAt l 2), fmtOut := BitVec.ofNat 8 (byteAt l 3)
    waitTok := BitVec.ofNat 8 (byteAt l 4), waitN := BitVec.ofNat 8 (byteAt l 5)
    sigTok := BitVec.ofNat 8 (byteAt l 6), sigN := BitVec.ofNat 8 (byteAt l 7)
    addrA := BitVec.ofNat 32 (leAt l 8 4), addrB := BitVec.ofNat 32 (leAt l 12 4)
    addrC := BitVec.ofNat 32 (leAt l 16 4), addrLA := BitVec.ofNat 32 (leAt l 20 4)
    addrLB := BitVec.ofNat 32 (leAt l 24 4), len := BitVec.ofNat 16 (leAt l 28 2)
    aux := BitVec.ofNat 16 (leAt l 30 2) }

end Sys2Proof.Machine

namespace Sys2Proof

/-- The 32 bytes of an engine instruction (R103). -/
def EngInstr.bytes (i : EngInstr) : List Byte :=
  [i.opc, i.flags, i.fmtAB, i.fmtOut, i.waitTok, i.waitN, i.sigTok, i.sigN] ++ Machine.natLE 4 i.addrA.toNat ++
    Machine.natLE 4 i.addrB.toNat ++ Machine.natLE 4 i.addrC.toNat ++ Machine.natLE 4 i.addrLA.toNat ++ Machine.natLE 4 i.addrLB.toNat ++
    Machine.natLE 2 i.len.toNat ++ Machine.natLE 2 i.aux.toNat

/-- FLAGS of R103. -/
def EngInstr.relax (i : EngInstr) : Bool := i.flags.getLsbD 0
def EngInstr.waitG (i : EngInstr) : Bool := i.flags.getLsbD 1
def EngInstr.sigG (i : EngInstr) : Bool := i.flags.getLsbD 2
def EngInstr.waitEn (i : EngInstr) : Bool := i.flags.getLsbD 3
def EngInstr.sigEn (i : EngInstr) : Bool := i.flags.getLsbD 4
def EngInstr.list (i : EngInstr) : Bool := i.flags.getLsbD 5
/-- Formats of A and B and of the output (R103, R104). -/
def EngInstr.fa (i : EngInstr) : Nat := i.fmtAB.toNat % 16
def EngInstr.fb (i : EngInstr) : Nat := i.fmtAB.toNat / 16
def EngInstr.fo (i : EngInstr) : Nat := i.fmtOut.toNat % 16

end Sys2Proof

namespace Sys2Proof.Machine

/-- Store operand rule of R103 and R108: a multiple of 64, ending at or below 0x027B_FFFF. -/
def storeOperand (a : BitVec 32) (n : Nat) : Bool := a.toNat % 64 = 0 && a.toNat + n ≤ 0x027C0000

/-- Bytes of a matrix operand: `rows` rows of `len` blocks or elements (R108). -/
def matBytes (fmt rows len : Nat) : Nat := if fmt = 6 then rows * len * 2 else rows * len * blkBytes fmt

/-- Tile and row bytes of weight-stationary operands (R67). -/
def wsTile (fmt : Nat) : Nat := if fmt = 6 then 8192 else 128 * blkBytes fmt
def wsRow (fmt : Nat) : Nat := if fmt = 6 then 128 else 2 * blkBytes fmt

/-- Token rules of R106: with the enable set, the count is not 0 and a global token is at most 63. -/
def tokOk (en glob : Bool) (t n : BitVec 8) : Bool := !en || (n ≠ 0 && (!glob || t.toNat ≤ 63))

/-- Formats of a matrix operation (R44, R104): two block formats, or both SF16. -/
def matFmts (a b : Nat) : Bool := (a ≤ 5 && b ≤ 5) || (a = 6 && b = 6)

/-- The rules by opcode (R105, R108): lengths, options, formats and operand extents. -/
def engBody (i : EngInstr) : Bool :=
  let len := i.len.toNat
  let aux := i.aux.toNat
  let vec := fun (f : Nat) => len * 64 * scalarBytes f
  let scalar := fun (f : Nat) => f = 6 || f = 7
  match i.opc.toNat with
  | 0x00 | 0x20 | 0x3F => len = 0 && aux = 0 && i.fb ≤ 7 && i.fa ≤ 7 && i.fo ≤ 7
  | 0x22 => len = 0 && i.fb ≤ 7 && i.fa ≤ 7 && i.fo ≤ 7
  | 0x01 => matFmts i.fa i.fb && i.fo = 7 && (i.list = (i.fa ≤ 5)) && 1 ≤ len && len ≤ (if i.fa = 6 then 2048 else 64) &&
      aux ≤ 1 && storeOperand i.addrA (matBytes i.fa 64 len) && storeOperand i.addrB (matBytes i.fb 64 len) &&
      storeOperand i.addrC 16384 && (!i.list || (storeOperand i.addrLA (128 * len) && storeOperand i.addrLB (128 * len)))
  | 0x02 => matFmts i.fa i.fb && i.fo = 7 && 1 ≤ len && len ≤ 64 && aux &&& 0x11F = aux &&
      storeOperand i.addrA ((aux % 32 + 1) * len * wsRow i.fa) && storeOperand i.addrB (len * wsTile i.fb) &&
      storeOperand i.addrC ((aux % 32 + 1) * 256)
  | 0x10 => scalar i.fa && i.fb ≤ 7 && (aux = 8 || scalar i.fb) && scalar i.fo && 1 ≤ len && len ≤ 4096 && aux ≤ 8 &&
      storeOperand i.addrA (vec i.fa) && (aux = 8 || storeOperand i.addrB (vec i.fb)) && storeOperand i.addrC (vec i.fo) &&
      (aux ≠ 7 || storeOperand i.addrLA (8 * len))
  | 0x11 => scalar i.fa && i.fb ≤ 7 && i.fo ≤ 7 && 1 ≤ len && len ≤ 4096 && aux ≤ 1 &&
      storeOperand i.addrA (vec i.fa) && storeOperand i.addrC (len * 4)
  | 0x12 => scalar i.fa && i.fb ≤ 7 && scalar i.fo && 1 ≤ len && len ≤ 4096 && aux ≤ 7 &&
      storeOperand i.addrA (vec i.fa) && storeOperand i.addrC (vec i.fo)
  | 0x13 => i.fa ≤ 7 && i.fb ≤ 7 && i.fo ≤ 7 && len = 1 && aux ≤ 7 && storeOperand i.addrA 2048 && storeOperand i.addrLA 8
  | 0x14 => i.fa ≤ 7 && i.fb ≤ 7 && i.fo ≤ 7 && 1 ≤ len && len ≤ 64 && aux ≤ 7 &&
      storeOperand i.addrA (len * 256) && storeOperand i.addrC (len * 256)
  | 0x15 => scalar i.fa && i.fb ≤ 7 && scalar i.fo && 1 ≤ len && len ≤ 4096 && aux ≤ 1 &&
      storeOperand i.addrA (vec i.fa) && storeOperand i.addrC (vec i.fo)
  | 0x18 => scalar i.fa && i.fb ≤ 7 && i.fo ≤ 5 && 1 ≤ len && len ≤ 4096 && aux = 0 && (!i.list || len % 64 = 0) &&
      storeOperand i.addrA (len * 32 * scalarBytes i.fa) && storeOperand i.addrC (len * blkBytes i.fo) &&
      (!i.list || storeOperand i.addrLA (len * 2))
  | 0x19 => i.fa ≤ 5 && i.fb ≤ 7 && scalar i.fo && 1 ≤ len && len ≤ 4096 && aux = 0 &&
      storeOperand i.addrA (len * blkBytes i.fa) && storeOperand i.addrC (len * 32 * scalarBytes i.fo)
  | 0x1A => i.fa ≤ 7 && i.fb ≤ 7 && i.fo ≤ 7 && 1 ≤ len && len ≤ 64 && 1 ≤ aux && aux ≤ 64 &&
      storeOperand i.addrA (i.addrLB.toNat * aux * 64) && storeOperand i.addrC (len * aux * 64) && storeOperand i.addrLA (len * 4)
  | 0x1B => i.fa ≤ 7 && i.fb ≤ 7 && i.fo ≤ 7 && 1 ≤ len && len ≤ 64 && 1 ≤ aux && aux ≤ 64 &&
      storeOperand i.addrA (len * aux * 64) && storeOperand i.addrC (i.addrLB.toNat * aux * 64) && storeOperand i.addrLA (len * 4)
  | _ => false

/-- The structural rules of one engine instruction (R103 to R108). -/
def engOk (i : EngInstr) : Bool :=
  let o := i.opc.toNat
  i.flags.toNat < 64 && i.fmtOut.toNat < 16 && tokOk i.waitEn i.waitG i.waitTok i.waitN &&
  tokOk i.sigEn i.sigG i.sigTok i.sigN && (!i.relax || o = 1 || o = 2) && (!i.list || o = 1 || o = 0x18) &&
  i.addrA.toNat % 64 = 0 && i.addrA.toNat < 0x027C0000 && i.addrB.toNat % 64 = 0 && i.addrB.toNat < 0x027C0000 &&
  i.addrC.toNat % 64 = 0 && i.addrC.toNat < 0x027C0000 && engBody i

/-- An engine instruction of opcode `opc` whose form is right. -/
def engForm (opc : Nat) (i : EngInstr) : Bool := decide (i.opc.toNat = opc) && engOk i

/-- Read a bobbin descriptor from its 64 bytes (R110). -/
def readBob (l : List Byte) : BobDesc :=
  { opc := BitVec.ofNat 8 (byteAt l 0), flags := BitVec.ofNat 8 (byteAt l 1)
    waitTok := BitVec.ofNat 8 (byteAt l 2), waitN := BitVec.ofNat 8 (byteAt l 3)
    sigTok := BitVec.ofNat 8 (byteAt l 4), sigN := BitVec.ofNat 8 (byteAt l 5)
    flow := BitVec.ofNat 16 (leAt l 6 2), src := BitVec.ofNat 64 (leAt l 8 8), dst := BitVec.ofNat 64 (leAt l 16 8)
    rows := BitVec.ofNat 32 (leAt l 24 4), rowBytes := BitVec.ofNat 32 (leAt l 28 4)
    srcStride := BitVec.ofNat 32 (leAt l 32 4), dstStride := BitVec.ofNat 32 (leAt l 36 4)
    index := BitVec.ofNat 64 (leAt l 40 8), nindex := BitVec.ofNat 32 (leAt l 48 4)
    listDst := BitVec.ofNat 32 (leAt l 52 4), aux := BitVec.ofNat 32 (leAt l 56 4)
    argsel := BitVec.ofNat 8 (byteAt l 60) }

end Sys2Proof.Machine

namespace Sys2Proof

/-- The 64 bytes of a bobbin descriptor (R110); bytes 61 to 63 are zeros. -/
def BobDesc.bytes (d : BobDesc) : List Byte :=
  [d.opc, d.flags, d.waitTok, d.waitN, d.sigTok, d.sigN] ++ Machine.natLE 2 d.flow.toNat ++ Machine.natLE 8 d.src.toNat ++
    Machine.natLE 8 d.dst.toNat ++ Machine.natLE 4 d.rows.toNat ++ Machine.natLE 4 d.rowBytes.toNat ++ Machine.natLE 4 d.srcStride.toNat ++
    Machine.natLE 4 d.dstStride.toNat ++ Machine.natLE 8 d.index.toNat ++ Machine.natLE 4 d.nindex.toNat ++ Machine.natLE 4 d.listDst.toNat ++
    Machine.natLE 4 d.aux.toNat ++ [d.argsel, 0, 0, 0]

/-- FLAGS of R110. -/
def BobDesc.fence (d : BobDesc) : Bool := d.flags.getLsbD 0
def BobDesc.sigEn (d : BobDesc) : Bool := d.flags.getLsbD 1
def BobDesc.sigG (d : BobDesc) : Bool := d.flags.getLsbD 2
def BobDesc.waitEn (d : BobDesc) : Bool := d.flags.getLsbD 3
def BobDesc.waitG (d : BobDesc) : Bool := d.flags.getLsbD 4
def BobDesc.list (d : BobDesc) : Bool := d.flags.getLsbD 5
def BobDesc.ord (d : BobDesc) : Bool := d.flags.getLsbD 6
def BobDesc.decomp (d : BobDesc) : Bool := d.flags.getLsbD 7

end Sys2Proof

namespace Sys2Proof.Machine

/-- Space of an address (R111). -/
def spaceOf (a : BitVec 64) : Nat := a.toNat / 2 ^ 60
/-- Partition-memory offset, bits [39:0]. -/
def memOff (a : BitVec 64) : Nat := a.toNat % 2 ^ 40
/-- Slot, bits [37:32]. -/
def slotOf (a : BitVec 64) : Nat := bitsOf a.toNat 32 6
/-- Store address, bits [25:0]. -/
def storeOff (a : BitVec 64) : Nat := a.toNat % 2 ^ 26
/-- Module ID, bits [59:48]. -/
def moduleOf (a : BitVec 64) : Nat := bitsOf a.toNat 48 12
/-- Partition of a peer, bits [47:44]. -/
def peerPart (a : BitVec 64) : Nat := bitsOf a.toNat 44 4

/-- Width of the offset field of a space (R111). -/
def offBits (sp : Nat) : Nat := if sp = 0 ∨ sp = 2 then 40 else 26

/-- Add a RUN argument to the offset field; nothing when the sum does not fit it (R111). -/
def relAddr (a : BitVec 64) (arg : Nat) : Option (BitVec 64) :=
  let w := offBits (spaceOf a)
  let off := a.toNat % 2 ^ w + arg
  if off < 2 ^ w then some (BitVec.ofNat 64 (a.toNat / 2 ^ w * 2 ^ w + off)) else none

/-- The address an operand names, with the argument ARGSEL selects added when it is relative (R110, R111). -/
def bobAddr (a : BitVec 64) (rel : Bool) (sel : Nat) (args : List Nat) : Option (BitVec 64) :=
  if rel then relAddr a (getAt 0 args sel) else some a

/-- The structural rules of one bobbin descriptor under R110 to R112: known opcode, token rules, rows, row bytes
and reserved bits, and the slot of every space-1 address, whatever the opcode; `slots` is the pattern's SLOTS. -/
def bobOk (slots : Nat) (d : BobDesc) : Bool :=
  let o := d.opc.toNat
  let sp := fun (a : BitVec 64) => decide (spaceOf a ≤ 3)
  let slot := fun (a : BitVec 64) => spaceOf a ≠ 1 || slotOf a < slots
  let moves := o ≠ 0 && o ≠ 7
  o ≤ 7 && tokOk d.waitEn d.waitG d.waitTok d.waitN && tokOk d.sigEn d.sigG d.sigTok d.sigN && d.argsel.toNat < 64 &&
  slot d.src && slot d.dst && slot d.index &&
  (!moves || (sp d.src && sp d.dst && d.rowBytes.toNat % 64 = 0 &&
    (o = 6 || (1 ≤ d.rows.toNat && d.rows.toNat ≤ 2 ^ 24)))) &&
  (!d.decomp || (o = 1 && spaceOf d.src = 0 && d.srcStride = 0)) &&
  (o ≠ 4 || spaceOf d.dst = 2 || spaceOf d.dst = 3) && (o ≠ 5 || spaceOf d.src = 2 || spaceOf d.src = 3) &&
  (!(o = 2 || o = 3) || sp d.index)

/-- A descriptor of opcode `opc` whose form is right, whatever slots its pattern has. -/
def bobForm (opc : Nat) (d : BobDesc) : Bool := decide (d.opc.toNat = opc) && bobOk 64 d

end Sys2Proof.Machine
end

