-- ==== Sys2Proof/Machine/Cluster.lean ====
section
/-! DEFINITION.  Clusters: numbers and membership (R16 to R19, R95), the cluster store with its poison (R74 to
R76), tokens (R80 to R83), the running RUN's status (R122 to R124) and the rounding streams (R55). -/

namespace Sys2Proof.Machine

/-! ### Membership -/

/-- Physical clusters, 0 to 67. -/
def allP : List Nat := List.range 68

/-- The physical cluster that carries logical number `c` (R18). -/
def State.physOf (s : State) (c : Nat) : Option Nat := allP.find? fun p => s.rd F.CLU_ID_LOGICAL p = c

/-- The partition a cluster belongs to (CLU_STATE.PART, R93). -/
def State.partOf (s : State) (p : Nat) : Option Nat :=
  if s.flag F.CLU_STATE_PVALID p then some (s.rd F.CLU_STATE_PART p) else none

/-- Insert a pair in a list sorted by its first part. -/
def insSorted (x : Nat × Nat) : List (Nat × Nat) → List (Nat × Nat)
  | [] => [x]
  | y :: t => if x.1 ≤ y.1 then x :: y :: t else y :: insSorted x t

/-- The clusters of partition `n` as (logical, physical), by ascending logical number: position = rank (R95). -/
def State.ranks (s : State) (n : Nat) : List (Nat × Nat) :=
  ((allP.filter fun p => s.partOf p = some n ∧ s.rd F.CLU_ID_LOGICAL p < 64).map fun p =>
    (s.rd F.CLU_ID_LOGICAL p, p)).foldl (fun l x => insSorted x l) []

/-- The home cluster of a partition, physical (R81, R95). -/
def State.home (s : State) (n : Nat) : Option Nat := (s.ranks n).head?.map Prod.snd

/-- Module-wide engine index (R19): the logical cluster number times 16 plus the engine number. -/
def State.engIndex (s : State) (p e : Nat) : Nat := s.rd F.CLU_ID_LOGICAL p * 16 + e

/-! ### Partitions -/

/-- The bookkeeping of partition `n`. -/
def State.part (s : State) (n : Nat) : Part := getAt Part.empty s.parts n

/-- Change the bookkeeping of partition `n`. -/
def State.modPart (s : State) (n : Nat) (f : Part → Part) : State := { s with parts := modifyAt n f s.parts }

/-- ETH_PART_STATE.STATE (R127): 0 FREE, 1 ASSIGNED, 2 JOB, 3 ENDED, 4 SCRUB. -/
def State.pstate (s : State) (n : Nat) : Nat := s.rd F.ETH_PART_STATE_STATE n

/-! ### The status of commands in flight (R122 to R124) -/

/-- Merge a status: the highest value of bits [15:4] stands, and among those the one that arose first (R124). -/
def Cmd.note (c : Cmd) (status origin : Nat) : Cmd :=
  if c.status / 16 < status / 16 then { c with status := status, origin := origin } else c

/-- Merge arithmetic flags (R62, R122). -/
def Cmd.addFlags (c : Cmd) (fl : Nat) : Cmd := { c with flags := c.flags ||| fl }

/-- Mark poison (R122) and the status POISON with its origin (R123). -/
def Cmd.addPoison (c : Cmd) (origin : Nat) : Cmd := ({ c with poison := true }).note 0x20 origin

/-- Change the running RUN command of partition `n` (at most one runs, R120). -/
def State.modRun (s : State) (n : Nat) (f : Cmd → Cmd) : State :=
  { s with cmds := s.cmds.map fun c => if c.ring / 4 = n ∧ c.opc = 3 ∧ c.phase = .running then f c else c }

/-- Whether a RUN of partition `n` is running. -/
def State.runActive (s : State) (n : Nat) : Bool :=
  s.cmds.any fun c => c.ring / 4 = n ∧ c.opc = 3 ∧ c.phase = .running

/-- Note a status on the RUN of the partition that cluster `p` belongs to. -/
def State.noteAt (s : State) (p : Nat) (f : Cmd → Cmd) : State :=
  match s.partOf p with
  | some n => s.modRun n f
  | none => s

/-! ### Arithmetic status (R62 to R64) -/

/-- The cluster's arithmetic cause follows its level (R64). -/
def State.arithLevel (s : State) (p : Nat) : State :=
  let on := (bitsOf (s.reg .CLU_ARITH_STAT p).toNat 0 6 &&& s.rd F.CLU_ARITH_IE_EN p) ≠ 0
  if on && !(s.flag F.CLU_CAUSE_ARITH p) then s.raise F.CLU_CAUSE_ARITH p
  else s.wr F.CLU_CAUSE_ARITH p (if on then 1 else 0)

/-- Raise arithmetic flags from engine `e` of cluster `p`: CLU_ARITH_STAT and the command's FLAGS (R62). -/
def State.arith (s : State) (p e fl : Nat) : State :=
  if fl = 0 then s
  else
    let w := s.reg .CLU_ARITH_STAT p ||| BitVec.ofNat 32 (fl % 64 + 2 ^ (16 + e % 16))
    ((s.setReg .CLU_ARITH_STAT p w).arithLevel p).noteAt p fun c => c.addFlags (fl % 64)

/-! ### The cluster store (R74 to R76) -/

/-- First store address past the pattern area: the working area of the control core (R74). -/
abbrev patTop : Nat := 0x027C0000

/-- Bytes of a store, 40 MiB. -/
abbrev storeTop : Nat := 0x02800000

/-- Key of a store byte. -/
def storeKey (p a : Nat) : Nat := p * 2 ^ 26 + a % 2 ^ 26

/-- Read one store byte; a store is zeroed before use (R91, R263), so an unlisted byte reads 0. -/
def State.storeByte (s : State) (p a : Nat) : Byte := Assoc.get 0 s.store (storeKey p a)

/-- Read `n` store bytes. -/
def State.storeRead (s : State) (p a n : Nat) : List Byte := (List.range n).map fun i => s.storeByte p (a + i)

/-- Key of a store line. -/
def lineKey (p a : Nat) : Nat := storeKey p a / 64

/-- Whether the line of a store address is poisoned. -/
def State.linePoison (s : State) (p a : Nat) : Bool := Assoc.get false s.storePoison (lineKey p a)

/-- The lines a span touches, as line-start addresses. -/
def linesOf (a n : Nat) : List Nat :=
  if n = 0 then [] else (List.range ((a + n - 1) / 64 - a / 64 + 1)).map fun i => (a / 64 + i) * 64

/-- Whether any line of a span is poisoned. -/
def State.spanPoison (s : State) (p a n : Nat) : Bool := (linesOf a n).any fun l => s.linePoison p l

/-- Set or clear the poison bit of a line. -/
def State.setLinePoison (s : State) (p a : Nat) (b : Bool) : State :=
  { s with storePoison := Assoc.set false s.storePoison (lineKey p a) b }

/-- Write bytes of one line without regard to poison. -/
def State.storePut (s : State) (p a : Nat) (l : List Byte) : State :=
  { s with store := (l.zipIdx).foldl (fun m x => Assoc.set 0 m (storeKey p (a + x.2)) x.1) s.store }

/-- Write within one line under R76: poisoned data sets the line's bit; a whole line of clean data clears it;
a part write to a poisoned line leaves it poisoned and its data unchanged. -/
def State.storeLine (s : State) (p a : Nat) (l : List Byte) (poison : Bool) : State :=
  let whole := a % 64 = 0 ∧ l.length = 64
  if s.linePoison p a ∧ ¬ whole then s
  else if poison then (s.storePut p a l).setLinePoison p a true
  else (s.storePut p a l).setLinePoison p a false

/-- Split a span of bytes at line boundaries: (address, bytes) pieces; `fuel` bounds the pieces. -/
def splitLines (fuel a : Nat) (l : List Byte) : List (Nat × List Byte) :=
  match fuel with
  | 0 => []
  | k + 1 =>
    if l = [] then []
    else
      let n := 64 - a % 64
      (a, l.take n) :: splitLines k (a + n) (l.drop n)

/-- Write a span of bytes, line by line. -/
def State.storeWrite (s : State) (p a : Nat) (l : List Byte) (poison : Bool) : State :=
  (splitLines (l.length + 1) a l).foldl (fun s x => s.storeLine p x.1 x.2 poison) s

/-- Zero the store of a cluster and clear every poison bit (R76). -/
def State.storeZero (s : State) (p : Nat) : State :=
  { s with
    store := s.store.filter fun e => e.1 / 2 ^ 26 ≠ p
    storePoison := s.storePoison.filter fun e => e.1 / 2 ^ 20 ≠ p }

/-- An uncorrectable store error: poison the line, STORE_UE, its address latch and a warning record (R76). -/
def State.storeUE (s : State) (p a : Nat) : State :=
  let s1 := s.setLinePoison p a true
  let s2 := if s1.flag F.CLU_STORE_UE_ADDR_VALID p then s1
    else (s1.wr F.CLU_STORE_UE_ADDR_LINE p (a / 64)).wr F.CLU_STORE_UE_ADDR_VALID p 1
  let s3 := { s2 with ueLines := Assoc.put s2.ueLines (lineKey p a) true }
  s3.raise F.CLU_CAUSE_STORE_UE p 2 [wd a]

/-- A correctable store error: corrected on read, written back and counted (R76). -/
def State.storeCE (s : State) (p : Nat) : State :=
  (s.count F.CLU_STORE_CE_CNT_COUNT p).raise F.CLU_CAUSE_STORE_CE p

/-- Apply the errors a read met. -/
def State.eccHits (s : State) (p : Nat) (l : List EccHit) : State :=
  l.foldl (fun s h => if h.uncorrectable then s.storeUE p h.addr.toNat else s.storeCE p) s

/-! ### Tokens (R80 to R83) -/

/-- Key of local token `t` of cluster `p`. -/
def localTok (p t : Nat) : Nat := p * 256 + t % 256

/-- Key of global token `t` of partition `n`. -/
def globalTok (n t : Nat) : Nat := 68 * 256 + n * 64 + t % 64

/-- The token a unit of cluster `p` names. -/
def State.tokKey (s : State) (p : Nat) (glob : Bool) (t : Nat) : Option Nat :=
  if glob then (s.partOf p).map fun n => globalTok n t else some (localTok p t)

/-- Count of a token. -/
def State.tokCount (s : State) (k : Nat) : Nat := Assoc.get 0 s.tok k

/-- The cluster that holds a token: its own, or the home cluster for a global token (R81). -/
def State.tokHolder (s : State) (k : Nat) : Option Nat :=
  if k < 68 * 256 then some (k / 256) else s.home ((k - 68 * 256) / 64)

/-- A unit's code: cluster times 32 plus engine number, 16 + bobbin, or 20 for the control core. -/
def unitCode (p k : Nat) : Nat := p * 32 + k % 32

/-- Stop the pattern of partition `n`: streams and lists are dropped and the waits end (R82).  A CLU_STALL bit that is set stays
(R83; log entry 82). -/
def State.stopPattern (s : State) (n : Nat) : State :=
  let mine := fun (u : Nat) => decide (s.partOf (u / 32) = some n)
  { s with
    engQ := s.engQ.filter fun e => !(mine e.1)
    bobQ := s.bobQ.filter fun e => !(mine e.1)
    replayQ := s.replayQ.filter fun e => !(mine (unitCode e.cluster e.engine))
    waiters := s.waiters.filter fun w => !(mine w.unit)
    granted := s.granted.filter fun u => !(mine u) }

/-- Add to a token. Above 65,535 the count saturates, TOKOVF is raised at its holder, the RUN takes the status
TOKOVF with the holder's logical number, and the pattern is stopped (R82). The answer tells of an overflow. -/
def State.tokAdd (s : State) (k n : Nat) : State × Bool :=
  let c := s.tokCount k + n
  let s1 := { s with tok := Assoc.set 0 s.tok k (min c 65535), tokSig := Assoc.put s.tokSig k s.up }
  if c ≤ 65535 then (s1, false)
  else match s1.tokHolder k with
    | none => (s1, true)
    | some p =>
      let s2 := s1.raise F.CLU_CAUSE_TOKOVF p
      match s2.partOf p with
      | none => (s2, true)
      | some part =>
        ((s2.modRun part fun c => c.note 0x23 (s2.rd F.CLU_ID_LOGICAL p)).stopPattern part, true)

/-- Whether a unit's wait may be satisfied at once: the count suffices and no waiter is queued before it (R80). -/
def State.tokReady (s : State) (k n : Nat) : Bool :=
  n ≤ s.tokCount k && !(s.waiters.any fun w => w.tok = k)

/-- Take `n` from a token. -/
def State.tokTake (s : State) (k n : Nat) : State := { s with tok := Assoc.set 0 s.tok k (s.tokCount k - n) }

/-- A wait: already granted (the grant is used up), satisfied at once, or queued in arrival order. The answer
says whether the unit may go on. -/
def State.waitOn (s : State) (unit k n : Nat) : State × Bool :=
  if s.granted.elem unit then ({ s with granted := s.granted.erase unit }, true)
  else if s.waiters.any fun w => w.unit = unit then (s, false)
  else if s.tokReady k n then (s.tokTake k n, true)
  else ({ s with waiters := s.waiters ++ [{ tok := k, unit := unit, n := n, since := s.up }] }, false)

/-- The bit of CLU_STALL a unit has (R93). -/
def stallBit (unit : Nat) : Nat := 2 ^ (unit % 32)

/-- Clear the stall bit of a unit whose wait completed (R83). -/
def State.clearStall (s : State) (unit : Nat) : State :=
  let w := s.reg .CLU_STALL (unit / 32)
  s.setReg .CLU_STALL (unit / 32) (w &&& ~~~(BitVec.ofNat 32 (stallBit unit)))

/-- Release the first waiter of a token when its count suffices (R80): the count is subtracted, the unit is
granted, and its stall bit clears. -/
def State.tokRelease (s : State) (k : Nat) : State :=
  match s.waiters.find? fun w => w.tok = k with
  | none => s
  | some w =>
    if s.tokCount k < w.n then s
    else
      let s1 := s.tokTake k w.n
      ({ s1 with waiters := s1.waiters.erase w, granted := s1.granted ++ [w.unit] }).clearStall w.unit

/-! ### Rounding streams (R55) -/

/-- Key of consumer `c`'s stream for partition `n`. -/
def rngKey (n c : Nat) : Nat := n * 2048 + c

/-- The rounding source of consumer `c` under partition `n`'s policy (R53). -/
def State.rndSrc (s : State) (n c : Nat) : RndSrc :=
  { stoch := (s.part n).stoch, st := Assoc.get (streamInit (s.part n).seed c) s.rng (rngKey n c) }

/-- Keep a stream's new state. -/
def State.setRnd (s : State) (n c : Nat) (r : RndSrc) : State :=
  if (s.part n).stoch then { s with rng := Assoc.put s.rng (rngKey n c) r.st } else s

end Sys2Proof.Machine
end

