-- ==== Sys2Proof/Machine/Engine.lean ====
section
/-! DEFINITION.  The engine instructions (R65 to R72, R103 to R109, R519): every command carries the stream it
belongs to (physical cluster and engine number), the instruction, and the store errors its reads met. -/

namespace Sys2Proof.Machine

/-! ### Store operands with their poison -/

/-- An element of `n` bytes at a store address, with the poison of its line(s). -/
def State.elem (s : State) (p a n : Nat) : Nat × Bool := (leNat (s.storeRead p a n), s.spanPoison p a n)

/-- Write bytes, each with its poison mark; a line is poisoned when any byte written to it carries poison. -/
def State.storeWriteP (s : State) (p a : Nat) (l : List (Byte × Bool)) : State :=
  let bytes := l.map Prod.fst
  let go := fun (s : State) (x : Nat × List Byte) =>
    s.storeLine p x.1 x.2 (((l.drop (x.1 - a)).take x.2.length).any Prod.snd)
  (splitLines (bytes.length + 1) a bytes).foldl go s

/-- Bytes of an element of `n` bytes with its mark. -/
def markLE (n : Nat) (v : Nat × Bool) : List (Byte × Bool) := (natLE n v.1).map fun b => (b, v.2)

/-- The partition of a cluster, 0 when it has none (its policy is then the empty one). -/
def State.pol (s : State) (p : Nat) : Nat := (s.partOf p).getD 16

/-- Note poison on the running command: its origin is the logical cluster (R123). -/
def State.notePoison (s : State) (p : Nat) (b : Bool) : State :=
  if b then s.noteAt p fun c => c.addPoison (s.rd F.CLU_ID_LOGICAL p) else s

/-- Note an index error (R71, R123). -/
def State.noteIndex (s : State) (p : Nat) (b : Bool) : State :=
  if b then s.noteAt p fun c => c.note 0x22 (s.rd F.CLU_ID_LOGICAL p) else s

/-! ### Wait, signal and the stream -/

/-- Take an instruction off the front of its stream when it stands there. -/
def State.popEng (s : State) (p e : Nat) (i : EngInstr) : State :=
  let u := unitCode p e
  match Assoc.find s.engQ u with
  | some (j :: t) => if j = i then { s with engQ := Assoc.put s.engQ u t } else s
  | _ => s

/-- The SIGNAL of an instruction, issued once its writes are visible (R106). -/
def State.engSignal (s : State) (p : Nat) (i : EngInstr) : State :=
  if i.sigEn then
    match s.tokKey p i.sigG i.sigTok.toNat with
    | some k => (s.tokAdd k i.sigN.toNat).1
    | none => s
  else s

/-- The WAIT of an instruction (R106): the state after it and whether the engine goes on. -/
def State.engWait (s : State) (p e : Nat) (i : EngInstr) : State × Bool :=
  if i.waitEn then
    match s.tokKey p i.waitG i.waitTok.toNat with
    | some k => s.waitOn (unitCode p e) k i.waitN.toNat
    | none => (s, false)
  else (s, true)

/-- The shared course of every engine instruction: its form is checked, instructions of its stream that are to be
replayed go first (R472), its WAIT comes first (an instruction whose WAIT is not satisfied stalls), then its
effect, then its SIGNAL (R106). -/
def runEng (p : Fin 68) (e : Fin 16) (opc : Nat) (i : EngInstr) (hits : List EccHit) (body : State → State)
    (s : State) : Out :=
  if engForm opc i then
    if s.replayQ.any fun r => r.cluster = p && r.engine = e then .next s
    else
      let w := s.engWait p e i
      if w.2 then .next (((body (w.1.eccHits p hits)).popEng p e i).engSignal p i) else .next w.1
  else .refused .illFormed

/-! ### Matrix operations -/

/-- Read `n` blocks of a format from consecutive places, with the poison of each. -/
def State.readBlks (s : State) (p a fmt : Nat) (f : BlkFmt) (n : Nat) : List (Blk × Bool) :=
  (List.range n).map fun k =>
    let q := a + k * blkBytes fmt
    (readBlk fmt f (s.storeRead p q (blkBytes fmt)), s.spanPoison p q (blkBytes fmt))

/-- Read `n` SF16 elements. -/
def State.readHalf (s : State) (p a n : Nat) : List (FVal × Bool) :=
  (List.range n).map fun r => let x := s.elem p (a + 2 * r) 2; (fvalOf 7 x.1, x.2)

/-- Requantise a list of activation blocks to SB6b with one stream (R58). -/
def relaxBlks (fa : Nat) (A B6 : BlkFmt) : List (Blk × Bool) → RndSrc → List (Blk × Bool) × Nat × RndSrc
  | [], r => ([], 0, r)
  | b :: t, r =>
    let q := quantBlk 2 B6 (blkVals fa A b.1) r
    let rest := relaxBlks fa A B6 t q.2.2
    ((q.1, b.2) :: rest.1, q.2.1 ||| rest.2.1, rest.2.2)

/-- Whether an operation runs relaxed (R58): policy, flag, SB8a or SB8b activations, and an episode. -/
def State.relaxed (s : State) (p : Nat) (i : EngInstr) : Bool :=
  i.relax && (i.fa = 3 || i.fa = 4) && (s.part (s.pol p)).relaxOk && (s.part (s.pol p)).relax

/-- Account a relaxed operation (R60). -/
def State.countRelaxed (s : State) (p e : Nat) : State :=
  let s1 := (s.count F.CLU_ARITH_RELAX_CNT_COUNT p).arith p e flRELAX
  (s1.modPart (s.pol p) fun q => { q with relaxCount := q.relaxCount + 1 }).noteAt p
    fun c => { c with detail := c.detail + 1 }

/-- Whether the exponent list at `a` matches the blocks: entry of block `k` of row `i` at `k * 64 + i` (R68). -/
def State.listOk (s : State) (p a fmt : Nat) (f : BlkFmt) (rows : List (List (Blk × Bool))) : Bool :=
  rows.zipIdx.all fun r => r.1.zipIdx.all fun b =>
    (s.elem p (a + 2 * (b.2 * 64 + r.2)) 2).1 = listEntry fmt f b.1.1

/-- Activation rows, relaxed to SB6b when the operation runs relaxed: rows, flags, and the stream after. -/
def relaxRows (fa : Nat) (A B6 : BlkFmt) : List (List (Blk × Bool)) → RndSrc → List (List (Blk × Bool)) × Nat × RndSrc
  | [], r => ([], 0, r)
  | row :: t, r =>
    let q := relaxBlks fa A B6 row r
    let rest := relaxRows fa A B6 t q.2.2
    (q.1 :: rest.1, q.2.1 ||| rest.2.1, rest.2.2)

/-- Outputs of one row of chunk results: value, flags and poison of each column. -/
def rowOut (chunk : Nat → Nat × Nat × Bool) : List (Nat × Nat × Bool) := (List.range 64).map chunk

/-- Write a 64-wide row of SF32 outputs, adding into the values there when ACC is set, and give the flags and
whether any carries poison. -/
def State.putRow (s : State) (p a : Nat) (acc : Bool) (row : List (Nat × Nat × Bool)) : State × Nat × Bool :=
  let vals := row.zipIdx.map fun x =>
    if acc then
      let c := s.elem p (a + 4 * x.2) 4
      let r := addW c.1 x.1.1
      ((r.1, x.1.2.2 || c.2), r.2 ||| x.1.2.1)
    else ((x.1.1, x.1.2.2), x.1.2.1)
  (s.storeWriteP p a (vals.flatMap fun v => markLE 4 v.1), vals.foldl (fun f v => f ||| v.2) 0,
    vals.any fun v => v.1.2)

/-- Write rows of outputs one after another. -/
def State.putRows (s : State) (p a : Nat) (acc : Bool) : List (List (Nat × Nat × Bool)) → Nat → State × Nat × Bool
  | [], _ => (s, 0, false)
  | row :: t, i =>
    let r := s.putRow p (a + i * 256) acc row
    let rest := State.putRows r.1 p a acc t (i + 1)
    (rest.1, r.2.1 ||| rest.2.1, r.2.2 || rest.2.2)

/-- The tile of an output-stationary operation whose lists match, or that works on SF16 (R66, R45 to R50). -/
def mmaOsBlocks (p e : Nat) (i : EngInstr) (A B B6 : BlkFmt) (s : State) : State :=
  let len := i.len.toNat
  let rows := (List.range 64).map fun r => s.readBlks p (i.addrA.toNat + r * len * blkBytes i.fa) i.fa A len
  let cols := (List.range 64).map fun c => s.readBlks p (i.addrB.toNat + c * len * blkBytes i.fb) i.fb B len
  let rel := s.relaxed p i
  let lists := (rel || s.listOk p i.addrLA.toNat i.fa A rows) && s.listOk p i.addrLB.toNat i.fb B cols
  let listPoison := s.spanPoison p i.addrLA.toNat (128 * len) || s.spanPoison p i.addrLB.toNat (128 * len)
  let src := s.rndSrc (s.pol p) (s.engIndex p e)
  let rx := if rel then relaxRows i.fa A B6 rows src else (rows, 0, src)
  let s1 := if rel then (s.setRnd (s.pol p) (s.engIndex p e) rx.2.2).countRelaxed p e else s
  let fa := if rel then 2 else i.fa
  let FA := if rel then B6 else A
  if lists then
    let out := rx.1.map fun row => rowOut fun c =>
      let col := getAt [] cols c
      let r := chunkBlocks fa FA i.fb B ((row.map Prod.fst).zip (col.map Prod.fst))
      (r.1, r.2, listPoison || row.any Prod.snd || col.any Prod.snd)
    let w := s1.putRows p i.addrC.toNat (i.aux.getLsbD 0) out 0
    (w.1.notePoison p w.2.2).arith p e (w.2.1 ||| rx.2.1)
  else
    let fr := s1.freeBytes 16384
    let bad := listPoison || (rows ++ cols).any fun r => r.any Prod.snd
    let s2 := fr.2.storeWriteP p i.addrC.toNat (fr.1.map fun b => (b, bad))
    let s3 := (s2.raise F.CLU_CAUSE_EXPLIST p).noteAt p fun c => c.note 0x21 (s.rd F.CLU_ID_LOGICAL p)
    s3.notePoison p bad

/-- The tile of an output-stationary SF16 operation. -/
def mmaOsHalf (p e : Nat) (i : EngInstr) (s : State) : State :=
  let len := i.len.toNat
  let rows := (List.range 64).map fun r => s.readHalf p (i.addrA.toNat + r * len * 2) len
  let cols := (List.range 64).map fun c => s.readHalf p (i.addrB.toNat + c * len * 2) len
  let out := rows.map fun row => rowOut fun c =>
    let col := getAt [] cols c
    let r := chunkScalars ((row.map Prod.fst).zip (col.map Prod.fst))
    (r.1, r.2, row.any Prod.snd || col.any Prod.snd)
  let w := s.putRows p i.addrC.toNat (i.aux.getLsbD 0) out 0
  (w.1.notePoison p w.2.2).arith p e w.2.1

/-- MMA_OS (R66): the effect between WAIT and SIGNAL. -/
def mmaOs (p e : Nat) (i : EngInstr) (s : State) : State :=
  match blkFmt i.fa, blkFmt i.fb, blkFmt 2 with
  | some A, some B, some B6 => mmaOsBlocks p e i A B B6 s
  | _, _, _ => mmaOsHalf p e i s

/-- A free order of `n` things (R51: the spec fixes no order of the additions after the chunk). -/
def State.freeOrder (s : State) : Nat → List Nat → List Nat × State
  | 0, _ => ([], s)
  | k + 1, l =>
    let r := s.freeNat l.length
    let x := getAt 0 l r.1
    let rest := State.freeOrder r.2 k (l.eraseIdx r.1)
    (x :: rest.1, rest.2)

/-- Add a list of SF32 words to a start value in the given order, with flags. -/
def sumWords (start : Option Nat) : List Nat → Nat × Nat
  | [] => (start.getD 0, 0)
  | x :: t => match start with
    | none => sumWords (some x) t
    | some a =>
      let r := addW a x
      let rest := sumWords (some r.1) t
      (rest.1, r.2 ||| rest.2)

/-- Vector register `r` of an engine (R65): 64 words; before a pass writes it, it holds zeros (log entry 12). -/
def State.vreg (s : State) (p e r : Nat) : List Nat :=
  Assoc.get (List.replicate 64 0) s.vregs ((p * 16 + e) * 32 + r % 32)

/-- The instruction queue of an engine (R65): the next 32 instructions of its stream, which the control core keeps
filled from it. -/
def State.instrQueue (s : State) (p e : Nat) : List EngInstr := (Assoc.get [] s.engQ (unitCode p e)).take 32

/-- One weight-stationary row: for each tile the 64 chunk results, added in a free order (R67, R51). -/
def wsRowOut (start : Nat → Option Nat) (tiles : List (List (Nat × Nat × Bool))) (order : List Nat) :
    List (Nat × Nat × Bool) :=
  (List.range 64).map fun c =>
    let xs := order.map fun t => getAt (0, 0, false) (getAt [] tiles t) c
    let r := sumWords (start c) (xs.map fun x => x.1)
    (r.1, xs.foldl (fun f x => f ||| x.2.1) r.2, xs.any fun x => x.2.2)

/-- Chunk results of one activation row against one weight tile. -/
def State.wsChunk (s : State) (p : Nat) (i : EngInstr) (row : List (Blk × Bool) ⊕ List (FVal × Bool)) (fa : Nat)
    (FA : BlkFmt) (t : Nat) : List (Nat × Nat × Bool) :=
  let base := i.addrB.toNat + t * wsTile i.fb
  match row, blkFmt i.fb with
  | .inl blks, some B => rowOut fun j =>
    let col := s.readBlks p (base + j * 2 * blkBytes i.fb) i.fb B 2
    let r := chunkBlocks fa FA i.fb B ((blks.map Prod.fst).zip (col.map Prod.fst))
    (r.1, r.2, blks.any Prod.snd || col.any Prod.snd)
  | .inr vals, _ => rowOut fun j =>
    let col := s.readHalf p (base + j * 128) 64
    let r := chunkScalars ((vals.map Prod.fst).zip (col.map Prod.fst))
    (r.1, r.2, vals.any Prod.snd || col.any Prod.snd)
  | .inl _, none => []

/-- The rows of a weight-stationary pass, `n` rows from row `i0`. -/
def mmaWsRows (p e : Nat) (i : EngInstr) (rel : Bool) : Nat → Nat → State → State
  | 0, _, s => s
  | n + 1, r, s =>
    let w := i.len.toNat
    let src := s.rndSrc (s.pol p) (s.engIndex p e)
    let addr := fun t => i.addrA.toNat + (r * w + t) * wsRow i.fa
    let parts : List ((List (Blk × Bool) ⊕ List (FVal × Bool))) × Nat × RndSrc :=
      match blkFmt i.fa, blkFmt 2 with
      | some A, some B6 =>
        let raw := (List.range w).map fun t => s.readBlks p (addr t) i.fa A 2
        if rel then
          let q := relaxRows i.fa A B6 raw src
          (q.1.map Sum.inl, q.2.1, q.2.2)
        else (raw.map Sum.inl, 0, src)
      | _, _ => ((List.range w).map fun t => Sum.inr (s.readHalf p (addr t) 64), 0, src)
    let s1 := if rel then s.setRnd (s.pol p) (s.engIndex p e) parts.2.2 else s
    let fa := if rel then 2 else i.fa
    let FA := (blkFmt fa).getD ⟨0, 0, 0, 0, 0, 0, 0, 0⟩
    let tiles := parts.1.zipIdx.map fun x => s1.wsChunk p i x.1 fa FA x.2
    let ord := s1.freeOrder w (List.range w)
    let acc := i.aux.getLsbD 8
    let ca := i.addrC.toNat + r * 256
    let row := wsRowOut (fun c => if acc then some (s1.elem p (ca + 4 * c) 4).1 else none) tiles ord.1
    let marked := row.zipIdx.map fun v => (v.1.1, v.1.2.2 || (acc && (s1.elem p (ca + 4 * v.2) 4).2))
    let bytes := marked.flatMap fun v => markLE 4 v
    let s2 := ord.2.storeWriteP p ca bytes
    let s3 := { s2 with vregs := Assoc.put s2.vregs ((p * 16 + e) * 32 + r % 32) (row.map fun (v : Nat × Nat × Bool) => v.1) }
    let s4 := (s3.notePoison p (marked.any Prod.snd)).arith p e (row.foldl (fun f (v : Nat × Nat × Bool) => f ||| v.2.1) parts.2.1)
    mmaWsRows p e i rel n (r + 1) s4

/-- MMA_WS (R67): the effect between WAIT and SIGNAL. -/
def mmaWs (p e : Nat) (i : EngInstr) (s : State) : State :=
  let rel := s.relaxed p i
  let s1 := if rel then s.countRelaxed p e else s
  mmaWsRows p e i rel (i.aux.toNat % 32 + 1) 0 s1

/-! ### The vector unit (R71, R72, R519) -/

/-- Convert an SF32 word to the output format, drawing when it is a down-conversion (R53 to R55). -/
def outElem (fo w : Nat) (r : RndSrc) : Nat × Nat × RndSrc :=
  if fo = 6 then
    let d := r.draw
    let e := encodeV 7 d.1 (fvalOf 23 w)
    (e.1, e.2, d.2)
  else (w, 0, r)

/-- The SF32 word of an element in a scalar format. -/
def widen (fmt w : Nat) : Nat := if fmt = 6 then w * 65536 else w

/-- An element-wise operation on SF32 values (R105, R519): SF32 result and flags. -/
def ewOp (op : Nat) (sel : Bool) (a b c : Nat) : Nat × Nat :=
  let A := fvalOf 23 a
  let B := fvalOf 23 b
  let quiet := fun (v : FVal) => ((encodeV 23 .rne v).1, nanIn [v])
  match op with
  | 0 => addV A B
  | 1 => addV A (negV B)
  | 2 => mulV A B
  | 3 => fmaV A B (fvalOf 23 c)
  | 4 => let r := maxV A B; ((encodeV 23 .rne r.1).1, r.2)
  | 5 => let r := minV A B; ((encodeV 23 .rne r.1).1, r.2)
  | 6 => let r := cmpLtV A B; ((encodeV 23 .rne r.1).1, r.2)
  | 7 => quiet (if sel then A else B)
  | _ => quiet A

/-- Run a function over elements `k, k+1, ...`, each giving an output element, flags and poison; the stream and
the free values are threaded through the state.  The outputs are collected with their marks. -/
def State.elems (s : State) (p e fo : Nat) (f : Nat → State → (Nat × Nat × Bool) × State) :
    Nat → Nat → State × Nat × List (Nat × Bool)
  | 0, _ => (s, 0, [])
  | n + 1, k =>
    let r := f k s
    let o := outElem fo r.1.1 (r.2.rndSrc (s.pol p) (s.engIndex p e))
    let rest := State.elems (r.2.setRnd (s.pol p) (s.engIndex p e) o.2.2) p e fo f n (k + 1)
    (rest.1, r.1.2.1 ||| o.2.1 ||| rest.2.1, (o.1, r.1.2.2) :: rest.2.2)

/-- Run a function over `n` elements and write the outputs one after another from `dst`: as one span, so that a
whole line of clean outputs clears its poison (R76).  All inputs are read before the first output is written
(log entry 61). -/
def State.mapElems (s : State) (p e fo : Nat) (f : Nat → State → (Nat × Nat × Bool) × State) (dst n : Nat) :
    State × Nat × Bool :=
  let r := s.elems p e fo f n 0
  (r.1.storeWriteP p dst (r.2.2.flatMap (markLE (scalarBytes fo))), r.2.1, r.2.2.any Prod.snd)

/-- End a vector operation: poison and flags. -/
def State.vecEnd (r : State × Nat × Bool) (p e : Nat) : State := (r.1.notePoison p r.2.2).arith p e r.2.1

/-- VEC_EW (R105, R108, R519). -/
def vecEw (p e : Nat) (i : EngInstr) (s : State) : State :=
  let op := i.aux.toNat % 16
  let sa := scalarBytes i.fa
  let sb := scalarBytes i.fb
  let so := scalarBytes i.fo
  let f := fun (k : Nat) (s : State) =>
    let a := s.elem p (i.addrA.toNat + k * sa) sa
    let b := if op = 8 then (0, false) else s.elem p (i.addrB.toNat + k * sb) sb
    let c := if op = 3 then s.elem p (i.addrC.toNat + k * so) so else (0, false)
    let m := if op = 7 then s.elem p (i.addrLA.toNat + k / 64 * 8) 8 else (0, false)
    let r := ewOp op (m.1.testBit (k % 64)) (widen i.fa a.1) (widen i.fb b.1) (widen i.fo c.1)
    ((r.1, r.2, a.2 || b.2 || c.2 || m.2), s)
  State.vecEnd (s.mapElems p e i.fo f i.addrC.toNat (i.len.toNat * 64)) p e

/-- Lanes of vector `v` of an operand as SF32 words, and whether any is poisoned. -/
def State.lanes (s : State) (p a fmt v : Nat) : List Nat × Bool :=
  let sz := scalarBytes fmt
  ((List.range 64).map fun l => widen fmt (s.elem p (a + (v * 64 + l) * sz) sz).1,
    s.spanPoison p (a + v * 64 * sz) (64 * sz))

/-- VEC_RED (R71): sum or maximum over the 64 lanes of each vector. -/
def vecRed (p e : Nat) (i : EngInstr) (s : State) : State :=
  let f := fun (k : Nat) (s : State) =>
    let l := s.lanes p i.addrA.toNat i.fa k
    let r := laneTree (if i.aux.getLsbD 0 then maxW else addW) 6 l.1
    ((r.1, r.2 ||| nanIn (l.1.map (fvalOf 23)), l.2), s)
  State.vecEnd (s.mapElems p e 7 f i.addrC.toNat i.len.toNat) p e

/-- The activation table `t` of an engine; before a load, its segments and bounds are zeros (log entry 12). -/
def State.actTab (s : State) (p e t : Nat) : ActTab :=
  Assoc.get { seg := List.replicate 256 (0, 0), lo := 0, inv := 0 } s.tabs ((p * 16 + e) * 8 + t % 8)

/-- An activation value (R72).  Where t is a NaN the spec names no segment: an infinite input takes segment 0 or
255 by a free value, any other input a free segment (log entry 13). -/
def State.actVal (s : State) (tab : ActTab) (x : Nat) : (Nat × Nat) × State :=
  match fvalOf 23 x with
  | .nan => (actLookup 0 tab.seg tab.lo tab.inv x, s)
  | v =>
    match (actIndex tab.lo tab.inv v).1, v with
    | some _, _ => (actLookup 0 tab.seg tab.lo tab.inv x, s)
    | none, .inf _ =>
      let r := s.freeNat 2
      (actLookup (r.1 * 255) tab.seg tab.lo tab.inv x, r.2)
    | none, _ =>
      let r := s.freeNat 256
      (actLookup r.1 tab.seg tab.lo tab.inv x, r.2)

/-- Activation values of a list of words. -/
def State.actVals (s : State) (tab : ActTab) : List Nat → List (Nat × Nat) × State
  | [] => ([], s)
  | x :: t =>
    let r := s.actVal tab x
    let rest := State.actVals r.2 tab t
    (r.1 :: rest.1, rest.2)

/-- VEC_ACT (R72). -/
def vecAct (p e : Nat) (i : EngInstr) (s : State) : State :=
  let tab := s.actTab p e i.aux.toNat
  let sa := scalarBytes i.fa
  let f := fun (k : Nat) (s : State) =>
    let a := s.elem p (i.addrA.toNat + k * sa) sa
    let r := s.actVal tab (widen i.fa a.1)
    ((r.1.1, r.1.2, a.2 || tab.poison), r.2)
  State.vecEnd (s.mapElems p e i.fo f i.addrC.toNat (i.len.toNat * 64)) p e

/-- VEC_TLOAD (R72, R108): the table keeps the poison of the lines it was read from, so that results computed with
it carry the mark (R61). -/
def vecTload (p e : Nat) (i : EngInstr) (s : State) : State :=
  let a := i.addrA.toNat
  let seg := (List.range 256).map fun k => ((s.elem p (a + 8 * k) 4).1, (s.elem p (a + 8 * k + 4) 4).1)
  let bad := s.spanPoison p a 2048 || s.spanPoison p i.addrLA.toNat 8
  let lo := (s.elem p i.addrLA.toNat 4).1
  let inv := (s.elem p (i.addrLA.toNat + 4) 4).1
  let tab : ActTab := { seg := seg, lo := lo, inv := inv, poison := bad }
  ({ s with tabs := Assoc.put s.tabs ((p * 16 + e) * 8 + i.aux.toNat % 8) tab }).notePoison p bad

/-- A reciprocal (0) or reciprocal square root (1): a free choice among the words the bound of R71 allows; where
the spec states no result, any word (log entry 13). -/
def State.freeRecip (s : State) (k : Nat) (x : Nat) : (Nat × Nat) × State :=
  match fvalOf 23 x with
  | .nan => ((canonNaN 23, flNANIN), s)
  | v =>
    match recipChoices k v with
    | [] => let r := s.freeNat (2 ^ 32); (recipFlags k v r.1, r.2)
    | c => let r := s.freeNat c.length; (recipFlags k v (getAt 0 c r.1), r.2)

/-- VEC_RECIP (R71). -/
def vecRecip (p e : Nat) (i : EngInstr) (s : State) : State :=
  let sa := scalarBytes i.fa
  let f := fun (k : Nat) (s : State) =>
    let a := s.elem p (i.addrA.toNat + k * sa) sa
    let r := s.freeRecip (i.aux.toNat % 2) (widen i.fa a.1)
    ((r.1.1, r.1.2, a.2), r.2)
  State.vecEnd (s.mapElems p e i.fo f i.addrC.toNat (i.len.toNat * 64)) p e

/-- VEC_SOFTMAX (R71, R108): row maximum, subtraction, table exponent, row sum and reciprocal scaling.  The lane
tree sums each vector; the spec fixes no order between the vectors' sums. -/
def vecSoftmax (p e : Nat) (i : EngInstr) (s : State) : State :=
  let n := i.len.toNat
  let vecs := (List.range n).map fun v => s.lanes p i.addrA.toNat 7 v
  let tab := s.actTab p e i.aux.toNat
  let poison := tab.poison || vecs.any Prod.snd
  let mx := (vecs.map fun v => laneTree maxW 6 v.1)
  let top := mx.tail.foldl (fun a b => let r := maxW a.1 b.1; (r.1, a.2 ||| b.2 ||| r.2)) (getAt (0, 0) mx 0)
  let diff := (vecs.flatMap Prod.fst).map fun x => addV (fvalOf 23 x) (negV (fvalOf 23 top.1))
  let av := s.actVals tab (diff.map Prod.fst)
  let all := (av.1.zip diff).map fun x => (x.1.1, x.1.2 ||| x.2.2)
  let ex := (List.range n).map fun v => (all.drop (64 * v)).take 64
  let sums := ex.map fun v => laneTree addW 6 (v.map Prod.fst)
  let ord := av.2.freeOrder n (List.range n)
  let tot := sumWords none (ord.1.map fun k => (getAt (0, 0) sums k).1)
  let rc := ord.2.freeRecip 0 tot.1
  let out := all.map fun x =>
    let r := mulV (fvalOf 23 x.1) (fvalOf 23 rc.1.1)
    (r.1, x.2 ||| r.2)
  let fl := out.foldl (fun f x => f ||| x.2) (sums.foldl (fun f x => f ||| x.2) (top.2 ||| tot.2 ||| rc.1.2))
  let s1 := rc.2.storeWriteP p i.addrC.toNat (out.flatMap fun x => markLE 4 (x.1, poison))
  (s1.notePoison p poison).arith p e fl

/-- QUANT (R40 to R42, R68): blocks `b, b+1, ...` of the operation: the state after the draws, the flags, and the
outputs with their marks: the bytes of each block and its exponent-list entry. -/
def quantBlocks (p e : Nat) (i : EngInstr) (f : BlkFmt) :
    Nat → Nat → State → State × Nat × List (List Byte × Nat × Bool)
  | 0, _, s => (s, 0, [])
  | n + 1, b, s =>
    let sz := scalarBytes i.fa
    let a := i.addrA.toNat + b * 32 * sz
    let vals := (List.range 32).map fun k => fvalOf (fracOf i.fa) (s.elem p (a + k * sz) sz).1
    let poison := s.spanPoison p a (32 * sz)
    let q := quantBlk i.fo f vals (s.rndSrc (s.pol p) (s.engIndex p e))
    let rest := quantBlocks p e i f n (b + 1) (s.setRnd (s.pol p) (s.engIndex p e) q.2.2)
    (rest.1, q.2.1 ||| rest.2.1, (writeBlk i.fo f q.1, listEntry i.fo f q.1, poison) :: rest.2.2)

/-- The exponent list QUANT writes (R68): entry `j` stands for block `j / 64` of row `j % 64`, and the blocks of a
row follow each other in the output. -/
def expList (len : Nat) (out : List (List Byte × Nat × Bool)) : List (Byte × Bool) :=
  let per := len / 64
  (List.range len).flatMap fun j =>
    let x := getAt ([], 0, false) out (j % 64 * per + j / 64)
    markLE 2 x.2

/-- QUANT: the blocks are written as one span, and then the list, so that whole lines of clean data clear their
poison (R76); all inputs are read before (log entry 61). -/
def quantOp (p e : Nat) (i : EngInstr) (s : State) : State :=
  match blkFmt i.fo with
  | some f =>
    let r := quantBlocks p e i f i.len.toNat 0 s
    let s1 := r.1.storeWriteP p i.addrC.toNat
      (r.2.2.flatMap fun (x : List Byte × Nat × Bool) => x.1.map fun b => (b, x.2.2))
    let s2 := if i.list then s1.storeWriteP p i.addrLA.toNat (expList i.len.toNat r.2.2) else s1
    State.vecEnd (s2, r.2.1, r.2.2.any fun x => x.2.2) p e
  | none => s

/-- DEQUANT (R43): the values of block `b`, with flags and the poison of the block. -/
def State.dequantAt (s : State) (p : Nat) (i : EngInstr) (f : BlkFmt) (b : Nat) : List Nat × Nat × Bool :=
  let a := i.addrA.toNat + b * blkBytes i.fa
  let blk := readBlk i.fa f (s.storeRead p a (blkBytes i.fa))
  let vals := (blkVals i.fa f blk).map (dequantV (fracOf i.fo))
  (vals.map Prod.fst, vals.foldl (fun g (v : Nat × Nat) => g ||| v.2) (if blk.x = 255 then flNANIN else 0),
    s.spanPoison p a (blkBytes i.fa))

/-- DEQUANT: the values are written as one span (R76); all inputs are read before (log entry 61). -/
def dequantOp (p e : Nat) (i : EngInstr) (s : State) : State :=
  match blkFmt i.fa with
  | some f =>
    let out := (List.range i.len.toNat).map (s.dequantAt p i f)
    let bytes := out.flatMap fun (x : List Nat × Nat × Bool) =>
      x.1.flatMap fun v => markLE (scalarBytes i.fo) (v, x.2.2)
    State.vecEnd (s.storeWriteP p i.addrC.toNat bytes, out.foldl (fun g x => g ||| x.2.1) 0,
      out.any fun x => x.2.2) p e
  | none => s

/-- Copy a row of bytes with its poison, line by line. -/
def State.copyRow (s : State) (p src dst n : Nat) (extra : Bool) : State :=
  let l := (List.range n).map fun k => (s.storeByte p (src + k), extra || s.linePoison p (src + k))
  s.storeWriteP p dst l

/-- GATHER and SCATTER (R71, R108): rows `n, n+1, ...`; an index outside the row count skips its row and sets the
index status. -/
def gatherRows (p : Nat) (i : EngInstr) (scatter : Bool) : Nat → Nat → State → State
  | 0, _, s => s
  | m + 1, n, s =>
    let rb := i.aux.toNat * 64
    let ix := s.elem p (i.addrLA.toNat + 4 * n) 4
    let s1 := if ix.1 < i.addrLB.toNat then
        let src := if scatter then n else ix.1
        let dst := if scatter then ix.1 else n
        let sa := i.addrA.toNat + src * rb
        (s.copyRow p sa (i.addrC.toNat + dst * rb) rb ix.2).notePoison p (ix.2 || s.spanPoison p sa rb)
      else (s.notePoison p ix.2).noteIndex p true
    gatherRows p i scatter m (n + 1) s1

/-! ### The commands -/

/-- NOP (R105, R106). -/
def execNop (p : Fin 68) (e : Fin 16) (i : EngInstr) (s : State) : Out := runEng p e 0x00 i [] id s

/-- MMA_OS (R66). -/
def execMmaOs (p : Fin 68) (e : Fin 16) (i : EngInstr) (h : List EccHit) (s : State) : Out :=
  runEng p e 0x01 i h (mmaOs p e i) s

/-- MMA_WS (R67). -/
def execMmaWs (p : Fin 68) (e : Fin 16) (i : EngInstr) (h : List EccHit) (s : State) : Out :=
  runEng p e 0x02 i h (mmaWs p e i) s

/-- VEC_EW (R105). -/
def execVecEw (p : Fin 68) (e : Fin 16) (i : EngInstr) (h : List EccHit) (s : State) : Out :=
  runEng p e 0x10 i h (vecEw p e i) s

/-- VEC_RED (R71). -/
def execVecRed (p : Fin 68) (e : Fin 16) (i : EngInstr) (h : List EccHit) (s : State) : Out :=
  runEng p e 0x11 i h (vecRed p e i) s

/-- VEC_ACT (R72). -/
def execVecAct (p : Fin 68) (e : Fin 16) (i : EngInstr) (h : List EccHit) (s : State) : Out :=
  runEng p e 0x12 i h (vecAct p e i) s

/-- VEC_TLOAD (R72). -/
def execVecTload (p : Fin 68) (e : Fin 16) (i : EngInstr) (h : List EccHit) (s : State) : Out :=
  runEng p e 0x13 i h (vecTload p e i) s

/-- VEC_SOFTMAX (R71). -/
def execVecSoftmax (p : Fin 68) (e : Fin 16) (i : EngInstr) (h : List EccHit) (s : State) : Out :=
  runEng p e 0x14 i h (vecSoftmax p e i) s

/-- VEC_RECIP (R71). -/
def execVecRecip (p : Fin 68) (e : Fin 16) (i : EngInstr) (h : List EccHit) (s : State) : Out :=
  runEng p e 0x15 i h (vecRecip p e i) s

/-- QUANT (R40). -/
def execQuant (p : Fin 68) (e : Fin 16) (i : EngInstr) (h : List EccHit) (s : State) : Out :=
  runEng p e 0x18 i h (quantOp p e i) s

/-- DEQUANT (R43). -/
def execDequant (p : Fin 68) (e : Fin 16) (i : EngInstr) (h : List EccHit) (s : State) : Out :=
  runEng p e 0x19 i h (dequantOp p e i) s

/-- GATHER (R108). -/
def execGather (p : Fin 68) (e : Fin 16) (i : EngInstr) (h : List EccHit) (s : State) : Out :=
  runEng p e 0x1A i h (gatherRows p i false i.len.toNat 0) s

/-- SCATTER (R108). -/
def execScatter (p : Fin 68) (e : Fin 16) (i : EngInstr) (h : List EccHit) (s : State) : Out :=
  runEng p e 0x1B i h (gatherRows p i true i.len.toNat 0) s

/-- SYNC (R106). -/
def execSync (p : Fin 68) (e : Fin 16) (i : EngInstr) (s : State) : Out := runEng p e 0x20 i [] id s

/-- END of a segment (R102): the stream's segment is over. -/
def execEnd (p : Fin 68) (e : Fin 16) (i : EngInstr) (s : State) : Out := runEng p e 0x3F i [] id s

/-- TOKEN_WAIT (R80, R81): a unit (engine 0-15, bobbin 16-19, control core 20) waits for a count.  A partition holds 64 global
tokens, and a wait on another names none (log entry 8). -/
def execTokenWait (p : Fin 68) (unit : Fin 21) (glob : Bool) (t n : BitVec 8) (s : State) : Out :=
  if glob && 64 ≤ t.toNat then .next s
  else match s.tokKey p glob t.toNat with
    | none => .next s
    | some k =>
      let r := s.waitOn (unitCode p unit) k n.toNat
      .next r.1

/-- TOKEN_WAIT_RELEASE (R80): the first waiter on the token is released when its count is available. -/
def execTokenWaitRelease (p : Fin 68) (glob : Bool) (t : BitVec 8) (s : State) : Out :=
  match s.tokKey p glob t.toNat with
  | none => .next s
  | some k => .next (s.tokRelease k)

/-- TOKEN_SIGNAL (R80, R82): a unit adds to a token once its writes are visible; a global token above 63 is none (log entry
8). -/
def execTokenSignal (p : Fin 68) (glob : Bool) (t n : BitVec 8) (s : State) : Out :=
  if glob && 64 ≤ t.toNat then .next s
  else match s.tokKey p glob t.toNat with
    | none => .next s
    | some k => .next (s.tokAdd k n.toNat).1

/-- STALL_TIMEOUT (R83): a unit has waited LIMIT * 2^20 steps without a signal; LIMIT 0 stops the check. -/
def execStallTimeout (p : Fin 68) (unit : Fin 21) (s : State) : Out :=
  let u := unitCode p unit
  if s.rd F.CLU_WDOG_LIMIT p ≠ 0 ∧ s.waiters.any (fun w => w.unit = u) = true then
    let w := s.reg .CLU_STALL p ||| BitVec.ofNat 32 (stallBit u)
    .next ((s.setReg .CLU_STALL p w).raise F.CLU_CAUSE_STALL p 2 [wd unit])
  else .next s

end Sys2Proof.Machine
end

