-- ==== Sys2Proof/Machine/Memory.lean ====
section
/-! DEFINITION.  The memory stacks (R131 to R146): where an offset lands, pages and generations, poison, encryption,
conversions, repair, key rotation and zero-fill.  Their commands are in Stacks. -/

namespace Sys2Proof.Machine

/-! ### Where an address lands (R133, R134) -/

/-- The stacks of a mask, ascending. -/
def stacksOf (mask : Nat) : List Nat := (List.range 8).filter fun k => mask.testBit k

/-- SET of partition `n`. -/
def State.stackSet (s : State) (n : Nat) : List Nat :=
  if s.flag F.MEM_PART_SET_VALID n then stacksOf (s.rd F.MEM_PART_SET_STACKS n) else []

/-- Local size L of partition `n` in bytes (R133). -/
def State.localSize (s : State) (n : Nat) : Nat := (s.stackSet n).length * s.rd F.MEM_PART_FRAMES_VALUE n * 65536

/-- Frames borrowed by partition `n`. -/
def Part.borrowed (p : Part) : Nat := (p.loans.map LoanIn.frames).sum

/-- End of the partition's memory, local and borrowed (R134, R154). -/
def State.memEnd (s : State) (n : Nat) : Nat := s.localSize n + (s.part n).borrowed * 65536

/-- The mapping of R134 on a stack set and base frame: stack and physical address. -/
def landOn (set : List Nat) (base o : Nat) : Nat × Nat :=
  let u := o / 4096
  let w := u / set.length
  (getAt 0 set (u % set.length), (base + w / 16) * 65536 + w % 16 * 4096 + o % 4096)

/-- Where local offset `o` of partition `n` lands. -/
def State.land (s : State) (n o : Nat) : Nat × Nat := landOn (s.stackSet n) (s.rd F.MEM_PART_BASE_VALUE n) o

/-! ### Pages (R141, R142) -/

/-- Key of a stack byte. -/
def memKey (k a : Nat) : Nat := k * 2 ^ 37 + a % 2 ^ 37

/-- Key of a frame. -/
def pageKey (k f : Nat) : Nat := k * 2 ^ 21 + f % 2 ^ 21

/-- A page; one not listed has ZERO = 1. -/
def State.page (s : State) (k f : Nat) : Page := Assoc.get ⟨false, 0, 0⟩ s.pages (pageKey k f)

/-- The partition that owns a frame, from the reservations. -/
def State.frameOwner (s : State) (k f : Nat) : Option Nat :=
  (List.range 16).find? fun n => (s.stackSet n).elem k && s.rd F.MEM_PART_BASE_VALUE n ≤ f &&
    f < s.rd F.MEM_PART_BASE_VALUE n + s.rd F.MEM_PART_FRAMES_VALUE n

/-- The loan given out that holds a frame. -/
def State.frameLoan (s : State) (k f : Nat) : Option LoanOut :=
  s.loansOut.find? fun l => l.mask.testBit k && l.base ≤ f && f < l.base + l.frames

/-- Whether the zero-fill of an owner (a partition, or a loan slot) is over in stack `k` while its range is still bound:
OWNED is clear from then on (R146). -/
def State.filled (s : State) (k : Nat) (loan : Bool) (owner : Nat) : Bool :=
  (if loan then s.zfills.any fun z => z.loan && z.owner = owner else decide ((s.part owner).scrubStep = 5)) &&
    !(s.zfills.any fun z => z.stack = k && z.loan = loan && z.owner = owner)

/-- The metadata entry of a frame, bytes 0 to 7 (R141); a frame that is not owned shows PART and LOAN as 0 (log entry 74). -/
def State.pageMeta (s : State) (k f : Nat) : List Byte :=
  let p := s.page k f
  let owner := (s.frameOwner k f).filter fun n => !(s.filled k false n)
  let loan := (s.frameLoan k f).filter fun l => !(s.filled k true l.slot)
  let part := match owner, loan with
    | some n, _ => n
    | none, some l => l.slot
    | none, none => 0
  let w := p.gen + part * 4 + (if owner.isSome || loan.isSome then 128 else 0) + (if p.data then 0 else 256) +
    (if loan.isSome then 512 else 0) + (if f < 1024 then 1024 else 0)
  natLE 2 w ++ natLE 2 0 ++ natLE 4 p.ce

/-- Generation that writes to a frame use: the partition's WGEN, 0 for loans and the module reserve. -/
def State.writeGen (s : State) (k f : Nat) : Nat :=
  match s.frameOwner k f with
  | some n => s.rd F.MEM_ROT_CTL_WGEN n
  | none => 0

/-- Whether a page holds its partition's old generation. -/
def State.pageOld (s : State) (k f : Nat) : Bool :=
  (s.page k f).data && match s.frameOwner k f with
    | some n => s.flag F.MEM_ROT_CTL_ACTIVE n && (s.page k f).gen = s.rd F.MEM_ROT_CTL_OLDGEN n
    | none => false

/-- Whether a write must convert the page first (R142). -/
def State.needsConv (s : State) (k f : Nat) : Bool := !(s.page k f).data || s.pageOld k f

/-- First frame of the page metadata (R132). -/
abbrev metaFrame : Nat := 1177344

/-- A byte of the metadata frames: entry F lies at byte F * 128 (R141). -/
def State.metaByte (s : State) (k a : Nat) : Byte :=
  let o := a - metaFrame * 65536
  if o / 128 < metaFrame then byteAt (s.pageMeta k (o / 128)) (o % 128) else 0

/-- A byte as the base die returns it: the metadata in its own frames, zeros for a ZERO page (R141, R142). -/
def State.memByte (s : State) (k a : Nat) : Byte :=
  if metaFrame ≤ a / 65536 then s.metaByte k a
  else if (s.page k (a / 65536)).data then Assoc.get 0 s.mem (memKey k a) else 0

/-- Bytes of a stack. -/
def State.memBytes (s : State) (k a n : Nat) : List Byte := (List.range n).map fun i => s.memByte k (a + i)

/-- Poison of a stack line; a ZERO page has none. -/
def State.memLinePoison (s : State) (k a : Nat) : Bool :=
  (s.page k (a / 65536)).data && Assoc.get false s.memPoison (memKey k a / 64)

/-- Set or clear the poison of a line. -/
def State.setMemPoison (s : State) (k a : Nat) (b : Bool) : State :=
  { s with memPoison := Assoc.set false s.memPoison (memKey k a / 64) b }

/-- Store bytes in one line; `none` bytes are masked out. -/
def State.memPut (s : State) (k a : Nat) (l : List (Option Byte)) : State :=
  let put := fun (m : List Host.Cell) (x : Option Byte × Nat) => match x.1 with
    | some b => Assoc.set 0 m (memKey k (a + x.2)) b
    | none => m
  { s with mem := l.zipIdx.foldl put s.mem }

/-- A write to one line under R136: poisoned data makes the line poison and is not stored; a part write to a
poisoned line leaves it poisoned; a whole line of clean data clears it. -/
def State.memLine (s : State) (k a : Nat) (l : List (Option Byte)) (poison : Bool) : State :=
  let whole := a % 64 = 0 && l.length = 64 && l.all Option.isSome
  if poison then s.setMemPoison k a true
  else if s.memLinePoison k a && !whole then s
  else (s.memPut k a l).setMemPoison k a false

/-! ### Encryption (R140) -/

/-- The tweak of a line: its number in bits [30:0], the stack in bits [34:32] (R140). -/
def xtsTweak (k a : Nat) : Nat := a / 64 % 2 ^ 31 + k % 8 * 2 ^ 32

/-- The key of a frame's lines: of its owner and generation, of its loan slot, or the module key (R140, R141). -/
def State.frameKey (s : State) (k f : Nat) : Option Nat :=
  if f < 1024 then some s.modKey
  else
    let mine := fun (q : KeySlot) => q.stack = k && (match s.frameOwner k f, s.frameLoan k f with
      | some n, _ => !q.loan && q.owner = n && q.gen = (s.page k f).gen
      | none, some l => q.loan && q.owner = l.slot
      | none, none => false)
    (s.keys.find? mine).map KeySlot.key

/-- The ciphertext the DRAM holds for a line (R140): nothing where the page's contents are not used or its key is gone. -/
def State.cipherLine (s : State) (k a : Nat) : Option (List Byte) :=
  if (s.page k (a / 65536)).data then
    (s.frameKey k (a / 65536)).map fun key => Config.xtsLine key (xtsTweak k a) (s.memBytes k (a / 64 * 64) 64)
  else none

/-! ### Rotation (R143, R144) -/

/-- Pages of partition `n` left at its old generation across the set. -/
def State.oldPages (s : State) (n : Nat) : Nat :=
  (s.pages.filter fun e => s.frameOwner (e.1 / 2 ^ 21) (e.1 % 2 ^ 21) = some n &&
    s.pageOld (e.1 / 2 ^ 21) (e.1 % 2 ^ 21)).length

/-- The lowest frame of stack `k` that holds an old-generation page of partition `n`. -/
def State.nextOld (s : State) (k n : Nat) : Option Nat :=
  (s.pages.find? fun e => e.1 / 2 ^ 21 = k && s.frameOwner k (e.1 % 2 ^ 21) = some n && s.pageOld k (e.1 % 2 ^ 21)).map
    fun e => e.1 % 2 ^ 21

/-- Whether a rotation sweep of some partition runs in stack `k` (R143, R145). -/
def State.sweeping (s : State) (k : Nat) : Bool :=
  (List.range 16).any fun n => s.flag F.MEM_ROT_CTL_ACTIVE n && !(s.part n).rotOff && (s.nextOld k n).isSome

/-- MEM_STATE.SWEEP follows the sweeps (R157). -/
def State.sweepShow (s : State) : State :=
  (List.range 8).foldl (fun (s : State) (k : Nat) => s.wr F.MEM_STATE_SWEEP k (if s.sweeping k then 1 else 0)) s

/-- Step 6 of R143: the old key is destroyed in every base die of the set, SWEEP_DONE is raised in each, ACTIVE clears,
and one notice record is written, that of the lowest stack. -/
def State.sweepDone (s : State) (n : Nat) : State :=
  let old := s.rd F.MEM_ROT_CTL_OLDGEN n
  let s1 := { s with keys := s.keys.filter fun q => q.loan || q.owner ≠ n || q.gen ≠ old }
  let s2 := match s1.stackSet n with
    | [] => s1
    | k :: t => t.foldl (fun s k => s.raiseBit F.MEM_CAUSE_SWEEP_DONE k) (s1.raise F.MEM_CAUSE_SWEEP_DONE k 1 [wd n])
  s2.wr F.MEM_ROT_CTL_ACTIVE n 0

/-- Update MEM_ROT_OLDCNT after a page left the old generation, and end the sweep at 0; an abandoned rotation never
ends (R145). -/
def State.countOld (s : State) (n : Nat) : State :=
  let c := s.oldPages n
  let s1 := s.wr F.MEM_ROT_OLDCNT_PAGES n c
  (if s1.flag F.MEM_ROT_CTL_ACTIVE n && c = 0 && !(s1.part n).rotOff then s1.sweepDone n else s1).sweepShow

/-- A page conversion (R142): the page is rewritten under the write generation, zeros for a ZERO page; poison
survives. -/
def State.convert (s : State) (k f : Nat) : State :=
  let was := s.pageOld k f
  let p := s.page k f
  let s1 := { s with pages := Assoc.put s.pages (pageKey k f) { p with data := true, gen := s.writeGen k f } }
  if was then match s.frameOwner k f with
    | some n => s1.countOld n
    | none => s1
  else s1

/-- An access that waited is performed: a write, or a read whose line goes out (R138, R142). -/
def State.memOp (s : State) (k : Nat) (x : Nat × Option (List (Option Byte) × Bool)) : State :=
  match x.2 with
  | some w => s.memLine k x.1 w.1 w.2
  | none => s.emit (.stackLine k x.1 (s.memBytes k x.1 64) (s.memLinePoison k x.1))

/-- A conversion ends: the page has its new generation, and the accesses that waited are performed in order (R142). -/
def State.convEnd (s : State) (c : Conv) : State :=
  c.ops.foldl (fun s w => s.memOp c.stack w) (({ s with convs := s.convs.erase c }).convert c.stack c.frame)

/-- The state once the conversion of a page is over: what an access to that page waits for (R142). -/
def State.settled (s : State) (k f : Nat) : State :=
  match s.convs.find? fun c => c.stack = k && c.frame = f with
  | some c => s.convEnd c
  | none => s

/-- A write behind the conversion of its page: one that runs is waited for, one that the write triggers is carried out.
The metadata frames are the base die's own, and no write reaches them (R132, R141). -/
def State.memWriteLine (s0 : State) (k a : Nat) (l : List (Option Byte)) (poison : Bool) : State :=
  if metaFrame ≤ a / 65536 then s0
  else
    let s := s0.settled k (a / 65536)
    let s1 := if s.needsConv k (a / 65536) then s.convert k (a / 65536) else s
    s1.memLine k a l poison

/-! ### Errors and repair (R135 to R138) -/

/-- Start sparing a row when a spare is free beside those that copies under way will take (R138). -/
def State.spareRow (s : State) (h : StackHit) : State :=
  let busy := s.rowCopies.filter fun c => c.stack = h.stack.val && c.bank = h.bank.val
  if (busy.any fun c => c.row = h.row.toNat) || 64 ≤ Assoc.get 0 s.spares (h.stack.val * 512 + h.bank.val) + busy.length then s
  else { s with rowCopies := s.rowCopies ++ [({ stack := h.stack, bank := h.bank, row := h.row.toNat, line := h.addr.toNat / 64 } : RowCopy)] }

/-- Key of a row's count. -/
def rowKey (h : StackHit) : Nat := (h.stack.val * 512 + h.bank.val) * 2 ^ 20 + h.row.toNat

/-- An uncorrectable codeword: the line is poison, UE with its address latch and a warning record, the row is spared
(R136, R138). -/
def State.stackUE (s : State) (h : StackHit) : State :=
  let k := h.stack.val
  let a := h.addr.toNat
  let s0 := if (s.page k (a / 65536)).data then s.setMemPoison k a true else s
  let s1 := s0.count F.MEM_UE_CNT_COUNT k
  let s2 := if s1.flag F.MEM_UE_ADDR_HI_VALID k then s1
    else ((s1.wr F.MEM_UE_ADDR_LO_ADDR k (a / 64)).wr F.MEM_UE_ADDR_HI_ADDR k (a / 2 ^ 32)).wr F.MEM_UE_ADDR_HI_VALID k 1
  (s2.raise F.MEM_CAUSE_UE k 2 [wd a, wd (a / 2 ^ 32)]).spareRow h

/-- A corrected codeword: counted for the stack, the page and the row; CE (R137, R138, R141). -/
def State.stackCE (s : State) (h : StackHit) : State :=
  let k := h.stack.val
  let f := h.addr.toNat / 65536
  let p := s.page k f
  let s1 := { s with
    pages := Assoc.put s.pages (pageKey k f) { p with ce := satInc 32 p.ce }
    rowCe := Assoc.put s.rowCe (rowKey h) (Assoc.get 0 s.rowCe (rowKey h) + 1) }
  let s2 := (s1.count F.MEM_CE_CNT_COUNT k).raise F.MEM_CAUSE_CE k
  let th := s2.rd F.MEM_SPARE_CTL_THRESH k
  if th ≠ 0 && th ≤ Assoc.get 0 s2.rowCe (rowKey h) then s2.spareRow h else s2

/-- The line of an error nobody noticed holds other bytes than were written: free ones. -/
def State.stackWrong (s : State) (h : StackHit) : State :=
  let r := s.freeBytes 64
  if (s.page h.stack (h.addr.toNat / 65536)).data then r.2.memPut h.stack (h.addr.toNat / 64 * 64) (r.1.map some) else s

/-- An error met by a read or by patrol scrub (R135): one symbol is corrected, two are detected; of three or more the
code promises nothing, and a free value says whether they are detected, taken for a single one, or missed (log entry 7). -/
def State.stackHit (s : State) (h : StackHit) : State :=
  if h.symbols.val = 0 then s
  else if h.symbols.val = 1 then s.stackCE h
  else if h.symbols.val = 2 then s.stackUE h
  else
    let r := s.freeNat 3
    if r.1 = 0 then r.2.stackUE h else if r.1 = 1 then (r.2.stackWrong h).stackCE h else r.2.stackWrong h

/-- Apply every error met. -/
def State.stackHits (s : State) (l : List StackHit) : State := l.foldl State.stackHit s

/-- Stack states of MEM_STATE (R157). -/
abbrev stReady : Nat := 2
abbrev stFailed : Nat := 4

/-- Whether a row copy holds up a line (R138). -/
def RowCopy.holds (c : RowCopy) (k a : Nat) : Bool := c.stack = k && (c.line = a / 64 || Config.sameRow k c.line (a / 64))

/-- Whether the page of an address is being converted, or its row copied: accesses wait (R138, R142). -/
def State.accessWaits (s : State) (k a : Nat) : Bool :=
  (s.convs.any fun c => c.stack = k && c.frame = a / 65536) || s.rowCopies.any fun c => c.holds k a

/-- An access joins those that wait for the conversion of its page, or for the copy of its row. -/
def State.waitMem (s : State) (k a : Nat) (w : Option (List (Option Byte) × Bool)) : State :=
  if s.convs.any fun c => c.stack = k && c.frame = a / 65536 then
    { s with convs := s.convs.map fun c => if c.stack = k ∧ c.frame = a / 65536 then { c with ops := c.ops ++ [(a, w)] } else c }
  else { s with rowCopies := s.rowCopies.map fun c => if c.holds k a then { c with ops := c.ops ++ [(a, w)] } else c }

/-- Draw a key from the module's generator; its value is free (R240). -/
def State.drawKey (s : State) : Nat × State := s.freeNat (2 ^ 512)

/-! ### Zero-fill (R146) -/

/-- Start zero-filling a range in each stack of a mask that has not failed. -/
def State.zeroFill (s : State) (mask base frames : Nat) (loan : Bool) (owner : Nat) : State :=
  ((stacksOf mask).filter fun k => s.rd F.MEM_STATE_STATE k ≠ stFailed).foldl (fun (s : State) (k : Nat) =>
    ({ s with zfills := s.zfills ++ [({ stack := k, base := base, frames := frames, loan := loan, owner := owner } : ZFill)] }).wr
      F.MEM_STATE_ZFILL k 1) s

/-- Whether a byte key of stack memory lies in a frame range. -/
def inRange (z : ZFill) (key unit : Nat) : Bool :=
  let k := key * unit / 2 ^ 37
  let f := key * unit % 2 ^ 37 / 65536
  k = z.stack && z.base ≤ f && f < z.base + z.frames

/-- A zero-fill ends: the frames read zero, conversions that wait there are dropped, the owner's key slots in that die are
destroyed, ZERO_DONE.  The pages' counts of corrected errors start again with it (log entry 62). -/
def State.zeroFillEnd (s : State) (z : ZFill) : State :=
  let s1 := { s with
    zfills := s.zfills.erase z
    mem := s.mem.filter fun e => !(inRange z e.1 1)
    memPoison := s.memPoison.filter fun e => !(inRange z e.1 64)
    convs := s.convs.filter fun c => !(c.stack = z.stack && z.base ≤ c.frame && c.frame < z.base + z.frames)
    pages := s.pages.filter fun e =>
      !(e.1 / 2 ^ 21 = z.stack && z.base ≤ e.1 % 2 ^ 21 && e.1 % 2 ^ 21 < z.base + z.frames)
    keys := s.keys.filter fun q => !(q.stack = z.stack && q.loan = z.loan && q.owner = z.owner) }
  let s2 := if s1.zfills.any fun y => y.stack = z.stack then s1 else s1.wr F.MEM_STATE_ZFILL z.stack 0
  s2.raise F.MEM_CAUSE_ZERO_DONE z.stack

/-! ### Access through partition memory -/

/-- Whether a read of a line returns poison: the line is poisoned, or its stack has failed (R477). -/
def State.badLine (s : State) (k a : Nat) : Bool := s.memLinePoison k a || s.rd F.MEM_STATE_STATE k = stFailed

/-- Conversions that run in the pages of a span are waited for (R142). -/
def State.spanSettled (s : State) (n o len : Nat) : State :=
  if s.convs = [] then s
  else (List.range ((o % 4096 + len + 4095) / 4096)).foldl (fun (s : State) (i : Nat) =>
    let x := s.land n (o + 4096 * i)
    s.settled x.1 (x.2 / 65536)) s

/-- Read `n` bytes of local partition memory from offset `o`: the bytes, and the first poisoned stack. -/
def State.partRead (s0 : State) (n o len : Nat) : List Byte × Option Nat :=
  let s := s0.spanSettled n o len
  ((List.range len).map fun i => let x := s.land n (o + i); s.memByte x.1 x.2,
    ((linesOf o len).find? fun l => let x := s.land n l; s.badLine x.1 x.2).map fun l => (s.land n l).1)

/-- Write bytes to local partition memory, line by line, with a poison mark for each piece. -/
def State.partWrite (s : State) (n o : Nat) (l : List Byte) (poison : Bool) : State :=
  (splitLines (l.length + 1) o l).foldl (fun s x =>
    let y := s.land n x.1
    if s.rd F.MEM_STATE_STATE y.1 = stFailed then s else s.memWriteLine y.1 y.2 (x.2.map some) poison) s

end Sys2Proof.Machine
end

