-- ==== Sys2Proof/Machine/Decomp.lean ====
section
/-! DEFINITION.  The weight-compression format (R147 to R151): headers, frame index, prefix codes, and the decoding
of one frame. -/

namespace Sys2Proof.Machine

/-- Header of a compressed object (R147). -/
structure ZHeader where
  fmt : Nat
  ulen : Nat
  nf : Nat
  index : Nat
  deriving DecidableEq, Repr

/-- Read and check a header. -/
def readZHeader (l : List Byte) : Option ZHeader :=
  let h : ZHeader := { fmt := byteAt l 6, ulen := leAt l 8 8, nf := leAt l 16 4, index := leAt l 24 8 }
  if l.take 4 = [0x53, 0x58, 0x5A, 0x43] ∧ leAt l 4 2 = 1 ∧ byteAt l 7 = 0 ∧ zerosAt l 20 4 ∧ zerosAt l 32 32 ∧
      (h.fmt ≤ 7 ∨ h.fmt = 0x20) ∧ h.nf = (h.ulen + 4095) / 4096 ∧ h.index % 64 = 0 ∧
      (h.fmt ≤ 5 → h.ulen % blkBytes h.fmt = 0) then some h
  else none

/-- CRC-32 of the IEEE 802.3 frame check sequence, one byte (reflected form of 0x04C11DB7). -/
def crc32Byte (c : Word) (b : Byte) : Word :=
  (List.range 8).foldl (fun c _ => if c.getLsbD 0 then (c >>> 1) ^^^ 0xEDB88320 else c >>> 1) (c ^^^ b.setWidth 32)

/-- CRC-32 of bytes. -/
def crc32 (l : List Byte) : Word := ~~~(l.foldl crc32Byte 0xFFFFFFFF)

/-- Code lengths from 128 bytes of nibbles, symbol 2i in the low nibble of byte i (R149). -/
def codeLengths (l : List Byte) : List Nat := l.flatMap fun b => [b.toNat % 16, b.toNat / 16]

/-- Kraft sum in units of 2^-15; a table over-subscribes above 2^15. -/
def kraft (lens : List Nat) : Nat := (lens.map fun n => if n = 0 then 0 else 2 ^ (15 - n)).sum

/-- First code of each length (RFC 1951 section 3.2.2), lengths 1 to 15. -/
def firstCodes (lens : List Nat) : List Nat :=
  (List.range 16).foldl (fun acc n =>
    if n = 0 then [0]
    else
      let prev := if n = 1 then 0 else lens.countP (· = n - 1)
      acc ++ [2 * (getAt 0 acc (n - 1) + prev)]) []

/-- The symbol that has code `c` of length `n`: the symbols of a length take consecutive codes in order. -/
def symbolOf (lens : List Nat) (firsts : List Nat) (n c : Nat) : Option Nat :=
  let f := getAt 0 firsts n
  if c < f then none
  else ((lens.zipIdx.filter fun x => x.1 = n)[c - f]?).map Prod.snd

/-- A bit of a byte list, bytes packed from the least significant bit (RFC 1951 section 3.1.1). -/
def bitAt (l : List Byte) (i : Nat) : Nat := (byteAt l (i / 8)) / 2 ^ (i % 8) % 2

/-- Decode one symbol from bit `pos` (Huffman codes go most significant bit first): symbol and next position. -/
def decodeSym (l : List Byte) (nbits : Nat) (lens firsts : List Nat) (pos : Nat) :
    Nat → Nat → Nat → Option (Nat × Nat)
  | 0, _, _ => none
  | fuel + 1, n, c =>
    if nbits ≤ pos then none
    else
      let c' := 2 * c + bitAt l pos
      match symbolOf lens firsts (n + 1) c' with
      | some x => some (x, pos + 1)
      | none => decodeSym l nbits lens firsts (pos + 1) fuel (n + 1) c'

/-- Decode `n` bytes of a frame (R150): `b` is the position in the decoded stream, `xprev` the last exponent. -/
def decodeBytes (fmt : Nat) (l : List Byte) (nbits : Nat) (te fe ts fs : List Nat) :
    Nat → Nat → Nat → Nat → Option (List Byte × Nat)
  | 0, _, pos, _ => some ([], pos)
  | n + 1, b, pos, xprev =>
    let B := blkBytes fmt
    let isX := fmt ≤ 5 && (if fmt = 0 then b % B = 16 else b % B = B - 1)
    let isD := fmt = 0 && b % B = 17
    let r := if isX || isD then decodeSym l nbits ts fs pos 15 0 0 else decodeSym l nbits te fe pos 15 0 0
    match r with
    | none => none
    | some (sym, pos') =>
      let v := if isX then (xprev + sym) % 256 else sym
      match decodeBytes fmt l nbits te fe ts fs n (b + 1) pos' (if isX then v else xprev) with
      | none => none
      | some (t, q) => some (BitVec.ofNat 8 v :: t, q)

/-- Decode a CODED frame (R149, R150) of `n` bytes that begins at byte `b` of the decoded stream. -/
def decodeCoded (fmt : Nat) (l : List Byte) (b n : Nat) : Option (List Byte) :=
  let te := codeLengths ((l.drop 4).take 128)
  let ts := codeLengths ((l.drop 132).take 128)
  if leAt l 2 2 ≠ 0 ∨ !(zerosAt l 260 4) ∨ 2 ^ 15 < kraft te ∨ 2 ^ 15 < kraft ts then none
  else
    let nbits := leAt l 0 2
    match decodeBytes fmt (l.drop 264) nbits te (firstCodes te) ts (firstCodes ts) n b 0 127 with
    | some (out, pos) => if pos = nbits then some out else none
    | none => none

/-- Length of frame `f` of an object. -/
def ZHeader.frameLen (h : ZHeader) (f : Nat) : Nat := if f + 1 < h.nf then 4096 else h.ulen - 4096 * (h.nf - 1)

/-- What a read of an object's bytes meets (R134, R151, R477): bytes, poison from a stack, memory on loan whose bytes are
not in this state, or an offset past the partition's memory. -/
inductive ZRead where
  | bytes (l : List Byte)
  | poison (stack : Nat)
  | away
  | outside (o : Nat)
  deriving DecidableEq, Repr

/-- Read `len` bytes of an object. -/
def State.zread (s : State) (n o len : Nat) : ZRead :=
  if s.memEnd n < o + len then .outside o
  else if s.localSize n < o + len then .away
  else
    let d := s.partRead n o len
    match d.2 with
    | some k => .poison k
    | none => .bytes d.1

/-- How a frame decodes (R151): its bytes, a decoding error in a stack, or what its read met. -/
inductive ZFrame where
  | bytes (l : List Byte)
  | bad (stack : Nat)
  | poison (stack : Nat)
  | away
  | outside (o : Nat)
  deriving DecidableEq, Repr

/-- Check a frame's decoded bytes against the CRC of its index entry (R148). -/
def zcheck (e : List Byte) (k : Nat) : Option (List Byte) → ZFrame
  | some l => if crc32 l = BitVec.ofNat 32 (leAt e 4 4) then .bytes l else .bad k
  | none => .bad k

/-- Frame `f` of the object at partition offset `o` (R148 to R151).  Only the bytes of the frame itself are read. -/
def State.decodeFrame (s : State) (n o : Nat) (h : ZHeader) (f : Nat) : ZFrame :=
  match s.zread n (o + h.index + 8 * f) 8 with
  | .poison k => .poison k
  | .away => .away
  | .outside x => .outside x
  | .bytes e =>
    let w := leAt e 0 4
    let typ := w / 2 ^ 30
    let off := o + w % 2 ^ 30 * 64
    let len := h.frameLen f
    let room := 4096 - off % 4096
    let at_ := (s.land n (o + h.index + 8 * f)).1
    if typ = 0 then zcheck e at_ (some (List.replicate len 0))
    else if typ = 3 then .bad at_
    else
      let head := match s.zread n off 2 with
        | .bytes l => leAt l 0 2
        | _ => 0
      let want := if typ = 1 then len else 264 + (head + 7) / 8
      match s.zread n off (min room want) with
      | .poison k => .poison k
      | .away => .away
      | .outside x => .outside x
      | .bytes l => zcheck e (s.land n off).1
          (if room < want then none else if typ = 1 then some l else decodeCoded h.fmt l (4096 * f) len)

/-- What decoding an object gave (R151): bytes with their marks, the stacks that raise DECODE, the stacks whose poison was
met, and the first offset past the partition's memory. -/
structure ZOut where
  data : List (Byte × Bool) := []
  decode : List Nat := []
  poison : List Nat := []
  outside : Option Nat := none
  deriving DecidableEq, Repr

/-- Add a frame to the output: 4,096 bytes, the last frame padded with zeros; bytes on loan are free (log entry 32). -/
def State.zadd (r : ZOut × State) (x : ZFrame) : ZOut × State :=
  let bad := List.replicate 4096 ((0 : Byte), true)
  match x with
  | .bytes l => ({ r.1 with data := r.1.data ++ (l ++ List.replicate (4096 - l.length) 0).map fun b => (b, false) }, r.2)
  | .bad k => ({ r.1 with data := r.1.data ++ bad, decode := r.1.decode ++ [k] }, r.2)
  | .poison k => ({ r.1 with data := r.1.data ++ bad, poison := r.1.poison ++ [k] }, r.2)
  | .away =>
    let fr := r.2.freeBytes 4096
    ({ r.1 with data := r.1.data ++ fr.1.map fun b => (b, false) }, fr.2)
  | .outside o => ({ r.1 with data := r.1.data ++ bad, outside := r.1.outside.orElse fun _ => some o }, r.2)

/-- Decode `len` bytes of the object at offset `o` from frame `first` on (R147, R151).  The header lies at a multiple of
64; bytes past ULEN decode as zeros. -/
def State.decodeObject (s : State) (n o first len : Nat) : ZOut × State :=
  let count := (len + 4095) / 4096
  let all := fun (x : ZFrame) => (List.replicate count x).foldl State.zadd ({}, s)
  let r := match s.zread n o 64 with
    | .poison k => all (.poison k)
    | .away => all .away
    | .outside x => all (.outside x)
    | .bytes l =>
      match (if o % 64 = 0 then readZHeader l else none) with
      | none => all (.bad (s.land n o).1)
      | some h => (List.range count).foldl (fun (r : ZOut × State) (i : Nat) =>
          State.zadd r (if h.nf ≤ first + i then .bytes [] else s.decodeFrame n o h (first + i))) ({}, s)
  ({ r.1 with data := r.1.data.take len }, r.2)

end Sys2Proof.Machine
end

