-- ==== Sys2Proof/Machine/Guard.lean ====
section
/-! DEFINITION.  The guard of accesses (R256 to R262): rejections, sealed ranges (R255), the admit screen (R257),
the windows that SEC_AT_RIGHTS applies (R268), and the access of a partition's own masters to its memory. -/

namespace Sys2Proof.Machine

/-- Kinds of access of SEC_AF_LAST. -/
abbrev kRead : Nat := 0
abbrev kWrite : Nat := 1
abbrev kExec : Nat := 2

/-- Target numbers of R258: stacks from 0x00, stores from 0x10, blocks from 0x60; 0xFF names no target. -/
abbrev noTarget : Nat := 0xFF

/-- ORIGIN of status ACCESS, and the TAG of REFUSE (R259): the refused master in [9:0], the target in [23:16]. -/
def accessOrigin (master target : Nat) : Nat := master % 1024 + target % 256 * 65536

/-- A rejected access (R262): counted, latched while ACCESS_FAULT holds no earlier one, ACCESS_FAULT raised, and
a warning record at most once per master and target in 1 ms. -/
def State.reject (s : State) (master target kind addr : Nat) : State :=
  let s1 := s.count F.SEC_AF_CNT_COUNT 0
  let s2 := if s1.flag F.SEC_AF_LAST_VALID then s1
    else (((((s1.wr F.SEC_AF_LAST_VALID 0 1).wr F.SEC_AF_LAST_MASTER 0 master).wr F.SEC_AF_LAST_TARGET 0 target).wr
      F.SEC_AF_LAST_KIND 0 kind).wr F.SEC_AF_ADDR_LO_ADDR 0 addr).wr F.SEC_AF_ADDR_HI_ADDR 0 (addr / 2 ^ 32)
  let key := master % 1024 * 256 + target % 256
  let old := match Assoc.find s2.afSeen key with
    | some t => decide (s2.up < t + 1000000)
    | none => false
  if old then s2.raiseBit F.SEC_CAUSE_ACCESS_FAULT 0
  else
    ({ s2 with afSeen := Assoc.put s2.afSeen key s2.up }).raise F.SEC_CAUSE_ACCESS_FAULT 0 2
      [wd (accessOrigin master target), wd addr, wd (addr / 2 ^ 32)] master

/-! ### Sealed ranges (R255) -/

/-- The sealed ranges of partition `n`, as unit ranges with their register index. -/
def State.seals (s : State) (n : Nat) : List (Nat × Nat × Nat) :=
  (List.range 16).filterMap fun r =>
    if s.flag F.SEC_SEAL_BASE_VALID (16 * n + r) then
      some (r, s.rd F.SEC_SEAL_BASE_UNIT (16 * n + r), s.rd F.SEC_SEAL_END_UNIT (16 * n + r))
    else none

/-- Whether a span of partition memory touches a sealed range. -/
def State.sealed (s : State) (n o len : Nat) : Bool :=
  len ≠ 0 && (s.seals n).any fun r => r.2.1 ≤ (o + len - 1) / 65536 && o / 65536 ≤ r.2.2

/-- Add the units `a` to `b` to the sealed ranges, merged with every range they overlap or touch; nothing when
neither a merge nor a free place takes them (R255). -/
def State.addSeal (s : State) (n a b : Nat) : Option State :=
  let near := (s.seals n).filter fun r => r.2.1 ≤ b + 1 && a ≤ r.2.2 + 1
  let lo := near.foldl (fun m r => min m r.2.1) a
  let hi := near.foldl (fun m r => max m r.2.2) b
  let place := match near with
    | r :: _ => some r.1
    | [] => (List.range 16).find? fun r => !(s.flag F.SEC_SEAL_BASE_VALID (16 * n + r))
  place.map fun r =>
    let s1 := near.foldl (fun s q => (s.setReg .SEC_SEAL_BASE (16 * n + q.1) 0).setReg .SEC_SEAL_END (16 * n + q.1) 0) s
    ((s1.wr F.SEC_SEAL_BASE_VALID (16 * n + r) 1).wr F.SEC_SEAL_BASE_UNIT (16 * n + r) lo).wr F.SEC_SEAL_END_UNIT (16 * n + r) hi

/-- Clear the sealed ranges of a partition. -/
def State.clearSeals (s : State) (n : Nat) : State :=
  (List.range 16).foldl (fun s r => (s.setReg .SEC_SEAL_BASE (16 * n + r) 0).setReg .SEC_SEAL_END (16 * n + r) 0) s

/-! ### The admit screen (R257) -/

/-- Whether a packet of source module `m`, partition `q` passes the admit entries of partition `n`. -/
def State.admits (s : State) (n m q : Nat) : Bool :=
  (List.range 4).any fun k => s.flag F.SEC_ADMIT_MOD_VALID (4 * n + k) && s.rd F.SEC_ADMIT_MOD_LO (4 * n + k) ≤ m &&
    m ≤ s.rd F.SEC_ADMIT_MOD_HI (4 * n + k) && (s.rd F.SEC_ADMIT_PART_MASK (4 * n + k)).testBit q

/-! ### Written windows (R259, R268) -/

/-- Key of a window: target, master, window number. -/
def winKey (target master w : Nat) : Nat := (target % 256 * 1024 + master % 1024) * 8 + w % 8

/-- A window of the tables; one never written is not in force. -/
def State.win (s : State) (k : Nat) : Win := Assoc.get {} s.wins k

/-- Whether a written window of a master at a target grants an access of a kind. -/
def State.winGrants (s : State) (master target kind a len : Nat) : Bool :=
  (List.range 8).any fun w =>
    let x := s.win (winKey target master w)
    x.valid && x.base ≤ a && a + len ≤ x.limit + 4 &&
      (if kind = kRead then x.r else if kind = kWrite then x.w else x.x)

/-- Clear every window of the masters of partition `n` and of the cluster class of its clusters (R268). -/
def State.clearWins (s : State) (n : Nat) : State :=
  let cls := (s.ranks n).map Prod.fst
  let mine := fun (m : Nat) => m = n || m = 0x10 + n || m = 0x60 + n || m = 0x70 + n || (0x20 ≤ m && m < 0x60 && cls.elem (m - 0x20))
  { s with wins := s.wins.filter fun e => !(mine (e.1 / 8 % 1024)) }

/-! ### Partition memory as its own masters see it (R134, R154, R259) -/

/-- Where an offset of partition `n` lies: on a stack of its own set, on a loan, or nowhere. -/
inductive Place where
  | local_ (stack addr : Nat)
  | loan (lender slot off : Nat)
  | nowhere
  deriving DecidableEq, Repr

/-- The loan that holds borrowed offset `o` (counted from L), with loans end to end in grant order. -/
def loanAt (l : List LoanIn) (o : Nat) : Place :=
  match l with
  | [] => .nowhere
  | x :: t => if o < x.frames * 65536 then .loan x.lender x.slot o else loanAt t (o - x.frames * 65536)

/-- The place of an offset. -/
def State.place (s : State) (n o : Nat) : Place :=
  if o < s.localSize n then let x := s.land n o; .local_ x.1 x.2 else loanAt (s.part n).loans (o - s.localSize n)

/-- The target number of an offset. -/
def State.memTarget (s : State) (n o : Nat) : Nat :=
  match s.place n o with
  | .local_ k _ => k
  | _ => noTarget

/-- Whether a span lies inside the partition's memory, local and borrowed. -/
def State.inMem (s : State) (n o len : Nat) : Bool := o + len ≤ s.memEnd n

/-- Whether a span lies inside the partition's own stacks. -/
def State.inLocal (s : State) (n o len : Nat) : Bool := o + len ≤ s.localSize n

end Sys2Proof.Machine
end

