-- ==== Sys2Proof/Machine/Seam.lean ====
section
/-! DEFINITION.  Seams: flits, replay, virtual channels, lanes and the life of a link (R159 to R180), up to handing
packets to and from transport. -/

namespace Sys2Proof.Machine

/-! ### Packets and flits as bytes (R163 to R166, R185) -/

/-- CRC-32C, one byte (reflected form of 0x1EDC_6F41, R166). -/
def crc32cByte (c : Word) (b : Byte) : Word :=
  (List.range 8).foldl (fun c _ => if c.getLsbD 0 then (c >>> 1) ^^^ 0x82F63B78 else c >>> 1) (c ^^^ b.setWidth 32)

/-- CRC-32C of bytes. -/
def crc32c (l : List Byte) : Word := ~~~(l.foldl crc32cByte 0xFFFFFFFF)

end Sys2Proof.Machine

namespace Sys2Proof

/-- The 28 header bytes of a packet (R185). -/
def Packet.header (p : Packet) : List Byte :=
  Machine.natLE 2 (p.dstMod.toNat + 4096 * p.dstPart.toNat) ++ Machine.natLE 2 (p.srcMod.toNat + 4096 * p.srcPart.toNat) ++
  [p.typ, BitVec.ofNat 8 (p.lines.toNat + (if p.retx then 16 else 0) + (if p.epoch then 32 else 0) + 64 * p.route.toNat),
    p.pmask, p.unit] ++ Machine.natLE 2 p.flow.toNat ++ Machine.natLE 2 p.psn.toNat ++
  [BitVec.ofNat 8 (p.cls.toNat + 4 * p.hops.toNat), if p.space then 1 else 0, 0, 0] ++ Machine.natLE 8 p.addr.toNat ++
  Machine.natLE 4 p.tag.toNat

/-- The bytes of a packet: header, data, CRC. -/
def Packet.bytes (p : Packet) : List Byte :=
  p.header ++ p.data ++ Machine.natLE 4 (Machine.crc32c (p.header ++ p.data)).toNat

/-- Flits a packet takes: its bytes in slices of 244 (R185). -/
def Packet.flits (p : Packet) : Nat := (32 + p.data.length + 243) / 244

/-- Header word of a flit (R164). -/
def Flit.header (f : Flit) : Nat :=
  f.seq.toNat + 2 ^ 8 * f.ack.toNat + (if f.nak then 2 ^ 16 else 0) + 2 ^ 17 * f.typ.toNat + 2 ^ 20 * f.vc.toNat +
  2 ^ 22 * f.crvc.toNat + 2 ^ 24 * f.credits.toNat + (if f.sop then 2 ^ 32 else 0) + (if f.eop then 2 ^ 33 else 0) +
  (if f.poison then 2 ^ 34 else 0)

/-- The 256 bytes of a DATA or IDLE flit (R163). -/
def Flit.bytes (f : Flit) : List Byte :=
  let l := Machine.natLE 8 f.header ++ f.payload
  l ++ Machine.natLE 4 (Machine.crc32c l).toNat

end Sys2Proof

namespace Sys2Proof.Machine

/-- Read a packet from the payload of its flits; none when it does not end in the last of them, or when the CRC or a reserved
field is bad (R185). -/
def readPacket (l : List Byte) : Option Packet :=
  let w := fun (o n : Nat) => leNat ((l.drop o).take n)
  let ctl := w 5 1
  let nd := if w 4 1 = 2 then 0 else 64 * (ctl % 16)
  let body := l.take (28 + nd)
  if l.length ≠ 244 * ((32 + nd + 243) / 244) ∨ BitVec.ofNat 32 (w (28 + nd) 4) ≠ crc32c body ∨ w 14 2 ≠ 0 ∨ 2 ≤ w 13 1 ∨ 7 < ctl % 16 ∨ ctl / 64 = 3 then none
  else some
    { dstMod := BitVec.ofNat 12 (w 0 2), dstPart := BitVec.ofNat 4 (w 0 2 / 4096)
      srcMod := BitVec.ofNat 12 (w 2 2), srcPart := BitVec.ofNat 4 (w 2 2 / 4096)
      typ := BitVec.ofNat 8 (w 4 1), lines := BitVec.ofNat 4 ctl, retx := ctl.testBit 4, epoch := ctl.testBit 5
      route := BitVec.ofNat 2 (ctl / 64), pmask := BitVec.ofNat 8 (w 6 1), unit := BitVec.ofNat 8 (w 7 1)
      flow := BitVec.ofNat 16 (w 8 2), psn := BitVec.ofNat 16 (w 10 2), cls := BitVec.ofNat 2 (w 12 1)
      hops := BitVec.ofNat 6 (w 12 1 / 4), space := w 13 1 = 1, addr := BitVec.ofNat 64 (w 16 8)
      tag := BitVec.ofNat 32 (w 24 4), data := (l.drop 28).take nd }

/-- Slice `k` of a packet, padded with zeros to 244 bytes. -/
def Piece.payload (q : Piece) : List Byte :=
  let l := (q.pkt.bytes.drop (244 * q.k)).take 244
  l ++ List.replicate (244 - l.length) 0

/-! ### Links -/

/-- State of link `j`. -/
def State.link (s : State) (j : Nat) : Link := Assoc.get {} s.fab.links j

/-- Change the state of link `j`. -/
def State.modLink (s : State) (j : Nat) (f : Link → Link) : State :=
  { s with fab := { s.fab with links := Assoc.set {} s.fab.links j (f (s.link j)) } }

/-- Link states of FAB_LINK_STAT. -/
abbrev lkDisabled : Nat := 0
abbrev lkDown : Nat := 1
abbrev lkTraining : Nat := 2
abbrev lkUp : Nat := 3
abbrev lkDegraded : Nat := 4
abbrev lkKeep : Nat := 5
abbrev lkMiswired : Nat := 6

/-- STATE of link `j`. -/
def State.lkState (s : State) (j : Nat) : Nat := s.rd F.FAB_LINK_STAT_STATE j

/-- UP, DEGRADED or KEEPALIVE. -/
def State.lkCarries (s : State) (j : Nat) : Bool := s.lkState j = 3 || s.lkState j = 4 || s.lkState j = 5

/-- Whether link `j` passes flits: it carries DATA, or it is MISWIRED and passes all but DATA (R177). -/
def State.lkRuns (s : State) (j : Nat) : Bool := s.lkCarries j || s.lkState j = lkMiswired

/-- Links of a port under its MODE (R159), as link numbers s. -/
def portLinks (mode : Nat) : List Nat := List.range (2 ^ (mode % 4))

/-- Width of the links of a mode. -/
def modeWidth (mode : Nat) : Nat := 8 / 2 ^ (mode % 4)

/-- Lanes of link `sN` of a port in a mode (R159). -/
def linkLanes (mode sN : Nat) : List Nat := (List.range (modeWidth mode)).map fun i => modeWidth mode * sN + i

/-- MODE of the port of link `j`. -/
def State.mode (s : State) (j : Nat) : Nat := s.rd F.FAB_PORT_CFG_MODE (j / 8)

/-- Active lanes of link `j`, as module-wide lane numbers. -/
def State.activeLanes (s : State) (j : Nat) : List Nat :=
  ((linkLanes (s.mode j) (j % 8)).map fun l => j / 8 * 8 + l).filter fun l =>
    s.rd F.FAB_LANE_STAT_STATE l = 2 || s.rd F.FAB_LANE_STAT_STATE l = 3

/-- Recompute LINKS_UP, LANES_UP and RXCLK_LANE of a port (R162, R172, R179).  With no active lane RXCLK_LANE keeps what it
read last (log entry 67). -/
def State.portStat (s : State) (p : Nat) : State :=
  let ups := packBits ((List.range 8).map fun k => s.lkCarries (8 * p + k))
  let lanes := (List.range 8).map fun l => s.rd F.FAB_LANE_STAT_STATE (8 * p + l) = 2 || s.rd F.FAB_LANE_STAT_STATE (8 * p + l) = 3
  let s1 := (s.wr F.FAB_PORT_STAT_LINKS_UP p ups).wr F.FAB_PORT_STAT_LANES_UP p (packBits lanes)
  match lanes.findIdx? id with
  | some l => s1.wr F.FAB_PORT_STAT_RXCLK_LANE p l
  | none => s1

/-- Recompute a link's width and its UP or DEGRADED state after a lane change. -/
def State.linkWidth (s : State) (j : Nat) : State :=
  let n := (s.activeLanes j).length
  let s1 := s.wr F.FAB_LINK_STAT_WIDTH j n
  let s2 := if s1.lkState j = 3 ∨ s1.lkState j = 4 then
      s1.wr F.FAB_LINK_STAT_STATE j (if n = modeWidth (s.mode j) then 3 else 4)
    else s1
  s2.portStat (j / 8)

/-- Raise a port cause for link `j`, with its LINKS bit (R179). -/
def State.raisePort (s : State) (f : Fld) (j sev : Nat) : State :=
  (s.wr F.FAB_PORT_CAUSE_LINKS (j / 8) (s.rd F.FAB_PORT_CAUSE_LINKS (j / 8) ||| 2 ^ (j % 8))).raise f (j / 8) sev [wd j]

/-- Queue a control message on link `j`. -/
def State.sendCtrl (s : State) (j : Nat) (m : CtrlMsg) : State := s.modLink j fun l => { l with ctrl := l.ctrl ++ [m] }

/-- Whether a lane is active, or the keep-alive lane. -/
def State.laneOn (s : State) (l : Nat) : Bool := s.rd F.FAB_LANE_STAT_STATE l = 2 || s.rd F.FAB_LANE_STAT_STATE l = 3

/-- Flits queued for a link, over all channels (R188). -/
def Link.queued (l : Link) : Nat := (l.vcq.map List.length).sum

/-- Virtual channel of a class (R186): ordered 1, unordered 2, collective 3, management 0. -/
def classVc (c : Nat) : Nat := if c = 0 then 1 else if c = 1 then 2 else if c = 2 then 3 else 0

/-- The header part every flit carries: ACK, a due NAK, and credits of one channel (R164, R167, R170). -/
def Link.carry (l : Link) (f : Flit) : Flit × Link :=
  match l.returns.findIdx? (0 < ·) with
  | some v =>
    let n := min 255 (getAt 0 l.returns v)
    ({ f with ack := BitVec.ofNat 8 l.rxAck, nak := l.nakDue, crvc := BitVec.ofNat 2 v, credits := BitVec.ofNat 8 n },
      { l with nakDue := false, returns := modifyAt v (· - n) l.returns })
  | none => ({ f with ack := BitVec.ofNat 8 l.rxAck, nak := l.nakDue }, { l with nakDue := false })

/-- A flit with nothing in it. -/
def idleFlit : Flit :=
  { seq := 0, ack := 0, nak := false, typ := 0, vc := 0, crvc := 0, credits := 0, sop := false, eop := false,
    poison := false, payload := List.replicate 244 0, ctrl := none }

/-- Whether slice `k` of a packet carries poisoned data (R164, R196): a line marked in PMASK lies, in part, in it. -/
def Piece.poisoned (q : Piece) : Bool :=
  (List.range q.pkt.lines.toNat).any fun i =>
    q.pkt.pmask.getLsbD i && decide (28 + 64 * i < 244 * (q.k + 1) ∧ 244 * q.k < 28 + 64 * (i + 1))

/-- The flit of a sequenced entry. -/
def TxFlit.flit (t : TxFlit) : Flit :=
  match t.piece, t.ctrl with
  | some q, _ =>
    { idleFlit with
      seq := BitVec.ofNat 8 t.seq
      typ := 1
      vc := BitVec.ofNat 2 t.vc
      sop := decide (q.k = 0)
      eop := decide (q.k + 1 = q.pkt.flits)
      poison := q.poisoned
      payload := q.payload }
  | none, m => { idleFlit with seq := BitVec.ofNat 8 t.seq, typ := 2, ctrl := m }

/-- Take the next new sequenced flit of a channel when it has one and the credits: those of the whole packet, and
what R189 asks beyond, before its first flit. -/
def Link.takeVc (l : Link) (v : Nat) : Option (TxFlit × Link) :=
  match getAt [] l.vcq v with
  | q :: t =>
    if getAt 0 l.credits v < (if q.k = 0 then q.need else 1) then none
    else some ({ seq := l.txSeq, vc := v, piece := some q, ctrl := none },
      { l with vcq := modifyAt v (fun _ => t) l.vcq, credits := modifyAt v (· - 1) l.credits })
  | [] => none

/-- Weighted round robin of VC1 and VC2 (R169): the channel in turn, or the other when it has nothing to send. -/
def Link.takeWrr (l : Link) (wOrd wUn : Nat) : Option (TxFlit × Link) :=
  let weight := fun (v : Nat) => max 1 (if v = 1 then wOrd else wUn)
  let cur := if l.wrrLeft = 0 then 3 - l.wrrVc else l.wrrVc
  let left := if l.wrrLeft = 0 then weight cur else l.wrrLeft
  match l.takeVc cur with
  | some (t, l1) => some (t, { l1 with wrrVc := cur, wrrLeft := left - 1 })
  | none => match l.takeVc (3 - cur) with
    | some (t, l1) => some (t, { l1 with wrrVc := 3 - cur, wrrLeft := weight (3 - cur) - 1 })
    | none => none

/-- The next new sequenced flit by the order of R169: CONTROL, VC0, VC3, then VC1 and VC2. -/
def Link.takeNew (l : Link) (data : Bool) (wOrd wUn : Nat) : Option (TxFlit × Link) :=
  if 64 ≤ l.replay.length then none
  else match l.ctrl with
    | m :: t => some ({ seq := l.txSeq, vc := 0, piece := none, ctrl := some m }, { l with ctrl := t })
    | [] =>
      if !data then none
      else match l.takeVc 0 with
        | some x => some x
        | none => match l.takeVc 3 with
          | some x => some x
          | none => l.takeWrr wOrd wUn

/-- One flit slot (R167, R169): replay, a due IDLE, then new flits, then IDLE. -/
def Link.slot (l : Link) (data : Bool) (wOrd wUn : Nat) : Flit × Link :=
  let send := fun (t : TxFlit) (l : Link) => let c := l.carry t.flit; (c.1, { c.2 with slots := l.slots + 1 })
  let idle := fun (l : Link) => let c := l.carry idleFlit; (c.1, { c.2 with slots := 0 })
  match l.replayPos with
  | some i => match l.replay[i]? with
    | some t => send t { l with replayPos := if i + 1 < l.replay.length then some (i + 1) else none }
    | none => idle { l with replayPos := none }
  | none =>
    if 2047 ≤ l.slots then idle l
    else match l.takeNew data wOrd wUn with
      | some (t, l1) => send t { l1 with txSeq := (l1.txSeq + 1) % 256, replay := l1.replay ++ [t] }
      | none => idle l

/-- How far SEQ `a` lies before `b` modulo 256. -/
def seqDist (a b : Nat) : Nat := (b + 256 - a) % 256

/-- Drop from a replay buffer every flit the ACK covers (R167). -/
def Link.acked (l : Link) (ack : Nat) : Link :=
  let covered := fun (t : TxFlit) => let d := seqDist t.seq ack; decide (0 < d ∧ d ≤ 64)
  let kept := l.replay.filter fun t => !(covered t)
  if kept.length = l.replay.length then l
  else { l with replay := kept, nakCount := 0,
                replayPos := l.replayPos.bind fun i =>
                  let j := i - (l.replay.length - kept.length)
                  if j < kept.length then some j else none }

/-- What a received flit's header says: ACK, credits, NAK (R164, R167). -/
def Link.header (l : Link) (f : Flit) : Link :=
  let l1 := l.acked f.ack.toNat
  let l2 := { l1 with credits := modifyAt f.crvc.toNat (· + f.credits.toNat) l1.credits }
  if f.nak then { l2 with nakCount := l2.nakCount + 1, replayPos := if l2.replay = [] then none else some 0 } else l2

/-- A discarded sequenced flit: NAK once for the SEQ, and again only when a replayed copy of it fails. -/
def Link.discard (l : Link) (copyFailed : Bool) : Link :=
  if !l.nakSent then { l with nakDue := true, nakSent := true }
  else if copyFailed then { l with nakDue := true } else l

/-- Flits of channel `v` leave the receive buffer: their credits are to be returned (R170). -/
def Link.giveBack (l : Link) (v n : Nat) : Link := { l with returns := modifyAt v (· + n) l.returns }

/-- Payload bytes a flit adds to the packet its channel is assembling, and the packet when it ends there.  A packet that a
new one cuts short leaves the buffer. -/
def Link.assemble (l : Link) (f : Flit) : Link × Option (List Byte) :=
  let v := f.vc.toNat
  let old := getAt [] l.asm v
  let sofar := if f.sop then f.payload else old ++ f.payload
  let l1 := if f.sop then l.giveBack v (old.length / 244) else l
  ({ l1 with asm := modifyAt v (fun _ => if f.eop then [] else sofar) l1.asm }, if f.eop then some sofar else none)

/-- Whether a received flit's fields are valid (R164): a known type, the fields an IDLE flit leaves 0. -/
def flitOk (f : Flit) : Bool :=
  f.typ.toNat ≤ 2 && f.payload.length = 244 && (f.typ ≠ 0 || (f.seq = 0 && f.payload.all (· = 0))) &&
    (f.typ ≠ 2 || f.ctrl.isSome)

/-- Flits of buffer the share of channel `v` gives a link of width `w` (R170, R179). -/
def State.vcShare (s : State) (p v w : Nat) : Nat :=
  let u := match v with
    | 0 => s.rd F.FAB_PORT_VCBUF_MGMT p
    | 1 => s.rd F.FAB_PORT_VCBUF_ORD p
    | 2 => s.rd F.FAB_PORT_VCBUF_UNORD p
    | _ => s.rd F.FAB_PORT_VCBUF_COLL p
  u * 4 * w / 8

/-- The HELLO this end sends (R177). -/
def State.myHello (s : State) (j : Nat) : Hello :=
  let w := modeWidth (s.mode j)
  { module := BitVec.ofNat 12 (s.rd F.FAB_TR_ID_MODULE), port := BitVec.ofNat 5 (j / 8), link := BitVec.ofNat 3 (j % 8)
    width := BitVec.ofNat 4 w, vcbuf := (List.range 4).map fun v => BitVec.ofNat 16 (s.vcShare (j / 8) v w)
    keepalive := s.flag F.FAB_PORT_CFG_KEEPALIVE (j / 8) }

/-- Set the state of the given lanes of a port. -/
def State.setLanes (s : State) (p : Nat) (lanes : List Nat) (st : Nat) : State :=
  lanes.foldl (fun s l => s.wr F.FAB_LANE_STAT_STATE (8 * p + l) st) s

/-- Lanes of a mask. -/
def lanesOf (mask : BitVec 8) : List Nat := (List.range 8).filter fun l => mask.getLsbD l

/-- A link-management message leaves at once, in the sequence of the link, with the header every flit carries; while 64 flits
are unacknowledged it waits for its slot (R167, R172; log entry 75). -/
def State.ctrlNow (s : State) (j : Nat) (m : CtrlMsg) : State :=
  let l := s.link j
  if 64 ≤ l.replay.length then s.sendCtrl j m
  else
    let t : TxFlit := { seq := l.txSeq, vc := 0, piece := none, ctrl := some m }
    let c := ({ l with txSeq := (l.txSeq + 1) % 256, replay := l.replay ++ [t], slots := l.slots + 1 }).carry t.flit
    (s.modLink j fun _ => c.2).emit (.flit j c.1)

/-- The next good lane of link 0 of a port takes the place of its keep-alive lane (R178). -/
def State.nextKeep (s : State) (j : Nat) : State :=
  match (linkLanes (s.mode j) (j % 8)).find? fun l => s.rd F.FAB_LANE_STAT_STATE (j / 8 * 8 + l) = 0 with
  | some l => (s.setLanes (j / 8) [l] 3).portStat (j / 8)
  | none => s

/-- Remove lanes from a link without a fault of the link: lanes read `st`, a keep-alive lane is replaced, the NAK count
restarts, LANE_DROP with a notice record when `note` is set (R172, R178). -/
def State.dropLanes (s : State) (j : Nat) (lanes : List Nat) (st : Nat) (note : Bool) : State :=
  let s0 := s.setLanes (j / 8) lanes st
  let keep := lanes.any fun l => s.rd F.FAB_LANE_STAT_STATE (8 * (j / 8) + l) = 3
  let s1 := (if keep ∧ s0.activeLanes j = [] then s0.nextKeep j else s0).linkWidth j
  let s2 := s1.modLink j fun l => { l with nakCount := 0 }
  if note then s2.raisePort F.FAB_PORT_CAUSE_LANE_DROP j 1 else s2

/-- A replay from ACK follows a REMAP; it counts where there is something to send again (R172, R173, R179). -/
def State.replayFrom (s : State) (j : Nat) : State :=
  if (s.link j).replay = [] then s.modLink j fun l => { l with nakCount := 0, replayPos := none }
  else (s.modLink j fun l => { l with nakCount := 0, replayPos := some 0 }).count F.FAB_LINK_REPLAY_CNT_COUNT j

/-- Take a link out of service: its channels empty, the replay buffer given back; training it was in ends with it (R179). -/
def State.clearLink (s : State) (j st : Nat) : State :=
  let lanes := linkLanes (s.mode j) (j % 8)
  let s0 := s.wr F.FAB_PORT_CMD_RETRAIN (j / 8) (s.rd F.FAB_PORT_CMD_RETRAIN (j / 8) &&& (255 - 2 ^ (j % 8)))
  let s1 := s0.modLink j fun l => { ({} : Link) with
    expect := l.expect, interval := l.interval, faulted := l.faulted }
  let s2 := (s1.wr F.FAB_LINK_STAT_STATE j st).wr F.FAB_LINK_STAT_WIDTH j 0
  let keep := lanes.filter fun l => s2.rd F.FAB_LANE_STAT_STATE (8 * (j / 8) + l) = 2 ∨ s2.rd F.FAB_LANE_STAT_STATE (8 * (j / 8) + l) = 3 ∨
    s2.rd F.FAB_LANE_STAT_STATE (8 * (j / 8) + l) = 1
  (s2.setLanes (j / 8) keep 0).portStat (j / 8)

/-- The packets a link still holds: those of its replay buffer and of its queues, each once, in order (R175). -/
def Link.held (l : Link) : List Packet :=
  ((l.replay.filterMap fun t => t.piece.map Piece.pkt) ++ (l.vcq.flatMap fun q => q.map Piece.pkt)).eraseDups

end Sys2Proof.Machine
end

