-- ==== Sys2Proof/Machine/Route.lean ====
section
/-! DEFINITION.  Fabric transport: routing entries and the choice of a path (R187 to R189), flow classes and
acknowledgement (R193 to R198), peer sets (R202), and the writing of moved data to its destination. -/

namespace Sys2Proof.Machine

/-! ### Routing entries (R187) -/

/-- This module's ID. -/
def State.myId (s : State) : Nat := s.rd F.FAB_TR_ID_MODULE

/-- Number of a routing entry: bank and destination. -/
def entryIx (bank d : Nat) : Nat := bank % 2 * 4096 + d % 4096

/-- A bit of an entry's VALID field: 0 MIN, 1 to 3 NM0 to NM2, 4 ALT. -/
def State.entryValid (s : State) (ix i : Nat) : Bool := (s.rd F.FAB_ROUTE_HI_VALID ix).testBit i

/-- The egress link of path `i` of an entry. -/
def State.entryLink (s : State) (ix i : Nat) : Nat :=
  match i with
  | 0 => s.rd F.FAB_ROUTE_LO_MIN ix
  | 1 => s.rd F.FAB_ROUTE_LO_NM0 ix
  | 2 => s.rd F.FAB_ROUTE_LO_NM1 ix
  | 3 => s.rd F.FAB_ROUTE_LO_NM2 ix
  | _ => s.rd F.FAB_ROUTE_HI_ALT ix

/-- Whether a link takes packets of a class: it carries flits, and for classes other than management it is in use
since a routing epoch (R176, R191). -/
def State.takes (s : State) (j cls : Nat) : Bool := j < 144 && s.lkCarries j && (cls = 3 || (s.link j).usable)

/-- The alternate path of an entry (R188). -/
def State.altPath (s : State) (ix cls : Nat) : Option (Nat × Nat) :=
  if s.entryValid ix 4 && s.takes (s.entryLink ix 4) cls then some (s.entryLink ix 4, 2) else none

/-- Hops of path `i`: HOPS for MIN; the entry states no count for a non-minimal path, so it is HOPS and a free
number more (log entry 30). -/
def State.pathHops (s : State) (ix i : Nat) : Nat :=
  if i = 0 then s.rd F.FAB_ROUTE_HI_HOPS ix
  else s.rd F.FAB_ROUTE_HI_HOPS ix + Config.nmHops (ix * 4 + i) % 64

/-- Cost of a path for unordered packets (R188). -/
def State.pathCost (s : State) (ix i : Nat) : Nat := ((s.link (s.entryLink ix i)).queued + 1) * s.pathHops ix i

/-- The valid paths of {MIN, NM0, NM1, NM2}, in that order. -/
def State.validPaths (s : State) (ix : Nat) : List Nat := (List.range 4).filter fun i => s.entryValid ix i

/-- The path of lowest cost, the earlier one on a tie. -/
def State.cheapest (s : State) (ix : Nat) : List Nat → Option Nat
  | [] => none
  | i :: t => match State.cheapest s ix t with
    | none => some i
    | some k => if s.pathCost ix i ≤ s.pathCost ix k then some i else some k

/-- The link number of packets for this module itself: they go straight to the packets received. -/
abbrev localLink : Nat := 144

/-- The first link that carries to a neighbour. -/
def State.linkTo (s : State) (m : Nat) : Option Nat :=
  (List.range 144).find? fun j => s.lkCarries j && s.flag F.FAB_LINK_PEER_VALID j && s.rd F.FAB_LINK_PEER_MODULE j = m

/-- The path of a management packet to a neighbour whose entry gives none: the link to it.  Management traffic flows before any
entry is written (R210; log entry 69). -/
def State.mgmtPath (s : State) (p : Packet) : Option (Nat × Nat) :=
  if p.cls = 3 then (s.linkTo p.dstMod.toNat).map fun j => (j, 0) else none

/-- The path a table gives a packet at its source (R188). -/
def State.tablePath (s : State) (p : Packet) (bank : Nat) : Option (Nat × Nat) :=
  let ix := entryIx bank p.dstMod.toNat
  let v := s.validPaths ix
  let pick := match p.cls.toNat with
    | 0 => if s.flag F.FAB_TR_CTL_ORD_SPREAD && v ≠ [] then v[p.flow.toNat % v.length]? else v.find? (· = 0)
    | 1 => s.cheapest ix v
    | _ => v.find? (· = 0)
  match pick with
  | none => s.altPath ix p.cls.toNat
  | some i =>
    if s.flag F.FAB_ROUTE_HI_STALE ix || !(s.takes (s.entryLink ix i) p.cls.toNat) then s.altPath ix p.cls.toNat
    else some (s.entryLink ix i, if i = 0 then 0 else 1)

/-- The path a source chooses for a packet (R188): egress link and ROUTE code; none when no path is left. -/
def State.sourcePath (s : State) (p : Packet) (bank : Nat) : Option (Nat × Nat) :=
  if p.dstMod.toNat = s.myId then some (localLink, 0)
  else match s.tablePath p bank with
    | some x => some x
    | none => s.mgmtPath p

/-- The path of a later hop (R188): MIN of its own entry, or ALT. -/
def State.hopPath (s : State) (p : Packet) : Option (Nat × Nat) :=
  let ix := entryIx (if p.epoch then 1 else 0) p.dstMod.toNat
  if !(s.entryValid ix 0) || s.flag F.FAB_ROUTE_HI_STALE ix || !(s.takes (s.entryLink ix 0) p.cls.toNat) then
    s.altPath ix p.cls.toNat
  else some (s.entryLink ix 0, p.route.toNat)

/-- Whether a packet that came in by link `i` and leaves by link `j` enters a torus ring from another direction (R189): the
rings the ports of a module belong to are a choice of the installation (log entry 70). -/
def entersRing (i j : Nat) : Bool :=
  Config.portRing (j / 8) ≠ 0 && i ≠ localLink && Config.portRing (i / 8) ≠ Config.portRing (j / 8)

/-- Queue a packet on an egress link. A packet a bobbin injects, one on a detour or alternate hop, and one that enters a torus
ring (`extra_`) asks for credits for two more flits (R189).  A module with a duplicate ID sends management packets only
(R182). -/
def State.enqueue (s : State) (j : Nat) (p : Packet) (extra_ : Bool) : State :=
  if s.fab.dupId && p.cls ≠ 3 then s else
  if j = localLink then { s with fab := { s.fab with inbox := s.fab.inbox ++ [(j, p)] } } else
  let extra := if extra_ || p.route ≠ 0 then 2 else 0
  let ps := (List.range p.flits).map fun k => ({ pkt := p, k := k, need := p.flits + extra } : Piece)
  s.modLink j fun l => { l with vcq := modifyAt (classVc p.cls.toNat) (fun q =>
    if p.retx then (q.takeWhile fun x => x.k ≠ 0) ++ ps ++ (q.dropWhile fun x => x.k ≠ 0) else q ++ ps) l.vcq }

/-- Count a discarded packet. -/
def State.dropPacket (s : State) : State := s.count F.FAB_TR_DROP_CNT_VALUE 0

/-- Live bank. -/
def State.liveBank (s : State) : Nat := s.rd F.FAB_RT_CTL_LIVE

/-- Whether transport carries a class now: management always, the others with EN and no duplicate ID (R182). -/
def State.carries (s : State) (cls : Nat) : Bool := cls = 3 || (s.flag F.FAB_TR_CTL_EN && !s.fab.dupId)

/-! ### Descriptors under way (R79, R111, R198) -/

/-- The SIGNAL of a descriptor (R79). -/
def State.bobSignal (s : State) (p : Nat) (d : BobDesc) : State :=
  if d.sigEn then
    match s.tokKey p d.sigG d.sigTok.toNat with
    | some k => (s.tokAdd k d.sigN.toNat).1
    | none => s
  else s

/-- Change a descriptor under way. -/
def State.modDesc (s : State) (id : Nat) (f : DescRun → DescRun) : State :=
  { s with fab := { s.fab with descs := s.fab.descs.map fun d => if d.id = id then f d else d } }

/-- Unit of the accesses of a host to loans, and of the writes of a LOAD to loans: no bobbin's. -/
abbrev hostUnit : Nat := 2 ^ 20

/-- A descriptor whose requests are all issued and settled ends: its status goes to the command, and its SIGNAL
issues.  The accesses of a host, and the writes of a LOAD, are over for the queue pair or the command that waits. -/
def State.endDesc (s : State) (d : DescRun) : State :=
  let s1 := { s with fab := { s.fab with descs := s.fab.descs.erase d } }
  if hostUnit ≤ d.unit then
    { s1 with
      owed := s1.owed.map fun o => if o.id = d.id then { o with settled := true, bad := decide (d.status ≠ 0) } else o
      cmds := s1.cmds.map fun c => if c.put.elem d.id then { c.note d.status d.origin with put := c.put.erase d.id } else c }
  else
    let s2 := if d.status = 0 then s1 else s1.modRun d.part fun c => c.note d.status d.origin
    s2.bobSignal (d.unit / 32) d.desc

/-- End a descriptor when nothing of it is outstanding; a COLL step ends at COMMIT or ABORT only (R206). -/
def State.tryEnd (s : State) (id : Nat) : State :=
  match s.fab.descs.find? fun d => d.id = id with
  | some d => if d.issued && d.left = 0 && d.desc.opc ≠ 6 then s.endDesc d else s
  | none => s

/-- A descriptor of no bobbin, for accesses to loans: its identity. -/
def State.newDesc (s : State) (n unit : Nat) : Nat × State :=
  let id := s.fab.nextDesc
  let run : DescRun := { id := id, unit := unit, part := n, desc := readBob [], left := 0, issued := false, status := 0, origin := 0 }
  (id, { s with fab := { s.fab with nextDesc := id + 1, descs := s.fab.descs ++ [run] } })

/-- All requests of a descriptor are issued; it ends when they have settled. -/
def State.closeDesc (s : State) (id : Nat) : State := (s.modDesc id fun r => { r with issued := true }).tryEnd id

/-- Whether a descriptor belongs to no bobbin. -/
def State.hostDesc (s : State) (d : Option Nat) : Bool :=
  match d with
  | some i => s.fab.descs.any fun r => r.id = i && decide (hostUnit ≤ r.unit)
  | none => false

/-- Whether a packet is injected by a bobbin: it belongs to a descriptor of one. -/
def State.ofBobbin (s : State) (d : Option Nat) : Bool := d.isSome && !(s.hostDesc d)

/-- Give a descriptor a status (the first stands) and drop its packets that wait for a place. -/
def State.failDesc (s : State) (desc : Option Nat) (status origin : Nat) : State :=
  match desc with
  | none => s
  | some id =>
    let mine := fun (w : Packet × Option Nat) => decide (w.2 = some id)
    let gone := ((s.fab.tx.map fun (e : Nat × TxFlow) => (e.2.waiting.filter mine).length)).sum
    let s1 := { s with fab := { s.fab with
      tx := s.fab.tx.map fun (e : Nat × TxFlow) => (e.1, { e.2 with waiting := e.2.waiting.filter fun w => !(mine w) }) } }
    s1.modDesc id fun d => { d with
      status := if d.status = 0 then status else d.status
      origin := if d.status = 0 then origin else d.origin
      left := d.left - gone }

/-- One outstanding packet or request of a descriptor has settled. -/
def State.settle (s : State) (desc : Option Nat) (n : Nat) : State :=
  match desc with
  | none => s
  | some id => s.modDesc id fun d => { d with left := d.left - n }

/-- One more packet or request of a descriptor is outstanding. -/
def State.unsettle (s : State) (desc : Option Nat) : State :=
  match desc with
  | none => s
  | some id => s.modDesc id fun d => { d with left := d.left + 1 }

/-! ### Sending (R193, R197) -/

/-- The sending side of a flow class. -/
def State.txFlow (s : State) (k : Nat) : TxFlow := Assoc.get {} s.fab.tx k

/-- Change the sending side of a flow class. -/
def State.setTx (s : State) (k : Nat) (f : TxFlow) : State :=
  { s with fab := { s.fab with tx := Assoc.set {} s.fab.tx k f } }

/-- Key of the flow class to or from a module. -/
def flowKey (m cls : Nat) : Nat := m % 4096 * 4 + cls % 4

/-- Add a module to a partition's peer set (R202). -/
def State.addPeer (s : State) (n m : Nat) : State :=
  { s with fab := { s.fab with peerSets := Assoc.set 0 s.fab.peerSets m (Assoc.get 0 s.fab.peerSets m ||| 2 ^ (n % 16)) } }

/-- Clear a partition's peer set. -/
def State.clearPeers (s : State) (n : Nat) : State :=
  { s with fab := { s.fab with
    peerSets := (s.fab.peerSets.map fun (e : Nat × Nat) => (e.1, if e.2.testBit n then e.2 - 2 ^ n else e.2)).filter fun e => e.2 ≠ 0 } }

/-- Send a packet of a flow class now: the PSN, the EPOCH bit and HOPS_LEFT are set, and it is kept until it is
acknowledged. Without a path its descriptor ends with PEER_LOST and NO_ROUTE is raised (R198). -/
def State.sendNow (s : State) (p : Packet) (desc : Option Nat) : State :=
  let k := flowKey p.dstMod.toNat p.cls.toNat
  let f := s.txFlow k
  let q := { p with psn := BitVec.ofNat 16 f.psn, epoch := decide (s.liveBank = 1), hops := 63 }
  match s.sourcePath q s.liveBank with
  | none => ((s.raise F.FAB_TR_CAUSE_NO_ROUTE 0 0 [wd p.dstMod.toNat]).failDesc desc 0x32 p.dstMod.toNat).settle desc 1
  | some (j, r) =>
    let q' := { q with route := BitVec.ofNat 2 r }
    (s.setTx k { f with psn := (f.psn + 1) % 65536, unacked := f.unacked ++ [{ pkt := q', at_ := s.up, tries := 0, desc := desc }] }).enqueue j q' (s.ofBobbin desc)

/-- Hand a packet to its flow class: sent at once, or waiting while 512 are unacknowledged or the class is not
carried; a packet to a lost module ends its descriptor (R193, R198). -/
def State.inject (s : State) (p : Packet) (desc : Option Nat) : State :=
  let d := p.dstMod.toNat
  if s.fab.lost.elem d then s.failDesc desc 0x32 d
  else
    let s1 := if p.cls = 3 then s else s.addPeer p.srcPart.toNat d
    let s2 := s1.unsettle desc
    let k := flowKey d p.cls.toNat
    let f := s2.txFlow k
    if f.unacked.length < 512 && f.waiting = [] && s2.carries p.cls.toNat then s2.sendNow p desc
    else s2.setTx k { f with waiting := f.waiting ++ [(p, desc)] }
/-- Send waiting packets of a flow class while there is room; `fuel` bounds the packets. -/
def State.pump (s : State) (k : Nat) : Nat → State
  | 0 => s
  | fuel + 1 =>
    let f := s.txFlow k
    match f.waiting with
    | [] => s
    | (p, d) :: t =>
      if f.unacked.length < 512 && s.carries (k % 4) then
        State.pump ((s.setTx k { f with waiting := t }).sendNow p d) k fuel
      else s

/-- Send a packet outside the flow classes (ACK, REFUSE and the floods): no PSN of its own, not kept. -/
def State.sendLoose (s : State) (p : Packet) : State :=
  let q := { p with epoch := decide (s.liveBank = 1), hops := 63 }
  match s.sourcePath q s.liveBank with
  | none => s
  | some (j, r) => s.enqueue j { q with route := BitVec.ofNat 2 r } false

/-- A kept packet is kept no longer: a request no answer will come to is dropped, and its descriptor may end. -/
def State.forget (s : State) (k : Nat) (u : Unacked) : State :=
  let s1 := { s with fab := { s.fab with gets := s.fab.gets.filter fun g => !(u.pkt.typ = 2 && g.tag = u.pkt.tag.toNat) } }
  let s2 := s1.setTx k { s1.txFlow k with unacked := (s1.txFlow k).unacked.erase u }
  match u.desc with
  | some i => (s2.settle (some i) 1).tryEnd i
  | none => s2

/-- A kept packet ends its descriptor with PEER_LOST (R198). -/
def State.giveUp (s : State) (k : Nat) (u : Unacked) : State := (s.failDesc u.desc 0x32 (k / 4)).forget k u

/-- A packet kept for retransmission whose destination has no path (R188, R198): NO_ROUTE is raised, and its descriptor ends. -/
def State.pathless (s : State) (p : Packet) : State :=
  let k := flowKey p.dstMod.toNat p.cls.toNat
  match (s.txFlow k).unacked.find? fun u => u.pkt.psn = p.psn with
  | none => s
  | some u => (s.raise F.FAB_TR_CAUSE_NO_ROUTE 0 0 [wd p.dstMod.toNat]).giveUp k u

/-- Send a copy of a kept packet again, with RETX set and on the current path (R197); without a path it ends its descriptor
(R188, R198).  A module with a duplicate ID sends management packets only (R182). -/
def State.resend (s : State) (k : Nat) (u : Unacked) : State :=
  if !(s.carries (k % 4)) then s else
  let q := { u.pkt with retx := true, epoch := decide (s.liveBank = 1), hops := 63, route := 0 }
  let s1 := s.count F.FAB_TR_RETX_CNT_VALUE 0
  let s2 := s1.setTx k { s1.txFlow k with unacked := (s1.txFlow k).unacked.map fun x =>
    if x.pkt.psn = u.pkt.psn then { x with tries := x.tries + 1, at_ := s1.up } else x }
  match s2.sourcePath q s2.liveBank with
  | none => s2.pathless q
  | some (j, r) => s2.enqueue j { q with route := BitVec.ofNat 2 r } false

/-- An empty packet from this module. -/
def State.blank (s : State) (typ cls dst dstPart srcPart : Nat) : Packet :=
  { dstMod := BitVec.ofNat 12 dst, dstPart := BitVec.ofNat 4 dstPart, srcMod := BitVec.ofNat 12 s.myId
    srcPart := BitVec.ofNat 4 srcPart, typ := BitVec.ofNat 8 typ, lines := 0, retx := false, epoch := false, route := 0
    pmask := 0, unit := 0, flow := 0, psn := 0, cls := BitVec.ofNat 2 cls, hops := 63, space := false, addr := 0
    tag := 0, data := [] }

/-- Poison mask of marked bytes, one bit for each 64-byte line (R185). -/
def maskOf (l : List (Byte × Bool)) : Nat :=
  packBits ((List.range ((l.length + 63) / 64)).map fun i => ((l.drop (64 * i)).take 64).any Prod.snd)

/-- The marked bytes a packet carries. -/
def Packet.marked' (data : List Byte) (mask : BitVec 8) : List (Byte × Bool) :=
  data.zipIdx.map fun (x : Byte × Nat) => (x.1, mask.getLsbD (x.2 / 64))

/-- Data of a packet in whole lines: its bytes, padded with zeros to a line. -/
def wholeLines (l : List (Byte × Bool)) : List (Byte × Bool) := l ++ List.replicate ((64 - l.length % 64) % 64) (0, false)

/-- Put data and its poison mask into a packet. -/
def withData (p : Packet) (l : List (Byte × Bool)) : Packet :=
  let w := wholeLines l
  { p with data := w.map Prod.fst, lines := BitVec.ofNat 4 (w.length / 64), pmask := BitVec.ofNat 8 (maskOf w) }

/-- ADDR of an access to a loan (log entry 31): bit 63 set, the loan slot in [52:48], the loan offset in [39:0]. -/
def loanAddr (slot off : Nat) : Nat := 2 ^ 63 + slot % 32 * 2 ^ 48 + off % 2 ^ 40

/-! ### Where moved data goes -/

/-- Note poison met in a stack on the partition's RUN (R123). -/
def State.notePart (s : State) (n origin : Nat) (b : Bool) : State :=
  if b then s.modRun n fun c => c.addPoison origin else s

/-- Issue a GET for a piece of at most 448 bytes (R186). -/
def State.issueGet (s : State) (n : Nat) (id : Option Nat) (req : Packet) (len : Nat) (dst : Dest)
    (bad : Bool := false) : State :=
  let t := s.fab.nextTag
  let s1 := { s with fab := { s.fab with
    nextTag := (t + 1) % 2 ^ 32
    gets := s.fab.gets ++ [({ tag := t, desc := id, part := n, dst := dst, lines := (len + 63) / 64, bad := bad } : GetWait)] } }
  s1.inject { req with tag := BitVec.ofNat 32 t, lines := BitVec.ofNat 4 ((len + 63) / 64) } id

/-- UNIT of a descriptor's packets (R185): logical cluster and bobbin; 0 for the accesses of hosts and LOADs, which no
bobbin makes. -/
def State.unitOf (s : State) (desc : Option Nat) : BitVec 8 :=
  match desc.bind fun i => s.fab.descs.find? fun r => r.id = i with
  | some r => if hostUnit ≤ r.unit then 0 else BitVec.ofNat 8 (s.rd F.CLU_ID_LOGICAL (r.unit / 32) + r.unit % 4 * 64)
  | none => 0

/-- Put whole lines to a loan, or to a peer's memory or store. -/
def State.putLines (s : State) (n : Nat) (desc : Option Nat) (ord : Bool) (flow m part : Nat) (space : Bool) (addr : Nat)
    (l : List (Byte × Bool)) : State :=
  s.inject (withData { s.blank 0x01 (if ord then 0 else 1) m part n with
    unit := s.unitOf desc, flow := BitVec.ofNat 16 flow, space := space, addr := BitVec.ofNat 64 addr } l) desc

/-- Merge bytes into one line of a loan: the line is read first, since a PUT carries whole lines (R185). -/
def State.mergeLine (s : State) (n : Nat) (desc : Option Nat) (ord : Bool) (flow m slot off : Nat) (l : List (Byte × Bool)) : State :=
  s.issueGet n desc { s.blank 0x02 1 m n n with unit := s.unitOf desc, addr := BitVec.ofNat 64 (loanAddr slot (off / 64 * 64)) } 64
    (.merge m slot off l ord flow)

/-- Write marked bytes (at most 448, within one loan) to a loan (R154): whole lines are put, the part of a line at either
end is merged. -/
def State.loanWrite (s : State) (n : Nat) (desc : Option Nat) (ord : Bool) (flow m slot off : Nat) (l : List (Byte × Bool)) : State :=
  let h := if off % 64 = 0 then 0 else min l.length (64 - off % 64)
  let body := (l.length - h) / 64 * 64
  let s1 := if h = 0 then s else s.mergeLine n desc ord flow m slot off (l.take h)
  let s2 := if body = 0 then s1
    else s1.putLines n desc ord flow m n false (loanAddr slot (off + h)) ((l.drop h).take body)
  if l.length ≤ h + body then s2 else s2.mergeLine n desc ord flow m slot (off + h + body) (l.drop (h + body))

/-- Write marked bytes (at most 448) at an offset of partition memory that lie within one 64 KiB page: local, or on loan. -/
def State.pageWriteMem (s : State) (n : Nat) (desc : Option Nat) (ord : Bool) (flow o : Nat) (l : List (Byte × Bool)) : State :=
  match s.place n o with
  | .local_ _ _ => (splitLines (l.length + 1) o (l.map Prod.fst)).foldl (fun s x =>
      s.partWrite n x.1 x.2 (((l.drop (x.1 - o)).take x.2.length).any Prod.snd)) s
  | .loan m slot off => s.loanWrite n desc ord flow m slot off l
  | .nowhere => (s.reject (0x10 + n) noTarget kWrite o).failDesc desc 0x24 (accessOrigin (0x10 + n) noTarget)

/-- Write marked bytes (at most 448) to a destination of partition `n` for a descriptor: partition memory, a loan,
a store, a peer, or the piece a host or a descriptor waits for.  Local memory and every loan are whole 64 KiB pages, so a
span is cut at page ends (R133, R153, R154).  `ord` and `flow` are the descriptor's. -/
def State.writeDest (s : State) (n : Nat) (desc : Option Nat) (ord : Bool) (flow : Nat) (d : Dest)
    (l : List (Byte × Bool)) : State :=
  match d with
  | .mem o =>
    let r := 65536 - o % 65536
    if l.length ≤ r then s.pageWriteMem n desc ord flow o l
    else (s.pageWriteMem n desc ord flow o (l.take r)).pageWriteMem n desc ord flow (o + r) (l.drop r)
  | .store p a => s.storeWriteP p a l
  | .peer a => s.putLines n desc ord flow (bitsOf a 48 12) (bitsOf a 44 4) (decide (a / 2 ^ 60 = 3)) (a % 2 ^ 44) l
  | .host id off =>
    { s with owed := s.owed.map fun o => match o.job with
        | .read len parts => if o.id = id then { o with job := .read len (parts ++ [(off, l)]) } else o
        | _ => o }
  | .index id off => s.modDesc id fun r => { r with idx := r.idx ++ [(off, l)] }
  | .merge m slot off x ord flow =>
    -- a write of part of a poisoned line leaves it poisoned and its data unchanged (R136)
    if l.any Prod.snd then s
    else s.putLines n desc ord flow m n false (loanAddr slot (off / 64 * 64)) (l.take (off % 64) ++ x ++ l.drop (off % 64 + x.length))

/-! ### Receiving (R193, R194) -/

/-- The receiving side of a flow class. -/
def State.rxFlow (s : State) (k : Nat) : RxFlow := Assoc.get {} s.fab.rx k

/-- Change the receiving side of a flow class. -/
def State.setRx (s : State) (k : Nat) (f : RxFlow) : State :=
  { s with fab := { s.fab with rx := Assoc.set {} s.fab.rx k f } }

/-- Send an ACK for a flow class (R186, R194): PSN holds the highest PSN received without a gap. -/
def State.sendAck (s : State) (k : Nat) : State :=
  let f := s.rxFlow k
  let p := { s.blank 0x04 (k % 4) (k / 4) 0 0 with psn := BitVec.ofNat 16 (f.next + 65535), tag := BitVec.ofNat 32 (k % 4) }
  (s.setRx k { f with since := 0 }).sendLoose p

/-- Move the receiving side past every PSN held without a gap: the packets now in order (ordered class), and the
new side; `fuel` bounds the window. -/
def RxFlow.advance (f : RxFlow) : Nat → RxFlow × List Packet
  | 0 => (f, [])
  | fuel + 1 =>
    match f.ahead.find? fun p => p.psn.toNat = f.next with
    | none => (f, [])
    | some p =>
      let r := RxFlow.advance { f with next := (f.next + 1) % 65536, ahead := f.ahead.erase p } fuel
      (r.1, p :: r.2)

/-- Take a sequenced packet in (R193): the packets to deliver now, in order.  A PSN delivered or held before, or
outside the window of 512, is discarded. -/
def RxFlow.take (f : RxFlow) (p : Packet) : RxFlow × List Packet :=
  let dist := (p.psn.toNat + 65536 - f.next) % 65536
  if 512 ≤ dist || f.ahead.any (fun q => q.psn = p.psn) then (f, [])
  else
    let r := ({ f with ahead := f.ahead ++ [p] } : RxFlow).advance 512
    if p.cls = 0 then ({ r.1 with since := r.1.since + r.2.length }, r.2)
    else ({ r.1 with since := r.1.since + 1 }, [p])

/-- The stall measure of R199: from the last fault to the first in-order delivery of flow class `k` after it.  A class whose
first delivery is a packet sent once only had nothing that the fault stopped, and is no stall (log entry 71). -/
def State.noteStall (s : State) (k : Nat) (p : Packet) : State :=
  match s.fab.faultAt with
  | some t =>
    if s.fab.stalled.elem k then
      let s0 := { s with fab := { s.fab with stalled := s.fab.stalled.erase k } }
      if p.retx then
        let d := s.up - t
        let s1 := s0.wr F.FAB_TR_LAST_STALL_VALUE 0 (max (s.rd F.FAB_TR_LAST_STALL_VALUE) (min d 0xFFFFFFFF))
        if 25000 < d then s1.raise F.FAB_TR_CAUSE_STALL_OVER 0 2 [wd d] else s1
      else s0
    else s
  | none => s

/-- Send an ACK at every 64th packet of a flow class (R194). -/
def State.ackDue (s : State) (k : Nat) : State := if 64 ≤ (s.rxFlow k).since then s.sendAck k else s

/-- A flooded message of the management class is taken in by `f` unless its PSN was delivered before (R193). -/
def State.recvNote (s : State) (x : Note) (f : State → State) : State :=
  let k := flowKey x.src.toNat 3
  let p : Packet := { s.blank 0 3 0 0 0 with psn := x.psn }
  let r := (s.rxFlow k).take p
  if r.2 = [] then s.dropPacket else (f (s.setRx k r.1)).ackDue k

end Sys2Proof.Machine
end

