-- ==== Sys2Proof/Machine/Coll.lean ====
section
/-! DEFINITION.  Collectives, barriers and all-to-all (R204 to R208): what a participant sends, combines and writes,
and how READY, COMMIT, ABORT and QUERY end a step. -/

namespace Sys2Proof.Machine

/-! ### Fields of a COLL descriptor (R204) -/

/-- OP of a COLL descriptor: 0 REDUCE, 1 ALL_REDUCE, 2 ALL_GATHER, 3 REDUCE_SCATTER, 4 BROADCAST, 5 BARRIER,
6 ALL_TO_ALL. -/
def collOp (d : BobDesc) : Nat := bitsOf d.aux.toNat 0 3
/-- FMT. -/
def collFmt (d : BobDesc) : Nat := bitsOf d.aux.toNat 3 3
/-- RED: 0 sum, 1 maximum, 2 minimum. -/
def collRed (d : BobDesc) : Nat := bitsOf d.aux.toNat 6 2
/-- ID. -/
def collId (d : BobDesc) : Nat := bitsOf d.aux.toNat 8 6
/-- ROOT. -/
def collRoot (d : BobDesc) : Nat := bitsOf d.aux.toNat 14 11

/-- Bytes of one element or block of a format. -/
def unitBytes (fmt : Nat) : Nat := if fmt = 6 then 2 else if fmt = 7 then 4 else blkBytes fmt

/-- Length of the local input. -/
def collLen (d : BobDesc) : Nat := d.rows.toNat * d.rowBytes.toNat

/-- Number of participants. -/
def Coll.n (c : Coll) : Nat := c.group.length

/-- Module, partition and slot of a rank. -/
def Coll.mod (c : Coll) (r : Nat) : Nat := getAt 0 c.group r % 4096
def Coll.prt (c : Coll) (r : Nat) : Nat := bitsOf (getAt 0 c.group r) 12 4

/-- Whether the input runs on the ring (R205). -/
def Coll.ring (c : Coll) : Bool := c.n * 4096 ≤ collLen c.desc

/-- First byte and length of part `i` of the vector: an equal share in whole elements or blocks, the last part
shorter where the vector does not divide; for ALL_GATHER the input of rank `i`. -/
def Coll.chunk (c : Coll) (i : Nat) : Nat × Nat :=
  let u := unitBytes (collFmt c.desc)
  let len := collLen c.desc
  if collOp c.desc = 2 then (i * len, len)
  else
    let per := (len / u + c.n - 1) / c.n * u
    (i * per, min len ((i + 1) * per) - min len (i * per))

/-- Tree position of a rank and back: rank 0, or ROOT for REDUCE and BROADCAST, is the root (R205). -/
def Coll.treeRoot (c : Coll) : Nat := if collOp c.desc = 0 ∨ collOp c.desc = 4 then collRoot c.desc else 0
def Coll.pos (c : Coll) (r : Nat) : Nat := (r + c.n - c.treeRoot) % c.n
def Coll.rankAt (c : Coll) (t : Nat) : Nat := (t + c.treeRoot) % c.n
/-- Children of a tree position, fan-in 8. -/
def Coll.children (c : Coll) (r : Nat) : List Nat :=
  ((List.range 8).map fun i => 8 * c.pos r + 1 + i).filterMap fun t => if t < c.n then some (c.rankAt t) else none
/-- Parent of a rank other than the root. -/
def Coll.parent (c : Coll) (r : Nat) : Nat := c.rankAt ((c.pos r - 1) / 8)

/-! ### Data in and out -/

/-- Cut a span of the local data into pieces that lie in one row and are at most 64 bytes. -/
def rowPieces (rb : Nat) (off len : Nat) : Nat → List (Nat × Nat)
  | 0 => []
  | fuel + 1 =>
    if len = 0 then []
    else
      let n := min (min 64 len) (rb - off % rb)
      if n = 0 then [] else (off, n) :: rowPieces rb (off + n) (len - n) fuel

/-- Physical cluster of a slot of the running pattern (R111, R115). -/
def State.slotPhys (s : State) (n slot : Nat) : Option Nat :=
  match (s.part n).run with
  | none => none
  | some r =>
    let pat := (s.part n).pats[r.pat]?
    (pat.bind fun p => p.place[slot]?).bind fun rank => ((s.ranks n)[rank]?).map Prod.snd

/-- The place a descriptor's address names, moved on by `off` bytes (spaces 0 to 3, R111). -/
def State.destOf (s : State) (n : Nat) (a : BitVec 64) (off : Nat) : Option Dest :=
  match spaceOf a with
  | 0 => some (.mem (memOff a + off))
  | 1 => (s.slotPhys n (slotOf a)).map fun p => .store p (storeOff a + off)
  | 2 | 3 => some (.peer (a.toNat + off))
  | _ => none

/-- Read marked bytes of the partition's own memory or of a store; bytes of another module are not in this
state, and are free (log entry 32). -/
def State.readLocal (s : State) (n : Nat) (d : Dest) (len : Nat) : List (Byte × Bool) × State :=
  match d with
  | .store p a => ((s.storeRead p a len).zipIdx.map fun (x : Byte × Nat) => (x.1, s.linePoison p (a + x.2)), s)
  | .mem o =>
    let here := min len (s.localSize n - o)
    let r := s.freeBytes (len - here)
    ((((s.partRead n o here).1).zipIdx.map fun (x : Byte × Nat) =>
      (x.1, let y := s.land n (o + x.2); s.badLine y.1 y.2)) ++ r.1.map fun b => (b, false), r.2)
  | _ =>
    let r := s.freeBytes len
    (r.1.map fun b => (b, false), r.2)

/-- Bytes `off` to `off + len - 1` of a participant's input. -/
def State.collIn (s : State) (c : Coll) (off len : Nat) : List (Byte × Bool) × State :=
  let d := c.desc
  (rowPieces d.rowBytes.toNat off len (len + 1)).foldl (fun (r : List (Byte × Bool) × State) (x : Nat × Nat) =>
    let o := x.1 / d.rowBytes.toNat * d.srcStride.toNat + x.1 % d.rowBytes.toNat
    match r.2.destOf c.part d.src o with
    | some q => let y := r.2.readLocal c.part q x.2; (r.1 ++ y.1, y.2)
    | none => r) ([], s)

/-- Change a collective. -/
def State.modColl (s : State) (c : Coll) (f : Coll → Coll) : State :=
  { s with fab := { s.fab with colls := s.fab.colls.map fun x =>
      if x.part = c.part ∧ x.id = c.id ∧ x.run = c.run then f x else x } }

/-- The present form of a collective. -/
def State.collNow (s : State) (c : Coll) : Coll :=
  (s.fab.colls.find? fun x => x.part = c.part ∧ x.id = c.id ∧ x.run = c.run).getD c

/-- Write marked bytes at `off` of the participant's output. -/
def State.collOut (s : State) (c : Coll) (off : Nat) (l : List (Byte × Bool)) : State :=
  let d := c.desc
  let s1 := (rowPieces d.rowBytes.toNat off l.length (l.length + 1)).foldl (fun (s : State) (x : Nat × Nat) =>
    let o := x.1 / d.rowBytes.toNat * d.dstStride.toNat + x.1 % d.rowBytes.toNat
    match s.destOf c.part d.dst o with
    | some q => s.writeDest c.part (some c.run) false d.flow.toNat q ((l.drop (x.1 - off)).take x.2)
    | none => s) s
  s1.modColl c fun c => { c with
    outLeft := c.outLeft - l.length, poison := c.poison || l.any Prod.snd }

/-! ### Messages -/

/-- Send a control message to a rank (R186): ARRIVE 0, READY 1, COMMIT 2, ABORT 3, END 4, QUERY 5. -/
def State.sendCtl (s : State) (c : Coll) (dst kind count : Nat) : State :=
  let p := { s.blank 0x09 2 (c.mod dst) (c.prt dst) c.part with
    tag := BitVec.ofNat 32 (c.id + c.rank * 2 ^ 6 + kind * 2 ^ 17), addr := BitVec.ofNat 64 count }
  s.inject p none

/-- Send a message of marked bytes to a rank: packets of at most seven lines, the step and sender in TAG and the
place in the vector in ADDR (log entry 33). -/
def State.sendData (s : State) (c : Coll) (dst step off : Nat) (l : List (Byte × Bool)) : State :=
  (List.range ((l.length + 447) / 448)).foldl (fun s i =>
    let piece := (l.drop (448 * i)).take 448
    let p := withData { s.blank 0x08 2 (c.mod dst) (c.prt dst) c.part with
      unit := s.unitOf (some c.run), tag := BitVec.ofNat 32 (c.id + c.rank * 2 ^ 6 + step * 2 ^ 17)
      addr := BitVec.ofNat 64 (off + 448 * i) } piece
    s.inject p (some c.run)) s

/-- The lowest rank whose module is not lost: rank 0 while it survives (R206). -/
def State.coordinator (s : State) (c : Coll) : Nat :=
  ((List.range c.n).find? fun r => !(s.fab.lost.elem (c.mod r))).getD 0

/-- The other ranks that survive. -/
def State.others (s : State) (c : Coll) : List Nat :=
  (List.range c.n).filter fun r => r ≠ c.rank && !(s.fab.lost.elem (c.mod r))

/-- The busy bit of an ID (R208). -/
def State.setBusy (s : State) (n id v : Nat) : State :=
  if id < 32 then
    let w := s.reg .FAB_COLL_BUSY_LO n
    s.setReg .FAB_COLL_BUSY_LO n (if v = 1 then w ||| BitVec.ofNat 32 (2 ^ id) else w &&& ~~~(BitVec.ofNat 32 (2 ^ id)))
  else
    let w := s.reg .FAB_COLL_BUSY_HI n
    s.setReg .FAB_COLL_BUSY_HI n
      (if v = 1 then w ||| BitVec.ofNat 32 (2 ^ (id - 32)) else w &&& ~~~(BitVec.ofNat 32 (2 ^ (id - 32))))

/-- Whether an ID is active in a partition. -/
def State.busy (s : State) (n id : Nat) : Bool :=
  if id < 32 then (s.reg .FAB_COLL_BUSY_LO n).getLsbD id else (s.reg .FAB_COLL_BUSY_HI n).getLsbD (id - 32)

/-- A collective is over at this participant (R206): its ID is free, an aborted one ends its step with COLLECTIVE
and raises COLL_FAIL, a poisoned one with POISON, and the step's SIGNAL follows. -/
def State.collOver (s : State) (c : Coll) (ok : Bool) : State :=
  let s1 := (s.modColl c fun c => { c with done := some ok, msgs := [], acc := [] }).setBusy c.part c.id 0
  let s2 := if ok then s1 else s1.raise F.FAB_TR_CAUSE_COLL_FAIL 0 0 [wd c.part, wd c.id]
  let s3 := if c.poison && ok then s2.modRun c.part fun m => m.addPoison (s2.rd F.CLU_ID_LOGICAL c.cluster) else s2
  match s3.fab.descs.find? fun d => d.id = c.run with
  | some d => s3.endDesc (if ok then d else { d with status := if d.status = 0 then 0x33 else d.status,
                                                     origin := if d.status = 0 then c.id else d.origin })
  | none => s3

/-- Poison as READY and COMMIT carry it in ADDR, so that every participant completes with POISON (R205; log entry 33). -/
def Coll.mark (c : Coll) : Nat := if c.poison then 1 else 0

/-- The coordinator decides (R206): COMMIT again where COMMIT has gone to anyone, else ABORT; to every survivor. -/
def State.collDecide (s : State) (c : Coll) : State :=
  let s1 := (s.others c).foldl (fun s r => if c.sentCommit then s.sendCtl c r 2 c.mark else s.sendCtl c r 3 0) s
  if c.done = none then s1.collOver c c.sentCommit else s1

/-- The coordinator decides at once where it is rank 0 or holds a COMMIT; a later rank asks every survivor first (R206). -/
def State.collSettle (s : State) (c : Coll) : State :=
  if c.rank = 0 || c.sentCommit || s.others c = [] then s.collDecide c
  else (s.others c).foldl (fun s r => s.sendCtl c r 5 0) s

/-- An abort at this participant: the coordinator settles it, another rank tells it. -/
def State.collAbort (s : State) (c : Coll) : State :=
  if s.coordinator c = c.rank then s.collSettle c else s.sendCtl c (s.coordinator c) 3 0

/-- READY or ARRIVE of a rank is held, with the poison it met; with every rank's, COMMIT goes to all (R205, R206). -/
def State.collReady (s : State) (c : Coll) (r : Nat) (bad : Bool) : State :=
  let rs := if c.ready.elem r then c.ready else r :: c.ready
  let s1 := s.modColl c fun c => { c with ready := rs, poison := c.poison || bad }
  if rs.length = c.n && !c.sentCommit then
    let s2 := s1.modColl c fun c => { c with sentCommit := true }
    let now := s2.collNow c
    ((s2.others c).foldl (fun s q => s.sendCtl c q 2 now.mark) s2).collOver now true
  else s1

/-- This participant is READY when its output is written; for ALL_TO_ALL when every row it sent is acknowledged
and every END is held with its count met (R207). -/
def State.collCheck (s : State) (c0 : Coll) : State :=
  let c := s.collNow c0
  let left := ((s.fab.descs.find? fun d => d.id = c.run).map DescRun.left).getD 0
  let ends := (List.range c.n).all fun r => r = c.rank ||
    (match Assoc.find c.ends r with
     | some k => Assoc.get 0 c.rowsIn r = k * (c.desc.rowBytes.toNat / 64)
     | none => false)
  if c.done.isNone && !c.sentReady && collOp c.desc ≠ 5 && c.outLeft = 0 && (collOp c.desc ≠ 6 || (left = 0 && ends)) then
    let s1 := s.modColl c fun c => { c with sentReady := true }
    if s.coordinator c = c.rank then s1.collReady (s1.collNow c) c.rank c.poison else s1.sendCtl c (s.coordinator c) 1 c.mark
  else s

/-- Check every collective that is not over. -/
def State.collCheckAll (s : State) : State := s.fab.colls.foldl State.collCheck s

/-! ### Combining (R205) -/

/-- Combine two SF32 words: sum, maximum or minimum. -/
def redOp (red a b : Nat) : Nat × Nat :=
  let A := fvalOf 23 a
  let B := fvalOf 23 b
  match red with
  | 0 => addV A B
  | 1 => let r := maxV A B; ((encodeV 23 .rne r.1).1, r.2)
  | _ => let r := minV A B; ((encodeV 23 .rne r.1).1, r.2)

/-- Whether any of `n` marked bytes is poisoned. -/
def anyPoison (l : List (Byte × Bool)) : Bool := l.any Prod.snd

/-- Combine two messages of scalars; the flags and the stream are threaded. -/
def redScalars (fmt red : Nat) : Nat → List (Byte × Bool) → List (Byte × Bool) → RndSrc →
    List (Byte × Bool) × Nat × RndSrc
  | 0, _, _, r => ([], 0, r)
  | n + 1, a, b, r =>
    let u := unitBytes fmt
    let x := leNat ((a.take u).map Prod.fst)
    let y := leNat ((b.take u).map Prod.fst)
    let z := redOp red (widen fmt x) (widen fmt y)
    let o := outElem fmt z.1 r
    let t := redScalars fmt red n (a.drop u) (b.drop u) o.2.2
    (markLE u (o.1, anyPoison (a.take u) || anyPoison (b.take u)) ++ t.1, z.2 ||| o.2.1 ||| t.2.1, t.2.2)

/-- Combine two messages of blocks: widened exactly, combined in SF32, requantised under R40 and R42. -/
def redBlocks (fmt : Nat) (f : BlkFmt) (red : Nat) : Nat → List (Byte × Bool) → List (Byte × Bool) → RndSrc →
    List (Byte × Bool) × Nat × RndSrc
  | 0, _, _, r => ([], 0, r)
  | n + 1, a, b, r =>
    let u := blkBytes fmt
    let xs := blkVals fmt f (readBlk fmt f ((a.take u).map Prod.fst))
    let ys := blkVals fmt f (readBlk fmt f ((b.take u).map Prod.fst))
    let zs := (xs.zip ys).map fun (v : FVal × FVal) => redOp red (encodeV 23 .rne v.1).1 (encodeV 23 .rne v.2).1
    let q := quantBlk fmt f (zs.map fun (z : Nat × Nat) => fvalOf 23 z.1) r
    let t := redBlocks fmt f red n (a.drop u) (b.drop u) q.2.2
    let p := anyPoison (a.take u) || anyPoison (b.take u)
    ((writeBlk fmt f q.1).map (fun x => (x, p)) ++ t.1,
      (zs.foldl (fun m (z : Nat × Nat) => m ||| z.2) 0) ||| q.2.1 ||| t.2.1, t.2.2)

/-- Combine two messages of a format. -/
def redMsg (fmt red : Nat) (a b : List (Byte × Bool)) (r : RndSrc) : List (Byte × Bool) × Nat × RndSrc :=
  match blkFmt fmt with
  | some f => redBlocks fmt f red (b.length / blkBytes fmt) a b r
  | none => redScalars fmt red (b.length / unitBytes fmt) a b r

/-- A combining step at port `p`: the rounding stream of consumer 1,024 + p; the flags go to the command. -/
def State.collCombine (s : State) (c : Coll) (p : Nat) (a b : List (Byte × Bool)) : List (Byte × Bool) × State :=
  let r := redMsg (collFmt c.desc) (collRed c.desc) a b (s.rndSrc c.part (1024 + p))
  (r.1, (s.setRnd c.part (1024 + p) r.2.2).modRun c.part fun m => m.addFlags (r.2.1 % 64))

/-! ### The steps of a data collective -/

/-- Write what of a down-going message is this participant's output: its own part for REDUCE_SCATTER. -/
def State.collTakeDown (s : State) (c : Coll) (off : Nat) (l : List (Byte × Bool)) : State :=
  if collOp c.desc = 3 then
    let w := c.chunk c.rank
    let lo := max w.1 off
    let hi := min (w.1 + w.2) (off + l.length)
    if lo < hi then s.collOut c (lo - w.1) ((l.drop (lo - off)).take (hi - lo)) else s
  else s.collOut c off l

/-- Send a message down the tree. -/
def State.collDown (s : State) (c : Coll) (off : Nat) (l : List (Byte × Bool)) : State :=
  (c.children c.rank).foldl (fun s r => s.sendData c r 1 off l) s

/-- The tree's root has the whole result. -/
def State.collRootDone (s : State) (c : Coll) (off : Nat) (l : List (Byte × Bool)) : State :=
  if collOp c.desc = 0 then s.collOut c off l else (s.collTakeDown c off l).collDown c off l

/-- A whole message (step, first byte, bytes) of a collective arrives through port `p` (R205). -/
def State.collMsg (s : State) (c : Coll) (p step off : Nat) (l : List (Byte × Bool)) : State :=
  let n := c.n
  let next := (c.rank + 1) % n
  let op := collOp c.desc
  if c.ring then
    match op with
    | 1 | 3 =>
      if step < n - 1 then
        let own := s.collIn c off l.length
        let r := own.2.collCombine c p own.1 l
        if step + 2 < n then r.2.sendData c next (step + 1) off r.1
        else if op = 3 then r.2.collOut c 0 r.1
        else (r.2.collOut c off r.1).sendData c next (n - 1) off r.1
      else
        let s1 := s.collOut c off l
        if step + 1 < 2 * n - 2 then s1.sendData c next (step + 1) off l else s1
    | 2 =>
      let s1 := s.collOut c off l
      if step + 2 < n then s1.sendData c next (step + 1) off l else s1
    | 0 =>
      let own := s.collIn c off l.length
      let r := own.2.collCombine c p own.1 l
      if c.rank = collRoot c.desc then r.2.collOut c off r.1 else r.2.sendData c next (step + 1) off r.1
    | _ =>
      let s1 := s.collOut c off l
      if next = collRoot c.desc then s1 else s1.sendData c next (step + 1) off l
  else if step = 1 then (s.collTakeDown c off l).collDown c off l
  else if op = 2 then
    if c.pos c.rank = 0 then s.collRootDone c off l else s.sendData c (c.parent c.rank) 0 off l
  else
    let r := s.collCombine c p c.acc l
    let s1 := r.2.modColl c fun c => { c with acc := r.1, kids := c.kids + 1 }
    if c.kids + 1 < (c.children c.rank).length then s1
    else if c.pos c.rank = 0 then s1.collRootDone (s1.collNow c) 0 r.1
    else s1.sendData c (c.parent c.rank) 0 0 r.1

/-- First byte and length of the message that a step brings to this participant. -/
def Coll.expect (c : Coll) (step : Nat) : Nat × Nat :=
  let n := c.n
  let op := collOp c.desc
  let whole := (0, if op = 2 then n * collLen c.desc else collLen c.desc)
  if c.ring then
    match op with
    | 1 | 3 => c.chunk ((c.rank + 2 * n - 2 - step) % n)
    | 2 => c.chunk ((c.rank + 2 * n - 1 - step) % n)
    | _ => whole
  else whole

/-- Take a data packet's piece; when the message it belongs to is whole, the step runs.  Pieces of one message
are told apart by their place; an ALL_GATHER tree message is one rank's input. -/
def State.collPiece (s : State) (c : Coll) (p step from_ off : Nat) (l : List (Byte × Bool)) : State :=
  let len := collLen c.desc
  let e := c.expect step
  let base := if collOp c.desc = 2 then off / len * len else e.1
  let size := if collOp c.desc = 2 then len else e.2
  let key := (step * 2048 + from_) * 2048 + (if collOp c.desc = 2 then off / len else 0)
  let piece := l.take (base + size - off)
  let old := (Assoc.find c.msgs key).getD []
  let parts := if old.any (fun x => x.1 = off) then old else Assoc.put old off piece
  let got := (parts.map fun (x : Nat × List (Byte × Bool)) => x.2.length).sum
  if got < size then s.modColl c fun c => { c with msgs := Assoc.put c.msgs key parts }
  else
    let s1 := s.modColl c fun c => { c with msgs := Assoc.erase c.msgs key }
    s1.collMsg (s1.collNow c) p step base (parts.flatMap Prod.snd)

/-- What a participant sends when its step starts (R205, R207). -/
def State.collBegin (s : State) (c : Coll) : State :=
  let n := c.n
  let d := c.desc
  let op := collOp d
  let next := (c.rank + 1) % n
  match op with
  | 5 => if s.coordinator c = c.rank then s.collReady c c.rank false else s.sendCtl c (s.coordinator c) 0 0
  | 6 => s
  | _ =>
    if c.ring then
      match op with
      | 1 | 3 =>
        let w := c.chunk ((c.rank + n - 1) % n)
        let x := s.collIn c w.1 w.2
        x.2.sendData c next 0 w.1 x.1
      | 2 =>
        let x := s.collIn c 0 (collLen d)
        (x.2.collOut c (c.rank * collLen d) x.1).sendData c next 0 (c.rank * collLen d) x.1
      | 0 =>
        if c.rank = (collRoot d + 1) % n then
          let x := s.collIn c 0 (collLen d)
          x.2.sendData c next 0 0 x.1
        else s
      | _ =>
        if c.rank = collRoot d then
          let x := s.collIn c 0 (collLen d)
          (x.2.collOut c 0 x.1).sendData c next 0 0 x.1
        else s
    else if op = 4 then
      if c.pos c.rank = 0 then
        let x := s.collIn c 0 (collLen d)
        (x.2.collOut c 0 x.1).collDown c 0 x.1
      else s
    else
      let x := s.collIn c 0 (collLen d)
      if op = 2 then
        if c.pos c.rank = 0 then x.2.collRootDone c (c.rank * collLen d) x.1
        else x.2.sendData c (c.parent c.rank) 0 (c.rank * collLen d) x.1
      else if c.children c.rank = [] then
        if c.pos c.rank = 0 then x.2.collRootDone c 0 x.1 else x.2.sendData c (c.parent c.rank) 0 0 x.1
      else x.2.modColl c fun c => { c with acc := x.1 }

/-- Output bytes a participant must have written before READY. -/
def Coll.outBytes (c : Coll) : Nat :=
  match collOp c.desc with
  | 0 => if c.rank = collRoot c.desc then collLen c.desc else 0
  | 2 => c.n * collLen c.desc
  | 3 => (c.chunk c.rank).2
  | 1 | 4 => collLen c.desc
  | _ => 0

/-- Write part of output row `pos` of an ALL_TO_ALL. -/
def State.collOutRow (s : State) (c : Coll) (pos off : Nat) (l : List (Byte × Bool)) : State :=
  match s.destOf c.part c.desc.dst (pos * c.desc.dstStride.toNat + off) with
  | some q => (s.writeDest c.part (some c.run) false c.desc.flow.toNat q l).modColl c fun c =>
      { c with poison := c.poison || l.any Prod.snd }
  | none => s

/-- The rows of an ALL_TO_ALL (R207): row `i` goes to the rank and position its index entry names, with END after
the last; a rank of N or above skips its row and sets INDEX. -/
def State.allToAll (s : State) (c : Coll) : State :=
  let d := c.desc
  let rb := d.rowBytes.toNat
  let rowsN := min d.rows.toNat d.nindex.toNat
  let sent := (List.range rowsN).foldl (fun (r : State × List (Nat × Nat)) i =>
    let e := match r.1.destOf c.part d.index (4 * i) with
      | some q => leNat (((r.1.readLocal c.part q 4).1).map Prod.fst)
      | none => 0
    let dst := e % 2048
    let at_ := e / 2048
    if c.n ≤ dst then (r.1.modRun c.part fun m => m.note 0x22 (r.1.rd F.CLU_ID_LOGICAL c.cluster), r.2)
    else
      let x := r.1.collIn c (i * rb) rb
      let s1 := if dst = c.rank then x.2.collOutRow c at_ 0 x.1 else x.2.sendData c dst 0 (at_ * rb) x.1
      (s1, Assoc.put r.2 dst (Assoc.get 0 r.2 dst + 1))) (s, [])
  (s.others c).foldl (fun s r => s.sendCtl c r 4 (Assoc.get 0 sent.2 r)) sent.1

end Sys2Proof.Machine
end

