-- ==== Sys2Proof/Machine/Ending.lean ====
section
/-! DEFINITION.  How a partition's job ends (R96, R475 to R478), how loans end (R155), how a module is lost (R202),
and how a link goes down (R175, R200). -/

namespace Sys2Proof.Machine

/-! ### Ends of episodes and loans -/

/-- A relaxation episode ends (R59, R60): a notice record with the count of relaxed operations. -/
def State.relaxEnd (s : State) (n : Nat) : State :=
  let p := s.part n
  if p.relax then
    (s.modPart n fun p => { p with relax := false, relaxCount := 0 }).record 14 15 0x44 n 1
      [wd p.relaxCount, wd (p.relaxCount / 2 ^ 32)]
  else s

/-- What a LEND packet says (R152, R153): offer 0, request 1, grant 2, refusal 3, return 4; the argument in ADDR
(log entry 34). -/
def State.sendLend (s : State) (dst part kind arg : Nat) : State :=
  s.inject { s.blank 0x13 3 dst 0 part with tag := BitVec.ofNat 32 kind, addr := BitVec.ofNat 64 arg } none

/-- The loans of partition `n` end: each lender is told, and nothing is borrowed any more (R155). -/
def State.endLoans (s : State) (n : Nat) : State :=
  let s1 := (s.part n).loans.foldl (fun s l => s.sendLend l.lender n 4 l.slot) s
  (s1.modPart n fun p => { p with loans := [] }).setReg .MEM_PART_LEND n 0

/-! ### The end of a job (R96) -/

/-- Whether a command is a FENCE or a MARK. -/
def Cmd.isFence (c : Cmd) : Bool := c.opc = 4 || c.opc = 6

/-- End the running commands of a partition with a status: each is ready for its record (R475, R478).  A JOB_CLOSE that
has started still closes the job. -/
def State.endRunning (s : State) (n status origin : Nat) : State :=
  { s with cmds := s.cmds.map fun c =>
      if c.ring / 4 = n ∧ c.phase ≠ .ready ∧ c.isFence = false ∧ c.opc ≠ 7 then { c.note status origin with phase := .ready } else c }

/-- Abandon the partition's pattern: units stop, descriptors in flight are dropped; packets that have left a bobbin
stay with their flow class (R478), and the accesses of hosts and LOADs go on. -/
def State.abandon (s : State) (n : Nat) : State :=
  let ids := (s.fab.descs.filter fun d => d.part = n && d.unit < hostUnit).map DescRun.id
  let gone := fun (d : Option Nat) => match d with
    | some i => ids.elem i
    | none => false
  let s1 := { s with fab := { s.fab with
    descs := s.fab.descs.filter fun d => !(ids.elem d.id)
    gets := s.fab.gets.filter fun g => !(gone g.desc)
    tx := s.fab.tx.map fun (e : Nat × TxFlow) => (e.1, { e.2 with waiting := e.2.waiting.filter fun w => !(gone w.2) }) } }
  (s1.stopPattern n).modPart n fun p => { p with run := none, held := [] }

/-- Every collective the partition takes part in is ended under R206. -/
def State.endColls (s : State) (n : Nat) : State :=
  (s.fab.colls.filter fun c => c.part = n && c.done.isNone).foldl (fun s c =>
    let s1 := s.collAbort c
    if (s1.collNow c).done.isNone then s1.collOver c false else s1) s

/-- The job whose beacons feed the repetitive controller ends (R302): lock is lost and REP_LOCK raised. -/
def State.loseRep (s : State) (n : Nat) : State :=
  if s.rd F.CLE_REP_SRC_PART = n then
    let s1 := { s with beats := [] }
    if s1.flag F.CLE_REP_STAT_LOCK then (s1.wr F.CLE_REP_STAT_LOCK 0 0).raise F.CLE_CAUSE_REP_LOCK else s1
  else s

/-- A partition in JOB goes to ENDED: its running commands end with the status, its collectives are aborted, its
loans and its relaxation episode end, held signals are dropped (R96, R114, R475). -/
def State.jobEnd (s : State) (n status origin : Nat) : State :=
  if s.pstate n = 2 then
    let s1 := ((s.endRunning n status origin).endColls n).abandon n
    (((s1.endLoans n).relaxEnd n).loseRep n).wr F.ETH_PART_STATE_STATE n 3
  else s

/-- End the jobs of every partition. -/
def State.jobEndAll (s : State) (status origin : Nat) : State :=
  (List.range 16).foldl (fun s n => s.jobEnd n status origin) s

/-! ### Loans given (R155) -/

/-- The lender ends a loan: its frames are zero-filled, and freed when every stack has done so. -/
def State.endLoanOut (s : State) (l : LoanOut) : State :=
  if s.zfills.any fun z => z.loan && z.owner = l.slot then s
  else
    let live := (stacksOf l.mask).filter fun k => s.rd F.MEM_STATE_STATE k ≠ stFailed
    if live = [] then
      ({ s with loansOut := s.loansOut.erase l }).wr F.MEM_LEND_OUT_FRAMES 0
        (s.rd F.MEM_LEND_OUT_FRAMES - l.frames * (stacksOf l.mask).length)
    else s.zeroFill l.mask l.base l.frames true l.slot

/-! ### Floods (R200 to R202) -/

/-- TAG of a NOTICE (log entry 35): kind 0 FAULT, 1 SUSPECT, 2 ALIVE, 3 LOST; module, port and link, link 8 for the whole
port. -/
def noticeTag (kind m p l : Nat) : Nat := kind % 4 + m % 4096 * 4 + p % 32 * 2 ^ 14 + l % 16 * 2 ^ 19

/-- The neighbours of the links that carry, each once. -/
def State.neighbours (s : State) : List Nat :=
  (((List.range 144).filter fun j => s.lkCarries j).map fun j => s.rd F.FAB_LINK_PEER_MODULE j).eraseDups

/-- Send a management packet to every neighbour, in the management flow class to it (R191, R193, R200). -/
def State.flood (s : State) (typ tag : Nat) : State :=
  s.neighbours.foldl (fun s m => s.inject { s.blank typ 3 m 0 0 with tag := BitVec.ofNat 32 tag } none) s

/-- Whether a notice was flooded before: the same within the 25 µs of a failover; later it is a new one (R199,
R203; log entry 68). -/
def State.noticed (s : State) (t : Nat) : Bool := s.fab.seenNotice.any fun x => x.1 = t && s.up ≤ x.2 + 25000

/-- Flood a NOTICE once. -/
def State.notice (s : State) (kind m p l : Nat) : State :=
  let t := noticeTag kind m p l
  if s.noticed t then s
  else ({ s with fab := { s.fab with seenNotice := (t, s.up) :: s.fab.seenNotice.filter fun x => s.up ≤ x.2 + 25000 } }).flood 0x10 t

/-! ### A module is lost (R202) -/

/-- Drop everything that waits for a module: unacknowledged and waiting packets end their descriptors with
PEER_LOST, and its unanswered GETs settle. -/
def State.dropFlows (s : State) (m : Nat) : State :=
  (List.range 4).foldl (fun s c =>
    let k := flowKey m c
    let f := s.txFlow k
    let s1 := s.setTx k { f with unacked := [], waiting := [] }
    let tags := (f.unacked.filter fun u => u.pkt.typ = 2).map fun u => u.pkt.tag.toNat
    let s2 := { s1 with fab := { s1.fab with gets := s1.fab.gets.filter fun g => !(tags.elem g.tag) } }
    let ds := (f.unacked.map Unacked.desc ++ f.waiting.map Prod.snd)
    ds.foldl (fun s d => match d with
      | some i => ((s.failDesc (some i) 0x32 m).settle (some i) 1).tryEnd i
      | none => s) s2) s

/-- A collective that names a lost module (R206): the coordinator decides, with COMMIT again where it has sent one, or, when
rank 0 was lost, asks every survivor first. -/
def State.collLost (s : State) (c : Coll) : State := if s.coordinator c = c.rank then s.collSettle c else s

/-- A module is declared lost: LOST is set, MODULE_LOST raised with a warning record, its flows end, partitions
whose peer set or loans hold it end with PEER_LOST, and loans to it end (R202, R155). -/
def State.loseModule (s : State) (m : Nat) : State :=
  if s.fab.lost.elem m then s
  else
    let s1 := ({ s with fab := { s.fab with lost := m :: s.fab.lost, suspects := s.fab.suspects.erase m } }).raise
      F.FAB_TR_CAUSE_MODULE_LOST 0 2 [wd m]
    let s2 := s1.dropFlows m
    let s3 := (s2.fab.colls.filter fun c => (c.done.isNone || c.sentCommit) && (c.group.any fun e => e % 4096 = m)).foldl State.collLost s2
    let mask := Assoc.get 0 s3.fab.peerSets m
    let s4 := ((List.range 16).filter fun n => mask.testBit n || (s3.part n).loans.any fun l => l.lender = m).foldl
      (fun s n => s.jobEnd n 0x32 m) s3
    (s4.loansOut.filter fun l => l.module = m).foldl State.endLoanOut s4

/-! ### A link goes down (R175, R200) -/

/-- Routing entries with a valid path over a link. -/
def State.entriesVia (s : State) (j : Nat) : List Nat :=
  (s.regs.filterMap fun (e : Nat × Word) => if e.1 % 1024 = Reg.FAB_ROUTE_HI.ctorIdx then some (e.1 / 1024) else none).filter
    fun ix => (List.range 5).any fun i => s.entryValid ix i && s.entryLink ix i = j

/-- Set STALE on every entry of both banks that names a link (R200). -/
def State.markStale (s : State) (j : Nat) : State :=
  (s.entriesVia j).foldl (fun s ix => s.wr F.FAB_ROUTE_HI_STALE ix 1) s

/-- Send handed-back packets on again, whole, with RETX (R200).  They are in the queues of their new links, ahead of every
packet not yet sent, before another command can inject: the fences of R200 rise and lift within the command. -/
def State.resendHeld (s : State) (l : List Packet) : State :=
  l.foldl (fun s p =>
    let q := { p with retx := true }
    let own := p.srcMod.toNat = s.myId
    match (if own then s.sourcePath q (if q.epoch then 1 else 0) else s.hopPath q) with
    | some (j, r) => (if own then s.count F.FAB_TR_RETX_CNT_VALUE 0 else s).enqueue j { q with route := BitVec.ofNat 2 r } false
    | none => if own then s.pathless q else s.dropPacket.raise F.FAB_TR_CAUSE_NO_ROUTE 0 0 [wd p.dstMod.toNat]) s

/-- Whether another link still carries to a neighbour. -/
def State.reachesBy (s : State) (m j : Nat) : Bool :=
  (List.range 144).any fun i => i ≠ j && s.lkCarries i && s.rd F.FAB_LINK_PEER_MODULE i = m

/-- The fault's bookkeeping of R200: FAULT is raised, the stall measure of every flow class starts (R199), and a shadow not
yet switched to is built again: READY given before it counts no more (R192). -/
def State.faultSeen (s : State) : State :=
  ((({ s with fab := { s.fab with faultAt := some s.up, stalled := s.fab.rx.map Prod.fst, readyMods := [] } }).wr
    F.FAB_TR_LAST_STALL_VALUE 0 0).wr F.FAB_RT_CTL_SHADOW_READY 0 0).raise F.FAB_TR_CAUSE_FAULT

/-- A link stops as planned: its packets are sent another way, and no fault is raised (R178). -/
def State.linkStop (s : State) (j st : Nat) : State :=
  let held := (s.link j).held
  (s.clearLink j st).resendHeld held

/-- Send DOWN on any lane still able to carry it (R175). -/
def State.sendDown (s : State) (j : Nat) (moduleStops : Bool) : State :=
  if s.activeLanes j = [] then s else s.ctrlNow j (.down moduleStops)

/-- A link fault is declared (R175): DOWN is sent, LINK_DOWN raised with a warning record, the link's entries turn STALE, and
its packets are sent on again. -/
def State.linkLoss (s : State) (j : Nat) : State :=
  let held := (s.link j).held
  let s1 := ((s.sendDown j false).clearLink j lkDown).modLink j fun l => { l with faulted := true }
  let s2 := ((s1.count F.FAB_LINK_DOWN_CNT_COUNT j).raisePort F.FAB_PORT_CAUSE_LINK_DOWN j 2).markStale j
  s2.faultSeen.resendHeld held

/-- A neighbour whose last link failed is suspected, or lost at once when it said that it stops (R201). -/
def State.peerGone (s : State) (m j : Nat) (moduleStops : Bool) : State :=
  if moduleStops then (s.notice 3 m 0 0).loseModule m
  else if s.reachesBy m j then s
  else (({ s with fab := { s.fab with suspects := if s.fab.suspects.elem m then s.fab.suspects else m :: s.fab.suspects } }).notice 1 m 0 0)

/-- A link fault, with its notice (R175, R200, R201). -/
def State.linkFault (s : State) (j : Nat) (moduleStops : Bool) : State :=
  if s.lkState j = lkDown || s.lkState j = lkDisabled then s
  else
    let m := s.rd F.FAB_LINK_PEER_MODULE j
    let had := s.flag F.FAB_LINK_PEER_VALID j
    let s1 := (s.linkLoss j).notice 0 s.myId (j / 8) (j % 8)
    if had then s1.peerGone m j moduleStops else s1

/-- A port fault: the faults of its links in one notice (R200). -/
def State.portFault (s : State) (p : Nat) : State :=
  let js := ((List.range 8).map fun k => 8 * p + k).filter fun j => s.lkState j ≠ lkDown && s.lkState j ≠ lkDisabled
  if js = [] then s
  else
    let ms := (js.filter fun j => s.flag F.FAB_LINK_PEER_VALID j).map fun j => (s.rd F.FAB_LINK_PEER_MODULE j, j)
    let s1 := (js.foldl State.linkLoss s).notice 0 s.myId p 8
    ms.foldl (fun s (x : Nat × Nat) => s.peerGone x.1 x.2 false) s1

/-- The fabric stops (R201): DOWN with reason MODULE goes out on every link, and the links are down. -/
def State.stopFabric (s : State) : State :=
  ((List.range 144).filter fun j => s.lkState j ≠ lkDown && s.lkState j ≠ lkDisabled).foldl (fun s j =>
    (s.sendDown j true).clearLink j lkDown) s

end Sys2Proof.Machine
end

