-- ==== Sys2Proof/Machine/Transport.lean ====
section
/-! DEFINITION.  The commands of fabric transport (R181 to R210) and of lending between modules (R152 to R155):
packets that arrive, timers, notices, epochs and the system's shape. -/

namespace Sys2Proof.Machine

/-! ### Taking a packet in -/

/-- A packet leaves the list of packets received, and its flits the receive buffer of its link (R170). -/
def State.unbox (s : State) (j : Nat) (p : Packet) : State :=
  let s1 := { s with fab := { s.fab with inbox := s.fab.inbox.erase (j, p) } }
  if j < 144 && s.fab.inbox.elem (j, p) then s1.modLink j fun l => l.giveBack (classVc p.cls.toNat) p.flits else s1

/-- Whether a packet comes by a bank that is no longer held (R191). -/
def State.oldEpoch (s : State) (p : Packet) : Bool :=
  !(s.flag F.FAB_RT_CTL_DRAINING) && (if p.epoch then 1 else 0) ≠ s.liveBank

/-- Discard a packet that carries the old EPOCH bit after the drain (R191). -/
def State.epochDrop (s : State) : State := s.dropPacket.raise F.FAB_TR_CAUSE_EPOCH_DROP

/-- With a duplicate ID a module carries management packets only (R182). -/
def State.carriesIn (s : State) (p : Packet) : Bool := p.cls = 3 || !s.fab.dupId

/-- A sequenced packet for this module (R193): duplicates are discarded, the others delivered in their class's
order by `f`; an ACK is sent at every 64th packet. -/
def State.recvSeq (s : State) (j : Nat) (p : Packet) (f : Packet → State → State) : State :=
  let s1 := s.unbox j p
  if s1.oldEpoch p then s1.epochDrop
  else if !(s1.carriesIn p) then s1.dropPacket
  else
    let k := flowKey p.srcMod.toNat p.cls.toNat
    let old := s1.rxFlow k
    let r := old.take p
    let s2 := if r.2 = [] && !(r.1.ahead.elem p) then s1.dropPacket else s1
    let s3 := if p.psn.toNat = old.next then s2.noteStall k p else s2
    (r.2.foldl (fun s q => f q s) (s3.setRx k r.1)).ackDue k

/-- Whether a packet of a type is addressed to this module. -/
def State.mine (s : State) (p : Packet) (typ : Nat) : Bool := p.typ.toNat = typ && p.dstMod.toNat = s.myId

/-- Answer a packet with REFUSE (R186, R257): the refused master and the target in TAG, the refused PSN in PSN. -/
def State.refuse (s : State) (p : Packet) (target kind addr : Nat) : State :=
  let m := 0x70 + p.dstPart.toNat
  let r := { s.blank 0x05 p.cls.toNat p.srcMod.toNat p.srcPart.toNat p.dstPart.toNat with
    psn := p.psn, tag := BitVec.ofNat 32 (accessOrigin m target) }
  (s.reject m target kind addr).sendLoose r

/-- What a peer's access names: bytes of the partition's memory, of a store, of a loan, or a refused target. -/
inductive PeerAim where
  | part (n o : Nat)
  | store (p a : Nat)
  | loan (l : LoanOut) (off : Nat)
  | refused (target : Nat)
  deriving DecidableEq, Repr

/-- Local size of a loan given, in bytes. -/
def LoanOut.size (l : LoanOut) : Nat := (stacksOf l.mask).length * l.frames * 65536

/-- Where a packet's access of `len` bytes goes (R257 to R260, R154); `rd` says that it reads. -/
def State.aim (s : State) (p : Packet) (len : Nat) (rd : Bool) : PeerAim :=
  let a := p.addr.toNat
  let n := p.dstPart.toNat
  let off := a % 2 ^ 40
  if 2 ^ 63 ≤ a then
    match s.loansOut.find? fun l => l.slot = bitsOf a 48 5 && l.module = p.srcMod.toNat && l.part = p.srcPart.toNat with
    | some l => if off + len ≤ l.size then .loan l off else .refused noTarget
    | none => .refused noTarget
  else if p.space then
    let sa := a % 2 ^ 26
    match s.slotPhys n (bitsOf a 32 6) with
    | some q =>
      if s.pstate n ≠ 0 && s.pstate n ≠ 4 && s.admits n p.srcMod.toNat p.srcPart.toNat && sa + len ≤ patTop then .store q sa
      else .refused (0x10 + q)
    | none => .refused noTarget
  else if s.pstate n ≠ 0 && s.pstate n ≠ 4 && s.admits n p.srcMod.toNat p.srcPart.toNat && s.inLocal n off len &&
      !(rd && s.sealed n off len) then .part n off
  else .refused (s.memTarget n off)

/-- The lines of a packet with their poison marks, at their offsets. -/
def pktLines (p : Packet) : List (Nat × List Byte × Bool) :=
  (List.range (p.data.length / 64)).map fun i => (64 * i, (p.data.drop (64 * i)).take 64, p.pmask.getLsbD i)

/-- A PUT is written where it aims, poison with its mark, or refused (R194, R196, R257). -/
def State.putData (s : State) (p : Packet) : State :=
  match s.aim p p.data.length false with
  | .refused t => s.refuse p t kWrite (p.addr.toNat % 2 ^ 40)
  | .part n o =>
    (pktLines p).foldl (fun s x => s.partWrite n (o + x.1) x.2.1 x.2.2) (s.addPeer n p.srcMod.toNat)
  | .store q a =>
    (pktLines p).foldl (fun s x => s.storeWrite q (a + x.1) x.2.1 x.2.2) (s.addPeer p.dstPart.toNat p.srcMod.toNat)
  | .loan l o =>
    (pktLines p).foldl (fun s x =>
      let y := landOn (stacksOf l.mask) l.base (o + x.1)
      if s.rd F.MEM_STATE_STATE y.1 = stFailed then s else s.memWriteLine y.1 y.2 (x.2.1.map some) x.2.2) s

/-- Bytes a GET reads, with their marks. -/
def State.getData (s : State) (g : PeerAim) (len : Nat) : List (Byte × Bool) :=
  match g with
  | .part n o => ((s.partRead n o len).1).zipIdx.map fun (x : Byte × Nat) =>
      (x.1, let y := s.land n (o + x.2); s.badLine y.1 y.2)
  | .store q a => (s.storeRead q a len).zipIdx.map fun (x : Byte × Nat) => (x.1, s.linePoison q (a + x.2))
  | .loan l o => (List.range len).map fun i =>
      let y := landOn (stacksOf l.mask) l.base (o + i)
      (s.memByte y.1 y.2, s.badLine y.1 y.2)
  | .refused _ => []

/-- A GET_REQ is answered with GET_RESP, or refused (R186, R196). -/
def State.getAnswer (s : State) (p : Packet) : State :=
  let len := 64 * (p.lines.toNat % 8)
  let g := s.aim p len true
  match g with
  | .refused t => s.refuse p t kRead (p.addr.toNat % 2 ^ 40)
  | _ =>
    let s1 := match g with
      | .loan _ _ => s
      | _ => s.addPeer p.dstPart.toNat p.srcMod.toNat
    s1.inject (withData { s1.blank 0x03 1 p.srcMod.toNat p.srcPart.toNat p.dstPart.toNat with
      unit := p.unit, flow := p.flow, tag := p.tag, addr := p.addr } (s1.getData g len)) none

/-- A kept packet is acknowledged. -/
def State.release (s : State) (k : Nat) (f : Unacked → Bool) : State :=
  let fl := s.txFlow k
  let gone := fl.unacked.filter f
  let s1 := s.setTx k { fl with unacked := fl.unacked.filter fun u => !(f u) }
  let s2 := gone.foldl (fun s u => if u.pkt.typ = 2 then s else
    match u.desc with
    | some i => (s.settle (some i) 1).tryEnd i
    | none => s) s1
  (s2.pump k fl.waiting.length).collCheckAll

/-- GET_RESP data reach their destination (R196); poison marks the command. -/
def State.getTake (s : State) (p : Packet) : State :=
  match s.fab.gets.find? fun g => g.tag = p.tag.toNat with
  | none => s
  | some g =>
    let l := ((pktLines p).flatMap fun x => x.2.1.map fun b => (b, x.2.2 || g.bad)).take (64 * g.lines)
    let d := g.desc.bind fun i => s.fab.descs.find? fun d => d.id = i
    let s1 := { s with fab := { s.fab with gets := s.fab.gets.erase g } }
    let s2 := s1.writeDest g.part g.desc ((d.map fun d => d.desc.ord).getD false) p.flow.toNat g.dst l
    let s3 := match d with
      | some d => if hostUnit ≤ d.unit then s2 else s2.notePart g.part (s2.rd F.CLU_ID_LOGICAL (d.unit / 32)) (anyPoison l)
      | none => s2
    let s4 := match g.desc with
      | some i => (s3.settle (some i) 1).tryEnd i
      | none => s3
    s4.release (flowKey p.srcMod.toNat 1) fun u => u.pkt.typ = 2 && u.pkt.tag = p.tag

/-- PUT (R186, R193, R194): a write from a peer. -/
def execPut (j : Fin 145) (p : Packet) (s : State) : Out :=
  if s.mine p 0x01 then .next (s.recvSeq j p fun q s => s.putData q) else .next s

/-- GET_REQ (R186): a read by a peer; `h` are the stack errors it met. -/
def execGetReq (j : Fin 145) (p : Packet) (h : List StackHit) (s : State) : Out :=
  if s.mine p 0x02 then .next (s.recvSeq j p fun q s => (s.stackHits h).getAnswer q) else .next s

/-- GET_RESP (R194, R196): read data return, and acknowledge their GET_REQ. -/
def execGetResp (j : Fin 145) (p : Packet) (s : State) : Out :=
  if s.mine p 0x03 then .next (s.recvSeq j p fun q s => s.getTake q) else .next s

/-- ACK (R186, R193): every kept packet of the class up to PSN is released, and waiting ones are sent. -/
def execAck (j : Fin 145) (p : Packet) (s : State) : Out :=
  if s.mine p 0x04 then
    let s := s.unbox j p
    if s.oldEpoch p then .next s.epochDrop
    else if !(s.carriesIn p) then .next s.dropPacket
    else .next (s.release (flowKey p.srcMod.toNat (p.tag.toNat % 4)) fun u =>
      (p.psn.toNat + 65536 - u.pkt.psn.toNat) % 65536 < 32768)
  else .next s

/-- REFUSE (R198): the refused packet is settled and its descriptor ends with ACCESS. -/
def execRefuse (j : Fin 145) (p : Packet) (s : State) : Out :=
  if s.mine p 0x05 then
    let s := s.unbox j p
    let k := flowKey p.srcMod.toNat p.cls.toNat
    if s.oldEpoch p then .next s.epochDrop
    else if !(s.carriesIn p) then .next s.dropPacket
    else match (s.txFlow k).unacked.find? fun u => u.pkt.psn = p.psn with
    | none => .next s
    | some u =>
      let s1 := (s.failDesc u.desc 0x24 p.tag.toNat).forget k u
      .next ((s1.pump k (s1.txFlow k).waiting.length).collCheckAll)
  else .next s

/-- PACKET_FORWARD (R188, R189, R191): a packet for another module takes its next hop, or is discarded. -/
def execPacketForward (j : Fin 144) (p : Packet) (s : State) : Out :=
  if p.dstMod.toNat = s.myId then .next s
  else
    let s1 := s.unbox j p
    if s1.oldEpoch p then .next s1.epochDrop
    else if p.cls ≠ 3 ∧ s1.fab.dupId then .next s1.dropPacket
    else
      let h := p.hops.toNat - 1
      if h = 0 then .next (s1.dropPacket.raise F.FAB_TR_CAUSE_HOP_DROP)
      else
        let q := { p with hops := BitVec.ofNat 6 h }
        match s1.hopPath q with
        | some (i, r) => .next (s1.enqueue i { q with route := BitVec.ofNat 2 r } (entersRing j i))
        | none => .next (s1.dropPacket.raise F.FAB_TR_CAUSE_NO_ROUTE 0 0 [wd p.dstMod.toNat])

/-- ACK_TIMER (R194): an ACK for each flow class with packets not yet acknowledged. -/
def execAckTimer (s : State) : Out :=
  .next ((s.fab.rx.filter fun (e : Nat × RxFlow) => 0 < e.2.since).foldl (fun s (e : Nat × RxFlow) => s.sendAck e.1) s)

/-- E2E_TIMEOUT (R197, R198): a kept packet is sent again; after eight copies its descriptor ends with PEER_LOST. -/
def execE2eTimeout (m : BitVec 12) (cls : BitVec 2) (psn : BitVec 16) (s : State) : Out :=
  let k := flowKey m.toNat cls.toNat
  match (s.txFlow k).unacked.find? fun u => u.pkt.psn = psn with
  | none => .next s
  | some u =>
    if u.tries < 8 then .next (s.resend k u)
    else
      let s1 := s.giveUp k u
      .next (s1.pump k (s1.txFlow k).waiting.length)

/-! ### Collectives -/

/-- The active collective a packet names. -/
def State.collOf (s : State) (p : Packet) : Option Coll :=
  s.fab.colls.find? fun c => c.part = p.dstPart.toNat && c.id = p.tag.toNat % 64 && c.done.isNone

/-- The collective a message from a survivor is for while its step is not over, or while its answers to QUERY are awaited at a
later rank that has taken the coordinator's part (R206). -/
def State.collOpen (s : State) (p : Packet) : Option Coll :=
  match s.collOf p with
  | some c => some c
  | none => (s.fab.colls.filter fun c => c.part = p.dstPart.toNat && c.id = p.tag.toNat % 64 && c.rank ≠ 0 && s.coordinator c = c.rank).getLast?

/-- The latest collective a packet names, over or not. -/
def State.collAny (s : State) (p : Packet) : Option Coll :=
  (s.fab.colls.filter fun c => c.part = p.dstPart.toNat && c.id = p.tag.toNat % 64).getLast?

/-- Sender's rank in TAG. -/
def tagRank (p : Packet) : Nat := bitsOf p.tag.toNat 6 11

/-- Whether a packet of a collective may enter its partition (R257): it comes from the partition itself, or an entry of the
partition's admit table passes its source. -/
def State.collAdmits (s : State) (p : Packet) : Bool :=
  (p.srcMod.toNat = s.myId && p.srcPart = p.dstPart) || s.admits p.dstPart.toNat p.srcMod.toNat p.srcPart.toNat

/-- Whether the sender of a packet is the participant its rank names (R204). -/
def Coll.sentBy (c : Coll) (p : Packet) : Bool :=
  tagRank p < c.n && c.mod (tagRank p) = p.srcMod.toNat && c.prt (tagRank p) = p.srcPart.toNat

/-- Take a packet of a collective in: one of a source the partition does not admit is refused (R257); one whose sender is not
the participant its rank names shows lists that differ, and ABORT follows (R204). -/
def State.collRecv (s : State) (j : Nat) (p : Packet) (find : State → Packet → Option Coll) (f : Coll → Packet → State → State) : State :=
  s.recvSeq j p fun q s =>
    if !(s.collAdmits q) then s.refuse q noTarget kWrite (q.addr.toNat % 2 ^ 40)
    else match find s q with
      | none => s
      | some c => if c.sentBy q then f c q s else if c.done.isNone then s.collAbort c else s

/-- COLL_DATA (R205, R207): data for a reduction unit at a port.  Before the local step has started the packet
waits at the port.  A BARRIER moves no data: data for one is a mismatch (R204; messages carry no OP, FMT or list, log entry 88). -/
def execCollData (j : Fin 145) (p : Packet) (s : State) : Out :=
  if s.mine p 0x08 then
    if (s.collOf p).isNone && s.collAdmits p then .next s
    else .next (s.collRecv j p State.collOf fun c q s =>
      let l := (pktLines q).flatMap fun x => x.2.1.map fun b => (b, x.2.2)
      let off := q.addr.toNat % 2 ^ 40
      let s1 := s.addPeer c.part q.srcMod.toNat
      if collOp c.desc = 5 then s1.collAbort c
      else if collOp c.desc = 6 then
        let rb := c.desc.rowBytes.toNat
        let s2 := s1.collOutRow c (off / rb) (off % rb) l
        let got := Assoc.get 0 c.rowsIn (tagRank q) + q.data.length / 64
        (s2.modColl c fun c => { c with rowsIn := Assoc.put c.rowsIn (tagRank q) got }).collCheck c
      else (s1.collPiece c (j.val / 8) (bitsOf q.tag.toNat 17 15) (tagRank q) off l).collCheck c)
  else .next s

/-- A control message of a collective, taken by `f` (R206, R207).  ARRIVE, READY and END belong to a step that is not over,
and wait where it has not started; COMMIT, ABORT and QUERY find one that is over too. -/
def ctlRecv (j : Fin 145) (p : Packet) (kind : Nat) (f : Coll → Packet → State → State) (s : State) : Out :=
  let early := kind = 0 || kind = 1 || kind = 4
  let find := fun (s : State) (p : Packet) => if early then s.collOpen p else s.collAny p
  if s.mine p 0x09 && bitsOf p.tag.toNat 17 3 = kind then
    if (find s p).isNone && s.collAdmits p then .next s else .next (s.collRecv j p find f)
  else .next s

/-- ARRIVE (R207): the barrier's READY. -/
def execArrive (j : Fin 145) (p : Packet) (s : State) : Out :=
  ctlRecv j p 0 (fun c q s => if s.coordinator c = c.rank && c.done.isNone then s.collReady c (tagRank q) false else s) s

/-- READY (R205, R206): a participant's output is written, with or without poison; from a survivor asked by QUERY it also says
that it holds no COMMIT. -/
def execReady (j : Fin 145) (p : Packet) (s : State) : Out :=
  ctlRecv j p 1 (fun c q s =>
    if s.coordinator c ≠ c.rank then s
    else if c.rank = 0 then (if c.done.isNone then s.collReady c (tagRank q) (q.addr.getLsbD 0) else s)
    else
      let b := (c.answers.filter fun x => x.1 ≠ tagRank q) ++ [(tagRank q, false)]
      let s1 := s.modColl c (fun c => { c with answers := b })
      if (s.others c).all fun r => b.any fun x => x.1 = r then s1.collDecide (s1.collNow c) else s1) s

/-- COMMIT (R205, R206): the step completes OK, or with POISON where a participant met it; an answer to QUERY that holds a
COMMIT makes the asking rank commit. -/
def execCommit (j : Fin 145) (p : Packet) (s : State) : Out :=
  ctlRecv j p 2 (fun c q s =>
    let s1 := s.modColl c fun c => { c with sentCommit := true, poison := c.poison || q.addr.getLsbD 0 }
    if s.coordinator c = c.rank && c.rank ≠ 0 then s1.collDecide (s1.collNow c)
    else if c.done.isNone then s1.collOver (s1.collNow c) true
    else s) s

/-- ABORT (R206): at the coordinator the decision of rank 0; at another rank the step completes with COLLECTIVE. -/
def execAbort (j : Fin 145) (p : Packet) (s : State) : Out :=
  ctlRecv j p 3 (fun c _ s =>
    if s.coordinator c = c.rank then s.collSettle c
    else if c.done.isNone then s.collOver c false else s) s

/-- COLL_END (R207): a participant's count of rows sent here. -/
def execCollEnd (j : Fin 145) (p : Packet) (s : State) : Out :=
  ctlRecv j p 4 (fun c q s =>
    (s.modColl c fun c => { c with ends := Assoc.put c.ends (tagRank q) (q.addr.toNat) }).collCheck c) s

/-- QUERY (R206): the answer is COMMIT where this participant holds one, else READY. -/
def execQuery (j : Fin 145) (p : Packet) (s : State) : Out :=
  ctlRecv j p 5 (fun c q s => s.sendCtl c (tagRank q) (if c.done = some true then 2 else 1) c.mark) s

/-! ### Notices (R200 to R202) -/

/-- Kept packets unacknowledged for more than 4 µs are sent again (R197). -/
def State.resendOld (s : State) : State :=
  s.fab.tx.foldl (fun s (e : Nat × TxFlow) =>
    (e.2.unacked.filter fun u => u.at_ + 4000 < s.up).foldl (fun s u => s.resend e.1 u) s) s

/-- A fault at (module, port, link) noticed (R200): this end of that link goes STALE, packets older than 4 µs are sent again,
and the notice is flooded on.  Link 8 is every link of the port. -/
def State.noteFault (s : State) (m p l : Nat) : State :=
  if s.noticed (noticeTag 0 m p l) then s
  else
    let here := (List.range 144).filter fun j => s.flag F.FAB_LINK_PEER_VALID j && s.rd F.FAB_LINK_PEER_MODULE j = m &&
      s.rd F.FAB_LINK_PEER_PORT j = p && (l = 8 || s.rd F.FAB_LINK_PEER_LINK j = l)
    ((here.foldl State.markStale s.faultSeen).resendOld).notice 0 m p l

/-- NOTICE_FAULT (R193, R200). -/
def execNoticeFault (x : Note) (m : BitVec 12) (p : Fin 18) (l : Fin 9) (s : State) : Out :=
  .next (s.recvNote x fun s => s.noteFault m.toNat p l)

/-- NOTICE_SUSPECT (R201): a suspected module that is this one floods ALIVE; another is flooded on. -/
def execNoticeSuspect (x : Note) (m : BitVec 12) (s : State) : Out :=
  .next (s.recvNote x fun s =>
    if m.toNat = s.myId then (s.notice 1 m.toNat 0 0).notice 2 m.toNat 0 0 else s.notice 1 m.toNat 0 0)

/-- NOTICE_ALIVE (R201, R203): the suspicion ends; after LOST it is ignored. -/
def execNoticeAlive (x : Note) (m : BitVec 12) (s : State) : Out :=
  .next (s.recvNote x fun s =>
    if s.fab.lost.elem m.toNat then s
    else ({ s with fab := { s.fab with suspects := s.fab.suspects.erase m.toNat } }).notice 2 m.toNat 0 0)

/-- NOTICE_LOST (R202): the module is lost, and the notice flooded on. -/
def execNoticeLost (x : Note) (m : BitVec 12) (s : State) : Out :=
  .next (s.recvNote x fun s => (s.notice 3 m.toNat 0 0).loseModule m.toNat)

/-- SUSPECT_TIMEOUT (R201): no ALIVE within 6 µs: the module that sent SUSPECT floods LOST. -/
def execSuspectTimeout (m : BitVec 12) (s : State) : Out :=
  if s.fab.suspects.elem m.toNat then .next ((s.notice 3 m.toNat 0 0).loseModule m.toNat) else .next s

/-! ### The system's shape and routing epochs (R182, R190, R191) -/

/-- Bank that firmware may write. -/
def State.shadowBank (s : State) : Nat := 1 - s.liveBank

/-- The neighbours a module has by the links it said are up. -/
def State.topoNext (s : State) (m : Nat) : List Nat :=
  s.fab.topo.filterMap fun (e : Nat × Nat) => if e.1 / 144 = m && e.2 ≠ 0 then some (e.2 - 1) else none

/-- The modules reached from a list over the links known; `fuel` bounds the hops. -/
def State.reach (s : State) (l : List Nat) : Nat → List Nat
  | 0 => l
  | fuel + 1 =>
    let new := ((l.flatMap s.topoNext).filter fun m => !(l.elem m)).eraseDups
    if new = [] then l else State.reach s (l ++ new) fuel

/-- The other modules of the system: those the links known lead to (R181, R182). -/
def State.reachable (s : State) : List Nat := (s.reach s.neighbours (s.fab.mods.length + 1)).filter fun m => m ≠ s.myId

/-- Modules of the system known to share this module's peloton, itself included. -/
def State.pelotonCount (s : State) : Nat :=
  (s.reachable.filter fun m => match Assoc.find s.fab.mods m with
    | some t => t.peloton = s.rd F.FAB_TR_ID_PELOTON
    | none => false).length + 1

/-- Whether the peloton is over its size: collectives, barriers and lending are refused (R182). -/
def State.pelotonBig (s : State) : Bool := 2048 < s.pelotonCount

/-- Whether a module is of this module's peloton. -/
def State.inPeloton (s : State) (m : Nat) : Bool :=
  m = s.myId || (match Assoc.find s.fab.mods m with
    | some t => t.peloton = s.rd F.FAB_TR_ID_PELOTON
    | none => false)

/-- The epoch source: the reachable module with the lowest ID that may be one (R191). -/
def State.epochSource (s : State) : Option Nat :=
  let l := (s.reachable.filter fun m => match Assoc.find s.fab.mods m with
      | some t => t.srcEn
      | none => false) ++
    (if s.flag F.FAB_TR_CTL_EPOCH_SRC_EN then [s.myId] else [])
  l.foldl (fun (m : Option Nat) x => match m with
    | none => some x
    | some y => some (min x y)) none

/-- Switch to the shadow for epoch `e` (R191): LIVE flips, the old bank drains, EPOCH is raised, links named by the
new tables come into use, and lost modules with a path again are known again (R203). -/
def State.epochSwitch (s : State) (e : Nat) : State :=
  let b := s.shadowBank
  let s1 := (((s.wr F.FAB_RT_CTL_LIVE 0 b).wr F.FAB_RT_CTL_SHADOW_READY 0 0).wr F.FAB_RT_CTL_DRAINING 0 1).wr F.FAB_RT_EPOCH_LIVE 0 e
  let s2 := { s1 with fab := { s1.fab with
    epochDue := none, readyMods := []
    lost := s1.fab.lost.filter fun m => !((List.range 5).any fun i => s1.entryValid (entryIx b m) i) } }
  let s3 := ((List.range 144).filter fun j => s2.lkCarries j).foldl (fun s j =>
    if (s.entriesVia j).any fun ix => ix / 4096 = b then s.modLink j fun l => { l with usable := true } else s) s2
  let s4 := s3.raise F.FAB_TR_CAUSE_EPOCH 0 0 [wd e]
  s4.fab.tx.foldl (fun s (x : Nat × TxFlow) => s.pump x.1 x.2.waiting.length) s4

/-- Whether epoch `a` comes after epoch `b`, modulo 2^16. -/
def epochAfter (a b : Nat) : Bool := let d := (a + 65536 - b) % 65536; 0 < d && d < 32768

/-- An EPOCH marker for epoch `e` (R191): with the shadow ready for it the module switches and sends the marker
on; without, it switches when the shadow is ready. -/
def State.epochMark (s : State) (e : Nat) : State :=
  if !(epochAfter e (s.rd F.FAB_RT_EPOCH_LIVE)) || s.fab.epochDue = some e then s
  else
    let s1 := s.flood 0x11 e
    if s1.flag F.FAB_RT_CTL_SHADOW_READY && s1.rd F.FAB_RT_EPOCH_SHADOW = e then s1.epochSwitch e
    else { s1 with fab := { s1.fab with epochDue := some e } }

/-- EPOCH (R191): a marker arrives. -/
def execEpoch (x : Note) (e : BitVec 16) (s : State) : Out := .next (s.recvNote x fun s => s.epochMark e.toNat)

/-- The next epoch. -/
def State.nextEpoch (s : State) : Nat := (s.rd F.FAB_RT_EPOCH_LIVE + 1) % 65536

/-- Whether a module gave READY for the next epoch. -/
def State.gaveReady (s : State) (m : Nat) : Bool := s.fab.readyMods.elem (m, s.nextEpoch)

/-- Keep a module's READY, the one for its latest epoch. -/
def State.putReady (s : State) (m e : Nat) : State :=
  { s with fab := { s.fab with readyMods := (m, e) :: s.fab.readyMods.filter fun x => x.1 ≠ m } }

/-- The epoch source floods EPOCH when it holds READY from every reachable module (R191); while its management cores restart
the marker waits (R192). -/
def State.tryEpoch (s : State) : State :=
  if !s.mgmt.down && s.epochSource = some s.myId && s.gaveReady s.myId && s.reachable.all s.gaveReady then s.epochMark s.nextEpoch else s

/-- TOPO_LINK_STATE (R182): a link of module `m` is up to a peer, or down; the message is kept and flooded on.  A
message about this module's own ID that its links contradict comes from another module with the same ID. -/
def execTopoLinkState (x : Note) (m : BitVec 12) (link : Fin 144) (peer : BitVec 12) (linkUp : Bool) (peloton : BitVec 12)
    (srcEn : Bool) (s : State) : Out := .next (s.recvNote x fun s =>
  if m.toNat = s.myId then
    if linkUp && !(s.lkCarries link && s.rd F.FAB_LINK_PEER_MODULE link = peer.toNat) && !s.fab.dupId then
      ({ s with fab := { s.fab with dupId := true } }).raise F.FAB_TR_CAUSE_DUPID 0 0 [wd s.myId]
    else s
  else
    let key := m.toNat * 144 + link.val
    let v := if linkUp then peer.toNat + 1 else 0
    let info : TopoMod := { peloton := peloton.toNat, srcEn := srcEn }
    if Assoc.get 0 s.fab.topo key = v && Assoc.find s.fab.mods m.toNat = some info then s
    else
      let big := s.pelotonBig
      let s1 := { s with fab := { s.fab with topo := Assoc.set 0 s.fab.topo key v, mods := Assoc.put s.fab.mods m.toNat info } }
      let s2 := s1.flood 0x12 (m.toNat * 4)
      if !big && s2.pelotonBig then s2.raise F.FAB_TR_CAUSE_PELOTON_BIG else s2)

/-- TOPO_READY (R191): a module's shadow is ready for an epoch; READY is flooded on. -/
def execTopoReady (x : Note) (m : BitVec 12) (e : BitVec 16) (s : State) : Out := .next (s.recvNote x fun s =>
  if s.fab.readyMods.elem (m.toNat, e.toNat) then s
  else ((s.putReady m.toNat e.toNat).flood 0x12 (m.toNat * 4 + 1 + e.toNat * 2 ^ 14)).tryEpoch)

/-- RELAY (R186): an HMP message relayed from a peer goes up to the management firmware. -/
def execRelay (j : Fin 145) (p : Packet) (s : State) : Out :=
  if s.mine p 0x14 then .next (s.recvSeq j p fun q s => s.emit (.packetUp q)) else .next s

/-- Setting SHADOW_READY: a marker that waited for it now switches the module (R190, R191). -/
def State.shadowReady (s : State) : State :=
  let s1 := s.wr F.FAB_RT_CTL_SHADOW_READY 0 1
  match s1.fab.epochDue with
  | some e => if s1.rd F.FAB_RT_EPOCH_SHADOW = e then s1.epochSwitch e else s1
  | none => s1

/-- Write a routing entry of a bank through the window of R209: the live bank, and a bank still draining, ignore it
and raise CFGERR; a written entry is not STALE (R187, R190). -/
def State.routeWrite (s : State) (bank d : Nat) (lo hi : Option Word) : State :=
  if bank % 2 = s.liveBank || s.flag F.FAB_RT_CTL_DRAINING then s.raise F.FAB_TR_CAUSE_CFGERR
  else
    let ix := entryIx bank d
    let s1 := match lo with
      | some w => s.setReg .FAB_ROUTE_LO ix w
      | none => s
    match hi with
    | some w => (s1.setReg .FAB_ROUTE_HI ix (w &&& Reg.FAB_ROUTE_HI.accMask .RW)).wr F.FAB_ROUTE_HI_STALE ix 0
    | none => s1

/-- SHADOW_REBUILD (R191, R192): the route builder writes the entries of the shadow for the next epoch, marks it
ready and floods READY; while the old bank drains, and while the management cores restart (R30), it waits. -/
def execShadowRebuild (entries : List (BitVec 12 × Word × Word)) (s : State) : Out :=
  if s.mgmt.down || s.flag F.FAB_RT_CTL_DRAINING then .next s
  else
    let b := s.shadowBank
    let s1 := { s with regs := s.regs.filter fun (e : Nat × Word) =>
      !((e.1 % 1024 = Reg.FAB_ROUTE_LO.ctorIdx || e.1 % 1024 = Reg.FAB_ROUTE_HI.ctorIdx) && e.1 / 1024 / 4096 = b) }
    let s2 := entries.foldl (fun s (x : BitVec 12 × Word × Word) => s.routeWrite b x.1.toNat (some x.2.1) (some x.2.2)) s1
    let e := s2.nextEpoch
    let s3 := (s2.wr F.FAB_RT_EPOCH_SHADOW 0 e).putReady s2.myId e
    .next ((s3.shadowReady.flood 0x12 (s3.myId * 4 + 1 + e * 2 ^ 14)).tryEpoch)

/-- SHADOW_READY_WRITE (R190): firmware sets or clears SHADOW_READY; while the management cores restart no firmware runs
(R30). -/
def execShadowReadyWrite (ready : Bool) (s : State) : Out :=
  if s.mgmt.down then .next s
  else if ready then .next s.shadowReady else .next (s.wr F.FAB_RT_CTL_SHADOW_READY 0 0)

/-- EPOCH_SOURCE_TIMEOUT (R191, R192): 100 ms after its own READY the epoch source floods EPOCH; while its management cores
restart the marker waits. -/
def execEpochSourceTimeout (s : State) : Out :=
  if s.mgmt.down = false ∧ s.epochSource = some s.myId ∧ s.gaveReady s.myId = true then .next (s.epochMark s.nextEpoch)
  else .next s

/-- EPOCH_DRAIN_END (R191): the old bank is no longer held. -/
def execEpochDrainEnd (s : State) : Out := .next (s.wr F.FAB_RT_CTL_DRAINING 0 0)

/-! ### Lending (R152 to R155) -/

/-- Frames this module still offers. -/
def State.freeOffer (s : State) : Nat := s.rd F.MEM_LEND_OFFER_FRAMES - s.rd F.MEM_LEND_OUT_FRAMES

/-- LEND_OFFER_ADVERTISE (R152): the free offer goes to every module of the peloton. -/
def execLendOfferAdvertise (s : State) : Out :=
  if s.pelotonBig then .next s
  else .next ((s.fab.mods.filter fun (e : Nat × TopoMod) => e.1 ≠ s.myId && s.inPeloton e.1).foldl (fun s (e : Nat × TopoMod) =>
    s.sendLend e.1 0 0 s.freeOffer) s)

/-- Keep a peer's offer, by module. -/
def putOffer (m f : Nat) (l : List Offer) : List Offer :=
  let t := l.filter fun o => o.module ≠ m
  (t.takeWhile fun o => o.module < m) ++ [{ module := m, frames := f }] ++ (t.dropWhile fun o => o.module < m)

/-- LEND_OFFER (R152): a peer's free offer. -/
def execLendOffer (j : Fin 145) (p : Packet) (s : State) : Out :=
  if s.mine p 0x13 && p.tag.toNat = 0 then
    .next (s.recvSeq j p fun q s =>
      if s.inPeloton q.srcMod.toNat && !s.pelotonBig then
        { s with offers := putOffer q.srcMod.toNat q.addr.toNat s.offers }
      else s)
  else .next s

/-- Stack masks a lender tries for a loan, in this order (log entry 36): single stacks, pairs, halves, all. -/
def lendMasks : List Nat := [1, 2, 4, 8, 16, 32, 64, 128, 3, 12, 48, 192, 15, 240, 255]

/-- Whether a frame range in the stacks of a mask is allocatable and free (R132, R133). -/
def State.rangeFree (s : State) (mask base frames : Nat) : Bool :=
  1024 ≤ base && base + frames ≤ 1177344 &&
  (List.range 16).all (fun n =>
    !(s.flag F.MEM_PART_SET_VALID n && (s.rd F.MEM_PART_SET_STACKS n &&& mask) ≠ 0 && s.rd F.MEM_PART_BASE_VALUE n < base + frames &&
      base < s.rd F.MEM_PART_BASE_VALUE n + s.rd F.MEM_PART_FRAMES_VALUE n)) &&
  s.loansOut.all fun l => !((l.mask &&& mask) ≠ 0 && l.base < base + frames && base < l.base + l.frames)

/-- The first free range of a mask: it starts at the first allocatable frame or after another range. -/
def State.freeBase (s : State) (mask frames : Nat) : Option Nat :=
  (1024 :: ((List.range 16).map fun n => s.rd F.MEM_PART_BASE_VALUE n + s.rd F.MEM_PART_FRAMES_VALUE n) ++
    s.loansOut.map fun l => l.base + l.frames).find? fun b => s.rangeFree mask b frames

/-- The place of a loan of `n` frames: mask, base and frames per stack. -/
def State.loanPlace (s : State) (n : Nat) : Option (Nat × Nat × Nat) :=
  lendMasks.findSome? fun m =>
    let per := (n + (stacksOf m).length - 1) / (stacksOf m).length
    if (stacksOf m).all fun k => s.rd F.MEM_STATE_STATE k = stReady || s.rd F.MEM_STATE_STATE k = 3 then
      (s.freeBase m per).map fun b => (m, b, per)
    else none

/-- Take a loan request (R153): a loan slot, a frame range, a loan key in each stack; granted with its slot and
frames, or refused.  Frames are rounded up to whole frames of each stack, and the count lent is the rounded one (log entry 84). -/
def State.lend (s : State) (m part n : Nat) : State :=
  let slot := (List.range 32).find? fun i => !(s.loansOut.any fun l => l.slot = i)
  let ok := s.inPeloton m && !s.pelotonBig && 1 ≤ n && n ≤ s.freeOffer
  match slot, (if ok then s.loanPlace n else none) with
  | some i, some (mask, base, per) =>
    let d := s.drawKey
    let s1 := { d.2 with
      loansOut := d.2.loansOut ++ [({ slot := i, module := m, part := part, mask := mask, base := base, frames := per } : LoanOut)]
      keys := d.2.keys ++ (stacksOf mask).map fun k => ({ stack := k, loan := true, owner := i, gen := 0, key := d.1 } : KeySlot) }
    (s1.wr F.MEM_LEND_OUT_FRAMES 0 (s1.rd F.MEM_LEND_OUT_FRAMES + per * (stacksOf mask).length)).sendLend m part 2 (i + 32 * n)
  | _, _ => s.sendLend m part 3 n

/-- LEND_REQUEST (R153, R155): a request for frames, or the return of a loan. -/
def execLendRequest (j : Fin 145) (p : Packet) (s : State) : Out :=
  if s.mine p 0x13 && (p.tag.toNat = 1 || p.tag.toNat = 4) then
    .next (s.recvSeq j p fun q s =>
      if q.tag.toNat = 1 then s.lend q.srcMod.toNat q.srcPart.toNat q.addr.toNat
      else match s.loansOut.find? fun l => l.slot = q.addr.toNat && l.module = q.srcMod.toNat with
        | some l => s.endLoanOut l
        | none => s)
  else .next s

end Sys2Proof.Machine
end

