-- ==== Sys2Proof/Machine/Bobbin.lean ====
section
/-! DEFINITION.  Bobbins (R78, R79, R110 to R112, R147 to R151, R204): every command carries the bobbin it belongs to,
its descriptor, and the store and stack errors its reads met. -/

namespace Sys2Proof.Machine

/-- A row to move: byte offsets from SRC and DST, and whether a poisoned index chose it. -/
abbrev RowMove := Nat × Nat × Bool

/-- The arguments of the partition's running RUN. -/
def State.runArgs (s : State) (n : Nat) : List Nat := ((s.part n).run.map RunInfo.args).getD []

/-- SLOTS of the running pattern, 64 when none runs. -/
def State.runSlots (s : State) (n : Nat) : Nat :=
  (((s.part n).run.bind fun r => (s.part n).pats[r.pat]?).map Pattern.slots).getD 64

/-- Take a descriptor off the front of its list when it stands there. -/
def State.popBob (s : State) (u : Nat) (d : BobDesc) : State :=
  match Assoc.find s.bobQ u with
  | some (e :: t) => if e = d then { s with bobQ := Assoc.put s.bobQ u t } else s
  | _ => s

/-- The WAIT of a descriptor: the state after it and whether the bobbin goes on. -/
def State.bobWait (s : State) (p u : Nat) (d : BobDesc) : State × Bool :=
  if d.waitEn then
    match s.tokKey p d.waitG d.waitTok.toNat with
    | some k => s.waitOn u k d.waitN.toNat
    | none => (s, false)
  else (s, true)

/-- Whether an access of a bobbin of partition `n` is refused, with its target (R77, R111, R259). -/
def State.bobRefused (s : State) (n : Nat) (d : Option Dest) (len : Nat) : Option Nat :=
  match d with
  | none => some noTarget
  | some (.mem o) => if s.inMem n o len then none else some noTarget
  | some (.store p a) => if a + len ≤ patTop then none else some (0x10 + p)
  | some _ => none

/-- A descriptor ends with ACCESS (R111, R262). -/
def State.bobAccess (s : State) (n id target kind addr : Nat) : State :=
  (s.reject (0x10 + n) target kind addr).failDesc (some id) 0x24 (accessOrigin (0x10 + n) target)

/-- A byte address that a destination names, for SEC_AF_ADDR. -/
def destAddr : Option Dest → Nat
  | some (.mem o) => o
  | some (.store _ a) => a
  | some (.peer a) => a % 2 ^ 40
  | _ => 0

/-- Whether a descriptor has a status: it issues no more requests (R111). -/
def State.descStopped (s : State) (id : Nat) : Bool :=
  match s.fab.descs.find? fun d => d.id = id with
  | some d => d.status ≠ 0
  | none => true

/-- Move one piece: an immediate source is read and written on, a source on another module is asked for. The bytes
read, when they are at hand. -/
def State.movePiece (s : State) (n id : Nat) (d : BobDesc) (src dst : BitVec 64) (so dof len : Nat) (bad : Bool) :
    State × Option (List (Byte × Bool)) :=
  if s.descStopped id then (s, none)
  else
    let a := s.destOf n src so
    let b := s.destOf n dst dof
    match s.bobRefused n a len, s.bobRefused n b len, a, b with
    | some t, _, _, _ => (s.bobAccess n id t kRead (destAddr a), none)
    | none, some t, _, _ => (s.bobAccess n id t kWrite (destAddr b), none)
    | none, none, some x, some y =>
      let flow := d.flow.toNat
      let req : Packet := { s.blank 0x02 1 0 0 n with flow := d.flow, unit := s.unitOf (some id) }
      let now := fun (s : State) (origin : Nat) =>
        let r0 := s.readLocal n x len
        let r := (r0.1.map fun b => (b.1, b.2 || bad), r0.2)
        ((r.2.notePart n origin (anyPoison r.1)).writeDest n (some id) d.ord flow y r.1, some r.1)
      match x with
      | .mem o => match s.place n o with
        | .local_ k _ => now s (0x100 + k)
        | .loan m slot off =>
          (s.issueGet n (some id) { req with dstMod := BitVec.ofNat 12 m, dstPart := BitVec.ofNat 4 n, addr := BitVec.ofNat 64 (loanAddr slot off) } len y bad, none)
        | .nowhere => (s.bobAccess n id noTarget kRead o, none)
      | .store p _ => now s (s.rd F.CLU_ID_LOGICAL p)
      | .peer q =>
        let r : Packet := { req with
          dstMod := BitVec.ofNat 12 (bitsOf q 48 12)
          dstPart := BitVec.ofNat 4 (bitsOf q 44 4)
          space := decide (q / 2 ^ 60 = 3)
          addr := BitVec.ofNat 64 (q % 2 ^ 44) }
        (s.issueGet n (some id) r len y bad, none)
      | _ => (s, none)
    | _, _, _, _ => (s, none)

/-- A piece of `len` bytes at offset `so` of a source, cut where a page of partition memory ends: local memory and every
loan are whole 64 KiB pages (R133, R153, R154). -/
def srcCuts (src : BitVec 64) (so len : Nat) : List (Nat × Nat) :=
  let r := 65536 - (memOff src + so) % 65536
  if spaceOf src = 0 && r < len then [(0, r), (r, len - r)] else [(0, len)]

/-- Move rows, each in pieces of at most 448 bytes: the state, and the bytes moved while all were at hand. -/
def State.moveRows (s : State) (n id : Nat) (d : BobDesc) (src dst : BitVec 64) (rows : List RowMove) :
    State × Option (List (Byte × Bool)) :=
  let rb := d.rowBytes.toNat
  rows.foldl (fun (r : State × Option (List (Byte × Bool))) (x : RowMove) =>
    (List.range ((rb + 447) / 448)).foldl (fun (r : State × Option (List (Byte × Bool))) (i : Nat) =>
      (srcCuts src (x.1 + 448 * i) (min 448 (rb - 448 * i))).foldl (fun (r : State × Option (List (Byte × Bool))) (c : Nat × Nat) =>
        let o := 448 * i + c.1
        let y := r.1.movePiece n id d src dst (x.1 + o) (x.2.1 + o) c.2 x.2.2
        (y.1, match r.2, y.2 with
          | some u, some v => some (u ++ v)
          | _, _ => none)) r) r) (s, some [])

/-- Write an exponent list for moved blocks, as a tile of 64 rows (R68).  The descriptor names no block format:
outside DECOMP the format is free, and so are the entries of data that came from another module (log entry 37).  A list that
reaches the control core's working area ends the descriptor with ACCESS (R74, R111). -/
def State.bobList (s : State) (n id p : Nat) (d : BobDesc) (fmt : Option Nat) (data : Option (List (Byte × Bool))) : State :=
  let f0 := match fmt with
    | some f => (f, s)
    | none => s.freeNat 6
  match blkFmt f0.1 with
  | none => s
  | some f =>
    let bs := blkBytes f0.1
    let count := d.rows.toNat * d.rowBytes.toNat / bs
    let c := count / 64
    let top := d.listDst.toNat % 2 ^ 26
    if patTop < top + 128 * c then f0.2.bobAccess n id (0x10 + p) kWrite top else
    let put := fun (s : State) (b v : Nat) (poison : Bool) =>
      s.storeWriteP p (d.listDst.toNat % 2 ^ 26 + 2 * (b % (max 1 c) * 64 + b / (max 1 c))) (markLE 2 (v, poison))
    match data with
    | some l => (List.range (64 * c)).foldl (fun s b =>
        let q := (l.drop (b * bs)).take bs
        put s b (listEntry f0.1 f (readBlk f0.1 f (q.map Prod.fst))) (anyPoison q)) f0.2
    | none => (List.range (64 * c)).foldl (fun s b => let v := s.freeNat 512; put v.2 b v.1 false) f0.2

/-- Rows at a stride. -/
def strided (n a b : Nat) : List RowMove := (List.range n).map fun i => (i * a, i * b, false)

/-- Whether the index list of GATHER or SCATTER lies with another module, wholly or in part: on loan, or with a peer. -/
def State.indexAway (s : State) (n : Nat) (d : BobDesc) : Bool :=
  let len := 4 * d.nindex.toNat
  match s.destOf n d.index 0 with
  | some (.mem o) => s.inMem n o len && !(s.inLocal n o len)
  | some (.peer _) => true
  | _ => false

/-- Ask for the index list in pieces of at most 448 bytes (R111): what is local is read at once. -/
def State.fetchIndex (s : State) (n id : Nat) (d : BobDesc) : State :=
  let len := 4 * d.nindex.toNat
  let req : Packet := { s.blank 0x02 1 0 0 n with unit := s.unitOf (some id) }
  (List.range ((len + 447) / 448)).foldl (fun (s : State) (k : Nat) =>
    (srcCuts d.index (448 * k) (min 448 (len - 448 * k))).foldl (fun (s : State) (c : Nat × Nat) =>
      let o := 448 * k + c.1
      match s.destOf n d.index o with
      | some (.mem a) => match s.place n a with
        | .loan m slot off =>
          s.issueGet n (some id) { req with dstMod := BitVec.ofNat 12 m, dstPart := BitVec.ofNat 4 n, addr := BitVec.ofNat 64 (loanAddr slot off) }
            c.2 (.index id o)
        | _ => let r := s.readLocal n (.mem a) c.2; r.2.modDesc id fun x => { x with idx := x.idx ++ [(o, r.1)] }
      | some (.peer q) =>
        let r : Packet := { req with
          dstMod := BitVec.ofNat 12 (bitsOf q 48 12)
          dstPart := BitVec.ofNat 4 (bitsOf q 44 4)
          space := decide (q / 2 ^ 60 = 3)
          addr := BitVec.ofNat 64 (q % 2 ^ 44) }
        s.issueGet n (some id) r c.2 (.index id o)
      | _ => s) s) s

/-- The index list of GATHER and SCATTER: its bytes with their marks, from the pieces that came or read where it lies, or
the target that refuses it. -/
def State.indexBytes (s : State) (n id : Nat) (d : BobDesc) : Nat ⊕ List (Byte × Bool) :=
  let len := 4 * d.nindex.toNat
  let got := ((s.fab.descs.find? fun r => r.id = id).map DescRun.idx).getD []
  if s.indexAway n d then
    .inr ((List.range len).map fun i => match got.find? fun x => x.1 ≤ i && i < x.1 + x.2.length with
      | some x => getAt (0, false) x.2 (i - x.1)
      | none => (0, false))
  else
    let q := s.destOf n d.index 0
    match s.bobRefused n q len, q with
    | some t, _ => .inl t
    | none, some x => .inr (s.readLocal n x len).1
    | none, none => .inl noTarget

/-- Origin of poison in an index list (R123): the stack it lies in, or the logical cluster. -/
def State.indexOrigin (s : State) (n p : Nat) (d : BobDesc) : Nat :=
  match s.destOf n d.index 0 with
  | some (.mem o) => match s.place n o with
    | .local_ k _ => 0x100 + k
    | _ => s.rd F.CLU_ID_LOGICAL p
  | some (.store q _) => s.rd F.CLU_ID_LOGICAL q
  | _ => s.rd F.CLU_ID_LOGICAL p

/-- A relative address whose sum does not fit its offset field is an access outside every window (R111): of its slot's store in
space 1, and of no target elsewhere (R259). -/
def State.relRefuse (s : State) (n id kind : Nat) (a : BitVec 64) (arg : Nat) : State :=
  let t := if spaceOf a = 1 then (s.slotPhys n (slotOf a)).elim noTarget (0x10 + ·) else noTarget
  s.bobAccess n id t kind (a.toNat % 2 ^ offBits (spaceOf a) + arg)

/-- The requests of a descriptor under way are issued by `body`, and it ends when they have settled (R79, R110, R111). -/
def State.bobIssue (s : State) (n id : Nat) (d : BobDesc) (body : Nat → Nat → BitVec 64 → BitVec 64 → State → State) : State :=
  let args := s.runArgs n
  let sel := d.argsel.toNat
  match bobAddr d.src (sel.testBit 4) (sel % 4) args, bobAddr d.dst (sel.testBit 5) (sel / 4 % 4) args with
  | some src, some dst => (body n id src dst s).closeDesc id
  | none, _ => (s.relRefuse n id kRead d.src (getAt 0 args (sel % 4))).closeDesc id
  | _, none => (s.relRefuse n id kWrite d.dst (getAt 0 args (sel / 4 % 4))).closeDesc id

/-- Whether a descriptor must first fetch its index list from another module. -/
def State.mustFetch (s : State) (n : Nat) (d : BobDesc) : Bool := (d.opc = 2 || d.opc = 3) && s.indexAway n d

/-- The shared course of every descriptor of a cluster that runs: its slots lie below the pattern's count, FENCE and WAIT come
first, an index list held by another module is fetched, then its requests are issued (R79, R110, R111). -/
def State.runBobIn (s : State) (p b : Nat) (d : BobDesc) (h : List EccHit) (m : List StackHit)
    (body : Nat → Nat → BitVec 64 → BitVec 64 → State → State) : State :=
  let u := unitCode p (16 + b)
  match s.partOf p with
  | none => s
  | some n =>
    match s.fab.descs.find? fun r => r.unit = u && r.fetch with
    | some r =>
      -- the index list was asked for before: the bobbin goes on once it is here
      if r.desc ≠ d || r.left ≠ 0 then s
      else
        let s1 := ((((s.eccHits p h).stackHits m).popBob u d).modDesc r.id fun x => { x with fetch := false })
        if r.status ≠ 0 then s1.closeDesc r.id else s1.bobIssue n r.id d body
    | none =>
      if !(bobOk (s.runSlots n) d) || (d.fence && s.fab.descs.any fun r => r.unit = u) then s
      else
        let w := s.bobWait p u d
        if !w.2 then w.1
        else
          let id := w.1.fab.nextDesc
          let away := w.1.mustFetch n d
          let run : DescRun := {
            id := id, unit := u, part := n, desc := d, left := 0, issued := false, status := 0, origin := 0, fetch := away }
          let s1 := if away then w.1 else ((w.1.eccHits p h).stackHits m).popBob u d
          let s2 := { s1 with fab := { s1.fab with nextDesc := id + 1, descs := s1.fab.descs ++ [run] } }
          if away then s2.fetchIndex n id d else s2.bobIssue n id d body

/-- A descriptor is carried out once its form is right; whatever slots the running pattern has, its fields keep R110 to R112. -/
def runBob (p : Fin 68) (b : Fin 4) (opc : Nat) (d : BobDesc) (h : List EccHit) (m : List StackHit)
    (body : Nat → Nat → BitVec 64 → BitVec 64 → State → State) (s : State) : Out :=
  if bobForm opc d then .next (s.runBobIn p b d h m body) else .refused .illFormed

/-- A plain strided move: MOVE, PUT and GET. -/
def bobMove (p : Fin 68) (d : BobDesc) (n id : Nat) (src dst : BitVec 64) (s : State) : State :=
  let r := s.moveRows n id d src dst (strided d.rows.toNat d.srcStride.toNat d.dstStride.toNat)
  if d.list then r.1.bobList n id p d none r.2 else r.1

/-- A MOVE with DECOMP (R151): the object at SRC is decoded from frame NINDEX on, and fills the destination rows;
a decoding error poisons its frame, raises DECODE and the status POISON; poison in the object travels on (R477); an offset
past the partition's memory ends the descriptor with ACCESS (R134). -/
def bobDecomp (p : Fin 68) (d : BobDesc) (n id : Nat) (src dst : BitVec 64) (s : State) : State :=
  let rb := d.rowBytes.toNat
  let o := memOff src
  let r := s.decodeObject n o d.nindex.toNat (d.rows.toNat * rb)
  match r.1.outside with
  | some x => r.2.bobAccess n id noTarget kRead x
  | none =>
    let s1 := r.1.decode.foldl (fun s k => (s.raise F.MEM_CAUSE_DECODE k).notePart n (0x100 + k) true) r.2
    let s2 := r.1.poison.foldl (fun s k => s.notePart n (0x100 + k) true) s1
    let s3 := (List.range d.rows.toNat).foldl (fun s i =>
      let y := s.destOf n dst (i * d.dstStride.toNat)
      match s.bobRefused n y rb, y with
      | none, some q =>
        if s.descStopped id then s
        else (List.range ((rb + 447) / 448)).foldl (fun s k =>
          let q' := match q with
            | .mem o => .mem (o + 448 * k)
            | .store p a => .store p (a + 448 * k)
            | .peer a => .peer (a + 448 * k)
            | q => q
          s.writeDest n (some id) d.ord d.flow.toNat q' ((r.1.data.drop (i * rb + 448 * k)).take (min 448 (rb - 448 * k)))) s
      | some t, _ => if s.descStopped id then s else s.bobAccess n id t kWrite (destAddr y)
      | none, none => s) s2
    let fmt := match s.zread n o 64 with
      | .bytes l => (readZHeader l).map ZHeader.fmt
      | _ => none
    if d.list then s3.bobList n id p d fmt (some r.1.data) else s3

/-- Rows picked by the index list: an index at or above ROWS skips its row and sets INDEX (R112); a list outside every
window ends the descriptor with ACCESS (R111); poison in the list marks the command and every row moved by it (R61, R122). -/
def bobIndexed (p : Fin 68) (d : BobDesc) (gather : Bool) (n id : Nat) (src dst : BitVec 64) (s : State) : State :=
  match s.indexBytes n id d with
  | .inl t => s.bobAccess n id t kRead (destAddr (s.destOf n d.index 0))
  | .inr l =>
    let ix := (List.range d.nindex.toNat).map fun i => leAt (l.map Prod.fst) (4 * i) 4
    let bad := ix.any fun x => d.rows.toNat ≤ x
    let rows := (ix.zipIdx.filter fun x => x.1 < d.rows.toNat).map fun x =>
      let mark := anyPoison ((l.drop (4 * x.2)).take 4)
      if gather then (x.1 * d.srcStride.toNat, x.2 * d.dstStride.toNat, mark)
      else (x.2 * d.srcStride.toNat, x.1 * d.dstStride.toNat, mark)
    let s1 := (s.notePart n (s.indexOrigin n p d) (anyPoison l)).noteIndex p bad
    let r := s1.moveRows n id d src dst rows
    if d.list then r.1.bobList n id p d none r.2 else r.1

/-- BOBBIN_MOVE (R112, R151). -/
def execBobbinMove (p : Fin 68) (b : Fin 4) (d : BobDesc) (h : List EccHit) (m : List StackHit) (s : State) : Out :=
  runBob p b 1 d h m (if d.decomp then bobDecomp p d else bobMove p d) s

/-- BOBBIN_GATHER (R112). -/
def execBobbinGather (p : Fin 68) (b : Fin 4) (d : BobDesc) (h : List EccHit) (m : List StackHit) (s : State) : Out :=
  runBob p b 2 d h m (bobIndexed p d true) s

/-- BOBBIN_SCATTER (R112). -/
def execBobbinScatter (p : Fin 68) (b : Fin 4) (d : BobDesc) (h : List EccHit) (m : List StackHit) (s : State) : Out :=
  runBob p b 3 d h m (bobIndexed p d false) s

/-- BOBBIN_PUT (R112): fabric writes, ordered when ORD is set. -/
def execBobbinPut (p : Fin 68) (b : Fin 4) (d : BobDesc) (h : List EccHit) (m : List StackHit) (s : State) : Out :=
  runBob p b 4 d h m (bobMove p d) s

/-- BOBBIN_GET (R112): fabric reads. -/
def execBobbinGet (p : Fin 68) (b : Fin 4) (d : BobDesc) (s : State) : Out := runBob p b 5 d [] [] (bobMove p d) s

/-- The group list of a COLL step: its entries, or nothing when it breaks R204. -/
def State.groupList (s : State) (p : Nat) (d : BobDesc) : Option (List Nat) :=
  let a := d.listDst.toNat % 2 ^ 26
  let n := leNat (s.storeRead p a 4)
  if n < 2 ∨ 2048 < n ∨ patTop < a + 4 + 4 * n then none
  else
    let l := (List.range n).map fun i => leNat (s.storeRead p (a + 4 + 4 * i) 4)
    if l.all (fun e => e < 2 ^ 22) then some l else none

/-- Whether a COLL descriptor's fields are in range for `n` participants (R204). -/
def collFieldsOk (d : BobDesc) (n : Nat) : Bool :=
  let op := collOp d
  let u := unitBytes (collFmt d)
  let len := collLen d
  op ≤ 6 && 2 ^ 25 > d.aux.toNat && collRoot d < n &&
    (5 ≤ op || ((collFmt d = 3 || collFmt d = 4 || collFmt d = 6 || collFmt d = 7) && collRed d ≤ 2 && len % u = 0 &&
      ((op ≠ 2 && op ≠ 3) || len % n = 0)))

/-- A COLL step that cannot start completes with COLLECTIVE and its ID in ORIGIN; nothing is sent (R183). -/
def State.collRefuse (s : State) (id : Nat) (d : BobDesc) : State :=
  match s.fab.descs.find? fun r => r.id = id with
  | some r => s.endDesc { r with status := 0x33, origin := collId d }
  | none => s

/-- A participant whose list breaks R204, or does not hold it once, sends ABORT to the first entry it reads, and its step
completes with COLLECTIVE (R204, R206; log entry 33). -/
def State.collMismatch (s : State) (p : Nat) (d : BobDesc) (n id : Nat) (rank : Nat) : State :=
  let a := d.listDst.toNat % 2 ^ 26
  let e := leNat (s.storeRead p (a + 4) 4) % 2 ^ 22
  let c : Coll := { part := n, id := collId d, run := id, cluster := p, desc := d, group := [e], rank := rank }
  let mine := patTop < a + 8 || (e % 4096 = s.myId && bitsOf e 12 4 = n)
  let s1 := s.raise F.FAB_TR_CAUSE_COLL_FAIL 0 0 [wd n, wd (collId d)]
  (if mine then s1 else s1.sendCtl c 0 3 0).collRefuse id d

/-- The participants' entries of a group that are this cluster's own (R204). -/
def State.collOwn (s : State) (p n : Nat) (g : List Nat) : List Nat :=
  ((g.zipIdx).filter fun x => x.1 % 4096 = s.myId && bitsOf x.1 12 4 = n && s.slotPhys n (bitsOf x.1 16 6) = some p).map Prod.snd

/-- The step of a participant. -/
def Coll.start (p : Nat) (d : BobDesc) (n id : Nat) (g : List Nat) (rank : Nat) : Coll :=
  let c : Coll := { part := n, id := collId d, run := id, cluster := p, desc := d, group := g, rank := rank }
  { c with outLeft := c.outBytes }

/-- Start a COLL step (R182, R183, R204 to R208). -/
def bobColl (p : Fin 68) (d : BobDesc) (n id : Nat) (_ _ : BitVec 64) (s : State) : State :=
  let bad := s.spanPoison p (d.listDst.toNat % 2 ^ 26) (4 + 4 * min 2048 (leNat (s.storeRead p (d.listDst.toNat % 2 ^ 26) 4)))
  let s := s.notePoison p bad
  match s.groupList p d with
  | none => s.collMismatch p d n id 2047
  | some g =>
    match s.collOwn p n g with
    | [r] =>
      if !(g.all fun e => s.inPeloton (e % 4096) && !(s.fab.lost.elem (e % 4096))) || s.pelotonBig then s.collRefuse id d
      else
        let c := Coll.start p d n id g r
        let s1 := (g.foldl (fun s e => s.addPeer n (e % 4096)) s).setBusy n c.id 1
        let old := s1.fab.colls.filter fun y => !(y.part = n && y.id = c.id)
        let s2 := { s1 with fab := { s1.fab with colls := old ++ [c] } }
        if !(collFieldsOk d g.length) then s2.collAbort c
        else
          let s3 := if collOp d = 6 then s2.allToAll c else s2.collBegin c
          (s3.modDesc id fun r => { r with issued := true }).collCheck c
    | l => s.collMismatch p d n id (l.headD 2047)

/-- The reduction unit a step uses (R205): that of the port by which the rank its first partial comes from is reached; 18 where
that rank is in this module, or out of reach (log entry 72). -/
def State.collUnit (s : State) (c : Coll) : Nat :=
  let r := if c.ring then (c.rank + c.n - 1) % c.n else (c.children c.rank).headD (c.parent c.rank)
  match s.sourcePath (s.blank 0x08 2 (c.mod r) (c.prt r) c.part) s.liveBank with
  | some (j, _) => j / 8
  | none => 18

/-- Whether the reduction unit of a step holds 16 active collectives already (R205); a barrier moves no data. -/
def State.unitFull (s : State) (p n : Nat) (d : BobDesc) : Bool :=
  match s.groupList p d with
  | none => false
  | some g =>
    let c := Coll.start p d n 0 g ((s.collOwn p n g).headD 0)
    collOp d ≠ 5 &&
      16 ≤ (s.fab.colls.filter fun x => x.done.isNone && collOp x.desc ≠ 5 && s.collUnit x = s.collUnit c).length

/-- BOBBIN_COLL (R204, R205, R208): a step whose ID is still active in the partition, or whose reduction unit is full, waits in
its bobbin. -/
def execBobbinColl (p : Fin 68) (b : Fin 4) (d : BobDesc) (h : List EccHit) (m : List StackHit) (s : State) : Out :=
  if bobForm 6 d && ((s.partOf p).any fun n => s.busy n (collId d) || s.unitFull p n d) then .next s
  else runBob p b 6 d h m (bobColl p d) s

/-- BOBBIN_SYNC (R112): wait, signal or both. -/
def execBobbinSync (p : Fin 68) (b : Fin 4) (d : BobDesc) (s : State) : Out :=
  runBob p b 7 d [] [] (fun _ _ _ _ s => s) s

/-- BOBBIN_END (R102): the list's segment is over. -/
def execBobbinEnd (p : Fin 68) (b : Fin 4) (d : BobDesc) (s : State) : Out :=
  runBob p b 0 d [] [] (fun _ _ _ _ s => s) s

/-- DESCRIPTOR_STATUS_END (R111): the oldest descriptor of a bobbin that has a status ends once its issued
writes have settled: its status goes to the command and its SIGNAL issues. -/
def execDescriptorStatusEnd (p : Fin 68) (b : Fin 4) (s : State) : Out :=
  match s.fab.descs.find? fun r => r.unit = unitCode p (16 + b.val) && r.status ≠ 0 with
  | some r => .next ((s.modDesc r.id fun r => { r with issued := true }).tryEnd r.id)
  | none => .next s

end Sys2Proof.Machine
end

