-- ==== Sys2Proof/Machine/Faults.lean ====
section
/-! DEFINITION.  Faults of engines, clusters and routers (R88 to R92, R471 to R476), the cluster tests
and numbers (R18, R90), the cluster map (R432), and the gating of clusters in Trim (R413). -/

namespace Sys2Proof.Machine

/-! ### Engine faults (R92, R472, R473) -/

/-- Whether two store regions share a byte. -/
def regionsMeet (a n b m : Nat) : Bool := 0 < n && 0 < m && a < b + m && b < a + n

/-- Bytes an instruction writes at ADDR_C (R105, R108). -/
def outBytes (i : EngInstr) : Nat :=
  let n := i.len.toNat
  match i.opc.toNat with
  | 0x01 => 16384
  | 0x02 => (i.aux.toNat % 32 + 1) * 256
  | 0x10 | 0x12 | 0x15 => n * 64 * scalarBytes i.fo
  | 0x11 => n * 4
  | 0x14 => n * 256
  | 0x18 => n * blkBytes i.fo
  | 0x19 => n * 32 * scalarBytes i.fo
  | 0x1A => n * i.aux.toNat * 64
  | 0x1B => i.addrLB.toNat * i.aux.toNat * 64
  | _ => 0

/-- The regions an instruction reads, as address and bytes (R108). -/
def inBytes (i : EngInstr) : List (Nat × Nat) :=
  let n := i.len.toNat
  let one := fun (a : BitVec 32) (k : Nat) => (a.toNat, k)
  match i.opc.toNat with
  | 0x01 => [one i.addrA (matBytes i.fa 64 n), one i.addrB (matBytes i.fb 64 n)] ++
      (if i.list then [one i.addrLA (128 * n), one i.addrLB (128 * n)] else [])
  | 0x02 => [one i.addrA ((i.aux.toNat % 32 + 1) * n * wsRow i.fa), one i.addrB (n * wsTile i.fb)]
  | 0x10 => one i.addrA (n * 64 * scalarBytes i.fa) :: (if i.aux = 8 then [] else [one i.addrB (n * 64 * scalarBytes i.fb)]) ++
      (if i.aux = 7 then [one i.addrLA (8 * n)] else [])
  | 0x11 | 0x12 | 0x15 => [one i.addrA (n * 64 * scalarBytes i.fa)]
  | 0x14 => [one i.addrA (n * 256)]
  | 0x18 => one i.addrA (n * 32 * scalarBytes i.fa) :: (if i.list then [one i.addrLA (2 * n)] else [])
  | 0x19 => [one i.addrA (n * blkBytes i.fa)]
  | 0x1A => [one i.addrA (i.addrLB.toNat * i.aux.toNat * 64), one i.addrLA (n * 4)]
  | 0x1B => [one i.addrA (n * i.aux.toNat * 64), one i.addrLA (n * 4)]
  | _ => []

/-- Whether an instruction also reads lines of its output (R473). -/
def readsOutput (i : EngInstr) : Bool :=
  (i.opc.toNat = 0x01 && i.aux.getLsbD 0) || (i.opc.toNat = 0x02 && i.aux.getLsbD 8) ||
    (i.opc.toNat = 0x10 && i.aux.toNat % 16 = 3) ||
    (inBytes i).any fun x => regionsMeet i.addrC.toNat (outBytes i) x.1 x.2

/-- What was written of an unfinished output: its first line is not defined (log entry 41). -/
def State.spoilLine (s : State) (p : Nat) (i : EngInstr) : State :=
  let b := s.freeBytes 64
  b.2.storePut p (i.addrC.toNat / 64 * 64) b.1

/-- One instruction in flight on a failed engine: its WAIT is taken, it leaves its stream, and it is to be replayed; past
R473's point the partition's job ends.  A BEACON in flight has not taken effect and stays in its stream. -/
def State.catchInFlight (s : State) (p : Nat) (x : InFlight) : State :=
  let e := x.stream.val
  let r : Replay := { cluster := p, engine := e, instr := x.instr }
  if s.replayQ.elem r || x.instr.opc.toNat = 0x22 then s
  else
    let w := s.engWait p e x.instr
    if !w.2 then w.1
    else
      let s1 := w.1.popEng p e x.instr
      let s2 := if x.wrote then s1.spoilLine p x.instr else s1
      if x.wrote && readsOutput x.instr then
        match s2.partOf p with
        | some n => s2.jobEnd n 0x31 (s2.rd F.CLU_ID_LOGICAL p)
        | none => s2
      else { s2 with replayQ := s2.replayQ ++ [r] }

/-! ### Cluster faults (R91, R474, R475) -/

/-- Reticle field of a cluster (R17). -/
def fieldNo (p : Nat) : Nat := p / 17

/-- Distance of two fields. -/
def fieldDist (a b : Nat) : Nat := (a - b) + (b - a)

/-- The spare of R91's choice among candidates: the same field first, then the nearest field, the lower of two. -/
def chooseSpare (p : Nat) (l : List Nat) : Option Nat :=
  (List.range 4).findSome? fun d => l.find? fun q => fieldDist (fieldNo p) (fieldNo q) = d

/-- Clusters that read SPARE. -/
def State.spareList (s : State) : List Nat := allP.filter fun p => s.rd F.CLU_STATE_STATE p = 2

/-- Whether a cluster is enabled: free or in a partition. -/
def State.enabled (s : State) (p : Nat) : Bool := s.rd F.CLU_STATE_STATE p = 4 || s.rd F.CLU_STATE_STATE p = 5

/-- A cluster fails in service (R91, R474, R475): CLFAULT is raised, its partition's job ends with CLUSTER_FAULT, it
reads FAILED and gives up its number, and a spare is brought in for it unless VCORE is going off (R484). -/
def State.clusterFail (s : State) (p : Nat) : State :=
  if s.enabled p then
    let n := s.partOf p
    let num := s.rd F.CLU_ID_LOGICAL p
    let s1 := s.raise F.CLU_CAUSE_CLFAULT p 0 [wd num]
    let s2 := match n with
      | some k => s1.jobEnd k 0x31 num
      | none => s1
    let spare := if s2.pwr.quiesce || !s2.pwr.vcore then none else chooseSpare p s2.spareList
    let s3 := ((({ s2 with mapDue := true }).setReg .CLU_STATE p 6).wr F.CLU_ID_LOGICAL p 0xFF).storeZero p
    match spare with
    | some q => { (s3.wr F.CLU_STATE_STATE q 1) with
        bringIns := s3.bringIns ++ [({ spare := q, logical := num, part := n } : BringIn)] }
    | none => s3
  else s

/-- An engine is removed (R92): FAILED, ENGFAULT with a warning record, its instructions are to be replayed; the
fifth failure fails the cluster. -/
def State.engineFail (s : State) (p e : Nat) (l : List InFlight) : State :=
  if s.enabled p && !(s.rd F.CLU_ENG_MAP_FAILED p).testBit e then
    let n := s.rd F.CLU_ENG_MAP_NFAIL p
    let s1 := ((({ s with mapDue := true }).wr F.CLU_ENG_MAP_FAILED p (s.rd F.CLU_ENG_MAP_FAILED p ||| 2 ^ e)).wr
      F.CLU_ENG_MAP_NFAIL p (min 4 (n + 1))).raise F.CLU_CAUSE_ENGFAULT p 2 [wd e]
    if 4 ≤ n then s1.clusterFail p else l.foldl (fun s x => s.catchInFlight p x) s1
  else s

/-- What is in flight on an engine: at most three instructions, each of a right form (R99, R472); others of a list name
none. -/
def flights (l : List InFlight) : List InFlight := (l.filter fun x => engOk x.instr).take 3

/-- ENGINE_FAULT (R92): a residue or parity check fails.  The command carries what was in flight on the engine. -/
def execEngineFault (p : Fin 68) (e : Fin 16) (l : List InFlight) (s : State) : Out := .next (s.engineFail p e (flights l))

/-- ENGINE_HANDSHAKE_TIMEOUT (R92): a handshake of the engine has stayed unacknowledged for 65,536 steps. -/
def execEngineHandshakeTimeout (p : Fin 68) (e : Fin 16) (l : List InFlight) (s : State) : Out :=
  .next (s.engineFail p e (flights l))

/-- The effect of an engine instruction by its operation code (R105). -/
def engineRun (p : Fin 68) (e : Fin 16) (i : EngInstr) (h : List EccHit) (s : State) : Out :=
  match i.opc.toNat with
  | 0x00 => execNop p e i s
  | 0x01 => execMmaOs p e i h s
  | 0x02 => execMmaWs p e i h s
  | 0x10 => execVecEw p e i h s
  | 0x11 => execVecRed p e i h s
  | 0x12 => execVecAct p e i h s
  | 0x13 => execVecTload p e i h s
  | 0x14 => execVecSoftmax p e i h s
  | 0x15 => execVecRecip p e i h s
  | 0x18 => execQuant p e i h s
  | 0x19 => execDequant p e i h s
  | 0x1A => execGather p e i h s
  | 0x1B => execScatter p e i h s
  | 0x20 => execSync p e i s
  | 0x3F => execEnd p e i s
  | _ => .next s

/-- ENGINE_REPLAY (R472): the first instruction of stream `e` that waits to be replayed runs on a surviving engine, with
no WAIT, and issues its SIGNAL once. -/
def execEngineReplay (p : Fin 68) (e : Fin 16) (h : List EccHit) (s : State) : Out :=
  let mine := fun (r : Replay) => r.cluster = p.val && r.engine = e.val
  match s.replayQ.find? mine with
  | none => .next s
  | some r =>
    if !(s.enabled p) then .next s
    else
      let i : EngInstr := { r.instr with flags := r.instr.flags &&& ~~~8 }
      match engineRun p e i h { s with replayQ := s.replayQ.filter fun r => !(mine r) } with
      | .next t => .next { t with replayQ := s.replayQ.erase r }
      | _ => .next { s with replayQ := s.replayQ.erase r }

/-- Whether a bank of a cluster's store has met uncorrectable errors on 16 distinct lines in this patrol pass (R474). -/
def State.bankLost (s : State) (p : Nat) : Bool :=
  (List.range 32).any fun b => 16 ≤ (s.ueLines.filter fun e => e.1 / 2 ^ 20 = p && e.1 % 32 = b).length

/-- A scrub read found such a bank, and the cluster fails (R474; log entry 56). -/
def State.bankCheck (s : State) (p : Nat) : State := if s.bankLost p then s.clusterFail p else s

/-- STORE_SCRUB_FORCED (R75): a bank without an idle step for 65,536 steps gives its next step to scrub, which
reads the bank's next line. -/
def execStoreScrubForced (p : Fin 68) (bank : Fin 32) (h : List EccHit) (s : State) : Out :=
  let k := p.val * 32 + bank.val
  let row := Assoc.get 0 s.patrol k
  let s1 := s.eccHits p h
  .next (({ s1 with patrol := Assoc.set 0 s.patrol k ((row + 1) % 20480) } : State).bankCheck p)

/-- STORE_PATROL_READ (R76): one line of each bank is read; errors met are corrected or poisoned; with the last row
the pass ends, and the count of R474 starts again. -/
def execStorePatrolRead (p : Fin 68) (h : List EccHit) (s : State) : Out :=
  let s1 := s.eccHits p h
  let step := fun (m : List (Nat × Nat)) (b : Nat) =>
    let k := p.val * 32 + b
    Assoc.set 0 m k ((Assoc.get 0 m k + 1) % 20480)
  let wrapped := Assoc.get 0 s1.patrol (p.val * 32) + 1 = 20480
  let s2 := ({ s1 with patrol := (List.range 32).foldl step s1.patrol } : State).bankCheck p
  .next (if wrapped then { s2 with ueLines := s2.ueLines.filter fun e => e.1 / 2 ^ 20 ≠ p.val } else s2)

/-- CLUSTER_FAULT (R474, R475). -/
def execClusterFault (p : Fin 68) (s : State) : Out := .next (s.clusterFail p)

/-- SPARE_BRING_IN_COMPLETE (R91): the spare that passed takes the logical number and the place in the partition, SPAREIN
is raised and a notice record written; one that failed its tests leaves the number vacant. -/
def execSpareBringInComplete (p : Fin 68) (pass : Bool) (s : State) : Out :=
  match s.bringIns.find? fun b => b.spare = p.val with
  | none => .next s
  | some b =>
    if !s.pwr.vcore then .next s else
    let s1 := { s with bringIns := s.bringIns.erase b, mapDue := true }
    if pass then
      let s2 := ((s1.storeZero p).wr F.CLU_ID_LOGICAL p b.logical).wr F.CLU_STATE_STATE p (if b.part.isSome then 5 else 4)
      let s3 := match b.part with
        | some n => (s2.wr F.CLU_STATE_PART p n).wr F.CLU_STATE_PVALID p 1
        | none => s2
      .next (s3.raise F.CLU_CAUSE_SPAREIN p 1 [wd b.logical])
    else .next (s1.wr F.CLU_STATE_STATE p 3)

/-- ROUTER_FAULT (R88): every job ends with COMPUTE_FAULT, loads are refused from now on, and peers take the module for
a dead one. -/
def execRouterFault (s : State) : Out :=
  .next (({ s with pwr := { s.pwr with routerBad := true } }).jobEndAll 0x30 0).stopFabric

/-! ### Start-up tests and the cluster map (R18, R89, R90, R432) -/

/-- The valid copy of the cluster map with the higher sequence. -/
def State.clusterMap (s : State) : ClusterMap :=
  match s.nv.maps with
  | [some a, some b] => if a.seq < b.seq then b else a
  | [some a, none] => a
  | [none, some b] => b
  | _ => {}

/-- Ones in a 16-bit mask. -/
def ones16 (m : Nat) : Nat := ((List.range 16).filter fun i => m.testBit i).length

/-- The cluster that stands in each place of the physical order, with its spare where it failed (R90). -/
def placeClusters (good : Nat → Bool) (enabled : List Nat) (spareGood : List Nat) : List (Nat × Nat) × List Nat :=
  enabled.foldl (fun (r : List (Nat × Nat) × List Nat) p =>
    if good p then (r.1 ++ [(p, p)], r.2)
    else match chooseSpare p r.2 with
      | some q => (r.1 ++ [(p, q)], r.2.erase q)
      | none => r) ([], spareGood)

/-- The start-up cluster tests end (R90): engines found bad are disabled, failing clusters are replaced in R91's order,
and logical numbers are assigned in physical order with no gap.  A replaced cluster's place in a partition goes to
its spare, and a spare in service, or one that was being brought in, keeps the membership it has (R16). -/
def State.clusterTests (s : State) (pass : BitVec 68) (bad : List (Fin 68 × BitVec 16)) : State :=
  let m := s.clusterMap
  let mask := fun (p : Nat) => (bad.foldl (fun (w : Nat) (x : Fin 68 × BitVec 16) => if x.1.val = p then w ||| x.2.toNat else w)
    (s.rd F.CLU_ENG_MAP_FAILED p)) ||| Assoc.get 0 m.masks p
  let ok := fun (p : Nat) => pass.getLsbD p && !(m.failed.testBit p) && ones16 (mask p) ≤ 4
  let enabled := allP.filter fun p => !(m.held.elem p)
  let spareOk := m.held.filter fun q => q % 17 = 16 && ok q
  let pl := placeClusters ok enabled spareOk
  let places := pl.1.take 64
  let s1 := allP.foldl (fun s p =>
    let f := mask p
    (((s.setReg .CLU_STATE p 0).wr F.CLU_ID_LOGICAL p 0xFF).wr F.CLU_ENG_MAP_FAILED p f).wr F.CLU_ENG_MAP_NFAIL p (min 4 (ones16 f))) s
  let s2 := allP.foldl (fun s p =>
    if m.held.elem p then s.wr F.CLU_STATE_STATE p (if pl.2.elem p then 2 else if places.any fun x => x.2 = p then 4 else 3)
    else s.wr F.CLU_STATE_STATE p (if ok p then 4 else 6)) s1
  let s3 := (places.zipIdx).foldl (fun s (x : (Nat × Nat) × Nat) =>
    let s := s.wr F.CLU_ID_LOGICAL x.1.2 x.2
    let new := (s.bringIns.find? fun b => b.spare = x.1.2).bind BringIn.part
    match ((s.partOf x.1.2).orElse fun _ => s.partOf x.1.1).orElse fun _ => new with
    | some n => ((s.wr F.CLU_STATE_STATE x.1.2 5).wr F.CLU_STATE_PART x.1.2 n).wr F.CLU_STATE_PVALID x.1.2 1
    | none => s) s2
  let changed := allP.any fun p => (mask p ≠ Assoc.get 0 m.masks p) || (enabled.elem p && !(ok p) && !(m.failed.testBit p))
  { s3 with mapDue := s.mapDue || changed, bringIns := [] }

/-- CLUSTER_TEST_DONE (R90): the tests run with VCORE on. -/
def execClusterTestDone (pass : BitVec 68) (bad : List (Fin 68 × BitVec 16)) (s : State) : Out :=
  if s.pwr.vcore then
    let t := s.clusterTests pass bad
    .next { t with pwr := { t.pwr with tested := true } }
  else .next s

/-- The map that states the clusters as they are. -/
def State.mapNow (s : State) : ClusterMap :=
  let m := s.clusterMap
  { m with
    seq := m.seq + 1
    masks := (allP.filter fun p => s.rd F.CLU_ENG_MAP_FAILED p ≠ 0).map fun p => (p, s.rd F.CLU_ENG_MAP_FAILED p)
    failed := allP.foldl (fun w p => if s.rd F.CLU_STATE_STATE p = 6 then w ||| 2 ^ p else w) m.failed }

/-- CLUSTER_MAP_WRITE (R90, R432): the copy with the lower sequence is written, its sequence one above the other's.  The
write waits while the management cores restart (R484). -/
def execClusterMapWrite (s : State) : Out :=
  if s.mapDue && !s.mgmt.down then
    let new := s.mapNow
    let maps := match s.nv.maps with
      | [some a, some b] => if a.seq < b.seq then [some new, some b] else [some a, some new]
      | [none, b] => [some new, b]
      | [a, none] => [a, some new]
      | l => l
    .next { s with mapDue := false, nv := { s.nv with maps := maps } }
  else .next s

/-! ### Gating in Trim (R413) -/

/-- CLUSTER_GATE (R413): in Trim, an idle cluster of no partition, or of one with no RUN running, is gated. -/
def execClusterGate (p : Fin 68) (s : State) : Out :=
  let idle := match s.partOf p with
    | some n => !(s.runActive n)
    | none => true
  if s.rd F.PWR_PS_STAT_STATE = 1 ∧ s.enabled p = true ∧ idle = true then .next (s.wr F.CLU_STATE_GATED p 1) else .next s

/-- CLUSTER_UNGATE (R413). -/
def execClusterUngate (p : Fin 68) (s : State) : Out := .next (s.wr F.CLU_STATE_GATED p 0)

end Sys2Proof.Machine
end

