-- ==== Sys2Proof/Machine/Pattern.lean ====
section
/-! DEFINITION.  Reading the pattern container (R100 to R116), the job record (R97, R98) and the ring entry (R119), with
the structural rules each must pass. -/

namespace Sys2Proof.Machine

/-! ### Reading big lists of bytes -/

/-- `n` bytes of a list from offset `o`. -/
def sliceAt (l : List Byte) (o n : Nat) : List Byte := (l.drop o).take n

/-- Cut a list in pieces of `n`. -/
def piecesOf (n : Nat) (l : List Byte) : List (List Byte) :=
  (List.range (l.length / n)).map fun i => sliceAt l (i * n) n

/-! ### The section table (R101) -/

/-- An entry of the section table. -/
structure Section where
  typ : Nat
  slot : Nat
  size : Nat
  off : Nat
  deriving DecidableEq, Repr

/-- The section table of an image. -/
def readSections (l : List Byte) : List Section :=
  (List.range (leAt l 0x0A 2)).map fun i =>
    let o := 0x40 + 16 * i
    { typ := leAt l o 2, slot := leAt l (o + 2) 2, size := leAt l (o + 4) 4, off := leAt l (o + 8) 8 }

/-- Sections of a type and slot. -/
def sectionsOf (t : List Section) (typ slot : Nat) : List Section := t.filter fun x => x.typ = typ && x.slot = slot

/-- Rules of the table (R101): known types, slots below SLOTS or 0xFFFF by type, whole within the container at
multiples of 64, no overlap, each count as stated, the trailer last. -/
def sectionsOk (slots len : Nat) (t : List Section) : Bool :=
  t.all (fun x =>
    x.off % 64 = 0 && x.off + x.size ≤ len &&
      (if x.typ = 1 || x.typ = 2 || x.typ = 5 then x.slot < slots
       else (x.typ = 3 || x.typ = 4 || x.typ = 0xFFFF) && x.slot = 0xFFFF)) &&
  (t.zipIdx.all fun x => t.zipIdx.all fun y => x.2 ≥ y.2 || !(regionsMeet x.1.off x.1.size y.1.off y.1.size)) &&
  ((List.range slots).all fun s => (sectionsOf t 1 s).length = 1 && (sectionsOf t 2 s).length = 1 && (sectionsOf t 5 s).length ≤ 1) &&
  (sectionsOf t 3 0xFFFF).length = 1 && (sectionsOf t 4 0xFFFF).length = 1 && (sectionsOf t 0xFFFF 0xFFFF).length = 1 &&
  (match t.getLast? with
    | some x => x.typ = 0xFFFF && x.size = 256 && x.off + 256 = len
    | none => false)

/-- The bytes of a section. -/
def sectionBytes (l : List Byte) (t : List Section) (typ slot : Nat) : List Byte :=
  match sectionsOf t typ slot with
  | x :: _ => sliceAt l x.off x.size
  | [] => []

/-! ### Streams, lists and store images (R101, R102) -/

/-- Read `n` streams of items of `size` bytes by their descriptors; nothing when one runs out of the section or
starts within the descriptors. -/
def readStreams (n head size : Nat) (sec : List Byte) : Option (List (List (List Byte))) :=
  let ds := (List.range n).map fun i => (leAt sec (8 * i) 4, leAt sec (8 * i + 4) 4)
  if ds.all fun x => x.2 = 0 || (head ≤ x.1 && x.1 + x.2 * size ≤ sec.length) then
    some (ds.map fun x => piecesOf size (sliceAt sec x.1 (x.2 * size)))
  else none

/-- Records of a STORE_INIT section: header of 8 bytes, data, padding to 64 bytes; every range within the pattern
area. -/
def readStoreInit : Nat → List Byte → Option (List (Nat × List Byte))
  | 0, l => if l = [] then some [] else none
  | k + 1, l =>
    if l = [] then some []
    else if l.length < 8 then none
    else
      let a := leAt l 0 4
      let n := leAt l 4 4
      let step := (8 + n + 63) / 64 * 64
      if a + n ≤ patTop && step ≤ l.length then (readStoreInit k (l.drop step)).map fun t => (a, sliceAt l 8 n) :: t
      else none

/-- Whether an engine instruction uses a global token. -/
def engGlobal (i : EngInstr) : Bool := (i.waitEn && i.waitG) || (i.sigEn && i.sigG)

/-- Whether a descriptor uses a global token. -/
def bobGlobal (d : BobDesc) : Bool := (d.waitEn && d.waitG) || (d.sigEn && d.sigG)

/-- Whether a bobbin descriptor's reserved bytes are zeros (R110). -/
def bobBytesOk (l : List Byte) : Bool := zerosAt l 61 3

/-- Split a stream at its END markers, each segment with its END. -/
def segments {α : Type} (isEnd : α → Bool) : List α → List α → List (List α)
  | acc, [] => if acc = [] then [] else [acc.reverse]
  | acc, x :: t => if isEnd x then (x :: acc).reverse :: segments isEnd [] t else segments isEnd (x :: acc) t

/-- Count of END markers (R102).  Items after the last END belong to no segment; the spec counts the markers alone, and here
such a stream fails the check (log entry 64). -/
def endsOk {α : Type} (isEnd : α → Bool) (n : Nat) (l : List α) : Bool :=
  (l.filter isEnd).length = n && (match l.getLast? with
    | some x => isEnd x
    | none => false)

/-- An END instruction. -/
def engIsEnd (i : EngInstr) : Bool := i.opc = 0x3F

/-- An END descriptor. -/
def bobIsEnd (d : BobDesc) : Bool := d.opc = 0

/-! ### The container (R100 to R116) -/

/-- Sixteen-bit counts of a token plan. -/
def readCounts (n : Nat) (l : List Byte) : List Nat := (List.range n).map fun i => leAt l (2 * i) 2

/-- Collect the successes of a list, or none. -/
def allSome {α : Type} : List (Option α) → Option (List α)
  | [] => some []
  | some a :: t => (allSome t).map fun l => a :: l
  | none :: _ => none

/-- Read and check a pattern container (R100 to R113, R115, R116); nothing where a rule is broken. -/
def readPattern (l : List Byte) : Option Pattern :=
  let slots := leAt l 6 2
  let entries := leAt l 8 2
  let nsect := leAt l 0x0A 2
  let flags := leAt l 0x0C 4
  if !(leAt l 0 4 = 0x54505853 && leAt l 4 2 = 1 && 1 ≤ slots && slots ≤ 64 && 1 ≤ entries && entries ≤ 16 && flags < 8 &&
    leAt l 0x10 8 = l.length && zerosAt l 0x18 40 && 0x40 + 16 * nsect ≤ l.length) then none
  else
    let t := readSections l
    if !(sectionsOk slots l.length t) then none
    else
      let plan := sectionBytes l t 3 0xFFFF
      let place := sectionBytes l t 4 0xFFFF
      let engs := allSome ((List.range slots).map fun s =>
        (readStreams 16 128 32 (sectionBytes l t 1 s)).map fun q => q.map fun st => st.map readEng)
      let bobs := allSome ((List.range slots).map fun s =>
        let sec := sectionBytes l t 2 s
        if zerosAt sec 32 32 then (readStreams 4 64 64 sec).bind fun q =>
          if q.all fun st => st.all bobBytesOk then some (q.map fun st => st.map readBob) else none
        else none)
      let inits := allSome (((t.filter fun x => x.typ = 5)).map fun x =>
        (readStoreInit (x.size / 64 + 1) (sliceAt l x.off x.size)).map fun r => r.map fun y => (x.slot, y.1, y.2))
      let trailer := sectionBytes l t 0xFFFF 0xFFFF
      match engs, bobs, inits with
      | some es, some bs, some ini =>
        let allE := es.flatten.flatten
        let allB := bs.flatten.flatten
        let ok := plan.length = 512 * slots + 128 && place.length = 4 + 4 * slots && leAt place 0 2 = slots && zerosAt place 2 2 &&
          ((List.range slots).all fun s => zerosAt place (5 + 4 * s) 3) && zerosAt trailer 193 63 &&
          allE.all engOk && allB.all (bobOk slots) &&
          es.all (fun q => q.all (endsOk engIsEnd entries)) && bs.all (fun q => q.all (endsOk bobIsEnd entries)) &&
          (flags.testBit 0 || !(allE.any fun i => i.opc = 0x22)) && (flags.testBit 1 || !(allE.any EngInstr.relax)) &&
          (flags.testBit 2 || !(allE.any engGlobal || allB.any bobGlobal))
        if ok then
          some {
            slots := slots, entries := entries, hasBeacon := ((es.head?.bind List.head?).getD []).any fun i => i.opc = 0x22
            eng := es, bob := bs
            locals := (List.range slots).map fun s => readCounts 256 (plan.drop (512 * s))
            globals := readCounts 64 (plan.drop (512 * slots))
            place := (List.range slots).map fun s => byteAt place (4 + 4 * s)
            init := ini.flatten }
        else none
      | _, _, _ => none

/-! ### Signatures (R116) -/

/-- The signed part of an image that ends in a trailer of R116: every byte before the signature. -/
def signedPart (l : List Byte) : List Byte := l.take (l.length - 256 + 97)

/-- The trailer's key. -/
def trailerKey (l : List Byte) : List Byte := sliceAt l (l.length - 256) 97

/-- The trailer's signature, r then s. -/
def trailerSig (l : List Byte) : List Byte := sliceAt l (l.length - 256 + 97) 96

/-- Whether an image's trailer signature verifies. -/
def trailerVerifies (l : List Byte) : Bool :=
  256 ≤ l.length && Config.ecdsaVerify (trailerKey l) (Config.sha384 (signedPart l)) (trailerSig l)

/-! ### The job record (R97, R98) -/

/-- The first offset at which a job record is not well formed (R97 to R99 step 1), in a bundle `l`: a bundle that ends within
the PATTERNS table holds no image, so its first entry is the bad one. -/
def jobRecordBad (l : List Byte) : Option Nat :=
  let npat := leAt l 6 2
  let zero := fun (o n : Nat) => ((List.range n).find? fun i => byteAt l (o + i) ≠ 0).map fun i => o + i
  let need := 0xC0 + 64 * npat
  let at_ := fun (b : Bool) (o : Nat) => if b then none else some o
  let fields : List (Option Nat) := [
    at_ (leAt l 0 4 = 0x424A5853) 0, at_ (leAt l 4 2 = 1) 4, at_ (1 ≤ npat && npat ≤ 8) 6,
    at_ (byteAt l 0x10 ≤ 1) 0x10, at_ (byteAt l 0x11 < 4) 0x11, at_ (byteAt l 0x12 < 2) 0x12, zero 0x13 1, zero 0x20 16,
    at_ (byteAt l 0x60 ≤ 1) 0x60, zero 0x61 31, at_ (0xC0 ≤ l.length) l.length]
  let entries : List (Option Nat) := (List.range npat).map fun i =>
    let o := leAt l (0xC0 + 64 * i) 8
    let n := leAt l (0xC8 + 64 * i) 8
    at_ (need ≤ o && o + n ≤ l.length) (0xC0 + 64 * i)
  match fields.findSome? id with
  | some o => some o
  | none => entries.findSome? id

/-- A pattern image of a bundle. -/
def bundleImage (l : List Byte) (i : Nat) : List Byte := sliceAt l (leAt l (0xC0 + 64 * i) 8) (leAt l (0xC8 + 64 * i) 8)

/-- Whether pattern `i` passes step 4 of R99. -/
def imageSigned (keys : Option (List (List Byte))) (l : List Byte) (i : Nat) : Bool :=
  let im := bundleImage l i
  256 ≤ im.length && Config.sha384 im = sliceAt l (0xD0 + 64 * i) 48 && Config.sha384 (trailerKey im) = sliceAt l 0x30 48 &&
    trailerVerifies im && (match keys with
      | some ks => ks.elem (sliceAt l 0x30 48)
      | none => true)

/-- The patterns of a bundle, with the job record's ranks where PLACE_OVR is 1. -/
def bundlePatterns (l : List Byte) : List (Option Pattern) :=
  (List.range (leAt l 6 2)).map fun i =>
    (readPattern (bundleImage l i)).map fun p =>
      if byteAt l 0x60 = 1 then { p with place := (List.range p.slots).map fun s => byteAt l (0x80 + s) } else p

/-- The first slot that names no rank of the partition's `k` clusters or a rank of an earlier slot (R99 step 6). -/
def placeBad (k : Nat) (place : List Nat) : Option Nat :=
  ((List.range place.length).find? fun i =>
    k ≤ getAt 0 place i || (place.take i).elem (getAt 0 place i))

/-! ### Ring entries (R119, R121) -/

/-- Source block bytes of a LOAD's SRC_FMT, and the block format stored; nothing for an unsupported code (R56, R121). -/
def srcFormat (f : Nat) : Option (Nat × Option Nat × Bool) :=
  if f ≤ 5 then some (blkBytes f, some f, false)
  else if f = 6 then some (2, none, false)
  else if f = 7 then some (4, none, false)
  else if f = 0x10 then some (33, some 3, true)
  else if f = 0x11 then some (33, some 4, true)
  else if f = 0x12 then some (25, some 1, true)
  else if f = 0x13 then some (25, some 2, true)
  else if f = 0x14 then some (17, some 0, true)
  else if f = 0x15 then some (33, some 5, true)
  else if f = 0x20 then some (1, none, false)
  else none

/-- The first bad byte of a ring entry (R119): an unlisted opcode, a non-zero reserved byte, a value out of range. -/
def entryBad (l : List Byte) : Option Nat :=
  let zero := fun (o n : Nat) => ((List.range n).find? fun i => byteAt l (o + i) ≠ 0).map fun i => o + i
  let at_ := fun (b : Bool) (o : Nat) => if b then none else some o
  let head : List (Option Nat) := [at_ (byteAt l 0 ≤ 7) 0, at_ (byteAt l 1 < 2) 1, zero 2 2]
  let rest : List (Option Nat) := match byteAt l 0 with
    | 1 => [zero 24 40]
    | 2 => [at_ (leAt l 24 8 % 64 = 0) 24, at_ (byteAt l 33 < 16 || byteAt l 33 = 0xFF) 33, at_ (byteAt l 34 < 2) 34,
        at_ (byteAt l 34 ≠ 1 || (1 ≤ byteAt l 35 && byteAt l 35 ≤ 64)) 35, zero 36 4, zero 48 16]
    | 3 => [zero 10 6, zero 48 16]
    | 5 => [at_ (byteAt l 8 < 64) 8, at_ (1 ≤ byteAt l 9) 9, zero 10 54]
    | 6 => [zero 16 48]
    | _ => [zero 8 56]
  (head ++ rest).findSome? id

end Sys2Proof.Machine
end

