-- ==== Sys2Proof/Machine/Hostio.lean ====
section
/-! DEFINITION.  What a port sends (R214, R216, R220, R221); queue pairs as requester (R222 to R228): requests sent and awaited, retries and errors; and the
clearing of a partition's ETH entries (R237). -/

namespace Sys2Proof.Machine

/-! ### What a port sends -/

/-- Change a port's bookkeeping. -/
def State.modPort (s : State) (p : Nat) (f : EthPort → EthPort) : State := { s with ports := modifyAt p f s.ports }

/-- A port's bookkeeping. -/
def State.port (s : State) (p : Nat) : EthPort := getAt {} s.ports p

/-- ADM of a port: 0 DOWN, 1 MGMT, 2 MKA, 3 OPEN (R217). -/
def State.adm (s : State) (p : Nat) : Nat := s.rd F.ETH_PORT_STAT_ADM p

/-- The transmit packet number at which a new SAK is asked for (R220). -/
abbrev pnLimit : Nat := 0xC000000000000000

/-- An MKPDU of a port's participant (R220): of its octets the model gives the key-server priority of the configuration
image, a value drawn for it (R240), the CKN, and whether it asks for a new SAK (log entry 6). -/
def State.mkpdu (s : State) (p : Nat) (ckn : List Byte) (ask : Bool) : State :=
  let d := s.freeBytes 12
  d.2.emit (.frame { port := p } 0x888E (BitVec.ofNat 8 s.conf.ksPrio :: (d.1 ++ ckn ++ [if ask then 1 else 0])))

/-- The header of a frame on VLAN entry `i`: the entry's VID and PCP (R214), protected once the port is open (R221). -/
def State.onEntry (s : State) (i dscp ecn : Nat) : EthHdr :=
  { port := i / 32, tag := some (s.rd F.ETH_VLAN_VID i, s.rd F.ETH_VLAN_PCP i), secured := decide (s.adm (i / 32) = 3), dscp := dscp, ecn := ecn }

/-- Put a frame on the wire; a protected one takes the next transmit packet number (R220). -/
def State.putEth (s : State) (h : EthHdr) (e : Emit) : State :=
  let s1 := s.emit e
  if h.secured then
    let n := (s.port h.port).txPn + 1
    let s2 := s1.modPort h.port fun x => { x with txPn := n }
    match (s.port h.port).cak with
    | some c => if n = pnLimit then s2.mkpdu h.port c.1 true else s2
    | none => s2
  else s1

/-- Whether a priority of a port is paused, or frames of it still wait (R216). -/
def State.prioHeld (s : State) (p prio : Nat) : Bool :=
  ((s.port p).paused.any fun x => x.1 = prio && decide (s.up < x.2)) || (s.port p).waiting.any fun x => x.1 = prio

/-- Send a frame: one of a paused priority waits (R216).  An untagged frame has no priority, and does not wait
(log entry 87). -/
def State.sendEth (s : State) (h : EthHdr) (e : Emit) : State :=
  match h.tag with
  | some t => if s.prioHeld h.port t.2 then s.modPort h.port fun x => { x with waiting := x.waiting ++ [(t.2, e)] } else s.putEth h e
  | none => s.putEth h e

/-- The header of what waits. -/
def Emit.header : Emit → EthHdr
  | .roce h _ _ => h
  | .frame h _ _ => h
  | _ => { port := 0 }

/-- The frames of a port whose pause has ended go out, in order. -/
def State.flushPort (s : State) (p : Nat) : State :=
  let x := s.port p
  let on := fun (prio : Nat) => x.paused.any fun y => y.1 = prio && decide (s.up < y.2)
  let s1 := s.modPort p fun y => { y with
    paused := y.paused.filter fun z => decide (s.up < z.2)
    waiting := y.waiting.filter fun w => on w.1 }
  (x.waiting.filter fun w => !(on w.1)).foldl (fun s w => s.putEth w.2.header w.2) s1

/-! ### Queue pairs -/

/-- A queue pair's bookkeeping. -/
def State.qp (s : State) (q : Nat) : Qp := Assoc.get {} s.qps q

/-- Change a queue pair's bookkeeping. -/
def State.modQp (s : State) (q : Nat) (f : Qp → Qp) : State := { s with qps := Assoc.set {} s.qps q (f (s.qp q)) }

/-- STATE of a queue pair: 0 RESET, 1 RTS, 2 ERR. -/
def State.qpState (s : State) (q : Nat) : Nat := s.rd F.ETH_QP_STAT_STATE q

/-- Path MTU in bytes (ETH_QP_PARAM.MTU). -/
def State.mtu (s : State) (q : Nat) : Nat := 1024 * 2 ^ s.rd F.ETH_QP_PARAM_MTU q

/-- The port a queue pair is bound to. -/
def State.qpPort (s : State) (q : Nat) : Nat := s.rd F.ETH_QP_BIND_PORT q

/-- Whether the queue pair's data VLAN is open: its port in OPEN and its entry a valid data entry of its partition
(R217, R222). -/
def State.qpOpen (s : State) (q : Nat) : Bool :=
  let p := s.qpPort q
  let v := 32 * p + s.rd F.ETH_QP_BIND_VLAN q
  s.rd F.ETH_PORT_STAT_ADM p = 3 && s.flag F.ETH_VLAN_VALID v && s.rd F.ETH_VLAN_CLASS v = 1 &&
    s.rd F.ETH_VLAN_PART v = s.rd F.ETH_QP_BIND_PART q

/-- The header of a queue pair's packets: its VLAN entry, its DSCP, ECT(0) (R222, R227). -/
def State.qpHdr (s : State) (q : Nat) : EthHdr :=
  s.onEntry (32 * s.qpPort q + s.rd F.ETH_QP_BIND_VLAN q) (s.rd F.ETH_QP_PARAM_DSCP q) 2

/-- Send a RoCEv2 packet of a queue pair. -/
def State.roce (s : State) (q : Nat) (p : RocePkt) : State := s.sendEth (s.qpHdr q) (.roce (s.qpHdr q) q p)

/-- Put a request on the wire, when the data VLAN is open.  A READ partly answered asks for what is missing, under the PSN
that its next response packet has (R228). -/
def State.wireReq (s : State) (q : Nat) (r : OutReq) : State :=
  if s.qpOpen q then
    match r.read with
    | some (va, rkey, len) => s.roce q (.read ((r.psn + r.got / s.mtu q) % 2 ^ 24) (va + r.got) rkey (len - r.got))
    | none => s.roce q (.send r.psn r.imm)
  else s

/-- Send requests that wait while fewer than 16 READs are outstanding (R223); the next send PSN advances. -/
def State.pumpQp (s : State) (q : Nat) : Nat → State
  | 0 => s
  | k + 1 =>
    let x := s.qp q
    match x.queued with
    | [] => s
    | r :: t =>
      if r.read.isSome && 16 ≤ (x.out.filter fun o => o.read.isSome).length then s
      else
        let psn := s.rd F.ETH_QP_SPSN_VALUE q
        let r1 := { r with psn := psn }
        let s1 := (s.modQp q fun x => { x with queued := t, out := x.out ++ [r1] }).wr F.ETH_QP_SPSN_VALUE q (psn + r.span)
        (s1.wireReq q r1).pumpQp q k

/-- Change the command in flight with a ring and number. -/
def State.modCmd (s : State) (i c : Nat) (f : Cmd → Cmd) : State :=
  { s with cmds := s.cmds.map fun x => if x.ring = i ∧ x.seq = c then f x else x }

/-- The command in flight with a ring and number. -/
def State.cmd (s : State) (i c : Nat) : Option Cmd := s.cmds.find? fun x => x.ring = i && x.seq = c

/-- A command is over but for its record: status noted, ready. -/
def State.cmdEnd (s : State) (i c status origin : Nat) : State :=
  s.modCmd i c fun x => if x.phase = .ready then x else { x.note status origin with phase := .ready }

/-- A queue pair goes to ERR (R225, R228): QP_ERR is raised, its requests end, and the commands they feed complete
with REMOTE.  `data` is the warning record's content where there is one, `quiet` drops the record: the module as responder
answers what it owes and the NAK; as requester it answers nothing any more. -/
def State.qpError (s : State) (q syndrome : Nat) (quiet : Bool) (data : Option (List Word)) : State :=
  if s.qpState q = 1 then
    let p := s.qpPort q
    let s1 := (s.wr F.ETH_QP_STAT_STATE q 2).wr F.ETH_QP_STAT_SYNDROME q syndrome
    let s2 := match data with
      | some d => s1.raise F.ETH_PORT_CAUSE_QP_ERR p 2 d (s.rd F.ETH_QP_BIND_PART q)
      | none => if quiet then s1.raiseBit F.ETH_PORT_CAUSE_QP_ERR p else s1.raise F.ETH_PORT_CAUSE_QP_ERR p 0 [wd q]
    let x := s2.qp q
    let s2' := if quiet then s2 else { s2 with owed := s2.owed.filter fun o => o.qp ≠ q }
    let s3 := s2'.modQp q fun x => { x with out := [], queued := [], write := none }
    (x.out ++ x.queued).foldl (fun s r => match r.cmd with
      | some (i, c) => s.cmdEnd i c 0x25 q
      | none => s) s3
  else s

/-- Ask the host for data by RDMA READ on a queue pair (R121, R223), whichever partition it is bound to (log entry 83); the
command ends with REMOTE where the queue pair is not in RTS. -/
def State.hostRead (s : State) (q i c va rkey len : Nat) : State :=
  if s.qpState q = 1 then
    let r : OutReq := { psn := 0, span := max 1 ((len + s.mtu q - 1) / s.mtu q), read := some (va, rkey, len), imm := 0, cmd := some (i, c) }
    (s.modQp q fun x => { x with queued := x.queued ++ [r] }).pumpQp q 16
  else s.cmdEnd i c 0x25 q

/-- A notification (R125): a SEND with immediate. -/
def State.hostNotify (s : State) (q i c : Nat) : State :=
  if s.qpState q = 1 then
    let r : OutReq := { psn := 0, span := 1, read := none, imm := i % 64 * 2 ^ 26 + c % 2 ^ 26, cmd := none }
    (s.modQp q fun x => { x with queued := x.queued ++ [r] }).pumpQp q 16
  else s

/-- Draw a new rkey tag (R224): the security core's random number, free here. -/
def State.drawTag (s : State) : Nat × State := s.freeNat (2 ^ 24)

/-- The words of a queue pair. -/
def qpRegs : List Reg := [.ETH_QP_BIND, .ETH_QP_DQPN, .ETH_QP_SPSN, .ETH_QP_RPSN, .ETH_QP_DGID0, .ETH_QP_DGID1, .ETH_QP_DGID2,
  .ETH_QP_DGID3, .ETH_QP_DMAC_LO, .ETH_QP_DMAC_HI, .ETH_QP_PARAM, .ETH_QP_STAT]

/-- Clear a register instance to its reset value. -/
def State.clearReg (s : State) (i : Nat) (r : Reg) : State := s.setReg r i (r.reset i)

/-- Queue pairs of a partition: of those with a word or bookkeeping that is not as at reset, the ones whose BIND names it. -/
def State.partQps (s : State) (n : Nat) : List Nat :=
  let of_ := s.regs.filterMap fun (e : Nat × Word) => if (qpRegs.map Reg.ctorIdx).elem (e.1 % 1024) then some (e.1 / 1024) else none
  ((of_ ++ s.qps.map Prod.fst).foldl (fun l q => if l.elem q then l else l ++ [q]) []).filter fun q => s.rd F.ETH_QP_BIND_PART q = n

/-- Clear the ETH entries of a partition (R237): its queue pairs, windows and data entries, and a new register-page tag. -/
def State.clearEth (s : State) (n : Nat) : State :=
  let s1 := (s.partQps n).foldl (fun s q => (qpRegs.foldl (fun s r => s.clearReg q r) s).modQp q fun _ => {}) s
  let s2 := (List.range 8).foldl (fun s w =>
    [Reg.ETH_MW_BASE_LO, .ETH_MW_BASE_HI, .ETH_MW_LEN, .ETH_MW_CTL].foldl (fun s r => s.clearReg (8 * n + w) r) s) s1
  let s3 := ((List.range 64).filter fun v => s2.rd F.ETH_VLAN_CLASS v = 1 && s2.rd F.ETH_VLAN_PART v = n).foldl
    (fun s v => [Reg.ETH_VLAN, .ETH_IPADDR0, .ETH_IPADDR1, .ETH_IPADDR2, .ETH_IPADDR3].foldl (fun s r => s.clearReg v r) s) s2
  let d := s3.drawTag
  d.2.wr F.ETH_DB_TAG_TAG n d.1

end Sys2Proof.Machine
end

