-- ==== Sys2Proof/Machine/Links.lean ====
section
/-! DEFINITION.  The commands of the seams (R159 to R180, R510): flit slots, received flits, link-management messages,
lane and link faults, training, and the cable ends. -/

namespace Sys2Proof.Machine

/-- FLIT_TRANSMIT (R165, R167, R169, R177): one flit slot of a link.  A link in training sends its HELLO, a MISWIRED link no
DATA flit. -/
def execFlitTransmit (j : Fin 144) (s : State) : Out :=
  if s.lkRuns j || s.lkState j = lkTraining then
    let r := (s.link j).slot (s.lkCarries j) (s.rd F.FAB_PORT_ARB_W_ORD (j.val / 8)) (s.rd F.FAB_PORT_ARB_W_UNORD (j.val / 8))
    .next ((s.modLink j fun _ => r.2).emit (.flit j r.1))
  else .next s

/-- FEC codewords met with a flit (R166): for each lane of the port, whether uncorrectable. -/
def State.fecCount (s : State) (p : Nat) (l : List (Fin 8 × Bool)) : State :=
  l.foldl (fun s x => s.count (if x.2 then F.FAB_LANE_FEC_UE_COUNT else F.FAB_LANE_FEC_CE_COUNT) (8 * p + x.1.val)) s

/-- Apply a good flit's header: ACK, credits and NAK.  A NAK starts a replay, which counts where a flit is to be sent again; the
eighth in a row for one SEQ is a link fault (R167, R175, R179). -/
def State.flitHeader (s : State) (j : Nat) (f : Flit) : State × Bool :=
  let l := (s.link j).header f
  let s1 := s.modLink j fun _ => l
  if f.nak then
    let s2 := if l.replay = [] then s1 else s1.count F.FAB_LINK_REPLAY_CNT_COUNT j
    if 8 ≤ l.nakCount then (s2.linkFault j false, false) else (s2, true)
  else (s1, true)

/-- A packet that ends in a flit is taken in, or discarded and counted when its CRC or a reserved field is bad
(R185); a discarded one leaves the receive buffer (R170). -/
def State.packetIn (s : State) (j v : Nat) (l : List Byte) : State :=
  match readPacket l with
  | some p => { s with fab := { s.fab with inbox := s.fab.inbox ++ [(j, p)] } }
  | none => (s.modLink j fun k => k.giveBack v (l.length / 244)).dropPacket

/-- A sequenced flit in its turn is accepted (R167). -/
def State.inTurn (s : State) (j : Nat) : State := s.modLink j fun l => { l with rxAck := (l.rxAck + 1) % 256, nakSent := false }

/-- A sequenced flit out of turn is discarded: one ahead calls for a NAK, a duplicate does not (R167). -/
def State.outOfTurn (s : State) (j q : Nat) (copy : Bool) : State :=
  if seqDist (s.link j).rxAck q < 64 then s.modLink j fun l => l.discard copy else s

/-- A good DATA flit (R167, R170, R177): a MISWIRED link carries none. -/
def State.dataFlit (s : State) (j : Nat) (f : Flit) (copy : Bool) : State :=
  if !(s.lkCarries j) then s
  else
    let s1 := if s.psState = psFreewheel then s.wakeEvent F.PWR_WAKE_SRC_FABRIC else s
    if f.seq.toNat = (s1.link j).rxAck then
      let s2 := s1.inTurn j
      let r := (s2.link j).assemble f
      let s3 := s2.modLink j fun _ => r.1
      match r.2 with
      | some bytes => s3.packetIn j f.vc.toNat bytes
      | none => s3
    else s1.outOfTurn j f.seq.toNat copy

/-- Lanes fail in one detection window (R171 to R173, R178): one LANE_DROP and one REMAP, a replay in progress stops and
starts again from ACK after it; a keep-alive lane is replaced by the next good lane; without a lane left the link faults. -/
def State.laneFault (s : State) (j : Nat) (mask : BitVec 8) : State :=
  let p := j / 8
  let hit := (lanesOf mask).filter fun l => (s.activeLanes j).elem (8 * p + l)
  if !(s.lkRuns j) || hit = [] then s
  else
    let s1 := s.dropLanes j hit 4 true
    if s1.activeLanes j = [] then (s.setLanes p hit 4).linkFault j false
    else
      let s2 := (s1.ctrlNow j (.laneDrop mask false)).ctrlNow j (.remap mask)
      if ((s.link j).replayPos).isSome then s2.replayFrom j else s2

/-- Lanes on which two codewords in a row were uncorrectable are faulty (R171): `fec` lists the corrected and the uncorrectable
codewords met with a flit, and a lane not listed met good ones. -/
def State.fecLanes (s : State) (j : Nat) (fec : List (Fin 8 × Bool)) : State :=
  let bad := (s.link j).badLanes
  let lane := fun (l : Nat) => (fec.filter fun x => x.1.val = l).map Prod.snd
  let run := fun (l : Nat) => (lane l).foldl (fun (a : Bool × Bool) b => (b, a.2 || (a.1 && b))) (bad.elem l, false)
  let lanes := List.range 8
  let s1 := s.modLink j fun k => { k with badLanes := lanes.filter fun l => lane l ≠ [] && (run l).1 }
  let dead := lanes.filter fun l => lane l ≠ [] && (run l).2
  if dead = [] then s1 else s1.laneFault j (BitVec.ofNat 8 (packBits (lanes.map fun l => dead.elem l)))

/-- FLIT_RECEIVE (R164 to R167, R170, R171): a flit arrives, good or bad; `copy` says that a bad flit is a replayed copy
of the awaited one, and `fec` names the codewords FEC corrected or could not.  A flit with an uncorrectable codeword, a bad
CRC or a field that is not valid is discarded whole.  A good DATA flit with the awaited SEQ is accepted; a CONTROL flit is
accepted by its message's own command. -/
def execFlitReceive (j : Fin 144) (f : Flit) (good copy : Bool) (fec : List (Fin 8 × Bool)) (s : State) : Out :=
  if s.lkRuns j || s.lkState j = lkTraining then
    let s1 := s.fecCount (j.val / 8) fec
    if !good || !(flitOk f) || fec.any Prod.snd then .next ((s1.modLink j fun l => l.discard copy).fecLanes j fec)
    else
      let h := s1.flitHeader j f
      .next ((if !h.2 || f.typ ≠ 1 then h.1 else h.1.dataFlit j f copy).fecLanes j fec)
  else .next s

/-- A CONTROL message with SEQ `q` on a link that passes flits: taken by `f` in its turn, discarded out of turn (R167). -/
def ctrlRow (j q : Nat) (f : State → State) (s : State) : Out :=
  if s.lkRuns j then .next (if q = (s.link j).rxAck then f (s.inTurn j) else s.outOfTurn j q false) else .next s

/-- HELLO (R177, R182): in training the peer's identity, buffers and keep-alive capability are kept; a module with this
module's ID raises DUPID. -/
def execHello (j : Fin 144) (q : BitVec 8) (h : Hello) (s : State) : Out :=
  if s.lkState j = lkTraining ∧ q.toNat = (s.link j).rxAck then
    let s1 := ((((s.inTurn j).wr F.FAB_LINK_PEER_VALID j 1).wr F.FAB_LINK_PEER_MODULE j h.module.toNat).wr F.FAB_LINK_PEER_PORT j
      h.port.toNat).wr F.FAB_LINK_PEER_LINK j h.link.toNat
    let s2 := s1.modLink j fun l => { l with
      peerWidth := h.width.toNat, peerBuf := h.vcbuf.map BitVec.toNat, peerKeep := h.keepalive }
    if h.module.toNat = s.myId then
      .next (({ s2 with fab := { s2.fab with dupId := true } }).raise F.FAB_TR_CAUSE_DUPID 0 0 [wd s.myId])
    else .next s2
  else .next s

/-- LANE_DROP (R172): the peer names lanes that its link loses; they leave this end at its REMAP. -/
def execLaneDrop (j : Fin 144) (q mask : BitVec 8) (planned : Bool) (s : State) : Out :=
  ctrlRow j q.toNat (fun s => s.modLink j fun l => { l with dropDue := l.dropDue ||| mask.toNat, dropPlan := planned }) s

/-- LANE_ADD (R174): the peer names lanes that rejoin at its REMAP. -/
def execLaneAdd (j : Fin 144) (q mask : BitVec 8) (s : State) : Out :=
  ctrlRow j q.toNat (fun s => s.modLink j fun l => { l with addDue := l.addDue ||| mask.toNat }) s

/-- The lanes a LANE_DROP named leave this end too: REMAP is sent, then the replay from ACK, none after a planned drop; without
a lane left the link faults (R172, R173, R178). -/
def State.remapDrop (s : State) (j : Nat) (gone : List Nat) (planned : Bool) : State :=
  let mask := BitVec.ofNat 8 ((gone.map fun l => 2 ^ l).sum)
  let s1 := s.dropLanes j gone 4 true
  if s1.activeLanes j = [] then (s.setLanes (j / 8) gone 4).linkFault j false
  else
    let s2 := s1.ctrlNow j (.remap mask)
    if planned then s2 else s2.replayFrom j

/-- Lanes rejoin at this end (R174): REMAP is sent, with no replay, and LANE_ADD raised. -/
def State.remapAdd (s : State) (j : Nat) (back : List Nat) : State :=
  let mask := BitVec.ofNat 8 ((back.map fun l => 2 ^ l).sum)
  (((s.setLanes (j / 8) back 2).linkWidth j).ctrlNow j (.remap mask)).raisePort F.FAB_PORT_CAUSE_LANE_ADD j 0

/-- The lanes that were stopped for keep-alive and have retrained rejoin at one REMAP (R178). -/
def State.remapWide (s : State) (j : Nat) (back : List Nat) : State :=
  let mask := BitVec.ofNat 8 ((back.map fun l => 2 ^ l).sum)
  let keep := (linkLanes (s.mode j) (j % 8)).filter fun l => s.rd F.FAB_LANE_STAT_STATE (j / 8 * 8 + l) = 3
  let s1 := s.setLanes (j / 8) (keep ++ back) 2
  let s2 := if s1.lkState j = lkKeep then s1.wr F.FAB_LINK_STAT_STATE j lkUp else s1
  (s2.linkWidth j).ctrlNow j (.remap mask)

/-- REMAP (R172, R174, R178): the receiver switches to the peer's lanes, and the NAK count starts again.  Lanes a LANE_DROP
named leave, lanes a LANE_ADD named come back, but not one that is OUT or disabled here, and lanes retraining after a WIDEN
that are named come into use; this end answers with its own REMAP. -/
def execRemap (j : Fin 144) (q mask : BitVec 8) (s : State) : Out :=
  ctrlRow j q.toNat (fun s =>
    let l := s.link j
    let p := j.val / 8
    let at_ := fun (x : Nat) => s.rd F.FAB_LANE_STAT_STATE (8 * p + x)
    let mine := linkLanes (s.mode j) (j.val % 8)
    let s1 := s.modLink j fun l => { l with nakCount := 0, dropDue := 0, dropPlan := false, addDue := 0 }
    let gone := mine.filter fun x => l.dropDue.testBit x && s.laneOn (8 * p + x)
    let back := mine.filter fun x => l.addDue.testBit x && (at_ x = 1 || at_ x = 4)
    let wide := mine.filter fun x => mask.getLsbD x && at_ x = 1
    if gone ≠ [] then s1.remapDrop j gone l.dropPlan
    else if back ≠ [] then s1.remapAdd j back
    else if wide ≠ [] then s1.remapWide j wide
    else s1) s

/-- Narrow a port to its keep-alive lane (R178): link 0 keeps its lowest good lane, the other lanes and links stop
as planned, those in training among them. -/
def State.narrowPort (s : State) (p : Nat) : State :=
  let s1 := ((List.range 8).filter fun k => (k ≠ 0 && s.lkRuns (8 * p + k)) || s.lkState (8 * p + k) = lkTraining).foldl
    (fun s k => s.linkStop (8 * p + k) lkDown) s
  if s1.lkRuns (8 * p) then
    match s1.activeLanes (8 * p) with
    | l :: t =>
      let s2 := (s1.setLanes p (t.map fun x => x - 8 * p) 0).wr F.FAB_LANE_STAT_STATE l 3
      let s3 := if s2.lkCarries (8 * p) then s2.wr F.FAB_LINK_STAT_STATE (8 * p) lkKeep else s2
      (s3.wr F.FAB_LINK_STAT_WIDTH (8 * p) 1).portStat p
    | [] => s1
  else s1

/-- NARROW (R178): the peer's message on a link; link 0 keeps one lane, another link stops as planned. -/
def execNarrow (j : Fin 144) (q : BitVec 8) (s : State) : Out :=
  ctrlRow j q.toNat (fun s => if j.val % 8 = 0 then s.narrowPort (j.val / 8) else s.linkStop j lkDown) s

/-- Put a link in training (R176, R177): its usable lanes train, and its first message is HELLO. -/
def State.train (s : State) (j : Nat) : State :=
  let p := j / 8
  let en := s.rd F.FAB_PORT_CFG_LANE_EN p
  let lanes := linkLanes (s.mode j) (j % 8)
  let use := lanes.filter fun l => en.testBit l && s.rd F.FAB_LANE_STAT_STATE (8 * p + l) ≠ 5
  let dis := lanes.filter fun l => !(en.testBit l)
  let s1 := (((s.setLanes p use 1).setLanes p dis 6).wr F.FAB_LINK_STAT_STATE j lkTraining).wr F.FAB_LINK_PEER_VALID j 0
  s1.modLink j fun l => { ({} : Link) with
    ctrl := [.hello (s.myHello j)], expect := l.expect, interval := l.interval, faulted := l.faulted }

/-- Start retraining the stopped lanes and links of a port, with their stored settings (R178). -/
def State.widenPort (s : State) (p : Nat) : State :=
  let mode := s.rd F.FAB_PORT_CFG_MODE p
  let off := (linkLanes mode 0).filter fun l => s.rd F.FAB_LANE_STAT_STATE (8 * p + l) = 0 && (s.rd F.FAB_PORT_CFG_LANE_EN p).testBit l
  ((portLinks mode).filter fun k => k ≠ 0 && s.lkState (8 * p + k) = lkDown).foldl (fun s k => s.train (8 * p + k)) (s.setLanes p off 1)

/-- WIDEN (R178): the peer retrains the stopped lanes; they rejoin at one REMAP. -/
def execWiden (j : Fin 144) (q : BitVec 8) (s : State) : Out :=
  ctrlRow j q.toNat (fun s => if s.lkState j = lkKeep then s.widenPort (j.val / 8) else s) s

/-- DOWN (R175, R201): the peer takes the link down; with reason MODULE it stops altogether. -/
def execDown (j : Fin 144) (q : BitVec 8) (moduleStops : Bool) (s : State) : Out :=
  ctrlRow j q.toNat (fun s => s.linkFault j moduleStops) s

/-- LANE_FAULT (R171 to R173, R178). -/
def execLaneFault (j : Fin 144) (mask : BitVec 8) (s : State) : Out := .next (s.laneFault j mask)

/-- LINK_SILENCE_TIMEOUT (R165): 1 µs without a good flit. -/
def execLinkSilenceTimeout (j : Fin 144) (s : State) : Out :=
  if s.lkRuns j then .next (s.linkFault j false) else .next s

/-- Whether links train: from start-up step 9 on, and not while the module sleeps (R177, R178). -/
def State.seamsOn (s : State) : Bool := s.boot.trained && s.psState ≠ psStandby && s.psState ≠ psFreewheel

/-- LINK_RETRAIN_TIMER (R176): a DOWN link of an enabled port retrains; in Standby and Freewheel one that a fault took down, as
the keep-alive link is, and not those stopped as planned (R178). -/
def execLinkRetrainTimer (j : Fin 144) (s : State) : Out :=
  if s.boot.trained = true ∧ (s.seamsOn = true ∨ (s.link j).faulted = true) ∧ s.lkState j = lkDown ∧ s.flag F.FAB_PORT_CFG_EN (j.val / 8) ∧ (portLinks (s.mode j)).elem (j.val % 8) then
    .next (s.train j)
  else .next s

/-- Training failed: TRAIN_FAIL, the link is DOWN, and the retrain interval doubles up to 10 s (R159, R176). -/
def State.trainFail (s : State) (j : Nat) : State :=
  let s1 := (s.clearLink j lkDown).modLink j fun l => { l with interval := min 10000 (2 * l.interval) }
  s1.raisePort F.FAB_PORT_CAUSE_TRAIN_FAIL j 0

/-- LINK_TRAINING_DONE (R159, R168, R170, R172, R176, R177): the lanes that trained and the measured round trip.
Without lanes, without a HELLO, or with a peer of another width the training fails; a peer other than the expected
one leaves the link MISWIRED; else the link comes up, with the peer's buffers as credits.  On a narrowed link the lanes that
retrained rejoin at a REMAP (R178). -/
def execLinkTrainingDone (j : Fin 144) (lanes : BitVec 8) (rtt : BitVec 16) (s : State) : Out :=
  if s.lkState j = lkKeep ∨ s.lkState j = lkMiswired then
    let p := j.val / 8
    let back := (linkLanes (s.mode j) (j.val % 8)).filter fun l => lanes.getLsbD l && s.rd F.FAB_LANE_STAT_STATE (8 * p + l) = 1
    if back = [] then .next s else .next (s.remapWide j back)
  else if s.lkState j = lkTraining then
    let p := j.val / 8
    let w := modeWidth (s.mode j)
    let good := (linkLanes (s.mode j) (j.val % 8)).filter fun l => lanes.getLsbD l && s.rd F.FAB_LANE_STAT_STATE (8 * p + l) = 1
    let s0 := s.wr F.FAB_PORT_CMD_RETRAIN p (s.rd F.FAB_PORT_CMD_RETRAIN p &&& (255 - 2 ^ (j.val % 8)))
    let l := s0.link j
    if good = [] || !(s0.flag F.FAB_LINK_PEER_VALID j) || l.peerWidth ≠ w then .next (s0.trainFail j)
    else
      let bad := (linkLanes (s.mode j) (j.val % 8)).filter fun x => !(good.elem x) && s.rd F.FAB_LANE_STAT_STATE (8 * p + x) = 1
      let s1 := ((s0.setLanes p good 2).setLanes p bad 4).wr F.FAB_LINK_STAT_RTT j rtt.toNat
      let s2 := s1.modLink j fun l => { l with credits := l.peerBuf, interval := 100, faulted := false }
      let wrong := match l.expect with
        | some m => decide ((s0.rd F.FAB_LINK_PEER_MODULE j, s0.rd F.FAB_LINK_PEER_PORT j, s0.rd F.FAB_LINK_PEER_LINK j) ≠ m)
        | none => false
      if wrong then
        .next ((((s2.wr F.FAB_LINK_STAT_STATE j lkMiswired).wr F.FAB_LINK_STAT_WIDTH j good.length).portStat p).raisePort
          F.FAB_PORT_CAUSE_MISWIRED j 0)
      else
        .next (((s2.wr F.FAB_LINK_STAT_STATE j lkUp).linkWidth j).raisePort F.FAB_PORT_CAUSE_LINK_UP j 0)
  else .next s

/-- The link that a lane of a port belongs to. -/
def State.linkOfLane (s : State) (p l : Nat) : Nat := 8 * p + l / modeWidth (s.rd F.FAB_PORT_CFG_MODE p)

/-- LANE_READD_RETRY (R174): 10 s after its drop a lane is retried, at most three times. -/
def execLaneReaddRetry (l : Fin 144) (s : State) : Out :=
  if s.flag F.FAB_PORT_CFG_AUTOREADD (l.val / 8) ∧ s.rd F.FAB_LANE_STAT_STATE l = 4 ∧ s.rd F.FAB_LANE_STAT_TRIES l < 3 ∧
      s.lkCarries (s.linkOfLane (l.val / 8) (l.val % 8)) ∧ s.lkState (s.linkOfLane (l.val / 8) (l.val % 8)) ≠ lkKeep then
    .next ((s.wr F.FAB_LANE_STAT_STATE l 1).wr F.FAB_LANE_STAT_TRIES l (s.rd F.FAB_LANE_STAT_TRIES l + 1))
  else .next s

/-- LANE_READD_TEST_DONE (R174): the lane rejoins through LANE_ADD and REMAP, or counts a failed retry; after the
third it reads OUT. -/
def execLaneReaddTestDone (l : Fin 144) (pass : Bool) (s : State) : Out :=
  let j := s.linkOfLane (l.val / 8) (l.val % 8)
  if s.rd F.FAB_LANE_STAT_STATE l = 1 ∧ s.lkCarries j then
    if pass then
      let m := BitVec.ofNat 8 (2 ^ (l.val % 8))
      let s1 := (s.wr F.FAB_LANE_STAT_STATE l 2).linkWidth j
      .next (((s1.ctrlNow j (.laneAdd m)).ctrlNow j (.remap m)).raisePort F.FAB_PORT_CAUSE_LANE_ADD j 0)
    else .next (s.wr F.FAB_LANE_STAT_STATE l (if 3 ≤ s.rd F.FAB_LANE_STAT_TRIES l then 5 else 4))
  else .next s

/-- RETRAIN (R174, R179): a write of FAB_PORT_CMD.RETRAIN: each link named retrains and its lanes' retry counts are
reset; the bit stays set until training ends. -/
def execRetrain (p : Fin 18) (mask : BitVec 8) (s : State) : Out :=
  if s.flag F.FAB_PORT_CFG_EN p then
    let ks := (portLinks (s.rd F.FAB_PORT_CFG_MODE p)).filter fun k => mask.getLsbD k
    .next (ks.foldl (fun s k =>
      let j := 8 * p.val + k
      let lanes := linkLanes (s.mode j) k
      let s1 := lanes.foldl (fun s l => s.wr F.FAB_LANE_STAT_TRIES (8 * p.val + l) 0) (s.linkStop j lkDown)
      let s2 := s1.setLanes p (lanes.filter fun l => s1.rd F.FAB_LANE_STAT_STATE (8 * p.val + l) = 5) 0
      (s2.train j).wr F.FAB_PORT_CMD_RETRAIN p (s2.rd F.FAB_PORT_CMD_RETRAIN p ||| 2 ^ k)) s)
  else .next s

/-- A lane loses its enable (R173): a planned drop without replay; without a lane left the link stops as planned. -/
def State.laneDisable (s : State) (p l : Nat) : State :=
  let j := s.linkOfLane p l
  if s.lkRuns j && (s.activeLanes j).elem (8 * p + l) then
    let m := BitVec.ofNat 8 (2 ^ l)
    let s1 := s.dropLanes j [l] 6 false
    if s1.activeLanes j = [] then (s.linkStop j lkDown).setLanes p [l] 6
    else (s1.ctrlNow j (.laneDrop m true)).ctrlNow j (.remap m)
  else s.setLanes p [l] 6

/-- FAB_PORT_CFG_WRITE (R159, R173, R180): MODE and KEEPALIVE change only while EN is 0; setting EN trains the
port's links, or leaves them DOWN until start-up step 9, clearing it sends DOWN on every link and stops the port as planned. -/
def execFabPortCfgWrite (p : Fin 18) (w : Word) (s : State) : Out :=
  let en := s.flag F.FAB_PORT_CFG_EN p
  let s1 := if en then s else (s.wr F.FAB_PORT_CFG_MODE p (fieldOf w F.FAB_PORT_CFG_MODE)).wr F.FAB_PORT_CFG_KEEPALIVE p
    (fieldOf w F.FAB_PORT_CFG_KEEPALIVE)
  let old := s.rd F.FAB_PORT_CFG_LANE_EN p
  let new := fieldOf w F.FAB_PORT_CFG_LANE_EN
  let s2 := (s1.wr F.FAB_PORT_CFG_LANE_EN p new).wr F.FAB_PORT_CFG_AUTOREADD p (fieldOf w F.FAB_PORT_CFG_AUTOREADD)
  let s3 := (List.range 8).foldl (fun s l =>
    if old.testBit l && !(new.testBit l) then s.laneDisable p l
    else if !(old.testBit l) && new.testBit l && s.rd F.FAB_LANE_STAT_STATE (8 * p.val + l) = 6 then s.setLanes p [l] 0
    else s) s2
  let on := fieldOf w F.FAB_PORT_CFG_EN ≠ 0
  let s4 := s3.wr F.FAB_PORT_CFG_EN p (if on then 1 else 0)
  let links := (portLinks (s4.rd F.FAB_PORT_CFG_MODE p)).map fun k => 8 * p.val + k
  if !en && on then
    .next (links.foldl (fun (s : State) (j : Nat) => if s.seamsOn then s.train j else s.wr F.FAB_LINK_STAT_STATE j lkDown) s4)
  else if en && !on then
    .next (links.foldl (fun s j =>
      (if s.lkRuns j then s.sendDown j false else s).linkStop j lkDisabled) s4)
  else .next s4

/-- RTT_MEASURE (R168): the round trip of a link is refreshed. -/
def execRttMeasure (j : Fin 144) (ns : Nat) (s : State) : Out :=
  if s.lkCarries j then .next (s.wr F.FAB_LINK_STAT_RTT j (min ns 0xFFFF)) else .next s

/-- The cable end of a connector: present, powered. -/
def State.cable (s : State) (p : Nat) : Bool × Bool :=
  match s.fab.cables.find? fun c => c.1 = p with
  | some c => c.2
  | none => (false, false)

/-- Set a cable end. -/
def State.setCable (s : State) (p : Nat) (present powered : Bool) : State :=
  let t := s.fab.cables.filter fun c => c.1 ≠ p
  { s with fab := { s.fab with cables := if present then insCable p powered t else t } }
where
  /-- Insert by connector number. -/
  insCable (p : Nat) (powered : Bool) : List (Nat × Bool × Bool) → List (Nat × Bool × Bool)
    | [] => [(p, true, powered)]
    | c :: t => if p < c.1 then (p, true, powered) :: c :: t else c :: insCable p powered t

/-- CABLE_PRESENT (R510): a cable end is powered only while CBL_PRSNT_N reads low. -/
def execCablePresent (p : Fin 18) (present : Bool) (s : State) : Out :=
  if (s.cable p).1 = present then .next s else .next (s.setCable p present present)

/-- CABLE_OVERCURRENT (R510): the supply of a cable end is switched off, and its links fault. -/
def execCableOvercurrent (p : Fin 18) (s : State) : Out :=
  if (s.cable p).2 then
    .next ((s.setCable p true false).portFault p)
  else .next s

end Sys2Proof.Machine
end

