-- ==== Sys2Proof/Machine/Votes.lean ====
section
/-! DEFINITION.  Votes, requests and transitions between power states (R411 to R417, R419). -/

namespace Sys2Proof.Machine

/-! ### Votes (R411) -/

/-- A partition's enabled ring has PI ≠ CI, or a started command of its has not completed. -/
def State.ringsBusy (s : State) (n : Nat) : Bool :=
  (List.range 4).any (fun k => s.flag F.ETH_RING_CTL_EN (4 * n + k) && s.rd F.ETH_RING_PI_COUNT (4 * n + k) ≠ s.rd F.ETH_RING_CI_COUNT (4 * n + k)) ||
    s.cmds.any fun c => c.ring / 4 = n

/-- Whether partition `n` holds a vote. -/
def State.votesFor (s : State) (n : Nat) : Bool :=
  (s.rd F.PWR_VOTE_HOLD).testBit n || s.pstate n = 4 || ((s.pstate n = 2 || s.pstate n = 3) && s.ringsBusy n)

/-- PWR_VOTE.HELD: the votes in force. -/
def State.votes (s : State) : Nat := packBits ((List.range 16).map s.votesFor)

/-! ### Transitions -/

/-- A pending request is discarded (R417). -/
def State.dropPend (s : State) : State :=
  if s.flag F.PWR_PS_STAT_PEND then (s.wr F.PWR_PS_STAT_PEND 0 0).raise F.PWR_PS_CAUSE_REPLACED else s

/-- A request becomes the pending one; the same one again is ignored. -/
def State.putPend (s : State) (t : Nat) : State :=
  if s.flag F.PWR_PS_STAT_PEND && s.rd F.PWR_PS_STAT_PEND_TGT = t then s
  else (s.dropPend.wr F.PWR_PS_STAT_PEND 0 1).wr F.PWR_PS_STAT_PEND_TGT 0 t

/-- The module reaches a state. -/
def State.psSet (s : State) (t : Nat) : State := (s.wr F.PWR_PS_STAT_STATE 0 t).wr F.PWR_PS_STAT_TGT 0 t

/-- Every cluster is ungated (R413). -/
def State.ungateAll (s : State) : State := allP.foldl (fun (s : State) (p : Nat) => s.wr F.CLU_STATE_GATED p 0) s

/-- Run or Trim is reached; Run ends gating. -/
def State.psRunning (s : State) (t : Nat) : State :=
  let s1 := (({ s with ps := { s.ps with ran := t, abort := 0, wake := false } }).psSet t).wr F.PWR_PS_STAT_STACKS_AWAKE 0 0
  let s2 := s1.wr F.PWR_PS_STAT_CORE_AWAKE 0 0
  if t = psRun then s2.ungateAll else s2

/-- Entry into Standby begins: point A is passed and rings stop starting commands (R414). -/
def State.enterStandby (s : State) : State :=
  (((({ s with ps := { s.ps with ran := s.psState, abort := 0, wake := false } }).wr F.PWR_PS_STAT_STATE 0 psEntering).wr
    F.PWR_PS_STAT_TGT 0 psStandby).wr F.PWR_PS_STAT_POINT 0 1)

/-- Entry into Freewheel begins: point D is passed and every block is asked (R414, R415); the recorder is flushed (R460). -/
def State.enterFreewheel (s : State) : State :=
  ((((({ s with ps := { s.ps with abort := 0, wake := false } }).wr F.PWR_PS_STAT_STATE 0 psEntering).wr
    F.PWR_PS_STAT_TGT 0 psFreewheel).wr F.PWR_PS_STAT_POINT 0 4).wr F.PWR_HS_STAT_WAITING 0 0xFF).requestFlush

/-- The stopped lanes and links of a port come back (R178). -/
def State.widenAll (s : State) : State :=
  ((List.range 18).filter fun p => s.flag F.FAB_PORT_CFG_EN p).foldl (fun (s : State) (p : Nat) =>
    if s.flag F.FAB_PORT_CFG_KEEPALIVE p && s.lkRuns (8 * p) then (s.ctrlNow (8 * p) .widen).widenPort p
    else ((portLinks (s.rd F.FAB_PORT_CFG_MODE p)).filter fun k => s.lkState (8 * p + k) = lkDown).foldl (fun (s : State) (k : Nat) =>
      s.train (8 * p + k)) s) s

/-- Nothing the wake waits for is asleep: no stack in self-refresh, compute not at its retention level. -/
def State.allAwake (s : State) : Bool := ((List.range 8).all fun k => s.rd F.MEM_STATE_STATE k ≠ 3) && !s.pwr.retention

/-- A wake from Standby toward Run or Trim begins: rings resume, stacks and compute wake, the fabric widens (R416, R418). -/
def State.wakeStandby (s : State) (t : Nat) : State :=
  let s1 := ((({ s with ps := { s.ps with ran := t, abort := 0 } }).wr F.PWR_PS_STAT_STATE 0 psWaking).wr F.PWR_PS_STAT_TGT 0 t).widenAll
  if s1.allAwake then (s1.psRunning t).raise F.PWR_PS_CAUSE_WAKE else s1

/-! ### Requests (R411, R412, R417, R429) -/

/-- A request for state `t` while no transition runs. -/
def State.requestNow (s : State) (t : Nat) : State :=
  let st := s.psState
  if t = st then s.dropPend
  else if t ≤ psTrim then
    (if st ≤ psTrim then s.dropPend.psRunning t
     else if st = psStandby then s.dropPend.wakeStandby t
     else ((s.putPend t).wr F.PWR_WAKE_SRC_REQ 0 1).wakeFreewheel)
  else if t = psStandby ∧ st = psFreewheel then s.dropPend.wakeFreewheel
  else if s.votes ≠ 0 then s.putPend t
  else if st = psStandby then s.dropPend.enterFreewheel
  else if t = psFreewheel then (s.enterStandby).putPend psFreewheel
  else s.dropPend.enterStandby

/-- A request for state `t` while an entry or a wake runs. -/
def State.requestBusy (s : State) (t : Nat) : State :=
  let tgt := s.psTgt
  if s.psState = psEntering then
    if (tgt = psStandby ∧ t ≤ psTrim) ∨ (tgt = psFreewheel ∧ t = psStandby) then
      { s.dropPend with ps := { s.ps with abort := 2, ran := if t ≤ psTrim then t else s.ps.ran } }
    else if tgt = psFreewheel ∧ t ≤ psTrim then (s.putPend t).wakeEvent F.PWR_WAKE_SRC_REQ
    else if t = tgt ∧ s.flag F.PWR_PS_STAT_PEND = false then s
    else s.putPend t
  else if tgt ≤ psTrim ∧ t ≤ psTrim then ({ s.dropPend with ps := { s.ps with ran := t } }).wr F.PWR_PS_STAT_TGT 0 t
  else if t = tgt ∧ s.flag F.PWR_PS_STAT_PEND = false then s
  else s.putPend t

/-- A request for state `t`. -/
def State.psRequest (s : State) (t : Nat) : State := if s.psState < psEntering then s.requestNow t else s.requestBusy t

/-- A transition has ended: the pending request is taken up (R417). -/
def State.psArrive (s : State) : State :=
  if s.flag F.PWR_PS_STAT_PEND && s.psState < psEntering then
    (s.wr F.PWR_PS_STAT_PEND 0 0).requestNow (s.rd F.PWR_PS_STAT_PEND_TGT)
  else s

/-- Votes that return or are withdrawn (R411, R416, R418): a vote wakes the module or abandons an entry, and without one a
pending request is acted on. -/
def State.voteCheck (s : State) : State :=
  let st := s.psState
  if s.votes ≠ 0 then
    if st = psStandby then s.psRequest s.ps.ran
    else if st = psFreewheel then s.wakeEvent F.PWR_WAKE_SRC_REQ
    else if st = psEntering then
      (if s.psTgt = psFreewheel then s.wakeEvent F.PWR_WAKE_SRC_REQ else { s with ps := { s.ps with abort := 2 } })
    else s
  else s.psArrive

/-- A write of PWR_PS_REQ (R412): TARGET is kept, GO requests it and clears. -/
def State.writePsReq (s : State) (w : Word) : State :=
  let s1 := s.wr F.PWR_PS_REQ_TARGET 0 (fieldOf w F.PWR_PS_REQ_TARGET)
  if fieldOf w F.PWR_PS_REQ_GO = 1 then s1.psRequest (s1.rd F.PWR_PS_REQ_TARGET) else s1

/-- REQ_RUN (R412). -/
def execReqRun (s : State) : Out := .next (s.writePsReq 0x80000000)

/-- REQ_TRIM (R412). -/
def execReqTrim (s : State) : Out := .next (s.writePsReq 0x80000001)

/-- REQ_STANDBY (R412). -/
def execReqStandby (s : State) : Out := .next (s.writePsReq 0x80000002)

/-- REQ_FREEWHEEL (R412). -/
def execReqFreewheel (s : State) : Out := .next (s.writePsReq 0x80000003)

/-- PWR_VOTE_WRITE (R411). -/
def execPwrVoteWrite (m : BitVec 16) (s : State) : Out := .next (s.wr F.PWR_VOTE_HOLD 0 m.toNat).voteCheck

/-- AUTO_STANDBY_IDLE (R411): with AUTO set, IDLE ms have passed with no vote held. -/
def execAutoStandbyIdle (s : State) : Out :=
  if s.flag F.PWR_PS_CFG_AUTO ∧ s.votes = 0 ∧ s.psState ≤ psTrim then .next (s.psRequest psStandby) else .next s

end Sys2Proof.Machine
end

