-- ==== Sys2Proof/Machine/Jobs.lean ====
section
/-! DEFINITION.  Command rings (R117 to R120, R128), the ring commands (R96 to R99, R102, R113, R114, R119, R121, R124),
sealed LOADs (R253 to R255), loans as the borrower sees them (R153), and completion records (R122 to R125). -/

namespace Sys2Proof.Machine

/-! ### Rings (R117, R118, R127, R128) -/

/-- The bookkeeping of ring `i`. -/
def State.ring (s : State) (i : Nat) : Ring := getAt {} s.rings i

/-- Change the bookkeeping of ring `i`. -/
def State.modRing (s : State) (i : Nat) (f : Ring → Ring) : State := { s with rings := modifyAt i f s.rings }

/-- Entries of ring `i`, 2^k. -/
def State.ringSize (s : State) (i : Nat) : Nat := 2 ^ s.rd F.ETH_RING_CTL_LOG2SIZE i

/-- Partition-memory offset of the command ring. -/
def State.ringBase (s : State) (i : Nat) : Nat := s.rd F.ETH_RING_BASE_HI_ADDR i * 2 ^ 32 + s.rd F.ETH_RING_BASE_LO_ADDR i * 4096

/-- Partition-memory offset of the completion ring. -/
def State.cqBase (s : State) (i : Nat) : Nat := s.rd F.ETH_CQ_BASE_HI_ADDR i * 2 ^ 32 + s.rd F.ETH_CQ_BASE_LO_ADDR i * 4096

/-- A difference of free-running 32-bit counts. -/
def countDiff (a b : Nat) : Nat := (a + 2 ^ 32 - b % 2 ^ 32) % 2 ^ 32

/-- CI of ring `i`. -/
def State.ci (s : State) (i : Nat) : Nat := s.rd F.ETH_RING_CI_COUNT i

/-- PI of ring `i`. -/
def State.pi (s : State) (i : Nat) : Nat := s.rd F.ETH_RING_PI_COUNT i

/-- Keep of the fetch buffer what PI still covers (R118). -/
def State.trimFetch (s : State) (i : Nat) : State :=
  let ci := s.ci i
  let n := countDiff (s.pi i) ci
  s.modRing i fun r => { r with buf := r.buf.filter fun f => countDiff f.seq ci < n }

/-- A PI write (R128): refused with OVERRUN when it would pass CI by more than 2^k. -/
def State.writePi (s : State) (i v : Nat) : State :=
  if s.ringSize i < countDiff v (s.ci i) then s.wr F.ETH_RING_STAT_OVERRUN i 1
  else ((s.wr F.ETH_RING_PI_COUNT i v).trimFetch i).voteCheck

/-- ETH_RING_PI_WRITE (R128): the doorbell. -/
def execEthRingPiWrite (i : Fin 64) (v : Word) (s : State) : Out := .next (s.writePi i v.toNat)

/-- A write to a ring's control (R128): LOG2SIZE holds while EN is 1; setting EN is refused with CFGERR when LOG2SIZE is out
of range or a ring does not lie in the partition's local memory; clearing EN drops what has not started.  A ring enabled
while the management cores restart waits for them (R30). -/
def State.writeRingCtl (s : State) (i : Nat) (w : Word) : State :=
  let en := s.flag F.ETH_RING_CTL_EN i
  let keep := if en then setField w F.ETH_RING_CTL_LOG2SIZE (s.rd F.ETH_RING_CTL_LOG2SIZE i) else w
  let v := keep &&& Reg.accMask .ETH_RING_CTL .RW
  let s1 := s.setReg .ETH_RING_CTL i v
  let k := fieldOf v F.ETH_RING_CTL_LOG2SIZE
  if fieldOf v F.ETH_RING_CTL_EN = 0 then if en then s1.modRing i fun r => { r with buf := [] } else s1
  else if en then s1
  else if k < 6 ∨ 16 < k ∨ s1.inLocal (i / 4) (s1.ringBase i) (2 ^ k * 64) = false ∨
      s1.inLocal (i / 4) (s1.cqBase i) (2 ^ k * 32) = false then
    (s1.wr F.ETH_RING_CTL_EN i 0).wr F.ETH_RING_STAT_CFGERR i 1
  else
    let s2 := s1.modRing i fun r => { r with buf := [] }
    if s.mgmt.down then s2.wr F.ETH_RING_STAT_MGMT_WAIT i 1 else s2

/-- ETH_RING_CTL_WRITE (R128). -/
def execEthRingCtlWrite (i : Fin 64) (w : Word) (s : State) : Out := .next (s.writeRingCtl i w).voteCheck

/-- ETH_CQ_CI_WRITE (R117): places of the completion ring come free. -/
def State.writeCqCi (s : State) (i : Nat) (w : Word) : State :=
  let s1 := s.setReg .ETH_CQ_CI i w
  if countDiff (s1.ci i) (s1.rd F.ETH_CQ_CI_COUNT i) < s1.ringSize i then s1.wr F.ETH_RING_STAT_CQ_FULL i 0 else s1

/-- ETH_CQ_CI_WRITE (R117). -/
def execEthCqCiWrite (i : Fin 64) (w : Word) (s : State) : Out := .next (s.writeCqCi i w)

/-- Whether a partition's rings are served: ASSIGNED, JOB or ENDED. -/
def State.served (s : State) (n : Nat) : Bool := s.pstate n = 1 || s.pstate n = 2 || s.pstate n = 3

/-- A word of the fetch-buffer window at offset `o` from ETH base + 0xA_0000 (R118): slot, then bytes; a slot nothing was
placed in reads 0 (log entry 12). -/
def State.fetchWord (s : State) (o : Nat) : Word :=
  BitVec.ofNat 32 (leAt (Assoc.get [] (s.ring (o / 0x1000)).slots (o % 0x1000 / 64)) (o % 64 / 4 * 4) 4)

/-- RING_FETCH (R118): the next entry PI covers goes into the fetch buffer; a poisoned line or a refused read is kept as
the entry's failure. -/
def execRingFetch (i : Fin 64) (h : List StackHit) (s : State) : Out :=
  let n := i.val / 4
  let r := s.ring i
  let ci := s.ci i
  let c := (ci + r.buf.length) % 2 ^ 32
  if s.flag F.ETH_RING_CTL_EN i ∧ s.served n = true ∧ r.buf.length < 64 ∧ r.buf.length < countDiff (s.pi i) ci then
    let o := s.ringBase i + c % s.ringSize i * 64
    let s1 := s.stackHits h
    if !(s1.inLocal n o 64) || s1.sealed n o 64 then
      let t := if s1.inLocal n o 64 then s1.memTarget n o else noTarget
      .next ((s1.reject n t kRead o).modRing i fun r =>
        { r with buf := r.buf ++ [({ seq := c, entry := [], fail := some (0x24, accessOrigin n t) } : Fetched)] })
    else
      let d := s1.partRead n o 64
      .next (s1.modRing i fun r => { r with
        slots := if d.2.isSome then r.slots else Assoc.put r.slots (c % 64) d.1
        buf := r.buf ++ [({ seq := c, entry := if d.2.isSome then [] else d.1, fail := d.2.map fun k => (0x20, 0x100 + k) } : Fetched)] })
  else .next s

/-! ### Starting a command (R119, R120, R253) -/

/-- Whether the module starts commands: VCORE on, its cluster tests done (R280), no quiesce, the management cores up, and in
Run or Trim (R26, R235, R414, R447). -/
def State.mayStart (s : State) (i : Nat) : Bool :=
  let st := s.rd F.PWR_PS_STAT_STATE
  s.pwr.vcore && s.pwr.tested && !s.pwr.retention && !s.pwr.quiesce && !s.mgmt.down && !(s.flag F.ETH_RING_STAT_MGMT_WAIT i) &&
    (st = 0 || st = 1)

/-- Commands of a partition in flight. -/
def State.inFlight (s : State) (n : Nat) : List Cmd := s.cmds.filter fun c => c.ring / 4 = n

/-- The conditions of R120 on the commands in flight, for opcode `opc` on ring `i`. -/
def State.orderOk (s : State) (i opc : Nat) : Bool :=
  let all := s.inFlight (i / 4)
  let mine := all.filter fun c => c.ring = i
  mine.length < 32 && !(mine.any Cmd.isFence) && !(all.any fun c => c.opc = 1 || c.opc = 7) &&
    (opc ≠ 3 || !(all.any fun c => c.opc = 3)) && (!(opc = 1 || opc = 7) || all = [])

/-- The status a command takes at its start from the partition's state (R96, R119). -/
def jobStatus (st opc : Nat) : Nat :=
  if st = 3 && (opc = 1 || opc = 2 || opc = 3 || opc = 5) then 0x34
  else if st = 1 && (opc = 2 || opc = 3 || opc = 5 || opc = 6 || opc = 7) then 0x11
  else if st = 2 && opc = 1 then 0x12
  else 0

/-- Bind a LOAD to the key of its slot (R253). -/
def State.bindKey (s : State) (n slot : Nat) : Option BoundKey :=
  match Assoc.find s.kslots slot with
  | some k => if s.flag F.SEC_KSLOT_LOADED slot && s.rd F.SEC_KSLOT_PART slot = n then some ⟨slot, k.id, k.key⟩ else none
  | none => none

/-- LOADS and OLD of an ingest key slot follow the LOADs in flight (R253, R267). -/
def State.keyCounts (s : State) (slot : Nat) : State :=
  let on := s.cmds.filterMap fun c => c.key.filter fun k => k.slot = slot
  let cur := (Assoc.find s.kslots slot).map KSlot.id
  (s.wr F.SEC_KSLOT_LOADS slot (min 255 on.length)).wr F.SEC_KSLOT_OLD slot (if on.any fun k => some k.id ≠ cur then 1 else 0)

/-- An episode starts or ends at a command start, in a job whose patterns hold no step beacon (R59). -/
def State.relaxAt (s : State) (n : Nat) : State :=
  let p := s.part n
  if s.pwr.capWin && !p.relax then
    (s.modPart n fun p => { p with relax := true, relaxCount := 0 }).record 14 15 0x43 n 1
  else if !s.pwr.capWin && p.relax then s.relaxEnd n
  else s

/-- COMMAND_START (R120): the entry of CI leaves the fetch buffer and is in flight. -/
def execCommandStart (i : Fin 64) (s : State) : Out :=
  let n := i.val / 4
  let ci := s.ci i
  match (s.ring i).buf with
  | [] => .next s
  | f :: t =>
    let opc := if f.fail.isSome then 0 else byteAt f.entry 0
    if f.seq ≠ ci ∨ s.mayStart i = false ∨ s.served n = false ∨ countDiff (s.pi i) ci = 0 ∨ s.orderOk i opc = false then .next s
    else if s.ringSize i ≤ countDiff ci (s.rd F.ETH_CQ_CI_COUNT i) then .next (s.wr F.ETH_RING_STAT_CQ_FULL i 1)
    else
      let st := s.pstate n
      let base : Cmd := {
        ring := i, seq := ci, entry := f.entry, opc := opc, tag := leAt f.entry 4 4, phase := .started
        ended := decide (st = 3), key := if opc = 2 then s.bindKey n (byteAt f.entry 33) else none }
      let c := match f.fail with
        | some (v, o) => if v = 0x20 then base.addPoison o else base.note v o
        | none => match entryBad f.entry with
          | some o => (base.note 0x10 o).note (jobStatus st opc) 0
          | none => base.note (jobStatus st opc) 0
      let c := if c.status = 0 then c else { c with phase := .ready, key := none }
      let s1 := { (s.modRing i fun r => { r with buf := t }) with cmds := s.cmds ++ [c] }
      let s2 := s1.wr F.ETH_RING_CI_COUNT i ((ci + 1) % 2 ^ 32)
      let s3 := match c.key with
        | some k => s2.keyCounts k.slot
        | none => s2
      .next (if st = 2 ∧ (s3.part n).pats.any Pattern.hasBeacon = false then s3.relaxAt n else s3)

/-! ### The plain commands -/

/-- Run `f` on a command that has started, of the named opcode. -/
def onStarted (i : Fin 64) (c : Word) (opc : Nat) (f : Cmd → State → State) (s : State) : Out :=
  match s.cmd i c.toNat with
  | some x => if x.opc = opc ∧ x.phase = .started then .next (f x s) else .next s
  | none => .next s

/-- CMD_NOP (R119). -/
def execCmdNop (i : Fin 64) (c : Word) (s : State) : Out := onStarted i c 0 (fun x s => s.cmdEnd i x.seq 0 0) s

/-- FENCE (R124): it waits for every earlier command of its ring; COMMAND_COMPLETE ends it. -/
def execFence (i : Fin 64) (c : Word) (s : State) : Out :=
  onStarted i c 4 (fun x s => s.modCmd i x.seq fun y => { y with phase := .running }) s

/-- MARK (R119). -/
def execMark (i : Fin 64) (c : Word) (s : State) : Out :=
  onStarted i c 6 (fun x s => s.modCmd i x.seq fun y => { y with phase := .running }) s

/-- SIGNAL (R114): added at once while a RUN runs, held otherwise. -/
def execSignal (i : Fin 64) (c : Word) (s : State) : Out :=
  onStarted i c 5 (fun x s =>
    let n := i.val / 4
    let t := byteAt x.entry 8
    let k := byteAt x.entry 9
    if s.runActive n then
      let r := s.tokAdd (globalTok n t) k
      if r.2 then r.1.cmdEnd i x.seq 0x23 (((r.1.ranks n).head?.map Prod.fst).getD 0) else r.1.cmdEnd i x.seq 0 0
    else (s.modPart n fun p => { p with held := p.held ++ [(t, k)] }).cmdEnd i x.seq 0 0) s

/-! ### Tokens and runs (R102, R113) -/

/-- Every token of partition `n` reads 0. -/
def State.clearTokens (s : State) (n : Nat) : State :=
  let mine := fun (k : Nat) => if k < 68 * 256 then s.partOf (k / 256) = some n else (k - 68 * 256) / 64 = n
  { s with
    tok := s.tok.filter fun e => !(decide (mine e.1))
    tokSig := s.tokSig.filter fun e => !(decide (mine e.1)) }

/-- Set every token of partition `n` from a pattern's plan (R113); the plan has no counts for the local tokens of clusters that
no slot uses, and here they are 0 (log entry 65). -/
def State.applyPlan (s : State) (n : Nat) (p : Pattern) : State :=
  let rk := s.ranks n
  let put := fun (s : State) (k v : Nat) => { s with tok := Assoc.set 0 s.tok k v }
  let s1 := s.clearTokens n
  let s2 := (p.locals.zip p.place).foldl (fun s (x : List Nat × Nat) =>
    match rk[x.2]? with
    | some c => x.1.zipIdx.foldl (fun s (y : Nat × Nat) => put s (localTok c.2 y.2) y.1) s
    | none => s) s1
  p.globals.zipIdx.foldl (fun s (y : Nat × Nat) => put s (globalTok n y.2) y.1) s2

/-- Give the units of every slot segment `e` of their streams and lists (R102). -/
def State.feed (s : State) (n : Nat) (p : Pattern) (e : Nat) : State :=
  let rk := s.ranks n
  (List.range p.slots).foldl (fun s k =>
    match (p.place[k]?).bind fun r => rk[r]? with
    | none => s
    | some c =>
      let s1 := ((p.eng[k]?).getD []).zipIdx.foldl (fun (s : State) (x : List EngInstr × Nat) =>
        { s with engQ := Assoc.put s.engQ (unitCode c.2 x.2) ((segments engIsEnd [] x.1)[e]?.getD []) }) s
      ((p.bob[k]?).getD []).zipIdx.foldl (fun (s : State) (x : List BobDesc × Nat) =>
        { s with bobQ := Assoc.put s.bobQ (unitCode c.2 (16 + x.2)) ((segments bobIsEnd [] x.1)[e]?.getD []) }) s1) s

/-- RUN (R102, R113, R114): the token plan is applied, signals held are added in order, and the units are fed. -/
def execRun (i : Fin 64) (c : Word) (s : State) : Out :=
  onStarted i c 3 (fun x s =>
    let n := i.val / 4
    let ix := byteAt x.entry 8
    let e := byteAt x.entry 9
    match (s.part n).pats[ix]? with
    | none => s.cmdEnd i x.seq 0x10 8
    | some p =>
      if p.entries ≤ e then s.cmdEnd i x.seq 0x10 9
      else
        let args := (List.range 4).map fun k => leAt x.entry (16 + 8 * k) 8
        let held := (s.part n).held
        let s1 := (s.modCmd i x.seq fun y => { y with phase := .running }).modPart n fun q =>
          { q with run := some { pat := ix, entry := e, args := args }, held := [] }
        let s2 := (s1.ranks n).foldl (fun s r => s.wr F.CLU_STATE_GATED r.2 0) s1
        let s3 := (s2.applyPlan n p).feed n p e
        held.foldl (fun s h => (s.tokAdd (globalTok n h.1) h.2).1) s3) s

/-! ### LOAD (R56, R57, R121, R253 to R255) -/

/-- A source block in the module's layout, and whether it became a NaN block it was not (R56, R57). -/
def convertBlk (src fmt : Nat) (l : List Byte) : List Byte × Bool :=
  match blkFmt fmt with
  | none => (l, false)
  | some f =>
    let scale := byteAt l 0
    let v := bytesNat (l.drop 1)
    let codes := (List.range 32).map fun i => v / 2 ^ (f.w * i) % 2 ^ f.w
    let special := codes.any fun c => (src = 0x10 && c % 128 = 127) || (src = 0x11 && 124 ≤ c % 128)
    let x := if special then 255 else scale
    (writeBlk fmt f { x := x, darts := [0, 0, 0, 0], codes := codes }, special && scale ≠ 255)

/-- The fields of a LOAD (R121). -/
structure LoadOp where
  len : Nat
  dst : Nat
  src : Nat
  slot : Nat
  list : Bool
  chunk : Nat
  listDst : Nat
  srcBlk : Nat
  fmt : Option Nat
  ocp : Bool
  deriving DecidableEq, Repr

/-- Read a LOAD's operands; nothing for an unsupported SRC_FMT or LIST without a block format (R121). -/
def readLoad (l : List Byte) : Option LoadOp :=
  match srcFormat (byteAt l 32) with
  | none => none
  | some (b, f, ocp) =>
    let list := decide (byteAt l 34 % 2 = 1)
    if list && f.isNone then none
    else some {
      len := leAt l 20 4, dst := leAt l 24 8, src := byteAt l 32, slot := byteAt l 33, list := list
      chunk := byteAt l 35, listDst := leAt l 40 8, srcBlk := b, fmt := f, ocp := ocp }

/-- Bytes one source block takes at its destination. -/
def LoadOp.outBlk (o : LoadOp) : Nat :=
  match o.fmt with
  | some f => blkBytes f
  | none => o.srcBlk

/-- Whether a plaintext of `n` bytes is whole source blocks, and whole tiles with LIST. -/
def LoadOp.lenOk (o : LoadOp) (n : Nat) : Bool := n % o.srcBlk = 0 && (!o.list || n / o.srcBlk % (64 * o.chunk) = 0)

/-- Whether a LOAD's destination and lists lie within the partition's memory. -/
def State.loadFits (s : State) (n : Nat) (o : LoadOp) (plain : Nat) : Bool :=
  let b := plain / o.srcBlk
  s.inMem n o.dst (b * o.outBlk) && (!o.list || s.inMem n o.listDst (2 * b))

/-- Write bytes to partition memory, in pieces a packet can carry, for a command or a host. -/
def State.memPieces (s : State) (n : Nat) (desc : Option Nat) (a : Nat) (l : List Byte) : State :=
  let m := l.map fun b => (b, false)
  (List.range ((l.length + 447) / 448)).foldl (fun s k =>
    s.writeDest n desc false 0 (.mem (a + 448 * k)) ((m.drop (448 * k)).take 448)) s

/-- Write bytes of a LOAD: what goes to loans is kept with the command until it has settled (R121, R154, R478). -/
def State.loadPut (s : State) (x : Cmd) (a : Nat) (l : List Byte) : State :=
  let n := x.ring / 4
  if s.inLocal n a l.length then s.memPieces n none a l
  else
    let d := s.newDesc n (hostUnit + x.ring)
    let s1 := d.2.modCmd x.ring x.seq fun y => { y with put := y.put ++ [d.1] }
    (s1.memPieces n (some d.1) a l).closeDesc d.1

/-- One stretch of a LOAD's output that grows: `pos` bytes stand from offset `base` on, of which `tail` are those of the last,
unfinished line.  The new bytes are written from the start of that line on; an unfinished line is held back where it lies
on loan, unless the LOAD ends.  The answer is the unfinished line. -/
def State.streamPut (s : State) (x : Cmd) (base pos : Nat) (tail new : List Byte) (ends : Bool) : State × List Byte :=
  let all := tail ++ new
  let a := base + pos - tail.length
  let full := a + all.length - (a + all.length) % 64
  let rest := all.drop (full - a)
  if new = [] && !ends then (s, tail)
  else if !ends && !(s.inLocal (x.ring / 4) a all.length) then
    (if full ≤ a then s else s.loadPut x a (all.take (full - a)), rest)
  else (if all = [] then s else s.loadPut x a all, rest)

/-- Convert and write the whole source blocks of a list, from the command's count of blocks on, with the lists of the tiles
they complete (R68, R121); the state, and the count of NaN blocks made. -/
def State.loadBlocks (s : State) (x : Cmd) (o : LoadOp) (l : List Byte) (ends : Bool) : State × Nat :=
  let out : List (List Byte × Bool) := match o.fmt with
    | none => [(l, false)]
    | some f => (piecesOf o.srcBlk l).map fun b => if o.ocp then convertBlk o.src f b else (b, false)
  let count := l.length / o.srcBlk
  let r := s.streamPut x o.dst (x.blocks * o.outBlk) x.tail (out.flatMap Prod.fst) ends
  let entries := match o.fmt.bind fun f => (blkFmt f).map fun b => (f, b) with
    | some (f, b) => if o.list then x.entries ++ out.map fun y => listEntry f b (readBlk f b y.1) else []
    | none => []
  let size := 64 * o.chunk
  let tiles := entries.length / size
  let lists := (List.range tiles).flatMap fun t => (List.range size).flatMap fun j =>
    natLE 2 (getAt 0 entries (t * size + j % 64 * o.chunk + j / 64))
  let before := (x.blocks - x.entries.length) * 2
  let q := if o.list then r.1.streamPut x o.listDst before x.ltail lists ends else (r.1, [])
  (q.1.modCmd x.ring x.seq fun y => { y with
    blocks := x.blocks + count, tail := r.2, ltail := q.2, entries := entries.drop (tiles * size) },
    (out.filter Prod.snd).length)

/-- A LOAD that ends early writes what it still holds back (R254: records before a failing one stay written). -/
def State.loadFlush (s : State) (x : Cmd) (o : LoadOp) : State := (s.loadBlocks x o [] true).1

/-- A LOAD refused at its destination (R259). -/
def State.loadAccess (s : State) (i c n addr : Nat) : State :=
  (s.reject (0x60 + n) noTarget kWrite addr).cmdEnd i c 0x24 (accessOrigin (0x60 + n) noTarget)

/-- All data of a plaintext LOAD is here: it is converted, written, and the command is ready. -/
def State.loadPlain (s : State) (x : Cmd) (o : LoadOp) : State :=
  let n := x.ring / 4
  if !(s.loadFits n o x.buf.length) then s.loadAccess x.ring x.seq n o.dst
  else
    let r := s.loadBlocks x o x.buf true
    (r.1.modCmd x.ring x.seq fun y => { y with detail := r.2, buf := [] }).cmdEnd x.ring x.seq 0 0

/-- LOAD (R121, R253): format, key and length are checked, and the host's data is asked for. -/
def execLoad (i : Fin 64) (c : Word) (s : State) : Out :=
  onStarted i c 2 (fun x s =>
    match readLoad x.entry with
    | none => s.cmdEnd i x.seq 0x13 0
    | some o =>
      if o.slot = 0xFF && !(o.lenOk o.len) then s.cmdEnd i x.seq 0x13 0
      else if o.slot ≠ 0xFF && x.key.isNone then s.cmdEnd i x.seq 0x18 o.slot
      else
        let s1 := s.modCmd i x.seq fun y => { y with phase := .running }
        if o.len = 0 then s1.cmdEnd i x.seq 0 0
        else s1.hostRead (s1.rd F.ETH_RING_CTL_NQP i) i x.seq (leAt x.entry 8 8) (leAt x.entry 16 4) o.len) s

/-- Plaintext bytes of the well-formed records at the front of a sealed source, and whether they fill it (R254). -/
def sealedPlain : Nat → List Byte → Nat × Bool
  | 0, l => (0, l = [])
  | k + 1, l =>
    if l = [] then (0, true)
    else
      let p := leAt l 12 4
      if l.length < 16 || p = 0 || 65536 < p || l.length < 32 + p then (0, false)
      else
        let r := sealedPlain k (l.drop (32 + p))
        (p + r.1, r.2)

/-- Before its first record, a sealed LOAD's length and range are settled (R121, R254, R255): nothing where it ends. -/
def State.sealLoad (s : State) (x : Cmd) (o : LoadOp) : State × Bool :=
  let n := x.ring / 4
  let t := sealedPlain x.buf.length x.buf
  if t.2 && !(o.lenOk t.1) then (s.cmdEnd x.ring x.seq 0x13 0, false)
  else if !(s.loadFits n o t.1) then (s.loadAccess x.ring x.seq n o.dst, false)
  else
    let bytes := t.1 / o.srcBlk * o.outBlk
    if bytes = 0 then (s, true)
    else match s.addSeal n (o.dst / 65536) ((o.dst + bytes - 1) / 65536) with
      | some s1 => (s1, true)
      | none => (s.cmdEnd x.ring x.seq 0x18 o.slot, false)

/-- Take the next sealed record of a LOAD (R254). -/
def State.sealedRecord (s : State) (x : Cmd) (o : LoadOp) (k : BoundKey) : State :=
  let l := x.buf.drop x.pos
  if l = [] then (s.modCmd x.ring x.seq fun y => { y with buf := [] }).cmdEnd x.ring x.seq 0 0
  else
    let p := leAt l 12 4
    let bad := l.length < 16 || p = 0 || 65536 < p || l.length < 32 + p
    match (if bad then none else Config.gcmOpen k.key (l.take 12) (l.take 16) (sliceAt l 16 p) (sliceAt l (16 + p) 16)) with
    | none => (s.loadFlush x o).cmdEnd x.ring x.seq 0x14 x.recs
    | some plain =>
      let all := x.carry ++ plain
      let whole := all.length / o.srcBlk
      let done := x.buf.length ≤ x.pos + 32 + p
      let r := s.loadBlocks x o (all.take (whole * o.srcBlk)) done
      let s1 := r.1.modCmd x.ring x.seq fun y => { y with
        pos := x.pos + 32 + p
        recs := x.recs + 1
        carry := all.drop (whole * o.srcBlk)
        detail := x.detail + r.2
        buf := if done then [] else y.buf }
      if done then s1.cmdEnd x.ring x.seq 0 0 else s1

/-- INGEST_SEALED_RECORD (R254, R255): a LOAD whose sealed bytes are here takes its next record. -/
def execIngestSealedRecord (i : Fin 64) (c : Word) (s : State) : Out :=
  match s.cmd i c.toNat with
  | none => .next s
  | some x =>
    match readLoad x.entry, x.key with
    | some o, some k =>
      if x.opc = 2 ∧ x.phase = .running ∧ x.buf.length = o.len then
        let r := if x.recs = 0 then s.sealLoad x o else (s, true)
        .next (if r.2 then r.1.sealedRecord x o k else r.1)
      else .next s
    | _, _ => .next s

/-! ### JOB_OPEN and loans (R97 to R99, R152, R153) -/

/-- Hops to a module by the live routing bank, 64 where it has none. -/
def State.hopsTo (s : State) (m : Nat) : Nat :=
  let ix := entryIx s.liveBank m
  if s.rd F.FAB_ROUTE_HI_VALID ix = 0 then 64 else s.rd F.FAB_ROUTE_HI_HOPS ix

/-- Offers sorted by fewest hops, then lowest module. -/
def State.lenders (s : State) : List Offer :=
  let key := fun (o : Offer) => s.hopsTo o.module * 4096 + o.module
  ((s.offers.filter fun o => o.frames ≠ 0 && s.inPeloton o.module).foldl (fun (l : List Offer) o =>
    (l.filter fun x => key x < key o) ++ [o] ++ (l.filter fun x => key o ≤ key x)) [])

/-- Shares of `n` frames from at most 4 lenders, each up to its offer; nothing where they do not suffice. -/
def shares : Nat → List Offer → Nat → Option (List (Nat × Nat))
  | _, _, 0 => some []
  | 0, _, _ => none
  | _, [], _ => none
  | k + 1, o :: t, n + 1 => (shares k t (n + 1 - min o.frames (n + 1))).map fun l => (o.module, min o.frames (n + 1)) :: l

/-- Give back every grant of a request for loans, and forget it. -/
def State.returnGrants (s : State) (a : LendAsk) : State :=
  a.asks.foldl (fun s x => match x.2.2 with
    | some slot => s.sendLend x.1 a.part 4 slot
    | none => s) { s with asks := s.asks.erase a }

/-- The request for loans of a JOB_OPEN. -/
def State.askOf (s : State) (i c : Nat) : Option LendAsk := s.asks.find? fun a => a.ring = i && a.seq = c

/-- A JOB_OPEN is refused: grants go back, and nothing is kept. -/
def State.openFail (s : State) (i c status origin detail : Nat) : State :=
  let s1 := match s.askOf i c with
    | some a => s.returnGrants a
    | none => s
  (s1.modCmd i c fun x => { x with buf := [], detail := detail }).cmdEnd i c status origin

/-- The shortfall of a JOB_OPEN's bundle (R153). -/
def State.shortfall (s : State) (n : Nat) (l : List Byte) : Nat := leAt l 8 8 - s.localSize n

/-- Step 3 of R99 and R153: enough memory, loans granted, loans to be asked for, or not to be had. -/
inductive MemStep where
  | enough | granted (a : LendAsk) | wait | ask (l : List (Nat × Nat)) | none_
  deriving DecidableEq, Repr

/-- How a JOB_OPEN's memory need stands. -/
def State.memStep (s : State) (i c n : Nat) (l : List Byte) : MemStep :=
  let f := s.shortfall n l
  if f = 0 then .enough
  else match s.askOf i c with
    | some a => if a.asks.all fun x => x.2.2.isSome then .granted a else .wait
    | none =>
      if byteAt l 0x11 / 2 % 2 = 1 && f ≤ leAt l 0x18 8 then
        match shares 4 s.lenders ((f + 65535) / 65536) with
        | some p => .ask p
        | none => .none_
      else .none_

/-- A job opens (R96): patterns placed, policy applied, rounding streams seeded, tokens set, checkpoints cleared, loans
taken, stores initialised; the peer set is cleared and holds the lenders (R202); the scope of a first fence begins (R124;
log entry 66). -/
def State.openJob (s : State) (n : Nat) (l : List Byte) (pats : List Pattern) (loans : List LoanIn) : State :=
  let s1 := { (s.modPart n fun p => { p with
      stoch := decide (byteAt l 0x10 = 1)
      seed := BitVec.ofNat 32 (leAt l 0x14 4)
      relaxOk := decide (byteAt l 0x11 % 2 = 1)
      beaconOn := decide (byteAt l 0x12 % 2 = 1)
      pats := pats, run := none, held := [], loans := loans, relax := false, relaxCount := 0 }) with
    rng := s.rng.filter fun e => e.1 / 2048 ≠ n }
  let s2 := match pats with
    | p :: _ => s1.applyPlan n p
    | [] => s1
  let rk := s2.ranks n
  let s3 := pats.foldl (fun s p => p.init.foldl (fun s (x : Nat × Nat × List Byte) =>
    match (p.place[x.1]?).bind fun r => rk[r]? with
    | some c => s.storeWrite c.2 x.2.1 x.2.2 false
    | none => s) s) s2
  let s4 := ((s3.wr F.ETH_PART_STATE_STATE n 2).wr F.ETH_PART_STATE_NPAT n pats.length).setReg .MEM_PART_LEND n
    (wd (loans.map LoanIn.frames).sum)
  let s5 := (s4.wr F.ETH_PART_CKPT_LO_CKPT n 0).wr F.ETH_PART_CKPT_HI_CKPT n 0
  let s6 := loans.foldl (fun s l => s.addPeer n l.lender) (s5.clearPeers n)
  (List.range 4).foldl (fun s r => s.modRing (4 * n + r) fun x => if x.fenced then x else { x with scope := none }) s6

/-- Steps 4 to 6 of R99 and the opening. -/
def State.openCheck (s : State) (i c n : Nat) (l : List Byte) (loans : List LoanIn) : State :=
  let npat := leAt l 6 2
  match (List.range npat).find? fun k => !(imageSigned s.conf.patKeys l k) with
  | some k => s.openFail i c 0x14 k 0
  | none =>
    let ps := bundlePatterns l
    match (List.range npat).find? fun k => (ps[k]?.getD none).isNone with
    | some k => s.openFail i c 0x19 k 0
    | none =>
      let pats := ps.filterMap id
      match pats.findSome? fun p => placeBad (s.ranks n).length p.place with
      | some k => s.openFail i c 0x15 k 0
      | none =>
        let s1 := { s with asks := s.asks.filter fun a => !(a.ring = i && a.seq = c) }
        ((s1.openJob n l pats loans).modCmd i c fun x => { x with buf := [] }).cmdEnd i c 0 0

/-- The checks of R99 over a bundle that is here. -/
def State.openBundle (s : State) (i c n : Nat) (l : List Byte) : State :=
  match jobRecordBad l with
  | some o => s.openFail i c 0x10 o 0
  | none =>
    if byteAt l 0x11 &&& s.conf.allow ≠ byteAt l 0x11 ∨ byteAt l 0x12 &&& s.conf.beacon ≠ byteAt l 0x12 then s.openFail i c 0x17 0 0
    else match s.memStep i c n l with
      | .enough => s.openCheck i c n l []
      | .granted a => s.openCheck i c n l (a.asks.map fun x => { lender := x.1, slot := x.2.2.getD 0, frames := x.2.1 })
      | .wait => s
      | .ask p =>
        let a : LendAsk := { part := n, ring := i, seq := c, asks := p.map fun x => (x.1, x.2, none) }
        p.foldl (fun s x => s.sendLend x.1 n 1 x.2) { s with asks := s.asks ++ [a] }
      | .none_ => s.openFail i c 0x16 0 (s.shortfall n l)

/-- JOB_OPEN (R99): at its start the bundle is asked for from the host; once it is here the checks run in order, loans
are asked for and awaited, and the job opens or is refused.  A module whose router failed refuses it (R88). -/
def execJobOpen (i : Fin 64) (c : Word) (s : State) : Out :=
  match s.cmd i c.toNat with
  | none => .next s
  | some x =>
    let n := i.val / 4
    let len := leAt x.entry 20 4
    if x.opc ≠ 1 ∨ x.phase = .ready then .next s
    else if x.phase = .started then
      if s.pwr.routerBad then .next (s.cmdEnd i x.seq 0x30 0)
      else
        let s1 := s.modCmd i x.seq fun y => { y with phase := .running }
        if len = 0 then .next (s1.openBundle i x.seq n [])
        else .next (s1.hostRead (s1.rd F.ETH_RING_CTL_NQP i) i x.seq (leAt x.entry 8 8) (leAt x.entry 16 4) len)
    else if x.buf.length < len then .next s
    else .next (s.openBundle i x.seq n x.buf)

/-- LEND_GRANT (R153, R155): a lender's grant or refusal, or word that a loan is lost with its stack.  Borrowed offsets follow the
order in which the lenders were asked (R154; log entry 73). -/
def execLendGrant (j : Fin 145) (p : Packet) (s : State) : Out :=
  let kind := p.tag.toNat
  if s.mine p 0x13 && (kind = 2 || kind = 3 || kind = 5) then
    .next (s.recvSeq j p fun q s =>
      let n := q.srcPart.toNat
      let m := q.srcMod.toNat
      let slot := q.addr.toNat % 32
      if kind = 5 then
        if (s.part n).loans.any fun l => l.lender = m && l.slot = q.addr.toNat then s.jobEnd n 0x32 m else s
      else match s.asks.find? fun a => a.part = n && a.asks.any fun x => x.1 = m && x.2.2.isNone with
        | none => if kind = 2 then s.sendLend m n 4 slot else s
        | some a =>
          if kind = 3 then
            match s.cmd a.ring a.seq with
            | some x => s.openFail a.ring a.seq 0x16 0 (s.shortfall n x.buf)
            | none => s.returnGrants a
          else
            let b := { a with asks := a.asks.map fun x => if x.1 = m && x.2.2.isNone then (x.1, x.2.1, some slot) else x }
            { s with asks := s.asks.map fun y => if y = a then b else y })
  else .next s

/-- LOAN_TIMEOUT (R153): a lender has not answered for 5 ms, so grants go back and JOB_OPEN completes with CAPACITY. -/
def execLoanTimeout (i : Fin 64) (c : Word) (s : State) : Out :=
  match s.askOf i c.toNat, s.cmd i c.toNat with
  | some a, some x => .next (s.openFail i c.toNat 0x16 0 (s.shortfall a.part x.buf))
  | _, _ => .next s

/-! ### JOB_CLOSE (R96, R114, R155) -/

/-- The job is closed: patterns discarded, tokens 0, held signals dropped, loans and the episode end. -/
def State.closeJob (s : State) (n : Nat) : State :=
  let s1 := (((s.abandon n).endLoans n).relaxEnd n).loseRep n
  let s2 := (s1.clearTokens n).modPart n fun p => { p with pats := [], run := none, held := [] }
  (s2.wr F.ETH_PART_STATE_STATE n 1).wr F.ETH_PART_STATE_NPAT n 0

/-- JOB_CLOSE (R96). -/
def execJobClose (i : Fin 64) (c : Word) (s : State) : Out :=
  onStarted i c 7 (fun x s => (s.closeJob (i.val / 4)).cmdEnd i x.seq 0 0) s

/-! ### Completion records (R122 to R125, R478) -/

/-- Whether a packet is a write of the partition's own pattern that is not settled: no answer to a peer's GET, no
management packet, no access of a host or a LOAD. -/
def State.ownWrite (s : State) (n : Nat) (p : Packet) (d : Option Nat) : Bool :=
  p.srcPart.toNat = n && p.typ ≠ 3 && p.cls ≠ 3 && !(s.hostDesc d)

/-- Whether every write of partition `n`'s RUN is visible, poison, or known never to arrive (R478): no descriptor, GET, replay
or unacknowledged packet of it is left. -/
def State.quiet (s : State) (n : Nat) : Bool :=
  !(s.fab.descs.any fun d => d.part = n && d.unit < hostUnit) && !(s.fab.gets.any fun g => g.part = n && !(s.hostDesc g.desc)) &&
    !(s.replayQ.any fun r => s.partOf r.cluster = some n) &&
    !(s.fab.tx.any fun (e : Nat × TxFlow) => (e.2.unacked.any fun u => s.ownWrite n u.pkt u.desc) ||
      e.2.waiting.any fun w => s.ownWrite n w.1 w.2)

/-- Whether every stream and list of partition `n` has reached its END (R102). -/
def State.runDone (s : State) (n : Nat) : Bool :=
  (s.engQ.all fun (e : Nat × List EngInstr) => s.partOf (e.1 / 32) ≠ some n || e.2 = []) &&
    (s.bobQ.all fun (e : Nat × List BobDesc) => s.partOf (e.1 / 32) ≠ some n || e.2 = [])

/-- Whether a command may write its record: a RUN at its quiet point, a LOAD once its writes have settled, a fence when it is
alone in its ring, any other as soon as it has had its effect (R114, R124, R478). -/
def State.finished (s : State) (c : Cmd) : Bool :=
  if c.isFence then (c.phase = .ready || c.phase = .running) && (s.cmds.filter fun x => x.ring = c.ring) = [c]
  else if c.opc = 3 then (c.phase = .ready || (c.phase = .running && s.runDone (c.ring / 4))) && s.quiet (c.ring / 4)
  else c.phase = .ready && c.put = []

/-- STATUS and ORIGIN of a fence (R124): a failed command of its scope, or the end of the job, beside a status of its own; the
higher stands. -/
def State.fenceStatus (s : State) (c : Cmd) : Cmd :=
  match (s.ring c.ring).scope with
  | some q => c.note 0x35 q
  | none => if c.ended then c.note 0x34 0 else c

/-- PHASE of R122. -/
def phaseOf (c k : Nat) : Nat := 1 - c / 2 ^ k % 2

/-- The 32 bytes of a completion record (R122). -/
def Cmd.record (c : Cmd) (k time : Nat) : List Byte :=
  natLE 4 c.tag ++ natLE 4 c.seq ++ natLE 2 c.status ++
    natLE 1 (c.flags % 64 + (if c.poison then 64 else 0) + 128 * phaseOf c.seq k) ++ natLE 1 c.opc ++ natLE 4 c.origin ++
    natLE 8 c.detail ++ natLE 8 time

/-- A completed command and its ring's scope (R124): a fence begins the next scope; of failed commands the first in start
order stands.  With no fence before, the scope begins at JOB_OPEN, which `openJob` sees to. -/
def State.noteScope (s : State) (c : Cmd) : State :=
  if c.isFence then s.modRing c.ring fun r => { r with scope := none, fenced := true }
  else if c.status = 0 then s
  else
    let ci := s.ci c.ring
    s.modRing c.ring fun r => { r with scope := match r.scope with
      | some q => some (if countDiff ci q < countDiff ci c.seq then c.seq else q)
      | none => some c.seq }

/-- COMMAND_COMPLETE (R122 to R125): at its quiet point a command's record is written, DONE counts it, and a
notification is sent where asked for. -/
def execCommandComplete (i : Fin 64) (c : Word) (s : State) : Out :=
  match s.cmd i c.toNat with
  | none => .next s
  | some x =>
    if s.finished x then
      let n := i.val / 4
      let y := if x.isFence then s.fenceStatus x else x
      let k := s.rd F.ETH_RING_CTL_LOG2SIZE i
      let s1 := s.partWrite n (s.cqBase i + y.seq % 2 ^ k * 32) (y.record k s.timeBase.toNat) false
      let s2 := { s1 with cmds := s1.cmds.filter fun z => !(z.ring = i.val && z.seq = y.seq) }
      let s3 := (s2.wr F.ETH_RING_DONE_COUNT i ((s2.rd F.ETH_RING_DONE_COUNT i + 1) % 2 ^ 32)).noteScope y
      let s4 := if y.opc = 3 then s3.modPart n fun p => { p with run := none } else s3
      let s5 := if y.opc = 6 ∧ y.status = 0 then
          (s4.wr F.ETH_PART_CKPT_LO_CKPT n (leAt y.entry 8 4)).wr F.ETH_PART_CKPT_HI_CKPT n (leAt y.entry 12 4)
        else s4
      let s6 : State := match y.key with
        | some q => s5.keyCounts q.slot
        | none => s5
      .next (if byteAt y.entry 1 % 2 = 1 && s6.flag F.ETH_RING_CTL_NOTIFY_EN i then
          s6.hostNotify (s6.rd F.ETH_RING_CTL_NQP i) i y.seq
        else s6).voteCheck
    else .next s

end Sys2Proof.Machine
end

