-- ==== Sys2Proof/Machine/Scrub.lean ====
section
/-! DEFINITION.  Assigning, releasing and inspecting partitions (R520, R133), the scrub between users (R263 to R265),
the end of zero-fills and of loans given (R146, R155), and relaxation becoming due (R59). -/

namespace Sys2Proof.Machine

/-! ### HMP answers (R230) -/

/-- Whether the management firmware answers HMP: it has started (R435), its cores run, and the module is not in recovery for an object other
than FW_IMAGE (R231, R439). -/
def State.hmpUp (s : State) : Bool := !s.mgmt.down && !s.boot.off && decide (6 ≤ s.rd F.CFG_STAT_STEP)

/-- Send an HMP response: TYPE is the request's with 0x8000 added, SEQ the request's. -/
def State.hmpSay (s : State) (x : HmpHead) (typ status : Nat) (body : List Byte) : State :=
  s.emit (.hmp x.client (0x8000 + typ) status x.seq.toNat body)

/-- Whether a request is taken: the firmware answers, the client has a session (R229), and the header is well formed. -/
def State.hmpTakes (s : State) (x : HmpHead) : Bool := s.hmpUp && s.sessions.elem x.client && x.ok

/-- Answer an HMP object request: nothing while the management cores are down and to a client without a session; malformed for a
bad header; an access fault in recovery (R439), and without an identity, when a session may only read registers and records
(R239). -/
def hmpObj (typ : Nat) (x : HmpHead) (f : State → State) (s : State) : Out :=
  if !s.hmpUp || !(s.sessions.elem x.client) then .next s
  else if !x.ok then .next (s.hmpSay x typ 2 [])
  else if s.flag F.CFG_STAT_RECOVERY || s.rd F.SEC_STATE_ID = 2 then .next (s.hmpSay x typ 1 [])
  else .next (f s)

/-- An answer with a 4-byte result. -/
def State.answer4 (s : State) (x : HmpHead) (r : Nat) : State := s.hmpSay x 4 0 (natLE 4 r)

/-! ### PART_ASSIGN (R520) -/

/-- A body of PART_ASSIGN read: partition, stack mask, base, frames, cluster mask. -/
structure Assign where
  n : Nat
  mask : Nat
  base : Nat
  frames : Nat
  clusters : Nat
  deriving DecidableEq, Repr

/-- Read a PART_ASSIGN body; nothing when it is malformed. -/
def readAssign (l : List Byte) : Option Assign :=
  let a : Assign := { n := byteAt l 0, mask := byteAt l 1, base := leAt l 4 4, frames := leAt l 8 4, clusters := leAt l 12 8 }
  let k := (stacksOf a.mask).length
  if l.length = 20 ∧ a.n < 16 ∧ zerosAt l 2 2 = true ∧ (k = 1 ∨ k = 2 ∨ k = 4 ∨ k = 8) ∧ 1 ≤ a.frames ∧ a.clusters ≠ 0 then some a
  else none

/-- The result of an assign, in the order of R520's checks. -/
def State.assignResult (s : State) (a : Assign) : Nat :=
  let named := (List.range 64).filter fun c => a.clusters.testBit c
  let free := fun (c : Nat) => match s.physOf c with
    | some p => decide (s.rd F.CLU_STATE_STATE p = 4) && (s.partOf p).isNone
    | none => false
  if s.pstate a.n ≠ 0 ∨ s.flag F.SEC_STATE_DEBUG = true ∨ s.rd F.CFG_STAT_IMAGE = 2 then 2
  else if !(named.all free) then 3
  else if ((stacksOf a.mask).any fun k => s.rd F.MEM_STATE_STATE k = stFailed) || a.base < 1024 ||
      1177344 < a.base + a.frames || !(s.rangeFree a.mask a.base a.frames) then 4
  else 0

/-- Carry out an assign (R96, R133, R140): the range and clusters are bound, generation 0's key is made. -/
def State.assign (s : State) (a : Assign) : State :=
  let s1 := (((s.wr F.MEM_PART_SET_VALID a.n 1).wr F.MEM_PART_SET_STACKS a.n a.mask).wr F.MEM_PART_BASE_VALUE a.n a.base).wr
    F.MEM_PART_FRAMES_VALUE a.n a.frames
  let d := s1.drawKey
  let s2 := { d.2 with keys := d.2.keys ++ (stacksOf a.mask).map fun k =>
    ({ stack := k, loan := false, owner := a.n, gen := 0, key := d.1 } : KeySlot) }
  let s3 := ((List.range 64).filter fun c => a.clusters.testBit c).foldl (fun s c =>
    match s.physOf c with
    | some p => ((s.wr F.CLU_STATE_STATE p 5).wr F.CLU_STATE_PART p a.n).wr F.CLU_STATE_PVALID p 1
    | none => s) s2
  ((s3.modPart a.n fun _ => Part.empty).clearTokens a.n).wr F.ETH_PART_STATE_STATE a.n 1

/-- PART_ASSIGN (R520): all or nothing; every result but OK writes a warning record. -/
def execPartAssign (x : HmpHead) (body : List Byte) (s : State) : Out :=
  hmpObj 4 x (fun s =>
    match readAssign body with
    | none => (s.recordOpen 14 0 2 [wd 1]).answer4 x 1
    | some a =>
      let r := s.assignResult a
      if r = 0 then (s.assign a).answer4 x 0 else (s.recordOpen 14 a.n 2 [wd r]).answer4 x r) s

/-- PART_STATE (R520): the 16 words of ETH_PART_STATE. -/
def execPartState (x : HmpHead) (s : State) : Out :=
  hmpObj 3 x (fun s => s.hmpSay x 3 0 ((List.range 16).flatMap fun n => natLE 4 (s.reg .ETH_PART_STATE n).toNat)) s

/-! ### The scrub between users (R263) -/

/-- The physical clusters of a partition. -/
def State.clusters (s : State) (n : Nat) : List Nat := allP.filter fun p => s.partOf p = some n

/-- Destroy the ingest keys of a partition (R253, R263). -/
def State.dropKeys (s : State) (n : Nat) : State :=
  ((List.range 16).filter fun k => s.rd F.SEC_KSLOT_PART k = n && s.flag F.SEC_KSLOT_LOADED k).foldl (fun (s : State) (k : Nat) =>
    ({ s with kslots := Assoc.erase s.kslots k }).setReg .SEC_KSLOT k 0) s

/-- Drop what a partition has sent and not seen acknowledged: no retransmission (R263 step 3). -/
def State.dropSent (s : State) (n : Nat) : State :=
  { s with fab := { s.fab with tx := s.fab.tx.map fun (e : Nat × TxFlow) => (e.1, { e.2 with
      unacked := e.2.unacked.filter fun u => u.pkt.srcPart.toNat ≠ n
      waiting := e.2.waiting.filter fun w => w.1.srcPart.toNat ≠ n }) } }

/-- What a partition's queue pairs owed to hosts is dropped with the pairs. -/
def State.dropOwed (s : State) (n : Nat) : State :=
  let ids := (s.fab.descs.filter fun d => d.part = n).map DescRun.id
  { s with
    owed := s.owed.filter fun o => !(ids.elem o.id)
    fab := { s.fab with
      descs := s.fab.descs.filter fun d => d.part ≠ n
      gets := s.fab.gets.filter fun g => g.part ≠ n } }

/-- Steps 1 to 3 of the scrub: state SCRUB, rings and queue pairs stop, keys, ETH and admit entries go, units halt, a key
rotation is abandoned (R145), and the queue pairs are remembered, whose requests are answered as refused (R264). -/
def State.scrubBegin (s : State) (n : Nat) : State :=
  let s1 := (s.wr F.ETH_PART_STATE_STATE n 4).wr F.SEC_SCRUB_BUSY_PART 0 (s.rd F.SEC_SCRUB_BUSY_PART ||| 2 ^ n)
  let s2 := (s1.asks.filter fun a => a.part = n).foldl State.returnGrants s1
  let s3 := { s2 with
    cmds := s2.cmds.filter fun c => c.ring / 4 ≠ n
    rings := s2.rings.zipIdx.map fun (x : Ring × Nat) => if x.2 / 4 = n then {} else x.1 }
  let s4 := ((s3.dropKeys n).clearEth n)
  let s5 := (List.range 4).foldl (fun s k => (s.clearReg (4 * n + k) .SEC_ADMIT_MOD).clearReg (4 * n + k) .SEC_ADMIT_PART) s4
  let s6 := ((((s5.endColls n).abandon n).dropSent n).relaxEnd n).loseRep n
  let s7 := (s6.modPart n fun p => { p with
    scrubStep := 3, scrubStart := s.up, rotOff := true, scrubQps := ((s.partQps n).filter fun q => s.qpState q ≠ 0).map fun q => (q, s.qpHdr q) }).dropOwed n
  (s7.wr F.MEM_ROT_CTL_REQ n 0).sweepShow

/-- PART_RELEASE (R520): OK at once for an ASSIGNED, JOB or ENDED partition, whose scrub begins. -/
def execPartRelease (x : HmpHead) (body : List Byte) (s : State) : Out :=
  hmpObj 4 x (fun s =>
    let n := byteAt body 0
    if body.length ≠ 4 ∨ 16 ≤ n ∨ zerosAt body 1 3 = false then (s.recordOpen 14 0 2 [wd 1]).answer4 x 1
    else if s.served n then (s.scrubBegin n).voteCheck.answer4 x 0
    else (s.recordOpen 14 n 2 [wd 2]).answer4 x 2) s

/-- Zero the stores and clear the engine state of a partition's clusters (R263 step 4, R64, R94). -/
def State.zeroUnits (s : State) (n : Nat) : State :=
  let mine := s.clusters n
  let s1 := mine.foldl (fun s p => (s.storeZero p).setReg .CLU_CAUSE p (s.reg .CLU_CAUSE p &&& 1)) s
  let s2 := mine.foldl (fun s p => ((s.setReg .CLU_ARITH_STAT p 0).setReg .CLU_STALL p 0).wr F.CLU_STORE_UE_ADDR_VALID p 0) s1
  let of_ := fun (k : Nat) => mine.elem k
  ({ s2 with
    tabs := s2.tabs.filter fun e => !(of_ (e.1 / 128))
    vregs := s2.vregs.filter fun e => !(of_ (e.1 / 512))
    ueLines := s2.ueLines.filter fun e => !(of_ (e.1 / 2 ^ 20))
    rng := s2.rng.filter fun e => e.1 / 2048 ≠ n }).clearTokens n

/-- The last zero-fill is done (R263 step 6, R146, R210, R268): bindings freed, state FREE, SCRUB_DONE, a notice record;
a warning record where a failed stack was left out (R265). -/
def State.scrubDone (s : State) (n : Nat) : State :=
  let failed := (s.stackSet n).any fun k => s.rd F.MEM_STATE_STATE k = stFailed
  let s0 := { s with keys := s.keys.filter fun q => q.loan || q.owner ≠ n }
  let s1 := ((s0.clearSeals n).clearWins n).clearPeers n
  let s2 := (s1.setReg .FAB_COLL_BUSY_LO n 0).setReg .FAB_COLL_BUSY_HI n 0
  let s3 := (s2.clusters n).foldl (fun s p => (((s.wr F.CLU_STATE_STATE p (if s.rd F.CLU_STATE_STATE p = 5 then 4 else s.rd F.CLU_STATE_STATE p)).wr
    F.CLU_STATE_PART p 0).wr F.CLU_STATE_PVALID p 0).setReg .CLU_ARITH_RELAX_CNT p 0) s2
  let s4 : State := [Reg.MEM_PART_SET, .MEM_PART_BASE, .MEM_PART_FRAMES, .MEM_PART_LEND, .MEM_ROT_CTL, .MEM_ROT_OLDCNT].foldl
    (fun (s : State) (r : Reg) => s.clearReg n r) { s3 with
      bringIns := s3.bringIns.map fun (b : BringIn) => if b.part = some n then { b with part := none } else b
      fab := { s3.fab with colls := s3.fab.colls.filter fun c => c.part ≠ n } }
  let t := (s4.up - (s4.part n).scrubStart) / 1000
  let s5 := (s4.modPart n fun _ => Part.empty).setReg .ETH_PART_STATE n 0
  let s6 := ((s5.wr F.SEC_SCRUB_BUSY_PART 0 (s5.rd F.SEC_SCRUB_BUSY_PART &&& (65535 - 2 ^ n))).wr F.SEC_SCRUB_LAST_PART 0 n).wr
    F.SEC_SCRUB_LAST_TIME 0 (min t (2 ^ 28 - 1))
  let s7 := if failed then s6.recordOpen 6 0 2 [wd n] else s6
  s7.sweepShow.raise F.SEC_CAUSE_SCRUB_DONE 0 1 [wd n, wd t]

/-- Step 5 of the scrub: the base dies start the zero-fill, and loans borrowed end. -/
def State.scrubFill (s : State) (n : Nat) : State :=
  let s1 := (s.endLoans n).modPart n fun p => { p with scrubStep := 5 }
  let s2 := s1.zeroFill (s1.rd F.MEM_PART_SET_STACKS n) (s1.rd F.MEM_PART_BASE_VALUE n) (s1.rd F.MEM_PART_FRAMES_VALUE n) false n
  if s2.zfills.any fun z => !z.loan && z.owner = n then s2 else s2.scrubDone n

/-- SCRUB_HALTED (R263 step 4): the units have halted, and their stores and state are zeroed.  With VCORE off the stores
have lost their contents, and the step counts as done (R265). -/
def execScrubHalted (n : Fin 16) (s : State) : Out :=
  if s.pstate n = 4 ∧ (s.part n).scrubStep = 3 then
    .next ((s.zeroUnits n).modPart n fun p => { p with scrubStep := 4 })
  else .next s

/-- SCRUB_STORES_ZEROED (R263 step 5). -/
def execScrubStoresZeroed (n : Fin 16) (s : State) : Out :=
  if s.pstate n = 4 ∧ (s.part n).scrubStep = 4 then .next (s.scrubFill n) else .next s

/-- A loan given is cleared in every stack: its frames are free again (R155). -/
def State.loanFreed (s : State) (slot : Nat) : State :=
  match s.loansOut.find? fun l => l.slot = slot with
  | some l => ({ s with loansOut := s.loansOut.erase l }).wr F.MEM_LEND_OUT_FRAMES 0
      (s.rd F.MEM_LEND_OUT_FRAMES - l.frames * (stacksOf l.mask).length)
  | none => s

/-- ZERO_FILL_DONE (R146): a base die has zero-filled its range and destroyed its keys; after the last one the scrub or
the loan is over. -/
def execZeroFillDone (k : Fin 8) (loan : Bool) (owner : Fin 32) (s : State) : Out :=
  match s.zfills.find? fun z => z.stack = k.val && z.loan = loan && z.owner = owner.val with
  | none => .next s
  | some z =>
    let s1 := s.zeroFillEnd z
    if s1.zfills.any fun y => y.loan = loan && y.owner = owner.val then .next s1
    else if loan then .next (s1.loanFreed owner)
    else if s1.pstate owner = 4 ∧ (s1.part owner).scrubStep = 5 then .next (s1.scrubDone owner).voteCheck
    else .next s1

/-! ### Relaxation becomes due (R59) -/

/-- RELAX_PENDING (R59): the power-cap loop has been winning for 50 ms. -/
def execRelaxPending (s : State) : Out := .next { s with pwr := { s.pwr with capWin := true } }

/-- RELAX_END_PENDING (R59): the power-cap loop has not been winning for 50 ms. -/
def execRelaxEndPending (s : State) : Out := .next { s with pwr := { s.pwr with capWin := false } }

end Sys2Proof.Machine
end

