-- ==== Sys2Proof/Machine/Stacks.lean ====
section
/-! DEFINITION.  The commands of the memory stacks (R131 to R146, R156), and how a stack fails (R139, R145, R155, R477). -/

namespace Sys2Proof.Machine

/-! ### Stack failure (R139) -/

/-- A partition whose stack set holds a failed stack goes to ENDED, its running commands complete with STACK_LOST and its
key rotation is abandoned (R139, R145). -/
def State.stackLost (s : State) (n k : Nat) : State :=
  let s1 := s.modPart n fun p => { p with rotOff := true }
  if s1.pstate n = 1 then
    let s2 := (s1.asks.filter fun a => a.part = n).foldl State.returnGrants s1
    (s2.endRunning n 0x36 k).wr F.ETH_PART_STATE_STATE n 3
  else s1.jobEnd n 0x36 k

/-- Reads that waited in a stack that fails return poison; writes never arrive (R477, R478). -/
def State.failOps (s : State) (k : Nat) (l : List (Nat × Option (List (Option Byte) × Bool))) : State :=
  l.foldl (fun s x => if x.2.isNone then s.emit (.stackLine k x.1 (s.memBytes k x.1 64) true) else s) s

/-- A stack fails (R139, R155): it reads FAILED, FAIL is raised with a critical record, partitions that hold it end, loans
held in it end, their borrowers told, and a scrub that waited for its zero-fill alone is over (R265). -/
def State.stackFail (s : State) (k : Nat) : State :=
  if s.rd F.MEM_STATE_STATE k = stFailed then s
  else
    let s1 := (s.wr F.MEM_STATE_STATE k stFailed).raise F.MEM_CAUSE_FAIL k 3 [wd k]
    let ops := (s1.convs.filter fun c => c.stack = k).flatMap Conv.ops ++ (s1.rowCopies.filter fun c => c.stack = k).flatMap RowCopy.ops
    let s2 := ({ s1 with
      zfills := s1.zfills.filter fun z => z.stack ≠ k
      convs := s1.convs.filter fun c => c.stack ≠ k
      rowCopies := s1.rowCopies.filter fun c => c.stack ≠ k
      keys := s1.keys.filter fun q => q.stack ≠ k } : State).failOps k ops
    let s3 := ((List.range 16).filter fun n => (s2.stackSet n).elem k).foldl (fun (s : State) (n : Nat) => s.stackLost n k) s2
    let s4 := (s3.loansOut.filter fun l => l.mask.testBit k).foldl
      (fun s l => (s.sendLend l.module l.part 5 l.slot).endLoanOut l) s3
    let s5 := ((List.range 16).filter fun n => s4.pstate n = 4 && (s4.part n).scrubStep = 5 &&
      !(s4.zfills.any fun z => !z.loan && z.owner = n)).foldl State.scrubDone s4
    ((s5.wr F.MEM_STATE_ZFILL k 0).sweepShow).voteCheck

/-! ### The commands -/

/-- One packet to or from a stack (R131): failed tries are repeated up to eight times, LINK is raised for a repeat, and
the ninth failure fails the stack (R139). -/
def State.packetTries (s : State) (k : Nat) (crc : Fin 10) : State :=
  if crc.val = 0 then s
  else
    let s1 := s.raise F.MEM_CAUSE_LINK k
    if crc.val = 9 then s1.stackFail k else s1

/-- STACK_READ (R136, R142): a line read; a failed stack returns poison, a page under conversion and a row that is copied
are waited for, an uncorrectable codeword is poisoned; `crc` counts the packet's failed tries (R131). -/
def execStackRead (k : Fin 8) (line : BitVec 31) (crc : Fin 10) (h : List StackHit) (s0 : State) : Out :=
  let a := line.toNat * 64
  let s := if s0.rd F.MEM_STATE_STATE k = stFailed then s0 else s0.packetTries k crc
  if s.rd F.MEM_STATE_STATE k = stFailed then .next (s.emit (.stackLine k a (s.memBytes k a 64) true))
  else if s.accessWaits k a then .next (s.waitMem k a none)
  else
    let s1 := s.stackHits (h.filter fun x => x.stack = k ∧ x.addr.toNat / 64 = line.toNat)
    .next (s1.emit (.stackLine k a (s1.memBytes k a 64) (s1.memLinePoison k a)))

/-- STACK_WRITE (R136, R142): a line write with a byte mask.  The first write to a ZERO or old-generation page
starts its conversion, of which at most four run at once in a stack; the write is performed when the conversion ends.
The metadata frames are the base die's own (R132). -/
def execStackWrite (k : Fin 8) (line : BitVec 31) (data : BitVec 512) (mask : BitVec 64) (poison : Bool) (crc : Fin 10)
    (s0 : State) : Out :=
  let a := line.toNat * 64
  let f := a / 65536
  let l := (natLE 64 data.toNat).zipIdx.map fun x => if mask.getLsbD x.2 then some x.1 else none
  let s := if s0.rd F.MEM_STATE_STATE k = stFailed then s0 else s0.packetTries k crc
  if s.rd F.MEM_STATE_STATE k = stFailed || metaFrame ≤ f then .next s
  else if s.accessWaits k a then .next (s.waitMem k a (some (l, poison)))
  else if s.needsConv k f then
    .next { s with convs := s.convs ++ [{ stack := k, frame := f, gen := s.writeGen k f, ops := [(a, some (l, poison))] }] }
  else .next (s.memLine k a l poison)

/-- PAGE_CONVERSION_DONE (R142): one of the four conversions that run in a stack ends. -/
def execPageConversionDone (k : Fin 8) (frame : BitVec 21) (s : State) : Out :=
  match ((s.convs.filter fun c => c.stack = k.val).take 4).find? fun c => c.frame = frame.toNat with
  | none => .next s
  | some c => .next (s.convEnd c)

/-- MEM_PATROL_SCRUB (R137): the next line is read and corrected; scrub pauses outside the ready state. -/
def execMemPatrolScrub (k : Fin 8) (h : List StackHit) (s : State) : Out :=
  if s.flag F.MEM_SCRUB_CTL_EN k ∧ s.rd F.MEM_STATE_STATE k = stReady then
    let line := Assoc.get 0 s.memPatrol k
    let s1 := s.stackHits (h.filter fun x => x.stack = k ∧ x.addr.toNat / 64 = line)
    let next := (line + 1) % 1207959552
    let s2 := { s1 with memPatrol := Assoc.set 0 s1.memPatrol k next }
    -- a pass of the whole stack ends the scrub period: the rows' counts start again (R138)
    .next (if next = 0 then { s2 with rowCe := s2.rowCe.filter fun e => e.1 / 2 ^ 20 / 512 ≠ k.val } else s2)
  else .next s

/-- Banks of a stack without a spare row left (R139). -/
def State.spentBanks (s : State) (k : Nat) : Nat := (s.spares.filter fun (e : Nat × Nat) => e.1 / 512 = k && 64 ≤ e.2).length

/-- ROW_SPARE_DONE (R138): the row maps to a spare; the accesses that waited are performed; SPARED, and SPARE_OUT with
the bank's 64th spare; the sixteenth bank without a spare fails the stack (R139). -/
def execRowSpareDone (k : Fin 8) (bank : Fin 512) (s : State) : Out :=
  match s.rowCopies.find? fun c => c.stack = k.val ∧ c.bank = bank.val with
  | none => .next s
  | some c =>
    let key := k.val * 512 + bank.val
    let used := Assoc.get 0 s.spares key + 1
    let s1 := { s with
      rowCopies := s.rowCopies.erase c
      spares := Assoc.put s.spares key used
      rowCe := Assoc.erase s.rowCe (key * 2 ^ 20 + c.row) }
    let s2 := ((c.ops.foldl (fun (s : State) w => s.memOp k w) s1).count F.MEM_SPARE_STAT_SPARED k).raise F.MEM_CAUSE_SPARED k
    let s3 := if used = 64 then (s2.count F.MEM_SPARE_STAT_EXHAUSTED k).raise F.MEM_CAUSE_SPARE_OUT k 2 [wd bank] else s2
    .next (if used = 64 ∧ 16 ≤ s3.spentBanks k.val then s3.stackFail k else s3)

/-- STACK_TRAINING_DONE (R156): a training stack is ready with every page ZERO, or FAILED. -/
def execStackTrainingDone (k : Fin 8) (ok : Bool) (s : State) : Out :=
  if s.rd F.MEM_STATE_STATE k = 1 then
    if ok then
      let s1 : State := { s with
        mem := s.mem.filter fun e => e.1 / 2 ^ 37 ≠ k.val
        memPoison := s.memPoison.filter fun e => e.1 / 2 ^ 31 ≠ k.val
        pages := s.pages.filter fun e => e.1 / 2 ^ 21 ≠ k.val
        keys := s.keys.filter fun q => q.stack ≠ k.val }
      -- the repair area is read (R497)
      let banks := s.spares.filter fun e => e.1 / 512 = k.val
      let s2 : State := (s1.wr F.MEM_SPARE_STAT_SPARED k (min 0xFFFF (banks.map Prod.snd).sum)).wr F.MEM_SPARE_STAT_EXHAUSTED k
        (s1.spentBanks k)
      .next (if 16 ≤ s2.spentBanks k.val then s2.stackFail k else s2.wr F.MEM_STATE_STATE k stReady)
    else .next (s.wr F.MEM_STATE_STATE k stFailed)
  else .next s

/-- STACK_FAIL (R139): the base die's self-check reports a fault. -/
def execStackFail (k : Fin 8) (s : State) : Out := .next (s.stackFail k)

/-- ROTATION_REQ (R143, R144, R158): REQ is set; ignored while the partition is FREE or in SCRUB. -/
def execRotationReq (n : Fin 16) (s : State) : Out :=
  if s.pstate n = 0 ∨ s.pstate n = 4 then .next s else .next (s.wr F.MEM_ROT_CTL_REQ n 1)

/-- ROTATION_KEY_LOADED (R143 steps 2 and 3): the next generation's key stands in every base die of the set.  ACTIVE is 1
from then on, as the timeline of R145 shows it; step 3's words clear it (log entry 63). -/
def execRotationKeyLoaded (n : Fin 16) (s : State) : Out :=
  if s.flag F.MEM_ROT_CTL_REQ n ∧ ¬ s.flag F.MEM_ROT_CTL_ACTIVE n ∧ (s.stackSet n) ≠ [] ∧ (s.part n).rotOff = false then
    let w := s.rd F.MEM_ROT_CTL_WGEN n
    let g := (w + 1) % 4
    let d := s.drawKey
    let s1 := { d.2 with keys := d.2.keys ++ (s.stackSet n).map fun k =>
      ({ stack := k, loan := false, owner := n.val, gen := g, key := d.1 } : KeySlot) }
    let s2 := (((s1.wr F.MEM_ROT_CTL_WGEN n g).wr F.MEM_ROT_CTL_OLDGEN n w).wr F.MEM_ROT_CTL_ACTIVE n 1).wr
      F.MEM_ROT_CTL_REQ n 0
    .next (s2.countOld n)
  else .next s

/-- SWEEP_CONVERSION (R143 step 5): the next old page of the stack's share is converted; the sweep pauses
outside the ready state, and is over once the rotation is abandoned (R145).  A page under conversion is left to it. -/
def execSweepConversion (k : Fin 8) (n : Fin 16) (h : List StackHit) (s : State) : Out :=
  if s.rd F.MEM_STATE_STATE k = stReady ∧ (s.part n).rotOff = false then
    match s.nextOld k n with
    | none => .next s
    | some f => .next (((s.stackHits (h.filter fun x => x.stack = k)).settled k f).convert k f)
  else .next s

end Sys2Proof.Machine
end

