-- ==== Sys2Proof/Machine/Cert.lean ====
section
/-! DEFINITION.  What the security core signs and derives (R238 to R240, R247 to R250): HMAC and HKDF over SHA-384, the
identity scalar, DER, certificates, the attestation context, TLS CertificateVerify content, and the wrapping key.  The layouts of
X.509, of the TCG DICE extension and of TLS 1.3 are those of the standards the rules name (log entry 10). -/

namespace Sys2Proof.Machine

/-- Big-endian bytes of a number. -/
def natBE (n v : Nat) : List Byte := (natLE n v).reverse

/-- The number big-endian bytes spell. -/
def beNat (l : List Byte) : Nat := leNat l.reverse

/-- The bytes of an ASCII string. -/
def text (s : String) : List Byte := s.toList.map fun c => BitVec.ofNat 8 c.toNat

/-! ### HKDF-SHA-384 (R238, R250) -/

/-- HMAC-SHA-384, whose block is 128 bytes. -/
def hmac384 (key msg : List Byte) : List Byte :=
  let k0 := if 128 < key.length then Config.sha384 key else key
  let k := k0 ++ List.replicate (128 - k0.length) 0
  Config.sha384 ((k.map (· ^^^ 0x5C)) ++ Config.sha384 ((k.map (· ^^^ 0x36)) ++ msg))

/-- HKDF-SHA-384 with at most 48 bytes of output; no salt counts as 48 zero bytes. -/
def hkdf384 (salt ikm info : List Byte) (n : Nat) : List Byte :=
  let prk := hmac384 (if salt = [] then List.replicate 48 0 else salt) ikm
  (hmac384 prk (info ++ [1])).take n

/-- The order of the P-384 group. -/
abbrev orderP384 : Nat := 0xFFFFFFFFFFFFFFFFFFFFFFFFFFFFFFFFFFFFFFFFFFFFFFFFC7634D81F4372DDF581A0DB248B0A77AECEC196ACCC52973

/-- The identity scalar of a seed (R238): candidates with counter bytes from `c` on; `fuel` bounds them by the byte's values. -/
def identityScalar (seed : List Byte) (c : Nat) : Nat → Option (List Byte)
  | 0 => none
  | k + 1 =>
    let x := hkdf384 [] seed (text "SX1 identity" ++ [BitVec.ofNat 8 c]) 48
    if beNat x = 0 ∨ orderP384 ≤ beNat x then identityScalar seed (c + 1) k else some x

/-- The key that unwraps a delivery (R250): ECDH's x-coordinate through HKDF, with the certificate's nonce as salt and the
object's first 12 bytes in the info; nothing where the ephemeral key is not on the curve. -/
def wrapKey (priv epub nonce head : List Byte) : Option (List Byte) :=
  (Config.ecdhX priv epub).map fun z => hkdf384 nonce z (text "SX1 key wrap" ++ head.take 12) 32

/-! ### DER -/

/-- A DER length. -/
def derLen (n : Nat) : List Byte :=
  if n < 128 then [BitVec.ofNat 8 n] else if n < 256 then [0x81, BitVec.ofNat 8 n] else 0x82 :: natBE 2 n

/-- A DER value. -/
def der (tag : Byte) (body : List Byte) : List Byte := tag :: (derLen body.length ++ body)

/-- A SEQUENCE of values. -/
def derSeq (l : List (List Byte)) : List Byte := der 0x30 l.flatten

/-- Content of a non-negative INTEGER from its big-endian bytes: no needless leading zero, and none that looks negative. -/
def derUint (l : List Byte) : List Byte :=
  match l.dropWhile fun b => b = 0 with
  | [] => [0]
  | a :: t => if a.getLsbD 7 then 0 :: a :: t else a :: t

/-- An INTEGER. -/
def derNat (v : Nat) : List Byte := der 0x02 (derUint (natBE 8 v))

/-- An OBJECT IDENTIFIER by its encoded content. -/
def derOid (l : List Byte) : List Byte := der 0x06 l

/-- A BIT STRING of whole bytes. -/
def derBytes (l : List Byte) : List Byte := der 0x03 (0 :: l)

/-- Content of a BIT STRING of named bits: bit 0 first, trailing zero bits left out. -/
def derFlags (l : List Bool) : List Byte :=
  let x := (l.reverse.dropWhile fun b => !b).reverse
  let n := (x.length + 7) / 8
  BitVec.ofNat 8 (8 * n - x.length) :: natBE n (packBits (x ++ List.replicate (8 * n - x.length) false).reverse)

/-- Year, month and day of a day counted from 1970-01-01 (Gregorian). -/
def civil (day : Nat) : Nat × Nat × Nat :=
  let z := day + 719468
  let e := z % 146097
  let y := (e - e / 1460 + e / 36524 - e / 146096) / 365
  let d := e - (365 * y + y / 4 - y / 100)
  let m := (5 * d + 2) / 153
  (y + z / 146097 * 400 + (if m < 10 then 0 else 1), if m < 10 then m + 3 else m - 9, d - (153 * m + 2) / 5 + 1)

/-- `n` decimal digits. -/
def digits (n v : Nat) : List Byte := (List.range n).map fun i => BitVec.ofNat 8 (0x30 + v / 10 ^ (n - 1 - i) % 10)

/-- A number in decimal without leading zeros. -/
def decimal (v : Nat) : List Byte :=
  match (digits 10 v).dropWhile fun b => b = 0x30 with
  | [] => [0x30]
  | l => l

/-- A GeneralizedTime of UTC seconds. -/
def derTime (t : Nat) : List Byte :=
  let c := civil (t / 86400)
  der 0x18 (digits 4 c.1 ++ digits 2 c.2.1 ++ digits 2 c.2.2 ++ digits 2 (t / 3600 % 24) ++ digits 2 (t / 60 % 60) ++
    digits 2 (t % 60) ++ [0x5A])

/-- Validity: 600 s from a time of issue, or the two dates of R247 where the time base was never set. -/
def derValidity (utc : Option Nat) : List Byte :=
  match utc with
  | some t => derSeq [derTime t, derTime (t + 600)]
  | none => derSeq [derTime 946684800, derTime 253402300799]

/-! ### Certificates -/

/-- ecdsa-with-SHA384. -/
def algEcdsa : List Byte := derSeq [derOid [0x2A, 0x86, 0x48, 0xCE, 0x3D, 0x04, 0x03, 0x03]]

/-- SubjectPublicKeyInfo of an uncompressed P-384 key. -/
def spki (pub : List Byte) : List Byte :=
  derSeq [derSeq [derOid [0x2A, 0x86, 0x48, 0xCE, 0x3D, 0x02, 0x01], derOid [0x2B, 0x81, 0x04, 0x00, 0x22]], derBytes pub]

/-- A name with a common name and a serial number. -/
def derName (cn serial : List Byte) : List Byte :=
  derSeq [der 0x31 (derSeq [derOid [0x55, 0x04, 0x03], der 0x0C cn]), der 0x31 (derSeq [derOid [0x55, 0x04, 0x05], der 0x13 serial])]

/-- An extension. -/
def derExt (oid : List Byte) (critical : Bool) (value : List Byte) : List Byte :=
  derSeq ([derOid oid] ++ (if critical then [der 0x01 [0xFF]] else []) ++ [der 0x04 value])

/-- A certificate: the part to be signed, and the signature by a private key, r then s. -/
def signCert (priv tbs : List Byte) : List Byte :=
  let g := Config.ecdsaSign priv (Config.sha384 tbs)
  derSeq [tbs, algEcdsa, derBytes (derSeq [der 0x02 (derUint (g.take 48)), der 0x02 (derUint (g.drop 48))])]

/-- A v3 certificate's part to be signed. -/
def tbsCert (serial issuer validity subject pub : List Byte) (exts : List (List Byte)) : List Byte :=
  derSeq ([der 0xA0 (derNat 2), der 0x02 (derUint serial), algEcdsa, issuer, validity, subject, spki pub] ++
    (if exts = [] then [] else [der 0xA3 (derSeq exts)]))

/-- A TcbInfo of a layer (R248): model, version, SVN, layer, digest, flags. -/
def tcbInfo (model version : List Byte) (svn layer : Nat) (digest : List Byte) (flags : List Bool) : List Byte :=
  derSeq ([der 0x80 (text "Holtier Devices"),
    der 0x81 model, der 0x82 version, der 0x83 (derUint (natBE 8 svn)), der 0x84 (derUint (natBE 8 layer)),
    der 0xA6 (derSeq [derOid [0x60, 0x86, 0x48, 0x01, 0x65, 0x03, 0x04, 0x02, 0x02], der 0x04 digest])] ++
    (if flags.any id then [der 0x87 (derFlags flags)] else []))

/-- "major.minor.patch.build" of a version word, major in its highest byte. -/
def versionText (v : Nat) : List Byte :=
  decimal (v / 2 ^ 24 % 256) ++ [0x2E] ++ decimal (v / 2 ^ 16 % 256) ++ [0x2E] ++ decimal (v / 2 ^ 8 % 256) ++ [0x2E] ++ decimal (v % 256)

/-- What a certificate of R247 is built from. -/
structure AttestFields where
  serial : List Byte
  pub : List Byte
  nonce : List Byte
  issued : Option Nat
  mfgCert : List Byte
  module : List Byte
  fwVer : Nat
  svn : Nat
  fwDigest : List Byte
  cfgVer : Nat
  cfgDigest : List Byte
  mtrVer : Nat
  mtrDigest : List Byte
  id : Nat
  peloton : Nat
  opHash : List Byte
  rollback : Nat
  change : Nat
  debug : Bool
  unclaimed : Bool
  meterUp : Bool
  deriving DecidableEq, Repr

/-- The MultiTcbInfo (R248): one TcbInfo for each layer. -/
def multiTcbInfo (x : AttestFields) : List Byte :=
  derSeq [tcbInfo (text "SX1 boot ROM") (text "A1") 0 0 Config.romDigest [],
    tcbInfo (text "SX1 firmware") (versionText x.fwVer) x.svn 1 x.fwDigest
      [false, false, false, x.debug],
    tcbInfo (text "SX1 configuration") (decimal x.cfgVer) 0 2
      x.cfgDigest [x.unclaimed],
    tcbInfo (text "SX1 meter") (decimal x.mtrVer) 0 3
      (if x.meterUp then x.mtrDigest else List.replicate 48 0) [!x.meterUp]]

/-- The SX1 attestation context (R249). -/
def attestContext (x : AttestFields) : List Byte :=
  derSeq [der 0x04 x.nonce, derNat x.id, derNat x.peloton, der 0x04 x.opHash, derNat x.rollback, derNat x.change,
    der 0x03 (derFlags [x.debug, x.issued.isNone, x.unclaimed, !x.meterUp])]

/-- The key identifier of a public key (R247). -/
def keyId (pub : List Byte) : List Byte := (Config.sha384 pub).take 20

/-- The attestation certificate (R247), signed by the identity key. -/
def attestCert (priv : List Byte) (x : AttestFields) : List Byte :=
  signCert priv (tbsCert x.serial (Config.certSubject x.mfgCert) (derValidity x.issued)
    (derName (text "SX1 attestation") x.module) x.pub
    [derExt [0x55, 0x1D, 0x13] true (derSeq []), derExt [0x55, 0x1D, 0x0F] true (der 0x03 [3, 8]),
      derExt [0x55, 0x1D, 0x23] false (derSeq [der 0x80 (Config.certKeyId x.mfgCert)]),
      derExt [0x55, 0x1D, 0x0E] false (der 0x04 (keyId x.pub)),
      derExt [0x67, 0x81, 0x05, 0x05, 0x04, 0x05] false (multiTcbInfo x),
      derExt [0x69, 0x83, 0xBD, 0xEC, 0x6F] false (attestContext x)])

/-- The self-signed certificate of a module without an identity (R239): its subject says so. -/
def bareCert (priv serial module : List Byte) (utc : Option Nat) : List Byte :=
  let name := derName (text "SX1 without identity") module
  signCert priv (tbsCert serial name (derValidity utc) name (Config.publicKey priv) [])

/-- TLS 1.3 CertificateVerify content (R240): 64 spaces, the context string, a zero byte, the transcript hash. -/
def verifyContent (hash : List Byte) : List Byte :=
  List.replicate 64 0x20 ++ text "TLS 1.3, server CertificateVerify" ++ 0 :: hash

end Sys2Proof.Machine
end

