-- ==== Sys2Proof/Machine/Time.lean ====
section
/-! DEFINITION.  The time base and its counters (R423 to R426, R500, R501), the reference clock (R24), and what one tick
of an idle module does. -/

namespace Sys2Proof.Machine

/-- The two halves of a 64-bit number, low first, as words of DATA. -/
def halves (v : Nat) : List Word := [wd v, wd (v / 2 ^ 32)]

/-- Set the time base (R423, R501): UNSET and DISC clear (AONSTOP with DISC), STEP is raised and the notice record holds
the old and new values. -/
def State.setTime (s : State) (v : Nat) (master : Nat) : State :=
  let old := s.timeBase.toNat
  let s1 := { s with timeBase := BitVec.ofNat 64 v, timeFrac := 0 }
  let s2 := ((s1.wr F.TIM_STAT_UNSET 0 0).wr F.TIM_STAT_DISC 0 0).wr F.TIM_STAT_AONSTOP 0 0
  s2.raise F.TIM_CAUSE_STEP 0 1 (halves old ++ halves v) master

/-- TIM_SET as one number. -/
def State.timSet (s : State) : Nat := s.rd F.TIM_SET_HI_NS * 2 ^ 32 + s.rd F.TIM_SET_LO_NS

/-- A write to TIM_CTL (R423, R500): PTP_EN is kept; SET applies TIM_SET unless a PTP port is locked. -/
def State.writeTimCtl (s : State) (master : Nat) (w : Word) : State :=
  let s1 := s.wr F.TIM_CTL_PTP_EN 0 (fieldOf w F.TIM_CTL_PTP_EN)
  if fieldOf w F.TIM_CTL_SET = 1 ∧ s1.flag F.TIM_STAT_LOCKED = false then s1.setTime s1.timSet master else s1

/-- TIM_SET (R423). -/
def execTimSet (master : BitVec 10) (s : State) : Out :=
  .next (s.writeTimCtl master.toNat ((s.reg .TIM_CTL 0) ||| 2))

/-- TIM_NOW_LO_READ (R500): the low half is returned and the high half latched for that master. -/
def execTimNowLoRead (master : BitVec 10) (s : State) : Out :=
  .next (({ s with timLatch := Assoc.put s.timLatch master.toNat (wd (s.timeBase.toNat / 2 ^ 32)) }).emit
    (.readData master.toNat [wd s.timeBase.toNat]))

/-- AON_OSC_STOP (R425): AONSTOP and DISC are latched, DISC raised with a warning record. -/
def execAonOscStop (s : State) : Out :=
  .next (((s.wr F.TIM_STAT_AONSTOP 0 1).wr F.TIM_STAT_DISC 0 1).raise F.TIM_CAUSE_DISC 0 2)

/-- The counter copy that is used (R426): the higher operating time. -/
def State.counters (s : State) : Option (Nat × Nat × Nat) :=
  match s.nv.counters with
  | [some a, some b] => some (if a.1 < b.1 then b else a)
  | [some a, none] => some a
  | [none, b] => b
  | _ => none

/-- Write the counters to the copy whose turn it is (R426, R433); a failed write raises PERSIST with a warning record. -/
def State.persist (s : State) (ok : Bool) : State :=
  if ok then
    let seq := (s.nv.counters.map fun c => (c.map fun x => x.2.2).getD 0).foldl max 0 + 1
    let new := some (s.rd F.TIM_OPTIME_COUNT, s.rd F.TIM_CYCLES_COUNT, seq % 2 ^ 32)
    let cs := match s.nv.counters with
      | [some a, some b] => if a.2.2 < b.2.2 then [new, some b] else [some a, new]
      | [none, b] => [new, b]
      | [a, none] => [a, new]
      | l => l
    { s with nv := { s.nv with counters := cs } }
  else s.raise F.TIM_CAUSE_PERSIST 0 2

/-- COUNTER_PERSIST (R426). -/
def execCounterPersist (ok : Bool) (s : State) : Out := .next (s.persist ok)

/-- REFERENCE_LOSS (R24): the domains run from the backup oscillator, precision time is in holdover, REF_LOSS is raised. -/
def execReferenceLoss (s : State) : Out :=
  if s.flag F.SYS_CLK_BACKUP then .next s
  else .next ((((s.wr F.SYS_CLK_BACKUP 0 1).wr F.SYS_CLK_REF_OK 0 0).wr F.TIM_STAT_HOLDOVER 0 1).raise F.SYS_CAUSE_REF_LOSS)

/-- REFERENCE_RESTORED (R24): back to the reference, glitch-free. -/
def execReferenceRestored (s : State) : Out :=
  if s.flag F.SYS_CLK_BACKUP then
    .next ((((s.wr F.SYS_CLK_BACKUP 0 0).wr F.SYS_CLK_REF_OK 0 1).wr F.TIM_STAT_HOLDOVER 0 0).raise F.SYS_CAUSE_REF_BACK)
  else .next s

/-- One tick of 10 ns (log entry 3): elapsed time, the time base with its rate trim, and the operating time. -/
def State.tick (s : State) : State :=
  let trim := s.rdS F.TIM_RATE_TRIM
  let frac := s.timeFrac + (10 * (1000000000 + trim)).toNat
  let up := s.up + 10
  let s1 := { s with
    up := up
    timeBase := s.timeBase + BitVec.ofNat 64 (frac / 1000000000)
    timeFrac := frac % 1000000000 }
  if up / 1000000000 ≠ s.up / 1000000000 ∧ s.flag F.TIM_STAT_AONSTOP = false then s1.count F.TIM_OPTIME_COUNT 0 else s1

end Sys2Proof.Machine
end

