-- ==== Sys2Proof/Machine/Ether.lean ====
section
/-! DEFINITION.  Host Ethernet ports (R211 to R237): links and admission, frames, RoCEv2 as responder and requester,
queue pairs, memory windows, VLAN entries, HMP sessions, precision time, LLDP and address resolution. -/

namespace Sys2Proof.Machine

/-! ### Links and admission (R212, R217 to R220) -/

/-- The secure associations of a port are deleted. -/
def State.dropSa (s : State) (p : Nat) : State :=
  s.modPort p fun x => { x with live := false, rxSa := false, txSa := false, older := false }

/-- The port leaves OPEN (R217): CLOSED is raised. -/
def State.closePort (s : State) (p sev : Nat) : State := (s.dropSa p).raise F.ETH_PORT_CAUSE_CLOSED p sev

/-- The port is in MGMT, or in MKA where a CAK is held. -/
def State.reAdmit (s : State) (p : Nat) : State := s.wr F.ETH_PORT_STAT_ADM p (if s.flag F.ETH_PORT_STAT_CAK p then 2 else 1)

/-- Whether a port may come up at rate code `r` (R234, R408, R435, R439): from step 9 on and in recovery; in Standby only
port 0, at the lowest rate of its set; not in Freewheel nor on the way from it. -/
def State.ethMay (s : State) (p r : Nat) : Bool :=
  9 ≤ s.rd F.CFG_STAT_STEP && s.psState ≠ psFreewheel && !(s.psState = psWaking && s.psTgt = psStandby) &&
    (s.psState ≠ psStandby || (p = 0 && s.rd F.ETH_PORT_CFG_RATES p % 2 ^ (r - 1) = 0))

/-- Whether rate code `r` is one the port may take (R211): any of its set by auto-negotiation, else the highest of the set;
in Standby `ethMay` asks for the lowest. -/
def State.rateOk (s : State) (p r : Nat) : Bool :=
  r ≠ 0 && (s.rd F.ETH_PORT_CFG_RATES p).testBit (r - 1) &&
    (s.flag F.ETH_PORT_CFG_AN p || s.psState = psStandby || s.rd F.ETH_PORT_CFG_RATES p / 2 ^ r = 0)

/-! ### Precision time: port states (R232) -/

/-- Whether precision time runs on a port. -/
def State.ptpOn (s : State) (p : Nat) : Bool := s.flag F.ETH_PTP_CFG_EN p && s.rd F.ETH_PORT_STAT_RATE p ≠ 0

/-- A port takes a PTP state: PTP is raised, and a port that was slave loses its lock. -/
def State.ptpGo (s : State) (p st : Nat) : State :=
  if s.rd F.ETH_PORT_STAT_PTP_STATE p = st then s
  else
    let s1 := (s.wr F.ETH_PORT_STAT_PTP_STATE p st).raise F.ETH_PORT_CAUSE_PTP p
    if st ≠ 9 && s1.flag F.TIM_STAT_LOCKED && s1.rd F.TIM_STAT_LOCK_PORT = p then (s1.wr F.TIM_STAT_LOCKED 0 0).raise F.TIM_CAUSE_LOCK
    else s1

/-- The PTP state of a port follows its enable and its link: 0 off, 1 INITIALIZING without a link, then 4 LISTENING. -/
def State.ptpLink (s : State) (p : Nat) : State :=
  if s.ptpOn p then
    if s.rd F.ETH_PORT_STAT_PTP_STATE p ≤ 1 then
      (s.modPort p fun x => { x with foreign := none, listenAt := s.up }).ptpGo p 4
    else s
  else (s.modPort p fun x => { x with foreign := none }).ptpGo p (if s.flag F.ETH_PTP_CFG_EN p then 1 else 0)

/-- ETH_LINK_UP (R211, R212, R217): a port that is enabled and down comes up at a rate of its set. -/
def execEthLinkUp (p : Fin 2) (rate : BitVec 2) (s : State) : Out :=
  let r := rate.toNat
  if s.ethMay p r = true ∧ s.flag F.ETH_PORT_CFG_EN p ∧ s.adm p = 0 ∧ s.rateOk p r = true then
    .next ((((s.wr F.ETH_PORT_STAT_RATE p r).reAdmit p).raise F.ETH_PORT_CAUSE_LINK_UP p).ptpLink p)
  else .next s

/-- The link of a port goes down (R212, R217, R235): its associations are gone, and frames that waited for a pause to end.  A
WRITE partly received goes on where the host retransmits: what was accepted was visible when it was acknowledged. -/
def State.ethDown (s : State) (p : Nat) : State :=
  if s.adm p = 0 then s
  else
    let s1 := if s.adm p = 3 then s.closePort p 0 else s.dropSa p
    let s2 := ((s1.wr F.ETH_PORT_STAT_RATE p 0).wr F.ETH_PORT_STAT_ADM p 0).raise F.ETH_PORT_CAUSE_LINK_DOWN p
    (s2.modPort p fun x => { x with paused := [], waiting := [], xoff := [] }).ptpLink p

/-- ETH_LINK_DOWN (R212). -/
def execEthLinkDown (p : Fin 2) (s : State) : Out := .next (s.ethDown p)

/-- ETH_LINK_RETRY (R212): another attempt begins; until it ends the port stays as it is. -/
def execEthLinkRetry (p : Fin 2) (s : State) : Out := .next (if s.adm p = 0 then s.wr F.ETH_PORT_STAT_RATE p 0 else s)

/-- A CAK is placed for a port (R217, R219): a port in MGMT starts MKA.  A replacement takes effect through a new MKA session:
in MKA the old one is dropped, and an open port stays open on the old session's associations until the new one has its own. -/
def State.setCak (s : State) (p : Nat) (ckn cak : List Byte) : State :=
  let s0 := if (s.port p).cak.isSome then
      s.modPort p fun x => { x with live := false, rxSa := false, txSa := false, older := decide (s.adm p = 3) }
    else s
  let s1 := (s0.modPort p fun x => { x with cak := some (ckn, cak) }).wr F.ETH_PORT_STAT_CAK p 1
  if s1.adm p = 1 then s1.wr F.ETH_PORT_STAT_ADM p 2 else s1

/-- A port's CAK is revoked (R217, R219): an open port closes with a warning record, and the port is in MGMT. -/
def State.revokeCak (s : State) (p : Nat) : State :=
  let s1 := (s.modPort p fun x => { x with cak := none }).wr F.ETH_PORT_STAT_CAK p 0
  if s1.adm p = 3 then (s1.closePort p 2).wr F.ETH_PORT_STAT_ADM p 1
  else if s1.adm p = 2 then (s1.dropSa p).wr F.ETH_PORT_STAT_ADM p 1
  else s1

/-- MKA_FRAME (R220): a valid MKPDU makes its sender a live peer, and a SAK it distributes is unwrapped into the receive
association. -/
def execMkaFrame (p : Fin 2) (valid sak : Bool) (s : State) : Out :=
  if valid ∧ (s.adm p = 2 ∨ s.adm p = 3) then
    .next (s.modPort p fun x => { x with live := true, rxSa := x.rxSa || sak })
  else .next s

/-- MKA_SA_INSTALLED (R217, R219, R220): with both associations installed, the data VLANs open, OPEN is raised with a notice
record.  Packet numbers begin with the associations, and an older session's end. -/
def execMkaSaInstalled (p : Fin 2) (s : State) : Out :=
  let x := s.port p
  if x.live ∧ x.rxSa then
    let s1 := s.modPort p fun y => { y with txSa := true, older := false, txPn := 1, rxPn := 1 }
    if s1.adm p = 2 then .next ((s1.wr F.ETH_PORT_STAT_ADM p 3).raise F.ETH_PORT_CAUSE_OPEN p 1) else .next s1
  else .next s

/-- MKA_PEER_TIMEOUT (R217): MKA restarts, or an open port closes with a warning record. -/
def execMkaPeerTimeout (p : Fin 2) (s : State) : Out :=
  if s.adm p = 3 then .next ((s.closePort p 2).reAdmit p)
  else if s.adm p = 2 then .next (s.dropSa p)
  else .next s

/-- MKA_HELLO (R220): the participant of a port that holds a CAK sends its MKPDU. -/
def execMkaHello (p : Fin 2) (s : State) : Out :=
  match (s.port p).cak with
  | some c => if s.adm p = 2 ∨ s.adm p = 3 then .next (s.mkpdu p c.1 false) else .next s
  | none => .next s

/-! ### Frames (R213 to R218, R221) -/

/-- EtherTypes that pass untagged: LLDP, EAPOL, PTP (R214). -/
def untagged (t : Nat) : Bool := t = 0x88CC || t = 0x888E || t = 0x88F7

/-- The valid VLAN entry of a port with a VID. -/
def State.vlanOf (s : State) (p vid : Nat) : Option Nat :=
  (List.range 32).findSome? fun v =>
    let i := 32 * p + v
    if s.flag F.ETH_VLAN_VALID i && s.rd F.ETH_VLAN_VID i = vid then some i else none

/-- What becomes of a frame: delivered, dropped and counted, or failed by MACsec. -/
inductive FrameFate where
  | deliver | drop | secErr
  deriving DecidableEq, Repr

/-- Whether R216 names a priority of a port. -/
def State.pfcOn (s : State) (p prio : Nat) : Bool := (s.rd F.ETH_PORT_CFG_PFC p).testBit prio

/-- Size of a receive buffer of a priority (R216). -/
abbrev rxBuffer : Nat := 2 * 1024 * 1024

/-- Whether a protected frame fails: verification, or a packet number before the replay window (R220, R221). -/
def State.macsecBad (s : State) (p : Nat) (f : EthFrame) : Bool :=
  f.macsec = some false || (f.macsec = some true && decide (f.pn.toNat + s.conf.replay < (s.port p).rxPn))

/-- The rules of R213, R214, R216, R218, R220 and R221 in turn.  SecTAG and ICV come on top of the sizes of R213. -/
def State.frameFate (s : State) (p : Nat) (f : EthFrame) : FrameFate :=
  let t := f.etherType.toNat
  let size := f.size - (if f.macsec.isSome then 24 else 0)
  if size < 64 || 9216 < size || f.sTag || !f.fcsOk || (rxBuffer < f.fill && !(s.pfcOn p f.pcp.toNat)) then .drop
  else if s.adm p = 3 && s.macsecBad p f then .secErr
  else match f.vid with
    | none => if untagged t then .deliver else .drop
    | some v =>
      if untagged t then .drop
      else if s.adm p = 3 && f.macsec ≠ some true then .secErr
      else match s.vlanOf p v.toNat with
        | none => .drop
        | some i =>
          if s.rd F.ETH_VLAN_CLASS i = 0 then
            if f.roce || (s.adm p ≠ 3 && !f.forMgmt) then .drop else .deliver
          else if s.adm p = 3 then .deliver else .drop

/-- A PAUSE frame (R216): each priority it names stops for its quanta of 512 bit times (log entry 89), if the port obeys PFC for it. -/
def State.pauseTaken (s : State) (p : Nat) (l : List (Fin 8 × BitVec 16)) : State :=
  let bit := 5 - s.rd F.ETH_PORT_STAT_RATE p
  let mine := l.filter fun x => s.pfcOn p x.1
  (s.modPort p fun y => { y with
    paused := (y.paused.filter fun z => !(mine.any fun x => x.1.val = z.1)) ++
      mine.map fun x => (x.1.val, s.up + (x.2.toNat * 32 * 2 ^ bit + 99) / 100) }).flushPort p

/-- The receive buffer of a priority under R216: XOFF from 75 % on, XON at 50 %. -/
def State.bufferSeen (s : State) (p prio fill : Nat) : State :=
  if !(s.pfcOn p prio) then s
  else if rxBuffer * 3 / 4 ≤ fill && !((s.port p).xoff.elem prio) then
    (s.modPort p fun x => { x with xoff := x.xoff ++ [prio] }).emit (.pfc p prio true)
  else if fill ≤ rxBuffer / 2 && (s.port p).xoff.elem prio then
    (s.modPort p fun x => { x with xoff := x.xoff.erase prio }).emit (.pfc p prio false)
  else s

/-- Buffers are empty once no command waits: XON goes out (log entry 79). -/
def State.buffersEmpty (s : State) (p : Nat) : State := (s.port p).xoff.foldl (fun s k => s.bufferSeen p k 0) s

/-- A frame that passed MACsec moves the next packet number expected (R220). -/
def State.pnSeen (s : State) (p : Nat) (f : EthFrame) : State :=
  if f.macsec = some true then s.modPort p fun x => { x with rxPn := max x.rxPn (f.pn.toNat + 1) } else s

/-- ETH_FRAME_RECEIVE (R213): a dropped frame is counted, one that MACsec fails raises SECERR; a delivered frame's own
command follows.  A PAUSE frame (EtherType 0x8808) of a port that obeys PFC is taken. -/
def execEthFrameReceive (p : Fin 2) (f : EthFrame) (s : State) : Out :=
  if s.rd F.ETH_PORT_STAT_RATE p = 0 then .next s
  else if f.etherType = 0x8808 ∧ f.vid = none ∧ f.fcsOk = true ∧ s.rd F.ETH_PORT_CFG_PFC p ≠ 0 then .next (s.pauseTaken p f.pause)
  else match s.frameFate p f with
    | .deliver => .next ((s.pnSeen p f).bufferSeen p f.pcp.toNat f.fill)
    | .drop => .next (s.count F.ETH_PORT_DROP_CNT_VALUE p)
    | .secErr => .next ((s.count F.ETH_PORT_SECERR_CNT_VALUE p).raise F.ETH_PORT_CAUSE_SECERR p)

/-! ### RoCEv2 as responder (R223 to R226) -/

/-- AETH syndromes: acknowledgement, RNR NAK with timer 16, and the NAKs. -/
abbrev synAck : Nat := 0x1F
abbrev synRnr : Nat := 0x30
abbrev synSeq : Nat := 0x60
abbrev synInvalid : Nat := 0x61
abbrev synAccess : Nat := 0x62
abbrev synOper : Nat := 0x63

/-- Answer on a queue pair, while its data VLAN is open. -/
def State.qpReply (s : State) (q : Nat) (p : RocePkt) : State := if s.qpOpen q then s.roce q p else s

/-- A queue pair owes an answer, after those it owes already. -/
def State.owe (s : State) (q psn id : Nat) (job : OwedJob) (settled : Bool) : State :=
  { s with owed := s.owed ++ [({ qp := q, psn := psn, id := id, job := job, settled := settled } : Owed)] }

/-- It owes an answer that waits for no access. -/
def State.oweNow (s : State) (q psn : Nat) (job : OwedJob) : State :=
  ({ s with fab := { s.fab with nextDesc := s.fab.nextDesc + 1 } }).owe q psn s.fab.nextDesc job true

/-- The bytes of a READ from the pieces that came: where two overlap, the one that begins later. -/
def joinParts (len : Nat) (parts : List (Nat × List (Byte × Bool))) : List (Byte × Bool) :=
  (List.range len).map fun i => (parts.foldl (fun (r : Nat × Byte × Bool) (x : Nat × List (Byte × Bool)) =>
    if r.1 ≤ x.1 ∧ x.1 ≤ i ∧ i < x.1 + x.2.length then (x.1, getAt (0, false) x.2 (i - x.1)) else r) (0, 0, false)).2

/-- The module's side of a NAK (R225): the syndrome, and ERR for all but the sequence and RNR NAKs. -/
def State.nakSide (s : State) (q syn : Nat) (data : Option (List Word)) : State :=
  let s1 := s.wr F.ETH_QP_STAT_SYNDROME q syn
  if syn = synSeq ∨ syn = synRnr then s1 else s1.qpError q syn true data

/-- A write through the register page of partition `n` (R127, R128): RW registers take it, RING_STAT is cleared by ones,
the rest ignore it. -/
def State.pageWrite (s : State) (n off : Nat) (w : Word) : State :=
  match findReg (0x80000 + n * 0x1000 + off) regsOfETH with
  | some (.ETH_RING_PI, i) => s.writePi i w.toNat
  | some (.ETH_RING_CTL, i) => s.writeRingCtl i w
  | some (.ETH_CQ_CI, i) => s.writeCqCi i w
  | some (.ETH_RING_STAT, i) => s.setReg .ETH_RING_STAT i (s.reg .ETH_RING_STAT i &&& ~~~(w &&& Reg.accMask .ETH_RING_STAT .W1C))
  | some (r, i) =>
    if (r = .ETH_RING_BASE_LO ∨ r = .ETH_RING_BASE_HI ∨ r = .ETH_CQ_BASE_LO ∨ r = .ETH_CQ_BASE_HI) ∧ s.flag F.ETH_RING_CTL_EN i = false then
      s.setReg r i (w &&& Reg.accMask r .RW)
    else s
  | none => s

/-- A read through the register page. -/
def State.pageRead (s : State) (n off : Nat) : Word :=
  match findReg (0x80000 + n * 0x1000 + off) regsOfETH with
  | some (r, i) => s.reg r i
  | none => 0

/-- An answer owed at the head of its queue pair is given (R225, R226): a WRITE is acknowledged, or a NAK says that an access to
borrowed memory failed (log entry 76); a READ is answered, or a NAK says that it met poison; a write of the page takes effect. -/
def State.payOne (s : State) (o : Owed) : State :=
  let n := s.rd F.ETH_QP_BIND_PART o.qp
  let oper := (({ s with owed := s.owed.filter fun x => x.qp ≠ o.qp }).qpReply o.qp (.ack o.psn synOper)).nakSide o.qp synOper none
  match o.job with
  | .write => if o.bad then oper else s.qpReply o.qp (.ack o.psn synAck)
  | .read len parts =>
    let d := joinParts len parts
    if o.bad || anyPoison d then oper else s.qpReply o.qp (.resp o.psn (d.map Prod.fst))
  | .page off w => (s.pageWrite n off w).qpReply o.qp (.ack o.psn synAck)
  | .pageRead off => s.qpReply o.qp (.resp o.psn (natLE 4 (s.pageRead n off).toNat))
  | .nak syn => s.qpReply o.qp (.ack o.psn syn)

/-- The first answer that is due: nothing owed before it on its queue pair. -/
def State.dueAnswer (s : State) : Option Owed :=
  s.owed.find? fun o => o.settled && decide ((s.owed.find? fun x => x.qp = o.qp) = some o)

/-- Give the answers that are due, each queue pair's in order; `fuel` bounds them. -/
def State.payOwed (s : State) : Nat → State
  | 0 => s
  | k + 1 => match s.dueAnswer with
    | none => s
    | some o => (({ s with owed := s.owed.erase o }).payOne o).payOwed k

/-- Give every answer that is due. -/
def State.pay (s : State) : State := s.payOwed s.owed.length

/-- Answer with a NAK, after what is owed already (R225).  A sequence NAK carries the PSN expected (log entry 77). -/
def State.nak (s : State) (q psn syn : Nat) (data : Option (List Word)) : State :=
  ((s.oweNow q (if syn = synSeq then s.rd F.ETH_QP_RPSN_VALUE q else psn) (.nak syn)).nakSide q syn data).pay

/-- A remote access error with its warning record (R225). -/
def State.nakAccess (s : State) (q psn rkey va : Nat) : State :=
  s.nak q psn synAccess (some [wd q, wd synAccess, wd rkey, wd va, wd (va / 2 ^ 32)])

/-- At most one congestion notification packet in 50 µs, for packets marked CE (R227). -/
def State.answerCe (s : State) (q : Nat) (ce : Bool) : State :=
  let old := match (s.qp q).cnpSent with
    | some t => decide (s.up < t + 50000)
    | none => false
  if ce && !old && s.qpState q = 1 && s.qpOpen q then (s.modQp q fun x => { x with cnpSent := some s.up }).roce q .cnp else s

/-- The expected receive PSN advances. -/
def State.bumpRpsn (s : State) (q psn n : Nat) : State := s.wr F.ETH_QP_RPSN_VALUE q ((psn + n) % 2 ^ 24)

/-- Whether a request's rkey, window and right pass R224 for partition `n`. -/
def State.keyOk (s : State) (n rkey va len : Nat) (write : Bool) : Bool :=
  let w := bitsOf rkey 24 4
  let tag := rkey % 2 ^ 24
  bitsOf rkey 28 4 = n &&
    (if w = 15 then tag = s.rd F.ETH_DB_TAG_TAG n && len = 4 && va % 4 = 0 && va + 4 ≤ 4096
     else
       let i := 8 * n + w
       let base := s.rd F.ETH_MW_BASE_HI_ADDR i * 2 ^ 32 + s.rd F.ETH_MW_BASE_LO_ADDR i * 4096
       w < 8 && s.flag F.ETH_MW_CTL_VALID i && tag = s.rd F.ETH_MW_CTL_TAG i &&
         (if write then s.flag F.ETH_MW_CTL_WR i else s.flag F.ETH_MW_CTL_RD i) &&
         base ≤ va && va + len ≤ base + s.rd F.ETH_MW_LEN_UNITS i * 4096)

/-- Pieces of a span of partition memory of at most 448 bytes, cut where a page ends: offset from its start, length. -/
def memCuts (a len : Nat) : List (Nat × Nat) :=
  (List.range ((len + 447) / 448)).flatMap fun k =>
    let o := 448 * k
    let m := min 448 (len - o)
    let r := 65536 - (a + o) % 65536
    if r < m then [(o, r), (o + r, m - r)] else [(o, m)]

/-- Write data of an accepted RDMA WRITE packet; its acknowledgement is owed once it is visible, a write of the register page
after every earlier WRITE (R226). -/
def State.rdmaPut (s : State) (q n psn va : Nat) (page : Bool) (l : List Byte) : State :=
  if page then s.oweNow q psn (.page va (BitVec.ofNat 32 (leNat l)))
  else
    let x := s.newDesc n (hostUnit + q)
    let s1 := (memCuts va l.length).foldl (fun s c =>
      s.writeDest n (some x.1) false 0 (.mem (va + c.1)) (((l.drop c.1).take c.2).map fun b => (b, false))) (x.2.owe q psn x.1 .write false)
    s1.closeDesc x.1

/-- Read `len` bytes of partition memory for a host: what is local at once, what is borrowed from its lender; the answer is
owed once all has come (R126, R154, R225). -/
def State.rdmaGet (s : State) (q n psn a len : Nat) : State :=
  let x := s.newDesc n (hostUnit + q)
  let s1 := (memCuts a len).foldl (fun s c =>
    match s.place n (a + c.1) with
    | .loan lender slot off =>
      s.issueGet n (some x.1) { s.blank 0x02 1 lender n n with addr := BitVec.ofNat 64 (loanAddr slot off) } c.2 (.host x.1 c.1)
    | _ =>
      let d := s.partRead n (a + c.1) c.2
      s.writeDest n (some x.1) false 0 (.host x.1 c.1) (d.1.map fun b => (b, d.2.isSome))) (x.2.owe q psn x.1 (.read len []) false)
  s1.closeDesc x.1

/-- Whether a stack of the partition's set is in self-refresh: a host's access to its memory wakes it and is told to come again
(R225, R419). -/
def State.asleep (s : State) (n : Nat) : Bool := (s.stackSet n).any fun k => s.rd F.MEM_STATE_STATE k = 3

/-- A request of a queue pair whose partition is in SCRUB is refused, with no record (R225, R264). -/
def State.scrubNak (s : State) (q psn : Nat) : State :=
  if s.qpState q ≠ 0 then s
  else match (List.range 16).findSome? fun n => if s.pstate n = 4 then (s.part n).scrubQps.find? fun x => x.1 = q else none with
    | some x => if s.adm x.2.port = 3 then s.sendEth { x.2 with secured := true } (.roce { x.2 with secured := true } q (.ack psn synAccess)) else s
    | none => s

/-- RDMA_WRITE (R224 to R226): a packet of a WRITE is checked, written and acknowledged, or NAKed. -/
def execRdmaWrite (q : BitVec 12) (psn : BitVec 24) (pos : WritePos) (va : BitVec 64) (rkey len : Word) (data : List Byte) (ce : Bool)
    (s0 : State) : Out :=
  let q := q.toNat
  let psn := psn.toNat
  if s0.qpState q ≠ 1 ∨ s0.qpOpen q = false then .next (s0.scrubNak q psn)
  else
    let s := s0.answerCe q ce
    let n := s.rd F.ETH_QP_BIND_PART q
    let head := pos = .first || pos = .only
    let cur : Option (Nat × Nat × Nat) := if head then some (va.toNat, len.toNat, rkey.toNat) else (s.qp q).write
    if psn ≠ s.rd F.ETH_QP_RPSN_VALUE q then .next (s.nak q psn synSeq none)
    else match cur with
      | none => .next (s.nak q psn synInvalid none)
      | some (a, left, key) =>
        let ends := pos = .last || pos = .only
        let fits := if ends then data.length = left && data.length ≤ s.mtu q else data.length = s.mtu q && data.length < left
        if !fits || (head && (s.qp q).write.isSome) then .next (s.nak q psn synInvalid none)
        else if !(s.served n) then .next (s.nak q psn synAccess none)
        else if head && !(s.keyOk n key a left true) then .next (s.nakAccess q psn key a)
        else
          let page := bitsOf key 24 4 = 15
          if !page && !(s.inMem n a left) then .next ((s.reject n noTarget kWrite a).nakAccess q psn key a)
          else if !page && s.asleep n then .next (s.nak q psn synRnr none)
          else
            let s1 := (s.rdmaPut q n psn a page data).bumpRpsn q psn 1
            .next ((s1.modQp q fun x => { x with write := if ends then none else some (a + data.length, left - data.length, key) }).pay)

/-- RDMA_READ_REQUEST (R224, R225, R126): checked and answered, or NAKed.  Borrowed offsets are read from their lenders,
and the host is answered when all has come. -/
def execRdmaReadRequest (q : BitVec 12) (psn : BitVec 24) (va : BitVec 64) (rkey len : Word) (ce : Bool) (h : List StackHit)
    (s0 : State) : Out :=
  let q := q.toNat
  let psn := psn.toNat
  let a := va.toNat
  let key := rkey.toNat
  let len := len.toNat
  if s0.qpState q ≠ 1 ∨ s0.qpOpen q = false then .next (s0.scrubNak q psn)
  else
    let s := s0.answerCe q ce
    let n := s.rd F.ETH_QP_BIND_PART q
    if psn ≠ s.rd F.ETH_QP_RPSN_VALUE q then .next (s.nak q psn synSeq none)
    else if !(s.served n) then .next (s.nak q psn synAccess none)
    else if !(s.keyOk n key a len false) then .next (s.nakAccess q psn key a)
    else if bitsOf key 24 4 = 15 then .next (((s.oweNow q psn (.pageRead a)).bumpRpsn q psn 1).pay)
    else if !(s.inMem n a len) then .next ((s.reject n noTarget kRead a).nakAccess q psn key a)
    else if s.sealed n a len then .next ((s.reject n (s.memTarget n a) kRead a).nakAccess q psn key a)
    else if s.asleep n then .next (s.nak q psn synRnr none)
    else
      let s1 := s.stackHits h
      .next (((s1.rdmaGet q n psn a len).bumpRpsn q psn (max 1 ((len + s1.mtu q - 1) / s1.mtu q))).pay)

/-- ROCE_INVALID_REQUEST (R223, R225): an unsupported opcode, a length above the MTU or a SEND is NAKed. -/
def execRoceInvalidRequest (q : BitVec 12) (psn : BitVec 24) (ce : Bool) (s : State) : Out :=
  if s.qpState q.toNat = 1 ∧ s.qpOpen q.toNat = true then .next ((s.answerCe q.toNat ce).nak q.toNat psn.toNat synInvalid none)
  else .next (s.scrubNak q.toNat psn.toNat)

/-- RNR_NAK (R225): a request aimed at a waking domain, or with no ring page reachable for 100 µs. -/
def execRnrNak (q : BitVec 12) (psn : BitVec 24) (s : State) : Out :=
  if s.qpState q.toNat = 1 ∧ s.qpOpen q.toNat = true then .next (s.nak q.toNat psn.toNat synRnr none) else .next s

/-! ### RoCEv2 as requester (R223, R227, R228) -/

/-- Data for a command has come (R121): a plaintext LOAD whose data is whole is written. -/
def State.feedCmd (s : State) (i c : Nat) (l : List Byte) : State :=
  let s1 := s.modCmd i c fun x => { x with buf := x.buf ++ l }
  match s1.cmd i c with
  | none => s1
  | some x =>
    match readLoad x.entry with
    | some o => if x.opc = 2 ∧ x.phase = .running ∧ o.slot = 0xFF ∧ x.buf.length = o.len then s1.loadPlain x o else s1
    | none => s1

/-- RDMA_READ_RESPONSE (R223): the next packet of the oldest READ that is awaited feeds its command. -/
def execRdmaReadResponse (q : BitVec 12) (psn : BitVec 24) (data : List Byte) (ce : Bool) (s0 : State) : Out :=
  let q := q.toNat
  let s := s0.answerCe q ce
  match (s.qp q).out.find? fun r => r.read.isSome with
  | none => .next s
  | some r =>
    match r.read, r.cmd with
    | some (_, _, len), some (i, c) =>
      let want := min (s.mtu q) (len - r.got)
      if s.qpState q = 1 ∧ s.qpOpen q = true ∧ psn.toNat = (r.psn + r.got / s.mtu q) % 2 ^ 24 ∧ data.length = want then
        let r1 := { r with got := r.got + want, tries := 0, rnr := 0 }
        let s1 := if r1.got = len then s.modQp q fun x => { x with out := x.out.erase r }
          else s.modQp q fun x => { x with out := x.out.map fun o => if o = r then r1 else o }
        .next ((s1.pumpQp q 16).feedCmd i c data)
      else .next s
    | _, _ => .next s

/-- Send every outstanding packet of a queue pair again. -/
def State.resendQp (s : State) (q : Nat) : State := (s.qp q).out.foldl (fun s r => s.wireReq q r) s

/-- Count a retry of the oldest packet; the queue pair goes to ERR when its retries are spent (R228). -/
def State.retryQp (s : State) (q : Nat) (rnr : Bool) : State :=
  match (s.qp q).out with
  | [] => s
  | r :: t =>
    let lim := if rnr then s.rd F.ETH_QP_PARAM_RNR_RETRY q else s.rd F.ETH_QP_PARAM_RETRY q
    let used := if rnr then r.rnr else r.tries
    if lim ≤ used ∧ ¬ (rnr ∧ lim = 7) then s.qpError q (s.rd F.ETH_QP_STAT_SYNDROME q) false none
    else
      let r1 := if rnr then { r with rnr := r.rnr + 1 } else { r with tries := r.tries + 1 }
      (s.modQp q fun x => { x with out := r1 :: t }).resendQp q

/-- ROCE_NAK_RECEIVED (R228): an RNR NAK or a sequence NAK is retried, any other moves the queue pair to ERR. -/
def execRoceNakReceived (q : BitVec 12) (syn : BitVec 8) (ce : Bool) (s0 : State) : Out :=
  let q := q.toNat
  let s := s0.answerCe q ce
  if s.qpState q ≠ 1 then .next s
  else
    let s1 := s.wr F.ETH_QP_STAT_SYNDROME q syn.toNat
    if syn.toNat / 32 = 1 then .next (s1.retryQp q true)
    else if syn.toNat = synSeq then .next (s1.retryQp q false)
    else .next (s1.qpError q syn.toNat false none)

/-- ROCE_ACK_TIMEOUT (R228). -/
def execRoceAckTimeout (q : BitVec 12) (s : State) : Out :=
  if s.qpState q.toNat = 1 then .next (s.retryQp q.toNat false) else .next s

/-- ROCE_ACKNOWLEDGE (R223): SENDs up to a PSN are over. -/
def execRoceAcknowledge (q : BitVec 12) (psn : BitVec 24) (ce : Bool) (s0 : State) : Out :=
  let q := q.toNat
  let s := s0.answerCe q ce
  if s.qpState q = 1 then
    .next ((s.modQp q fun x => { x with out := x.out.filter fun r =>
      r.read.isSome || 2 ^ 23 ≤ (psn.toNat + 2 ^ 24 - r.psn) % 2 ^ 24 }).pumpQp q 16)
  else .next s

/-- CNP_RECEIVE (R227): L falls to 7/8 at most once in 50 µs, never below r / 256; the packet is counted. -/
def execCnpReceive (q : BitVec 12) (s : State) : Out :=
  let q := q.toNat
  let s1 := s.count F.ETH_PORT_CNP_CNT_VALUE (s.qpPort q)
  let early := match (s1.qp q).cnpAt with
    | some t => decide (s1.up < t + 50000)
    | none => false
  if early then .next s1
  else .next (s1.modQp q fun x => { x with limit := max (x.limit * 7 / 8) (2 ^ 32), cnpAt := some s1.up })

/-- CNP_RATE_RECOVERY (R227): 100 µs without a notification raise L by r / 64, up to r. -/
def execCnpRateRecovery (q : BitVec 12) (s : State) : Out :=
  .next (s.modQp q.toNat fun x => { x with limit := min (x.limit + 2 ^ 34) (2 ^ 40) })

/-! ### Registers with effects (R224, R237) -/

/-- A write to ETH_QP_BIND: setting EN puts the queue pair in RTS, clearing it in RESET. -/
def State.writeQpBind (s : State) (q : Nat) (w : Word) : State :=
  let was := s.flag F.ETH_QP_BIND_EN q
  let v := w &&& Reg.accMask .ETH_QP_BIND .RW
  let s1 := s.setReg .ETH_QP_BIND q v
  if fieldOf v F.ETH_QP_BIND_EN = 1 then
    if was then s1 else (s1.setReg .ETH_QP_STAT q 0).wr F.ETH_QP_STAT_STATE q 1
  else if was then
    let x := s.qp q
    let s2 := ({ s1 with owed := s1.owed.filter fun o => o.qp ≠ q } |>.setReg .ETH_QP_STAT q 0).modQp q fun _ => {}
    (x.out ++ x.queued).foldl (fun s r => match r.cmd with
      | some (i, c) => s.cmdEnd i c 0x25 q
      | none => s) s2
  else s1

/-- ETH_QP_BIND_WRITE (R237). -/
def execEthQpBindWrite (q : BitVec 12) (w : Word) (s : State) : Out := .next (s.writeQpBind q.toNat w)

/-- A write to ETH_MW_CTL: setting VALID draws a new tag (R224). -/
def State.writeMwCtl (s : State) (i : Nat) (w : Word) : State :=
  let was := s.flag F.ETH_MW_CTL_VALID i
  let s1 := ((s.wr F.ETH_MW_CTL_VALID i (fieldOf w F.ETH_MW_CTL_VALID)).wr F.ETH_MW_CTL_RD i (fieldOf w F.ETH_MW_CTL_RD)).wr
    F.ETH_MW_CTL_WR i (fieldOf w F.ETH_MW_CTL_WR)
  if fieldOf w F.ETH_MW_CTL_VALID = 1 ∧ was = false then
    let d := s1.drawTag
    d.2.wr F.ETH_MW_CTL_TAG i d.1
  else s1

/-- ETH_MW_CTL_WRITE (R224). -/
def execEthMwCtlWrite (i : Fin 128) (w : Word) (s : State) : Out := .next (s.writeMwCtl i w)

/-- ETH_DB_TAG_NEW (R224). -/
def execEthDbTagNew (n : Fin 16) (s : State) : Out :=
  let d := s.drawTag
  .next (d.2.wr F.ETH_DB_TAG_TAG n d.1)

/-- Valid management entries of a port. -/
def State.mgmtEntries (s : State) (p : Nat) : Nat :=
  ((List.range 32).filter fun v => s.flag F.ETH_VLAN_VALID (32 * p + v) && s.rd F.ETH_VLAN_CLASS (32 * p + v) = 0).length

/-- A write to a VLAN entry: refused with CFGERR when the port would hold no management entry, or two (R237). -/
def State.writeVlan (s : State) (i : Nat) (w : Word) : State :=
  let s1 := s.setReg .ETH_VLAN i (w &&& Reg.accMask .ETH_VLAN .RW)
  if s1.mgmtEntries (i / 32) = 1 then s1 else s.raise F.ETH_PORT_CAUSE_CFGERR (i / 32)

/-- ETH_VLAN_WRITE (R237). -/
def execEthVlanWrite (i : Fin 64) (w : Word) (s : State) : Out := .next (s.writeVlan i w)

/-! ### HMP sessions (R229, R231) -/

/-- The valid management entry of a port. -/
def State.mgmtEntry (s : State) (p : Nat) : Option Nat :=
  ((List.range 32).find? fun v => s.flag F.ETH_VLAN_VALID (32 * p + v) && s.rd F.ETH_VLAN_CLASS (32 * p + v) = 0).map fun v => 32 * p + v

/-- The module's side of a TLS handshake (R229, R239, R240): the certificate of its identity key, or a self-signed one for the key
of this power-up, and the CertificateVerify signature over the transcript hash. -/
def State.tlsAnswer (s : State) (client : Nat) (hash : List Byte) : State :=
  let digest := Config.sha384 (verifyContent hash)
  match s.sec.identity with
  | some k => s.emit (.tls client s.nv.cert (Config.ecdsaSign k digest))
  | none =>
    let r := s.freeBytes 16
    let utc := if s.flag F.TIM_STAT_UNSET then none else some (((s.timeBase.toNat / 1000000000 : Nat) - s.rdS F.TIM_UTC_OFFSET).toNat)
    r.2.emit (.tls client (bareCert s.sec.tempKey r.1 s.nv.serial utc) (Config.ecdsaSign s.sec.tempKey digest))

/-- HMP_CONNECT (R229): a client that reaches the management address of a port that is up and whose certificate chains to a
trust anchor of the configuration image gets one of 4 sessions.  The operands are the port, the anchor its chain ends at, and
the handshake's transcript hash.  A fifth connection, or a client that is not trusted, is closed with an alert. -/
def execHmpConnect (p : Fin 2) (client : Nat) (anchor hash : List Byte) (s : State) : Out :=
  if s.mgmt.down ∨ s.hmpUp = false ∨ s.sessions.elem client = true ∨ s.adm p = 0 ∨ s.mgmtEntry p = none then .next s
  else
    let s1 := s.tlsAnswer client hash
    if (s.conf.anchors.elem anchor = true ∨ s.flag F.CFG_STAT_RECOVERY) ∧ s.sessions.length < 4 then
      .next { s1 with sessions := s1.sessions ++ [client] }
    else .next (s1.emit (.tlsAlert client))

/-- HMP_IDLE_TIMEOUT (R229). -/
def execHmpIdleTimeout (client : Nat) (s : State) : Out := .next { s with sessions := s.sessions.erase client }

/-! ### Address resolution, echo, precision time, LLDP (R214, R215, R232, R233) -/

/-- IP address of a VLAN entry. -/
def State.ipOf (s : State) (i : Nat) : Nat :=
  ((s.reg .ETH_IPADDR0 i).toNat * 2 ^ 96 + (s.reg .ETH_IPADDR1 i).toNat * 2 ^ 64) +
    ((s.reg .ETH_IPADDR2 i).toNat * 2 ^ 32 + (s.reg .ETH_IPADDR3 i).toNat)

/-- MAC address of a port (R432). -/
def State.macOf (s : State) (p : Nat) : Nat := s.nv.mac + p

/-- Whether a VLAN entry carries traffic now: a management entry of a port that is up, a data entry of an open one. -/
def State.entryUp (s : State) (i : Nat) : Bool :=
  s.flag F.ETH_VLAN_VALID i && (s.adm (i / 32) = 3 || (s.rd F.ETH_VLAN_CLASS i = 0 && s.adm (i / 32) ≠ 0))

/-- Send a frame on a VLAN entry. -/
def State.say (s : State) (i etherType : Nat) (body : List Byte) : State := s.sendEth (s.onEntry i 0 0) (.frame (s.onEntry i 0 0) etherType body)

/-- ARP_REQUEST (R215): answered with the port's MAC address when it asks for the entry's own address. -/
def execArpRequest (i : Fin 64) (ip : BitVec 128) (s : State) : Out :=
  if s.entryUp i ∧ s.ipOf i = ip.toNat then
    .next (s.say i 0x0806 (natBE 16 ip.toNat ++ natBE 6 (s.macOf (i.val / 32))))
  else .next s

/-- NEIGHBOUR_SOLICITATION (R215). -/
def execNeighbourSolicitation (i : Fin 64) (ip : BitVec 128) (s : State) : Out :=
  if s.entryUp i ∧ s.ipOf i = ip.toNat then
    .next (s.say i 0x86DD (natBE 16 ip.toNat ++ natBE 6 (s.macOf (i.val / 32))))
  else .next s

/-- ICMP_ECHO (R214): an echo to the management address is answered with its own payload. -/
def execIcmpEcho (i : Fin 64) (ip : BitVec 128) (payload : List Byte) (s : State) : Out :=
  if s.entryUp i ∧ s.rd F.ETH_VLAN_CLASS i = 0 ∧ s.ipOf i = ip.toNat then
    .next (s.say i (if ip.toNat / 2 ^ 32 = 0xFFFF then 0x0800 else 0x86DD) payload)
  else .next s

/-- A slave's offset to its grandmaster is removed (R423): by the rate, within 500 ppm, up to 1 ms, by a step beyond; a
step marks no discontinuity.  How large a rate the slave takes is free within the bound. -/
def State.discipline (s : State) (off : Int) : State :=
  if -1000000 ≤ off ∧ off ≤ 1000000 then
    let d := s.freeNat 500001
    d.2.wrS F.TIM_RATE_TRIM 0 (if off = 0 then 0 else if 0 < off then -(d.1 : Int) else d.1)
  else
    let new := ((s.timeBase.toNat : Int) - off).toNat
    ({ s with timeBase := BitVec.ofNat 64 new, timeFrac := 0 }).raise F.TIM_CAUSE_STEP 0 1 (halves s.timeBase.toNat ++ halves new)

/-- What a port announces when no other clock is better (R232, IEEE 1588-2019; log entry 78): its priorities, clock class 187 while
the reference is lost and else 248, accuracy and variance unknown, and the EUI-64 of its MAC address. -/
def State.ptpOwn (s : State) (p : Nat) : PtpData :=
  let m := s.macOf 0
  { prio1 := BitVec.ofNat 8 (s.rd F.ETH_PTP_CFG_PRIO1 p), cls := if s.flag F.TIM_STAT_HOLDOVER then 187 else 248, acc := 0xFE
    var_ := 0xFFFF, prio2 := BitVec.ofNat 8 (s.rd F.ETH_PTP_CFG_PRIO2 p)
    id := BitVec.ofNat 64 (m / 2 ^ 24 * 2 ^ 40 + 0xFFFE * 2 ^ 24 + m % 2 ^ 24), steps := 0 }

/-- What the best master clock algorithm compares, in order. -/
def ptpKey (d : PtpData) : List Nat := [d.prio1.toNat, d.cls.toNat, d.acc.toNat, d.var_.toNat, d.prio2.toNat, d.id.toNat, d.steps.toNat]

/-- Whether the first of two announced clocks is the better: the lower in the first value that differs. -/
def ptpBetter (a b : PtpData) : Bool :=
  match ((ptpKey a).zip (ptpKey b)).find? fun x => x.1 ≠ x.2 with
  | some x => decide (x.1 < x.2)
  | none => false

/-- The best clock heard on a port where precision time runs, with that port. -/
def State.ptpBest (s : State) : Option (Nat × PtpData) :=
  ((List.range 2).filter fun p => s.ptpOn p).foldl (fun (r : Option (Nat × PtpData)) (p : Nat) => match (s.port p).foreign, r with
    | some d, some b => if ptpBetter d.1 b.2 then some (p, d.1) else r
    | some d, none => some (p, d.1)
    | none, _ => r) none

/-- The state the best master clock algorithm gives a port (R232; log entry 78): 6 MASTER, 7 PASSIVE, 8 UNCALIBRATED until the
servo is locked, 9 SLAVE. -/
def State.ptpState (s : State) (p : Nat) : Nat :=
  match s.ptpBest with
  | none => 6
  | some (q, d) =>
    if ptpBetter (s.ptpOwn p) d then 6
    else if q = p then (if s.rd F.ETH_PORT_STAT_PTP_STATE p = 9 then 9 else 8)
    else match (s.port p).foreign with
      | some f => if f.1.id = d.id && decide (f.1.steps.toNat ≤ d.steps.toNat + 1) then 7 else 6
      | none => 6

/-- Every port where precision time runs takes the state the algorithm gives it; one that still listens and has heard no clock
goes on listening, for 6 s (three announce intervals). -/
def State.ptpDecide (s : State) : State :=
  (List.range 2).foldl (fun (s : State) (p : Nat) =>
    if !(s.ptpOn p) then s
    else if s.rd F.ETH_PORT_STAT_PTP_STATE p = 4 && s.ptpBest.isNone && decide (s.up < (s.port p).listenAt + 6000000000) then s
    else s.ptpGo p (s.ptpState p)) s

/-- The bytes of an Announce that says `d`. -/
def announceBody (dom : Nat) (d : PtpData) : List Byte :=
  [0x0B, BitVec.ofNat 8 dom, d.prio1, d.cls, d.acc] ++ natBE 2 d.var_.toNat ++ [d.prio2] ++ natBE 8 d.id.toNat ++ natBE 2 d.steps.toNat

/-- Send a PTP message on a port: untagged, EtherType 0x88F7. -/
def State.ptpSend (s : State) (p : Nat) (body : List Byte) : State := s.sendEth { port := p } (.frame { port := p } 0x88F7 body)

/-- An Announce of a clock heard on a port is kept, unless a better one is, and the states are decided anew. -/
def State.ptpHear (s : State) (p : Nat) (d : PtpData) : State :=
  (s.modPort p fun x => { x with foreign := match x.foreign with
    | some o => if o.1.id = d.id || ptpBetter d o.1 then some (d, s.up) else some o
    | none => some (d, s.up) }).ptpDecide

/-- The timing messages of a slave port (R232, R423): the lock, the offset removed, TAI - UTC. -/
def State.ptpTiming (s : State) (p : Nat) (lock : Bool) (off : Option Int) (utc : Option (BitVec 16)) : State :=
  if s.rd F.ETH_PORT_STAT_PTP_STATE p < 8 then s
  else
    let s1 := if lock then s.ptpGo p 9 else s
    let s2 := if lock && !(s1.flag F.TIM_STAT_LOCKED) then
        ((s1.wr F.TIM_STAT_LOCKED 0 1).wr F.TIM_STAT_LOCK_PORT 0 p).raise F.TIM_CAUSE_LOCK
      else s1
    let mine := s2.flag F.TIM_STAT_LOCKED && s2.rd F.TIM_STAT_LOCK_PORT = p
    let s3 := match off with
      | some o => if mine && s2.flag F.TIM_CTL_PTP_EN then
          ((((s2.discipline o).wr F.TIM_STAT_UNSET 0 0).wr F.TIM_STAT_DISC 0 0).wr F.TIM_STAT_AONSTOP 0 0) else s2
      | none => s2
    match utc with
    | some u => if mine then s3.wr F.TIM_UTC_OFFSET 0 u.toNat else s3
    | none => s3

/-- PTP_MESSAGE (R232, R423): a message of the port's domain: an Announce, the timing messages of a slave port, or a delay
request, which a master port answers with the time of its arrival. -/
def execPtpMessage (p : Fin 2) (dom : BitVec 8) (m : PtpMsg) (s : State) : Out :=
  if s.ptpOn p = true ∧ s.rd F.ETH_PTP_CFG_DOMAIN p = dom.toNat then
    match m with
    | .announce d => .next (s.ptpHear p d)
    | .timing lock off utc => .next (s.ptpTiming p lock off utc)
    | .delayReq seq =>
      if s.rd F.ETH_PORT_STAT_PTP_STATE p = 6 then .next (s.ptpSend p ([0x09, dom] ++ natBE 2 seq.toNat ++ natBE 8 s.timeBase.toNat)) else .next s
  else .next s

/-- What a master port sends by itself (log entry 78): each second a Sync and its Follow_Up with the time, every 2 s an
Announce of the clock the module follows, or of its own. -/
def State.ptpSpeak (s : State) (p : Nat) : State :=
  if !(s.ptpOn p) || s.rd F.ETH_PORT_STAT_PTP_STATE p ≠ 6 then s
  else
    let dom := s.rd F.ETH_PTP_CFG_DOMAIN p
    let s1 := (s.ptpSend p [0x00, BitVec.ofNat 8 dom]).ptpSend p ([0x08, BitVec.ofNat 8 dom] ++ natBE 8 s.timeBase.toNat)
    if s.up / 1000000000 % 2 = 0 then
      s1.ptpSend p (announceBody dom (match s.ptpBest with
        | some (_, d) => if ptpBetter (s.ptpOwn p) d then s.ptpOwn p else { d with steps := d.steps + 1 }
        | none => s.ptpOwn p))
    else s1

/-- Precision time as time passes: a clock not heard for 6 s is forgotten, the states are decided, and masters speak. -/
def State.ptpTick (s : State) : State :=
  let s1 := { s with ports := s.ports.map fun (x : EthPort) => { x with foreign := x.foreign.filter fun d => decide (s.up < d.2 + 6000000000) } }
  (s1.ptpDecide.ptpSpeak 0).ptpSpeak 1

/-- What the Ethernet ports do as time passes: pauses end, XON goes out, answers that have become due are given, and each second
precision time goes on. -/
def State.ethTick (s : State) (before : Nat) : State :=
  let s1 := (((s.flushPort 0).flushPort 1).buffersEmpty 0).buffersEmpty 1
  let s2 := s1.pay
  if s2.up / 1000000000 ≠ before / 1000000000 && (s2.ptpOn 0 || s2.ptpOn 1) then s2.ptpTick else s2

/-- PTP_LOCK_LOST (R232). -/
def execPtpLockLost (p : Fin 2) (s : State) : Out :=
  if s.flag F.TIM_STAT_LOCKED ∧ s.rd F.TIM_STAT_LOCK_PORT = p.val then
    .next ((s.wr F.TIM_STAT_LOCKED 0 0).raise F.TIM_CAUSE_LOCK)
  else .next s

/-- LLDP_SEND (R233): serial number, port name, TTL 120, system name and management address go out on a port that is up. -/
def execLldpSend (p : Fin 2) (s : State) : Out :=
  if s.rd F.ETH_PORT_STAT_RATE p = 0 then .next s
  else
    let name : List Byte := [0x65, 0x74, 0x68, BitVec.ofNat 8 (0x30 + p.val)]
    let ip := match s.mgmtEntry p with
      | some i => natBE 16 (s.ipOf i)
      | none => []
    .next (s.emit (.frame { port := p } 0x88CC (s.nv.serial ++ name ++ natBE 2 120 ++ s.conf.sysname ++ ip)))

/-- LLDP_RECEIVE (R233): up to 4 neighbours a port; LLDP is raised when the table changes. -/
def execLldpReceive (p : Fin 2) (id info : List Byte) (s : State) : Out :=
  if s.rd F.ETH_PORT_STAT_RATE p = 0 then .next s
  else
    let l := (s.port p).neighbours
    let new := if l.any fun x => x.1 = id then l.map fun x => if x.1 = id then (id, info) else x
      else if l.length < 4 then l ++ [(id, info)] else l
    if new = l then .next s
    else .next ((s.modPort p fun x => { x with neighbours := new }).raise F.ETH_PORT_CAUSE_LLDP p)

end Sys2Proof.Machine
end

