-- ==== Sys2Proof/Machine/Queue.lean ====
section
/-! DEFINITION.  Frames that wait on the Clarn channels (R347, R366 to R371, R378 to R381): the gate, the sequence byte, and
the alarm entry. -/

namespace Sys2Proof.Machine

/-- A channel. -/
def State.chan (s : State) (c : Nat) : Chan := getAt {} s.clarn.ch c

/-- Change a channel's bookkeeping. -/
def State.modChan (s : State) (c : Nat) (f : Chan → Chan) : State := { s with clarn := { s.clarn with ch := modifyAt c f s.clarn.ch } }

/-- The µs counter (R381). -/
def State.micros (s : State) : Nat := s.timeBase.toNat / 1000 % 2 ^ 32

/-- The module's own node number (R369). -/
def State.node (s : State) : Nat := s.rd F.ROW_CFG_NODE

/-- An identifier: priority, class, node (R369). -/
def clarnId (prio cls node : Nat) : Nat := prio % 8 * 2 ^ 26 + cls % 64 * 2 ^ 20 + node % 128 * 2 ^ 13

/-- Class of an identifier. -/
def idClass (i : Nat) : Nat := i / 2 ^ 20 % 64

/-- Node of an identifier. -/
def idNode (i : Nat) : Nat := i / 2 ^ 13 % 128

/-- Priority the catalogue gives a class (R371). -/
def classPrio (c : Nat) : Nat := [0, 3, 2, 5, 4, 1, 7, 7, 2, 3, 2, 3, 3, 3, 6, 7].getD c 7

/-- Gated classes (R371). -/
def gatedClass (c : Nat) : Bool := c = 0 || c = 1 || c = 8 || c = 0x0A || c = 0x0E

/-- The gate of R347: the module holds control, its own line is low and its peer's reads high. -/
def State.gateOpen (s : State) : Bool :=
  s.rd F.ROW_STAT_STATE = 3 && s.flag F.ROW_STAT_ILK_OWN && !(s.flag F.ROW_STAT_ILK_PEER)

/-- A gated frame is held back: counted, GATED raised (R347). -/
def State.holdBack (s : State) : State := (s.count F.ROW_GATED_CNT_COUNT 0).raise F.ROW_CAUSE_GATED

/-- The next SEQ of an identifier (R370): 0 first, then 1 to 255 round. -/
def State.seqNext (s : State) (i : Nat) : Nat :=
  match Assoc.find s.clarn.sent i with
  | none => 0
  | some q => if q = 255 then 1 else q + 1

/-- Whether a pending frame is the scheduled one of an identifier's class and node. -/
def Tx.sameCell (t : Tx) (i : Nat) : Bool := t.src = 33 && idClass t.id = idClass i && idNode t.id = idNode i

/-- One copy of a frame waits on a channel: a scheduled one of the same class and node is superseded (R378); a gated one
that meets a closed gate is held back. -/
def State.offer (s : State) (c : Nat) (t : Tx) : State :=
  if !(s.flag F.CLN_CH_CFG_EN c) then s
  else if gatedClass (idClass t.id) && !s.gateOpen then s.holdBack
  else
    let old := t.src = 33 && (s.chan c).pend.any fun x => x.sameCell t.id
    let s1 := if old then s.count F.SUPERSEDED_COUNT c else s
    s1.modChan c fun h => { h with pend := (h.pend.filter fun x => !(t.src = 33 && x.sameCell t.id)) ++ [t] }

/-- Queue a frame on the channels of a mask: `bare` marks a frame of length 0, any other has the sequence byte and then
`body` (R366, R370). -/
def State.queueFrame (s : State) (mask i : Nat) (body : List Byte) (src : Nat) (bare : Bool := false) : State :=
  let q := s.seqNext i
  let t : Tx := { id := i, data := if bare then [] else BitVec.ofNat 8 q :: body, src := src, ord := s.clarn.ord }
  let s1 : State := { s with clarn := { s.clarn with sent := Assoc.put s.clarn.sent i q, ord := s.clarn.ord + 1 } }
  ((List.range 2).filter fun c => mask.testBit c).foldl (fun (s : State) (c : Nat) => s.offer c t) s1

/-- A module alarm (R371, R379) takes the entry only hardware fills, in place of one still pending. -/
def State.alarm (s : State) (code : Nat) : State :=
  let s1 := (List.range 2).foldl (fun (s : State) (c : Nat) =>
    s.modChan c fun h => { h with pend := h.pend.filter fun x => x.src ≠ 32 }) s
  s1.queueFrame 3 (clarnId 1 5 s.node) (natLE 1 code ++ [0, 0] ++ natLE 4 s.micros) 32

/-- The alarm code of a protective action (R371); a permit loss has none. -/
def alarmCode (f : Fld) : Option Nat :=
  if f = F.CIO_CAUSE_LEAK_WET then some 1
  else if f = F.CIO_CAUSE_EMERG then some 2
  else if f = F.PWR_CAUSE_TRIP then some 3
  else if f = F.CFG_CAUSE_TRAY_SHUT then some 4
  else none

/-- Every gated frame that waits is held back when the gate is closed (R347, R380, R386). -/
def State.gateCheck (s : State) : State :=
  let o := s.gateOpen
  let s1 := s.wr F.ROW_STAT_GATE 0 (if o then 1 else 0)
  if o then s1
  else (List.range 2).foldl (fun (s : State) (c : Nat) =>
    let n := ((s.chan c).pend.filter fun t => gatedClass (idClass t.id)).length
    (List.range n).foldl (fun (s : State) (_ : Nat) => s.holdBack)
      (s.modChan c fun h => { h with pend := h.pend.filter fun t => !(gatedClass (idClass t.id)) })) s1

/-- BUSY of the event queue follows the channels (R379). -/
def State.busyShow (s : State) : State :=
  s.setReg .CLN_EVQ_BUSY 0 (BitVec.ofNat 32 (packBits ((List.range 32).map fun e =>
    s.clarn.ch.any fun h => h.pend.any fun t => t.src = e)))

/-- The word of a matrix or map register in force in this cycle (R388). -/
def State.inForce (s : State) (r : Reg) (i : Nat) : Word := Assoc.get (s.reg r i) s.clarn.staged (regKey r i)

/-- Write a matrix or map register; its old word stays in force until the next basic cycle. -/
def State.stage (s : State) (r : Reg) (i : Nat) (w : Word) : State :=
  let k := regKey r i
  let s1 : State := if (Assoc.find s.clarn.staged k).isSome then s
    else { s with clarn := { s.clarn with staged := Assoc.put s.clarn.staged k (s.reg r i) } }
  s1.setReg r i w

/-! ### Received values (R383) -/

/-- Scale of field `f` of a class, as a divisor; SENSOR_VALUE's by the unit it carries. -/
def fieldScale (cls f : Nat) (d : List Byte) : Rat :=
  if cls = 0x0C then
    match bitsOf (leAt d 10 2) (4 * f) 4 with
    | 2 | 3 => 10
    | _ => 100
  else if cls = 4 then (if f = 2 ∨ f = 3 ∨ f = 4 then 100 else 1)
  else if (cls = 9 ∨ cls = 8 ∨ cls = 0x0A ∨ cls = 0x0B) ∧ f = 0 then 100
  else if cls = 0x0E ∧ f = 0 then 100
  else 1

/-- Whether a field is signed. -/
def fieldSigned (cls f : Nat) : Bool := cls = 0x0C || (cls = 4 && (f = 2 || f = 3))

/-- Field `f` of a payload as a value. -/
def fieldVal (cls f : Nat) (d : List Byte) : Rat :=
  let w := leAt d (2 + 2 * f) 2
  (if fieldSigned cls f then (signedOf 16 w : Rat) else (w : Rat)) / fieldScale cls f d

/-- Clarn received value `v` (R383): nothing when its entry is not in use, when no frame came within 4 periods, or when
SENSOR_VALUE marks the field invalid. -/
def State.clarnValue (s : State) (v : Nat) : Option Rat :=
  let w := s.inForce .CLN_RXMAP v
  let cls := fieldOf w F.CLN_RXMAP_CLASS
  let f := fieldOf w F.CLN_RXMAP_FIELD
  if fieldOf w F.CLN_RXMAP_VALID = 0 then none
  else match Assoc.find s.clarn.got (cls * 128 + fieldOf w F.CLN_RXMAP_NODE) with
    | none => none
    | some x =>
      if x.1 + 40000000 * max 1 (fieldOf w F.CLN_RXMAP_PER) < s.up then none
      else if cls = 0x0C ∧ (byteAt x.2 1).testBit f = false then none
      else some (fieldVal cls f x.2)

/-! ### The pumps of the row unit (R343, R345, R438) -/

/-- STATE codes of a pump. -/
abbrev puOff : Nat := 0
abbrev puSpare : Nat := 1
abbrev puDuty : Nat := 2
abbrev puFailed : Nat := 3

/-- A pump's state. -/
def State.pumpSt (s : State) (k : Nat) : Nat := s.rd F.ROW_PUMP_STATE k

/-- Fitted pumps in a state. -/
def State.pumpsIn (s : State) (st : Nat) : List Nat := (List.range 4).filter fun k => s.flag F.ROW_PUMP_FITTED k && s.pumpSt k = st

/-- Duty pumps wanted. -/
def State.nduty (s : State) : Nat := max 1 (s.rd F.ROW_PUMP_CFG_NDUTY)

/-- Every running pump is commanded to 100 %: the drive of start-up step 8, or fewer than NDUTY pumps remain. -/
def State.pumpFull (s : State) : Bool :=
  s.rd F.ROW_STAT_STATE = 3 && (s.row.kick || decide ((s.pumpsIn puDuty).length + (s.pumpsIn puSpare).length < s.nduty))

/-- Whether entry `v` of CLN_TXMAP commands a class for a node. -/
def State.txNames (s : State) (v cls node : Nat) : Bool :=
  let w := s.inForce .CLN_TXMAP v
  fieldOf w F.CLN_TXMAP_VALID = 1 && fieldOf w F.CLN_TXMAP_CLASS = cls && fieldOf w F.CLN_TXMAP_NODE = node

/-- Whether entry `v` of CLN_TXMAP commands a fitted pump. -/
def State.txPump (s : State) (v : Nat) : Bool :=
  (List.range 4).any fun k => s.flag F.ROW_PUMP_FITTED k && s.txNames v 8 (s.rd F.ROW_PUMP_NODE k)

end Sys2Proof.Machine
end

