-- ==== Sys2Proof/Machine/Sources.lean ====
section
/-! DEFINITION.  Control words (R290, R291, R518) and the sources the control engine and the protective actions read
(R288, R316, R317). -/

namespace Sys2Proof.Machine

/-! ### Numbers -/

/-- A power of two. -/
def pow2 (e : Int) : Rat := if 0 ≤ e then (2 : Rat) ^ e.toNat else 1 / (2 : Rat) ^ (-e).toNat

/-- Round to nearest, ties to even. -/
def rneInt (q : Rat) : Int :=
  let f := q.floor
  let r := q - f
  if r < 1 / 2 then f else if 1 / 2 < r then f + 1 else if f % 2 = 0 then f else f + 1

/-- Round a value the spec gives in whole units without naming a rounding: down or up, which of the two is free
(log entry 4). -/
def State.roundOff (s : State) (v : Rat) : Int × State :=
  let f := v.floor
  if v = f then (f, s) else let d := s.freeNat 2; (f + d.1, d.2)

/-- As `roundOff`, limited to 0 and the greatest value of a field of `w` bits. -/
def State.roundNat (s : State) (w : Nat) (v : Rat) : Nat × State :=
  let r := s.roundOff v
  (min r.1.toNat (2 ^ w - 1), r.2)

/-! ### Control words (R290) -/

/-- The value of a control word: m × 2^(X − 150). -/
def cwVal (w : Word) : Rat := signedOf 24 w.toNat * pow2 ((w.toNat / 2 ^ 24 : Nat) - 150)

/-- The mantissa of a value at exponent `x`, rounded to nearest even; a value below the last place of X = 0 gives 0. -/
def mantAt (x : Nat) (v : Rat) : Int := if |v| < pow2 (-150) then 0 else rneInt (v * pow2 (150 - (x : Int)))

/-- Whether a value rounds into 24 bits at exponent `x`. -/
def fitsAt (x : Nat) (v : Rat) : Bool := decide (-8388608 ≤ mantAt x v ∧ mantAt x v ≤ 8388607)

/-- The smallest exponent at which every value of a block fits (R291). -/
def blockExp (l : List Rat) : Option Nat := (List.range 256).find? fun x => l.all (fitsAt x)

/-- Limit an integer to 24 bits. -/
def sat24 (m : Int) : Int := max (-8388608) (min 8388607 m)

/-- A stage's results as one block (R291), and whether even X = 255 does not hold one. -/
def blockRound (l : List Rat) : List Rat × Bool :=
  match blockExp l with
  | some x => (l.map fun v => mantAt x v * pow2 ((x : Int) - 150), false)
  | none => (l.map fun v => sat24 (mantAt 255 v) * pow2 105, true)

/-- One result rounded on its own. -/
def oneRound (v : Rat) : Rat × Bool := let r := blockRound [v]; (getAt 0 r.1 0, r.2)

/-- The normalised control word of a value (R518). -/
def cwOf (v : Rat) : Word :=
  match blockExp [v] with
  | some x => if mantAt x v = 0 then 0 else BitVec.ofNat 32 (x * 2 ^ 24 + (mantAt x v % 2 ^ 24).toNat)
  | none => BitVec.ofNat 32 (255 * 2 ^ 24 + (sat24 (mantAt 255 v) % 2 ^ 24).toNat)

/-- A control word holding an integer with X = 0 (R305). -/
def cwInt (n : Nat) : Word := BitVec.ofNat 32 (n % 2 ^ 24)

/-- Clarn received value `v` as the control word it is converted to (R383). -/
def State.clarnWord (s : State) (v : Nat) : Option Rat := (s.clarnValue v).map fun x => (oneRound x).1

/-! ### Readings and sources (R288) -/

/-- Whether a bit of CIO_SENS_STAT is set. -/
def State.sensBad (s : State) (b : Nat) : Bool := (s.reg .CIO_SENS_STAT 0).getLsbD b

/-- The latest reading under a code, unless it is older than 4 periods of `per` nanoseconds. -/
def State.fresh (s : State) (k per : Nat) : Option Rat :=
  match Assoc.find s.cio.reads k with
  | some r => if s.up ≤ r.at_ + 4 * per then some r.v else none
  | none => none

/-- A temperature sensor: 0 inlet A, 1 inlet B, 2 outlet A, 3 outlet B. -/
def State.temp (s : State) (i : Nat) : Option Rat := if s.sensBad i then none else s.fresh (0x100 + i) 10000000

/-- A redundant pair (R297): the mean of both, or the one that is left. -/
def State.pair (s : State) (i : Nat) : Option Rat :=
  match s.temp (2 * i), s.temp (2 * i + 1) with
  | some a, some b => some ((a + b) / 2)
  | some a, none => some a
  | none, b => b

/-- One sensor of a pair is lost. -/
def State.pairDegraded (s : State) (i : Nat) : Bool := (s.temp (2 * i)).isSome != (s.temp (2 * i + 1)).isSome

/-- A source by its code; nothing while it is invalid (R288). -/
def State.source (s : State) (c : Nat) : Option Rat :=
  if c < 8 then (if s.sensBad (16 + c) then none else s.fresh c 1000000)
  else if c < 0x0A then (if s.sensBad (c - 1) then none else s.fresh c 100000000)
  else if c < 0x12 then (if s.sensBad (14 + c) then none else (Assoc.find s.cio.reads c).map Reading.v)
  else if c = 0x18 then s.pair 0
  else if c = 0x19 then s.pair 1
  else if c = 0x1A then (if s.sensBad 4 then none else s.fresh c 1000000)
  else if c = 0x1B then (if s.sensBad 5 then none else s.fresh c 1000000)
  else if c = 0x1C then (if s.sensBad 6 then none else s.fresh c 10000000)
  else if 0x20 ≤ c ∧ c < 0x24 then (if s.flag F.MTR_STAT_REACH then s.fresh c 250000000 else none)
  else if c = 0x28 then (s.fresh c 50000).map fun _ => (s.rd F.PWR_INPUT_P_10MS : Rat)
  else if c = 0x29 then (s.fresh c 100000).map fun _ => (s.rd F.PWR_TJ_MAX : Rat) / 8
  else if c = 0x2A then some (s.rd F.PWR_CAP_EFF_WATTS : Rat)
  else if 0x30 ≤ c ∧ c < 0x50 then s.fresh c (s.rd F.CLE_SLOT_CFG_PERIOD (c - 0x30) * 50000)
  else if 0x80 ≤ c ∧ c < 0xC0 then s.clarnWord (c - 0x80)
  else if c = 0xFF then some 0
  else none

/-- Keep a reading. -/
def State.setRead (s : State) (k : Nat) (v : Rat) : State :=
  { s with cio := { s.cio with reads := Assoc.put s.cio.reads k { v := v, at_ := s.up } } }

/-- Forget a reading. -/
def State.dropRead (s : State) (k : Nat) : State := { s with cio := { s.cio with reads := Assoc.erase s.cio.reads k } }

/-- The value applied at a destination (R289). -/
def State.act (s : State) (dst : Nat) : Rat := Assoc.get 0 s.cle.acts dst

/-- Apply a value at a destination. -/
def State.setAct (s : State) (dst : Nat) (v : Rat) : State := { s with cle := { s.cle with acts := Assoc.set 0 s.cle.acts dst v } }

end Sys2Proof.Machine
end

