-- ==== Sys2Proof/Machine/Protect.lean ====
section
/-! DEFINITION.  What the protective actions share (R26, R28, R29, R457): their records with readings before and after,
quiescing compute, VCORE off and on, the flow permit (R436). -/

namespace Sys2Proof.Machine

/-! ### Readings before and after (R457) -/

/-- A reading in steps of 1 / `k`; 0x8000 when it is not available. -/
def State.read16 (s : State) (v : Option Rat) (k : Rat) : Nat × State :=
  match v with
  | none => (0x8000, s)
  | some x => let r := s.roundOff (x * k); ((r.1 % 65536).toNat, r.2)

/-- The branch valve's destination code: the analogue output CIO_LEAK_CTL.VALVE names (R319). -/
def State.valveDst (s : State) : Nat := 1 + s.rd F.CIO_LEAK_CTL_VALVE

/-- The nine readings in R457's order. -/
def State.readSet (s : State) : List Nat × State :=
  let l : List (Option Rat × Rat) := [(s.temp 0, 100), (s.temp 1, 100), (s.temp 2, 100), (s.temp 3, 100),
    (s.source 0x1A, 10), (s.source 0x1B, 10), (s.source 0x1C, 100),
    ((s.source 0x28).map fun _ => (s.rd F.PWR_INPUT_P_1S : Rat), 1), (some (s.act s.valveDst), 100)]
  l.foldl (fun (r : List Nat × State) (x : Option Rat × Rat) => let t := r.2.read16 x.1 x.2; (r.1 ++ [t.1], t.2)) ([], s)

/-- Nine readings that are not available. -/
def noReadings : List Nat := List.replicate 9 0x8000

/-- The readings taken 1 s before now. -/
def State.beforeSet (s : State) : List Nat :=
  match s.evr.hist.find? fun (x : Nat × List Nat) => x.1 + 1000000000 ≤ s.up with
  | some x => x.2
  | none => noReadings

/-- Every 100 ms the readings are kept, for 2 s. -/
def State.keepReadings (s : State) : State :=
  let r := s.readSet
  { r.2 with evr := { r.2.evr with hist := (r.2.up, r.1) :: r.2.evr.hist.take 20 } }

/-- The words of two sets of readings. -/
def packSets (l : List Nat) : List Word := (List.range 9).map fun i => wd (getAt 0 l (2 * i) + 65536 * getAt 0 l (2 * i + 1))

/-- A protective action is raised (R457): its cause is set and its record takes its place in the order, to be written
when the after set is taken; the alarm goes out on the Clarn bus (R371). -/
def State.protect (s : State) (f : Fld) (inst : Nat) (leak : Bool) : State :=
  let s1 := s.raiseBit f 0
  let r : Rec := {
    time := s1.timeBase.toNat, optime := s1.rd F.TIM_OPTIME_COUNT, cycles := s1.rd F.TIM_CYCLES_COUNT,
    seq := s1.evr.nextSeq, master := 0x3FF, block := f.reg.info.block.num, reg := (causeInfo f.reg).elim 15 Prod.snd, event := f.lo,
    inst := inst, sev := 3, disc := s1.flag F.TIM_STAT_DISC, unset := s1.flag F.TIM_STAT_UNSET, data := [] }
  let s2 : State := { s1 with evr := { s1.evr with
      nextSeq := seqAfter s1.evr.nextSeq
      prot := s1.evr.prot ++ [({ r := r, before := s1.beforeSet, leak := leak } : Prot)] } }
  match alarmCode f with
  | some c => s2.alarm c
  | none => s2

/-- Whether the action of a waiting record has completed: the valve is closed (or the response is over), or VCORE is off. -/
def State.protDone (s : State) (p : Prot) : Bool := if p.leak then s.flag F.CIO_LEAK_STAT_VCLOSED || !(s.flag F.CIO_LEAK_STAT_LATCH) else !s.pwr.vcore

/-- PROTECTIVE_AFTER_READINGS (R457): 1 s after its action completed, the `k`-th waiting record is written. -/
def execProtectiveAfterReadings (k : Fin 8) (s : State) : Out :=
  match s.evr.prot[k.val]? with
  | some p =>
    if s.protDone p then
      let a := s.readSet
      .next (({ a.2 with evr := { a.2.evr with prot := a.2.evr.prot.eraseIdx k } }).insertRec
        { p.r with data := packSets (p.before ++ a.1) })
    else .next s
  | none => .next s

/-- CRITICAL_OUTPUT_OFF (R329): 10 s after the last critical record. -/
def execCriticalOutputOff (s : State) : Out := .next { s with evr := { s.evr with critAt := none } }

/-! ### Compute off and on (R25, R26, R28, R269, R282, R497) -/

/-- The slots of the gear ceiling are held while VCORE is off or compute is quiesced (R308). -/
def State.holdGear (s : State) : State :=
  ((List.range 32).filter fun k => s.flag F.CLE_SLOT_CFG_EN k && s.rd F.CLE_SLOT_IO_DST k = 0x10).foldl (fun (s : State) (k : Nat) =>
    (s.wr F.CLE_SLOT_STAT_HELD k 1).wr F.CLE_SLOT_STAT_RUN k 0) s

/-- VCORE goes off: the contents of the clusters are lost, and CLU registers read as R497 gives. -/
def State.coreOff (s : State) : State :=
  let s0 : State := { s with
    pwr := { s.pwr with vcore := false, retention := false, tested := false, quiesce := false, forced := false, mv := 550, goal := 0, rates := [] }
    store := [], storePoison := [], ueLines := [], patrol := [], tok := [], tokSig := [], waiters := [], granted := []
    tabs := [], vregs := [], rng := [], engQ := [], bobQ := [], replayQ := [] }
  let s1 := allP.foldl (fun (s : State) (p : Nat) => (s.setReg .CLU_STALL p 0).wr F.CLU_STATE_STATE p 0) s0
  let s2 := ((((s1.wr F.PWR_GEAR_STAT_DUTY 0 0).wr F.PWR_GEAR_STAT_SLEW 0 0).wr F.PWR_GEAR_STAT_GEAR 0 0).wr
    F.PWR_GEAR_STAT_FBB 0 0).wr F.PWR_GEAR_STAT_ASSIST 0 0
  ((((s2.wr F.PWR_CADENCE_MIN 0 0).wr F.PWR_CADENCE_MEAN 0 0).wr F.CFG_STAT_GATE 0 0).wr F.PWR_PS_STAT_CORE_AWAKE 0 0).holdGear

/-- Compute is quiesced (R28): issue stops, running commands end with COMPUTE_FAULT, and a replay is abandoned (R484). -/
def State.quiesceNow (s : State) : State :=
  if s.pwr.vcore then
    ((({ s with pwr := { s.pwr with quiesce := true }, replayQ := [] }).jobEndAll 0x30 0).wr F.PWR_GEAR_STAT_DUTY 0 0).holdGear
  else s

/-- QUIESCE_COMPLETE (R28): zero power is reached and VCORE goes off. -/
def execQuiesceComplete (s : State) : Out := if s.pwr.quiesce then .next s.coreOff else .next s

/-- Step 9's training begins when the gate first opens (R156, R177, R435): the stacks, and every link of the enabled
ports. -/
def State.trainAll (s : State) : State :=
  if s.boot.trained then s
  else
    let s1 := (List.range 8).foldl (fun (s : State) (k : Nat) => if s.rd F.MEM_STATE_STATE k = 0 then s.wr F.MEM_STATE_STATE k 1 else s)
      ({ s with boot := { s.boot with trained := true } })
    ((List.range 18).filter fun p => s1.flag F.FAB_PORT_CFG_EN p).foldl (fun (s : State) (p : Nat) =>
      ((portLinks (s.rd F.FAB_PORT_CFG_MODE p)).filter fun k => s.lkState (8 * p + k) = lkDown).foldl (fun (s : State) (k : Nat) =>
        s.train (8 * p + k)) s) s1

/-- VCORE comes up at gear 0 at full duty (R282); a trip's re-arm is done with (R284). -/
def State.coreOn (s0 : State) : State :=
  let s := s0.trainAll
  let s1 := { s with pwr := { s.pwr with vcore := true, retention := false, tested := false, computeReq := false, mv := 550, goal := 0 } }
  let s2 := ((((s1.wr F.CFG_STAT_GATE 0 1).wr F.PWR_GEAR_STAT_GEAR 0 0).wr F.PWR_GEAR_STAT_FBB 0 0).wr F.PWR_GEAR_STAT_ASSIST 0 1).wr
    F.PWR_GEAR_STAT_DUTY 0 8
  (s2.wr F.PWR_TRIP_REARM 0 0).wr F.PWR_PS_STAT_CORE_AWAKE 0 (if s.psState = psStandby then 1 else 0)

/-! ### The flow permit (R436) -/

/-- Branch flow: source 0x1C, or the meter's flow while that sensor is faulted. -/
def State.branchFlow (s : State) : Option Rat := if s.sensBad 6 then s.source 0x20 else s.source 0x1C

/-- Branch flow at or above FLOW_MIN. -/
def State.flowing (s : State) : Bool :=
  match s.branchFlow with
  | some v => decide ((s.rd F.CFG_PERMIT_CFG_FLOW_MIN : Rat) / 10 ≤ v)
  | none => false

/-- State of leak input `k`: 0 dry, 1 wet, 2 fault, 3 disabled. -/
def State.leakState (s : State) (k : Nat) : Nat := bitsOf (s.reg .CIO_LEAK_STAT 0).toNat (2 * k) 2

/-- Whether a leak input is evaluated. -/
def State.leakOn (s : State) (k : Nat) : Bool := k = 4 || s.flag F.CIO_LEAK_CFG_EN k

/-- Whether a wet reading of an input starts the leak response. -/
def State.leakResp (s : State) (k : Nat) : Bool := k = 4 || s.flag F.CIO_LEAK_CFG_RESP k

/-- Every enabled input with RESP 1 reads dry (R332, R436). -/
def State.allDry (s : State) : Bool :=
  (List.range 5).all fun k => !(s.leakOn k && s.leakResp k) || s.leakState k = 0

/-- A digital input of a function is active. -/
def State.diActive (s : State) (fn : Nat) : Bool :=
  (List.range 8).any fun d => s.rd F.CIO_DI_CFG_FUNC d = fn && (s.rd F.CIO_DI_STAT_ACTIVE).testBit d

/-- DRY. -/
def State.dryOk (s : State) : Bool := s.allDry && !(s.flag F.CIO_LEAK_STAT_LATCH)

/-- EMERG_OK. -/
def State.emergOk (s : State) : Bool := !(s.diActive 3)

/-- INLET. -/
def State.inletOk (s : State) : Bool :=
  match s.pair 0 with
  | some v => decide ((s.rd F.CFG_PERMIT_CFG_INLET_MIN : Rat) ≤ v ∧ v ≤ (s.rd F.CFG_PERMIT_CFG_INLET_MAX : Rat))
  | none => false

/-- Whether the permit is evaluated: from step 7 on (R435). -/
def State.permitOn (s : State) : Bool := 7 ≤ s.rd F.CFG_STAT_STEP && s.rd F.CFG_STAT_STEP ≤ 10

/-- The flow permit but for TRIP_OK. -/
def State.permitBut (s : State) : Bool :=
  s.permitOn && s.flag F.CFG_STAT_FLOW && s.dryOk && s.emergOk && s.inletOk && s.boot.shut.isNone

/-- The flow permit. -/
def State.permit (s : State) : Bool := s.permitBut && !(s.flag F.PWR_TRIP_TRIPPED)

/-- CFG_STAT as it reads: the permit's conditions are shown as they are. -/
def State.cfgStat (s : State) : Word :=
  let b := fun (x : Bool) (f : Fld) (w : Word) => setField w f (if x && s.permitOn then 1 else 0)
  b s.boot.shut.isNone F.CFG_STAT_TRAY_OK (b (!(s.flag F.PWR_TRIP_TRIPPED)) F.CFG_STAT_TRIP_OK (b s.inletOk F.CFG_STAT_INLET
    (b s.emergOk F.CFG_STAT_EMERG_OK (b s.dryOk F.CFG_STAT_DRY (s.reg .CFG_STAT 0)))))

/-- Flow that falls below FLOW_MIN breaks the 2 s of FLOW. -/
def State.flowCheck (s : State) : State := if s.flowing then s else s.wr F.CFG_STAT_FLOW 0 0

/-- The gate opens when the permit holds and compute is requested (R26, R436); not in the recovery of R439, nor before
step 9. -/
def State.tryGate (s : State) : State :=
  if s.permit && s.pwr.computeReq && !s.pwr.vcore && (s.rd F.CFG_STAT_STEP = 9 || s.rd F.CFG_STAT_STEP = 10) then s.coreOn else s

/-- Compute is requested (R436). -/
def State.requestCompute (s : State) : State := ({ s with pwr := { s.pwr with computeReq := true } }).tryGate

end Sys2Proof.Machine
end

