-- ==== Sys2Proof/Machine/Power.lean ====
section
/-! DEFINITION.  Cadence, gears and the power cap (R269 to R285). -/

namespace Sys2Proof.Machine

/-! ### Levels (R273) -/

/-- The effective level: the lowest of the ceiling, the limiter hold and the highest gear allowed. -/
def State.level (s : State) : Nat :=
  let l := min (s.rd F.PWR_GEAR_STAT_CEIL) (s.pwr.maxGear + 7)
  match s.pwr.hold with
  | some h => min l h
  | none => l

/-- The gear of a level. -/
def gearOf (l : Nat) : Nat := l - 7

/-- The issue duty of a level, in eighths. -/
def dutyOf (l : Nat) : Nat := if l < 7 then l + 1 else 8

/-- VCORE of a gear in mV (R269). -/
def mvOf (g : Nat) : Nat := 550 + 20 * g

/-- The duty in force: the level's, at most 4/8 while the limiter forces it, 0 while quiesced or VCORE is off. -/
def State.duty (s : State) : Nat :=
  if !s.pwr.vcore || s.pwr.retention || s.pwr.quiesce then 0
  else if !s.pwr.tested then 8
  else
    let d := dutyOf s.level
    if s.pwr.forced then min 4 d else d

/-- LEVEL and HOLD follow what they are made of. -/
def State.relevel (s : State) : State :=
  let l := min (s.rd F.PWR_GEAR_STAT_CEIL) (s.pwr.maxGear + 7)
  let held := match s.pwr.hold with
    | some h => decide (h < l)
    | none => false
  (s.wr F.PWR_GEAR_STAT_LEVEL 0 s.level).wr F.PWR_GEAR_STAT_HOLD 0 (if held then 1 else 0)

/-- The ceiling takes a value (R284, R301). -/
def State.setCeil (s : State) (c : Nat) : State := (s.wr F.PWR_GEAR_STAT_CEIL 0 (min 22 c)).relevel

/-! ### Moving between gears (R274) -/

/-- Forward bias and assist a gear uses. -/
def wantsBias (g : Nat) : Bool := 12 ≤ g
def wantsAssist (g : Nat) : Bool := g ≤ 5

/-- Where the slew from `mv` toward gear `g` next stops, and whether a bias switch (`some true`) or an assist switch
(`some false`) waits there. -/
def State.nextStop (s : State) (mv g : Nat) : Nat × Option Bool :=
  let bias := s.flag F.PWR_GEAR_STAT_FBB != wantsBias g
  let assist := s.flag F.PWR_GEAR_STAT_ASSIST != wantsAssist g
  let up := decide (mv < mvOf g)
  if bias && assist then (if up then (670, some false) else (770, some true))
  else if bias then (770, some true)
  else if assist then (670, some false)
  else (mvOf g, none)

/-- Whether a switch is under way: VCORE stands where one is to be made. -/
def State.switching (s : State) (mv : Nat) : Bool :=
  let t := s.nextStop s.pwr.mv s.pwr.goal
  s.flag F.PWR_GEAR_STAT_SLEW && t.2.isSome && mv = t.1

/-- Whether VCORE can stand at `mv` in the slew under way. -/
def State.onPath (s : State) (mv : Nat) : Bool :=
  if s.flag F.PWR_GEAR_STAT_SLEW then
    let t := (s.nextStop s.pwr.mv s.pwr.goal).1
    decide (min s.pwr.mv t ≤ mv ∧ mv ≤ max s.pwr.mv t)
  else mv = s.pwr.mv

/-- Start toward the gear of the effective level from `mv`. -/
def State.retarget (s : State) (mv : Nat) : State :=
  let g := gearOf s.level
  let s1 := ({ s with pwr := { s.pwr with mv := mv, goal := g } }).wr F.PWR_GEAR_STAT_GEAR 0 (min 15 ((mv - 550) / 20))
  let t := s1.nextStop mv g
  s1.wr F.PWR_GEAR_STAT_SLEW 0 (if t.1 = mv && t.2.isNone && !(s.flag F.PWR_GEAR_STAT_SLEW) then 0 else 1)

/-- GEAR_CHANGE (R274): the duty follows the level, and VCORE, which stands at `mv`, moves to its gear; a switch under way
is completed first.  Before the cluster tests are done VCORE stays at gear 0 (R282). -/
def execGearChange (mv : BitVec 12) (s : State) : Out :=
  let s0 := s.relevel
  let s1 := s0.wr F.PWR_GEAR_STAT_DUTY 0 s0.duty
  if s1.pwr.vcore ∧ s1.pwr.tested ∧ s1.pwr.retention = false ∧ s1.onPath mv.toNat = true ∧ gearOf s1.level ≠ s1.pwr.goal then
    .next (if s1.switching mv.toNat then { s1 with pwr := { s1.pwr with mv := mv.toNat } } else s1.retarget mv.toNat)
  else .next s1

/-- GEAR_SWITCH_DONE (R274): the switch VCORE waited for is made, and the slew goes on toward the level as it is now. -/
def execGearSwitchDone (s : State) : Out :=
  let t := s.nextStop s.pwr.mv s.pwr.goal
  if s.flag F.PWR_GEAR_STAT_SLEW = false then .next s
  else match t.2 with
    | some true => .next ((s.wr F.PWR_GEAR_STAT_FBB 0 (if wantsBias s.pwr.goal then 1 else 0)).retarget t.1)
    | some false => .next ((s.wr F.PWR_GEAR_STAT_ASSIST 0 (if wantsAssist s.pwr.goal then 1 else 0)).retarget t.1)
    | none => .next s

/-- GEAR_SETTLED (R274): the change is over, and SLEW clears. -/
def execGearSettled (s : State) : Out :=
  let t := s.nextStop s.pwr.mv s.pwr.goal
  if s.flag F.PWR_GEAR_STAT_SLEW = true ∧ t.2 = none then
    .next (((({ s with pwr := { s.pwr with mv := t.1 } }).wr F.PWR_GEAR_STAT_GEAR 0 s.pwr.goal).wr F.PWR_GEAR_STAT_SLEW 0 0))
  else .next s

/-! ### Cadence (R271) -/

/-- Clusters whose cadence counts: powered and not gated. -/
def State.ticking (s : State) (p : Nat) : Bool :=
  let st := s.rd F.CLU_STATE_STATE p
  (st = 1 || st = 4 || st = 5) && !(s.flag F.CLU_STATE_GATED p)

/-- CADENCE_WINDOW (R271): the rates the rings counted in a window of 10 µs. -/
def execCadenceWindow (rates : Vector (BitVec 16) 68) (s : State) : Out :=
  if !s.pwr.vcore || s.pwr.retention then
    .next ((({ s with pwr := { s.pwr with rates := [] } }).wr F.PWR_CADENCE_MIN 0 0).wr F.PWR_CADENCE_MEAN 0 0)
  else
    let l := ((rates.toList.map BitVec.toNat).zipIdx.map fun (x : Nat × Nat) => (x.2, x.1)).filter fun (x : Nat × Nat) => s.ticking x.1
    let v := l.map Prod.snd
    let m := if v = [] then (0, s) else s.roundNat 16 ((v.sum : Rat) / v.length)
    let s1 := { m.2 with pwr := { m.2.pwr with rates := l.filter fun (x : Nat × Nat) => x.2 ≠ 0 } }
    .next ((s1.wr F.PWR_CADENCE_MIN 0 (v.foldl min (v.headD 0))).wr F.PWR_CADENCE_MEAN 0 m.1)

/-- The rate PWR_CAD_CLU shows. -/
def State.cadClu (s : State) : Nat := Assoc.get 0 s.pwr.rates (s.rd F.PWR_CAD_SEL_CLUSTER)

/-! ### The power cap (R27, R276, R277, R285) -/

/-- A cap as it acts: 0 is not set, other values lie in 600 to 2,400. -/
def capActs (w : Nat) : Option Nat := if w = 0 then none else some (max 600 (min 2400 w))

/-- The effective cap and its source: 0 none, 1 configured, 2 tray, 3 row. -/
def State.capNow (s : State) : Nat × Nat :=
  let l := [(s.rd F.PWR_CAP_CFG_WATTS, 1), (s.rd F.PWR_CAP_TRAY_WATTS, 2), (s.rd F.PWR_CAP_ROW_WATTS, 3)]
  l.foldl (fun (r : Nat × Nat) (x : Nat × Nat) =>
    match capActs x.1 with
    | some w => if r.2 = 0 ∨ w < r.1 then (w, x.2) else r
    | none => r) (2400, 0)

/-- PWR_CAP_EFF takes the effective cap; a change of its value raises CAP_CHG. -/
def State.recap (s : State) : State :=
  let old := s.rd F.PWR_CAP_EFF_WATTS
  let c := s.capNow
  let s1 := (s.wr F.PWR_CAP_EFF_WATTS 0 c.1).wr F.PWR_CAP_EFF_SRC 0 c.2
  if old = c.1 then s1 else s1.raise F.PWR_CAUSE_CAP_CHG 0 0 [wd old, wd c.1]

/-- What the next sample of the power-cap loop takes up: caps, and a MAX that was raised (R285). -/
def State.capSample (s : State) : State :=
  ({ s.recap with pwr := { s.recap.pwr with maxGear := s.rd F.PWR_GEAR_REQ_MAX } }).relevel

/-- A write of PWR_GEAR_REQ: a lowered MAX acts at once (R283, R285). -/
def State.writeGearReq (s : State) (w : Word) : State :=
  let s1 := s.wr F.PWR_GEAR_REQ_MAX 0 (fieldOf w F.PWR_GEAR_REQ_MAX)
  let m := s1.rd F.PWR_GEAR_REQ_MAX
  if m < s1.pwr.maxGear then ({ s1 with pwr := { s1.pwr with maxGear := m } }).relevel else s1

/-- POWER_SAMPLE (R276): input power over 50 µs enters the means of 10 ms and 1 s. -/
def execPowerSample (w : BitVec 16) (s : State) : Out :=
  let l := w.toNat :: s.pwr.power.take 19999
  let mean := fun (n : Nat) => ((l.take n).sum : Rat) / (l.take n).length
  let s1 := { s with pwr := { s.pwr with power := l } }
  let a := s1.roundNat 16 (mean 200)
  let b := a.2.roundNat 16 (mean 20000)
  .next (((b.2.wr F.PWR_INPUT_P_10MS 0 a.1).wr F.PWR_INPUT_P_1S 0 b.1).setRead 0x28 (a.1 : Rat))

/-- CAP_UNMET (R277): P_1S has exceeded the cap plus 2 % for 1 s with the ceiling at level 0. -/
def execCapUnmet (s : State) : Out :=
  let cap := s.rd F.PWR_CAP_EFF_WATTS
  let p := s.rd F.PWR_INPUT_P_1S
  if s.rd F.PWR_GEAR_STAT_CEIL = 0 ∧ 102 * cap < 100 * p then .next (s.raise F.PWR_CAUSE_CAP_UNMET 0 2 [wd p, wd cap])
  else .next s

/-! ### The fast limiter (R278) -/

/-- LIMITER_TRIGGER (R278): a current limit is reached. -/
def execLimiterTrigger (s : State) : Out :=
  if !s.pwr.vcore then .next s
  else
    let step := max 1 (s.rd F.PWR_LIM_CFG_STEP)
    let s1 := ({ s with pwr := { s.pwr with hold := some (s.level - step), forced := true } }).relevel
    let s2 := (s1.wr F.PWR_GEAR_STAT_DUTY 0 s1.duty).count F.PWR_LIM_CNT_COUNT 0
    let s3 := s2.raiseBit F.PWR_CAUSE_LIMIT 0
    let old := match s3.pwr.limRec with
      | some t => decide (s3.up < t + 1000000000)
      | none => false
    if old then .next s3
    else .next (({ s3 with pwr := { s3.pwr with limRec := some s3.up } }).record 2 0 F.PWR_CAUSE_LIMIT.lo 0 1 [wd s3.level])

/-- LIMITER_RELEASE (R278): settled, with no limit reached for 10 µs. -/
def execLimiterRelease (s : State) : Out :=
  if s.pwr.forced ∧ s.flag F.PWR_GEAR_STAT_SLEW = false then
    let s1 := { s with pwr := { s.pwr with forced := false } }
    .next (s1.wr F.PWR_GEAR_STAT_DUTY 0 s1.duty)
  else .next s

/-- LIMITER_HOLD_STEP (R278): the hold rises one level until it restricts nothing. -/
def execLimiterHoldStep (s : State) : Out :=
  match s.pwr.hold with
  | some h =>
    let l := min (s.rd F.PWR_GEAR_STAT_CEIL) (s.pwr.maxGear + 7)
    .next ({ s with pwr := { s.pwr with hold := if l ≤ h + 1 then none else some (h + 1) } }).relevel
  | none => .next s

/-! ### Temperature and the trip (R279, R280) -/

/-- TJ_SAMPLE (R279): the hottest junction, where it lies, and the warning, which re-arms 5 K below its threshold. -/
def execTjSample (src : BitVec 7) (t : BitVec 12) (s : State) : Out :=
  let lim := min 0x340 (s.rd F.PWR_TJ_WARN_THRESH)
  let s1 := ((s.wr F.PWR_TJ_MAX 0 t.toNat).wr F.PWR_TJ_SRC 0 src.toNat).setRead 0x29 ((t.toNat : Rat) / 8)
  if lim ≤ t.toNat then
    if s1.pwr.tjArmed then
      .next (({ s1 with pwr := { s1.pwr with tjArmed := false } }).raise F.PWR_CAUSE_TJ_WARN 0 2 [wd t.toNat, wd src.toNat])
    else .next s1
  else if t.toNat + 40 ≤ lim then .next { s1 with pwr := { s1.pwr with tjArmed := true } }
  else .next s1

/-- THERMAL_TRIP (R280): a comparator trips; VCORE goes off by hardware alone. -/
def execThermalTrip (t : BitVec 12) (s : State) : Out :=
  if s.flag F.PWR_TRIP_TRIPPED then .next s
  else
    let s1 := (s.wr F.PWR_TRIP_TRIPPED 0 1).wr F.PWR_TRIP_TJ_AT_TRIP 0 t.toNat
    let s2 := (s1.protect F.PWR_CAUSE_TRIP 0 false).jobEndAll 0x30 0
    let s3 := (List.range 16).foldl (fun (s : State) (n : Nat) => s.relaxEnd n) s2
    .next s3.coreOff.stopFabric

/-- PWR_TRIP_REARM (R280, R284): cleared at once when nothing is tripped. -/
def execPwrTripRearm (s : State) : Out :=
  .next (s.wr F.PWR_TRIP_REARM 0 (if s.flag F.PWR_TRIP_TRIPPED then 1 else 0))

/-- TRIP_RESTART (R280): below 80 °C, with the permit and REARM, compute starts again. -/
def execTripRestart (s : State) : Out :=
  if s.flag F.PWR_TRIP_TRIPPED ∧ s.flag F.PWR_TRIP_REARM ∧ s.rd F.PWR_TJ_MAX < 640 ∧ s.permitBut = true then
    .next (s.wr F.PWR_TRIP_TRIPPED 0 0).requestCompute
  else .next s

end Sys2Proof.Machine
end

