-- ==== Sys2Proof/Machine/Cio.lean ====
section
/-! DEFINITION.  The coolant I/O (R315 to R341): valve and analogue outputs, fans, digital inputs and outputs, leak
sensing, range checks, pair mismatch and the heat balance. -/

namespace Sys2Proof.Machine

/-- Change the coolant I/O's bookkeeping. -/
def State.modCio (s : State) (f : Cio → Cio) : State := { s with cio := f s.cio }

/-- A percentage within 0 to 100. -/
def percent (v : Rat) : Rat := max 0 (min 100 v)

/-! ### Analogue outputs (R300, R319, R331, R336, R450) -/

/-- Enabled slots that name a destination. -/
def State.drivers (s : State) (dst : Nat) : List Nat :=
  (List.range 32).filter fun k => s.flag F.CLE_SLOT_CFG_EN k && s.rd F.CLE_SLOT_IO_DST k = dst

/-- Whether a slot or a group drives a destination. -/
def State.driven (s : State) (dst : Nat) : Bool := s.drivers dst ≠ []

/-- The branch valve closed, and fully open, in percent of its output (R319). -/
def State.valveShut (s : State) : Rat := if s.flag F.CIO_AO_CFG_REV (s.rd F.CIO_LEAK_CTL_VALVE) then 100 else 0
def State.valveOpen (s : State) : Rat := if s.flag F.CIO_AO_CFG_REV (s.rd F.CIO_LEAK_CTL_VALVE) then 0 else 100

/-- What forces the branch valve: the leak closure first, then the tray shutdown's hold and minimum flow, then the opening
of an unresolved plausibility fault, which the leak latch suspends (R28, R331, R336, R338, R450). -/
def State.valveForce (s : State) : Option Rat :=
  if s.flag F.CIO_LEAK_STAT_VCLOSED then some s.valveShut
  else if s.boot.valveHold = 2 then some (|s.valveShut - min 100 (s.rd F.CFG_TRAY_MINFLOW : Rat)|)
  else if s.boot.valveHold = 1 then some s.boot.heldValve
  else if (s.flag F.CIO_STAT_HB_FAULT || s.cio.iso ≠ 0) && !(s.flag F.CIO_LEAK_STAT_LATCH) then some s.valveOpen
  else none

/-- What forces a destination (R300, R345, R438). -/
def State.forceAt (s : State) (dst : Nat) : Option Rat :=
  if dst = s.valveDst then s.valveForce
  else if 8 ≤ dst ∧ dst < 16 then
    let c := dst - 8
    let st := s.rd F.CIO_PWM_STAT_STATE c
    if s.flag F.CIO_PWM_STAT_FULL c || st = 1 || st = 2 || st = 4 || st = 5 then some ((s.rd F.CIO_PWM_STAT_DUTY c : Rat) / 10) else none
  else if 0x80 ≤ dst ∧ dst < 0xC0 then (if s.pumpFull && s.txPump (dst - 0x80) then some 100 else none)
  else none

/-- The forced value of the branch valve reaches it; when nothing forces it, the output stays as it is (R300). -/
def State.refreshValve (s : State) : State :=
  match s.valveForce with
  | some v => s.setAct s.valveDst v
  | none => s

/-- An analogue output takes a value, unless it is forced. -/
def State.driveAo (s : State) (a : Nat) (v : Rat) : State :=
  let x := if 1 + a = s.valveDst then (s.valveForce).getD (percent v) else percent v
  (s.setAct (1 + a) x).modCio fun c => { c with touched := c.touched ||| 2 ^ a }

/-- From start-up step 4 an output drives INIT until its command or driver first acts (R319). -/
def State.aoInit (s : State) : State :=
  ((List.range 4).filter fun a => !(s.cio.touched.testBit a)).foldl (fun (s : State) (a : Nat) =>
    s.setAct (1 + a) (if 1 + a = s.valveDst then (s.valveForce).getD (min 100 (s.rd F.CIO_AO_CFG_INIT a : Rat))
      else min 100 (s.rd F.CIO_AO_CFG_INIT a : Rat))) s

/-- A write of an analogue output's command word: ignored while a slot drives the output (R338). -/
def State.writeAoCmd (s : State) (a : Nat) (w : Word) : State :=
  if s.driven (1 + a) then s
  else (s.modCio fun c => { c with cmds := Assoc.set 0 c.cmds (4 * a) w }).driveAo a (cwVal w)

/-- AO_FAULT (R319): the fault condition has lasted 50 ms. -/
def execAoFault (a : Fin 4) (s : State) : Out :=
  if s.flag F.CIO_AO_CFG_FAULT a then .next s
  else .next ((s.wr F.CIO_AO_CFG_FAULT a 1).raiseFor F.CIO_CAUSE_AO_FAULT 0 a 2)

/-- AO_FAULT_CLEAR (R319): the condition ended 1 s ago. -/
def execAoFaultClear (a : Fin 4) (s : State) : Out := .next (s.wr F.CIO_AO_CFG_FAULT a 0)

/-! ### Fans and pumps on PWM channels (R318, R320 to R325) -/

/-- STATE codes. -/
abbrev pwOff : Nat := 0
abbrev pwKick : Nat := 1
abbrev pwRamp : Nat := 2
abbrev pwRun : Nat := 3
abbrev pwPause : Nat := 4
abbrev pwFailed : Nat := 5
abbrev pwReleased : Nat := 6

/-- A channel's state. -/
def State.pwm (s : State) (c : Nat) : Nat := s.rd F.CIO_PWM_STAT_STATE c

/-- A channel's command: what its driver resolved, or its command word. -/
def State.pwmCmd (s : State) (c : Nat) : Rat :=
  percent (if s.driven (8 + c) then Assoc.get 0 s.cle.res (8 + c) else cwVal (Assoc.get 0 s.cio.cmds (0x20 + 4 * c)))

/-- Another member of a channel's failure group is FAILED. -/
def State.pwmGroupFailed (s : State) (c : Nat) : Bool :=
  s.flag F.CIO_PWM_CFG_FGEN c && (List.range 8).any fun d => d ≠ c && s.flag F.CIO_PWM_CFG_FGEN d &&
    s.rd F.CIO_PWM_CFG_FGRP d = s.rd F.CIO_PWM_CFG_FGRP c && s.rd F.CIO_PWM_STAT_WHY d ≠ 0

/-- The duty of a ramp that began at `t`: down from 100 % at RAMP percent per second. -/
def State.rampDuty (s : State) (c : Nat) : Rat :=
  let t := Assoc.get s.up s.cio.ramps c
  max (s.pwmCmd c) (100 - (max 1 (s.rd F.CIO_PWM_CFG_RAMP c) : Rat) * ((s.up - t : Nat) : Rat) / 1000000000)

/-- The duty that goes with a channel's state. -/
def State.pwmDuty (s : State) (c : Nat) : Rat :=
  if s.flag F.CIO_PWM_STAT_FULL c then 100
  else
    let st := s.pwm c
    if st = pwKick then 100
    else if st = pwRamp then s.rampDuty c
    else if st = pwRun then s.pwmCmd c
    else if st = pwFailed then (if s.rd F.CIO_PWM_STAT_WHY c = 2 then 100 else 0)
    else 0

/-- DUTY and the applied output follow the state. -/
def State.pwmShow (s : State) (c : Nat) : State :=
  let v := s.pwmDuty c
  let d := s.roundNat 10 (10 * v)
  (d.2.wr F.CIO_PWM_STAT_DUTY c (min 1000 d.1)).setAct (8 + c) v

/-- A ramp begins. -/
def State.pwmRampFrom (s : State) (c : Nat) : State :=
  (s.wr F.CIO_PWM_STAT_STATE c pwRamp).modCio fun x => { x with ramps := Assoc.put x.ramps c s.up }

/-- A channel's FULL follows its group; one that is no longer forced ramps toward its command (R325). -/
def State.pwmGroup (s : State) (c : Nat) : State :=
  let full := s.flag F.CIO_STAT_VPERI && s.flag F.CIO_PWM_CFG_EN c && s.rd F.CIO_PWM_STAT_WHY c = 0 && s.pwmGroupFailed c
  let was := s.flag F.CIO_PWM_STAT_FULL c
  let s1 := s.wr F.CIO_PWM_STAT_FULL c (if full then 1 else 0)
  if was && !full && (s1.pwm c = pwRun || s1.pwm c = pwRamp || s1.pwm c = pwOff) then s1.pwmRampFrom c else s1

/-- Bring a channel's state in line with its enable, its supply, its failure and its command (R318, R320). -/
def State.pwmEval (s : State) (c : Nat) : State :=
  let st := s.pwm c
  let s1 :=
    if !(s.flag F.CIO_PWM_CFG_EN c) || !(s.flag F.CIO_STAT_VPERI) then s.wr F.CIO_PWM_STAT_STATE c pwReleased
    else if s.rd F.CIO_PWM_STAT_WHY c ≠ 0 then s.wr F.CIO_PWM_STAT_STATE c pwFailed
    else if s.pwmCmd c = 0 then s.wr F.CIO_PWM_STAT_STATE c pwOff
    else if st = pwOff || st = pwReleased || st = pwFailed then s.wr F.CIO_PWM_STAT_STATE c pwKick
    else s
  (s1.pwmGroup c).pwmShow c

/-- Every channel, after a change that concerns a group or the supply. -/
def State.pwmAll (s : State) : State := (List.range 8).foldl (fun (s : State) (c : Nat) => (s.pwmGroup c).pwmShow c) s

/-- VPERI comes or goes (R318, R320): outputs are released without it, and started again with it. -/
def State.setVperi (s : State) (on : Bool) : State :=
  if s.flag F.CIO_STAT_VPERI = on then s
  else (List.range 8).foldl (fun (s : State) (c : Nat) => s.pwmEval c) (s.wr F.CIO_STAT_VPERI 0 (if on then 1 else 0))

/-- A channel fails (R322, R323): FAN_FAIL with a warning record, and its group is driven in full. -/
def State.pwmFail (s : State) (c why : Nat) : State :=
  (((s.wr F.CIO_PWM_STAT_STATE c pwFailed).wr F.CIO_PWM_STAT_WHY c why).raiseFor F.CIO_CAUSE_FAN_FAIL 0 c 2 [wd c, wd why]).pwmAll

/-- A write of CIO_PWM_CFG: FGRP and FGEN stay while the group holds a FAILED member (R341). -/
def State.writePwmCfg (s : State) (c : Nat) (w : Word) : State :=
  let old := s.reg .CIO_PWM_CFG c
  let new := w &&& Reg.accMask .CIO_PWM_CFG .RW
  let failedIn := fun (x : Word) => fieldOf x F.CIO_PWM_CFG_FGEN = 1 && (List.range 8).any fun d =>
    s.flag F.CIO_PWM_CFG_FGEN d && s.rd F.CIO_PWM_CFG_FGRP d = fieldOf x F.CIO_PWM_CFG_FGRP && s.rd F.CIO_PWM_STAT_WHY d ≠ 0
  let moves := fieldOf old F.CIO_PWM_CFG_FGEN ≠ fieldOf new F.CIO_PWM_CFG_FGEN || fieldOf old F.CIO_PWM_CFG_FGRP ≠ fieldOf new F.CIO_PWM_CFG_FGRP
  if moves && (failedIn old || failedIn new) then
    let kept := setField (setField new F.CIO_PWM_CFG_FGEN (fieldOf old F.CIO_PWM_CFG_FGEN)) F.CIO_PWM_CFG_FGRP (fieldOf old F.CIO_PWM_CFG_FGRP)
    ((s.setReg .CIO_PWM_CFG c kept).raise F.CIO_CAUSE_CFGERR).pwmEval c
  else ((s.setReg .CIO_PWM_CFG c new).pwmEval c).pwmAll

/-- A write of a PWM command word: ignored while a slot drives the channel (R338). -/
def State.writePwmCmd (s : State) (c : Nat) (w : Word) : State :=
  if s.driven (8 + c) then s else (s.modCio fun x => { x with cmds := Assoc.set 0 x.cmds (0x20 + 4 * c) w }).pwmEval c

/-- PWM_CFG_WRITE (R320): a write of a channel's configuration, or of its command word. -/
def execPwmCfgWrite (c : Fin 8) (cmd : Bool) (w : Word) (s : State) : Out :=
  .next (if cmd then s.writePwmCmd c w else s.writePwmCfg c w)

/-- TACH_EDGE (R321, R324): an edge comes `period` nanoseconds after the one before it. -/
def execTachEdge (t : Fin 8) (period : Word) (s : State) : Out :=
  let n := period.toNat
  let ovr := decide (n < 50000)
  let s1 := if ovr then
      (if s.flag F.CIO_PWM_STAT_OVR t then s else (s.wr F.CIO_PWM_STAT_OVR t 1).raiseFor F.CIO_CAUSE_TACH_OVR 0 t)
    else (s.wr F.CIO_PWM_STAT_OVR t 0).setRead (0x0A + t) ((1000000000 : Rat) / n)
  let reports := n * max 1 (s1.rd F.CIO_PWM_CFG_TMIN t) < 1000000000
  if reports ∧ s1.pwm t = pwKick ∧ s1.flag F.CIO_PWM_CFG_TACHEN t = true then .next ((s1.pwmRampFrom t).pwmShow t)
  else .next s1

/-- KICK_TIMEOUT (R321, R322): 3 s of kick end without a report. -/
def execKickTimeout (c : Fin 8) (s : State) : Out :=
  if s.pwm c ≠ pwKick then .next s
  else if !(s.flag F.CIO_PWM_CFG_TACHEN c) then .next ((s.pwmRampFrom c).pwmShow c)
  else if s.rd F.CIO_PWM_STAT_TRIES c < 3 then .next ((s.wr F.CIO_PWM_STAT_STATE c pwPause).pwmShow c)
  else .next (s.pwmFail c 1)

/-- PAUSE_END (R322): a retry begins. -/
def execPauseEnd (c : Fin 8) (s : State) : Out :=
  if s.pwm c = pwPause then
    .next (((s.wr F.CIO_PWM_STAT_STATE c pwKick).wr F.CIO_PWM_STAT_TRIES c (s.rd F.CIO_PWM_STAT_TRIES c + 1)).pwmShow c)
  else .next s

/-- PWM_RAMP_END (R321): the channel runs at its command. -/
def execPwmRampEnd (c : Fin 8) (s : State) : Out :=
  if s.pwm c = pwRamp then
    .next ((s.wr F.CIO_PWM_STAT_STATE c (if s.pwmCmd c = 0 then pwOff else pwRun)).pwmShow c)
  else .next s

/-- TACH_LOST (R323): no report for 1 s. -/
def execTachLost (c : Fin 8) (s : State) : Out :=
  if (s.pwm c = pwRamp ∨ s.pwm c = pwRun) ∧ s.flag F.CIO_PWM_CFG_TACHEN c = true then .next (s.pwmFail c 2) else .next s

/-- TACH_OVR_TIMEOUT (R324): an over-range of 1 s faults the tachometer source, never the channel. -/
def execTachOvrTimeout (t : Fin 8) (s : State) : Out :=
  if s.flag F.CIO_PWM_STAT_OVR t then
    .next ((s.setReg .CIO_SENS_STAT 0 (s.reg .CIO_SENS_STAT 0 ||| BitVec.ofNat 32 (2 ^ (24 + t.val)))).modCio fun c =>
      { c with latched := c.latched ||| 2 ^ (24 + t.val) })
  else .next s

/-- CIO_PWM_CLR (R325): failures are cleared, retries start anew, and the channels are kicked. -/
def execCioPwmClr (m : BitVec 8) (s : State) : Out :=
  let cs := (List.range 8).filter fun c => m.getLsbD c && s.rd F.CIO_PWM_STAT_WHY c ≠ 0
  let s1 := cs.foldl (fun (s : State) (c : Nat) =>
    ((s.wr F.CIO_PWM_STAT_WHY c 0).wr F.CIO_PWM_STAT_TRIES c 0).pwmEval c) s
  .next s1.pwmAll

/-- A ramp goes on with time. -/
def State.rampTick (s : State) : State :=
  ((List.range 8).filter fun c => s.pwm c = pwRamp).foldl (fun (s : State) (c : Nat) => s.pwmShow c) s

/-! ### Range checks (R317, R333) -/

/-- Set or clear bits of CIO_SENS_STAT from the two kinds of fault. -/
def State.sensShow (s : State) (b : Nat) : State :=
  let on := s.cio.ranged.testBit b || s.cio.latched.testBit b
  let w := s.reg .CIO_SENS_STAT 0
  let m := BitVec.ofNat 32 (2 ^ b)
  let s1 := s.setReg .CIO_SENS_STAT 0 (if on then w ||| m else w &&& ~~~m)
  if 16 ≤ b ∧ b < 24 then s1.wr F.CIO_AI_CFG_FAULT (b - 16) (if on then 1 else 0) else s1

/-- A reading of the sensor of bit `b` came in or out of range: out, it is faulted, with SENS_FAULT and a warning record,
and Freewheel ends. -/
def State.rangeCheck (s : State) (b : Nat) (ok : Bool) : State :=
  let s1 := s.modCio fun c => { c with good := if ok then c.good ||| 2 ^ b else c.good &&& (2 ^ 32 - 1 - 2 ^ b) }
  if ok || s1.cio.ranged.testBit b then s1
  else
    let had := s1.sensBad b
    let s2 := (s1.modCio fun c => { c with ranged := c.ranged ||| 2 ^ b }).sensShow b
    (if had then s2 else s2.raiseFor F.CIO_CAUSE_SENS_FAULT 0 b 2 [wd b]).wakeEvent F.PWR_WAKE_SRC_THRESH

/-- Percent of an analogue input's span (R317): 0 to 10 V, or 4 to 20 mA. -/
def aiPercent (mode : Nat) (raw : Rat) : Rat := if mode = 2 then (raw - 4) * 100 / 16 else raw * 10

/-- AI_SAMPLE (R333): an analogue input (V or mA) or a general Pt1000 (Ω, codes 8 and 9) is sampled; `val` is the value
after the input's filter, in percent or °C. -/
def execAiSample (ch : Fin 10) (raw val : Rat) (s : State) : Out :=
  if ch.val < 8 then
    let i := ch.val
    let mode := s.rd F.CIO_AI_CFG_MODE i
    if mode ≠ 1 ∧ mode ≠ 2 then .next s
    else
      let ok := if mode = 2 then decide (18 / 5 ≤ raw ∧ raw ≤ 21) else decide (-1 / 5 ≤ raw ∧ raw ≤ 21 / 2)
      let s1 := s.rangeCheck (16 + i) ok
      let v := if s.rd F.CIO_AI_CFG_FILT i = 0 then aiPercent mode raw else val
      .next (if ok then (s1.setRead i v).sensShow (16 + i) else s1)
  else
    let ok := decide (780 ≤ raw ∧ raw ≤ 1600)
    let s1 := s.rangeCheck (ch.val - 1) ok
    .next (if ok then s1.setRead ch.val val else s1)

/-- A value enters the last `n` readings of a code. -/
def State.histPut (s : State) (k n : Nat) (v : Rat) : State :=
  s.modCio fun c => { c with hist := Assoc.put c.hist k ((v :: (Assoc.get [] c.hist k)).take n) }

/-- SENSOR_SAMPLE (R316): inlet A, inlet B, outlet A, outlet B, inlet pressure, outlet pressure or branch flow is sampled. -/
def execSensorSample (k : Fin 7) (v : Rat) (s : State) : Out :=
  if k.val < 4 then
    let ok := decide (-10 ≤ v ∧ v ≤ 110)
    let s1 := s.rangeCheck k ok
    .next (if ok then (s1.setRead (0x100 + k) v).histPut (0x100 + k) 100 v else s1)
  else if k.val < 6 then
    let ok := decide (-20 ≤ v ∧ v ≤ 1050)
    let s1 := s.rangeCheck k ok
    .next (if ok then s1.setRead (0x16 + k) v else s1)
  else
    let ok := decide (0 ≤ v ∧ v ≤ 10)
    let s1 := s.rangeCheck 6 ok
    let f : Rat := if v < 1 / 2 then 0 else v
    .next (if ok then ((s1.setRead 0x1C f).histPut 0x1C 100 f).flowCheck else s1)

/-- RANGE_FAULT_CLEAR (R333): the reading of the sensor of bit `b` has been back in range for 1 s. -/
def execRangeFaultClear (b : Fin 24) (s : State) : Out :=
  if s.cio.good.testBit b then .next ((s.modCio fun c => { c with ranged := c.ranged &&& (2 ^ 32 - 1 - 2 ^ b.val) }).sensShow b)
  else .next s

/-! ### Sensors that lie (R334 to R337) -/

/-- Latch a sensor's fault. -/
def State.latchSens (s : State) (b : Nat) : State := (s.modCio fun c => { c with latched := c.latched ||| 2 ^ b }).sensShow b

/-- The difference of two values. -/
def apart (a b : Rat) : Rat := |a - b|

/-- PAIR_MISMATCH (R334): the sensors of a pair (0 inlet, 1 outlet) have differed by more than 1.0 K for 5 s. -/
def execPairMismatch (i : Fin 2) (s : State) : Out :=
  match s.temp (2 * i), s.temp (2 * i + 1) with
  | some a, some b =>
    if 1 < apart a b then
      let low := if a < b then 2 * i.val else 2 * i.val + 1
      let bad := match s.source (0x21 + i) with
        | some m => if apart b m < apart a m then 2 * i.val else if apart a m < apart b m then 2 * i.val + 1 else low
        | none => low
      .next ((s.latchSens bad).raiseFor F.CIO_CAUSE_PAIR_MISMATCH 0 bad 0 [wd bad])
    else .next s
  | _, _ => .next s

/-- The mean of the last second of a code's readings. -/
def State.meanOf (s : State) (k : Nat) : Option Rat :=
  match Assoc.get [] s.cio.hist k with
  | [] => none
  | l => some (l.sum / l.length)

/-- The 1 s mean of a meter value. -/
def State.meterMean (s : State) (k : Nat) : Option Rat := if s.flag F.MTR_STAT_REACH then s.meanOf k else none

/-- The 1 s mean of a pair; the meter's where both sensors are faulted (R335). -/
def State.pairMean (s : State) (i : Nat) : Option Rat :=
  let one := fun (k : Nat) => if s.sensBad k then none else s.meanOf (0x100 + k)
  match one (2 * i), one (2 * i + 1) with
  | some a, some b => some ((a + b) / 2)
  | some a, none => some a
  | none, some b => some b
  | none, none => s.meterMean (0x21 + i)

/-- The 1 s mean of the branch flow, or the meter's while that sensor is faulted. -/
def State.flowMean (s : State) : Option Rat := if s.sensBad 6 then s.meterMean 0x20 else s.meanOf 0x1C

/-- Heat coefficient of R335. -/
def State.heatK (s : State) : Rat := if s.flag F.CIO_HB_CFG_FLUID then 6630 / 100 else 6946 / 100

/-- The plausibility fault is raised (R335, R336): sensors too far from the meter are faulted, and the valve opens. -/
def State.plausFault (s : State) (p q : Rat) : State :=
  let s1 := (s.wr F.CIO_STAT_HB_FAULT 0 1).wr F.CIO_HB_STAT_FAULT 0 1
  let far := fun (b k : Nat) (lim : Rat → Rat) (v : Option Rat) => match v, s.source k with
    | some x, some m => if lim m < apart x m then some b else none
    | _, _ => none
  let bad := [far 0 0x21 (fun _ => 3 / 2) (s.temp 0), far 1 0x21 (fun _ => 3 / 2) (s.temp 1), far 2 0x22 (fun _ => 3 / 2) (s.temp 2),
    far 3 0x22 (fun _ => 3 / 2) (s.temp 3), far 6 0x20 (fun m => m / 10) (s.source 0x1C)].filterMap id
  let s2 := bad.foldl (fun (s : State) (b : Nat) => (s.latchSens b).modCio fun c => { c with iso := c.iso ||| 2 ^ b }) s1
  let s3 := if bad = [] then s2 else s2.wr F.CIO_HB_STAT_ISOLATED 0 1
  let a := s3.roundOff q
  (a.2.raise F.CIO_CAUSE_PLAUS 0 2 [wd p.floor.toNat, wd a.1.toNat]).refreshValve

/-- HEAT_BALANCE (R335): every 100 ms the balance is formed from 1 s means. -/
def execHeatBalance (s : State) : Out :=
  if !(s.flag F.CIO_HB_CFG_EN) then .next s
  else
    let p : Rat := s.rd F.PWR_INPUT_P_1S
    let stop := fun (s : State) => Host.Outcome.next ((s.wr F.CIO_HB_STAT_LOWP 0 1).modCio fun c => { c with over_ := 0, under := 0 })
    match s.pairMean 0, s.pairMean 1, s.flowMean with
    | some ti, some t, some f =>
      if p < 300 ∨ f < 1 / 2 then stop s
      else
        let q := (t - ti) * f * s.heatK
        let m := apart p q / p * 100
        let a := s.roundNat 16 q
        let b := a.2.roundNat 8 m
        let s1 := (((b.2.wr F.CIO_HB_STAT_LOWP 0 0).wr F.CIO_HB_STAT_Q 0 a.1).wr F.CIO_HB_STAT_M 0 b.1).modCio fun c => { c with q := q }
        let lim : Rat := max 1 (s.rd F.CIO_HB_CFG_LIMIT)
        let n := 10 * max 1 (s.rd F.CIO_HB_CFG_TIME)
        if lim < m then
          let s2 := s1.modCio fun c => { c with over_ := c.over_ + 1, under := 0 }
          .next (if n < s2.cio.over_ && !(s2.flag F.CIO_HB_STAT_FAULT) then s2.plausFault p q else s2)
        else
          let s2 := s1.modCio fun c => { c with under := c.under + 1, over_ := 0 }
          .next (if n < s2.cio.under && s2.flag F.CIO_HB_STAT_FAULT then
            ((s2.wr F.CIO_STAT_HB_FAULT 0 0).wr F.CIO_HB_STAT_FAULT 0 0).refreshValve else s2)
    | _, _, _ => stop s

/-- Whether a latched fault may be cleared (R337): the sensor passes its range check, and a pair member lies within 1.0 K
of its partner. -/
def State.sensPasses (s : State) (b : Nat) : Bool :=
  if 24 ≤ b then !(s.flag F.CIO_PWM_STAT_OVR (b - 24))
  else s.cio.good.testBit b && (4 ≤ b ||
    (match s.fresh (0x100 + b) 10000000, s.fresh (0x100 + (if b % 2 = 0 then b + 1 else b - 1)) 10000000 with
      | some x, some y => decide (apart x y ≤ 1)
      | _, _ => false))

/-- SENS_STAT_CLEAR (R337): the bits of latched faults clear where the sensor passes. -/
def execSensStatClear (w : Word) (s : State) : Out :=
  let bs := (List.range 32).filter fun b => w.getLsbD b && s.cio.latched.testBit b && s.sensPasses b
  let s1 := bs.foldl (fun (s : State) (b : Nat) =>
    (s.modCio fun c => { c with latched := c.latched &&& (2 ^ 32 - 1 - 2 ^ b), iso := c.iso &&& (2 ^ 32 - 1 - 2 ^ b) }).sensShow b) s
  .next ((if s1.cio.iso = 0 then s1.wr F.CIO_HB_STAT_ISOLATED 0 0 else s1).refreshValve)

/-! ### Leaks (R330 to R332) -/

/-- Since when every input that counts has been dry. -/
def State.dryCheck (s : State) : State :=
  let dry := s.allDry && !(s.diActive 2)
  s.modCio fun c => { c with dryAt := if dry then (match c.dryAt with
    | some t => some t
    | none => some s.up) else none }

/-- The leak response runs (R331): latched, LEAK_WET, compute quiesced; Freewheel ends.  A wet reading while it is latched
raises LEAK_WET again with a warning record. -/
def State.leakResponse (s : State) (inst : Nat) : State :=
  if s.flag F.CIO_LEAK_STAT_LATCH then s.raiseFor F.CIO_CAUSE_LEAK_WET 0 inst 2
  else
    let s1 := (s.wr F.CIO_STAT_LEAK 0 1).wr F.CIO_LEAK_STAT_LATCH 0 1
    ((s1.protect F.CIO_CAUSE_LEAK_WET inst true).quiesceNow).refreshValve

/-- The band of a loop resistance (R330): 1 dry, 2 wet, 3 fault, 0 a gap. -/
def leakBand (ohm : Nat) : Nat :=
  if 15000 < ohm then 3 else if 8000 ≤ ohm ∧ ohm ≤ 12000 then 1 else if 200 ≤ ohm ∧ ohm ≤ 6000 then 2 else if ohm < 100 then 3 else 0

/-- An input's state is decided: wet and fault act, and Freewheel ends. -/
def State.leakDecide (s : State) (k band : Nat) : State :=
  let code := band - 1
  let first := (getAt {} s.cio.leak k).undecided
  if s.leakState k = code && !first then s
  else
    let w := s.reg .CIO_LEAK_STAT 0
    let s1 := (s.setReg .CIO_LEAK_STAT 0 (setField w ⟨.CIO_LEAK_STAT, 2 * k + 1, 2 * k⟩ code)).modCio fun c =>
      { c with leak := modifyAt k (fun x => { x with undecided := false }) c.leak }
    let wet := fun (s : State) => if s.leakResp k then s.leakResponse k else s.raiseFor F.CIO_CAUSE_LEAK_WET 0 k 2
    let s2 := if code = 1 then (wet s1).wakeEvent F.PWR_WAKE_SRC_LEAK
      else if code = 2 then
        let s3 := (s1.raiseFor F.CIO_CAUSE_LEAK_FAULT 0 k 2).wakeEvent F.PWR_WAKE_SRC_LEAK
        if s3.flag F.CIO_LEAK_CFG_FWET k then wet s3 else s3
      else s1
    s2.dryCheck

/-- LEAK_SAMPLE (R330): five samples in one band decide. -/
def execLeakSample (k : Fin 5) (ohm : Word) (s : State) : Out :=
  if !(s.leakOn k) then .next s
  else
    let b := leakBand ohm.toNat
    let x := getAt {} s.cio.leak k
    let n := if b = 0 then 0 else if b = x.band then min 5 (x.run + 1) else 1
    let s1 := s.modCio fun c => { c with leak := modifyAt k (fun x => { x with band := b, run := n }) c.leak }
    if n = 5 then .next (s1.leakDecide k b) else .next s1

/-- A write of CIO_LEAK_CFG: an input newly enabled reads fault until its first decision, one disabled reads so (R330); one
that reads wet by the new setting acts as wet (R331). -/
def State.writeLeakCfg (s : State) (k : Nat) (w : Word) : State :=
  let was := s.leakOn k
  let s1 := s.setReg .CIO_LEAK_CFG k (if k = 4 then setField (s.reg .CIO_LEAK_CFG k) F.CIO_LEAK_CFG_FWET (fieldOf w F.CIO_LEAK_CFG_FWET)
    else w &&& Reg.accMask .CIO_LEAK_CFG .RW)
  let put := fun (s : State) (v : Nat) => s.setReg .CIO_LEAK_STAT 0 (setField (s.reg .CIO_LEAK_STAT 0) ⟨.CIO_LEAK_STAT, 2 * k + 1, 2 * k⟩ v)
  let wet := fun (s : State) => !(getAt {} s.cio.leak k).undecided &&
    (s.leakState k = 1 || (s.leakState k = 2 && s.flag F.CIO_LEAK_CFG_FWET k))
  let s2 := if !was && s1.leakOn k then (put s1 2).modCio fun c => { c with leak := modifyAt k (fun _ => {}) c.leak }
    else if was && !(s1.leakOn k) then put s1 3
    else if !s1.leakOn k || !(wet s1) || (wet s && (s.leakResp k || !s1.leakResp k)) then s1
    else if s1.leakResp k then s1.leakResponse k
    else s1.raiseFor F.CIO_CAUSE_LEAK_WET 0 k 2
  s2.dryCheck

/-- VALVE_CLOSE_DELAY (R331): VDELAY after the wet decision the branch valve is forced closed. -/
def execValveCloseDelay (s : State) : Out :=
  if s.flag F.CIO_LEAK_STAT_LATCH then .next (s.wr F.CIO_LEAK_STAT_VCLOSED 0 1).refreshValve else .next s

/-- LEAK_ACK (R332): the latch clears once everything has been dry for 10 s; an earlier write has no effect. -/
def execLeakAck (s : State) : Out :=
  match s.cio.dryAt with
  | some t =>
    if s.flag F.CIO_LEAK_STAT_LATCH ∧ t + 10000000000 ≤ s.up then
      let s1 := ((s.wr F.CIO_STAT_LEAK 0 0).wr F.CIO_LEAK_STAT_LATCH 0 0).wr F.CIO_LEAK_STAT_VCLOSED 0 0
      .next ((s1.refreshValve.alarm 5).requestCompute)
    else .next s
  | none => .next s

/-! ### Digital inputs and outputs (R326 to R329) -/

/-- A wake input becomes active (R327): the third time in 10 s it is masked. -/
def State.wakeInput (s : State) (d : Nat) : State :=
  if (s.rd F.CIO_DI_STAT_STUCK).testBit d then s
  else
    let l := s.up :: (Assoc.get [] s.cio.wakes d).filter fun t => s.up ≤ t + 10000000000
    let s1 := s.modCio fun c => { c with wakes := Assoc.put c.wakes d (l.take 3) }
    if 3 ≤ l.length then
      ((s1.modCio fun c => { c with wakes := Assoc.erase c.wakes d }).wr F.CIO_DI_STAT_STUCK 0 (s1.rd F.CIO_DI_STAT_STUCK ||| 2 ^ d)).raiseFor
        F.CIO_CAUSE_DI_STUCK 0 d 2
    else s1.wakeEvent F.PWR_WAKE_SRC_WAKE_IN

/-- EMERG follows the emergency inputs (R328): when the last becomes inactive a notice record is written and compute may
start again. -/
def State.emergCheck (s : State) (d : Nat) : State :=
  if s.diActive 3 || !(s.flag F.CIO_STAT_EMERG) then s
  else ((s.wr F.CIO_STAT_EMERG 0 0).recordOpen 8 d 1).requestCompute

/-- The function of an input acts as the input becomes active. -/
def State.diAct (s : State) (d : Nat) : State :=
  match s.rd F.CIO_DI_CFG_FUNC d with
  | 1 => s.wakeInput d
  | 2 => ((s.leakResponse (8 + d)).wakeEvent F.PWR_WAKE_SRC_LEAK).dryCheck
  | 3 => (((s.wr F.CIO_STAT_EMERG 0 1).protect F.CIO_CAUSE_EMERG d false).quiesceNow).wakeEvent F.PWR_WAKE_SRC_LEAK
  | _ => s

/-- DI_CHANGE (R326): an input's level has held for its filter time. -/
def execDiChange (d : Fin 8) (high : Bool) (s : State) : Out :=
  let act := high == s.flag F.CIO_DI_CFG_POL d
  let m := s.rd F.CIO_DI_STAT_ACTIVE
  if m.testBit d = act then .next s
  else
    let s1 := s.wr F.CIO_DI_STAT_ACTIVE 0 (if act then m ||| 2 ^ d.val else m - 2 ^ d.val)
    .next (if act then s1.diAct d else (s1.emergCheck d).dryCheck)

/-- DI_STUCK_CLEAR (R327). -/
def execDiStuckClear (m : BitVec 8) (s : State) : Out :=
  .next (s.wr F.CIO_DI_STAT_STUCK 0 (s.rd F.CIO_DI_STAT_STUCK &&& (255 - m.toNat)))

/-- Whether open-drain output `o` sinks (R318, R329). -/
def State.doOn (s : State) (o : Nat) : Bool :=
  let f := bitsOf (s.reg .CIO_DO_CFG 0).toNat (4 * o) 2
  s.flag F.CIO_STAT_VPERI &&
    (if f = 0 then (s.reg .CIO_DO_CFG 0).getLsbD (4 * o + 2)
     else if f = 1 then s.evr.critAt.isSome
     else if f = 2 then s.flag F.CIO_LEAK_STAT_LATCH
     else (List.range 8).any fun c => s.rd F.CIO_PWM_STAT_WHY c ≠ 0)

end Sys2Proof.Machine
end

