-- ==== Sys2Proof/Machine/Cle.lean ====
section
/-! DEFINITION.  The coolant control engine (R286 to R314): the stage chain, profiles, faults, competition groups, the
gear ceiling, the repetitive controller, trace buffers and the default loops; and the step beacon (R109). -/

namespace Sys2Proof.Machine

/-! ### Slots -/

/-- A slot's bookkeeping. -/
def State.slot (s : State) (k : Nat) : Slot := Assoc.get {} s.cle.slots k

/-- Change a slot's bookkeeping. -/
def State.modSlot (s : State) (k : Nat) (f : Slot → Slot) : State :=
  { s with cle := { s.cle with slots := Assoc.put s.cle.slots k (f (s.slot k)) } }

/-- A control word of slot `k`. -/
def State.cw (s : State) (r : Reg) (k : Nat) : Rat := cwVal (s.reg r k)

/-- The control-word registers of a slot in the order of R313. -/
def slotWords : List Reg := [.CLE_SLOT_W_A, .CLE_SLOT_W_B, .CLE_SLOT_W_W, .CLE_SLOT_W_BAND, .CLE_SLOT_W_KP, .CLE_SLOT_W_KI, .CLE_SLOT_W_KD,
  .CLE_SLOT_W_DF, .CLE_SLOT_W_KT, .CLE_SLOT_W_KFF, .CLE_SLOT_W_BIAS, .CLE_SLOT_W_UMIN, .CLE_SLOT_W_UMAX, .CLE_SLOT_W_FE_LIM,
  .CLE_SLOT_W_SAFE, .CLE_SLOT_W_VLIM, .CLE_SLOT_W_ALIM, .CLE_SLOT_W_JLIM, .CLE_SLOT_W_GAIN, .CLE_SLOT_W_FORGET, .CLE_SLOT_W_LPF]

/-- The gain words whose writes are bumpless (R310). -/
def gainWords : List Reg := [.CLE_SLOT_W_KP, .CLE_SLOT_W_KI, .CLE_SLOT_W_KD, .CLE_SLOT_W_DF, .CLE_SLOT_W_KFF, .CLE_SLOT_W_BIAS]

/-- Whether a slot is enabled (R287). -/
def State.slotOn (s : State) (k : Nat) : Bool := s.flag F.CLE_SLOT_CFG_EN k

/-- A slot's destination. -/
def State.dst (s : State) (k : Nat) : Nat := s.rd F.CLE_SLOT_IO_DST k

/-- Whether this module is the active coordinator (R289, R343). -/
def State.holder (s : State) : Bool := s.rd F.ROW_CFG_ROLE ≠ 0 && s.rd F.ROW_STAT_STATE = 3

/-- Whether a slot is held without a fault (R296, R308, R344): a Clarn destination or a row slot off the coordinator, or the gear ceiling
while VCORE is off or compute quiesced. -/
def State.slotHeld (s : State) (k : Nat) : Bool :=
  (((0x80 ≤ s.dst k && s.dst k < 0xC0) || (s.reg .ROW_SLOTS 0).getLsbD k) && !s.holder) || (s.dst k = 0x10 && (!s.pwr.vcore || s.pwr.quiesce))

/-- Read and write a bit of CLE_SLOT_STAT. -/
def State.stat (s : State) (k : Nat) (f : Fld) (v : Bool) : State := s.wr f k (if v then 1 else 0)

/-! ### Set-point profiles (R293, R294) -/

/-- The set-point target: the power-cap slot follows 0.99 of the effective cap (R307), an inner slot of a cascade its
outer slot's output, any other slot its W. -/
def State.slotTarget (s : State) (k : Nat) : Rat :=
  if s.rd F.CLE_SLOT_CFG_ROLE k = 1 then 99 / 100 * (s.rd F.PWR_CAP_EFF_WATTS : Rat)
  else if s.driven (0x20 + k) then s.act (0x20 + k)
  else s.cw .CLE_SLOT_W_W k

/-- The largest value a control word holds. -/
def cwMax : Rat := 8388607 * pow2 105

/-- A limit of the profile; 0 acts as the largest control word. -/
def limOf (v : Rat) : Rat := if v = 0 then cwMax else |v|

/-- A square root at a resolution of 2^-32, whose last place is free where it is not exact (log entry 42). -/
def State.rootOff (s : State) (q : Rat) : Rat × State :=
  let n := (q * pow2 64).floor.toNat
  let r := isqrt n
  if (r : Rat) * r = q * pow2 64 then ((r : Rat) * pow2 (-32), s)
  else let d := s.freeNat 2; (((r + d.1 : Nat) : Rat) * pow2 (-32), d.2)

/-- Limit a value to a range. -/
def clampR (lo hi v : Rat) : Rat := min (max v lo) hi

/-- One sample of the profile from (w, v, a) toward `W`, with sample period `t` in seconds. -/
def State.profile (s : State) (k : Nat) (W t : Rat) : (Rat × Rat × Rat) × State :=
  let x := s.slot k
  let vl := |s.cw .CLE_SLOT_W_VLIM k|
  if vl = 0 then ((W, 0, 0), s)
  else
    let al := limOf (s.cw .CLE_SLOT_W_ALIM k)
    let jl := limOf (s.cw .CLE_SLOT_W_JLIM k)
    let d := W - x.w
    let root := s.rootOff (al ^ 4 / jl ^ 2 + 8 * al * |d|)
    let stop := (-(al ^ 2 / jl) + root.1) / 2
    let vdes := (if d < 0 then -1 else if 0 < d then 1 else 0) * min vl stop
    let ades := clampR (-al) al ((vdes - x.v) / t)
    let a := x.a + clampR (-(jl * t)) (jl * t) (ades - x.a)
    let v := clampR (-vl) vl (x.v + a * t)
    let reach := decide (d = 0) || decide (0 < d ∧ d ≤ v * t) || decide (d < 0 ∧ v * t ≤ d)
    (if reach then (W, 0, 0) else (x.w + v * t, v, a), root.2)

/-! ### Destinations and groups (R289, R298 to R301) -/

/-- The gear ceiling takes the resolved value through its quantiser (R301). -/
def State.quantCeil (s : State) (u : Rat) : State :=
  let c : Int := s.rd F.PWR_GEAR_STAT_CEIL
  let up := (u - 1 / 4).floor
  let dn := u.floor
  let n := if c < up then up else if dn < c then dn else c
  s.setCeil (max 0 (min 22 n)).toNat

/-- A resolved output reaches its destination; what forces the destination governs (R298, R300). -/
def State.driveDst (s : State) (dst : Nat) (u : Rat) : State :=
  let s1 := { s with cle := { s.cle with res := Assoc.put s.cle.res dst u } }
  if dst = 0 then s1
  else if dst < 5 then s1.driveAo (dst - 1) u
  else if 8 ≤ dst ∧ dst < 16 then s1.pwmEval (dst - 8)
  else if dst = 0x10 then (s1.quantCeil u).setAct dst u
  else s1.setAct dst ((s1.forceAt dst).getD u)

/-- Enabled members of a group, in slot order. -/
def State.members (s : State) (g : Nat) : List Nat :=
  (List.range 32).filter fun k => s.slotOn k && s.flag F.CLE_SLOT_CFG_GRPEN k && s.rd F.CLE_SLOT_CFG_GRP k = g

/-- The lowest clamped output of a list of slots; on a tie the lowest slot. -/
def State.lowest (s : State) (l : List Nat) : Option (Nat × Rat) :=
  l.foldl (fun (r : Option (Nat × Rat)) (k : Nat) => match r with
    | none => some (k, (s.slot k).uc)
    | some (j, u) => if (s.slot k).uc < u then some (k, (s.slot k).uc) else some (j, u)) none

/-- A trigger condition reaches the armed trace buffers of a kind whose slot is `k` (R306). -/
def State.traceTrig (s : State) (kind : Nat) (sel : Nat → Bool) : State :=
  ((List.range 4).filter fun b => s.rd F.CLE_TRC_STAT_STATE b = 1 && s.rd F.CLE_TRC_CFG_TRIG b = kind && sel (s.rd F.CLE_TRC_CFG_TSLOT b)).foldl
    (fun (s : State) (b : Nat) =>
      let x := Assoc.get ({} : Trace) s.cle.traces b
      let pre := 16 * s.rd F.CLE_TRC_CFG_PRE b
      let kept := x.data.drop (x.data.length - pre)
      let s1 := { s with cle := { s.cle with traces := Assoc.put s.cle.traces b { x with data := kept, left := 8192 - pre } } }
      (s1.wr F.CLE_TRC_STAT_STATE b 2).wr F.CLE_TRC_STAT_PRE_GOT b kept.length) s

/-- A group resolves (R298). -/
def State.resolveGroup (s : State) (g : Nat) : State :=
  let l := s.members g
  match s.lowest l with
  | none => s.wr F.CLE_GRP_STAT_ACTIVE g 0
  | some (w, u) =>
    let d := s.dst w
    let moved := s.rd F.CLE_GRP_STAT_WIN g ≠ w || !(s.flag F.CLE_GRP_STAT_ACTIVE g)
    let s1 := ((s.wr F.CLE_GRP_STAT_ACTIVE g 1).wr F.CLE_GRP_STAT_WIN g w).wr F.CLE_GRP_STAT_DST g d
    let s2 := l.foldl (fun (s : State) (k : Nat) => s.stat k F.CLE_SLOT_STAT_WINNING (k = w)) s1
    let s3 := if moved then (if d = 0x10 then s2.raiseFor F.CLE_CAUSE_WIN 0 g 0 [wd w] else s2).traceTrig 5 fun t =>
      l.elem t else s2
    s3.driveDst d u

/-- A slot's clamped output goes to its group, or to its destination. -/
def State.resolve (s : State) (k : Nat) : State :=
  if s.flag F.CLE_SLOT_CFG_GRPEN k then s.resolveGroup (s.rd F.CLE_SLOT_CFG_GRP k) else s.driveDst (s.dst k) (s.slot k).uc

/-- What was applied for a slot (R292, R299, R300). -/
def State.applied (s : State) (k : Nat) : Rat :=
  let d := s.dst k
  if d = 0 then (s.slot k).uc
  else if s.flag F.CLE_SLOT_CFG_GRPEN k || (s.forceAt d).isSome then s.act d
  else (s.slot k).uc

/-! ### The repetitive controller (R302, R303) -/

/-- The period lies in a slot's range. -/
def State.repRange (s : State) (k : Nat) : Bool :=
  let t : Rat := s.rd F.CLE_SLOT_CFG_PERIOD k * 50000
  decide (s.cle.repP ≠ 0 ∧ 32 * t ≤ s.cle.repP ∧ s.cle.repP ≤ 600000000000)

/-- The bin of a sample taken now. -/
def State.repBin (s : State) : Nat :=
  match s.cle.lastBeat with
  | some b => if s.cle.repP = 0 then 0 else min 255 (256 * ((s.timeBase.toNat : Rat) - b) / s.cle.repP).floor.toNat
  | none => 0

/-- Output of the repetitive stage. -/
def State.repOut (s : State) (k : Nat) : Rat :=
  if s.flag F.CLE_SLOT_CFG_REPEN k && s.repRange k then
    let b := (s.repBin + s.rd F.CLE_SLOT_REP_LEAD k) % 256
    ((s.slot k).fade : Rat) / 16 * cwVal (Assoc.get 0 (s.slot k).q b)
  else 0

/-- Learning and fading at a sample. -/
def State.repLearn (s : State) (k : Nat) (e : Rat) : State :=
  if !(s.flag F.CLE_SLOT_CFG_REPEN k) then s
  else
    let lock := s.flag F.CLE_REP_STAT_LOCK
    let s1 := s.stat k F.CLE_SLOT_STAT_REP_RANGE (!(s.repRange k))
    let s2 := if lock && !(s.flag F.CLE_SLOT_REP_FREEZE k) && s.repRange k then
        let b := s.repBin
        let v := s.cw .CLE_SLOT_W_FORGET k * cwVal (Assoc.get 0 (s.slot k).q b) + s.cw .CLE_SLOT_W_GAIN k * e
        s1.modSlot k fun x => { x with q := Assoc.set 0 x.q b (cwOf v) }
      else s1
    s2.modSlot k fun x => { x with fade := if lock then min 16 (x.fade + 1) else x.fade - 1 }

/-- Every bin of a slot's table is smoothed once (R303). -/
def State.repSmooth (s : State) (k : Nat) : State :=
  if s.flag F.CLE_SLOT_CFG_REPEN k && !(s.flag F.CLE_SLOT_REP_FREEZE k) then
    let q := (s.slot k).q
    let at_ := fun (i : Nat) => cwVal (Assoc.get 0 q (i % 256))
    let l := s.cw .CLE_SLOT_W_LPF k
    let new := (List.range 256).foldl (fun (m : List (Nat × Word)) (i : Nat) =>
      Assoc.set 0 m i (cwOf ((1 - l) * at_ i + l / 2 * (at_ (i + 255) + at_ (i + 1))))) []
    s.modSlot k fun x => { x with q := new }
  else s

/-- Lock takes a value; every change raises REP_LOCK. -/
def State.setLock (s : State) (v : Bool) : State :=
  if s.flag F.CLE_REP_STAT_LOCK = v then s else (s.wr F.CLE_REP_STAT_LOCK 0 (if v then 1 else 0)).raise F.CLE_CAUSE_REP_LOCK

/-- A beacon of the chosen partition reaches the engine (R109, R302): its time, of the time base, and its AUX. -/
def State.cleBeacon (s : State) (t aux : Nat) : State :=
  let l := t :: s.beats.take 8
  let iv := (l.zip l.tail).map fun (x : Nat × Nat) => (x.1 : Rat) - x.2
  let s1 : State := { s with beats := l, cle := { s.cle with lastBeat := some t, beatAux := aux } }
  let s2 := if iv.length = 8 then
      let p := iv.sum / 8
      let a := ({ s1 with cle := { s1.cle with repP := p } }).roundNat 30 (p / 1000)
      (a.2.wr F.CLE_REP_STAT_PERIOD 0 a.1).setLock (iv.all fun i => decide (p * 7 / 8 ≤ i ∧ i ≤ p * 9 / 8))
    else s1
  (List.range 32).foldl (fun (s : State) (k : Nat) => s.repSmooth k) s2

/-- REP_BEACON_TIMEOUT (R302): no beacon within 1.5 × P. -/
def execRepBeaconTimeout (s : State) : Out := .next (s.setLock false)

/-- BEACON (R109): a step beacon in stream 0 of slot 0, stamped with the time base, goes with its AUX to the relaxation logic,
and to the control engine where the policy lets it; in any other stream it is a NOP. -/
def execBeacon (p : Fin 68) (e : Fin 16) (i : EngInstr) (s : State) : Out :=
  runEng p e 0x22 i [] (fun (s : State) =>
    match s.partOf p with
    | some n =>
      if e.val = 0 && (s.slotPhys n 0 == some p.val) then
        let t := s.timeBase.toNat
        let s1 := (s.modPart n fun q => { q with beacon := some (t, i.aux.toNat) }).relaxAt n
        if (s1.part n).beaconOn && s1.flag F.CLE_REP_SRC_EN && s1.rd F.CLE_REP_SRC_PART = n then s1.cleBeacon t i.aux.toNat else s1
      else s
    | none => s) s

/-! ### One sample of a slot (R292, R295 to R297) -/

/-- A word of the trace nodes (R305). -/
def State.slotNodes (s : State) (k : Nat) (raw y w e p d r f u : Rat) : List Word :=
  let x := s.slot k
  let g := s.rd F.CLE_SLOT_CFG_GRP k
  [cwOf raw, cwOf y, cwOf w, cwOf e, cwOf p, cwOf x.integ, cwOf d, cwOf r, cwOf f, cwOf u, cwOf x.uc, cwOf (s.applied k), cwOf x.v,
    cwInt s.repBin, cwInt ((s.reg .CLE_SLOT_STAT k).toNat % 65536),
    cwOf ((if s.flag F.CLE_SLOT_CFG_GRPEN k then s.rd F.CLE_GRP_STAT_WIN g else k : Nat) : Rat)]

/-- What the sum is made of besides the integrator, with gains `w` in the order of `gainWords`, and the gains' own
increment of the integrator: (p, D, f, BIAS, increment). -/
def State.gainTerms (s : State) (k : Nat) (w : List Word) (e y ff : Rat) : Rat × Rat × Rat × Rat × Rat × Bool :=
  let c := fun (i : Nat) => cwVal (getAt 0 w i)
  let x := s.slot k
  let sd : Rat := if s.flag F.CLE_SLOT_CFG_DIR k then -1 else 1
  let p := oneRound (c 0 * e)
  let d := oneRound (c 3 * x.d + c 2 * sd * ((x.y).getD y - y))
  let f := oneRound (c 4 * ff)
  let kt := max 0 (min 1 (s.cw .CLE_SLOT_W_KT k))
  (p.1, d.1, f.1, c 5, c 1 * e + kt * (s.applied k - x.uPrev), p.2 || d.2 || f.2)

/-- The integrator takes an exact value: rounded to its block, with what is below the last place kept as a residue of
24 bits. -/
def integAt (v : Rat) : Rat × Rat × Bool :=
  let r := oneRound v
  let lsb := match blockExp [v] with
    | some x => pow2 ((x : Int) - 150)
    | none => pow2 105
  (r.1, if r.2 then 0 else (rneInt ((v - r.1) / lsb * pow2 24) : Rat) * lsb * pow2 (-24), r.2)

/-- A slot faults (R295). -/
def State.slotFault (s : State) (k : Nat) : State :=
  if (s.reg .CLE_SLOT_FAULT 0).getLsbD k then s
  else
    let s1 := (s.setReg .CLE_SLOT_FAULT 0 (s.reg .CLE_SLOT_FAULT 0 ||| BitVec.ofNat 32 (2 ^ k))).stat k F.CLE_SLOT_STAT_FAULT true
    (s1.raiseFor F.CLE_CAUSE_FAULT 0 k 2).traceTrig 4 fun t => t = k

/-- Whether a slot is stopped by its fault (FACT is not ALARM). -/
def State.faultStops (s : State) (k : Nat) : Bool := (s.reg .CLE_SLOT_FAULT 0).getLsbD k && s.rd F.CLE_SLOT_CFG_FACT k ≠ 0

/-- The output of a slot that does not compute: SAFE, or what it was. -/
def State.stoppedOut (s : State) (k : Nat) (safe : Bool) : State :=
  if safe then s.modSlot k fun x => { x with uc := s.cw .CLE_SLOT_W_SAFE k } else s

/-- A pair source on one sensor, or not (R297): the flag and CLE_SLOT_DEGR. -/
def State.showDegraded (s : State) (k : Nat) (v : Bool) : State :=
  let m := BitVec.ofNat 32 (2 ^ k)
  (s.stat k F.CLE_SLOT_STAT_DEGRADED v).setReg .CLE_SLOT_DEGR 0 (if v then s.reg .CLE_SLOT_DEGR 0 ||| m else s.reg .CLE_SLOT_DEGR 0 &&& ~~~m)

/-- A sample while the source is invalid (R296): INPUT_LOST once per loss, the output held or safe.  A slot held for another
reason drives nothing.  Of the trace nodes, the output, what is applied, the bin, the status and the winner go on (log entry 90). -/
def State.sampleLost (s : State) (k : Nat) : State :=
  let held := s.slotHeld k
  let forced := (s.forceAt (s.dst k)).isSome
  let s1 := ((((s.showDegraded k false).stat k F.CLE_SLOT_STAT_INVALID true).stat k F.CLE_SLOT_STAT_RUN false).stat k F.CLE_SLOT_STAT_HELD
    held).stat k F.CLE_SLOT_STAT_FORCED forced
  let s2 := if (s1.slot k).lost then s1 else (s1.modSlot k fun x => { x with lost := true }).raiseFor F.CLE_CAUSE_INPUT_LOST 0 k
  let s3 := s2.stoppedOut k (s2.rd F.CLE_SLOT_CFG_FACT k = 2)
  let s4 := if held then s3 else s3.resolve k
  let new := s4.slotNodes k 0 0 0 0 0 0 0 0 0
  s4.modSlot k fun x => { x with nodes := (List.range 16).map fun i => getAt 0 (if i < 10 ∨ i = 12 then x.nodes else new) i }

/-- The stage chain on a valid raw input. -/
def State.sampleRun (s : State) (k : Nat) (raw : Rat) : State :=
  let x := s.slot k
  let t : Rat := (s.rd F.CLE_SLOT_CFG_PERIOD k : Rat) * 50 / 1000000
  let back := x.lost
  let yx := s.cw .CLE_SLOT_W_A k * raw + s.cw .CLE_SLOT_W_B k
  let W := s.slotTarget k
  let degr := (s.rd F.CLE_SLOT_IO_SRC k = 0x18 && s.pairDegraded 0) || (s.rd F.CLE_SLOT_IO_SRC k = 0x19 && s.pairDegraded 1)
  let stopped := s.faultStops k
  let fresh := x.start || back
  let s1 := if fresh then s.modSlot k fun x => { x with w := if s.cw .CLE_SLOT_W_VLIM k = 0 then W else yx, v := 0, a := 0, start := false } else s
  let pr := if fresh || stopped then (((s1.slot k).w, (s1.slot k).v, (s1.slot k).a), s1) else s1.profile k W t
  let w := pr.1.1
  let s2 := pr.2.modSlot k fun x => { x with w := w, v := pr.1.2.1, a := pr.1.2.2 }
  let was := s2.flag F.CLE_SLOT_STAT_DEGRADED k
  let s3 := s2.showDegraded k degr
  let s4 := if degr && !was then s3.raiseFor F.CLE_CAUSE_DEGRADED 0 k 1 else s3
  let b1 := blockRound [yx, if degr then w + s.cw .CLE_SLOT_W_BAND k else w]
  let y := getAt 0 b1.1 0
  let we := getAt 0 b1.1 1
  let er := oneRound (if s4.flag F.CLE_SLOT_CFG_DIR k then y - we else we - y)
  let e := er.1
  let ff := if s4.rd F.CLE_SLOT_IO_FFSRC k = 0xFF then 0 else (s4.source (s4.rd F.CLE_SLOT_IO_FFSRC k)).getD 0
  let rr := oneRound (s4.repOut k)
  let r := rr.1
  let now := gainWords.map fun g => s4.reg g k
  let g := s4.gainTerms k now e y ff
  let x4 := s4.slot k
  let held := s4.slotHeld k
  let wasHeld := s4.flag F.CLE_SLOT_STAT_HELD k
  let forced := (s4.forceAt (s4.dst k)).isSome
  let goal : Option Rat :=
    if wasHeld && !held then some (if s4.dst k = 0x10 then (s4.rd F.PWR_GEAR_STAT_CEIL : Rat) else s4.act (s4.dst k))
    else if back || (x4.forced && !forced) then some (s4.applied k)
    else x4.match_
  let others := g.1 + g.2.1 + r + g.2.2.1 + g.2.2.2.1
  let old : Option Rat := x4.old.map fun l =>
    let h := s4.gainTerms k l e y ff
    let i := integAt (x4.integ + x4.resid + h.2.2.2.2.1)
    (oneRound (h.1 + i.1 + h.2.1 + r + h.2.2.1 + h.2.2.2.1)).1
  let frozen := stopped || held
  let iv := match goal, old with
    | some u, _ => integAt (u - others)
    | none, some u => integAt (u - others)
    | none, none => integAt (x4.integ + x4.resid + g.2.2.2.2.1)
  let I := if frozen then (x4.integ, x4.resid, false) else iv
  let u := oneRound (others + I.1)
  let uc := min (max u.1 (s4.cw .CLE_SLOT_W_UMIN k)) (s4.cw .CLE_SLOT_W_UMAX k)
  let ovf := !frozen && (b1.2 || er.2 || rr.2 || g.2.2.2.2.2 || I.2.2 || u.2)
  let out := if frozen then x4.uc else uc
  let s5 := s4.modSlot k fun x => { x with
    integ := I.1, resid := I.2.1, d := if frozen then x.d else g.2.1, e := e, y := some y, uPrev := out, uc := out
    match_ := none, old := none, forced := forced, lost := false }
  let s6 := ((((s5.stat k F.CLE_SLOT_STAT_INVALID false).stat k F.CLE_SLOT_STAT_RUN (!frozen)).stat k F.CLE_SLOT_STAT_HELD held).stat k
    F.CLE_SLOT_STAT_MOVING (w ≠ W || pr.1.2.1 ≠ 0)).stat k F.CLE_SLOT_STAT_OVF ovf
  let s7 := if ovf then s6.raiseFor F.CLE_CAUSE_OVF 0 k else s6
  let lim := s7.cw .CLE_SLOT_W_FE_LIM k
  let n := if lim ≠ 0 && decide (lim < |e|) then satInc 16 (if back then 0 else s7.rd F.CLE_SLOT_STAT_FE_COUNT k) else 0
  let s8 := s7.wr F.CLE_SLOT_STAT_FE_COUNT k n
  let s9 := if max 1 (s8.rd F.CLE_SLOT_FE_FE_TIME k) < n then s8.slotFault k else s8
  let s10 := (if s9.faultStops k then s9.stoppedOut k (s9.rd F.CLE_SLOT_CFG_FACT k = 2) else s9).stat k F.CLE_SLOT_STAT_FORCED forced
  let s11 := if frozen then s10 else s10.repLearn k e
  let s12 := if held then s11 else s11.resolve k
  s12.modSlot k fun x => { x with nodes := s12.slotNodes k raw y w e g.1 g.2.1 r g.2.2.1 u.1 }

/-- The applied output of a slot's group, or of the slot, shows in U and in the sources of the slots it holds for (R288, R313). -/
def State.showApplied (s : State) (k : Nat) : State :=
  let l := if s.flag F.CLE_SLOT_CFG_GRPEN k then s.members (s.rd F.CLE_SLOT_CFG_GRP k) else [k]
  l.foldl (fun (s : State) (m : Nat) =>
    let a := s.applied m
    let s1 := s.setReg .CLE_SLOT_U m (cwOf a)
    match Assoc.find s1.cio.reads (0x30 + m) with
    | some x => { s1 with cio := { s1.cio with reads := Assoc.put s1.cio.reads (0x30 + m) { x with v := a } } }
    | none => s1) s

/-- One sample: the power-cap slot first takes up caps (R285). -/
def State.sample (s0 : State) (k : Nat) : State :=
  let s := if s0.rd F.CLE_SLOT_CFG_ROLE k = 1 then s0.capSample else s0
  let s1 := match s.source (s.rd F.CLE_SLOT_IO_SRC k) with
    | some raw => s.sampleRun k raw
    | none => s.sampleLost k
  let s2 := (s1.setReg .CLE_SLOT_Y k (cwOf ((s1.slot k).y.getD 0))).setReg .CLE_SLOT_I k (cwOf (s1.slot k).integ)
  (s2.setRead (0x30 + k) (s2.applied k)).showApplied k

/-! ### Trace buffers (R305, R306) -/

/-- Node code `c` of the last samples. -/
def State.nodeWord (s : State) (c : Nat) : Word := getAt 0 (s.slot (c / 16)).nodes (c % 16)

/-- Recorded node `i` of buffer `b`. -/
def State.recNode (s : State) (b i : Nat) : Nat :=
  if i % 2 = 0 then s.rd F.CLE_TRC_NODE_NODE_LO (4 * b + i / 2) else s.rd F.CLE_TRC_NODE_NODE_HI (4 * b + i / 2)

/-- A buffer takes a sample, and looks for its trigger in node 0. -/
def State.traceTake (s : State) (b : Nat) : State :=
  let st := s.rd F.CLE_TRC_STAT_STATE b
  if st ≠ 1 ∧ st ≠ 2 then s
  else
    let x := Assoc.get ({} : Trace) s.cle.traces b
    let row := (List.range 8).map fun i => s.nodeWord (s.recNode b i)
    let v := cwVal (getAt 0 row 0)
    let put := fun (x : Trace) => ({ s with cle := { s.cle with traces := Assoc.put s.cle.traces b x } } : State)
    if st = 2 then
      let data := x.data ++ [row]
      let s1 := put { x with data := data, left := x.left - 1, last := some v }
      if x.left ≤ 1 then ((s1.wr F.CLE_TRC_STAT_STATE b 3).wr F.CLE_TRC_CFG_ARM b 0).raiseFor F.CLE_CAUSE_TRACE 0 b else s1
    else
      let data := x.data ++ [row]
      let s1 := put { x with data := data.drop (data.length - 8192), last := some v }
      let thr := cwVal (s.reg .CLE_TRC_THR b)
      let kind := s.rd F.CLE_TRC_CFG_TRIG b
      let hit := (kind = 1 && decide (thr < v)) || (kind = 2 && decide (v < thr)) ||
        (kind = 3 && (match x.last with
          | some l => decide (l ≤ thr ∧ thr < v)
          | none => false))
      if hit then
        let pre := 16 * s1.rd F.CLE_TRC_CFG_PRE b
        let y := Assoc.get ({} : Trace) s1.cle.traces b
        let kept := y.data.drop (y.data.length - pre)
        let s2 := { s1 with cle := { s1.cle with traces := Assoc.put s1.cle.traces b { y with data := kept, left := 8192 - pre } } }
        (s2.wr F.CLE_TRC_STAT_STATE b 2).wr F.CLE_TRC_STAT_PRE_GOT b kept.length
      else s1

/-- TRACE_ARM (R306): recording starts. -/
def execTraceArm (b : Fin 4) (s : State) : Out :=
  let s1 := { s with cle := { s.cle with traces := Assoc.put s.cle.traces b.val {} } }
  .next (((s1.wr F.CLE_TRC_CFG_ARM b 1).wr F.CLE_TRC_STAT_STATE b 1).wr F.CLE_TRC_STAT_PRE_GOT b 0)

/-- TRACE_FIRE (R306): the software trigger. -/
def execTraceFire (b : Fin 4) (s : State) : Out :=
  if s.rd F.CLE_TRC_CFG_TRIG b = 0 ∧ s.rd F.CLE_TRC_STAT_STATE b = 1 then
    let x := Assoc.get ({} : Trace) s.cle.traces b.val
    let pre := 16 * s.rd F.CLE_TRC_CFG_PRE b
    let kept := x.data.drop (x.data.length - pre)
    let s1 := { s with cle := { s.cle with traces := Assoc.put s.cle.traces b.val { x with data := kept, left := 8192 - pre } } }
    .next ((s1.wr F.CLE_TRC_STAT_STATE b 2).wr F.CLE_TRC_STAT_PRE_GOT b kept.length)
  else .next s

/-- The word a read of CLE_TRC_DATA returns; 0 while the buffer records. -/
def State.traceWord (s : State) (b : Nat) : Word :=
  let st := s.rd F.CLE_TRC_STAT_STATE b
  if st = 1 ∨ st = 2 then 0
  else getAt 0 (getAt [] (Assoc.get ({} : Trace) s.cle.traces b).data (s.rd F.CLE_TRC_CUR_SAMPLE b)) (s.rd F.CLE_TRC_CUR_NODE b)

/-- A read of CLE_TRC_DATA moves the cursor: the node first, then the sample. -/
def State.traceAdvance (s : State) (b : Nat) : State :=
  let st := s.rd F.CLE_TRC_STAT_STATE b
  if st = 1 ∨ st = 2 then s
  else
    let n := s.rd F.CLE_TRC_CUR_NODE b
    if n < 7 then s.wr F.CLE_TRC_CUR_NODE b (n + 1)
    else (s.wr F.CLE_TRC_CUR_NODE b 0).wr F.CLE_TRC_CUR_SAMPLE b ((s.rd F.CLE_TRC_CUR_SAMPLE b + 1) % 8192)

/-- TRACE_DATA_READ (R306). -/
def execTraceDataRead (b : Fin 4) (master : BitVec 10) (s : State) : Out :=
  .next ((s.traceAdvance b).emit (.readData master.toNat [s.traceWord b]))

/-! ### Writes (R287, R289, R295, R298, R310, R314) -/

/-- SLOT_FAULT_CLEAR (R295): a fault clears only with the error within FE_LIM and a valid source. -/
def execSlotFaultClear (w : Word) (s : State) : Out :=
  let l := (List.range 32).filter fun k => w.getLsbD k && (s.reg .CLE_SLOT_FAULT 0).getLsbD k &&
    decide (|(s.slot k).e| ≤ s.cw .CLE_SLOT_W_FE_LIM k) && (s.source (s.rd F.CLE_SLOT_IO_SRC k)).isSome
  .next (l.foldl (fun (s : State) (k : Nat) =>
    let s1 := ((s.setReg .CLE_SLOT_FAULT 0 (s.reg .CLE_SLOT_FAULT 0 &&& ~~~(BitVec.ofNat 32 (2 ^ k)))).stat k F.CLE_SLOT_STAT_FAULT false).wr
      F.CLE_SLOT_STAT_FE_COUNT k 0
    s1.modSlot k fun x => { x with match_ := some (s1.applied k), start := true }) s)

/-- Whether slot `k` may be enabled with configuration word `w` (R287, R289, R298, R313). -/
def State.mayEnable (s : State) (k : Nat) (w : Word) : Bool :=
  let p := fieldOf w F.CLE_SLOT_CFG_PERIOD
  let grp := fieldOf w F.CLE_SLOT_CFG_GRPEN = 1
  let g := fieldOf w F.CLE_SLOT_CFG_GRP
  let d := s.dst k
  let mates := (s.members g).filter fun j => j ≠ k
  let sameDst := (s.drivers d).filter fun j => j ≠ k
  let shortest := (mates.map fun j => s.rd F.CLE_SLOT_CFG_PERIOD j).foldl min p
  1 ≤ p && p ≤ 200000 &&
    (d = 0 || sameDst.all fun j => grp && mates.elem j) &&
    (!grp || (mates.all fun j => s.dst j = d) && (p :: mates.map fun j => s.rd F.CLE_SLOT_CFG_PERIOD j).all fun q => q % shortest = 0)

/-- A write of CLE_SLOT_CFG (R287, R289, R298, R310). -/
def State.writeSlotCfg (s : State) (k : Nat) (w0 : Word) : State :=
  let old := s.reg .CLE_SLOT_CFG k
  let w := w0 &&& Reg.accMask .CLE_SLOT_CFG .RW
  let err := fun (s : State) => s.raise F.CLE_CAUSE_CFGERR
  let wasOn := fieldOf old F.CLE_SLOT_CFG_EN = 1
  let on := fieldOf w F.CLE_SLOT_CFG_EN = 1
  let cap := fieldOf old F.CLE_SLOT_CFG_ROLE = 1
  let second := fieldOf w F.CLE_SLOT_CFG_ROLE = 1 && (List.range 32).any fun j => j ≠ k && s.rd F.CLE_SLOT_CFG_ROLE j = 1
  if (cap && wasOn && !on) || second then err s
  else if wasOn then
    let fs := [F.CLE_SLOT_CFG_DIR, F.CLE_SLOT_CFG_GRP, F.CLE_SLOT_CFG_GRPEN, F.CLE_SLOT_CFG_ROLE, F.CLE_SLOT_CFG_PERIOD]
    let bad := fs.any fun f => fieldOf old f ≠ fieldOf w f
    let kept := fs.foldl (fun (x : Word) (f : Fld) => setField x f (fieldOf old f)) w
    let s1 := s.setReg .CLE_SLOT_CFG k kept
    let s2 := if bad then err s1 else s1
    if on then s2
    else
      let s3 := ((s2.stat k F.CLE_SLOT_STAT_RUN false).stat k F.CLE_SLOT_STAT_WINNING false)
      if fieldOf old F.CLE_SLOT_CFG_GRPEN = 1 then s3.resolveGroup (fieldOf old F.CLE_SLOT_CFG_GRP) else s3
  else if on then
    if s.mayEnable k w then
      (s.setReg .CLE_SLOT_CFG k w).modSlot k fun x => { x with
        start := true, integ := 0, resid := 0, d := 0, y := none, uc := s.act (s.dst k), uPrev := s.act (s.dst k), old := none, match_ := none }
    else err (s.setReg .CLE_SLOT_CFG k (setField w F.CLE_SLOT_CFG_EN 0))
  else s.setReg .CLE_SLOT_CFG k w

/-- SLOT_CFG_WRITE. -/
def execSlotCfgWrite (k : Fin 32) (w : Word) (s : State) : Out := .next (s.writeSlotCfg k w)

/-- A write of CLE_SLOT_IO: ignored with CFGERR while the slot is enabled (R310). -/
def State.writeSlotIo (s : State) (k : Nat) (w : Word) : State :=
  let new := w &&& Reg.accMask .CLE_SLOT_IO .RW
  if s.slotOn k then (if new = s.reg .CLE_SLOT_IO k then s else s.raise F.CLE_CAUSE_CFGERR) else s.setReg .CLE_SLOT_IO k new

/-- A write of a control word of a slot: a gain takes effect at the next sample without a bump (R310). -/
def State.writeSlotWord (s : State) (r : Reg) (k : Nat) (w : Word) : State :=
  if gainWords.elem r then
    (s.modSlot k fun x => { x with old := match x.old with
      | some l => some l
      | none => some (gainWords.map fun g => s.reg g k) }).setReg r k w
  else s.setReg r k w

/-- SLOT_COEFF_WRITE (R310): control word `j` of R313's order. -/
def execSlotCoeffWrite (k : Fin 32) (j : Fin 21) (w : Word) (s : State) : Out :=
  .next (s.writeSlotWord (getAt .CLE_SLOT_W_A slotWords j) k w)

/-- A write of a repetitive table entry (R314). -/
def State.writeRep (s : State) (k i : Nat) (w : Word) : State :=
  if s.flag F.CLE_SLOT_CFG_REPEN k && !(s.flag F.CLE_SLOT_REP_FREEZE k) then s.raise F.CLE_CAUSE_CFGERR
  else s.modSlot k fun x => { x with q := Assoc.set 0 x.q i w }

/-- REP_TABLE_WRITE. -/
def execRepTableWrite (k : Fin 32) (i : BitVec 8) (w : Word) (s : State) : Out := .next (s.writeRep k i.toNat w)

/-- A write of CLE_TRC_CFG (R306, R314): but for ARM and FIRE it is ignored while the buffer records. -/
def State.writeTrcCfg (s : State) (b : Nat) (w : Word) : State :=
  let st := s.rd F.CLE_TRC_STAT_STATE b
  let s1 := if st = 1 ∨ st = 2 then s
    else s.setReg .CLE_TRC_CFG b ((w &&& Reg.accMask .CLE_TRC_CFG .RW) ||| (s.reg .CLE_TRC_CFG b &&& 0x80000000))
  let s2 := if w.getLsbD 31 then (match execTraceArm (Fin.ofNat 4 b) s1 with
    | .next t => t
    | _ => s1) else s1
  if w.getLsbD 30 then (match execTraceFire (Fin.ofNat 4 b) s2 with
    | .next t => t
    | _ => s2) else s2

/-! ### Default loops and the start (R307, R308, R309) -/

/-- A default loop: slot, group, DIR, source, feed-forward, destination, period in ticks, role, REPEN, words by their
place in R313's order, LEAD, FE_TIME. -/
structure Loop where
  k : Nat
  g : Nat
  dir : Nat
  src : Nat
  ff : Nat
  dst : Nat
  period : Nat
  role : Nat
  rep : Nat
  words : List (Reg × Rat)
  lead : Nat
  fe : Nat
  deriving DecidableEq, Repr

/-- The loops of R307; scaling is A = 1, B = 0 (log entry 43). -/
def defaultLoops : List Loop :=
  [ { k := 0, g := 0, dir := 1, src := 0x19, ff := 0x28, dst := 1, period := 200, role := 0, rep := 1, lead := 8, fe := 6000
      words := [(.CLE_SLOT_W_A, 1), (.CLE_SLOT_W_W, 45), (.CLE_SLOT_W_BAND, -2), (.CLE_SLOT_W_KP, 8), (.CLE_SLOT_W_KI, 1 / 128),
        (.CLE_SLOT_W_KT, 1 / 4), (.CLE_SLOT_W_KFF, 1 / 100), (.CLE_SLOT_W_UMIN, 10), (.CLE_SLOT_W_UMAX, 100), (.CLE_SLOT_W_FE_LIM, 5),
        (.CLE_SLOT_W_GAIN, 1 / 20), (.CLE_SLOT_W_FORGET, 999 / 1000), (.CLE_SLOT_W_LPF, 1 / 4)] },
    { k := 1, g := 0, dir := 0, src := 0x1B, ff := 0xFF, dst := 1, period := 200, role := 0, rep := 0, lead := 0, fe := 0
      words := [(.CLE_SLOT_W_A, 1), (.CLE_SLOT_W_W, 400), (.CLE_SLOT_W_KP, 2), (.CLE_SLOT_W_KI, 1 / 20), (.CLE_SLOT_W_KT, 1 / 4),
        (.CLE_SLOT_W_UMIN, 10), (.CLE_SLOT_W_UMAX, 100)] },
    { k := 2, g := 0, dir := 0, src := 0x1C, ff := 0xFF, dst := 1, period := 200, role := 0, rep := 0, lead := 0, fe := 0
      words := [(.CLE_SLOT_W_A, 1), (.CLE_SLOT_W_W, 6), (.CLE_SLOT_W_KP, 20), (.CLE_SLOT_W_KI, 1 / 10), (.CLE_SLOT_W_KT, 1 / 4),
        (.CLE_SLOT_W_UMIN, 10), (.CLE_SLOT_W_UMAX, 100)] } ] ++
  [ { k := 3, g := 1, dir := 0, src := 0x29, ff := 0xFF, dst := 0x10, period := 20, role := 0, rep := 0, lead := 0, fe := 0
      words := [(.CLE_SLOT_W_A, 1), (.CLE_SLOT_W_W, 90), (.CLE_SLOT_W_KP, 1 / 2), (.CLE_SLOT_W_KI, 1 / 100), (.CLE_SLOT_W_KT, 1 / 2),
        (.CLE_SLOT_W_UMIN, 0), (.CLE_SLOT_W_UMAX, 22)] },
    { k := 4, g := 1, dir := 0, src := 0x19, ff := 0xFF, dst := 0x10, period := 2000, role := 0, rep := 0, lead := 0, fe := 0
      words := [(.CLE_SLOT_W_A, 1), (.CLE_SLOT_W_W, 58), (.CLE_SLOT_W_BAND, -2), (.CLE_SLOT_W_KP, 1 / 2), (.CLE_SLOT_W_KI, 8 / 10000),
        (.CLE_SLOT_W_KT, 1 / 2), (.CLE_SLOT_W_UMIN, 0), (.CLE_SLOT_W_UMAX, 22)] },
    { k := 5, g := 1, dir := 0, src := 0x28, ff := 0xFF, dst := 0x10, period := 10, role := 1, rep := 0, lead := 0, fe := 0
      words := [(.CLE_SLOT_W_A, 1), (.CLE_SLOT_W_KP, 2 / 1000), (.CLE_SLOT_W_KI, 2 / 10000), (.CLE_SLOT_W_KT, 1 / 2), (.CLE_SLOT_W_UMIN, 0),
        (.CLE_SLOT_W_UMAX, 22)] } ]

/-- Write a default loop. -/
def State.putLoop (s : State) (l : Loop) : State :=
  let s1 := l.words.foldl (fun (s : State) (x : Reg × Rat) => s.setReg x.1 l.k (cwOf x.2)) s
  let s2 := ((s1.wr F.CLE_SLOT_IO_SRC l.k l.src).wr F.CLE_SLOT_IO_FFSRC l.k l.ff).wr F.CLE_SLOT_IO_DST l.k l.dst
  let s3 := ((((s2.wr F.CLE_SLOT_CFG_PERIOD l.k l.period).wr F.CLE_SLOT_CFG_ROLE l.k l.role).wr F.CLE_SLOT_CFG_REPEN l.k l.rep).wr
    F.CLE_SLOT_CFG_GRPEN l.k 1).wr F.CLE_SLOT_CFG_GRP l.k l.g
  (((s3.wr F.CLE_SLOT_CFG_DIR l.k l.dir).wr F.CLE_SLOT_CFG_EN l.k 1).wr F.CLE_SLOT_FE_FE_TIME l.k l.fe).wr F.CLE_SLOT_REP_LEAD l.k l.lead

/-- Write loops, those of R307 or, in recovery, slots 0 to 2 of them (R439). -/
def State.loadLoops (s : State) (l : List Loop) : State := l.foldl State.putLoop s

/-- Start-up step 6 (R308): the engine computes, enabled slots start with their integrators at 0, the ceiling at level 7. -/
def State.startEngine (s : State) : State :=
  let s0 := ((s.wr F.CLE_CTL_EN 0 1).setCeil 7).setAct 0x10 7
  let s1 := if s0.pwr.vcore && !s0.pwr.quiesce then s0 else s0.holdGear
  ((List.range 32).filter fun k => s1.slotOn k).foldl (fun (s : State) (k : Nat) =>
    s.modSlot k fun x => { x with start := true, integ := 0, resid := 0, d := 0, y := none, uc := s.act (s.dst k), uPrev := s.act (s.dst k) }) s1

/-- On exit from Freewheel each slot restarts with its sum equal to the held output (R309). -/
def State.restartEngine (s : State) : State :=
  ((List.range 32).filter fun k => s.slotOn k).foldl (fun (s : State) (k : Nat) =>
    s.modSlot k fun x => { x with start := true, match_ := some (s.applied k), y := none }) s

end Sys2Proof.Machine
end

