-- ==== Sys2Proof/Machine/MeterPart.lean ====
section
/-! DEFINITION.  The sealed heat meter (R389 to R407): calculation, storage, sealing, M-Bus, the selvedge and the MTR
block. -/

namespace Sys2Proof.Machine

/-- Change the meter. -/
def State.modMeter (s : State) (f : Meter → Meter) : State := { s with meter := f s.meter }

/-- Flag bits, as in MTR_SNAP_STATUS. -/
abbrev mfTin : Nat := 1
abbrev mfTout : Nat := 2
abbrev mfFlow : Nat := 4
abbrev mfMedium : Nat := 8
abbrev mfRange : Nat := 16
abbrev mfPg25 : Nat := 32
abbrev mfSeal : Nat := 64
abbrev mfGap : Nat := 128
abbrev mfReverse : Nat := 256

/-- Put a flag in a mask. -/
def putFlag (m f : Nat) (on : Bool) : Nat := if on then m ||| f else m &&& (511 - f)

/-- An entry of the meter's log, a ring of 256 (R403). -/
def Meter.note (m : Meter) (code data : Nat) : Meter :=
  { m with log := (({ clock := m.clock / 1000, code := code, data := data } : MLog) :: m.log).take 256 }

/-! ### Calculation (R391 to R394) -/

/-- The heat coefficient for the meter's medium. -/
def Meter.k (m : Meter) (ti t : Rat) : Rat := if m.medium then Config.glycolK ti t else Config.waterK ti t

/-- The substitute energy of R394 in mWh; nothing where the table gives none. -/
def Meter.substitute (m : Meter) (f : Nat) (vol ti t : Rat) : Option Rat :=
  let a := f &&& mfTin ≠ 0
  let b := f &&& mfTout ≠ 0
  let fl := f &&& mfFlow ≠ 0
  let md := f &&& mfMedium ≠ 0
  if (a && b) || (fl && (a || b)) then some 0
  else if md && (a || b) then none
  else if a || b then some (vol * m.k 25 25 * m.lastDt)
  else some (m.lastVol * m.k ti t * (t - ti))

/-- Add to an accumulator that wraps at 10^9 kWh or 10^9 m³ (R395): 10^18 mWh, 10^15 mL. -/
def wrapAdd (lim a b : Nat) : Nat := (a + b) % lim

/-- METER_CALC (R391): the volume in mL, the flow in L/min and the mean temperatures of a quarter of a second, whether no
transit measurement has been valid for 2 s, and whether the speed of sound is more than 3 % off that of water. -/
def execMeterCalc (vol flow ti t : Rat) (noTransit soundOff : Bool) (s : State) : Out :=
  let m := s.meter
  if !m.running then .next (s.modMeter fun m => { m with errTime := m.errTime + 250, clock := m.clock + 250 })
  else
    let tinBad := decide (ti < -20 ∨ 150 < ti)
    let toutBad := decide (t < -20 ∨ 150 < t)
    let flowBad := noTransit || decide (10 < flow)
    let off := soundOff && !m.medium
    let mb := if off then min 240 (m.medBad + 1) else 0
    let mg := if off then 0 else min 240 (m.medGood + 1)
    let was := m.flags &&& mfMedium ≠ 0
    let med := !m.medium && (mb = 240 || (was && mg < 240))
    let f := (if tinBad then mfTin else 0) + (if toutBad then mfTout else 0) + (if flowBad then mfFlow else 0) + (if med then mfMedium else 0)
    let dT := t - ti
    let e := vol * m.k ti t * dT
    let row :=
      if f ≠ 0 then 2
      else if flow < 1 / 10 then 3
      else if dT ≤ 0 then 4
      else if m.medium then 5
      else if flow < 3 / 10 ∨ 8 < flow ∨ ti < 10 ∨ 70 < ti ∨ t < 10 ∨ 70 < t ∨ dT < 1 ∨ 50 < dT then 6
      else 7
    let sub : Nat × State := match m.substitute f vol ti t with
      | some x => let r := s.roundOff x; (r.1.toNat, r.2)
      | none => s.freeNat (2 ^ 32)
    let en := if row = 2 then sub else if 5 ≤ row then (let r := s.roundOff e; (r.1.toNat, r.2)) else (0, s)
    let v := en.2.roundOff vol
    let counts := row = 4 || row = 5 || row = 6 || row = 7 || (row = 2 && !flowBad)
    let rev := if row = 4 then min 240 (m.revRun + 1) else 0
    let flags := putFlag (putFlag (putFlag ((m.flags &&& (511 - 15)) ||| f) mfRange (row = 6)) mfReverse (rev = 240)) mfPg25 m.medium
    let erring := f ≠ 0
    let wasErr := m.flags &&& 15 ≠ 0
    let lim := 1000000000000000000
    let s1 := v.2.modMeter fun m => { m with
      legal := if row = 7 then wrapAdd lim m.legal en.1 else m.legal
      inform := if row = 5 || row = 6 then wrapAdd lim m.inform en.1 else m.inform
      err := if row = 2 then wrapAdd lim m.err en.1 else m.err
      volume := if counts then wrapAdd 1000000000000000 m.volume v.1.toNat else m.volume
      errTime := if row = 2 then m.errTime + 250 else m.errTime
      opTime := m.opTime + 250, clock := m.clock + 250
      lastDt := if erring then m.lastDt else dT
      lastVol := if erring then m.lastVol else vol
      flags := flags, revRun := rev, medBad := mb, medGood := mg
      flow := flow, tin := ti, tout := t, power := e * 144 / 10 }
    .next (if erring && !wasErr then s1.modMeter fun m => m.note 5 f
      else if !erring && wasErr then s1.modMeter fun m => m.note 6 0 else s1)

/-! ### Storage (R395) -/

/-- The registers a commit stores. -/
def Meter.registers (m : Meter) : List Nat := [m.legal, m.inform, m.err, m.volume, m.errTime, m.opTime]

/-- METER_COMMIT (R395): the commit ends with a close marker, unless power is lost before. -/
def execMeterCommit (marked : Bool) (s : State) : Out :=
  if s.meter.running then
    .next (s.modMeter fun m => if marked then { m with stored := m.registers, closed := true } else { m with closed := false })
  else .next s

/-- METER_SUPPLY_FAIL (R395): the registers are committed, and the meter stops. -/
def execMeterSupplyFail (s : State) : Out :=
  .next (s.modMeter fun m => ({ m with stored := m.registers, closed := true, running := false }).note 7 0)

/-- The meter starts on its supply (R395, R396): a commit without its marker is a POWER_GAP, and the loop is read. -/
def State.meterStart (s : State) : State :=
  if s.meter.running then s
  else s.modMeter fun m =>
    let m1 := { m with
      running := true
      legal := getAt 0 m.stored 0, inform := getAt 0 m.stored 1, err := getAt 0 m.stored 2
      volume := getAt 0 m.stored 3, errTime := getAt 0 m.stored 4, opTime := getAt 0 m.stored 5 }
    if m1.closed then m1 else ({ m1 with flags := m1.flags ||| mfGap }).note 8 0

/-! ### Sealing and changes (R396 to R398) -/

/-- SEAL_CHECK (R396): the loop is read; each opening sets SEAL_OPENED. -/
def execSealCheck (loopOpen : Bool) (s : State) : Out :=
  if loopOpen && !s.meter.loopOpen then
    .next (s.modMeter fun m => ({ m with loopOpen := true, flags := m.flags ||| mfSeal }).note 1 0)
  else if !loopOpen && s.meter.loopOpen then .next (s.modMeter fun m => ({ m with loopOpen := false }).note 2 0)
  else .next s

/-- An accepted change: the counter rises by 1 (R397), and the log takes it. -/
def Meter.changed (m : Meter) (code data : Nat) : Meter := ({ m with change := satInc 32 m.change }).note code data

/-- METER_FW_UPDATE (R398): with the loop open, the meter stops measuring while it takes an image, and runs it if the
signature verifies under the meter key; otherwise it goes on with the image it has. -/
def execMeterFwUpdate (u : MeterUpdate) (s : State) : Out :=
  match u with
  | .begin_ => .next (if s.meter.loopOpen then s.modMeter fun m => { m with running := false } else s)
  | .image ver body key sig =>
    if s.meter.running || !s.meter.loopOpen then .next s
    else
      let ok := Config.sha384 key = s.meter.fwKey ∧ Config.ecdsaVerify key (Config.sha384 body) sig = true
      .next (s.modMeter fun m =>
        let m1 := { m with running := true }
        if ok then ({ m1 with fwVer := ver, fwHash := Config.sha384 body }).changed 4 (ver.toNat % 65536) else m1)

/-! ### M-Bus (R399, R400) -/

/-- Whether a telegram addresses the meter (R399): its primary address, or 0xFD while it is selected (log entry 45). -/
def Meter.addressed (m : Meter) (a : Nat) : Bool := m.running && (a = m.addr || (a = 0xFD && m.selected))

/-- SND_NKE (R399): the link layer is reset, a selection ends, and the meter acknowledges. -/
def execSndNke (a : BitVec 8) (s : State) : Out :=
  if s.meter.addressed a.toNat then .next ((s.modMeter fun m => { m with selected := false }).emit .mbusAck) else .next s

/-- Present values rounded for a readout. -/
def State.roundAll (s : State) (l : List Rat) : List Int × State :=
  l.foldl (fun (r : List Int × State) (v : Rat) => let t := r.2.roundOff v; (r.1 ++ [t.1], t.2)) ([], s)

/-- REQ_UD2 (R400): the data records in the table's order. -/
def execReqUd2 (a : BitVec 8) (s : State) : Out :=
  let m := s.meter
  if m.addressed a.toNat then
    let v := s.roundAll [m.power, m.flow * 60, m.tin * 100, m.tout * 100, (m.tout - m.tin) * 100]
    let g := fun (i : Nat) => getAt (0 : Int) v.1 i
    let n := fun (x : Nat) => (x : Int)
    .next (v.2.emit (.rspUd ((if m.flags &&& 15 ≠ 0 then 1 else 0) + (if m.flags &&& (mfPg25 + mfSeal + mfGap) ≠ 0 then 2 else 0))
      [(0x03, n (m.legal / 1000)), (0x13, n (m.volume / 1000)), (0x03, n (m.inform / 1000)), (0x03, n (m.err / 1000)),
       (0x2B, g 0), (0x3B, g 1), (0x59, g 2), (0x5D, g 3), (0x61, g 4), (0x26, n (m.opTime / 3600000)), (0x22, n (m.errTime / 3600000)),
       (0xFD0E, n m.fwVer.toNat), (0xFF, n (leNat (m.fwHash.take 4))), (0xFF, n m.change)]))
  else .next s

/-- SND_UD (R397, R399): a selection or a write; sealed parameters change only with the loop open, and count. -/
def execSndUd (a : BitVec 8) (w : MbusWrite) (s : State) : Out :=
  let m := s.meter
  let sel := match w with
    | .select _ => decide (a.toNat = 0xFD) && m.running
    | _ => false
  if !(m.addressed a.toNat || sel) then .next s
  else
    let seal_ := fun (n : Nat) (f : Meter → Meter) => if m.loopOpen then s.modMeter fun m => (f m).changed 3 n else s
    let s1 := match w with
      | .select id => s.modMeter fun m => { m with selected := id = m.serial }
      | .medium b => seal_ 0 fun m => { m with medium := b }
      | .calibrate i x => seal_ 1 fun m => { m with cal := Assoc.set 0 m.cal i.toNat x }
      | .date d => seal_ 2 fun m => { m with verified := d.toNat }
      | .verify => seal_ 3 fun m => { m with flags := putFlag m.flags mfSeal false }
      | .address x => if 1 ≤ x.toNat ∧ x.toNat ≤ 250 then s.modMeter fun m => ({ m with addr := x.toNat }).note 10 x.toNat else s
      | .baud b => if b.toNat < 3 then s.modMeter fun m => ({ m with baud := b.toNat }).note 10 b.toNat else s
      | .clock t => s.modMeter fun m => ({ m with clock := t.toNat * 1000 }).note 9 0
    .next (if sel && !s1.meter.selected then s1 else s1.emit .mbusAck)

/-! ### The selvedge and the MTR block (R401 to R407) -/

/-- The status word of MTR_SNAP_STATUS. -/
def Meter.status (m : Meter) : Nat := m.flags % 512 + m.seq % 65536 * 65536

/-- SNAPSHOT (R401, R404): the meter's values come over the selvedge, are stamped, and feed sources 0x20 to 0x23;
in Off the meter sends to a block without supply (R395, R408). -/
def execSnapshot (s : State) : Out :=
  if !s.meter.running then .next s
  else
    let s0 := s.modMeter fun m => { m with seq := (m.seq + 1) % 65536 }
    if s0.boot.off then .next s0
    else
    let m := s0.meter
    let v := s0.roundAll [m.flow * 1000, m.tin * 100, m.tout * 100, m.power]
    let g := fun (i : Nat) => getAt (0 : Int) v.1 i
    let us := s0.timeBase.toNat / 1000
    let s1 := (((((v.2.wrS F.MTR_SNAP_FLOW_VALUE 0 (g 0)).wrS F.MTR_SNAP_TEMP_TIN 0 (g 1)).wrS F.MTR_SNAP_TEMP_TOUT 0 (g 2)).wrS
      F.MTR_SNAP_PWR_VALUE 0 (g 3)).setReg .MTR_SNAP_STATUS 0 (wd m.status)).setReg .MTR_SNAP_STAMP 0 (wd us)
    let s2 := (((s1.setRead 0x20 m.flow).setRead 0x21 m.tin).setRead 0x22 m.tout).setRead 0x23 m.power
    let s3 := (((s2.histPut 0x20 4 m.flow).histPut 0x21 4 m.tin).histPut 0x22 4 m.tout).wr F.MTR_STAT_REACH 0 1
    let s4 := if s3.mtrIf.unreach then ({ s3 with mtrIf := { s3.mtrIf with unreach := false } }).raise F.MTR_CAUSE_REACH 0 1 else s3
    let err := decide (m.flags &&& 15 ≠ 0)
    let s5 := if s4.flag F.MTR_STAT_ERRTIME = err then s4
      else (s4.wr F.MTR_STAT_ERRTIME 0 (if err then 1 else 0)).raise F.MTR_CAUSE_ERRTIME 0 (if err then 2 else 1)
    let opened := decide (m.flags &&& mfSeal ≠ 0)
    let s6 := (if opened && !(s5.flag F.MTR_STAT_SEAL_OPENED) then s5.raise F.MTR_CAUSE_SEAL 0 2 else s5).wr F.MTR_STAT_SEAL_OPENED 0
      (if opened then 1 else 0)
    let s7 := s6.wr F.MTR_STAT_MEDIUM 0 (if m.medium then 1 else 0)
    let diff := m.medium != s7.flag F.CIO_HB_CFG_FLUID
    let s8 := (if diff && !(s7.flag F.MTR_STAT_MEDIUM_DIFF) then s7.raise F.MTR_CAUSE_MEDIUM_DIFF 0 2 else s7).wr F.MTR_STAT_MEDIUM_DIFF 0
      (if diff then 1 else 0)
    .next s8.flowCheck

/-- METER_UNREACH (R404): no snapshot for 1 s. -/
def execMeterUnreach (s : State) : Out :=
  if s.flag F.MTR_STAT_REACH then
    .next ((({ s with mtrIf := { s.mtrIf with unreach := true } }).wr F.MTR_STAT_REACH 0 0).raise F.MTR_CAUSE_UNREACH 0 2)
  else .next s

/-- A request goes out (R406): ignored with CFGERR while one is in progress.  `ans` is what the meter answers. -/
def State.meterAsk (s : State) (code arg : Nat) (ans : Meter → State → List Word × State) : State :=
  if s.flag F.MTR_REQ_BUSY then s.raise F.MTR_CAUSE_CFGERR
  else
    let s1 := (((s.wr F.MTR_REQ_CODE 0 code).wr F.MTR_REQ_ARG 0 arg).wr F.MTR_REQ_GO 0 1).wr F.MTR_REQ_BUSY 0 1
    if s1.meter.running then
      let a := ans s1.meter s1
      { a.2 with mtrIf := { a.2.mtrIf with answer := some a.1 } }
    else { s1 with mtrIf := { s1.mtrIf with answer := none } }

/-- Answer of READ_ACC (R402). -/
def accWords (m : Meter) : List Word :=
  let two := fun (v : Nat) => [wd v, wd (v / 2 ^ 32)]
  two (m.legal / 1000) ++ two (m.volume / 1000) ++ two (m.inform / 1000) ++ two (m.err / 1000) ++
    [wd (m.errTime / 1000), wd (m.opTime / 3600000), wd m.status, wd (m.clock / 1000)]

/-- Answer of READ_ID (R402). -/
def idWords (m : Meter) : List Word :=
  [m.fwVer, wd m.change, m.serial] ++ (List.range 12).map fun i => wd (leNat ((m.fwHash.drop (4 * i)).take 4))

/-- READ_ACC (R402). -/
def execReadAcc (s : State) : Out := .next (s.meterAsk 1 0 fun m s => (accWords m, s))

/-- READ_ID (R402). -/
def execReadId (s : State) : Out := .next (s.meterAsk 2 0 fun m s => (idWords m, s))

/-- READ_LOG (R402): entry 0 is the newest; an entry that does not exist reads as free words. -/
def execReadLog (n : BitVec 8) (s : State) : Out :=
  .next (s.meterAsk 3 n.toNat fun m s => match m.log[n.toNat]? with
    | some x => ([wd x.clock, wd (x.code % 256 + x.data % 2 ^ 24 * 256)], s)
    | none => let a := s.freeNat (2 ^ 32); let b := a.2.freeNat (2 ^ 32); ([wd a.1, wd b.1], b.2))

/-- READ_PARAM (R402). -/
def execReadParam (s : State) : Out :=
  .next (s.meterAsk 4 0 fun m s => ([wd (if m.medium then 1 else 0), wd (m.addr % 256 + m.baud % 4 * 256), wd m.verified], s))

/-- A code that R402 does not list: the meter's decoder discards it and counts it (R401). -/
def State.meterAskBad (s : State) (code arg : Nat) : State :=
  if s.flag F.MTR_REQ_BUSY then s.raise F.MTR_CAUSE_CFGERR
  else
    let s1 := (((s.wr F.MTR_REQ_CODE 0 code).wr F.MTR_REQ_ARG 0 arg).wr F.MTR_REQ_GO 0 1).wr F.MTR_REQ_BUSY 0 1
    { s1 with meter := { s1.meter with badFrames := s1.meter.badFrames + 1 }, mtrIf := { s1.mtrIf with answer := none } }

/-- The request is over with a result. -/
def State.meterEnd (s : State) (r : Nat) : State :=
  let s1 := (({ s with mtrIf := { s.mtrIf with answer := none } }).wr F.MTR_REQ_BUSY 0 0).wr F.MTR_REQ_GO 0 0
  s1.wr F.MTR_REQ_RESULT 0 r

/-- A request without a valid answer: LINK, counted, no record (R404). -/
def State.meterLink (s : State) (r : Nat) : State :=
  ((s.meterEnd r).count F.MTR_LINK_CNT_COUNT 0).raiseBit F.MTR_CAUSE_LINK 0

/-- The change counter read at a power-up is compared with the one before (R404). -/
def State.changeSeen (s : State) (c : Nat) : State :=
  match s.mtrIf.thisChange with
  | some _ => s
  | none =>
    let s1 := { s with mtrIf := { s.mtrIf with thisChange := some c } }
    match s.mtrIf.prevChange with
    | some o => if o = c then s1 else s1.raise F.MTR_CAUSE_CHANGE 0 1 [wd o, wd c]
    | none => s1

/-- METER_ANSWER (R402, R407): an answer arrives, its CRC good or not. -/
def execMeterAnswer (crcOk : Bool) (s : State) : Out :=
  match s.mtrIf.answer with
  | none => .next s
  | some l =>
    if crcOk then
      let s1 := (l.zipIdx).foldl (fun (s : State) (x : Word × Nat) => s.setReg .MTR_RESP x.2 x.1) s
      let s2 := s1.meterEnd 0
      .next (if s.rd F.MTR_REQ_CODE = 2 then s2.changeSeen (getAt 0 l 1).toNat else s2)
    else .next (s.meterLink 2)

/-- METER_REQ_TIMEOUT (R406): no valid answer in 10 ms. -/
def execMeterReqTimeout (s : State) : Out :=
  if s.flag F.MTR_REQ_BUSY then .next (s.meterLink (if s.flag F.MTR_STAT_REACH then 1 else 3)) else .next s

/-- A write of MTR_REQ (R406). -/
def State.writeMtrReq (s : State) (w : Word) : State :=
  let code := fieldOf w F.MTR_REQ_CODE
  let arg := fieldOf w F.MTR_REQ_ARG
  if w.getLsbD 31 then
    let run := fun (o : Out) => match o with
      | .next t => t
      | _ => s
    if code = 1 ∧ arg = 0 then run (execReadAcc s) else if code = 2 ∧ arg = 0 then run (execReadId s)
    else if code = 3 then run (execReadLog (BitVec.ofNat 8 arg) s) else if code = 4 ∧ arg = 0 then run (execReadParam s)
    else s.meterAskBad code arg
  else (s.wr F.MTR_REQ_CODE 0 code).wr F.MTR_REQ_ARG 0 arg

end Sys2Proof.Machine
end

