-- ==== Sys2Proof/Machine/Security.lean ====
section
/-! DEFINITION.  The security core (R238 to R268): change records (R465), attestation, key delivery, claims, debug unlock,
the rollback counter, and writes of the access tables. -/

namespace Sys2Proof.Machine

/-! ### The change log (R465) -/

/-- Bytes 40 to 47 of a change record: free for HMP, whose client certificate no command carries (log entry 46), the
tray's address for I3C, 0 otherwise. -/
def State.originWords (s : State) (master : Nat) : List Word × State :=
  if 0x80 ≤ master ∧ master < 0x84 then
    let a := s.freeNat (2 ^ 32)
    let b := a.2.freeNat (2 ^ 32)
    ([wd a.1, wd b.1], b.2)
  else if master = 0x8C then ([wd (s.rd F.SYS_I3C_STAT_DYNADDR), 0], s)
  else ([0, 0], s)

/-- Enter a change record; nothing when its buffer is full: CHG_FULL is raised and the change is not to be made. -/
def State.logChange (s : State) (block inst addr : Nat) (old new : Word) (master : Nat) : State × Bool :=
  if 64 ≤ s.evr.chg.length then (s.raise F.REC_CAUSE_CHG_FULL, false)
  else
    let o := s.originWords master
    let s1 := o.2
    let r : Rec := {
      time := s1.timeBase.toNat, optime := s1.rd F.TIM_OPTIME_COUNT, cycles := s1.rd F.TIM_CYCLES_COUNT, seq := s1.evr.nextChg
      master := master, block := block, reg := 15, event := 0x80, inst := inst, sev := 1
      disc := s1.flag F.TIM_STAT_DISC, unset := s1.flag F.TIM_STAT_UNSET, data := [wd addr, old, new] ++ o.1 }
    let s2 := { s1 with evr := { s1.evr with nextChg := seqAfter s1.evr.nextChg, chg := s1.evr.chg ++ [r] } }
    (if 8 ≤ s2.evr.chg.length then s2.requestFlush else s2, true)

/-! ### Attestation (R246 to R249) -/

/-- Whole seconds of UTC. -/
def State.utc (s : State) : Nat := ((s.timeBase.toNat / 1000000000 : Nat) - s.rdS F.TIM_UTC_OFFSET).toNat

/-- Whether the time base has been set since power-up. -/
def State.timeKnown (s : State) : Bool := !(s.flag F.TIM_STAT_UNSET)

/-- Whether an attestation key is live (R247). -/
def State.akLive (s : State) (k : AttKey) : Bool :=
  decide (s.up < k.issued + 600000000000) && (match k.notAfter with
    | some t => !s.timeKnown || decide (s.utc ≤ t)
    | none => true)

/-- Whether the module is unclaimed (R244). -/
def State.unclaimed (s : State) : Bool := s.nv.opKeys = []

/-- The operator key hash: the highest written slot. -/
def State.opHash (s : State) : List Byte := (s.nv.opKeys.getLast?).getD []

/-- What an attestation certificate says (R247 to R249).  An unreachable meter's change counter is not known: the value is
free (log entry 10). -/
def State.attestFields (s : State) (serial pub nonce : List Byte) (meterUp : Bool) : AttestFields :=
  { serial := serial, pub := pub, nonce := nonce, issued := if s.timeKnown then some s.utc else none
    mfgCert := s.nv.cert, module := s.nv.serial
    fwVer := leAt s.sec.fw 8 4, svn := byteAt s.sec.fw 6, fwDigest := Config.sha384 (signedPart s.sec.fw)
    cfgVer := leAt s.sec.cfg 8 4, cfgDigest := Config.sha384 (signedPart s.sec.cfg)
    mtrVer := s.meter.fwVer.toNat, mtrDigest := s.meter.fwHash
    id := s.rd F.FAB_TR_ID_MODULE, peloton := s.rd F.FAB_TR_ID_PELOTON, opHash := s.opHash, rollback := s.nv.rollback
    change := if meterUp then s.meter.change else (s.freeNat (2 ^ 32)).1
    debug := s.flag F.SEC_STATE_DEBUG, unclaimed := s.unclaimed, meterUp := meterUp }

/-- Free bytes of a number (R240: drawn from the generator). -/
def State.draw (s : State) (n : Nat) : List Byte × State := s.freeBytes n

/-- ATTEST (R247): a fresh key in one of 8 places, and its certificate; `meterUp` says whether the meter answers in 5 ms. -/
def execAttest (x : HmpHead) (nonce : List Byte) (meterUp : Bool) (s : State) : Out :=
  hmpObj 4 x (fun s =>
    if nonce.length < 16 ∨ 64 < nonce.length then s.hmpSay x 4 2 []
    else
      let p := s.draw 48
      let q := p.2.draw 16
      let serial := match q.1 with
        | a :: t => (a &&& 0x7F) :: t
        | [] => []
      let pub := Config.publicKey p.1
      let s1 := q.2
      let up := meterUp && s1.meter.running
      let k : AttKey := {
        akid := keyId pub, nonce := nonce, priv := p.1, issued := s1.up
        notAfter := if s1.timeKnown then some (s1.utc + 600) else none }
      let live := s1.sec.aks.filter fun y => s1.akLive y
      let kept := if live.length < 8 then live else live.drop 1
      let s2 := ({ s1 with sec := { s1.sec with aks := kept ++ [k] } }).raise F.SEC_CAUSE_ATTEST
      ((s2.freeNat 1).2.hmpSay x 4 0 (attestCert (s2.sec.identity.getD []) (s2.attestFields serial pub nonce up)))) s

/-- ATTEST_KEY_EXPIRY (R247): the key in a place has reached its lifetime and is destroyed. -/
def execAttestKeyExpiry (i : Fin 8) (s : State) : Out := .next { s with sec := { s.sec with aks := s.sec.aks.eraseIdx i } }

/-- IDENTITY_CHAIN (R246). -/
def execIdentityChain (x : HmpHead) (s : State) : Out := hmpObj 3 x (fun s => s.hmpSay x 3 0 s.nv.cert) s

/-! ### Keys (R250 to R253) -/

/-- A refused delivery, revoke, claim, admission or unlock (R251, R252): a warning record and KEY_REFUSED. -/
def State.keyAnswer (s : State) (x : HmpHead) (r : Nat) : State :=
  (if r = 0 then s else s.raise F.SEC_CAUSE_KEY_REFUSED 0 2 [wd r]).answer4 x r

/-- Whether a wrapped-key object is well formed (R250). -/
def wrapOk (l : List Byte) : Bool :=
  let t := byteAt l 6
  leAt l 0 4 = 0x4B575853 && leAt l 4 2 = 1 && byteAt l 9 = 32 && byteAt l 0x0B = 0 && zerosAt l 0x81 3 &&
    l.length = 0x90 + byteAt l 9 + byteAt l 0x0A + 16 &&
    ((t = 1 && byteAt l 7 < 16 && byteAt l 8 < 16 && byteAt l 0x0A = 0) ||
     (t = 2 && byteAt l 7 < 2 && byteAt l 8 = 0 && 1 ≤ byteAt l 0x0A && byteAt l 0x0A ≤ 32))

/-- What an object unwraps to: a result of R251, or the key with the CKN. -/
def State.unwrap (s : State) (l : List Byte) : Nat ⊕ List Byte :=
  match s.sec.aks.find? fun k => k.akid = sliceAt l 0x0C 20 && s.akLive k with
  | none => .inl 2
  | some k =>
    match wrapKey k.priv (sliceAt l 0x20 97) k.nonce (l.take 12) with
    | none => .inl 3
    | some key =>
      let n := byteAt l 9 + byteAt l 0x0A
      match Config.gcmOpen key (sliceAt l 0x84 12) (l.take 0x90) (sliceAt l 0x90 n) (sliceAt l (0x90 + n) 16) with
      | none => .inl 3
      | some x => .inr x

/-- The result of a delivery, in the order of R251's table, with the unwrapped key. -/
def State.deliverResult (s : State) (l : List Byte) : Nat × List Byte :=
  if !(wrapOk l) then (1, [])
  else match s.unwrap l with
    | .inl r => (r, [])
    | .inr x =>
      let slot := byteAt l 7
      let n := byteAt l 8
      let st := s.pstate n
      if byteAt l 6 = 1 ∧ st ≠ 1 ∧ st ≠ 2 then (4, [])
      else if byteAt l 6 = 1 ∧ s.flag F.SEC_KSLOT_LOADED slot = true ∧ s.rd F.SEC_KSLOT_PART slot ≠ n then (5, [])
      else if s.flag F.SEC_STATE_DEBUG = true then (6, [])
      else if s.unclaimed = true ∨ s.rd F.CFG_STAT_IMAGE = 2 then (7, [])
      else (0, x)

/-- Place a key in an ingest slot (R253). -/
def State.placeKey (s : State) (slot n : Nat) (key : List Byte) : State :=
  let s1 : State := { s with
    kslots := Assoc.put s.kslots slot ({ id := s.deliveries, key := key } : KSlot)
    deliveries := s.deliveries + 1 }
  ((s1.wr F.SEC_KSLOT_LOADED slot 1).wr F.SEC_KSLOT_PART slot n).keyCounts slot

/-- The body of KEY_DELIVER. -/
def State.keyDeliver (s : State) (x : HmpHead) (l : List Byte) : State :=
  let r := s.deliverResult l
  if r.1 ≠ 0 then s.keyAnswer x r.1
  else
    let s1 := if byteAt l 6 = 1 then s.placeKey (byteAt l 7) (byteAt l 8) (r.2.take 32) else s.setCak (byteAt l 7) (r.2.drop 32) (r.2.take 32)
    (s1.raise F.SEC_CAUSE_KEY_LOADED).keyAnswer x 0

/-- KEY_DELIVER (R250, R251).  Without an identity no attestation key exists, and a delivery is answered so (R266). -/
def execKeyDeliver (x : HmpHead) (body : List Byte) (s : State) : Out :=
  if s.hmpTakes x ∧ s.flag F.CFG_STAT_RECOVERY = false then .next (s.keyDeliver x body) else hmpObj 4 x id s

/-- The result of a revocation. -/
def State.revokeResult (s : State) (l : List Byte) : Nat :=
  let t := byteAt l 0
  let i := byteAt l 1
  if l.length ≠ 2 ∨ !((t = 1 && i < 16) || (t = 2 && i < 2)) then 1
  else
    let n := s.rd F.SEC_KSLOT_PART i
    if t = 1 ∧ s.flag F.SEC_KSLOT_LOADED i = true ∧ (s.pstate n = 0 ∨ s.pstate n = 4) then 4
    else if s.unclaimed then 7
    else 0

/-- KEY_REVOKE (R252, R253). -/
def execKeyRevoke (x : HmpHead) (body : List Byte) (s : State) : Out :=
  hmpObj 4 x (fun s =>
    let r := s.revokeResult body
    if r ≠ 0 then s.keyAnswer x r
    else
      let i := byteAt body 1
      let s1 := if byteAt body 0 = 1 then
          ((({ s with kslots := Assoc.erase s.kslots i } : State).wr F.SEC_KSLOT_LOADED i 0).keyCounts i)
        else s.revokeCak i
      s1.keyAnswer x 0) s

/-! ### Claims, admissions, debug (R244, R252, R257, R261) -/

/-- ASCII strings of R244 and R261. -/
def claimText : List Byte := [0x53, 0x58, 0x31, 0x20, 0x63, 0x6C, 0x61, 0x69, 0x6D]
def debugText : List Byte := [0x53, 0x58, 0x31, 0x20, 0x64, 0x65, 0x62, 0x75, 0x67, 0x20, 0x75, 0x6E, 0x6C, 0x6F, 0x63, 0x6B]

/-- The result of a claim. -/
def State.claimResult (s : State) (l : List Byte) : Nat :=
  if l.length ≠ 48 ∧ l.length ≠ 241 then 1
  else if s.nv.opKeys.length = 4 then 10
  else if s.unclaimed then (if l.length = 48 then 0 else 1)
  else if l.length = 48 then 10
  else
    let key := sliceAt l 48 97
    if Config.sha384 key ≠ s.opHash then 8
    else if Config.ecdsaVerify key (Config.sha384 (claimText ++ s.nv.serial ++ natLE 1 s.nv.opKeys.length ++ l.take 48)) (sliceAt l 145 96) then 0
    else 9

/-- CLAIM (R244, R465): the hash enters the next slot, and a change record is kept. -/
def execClaim (x : HmpHead) (body : List Byte) (s : State) : Out :=
  hmpObj 4 x (fun s =>
    let r := s.claimResult body
    if r ≠ 0 then s.keyAnswer x r
    else
      let c := s.logChange 6 0 0x00090005 0 (BitVec.ofNat 32 (leAt body 0 4)) 0x80
      if !c.2 then c.1.hmpSay x 4 4 []
      else
        let s1 : State := { c.1 with nv := { c.1.nv with opKeys := c.1.nv.opKeys ++ [body.take 48] } }
        (s1.wr F.SEC_STATE_OPKEY 0 s1.nv.opKeys.length).keyAnswer x 0) s

/-- PEER_ADMIT (R257, R252): entry, SEC_ADMIT_MOD word and SEC_ADMIT_PART word, 4 bytes each (log entry 47). -/
def execPeerAdmit (x : HmpHead) (body : List Byte) (s : State) : Out :=
  hmpObj 4 x (fun s =>
    let i := leAt body 0 4
    let m : Word := BitVec.ofNat 32 (leAt body 4 4)
    let p : Word := BitVec.ofNat 32 (leAt body 8 4)
    let n := i / 4
    let r := if body.length ≠ 12 ∨ 64 ≤ i ∨ m &&& ~~~(Reg.accMask .SEC_ADMIT_MOD .RW) ≠ 0 ∨ p &&& ~~~(Reg.accMask .SEC_ADMIT_PART .RW) ≠ 0 then 1
      else if s.pstate n = 0 ∨ s.pstate n = 4 then 4
      else if s.unclaimed then 7
      else 0
    if r ≠ 0 then s.keyAnswer x r else ((s.setReg .SEC_ADMIT_MOD i m).setReg .SEC_ADMIT_PART i p).keyAnswer x 0) s

/-- DEBUG_CHALLENGE (R261): 32 bytes from the generator, which replace an earlier challenge. -/
def execDebugChallenge (x : HmpHead) (s : State) : Out :=
  hmpObj 3 x (fun s =>
    let c := s.draw 32
    ({ c.2 with sec := { c.2.sec with challenge := some (c.1, c.2.up) } }).hmpSay x 3 0 c.1) s

/-- The result of an unlock. -/
def State.unlockResult (s : State) (l : List Byte) : Nat :=
  if l.length ≠ 193 then 1
  else if s.unclaimed then 7
  else
    let key := l.take 97
    if Config.sha384 key ≠ s.opHash then 8
    else match s.sec.challenge with
      | none => 9
      | some (c, t) =>
        if t + 60000000000 < s.up then 9
        else if !(Config.ecdsaVerify key (Config.sha384 (debugText ++ s.nv.serial ++ c)) (sliceAt l 97 96)) then 9
        else if (List.range 16).any fun n => s.pstate n ≠ 0 then 10
        else 0

/-- DEBUG_UNLOCK (R261): the challenge is spent either way; an accepted one unlocks until the next power cycle. -/
def execDebugUnlock (x : HmpHead) (body : List Byte) (s : State) : Out :=
  hmpObj 4 x (fun s =>
    let r := s.unlockResult body
    let s1 : State := { s with sec := { s.sec with challenge := none } }
    if r ≠ 0 then s1.keyAnswer x r else ((s1.wr F.SEC_STATE_DEBUG 0 1).raise F.SEC_CAUSE_DEBUG_UNLOCK 0 2).keyAnswer x 0) s

/-! ### The rollback counter (R243) -/

/-- SVN_ADVANCE (R243): after step 9, with ADVANCE set, missing bits are written in ascending order, at most `n` of them
before power may be lost; when the counter has reached SVN, ADVANCED is set and SVN_ADVANCE raised with a notice record. -/
def execSvnAdvance (n : BitVec 8) (s : State) : Out :=
  let svn := byteAt s.sec.fw 6
  let old := s.nv.rollback
  if byteAt s.sec.fw 7 % 2 = 1 ∧ s.rd F.CFG_STAT_STEP = 10 ∧ old < svn then
    let c := min svn (old + n.toNat)
    let s1 := ({ s with nv := { s.nv with rollback := c } }).wr F.SEC_SVN_COUNTER 0 c
    .next (if c = svn then (s1.wr F.SEC_SVN_ADVANCED 0 1).raise F.SEC_CAUSE_SVN_ADVANCE 0 1 [wd old, wd svn] else s1)
  else .next s

/-! ### The access tables (R259, R267, R268) -/

/-- The key of the selected window. -/
def State.selWin (s : State) : Nat :=
  winKey (s.rd F.SEC_AT_SEL_TARGET) (s.rd F.SEC_AT_SEL_MASTER) (s.rd F.SEC_AT_SEL_WINDOW)

/-- An address held in a pair of registers. -/
def State.atAddr (s : State) (lo hi : Reg) : Nat := (s.reg lo 0).toNat / 4 * 4 + (s.reg hi 0).toNat % 32 * 2 ^ 32

/-- Show the selected window in the base, limit and rights registers. -/
def State.showWin (s : State) : State :=
  let x := s.win s.selWin
  let s1 := ((s.setReg .SEC_AT_BASE_LO 0 (wd x.base)).setReg .SEC_AT_BASE_HI 0 (wd (x.base / 2 ^ 32))).setReg .SEC_AT_LIMIT_LO 0 (wd x.limit)
  (s1.setReg .SEC_AT_LIMIT_HI 0 (wd (x.limit / 2 ^ 32))).setReg .SEC_AT_RIGHTS 0
    (wd ((if x.r then 1 else 0) + (if x.w then 2 else 0) + (if x.x then 4 else 0) + (if x.valid then 2 ^ 31 else 0)))

/-- A write of SEC_AT_RIGHTS (R268): the held window is applied; one whose limit is below its base is refused. -/
def State.writeRights (s : State) (w : Word) : State :=
  let b := s.atAddr .SEC_AT_BASE_LO .SEC_AT_BASE_HI
  let l := s.atAddr .SEC_AT_LIMIT_LO .SEC_AT_LIMIT_HI
  if l < b then s
  else
    let x : Win := { valid := w.getLsbD 31, base := b, limit := l, r := w.getLsbD 0, w := w.getLsbD 1, x := w.getLsbD 2 }
    ({ s with wins := Assoc.set {} s.wins s.selWin x }).setReg .SEC_AT_RIGHTS 0 (w &&& Reg.accMask .SEC_AT_RIGHTS .RW)

/-- SEC_AT_RIGHTS_WRITE. -/
def execSecAtRightsWrite (w : Word) (s : State) : Out := .next (s.writeRights w)

end Sys2Proof.Machine
end

