-- ==== Sys2Proof/Machine/Sleep.lean ====
section
/-! DEFINITION.  Entering and leaving Standby and Freewheel (R178, R234, R410, R414 to R420, R424). -/

namespace Sys2Proof.Machine

/-! ### What sleeps and wakes (R408, R410) -/

/-- Compute goes to its retention level. -/
def State.coreSleep (s : State) : State :=
  if s.pwr.vcore then
    let s1 : State := { s with pwr := { s.pwr with retention := true, forced := false, mv := 550, goal := 0, rates := [] } }
    let s2 := ((((s1.wr F.PWR_GEAR_STAT_GEAR 0 0).wr F.PWR_GEAR_STAT_FBB 0 0).wr F.PWR_GEAR_STAT_ASSIST 0 0).wr F.PWR_GEAR_STAT_SLEW 0 0).wr
      F.PWR_GEAR_STAT_DUTY 0 0
    (s2.wr F.PWR_CADENCE_MIN 0 0).wr F.PWR_CADENCE_MEAN 0 0
  else s

/-- Compute leaves its retention level: it stands at gear 0 (R282, R416). -/
def State.coreWake (s : State) : State :=
  let s1 : State := { s with pwr := { s.pwr with retention := false, mv := 550, goal := 0 } }
  (s1.wr F.PWR_GEAR_STAT_ASSIST 0 1).wr F.PWR_GEAR_STAT_DUTY 0 s1.duty

/-- A ready stack enters self-refresh. -/
def State.stackSleep (s : State) (k : Nat) : State :=
  if s.rd F.MEM_STATE_STATE k = stReady then s.wr F.MEM_STATE_STATE k 3 else s

/-- The fabric narrows (R178): a port with KEEPALIVE keeps one lane of link 0, the others stop as planned. -/
def State.narrowAll (s : State) : State :=
  ((List.range 18).filter fun p => s.flag F.FAB_PORT_CFG_EN p).foldl (fun (s : State) (p : Nat) =>
    let on := (List.range 8).filter fun k => s.lkRuns (8 * p + k)
    if s.flag F.FAB_PORT_CFG_KEEPALIVE p then
      (on.foldl (fun (s : State) (k : Nat) => s.ctrlNow (8 * p + k) .narrow) s).narrowPort p
    else ((List.range 8).filter fun k => on.elem k || s.lkState (8 * p + k) = lkTraining).foldl (fun (s : State) (k : Nat) =>
      (if on.elem k then s.sendDown (8 * p + k) false else s).linkStop (8 * p + k) lkDown) s) s

/-- Whether port 0 already runs at the lowest rate of its set (R234). -/
def State.atLowRate (s : State) : Bool :=
  let r := s.rd F.ETH_PORT_STAT_RATE 0
  r ≠ 0 && s.rd F.ETH_PORT_CFG_RATES 0 % 2 ^ (r - 1) = 0

/-- The Ethernet ports enter Standby: port 0 renegotiates to its lowest rate, port 1 goes down (R234). -/
def State.ethStandby (s : State) : State := (if s.atLowRate then s else s.ethDown 0).ethDown 1

/-! ### The steps of an entry (R414, R416) -/

/-- An entry is abandoned at point `k`: ABORTED with a notice record naming it. -/
def State.psAborted (s : State) (k : Nat) : State := ({ s with ps := { s.ps with abort := 0 } }).raise F.PWR_PS_CAUSE_ABORTED 0 1 [wd k]

/-- Step 2 is undone: VCORE comes back from its retention level. -/
def State.undoCore (s : State) : State :=
  let s1 := ((s.psAborted 3).wr F.PWR_PS_STAT_STATE 0 psWaking).wr F.PWR_PS_STAT_TGT 0 s.ps.ran
  if s1.allAwake then (s1.psRunning s.ps.ran).psArrive else { s1 with ps := { s1.ps with abort := 3 } }

/-- Standby is reached: stacks in self-refresh, the fabric narrowed, the ports changed (R414 step 3). -/
def State.standby (s : State) : State :=
  let s1 := ((List.range 8).foldl (fun (s : State) (k : Nat) => s.stackSleep k) s).narrowAll.ethStandby
  let s2 := (((s1.psSet psStandby).wr F.PWR_PS_STAT_STACKS_AWAKE 0 0).wr F.PWR_PS_STAT_CORE_AWAKE 0 0).raise F.PWR_PS_CAUSE_ENTERED
  if s2.ps.abort = 2 then ({ s2 with ps := { s2.ps with abort := 0 } }).requestNow s2.ps.ran
  else if s2.ps.abort = 1 ∧ s2.flag F.PWR_PS_STAT_PEND then (s2.wr F.PWR_PS_STAT_PEND 0 0).psAborted 4
  else ({ s2 with ps := { s2.ps with abort := 0 } }).psArrive.voteCheck

/-- Freewheel is reached: VPERI off, the ports down, the engine unpowered (R414 step 5); a wake event that came meanwhile is
served. -/
def State.freewheel (s : State) : State :=
  let s1 := ((((List.range 8).foldl (fun (s : State) (k : Nat) => s.stackSleep k) s).coreSleep.ethDown 0).ethDown 1).setVperi false
  let s2 := (((s1.psSet psFreewheel).wr F.PWR_PS_STAT_STACKS_AWAKE 0 0).wr F.PWR_PS_STAT_CORE_AWAKE 0 0).raise F.PWR_PS_CAUSE_ENTERED
  if s2.ps.wake then s2.wakeFreewheel else s2.psArrive.voteCheck

/-- ENTRY_STEP_COMPLETE (R414, R416): the step after the point passed last is done; at the next point the entry goes on or is
abandoned, and what was done is undone in reverse order. -/
def execEntryStepComplete (s : State) : Out :=
  if s.psState ≠ psEntering then .next s
  else match s.rd F.PWR_PS_STAT_POINT with
    | 1 => if s.ps.abort = 0 then .next (s.wr F.PWR_PS_STAT_POINT 0 2)
      else .next (((s.psAborted 2).psRunning s.ps.ran).psArrive)
    | 2 => if s.ps.abort = 0 then .next (s.coreSleep.wr F.PWR_PS_STAT_POINT 0 3) else .next s.coreSleep.undoCore
    | 3 => .next s.standby
    | 4 =>
      if s.rd F.PWR_HS_STAT_WAITING ≠ 0 then .next s
      else if s.ps.abort = 0 then
        .next (({ s with ps := { s.ps with t0 := s.timeBase.toNat * 1000000000 + s.timeFrac } }).wr F.PWR_PS_STAT_POINT 0 5)
      else .next ((s.psAborted 5).psSet psStandby).psArrive.voteCheck
    | 5 => .next s.freewheel
    | _ => .next s

/-! ### The Freewheel handshake (R415) -/

/-- What a block replies: granted, refused, or not yet. -/
inductive Reply where
  | grant | refuse | wait
  deriving DecidableEq, Repr

/-- The reply of block `c`. -/
def State.reply (s : State) (c : Nat) : Reply :=
  match c with
  | 0 => if s.reg .CLE_SLOT_FAULT 0 ≠ 0 || (List.range 32).any (fun k => s.flag F.CLE_SLOT_STAT_MOVING k) then .refuse else .grant
  | 1 => if s.rd F.ROW_CFG_ROLE ≠ 0 then .refuse else .grant
  | 2 => if s.zfills = [] then .grant else .wait
  | 3 => if (List.range 16).any fun n => s.pstate n = 4 then .wait else .grant
  | 4 => if s.evr.buf = [] ∧ s.evr.chg = [] then .grant else .wait
  | 6 => if s.owed = [] then .grant else .wait
  | 7 => if s.mgmt.down then .wait else .grant
  | _ => .grant

/-- A Freewheel entry is given up at its handshake: LAST names the block, REFUSED with a notice record. -/
def State.hsGiveUp (s : State) (c : Nat) (timeout : Bool) : State :=
  let s1 := ((s.wr F.PWR_HS_STAT_LAST 0 c).wr F.PWR_HS_STAT_TIMEOUT 0 (if timeout then 1 else 0)).wr F.PWR_HS_STAT_WAITING 0 0
  ((({ s1 with ps := { s1.ps with abort := 0, wake := false } }).psSet psStandby).raise F.PWR_PS_CAUSE_REFUSED 0 1 [wd c]).psArrive.voteCheck

/-- HANDSHAKE_REPLY (R415): block `c` answers. -/
def execHandshakeReply (c : Fin 8) (s : State) : Out :=
  let w := s.rd F.PWR_HS_STAT_WAITING
  if s.psState = psEntering ∧ s.rd F.PWR_PS_STAT_POINT = 4 ∧ w.testBit c = true then
    match s.reply c with
    | .grant => .next (s.wr F.PWR_HS_STAT_WAITING 0 (w - 2 ^ c.val))
    | .refuse => .next (s.hsGiveUp c false)
    | .wait => .next s
  else .next s

/-- HANDSHAKE_TIMEOUT (R415): MAXDELAY has passed while a block still waits. -/
def execHandshakeTimeout (s : State) : Out :=
  let w := s.rd F.PWR_HS_STAT_WAITING
  if s.psState = psEntering ∧ s.rd F.PWR_PS_STAT_POINT = 4 ∧ w ≠ 0 then
    .next (s.hsGiveUp (((List.range 8).find? fun c => w.testBit c).getD 0) true)
  else .next s

/-! ### Waking (R418 to R420, R424) -/

/-- The next state of a meaning that always has one. -/
def nextOr (s : State) : Out → State
  | .next t => t
  | _ => s

/-- FW_SEQUENCER_SAMPLE (R418): in Freewheel the module sensors and the analogue inputs are sampled and checked, and the outlet
pair and the return pressure are compared with their thresholds. -/
def execFwSequencerSample (sens : Vector Rat 7) (ai : Vector (Rat × Rat) 8) (s : State) : Out :=
  if s.psState ≠ psFreewheel then .next s
  else
    let s1 := (List.finRange 7).foldl (fun (s : State) (k : Fin 7) => nextOr s (execSensorSample k sens[k] s)) s
    let s2 := (List.finRange 8).foldl (fun (s : State) (k : Fin 8) =>
      let x := ai[k]
      nextOr s (execAiSample (k.castLE (by omega)) x.1 x.2 s)) s1
    let s3 : State := { s2 with boot := { s2.boot with sampled := true } }
    let hot := match s3.pair 1 with
      | some v => decide ((s3.rd F.PWR_FW_THR_TOUT : Rat) / 8 ≤ v)
      | none => false
    let high := match s3.source 0x1B with
      | some v => decide ((s3.rd F.PWR_FW_THR_PRESS : Rat) ≤ v)
      | none => false
    .next (if hot || high then s3.wakeEvent F.PWR_WAKE_SRC_THRESH else s3)

/-- WAKE_COMPLETE (R418, R424): the module reaches Standby from Freewheel; the always-on counter has counted `n` since step 5,
and the time base is what it was then plus `n` periods of 30,517.578125 ns. -/
def execWakeComplete (n : BitVec 48) (s : State) : Out :=
  if s.psState = psWaking ∧ s.psTgt = psStandby then
    let t := s.ps.t0 + n.toNat * 30517578125000
    let s1 : State := { s with timeBase := BitVec.ofNat 64 (t / 1000000000), timeFrac := t % 1000000000 }
    .next ((((s1.setVperi true).restartEngine.psSet psStandby).raise F.PWR_PS_CAUSE_WAKE).psArrive.voteCheck)
  else .next s

/-- DOMAIN_AWAKE (R416, R419): stack `d`, or compute for 8, is awake; once nothing sleeps any more a wake ends in Run or
Trim. -/
def execDomainAwake (d : Fin 9) (s : State) : Out :=
  let inStandby := decide (s.psState = psStandby)
  let s1 := if d.val < 8 then
      (if s.rd F.MEM_STATE_STATE d = 3 then
        let t := s.wr F.MEM_STATE_STATE d stReady
        if inStandby then t.wr F.PWR_PS_STAT_STACKS_AWAKE 0 (t.rd F.PWR_PS_STAT_STACKS_AWAKE ||| 2 ^ d.val) else t
      else s)
    else if s.pwr.retention then
      (if inStandby then s.coreWake.wr F.PWR_PS_STAT_CORE_AWAKE 0 1 else s.coreWake)
    else s
  if s1.psState = psWaking ∧ s1.psTgt ≤ psTrim ∧ s1.allAwake = true then
    let s2 := s1.psRunning s1.psTgt
    .next (if s1.ps.abort = 3 then s2 else s2.raise F.PWR_PS_CAUSE_WAKE).psArrive
  else .next s1

/-- DOMAIN_IDLE (R420): IDLE ms without an access return a domain woken by access to its sleep level; with a vote held the
module leaves Standby instead. -/
def execDomainIdle (d : Fin 9) (s : State) : Out :=
  if s.psState ≠ psStandby ∨ s.votes ≠ 0 then .next s
  else if d.val < 8 then
    let m := s.rd F.PWR_PS_STAT_STACKS_AWAKE
    if m.testBit d then .next ((s.stackSleep d).wr F.PWR_PS_STAT_STACKS_AWAKE 0 (m - 2 ^ d.val)) else .next s
  else if s.flag F.PWR_PS_STAT_CORE_AWAKE then .next (s.coreSleep.wr F.PWR_PS_STAT_CORE_AWAKE 0 0)
  else .next s

end Sys2Proof.Machine
end

