-- ==== Sys2Proof/Machine/Recorder.lean ====
section
/-! DEFINITION.  The event recorder's storage, flushes, freeze and cursors, and the change log (R460 to R467). -/

namespace Sys2Proof.Machine

/-- Change the recorder's bookkeeping. -/
def State.modRec (s : State) (f : RecState → RecState) : State := { s with evr := f s.evr }

/-! ### Sectors (R462, R463) -/

/-- Records of a sector. -/
abbrev sectorSize : Nat := 64

/-- The severity scheme is in use: 1 Gbit and above. -/
def State.bySeverity (s : State) : Bool := 3 ≤ s.rd F.CFG_STAT_DENSITY

/-- Sectors of one half in the split scheme. -/
def State.halfSectors (s : State) : Nat := if s.rd F.CFG_STAT_DENSITY = 0 then 880 else 2048

/-- The sector of a number. -/
def State.sector (s : State) (n : Nat) : Option Sector := s.evr.sectors.find? fun x => x.no = n

/-- How long ago a SEQ was given, on the count of the series. -/
def recAge (next q : Nat) : Nat := (next + 2 ^ 32 - q) % 2 ^ 32

/-- A sector is erased: its records are gone, ERASING until it is done. -/
def State.eraseSector (s : State) (n : Nat) : State :=
  (s.modRec fun e => { e with sectors := e.sectors.filter fun x => x.no ≠ n, erasing := some n }).wr F.REC_STAT_ERASING 0 1

/-- The split scheme's next sector after `n`: the first half once through, then the second half round; one that is unusable
is passed over. -/
def State.splitNext (s : State) (n : Nat) : Option Nat :=
  let h := s.halfSectors
  let l := if n + 1 < h then (List.range h).filter (fun k => n < k) ++ (List.range h).map (h + ·)
    else (((List.range h).map (h + ·)).filter fun k => n < k) ++ (List.range h).map (h + ·)
  l.find? fun k => !(s.evr.bad.elem k)

/-- A new ready sector for severity `v` (R463): a never-written one in ascending order, else the one of severity at or below
`v`, neither open nor ready, whose first record is oldest; none when none qualifies. -/
def State.chooseReady (s : State) (v : Nat) : Option Nat :=
  let used := fun (k : Nat) => (s.evr.opens.any fun (x : Nat × Nat) => x.2 = k) || (s.evr.readies.any fun (x : Nat × Nat) => x.2 = k)
  match (List.range 4096).find? fun k => (s.sector k).isNone && !(used k) && !(s.evr.bad.elem k) with
  | some k => some k
  | none =>
    let age := fun (x : Sector) => recAge s.evr.nextSeq ((x.recs.head?).elim 0 Rec.seq)
    let l := s.evr.sectors.filter fun x => x.sev ≤ v && !(used x.no) && !(s.evr.bad.elem x.no)
    (l.foldl (fun (b : Option Sector) (x : Sector) => match b with
      | some y => if age y < age x then some x else b
      | none => some x) none).map Sector.no

/-- Severity `v` gets a ready sector where one qualifies, erased if it holds records. -/
def State.makeReady (s : State) (v : Nat) : State :=
  match s.chooseReady v with
  | some k =>
    let s1 := s.modRec fun e => { e with readies := Assoc.put e.readies v k }
    if (s.sector k).isSome then s1.eraseSector k else s1
  | none => s.modRec fun e => { e with readies := Assoc.erase e.readies v }

/-- Records a sector holds. -/
def State.fillOf (s : State) (n : Nat) : Nat := (s.sector n).elim 0 fun x => x.recs.length

/-- The sector the next record of severity `v` goes to, taken into use where the open one is full or unusable. -/
def State.openFor (s : State) (v : Nat) : Option Nat × State :=
  let good := fun (k : Nat) => decide (s.fillOf k < sectorSize) && !(s.evr.bad.elem k)
  let cur := (Assoc.find s.evr.opens v).filter good
  match cur with
  | some k => (some k, s)
  | none =>
    if s.bySeverity then
      let s1 := if (Assoc.find s.evr.readies v).isSome then s else s.makeReady v
      match Assoc.find s1.evr.readies v with
      | some k =>
        let s2 := s1.modRec fun e => { e with opens := Assoc.put e.opens v k, readies := Assoc.erase e.readies v }
        (some k, s2.makeReady v)
      | none => (none, s1)
    else
      let k := match Assoc.find s.evr.opens 0 with
        | some n => s.splitNext n
        | none => (List.range s.halfSectors).find? fun k => !(s.evr.bad.elem k)
      match k with
      | some n =>
        let s1 := s.modRec fun e => { e with opens := Assoc.put e.opens 0 n }
        (some n, if (s.sector n).isSome then s1.eraseSector n else s1)
      | none => (none, s)

/-- One record is programmed; where no sector takes it, it is discarded and FULL raised (R463).  In the split scheme the
sector after a full one is erased ahead (R462). -/
def State.storeRec (s : State) (r : Rec) : State :=
  let v := if s.bySeverity then r.sev else 0
  let o := s.openFor v
  match o.1 with
  | some n =>
    let s1 := o.2.modRec fun e =>
      if e.sectors.any fun x => x.no = n then
        { e with sectors := e.sectors.map fun x => if x.no = n then { x with recs := x.recs ++ [r] } else x }
      else { e with sectors := e.sectors ++ [({ no := n, sev := v, recs := [r] } : Sector)] }
    if s1.bySeverity || s1.fillOf n < sectorSize then s1
    else match s1.splitNext n with
      | some m => if (s1.sector m).isSome then s1.eraseSector m else s1
      | none => s1
  | none => (o.2.raiseBit F.REC_CAUSE_FULL 0).discardRec r.seq

/-- A program fails its status check: the open sector of the first record is unusable until the next start-up, FLASH_ERR. -/
def State.flashErr (s : State) (v : Nat) : State :=
  match (s.openFor v).1 with
  | some n => ((s.openFor v).2.modRec fun e => { e with bad := n :: e.bad }).raise F.REC_CAUSE_FLASH_ERR
  | none => s

/-! ### Flushing (R460, R465, R467) -/

/-- The change buffer goes to the change log, which circulates by sector. -/
def State.flushChanges (s : State) : State :=
  s.modRec fun e =>
    let l := e.chgStored ++ e.chg
    { e with chg := [], chgStored := if 16384 < l.length then l.drop ((l.length - 16384 + 63) / 64 * 64) else l }

/-- The LOST record that reports discards, once the buffer has room (R461). -/
def State.reportLost (s : State) : State :=
  match s.evr.lost with
  | some (n, a, b) =>
    if s.evr.buf.length < 1024 then
      (s.modRec fun e => { e with lost := none }).record 5 15 0x41 0 2 [wd n, wd a, wd b]
    else s
  | none => s

/-- The buffer is flushed to the recorder area; `bad` says that the first program fails its status check. -/
def State.flushAll (s : State) (bad : Bool) : State :=
  let s0 := match s.evr.buf with
    | r :: _ => if bad then s.flashErr (if s.bySeverity then r.sev else 0) else s
    | [] => s
  let s1 := (s0.evr.buf.foldl State.storeRec s0).modRec fun e => { e with buf := (e.buf.drop s0.evr.buf.length), flushDue := false }
  ((s1.flushChanges.wr F.REC_STAT_FLUSHING 0 0).wr F.REC_CTL_FLUSH 0 0).reportLost

/-- RECORDER_FLUSH (R460): a flush that was asked for is carried out, once the scan of start-up has rebuilt the index, and not
while frozen. -/
def execRecorderFlush (bad : Bool) (s : State) : Out :=
  if s.evr.flushDue ∧ s.boot.scanned = true ∧ s.flag F.REC_STAT_FROZEN = false then .next (s.flushAll bad) else .next s

/-- FLUSH_TIMER (R460). -/
def execFlushTimer (s : State) : Out := .next s.requestFlush

/-- A write of REC_CTL (R460, R467). -/
def State.writeRecCtl (s : State) (w : Word) : State :=
  let s1 := (s.wr F.REC_CTL_FREEZE_MAX 0 (fieldOf w F.REC_CTL_FREEZE_MAX)).wr F.REC_CTL_FREEZE 0 (fieldOf w F.REC_CTL_FREEZE)
  let was := s.flag F.REC_STAT_FROZEN
  let s2 := s1.wr F.REC_STAT_FROZEN 0 (fieldOf w F.REC_CTL_FREEZE)
  let s3 := if was && fieldOf w F.REC_CTL_FREEZE = 0 then s2.requestFlush
    else if fieldOf w F.REC_CTL_FREEZE = 1 then s2.wr F.REC_STAT_FLUSHING 0 0 else s2
  if fieldOf w F.REC_CTL_FLUSH = 1 then (s3.wr F.REC_CTL_FLUSH 0 1).requestFlush else s3

/-- FLUSH (R460): a write of REC_CTL.FLUSH. -/
def execFlush (s : State) : Out := .next (s.writeRecCtl (s.reg .REC_CTL 0 ||| 0x40000000))

/-- FREEZE (R467): a write of REC_CTL.FREEZE. -/
def execFreeze (on : Bool) (s : State) : Out :=
  .next (s.writeRecCtl (setField (setField (s.reg .REC_CTL 0) F.REC_CTL_FREEZE (if on then 1 else 0)) F.REC_CTL_FLUSH 0))

/-- Freeze ends: FREEZE and FROZEN clear and the buffer is flushed. -/
def State.unfreeze (s : State) : State :=
  if s.flag F.REC_STAT_FROZEN then ((s.wr F.REC_CTL_FREEZE 0 0).wr F.REC_STAT_FROZEN 0 0).requestFlush else s

/-- FREEZE_END (R467): FREEZE_MAX has passed. -/
def execFreezeEnd (s : State) : Out :=
  if s.flag F.REC_STAT_FROZEN then .next (s.unfreeze.raise F.REC_CAUSE_FREEZE_END) else .next s

/-- SECTOR_ERASE_DONE (R460, R463): an erase is over; one that fails its status check makes the sector unusable. -/
def execSectorEraseDone (ok : Bool) (s : State) : Out :=
  match s.evr.erasing with
  | none => .next s
  | some n =>
    let s1 := (s.modRec fun e => { e with erasing := none }).wr F.REC_STAT_ERASING 0 0
    if ok then .next s1 else .next ((s1.modRec fun e => { e with bad := n :: e.bad }).raise F.REC_CAUSE_FLASH_ERR)

/-! ### PF_WARN_N (R449, R457, R460) -/

/-- Order of a power-fail flush: by severity from critical down, by SEQ within one. -/
def failOrder (next : Nat) (l : List Rec) : List Rec :=
  [3, 2, 1, 0].flatMap fun v => (l.filter fun r => r.sev = v).mergeSort fun a b => recAge next b.seq ≤ recAge next a.seq

/-- Protective-action records that wait are written at once, with no after readings (R457). -/
def State.flushProt (s : State) : State :=
  s.evr.prot.foldl (fun (s : State) (p : Prot) => s.insertRec { p.r with data := packSets (p.before ++ noReadings) })
    (s.modRec fun e => { e with prot := [] })

/-- The power-fail flush: at most 48 records, the last of them a LOST record when some remain. -/
def State.failFlush (s : State) : State :=
  let l := failOrder s.evr.nextSeq s.evr.buf
  let s0 := s.modRec fun e => { e with buf := [], flushDue := false }
  if l.length ≤ 48 then
    ((l.foldl State.storeRec s0).flushChanges.wr F.REC_STAT_FLUSHING 0 0).wr F.REC_CTL_FLUSH 0 0
  else
    let s1 := (l.drop 47).foldl (fun (s : State) (r : Rec) => s.discardRec r.seq) s0
    let s2 := (l.take 47).foldl State.storeRec s1
    let s3 := s2.reportLost
    let s4 := s3.evr.buf.foldl State.storeRec (s3.modRec fun e => { e with buf := [], flushDue := false })
    (s4.flushChanges.wr F.REC_STAT_FLUSHING 0 0).wr F.REC_CTL_FLUSH 0 0

/-- PF_WARN_N (R201, R449, R452, R460): the fabric stops, with DOWN to every neighbour; records that wait for readings are written; with the scan done, the counters are written
first, a freeze ends, and the power-fail flush runs; before it, neither is written. -/
def execPfWarnN (ok : Bool) (s : State) : Out :=
  if s.boot.off then .next s
  else
    let s1 := s.stopFabric.flushProt
    if !s1.boot.scanned then .next s1.requestFlush
    else
      let s2 := if s1.rd F.CFG_STAT_STEP < 5 then s1 else s1.persist ok
      .next (((s2.wr F.REC_CTL_FREEZE 0 0).wr F.REC_STAT_FROZEN 0 0).failFlush)

/-! ### Cursors (R466) -/

/-- Stored records of the recorder in the order a cursor visits them: the kept half in address order, the rest by SEQ. -/
def State.heldOrder (s : State) : List Rec :=
  let h := if s.bySeverity then 0 else s.halfSectors
  let addr := fun (l : List Sector) => (l.mergeSort fun a b => a.no ≤ b.no).flatMap Sector.recs
  let kept := addr (s.evr.sectors.filter fun x => x.no < h)
  let rest := (s.evr.sectors.filter fun x => h ≤ x.no).flatMap Sector.recs ++ s.evr.buf
  kept ++ rest.mergeSort fun a b => recAge s.evr.nextSeq b.seq ≤ recAge s.evr.nextSeq a.seq

/-- Held records of the area a cursor set reads, in visiting order. -/
def State.held (s : State) (c : Nat) : List Rec :=
  if s.flag F.REC_CUR_CTL_AREA c then s.evr.chgStored ++ s.evr.chg else s.heldOrder

/-- Whether a record meets MINSEV; ignored for the change log. -/
def State.meets (s : State) (c : Nat) (r : Rec) : Bool := s.flag F.REC_CUR_CTL_AREA c || s.rd F.REC_CUR_CTL_MINSEV c ≤ r.sev

/-- The next SEQ of the series a cursor set reads. -/
def State.seriesNext (s : State) (c : Nat) : Nat := if s.flag F.REC_CUR_CTL_AREA c then s.evr.nextChg else s.evr.nextSeq

/-- The record after SEQ `q` that meets MINSEV: after its place in the order, or, when it is no longer held, the oldest that
is newer. -/
def State.recAfter (s : State) (c q : Nat) : Option Rec :=
  let l := s.held c
  let t := if l.any fun r => r.seq = q then (l.dropWhile fun r => r.seq ≠ q).drop 1
    else l.filter fun r => recAge (s.seriesNext c) r.seq < recAge (s.seriesNext c) q
  t.find? (s.meets c)

/-- The record at a cursor: one that was erased or displaced moved the cursor on. -/
def State.curRec (s : State) (c : Nat) : Option Rec :=
  let q := s.rd F.REC_CUR_SEQ_SEQ c
  if s.flag F.REC_CUR_STAT_VALID c then
    match (s.held c).find? fun r => r.seq = q with
    | some r => some r
    | none => s.recAfter c q
  else none

/-- Put a cursor on a record, or on none. -/
def State.setCursor (s : State) (c : Nat) (r : Option Rec) : State :=
  match r with
  | some x => (s.wr F.REC_CUR_SEQ_SEQ c x.seq).wr F.REC_CUR_STAT_VALID c 1
  | none => s.wr F.REC_CUR_STAT_VALID c 0

/-- A write of REC_CUR_CTL: AREA and MINSEV, then FIRST or LAST. -/
def State.writeCurCtl (s : State) (c : Nat) (w : Word) : State :=
  let s1 := (s.wr F.REC_CUR_CTL_AREA c (fieldOf w F.REC_CUR_CTL_AREA)).wr F.REC_CUR_CTL_MINSEV c (fieldOf w F.REC_CUR_CTL_MINSEV)
  if fieldOf w F.REC_CUR_CTL_FIRST = 1 then s1.setCursor c ((s1.held c).find? (s1.meets c))
  else if fieldOf w F.REC_CUR_CTL_LAST = 1 then
    let l := (s1.held c).filter (s1.meets c)
    s1.setCursor c (l.foldl (fun (b : Option Rec) (r : Rec) => match b with
      | some x => if recAge (s1.seriesNext c) r.seq ≤ recAge (s1.seriesNext c) x.seq then some r else b
      | none => some r) none)
  else s1

/-- CURSOR_FIRST (R466). -/
def execCursorFirst (c : Fin 2) (area : Bool) (minsev : BitVec 2) (s : State) : Out :=
  .next (s.writeCurCtl c (0x80000000 ||| BitVec.ofNat 32 ((if area then 256 else 0) + minsev.toNat)))

/-- CURSOR_LAST (R466). -/
def execCursorLast (c : Fin 2) (area : Bool) (minsev : BitVec 2) (s : State) : Out :=
  .next (s.writeCurCtl c (0x40000000 ||| BitVec.ofNat 32 ((if area then 256 else 0) + minsev.toNat)))

/-- A write of REC_CUR_SEQ: the cursor goes to the lowest held SEQ at or above the value. -/
def State.writeCurSeq (s : State) (c : Nat) (v : Nat) : State :=
  let l := (s.held c).filter fun r => v ≤ r.seq
  let best := l.foldl (fun (b : Option Rec) (r : Rec) => match b with
    | some x => if r.seq < x.seq then some r else b
    | none => some r) none
  (s.wr F.REC_CUR_SEQ_SEQ c v).setCursor c best

/-- REC_CUR_SEQ_WRITE (R466). -/
def execRecCurSeqWrite (c : Fin 2) (v : Word) (s : State) : Out := .next (s.writeCurSeq c v.toNat)

/-- Word `w` of the record at a cursor; 0 where there is none. -/
def State.recWord (s : State) (c w : Nat) : Word :=
  match s.curRec c with
  | some r => BitVec.ofNat 32 (leAt r.bytes (4 * w) 4)
  | none => 0

/-- The cursor advances to the next held record that meets MINSEV. -/
def State.recAdvance (s : State) (c : Nat) : State :=
  match s.curRec c with
  | some r => s.setCursor c (s.recAfter c r.seq)
  | none => s.wr F.REC_CUR_STAT_VALID c 0

/-- REC_WIN_WORD15_READ (R466): the last word is returned, and the cursor advances. -/
def execRecWinWord15Read (c : Fin 2) (master : BitVec 10) (s : State) : Out :=
  .next ((s.emit (.readData master.toNat [s.recWord c 15])).recAdvance c)

end Sys2Proof.Machine
end

