-- ==== Sys2Proof/Machine/Row.lean ====
section
/-! DEFINITION.  Row coordination (R342 to R363): the interlock and who holds control, the mirror, pumps, the budget and the
cap table, what frames of row classes do; and the base tick of the control engine (R286). -/

namespace Sys2Proof.Machine

/-- Change the row's bookkeeping. -/
def State.modRow (s : State) (f : Row → Row) : State := { s with row := f s.row }

/-! ### State and lines (R346, R353) -/

/-- States of R353. -/
abbrev rwListen : Nat := 0
abbrev rwWait : Nat := 1
abbrev rwAcquire : Nat := 2
abbrev rwHold : Nat := 3

/-- The state. -/
def State.rowState (s : State) : Nat := s.rd F.ROW_STAT_STATE

/-- The role (R342). -/
def State.role (s : State) : Nat := s.rd F.ROW_CFG_ROLE

/-- The peer's line reads low. -/
def State.peerLow (s : State) : Bool := s.flag F.ROW_STAT_ILK_PEER

/-- Take a state with the own line driven low or released; the gate follows. -/
def State.rowGo (s : State) (st : Nat) (low : Bool) : State :=
  ((s.wr F.ROW_STAT_STATE 0 st).wr F.ROW_STAT_ILK_OWN 0 (if low then 1 else 0)).gateCheck

/-- Control is left: the own line is released. -/
def State.leaveHold (s : State) : State := (s.modRow fun r => { r with kick := false, okAt := none }).rowGo rwWait false

/-- A flag of the peer's last heartbeat. -/
def State.peerFlag (s : State) (b : Nat) : Bool :=
  match s.row.peer with
  | some p => p.flags.testBit b
  | none => false

/-- Acquisition on a released control: RELEASING is shown, its mirror set is here and the peer's line is high (R353). -/
def State.relCheck (s : State) : State :=
  match s.row.peer, s.row.mirror with
  | some p, some m => if s.rowState = rwWait ∧ p.flags.testBit 3 = true ∧ m.seq = p.seq ∧ s.peerLow = false then s.rowGo rwAcquire true else s
  | _, _ => s

/-! ### Health (R355, R384) -/

/-- A channel is receiving (R384; log entry 91). -/
def State.receiving (s : State) (c : Nat) : Bool :=
  s.flag F.CLN_CH_CFG_EN c && s.rd F.CLN_CH_CFG_MODE c = 0 &&
    (match (s.chan c).heardAt with
      | some t => decide (s.up ≤ t + 300000000)
      | none => false)

/-- The conditions of health hold now. -/
def State.wellNow (s : State) : Bool :=
  s.rowState = rwWait && s.flag F.CLE_CTL_EN && s.psState ≠ psFreewheel && !s.evr.critEver &&
    ((List.range 2).all fun c => s.rd F.CLN_CH_STAT_STATE c = 0 && s.receiving c) &&
    (match s.row.peer with
      | some p => p.flags.testBit 2 && decide (s.up ≤ p.at_ + 300000000)
      | none => false) &&
    (match s.row.mirror with
      | some m => decide (s.up ≤ m.at_ + 300000000)
      | none => false)

/-- Health goes on, or lapses. -/
def State.healthCheck (s : State) : State :=
  if s.wellNow then (if s.row.okAt.isSome then s else s.modRow fun r => { r with okAt := some s.up })
  else s.modRow fun r => { r with okAt := none, well := false }

/-- HEALTHY as it reads: seconds of health, at most 60. -/
def State.healthSecs (s : State) : Nat :=
  if s.row.well then 60
  else match s.row.okAt with
    | some t => min 60 ((s.up - t) / 1000000000)
    | none => 0

/-- REQ: a row-active healthy for 60 s asks for control, unless NOREVERT is set (R353). -/
def State.reqFlag (s : State) : Bool := s.rowState = rwWait && s.role = 1 && !(s.flag F.ROW_STAT_NOREVERT) && s.row.well

/-- HEALTH_REACHED (R355). -/
def execHealthReached (s : State) : Out :=
  let t := s.healthCheck
  .next (if t.wellNow then t.modRow fun r => { r with well := true } else t)

/-! ### What the row frames carry (R344, R350, R351, R371, R372) -/

/-- The row slots. -/
def State.rowSlots (s : State) : List Nat := (List.range 32).filter fun k => (s.reg .ROW_SLOTS 0).getLsbD k

/-- A word as four bytes. -/
def wordBytes (w : Word) : List Byte := natLE 4 w.toNat

/-- The row configuration whose hash a heartbeat carries (R344). -/
def State.rowConfig (s : State) : List Byte :=
  s.rowSlots.flatMap (fun k => ([Reg.CLE_SLOT_CFG, .CLE_SLOT_IO, .CLE_SLOT_FE, .CLE_SLOT_REP] ++ slotWords).flatMap fun r => wordBytes (s.reg r k)) ++
    wordBytes (s.reg .ROW_PUMP_CFG 0) ++ wordBytes (s.reg .ROW_HEAT_CFG 0)

/-- First four bytes of its hash. -/
def State.rowHash (s : State) : List Byte := (Config.sha384 s.rowConfig).take 4

/-- Sequence of the last mirror set sent or received. -/
def State.mirSeq (s : State) : Nat :=
  if s.rowState = rwHold || s.row.releasing then s.row.outSeq
  else match s.row.mirror with
    | some m => m.seq
    | none => s.row.outSeq

/-- Bytes 1 onward of a heartbeat. -/
def State.hbBody (s : State) : List Byte :=
  natLE 1 (s.rowState + packBits [s.rowState = rwHold, s.row.releasing, s.reqFlag, s.row.well, s.flag F.ROW_STAT_NOREVERT] * 4) ++
    natLE 2 s.mirSeq ++ s.rowHash

/-- The last place of a value's block. -/
def lastPlace (v : Rat) : Rat :=
  match blockExp [v] with
  | some x => pow2 ((x : Int) - 150)
  | none => pow2 105

/-- An integrator's residue as a control word with X = 0, in steps of 2^-24 of the integrator's last place. -/
def residWord (i r : Rat) : Word := BitVec.ofNat 32 (sat24 (rneInt (r / lastPlace i * pow2 24)) % 2 ^ 24).toNat

/-- And back. -/
def residVal (i : Rat) (w : Word) : Rat := signedOf 24 w.toNat * lastPlace i * pow2 (-24)

/-- Numbers of 12 bits packed into one little-endian integer (R371). -/
def pack12 (l : List Nat) : Nat := l.foldr (fun (c a : Nat) => c % 4096 + 4096 * a) 0

/-- Caps of the 96 nodes; 0 for a node with no entry. -/
def State.capList (s : State) : List Nat :=
  (List.range 96).map fun i => if s.flag F.ROW_MEMBER_VALID i then s.rd F.ROW_MEMBER_CAP i else 0

/-- The image of a row slot. -/
def State.slotImage (s : State) (k : Nat) : List Byte :=
  let x := s.slot k
  [s.reg .CLE_SLOT_W_W k, cwOf x.w, cwOf x.v, cwOf x.a, cwOf x.integ, residWord x.integ x.resid, cwOf (s.applied k)].flatMap wordBytes

/-- The image of a pump. -/
def State.pumpImage (s : State) (k : Nat) : List Byte := natLE 1 (s.pumpSt k) ++ [0] ++ natLE 4 (s.rd F.ROW_PUMP_HOURS k) ++ [0, 0]

/-- The mirror image (R372), padded to whole parts. -/
def State.mirrorImage (s : State) : List Byte × State :=
  let t := s.roundNat 32 (((s.row.rotAt - s.up : Nat) : Rat) / 1000000000)
  let l := s.rowSlots.flatMap s.slotImage ++ (List.range 4).flatMap s.pumpImage ++ natLE 4 t.1 ++ natLE 2 s.row.capSeq ++
    natLE 1 (s.rd F.ROW_BUDGET_TRIM) ++ [0] ++ natLE 12 (packBits ((List.range 96).map fun i => s.flag F.ROW_MEMBER_SILENT i)) ++
    natLE 144 (pack12 s.capList)
  (l ++ List.replicate ((56 - l.length % 56) % 56) 0, t.2)

/-- A new mirror set is taken, with the next sequence number. -/
def State.newMirror (s : State) : State :=
  let m := s.mirrorImage
  m.2.modRow fun r => { r with outSeq := (r.outSeq + 1) % 65536, outImage := m.1 }

/-- Parts of the mirror set being sent. -/
def State.mirrorParts (s : State) : Nat := s.row.outImage.length / 56

/-- Bytes 1 onward of a part of it. -/
def State.mirrorBody (s : State) (k : Nat) : List Byte :=
  natLE 1 k ++ natLE 1 s.mirrorParts ++ [0] ++ natLE 2 s.row.outSeq ++ [0, 0] ++ sliceAt s.row.outImage (56 * k) 56

/-- Bytes 1 onward of a part of the cap table. -/
def State.tableBody (s : State) (k : Nat) : List Byte :=
  natLE 1 k ++ natLE 2 s.row.tableOut.1 ++ sliceAt s.row.tableOut.2 (48 * k) 48 ++ List.replicate 12 0

/-! ### Passing control (R348, R349, R352, R353, R356) -/

/-- Control is passed to the peer: the final mirror set, a heartbeat with RELEASING, the own line released; HANDBACK with a
notice record. -/
def State.handBack (s : State) : State :=
  let s1 := s.newMirror.modRow fun r => { r with releasing := true }
  let s2 := (List.range s1.mirrorParts).foldl (fun (s : State) (k : Nat) => s.queueFrame 3 (clarnId 5 3 s.node) (s.mirrorBody k) 34) s1
  (s2.queueFrame 3 (clarnId 2 2 s2.node) s2.hbBody 34).leaveHold.raise F.ROW_CAUSE_HANDBACK 0 1

/-- A spare takes the place of a missing duty pump (R345). -/
def State.fillDuty (s : State) : State :=
  (List.range 4).foldl (fun (s : State) (k : Nat) =>
    if (s.pumpsIn puDuty).length < s.nduty ∧ s.flag F.ROW_PUMP_FITTED k = true ∧ s.pumpSt k = puSpare then s.wr F.ROW_PUMP_STATE k puDuty else s) s

/-- Nanoseconds of the rotation period. -/
def State.rotPeriod (s : State) : Nat := s.rd F.ROW_PUMP_CFG_ROTATE * 86400000000000

/-- Pumps in their fitted order. -/
def State.startPumps (s : State) : State :=
  ((List.range 4).foldl (fun (s : State) (k : Nat) => s.wr F.ROW_PUMP_STATE k (if s.flag F.ROW_PUMP_FITTED k then puSpare else puOff)) s).fillDuty.modRow
    fun r => { r with rotAt := s.up + s.rotPeriod }

/-- A row slot resumes from its part of a mirror image. -/
def State.resumeSlot (s : State) (k : Nat) (l : List Byte) : State :=
  let w := fun (i : Nat) => (BitVec.ofNat 32 (leAt l (4 * i) 4) : Word)
  let u := cwVal (w 6)
  let s1 := (s.setReg .CLE_SLOT_W_W k (w 0)).modSlot k fun x => { x with
    w := cwVal (w 1), v := cwVal (w 2), a := cwVal (w 3), integ := cwVal (w 4), resid := residVal (cwVal (w 4)) (w 5)
    uc := u, uPrev := u, start := false, lost := false, match_ := none, old := none, y := none, d := 0 }
  let s2 := s1.stat k F.CLE_SLOT_STAT_HELD false
  if 0x80 ≤ s.dst k ∧ s.dst k < 0xC0 then s2.setAct (s.dst k) u else s2

/-- A mirror set is loaded (R352). -/
def State.loadMirror (s : State) (l : List Byte) : State :=
  let n := s.rowSlots.length
  let s1 := s.rowSlots.zipIdx.foldl (fun (s : State) (x : Nat × Nat) => s.resumeSlot x.1 (sliceAt l (28 * x.2) 28)) s
  let o := 28 * n
  let s2 := (List.range 4).foldl (fun (s : State) (k : Nat) =>
    (s.wr F.ROW_PUMP_STATE k (if s.flag F.ROW_PUMP_FITTED k then byteAt l (o + 8 * k) else puOff)).wr F.ROW_PUMP_HOURS k (leAt l (o + 8 * k + 2) 4)) s1
  let trim := byteAt l (o + 38)
  let s3 := (List.range 96).foldl (fun (s : State) (i : Nat) =>
    let c := bitsOf (leAt l (o + 52) 144) (12 * i) 12
    (s.wr F.ROW_MEMBER_SILENT i (bitsOf (leAt l (o + 40) 12) i 1)).wr F.ROW_MEMBER_CAP i c) s2
  (s3.wr F.ROW_BUDGET_TRIM 0 trim).fillDuty.modRow fun r => { r with
    rotAt := s.up + leAt l (o + 32) 4 * 1000000000, capSeq := leAt l (o + 36) 2, trim := (trim : Rat) }

/-- HOLD is entered: the newest mirror set is loaded, then the gate opens; at start-up step 8 the pumps are driven (R352,
R353, R438). -/
def State.enterHold (s : State) : State :=
  let s0 := s.modRow fun r => { r with releasing := false, okAt := none, well := false, kick := decide (s.rd F.CFG_STAT_STEP = 8) }
  let s1 := match s0.row.mirror with
    | some m => if 28 * s0.rowSlots.length + 196 ≤ m.image.length then
        (s0.loadMirror m.image).modRow fun r => { r with outSeq := m.seq } else s0.startPumps
    | none => (s0.rowSlots.foldl (fun (s : State) (k : Nat) => s.modSlot k fun x => { x with start := true }) s0).startPumps
  let s2 : State := { s1 with clarn := { s1.clarn with prevRef := none, capPart := 0, mirPart := 0 } }
  s2.rowGo rwHold true

/-- ACQUIRE_TIMEOUT (R348): the peer's line stayed high for 1 ms. -/
def execAcquireTimeout (s : State) : Out :=
  if s.rowState = rwAcquire ∧ s.peerLow = false then .next s.enterHold else .next s

/-- WAIT with the peer's heartbeat missing and its line high: control is taken, TAKEOVER with a warning record (R353). -/
def State.takeOver (s : State) : State :=
  if s.rowState = rwWait && s.role ≠ 0 && !(s.flag F.ROW_STAT_HB_OK) && !s.peerLow then
    (s.rowGo rwAcquire true).raise F.ROW_CAUSE_TAKEOVER 0 2
  else s

/-- ILK_IN_CHANGE (R346, R348, R353): the peer's line reads low or high. -/
def execIlkInChange (low : Bool) (s : State) : Out :=
  if s.boot.off then .next s
  else
    let s1 := (s.wr F.ROW_STAT_ILK_PEER 0 (if low then 1 else 0)).gateCheck
    if low && s1.rowState = rwAcquire && s1.role = 2 then .next (s1.rowGo rwWait false)
    else .next s1.relCheck.takeOver

/-- LISTEN_END (R353): after start-up step 6 the wait of LISTEN is over. -/
def execListenEnd (s : State) : Out :=
  if s.rowState = rwListen ∧ (s.role = 1 ∨ s.role = 2) ∧ 7 ≤ s.rd F.CFG_STAT_STEP ∧ s.rd F.CFG_STAT_STEP ≤ 10 then
    .next (if s.peerLow || s.peerFlag 2 then s.rowGo rwWait false else s.rowGo rwAcquire true)
  else .next s

/-- HB_MISSING (R350, R353): no valid heartbeat of the peer for 300 ms. -/
def execHbMissing (s : State) : Out :=
  if s.role = 0 then .next s
  else
    let s1 := (s.wr F.ROW_STAT_HB_OK 0 0).healthCheck
    if s1.rowState = rwWait && s1.peerLow then
      (if s1.row.stuck then .next s1 else .next ((s1.modRow fun r => { r with stuck := true }).raise F.ROW_CAUSE_ILK_STUCK 0 3))
    else .next s1.takeOver

/-- ILK_CONFLICT (R353): the peer's line has been high for 300 ms while its heartbeat shows HOLD. -/
def execIlkConflict (s : State) : Out :=
  if s.rowState = rwWait ∧ s.peerLow = false ∧ s.peerFlag 2 = true then .next (s.raise F.ROW_CAUSE_ILK_CONFLICT) else .next s

/-- HOLDER_SELF_RELEASE (R349): row slots that did not sample (0), frames that nobody acknowledged (1), or a row-active whose
peer's line reads low (2); HB_LOST has no cause bit (log entry 5). -/
def execHolderSelfRelease (why : Fin 3) (s : State) : Out :=
  if s.rowState ≠ rwHold then .next s
  else if why.val = 2 then
    (if s.role = 1 ∧ s.peerLow = true then .next (s.leaveHold.raise F.ROW_CAUSE_ILK_CONFLICT 0 2) else .next s)
  else .next (s.leaveHold.recordOpen 9 0 2)

/-- A hand-over (R356): one by a row-active sets NOREVERT. -/
def State.passControl (s : State) : State :=
  (if s.role = 1 then s.wr F.ROW_STAT_NOREVERT 0 1 else s).handBack

/-- A write of HANDOVER (R356): the holder passes control to a healthy peer; NOREVERT is set by a row-active and cleared by a
row-standby; each write is a change record. -/
def State.handover (s : State) (master : Nat) : State :=
  let c := s.logChange 9 0 (Reg.addr .ROW_CMD 0) 0 0x10 master
  if !c.2 then c.1
  else
    let s1 := c.1
    let hold := decide (s1.rowState = rwHold)
    let s2 := if hold && s1.role = 2 then s1.wr F.ROW_STAT_NOREVERT 0 0 else s1
    if hold && s2.flag F.ROW_STAT_HB_OK && s2.peerFlag 5 then
      s2.passControl
    else s2.raise F.ROW_CAUSE_CFGERR

/-- HANDOVER. -/
def execHandover (master : BitVec 10) (s : State) : Out := .next (s.handover master.toNat)

/-! ### Pumps (R345, R438) -/

/-- FAILED marks are cleared: such pumps are spares again. -/
def State.clearPumps (s : State) (m : Nat) : State :=
  let s1 := ((s.pumpsIn puFailed).filter fun k => m.testBit k).foldl (fun (s : State) (k : Nat) => s.wr F.ROW_PUMP_STATE k puSpare) s
  if s1.rowState = rwHold then s1.fillDuty else s1

/-- PUMPCLR (R345). -/
def execPumpclr (m : BitVec 4) (s : State) : Out := .next (s.clearPumps m.toNat)

/-- A write of ROW_CMD. -/
def State.writeRowCmd (s : State) (master : Nat) (w : Word) : State :=
  let s1 := s.clearPumps (fieldOf w F.ROW_CMD_PUMPCLR)
  if fieldOf w F.ROW_CMD_HANDOVER = 1 then s1.handover master else s1

/-- A pump of the holder fails: PUMP_FAIL with a warning record, a spare takes its place; a critical record when no pump is
left (R345, R361). -/
def State.failPump (s : State) (k : Nat) : State :=
  if s.rowState ≠ rwHold || !(s.flag F.ROW_PUMP_FITTED k) || s.pumpSt k = puFailed then s
  else
    let s1 := (((s.wr F.ROW_PUMP_STATE k puFailed).raiseFor F.ROW_CAUSE_PUMP_FAIL 0 k 2).modRow fun r =>
      { r with stopping := if r.stopping = some k then none else r.stopping }).fillDuty
    if s1.pumpsIn puDuty = [] then s1.record 9 1 6 k 3 else s1

/-- The pump of a list with the most or the fewest run hours; on a tie the lowest. -/
def State.byHours (s : State) (most : Bool) (l : List Nat) : Option Nat :=
  l.foldl (fun (b : Option Nat) (k : Nat) => match b with
    | none => some k
    | some j =>
      let x := s.rd F.ROW_PUMP_HOURS k
      let y := s.rd F.ROW_PUMP_HOURS j
      if (most && y < x) || (!most && x < y) then some k else some j) none

/-- PUMP_ROTATION (R345): the spare with the fewest run hours starts; the duty pump with the most is to stop. -/
def execPumpRotation (s : State) : Out :=
  if s.rowState ≠ rwHold ∨ s.rd F.ROW_PUMP_CFG_ROTATE = 0 then .next s
  else
    let s0 := s.modRow fun r => { r with rotAt := s.up + s.rotPeriod }
    match s.byHours true (s.pumpsIn puDuty), s.byHours false (s.pumpsIn puSpare) with
    | some o, some n => .next ((s0.wr F.ROW_PUMP_STATE n puDuty).modRow fun r => { r with stopping := some o })
    | _, _ => .next s0

/-- ROTATION_STOP_OLD (R345): 10 s later the old duty pump stops. -/
def execRotationStopOld (s : State) : Out :=
  match s.row.stopping with
  | none => .next s
  | some k =>
    let s1 := s.modRow fun r => { r with stopping := none }
    .next (if s1.rowState = rwHold ∧ s1.pumpSt k = puDuty then s1.wr F.ROW_PUMP_STATE k puSpare else s1)

/-- STARTUP_PUMP_KICK_END (R438): the pumps go to the row slots. -/
def execStartupPumpKickEnd (s : State) : Out := .next (s.modRow fun r => { r with kick := false })

/-- The speed every duty pump receives: the value applied at the lowest driven destination that commands a fitted pump. -/
def State.pumpSpeed (s : State) (own : Nat) : Rat :=
  if s.pumpFull then 100
  else match (List.range 64).find? fun v => s.txPump v && s.driven (0x80 + v) with
    | some v => s.act (0x80 + v)
    | none => s.act (0x80 + own)

/-- The value of a command for a node: the entry that names it; a pump that is not on duty receives 0. -/
def State.cmdValue (s : State) (cls node : Nat) : Option Rat :=
  match (List.range 64).find? fun v => s.txNames v cls node with
  | none => none
  | some v =>
    match (List.range 4).find? fun k => cls = 8 && s.flag F.ROW_PUMP_FITTED k && s.rd F.ROW_PUMP_NODE k = node with
    | some k => some (if s.pumpSt k = puDuty then s.pumpSpeed v else 0)
    | none => some (s.act (0x80 + v))

/-- Whether a pump is commanded above 20 % (R345). -/
def State.pumpDriven (s : State) (k : Nat) : Bool :=
  s.pumpSt k = puDuty && (match s.cmdValue 8 (s.rd F.ROW_PUMP_NODE k) with
    | some v => decide (20 < v)
    | none => false)

/-- PUMP_STATUS_TIMEOUT (R345): no status for 1 s, or a speed below half a command above 20 % for 5 s. -/
def execPumpStatusTimeout (k : Fin 4) (slow : Bool) (s : State) : Out :=
  if slow && !(s.pumpDriven k) then .next s else .next (s.failPump k)

/-- A command value in 0.01 %, rounded to nearest even and clamped (R375). -/
def hundredths (v : Rat) : Nat := (max 0 (min 10000 (rneInt (100 * v)))).toNat

/-! ### The budget and the caps (R357, R358) -/

/-- Members. -/
def State.rowMembers (s : State) : List Nat := (List.range 96).filter fun i => s.flag F.ROW_MEMBER_VALID i

/-- No status of a member for 1 s. -/
def State.silentNow (s : State) (i : Nat) : Bool :=
  match Assoc.find s.row.heard i with
  | some t => decide (t + 1000000000 < s.up)
  | none => true

/-- The reserve of a silent member: its last cap, or the stale cap as R276 lets it act, whichever is more. -/
def State.reserve (s : State) (i : Nat) : Nat := max (s.rd F.ROW_MEMBER_CAP i) ((capActs (s.rd F.ROW_CFG_STALE_CAP)).getD 0)

/-- A demand: member, demanded power, weight. -/
structure Demand where
  i : Nat
  d : Rat
  w : Rat
  deriving DecidableEq, Repr

/-- Share an excess over members that are not clamped, in proportion to weight; what clamps at 2,400 W is shared again. -/
def shareUp : Nat → Rat → List Demand → List (Nat × Rat)
  | 0, _, l => l.map fun x => (x.i, x.d)
  | n + 1, e, l =>
    let total := (l.map Demand.w).sum
    let g : List Demand := l.map fun x => { x with d := x.d + e * x.w / total }
    let top := g.filter fun x => 2400 < x.d
    if top = [] then g.map fun x => (x.i, x.d)
    else (top.map fun x => (x.i, (2400 : Rat))) ++ shareUp n ((top.map fun x => x.d - 2400).sum) (g.filter fun x => x.d ≤ 2400)

/-- A member's cap at level `L`. -/
def Demand.at_ (x : Demand) (L : Rat) : Rat := min x.d (max 600 (L * x.w))

/-- The largest level at which the caps sum to at most `b`. -/
def levelFor (b : Rat) (l : List Demand) : Rat :=
  let sum := fun (L : Rat) => (l.map fun x => x.at_ L).sum
  let marks := (l.flatMap fun x => [600 / x.w, x.d / x.w]).filter fun L => sum L ≤ b
  let m := marks.foldl max 0
  let slope := ((l.filter fun x => 600 / x.w ≤ m ∧ m < x.d / x.w).map Demand.w).sum
  if slope = 0 then m else m + (b - sum m) / slope

/-- Caps of the members that report, and whether the budget is short. -/
def shareCaps (b : Rat) (l : List Demand) : List (Nat × Rat) × Bool :=
  if l = [] then ([], false)
  else
    let sum := (l.map Demand.d).sum
    if b ≤ 600 * l.length then (l.map fun x => (x.i, (600 : Rat)), true)
    else if sum ≤ b then (shareUp 97 (b - sum) l, false)
    else let L := levelFor b l; (l.map fun x => (x.i, x.at_ L), false)

/-- TRIM moves with the supply temperature (R357). -/
def State.trimStep (s : State) : State :=
  let k := s.rd F.ROW_SRC_SUP_SLOT
  let t : State := match (s.slot k).y with
    | none => s.modRow fun r => { r with hiAt := none }
    | some y =>
      let d := y - (s.slot k).w
      let hi := if 1 < d then some (s.row.hiAt.getD s.up) else none
      let fall := match hi with
        | some a => decide (a + 10000000000 ≤ s.up)
        | none => false
      s.modRow fun r => { r with
        hiAt := hi
        trim := if fall then max 50 (r.trim - 1 / 5) else if |d| ≤ 1 / 2 then min 100 (r.trim + 1 / 20) else r.trim }
  let v := t.roundNat 7 t.row.trim
  v.2.wr F.ROW_BUDGET_TRIM 0 v.1

/-- The budget from the sources, when both are valid. -/
def State.budget (s : State) : Option Int :=
  match s.clarnWord (s.rd F.ROW_SRC_FW_FLOW), s.clarnWord (s.rd F.ROW_SRC_FW_TEMP) with
  | some f, some t =>
    let liq : Rat := if s.rd F.ROW_HEAT_CFG_LIQ = 0 then 100 else s.rd F.ROW_HEAT_CFG_LIQ
    let avail : Rat := (s.rd F.ROW_HEAT_CFG_EPS : Rat) / 100 * (6946 / 100) * f * ((s.rd F.ROW_HEAT_CFG_T_LIM : Rat) / 8 - t)
    let row := avail * s.row.trim / 100 - (s.rd F.ROW_HEAT_CFG2_H_FIXED : Rat)
    some (row / (liq / 100)).floor
  | _, _ => none

/-- ROW_BUDGET.B takes the budget; a value its field cannot hold shows a free one (log entry 13). -/
def State.showBudget (s : State) (b : Int) : State :=
  if 0 ≤ b ∧ b < 2 ^ 18 then s.wr F.ROW_BUDGET_B 0 b.toNat
  else let d := s.freeNat (2 ^ 18); d.2.wr F.ROW_BUDGET_B 0 d.1

/-- The budget of this computation: after 10 s without its inputs, the sum of the reserves, with BUDGET_INV; before that, what
it was. -/
def State.budgetStep (s : State) : Int × State :=
  match s.budget with
  | some b => (b, (s.showBudget b).modRow fun r => { r with invAt := none, invTold := false })
  | none =>
    let a := s.row.invAt.getD s.up
    let s1 := s.modRow fun r => { r with invAt := some a }
    if a + 10000000000 ≤ s.up then
      let b : Int := ((s1.rowMembers.map s1.reserve).sum : Nat)
      let s2 := s1.showBudget b
      (b, if s2.row.invTold then s2 else (s2.modRow fun r => { r with invTold := true }).raise F.ROW_CAUSE_BUDGET_INV)
    else (s1.rd F.ROW_BUDGET_B, s1)

/-- Caps are shared among the members (R358). -/
def State.shareStep (s : State) (b : Int) : State :=
  let ms := s.rowMembers
  let quiet := ms.filter s.silentNow
  let l : List Demand := (ms.filter fun i => !(s.silentNow i)).map fun i =>
    ({ i := i, d := max 600 (min 2400 ((s.rd F.ROW_MEMBER_P i : Rat) + s.rd F.ROW_HEAT_CFG2_HEADROOM)), w := max 1 (s.rd F.ROW_MEMBER_WEIGHT i) } : Demand)
  let r := shareCaps ((b - ((quiet.map s.reserve).sum : Nat) : Int) : Rat) l
  let s1 := quiet.foldl (fun (s : State) (i : Nat) => (s.wr F.ROW_MEMBER_CAP i (s.reserve i)).wr F.ROW_MEMBER_SILENT i 1) s
  let s2 := r.1.foldl (fun (s : State) (x : Nat × Rat) => (s.wr F.ROW_MEMBER_CAP x.1 x.2.floor.toNat).wr F.ROW_MEMBER_SILENT x.1 0) s1
  let s3 := if r.2 && !s2.row.short then s2.raise F.ROW_CAUSE_ROW_SHORT else s2
  s3.modRow fun x => { x with short := r.2, capSeq := (x.capSeq + 1) % 65536 }

/-- 100 ms of run time for each pump on duty. -/
def State.runHours (s : State) : State :=
  (s.pumpsIn puDuty).foldl (fun (s : State) (k : Nat) =>
    let n := Assoc.get 0 s.row.runMs k + 100
    if n < 360000 then s.modRow fun r => { r with runMs := Assoc.set 0 r.runMs k n }
    else (s.count F.ROW_PUMP_HOURS k).modRow fun r => { r with runMs := Assoc.set 0 r.runMs k 0 }) s

/-- ROW_BUDGET_COMPUTE (R357, R358): every 100 ms the holder computes trim, budget and caps. -/
def execRowBudgetCompute (s : State) : Out :=
  if s.rowState ≠ rwHold then .next s
  else
    let b := s.trimStep.runHours.budgetStep
    .next (b.2.shareStep b.1)

/-! ### Row caps at a member (R276, R359, R360) -/

/-- A row cap takes effect; a change of STALE writes a notice record. -/
def State.rowCap (s : State) (w : Nat) (stale : Bool) : State :=
  let was := s.flag F.PWR_CAP_ROW_STALE
  let s1 := (s.wr F.PWR_CAP_ROW_WATTS 0 w).wr F.PWR_CAP_ROW_STALE 0 (if stale then 1 else 0)
  let s2 := if stale && !was then s1.raise F.PWR_CAUSE_ROW_STALE 0 1 else if was && !stale then s1.recordOpen 2 0 1 else s1
  s2.recap

/-- CAP_TABLE_STALE (R360): the last accepted table is older than 2 s. -/
def execCapTableStale (s : State) : Out :=
  if s.flag F.ROW_CFG_MEMBER = true ∧ s.row.tableAt.isSome = true ∧ s.flag F.PWR_CAP_ROW_STALE = false then
    .next (s.rowCap (s.rd F.ROW_CFG_STALE_CAP) true)
  else .next s

/-- A part of a cap table reaches a member (R359). -/
def State.actCapTable (s : State) (d : List Byte) : State :=
  if !(s.flag F.ROW_CFG_MEMBER) then s
  else
    let k := byteAt d 1
    let q := leAt d 2 2
    let l := (s.row.tparts.filter fun (x : Nat × Nat × List Byte) => x.1 = q && x.2.1 ≠ k) ++ [(q, k, sliceAt d 4 48)]
    let s1 := s.modRow fun r => { r with tparts := l }
    if !((List.range 3).all fun p => l.any fun x => x.2.1 = p) then s1
    else
      let own := s.node / 32
      let cap := match l.find? fun x => x.2.1 = own with
        | some x => bitsOf (leAt x.2.2 0 48) (12 * (s.node % 32)) 12
        | none => 0
      let s2 := s1.modRow fun r => { r with tparts := [] }
      if cap = 0 then s2
      else (s2.modRow fun r => { r with tseq := q, tableAt := some s.up }).rowCap cap false

/-! ### Frames of the row classes -/

/-- A peer's heartbeat (R344, R350, R353, R356): its flags and hash; NOREVERT follows the holder's, and a peer that has just
started clears it. -/
def State.actHb (s : State) (d : List Byte) : State :=
  if s.role = 0 then s
  else
    let fl := byteAt d 1
    let p : RowPeer := { at_ := s.up, flags := fl, seq := leAt d 2 2, hash := sliceAt d 4 4 }
    let s1 := (s.modRow fun r => { r with peer := some p, stuck := false, releasing := r.releasing && fl % 4 < 2 }).wr F.ROW_STAT_HB_OK 0 1
    let bad := decide (p.hash ≠ s.rowHash)
    let s2 := if bad && !s.row.diff then s1.raise F.ROW_CAUSE_CFG_DIFF 0 2 else s1
    let s3 := s2.modRow fun r => { r with diff := bad }
    let s4 := if s3.rowState = rwWait && (fl.testBit 2 || fl.testBit 3) then s3.wr F.ROW_STAT_NOREVERT 0 (if fl.testBit 6 then 1 else 0)
      else if s3.rowState = rwHold && fl % 4 = rwListen then s3.wr F.ROW_STAT_NOREVERT 0 0 else s3
    s4.relCheck.healthCheck

/-- A part of a mirror set (R351). -/
def State.actMirror (s : State) (d : List Byte) : State :=
  if s.role = 0 || s.rowState = rwHold then s
  else
    let k := byteAt d 1
    let n := byteAt d 2
    let q := leAt d 4 2
    let l := (s.row.parts.filter fun (x : Nat × Nat × Nat × List Byte) => x.1 = q && x.2.1 = n && x.2.2.1 ≠ k) ++ [(q, n, k, sliceAt d 8 56)]
    if 0 < n && (List.range n).all fun p => l.any fun x => x.2.2.1 = p then
      let image := (List.range n).flatMap fun p => match l.find? fun x => x.2.2.1 = p with
        | some x => x.2.2.2
        | none => []
      (s.modRow fun r => { r with parts := [], mirror := some { seq := q, at_ := s.up, image := image } }).relCheck.healthCheck
    else s.modRow fun r => { r with parts := l }

/-- MIRROR_OLD (R351): the newest mirror set is older than 300 ms. -/
def execMirrorOld (s : State) : Out :=
  if s.role ≠ 0 ∧ s.rowState ≠ rwHold ∧ s.row.mirror.isSome = true then .next (s.raise F.ROW_CAUSE_MIRROR_OLD).healthCheck else .next s

/-- MIRROR_AGE as it reads, in ms. -/
def State.mirrorAge (s : State) : Nat :=
  match s.row.mirror with
  | some m => min 0xFFFF ((s.up - m.at_) / 1000000)
  | none => 0xFFFF

/-- A member's status (R358): its power. -/
def State.actModStatus (s : State) (node : Nat) (d : List Byte) : State :=
  if s.role ≠ 0 && node < 96 && s.flag F.ROW_MEMBER_VALID node then
    (s.wr F.ROW_MEMBER_P node (min 4095 (leAt d 2 2))).modRow fun r => { r with heard := Assoc.put r.heard node s.up }
  else s

/-- A pump drive's status (R345): a fault fails the pump. -/
def State.actPumpStatus (s : State) (node : Nat) (d : List Byte) : State :=
  if (byteAt d 1).testBit 1 then
    ((List.range 4).filter fun k => s.rd F.ROW_PUMP_NODE k = node).foldl (fun (s : State) (k : Nat) => s.failPump k) s
  else s

/-! ### The base tick (R286) -/

/-- The control engine has power and time: not in Off, nor from Freewheel until the wake out of it (R309). -/
def State.cleRuns (s : State) : Bool :=
  !s.boot.off && s.psState ≠ psFreewheel && !(s.psState = psWaking && s.psTgt = psStandby)

/-- One tick: the slots due compute in ascending order, and trace buffers take their samples; the slots that were due. -/
def State.cleTick (s : State) : State × List Nat :=
  let n := s.cle.ticks + 1
  let s0 : State := { s with cle := { s.cle with ticks := n } }
  let on := s0.flag F.CLE_CTL_EN
  let due := (List.range 32).filter fun k =>
    let p := s0.rd F.CLE_SLOT_CFG_PERIOD k
    on && s0.slotOn k && 1 ≤ p && p ≤ 200000 && n % p = 0
  let s1 := due.foldl (fun (s : State) (k : Nat) =>
    ((List.range 4).filter fun b => s.rd F.CLE_TRC_CFG_DIV b = 0 && s.rd F.CLE_TRC_CFG_TSLOT b = k).foldl
      (fun (s : State) (b : Nat) => s.traceTake b) (s.sample k)) s0
  let s2 := ((List.range 4).filter fun b => s1.rd F.CLE_TRC_CFG_DIV b ≠ 0 && n % s1.rd F.CLE_TRC_CFG_DIV b = 0).foldl
    (fun (s : State) (b : Nat) => s.traceTake b) s1
  ({ s2 with boot := { s2.boot with sampled := s2.boot.sampled || due ≠ [] } }, due)

/-- A holder whose own compute is stopped by a leak response, a thermal trip or a tray shutdown (R361). -/
def State.ownStop (s : State) : Bool := s.flag F.CIO_LEAK_STAT_LATCH || s.flag F.PWR_TRIP_TRIPPED || s.boot.shut.isSome

/-- CLE_TICK (R286); a holder asked for control releases it at a sample of a row slot (R355), and one whose own compute is
stopped hands over there to a healthy peer (R361; log entry 57). -/
def execCleTick (s : State) : Out :=
  if !s.cleRuns then .next s
  else
    let t := s.cleTick
    let may := t.1.rowState = rwHold && t.1.flag F.ROW_STAT_HB_OK && t.1.peerFlag 5 && t.2.any fun k => (t.1.reg .ROW_SLOTS 0).getLsbD k
    .next (if may && t.1.peerFlag 4 then t.1.handBack else if may && t.1.ownStop then t.1.passControl else t.1)

end Sys2Proof.Machine
end

