-- ==== Sys2Proof/Machine/Clarn.lean ====
section
/-! DEFINITION.  The Clarn bus (R364 to R388): channels and bit timing, cycles and the schedule matrix, the event queue,
errors, the duplicate filter, the receive queues, and acting on received frames. -/

namespace Sys2Proof.Machine

/-- One bit of a field of several. -/
def Fld.bit (f : Fld) (c : Nat) : Fld := { reg := f.reg, hi := f.lo + c, lo := f.lo + c }

/-! ### Channels (R365, R367, R384, R388) -/

/-- Lengths an FD frame has. -/
def fdLen (n : Nat) : Bool := n ≤ 8 || n = 12 || n = 16 || n = 20 || n = 24 || n = 32 || n = 48 || n = 64

/-- A channel takes part in the bus. -/
def State.chanOn (s : State) (c : Nat) : Bool := !s.boot.off && s.flag F.CLN_CH_CFG_EN c && s.rd F.CLN_CH_STAT_STATE c ≠ 2

/-- The bit timing lies within the table of R367. -/
def State.timingOk (s : State) (c : Nat) : Bool :=
  let nb := (s.rd F.CLN_NBT_NPRE c + 1) * (3 + s.rd F.CLN_NBT_NTSEG1 c + s.rd F.CLN_NBT_NTSEG2 c)
  let db := (s.rd F.CLN_DBT_DPRE c + 1) * (3 + s.rd F.CLN_DBT_DTSEG1 c + s.rd F.CLN_DBT_DTSEG2 c)
  1 ≤ s.rd F.CLN_NBT_NTSEG1 c && 1 ≤ s.rd F.CLN_NBT_NTSEG2 c && s.rd F.CLN_NBT_NSJW c ≤ s.rd F.CLN_NBT_NTSEG2 c &&
    s.rd F.CLN_DBT_DSJW c ≤ s.rd F.CLN_DBT_DTSEG2 c && 80 ≤ nb && 10 ≤ db && db ≤ nb

/-- A refused write or enable. -/
def State.clnErr (s : State) : State := s.raise F.CLN_CAUSE_CFGERR

/-- A channel is disabled: what waits on it is freed. -/
def State.chanStop (s : State) (c : Nat) : State :=
  ((((s.wr F.CLN_CH_CFG_EN c 0).wr F.CLN_CH_STAT_STATE c 3).wr F.CLN_CH_STAT_TEC c 0).wr F.CLN_CH_STAT_REC c 0).modChan c
    (fun h => { h with pend := [], heardAt := none }) |>.busyShow

/-- A write of CLN_CH_CFG (R367, R388): MODE and TERM are fixed while the channel is enabled; the timing is checked at its
enable. -/
def State.writeChCfg (s : State) (c : Nat) (w : Word) : State :=
  let s1 := s.wr F.CLN_CH_CFG_TDC_EN c (fieldOf w F.CLN_CH_CFG_TDC_EN)
  let on := fieldOf w F.CLN_CH_CFG_EN = 1
  if s.flag F.CLN_CH_CFG_EN c then
    let same := fieldOf w F.CLN_CH_CFG_MODE = s.rd F.CLN_CH_CFG_MODE c && fieldOf w F.CLN_CH_CFG_TERM = s.rd F.CLN_CH_CFG_TERM c
    let s2 := if same then s1 else s1.clnErr
    if on then s2 else s2.chanStop c
  else
    let s2 := (s1.wr F.CLN_CH_CFG_MODE c (fieldOf w F.CLN_CH_CFG_MODE)).wr F.CLN_CH_CFG_TERM c (fieldOf w F.CLN_CH_CFG_TERM)
    if !on then s2
    else if s2.timingOk c && s2.rd F.CLN_CH_CFG_MODE c ≠ 3 then
      (((s2.wr F.CLN_CH_CFG_EN c 1).wr F.CLN_CH_STAT_STATE c 0).wr F.CLN_CH_STAT_TEC c 0).wr F.CLN_CH_STAT_REC c 0
    else s2.clnErr

/-- CLN_CH_CFG_WRITE. -/
def execClnChCfgWrite (c : Fin 2) (w : Word) (s : State) : Out := .next (s.writeChCfg c w)

/-- A write of CLN_NBT or CLN_DBT (R388). -/
def State.writeTiming (s : State) (r : Reg) (c : Nat) (w : Word) : State :=
  if s.flag F.CLN_CH_CFG_EN c then s.clnErr else s.setReg r c (w &&& Reg.accMask r .RW)

/-! ### Error confinement (R384) -/

/-- The state that goes with the error counters; 127 is as far as REC shows. -/
def State.confine (s : State) (c tec rec_ : Nat) : State :=
  let was := s.rd F.CLN_CH_STAT_STATE c
  let s1 := (s.wr F.CLN_CH_STAT_TEC c (min 255 tec)).wr F.CLN_CH_STAT_REC c (min 127 rec_)
  if 255 < tec then
    ((s1.wr F.CLN_CH_STAT_STATE c 2).count F.BUSOFF_CNT_COUNT c).raise (F.CLN_CAUSE_BUSOFF.bit c) 0 2
  else if 127 < tec ∨ 127 < rec_ then
    (if was = 1 then s1 else (s1.wr F.CLN_CH_STAT_STATE c 1).raise (F.CLN_CAUSE_PASSIVE.bit c))
  else s1.wr F.CLN_CH_STAT_STATE c 0

/-- CLARN_BUS_ERROR: the counters of ISO 11898-1 take new values. -/
def execClarnBusError (c : Fin 2) (tec rec_ : BitVec 9) (s : State) : Out :=
  if s.chanOn c then .next (s.confine c tec.toNat rec_.toNat).healthCheck else .next s

/-- BUSOFF_RECOVERY. -/
def execBusoffRecovery (c : Fin 2) (s : State) : Out :=
  if s.flag F.CLN_CH_CFG_EN c ∧ s.rd F.CLN_CH_STAT_STATE c = 2 then
    .next (((s.wr F.CLN_CH_STAT_STATE c 0).wr F.CLN_CH_STAT_TEC c 0).wr F.CLN_CH_STAT_REC c 0)
  else .next s

/-- A frame sent lowers TEC by 1. -/
def State.txGood (s : State) (c : Nat) : State :=
  let t := s.rd F.CLN_CH_STAT_TEC c - 1
  let s1 := s.wr F.CLN_CH_STAT_TEC c t
  if s.rd F.CLN_CH_STAT_STATE c = 1 ∧ t < 128 ∧ s.rd F.CLN_CH_STAT_REC c < 127 then s1.wr F.CLN_CH_STAT_STATE c 0 else s1

/-- A frame received lowers REC by 1, or brings it from above 127 to 119 to 127. -/
def State.rxGood (s : State) (c : Nat) : State :=
  let r := s.rd F.CLN_CH_STAT_REC c
  if s.rd F.CLN_CH_STAT_STATE c = 1 ∧ r = 127 then
    let d := s.freeNat 9
    let s1 := d.2.wr F.CLN_CH_STAT_REC c (119 + d.1)
    if s1.rd F.CLN_CH_STAT_TEC c < 128 then s1.wr F.CLN_CH_STAT_STATE c 0 else s1
  else s.wr F.CLN_CH_STAT_REC c (r - 1)

/-! ### Receive queues (R382, R387) -/

/-- FILL follows the queue. -/
def State.fillShow (s : State) (c : Nat) : State := s.wr F.CLN_RXQ_STAT_FILL c (s.chan c).rxq.length

/-- An accepted frame enters its channel's queue. -/
def State.rxStore (s : State) (c i : Nat) (loop : Bool) (d : List Byte) : State :=
  let k := idClass i
  let wanted := loop || (if k < 32 then (s.reg .CLN_RXQ_MASK_LO 0).getLsbD k else (s.reg .CLN_RXQ_MASK_HI 0).getLsbD (k - 32))
  if !wanted then s
  else if 256 ≤ (s.chan c).rxq.length then
    let s1 := s.count F.RX_DROP_COUNT c
    if (s.chan c).dropping then s1 else (s1.modChan c fun h => { h with dropping := true }).raise (F.CLN_CAUSE_RXOVF.bit c)
  else (s.modChan c fun h => { h with rxq := h.rxq ++ [({ stamp := s.micros, id := i, loop := loop, data := d } : RxEnt)], dropping := false }).fillShow c

/-- The oldest entries are released. -/
def State.ackRx (s : State) (c n : Nat) : State :=
  let k := min n (s.chan c).rxq.length
  let s1 := s.modChan c fun h => { h with rxq := h.rxq.drop k, dropping := h.dropping && k = 0 }
  (s1.wr F.CLN_RXQ_STAT_OLDEST c ((s.rd F.CLN_RXQ_STAT_OLDEST c + k) % 256)).fillShow c

/-- CLN_RXQ_ACK (R382). -/
def execClnRxqAck (c : Fin 2) (n : BitVec 9) (s : State) : Out := .next (s.ackRx c n.toNat)

/-- Word `w` of the entry at the cursor. -/
def State.rxWord (s : State) (c w : Nat) : Word :=
  let q := (s.chan c).rxq
  let o := s.rd F.CLN_RXQ_CUR_OFF c
  match q[if q.length ≤ o then 0 else o]? with
  | none => 0
  | some e =>
    match w with
    | 0 => wd e.stamp
    | 1 => wd (e.id + if e.loop then 2 ^ 29 else 0)
    | 2 => wd e.data.length
    | k + 3 => wd (leAt e.data (4 * k) 4)

/-! ### Cycles (R374) -/

/-- Cycles of a matrix period. -/
def State.ncyc (s : State) : Nat := max 1 (min 16 (s.rd F.CLN_CTL_NCYC))

/-- A cycle starts: writes of the matrix and the maps take effect, and a matrix period begins when the number falls. -/
def State.startCycle (s : State) (n : Nat) : State :=
  let new := decide (n ≤ s.clarn.cycle)
  { s with clarn := { s.clarn with
      cycle := n, staged := [], capPart := if new then 0 else s.clarn.capPart, mirPart := if new then 0 else s.clarn.mirPart } }

/-- CYCLE_START: the holder sends REF; a module without REF runs on its own timer. -/
def execCycleStart (s : State) : Out :=
  if s.boot.off then .next s
  else
    let n := (s.clarn.cycle + 1) % s.ncyc
    if s.rowState = rwHold then
      let s1 := s.startCycle n
      let s2 := s1.queueFrame 3 (clarnId 0 0 s1.node) (natLE 1 n ++ natLE 1 s1.ncyc ++ [0] ++ natLE 8 (s1.clarn.prevRef.getD 0)) 33
      .next { s2 with clarn := { s2.clarn with prevRef := some s2.timeBase.toNat } }
    else if s.clarn.noRef then .next (s.startCycle n)
    else .next s

/-- REF_LOST: no REF was accepted for two cycles. -/
def execRefLost (s : State) : Out :=
  if s.rowState = rwHold ∨ s.clarn.noRef = true ∨ ((List.range 2).all fun c => !(s.chanOn c)) then .next s
  else .next ({ s with clarn := { s.clarn with noRef := true } }.raise F.CLN_CAUSE_REF_LOST)

/-! ### Acting on frames (R369 to R371, R382, R385) -/

/-- Lengths of the catalogue (R371). -/
def classLen (c : Nat) : Nat := [12, 64, 8, 64, 16, 8, 0, 0, 8, 8, 8, 8, 12, 8, 8, 8].getD c 0

/-- A class of the catalogue. -/
def listedClass (c : Nat) : Bool := c < 16 && c ≠ 6 && c ≠ 7

/-- SEQ `q` is accepted (R370). -/
def State.rxAccepts (s : State) (i q : Nat) : Bool :=
  match Assoc.find s.clarn.held i with
  | none => true
  | some h => if q = 0 then h ≠ 0 else h = 0 || (let d := (q + 255 - h) % 255; 1 ≤ d && d ≤ 127)

/-- A REF (R374). -/
def State.actRef (s : State) (d : List Byte) : State :=
  if s.rowState = rwHold then s else { s.startCycle (byteAt d 1 % 16) with clarn := { (s.startCycle (byteAt d 1 % 16)).clarn with noRef := false } }

/-- What a frame of a listed class does. -/
def State.actClass (s : State) (cls node : Nat) (d : List Byte) : State :=
  match cls with
  | 0 => s.actRef d
  | 1 => s.actCapTable d
  | 2 => s.actHb d
  | 3 => s.actMirror d
  | 4 => s.actModStatus node d
  | 9 => s.actPumpStatus node d
  | 15 => s.raise F.CLN_CAUSE_HELLO
  | _ => s

/-- An accepted frame is acted on when its class is listed, with the catalogue's priority and length; the latest of each class
and node is kept for the received values (R371, R383). -/
def State.actFrame (s : State) (i : Nat) (d : List Byte) : State :=
  let cls := idClass i
  if listedClass cls && i / 2 ^ 26 % 8 = classPrio cls && d.length = classLen cls then
    let s1 : State := { s with clarn := { s.clarn with got := Assoc.put s.clarn.got (cls * 128 + idNode i) (s.up, d) } }
    (s1.actClass cls (idNode i) d).healthCheck
  else s

/-- A frame passes the duplicate filter of a channel, is queued, and is acted on unless it is looped back. -/
def State.filterIn (s : State) (c i : Nat) (loop : Bool) (d : List Byte) : State :=
  let q := byteAt d 0
  if !(s.rxAccepts i q) then s.count F.DUPLICATE_COUNT c
  else
    let s1 : State := { s with clarn := { s.clarn with held := Assoc.put s.clarn.held i q } }
    if loop then s1.rxStore c i true d
    else ((s1.modChan c fun h => { h with heardAt := some s.up }).rxStore c i false d).actFrame i d

/-- A frame arrives on a channel. -/
def State.frameIn (s : State) (c : Nat) (f : CanFrame) : State :=
  if !(s.chanOn c) || s.rd F.CLN_CH_CFG_MODE c = 1 then s
  else
    let s1 := s.rxGood c
    if !f.fdExt || f.id.toNat % 2 ^ 13 ≠ 0 then s1.count F.IGNORED_COUNT c
    else s1.filterIn c f.id.toNat (s1.rd F.CLN_CH_CFG_MODE c = 2) f.data

/-- A payload as CAN FD carries it: at most 64 bytes, filled up with zeros to the next length there is (log entry 8). -/
def fdData (l : List Byte) : List Byte :=
  let t := l.take 64
  let n := ([8, 12, 16, 20, 24, 32, 48, 64].find? fun n => t.length ≤ n).getD 64
  if fdLen t.length then t else t ++ List.replicate (n - t.length) 0

/-- A frame arrives that a row of the catalogue names; its identifier says its class. -/
def rxRow (c : Nat) (f : CanFrame) (s : State) : Out := .next (s.frameIn c { f with data := fdData f.data })

/-- CLARN_FRAME_RECEIVE (R364, R382): any frame. -/
def execClarnFrameReceive (c : Fin 2) (f : CanFrame) (s : State) : Out := .next (s.frameIn c { f with data := fdData f.data })

/-- REF. -/
def execRef (c : Fin 2) (f : CanFrame) (s : State) : Out := rxRow c f s

/-- CAP_TABLE. -/
def execCapTable (c : Fin 2) (f : CanFrame) (s : State) : Out := rxRow c f s

/-- HB. -/
def execHb (c : Fin 2) (f : CanFrame) (s : State) : Out := rxRow c f s

/-- MIRROR. -/
def execMirror (c : Fin 2) (f : CanFrame) (s : State) : Out := rxRow c f s

/-- MOD_STATUS. -/
def execModStatus (c : Fin 2) (f : CanFrame) (s : State) : Out := rxRow c f s

/-- MOD_ALARM. -/
def execModAlarm (c : Fin 2) (f : CanFrame) (s : State) : Out := rxRow c f s

/-- PUMP_STATUS. -/
def execPumpStatus (c : Fin 2) (f : CanFrame) (s : State) : Out := rxRow c f s

/-- VALVE_STATUS. -/
def execValveStatus (c : Fin 2) (f : CanFrame) (s : State) : Out := rxRow c f s

/-- SENSOR_VALUE. -/
def execSensorValue (c : Fin 2) (f : CanFrame) (s : State) : Out := rxRow c f s

/-- LEAK_STATUS. -/
def execLeakStatus (c : Fin 2) (f : CanFrame) (s : State) : Out := rxRow c f s

/-- NODE_HELLO. -/
def execNodeHello (c : Fin 2) (f : CanFrame) (s : State) : Out := rxRow c f s

/-- SEQ_FORGET (R370): 1 s without an accepted frame of an identifier. -/
def execSeqForget (id : BitVec 29) (s : State) : Out :=
  .next { s with clarn := { s.clarn with held := Assoc.erase s.clarn.held id.toNat } }

/-! ### The schedule matrix (R375 to R378) -/

/-- Field in hundredths of a source; one that is invalid shows a free value (log entry 13). -/
def State.field16 (s : State) (v : Option Rat) : Nat × State :=
  match v with
  | some x => let r := s.roundOff (100 * x); ((r.1 % 65536).toNat, r.2)
  | none => s.freeNat 65536

/-- Bytes 1 onward of MOD_STATUS: the module's own readings. -/
def State.statusBody (s : State) : List Byte × State :=
  let a := s.field16 (s.pair 1)
  let b := a.2.field16 (s.pair 0)
  let c := b.2.field16 s.branchFlow
  (natLE 1 (packBits [s.flag F.ROW_CFG_MEMBER, s.flag F.CIO_LEAK_STAT_LATCH, s.diActive 3, s.flag F.PWR_TRIP_TRIPPED, s.flag F.PWR_CAP_ROW_STALE]) ++
    natLE 2 (s.rd F.PWR_INPUT_P_1S) ++ natLE 2 (s.rd F.PWR_CAP_EFF_WATTS) ++ natLE 2 a.1 ++ natLE 2 b.1 ++ natLE 2 c.1 ++ natLE 2 s.row.tseq ++ [0, 0],
    c.2)

/-- What a cell builds: bytes 1 onward of its frame, where it builds one. -/
def State.cellBody (s : State) (cls node : Nat) : Option (List Byte) × State :=
  let hold := decide (s.rowState = rwHold)
  match cls with
  | 1 =>
    let k := s.clarn.capPart
    if hold && k < 3 then
      let s1 := if k = 0 then s.modRow fun r => { r with tableOut := (r.capSeq, natLE 144 (pack12 s.capList)) } else s
      (some (s1.tableBody k), { s1 with clarn := { s1.clarn with capPart := k + 1 } })
    else (none, s)
  | 2 => (if s.role ≠ 0 then some s.hbBody else none, s)
  | 3 =>
    let k := s.clarn.mirPart
    let s1 := if hold && k = 0 then s.newMirror else s
    if hold && k < s1.mirrorParts then (some (s1.mirrorBody k), { s1 with clarn := { s1.clarn with mirPart := k + 1 } }) else (none, s1)
  | 4 => if s.flag F.ROW_CFG_MEMBER || s.role ≠ 0 then let r := s.statusBody; (some r.1, r.2) else (none, s)
  | 8 => (if hold then (s.cmdValue 8 node).map fun v => natLE 1 (if 0 < hundredths v then 1 else 0) ++ natLE 2 (hundredths v) ++ [0, 0, 0, 0] else none, s)
  | 10 => (if hold then (s.cmdValue 10 node).map fun v => [0] ++ natLE 2 (hundredths v) ++ [0, 0, 0, 0] else none, s)
  | _ => (none, s)

/-- SCHED_SLOT (R375): the cell of the current cycle and slot builds its frame and queues it on both channels; what the
module sends as a holder it also takes itself (log entry 50). -/
def execSchedSlot (slot : Fin 32) (s : State) : Out :=
  let w := s.inForce .CLN_SCHED (32 * s.clarn.cycle + slot.val)
  if s.boot.off ∨ slot.val = 0 ∨ s.ncyc ≤ s.clarn.cycle ∨ fieldOf w F.CLN_SCHED_VALID = 0 then .next s
  else
    let cls := fieldOf w F.CLN_SCHED_CLASS
    let node := fieldOf w F.CLN_SCHED_NODE
    match s.cellBody cls node with
    | (none, t) => .next t
    | (some b, t) =>
      let s1 := t.queueFrame 3 (clarnId (classPrio cls) cls node) b 33
      .next (if (cls = 1 ∧ t.gateOpen = true) ∨ (cls = 4 ∧ node = t.node) then s1.actClass cls node (0 :: b) else s1)

/-- Valid entries of CLN_TXMAP that no cell in use names (R377). -/
def State.orphans (s : State) : List Nat :=
  let cells := (List.range (32 * s.ncyc)).filterMap fun k =>
    let w := s.reg .CLN_SCHED k
    if k % 32 ≠ 0 ∧ fieldOf w F.CLN_SCHED_VALID = 1 then some (fieldOf w F.CLN_SCHED_CLASS, fieldOf w F.CLN_SCHED_NODE) else none
  (List.range 64).filter fun v =>
    let w := s.reg .CLN_TXMAP v
    fieldOf w F.CLN_TXMAP_VALID = 1 && !(cells.elem (fieldOf w F.CLN_TXMAP_CLASS, fieldOf w F.CLN_TXMAP_NODE))

/-- Each entry that is never sent raises CFGERR with a warning record naming it, from start-up step 6 on. -/
def State.cellCheck (s : State) : State := if s.rd F.CFG_STAT_STEP < 6 then s else s.orphans.foldl (fun (s : State) (v : Nat) => s.raise F.CLN_CAUSE_CFGERR 0 2 [wd v]) s

/-- A write of CLN_SCHED (R388). -/
def State.writeSched (s : State) (k : Nat) (w : Word) : State :=
  let c := fieldOf w F.CLN_SCHED_CLASS
  if fieldOf w F.CLN_SCHED_VALID = 1 && !([1, 2, 3, 4, 8, 10].elem c) then s.clnErr
  else (s.stage .CLN_SCHED k (w &&& Reg.accMask .CLN_SCHED .RW)).cellCheck

/-- A write of CLN_TXMAP. -/
def State.writeTxmap (s : State) (v : Nat) (w : Word) : State :=
  let c := fieldOf w F.CLN_TXMAP_CLASS
  if fieldOf w F.CLN_TXMAP_VALID = 1 && c ≠ 8 && c ≠ 10 then s.clnErr
  else (s.stage .CLN_TXMAP v (w &&& Reg.accMask .CLN_TXMAP .RW)).cellCheck

/-- A write of CLN_RXMAP. -/
def State.writeRxmap (s : State) (v : Nat) (w : Word) : State := (s.stage .CLN_RXMAP v (w &&& Reg.accMask .CLN_RXMAP .RW)).cellCheck

/-- A write of CLN_CTL: ignored while a channel is enabled. -/
def State.writeClnCtl (s : State) (w : Word) : State :=
  if s.flag F.CLN_CH_CFG_EN 0 || s.flag F.CLN_CH_CFG_EN 1 then s.clnErr else (s.setReg .CLN_CTL 0 (w &&& Reg.accMask .CLN_CTL .RW)).cellCheck

/-- Write a cell of the default matrix. -/
def State.putCell (s : State) (cycle slot cls node : Nat) : State :=
  if slot < 32 then
    let k := 32 * cycle + slot
    ((s.wr F.CLN_SCHED_VALID k 1).wr F.CLN_SCHED_CLASS k cls).wr F.CLN_SCHED_NODE k node
  else s

/-- The matrix of R376. -/
def State.fillMatrix (s : State) : State :=
  let n := s.node
  let row := decide (s.role ≠ 0)
  let s1 := if row then
      let a := (s.putCell 0 1 2 n).putCell 5 1 2 n
      let b := (List.range 20).foldl (fun (s : State) (i : Nat) => s.putCell 1 (1 + i) 3 n) a
      let c := (List.range 3).foldl (fun (s : State) (i : Nat) => s.putCell 2 (1 + i) 1 n) b
      let es := (List.range 64).filter fun v => s.flag F.CLN_TXMAP_VALID v
      es.zipIdx.foldl (fun (s : State) (x : Nat × Nat) =>
        let cyc := [3, 4, 6, 7].getD (x.2 / 21) 7
        s.putCell cyc (1 + x.2 % 21) (s.rd F.CLN_TXMAP_CLASS x.1) (s.rd F.CLN_TXMAP_NODE x.1)) c
    else s
  if row || s.flag F.ROW_CFG_MEMBER then s1.putCell (n % 10) (22 + n / 10) 4 n else s1

/-! ### Sending (R379, R380) -/

/-- Whether transmitter delay compensation applies on a channel (R368): TDC_EN, and a data PRE of 1 or 2. -/
def State.tdcOn (s : State) (c : Nat) : Bool := s.flag F.CLN_CH_CFG_TDC_EN c && s.rd F.CLN_DBT_DPRE c ≤ 1

/-- The delay measured in a frame (R368): it reads in TDCV, and the secondary sample point follows from it. -/
def State.tdcSeen (s : State) (c delay : Nat) : State :=
  if s.tdcOn c then
    (s.wr F.CLN_CH_STAT_TDCV c delay).modChan c fun h => { h with ssp := some (delay + s.rd F.CLN_DBT_TDCO c) }
  else s

/-- CLARN_TX_DONE: the pending frame with an identifier that goes first is sent on a channel; in loop-back it comes back.
`delay` is the transmitter delay measured in the frame, in clock cycles: one above 127 is a bit error, which raises TEC by 8,
and the frame stays (R368, R380). -/
def execClarnTxDone (c : Fin 2) (id : BitVec 29) (delay : Nat) (s : State) : Out :=
  if !(s.chanOn c) then .next s
  else
    let l := (s.chan c).pend.filter fun t => t.id = id.toNat
    match (l.find? fun t => t.src = 33) <|> l.head? with
    | none => .next s
    | some t =>
      if s.tdcOn c && 127 < delay then
        .next (s.confine c (s.rd F.CLN_CH_STAT_TEC c + 8) (s.rd F.CLN_CH_STAT_REC c)).healthCheck
      else
      let s1 := (((s.tdcSeen c delay).modChan c fun h => { h with pend := h.pend.erase t }).busyShow).txGood c
      .next (if s.rd F.CLN_CH_CFG_MODE c = 0 then s1 else s1.filterIn c t.id true t.data)

/-- A write of SUBMIT (R379). -/
def State.submit (s : State) : State :=
  let len := s.rd F.CLN_EVQ_LEN_LEN
  let ch := s.rd F.CLN_EVQ_ID_CH
  if !(fdLen len) then s.clnErr
  else match (List.range 32).find? fun e => !((s.reg .CLN_EVQ_BUSY 0).getLsbD e) with
    | none => s.raise F.CLN_CAUSE_EVQ_FULL
    | some e =>
      let d := ((List.range 16).flatMap fun w => wordBytes (s.reg .CLN_EVQ_DATA w)).take len
      ((s.queueFrame (if ch = 0 then 3 else ch) (s.rd F.CLN_EVQ_ID_ID) (d.drop 1) e (len = 0)).wr F.CLN_EVQ_CMD_LAST 0 e).busyShow

/-- SUBMIT. -/
def execSubmit (s : State) : Out := .next s.submit

/-- An entry of the event queue is cancelled. -/
def State.cancelEv (s : State) (e : Nat) : State :=
  ((List.range 2).foldl (fun (s : State) (c : Nat) => s.modChan c fun h => { h with pend := h.pend.filter fun t => t.src ≠ e }) s).busyShow

/-- A write of CLN_EVQ_CMD. -/
def State.writeEvqCmd (s : State) (w : Word) : State :=
  let s1 := s.wr F.CLN_EVQ_CMD_ENTRY 0 (fieldOf w F.CLN_EVQ_CMD_ENTRY)
  let s2 := if fieldOf w F.CLN_EVQ_CMD_CANCEL = 1 then s1.cancelEv (fieldOf w F.CLN_EVQ_CMD_ENTRY) else s1
  if fieldOf w F.CLN_EVQ_CMD_SUBMIT = 1 then s2.submit else s2

/-- CANCEL (R379): a write of CANCEL with its entry. -/
def execCancel (e : BitVec 5) (s : State) : Out := .next (s.writeEvqCmd (0x40000000 ||| e.setWidth 32))

end Sys2Proof.Machine
end

