-- ==== Sys2Proof/Machine/Tray.lean ====
section
/-! DEFINITION.  Supervision (R436, R437, R447 to R451): the flow permit's events, the management cores' watchdog, the tray's
heartbeat, modes and shutdown, and the alive count. -/

namespace Sys2Proof.Machine

/-- Change the start-up bookkeeping. -/
def State.modBoot (s : State) (f : Boot → Boot) : State := { s with boot := f s.boot }

/-! ### The flow permit (R436, R437) -/

/-- FLOW_PERMIT_HELD (R436): flow has lasted 2 s; with the whole permit, step 7 ends, and the gate opens when compute is
requested. -/
def execFlowPermitHeld (s : State) : Out :=
  if s.permitOn && s.flowing then
    let s1 := s.wr F.CFG_STAT_FLOW 0 1
    .next (if s1.rd F.CFG_STAT_STEP = 7 ∧ s1.role = 0 ∧ s1.permit = true then (s1.wr F.CFG_STAT_STEP 0 9).requestCompute else s1.tryGate)
  else .next s.flowCheck

/-- PERMIT_WAIT (R436): 60 s at step 7 or 8, once. -/
def execPermitWait (s : State) : Out :=
  let st := s.rd F.CFG_STAT_STEP
  if (st = 7 ∨ st = 8) ∧ s.boot.waited = false then .next ((s.modBoot fun b => { b with waited := true }).raise F.CFG_CAUSE_PERMIT_WAIT 0 2)
  else .next s

/-- PERMIT_LOST (R437): flow has stayed below FLOW_MIN while VCORE was on. -/
def execPermitLost (s : State) : Out :=
  if s.pwr.vcore ∧ s.flowing = false ∧ s.boot.lost = false then
    .next ((s.flowCheck.modBoot fun b => { b with lost := true }).protect F.CFG_CAUSE_PERMIT_LOST 0 false).quiesceNow
  else .next s

/-- PERMIT_REGAIN (R437): the permit has held for 10 s after a loss. -/
def execPermitRegain (s : State) : Out :=
  if s.boot.lost ∧ s.permit = true then .next (s.modBoot fun b => { b with lost := false }).requestCompute else .next s

/-! ### The watchdog (R447, R448) -/

/-- A write of CFG_WDOG: EN falls only while debug is unlocked; KICK restarts the period. -/
def State.writeWdog (s : State) (w : Word) : State :=
  let s1 := s.wr F.CFG_WDOG_TIMEOUT 0 (fieldOf w F.CFG_WDOG_TIMEOUT)
  let s2 := if fieldOf w F.CFG_WDOG_EN = 1 || s.flag F.SEC_STATE_DEBUG then s1.wr F.CFG_WDOG_EN 0 (fieldOf w F.CFG_WDOG_EN) else s1
  if w.getLsbD 31 then { s2 with mgmt := { s2.mgmt with kickAt := some s2.up } } else s2

/-- WDOG_KICK (R447): a write of KICK. -/
def execWdogKick (s : State) : Out := .next (s.writeWdog (s.reg .CFG_WDOG 0 ||| 0x80000000))

/-- Restarts within the last hour. -/
def State.restartsNow (s : State) : List Nat := s.mgmt.restarts.filter fun t => s.up < t + 3600000000000

/-- MGMT_WAIT of every enabled ring. -/
def State.ringsWait (s : State) (v : Nat) : State :=
  (List.range 64).foldl (fun (s : State) (i : Nat) => if v = 0 || s.flag F.ETH_RING_CTL_EN i then s.wr F.ETH_RING_STAT_MGMT_WAIT i v else s) s

/-- WDOG_EXPIRY (R447, R448): the cores are held in reset and reloaded; the fourth restart within an hour leaves them there. -/
def execWdogExpiry (s : State) : Out :=
  if s.flag F.CFG_WDOG_EN = false ∨ s.mgmt.down = true ∨ s.hmpUp = false then .next s
  else
    let l := s.restartsNow
    let s1 := ({ s with mgmt := { s.mgmt with down := true, restarts := s.up :: l }, sessions := [] } : State).ringsWait 1
    let s2 := s1.wr F.CFG_STAT_RESTARTS 0 (min 15 (l.length + 1))
    if 3 ≤ l.length then .next ((s2.wr F.CFG_STAT_MGMT_DEAD 0 1).raise F.CFG_CAUSE_MGMT_DEAD 0 3)
    else .next (s2.raise F.CFG_CAUSE_MGMT_RESTART 0 2)

/-- MGMT_RESTART_DONE (R447): the cores run again, and the rings go on. -/
def execMgmtRestartDone (s : State) : Out :=
  if s.mgmt.down = true ∧ s.flag F.CFG_STAT_MGMT_DEAD = false then
    .next (({ s with mgmt := { s.mgmt with down := false, kickAt := some s.up } } : State).ringsWait 0).tryEpoch
  else .next s

/-! ### The tray controller (R449 to R451) -/

/-- HEARTBEAT (R450): any write of CFG_HB. -/
def State.heartbeat (s : State) : State := s.modBoot fun b => { b with lastHb := some s.up, hbSeen := b.shut.isSome || b.hbSeen }

/-- HEARTBEAT. -/
def execHeartbeat (s : State) : Out := if s.boot.off then .next s else .next s.heartbeat

/-- HB_AGE as it reads, in 100 ms. -/
def State.hbAge (s : State) : Nat :=
  match s.boot.lastHb with
  | some t => min 0xFFFF ((s.up - t) / 100000000)
  | none => 0xFFFF

/-- HB_MISS (R450): in guard, a period without a heartbeat. -/
def execHbMiss (s : State) : Out :=
  if s.flag F.CFG_TRAY_MODE ∧ s.boot.off = false then .next (s.raise F.CFG_CAUSE_HB_MISS) else .next s

/-- TRAY_SHUTDOWN (R450): 5 s without a heartbeat in guard: compute is quiesced, and the branch valve holds its output. -/
def execTrayShutdown (s : State) : Out :=
  if s.flag F.CFG_TRAY_MODE ∧ s.boot.shut = none ∧ s.boot.off = false then
    let s1 := s.modBoot fun b => { b with shut := some s.up, hbSeen := false, valveHold := 1, heldValve := s.act s.valveDst }
    .next (s1.protect F.CFG_CAUSE_TRAY_SHUT 0 false).quiesceNow.refreshValve
  else .next s

/-- TRAY_VALVE_HOLD_END (R450): 60 s on, the valve goes to MINFLOW percent. -/
def execTrayValveHoldEnd (s : State) : Out :=
  if s.boot.shut.isSome ∧ s.boot.valveHold = 1 then .next (s.modBoot fun b => { b with valveHold := 2 }).refreshValve else .next s

/-- The tray shutdown ends: the override ends, and compute is requested. -/
def State.endShutdown (s : State) : State :=
  (((s.modBoot fun b => { b with shut := none, hbSeen := false, valveHold := 0 }).wr F.CFG_TRAY_RESTART 0 0).refreshValve).requestCompute

/-- A write of CFG_TRAY (R450): guard is refused in recovery; the tray's changes of MODE and writes of RESTART are change records (R465);
RESTART ends a shutdown once a heartbeat was written in it. -/
def State.writeTray (s : State) (master : Nat) (w : Word) : State :=
  let guard := fieldOf w F.CFG_TRAY_MODE = 1
  let again := fieldOf w F.CFG_TRAY_RESTART = 1
  let old := s.reg .CFG_TRAY 0
  let log := master = 0x8C && (again || (guard != s.flag F.CFG_TRAY_MODE))
  let c := if log then s.logChange 4 0 (Reg.addr .CFG_TRAY 0) old w master else (s, true)
  if !c.2 then c.1
  else
    let s1 := ((c.1.wr F.CFG_TRAY_MINFLOW 0 (fieldOf w F.CFG_TRAY_MINFLOW)).wr F.CFG_TRAY_PERIOD 0 (fieldOf w F.CFG_TRAY_PERIOD)).wr
      F.CFG_TRAY_AUTO 0 (fieldOf w F.CFG_TRAY_AUTO)
    let s2 := if guard && s1.flag F.CFG_STAT_RECOVERY then s1.raise F.CFG_CAUSE_CFGERR
      else s1.wr F.CFG_TRAY_MODE 0 (fieldOf w F.CFG_TRAY_MODE)
    let s3 := s2.refreshValve
    if !again || s3.boot.shut = none then s3
    else if s3.boot.hbSeen then s3.endShutdown
    else s3.wr F.CFG_TRAY_RESTART 0 1

/-- TRAY_MODE_WRITE (R450). -/
def execTrayModeWrite (master : BitVec 10) (guard : Bool) (s : State) : Out :=
  .next (s.writeTray master.toNat (setField (setField (s.reg .CFG_TRAY 0) F.CFG_TRAY_MODE (if guard then 1 else 0)) F.CFG_TRAY_RESTART 0))

/-- TRAY_RESTART (R450). -/
def execTrayRestart (master : BitVec 10) (s : State) : Out :=
  .next (s.writeTray master.toNat (setField (s.reg .CFG_TRAY 0) F.CFG_TRAY_RESTART 1))

/-- ALIVE_TICK (R451): the count moves when the engine or the sequencer has sampled. -/
def execAliveTick (s : State) : Out :=
  if s.boot.sampled ∧ s.boot.off = false then
    .next ((s.wr F.CFG_ALIVE_COUNT 0 ((s.rd F.CFG_ALIVE_COUNT + 1) % 65536)).modBoot fun b => { b with sampled := false })
  else .next s

end Sys2Proof.Machine
end

