-- ==== Sys2Proof/Machine/Write.lean ====
section
/-! DEFINITION.  What a write does to a register, whoever makes it and once it is allowed (R9, R10): the default by access
type, and the registers whose owning rules give the write an effect of its own. -/

namespace Sys2Proof.Machine

/-! ### The default by access type (R9) -/

/-- A write by access type: RW bits take the value, W1C bits written 1 clear, every other bit stays. -/
def accWord (r : Reg) (old w : Word) : Word :=
  (old &&& ~~~(r.accMask .RW) &&& ~~~(r.accMask .W1C &&& w)) ||| (r.accMask .RW &&& w)

/-- The write of a register with no effect of its own. -/
def State.plainWrite (s : State) (r : Reg) (i : Nat) (w : Word) : State := s.setReg r i (accWord r (s.reg r i) w)

/-- The cause register that an IE register enables. -/
def causeOfIe (r : Reg) : Option Reg := r.info.block.causes.find? fun c => (causeInfo c).map Prod.fst = some r

/-- A write of an IE register: enabling a cause bit that is already set sets the tray's pending bit (R492). -/
def State.writeIe (s : State) (c r : Reg) (i : Nat) (w : Word) : State :=
  let s1 := s.plainWrite r i w
  if s1.reg r i &&& ~~~(s.reg r i) &&& s.reg c i = 0 then s1 else s1.setPend r.info.block.num

/-! ### Cause registers whose clearing frees a latched address -/

/-- A W1C write of SEC_CAUSE: SEC_AF_LAST is free again once ACCESS_FAULT is cleared (R262, R267). -/
def State.writeSecCause (s : State) (w : Word) : State :=
  let s1 := s.plainWrite .SEC_CAUSE 0 w
  if s1.flag F.SEC_CAUSE_ACCESS_FAULT then s1 else s1.wr F.SEC_AF_LAST_VALID 0 0

/-- A W1C write of MEM_CAUSE: MEM_UE_ADDR is free again once UE is cleared. -/
def State.writeMemCause (s : State) (k : Nat) (w : Word) : State :=
  let s1 := s.plainWrite .MEM_CAUSE k w
  if s1.flag F.MEM_CAUSE_UE k then s1 else s1.wr F.MEM_UE_ADDR_HI_VALID k 0

/-- A W1C write of CLU_CAUSE: CLU_STORE_UE_ADDR is free again once STORE_UE is cleared. -/
def State.writeCluCause (s : State) (p : Nat) (w : Word) : State :=
  let s1 := s.plainWrite .CLU_CAUSE p w
  if s1.flag F.CLU_CAUSE_STORE_UE p then s1 else s1.wr F.CLU_STORE_UE_ADDR_VALID p 0

/-! ### Coolant I/O (R317, R326, R331, R332, R341) -/

/-- A write of CIO_DI_CFG: an input that is active acts by a function it is newly given. -/
def State.writeDiCfg (s : State) (d : Nat) (w : Word) : State :=
  let s1 := s.plainWrite .CIO_DI_CFG d w
  let moved := decide (s1.rd F.CIO_DI_CFG_FUNC d ≠ s.rd F.CIO_DI_CFG_FUNC d)
  let s2 := if moved && (s.rd F.CIO_DI_STAT_ACTIVE).testBit d then s1.diAct d else s1
  (s2.emergCheck d).dryCheck

/-- A write of CIO_AO_CFG: an output that no command or driver has acted on drives INIT from step 4 onward (R319), and after a
change of MODE the channel reads FAULT (R341) until AO_FAULT_CLEAR (log entry 24). -/
def State.writeAoCfg (s : State) (a : Nat) (w : Word) : State :=
  let s1 := s.plainWrite .CIO_AO_CFG a w
  let s2 := if s1.rd F.CIO_AO_CFG_MODE a = s.rd F.CIO_AO_CFG_MODE a then s1 else s1.wr F.CIO_AO_CFG_FAULT a 1
  (if 4 ≤ s2.rd F.CFG_STAT_STEP then s2.aoInit else s2).refreshValve

/-- A write of CIO_AI_CFG: after a change of MODE the channel reads FAULT until its first valid sample (R341). -/
def State.writeAiCfg (s : State) (i : Nat) (w : Word) : State :=
  let s1 := s.plainWrite .CIO_AI_CFG i w
  if s1.rd F.CIO_AI_CFG_MODE i = s.rd F.CIO_AI_CFG_MODE i then s1 else (s1.wr F.CIO_AI_CFG_FAULT i 1).dropRead i

/-- A write of CIO_LEAK_CTL: VDELAY and VALVE are kept, ACK asks for the latch to clear (R332). -/
def State.writeLeakCtl (s : State) (w : Word) : State :=
  let s1 := (s.plainWrite .CIO_LEAK_CTL 0 w).refreshValve
  if fieldOf w F.CIO_LEAK_CTL_ACK = 1 then nextOr s1 (execLeakAck s1) else s1

/-! ### Host Ethernet (R128, R212, R224, R232, R237) -/

/-- A write of ETH_PORT_CFG: RATES, AN and PFC are fixed while EN is 1; PFC has at most two bits; clearing EN takes the
port down. -/
def State.writeEthPort (s : State) (p : Nat) (w : Word) : State :=
  let on := fieldOf w F.ETH_PORT_CFG_EN
  if s.flag F.ETH_PORT_CFG_EN p then
    let s1 := s.wr F.ETH_PORT_CFG_EN p on
    if on = 0 then s1.ethDown p else s1
  else if 2 < ones16 (fieldOf w F.ETH_PORT_CFG_PFC) then s.raise F.ETH_PORT_CAUSE_CFGERR p
  else s.plainWrite .ETH_PORT_CFG p w

/-- A write of ETH_PTP_CFG: the port's PTP state follows EN, and with PTP off it holds no lock. -/
def State.writePtp (s : State) (p : Nat) (w : Word) : State := (s.plainWrite .ETH_PTP_CFG p w).ptpLink p

/-- A write of a base address of a ring: ignored while EN is 1 (R128). -/
def State.writeRingBase (s : State) (r : Reg) (i : Nat) (w : Word) : State :=
  if s.flag F.ETH_RING_CTL_EN i then s else s.plainWrite r i w

/-- A write of a word of a queue pair other than BIND: ignored while EN is 1 (R237). -/
def State.writeQpWord (s : State) (r : Reg) (q : Nat) (w : Word) : State :=
  if s.flag F.ETH_QP_BIND_EN q then s else s.plainWrite r q w

/-! ### Fabric (R180, R187, R190) -/

/-- A write of FAB_PORT_VCBUF: ignored while EN is 1; refused when the fields do not sum to 256 or MGMT is below 2. -/
def State.writeVcBuf (s : State) (p : Nat) (w : Word) : State :=
  let n := w.toNat
  if s.flag F.FAB_PORT_CFG_EN p then s
  else if bitsOf n 0 8 + bitsOf n 8 8 + bitsOf n 16 8 + bitsOf n 24 8 ≠ 256 ∨ fieldOf w F.FAB_PORT_VCBUF_MGMT < 2 then
    s.raise F.FAB_PORT_CAUSE_CFGERR p
  else s.plainWrite .FAB_PORT_VCBUF p w

/-! ### Row and Clarn (R363, R388) -/

/-- A write of ROW_SLOTS or ROW_SRC: ignored with CFGERR in HOLD. -/
def State.writeRowHeld (s : State) (r : Reg) (w : Word) : State :=
  if s.rowState = rwHold then s.raise F.ROW_CAUSE_CFGERR else s.plainWrite r 0 w

/-- A write of ROW_PUMP: NODE and FITTED are ignored with CFGERR in HOLD. -/
def State.writeRowPump (s : State) (k : Nat) (w : Word) : State :=
  if s.rowState = rwHold then (if accWord .ROW_PUMP (s.reg .ROW_PUMP k) w = s.reg .ROW_PUMP k then s else s.raise F.ROW_CAUSE_CFGERR)
  else s.plainWrite .ROW_PUMP k w

/-! ### Control engine (R314) -/

/-- A write of CLE_TRC_NODE: ignored while the buffer is ARMED or TRIGGERED. -/
def State.writeTrcNode (s : State) (j : Nat) (w : Word) : State :=
  let st := s.rd F.CLE_TRC_STAT_STATE (j / 4)
  if st = 1 ∨ st = 2 then s else s.plainWrite .CLE_TRC_NODE j w

/-! ### All registers -/

/-- Registers of the SYS to SEC blocks that act when written. -/
def State.writeBase (s : State) (master : Nat) (r : Reg) (i : Nat) (w : Word) : State :=
  match r with
  | .PWR_GEAR_REQ => s.writeGearReq w
  | .PWR_TRIP => if fieldOf w F.PWR_TRIP_REARM = 1 then nextOr s (execPwrTripRearm s) else s
  | .PWR_PS_REQ => s.writePsReq w
  | .PWR_VOTE => (s.wr F.PWR_VOTE_HOLD 0 (fieldOf w F.PWR_VOTE_HOLD)).voteCheck
  | .TIM_CTL => s.writeTimCtl master w
  | .CFG_TRAY => s.writeTray master w
  | .CFG_HB => s.heartbeat
  | .CFG_WDOG => s.writeWdog w
  | .REC_CTL => s.writeRecCtl w
  | .REC_CUR_CTL => s.writeCurCtl i w
  | .REC_CUR_SEQ => s.writeCurSeq i w.toNat
  | .SEC_CAUSE => s.writeSecCause w
  | .SEC_AT_SEL => (s.plainWrite .SEC_AT_SEL 0 w).showWin
  | .SEC_AT_RIGHTS => s.writeRights w
  | r => match causeOfIe r with
    | some c => s.writeIe c r i w
    | none => s.plainWrite r i w

/-- Registers of the CLE and CIO blocks that act when written. -/
def State.writeControl (s : State) (r : Reg) (i : Nat) (w : Word) : State :=
  match r with
  | .CLE_SLOT_FAULT => nextOr s (execSlotFaultClear w s)
  | .CLE_SLOT_CFG => s.writeSlotCfg i w
  | .CLE_SLOT_IO => s.writeSlotIo i w
  | .CLE_TRC_CFG => s.writeTrcCfg i w
  | .CLE_TRC_NODE => s.writeTrcNode i w
  | .CLE_REP_TABLE => s.writeRep (i / 256) (i % 256) w
  | .CIO_PWM_CFG => s.writePwmCfg i w
  | .CIO_PWM_CLR => nextOr s (execCioPwmClr (w.setWidth 8) s)
  | .CIO_AO_CFG => s.writeAoCfg i w
  | .CIO_AI_CFG => s.writeAiCfg i w
  | .CIO_DI_CFG => s.writeDiCfg i w
  | .CIO_DI_STAT => nextOr s (execDiStuckClear (BitVec.ofNat 8 (fieldOf w F.CIO_DI_STAT_STUCK)) s)
  | .CIO_LEAK_CFG => s.writeLeakCfg i w
  | .CIO_LEAK_CTL => s.writeLeakCtl w
  | .CIO_SENS_STAT => nextOr s (execSensStatClear w s)
  | .CIO_CH_AO => s.writeAoCmd i w
  | .CIO_CH_PWM => s.writePwmCmd i w
  | r => if slotWords.elem r then s.writeSlotWord r i w
    else match causeOfIe r with
      | some c => s.writeIe c r i w
      | none => s.plainWrite r i w

/-- Registers of the CLN and MTR blocks that act when written. -/
def State.writeBus (s : State) (master : Nat) (r : Reg) (i : Nat) (w : Word) : State :=
  match r with
  | .CLN_CH_CFG => s.writeChCfg i w
  | .CLN_NBT => s.writeTiming r i w
  | .CLN_DBT => s.writeTiming r i w
  | .CLN_RXQ_ACK => s.ackRx i (fieldOf w F.CLN_RXQ_ACK_COUNT)
  | .CLN_CTL => s.writeClnCtl w
  | .CLN_EVQ_CMD => s.writeEvqCmd w
  | .CLN_SCHED => s.writeSched i w
  | .CLN_TXMAP => s.writeTxmap i w
  | .CLN_RXMAP => s.writeRxmap i w
  | .ROW_CMD => s.writeRowCmd master w
  | .ROW_SLOTS => s.writeRowHeld r w
  | .ROW_SRC => s.writeRowHeld r w
  | .ROW_PUMP => s.writeRowPump i w
  | .MTR_REQ => s.writeMtrReq w
  | r => match causeOfIe r with
    | some c => s.writeIe c r i w
    | none => s.plainWrite r i w

/-- Registers of the FAB, MEM and CLU blocks that act when written. -/
def State.writeCompute (s : State) (r : Reg) (i : Nat) (w : Word) : State :=
  match r with
  | .FAB_PORT_CFG => nextOr s (execFabPortCfgWrite (Fin.ofNat 18 i) w s)
  | .FAB_PORT_CMD => nextOr s (execRetrain (Fin.ofNat 18 i) (w.setWidth 8) s)
  | .FAB_PORT_VCBUF => s.writeVcBuf i w
  | .FAB_RT_CTL => nextOr s (execShadowReadyWrite (fieldOf w F.FAB_RT_CTL_SHADOW_READY = 1) s)
  | .FAB_ROUTE_LO => s.routeWrite (i / 4096) (i % 4096) (some w) none
  | .FAB_ROUTE_HI => s.routeWrite (i / 4096) (i % 4096) none (some w)
  | .MEM_CAUSE => s.writeMemCause i w
  | .MEM_ROT_CTL => if fieldOf w F.MEM_ROT_CTL_REQ = 1 then nextOr s (execRotationReq (Fin.ofNat 16 i) s) else s
  -- a partition's reservation is written by PART_ASSIGN alone (R133)
  | .MEM_PART_SET | .MEM_PART_BASE | .MEM_PART_FRAMES => s
  | .CLU_CAUSE => s.writeCluCause i w
  | .CLU_ARITH_STAT => (s.plainWrite r i w).arithLevel i
  | .CLU_ARITH_IE => (s.plainWrite r i w).arithLevel i
  | r => match causeOfIe r with
    | some c => s.writeIe c r i w
    | none => s.plainWrite r i w

/-- Words of a queue pair that are fixed while it is bound. -/
def qpWords : List Reg := [.ETH_QP_DQPN, .ETH_QP_SPSN, .ETH_QP_RPSN, .ETH_QP_DGID0, .ETH_QP_DGID1, .ETH_QP_DGID2, .ETH_QP_DGID3,
  .ETH_QP_DMAC_LO, .ETH_QP_DMAC_HI, .ETH_QP_PARAM]

/-- Base addresses of a ring. -/
def ringBases : List Reg := [.ETH_RING_BASE_LO, .ETH_RING_BASE_HI, .ETH_CQ_BASE_LO, .ETH_CQ_BASE_HI]

/-- Registers of the ETH block that act when written. -/
def State.writeEth (s : State) (r : Reg) (i : Nat) (w : Word) : State :=
  match r with
  | .ETH_PORT_CFG => s.writeEthPort i w
  | .ETH_PTP_CFG => s.writePtp i w
  | .ETH_VLAN => s.writeVlan i w
  | .ETH_MW_CTL => s.writeMwCtl i w
  | .ETH_DB_TAG => if fieldOf w F.ETH_DB_TAG_NEW = 1 then nextOr s (execEthDbTagNew (Fin.ofNat 16 i) s) else s
  | .ETH_QP_BIND => s.writeQpBind i w
  | .ETH_RING_CTL => (s.writeRingCtl i w).voteCheck
  | .ETH_RING_PI => s.writePi i w.toNat
  | .ETH_CQ_CI => s.writeCqCi i w
  | r => if qpWords.elem r then s.writeQpWord r i w
    else if ringBases.elem r then s.writeRingBase r i w
    else match causeOfIe r with
      | some c => s.writeIe c r i w
      | none => s.plainWrite r i w

/-- What a write of register `r`, instance `i`, by `master` does. -/
def State.writeReg (s : State) (master : Nat) (r : Reg) (i : Nat) (w : Word) : State :=
  match r.info.block with
  | .CLE | .CIO => s.writeControl r i w
  | .CLN | .MTR => s.writeBus master r i w
  | .FAB | .MEM | .CLU => s.writeCompute r i w
  | .ETH => s.writeEth r i w
  | _ => s.writeBase master r i w

/-! ### Writes refused with CFGERR (R444) -/

/-- The CFGERR bit of a register's block. -/
def cfgErrOf (r : Reg) (i : Nat) : Option (Fld × Nat) :=
  match r.info.block with
  | .CFG => some (F.CFG_CAUSE_CFGERR, 0)
  | .CLE => some (F.CLE_CAUSE_CFGERR, 0)
  | .CIO => some (F.CIO_CAUSE_CFGERR, 0)
  | .CLN => if r.info.off < 0x8000 then some (F.CLN_CAUSE_CFGERR, 0) else some (F.ROW_CAUSE_CFGERR, 0)
  | .MTR => some (F.MTR_CAUSE_CFGERR, 0)
  | .FAB => if r.info.off < 0x90000 then some (F.FAB_PORT_CAUSE_CFGERR, i % 18) else some (F.FAB_TR_CAUSE_CFGERR, 0)
  | .ETH => if r = .ETH_VLAN then some (F.ETH_PORT_CAUSE_CFGERR, i / 32) else some (F.ETH_PORT_CAUSE_CFGERR, i % 2)
  | _ => none

/-- A write, and whether the register refused it with CFGERR; the cause register itself refuses none. -/
def State.tryWrite (s : State) (master : Nat) (r : Reg) (i : Nat) (w : Word) : State × Bool :=
  match cfgErrOf r i with
  | none => (s.writeReg master r i w, false)
  | some (f, k) =>
    if r = f.reg then (s.writeReg master r i w, false) else
    let was := s.flag f k
    let t := (s.wr f k 0).writeReg master r i w
    if t.flag f k then (t, true) else (if was then t.wr f k 1 else t, false)

end Sys2Proof.Machine
end

