-- ==== Sys2Proof/Machine/Startup.lean ====
section
/-! DEFINITION.  Power-up, the start-up steps, recovery, the configuration image, stored images, and the warm restart
(R237 to R245, R408, R430 to R446, R449, R464, R495 to R497, R503). -/

namespace Sys2Proof.Machine

/-! ### The configuration image (R441 to R444) -/

/-- A record: type and value. -/
structure CfgRec where
  typ : Nat
  val : List Byte
  deriving DecidableEq, Repr

/-- Read `n` records; nothing when they do not end the list, or padding is not zero (R442). -/
def readRecs : Nat → List Byte → Option (List CfgRec)
  | 0, l => if l = [] then some [] else none
  | n + 1, l =>
    let len := leAt l 2 2
    let step := 4 + (len + 3) / 4 * 4
    if l.length < 4 ∨ l.length < step ∨ zerosAt l (4 + len) (step - 4 - len) = false then none
    else (readRecs n (l.drop step)).map fun t => { typ := leAt l 0 2, val := sliceAt l 4 len } :: t

/-- The types of R443: type, least and greatest count. -/
def recKinds : List (Nat × Nat × Nat) :=
  [(0x8001, 1, 1), (0x8002, 0, 1), (0x8003, 1, 4), (0x0004, 0, 1), (0x0005, 0, 1), (0x0006, 0, 1), (0x0007, 0, 144), (0x0008, 0, 64),
   (0x0009, 0, 1), (0x800A, 0, 1), (0x000B, 0, 1), (0x000C, 0, 1), (0x000D, 0, 64)]

/-- Whether a type is known. -/
def recKnown (t : Nat) : Bool := recKinds.any fun k => k.1 = t

/-- Whether a value has the length of its type. -/
def recLenOk (r : CfgRec) : Bool :=
  let n := r.val.length
  match r.typ with
  | 0x8001 => n = 4
  | 0x8002 => n = 16
  | 0x8003 => 0 < n
  | 0x0004 => 1 ≤ n && n ≤ 64
  | 0x0005 => n % 48 = 0 && 48 ≤ n && n ≤ 768
  | 0x0006 => n = 2
  | 0x0007 => n = 5
  | 0x0008 => n = 24
  | 0x0009 => n = 5
  | 0x800A => n = 8
  | 0x000B => n = 2048
  | 0x000C => n = 4
  | 0x000D => n % 8 = 0
  | _ => true

/-- The address and value pairs of a REG record. -/
def regPairs (r : CfgRec) : List (Nat × Word) :=
  if r.typ = 0x000D then (piecesOf 8 r.val).map fun l => (leAt l 0 4, BitVec.ofNat 32 (leAt l 4 4)) else []

/-- Registers of R444's list outside the whole blocks. -/
def regSingles : List Reg := [.FAB_TR_CTL, .FAB_RT_EPOCH, .ETH_PORT_CFG, .ETH_PTP_CFG, .MEM_SCRUB_CTL, .MEM_SPARE_CTL, .MEM_SWEEP_CTL,
  .MEM_LEND_OFFER, .CFG_TRAY, .CFG_PERMIT_CFG]

/-- Whether a REG record may name a register: it has an RW field and stands in R444's list. -/
def regAllowed (r : Reg) : Bool :=
  r.accMask .RW ≠ 0 && (match r.info.block with
    | .PWR | .CLE | .CIO | .CLN => true
    | .FAB => r.info.off < 0x90000 || regSingles.elem r
    | _ => regSingles.elem r)

/-- The records of an image that passes the structural rules; `serial` is the module's (R441 to R444). -/
def readConfig (l serial : List Byte) : Option (List CfgRec) :=
  if l.length < 320 ∨ 2 ^ 20 < l.length ∨ leAt l 0 4 ≠ 0x46435853 ∨ leAt l 4 2 ≠ 1 ∨ zerosAt l 6 2 = false ∨
      leAt l 0x10 8 ≠ l.length ∨ zerosAt l 0x18 40 = false ∨ zerosAt l (l.length - 63) 63 = false then none
  else if l.length < leAt l 0x0C 4 then none
  else (readRecs (leAt l 0x0C 4) (sliceAt l 64 (l.length - 320))).bind fun rs =>
    let n := fun (t : Nat) => (rs.filter fun r => r.typ = t).length
    if (rs.all fun r => (recKnown r.typ || r.typ < 0x8000) && recLenOk r && (r.typ ≠ 0x8002 || r.val = serial)) &&
        (recKinds.all fun k => k.2.1 ≤ n k.1 && n k.1 ≤ k.2.2) &&
        ((rs.flatMap regPairs).all fun x => match regAt x.1 with
          | some y => x.1 % 4 = 0 && regAllowed y.1
          | none => false) then some rs
    else none

/-- The records of an image that is accepted (R245). -/
def State.acceptConfig (s : State) (l : List Byte) : Option (List CfgRec) :=
  if !s.unclaimed && Config.sha384 (trailerKey l) = s.opHash && trailerVerifies l then readConfig l s.nv.serial else none

/-- Records of a type. -/
def ofType (t : Nat) (rs : List CfgRec) : List (List Byte) := (rs.filter fun r => r.typ = t).map CfgRec.val

/-- What the records say beyond registers. -/
def readConf (rs : List CfgRec) : Conf :=
  let one := fun (t : Nat) => ((ofType t rs).head?).getD []
  { anchors := ofType 0x8003 rs
    sysname := one 0x0004
    patKeys := (ofType 0x0005 rs).head?.map (piecesOf 48)
    allow := byteAt (one 0x0006) 0
    beacon := byteAt (one 0x0006) 1
    replay := leAt (one 0x0009) 0 4
    ksPrio := if (ofType 0x0009 rs) = [] then 255 else byteAt (one 0x0009) 4
    runtime := if (ofType 0x000C rs) = [] then 15 else leAt (one 0x000C) 0 4 }

/-- Four bytes with the first the most significant. -/
def beWord (l : List Byte) (o : Nat) : Word :=
  BitVec.ofNat 32 (byteAt l o * 2 ^ 24 + byteAt l (o + 1) * 2 ^ 16 + byteAt l (o + 2) * 2 ^ 8 + byteAt l (o + 3))

/-- Put a VLAN entry in place: its word and its address. -/
def State.putVlan (s : State) (i : Nat) (w : Word) (ip : List Byte) : State :=
  ((((s.setReg .ETH_VLAN i (w &&& Reg.accMask .ETH_VLAN .RW)).setReg .ETH_IPADDR0 i (beWord ip 0)).setReg .ETH_IPADDR1 i (beWord ip 4)).setReg
    .ETH_IPADDR2 i (beWord ip 8)).setReg .ETH_IPADDR3 i (beWord ip 12)

/-- The IPv6 link-local address of a MAC address (log entry 51). -/
def linkLocal (mac : Nat) : List Byte :=
  let b := fun (k : Nat) => BitVec.ofNat 8 (mac / 2 ^ (40 - 8 * k))
  [0xFE, 0x80, 0, 0, 0, 0, 0, 0, b 0 ^^^ 2, b 1, b 2, 0xFF, 0xFE, b 3, b 4, b 5]

/-- The management entry without an image: VID 4,094 with the link-local address of each port (R439; log entry 51). -/
def State.bareVlan (s : State) : State :=
  (List.range 2).foldl (fun (s : State) (p : Nat) => s.putVlan (32 * p) 0x80000FFE (linkLocal (s.nv.mac + p))) s

/-- The VLAN records as one table: a port whose entries would not hold exactly one management entry keeps its old ones (R237). -/
def State.vlanRecs (s : State) (rs : List (List Byte)) : State :=
  let put := fun (s : State) (p : Nat) => (rs.filter fun l => byteAt l 0 / 32 = p).foldl (fun (s : State) (l : List Byte) =>
    s.putVlan (byteAt l 0) (BitVec.ofNat 32 (leAt l 4 4)) (sliceAt l 8 16)) s
  (List.range 2).foldl (fun (s : State) (p : Nat) =>
    if rs.all fun l => byteAt l 0 / 32 ≠ p then s
    else if (put s p).mgmtEntries p = 1 then put s p else s.raise F.ETH_PORT_CAUSE_CFGERR p) s

/-- The management entries alone of the VLAN records (R439). -/
def mgmtRecs (rs : List (List Byte)) : List (List Byte) :=
  rs.filter fun l => (leAt l 4 4).testBit 31 && bitsOf (leAt l 4 4) 26 2 = 0

/-- The row record: role, membership, node and stale cap; a member of a capped row takes the stale cap (R282, R342, R443).
After a warm restart the row's own registers are kept (R496). -/
def State.rowRec (s : State) (warm : Bool) (v : List Byte) : State :=
  let s1 := if warm then s
    else (((s.wr F.ROW_CFG_ROLE 0 (byteAt v 0)).wr F.ROW_CFG_MEMBER 0 (byteAt v 1 % 2)).wr F.ROW_CFG_NODE 0 (byteAt v 2)).wr
      F.ROW_CFG_STALE_CAP 0 (leAt v 4 2)
  if (byteAt v 1).testBit 1 then s1.rowCap (s1.rd F.ROW_CFG_STALE_CAP) true else s1

/-- First pass: every type but REG (R444); an unknown type that is not critical is skipped with a notice record. -/
def State.applyRec (s : State) (warm : Bool) (r : CfgRec) : State :=
  let v := r.val
  match r.typ with
  | 0x8001 => (s.wr F.FAB_TR_ID_MODULE 0 (leAt v 0 4)).wr F.FAB_TR_ID_PELOTON 0 (leAt v 0 4 / 65536)
  | 0x0007 => s.modLink (byteAt v 0) fun l => { l with expect := some (leAt v 1 2, byteAt v 3, byteAt v 4) }
  | 0x800A => s.rowRec warm v
  | 0x000B => if warm then s else (List.range 512).foldl (fun (s : State) (k : Nat) =>
      s.setReg .CLN_SCHED k (BitVec.ofNat 32 (leAt v (4 * k) 4) &&& Reg.accMask .CLN_SCHED .RW)) s
  | t => if recKnown t then s else s.record 5 15 0x42 0 1 [wd t]

/-- Blocks that a warm restart keeps (R496). -/
def keptBlock (b : Block) : Bool := [Block.IRQ, .TIM, .REC, .CLE, .CIO, .CLN, .MTR].elem b

/-- Second pass: the REG pairs in order; a write refused with CFGERR leaves the register as it was, raises CFG_REC and writes a
warning record that names the address (R444). -/
def State.applyReg (s : State) (warm : Bool) (x : Nat × Word) : State :=
  match regAt x.1 with
  | none => s
  | some (r, i) =>
    if warm && keptBlock r.info.block then s
    else
      let want := accWord r (s.reg r i) x.2
      let t := s.tryWrite 0x84 r i x.2
      if t.2 && t.1.reg r i ≠ want then (t.1.setReg r i (s.reg r i)).raise F.CFG_CAUSE_CFG_REC 0 2 [wd x.1] else t.1

/-- The default loops with their enables held back until the REG pairs are in place (log entry 52). -/
def State.defaultsOff (s : State) : State :=
  defaultLoops.foldl (fun (s : State) (l : Loop) => s.wr F.CLE_SLOT_CFG_EN l.k 0) (s.loadLoops defaultLoops)

/-- The default loops that no REG pair configures are enabled. -/
def State.defaultsOn (s : State) (named : List Nat) : State :=
  (defaultLoops.filter fun l => !(named.elem l.k)).foldl (fun (s : State) (l : Loop) => s.wr F.CLE_SLOT_CFG_EN l.k 1) s

/-- Slots whose CLE_SLOT_CFG a REG pair names. -/
def namedSlots (xs : List (Nat × Word)) : List Nat :=
  xs.filterMap fun x => match regAt x.1 with
    | some (.CLE_SLOT_CFG, i) => some i
    | _ => none

/-- Apply the records of the image in force; without an image, the default configuration (R244, R444). -/
def State.configure (s : State) (warm : Bool) (rs : Option (List CfgRec)) : State :=
  let base : State := if warm then s else (s.defaultsOff).wr F.ROW_CFG_STALE_CAP 0 1600
  match rs with
  | none =>
    let s1 : State := { base with conf := { base.conf with runtime := 15 } }
    let s2 := (s1.bareVlan.wr F.ETH_PORT_CFG_EN 0 1).wr F.ETH_PORT_CFG_EN 1 1
    if warm then s2 else (s2.defaultsOn []).fillMatrix
  | some l =>
    let s1 := l.foldl (fun (s : State) (r : CfgRec) => s.applyRec warm r) ({ base with conf := readConf l } : State)
    let s2 := s1.vlanRecs (ofType 0x0008 l)
    let xs := l.flatMap regPairs
    let s3 := xs.foldl (fun (s : State) (x : Nat × Word) => s.applyReg warm x) s2
    if warm then s3
    else
      let s4 := s3.defaultsOn (namedSlots xs)
      let s5 := if (ofType 0x000B l) = [] then
          (xs.filter fun x => match regAt x.1 with
            | some (.CLN_SCHED, _) => true
            | _ => false).foldl (fun (s : State) (x : Nat × Word) => s.applyReg false x) s4.fillMatrix
        else s4
      { s5 with clarn := { s5.clarn with staged := [] } }

/-! ### The firmware image (R241, R242) -/

/-- Whether a firmware image passes the boot ROM's checks. -/
def State.fwOk (s : State) (l : List Byte) : Bool :=
  320 ≤ l.length && l.length ≤ 7340032 && leAt l 0 4 = 0x57465853 && leAt l 4 2 = 1 && byteAt l 7 ≤ 1 && zerosAt l 0x0C 4 &&
    leAt l 0x10 8 = l.length && zerosAt l 0x18 40 && zerosAt l (l.length - 63) 63 && s.nv.rollback ≤ byteAt l 6 &&
    Config.sha384 (trailerKey l) = Config.romKeyHash && trailerVerifies l

/-! ### Step 3: identity (R238, R239) -/

/-- Whether a reading gives the valid seed with a copy of the helper data; the salt comes first (log entry 53). -/
def seedOk (reading : List Byte) (h : Option Helper) : Bool :=
  match h with
  | some x => x.ok && Config.sha384 (x.salt ++ Config.pufSeed reading x.data) = x.check
  | none => false

/-- The copy the first good reading goes with. -/
def State.seedCopy (s : State) (readings : List (List Byte)) : Option Nat :=
  (readings.take 4).findSome? fun r => (List.range 2).find? fun c => seedOk r (getAt none s.nv.helpers c)

/-- The seed of the first good reading (R238). -/
def State.seedOf (s : State) (readings : List (List Byte)) : Option (List Byte) :=
  (readings.take 4).findSome? fun r => (List.range 2).findSome? fun c => match getAt none s.nv.helpers c with
    | some x => if seedOk r (some x) then some (Config.pufSeed r x.data) else none
    | none => none

/-- The secrets of step 3 (R140, R238 to R240): a power-up brings a new module key; the PUF SRAM is overwritten once it has been read, with values the spec does not give;
the seed gives the identity scalar; without a seed the generator gives the key of this power-up. -/
def State.step3Keys (s0 : State) (readings : List (List Byte)) : State :=
  let m := s0.drawKey
  let s : State := if s0.boot.fromOff then { m.2 with modKey := m.1 } else s0
  let p := s.freeBytes (getAt [] readings (readings.length - 1)).length
  match s.seedOf readings with
  | some seed => { p.2 with sec := { p.2.sec with puf := p.1, identity := identityScalar seed 0 256 } }
  | none =>
    let k := p.2.freeBytes 48
    { k.2 with sec := { k.2.sec with puf := p.1, identity := none, tempKey := if s.sec.tempKey = [] then k.1 else s.sec.tempKey } }

/-- Step 3 ends: the identity, and the values of the security area (R497). -/
def State.step3 (s0 : State) (readings : List (List Byte)) : State :=
  let s := s0.step3Keys readings
  let s1 := (s.wr F.SEC_SVN_COUNTER 0 s.nv.rollback).wr F.SEC_STATE_OPKEY 0 s.nv.opKeys.length
  match s1.seedCopy readings with
  | some 0 => s1.wr F.SEC_STATE_ID 0 1
  | some _ => ({ s1 with nv := { s1.nv with helpers := [getAt none s1.nv.helpers 1, getAt none s1.nv.helpers 1] } }).wr F.SEC_STATE_ID 0 1
      |>.wr F.SEC_STATE_COPY 0 1
  | none => (s1.wr F.SEC_STATE_ID 0 2).raise F.SEC_CAUSE_ID_FAIL 0 3

/-! ### Step 4: the configuration memory (R426, R430, R434, R458, R459, R464) -/

/-- The sum of two sequence numbers of a series, which skips 0xFFFF_FFFF. -/
def seqAdd (a b : Nat) : Nat := (a + b) % (2 ^ 32 - 1)

/-- Where a series goes on: the highest stored SEQ plus one, or 0. -/
def seriesBase (l : List Rec) : Nat := if l = [] then 0 else seqAfter ((l.map Rec.seq).foldl max 0)

/-- The open sector of each severity: the one that holds its newest record. -/
def openOf (l : List Sector) (v : Nat) : Option (Nat × Nat) :=
  let newest := fun (x : Sector) => (x.recs.map Rec.seq).foldl max 0
  (l.filter fun x => x.sev = v).foldl (fun (b : Option Sector) (x : Sector) => match b with
    | some y => if newest y ≤ newest x then some x else b
    | none => some x) none |>.map fun x => (v, x.no)

/-- The scan of R464: bad records are skipped with BAD_RECORD, the index is rebuilt, and the series go on; after a power-up
the buffered records take their numbers and their counters (R458, R459).  It ends with the START record. -/
def State.recScan (s : State) (bad : List (Bool × Word)) : State :=
  let hit := fun (chg : Bool) (r : Rec) => bad.elem (chg, wd r.seq)
  let gone := ((s.evr.sectors.flatMap Sector.recs).filter (hit false)).length + (s.evr.chgStored.filter (hit true)).length
  let secs := (s.evr.sectors.map fun x => { x with recs := x.recs.filter fun r => !(hit false r) }).filter fun x => x.recs ≠ []
  let chgs := s.evr.chgStored.filter fun r => !(hit true r)
  let cold := s.boot.fromOff
  let b := if cold then seriesBase (secs.flatMap Sector.recs) else 0
  let cb := if cold then seriesBase chgs else 0
  let re := fun (o : Nat) (r : Rec) => if cold then
    { r with seq := seqAdd o r.seq, optime := s.rd F.TIM_OPTIME_COUNT, cycles := s.rd F.TIM_CYCLES_COUNT } else r
  let s1 := s.modRec fun e => { e with
    sectors := secs, chgStored := chgs, bad := [], erasing := none, readies := []
    opens := (List.range 4).filterMap (openOf secs)
    buf := e.buf.map (re b), chg := e.chg.map (re cb), prot := e.prot.map fun p => { p with r := re b p.r }
    lost := e.lost.map fun x => (x.1, seqAdd b x.2.1, seqAdd b x.2.2)
    nextSeq := if cold then seqAdd b e.nextSeq else e.nextSeq, nextChg := if cold then seqAdd cb e.nextChg else e.nextChg }
  let s2 := (List.range gone).foldl (fun (s : State) (_ : Nat) => s.raise F.REC_CAUSE_BAD_RECORD) s1
  (s2.record 5 15 0x40 0 1 [wd (s2.rd F.SYS_RESET_LAST)]).modBoot fun b => { b with scanned := true }

/-- The persistent counters are read, and one power cycle counted when VAON came up from Off. -/
def State.readCounters (s : State) : State :=
  if s.boot.fromOff then
    let c := (s.counters).getD (0, 0, 0)
    (s.wr F.TIM_OPTIME_COUNT 0 (satAdd 32 (s.rd F.TIM_OPTIME_COUNT) c.1)).wr F.TIM_CYCLES_COUNT 0 (satAdd 32 c.2.1 1)
  else s

/-- The cluster map is read (R497). -/
def State.readMap (s : State) : State :=
  let m := s.clusterMap
  allP.foldl (fun (s : State) (p : Nat) =>
    let f := Assoc.get 0 m.masks p
    (s.wr F.CLU_ENG_MAP_FAILED p f).wr F.CLU_ENG_MAP_NFAIL p (min 4 (ones16 f))) s

/-- Recovery (R439): STEP 15, a critical record, the loops of slots 0 to 2, no row role, mode hold, one management entry on
each port. -/
def State.enterRecovery (s : State) (vlans : List (List Byte)) : State :=
  let s1 := ((s.wr F.CFG_STAT_RECOVERY 0 1).wr F.CFG_STAT_STEP 0 15).recordOpen 4 0 3
  let s2 := if s1.flag F.CLE_CTL_EN then s1 else (s1.loadLoops (defaultLoops.take 3)).startEngine
  let s3 := ((s2.wr F.ROW_CFG_ROLE 0 0).rowGo rwListen false).wr F.CFG_TRAY_MODE 0 0
  let s4 := s3.bareVlan.vlanRecs (mgmtRecs vlans)
  (s4.wr F.ETH_PORT_CFG_EN 0 1).wr F.ETH_PORT_CFG_EN 1 1

/-- Step 4 ends. -/
def State.step4 (s : State) (bad : List (Bool × Word)) : State :=
  if 5 ≤ s.nv.density then s.enterRecovery []
  else
    let s1 := (s.wr F.CFG_STAT_DENSITY 0 s.nv.density).wr F.REC_STAT_SCHEME 0 (if 3 ≤ s.nv.density then 1 else 0)
    let s2 := (List.range 4).foldl (fun (s : State) (i : Nat) => s.wr F.SYS_SERIAL_ASCII i (leAt s.nv.serial (4 * i) 4)) s1
    s2.readCounters.readMap.recScan bad

/-! ### Step 5: verification (R242, R245, R440) -/

/-- Step 5 ends: the firmware runs, and the configuration is applied; or the module is in recovery. -/
def State.step5 (s : State) : State :=
  let warm := !s.boot.fromOff
  let cfg := s.acceptConfig s.nv.cfgImage
  if s.fwOk s.nv.fwImage then
    let l := s.nv.fwImage
    let s1 := (({ s with sec := { s.sec with fw := l, cfg := if cfg.isSome then s.nv.cfgImage else [] }
                         mgmt := { s.mgmt with kickAt := some s.up } } : State).wr F.SYS_FWVER_FWVER 0 (leAt l 8 4)).wr
      F.SEC_SVN_IMAGE 0 (byteAt l 6)
    let s2 := if s1.unclaimed then s1
      else if cfg.isSome then s1.wr F.CFG_STAT_IMAGE 0 1
      else (s1.wr F.CFG_STAT_IMAGE 0 2).raise F.CFG_CAUSE_CFG_BAD 0 3
    (s2.configure warm cfg).wr F.CFG_STAT_STEP 0 6
  else s.enterRecovery (match cfg with
    | some rs => ofType 0x0008 rs
    | none => [])

/-! ### Steps 6 to 9 (R308, R435, R436, R438, R450) -/

/-- Step 6 ends: the engine computes and the Clarn channels are enabled; after a warm restart both are found running. -/
def State.step6 (s : State) : State :=
  let s1 := if s.flag F.CLE_CTL_EN then s else s.startEngine
  let s2 := (List.range 2).foldl (fun (s : State) (c : Nat) =>
    if s.flag F.CLN_CH_CFG_EN c then s else s.writeChCfg c (setField (s.reg .CLN_CH_CFG c) F.CLN_CH_CFG_EN 1)) s1
  let s3 := s2.wr F.CFG_STAT_STEP 0 7
  if s.boot.fromOff then s3.cellCheck else s3

/-- Step 7 is passed: with the whole permit, or for a row role as soon as DRY and EMERG_OK hold. -/
def State.step7 (s : State) : State :=
  if s.role = 0 then (if s.permit then (s.wr F.CFG_STAT_STEP 0 9).requestCompute else s)
  else if s.dryOk && s.emergOk then
    let s1 := s.wr F.CFG_STAT_STEP 0 8
    if s1.rowState = rwHold && s1.boot.fromOff then s1.modRow fun r => { r with kick := true } else s1
  else s

/-- Step 8 ends with LISTEN over and no pump drive running. -/
def State.step8 (s : State) : State :=
  if s.rowState = rwWait || (s.rowState = rwHold && !s.row.kick) then (s.wr F.CFG_STAT_STEP 0 9).requestCompute else s

/-- Step 9 ends once the gate has opened, no stack trains, and the clusters are tested where VCORE is on: STARTED, and guard
with AUTO. -/
def State.step9 (s : State) : State :=
  let training := (List.range 8).any fun k => s.rd F.MEM_STATE_STATE k = 1
  if s.boot.trained && !training && (s.pwr.tested || !s.pwr.vcore) then
    let s1 := (s.wr F.CFG_STAT_STEP 0 10).raise F.CFG_CAUSE_STARTED
    if s1.flag F.CFG_TRAY_AUTO then s1.wr F.CFG_TRAY_MODE 0 1 else s1
  else s

/-- STARTUP_STEP_COMPLETE (R435): the step in progress ends and the next starts.  VPERI and the analogue outputs come up with
step 4 (R318, R319). -/
def execStartupStepComplete (d : StepData) (s : State) : Out :=
  if s.boot.off then .next s
  else match s.rd F.CFG_STAT_STEP with
    | 1 => .next ((s.wr F.SYS_CLK_REF_OK 0 (if s.flag F.SYS_CLK_BACKUP then 0 else 1)).wr F.CFG_STAT_STEP 0 2)
    | 2 => .next (s.wr F.CFG_STAT_STEP 0 3)
    | 3 => match d with
      | .puf l =>
        if l = [] ∨ (l.length < 4 ∧ s.seedCopy l = none) then .next s
        else
          let s1 := (s.step3 l).wr F.CFG_STAT_STEP 0 4
          .next (if s.boot.fromOff then (s1.setVperi true).aoInit else s1)
      | _ => .next s
    | 4 =>
      let t := s.step4 (match d with
        | .scan l => l
        | _ => [])
      .next (if t.rd F.CFG_STAT_STEP = 4 then t.wr F.CFG_STAT_STEP 0 5 else t)
    | 5 => .next s.step5
    | 6 => .next s.step6
    | 7 => .next s.step7
    | 8 => .next s.step8
    | 9 => .next s.step9
    | _ => .next s

/-! ### Power and reset (R408, R449, R495, R496, R503) -/

/-- What no loss of VAON takes away: the configuration memory with the records stored in it, the repair areas, the meter, and
what stands outside the module. -/
def State.bare (s : State) : State :=
  { State.reset with
    pending := s.pending, free := s.free, out := s.out, deliveries := s.deliveries, nv := s.nv, spares := s.spares, meter := s.meter
    evr := { sectors := s.evr.sectors, chgStored := s.evr.chgStored }
    fab := { cables := s.fab.cables }
    mtrIf := { prevChange := s.mtrIf.thisChange <|> s.mtrIf.prevChange } }

/-- VAON rises: step 1 runs, and the meter starts on its own supply. -/
def State.powerUp (s : State) : State := s.bare.meterStart

/-- VAON falls: the module is Off. -/
def State.powerOff (s : State) (volt : Bool) : State := { s.bare with boot := { off := true, over_ := volt } }

/-- VAON_UP (R435). -/
def execVaonUp (s : State) : Out := if s.boot.off = true ∧ s.boot.over_ = false then .next s.powerUp else .next s

/-- VAON_DOWN (R408). -/
def execVaonDown (s : State) : Out := .next (s.powerOff false)

/-- OVERVOLTAGE (R503). -/
def execOvervoltage (s : State) : Out := .next (s.powerOff true)

/-- OVERVOLTAGE_RECOVERY (R503): the module restarts. -/
def execOvervoltageRecovery (s : State) : Out := if s.boot.off = true ∧ s.boot.over_ = true then .next s.powerUp else .next s

/-- Registers of a block that a warm restart keeps beside the blocks kept whole (R496). -/
def warmKept : Block → List Reg
  | .PWR => [.PWR_CAP_TRAY, .PWR_TRIP]
  | .CFG => [.CFG_ALIVE, .CFG_TRAY]
  | .SYS => [.SYS_CLK]
  | _ => []

/-- A warm restart (R495, R496): VCORE, VSEC and VMEM fall; the module goes on from step 2 with every partition FREE and no key
left.  `last` is the type SYS_RESET records. -/
def State.warmRestart (s : State) (last : Nat) : State :=
  let awake := s.psState ≠ psFreewheel && !(s.psState = psWaking && s.psTgt = psStandby)
  let s0 := s.coreOff
  let s1 := (Block.all.filter fun b => !(keptBlock b)).foldl (fun (s : State) (b : Block) => s.resetBlock b (warmKept b)) s0
  let s2 := ((s1.resetReg .REC_CUR_CTL).resetReg .REC_CUR_SEQ).resetReg .REC_CUR_STAT
  let s3 : State := { s2 with
    parts := State.reset.parts, rings := State.reset.rings, cmds := [], mem := [], memPoison := [], pages := [], convs := [], keys := []
    zfills := [], memPatrol := [], rowCe := [], rowCopies := [], loansOut := [], offers := [], asks := []
    fab := { cables := s.fab.cables, dupId := s.fab.dupId }, wins := [], afSeen := [], pwr := {}, mapDue := false, qps := [], ports := [{}, {}], kslots := []
    conf := {}, sessions := [], beats := [], mgmt := {}, owed := [], sec := { tempKey := s.sec.tempKey }, ps := {}, i3c := {}
    boot := { s.boot with fromOff := false, scanned := false, waited := false, lost := false, trained := false } }
  let s4 := ((s3.wr F.SYS_RESET_LAST 0 last).wr F.CFG_STAT_STEP 0 2).wr F.CFG_TRAY_MODE 0 0
  let s5 := s4.recap
  if awake then s5 else (s5.setVperi true).restartEngine

/-- RESET_N (R449). -/
def execResetN (s : State) : Out := if s.boot.off then .next s else .next (s.warmRestart 1)

/-! ### Stored images (R446) -/

/-- Whether a configuration image would be accepted at start-up. -/
def State.cfgOk (s : State) (l : List Byte) : Bool := (s.acceptConfig l).isSome

/-- The answer to an image that is refused: a status other than OK, which the spec does not name (log entry 54). -/
def State.imageRefused (s : State) (x : HmpHead) : State :=
  let d := s.freeNat 3
  d.2.hmpSay x 4 (1 + d.1) []

/-- Store an image that was verified in full; the store is a change record. -/
def State.storeImage (s : State) (x : HmpHead) (obj : Nat) (l : List Byte) (put : Nv → Nv) : State × Bool :=
  let c := s.logChange 4 0 obj 0 (BitVec.ofNat 32 (leAt (Config.sha384 l) 0 4)) 0x80
  if c.2 then (({ c.1 with nv := put c.1.nv } : State).hmpSay x 4 0 [], true) else (c.1.hmpSay x 4 4 [], false)

/-- CFG_IMAGE (R440, R446). -/
def execCfgImage (x : HmpHead) (body : List Byte) (s : State) : Out :=
  hmpObj 4 x (fun s => if s.cfgOk body then (s.storeImage x 0x00040001 body fun n => { n with cfgImage := body }).1 else s.imageRefused x) s

/-- FW_IMAGE (R439, R446): in recovery it is the one object a session may write, and the module then restarts from step 2. -/
def execFwImage (x : HmpHead) (body : List Byte) (s : State) : Out :=
  let put := fun (s : State) => s.storeImage x 0x00040002 body fun n => { n with fwImage := body }
  if s.hmpTakes x && s.flag F.CFG_STAT_RECOVERY then
    if s.fwOk body then .next (if (put s).2 then (put s).1.warmRestart 2 else (put s).1) else .next (s.imageRefused x)
  else hmpObj 4 x (fun s => if s.fwOk body then (put s).1 else s.imageRefused x) s

end Sys2Proof.Machine
end

