-- ==== Sys2Proof/Machine/Access.lean ====
section
/-! DEFINITION.  Register accesses (R8 to R11, R256 to R262, R445, R485, R486): what a read returns, which master may read and
write what, the runtime changes that are allowed and logged, and the HMP register requests (R230). -/

namespace Sys2Proof.Machine

/-! ### Registers that are computed when read -/

/-- IRQ_INST registers (R491): the outputs of the instances of a cause register. -/
def State.instOut (s : State) (r : Reg) (lo n : Nat) : Nat := packBits ((List.range n).map fun i => s.causeOut r (lo + i))

/-- IRQ_PIN as it reads. -/
def State.irqPin (s : State) : Word :=
  setField (setField (s.reg .IRQ_PIN 0) F.IRQ_PIN_MGMT (if s.mgmtLine then 1 else 0)) F.IRQ_PIN_ASSERTED (if s.irqLow then 1 else 0)

/-- REC_STAT as it reads. -/
def State.recStat (s : State) : Word :=
  setField (setField (s.reg .REC_STAT 0) F.REC_STAT_FILL s.evr.buf.length) F.REC_STAT_CHG_FILL s.evr.chg.length

/-- Oldest, or newest, SEQ held of the recorder; 0 when none is. -/
def State.recEnd (s : State) (newest : Bool) : Nat :=
  let l := s.evr.sectors.flatMap Sector.recs ++ s.evr.buf
  let age := fun (r : Rec) => recAge s.evr.nextSeq r.seq
  (l.foldl (fun (b : Option Rec) (r : Rec) => match b with
    | some x => if (if newest then age r < age x else age x < age r) then some r else b
    | none => some r) none).elim 0 Rec.seq

/-- REC_CUR_STAT as it reads. -/
def State.curStat (s : State) (c : Nat) : Word :=
  let held := s.curRec c
  let buf := match held with
    | some r => if s.flag F.REC_CUR_CTL_AREA c then s.evr.chg.elem r else s.evr.buf.elem r
    | none => false
  setField (setField (s.reg .REC_CUR_STAT c) F.REC_CUR_STAT_VALID (if held.isSome then 1 else 0)) F.REC_CUR_STAT_BUFFER (if buf then 1 else 0)

/-- FAB_MOD_STAT as it reads: the module that FAB_MOD_SEL names. -/
def State.modStat (s : State) : Word :=
  let m := s.rd F.FAB_MOD_SEL_MODULE
  let ix := entryIx s.liveBank m
  let on := decide (s.rd F.FAB_ROUTE_HI_VALID ix ≠ 0)
  let same := m = s.myId || match Assoc.find s.fab.mods m with
    | some t => decide (t.peloton = s.rd F.FAB_TR_ID_PELOTON)
    | none => false
  let b := fun (x : Bool) => if x then 1 else 0
  setField (setField (setField (setField (setField 0 F.FAB_MOD_STAT_LOST (b (s.fab.lost.elem m))) F.FAB_MOD_STAT_REACHABLE (b on))
    F.FAB_MOD_STAT_PELOTON (b same)) F.FAB_MOD_STAT_HOPS (if on then s.rd F.FAB_ROUTE_HI_HOPS ix else 0x3F)) F.FAB_MOD_STAT_PEERSET
    (Assoc.get 0 s.fab.peerSets m)

/-- CLU_TOK_READ as it reads: the token CLU_TOK_SEL names; a global token shows in the home cluster alone, and all read 0 while
VCORE is off (R497). -/
def State.tokRead (s : State) (p : Nat) : Word :=
  let glob := s.flag F.CLU_TOK_SEL_GLOBAL p
  let t := s.rd F.CLU_TOK_SEL_INDEX p
  match s.tokKey p glob t with
  | some k =>
    if s.pwr.vcore && s.tokHolder k = some p && (!glob || t < 64) then
      setField (setField 0 F.CLU_TOK_READ_COUNT (s.tokCount k)) F.CLU_TOK_READ_WAITERS (min 255 (s.waiters.filter fun w => w.tok = k).length)
    else 0
  | none => 0

/-- CLU_BOB_STAT as it reads. -/
def State.bobStat (s : State) (p : Nat) : Word :=
  let n := fun (b : Nat) => min 64 (Assoc.get [] s.bobQ (unitCode p (16 + b))).length
  setField (setField (setField (setField 0 F.CLU_BOB_STAT_Q0 (n 0)) F.CLU_BOB_STAT_Q1 (n 1)) F.CLU_BOB_STAT_Q2 (n 2)) F.CLU_BOB_STAT_Q3 (n 3)

/-- A reading of the coolant I/O as the channel space shows it (R339). -/
def State.chRead (s : State) (k : Nat) : Word :=
  match Assoc.find s.cio.reads k with
  | some x => cwOf x.v
  | none => 0

/-- CFG_STAT as it reads. -/
def State.cfgView (s : State) : Word := setField s.cfgStat F.CFG_STAT_RESTARTS (min 15 s.restartsNow.length)

/-- What a register reads as, for `master` (R9, R497). -/
def State.view (s : State) (master : Nat) (r : Reg) (i : Nat) : Word :=
  match r with
  | .IRQ_SUM => wd s.irqSum
  | .IRQ_PIN => s.irqPin
  | .IRQ_INST_FAB => wd (s.instOut .FAB_PORT_CAUSE 0 18 + s.instOut .FAB_TR_CAUSE 0 1 * 2 ^ 18)
  | .IRQ_INST_ETH => wd (s.instOut .ETH_PORT_CAUSE 0 2)
  | .IRQ_INST_MEM => wd (s.instOut .MEM_CAUSE 0 8)
  | .IRQ_INST_CLU0 => wd (s.instOut .CLU_CAUSE 0 32)
  | .IRQ_INST_CLU1 => wd (s.instOut .CLU_CAUSE 32 32)
  | .IRQ_INST_CLU2 => wd (s.instOut .CLU_CAUSE 64 4)
  | .PWR_CAD_CLU => wd s.cadClu
  | .PWR_VOTE => setField (s.reg .PWR_VOTE 0) F.PWR_VOTE_HELD s.votes
  | .TIM_NOW_LO => wd s.timeBase.toNat
  | .TIM_NOW_HI => (Assoc.find s.timLatch master).getD (wd (s.timeBase.toNat / 2 ^ 32))
  | .CFG_STAT => s.cfgView
  | .CFG_ALIVE => setField (s.reg .CFG_ALIVE 0) F.CFG_ALIVE_HB_AGE s.hbAge
  | .REC_STAT => s.recStat
  | .REC_FIRST_SEQ => wd (s.recEnd false)
  | .REC_LAST_SEQ => wd (s.recEnd true)
  | .REC_CUR_SEQ => (s.curRec i).elim (s.reg .REC_CUR_SEQ i) fun x => wd x.seq
  | .REC_CUR_STAT => s.curStat i
  | .REC_WIN => s.recWord (i / 16) (i % 16)
  | .CLE_TRC_DATA => s.traceWord i
  | .CLE_SLOT_U => if s.slotOn i then cwOf (s.applied i) else s.reg .CLE_SLOT_U i
  | .CLE_REP_TABLE => Assoc.get 0 (s.slot (i / 256)).q (i % 256)
  | .CIO_CH_AO => Assoc.get 0 s.cio.cmds (4 * i)
  | .CIO_CH_PWM => Assoc.get 0 s.cio.cmds (0x20 + 4 * i)
  | .CIO_CH_AI => s.chRead i
  | .CIO_CH_TACH => s.chRead (0x0A + i)
  | .CIO_CH_PT => s.chRead (8 + i)
  | .CIO_CH_TEMP => s.chRead (0x100 + i)
  | .CIO_CH_PRESS => s.chRead (0x1A + i)
  | .CIO_CH_FLOW => s.chRead 0x1C
  | .CIO_CH_HB => cwOf s.cio.q
  | .CLN_CH_STAT => setField (s.reg .CLN_CH_STAT i) F.CLN_CH_STAT_RECEIVING (if s.receiving i then 1 else 0)
  | .CLN_RXWIN => s.rxWord (i / 19) (i % 19)
  | .CLN_TIME => wd s.micros
  | .ROW_STAT => setField (setField (s.reg .ROW_STAT 0) F.ROW_STAT_MIRROR_AGE s.mirrorAge) F.ROW_STAT_HEALTHY s.healthSecs
  | .FAB_MOD_STAT => s.modStat
  | .CLU_TOK_READ => s.tokRead i
  | .CLU_BOB_STAT => s.bobStat i
  | r => s.reg r i

/-- What reading a register does besides (R306, R466, R500). -/
def State.readEffect (s : State) (master : Nat) (r : Reg) (i : Nat) : State :=
  match r with
  | .TIM_NOW_LO => { s with timLatch := Assoc.put s.timLatch master (wd (s.timeBase.toNat / 2 ^ 32)) }
  | .CLE_TRC_DATA => s.traceAdvance i
  | .REC_WIN => if i % 16 = 15 then s.recAdvance (i / 16) else s
  | _ => s

/-! ### Who may reach what (R258 to R260, R267, R453, R486, R488, R492, R498) -/

/-- The target an address belongs to: a register block, the channel space, or the meter's request space. -/
def accTarget (a : Nat) : Nat :=
  match blockAt a with
  | none => noTarget
  | some b =>
    let o := a - b.base
    if b = .CIO ∧ 0x8000 ≤ o ∧ o < 0x9000 then 0x70 else if b = .MTR ∧ 0x8000 ≤ o ∧ o < 0x8100 then 0x71 else 0x60 + b.num

/-- The address within its target. -/
def accOffset (a : Nat) : Nat :=
  match blockAt a with
  | none => a
  | some b => if accTarget a = 0x70 ∨ accTarget a = 0x71 then a - b.base - 0x8000 else a - b.base

/-- The I3C subset of R488. -/
def traySubset (b : Block) (o : Nat) (write : Bool) : Bool :=
  let w := fun (lo hi : Nat) => decide (lo ≤ o ∧ o ≤ hi)
  match b with
  | .SYS => if write then w 0x30 0x37 else w 0 0x37
  | .IRQ => if write then w 0x10 0x1B else w 0 0x5B
  | .PWR => if write then w 0x24 0x27 || w 0x104 0x107 || w 0x10C 0x10F else w 0 0x4B || w 0x100 0x127
  | .TIM => !write && w 0 0x37
  | .CFG => if write then w 0x20 0x27 else w 0 0x2B
  | .REC => if write then w 0x04 0x07 || w 0x180 0x187 else w 0 0x2B || w 0x180 0x1FF
  | .SEC => !write && w 0x10 0x17
  | .CLE => !write && w 0x10 0x17
  | .CIO => !write && (w 0x00 0x03 || w 0x10 0x17 || (Reg.CIO_LEAK_STAT.info.off ≤ o && o < Reg.CIO_LEAK_STAT.info.off + 4))
  | .MTR => !write && w 0x10 0x17
  | .CLN => !write && (w 0x0810 0x0817 || w 0x8004 0x8017)
  | _ => false

/-- Whether a master is a management core. -/
def isMgmt (m : Nat) : Bool := 0x80 ≤ m && m < 0x84

/-- Writes that are kept to some masters whatever else they reach. -/
def writeKept (m : Nat) (b : Block) (o : Nat) : Bool :=
  match b with
  | .SYS => isMgmt m || m = 0x84 || m = 0x8C
  | .IRQ => !(decide (0x10 ≤ o ∧ o < 0x1C)) || m = 0x84 || m = 0x8C
  | .CFG => o ≠ Reg.CFG_WDOG.info.off || isMgmt m
  | .SEC =>
    let fixed := [Reg.SEC_AT_BASE_LO, .SEC_AT_BASE_HI, .SEC_AT_LIMIT_LO, .SEC_AT_LIMIT_HI, .SEC_AT_RIGHTS, .SEC_ADMIT_MOD, .SEC_ADMIT_PART]
    m = 0x84 || !(fixed.any fun r => (r.instAt o).isSome)
  | _ => true

/-- The grants of R260 for register accesses. -/
def State.grantsMaster (s : State) (m : Nat) (write : Bool) (b : Block) (o t : Nat) : Bool :=
  let meter := !write || o = Reg.MTR_REQ.info.off
  if m = 0x84 then true
  else if isMgmt m then t ≠ 0x71 || meter
  else if m = 0x88 then b = .CLE || b = .CIO || b = .PWR || (t = 0x71 && meter)
  else if m = 0x8C then traySubset b o write
  else if m = 0x8E then s.flag F.SEC_STATE_DEBUG && b ≠ .SEC
  else m < 0x10 && b = .ETH && o / 0x1000 = 0x80 + m

/-- Whether an access is accepted: aligned, inside a block, and granted by R260 or by a window written since (R259). -/
def State.mayAccess (s : State) (m : Nat) (write : Bool) (a : Nat) : Bool :=
  a % 4 = 0 && (match blockAt a with
    | none => false
    | some b =>
      let o := a - b.base
      (!write || writeKept m b o) &&
        (s.grantsMaster m write b o (accTarget a) || s.winGrants m (accTarget a) (if write then kWrite else kRead) (accOffset a) 4))

/-- An access to a CLU register wakes compute from its retention level (R419). -/
def State.cluWake (s : State) (a : Nat) : State :=
  if accTarget a = 0x6E ∧ s.pwr.retention = true ∧ s.psState = psStandby then s.coreWake.wr F.PWR_PS_STAT_CORE_AWAKE 0 1 else s

/-- What an address with no register reads as: the ring fetch buffers of the ETH block (R118, R236), else 0 (R11). -/
def State.bareRead (s : State) (a : Nat) : Word :=
  let o := a - Block.base .ETH
  if Block.base .ETH + 0xA0000 ≤ a ∧ a < Block.base .ETH + 0xE0000 then s.fetchWord (o - 0xA0000) else 0

/-- A read of address `a`: the word, the state after, and whether it was accepted; a reserved address reads 0 (R11). -/
def State.accessRead (s : State) (m a : Nat) : Word × State × Bool :=
  if s.mayAccess m false a then
    match regAt a with
    | some (r, i) => (s.view m r i, (s.readEffect m r i).cluWake a, true)
    | none => (s.bareRead a, s, true)
  else (0, s.reject m (accTarget a) kRead (accOffset a), false)

/-! ### Changes at runtime (R276, R363, R445, R465) -/

/-- The category of R445 a register belongs to. -/
def category (r : Reg) : Option Nat :=
  match r with
  | .PWR_CAP_CFG | .PWR_CAP_TRAY | .ROW_CFG => some 0
  | .CLE_SLOT_W_W | .PWR_GEAR_REQ => some 1
  | .PWR_TJ_WARN | .CIO_HB_CFG | .PWR_FW_THR | .CIO_LEAK_CTL => some 2
  | .ROW_CMD => some 3
  | .CLE_SLOT_W_KP | .CLE_SLOT_W_KI | .CLE_SLOT_W_KD | .CLE_SLOT_W_DF | .CLE_SLOT_W_KFF | .CLE_SLOT_W_BIAS | .CLE_SLOT_W_KT => some 4
  | _ => none

/-- Registers of R444's list whose owning rules have software write them at runtime (log entry 55). -/
def runtimeOwn (r : Reg) : Bool :=
  (causeOfIe r).isSome || [Reg.PWR_CAD_SEL, .PWR_PS_REQ, .PWR_VOTE, .CLE_TRC_CFG, .CLE_TRC_NODE, .CLE_TRC_THR, .CLE_TRC_CUR, .CLE_REP_TABLE,
    .CIO_CH_AO, .CIO_CH_PWM, .CLN_RXQ_CUR, .CLN_EVQ_ID, .CLN_EVQ_LEN, .CLN_EVQ_CMD, .CLN_EVQ_DATA, .CFG_TRAY, .MEM_LEND_OFFER,
    .FAB_RT_EPOCH].elem r

/-- Registers that the configuration sets (R443, R444). -/
def setByConfig (r : Reg) : Bool := (regAllowed r && !(runtimeOwn r)) || r = .ETH_VLAN

/-- Whether a write changes a stored field. -/
def State.changes (s : State) (r : Reg) (i : Nat) (w : Word) : Bool :=
  (accWord r (s.reg r i) w ^^^ s.reg r i) &&& r.accMask .RW ≠ 0

/-- Whether R445 refuses a write: of a register the configuration sets, through HMP, outside an open category; and of the
tray's cap while caps are closed.  The reservation of R133 is refused too. -/
def State.closed (s : State) (hmp : Bool) (m : Nat) (r : Reg) (i : Nat) (w : Word) : Bool :=
  let isOpen := match category r with
    | some c => s.conf.runtime.testBit c && (r ≠ .CIO_LEAK_CTL || fieldOf w F.CIO_LEAK_CTL_VALVE = s.rd F.CIO_LEAK_CTL_VALVE)
    | none => false
  if hmp then
    [Reg.MEM_PART_SET, .MEM_PART_BASE, .MEM_PART_FRAMES].elem r ||
      (!isOpen && ((setByConfig r && s.changes r i w) || r = .ROW_CMD))
  else m = 0x8C && r = .PWR_CAP_TRAY && !isOpen

/-- Row registers whose runtime writes are logged (R363). -/
def rowLogged (r : Reg) : Bool := [Reg.ROW_CFG, .ROW_HEAT_CFG, .ROW_HEAT_CFG2, .ROW_SRC, .ROW_SLOTS, .ROW_PUMP_CFG, .ROW_PUMP, .ROW_MEMBER].elem r

/-- Whether an accepted write is a change record: each write of a cap (R276), of a row register (R363), and through HMP each
change of R445. -/
def State.logged (s : State) (hmp : Bool) (r : Reg) (i : Nat) (w : Word) : Bool :=
  r = .PWR_CAP_CFG || r = .PWR_CAP_TRAY || (s.changes r i w && (rowLogged r || (hmp && (category r).isSome && r ≠ .ROW_CMD)))

/-- Writes that keep their own change record (R356, R465). -/
def State.selfLogged (s : State) (m : Nat) (r : Reg) (w : Word) : Bool :=
  (r = .ROW_CMD && fieldOf w F.ROW_CMD_HANDOVER = 1) ||
    (r = .CFG_TRAY && m = 0x8C && (fieldOf w F.CFG_TRAY_RESTART = 1 || fieldOf w F.CFG_TRAY_MODE ≠ s.rd F.CFG_TRAY_MODE))

/-- A write of register `r` that its master may make: the state after, and an HMP status: 0 OK, 3 refused by configuration, 4
busy for a full change buffer. -/
def State.guardedWrite (s : State) (hmp : Bool) (m : Nat) (r : Reg) (i : Nat) (w : Word) : State × Nat :=
  if s.closed hmp m r i w then (s, 3)
  else
    let log := s.logged hmp r i w
    let t := s.tryWrite m r i w
    if t.2 && t.1.reg r i = s.reg r i then (t.1, 0)
    else if (log || s.selfLogged m r w) && 64 ≤ s.evr.chg.length then (s.raise F.REC_CAUSE_CHG_FULL, 4)
    else if log then (((s.logChange r.info.block.num i (r.addr i) (s.reg r i) (accWord r (s.reg r i) w) m).1.tryWrite m r i w).1, 0)
    else (t.1, 0)

/-- A write of address `a` by a master: the state after, and an HMP status (R230); a rejected access is status 1, and a
write of a reserved address is ignored (R11). -/
def State.accessWrite (s : State) (hmp : Bool) (m a : Nat) (w : Word) : State × Nat :=
  if s.mayAccess m true a then
    match regAt a with
    | some (r, i) => (s.cluWake a).guardedWrite hmp m r i w
    | none => (s, 0)
  else (s.reject m (accTarget a) kWrite (accOffset a), 1)

/-- REGISTER_WRITE (R8, R9, R262): a write by a master; one that is not a 32-bit access is rejected. -/
def execRegisterWrite (master : BitVec 10) (addr : BitVec 24) (wide : Bool) (w : Word) (s : State) : Out :=
  if s.boot.off then .next s
  else if wide then .next (s.accessWrite false master.toNat addr.toNat w).1
  else .next (s.reject master.toNat (accTarget addr.toNat) kWrite (accOffset addr.toNat))

/-! ### HMP (R230, R239, R439) -/

/-- Blocks a session in recovery may read. -/
def recoveryRead (a : Nat) : Bool := blockAt a = some .SYS || blockAt a = some .CFG || blockAt a = some .REC

/-- Read `n` registers from `a` for HMP: the words and the state, or the access fault that ends the request. -/
def State.hmpReadAll (s : State) (a : Nat) : Nat → (List Word × State × Bool)
  | 0 => ([], s, true)
  | n + 1 =>
    if s.flag F.CFG_STAT_RECOVERY && !(recoveryRead a) then ([], s, false)
    else
      let x := s.accessRead 0x80 a
      if x.2.2 then
        let t := State.hmpReadAll x.2.1 (a + 4) n
        (x.1 :: t.1, t.2)
      else ([], x.2.1, false)

/-- REG_READ (R230): 1 to 256 registers; anything else is malformed.  Nothing to a client without a session (R229). -/
def execRegRead (x : HmpHead) (addr n : Word) (s : State) : Out :=
  if !s.hmpUp || !(s.sessions.elem x.client) then .next s
  else if !x.ok ∨ n = 0 ∨ 256 < n.toNat then .next (s.hmpSay x 1 2 [])
  else
    let t := s.hmpReadAll addr.toNat n.toNat
    .next (if t.2.2 then t.2.1.hmpSay x 1 0 (t.1.flatMap fun (w : Word) => natLE 4 w.toNat) else t.2.1.hmpSay x 1 1 [])

/-- Write words from `a` on for HMP, up to the first that is refused. -/
def State.hmpWriteAll (s : State) (a : Nat) : List Word → State × Nat
  | [] => (s, 0)
  | w :: t =>
    let x := s.accessWrite true 0x80 a w
    if x.2 = 0 then State.hmpWriteAll x.1 (a + 4) t else x

/-- REG_WRITE (R230): 1 to 256 registers; nothing in recovery and without an identity (R239, R439), nor to a client without a
session (R229). -/
def execRegWrite (x : HmpHead) (addr n : Word) (vals : List Word) (s : State) : Out :=
  if !s.hmpUp || !(s.sessions.elem x.client) then .next s
  else if !x.ok ∨ n = 0 ∨ 256 < n.toNat ∨ vals.length ≠ n.toNat then .next (s.hmpSay x 2 2 [])
  else if s.flag F.CFG_STAT_RECOVERY || s.rd F.SEC_STATE_ID = 2 then .next (s.hmpSay x 2 1 [])
  else
    let t := s.hmpWriteAll addr.toNat vals
    .next (t.1.hmpSay x 2 t.2 [])

end Sys2Proof.Machine
end

