-- ==== Sys2Proof/Machine/I3c.lean ====
section
/-! DEFINITION.  The tray sideband: the I3C target (R487 to R489) and the interrupt pin (R492, R493); and what the module does
by itself while no command waits. -/

namespace Sys2Proof.Machine

/-! ### IRQ_N (R492, R493) -/

/-- IRQ_TRAY_PEND_WRITE (R492): the bits written 1 are acknowledged; accepted from the tray and the security core only. -/
def execIrqTrayPendWrite (master : BitVec 10) (w : Word) (s : State) : Out :=
  if s.boot.off then .next s else .next (s.accessWrite false master.toNat (Reg.addr .IRQ_TRAY_PEND 0) w).1

/-- IRQ_REEDGE_PULSE_END (R493): the pulse is over, and IRQ_N goes low again while its condition holds. -/
def execIrqReedgePulseEnd (s : State) : Out := .next { s with irqPulse := false }

/-! ### Private transfers (R487 to R489) -/

/-- Addresses that answer in Freewheel without waking the module (R489). -/
def awakeInFreewheel (a : Nat) : Bool :=
  match blockAt a with
  | some .IRQ | some .CIO | some .CLN | some .MTR => true
  | some .CFG => 0x20 ≤ a - Block.CFG.base && a - Block.CFG.base < 0x2C
  | some .PWR => 0x100 ≤ a - Block.PWR.base && a - Block.PWR.base < 0x128
  | _ => false

/-- The periphery sleeps, or has not woken yet. -/
def State.periAsleep (s : State) : Bool := s.psState = psFreewheel || (s.psState = psWaking && s.psTgt = psStandby)

/-- The bus address header is not acknowledged. -/
def State.nack (s : State) (f : Fld) : State := (s.wr f 0 1).emit .i3cNack

/-- The address headers of a transfer of `n` words from `a` are refused for a sleeping block, which is woken. -/
def State.trayWakes (s : State) (a n : Nat) : Bool := s.periAsleep && (List.range (max 1 n)).any fun k => !(awakeInFreewheel (a + 4 * k))

/-- Write words from `a` on for the tray: the state, whether an access was refused, whether the change buffer was full. -/
def State.trayWriteAll (s : State) (a : Nat) : List Word → State × Bool × Bool
  | [] => (s, false, false)
  | w :: t =>
    let x := s.accessWrite false 0x8C a w
    let y := State.trayWriteAll x.1 (a + 4) t
    (y.1, y.2.1 || x.2 = 1 || x.2 = 3, y.2.2 || x.2 = 4)

/-- I3C_PRIVATE_WRITE (R487): an address and 0 to 16 words, each one register write; words beyond the maximum write length,
which is never above 16 of them, are not taken (log entry 8). -/
def execI3cPrivateWrite (addr : BitVec 24) (words : List Word) (s : State) : Out :=
  if s.boot.off then .next s
  else if s.rd F.SYS_I3C_STAT_DYNADDR = 0 then .next (s.emit .i3cNack)
  else if s.trayWakes addr.toNat (min 16 words.length) then .next ((s.wakeEvent F.PWR_WAKE_SRC_I3C).nack F.SYS_I3C_STAT_WAKE_NACK)
  else
    let t := s.trayWriteAll addr.toNat (words.take (min 16 ((s.i3c.mwl - 3) / 4)))
    if t.2.2 then .next ((s.raise F.REC_CAUSE_CHG_FULL).nack F.SYS_I3C_STAT_BUSY)
    else .next (if t.2.1 then t.1.wr F.SYS_I3C_STAT_AF 0 1 else t.1)

/-- Read `n` words from `a` for the tray: the words, the state, whether an access was refused. -/
def State.trayReadAll (s : State) (a : Nat) : Nat → List Word × State × Bool
  | 0 => ([], s, false)
  | n + 1 =>
    let x := s.accessRead 0x8C a
    let y := State.trayReadAll x.2.1 (a + 4) n
    (x.1 :: y.1, y.2.1, y.2.2 || !x.2.2)

/-- I3C_PRIVATE_READ (R487): the address, then 1 to 16 words; one that is refused reads 0, and words beyond the maximum read
length, which is never above 16 of them, are not given (log entry 8). -/
def execI3cPrivateRead (addr : BitVec 24) (n : BitVec 5) (s : State) : Out :=
  if s.boot.off then .next s
  else if s.rd F.SYS_I3C_STAT_DYNADDR = 0 then .next (s.emit .i3cNack)
  else if s.trayWakes addr.toNat (min 16 n.toNat) then .next ((s.wakeEvent F.PWR_WAKE_SRC_I3C).nack F.SYS_I3C_STAT_WAKE_NACK)
  else
    let t := s.trayReadAll addr.toNat (min (min 16 n.toNat) (s.i3c.mrl / 4))
    let s1 := if t.2.2 then t.2.1.wr F.SYS_I3C_STAT_AF 0 1 else t.2.1
    .next (s1.emit (.i3c (t.1.flatMap fun (w : Word) => natLE 4 w.toNat)))

/-! ### Common command codes (R487) -/

/-- The provisioned ID, most significant byte first: manufacturer, part code, and the module's ID as instance. -/
def State.i3cPid (s : State) : List Byte :=
  let v := Config.manufacturerId.toNat * 2 ^ 33 + 0x5831 * 65536 + s.rd F.FAB_TR_ID_MODULE
  (natLE 6 v).reverse

/-- Answer a directed code that reads; a target without a dynamic address does not answer. -/
def State.cccAnswer (s : State) (l : List Byte) : Out :=
  if s.boot.off then .next s
  else .next (s.emit (if s.rd F.SYS_I3C_STAT_DYNADDR = 0 then .i3cNack else .i3c l))

/-- The bus characteristics register: a target with no in-band interrupts and no HDR mode; bits 4, 3 and 0 are not given. -/
def State.i3cBcr (s : State) : Byte × State :=
  let d := s.freeNat 256
  (BitVec.ofNat 8 d.1 &&& 0x19, d.2)

/-- ENTDAA: a target without an address shows its identity and takes the address. -/
def execEntdaa (da : BitVec 7) (s : State) : Out :=
  if s.boot.off = true ∨ s.rd F.SYS_I3C_STAT_DYNADDR ≠ 0 then .next s
  else
    let b := s.i3cBcr
    let c := b.2.freeNat 256
    .next ((c.2.emit (.i3c (s.i3cPid ++ [b.1, BitVec.ofNat 8 c.1]))).wr F.SYS_I3C_STAT_DYNADDR 0 da.toNat)

/-- SETDASA: from the static address 0x2E. -/
def execSetdasa (static da : BitVec 7) (s : State) : Out :=
  if s.boot.off = true ∨ static ≠ 0x2E ∨ s.rd F.SYS_I3C_STAT_DYNADDR ≠ 0 then .next s
  else .next (s.wr F.SYS_I3C_STAT_DYNADDR 0 da.toNat)

/-- RSTDAA. -/
def execRstdaa (s : State) : Out := .next (s.wr F.SYS_I3C_STAT_DYNADDR 0 0)

/-- SETNEWDA. -/
def execSetnewda (da : BitVec 7) (s : State) : Out :=
  if s.boot.off = true ∨ s.rd F.SYS_I3C_STAT_DYNADDR = 0 then .next s
  else .next (s.wr F.SYS_I3C_STAT_DYNADDR 0 da.toNat)

/-- GETPID. -/
def execGetpid (s : State) : Out := s.cccAnswer s.i3cPid

/-- GETBCR. -/
def execGetbcr (s : State) : Out := let b := s.i3cBcr; b.2.cccAnswer [b.1]

/-- GETDCR: its value is not given. -/
def execGetdcr (s : State) : Out := let d := s.freeBytes 1; d.2.cccAnswer d.1

/-- GETSTATUS: no interrupt is pending in band; the rest is not given. -/
def execGetstatus (s : State) : Out :=
  let d := s.freeNat 65536
  d.2.cccAnswer (natLE 2 (d.1 / 16 * 16)).reverse

/-- SETMWL. -/
def execSetmwl (n : BitVec 16) (s : State) : Out := .next (if s.boot.off then s else { s with i3c := { s.i3c with mwl := n.toNat } })

/-- SETMRL. -/
def execSetmrl (n : BitVec 16) (s : State) : Out := .next (if s.boot.off then s else { s with i3c := { s.i3c with mrl := n.toNat } })

/-- GETMWL. -/
def execGetmwl (s : State) : Out := s.cccAnswer (natLE 2 s.i3c.mwl).reverse

/-- GETMRL. -/
def execGetmrl (s : State) : Out := s.cccAnswer (natLE 2 s.i3c.mrl).reverse

end Sys2Proof.Machine
end

