-- ==== Sys2Proof/Machine/Idle.lean ====
section
/-! DEFINITION.  What the module does by itself while no command waits (log entry 3): a period of 10 ns of SYS_CLK passes. -/

namespace Sys2Proof.Machine

/-- The readings of R457 are kept where 100 ms have passed since they last were. -/
def State.keepDue (s : State) (before : Nat) : State :=
  if s.up / 100000000 ≠ before / 100000000 then s.keepReadings else s

/-- One tick: the clock and the counters go on (R423, R424); PWM ramps move (R321); the readings of every 100 ms are kept
(R457); the Ethernet ports go on (R216, R226, R232); a vote held keeps or brings back Run (R412); health is watched (R355); the core powers on once compute is asked for
and permitted (R436).  With the module off nothing happens. -/
def State.idle (s : State) : State :=
  if s.boot.off then s else ((((s.tick.rampTick).keepDue s.up).ethTick s.up).voteCheck.healthCheck).tryGate

end Sys2Proof.Machine
end

