-- ==== Sys2Proof/Machine/Dispatch.lean ====
section
/-! DEFINITION.  The dispatch: one arm per constructor of Instr, each one direct call of its meaning. -/

namespace Sys2Proof.Machine

def exec (i : Instr) (s : State) : Host.Outcome State Fault Refusal :=
  match i with
  | .referenceLoss => Sys2Proof.Machine.execReferenceLoss s
  | .referenceRestored => Sys2Proof.Machine.execReferenceRestored s
  | .nop p e ix => Sys2Proof.Machine.execNop p e ix s
  | .mmaOs p e ix h => Sys2Proof.Machine.execMmaOs p e ix h s
  | .mmaWs p e ix h => Sys2Proof.Machine.execMmaWs p e ix h s
  | .vecEw p e ix h => Sys2Proof.Machine.execVecEw p e ix h s
  | .vecRed p e ix h => Sys2Proof.Machine.execVecRed p e ix h s
  | .vecAct p e ix h => Sys2Proof.Machine.execVecAct p e ix h s
  | .vecTload p e ix h => Sys2Proof.Machine.execVecTload p e ix h s
  | .vecSoftmax p e ix h => Sys2Proof.Machine.execVecSoftmax p e ix h s
  | .vecRecip p e ix h => Sys2Proof.Machine.execVecRecip p e ix h s
  | .quant p e ix h => Sys2Proof.Machine.execQuant p e ix h s
  | .dequant p e ix h => Sys2Proof.Machine.execDequant p e ix h s
  | .gather p e ix h => Sys2Proof.Machine.execGather p e ix h s
  | .scatter p e ix h => Sys2Proof.Machine.execScatter p e ix h s
  | .sync p e ix => Sys2Proof.Machine.execSync p e ix s
  | .beacon p e ix => Sys2Proof.Machine.execBeacon p e ix s
  | .endSeg p e ix => Sys2Proof.Machine.execEnd p e ix s
  | .tokenWait p unit glob t n => Sys2Proof.Machine.execTokenWait p unit glob t n s
  | .tokenWaitRelease p glob t => Sys2Proof.Machine.execTokenWaitRelease p glob t s
  | .tokenSignal p glob t n => Sys2Proof.Machine.execTokenSignal p glob t n s
  | .stallTimeout p unit => Sys2Proof.Machine.execStallTimeout p unit s
  | .storeScrubForced p bank h => Sys2Proof.Machine.execStoreScrubForced p bank h s
  | .storePatrolRead p h => Sys2Proof.Machine.execStorePatrolRead p h s
  | .bobbinMove p b d h m => Sys2Proof.Machine.execBobbinMove p b d h m s
  | .bobbinGather p b d h m => Sys2Proof.Machine.execBobbinGather p b d h m s
  | .bobbinScatter p b d h m => Sys2Proof.Machine.execBobbinScatter p b d h m s
  | .bobbinPut p b d h m => Sys2Proof.Machine.execBobbinPut p b d h m s
  | .bobbinGet p b d => Sys2Proof.Machine.execBobbinGet p b d s
  | .bobbinColl p b d h m => Sys2Proof.Machine.execBobbinColl p b d h m s
  | .bobbinSync p b d => Sys2Proof.Machine.execBobbinSync p b d s
  | .bobbinEnd p b d => Sys2Proof.Machine.execBobbinEnd p b d s
  | .descriptorStatusEnd p b => Sys2Proof.Machine.execDescriptorStatusEnd p b s
  | .engineFault p e l => Sys2Proof.Machine.execEngineFault p e l s
  | .engineHandshakeTimeout p e l => Sys2Proof.Machine.execEngineHandshakeTimeout p e l s
  | .engineReplay p e h => Sys2Proof.Machine.execEngineReplay p e h s
  | .clusterFault p => Sys2Proof.Machine.execClusterFault p s
  | .spareBringInComplete p pass => Sys2Proof.Machine.execSpareBringInComplete p pass s
  | .routerFault => Sys2Proof.Machine.execRouterFault s
  | .clusterTestDone pass bad => Sys2Proof.Machine.execClusterTestDone pass bad s
  | .clusterMapWrite => Sys2Proof.Machine.execClusterMapWrite s
  | .clusterGate p => Sys2Proof.Machine.execClusterGate p s
  | .clusterUngate p => Sys2Proof.Machine.execClusterUngate p s
  | .relaxPending => Sys2Proof.Machine.execRelaxPending s
  | .relaxEndPending => Sys2Proof.Machine.execRelaxEndPending s
  | .partAssign x body => Sys2Proof.Machine.execPartAssign x body s
  | .partRelease x body => Sys2Proof.Machine.execPartRelease x body s
  | .partState x => Sys2Proof.Machine.execPartState x s
  | .scrubHalted n => Sys2Proof.Machine.execScrubHalted n s
  | .scrubStoresZeroed n => Sys2Proof.Machine.execScrubStoresZeroed n s
  | .zeroFillDone k loan owner => Sys2Proof.Machine.execZeroFillDone k loan owner s
  | .ethRingPiWrite ix v => Sys2Proof.Machine.execEthRingPiWrite ix v s
  | .ethRingCtlWrite ix w => Sys2Proof.Machine.execEthRingCtlWrite ix w s
  | .ethCqCiWrite ix w => Sys2Proof.Machine.execEthCqCiWrite ix w s
  | .ringFetch ix h => Sys2Proof.Machine.execRingFetch ix h s
  | .commandStart ix => Sys2Proof.Machine.execCommandStart ix s
  | .cmdNop ix c => Sys2Proof.Machine.execCmdNop ix c s
  | .jobOpen ix c => Sys2Proof.Machine.execJobOpen ix c s
  | .load ix c => Sys2Proof.Machine.execLoad ix c s
  | .run ix c => Sys2Proof.Machine.execRun ix c s
  | .fence ix c => Sys2Proof.Machine.execFence ix c s
  | .signal ix c => Sys2Proof.Machine.execSignal ix c s
  | .mark ix c => Sys2Proof.Machine.execMark ix c s
  | .jobClose ix c => Sys2Proof.Machine.execJobClose ix c s
  | .commandComplete ix c => Sys2Proof.Machine.execCommandComplete ix c s
  | .ingestSealedRecord ix c => Sys2Proof.Machine.execIngestSealedRecord ix c s
  | .stackRead k line crc h => Sys2Proof.Machine.execStackRead k line crc h s
  | .stackWrite k line data mask poison crc => Sys2Proof.Machine.execStackWrite k line data mask poison crc s
  | .pageConversionDone k frame => Sys2Proof.Machine.execPageConversionDone k frame s
  | .memPatrolScrub k h => Sys2Proof.Machine.execMemPatrolScrub k h s
  | .rowSpareDone k bank => Sys2Proof.Machine.execRowSpareDone k bank s
  | .stackFail k => Sys2Proof.Machine.execStackFail k s
  | .rotationReq n => Sys2Proof.Machine.execRotationReq n s
  | .rotationKeyLoaded n => Sys2Proof.Machine.execRotationKeyLoaded n s
  | .sweepConversion k n h => Sys2Proof.Machine.execSweepConversion k n h s
  | .lendOfferAdvertise => Sys2Proof.Machine.execLendOfferAdvertise s
  | .lendOffer j p => Sys2Proof.Machine.execLendOffer j p s
  | .lendRequest j p => Sys2Proof.Machine.execLendRequest j p s
  | .lendGrant j p => Sys2Proof.Machine.execLendGrant j p s
  | .loanTimeout ix c => Sys2Proof.Machine.execLoanTimeout ix c s
  | .stackTrainingDone k ok => Sys2Proof.Machine.execStackTrainingDone k ok s
  | .flitTransmit j => Sys2Proof.Machine.execFlitTransmit j s
  | .flitReceive j f good copy fec => Sys2Proof.Machine.execFlitReceive j f good copy fec s
  | .hello j q h => Sys2Proof.Machine.execHello j q h s
  | .laneDrop j q mask planned => Sys2Proof.Machine.execLaneDrop j q mask planned s
  | .laneAdd j q mask => Sys2Proof.Machine.execLaneAdd j q mask s
  | .remap j q mask => Sys2Proof.Machine.execRemap j q mask s
  | .narrow j q => Sys2Proof.Machine.execNarrow j q s
  | .widen j q => Sys2Proof.Machine.execWiden j q s
  | .down j q moduleStops => Sys2Proof.Machine.execDown j q moduleStops s
  | .laneFault j mask => Sys2Proof.Machine.execLaneFault j mask s
  | .linkSilenceTimeout j => Sys2Proof.Machine.execLinkSilenceTimeout j s
  | .linkRetrainTimer j => Sys2Proof.Machine.execLinkRetrainTimer j s
  | .linkTrainingDone j lanes rtt => Sys2Proof.Machine.execLinkTrainingDone j lanes rtt s
  | .laneReaddRetry l => Sys2Proof.Machine.execLaneReaddRetry l s
  | .laneReaddTestDone l pass => Sys2Proof.Machine.execLaneReaddTestDone l pass s
  | .retrain p mask => Sys2Proof.Machine.execRetrain p mask s
  | .fabPortCfgWrite p w => Sys2Proof.Machine.execFabPortCfgWrite p w s
  | .rttMeasure j ns => Sys2Proof.Machine.execRttMeasure j ns s
  | .cablePresent p present => Sys2Proof.Machine.execCablePresent p present s
  | .cableOvercurrent p => Sys2Proof.Machine.execCableOvercurrent p s
  | .put j p => Sys2Proof.Machine.execPut j p s
  | .getReq j p h => Sys2Proof.Machine.execGetReq j p h s
  | .getResp j p => Sys2Proof.Machine.execGetResp j p s
  | .ack j p => Sys2Proof.Machine.execAck j p s
  | .refuse j p => Sys2Proof.Machine.execRefuse j p s
  | .packetForward j p => Sys2Proof.Machine.execPacketForward j p s
  | .ackTimer => Sys2Proof.Machine.execAckTimer s
  | .e2eTimeout m cls psn => Sys2Proof.Machine.execE2eTimeout m cls psn s
  | .collData j p => Sys2Proof.Machine.execCollData j p s
  | .arrive j p => Sys2Proof.Machine.execArrive j p s
  | .ready j p => Sys2Proof.Machine.execReady j p s
  | .commit j p => Sys2Proof.Machine.execCommit j p s
  | .abort j p => Sys2Proof.Machine.execAbort j p s
  | .collEnd j p => Sys2Proof.Machine.execCollEnd j p s
  | .query j p => Sys2Proof.Machine.execQuery j p s
  | .noticeFault x m p l => Sys2Proof.Machine.execNoticeFault x m p l s
  | .noticeSuspect x m => Sys2Proof.Machine.execNoticeSuspect x m s
  | .noticeAlive x m => Sys2Proof.Machine.execNoticeAlive x m s
  | .noticeLost x m => Sys2Proof.Machine.execNoticeLost x m s
  | .suspectTimeout m => Sys2Proof.Machine.execSuspectTimeout m s
  | .epoch x e => Sys2Proof.Machine.execEpoch x e s
  | .topoLinkState x m link peer linkUp peloton srcEn => Sys2Proof.Machine.execTopoLinkState x m link peer linkUp peloton srcEn s
  | .topoReady x m e => Sys2Proof.Machine.execTopoReady x m e s
  | .relay j p => Sys2Proof.Machine.execRelay j p s
  | .shadowRebuild entries => Sys2Proof.Machine.execShadowRebuild entries s
  | .shadowReadyWrite ready => Sys2Proof.Machine.execShadowReadyWrite ready s
  | .epochSourceTimeout => Sys2Proof.Machine.execEpochSourceTimeout s
  | .epochDrainEnd => Sys2Proof.Machine.execEpochDrainEnd s
  | .ethLinkUp p rate => Sys2Proof.Machine.execEthLinkUp p rate s
  | .ethLinkDown p => Sys2Proof.Machine.execEthLinkDown p s
  | .ethLinkRetry p => Sys2Proof.Machine.execEthLinkRetry p s
  | .ethFrameReceive p f => Sys2Proof.Machine.execEthFrameReceive p f s
  | .mkaFrame p valid sak => Sys2Proof.Machine.execMkaFrame p valid sak s
  | .mkaSaInstalled p => Sys2Proof.Machine.execMkaSaInstalled p s
  | .mkaPeerTimeout p => Sys2Proof.Machine.execMkaPeerTimeout p s
  | .rdmaWrite q psn pos va rkey len data ce => Sys2Proof.Machine.execRdmaWrite q psn pos va rkey len data ce s
  | .rdmaReadRequest q psn va rkey len ce h => Sys2Proof.Machine.execRdmaReadRequest q psn va rkey len ce h s
  | .roceInvalidRequest q psn ce => Sys2Proof.Machine.execRoceInvalidRequest q psn ce s
  | .rdmaReadResponse q psn data ce => Sys2Proof.Machine.execRdmaReadResponse q psn data ce s
  | .roceNakReceived q syn ce => Sys2Proof.Machine.execRoceNakReceived q syn ce s
  | .roceAckTimeout q => Sys2Proof.Machine.execRoceAckTimeout q s
  | .cnpReceive q => Sys2Proof.Machine.execCnpReceive q s
  | .cnpRateRecovery q => Sys2Proof.Machine.execCnpRateRecovery q s
  | .ethQpBindWrite q w => Sys2Proof.Machine.execEthQpBindWrite q w s
  | .ethMwCtlWrite ix w => Sys2Proof.Machine.execEthMwCtlWrite ix w s
  | .ethDbTagNew n => Sys2Proof.Machine.execEthDbTagNew n s
  | .ethVlanWrite ix w => Sys2Proof.Machine.execEthVlanWrite ix w s
  | .hmpConnect p client anchor hash => Sys2Proof.Machine.execHmpConnect p client anchor hash s
  | .hmpIdleTimeout client => Sys2Proof.Machine.execHmpIdleTimeout client s
  | .regRead x addr n => Sys2Proof.Machine.execRegRead x addr n s
  | .regWrite x addr n vals => Sys2Proof.Machine.execRegWrite x addr n vals s
  | .arpRequest ix ip => Sys2Proof.Machine.execArpRequest ix ip s
  | .neighbourSolicitation ix ip => Sys2Proof.Machine.execNeighbourSolicitation ix ip s
  | .icmpEcho ix ip payload => Sys2Proof.Machine.execIcmpEcho ix ip payload s
  | .ptpMessage p dom m => Sys2Proof.Machine.execPtpMessage p dom m s
  | .lldpSend p => Sys2Proof.Machine.execLldpSend p s
  | .lldpReceive p id info => Sys2Proof.Machine.execLldpReceive p id info s
  | .identityChain x => Sys2Proof.Machine.execIdentityChain x s
  | .attest x nonce meterUp => Sys2Proof.Machine.execAttest x nonce meterUp s
  | .keyDeliver x body => Sys2Proof.Machine.execKeyDeliver x body s
  | .keyRevoke x body => Sys2Proof.Machine.execKeyRevoke x body s
  | .claim x body => Sys2Proof.Machine.execClaim x body s
  | .peerAdmit x body => Sys2Proof.Machine.execPeerAdmit x body s
  | .debugChallenge x => Sys2Proof.Machine.execDebugChallenge x s
  | .debugUnlock x body => Sys2Proof.Machine.execDebugUnlock x body s
  | .attestKeyExpiry ix => Sys2Proof.Machine.execAttestKeyExpiry ix s
  | .svnAdvance n => Sys2Proof.Machine.execSvnAdvance n s
  | .secAtRightsWrite w => Sys2Proof.Machine.execSecAtRightsWrite w s
  | .cadenceWindow rates => Sys2Proof.Machine.execCadenceWindow rates s
  | .powerSample w => Sys2Proof.Machine.execPowerSample w s
  | .capUnmet => Sys2Proof.Machine.execCapUnmet s
  | .gearChange mv => Sys2Proof.Machine.execGearChange mv s
  | .gearSwitchDone => Sys2Proof.Machine.execGearSwitchDone s
  | .gearSettled => Sys2Proof.Machine.execGearSettled s
  | .limiterTrigger => Sys2Proof.Machine.execLimiterTrigger s
  | .limiterRelease => Sys2Proof.Machine.execLimiterRelease s
  | .limiterHoldStep => Sys2Proof.Machine.execLimiterHoldStep s
  | .tjSample src t => Sys2Proof.Machine.execTjSample src t s
  | .thermalTrip t => Sys2Proof.Machine.execThermalTrip t s
  | .pwrTripRearm => Sys2Proof.Machine.execPwrTripRearm s
  | .tripRestart => Sys2Proof.Machine.execTripRestart s
  | .quiesceComplete => Sys2Proof.Machine.execQuiesceComplete s
  | .cleTick => Sys2Proof.Machine.execCleTick s
  | .slotFaultClear w => Sys2Proof.Machine.execSlotFaultClear w s
  | .slotCfgWrite k w => Sys2Proof.Machine.execSlotCfgWrite k w s
  | .slotCoeffWrite k j w => Sys2Proof.Machine.execSlotCoeffWrite k j w s
  | .repTableWrite k ix w => Sys2Proof.Machine.execRepTableWrite k ix w s
  | .repBeaconTimeout => Sys2Proof.Machine.execRepBeaconTimeout s
  | .traceArm b => Sys2Proof.Machine.execTraceArm b s
  | .traceFire b => Sys2Proof.Machine.execTraceFire b s
  | .traceDataRead b master => Sys2Proof.Machine.execTraceDataRead b master s
  | .pwmCfgWrite c cmd w => Sys2Proof.Machine.execPwmCfgWrite c cmd w s
  | .tachEdge t period => Sys2Proof.Machine.execTachEdge t period s
  | .kickTimeout c => Sys2Proof.Machine.execKickTimeout c s
  | .pauseEnd c => Sys2Proof.Machine.execPauseEnd c s
  | .pwmRampEnd c => Sys2Proof.Machine.execPwmRampEnd c s
  | .tachLost c => Sys2Proof.Machine.execTachLost c s
  | .tachOvrTimeout t => Sys2Proof.Machine.execTachOvrTimeout t s
  | .cioPwmClr m => Sys2Proof.Machine.execCioPwmClr m s
  | .aoFault a => Sys2Proof.Machine.execAoFault a s
  | .aoFaultClear a => Sys2Proof.Machine.execAoFaultClear a s
  | .aiSample ch raw val => Sys2Proof.Machine.execAiSample ch raw val s
  | .sensorSample k v => Sys2Proof.Machine.execSensorSample k v s
  | .rangeFaultClear b => Sys2Proof.Machine.execRangeFaultClear b s
  | .pairMismatch ix => Sys2Proof.Machine.execPairMismatch ix s
  | .heatBalance => Sys2Proof.Machine.execHeatBalance s
  | .diChange d high => Sys2Proof.Machine.execDiChange d high s
  | .diStuckClear m => Sys2Proof.Machine.execDiStuckClear m s
  | .leakSample k ohm => Sys2Proof.Machine.execLeakSample k ohm s
  | .valveCloseDelay => Sys2Proof.Machine.execValveCloseDelay s
  | .protectiveAfterReadings k => Sys2Proof.Machine.execProtectiveAfterReadings k s
  | .leakAck => Sys2Proof.Machine.execLeakAck s
  | .sensStatClear w => Sys2Proof.Machine.execSensStatClear w s
  | .ilkInChange low => Sys2Proof.Machine.execIlkInChange low s
  | .acquireTimeout => Sys2Proof.Machine.execAcquireTimeout s
  | .listenEnd => Sys2Proof.Machine.execListenEnd s
  | .hbMissing => Sys2Proof.Machine.execHbMissing s
  | .ilkConflict => Sys2Proof.Machine.execIlkConflict s
  | .holderSelfRelease why => Sys2Proof.Machine.execHolderSelfRelease why s
  | .healthReached => Sys2Proof.Machine.execHealthReached s
  | .handover master => Sys2Proof.Machine.execHandover master s
  | .pumpclr m => Sys2Proof.Machine.execPumpclr m s
  | .pumpStatusTimeout k slow => Sys2Proof.Machine.execPumpStatusTimeout k slow s
  | .pumpRotation => Sys2Proof.Machine.execPumpRotation s
  | .rotationStopOld => Sys2Proof.Machine.execRotationStopOld s
  | .startupPumpKickEnd => Sys2Proof.Machine.execStartupPumpKickEnd s
  | .rowBudgetCompute => Sys2Proof.Machine.execRowBudgetCompute s
  | .capTableStale => Sys2Proof.Machine.execCapTableStale s
  | .cycleStart => Sys2Proof.Machine.execCycleStart s
  | .schedSlot slot => Sys2Proof.Machine.execSchedSlot slot s
  | .refLost => Sys2Proof.Machine.execRefLost s
  | .clarnTxDone c id delay => Sys2Proof.Machine.execClarnTxDone c id delay s
  | .clarnBusError c tec errs => Sys2Proof.Machine.execClarnBusError c tec errs s
  | .busoffRecovery c => Sys2Proof.Machine.execBusoffRecovery c s
  | .submit => Sys2Proof.Machine.execSubmit s
  | .cancel e => Sys2Proof.Machine.execCancel e s
  | .clnRxqAck c n => Sys2Proof.Machine.execClnRxqAck c n s
  | .clnChCfgWrite c w => Sys2Proof.Machine.execClnChCfgWrite c w s
  | .seqForget id => Sys2Proof.Machine.execSeqForget id s
  | .clarnFrameReceive c f => Sys2Proof.Machine.execClarnFrameReceive c f s
  | .ref c f => Sys2Proof.Machine.execRef c f s
  | .capTable c f => Sys2Proof.Machine.execCapTable c f s
  | .hb c f => Sys2Proof.Machine.execHb c f s
  | .mirror c f => Sys2Proof.Machine.execMirror c f s
  | .modStatus c f => Sys2Proof.Machine.execModStatus c f s
  | .modAlarm c f => Sys2Proof.Machine.execModAlarm c f s
  | .pumpStatus c f => Sys2Proof.Machine.execPumpStatus c f s
  | .valveStatus c f => Sys2Proof.Machine.execValveStatus c f s
  | .sensorValue c f => Sys2Proof.Machine.execSensorValue c f s
  | .leakStatus c f => Sys2Proof.Machine.execLeakStatus c f s
  | .nodeHello c f => Sys2Proof.Machine.execNodeHello c f s
  | .meterCalc vol flow ti t noTransit soundOff => Sys2Proof.Machine.execMeterCalc vol flow ti t noTransit soundOff s
  | .meterCommit marked => Sys2Proof.Machine.execMeterCommit marked s
  | .meterSupplyFail => Sys2Proof.Machine.execMeterSupplyFail s
  | .sealCheck loopOpen => Sys2Proof.Machine.execSealCheck loopOpen s
  | .sndNke a => Sys2Proof.Machine.execSndNke a s
  | .reqUd2 a => Sys2Proof.Machine.execReqUd2 a s
  | .sndUd a w => Sys2Proof.Machine.execSndUd a w s
  | .meterFwUpdate u => Sys2Proof.Machine.execMeterFwUpdate u s
  | .snapshot => Sys2Proof.Machine.execSnapshot s
  | .meterUnreach => Sys2Proof.Machine.execMeterUnreach s
  | .readAcc => Sys2Proof.Machine.execReadAcc s
  | .readId => Sys2Proof.Machine.execReadId s
  | .readLog n => Sys2Proof.Machine.execReadLog n s
  | .readParam => Sys2Proof.Machine.execReadParam s
  | .meterAnswer crcOk => Sys2Proof.Machine.execMeterAnswer crcOk s
  | .meterReqTimeout => Sys2Proof.Machine.execMeterReqTimeout s
  | .reqRun => Sys2Proof.Machine.execReqRun s
  | .reqTrim => Sys2Proof.Machine.execReqTrim s
  | .reqStandby => Sys2Proof.Machine.execReqStandby s
  | .reqFreewheel => Sys2Proof.Machine.execReqFreewheel s
  | .pwrVoteWrite m => Sys2Proof.Machine.execPwrVoteWrite m s
  | .autoStandbyIdle => Sys2Proof.Machine.execAutoStandbyIdle s
  | .entryStepComplete => Sys2Proof.Machine.execEntryStepComplete s
  | .handshakeReply c => Sys2Proof.Machine.execHandshakeReply c s
  | .handshakeTimeout => Sys2Proof.Machine.execHandshakeTimeout s
  | .fwSequencerSample sens ai => Sys2Proof.Machine.execFwSequencerSample sens ai s
  | .wakeComplete n => Sys2Proof.Machine.execWakeComplete n s
  | .domainAwake d => Sys2Proof.Machine.execDomainAwake d s
  | .domainIdle d => Sys2Proof.Machine.execDomainIdle d s
  | .timSet master => Sys2Proof.Machine.execTimSet master s
  | .timNowLoRead master => Sys2Proof.Machine.execTimNowLoRead master s
  | .aonOscStop => Sys2Proof.Machine.execAonOscStop s
  | .counterPersist ok => Sys2Proof.Machine.execCounterPersist ok s
  | .vaonUp => Sys2Proof.Machine.execVaonUp s
  | .vaonDown => Sys2Proof.Machine.execVaonDown s
  | .overvoltage => Sys2Proof.Machine.execOvervoltage s
  | .startupStepComplete d => Sys2Proof.Machine.execStartupStepComplete d s
  | .flowPermitHeld => Sys2Proof.Machine.execFlowPermitHeld s
  | .permitWait => Sys2Proof.Machine.execPermitWait s
  | .permitLost => Sys2Proof.Machine.execPermitLost s
  | .permitRegain => Sys2Proof.Machine.execPermitRegain s
  | .wdogKick => Sys2Proof.Machine.execWdogKick s
  | .wdogExpiry => Sys2Proof.Machine.execWdogExpiry s
  | .mgmtRestartDone => Sys2Proof.Machine.execMgmtRestartDone s
  | .resetN => Sys2Proof.Machine.execResetN s
  | .pfWarnN ok => Sys2Proof.Machine.execPfWarnN ok s
  | .heartbeat => Sys2Proof.Machine.execHeartbeat s
  | .trayModeWrite master guard => Sys2Proof.Machine.execTrayModeWrite master guard s
  | .trayRestart master => Sys2Proof.Machine.execTrayRestart master s
  | .hbMiss => Sys2Proof.Machine.execHbMiss s
  | .trayShutdown => Sys2Proof.Machine.execTrayShutdown s
  | .trayValveHoldEnd => Sys2Proof.Machine.execTrayValveHoldEnd s
  | .aliveTick => Sys2Proof.Machine.execAliveTick s
  | .recorderFlush bad => Sys2Proof.Machine.execRecorderFlush bad s
  | .flushTimer => Sys2Proof.Machine.execFlushTimer s
  | .flush => Sys2Proof.Machine.execFlush s
  | .sectorEraseDone ok => Sys2Proof.Machine.execSectorEraseDone ok s
  | .freeze on => Sys2Proof.Machine.execFreeze on s
  | .freezeEnd => Sys2Proof.Machine.execFreezeEnd s
  | .cursorFirst c area minsev => Sys2Proof.Machine.execCursorFirst c area minsev s
  | .cursorLast c area minsev => Sys2Proof.Machine.execCursorLast c area minsev s
  | .recCurSeqWrite c v => Sys2Proof.Machine.execRecCurSeqWrite c v s
  | .recWinWord15Read c master => Sys2Proof.Machine.execRecWinWord15Read c master s
  | .irqTrayPendWrite master w => Sys2Proof.Machine.execIrqTrayPendWrite master w s
  | .irqReedgePulseEnd => Sys2Proof.Machine.execIrqReedgePulseEnd s
  | .i3cPrivateWrite addr words => Sys2Proof.Machine.execI3cPrivateWrite addr words s
  | .i3cPrivateRead addr n => Sys2Proof.Machine.execI3cPrivateRead addr n s
  | .entdaa da => Sys2Proof.Machine.execEntdaa da s
  | .setdasa static da => Sys2Proof.Machine.execSetdasa static da s
  | .rstdaa => Sys2Proof.Machine.execRstdaa s
  | .setnewda da => Sys2Proof.Machine.execSetnewda da s
  | .getpid => Sys2Proof.Machine.execGetpid s
  | .getbcr => Sys2Proof.Machine.execGetbcr s
  | .getdcr => Sys2Proof.Machine.execGetdcr s
  | .getstatus => Sys2Proof.Machine.execGetstatus s
  | .setmwl n => Sys2Proof.Machine.execSetmwl n s
  | .setmrl n => Sys2Proof.Machine.execSetmrl n s
  | .getmwl => Sys2Proof.Machine.execGetmwl s
  | .getmrl => Sys2Proof.Machine.execGetmrl s
  | .cfgImage x body => Sys2Proof.Machine.execCfgImage x body s
  | .fwImage x body => Sys2Proof.Machine.execFwImage x body s
  | .registerWrite master addr wide w => Sys2Proof.Machine.execRegisterWrite master addr wide w s
  | .overvoltageRecovery => Sys2Proof.Machine.execOvervoltageRecovery s
  | .mirrorOld => Sys2Proof.Machine.execMirrorOld s
  | .criticalOutputOff => Sys2Proof.Machine.execCriticalOutputOff s
  | .rnrNak q psn => Sys2Proof.Machine.execRnrNak q psn s
  | .roceAcknowledge q psn ce => Sys2Proof.Machine.execRoceAcknowledge q psn ce s
  | .mkaHello p => Sys2Proof.Machine.execMkaHello p s
  | .ptpLockLost p => Sys2Proof.Machine.execPtpLockLost p s

end Sys2Proof.Machine
end

