-- ==== Sys2Proof/Machine/Step.lean ====
section
/-! DEFINITION.  One step: the command at the front of the queue, or a tick where none waits. -/

namespace Sys2Proof.Machine

/-- Take the command at the front of the queue and carry it out with the queue's rest; with none waiting, tick. -/
def step (s : State) : Host.Outcome State Fault Refusal :=
  match s.pending with
  | [] => .next s.idle
  | c :: rest => exec c { s with pending := rest }

/-- Put the command a word spells at the front of the queue; no row of the table gives bits, so none is spelled. -/
def State.withFetchWord (s : State) (nbits w : Nat) : State :=
  match Sys2Proof.decodeTableWord nbits w with
  | some c => { s with pending := c :: s.pending }
  | none => s

end Sys2Proof.Machine
end

