-- ==== Sys2Proof/WellFormed.lean ====
section
/-! DEFINITION.  Well-formed commands: the rules the spec sets on the operands of a command, beyond what their types say. -/

namespace Sys2Proof

/-- The form of an engine instruction (R103 to R108) and of a descriptor (R110 to R112), which R99 and R105 reject before
they run; every other command is well formed by its types. -/
def Instr.wellFormed : Instr → Bool
  | .referenceLoss => true
  | .referenceRestored => true
  | .nop _ _ i => Machine.engForm 0x00 i
  | .mmaOs _ _ i _ => Machine.engForm 0x01 i
  | .mmaWs _ _ i _ => Machine.engForm 0x02 i
  | .vecEw _ _ i _ => Machine.engForm 0x10 i
  | .vecRed _ _ i _ => Machine.engForm 0x11 i
  | .vecAct _ _ i _ => Machine.engForm 0x12 i
  | .vecTload _ _ i _ => Machine.engForm 0x13 i
  | .vecSoftmax _ _ i _ => Machine.engForm 0x14 i
  | .vecRecip _ _ i _ => Machine.engForm 0x15 i
  | .quant _ _ i _ => Machine.engForm 0x18 i
  | .dequant _ _ i _ => Machine.engForm 0x19 i
  | .gather _ _ i _ => Machine.engForm 0x1A i
  | .scatter _ _ i _ => Machine.engForm 0x1B i
  | .sync _ _ i => Machine.engForm 0x20 i
  | .beacon _ _ i => Machine.engForm 0x22 i
  | .endSeg _ _ i => Machine.engForm 0x3F i
  | .tokenWait _ _ _ _ _ => true
  | .tokenWaitRelease _ _ _ => true
  | .tokenSignal _ _ _ _ => true
  | .stallTimeout _ _ => true
  | .storeScrubForced _ _ _ => true
  | .storePatrolRead _ _ => true
  | .bobbinMove _ _ d _ _ => Machine.bobForm 1 d
  | .bobbinGather _ _ d _ _ => Machine.bobForm 2 d
  | .bobbinScatter _ _ d _ _ => Machine.bobForm 3 d
  | .bobbinPut _ _ d _ _ => Machine.bobForm 4 d
  | .bobbinGet _ _ d => Machine.bobForm 5 d
  | .bobbinColl _ _ d _ _ => Machine.bobForm 6 d
  | .bobbinSync _ _ d => Machine.bobForm 7 d
  | .bobbinEnd _ _ d => Machine.bobForm 0 d
  | .descriptorStatusEnd _ _ => true
  | .engineFault _ _ _ => true
  | .engineHandshakeTimeout _ _ _ => true
  | .engineReplay _ _ _ => true
  | .clusterFault _ => true
  | .spareBringInComplete _ _ => true
  | .routerFault => true
  | .clusterTestDone _ _ => true
  | .clusterMapWrite => true
  | .clusterGate _ => true
  | .clusterUngate _ => true
  | .relaxPending => true
  | .relaxEndPending => true
  | .partAssign _ _ => true
  | .partRelease _ _ => true
  | .partState _ => true
  | .scrubHalted _ => true
  | .scrubStoresZeroed _ => true
  | .zeroFillDone _ _ _ => true
  | .ethRingPiWrite _ _ => true
  | .ethRingCtlWrite _ _ => true
  | .ethCqCiWrite _ _ => true
  | .ringFetch _ _ => true
  | .commandStart _ => true
  | .cmdNop _ _ => true
  | .jobOpen _ _ => true
  | .load _ _ => true
  | .run _ _ => true
  | .fence _ _ => true
  | .signal _ _ => true
  | .mark _ _ => true
  | .jobClose _ _ => true
  | .commandComplete _ _ => true
  | .ingestSealedRecord _ _ => true
  | .stackRead _ _ _ _ => true
  | .stackWrite _ _ _ _ _ _ => true
  | .pageConversionDone _ _ => true
  | .memPatrolScrub _ _ => true
  | .rowSpareDone _ _ => true
  | .stackFail _ => true
  | .rotationReq _ => true
  | .rotationKeyLoaded _ => true
  | .sweepConversion _ _ _ => true
  | .lendOfferAdvertise => true
  | .lendOffer _ _ => true
  | .lendRequest _ _ => true
  | .lendGrant _ _ => true
  | .loanTimeout _ _ => true
  | .stackTrainingDone _ _ => true
  | .flitTransmit _ => true
  | .flitReceive _ _ _ _ _ => true
  | .hello _ _ _ => true
  | .laneDrop _ _ _ _ => true
  | .laneAdd _ _ _ => true
  | .remap _ _ _ => true
  | .narrow _ _ => true
  | .widen _ _ => true
  | .down _ _ _ => true
  | .laneFault _ _ => true
  | .linkSilenceTimeout _ => true
  | .linkRetrainTimer _ => true
  | .linkTrainingDone _ _ _ => true
  | .laneReaddRetry _ => true
  | .laneReaddTestDone _ _ => true
  | .retrain _ _ => true
  | .fabPortCfgWrite _ _ => true
  | .rttMeasure _ _ => true
  | .cablePresent _ _ => true
  | .cableOvercurrent _ => true
  | .put _ _ => true
  | .getReq _ _ _ => true
  | .getResp _ _ => true
  | .ack _ _ => true
  | .refuse _ _ => true
  | .packetForward _ _ => true
  | .ackTimer => true
  | .e2eTimeout _ _ _ => true
  | .collData _ _ => true
  | .arrive _ _ => true
  | .ready _ _ => true
  | .commit _ _ => true
  | .abort _ _ => true
  | .collEnd _ _ => true
  | .query _ _ => true
  | .noticeFault _ _ _ _ => true
  | .noticeSuspect _ _ => true
  | .noticeAlive _ _ => true
  | .noticeLost _ _ => true
  | .suspectTimeout _ => true
  | .epoch _ _ => true
  | .topoLinkState _ _ _ _ _ _ _ => true
  | .topoReady _ _ _ => true
  | .relay _ _ => true
  | .shadowRebuild _ => true
  | .shadowReadyWrite _ => true
  | .epochSourceTimeout => true
  | .epochDrainEnd => true
  | .ethLinkUp _ _ => true
  | .ethLinkDown _ => true
  | .ethLinkRetry _ => true
  | .ethFrameReceive _ _ => true
  | .mkaFrame _ _ _ => true
  | .mkaSaInstalled _ => true
  | .mkaPeerTimeout _ => true
  | .rdmaWrite _ _ _ _ _ _ _ _ => true
  | .rdmaReadRequest _ _ _ _ _ _ _ => true
  | .roceInvalidRequest _ _ _ => true
  | .rdmaReadResponse _ _ _ _ => true
  | .roceNakReceived _ _ _ => true
  | .roceAckTimeout _ => true
  | .cnpReceive _ => true
  | .cnpRateRecovery _ => true
  | .ethQpBindWrite _ _ => true
  | .ethMwCtlWrite _ _ => true
  | .ethDbTagNew _ => true
  | .ethVlanWrite _ _ => true
  | .hmpConnect _ _ _ _ => true
  | .hmpIdleTimeout _ => true
  | .regRead _ _ _ => true
  | .regWrite _ _ _ _ => true
  | .arpRequest _ _ => true
  | .neighbourSolicitation _ _ => true
  | .icmpEcho _ _ _ => true
  | .ptpMessage _ _ _ => true
  | .lldpSend _ => true
  | .lldpReceive _ _ _ => true
  | .identityChain _ => true
  | .attest _ _ _ => true
  | .keyDeliver _ _ => true
  | .keyRevoke _ _ => true
  | .claim _ _ => true
  | .peerAdmit _ _ => true
  | .debugChallenge _ => true
  | .debugUnlock _ _ => true
  | .attestKeyExpiry _ => true
  | .svnAdvance _ => true
  | .secAtRightsWrite _ => true
  | .cadenceWindow _ => true
  | .powerSample _ => true
  | .capUnmet => true
  | .gearChange _ => true
  | .gearSwitchDone => true
  | .gearSettled => true
  | .limiterTrigger => true
  | .limiterRelease => true
  | .limiterHoldStep => true
  | .tjSample _ _ => true
  | .thermalTrip _ => true
  | .pwrTripRearm => true
  | .tripRestart => true
  | .quiesceComplete => true
  | .cleTick => true
  | .slotFaultClear _ => true
  | .slotCfgWrite _ _ => true
  | .slotCoeffWrite _ _ _ => true
  | .repTableWrite _ _ _ => true
  | .repBeaconTimeout => true
  | .traceArm _ => true
  | .traceFire _ => true
  | .traceDataRead _ _ => true
  | .pwmCfgWrite _ _ _ => true
  | .tachEdge _ _ => true
  | .kickTimeout _ => true
  | .pauseEnd _ => true
  | .pwmRampEnd _ => true
  | .tachLost _ => true
  | .tachOvrTimeout _ => true
  | .cioPwmClr _ => true
  | .aoFault _ => true
  | .aoFaultClear _ => true
  | .aiSample _ _ _ => true
  | .sensorSample _ _ => true
  | .rangeFaultClear _ => true
  | .pairMismatch _ => true
  | .heatBalance => true
  | .diChange _ _ => true
  | .diStuckClear _ => true
  | .leakSample _ _ => true
  | .valveCloseDelay => true
  | .protectiveAfterReadings _ => true
  | .leakAck => true
  | .sensStatClear _ => true
  | .ilkInChange _ => true
  | .acquireTimeout => true
  | .listenEnd => true
  | .hbMissing => true
  | .ilkConflict => true
  | .holderSelfRelease _ => true
  | .healthReached => true
  | .handover _ => true
  | .pumpclr _ => true
  | .pumpStatusTimeout _ _ => true
  | .pumpRotation => true
  | .rotationStopOld => true
  | .startupPumpKickEnd => true
  | .rowBudgetCompute => true
  | .capTableStale => true
  | .cycleStart => true
  | .schedSlot _ => true
  | .refLost => true
  | .clarnTxDone _ _ _ => true
  | .clarnBusError _ _ _ => true
  | .busoffRecovery _ => true
  | .submit => true
  | .cancel _ => true
  | .clnRxqAck _ _ => true
  | .clnChCfgWrite _ _ => true
  | .seqForget _ => true
  | .clarnFrameReceive _ _ => true
  | .ref _ _ => true
  | .capTable _ _ => true
  | .hb _ _ => true
  | .mirror _ _ => true
  | .modStatus _ _ => true
  | .modAlarm _ _ => true
  | .pumpStatus _ _ => true
  | .valveStatus _ _ => true
  | .sensorValue _ _ => true
  | .leakStatus _ _ => true
  | .nodeHello _ _ => true
  | .meterCalc _ _ _ _ _ _ => true
  | .meterCommit _ => true
  | .meterSupplyFail => true
  | .sealCheck _ => true
  | .sndNke _ => true
  | .reqUd2 _ => true
  | .sndUd _ _ => true
  | .meterFwUpdate _ => true
  | .snapshot => true
  | .meterUnreach => true
  | .readAcc => true
  | .readId => true
  | .readLog _ => true
  | .readParam => true
  | .meterAnswer _ => true
  | .meterReqTimeout => true
  | .reqRun => true
  | .reqTrim => true
  | .reqStandby => true
  | .reqFreewheel => true
  | .pwrVoteWrite _ => true
  | .autoStandbyIdle => true
  | .entryStepComplete => true
  | .handshakeReply _ => true
  | .handshakeTimeout => true
  | .fwSequencerSample _ _ => true
  | .wakeComplete _ => true
  | .domainAwake _ => true
  | .domainIdle _ => true
  | .timSet _ => true
  | .timNowLoRead _ => true
  | .aonOscStop => true
  | .counterPersist _ => true
  | .vaonUp => true
  | .vaonDown => true
  | .overvoltage => true
  | .startupStepComplete _ => true
  | .flowPermitHeld => true
  | .permitWait => true
  | .permitLost => true
  | .permitRegain => true
  | .wdogKick => true
  | .wdogExpiry => true
  | .mgmtRestartDone => true
  | .resetN => true
  | .pfWarnN _ => true
  | .heartbeat => true
  | .trayModeWrite _ _ => true
  | .trayRestart _ => true
  | .hbMiss => true
  | .trayShutdown => true
  | .trayValveHoldEnd => true
  | .aliveTick => true
  | .recorderFlush _ => true
  | .flushTimer => true
  | .flush => true
  | .sectorEraseDone _ => true
  | .freeze _ => true
  | .freezeEnd => true
  | .cursorFirst _ _ _ => true
  | .cursorLast _ _ _ => true
  | .recCurSeqWrite _ _ => true
  | .recWinWord15Read _ _ => true
  | .irqTrayPendWrite _ _ => true
  | .irqReedgePulseEnd => true
  | .i3cPrivateWrite _ _ => true
  | .i3cPrivateRead _ _ => true
  | .entdaa _ => true
  | .setdasa _ _ => true
  | .rstdaa => true
  | .setnewda _ => true
  | .getpid => true
  | .getbcr => true
  | .getdcr => true
  | .getstatus => true
  | .setmwl _ => true
  | .setmrl _ => true
  | .getmwl => true
  | .getmrl => true
  | .cfgImage _ _ => true
  | .fwImage _ _ => true
  | .registerWrite _ _ _ _ => true
  | .overvoltageRecovery => true
  | .mirrorOld => true
  | .criticalOutputOff => true
  | .rnrNak _ _ => true
  | .roceAcknowledge _ _ _ => true
  | .mkaHello _ => true
  | .ptpLockLost _ => true

end Sys2Proof
end

