-- ==== Sys2Proof/Safety.lean ====
section
/-! DEFINITION.  What claims about the module are stated in: the canonical form of its memories, the invariant of a step, and
what a command leaves as it was. -/

namespace Sys2Proof.Machine

/-! ### The invariant -/

/-- The canonical form of a memory of bytes: addresses strictly rising, none listed that reads as an unlisted one (0). -/
def Memory.wf (m : List Host.Cell) : Bool := Assoc.wf (0 : Byte) m

/-- The canonical form of the marks that go with a memory's lines. -/
def Memory.poisonWf (m : List (Nat × Bool)) : Bool := Assoc.wf false m

/-- The memories of the module, cluster stores and stacks with their poison, are in canonical form. -/
def State.memWf (s : State) : Bool :=
  Memory.wf s.store && Memory.wf s.mem && Memory.poisonWf s.storePoison && Memory.poisonWf s.memPoison

/-- The register map lists every key once, in rising order. -/
def State.regsWf (s : State) : Bool := decide (s.regs.Pairwise fun x y => x.1 < y.1)

/-! ### Frames -/

/-- The registers that entering a record can write (R459 to R461) with the tray's pending bits (R492). -/
def recRegs : List Reg := [.REC_STAT, .REC_LOST_CNT, .REC_CAUSE, .IRQ_TRAY_PEND]

/-- No register but those of `rs` has changed. -/
def SameRegs (rs : List Reg) (s t : State) : Prop := ∀ r i, r ∉ rs → t.reg r i = s.reg r i

/-- The state but for its registers. -/
def State.regless (s : State) : State := { s with regs := [] }

/-- The state but for its registers, the recorder and the re-edge pulse: all that entering a record changes. -/
def State.logless (s : State) : State := { s with regs := [], evr := {}, irqPulse := false }

/-- Nothing has changed but registers of `rs`. -/
def OnlyRegs (rs : List Reg) (s t : State) : Prop := SameRegs rs s t ∧ t.regless = s.regless

/-- Nothing has changed but registers of `rs` and what entering a record changes. -/
def OnlyLogs (rs : List Reg) (s t : State) : Prop := SameRegs (rs ++ recRegs) s t ∧ t.logless = s.logless

/-! ### Engine instructions and bobbins -/

/-- Whether a byte of its cluster's store is one an engine instruction may write: its output (R105, R108), and the exponent list
of a QUANT (R68). -/
def engOut (i : EngInstr) (a : Nat) : Bool :=
  decide (i.addrC.toNat ≤ a ∧ a < i.addrC.toNat + outBytes i) ||
    (decide (i.opc.toNat = 0x18) && i.list && decide (i.addrLA.toNat ≤ a ∧ a < i.addrLA.toNat + 2 * i.len.toNat))

/-- Whether an instruction of a stream goes on: nothing of the stream waits to be replayed, and its WAIT is satisfied (R106). -/
def State.goes (s : State) (p : Fin 68) (e : Fin 16) (i : EngInstr) : Bool :=
  !(s.replayQ.any fun r => r.cluster = p && r.engine = e) && (s.engWait p e i).2

/-- What an engine instruction leaves as it was: store bytes outside its output, the stacks, the configuration memory, core power,
and every register but the arithmetic status, the causes and the error latches of clusters. -/
def EngFrame (p : Fin 68) (i : EngInstr) (s t : State) : Prop :=
  (∀ q a, a < 2 ^ 26 → ¬ (q = p.val ∧ engOut i a = true) → t.storeByte q a = s.storeByte q a) ∧
  SameRegs ([.CLU_ARITH_STAT, .CLU_CAUSE, .CLU_ARITH_RELAX_CNT, .CLU_STORE_UE_ADDR, .CLU_STORE_CE_CNT] ++ recRegs) s t ∧
  t.mem = s.mem ∧ t.memPoison = s.memPoison ∧ t.nv = s.nv ∧ t.pwr = s.pwr

/-- An engine instruction of opcode `opc` runs to its end once it goes on: within its frame, and it leaves its stream. -/
def EngRuns (opc : Nat) (c : Fin 68 → Fin 16 → EngInstr → List EccHit → Instr) : Prop :=
  ∀ p e i h s, engForm opc i = true → s.goes p e i = true → ∃ t, exec (c p e i h) s = .next t ∧ EngFrame p i s t ∧
    (i.sigEn = false → t.engQ = (s.popEng p e i).engQ)

/-- A stream whose front is `i` is left without it. -/
def StreamMoves (p : Fin 68) (e : Fin 16) (i : EngInstr) (s t : State) : Prop :=
  ∀ l, Assoc.find s.engQ (unitCode p e) = some (i :: l) → Assoc.find t.engQ (unitCode p e) = some l

/-- Whether a descriptor of cluster `p` goes on for partition `n`: its slots are the pattern's, its FENCE and its WAIT are
satisfied (R110, R111). -/
def State.bobGoes (s : State) (p : Fin 68) (b : Fin 4) (d : BobDesc) (n : Nat) : Bool :=
  decide (s.partOf p = some n) && bobOk (s.runSlots n) d &&
    !(d.fence && s.fab.descs.any fun r => r.unit = unitCode p (16 + b)) && (s.bobWait p (unitCode p (16 + b)) d).2

/-! ### Packets and messages -/

/-- A packet that its flow class takes next: on a bank still held, with the awaited PSN and nothing held ahead (R191, R193). -/
def State.nextIn (s : State) (p : Packet) : Bool :=
  let f := s.rxFlow (flowKey p.srcMod.toNat p.cls.toNat)
  !s.oldEpoch p && s.carriesIn p && f.ahead = [] && f.next < 65536 && p.psn.toNat = f.next

/-- A flooded message that its flow class takes: within the window and not held before (R193). -/
def State.noteNew (s : State) (x : Note) : Bool :=
  let f := s.rxFlow (flowKey x.src.toNat 3)
  (x.psn.toNat + 65536 - f.next) % 65536 < 512 && !(f.ahead.any fun q => q.psn = x.psn)

/-- A flow class whose 512 places are taken: what is handed to it waits (R193). -/
def State.full (s : State) (m cls : Nat) : Bool := 512 ≤ (s.txFlow (flowKey m cls)).unacked.length && !s.fab.lost.elem m

/-- What a message to a full flow class leaves: it stands last among the waiting packets. -/
def Waits (m cls : Nat) (s t : State) (q : Packet) : Prop :=
  (t.txFlow (flowKey m cls)).waiting = (s.txFlow (flowKey m cls)).waiting ++ [(q, none)]

/-! ### Frames of Ethernet -/

/-- Whether a frame with header `h` goes out at once: its priority is not paused, and the port's packet number does not come to
where a new SAK is asked for (R216, R220). -/
def State.sendsNow (s : State) (h : EthHdr) : Bool :=
  (match h.tag with
    | some t => !(s.prioHeld h.port t.2)
    | none => true) && (!h.secured || (s.port h.port).txPn + 1 ≠ pnLimit)

/-- Whether an answer of queue pair `q` goes out at once: it is ready on an open VLAN, nothing is owed before it, and its frame is
not held. -/
def State.qpClear (s : State) (q : Nat) : Bool :=
  s.qpState q = 1 && s.qpOpen q && decide (s.owed = []) && s.sendsNow (s.qpHdr q)

/-- Size of a received frame without SecTAG and ICV (R213). -/
def frameSize (f : EthFrame) : Nat := f.size - (if f.macsec.isSome then 24 else 0)

/-! ### Frames of the Clarn bus -/

/-- Whether channel `c` hears frame `f` as one of catalogue class `cls` and takes it: the channel runs normally, the frame has the
form of R369, the catalogue's priority and length (R371), and its SEQ is accepted (R370). -/
def State.hears (s : State) (c : Nat) (f : CanFrame) (cls : Nat) : Bool :=
  s.chanOn c && s.rd F.CLN_CH_CFG_MODE c = 0 && f.fdExt && f.id.toNat % 2 ^ 13 = 0 && idClass f.id.toNat = cls && listedClass cls &&
    f.id.toNat / 2 ^ 26 % 8 = classPrio cls && f.data.length = classLen cls && s.rxAccepts f.id.toNat (byteAt f.data 0)

/-- What an accepted frame leaves on the bus side: its SEQ is held, and it is kept as the latest of its class and node (R370, R383). -/
def Kept (f : CanFrame) (cls : Nat) (s t : State) : Prop :=
  Assoc.find t.clarn.held f.id.toNat = some (byteAt f.data 0) ∧
    Assoc.find t.clarn.got (cls * 128 + idNode f.id.toNat) = some (s.up, f.data)

/-- The registers a received frame of any class can write. -/
def rxRegs : List Reg := [.CLN_CH_STAT, .CLN_RXQ_STAT, .RX_DROP, .CLN_CAUSE]

end Sys2Proof.Machine
end

