-- ==== Sys2Proof/Certificates/Slice0/Obligations.lean ====
section
/-! DEFINITION.  The statements for the provers: what the commands of each family do, and what every step keeps. -/

section
open Sys2Proof Sys2Proof.Machine

/-- Reference loss and return, setting and reading the time base, an AON stop, and the saving of counters complete with
their effect. REFERENCE_LOSS off the backup oscillator sets BACKUP, clears REF_OK, sets HOLDOVER and raises REF_LOSS;
REFERENCE_RESTORED on the backup does the reverse and raises REF_BACK. TIM_SET with no lock puts TIM_SET_HI and
TIM_SET_LO into the time base, clears UNSET, DISC and AONSTOP and raises STEP; with a lock it writes nothing but
TIM_CTL. TIM_NOW_LO_READ returns the low word and latches the high word for the reading master. AON_OSC_STOP sets
AONSTOP and DISC and raises DISC. COUNTER_PERSIST puts both counters into one of the two copies, and where the write
fails raises PERSIST. Each clause says what else may change: registers it names, with the recorder where a cause is
raised. It rests on R24 (01_module_architecture.md, Timing: a self-timed core in a clocked ring); R423, R425, R426
(16_power_states_and_time.md, Time); R500 (20_interrupts_and_register_map.md, TIM registers). -/
def Obligations.ReferenceClockAndTimeBase : Prop :=
  (∀ s, s.flag F.SYS_CLK_BACKUP = false → ∃ t, exec .referenceLoss s = .next t ∧ t.flag F.SYS_CLK_BACKUP = true ∧
    t.flag F.SYS_CLK_REF_OK = false ∧ t.flag F.TIM_STAT_HOLDOVER = true ∧ t.flag F.SYS_CAUSE_REF_LOSS = true ∧
    OnlyLogs [.SYS_CLK, .TIM_STAT, .SYS_CAUSE] s t) ∧
  (∀ s, s.flag F.SYS_CLK_BACKUP = true → ∃ t, exec .referenceRestored s = .next t ∧ t.flag F.SYS_CLK_BACKUP = false ∧
    t.flag F.SYS_CLK_REF_OK = true ∧ t.flag F.TIM_STAT_HOLDOVER = false ∧ t.flag F.SYS_CAUSE_REF_BACK = true ∧
    OnlyLogs [.SYS_CLK, .TIM_STAT, .SYS_CAUSE] s t) ∧
  (∀ m s, s.flag F.TIM_STAT_LOCKED = false → ∃ t, exec (.timSet m) s = .next t ∧
    t.timeBase.toNat = s.rd F.TIM_SET_HI_NS * 2 ^ 32 + s.rd F.TIM_SET_LO_NS ∧ t.flag F.TIM_STAT_UNSET = false ∧
    t.flag F.TIM_STAT_DISC = false ∧ t.flag F.TIM_STAT_AONSTOP = false ∧ t.flag F.TIM_CAUSE_STEP = true ∧
    OnlyLogs [.TIM_CTL, .TIM_STAT, .TIM_CAUSE] { s with timeBase := t.timeBase, timeFrac := 0 } t) ∧
  (∀ m s, s.flag F.TIM_STAT_LOCKED = true → ∃ t, exec (.timSet m) s = .next t ∧ OnlyRegs [.TIM_CTL] s t) ∧
  (∀ m s, exec (.timNowLoRead m) s = .next { s with
    timLatch := Assoc.put s.timLatch m.toNat (BitVec.ofNat 32 (s.timeBase.toNat / 2 ^ 32)),
    out := s.out ++ [.readData m.toNat [BitVec.ofNat 32 s.timeBase.toNat]] }) ∧
  (∀ s, ∃ t, exec .aonOscStop s = .next t ∧ t.flag F.TIM_STAT_AONSTOP = true ∧ t.flag F.TIM_STAT_DISC = true ∧
    t.flag F.TIM_CAUSE_DISC = true ∧ OnlyLogs [.TIM_STAT, .TIM_CAUSE] s t) ∧
  (∀ s, s.nv.counters.length = 2 → ∃ t q, exec (.counterPersist true) s = .next t ∧
    some (s.rd F.TIM_OPTIME_COUNT, s.rd F.TIM_CYCLES_COUNT, q) ∈ t.nv.counters ∧ t.nv.counters.length = 2 ∧
    t = { s with nv := { s.nv with counters := t.nv.counters } }) ∧
  (∀ s, ∃ t, exec (.counterPersist false) s = .next t ∧ t.flag F.TIM_CAUSE_PERSIST = true ∧ OnlyLogs [.TIM_CAUSE] s t)

/-- Faults of engines, clusters, the router and stacks, and the bringing in of a spare, complete with their effect.
ENGINE_FAULT and ENGINE_HANDSHAKE_TIMEOUT, one command's effect, on an enabled cluster with fewer than 4 failed
engines: the engine's bit and the count rise, ENGFAULT is raised, the cluster map is due, stacks are unchanged; with
no work in flight nothing else changes but the record. ENGINE_REPLAY takes its entry from the replay queue.
CLUSTER_FAULT: STATE is FAILED, LOGICAL 0xFF, CLFAULT raised, the store reads zeros, stacks unchanged.
SPARE_BRING_IN_COMPLETE: a spare that fails its test goes back (STATE 3); one that passes takes the logical number,
its state, SPAREIN is raised and its store reads zeros. ROUTER_FAULT: no partition stays with an open job. STACK_FAIL:
STATE is FAILED, FAIL is raised, stores unchanged. It rests on R88 (03_engines_and_clusters.md, Warp and weft); R90,
R91 (03_engines_and_clusters.md, Spare clusters); R92 (03_engines_and_clusters.md, Engine folding); R139
(05_zynde_memory.md, Check codes, poison and repair); R472, R473 (19_faults_and_degradation.md, Engine faults); R475,
R476 (19_faults_and_degradation.md, Cluster faults and the return to a checkpoint). -/
def Obligations.EngineAndClusterFaults : Prop :=
  (∀ p e l s, s.enabled p.val = true → (s.rd F.CLU_ENG_MAP_FAILED p).testBit e = false →
    s.rd F.CLU_ENG_MAP_NFAIL p < 4 → (∃ t, exec (.engineFault p e l) s = .next t ∧
      t.rd F.CLU_ENG_MAP_FAILED p = s.rd F.CLU_ENG_MAP_FAILED p ||| 2 ^ e.val ∧
      t.rd F.CLU_ENG_MAP_NFAIL p = s.rd F.CLU_ENG_MAP_NFAIL p + 1 ∧ t.flag F.CLU_CAUSE_ENGFAULT p = true ∧ t.mapDue = true ∧
      t.mem = s.mem) ∧ exec (.engineHandshakeTimeout p e l) s = exec (.engineFault p e l) s) ∧
  (∀ p e s, s.enabled p.val = true → (s.rd F.CLU_ENG_MAP_FAILED p).testBit e = false → s.rd F.CLU_ENG_MAP_NFAIL p < 4 →
    ∃ t, exec (.engineFault p e []) s = .next t ∧ OnlyLogs [.CLU_ENG_MAP, .CLU_CAUSE] { s with mapDue := true } t) ∧
  (∀ p e h s r, s.replayQ.find? (fun r => r.cluster = p.val && r.engine = e.val) = some r → s.enabled p.val = true →
    ∃ t, exec (.engineReplay p e h) s = .next t ∧ t.replayQ = s.replayQ.erase r) ∧
  (∀ p s, s.enabled p.val = true → ∃ t, exec (.clusterFault p) s = .next t ∧ t.rd F.CLU_STATE_STATE p = 6 ∧
    t.rd F.CLU_ID_LOGICAL p = 0xFF ∧ t.flag F.CLU_CAUSE_CLFAULT p = true ∧ t.mapDue = true ∧ (∀ a, t.storeByte p a = 0) ∧ t.mem = s.mem) ∧
  (∀ p s b, s.bringIns.find? (fun b => b.spare = p.val) = some b → s.pwr.vcore = true →
    (∃ t, exec (.spareBringInComplete p false) s = .next t ∧ t.rd F.CLU_STATE_STATE p = 3 ∧
      OnlyRegs [.CLU_STATE] { s with bringIns := s.bringIns.erase b, mapDue := true } t) ∧
    (b.logical < 256 → ∃ t, exec (.spareBringInComplete p true) s = .next t ∧ t.rd F.CLU_ID_LOGICAL p = b.logical ∧
      t.rd F.CLU_STATE_STATE p = (if b.part.isSome then 5 else 4) ∧ t.flag F.CLU_CAUSE_SPAREIN p = true ∧
      t.bringIns = s.bringIns.erase b ∧ (∀ a, t.storeByte p a = 0))) ∧
  (∀ s, ∃ t, exec .routerFault s = .next t ∧ t.pwr.routerBad = true ∧ (∀ n < 16, t.pstate n ≠ 2) ∧ t.mem = s.mem) ∧
  (∀ k s, s.rd F.MEM_STATE_STATE k ≠ stFailed → ∃ t, exec (.stackFail k) s = .next t ∧ t.rd F.MEM_STATE_STATE k = stFailed ∧
    t.flag F.MEM_CAUSE_FAIL k = true ∧ t.store = s.store)

/-- Cluster tests, the cluster map in the configuration memory, and gating in Trim complete with their effect.
CLUSTER_TEST_DONE with core power writes CLU_STATE, CLU_ID and CLU_ENG_MAP alone and marks the clusters tested.
CLUSTER_MAP_WRITE puts the map in force into one of the two copies. CLUSTER_GATE in Trim gates an enabled cluster
whose partition runs nothing; in every other state it leaves the module as it was. CLUSTER_UNGATE clears GATED.
Nothing but the registers named changes. It rests on R90 (03_engines_and_clusters.md, Spare clusters); R413
(16_power_states_and_time.md, Votes, requests and Trim). -/
def Obligations.ClusterTestsMapAndGating : Prop :=
  (∀ pass bad s, s.pwr.vcore = true → ∃ t, exec (.clusterTestDone pass bad) s = .next t ∧
    OnlyRegs [.CLU_STATE, .CLU_ID, .CLU_ENG_MAP]
      { s with mapDue := t.mapDue, bringIns := [], pwr := { s.pwr with tested := true } } t) ∧
  (∀ s, s.mapDue = true → s.mgmt.down = false → s.nv.maps.length = 2 → ∃ t, exec .clusterMapWrite s = .next t ∧ some s.mapNow ∈ t.nv.maps ∧
    t = { s with mapDue := false, nv := { s.nv with maps := t.nv.maps } }) ∧
  (∀ s, s.mgmt.down = true → exec .clusterMapWrite s = .next s) ∧
  (∀ p s, s.rd F.PWR_PS_STAT_STATE = 1 → s.enabled p.val = true → (∀ n, s.partOf p = some n → s.runActive n = false) →
    ∃ t, exec (.clusterGate p) s = .next t ∧ t.flag F.CLU_STATE_GATED p = true ∧ OnlyRegs [.CLU_STATE] s t) ∧
  (∀ p s, ∃ t, exec (.clusterUngate p) s = .next t ∧ t.flag F.CLU_STATE_GATED p = false ∧ OnlyRegs [.CLU_STATE] s t) ∧
  (∀ p s, s.rd F.PWR_PS_STAT_STATE ≠ 1 → exec (.clusterGate p) s = .next s)

/-- A gear change, its stops, its end, and the fast limiter complete with their effect. GEAR_CHANGE with core power,
tested clusters and no slew aims at the gear of the level in force. GEAR_SWITCH_DONE at a bias or assist stop sets FBB
or ASSIST as the goal wants. GEAR_SETTLED ends the slew at 550 mV + 20 mV per gear. LIMITER_TRIGGER holds the level
STEP (at least 1) below, forces the duty, counts and raises LIMIT; the duty is at most 4 once clusters are tested.
LIMITER_RELEASE ends the forced duty. LIMITER_HOLD_STEP raises the hold by one level or ends it at the ceiling. Each
clause frames the state but for the power bookkeeping and the registers it names. It rests on R269, R270
(10_rate_heat_and_power_cap.md, Gears); R272 (10_rate_heat_and_power_cap.md, Steps and seconds); R274
(10_rate_heat_and_power_cap.md, Power levels); R278 (10_rate_heat_and_power_cap.md, The fast limiter). -/
def Obligations.GearsAndTheFastLimiter : Prop :=
  (∀ mv s, s.pwr.vcore = true → s.pwr.tested = true → s.pwr.retention = false → s.flag F.PWR_GEAR_STAT_SLEW = false →
    mv.toNat = s.pwr.mv → gearOf s.level ≠ s.pwr.goal → ∃ t, exec (.gearChange mv) s = .next t ∧ t.pwr.goal = gearOf s.level ∧
    t.pwr.mv = s.pwr.mv ∧ t.rd F.PWR_GEAR_STAT_DUTY = s.duty ∧ t.rd F.PWR_GEAR_STAT_LEVEL = s.level ∧
    OnlyRegs [.PWR_GEAR_STAT] { s with pwr := t.pwr } t) ∧
  (∀ s b, s.flag F.PWR_GEAR_STAT_SLEW = true → (s.nextStop s.pwr.mv s.pwr.goal).2 = some b →
    ∃ t, exec .gearSwitchDone s = .next t ∧ t.pwr.goal = gearOf s.level ∧ t.flag F.PWR_GEAR_STAT_SLEW = true ∧
    (b = true → t.flag F.PWR_GEAR_STAT_FBB = wantsBias s.pwr.goal) ∧
    (b = false → t.flag F.PWR_GEAR_STAT_ASSIST = wantsAssist s.pwr.goal) ∧ OnlyRegs [.PWR_GEAR_STAT] { s with pwr := t.pwr } t) ∧
  (∀ s, s.flag F.PWR_GEAR_STAT_SLEW = true → (s.nextStop s.pwr.mv s.pwr.goal).2 = none → s.pwr.goal < 16 →
    ∃ t, exec .gearSettled s = .next t ∧ t.flag F.PWR_GEAR_STAT_SLEW = false ∧ t.rd F.PWR_GEAR_STAT_GEAR = s.pwr.goal ∧
    t.pwr.mv = 550 + 20 * s.pwr.goal ∧ OnlyRegs [.PWR_GEAR_STAT] { s with pwr := { s.pwr with mv := t.pwr.mv } } t) ∧
  (∀ s, s.pwr.vcore = true → ∃ t, exec .limiterTrigger s = .next t ∧
    t.pwr.hold = some (s.level - max 1 (s.rd F.PWR_LIM_CFG_STEP)) ∧ t.pwr.forced = true ∧ t.rd F.PWR_GEAR_STAT_DUTY = t.duty ∧
      (t.pwr.tested = true → t.duty ≤ 4) ∧
    t.flag F.PWR_CAUSE_LIMIT = true ∧ t.rd F.PWR_LIM_CNT_COUNT = satInc 32 (s.rd F.PWR_LIM_CNT_COUNT) ∧
    OnlyLogs [.PWR_GEAR_STAT, .PWR_LIM_CNT, .PWR_CAUSE] { s with pwr := t.pwr } t) ∧
  (∀ s, s.pwr.forced = true → s.flag F.PWR_GEAR_STAT_SLEW = false → ∃ t, exec .limiterRelease s = .next t ∧
    t.pwr.forced = false ∧ t.rd F.PWR_GEAR_STAT_DUTY = t.duty ∧
      OnlyRegs [.PWR_GEAR_STAT] { s with pwr := { s.pwr with forced := false } } t) ∧
  (∀ s h, s.pwr.hold = some h → ∃ t, exec .limiterHoldStep s = .next t ∧
    (t.pwr.hold = if min (s.rd F.PWR_GEAR_STAT_CEIL) (s.pwr.maxGear + 7) ≤ h + 1 then none else some (h + 1)) ∧
    OnlyRegs [.PWR_GEAR_STAT] { s with pwr := { s.pwr with hold := t.pwr.hold } } t)

/-- Cadence, input power, an unmet cap and the junction temperature are taken in with their effect. CADENCE_WINDOW takes
68 rates: without core power both fields read 0; with it MIN is at most the rate of every ticking cluster.
POWER_SAMPLE puts the sample first in the history, and source 0x28 reads the 10 ms mean of the register. CAP_UNMET
raises its cause when the ceiling is 0 and the 1 s power is above 102 % of the cap. TJ_SAMPLE writes MAX and SRC; at
or above the warning threshold (at most 104 °C) an armed warning is raised and disarmed, and it is armed again 5 °C
below. The frames name the registers. It rests on R271 (10_rate_heat_and_power_cap.md, Measuring cadence); R276, R277
(10_rate_heat_and_power_cap.md, The power cap); R279 (10_rate_heat_and_power_cap.md, Temperature and the thermal
trip). -/
def Obligations.CadencePowerCapAndTemperature : Prop :=
  (∀ rates s, s.pwr.vcore = false → ∃ t, exec (.cadenceWindow rates) s = .next t ∧
    t.rd F.PWR_CADENCE_MIN = 0 ∧ t.rd F.PWR_CADENCE_MEAN = 0 ∧ OnlyRegs [.PWR_CADENCE] { s with pwr := { s.pwr with rates := [] } } t) ∧
  (∀ rates s, s.pwr.vcore = true → s.pwr.retention = false → ∃ t, exec (.cadenceWindow rates) s = .next t ∧
    (∀ p : Fin 68, s.ticking p = true → t.rd F.PWR_CADENCE_MIN ≤ rates[p].toNat) ∧
    OnlyRegs [.PWR_CADENCE] { s with free := t.free, pwr := { s.pwr with rates := t.pwr.rates } } t) ∧
  (∀ w s, ∃ t, exec (.powerSample w) s = .next t ∧ t.pwr.power = w.toNat :: s.pwr.power.take 19999 ∧
    t.source 0x28 = some ((t.rd F.PWR_INPUT_P_10MS : Nat) : Rat) ∧
    OnlyRegs [.PWR_INPUT] { s with free := t.free, pwr := { s.pwr with power := t.pwr.power }, cio := { s.cio with reads := t.cio.reads } } t) ∧
  (∀ s, s.rd F.PWR_GEAR_STAT_CEIL = 0 → 102 * s.rd F.PWR_CAP_EFF_WATTS < 100 * s.rd F.PWR_INPUT_P_1S →
    ∃ t, exec .capUnmet s = .next t ∧ t.flag F.PWR_CAUSE_CAP_UNMET = true ∧ OnlyLogs [.PWR_CAUSE] s t) ∧
  (∀ src v s, ∃ t, exec (.tjSample src v) s = .next t ∧ t.rd F.PWR_TJ_MAX = v.toNat ∧ t.rd F.PWR_TJ_SRC = src.toNat ∧
    (min 0x340 (s.rd F.PWR_TJ_WARN_THRESH) ≤ v.toNat → s.pwr.tjArmed = true → t.flag F.PWR_CAUSE_TJ_WARN = true ∧ t.pwr.tjArmed = false) ∧
    (v.toNat + 40 ≤ min 0x340 (s.rd F.PWR_TJ_WARN_THRESH) → t.pwr.tjArmed = true) ∧
    OnlyLogs [.PWR_TJ, .PWR_CAUSE] { s with cio := { s.cio with reads := t.cio.reads }, pwr := { s.pwr with tjArmed := t.pwr.tjArmed } } t)

/-- A thermal trip cuts core power and zeroes the stores; REARM and restart lead back. THERMAL_TRIP on a module not
tripped: core power is off, TRIPPED and TJ_AT_TRIP are set, TRIP is raised, no partition keeps an open job, stores are
empty, stacks unchanged; a second trip changes nothing. A REARM write takes effect only while tripped. TRIP_RESTART
with REARM set, a junction below 80 °C and every permit but the trip's clears TRIPPED and, where core power is off and
start-up is past step 8, powers the core with its clusters untested; in every other case it changes nothing. It rests
on R28 (01_module_architecture.md, When protective actions fall together); R280 (10_rate_heat_and_power_cap.md,
Temperature and the thermal trip). -/
def Obligations.ThermalTripAndRestart : Prop :=
  (∀ v s, s.flag F.PWR_TRIP_TRIPPED = false → ∃ t, exec (.thermalTrip v) s = .next t ∧ t.pwr.vcore = false ∧
    t.flag F.PWR_TRIP_TRIPPED = true ∧ t.rd F.PWR_TRIP_TJ_AT_TRIP = v.toNat ∧ t.flag F.PWR_CAUSE_TRIP = true ∧
    (∀ n < 16, t.pstate n ≠ 2) ∧ t.store = [] ∧ t.mem = s.mem) ∧
  (∀ v s, s.flag F.PWR_TRIP_TRIPPED = true → exec (.thermalTrip v) s = .next s) ∧
  (∀ s, ∃ t, exec .pwrTripRearm s = .next t ∧ t.flag F.PWR_TRIP_REARM = s.flag F.PWR_TRIP_TRIPPED ∧ OnlyRegs [.PWR_TRIP] s t) ∧
  (∀ s, s.flag F.PWR_TRIP_TRIPPED = true → s.flag F.PWR_TRIP_REARM = true → s.rd F.PWR_TJ_MAX < 640 → s.permitBut = true →
    ∃ t, exec .tripRestart s = .next t ∧ t.flag F.PWR_TRIP_TRIPPED = false ∧
    (s.pwr.vcore = false → 9 ≤ s.rd F.CFG_STAT_STEP → t.pwr.vcore = true ∧ t.pwr.tested = false ∧ t.flag F.PWR_TRIP_REARM = false)) ∧
  (∀ s, ¬ (s.flag F.PWR_TRIP_REARM = true ∧ s.rd F.PWR_TJ_MAX < 640 ∧ s.permitBut = true) → exec .tripRestart s = .next s)

/-- Requests for Run, Trim, Standby and Freewheel, votes and automatic Standby complete with their effect. With no request
pending: REQ_TRIM in Run and REQ_RUN in Trim change the state, the latter ungating clusters; REQ_RUN in Standby with
every domain awake makes Run the target; REQ_STANDBY from Run or Trim without votes starts the entry at point 1, and
with votes waits as PEND; REQ_FREEWHEEL from Standby without votes starts the handshake with eight clients waiting and
asks for a flush. A vote write sets HOLD, and each set bit is a vote. AUTO_STANDBY_IDLE starts an entry to Standby
when AUTO is set and no vote is held. The commands of an entry and of a wake complete: ENTRY_STEP_COMPLETE at point 3
reaches Standby with ready stacks in self-refresh, and at point 5 Freewheel with VPERI off, both raising ENTERED;
HANDSHAKE_REPLY of an awaited client 5 clears its bit; HANDSHAKE_TIMEOUT with client 7 alone awaited comes back to
Standby with LAST 7; WAKE_COMPLETE in a wake to Standby turns VPERI on; DOMAIN_AWAKE of the last sleeping stack in a
wake to Run or Trim reaches the target with WAKE raised; DOMAIN_IDLE of the core domain in Standby puts it at
retention with duty 0; FW_SEQUENCER_SAMPLE in Freewheel notes the sample. Stacks and stores keep their data where a
clause says so. That a vote is looked at when it changes and when the module is idle is the model's choice (log entry
16). It rests on R411, R412 (16_power_states_and_time.md, Votes, requests and Trim); R414, R416
(16_power_states_and_time.md, Going down). -/
def Obligations.PowerStateRequestsAndVotes : Prop :=
  (∀ s, s.psState = psStandby → s.allAwake = true → s.flag F.PWR_PS_STAT_PEND = false → ∃ t, exec .reqRun s = .next t ∧ t.psTgt = psRun ∧
    t.ps.ran = psRun) ∧
  (∀ s, s.psState = psRun → s.flag F.PWR_PS_STAT_PEND = false → ∃ t, exec .reqTrim s = .next t ∧ t.psState = psTrim ∧
    OnlyRegs [.PWR_PS_REQ, .PWR_PS_STAT] { s with ps := { ran := psTrim, abort := 0, wake := false, t0 := s.ps.t0 } } t) ∧
  (∀ s, s.psState = psTrim → s.flag F.PWR_PS_STAT_PEND = false → ∃ t, exec .reqRun s = .next t ∧ t.psState = psRun ∧
    (∀ p < 68, t.flag F.CLU_STATE_GATED p = false) ∧
    OnlyRegs [.PWR_PS_REQ, .PWR_PS_STAT, .CLU_STATE] { s with ps := { ran := psRun, abort := 0, wake := false, t0 := s.ps.t0 } } t) ∧
  (∀ s, s.psState ≤ psTrim → s.votes = 0 → s.flag F.PWR_PS_STAT_PEND = false → ∃ t, exec .reqStandby s = .next t ∧
    t.psState = psEntering ∧ t.psTgt = psStandby ∧ t.rd F.PWR_PS_STAT_POINT = 1 ∧
    OnlyRegs [.PWR_PS_REQ, .PWR_PS_STAT] { s with ps := { ran := s.psState, abort := 0, wake := false, t0 := s.ps.t0 } } t) ∧
  (∀ s, s.psState ≤ psTrim → s.votes ≠ 0 → s.flag F.PWR_PS_STAT_PEND = false → ∃ t, exec .reqStandby s = .next t ∧ t.psState = s.psState ∧
    t.flag F.PWR_PS_STAT_PEND = true ∧ t.rd F.PWR_PS_STAT_PEND_TGT = psStandby ∧ OnlyRegs [.PWR_PS_REQ, .PWR_PS_STAT] s t) ∧
  (∀ s, s.psState = psStandby → s.votes = 0 → s.flag F.PWR_PS_STAT_PEND = false → ∃ t, exec .reqFreewheel s = .next t ∧
    t.psState = psEntering ∧ t.psTgt = psFreewheel ∧ t.rd F.PWR_PS_STAT_POINT = 4 ∧ t.rd F.PWR_HS_STAT_WAITING = 0xFF ∧
      t.evr.flushDue = true) ∧
  (∀ m s, s.psState ≤ psTrim → s.flag F.PWR_PS_STAT_PEND = false → ∃ t, exec (.pwrVoteWrite m) s = .next t ∧
    t.rd F.PWR_VOTE_HOLD = m.toNat ∧ (∀ n < 16, m.getLsbD n = true → t.votes.testBit n = true) ∧ OnlyRegs [.PWR_VOTE] s t) ∧
  (∀ s, s.flag F.PWR_PS_CFG_AUTO = true → s.votes = 0 → s.psState ≤ psTrim → s.flag F.PWR_PS_STAT_PEND = false →
    ∃ t, exec .autoStandbyIdle s = .next t ∧ t.psState = psEntering ∧ t.psTgt = psStandby ∧
    OnlyRegs [.PWR_PS_STAT] { s with ps := { ran := s.psState, abort := 0, wake := false, t0 := s.ps.t0 } } t) ∧
  (∀ s, s.psState = psEntering → s.rd F.PWR_PS_STAT_POINT = 3 → s.ps.abort = 0 → s.flag F.PWR_PS_STAT_PEND = false → s.votes = 0 →
    ∃ t, exec .entryStepComplete s = .next t ∧ t.psState = psStandby ∧ (∀ k < 8, s.rd F.MEM_STATE_STATE k = stReady →
      t.rd F.MEM_STATE_STATE k = 3) ∧
    t.flag F.PWR_PS_CAUSE_ENTERED = true) ∧
  (∀ s, s.psState = psEntering → s.rd F.PWR_PS_STAT_POINT = 5 → s.ps.wake = false → s.flag F.PWR_PS_STAT_PEND = false → s.votes = 0 →
    ∃ t, exec .entryStepComplete s = .next t ∧ t.psState = psFreewheel ∧ t.flag F.CIO_STAT_VPERI = false ∧
      t.flag F.PWR_PS_CAUSE_ENTERED = true) ∧
  (∀ s, s.psState = psEntering → s.rd F.PWR_PS_STAT_POINT = 4 → (s.rd F.PWR_HS_STAT_WAITING).testBit 5 = true →
    ∃ t, exec (.handshakeReply 5) s = .next t ∧ (t.rd F.PWR_HS_STAT_WAITING).testBit 5 = false ∧ OnlyRegs [.PWR_HS_STAT] s t) ∧
  (∀ s, s.psState = psEntering → s.rd F.PWR_PS_STAT_POINT = 4 → s.rd F.PWR_HS_STAT_WAITING = 0x80 → s.votes = 0 →
    s.flag F.PWR_PS_STAT_PEND = false →
    ∃ t, exec .handshakeTimeout s = .next t ∧ t.psState = psStandby ∧ t.rd F.PWR_HS_STAT_LAST = 7 ∧ t.rd F.PWR_HS_STAT_WAITING = 0) ∧
  (∀ n s, s.psState = psWaking → s.psTgt = psStandby → s.votes = 0 → s.flag F.PWR_PS_STAT_PEND = false →
    ∃ t, exec (.wakeComplete n) s = .next t ∧ t.flag F.CIO_STAT_VPERI = true ∧ t.mem = s.mem ∧ t.store = s.store) ∧
  (∀ (k : Fin 9) s, k.val < 8 → s.psState = psWaking → s.psTgt ≤ psTrim → s.ps.abort = 0 → s.rd F.MEM_STATE_STATE k = 3 →
    s.pwr.retention = false →
    (∀ j < 8, j ≠ k.val → s.rd F.MEM_STATE_STATE j ≠ 3) → s.flag F.PWR_PS_STAT_PEND = false → ∃ t, exec (.domainAwake k) s = .next t ∧
    t.rd F.MEM_STATE_STATE k = stReady ∧ t.psState = s.psTgt ∧ t.flag F.PWR_PS_CAUSE_WAKE = true) ∧
  (∀ s, s.psState = psStandby → s.votes = 0 → s.flag F.PWR_PS_STAT_CORE_AWAKE = true → s.pwr.vcore = true →
    ∃ t, exec (.domainIdle 8) s = .next t ∧
    t.pwr.retention = true ∧ t.flag F.PWR_PS_STAT_CORE_AWAKE = false ∧ t.rd F.PWR_GEAR_STAT_DUTY = 0 ∧
    OnlyRegs [.PWR_PS_STAT, .PWR_GEAR_STAT, .PWR_CADENCE] { s with pwr := t.pwr } t) ∧
  (∀ sens ai s, s.psState = psFreewheel → ∃ t, exec (.fwSequencerSample sens ai) s = .next t ∧ t.boot.sampled = true ∧ t.mem = s.mem ∧
    t.store = s.store)

/-- The steps of an entry, the handshake with the clients, waking, and single domains complete with their effect.
ENTRY_STEP_COMPLETE leads from point 1 to 2, from 2 to 3 with stores at retention, and from 4 to 5 once no client is
waited for, where it notes the time. HANDSHAKE_REPLY of an awaited client: one whose condition holds leaves WAITING
(0: no slot in fault or moving; 1: no row role; 2: no zero-fill; 3: no partition in its scrub; 4: no record buffered;
5: always; 6: nothing owed to a host; 7: the cores run); clients 2, 3, 4, 6 and 7 whose condition does not hold do not
reply and nothing changes; clients 0 and 1 then refuse, which brings the module back to Standby with LAST and REFUSED.
HANDSHAKE_TIMEOUT does the same with TIMEOUT. WAKE_COMPLETE reaches Standby, raises WAKE and derives the time base
from the AON count. DOMAIN_AWAKE and DOMAIN_IDLE move one stack between self-refresh and ready in Standby.
FW_SEQUENCER_SAMPLE in Freewheel takes the readings of sensors 0 to 3 that lie from -10 to 110 °C, wakes when the
outlet pair stands at or above its threshold, does not when it stands below and the pressure has no reading, and in
any other state changes nothing. The point read of an ended entry and the replies' form are the model's choice (log
entry 17). It rests on R414, R415 (16_power_states_and_time.md, Going down); R418, R419, R420
(16_power_states_and_time.md, Waking); R424 (16_power_states_and_time.md, Time). -/
def Obligations.EntryHandshakeAndWake : Prop :=
  (∀ s, s.psState = psEntering → s.rd F.PWR_PS_STAT_POINT = 1 → s.ps.abort = 0 → ∃ t, exec .entryStepComplete s = .next t ∧
    t.rd F.PWR_PS_STAT_POINT = 2 ∧ OnlyRegs [.PWR_PS_STAT] s t) ∧
  (∀ s, s.psState = psEntering → s.rd F.PWR_PS_STAT_POINT = 2 → s.ps.abort = 0 → s.pwr.vcore = true →
    ∃ t, exec .entryStepComplete s = .next t ∧
    t.rd F.PWR_PS_STAT_POINT = 3 ∧ t.pwr.retention = true ∧ t.rd F.PWR_GEAR_STAT_DUTY = 0 ∧ t.store = s.store ∧
    OnlyRegs [.PWR_PS_STAT, .PWR_GEAR_STAT, .PWR_CADENCE] { s with pwr := t.pwr } t) ∧
  (∀ s, s.psState = psEntering → s.rd F.PWR_PS_STAT_POINT = 4 → s.rd F.PWR_HS_STAT_WAITING = 0 → s.ps.abort = 0 →
    ∃ t, exec .entryStepComplete s = .next t ∧ t.rd F.PWR_PS_STAT_POINT = 5 ∧
    t.ps.t0 = s.timeBase.toNat * 1000000000 + s.timeFrac ∧ OnlyRegs [.PWR_PS_STAT] { s with ps := { s.ps with t0 := t.ps.t0 } } t) ∧
  (∀ (c : Fin 8) s, s.psState = psEntering → s.rd F.PWR_PS_STAT_POINT = 4 → (s.rd F.PWR_HS_STAT_WAITING).testBit c = true →
    ((c = 0 ∧ s.reg .CLE_SLOT_FAULT 0 = 0 ∧ ∀ k < 32, s.flag F.CLE_SLOT_STAT_MOVING k = false) ∨ (c = 1 ∧
      s.rd F.ROW_CFG_ROLE = 0) ∨ (c = 2 ∧ s.zfills = []) ∨
      (c = 3 ∧ ∀ n < 16, s.pstate n ≠ 4) ∨ (c = 4 ∧ s.evr.buf = [] ∧ s.evr.chg = []) ∨ c = 5 ∨ (c = 6 ∧ s.owed = []) ∨ (c = 7 ∧
        s.mgmt.down = false)) →
    ∃ t, exec (.handshakeReply c) s = .next t ∧ t.rd F.PWR_HS_STAT_WAITING = s.rd F.PWR_HS_STAT_WAITING - 2 ^ c.val ∧
      OnlyRegs [.PWR_HS_STAT] s t) ∧
  (∀ (c : Fin 8) s, ((c = 2 ∧ s.zfills ≠ []) ∨ (c = 3 ∧ ∃ n < 16, s.pstate n = 4) ∨ (c = 4 ∧ (s.evr.buf ≠ [] ∨ s.evr.chg ≠ [])) ∨ (c = 6 ∧
    s.owed ≠ []) ∨
      (c = 7 ∧ s.mgmt.down = true)) → exec (.handshakeReply c) s = .next s) ∧
  (∀ (c : Fin 8) s, s.psState = psEntering → s.rd F.PWR_PS_STAT_POINT = 4 → (s.rd F.PWR_HS_STAT_WAITING).testBit c = true →
    ((c = 0 ∧ (s.reg .CLE_SLOT_FAULT 0 ≠ 0 ∨ ∃ k < 32, s.flag F.CLE_SLOT_STAT_MOVING k = true)) ∨ (c = 1 ∧ s.rd F.ROW_CFG_ROLE ≠ 0)) →
    s.votes = 0 → s.flag F.PWR_PS_STAT_PEND = false →
    ∃ t, exec (.handshakeReply c) s = .next t ∧ t.psState = psStandby ∧ t.rd F.PWR_HS_STAT_LAST = c.val ∧
    t.flag F.PWR_PS_CAUSE_REFUSED = true) ∧
  (∀ s, s.psState = psEntering → s.rd F.PWR_PS_STAT_POINT = 4 → s.rd F.PWR_HS_STAT_WAITING ≠ 0 → s.votes = 0 →
    s.flag F.PWR_PS_STAT_PEND = false → ∃ t, exec .handshakeTimeout s = .next t ∧ t.psState = psStandby ∧
    t.flag F.PWR_HS_STAT_TIMEOUT = true ∧ t.flag F.PWR_PS_CAUSE_REFUSED = true) ∧
  (∀ n s, s.psState = psWaking → s.psTgt = psStandby → s.votes = 0 → s.flag F.PWR_PS_STAT_PEND = false →
    ∃ t, exec (.wakeComplete n) s = .next t ∧ t.psState = psStandby ∧ t.flag F.PWR_PS_CAUSE_WAKE = true ∧
    t.timeBase = BitVec.ofNat 64 ((s.ps.t0 + n.toNat * 30517578125000) / 1000000000)) ∧
  (∀ k : Fin 9, ∀ s, k.val < 8 → s.psState = psStandby → s.rd F.MEM_STATE_STATE k = 3 → ∃ t, exec (.domainAwake k) s = .next t ∧
    t.rd F.MEM_STATE_STATE k = stReady ∧ (t.rd F.PWR_PS_STAT_STACKS_AWAKE).testBit k = true ∧ OnlyRegs [.MEM_STATE, .PWR_PS_STAT] s t) ∧
  (∀ k : Fin 9, ∀ s, k.val < 8 → s.psState = psStandby → s.votes = 0 → (s.rd F.PWR_PS_STAT_STACKS_AWAKE).testBit k = true →
    s.rd F.MEM_STATE_STATE k = stReady → ∃ t, exec (.domainIdle k) s = .next t ∧ t.rd F.MEM_STATE_STATE k = 3 ∧
    (t.rd F.PWR_PS_STAT_STACKS_AWAKE).testBit k = false ∧ OnlyRegs [.MEM_STATE, .PWR_PS_STAT] s t) ∧
  (∀ sens ai s, s.psState = psFreewheel → ∃ t, exec (.fwSequencerSample sens ai) s = .next t ∧ t.boot.sampled = true ∧
    (∀ k : Fin 7, k.val < 4 → -10 ≤ sens[k] → sens[k] ≤ 110 → Assoc.find t.cio.reads (0x100 + k) = some { v := sens[k], at_ := s.up }) ∧
    (∀ v, t.pair 1 = some v → (s.rd F.PWR_FW_THR_TOUT : Rat) / 8 ≤ v → t.psState = psWaking ∧ t.flag F.PWR_WAKE_SRC_THRESH = true) ∧
    (∀ v, t.pair 1 = some v → v < (s.rd F.PWR_FW_THR_TOUT : Rat) / 8 → t.source 0x1B = none → t.psState = psFreewheel)) ∧
  (∀ sens ai s, s.psState ≠ psFreewheel → exec (.fwSequencerSample sens ai) s = .next s)

/-- PART_ASSIGN, PART_RELEASE and PART_STATE complete with their effect and answer over HMP. In an HMP session, while HMP
answers, the header is sound and identity and configuration have not failed: PART_ASSIGN whose check gives 0 makes the
partition ASSIGNED with the set, base and frames of its body and answers 0, stacks and stores unchanged; one whose
check gives another result answers that result and changes nothing else. PART_RELEASE of a served partition starts its
scrub, ends its commands and leaves SCRUBBING. PART_STATE answers the sixteen state words and changes nothing; with a
malformed header it answers status 2. Without HMP or without a session none has an effect. It rests on R95, R96, R520
(04_patterns_and_jobs.md, Partitions); R230, R231 (08_host_ethernet.md, HMP); R263 (09_tenancy_and_trust.md, The scrub
between users). -/
def Obligations.PartitionsAssignedAndReleased : Prop :=
  (∀ x body a s, s.hmpUp = true → s.sessions.elem x.client = true → x.ok = true → s.flag F.CFG_STAT_RECOVERY = false →
    s.rd F.SEC_STATE_ID ≠ 2 → readAssign body = some a →
    s.assignResult a = 0 → ∃ t, exec (.partAssign x body) s = .next t ∧ t.pstate a.n = 1 ∧
    t.rd F.MEM_PART_SET_STACKS a.n = a.mask ∧ t.rd F.MEM_PART_BASE_VALUE a.n = a.base ∧ t.rd F.MEM_PART_FRAMES_VALUE a.n = a.frames ∧
    t.out = s.out ++ [.hmp x.client 0x8004 0 x.seq.toNat [0, 0, 0, 0]] ∧ t.mem = s.mem ∧ t.store = s.store) ∧
  (∀ x body a s, s.hmpUp = true → s.sessions.elem x.client = true → x.ok = true → s.flag F.CFG_STAT_RECOVERY = false →
    s.rd F.SEC_STATE_ID ≠ 2 → readAssign body = some a →
    s.assignResult a ≠ 0 → ∃ t, exec (.partAssign x body) s = .next t ∧
      t.out = s.out ++ [.hmp x.client 0x8004 0 x.seq.toNat (natLE 4 (s.assignResult a))] ∧
    OnlyLogs [] { s with free := t.free, out := t.out } t) ∧
  (∀ x body s, s.hmpUp = true → s.sessions.elem x.client = true → x.ok = true → s.flag F.CFG_STAT_RECOVERY = false →
    s.rd F.SEC_STATE_ID ≠ 2 → body.length = 4 →
    byteAt body 0 < 16 → zerosAt body 1 3 = true → s.served (byteAt body 0) = true → s.parts.length = 16 →
    ∃ t, exec (.partRelease x body) s = .next t ∧ t.pstate (byteAt body 0) = 4 ∧ (t.part (byteAt body 0)).scrubStep = 3 ∧
    (∀ c ∈ t.cmds, c.ring / 4 ≠ byteAt body 0)) ∧
  (∀ x s, s.hmpUp = true → s.sessions.elem x.client = true → x.ok = true → s.flag F.CFG_STAT_RECOVERY = false → s.rd F.SEC_STATE_ID ≠ 2 →
    exec (.partState x) s = .next { s with
    out := s.out ++ [.hmp x.client 0x8003 0 x.seq.toNat ((List.range 16).flatMap fun n => natLE 4 (s.reg .ETH_PART_STATE n).toNat)] }) ∧
  (∀ x b s, (s.hmpUp = false ∨ s.sessions.elem x.client = false) → exec (.partState x) s = .next s ∧ exec (.partAssign x b) s = .next s ∧
    exec (.partRelease x b) s = .next s) ∧
  (∀ x s, s.hmpUp = true → s.sessions.elem x.client = true → x.ok = false → exec (.partState x) s =
    .next { s with out := s.out ++ [.hmp x.client 0x8003 2 x.seq.toNat []] })

/-- The scrub between users goes step by step, and relaxation becomes and ceases to be due. SCRUB_HALTED in step 3 zeroes
every store of the partition's clusters, leaves stacks alone and goes to step 4. SCRUB_STORES_ZEROED in step 4 gives
back every loan and goes to step 5 or, with nothing to fill, frees the partition. ZERO_FILL_DONE ends its fill and no
byte of its range is listed in stack memory: the range reads zeros. RELAX_PENDING and RELAX_END_PENDING set and clear
the flag of the cap window (the model's choice, log entry 14), and nothing else. It rests on R58, R59
(02_number_formats.md, Relaxable operations); R146 (05_zynde_memory.md, Zero-fill between users); R263
(09_tenancy_and_trust.md, The scrub between users). -/
def Obligations.ScrubBetweenUsers : Prop :=
  (∀ n s, s.pstate n.val = 4 → (s.part n.val).scrubStep = 3 → s.parts.length = 16 → ∃ t, exec (.scrubHalted n) s = .next t ∧
    (t.part n.val).scrubStep = 4 ∧ (∀ p < 68, s.partOf p = some n.val → ∀ a, t.storeByte p a = 0) ∧ t.mem = s.mem ∧ t.pstate n.val = 4) ∧
  (∀ n s, s.pstate n.val = 4 → (s.part n.val).scrubStep = 4 → s.parts.length = 16 → ∃ t, exec (.scrubStoresZeroed n) s = .next t ∧
    (t.part n.val).loans = [] ∧ (t.pstate n.val = 0 ∨ (t.part n.val).scrubStep = 5)) ∧
  (∀ k loan owner s z, s.zfills.find? (fun z => z.stack = k.val && z.loan = loan && z.owner = owner.val) = some z →
    ∃ t, exec (.zeroFillDone k loan owner) s = .next t ∧ t.zfills = s.zfills.erase z ∧ ∀ e ∈ t.mem, inRange z e.1 1 = false) ∧
  (∀ s, exec .relaxPending s = .next { s with pwr := { s.pwr with capWin := true } } ∧
    exec .relaxEndPending s = .next { s with pwr := { s.pwr with capWin := false } })

/-- The twelve engine instructions that compute complete and write nothing but their output. For MMA_OS, MMA_WS, VEC_EW,
VEC_RED, VEC_ACT, VEC_TLOAD, VEC_SOFTMAX, VEC_RECIP, QUANT, DEQUANT, GATHER and SCATTER of their opcode, once nothing
of the stream waits to be replayed and the WAIT is satisfied: the instruction answers a next state; every byte of
every cluster store outside its own output range (and the exponent list of a QUANT) reads as before; stack memory, its
poison, the configuration memory and core power are unchanged; the only registers that may change are the arithmetic
status, the relaxation count, the causes and the store-error latches of clusters, and the recorder's; without a SIGNAL
the stream moves past it. It rests on R40, R43 (02_number_formats.md, Quantising); R66, R67
(03_engines_and_clusters.md, The engine); R71, R72 (03_engines_and_clusters.md, The vector unit); R105, R106, R108
(04_patterns_and_jobs.md, Engine instructions). -/
def Obligations.EngineInstructionsWriteOnlyTheirOutput : Prop :=
  EngRuns 0x01 .mmaOs ∧ EngRuns 0x02 .mmaWs ∧ EngRuns 0x10 .vecEw ∧ EngRuns 0x11 .vecRed ∧ EngRuns 0x12 .vecAct ∧
  EngRuns 0x13 .vecTload ∧ EngRuns 0x14 .vecSoftmax ∧ EngRuns 0x15 .vecRecip ∧ EngRuns 0x18 .quant ∧ EngRuns 0x19 .dequant ∧
  EngRuns 0x1A .gather ∧ EngRuns 0x1B .scatter

/-- NOP, SYNC, END and BEACON move their stream, and a SIGNAL adds to its token. Once the stream goes on and with no
SIGNAL: NOP, SYNC and END change nothing but the stream, its token and its grant; BEACON changes no register but the
repetitive controller's lock status, the control engine's causes and the recorder's, and on another engine than 0 none
at all. A SYNC that signals adds its amount to its token, at most 65535. A SYNC whose WAIT is not satisfied changes
nothing but the list of waiters. A SYNC command whose instruction is not of its form (R105) is refused. It rests on
R80 (03_engines_and_clusters.md, Tokens); R102 (04_patterns_and_jobs.md, The pattern container); R105, R106, R109
(04_patterns_and_jobs.md, Engine instructions); R302 (11_control_engine.md, The repetitive controller). -/
def Obligations.StreamControlInstructions : Prop :=
  (∀ p e i s, s.goes p e i = true → i.sigEn = false →
    (engForm 0x00 i = true → ∃ t, exec (.nop p e i) s = .next t ∧ StreamMoves p e i s t ∧
      OnlyRegs [] { s with engQ := t.engQ, tok := t.tok, granted := t.granted } t) ∧
    (engForm 0x20 i = true → ∃ t, exec (.sync p e i) s = .next t ∧ StreamMoves p e i s t ∧
      OnlyRegs [] { s with engQ := t.engQ, tok := t.tok, granted := t.granted } t) ∧
    (engForm 0x3F i = true → ∃ t, exec (.endSeg p e i) s = .next t ∧ StreamMoves p e i s t ∧
      OnlyRegs [] { s with engQ := t.engQ, tok := t.tok, granted := t.granted } t) ∧
    (engForm 0x22 i = true → ∃ t, exec (.beacon p e i) s = .next t ∧ StreamMoves p e i s t ∧ t.store = s.store ∧ t.mem = s.mem ∧
      SameRegs ([.CLE_REP_STAT, .CLE_CAUSE] ++ recRegs) s t ∧ (e.val ≠ 0 → t.regs = s.regs ∧ t.parts = s.parts ∧ t.beats = s.beats))) ∧
  (∀ p e i s k, engForm 0x20 i = true → s.goes p e i = true → i.waitEn = false → i.sigEn = true →
    s.tokKey p i.sigG i.sigTok.toNat = some k →
    ∃ t, exec (.sync p e i) s = .next t ∧ t.tokCount k = min (s.tokCount k + i.sigN.toNat) 65535) ∧
  (∀ p e i s, s.replayQ.any (fun r => r.cluster = p && r.engine = e) = false → (s.engWait p e i).2 = false → engForm 0x20 i = true →
    ∃ t, exec (.sync p e i) s = .next t ∧ t = { s with waiters := t.waiters }) ∧
  (∀ p e i s, engForm 0x20 i = false → exec (.sync p e i) s = .refused .illFormed)

/-- Token waits, releases, signals and the stall check complete with their effect. TOKEN_WAIT on a ready token subtracts
its amount; else the unit joins the waiters, and nothing else changes. TOKEN_WAIT_RELEASE serves the first waiter of
the token: subtracts, grants, clears its stall bit. TOKEN_SIGNAL adds up to 65535, and an addition beyond raises
TOKOVF at the cluster that holds the token. A global token above 63 (the model's reading, log entry 8), or any global
token of a cluster in no partition, is none, and neither command then has an effect. STALL_TIMEOUT with a limit set
and the unit waiting sets its stall bit and raises STALL. It rests on R80, R81, R82, R83 (03_engines_and_clusters.md,
Tokens). -/
def Obligations.TokensCountAndStall : Prop :=
  (∀ p u g a n s k, (g = true → a.toNat < 64) → s.tokKey p g a.toNat = some k → s.granted.elem (unitCode p u) = false →
    s.waiters.any (fun w => w.unit = unitCode p u) = false →
    ∃ t, exec (.tokenWait p u g a n) s = .next t ∧
    (s.tokReady k n.toNat = true → t.tokCount k = s.tokCount k - n.toNat ∧ t = { s with tok := t.tok }) ∧
    (s.tokReady k n.toNat = false →
      t = { s with waiters := s.waiters ++ [{ tok := k, unit := unitCode p u, n := n.toNat, since := s.up }] })) ∧
  (∀ p g a s k w, s.tokKey p g a.toNat = some k → s.waiters.find? (fun w => w.tok = k) = some w → w.n ≤ s.tokCount k →
    ∃ t, exec (.tokenWaitRelease p g a) s = .next t ∧ t.tokCount k = s.tokCount k - w.n ∧ t.waiters = s.waiters.erase w ∧
    t.granted = s.granted ++ [w.unit] ∧ (t.reg .CLU_STALL (w.unit / 32)).getLsbD (w.unit % 32) = false ∧
    OnlyRegs [.CLU_STALL] { s with tok := t.tok, waiters := t.waiters, granted := t.granted } t) ∧
  (∀ p g a n s k, (g = true → a.toNat < 64) → s.tokKey p g a.toNat = some k → ∃ t, exec (.tokenSignal p g a n) s = .next t ∧
    t.tokCount k = min (s.tokCount k + n.toNat) 65535 ∧
    (s.tokCount k + n.toNat ≤ 65535 → t = { s with tok := t.tok, tokSig := t.tokSig }) ∧
    (65535 < s.tokCount k + n.toNat → ∀ q, s.tokHolder k = some q → t.flag F.CLU_CAUSE_TOKOVF q = true)) ∧
  (∀ p a n u s, 64 ≤ a.toNat → exec (.tokenSignal p true a n) s = .next s ∧ exec (.tokenWait p u true a n) s = .next s) ∧
  (∀ p a n u s, s.partOf p = none → exec (.tokenSignal p true a n) s = .next s ∧ exec (.tokenWait p u true a n) s = .next s) ∧
  (∀ p u s, s.rd F.CLU_WDOG_LIMIT p ≠ 0 → s.waiters.any (fun w => w.unit = unitCode p u) = true →
    ∃ t, exec (.stallTimeout p u) s = .next t ∧ t.flag F.CLU_CAUSE_STALL p = true ∧ (t.reg .CLU_STALL p).getLsbD u = true ∧
    OnlyLogs [.CLU_STALL, .CLU_CAUSE] s t)

/-- The patrol of cluster stores advances, corrects, poisons, and fails a cluster that lost a bank. STORE_SCRUB_FORCED and
STORE_PATROL_READ move their bank's (every bank's) patrol line on by one of 20480, change no data and write no
register but the cluster's causes, the store-error latches and the recorder's. An uncorrectable line is poisoned,
raises STORE_UE and is latched; a corrected one raises STORE_CE and is counted. When 16 lines of one bank were found
uncorrectable in a pass, the read fails the enabled cluster: STATE is FAILED, CLFAULT is raised and its store reads
zeros; that this is looked at on scrub and patrol reads is the model's choice (log entry 56). It rests on R75, R76
(03_engines_and_clusters.md, The cluster store); R474, R475 (19_faults_and_degradation.md, Cluster faults and the
return to a checkpoint). -/
def Obligations.StoreScrubAndPatrol : Prop :=
  (∀ p b h s, (s.eccHits p.val h).bankLost p.val = false → ∃ t, exec (.storeScrubForced p b h) s = .next t ∧
    Assoc.get 0 t.patrol (p.val * 32 + b.val) = (Assoc.get 0 s.patrol (p.val * 32 + b.val) + 1) % 20480 ∧ t.store = s.store ∧
      t.mem = s.mem ∧
    SameRegs ([.CLU_CAUSE, .CLU_STORE_UE_ADDR, .CLU_STORE_CE_CNT] ++ recRegs) s t) ∧
  (∀ p h s, (s.eccHits p.val h).bankLost p.val = false → ∃ t, exec (.storePatrolRead p h) s = .next t ∧
    (∀ b < 32, Assoc.get 0 t.patrol (p.val * 32 + b) = (Assoc.get 0 s.patrol (p.val * 32 + b) + 1) % 20480) ∧ t.store = s.store ∧
      t.mem = s.mem ∧
    SameRegs ([.CLU_CAUSE, .CLU_STORE_UE_ADDR, .CLU_STORE_CE_CNT] ++ recRegs) s t) ∧
  (∀ p a s, s.ueLines = [] → ∃ t, exec (.storePatrolRead p [{ addr := a, uncorrectable := true }]) s = .next t ∧
    t.linePoison p a.toNat = true ∧
    t.flag F.CLU_CAUSE_STORE_UE p = true ∧ t.flag F.CLU_STORE_UE_ADDR_VALID p = true) ∧
  (∀ p a s, s.bankLost p.val = false → ∃ t, exec (.storePatrolRead p [{ addr := a, uncorrectable := false }]) s = .next t ∧
    t.storePoison = s.storePoison ∧
    t.flag F.CLU_CAUSE_STORE_CE p = true ∧ t.rd F.CLU_STORE_CE_CNT_COUNT p = satInc 32 (s.rd F.CLU_STORE_CE_CNT_COUNT p)) ∧
  (∀ p h s, (s.eccHits p.val h).bankLost p.val = true → s.enabled p.val = true → ∃ t, exec (.storePatrolRead p h) s = .next t ∧
    t.rd F.CLU_STATE_STATE p = 6 ∧ t.flag F.CLU_CAUSE_CLFAULT p = true ∧ (∀ a, t.storeByte p a = 0) ∧ t.mem = s.mem)

/-- The eight bobbin descriptors are carried out, and a descriptor ends. Once a descriptor goes on (its slots are the
pattern's, its FENCE and WAIT satisfied) and without a SIGNAL: MOVE, GATHER, SCATTER, PUT and GET leave the bobbin's
queue and number one more descriptor; MOVE, GATHER and SCATTER with a store destination, and GET, leave stack memory
as it was; COLL on a free collective number numbers one more descriptor; SYNC and END change nothing but the queue and
the descriptors in flight. DESCRIPTOR_STATUS_END of a failed descriptor with no byte left removes it and changes no
memory. A MOVE command whose descriptor is not of its form (R110) is refused. It rests on R79
(03_engines_and_clusters.md, Bobbins); R110, R111, R112 (04_patterns_and_jobs.md, Bobbin descriptors); R204
(07_fabric_transport.md, Collectives). -/
def Obligations.BobbinDescriptorsRun : Prop :=
  (∀ p b d h m n s, s.bobGoes p b d n = true → d.sigEn = false →
    (bobForm 1 d = true → ∃ t, exec (.bobbinMove p b d h m) s = .next t ∧ t.bobQ = (s.popBob (unitCode p (16 + b)) d).bobQ ∧
      t.fab.nextDesc = s.fab.nextDesc + 1 ∧ (spaceOf d.dst = 1 → t.mem = s.mem)) ∧
    (bobForm 2 d = true → ∃ t, exec (.bobbinGather p b d h m) s = .next t ∧ t.bobQ = (s.popBob (unitCode p (16 + b)) d).bobQ ∧
      t.fab.nextDesc = s.fab.nextDesc + 1 ∧ (spaceOf d.dst = 1 → t.mem = s.mem)) ∧
    (bobForm 3 d = true → ∃ t, exec (.bobbinScatter p b d h m) s = .next t ∧ t.bobQ = (s.popBob (unitCode p (16 + b)) d).bobQ ∧
      t.fab.nextDesc = s.fab.nextDesc + 1 ∧ (spaceOf d.dst = 1 → t.mem = s.mem)) ∧
    (bobForm 4 d = true → ∃ t, exec (.bobbinPut p b d h m) s = .next t ∧ t.bobQ = (s.popBob (unitCode p (16 + b)) d).bobQ ∧
      t.fab.nextDesc = s.fab.nextDesc + 1) ∧
    (bobForm 5 d = true → ∃ t, exec (.bobbinGet p b d) s = .next t ∧ t.bobQ = (s.popBob (unitCode p (16 + b)) d).bobQ ∧
      t.fab.nextDesc = s.fab.nextDesc + 1 ∧ t.mem = s.mem)) ∧
  (∀ p b d h m n s, s.bobGoes p b d n = true → bobForm 6 d = true → s.busy n (collId d) = false →
    ∃ t, exec (.bobbinColl p b d h m) s = .next t ∧ t.fab.nextDesc = s.fab.nextDesc + 1) ∧
  (∀ p b d n s, s.bobGoes p b d n = true → d.waitEn = false → d.sigEn = false → d.argsel = 0 →
    (bobForm 7 d = true → ∃ t, exec (.bobbinSync p b d) s = .next t ∧ t.bobQ = (s.popBob (unitCode p (16 + b)) d).bobQ ∧
      OnlyRegs [] { s with bobQ := t.bobQ, fab := { s.fab with nextDesc := s.fab.nextDesc + 1, descs := t.fab.descs } } t) ∧
    (bobForm 0 d = true → ∃ t, exec (.bobbinEnd p b d) s = .next t ∧ t.bobQ = (s.popBob (unitCode p (16 + b)) d).bobQ ∧
      OnlyRegs [] { s with bobQ := t.bobQ, fab := { s.fab with nextDesc := s.fab.nextDesc + 1, descs := t.fab.descs } } t)) ∧
  (∀ p b s r, s.fab.descs.find? (fun r => r.unit = unitCode p (16 + b.val) && r.status ≠ 0) = some r → r.left = 0 → r.desc.opc ≠ 6 →
    s.fab.descs.Pairwise (fun x y => x.id < y.id) → ∃ t, exec (.descriptorStatusEnd p b) s = .next t ∧ (∀ x ∈ t.fab.descs, x.id ≠ r.id) ∧
    t.store = s.store ∧ t.mem = s.mem) ∧
  (∀ p b d h m s, bobForm 1 d = false → exec (.bobbinMove p b d h m) s = .refused .illFormed)

/-- A ring is set up, its doorbell taken, its entries fetched, and its commands started. ETH_RING_PI_WRITE within the
ring's size sets PI; beyond it the index stays and OVERRUN is set. ETH_RING_CTL_WRITE enabling a ring of 2^6 to 2^16
entries whose two buffers lie in the partition's memory sets it up; another size sets CFGERR and leaves it disabled.
ETH_CQ_CI_WRITE sets the index and ends CQ_FULL when there is room. RING_FETCH on an enabled ring of a served
partition with a place and an entry due appends that entry in order. COMMAND_START takes the front entry when it may
start in order and the completion ring has room: the command is in flight, CI rises by one, memories are unchanged.
The write frames hold while no power-state change is under way. WDOG_EXPIRY with EN and the cores up takes them down,
and an enabled ring then waits for them and starts no command; MGMT_RESTART_DONE of cores not dead brings them back
and no ring waits; commands in flight stay. WDOG_KICK with EN clear notes the kick. It rests on R117, R118, R120
(04_patterns_and_jobs.md, Command rings); R128 (04_patterns_and_jobs.md, Ring registers). -/
def Obligations.RingDoorbellFetchAndStart : Prop :=
  (∀ i v s, s.psState ≤ psTrim → s.flag F.PWR_PS_STAT_PEND = false → countDiff v.toNat (s.ci i) ≤ s.ringSize i →
    ∃ t, exec (.ethRingPiWrite i v) s = .next t ∧ t.pi i = v.toNat ∧ OnlyRegs [.ETH_RING_PI] { s with rings := t.rings } t) ∧
  (∀ i v s, s.ringSize i < countDiff v.toNat (s.ci i) → ∃ t, exec (.ethRingPiWrite i v) s = .next t ∧ t.pi i = s.pi i ∧
    t.flag F.ETH_RING_STAT_OVERRUN i = true ∧ OnlyRegs [.ETH_RING_STAT] s t) ∧
  (∀ i w s, s.psState ≤ psTrim → s.flag F.PWR_PS_STAT_PEND = false → s.flag F.ETH_RING_CTL_EN i = false →
    fieldOf w F.ETH_RING_CTL_EN = 1 → 6 ≤ fieldOf w F.ETH_RING_CTL_LOG2SIZE → fieldOf w F.ETH_RING_CTL_LOG2SIZE ≤ 16 →
    s.inLocal (i / 4) (s.ringBase i) (2 ^ fieldOf w F.ETH_RING_CTL_LOG2SIZE * 64) = true →
    s.inLocal (i / 4) (s.cqBase i) (2 ^ fieldOf w F.ETH_RING_CTL_LOG2SIZE * 32) = true →
    ∃ t, exec (.ethRingCtlWrite i w) s = .next t ∧ t.flag F.ETH_RING_CTL_EN i = true ∧
    t.rd F.ETH_RING_CTL_LOG2SIZE i = fieldOf w F.ETH_RING_CTL_LOG2SIZE ∧ OnlyRegs [.ETH_RING_CTL] { s with rings := t.rings } t) ∧
  (∀ i w s, s.psState ≤ psTrim → s.flag F.PWR_PS_STAT_PEND = false → s.flag F.ETH_RING_CTL_EN i = false →
    fieldOf w F.ETH_RING_CTL_EN = 1 → (fieldOf w F.ETH_RING_CTL_LOG2SIZE < 6 ∨ 16 < fieldOf w F.ETH_RING_CTL_LOG2SIZE) →
    ∃ t, exec (.ethRingCtlWrite i w) s = .next t ∧ t.flag F.ETH_RING_CTL_EN i = false ∧ t.flag F.ETH_RING_STAT_CFGERR i = true ∧
    OnlyRegs [.ETH_RING_CTL, .ETH_RING_STAT] s t) ∧
  (∀ i w s, ∃ t, exec (.ethCqCiWrite i w) s = .next t ∧ t.reg .ETH_CQ_CI i = w ∧ OnlyRegs [.ETH_CQ_CI, .ETH_RING_STAT] s t ∧
    (countDiff (s.ci i) (fieldOf w F.ETH_CQ_CI_COUNT) < s.ringSize i → t.flag F.ETH_RING_STAT_CQ_FULL i = false)) ∧
  (∀ i h s, s.rings.length = 64 → s.flag F.ETH_RING_CTL_EN i = true → s.served (i / 4) = true → (s.ring i).buf.length < 64 →
    (s.ring i).buf.length < countDiff (s.pi i) (s.ci i) → ∃ t f, exec (.ringFetch i h) s = .next t ∧
    (t.ring i).buf = (s.ring i).buf ++ [f] ∧ f.seq = (s.ci i + (s.ring i).buf.length) % 2 ^ 32 ∧ t.mem = s.mem ∧ t.store = s.store) ∧
  (∀ i s f l, s.rings.length = 64 → (s.ring i).buf = f :: l → f.seq = s.ci i → s.mayStart i = true → s.served (i / 4) = true →
    countDiff (s.pi i) (s.ci i) ≠ 0 → s.orderOk i (if f.fail.isSome then 0 else byteAt f.entry 0) = true →
    countDiff (s.ci i) (s.rd F.ETH_CQ_CI_COUNT i) < s.ringSize i → ∃ t c, exec (.commandStart i) s = .next t ∧ t.cmds = s.cmds ++ [c] ∧
    c.ring = i.val ∧ c.seq = s.ci i ∧ c.entry = f.entry ∧ (t.ring i).buf = l ∧ t.ci i = (s.ci i + 1) % 2 ^ 32 ∧ t.mem = s.mem ∧
      t.store = s.store) ∧
  (∀ (i : Fin 64) s, s.flag F.CFG_WDOG_EN = true → s.mgmt.down = false → s.hmpUp = true → s.flag F.ETH_RING_CTL_EN i = true →
    ∃ t, exec .wdogExpiry s = .next t ∧
    t.mgmt.down = true ∧ t.flag F.ETH_RING_STAT_MGMT_WAIT i = true ∧ t.mayStart i = false ∧ t.cmds = s.cmds) ∧
  (∀ (i : Fin 64) s, s.mgmt.down = true → s.flag F.CFG_STAT_MGMT_DEAD = false → ∃ t, exec .mgmtRestartDone s = .next t ∧
    t.mgmt.down = false ∧
    t.flag F.ETH_RING_STAT_MGMT_WAIT i = false ∧ t.cmds = s.cmds ∧ t.rings = s.rings) ∧
  (∀ s, s.flag F.CFG_WDOG_EN = false → s.flag F.SEC_STATE_DEBUG = true → ∃ t, exec .wdogKick s = .next t ∧ t.flag F.CFG_WDOG_EN = false ∧
    t.mgmt.kickAt = some s.up ∧
    OnlyRegs [.CFG_WDOG] { s with mgmt := t.mgmt } t)

/-- NOP, FENCE, MARK, SIGNAL, RUN and JOB_CLOSE of a ring, and the completion record, complete with their effect. For a
started command of its code: CMD_NOP is ready; FENCE and MARK run on; SIGNAL with no RUN active is held for the next
one, else it adds to its global token, at most 65535; RUN of a pattern and entry that exist, with nothing held, sets
the run with its arguments; JOB_CLOSE puts the partition into ASSIGNED with no pattern and no loan. No memory changes.
COMMAND_COMPLETE of a finished command removes it, advances DONE by one modulo 2^32 and changes no cluster store. It
rests on R96 (04_patterns_and_jobs.md, Partitions); R102 (04_patterns_and_jobs.md, The pattern container); R114
(04_patterns_and_jobs.md, Token plan, placement and trailer); R119 (04_patterns_and_jobs.md, Command rings); R122,
R124 (04_patterns_and_jobs.md, Completion records). -/
def Obligations.RingCommandsAndCompletion : Prop :=
  (∀ i c s x, s.cmd i c.toNat = some x → x.opc = 0 → x.phase = .started → ∃ t, exec (.cmdNop i c) s = .next t ∧
    t.cmd i c.toNat = some { x with phase := .ready } ∧ t = { s with cmds := t.cmds }) ∧
  (∀ i c s x, s.cmd i c.toNat = some x → x.opc = 4 → x.phase = .started → ∃ t, exec (.fence i c) s = .next t ∧
    t.cmd i c.toNat = some { x with phase := .running } ∧ t = { s with cmds := t.cmds }) ∧
  (∀ i c s x, s.cmd i c.toNat = some x → x.opc = 6 → x.phase = .started → ∃ t, exec (.mark i c) s = .next t ∧
    t.cmd i c.toNat = some { x with phase := .running } ∧ t = { s with cmds := t.cmds }) ∧
  (∀ i c s x, s.cmd i c.toNat = some x → x.opc = 5 → x.phase = .started →
    (s.runActive (i / 4) = false → s.parts.length = 16 → ∃ t, exec (.signal i c) s = .next t ∧
      t.cmd i c.toNat = some { x with phase := .ready } ∧
      (t.part (i / 4)).held = (s.part (i / 4)).held ++ [(byteAt x.entry 8, byteAt x.entry 9)] ∧
        t = { s with cmds := t.cmds, parts := t.parts }) ∧
    (s.runActive (i / 4) = true → ∃ t, exec (.signal i c) s = .next t ∧
      t.tokCount (globalTok (i / 4) (byteAt x.entry 8)) = min (s.tokCount (globalTok (i / 4) (byteAt x.entry 8)) + byteAt x.entry 9) 65535)) ∧
  (∀ i c s x p, s.cmd i c.toNat = some x → x.opc = 3 → x.phase = .started → s.parts.length = 16 →
    (s.part (i / 4)).pats[byteAt x.entry 8]? = some p → byteAt x.entry 9 < p.entries → (s.part (i / 4)).held = [] →
    ∃ t, exec (.run i c) s = .next t ∧ t.cmd i c.toNat = some { x with phase := .running } ∧
    (t.part (i / 4)).run = some { pat := byteAt x.entry 8, entry := byteAt x.entry 9, args := (List.range 4).map fun k => leAt x.entry (16 + 8 * k) 8 } ∧
    t.runActive (i / 4) = true ∧ t.mem = s.mem ∧ t.store = s.store) ∧
  (∀ i c s x, s.cmd i c.toNat = some x → x.opc = 7 → x.phase = .started → s.parts.length = 16 → ∃ t, exec (.jobClose i c) s = .next t ∧
    t.pstate (i / 4) = 1 ∧ t.rd F.ETH_PART_STATE_NPAT (i / 4) = 0 ∧ (t.part (i / 4)).pats = [] ∧ (t.part (i / 4)).loans = [] ∧
    t.cmd i c.toNat = some { x with phase := .ready } ∧ t.mem = s.mem ∧ t.store = s.store) ∧
  (∀ i c s x, s.cmd i c.toNat = some x → s.finished x = true → ∃ t, exec (.commandComplete i c) s = .next t ∧ t.cmd i c.toNat = none ∧
    t.rd F.ETH_RING_DONE_COUNT i = (s.rd F.ETH_RING_DONE_COUNT i + 1) % 2 ^ 32 ∧ t.store = s.store)

/-- LOAD, JOB_OPEN, sealed ingest and a loan timeout complete with their effect. LOAD in clear with a legal length asks
the host for its bytes; one whose entry cannot be read is ready with status 0x13. INGEST_SEALED_RECORD: a record whose
tag fails ends the command with 0x14 and the record's number; one that opens, of legal length, is counted and passed.
JOB_OPEN asks the host for its bundle; with the bundle here and sound, signed, readable and placeable patterns open
the job with exactly them; a first image not signed ends it with 0x14 and origin 0. LOAN_TIMEOUT drops the request and
ends the command with 0x16. The sealed record's cipher is an opaque constant (log entry 10). It rests on R99
(04_patterns_and_jobs.md, Jobs); R101 (04_patterns_and_jobs.md, The pattern container); R121 (04_patterns_and_jobs.md,
Command rings); R153 (05_zynde_memory.md, Borrowed capacity); R253, R254 (09_tenancy_and_trust.md, Delivering keys). -/
def Obligations.LoadAndJobOpen : Prop :=
  (∀ i c s x o, s.cmd i c.toNat = some x → x.opc = 2 → x.phase = .started → readLoad x.entry = some o → o.slot = 0xFF →
    o.lenOk o.len = true →
    o.len ≠ 0 → s.qpState (s.rd F.ETH_RING_CTL_NQP i) = 1 → ∃ t, exec (.load i c) s = .next t ∧
    t.cmd i c.toNat = some { x with phase := .running } ∧
    (∃ r ∈ (t.qp (s.rd F.ETH_RING_CTL_NQP i)).out ++ (t.qp (s.rd F.ETH_RING_CTL_NQP i)).queued, r.cmd = some (i.val, x.seq) ∧
      r.read = some (leAt x.entry 8 8, leAt x.entry 16 4, o.len)) ∧ t.mem = s.mem ∧ t.store = s.store) ∧
  (∀ i c s x, s.cmd i c.toNat = some x → x.opc = 2 → x.phase = .started → readLoad x.entry = none → x.status = 0 →
    ∃ t y, exec (.load i c) s = .next t ∧ t.cmd i c.toNat = some y ∧ y.phase = .ready ∧ y.status = 0x13 ∧ t = { s with cmds := t.cmds }) ∧
  (∀ i c s x o k, s.cmd i c.toNat = some x → x.opc = 2 → x.phase = .running → x.status = 0 → readLoad x.entry = some o → x.key = some k →
    x.buf.length = o.len → 0 < x.recs → x.pos + 32 ≤ x.buf.length → ∃ t, exec (.ingestSealedRecord i c) s = .next t ∧
    (Config.gcmOpen k.key ((x.buf.drop x.pos).take 12) ((x.buf.drop x.pos).take 16) (sliceAt (x.buf.drop x.pos) 16 (leAt (x.buf.drop x.pos) 12 4))
      (sliceAt (x.buf.drop x.pos) (16 + leAt (x.buf.drop x.pos) 12 4) 16) = none →
      ∃ y, t.cmd i c.toNat = some y ∧ y.phase = .ready ∧ y.status = 0x14 ∧ y.origin = x.recs ∧ t.mem = s.mem) ∧
    (∀ plain, Config.gcmOpen k.key ((x.buf.drop x.pos).take 12) ((x.buf.drop x.pos).take 16) (sliceAt (x.buf.drop x.pos) 16 (leAt (x.buf.drop x.pos) 12 4))
      (sliceAt (x.buf.drop x.pos) (16 + leAt (x.buf.drop x.pos) 12 4) 16) = some plain → 1 ≤ leAt (x.buf.drop x.pos) 12 4 →
      leAt (x.buf.drop x.pos) 12 4 ≤ 65536 → x.pos + 32 + leAt (x.buf.drop x.pos) 12 4 ≤ x.buf.length →
      ∃ y, t.cmd i c.toNat = some y ∧ y.recs = x.recs + 1 ∧ y.pos = x.pos + 32 + leAt (x.buf.drop x.pos) 12 4)) ∧
  (∀ i c s x, s.cmd i c.toNat = some x → x.opc = 1 → x.phase = .started → s.pwr.routerBad = false → leAt x.entry 20 4 ≠ 0 →
    s.qpState (s.rd F.ETH_RING_CTL_NQP i) = 1 → ∃ t, exec (.jobOpen i c) s = .next t ∧
    t.cmd i c.toNat = some { x with phase := .running } ∧
    (∃ r ∈ (t.qp (s.rd F.ETH_RING_CTL_NQP i)).out ++ (t.qp (s.rd F.ETH_RING_CTL_NQP i)).queued, r.cmd = some (i.val, x.seq) ∧
      r.read = some (leAt x.entry 8 8, leAt x.entry 16 4, leAt x.entry 20 4)) ∧ t.mem = s.mem ∧ t.store = s.store) ∧
  (∀ i c s x, s.cmd i c.toNat = some x → x.opc = 1 → x.phase = .running → leAt x.entry 20 4 ≤ x.buf.length → jobRecordBad x.buf = none →
    byteAt x.buf 0x11 &&& s.conf.allow = byteAt x.buf 0x11 → byteAt x.buf 0x12 &&& s.conf.beacon = byteAt x.buf 0x12 →
    leAt x.buf 8 8 ≤ s.localSize (i / 4) → s.parts.length = 16 → x.status = 0 → ∃ t, exec (.jobOpen i c) s = .next t ∧
    ((∀ k < leAt x.buf 6 2, imageSigned s.conf.patKeys x.buf k = true) → (∀ q ∈ bundlePatterns x.buf, q.isSome = true) →
      (∀ q ∈ (bundlePatterns x.buf).filterMap id, placeBad (s.ranks (i / 4)).length q.place = none) →
      t.pstate (i / 4) = 2 ∧ (t.part (i / 4)).pats = (bundlePatterns x.buf).filterMap id ∧
        t.cmd i c.toNat = some { x with phase := .ready, buf := [] }) ∧
    (imageSigned s.conf.patKeys x.buf 0 = false → ∃ y, t.cmd i c.toNat = some y ∧ y.phase = .ready ∧ y.status = 0x14 ∧ y.origin = 0)) ∧
  (∀ i c s a x, s.askOf i c.toNat = some a → s.cmd i c.toNat = some x → x.status = 0 → x.phase = .running →
    ∃ t y, exec (.loanTimeout i c) s = .next t ∧
    t.askOf i c.toNat = (s.asks.erase a).find? (fun b => b.ring = i.val && b.seq = c.toNat) ∧ t.cmd i c.toNat = some y ∧ y.phase = .ready ∧
      y.status = 0x16 ∧
    t.mem = s.mem ∧ t.store = s.store)

/-- Stack lines are read and written, and a page is converted at its first write. STACK_READ of a stack that has not
failed and does not wait answers the 64 bytes held and their poison, and with check-code events of at most two symbols
the bytes as they stand after them, stacks and stores unchanged; 1 to 8 failed tries of its packet raise LINK and
change no more; a failed stack answers poison; a read of a page under conversion or a row being copied only joins what
waits for it. STACK_WRITE with a sound packet: the enabled bytes take the data, every other byte of every stack reads
as before; a poisoned write poisons the line alone; a write to a page that needs converting first starts a conversion
that holds the write; one that waits only joins what waits; one to a metadata frame or a failed stack changes nothing.
PAGE_CONVERSION_DONE of one of the first 4 conversions of its stack leaves a page that holds data, and with no access
waiting changes no data. It rests on R134 (05_zynde_memory.md, Where an address lands); R136, R139
(05_zynde_memory.md, Check codes, poison and repair); R140, R141, R142 (05_zynde_memory.md, Encryption and page
metadata). -/
def Obligations.StackLinesReadAndWritten : Prop :=
  (∀ k line s, s.rd F.MEM_STATE_STATE k ≠ stFailed → s.accessWaits k (line.toNat * 64) = false →
    exec (.stackRead k line 0 []) s = .next { s with
      out := s.out ++ [.stackLine k (line.toNat * 64) (s.memBytes k (line.toNat * 64) 64) (s.memLinePoison k (line.toNat * 64))] }) ∧
  (∀ k line h s, s.rd F.MEM_STATE_STATE k ≠ stFailed → s.accessWaits k (line.toNat * 64) = false → (∀ x ∈ h, x.symbols.val ≤ 2) →
    ∃ t, exec (.stackRead k line 0 h) s = .next t ∧ t.mem = s.mem ∧ t.store = s.store ∧
    t.out = s.out ++ [.stackLine k (line.toNat * 64) (t.memBytes k (line.toNat * 64) 64) (t.memLinePoison k (line.toNat * 64))]) ∧
  (∀ k line crc h s, s.rd F.MEM_STATE_STATE k = stFailed → exec (.stackRead k line crc h) s = .next { s with
      out := s.out ++ [.stackLine k (line.toNat * 64) (s.memBytes k (line.toNat * 64) 64) true] }) ∧
  (∀ k line crc s, s.rd F.MEM_STATE_STATE k ≠ stFailed → s.accessWaits k (line.toNat * 64) = false → 1 ≤ crc.val → crc.val ≤ 8 →
    ∃ t, exec (.stackRead k line crc []) s = .next t ∧
    t.flag F.MEM_CAUSE_LINK k = true ∧ OnlyLogs [.MEM_CAUSE] { s with
      out := s.out ++ [.stackLine k (line.toNat * 64) (s.memBytes k (line.toNat * 64) 64) (s.memLinePoison k (line.toNat * 64))] } t) ∧
  (∀ k line h s, s.accessWaits k (line.toNat * 64) = true → s.rd F.MEM_STATE_STATE k ≠ stFailed →
    ∃ t, exec (.stackRead k line 0 h) s = .next t ∧
    t = { s with convs := t.convs, rowCopies := t.rowCopies }) ∧
  (∀ k line d m s, s.rd F.MEM_STATE_STATE k ≠ stFailed → line.toNat / 1024 < metaFrame → s.accessWaits k (line.toNat * 64) = false →
    s.needsConv k (line.toNat * 64 / 65536) = false → s.memLinePoison k (line.toNat * 64) = false →
      ∃ t, exec (.stackWrite k line d m false 0) s = .next t ∧
    (∀ b < 64, t.memByte k (line.toNat * 64 + b) = if m.getLsbD b then BitVec.ofNat 8 (d.toNat / 256 ^ b) else s.memByte k (line.toNat * 64 + b)) ∧
    (∀ q : Fin 8, ∀ a < 2 ^ 37, (q ≠ k ∨ a / 64 ≠ line.toNat) → t.memByte q a = s.memByte q a) ∧
    t = { s with mem := t.mem, memPoison := t.memPoison }) ∧
  (∀ k line d m s, s.rd F.MEM_STATE_STATE k ≠ stFailed → line.toNat / 1024 < metaFrame → s.accessWaits k (line.toNat * 64) = false →
    s.needsConv k (line.toNat * 64 / 65536) = false → ∃ t, exec (.stackWrite k line d m true 0) s = .next t ∧
    t.memLinePoison k (line.toNat * 64) = true ∧ t = { s with memPoison := t.memPoison }) ∧
  (∀ k line d m p s, s.rd F.MEM_STATE_STATE k ≠ stFailed → line.toNat / 1024 < metaFrame → s.accessWaits k (line.toNat * 64) = false →
    s.needsConv k (line.toNat * 64 / 65536) = true →
    ∃ t c, exec (.stackWrite k line d m p 0) s = .next t ∧ t.convs = s.convs ++ [c] ∧ c.stack = k.val ∧ c.frame = line.toNat * 64 / 65536 ∧
    c.ops.length = 1 ∧ t = { s with convs := t.convs }) ∧
  (∀ k line d m p s, s.rd F.MEM_STATE_STATE k ≠ stFailed → s.accessWaits k (line.toNat * 64) = true →
    ∃ t, exec (.stackWrite k line d m p 0) s = .next t ∧
    t = { s with convs := t.convs, rowCopies := t.rowCopies }) ∧
  (∀ k line d m p s, (metaFrame ≤ line.toNat / 1024 ∨ s.rd F.MEM_STATE_STATE k = stFailed) →
    exec (.stackWrite k line d m p 0) s = .next s) ∧
  (∀ k f s c, ((s.convs.filter fun c => c.stack = k.val).take 4).find? (fun c => c.frame = f.toNat) = some c →
    ∃ t, exec (.pageConversionDone k f) s = .next t ∧
    (t.page k f.toNat).data = true ∧ t.convs = s.convs.erase c ∧ t.store = s.store ∧ (c.ops = [] → t.mem = s.mem))

/-- Stack patrol, row sparing, training and key rotation complete with their effect. MEM_PATROL_SCRUB of a ready stack,
with events of at most two symbols, moves on by one of 1207959552 lines. ROW_SPARE_DONE of a row no access waits for
uses one spare of its bank (not its last) and raises SPARED. STACK_TRAINING_DONE of a stack with fewer than 16 banks
spent: a pass makes the stack ready and all its bytes read zero, the others unchanged; a failure makes it FAILED.
ROTATION_REQ of a partition that serves sets REQ. ROTATION_KEY_LOADED moves the write generation on modulo 4, keeps
the old one in OLDGEN and clears REQ. SWEEP_CONVERSION of a ready stack, with events of at most two symbols, rewrites
the next old page under the write generation. No data changes but where a clause says so. It rests on R137, R138
(05_zynde_memory.md, Check codes, poison and repair); R143, R144 (05_zynde_memory.md, Key rotation); R156
(05_zynde_memory.md, Start-up and power states). -/
def Obligations.StackScrubSparingAndRotation : Prop :=
  (∀ k h s, s.flag F.MEM_SCRUB_CTL_EN k = true → s.rd F.MEM_STATE_STATE k = stReady → (∀ x ∈ h, x.symbols.val ≤ 2) →
    ∃ t, exec (.memPatrolScrub k h) s = .next t ∧
    Assoc.get 0 t.memPatrol k = (Assoc.get 0 s.memPatrol k + 1) % 1207959552 ∧ t.mem = s.mem ∧ t.store = s.store) ∧
  (∀ k b s c, s.rowCopies.find? (fun c => c.stack = k.val ∧ c.bank = b.val) = some c → c.ops = [] →
    Assoc.get 0 s.spares (k.val * 512 + b.val) ≠ 63 → ∃ t, exec (.rowSpareDone k b) s = .next t ∧
    t.rowCopies = s.rowCopies.erase c ∧ Assoc.get 0 t.spares (k.val * 512 + b.val) = Assoc.get 0 s.spares (k.val * 512 + b.val) + 1 ∧
    t.flag F.MEM_CAUSE_SPARED k = true ∧ t.mem = s.mem ∧ t.store = s.store) ∧
  (∀ k s, s.rd F.MEM_STATE_STATE k = 1 → s.spentBanks k.val < 16 → (∃ t, exec (.stackTrainingDone k true) s = .next t ∧
    t.rd F.MEM_STATE_STATE k = stReady ∧
      (∀ a < 2 ^ 37, t.memByte k a = 0) ∧ (∀ q : Fin 8, q ≠ k → ∀ a < 2 ^ 37, t.memByte q a = s.memByte q a) ∧ t.store = s.store) ∧
    ∃ t, exec (.stackTrainingDone k false) s = .next t ∧ t.rd F.MEM_STATE_STATE k = stFailed ∧ OnlyRegs [.MEM_STATE] s t) ∧
  (∀ n s, s.pstate n.val ≠ 0 → s.pstate n.val ≠ 4 → ∃ t, exec (.rotationReq n) s = .next t ∧ t.flag F.MEM_ROT_CTL_REQ n = true ∧
    OnlyRegs [.MEM_ROT_CTL] s t) ∧
  (∀ n s, s.flag F.MEM_ROT_CTL_REQ n = true → s.flag F.MEM_ROT_CTL_ACTIVE n = false → s.stackSet n ≠ [] → (s.part n).rotOff = false →
    ∃ t, exec (.rotationKeyLoaded n) s = .next t ∧ t.rd F.MEM_ROT_CTL_WGEN n = (s.rd F.MEM_ROT_CTL_WGEN n + 1) % 4 ∧
    t.rd F.MEM_ROT_CTL_OLDGEN n = s.rd F.MEM_ROT_CTL_WGEN n ∧ t.flag F.MEM_ROT_CTL_REQ n = false ∧ t.mem = s.mem ∧ t.store = s.store) ∧
  (∀ k n h s f, s.rd F.MEM_STATE_STATE k = stReady → (s.part n).rotOff = false → s.nextOld k n = some f → f < 2 ^ 21 →
    s.convs.find? (fun c => c.stack = k.val && c.frame = f) = none → (∀ x ∈ h, x.symbols.val ≤ 2) →
      ∃ t, exec (.sweepConversion k n h) s = .next t ∧
    (t.page k f).data = true ∧ (t.page k f).gen = s.writeGen k f ∧ t.mem = s.mem ∧ t.store = s.store)

/-- HELLO, training, retraining, round trips and port set-up of a seam complete with their effect. HELLO in training and
in sequence records the peer's module, port and link; the module's own number raises DUPID. LINK_TRAINING_DONE without
a HELLO takes the link down, doubles its retry interval to at most 10 s and raises TRAIN_FAIL; with a HELLO of the
same width and a passing lane the link carries, has its round trip, the peer's buffers as credits, and LINK_UP is
raised; of a keep-alive or miswired link it ends the keep-alive and makes the passing lanes under test ACTIVE.
LINK_RETRAIN_TIMER of a link that is down and used, with the seams on or after a fault, starts training. RTT_MEASURE
writes the round trip, at most 0xFFFF. RETRAIN of a link of an enabled port starts its training and shows in RETRAIN.
FAB_PORT_CFG_WRITE enabling a port with the seams on sets mode and enable and starts training of the mode's links.
Memories are unchanged. It rests on R165 (06_seams.md, Flits); R168 (06_seams.md, Replay); R174 (06_seams.md, Losing
lanes); R176 (06_seams.md, When a seam goes down); R177, R178 (06_seams.md, Training, keep-alive and waking); R180
(06_seams.md, Port, link and lane registers). -/
def Obligations.SeamLinksTrainAndComeUp : Prop :=
  (∀ j q h s, s.lkState j = lkTraining → q.toNat = (s.link j).rxAck → ∃ t, exec (.hello j q h) s = .next t ∧
    t.flag F.FAB_LINK_PEER_VALID j = true ∧
    t.rd F.FAB_LINK_PEER_MODULE j = h.module.toNat ∧ t.rd F.FAB_LINK_PEER_PORT j = h.port.toNat ∧
      t.rd F.FAB_LINK_PEER_LINK j = h.link.toNat ∧
    (h.module.toNat = s.myId → t.fab.dupId = true ∧ t.flag F.FAB_TR_CAUSE_DUPID = true) ∧
    OnlyLogs [.FAB_LINK_PEER, .FAB_TR_CAUSE] { s with fab := t.fab } t) ∧
  (∀ j lanes rtt s, s.lkState j = lkTraining → s.flag F.FAB_LINK_PEER_VALID j = false →
    ∃ t, exec (.linkTrainingDone j lanes rtt) s = .next t ∧
    t.lkState j = lkDown ∧ (t.link j).interval = min 10000 (2 * (s.link j).interval) ∧
      t.flag F.FAB_PORT_CAUSE_TRAIN_FAIL (j.val / 8) = true ∧
    t.mem = s.mem ∧ t.store = s.store) ∧
  (∀ j lanes rtt s, s.lkState j = lkTraining → s.flag F.FAB_LINK_PEER_VALID j = true → (s.link j).peerWidth = modeWidth (s.mode j) →
    (s.link j).expect = none →
      ((linkLanes (s.mode j) (j.val % 8)).filter fun l => lanes.getLsbD l && s.rd F.FAB_LANE_STAT_STATE (8 * (j.val / 8) + l) = 1) ≠ [] →
    ∃ t, exec (.linkTrainingDone j lanes rtt) s = .next t ∧ t.lkCarries j = true ∧ t.rd F.FAB_LINK_STAT_RTT j = rtt.toNat ∧
    (t.link j).credits = (s.link j).peerBuf ∧ t.flag F.FAB_PORT_CAUSE_LINK_UP (j.val / 8) = true ∧ t.mem = s.mem ∧ t.store = s.store) ∧
  (∀ j lanes rtt s, (s.lkState j = lkKeep ∨ s.lkState j = lkMiswired) →
    ((linkLanes (s.mode j) (j.val % 8)).filter fun l => lanes.getLsbD l && s.rd F.FAB_LANE_STAT_STATE (8 * (j.val / 8) + l) = 1) ≠ [] →
    ∃ t, exec (.linkTrainingDone j lanes rtt) s = .next t ∧ t.lkState j ≠ lkKeep ∧
    (∀ l ∈ linkLanes (s.mode j) (j.val % 8), lanes.getLsbD l = true → s.rd F.FAB_LANE_STAT_STATE (8 * (j.val / 8) + l) = 1 →
      t.rd F.FAB_LANE_STAT_STATE (8 * (j.val / 8) + l) = 2) ∧ t.mem = s.mem ∧ t.store = s.store) ∧
  (∀ j s, s.boot.trained = true → (s.seamsOn = true ∨ (s.link j).faulted = true) → s.lkState j = lkDown →
    s.flag F.FAB_PORT_CFG_EN (j.val / 8) = true → (portLinks (s.mode j)).elem (j.val % 8) = true →
    ∃ t, exec (.linkRetrainTimer j) s = .next t ∧ t.lkState j = lkTraining ∧ t.flag F.FAB_LINK_PEER_VALID j = false ∧
    SameRegs [.FAB_LANE_STAT, .FAB_LINK_STAT, .FAB_LINK_PEER] s t ∧ t.mem = s.mem ∧ t.store = s.store) ∧
  (∀ j ns s, s.lkCarries j = true → ∃ t, exec (.rttMeasure j ns) s = .next t ∧ t.rd F.FAB_LINK_STAT_RTT j = min ns 0xFFFF ∧
    OnlyRegs [.FAB_LINK_STAT] s t) ∧
  (∀ p m s k, s.flag F.FAB_PORT_CFG_EN p = true → k ∈ portLinks (s.rd F.FAB_PORT_CFG_MODE p) → m.getLsbD k = true →
    ∃ t, exec (.retrain p m) s = .next t ∧ t.lkState (8 * p.val + k) = lkTraining ∧ (t.rd F.FAB_PORT_CMD_RETRAIN p).testBit k = true ∧
    t.mem = s.mem ∧ t.store = s.store) ∧
  (∀ p w s, s.flag F.FAB_PORT_CFG_EN p = false → fieldOf w F.FAB_PORT_CFG_EN = 1 → s.seamsOn = true →
    ∃ t, exec (.fabPortCfgWrite p w) s = .next t ∧
    t.flag F.FAB_PORT_CFG_EN p = true ∧ t.rd F.FAB_PORT_CFG_MODE p = fieldOf w F.FAB_PORT_CFG_MODE ∧
    (∀ k ∈ portLinks (fieldOf w F.FAB_PORT_CFG_MODE), t.lkState (8 * p.val + k) = lkTraining) ∧ t.mem = s.mem ∧ t.store = s.store)

/-- Lane faults, drops, additions, narrowing, link loss and cable events complete with their effect. On a link that runs
(it carries, or is MISWIRED), for the control flit next in sequence: LANE_DROP and LANE_ADD note their lanes for the
REMAP that follows and count the flit; REMAP deactivates the lanes to be dropped, makes DROPPED lanes to be added
ACTIVE with LANE_ADD raised, and with none noted makes its lanes under test ACTIVE, clearing the NAK count; NARROW
takes a link other than link 0 of its port down; WIDEN on a keep-alive link starts training of the port's other links
that are down; DOWN takes the link down. One out of sequence is not taken: LANE_DROP, LANE_ADD, REMAP, NARROW, WIDEN
and DOWN then all make one same change, of the link's own bookkeeping alone. LINK_SILENCE_TIMEOUT and a LANE_FAULT of
all active lanes take the link down. LANE_READD_RETRY tests a dropped lane again, at most three times;
LANE_READD_TEST_DONE activates it or, after the third failure, makes it FAILED. CABLE_PRESENT records presence and
supply; CABLE_OVERCURRENT cuts the supply and no link of the port carries. Memories are unchanged. It rests on R165
(06_seams.md, Flits); R171, R172, R174 (06_seams.md, Losing lanes); R175 (06_seams.md, When a seam goes down); R178
(06_seams.md, Training, keep-alive and waking); R510 (21_connectors_electrical_mechanical.md, Seam connectors). -/
def Obligations.SeamLinksLoseLanesAndGoDown : Prop :=
  (∀ j q mask planned s, s.lkRuns j = true → q.toNat = (s.link j).rxAck → ∃ t, exec (.laneDrop j q mask planned) s = .next t ∧
    (t.link j).dropDue = (s.link j).dropDue ||| mask.toNat ∧ (t.link j).dropPlan = planned ∧
      (t.link j).rxAck = ((s.link j).rxAck + 1) % 256 ∧
    (∀ i ≠ j.val, t.link i = s.link i) ∧ t = { s with fab := { s.fab with links := t.fab.links } }) ∧
  (∀ j q mask s, s.lkRuns j = true → q.toNat = (s.link j).rxAck → ∃ t, exec (.laneAdd j q mask) s = .next t ∧
    (t.link j).addDue = (s.link j).addDue ||| mask.toNat ∧ (t.link j).rxAck = ((s.link j).rxAck + 1) % 256 ∧
    (∀ i ≠ j.val, t.link i = s.link i) ∧ t = { s with fab := { s.fab with links := t.fab.links } }) ∧
  (∀ j q mask b s, s.lkRuns j = true → q.toNat ≠ (s.link j).rxAck → ∃ t, exec (.laneDrop j q mask b) s = .next t ∧
    exec (.laneAdd j q mask) s = .next t ∧
    exec (.remap j q mask) s = .next t ∧ exec (.narrow j q) s = .next t ∧ exec (.widen j q) s = .next t ∧ exec (.down j q b) s = .next t ∧
    (t.link j).rxAck = (s.link j).rxAck ∧ t = { s with fab := { s.fab with links := t.fab.links } }) ∧
  (∀ j q mask s x, s.lkRuns j = true → q.toNat = (s.link j).rxAck → x ∈ linkLanes (s.mode j) (j.val % 8) →
    (s.link j).dropDue.testBit x = true → s.laneOn (8 * (j.val / 8) + x) = true →
    ∃ t, exec (.remap j q mask) s = .next t ∧ t.laneOn (8 * (j.val / 8) + x) = false ∧ t.mem = s.mem ∧ t.store = s.store) ∧
  (∀ j q mask s x, s.lkRuns j = true → q.toNat = (s.link j).rxAck → (s.link j).dropDue = 0 → x ∈ linkLanes (s.mode j) (j.val % 8) →
    (s.link j).addDue.testBit x = true →
    s.rd F.FAB_LANE_STAT_STATE (8 * (j.val / 8) + x) = 4 → ∃ t, exec (.remap j q mask) s = .next t ∧ (t.link j).nakCount = 0 ∧
    t.rd F.FAB_LANE_STAT_STATE (8 * (j.val / 8) + x) = 2 ∧ t.flag F.FAB_PORT_CAUSE_LANE_ADD (j.val / 8) = true ∧ t.mem = s.mem ∧
      t.store = s.store) ∧
  (∀ j q mask s, s.lkRuns j = true → q.toNat = (s.link j).rxAck → (s.link j).dropDue = 0 → (s.link j).addDue = 0 →
    ∃ t, exec (.remap j q mask) s = .next t ∧ (t.link j).nakCount = 0 ∧
    (∀ l ∈ linkLanes (s.mode j) (j.val % 8), mask.getLsbD l = true → s.rd F.FAB_LANE_STAT_STATE (8 * (j.val / 8) + l) = 1 →
      t.rd F.FAB_LANE_STAT_STATE (8 * (j.val / 8) + l) = 2) ∧ t.mem = s.mem ∧ t.store = s.store) ∧
  (∀ j q s, s.lkRuns j = true → q.toNat = (s.link j).rxAck → j.val % 8 ≠ 0 → ∃ t, exec (.narrow j q) s = .next t ∧ t.lkState j = lkDown ∧
    t.mem = s.mem ∧ t.store = s.store) ∧
  (∀ j q s, s.lkState j = lkKeep → q.toNat = (s.link j).rxAck → ∃ t, exec (.widen j q) s = .next t ∧
    (∀ k ∈ portLinks (s.rd F.FAB_PORT_CFG_MODE (j.val / 8)), k ≠ 0 →
      s.lkState (8 * (j.val / 8) + k) = lkDown → t.lkState (8 * (j.val / 8) + k) = lkTraining) ∧ t.mem = s.mem ∧ t.store = s.store) ∧
  (∀ j q b s, s.lkRuns j = true → q.toNat = (s.link j).rxAck → ∃ t, exec (.down j q b) s = .next t ∧ t.lkState j = lkDown ∧
    t.flag F.FAB_PORT_CAUSE_LINK_DOWN (j.val / 8) = true ∧ t.mem = s.mem ∧ t.store = s.store) ∧
  (∀ j s, s.lkRuns j = true → ∃ t, exec (.linkSilenceTimeout j) s = .next t ∧ t.lkState j = lkDown ∧
    t.flag F.FAB_PORT_CAUSE_LINK_DOWN (j.val / 8) = true ∧ t.mem = s.mem ∧ t.store = s.store) ∧
  (∀ j mask s, s.lkRuns j = true → s.lkState j ≠ lkKeep → s.activeLanes j ≠ [] →
    (∀ l ∈ s.activeLanes j, s.rd F.FAB_LANE_STAT_STATE l = 2) →
    ((lanesOf mask).filter fun l => (s.activeLanes j).elem (8 * (j.val / 8) + l)).length = (s.activeLanes j).length →
    ∃ t, exec (.laneFault j mask) s = .next t ∧ t.lkState j = lkDown ∧ t.mem = s.mem ∧ t.store = s.store) ∧
  (∀ l s, s.flag F.FAB_PORT_CFG_AUTOREADD (l / 8) = true → s.rd F.FAB_LANE_STAT_STATE l = 4 → s.rd F.FAB_LANE_STAT_TRIES l < 3 →
    s.lkCarries (s.linkOfLane (l.val / 8) (l.val % 8)) = true → s.lkState (s.linkOfLane (l.val / 8) (l.val % 8)) ≠ lkKeep →
    ∃ t, exec (.laneReaddRetry l) s = .next t ∧ t.rd F.FAB_LANE_STAT_STATE l = 1 ∧
    t.rd F.FAB_LANE_STAT_TRIES l = s.rd F.FAB_LANE_STAT_TRIES l + 1 ∧ OnlyRegs [.FAB_LANE_STAT] s t) ∧
  (∀ l s, s.rd F.FAB_LANE_STAT_STATE l = 1 → s.lkCarries (s.linkOfLane (l.val / 8) (l.val % 8)) = true →
    (∃ t, exec (.laneReaddTestDone l true) s = .next t ∧ t.rd F.FAB_LANE_STAT_STATE l = 2 ∧
      t.flag F.FAB_PORT_CAUSE_LANE_ADD (s.linkOfLane (l.val / 8) (l.val % 8) / 8) = true) ∧
    ∃ t, exec (.laneReaddTestDone l false) s = .next t ∧
      t.rd F.FAB_LANE_STAT_STATE l = (if 3 ≤ s.rd F.FAB_LANE_STAT_TRIES l then 5 else 4) ∧
      OnlyRegs [.FAB_LANE_STAT] s t) ∧
  (∀ p b s, (s.cable p).1 ≠ b → ∃ t, exec (.cablePresent p b) s = .next t ∧ t.cable p = (b, b) ∧
    t = { s with fab := { s.fab with cables := t.fab.cables } }) ∧
  (∀ p s, (s.cable p).2 = true → ∃ t, exec (.cableOvercurrent p) s = .next t ∧ t.cable p = (true, false) ∧
    (∀ k < 8, t.lkCarries (8 * p.val + k) = false) ∧ t.mem = s.mem ∧ t.store = s.store)

/-- Flits are sent with the acknowledgement due, and received flits are taken, refused or replayed. FLIT_TRANSMIT of a
link that runs or trains puts out one flit that carries the received count and the NAK due, and touches no other link.
On a carrying link with no replay, with 2047 slots since the last idle flit or 64 flits unacknowledged it is an idle
flit; else a waiting control message goes first, with the next sequence number, into the replay buffer. FLIT_RECEIVE:
on a MISWIRED link a good flit without NAK is not counted; on a carrying link a bad flit makes a NAK due and is not
counted; the next DATA flit in sequence that ends no packet is counted and nothing else changes; one that is a whole
packet puts it last in the inbox; one out of sequence beyond the window is not counted and delivers nothing. It rests
on R162 (06_seams.md, Ports, links and lanes); R164, R166 (06_seams.md, Flits); R167 (06_seams.md, Replay); R169
(06_seams.md, Virtual channels and credits). -/
def Obligations.FlitSlotsAndFlitsReceived : Prop :=
  (∀ j s, (s.lkRuns j = true ∨ s.lkState j = lkTraining) → ∃ t f, exec (.flitTransmit j) s = .next t ∧ t.out = s.out ++ [.flit j f] ∧
    f.ack = BitVec.ofNat 8 (s.link j).rxAck ∧ f.nak = (s.link j).nakDue ∧ (t.link j).nakDue = false ∧
    (∀ i ≠ j.val, t.link i = s.link i) ∧ t = { s with out := t.out, fab := { s.fab with links := t.fab.links } }) ∧
  (∀ j s, s.lkCarries j = true → (s.link j).replayPos = none → (2047 ≤ (s.link j).slots ∨ 64 ≤ (s.link j).replay.length) →
    ∃ t f, exec (.flitTransmit j) s = .next t ∧ t.out = s.out ++ [.flit j f] ∧ f.typ = 0 ∧ (t.link j).txSeq = (s.link j).txSeq ∧
    (t.link j).replay = (s.link j).replay ∧ (t.link j).slots = 0) ∧
  (∀ j s m l, s.lkCarries j = true → (s.link j).replayPos = none → (s.link j).slots < 2047 → (s.link j).replay.length < 64 →
    (s.link j).ctrl = m :: l → ∃ t f, exec (.flitTransmit j) s = .next t ∧ t.out = s.out ++ [.flit j f] ∧ f.typ = 2 ∧ f.ctrl = some m ∧
    f.seq = BitVec.ofNat 8 (s.link j).txSeq ∧ (t.link j).ctrl = l ∧ (t.link j).txSeq = ((s.link j).txSeq + 1) % 256 ∧
    (t.link j).replay.length = (s.link j).replay.length + 1) ∧
  (∀ j f copy s, s.lkState j = lkMiswired → flitOk f = true → f.nak = false → ∃ t, exec (.flitReceive j f true copy []) s = .next t ∧
    (t.link j).rxAck = (s.link j).rxAck ∧ t = { s with fab := { s.fab with links := t.fab.links } }) ∧
  (∀ j f copy s, s.lkCarries j = true → (s.link j).nakSent = false → ∃ t, exec (.flitReceive j f false copy []) s = .next t ∧
    (t.link j).nakDue = true ∧ (t.link j).nakSent = true ∧ (t.link j).rxAck = (s.link j).rxAck ∧ (∀ i ≠ j.val, t.link i = s.link i) ∧
    t = { s with fab := { s.fab with links := t.fab.links } }) ∧
  (∀ j f copy s, s.lkCarries j = true → flitOk f = true → f.typ = 1 → f.nak = false → f.eop = false → s.psState ≠ psFreewheel →
    f.seq.toNat = (s.link j).rxAck → ∃ t, exec (.flitReceive j f true copy []) s = .next t ∧
    (t.link j).rxAck = ((s.link j).rxAck + 1) % 256 ∧ (t.link j).nakSent = false ∧ t.fab.inbox = s.fab.inbox ∧
    (∀ i ≠ j.val, t.link i = s.link i) ∧ t = { s with fab := { s.fab with links := t.fab.links } }) ∧
  (∀ j f copy s p, s.lkCarries j = true → flitOk f = true → f.typ = 1 → f.nak = false → f.sop = true → f.eop = true →
    s.psState ≠ psFreewheel → f.seq.toNat = (s.link j).rxAck → readPacket f.payload = some p →
    ∃ t, exec (.flitReceive j f true copy []) s = .next t ∧ t.fab.inbox = s.fab.inbox ++ [(j.val, p)] ∧ t.regs = s.regs) ∧
  (∀ j f copy s, s.lkCarries j = true → flitOk f = true → f.typ = 1 → f.nak = false → s.psState ≠ psFreewheel →
    f.seq.toNat ≠ (s.link j).rxAck → 64 ≤ seqDist (s.link j).rxAck f.seq.toNat → ∃ t, exec (.flitReceive j f true copy []) s = .next t ∧
    (t.link j).rxAck = (s.link j).rxAck ∧ t.fab.inbox = s.fab.inbox ∧ t.regs = s.regs)

/-- Packets are delivered, answered, acknowledged, refused, forwarded, and sent again until acknowledged. PUT to a store
writes its line there and no other byte of a store or stack; one refused at its target writes nothing. GET_REQ sends
the bytes read with the same tag. GET_RESP takes its request from the list. ACK removes the copies up to its PSN.
REFUSE removes the copy, and where it came from a descriptor records status 0x24 and the target. PACKET_FORWARD moves
the packet to the queue of the next link, or discards it with HOP_DROP when its hops are used up. ACK_TIMER leaves no
flow with an acknowledgement due. E2E_TIMEOUT sends a copy again, eight times at most, and then gives it up. Premises
fix that no other traffic of the flow waits. It rests on R183 (07_fabric_transport.md, Modules, pelotons and what
crosses them); R186 (07_fabric_transport.md, Packets); R187, R188 (07_fabric_transport.md, Paths); R193, R194, R196,
R197, R198 (07_fabric_transport.md, Flows and acknowledgement). -/
def Obligations.PacketsDeliveredForwardedAndKept : Prop :=
  (∀ j p s q a, s.mine p 0x01 = true → s.nextIn p = true → p.retx = false → p.data.length = 64 → p.pmask = 0 → a % 64 = 0 →
    a + 64 ≤ patTop →
    s.aim p 64 false = .store q a → ∃ t, exec (.put j p) s = .next t ∧ (∀ i < 64, t.storeByte q (a + i) = p.data.getD i 0) ∧
    (∀ r b, (r ≠ q ∨ b < a ∨ a + 64 ≤ b) → r < 68 → q < 68 → b < 2 ^ 26 → t.storeByte r b = s.storeByte r b) ∧ t.mem = s.mem) ∧
  (∀ j p s tg, s.mine p 0x01 = true → s.nextIn p = true → p.retx = false → s.aim p p.data.length false = .refused tg →
    ∃ t, exec (.put j p) s = .next t ∧ t.mem = s.mem ∧ t.store = s.store) ∧
  (∀ j p s q a, s.mine p 0x02 = true → s.nextIn p = true → p.retx = false → s.aim p (64 * (p.lines.toNat % 8)) true = .store q a →
    s.full p.srcMod.toNat 1 = true → ∃ t r, exec (.getReq j p []) s = .next t ∧ Waits p.srcMod.toNat 1 s t r ∧ r.typ = 3 ∧ r.tag = p.tag ∧
    r.data = s.storeRead q a (64 * (p.lines.toNat % 8)) ∧ t.mem = s.mem ∧ t.store = s.store) ∧
  (∀ j p s g, s.mine p 0x03 = true → s.nextIn p = true → s.fab.colls = [] → s.fab.descs = [] →
    s.fab.gets.find? (fun g => g.tag = p.tag.toNat) = some g →
    ∃ t, exec (.getResp j p) s = .next t ∧ t.fab.gets = s.fab.gets.erase g) ∧
  (∀ j p s, s.mine p 0x04 = true → s.oldEpoch p = false → s.carriesIn p = true → s.fab.colls = [] →
    (s.txFlow (flowKey p.srcMod.toNat (p.tag.toNat % 4))).waiting = [] →
    ∃ t, exec (.ack j p) s = .next t ∧ (t.txFlow (flowKey p.srcMod.toNat (p.tag.toNat % 4))).unacked =
      (s.txFlow (flowKey p.srcMod.toNat (p.tag.toNat % 4))).unacked.filter fun u => 32768 ≤ (p.psn.toNat + 65536 - u.pkt.psn.toNat) % 65536) ∧
  (∀ j p s u, s.mine p 0x05 = true → s.oldEpoch p = false → s.carriesIn p = true → s.fab.colls = [] →
    (s.txFlow (flowKey p.srcMod.toNat p.cls.toNat)).waiting = [] →
    (s.txFlow (flowKey p.srcMod.toNat p.cls.toNat)).unacked.find? (fun u => u.pkt.psn = p.psn) = some u → u.desc = none →
    ∃ t, exec (.refuse j p) s = .next t ∧ (t.txFlow (flowKey p.srcMod.toNat p.cls.toNat)).unacked =
      (s.txFlow (flowKey p.srcMod.toNat p.cls.toNat)).unacked.erase u ∧ t.mem = s.mem ∧ t.store = s.store ∧ t.regs = s.regs) ∧
  (∀ j p s u d, s.mine p 0x05 = true → s.oldEpoch p = false → s.carriesIn p = true → s.fab.colls = [] → (∀ e ∈ s.fab.tx, e.2.waiting = []) →
    (s.txFlow (flowKey p.srcMod.toNat p.cls.toNat)).unacked.find? (fun u => u.pkt.psn = p.psn) = some u → u.desc = some d.id →
    s.fab.descs = [d] → d.status = 0 → 2 ≤ d.left →
    ∃ t, exec (.refuse j p) s = .next t ∧ t.fab.descs = [{ d with status := 0x24, origin := p.tag.toNat, left := d.left - 1 }]) ∧
  (∀ j p s i r, p.dstMod.toNat ≠ s.myId → s.oldEpoch p = false → (p.cls = 3 ∨ s.fab.dupId = false) → 2 ≤ p.hops.toNat →
    s.hopPath { p with hops := BitVec.ofNat 6 (p.hops.toNat - 1) } = some (i, r) → i < 144 → (s.link i).vcq.length = 4 →
    ∃ t, exec (.packetForward j p) s = .next t ∧ t.fab.inbox = s.fab.inbox.erase (j.val, p) ∧
      (t.link i).queued = (s.link i).queued + p.flits ∧
    (∀ k, k ≠ i → k ≠ j.val → t.link k = s.link k) ∧ t = { s with fab := { s.fab with inbox := t.fab.inbox, links := t.fab.links } }) ∧
  (∀ j p s, p.dstMod.toNat ≠ s.myId → s.oldEpoch p = false → (p.cls = 3 ∨ s.fab.dupId = false) → p.hops.toNat ≤ 1 →
    ∃ t, exec (.packetForward j p) s = .next t ∧ t.fab.inbox = s.fab.inbox.erase (j.val, p) ∧ t.flag F.FAB_TR_CAUSE_HOP_DROP = true ∧
    OnlyLogs [.FAB_TR_DROP_CNT, .FAB_TR_CAUSE] { s with fab := t.fab } t) ∧
  (∀ s, s.fab.rx.Pairwise (fun x y => x.1 < y.1) → ∃ t, exec .ackTimer s = .next t ∧ (∀ k, (t.rxFlow k).since = 0 ∧
    (t.rxFlow k).next = (s.rxFlow k).next) ∧ t.regs = s.regs ∧ t.mem = s.mem ∧ t.store = s.store) ∧
  (∀ m c n s u, (s.txFlow (flowKey m.toNat c.toNat)).unacked.find? (fun u => u.pkt.psn = n) = some u → u.tries < 8 →
    s.carries c.toNat = true →
    (s.sourcePath { u.pkt with retx := true, epoch := decide (s.liveBank = 1), hops := 63, route := 0 } s.liveBank).isSome = true →
      ∃ t, exec (.e2eTimeout m c n) s = .next t ∧ (∃ x ∈ (t.txFlow (flowKey m.toNat c.toNat)).unacked, x.pkt = u.pkt ∧
      x.tries = u.tries + 1 ∧ x.at_ = s.up) ∧
    OnlyRegs [.FAB_TR_RETX_CNT] { s with fab := t.fab } t) ∧
  (∀ m c n s u, (s.txFlow (flowKey m.toNat c.toNat)).unacked.find? (fun u => u.pkt.psn = n) = some u → 8 ≤ u.tries → u.desc = none →
    (s.txFlow (flowKey m.toNat c.toNat)).waiting = [] → ∃ t, exec (.e2eTimeout m c n) s = .next t ∧
    (t.txFlow (flowKey m.toNat c.toNat)).unacked = (s.txFlow (flowKey m.toNat c.toNat)).unacked.erase u ∧ t.regs = s.regs ∧ t.mem = s.mem ∧
      t.store = s.store)

/-- The messages of a collective bring it to READY, COMMIT, ABORT and its end. For a message from the participant its rank
names, which the partition admits, of a collective it finds, and next in its flow: COLL_DATA of an all-to-all adds its
lines to the rows received of its rank; ARRIVE at the coordinator adds the rank to those seen; the last READY at the
coordinator commits; COMMIT and ABORT at another participant end the collective with or without success, ABORT raising
COLL_FAIL; COLL_END records the rank's count; QUERY is answered with COMMIT if the collective has committed, else with
READY. A collective number is free again once it ended. It rests on R204, R205, R206, R207, R208
(07_fabric_transport.md, Collectives). -/
def Obligations.CollectivesTakeTheirMessages : Prop :=
  (∀ j p s c, s.mine p 0x08 = true → s.collAdmits p = true → c.sentBy p = true → s.nextIn p = true → p.retx = false → s.collOf p = some c →
    s.collNow c = c → collOp c.desc = 6 → ∃ t, exec (.collData j p) s = .next t ∧
    Assoc.get 0 (t.collNow c).rowsIn (tagRank p) = Assoc.get 0 c.rowsIn (tagRank p) + p.data.length / 64) ∧
  (∀ j p s c, s.mine p 0x09 = true → s.collAdmits p = true → c.sentBy p = true → bitsOf p.tag.toNat 17 3 = 0 → s.nextIn p = true →
    p.retx = false → s.collOpen p = some c → s.collNow c = c → c.done = none →
    s.coordinator c = c.rank → tagRank p ∉ c.ready → c.ready.length + 1 ≠ c.n → ∃ t, exec (.arrive j p) s = .next t ∧
    (t.collNow c).ready = tagRank p :: c.ready ∧ (t.collNow c).done = none ∧ t.regs = s.regs ∧ t.mem = s.mem ∧ t.store = s.store) ∧
  (∀ j p s c, s.mine p 0x09 = true → s.collAdmits p = true → c.sentBy p = true → bitsOf p.tag.toNat 17 3 = 1 → s.nextIn p = true →
    p.retx = false → s.collOpen p = some c → s.collNow c = c → c.done = none →
    s.coordinator c = 0 → c.rank = 0 → tagRank p ∉ c.ready → c.ready.length + 1 = c.n → c.sentCommit = false →
      ∃ t, exec (.ready j p) s = .next t ∧
    (t.collNow c).done = some true ∧ t.busy c.part c.id = false) ∧
  (∀ j p s c, s.mine p 0x09 = true → s.collAdmits p = true → c.sentBy p = true → bitsOf p.tag.toNat 17 3 = 2 → s.nextIn p = true →
    p.retx = false → s.collAny p = some c → s.collNow c = c → c.done = none →
    s.coordinator c ≠ c.rank → ∃ t, exec (.commit j p) s = .next t ∧ (t.collNow c).done = some true ∧ t.busy c.part c.id = false) ∧
  (∀ j p s c, s.mine p 0x09 = true → s.collAdmits p = true → c.sentBy p = true → bitsOf p.tag.toNat 17 3 = 3 → s.nextIn p = true →
    p.retx = false → s.collAny p = some c → s.collNow c = c → c.done = none →
    s.coordinator c ≠ c.rank → ∃ t, exec (.abort j p) s = .next t ∧ (t.collNow c).done = some false ∧ t.busy c.part c.id = false ∧
    t.flag F.FAB_TR_CAUSE_COLL_FAIL = true) ∧
  (∀ j p s c, s.mine p 0x09 = true → s.collAdmits p = true → c.sentBy p = true → bitsOf p.tag.toNat 17 3 = 4 → s.nextIn p = true →
    p.retx = false → s.collOpen p = some c → s.collNow c = c →
    ∃ t, exec (.collEnd j p) s = .next t ∧ (t.collNow c).ends = Assoc.put c.ends (tagRank p) p.addr.toNat) ∧
  (∀ j p s c, s.mine p 0x09 = true → s.collAdmits p = true → c.sentBy p = true → bitsOf p.tag.toNat 17 3 = 5 → s.nextIn p = true →
    p.retx = false → s.collAny p = some c → s.collNow c = c →
    s.full (c.mod (tagRank p)) 2 = true → c.rank < 2048 → ∃ t q, exec (.query j p) s = .next t ∧ Waits (c.mod (tagRank p)) 2 s t q ∧
      q.typ = 9 ∧
    bitsOf q.tag.toNat 17 3 = (if c.done = some true then 2 else 1) ∧ t.regs = s.regs ∧ t.mem = s.mem ∧ t.store = s.store)

/-- Notices of faults, suspicion, life and loss complete with their effect, and each is taken once. For a copy its flow
class takes: NOTICE_FAULT not flooded in the last 25 µs is noted, raises FAULT, clears SHADOW_READY and starts the
stall measurement; else it changes nothing but the fabric's bookkeeping. NOTICE_SUSPECT notes the suspicion, and about
this module itself floods ALIVE. NOTICE_ALIVE ends a suspicion of a module not lost, and changes neither list for one
lost. NOTICE_LOST of a module not lost and a SUSPECT_TIMEOUT of a suspected one make it lost and raise MODULE_LOST;
without suspicion the timeout changes nothing. A copy its flow class does not take is counted in DROP_CNT and has no
other effect. Memories are unchanged by a fault notice. The tag's encoding of a notice and the 25 µs are the model's
(log entries 35, 68). It rests on R200, R201, R202 (07_fabric_transport.md, Failover within 25 µs). -/
def Obligations.NoticesOfFaultsAndLostModules : Prop :=
  (∀ x m (p : Fin 18) (l : Fin 9) s, s.noteNew x = true → s.noticed (noticeTag 0 m.toNat p l) = false →
    ∃ t, exec (.noticeFault x m p l) s = .next t ∧
    t.noticed (noticeTag 0 m.toNat p l) = true ∧ t.flag F.FAB_TR_CAUSE_FAULT = true ∧ t.flag F.FAB_RT_CTL_SHADOW_READY = false ∧
    t.rd F.FAB_TR_LAST_STALL_VALUE = 0 ∧ t.fab.faultAt = some s.up ∧ t.mem = s.mem ∧ t.store = s.store) ∧
  (∀ x m (p : Fin 18) (l : Fin 9) s, s.noteNew x = true → s.noticed (noticeTag 0 m.toNat p l) = true →
    ∃ t, exec (.noticeFault x m p l) s = .next t ∧
    t = { s with fab := t.fab }) ∧
  (∀ x m (p : Fin 18) (l : Fin 9) s, s.noteNew x = false → ∃ t, exec (.noticeFault x m p l) s = .next t ∧
    exec (.noticeSuspect x m) s = .next t ∧
    exec (.noticeAlive x m) s = .next t ∧ exec (.noticeLost x m) s = .next t ∧
    t.rd F.FAB_TR_DROP_CNT_VALUE = satInc 32 (s.rd F.FAB_TR_DROP_CNT_VALUE) ∧ OnlyRegs [.FAB_TR_DROP_CNT] s t) ∧
  (∀ x m s, s.noteNew x = true → ∃ t, exec (.noticeSuspect x m) s = .next t ∧ t.noticed (noticeTag 1 m.toNat 0 0) = true ∧
    (m.toNat = s.myId → t.noticed (noticeTag 2 m.toNat 0 0) = true) ∧ t = { s with fab := t.fab }) ∧
  (∀ x m s, s.noteNew x = true → m.toNat ∉ s.fab.lost → ∃ t, exec (.noticeAlive x m) s = .next t ∧
    t.fab.suspects = s.fab.suspects.erase m.toNat ∧
    t.noticed (noticeTag 2 m.toNat 0 0) = true ∧ t = { s with fab := t.fab }) ∧
  (∀ x m s, s.noteNew x = true → m.toNat ∈ s.fab.lost → ∃ t, exec (.noticeAlive x m) s = .next t ∧ t.fab.suspects = s.fab.suspects ∧
    t.fab.lost = s.fab.lost ∧ t = { s with fab := t.fab }) ∧
  (∀ x m s, s.noteNew x = true → m.toNat ∉ s.fab.lost → ∃ t, exec (.noticeLost x m) s = .next t ∧ m.toNat ∈ t.fab.lost ∧
    t.flag F.FAB_TR_CAUSE_MODULE_LOST = true) ∧
  (∀ m s, m.toNat ∈ s.fab.suspects → m.toNat ∉ s.fab.lost → ∃ t, exec (.suspectTimeout m) s = .next t ∧ m.toNat ∈ t.fab.lost ∧
    t.flag F.FAB_TR_CAUSE_MODULE_LOST = true) ∧
  (∀ m s, m.toNat ∉ s.fab.suspects → exec (.suspectTimeout m) s = .next s)

/-- Topology messages, the shadow bank, and the change of routing epoch complete with their effect. For a copy its flow
class takes: EPOCH after the live one, with the shadow ready for it, swaps the banks, starts the drain and raises
EPOCH; without it, it waits. TOPO_LINK_STATE records the link's neighbour and the module's peloton and right to be
source; one that names this module's number over a link it has not raises DUPID. TOPO_READY records its module with
the epoch named, in place of an earlier one. RELAY hands its packet up. SHADOW_REBUILD outside a drain writes the
shadow entries, marks the shadow ready for the next epoch, and leaves every live entry as it was; in a drain or with
the cores down it changes nothing. SHADOW_READY_WRITE sets and clears the bit. EPOCH_SOURCE_TIMEOUT at the source with
all in order changes the epoch. With the cores down neither has an effect. EPOCH_DRAIN_END ends the drain. It rests on
R182 (07_fabric_transport.md, Modules, pelotons and what crosses them); R186 (07_fabric_transport.md, Packets); R190,
R191, R192 (07_fabric_transport.md, Banks and epochs). -/
def Obligations.ShapeShadowsAndRoutingEpochs : Prop :=
  (∀ x e s, s.noteNew x = true → epochAfter e.toNat (s.rd F.FAB_RT_EPOCH_LIVE) = true → s.fab.epochDue ≠ some e.toNat →
    s.flag F.FAB_RT_CTL_SHADOW_READY = true →
    s.rd F.FAB_RT_EPOCH_SHADOW = e.toNat → ∃ t, exec (.epoch x e) s = .next t ∧ t.rd F.FAB_RT_EPOCH_LIVE = e.toNat ∧
    t.liveBank = 1 - s.liveBank ∧ t.flag F.FAB_RT_CTL_DRAINING = true ∧ t.flag F.FAB_RT_CTL_SHADOW_READY = false ∧
    t.flag F.FAB_TR_CAUSE_EPOCH = true ∧ t.mem = s.mem ∧ t.store = s.store) ∧
  (∀ x e s, s.noteNew x = true → epochAfter e.toNat (s.rd F.FAB_RT_EPOCH_LIVE) = true → s.fab.epochDue ≠ some e.toNat →
    s.flag F.FAB_RT_CTL_SHADOW_READY = false →
    ∃ t, exec (.epoch x e) s = .next t ∧ t.fab.epochDue = some e.toNat ∧ t = { s with fab := t.fab }) ∧
  (∀ x m l q b g e s, s.noteNew x = true → m.toNat ≠ s.myId → ∃ t, exec (.topoLinkState x m l q b g e) s = .next t ∧
    Assoc.get 0 t.fab.topo (m.toNat * 144 + l.val) = (if b then q.toNat + 1 else 0) ∧
    Assoc.find t.fab.mods m.toNat = some { peloton := g.toNat, srcEn := e } ∧
    OnlyLogs [.FAB_TR_CAUSE] { s with fab := t.fab } t) ∧
  (∀ x m l q g e s, s.noteNew x = true → m.toNat = s.myId → s.lkCarries l = false → s.fab.dupId = false →
    ∃ t, exec (.topoLinkState x m l q true g e) s = .next t ∧
    t.fab.dupId = true ∧ t.flag F.FAB_TR_CAUSE_DUPID = true ∧ OnlyLogs [.FAB_TR_CAUSE] { s with fab := t.fab } t) ∧
  (∀ x m e s, s.noteNew x = true → (m.toNat, e.toNat) ∉ s.fab.readyMods → s.epochSource ≠ some s.myId →
    ∃ t, exec (.topoReady x m e) s = .next t ∧
    (m.toNat, e.toNat) ∈ t.fab.readyMods ∧ (∀ y ∈ t.fab.readyMods, y.1 = m.toNat → y = (m.toNat, e.toNat)) ∧ t = { s with fab := t.fab }) ∧
  (∀ j p s, s.mine p 0x14 = true → s.nextIn p = true → p.retx = false → ∃ t, exec (.relay j p) s = .next t ∧
    t.out = s.out ++ [.packetUp p] ∧ t = { s with fab := t.fab, out := t.out }) ∧
  (∀ d lo hi s, s.mgmt.down = false → s.flag F.FAB_RT_CTL_DRAINING = false → s.fab.epochDue = none → s.epochSource ≠ some s.myId →
    ∃ t, exec (.shadowRebuild [(d, lo, hi)]) s = .next t ∧ t.reg .FAB_ROUTE_LO (entryIx s.shadowBank d.toNat) = lo ∧
    (∀ i < 5, t.entryValid (entryIx s.shadowBank d.toNat) i = (fieldOf hi F.FAB_ROUTE_HI_VALID).testBit i) ∧
    t.rd F.FAB_RT_EPOCH_SHADOW = (s.rd F.FAB_RT_EPOCH_LIVE + 1) % 65536 ∧ t.flag F.FAB_RT_CTL_SHADOW_READY = true ∧
      (s.myId, s.nextEpoch) ∈ t.fab.readyMods ∧
    (∀ x < 4096, ∀ r ∈ [Reg.FAB_ROUTE_LO, Reg.FAB_ROUTE_HI], t.reg r (entryIx s.liveBank x) = s.reg r (entryIx s.liveBank x)) ∧
    SameRegs [.FAB_ROUTE_LO, .FAB_ROUTE_HI, .FAB_RT_EPOCH, .FAB_RT_CTL] s t) ∧
  (∀ l s, (s.mgmt.down = true ∨ s.flag F.FAB_RT_CTL_DRAINING = true) → exec (.shadowRebuild l) s = .next s) ∧
  (∀ s, s.mgmt.down = false → ∃ t, exec (.shadowReadyWrite false) s = .next t ∧ t.flag F.FAB_RT_CTL_SHADOW_READY = false ∧
    OnlyRegs [.FAB_RT_CTL] s t) ∧
  (∀ b s, s.mgmt.down = true → exec (.shadowReadyWrite b) s = .next s ∧ exec .epochSourceTimeout s = .next s) ∧
  (∀ s, s.mgmt.down = false → s.fab.epochDue = none → ∃ t, exec (.shadowReadyWrite true) s = .next t ∧
    t.flag F.FAB_RT_CTL_SHADOW_READY = true ∧
    OnlyRegs [.FAB_RT_CTL] s t) ∧
  (∀ s, s.mgmt.down = false → s.epochSource = some s.myId → s.gaveReady s.myId = true → s.fab.epochDue = none →
    s.flag F.FAB_RT_CTL_SHADOW_READY = true → s.rd F.FAB_RT_EPOCH_SHADOW = s.nextEpoch →
    ∃ t, exec .epochSourceTimeout s = .next t ∧ t.rd F.FAB_RT_EPOCH_LIVE = s.nextEpoch ∧ t.liveBank = 1 - s.liveBank) ∧
  (∀ s, ∃ t, exec .epochDrainEnd s = .next t ∧ t.flag F.FAB_RT_CTL_DRAINING = false ∧ OnlyRegs [.FAB_RT_CTL] s t)

/-- Offers, requests, grants and returns of lent frames complete with their effect. In a peloton small enough to lend:
LEND_OFFER_ADVERTISE sends the free offer to each peer and LEND_OFFER records a peer's. LEND_REQUEST of a number that
fits places a loan with its own base-die keys and answers; one that does not fit places nothing; a return starts the
zero-fill of the loan's frames in each stack not failed. LEND_GRANT of the lender asked records the slot. The packet's
encoding and the placing of a loan are the model's (log entries 34, 36). It rests on R152, R153, R154, R155
(05_zynde_memory.md, Borrowed capacity). -/
def Obligations.FramesLentAndBorrowed : Prop :=
  (∀ m i s, s.pelotonBig = false → s.fab.mods = [(m, i)] → m ≠ s.myId → m < 4096 → s.inPeloton m = true → s.full m 3 = true → ∃ t q,
    exec .lendOfferAdvertise s = .next t ∧ Waits m 3 s t q ∧ q.typ = 0x13 ∧ q.tag = 0 ∧ q.addr = BitVec.ofNat 64 s.freeOffer ∧
      t = { s with fab := t.fab }) ∧
  (∀ s, s.pelotonBig = true → exec .lendOfferAdvertise s = .next s) ∧
  (∀ j p s, s.mine p 0x13 = true → p.tag = 0 → s.nextIn p = true → p.retx = false → s.inPeloton p.srcMod.toNat = true →
    s.pelotonBig = false →
    ∃ t, exec (.lendOffer j p) s = .next t ∧ { module := p.srcMod.toNat, frames := p.addr.toNat } ∈ t.offers ∧
    (∀ o ∈ t.offers, o.module = p.srcMod.toNat → o.frames = p.addr.toNat) ∧ t = { s with fab := t.fab, offers := t.offers }) ∧
  (∀ j p s n mask base per, s.mine p 0x13 = true → p.tag = 1 → s.nextIn p = true → p.retx = false → n = p.addr.toNat →
    s.inPeloton p.srcMod.toNat = true →
    s.pelotonBig = false → 1 ≤ n → n ≤ s.freeOffer → s.loansOut = [] → s.loanPlace n = some (mask, base, per) →
    ∃ t, exec (.lendRequest j p) s = .next t ∧
    t.loansOut = [{ slot := 0, module := p.srcMod.toNat, part := p.srcPart.toNat, mask := mask, base := base, frames := per }] ∧
    (∀ k ∈ stacksOf mask, ∃ q ∈ t.keys, q.stack = k ∧ q.loan = true ∧ q.owner = 0) ∧ t.mem = s.mem ∧ t.store = s.store) ∧
  (∀ j p s, s.mine p 0x13 = true → p.tag = 1 → s.nextIn p = true → p.retx = false → s.freeOffer < p.addr.toNat →
    ∃ t, exec (.lendRequest j p) s = .next t ∧
    t.loansOut = s.loansOut ∧ t.keys = s.keys ∧ t.mem = s.mem ∧ t.store = s.store) ∧
  (∀ j p s l k, s.mine p 0x13 = true → p.tag = 4 → s.nextIn p = true → p.retx = false →
    s.loansOut.find? (fun l => l.slot = p.addr.toNat && l.module = p.srcMod.toNat) = some l → s.zfills = [] → k ∈ stacksOf l.mask →
    s.rd F.MEM_STATE_STATE k ≠ stFailed → ∃ t, exec (.lendRequest j p) s = .next t ∧
    { stack := k, base := l.base, frames := l.frames, loan := true, owner := l.slot } ∈ t.zfills ∧ t.flag F.MEM_STATE_ZFILL k = true) ∧
  (∀ j p s a b, s.mine p 0x13 = true → p.tag = 2 → s.nextIn p = true → p.retx = false → s.asks = [a] → a.part = p.srcPart.toNat →
    a.asks = [b] → b.1 = p.srcMod.toNat → b.2.2 = none → ∃ t, exec (.lendGrant j p) s = .next t ∧
    t.asks = [{ a with asks := [(b.1, b.2.1, some (p.addr.toNat % 32))] }] ∧ t = { s with fab := t.fab, asks := t.asks })

/-- Ethernet links come up and go, ports are admitted by MKA, and frames are dropped or taken by rule. ETH_LINK_UP of an
enabled port at an allowed rate writes the rate, goes to MGMT or AUTH by the CAK, and raises LINK_UP; on a port that
is up, disabled or of another rate it changes nothing. ETH_LINK_DOWN takes it all back, raising CLOSED if it was open.
MKA_FRAME in AUTH or OPEN, if valid, makes the peer live and may give the receive association; MKA_SA_INSTALLED with
both opens the port with OPEN; MKA_PEER_TIMEOUT closes it or starts again. MKA_HELLO sends the MKPDU: priority, 12
drawn octets, CKN, and a 0 (log entry 6). ETH_FRAME_RECEIVE (no PAUSE) drops and counts a frame of bad length, tag or
FCS, or whose buffer is full and not of a priority with flow control; on an open port it counts a frame that fails
verification or the replay window, or an unprotected tagged one, in SECERR with its cause, and takes a sound protected
frame of a VLAN entry of class 1, keeping the next packet number. A PAUSE of one priority with flow control holds it.
It rests on R212 (08_host_ethernet.md, Rates and signalling); R213, R214, R216 (08_host_ethernet.md, Frames and
VLANs); R217, R218, R219, R220, R221 (08_host_ethernet.md, Admission). -/
def Obligations.EthernetLinksAndAdmission : Prop :=
  (∀ p r s, s.ethMay p.val r.toNat = true → s.flag F.ETH_PORT_CFG_EN p = true → s.adm p = 0 → s.rateOk p r.toNat = true →
    ∃ t, exec (.ethLinkUp p r) s = .next t ∧
    t.rd F.ETH_PORT_STAT_RATE p = r.toNat ∧ t.adm p = (if s.flag F.ETH_PORT_STAT_CAK p then 2 else 1) ∧
      t.flag F.ETH_PORT_CAUSE_LINK_UP p = true ∧
    OnlyLogs [.ETH_PORT_STAT, .ETH_PORT_CAUSE, .TIM_STAT, .TIM_CAUSE] { s with ports := t.ports } t) ∧
  (∀ p r s, (s.adm p ≠ 0 ∨ s.flag F.ETH_PORT_CFG_EN p = false ∨ s.rateOk p r.toNat = false) → exec (.ethLinkUp p r) s = .next s) ∧
  (∀ p s, s.adm p ≠ 0 → ∃ t, exec (.ethLinkDown p) s = .next t ∧ t.adm p = 0 ∧ t.rd F.ETH_PORT_STAT_RATE p = 0 ∧
    t.flag F.ETH_PORT_CAUSE_LINK_DOWN p = true ∧ (s.adm p = 3 → t.flag F.ETH_PORT_CAUSE_CLOSED p = true) ∧ (t.port p).rxSa = false ∧
    (t.port p).txSa = false ∧ OnlyLogs [.ETH_PORT_STAT, .ETH_PORT_CAUSE, .TIM_STAT, .TIM_CAUSE] { s with ports := t.ports } t) ∧
  (∀ p s, s.adm p = 0 → exec (.ethLinkDown p) s = .next s) ∧
  (∀ p s, s.adm p = 0 → ∃ t, exec (.ethLinkRetry p) s = .next t ∧ t.rd F.ETH_PORT_STAT_RATE p = 0 ∧ OnlyRegs [.ETH_PORT_STAT] s t) ∧
  (∀ p b s, s.ports.length = 2 → (s.adm p = 2 ∨ s.adm p = 3) → ∃ t, exec (.mkaFrame p true b) s = .next t ∧ (t.port p).live = true ∧
    (t.port p).rxSa = ((s.port p).rxSa || b) ∧ t = { s with ports := t.ports }) ∧
  (∀ p b s, exec (.mkaFrame p false b) s = .next s) ∧
  (∀ p s, s.ports.length = 2 → (s.port p).live = true → (s.port p).rxSa = true → s.adm p = 2 → ∃ t, exec (.mkaSaInstalled p) s = .next t ∧
    t.adm p = 3 ∧ (t.port p).txSa = true ∧ t.flag F.ETH_PORT_CAUSE_OPEN p = true ∧
    OnlyLogs [.ETH_PORT_STAT, .ETH_PORT_CAUSE] { s with ports := t.ports } t) ∧
  (∀ p s, (s.port p).live = false ∨ (s.port p).rxSa = false → exec (.mkaSaInstalled p) s = .next s) ∧
  (∀ p s, s.adm p = 3 → ∃ t, exec (.mkaPeerTimeout p) s = .next t ∧ t.adm p = (if s.flag F.ETH_PORT_STAT_CAK p then 2 else 1) ∧
    (t.port p).live = false ∧ t.flag F.ETH_PORT_CAUSE_CLOSED p = true ∧
    OnlyLogs [.ETH_PORT_STAT, .ETH_PORT_CAUSE] { s with ports := t.ports } t) ∧
  (∀ p s, s.adm p = 2 → ∃ t, exec (.mkaPeerTimeout p) s = .next t ∧ (t.port p).live = false ∧ (t.port p).rxSa = false ∧
    t = { s with ports := t.ports }) ∧
  (∀ p s a b, (s.port p).cak = some (a, b) → (s.adm p = 2 ∨ s.adm p = 3) → ∃ t l, exec (.mkaHello p) s = .next t ∧ l.length = 12 ∧
    t.out = s.out ++ [.frame { port := p.val } 0x888E (BitVec.ofNat 8 s.conf.ksPrio :: (l ++ a ++ [0]))] ∧
      t = { s with out := t.out, free := t.free }) ∧
  (∀ p f s, s.rd F.ETH_PORT_STAT_RATE p ≠ 0 → ¬ (f.etherType = 0x8808 ∧ f.vid = none) →
    (frameSize f < 64 ∨ 9216 < frameSize f ∨ f.sTag = true ∨ f.fcsOk = false ∨ (rxBuffer < f.fill ∧ s.pfcOn p f.pcp.toNat = false)) →
    ∃ t, exec (.ethFrameReceive p f) s = .next t ∧
      t.rd F.ETH_PORT_DROP_CNT_VALUE p = min 0xFFFFFFFF (s.rd F.ETH_PORT_DROP_CNT_VALUE p + 1) ∧
    OnlyRegs [.ETH_PORT_DROP_CNT] s t) ∧
  (∀ p f s, s.rd F.ETH_PORT_STAT_RATE p ≠ 0 → ¬ (f.etherType = 0x8808 ∧ f.vid = none) → 64 ≤ frameSize f → frameSize f ≤ 9216 →
    f.sTag = false → f.fcsOk = true → f.fill ≤ rxBuffer → s.adm p = 3 →
    (s.macsecBad p f = true ∨ (f.vid.isSome = true ∧ untagged f.etherType.toNat = false ∧ f.macsec ≠ some true)) →
      ∃ t, exec (.ethFrameReceive p f) s = .next t ∧
    t.rd F.ETH_PORT_SECERR_CNT_VALUE p = min 0xFFFFFFFF (s.rd F.ETH_PORT_SECERR_CNT_VALUE p + 1) ∧ t.flag F.ETH_PORT_CAUSE_SECERR p = true ∧
    OnlyLogs [.ETH_PORT_SECERR_CNT, .ETH_PORT_CAUSE] s t) ∧
  (∀ p f s v i, s.rd F.ETH_PORT_STAT_RATE p ≠ 0 → 64 ≤ frameSize f → frameSize f ≤ 9216 → f.sTag = false → f.fcsOk = true →
    f.fill ≤ rxBuffer →
    f.vid = some v → untagged f.etherType.toNat = false → s.adm p = 3 → f.macsec = some true → s.macsecBad p f = false →
      s.vlanOf p v.toNat = some i →
    s.rd F.ETH_VLAN_CLASS i = 1 → s.ports.length = 2 → ∃ t, exec (.ethFrameReceive p f) s = .next t ∧
      (t.port p).rxPn = max (s.port p).rxPn (f.pn.toNat + 1) ∧
    t = { s with ports := t.ports, out := t.out }) ∧
  (∀ p f s (q : Fin 8) (n : BitVec 16), s.rd F.ETH_PORT_STAT_RATE p ≠ 0 → f.etherType = 0x8808 → f.vid = none → f.fcsOk = true →
    f.pause = [(q, n)] → n ≠ 0 →
    s.pfcOn p q = true → s.ports.length = 2 → ∃ t, exec (.ethFrameReceive p f) s = .next t ∧ t.prioHeld p q = true ∧
    t = { s with ports := t.ports, out := t.out, free := t.free })

/-- RoCE requests of the host are carried out and acknowledged, or end the pair. On a bound, open pair that owes nothing
and whose answers go out at once: a single RDMA_WRITE of one line, in sequence, under a valid key, writes its 64 bytes
where the address lands, moves the awaited PSN on by one and acknowledges; one out of sequence writes nothing and
answers the sequence error. RDMA_READ_REQUEST in order answers the bytes and moves the PSN on by the responses it
takes; without a right of the key the pair is in ERROR with the access syndrome, and QP_ERR is raised.
ROCE_INVALID_REQUEST ends the pair likewise; RNR_NAK answers a receiver-not-ready. A pair in ERROR answers none of
them and nothing changes. The syndrome numbers are the family's, PRESUMED (log entry 22). It rests on R223, R224,
R225, R226, R228 (08_host_ethernet.md, RoCEv2). -/
def Obligations.RdmaRequestsAnswered : Prop :=
  (∀ q psn va key data s n y, s.qpClear q.toNat = true → psn.toNat = s.rd F.ETH_QP_RPSN_VALUE q.toNat →
    s.rd F.ETH_QP_BIND_PART q.toNat = n → data.length = 64 → va.toNat % 64 = 0 → (s.qp q.toNat).write = none → s.served n = true →
    s.keyOk n key.toNat va.toNat 64 true = true → bitsOf key.toNat 24 4 ≠ 15 → s.inLocal n va.toNat 64 = true → s.land n va.toNat = y →
    s.asleep n = false → s.rd F.MEM_STATE_STATE y.1 ≠ stFailed → (∀ d ∈ s.fab.descs, d.id ≠ s.fab.nextDesc) → y.2 / 65536 < metaFrame →
    ∃ t, exec (.rdmaWrite q psn .only va key 64 data false) s = .next t ∧
    (∀ i < 64, t.memByte y.1 (y.2 + i) = data.getD i 0) ∧ t.rd F.ETH_QP_RPSN_VALUE q.toNat = (psn.toNat + 1) % 2 ^ 24 ∧
    t.out = s.out ++ [.roce (s.qpHdr q.toNat) q.toNat (.ack psn.toNat synAck)] ∧ t.store = s.store) ∧
  (∀ q psn pos va key len data h s, s.qpClear q.toNat = true → psn.toNat ≠ s.rd F.ETH_QP_RPSN_VALUE q.toNat →
    ∃ t, exec (.rdmaWrite q psn pos va key len data false) s = .next t ∧ exec (.rdmaReadRequest q psn va key len false h) s = .next t ∧
    t.rd F.ETH_QP_STAT_SYNDROME q.toNat = synSeq ∧
      t.out = s.out ++ [.roce (s.qpHdr q.toNat) q.toNat (.ack (s.rd F.ETH_QP_RPSN_VALUE q.toNat) synSeq)] ∧
    OnlyRegs [.ETH_QP_STAT] { s with out := t.out, ports := t.ports, fab := t.fab } t) ∧
  (∀ q psn va key len s n, s.qpClear q.toNat = true → psn.toNat = s.rd F.ETH_QP_RPSN_VALUE q.toNat →
    s.rd F.ETH_QP_BIND_PART q.toNat = n → s.served n = true → s.keyOk n key.toNat va.toNat len.toNat false = true →
      bitsOf key.toNat 24 4 ≠ 15 →
    s.inLocal n va.toNat len.toNat = true → s.sealed n va.toNat len.toNat = false → s.asleep n = false → 1 ≤ len.toNat → len.toNat ≤ 448 →
    va.toNat % 65536 + len.toNat ≤ 65536 → (s.partRead n va.toNat len.toNat).2 = none → (∀ d ∈ s.fab.descs, d.id ≠ s.fab.nextDesc) →
    ∃ t, exec (.rdmaReadRequest q psn va key len false []) s = .next t ∧ t.rd F.ETH_QP_RPSN_VALUE q.toNat = (psn.toNat + 1) % 2 ^ 24 ∧
    t.out = s.out ++ [.roce (s.qpHdr q.toNat) q.toNat (.resp psn.toNat (s.partRead n va.toNat len.toNat).1)] ∧ t.mem = s.mem ∧
      t.store = s.store) ∧
  (∀ q psn va key len s n, s.qpClear q.toNat = true → psn.toNat = s.rd F.ETH_QP_RPSN_VALUE q.toNat →
    s.rd F.ETH_QP_BIND_PART q.toNat = n → s.served n = true → s.keyOk n key.toNat va.toNat len.toNat false = true →
      bitsOf key.toNat 24 4 ≠ 15 →
    s.inLocal n va.toNat len.toNat = true → s.sealed n va.toNat len.toNat = false → s.asleep n = false → ∃ t,
    exec (.rdmaReadRequest q psn va key len false []) s = .next t ∧
    t.rd F.ETH_QP_RPSN_VALUE q.toNat = (psn.toNat + max 1 ((len.toNat + s.mtu q.toNat - 1) / s.mtu q.toNat)) % 2 ^ 24 ∧ t.mem = s.mem ∧
      t.store = s.store) ∧
  (∀ q psn va key len h s n, s.qpClear q.toNat = true → psn.toNat = s.rd F.ETH_QP_RPSN_VALUE q.toNat →
    s.rd F.ETH_QP_BIND_PART q.toNat = n → s.served n = true → s.keyOk n key.toNat va.toNat len.toNat false = false →
    ∃ t, exec (.rdmaReadRequest q psn va key len false h) s = .next t ∧ t.qpState q.toNat = 2 ∧
      t.rd F.ETH_QP_STAT_SYNDROME q.toNat = synAccess ∧
    t.flag F.ETH_PORT_CAUSE_QP_ERR (s.qpPort q.toNat) = true ∧
      t.out = s.out ++ [.roce (s.qpHdr q.toNat) q.toNat (.ack psn.toNat synAccess)] ∧
    OnlyLogs [.ETH_QP_STAT, .ETH_PORT_CAUSE] { s with out := t.out, qps := t.qps, cmds := t.cmds, ports := t.ports, fab := t.fab } t) ∧
  (∀ q psn s, s.qpClear q.toNat = true → ∃ t, exec (.roceInvalidRequest q psn false) s = .next t ∧ t.qpState q.toNat = 2 ∧
    t.rd F.ETH_QP_STAT_SYNDROME q.toNat = synInvalid ∧ t.flag F.ETH_PORT_CAUSE_QP_ERR (s.qpPort q.toNat) = true ∧
    t.out = s.out ++ [.roce (s.qpHdr q.toNat) q.toNat (.ack psn.toNat synInvalid)] ∧
    OnlyLogs [.ETH_QP_STAT, .ETH_PORT_CAUSE] { s with out := t.out, qps := t.qps, cmds := t.cmds, ports := t.ports, fab := t.fab } t) ∧
  (∀ q psn s, s.qpClear q.toNat = true → ∃ t, exec (.rnrNak q psn) s = .next t ∧
    t.rd F.ETH_QP_STAT_SYNDROME q.toNat = synRnr ∧ t.out = s.out ++ [.roce (s.qpHdr q.toNat) q.toNat (.ack psn.toNat synRnr)] ∧
    OnlyRegs [.ETH_QP_STAT] { s with out := t.out, ports := t.ports, fab := t.fab } t) ∧
  (∀ q psn pos va key len data b h s, s.qpState q.toNat = 2 → exec (.rdmaWrite q psn pos va key len data b) s = .next s ∧
    exec (.rdmaReadRequest q psn va key len b h) s = .next s ∧ exec (.roceInvalidRequest q psn b) s = .next s)

/-- The module's own RoCE requests are answered, retried, given up and slowed by congestion. RDMA_READ_RESPONSE of a whole
request gives its bytes to the command and removes it. ROCE_NAK_RECEIVED: a fatal syndrome puts the pair into ERROR
with no request left and QP_ERR raised; receiver-not-ready repeats the request while RNR_RETRY allows.
ROCE_ACK_TIMEOUT repeats it while RETRY allows, and then ends the pair. ROCE_ACKNOWLEDGE removes the writes up to its
PSN. CNP_RECEIVE cuts the rate limit by an eighth, not below its floor, at most once in 50 µs, and is counted;
CNP_RATE_RECOVERY raises it again. The syndrome numbers are PRESUMED (log entry 22). It rests on R223, R227, R228
(08_host_ethernet.md, RoCEv2). -/
def Obligations.RdmaRequestsSentAndRetried : Prop :=
  (∀ q psn data s r va key i c x, s.qpState q.toNat = 1 → s.qpOpen q.toNat = true → (s.qp q.toNat).queued = [] → (s.qp q.toNat).out = [r] →
    r.read = some (va, key, data.length) → r.cmd = some (i, c) → r.got = 0 → psn.toNat = r.psn → data.length ≤ s.mtu q.toNat →
    s.cmd i c = some x → x.opc ≠ 2 → ∃ t y, exec (.rdmaReadResponse q psn data false) s = .next t ∧ (t.qp q.toNat).out = [] ∧
    t.cmd i c = some y ∧ y.buf = x.buf ++ data ∧ t = { s with qps := t.qps, cmds := t.cmds }) ∧
  (∀ q syn s, s.qpState q.toNat = 1 → syn.toNat / 32 ≠ 1 → syn.toNat ≠ synSeq → ∃ t, exec (.roceNakReceived q syn false) s = .next t ∧
    t.qpState q.toNat = 2 ∧ t.rd F.ETH_QP_STAT_SYNDROME q.toNat = syn.toNat ∧ (t.qp q.toNat).out = [] ∧
    t.flag F.ETH_PORT_CAUSE_QP_ERR (s.qpPort q.toNat) = true ∧
    OnlyLogs [.ETH_QP_STAT, .ETH_PORT_CAUSE] { s with qps := t.qps, cmds := t.cmds, owed := t.owed } t) ∧
  (∀ q syn s r l, s.qpState q.toNat = 1 → syn.toNat / 32 = 1 → (s.qp q.toNat).out = r :: l → r.rnr < s.rd F.ETH_QP_PARAM_RNR_RETRY q.toNat →
    ∃ t, exec (.roceNakReceived q syn false) s = .next t ∧ (t.qp q.toNat).out = { r with rnr := r.rnr + 1 } :: l ∧
    OnlyRegs [.ETH_QP_STAT] { s with qps := t.qps, out := t.out, ports := t.ports, free := t.free } t) ∧
  (∀ q s r l, s.qpState q.toNat = 1 → (s.qp q.toNat).out = r :: l → r.tries < s.rd F.ETH_QP_PARAM_RETRY q.toNat →
    ∃ t, exec (.roceAckTimeout q) s = .next t ∧ (t.qp q.toNat).out = { r with tries := r.tries + 1 } :: l ∧
    t = { s with qps := t.qps, out := t.out, ports := t.ports, free := t.free }) ∧
  (∀ q s r l, s.qpState q.toNat = 1 → (s.qp q.toNat).out = r :: l → s.rd F.ETH_QP_PARAM_RETRY q.toNat ≤ r.tries →
    ∃ t, exec (.roceAckTimeout q) s = .next t ∧ t.qpState q.toNat = 2 ∧ (t.qp q.toNat).out = [] ∧
    t.flag F.ETH_PORT_CAUSE_QP_ERR (s.qpPort q.toNat) = true) ∧
  (∀ q psn s, s.qpState q.toNat = 1 → (s.qp q.toNat).queued = [] → ∃ t, exec (.roceAcknowledge q psn false) s = .next t ∧
    (t.qp q.toNat).out = ((s.qp q.toNat).out.filter fun r => r.read.isSome || 2 ^ 23 ≤ (psn.toNat + 2 ^ 24 - r.psn) % 2 ^ 24) ∧
    t = { s with qps := t.qps }) ∧
  (∀ q s, (s.qp q.toNat).cnpAt = none → ∃ t, exec (.cnpReceive q) s = .next t ∧
    (t.qp q.toNat).limit = max ((s.qp q.toNat).limit * 7 / 8) (2 ^ 32) ∧
    (t.qp q.toNat).cnpAt = some s.up ∧
    t.rd F.ETH_PORT_CNP_CNT_VALUE (s.qpPort q.toNat) = min 0xFFFFFFFF (s.rd F.ETH_PORT_CNP_CNT_VALUE (s.qpPort q.toNat) + 1) ∧
    OnlyRegs [.ETH_PORT_CNP_CNT] { s with qps := t.qps } t) ∧
  (∀ q s u, (s.qp q.toNat).cnpAt = some u → s.up < u + 50000 → ∃ t, exec (.cnpReceive q) s = .next t ∧ OnlyRegs [.ETH_PORT_CNP_CNT] s t) ∧
  (∀ q s, ∃ t, exec (.cnpRateRecovery q) s = .next t ∧ (t.qp q.toNat).limit = min ((s.qp q.toNat).limit + 2 ^ 34) (2 ^ 40) ∧
    t = { s with qps := t.qps })

/-- Queue pairs, memory windows, doorbell tags and VLAN entries are set up by their writes. ETH_QP_BIND_WRITE enabling a
pair takes its fields and makes it READY; disabling it makes it IDLE and forgets its requests. ETH_MW_CTL_WRITE takes
VALID, RD and WR, and makes a new tag only when the window becomes valid. ETH_DB_TAG_NEW changes its partition's tag
alone. ETH_VLAN_WRITE that leaves exactly one management entry on the port takes the fields; one that does not raises
CFGERR. The new tags are free values (log entry 4). It rests on R214 (08_host_ethernet.md, Frames and VLANs); R222,
R224 (08_host_ethernet.md, RoCEv2); R237 (08_host_ethernet.md, Registers). -/
def Obligations.QueuePairsWindowsAndVlans : Prop :=
  (∀ q w s, s.flag F.ETH_QP_BIND_EN q.toNat = false → fieldOf w F.ETH_QP_BIND_EN = 1 → ∃ t, exec (.ethQpBindWrite q w) s = .next t ∧
    t.qpState q.toNat = 1 ∧
      (∀ f ∈ [F.ETH_QP_BIND_EN, F.ETH_QP_BIND_PART, F.ETH_QP_BIND_PORT, F.ETH_QP_BIND_VLAN], t.rd f q.toNat = fieldOf w f) ∧
    OnlyRegs [.ETH_QP_BIND, .ETH_QP_STAT] s t) ∧
  (∀ q w s, s.flag F.ETH_QP_BIND_EN q.toNat = true → fieldOf w F.ETH_QP_BIND_EN = 0 → ∃ t, exec (.ethQpBindWrite q w) s = .next t ∧
    t.qpState q.toNat = 0 ∧ t.qp q.toNat = {} ∧ OnlyRegs [.ETH_QP_BIND, .ETH_QP_STAT] { s with qps := t.qps, cmds := t.cmds } t) ∧
  (∀ i w s, ∃ t, exec (.ethMwCtlWrite i w) s = .next t ∧
    (∀ f ∈ [F.ETH_MW_CTL_VALID, F.ETH_MW_CTL_RD, F.ETH_MW_CTL_WR], t.rd f i.val = fieldOf w f) ∧
    ((s.flag F.ETH_MW_CTL_VALID i = true ∨ fieldOf w F.ETH_MW_CTL_VALID = 0) → t.rd F.ETH_MW_CTL_TAG i.val = s.rd F.ETH_MW_CTL_TAG i.val) ∧
    OnlyRegs [.ETH_MW_CTL] { s with free := t.free } t) ∧
  (∀ n s, ∃ t, exec (.ethDbTagNew n) s = .next t ∧ OnlyRegs [.ETH_DB_TAG] { s with free := t.free } t ∧
    ∀ k, k ≠ n.val → t.reg .ETH_DB_TAG k = s.reg .ETH_DB_TAG k) ∧
  (∀ (i : Fin 64) (w : Word) (s : State), (s.setReg .ETH_VLAN i (w &&& Reg.accMask .ETH_VLAN .RW)).mgmtEntries (i.val / 32) = 1 →
    ∃ t, exec (.ethVlanWrite i w) s = .next t ∧
    (∀ f ∈ [F.ETH_VLAN_VALID, F.ETH_VLAN_VID, F.ETH_VLAN_CLASS, F.ETH_VLAN_PART], t.rd f i.val = fieldOf w f) ∧ OnlyRegs [.ETH_VLAN] s t) ∧
  (∀ (i : Fin 64) (w : Word) (s : State), (s.setReg .ETH_VLAN i (w &&& Reg.accMask .ETH_VLAN .RW)).mgmtEntries (i.val / 32) ≠ 1 →
    ∃ t, exec (.ethVlanWrite i w) s = .next t ∧
    t.flag F.ETH_PORT_CAUSE_CFGERR (i.val / 32) = true ∧ OnlyLogs [.ETH_PORT_CAUSE] s t)

/-- HMP sessions, address resolution, echo, precision time and LLDP complete with their effect. HMP_CONNECT over a port
that is up with a management entry, while HMP answers, of a client whose chain ends at a trust anchor, or in recovery,
joins when fewer than 4 sessions are open, and is answered with the module's certificate and signature; when refused
it is answered and alerted and does not join; with no way in, or a session already, nothing changes. HMP_IDLE_TIMEOUT
removes it. ARP_REQUEST, NEIGHBOUR_SOLICITATION and ICMP_ECHO (on a management entry) for the address of an entry in
use, whose frames go out at once, are answered, for another they are not. PTP_MESSAGE on a port that runs precision
time in its domain: timing with lock in UNCALIBRATED or SLAVE locks the time base to the port; an offset beyond 1 ms
steps it, a smaller one leaves it and keeps the rate trim within 500000 either way; a UTC offset is taken; an
announcement is kept; a master answers a delay request with its time. Elsewhere it changes nothing. PTP_LOCK_LOST ends
the lock. LLDP_SEND sends a frame that begins with the serial number; LLDP_RECEIVE of a new neighbour records up to
four, with LLDP raised. It rests on R214, R215 (08_host_ethernet.md, Frames and VLANs); R229, R231
(08_host_ethernet.md, HMP); R232, R233 (08_host_ethernet.md, Precision time and LLDP); R423
(16_power_states_and_time.md, Time). -/
def Obligations.SessionsResolutionTimeAndNeighbours : Prop :=
  (∀ p c a h s, s.hmpUp = true → s.adm p ≠ 0 → s.mgmtEntry p ≠ none → s.sessions.elem c = false →
    (a ∈ s.conf.anchors ∨ s.flag F.CFG_STAT_RECOVERY = true) → s.sessions.length < 4 → ∃ t x g, exec (.hmpConnect p c a h) s = .next t ∧
    t.sessions = s.sessions ++ [c] ∧ t = { s with sessions := t.sessions, out := s.out ++ [.tls c x g], free := t.free }) ∧
  (∀ p c a h s, s.hmpUp = true → s.adm p ≠ 0 → s.mgmtEntry p ≠ none → s.sessions.elem c = false →
    (4 ≤ s.sessions.length ∨ (a ∉ s.conf.anchors ∧ s.flag F.CFG_STAT_RECOVERY = false)) → ∃ t x g, exec (.hmpConnect p c a h) s = .next t ∧
    t = { s with out := s.out ++ [.tls c x g, .tlsAlert c], free := t.free }) ∧
  (∀ p c a h s, (s.hmpUp = false ∨ s.adm p = 0 ∨ s.mgmtEntry p = none ∨ s.sessions.elem c = true) →
    exec (.hmpConnect p c a h) s = .next s) ∧
  (∀ c s, exec (.hmpIdleTimeout c) s = .next { s with sessions := s.sessions.erase c }) ∧
  (∀ i ip s, s.entryUp i.val = true → s.ipOf i.val = ip.toNat → s.sendsNow (s.onEntry i.val 0 0) = true →
    ∃ t, exec (.arpRequest i ip) s = .next t ∧
    t = { s with ports := t.ports, out := s.out ++ [.frame (s.onEntry i.val 0 0) 0x0806 (natBE 16 ip.toNat ++ natBE 6 (s.macOf (i.val / 32)))] }) ∧
  (∀ i ip s, s.entryUp i.val = true → s.ipOf i.val = ip.toNat → s.sendsNow (s.onEntry i.val 0 0) = true →
    ∃ t, exec (.neighbourSolicitation i ip) s = .next t ∧
    t = { s with ports := t.ports, out := s.out ++ [.frame (s.onEntry i.val 0 0) 0x86DD (natBE 16 ip.toNat ++ natBE 6 (s.macOf (i.val / 32)))] }) ∧
  (∀ i ip l s, s.entryUp i.val = true → s.rd F.ETH_VLAN_CLASS i = 0 → s.ipOf i.val = ip.toNat → s.sendsNow (s.onEntry i.val 0 0) = true →
    ∃ t k, exec (.icmpEcho i ip l) s = .next t ∧ t = { s with ports := t.ports, out := s.out ++ [.frame (s.onEntry i.val 0 0) k l] }) ∧
  (∀ i ip l s, s.ipOf i.val ≠ ip.toNat → exec (.arpRequest i ip) s = .next s ∧ exec (.neighbourSolicitation i ip) s = .next s ∧
    exec (.icmpEcho i ip l) s = .next s) ∧
  (∀ p dom s, s.ptpOn p = true → s.rd F.ETH_PTP_CFG_DOMAIN p = dom.toNat → 8 ≤ s.rd F.ETH_PORT_STAT_PTP_STATE p →
    s.flag F.TIM_STAT_LOCKED = false →
    ∃ t, exec (.ptpMessage p dom (.timing true none none)) s = .next t ∧ t.rd F.ETH_PORT_STAT_PTP_STATE p = 9 ∧
      t.flag F.TIM_STAT_LOCKED = true ∧
    t.rd F.TIM_STAT_LOCK_PORT = p.val ∧ t.flag F.TIM_CAUSE_LOCK = true ∧
    OnlyLogs [.ETH_PORT_STAT, .ETH_PORT_CAUSE, .TIM_STAT, .TIM_CAUSE] s t) ∧
  (∀ p dom l off s, s.ptpOn p = true → s.rd F.ETH_PTP_CFG_DOMAIN p = dom.toNat → 8 ≤ s.rd F.ETH_PORT_STAT_PTP_STATE p →
    s.flag F.TIM_STAT_LOCKED = true → s.rd F.TIM_STAT_LOCK_PORT = p.val →
    s.flag F.TIM_CTL_PTP_EN = true → (off < -1000000 ∨ 1000000 < off) →
      ∃ t, exec (.ptpMessage p dom (.timing l (some off) none)) s = .next t ∧
    t.timeBase = BitVec.ofNat 64 ((s.timeBase.toNat : Int) - off).toNat ∧ t.flag F.TIM_CAUSE_STEP = true ∧
      t.flag F.TIM_STAT_UNSET = false) ∧
  (∀ p dom l off s, s.ptpOn p = true → s.rd F.ETH_PTP_CFG_DOMAIN p = dom.toNat → 8 ≤ s.rd F.ETH_PORT_STAT_PTP_STATE p →
    s.flag F.TIM_STAT_LOCKED = true → s.rd F.TIM_STAT_LOCK_PORT = p.val →
    s.flag F.TIM_CTL_PTP_EN = true → -1000000 ≤ off → off ≤ 1000000 →
      ∃ t, exec (.ptpMessage p dom (.timing l (some off) none)) s = .next t ∧
    t.timeBase = s.timeBase ∧ -500000 ≤ t.rdS F.TIM_RATE_TRIM ∧ t.rdS F.TIM_RATE_TRIM ≤ 500000) ∧
  (∀ p dom l u s, s.ptpOn p = true → s.rd F.ETH_PTP_CFG_DOMAIN p = dom.toNat → 8 ≤ s.rd F.ETH_PORT_STAT_PTP_STATE p →
    s.flag F.TIM_STAT_LOCKED = true → s.rd F.TIM_STAT_LOCK_PORT = p.val →
    ∃ t, exec (.ptpMessage p dom (.timing l none (some u))) s = .next t ∧ t.rd F.TIM_UTC_OFFSET = u.toNat) ∧
  (∀ p dom d s, s.ptpOn p = true → s.rd F.ETH_PTP_CFG_DOMAIN p = dom.toNat → s.ports.length = 2 →
    ∃ t o, exec (.ptpMessage p dom (.announce d)) s = .next t ∧ (t.port p).foreign = some o ∧
    OnlyLogs [.ETH_PORT_STAT, .ETH_PORT_CAUSE, .TIM_STAT, .TIM_CAUSE] { s with ports := t.ports } t) ∧
  (∀ p dom n s, s.ptpOn p = true → s.rd F.ETH_PTP_CFG_DOMAIN p = dom.toNat → s.rd F.ETH_PORT_STAT_PTP_STATE p = 6 →
    exec (.ptpMessage p dom (.delayReq n)) s = .next { s with
    out := s.out ++ [.frame { port := p.val } 0x88F7 ([0x09, dom] ++ natBE 2 n.toNat ++ natBE 8 s.timeBase.toNat)] }) ∧
  (∀ p dom m s, (s.ptpOn p = false ∨ s.rd F.ETH_PTP_CFG_DOMAIN p ≠ dom.toNat) → exec (.ptpMessage p dom m) s = .next s) ∧
  (∀ p s, s.flag F.TIM_STAT_LOCKED = true → s.rd F.TIM_STAT_LOCK_PORT = p.val → ∃ t, exec (.ptpLockLost p) s = .next t ∧
    t.flag F.TIM_STAT_LOCKED = false ∧ t.flag F.TIM_CAUSE_LOCK = true ∧ OnlyLogs [.TIM_STAT, .TIM_CAUSE] s t) ∧
  (∀ p s, s.rd F.ETH_PORT_STAT_RATE p ≠ 0 → ∃ l, s.nv.serial <+: l ∧
    exec (.lldpSend p) s = .next { s with out := s.out ++ [.frame { port := p.val } 0x88CC l] }) ∧
  (∀ p a b s, s.rd F.ETH_PORT_STAT_RATE p ≠ 0 → s.ports.length = 2 → (∀ x ∈ (s.port p).neighbours, x.1 ≠ a) →
    (s.port p).neighbours.length < 4 →
    ∃ t, exec (.lldpReceive p a b) s = .next t ∧ (t.port p).neighbours = (s.port p).neighbours ++ [(a, b)] ∧
      t.flag F.ETH_PORT_CAUSE_LLDP p = true ∧
    OnlyLogs [.ETH_PORT_CAUSE] { s with ports := t.ports } t) ∧
  (∀ p a b s, (∀ x ∈ (s.port p).neighbours, x.1 ≠ a) → 4 ≤ (s.port p).neighbours.length → exec (.lldpReceive p a b) s = .next s)

/-- Register reads and writes reach the register they address, or are refused, without touching another. REGISTER_WRITE
does nothing while the module is off, and nothing but latching the access fault when the access is not a whole word or
not permitted; an address with no register ignores it. To a plain register it replaces the RW bits by the written ones
and touches no other register or instance; to a cause register it clears the bits written 1. In an HMP session
REG_READ answers what the master sees; a count of 0 or above 256, or a malformed header, answers status 2, and without
a session nothing is answered. REG_WRITE with a wrong count or header answers 2, in recovery 1, on a closed register
3, and on the PWR cause enable writes its RW bits. Order of an HMP write's checks is the model's (log entry 28). It
rests on R8, R9 (00_scope.md, Registers); R230 (08_host_ethernet.md, HMP); R260 (09_tenancy_and_trust.md, Masters,
targets and access tables); R445 (17_startup_and_configuration.md, After start-up); R485
(20_interrupts_and_register_map.md, The address map). -/
def Obligations.RegisterAccesses : Prop :=
  (∀ m a b w s, s.boot.off = true → exec (.registerWrite m a b w) s = .next s) ∧
  (∀ m a w s, s.boot.off = false → ∃ t, exec (.registerWrite m a false w) s = .next t ∧ t.flag F.SEC_CAUSE_ACCESS_FAULT = true ∧
    t.flag F.SEC_AF_LAST_VALID = true ∧
      OnlyLogs [.SEC_CAUSE, .SEC_AF_CNT, .SEC_AF_LAST, .SEC_AF_ADDR_LO, .SEC_AF_ADDR_HI] { s with afSeen := t.afSeen } t) ∧
  (∀ m a w s, s.boot.off = false → s.mayAccess m.toNat true a.toNat = false → ∃ t, exec (.registerWrite m a true w) s = .next t ∧
    t.flag F.SEC_CAUSE_ACCESS_FAULT = true ∧
    OnlyLogs [.SEC_CAUSE, .SEC_AF_CNT, .SEC_AF_LAST, .SEC_AF_ADDR_LO, .SEC_AF_ADDR_HI] { s with afSeen := t.afSeen } t) ∧
  (∀ m a w s, s.boot.off = false → s.mayAccess m.toNat true a.toNat = true → regAt a.toNat = none →
    exec (.registerWrite m a true w) s = .next s) ∧
  (∀ m a w s r i, r ∈ [Reg.PWR_TJ_WARN, .PWR_FW_THR, .MEM_SCRUB_CTL, .SEC_ADMIT_MOD] → s.boot.off = false → s.pwr.retention = false →
    s.mayAccess m.toNat true a.toNat = true →
    regAt a.toNat = some (r, i) → ∃ t, exec (.registerWrite m a true w) s = .next t ∧
    t.reg r i = (s.reg r i &&& ~~~(r.accMask .RW)) ||| (w &&& r.accMask .RW) ∧ (∀ k, k ≠ i → t.reg r k = s.reg r k) ∧ OnlyRegs [r] s t) ∧
  (∀ m a w s r i, r ∈ [Reg.PWR_CAUSE, .CIO_CAUSE, .CLE_CAUSE, .FAB_PORT_CAUSE, .ETH_PORT_CAUSE] → s.boot.off = false →
    s.pwr.retention = false →
    s.mayAccess m.toNat true a.toNat = true → regAt a.toNat = some (r, i) → ∃ t, exec (.registerWrite m a true w) s = .next t ∧
    t.reg r i &&& r.accMask .W1C = s.reg r i &&& r.accMask .W1C &&& ~~~w ∧ OnlyRegs [r] s t) ∧
  (∀ x a s r i, s.hmpUp = true → s.sessions.elem x.client = true → x.ok = true → s.flag F.CFG_STAT_RECOVERY = false →
    s.mayAccess 0x80 false a.toNat = true → regAt a.toNat = some (r, i) →
    r ∉ [Reg.TIM_NOW_LO, .CLE_TRC_DATA, .REC_WIN] → s.pwr.retention = false →
    exec (.regRead x a 1) s = .next { s with out := s.out ++ [.hmp x.client 0x8001 0 x.seq.toNat (natLE 4 (s.view 0x80 r i).toNat)] }) ∧
  (∀ x a n s, s.hmpUp = true → s.sessions.elem x.client = true → x.ok = true → (n = 0 ∨ 256 < n.toNat) →
    exec (.regRead x a n) s = .next { s with out := s.out ++ [.hmp x.client 0x8001 2 x.seq.toNat []] }) ∧
  (∀ x a n l s, (s.hmpUp = false ∨ s.sessions.elem x.client = false) → exec (.regRead x a n) s = .next s ∧
    exec (.regWrite x a n l) s = .next s) ∧
  (∀ x a n l s, s.hmpUp = true → s.sessions.elem x.client = true → x.ok = false →
    exec (.regRead x a n) s = .next { s with out := s.out ++ [.hmp x.client 0x8001 2 x.seq.toNat []] } ∧
    exec (.regWrite x a n l) s = .next { s with out := s.out ++ [.hmp x.client 0x8002 2 x.seq.toNat []] }) ∧
  (∀ x a n l s, s.hmpUp = true → s.sessions.elem x.client = true → x.ok = true → (n = 0 ∨ 256 < n.toNat ∨ l.length ≠ n.toNat) →
    exec (.regWrite x a n l) s = .next { s with out := s.out ++ [.hmp x.client 0x8002 2 x.seq.toNat []] }) ∧
  (∀ x a n l s, s.hmpUp = true → s.sessions.elem x.client = true → x.ok = true → s.flag F.CFG_STAT_RECOVERY = true → n ≠ 0 → n.toNat ≤ 256 →
    l.length = n.toNat →
    exec (.regWrite x a n l) s = .next { s with out := s.out ++ [.hmp x.client 0x8002 1 x.seq.toNat []] }) ∧
  (∀ x a w s r i, s.hmpUp = true → s.sessions.elem x.client = true → x.ok = true → s.flag F.CFG_STAT_RECOVERY = false →
    s.rd F.SEC_STATE_ID ≠ 2 → s.mayAccess 0x80 true a.toNat = true →
    regAt a.toNat = some (r, i) → s.pwr.retention = false → s.closed true 0x80 r i w = true →
    exec (.regWrite x a 1 [w]) s = .next { s with out := s.out ++ [.hmp x.client 0x8002 3 x.seq.toNat []] }) ∧
  (∀ x a w s, s.hmpUp = true → s.sessions.elem x.client = true → x.ok = true → s.flag F.CFG_STAT_RECOVERY = false →
    s.rd F.SEC_STATE_ID ≠ 2 → a.toNat = Reg.addr .PWR_CAUSE_IE 0 →
    ∃ t, exec (.regWrite x a 1 [w]) s = .next t ∧ t.out = s.out ++ [.hmp x.client 0x8002 0 x.seq.toNat []] ∧
    t.reg .PWR_CAUSE_IE 0 &&& Reg.accMask .PWR_CAUSE_IE .RW = w &&& Reg.accMask .PWR_CAUSE_IE .RW ∧
    OnlyRegs [.PWR_CAUSE_IE, .IRQ_TRAY_PEND] { s with out := t.out, irqPulse := t.irqPulse } t)

/-- Attestation, key delivery and revocation, claims, peer admission and debug complete with their effect. In an HMP
session with a sound header: IDENTITY_CHAIN answers the stored chain, or status 1 when identity or configuration
failed. ATTEST with a nonce of 16 to 64 bytes makes an attestation key bound to it, keeps at most 8, raises ATTEST;
another length answers 2. ATTEST_KEY_EXPIRY drops the key. KEY_DELIVER answers the result of its checks; a failed one
raises KEY_REFUSED and changes nothing, a good one loads, and a slot key names slot, partition and key. KEY_REVOKE
clears the slot. CLAIM of an unclaimed module installs the operator hash and is logged; with four keys it answers 10.
PEER_ADMIT writes its two registers. DEBUG_CHALLENGE answers 32 bytes; DEBUG_UNLOCK uses the challenge up and unlocks
only with result 0. Bodies not laid out by the spec are the model's (log entry 47). It rests on R244, R245
(09_tenancy_and_trust.md, The operator's key and the configuration image); R246, R247 (09_tenancy_and_trust.md, The
attestation certificate); R250, R251, R252, R253 (09_tenancy_and_trust.md, Delivering keys); R257, R261
(09_tenancy_and_trust.md, Masters, targets and access tables). -/
def Obligations.AttestationKeysClaimsAndDebug : Prop :=
  (∀ x s, s.hmpUp = true → s.sessions.elem x.client = true → x.ok = true → s.flag F.CFG_STAT_RECOVERY = false → s.rd F.SEC_STATE_ID ≠ 2 →
    exec (.identityChain x) s = .next { s with out := s.out ++ [.hmp x.client 0x8003 0 x.seq.toNat s.nv.cert] }) ∧
  (∀ x s, s.hmpUp = true → s.sessions.elem x.client = true → x.ok = true → (s.flag F.CFG_STAT_RECOVERY = true ∨ s.rd F.SEC_STATE_ID = 2) →
    exec (.identityChain x) s = .next { s with out := s.out ++ [.hmp x.client 0x8003 1 x.seq.toNat []] }) ∧
  (∀ x l b s, s.hmpUp = true → s.sessions.elem x.client = true → x.ok = true → s.flag F.CFG_STAT_RECOVERY = false →
    s.rd F.SEC_STATE_ID ≠ 2 → (l.length < 16 ∨ 64 < l.length) →
    exec (.attest x l b) s = .next { s with out := s.out ++ [.hmp x.client 0x8004 2 x.seq.toNat []] }) ∧
  (∀ x l b s, s.hmpUp = true → s.sessions.elem x.client = true → x.ok = true → s.flag F.CFG_STAT_RECOVERY = false →
    s.rd F.SEC_STATE_ID ≠ 2 → 16 ≤ l.length → l.length ≤ 64 → s.sec.aks.length ≤ 8 →
    ∃ t k, exec (.attest x l b) s = .next t ∧ k ∈ t.sec.aks ∧ k.nonce = l ∧ k.issued = s.up ∧ t.sec.aks.length ≤ 8 ∧
    t.flag F.SEC_CAUSE_ATTEST = true ∧
      OnlyLogs [.SEC_CAUSE] { s with free := t.free, out := t.out, sec := { s.sec with aks := t.sec.aks } } t) ∧
  (∀ i s, exec (.attestKeyExpiry i) s = .next { s with sec := { s.sec with aks := s.sec.aks.eraseIdx i } }) ∧
  (∀ x l s, s.hmpUp = true → s.sessions.elem x.client = true → x.ok = true → s.flag F.CFG_STAT_RECOVERY = false →
    ∃ t, exec (.keyDeliver x l) s = .next t ∧
    t.out = s.out ++ [.hmp x.client 0x8004 0 x.seq.toNat (natLE 4 (s.deliverResult l).1)] ∧
    ((s.deliverResult l).1 ≠ 0 → t.flag F.SEC_CAUSE_KEY_REFUSED = true ∧ OnlyLogs [.SEC_CAUSE] { s with out := t.out } t) ∧
    ((s.deliverResult l).1 = 0 → t.flag F.SEC_CAUSE_KEY_LOADED = true) ∧
    ((s.deliverResult l).1 = 0 → byteAt l 6 = 1 → t.flag F.SEC_KSLOT_LOADED (byteAt l 7) = true ∧
      t.rd F.SEC_KSLOT_PART (byteAt l 7) = byteAt l 8 ∧
      Assoc.find t.kslots (byteAt l 7) = some { id := s.deliveries, key := (s.deliverResult l).2.take 32 } ∧
      OnlyLogs [.SEC_CAUSE, .SEC_KSLOT] { s with out := t.out, kslots := t.kslots, deliveries := s.deliveries + 1 } t)) ∧
  (∀ x (i : Fin 16) s, s.hmpUp = true → s.sessions.elem x.client = true → x.ok = true → s.flag F.CFG_STAT_RECOVERY = false →
    s.rd F.SEC_STATE_ID ≠ 2 → s.nv.opKeys ≠ [] →
    s.flag F.SEC_KSLOT_LOADED i = true → s.pstate (s.rd F.SEC_KSLOT_PART i) ≠ 0 → s.pstate (s.rd F.SEC_KSLOT_PART i) ≠ 4 →
    ∃ t, exec (.keyRevoke x [1, BitVec.ofNat 8 i]) s = .next t ∧ t.flag F.SEC_KSLOT_LOADED i = false ∧ Assoc.find t.kslots i = none ∧
    OnlyRegs [.SEC_KSLOT] { s with kslots := t.kslots, out := s.out ++ [.hmp x.client 0x8004 0 x.seq.toNat (natLE 4 0)] } t) ∧
  (∀ x l s, s.hmpUp = true → s.sessions.elem x.client = true → x.ok = true → s.flag F.CFG_STAT_RECOVERY = false → s.rd F.SEC_STATE_ID ≠ 2 →
    l.length ≠ 2 → ∃ t, exec (.keyRevoke x l) s = .next t ∧
    t.flag F.SEC_CAUSE_KEY_REFUSED = true ∧
      OnlyLogs [.SEC_CAUSE] { s with out := s.out ++ [.hmp x.client 0x8004 0 x.seq.toNat (natLE 4 1)] } t) ∧
  (∀ x l s, s.hmpUp = true → s.sessions.elem x.client = true → x.ok = true → s.flag F.CFG_STAT_RECOVERY = false → s.rd F.SEC_STATE_ID ≠ 2 →
    s.nv.opKeys = [] → l.length = 48 → s.evr.chg.length < 64 →
    ∃ t, exec (.claim x l) s = .next t ∧ t.nv.opKeys = [l] ∧ t.rd F.SEC_STATE_OPKEY = 1 ∧ t.evr.chg.length = s.evr.chg.length + 1 ∧
    t.out = s.out ++ [.hmp x.client 0x8004 0 x.seq.toNat (natLE 4 0)] ∧ t.mem = s.mem ∧ t.store = s.store) ∧
  (∀ x l s, s.hmpUp = true → s.sessions.elem x.client = true → x.ok = true → s.flag F.CFG_STAT_RECOVERY = false → s.rd F.SEC_STATE_ID ≠ 2 →
    s.nv.opKeys.length = 4 → (l.length = 48 ∨ l.length = 241) →
    ∃ t, exec (.claim x l) s = .next t ∧ t.flag F.SEC_CAUSE_KEY_REFUSED = true ∧
    OnlyLogs [.SEC_CAUSE] { s with out := s.out ++ [.hmp x.client 0x8004 0 x.seq.toNat (natLE 4 10)] } t) ∧
  (∀ x (i : Fin 64) (m p : Word) s, s.hmpUp = true → s.sessions.elem x.client = true → x.ok = true → s.flag F.CFG_STAT_RECOVERY = false →
    s.rd F.SEC_STATE_ID ≠ 2 → s.nv.opKeys ≠ [] →
    m &&& ~~~(Reg.accMask .SEC_ADMIT_MOD .RW) = 0 → p &&& ~~~(Reg.accMask .SEC_ADMIT_PART .RW) = 0 → s.pstate (i.val / 4) ≠ 0 →
      s.pstate (i.val / 4) ≠ 4 →
    ∃ t, exec (.peerAdmit x (natLE 4 i ++ natLE 4 m.toNat ++ natLE 4 p.toNat)) s = .next t ∧ t.reg .SEC_ADMIT_MOD i = m ∧
      t.reg .SEC_ADMIT_PART i = p ∧
    OnlyRegs [.SEC_ADMIT_MOD, .SEC_ADMIT_PART] { s with out := s.out ++ [.hmp x.client 0x8004 0 x.seq.toNat (natLE 4 0)] } t) ∧
  (∀ x s, s.hmpUp = true → s.sessions.elem x.client = true → x.ok = true → s.flag F.CFG_STAT_RECOVERY = false → s.rd F.SEC_STATE_ID ≠ 2 →
    ∃ t c, exec (.debugChallenge x) s = .next t ∧ c.length = 32 ∧
    t = { s with sec := { s.sec with challenge := some (c, s.up) }, free := t.free, out := s.out ++ [.hmp x.client 0x8003 0 x.seq.toNat c] }) ∧
  (∀ x l s, s.hmpUp = true → s.sessions.elem x.client = true → x.ok = true → s.flag F.CFG_STAT_RECOVERY = false → s.rd F.SEC_STATE_ID ≠ 2 →
    ∃ t, exec (.debugUnlock x l) s = .next t ∧
    t.sec.challenge = none ∧ (s.unlockResult l ≠ 0 → t.flag F.SEC_STATE_DEBUG = s.flag F.SEC_STATE_DEBUG ∧
      t.flag F.SEC_CAUSE_KEY_REFUSED = true) ∧
    (s.unlockResult l = 0 → t.flag F.SEC_STATE_DEBUG = true ∧ t.flag F.SEC_CAUSE_DEBUG_UNLOCK = true) ∧
    OnlyLogs [.SEC_STATE, .SEC_CAUSE] { s with out := t.out, sec := { s.sec with challenge := none } } t)

/-- The rollback counter, access windows, stored images, quiesce and protective records complete with their effect.
SVN_ADVANCE, allowed and below the running image, raises the counter, never above it, and raises its cause on arrival.
SEC_AT_RIGHTS_WRITE sets the selected window from its addresses, and with a limit below the base changes nothing.
CFG_IMAGE and FW_IMAGE store a sound image and change no configuration memory with another. QUIESCE_COMPLETE in a
quiesce: core power off, stores, poison and tokens gone, clusters OFF, GATE clear, stacks unchanged.
PROTECTIVE_AFTER_READINGS completes its record; CRITICAL_OUTPUT_OFF ends the critical output. The refusal status of an
image is free (log entry 54). It rests on R28 (01_module_architecture.md, When protective actions fall together);
R242, R243 (09_tenancy_and_trust.md, The firmware image and the rollback counter); R259 (09_tenancy_and_trust.md,
Masters, targets and access tables); R268 (09_tenancy_and_trust.md, Registers); R329 (12_coolant_io.md, Digital inputs
and outputs); R446 (17_startup_and_configuration.md, After start-up); R457 (18_event_recorder.md, The record). -/
def Obligations.RollbackWindowsImagesAndQuiesce : Prop :=
  (∀ n s, byteAt s.sec.fw 7 % 2 = 1 → s.rd F.CFG_STAT_STEP = 10 → s.nv.rollback < byteAt s.sec.fw 6 →
    ∃ t, exec (.svnAdvance n) s = .next t ∧
    t.nv.rollback = min (byteAt s.sec.fw 6) (s.nv.rollback + n.toNat) ∧ t.rd F.SEC_SVN_COUNTER = t.nv.rollback ∧
    (t.nv.rollback = byteAt s.sec.fw 6 → t.flag F.SEC_SVN_ADVANCED = true ∧ t.flag F.SEC_CAUSE_SVN_ADVANCE = true) ∧
    OnlyLogs [.SEC_SVN, .SEC_CAUSE] { s with nv := { s.nv with rollback := t.nv.rollback } } t) ∧
  (∀ n s, byteAt s.sec.fw 6 ≤ s.nv.rollback → exec (.svnAdvance n) s = .next s) ∧
  (∀ w s, s.atAddr .SEC_AT_BASE_LO .SEC_AT_BASE_HI ≤ s.atAddr .SEC_AT_LIMIT_LO .SEC_AT_LIMIT_HI →
    ∃ t, exec (.secAtRightsWrite w) s = .next t ∧
    t.win s.selWin = { valid := w.getLsbD 31, base := s.atAddr .SEC_AT_BASE_LO .SEC_AT_BASE_HI, limit := s.atAddr .SEC_AT_LIMIT_LO .SEC_AT_LIMIT_HI, r := w.getLsbD 0, w := w.getLsbD 1, x := w.getLsbD 2 } ∧ (∀ k, k ≠ s.selWin → t.win k = s.win k) ∧
    OnlyRegs [.SEC_AT_RIGHTS] { s with wins := t.wins } t) ∧
  (∀ w s, s.atAddr .SEC_AT_LIMIT_LO .SEC_AT_LIMIT_HI < s.atAddr .SEC_AT_BASE_LO .SEC_AT_BASE_HI → exec (.secAtRightsWrite w) s = .next s) ∧
  (∀ x l s, s.hmpUp = true → s.sessions.elem x.client = true → x.ok = true → s.flag F.CFG_STAT_RECOVERY = false → s.rd F.SEC_STATE_ID ≠ 2 →
    s.evr.chg.length < 64 → ∃ t, exec (.cfgImage x l) s = .next t ∧
    (s.cfgOk l = true → t.nv = { s.nv with cfgImage := l } ∧ t.out = s.out ++ [.hmp x.client 0x8004 0 x.seq.toNat []]) ∧
      (s.cfgOk l = false → t.nv = s.nv) ∧
    t.mem = s.mem ∧ t.store = s.store) ∧
  (∀ x l s, s.hmpUp = true → s.sessions.elem x.client = true → x.ok = true → s.flag F.CFG_STAT_RECOVERY = false → s.rd F.SEC_STATE_ID ≠ 2 →
    s.evr.chg.length < 64 → ∃ t, exec (.fwImage x l) s = .next t ∧
    (s.fwOk l = true → t.nv = { s.nv with fwImage := l } ∧ t.out = s.out ++ [.hmp x.client 0x8004 0 x.seq.toNat []]) ∧ (s.fwOk l = false →
      t.nv = s.nv) ∧
    t.mem = s.mem ∧ t.store = s.store) ∧
  (∀ s, s.pwr.quiesce = true → ∃ t, exec .quiesceComplete s = .next t ∧ t.pwr.vcore = false ∧ t.pwr.quiesce = false ∧ t.store = [] ∧
    t.storePoison = [] ∧
    t.tok = [] ∧ t.flag F.CFG_STAT_GATE = false ∧ t.mem = s.mem ∧ (∀ p < 68, t.rd F.CLU_STATE_STATE p = 0) ∧
    SameRegs [.CLU_STALL, .CLU_STATE, .PWR_GEAR_STAT, .PWR_CADENCE, .CFG_STAT, .PWR_PS_STAT, .CLE_SLOT_STAT] s t) ∧
  (∀ s, s.pwr.quiesce = false → exec .quiesceComplete s = .next s) ∧
  (∀ k s p, s.evr.prot[k.val]? = some p → s.protDone p = true → ∃ t, exec (.protectiveAfterReadings k) s = .next t ∧
    t.evr.prot = s.evr.prot.eraseIdx k ∧ OnlyLogs [] { s with free := t.free } t) ∧
  (∀ k s, s.evr.prot[k.val]? = none → exec (.protectiveAfterReadings k) s = .next s) ∧
  (∀ s, exec .criticalOutputOff s = .next { s with evr := { s.evr with critAt := none } })

/-- Power-up, overvoltage, the start-up steps and a warm restart complete with their effect. VAON_UP of a module that is
off begins step 1 with core power off, memories empty and the configuration memory, spares and stored records kept;
VAON_DOWN and OVERVOLTAGE turn it off with registers at reset and the configuration memory kept, and
OVERVOLTAGE_RECOVERY starts it again. STARTUP_STEP_COMPLETE: 1 to 2 with REF_OK, 2 to 3, 3 to 4 with identity failed
when no helper data is held, 4 to 5 with the density, 7 to 9 with core power when the permit is given, 9 to 10 with
STARTED once training and tests are done. RESET_N restarts from step 2 with RESET_LAST 1, nothing in memory, keys or
commands, and the configuration memory kept. FLOW_PERMIT_HELD in step 7 with every condition met leads to step 9 with
core power and FLOW; PERMIT_WAIT in step 7 raises its cause once and stays; PERMIT_LOST clears FLOW, keeps the step
and the stacks; PERMIT_REGAIN after start-up powers the core again. It rests on R408 (16_power_states_and_time.md, The
five states); R435, R436, R438 (17_startup_and_configuration.md, Power-up, step by step); R439
(17_startup_and_configuration.md, When verification fails); R449 (17_startup_and_configuration.md, The tray management
controller); R503 (21_connectors_electrical_mechanical.md, J-PWR). -/
def Obligations.PowerUpStartStepsAndRestart : Prop :=
  (∀ s, s.boot.off = true → s.boot.over_ = false → ∃ t, exec .vaonUp s = .next t ∧ t.boot.off = false ∧ t.rd F.CFG_STAT_STEP = 1 ∧
    t.nv = s.nv ∧ t.spares = s.spares ∧ t.pwr.vcore = false ∧ t.store = [] ∧ t.mem = [] ∧ t.evr.sectors = s.evr.sectors) ∧
  (∀ s, s.boot.off = false → exec .vaonUp s = .next s) ∧
  (∀ s, ∃ t, exec .vaonDown s = .next t ∧ t.boot = { off := true, over_ := false } ∧ t.nv = s.nv ∧ t.regs = State.reset.regs ∧
    t.store = [] ∧ t.mem = []) ∧
  (∀ s, ∃ t, exec .overvoltage s = .next t ∧ t.boot = { off := true, over_ := true } ∧ t.nv = s.nv ∧ t.regs = State.reset.regs ∧
    t.store = [] ∧ t.mem = []) ∧
  (∀ s, s.boot.off = true → s.boot.over_ = true → ∃ t, exec .overvoltageRecovery s = .next t ∧ t.boot.off = false ∧
    t.rd F.CFG_STAT_STEP = 1 ∧ t.nv = s.nv) ∧
  (∀ d s, s.boot.off = false → s.rd F.CFG_STAT_STEP = 1 → ∃ t, exec (.startupStepComplete d) s = .next t ∧ t.rd F.CFG_STAT_STEP = 2 ∧
    t.flag F.SYS_CLK_REF_OK = !(s.flag F.SYS_CLK_BACKUP) ∧ OnlyRegs [.SYS_CLK, .CFG_STAT] s t) ∧
  (∀ d s, s.boot.off = false → s.rd F.CFG_STAT_STEP = 2 → ∃ t, exec (.startupStepComplete d) s = .next t ∧ t.rd F.CFG_STAT_STEP = 3 ∧
    OnlyRegs [.CFG_STAT] s t) ∧
  (∀ l s, s.boot.off = false → s.boot.fromOff = false → s.rd F.CFG_STAT_STEP = 3 → s.nv.helpers = [none, none] → 4 ≤ l.length →
    ∃ t, exec (.startupStepComplete (.puf l)) s = .next t ∧ t.rd F.CFG_STAT_STEP = 4 ∧ t.rd F.SEC_STATE_ID = 2 ∧
      t.flag F.SEC_CAUSE_ID_FAIL = true) ∧
  (∀ l s, s.boot.off = false → s.rd F.CFG_STAT_STEP = 4 → s.nv.density < 5 → ∃ t, exec (.startupStepComplete (.scan l)) s = .next t ∧
    t.rd F.CFG_STAT_STEP = 5 ∧ t.rd F.CFG_STAT_DENSITY = s.nv.density ∧ t.boot.scanned = true) ∧
  (∀ d s, s.boot.off = false → s.rd F.CFG_STAT_STEP = 7 → s.role = 0 → s.permit = true → ∃ t, exec (.startupStepComplete d) s = .next t ∧
    t.rd F.CFG_STAT_STEP = 9 ∧ t.pwr.computeReq = s.pwr.vcore ∧ t.pwr.vcore = true) ∧
  (∀ d s, s.boot.off = false → s.rd F.CFG_STAT_STEP = 9 → s.boot.trained = true → (∀ k < 8, s.rd F.MEM_STATE_STATE k ≠ 1) →
    (s.pwr.tested = true ∨ s.pwr.vcore = false) → ∃ t, exec (.startupStepComplete d) s = .next t ∧ t.rd F.CFG_STAT_STEP = 10 ∧
    t.flag F.CFG_CAUSE_STARTED = true ∧ (s.flag F.CFG_TRAY_AUTO = true → t.flag F.CFG_TRAY_MODE = true) ∧
    OnlyLogs [.CFG_STAT, .CFG_CAUSE, .CFG_TRAY] s t) ∧
  (∀ s, s.boot.off = false → ∃ t, exec .resetN s = .next t ∧ t.rd F.SYS_RESET_LAST = 1 ∧ t.rd F.CFG_STAT_STEP = 2 ∧ t.pwr.vcore = false ∧
    t.store = [] ∧ t.mem = [] ∧ t.keys = [] ∧ t.kslots = [] ∧ t.cmds = [] ∧ (∀ n < 16, t.pstate n = 0) ∧ t.nv = s.nv) ∧
  (∀ s, s.boot.off = true → exec .resetN s = .next s) ∧
  (∀ s, s.permitOn = true → s.flowing = true → s.rd F.CFG_STAT_STEP = 7 → s.role = 0 → s.dryOk = true → s.emergOk = true →
    s.inletOk = true →
    s.boot.shut = none → s.flag F.PWR_TRIP_TRIPPED = false → ∃ t, exec .flowPermitHeld s = .next t ∧ t.rd F.CFG_STAT_STEP = 9 ∧
      t.pwr.vcore = true ∧
    t.flag F.CFG_STAT_FLOW = true) ∧
  (∀ s, s.rd F.CFG_STAT_STEP = 7 → s.boot.waited = false → ∃ t, exec .permitWait s = .next t ∧ t.flag F.CFG_CAUSE_PERMIT_WAIT = true ∧
    t.boot.waited = true ∧ t.rd F.CFG_STAT_STEP = 7) ∧
  (∀ s, s.pwr.vcore = true → s.flowing = false → s.boot.lost = false → ∃ t, exec .permitLost s = .next t ∧ t.flag F.CFG_STAT_FLOW = false ∧
    t.rd F.CFG_STAT_STEP = s.rd F.CFG_STAT_STEP ∧ t.mem = s.mem) ∧
  (∀ s, s.boot.lost = true → s.permit = true → s.pwr.vcore = false → s.rd F.CFG_STAT_STEP = 10 → ∃ t, exec .permitRegain s = .next t ∧
    t.pwr.vcore = true ∧ t.boot.lost = false ∧ t.mem = s.mem)

/-- The flow permit, its loss and return, and the watchdog of the management cores complete with their effect.
FLOW_PERMIT_HELD shows FLOW as the flow is. PERMIT_WAIT in step 7 or 8 raises its cause once. PERMIT_LOST with core
power and no flow quiesces: duty 0, no open job, PERMIT_LOST raised, stores kept. PERMIT_REGAIN with the permit asks
for compute again where it was on or start-up still runs. WDOG_KICK restarts the period and leaves EN. WDOG_EXPIRY
while enabled takes the cores down with their sessions and raises MGMT_RESTART; the fourth within an hour raises
MGMT_DEAD. MGMT_RESTART_DONE brings them back unless dead, and no ring waits for them. Elapsed time is not checked
(log entry 2). It rests on R436, R437 (17_startup_and_configuration.md, Power-up, step by step); R447, R448
(17_startup_and_configuration.md, The management cores and their watchdog). -/
def Obligations.FlowPermitAndWatchdog : Prop :=
  (∀ s, s.permitOn = true → s.flowing = true → s.rd F.CFG_STAT_STEP = 10 → s.pwr.computeReq = false →
    ∃ t, exec .flowPermitHeld s = .next t ∧ t.flag F.CFG_STAT_FLOW = true ∧
    OnlyRegs [.CFG_STAT] s t) ∧
  (∀ s, s.flowing = false → ∃ t, exec .flowPermitHeld s = .next t ∧ t.flag F.CFG_STAT_FLOW = false ∧ OnlyRegs [.CFG_STAT] s t) ∧
  (∀ s, (s.rd F.CFG_STAT_STEP = 7 ∨ s.rd F.CFG_STAT_STEP = 8) → s.boot.waited = false → ∃ t, exec .permitWait s = .next t ∧
    t.flag F.CFG_CAUSE_PERMIT_WAIT = true ∧ OnlyLogs [.CFG_CAUSE] { s with boot := { s.boot with waited := true } } t) ∧
  (∀ s, s.boot.waited = true → exec .permitWait s = .next s) ∧
  (∀ s, s.pwr.vcore = true → s.flowing = false → s.boot.lost = false → ∃ t, exec .permitLost s = .next t ∧ t.boot.lost = true ∧
    t.flag F.CFG_CAUSE_PERMIT_LOST = true ∧ t.pwr.quiesce = true ∧ t.rd F.PWR_GEAR_STAT_DUTY = 0 ∧ (∀ n < 16, t.pstate n ≠ 2) ∧
      t.store = s.store) ∧
  (∀ s, s.boot.lost = true → s.permit = true → ∃ t, exec .permitRegain s = .next t ∧ t.boot.lost = false ∧
    t.pwr.computeReq = (s.pwr.vcore || s.rd F.CFG_STAT_STEP < 9) ∧
    t.mem = s.mem) ∧
  (∀ s, s.permit = false → exec .permitRegain s = .next s) ∧
  (∀ s, s.flag F.CFG_WDOG_EN = true → ∃ t, exec .wdogKick s = .next t ∧ t.mgmt.kickAt = some s.up ∧ t.flag F.CFG_WDOG_EN = true ∧
    OnlyRegs [.CFG_WDOG] { s with mgmt := { s.mgmt with kickAt := some s.up } } t ∧ t.rd F.CFG_WDOG_TIMEOUT = s.rd F.CFG_WDOG_TIMEOUT) ∧
  (∀ s, s.flag F.CFG_WDOG_EN = true → s.hmpUp = true → s.restartsNow.length < 3 → ∃ t, exec .wdogExpiry s = .next t ∧ t.mgmt.down = true ∧
    t.sessions = [] ∧ t.flag F.CFG_CAUSE_MGMT_RESTART = true ∧ t.mem = s.mem ∧ t.store = s.store) ∧
  (∀ s, s.flag F.CFG_WDOG_EN = true → s.hmpUp = true → 3 ≤ s.restartsNow.length → ∃ t, exec .wdogExpiry s = .next t ∧ t.mgmt.down = true ∧
    t.flag F.CFG_STAT_MGMT_DEAD = true ∧ t.flag F.CFG_CAUSE_MGMT_DEAD = true ∧ t.mem = s.mem ∧ t.store = s.store) ∧
  (∀ s, s.mgmt.down = true → s.flag F.CFG_STAT_MGMT_DEAD = false → s.epochSource ≠ some s.myId → ∃ t, exec .mgmtRestartDone s = .next t ∧
    t.mgmt.down = false ∧
    (∀ i < 64, t.flag F.ETH_RING_STAT_MGMT_WAIT i = false) ∧
    OnlyRegs [.ETH_RING_STAT] { s with mgmt := { s.mgmt with down := false, kickAt := some s.up } } t) ∧
  (∀ s, s.flag F.CFG_STAT_MGMT_DEAD = true → exec .mgmtRestartDone s = .next s)

/-- The tray controller's heartbeat, mode, restart and shutdown, and the alive counter complete with their effect.
HEARTBEAT is noted. TRAY_MODE_WRITE sets MODE; by the I3C target it is logged; in recovery a master other than it gets
CFGERR. TRAY_RESTART ends a shutdown when a heartbeat came since, else it sets the bit. HB_MISS under a tray raises
its cause. TRAY_SHUTDOWN under a tray begins: valve held, TRAY_SHUT raised, quiesce, no open job; without a tray
neither has an effect. TRAY_VALVE_HOLD_END goes to the second stage with memories unchanged. ALIVE_TICK after a sample
counts modulo 65536, without one it does not. That a restart written before the heartbeat only sets the bit is the
model's choice (log entry 27). It rests on R450, R451 (17_startup_and_configuration.md, The tray management
controller). -/
def Obligations.TrayHeartbeatModesAndShutdown : Prop :=
  (∀ s, s.boot.off = false →
    exec .heartbeat s = .next { s with boot := { s.boot with lastHb := some s.up, hbSeen := s.boot.shut.isSome || s.boot.hbSeen } }) ∧
  (∀ m b s, m ≠ 0x8C → s.flag F.CFG_STAT_RECOVERY = false → ∃ t, exec (.trayModeWrite m b) s = .next t ∧ t.flag F.CFG_TRAY_MODE = b ∧
    t.evr.chg = s.evr.chg ∧ t.boot = s.boot) ∧
  (∀ b s, s.flag F.CFG_STAT_RECOVERY = false → s.flag F.CFG_TRAY_MODE = !b → s.evr.chg.length < 64 →
    ∃ t, exec (.trayModeWrite 0x8C b) s = .next t ∧
    t.flag F.CFG_TRAY_MODE = b ∧ t.evr.chg.length = s.evr.chg.length + 1) ∧
  (∀ m s, m ≠ 0x8C → s.flag F.CFG_STAT_RECOVERY = true → ∃ t, exec (.trayModeWrite m true) s = .next t ∧
    t.flag F.CFG_TRAY_MODE = s.flag F.CFG_TRAY_MODE ∧
    t.flag F.CFG_CAUSE_CFGERR = true) ∧
  (∀ m s, m ≠ 0x8C → s.flag F.CFG_STAT_RECOVERY = false → s.boot.shut.isSome = true → s.boot.hbSeen = true →
    ∃ t, exec (.trayRestart m) s = .next t ∧
    t.boot.shut = none ∧ t.boot.valveHold = 0 ∧ t.flag F.CFG_TRAY_RESTART = false) ∧
  (∀ m s, m ≠ 0x8C → s.flag F.CFG_STAT_RECOVERY = false → s.boot.shut.isSome = true → s.boot.hbSeen = false →
    ∃ t, exec (.trayRestart m) s = .next t ∧
    t.boot.shut = s.boot.shut ∧ t.flag F.CFG_TRAY_RESTART = true) ∧
  (∀ s, s.flag F.CFG_TRAY_MODE = true → s.boot.off = false → ∃ t, exec .hbMiss s = .next t ∧ t.flag F.CFG_CAUSE_HB_MISS = true ∧
    OnlyLogs [.CFG_CAUSE] s t) ∧
  (∀ s, s.flag F.CFG_TRAY_MODE = false → exec .hbMiss s = .next s ∧ exec .trayShutdown s = .next s) ∧
  (∀ s, s.flag F.CFG_TRAY_MODE = true → s.boot.shut = none → s.boot.off = false → s.pwr.vcore = true → ∃ t, exec .trayShutdown s = .next t ∧
    t.boot.shut = some s.up ∧
    t.boot.hbSeen = false ∧ t.boot.valveHold = 1 ∧ t.flag F.CFG_CAUSE_TRAY_SHUT = true ∧ t.pwr.quiesce = true ∧
      (∀ n < 16, t.pstate n ≠ 2)) ∧
  (∀ s, s.boot.shut.isSome = true → s.boot.valveHold = 1 → ∃ t, exec .trayValveHoldEnd s = .next t ∧ t.boot.valveHold = 2 ∧ t.mem = s.mem ∧
    t.store = s.store) ∧
  (∀ s, s.boot.shut = none → exec .trayValveHoldEnd s = .next s) ∧
  (∀ s, s.boot.sampled = true → s.boot.off = false → ∃ t, exec .aliveTick s = .next t ∧
    t.rd F.CFG_ALIVE_COUNT = (s.rd F.CFG_ALIVE_COUNT + 1) % 65536 ∧
    t.boot.sampled = false ∧ OnlyRegs [.CFG_ALIVE] { s with boot := { s.boot with sampled := false } } t) ∧
  (∀ s, s.boot.sampled = false → exec .aliveTick s = .next s)

/-- Flushes, sector erases, the freeze, the power-fail warning and the cursors of the recorder complete with their effect.
RECORDER_FLUSH, due and neither frozen nor before the scan, moves the change buffer to its storage, and a buffered
record into the open sector, no other sector changing; else nothing changes. FLUSH_TIMER and FLUSH make a flush due.
PF_WARN_N saves the counters and leaves both buffers empty and the freeze ended. SECTOR_ERASE_DONE ends the erase, a
failed one marking the sector bad with FLASH_ERR. FREEZE sets and ends the freeze, FREEZE_END ends it with its cause.
CURSOR_FIRST and CURSOR_LAST find a record of the severity or the last, REC_CUR_SEQ_WRITE a record held, and reading
word 15 answers it and moves the cursor to the next; a cursor with none reads 0 and is not valid. Details of the flush
are the model's (log entry 18). It rests on R460 (18_event_recorder.md, The buffer); R463, R464 (18_event_recorder.md,
Storage by memory size); R466, R467 (18_event_recorder.md, Reading). -/
def Obligations.RecorderFlushesFreezeAndCursors : Prop :=
  (∀ b s, s.evr.flushDue = true → s.boot.scanned = true → s.flag F.REC_STAT_FROZEN = false → s.evr.buf = [] → s.evr.lost = none →
    s.evr.chgStored.length + s.evr.chg.length ≤ 16384 → ∃ t, exec (.recorderFlush b) s = .next t ∧ t.evr.chg = [] ∧
    t.evr.chgStored = s.evr.chgStored ++ s.evr.chg ∧ t.evr.flushDue = false ∧ t.flag F.REC_STAT_FLUSHING = false ∧
    OnlyRegs [.REC_STAT, .REC_CTL] { s with evr := t.evr } t) ∧
  (∀ s r k x, s.evr.flushDue = true → s.boot.scanned = true → s.flag F.REC_STAT_FROZEN = false → s.evr.buf = [r] → s.evr.lost = none →
    s.bySeverity = false → Assoc.find s.evr.opens 0 = some k → s.sector k = some x → x.recs.length < 63 → k ∉ s.evr.bad →
    ∃ t, exec (.recorderFlush false) s = .next t ∧ t.evr.buf = [] ∧ t.sector k = some { x with recs := x.recs ++ [r] } ∧
    (∀ j, j ≠ k → t.sector j = s.sector j) ∧ OnlyRegs [.REC_STAT, .REC_CTL] { s with evr := t.evr } t) ∧
  (∀ b s, (s.evr.flushDue = false ∨ s.boot.scanned = false ∨ s.flag F.REC_STAT_FROZEN = true) → exec (.recorderFlush b) s = .next s) ∧
  (∀ s, ∃ t, exec .flushTimer s = .next t ∧ t.evr = { s.evr with flushDue := true } ∧
    t.flag F.REC_STAT_FLUSHING = !(s.flag F.REC_STAT_FROZEN) ∧
    OnlyRegs [.REC_STAT] { s with evr := t.evr } t) ∧
  (∀ s, ∃ t, exec .flush s = .next t ∧ t.evr = { s.evr with flushDue := true } ∧ t.flag F.REC_CTL_FLUSH = true ∧
    OnlyRegs [.REC_STAT, .REC_CTL] { s with evr := t.evr } t) ∧
  (∀ ok s, s.boot.off = true → exec (.pfWarnN ok) s = .next s) ∧
  (∀ ok s, s.boot.off = false → s.boot.scanned = false → s.evr.prot = [] → ∃ t, exec (.pfWarnN ok) s = .next t ∧
    t.evr = { s.evr with flushDue := true } ∧ OnlyRegs [.REC_STAT] { s with evr := t.evr } t) ∧
  (∀ s, s.boot.off = false → s.boot.scanned = true → s.evr.prot = [] → 5 ≤ s.rd F.CFG_STAT_STEP → s.nv.counters.length = 2 →
    s.evr.buf.length ≤ 48 →
    ∃ t q, exec (.pfWarnN true) s = .next t ∧ some (s.rd F.TIM_OPTIME_COUNT, s.rd F.TIM_CYCLES_COUNT, q) ∈ t.nv.counters ∧ t.evr.buf = [] ∧
    t.evr.chg = [] ∧ t.flag F.REC_STAT_FROZEN = false ∧ t.flag F.REC_CTL_FREEZE = false ∧
    OnlyLogs [.REC_CTL] { s with nv := { s.nv with counters := t.nv.counters } } t) ∧
  (∀ n s, s.evr.erasing = some n → (∃ t, exec (.sectorEraseDone true) s = .next t ∧ t.evr = { s.evr with erasing := none } ∧
      t.flag F.REC_STAT_ERASING = false ∧ OnlyRegs [.REC_STAT] { s with evr := t.evr } t) ∧
    ∃ t, exec (.sectorEraseDone false) s = .next t ∧ n ∈ t.evr.bad ∧ t.evr.erasing = none ∧ t.flag F.REC_STAT_ERASING = false ∧
      t.flag F.REC_CAUSE_FLASH_ERR = true ∧ OnlyLogs [.REC_STAT, .REC_CAUSE] s t) ∧
  (∀ b s, s.evr.erasing = none → exec (.sectorEraseDone b) s = .next s) ∧
  (∀ s, ∃ t, exec (.freeze true) s = .next t ∧ t.flag F.REC_STAT_FROZEN = true ∧ t.flag F.REC_CTL_FREEZE = true ∧ t.evr = s.evr ∧
    t.rd F.REC_CTL_FREEZE_MAX = s.rd F.REC_CTL_FREEZE_MAX ∧ OnlyRegs [.REC_STAT, .REC_CTL] s t) ∧
  (∀ s, s.flag F.REC_STAT_FROZEN = true → ∃ t, exec (.freeze false) s = .next t ∧ t.flag F.REC_STAT_FROZEN = false ∧
    t.flag F.REC_CTL_FREEZE = false ∧
    t.evr = { s.evr with flushDue := true } ∧ OnlyRegs [.REC_STAT, .REC_CTL] { s with evr := t.evr } t) ∧
  (∀ s, s.flag F.REC_STAT_FROZEN = true → ∃ t, exec .freezeEnd s = .next t ∧ t.flag F.REC_STAT_FROZEN = false ∧
    t.flag F.REC_CTL_FREEZE = false ∧
    t.evr.flushDue = true ∧ t.flag F.REC_CAUSE_FREEZE_END = true ∧ OnlyLogs [.REC_STAT, .REC_CTL, .REC_CAUSE] s t) ∧
  (∀ s, s.flag F.REC_STAT_FROZEN = false → exec .freezeEnd s = .next s) ∧
  (∀ c m s r, s.heldOrder.find? (fun r => decide (m.toNat ≤ r.sev)) = some r → r.seq < 2 ^ 32 →
    ∃ t, exec (.cursorFirst c false m) s = .next t ∧
    t.rd F.REC_CUR_SEQ_SEQ c = r.seq ∧ t.flag F.REC_CUR_STAT_VALID c = true ∧ t.rd F.REC_CUR_CTL_MINSEV c = m.toNat ∧
    OnlyRegs [.REC_CUR_CTL, .REC_CUR_SEQ, .REC_CUR_STAT] s t) ∧
  (∀ c m s, s.heldOrder.find? (fun r => decide (m.toNat ≤ r.sev)) = none → ∃ t, exec (.cursorFirst c false m) s = .next t ∧
    t.flag F.REC_CUR_STAT_VALID c = false ∧ OnlyRegs [.REC_CUR_CTL, .REC_CUR_STAT] s t) ∧
  (∀ c m s r, s.evr.chgStored ++ s.evr.chg = [r] → r.seq < 2 ^ 32 → ∃ t, exec (.cursorLast c true m) s = .next t ∧
    t.rd F.REC_CUR_SEQ_SEQ c = r.seq ∧ t.flag F.REC_CUR_STAT_VALID c = true ∧ OnlyRegs [.REC_CUR_CTL, .REC_CUR_SEQ, .REC_CUR_STAT] s t) ∧
  (∀ c v s, (∃ r ∈ s.held c, r.seq = v.toNat) → ∃ t, exec (.recCurSeqWrite c v) s = .next t ∧ t.rd F.REC_CUR_SEQ_SEQ c = v.toNat ∧
    t.flag F.REC_CUR_STAT_VALID c = true ∧ OnlyRegs [.REC_CUR_SEQ, .REC_CUR_STAT] s t) ∧
  (∀ c v s, (∀ r ∈ s.held c, r.seq < v.toNat) → ∃ t, exec (.recCurSeqWrite c v) s = .next t ∧ t.flag F.REC_CUR_STAT_VALID c = false ∧
    OnlyRegs [.REC_CUR_SEQ, .REC_CUR_STAT] s t) ∧
  (∀ c m s r x, s.curRec c = some r → s.recAfter c r.seq = some x → x.seq < 2 ^ 32 → ∃ t, exec (.recWinWord15Read c m) s = .next t ∧
    t.out = s.out ++ [.readData m.toNat [BitVec.ofNat 32 (leAt r.bytes 60 4)]] ∧ t.rd F.REC_CUR_SEQ_SEQ c = x.seq ∧
    t.flag F.REC_CUR_STAT_VALID c = true ∧ OnlyRegs [.REC_CUR_SEQ, .REC_CUR_STAT] { s with out := t.out } t) ∧
  (∀ c m s, s.curRec c = none → ∃ t, exec (.recWinWord15Read c m) s = .next t ∧ t.out = s.out ++ [.readData m.toNat [0]] ∧
    t.flag F.REC_CUR_STAT_VALID c = false ∧ OnlyRegs [.REC_CUR_STAT] { s with out := t.out } t)

/-- The tray's pending bits, private I3C transfers and common command codes complete with their effect.
IRQ_TRAY_PEND_WRITE by the I3C target clears the bits written 1; by HMP it is an access fault. A cause raised whose
enable bit is set makes its block pending. IRQ_REEDGE_PULSE_END ends the pulse. I3C_PRIVATE_WRITE and READ of the
scratch register write and answer it; a write the tables do not permit is an access fault with AF; of more than 16
words the first 16 are taken or given (log entry 8); without an address a write is not acknowledged. ENTDAA, SETDASA
of 0x2E, SETNEWDA and RSTDAA set and clear the address; GETPID, GETBCR, GETDCR, GETSTATUS, GETMWL and GETMRL answer;
SETMWL and SETMRL set their lengths. The tray's commands complete: HEARTBEAT in a shutdown is noted; TRAY_MODE_WRITE
of the mode it has logs nothing; TRAY_RESTART outside a shutdown is logged; HB_MISS under a tray raises its cause and
keeps start-up's state; TRAY_SHUTDOWN without core power begins with TRAY_SHUT and leaves power as it was;
TRAY_VALVE_HOLD_END goes to the second stage, the shutdown going on; ALIVE_TICK at 65535 goes to 0. What the spec does
not give of these answers is free or the model's (log entry 19). It rests on R487, R488, R489
(20_interrupts_and_register_map.md, Access paths); R492, R493, R494 (20_interrupts_and_register_map.md, The cause
tree). -/
def Obligations.TraySidebandI3cAndIrq : Prop :=
  (∀ w s, s.boot.off = false → ∃ t, exec (.irqTrayPendWrite 0x8C w) s = .next t ∧
    t.rd F.IRQ_TRAY_PEND_BLOCK = s.rd F.IRQ_TRAY_PEND_BLOCK &&& (2 ^ 15 - 1 - w.toNat % 2 ^ 15) ∧ OnlyRegs [.IRQ_TRAY_PEND] s t) ∧
  (∀ w s, s.boot.off = false → ∃ t, exec (.irqTrayPendWrite 0x80 w) s = .next t ∧ t.flag F.SEC_CAUSE_ACCESS_FAULT = true ∧
    OnlyLogs [.SEC_CAUSE, .SEC_AF_CNT, .SEC_AF_LAST, .SEC_AF_ADDR_LO, .SEC_AF_ADDR_HI] { s with afSeen := t.afSeen } t) ∧
  (∀ (f : Fld) (i : Nat) (ie : Reg) (n : Nat) (s : State), causeInfo f.reg = some (ie, n) → (s.reg ie i).getLsbD f.lo = true →
    ((s.raise f i).rd F.IRQ_TRAY_PEND_BLOCK).testBit f.reg.info.block.num = true) ∧
  (∀ s, exec .irqReedgePulseEnd s = .next { s with irqPulse := false }) ∧
  (∀ w s, s.boot.off = false → s.rd F.SYS_I3C_STAT_DYNADDR ≠ 0 → s.periAsleep = false → 7 ≤ s.i3c.mwl → ∃ t,
    exec (.i3cPrivateWrite (BitVec.ofNat 24 (Reg.addr .SYS_SCRATCH 0)) [w]) s = .next t ∧ t.reg .SYS_SCRATCH 0 = w ∧
      OnlyRegs [.SYS_SCRATCH] s t) ∧
  (∀ w s, s.boot.off = false → s.rd F.SYS_I3C_STAT_DYNADDR ≠ 0 → s.periAsleep = false → 7 ≤ s.i3c.mwl → s.wins = [] → ∃ t,
    exec (.i3cPrivateWrite (BitVec.ofNat 24 (Reg.addr .PWR_TJ_WARN 0)) [w]) s = .next t ∧ t.flag F.SYS_I3C_STAT_AF = true ∧
    t.flag F.SEC_CAUSE_ACCESS_FAULT = true ∧
    OnlyLogs [.SYS_I3C_STAT, .SEC_CAUSE, .SEC_AF_CNT, .SEC_AF_LAST, .SEC_AF_ADDR_LO, .SEC_AF_ADDR_HI] { s with afSeen := t.afSeen } t) ∧
  (∀ a l s, 16 < l.length → exec (.i3cPrivateWrite a l) s = exec (.i3cPrivateWrite a (l.take 16)) s) ∧
  (∀ a l s, s.boot.off = false → s.rd F.SYS_I3C_STAT_DYNADDR = 0 →
    exec (.i3cPrivateWrite a l) s = .next { s with out := s.out ++ [.i3cNack] }) ∧
  (∀ s, s.boot.off = false → s.rd F.SYS_I3C_STAT_DYNADDR ≠ 0 → s.periAsleep = false → 4 ≤ s.i3c.mrl →
    exec (.i3cPrivateRead (BitVec.ofNat 24 (Reg.addr .SYS_SCRATCH 0)) 1) s = .next { s with out := s.out ++ [.i3c (natLE 4 (s.reg .SYS_SCRATCH 0).toNat)] }) ∧
  (∀ a n s, 16 < n.toNat → exec (.i3cPrivateRead a n) s = exec (.i3cPrivateRead a 16) s) ∧
  (∀ d s, s.boot.off = false → s.rd F.SYS_I3C_STAT_DYNADDR = 0 → ∃ t l, exec (.entdaa d) s = .next t ∧
    t.rd F.SYS_I3C_STAT_DYNADDR = d.toNat ∧
    t.out = s.out ++ [.i3c l] ∧ l.length = 8 ∧ s.i3cPid <+: l ∧ OnlyRegs [.SYS_I3C_STAT] { s with out := t.out, free := t.free } t) ∧
  (∀ d s, s.boot.off = false → s.rd F.SYS_I3C_STAT_DYNADDR = 0 → ∃ t, exec (.setdasa 0x2E d) s = .next t ∧
    t.rd F.SYS_I3C_STAT_DYNADDR = d.toNat ∧ OnlyRegs [.SYS_I3C_STAT] s t) ∧
  (∀ a d s, a ≠ 0x2E → exec (.setdasa a d) s = .next s) ∧
  (∀ d s, s.boot.off = false → s.rd F.SYS_I3C_STAT_DYNADDR ≠ 0 → ∃ t, exec (.setnewda d) s = .next t ∧
    t.rd F.SYS_I3C_STAT_DYNADDR = d.toNat ∧ OnlyRegs [.SYS_I3C_STAT] s t) ∧
  (∀ s, ∃ t, exec .rstdaa s = .next t ∧ t.rd F.SYS_I3C_STAT_DYNADDR = 0 ∧ OnlyRegs [.SYS_I3C_STAT] s t) ∧
  (∀ s, s.boot.off = false → s.rd F.SYS_I3C_STAT_DYNADDR ≠ 0 → exec .getpid s = .next { s with out := s.out ++ [.i3c s.i3cPid] } ∧
    (∃ b, b &&& 0xE6 = 0 ∧ exec .getbcr s = .next { s with free := s.free + 1, out := s.out ++ [.i3c [b]] }) ∧
    (∃ b, exec .getdcr s = .next { s with free := s.free + 1, out := s.out ++ [.i3c [b]] }) ∧
    (∃ a b, b &&& 0x0F = 0 ∧ exec .getstatus s = .next { s with free := s.free + 1, out := s.out ++ [.i3c [a, b]] }) ∧
    exec .getmwl s = .next { s with out := s.out ++ [.i3c (natLE 2 s.i3c.mwl).reverse] } ∧
    exec .getmrl s = .next { s with out := s.out ++ [.i3c (natLE 2 s.i3c.mrl).reverse] }) ∧
  (∀ n s, s.boot.off = false → exec (.setmwl n) s = .next { s with i3c := { s.i3c with mwl := n.toNat } } ∧
    exec (.setmrl n) s = .next { s with i3c := { s.i3c with mrl := n.toNat } }) ∧
  (∀ s, s.boot.off = false → s.boot.shut.isSome = true → ∃ t, exec .heartbeat s = .next t ∧ t.boot.lastHb = some s.up ∧
    t.boot.hbSeen = true ∧
    OnlyRegs [] { s with boot := t.boot } t) ∧
  (∀ b s, s.flag F.CFG_STAT_RECOVERY = false → s.flag F.CFG_TRAY_MODE = b → ∃ t, exec (.trayModeWrite 0x8C b) s = .next t ∧
    t.flag F.CFG_TRAY_MODE = b ∧
    t.evr.chg = s.evr.chg) ∧
  (∀ s, s.boot.shut = none → s.evr.chg.length < 64 → ∃ t, exec (.trayRestart 0x8C) s = .next t ∧ t.evr.chg.length = s.evr.chg.length + 1 ∧
    t.boot.shut = none) ∧
  (∀ s, s.flag F.CFG_TRAY_MODE = true → s.boot.off = false → ∃ t, exec .hbMiss s = .next t ∧ t.flag F.CFG_CAUSE_HB_MISS = true ∧
    t.boot = s.boot) ∧
  (∀ s, s.flag F.CFG_TRAY_MODE = true → s.boot.shut = none → s.boot.off = false → s.pwr.vcore = false →
    ∃ t, exec .trayShutdown s = .next t ∧
    t.boot.shut = some s.up ∧ t.flag F.CFG_CAUSE_TRAY_SHUT = true ∧ t.pwr = s.pwr ∧ t.mem = s.mem) ∧
  (∀ s, s.boot.shut.isSome = true → s.boot.valveHold = 1 → ∃ t, exec .trayValveHoldEnd s = .next t ∧ t.boot.valveHold = 2 ∧
    t.boot.shut = s.boot.shut ∧
    OnlyRegs [] { s with boot := t.boot, cle := t.cle } t) ∧
  (∀ s, s.boot.sampled = true → s.boot.off = false → s.rd F.CFG_ALIVE_COUNT = 65535 → ∃ t, exec .aliveTick s = .next t ∧
    t.rd F.CFG_ALIVE_COUNT = 0 ∧
    t.boot.sampled = false)

/-- A base tick computes the slot due on it: output within its limits, or the input-loss reaction. CLE_TICK with the
engine's supply off does nothing, and with the engine disabled counts the tick alone. With one enabled slot, due on
the tick, no group, row slot, fault limit, trace or repetitive role: with its source valid the output lies within UMIN
and UMAX, U and Y show output and input, RUN is set and INVALID clear; with its source invalid the output is SAFE or
held by FACT, INVALID is set, RUN clear, and INPUT_LOST is raised the first time. SLOT_FAULT_CLEAR of a faulted slot
whose error is within its limit and whose source is valid clears fault and count and starts it bumplessly; else
nothing changes. Rounding of free last places is the model's (log entries 4, 42). It rests on R286
(11_control_engine.md, Slots and the sample tick); R290, R291 (11_control_engine.md, Control words); R295, R296
(11_control_engine.md, Following error and input loss). -/
def Obligations.ControlSlotsComputeAtTheirTicks : Prop :=
  (∀ s, s.cleRuns = false → exec .cleTick s = .next s) ∧
  (∀ s, s.cleRuns = true → s.flag F.CLE_CTL_EN = false → (∀ b, b < 4 → s.rd F.CLE_TRC_STAT_STATE b ≠ 1 ∧ s.rd F.CLE_TRC_STAT_STATE b ≠ 2) →
    exec .cleTick s = .next { s with cle := { s.cle with ticks := s.cle.ticks + 1 } }) ∧
  (∀ (k : Fin 32) raw s, s.cleRuns = true → s.flag F.CLE_CTL_EN = true → (∀ j, j < 32 → (s.slotOn j = true ↔ j = k.val)) →
    1 ≤ s.rd F.CLE_SLOT_CFG_PERIOD k → s.rd F.CLE_SLOT_CFG_PERIOD k ≤ 200000 → (s.cle.ticks + 1) % s.rd F.CLE_SLOT_CFG_PERIOD k = 0 →
    (∀ b, b < 4 → s.rd F.CLE_TRC_STAT_STATE b ≠ 1 ∧ s.rd F.CLE_TRC_STAT_STATE b ≠ 2) → s.rowState ≠ 3 → s.rd F.CLE_SLOT_CFG_ROLE k ≠ 1 →
    s.flag F.CLE_SLOT_CFG_GRPEN k = false → s.dst k = 0 → (s.reg .ROW_SLOTS 0).getLsbD k = false →
      (s.reg .CLE_SLOT_FAULT 0).getLsbD k = false →
    s.cw .CLE_SLOT_W_FE_LIM k = 0 → s.source (s.rd F.CLE_SLOT_IO_SRC k) = some raw → ∃ t, exec .cleTick s = .next t ∧
    (t.slot k).uc ≤ s.cw .CLE_SLOT_W_UMAX k ∧ (s.cw .CLE_SLOT_W_UMIN k ≤ s.cw .CLE_SLOT_W_UMAX k →
      s.cw .CLE_SLOT_W_UMIN k ≤ (t.slot k).uc) ∧
    t.reg .CLE_SLOT_U k = cwOf (t.slot k).uc ∧ t.reg .CLE_SLOT_Y k = cwOf ((t.slot k).y.getD 0) ∧ t.flag F.CLE_SLOT_STAT_RUN k = true ∧
    t.flag F.CLE_SLOT_STAT_INVALID k = false ∧ t.cle.ticks = s.cle.ticks + 1 ∧
    OnlyLogs [.CLE_SLOT_STAT, .CLE_SLOT_DEGR, .CLE_SLOT_Y, .CLE_SLOT_U, .CLE_SLOT_I, .CLE_CAUSE]
      { s with cle := t.cle, cio := t.cio, free := t.free, boot := { s.boot with sampled := true } } t) ∧
  (∀ (k : Fin 32) s, s.cleRuns = true → s.flag F.CLE_CTL_EN = true → (∀ j, j < 32 → (s.slotOn j = true ↔ j = k.val)) →
    1 ≤ s.rd F.CLE_SLOT_CFG_PERIOD k → s.rd F.CLE_SLOT_CFG_PERIOD k ≤ 200000 → (s.cle.ticks + 1) % s.rd F.CLE_SLOT_CFG_PERIOD k = 0 →
    (∀ b, b < 4 → s.rd F.CLE_TRC_STAT_STATE b ≠ 1 ∧ s.rd F.CLE_TRC_STAT_STATE b ≠ 2) → s.rowState ≠ 3 → s.rd F.CLE_SLOT_CFG_ROLE k ≠ 1 →
    s.flag F.CLE_SLOT_CFG_GRPEN k = false → s.dst k = 0 → s.source (s.rd F.CLE_SLOT_IO_SRC k) = none → ∃ t, exec .cleTick s = .next t ∧
    (t.slot k).uc = (if s.rd F.CLE_SLOT_CFG_FACT k = 2 then s.cw .CLE_SLOT_W_SAFE k else (s.slot k).uc) ∧ (t.slot k).lost = true ∧
    t.flag F.CLE_SLOT_STAT_INVALID k = true ∧ t.flag F.CLE_SLOT_STAT_RUN k = false ∧
    ((s.slot k).lost = false → t.flag F.CLE_CAUSE_INPUT_LOST = true) ∧
    OnlyLogs [.CLE_SLOT_STAT, .CLE_SLOT_DEGR, .CLE_SLOT_Y, .CLE_SLOT_U, .CLE_SLOT_I, .CLE_CAUSE]
      { s with cle := t.cle, cio := t.cio, boot := { s.boot with sampled := true } } t) ∧
  (∀ (k : Fin 32) s, (s.reg .CLE_SLOT_FAULT 0).getLsbD k = true → |(s.slot k).e| ≤ s.cw .CLE_SLOT_W_FE_LIM k →
    (s.source (s.rd F.CLE_SLOT_IO_SRC k)).isSome = true → ∃ t, exec (.slotFaultClear (BitVec.ofNat 32 (2 ^ k.val))) s = .next t ∧
    t.reg .CLE_SLOT_FAULT 0 = s.reg .CLE_SLOT_FAULT 0 &&& ~~~(BitVec.ofNat 32 (2 ^ k.val)) ∧ t.flag F.CLE_SLOT_STAT_FAULT k = false ∧
    t.rd F.CLE_SLOT_STAT_FE_COUNT k = 0 ∧ (t.slot k).start = true ∧ (t.slot k).match_ = some (s.applied k) ∧
    OnlyRegs [.CLE_SLOT_FAULT, .CLE_SLOT_STAT] { s with cle := t.cle } t) ∧
  (∀ (k : Fin 32) s, ((s.reg .CLE_SLOT_FAULT 0).getLsbD k = false ∨ s.cw .CLE_SLOT_W_FE_LIM k < |(s.slot k).e| ∨
    s.source (s.rd F.CLE_SLOT_IO_SRC k) = none) → exec (.slotFaultClear (BitVec.ofNat 32 (2 ^ k.val))) s = .next s)

/-- Slot configuration and coefficient writes, the repetitive table and lock, and trace buffers complete with their
effect. SLOT_CFG_WRITE enabling a slot that may be enabled takes the word, starts it and clears its integrator; one
that may not, a disabling of the valve override slot, a second override slot, or another period while enabled raises
CFGERR and leaves what it protects. Disabling another slot clears EN and RUN. SLOT_COEFF_WRITE writes its word alone,
and only gains touch the engine's own state. REP_TABLE_WRITE with the controller off or frozen writes the entry, else
raises CFGERR. REP_BEACON_TIMEOUT loses the lock with its cause. TRACE_ARM, TRACE_FIRE and TRACE_DATA_READ arm,
trigger and read a buffer; while it records, a read answers 0. It rests on R287 (11_control_engine.md, Slots and the
sample tick); R288 (11_control_engine.md, Sources and destinations); R294 (11_control_engine.md, Set-point profiles);
R302, R303 (11_control_engine.md, The repetitive controller); R306 (11_control_engine.md, Trace buffers); R308, R310
(11_control_engine.md, Start, stop and overlap); R314 (11_control_engine.md, Registers). -/
def Obligations.ControlSlotWritesLockAndTraces : Prop :=
  (∀ (k : Fin 32) w s, s.slotOn k = false → fieldOf w F.CLE_SLOT_CFG_EN = 1 → fieldOf w F.CLE_SLOT_CFG_ROLE ≠ 1 →
    s.mayEnable k (w &&& Reg.accMask .CLE_SLOT_CFG .RW) = true → ∃ t, exec (.slotCfgWrite k w) s = .next t ∧
    t.reg .CLE_SLOT_CFG k = w &&& Reg.accMask .CLE_SLOT_CFG .RW ∧ t.slotOn k = true ∧ (t.slot k).start = true ∧ (t.slot k).integ = 0 ∧
    OnlyRegs [.CLE_SLOT_CFG] { s with cle := t.cle } t) ∧
  (∀ (k : Fin 32) w s, s.slotOn k = false → fieldOf w F.CLE_SLOT_CFG_EN = 1 → fieldOf w F.CLE_SLOT_CFG_ROLE ≠ 1 →
    s.mayEnable k (w &&& Reg.accMask .CLE_SLOT_CFG .RW) = false → ∃ t, exec (.slotCfgWrite k w) s = .next t ∧
    t.flag F.CLE_CAUSE_CFGERR = true ∧ t.slotOn k = false ∧ OnlyLogs [.CLE_SLOT_CFG, .CLE_CAUSE] s t) ∧
  (∀ (k : Fin 32) w s, s.slotOn k = false → fieldOf w F.CLE_SLOT_CFG_EN = 0 → fieldOf w F.CLE_SLOT_CFG_ROLE ≠ 1 → ∃ t,
    exec (.slotCfgWrite k w) s = .next t ∧ t.reg .CLE_SLOT_CFG k = w &&& Reg.accMask .CLE_SLOT_CFG .RW ∧ OnlyRegs [.CLE_SLOT_CFG] s t) ∧
  (∀ (k : Fin 32) w s, s.slotOn k = true → s.rd F.CLE_SLOT_CFG_ROLE k = 1 → fieldOf w F.CLE_SLOT_CFG_EN = 0 → ∃ t,
    exec (.slotCfgWrite k w) s = .next t ∧ t.flag F.CLE_CAUSE_CFGERR = true ∧ t.reg .CLE_SLOT_CFG k = s.reg .CLE_SLOT_CFG k ∧
      OnlyLogs [.CLE_CAUSE] s t) ∧
  (∀ (k j : Fin 32) w s, j ≠ k → s.rd F.CLE_SLOT_CFG_ROLE j = 1 → fieldOf w F.CLE_SLOT_CFG_ROLE = 1 → ∃ t,
    exec (.slotCfgWrite k w) s = .next t ∧ t.flag F.CLE_CAUSE_CFGERR = true ∧ t.reg .CLE_SLOT_CFG k = s.reg .CLE_SLOT_CFG k ∧
      OnlyLogs [.CLE_CAUSE] s t) ∧
  (∀ (k : Fin 32) w s, s.slotOn k = true → fieldOf w F.CLE_SLOT_CFG_EN = 1 → fieldOf w F.CLE_SLOT_CFG_ROLE ≠ 1 →
    fieldOf w F.CLE_SLOT_CFG_PERIOD ≠ s.rd F.CLE_SLOT_CFG_PERIOD k → ∃ t, exec (.slotCfgWrite k w) s = .next t ∧
      t.flag F.CLE_CAUSE_CFGERR = true ∧
    (∀ f ∈ [F.CLE_SLOT_CFG_DIR, F.CLE_SLOT_CFG_GRP, F.CLE_SLOT_CFG_GRPEN, F.CLE_SLOT_CFG_ROLE, F.CLE_SLOT_CFG_PERIOD, F.CLE_SLOT_CFG_EN], t.rd f k = s.rd f k) ∧
    OnlyLogs [.CLE_SLOT_CFG, .CLE_CAUSE] s t) ∧
  (∀ (k : Fin 32) s, s.slotOn k = true → s.rd F.CLE_SLOT_CFG_ROLE k ≠ 1 → s.flag F.CLE_SLOT_CFG_GRPEN k = false → ∃ t,
    exec (.slotCfgWrite k (setField (s.reg .CLE_SLOT_CFG k) F.CLE_SLOT_CFG_EN 0)) s = .next t ∧ t.slotOn k = false ∧
      t.flag F.CLE_SLOT_STAT_RUN k = false ∧
    OnlyRegs [.CLE_SLOT_CFG, .CLE_SLOT_STAT] s t) ∧
  (∀ (k : Fin 32) (j : Fin 21) w s, ∃ t, exec (.slotCoeffWrite k j w) s = .next t ∧ t.reg (getAt .CLE_SLOT_W_A slotWords j) k = w ∧
    OnlyRegs [getAt .CLE_SLOT_W_A slotWords j] { s with cle := t.cle } t ∧ (gainWords.elem (getAt .CLE_SLOT_W_A slotWords j) = false →
      t.cle = s.cle)) ∧
  (∀ (k : Fin 32) (i : BitVec 8) w s, (s.flag F.CLE_SLOT_CFG_REPEN k = false ∨ s.flag F.CLE_SLOT_REP_FREEZE k = true) → ∃ t,
    exec (.repTableWrite k i w) s = .next t ∧ t = { s with cle := t.cle } ∧ Assoc.get 0 (t.slot k).q i.toNat = w) ∧
  (∀ (k : Fin 32) (i : BitVec 8) w s, s.flag F.CLE_SLOT_CFG_REPEN k = true → s.flag F.CLE_SLOT_REP_FREEZE k = false → ∃ t,
    exec (.repTableWrite k i w) s = .next t ∧ t.flag F.CLE_CAUSE_CFGERR = true ∧ OnlyLogs [.CLE_CAUSE] s t) ∧
  (∀ s, s.flag F.CLE_REP_STAT_LOCK = true → ∃ t, exec .repBeaconTimeout s = .next t ∧ t.flag F.CLE_REP_STAT_LOCK = false ∧
    t.flag F.CLE_CAUSE_REP_LOCK = true ∧ OnlyLogs [.CLE_REP_STAT, .CLE_CAUSE] s t) ∧
  (∀ s, s.flag F.CLE_REP_STAT_LOCK = false → exec .repBeaconTimeout s = .next s) ∧
  (∀ (b : Fin 4) s, ∃ t, exec (.traceArm b) s = .next t ∧ t.rd F.CLE_TRC_STAT_STATE b = 1 ∧ t.rd F.CLE_TRC_STAT_PRE_GOT b = 0 ∧
    (Assoc.get {} t.cle.traces b.val).data = [] ∧ OnlyRegs [.CLE_TRC_CFG, .CLE_TRC_STAT] { s with cle := t.cle } t) ∧
  (∀ (b : Fin 4) s, s.rd F.CLE_TRC_CFG_TRIG b = 0 → s.rd F.CLE_TRC_STAT_STATE b = 1 → ∃ t, exec (.traceFire b) s = .next t ∧
    t.rd F.CLE_TRC_STAT_STATE b = 2 ∧ OnlyRegs [.CLE_TRC_STAT] { s with cle := t.cle } t) ∧
  (∀ (b : Fin 4) s, (s.rd F.CLE_TRC_CFG_TRIG b ≠ 0 ∨ s.rd F.CLE_TRC_STAT_STATE b ≠ 1) → exec (.traceFire b) s = .next s) ∧
  (∀ (b : Fin 4) m s, s.rd F.CLE_TRC_STAT_STATE b ≠ 1 → s.rd F.CLE_TRC_STAT_STATE b ≠ 2 → ∃ t, exec (.traceDataRead b m) s = .next t ∧
    t.out = s.out ++ [.readData m.toNat [getAt 0 (getAt [] (Assoc.get {} s.cle.traces b.val).data (s.rd F.CLE_TRC_CUR_SAMPLE b)) (s.rd F.CLE_TRC_CUR_NODE b)]] ∧
    t.rd F.CLE_TRC_CUR_NODE b = (s.rd F.CLE_TRC_CUR_NODE b + 1) % 8 ∧ OnlyRegs [.CLE_TRC_CUR] { s with out := t.out } t) ∧
  (∀ (b : Fin 4) m s, (s.rd F.CLE_TRC_STAT_STATE b = 1 ∨ s.rd F.CLE_TRC_STAT_STATE b = 2) →
    exec (.traceDataRead b m) s = .next { s with out := s.out ++ [.readData m.toNat [0]] })

/-- Analogue output faults, PWM channels, kicks, ramps, pauses and tachometers complete with their effect. AO_FAULT sets
its flag and cause once, AO_FAULT_CLEAR clears it. PWM_CFG_WRITE with no failed channel takes the word, disabling a
channel puts it into OFF; leaving a group with a failure keeps the group and raises CFGERR; a percent write drives a
channel no slot drives and starts its kick. TACH_EDGE: a period of at least 50 µs gives the speed and clears OVR, ends
a kick that runs; a shorter one, 0 as well, sets OVR with its cause. KICK_TIMEOUT: without tachometer the ramp, with
it a pause, and after the third failure FAILED with WHY 1 and FAN_FAIL. PAUSE_END kicks again; PWM_RAMP_END runs or
stops; TACH_LOST fails the channel with WHY 2; TACH_OVR_TIMEOUT marks the sensor; CIO_PWM_CLR of a failed, commanded
channel kicks it again. It rests on R318 (12_coolant_io.md, Channels and their electrical ranges); R319
(12_coolant_io.md, Valve and analogue outputs); R320, R321, R322, R323, R324, R325 (12_coolant_io.md, Fans and pumps). -/
def Obligations.ValveOutputsFansAndTachometers : Prop :=
  (∀ (a : Fin 4) s, s.flag F.CIO_AO_CFG_FAULT a = false → ∃ t, exec (.aoFault a) s = .next t ∧ t.flag F.CIO_AO_CFG_FAULT a = true ∧
    t.flag F.CIO_CAUSE_AO_FAULT = true ∧ OnlyLogs [.CIO_AO_CFG, .CIO_CAUSE] s t) ∧
  (∀ (a : Fin 4) s, s.flag F.CIO_AO_CFG_FAULT a = true → exec (.aoFault a) s = .next s) ∧
  (∀ (a : Fin 4) s, ∃ t, exec (.aoFaultClear a) s = .next t ∧ t.flag F.CIO_AO_CFG_FAULT a = false ∧ OnlyRegs [.CIO_AO_CFG] s t) ∧
  (∀ (c : Fin 8) w s, (∀ d, d < 8 → s.rd F.CIO_PWM_STAT_WHY d = 0) → ∃ t, exec (.pwmCfgWrite c false w) s = .next t ∧
    t.reg .CIO_PWM_CFG c = w &&& Reg.accMask .CIO_PWM_CFG .RW ∧ (fieldOf w F.CIO_PWM_CFG_EN = 0 → t.pwm c = 6) ∧
    OnlyRegs [.CIO_PWM_CFG, .CIO_PWM_STAT] { s with cle := t.cle, cio := t.cio, free := t.free } t) ∧
  (∀ (c : Fin 8) w s, s.flag F.CIO_PWM_CFG_FGEN c = true → s.rd F.CIO_PWM_STAT_WHY c ≠ 0 →
    fieldOf w F.CIO_PWM_CFG_FGRP ≠ s.rd F.CIO_PWM_CFG_FGRP c → ∃ t,
    exec (.pwmCfgWrite c false w) s = .next t ∧ t.flag F.CIO_CAUSE_CFGERR = true ∧ t.rd F.CIO_PWM_CFG_FGRP c = s.rd F.CIO_PWM_CFG_FGRP c ∧
    t.flag F.CIO_PWM_CFG_FGEN c = true ∧
      OnlyLogs [.CIO_PWM_CFG, .CIO_PWM_STAT, .CIO_CAUSE] { s with cle := t.cle, cio := t.cio, free := t.free } t) ∧
  (∀ (c : Fin 8) w s, s.driven (8 + c) = false → s.flag F.CIO_PWM_CFG_EN c = true → s.flag F.CIO_STAT_VPERI = true →
    s.rd F.CIO_PWM_STAT_WHY c = 0 →
    ∃ t, exec (.pwmCfgWrite c true w) s = .next t ∧ t.pwmCmd c = percent (cwVal w) ∧
    (s.pwm c = 0 → s.flag F.CIO_PWM_STAT_FULL c = false → 0 < cwVal w → t.pwm c = 1) ∧
      OnlyRegs [.CIO_PWM_STAT] { s with cle := t.cle, cio := t.cio, free := t.free } t) ∧
  (∀ (c : Fin 8) w s, s.driven (8 + c) = true → exec (.pwmCfgWrite c true w) s = .next s) ∧
  (∀ (t : Fin 8) (n : Word) s, 50000 ≤ n.toNat → s.pwm t ≠ 1 → ∃ u, exec (.tachEdge t n) s = .next u ∧ u.flag F.CIO_PWM_STAT_OVR t = false ∧
    Assoc.find u.cio.reads (0x0A + t) = some { v := 1000000000 / (n.toNat : Rat), at_ := s.up } ∧
      OnlyRegs [.CIO_PWM_STAT] { s with cio := u.cio } u) ∧
  (∀ (t : Fin 8) (n : Word) s, 50000 ≤ n.toNat → s.pwm t = 1 → s.flag F.CIO_PWM_CFG_TACHEN t = true →
    n.toNat * max 1 (s.rd F.CIO_PWM_CFG_TMIN t) < 1000000000 → ∃ u,
    exec (.tachEdge t n) s = .next u ∧ u.pwm t = 2 ∧ OnlyRegs [.CIO_PWM_STAT] { s with cle := u.cle, cio := u.cio, free := u.free } u) ∧
  (∀ (t : Fin 8) (n : Word) s, n.toNat < 50000 → s.flag F.CIO_PWM_STAT_OVR t = false → s.pwm t ≠ 1 → ∃ u, exec (.tachEdge t n) s = .next u ∧
    u.flag F.CIO_PWM_STAT_OVR t = true ∧ u.flag F.CIO_CAUSE_TACH_OVR = true ∧ OnlyLogs [.CIO_PWM_STAT, .CIO_CAUSE] s u) ∧
  (∀ (c : Fin 8) s, s.pwm c ≠ 1 → exec (.kickTimeout c) s = .next s) ∧
  (∀ (c : Fin 8) s, s.pwm c = 1 → s.flag F.CIO_PWM_CFG_TACHEN c = false → ∃ t, exec (.kickTimeout c) s = .next t ∧ t.pwm c = 2 ∧
    OnlyRegs [.CIO_PWM_STAT] { s with cle := t.cle, cio := t.cio, free := t.free } t) ∧
  (∀ (c : Fin 8) s, s.pwm c = 1 → s.flag F.CIO_PWM_CFG_TACHEN c = true → s.rd F.CIO_PWM_STAT_TRIES c < 3 →
    ∃ t, exec (.kickTimeout c) s = .next t ∧
    t.pwm c = 4 ∧ (s.flag F.CIO_PWM_STAT_FULL c = false → t.rd F.CIO_PWM_STAT_DUTY c = 0) ∧
      OnlyRegs [.CIO_PWM_STAT] { s with cle := t.cle, free := t.free } t) ∧
  (∀ (c : Fin 8) s, s.pwm c = 1 → s.flag F.CIO_PWM_CFG_TACHEN c = true → 3 ≤ s.rd F.CIO_PWM_STAT_TRIES c →
    ∃ t, exec (.kickTimeout c) s = .next t ∧
    t.pwm c = 5 ∧ t.rd F.CIO_PWM_STAT_WHY c = 1 ∧ t.flag F.CIO_CAUSE_FAN_FAIL = true ∧
    OnlyLogs [.CIO_PWM_STAT, .CIO_CAUSE] { s with cle := t.cle, cio := t.cio, free := t.free } t) ∧
  (∀ (c : Fin 8) s, s.pwm c = 4 → s.rd F.CIO_PWM_STAT_TRIES c < 7 → ∃ t, exec (.pauseEnd c) s = .next t ∧ t.pwm c = 1 ∧
    t.rd F.CIO_PWM_STAT_TRIES c = s.rd F.CIO_PWM_STAT_TRIES c + 1 ∧ OnlyRegs [.CIO_PWM_STAT] { s with cle := t.cle, free := t.free } t) ∧
  (∀ (c : Fin 8) s, s.pwm c ≠ 4 → exec (.pauseEnd c) s = .next s) ∧
  (∀ (c : Fin 8) s, s.pwm c = 2 → ∃ t, exec (.pwmRampEnd c) s = .next t ∧ t.pwm c = (if s.pwmCmd c = 0 then 0 else 3) ∧
    OnlyRegs [.CIO_PWM_STAT] { s with cle := t.cle, free := t.free } t) ∧
  (∀ (c : Fin 8) s, s.pwm c ≠ 2 → exec (.pwmRampEnd c) s = .next s) ∧
  (∀ (c : Fin 8) s, (s.pwm c = 2 ∨ s.pwm c = 3) → s.flag F.CIO_PWM_CFG_TACHEN c = true → ∃ t, exec (.tachLost c) s = .next t ∧
    t.pwm c = 5 ∧ t.rd F.CIO_PWM_STAT_WHY c = 2 ∧ t.flag F.CIO_CAUSE_FAN_FAIL = true ∧
    OnlyLogs [.CIO_PWM_STAT, .CIO_CAUSE] { s with cle := t.cle, cio := t.cio, free := t.free } t) ∧
  (∀ (c : Fin 8) s, s.flag F.CIO_PWM_CFG_TACHEN c = false → exec (.tachLost c) s = .next s) ∧
  (∀ (t : Fin 8) s, s.flag F.CIO_PWM_STAT_OVR t = true → ∃ u, exec (.tachOvrTimeout t) s = .next u ∧ u.sensBad (24 + t) = true ∧
    OnlyRegs [.CIO_SENS_STAT] { s with cio := u.cio } u) ∧
  (∀ (t : Fin 8) s, s.flag F.CIO_PWM_STAT_OVR t = false → exec (.tachOvrTimeout t) s = .next s) ∧
  (∀ (c : Fin 8) s, s.rd F.CIO_PWM_STAT_WHY c ≠ 0 → s.flag F.CIO_PWM_CFG_EN c = true → s.flag F.CIO_STAT_VPERI = true → s.pwm c = 5 →
    s.pwmCmd c ≠ 0 → ∃ t,
    exec (.cioPwmClr (BitVec.ofNat 8 (2 ^ c.val))) s = .next t ∧ t.pwm c = 1 ∧ t.rd F.CIO_PWM_STAT_WHY c = 0 ∧
      t.rd F.CIO_PWM_STAT_TRIES c = 0 ∧
    OnlyRegs [.CIO_PWM_STAT] { s with cle := t.cle, cio := t.cio, free := t.free } t)

/-- Samples are kept within range, out-of-range and mismatching sensors are marked, and the heat balance is shown.
AI_SAMPLE and SENSOR_SAMPLE in range keep the reading at its source with the time; a current input reads (mA - 4) *
100 / 16; flow below 0.5 reads 0. Out of range with no fault yet marks the sensor, raises SENS_FAULT and keeps the
last reading; a channel off takes nothing. RANGE_FAULT_CLEAR after a good reading clears an unlatched fault.
PAIR_MISMATCH beyond 1 K marks the member that is lower, or farther from the meter's reading, with PAIR_MISMATCH;
within 1 K it does nothing. HEAT_BALANCE below 300 W shows LOWP; above it Q is within 1 of (To - Ti) * flow * K.
SENS_STAT_CLEAR clears a latched fault that now passes. A filtered value is an operand (log entry 7). It rests on
R315, R316, R317 (12_coolant_io.md, Channels and their electrical ranges); R333, R334, R335, R336, R337
(12_coolant_io.md, Sensors that lie). -/
def Obligations.SensorsCheckedAgainstRangeAndEachOther : Prop :=
  (∀ (ch : Fin 10) raw v s, ch.val < 8 → s.rd F.CIO_AI_CFG_MODE ch ≠ 1 → s.rd F.CIO_AI_CFG_MODE ch ≠ 2 →
    exec (.aiSample ch raw v) s = .next s) ∧
  (∀ (ch : Fin 10) raw v s, ch.val < 8 → s.rd F.CIO_AI_CFG_MODE ch = 2 → s.rd F.CIO_AI_CFG_FILT ch = 0 → 18 / 5 ≤ raw → raw ≤ 21 → ∃ t,
    exec (.aiSample ch raw v) s = .next t ∧ Assoc.find t.cio.reads ch = some { v := (raw - 4) * 100 / 16, at_ := s.up } ∧
    OnlyRegs [.CIO_SENS_STAT, .CIO_AI_CFG] { s with cio := t.cio } t) ∧
  (∀ (ch : Fin 10) raw v s, ch.val < 8 → s.rd F.CIO_AI_CFG_MODE ch = 1 → s.rd F.CIO_AI_CFG_FILT ch ≠ 0 → -1 / 5 ≤ raw → raw ≤ 21 / 2 → ∃ t,
    exec (.aiSample ch raw v) s = .next t ∧ Assoc.find t.cio.reads ch = some { v := v, at_ := s.up } ∧
    OnlyRegs [.CIO_SENS_STAT, .CIO_AI_CFG] { s with cio := t.cio } t) ∧
  (∀ (ch : Fin 10) raw v s, ch.val < 8 → s.rd F.CIO_AI_CFG_MODE ch = 2 → (raw < 18 / 5 ∨ 21 < raw) →
    s.cio.ranged.testBit (16 + ch) = false →
    s.sensBad (16 + ch) = false → s.psState ≠ 3 → s.psState ≠ 4 → ∃ t, exec (.aiSample ch raw v) s = .next t ∧ t.sensBad (16 + ch) = true ∧
    t.flag F.CIO_AI_CFG_FAULT ch = true ∧ t.flag F.CIO_CAUSE_SENS_FAULT = true ∧ t.cio.reads = s.cio.reads ∧
    OnlyLogs [.CIO_SENS_STAT, .CIO_AI_CFG, .CIO_CAUSE] { s with cio := t.cio } t) ∧
  (∀ (ch : Fin 10) raw v s, 8 ≤ ch.val → 780 ≤ raw → raw ≤ 1600 → ∃ t, exec (.aiSample ch raw v) s = .next t ∧ t = { s with cio := t.cio } ∧
    Assoc.find t.cio.reads ch = some { v := v, at_ := s.up }) ∧
  (∀ (k : Fin 7) v s, k.val < 4 → -10 ≤ v → v ≤ 110 → ∃ t, exec (.sensorSample k v) s = .next t ∧ t = { s with cio := t.cio } ∧
    Assoc.find t.cio.reads (0x100 + k) = some { v := v, at_ := s.up }) ∧
  (∀ (k : Fin 7) v s, k.val < 4 → (v < -10 ∨ 110 < v) → s.cio.ranged.testBit k = false → s.sensBad k = false → s.psState ≠ 3 →
    s.psState ≠ 4 → ∃ t,
    exec (.sensorSample k v) s = .next t ∧ t.sensBad k = true ∧ t.flag F.CIO_CAUSE_SENS_FAULT = true ∧ t.cio.reads = s.cio.reads ∧
    OnlyLogs [.CIO_SENS_STAT, .CIO_CAUSE] { s with cio := t.cio } t) ∧
  (∀ (k : Fin 7) v s, 4 ≤ k.val → k.val < 6 → -20 ≤ v → v ≤ 1050 → ∃ t, exec (.sensorSample k v) s = .next t ∧ t = { s with cio := t.cio } ∧
    Assoc.find t.cio.reads (0x16 + k) = some { v := v, at_ := s.up }) ∧
  (∀ v s, 0 ≤ v → v ≤ 10 → ∃ t, exec (.sensorSample 6 v) s = .next t ∧ OnlyRegs [.CFG_STAT] { s with cio := t.cio } t ∧
    Assoc.find t.cio.reads 0x1C = some { v := if v < 1 / 2 then 0 else v, at_ := s.up } ∧ (t.flowing = false →
      t.flag F.CFG_STAT_FLOW = false)) ∧
  (∀ (b : Fin 24) s, s.cio.good.testBit b = true → s.cio.latched.testBit b = false → ∃ t, exec (.rangeFaultClear b) s = .next t ∧
    t.sensBad b = false ∧
    OnlyRegs [.CIO_SENS_STAT, .CIO_AI_CFG] { s with cio := t.cio } t) ∧
  (∀ (b : Fin 24) s, s.cio.good.testBit b = false → exec (.rangeFaultClear b) s = .next s) ∧
  (∀ (i : Fin 2) a b s, s.temp (2 * i) = some a → s.temp (2 * i + 1) = some b → a + 1 < b → s.source (0x21 + i) = none → ∃ t,
    exec (.pairMismatch i) s = .next t ∧ t.sensBad (2 * i) = true ∧ t.cio.latched = s.cio.latched ||| 2 ^ (2 * i.val) ∧
    t.flag F.CIO_CAUSE_PAIR_MISMATCH = true ∧ OnlyLogs [.CIO_SENS_STAT, .CIO_CAUSE] { s with cio := t.cio } t) ∧
  (∀ (i : Fin 2) a b m s, s.temp (2 * i) = some a → s.temp (2 * i + 1) = some b → 1 < |a - b| → s.source (0x21 + i) = some m →
    |b - m| < |a - m| → ∃ t,
    exec (.pairMismatch i) s = .next t ∧ t.sensBad (2 * i) = true ∧ t.flag F.CIO_CAUSE_PAIR_MISMATCH = true ∧
    OnlyLogs [.CIO_SENS_STAT, .CIO_CAUSE] { s with cio := t.cio } t) ∧
  (∀ (i : Fin 2) a b s, s.temp (2 * i) = some a → s.temp (2 * i + 1) = some b → |a - b| ≤ 1 → exec (.pairMismatch i) s = .next s) ∧
  (∀ s, s.flag F.CIO_HB_CFG_EN = false → exec .heatBalance s = .next s) ∧
  (∀ s, s.flag F.CIO_HB_CFG_EN = true → s.rd F.PWR_INPUT_P_1S < 300 → ∃ t, exec .heatBalance s = .next t ∧
    t.flag F.CIO_HB_STAT_LOWP = true ∧
    OnlyRegs [.CIO_HB_STAT] { s with cio := t.cio } t) ∧
  (∀ ti o f s, s.flag F.CIO_HB_CFG_EN = true → 300 ≤ s.rd F.PWR_INPUT_P_1S → s.pairMean 0 = some ti → s.pairMean 1 = some o →
    s.flowMean = some f →
    1 / 2 ≤ f → 0 ≤ (o - ti) * f * s.heatK → (o - ti) * f * s.heatK ≤ 65534 → s.flag F.CIO_HB_STAT_FAULT = false → s.cio.over_ = 0 →
    ∃ t, exec .heatBalance s = .next t ∧ t.flag F.CIO_HB_STAT_LOWP = false ∧ |(t.rd F.CIO_HB_STAT_Q : Rat) - (o - ti) * f * s.heatK| < 1 ∧
    OnlyRegs [.CIO_HB_STAT] { s with cio := t.cio, free := t.free } t) ∧
  (∀ (b : Fin 32) s, s.cio.latched.testBit b = true → s.sensPasses b = true →
    ∃ t, exec (.sensStatClear (BitVec.ofNat 32 (2 ^ b.val))) s = .next t ∧
    t.cio.latched.testBit b = false ∧ (s.cio.ranged.testBit b = false → t.sensBad b = false) ∧
    OnlyRegs [.CIO_SENS_STAT, .CIO_AI_CFG, .CIO_HB_STAT] { s with cio := t.cio, cle := t.cle } t) ∧
  (∀ (b : Fin 32) s, s.cio.latched.testBit b = true → s.sensPasses b = false →
    ∃ t, exec (.sensStatClear (BitVec.ofNat 32 (2 ^ b.val))) s = .next t ∧
    OnlyRegs [.CIO_HB_STAT] { s with cle := t.cle } t)

/-- Leak inputs, the valve's closure, acknowledgement, and digital inputs complete with their effect. LEAK_SAMPLE: a
channel off takes nothing; a new band starts its count; the fifth dry reading makes it DRY; the fifth wet one of a
responding channel sets WET, LATCH and LEAK_WET, enters a protective record, and with core power quiesces at duty 0;
the fifth broken one sets FAULT with its cause. VALVE_CLOSE_DELAY with the latch closes the valve; LEAK_ACK after 10 s
dry clears latch and closure and asks for compute; else neither has an effect. DI_CHANGE to the level it has does
nothing; an activation is shown, an emergency raises EMERG, and the third wake in 10 s is masked with DI_STUCK;
DI_STUCK_CLEAR clears the bits given. It rests on R326, R327, R328 (12_coolant_io.md, Digital inputs and outputs);
R330, R331, R332 (12_coolant_io.md, Leak sensing). -/
def Obligations.LeaksEmergenciesAndDigitalInputs : Prop :=
  (∀ (k : Fin 5) r s, s.leakOn k = false → exec (.leakSample k r) s = .next s) ∧
  (∀ (k : Fin 5) r s, s.leakOn k = true → leakBand r.toNat ≠ (getAt {} s.cio.leak k).band → ∃ t, exec (.leakSample k r) s = .next t ∧
    t = { s with cio := t.cio }) ∧
  (∀ (k : Fin 5) (r : Word) s, s.leakOn k = true → 8000 ≤ r.toNat → r.toNat ≤ 12000 → (getAt {} s.cio.leak k).band = 1 →
    4 ≤ (getAt {} s.cio.leak k).run → ∃ t,
    exec (.leakSample k r) s = .next t ∧ t.leakState k = 0 ∧ OnlyRegs [.CIO_LEAK_STAT] { s with cio := t.cio } t) ∧
  (∀ (k : Fin 5) (r : Word) s, s.leakOn k = true → s.leakResp k = true → 200 ≤ r.toNat → r.toNat ≤ 6000 → (getAt {} s.cio.leak k).band = 2 →
    4 ≤ (getAt {} s.cio.leak k).run → s.leakState k ≠ 1 → s.flag F.CIO_LEAK_STAT_LATCH = false → s.psState ≠ 3 → s.psState ≠ 4 →
      s.pwr.vcore = false → ∃ t,
    exec (.leakSample k r) s = .next t ∧ t.leakState k = 1 ∧ t.flag F.CIO_LEAK_STAT_LATCH = true ∧ t.flag F.CIO_STAT_LEAK = true ∧
    t.flag F.CIO_CAUSE_LEAK_WET = true ∧ t.evr.prot.length = s.evr.prot.length + 1 ∧
    OnlyLogs [.CIO_LEAK_STAT, .CIO_STAT, .CIO_CAUSE] { s with cio := t.cio, cle := t.cle, clarn := t.clarn } t) ∧
  (∀ (k : Fin 5) (r : Word) s, s.leakOn k = true → s.leakResp k = true → 200 ≤ r.toNat → r.toNat ≤ 6000 → (getAt {} s.cio.leak k).band = 2 →
    4 ≤ (getAt {} s.cio.leak k).run → s.leakState k ≠ 1 → s.flag F.CIO_LEAK_STAT_LATCH = false → s.psState ≠ 3 → s.psState ≠ 4 →
      s.pwr.vcore = true → ∃ t,
    exec (.leakSample k r) s = .next t ∧ t.leakState k = 1 ∧ t.flag F.CIO_LEAK_STAT_LATCH = true ∧ t.pwr.quiesce = true ∧
      t.rd F.PWR_GEAR_STAT_DUTY = 0) ∧
  (∀ (k : Fin 5) (r : Word) s, s.leakOn k = true → 15000 < r.toNat → (getAt {} s.cio.leak k).band = 3 → 4 ≤ (getAt {} s.cio.leak k).run →
    s.leakState k ≠ 2 → s.flag F.CIO_LEAK_CFG_FWET k = false → s.psState ≠ 3 → s.psState ≠ 4 → ∃ t, exec (.leakSample k r) s = .next t ∧
    t.leakState k = 2 ∧ t.flag F.CIO_CAUSE_LEAK_FAULT = true ∧ OnlyLogs [.CIO_LEAK_STAT, .CIO_CAUSE] { s with cio := t.cio } t) ∧
  (∀ s, s.flag F.CIO_LEAK_STAT_LATCH = true → ∃ t, exec .valveCloseDelay s = .next t ∧ t.flag F.CIO_LEAK_STAT_VCLOSED = true ∧
    t.act s.valveDst = s.valveShut ∧ OnlyRegs [.CIO_LEAK_STAT] { s with cle := t.cle } t) ∧
  (∀ s, s.flag F.CIO_LEAK_STAT_LATCH = false → exec .valveCloseDelay s = .next s) ∧
  (∀ d s, s.cio.dryAt = some d → s.flag F.CIO_LEAK_STAT_LATCH = true → d + 10000000000 ≤ s.up → s.pwr.vcore = true →
    ∃ t, exec .leakAck s = .next t ∧
    t.flag F.CIO_LEAK_STAT_LATCH = false ∧ t.flag F.CIO_STAT_LEAK = false ∧ t.flag F.CIO_LEAK_STAT_VCLOSED = false ∧
    OnlyRegs [.CIO_LEAK_STAT, .CIO_STAT] { s with cle := t.cle, clarn := t.clarn, pwr := { s.pwr with computeReq := true } } t) ∧
  (∀ d s, s.cio.dryAt = some d → s.up < d + 10000000000 → exec .leakAck s = .next s) ∧
  (∀ s, s.cio.dryAt = none → exec .leakAck s = .next s) ∧
  (∀ (d : Fin 8) high s, (s.rd F.CIO_DI_STAT_ACTIVE).testBit d = (high == s.flag F.CIO_DI_CFG_POL d) →
    exec (.diChange d high) s = .next s) ∧
  (∀ (d : Fin 8) s, (s.rd F.CIO_DI_STAT_ACTIVE).testBit d = false → s.rd F.CIO_DI_CFG_FUNC d = 0 → ∃ t,
    exec (.diChange d (s.flag F.CIO_DI_CFG_POL d)) s = .next t ∧ t.rd F.CIO_DI_STAT_ACTIVE = s.rd F.CIO_DI_STAT_ACTIVE ||| 2 ^ d.val ∧
    OnlyRegs [.CIO_DI_STAT] s t) ∧
  (∀ (d : Fin 8) s, (s.rd F.CIO_DI_STAT_ACTIVE).testBit d = false → s.rd F.CIO_DI_CFG_FUNC d = 3 → s.psState ≠ 3 → s.psState ≠ 4 →
    s.pwr.vcore = false → ∃ t,
    exec (.diChange d (s.flag F.CIO_DI_CFG_POL d)) s = .next t ∧ t.flag F.CIO_STAT_EMERG = true ∧ t.flag F.CIO_CAUSE_EMERG = true ∧
      t.emergOk = false ∧
    OnlyLogs [.CIO_DI_STAT, .CIO_STAT, .CIO_CAUSE] { s with clarn := t.clarn } t) ∧
  (∀ (d : Fin 8) s, (s.rd F.CIO_DI_STAT_ACTIVE).testBit d = false → s.rd F.CIO_DI_CFG_FUNC d = 1 →
    (s.rd F.CIO_DI_STAT_STUCK).testBit d = false →
    2 ≤ ((Assoc.get [] s.cio.wakes d).filter fun (t : Nat) => s.up ≤ t + 10000000000).length → ∃ t,
    exec (.diChange d (s.flag F.CIO_DI_CFG_POL d)) s = .next t ∧ t.rd F.CIO_DI_STAT_STUCK = s.rd F.CIO_DI_STAT_STUCK ||| 2 ^ d.val ∧
    t.flag F.CIO_CAUSE_DI_STUCK = true ∧ OnlyLogs [.CIO_DI_STAT, .CIO_CAUSE] { s with cio := t.cio } t) ∧
  (∀ (m : BitVec 8) s, ∃ t, exec (.diStuckClear m) s = .next t ∧ t.rd F.CIO_DI_STAT_STUCK = s.rd F.CIO_DI_STAT_STUCK &&& (255 - m.toNat) ∧
    OnlyRegs [.CIO_DI_STAT] s t)

/-- Control of the row is acquired, held, released and handed over; the interlock and heartbeats complete with their
effect. HEALTH_REACHED notes health. ACQUIRE_TIMEOUT in ACQUIRE with the peer's line high makes the module HOLDER with
gate open and slots started, from the mirror where one is held. ILK_IN_CHANGE to low closes a holder's gate and drops
its gated frames, and sends an acquiring unit of role 2 back to LISTEN. LISTEN_END goes to STANDBY or ACQUIRE by line
and heartbeat. HB_MISSING on standby with the line high takes over with TAKEOVER; with it low raises ILK_STUCK.
ILK_CONFLICT raises its cause. HOLDER_SELF_RELEASE and HANDOVER return the holder to STANDBY with its line released,
HANDBACK raised and the change logged; refused, HANDOVER raises CFGERR. MIRROR_OLD raises its cause. Conventions not
stated are the model's (log entry 25). It rests on R346, R347, R348, R349 (13_row_coordination.md, The interlock);
R351, R352 (13_row_coordination.md, Heartbeat and mirror); R353, R355, R356 (13_row_coordination.md, Who holds
control). -/
def Obligations.RowControlIsTakenHeldAndPassed : Prop :=
  (∀ s, ∃ t, exec .healthReached s = .next t ∧ t = { s with row := t.row } ∧ (s.wellNow = true → t.row.well = true) ∧
    (s.wellNow = false → t.row.well = false ∧ t.row.okAt = none)) ∧
  (∀ s, s.rowState = 2 → s.peerLow = false → s.row.mirror = none → ∃ t, exec .acquireTimeout s = .next t ∧ t.rowState = 3 ∧
    t.flag F.ROW_STAT_ILK_OWN = true ∧ t.flag F.ROW_STAT_GATE = true ∧ (∀ k, k < 32 → (s.reg .ROW_SLOTS 0).getLsbD k = true →
      (t.slot k).start = true) ∧
    OnlyRegs [.ROW_STAT, .ROW_PUMP] { s with row := t.row, clarn := t.clarn, cle := t.cle } t) ∧
  (∀ m s, s.rowState = 2 → s.peerLow = false → s.row.mirror = some m → 28 * s.rowSlots.length + 196 ≤ m.image.length → ∃ t,
    exec .acquireTimeout s = .next t ∧ t.rowState = 3 ∧ t.flag F.ROW_STAT_ILK_OWN = true ∧ t.flag F.ROW_STAT_GATE = true ∧
      t.row.outSeq = m.seq ∧
    t.rd F.ROW_BUDGET_TRIM = byteAt m.image (28 * s.rowSlots.length + 38) % 128 ∧
    OnlyRegs [.ROW_STAT, .ROW_PUMP, .ROW_MEMBER, .ROW_BUDGET, .CLE_SLOT_W_W, .CLE_SLOT_STAT] { s with row := t.row, clarn := t.clarn, cle := t.cle } t) ∧
  (∀ s, (s.rowState ≠ 2 ∨ s.peerLow = true) → exec .acquireTimeout s = .next s) ∧
  (∀ s, s.boot.off = false → s.rowState = 3 → ∃ t, exec (.ilkInChange true) s = .next t ∧ t.peerLow = true ∧
    t.flag F.ROW_STAT_GATE = false ∧
    t.rowState = 3 ∧ (∀ c, c < 2 → ∀ x ∈ (t.chan c).pend, gatedClass (idClass x.id) = false) ∧
    OnlyLogs [.ROW_STAT, .ROW_GATED_CNT, .ROW_CAUSE] { s with clarn := t.clarn } t) ∧
  (∀ s, s.boot.off = false → s.rowState = 2 → s.role = 2 → ∃ t, exec (.ilkInChange true) s = .next t ∧ t.rowState = 1 ∧
    t.flag F.ROW_STAT_ILK_OWN = false ∧ OnlyLogs [.ROW_STAT, .ROW_GATED_CNT, .ROW_CAUSE] { s with clarn := t.clarn } t) ∧
  (∀ low s, s.boot.off = true → exec (.ilkInChange low) s = .next s) ∧
  (∀ s, s.rowState = 0 → (s.role = 1 ∨ s.role = 2) → 7 ≤ s.rd F.CFG_STAT_STEP → s.rd F.CFG_STAT_STEP ≤ 10 →
    ∃ t, exec .listenEnd s = .next t ∧
    t.rowState = (if s.peerLow = true ∨ s.peerFlag 2 = true then 1 else 2) ∧ (t.flag F.ROW_STAT_ILK_OWN = true ↔ t.rowState = 2) ∧
    OnlyLogs [.ROW_STAT, .ROW_GATED_CNT, .ROW_CAUSE] { s with clarn := t.clarn } t) ∧
  (∀ s, (s.rowState ≠ 0 ∨ s.rd F.CFG_STAT_STEP < 7) → exec .listenEnd s = .next s) ∧
  (∀ s, s.role = 0 → exec .hbMissing s = .next s) ∧
  (∀ s, s.role ≠ 0 → s.rowState = 1 → s.peerLow = false → ∃ t, exec .hbMissing s = .next t ∧ t.rowState = 2 ∧
    t.flag F.ROW_STAT_ILK_OWN = true ∧
    t.flag F.ROW_STAT_HB_OK = false ∧ t.flag F.ROW_CAUSE_TAKEOVER = true ∧
    OnlyLogs [.ROW_STAT, .ROW_GATED_CNT, .ROW_CAUSE] { s with row := t.row, clarn := t.clarn } t) ∧
  (∀ s, s.role ≠ 0 → s.rowState = 1 → s.peerLow = true → s.row.stuck = false → ∃ t, exec .hbMissing s = .next t ∧ t.rowState = 1 ∧
    t.flag F.ROW_STAT_HB_OK = false ∧ t.flag F.ROW_CAUSE_ILK_STUCK = true ∧ OnlyLogs [.ROW_STAT, .ROW_CAUSE] { s with row := t.row } t) ∧
  (∀ s, s.role ≠ 0 → s.rowState ≠ 1 → ∃ t, exec .hbMissing s = .next t ∧ t.flag F.ROW_STAT_HB_OK = false ∧ t.rowState = s.rowState ∧
    OnlyRegs [.ROW_STAT] { s with row := t.row } t) ∧
  (∀ s, s.rowState = 1 → s.peerLow = false → s.peerFlag 2 = true → ∃ t, exec .ilkConflict s = .next t ∧
    t.flag F.ROW_CAUSE_ILK_CONFLICT = true ∧
    OnlyLogs [.ROW_CAUSE] s t) ∧
  (∀ s, (s.rowState ≠ 1 ∨ s.peerLow = true ∨ s.peerFlag 2 = false) → exec .ilkConflict s = .next s) ∧
  (∀ (w : Fin 3) s, s.rowState = 3 → w.val < 2 → ∃ t, exec (.holderSelfRelease w) s = .next t ∧ t.rowState = 1 ∧
    t.flag F.ROW_STAT_ILK_OWN = false ∧
    t.flag F.ROW_STAT_GATE = false ∧
      OnlyLogs [.ROW_STAT, .ROW_GATED_CNT, .ROW_CAUSE] { s with row := t.row, clarn := t.clarn, free := t.free } t) ∧
  (∀ s, s.rowState = 3 → s.role = 1 → s.peerLow = true → ∃ t, exec (.holderSelfRelease 2) s = .next t ∧ t.rowState = 1 ∧
    t.flag F.ROW_STAT_ILK_OWN = false ∧
    t.flag F.ROW_CAUSE_ILK_CONFLICT = true ∧ OnlyLogs [.ROW_STAT, .ROW_GATED_CNT, .ROW_CAUSE] { s with row := t.row, clarn := t.clarn } t) ∧
  (∀ w s, s.rowState ≠ 3 → exec (.holderSelfRelease w) s = .next s) ∧
  (∀ m s, s.evr.chg.length < 64 → s.rowState = 3 → s.flag F.ROW_STAT_HB_OK = true → s.peerFlag 5 = true →
    ∃ t, exec (.handover m) s = .next t ∧
    t.rowState = 1 ∧ t.flag F.ROW_STAT_ILK_OWN = false ∧ t.row.releasing = true ∧ t.flag F.ROW_CAUSE_HANDBACK = true ∧
    (s.role = 1 → t.flag F.ROW_STAT_NOREVERT = true) ∧ (s.role = 2 → t.flag F.ROW_STAT_NOREVERT = false) ∧
      t.evr.chg.length = s.evr.chg.length + 1 ∧
    OnlyLogs [.ROW_STAT, .ROW_GATED_CNT, .ROW_CAUSE] { s with row := t.row, clarn := t.clarn, free := t.free } t) ∧
  (∀ m s, s.evr.chg.length < 64 → (s.rowState ≠ 3 ∨ s.flag F.ROW_STAT_HB_OK = false) → ∃ t, exec (.handover m) s = .next t ∧
    t.flag F.ROW_CAUSE_CFGERR = true ∧ t.rowState = s.rowState ∧ OnlyLogs [.ROW_STAT, .ROW_CAUSE] { s with free := t.free } t) ∧
  (∀ s, s.role ≠ 0 → s.rowState ≠ 3 → s.row.mirror.isSome = true → ∃ t, exec .mirrorOld s = .next t ∧ t.flag F.ROW_CAUSE_MIRROR_OLD = true ∧
    OnlyLogs [.ROW_CAUSE] { s with row := t.row } t) ∧
  (∀ s, (s.role = 0 ∨ s.rowState = 3 ∨ s.row.mirror = none) → exec .mirrorOld s = .next s)

/-- Pump failures and rotation, the row budget and the member caps complete with their effect. PUMPCLR makes a failed
fitted pump READY, no other changing. PUMP_STATUS_TIMEOUT at the holder fails a silent pump with PUMP_FAIL, a slow one
only on duty. PUMP_ROTATION starts the ready pump of fewest hours beside the one of most, and ROTATION_STOP_OLD stops
that one. STARTUP_PUMP_KICK_END ends the kick. ROW_BUDGET_COMPUTE at the holder: a silent member is held at its cap or
STALE_CAP as R276 clamps it, whichever is more, and marked; a heard one gets 600 W to 2400 W; entries not valid stay.
CAP_TABLE_STALE at a member that had a table sets STALE with STALE_CAP, ROW_STALE and the effective cap. Off the
holder the row commands change nothing. Ties and the trim's order are the model's (log entry 57). It rests on R345
(13_row_coordination.md, Roles and the row unit); R357, R358, R360 (13_row_coordination.md, The cap table); R361
(13_row_coordination.md, When events meet); R438 (17_startup_and_configuration.md, Power-up, step by step). -/
def Obligations.RowPumpsBudgetAndCaps : Prop :=
  (∀ (k : Fin 4) s, s.rowState ≠ 3 → s.flag F.ROW_PUMP_FITTED k = true → s.pumpSt k = 3 →
    ∃ t, exec (.pumpclr (BitVec.ofNat 4 (2 ^ k.val))) s = .next t ∧
    t.pumpSt k = 1 ∧ (∀ j, j < 4 → j ≠ k.val → t.pumpSt j = s.pumpSt j) ∧ OnlyRegs [.ROW_PUMP] s t) ∧
  (∀ m s, s.pumpsIn 3 = [] → s.rowState ≠ 3 → exec (.pumpclr m) s = .next s) ∧
  (∀ (k : Fin 4) s, s.rowState = 3 → s.flag F.ROW_PUMP_FITTED k = true → s.pumpSt k ≠ 3 →
    ∃ t, exec (.pumpStatusTimeout k false) s = .next t ∧
    t.pumpSt k = 3 ∧ t.flag F.ROW_CAUSE_PUMP_FAIL = true ∧ (∀ j, j < 4 → j ≠ k.val → s.pumpSt j ≠ 1 → t.pumpSt j = s.pumpSt j) ∧
    OnlyLogs [.ROW_PUMP, .ROW_CAUSE] { s with row := t.row } t) ∧
  (∀ (k : Fin 4) s, s.pumpSt k ≠ 2 → exec (.pumpStatusTimeout k true) s = .next s) ∧
  (∀ k b s, s.rowState ≠ 3 → exec (.pumpStatusTimeout k b) s = .next s) ∧
  (∀ o n s, s.rowState = 3 → s.rd F.ROW_PUMP_CFG_ROTATE ≠ 0 → s.byHours true (s.pumpsIn 2) = some o →
    s.byHours false (s.pumpsIn 1) = some n → ∃ t,
    exec .pumpRotation s = .next t ∧ t.pumpSt n = 2 ∧ t.pumpSt o = 2 ∧ t.row.stopping = some o ∧
      OnlyRegs [.ROW_PUMP] { s with row := t.row } t) ∧
  (∀ s, (s.rowState ≠ 3 ∨ s.rd F.ROW_PUMP_CFG_ROTATE = 0) → exec .pumpRotation s = .next s) ∧
  (∀ k s, s.row.stopping = some k → s.rowState = 3 → s.pumpSt k = 2 → ∃ t, exec .rotationStopOld s = .next t ∧ t.pumpSt k = 1 ∧
    t.row = { s.row with stopping := none } ∧ OnlyRegs [.ROW_PUMP] { s with row := t.row } t) ∧
  (∀ s, s.row.stopping = none → exec .rotationStopOld s = .next s) ∧
  (∀ s, exec .startupPumpKickEnd s = .next { s with row := { s.row with kick := false } }) ∧
  (∀ s, s.rowState ≠ 3 → exec .rowBudgetCompute s = .next s) ∧
  (∀ s, s.rowState = 3 → ∃ t, exec .rowBudgetCompute s = .next t ∧ t.row.capSeq = (s.row.capSeq + 1) % 65536 ∧
    (∀ i, i < 96 → s.flag F.ROW_MEMBER_VALID i = true → s.silentNow i = true →
      t.rd F.ROW_MEMBER_CAP i = max (s.rd F.ROW_MEMBER_CAP i) ((capActs (s.rd F.ROW_CFG_STALE_CAP)).getD 0) ∧
        t.flag F.ROW_MEMBER_SILENT i = true) ∧
    (∀ i, i < 96 → s.flag F.ROW_MEMBER_VALID i = true → s.silentNow i = false →
      600 ≤ t.rd F.ROW_MEMBER_CAP i ∧ t.rd F.ROW_MEMBER_CAP i ≤ 2400 ∧ t.flag F.ROW_MEMBER_SILENT i = false) ∧
    (∀ i, i < 96 → s.flag F.ROW_MEMBER_VALID i = false → t.reg .ROW_MEMBER i = s.reg .ROW_MEMBER i) ∧
    OnlyLogs [.ROW_BUDGET, .ROW_PUMP, .ROW_MEMBER, .ROW_CAUSE] { s with row := t.row, free := t.free } t) ∧
  (∀ s, s.flag F.ROW_CFG_MEMBER = true → s.row.tableAt.isSome = true → s.flag F.PWR_CAP_ROW_STALE = false →
    ∃ t, exec .capTableStale s = .next t ∧
    t.flag F.PWR_CAP_ROW_STALE = true ∧ t.rd F.PWR_CAP_ROW_WATTS = s.rd F.ROW_CFG_STALE_CAP ∧ t.flag F.PWR_CAUSE_ROW_STALE = true ∧
    t.rd F.PWR_CAP_EFF_WATTS = t.capNow.1 ∧ OnlyLogs [.PWR_CAP_ROW, .PWR_CAP_EFF, .PWR_CAUSE] s t) ∧
  (∀ s, (s.flag F.ROW_CFG_MEMBER = false ∨ s.row.tableAt = none ∨ s.flag F.PWR_CAP_ROW_STALE = true) → exec .capTableStale s = .next s)

/-- Clarn cycles, schedule slots, transmission, bus errors, the event and receive queues complete with their effect.
CYCLE_START moves the cycle on and forgets staged frames; the holder sends REF on each enabled channel. REF_LOST
raises its cause. SCHED_SLOT of a heartbeat entry puts the heartbeat on each enabled channel; an entry not valid does
nothing. CLARN_TX_DONE of a pending frame removes it, lowers TEC and shows the delay in TDCV where compensation
applies; a delay above 127 there is a bit error, TEC rises by 8 and the frame stays. CLARN_BUS_ERROR writes counters
and state by the thresholds 127 and 255, with causes; BUSOFF_RECOVERY clears them. SUBMIT of a legal length takes the
lowest entry, raises EVQ_FULL with none, CFGERR with a bad length; CANCEL takes it out. CLN_RXQ_ACK drops the oldest.
CLN_CH_CFG_WRITE enables with sound timing, else CFGERR; disabling drops all pending. SEQ_FORGET forgets. The error
thresholds are PRESUMED, other conventions the model's (log entry 26). It rests on R365, R366 (14_clarn_bus.md,
Controllers and transceivers); R367 (14_clarn_bus.md, Bit timing); R370 (14_clarn_bus.md, Identifiers and the sequence
byte); R374, R375, R376, R379, R380 (14_clarn_bus.md, Sending); R382 (14_clarn_bus.md, Receiving); R384
(14_clarn_bus.md, Errors and test modes); R387 (14_clarn_bus.md, Registers). -/
def Obligations.ClarnChannelsCyclesAndQueues : Prop :=
  (∀ s, s.boot.off = false → s.rowState = 3 → ∃ t, exec .cycleStart s = .next t ∧ t.clarn.cycle = (s.clarn.cycle + 1) % s.ncyc ∧
    t.clarn.staged = [] ∧
    t.clarn.prevRef = some s.timeBase.toNat ∧
    (∀ c, c < 2 → c < s.clarn.ch.length → s.flag F.CLN_CH_CFG_EN c = true → s.gateOpen = true →
      ∃ x ∈ (t.chan c).pend, x.id = clarnId 0 0 s.node) ∧
    OnlyLogs [.SUPERSEDED, .ROW_GATED_CNT, .ROW_CAUSE] { s with clarn := t.clarn } t) ∧
  (∀ s, s.boot.off = false → s.rowState ≠ 3 → s.clarn.noRef = true → ∃ t, exec .cycleStart s = .next t ∧ t = { s with clarn := t.clarn } ∧
    t.clarn.cycle = (s.clarn.cycle + 1) % s.ncyc ∧ t.clarn.staged = []) ∧
  (∀ s, (s.boot.off = true ∨ s.rowState ≠ 3 ∧ s.clarn.noRef = false) → exec .cycleStart s = .next s) ∧
  (∀ (c : Fin 2) s, s.rowState ≠ 3 → s.clarn.noRef = false → s.chanOn c = true → ∃ t, exec .refLost s = .next t ∧
    t.clarn = { s.clarn with noRef := true } ∧
    t.flag F.CLN_CAUSE_REF_LOST = true ∧ OnlyLogs [.CLN_CAUSE] { s with clarn := t.clarn } t) ∧
  (∀ s, (s.rowState = 3 ∨ s.clarn.noRef = true) → exec .refLost s = .next s) ∧
  (∀ (k : Fin 32) s, (k.val = 0 ∨ s.boot.off = true ∨ fieldOf (s.inForce .CLN_SCHED (32 * s.clarn.cycle + k)) F.CLN_SCHED_VALID = 0) →
    exec (.schedSlot k) s = .next s) ∧
  (∀ (k : Fin 32) n s, k.val ≠ 0 → s.boot.off = false → s.clarn.cycle < s.ncyc → s.role ≠ 0 →
    s.inForce .CLN_SCHED (32 * s.clarn.cycle + k) = BitVec.ofNat 32 (0x8000 + n % 128 * 256 + 2) → ∃ t, exec (.schedSlot k) s = .next t ∧
    (∀ c, c < 2 → c < s.clarn.ch.length → s.flag F.CLN_CH_CFG_EN c = true →
      ∃ x ∈ (t.chan c).pend, x.id = clarnId 2 2 (n % 128) ∧ x.data.drop 1 = s.hbBody ∧ x.src = 33) ∧
        OnlyRegs [.SUPERSEDED] { s with clarn := t.clarn } t) ∧
  (∀ (c : Fin 2) (x : Tx) (i : BitVec 29) d s, s.chanOn c = true → s.rd F.CLN_CH_CFG_MODE c = 0 → (s.tdcOn c = false ∨ d ≤ 127) →
    (s.chan c).pend = [x] → x.id = i.toNat → ∃ t,
    exec (.clarnTxDone c i d) s = .next t ∧ (t.chan c).pend = [] ∧ (s.tdcOn c = true → t.rd F.CLN_CH_STAT_TDCV c = d) ∧
      t.rd F.CLN_CH_STAT_TEC c = s.rd F.CLN_CH_STAT_TEC c - 1 ∧
    OnlyRegs [.CLN_CH_STAT, .CLN_EVQ_BUSY] { s with clarn := t.clarn } t) ∧
  (∀ (c : Fin 2) (x : Tx) (i : BitVec 29) d s, s.chanOn c = true → (s.chan c).pend = [x] → x.id = i.toNat → s.tdcOn c = true → 127 < d →
    s.rd F.CLN_CH_STAT_STATE c = 0 → s.rd F.CLN_CH_STAT_TEC c + 8 ≤ 127 → s.rd F.CLN_CH_STAT_REC c ≤ 127 →
      ∃ t, exec (.clarnTxDone c i d) s = .next t ∧
    t.rd F.CLN_CH_STAT_TEC c = s.rd F.CLN_CH_STAT_TEC c + 8 ∧ (t.chan c).pend = [x]) ∧
  (∀ (c : Fin 2) (i : BitVec 29) d s, (s.chanOn c = false ∨ ∀ x ∈ (s.chan c).pend, x.id ≠ i.toNat) →
    exec (.clarnTxDone c i d) s = .next s) ∧
  (∀ (c : Fin 2) tec r s, s.chanOn c = true → 255 < tec.toNat → ∃ t, exec (.clarnBusError c tec r) s = .next t ∧
    t.rd F.CLN_CH_STAT_STATE c = 2 ∧
    t.rd F.BUSOFF_CNT_COUNT c = satInc 32 (s.rd F.BUSOFF_CNT_COUNT c) ∧ (t.reg .CLN_CAUSE 0).getLsbD c = true ∧
    OnlyLogs [.CLN_CH_STAT, .BUSOFF_CNT, .CLN_CAUSE] { s with row := t.row } t) ∧
  (∀ (c : Fin 2) tec r s, s.chanOn c = true → s.rd F.CLN_CH_STAT_STATE c ≠ 1 → tec.toNat ≤ 255 → (127 < tec.toNat ∨ 127 < r.toNat) → ∃ t,
    exec (.clarnBusError c tec r) s = .next t ∧ t.rd F.CLN_CH_STAT_STATE c = 1 ∧ (t.reg .CLN_CAUSE 0).getLsbD (2 + c) = true ∧
    t.rd F.CLN_CH_STAT_TEC c = tec.toNat ∧ OnlyLogs [.CLN_CH_STAT, .CLN_CAUSE] { s with row := t.row } t) ∧
  (∀ (c : Fin 2) tec r s, s.chanOn c = true → tec.toNat ≤ 127 → r.toNat ≤ 127 → ∃ t, exec (.clarnBusError c tec r) s = .next t ∧
    t.rd F.CLN_CH_STAT_STATE c = 0 ∧ t.rd F.CLN_CH_STAT_TEC c = tec.toNat ∧ t.rd F.CLN_CH_STAT_REC c = r.toNat ∧
    OnlyRegs [.CLN_CH_STAT] { s with row := t.row } t) ∧
  (∀ (c : Fin 2) tec r s, s.chanOn c = false → exec (.clarnBusError c tec r) s = .next s) ∧
  (∀ (c : Fin 2) s, s.flag F.CLN_CH_CFG_EN c = true → s.rd F.CLN_CH_STAT_STATE c = 2 → ∃ t, exec (.busoffRecovery c) s = .next t ∧
    t.rd F.CLN_CH_STAT_STATE c = 0 ∧ t.rd F.CLN_CH_STAT_TEC c = 0 ∧ t.rd F.CLN_CH_STAT_REC c = 0 ∧ OnlyRegs [.CLN_CH_STAT] s t) ∧
  (∀ (c : Fin 2) s, s.rd F.CLN_CH_STAT_STATE c ≠ 2 → exec (.busoffRecovery c) s = .next s) ∧
  (∀ s, fdLen (s.rd F.CLN_EVQ_LEN_LEN) = false → ∃ t, exec .submit s = .next t ∧ t.flag F.CLN_CAUSE_CFGERR = true ∧
    OnlyLogs [.CLN_CAUSE] s t) ∧
  (∀ s, fdLen (s.rd F.CLN_EVQ_LEN_LEN) = true → s.reg .CLN_EVQ_BUSY 0 = 0xFFFFFFFF → ∃ t, exec .submit s = .next t ∧
    t.flag F.CLN_CAUSE_EVQ_FULL = true ∧ OnlyLogs [.CLN_CAUSE] s t) ∧
  (∀ (c : Fin 2) s, fdLen (s.rd F.CLN_EVQ_LEN_LEN) = true → s.reg .CLN_EVQ_BUSY 0 = 0 → s.rd F.CLN_EVQ_ID_CH = 0 → s.clarn.ch.length = 2 →
    s.flag F.CLN_CH_CFG_EN c = true → gatedClass (idClass (s.rd F.CLN_EVQ_ID_ID)) = false → ∃ t, exec .submit s = .next t ∧
    t.rd F.CLN_EVQ_CMD_LAST = 0 ∧ (t.reg .CLN_EVQ_BUSY 0).getLsbD 0 = true ∧ (∃ x ∈ (t.chan c).pend, x.id = s.rd F.CLN_EVQ_ID_ID ∧
      x.src = 0) ∧
    OnlyRegs [.CLN_EVQ_CMD, .CLN_EVQ_BUSY] { s with clarn := t.clarn } t) ∧
  (∀ (e : BitVec 5) s, s.clarn.ch.length = 2 → ∃ t, exec (.cancel e) s = .next t ∧ (t.reg .CLN_EVQ_BUSY 0).getLsbD e.toNat = false ∧
    (∀ c, c < 2 → (t.chan c).pend = (s.chan c).pend.filter fun x => x.src ≠ e.toNat) ∧
      OnlyRegs [.CLN_EVQ_CMD, .CLN_EVQ_BUSY] { s with clarn := t.clarn } t) ∧
  (∀ (c : Fin 2) (n : BitVec 9) s, n.toNat ≤ (s.chan c).rxq.length → (s.chan c).rxq.length ≤ 256 → ∃ t, exec (.clnRxqAck c n) s = .next t ∧
    (t.chan c).rxq = (s.chan c).rxq.drop n.toNat ∧ t.rd F.CLN_RXQ_STAT_FILL c = (s.chan c).rxq.length - n.toNat ∧
    t.rd F.CLN_RXQ_STAT_OLDEST c = (s.rd F.CLN_RXQ_STAT_OLDEST c + n.toNat) % 256 ∧
      OnlyRegs [.CLN_RXQ_STAT] { s with clarn := t.clarn } t) ∧
  (∀ (c : Fin 2) w s, s.flag F.CLN_CH_CFG_EN c = false → fieldOf w F.CLN_CH_CFG_EN = 1 → s.timingOk c = true →
    fieldOf w F.CLN_CH_CFG_MODE ≠ 3 → ∃ t,
    exec (.clnChCfgWrite c w) s = .next t ∧ t.flag F.CLN_CH_CFG_EN c = true ∧ t.rd F.CLN_CH_CFG_MODE c = fieldOf w F.CLN_CH_CFG_MODE ∧
    t.rd F.CLN_CH_STAT_STATE c = 0 ∧ t.rd F.CLN_CH_STAT_TEC c = 0 ∧ t.rd F.CLN_CH_STAT_REC c = 0 ∧
      OnlyRegs [.CLN_CH_CFG, .CLN_CH_STAT] s t) ∧
  (∀ (c : Fin 2) w s, s.flag F.CLN_CH_CFG_EN c = false → fieldOf w F.CLN_CH_CFG_EN = 1 → s.timingOk c = false →
    ∃ t, exec (.clnChCfgWrite c w) s = .next t ∧
    t.flag F.CLN_CH_CFG_EN c = false ∧ t.flag F.CLN_CAUSE_CFGERR = true ∧ OnlyLogs [.CLN_CH_CFG, .CLN_CAUSE] s t) ∧
  (∀ (c : Fin 2) w s, s.flag F.CLN_CH_CFG_EN c = true → fieldOf w F.CLN_CH_CFG_EN = 1 →
    fieldOf w F.CLN_CH_CFG_MODE ≠ s.rd F.CLN_CH_CFG_MODE c → ∃ t,
    exec (.clnChCfgWrite c w) s = .next t ∧ t.rd F.CLN_CH_CFG_MODE c = s.rd F.CLN_CH_CFG_MODE c ∧ t.flag F.CLN_CAUSE_CFGERR = true ∧
    OnlyLogs [.CLN_CH_CFG, .CLN_CAUSE] s t) ∧
  (∀ (c : Fin 2) s, s.flag F.CLN_CH_CFG_EN c = true → c.val < s.clarn.ch.length → ∃ t,
    exec (.clnChCfgWrite c (setField (s.reg .CLN_CH_CFG c) F.CLN_CH_CFG_EN 0)) s = .next t ∧ t.flag F.CLN_CH_CFG_EN c = false ∧
    t.rd F.CLN_CH_STAT_STATE c = 3 ∧ (t.chan c).pend = [] ∧
      OnlyRegs [.CLN_CH_CFG, .CLN_CH_STAT, .CLN_EVQ_BUSY] { s with clarn := t.clarn } t) ∧
  (∀ i s, exec (.seqForget i) s = .next { s with clarn := { s.clarn with held := Assoc.erase s.clarn.held i.toNat } })

/-- A received frame is refused, ignored, filtered, queued, or taken by its class with that class's effect. A payload of a
length no frame has is filled up with zeros (log entry 8), and each row's command does what the frame received does. A
frame on a channel that does not hear, or sends only, is not taken; one not of the catalogue's form is counted in
IGNORED, a repeated SEQ in DUPLICATE; one of a masked class without meaning is queued. A heard frame is held as the
latest of its class, and: REF sets the cycle, CAP_TABLE with its parts complete the cap, HB the peer and HB_OK with
CFG_DIFF, MIRROR the mirror, MOD_STATUS the member's power, PUMP_STATUS with its fault bit fails the pump, NODE_HELLO
raises HELLO; MOD_ALARM, VALVE_STATUS, SENSOR_VALUE and LEAK_STATUS are kept. Frames name the registers that may
change. It rests on R344, R345 (13_row_coordination.md, Roles and the row unit); R350, R351 (13_row_coordination.md,
Heartbeat and mirror); R358, R359 (13_row_coordination.md, The cap table); R369, R370 (14_clarn_bus.md, Identifiers
and the sequence byte); R371 (14_clarn_bus.md, The message catalogue); R382, R383 (14_clarn_bus.md, Receiving). -/
def Obligations.ClarnFramesReceivedAndActedOn : Prop :=
  (∀ c f s, fdLen f.data.length = false → exec (.clarnFrameReceive c f) s = exec (.clarnFrameReceive c { f with data := fdData f.data }) s ∧
    fdLen (fdData f.data).length = true) ∧
  (∀ c f s, exec (.ref c f) s = exec (.clarnFrameReceive c f) s ∧ exec (.capTable c f) s = exec (.clarnFrameReceive c f) s ∧
    exec (.hb c f) s = exec (.clarnFrameReceive c f) s ∧ exec (.mirror c f) s = exec (.clarnFrameReceive c f) s ∧
    exec (.modStatus c f) s = exec (.clarnFrameReceive c f) s ∧ exec (.modAlarm c f) s = exec (.clarnFrameReceive c f) s ∧
    exec (.pumpStatus c f) s = exec (.clarnFrameReceive c f) s ∧ exec (.valveStatus c f) s = exec (.clarnFrameReceive c f) s ∧
    exec (.sensorValue c f) s = exec (.clarnFrameReceive c f) s ∧ exec (.leakStatus c f) s = exec (.clarnFrameReceive c f) s ∧
    exec (.nodeHello c f) s = exec (.clarnFrameReceive c f) s) ∧
  (∀ (c : Fin 2) f s, fdLen f.data.length = true → (s.chanOn c = false ∨ s.rd F.CLN_CH_CFG_MODE c = 1) →
    exec (.clarnFrameReceive c f) s = .next s) ∧
  (∀ (c : Fin 2) f s, fdLen f.data.length = true → s.chanOn c = true → s.rd F.CLN_CH_CFG_MODE c ≠ 1 →
    (f.fdExt = false ∨ f.id.toNat % 2 ^ 13 ≠ 0) → ∃ t,
    exec (.clarnFrameReceive c f) s = .next t ∧ t.rd F.IGNORED_COUNT c = satInc 32 (s.rd F.IGNORED_COUNT c) ∧
    OnlyRegs [.CLN_CH_STAT, .IGNORED] { s with free := t.free } t) ∧
  (∀ (c : Fin 2) f s, fdLen f.data.length = true → s.chanOn c = true → s.rd F.CLN_CH_CFG_MODE c ≠ 1 → f.fdExt = true →
    f.id.toNat % 2 ^ 13 = 0 →
    s.rxAccepts f.id.toNat (byteAt f.data 0) = false → ∃ t, exec (.clarnFrameReceive c f) s = .next t ∧
    t.rd F.DUPLICATE_COUNT c = satInc 32 (s.rd F.DUPLICATE_COUNT c) ∧ OnlyRegs [.CLN_CH_STAT, .DUPLICATE] { s with free := t.free } t) ∧
  (∀ (c : Fin 2) f s, fdLen f.data.length = true → s.chanOn c = true → s.rd F.CLN_CH_CFG_MODE c = 0 → f.fdExt = true →
    f.id.toNat % 2 ^ 13 = 0 →
    16 ≤ idClass f.id.toNat → idClass f.id.toNat < 32 → s.rxAccepts f.id.toNat (byteAt f.data 0) = true → c.val < s.clarn.ch.length →
    (s.reg .CLN_RXQ_MASK_LO 0).getLsbD (idClass f.id.toNat) = true → (s.chan c).rxq.length < 256 →
      ∃ t, exec (.clarnFrameReceive c f) s = .next t ∧
    (t.chan c).rxq = (s.chan c).rxq ++ [{ stamp := s.micros, id := f.id.toNat, loop := false, data := f.data }] ∧
    t.rd F.CLN_RXQ_STAT_FILL c = (s.chan c).rxq.length + 1 ∧
      OnlyRegs [.CLN_CH_STAT, .CLN_RXQ_STAT] { s with clarn := t.clarn, free := t.free } t) ∧
  (∀ (c : Fin 2) f s, s.hears c f 0 = true → s.rowState ≠ 3 → ∃ t, exec (.ref c f) s = .next t ∧ Kept f 0 s t ∧
    t.clarn.cycle = byteAt f.data 1 % 16 ∧
    t.clarn.noRef = false ∧ OnlyLogs rxRegs { s with clarn := t.clarn, row := t.row, free := t.free } t) ∧
  (∀ (c : Fin 2) f s, s.hears c f 1 = true → s.flag F.ROW_CFG_MEMBER = true → byteAt f.data 1 = s.node / 32 → s.node / 32 < 3 →
    (∀ p < 3, p ≠ s.node / 32 → (s.row.tparts.any fun (e : Nat × Nat × List Byte) => e.1 = leAt f.data 2 2 ∧ e.2.1 = p) = true) →
    bitsOf (leAt (sliceAt f.data 4 48) 0 48) (12 * (s.node % 32)) 12 ≠ 0 → ∃ t, exec (.capTable c f) s = .next t ∧ Kept f 1 s t ∧
    t.rd F.PWR_CAP_ROW_WATTS = bitsOf (leAt (sliceAt f.data 4 48) 0 48) (12 * (s.node % 32)) 12 ∧ t.flag F.PWR_CAP_ROW_STALE = false ∧
    t.row.tableAt = some s.up ∧ t.row.tseq = leAt f.data 2 2 ∧
    OnlyLogs (rxRegs ++ [.PWR_CAP_ROW, .PWR_CAP_EFF, .PWR_CAUSE]) { s with clarn := t.clarn, row := t.row, free := t.free } t) ∧
  (∀ (c : Fin 2) f s, s.hears c f 2 = true → s.role ≠ 0 → ∃ t, exec (.hb c f) s = .next t ∧ Kept f 2 s t ∧ t.flag F.ROW_STAT_HB_OK = true ∧
    t.row.peer = some { at_ := s.up, flags := byteAt f.data 1, seq := leAt f.data 2 2, hash := sliceAt f.data 4 4 } ∧
    (sliceAt f.data 4 4 ≠ s.rowHash → s.row.diff = false → t.flag F.ROW_CAUSE_CFG_DIFF = true) ∧
    OnlyLogs (rxRegs ++ [.ROW_STAT, .ROW_CAUSE, .ROW_GATED_CNT]) { s with clarn := t.clarn, row := t.row, free := t.free } t) ∧
  (∀ (c : Fin 2) f s, s.hears c f 3 = true → s.role ≠ 0 → s.rowState = 0 → byteAt f.data 1 = 0 → byteAt f.data 2 = 1 → ∃ t,
    exec (.mirror c f) s = .next t ∧ Kept f 3 s t ∧
      t.row.mirror = some { seq := leAt f.data 4 2, at_ := s.up, image := sliceAt f.data 8 56 } ∧ t.row.parts = [] ∧
    OnlyLogs rxRegs { s with clarn := t.clarn, row := t.row, free := t.free } t) ∧
  (∀ (c : Fin 2) f s, s.hears c f 4 = true → s.role ≠ 0 → idNode f.id.toNat < 96 → s.flag F.ROW_MEMBER_VALID (idNode f.id.toNat) = true →
    ∃ t,
    exec (.modStatus c f) s = .next t ∧ Kept f 4 s t ∧ t.rd F.ROW_MEMBER_P (idNode f.id.toNat) = min 4095 (leAt f.data 2 2) ∧
    t.silentNow (idNode f.id.toNat) = false ∧ (∀ i, i ≠ idNode f.id.toNat → t.reg .ROW_MEMBER i = s.reg .ROW_MEMBER i) ∧
    OnlyLogs (rxRegs ++ [.ROW_MEMBER]) { s with clarn := t.clarn, row := t.row, free := t.free } t) ∧
  (∀ (c : Fin 2) (k : Fin 4) f s, s.hears c f 9 = true → (byteAt f.data 1).testBit 1 = true → s.rowState = 3 →
    s.flag F.ROW_PUMP_FITTED k = true →
    s.rd F.ROW_PUMP_NODE k = idNode f.id.toNat → s.pumpSt k ≠ 3 → ∃ t, exec (.pumpStatus c f) s = .next t ∧ Kept f 9 s t ∧ t.pumpSt k = 3 ∧
    t.flag F.ROW_CAUSE_PUMP_FAIL = true ∧
      OnlyLogs (rxRegs ++ [.ROW_PUMP, .ROW_CAUSE]) { s with clarn := t.clarn, row := t.row, free := t.free } t) ∧
  (∀ (c : Fin 2) f s, (s.hears c f 5 = true → ∃ t, exec (.modAlarm c f) s = .next t ∧ Kept f 5 s t ∧
      OnlyLogs rxRegs { s with clarn := t.clarn, row := t.row, free := t.free } t) ∧
    (s.hears c f 11 = true → ∃ t, exec (.valveStatus c f) s = .next t ∧ Kept f 11 s t ∧
      OnlyLogs rxRegs { s with clarn := t.clarn, row := t.row, free := t.free } t) ∧
    (s.hears c f 12 = true → ∃ t, exec (.sensorValue c f) s = .next t ∧ Kept f 12 s t ∧
      OnlyLogs rxRegs { s with clarn := t.clarn, row := t.row, free := t.free } t) ∧
    (s.hears c f 13 = true → ∃ t, exec (.leakStatus c f) s = .next t ∧ Kept f 13 s t ∧
      OnlyLogs rxRegs { s with clarn := t.clarn, row := t.row, free := t.free } t) ∧
    (s.hears c f 15 = true → ∃ t, exec (.nodeHello c f) s = .next t ∧ Kept f 15 s t ∧ t.flag F.CLN_CAUSE_HELLO = true ∧
      OnlyLogs rxRegs { s with clarn := t.clarn, row := t.row, free := t.free } t))

/-- The heat meter calculates, stores, watches its seal and answers M-Bus. METER_CALC while the meter does not run counts
error time. Running on water within its ranges it adds within 1 of v * k * dT to the legal register, within 1 of the
volume, and nothing to the others; below the least flow, with no heat given, or with a temperature out of range it
adds no heat, the last counting error time with its flag. METER_COMMIT stores the registers; METER_SUPPLY_FAIL stores
and stops. SEAL_CHECK opens and closes the loop, opening setting its flag. SND_NKE, REQ_UD2 and SND_UD of its address
answer; the medium changes only with the seal open and is counted. METER_FW_UPDATE with the seal open takes a signed
image and counts it. k is an opaque constant (log entry 44); 0xFD counts as its address while it is selected (log
entry 45). It rests on R390 (15_heat_meter.md, The measuring part); R391, R392 (15_heat_meter.md, Calculation); R394
(15_heat_meter.md, Faults and error time); R395 (15_heat_meter.md, Storage and power loss); R396, R397, R398
(15_heat_meter.md, Sealing and changes); R399, R400 (15_heat_meter.md, M-Bus readout). -/
def Obligations.MeterCalculatesStoresAndSeals : Prop :=
  (∀ v f ti o nt so s, s.meter.running = false → exec (.meterCalc v f ti o nt so) s =
    .next { s with meter := { s.meter with errTime := s.meter.errTime + 250, clock := s.meter.clock + 250 } }) ∧
  (∀ v f ti o s, s.meter.running = true → s.meter.medium = false → s.meter.flags &&& 15 = 0 → 3 / 10 ≤ f → f ≤ 8 → 10 ≤ ti → o ≤ 70 →
    1 ≤ o - ti → o - ti ≤ 50 →
    0 ≤ v * Config.waterK ti o * (o - ti) → 0 ≤ v → ∃ t n w, exec (.meterCalc v f ti o false false) s = .next t ∧
    |((n : Nat) : Rat) - v * Config.waterK ti o * (o - ti)| < 1 ∧ t.meter.legal = (s.meter.legal + n) % 1000000000000000000 ∧
    |((w : Nat) : Rat) - v| < 1 ∧ t.meter.volume = (s.meter.volume + w) % 1000000000000000 ∧ t.meter.inform = s.meter.inform ∧
      t.meter.err = s.meter.err ∧
    t.meter.errTime = s.meter.errTime ∧ t.meter.opTime = s.meter.opTime + 250 ∧ t = { s with meter := t.meter, free := t.free }) ∧
  (∀ v f ti o s, s.meter.running = true → s.meter.medium = false → s.meter.flags &&& 15 = 0 → -20 ≤ ti → ti ≤ 150 → -20 ≤ o → o ≤ 150 →
    f < 1 / 10 → ∃ t,
    exec (.meterCalc v f ti o false false) s = .next t ∧ t.meter.legal = s.meter.legal ∧ t.meter.inform = s.meter.inform ∧
      t.meter.err = s.meter.err ∧
    t.meter.volume = s.meter.volume ∧ t = { s with meter := t.meter, free := t.free }) ∧
  (∀ v f ti o s, s.meter.running = true → s.meter.medium = false → s.meter.flags &&& 15 = 0 → -20 ≤ ti → ti ≤ 150 → -20 ≤ o → o ≤ ti →
    1 / 10 ≤ f → f ≤ 10 → 0 ≤ v →
    ∃ t w, exec (.meterCalc v f ti o false false) s = .next t ∧ t.meter.legal = s.meter.legal ∧ t.meter.inform = s.meter.inform ∧
    t.meter.err = s.meter.err ∧ |((w : Nat) : Rat) - v| < 1 ∧ t.meter.volume = (s.meter.volume + w) % 1000000000000000 ∧
      t = { s with meter := t.meter, free := t.free }) ∧
  (∀ v f ti o s, s.meter.running = true → (ti < -20 ∨ 150 < ti) → ∃ t, exec (.meterCalc v f ti o false false) s = .next t ∧
    t.meter.flags.testBit 0 = true ∧
    t.meter.legal = s.meter.legal ∧ t.meter.inform = s.meter.inform ∧ t.meter.errTime = s.meter.errTime + 250 ∧
      t = { s with meter := t.meter, free := t.free }) ∧
  (∀ s, s.meter.running = true →
    exec (.meterCommit true) s = .next { s with meter := { s.meter with stored := s.meter.registers, closed := true } } ∧
    exec (.meterCommit false) s = .next { s with meter := { s.meter with closed := false } }) ∧
  (∀ b s, s.meter.running = false → exec (.meterCommit b) s = .next s) ∧
  (∀ s, ∃ t, exec .meterSupplyFail s = .next t ∧ t.meter.running = false ∧ t.meter.stored = s.meter.registers ∧ t.meter.closed = true ∧
    t = { s with meter := { s.meter with stored := t.meter.stored, closed := true, running := false, log := t.meter.log } }) ∧
  (∀ s, s.meter.loopOpen = false → ∃ t, exec (.sealCheck true) s = .next t ∧ t.meter.loopOpen = true ∧
    t.meter.flags = s.meter.flags ||| 64 ∧
    t = { s with meter := { s.meter with loopOpen := true, flags := t.meter.flags, log := t.meter.log } }) ∧
  (∀ s, s.meter.loopOpen = true → ∃ t, exec (.sealCheck false) s = .next t ∧ t.meter.loopOpen = false ∧
    t = { s with meter := { s.meter with loopOpen := false, log := t.meter.log } }) ∧
  (∀ s, exec (.sealCheck s.meter.loopOpen) s = .next s) ∧
  (∀ (a : BitVec 8) s, s.meter.addressed a.toNat = true →
    exec (.sndNke a) s = .next { s with meter := { s.meter with selected := false }, out := s.out ++ [.mbusAck] }) ∧
  (∀ (a : BitVec 8) s, s.meter.addressed a.toNat = false → exec (.sndNke a) s = .next s ∧ exec (.reqUd2 a) s = .next s) ∧
  (∀ (a : BitVec 8) s, s.meter.addressed a.toNat = true → ∃ t st l, exec (.reqUd2 a) s = .next t ∧ t.out = s.out ++ [.rspUd st l] ∧
    l.length = 14 ∧
    l.head? = some (0x03, ((s.meter.legal / 1000 : Nat) : Int)) ∧ t = { s with out := t.out, free := t.free }) ∧
  (∀ (a : BitVec 8) b s, s.meter.addressed a.toNat = true → s.meter.loopOpen = false →
    exec (.sndUd a (.medium b)) s = .next { s with out := s.out ++ [.mbusAck] }) ∧
  (∀ (a : BitVec 8) b s, s.meter.addressed a.toNat = true → s.meter.loopOpen = true → ∃ t, exec (.sndUd a (.medium b)) s = .next t ∧
    t.meter.medium = b ∧
    t.meter.change = satInc 32 s.meter.change ∧
      t = { s with out := s.out ++ [.mbusAck], meter := { s.meter with medium := b, change := t.meter.change, log := t.meter.log } }) ∧
  (∀ (a x : BitVec 8) s, s.meter.addressed a.toNat = true → 1 ≤ x.toNat → x.toNat ≤ 250 → ∃ t, exec (.sndUd a (.address x)) s = .next t ∧
    t.meter.addr = x.toNat ∧
    t = { s with out := s.out ++ [.mbusAck], meter := { s.meter with addr := x.toNat, log := t.meter.log } }) ∧
  (∀ s, s.meter.loopOpen = true → exec (.meterFwUpdate .begin_) s = .next { s with meter := { s.meter with running := false } }) ∧
  (∀ u s, s.meter.loopOpen = false → exec (.meterFwUpdate u) s = .next s) ∧
  (∀ ver body key sig s, s.meter.loopOpen = true → s.meter.running = false →
    ∃ t, exec (.meterFwUpdate (.image ver body key sig)) s = .next t ∧
    t.meter.running = true ∧ (Config.sha384 key = s.meter.fwKey → Config.ecdsaVerify key (Config.sha384 body) sig = true →
      t.meter.fwVer = ver ∧ t.meter.fwHash = Config.sha384 body ∧ t.meter.change = satInc 32 s.meter.change) ∧
    (Config.ecdsaVerify key (Config.sha384 body) sig = false → t.meter.fwVer = s.meter.fwVer ∧ t.meter.change = s.meter.change) ∧
    t = { s with meter := { s.meter with running := true, fwVer := t.meter.fwVer, fwHash := t.meter.fwHash, change := t.meter.change, log := t.meter.log } })

/-- The meter's snapshots and the requests of the MTR block complete with their effect. SNAPSHOT of a running meter writes
status, SEQ and stamp, the four sources it serves, REACH and the seal and medium bits; with the module off it moves
SEQ alone; of one that does not run nothing. METER_UNREACH clears REACH with UNREACH. A request while BUSY raises
CFGERR alone; READ_ACC, READ_ID, READ_LOG and READ_PARAM set BUSY and their code and have the meter's words coming, or
none if it does not run. METER_ANSWER good writes the words and RESULT 0, and raises CHANGE when the change counter
differs from the last start's; bad it gives RESULT 2, counts and raises LINK. METER_REQ_TIMEOUT gives RESULT 1 or 3 by
REACH. It rests on R401, R402, R403 (15_heat_meter.md, The selvedge); R404, R405 (15_heat_meter.md, Module side);
R406, R407 (15_heat_meter.md, Registers). -/
def Obligations.MeterSnapshotsAndRequests : Prop :=
  (∀ s, s.meter.running = false → exec .snapshot s = .next s) ∧
  (∀ s, s.meter.running = true → s.boot.off = false → ∃ t, exec .snapshot s = .next t ∧ t.flag F.MTR_STAT_REACH = true ∧
    t.meter.seq = (s.meter.seq + 1) % 65536 ∧
    t.reg .MTR_SNAP_STATUS 0 = BitVec.ofNat 32 (s.meter.flags % 512 + (s.meter.seq + 1) % 65536 * 65536) ∧
    t.reg .MTR_SNAP_STAMP 0 = BitVec.ofNat 32 (s.timeBase.toNat / 1000) ∧
    Assoc.find t.cio.reads 0x20 = some { v := s.meter.flow, at_ := s.up } ∧
      Assoc.find t.cio.reads 0x21 = some { v := s.meter.tin, at_ := s.up } ∧
    Assoc.find t.cio.reads 0x22 = some { v := s.meter.tout, at_ := s.up } ∧
      Assoc.find t.cio.reads 0x23 = some { v := s.meter.power, at_ := s.up } ∧
    (t.flag F.MTR_STAT_SEAL_OPENED = true ↔ s.meter.flags &&& 64 ≠ 0) ∧ (t.flag F.MTR_STAT_MEDIUM = s.meter.medium) ∧
    OnlyLogs [.MTR_SNAP_FLOW, .MTR_SNAP_TEMP, .MTR_SNAP_PWR, .MTR_SNAP_STATUS, .MTR_SNAP_STAMP, .MTR_STAT, .MTR_CAUSE, .CFG_STAT]
      { s with meter := { s.meter with seq := t.meter.seq }, cio := t.cio, mtrIf := { s.mtrIf with unreach := false }, free := t.free } t) ∧
  (∀ s, s.flag F.MTR_STAT_REACH = true → ∃ t, exec .meterUnreach s = .next t ∧ t.flag F.MTR_STAT_REACH = false ∧
    t.flag F.MTR_CAUSE_UNREACH = true ∧
    OnlyLogs [.MTR_STAT, .MTR_CAUSE] { s with mtrIf := { s.mtrIf with unreach := true } } t) ∧
  (∀ s, s.flag F.MTR_STAT_REACH = false → exec .meterUnreach s = .next s) ∧
  (∀ n s, s.flag F.MTR_REQ_BUSY = true → ∃ t, exec .readAcc s = .next t ∧ exec .readId s = .next t ∧ exec (.readLog n) s = .next t ∧
    exec .readParam s = .next t ∧
    t.flag F.MTR_CAUSE_CFGERR = true ∧ OnlyLogs [.MTR_CAUSE] s t) ∧
  (∀ s, s.flag F.MTR_REQ_BUSY = false → s.meter.running = true → ∃ t, exec .readAcc s = .next t ∧ t.flag F.MTR_REQ_BUSY = true ∧
    t.rd F.MTR_REQ_CODE = 1 ∧
    OnlyRegs [.MTR_REQ] { s with mtrIf := { s.mtrIf with answer := some (accWords s.meter) } } t) ∧
  (∀ s, s.flag F.MTR_REQ_BUSY = false → s.meter.running = true → ∃ t, exec .readId s = .next t ∧ t.flag F.MTR_REQ_BUSY = true ∧
    t.rd F.MTR_REQ_CODE = 2 ∧
    OnlyRegs [.MTR_REQ] { s with mtrIf := { s.mtrIf with answer := some (idWords s.meter) } } t) ∧
  (∀ (n : BitVec 8) x s, s.flag F.MTR_REQ_BUSY = false → s.meter.running = true → s.meter.log[n.toNat]? = some x →
    ∃ t, exec (.readLog n) s = .next t ∧
    t.flag F.MTR_REQ_BUSY = true ∧ t.rd F.MTR_REQ_CODE = 3 ∧ t.rd F.MTR_REQ_ARG = n.toNat ∧
    OnlyRegs [.MTR_REQ] { s with mtrIf := { s.mtrIf with answer := some [wd x.clock, wd (x.code % 256 + x.data % 2 ^ 24 * 256)] } } t) ∧
  (∀ s, s.flag F.MTR_REQ_BUSY = false → s.meter.running = true → ∃ t, exec .readParam s = .next t ∧ t.flag F.MTR_REQ_BUSY = true ∧
    t.rd F.MTR_REQ_CODE = 4 ∧
    OnlyRegs [.MTR_REQ] { s with mtrIf := { s.mtrIf with
      answer := some [wd (if s.meter.medium then 1 else 0), wd (s.meter.addr % 256 + s.meter.baud % 4 * 256), wd s.meter.verified] } } t) ∧
  (∀ n s, s.flag F.MTR_REQ_BUSY = false → s.meter.running = false → (∃ t, exec .readAcc s = .next t ∧ t.flag F.MTR_REQ_BUSY = true ∧
      OnlyRegs [.MTR_REQ] { s with mtrIf := { s.mtrIf with answer := none } } t) ∧
    ∃ t, exec (.readLog n) s = .next t ∧ t.flag F.MTR_REQ_BUSY = true ∧
      OnlyRegs [.MTR_REQ] { s with mtrIf := { s.mtrIf with answer := none } } t) ∧
  (∀ b s, s.mtrIf.answer = none → exec (.meterAnswer b) s = .next s) ∧
  (∀ l s, s.mtrIf.answer = some l → s.rd F.MTR_REQ_CODE ≠ 2 → ∃ t, exec (.meterAnswer true) s = .next t ∧
    (∀ i w, l[i]? = some w → t.reg .MTR_RESP i = w) ∧ t.flag F.MTR_REQ_BUSY = false ∧ t.flag F.MTR_REQ_GO = false ∧
      t.rd F.MTR_REQ_RESULT = 0 ∧
    OnlyRegs [.MTR_RESP, .MTR_REQ] { s with mtrIf := { s.mtrIf with answer := none } } t) ∧
  (∀ l o s, s.mtrIf.answer = some l → s.rd F.MTR_REQ_CODE = 2 → s.mtrIf.thisChange = none → s.mtrIf.prevChange = some o →
    o ≠ (getAt 0 l 1).toNat → ∃ t,
    exec (.meterAnswer true) s = .next t ∧ t.flag F.MTR_CAUSE_CHANGE = true ∧ t.mtrIf.thisChange = some (getAt 0 l 1).toNat ∧
      t.rd F.MTR_REQ_RESULT = 0 ∧
    OnlyLogs [.MTR_RESP, .MTR_REQ, .MTR_CAUSE] { s with mtrIf := { s.mtrIf with answer := none, thisChange := t.mtrIf.thisChange } } t) ∧
  (∀ l s, s.mtrIf.answer = some l → ∃ t, exec (.meterAnswer false) s = .next t ∧ t.rd F.MTR_REQ_RESULT = 2 ∧ t.flag F.MTR_REQ_BUSY = false ∧
    t.rd F.MTR_LINK_CNT_COUNT = satInc 32 (s.rd F.MTR_LINK_CNT_COUNT) ∧ t.flag F.MTR_CAUSE_LINK = true ∧
    OnlyLogs [.MTR_REQ, .MTR_LINK_CNT, .MTR_CAUSE] { s with mtrIf := { s.mtrIf with answer := none } } t) ∧
  (∀ s, s.flag F.MTR_REQ_BUSY = true → ∃ t, exec .meterReqTimeout s = .next t ∧
    t.rd F.MTR_REQ_RESULT = (if s.flag F.MTR_STAT_REACH then 1 else 3) ∧
    t.flag F.MTR_REQ_BUSY = false ∧ t.flag F.MTR_CAUSE_LINK = true ∧
      OnlyLogs [.MTR_REQ, .MTR_LINK_CNT, .MTR_CAUSE] { s with mtrIf := { s.mtrIf with answer := none } } t) ∧
  (∀ s, s.flag F.MTR_REQ_BUSY = false → exec .meterReqTimeout s = .next s) ∧
  (∀ s, s.meter.running = true → s.boot.off = true →
    exec .snapshot s = .next { s with meter := { s.meter with seq := (s.meter.seq + 1) % 65536 } })

/-- A step is the front command's exec on the rest of the queue; on an empty queue one tick passes. For every command c,
queue l and state: with c in front, step is exec of c with the queue l. On an empty queue step answers the state after
one tick of 10 ns (the model's choice, log entry 3), and a module that is off does not change. It rests on
01_module_architecture.md, Timing: a self-timed core in a clocked ring; 95_what_each_step_holds.md, What each step
holds. -/
def Obligations.StepRunsTheFrontCommand : Prop :=
  (∀ c l (s : State), s.pending = c :: l → step s = exec c { s with pending := l }) ∧
  (∀ c (s : State), step { s with pending := c :: s.pending } = exec c s) ∧
  (∀ (s : State), s.pending = [] → step s = .next s.idle) ∧
  (∀ (s : State), s.pending = [] → s.boot.off = true → step s = .next s)

/-- After reset: registers at their reset values, start-up in step 1, memories and queue empty, no core power.
State.reset: every register reads its table's reset value; memories and registers are in canonical form; nothing is
pending; the time base is 0 with UNSET and DISC; STEP is 1; core power is off; every partition is FREE; every byte of
stack memory reads 0 (the model's choice, log entry 11); the effective cap is 2400 W; no interrupt is summed or shown;
the record buffer is empty. That reset is the moment the supply is up and step 1 begins is the model's choice (log
entry 9). It rests on R423 (16_power_states_and_time.md, Time); R435 (17_startup_and_configuration.md, Power-up, step
by step); R497 (20_interrupts_and_register_map.md, Reset types). -/
def Obligations.ResetLeavesTheModuleAtStepOne : Prop :=
  (∀ r i, State.reset.reg r i = r.reset i) ∧ State.reset.memWf = true ∧ State.reset.regsWf = true ∧ State.reset.pending = [] ∧
  State.reset.timeBase = 0 ∧ State.reset.flag F.TIM_STAT_UNSET = true ∧ State.reset.flag F.TIM_STAT_DISC = true ∧
  State.reset.rd F.CFG_STAT_STEP = 1 ∧ State.reset.pwr.vcore = false ∧ (∀ n, n < 16 → State.reset.pstate n = 0) ∧
  (∀ k a, State.reset.memByte k a = 0) ∧ State.reset.rd F.PWR_CAP_EFF_WATTS = 2400 ∧ State.reset.irqSum = 0 ∧ State.reset.irqLow = false ∧
  State.reset.evr.buf = []

/-- Every step keeps the store, stack and poison memories and the register map in canonical form. For every state whose
memories list their entries in strictly rising order with none equal to what an unlisted one reads as, and whose
register map lists its keys once in rising order: if step answers a next state, the same holds of it. It rests on
03_engines_and_clusters.md, The cluster store; 05_zynde_memory.md, Inside a stack; 20_interrupts_and_register_map.md,
The address map. -/
def Obligations.EveryStepKeepsTheMemoriesCanonical : Prop :=
  ∀ (s t : State), s.memWf = true → s.regsWf = true → step s = .next t → t.memWf = true ∧ t.regsWf = true

/-- Every well-formed command completes and leaves the queue as it was; every other is refused as ill-formed. For every
command and state: if the command is well-formed, exec answers a next state with the same pending queue; if it is not,
exec refuses it as ill-formed. Ill-formed are only engine instructions and descriptors not of their form (R99, R105,
R110; log entry 8). It rests on 95_what_each_step_holds.md, What each step holds; 00_scope.md, Wording. -/
def Obligations.WellFormedCommandsCompleteAndLeaveTheQueue : Prop :=
  ∀ (c : Instr) (s : State), (c.wellFormed = true → ∃ t, exec c s = .next t ∧ t.pending = s.pending) ∧
    (c.wellFormed = false → exec c s = .refused .illFormed)

/-- Packets, engine instructions and bobbin descriptors read back from their bytes. For every packet of at most 7 lines, a
route other than 3 and data of its length, its bytes with anything after them read as that packet; with more lines
they read as none; a packet that reads has those properties. For every engine instruction and every bobbin descriptor,
the 32 or 64 bytes of its encoding read back as itself. It rests on 04_patterns_and_jobs.md, Engine instructions;
04_patterns_and_jobs.md, Bobbin descriptors; 07_fabric_transport.md, Packets. -/
def Obligations.PacketsInstructionsAndDescriptorsReadBack : Prop :=
  (∀ (p : Packet) pad, p.lines.toNat ≤ 7 → p.route ≠ 3 → p.data.length = (if p.typ = 2 then 0 else 64 * p.lines.toNat) →
    readPacket (p.bytes ++ pad) = some p) ∧
  (∀ (p : Packet) pad, 7 < p.lines.toNat → readPacket (p.bytes ++ pad) = none) ∧
  (∀ (p : Packet) l, readPacket l = some p → p.route ≠ 3 ∧ p.lines.toNat ≤ 7 ∧
    p.data.length = (if p.typ = 2 then 0 else 64 * p.lines.toNat)) ∧
  (∀ (i : EngInstr) pad, readEng (i.bytes ++ pad) = i) ∧ (∀ i : EngInstr, i.bytes.length = 32) ∧
  (∀ (d : BobDesc) pad, readBob (d.bytes ++ pad) = d) ∧ (∀ d : BobDesc, d.bytes.length = 64)

/-- The management space: block addresses, each register at its address alone, holes without registers, records of causes.
The fifteen blocks stand at the addresses of the map. Every instance of every register is found at its address, within
its block. An address in a hole finds no register and no target. Raising a cause with room in the buffer enters a
record with the block's number, the bit as EVENT and the instance. (The last clause names no severity: it is the
caller's.) It rests on 20_interrupts_and_register_map.md, The address map; 18_event_recorder.md, The record. -/
def Obligations.RegistersStandInTheirBlocks : Prop :=
  Block.all.map (fun b => (b.num, b.base, b.last)) =
    [(0, 0x00000, 0x0FFFF), (1, 0x10000, 0x1FFFF), (2, 0x20000, 0x2FFFF), (3, 0x30000, 0x3FFFF), (4, 0x40000, 0x4FFFF), (5, 0x50000, 0x5FFFF),
     (6, 0x60000, 0x6FFFF), (7, 0x80000, 0x9FFFF), (8, 0xA0000, 0xAFFFF), (9, 0xB0000, 0xBFFFF), (10, 0xC0000, 0xCFFFF), (11, 0x100000, 0x1FFFFF),
     (12, 0x200000, 0x2FFFFF), (13, 0x300000, 0x37FFFF), (14, 0x400000, 0x50FFFF)] ∧
  (∀ r i, i < r.info.count → regAt (r.addr i) = some (r, i) ∧ r.info.block.base ≤ r.addr i ∧ r.addr i ≤ r.info.block.last) ∧
  (∀ a, (0x70000 ≤ a ∧ a ≤ 0x7FFFF ∨ 0xD0000 ≤ a ∧ a ≤ 0xFFFFF ∨ 0x380000 ≤ a ∧ a ≤ 0x3FFFFF ∨ 0x510000 ≤ a) → regAt a = none ∧
    accTarget a = noTarget) ∧
  (∀ (f : Fld) (i inst : Nat) (s : State), s.evr.buf.length < 1024 → ∃ r ∈ (s.raiseFor f i inst).evr.buf, r.block = f.reg.info.block.num ∧
    r.event = f.lo ∧ r.inst = inst)

/-- With room a record is entered; without, it displaces the newest of the lowest lower severity, or is discarded,
counted, raised and reported. For every record and state: with fewer than 1024 buffered records it is appended; else
it displaces the newest record of the lowest severity below its own, and where there is none it is itself discarded,
which adds 1 to REC_LOST_CNT and raises LOST. Once there is room, one LOST record with the number, first and last SEQ
of the discards is entered. It states R461. -/
def Obligations.ACrowdedBufferDisplacesLowerSeverities : Prop :=
  (∀ (r : Rec) (s : State), s.evr.buf.length < 1024 → (s.insertRec r).evr.buf = s.evr.buf ++ [r]) ∧
  (∀ (r x : Rec) (l m : List Rec) (s : State), 1024 ≤ s.evr.buf.length → s.evr.buf = l ++ x :: m → x.sev < r.sev →
    (∀ y ∈ m, y.sev ≠ x.sev) →
    (∀ y ∈ s.evr.buf, y.sev < r.sev → x.sev ≤ y.sev) → (s.insertRec r).evr.buf = l ++ m ++ [r]) ∧
  (∀ (r : Rec) (s : State), 1024 ≤ s.evr.buf.length → (∀ y ∈ s.evr.buf, r.sev ≤ y.sev) → (s.insertRec r).evr.buf = s.evr.buf ∧
    (s.insertRec r).rd F.REC_LOST_CNT_VALUE = satInc 32 (s.rd F.REC_LOST_CNT_VALUE) ∧ (s.insertRec r).flag F.REC_CAUSE_LOST = true ∧
    (s.insertRec r).evr.lost ≠ none) ∧
  (∀ n a b (s : State), s.evr.lost = some (n, a, b) → s.evr.buf.length < 1024 → ∃ r, s.reportLost.evr.buf = s.evr.buf ++ [r] ∧ r.block = 5 ∧
    r.event = 0x41 ∧
    r.sev = 2 ∧ r.data = [wd n, wd a, wd b] ∧ s.reportLost.evr.lost = none)

/-- A lost tachometer of a ramping or running channel puts it into FAIL with cause 2 at 100 % duty, FAN_FAIL and a warning
record. For every channel in RAMP or RUN with TACHEN and room in the record buffer: TACH_LOST completes; the channel
is in FAIL with WHY 2, its output is 100 % and DUTY 1000, FAN_FAIL is raised, and a record of severity warning for
block CIO, the cause and the channel is entered. It states R323. -/
def Obligations.ALostTachometerFailsItsChannel : Prop :=
  ∀ (c : Fin 8) (s : State), (s.pwm c = 2 ∨ s.pwm c = 3) → s.flag F.CIO_PWM_CFG_TACHEN c = true → s.evr.buf.length < 1024 →
    ∃ t, exec (.tachLost c) s = .next t ∧
    t.pwm c = 5 ∧ t.rd F.CIO_PWM_STAT_WHY c = 2 ∧ t.act (8 + c) = 100 ∧ t.rd F.CIO_PWM_STAT_DUTY c = 1000 ∧
      t.flag F.CIO_CAUSE_FAN_FAIL = true ∧
    ∃ r ∈ t.evr.buf, r.block = 8 ∧ r.event = 2 ∧ r.inst = c.val ∧ r.sev = 2

end
end

