-- ==== Sys2Proof/Laws/Ops.lean ====
section
/-! SUPPORT.  What the shared operations do: sorted maps, registers and their fields, causes and records. -/

namespace Sys2Proof.Machine

/-! ### Sorted maps -/

theorem Assoc.get_insert {β : Type} (d : β) (m : List (Nat × β)) (k j : Nat) (v : β)
    (h : ∀ e ∈ m, e.1 ≠ k) : Assoc.get d (Assoc.insert k v m) j = if j = k then v else Assoc.get d m j := by
  induction m with
  | nil => simp [Assoc.insert, Assoc.get, eq_comm]
  | cons e t ih =>
    obtain ⟨a, b⟩ := e
    have hak : a ≠ k := h (a, b) (by simp)
    have ih' := ih fun e he => h e (by simp [he])
    by_cases h1 : k < a
    · simp [Assoc.insert, h1, Assoc.get, eq_comm]
    · by_cases h2 : a = j
      · subst h2; simp [Assoc.insert, h1, Assoc.get, hak]
      · simp [Assoc.insert, h1, Assoc.get, h2, ih']

theorem Assoc.get_erase {β : Type} (d : β) (m : List (Nat × β)) (k j : Nat) :
    Assoc.get d (Assoc.erase m k) j = if j = k then d else Assoc.get d m j := by
  induction m with
  | nil => simp [Assoc.erase, Assoc.get]
  | cons e t ih =>
    obtain ⟨a, b⟩ := e
    simp only [Assoc.erase] at ih
    by_cases h1 : a = k
    · subst h1; simp only [Assoc.erase, List.filter, ne_eq, not_true, decide_false, ih, Assoc.get]
      by_cases h2 : j = a <;> simp [h2]
      intro h; exact absurd h.symm h2
    · simp only [Assoc.erase, List.filter, ne_eq, h1, not_false_eq_true, decide_true, Assoc.get, ih]
      by_cases h2 : a = j
      · subst h2; simp [h1]
      · simp [h2]

theorem Assoc.mem_erase {β : Type} (m : List (Nat × β)) (k : Nat) (e : Nat × β) :
    e ∈ Assoc.erase m k ↔ e ∈ m ∧ e.1 ≠ k := by simp [Assoc.erase]

theorem Assoc.get_set {β : Type} [DecidableEq β] (d : β) (m : List (Nat × β)) (k j : Nat) (v : β) :
    Assoc.get d (Assoc.set d m k v) j = if j = k then v else Assoc.get d m j := by
  by_cases hv : v = d
  · subst hv; simp [Assoc.set, Assoc.get_erase]
  · simp only [Assoc.set, hv, if_false]
    rw [Assoc.get_insert d _ k j v (fun e he => ((Assoc.mem_erase m k e).1 he).2), Assoc.get_erase]
    by_cases h : j = k <;> simp [h]

theorem Assoc.find_insert {β : Type} (m : List (Nat × β)) (k j : Nat) (v : β)
    (h : ∀ e ∈ m, e.1 ≠ k) : Assoc.find (Assoc.insert k v m) j = if j = k then some v else Assoc.find m j := by
  induction m with
  | nil => simp [Assoc.insert, Assoc.find, eq_comm]
  | cons e t ih =>
    obtain ⟨a, b⟩ := e
    have hak : a ≠ k := h (a, b) (by simp)
    have ih' := ih fun e he => h e (by simp [he])
    by_cases h1 : k < a
    · simp [Assoc.insert, h1, Assoc.find, eq_comm]
    · by_cases h2 : a = j
      · subst h2; simp [Assoc.insert, h1, Assoc.find, hak]
      · simp [Assoc.insert, h1, Assoc.find, h2, ih']

theorem Assoc.find_erase {β : Type} (m : List (Nat × β)) (k j : Nat) :
    Assoc.find (Assoc.erase m k) j = if j = k then none else Assoc.find m j := by
  induction m with
  | nil => simp [Assoc.erase, Assoc.find]
  | cons e t ih =>
    obtain ⟨a, b⟩ := e
    simp only [Assoc.erase] at ih
    by_cases h1 : a = k
    · subst h1; simp only [Assoc.erase, List.filter, ne_eq, not_true, decide_false, ih, Assoc.find]
      by_cases h2 : j = a <;> simp [h2]
      intro h; exact absurd h.symm h2
    · simp only [Assoc.erase, List.filter, ne_eq, h1, not_false_eq_true, decide_true, Assoc.find, ih]
      by_cases h2 : a = j
      · subst h2; simp [h1]
      · simp [h2]

theorem Assoc.find_put {β : Type} (m : List (Nat × β)) (k j : Nat) (v : β) :
    Assoc.find (Assoc.put m k v) j = if j = k then some v else Assoc.find m j := by
  simp only [Assoc.put]
  rw [Assoc.find_insert _ k j v (fun e he => ((Assoc.mem_erase m k e).1 he).2), Assoc.find_erase]
  by_cases h : j = k <;> simp [h]

theorem Assoc.mem_insert {β : Type} (m : List (Nat × β)) (k : Nat) (v : β) (e : Nat × β) :
    e ∈ Assoc.insert k v m ↔ e = (k, v) ∨ e ∈ m := by
  induction m with
  | nil => simp [Assoc.insert]
  | cons a t ih =>
    obtain ⟨x, y⟩ := a
    by_cases h : k < x
    · simp [Assoc.insert, h]
    · simp [Assoc.insert, h, ih]; tauto

theorem Assoc.pairwise_insert {β : Type} (m : List (Nat × β)) (k : Nat) (v : β)
    (h : m.Pairwise (fun x y => x.1 < y.1)) (hk : ∀ e ∈ m, e.1 ≠ k) :
    (Assoc.insert k v m).Pairwise (fun x y => x.1 < y.1) := by
  induction m with
  | nil => simp [Assoc.insert]
  | cons a t ih =>
    obtain ⟨x, y⟩ := a
    rw [List.pairwise_cons] at h
    have hx : x ≠ k := hk (x, y) (by simp)
    by_cases h1 : k < x
    · simp only [Assoc.insert, h1, if_true, List.pairwise_cons]
      refine ⟨?_, h.1, h.2⟩
      intro e he
      rcases List.mem_cons.1 he with rfl | he
      · exact h1
      · exact lt_trans h1 (h.1 e he)
    · simp only [Assoc.insert, h1, if_false, List.pairwise_cons]
      refine ⟨?_, ih h.2 fun e he => hk e (by simp [he])⟩
      intro e he
      rcases (Assoc.mem_insert t k v e).1 he with rfl | he
      · exact lt_of_le_of_ne (not_lt.1 h1) hx
      · exact h.1 e he

theorem Assoc.wf_iff {β : Type} [DecidableEq β] (d : β) (m : List (Nat × β)) :
    Assoc.wf d m = true ↔ m.Pairwise (fun x y => x.1 < y.1) ∧ ∀ e ∈ m, e.2 ≠ d := by
  simp [Assoc.wf]

theorem Assoc.wf_nil {β : Type} [DecidableEq β] (d : β) : Assoc.wf d ([] : List (Nat × β)) = true := by simp [Assoc.wf]

theorem Assoc.wf_filter {β : Type} [DecidableEq β] (d : β) (m : List (Nat × β)) (p : Nat × β → Bool)
    (h : Assoc.wf d m = true) : Assoc.wf d (m.filter p) = true := by
  rw [Assoc.wf_iff] at h ⊢
  exact ⟨h.1.filter p, fun e he => h.2 e (List.mem_of_mem_filter he)⟩

theorem Assoc.wf_set {β : Type} [DecidableEq β] (d : β) (m : List (Nat × β)) (k : Nat) (v : β)
    (h : Assoc.wf d m = true) : Assoc.wf d (Assoc.set d m k v) = true := by
  have he : Assoc.wf d (Assoc.erase m k) = true := Assoc.wf_filter d m _ h
  by_cases hv : v = d
  · simp [Assoc.set, hv, he]
  · simp only [Assoc.set, hv, if_false]
    rw [Assoc.wf_iff] at he ⊢
    refine ⟨Assoc.pairwise_insert _ k v he.1 fun e h => ((Assoc.mem_erase m k e).1 h).2, ?_⟩
    intro e hm
    rcases (Assoc.mem_insert _ k v e).1 hm with rfl | hm
    · exact hv
    · exact he.2 e hm

/-- In canonical form equal maps are equal lists. -/
theorem Assoc.ext_of_wf {β : Type} [DecidableEq β] (d : β) (m n : List (Nat × β)) (hm : Assoc.wf d m = true)
    (hn : Assoc.wf d n = true) (h : ∀ k, Assoc.get d m k = Assoc.get d n k) : m = n := by
  have gap : ∀ (l : List (Nat × β)) (k : Nat), (∀ e ∈ l, k < e.1) → Assoc.get d l k = d := by
    intro l k
    induction l with
    | nil => intro _; rfl
    | cons e t ih =>
      intro hl
      have := hl e (by simp)
      simp only [Assoc.get]
      rw [if_neg (by omega)]
      exact ih fun e he => hl e (by simp [he])
  rw [Assoc.wf_iff] at hm hn
  induction m generalizing n with
  | nil =>
    cases n with
    | nil => rfl
    | cons e t =>
      have := h e.1
      simp [Assoc.get] at this
      exact absurd this.symm (hn.2 e (by simp))
  | cons a s ih =>
    cases n with
    | nil =>
      have := h a.1
      simp [Assoc.get] at this
      exact absurd this (hm.2 a (by simp))
    | cons b t =>
      have ha := List.pairwise_cons.1 hm.1
      have hb := List.pairwise_cons.1 hn.1
      have hab : a.1 = b.1 := by
        rcases lt_trichotomy a.1 b.1 with hlt | heq | hgt
        · have := h a.1
          rw [gap (b :: t) a.1 (by intro e he; rcases List.mem_cons.1 he with rfl | he; exact hlt; exact lt_trans hlt (hb.1 e he))] at this
          simp [Assoc.get] at this
          exact absurd this (hm.2 a (by simp))
        · exact heq
        · have := h b.1
          rw [gap (a :: s) b.1 (by intro e he; rcases List.mem_cons.1 he with rfl | he; exact hgt; exact lt_trans hgt (ha.1 e he))] at this
          simp [Assoc.get] at this
          exact absurd this.symm (hn.2 b (by simp))
      have h2 : a.2 = b.2 := by
        have := h a.1
        simp [Assoc.get, hab] at this
        exact this
      have hab' : a = b := Prod.ext hab h2
      subst hab'
      congr 1
      refine ih t ⟨ha.2, fun e he => hm.2 e (by simp [he])⟩ ⟨hb.2, fun e he => hn.2 e (by simp [he])⟩ ?_
      intro k
      by_cases hk : a.1 = k
      · subst hk
        rw [gap s a.1 ha.1, gap t a.1 hb.1]
      · have := h k
        simpa [Assoc.get, hk] using this

/-! ### Registers -/

theorem Reg.ctorIdx_lt (r : Reg) : r.ctorIdx < 1024 := by cases r <;> decide

theorem Reg.ctorIdx_inj {r q : Reg} (h : r.ctorIdx = q.ctorIdx) : r = q := by
  have := congrArg Reg.ofNat h
  rwa [Reg.ofNat_ctorIdx, Reg.ofNat_ctorIdx] at this

theorem regKey_inj {r q : Reg} {i j : Nat} : regKey r i = regKey q j ↔ r = q ∧ i = j := by
  have h1 := Reg.ctorIdx_lt r
  have h2 := Reg.ctorIdx_lt q
  constructor
  · intro h
    simp only [regKey] at h
    have hi : i = j := by omega
    subst hi
    exact ⟨Reg.ctorIdx_inj (by omega), rfl⟩
  · rintro ⟨rfl, rfl⟩; rfl

theorem bitsOf_testBit (v lo w i : Nat) : (bitsOf v lo w).testBit i = (decide (i < w) && v.testBit (lo + i)) := by
  simp [bitsOf, Nat.testBit_mod_two_pow, Nat.testBit_div_two_pow, Nat.add_comm]

theorem maskBits_getLsbD (hi lo i : Nat) (h : lo ≤ hi) :
    (maskBits hi lo).getLsbD i = (decide (i < 32) && decide (lo ≤ i) && decide (i ≤ hi)) := by
  rw [Bool.eq_iff_iff]
  simp only [maskBits, BitVec.getLsbD_shiftLeft, BitVec.getLsbD_ofNat, Nat.testBit_two_pow_sub_one, Bool.and_eq_true,
    decide_eq_true_eq, Bool.not_eq_true', decide_eq_false_iff_not]
  omega

theorem setField_getLsbD (w : Word) (f : Fld) (v i : Nat) (h : f.lo ≤ f.hi) :
    (setField w f v).getLsbD i = if f.lo ≤ i ∧ i ≤ f.hi ∧ i < 32 then v.testBit (i - f.lo) else w.getLsbD i := by
  have hm := maskBits_getLsbD f.hi f.lo i h
  rw [setField, BitVec.getLsbD_or, BitVec.getLsbD_and, BitVec.getLsbD_and, BitVec.getLsbD_not, hm,
    BitVec.getLsbD_shiftLeft, BitVec.getLsbD_ofNat]
  by_cases h1 : i < 32
  · have h4 : i - f.lo < 32 := by omega
    by_cases h2 : f.lo ≤ i
    · by_cases h3 : i ≤ f.hi
      · rw [if_pos ⟨h2, h3, h1⟩]; simp only [h1, h2, h3, h4, Nat.not_lt.2 h2]; simp
      · rw [if_neg (by omega)]; simp only [h1, h2, h3, h4]; simp
    · rw [if_neg (by omega)]; simp only [h1, h2]; simp
  · rw [if_neg (by omega)]
    have : w.getLsbD i = false := BitVec.getLsbD_of_ge w i (by omega)
    simp [h1, this]

theorem fieldOf_setField (w : Word) (f : Fld) (v : Nat) (h : f.lo ≤ f.hi) (h2 : f.hi < 32) :
    fieldOf (setField w f v) f = v % 2 ^ (f.hi + 1 - f.lo) := by
  apply Nat.eq_of_testBit_eq
  intro i
  rw [fieldOf, bitsOf_testBit, ← BitVec.getLsbD, setField_getLsbD _ _ _ _ h, Nat.testBit_mod_two_pow]
  by_cases h1 : i < f.hi + 1 - f.lo
  · rw [if_pos (by omega)]; simp
  · simp [h1]

theorem fieldOf_setField_ne (w : Word) (f g : Fld) (v : Nat) (h : f.lo ≤ f.hi) (hd : g.hi < f.lo ∨ f.hi < g.lo) :
    fieldOf (setField w f v) g = fieldOf w g := by
  apply Nat.eq_of_testBit_eq
  intro i
  rw [fieldOf, fieldOf, bitsOf_testBit, bitsOf_testBit, ← BitVec.getLsbD, ← BitVec.getLsbD, setField_getLsbD _ _ _ _ h]
  by_cases h1 : i < g.hi + 1 - g.lo
  · rw [if_neg (by omega)]
  · simp [h1]

theorem Assoc.get_set_ne {β : Type} [DecidableEq β] (d e : β) (m : List (Nat × β)) (k j : Nat) (v : β) (h : j ≠ k) :
    Assoc.get d (Assoc.set e m k v) j = Assoc.get d m j := by
  by_cases hv : v = e
  · simp [Assoc.set, hv, Assoc.get_erase, h]
  · simp only [Assoc.set, hv, if_false]
    rw [Assoc.get_insert d _ k j v (fun e he => ((Assoc.mem_erase m k e).1 he).2), Assoc.get_erase, if_neg h, if_neg h]

/-- Reading after a write: the written instance has the word, every other is as before. -/
theorem State.reg_setReg (s : State) (r q : Reg) (i j : Nat) (w : Word) :
    (s.setReg r i w).reg q j = if q = r ∧ j = i then w else s.reg q j := by
  by_cases h : q = r ∧ j = i
  · obtain ⟨rfl, rfl⟩ := h
    simp [State.reg, State.setReg, Assoc.get_set]
  · simp only [State.reg, State.setReg, if_neg h]
    exact Assoc.get_set_ne _ _ _ _ _ _ fun e => h (regKey_inj.1 e)

theorem State.reg_wr (s : State) (f : Fld) (q : Reg) (i j v : Nat) :
    (s.wr f i v).reg q j = if q = f.reg ∧ j = i then setField (s.reg f.reg i) f v else s.reg q j := by
  rw [State.wr, State.reg_setReg]

theorem State.rd_setReg (s : State) (r : Reg) (g : Fld) (i j : Nat) (w : Word) :
    (s.setReg r i w).rd g j = if g.reg = r ∧ j = i then fieldOf w g else s.rd g j := by
  rw [State.rd, State.reg_setReg]; split <;> rfl

/-- A field reads what was written to it. -/
theorem State.rd_wr_same (s : State) (f : Fld) (i v : Nat) (h : f.lo ≤ f.hi ∧ f.hi < 32) :
    (s.wr f i v).rd f i = v % 2 ^ (f.hi + 1 - f.lo) := by
  rw [State.rd, State.reg_wr, if_pos ⟨rfl, rfl⟩, fieldOf_setField _ _ _ h.1 h.2]

/-- A field of another register, or of another place of the same one, reads as before. -/
theorem State.rd_wr_ne (s : State) (f g : Fld) (i j v : Nat)
    (h : g.reg ≠ f.reg ∨ (f.lo ≤ f.hi ∧ (g.hi < f.lo ∨ f.hi < g.lo))) : (s.wr f i v).rd g j = s.rd g j := by
  rw [State.rd, State.rd, State.reg_wr]
  split
  · rename_i hc
    obtain ⟨h1, h2⟩ := hc
    rcases h with h | h
    · exact absurd h1 h
    · rw [fieldOf_setField_ne _ _ _ _ h.1 h.2, h1, h2]
  · rfl

/-- A field of another instance reads as before. -/
theorem State.rd_wr_idx (s : State) (f g : Fld) (i j v : Nat) (h : j ≠ i) : (s.wr f i v).rd g j = s.rd g j := by
  rw [State.rd, State.rd, State.reg_wr, if_neg fun e => h e.2]

theorem State.flag_wr_same (s : State) (f : Fld) (i v : Nat) (h : f.lo ≤ f.hi ∧ f.hi < 32) :
    (s.wr f i v).flag f i = decide (v % 2 ^ (f.hi + 1 - f.lo) ≠ 0) := by
  rw [State.flag, State.rd_wr_same _ _ _ _ h]

theorem State.flag_wr_ne (s : State) (f g : Fld) (i j v : Nat)
    (h : g.reg ≠ f.reg ∨ (f.lo ≤ f.hi ∧ (g.hi < f.lo ∨ f.hi < g.lo))) : (s.wr f i v).flag g j = s.flag g j := by
  rw [State.flag, State.flag, State.rd_wr_ne _ _ _ _ _ _ h]

theorem State.flag_wr_idx (s : State) (f g : Fld) (i j v : Nat) (h : j ≠ i) : (s.wr f i v).flag g j = s.flag g j := by
  rw [State.flag, State.flag, State.rd_wr_idx _ _ _ _ _ _ h]

/-- A write touches no register but its own. -/
theorem State.reg_wr_ne (s : State) (f : Fld) (q : Reg) (i j v : Nat) (h : q ≠ f.reg) : (s.wr f i v).reg q j = s.reg q j := by
  rw [State.reg_wr, if_neg fun e => h e.1]

theorem State.reg_setReg_ne (s : State) (r q : Reg) (i j : Nat) (w : Word) (h : q ≠ r) : (s.setReg r i w).reg q j = s.reg q j := by
  rw [State.reg_setReg, if_neg fun e => h e.1]

/-! ### Causes and records -/




theorem State.requestFlush_eq (s : State) : s.requestFlush =
    { s with regs := s.requestFlush.regs, evr := { s.evr with flushDue := true } } := rfl

theorem State.setPend_eq (s : State) (b : Nat) : s.setPend b =
    { s with regs := (s.setPend b).regs, irqPulse := (s.setPend b).irqPulse } := by
  simp only [State.setPend]; split <;> rfl

theorem State.raiseBit_eq (s : State) (f : Fld) (i : Nat) : s.raiseBit f i =
    { s with regs := (s.raiseBit f i).regs, irqPulse := (s.raiseBit f i).irqPulse } := by
  simp only [State.raiseBit]
  split
  · rfl
  · split
    · rw [State.setPend_eq]; rfl
    · rfl

theorem State.discardRec_eq (s : State) (q : Nat) : s.discardRec q =
    { s with regs := (s.discardRec q).regs, irqPulse := (s.discardRec q).irqPulse, evr := (s.discardRec q).evr } := by
  simp only [State.discardRec]; rw [State.raiseBit_eq]; rfl

theorem State.insertRec_eq (s : State) (r : Rec) : s.insertRec r =
    { s with regs := (s.insertRec r).regs, irqPulse := (s.insertRec r).irqPulse, evr := (s.insertRec r).evr } := by
  have h : ∀ u : State, u = { s with regs := u.regs, irqPulse := u.irqPulse, evr := u.evr } →
      ∀ q, (u.discardRec q) = { s with regs := (u.discardRec q).regs, irqPulse := (u.discardRec q).irqPulse, evr := (u.discardRec q).evr } := by
    intro u hu q; rw [State.discardRec_eq, hu]
  have hf : ∀ u : State, u = { s with regs := u.regs, irqPulse := u.irqPulse, evr := u.evr } →
      u.requestFlush = { s with regs := u.requestFlush.regs, irqPulse := u.requestFlush.irqPulse, evr := u.requestFlush.evr } := by
    intro u hu; rw [State.requestFlush_eq, hu]
  simp only [State.insertRec]
  by_cases hs : r.sev = 3
  · simp only [hs, if_true]
    split
    · split
      · exact hf _ rfl
      · rfl
    · split
      · exact hf _ (h _ rfl _)
      · exact h _ rfl _
  · simp only [hs, if_false]
    split
    · split
      · exact hf _ rfl
      · rfl
    · split
      · exact hf _ (h _ rfl _)
      · exact h _ rfl _

/-- Entering a record changes the recorder, registers and the re-edge pulse alone. -/
theorem State.record_eq (s : State) (block reg event inst sev : Nat) (data : List Word) (m : Nat) :
    s.record block reg event inst sev data m =
    { s with regs := (s.record block reg event inst sev data m).regs,
             irqPulse := (s.record block reg event inst sev data m).irqPulse,
             evr := (s.record block reg event inst sev data m).evr } := by
  simp only [State.record]; rw [State.insertRec_eq]

/-- Raising a cause changes the recorder, registers and the re-edge pulse alone. -/
theorem State.raiseFor_eq (s : State) (f : Fld) (i inst sev : Nat) (data : List Word) (m : Nat) :
    s.raiseFor f i inst sev data m =
    { s with regs := (s.raiseFor f i inst sev data m).regs,
             irqPulse := (s.raiseFor f i inst sev data m).irqPulse,
             evr := (s.raiseFor f i inst sev data m).evr } := by
  simp only [State.raiseFor]; rw [State.record_eq, State.raiseBit_eq]

theorem State.raise_eq (s : State) (f : Fld) (i sev : Nat) (data : List Word) (m : Nat) :
    s.raise f i sev data m =
    { s with regs := (s.raise f i sev data m).regs,
             irqPulse := (s.raise f i sev data m).irqPulse,
             evr := (s.raise f i sev data m).evr } := State.raiseFor_eq s f i i sev data m

theorem State.reg_requestFlush (s : State) (q : Reg) (j : Nat) (h : q ≠ .REC_STAT) : s.requestFlush.reg q j = s.reg q j := by
  rw [State.requestFlush, State.reg_wr_ne _ _ _ _ _ _ h]; rfl

theorem State.reg_setPend (s : State) (b : Nat) (q : Reg) (j : Nat) (h : q ≠ .IRQ_TRAY_PEND) : (s.setPend b).reg q j = s.reg q j := by
  simp only [State.setPend]
  split
  · show (s.wr F.IRQ_TRAY_PEND_BLOCK 0 _).reg q j = _
    rw [State.reg_wr_ne _ _ _ _ _ _ h]
  · rw [State.reg_wr_ne _ _ _ _ _ _ h]

theorem State.reg_raiseBit (s : State) (f : Fld) (i : Nat) (q : Reg) (j : Nat) (h : q ≠ .IRQ_TRAY_PEND) :
    (s.raiseBit f i).reg q j = (s.wr f i 1).reg q j := by
  simp only [State.raiseBit]
  split
  · rfl
  · split
    · rw [State.reg_setPend _ _ _ _ h]
    · rfl

theorem State.reg_discardRec (s : State) (n : Nat) (q : Reg) (j : Nat) (h : q ∉ recRegs) : (s.discardRec n).reg q j = s.reg q j := by
  simp only [recRegs, List.mem_cons, not_or] at h
  show ((s.count F.REC_LOST_CNT_VALUE 0).raiseBit F.REC_CAUSE_LOST 0).reg q j = _
  rw [State.reg_raiseBit _ _ _ _ _ h.2.2.2.1, State.reg_wr_ne _ _ _ _ _ _ h.2.2.1, State.count, State.reg_wr_ne _ _ _ _ _ _ h.2.1]

theorem State.reg_insertRec (s : State) (r : Rec) (q : Reg) (j : Nat) (h : q ∉ recRegs) : (s.insertRec r).reg q j = s.reg q j := by
  have h1 : q ≠ .REC_STAT := fun e => h (by simp [e, recRegs])
  have hx : ∀ (u : State), u.regs = s.regs → u.reg q j = s.reg q j := by intro u hu; simp [State.reg, hu]
  simp only [State.insertRec]
  by_cases hs : r.sev = 3
  · simp only [hs, if_true]
    split
    · split
      · rw [State.reg_requestFlush _ _ _ h1]; rfl
      · rfl
    · split
      · rw [State.reg_requestFlush _ _ _ h1, State.reg_discardRec _ _ _ _ h]; rfl
      · rw [State.reg_discardRec _ _ _ _ h]; rfl
  · simp only [hs, if_false]
    split
    · split
      · rw [State.reg_requestFlush _ _ _ h1]; rfl
      · rfl
    · split
      · rw [State.reg_requestFlush _ _ _ h1, State.reg_discardRec _ _ _ _ h]; rfl
      · rw [State.reg_discardRec _ _ _ _ h]

/-- Entering a record writes no register but the recorder's and the tray's pending bits. -/
theorem State.reg_record (s : State) (block reg event inst sev : Nat) (data : List Word) (m : Nat) (q : Reg) (j : Nat)
    (h : q ∉ recRegs) : (s.record block reg event inst sev data m).reg q j = s.reg q j := by
  simp only [State.record]
  rw [State.reg_insertRec _ _ _ _ h]; rfl

/-- Raising a cause writes its bit, and of other registers only the recorder's and the tray's pending bits. -/
theorem State.reg_raiseFor (s : State) (f : Fld) (i inst sev : Nat) (data : List Word) (m : Nat) (q : Reg) (j : Nat)
    (h : q ∉ recRegs) : (s.raiseFor f i inst sev data m).reg q j = (s.wr f i 1).reg q j := by
  simp only [State.raiseFor]
  rw [State.reg_record _ _ _ _ _ _ _ _ _ _ h, State.reg_raiseBit]
  exact fun e => h (by simp [e, recRegs])

theorem State.reg_raise (s : State) (f : Fld) (i sev : Nat) (data : List Word) (m : Nat) (q : Reg) (j : Nat)
    (h : q ∉ recRegs) : (s.raise f i sev data m).reg q j = (s.wr f i 1).reg q j :=
  State.reg_raiseFor s f i i sev data m q j h

/-! ### Frames -/

theorem State.rd_raise (s : State) (f g : Fld) (i j sev : Nat) (d : List Word) (m : Nat) (h : g.reg ∉ recRegs) :
    (s.raise f i sev d m).rd g j = (s.wr f i 1).rd g j := by
  rw [State.rd, State.reg_raise _ _ _ _ _ _ _ _ h]; rfl

theorem State.flag_raise (s : State) (f g : Fld) (i j sev : Nat) (d : List Word) (m : Nat) (h : g.reg ∉ recRegs) :
    (s.raise f i sev d m).flag g j = (s.wr f i 1).flag g j := by
  rw [State.flag, State.rd_raise _ _ _ _ _ _ _ _ h]; rfl

theorem State.logless_raise (s : State) (f : Fld) (i sev : Nat) (d : List Word) (m : Nat) : (s.raise f i sev d m).logless = s.logless := by
  rw [State.raise_eq]; rfl

theorem State.logless_record (s : State) (a b c e g : Nat) (d : List Word) (m : Nat) : (s.record a b c e g d m).logless = s.logless := by
  rw [State.record_eq]; rfl

theorem State.logless_raiseBit (s : State) (f : Fld) (i : Nat) : (s.raiseBit f i).logless = s.logless := by
  rw [State.raiseBit_eq]; rfl

theorem State.logless_wr (s : State) (f : Fld) (i v : Nat) : (s.wr f i v).logless = s.logless := rfl

theorem State.regless_wr (s : State) (f : Fld) (i v : Nat) : (s.wr f i v).regless = s.regless := rfl

theorem OnlyLogs.refl (rs : List Reg) (s : State) : OnlyLogs rs s s := ⟨fun _ _ _ => rfl, rfl⟩

theorem OnlyRegs.refl (rs : List Reg) (s : State) : OnlyRegs rs s s := ⟨fun _ _ _ => rfl, rfl⟩

theorem OnlyLogs.raise {rs : List Reg} {s u : State} (f : Fld) (i sev : Nat) (d : List Word) (m : Nat)
    (h : OnlyLogs rs s u) (hf : f.reg ∈ rs) : OnlyLogs rs s (u.raise f i sev d m) := by
  refine ⟨fun r j hr => ?_, by rw [State.logless_raise, h.2]⟩
  have h1 : r ∉ rs := fun e => hr (List.mem_append_left _ e)
  rw [State.reg_raise _ _ _ _ _ _ _ _ (fun e => hr (List.mem_append_right _ e)), State.reg_wr_ne _ _ _ _ _ _ (fun e => h1 (by rw [e]; exact hf))]
  exact h.1 r j hr

theorem OnlyLogs.record {rs : List Reg} {s u : State} (a b c e g : Nat) (d : List Word) (m : Nat)
    (h : OnlyLogs rs s u) : OnlyLogs rs s (u.record a b c e g d m) := by
  refine ⟨fun r j hr => ?_, by rw [State.logless_record, h.2]⟩
  rw [State.reg_record _ _ _ _ _ _ _ _ _ _ (fun e => hr (List.mem_append_right _ e))]
  exact h.1 r j hr

theorem OnlyLogs.raiseBit {rs : List Reg} {s u : State} (f : Fld) (i : Nat)
    (h : OnlyLogs rs s u) (hf : f.reg ∈ rs) : OnlyLogs rs s (u.raiseBit f i) := by
  refine ⟨fun r j hr => ?_, by rw [State.logless_raiseBit, h.2]⟩
  have h1 : r ∉ rs := fun e => hr (List.mem_append_left _ e)
  rw [State.reg_raiseBit _ _ _ _ _ (fun e => hr (List.mem_append_right _ (by simp [e, recRegs]))), State.reg_wr_ne _ _ _ _ _ _ (fun e => h1 (by rw [e]; exact hf))]
  exact h.1 r j hr

theorem OnlyLogs.wr {rs : List Reg} {s u : State} (f : Fld) (i v : Nat)
    (h : OnlyLogs rs s u) (hf : f.reg ∈ rs) : OnlyLogs rs s (u.wr f i v) := by
  refine ⟨fun r j hr => ?_, by rw [State.logless_wr, h.2]⟩
  rw [State.reg_wr_ne _ _ _ _ _ _ (fun e => hr (List.mem_append_left _ (by rw [e]; exact hf)))]
  exact h.1 r j hr

theorem OnlyRegs.wr {rs : List Reg} {s u : State} (f : Fld) (i v : Nat)
    (h : OnlyRegs rs s u) (hf : f.reg ∈ rs) : OnlyRegs rs s (u.wr f i v) := by
  refine ⟨fun r j hr => ?_, by rw [State.regless_wr, h.2]⟩
  rw [State.reg_wr_ne _ _ _ _ _ _ (fun e => hr (by rw [e]; exact hf))]
  exact h.1 r j hr
/-- A change of other state before is a change of the base. -/
theorem OnlyLogs.base {rs : List Reg} {s u : State} (h : u.logless = s.logless) (hr : u.regs = s.regs) : OnlyLogs rs s u :=
  ⟨fun r i _ => by rw [State.reg, State.reg, hr], h⟩

theorem OnlyRegs.base {rs : List Reg} {s u : State} (h : u.regless = s.regless) (hr : u.regs = s.regs) : OnlyRegs rs s u :=
  ⟨fun r i _ => by rw [State.reg, State.reg, hr], h⟩

end Sys2Proof.Machine
end

