-- ==== Sys2Proof/Laws/Memory.lean ====
section
/-! SUPPORT.  Every memory operation keeps the canonical form of the memories, and a byte written is the byte read. -/

namespace Sys2Proof.Machine

theorem State.memWf_iff (s : State) : s.memWf = true ↔
    (Memory.wf s.store = true ∧ Memory.wf s.mem = true) ∧ Memory.poisonWf s.storePoison = true ∧ Memory.poisonWf s.memPoison = true := by
  simp only [State.memWf, Bool.and_eq_true, and_assoc]

/-- Bytes set one after the other keep the form. -/
theorem Memory.wf_foldl {α : Type} (l : List α) (f : List Host.Cell → α → List Host.Cell)
    (hf : ∀ m x, Memory.wf m = true → Memory.wf (f m x) = true) (m : List Host.Cell) (h : Memory.wf m = true) :
    Memory.wf (l.foldl f m) = true := by
  induction l generalizing m with
  | nil => exact h
  | cons x t ih => exact ih _ (hf m x h)

theorem State.memWf_reset : State.reset.memWf = true := by decide

theorem State.memWf_storePut (s : State) (p a : Nat) (l : List Byte) (h : s.memWf = true) : (s.storePut p a l).memWf = true := by
  rw [State.memWf_iff] at h ⊢
  exact ⟨⟨Memory.wf_foldl _ _ (fun m _ hm => Assoc.wf_set 0 m _ _ hm) _ h.1.1, h.1.2⟩, h.2⟩

theorem State.memWf_setLinePoison (s : State) (p a : Nat) (b : Bool) (h : s.memWf = true) : (s.setLinePoison p a b).memWf = true := by
  rw [State.memWf_iff] at h ⊢
  exact ⟨h.1, Assoc.wf_set false _ _ _ h.2.1, h.2.2⟩

theorem State.memWf_storeLine (s : State) (p a : Nat) (l : List Byte) (q : Bool) (h : s.memWf = true) :
    (s.storeLine p a l q).memWf = true := by
  simp only [State.storeLine]
  split
  · exact h
  · split <;> exact State.memWf_setLinePoison _ _ _ _ (State.memWf_storePut _ _ _ _ h)

theorem State.memWf_storeWrite (s : State) (p a : Nat) (l : List Byte) (q : Bool) (h : s.memWf = true) :
    (s.storeWrite p a l q).memWf = true := by
  simp only [State.storeWrite]
  generalize splitLines (l.length + 1) a l = x
  induction x generalizing s with
  | nil => exact h
  | cons y t ih => exact ih _ (State.memWf_storeLine _ _ _ _ _ h)

theorem State.memWf_storeZero (s : State) (p : Nat) (h : s.memWf = true) : (s.storeZero p).memWf = true := by
  rw [State.memWf_iff] at h ⊢
  exact ⟨⟨Assoc.wf_filter 0 _ _ h.1.1, h.1.2⟩, Assoc.wf_filter false _ _ h.2.1, h.2.2⟩

theorem State.memWf_memPut (s : State) (k a : Nat) (l : List (Option Byte)) (h : s.memWf = true) : (s.memPut k a l).memWf = true := by
  rw [State.memWf_iff] at h ⊢
  refine ⟨⟨h.1.1, Memory.wf_foldl _ _ (fun m x hm => ?_) _ h.1.2⟩, h.2⟩
  split
  · exact Assoc.wf_set 0 m _ _ hm
  · exact hm

theorem State.memWf_setMemPoison (s : State) (k a : Nat) (b : Bool) (h : s.memWf = true) : (s.setMemPoison k a b).memWf = true := by
  rw [State.memWf_iff] at h ⊢
  exact ⟨h.1, h.2.1, Assoc.wf_set false _ _ _ h.2.2⟩

theorem State.memWf_memLine (s : State) (k a : Nat) (l : List (Option Byte)) (q : Bool) (h : s.memWf = true) :
    (s.memLine k a l q).memWf = true := by
  simp only [State.memLine]
  split
  · exact State.memWf_setMemPoison _ _ _ _ h
  · split
    · exact h
    · exact State.memWf_setMemPoison _ _ _ _ (State.memWf_memPut _ _ _ _ h)

/-- Every store byte after one line's bytes are put. -/
theorem State.storeByte_storePut (s : State) (p a q b : Nat) (l : List Byte) :
    (s.storePut p a l).storeByte q b =
      (l.zipIdx).foldl (fun v x => if storeKey q b = storeKey p (a + x.2) then x.1 else v) (s.storeByte q b) := by
  simp only [State.storeByte, State.storePut]
  generalize l.zipIdx = z
  generalize s.store = m
  induction z generalizing m with
  | nil => rfl
  | cons y t ih => rw [List.foldl_cons, ih, Assoc.get_set, List.foldl_cons]

/-- A zeroed store reads zeros. -/
theorem State.storeByte_storeZero (s : State) (p a : Nat) : (s.storeZero p).storeByte p a = 0 := by
  simp only [State.storeByte, State.storeZero]
  have hk : storeKey p a / 2 ^ 26 = p := by simp only [storeKey]; omega
  generalize s.store = m
  induction m with
  | nil => rfl
  | cons e t ih =>
    obtain ⟨x, v⟩ := e
    by_cases h : x / 2 ^ 26 = p
    · rw [List.filter_cons_of_neg (by simpa using h)]; exact ih
    · rw [List.filter_cons_of_pos (by simpa using h), Assoc.get, if_neg fun e => h (by rw [e, hk])]; exact ih

end Sys2Proof.Machine
end

