-- ==== Sys2Proof/Laws/State.lean ====
section
/-! SUPPORT.  Each update of State leaves every other field as it was: one lemma per field, so that no proof unfolds a record
update. -/

namespace Sys2Proof.Machine

/-! ### setReg -/

@[simp] theorem State.pending_setReg (s : State) (r : Reg) (i : Nat) (w : Word) : (s.setReg r i w).pending = s.pending := rfl
@[simp] theorem State.free_setReg (s : State) (r : Reg) (i : Nat) (w : Word) : (s.setReg r i w).free = s.free := rfl
@[simp] theorem State.up_setReg (s : State) (r : Reg) (i : Nat) (w : Word) : (s.setReg r i w).up = s.up := rfl
@[simp] theorem State.timeBase_setReg (s : State) (r : Reg) (i : Nat) (w : Word) : (s.setReg r i w).timeBase = s.timeBase := rfl
@[simp] theorem State.irqPulse_setReg (s : State) (r : Reg) (i : Nat) (w : Word) : (s.setReg r i w).irqPulse = s.irqPulse := rfl
@[simp] theorem State.evr_setReg (s : State) (r : Reg) (i : Nat) (w : Word) : (s.setReg r i w).evr = s.evr := rfl
@[simp] theorem State.out_setReg (s : State) (r : Reg) (i : Nat) (w : Word) : (s.setReg r i w).out = s.out := rfl
@[simp] theorem State.store_setReg (s : State) (r : Reg) (i : Nat) (w : Word) : (s.setReg r i w).store = s.store := rfl
@[simp] theorem State.storePoison_setReg (s : State) (r : Reg) (i : Nat) (w : Word) : (s.setReg r i w).storePoison = s.storePoison := rfl
@[simp] theorem State.ueLines_setReg (s : State) (r : Reg) (i : Nat) (w : Word) : (s.setReg r i w).ueLines = s.ueLines := rfl
@[simp] theorem State.patrol_setReg (s : State) (r : Reg) (i : Nat) (w : Word) : (s.setReg r i w).patrol = s.patrol := rfl
@[simp] theorem State.tok_setReg (s : State) (r : Reg) (i : Nat) (w : Word) : (s.setReg r i w).tok = s.tok := rfl
@[simp] theorem State.tokSig_setReg (s : State) (r : Reg) (i : Nat) (w : Word) : (s.setReg r i w).tokSig = s.tokSig := rfl
@[simp] theorem State.waiters_setReg (s : State) (r : Reg) (i : Nat) (w : Word) : (s.setReg r i w).waiters = s.waiters := rfl
@[simp] theorem State.granted_setReg (s : State) (r : Reg) (i : Nat) (w : Word) : (s.setReg r i w).granted = s.granted := rfl
@[simp] theorem State.tabs_setReg (s : State) (r : Reg) (i : Nat) (w : Word) : (s.setReg r i w).tabs = s.tabs := rfl
@[simp] theorem State.vregs_setReg (s : State) (r : Reg) (i : Nat) (w : Word) : (s.setReg r i w).vregs = s.vregs := rfl
@[simp] theorem State.rng_setReg (s : State) (r : Reg) (i : Nat) (w : Word) : (s.setReg r i w).rng = s.rng := rfl
@[simp] theorem State.engQ_setReg (s : State) (r : Reg) (i : Nat) (w : Word) : (s.setReg r i w).engQ = s.engQ := rfl
@[simp] theorem State.bobQ_setReg (s : State) (r : Reg) (i : Nat) (w : Word) : (s.setReg r i w).bobQ = s.bobQ := rfl
@[simp] theorem State.replayQ_setReg (s : State) (r : Reg) (i : Nat) (w : Word) : (s.setReg r i w).replayQ = s.replayQ := rfl
@[simp] theorem State.parts_setReg (s : State) (r : Reg) (i : Nat) (w : Word) : (s.setReg r i w).parts = s.parts := rfl
@[simp] theorem State.rings_setReg (s : State) (r : Reg) (i : Nat) (w : Word) : (s.setReg r i w).rings = s.rings := rfl
@[simp] theorem State.cmds_setReg (s : State) (r : Reg) (i : Nat) (w : Word) : (s.setReg r i w).cmds = s.cmds := rfl
@[simp] theorem State.mem_setReg (s : State) (r : Reg) (i : Nat) (w : Word) : (s.setReg r i w).mem = s.mem := rfl
@[simp] theorem State.memPoison_setReg (s : State) (r : Reg) (i : Nat) (w : Word) : (s.setReg r i w).memPoison = s.memPoison := rfl
@[simp] theorem State.pages_setReg (s : State) (r : Reg) (i : Nat) (w : Word) : (s.setReg r i w).pages = s.pages := rfl
@[simp] theorem State.convs_setReg (s : State) (r : Reg) (i : Nat) (w : Word) : (s.setReg r i w).convs = s.convs := rfl
@[simp] theorem State.keys_setReg (s : State) (r : Reg) (i : Nat) (w : Word) : (s.setReg r i w).keys = s.keys := rfl
@[simp] theorem State.modKey_setReg (s : State) (r : Reg) (i : Nat) (w : Word) : (s.setReg r i w).modKey = s.modKey := rfl
@[simp] theorem State.zfills_setReg (s : State) (r : Reg) (i : Nat) (w : Word) : (s.setReg r i w).zfills = s.zfills := rfl
@[simp] theorem State.memPatrol_setReg (s : State) (r : Reg) (i : Nat) (w : Word) : (s.setReg r i w).memPatrol = s.memPatrol := rfl
@[simp] theorem State.rowCe_setReg (s : State) (r : Reg) (i : Nat) (w : Word) : (s.setReg r i w).rowCe = s.rowCe := rfl
@[simp] theorem State.spares_setReg (s : State) (r : Reg) (i : Nat) (w : Word) : (s.setReg r i w).spares = s.spares := rfl
@[simp] theorem State.rowCopies_setReg (s : State) (r : Reg) (i : Nat) (w : Word) : (s.setReg r i w).rowCopies = s.rowCopies := rfl
@[simp] theorem State.loansOut_setReg (s : State) (r : Reg) (i : Nat) (w : Word) : (s.setReg r i w).loansOut = s.loansOut := rfl
@[simp] theorem State.offers_setReg (s : State) (r : Reg) (i : Nat) (w : Word) : (s.setReg r i w).offers = s.offers := rfl
@[simp] theorem State.asks_setReg (s : State) (r : Reg) (i : Nat) (w : Word) : (s.setReg r i w).asks = s.asks := rfl
@[simp] theorem State.fab_setReg (s : State) (r : Reg) (i : Nat) (w : Word) : (s.setReg r i w).fab = s.fab := rfl
@[simp] theorem State.wins_setReg (s : State) (r : Reg) (i : Nat) (w : Word) : (s.setReg r i w).wins = s.wins := rfl
@[simp] theorem State.afSeen_setReg (s : State) (r : Reg) (i : Nat) (w : Word) : (s.setReg r i w).afSeen = s.afSeen := rfl
@[simp] theorem State.pwr_setReg (s : State) (r : Reg) (i : Nat) (w : Word) : (s.setReg r i w).pwr = s.pwr := rfl
@[simp] theorem State.nv_setReg (s : State) (r : Reg) (i : Nat) (w : Word) : (s.setReg r i w).nv = s.nv := rfl
@[simp] theorem State.mapDue_setReg (s : State) (r : Reg) (i : Nat) (w : Word) : (s.setReg r i w).mapDue = s.mapDue := rfl
@[simp] theorem State.bringIns_setReg (s : State) (r : Reg) (i : Nat) (w : Word) : (s.setReg r i w).bringIns = s.bringIns := rfl
@[simp] theorem State.qps_setReg (s : State) (r : Reg) (i : Nat) (w : Word) : (s.setReg r i w).qps = s.qps := rfl
@[simp] theorem State.ports_setReg (s : State) (r : Reg) (i : Nat) (w : Word) : (s.setReg r i w).ports = s.ports := rfl
@[simp] theorem State.kslots_setReg (s : State) (r : Reg) (i : Nat) (w : Word) : (s.setReg r i w).kslots = s.kslots := rfl
@[simp] theorem State.deliveries_setReg (s : State) (r : Reg) (i : Nat) (w : Word) : (s.setReg r i w).deliveries = s.deliveries := rfl
@[simp] theorem State.conf_setReg (s : State) (r : Reg) (i : Nat) (w : Word) : (s.setReg r i w).conf = s.conf := rfl
@[simp] theorem State.sessions_setReg (s : State) (r : Reg) (i : Nat) (w : Word) : (s.setReg r i w).sessions = s.sessions := rfl
@[simp] theorem State.beats_setReg (s : State) (r : Reg) (i : Nat) (w : Word) : (s.setReg r i w).beats = s.beats := rfl
@[simp] theorem State.mgmt_setReg (s : State) (r : Reg) (i : Nat) (w : Word) : (s.setReg r i w).mgmt = s.mgmt := rfl
@[simp] theorem State.owed_setReg (s : State) (r : Reg) (i : Nat) (w : Word) : (s.setReg r i w).owed = s.owed := rfl
@[simp] theorem State.timeFrac_setReg (s : State) (r : Reg) (i : Nat) (w : Word) : (s.setReg r i w).timeFrac = s.timeFrac := rfl
@[simp] theorem State.timLatch_setReg (s : State) (r : Reg) (i : Nat) (w : Word) : (s.setReg r i w).timLatch = s.timLatch := rfl
@[simp] theorem State.cio_setReg (s : State) (r : Reg) (i : Nat) (w : Word) : (s.setReg r i w).cio = s.cio := rfl
@[simp] theorem State.cle_setReg (s : State) (r : Reg) (i : Nat) (w : Word) : (s.setReg r i w).cle = s.cle := rfl
@[simp] theorem State.sec_setReg (s : State) (r : Reg) (i : Nat) (w : Word) : (s.setReg r i w).sec = s.sec := rfl
@[simp] theorem State.meter_setReg (s : State) (r : Reg) (i : Nat) (w : Word) : (s.setReg r i w).meter = s.meter := rfl
@[simp] theorem State.mtrIf_setReg (s : State) (r : Reg) (i : Nat) (w : Word) : (s.setReg r i w).mtrIf = s.mtrIf := rfl
@[simp] theorem State.boot_setReg (s : State) (r : Reg) (i : Nat) (w : Word) : (s.setReg r i w).boot = s.boot := rfl
@[simp] theorem State.ps_setReg (s : State) (r : Reg) (i : Nat) (w : Word) : (s.setReg r i w).ps = s.ps := rfl
@[simp] theorem State.clarn_setReg (s : State) (r : Reg) (i : Nat) (w : Word) : (s.setReg r i w).clarn = s.clarn := rfl
@[simp] theorem State.row_setReg (s : State) (r : Reg) (i : Nat) (w : Word) : (s.setReg r i w).row = s.row := rfl
@[simp] theorem State.i3c_setReg (s : State) (r : Reg) (i : Nat) (w : Word) : (s.setReg r i w).i3c = s.i3c := rfl

/-! ### wr -/

@[simp] theorem State.pending_wr (s : State) (f : Fld) (i v : Nat) : (s.wr f i v).pending = s.pending := rfl
@[simp] theorem State.free_wr (s : State) (f : Fld) (i v : Nat) : (s.wr f i v).free = s.free := rfl
@[simp] theorem State.up_wr (s : State) (f : Fld) (i v : Nat) : (s.wr f i v).up = s.up := rfl
@[simp] theorem State.timeBase_wr (s : State) (f : Fld) (i v : Nat) : (s.wr f i v).timeBase = s.timeBase := rfl
@[simp] theorem State.irqPulse_wr (s : State) (f : Fld) (i v : Nat) : (s.wr f i v).irqPulse = s.irqPulse := rfl
@[simp] theorem State.evr_wr (s : State) (f : Fld) (i v : Nat) : (s.wr f i v).evr = s.evr := rfl
@[simp] theorem State.out_wr (s : State) (f : Fld) (i v : Nat) : (s.wr f i v).out = s.out := rfl
@[simp] theorem State.store_wr (s : State) (f : Fld) (i v : Nat) : (s.wr f i v).store = s.store := rfl
@[simp] theorem State.storePoison_wr (s : State) (f : Fld) (i v : Nat) : (s.wr f i v).storePoison = s.storePoison := rfl
@[simp] theorem State.ueLines_wr (s : State) (f : Fld) (i v : Nat) : (s.wr f i v).ueLines = s.ueLines := rfl
@[simp] theorem State.patrol_wr (s : State) (f : Fld) (i v : Nat) : (s.wr f i v).patrol = s.patrol := rfl
@[simp] theorem State.tok_wr (s : State) (f : Fld) (i v : Nat) : (s.wr f i v).tok = s.tok := rfl
@[simp] theorem State.tokSig_wr (s : State) (f : Fld) (i v : Nat) : (s.wr f i v).tokSig = s.tokSig := rfl
@[simp] theorem State.waiters_wr (s : State) (f : Fld) (i v : Nat) : (s.wr f i v).waiters = s.waiters := rfl
@[simp] theorem State.granted_wr (s : State) (f : Fld) (i v : Nat) : (s.wr f i v).granted = s.granted := rfl
@[simp] theorem State.tabs_wr (s : State) (f : Fld) (i v : Nat) : (s.wr f i v).tabs = s.tabs := rfl
@[simp] theorem State.vregs_wr (s : State) (f : Fld) (i v : Nat) : (s.wr f i v).vregs = s.vregs := rfl
@[simp] theorem State.rng_wr (s : State) (f : Fld) (i v : Nat) : (s.wr f i v).rng = s.rng := rfl
@[simp] theorem State.engQ_wr (s : State) (f : Fld) (i v : Nat) : (s.wr f i v).engQ = s.engQ := rfl
@[simp] theorem State.bobQ_wr (s : State) (f : Fld) (i v : Nat) : (s.wr f i v).bobQ = s.bobQ := rfl
@[simp] theorem State.replayQ_wr (s : State) (f : Fld) (i v : Nat) : (s.wr f i v).replayQ = s.replayQ := rfl
@[simp] theorem State.parts_wr (s : State) (f : Fld) (i v : Nat) : (s.wr f i v).parts = s.parts := rfl
@[simp] theorem State.rings_wr (s : State) (f : Fld) (i v : Nat) : (s.wr f i v).rings = s.rings := rfl
@[simp] theorem State.cmds_wr (s : State) (f : Fld) (i v : Nat) : (s.wr f i v).cmds = s.cmds := rfl
@[simp] theorem State.mem_wr (s : State) (f : Fld) (i v : Nat) : (s.wr f i v).mem = s.mem := rfl
@[simp] theorem State.memPoison_wr (s : State) (f : Fld) (i v : Nat) : (s.wr f i v).memPoison = s.memPoison := rfl
@[simp] theorem State.pages_wr (s : State) (f : Fld) (i v : Nat) : (s.wr f i v).pages = s.pages := rfl
@[simp] theorem State.convs_wr (s : State) (f : Fld) (i v : Nat) : (s.wr f i v).convs = s.convs := rfl
@[simp] theorem State.keys_wr (s : State) (f : Fld) (i v : Nat) : (s.wr f i v).keys = s.keys := rfl
@[simp] theorem State.modKey_wr (s : State) (f : Fld) (i v : Nat) : (s.wr f i v).modKey = s.modKey := rfl
@[simp] theorem State.zfills_wr (s : State) (f : Fld) (i v : Nat) : (s.wr f i v).zfills = s.zfills := rfl
@[simp] theorem State.memPatrol_wr (s : State) (f : Fld) (i v : Nat) : (s.wr f i v).memPatrol = s.memPatrol := rfl
@[simp] theorem State.rowCe_wr (s : State) (f : Fld) (i v : Nat) : (s.wr f i v).rowCe = s.rowCe := rfl
@[simp] theorem State.spares_wr (s : State) (f : Fld) (i v : Nat) : (s.wr f i v).spares = s.spares := rfl
@[simp] theorem State.rowCopies_wr (s : State) (f : Fld) (i v : Nat) : (s.wr f i v).rowCopies = s.rowCopies := rfl
@[simp] theorem State.loansOut_wr (s : State) (f : Fld) (i v : Nat) : (s.wr f i v).loansOut = s.loansOut := rfl
@[simp] theorem State.offers_wr (s : State) (f : Fld) (i v : Nat) : (s.wr f i v).offers = s.offers := rfl
@[simp] theorem State.asks_wr (s : State) (f : Fld) (i v : Nat) : (s.wr f i v).asks = s.asks := rfl
@[simp] theorem State.fab_wr (s : State) (f : Fld) (i v : Nat) : (s.wr f i v).fab = s.fab := rfl
@[simp] theorem State.wins_wr (s : State) (f : Fld) (i v : Nat) : (s.wr f i v).wins = s.wins := rfl
@[simp] theorem State.afSeen_wr (s : State) (f : Fld) (i v : Nat) : (s.wr f i v).afSeen = s.afSeen := rfl
@[simp] theorem State.pwr_wr (s : State) (f : Fld) (i v : Nat) : (s.wr f i v).pwr = s.pwr := rfl
@[simp] theorem State.nv_wr (s : State) (f : Fld) (i v : Nat) : (s.wr f i v).nv = s.nv := rfl
@[simp] theorem State.mapDue_wr (s : State) (f : Fld) (i v : Nat) : (s.wr f i v).mapDue = s.mapDue := rfl
@[simp] theorem State.bringIns_wr (s : State) (f : Fld) (i v : Nat) : (s.wr f i v).bringIns = s.bringIns := rfl
@[simp] theorem State.qps_wr (s : State) (f : Fld) (i v : Nat) : (s.wr f i v).qps = s.qps := rfl
@[simp] theorem State.ports_wr (s : State) (f : Fld) (i v : Nat) : (s.wr f i v).ports = s.ports := rfl
@[simp] theorem State.kslots_wr (s : State) (f : Fld) (i v : Nat) : (s.wr f i v).kslots = s.kslots := rfl
@[simp] theorem State.deliveries_wr (s : State) (f : Fld) (i v : Nat) : (s.wr f i v).deliveries = s.deliveries := rfl
@[simp] theorem State.conf_wr (s : State) (f : Fld) (i v : Nat) : (s.wr f i v).conf = s.conf := rfl
@[simp] theorem State.sessions_wr (s : State) (f : Fld) (i v : Nat) : (s.wr f i v).sessions = s.sessions := rfl
@[simp] theorem State.beats_wr (s : State) (f : Fld) (i v : Nat) : (s.wr f i v).beats = s.beats := rfl
@[simp] theorem State.mgmt_wr (s : State) (f : Fld) (i v : Nat) : (s.wr f i v).mgmt = s.mgmt := rfl
@[simp] theorem State.owed_wr (s : State) (f : Fld) (i v : Nat) : (s.wr f i v).owed = s.owed := rfl
@[simp] theorem State.timeFrac_wr (s : State) (f : Fld) (i v : Nat) : (s.wr f i v).timeFrac = s.timeFrac := rfl
@[simp] theorem State.timLatch_wr (s : State) (f : Fld) (i v : Nat) : (s.wr f i v).timLatch = s.timLatch := rfl
@[simp] theorem State.cio_wr (s : State) (f : Fld) (i v : Nat) : (s.wr f i v).cio = s.cio := rfl
@[simp] theorem State.cle_wr (s : State) (f : Fld) (i v : Nat) : (s.wr f i v).cle = s.cle := rfl
@[simp] theorem State.sec_wr (s : State) (f : Fld) (i v : Nat) : (s.wr f i v).sec = s.sec := rfl
@[simp] theorem State.meter_wr (s : State) (f : Fld) (i v : Nat) : (s.wr f i v).meter = s.meter := rfl
@[simp] theorem State.mtrIf_wr (s : State) (f : Fld) (i v : Nat) : (s.wr f i v).mtrIf = s.mtrIf := rfl
@[simp] theorem State.boot_wr (s : State) (f : Fld) (i v : Nat) : (s.wr f i v).boot = s.boot := rfl
@[simp] theorem State.ps_wr (s : State) (f : Fld) (i v : Nat) : (s.wr f i v).ps = s.ps := rfl
@[simp] theorem State.clarn_wr (s : State) (f : Fld) (i v : Nat) : (s.wr f i v).clarn = s.clarn := rfl
@[simp] theorem State.row_wr (s : State) (f : Fld) (i v : Nat) : (s.wr f i v).row = s.row := rfl
@[simp] theorem State.i3c_wr (s : State) (f : Fld) (i v : Nat) : (s.wr f i v).i3c = s.i3c := rfl

/-! ### wrS -/

@[simp] theorem State.pending_wrS (s : State) (f : Fld) (i : Nat) (v : Int) : (s.wrS f i v).pending = s.pending := rfl
@[simp] theorem State.free_wrS (s : State) (f : Fld) (i : Nat) (v : Int) : (s.wrS f i v).free = s.free := rfl
@[simp] theorem State.up_wrS (s : State) (f : Fld) (i : Nat) (v : Int) : (s.wrS f i v).up = s.up := rfl
@[simp] theorem State.timeBase_wrS (s : State) (f : Fld) (i : Nat) (v : Int) : (s.wrS f i v).timeBase = s.timeBase := rfl
@[simp] theorem State.irqPulse_wrS (s : State) (f : Fld) (i : Nat) (v : Int) : (s.wrS f i v).irqPulse = s.irqPulse := rfl
@[simp] theorem State.evr_wrS (s : State) (f : Fld) (i : Nat) (v : Int) : (s.wrS f i v).evr = s.evr := rfl
@[simp] theorem State.out_wrS (s : State) (f : Fld) (i : Nat) (v : Int) : (s.wrS f i v).out = s.out := rfl
@[simp] theorem State.store_wrS (s : State) (f : Fld) (i : Nat) (v : Int) : (s.wrS f i v).store = s.store := rfl
@[simp] theorem State.storePoison_wrS (s : State) (f : Fld) (i : Nat) (v : Int) : (s.wrS f i v).storePoison = s.storePoison := rfl
@[simp] theorem State.ueLines_wrS (s : State) (f : Fld) (i : Nat) (v : Int) : (s.wrS f i v).ueLines = s.ueLines := rfl
@[simp] theorem State.patrol_wrS (s : State) (f : Fld) (i : Nat) (v : Int) : (s.wrS f i v).patrol = s.patrol := rfl
@[simp] theorem State.tok_wrS (s : State) (f : Fld) (i : Nat) (v : Int) : (s.wrS f i v).tok = s.tok := rfl
@[simp] theorem State.tokSig_wrS (s : State) (f : Fld) (i : Nat) (v : Int) : (s.wrS f i v).tokSig = s.tokSig := rfl
@[simp] theorem State.waiters_wrS (s : State) (f : Fld) (i : Nat) (v : Int) : (s.wrS f i v).waiters = s.waiters := rfl
@[simp] theorem State.granted_wrS (s : State) (f : Fld) (i : Nat) (v : Int) : (s.wrS f i v).granted = s.granted := rfl
@[simp] theorem State.tabs_wrS (s : State) (f : Fld) (i : Nat) (v : Int) : (s.wrS f i v).tabs = s.tabs := rfl
@[simp] theorem State.vregs_wrS (s : State) (f : Fld) (i : Nat) (v : Int) : (s.wrS f i v).vregs = s.vregs := rfl
@[simp] theorem State.rng_wrS (s : State) (f : Fld) (i : Nat) (v : Int) : (s.wrS f i v).rng = s.rng := rfl
@[simp] theorem State.engQ_wrS (s : State) (f : Fld) (i : Nat) (v : Int) : (s.wrS f i v).engQ = s.engQ := rfl
@[simp] theorem State.bobQ_wrS (s : State) (f : Fld) (i : Nat) (v : Int) : (s.wrS f i v).bobQ = s.bobQ := rfl
@[simp] theorem State.replayQ_wrS (s : State) (f : Fld) (i : Nat) (v : Int) : (s.wrS f i v).replayQ = s.replayQ := rfl
@[simp] theorem State.parts_wrS (s : State) (f : Fld) (i : Nat) (v : Int) : (s.wrS f i v).parts = s.parts := rfl
@[simp] theorem State.rings_wrS (s : State) (f : Fld) (i : Nat) (v : Int) : (s.wrS f i v).rings = s.rings := rfl
@[simp] theorem State.cmds_wrS (s : State) (f : Fld) (i : Nat) (v : Int) : (s.wrS f i v).cmds = s.cmds := rfl
@[simp] theorem State.mem_wrS (s : State) (f : Fld) (i : Nat) (v : Int) : (s.wrS f i v).mem = s.mem := rfl
@[simp] theorem State.memPoison_wrS (s : State) (f : Fld) (i : Nat) (v : Int) : (s.wrS f i v).memPoison = s.memPoison := rfl
@[simp] theorem State.pages_wrS (s : State) (f : Fld) (i : Nat) (v : Int) : (s.wrS f i v).pages = s.pages := rfl
@[simp] theorem State.convs_wrS (s : State) (f : Fld) (i : Nat) (v : Int) : (s.wrS f i v).convs = s.convs := rfl
@[simp] theorem State.keys_wrS (s : State) (f : Fld) (i : Nat) (v : Int) : (s.wrS f i v).keys = s.keys := rfl
@[simp] theorem State.modKey_wrS (s : State) (f : Fld) (i : Nat) (v : Int) : (s.wrS f i v).modKey = s.modKey := rfl
@[simp] theorem State.zfills_wrS (s : State) (f : Fld) (i : Nat) (v : Int) : (s.wrS f i v).zfills = s.zfills := rfl
@[simp] theorem State.memPatrol_wrS (s : State) (f : Fld) (i : Nat) (v : Int) : (s.wrS f i v).memPatrol = s.memPatrol := rfl
@[simp] theorem State.rowCe_wrS (s : State) (f : Fld) (i : Nat) (v : Int) : (s.wrS f i v).rowCe = s.rowCe := rfl
@[simp] theorem State.spares_wrS (s : State) (f : Fld) (i : Nat) (v : Int) : (s.wrS f i v).spares = s.spares := rfl
@[simp] theorem State.rowCopies_wrS (s : State) (f : Fld) (i : Nat) (v : Int) : (s.wrS f i v).rowCopies = s.rowCopies := rfl
@[simp] theorem State.loansOut_wrS (s : State) (f : Fld) (i : Nat) (v : Int) : (s.wrS f i v).loansOut = s.loansOut := rfl
@[simp] theorem State.offers_wrS (s : State) (f : Fld) (i : Nat) (v : Int) : (s.wrS f i v).offers = s.offers := rfl
@[simp] theorem State.asks_wrS (s : State) (f : Fld) (i : Nat) (v : Int) : (s.wrS f i v).asks = s.asks := rfl
@[simp] theorem State.fab_wrS (s : State) (f : Fld) (i : Nat) (v : Int) : (s.wrS f i v).fab = s.fab := rfl
@[simp] theorem State.wins_wrS (s : State) (f : Fld) (i : Nat) (v : Int) : (s.wrS f i v).wins = s.wins := rfl
@[simp] theorem State.afSeen_wrS (s : State) (f : Fld) (i : Nat) (v : Int) : (s.wrS f i v).afSeen = s.afSeen := rfl
@[simp] theorem State.pwr_wrS (s : State) (f : Fld) (i : Nat) (v : Int) : (s.wrS f i v).pwr = s.pwr := rfl
@[simp] theorem State.nv_wrS (s : State) (f : Fld) (i : Nat) (v : Int) : (s.wrS f i v).nv = s.nv := rfl
@[simp] theorem State.mapDue_wrS (s : State) (f : Fld) (i : Nat) (v : Int) : (s.wrS f i v).mapDue = s.mapDue := rfl
@[simp] theorem State.bringIns_wrS (s : State) (f : Fld) (i : Nat) (v : Int) : (s.wrS f i v).bringIns = s.bringIns := rfl
@[simp] theorem State.qps_wrS (s : State) (f : Fld) (i : Nat) (v : Int) : (s.wrS f i v).qps = s.qps := rfl
@[simp] theorem State.ports_wrS (s : State) (f : Fld) (i : Nat) (v : Int) : (s.wrS f i v).ports = s.ports := rfl
@[simp] theorem State.kslots_wrS (s : State) (f : Fld) (i : Nat) (v : Int) : (s.wrS f i v).kslots = s.kslots := rfl
@[simp] theorem State.deliveries_wrS (s : State) (f : Fld) (i : Nat) (v : Int) : (s.wrS f i v).deliveries = s.deliveries := rfl
@[simp] theorem State.conf_wrS (s : State) (f : Fld) (i : Nat) (v : Int) : (s.wrS f i v).conf = s.conf := rfl
@[simp] theorem State.sessions_wrS (s : State) (f : Fld) (i : Nat) (v : Int) : (s.wrS f i v).sessions = s.sessions := rfl
@[simp] theorem State.beats_wrS (s : State) (f : Fld) (i : Nat) (v : Int) : (s.wrS f i v).beats = s.beats := rfl
@[simp] theorem State.mgmt_wrS (s : State) (f : Fld) (i : Nat) (v : Int) : (s.wrS f i v).mgmt = s.mgmt := rfl
@[simp] theorem State.owed_wrS (s : State) (f : Fld) (i : Nat) (v : Int) : (s.wrS f i v).owed = s.owed := rfl
@[simp] theorem State.timeFrac_wrS (s : State) (f : Fld) (i : Nat) (v : Int) : (s.wrS f i v).timeFrac = s.timeFrac := rfl
@[simp] theorem State.timLatch_wrS (s : State) (f : Fld) (i : Nat) (v : Int) : (s.wrS f i v).timLatch = s.timLatch := rfl
@[simp] theorem State.cio_wrS (s : State) (f : Fld) (i : Nat) (v : Int) : (s.wrS f i v).cio = s.cio := rfl
@[simp] theorem State.cle_wrS (s : State) (f : Fld) (i : Nat) (v : Int) : (s.wrS f i v).cle = s.cle := rfl
@[simp] theorem State.sec_wrS (s : State) (f : Fld) (i : Nat) (v : Int) : (s.wrS f i v).sec = s.sec := rfl
@[simp] theorem State.meter_wrS (s : State) (f : Fld) (i : Nat) (v : Int) : (s.wrS f i v).meter = s.meter := rfl
@[simp] theorem State.mtrIf_wrS (s : State) (f : Fld) (i : Nat) (v : Int) : (s.wrS f i v).mtrIf = s.mtrIf := rfl
@[simp] theorem State.boot_wrS (s : State) (f : Fld) (i : Nat) (v : Int) : (s.wrS f i v).boot = s.boot := rfl
@[simp] theorem State.ps_wrS (s : State) (f : Fld) (i : Nat) (v : Int) : (s.wrS f i v).ps = s.ps := rfl
@[simp] theorem State.clarn_wrS (s : State) (f : Fld) (i : Nat) (v : Int) : (s.wrS f i v).clarn = s.clarn := rfl
@[simp] theorem State.row_wrS (s : State) (f : Fld) (i : Nat) (v : Int) : (s.wrS f i v).row = s.row := rfl
@[simp] theorem State.i3c_wrS (s : State) (f : Fld) (i : Nat) (v : Int) : (s.wrS f i v).i3c = s.i3c := rfl

/-! ### count -/

@[simp] theorem State.pending_count (s : State) (f : Fld) (i : Nat) : (s.count f i).pending = s.pending := rfl
@[simp] theorem State.free_count (s : State) (f : Fld) (i : Nat) : (s.count f i).free = s.free := rfl
@[simp] theorem State.up_count (s : State) (f : Fld) (i : Nat) : (s.count f i).up = s.up := rfl
@[simp] theorem State.timeBase_count (s : State) (f : Fld) (i : Nat) : (s.count f i).timeBase = s.timeBase := rfl
@[simp] theorem State.irqPulse_count (s : State) (f : Fld) (i : Nat) : (s.count f i).irqPulse = s.irqPulse := rfl
@[simp] theorem State.evr_count (s : State) (f : Fld) (i : Nat) : (s.count f i).evr = s.evr := rfl
@[simp] theorem State.out_count (s : State) (f : Fld) (i : Nat) : (s.count f i).out = s.out := rfl
@[simp] theorem State.store_count (s : State) (f : Fld) (i : Nat) : (s.count f i).store = s.store := rfl
@[simp] theorem State.storePoison_count (s : State) (f : Fld) (i : Nat) : (s.count f i).storePoison = s.storePoison := rfl
@[simp] theorem State.ueLines_count (s : State) (f : Fld) (i : Nat) : (s.count f i).ueLines = s.ueLines := rfl
@[simp] theorem State.patrol_count (s : State) (f : Fld) (i : Nat) : (s.count f i).patrol = s.patrol := rfl
@[simp] theorem State.tok_count (s : State) (f : Fld) (i : Nat) : (s.count f i).tok = s.tok := rfl
@[simp] theorem State.tokSig_count (s : State) (f : Fld) (i : Nat) : (s.count f i).tokSig = s.tokSig := rfl
@[simp] theorem State.waiters_count (s : State) (f : Fld) (i : Nat) : (s.count f i).waiters = s.waiters := rfl
@[simp] theorem State.granted_count (s : State) (f : Fld) (i : Nat) : (s.count f i).granted = s.granted := rfl
@[simp] theorem State.tabs_count (s : State) (f : Fld) (i : Nat) : (s.count f i).tabs = s.tabs := rfl
@[simp] theorem State.vregs_count (s : State) (f : Fld) (i : Nat) : (s.count f i).vregs = s.vregs := rfl
@[simp] theorem State.rng_count (s : State) (f : Fld) (i : Nat) : (s.count f i).rng = s.rng := rfl
@[simp] theorem State.engQ_count (s : State) (f : Fld) (i : Nat) : (s.count f i).engQ = s.engQ := rfl
@[simp] theorem State.bobQ_count (s : State) (f : Fld) (i : Nat) : (s.count f i).bobQ = s.bobQ := rfl
@[simp] theorem State.replayQ_count (s : State) (f : Fld) (i : Nat) : (s.count f i).replayQ = s.replayQ := rfl
@[simp] theorem State.parts_count (s : State) (f : Fld) (i : Nat) : (s.count f i).parts = s.parts := rfl
@[simp] theorem State.rings_count (s : State) (f : Fld) (i : Nat) : (s.count f i).rings = s.rings := rfl
@[simp] theorem State.cmds_count (s : State) (f : Fld) (i : Nat) : (s.count f i).cmds = s.cmds := rfl
@[simp] theorem State.mem_count (s : State) (f : Fld) (i : Nat) : (s.count f i).mem = s.mem := rfl
@[simp] theorem State.memPoison_count (s : State) (f : Fld) (i : Nat) : (s.count f i).memPoison = s.memPoison := rfl
@[simp] theorem State.pages_count (s : State) (f : Fld) (i : Nat) : (s.count f i).pages = s.pages := rfl
@[simp] theorem State.convs_count (s : State) (f : Fld) (i : Nat) : (s.count f i).convs = s.convs := rfl
@[simp] theorem State.keys_count (s : State) (f : Fld) (i : Nat) : (s.count f i).keys = s.keys := rfl
@[simp] theorem State.modKey_count (s : State) (f : Fld) (i : Nat) : (s.count f i).modKey = s.modKey := rfl
@[simp] theorem State.zfills_count (s : State) (f : Fld) (i : Nat) : (s.count f i).zfills = s.zfills := rfl
@[simp] theorem State.memPatrol_count (s : State) (f : Fld) (i : Nat) : (s.count f i).memPatrol = s.memPatrol := rfl
@[simp] theorem State.rowCe_count (s : State) (f : Fld) (i : Nat) : (s.count f i).rowCe = s.rowCe := rfl
@[simp] theorem State.spares_count (s : State) (f : Fld) (i : Nat) : (s.count f i).spares = s.spares := rfl
@[simp] theorem State.rowCopies_count (s : State) (f : Fld) (i : Nat) : (s.count f i).rowCopies = s.rowCopies := rfl
@[simp] theorem State.loansOut_count (s : State) (f : Fld) (i : Nat) : (s.count f i).loansOut = s.loansOut := rfl
@[simp] theorem State.offers_count (s : State) (f : Fld) (i : Nat) : (s.count f i).offers = s.offers := rfl
@[simp] theorem State.asks_count (s : State) (f : Fld) (i : Nat) : (s.count f i).asks = s.asks := rfl
@[simp] theorem State.fab_count (s : State) (f : Fld) (i : Nat) : (s.count f i).fab = s.fab := rfl
@[simp] theorem State.wins_count (s : State) (f : Fld) (i : Nat) : (s.count f i).wins = s.wins := rfl
@[simp] theorem State.afSeen_count (s : State) (f : Fld) (i : Nat) : (s.count f i).afSeen = s.afSeen := rfl
@[simp] theorem State.pwr_count (s : State) (f : Fld) (i : Nat) : (s.count f i).pwr = s.pwr := rfl
@[simp] theorem State.nv_count (s : State) (f : Fld) (i : Nat) : (s.count f i).nv = s.nv := rfl
@[simp] theorem State.mapDue_count (s : State) (f : Fld) (i : Nat) : (s.count f i).mapDue = s.mapDue := rfl
@[simp] theorem State.bringIns_count (s : State) (f : Fld) (i : Nat) : (s.count f i).bringIns = s.bringIns := rfl
@[simp] theorem State.qps_count (s : State) (f : Fld) (i : Nat) : (s.count f i).qps = s.qps := rfl
@[simp] theorem State.ports_count (s : State) (f : Fld) (i : Nat) : (s.count f i).ports = s.ports := rfl
@[simp] theorem State.kslots_count (s : State) (f : Fld) (i : Nat) : (s.count f i).kslots = s.kslots := rfl
@[simp] theorem State.deliveries_count (s : State) (f : Fld) (i : Nat) : (s.count f i).deliveries = s.deliveries := rfl
@[simp] theorem State.conf_count (s : State) (f : Fld) (i : Nat) : (s.count f i).conf = s.conf := rfl
@[simp] theorem State.sessions_count (s : State) (f : Fld) (i : Nat) : (s.count f i).sessions = s.sessions := rfl
@[simp] theorem State.beats_count (s : State) (f : Fld) (i : Nat) : (s.count f i).beats = s.beats := rfl
@[simp] theorem State.mgmt_count (s : State) (f : Fld) (i : Nat) : (s.count f i).mgmt = s.mgmt := rfl
@[simp] theorem State.owed_count (s : State) (f : Fld) (i : Nat) : (s.count f i).owed = s.owed := rfl
@[simp] theorem State.timeFrac_count (s : State) (f : Fld) (i : Nat) : (s.count f i).timeFrac = s.timeFrac := rfl
@[simp] theorem State.timLatch_count (s : State) (f : Fld) (i : Nat) : (s.count f i).timLatch = s.timLatch := rfl
@[simp] theorem State.cio_count (s : State) (f : Fld) (i : Nat) : (s.count f i).cio = s.cio := rfl
@[simp] theorem State.cle_count (s : State) (f : Fld) (i : Nat) : (s.count f i).cle = s.cle := rfl
@[simp] theorem State.sec_count (s : State) (f : Fld) (i : Nat) : (s.count f i).sec = s.sec := rfl
@[simp] theorem State.meter_count (s : State) (f : Fld) (i : Nat) : (s.count f i).meter = s.meter := rfl
@[simp] theorem State.mtrIf_count (s : State) (f : Fld) (i : Nat) : (s.count f i).mtrIf = s.mtrIf := rfl
@[simp] theorem State.boot_count (s : State) (f : Fld) (i : Nat) : (s.count f i).boot = s.boot := rfl
@[simp] theorem State.ps_count (s : State) (f : Fld) (i : Nat) : (s.count f i).ps = s.ps := rfl
@[simp] theorem State.clarn_count (s : State) (f : Fld) (i : Nat) : (s.count f i).clarn = s.clarn := rfl
@[simp] theorem State.row_count (s : State) (f : Fld) (i : Nat) : (s.count f i).row = s.row := rfl
@[simp] theorem State.i3c_count (s : State) (f : Fld) (i : Nat) : (s.count f i).i3c = s.i3c := rfl

/-! ### emit -/

@[simp] theorem State.pending_emit (s : State) (e : Emit) : (s.emit e).pending = s.pending := rfl
@[simp] theorem State.free_emit (s : State) (e : Emit) : (s.emit e).free = s.free := rfl
@[simp] theorem State.up_emit (s : State) (e : Emit) : (s.emit e).up = s.up := rfl
@[simp] theorem State.timeBase_emit (s : State) (e : Emit) : (s.emit e).timeBase = s.timeBase := rfl
@[simp] theorem State.regs_emit (s : State) (e : Emit) : (s.emit e).regs = s.regs := rfl
@[simp] theorem State.irqPulse_emit (s : State) (e : Emit) : (s.emit e).irqPulse = s.irqPulse := rfl
@[simp] theorem State.evr_emit (s : State) (e : Emit) : (s.emit e).evr = s.evr := rfl
@[simp] theorem State.store_emit (s : State) (e : Emit) : (s.emit e).store = s.store := rfl
@[simp] theorem State.storePoison_emit (s : State) (e : Emit) : (s.emit e).storePoison = s.storePoison := rfl
@[simp] theorem State.ueLines_emit (s : State) (e : Emit) : (s.emit e).ueLines = s.ueLines := rfl
@[simp] theorem State.patrol_emit (s : State) (e : Emit) : (s.emit e).patrol = s.patrol := rfl
@[simp] theorem State.tok_emit (s : State) (e : Emit) : (s.emit e).tok = s.tok := rfl
@[simp] theorem State.tokSig_emit (s : State) (e : Emit) : (s.emit e).tokSig = s.tokSig := rfl
@[simp] theorem State.waiters_emit (s : State) (e : Emit) : (s.emit e).waiters = s.waiters := rfl
@[simp] theorem State.granted_emit (s : State) (e : Emit) : (s.emit e).granted = s.granted := rfl
@[simp] theorem State.tabs_emit (s : State) (e : Emit) : (s.emit e).tabs = s.tabs := rfl
@[simp] theorem State.vregs_emit (s : State) (e : Emit) : (s.emit e).vregs = s.vregs := rfl
@[simp] theorem State.rng_emit (s : State) (e : Emit) : (s.emit e).rng = s.rng := rfl
@[simp] theorem State.engQ_emit (s : State) (e : Emit) : (s.emit e).engQ = s.engQ := rfl
@[simp] theorem State.bobQ_emit (s : State) (e : Emit) : (s.emit e).bobQ = s.bobQ := rfl
@[simp] theorem State.replayQ_emit (s : State) (e : Emit) : (s.emit e).replayQ = s.replayQ := rfl
@[simp] theorem State.parts_emit (s : State) (e : Emit) : (s.emit e).parts = s.parts := rfl
@[simp] theorem State.rings_emit (s : State) (e : Emit) : (s.emit e).rings = s.rings := rfl
@[simp] theorem State.cmds_emit (s : State) (e : Emit) : (s.emit e).cmds = s.cmds := rfl
@[simp] theorem State.mem_emit (s : State) (e : Emit) : (s.emit e).mem = s.mem := rfl
@[simp] theorem State.memPoison_emit (s : State) (e : Emit) : (s.emit e).memPoison = s.memPoison := rfl
@[simp] theorem State.pages_emit (s : State) (e : Emit) : (s.emit e).pages = s.pages := rfl
@[simp] theorem State.convs_emit (s : State) (e : Emit) : (s.emit e).convs = s.convs := rfl
@[simp] theorem State.keys_emit (s : State) (e : Emit) : (s.emit e).keys = s.keys := rfl
@[simp] theorem State.modKey_emit (s : State) (e : Emit) : (s.emit e).modKey = s.modKey := rfl
@[simp] theorem State.zfills_emit (s : State) (e : Emit) : (s.emit e).zfills = s.zfills := rfl
@[simp] theorem State.memPatrol_emit (s : State) (e : Emit) : (s.emit e).memPatrol = s.memPatrol := rfl
@[simp] theorem State.rowCe_emit (s : State) (e : Emit) : (s.emit e).rowCe = s.rowCe := rfl
@[simp] theorem State.spares_emit (s : State) (e : Emit) : (s.emit e).spares = s.spares := rfl
@[simp] theorem State.rowCopies_emit (s : State) (e : Emit) : (s.emit e).rowCopies = s.rowCopies := rfl
@[simp] theorem State.loansOut_emit (s : State) (e : Emit) : (s.emit e).loansOut = s.loansOut := rfl
@[simp] theorem State.offers_emit (s : State) (e : Emit) : (s.emit e).offers = s.offers := rfl
@[simp] theorem State.asks_emit (s : State) (e : Emit) : (s.emit e).asks = s.asks := rfl
@[simp] theorem State.fab_emit (s : State) (e : Emit) : (s.emit e).fab = s.fab := rfl
@[simp] theorem State.wins_emit (s : State) (e : Emit) : (s.emit e).wins = s.wins := rfl
@[simp] theorem State.afSeen_emit (s : State) (e : Emit) : (s.emit e).afSeen = s.afSeen := rfl
@[simp] theorem State.pwr_emit (s : State) (e : Emit) : (s.emit e).pwr = s.pwr := rfl
@[simp] theorem State.nv_emit (s : State) (e : Emit) : (s.emit e).nv = s.nv := rfl
@[simp] theorem State.mapDue_emit (s : State) (e : Emit) : (s.emit e).mapDue = s.mapDue := rfl
@[simp] theorem State.bringIns_emit (s : State) (e : Emit) : (s.emit e).bringIns = s.bringIns := rfl
@[simp] theorem State.qps_emit (s : State) (e : Emit) : (s.emit e).qps = s.qps := rfl
@[simp] theorem State.ports_emit (s : State) (e : Emit) : (s.emit e).ports = s.ports := rfl
@[simp] theorem State.kslots_emit (s : State) (e : Emit) : (s.emit e).kslots = s.kslots := rfl
@[simp] theorem State.deliveries_emit (s : State) (e : Emit) : (s.emit e).deliveries = s.deliveries := rfl
@[simp] theorem State.conf_emit (s : State) (e : Emit) : (s.emit e).conf = s.conf := rfl
@[simp] theorem State.sessions_emit (s : State) (e : Emit) : (s.emit e).sessions = s.sessions := rfl
@[simp] theorem State.beats_emit (s : State) (e : Emit) : (s.emit e).beats = s.beats := rfl
@[simp] theorem State.mgmt_emit (s : State) (e : Emit) : (s.emit e).mgmt = s.mgmt := rfl
@[simp] theorem State.owed_emit (s : State) (e : Emit) : (s.emit e).owed = s.owed := rfl
@[simp] theorem State.timeFrac_emit (s : State) (e : Emit) : (s.emit e).timeFrac = s.timeFrac := rfl
@[simp] theorem State.timLatch_emit (s : State) (e : Emit) : (s.emit e).timLatch = s.timLatch := rfl
@[simp] theorem State.cio_emit (s : State) (e : Emit) : (s.emit e).cio = s.cio := rfl
@[simp] theorem State.cle_emit (s : State) (e : Emit) : (s.emit e).cle = s.cle := rfl
@[simp] theorem State.sec_emit (s : State) (e : Emit) : (s.emit e).sec = s.sec := rfl
@[simp] theorem State.meter_emit (s : State) (e : Emit) : (s.emit e).meter = s.meter := rfl
@[simp] theorem State.mtrIf_emit (s : State) (e : Emit) : (s.emit e).mtrIf = s.mtrIf := rfl
@[simp] theorem State.boot_emit (s : State) (e : Emit) : (s.emit e).boot = s.boot := rfl
@[simp] theorem State.ps_emit (s : State) (e : Emit) : (s.emit e).ps = s.ps := rfl
@[simp] theorem State.clarn_emit (s : State) (e : Emit) : (s.emit e).clarn = s.clarn := rfl
@[simp] theorem State.row_emit (s : State) (e : Emit) : (s.emit e).row = s.row := rfl
@[simp] theorem State.i3c_emit (s : State) (e : Emit) : (s.emit e).i3c = s.i3c := rfl

/-! ### modPart -/

@[simp] theorem State.pending_modPart (s : State) (n : Nat) (f : Part → Part) : (s.modPart n f).pending = s.pending := rfl
@[simp] theorem State.free_modPart (s : State) (n : Nat) (f : Part → Part) : (s.modPart n f).free = s.free := rfl
@[simp] theorem State.up_modPart (s : State) (n : Nat) (f : Part → Part) : (s.modPart n f).up = s.up := rfl
@[simp] theorem State.timeBase_modPart (s : State) (n : Nat) (f : Part → Part) : (s.modPart n f).timeBase = s.timeBase := rfl
@[simp] theorem State.regs_modPart (s : State) (n : Nat) (f : Part → Part) : (s.modPart n f).regs = s.regs := rfl
@[simp] theorem State.irqPulse_modPart (s : State) (n : Nat) (f : Part → Part) : (s.modPart n f).irqPulse = s.irqPulse := rfl
@[simp] theorem State.evr_modPart (s : State) (n : Nat) (f : Part → Part) : (s.modPart n f).evr = s.evr := rfl
@[simp] theorem State.out_modPart (s : State) (n : Nat) (f : Part → Part) : (s.modPart n f).out = s.out := rfl
@[simp] theorem State.store_modPart (s : State) (n : Nat) (f : Part → Part) : (s.modPart n f).store = s.store := rfl
@[simp] theorem State.storePoison_modPart (s : State) (n : Nat) (f : Part → Part) : (s.modPart n f).storePoison = s.storePoison := rfl
@[simp] theorem State.ueLines_modPart (s : State) (n : Nat) (f : Part → Part) : (s.modPart n f).ueLines = s.ueLines := rfl
@[simp] theorem State.patrol_modPart (s : State) (n : Nat) (f : Part → Part) : (s.modPart n f).patrol = s.patrol := rfl
@[simp] theorem State.tok_modPart (s : State) (n : Nat) (f : Part → Part) : (s.modPart n f).tok = s.tok := rfl
@[simp] theorem State.tokSig_modPart (s : State) (n : Nat) (f : Part → Part) : (s.modPart n f).tokSig = s.tokSig := rfl
@[simp] theorem State.waiters_modPart (s : State) (n : Nat) (f : Part → Part) : (s.modPart n f).waiters = s.waiters := rfl
@[simp] theorem State.granted_modPart (s : State) (n : Nat) (f : Part → Part) : (s.modPart n f).granted = s.granted := rfl
@[simp] theorem State.tabs_modPart (s : State) (n : Nat) (f : Part → Part) : (s.modPart n f).tabs = s.tabs := rfl
@[simp] theorem State.vregs_modPart (s : State) (n : Nat) (f : Part → Part) : (s.modPart n f).vregs = s.vregs := rfl
@[simp] theorem State.rng_modPart (s : State) (n : Nat) (f : Part → Part) : (s.modPart n f).rng = s.rng := rfl
@[simp] theorem State.engQ_modPart (s : State) (n : Nat) (f : Part → Part) : (s.modPart n f).engQ = s.engQ := rfl
@[simp] theorem State.bobQ_modPart (s : State) (n : Nat) (f : Part → Part) : (s.modPart n f).bobQ = s.bobQ := rfl
@[simp] theorem State.replayQ_modPart (s : State) (n : Nat) (f : Part → Part) : (s.modPart n f).replayQ = s.replayQ := rfl
@[simp] theorem State.rings_modPart (s : State) (n : Nat) (f : Part → Part) : (s.modPart n f).rings = s.rings := rfl
@[simp] theorem State.cmds_modPart (s : State) (n : Nat) (f : Part → Part) : (s.modPart n f).cmds = s.cmds := rfl
@[simp] theorem State.mem_modPart (s : State) (n : Nat) (f : Part → Part) : (s.modPart n f).mem = s.mem := rfl
@[simp] theorem State.memPoison_modPart (s : State) (n : Nat) (f : Part → Part) : (s.modPart n f).memPoison = s.memPoison := rfl
@[simp] theorem State.pages_modPart (s : State) (n : Nat) (f : Part → Part) : (s.modPart n f).pages = s.pages := rfl
@[simp] theorem State.convs_modPart (s : State) (n : Nat) (f : Part → Part) : (s.modPart n f).convs = s.convs := rfl
@[simp] theorem State.keys_modPart (s : State) (n : Nat) (f : Part → Part) : (s.modPart n f).keys = s.keys := rfl
@[simp] theorem State.modKey_modPart (s : State) (n : Nat) (f : Part → Part) : (s.modPart n f).modKey = s.modKey := rfl
@[simp] theorem State.zfills_modPart (s : State) (n : Nat) (f : Part → Part) : (s.modPart n f).zfills = s.zfills := rfl
@[simp] theorem State.memPatrol_modPart (s : State) (n : Nat) (f : Part → Part) : (s.modPart n f).memPatrol = s.memPatrol := rfl
@[simp] theorem State.rowCe_modPart (s : State) (n : Nat) (f : Part → Part) : (s.modPart n f).rowCe = s.rowCe := rfl
@[simp] theorem State.spares_modPart (s : State) (n : Nat) (f : Part → Part) : (s.modPart n f).spares = s.spares := rfl
@[simp] theorem State.rowCopies_modPart (s : State) (n : Nat) (f : Part → Part) : (s.modPart n f).rowCopies = s.rowCopies := rfl
@[simp] theorem State.loansOut_modPart (s : State) (n : Nat) (f : Part → Part) : (s.modPart n f).loansOut = s.loansOut := rfl
@[simp] theorem State.offers_modPart (s : State) (n : Nat) (f : Part → Part) : (s.modPart n f).offers = s.offers := rfl
@[simp] theorem State.asks_modPart (s : State) (n : Nat) (f : Part → Part) : (s.modPart n f).asks = s.asks := rfl
@[simp] theorem State.fab_modPart (s : State) (n : Nat) (f : Part → Part) : (s.modPart n f).fab = s.fab := rfl
@[simp] theorem State.wins_modPart (s : State) (n : Nat) (f : Part → Part) : (s.modPart n f).wins = s.wins := rfl
@[simp] theorem State.afSeen_modPart (s : State) (n : Nat) (f : Part → Part) : (s.modPart n f).afSeen = s.afSeen := rfl
@[simp] theorem State.pwr_modPart (s : State) (n : Nat) (f : Part → Part) : (s.modPart n f).pwr = s.pwr := rfl
@[simp] theorem State.nv_modPart (s : State) (n : Nat) (f : Part → Part) : (s.modPart n f).nv = s.nv := rfl
@[simp] theorem State.mapDue_modPart (s : State) (n : Nat) (f : Part → Part) : (s.modPart n f).mapDue = s.mapDue := rfl
@[simp] theorem State.bringIns_modPart (s : State) (n : Nat) (f : Part → Part) : (s.modPart n f).bringIns = s.bringIns := rfl
@[simp] theorem State.qps_modPart (s : State) (n : Nat) (f : Part → Part) : (s.modPart n f).qps = s.qps := rfl
@[simp] theorem State.ports_modPart (s : State) (n : Nat) (f : Part → Part) : (s.modPart n f).ports = s.ports := rfl
@[simp] theorem State.kslots_modPart (s : State) (n : Nat) (f : Part → Part) : (s.modPart n f).kslots = s.kslots := rfl
@[simp] theorem State.deliveries_modPart (s : State) (n : Nat) (f : Part → Part) : (s.modPart n f).deliveries = s.deliveries := rfl
@[simp] theorem State.conf_modPart (s : State) (n : Nat) (f : Part → Part) : (s.modPart n f).conf = s.conf := rfl
@[simp] theorem State.sessions_modPart (s : State) (n : Nat) (f : Part → Part) : (s.modPart n f).sessions = s.sessions := rfl
@[simp] theorem State.beats_modPart (s : State) (n : Nat) (f : Part → Part) : (s.modPart n f).beats = s.beats := rfl
@[simp] theorem State.mgmt_modPart (s : State) (n : Nat) (f : Part → Part) : (s.modPart n f).mgmt = s.mgmt := rfl
@[simp] theorem State.owed_modPart (s : State) (n : Nat) (f : Part → Part) : (s.modPart n f).owed = s.owed := rfl
@[simp] theorem State.timeFrac_modPart (s : State) (n : Nat) (f : Part → Part) : (s.modPart n f).timeFrac = s.timeFrac := rfl
@[simp] theorem State.timLatch_modPart (s : State) (n : Nat) (f : Part → Part) : (s.modPart n f).timLatch = s.timLatch := rfl
@[simp] theorem State.cio_modPart (s : State) (n : Nat) (f : Part → Part) : (s.modPart n f).cio = s.cio := rfl
@[simp] theorem State.cle_modPart (s : State) (n : Nat) (f : Part → Part) : (s.modPart n f).cle = s.cle := rfl
@[simp] theorem State.sec_modPart (s : State) (n : Nat) (f : Part → Part) : (s.modPart n f).sec = s.sec := rfl
@[simp] theorem State.meter_modPart (s : State) (n : Nat) (f : Part → Part) : (s.modPart n f).meter = s.meter := rfl
@[simp] theorem State.mtrIf_modPart (s : State) (n : Nat) (f : Part → Part) : (s.modPart n f).mtrIf = s.mtrIf := rfl
@[simp] theorem State.boot_modPart (s : State) (n : Nat) (f : Part → Part) : (s.modPart n f).boot = s.boot := rfl
@[simp] theorem State.ps_modPart (s : State) (n : Nat) (f : Part → Part) : (s.modPart n f).ps = s.ps := rfl
@[simp] theorem State.clarn_modPart (s : State) (n : Nat) (f : Part → Part) : (s.modPart n f).clarn = s.clarn := rfl
@[simp] theorem State.row_modPart (s : State) (n : Nat) (f : Part → Part) : (s.modPart n f).row = s.row := rfl
@[simp] theorem State.i3c_modPart (s : State) (n : Nat) (f : Part → Part) : (s.modPart n f).i3c = s.i3c := rfl

/-! ### modRing -/

@[simp] theorem State.pending_modRing (s : State) (i : Nat) (f : Ring → Ring) : (s.modRing i f).pending = s.pending := rfl
@[simp] theorem State.free_modRing (s : State) (i : Nat) (f : Ring → Ring) : (s.modRing i f).free = s.free := rfl
@[simp] theorem State.up_modRing (s : State) (i : Nat) (f : Ring → Ring) : (s.modRing i f).up = s.up := rfl
@[simp] theorem State.timeBase_modRing (s : State) (i : Nat) (f : Ring → Ring) : (s.modRing i f).timeBase = s.timeBase := rfl
@[simp] theorem State.regs_modRing (s : State) (i : Nat) (f : Ring → Ring) : (s.modRing i f).regs = s.regs := rfl
@[simp] theorem State.irqPulse_modRing (s : State) (i : Nat) (f : Ring → Ring) : (s.modRing i f).irqPulse = s.irqPulse := rfl
@[simp] theorem State.evr_modRing (s : State) (i : Nat) (f : Ring → Ring) : (s.modRing i f).evr = s.evr := rfl
@[simp] theorem State.out_modRing (s : State) (i : Nat) (f : Ring → Ring) : (s.modRing i f).out = s.out := rfl
@[simp] theorem State.store_modRing (s : State) (i : Nat) (f : Ring → Ring) : (s.modRing i f).store = s.store := rfl
@[simp] theorem State.storePoison_modRing (s : State) (i : Nat) (f : Ring → Ring) : (s.modRing i f).storePoison = s.storePoison := rfl
@[simp] theorem State.ueLines_modRing (s : State) (i : Nat) (f : Ring → Ring) : (s.modRing i f).ueLines = s.ueLines := rfl
@[simp] theorem State.patrol_modRing (s : State) (i : Nat) (f : Ring → Ring) : (s.modRing i f).patrol = s.patrol := rfl
@[simp] theorem State.tok_modRing (s : State) (i : Nat) (f : Ring → Ring) : (s.modRing i f).tok = s.tok := rfl
@[simp] theorem State.tokSig_modRing (s : State) (i : Nat) (f : Ring → Ring) : (s.modRing i f).tokSig = s.tokSig := rfl
@[simp] theorem State.waiters_modRing (s : State) (i : Nat) (f : Ring → Ring) : (s.modRing i f).waiters = s.waiters := rfl
@[simp] theorem State.granted_modRing (s : State) (i : Nat) (f : Ring → Ring) : (s.modRing i f).granted = s.granted := rfl
@[simp] theorem State.tabs_modRing (s : State) (i : Nat) (f : Ring → Ring) : (s.modRing i f).tabs = s.tabs := rfl
@[simp] theorem State.vregs_modRing (s : State) (i : Nat) (f : Ring → Ring) : (s.modRing i f).vregs = s.vregs := rfl
@[simp] theorem State.rng_modRing (s : State) (i : Nat) (f : Ring → Ring) : (s.modRing i f).rng = s.rng := rfl
@[simp] theorem State.engQ_modRing (s : State) (i : Nat) (f : Ring → Ring) : (s.modRing i f).engQ = s.engQ := rfl
@[simp] theorem State.bobQ_modRing (s : State) (i : Nat) (f : Ring → Ring) : (s.modRing i f).bobQ = s.bobQ := rfl
@[simp] theorem State.replayQ_modRing (s : State) (i : Nat) (f : Ring → Ring) : (s.modRing i f).replayQ = s.replayQ := rfl
@[simp] theorem State.parts_modRing (s : State) (i : Nat) (f : Ring → Ring) : (s.modRing i f).parts = s.parts := rfl
@[simp] theorem State.cmds_modRing (s : State) (i : Nat) (f : Ring → Ring) : (s.modRing i f).cmds = s.cmds := rfl
@[simp] theorem State.mem_modRing (s : State) (i : Nat) (f : Ring → Ring) : (s.modRing i f).mem = s.mem := rfl
@[simp] theorem State.memPoison_modRing (s : State) (i : Nat) (f : Ring → Ring) : (s.modRing i f).memPoison = s.memPoison := rfl
@[simp] theorem State.pages_modRing (s : State) (i : Nat) (f : Ring → Ring) : (s.modRing i f).pages = s.pages := rfl
@[simp] theorem State.convs_modRing (s : State) (i : Nat) (f : Ring → Ring) : (s.modRing i f).convs = s.convs := rfl
@[simp] theorem State.keys_modRing (s : State) (i : Nat) (f : Ring → Ring) : (s.modRing i f).keys = s.keys := rfl
@[simp] theorem State.modKey_modRing (s : State) (i : Nat) (f : Ring → Ring) : (s.modRing i f).modKey = s.modKey := rfl
@[simp] theorem State.zfills_modRing (s : State) (i : Nat) (f : Ring → Ring) : (s.modRing i f).zfills = s.zfills := rfl
@[simp] theorem State.memPatrol_modRing (s : State) (i : Nat) (f : Ring → Ring) : (s.modRing i f).memPatrol = s.memPatrol := rfl
@[simp] theorem State.rowCe_modRing (s : State) (i : Nat) (f : Ring → Ring) : (s.modRing i f).rowCe = s.rowCe := rfl
@[simp] theorem State.spares_modRing (s : State) (i : Nat) (f : Ring → Ring) : (s.modRing i f).spares = s.spares := rfl
@[simp] theorem State.rowCopies_modRing (s : State) (i : Nat) (f : Ring → Ring) : (s.modRing i f).rowCopies = s.rowCopies := rfl
@[simp] theorem State.loansOut_modRing (s : State) (i : Nat) (f : Ring → Ring) : (s.modRing i f).loansOut = s.loansOut := rfl
@[simp] theorem State.offers_modRing (s : State) (i : Nat) (f : Ring → Ring) : (s.modRing i f).offers = s.offers := rfl
@[simp] theorem State.asks_modRing (s : State) (i : Nat) (f : Ring → Ring) : (s.modRing i f).asks = s.asks := rfl
@[simp] theorem State.fab_modRing (s : State) (i : Nat) (f : Ring → Ring) : (s.modRing i f).fab = s.fab := rfl
@[simp] theorem State.wins_modRing (s : State) (i : Nat) (f : Ring → Ring) : (s.modRing i f).wins = s.wins := rfl
@[simp] theorem State.afSeen_modRing (s : State) (i : Nat) (f : Ring → Ring) : (s.modRing i f).afSeen = s.afSeen := rfl
@[simp] theorem State.pwr_modRing (s : State) (i : Nat) (f : Ring → Ring) : (s.modRing i f).pwr = s.pwr := rfl
@[simp] theorem State.nv_modRing (s : State) (i : Nat) (f : Ring → Ring) : (s.modRing i f).nv = s.nv := rfl
@[simp] theorem State.mapDue_modRing (s : State) (i : Nat) (f : Ring → Ring) : (s.modRing i f).mapDue = s.mapDue := rfl
@[simp] theorem State.bringIns_modRing (s : State) (i : Nat) (f : Ring → Ring) : (s.modRing i f).bringIns = s.bringIns := rfl
@[simp] theorem State.qps_modRing (s : State) (i : Nat) (f : Ring → Ring) : (s.modRing i f).qps = s.qps := rfl
@[simp] theorem State.ports_modRing (s : State) (i : Nat) (f : Ring → Ring) : (s.modRing i f).ports = s.ports := rfl
@[simp] theorem State.kslots_modRing (s : State) (i : Nat) (f : Ring → Ring) : (s.modRing i f).kslots = s.kslots := rfl
@[simp] theorem State.deliveries_modRing (s : State) (i : Nat) (f : Ring → Ring) : (s.modRing i f).deliveries = s.deliveries := rfl
@[simp] theorem State.conf_modRing (s : State) (i : Nat) (f : Ring → Ring) : (s.modRing i f).conf = s.conf := rfl
@[simp] theorem State.sessions_modRing (s : State) (i : Nat) (f : Ring → Ring) : (s.modRing i f).sessions = s.sessions := rfl
@[simp] theorem State.beats_modRing (s : State) (i : Nat) (f : Ring → Ring) : (s.modRing i f).beats = s.beats := rfl
@[simp] theorem State.mgmt_modRing (s : State) (i : Nat) (f : Ring → Ring) : (s.modRing i f).mgmt = s.mgmt := rfl
@[simp] theorem State.owed_modRing (s : State) (i : Nat) (f : Ring → Ring) : (s.modRing i f).owed = s.owed := rfl
@[simp] theorem State.timeFrac_modRing (s : State) (i : Nat) (f : Ring → Ring) : (s.modRing i f).timeFrac = s.timeFrac := rfl
@[simp] theorem State.timLatch_modRing (s : State) (i : Nat) (f : Ring → Ring) : (s.modRing i f).timLatch = s.timLatch := rfl
@[simp] theorem State.cio_modRing (s : State) (i : Nat) (f : Ring → Ring) : (s.modRing i f).cio = s.cio := rfl
@[simp] theorem State.cle_modRing (s : State) (i : Nat) (f : Ring → Ring) : (s.modRing i f).cle = s.cle := rfl
@[simp] theorem State.sec_modRing (s : State) (i : Nat) (f : Ring → Ring) : (s.modRing i f).sec = s.sec := rfl
@[simp] theorem State.meter_modRing (s : State) (i : Nat) (f : Ring → Ring) : (s.modRing i f).meter = s.meter := rfl
@[simp] theorem State.mtrIf_modRing (s : State) (i : Nat) (f : Ring → Ring) : (s.modRing i f).mtrIf = s.mtrIf := rfl
@[simp] theorem State.boot_modRing (s : State) (i : Nat) (f : Ring → Ring) : (s.modRing i f).boot = s.boot := rfl
@[simp] theorem State.ps_modRing (s : State) (i : Nat) (f : Ring → Ring) : (s.modRing i f).ps = s.ps := rfl
@[simp] theorem State.clarn_modRing (s : State) (i : Nat) (f : Ring → Ring) : (s.modRing i f).clarn = s.clarn := rfl
@[simp] theorem State.row_modRing (s : State) (i : Nat) (f : Ring → Ring) : (s.modRing i f).row = s.row := rfl
@[simp] theorem State.i3c_modRing (s : State) (i : Nat) (f : Ring → Ring) : (s.modRing i f).i3c = s.i3c := rfl

/-! ### modCmd -/

@[simp] theorem State.pending_modCmd (s : State) (i c : Nat) (f : Cmd → Cmd) : (s.modCmd i c f).pending = s.pending := rfl
@[simp] theorem State.free_modCmd (s : State) (i c : Nat) (f : Cmd → Cmd) : (s.modCmd i c f).free = s.free := rfl
@[simp] theorem State.up_modCmd (s : State) (i c : Nat) (f : Cmd → Cmd) : (s.modCmd i c f).up = s.up := rfl
@[simp] theorem State.timeBase_modCmd (s : State) (i c : Nat) (f : Cmd → Cmd) : (s.modCmd i c f).timeBase = s.timeBase := rfl
@[simp] theorem State.regs_modCmd (s : State) (i c : Nat) (f : Cmd → Cmd) : (s.modCmd i c f).regs = s.regs := rfl
@[simp] theorem State.irqPulse_modCmd (s : State) (i c : Nat) (f : Cmd → Cmd) : (s.modCmd i c f).irqPulse = s.irqPulse := rfl
@[simp] theorem State.evr_modCmd (s : State) (i c : Nat) (f : Cmd → Cmd) : (s.modCmd i c f).evr = s.evr := rfl
@[simp] theorem State.out_modCmd (s : State) (i c : Nat) (f : Cmd → Cmd) : (s.modCmd i c f).out = s.out := rfl
@[simp] theorem State.store_modCmd (s : State) (i c : Nat) (f : Cmd → Cmd) : (s.modCmd i c f).store = s.store := rfl
@[simp] theorem State.storePoison_modCmd (s : State) (i c : Nat) (f : Cmd → Cmd) : (s.modCmd i c f).storePoison = s.storePoison := rfl
@[simp] theorem State.ueLines_modCmd (s : State) (i c : Nat) (f : Cmd → Cmd) : (s.modCmd i c f).ueLines = s.ueLines := rfl
@[simp] theorem State.patrol_modCmd (s : State) (i c : Nat) (f : Cmd → Cmd) : (s.modCmd i c f).patrol = s.patrol := rfl
@[simp] theorem State.tok_modCmd (s : State) (i c : Nat) (f : Cmd → Cmd) : (s.modCmd i c f).tok = s.tok := rfl
@[simp] theorem State.tokSig_modCmd (s : State) (i c : Nat) (f : Cmd → Cmd) : (s.modCmd i c f).tokSig = s.tokSig := rfl
@[simp] theorem State.waiters_modCmd (s : State) (i c : Nat) (f : Cmd → Cmd) : (s.modCmd i c f).waiters = s.waiters := rfl
@[simp] theorem State.granted_modCmd (s : State) (i c : Nat) (f : Cmd → Cmd) : (s.modCmd i c f).granted = s.granted := rfl
@[simp] theorem State.tabs_modCmd (s : State) (i c : Nat) (f : Cmd → Cmd) : (s.modCmd i c f).tabs = s.tabs := rfl
@[simp] theorem State.vregs_modCmd (s : State) (i c : Nat) (f : Cmd → Cmd) : (s.modCmd i c f).vregs = s.vregs := rfl
@[simp] theorem State.rng_modCmd (s : State) (i c : Nat) (f : Cmd → Cmd) : (s.modCmd i c f).rng = s.rng := rfl
@[simp] theorem State.engQ_modCmd (s : State) (i c : Nat) (f : Cmd → Cmd) : (s.modCmd i c f).engQ = s.engQ := rfl
@[simp] theorem State.bobQ_modCmd (s : State) (i c : Nat) (f : Cmd → Cmd) : (s.modCmd i c f).bobQ = s.bobQ := rfl
@[simp] theorem State.replayQ_modCmd (s : State) (i c : Nat) (f : Cmd → Cmd) : (s.modCmd i c f).replayQ = s.replayQ := rfl
@[simp] theorem State.parts_modCmd (s : State) (i c : Nat) (f : Cmd → Cmd) : (s.modCmd i c f).parts = s.parts := rfl
@[simp] theorem State.rings_modCmd (s : State) (i c : Nat) (f : Cmd → Cmd) : (s.modCmd i c f).rings = s.rings := rfl
@[simp] theorem State.mem_modCmd (s : State) (i c : Nat) (f : Cmd → Cmd) : (s.modCmd i c f).mem = s.mem := rfl
@[simp] theorem State.memPoison_modCmd (s : State) (i c : Nat) (f : Cmd → Cmd) : (s.modCmd i c f).memPoison = s.memPoison := rfl
@[simp] theorem State.pages_modCmd (s : State) (i c : Nat) (f : Cmd → Cmd) : (s.modCmd i c f).pages = s.pages := rfl
@[simp] theorem State.convs_modCmd (s : State) (i c : Nat) (f : Cmd → Cmd) : (s.modCmd i c f).convs = s.convs := rfl
@[simp] theorem State.keys_modCmd (s : State) (i c : Nat) (f : Cmd → Cmd) : (s.modCmd i c f).keys = s.keys := rfl
@[simp] theorem State.modKey_modCmd (s : State) (i c : Nat) (f : Cmd → Cmd) : (s.modCmd i c f).modKey = s.modKey := rfl
@[simp] theorem State.zfills_modCmd (s : State) (i c : Nat) (f : Cmd → Cmd) : (s.modCmd i c f).zfills = s.zfills := rfl
@[simp] theorem State.memPatrol_modCmd (s : State) (i c : Nat) (f : Cmd → Cmd) : (s.modCmd i c f).memPatrol = s.memPatrol := rfl
@[simp] theorem State.rowCe_modCmd (s : State) (i c : Nat) (f : Cmd → Cmd) : (s.modCmd i c f).rowCe = s.rowCe := rfl
@[simp] theorem State.spares_modCmd (s : State) (i c : Nat) (f : Cmd → Cmd) : (s.modCmd i c f).spares = s.spares := rfl
@[simp] theorem State.rowCopies_modCmd (s : State) (i c : Nat) (f : Cmd → Cmd) : (s.modCmd i c f).rowCopies = s.rowCopies := rfl
@[simp] theorem State.loansOut_modCmd (s : State) (i c : Nat) (f : Cmd → Cmd) : (s.modCmd i c f).loansOut = s.loansOut := rfl
@[simp] theorem State.offers_modCmd (s : State) (i c : Nat) (f : Cmd → Cmd) : (s.modCmd i c f).offers = s.offers := rfl
@[simp] theorem State.asks_modCmd (s : State) (i c : Nat) (f : Cmd → Cmd) : (s.modCmd i c f).asks = s.asks := rfl
@[simp] theorem State.fab_modCmd (s : State) (i c : Nat) (f : Cmd → Cmd) : (s.modCmd i c f).fab = s.fab := rfl
@[simp] theorem State.wins_modCmd (s : State) (i c : Nat) (f : Cmd → Cmd) : (s.modCmd i c f).wins = s.wins := rfl
@[simp] theorem State.afSeen_modCmd (s : State) (i c : Nat) (f : Cmd → Cmd) : (s.modCmd i c f).afSeen = s.afSeen := rfl
@[simp] theorem State.pwr_modCmd (s : State) (i c : Nat) (f : Cmd → Cmd) : (s.modCmd i c f).pwr = s.pwr := rfl
@[simp] theorem State.nv_modCmd (s : State) (i c : Nat) (f : Cmd → Cmd) : (s.modCmd i c f).nv = s.nv := rfl
@[simp] theorem State.mapDue_modCmd (s : State) (i c : Nat) (f : Cmd → Cmd) : (s.modCmd i c f).mapDue = s.mapDue := rfl
@[simp] theorem State.bringIns_modCmd (s : State) (i c : Nat) (f : Cmd → Cmd) : (s.modCmd i c f).bringIns = s.bringIns := rfl
@[simp] theorem State.qps_modCmd (s : State) (i c : Nat) (f : Cmd → Cmd) : (s.modCmd i c f).qps = s.qps := rfl
@[simp] theorem State.ports_modCmd (s : State) (i c : Nat) (f : Cmd → Cmd) : (s.modCmd i c f).ports = s.ports := rfl
@[simp] theorem State.kslots_modCmd (s : State) (i c : Nat) (f : Cmd → Cmd) : (s.modCmd i c f).kslots = s.kslots := rfl
@[simp] theorem State.deliveries_modCmd (s : State) (i c : Nat) (f : Cmd → Cmd) : (s.modCmd i c f).deliveries = s.deliveries := rfl
@[simp] theorem State.conf_modCmd (s : State) (i c : Nat) (f : Cmd → Cmd) : (s.modCmd i c f).conf = s.conf := rfl
@[simp] theorem State.sessions_modCmd (s : State) (i c : Nat) (f : Cmd → Cmd) : (s.modCmd i c f).sessions = s.sessions := rfl
@[simp] theorem State.beats_modCmd (s : State) (i c : Nat) (f : Cmd → Cmd) : (s.modCmd i c f).beats = s.beats := rfl
@[simp] theorem State.mgmt_modCmd (s : State) (i c : Nat) (f : Cmd → Cmd) : (s.modCmd i c f).mgmt = s.mgmt := rfl
@[simp] theorem State.owed_modCmd (s : State) (i c : Nat) (f : Cmd → Cmd) : (s.modCmd i c f).owed = s.owed := rfl
@[simp] theorem State.timeFrac_modCmd (s : State) (i c : Nat) (f : Cmd → Cmd) : (s.modCmd i c f).timeFrac = s.timeFrac := rfl
@[simp] theorem State.timLatch_modCmd (s : State) (i c : Nat) (f : Cmd → Cmd) : (s.modCmd i c f).timLatch = s.timLatch := rfl
@[simp] theorem State.cio_modCmd (s : State) (i c : Nat) (f : Cmd → Cmd) : (s.modCmd i c f).cio = s.cio := rfl
@[simp] theorem State.cle_modCmd (s : State) (i c : Nat) (f : Cmd → Cmd) : (s.modCmd i c f).cle = s.cle := rfl
@[simp] theorem State.sec_modCmd (s : State) (i c : Nat) (f : Cmd → Cmd) : (s.modCmd i c f).sec = s.sec := rfl
@[simp] theorem State.meter_modCmd (s : State) (i c : Nat) (f : Cmd → Cmd) : (s.modCmd i c f).meter = s.meter := rfl
@[simp] theorem State.mtrIf_modCmd (s : State) (i c : Nat) (f : Cmd → Cmd) : (s.modCmd i c f).mtrIf = s.mtrIf := rfl
@[simp] theorem State.boot_modCmd (s : State) (i c : Nat) (f : Cmd → Cmd) : (s.modCmd i c f).boot = s.boot := rfl
@[simp] theorem State.ps_modCmd (s : State) (i c : Nat) (f : Cmd → Cmd) : (s.modCmd i c f).ps = s.ps := rfl
@[simp] theorem State.clarn_modCmd (s : State) (i c : Nat) (f : Cmd → Cmd) : (s.modCmd i c f).clarn = s.clarn := rfl
@[simp] theorem State.row_modCmd (s : State) (i c : Nat) (f : Cmd → Cmd) : (s.modCmd i c f).row = s.row := rfl
@[simp] theorem State.i3c_modCmd (s : State) (i c : Nat) (f : Cmd → Cmd) : (s.modCmd i c f).i3c = s.i3c := rfl

/-! ### modPort -/

@[simp] theorem State.pending_modPort (s : State) (p : Nat) (f : EthPort → EthPort) : (s.modPort p f).pending = s.pending := rfl
@[simp] theorem State.free_modPort (s : State) (p : Nat) (f : EthPort → EthPort) : (s.modPort p f).free = s.free := rfl
@[simp] theorem State.up_modPort (s : State) (p : Nat) (f : EthPort → EthPort) : (s.modPort p f).up = s.up := rfl
@[simp] theorem State.timeBase_modPort (s : State) (p : Nat) (f : EthPort → EthPort) : (s.modPort p f).timeBase = s.timeBase := rfl
@[simp] theorem State.regs_modPort (s : State) (p : Nat) (f : EthPort → EthPort) : (s.modPort p f).regs = s.regs := rfl
@[simp] theorem State.irqPulse_modPort (s : State) (p : Nat) (f : EthPort → EthPort) : (s.modPort p f).irqPulse = s.irqPulse := rfl
@[simp] theorem State.evr_modPort (s : State) (p : Nat) (f : EthPort → EthPort) : (s.modPort p f).evr = s.evr := rfl
@[simp] theorem State.out_modPort (s : State) (p : Nat) (f : EthPort → EthPort) : (s.modPort p f).out = s.out := rfl
@[simp] theorem State.store_modPort (s : State) (p : Nat) (f : EthPort → EthPort) : (s.modPort p f).store = s.store := rfl
@[simp] theorem State.storePoison_modPort (s : State) (p : Nat) (f : EthPort → EthPort) : (s.modPort p f).storePoison = s.storePoison := rfl
@[simp] theorem State.ueLines_modPort (s : State) (p : Nat) (f : EthPort → EthPort) : (s.modPort p f).ueLines = s.ueLines := rfl
@[simp] theorem State.patrol_modPort (s : State) (p : Nat) (f : EthPort → EthPort) : (s.modPort p f).patrol = s.patrol := rfl
@[simp] theorem State.tok_modPort (s : State) (p : Nat) (f : EthPort → EthPort) : (s.modPort p f).tok = s.tok := rfl
@[simp] theorem State.tokSig_modPort (s : State) (p : Nat) (f : EthPort → EthPort) : (s.modPort p f).tokSig = s.tokSig := rfl
@[simp] theorem State.waiters_modPort (s : State) (p : Nat) (f : EthPort → EthPort) : (s.modPort p f).waiters = s.waiters := rfl
@[simp] theorem State.granted_modPort (s : State) (p : Nat) (f : EthPort → EthPort) : (s.modPort p f).granted = s.granted := rfl
@[simp] theorem State.tabs_modPort (s : State) (p : Nat) (f : EthPort → EthPort) : (s.modPort p f).tabs = s.tabs := rfl
@[simp] theorem State.vregs_modPort (s : State) (p : Nat) (f : EthPort → EthPort) : (s.modPort p f).vregs = s.vregs := rfl
@[simp] theorem State.rng_modPort (s : State) (p : Nat) (f : EthPort → EthPort) : (s.modPort p f).rng = s.rng := rfl
@[simp] theorem State.engQ_modPort (s : State) (p : Nat) (f : EthPort → EthPort) : (s.modPort p f).engQ = s.engQ := rfl
@[simp] theorem State.bobQ_modPort (s : State) (p : Nat) (f : EthPort → EthPort) : (s.modPort p f).bobQ = s.bobQ := rfl
@[simp] theorem State.replayQ_modPort (s : State) (p : Nat) (f : EthPort → EthPort) : (s.modPort p f).replayQ = s.replayQ := rfl
@[simp] theorem State.parts_modPort (s : State) (p : Nat) (f : EthPort → EthPort) : (s.modPort p f).parts = s.parts := rfl
@[simp] theorem State.rings_modPort (s : State) (p : Nat) (f : EthPort → EthPort) : (s.modPort p f).rings = s.rings := rfl
@[simp] theorem State.cmds_modPort (s : State) (p : Nat) (f : EthPort → EthPort) : (s.modPort p f).cmds = s.cmds := rfl
@[simp] theorem State.mem_modPort (s : State) (p : Nat) (f : EthPort → EthPort) : (s.modPort p f).mem = s.mem := rfl
@[simp] theorem State.memPoison_modPort (s : State) (p : Nat) (f : EthPort → EthPort) : (s.modPort p f).memPoison = s.memPoison := rfl
@[simp] theorem State.pages_modPort (s : State) (p : Nat) (f : EthPort → EthPort) : (s.modPort p f).pages = s.pages := rfl
@[simp] theorem State.convs_modPort (s : State) (p : Nat) (f : EthPort → EthPort) : (s.modPort p f).convs = s.convs := rfl
@[simp] theorem State.keys_modPort (s : State) (p : Nat) (f : EthPort → EthPort) : (s.modPort p f).keys = s.keys := rfl
@[simp] theorem State.modKey_modPort (s : State) (p : Nat) (f : EthPort → EthPort) : (s.modPort p f).modKey = s.modKey := rfl
@[simp] theorem State.zfills_modPort (s : State) (p : Nat) (f : EthPort → EthPort) : (s.modPort p f).zfills = s.zfills := rfl
@[simp] theorem State.memPatrol_modPort (s : State) (p : Nat) (f : EthPort → EthPort) : (s.modPort p f).memPatrol = s.memPatrol := rfl
@[simp] theorem State.rowCe_modPort (s : State) (p : Nat) (f : EthPort → EthPort) : (s.modPort p f).rowCe = s.rowCe := rfl
@[simp] theorem State.spares_modPort (s : State) (p : Nat) (f : EthPort → EthPort) : (s.modPort p f).spares = s.spares := rfl
@[simp] theorem State.rowCopies_modPort (s : State) (p : Nat) (f : EthPort → EthPort) : (s.modPort p f).rowCopies = s.rowCopies := rfl
@[simp] theorem State.loansOut_modPort (s : State) (p : Nat) (f : EthPort → EthPort) : (s.modPort p f).loansOut = s.loansOut := rfl
@[simp] theorem State.offers_modPort (s : State) (p : Nat) (f : EthPort → EthPort) : (s.modPort p f).offers = s.offers := rfl
@[simp] theorem State.asks_modPort (s : State) (p : Nat) (f : EthPort → EthPort) : (s.modPort p f).asks = s.asks := rfl
@[simp] theorem State.fab_modPort (s : State) (p : Nat) (f : EthPort → EthPort) : (s.modPort p f).fab = s.fab := rfl
@[simp] theorem State.wins_modPort (s : State) (p : Nat) (f : EthPort → EthPort) : (s.modPort p f).wins = s.wins := rfl
@[simp] theorem State.afSeen_modPort (s : State) (p : Nat) (f : EthPort → EthPort) : (s.modPort p f).afSeen = s.afSeen := rfl
@[simp] theorem State.pwr_modPort (s : State) (p : Nat) (f : EthPort → EthPort) : (s.modPort p f).pwr = s.pwr := rfl
@[simp] theorem State.nv_modPort (s : State) (p : Nat) (f : EthPort → EthPort) : (s.modPort p f).nv = s.nv := rfl
@[simp] theorem State.mapDue_modPort (s : State) (p : Nat) (f : EthPort → EthPort) : (s.modPort p f).mapDue = s.mapDue := rfl
@[simp] theorem State.bringIns_modPort (s : State) (p : Nat) (f : EthPort → EthPort) : (s.modPort p f).bringIns = s.bringIns := rfl
@[simp] theorem State.qps_modPort (s : State) (p : Nat) (f : EthPort → EthPort) : (s.modPort p f).qps = s.qps := rfl
@[simp] theorem State.kslots_modPort (s : State) (p : Nat) (f : EthPort → EthPort) : (s.modPort p f).kslots = s.kslots := rfl
@[simp] theorem State.deliveries_modPort (s : State) (p : Nat) (f : EthPort → EthPort) : (s.modPort p f).deliveries = s.deliveries := rfl
@[simp] theorem State.conf_modPort (s : State) (p : Nat) (f : EthPort → EthPort) : (s.modPort p f).conf = s.conf := rfl
@[simp] theorem State.sessions_modPort (s : State) (p : Nat) (f : EthPort → EthPort) : (s.modPort p f).sessions = s.sessions := rfl
@[simp] theorem State.beats_modPort (s : State) (p : Nat) (f : EthPort → EthPort) : (s.modPort p f).beats = s.beats := rfl
@[simp] theorem State.mgmt_modPort (s : State) (p : Nat) (f : EthPort → EthPort) : (s.modPort p f).mgmt = s.mgmt := rfl
@[simp] theorem State.owed_modPort (s : State) (p : Nat) (f : EthPort → EthPort) : (s.modPort p f).owed = s.owed := rfl
@[simp] theorem State.timeFrac_modPort (s : State) (p : Nat) (f : EthPort → EthPort) : (s.modPort p f).timeFrac = s.timeFrac := rfl
@[simp] theorem State.timLatch_modPort (s : State) (p : Nat) (f : EthPort → EthPort) : (s.modPort p f).timLatch = s.timLatch := rfl
@[simp] theorem State.cio_modPort (s : State) (p : Nat) (f : EthPort → EthPort) : (s.modPort p f).cio = s.cio := rfl
@[simp] theorem State.cle_modPort (s : State) (p : Nat) (f : EthPort → EthPort) : (s.modPort p f).cle = s.cle := rfl
@[simp] theorem State.sec_modPort (s : State) (p : Nat) (f : EthPort → EthPort) : (s.modPort p f).sec = s.sec := rfl
@[simp] theorem State.meter_modPort (s : State) (p : Nat) (f : EthPort → EthPort) : (s.modPort p f).meter = s.meter := rfl
@[simp] theorem State.mtrIf_modPort (s : State) (p : Nat) (f : EthPort → EthPort) : (s.modPort p f).mtrIf = s.mtrIf := rfl
@[simp] theorem State.boot_modPort (s : State) (p : Nat) (f : EthPort → EthPort) : (s.modPort p f).boot = s.boot := rfl
@[simp] theorem State.ps_modPort (s : State) (p : Nat) (f : EthPort → EthPort) : (s.modPort p f).ps = s.ps := rfl
@[simp] theorem State.clarn_modPort (s : State) (p : Nat) (f : EthPort → EthPort) : (s.modPort p f).clarn = s.clarn := rfl
@[simp] theorem State.row_modPort (s : State) (p : Nat) (f : EthPort → EthPort) : (s.modPort p f).row = s.row := rfl
@[simp] theorem State.i3c_modPort (s : State) (p : Nat) (f : EthPort → EthPort) : (s.modPort p f).i3c = s.i3c := rfl

/-! ### modQp -/

@[simp] theorem State.pending_modQp (s : State) (q : Nat) (f : Qp → Qp) : (s.modQp q f).pending = s.pending := rfl
@[simp] theorem State.free_modQp (s : State) (q : Nat) (f : Qp → Qp) : (s.modQp q f).free = s.free := rfl
@[simp] theorem State.up_modQp (s : State) (q : Nat) (f : Qp → Qp) : (s.modQp q f).up = s.up := rfl
@[simp] theorem State.timeBase_modQp (s : State) (q : Nat) (f : Qp → Qp) : (s.modQp q f).timeBase = s.timeBase := rfl
@[simp] theorem State.regs_modQp (s : State) (q : Nat) (f : Qp → Qp) : (s.modQp q f).regs = s.regs := rfl
@[simp] theorem State.irqPulse_modQp (s : State) (q : Nat) (f : Qp → Qp) : (s.modQp q f).irqPulse = s.irqPulse := rfl
@[simp] theorem State.evr_modQp (s : State) (q : Nat) (f : Qp → Qp) : (s.modQp q f).evr = s.evr := rfl
@[simp] theorem State.out_modQp (s : State) (q : Nat) (f : Qp → Qp) : (s.modQp q f).out = s.out := rfl
@[simp] theorem State.store_modQp (s : State) (q : Nat) (f : Qp → Qp) : (s.modQp q f).store = s.store := rfl
@[simp] theorem State.storePoison_modQp (s : State) (q : Nat) (f : Qp → Qp) : (s.modQp q f).storePoison = s.storePoison := rfl
@[simp] theorem State.ueLines_modQp (s : State) (q : Nat) (f : Qp → Qp) : (s.modQp q f).ueLines = s.ueLines := rfl
@[simp] theorem State.patrol_modQp (s : State) (q : Nat) (f : Qp → Qp) : (s.modQp q f).patrol = s.patrol := rfl
@[simp] theorem State.tok_modQp (s : State) (q : Nat) (f : Qp → Qp) : (s.modQp q f).tok = s.tok := rfl
@[simp] theorem State.tokSig_modQp (s : State) (q : Nat) (f : Qp → Qp) : (s.modQp q f).tokSig = s.tokSig := rfl
@[simp] theorem State.waiters_modQp (s : State) (q : Nat) (f : Qp → Qp) : (s.modQp q f).waiters = s.waiters := rfl
@[simp] theorem State.granted_modQp (s : State) (q : Nat) (f : Qp → Qp) : (s.modQp q f).granted = s.granted := rfl
@[simp] theorem State.tabs_modQp (s : State) (q : Nat) (f : Qp → Qp) : (s.modQp q f).tabs = s.tabs := rfl
@[simp] theorem State.vregs_modQp (s : State) (q : Nat) (f : Qp → Qp) : (s.modQp q f).vregs = s.vregs := rfl
@[simp] theorem State.rng_modQp (s : State) (q : Nat) (f : Qp → Qp) : (s.modQp q f).rng = s.rng := rfl
@[simp] theorem State.engQ_modQp (s : State) (q : Nat) (f : Qp → Qp) : (s.modQp q f).engQ = s.engQ := rfl
@[simp] theorem State.bobQ_modQp (s : State) (q : Nat) (f : Qp → Qp) : (s.modQp q f).bobQ = s.bobQ := rfl
@[simp] theorem State.replayQ_modQp (s : State) (q : Nat) (f : Qp → Qp) : (s.modQp q f).replayQ = s.replayQ := rfl
@[simp] theorem State.parts_modQp (s : State) (q : Nat) (f : Qp → Qp) : (s.modQp q f).parts = s.parts := rfl
@[simp] theorem State.rings_modQp (s : State) (q : Nat) (f : Qp → Qp) : (s.modQp q f).rings = s.rings := rfl
@[simp] theorem State.cmds_modQp (s : State) (q : Nat) (f : Qp → Qp) : (s.modQp q f).cmds = s.cmds := rfl
@[simp] theorem State.mem_modQp (s : State) (q : Nat) (f : Qp → Qp) : (s.modQp q f).mem = s.mem := rfl
@[simp] theorem State.memPoison_modQp (s : State) (q : Nat) (f : Qp → Qp) : (s.modQp q f).memPoison = s.memPoison := rfl
@[simp] theorem State.pages_modQp (s : State) (q : Nat) (f : Qp → Qp) : (s.modQp q f).pages = s.pages := rfl
@[simp] theorem State.convs_modQp (s : State) (q : Nat) (f : Qp → Qp) : (s.modQp q f).convs = s.convs := rfl
@[simp] theorem State.keys_modQp (s : State) (q : Nat) (f : Qp → Qp) : (s.modQp q f).keys = s.keys := rfl
@[simp] theorem State.modKey_modQp (s : State) (q : Nat) (f : Qp → Qp) : (s.modQp q f).modKey = s.modKey := rfl
@[simp] theorem State.zfills_modQp (s : State) (q : Nat) (f : Qp → Qp) : (s.modQp q f).zfills = s.zfills := rfl
@[simp] theorem State.memPatrol_modQp (s : State) (q : Nat) (f : Qp → Qp) : (s.modQp q f).memPatrol = s.memPatrol := rfl
@[simp] theorem State.rowCe_modQp (s : State) (q : Nat) (f : Qp → Qp) : (s.modQp q f).rowCe = s.rowCe := rfl
@[simp] theorem State.spares_modQp (s : State) (q : Nat) (f : Qp → Qp) : (s.modQp q f).spares = s.spares := rfl
@[simp] theorem State.rowCopies_modQp (s : State) (q : Nat) (f : Qp → Qp) : (s.modQp q f).rowCopies = s.rowCopies := rfl
@[simp] theorem State.loansOut_modQp (s : State) (q : Nat) (f : Qp → Qp) : (s.modQp q f).loansOut = s.loansOut := rfl
@[simp] theorem State.offers_modQp (s : State) (q : Nat) (f : Qp → Qp) : (s.modQp q f).offers = s.offers := rfl
@[simp] theorem State.asks_modQp (s : State) (q : Nat) (f : Qp → Qp) : (s.modQp q f).asks = s.asks := rfl
@[simp] theorem State.fab_modQp (s : State) (q : Nat) (f : Qp → Qp) : (s.modQp q f).fab = s.fab := rfl
@[simp] theorem State.wins_modQp (s : State) (q : Nat) (f : Qp → Qp) : (s.modQp q f).wins = s.wins := rfl
@[simp] theorem State.afSeen_modQp (s : State) (q : Nat) (f : Qp → Qp) : (s.modQp q f).afSeen = s.afSeen := rfl
@[simp] theorem State.pwr_modQp (s : State) (q : Nat) (f : Qp → Qp) : (s.modQp q f).pwr = s.pwr := rfl
@[simp] theorem State.nv_modQp (s : State) (q : Nat) (f : Qp → Qp) : (s.modQp q f).nv = s.nv := rfl
@[simp] theorem State.mapDue_modQp (s : State) (q : Nat) (f : Qp → Qp) : (s.modQp q f).mapDue = s.mapDue := rfl
@[simp] theorem State.bringIns_modQp (s : State) (q : Nat) (f : Qp → Qp) : (s.modQp q f).bringIns = s.bringIns := rfl
@[simp] theorem State.ports_modQp (s : State) (q : Nat) (f : Qp → Qp) : (s.modQp q f).ports = s.ports := rfl
@[simp] theorem State.kslots_modQp (s : State) (q : Nat) (f : Qp → Qp) : (s.modQp q f).kslots = s.kslots := rfl
@[simp] theorem State.deliveries_modQp (s : State) (q : Nat) (f : Qp → Qp) : (s.modQp q f).deliveries = s.deliveries := rfl
@[simp] theorem State.conf_modQp (s : State) (q : Nat) (f : Qp → Qp) : (s.modQp q f).conf = s.conf := rfl
@[simp] theorem State.sessions_modQp (s : State) (q : Nat) (f : Qp → Qp) : (s.modQp q f).sessions = s.sessions := rfl
@[simp] theorem State.beats_modQp (s : State) (q : Nat) (f : Qp → Qp) : (s.modQp q f).beats = s.beats := rfl
@[simp] theorem State.mgmt_modQp (s : State) (q : Nat) (f : Qp → Qp) : (s.modQp q f).mgmt = s.mgmt := rfl
@[simp] theorem State.owed_modQp (s : State) (q : Nat) (f : Qp → Qp) : (s.modQp q f).owed = s.owed := rfl
@[simp] theorem State.timeFrac_modQp (s : State) (q : Nat) (f : Qp → Qp) : (s.modQp q f).timeFrac = s.timeFrac := rfl
@[simp] theorem State.timLatch_modQp (s : State) (q : Nat) (f : Qp → Qp) : (s.modQp q f).timLatch = s.timLatch := rfl
@[simp] theorem State.cio_modQp (s : State) (q : Nat) (f : Qp → Qp) : (s.modQp q f).cio = s.cio := rfl
@[simp] theorem State.cle_modQp (s : State) (q : Nat) (f : Qp → Qp) : (s.modQp q f).cle = s.cle := rfl
@[simp] theorem State.sec_modQp (s : State) (q : Nat) (f : Qp → Qp) : (s.modQp q f).sec = s.sec := rfl
@[simp] theorem State.meter_modQp (s : State) (q : Nat) (f : Qp → Qp) : (s.modQp q f).meter = s.meter := rfl
@[simp] theorem State.mtrIf_modQp (s : State) (q : Nat) (f : Qp → Qp) : (s.modQp q f).mtrIf = s.mtrIf := rfl
@[simp] theorem State.boot_modQp (s : State) (q : Nat) (f : Qp → Qp) : (s.modQp q f).boot = s.boot := rfl
@[simp] theorem State.ps_modQp (s : State) (q : Nat) (f : Qp → Qp) : (s.modQp q f).ps = s.ps := rfl
@[simp] theorem State.clarn_modQp (s : State) (q : Nat) (f : Qp → Qp) : (s.modQp q f).clarn = s.clarn := rfl
@[simp] theorem State.row_modQp (s : State) (q : Nat) (f : Qp → Qp) : (s.modQp q f).row = s.row := rfl
@[simp] theorem State.i3c_modQp (s : State) (q : Nat) (f : Qp → Qp) : (s.modQp q f).i3c = s.i3c := rfl

/-! ### modLink -/

@[simp] theorem State.pending_modLink (s : State) (j : Nat) (f : Link → Link) : (s.modLink j f).pending = s.pending := rfl
@[simp] theorem State.free_modLink (s : State) (j : Nat) (f : Link → Link) : (s.modLink j f).free = s.free := rfl
@[simp] theorem State.up_modLink (s : State) (j : Nat) (f : Link → Link) : (s.modLink j f).up = s.up := rfl
@[simp] theorem State.timeBase_modLink (s : State) (j : Nat) (f : Link → Link) : (s.modLink j f).timeBase = s.timeBase := rfl
@[simp] theorem State.regs_modLink (s : State) (j : Nat) (f : Link → Link) : (s.modLink j f).regs = s.regs := rfl
@[simp] theorem State.irqPulse_modLink (s : State) (j : Nat) (f : Link → Link) : (s.modLink j f).irqPulse = s.irqPulse := rfl
@[simp] theorem State.evr_modLink (s : State) (j : Nat) (f : Link → Link) : (s.modLink j f).evr = s.evr := rfl
@[simp] theorem State.out_modLink (s : State) (j : Nat) (f : Link → Link) : (s.modLink j f).out = s.out := rfl
@[simp] theorem State.store_modLink (s : State) (j : Nat) (f : Link → Link) : (s.modLink j f).store = s.store := rfl
@[simp] theorem State.storePoison_modLink (s : State) (j : Nat) (f : Link → Link) : (s.modLink j f).storePoison = s.storePoison := rfl
@[simp] theorem State.ueLines_modLink (s : State) (j : Nat) (f : Link → Link) : (s.modLink j f).ueLines = s.ueLines := rfl
@[simp] theorem State.patrol_modLink (s : State) (j : Nat) (f : Link → Link) : (s.modLink j f).patrol = s.patrol := rfl
@[simp] theorem State.tok_modLink (s : State) (j : Nat) (f : Link → Link) : (s.modLink j f).tok = s.tok := rfl
@[simp] theorem State.tokSig_modLink (s : State) (j : Nat) (f : Link → Link) : (s.modLink j f).tokSig = s.tokSig := rfl
@[simp] theorem State.waiters_modLink (s : State) (j : Nat) (f : Link → Link) : (s.modLink j f).waiters = s.waiters := rfl
@[simp] theorem State.granted_modLink (s : State) (j : Nat) (f : Link → Link) : (s.modLink j f).granted = s.granted := rfl
@[simp] theorem State.tabs_modLink (s : State) (j : Nat) (f : Link → Link) : (s.modLink j f).tabs = s.tabs := rfl
@[simp] theorem State.vregs_modLink (s : State) (j : Nat) (f : Link → Link) : (s.modLink j f).vregs = s.vregs := rfl
@[simp] theorem State.rng_modLink (s : State) (j : Nat) (f : Link → Link) : (s.modLink j f).rng = s.rng := rfl
@[simp] theorem State.engQ_modLink (s : State) (j : Nat) (f : Link → Link) : (s.modLink j f).engQ = s.engQ := rfl
@[simp] theorem State.bobQ_modLink (s : State) (j : Nat) (f : Link → Link) : (s.modLink j f).bobQ = s.bobQ := rfl
@[simp] theorem State.replayQ_modLink (s : State) (j : Nat) (f : Link → Link) : (s.modLink j f).replayQ = s.replayQ := rfl
@[simp] theorem State.parts_modLink (s : State) (j : Nat) (f : Link → Link) : (s.modLink j f).parts = s.parts := rfl
@[simp] theorem State.rings_modLink (s : State) (j : Nat) (f : Link → Link) : (s.modLink j f).rings = s.rings := rfl
@[simp] theorem State.cmds_modLink (s : State) (j : Nat) (f : Link → Link) : (s.modLink j f).cmds = s.cmds := rfl
@[simp] theorem State.mem_modLink (s : State) (j : Nat) (f : Link → Link) : (s.modLink j f).mem = s.mem := rfl
@[simp] theorem State.memPoison_modLink (s : State) (j : Nat) (f : Link → Link) : (s.modLink j f).memPoison = s.memPoison := rfl
@[simp] theorem State.pages_modLink (s : State) (j : Nat) (f : Link → Link) : (s.modLink j f).pages = s.pages := rfl
@[simp] theorem State.convs_modLink (s : State) (j : Nat) (f : Link → Link) : (s.modLink j f).convs = s.convs := rfl
@[simp] theorem State.keys_modLink (s : State) (j : Nat) (f : Link → Link) : (s.modLink j f).keys = s.keys := rfl
@[simp] theorem State.modKey_modLink (s : State) (j : Nat) (f : Link → Link) : (s.modLink j f).modKey = s.modKey := rfl
@[simp] theorem State.zfills_modLink (s : State) (j : Nat) (f : Link → Link) : (s.modLink j f).zfills = s.zfills := rfl
@[simp] theorem State.memPatrol_modLink (s : State) (j : Nat) (f : Link → Link) : (s.modLink j f).memPatrol = s.memPatrol := rfl
@[simp] theorem State.rowCe_modLink (s : State) (j : Nat) (f : Link → Link) : (s.modLink j f).rowCe = s.rowCe := rfl
@[simp] theorem State.spares_modLink (s : State) (j : Nat) (f : Link → Link) : (s.modLink j f).spares = s.spares := rfl
@[simp] theorem State.rowCopies_modLink (s : State) (j : Nat) (f : Link → Link) : (s.modLink j f).rowCopies = s.rowCopies := rfl
@[simp] theorem State.loansOut_modLink (s : State) (j : Nat) (f : Link → Link) : (s.modLink j f).loansOut = s.loansOut := rfl
@[simp] theorem State.offers_modLink (s : State) (j : Nat) (f : Link → Link) : (s.modLink j f).offers = s.offers := rfl
@[simp] theorem State.asks_modLink (s : State) (j : Nat) (f : Link → Link) : (s.modLink j f).asks = s.asks := rfl
@[simp] theorem State.wins_modLink (s : State) (j : Nat) (f : Link → Link) : (s.modLink j f).wins = s.wins := rfl
@[simp] theorem State.afSeen_modLink (s : State) (j : Nat) (f : Link → Link) : (s.modLink j f).afSeen = s.afSeen := rfl
@[simp] theorem State.pwr_modLink (s : State) (j : Nat) (f : Link → Link) : (s.modLink j f).pwr = s.pwr := rfl
@[simp] theorem State.nv_modLink (s : State) (j : Nat) (f : Link → Link) : (s.modLink j f).nv = s.nv := rfl
@[simp] theorem State.mapDue_modLink (s : State) (j : Nat) (f : Link → Link) : (s.modLink j f).mapDue = s.mapDue := rfl
@[simp] theorem State.bringIns_modLink (s : State) (j : Nat) (f : Link → Link) : (s.modLink j f).bringIns = s.bringIns := rfl
@[simp] theorem State.qps_modLink (s : State) (j : Nat) (f : Link → Link) : (s.modLink j f).qps = s.qps := rfl
@[simp] theorem State.ports_modLink (s : State) (j : Nat) (f : Link → Link) : (s.modLink j f).ports = s.ports := rfl
@[simp] theorem State.kslots_modLink (s : State) (j : Nat) (f : Link → Link) : (s.modLink j f).kslots = s.kslots := rfl
@[simp] theorem State.deliveries_modLink (s : State) (j : Nat) (f : Link → Link) : (s.modLink j f).deliveries = s.deliveries := rfl
@[simp] theorem State.conf_modLink (s : State) (j : Nat) (f : Link → Link) : (s.modLink j f).conf = s.conf := rfl
@[simp] theorem State.sessions_modLink (s : State) (j : Nat) (f : Link → Link) : (s.modLink j f).sessions = s.sessions := rfl
@[simp] theorem State.beats_modLink (s : State) (j : Nat) (f : Link → Link) : (s.modLink j f).beats = s.beats := rfl
@[simp] theorem State.mgmt_modLink (s : State) (j : Nat) (f : Link → Link) : (s.modLink j f).mgmt = s.mgmt := rfl
@[simp] theorem State.owed_modLink (s : State) (j : Nat) (f : Link → Link) : (s.modLink j f).owed = s.owed := rfl
@[simp] theorem State.timeFrac_modLink (s : State) (j : Nat) (f : Link → Link) : (s.modLink j f).timeFrac = s.timeFrac := rfl
@[simp] theorem State.timLatch_modLink (s : State) (j : Nat) (f : Link → Link) : (s.modLink j f).timLatch = s.timLatch := rfl
@[simp] theorem State.cio_modLink (s : State) (j : Nat) (f : Link → Link) : (s.modLink j f).cio = s.cio := rfl
@[simp] theorem State.cle_modLink (s : State) (j : Nat) (f : Link → Link) : (s.modLink j f).cle = s.cle := rfl
@[simp] theorem State.sec_modLink (s : State) (j : Nat) (f : Link → Link) : (s.modLink j f).sec = s.sec := rfl
@[simp] theorem State.meter_modLink (s : State) (j : Nat) (f : Link → Link) : (s.modLink j f).meter = s.meter := rfl
@[simp] theorem State.mtrIf_modLink (s : State) (j : Nat) (f : Link → Link) : (s.modLink j f).mtrIf = s.mtrIf := rfl
@[simp] theorem State.boot_modLink (s : State) (j : Nat) (f : Link → Link) : (s.modLink j f).boot = s.boot := rfl
@[simp] theorem State.ps_modLink (s : State) (j : Nat) (f : Link → Link) : (s.modLink j f).ps = s.ps := rfl
@[simp] theorem State.clarn_modLink (s : State) (j : Nat) (f : Link → Link) : (s.modLink j f).clarn = s.clarn := rfl
@[simp] theorem State.row_modLink (s : State) (j : Nat) (f : Link → Link) : (s.modLink j f).row = s.row := rfl
@[simp] theorem State.i3c_modLink (s : State) (j : Nat) (f : Link → Link) : (s.modLink j f).i3c = s.i3c := rfl

/-! ### modSlot -/

@[simp] theorem State.pending_modSlot (s : State) (k : Nat) (f : Slot → Slot) : (s.modSlot k f).pending = s.pending := rfl
@[simp] theorem State.free_modSlot (s : State) (k : Nat) (f : Slot → Slot) : (s.modSlot k f).free = s.free := rfl
@[simp] theorem State.up_modSlot (s : State) (k : Nat) (f : Slot → Slot) : (s.modSlot k f).up = s.up := rfl
@[simp] theorem State.timeBase_modSlot (s : State) (k : Nat) (f : Slot → Slot) : (s.modSlot k f).timeBase = s.timeBase := rfl
@[simp] theorem State.regs_modSlot (s : State) (k : Nat) (f : Slot → Slot) : (s.modSlot k f).regs = s.regs := rfl
@[simp] theorem State.irqPulse_modSlot (s : State) (k : Nat) (f : Slot → Slot) : (s.modSlot k f).irqPulse = s.irqPulse := rfl
@[simp] theorem State.evr_modSlot (s : State) (k : Nat) (f : Slot → Slot) : (s.modSlot k f).evr = s.evr := rfl
@[simp] theorem State.out_modSlot (s : State) (k : Nat) (f : Slot → Slot) : (s.modSlot k f).out = s.out := rfl
@[simp] theorem State.store_modSlot (s : State) (k : Nat) (f : Slot → Slot) : (s.modSlot k f).store = s.store := rfl
@[simp] theorem State.storePoison_modSlot (s : State) (k : Nat) (f : Slot → Slot) : (s.modSlot k f).storePoison = s.storePoison := rfl
@[simp] theorem State.ueLines_modSlot (s : State) (k : Nat) (f : Slot → Slot) : (s.modSlot k f).ueLines = s.ueLines := rfl
@[simp] theorem State.patrol_modSlot (s : State) (k : Nat) (f : Slot → Slot) : (s.modSlot k f).patrol = s.patrol := rfl
@[simp] theorem State.tok_modSlot (s : State) (k : Nat) (f : Slot → Slot) : (s.modSlot k f).tok = s.tok := rfl
@[simp] theorem State.tokSig_modSlot (s : State) (k : Nat) (f : Slot → Slot) : (s.modSlot k f).tokSig = s.tokSig := rfl
@[simp] theorem State.waiters_modSlot (s : State) (k : Nat) (f : Slot → Slot) : (s.modSlot k f).waiters = s.waiters := rfl
@[simp] theorem State.granted_modSlot (s : State) (k : Nat) (f : Slot → Slot) : (s.modSlot k f).granted = s.granted := rfl
@[simp] theorem State.tabs_modSlot (s : State) (k : Nat) (f : Slot → Slot) : (s.modSlot k f).tabs = s.tabs := rfl
@[simp] theorem State.vregs_modSlot (s : State) (k : Nat) (f : Slot → Slot) : (s.modSlot k f).vregs = s.vregs := rfl
@[simp] theorem State.rng_modSlot (s : State) (k : Nat) (f : Slot → Slot) : (s.modSlot k f).rng = s.rng := rfl
@[simp] theorem State.engQ_modSlot (s : State) (k : Nat) (f : Slot → Slot) : (s.modSlot k f).engQ = s.engQ := rfl
@[simp] theorem State.bobQ_modSlot (s : State) (k : Nat) (f : Slot → Slot) : (s.modSlot k f).bobQ = s.bobQ := rfl
@[simp] theorem State.replayQ_modSlot (s : State) (k : Nat) (f : Slot → Slot) : (s.modSlot k f).replayQ = s.replayQ := rfl
@[simp] theorem State.parts_modSlot (s : State) (k : Nat) (f : Slot → Slot) : (s.modSlot k f).parts = s.parts := rfl
@[simp] theorem State.rings_modSlot (s : State) (k : Nat) (f : Slot → Slot) : (s.modSlot k f).rings = s.rings := rfl
@[simp] theorem State.cmds_modSlot (s : State) (k : Nat) (f : Slot → Slot) : (s.modSlot k f).cmds = s.cmds := rfl
@[simp] theorem State.mem_modSlot (s : State) (k : Nat) (f : Slot → Slot) : (s.modSlot k f).mem = s.mem := rfl
@[simp] theorem State.memPoison_modSlot (s : State) (k : Nat) (f : Slot → Slot) : (s.modSlot k f).memPoison = s.memPoison := rfl
@[simp] theorem State.pages_modSlot (s : State) (k : Nat) (f : Slot → Slot) : (s.modSlot k f).pages = s.pages := rfl
@[simp] theorem State.convs_modSlot (s : State) (k : Nat) (f : Slot → Slot) : (s.modSlot k f).convs = s.convs := rfl
@[simp] theorem State.keys_modSlot (s : State) (k : Nat) (f : Slot → Slot) : (s.modSlot k f).keys = s.keys := rfl
@[simp] theorem State.modKey_modSlot (s : State) (k : Nat) (f : Slot → Slot) : (s.modSlot k f).modKey = s.modKey := rfl
@[simp] theorem State.zfills_modSlot (s : State) (k : Nat) (f : Slot → Slot) : (s.modSlot k f).zfills = s.zfills := rfl
@[simp] theorem State.memPatrol_modSlot (s : State) (k : Nat) (f : Slot → Slot) : (s.modSlot k f).memPatrol = s.memPatrol := rfl
@[simp] theorem State.rowCe_modSlot (s : State) (k : Nat) (f : Slot → Slot) : (s.modSlot k f).rowCe = s.rowCe := rfl
@[simp] theorem State.spares_modSlot (s : State) (k : Nat) (f : Slot → Slot) : (s.modSlot k f).spares = s.spares := rfl
@[simp] theorem State.rowCopies_modSlot (s : State) (k : Nat) (f : Slot → Slot) : (s.modSlot k f).rowCopies = s.rowCopies := rfl
@[simp] theorem State.loansOut_modSlot (s : State) (k : Nat) (f : Slot → Slot) : (s.modSlot k f).loansOut = s.loansOut := rfl
@[simp] theorem State.offers_modSlot (s : State) (k : Nat) (f : Slot → Slot) : (s.modSlot k f).offers = s.offers := rfl
@[simp] theorem State.asks_modSlot (s : State) (k : Nat) (f : Slot → Slot) : (s.modSlot k f).asks = s.asks := rfl
@[simp] theorem State.fab_modSlot (s : State) (k : Nat) (f : Slot → Slot) : (s.modSlot k f).fab = s.fab := rfl
@[simp] theorem State.wins_modSlot (s : State) (k : Nat) (f : Slot → Slot) : (s.modSlot k f).wins = s.wins := rfl
@[simp] theorem State.afSeen_modSlot (s : State) (k : Nat) (f : Slot → Slot) : (s.modSlot k f).afSeen = s.afSeen := rfl
@[simp] theorem State.pwr_modSlot (s : State) (k : Nat) (f : Slot → Slot) : (s.modSlot k f).pwr = s.pwr := rfl
@[simp] theorem State.nv_modSlot (s : State) (k : Nat) (f : Slot → Slot) : (s.modSlot k f).nv = s.nv := rfl
@[simp] theorem State.mapDue_modSlot (s : State) (k : Nat) (f : Slot → Slot) : (s.modSlot k f).mapDue = s.mapDue := rfl
@[simp] theorem State.bringIns_modSlot (s : State) (k : Nat) (f : Slot → Slot) : (s.modSlot k f).bringIns = s.bringIns := rfl
@[simp] theorem State.qps_modSlot (s : State) (k : Nat) (f : Slot → Slot) : (s.modSlot k f).qps = s.qps := rfl
@[simp] theorem State.ports_modSlot (s : State) (k : Nat) (f : Slot → Slot) : (s.modSlot k f).ports = s.ports := rfl
@[simp] theorem State.kslots_modSlot (s : State) (k : Nat) (f : Slot → Slot) : (s.modSlot k f).kslots = s.kslots := rfl
@[simp] theorem State.deliveries_modSlot (s : State) (k : Nat) (f : Slot → Slot) : (s.modSlot k f).deliveries = s.deliveries := rfl
@[simp] theorem State.conf_modSlot (s : State) (k : Nat) (f : Slot → Slot) : (s.modSlot k f).conf = s.conf := rfl
@[simp] theorem State.sessions_modSlot (s : State) (k : Nat) (f : Slot → Slot) : (s.modSlot k f).sessions = s.sessions := rfl
@[simp] theorem State.beats_modSlot (s : State) (k : Nat) (f : Slot → Slot) : (s.modSlot k f).beats = s.beats := rfl
@[simp] theorem State.mgmt_modSlot (s : State) (k : Nat) (f : Slot → Slot) : (s.modSlot k f).mgmt = s.mgmt := rfl
@[simp] theorem State.owed_modSlot (s : State) (k : Nat) (f : Slot → Slot) : (s.modSlot k f).owed = s.owed := rfl
@[simp] theorem State.timeFrac_modSlot (s : State) (k : Nat) (f : Slot → Slot) : (s.modSlot k f).timeFrac = s.timeFrac := rfl
@[simp] theorem State.timLatch_modSlot (s : State) (k : Nat) (f : Slot → Slot) : (s.modSlot k f).timLatch = s.timLatch := rfl
@[simp] theorem State.cio_modSlot (s : State) (k : Nat) (f : Slot → Slot) : (s.modSlot k f).cio = s.cio := rfl
@[simp] theorem State.sec_modSlot (s : State) (k : Nat) (f : Slot → Slot) : (s.modSlot k f).sec = s.sec := rfl
@[simp] theorem State.meter_modSlot (s : State) (k : Nat) (f : Slot → Slot) : (s.modSlot k f).meter = s.meter := rfl
@[simp] theorem State.mtrIf_modSlot (s : State) (k : Nat) (f : Slot → Slot) : (s.modSlot k f).mtrIf = s.mtrIf := rfl
@[simp] theorem State.boot_modSlot (s : State) (k : Nat) (f : Slot → Slot) : (s.modSlot k f).boot = s.boot := rfl
@[simp] theorem State.ps_modSlot (s : State) (k : Nat) (f : Slot → Slot) : (s.modSlot k f).ps = s.ps := rfl
@[simp] theorem State.clarn_modSlot (s : State) (k : Nat) (f : Slot → Slot) : (s.modSlot k f).clarn = s.clarn := rfl
@[simp] theorem State.row_modSlot (s : State) (k : Nat) (f : Slot → Slot) : (s.modSlot k f).row = s.row := rfl
@[simp] theorem State.i3c_modSlot (s : State) (k : Nat) (f : Slot → Slot) : (s.modSlot k f).i3c = s.i3c := rfl

/-! ### modCio -/

@[simp] theorem State.pending_modCio (s : State) (f : Cio → Cio) : (s.modCio f).pending = s.pending := rfl
@[simp] theorem State.free_modCio (s : State) (f : Cio → Cio) : (s.modCio f).free = s.free := rfl
@[simp] theorem State.up_modCio (s : State) (f : Cio → Cio) : (s.modCio f).up = s.up := rfl
@[simp] theorem State.timeBase_modCio (s : State) (f : Cio → Cio) : (s.modCio f).timeBase = s.timeBase := rfl
@[simp] theorem State.regs_modCio (s : State) (f : Cio → Cio) : (s.modCio f).regs = s.regs := rfl
@[simp] theorem State.irqPulse_modCio (s : State) (f : Cio → Cio) : (s.modCio f).irqPulse = s.irqPulse := rfl
@[simp] theorem State.evr_modCio (s : State) (f : Cio → Cio) : (s.modCio f).evr = s.evr := rfl
@[simp] theorem State.out_modCio (s : State) (f : Cio → Cio) : (s.modCio f).out = s.out := rfl
@[simp] theorem State.store_modCio (s : State) (f : Cio → Cio) : (s.modCio f).store = s.store := rfl
@[simp] theorem State.storePoison_modCio (s : State) (f : Cio → Cio) : (s.modCio f).storePoison = s.storePoison := rfl
@[simp] theorem State.ueLines_modCio (s : State) (f : Cio → Cio) : (s.modCio f).ueLines = s.ueLines := rfl
@[simp] theorem State.patrol_modCio (s : State) (f : Cio → Cio) : (s.modCio f).patrol = s.patrol := rfl
@[simp] theorem State.tok_modCio (s : State) (f : Cio → Cio) : (s.modCio f).tok = s.tok := rfl
@[simp] theorem State.tokSig_modCio (s : State) (f : Cio → Cio) : (s.modCio f).tokSig = s.tokSig := rfl
@[simp] theorem State.waiters_modCio (s : State) (f : Cio → Cio) : (s.modCio f).waiters = s.waiters := rfl
@[simp] theorem State.granted_modCio (s : State) (f : Cio → Cio) : (s.modCio f).granted = s.granted := rfl
@[simp] theorem State.tabs_modCio (s : State) (f : Cio → Cio) : (s.modCio f).tabs = s.tabs := rfl
@[simp] theorem State.vregs_modCio (s : State) (f : Cio → Cio) : (s.modCio f).vregs = s.vregs := rfl
@[simp] theorem State.rng_modCio (s : State) (f : Cio → Cio) : (s.modCio f).rng = s.rng := rfl
@[simp] theorem State.engQ_modCio (s : State) (f : Cio → Cio) : (s.modCio f).engQ = s.engQ := rfl
@[simp] theorem State.bobQ_modCio (s : State) (f : Cio → Cio) : (s.modCio f).bobQ = s.bobQ := rfl
@[simp] theorem State.replayQ_modCio (s : State) (f : Cio → Cio) : (s.modCio f).replayQ = s.replayQ := rfl
@[simp] theorem State.parts_modCio (s : State) (f : Cio → Cio) : (s.modCio f).parts = s.parts := rfl
@[simp] theorem State.rings_modCio (s : State) (f : Cio → Cio) : (s.modCio f).rings = s.rings := rfl
@[simp] theorem State.cmds_modCio (s : State) (f : Cio → Cio) : (s.modCio f).cmds = s.cmds := rfl
@[simp] theorem State.mem_modCio (s : State) (f : Cio → Cio) : (s.modCio f).mem = s.mem := rfl
@[simp] theorem State.memPoison_modCio (s : State) (f : Cio → Cio) : (s.modCio f).memPoison = s.memPoison := rfl
@[simp] theorem State.pages_modCio (s : State) (f : Cio → Cio) : (s.modCio f).pages = s.pages := rfl
@[simp] theorem State.convs_modCio (s : State) (f : Cio → Cio) : (s.modCio f).convs = s.convs := rfl
@[simp] theorem State.keys_modCio (s : State) (f : Cio → Cio) : (s.modCio f).keys = s.keys := rfl
@[simp] theorem State.modKey_modCio (s : State) (f : Cio → Cio) : (s.modCio f).modKey = s.modKey := rfl
@[simp] theorem State.zfills_modCio (s : State) (f : Cio → Cio) : (s.modCio f).zfills = s.zfills := rfl
@[simp] theorem State.memPatrol_modCio (s : State) (f : Cio → Cio) : (s.modCio f).memPatrol = s.memPatrol := rfl
@[simp] theorem State.rowCe_modCio (s : State) (f : Cio → Cio) : (s.modCio f).rowCe = s.rowCe := rfl
@[simp] theorem State.spares_modCio (s : State) (f : Cio → Cio) : (s.modCio f).spares = s.spares := rfl
@[simp] theorem State.rowCopies_modCio (s : State) (f : Cio → Cio) : (s.modCio f).rowCopies = s.rowCopies := rfl
@[simp] theorem State.loansOut_modCio (s : State) (f : Cio → Cio) : (s.modCio f).loansOut = s.loansOut := rfl
@[simp] theorem State.offers_modCio (s : State) (f : Cio → Cio) : (s.modCio f).offers = s.offers := rfl
@[simp] theorem State.asks_modCio (s : State) (f : Cio → Cio) : (s.modCio f).asks = s.asks := rfl
@[simp] theorem State.fab_modCio (s : State) (f : Cio → Cio) : (s.modCio f).fab = s.fab := rfl
@[simp] theorem State.wins_modCio (s : State) (f : Cio → Cio) : (s.modCio f).wins = s.wins := rfl
@[simp] theorem State.afSeen_modCio (s : State) (f : Cio → Cio) : (s.modCio f).afSeen = s.afSeen := rfl
@[simp] theorem State.pwr_modCio (s : State) (f : Cio → Cio) : (s.modCio f).pwr = s.pwr := rfl
@[simp] theorem State.nv_modCio (s : State) (f : Cio → Cio) : (s.modCio f).nv = s.nv := rfl
@[simp] theorem State.mapDue_modCio (s : State) (f : Cio → Cio) : (s.modCio f).mapDue = s.mapDue := rfl
@[simp] theorem State.bringIns_modCio (s : State) (f : Cio → Cio) : (s.modCio f).bringIns = s.bringIns := rfl
@[simp] theorem State.qps_modCio (s : State) (f : Cio → Cio) : (s.modCio f).qps = s.qps := rfl
@[simp] theorem State.ports_modCio (s : State) (f : Cio → Cio) : (s.modCio f).ports = s.ports := rfl
@[simp] theorem State.kslots_modCio (s : State) (f : Cio → Cio) : (s.modCio f).kslots = s.kslots := rfl
@[simp] theorem State.deliveries_modCio (s : State) (f : Cio → Cio) : (s.modCio f).deliveries = s.deliveries := rfl
@[simp] theorem State.conf_modCio (s : State) (f : Cio → Cio) : (s.modCio f).conf = s.conf := rfl
@[simp] theorem State.sessions_modCio (s : State) (f : Cio → Cio) : (s.modCio f).sessions = s.sessions := rfl
@[simp] theorem State.beats_modCio (s : State) (f : Cio → Cio) : (s.modCio f).beats = s.beats := rfl
@[simp] theorem State.mgmt_modCio (s : State) (f : Cio → Cio) : (s.modCio f).mgmt = s.mgmt := rfl
@[simp] theorem State.owed_modCio (s : State) (f : Cio → Cio) : (s.modCio f).owed = s.owed := rfl
@[simp] theorem State.timeFrac_modCio (s : State) (f : Cio → Cio) : (s.modCio f).timeFrac = s.timeFrac := rfl
@[simp] theorem State.timLatch_modCio (s : State) (f : Cio → Cio) : (s.modCio f).timLatch = s.timLatch := rfl
@[simp] theorem State.cle_modCio (s : State) (f : Cio → Cio) : (s.modCio f).cle = s.cle := rfl
@[simp] theorem State.sec_modCio (s : State) (f : Cio → Cio) : (s.modCio f).sec = s.sec := rfl
@[simp] theorem State.meter_modCio (s : State) (f : Cio → Cio) : (s.modCio f).meter = s.meter := rfl
@[simp] theorem State.mtrIf_modCio (s : State) (f : Cio → Cio) : (s.modCio f).mtrIf = s.mtrIf := rfl
@[simp] theorem State.boot_modCio (s : State) (f : Cio → Cio) : (s.modCio f).boot = s.boot := rfl
@[simp] theorem State.ps_modCio (s : State) (f : Cio → Cio) : (s.modCio f).ps = s.ps := rfl
@[simp] theorem State.clarn_modCio (s : State) (f : Cio → Cio) : (s.modCio f).clarn = s.clarn := rfl
@[simp] theorem State.row_modCio (s : State) (f : Cio → Cio) : (s.modCio f).row = s.row := rfl
@[simp] theorem State.i3c_modCio (s : State) (f : Cio → Cio) : (s.modCio f).i3c = s.i3c := rfl

/-! ### modRow -/

@[simp] theorem State.pending_modRow (s : State) (f : Row → Row) : (s.modRow f).pending = s.pending := rfl
@[simp] theorem State.free_modRow (s : State) (f : Row → Row) : (s.modRow f).free = s.free := rfl
@[simp] theorem State.up_modRow (s : State) (f : Row → Row) : (s.modRow f).up = s.up := rfl
@[simp] theorem State.timeBase_modRow (s : State) (f : Row → Row) : (s.modRow f).timeBase = s.timeBase := rfl
@[simp] theorem State.regs_modRow (s : State) (f : Row → Row) : (s.modRow f).regs = s.regs := rfl
@[simp] theorem State.irqPulse_modRow (s : State) (f : Row → Row) : (s.modRow f).irqPulse = s.irqPulse := rfl
@[simp] theorem State.evr_modRow (s : State) (f : Row → Row) : (s.modRow f).evr = s.evr := rfl
@[simp] theorem State.out_modRow (s : State) (f : Row → Row) : (s.modRow f).out = s.out := rfl
@[simp] theorem State.store_modRow (s : State) (f : Row → Row) : (s.modRow f).store = s.store := rfl
@[simp] theorem State.storePoison_modRow (s : State) (f : Row → Row) : (s.modRow f).storePoison = s.storePoison := rfl
@[simp] theorem State.ueLines_modRow (s : State) (f : Row → Row) : (s.modRow f).ueLines = s.ueLines := rfl
@[simp] theorem State.patrol_modRow (s : State) (f : Row → Row) : (s.modRow f).patrol = s.patrol := rfl
@[simp] theorem State.tok_modRow (s : State) (f : Row → Row) : (s.modRow f).tok = s.tok := rfl
@[simp] theorem State.tokSig_modRow (s : State) (f : Row → Row) : (s.modRow f).tokSig = s.tokSig := rfl
@[simp] theorem State.waiters_modRow (s : State) (f : Row → Row) : (s.modRow f).waiters = s.waiters := rfl
@[simp] theorem State.granted_modRow (s : State) (f : Row → Row) : (s.modRow f).granted = s.granted := rfl
@[simp] theorem State.tabs_modRow (s : State) (f : Row → Row) : (s.modRow f).tabs = s.tabs := rfl
@[simp] theorem State.vregs_modRow (s : State) (f : Row → Row) : (s.modRow f).vregs = s.vregs := rfl
@[simp] theorem State.rng_modRow (s : State) (f : Row → Row) : (s.modRow f).rng = s.rng := rfl
@[simp] theorem State.engQ_modRow (s : State) (f : Row → Row) : (s.modRow f).engQ = s.engQ := rfl
@[simp] theorem State.bobQ_modRow (s : State) (f : Row → Row) : (s.modRow f).bobQ = s.bobQ := rfl
@[simp] theorem State.replayQ_modRow (s : State) (f : Row → Row) : (s.modRow f).replayQ = s.replayQ := rfl
@[simp] theorem State.parts_modRow (s : State) (f : Row → Row) : (s.modRow f).parts = s.parts := rfl
@[simp] theorem State.rings_modRow (s : State) (f : Row → Row) : (s.modRow f).rings = s.rings := rfl
@[simp] theorem State.cmds_modRow (s : State) (f : Row → Row) : (s.modRow f).cmds = s.cmds := rfl
@[simp] theorem State.mem_modRow (s : State) (f : Row → Row) : (s.modRow f).mem = s.mem := rfl
@[simp] theorem State.memPoison_modRow (s : State) (f : Row → Row) : (s.modRow f).memPoison = s.memPoison := rfl
@[simp] theorem State.pages_modRow (s : State) (f : Row → Row) : (s.modRow f).pages = s.pages := rfl
@[simp] theorem State.convs_modRow (s : State) (f : Row → Row) : (s.modRow f).convs = s.convs := rfl
@[simp] theorem State.keys_modRow (s : State) (f : Row → Row) : (s.modRow f).keys = s.keys := rfl
@[simp] theorem State.modKey_modRow (s : State) (f : Row → Row) : (s.modRow f).modKey = s.modKey := rfl
@[simp] theorem State.zfills_modRow (s : State) (f : Row → Row) : (s.modRow f).zfills = s.zfills := rfl
@[simp] theorem State.memPatrol_modRow (s : State) (f : Row → Row) : (s.modRow f).memPatrol = s.memPatrol := rfl
@[simp] theorem State.rowCe_modRow (s : State) (f : Row → Row) : (s.modRow f).rowCe = s.rowCe := rfl
@[simp] theorem State.spares_modRow (s : State) (f : Row → Row) : (s.modRow f).spares = s.spares := rfl
@[simp] theorem State.rowCopies_modRow (s : State) (f : Row → Row) : (s.modRow f).rowCopies = s.rowCopies := rfl
@[simp] theorem State.loansOut_modRow (s : State) (f : Row → Row) : (s.modRow f).loansOut = s.loansOut := rfl
@[simp] theorem State.offers_modRow (s : State) (f : Row → Row) : (s.modRow f).offers = s.offers := rfl
@[simp] theorem State.asks_modRow (s : State) (f : Row → Row) : (s.modRow f).asks = s.asks := rfl
@[simp] theorem State.fab_modRow (s : State) (f : Row → Row) : (s.modRow f).fab = s.fab := rfl
@[simp] theorem State.wins_modRow (s : State) (f : Row → Row) : (s.modRow f).wins = s.wins := rfl
@[simp] theorem State.afSeen_modRow (s : State) (f : Row → Row) : (s.modRow f).afSeen = s.afSeen := rfl
@[simp] theorem State.pwr_modRow (s : State) (f : Row → Row) : (s.modRow f).pwr = s.pwr := rfl
@[simp] theorem State.nv_modRow (s : State) (f : Row → Row) : (s.modRow f).nv = s.nv := rfl
@[simp] theorem State.mapDue_modRow (s : State) (f : Row → Row) : (s.modRow f).mapDue = s.mapDue := rfl
@[simp] theorem State.bringIns_modRow (s : State) (f : Row → Row) : (s.modRow f).bringIns = s.bringIns := rfl
@[simp] theorem State.qps_modRow (s : State) (f : Row → Row) : (s.modRow f).qps = s.qps := rfl
@[simp] theorem State.ports_modRow (s : State) (f : Row → Row) : (s.modRow f).ports = s.ports := rfl
@[simp] theorem State.kslots_modRow (s : State) (f : Row → Row) : (s.modRow f).kslots = s.kslots := rfl
@[simp] theorem State.deliveries_modRow (s : State) (f : Row → Row) : (s.modRow f).deliveries = s.deliveries := rfl
@[simp] theorem State.conf_modRow (s : State) (f : Row → Row) : (s.modRow f).conf = s.conf := rfl
@[simp] theorem State.sessions_modRow (s : State) (f : Row → Row) : (s.modRow f).sessions = s.sessions := rfl
@[simp] theorem State.beats_modRow (s : State) (f : Row → Row) : (s.modRow f).beats = s.beats := rfl
@[simp] theorem State.mgmt_modRow (s : State) (f : Row → Row) : (s.modRow f).mgmt = s.mgmt := rfl
@[simp] theorem State.owed_modRow (s : State) (f : Row → Row) : (s.modRow f).owed = s.owed := rfl
@[simp] theorem State.timeFrac_modRow (s : State) (f : Row → Row) : (s.modRow f).timeFrac = s.timeFrac := rfl
@[simp] theorem State.timLatch_modRow (s : State) (f : Row → Row) : (s.modRow f).timLatch = s.timLatch := rfl
@[simp] theorem State.cio_modRow (s : State) (f : Row → Row) : (s.modRow f).cio = s.cio := rfl
@[simp] theorem State.cle_modRow (s : State) (f : Row → Row) : (s.modRow f).cle = s.cle := rfl
@[simp] theorem State.sec_modRow (s : State) (f : Row → Row) : (s.modRow f).sec = s.sec := rfl
@[simp] theorem State.meter_modRow (s : State) (f : Row → Row) : (s.modRow f).meter = s.meter := rfl
@[simp] theorem State.mtrIf_modRow (s : State) (f : Row → Row) : (s.modRow f).mtrIf = s.mtrIf := rfl
@[simp] theorem State.boot_modRow (s : State) (f : Row → Row) : (s.modRow f).boot = s.boot := rfl
@[simp] theorem State.ps_modRow (s : State) (f : Row → Row) : (s.modRow f).ps = s.ps := rfl
@[simp] theorem State.clarn_modRow (s : State) (f : Row → Row) : (s.modRow f).clarn = s.clarn := rfl
@[simp] theorem State.i3c_modRow (s : State) (f : Row → Row) : (s.modRow f).i3c = s.i3c := rfl

/-! ### modBoot -/

@[simp] theorem State.pending_modBoot (s : State) (f : Boot → Boot) : (s.modBoot f).pending = s.pending := rfl
@[simp] theorem State.free_modBoot (s : State) (f : Boot → Boot) : (s.modBoot f).free = s.free := rfl
@[simp] theorem State.up_modBoot (s : State) (f : Boot → Boot) : (s.modBoot f).up = s.up := rfl
@[simp] theorem State.timeBase_modBoot (s : State) (f : Boot → Boot) : (s.modBoot f).timeBase = s.timeBase := rfl
@[simp] theorem State.regs_modBoot (s : State) (f : Boot → Boot) : (s.modBoot f).regs = s.regs := rfl
@[simp] theorem State.irqPulse_modBoot (s : State) (f : Boot → Boot) : (s.modBoot f).irqPulse = s.irqPulse := rfl
@[simp] theorem State.evr_modBoot (s : State) (f : Boot → Boot) : (s.modBoot f).evr = s.evr := rfl
@[simp] theorem State.out_modBoot (s : State) (f : Boot → Boot) : (s.modBoot f).out = s.out := rfl
@[simp] theorem State.store_modBoot (s : State) (f : Boot → Boot) : (s.modBoot f).store = s.store := rfl
@[simp] theorem State.storePoison_modBoot (s : State) (f : Boot → Boot) : (s.modBoot f).storePoison = s.storePoison := rfl
@[simp] theorem State.ueLines_modBoot (s : State) (f : Boot → Boot) : (s.modBoot f).ueLines = s.ueLines := rfl
@[simp] theorem State.patrol_modBoot (s : State) (f : Boot → Boot) : (s.modBoot f).patrol = s.patrol := rfl
@[simp] theorem State.tok_modBoot (s : State) (f : Boot → Boot) : (s.modBoot f).tok = s.tok := rfl
@[simp] theorem State.tokSig_modBoot (s : State) (f : Boot → Boot) : (s.modBoot f).tokSig = s.tokSig := rfl
@[simp] theorem State.waiters_modBoot (s : State) (f : Boot → Boot) : (s.modBoot f).waiters = s.waiters := rfl
@[simp] theorem State.granted_modBoot (s : State) (f : Boot → Boot) : (s.modBoot f).granted = s.granted := rfl
@[simp] theorem State.tabs_modBoot (s : State) (f : Boot → Boot) : (s.modBoot f).tabs = s.tabs := rfl
@[simp] theorem State.vregs_modBoot (s : State) (f : Boot → Boot) : (s.modBoot f).vregs = s.vregs := rfl
@[simp] theorem State.rng_modBoot (s : State) (f : Boot → Boot) : (s.modBoot f).rng = s.rng := rfl
@[simp] theorem State.engQ_modBoot (s : State) (f : Boot → Boot) : (s.modBoot f).engQ = s.engQ := rfl
@[simp] theorem State.bobQ_modBoot (s : State) (f : Boot → Boot) : (s.modBoot f).bobQ = s.bobQ := rfl
@[simp] theorem State.replayQ_modBoot (s : State) (f : Boot → Boot) : (s.modBoot f).replayQ = s.replayQ := rfl
@[simp] theorem State.parts_modBoot (s : State) (f : Boot → Boot) : (s.modBoot f).parts = s.parts := rfl
@[simp] theorem State.rings_modBoot (s : State) (f : Boot → Boot) : (s.modBoot f).rings = s.rings := rfl
@[simp] theorem State.cmds_modBoot (s : State) (f : Boot → Boot) : (s.modBoot f).cmds = s.cmds := rfl
@[simp] theorem State.mem_modBoot (s : State) (f : Boot → Boot) : (s.modBoot f).mem = s.mem := rfl
@[simp] theorem State.memPoison_modBoot (s : State) (f : Boot → Boot) : (s.modBoot f).memPoison = s.memPoison := rfl
@[simp] theorem State.pages_modBoot (s : State) (f : Boot → Boot) : (s.modBoot f).pages = s.pages := rfl
@[simp] theorem State.convs_modBoot (s : State) (f : Boot → Boot) : (s.modBoot f).convs = s.convs := rfl
@[simp] theorem State.keys_modBoot (s : State) (f : Boot → Boot) : (s.modBoot f).keys = s.keys := rfl
@[simp] theorem State.modKey_modBoot (s : State) (f : Boot → Boot) : (s.modBoot f).modKey = s.modKey := rfl
@[simp] theorem State.zfills_modBoot (s : State) (f : Boot → Boot) : (s.modBoot f).zfills = s.zfills := rfl
@[simp] theorem State.memPatrol_modBoot (s : State) (f : Boot → Boot) : (s.modBoot f).memPatrol = s.memPatrol := rfl
@[simp] theorem State.rowCe_modBoot (s : State) (f : Boot → Boot) : (s.modBoot f).rowCe = s.rowCe := rfl
@[simp] theorem State.spares_modBoot (s : State) (f : Boot → Boot) : (s.modBoot f).spares = s.spares := rfl
@[simp] theorem State.rowCopies_modBoot (s : State) (f : Boot → Boot) : (s.modBoot f).rowCopies = s.rowCopies := rfl
@[simp] theorem State.loansOut_modBoot (s : State) (f : Boot → Boot) : (s.modBoot f).loansOut = s.loansOut := rfl
@[simp] theorem State.offers_modBoot (s : State) (f : Boot → Boot) : (s.modBoot f).offers = s.offers := rfl
@[simp] theorem State.asks_modBoot (s : State) (f : Boot → Boot) : (s.modBoot f).asks = s.asks := rfl
@[simp] theorem State.fab_modBoot (s : State) (f : Boot → Boot) : (s.modBoot f).fab = s.fab := rfl
@[simp] theorem State.wins_modBoot (s : State) (f : Boot → Boot) : (s.modBoot f).wins = s.wins := rfl
@[simp] theorem State.afSeen_modBoot (s : State) (f : Boot → Boot) : (s.modBoot f).afSeen = s.afSeen := rfl
@[simp] theorem State.pwr_modBoot (s : State) (f : Boot → Boot) : (s.modBoot f).pwr = s.pwr := rfl
@[simp] theorem State.nv_modBoot (s : State) (f : Boot → Boot) : (s.modBoot f).nv = s.nv := rfl
@[simp] theorem State.mapDue_modBoot (s : State) (f : Boot → Boot) : (s.modBoot f).mapDue = s.mapDue := rfl
@[simp] theorem State.bringIns_modBoot (s : State) (f : Boot → Boot) : (s.modBoot f).bringIns = s.bringIns := rfl
@[simp] theorem State.qps_modBoot (s : State) (f : Boot → Boot) : (s.modBoot f).qps = s.qps := rfl
@[simp] theorem State.ports_modBoot (s : State) (f : Boot → Boot) : (s.modBoot f).ports = s.ports := rfl
@[simp] theorem State.kslots_modBoot (s : State) (f : Boot → Boot) : (s.modBoot f).kslots = s.kslots := rfl
@[simp] theorem State.deliveries_modBoot (s : State) (f : Boot → Boot) : (s.modBoot f).deliveries = s.deliveries := rfl
@[simp] theorem State.conf_modBoot (s : State) (f : Boot → Boot) : (s.modBoot f).conf = s.conf := rfl
@[simp] theorem State.sessions_modBoot (s : State) (f : Boot → Boot) : (s.modBoot f).sessions = s.sessions := rfl
@[simp] theorem State.beats_modBoot (s : State) (f : Boot → Boot) : (s.modBoot f).beats = s.beats := rfl
@[simp] theorem State.mgmt_modBoot (s : State) (f : Boot → Boot) : (s.modBoot f).mgmt = s.mgmt := rfl
@[simp] theorem State.owed_modBoot (s : State) (f : Boot → Boot) : (s.modBoot f).owed = s.owed := rfl
@[simp] theorem State.timeFrac_modBoot (s : State) (f : Boot → Boot) : (s.modBoot f).timeFrac = s.timeFrac := rfl
@[simp] theorem State.timLatch_modBoot (s : State) (f : Boot → Boot) : (s.modBoot f).timLatch = s.timLatch := rfl
@[simp] theorem State.cio_modBoot (s : State) (f : Boot → Boot) : (s.modBoot f).cio = s.cio := rfl
@[simp] theorem State.cle_modBoot (s : State) (f : Boot → Boot) : (s.modBoot f).cle = s.cle := rfl
@[simp] theorem State.sec_modBoot (s : State) (f : Boot → Boot) : (s.modBoot f).sec = s.sec := rfl
@[simp] theorem State.meter_modBoot (s : State) (f : Boot → Boot) : (s.modBoot f).meter = s.meter := rfl
@[simp] theorem State.mtrIf_modBoot (s : State) (f : Boot → Boot) : (s.modBoot f).mtrIf = s.mtrIf := rfl
@[simp] theorem State.ps_modBoot (s : State) (f : Boot → Boot) : (s.modBoot f).ps = s.ps := rfl
@[simp] theorem State.clarn_modBoot (s : State) (f : Boot → Boot) : (s.modBoot f).clarn = s.clarn := rfl
@[simp] theorem State.row_modBoot (s : State) (f : Boot → Boot) : (s.modBoot f).row = s.row := rfl
@[simp] theorem State.i3c_modBoot (s : State) (f : Boot → Boot) : (s.modBoot f).i3c = s.i3c := rfl

/-! ### modChan -/

@[simp] theorem State.pending_modChan (s : State) (c : Nat) (f : Chan → Chan) : (s.modChan c f).pending = s.pending := rfl
@[simp] theorem State.free_modChan (s : State) (c : Nat) (f : Chan → Chan) : (s.modChan c f).free = s.free := rfl
@[simp] theorem State.up_modChan (s : State) (c : Nat) (f : Chan → Chan) : (s.modChan c f).up = s.up := rfl
@[simp] theorem State.timeBase_modChan (s : State) (c : Nat) (f : Chan → Chan) : (s.modChan c f).timeBase = s.timeBase := rfl
@[simp] theorem State.regs_modChan (s : State) (c : Nat) (f : Chan → Chan) : (s.modChan c f).regs = s.regs := rfl
@[simp] theorem State.irqPulse_modChan (s : State) (c : Nat) (f : Chan → Chan) : (s.modChan c f).irqPulse = s.irqPulse := rfl
@[simp] theorem State.evr_modChan (s : State) (c : Nat) (f : Chan → Chan) : (s.modChan c f).evr = s.evr := rfl
@[simp] theorem State.out_modChan (s : State) (c : Nat) (f : Chan → Chan) : (s.modChan c f).out = s.out := rfl
@[simp] theorem State.store_modChan (s : State) (c : Nat) (f : Chan → Chan) : (s.modChan c f).store = s.store := rfl
@[simp] theorem State.storePoison_modChan (s : State) (c : Nat) (f : Chan → Chan) : (s.modChan c f).storePoison = s.storePoison := rfl
@[simp] theorem State.ueLines_modChan (s : State) (c : Nat) (f : Chan → Chan) : (s.modChan c f).ueLines = s.ueLines := rfl
@[simp] theorem State.patrol_modChan (s : State) (c : Nat) (f : Chan → Chan) : (s.modChan c f).patrol = s.patrol := rfl
@[simp] theorem State.tok_modChan (s : State) (c : Nat) (f : Chan → Chan) : (s.modChan c f).tok = s.tok := rfl
@[simp] theorem State.tokSig_modChan (s : State) (c : Nat) (f : Chan → Chan) : (s.modChan c f).tokSig = s.tokSig := rfl
@[simp] theorem State.waiters_modChan (s : State) (c : Nat) (f : Chan → Chan) : (s.modChan c f).waiters = s.waiters := rfl
@[simp] theorem State.granted_modChan (s : State) (c : Nat) (f : Chan → Chan) : (s.modChan c f).granted = s.granted := rfl
@[simp] theorem State.tabs_modChan (s : State) (c : Nat) (f : Chan → Chan) : (s.modChan c f).tabs = s.tabs := rfl
@[simp] theorem State.vregs_modChan (s : State) (c : Nat) (f : Chan → Chan) : (s.modChan c f).vregs = s.vregs := rfl
@[simp] theorem State.rng_modChan (s : State) (c : Nat) (f : Chan → Chan) : (s.modChan c f).rng = s.rng := rfl
@[simp] theorem State.engQ_modChan (s : State) (c : Nat) (f : Chan → Chan) : (s.modChan c f).engQ = s.engQ := rfl
@[simp] theorem State.bobQ_modChan (s : State) (c : Nat) (f : Chan → Chan) : (s.modChan c f).bobQ = s.bobQ := rfl
@[simp] theorem State.replayQ_modChan (s : State) (c : Nat) (f : Chan → Chan) : (s.modChan c f).replayQ = s.replayQ := rfl
@[simp] theorem State.parts_modChan (s : State) (c : Nat) (f : Chan → Chan) : (s.modChan c f).parts = s.parts := rfl
@[simp] theorem State.rings_modChan (s : State) (c : Nat) (f : Chan → Chan) : (s.modChan c f).rings = s.rings := rfl
@[simp] theorem State.cmds_modChan (s : State) (c : Nat) (f : Chan → Chan) : (s.modChan c f).cmds = s.cmds := rfl
@[simp] theorem State.mem_modChan (s : State) (c : Nat) (f : Chan → Chan) : (s.modChan c f).mem = s.mem := rfl
@[simp] theorem State.memPoison_modChan (s : State) (c : Nat) (f : Chan → Chan) : (s.modChan c f).memPoison = s.memPoison := rfl
@[simp] theorem State.pages_modChan (s : State) (c : Nat) (f : Chan → Chan) : (s.modChan c f).pages = s.pages := rfl
@[simp] theorem State.convs_modChan (s : State) (c : Nat) (f : Chan → Chan) : (s.modChan c f).convs = s.convs := rfl
@[simp] theorem State.keys_modChan (s : State) (c : Nat) (f : Chan → Chan) : (s.modChan c f).keys = s.keys := rfl
@[simp] theorem State.modKey_modChan (s : State) (c : Nat) (f : Chan → Chan) : (s.modChan c f).modKey = s.modKey := rfl
@[simp] theorem State.zfills_modChan (s : State) (c : Nat) (f : Chan → Chan) : (s.modChan c f).zfills = s.zfills := rfl
@[simp] theorem State.memPatrol_modChan (s : State) (c : Nat) (f : Chan → Chan) : (s.modChan c f).memPatrol = s.memPatrol := rfl
@[simp] theorem State.rowCe_modChan (s : State) (c : Nat) (f : Chan → Chan) : (s.modChan c f).rowCe = s.rowCe := rfl
@[simp] theorem State.spares_modChan (s : State) (c : Nat) (f : Chan → Chan) : (s.modChan c f).spares = s.spares := rfl
@[simp] theorem State.rowCopies_modChan (s : State) (c : Nat) (f : Chan → Chan) : (s.modChan c f).rowCopies = s.rowCopies := rfl
@[simp] theorem State.loansOut_modChan (s : State) (c : Nat) (f : Chan → Chan) : (s.modChan c f).loansOut = s.loansOut := rfl
@[simp] theorem State.offers_modChan (s : State) (c : Nat) (f : Chan → Chan) : (s.modChan c f).offers = s.offers := rfl
@[simp] theorem State.asks_modChan (s : State) (c : Nat) (f : Chan → Chan) : (s.modChan c f).asks = s.asks := rfl
@[simp] theorem State.fab_modChan (s : State) (c : Nat) (f : Chan → Chan) : (s.modChan c f).fab = s.fab := rfl
@[simp] theorem State.wins_modChan (s : State) (c : Nat) (f : Chan → Chan) : (s.modChan c f).wins = s.wins := rfl
@[simp] theorem State.afSeen_modChan (s : State) (c : Nat) (f : Chan → Chan) : (s.modChan c f).afSeen = s.afSeen := rfl
@[simp] theorem State.pwr_modChan (s : State) (c : Nat) (f : Chan → Chan) : (s.modChan c f).pwr = s.pwr := rfl
@[simp] theorem State.nv_modChan (s : State) (c : Nat) (f : Chan → Chan) : (s.modChan c f).nv = s.nv := rfl
@[simp] theorem State.mapDue_modChan (s : State) (c : Nat) (f : Chan → Chan) : (s.modChan c f).mapDue = s.mapDue := rfl
@[simp] theorem State.bringIns_modChan (s : State) (c : Nat) (f : Chan → Chan) : (s.modChan c f).bringIns = s.bringIns := rfl
@[simp] theorem State.qps_modChan (s : State) (c : Nat) (f : Chan → Chan) : (s.modChan c f).qps = s.qps := rfl
@[simp] theorem State.ports_modChan (s : State) (c : Nat) (f : Chan → Chan) : (s.modChan c f).ports = s.ports := rfl
@[simp] theorem State.kslots_modChan (s : State) (c : Nat) (f : Chan → Chan) : (s.modChan c f).kslots = s.kslots := rfl
@[simp] theorem State.deliveries_modChan (s : State) (c : Nat) (f : Chan → Chan) : (s.modChan c f).deliveries = s.deliveries := rfl
@[simp] theorem State.conf_modChan (s : State) (c : Nat) (f : Chan → Chan) : (s.modChan c f).conf = s.conf := rfl
@[simp] theorem State.sessions_modChan (s : State) (c : Nat) (f : Chan → Chan) : (s.modChan c f).sessions = s.sessions := rfl
@[simp] theorem State.beats_modChan (s : State) (c : Nat) (f : Chan → Chan) : (s.modChan c f).beats = s.beats := rfl
@[simp] theorem State.mgmt_modChan (s : State) (c : Nat) (f : Chan → Chan) : (s.modChan c f).mgmt = s.mgmt := rfl
@[simp] theorem State.owed_modChan (s : State) (c : Nat) (f : Chan → Chan) : (s.modChan c f).owed = s.owed := rfl
@[simp] theorem State.timeFrac_modChan (s : State) (c : Nat) (f : Chan → Chan) : (s.modChan c f).timeFrac = s.timeFrac := rfl
@[simp] theorem State.timLatch_modChan (s : State) (c : Nat) (f : Chan → Chan) : (s.modChan c f).timLatch = s.timLatch := rfl
@[simp] theorem State.cio_modChan (s : State) (c : Nat) (f : Chan → Chan) : (s.modChan c f).cio = s.cio := rfl
@[simp] theorem State.cle_modChan (s : State) (c : Nat) (f : Chan → Chan) : (s.modChan c f).cle = s.cle := rfl
@[simp] theorem State.sec_modChan (s : State) (c : Nat) (f : Chan → Chan) : (s.modChan c f).sec = s.sec := rfl
@[simp] theorem State.meter_modChan (s : State) (c : Nat) (f : Chan → Chan) : (s.modChan c f).meter = s.meter := rfl
@[simp] theorem State.mtrIf_modChan (s : State) (c : Nat) (f : Chan → Chan) : (s.modChan c f).mtrIf = s.mtrIf := rfl
@[simp] theorem State.boot_modChan (s : State) (c : Nat) (f : Chan → Chan) : (s.modChan c f).boot = s.boot := rfl
@[simp] theorem State.ps_modChan (s : State) (c : Nat) (f : Chan → Chan) : (s.modChan c f).ps = s.ps := rfl
@[simp] theorem State.row_modChan (s : State) (c : Nat) (f : Chan → Chan) : (s.modChan c f).row = s.row := rfl
@[simp] theorem State.i3c_modChan (s : State) (c : Nat) (f : Chan → Chan) : (s.modChan c f).i3c = s.i3c := rfl

/-! ### modRec -/

@[simp] theorem State.pending_modRec (s : State) (f : RecState → RecState) : (s.modRec f).pending = s.pending := rfl
@[simp] theorem State.free_modRec (s : State) (f : RecState → RecState) : (s.modRec f).free = s.free := rfl
@[simp] theorem State.up_modRec (s : State) (f : RecState → RecState) : (s.modRec f).up = s.up := rfl
@[simp] theorem State.timeBase_modRec (s : State) (f : RecState → RecState) : (s.modRec f).timeBase = s.timeBase := rfl
@[simp] theorem State.regs_modRec (s : State) (f : RecState → RecState) : (s.modRec f).regs = s.regs := rfl
@[simp] theorem State.irqPulse_modRec (s : State) (f : RecState → RecState) : (s.modRec f).irqPulse = s.irqPulse := rfl
@[simp] theorem State.out_modRec (s : State) (f : RecState → RecState) : (s.modRec f).out = s.out := rfl
@[simp] theorem State.store_modRec (s : State) (f : RecState → RecState) : (s.modRec f).store = s.store := rfl
@[simp] theorem State.storePoison_modRec (s : State) (f : RecState → RecState) : (s.modRec f).storePoison = s.storePoison := rfl
@[simp] theorem State.ueLines_modRec (s : State) (f : RecState → RecState) : (s.modRec f).ueLines = s.ueLines := rfl
@[simp] theorem State.patrol_modRec (s : State) (f : RecState → RecState) : (s.modRec f).patrol = s.patrol := rfl
@[simp] theorem State.tok_modRec (s : State) (f : RecState → RecState) : (s.modRec f).tok = s.tok := rfl
@[simp] theorem State.tokSig_modRec (s : State) (f : RecState → RecState) : (s.modRec f).tokSig = s.tokSig := rfl
@[simp] theorem State.waiters_modRec (s : State) (f : RecState → RecState) : (s.modRec f).waiters = s.waiters := rfl
@[simp] theorem State.granted_modRec (s : State) (f : RecState → RecState) : (s.modRec f).granted = s.granted := rfl
@[simp] theorem State.tabs_modRec (s : State) (f : RecState → RecState) : (s.modRec f).tabs = s.tabs := rfl
@[simp] theorem State.vregs_modRec (s : State) (f : RecState → RecState) : (s.modRec f).vregs = s.vregs := rfl
@[simp] theorem State.rng_modRec (s : State) (f : RecState → RecState) : (s.modRec f).rng = s.rng := rfl
@[simp] theorem State.engQ_modRec (s : State) (f : RecState → RecState) : (s.modRec f).engQ = s.engQ := rfl
@[simp] theorem State.bobQ_modRec (s : State) (f : RecState → RecState) : (s.modRec f).bobQ = s.bobQ := rfl
@[simp] theorem State.replayQ_modRec (s : State) (f : RecState → RecState) : (s.modRec f).replayQ = s.replayQ := rfl
@[simp] theorem State.parts_modRec (s : State) (f : RecState → RecState) : (s.modRec f).parts = s.parts := rfl
@[simp] theorem State.rings_modRec (s : State) (f : RecState → RecState) : (s.modRec f).rings = s.rings := rfl
@[simp] theorem State.cmds_modRec (s : State) (f : RecState → RecState) : (s.modRec f).cmds = s.cmds := rfl
@[simp] theorem State.mem_modRec (s : State) (f : RecState → RecState) : (s.modRec f).mem = s.mem := rfl
@[simp] theorem State.memPoison_modRec (s : State) (f : RecState → RecState) : (s.modRec f).memPoison = s.memPoison := rfl
@[simp] theorem State.pages_modRec (s : State) (f : RecState → RecState) : (s.modRec f).pages = s.pages := rfl
@[simp] theorem State.convs_modRec (s : State) (f : RecState → RecState) : (s.modRec f).convs = s.convs := rfl
@[simp] theorem State.keys_modRec (s : State) (f : RecState → RecState) : (s.modRec f).keys = s.keys := rfl
@[simp] theorem State.modKey_modRec (s : State) (f : RecState → RecState) : (s.modRec f).modKey = s.modKey := rfl
@[simp] theorem State.zfills_modRec (s : State) (f : RecState → RecState) : (s.modRec f).zfills = s.zfills := rfl
@[simp] theorem State.memPatrol_modRec (s : State) (f : RecState → RecState) : (s.modRec f).memPatrol = s.memPatrol := rfl
@[simp] theorem State.rowCe_modRec (s : State) (f : RecState → RecState) : (s.modRec f).rowCe = s.rowCe := rfl
@[simp] theorem State.spares_modRec (s : State) (f : RecState → RecState) : (s.modRec f).spares = s.spares := rfl
@[simp] theorem State.rowCopies_modRec (s : State) (f : RecState → RecState) : (s.modRec f).rowCopies = s.rowCopies := rfl
@[simp] theorem State.loansOut_modRec (s : State) (f : RecState → RecState) : (s.modRec f).loansOut = s.loansOut := rfl
@[simp] theorem State.offers_modRec (s : State) (f : RecState → RecState) : (s.modRec f).offers = s.offers := rfl
@[simp] theorem State.asks_modRec (s : State) (f : RecState → RecState) : (s.modRec f).asks = s.asks := rfl
@[simp] theorem State.fab_modRec (s : State) (f : RecState → RecState) : (s.modRec f).fab = s.fab := rfl
@[simp] theorem State.wins_modRec (s : State) (f : RecState → RecState) : (s.modRec f).wins = s.wins := rfl
@[simp] theorem State.afSeen_modRec (s : State) (f : RecState → RecState) : (s.modRec f).afSeen = s.afSeen := rfl
@[simp] theorem State.pwr_modRec (s : State) (f : RecState → RecState) : (s.modRec f).pwr = s.pwr := rfl
@[simp] theorem State.nv_modRec (s : State) (f : RecState → RecState) : (s.modRec f).nv = s.nv := rfl
@[simp] theorem State.mapDue_modRec (s : State) (f : RecState → RecState) : (s.modRec f).mapDue = s.mapDue := rfl
@[simp] theorem State.bringIns_modRec (s : State) (f : RecState → RecState) : (s.modRec f).bringIns = s.bringIns := rfl
@[simp] theorem State.qps_modRec (s : State) (f : RecState → RecState) : (s.modRec f).qps = s.qps := rfl
@[simp] theorem State.ports_modRec (s : State) (f : RecState → RecState) : (s.modRec f).ports = s.ports := rfl
@[simp] theorem State.kslots_modRec (s : State) (f : RecState → RecState) : (s.modRec f).kslots = s.kslots := rfl
@[simp] theorem State.deliveries_modRec (s : State) (f : RecState → RecState) : (s.modRec f).deliveries = s.deliveries := rfl
@[simp] theorem State.conf_modRec (s : State) (f : RecState → RecState) : (s.modRec f).conf = s.conf := rfl
@[simp] theorem State.sessions_modRec (s : State) (f : RecState → RecState) : (s.modRec f).sessions = s.sessions := rfl
@[simp] theorem State.beats_modRec (s : State) (f : RecState → RecState) : (s.modRec f).beats = s.beats := rfl
@[simp] theorem State.mgmt_modRec (s : State) (f : RecState → RecState) : (s.modRec f).mgmt = s.mgmt := rfl
@[simp] theorem State.owed_modRec (s : State) (f : RecState → RecState) : (s.modRec f).owed = s.owed := rfl
@[simp] theorem State.timeFrac_modRec (s : State) (f : RecState → RecState) : (s.modRec f).timeFrac = s.timeFrac := rfl
@[simp] theorem State.timLatch_modRec (s : State) (f : RecState → RecState) : (s.modRec f).timLatch = s.timLatch := rfl
@[simp] theorem State.cio_modRec (s : State) (f : RecState → RecState) : (s.modRec f).cio = s.cio := rfl
@[simp] theorem State.cle_modRec (s : State) (f : RecState → RecState) : (s.modRec f).cle = s.cle := rfl
@[simp] theorem State.sec_modRec (s : State) (f : RecState → RecState) : (s.modRec f).sec = s.sec := rfl
@[simp] theorem State.meter_modRec (s : State) (f : RecState → RecState) : (s.modRec f).meter = s.meter := rfl
@[simp] theorem State.mtrIf_modRec (s : State) (f : RecState → RecState) : (s.modRec f).mtrIf = s.mtrIf := rfl
@[simp] theorem State.boot_modRec (s : State) (f : RecState → RecState) : (s.modRec f).boot = s.boot := rfl
@[simp] theorem State.ps_modRec (s : State) (f : RecState → RecState) : (s.modRec f).ps = s.ps := rfl
@[simp] theorem State.clarn_modRec (s : State) (f : RecState → RecState) : (s.modRec f).clarn = s.clarn := rfl
@[simp] theorem State.row_modRec (s : State) (f : RecState → RecState) : (s.modRec f).row = s.row := rfl
@[simp] theorem State.i3c_modRec (s : State) (f : RecState → RecState) : (s.modRec f).i3c = s.i3c := rfl

/-! ### modMeter -/

@[simp] theorem State.pending_modMeter (s : State) (f : Meter → Meter) : (s.modMeter f).pending = s.pending := rfl
@[simp] theorem State.free_modMeter (s : State) (f : Meter → Meter) : (s.modMeter f).free = s.free := rfl
@[simp] theorem State.up_modMeter (s : State) (f : Meter → Meter) : (s.modMeter f).up = s.up := rfl
@[simp] theorem State.timeBase_modMeter (s : State) (f : Meter → Meter) : (s.modMeter f).timeBase = s.timeBase := rfl
@[simp] theorem State.regs_modMeter (s : State) (f : Meter → Meter) : (s.modMeter f).regs = s.regs := rfl
@[simp] theorem State.irqPulse_modMeter (s : State) (f : Meter → Meter) : (s.modMeter f).irqPulse = s.irqPulse := rfl
@[simp] theorem State.evr_modMeter (s : State) (f : Meter → Meter) : (s.modMeter f).evr = s.evr := rfl
@[simp] theorem State.out_modMeter (s : State) (f : Meter → Meter) : (s.modMeter f).out = s.out := rfl
@[simp] theorem State.store_modMeter (s : State) (f : Meter → Meter) : (s.modMeter f).store = s.store := rfl
@[simp] theorem State.storePoison_modMeter (s : State) (f : Meter → Meter) : (s.modMeter f).storePoison = s.storePoison := rfl
@[simp] theorem State.ueLines_modMeter (s : State) (f : Meter → Meter) : (s.modMeter f).ueLines = s.ueLines := rfl
@[simp] theorem State.patrol_modMeter (s : State) (f : Meter → Meter) : (s.modMeter f).patrol = s.patrol := rfl
@[simp] theorem State.tok_modMeter (s : State) (f : Meter → Meter) : (s.modMeter f).tok = s.tok := rfl
@[simp] theorem State.tokSig_modMeter (s : State) (f : Meter → Meter) : (s.modMeter f).tokSig = s.tokSig := rfl
@[simp] theorem State.waiters_modMeter (s : State) (f : Meter → Meter) : (s.modMeter f).waiters = s.waiters := rfl
@[simp] theorem State.granted_modMeter (s : State) (f : Meter → Meter) : (s.modMeter f).granted = s.granted := rfl
@[simp] theorem State.tabs_modMeter (s : State) (f : Meter → Meter) : (s.modMeter f).tabs = s.tabs := rfl
@[simp] theorem State.vregs_modMeter (s : State) (f : Meter → Meter) : (s.modMeter f).vregs = s.vregs := rfl
@[simp] theorem State.rng_modMeter (s : State) (f : Meter → Meter) : (s.modMeter f).rng = s.rng := rfl
@[simp] theorem State.engQ_modMeter (s : State) (f : Meter → Meter) : (s.modMeter f).engQ = s.engQ := rfl
@[simp] theorem State.bobQ_modMeter (s : State) (f : Meter → Meter) : (s.modMeter f).bobQ = s.bobQ := rfl
@[simp] theorem State.replayQ_modMeter (s : State) (f : Meter → Meter) : (s.modMeter f).replayQ = s.replayQ := rfl
@[simp] theorem State.parts_modMeter (s : State) (f : Meter → Meter) : (s.modMeter f).parts = s.parts := rfl
@[simp] theorem State.rings_modMeter (s : State) (f : Meter → Meter) : (s.modMeter f).rings = s.rings := rfl
@[simp] theorem State.cmds_modMeter (s : State) (f : Meter → Meter) : (s.modMeter f).cmds = s.cmds := rfl
@[simp] theorem State.mem_modMeter (s : State) (f : Meter → Meter) : (s.modMeter f).mem = s.mem := rfl
@[simp] theorem State.memPoison_modMeter (s : State) (f : Meter → Meter) : (s.modMeter f).memPoison = s.memPoison := rfl
@[simp] theorem State.pages_modMeter (s : State) (f : Meter → Meter) : (s.modMeter f).pages = s.pages := rfl
@[simp] theorem State.convs_modMeter (s : State) (f : Meter → Meter) : (s.modMeter f).convs = s.convs := rfl
@[simp] theorem State.keys_modMeter (s : State) (f : Meter → Meter) : (s.modMeter f).keys = s.keys := rfl
@[simp] theorem State.modKey_modMeter (s : State) (f : Meter → Meter) : (s.modMeter f).modKey = s.modKey := rfl
@[simp] theorem State.zfills_modMeter (s : State) (f : Meter → Meter) : (s.modMeter f).zfills = s.zfills := rfl
@[simp] theorem State.memPatrol_modMeter (s : State) (f : Meter → Meter) : (s.modMeter f).memPatrol = s.memPatrol := rfl
@[simp] theorem State.rowCe_modMeter (s : State) (f : Meter → Meter) : (s.modMeter f).rowCe = s.rowCe := rfl
@[simp] theorem State.spares_modMeter (s : State) (f : Meter → Meter) : (s.modMeter f).spares = s.spares := rfl
@[simp] theorem State.rowCopies_modMeter (s : State) (f : Meter → Meter) : (s.modMeter f).rowCopies = s.rowCopies := rfl
@[simp] theorem State.loansOut_modMeter (s : State) (f : Meter → Meter) : (s.modMeter f).loansOut = s.loansOut := rfl
@[simp] theorem State.offers_modMeter (s : State) (f : Meter → Meter) : (s.modMeter f).offers = s.offers := rfl
@[simp] theorem State.asks_modMeter (s : State) (f : Meter → Meter) : (s.modMeter f).asks = s.asks := rfl
@[simp] theorem State.fab_modMeter (s : State) (f : Meter → Meter) : (s.modMeter f).fab = s.fab := rfl
@[simp] theorem State.wins_modMeter (s : State) (f : Meter → Meter) : (s.modMeter f).wins = s.wins := rfl
@[simp] theorem State.afSeen_modMeter (s : State) (f : Meter → Meter) : (s.modMeter f).afSeen = s.afSeen := rfl
@[simp] theorem State.pwr_modMeter (s : State) (f : Meter → Meter) : (s.modMeter f).pwr = s.pwr := rfl
@[simp] theorem State.nv_modMeter (s : State) (f : Meter → Meter) : (s.modMeter f).nv = s.nv := rfl
@[simp] theorem State.mapDue_modMeter (s : State) (f : Meter → Meter) : (s.modMeter f).mapDue = s.mapDue := rfl
@[simp] theorem State.bringIns_modMeter (s : State) (f : Meter → Meter) : (s.modMeter f).bringIns = s.bringIns := rfl
@[simp] theorem State.qps_modMeter (s : State) (f : Meter → Meter) : (s.modMeter f).qps = s.qps := rfl
@[simp] theorem State.ports_modMeter (s : State) (f : Meter → Meter) : (s.modMeter f).ports = s.ports := rfl
@[simp] theorem State.kslots_modMeter (s : State) (f : Meter → Meter) : (s.modMeter f).kslots = s.kslots := rfl
@[simp] theorem State.deliveries_modMeter (s : State) (f : Meter → Meter) : (s.modMeter f).deliveries = s.deliveries := rfl
@[simp] theorem State.conf_modMeter (s : State) (f : Meter → Meter) : (s.modMeter f).conf = s.conf := rfl
@[simp] theorem State.sessions_modMeter (s : State) (f : Meter → Meter) : (s.modMeter f).sessions = s.sessions := rfl
@[simp] theorem State.beats_modMeter (s : State) (f : Meter → Meter) : (s.modMeter f).beats = s.beats := rfl
@[simp] theorem State.mgmt_modMeter (s : State) (f : Meter → Meter) : (s.modMeter f).mgmt = s.mgmt := rfl
@[simp] theorem State.owed_modMeter (s : State) (f : Meter → Meter) : (s.modMeter f).owed = s.owed := rfl
@[simp] theorem State.timeFrac_modMeter (s : State) (f : Meter → Meter) : (s.modMeter f).timeFrac = s.timeFrac := rfl
@[simp] theorem State.timLatch_modMeter (s : State) (f : Meter → Meter) : (s.modMeter f).timLatch = s.timLatch := rfl
@[simp] theorem State.cio_modMeter (s : State) (f : Meter → Meter) : (s.modMeter f).cio = s.cio := rfl
@[simp] theorem State.cle_modMeter (s : State) (f : Meter → Meter) : (s.modMeter f).cle = s.cle := rfl
@[simp] theorem State.sec_modMeter (s : State) (f : Meter → Meter) : (s.modMeter f).sec = s.sec := rfl
@[simp] theorem State.mtrIf_modMeter (s : State) (f : Meter → Meter) : (s.modMeter f).mtrIf = s.mtrIf := rfl
@[simp] theorem State.boot_modMeter (s : State) (f : Meter → Meter) : (s.modMeter f).boot = s.boot := rfl
@[simp] theorem State.ps_modMeter (s : State) (f : Meter → Meter) : (s.modMeter f).ps = s.ps := rfl
@[simp] theorem State.clarn_modMeter (s : State) (f : Meter → Meter) : (s.modMeter f).clarn = s.clarn := rfl
@[simp] theorem State.row_modMeter (s : State) (f : Meter → Meter) : (s.modMeter f).row = s.row := rfl
@[simp] theorem State.i3c_modMeter (s : State) (f : Meter → Meter) : (s.modMeter f).i3c = s.i3c := rfl

/-! ### setRead -/

@[simp] theorem State.pending_setRead (s : State) (k : Nat) (v : Rat) : (s.setRead k v).pending = s.pending := rfl
@[simp] theorem State.free_setRead (s : State) (k : Nat) (v : Rat) : (s.setRead k v).free = s.free := rfl
@[simp] theorem State.up_setRead (s : State) (k : Nat) (v : Rat) : (s.setRead k v).up = s.up := rfl
@[simp] theorem State.timeBase_setRead (s : State) (k : Nat) (v : Rat) : (s.setRead k v).timeBase = s.timeBase := rfl
@[simp] theorem State.regs_setRead (s : State) (k : Nat) (v : Rat) : (s.setRead k v).regs = s.regs := rfl
@[simp] theorem State.irqPulse_setRead (s : State) (k : Nat) (v : Rat) : (s.setRead k v).irqPulse = s.irqPulse := rfl
@[simp] theorem State.evr_setRead (s : State) (k : Nat) (v : Rat) : (s.setRead k v).evr = s.evr := rfl
@[simp] theorem State.out_setRead (s : State) (k : Nat) (v : Rat) : (s.setRead k v).out = s.out := rfl
@[simp] theorem State.store_setRead (s : State) (k : Nat) (v : Rat) : (s.setRead k v).store = s.store := rfl
@[simp] theorem State.storePoison_setRead (s : State) (k : Nat) (v : Rat) : (s.setRead k v).storePoison = s.storePoison := rfl
@[simp] theorem State.ueLines_setRead (s : State) (k : Nat) (v : Rat) : (s.setRead k v).ueLines = s.ueLines := rfl
@[simp] theorem State.patrol_setRead (s : State) (k : Nat) (v : Rat) : (s.setRead k v).patrol = s.patrol := rfl
@[simp] theorem State.tok_setRead (s : State) (k : Nat) (v : Rat) : (s.setRead k v).tok = s.tok := rfl
@[simp] theorem State.tokSig_setRead (s : State) (k : Nat) (v : Rat) : (s.setRead k v).tokSig = s.tokSig := rfl
@[simp] theorem State.waiters_setRead (s : State) (k : Nat) (v : Rat) : (s.setRead k v).waiters = s.waiters := rfl
@[simp] theorem State.granted_setRead (s : State) (k : Nat) (v : Rat) : (s.setRead k v).granted = s.granted := rfl
@[simp] theorem State.tabs_setRead (s : State) (k : Nat) (v : Rat) : (s.setRead k v).tabs = s.tabs := rfl
@[simp] theorem State.vregs_setRead (s : State) (k : Nat) (v : Rat) : (s.setRead k v).vregs = s.vregs := rfl
@[simp] theorem State.rng_setRead (s : State) (k : Nat) (v : Rat) : (s.setRead k v).rng = s.rng := rfl
@[simp] theorem State.engQ_setRead (s : State) (k : Nat) (v : Rat) : (s.setRead k v).engQ = s.engQ := rfl
@[simp] theorem State.bobQ_setRead (s : State) (k : Nat) (v : Rat) : (s.setRead k v).bobQ = s.bobQ := rfl
@[simp] theorem State.replayQ_setRead (s : State) (k : Nat) (v : Rat) : (s.setRead k v).replayQ = s.replayQ := rfl
@[simp] theorem State.parts_setRead (s : State) (k : Nat) (v : Rat) : (s.setRead k v).parts = s.parts := rfl
@[simp] theorem State.rings_setRead (s : State) (k : Nat) (v : Rat) : (s.setRead k v).rings = s.rings := rfl
@[simp] theorem State.cmds_setRead (s : State) (k : Nat) (v : Rat) : (s.setRead k v).cmds = s.cmds := rfl
@[simp] theorem State.mem_setRead (s : State) (k : Nat) (v : Rat) : (s.setRead k v).mem = s.mem := rfl
@[simp] theorem State.memPoison_setRead (s : State) (k : Nat) (v : Rat) : (s.setRead k v).memPoison = s.memPoison := rfl
@[simp] theorem State.pages_setRead (s : State) (k : Nat) (v : Rat) : (s.setRead k v).pages = s.pages := rfl
@[simp] theorem State.convs_setRead (s : State) (k : Nat) (v : Rat) : (s.setRead k v).convs = s.convs := rfl
@[simp] theorem State.keys_setRead (s : State) (k : Nat) (v : Rat) : (s.setRead k v).keys = s.keys := rfl
@[simp] theorem State.modKey_setRead (s : State) (k : Nat) (v : Rat) : (s.setRead k v).modKey = s.modKey := rfl
@[simp] theorem State.zfills_setRead (s : State) (k : Nat) (v : Rat) : (s.setRead k v).zfills = s.zfills := rfl
@[simp] theorem State.memPatrol_setRead (s : State) (k : Nat) (v : Rat) : (s.setRead k v).memPatrol = s.memPatrol := rfl
@[simp] theorem State.rowCe_setRead (s : State) (k : Nat) (v : Rat) : (s.setRead k v).rowCe = s.rowCe := rfl
@[simp] theorem State.spares_setRead (s : State) (k : Nat) (v : Rat) : (s.setRead k v).spares = s.spares := rfl
@[simp] theorem State.rowCopies_setRead (s : State) (k : Nat) (v : Rat) : (s.setRead k v).rowCopies = s.rowCopies := rfl
@[simp] theorem State.loansOut_setRead (s : State) (k : Nat) (v : Rat) : (s.setRead k v).loansOut = s.loansOut := rfl
@[simp] theorem State.offers_setRead (s : State) (k : Nat) (v : Rat) : (s.setRead k v).offers = s.offers := rfl
@[simp] theorem State.asks_setRead (s : State) (k : Nat) (v : Rat) : (s.setRead k v).asks = s.asks := rfl
@[simp] theorem State.fab_setRead (s : State) (k : Nat) (v : Rat) : (s.setRead k v).fab = s.fab := rfl
@[simp] theorem State.wins_setRead (s : State) (k : Nat) (v : Rat) : (s.setRead k v).wins = s.wins := rfl
@[simp] theorem State.afSeen_setRead (s : State) (k : Nat) (v : Rat) : (s.setRead k v).afSeen = s.afSeen := rfl
@[simp] theorem State.pwr_setRead (s : State) (k : Nat) (v : Rat) : (s.setRead k v).pwr = s.pwr := rfl
@[simp] theorem State.nv_setRead (s : State) (k : Nat) (v : Rat) : (s.setRead k v).nv = s.nv := rfl
@[simp] theorem State.mapDue_setRead (s : State) (k : Nat) (v : Rat) : (s.setRead k v).mapDue = s.mapDue := rfl
@[simp] theorem State.bringIns_setRead (s : State) (k : Nat) (v : Rat) : (s.setRead k v).bringIns = s.bringIns := rfl
@[simp] theorem State.qps_setRead (s : State) (k : Nat) (v : Rat) : (s.setRead k v).qps = s.qps := rfl
@[simp] theorem State.ports_setRead (s : State) (k : Nat) (v : Rat) : (s.setRead k v).ports = s.ports := rfl
@[simp] theorem State.kslots_setRead (s : State) (k : Nat) (v : Rat) : (s.setRead k v).kslots = s.kslots := rfl
@[simp] theorem State.deliveries_setRead (s : State) (k : Nat) (v : Rat) : (s.setRead k v).deliveries = s.deliveries := rfl
@[simp] theorem State.conf_setRead (s : State) (k : Nat) (v : Rat) : (s.setRead k v).conf = s.conf := rfl
@[simp] theorem State.sessions_setRead (s : State) (k : Nat) (v : Rat) : (s.setRead k v).sessions = s.sessions := rfl
@[simp] theorem State.beats_setRead (s : State) (k : Nat) (v : Rat) : (s.setRead k v).beats = s.beats := rfl
@[simp] theorem State.mgmt_setRead (s : State) (k : Nat) (v : Rat) : (s.setRead k v).mgmt = s.mgmt := rfl
@[simp] theorem State.owed_setRead (s : State) (k : Nat) (v : Rat) : (s.setRead k v).owed = s.owed := rfl
@[simp] theorem State.timeFrac_setRead (s : State) (k : Nat) (v : Rat) : (s.setRead k v).timeFrac = s.timeFrac := rfl
@[simp] theorem State.timLatch_setRead (s : State) (k : Nat) (v : Rat) : (s.setRead k v).timLatch = s.timLatch := rfl
@[simp] theorem State.cle_setRead (s : State) (k : Nat) (v : Rat) : (s.setRead k v).cle = s.cle := rfl
@[simp] theorem State.sec_setRead (s : State) (k : Nat) (v : Rat) : (s.setRead k v).sec = s.sec := rfl
@[simp] theorem State.meter_setRead (s : State) (k : Nat) (v : Rat) : (s.setRead k v).meter = s.meter := rfl
@[simp] theorem State.mtrIf_setRead (s : State) (k : Nat) (v : Rat) : (s.setRead k v).mtrIf = s.mtrIf := rfl
@[simp] theorem State.boot_setRead (s : State) (k : Nat) (v : Rat) : (s.setRead k v).boot = s.boot := rfl
@[simp] theorem State.ps_setRead (s : State) (k : Nat) (v : Rat) : (s.setRead k v).ps = s.ps := rfl
@[simp] theorem State.clarn_setRead (s : State) (k : Nat) (v : Rat) : (s.setRead k v).clarn = s.clarn := rfl
@[simp] theorem State.row_setRead (s : State) (k : Nat) (v : Rat) : (s.setRead k v).row = s.row := rfl
@[simp] theorem State.i3c_setRead (s : State) (k : Nat) (v : Rat) : (s.setRead k v).i3c = s.i3c := rfl

/-! ### setAct -/

@[simp] theorem State.pending_setAct (s : State) (d : Nat) (v : Rat) : (s.setAct d v).pending = s.pending := rfl
@[simp] theorem State.free_setAct (s : State) (d : Nat) (v : Rat) : (s.setAct d v).free = s.free := rfl
@[simp] theorem State.up_setAct (s : State) (d : Nat) (v : Rat) : (s.setAct d v).up = s.up := rfl
@[simp] theorem State.timeBase_setAct (s : State) (d : Nat) (v : Rat) : (s.setAct d v).timeBase = s.timeBase := rfl
@[simp] theorem State.regs_setAct (s : State) (d : Nat) (v : Rat) : (s.setAct d v).regs = s.regs := rfl
@[simp] theorem State.irqPulse_setAct (s : State) (d : Nat) (v : Rat) : (s.setAct d v).irqPulse = s.irqPulse := rfl
@[simp] theorem State.evr_setAct (s : State) (d : Nat) (v : Rat) : (s.setAct d v).evr = s.evr := rfl
@[simp] theorem State.out_setAct (s : State) (d : Nat) (v : Rat) : (s.setAct d v).out = s.out := rfl
@[simp] theorem State.store_setAct (s : State) (d : Nat) (v : Rat) : (s.setAct d v).store = s.store := rfl
@[simp] theorem State.storePoison_setAct (s : State) (d : Nat) (v : Rat) : (s.setAct d v).storePoison = s.storePoison := rfl
@[simp] theorem State.ueLines_setAct (s : State) (d : Nat) (v : Rat) : (s.setAct d v).ueLines = s.ueLines := rfl
@[simp] theorem State.patrol_setAct (s : State) (d : Nat) (v : Rat) : (s.setAct d v).patrol = s.patrol := rfl
@[simp] theorem State.tok_setAct (s : State) (d : Nat) (v : Rat) : (s.setAct d v).tok = s.tok := rfl
@[simp] theorem State.tokSig_setAct (s : State) (d : Nat) (v : Rat) : (s.setAct d v).tokSig = s.tokSig := rfl
@[simp] theorem State.waiters_setAct (s : State) (d : Nat) (v : Rat) : (s.setAct d v).waiters = s.waiters := rfl
@[simp] theorem State.granted_setAct (s : State) (d : Nat) (v : Rat) : (s.setAct d v).granted = s.granted := rfl
@[simp] theorem State.tabs_setAct (s : State) (d : Nat) (v : Rat) : (s.setAct d v).tabs = s.tabs := rfl
@[simp] theorem State.vregs_setAct (s : State) (d : Nat) (v : Rat) : (s.setAct d v).vregs = s.vregs := rfl
@[simp] theorem State.rng_setAct (s : State) (d : Nat) (v : Rat) : (s.setAct d v).rng = s.rng := rfl
@[simp] theorem State.engQ_setAct (s : State) (d : Nat) (v : Rat) : (s.setAct d v).engQ = s.engQ := rfl
@[simp] theorem State.bobQ_setAct (s : State) (d : Nat) (v : Rat) : (s.setAct d v).bobQ = s.bobQ := rfl
@[simp] theorem State.replayQ_setAct (s : State) (d : Nat) (v : Rat) : (s.setAct d v).replayQ = s.replayQ := rfl
@[simp] theorem State.parts_setAct (s : State) (d : Nat) (v : Rat) : (s.setAct d v).parts = s.parts := rfl
@[simp] theorem State.rings_setAct (s : State) (d : Nat) (v : Rat) : (s.setAct d v).rings = s.rings := rfl
@[simp] theorem State.cmds_setAct (s : State) (d : Nat) (v : Rat) : (s.setAct d v).cmds = s.cmds := rfl
@[simp] theorem State.mem_setAct (s : State) (d : Nat) (v : Rat) : (s.setAct d v).mem = s.mem := rfl
@[simp] theorem State.memPoison_setAct (s : State) (d : Nat) (v : Rat) : (s.setAct d v).memPoison = s.memPoison := rfl
@[simp] theorem State.pages_setAct (s : State) (d : Nat) (v : Rat) : (s.setAct d v).pages = s.pages := rfl
@[simp] theorem State.convs_setAct (s : State) (d : Nat) (v : Rat) : (s.setAct d v).convs = s.convs := rfl
@[simp] theorem State.keys_setAct (s : State) (d : Nat) (v : Rat) : (s.setAct d v).keys = s.keys := rfl
@[simp] theorem State.modKey_setAct (s : State) (d : Nat) (v : Rat) : (s.setAct d v).modKey = s.modKey := rfl
@[simp] theorem State.zfills_setAct (s : State) (d : Nat) (v : Rat) : (s.setAct d v).zfills = s.zfills := rfl
@[simp] theorem State.memPatrol_setAct (s : State) (d : Nat) (v : Rat) : (s.setAct d v).memPatrol = s.memPatrol := rfl
@[simp] theorem State.rowCe_setAct (s : State) (d : Nat) (v : Rat) : (s.setAct d v).rowCe = s.rowCe := rfl
@[simp] theorem State.spares_setAct (s : State) (d : Nat) (v : Rat) : (s.setAct d v).spares = s.spares := rfl
@[simp] theorem State.rowCopies_setAct (s : State) (d : Nat) (v : Rat) : (s.setAct d v).rowCopies = s.rowCopies := rfl
@[simp] theorem State.loansOut_setAct (s : State) (d : Nat) (v : Rat) : (s.setAct d v).loansOut = s.loansOut := rfl
@[simp] theorem State.offers_setAct (s : State) (d : Nat) (v : Rat) : (s.setAct d v).offers = s.offers := rfl
@[simp] theorem State.asks_setAct (s : State) (d : Nat) (v : Rat) : (s.setAct d v).asks = s.asks := rfl
@[simp] theorem State.fab_setAct (s : State) (d : Nat) (v : Rat) : (s.setAct d v).fab = s.fab := rfl
@[simp] theorem State.wins_setAct (s : State) (d : Nat) (v : Rat) : (s.setAct d v).wins = s.wins := rfl
@[simp] theorem State.afSeen_setAct (s : State) (d : Nat) (v : Rat) : (s.setAct d v).afSeen = s.afSeen := rfl
@[simp] theorem State.pwr_setAct (s : State) (d : Nat) (v : Rat) : (s.setAct d v).pwr = s.pwr := rfl
@[simp] theorem State.nv_setAct (s : State) (d : Nat) (v : Rat) : (s.setAct d v).nv = s.nv := rfl
@[simp] theorem State.mapDue_setAct (s : State) (d : Nat) (v : Rat) : (s.setAct d v).mapDue = s.mapDue := rfl
@[simp] theorem State.bringIns_setAct (s : State) (d : Nat) (v : Rat) : (s.setAct d v).bringIns = s.bringIns := rfl
@[simp] theorem State.qps_setAct (s : State) (d : Nat) (v : Rat) : (s.setAct d v).qps = s.qps := rfl
@[simp] theorem State.ports_setAct (s : State) (d : Nat) (v : Rat) : (s.setAct d v).ports = s.ports := rfl
@[simp] theorem State.kslots_setAct (s : State) (d : Nat) (v : Rat) : (s.setAct d v).kslots = s.kslots := rfl
@[simp] theorem State.deliveries_setAct (s : State) (d : Nat) (v : Rat) : (s.setAct d v).deliveries = s.deliveries := rfl
@[simp] theorem State.conf_setAct (s : State) (d : Nat) (v : Rat) : (s.setAct d v).conf = s.conf := rfl
@[simp] theorem State.sessions_setAct (s : State) (d : Nat) (v : Rat) : (s.setAct d v).sessions = s.sessions := rfl
@[simp] theorem State.beats_setAct (s : State) (d : Nat) (v : Rat) : (s.setAct d v).beats = s.beats := rfl
@[simp] theorem State.mgmt_setAct (s : State) (d : Nat) (v : Rat) : (s.setAct d v).mgmt = s.mgmt := rfl
@[simp] theorem State.owed_setAct (s : State) (d : Nat) (v : Rat) : (s.setAct d v).owed = s.owed := rfl
@[simp] theorem State.timeFrac_setAct (s : State) (d : Nat) (v : Rat) : (s.setAct d v).timeFrac = s.timeFrac := rfl
@[simp] theorem State.timLatch_setAct (s : State) (d : Nat) (v : Rat) : (s.setAct d v).timLatch = s.timLatch := rfl
@[simp] theorem State.cio_setAct (s : State) (d : Nat) (v : Rat) : (s.setAct d v).cio = s.cio := rfl
@[simp] theorem State.sec_setAct (s : State) (d : Nat) (v : Rat) : (s.setAct d v).sec = s.sec := rfl
@[simp] theorem State.meter_setAct (s : State) (d : Nat) (v : Rat) : (s.setAct d v).meter = s.meter := rfl
@[simp] theorem State.mtrIf_setAct (s : State) (d : Nat) (v : Rat) : (s.setAct d v).mtrIf = s.mtrIf := rfl
@[simp] theorem State.boot_setAct (s : State) (d : Nat) (v : Rat) : (s.setAct d v).boot = s.boot := rfl
@[simp] theorem State.ps_setAct (s : State) (d : Nat) (v : Rat) : (s.setAct d v).ps = s.ps := rfl
@[simp] theorem State.clarn_setAct (s : State) (d : Nat) (v : Rat) : (s.setAct d v).clarn = s.clarn := rfl
@[simp] theorem State.row_setAct (s : State) (d : Nat) (v : Rat) : (s.setAct d v).row = s.row := rfl
@[simp] theorem State.i3c_setAct (s : State) (d : Nat) (v : Rat) : (s.setAct d v).i3c = s.i3c := rfl

/-! ### storePut -/

@[simp] theorem State.pending_storePut (s : State) (p a : Nat) (l : List Byte) : (s.storePut p a l).pending = s.pending := rfl
@[simp] theorem State.free_storePut (s : State) (p a : Nat) (l : List Byte) : (s.storePut p a l).free = s.free := rfl
@[simp] theorem State.up_storePut (s : State) (p a : Nat) (l : List Byte) : (s.storePut p a l).up = s.up := rfl
@[simp] theorem State.timeBase_storePut (s : State) (p a : Nat) (l : List Byte) : (s.storePut p a l).timeBase = s.timeBase := rfl
@[simp] theorem State.regs_storePut (s : State) (p a : Nat) (l : List Byte) : (s.storePut p a l).regs = s.regs := rfl
@[simp] theorem State.irqPulse_storePut (s : State) (p a : Nat) (l : List Byte) : (s.storePut p a l).irqPulse = s.irqPulse := rfl
@[simp] theorem State.evr_storePut (s : State) (p a : Nat) (l : List Byte) : (s.storePut p a l).evr = s.evr := rfl
@[simp] theorem State.out_storePut (s : State) (p a : Nat) (l : List Byte) : (s.storePut p a l).out = s.out := rfl
@[simp] theorem State.storePoison_storePut (s : State) (p a : Nat) (l : List Byte) : (s.storePut p a l).storePoison = s.storePoison := rfl
@[simp] theorem State.ueLines_storePut (s : State) (p a : Nat) (l : List Byte) : (s.storePut p a l).ueLines = s.ueLines := rfl
@[simp] theorem State.patrol_storePut (s : State) (p a : Nat) (l : List Byte) : (s.storePut p a l).patrol = s.patrol := rfl
@[simp] theorem State.tok_storePut (s : State) (p a : Nat) (l : List Byte) : (s.storePut p a l).tok = s.tok := rfl
@[simp] theorem State.tokSig_storePut (s : State) (p a : Nat) (l : List Byte) : (s.storePut p a l).tokSig = s.tokSig := rfl
@[simp] theorem State.waiters_storePut (s : State) (p a : Nat) (l : List Byte) : (s.storePut p a l).waiters = s.waiters := rfl
@[simp] theorem State.granted_storePut (s : State) (p a : Nat) (l : List Byte) : (s.storePut p a l).granted = s.granted := rfl
@[simp] theorem State.tabs_storePut (s : State) (p a : Nat) (l : List Byte) : (s.storePut p a l).tabs = s.tabs := rfl
@[simp] theorem State.vregs_storePut (s : State) (p a : Nat) (l : List Byte) : (s.storePut p a l).vregs = s.vregs := rfl
@[simp] theorem State.rng_storePut (s : State) (p a : Nat) (l : List Byte) : (s.storePut p a l).rng = s.rng := rfl
@[simp] theorem State.engQ_storePut (s : State) (p a : Nat) (l : List Byte) : (s.storePut p a l).engQ = s.engQ := rfl
@[simp] theorem State.bobQ_storePut (s : State) (p a : Nat) (l : List Byte) : (s.storePut p a l).bobQ = s.bobQ := rfl
@[simp] theorem State.replayQ_storePut (s : State) (p a : Nat) (l : List Byte) : (s.storePut p a l).replayQ = s.replayQ := rfl
@[simp] theorem State.parts_storePut (s : State) (p a : Nat) (l : List Byte) : (s.storePut p a l).parts = s.parts := rfl
@[simp] theorem State.rings_storePut (s : State) (p a : Nat) (l : List Byte) : (s.storePut p a l).rings = s.rings := rfl
@[simp] theorem State.cmds_storePut (s : State) (p a : Nat) (l : List Byte) : (s.storePut p a l).cmds = s.cmds := rfl
@[simp] theorem State.mem_storePut (s : State) (p a : Nat) (l : List Byte) : (s.storePut p a l).mem = s.mem := rfl
@[simp] theorem State.memPoison_storePut (s : State) (p a : Nat) (l : List Byte) : (s.storePut p a l).memPoison = s.memPoison := rfl
@[simp] theorem State.pages_storePut (s : State) (p a : Nat) (l : List Byte) : (s.storePut p a l).pages = s.pages := rfl
@[simp] theorem State.convs_storePut (s : State) (p a : Nat) (l : List Byte) : (s.storePut p a l).convs = s.convs := rfl
@[simp] theorem State.keys_storePut (s : State) (p a : Nat) (l : List Byte) : (s.storePut p a l).keys = s.keys := rfl
@[simp] theorem State.modKey_storePut (s : State) (p a : Nat) (l : List Byte) : (s.storePut p a l).modKey = s.modKey := rfl
@[simp] theorem State.zfills_storePut (s : State) (p a : Nat) (l : List Byte) : (s.storePut p a l).zfills = s.zfills := rfl
@[simp] theorem State.memPatrol_storePut (s : State) (p a : Nat) (l : List Byte) : (s.storePut p a l).memPatrol = s.memPatrol := rfl
@[simp] theorem State.rowCe_storePut (s : State) (p a : Nat) (l : List Byte) : (s.storePut p a l).rowCe = s.rowCe := rfl
@[simp] theorem State.spares_storePut (s : State) (p a : Nat) (l : List Byte) : (s.storePut p a l).spares = s.spares := rfl
@[simp] theorem State.rowCopies_storePut (s : State) (p a : Nat) (l : List Byte) : (s.storePut p a l).rowCopies = s.rowCopies := rfl
@[simp] theorem State.loansOut_storePut (s : State) (p a : Nat) (l : List Byte) : (s.storePut p a l).loansOut = s.loansOut := rfl
@[simp] theorem State.offers_storePut (s : State) (p a : Nat) (l : List Byte) : (s.storePut p a l).offers = s.offers := rfl
@[simp] theorem State.asks_storePut (s : State) (p a : Nat) (l : List Byte) : (s.storePut p a l).asks = s.asks := rfl
@[simp] theorem State.fab_storePut (s : State) (p a : Nat) (l : List Byte) : (s.storePut p a l).fab = s.fab := rfl
@[simp] theorem State.wins_storePut (s : State) (p a : Nat) (l : List Byte) : (s.storePut p a l).wins = s.wins := rfl
@[simp] theorem State.afSeen_storePut (s : State) (p a : Nat) (l : List Byte) : (s.storePut p a l).afSeen = s.afSeen := rfl
@[simp] theorem State.pwr_storePut (s : State) (p a : Nat) (l : List Byte) : (s.storePut p a l).pwr = s.pwr := rfl
@[simp] theorem State.nv_storePut (s : State) (p a : Nat) (l : List Byte) : (s.storePut p a l).nv = s.nv := rfl
@[simp] theorem State.mapDue_storePut (s : State) (p a : Nat) (l : List Byte) : (s.storePut p a l).mapDue = s.mapDue := rfl
@[simp] theorem State.bringIns_storePut (s : State) (p a : Nat) (l : List Byte) : (s.storePut p a l).bringIns = s.bringIns := rfl
@[simp] theorem State.qps_storePut (s : State) (p a : Nat) (l : List Byte) : (s.storePut p a l).qps = s.qps := rfl
@[simp] theorem State.ports_storePut (s : State) (p a : Nat) (l : List Byte) : (s.storePut p a l).ports = s.ports := rfl
@[simp] theorem State.kslots_storePut (s : State) (p a : Nat) (l : List Byte) : (s.storePut p a l).kslots = s.kslots := rfl
@[simp] theorem State.deliveries_storePut (s : State) (p a : Nat) (l : List Byte) : (s.storePut p a l).deliveries = s.deliveries := rfl
@[simp] theorem State.conf_storePut (s : State) (p a : Nat) (l : List Byte) : (s.storePut p a l).conf = s.conf := rfl
@[simp] theorem State.sessions_storePut (s : State) (p a : Nat) (l : List Byte) : (s.storePut p a l).sessions = s.sessions := rfl
@[simp] theorem State.beats_storePut (s : State) (p a : Nat) (l : List Byte) : (s.storePut p a l).beats = s.beats := rfl
@[simp] theorem State.mgmt_storePut (s : State) (p a : Nat) (l : List Byte) : (s.storePut p a l).mgmt = s.mgmt := rfl
@[simp] theorem State.owed_storePut (s : State) (p a : Nat) (l : List Byte) : (s.storePut p a l).owed = s.owed := rfl
@[simp] theorem State.timeFrac_storePut (s : State) (p a : Nat) (l : List Byte) : (s.storePut p a l).timeFrac = s.timeFrac := rfl
@[simp] theorem State.timLatch_storePut (s : State) (p a : Nat) (l : List Byte) : (s.storePut p a l).timLatch = s.timLatch := rfl
@[simp] theorem State.cio_storePut (s : State) (p a : Nat) (l : List Byte) : (s.storePut p a l).cio = s.cio := rfl
@[simp] theorem State.cle_storePut (s : State) (p a : Nat) (l : List Byte) : (s.storePut p a l).cle = s.cle := rfl
@[simp] theorem State.sec_storePut (s : State) (p a : Nat) (l : List Byte) : (s.storePut p a l).sec = s.sec := rfl
@[simp] theorem State.meter_storePut (s : State) (p a : Nat) (l : List Byte) : (s.storePut p a l).meter = s.meter := rfl
@[simp] theorem State.mtrIf_storePut (s : State) (p a : Nat) (l : List Byte) : (s.storePut p a l).mtrIf = s.mtrIf := rfl
@[simp] theorem State.boot_storePut (s : State) (p a : Nat) (l : List Byte) : (s.storePut p a l).boot = s.boot := rfl
@[simp] theorem State.ps_storePut (s : State) (p a : Nat) (l : List Byte) : (s.storePut p a l).ps = s.ps := rfl
@[simp] theorem State.clarn_storePut (s : State) (p a : Nat) (l : List Byte) : (s.storePut p a l).clarn = s.clarn := rfl
@[simp] theorem State.row_storePut (s : State) (p a : Nat) (l : List Byte) : (s.storePut p a l).row = s.row := rfl
@[simp] theorem State.i3c_storePut (s : State) (p a : Nat) (l : List Byte) : (s.storePut p a l).i3c = s.i3c := rfl

/-! ### setLinePoison -/

@[simp] theorem State.pending_setLinePoison (s : State) (p a : Nat) (b : Bool) : (s.setLinePoison p a b).pending = s.pending := rfl
@[simp] theorem State.free_setLinePoison (s : State) (p a : Nat) (b : Bool) : (s.setLinePoison p a b).free = s.free := rfl
@[simp] theorem State.up_setLinePoison (s : State) (p a : Nat) (b : Bool) : (s.setLinePoison p a b).up = s.up := rfl
@[simp] theorem State.timeBase_setLinePoison (s : State) (p a : Nat) (b : Bool) : (s.setLinePoison p a b).timeBase = s.timeBase := rfl
@[simp] theorem State.regs_setLinePoison (s : State) (p a : Nat) (b : Bool) : (s.setLinePoison p a b).regs = s.regs := rfl
@[simp] theorem State.irqPulse_setLinePoison (s : State) (p a : Nat) (b : Bool) : (s.setLinePoison p a b).irqPulse = s.irqPulse := rfl
@[simp] theorem State.evr_setLinePoison (s : State) (p a : Nat) (b : Bool) : (s.setLinePoison p a b).evr = s.evr := rfl
@[simp] theorem State.out_setLinePoison (s : State) (p a : Nat) (b : Bool) : (s.setLinePoison p a b).out = s.out := rfl
@[simp] theorem State.store_setLinePoison (s : State) (p a : Nat) (b : Bool) : (s.setLinePoison p a b).store = s.store := rfl
@[simp] theorem State.ueLines_setLinePoison (s : State) (p a : Nat) (b : Bool) : (s.setLinePoison p a b).ueLines = s.ueLines := rfl
@[simp] theorem State.patrol_setLinePoison (s : State) (p a : Nat) (b : Bool) : (s.setLinePoison p a b).patrol = s.patrol := rfl
@[simp] theorem State.tok_setLinePoison (s : State) (p a : Nat) (b : Bool) : (s.setLinePoison p a b).tok = s.tok := rfl
@[simp] theorem State.tokSig_setLinePoison (s : State) (p a : Nat) (b : Bool) : (s.setLinePoison p a b).tokSig = s.tokSig := rfl
@[simp] theorem State.waiters_setLinePoison (s : State) (p a : Nat) (b : Bool) : (s.setLinePoison p a b).waiters = s.waiters := rfl
@[simp] theorem State.granted_setLinePoison (s : State) (p a : Nat) (b : Bool) : (s.setLinePoison p a b).granted = s.granted := rfl
@[simp] theorem State.tabs_setLinePoison (s : State) (p a : Nat) (b : Bool) : (s.setLinePoison p a b).tabs = s.tabs := rfl
@[simp] theorem State.vregs_setLinePoison (s : State) (p a : Nat) (b : Bool) : (s.setLinePoison p a b).vregs = s.vregs := rfl
@[simp] theorem State.rng_setLinePoison (s : State) (p a : Nat) (b : Bool) : (s.setLinePoison p a b).rng = s.rng := rfl
@[simp] theorem State.engQ_setLinePoison (s : State) (p a : Nat) (b : Bool) : (s.setLinePoison p a b).engQ = s.engQ := rfl
@[simp] theorem State.bobQ_setLinePoison (s : State) (p a : Nat) (b : Bool) : (s.setLinePoison p a b).bobQ = s.bobQ := rfl
@[simp] theorem State.replayQ_setLinePoison (s : State) (p a : Nat) (b : Bool) : (s.setLinePoison p a b).replayQ = s.replayQ := rfl
@[simp] theorem State.parts_setLinePoison (s : State) (p a : Nat) (b : Bool) : (s.setLinePoison p a b).parts = s.parts := rfl
@[simp] theorem State.rings_setLinePoison (s : State) (p a : Nat) (b : Bool) : (s.setLinePoison p a b).rings = s.rings := rfl
@[simp] theorem State.cmds_setLinePoison (s : State) (p a : Nat) (b : Bool) : (s.setLinePoison p a b).cmds = s.cmds := rfl
@[simp] theorem State.mem_setLinePoison (s : State) (p a : Nat) (b : Bool) : (s.setLinePoison p a b).mem = s.mem := rfl
@[simp] theorem State.memPoison_setLinePoison (s : State) (p a : Nat) (b : Bool) : (s.setLinePoison p a b).memPoison = s.memPoison := rfl
@[simp] theorem State.pages_setLinePoison (s : State) (p a : Nat) (b : Bool) : (s.setLinePoison p a b).pages = s.pages := rfl
@[simp] theorem State.convs_setLinePoison (s : State) (p a : Nat) (b : Bool) : (s.setLinePoison p a b).convs = s.convs := rfl
@[simp] theorem State.keys_setLinePoison (s : State) (p a : Nat) (b : Bool) : (s.setLinePoison p a b).keys = s.keys := rfl
@[simp] theorem State.modKey_setLinePoison (s : State) (p a : Nat) (b : Bool) : (s.setLinePoison p a b).modKey = s.modKey := rfl
@[simp] theorem State.zfills_setLinePoison (s : State) (p a : Nat) (b : Bool) : (s.setLinePoison p a b).zfills = s.zfills := rfl
@[simp] theorem State.memPatrol_setLinePoison (s : State) (p a : Nat) (b : Bool) : (s.setLinePoison p a b).memPatrol = s.memPatrol := rfl
@[simp] theorem State.rowCe_setLinePoison (s : State) (p a : Nat) (b : Bool) : (s.setLinePoison p a b).rowCe = s.rowCe := rfl
@[simp] theorem State.spares_setLinePoison (s : State) (p a : Nat) (b : Bool) : (s.setLinePoison p a b).spares = s.spares := rfl
@[simp] theorem State.rowCopies_setLinePoison (s : State) (p a : Nat) (b : Bool) : (s.setLinePoison p a b).rowCopies = s.rowCopies := rfl
@[simp] theorem State.loansOut_setLinePoison (s : State) (p a : Nat) (b : Bool) : (s.setLinePoison p a b).loansOut = s.loansOut := rfl
@[simp] theorem State.offers_setLinePoison (s : State) (p a : Nat) (b : Bool) : (s.setLinePoison p a b).offers = s.offers := rfl
@[simp] theorem State.asks_setLinePoison (s : State) (p a : Nat) (b : Bool) : (s.setLinePoison p a b).asks = s.asks := rfl
@[simp] theorem State.fab_setLinePoison (s : State) (p a : Nat) (b : Bool) : (s.setLinePoison p a b).fab = s.fab := rfl
@[simp] theorem State.wins_setLinePoison (s : State) (p a : Nat) (b : Bool) : (s.setLinePoison p a b).wins = s.wins := rfl
@[simp] theorem State.afSeen_setLinePoison (s : State) (p a : Nat) (b : Bool) : (s.setLinePoison p a b).afSeen = s.afSeen := rfl
@[simp] theorem State.pwr_setLinePoison (s : State) (p a : Nat) (b : Bool) : (s.setLinePoison p a b).pwr = s.pwr := rfl
@[simp] theorem State.nv_setLinePoison (s : State) (p a : Nat) (b : Bool) : (s.setLinePoison p a b).nv = s.nv := rfl
@[simp] theorem State.mapDue_setLinePoison (s : State) (p a : Nat) (b : Bool) : (s.setLinePoison p a b).mapDue = s.mapDue := rfl
@[simp] theorem State.bringIns_setLinePoison (s : State) (p a : Nat) (b : Bool) : (s.setLinePoison p a b).bringIns = s.bringIns := rfl
@[simp] theorem State.qps_setLinePoison (s : State) (p a : Nat) (b : Bool) : (s.setLinePoison p a b).qps = s.qps := rfl
@[simp] theorem State.ports_setLinePoison (s : State) (p a : Nat) (b : Bool) : (s.setLinePoison p a b).ports = s.ports := rfl
@[simp] theorem State.kslots_setLinePoison (s : State) (p a : Nat) (b : Bool) : (s.setLinePoison p a b).kslots = s.kslots := rfl
@[simp] theorem State.deliveries_setLinePoison (s : State) (p a : Nat) (b : Bool) : (s.setLinePoison p a b).deliveries = s.deliveries := rfl
@[simp] theorem State.conf_setLinePoison (s : State) (p a : Nat) (b : Bool) : (s.setLinePoison p a b).conf = s.conf := rfl
@[simp] theorem State.sessions_setLinePoison (s : State) (p a : Nat) (b : Bool) : (s.setLinePoison p a b).sessions = s.sessions := rfl
@[simp] theorem State.beats_setLinePoison (s : State) (p a : Nat) (b : Bool) : (s.setLinePoison p a b).beats = s.beats := rfl
@[simp] theorem State.mgmt_setLinePoison (s : State) (p a : Nat) (b : Bool) : (s.setLinePoison p a b).mgmt = s.mgmt := rfl
@[simp] theorem State.owed_setLinePoison (s : State) (p a : Nat) (b : Bool) : (s.setLinePoison p a b).owed = s.owed := rfl
@[simp] theorem State.timeFrac_setLinePoison (s : State) (p a : Nat) (b : Bool) : (s.setLinePoison p a b).timeFrac = s.timeFrac := rfl
@[simp] theorem State.timLatch_setLinePoison (s : State) (p a : Nat) (b : Bool) : (s.setLinePoison p a b).timLatch = s.timLatch := rfl
@[simp] theorem State.cio_setLinePoison (s : State) (p a : Nat) (b : Bool) : (s.setLinePoison p a b).cio = s.cio := rfl
@[simp] theorem State.cle_setLinePoison (s : State) (p a : Nat) (b : Bool) : (s.setLinePoison p a b).cle = s.cle := rfl
@[simp] theorem State.sec_setLinePoison (s : State) (p a : Nat) (b : Bool) : (s.setLinePoison p a b).sec = s.sec := rfl
@[simp] theorem State.meter_setLinePoison (s : State) (p a : Nat) (b : Bool) : (s.setLinePoison p a b).meter = s.meter := rfl
@[simp] theorem State.mtrIf_setLinePoison (s : State) (p a : Nat) (b : Bool) : (s.setLinePoison p a b).mtrIf = s.mtrIf := rfl
@[simp] theorem State.boot_setLinePoison (s : State) (p a : Nat) (b : Bool) : (s.setLinePoison p a b).boot = s.boot := rfl
@[simp] theorem State.ps_setLinePoison (s : State) (p a : Nat) (b : Bool) : (s.setLinePoison p a b).ps = s.ps := rfl
@[simp] theorem State.clarn_setLinePoison (s : State) (p a : Nat) (b : Bool) : (s.setLinePoison p a b).clarn = s.clarn := rfl
@[simp] theorem State.row_setLinePoison (s : State) (p a : Nat) (b : Bool) : (s.setLinePoison p a b).row = s.row := rfl
@[simp] theorem State.i3c_setLinePoison (s : State) (p a : Nat) (b : Bool) : (s.setLinePoison p a b).i3c = s.i3c := rfl

/-! ### memPut -/

@[simp] theorem State.pending_memPut (s : State) (k a : Nat) (l : List (Option Byte)) : (s.memPut k a l).pending = s.pending := rfl
@[simp] theorem State.free_memPut (s : State) (k a : Nat) (l : List (Option Byte)) : (s.memPut k a l).free = s.free := rfl
@[simp] theorem State.up_memPut (s : State) (k a : Nat) (l : List (Option Byte)) : (s.memPut k a l).up = s.up := rfl
@[simp] theorem State.timeBase_memPut (s : State) (k a : Nat) (l : List (Option Byte)) : (s.memPut k a l).timeBase = s.timeBase := rfl
@[simp] theorem State.regs_memPut (s : State) (k a : Nat) (l : List (Option Byte)) : (s.memPut k a l).regs = s.regs := rfl
@[simp] theorem State.irqPulse_memPut (s : State) (k a : Nat) (l : List (Option Byte)) : (s.memPut k a l).irqPulse = s.irqPulse := rfl
@[simp] theorem State.evr_memPut (s : State) (k a : Nat) (l : List (Option Byte)) : (s.memPut k a l).evr = s.evr := rfl
@[simp] theorem State.out_memPut (s : State) (k a : Nat) (l : List (Option Byte)) : (s.memPut k a l).out = s.out := rfl
@[simp] theorem State.store_memPut (s : State) (k a : Nat) (l : List (Option Byte)) : (s.memPut k a l).store = s.store := rfl
@[simp] theorem State.storePoison_memPut (s : State) (k a : Nat) (l : List (Option Byte)) : (s.memPut k a l).storePoison = s.storePoison := rfl
@[simp] theorem State.ueLines_memPut (s : State) (k a : Nat) (l : List (Option Byte)) : (s.memPut k a l).ueLines = s.ueLines := rfl
@[simp] theorem State.patrol_memPut (s : State) (k a : Nat) (l : List (Option Byte)) : (s.memPut k a l).patrol = s.patrol := rfl
@[simp] theorem State.tok_memPut (s : State) (k a : Nat) (l : List (Option Byte)) : (s.memPut k a l).tok = s.tok := rfl
@[simp] theorem State.tokSig_memPut (s : State) (k a : Nat) (l : List (Option Byte)) : (s.memPut k a l).tokSig = s.tokSig := rfl
@[simp] theorem State.waiters_memPut (s : State) (k a : Nat) (l : List (Option Byte)) : (s.memPut k a l).waiters = s.waiters := rfl
@[simp] theorem State.granted_memPut (s : State) (k a : Nat) (l : List (Option Byte)) : (s.memPut k a l).granted = s.granted := rfl
@[simp] theorem State.tabs_memPut (s : State) (k a : Nat) (l : List (Option Byte)) : (s.memPut k a l).tabs = s.tabs := rfl
@[simp] theorem State.vregs_memPut (s : State) (k a : Nat) (l : List (Option Byte)) : (s.memPut k a l).vregs = s.vregs := rfl
@[simp] theorem State.rng_memPut (s : State) (k a : Nat) (l : List (Option Byte)) : (s.memPut k a l).rng = s.rng := rfl
@[simp] theorem State.engQ_memPut (s : State) (k a : Nat) (l : List (Option Byte)) : (s.memPut k a l).engQ = s.engQ := rfl
@[simp] theorem State.bobQ_memPut (s : State) (k a : Nat) (l : List (Option Byte)) : (s.memPut k a l).bobQ = s.bobQ := rfl
@[simp] theorem State.replayQ_memPut (s : State) (k a : Nat) (l : List (Option Byte)) : (s.memPut k a l).replayQ = s.replayQ := rfl
@[simp] theorem State.parts_memPut (s : State) (k a : Nat) (l : List (Option Byte)) : (s.memPut k a l).parts = s.parts := rfl
@[simp] theorem State.rings_memPut (s : State) (k a : Nat) (l : List (Option Byte)) : (s.memPut k a l).rings = s.rings := rfl
@[simp] theorem State.cmds_memPut (s : State) (k a : Nat) (l : List (Option Byte)) : (s.memPut k a l).cmds = s.cmds := rfl
@[simp] theorem State.memPoison_memPut (s : State) (k a : Nat) (l : List (Option Byte)) : (s.memPut k a l).memPoison = s.memPoison := rfl
@[simp] theorem State.pages_memPut (s : State) (k a : Nat) (l : List (Option Byte)) : (s.memPut k a l).pages = s.pages := rfl
@[simp] theorem State.convs_memPut (s : State) (k a : Nat) (l : List (Option Byte)) : (s.memPut k a l).convs = s.convs := rfl
@[simp] theorem State.keys_memPut (s : State) (k a : Nat) (l : List (Option Byte)) : (s.memPut k a l).keys = s.keys := rfl
@[simp] theorem State.modKey_memPut (s : State) (k a : Nat) (l : List (Option Byte)) : (s.memPut k a l).modKey = s.modKey := rfl
@[simp] theorem State.zfills_memPut (s : State) (k a : Nat) (l : List (Option Byte)) : (s.memPut k a l).zfills = s.zfills := rfl
@[simp] theorem State.memPatrol_memPut (s : State) (k a : Nat) (l : List (Option Byte)) : (s.memPut k a l).memPatrol = s.memPatrol := rfl
@[simp] theorem State.rowCe_memPut (s : State) (k a : Nat) (l : List (Option Byte)) : (s.memPut k a l).rowCe = s.rowCe := rfl
@[simp] theorem State.spares_memPut (s : State) (k a : Nat) (l : List (Option Byte)) : (s.memPut k a l).spares = s.spares := rfl
@[simp] theorem State.rowCopies_memPut (s : State) (k a : Nat) (l : List (Option Byte)) : (s.memPut k a l).rowCopies = s.rowCopies := rfl
@[simp] theorem State.loansOut_memPut (s : State) (k a : Nat) (l : List (Option Byte)) : (s.memPut k a l).loansOut = s.loansOut := rfl
@[simp] theorem State.offers_memPut (s : State) (k a : Nat) (l : List (Option Byte)) : (s.memPut k a l).offers = s.offers := rfl
@[simp] theorem State.asks_memPut (s : State) (k a : Nat) (l : List (Option Byte)) : (s.memPut k a l).asks = s.asks := rfl
@[simp] theorem State.fab_memPut (s : State) (k a : Nat) (l : List (Option Byte)) : (s.memPut k a l).fab = s.fab := rfl
@[simp] theorem State.wins_memPut (s : State) (k a : Nat) (l : List (Option Byte)) : (s.memPut k a l).wins = s.wins := rfl
@[simp] theorem State.afSeen_memPut (s : State) (k a : Nat) (l : List (Option Byte)) : (s.memPut k a l).afSeen = s.afSeen := rfl
@[simp] theorem State.pwr_memPut (s : State) (k a : Nat) (l : List (Option Byte)) : (s.memPut k a l).pwr = s.pwr := rfl
@[simp] theorem State.nv_memPut (s : State) (k a : Nat) (l : List (Option Byte)) : (s.memPut k a l).nv = s.nv := rfl
@[simp] theorem State.mapDue_memPut (s : State) (k a : Nat) (l : List (Option Byte)) : (s.memPut k a l).mapDue = s.mapDue := rfl
@[simp] theorem State.bringIns_memPut (s : State) (k a : Nat) (l : List (Option Byte)) : (s.memPut k a l).bringIns = s.bringIns := rfl
@[simp] theorem State.qps_memPut (s : State) (k a : Nat) (l : List (Option Byte)) : (s.memPut k a l).qps = s.qps := rfl
@[simp] theorem State.ports_memPut (s : State) (k a : Nat) (l : List (Option Byte)) : (s.memPut k a l).ports = s.ports := rfl
@[simp] theorem State.kslots_memPut (s : State) (k a : Nat) (l : List (Option Byte)) : (s.memPut k a l).kslots = s.kslots := rfl
@[simp] theorem State.deliveries_memPut (s : State) (k a : Nat) (l : List (Option Byte)) : (s.memPut k a l).deliveries = s.deliveries := rfl
@[simp] theorem State.conf_memPut (s : State) (k a : Nat) (l : List (Option Byte)) : (s.memPut k a l).conf = s.conf := rfl
@[simp] theorem State.sessions_memPut (s : State) (k a : Nat) (l : List (Option Byte)) : (s.memPut k a l).sessions = s.sessions := rfl
@[simp] theorem State.beats_memPut (s : State) (k a : Nat) (l : List (Option Byte)) : (s.memPut k a l).beats = s.beats := rfl
@[simp] theorem State.mgmt_memPut (s : State) (k a : Nat) (l : List (Option Byte)) : (s.memPut k a l).mgmt = s.mgmt := rfl
@[simp] theorem State.owed_memPut (s : State) (k a : Nat) (l : List (Option Byte)) : (s.memPut k a l).owed = s.owed := rfl
@[simp] theorem State.timeFrac_memPut (s : State) (k a : Nat) (l : List (Option Byte)) : (s.memPut k a l).timeFrac = s.timeFrac := rfl
@[simp] theorem State.timLatch_memPut (s : State) (k a : Nat) (l : List (Option Byte)) : (s.memPut k a l).timLatch = s.timLatch := rfl
@[simp] theorem State.cio_memPut (s : State) (k a : Nat) (l : List (Option Byte)) : (s.memPut k a l).cio = s.cio := rfl
@[simp] theorem State.cle_memPut (s : State) (k a : Nat) (l : List (Option Byte)) : (s.memPut k a l).cle = s.cle := rfl
@[simp] theorem State.sec_memPut (s : State) (k a : Nat) (l : List (Option Byte)) : (s.memPut k a l).sec = s.sec := rfl
@[simp] theorem State.meter_memPut (s : State) (k a : Nat) (l : List (Option Byte)) : (s.memPut k a l).meter = s.meter := rfl
@[simp] theorem State.mtrIf_memPut (s : State) (k a : Nat) (l : List (Option Byte)) : (s.memPut k a l).mtrIf = s.mtrIf := rfl
@[simp] theorem State.boot_memPut (s : State) (k a : Nat) (l : List (Option Byte)) : (s.memPut k a l).boot = s.boot := rfl
@[simp] theorem State.ps_memPut (s : State) (k a : Nat) (l : List (Option Byte)) : (s.memPut k a l).ps = s.ps := rfl
@[simp] theorem State.clarn_memPut (s : State) (k a : Nat) (l : List (Option Byte)) : (s.memPut k a l).clarn = s.clarn := rfl
@[simp] theorem State.row_memPut (s : State) (k a : Nat) (l : List (Option Byte)) : (s.memPut k a l).row = s.row := rfl
@[simp] theorem State.i3c_memPut (s : State) (k a : Nat) (l : List (Option Byte)) : (s.memPut k a l).i3c = s.i3c := rfl

/-! ### setMemPoison -/

@[simp] theorem State.pending_setMemPoison (s : State) (k a : Nat) (b : Bool) : (s.setMemPoison k a b).pending = s.pending := rfl
@[simp] theorem State.free_setMemPoison (s : State) (k a : Nat) (b : Bool) : (s.setMemPoison k a b).free = s.free := rfl
@[simp] theorem State.up_setMemPoison (s : State) (k a : Nat) (b : Bool) : (s.setMemPoison k a b).up = s.up := rfl
@[simp] theorem State.timeBase_setMemPoison (s : State) (k a : Nat) (b : Bool) : (s.setMemPoison k a b).timeBase = s.timeBase := rfl
@[simp] theorem State.regs_setMemPoison (s : State) (k a : Nat) (b : Bool) : (s.setMemPoison k a b).regs = s.regs := rfl
@[simp] theorem State.irqPulse_setMemPoison (s : State) (k a : Nat) (b : Bool) : (s.setMemPoison k a b).irqPulse = s.irqPulse := rfl
@[simp] theorem State.evr_setMemPoison (s : State) (k a : Nat) (b : Bool) : (s.setMemPoison k a b).evr = s.evr := rfl
@[simp] theorem State.out_setMemPoison (s : State) (k a : Nat) (b : Bool) : (s.setMemPoison k a b).out = s.out := rfl
@[simp] theorem State.store_setMemPoison (s : State) (k a : Nat) (b : Bool) : (s.setMemPoison k a b).store = s.store := rfl
@[simp] theorem State.storePoison_setMemPoison (s : State) (k a : Nat) (b : Bool) : (s.setMemPoison k a b).storePoison = s.storePoison := rfl
@[simp] theorem State.ueLines_setMemPoison (s : State) (k a : Nat) (b : Bool) : (s.setMemPoison k a b).ueLines = s.ueLines := rfl
@[simp] theorem State.patrol_setMemPoison (s : State) (k a : Nat) (b : Bool) : (s.setMemPoison k a b).patrol = s.patrol := rfl
@[simp] theorem State.tok_setMemPoison (s : State) (k a : Nat) (b : Bool) : (s.setMemPoison k a b).tok = s.tok := rfl
@[simp] theorem State.tokSig_setMemPoison (s : State) (k a : Nat) (b : Bool) : (s.setMemPoison k a b).tokSig = s.tokSig := rfl
@[simp] theorem State.waiters_setMemPoison (s : State) (k a : Nat) (b : Bool) : (s.setMemPoison k a b).waiters = s.waiters := rfl
@[simp] theorem State.granted_setMemPoison (s : State) (k a : Nat) (b : Bool) : (s.setMemPoison k a b).granted = s.granted := rfl
@[simp] theorem State.tabs_setMemPoison (s : State) (k a : Nat) (b : Bool) : (s.setMemPoison k a b).tabs = s.tabs := rfl
@[simp] theorem State.vregs_setMemPoison (s : State) (k a : Nat) (b : Bool) : (s.setMemPoison k a b).vregs = s.vregs := rfl
@[simp] theorem State.rng_setMemPoison (s : State) (k a : Nat) (b : Bool) : (s.setMemPoison k a b).rng = s.rng := rfl
@[simp] theorem State.engQ_setMemPoison (s : State) (k a : Nat) (b : Bool) : (s.setMemPoison k a b).engQ = s.engQ := rfl
@[simp] theorem State.bobQ_setMemPoison (s : State) (k a : Nat) (b : Bool) : (s.setMemPoison k a b).bobQ = s.bobQ := rfl
@[simp] theorem State.replayQ_setMemPoison (s : State) (k a : Nat) (b : Bool) : (s.setMemPoison k a b).replayQ = s.replayQ := rfl
@[simp] theorem State.parts_setMemPoison (s : State) (k a : Nat) (b : Bool) : (s.setMemPoison k a b).parts = s.parts := rfl
@[simp] theorem State.rings_setMemPoison (s : State) (k a : Nat) (b : Bool) : (s.setMemPoison k a b).rings = s.rings := rfl
@[simp] theorem State.cmds_setMemPoison (s : State) (k a : Nat) (b : Bool) : (s.setMemPoison k a b).cmds = s.cmds := rfl
@[simp] theorem State.mem_setMemPoison (s : State) (k a : Nat) (b : Bool) : (s.setMemPoison k a b).mem = s.mem := rfl
@[simp] theorem State.pages_setMemPoison (s : State) (k a : Nat) (b : Bool) : (s.setMemPoison k a b).pages = s.pages := rfl
@[simp] theorem State.convs_setMemPoison (s : State) (k a : Nat) (b : Bool) : (s.setMemPoison k a b).convs = s.convs := rfl
@[simp] theorem State.keys_setMemPoison (s : State) (k a : Nat) (b : Bool) : (s.setMemPoison k a b).keys = s.keys := rfl
@[simp] theorem State.modKey_setMemPoison (s : State) (k a : Nat) (b : Bool) : (s.setMemPoison k a b).modKey = s.modKey := rfl
@[simp] theorem State.zfills_setMemPoison (s : State) (k a : Nat) (b : Bool) : (s.setMemPoison k a b).zfills = s.zfills := rfl
@[simp] theorem State.memPatrol_setMemPoison (s : State) (k a : Nat) (b : Bool) : (s.setMemPoison k a b).memPatrol = s.memPatrol := rfl
@[simp] theorem State.rowCe_setMemPoison (s : State) (k a : Nat) (b : Bool) : (s.setMemPoison k a b).rowCe = s.rowCe := rfl
@[simp] theorem State.spares_setMemPoison (s : State) (k a : Nat) (b : Bool) : (s.setMemPoison k a b).spares = s.spares := rfl
@[simp] theorem State.rowCopies_setMemPoison (s : State) (k a : Nat) (b : Bool) : (s.setMemPoison k a b).rowCopies = s.rowCopies := rfl
@[simp] theorem State.loansOut_setMemPoison (s : State) (k a : Nat) (b : Bool) : (s.setMemPoison k a b).loansOut = s.loansOut := rfl
@[simp] theorem State.offers_setMemPoison (s : State) (k a : Nat) (b : Bool) : (s.setMemPoison k a b).offers = s.offers := rfl
@[simp] theorem State.asks_setMemPoison (s : State) (k a : Nat) (b : Bool) : (s.setMemPoison k a b).asks = s.asks := rfl
@[simp] theorem State.fab_setMemPoison (s : State) (k a : Nat) (b : Bool) : (s.setMemPoison k a b).fab = s.fab := rfl
@[simp] theorem State.wins_setMemPoison (s : State) (k a : Nat) (b : Bool) : (s.setMemPoison k a b).wins = s.wins := rfl
@[simp] theorem State.afSeen_setMemPoison (s : State) (k a : Nat) (b : Bool) : (s.setMemPoison k a b).afSeen = s.afSeen := rfl
@[simp] theorem State.pwr_setMemPoison (s : State) (k a : Nat) (b : Bool) : (s.setMemPoison k a b).pwr = s.pwr := rfl
@[simp] theorem State.nv_setMemPoison (s : State) (k a : Nat) (b : Bool) : (s.setMemPoison k a b).nv = s.nv := rfl
@[simp] theorem State.mapDue_setMemPoison (s : State) (k a : Nat) (b : Bool) : (s.setMemPoison k a b).mapDue = s.mapDue := rfl
@[simp] theorem State.bringIns_setMemPoison (s : State) (k a : Nat) (b : Bool) : (s.setMemPoison k a b).bringIns = s.bringIns := rfl
@[simp] theorem State.qps_setMemPoison (s : State) (k a : Nat) (b : Bool) : (s.setMemPoison k a b).qps = s.qps := rfl
@[simp] theorem State.ports_setMemPoison (s : State) (k a : Nat) (b : Bool) : (s.setMemPoison k a b).ports = s.ports := rfl
@[simp] theorem State.kslots_setMemPoison (s : State) (k a : Nat) (b : Bool) : (s.setMemPoison k a b).kslots = s.kslots := rfl
@[simp] theorem State.deliveries_setMemPoison (s : State) (k a : Nat) (b : Bool) : (s.setMemPoison k a b).deliveries = s.deliveries := rfl
@[simp] theorem State.conf_setMemPoison (s : State) (k a : Nat) (b : Bool) : (s.setMemPoison k a b).conf = s.conf := rfl
@[simp] theorem State.sessions_setMemPoison (s : State) (k a : Nat) (b : Bool) : (s.setMemPoison k a b).sessions = s.sessions := rfl
@[simp] theorem State.beats_setMemPoison (s : State) (k a : Nat) (b : Bool) : (s.setMemPoison k a b).beats = s.beats := rfl
@[simp] theorem State.mgmt_setMemPoison (s : State) (k a : Nat) (b : Bool) : (s.setMemPoison k a b).mgmt = s.mgmt := rfl
@[simp] theorem State.owed_setMemPoison (s : State) (k a : Nat) (b : Bool) : (s.setMemPoison k a b).owed = s.owed := rfl
@[simp] theorem State.timeFrac_setMemPoison (s : State) (k a : Nat) (b : Bool) : (s.setMemPoison k a b).timeFrac = s.timeFrac := rfl
@[simp] theorem State.timLatch_setMemPoison (s : State) (k a : Nat) (b : Bool) : (s.setMemPoison k a b).timLatch = s.timLatch := rfl
@[simp] theorem State.cio_setMemPoison (s : State) (k a : Nat) (b : Bool) : (s.setMemPoison k a b).cio = s.cio := rfl
@[simp] theorem State.cle_setMemPoison (s : State) (k a : Nat) (b : Bool) : (s.setMemPoison k a b).cle = s.cle := rfl
@[simp] theorem State.sec_setMemPoison (s : State) (k a : Nat) (b : Bool) : (s.setMemPoison k a b).sec = s.sec := rfl
@[simp] theorem State.meter_setMemPoison (s : State) (k a : Nat) (b : Bool) : (s.setMemPoison k a b).meter = s.meter := rfl
@[simp] theorem State.mtrIf_setMemPoison (s : State) (k a : Nat) (b : Bool) : (s.setMemPoison k a b).mtrIf = s.mtrIf := rfl
@[simp] theorem State.boot_setMemPoison (s : State) (k a : Nat) (b : Bool) : (s.setMemPoison k a b).boot = s.boot := rfl
@[simp] theorem State.ps_setMemPoison (s : State) (k a : Nat) (b : Bool) : (s.setMemPoison k a b).ps = s.ps := rfl
@[simp] theorem State.clarn_setMemPoison (s : State) (k a : Nat) (b : Bool) : (s.setMemPoison k a b).clarn = s.clarn := rfl
@[simp] theorem State.row_setMemPoison (s : State) (k a : Nat) (b : Bool) : (s.setMemPoison k a b).row = s.row := rfl
@[simp] theorem State.i3c_setMemPoison (s : State) (k a : Nat) (b : Bool) : (s.setMemPoison k a b).i3c = s.i3c := rfl

end Sys2Proof.Machine
end

