-- ==== Sys2Proof/Tests/Slice0.lean ====
section
/-! SUPPORT.  Tests: ill-formed commands are refused, worked examples of the spec come out as it prints them, a few commands
complete, and the hypotheses of every statement can be met. -/


namespace Sys2Proof.Tests
open Sys2Proof Sys2Proof.Machine
set_option maxRecDepth 100000
set_option Elab.async false

/-! ### Small states -/

/-- Write register fields (field, instance, value). -/
def put (l : List (Fld × Nat × Nat)) (s : State) : State := l.foldl (fun s x => s.wr x.1 x.2.1 x.2.2) s
/-- The reset state with some register fields written. -/
def st (l : List (Fld × Nat × Nat)) : State := put l State.reset
/-- Updates of one part of the state. -/
def pw (f : Pwr → Pwr) (s : State) : State := { s with pwr := f s.pwr }
def bt (f : Boot → Boot) (s : State) : State := { s with boot := f s.boot }
def ci (f : Cio → Cio) (s : State) : State := { s with cio := f s.cio }
def rw' (f : Row → Row) (s : State) : State := { s with row := f s.row }
def cn (f : Clarn → Clarn) (s : State) : State := { s with clarn := f s.clarn }
def ev (f : RecState → RecState) (s : State) : State := { s with evr := f s.evr }
def ct (f : Cle → Cle) (s : State) : State := { s with cle := f s.cle }
def mt (f : Meter → Meter) (s : State) : State := { s with meter := f s.meter }
def fb (f : Fabric → Fabric) (s : State) : State := { s with fab := f s.fab }
def lnk (l : Link) (s : State) : State := fb (fun f => { f with links := [(0, l)] }) s
def withCmd (c : Cmd) (s : State) : State := { s with cmds := [c] }
def withQp (q : Qp) (s : State) : State := { s with qps := [(5, q)] }
/-- Start-up is over. -/
def up6 (l : List (Fld × Nat × Nat)) : State := put ((F.CFG_STAT_STEP, 0, 10) :: l) State.reset
/-- The management firmware answers client 7. -/
def hup (l : List (Fld × Nat × Nat)) : State := { up6 l with sessions := [7] }
/-- All that the flow permit asks for but TRIP_OK. -/
def permits (l : List (Fld × Nat × Nat)) : State :=
  let s := put ([(F.CFG_STAT_FLOW, 0, 1), (F.CIO_LEAK_STAT_STATE, 0, 0)] ++ l) (up6 [])
  { s with cio := { s.cio with reads := [(0x100, ⟨20, 0⟩)] } }
/-- Link 0 of port 0, eight lanes wide, up. -/
def linked (l : List (Fld × Nat × Nat)) : State :=
  st ([(F.FAB_PORT_CFG_EN, 0, 1), (F.FAB_LINK_STAT_STATE, 0, 3), (F.FAB_LANE_STAT_STATE, 0, 2), (F.FAB_LANE_STAT_STATE, 1, 2)] ++ l)
/-- Partition 0 with one frame, queue pair 5 ready on an open data VLAN, and a memory window. -/
def qpair (l : List (Fld × Nat × Nat)) : State :=
  st ([(F.ETH_QP_STAT_STATE, 5, 1), (F.ETH_PORT_STAT_ADM, 0, 3), (F.ETH_VLAN_VALID, 0, 1), (F.ETH_VLAN_CLASS, 0, 1),
    (F.ETH_PART_STATE_STATE, 0, 1), (F.ETH_MW_CTL_VALID, 0, 1), (F.ETH_MW_CTL_RD, 0, 1), (F.ETH_MW_CTL_WR, 0, 1),
    (F.ETH_MW_LEN_UNITS, 0, 1), (F.MEM_PART_SET_VALID, 0, 1), (F.MEM_PART_SET_STACKS, 0, 1), (F.MEM_PART_BASE_VALUE, 0, 1024),
    (F.MEM_PART_FRAMES_VALUE, 0, 1), (F.MEM_STATE_STATE, 0, stReady)] ++ l)
/-- Partition 0 runs with cluster 0 in slot 0 and admits every module. -/
def placed (l : List (Fld × Nat × Nat)) : State :=
  { st ([(F.CLU_STATE_PVALID, 0, 1), (F.CLU_STATE_STATE, 0, 5), (F.CLU_ID_LOGICAL, 0, 0), (F.ETH_PART_STATE_STATE, 0, 2),
      (F.SEC_ADMIT_MOD_VALID, 0, 1), (F.SEC_ADMIT_MOD_HI, 0, 4095), (F.SEC_ADMIT_PART_MASK, 0, 0xFFFF)] ++ l) with
    parts := {run := some ⟨0, 0, []⟩, pats := [⟨1, 1, false, [], [], [], [], [0], []⟩]} :: List.replicate 15 {} }

/-- Operands with one field set or none. -/
def ei : EngInstr := ⟨0, 0, 0, 0, 0, 0, 0, 0, 0, 0, 0, 0, 0, 0, 0⟩
def mkI (opc : Nat) : EngInstr := {ei with opc := BitVec.ofNat 8 opc}
def bd (opc : Nat) : BobDesc := ⟨BitVec.ofNat 8 opc, 0, 0, 0, 0, 0, 0, 0, 0, 1, 0, 0, 0, 0, 0, 0, 0, 0⟩
def pkt0 : Packet := ⟨0, 0, 0, 0, 0, 0, false, false, 0, 0, 0, 0, 0, 0, 0, false, 0, 0, []⟩
def fl0 : Flit := ⟨0, 0, false, 1, 0, 0, 0, true, false, false, List.replicate 244 0, none⟩
def frame0 : EthFrame := ⟨64, false, true, some 0, 0, 0x0800, some true, 1, false, false, 0, []⟩
def rec0 : Rec := ⟨0, 0, 0, 0, 0, 0, 0, 0, 0, 0, false, false, []⟩
def cmd0 (opc : Nat) : Cmd := { ring := 0, seq := 0, entry := List.replicate 64 0, opc := opc, tag := 0, phase := .started }
def coll0 : Coll := { part := 0, id := 0, run := 0, cluster := 3, desc := bd 6, group := [0, 1], rank := 0 }
def req0 : OutReq := { psn := 7, span := 1, read := none, imm := 0, cmd := none }
def adr (r : Reg) (i : Nat) : BitVec 24 := BitVec.ofNat 24 (Reg.addr r i)
/-- The head of an HMP request of client 7. -/
def hx : HmpHead := ⟨7, 0xFFFFFFFF#32, true⟩
def nt : Note := ⟨3, 7⟩
/-- Collectives of partition 0, which admits every module. -/
def colls (l : List Coll) : State :=
  fb (fun f => { f with colls := l })
    (st [(F.SEC_ADMIT_MOD_VALID, 0, 1), (F.SEC_ADMIT_MOD_HI, 0, 4095), (F.SEC_ADMIT_PART_MASK, 0, 0xFFFF)])
/-- A frame in extended FD format of a class, from a node. -/
def fr (cls node : Nat) (data : List Byte) : CanFrame :=
  ⟨true, BitVec.ofNat 29 (classPrio cls * 2 ^ 26 + cls * 2 ^ 20 + node * 2 ^ 13), data⟩

/-! ### Ill-formed commands are refused -/

/-- Whether an outcome is the refusal of an ill-formed command. -/
def isIllFormed : Host.Outcome State Fault Refusal → Bool
  | .refused .illFormed => true
  | _ => false

/-- Every command of a list is ill-formed, and refused as such at reset. -/
def allRefused (l : List Instr) : Bool := l.all fun c => !c.wellFormed && isIllFormed (exec c State.reset)

/-- An engine command refuses an instruction of another opcode. -/
theorem test_engine_opcode_checked : allRefused
    [.nop 0 0 (mkI 1), .mmaOs 0 0 (mkI 2) [], .mmaWs 0 0 (mkI 1) [], .vecEw 0 0 (mkI 0x11) [], .vecRed 0 0 (mkI 0x10) [],
     .vecAct 0 0 (mkI 0x13) [], .vecTload 0 0 (mkI 0x12) [], .vecSoftmax 0 0 (mkI 0x15) [], .vecRecip 0 0 (mkI 0x14) [],
     .quant 0 0 (mkI 0x19) [], .dequant 0 0 (mkI 0x18) [], .gather 0 0 (mkI 0x1B) [], .scatter 0 0 (mkI 0x1A) [],
     .sync 0 0 (mkI 0), .beacon 0 0 (mkI 0x20), .endSeg 0 0 (mkI 0)] = true := by decide +kernel

/-- LEN of 0, a length above 4,096 vectors, an operand that is not line-aligned or ends past the store, a token count of 0, a
global token of 64, RELAX on a vector instruction, and a reserved format are refused. -/
theorem test_engine_operands_checked : allRefused
    [.vecRed 0 0 {mkI 0x11 with fmtAB := 7} [], .vecRed 0 0 {mkI 0x11 with fmtAB := 7, len := 4097} [],
     .vecRed 0 0 {mkI 0x11 with fmtAB := 7, len := 1, addrA := 32} [],
     .vecRed 0 0 {mkI 0x11 with fmtAB := 7, len := 2, addrA := 0x027BFF00} [],
     .nop 0 0 {ei with flags := 8}, .nop 0 0 {ei with flags := 10, waitN := 1, waitTok := 64},
     .vecRed 0 0 {mkI 0x11 with fmtAB := 7, len := 1, flags := 1} [], .vecRed 0 0 {mkI 0x11 with fmtAB := 5, len := 1} []] = true := by
  decide +kernel

/-- A bobbin command refuses a descriptor of another opcode. -/
theorem test_descriptor_opcode_checked : allRefused
    [.bobbinMove 0 0 (bd 2) [] [], .bobbinGather 0 0 (bd 1) [] [], .bobbinScatter 0 0 (bd 2) [] [], .bobbinPut 0 0 (bd 5) [] [],
     .bobbinGet 0 0 (bd 4), .bobbinColl 0 0 (bd 7) [] [], .bobbinSync 0 0 (bd 6), .bobbinEnd 0 0 (bd 1)] = true := by decide +kernel

/-- Whether an outcome is a next state. -/
def isNext : Host.Outcome State Fault Refusal → Bool
  | .next _ => true
  | _ => false

/-- Ordinary operands never end a run: tokens and counts out of range, work in flight of any length, frames of any length and class,
a tachometer period of 0, transfers of any number of words, and addresses of 0 go on. -/
theorem test_ordinary_operands_go_on : ([
    .tokenWait 0 0 true 64 1, .tokenWait 0 0 false 0 0, .tokenSignal 0 true 64 1, .tokenSignal 0 false 0 0,
    .engineFault 0 0 (List.replicate 4 ⟨0, ei, false⟩), .engineHandshakeTimeout 0 0 [⟨0, mkI 0x3E, false⟩],
    .clarnFrameReceive 0 (fr 0 0 (List.replicate 9 0)), .ref 0 (fr 1 0 []), .hb 0 (fr 0 0 []), .modStatus 0 (fr 0 0 []),
    .cadenceWindow (.replicate 68 0), .tachEdge 0 0,
    .i3cPrivateWrite 0 (List.replicate 17 0), .i3cPrivateRead 0 0, .i3cPrivateRead 0 17, .entdaa 0, .setdasa 0 0, .setnewda 0
    ] : List Instr).all (fun c => c.wellFormed && isNext (exec c State.reset)) = true := by
  decide +kernel

/-! ### The spec's worked examples -/

/-- The tile operation encoded after R107. -/
theorem test_tile_operation_encoded :
    ({ei with opc := 1, flags := 0x38, fmtOut := 7, waitTok := 12, waitN := 2, sigTok := 13, sigN := 1, addrB := 0x4800, addrC := 0x9000,
              addrLA := 0xD000, addrLB := 0xD800, len := 16} : EngInstr).bytes =
    [0x01, 0x38, 0x00, 0x07, 0x0C, 0x02, 0x0D, 0x01, 0x00, 0x00, 0x00, 0x00, 0x00, 0x48, 0x00, 0x00,
     0x00, 0x90, 0x00, 0x00, 0x00, 0xD0, 0x00, 0x00, 0x00, 0xD8, 0x00, 0x00, 0x10, 0x00, 0x00, 0x00] := by decide +kernel

/-- The SB4 block quantised after R42, from the SF32 words of its printed inputs. -/
theorem test_sb4_block_quantised : (blkFmt 0).map (fun (f : BlkFmt) =>
    let words := [0x40A66666, 0xC059999A, 0x3F8CCCCD, 0, 0x40266666, 0xBF333333, 0x40800000, 0x3FCCCCCD,
      0x3F333333, 0xBE6147AE, 0x3D4CCCCD, 0x3E9EB852, 0xBEE66666, 0x3E051EB8, 0, 0x3F0F5C29,
      0x40000000, 0, 0, 0, 0, 0, 0, 0, 0x3FA66666, 0, 0, 0, 0, 0, 0, 0]
    let b := writeBlk 0 f (quantBlk 0 f (words.map (fvalOf 23)) ⟨false, 1⟩).1
    (b.take 8, b.drop 16)) = some ([0xD7, 0x02, 0x95, 0x36, 0xC7, 0x41, 0x2E, 0x60], [0x7F, 0x9C]) := by decide +kernel

/-- The chunk of three SB8b pairs after R47: what pair 3 holds below 2^-40 is truncated toward minus infinity. -/
theorem test_chunk_truncates_below_its_accumulator : (blkFmt 4).map (fun (f : BlkFmt) =>
    let b := fun (x c : Nat) => ({ x := x, darts := [0, 0, 0, 0], codes := c :: List.replicate 31 0 } : Blk)
    chunkBlocks 4 f 4 f [(b 137 1, b 127 1), (b 127 0, b 127 0), (b 115 0x81, b 127 1)]) = some (0x347FFFC0, 0) := by decide +kernel

/-- The two orders of adding 2^24, 1 and 1 after R52. -/
theorem test_order_of_additions :
    (addW (addW 0x4B800000 0x3F800000).1 0x3F800000).1 = 0x4B800000 ∧
    (addW 0x4B800000 (addW 0x3F800000 0x3F800000).1).1 = 0x4B800001 := by decide +kernel

/-- Offset 0x12_3456_789A of the partition after R134. -/
theorem test_offset_lands : landOn [0, 2, 5, 7] 40000 0x123456789A = (7, 0x52955989A) := by decide +kernel

/-- The loans of 209,920 frames after R155. -/
theorem test_loans_shared : ((shares 4 [{ module := 5, frames := 131072 }, { module := 9, frames := 200000 }] 209920).map
    fun l => l.map fun x => (x.1, x.2)) = some [(5, 131072), (9, 78848)] := by decide +kernel

/-- The stages of the sample of slot 0 after R292: input scaling, error, proportional term, integral with its residue, and sum. -/
theorem test_slot_sample_stages :
    blockRound [231 / 5, 45] = ([6055526 / 131072, 5898240 / 131072], false) ∧
    oneRound (8 * (157286 / 131072)) = (5033152 / 524288, false) ∧
    integAt (10 + 1 / 128 * (157286 / 131072)) = (5247795 / 524288, 3 / 16 / 524288, false) ∧
    oneRound (5033152 / 524288 + 5247795 / 524288 + 5 / 2 + 41 / 2) = (5584893 / 131072, false) := by decide +kernel

/-- The row's caps after R358, on five training members and one idle one with the example's level. -/
theorem test_row_caps_shared :
    (shareCaps (5 * (1962 + 475 / 1000) + 800) (⟨5, 800, 1⟩ :: (List.range 5).map fun i => ⟨i, 2150, 1⟩)).1 =
    (5, 800) :: (List.range 5).map fun i => (i, 1962 + 475 / 1000) := by decide +kernel

/-- CODE, MASTER and INFO of the wet-rope record after R458. -/
theorem test_wet_rope_record :
    ({rec0 with master := 0x3FF, block := 8, inst := 2, sev := 3} : Rec).back.take 6 = [0xFF, 0x03, 0x00, 0x80, 0x02, 0x30] := by
  decide +kernel

/-! ### A peloton of more than 2,048 modules (R182), for a hypothesis that no short evaluation meets -/

/-- A list without repeats keeps all its entries. -/
theorem eraseDups_nodup : ∀ l : List Nat, l.Nodup → l.eraseDups = l
  | [], _ => rfl
  | a :: t, h => by
    rw [List.eraseDups_cons, List.filter_eq_self.2, eraseDups_nodup t h.of_cons]
    intro b hb
    simp; rintro rfl; exact (List.nodup_cons.1 h).1 hb

/-- The modules a search starts from are among those it reaches. -/
theorem sub_reach (s : State) (l : List Nat) (n : Nat) : l.Sublist (s.reach l n) := by
  induction n generalizing l with
  | zero => exact .refl _
  | succ n ih =>
    simp only [State.reach]
    split
    · exact .refl _
    · exact (List.sublist_append_left ..).trans (ih _)

/-- A peloton of 2,049 modules, all but this one behind module 1. -/
def bigPeloton : State :=
  fb (fun f => {f with topo := (List.range 2048).map fun i => (144, i + 3), mods := (List.range 2049).map fun i => (i + 1, {})})
    (linked [(F.FAB_LINK_PEER_MODULE,0,1)])

/-- What module 1 joins. -/
theorem big_next : bigPeloton.topoNext 1 = (List.range 2048).map (· + 2) := by
  rw [State.topoNext, bigPeloton, fb, List.filterMap_map, ← List.filterMap_eq_map]
  exact List.filterMap_congr fun i _ => by simp

/-- Those modules are reached. -/
theorem big_reach : ((List.range 2048).map (· + 2)).Sublist (bigPeloton.reach bigPeloton.neighbours (bigPeloton.fab.mods.length + 1)) := by
  have hn : bigPeloton.neighbours = [1] := by decide +kernel
  have hf : ((List.range 2048).map (· + 2)).filter (fun m => !([1].elem m)) = (List.range 2048).map (· + 2) := by
    rw [List.filter_eq_self]; simp
  rw [hn, State.reach]
  simp only [List.flatMap_cons, List.flatMap_nil, List.append_nil, big_next, hf]
  rw [eraseDups_nodup _ (by simpa [List.nodup_map_iff] using List.nodup_range.map (by intro a b; simp))]
  split
  · exact absurd (by assumption) (by simp)
  · exact (List.sublist_append_right ..).trans (sub_reach ..)

/-- An entry of a mapped list is found. -/
theorem find_map (v : TopoMod) (m : Nat) : ∀ l : List Nat, m ∈ l → Assoc.find (l.map fun i => (i + 1, v)) (m + 1) = some v
  | a :: t, h => by
    simp only [List.map_cons, Assoc.find]
    split
    · rfl
    · exact find_map v m t ((List.mem_cons.1 h).resolve_left (by omega))

/-- A peloton counts this module and every other one that is reached and in it. -/
theorem peloton_ge (s : State) (L : List Nat) (h : L.Sublist (s.reach s.neighbours (s.fab.mods.length + 1)))
    (h2 : ∀ m ∈ L, m ≠ s.myId) (h3 : ∀ m ∈ L, ∃ t, Assoc.find s.fab.mods m = some t ∧ t.peloton = s.rd F.FAB_TR_ID_PELOTON) :
    L.length < s.pelotonCount := by
  rw [State.pelotonCount, State.reachable, Nat.lt_succ_iff]
  refine le_trans (le_of_eq ?_) (((h.filter _).filter _).length_le)
  have e : L.filter (fun m => m ≠ s.myId) = L := List.filter_eq_self.2 (by simpa using h2)
  rw [e, List.filter_eq_self.2]
  intro m hm
  obtain ⟨t, ht, hp⟩ := h3 m hm
  simp [ht, hp]

/-- It has more than 2,048 modules. -/
theorem bigok : bigPeloton.pelotonBig = true := by
  have h := peloton_ge bigPeloton _ big_reach (by
    have : bigPeloton.myId = 0 := by decide +kernel
    simp [this]) (by
    intro m hm
    obtain ⟨i, hi, rfl⟩ := List.mem_map.1 hm
    exact ⟨{}, find_map {} (i + 1) _ (by simp at hi ⊢; omega), by decide +kernel⟩)
  rw [List.length_map, List.length_range] at h
  exact decide_eq_true h

/-! ### Hypotheses that can be met -/

/-- The hypotheses of ReferenceClockAndTimeBase can be met, clause by clause. -/
theorem test_hypotheses_ReferenceClockAndTimeBase :
    (∃ (s : State), s.flag F.SYS_CLK_BACKUP = false) ∧
    (∃ (s : State), s.flag F.SYS_CLK_BACKUP = true) ∧
    (∃ (s : State), s.flag F.TIM_STAT_LOCKED = false) ∧
    (∃ (s : State), s.flag F.TIM_STAT_LOCKED = true) ∧
    (∃ (s : State), s.nv.counters.length = 2) :=
  ⟨⟨st [], by decide +kernel⟩,
   ⟨st [(F.SYS_CLK_BACKUP,0,1)], by decide +kernel⟩,
   ⟨st [(F.TIM_SET_HI_NS,0,1),(F.TIM_SET_LO_NS,0,0xFFFFFFFF)], by decide +kernel⟩,
   ⟨st [(F.TIM_STAT_LOCKED,0,1)], by decide +kernel⟩,
   ⟨st [], by decide +kernel⟩⟩

/-- The hypotheses of EngineAndClusterFaults can be met, clause by clause. -/
theorem test_hypotheses_EngineAndClusterFaults :
    (∃ (p : Fin 68) (e : Fin 16) (s : State), s.enabled p.val = true ∧ (s.rd F.CLU_ENG_MAP_FAILED p).testBit e = false ∧ s.rd
      F.CLU_ENG_MAP_NFAIL p < 4) ∧
    (∃ (p : Fin 68) (e : Fin 16) (s : State), s.enabled p.val = true ∧ (s.rd F.CLU_ENG_MAP_FAILED p).testBit e = false ∧ s.rd
      F.CLU_ENG_MAP_NFAIL p < 4) ∧
    (∃ (p : Fin 68) (e : Fin 16) (s : State) (r : Replay), s.replayQ.find? (fun r => r.cluster = p.val && r.engine = e.val) = some r ∧ s.enabled
      p.val = true) ∧
    (∃ (p : Fin 68) (s : State), s.enabled p.val = true) ∧
    (∃ (p : Fin 68) (s : State) (b : BringIn), s.bringIns.find? (fun b => b.spare = p.val) = some b ∧ s.pwr.vcore = true) ∧
    (∃ (k : Fin 8) (s : State), s.rd F.MEM_STATE_STATE k ≠ stFailed) :=
  ⟨⟨67, 15, st [(F.CLU_STATE_STATE,67,4)], by decide +kernel⟩,
   ⟨67, 15, st [(F.CLU_STATE_STATE,67,5),(F.CLU_ENG_MAP_NFAIL,67,3)], by decide +kernel⟩,
   ⟨3, 1, {st [(F.CLU_STATE_STATE,3,4)] with replayQ := [⟨3,1,ei⟩]}, ⟨3,1,ei⟩, by decide +kernel⟩,
   ⟨0, st [(F.CLU_STATE_STATE,0,4)], by decide +kernel⟩,
   ⟨64, pw (fun p => {p with vcore := true}) {State.reset with bringIns := [⟨64,2,none⟩]}, ⟨64,2,none⟩, by decide +kernel⟩,
   ⟨8, st [], by decide +kernel⟩⟩

/-- The hypotheses of ClusterTestsMapAndGating can be met, clause by clause. -/
theorem test_hypotheses_ClusterTestsMapAndGating :
    (∃ (s : State), s.pwr.vcore = true) ∧
    (∃ (s : State), s.mapDue = true ∧ s.mgmt.down = false ∧ s.nv.maps.length = 2) ∧
    (∃ (s : State), s.mgmt.down = true) ∧
    (∃ (p : Fin 68) (s : State), s.rd F.PWR_PS_STAT_STATE = 1 ∧ s.enabled p.val = true ∧ ((∀ n, s.partOf p = some n → s.runActive n = false))) ∧
    (∃ (s : State), s.rd F.PWR_PS_STAT_STATE ≠ 1) :=
  ⟨⟨{State.reset with pwr := {State.reset.pwr with vcore := true}}, by decide +kernel⟩,
   ⟨{State.reset with mapDue := true}, by decide +kernel⟩,
   ⟨{State.reset with mapDue := true, mgmt := {State.reset.mgmt with down := true}}, by decide +kernel⟩,
   ⟨5, st [(F.PWR_PS_STAT_STATE,0,1),(F.CLU_STATE_STATE,5,4)], by decide +kernel⟩,
   ⟨st [(F.PWR_PS_STAT_STATE,0,3)], by decide +kernel⟩⟩

/-- The hypotheses of GearsAndTheFastLimiter can be met, clause by clause. -/
theorem test_hypotheses_GearsAndTheFastLimiter :
    (∃ (mv : BitVec 12) (s : State), s.pwr.vcore = true ∧ s.pwr.tested = true ∧ s.pwr.retention = false ∧ s.flag F.PWR_GEAR_STAT_SLEW = false ∧
      mv.toNat = s.pwr.mv ∧ gearOf s.level ≠ s.pwr.goal) ∧
    (∃ (s : State) (b : Bool), s.flag F.PWR_GEAR_STAT_SLEW = true ∧ (s.nextStop s.pwr.mv s.pwr.goal).2 = some b) ∧
    (∃ (s : State), s.flag F.PWR_GEAR_STAT_SLEW = true ∧ (s.nextStop s.pwr.mv s.pwr.goal).2 = none ∧ s.pwr.goal < 16) ∧
    (∃ (s : State), s.pwr.vcore = true) ∧
    (∃ (s : State), s.pwr.forced = true ∧ s.flag F.PWR_GEAR_STAT_SLEW = false) ∧
    (∃ (s : State) (h : Nat), s.pwr.hold = some h) :=
  ⟨⟨600, {State.reset with pwr := {State.reset.pwr with vcore := true, tested := true, retention := false, mv := 600, goal := 4}},
      by decide +kernel⟩,
   ⟨{st [(F.PWR_GEAR_STAT_SLEW,0,1)] with pwr := {State.reset.pwr with vcore := true, mv := 600, goal := 12}}, true, by decide +kernel⟩,
   ⟨{st [(F.PWR_GEAR_STAT_SLEW,0,1),(F.PWR_GEAR_STAT_ASSIST,0,1)] with pwr := {State.reset.pwr with vcore := true, mv := 600, goal := 3}},
      by decide +kernel⟩,
   ⟨{State.reset with pwr := {State.reset.pwr with vcore := true}}, by decide +kernel⟩,
   ⟨{State.reset with pwr := {State.reset.pwr with forced := true}}, by decide +kernel⟩,
   ⟨{State.reset with pwr := {State.reset.pwr with hold := some 4}}, 4, by decide +kernel⟩⟩

/-- The hypotheses of CadencePowerCapAndTemperature can be met, clause by clause. -/
theorem test_hypotheses_CadencePowerCapAndTemperature :
    (∃ (s : State), s.pwr.vcore = false) ∧
    (∃ (s : State), s.pwr.vcore = true ∧ s.pwr.retention = false) ∧
    (∃ (s : State), s.rd F.PWR_GEAR_STAT_CEIL = 0 ∧ 102 * s.rd F.PWR_CAP_EFF_WATTS < 100 * s.rd F.PWR_INPUT_P_1S) :=
  ⟨⟨pw (fun p => {p with vcore := false}) State.reset, by decide +kernel⟩,
   ⟨pw (fun p => {p with vcore := true}) (st [(F.CLU_STATE_STATE,67,4)]), by decide +kernel⟩,
   ⟨st [(F.PWR_CAP_EFF_WATTS,0,100),(F.PWR_INPUT_P_1S,0,103)], by decide +kernel⟩⟩

/-- The hypotheses of ThermalTripAndRestart can be met, clause by clause. -/
theorem test_hypotheses_ThermalTripAndRestart :
    (∃ (s : State), s.flag F.PWR_TRIP_TRIPPED = false) ∧
    (∃ (s : State), s.flag F.PWR_TRIP_TRIPPED = true) ∧
    (∃ (s : State), s.flag F.PWR_TRIP_TRIPPED = true ∧ s.flag F.PWR_TRIP_REARM = true ∧ s.rd F.PWR_TJ_MAX < 640 ∧ s.permitBut = true) ∧
    (∃ (s : State), (¬ (s.flag F.PWR_TRIP_REARM = true ∧ s.rd F.PWR_TJ_MAX < 640 ∧ s.permitBut = true))) :=
  ⟨⟨{State.reset with pwr := {State.reset.pwr with vcore := true}}, by decide +kernel⟩,
   ⟨st [(F.PWR_TRIP_TRIPPED,0,1)], by decide +kernel⟩,
   ⟨permits [(F.PWR_TRIP_TRIPPED,0,1),(F.PWR_TRIP_REARM,0,1),(F.PWR_TJ_MAX,0,639)], by decide +kernel⟩,
   ⟨st [(F.PWR_TRIP_REARM,0,1),(F.PWR_TJ_MAX,0,640)], by decide +kernel⟩⟩

/-- The hypotheses of PowerStateRequestsAndVotes can be met, clause by clause. -/
theorem test_hypotheses_PowerStateRequestsAndVotes :
    (∃ (s : State), s.psState = psStandby ∧ s.allAwake = true ∧ s.flag F.PWR_PS_STAT_PEND = false) ∧
    (∃ (s : State), s.psState = psRun ∧ s.flag F.PWR_PS_STAT_PEND = false) ∧
    (∃ (s : State), s.psState = psTrim ∧ s.flag F.PWR_PS_STAT_PEND = false) ∧
    (∃ (s : State), s.psState ≤ psTrim ∧ s.votes = 0 ∧ s.flag F.PWR_PS_STAT_PEND = false) ∧
    (∃ (s : State), s.psState ≤ psTrim ∧ s.votes ≠ 0 ∧ s.flag F.PWR_PS_STAT_PEND = false) ∧
    (∃ (s : State), s.psState = psStandby ∧ s.votes = 0 ∧ s.flag F.PWR_PS_STAT_PEND = false) ∧
    (∃ (s : State), s.psState ≤ psTrim ∧ s.flag F.PWR_PS_STAT_PEND = false) ∧
    (∃ (s : State), s.flag F.PWR_PS_CFG_AUTO = true ∧ s.votes = 0 ∧ s.psState ≤ psTrim ∧ s.flag F.PWR_PS_STAT_PEND = false) ∧
    (∃ (s : State), s.psState = psEntering ∧ s.rd F.PWR_PS_STAT_POINT = 3 ∧ s.ps.abort = 0 ∧ s.flag F.PWR_PS_STAT_PEND = false ∧ s.votes = 0) ∧
    (∃ (s : State), s.psState = psEntering ∧ s.rd F.PWR_PS_STAT_POINT = 5 ∧ s.ps.wake = false ∧ s.flag F.PWR_PS_STAT_PEND = false ∧ s.votes = 0) ∧
    (∃ (s : State), s.psState = psEntering ∧ s.rd F.PWR_PS_STAT_POINT = 4 ∧ (s.rd F.PWR_HS_STAT_WAITING).testBit 5 = true) ∧
    (∃ (s : State), s.psState = psEntering ∧ s.rd F.PWR_PS_STAT_POINT = 4 ∧ s.rd F.PWR_HS_STAT_WAITING = 0x80 ∧ s.votes = 0 ∧ s.flag
      F.PWR_PS_STAT_PEND = false) ∧
    (∃ (s : State), s.psState = psWaking ∧ s.psTgt = psStandby ∧ s.votes = 0 ∧ s.flag F.PWR_PS_STAT_PEND = false) ∧
    (∃ (k : Fin 9) (s : State), k.val < 8 ∧ s.psState = psWaking ∧ s.psTgt ≤ psTrim ∧ s.ps.abort = 0 ∧ s.rd F.MEM_STATE_STATE k = 3 ∧
      s.pwr.retention = false ∧ ((∀ j < 8, j ≠ k.val → s.rd F.MEM_STATE_STATE j ≠ 3)) ∧ s.flag F.PWR_PS_STAT_PEND = false) ∧
    (∃ (s : State), s.psState = psStandby ∧ s.votes = 0 ∧ s.flag F.PWR_PS_STAT_CORE_AWAKE = true ∧ s.pwr.vcore = true) ∧
    (∃ (s : State), s.psState = psFreewheel) :=
  ⟨⟨st [(F.PWR_PS_STAT_STATE,0,psStandby)], by decide +kernel⟩,
   ⟨st [(F.PWR_PS_STAT_STATE,0,psRun)], by decide +kernel⟩,
   ⟨st [(F.PWR_PS_STAT_STATE,0,psTrim)], by decide +kernel⟩,
   ⟨st [(F.PWR_PS_STAT_STATE,0,psTrim)], by decide +kernel⟩,
   ⟨st [(F.PWR_PS_STAT_STATE,0,psTrim),(F.PWR_VOTE_HOLD,0,1)], by decide +kernel⟩,
   ⟨st [(F.PWR_PS_STAT_STATE,0,psStandby)], by decide +kernel⟩,
   ⟨st [(F.PWR_PS_STAT_STATE,0,psTrim)], by decide +kernel⟩,
   ⟨st [(F.PWR_PS_STAT_STATE,0,psTrim),(F.PWR_PS_CFG_AUTO,0,1)], by decide +kernel⟩,
   ⟨st [(F.PWR_PS_STAT_STATE,0,psEntering),(F.PWR_PS_STAT_TGT,0,psStandby),(F.PWR_PS_STAT_POINT,0,3),(F.MEM_STATE_STATE,7,stReady)],
      by decide +kernel⟩,
   ⟨st [(F.PWR_PS_STAT_STATE,0,psEntering),(F.PWR_PS_STAT_TGT,0,psFreewheel),(F.PWR_PS_STAT_POINT,0,5),(F.CIO_STAT_VPERI,0,1)],
      by decide +kernel⟩,
   ⟨st [(F.PWR_PS_STAT_STATE,0,psEntering),(F.PWR_PS_STAT_TGT,0,psFreewheel),(F.PWR_PS_STAT_POINT,0,4),(F.PWR_HS_STAT_WAITING,0,0xFF)],
      by decide +kernel⟩,
   ⟨st [(F.PWR_PS_STAT_STATE,0,psEntering),(F.PWR_PS_STAT_TGT,0,psFreewheel),(F.PWR_PS_STAT_POINT,0,4),(F.PWR_HS_STAT_WAITING,0,0x80)],
      by decide +kernel⟩,
   ⟨st [(F.PWR_PS_STAT_STATE,0,psWaking),(F.PWR_PS_STAT_TGT,0,psStandby)], by decide +kernel⟩,
   ⟨7, st [(F.PWR_PS_STAT_STATE,0,psWaking),(F.PWR_PS_STAT_TGT,0,psTrim),(F.MEM_STATE_STATE,7,3)], by decide +kernel⟩,
   ⟨pw (fun p => {p with vcore := true}) (st [(F.PWR_PS_STAT_STATE,0,psStandby),(F.PWR_PS_STAT_CORE_AWAKE,0,1)]), by decide +kernel⟩,
   ⟨st [(F.PWR_PS_STAT_STATE,0,psFreewheel)], by decide +kernel⟩⟩

/-- The hypotheses of EntryHandshakeAndWake can be met, clause by clause. -/
theorem test_hypotheses_EntryHandshakeAndWake :
    (∃ (s : State), s.psState = psEntering ∧ s.rd F.PWR_PS_STAT_POINT = 1 ∧ s.ps.abort = 0) ∧
    (∃ (s : State), s.psState = psEntering ∧ s.rd F.PWR_PS_STAT_POINT = 2 ∧ s.ps.abort = 0 ∧ s.pwr.vcore = true) ∧
    (∃ (s : State), s.psState = psEntering ∧ s.rd F.PWR_PS_STAT_POINT = 4 ∧ s.rd F.PWR_HS_STAT_WAITING = 0 ∧ s.ps.abort = 0) ∧
    (∃ (c : Fin 8) (s : State), s.psState = psEntering ∧ s.rd F.PWR_PS_STAT_POINT = 4 ∧ (s.rd F.PWR_HS_STAT_WAITING).testBit c = true ∧ (((c = 0
      ∧ s.reg .CLE_SLOT_FAULT 0 = 0 ∧ ∀ k < 32, s.flag F.CLE_SLOT_STAT_MOVING k = false) ∨ (c = 1 ∧ s.rd F.ROW_CFG_ROLE = 0) ∨ (c = 2 ∧
      s.zfills = []) ∨ (c = 3 ∧ ∀ n < 16, s.pstate n ≠ 4) ∨ (c = 4 ∧ s.evr.buf = [] ∧ s.evr.chg = []) ∨ c = 5 ∨ (c = 6 ∧ s.owed = []) ∨ (c =
      7 ∧ s.mgmt.down = false)))) ∧
    (∃ (c : Fin 8) (s : State), (((c = 2 ∧ s.zfills ≠ []) ∨ (c = 3 ∧ ∃ n < 16, s.pstate n = 4) ∨ (c = 4 ∧ (s.evr.buf ≠ [] ∨ s.evr.chg ≠ [])) ∨
      (c = 6 ∧ s.owed ≠ []) ∨ (c = 7 ∧ s.mgmt.down = true)))) ∧
    (∃ (c : Fin 8) (s : State), s.psState = psEntering ∧ s.rd F.PWR_PS_STAT_POINT = 4 ∧ (s.rd F.PWR_HS_STAT_WAITING).testBit c = true ∧ (((c = 0
      ∧ (s.reg .CLE_SLOT_FAULT 0 ≠ 0 ∨ ∃ k < 32, s.flag F.CLE_SLOT_STAT_MOVING k = true)) ∨ (c = 1 ∧ s.rd F.ROW_CFG_ROLE ≠ 0))) ∧ s.votes =
      0 ∧ s.flag F.PWR_PS_STAT_PEND = false) ∧
    (∃ (s : State), s.psState = psEntering ∧ s.rd F.PWR_PS_STAT_POINT = 4 ∧ s.rd F.PWR_HS_STAT_WAITING ≠ 0 ∧ s.votes = 0 ∧ s.flag
      F.PWR_PS_STAT_PEND = false) ∧
    (∃ (s : State), s.psState = psWaking ∧ s.psTgt = psStandby ∧ s.votes = 0 ∧ s.flag F.PWR_PS_STAT_PEND = false) ∧
    (∃ (k : Fin 9) (s : State), k.val < 8 ∧ s.psState = psStandby ∧ s.rd F.MEM_STATE_STATE k = 3) ∧
    (∃ (k : Fin 9) (s : State), k.val < 8 ∧ s.psState = psStandby ∧ s.votes = 0 ∧ (s.rd F.PWR_PS_STAT_STACKS_AWAKE).testBit k = true ∧ s.rd
      F.MEM_STATE_STATE k = stReady) ∧
    (∃ (s : State), s.psState = psFreewheel) ∧
    (∃ (s : State), s.psState ≠ psFreewheel) :=
  ⟨⟨st [(F.PWR_PS_STAT_STATE,0,psEntering),(F.PWR_PS_STAT_POINT,0,1)], by decide +kernel⟩,
   ⟨{st [(F.PWR_PS_STAT_STATE,0,psEntering),(F.PWR_PS_STAT_POINT,0,2)] with pwr := {State.reset.pwr with vcore := true}}, by decide +kernel⟩,
   ⟨st [(F.PWR_PS_STAT_STATE,0,psEntering),(F.PWR_PS_STAT_POINT,0,4)], by decide +kernel⟩,
   ⟨0, st [(F.PWR_PS_STAT_STATE,0,psEntering),(F.PWR_PS_STAT_POINT,0,4),(F.PWR_HS_STAT_WAITING,0,1)], by decide +kernel⟩,
   ⟨7,
      {st [(F.PWR_PS_STAT_STATE,0,psEntering),(F.PWR_PS_STAT_POINT,0,4),(F.PWR_HS_STAT_WAITING,0,0x80)] with mgmt := {State.reset.mgmt with down := true}},
      by decide +kernel⟩,
   ⟨0, st [(F.PWR_PS_STAT_STATE,0,psEntering),(F.PWR_PS_STAT_POINT,0,4),(F.PWR_HS_STAT_WAITING,0,1),(F.CLE_SLOT_STAT_MOVING,31,1)],
      by decide +kernel⟩,
   ⟨st [(F.PWR_PS_STAT_STATE,0,psEntering),(F.PWR_PS_STAT_POINT,0,4),(F.PWR_HS_STAT_WAITING,0,1)], by decide +kernel⟩,
   ⟨st [(F.PWR_PS_STAT_STATE,0,psWaking),(F.PWR_PS_STAT_TGT,0,psStandby)], by decide +kernel⟩,
   ⟨7, st [(F.PWR_PS_STAT_STATE,0,psStandby),(F.MEM_STATE_STATE,7,3)], by decide +kernel⟩,
   ⟨7, st [(F.PWR_PS_STAT_STATE,0,psStandby),(F.PWR_PS_STAT_STACKS_AWAKE,0,255),(F.MEM_STATE_STATE,7,stReady)], by decide +kernel⟩,
   ⟨st [(F.PWR_PS_STAT_STATE,0,psFreewheel)], by decide +kernel⟩,
   ⟨st [(F.PWR_PS_STAT_STATE,0,psStandby)], by decide +kernel⟩⟩

/-- The hypotheses of PartitionsAssignedAndReleased can be met, clause by clause. -/
theorem test_hypotheses_PartitionsAssignedAndReleased :
    (∃ (x : HmpHead) (body : List Byte) (a : Assign) (s : State), s.hmpUp = true ∧ s.sessions.elem x.client = true ∧ x.ok = true ∧ s.flag
      F.CFG_STAT_RECOVERY = false ∧ s.rd F.SEC_STATE_ID ≠ 2 ∧ readAssign body = some a ∧ s.assignResult a = 0) ∧
    (∃ (x : HmpHead) (body : List Byte) (a : Assign) (s : State), s.hmpUp = true ∧ s.sessions.elem x.client = true ∧ x.ok = true ∧ s.flag
      F.CFG_STAT_RECOVERY = false ∧ s.rd F.SEC_STATE_ID ≠ 2 ∧ readAssign body = some a ∧ s.assignResult a ≠ 0) ∧
    (∃ (x : HmpHead) (body : List Byte) (s : State), s.hmpUp = true ∧ s.sessions.elem x.client = true ∧ x.ok = true ∧ s.flag F.CFG_STAT_RECOVERY
      = false ∧ s.rd F.SEC_STATE_ID ≠ 2 ∧ body.length = 4 ∧ byteAt body 0 < 16 ∧ zerosAt body 1 3 = true ∧ s.served (byteAt body 0) = true ∧
      s.parts.length = 16) ∧
    (∃ (x : HmpHead) (s : State), s.hmpUp = true ∧ s.sessions.elem x.client = true ∧ x.ok = true ∧ s.flag F.CFG_STAT_RECOVERY = false ∧ s.rd
      F.SEC_STATE_ID ≠ 2) ∧
    (∃ (x : HmpHead) (s : State), ((s.hmpUp = false ∨ s.sessions.elem x.client = false))) ∧
    (∃ (x : HmpHead) (s : State), s.hmpUp = true ∧ s.sessions.elem x.client = true ∧ x.ok = false) :=
  ⟨⟨hx, [15,1,0,0,0,4,0,0,1,0,0,0,1,0,0,0,0,0,0,0], ⟨15,1,1024,1,1⟩, hup [(F.CLU_ID_LOGICAL,0,0),(F.CLU_STATE_STATE,0,4)], by decide +kernel⟩,
   ⟨hx, [15,1,0,0,0,4,0,0,1,0,0,0,1,0,0,0,0,0,0,0], ⟨15,1,1024,1,1⟩, hup [], by decide +kernel⟩,
   ⟨hx, [15,0,0,0], hup [(F.ETH_PART_STATE_STATE,15,1)], by decide +kernel⟩,
   ⟨hx, hup [], by decide +kernel⟩,
   ⟨hx, {hup [] with sessions := [6]}, by decide +kernel⟩,
   ⟨⟨7, 5, false⟩, hup [], by decide +kernel⟩⟩

/-- The hypotheses of ScrubBetweenUsers can be met, clause by clause. -/
theorem test_hypotheses_ScrubBetweenUsers :
    (∃ (n : Fin 16) (s : State), s.pstate n.val = 4 ∧ (s.part n.val).scrubStep = 3 ∧ s.parts.length = 16) ∧
    (∃ (n : Fin 16) (s : State), s.pstate n.val = 4 ∧ (s.part n.val).scrubStep = 4 ∧ s.parts.length = 16) ∧
    (∃ (k : Fin 8) (loan : Bool) (owner : Fin 32) (s : State) (z : ZFill), s.zfills.find? (fun z => z.stack = k.val && z.loan = loan && z.owner
      = owner.val) = some z) :=
  ⟨⟨15, {st [(F.ETH_PART_STATE_STATE,15,4)] with parts := List.replicate 16 {scrubStep := 3}}, by decide +kernel⟩,
   ⟨0,
      {st [(F.ETH_PART_STATE_STATE,0,4),(F.MEM_PART_SET_VALID,0,1),(F.MEM_PART_SET_STACKS,0,1),(F.MEM_PART_BASE_VALUE,0,1024),(F.MEM_PART_FRAMES_VALUE,0,1)] with parts := List.replicate 16 {scrubStep := 4}},
      by decide +kernel⟩,
   ⟨7, false, 3, {State.reset with zfills := [⟨7,1024,1,false,3⟩]}, ⟨7,1024,1,false,3⟩, by decide +kernel⟩⟩

/-- The hypotheses of EngineInstructionsWriteOnlyTheirOutput can be met, clause by clause. -/
theorem test_hypotheses_EngineInstructionsWriteOnlyTheirOutput :
    (∃ (i : EngInstr) (s : State), engForm 0x01 i = true ∧ s.goes 67 15 i = true) ∧
    (∃ (i : EngInstr) (s : State), engForm 0x02 i = true ∧ s.goes 67 15 i = true) ∧
    (∃ (i : EngInstr) (s : State), engForm 0x10 i = true ∧ s.goes 67 15 i = true) ∧
    (∃ (i : EngInstr) (s : State), engForm 0x11 i = true ∧ s.goes 67 15 i = true) ∧
    (∃ (i : EngInstr) (s : State), engForm 0x12 i = true ∧ s.goes 67 15 i = true) ∧
    (∃ (i : EngInstr) (s : State), engForm 0x13 i = true ∧ s.goes 67 15 i = true) ∧
    (∃ (i : EngInstr) (s : State), engForm 0x14 i = true ∧ s.goes 67 15 i = true) ∧
    (∃ (i : EngInstr) (s : State), engForm 0x15 i = true ∧ s.goes 67 15 i = true) ∧
    (∃ (i : EngInstr) (s : State), engForm 0x18 i = true ∧ s.goes 67 15 i = true) ∧
    (∃ (i : EngInstr) (s : State), engForm 0x19 i = true ∧ s.goes 67 15 i = true) ∧
    (∃ (i : EngInstr) (s : State), engForm 0x1A i = true ∧ s.goes 67 15 i = true) ∧
    (∃ (i : EngInstr) (s : State), engForm 0x1B i = true ∧ s.goes 67 15 i = true) :=
  ⟨⟨{mkI 1 with fmtAB := 0x66, fmtOut := 7, len := 2048, addrC := 0x027BC000}, State.reset, by decide +kernel⟩,
   ⟨{mkI 2 with fmtAB := 0x66, fmtOut := 7, len := 64, aux := 0x11F}, State.reset, by decide +kernel⟩,
   ⟨{mkI 0x10 with fmtAB := 0x77, fmtOut := 7, len := 4096, aux := 8}, State.reset, by decide +kernel⟩,
   ⟨{mkI 0x11 with fmtAB := 0x07, len := 4096, aux := 1}, State.reset, by decide +kernel⟩,
   ⟨{mkI 0x12 with fmtAB := 0x07, fmtOut := 7, len := 1, aux := 7}, State.reset, by decide +kernel⟩,
   ⟨{mkI 0x13 with len := 1, aux := 7, addrA := 0x027BF800}, State.reset, by decide +kernel⟩,
   ⟨{mkI 0x14 with len := 64, aux := 7}, State.reset, by decide +kernel⟩,
   ⟨{mkI 0x15 with fmtAB := 6, fmtOut := 7, len := 1, aux := 1}, State.reset, by decide +kernel⟩,
   ⟨{mkI 0x18 with fmtAB := 7, fmtOut := 5, flags := 32, len := 4096}, State.reset, by decide +kernel⟩,
   ⟨{mkI 0x19 with fmtAB := 5, fmtOut := 6, len := 1}, State.reset, by decide +kernel⟩,
   ⟨{mkI 0x1A with len := 64, aux := 64, addrLB := 1}, State.reset, by decide +kernel⟩,
   ⟨{mkI 0x1B with len := 64, aux := 64, addrLB := 1}, State.reset, by decide +kernel⟩⟩

/-- The hypotheses of StreamControlInstructions can be met, clause by clause. -/
theorem test_hypotheses_StreamControlInstructions :
    (∃ (p : Fin 68) (e : Fin 16) (i : EngInstr) (s : State), s.goes p e i = true ∧ i.sigEn = false) ∧
    (∃ (p : Fin 68) (e : Fin 16) (i : EngInstr) (s : State) (k : Nat), engForm 0x20 i = true ∧ s.goes p e i = true ∧ i.waitEn = false ∧ i.sigEn
      = true ∧ s.tokKey p i.sigG i.sigTok.toNat = some k) ∧
    (∃ (p : Fin 68) (e : Fin 16) (i : EngInstr) (s : State), s.replayQ.any (fun r => r.cluster = p && r.engine = e) = false ∧ (s.engWait p e
      i).2 = false ∧ engForm 0x20 i = true) ∧
    (∃ (i : EngInstr), engForm 0x20 i = false) :=
  ⟨⟨67, 15, mkI 0x20, {State.reset with engQ := [(unitCode 67 15,[mkI 0x20])]}, by decide +kernel⟩,
   ⟨67, 15, {mkI 0x20 with flags := 16, sigN := 1}, st [], localTok 67 0, by decide +kernel⟩,
   ⟨0, 0, {mkI 0x20 with flags := 8, waitN := 1}, st [], by decide +kernel⟩,
   ⟨mkI 1, by decide +kernel⟩⟩

/-- The hypotheses of TokensCountAndStall can be met, clause by clause. -/
theorem test_hypotheses_TokensCountAndStall :
    (∃ (p : Fin 68) (u : Fin 21) (g : Bool) (a : BitVec 8) (s : State) (k : Nat), ((g = true → a.toNat < 64)) ∧ s.tokKey p g a.toNat = some k ∧
      s.granted.elem (unitCode p u) = false ∧ s.waiters.any (fun w => w.unit = unitCode p u) = false) ∧
    (∃ (p : Fin 68) (g : Bool) (a : BitVec 8) (s : State) (k : Nat) (w : Waiter), s.tokKey p g a.toNat = some k ∧ s.waiters.find? (fun w =>
      w.tok = k) = some w ∧ w.n ≤ s.tokCount k) ∧
    (∃ (p : Fin 68) (g : Bool) (a : BitVec 8) (s : State) (k : Nat), ((g = true → a.toNat < 64)) ∧ s.tokKey p g a.toNat = some k) ∧
    (∃ (a : BitVec 8), 64 ≤ a.toNat) ∧
    (∃ (p : Fin 68) (s : State), s.partOf p = none) ∧
    (∃ (p : Fin 68) (u : Fin 21) (s : State), s.rd F.CLU_WDOG_LIMIT p ≠ 0 ∧ s.waiters.any (fun w => w.unit = unitCode p u) = true) :=
  ⟨⟨3, 19, false, 7, st [], localTok 3 7, by decide +kernel⟩,
   ⟨3, false, 7, {State.reset with tok := [(localTok 3 7,1)], waiters := [⟨localTok 3 7, unitCode 3 2, 1, 0⟩]}, localTok 3 7, ⟨localTok 3 7,
      unitCode 3 2, 1, 0⟩, by decide +kernel⟩,
   ⟨3, true, 63, st [(F.CLU_STATE_PVALID,3,1)], globalTok 0 63, by decide +kernel⟩,
   ⟨64, by decide +kernel⟩,
   ⟨3, st [], by decide +kernel⟩,
   ⟨3, 2, {st [(F.CLU_WDOG_LIMIT,3,1)] with waiters := [⟨localTok 3 7, unitCode 3 2, 1, 0⟩]}, by decide +kernel⟩⟩

/-- The hypotheses of StoreScrubAndPatrol can be met, clause by clause. -/
theorem test_hypotheses_StoreScrubAndPatrol :
    (∃ (p : Fin 68) (h : List EccHit) (s : State), (s.eccHits p.val h).bankLost p.val = false) ∧
    (∃ (p : Fin 68) (h : List EccHit) (s : State), (s.eccHits p.val h).bankLost p.val = false) ∧
    (∃ (s : State), s.ueLines = []) ∧
    (∃ (p : Fin 68) (s : State), s.bankLost p.val = false) ∧
    (∃ (p : Fin 68) (h : List EccHit) (s : State), (s.eccHits p.val h).bankLost p.val = true ∧ s.enabled p.val = true) :=
  ⟨⟨3, [], st [], by decide +kernel⟩,
   ⟨3, [], st [], by decide +kernel⟩,
   ⟨st [], by decide +kernel⟩,
   ⟨3, st [], by decide +kernel⟩,
   ⟨3, [], {st [(F.CLU_STATE_STATE,3,4)] with ueLines := (List.range 16).map fun k => (3 * 2^20 + 32 * k, true)}, by decide +kernel⟩⟩

/-- The hypotheses of BobbinDescriptorsRun can be met, clause by clause. -/
theorem test_hypotheses_BobbinDescriptorsRun :
    (∃ (p : Fin 68) (b : Fin 4) (d : BobDesc) (n : Nat) (s : State), s.bobGoes p b d n = true ∧ d.sigEn = false) ∧
    (∃ (p : Fin 68) (b : Fin 4) (d : BobDesc) (n : Nat) (s : State), s.bobGoes p b d n = true ∧ bobForm 6 d = true ∧ s.busy n (collId d) =
      false) ∧
    (∃ (p : Fin 68) (b : Fin 4) (d : BobDesc) (n : Nat) (s : State), s.bobGoes p b d n = true ∧ d.waitEn = false ∧ d.sigEn = false ∧ d.argsel =
      0) ∧
    (∃ (p : Fin 68) (b : Fin 4) (s : State) (r : DescRun), s.fab.descs.find? (fun r => r.unit = unitCode p (16 + b.val) && r.status ≠ 0) = some
      r ∧ r.left = 0 ∧ r.desc.opc ≠ 6 ∧ s.fab.descs.Pairwise (fun x y => x.id < y.id)) ∧
    (∃ (d : BobDesc), bobForm 1 d = false) :=
  ⟨⟨3, 3, bd 1, 0, st [(F.CLU_STATE_PVALID,3,1)], by decide +kernel⟩,
   ⟨3, 3, bd 6, 0, st [(F.CLU_STATE_PVALID,3,1)], by decide +kernel⟩,
   ⟨3, 3, bd 7, 0, st [(F.CLU_STATE_PVALID,3,1)], by decide +kernel⟩,
   ⟨3, 3, {State.reset with fab := {State.reset.fab with descs := [⟨5,unitCode 3 19,0,bd 1,0,true,2,0,false,[]⟩]}}, ⟨5,unitCode 3 19,0,bd
      1,0,true,2,0,false,[]⟩, by decide +kernel⟩,
   ⟨bd 2, by decide +kernel⟩⟩

/-- The hypotheses of RingDoorbellFetchAndStart can be met, clause by clause. -/
theorem test_hypotheses_RingDoorbellFetchAndStart :
    (∃ (i : Fin 64) (v : Word) (s : State), s.psState ≤ psTrim ∧ s.flag F.PWR_PS_STAT_PEND = false ∧ countDiff v.toNat (s.ci i) ≤ s.ringSize i) ∧
    (∃ (i : Fin 64) (v : Word) (s : State), s.ringSize i < countDiff v.toNat (s.ci i)) ∧
    (∃ (i : Fin 64) (w : Word) (s : State), s.psState ≤ psTrim ∧ s.flag F.PWR_PS_STAT_PEND = false ∧ s.flag F.ETH_RING_CTL_EN i = false ∧
      fieldOf w F.ETH_RING_CTL_EN = 1 ∧ 6 ≤ fieldOf w F.ETH_RING_CTL_LOG2SIZE ∧ fieldOf w F.ETH_RING_CTL_LOG2SIZE ≤ 16 ∧ s.inLocal (i / 4)
      (s.ringBase i) (2 ^ fieldOf w F.ETH_RING_CTL_LOG2SIZE * 64) = true ∧ s.inLocal (i / 4) (s.cqBase i) (2 ^ fieldOf w
      F.ETH_RING_CTL_LOG2SIZE * 32) = true) ∧
    (∃ (i : Fin 64) (w : Word) (s : State), s.psState ≤ psTrim ∧ s.flag F.PWR_PS_STAT_PEND = false ∧ s.flag F.ETH_RING_CTL_EN i = false ∧
      fieldOf w F.ETH_RING_CTL_EN = 1 ∧ ((fieldOf w F.ETH_RING_CTL_LOG2SIZE < 6 ∨ 16 < fieldOf w F.ETH_RING_CTL_LOG2SIZE))) ∧
    (∃ (i : Fin 64) (s : State), s.rings.length = 64 ∧ s.flag F.ETH_RING_CTL_EN i = true ∧ s.served (i / 4) = true ∧ (s.ring i).buf.length < 64
      ∧ (s.ring i).buf.length < countDiff (s.pi i) (s.ci i)) ∧
    (∃ (i : Fin 64) (s : State) (f : Fetched) (l : List Fetched), s.rings.length = 64 ∧ (s.ring i).buf = f :: l ∧ f.seq = s.ci i ∧ s.mayStart i
      = true ∧ s.served (i / 4) = true ∧ countDiff (s.pi i) (s.ci i) ≠ 0 ∧ s.orderOk i (if f.fail.isSome then 0 else byteAt f.entry 0) =
      true ∧ countDiff (s.ci i) (s.rd F.ETH_CQ_CI_COUNT i) < s.ringSize i) ∧
    (∃ (i : Fin 64) (s : State), s.flag F.CFG_WDOG_EN = true ∧ s.mgmt.down = false ∧ s.hmpUp = true ∧ s.flag F.ETH_RING_CTL_EN i = true) ∧
    (∃ (s : State), s.mgmt.down = true ∧ s.flag F.CFG_STAT_MGMT_DEAD = false) ∧
    (∃ (s : State), s.flag F.CFG_WDOG_EN = false ∧ s.flag F.SEC_STATE_DEBUG = true) :=
  ⟨⟨63, 64, st [(F.ETH_RING_CTL_LOG2SIZE,63,6)], by decide +kernel⟩,
   ⟨63, 65, st [(F.ETH_RING_CTL_LOG2SIZE,63,6)], by decide +kernel⟩,
   ⟨63, 0x80000006#32, st [(F.MEM_PART_SET_VALID,15,1),(F.MEM_PART_SET_STACKS,15,1),(F.MEM_PART_FRAMES_VALUE,15,1)], by decide +kernel⟩,
   ⟨63, 0x80000005#32, st [], by decide +kernel⟩,
   ⟨63, st
      [(F.ETH_RING_CTL_EN,63,1),(F.ETH_PART_STATE_STATE,15,1),(F.ETH_RING_PI_COUNT,63,1),(F.MEM_PART_SET_VALID,15,1),(F.MEM_PART_SET_STACKS,15,1),(F.MEM_PART_FRAMES_VALUE,15,1)],
      by decide +kernel⟩,
   ⟨0,
      {pw (fun p => {p with vcore := true, tested := true}) (st [(F.ETH_RING_CTL_EN,0,1),(F.ETH_RING_CTL_LOG2SIZE,0,6),(F.ETH_PART_STATE_STATE,0,1),(F.ETH_RING_PI_COUNT,0,1)]) with rings := {buf := [⟨0,List.replicate 64 0,none⟩]} :: List.replicate 63 {}},
      ⟨0,List.replicate 64 0,none⟩, [], by decide +kernel⟩,
   ⟨63, hup [(F.CFG_WDOG_EN,0,1),(F.ETH_RING_CTL_EN,63,1)], by decide +kernel⟩,
   ⟨{ hup [(F.ETH_RING_CTL_EN,63,1),(F.ETH_RING_STAT_MGMT_WAIT,63,1)] with mgmt := {State.reset.mgmt with down := true} }, by decide +kernel⟩,
   ⟨st [(F.SEC_STATE_DEBUG,0,1),(F.CFG_WDOG_EN,0,0)], by decide +kernel⟩⟩

/-- The hypotheses of RingCommandsAndCompletion can be met, clause by clause. -/
theorem test_hypotheses_RingCommandsAndCompletion :
    (∃ (i : Fin 64) (c : Word) (s : State) (x : Cmd), s.cmd i c.toNat = some x ∧ x.opc = 0 ∧ x.phase = .started) ∧
    (∃ (i : Fin 64) (c : Word) (s : State) (x : Cmd), s.cmd i c.toNat = some x ∧ x.opc = 4 ∧ x.phase = .started) ∧
    (∃ (i : Fin 64) (c : Word) (s : State) (x : Cmd), s.cmd i c.toNat = some x ∧ x.opc = 6 ∧ x.phase = .started) ∧
    (∃ (i : Fin 64) (c : Word) (s : State) (x : Cmd), s.cmd i c.toNat = some x ∧ x.opc = 5 ∧ x.phase = .started) ∧
    (∃ (i : Fin 64) (c : Word) (s : State) (x : Cmd) (p : Pattern), s.cmd i c.toNat = some x ∧ x.opc = 3 ∧ x.phase = .started ∧ s.parts.length =
      16 ∧ (s.part (i / 4)).pats[byteAt x.entry 8]? = some p ∧ byteAt x.entry 9 < p.entries ∧ (s.part (i / 4)).held = []) ∧
    (∃ (i : Fin 64) (c : Word) (s : State) (x : Cmd), s.cmd i c.toNat = some x ∧ x.opc = 7 ∧ x.phase = .started ∧ s.parts.length = 16) ∧
    (∃ (i : Fin 64) (c : Word) (s : State) (x : Cmd), s.cmd i c.toNat = some x ∧ s.finished x = true) :=
  ⟨⟨0, 0, withCmd (cmd0 0) State.reset, cmd0 0, by decide +kernel⟩,
   ⟨0, 0, withCmd (cmd0 4) State.reset, cmd0 4, by decide +kernel⟩,
   ⟨0, 0, withCmd (cmd0 6) State.reset, cmd0 6, by decide +kernel⟩,
   ⟨0, 0, withCmd (cmd0 5) State.reset, cmd0 5, by decide +kernel⟩,
   ⟨0, 0,
      {withCmd (cmd0 3) (st [(F.CLU_STATE_PVALID,3,1),(F.CLU_STATE_STATE,3,5)]) with parts := {pats := [⟨1,1,false,[],[],[],[],[],[]⟩]} :: List.replicate 15 {}},
      cmd0 3, ⟨1,1,false,[],[],[],[],[],[]⟩, by decide +kernel⟩,
   ⟨0, 0, withCmd (cmd0 7) State.reset, cmd0 7, by decide +kernel⟩,
   ⟨0, 0, withCmd {cmd0 7 with phase := .ready} State.reset, {cmd0 7 with phase := .ready}, by decide +kernel⟩⟩

/-- The hypotheses of LoadAndJobOpen can be met, clause by clause. -/
theorem test_hypotheses_LoadAndJobOpen :
    (∃ (i : Fin 64) (c : Word) (s : State) (x : Cmd) (o : LoadOp), s.cmd i c.toNat = some x ∧ x.opc = 2 ∧ x.phase = .started ∧ readLoad x.entry
      = some o ∧ o.slot = 0xFF ∧ o.lenOk o.len = true ∧ o.len ≠ 0 ∧ s.qpState (s.rd F.ETH_RING_CTL_NQP i) = 1) ∧
    (∃ (i : Fin 64) (c : Word) (s : State) (x : Cmd), s.cmd i c.toNat = some x ∧ x.opc = 2 ∧ x.phase = .started ∧ readLoad x.entry = none ∧
      x.status = 0) ∧
    (∃ (i : Fin 64) (c : Word) (s : State) (x : Cmd) (o : LoadOp) (k : BoundKey), s.cmd i c.toNat = some x ∧ x.opc = 2 ∧ x.phase = .running ∧
      x.status = 0 ∧ readLoad x.entry = some o ∧ x.key = some k ∧ x.buf.length = o.len ∧ 0 < x.recs ∧ x.pos + 32 ≤ x.buf.length) ∧
    (∃ (i : Fin 64) (c : Word) (s : State) (x : Cmd), s.cmd i c.toNat = some x ∧ x.opc = 1 ∧ x.phase = .started ∧ s.pwr.routerBad = false ∧ leAt
      x.entry 20 4 ≠ 0 ∧ s.qpState (s.rd F.ETH_RING_CTL_NQP i) = 1) ∧
    (∃ (i : Fin 64) (c : Word) (s : State) (x : Cmd), s.cmd i c.toNat = some x ∧ x.opc = 1 ∧ x.phase = .running ∧ leAt x.entry 20 4 ≤
      x.buf.length ∧ jobRecordBad x.buf = none ∧ byteAt x.buf 0x11 &&& s.conf.allow = byteAt x.buf 0x11 ∧ byteAt x.buf 0x12 &&&
      s.conf.beacon = byteAt x.buf 0x12 ∧ leAt x.buf 8 8 ≤ s.localSize (i / 4) ∧ s.parts.length = 16 ∧ x.status = 0) ∧
    (∃ (i : Fin 64) (c : Word) (s : State) (a : LendAsk) (x : Cmd), s.askOf i c.toNat = some a ∧ s.cmd i c.toNat = some x ∧ x.status = 0 ∧
      x.phase = .running) :=
  ⟨⟨0, 0, withCmd {cmd0 2 with entry := List.replicate 20 0 ++ [64] ++ List.replicate 11 0 ++ [6,0xFF] ++ List.replicate 30 0} (st
      [(F.ETH_QP_STAT_STATE,0,1)]),
      {cmd0 2 with entry := List.replicate 20 0 ++ [64] ++ List.replicate 11 0 ++ [6,0xFF] ++ List.replicate 30 0},
      {len := 64, dst := 0, src := 6, slot := 0xFF, list := false, chunk := 0, listDst := 0, srcBlk := 2, fmt := none, ocp := false},
      by decide +kernel⟩,
   ⟨0, 0, withCmd {cmd0 2 with entry := List.replicate 64 255} (st []), {cmd0 2 with entry := List.replicate 64 255}, by decide +kernel⟩,
   ⟨0, 0, withCmd
      {cmd0 2 with phase := .running, recs := 1, key := some ⟨0,0,[]⟩, buf := List.replicate 64 0, entry := List.replicate 20 0 ++ [64] ++ List.replicate 11 0 ++ [6,0] ++ List.replicate 30 0}
      (st []),
      {cmd0 2 with phase := .running, recs := 1, key := some ⟨0,0,[]⟩, buf := List.replicate 64 0, entry := List.replicate 20 0 ++ [64] ++ List.replicate 11 0 ++ [6,0] ++ List.replicate 30 0},
      {len := 64, dst := 0, src := 6, slot := 0, list := false, chunk := 0, listDst := 0, srcBlk := 2, fmt := none, ocp := false}, ⟨0,0,[]⟩,
      by decide +kernel⟩,
   ⟨0, 0, withCmd {cmd0 1 with entry := List.replicate 20 0 ++ [64] ++ List.replicate 43 0} (st [(F.ETH_QP_STAT_STATE,0,1)]),
      {cmd0 1 with entry := List.replicate 20 0 ++ [64] ++ List.replicate 43 0}, by decide +kernel⟩,
   ⟨0, 0, withCmd
      {cmd0 1 with phase := .running, buf := natLE 4 0x424A5853 ++ natLE 2 1 ++ natLE 2 1 ++ List.replicate 184 0 ++ natLE 8 0x100 ++ List.replicate 56 0}
      (st []),
      {cmd0 1 with phase := .running, buf := natLE 4 0x424A5853 ++ natLE 2 1 ++ natLE 2 1 ++ List.replicate 184 0 ++ natLE 8 0x100 ++ List.replicate 56 0},
      by decide +kernel⟩,
   ⟨0, 0, {withCmd {cmd0 1 with phase := .running} State.reset with asks := [⟨0,0,0,[(5,1,none)]⟩]}, ⟨0,0,0,[(5,1,none)]⟩,
      {cmd0 1 with phase := .running}, by decide +kernel⟩⟩

/-- The hypotheses of StackLinesReadAndWritten can be met, clause by clause. -/
theorem test_hypotheses_StackLinesReadAndWritten :
    (∃ (k : Fin 8) (line : BitVec 31) (s : State), s.rd F.MEM_STATE_STATE k ≠ stFailed ∧ s.accessWaits k (line.toNat * 64) = false) ∧
    (∃ (k : Fin 8) (line : BitVec 31) (h : List StackHit) (s : State), s.rd F.MEM_STATE_STATE k ≠ stFailed ∧ s.accessWaits k (line.toNat * 64) =
      false ∧ ((∀ x ∈ h, x.symbols.val ≤ 2))) ∧
    (∃ (k : Fin 8) (s : State), s.rd F.MEM_STATE_STATE k = stFailed) ∧
    (∃ (k : Fin 8) (line : BitVec 31) (crc : Fin 10) (s : State), s.rd F.MEM_STATE_STATE k ≠ stFailed ∧ s.accessWaits k (line.toNat * 64) =
      false ∧ 1 ≤ crc.val ∧ crc.val ≤ 8) ∧
    (∃ (k : Fin 8) (line : BitVec 31) (s : State), s.accessWaits k (line.toNat * 64) = true ∧ s.rd F.MEM_STATE_STATE k ≠ stFailed) ∧
    (∃ (k : Fin 8) (line : BitVec 31) (s : State), s.rd F.MEM_STATE_STATE k ≠ stFailed ∧ line.toNat / 1024 < metaFrame ∧ s.accessWaits k
      (line.toNat * 64) = false ∧ s.needsConv k (line.toNat * 64 / 65536) = false ∧ s.memLinePoison k (line.toNat * 64) = false) ∧
    (∃ (k : Fin 8) (line : BitVec 31) (s : State), s.rd F.MEM_STATE_STATE k ≠ stFailed ∧ line.toNat / 1024 < metaFrame ∧ s.accessWaits k
      (line.toNat * 64) = false ∧ s.needsConv k (line.toNat * 64 / 65536) = false) ∧
    (∃ (k : Fin 8) (line : BitVec 31) (s : State), s.rd F.MEM_STATE_STATE k ≠ stFailed ∧ line.toNat / 1024 < metaFrame ∧ s.accessWaits k
      (line.toNat * 64) = false ∧ s.needsConv k (line.toNat * 64 / 65536) = true) ∧
    (∃ (k : Fin 8) (line : BitVec 31) (s : State), s.rd F.MEM_STATE_STATE k ≠ stFailed ∧ s.accessWaits k (line.toNat * 64) = true) ∧
    (∃ (k : Fin 8) (line : BitVec 31) (s : State), ((metaFrame ≤ line.toNat / 1024 ∨ s.rd F.MEM_STATE_STATE k = stFailed))) ∧
    (∃ (k : Fin 8) (f : BitVec 21) (s : State) (c : Conv), ((s.convs.filter fun c => c.stack = k.val).take 4).find? (fun c => c.frame = f.toNat)
      = some c) :=
  ⟨⟨7, 5, st [], by decide +kernel⟩,
   ⟨7, 5, [⟨7,5,2,0,0⟩], st [], by decide +kernel⟩,
   ⟨7, st [(F.MEM_STATE_STATE,7,stFailed)], by decide +kernel⟩,
   ⟨7, 5, 8, st [], by decide +kernel⟩,
   ⟨7, 5, {State.reset with convs := [⟨7,0,0,[]⟩]}, by decide +kernel⟩,
   ⟨7, 5, {State.reset with pages := [(7 * 2^21, ⟨true,0,0⟩)]}, by decide +kernel⟩,
   ⟨7, 5, {State.reset with pages := [(7 * 2^21, ⟨true,0,0⟩)]}, by decide +kernel⟩,
   ⟨7, 5, st [], by decide +kernel⟩,
   ⟨7, 5, {State.reset with convs := [⟨7,0,0,[]⟩]}, by decide +kernel⟩,
   ⟨7, 1205600256, st [], by decide +kernel⟩,
   ⟨7, 3, {State.reset with convs := [⟨7,3,0,[]⟩]}, ⟨7,3,0,[]⟩, by decide +kernel⟩⟩

/-- The hypotheses of StackScrubSparingAndRotation can be met, clause by clause. -/
theorem test_hypotheses_StackScrubSparingAndRotation :
    (∃ (k : Fin 8) (h : List StackHit) (s : State), s.flag F.MEM_SCRUB_CTL_EN k = true ∧ s.rd F.MEM_STATE_STATE k = stReady ∧ ((∀ x ∈ h,
      x.symbols.val ≤ 2))) ∧
    (∃ (k : Fin 8) (b : Fin 512) (s : State) (c : RowCopy), (s.rowCopies.find? (fun c => c.stack = k.val ∧ c.bank = b.val) = some c) ∧ c.ops =
      [] ∧ Assoc.get 0 s.spares (k.val * 512 + b.val) ≠ 63) ∧
    (∃ (k : Fin 8) (s : State), s.rd F.MEM_STATE_STATE k = 1 ∧ s.spentBanks k.val < 16) ∧
    (∃ (n : Fin 16) (s : State), s.pstate n.val ≠ 0 ∧ s.pstate n.val ≠ 4) ∧
    (∃ (n : Fin 16) (s : State), s.flag F.MEM_ROT_CTL_REQ n = true ∧ s.flag F.MEM_ROT_CTL_ACTIVE n = false ∧ s.stackSet n ≠ [] ∧ (s.part
      n).rotOff = false) ∧
    (∃ (k : Fin 8) (n : Fin 16) (h : List StackHit) (s : State) (f : Nat), s.rd F.MEM_STATE_STATE k = stReady ∧ (s.part n).rotOff = false ∧
      s.nextOld k n = some f ∧ f < 2 ^ 21 ∧ s.convs.find? (fun c => c.stack = k.val && c.frame = f) = none ∧ ((∀ x ∈ h, x.symbols.val ≤ 2))) :=
  ⟨⟨7, [⟨7,5,2,0,0⟩], st [(F.MEM_SCRUB_CTL_EN,7,1),(F.MEM_STATE_STATE,7,stReady)], by decide +kernel⟩,
   ⟨7, 511, {State.reset with rowCopies := [⟨7,511,3,0,[]⟩]}, ⟨7,511,3,0,[]⟩, by decide +kernel⟩,
   ⟨7, st [(F.MEM_STATE_STATE,7,1)], by decide +kernel⟩,
   ⟨15, st [(F.ETH_PART_STATE_STATE,15,1)], by decide +kernel⟩,
   ⟨15, st [(F.MEM_ROT_CTL_REQ,15,1),(F.MEM_PART_SET_VALID,15,1),(F.MEM_PART_SET_STACKS,15,1)], by decide +kernel⟩,
   ⟨0, 15, [],
      {st [(F.MEM_STATE_STATE,0,stReady),(F.MEM_PART_SET_VALID,15,1),(F.MEM_PART_SET_STACKS,15,1),(F.MEM_PART_BASE_VALUE,15,1024),(F.MEM_PART_FRAMES_VALUE,15,1),(F.MEM_ROT_CTL_ACTIVE,15,1),(F.MEM_ROT_CTL_WGEN,15,1)] with pages := [(1024, ⟨true,0,0⟩)]},
      1024, by decide +kernel⟩⟩

/-- The hypotheses of SeamLinksTrainAndComeUp can be met, clause by clause. -/
theorem test_hypotheses_SeamLinksTrainAndComeUp :
    (∃ (j : Fin 144) (q : BitVec 8) (s : State), s.lkState j = lkTraining ∧ q.toNat = (s.link j).rxAck) ∧
    (∃ (j : Fin 144) (s : State), s.lkState j = lkTraining ∧ s.flag F.FAB_LINK_PEER_VALID j = false) ∧
    (∃ (j : Fin 144) (lanes : BitVec 8) (s : State), s.lkState j = lkTraining ∧ s.flag F.FAB_LINK_PEER_VALID j = true ∧ (s.link j).peerWidth =
      modeWidth (s.mode j) ∧ (s.link j).expect = none ∧ ((linkLanes (s.mode j) (j.val % 8)).filter fun l => lanes.getLsbD l && s.rd
      F.FAB_LANE_STAT_STATE (8 * (j.val / 8) + l) = 1) ≠ []) ∧
    (∃ (j : Fin 144) (lanes : BitVec 8) (s : State), ((s.lkState j = lkKeep ∨ s.lkState j = lkMiswired)) ∧ ((linkLanes (s.mode j) (j.val %
      8)).filter fun l => lanes.getLsbD l && s.rd F.FAB_LANE_STAT_STATE (8 * (j.val / 8) + l) = 1) ≠ []) ∧
    (∃ (j : Fin 144) (s : State), s.boot.trained = true ∧ ((s.seamsOn = true ∨ (s.link j).faulted = true)) ∧ s.lkState j = lkDown ∧ s.flag
      F.FAB_PORT_CFG_EN (j.val / 8) = true ∧ (portLinks (s.mode j)).elem (j.val % 8) = true) ∧
    (∃ (j : Fin 144) (s : State), s.lkCarries j = true) ∧
    (∃ (p : Fin 18) (m : BitVec 8) (s : State) (k : Nat), s.flag F.FAB_PORT_CFG_EN p = true ∧ k ∈ portLinks (s.rd F.FAB_PORT_CFG_MODE p) ∧
      m.getLsbD k = true) ∧
    (∃ (p : Fin 18) (w : Word) (s : State), s.flag F.FAB_PORT_CFG_EN p = false ∧ fieldOf w F.FAB_PORT_CFG_EN = 1 ∧ s.seamsOn = true) :=
  ⟨⟨0, 0, st [(F.FAB_LINK_STAT_STATE,0,lkTraining)], by decide +kernel⟩,
   ⟨0, st [(F.FAB_LINK_STAT_STATE,0,lkTraining)], by decide +kernel⟩,
   ⟨0, 255, lnk {peerWidth := 8} (st
      [(F.FAB_PORT_CFG_EN,0,1),(F.FAB_LINK_STAT_STATE,0,lkTraining),(F.FAB_LINK_PEER_VALID,0,1),(F.FAB_LANE_STAT_STATE,0,1)]),
      by decide +kernel⟩,
   ⟨0, 255, st [(F.FAB_PORT_CFG_EN,0,1),(F.FAB_LINK_STAT_STATE,0,lkKeep),(F.FAB_LANE_STAT_STATE,0,2),(F.FAB_LANE_STAT_STATE,7,1)],
      by decide +kernel⟩,
   ⟨143,
      {st [(F.FAB_PORT_CFG_EN,17,1),(F.FAB_PORT_CFG_MODE,17,3),(F.FAB_LINK_STAT_STATE,143,lkDown)] with boot := {State.reset.boot with trained := true}},
      by decide +kernel⟩,
   ⟨0, linked [], by decide +kernel⟩,
   ⟨17, 128, st [(F.FAB_PORT_CFG_EN,17,1),(F.FAB_PORT_CFG_MODE,17,3)], 7, by decide +kernel⟩,
   ⟨17, 0x80FF0003#32, {st [(F.FAB_PORT_CFG_EN,17,0)] with boot := {State.reset.boot with trained := true}}, by decide +kernel⟩⟩

/-- The hypotheses of SeamLinksLoseLanesAndGoDown can be met, clause by clause. -/
theorem test_hypotheses_SeamLinksLoseLanesAndGoDown :
    (∃ (j : Fin 144) (q : BitVec 8) (s : State), s.lkRuns j = true ∧ q.toNat = (s.link j).rxAck) ∧
    (∃ (j : Fin 144) (q : BitVec 8) (s : State), s.lkRuns j = true ∧ q.toNat = (s.link j).rxAck) ∧
    (∃ (j : Fin 144) (q : BitVec 8) (s : State), s.lkRuns j = true ∧ q.toNat ≠ (s.link j).rxAck) ∧
    (∃ (j : Fin 144) (q : BitVec 8) (s : State) (x : Nat), s.lkRuns j = true ∧ q.toNat = (s.link j).rxAck ∧ x ∈ linkLanes (s.mode j) (j.val % 8)
      ∧ (s.link j).dropDue.testBit x = true ∧ s.laneOn (8 * (j.val / 8) + x) = true) ∧
    (∃ (j : Fin 144) (q : BitVec 8) (s : State) (x : Nat), s.lkRuns j = true ∧ q.toNat = (s.link j).rxAck ∧ (s.link j).dropDue = 0 ∧ x ∈
      linkLanes (s.mode j) (j.val % 8) ∧ (s.link j).addDue.testBit x = true ∧ s.rd F.FAB_LANE_STAT_STATE (8 * (j.val / 8) + x) = 4) ∧
    (∃ (j : Fin 144) (q : BitVec 8) (s : State), s.lkRuns j = true ∧ q.toNat = (s.link j).rxAck ∧ (s.link j).dropDue = 0 ∧ (s.link j).addDue =
      0) ∧
    (∃ (j : Fin 144) (q : BitVec 8) (s : State), s.lkRuns j = true ∧ q.toNat = (s.link j).rxAck ∧ j.val % 8 ≠ 0) ∧
    (∃ (j : Fin 144) (q : BitVec 8) (s : State), s.lkState j = lkKeep ∧ q.toNat = (s.link j).rxAck) ∧
    (∃ (j : Fin 144) (q : BitVec 8) (s : State), s.lkRuns j = true ∧ q.toNat = (s.link j).rxAck) ∧
    (∃ (j : Fin 144) (s : State), s.lkRuns j = true) ∧
    (∃ (j : Fin 144) (mask : BitVec 8) (s : State), s.lkRuns j = true ∧ s.lkState j ≠ lkKeep ∧ s.activeLanes j ≠ [] ∧ ((∀ l ∈ s.activeLanes j,
      s.rd F.FAB_LANE_STAT_STATE l = 2)) ∧ ((lanesOf mask).filter fun l => (s.activeLanes j).elem (8 * (j.val / 8) + l)).length =
      (s.activeLanes j).length) ∧
    (∃ (l : Fin 144) (s : State), s.flag F.FAB_PORT_CFG_AUTOREADD (l / 8) = true ∧ s.rd F.FAB_LANE_STAT_STATE l = 4 ∧ s.rd F.FAB_LANE_STAT_TRIES
      l < 3 ∧ s.lkCarries (s.linkOfLane (l.val / 8) (l.val % 8)) = true ∧ s.lkState (s.linkOfLane (l.val / 8) (l.val % 8)) ≠ lkKeep) ∧
    (∃ (l : Fin 144) (s : State), s.rd F.FAB_LANE_STAT_STATE l = 1 ∧ s.lkCarries (s.linkOfLane (l.val / 8) (l.val % 8)) = true) ∧
    (∃ (p : Fin 18) (b : Bool) (s : State), (s.cable p).1 ≠ b) ∧
    (∃ (p : Fin 18) (s : State), (s.cable p).2 = true) :=
  ⟨⟨0, 0, linked [], by decide +kernel⟩,
   ⟨0, 0, linked [], by decide +kernel⟩,
   ⟨0, 1, linked [], by decide +kernel⟩,
   ⟨0, 0, lnk {dropDue := 2} (linked []), 1, by decide +kernel⟩,
   ⟨0, 0, lnk {addDue := 8} (linked [(F.FAB_LANE_STAT_STATE,3,4)]), 3, by decide +kernel⟩,
   ⟨0, 0, linked [(F.FAB_LANE_STAT_STATE,3,1)], by decide +kernel⟩,
   ⟨1, 0, st [(F.FAB_PORT_CFG_EN,0,1),(F.FAB_PORT_CFG_MODE,0,1),(F.FAB_LINK_STAT_STATE,1,3)], by decide +kernel⟩,
   ⟨0, 0, st [(F.FAB_PORT_CFG_EN,0,1),(F.FAB_PORT_CFG_MODE,0,3),(F.FAB_LINK_STAT_STATE,0,lkKeep),(F.FAB_LANE_STAT_STATE,0,2)],
      by decide +kernel⟩,
   ⟨0, 0, linked [], by decide +kernel⟩,
   ⟨0, linked [], by decide +kernel⟩,
   ⟨0, 3, linked [], by decide +kernel⟩,
   ⟨1, linked [(F.FAB_PORT_CFG_AUTOREADD,0,1),(F.FAB_LANE_STAT_STATE,1,4),(F.FAB_LANE_STAT_TRIES,1,2)], by decide +kernel⟩,
   ⟨1, linked [(F.FAB_LANE_STAT_STATE,1,1)], by decide +kernel⟩,
   ⟨17, true, st [], by decide +kernel⟩,
   ⟨17, fb (fun f => {f with cables := [(17,true,true)]}) State.reset, by decide +kernel⟩⟩

/-- The hypotheses of FlitSlotsAndFlitsReceived can be met, clause by clause. -/
theorem test_hypotheses_FlitSlotsAndFlitsReceived :
    (∃ (j : Fin 144) (s : State), ((s.lkRuns j = true ∨ s.lkState j = lkTraining))) ∧
    (∃ (j : Fin 144) (s : State), s.lkCarries j = true ∧ (s.link j).replayPos = none ∧ ((2047 ≤ (s.link j).slots ∨ 64 ≤ (s.link
      j).replay.length))) ∧
    (∃ (j : Fin 144) (s : State) (m : CtrlMsg) (l : List CtrlMsg), s.lkCarries j = true ∧ (s.link j).replayPos = none ∧ (s.link j).slots < 2047
      ∧ (s.link j).replay.length < 64 ∧ (s.link j).ctrl = m :: l) ∧
    (∃ (j : Fin 144) (f : Flit) (s : State), s.lkState j = lkMiswired ∧ flitOk f = true ∧ f.nak = false) ∧
    (∃ (j : Fin 144) (s : State), s.lkCarries j = true ∧ (s.link j).nakSent = false) ∧
    (∃ (j : Fin 144) (f : Flit) (s : State), s.lkCarries j = true ∧ flitOk f = true ∧ f.typ = 1 ∧ f.nak = false ∧ f.eop = false ∧ s.psState ≠
      psFreewheel ∧ f.seq.toNat = (s.link j).rxAck) ∧
    (∃ (j : Fin 144) (f : Flit) (s : State) (p : Packet), s.lkCarries j = true ∧ flitOk f = true ∧ f.typ = 1 ∧ f.nak = false ∧ f.sop = true ∧
      f.eop = true ∧ s.psState ≠ psFreewheel ∧ f.seq.toNat = (s.link j).rxAck ∧ readPacket f.payload = some p) ∧
    (∃ (j : Fin 144) (f : Flit) (s : State), s.lkCarries j = true ∧ flitOk f = true ∧ f.typ = 1 ∧ f.nak = false ∧ s.psState ≠ psFreewheel ∧
      f.seq.toNat ≠ (s.link j).rxAck ∧ 64 ≤ seqDist (s.link j).rxAck f.seq.toNat) :=
  ⟨⟨0, linked [], by decide +kernel⟩,
   ⟨0, lnk {slots := 2047} (linked []), by decide +kernel⟩,
   ⟨0, lnk {ctrl := [.narrow, .widen]} (linked []), .narrow, [.widen], by decide +kernel⟩,
   ⟨0, fl0, linked [(F.FAB_LINK_STAT_STATE,0,lkMiswired)], by decide +kernel⟩,
   ⟨0, linked [], by decide +kernel⟩,
   ⟨0, {fl0 with vc := 1}, linked [], by decide +kernel⟩,
   ⟨0,
      {fl0 with eop := true, payload := ({pkt0 with typ := 1} : Packet).bytes ++ List.replicate (244 - ({pkt0 with typ := 1} : Packet).bytes.length) 0},
      linked [], {pkt0 with typ := 1}, by decide +kernel⟩,
   ⟨0, {fl0 with seq := 200}, linked [], by decide +kernel⟩⟩

/-- The hypotheses of PacketsDeliveredForwardedAndKept can be met, clause by clause. -/
theorem test_hypotheses_PacketsDeliveredForwardedAndKept :
    (∃ (p : Packet) (s : State) (q : Nat) (a : Nat), s.mine p 0x01 = true ∧ s.nextIn p = true ∧ p.retx = false ∧ p.data.length = 64 ∧ p.pmask =
      0 ∧ a % 64 = 0 ∧ a + 64 ≤ patTop ∧ s.aim p 64 false = .store q a) ∧
    (∃ (p : Packet) (s : State) (tg : Nat), s.mine p 0x01 = true ∧ s.nextIn p = true ∧ p.retx = false ∧ s.aim p p.data.length false = .refused
      tg) ∧
    (∃ (p : Packet) (s : State) (q : Nat) (a : Nat), s.mine p 0x02 = true ∧ s.nextIn p = true ∧ p.retx = false ∧ s.aim p (64 * (p.lines.toNat %
      8)) true = .store q a ∧ s.full p.srcMod.toNat 1 = true) ∧
    (∃ (p : Packet) (s : State) (g : GetWait), s.mine p 0x03 = true ∧ s.nextIn p = true ∧ s.fab.colls = [] ∧ s.fab.descs = [] ∧ s.fab.gets.find?
      (fun g => g.tag = p.tag.toNat) = some g) ∧
    (∃ (p : Packet) (s : State), s.mine p 0x04 = true ∧ s.oldEpoch p = false ∧ s.carriesIn p = true ∧ s.fab.colls = [] ∧ (s.txFlow (flowKey
      p.srcMod.toNat (p.tag.toNat % 4))).waiting = []) ∧
    (∃ (p : Packet) (s : State) (u : Unacked), s.mine p 0x05 = true ∧ s.oldEpoch p = false ∧ s.carriesIn p = true ∧ s.fab.colls = [] ∧ (s.txFlow
      (flowKey p.srcMod.toNat p.cls.toNat)).waiting = [] ∧ (s.txFlow (flowKey p.srcMod.toNat p.cls.toNat)).unacked.find? (fun u => u.pkt.psn
      = p.psn) = some u ∧ u.desc = none) ∧
    (∃ (p : Packet) (s : State) (u : Unacked) (d : DescRun), s.mine p 0x05 = true ∧ s.oldEpoch p = false ∧ s.carriesIn p = true ∧ s.fab.colls =
      [] ∧ ((∀ e ∈ s.fab.tx, e.2.waiting = [])) ∧ (s.txFlow (flowKey p.srcMod.toNat p.cls.toNat)).unacked.find? (fun u => u.pkt.psn = p.psn)
      = some u ∧ u.desc = some d.id ∧ s.fab.descs = [d] ∧ d.status = 0 ∧ 2 ≤ d.left) ∧
    (∃ (p : Packet) (s : State) (i : Nat) (r : Nat), p.dstMod.toNat ≠ s.myId ∧ s.oldEpoch p = false ∧ ((p.cls = 3 ∨ s.fab.dupId = false)) ∧ 2 ≤
      p.hops.toNat ∧ s.hopPath { p with hops := BitVec.ofNat 6 (p.hops.toNat - 1) } = some (i, r) ∧ i < 144 ∧ (s.link i).vcq.length = 4) ∧
    (∃ (p : Packet) (s : State), p.dstMod.toNat ≠ s.myId ∧ s.oldEpoch p = false ∧ ((p.cls = 3 ∨ s.fab.dupId = false)) ∧ p.hops.toNat ≤ 1) ∧
    (∃ (s : State), s.fab.rx.Pairwise (fun x y => x.1 < y.1)) ∧
    (∃ (m : BitVec 12) (c : BitVec 2) (n : BitVec 16) (s : State) (u : Unacked), (s.txFlow (flowKey m.toNat c.toNat)).unacked.find? (fun u =>
      u.pkt.psn = n) = some u ∧ u.tries < 8 ∧ s.carries c.toNat = true ∧ (s.sourcePath
      { u.pkt with retx := true, epoch := decide (s.liveBank = 1), hops := 63, route := 0 } s.liveBank).isSome = true) ∧
    (∃ (m : BitVec 12) (c : BitVec 2) (n : BitVec 16) (s : State) (u : Unacked), (s.txFlow (flowKey m.toNat c.toNat)).unacked.find? (fun u =>
      u.pkt.psn = n) = some u ∧ 8 ≤ u.tries ∧ u.desc = none ∧ (s.txFlow (flowKey m.toNat c.toNat)).waiting = []) :=
  ⟨⟨{pkt0 with typ := 1, space := true, lines := 1, data := List.replicate 64 9}, placed [], 0, 0, by decide +kernel⟩,
   ⟨{pkt0 with typ := 1, addr := 1#64 <<< 63, lines := 1, data := List.replicate 64 9}, st [], noTarget, by decide +kernel⟩,
   ⟨{pkt0 with typ := 2, space := true, lines := 1, srcMod := 5}, fb (fun f =>
      {f with tx := [(flowKey 5 1, {unacked := List.replicate 512 ⟨pkt0,0,0,none⟩})]}) (placed []), 0, 0, by decide +kernel⟩,
   ⟨{pkt0 with typ := 3, tag := 7}, fb (fun f => {f with gets := [⟨7,none,0,.mem 0,1,false⟩]}) State.reset, ⟨7,none,0,.mem 0,1,false⟩,
      by decide +kernel⟩,
   ⟨{pkt0 with typ := 4}, st [], by decide +kernel⟩,
   ⟨{pkt0 with typ := 5}, fb (fun f => {f with tx := [(flowKey 0 0, {unacked := [⟨pkt0,0,0,none⟩]})]}) State.reset, ⟨pkt0,0,0,none⟩,
      by decide +kernel⟩,
   ⟨{pkt0 with typ := 5}, fb (fun f =>
      {f with descs := [⟨5,unitCode 3 19,0,bd 1,2,true,0,0,false,[]⟩], tx := [(flowKey 0 0, {unacked := [⟨pkt0,0,0,some 5⟩]})]})
      State.reset, ⟨pkt0,0,0,some 5⟩, ⟨5,unitCode 3 19,0,bd 1,2,true,0,0,false,[]⟩, by decide +kernel⟩,
   ⟨{pkt0 with typ := 1, dstMod := 5, hops := 2}, lnk {usable := true} (linked [(F.FAB_ROUTE_HI_VALID,5,1),(F.FAB_ROUTE_LO_MIN,5,0)]), 0, 0,
      by decide +kernel⟩,
   ⟨{pkt0 with typ := 1, dstMod := 5, hops := 1}, st [], by decide +kernel⟩,
   ⟨fb (fun f => {f with rx := [(4,{since := 2}),(8,{})]}) State.reset, by decide +kernel⟩,
   ⟨5, 1, 0, fb (fun f => {f with tx := [(flowKey 5 1, {unacked := [⟨{pkt0 with dstMod := 5, cls := 1},0,7,none⟩]})]}) (lnk {usable := true}
      (linked [(F.FAB_TR_CTL_EN,0,1),(F.FAB_ROUTE_HI_VALID,5,1),(F.FAB_ROUTE_LO_MIN,5,0)])), ⟨{pkt0 with dstMod := 5, cls := 1},0,7,none⟩,
      by decide +kernel⟩,
   ⟨5, 1, 0, fb (fun f => {f with tx := [(flowKey 5 1, {unacked := [⟨pkt0,0,8,none⟩]})]}) State.reset, ⟨pkt0,0,8,none⟩, by decide +kernel⟩⟩

/-- The hypotheses of CollectivesTakeTheirMessages can be met, clause by clause. -/
theorem test_hypotheses_CollectivesTakeTheirMessages :
    (∃ (p : Packet) (s : State) (c : Coll), s.mine p 0x08 = true ∧ s.collAdmits p = true ∧ c.sentBy p = true ∧ s.nextIn p = true ∧ p.retx =
      false ∧ s.collOf p = some c ∧ s.collNow c = c ∧ collOp c.desc = 6) ∧
    (∃ (p : Packet) (s : State) (c : Coll), s.mine p 0x09 = true ∧ s.collAdmits p = true ∧ c.sentBy p = true ∧ bitsOf p.tag.toNat 17 3 = 0 ∧
      s.nextIn p = true ∧ p.retx = false ∧ s.collOpen p = some c ∧ s.collNow c = c ∧ c.done = none ∧ s.coordinator c = c.rank ∧ tagRank p ∉
      c.ready ∧ c.ready.length + 1 ≠ c.n) ∧
    (∃ (p : Packet) (s : State) (c : Coll), s.mine p 0x09 = true ∧ s.collAdmits p = true ∧ c.sentBy p = true ∧ bitsOf p.tag.toNat 17 3 = 1 ∧
      s.nextIn p = true ∧ p.retx = false ∧ s.collOpen p = some c ∧ s.collNow c = c ∧ c.done = none ∧ s.coordinator c = 0 ∧ c.rank = 0 ∧
      tagRank p ∉ c.ready ∧ c.ready.length + 1 = c.n ∧ c.sentCommit = false) ∧
    (∃ (p : Packet) (s : State) (c : Coll), s.mine p 0x09 = true ∧ s.collAdmits p = true ∧ c.sentBy p = true ∧ bitsOf p.tag.toNat 17 3 = 2 ∧
      s.nextIn p = true ∧ p.retx = false ∧ s.collAny p = some c ∧ s.collNow c = c ∧ c.done = none ∧ s.coordinator c ≠ c.rank) ∧
    (∃ (p : Packet) (s : State) (c : Coll), s.mine p 0x09 = true ∧ s.collAdmits p = true ∧ c.sentBy p = true ∧ bitsOf p.tag.toNat 17 3 = 3 ∧
      s.nextIn p = true ∧ p.retx = false ∧ s.collAny p = some c ∧ s.collNow c = c ∧ c.done = none ∧ s.coordinator c ≠ c.rank) ∧
    (∃ (p : Packet) (s : State) (c : Coll), s.mine p 0x09 = true ∧ s.collAdmits p = true ∧ c.sentBy p = true ∧ bitsOf p.tag.toNat 17 3 = 4 ∧
      s.nextIn p = true ∧ p.retx = false ∧ s.collOpen p = some c ∧ s.collNow c = c) ∧
    (∃ (p : Packet) (s : State) (c : Coll), s.mine p 0x09 = true ∧ s.collAdmits p = true ∧ c.sentBy p = true ∧ bitsOf p.tag.toNat 17 3 = 5 ∧
      s.nextIn p = true ∧ p.retx = false ∧ s.collAny p = some c ∧ s.collNow c = c ∧ s.full (c.mod (tagRank p)) 2 = true ∧ c.rank < 2048) :=
  ⟨⟨{pkt0 with typ := 8, srcMod := 1, tag := 1#32 <<< 6, lines := 1, data := List.replicate 64 9}, colls
      [{coll0 with desc := {bd 6 with aux := 6}}], {coll0 with desc := {bd 6 with aux := 6}}, by decide +kernel⟩,
   ⟨{pkt0 with typ := 9, srcMod := 1, tag := 1#32 <<< 6}, colls [{coll0 with group := [0,1,2]}], {coll0 with group := [0,1,2]},
      by decide +kernel⟩,
   ⟨{pkt0 with typ := 9, srcMod := 1, tag := (1#32 <<< 6) + (1#32 <<< 17)}, colls [{coll0 with ready := [0]}], {coll0 with ready := [0]},
      by decide +kernel⟩,
   ⟨{pkt0 with typ := 9, tag := 2#32 <<< 17}, colls [{coll0 with rank := 1}], {coll0 with rank := 1}, by decide +kernel⟩,
   ⟨{pkt0 with typ := 9, tag := 3#32 <<< 17}, colls [{coll0 with rank := 1}], {coll0 with rank := 1}, by decide +kernel⟩,
   ⟨{pkt0 with typ := 9, tag := 4#32 <<< 17}, colls [{coll0 with rank := 1}], {coll0 with rank := 1}, by decide +kernel⟩,
   ⟨{pkt0 with typ := 9, srcMod := 5, tag := (1#32 <<< 6) + (5#32 <<< 17)}, fb (fun f =>
      {f with tx := [(flowKey 5 2, {unacked := List.replicate 512 ⟨pkt0,0,0,none⟩})]}) (colls [{coll0 with group := [0,5]}]),
      {coll0 with group := [0,5]}, by decide +kernel⟩⟩

/-- The hypotheses of NoticesOfFaultsAndLostModules can be met, clause by clause. -/
theorem test_hypotheses_NoticesOfFaultsAndLostModules :
    (∃ (x : Note) (m : BitVec 12) (p : Fin 18) (l : Fin 9) (s : State), s.noteNew x = true ∧ s.noticed (noticeTag 0 m.toNat p l) = false) ∧
    (∃ (x : Note) (m : BitVec 12) (p : Fin 18) (l : Fin 9) (s : State), s.noteNew x = true ∧ s.noticed (noticeTag 0 m.toNat p l) = true) ∧
    (∃ (x : Note) (s : State), s.noteNew x = false) ∧
    (∃ (x : Note) (s : State), s.noteNew x = true) ∧
    (∃ (x : Note) (m : BitVec 12) (s : State), s.noteNew x = true ∧ m.toNat ∉ s.fab.lost) ∧
    (∃ (x : Note) (m : BitVec 12) (s : State), s.noteNew x = true ∧ m.toNat ∈ s.fab.lost) ∧
    (∃ (x : Note) (m : BitVec 12) (s : State), s.noteNew x = true ∧ m.toNat ∉ s.fab.lost) ∧
    (∃ (m : BitVec 12) (s : State), m.toNat ∈ s.fab.suspects ∧ m.toNat ∉ s.fab.lost) ∧
    (∃ (m : BitVec 12) (s : State), m.toNat ∉ s.fab.suspects) :=
  ⟨⟨⟨3,0⟩, 5, 17, 7, st [], by decide +kernel⟩,
   ⟨⟨3,0⟩, 5, 17, 7, fb (fun f => {f with seenNotice := [(noticeTag 0 5 17 7, 0)]}) State.reset, by decide +kernel⟩,
   ⟨⟨3,512⟩, st [], by decide +kernel⟩,
   ⟨⟨3,0⟩, st [], by decide +kernel⟩,
   ⟨⟨3,0⟩, 5, fb (fun f => {f with suspects := [5]}) State.reset, by decide +kernel⟩,
   ⟨⟨3,0⟩, 5, fb (fun f => {f with lost := [5], suspects := [5]}) State.reset, by decide +kernel⟩,
   ⟨⟨3,0⟩, 5, st [], by decide +kernel⟩,
   ⟨5, fb (fun f => {f with suspects := [5]}) State.reset, by decide +kernel⟩,
   ⟨5, st [], by decide +kernel⟩⟩

/-- The hypotheses of ShapeShadowsAndRoutingEpochs can be met, clause by clause. -/
theorem test_hypotheses_ShapeShadowsAndRoutingEpochs :
    (∃ (x : Note) (e : BitVec 16) (s : State), s.noteNew x = true ∧ epochAfter e.toNat (s.rd F.FAB_RT_EPOCH_LIVE) = true ∧ s.fab.epochDue ≠ some
      e.toNat ∧ s.flag F.FAB_RT_CTL_SHADOW_READY = true ∧ s.rd F.FAB_RT_EPOCH_SHADOW = e.toNat) ∧
    (∃ (x : Note) (e : BitVec 16) (s : State), s.noteNew x = true ∧ epochAfter e.toNat (s.rd F.FAB_RT_EPOCH_LIVE) = true ∧ s.fab.epochDue ≠ some
      e.toNat ∧ s.flag F.FAB_RT_CTL_SHADOW_READY = false) ∧
    (∃ (x : Note) (m : BitVec 12) (s : State), s.noteNew x = true ∧ m.toNat ≠ s.myId) ∧
    (∃ (x : Note) (m : BitVec 12) (l : Fin 144) (s : State), s.noteNew x = true ∧ m.toNat = s.myId ∧ s.lkCarries l = false ∧ s.fab.dupId =
      false) ∧
    (∃ (x : Note) (m : BitVec 12) (e : BitVec 16) (s : State), s.noteNew x = true ∧ (m.toNat, e.toNat) ∉ s.fab.readyMods ∧ s.epochSource ≠ some
      s.myId) ∧
    (∃ (p : Packet) (s : State), s.mine p 0x14 = true ∧ s.nextIn p = true ∧ p.retx = false) ∧
    (∃ (s : State), s.mgmt.down = false ∧ s.flag F.FAB_RT_CTL_DRAINING = false ∧ s.fab.epochDue = none ∧ s.epochSource ≠ some s.myId) ∧
    (∃ (s : State), ((s.mgmt.down = true ∨ s.flag F.FAB_RT_CTL_DRAINING = true))) ∧
    (∃ (s : State), s.mgmt.down = false) ∧
    (∃ (s : State), s.mgmt.down = true) ∧
    (∃ (s : State), s.mgmt.down = false ∧ s.fab.epochDue = none) ∧
    (∃ (s : State), s.mgmt.down = false ∧ s.epochSource = some s.myId ∧ s.gaveReady s.myId = true ∧ s.fab.epochDue = none ∧ s.flag
      F.FAB_RT_CTL_SHADOW_READY = true ∧ s.rd F.FAB_RT_EPOCH_SHADOW = s.nextEpoch) :=
  ⟨⟨⟨3,0⟩, 7, st [(F.FAB_RT_CTL_SHADOW_READY,0,1),(F.FAB_RT_EPOCH_SHADOW,0,7)], by decide +kernel⟩,
   ⟨⟨3,0⟩, 7, st [], by decide +kernel⟩,
   ⟨⟨3,0⟩, 5, st [], by decide +kernel⟩,
   ⟨⟨3,0⟩, 0, 0, st [], by decide +kernel⟩,
   ⟨⟨3,0⟩, 5, 65535, fb (fun f => {f with readyMods := [(5,1),(4,1)]}) State.reset, by decide +kernel⟩,
   ⟨{pkt0 with typ := 0x14}, st [], by decide +kernel⟩,
   ⟨st [], by decide +kernel⟩,
   ⟨st [(F.FAB_RT_CTL_DRAINING,0,1)], by decide +kernel⟩,
   ⟨st [], by decide +kernel⟩,
   ⟨{State.reset with mgmt := {State.reset.mgmt with down := true}}, by decide +kernel⟩,
   ⟨st [], by decide +kernel⟩,
   ⟨fb (fun f => {f with readyMods := [(0,1)]}) (st
      [(F.FAB_TR_CTL_EPOCH_SRC_EN,0,1),(F.FAB_RT_CTL_SHADOW_READY,0,1),(F.FAB_RT_EPOCH_SHADOW,0,1)]), by decide +kernel⟩⟩

/-- The hypotheses of FramesLentAndBorrowed can be met, clause by clause. -/
theorem test_hypotheses_FramesLentAndBorrowed :
    (∃ (m : Nat) (i : TopoMod) (s : State), s.pelotonBig = false ∧ s.fab.mods = [(m, i)] ∧ m ≠ s.myId ∧ m < 4096 ∧ s.inPeloton m = true ∧ s.full
      m 3 = true) ∧
    (∃ (s : State), s.pelotonBig = true) ∧
    (∃ (p : Packet) (s : State), s.mine p 0x13 = true ∧ p.tag = 0 ∧ s.nextIn p = true ∧ p.retx = false ∧ s.inPeloton p.srcMod.toNat = true ∧
      s.pelotonBig = false) ∧
    (∃ (p : Packet) (s : State) (n : Nat) (mask : Nat) (base : Nat) (per : Nat), s.mine p 0x13 = true ∧ p.tag = 1 ∧ s.nextIn p = true ∧ p.retx =
      false ∧ n = p.addr.toNat ∧ s.inPeloton p.srcMod.toNat = true ∧ s.pelotonBig = false ∧ 1 ≤ n ∧ n ≤ s.freeOffer ∧ s.loansOut = [] ∧
      s.loanPlace n = some (mask, base, per)) ∧
    (∃ (p : Packet) (s : State), s.mine p 0x13 = true ∧ p.tag = 1 ∧ s.nextIn p = true ∧ p.retx = false ∧ s.freeOffer < p.addr.toNat) ∧
    (∃ (p : Packet) (s : State) (l : LoanOut) (k : Nat), s.mine p 0x13 = true ∧ p.tag = 4 ∧ s.nextIn p = true ∧ p.retx = false ∧
      s.loansOut.find? (fun l => l.slot = p.addr.toNat && l.module = p.srcMod.toNat) = some l ∧ s.zfills = [] ∧ k ∈ stacksOf l.mask ∧ s.rd
      F.MEM_STATE_STATE k ≠ stFailed) ∧
    (∃ (p : Packet) (s : State) (a : LendAsk) (b : Nat × Nat × Option Nat), s.mine p 0x13 = true ∧ p.tag = 2 ∧ s.nextIn p = true ∧ p.retx =
      false ∧ s.asks = [a] ∧ a.part = p.srcPart.toNat ∧ a.asks = [b] ∧ b.1 = p.srcMod.toNat ∧ b.2.2 = none) :=
  ⟨⟨5, {}, fb (fun f => {f with mods := [(5,{})], tx := [(flowKey 5 3, {unacked := List.replicate 512 ⟨pkt0,0,0,none⟩})]}) State.reset,
      by decide +kernel⟩,
   ⟨bigPeloton, bigok⟩,
   ⟨{pkt0 with typ := 0x13, srcMod := 5}, fb (fun f => {f with mods := [(5,{})]}) State.reset, by decide +kernel⟩,
   ⟨{pkt0 with typ := 0x13, tag := 1, srcMod := 5, addr := 1}, fb (fun f => {f with mods := [(5,{})]}) (st
      [(F.MEM_LEND_OFFER_FRAMES,0,1),(F.MEM_STATE_STATE,0,stReady)]), 1, 1, 1024, 1, by decide +kernel⟩,
   ⟨{pkt0 with typ := 0x13, tag := 1, srcMod := 5, addr := 1}, st [], by decide +kernel⟩,
   ⟨{pkt0 with typ := 0x13, tag := 4, srcMod := 5, addr := 3}, {State.reset with loansOut := [⟨3,5,0,1,1024,1⟩]}, ⟨3,5,0,1,1024,1⟩, 0,
      by decide +kernel⟩,
   ⟨{pkt0 with typ := 0x13, tag := 2, srcMod := 5}, {State.reset with asks := [⟨0,0,0,[(5,1,none)]⟩]}, ⟨0,0,0,[(5,1,none)]⟩, (5,1,none),
      by decide +kernel⟩⟩

/-- The hypotheses of EthernetLinksAndAdmission can be met, clause by clause. -/
theorem test_hypotheses_EthernetLinksAndAdmission :
    (∃ (p : Fin 2) (r : BitVec 2) (s : State), s.ethMay p.val r.toNat = true ∧ s.flag F.ETH_PORT_CFG_EN p = true ∧ s.adm p = 0 ∧ s.rateOk p
      r.toNat = true) ∧
    (∃ (p : Fin 2) (r : BitVec 2) (s : State), ((s.adm p ≠ 0 ∨ s.flag F.ETH_PORT_CFG_EN p = false ∨ s.rateOk p r.toNat = false))) ∧
    (∃ (p : Fin 2) (s : State), s.adm p ≠ 0) ∧
    (∃ (p : Fin 2) (s : State), s.adm p = 0) ∧
    (∃ (p : Fin 2) (s : State), s.adm p = 0) ∧
    (∃ (p : Fin 2) (s : State), s.ports.length = 2 ∧ ((s.adm p = 2 ∨ s.adm p = 3))) ∧
    (∃ (p : Fin 2) (s : State), s.ports.length = 2 ∧ (s.port p).live = true ∧ (s.port p).rxSa = true ∧ s.adm p = 2) ∧
    (∃ (p : Fin 2) (s : State), ((s.port p).live = false ∨ (s.port p).rxSa = false)) ∧
    (∃ (p : Fin 2) (s : State), s.adm p = 3) ∧
    (∃ (p : Fin 2) (s : State), s.adm p = 2) ∧
    (∃ (p : Fin 2) (s : State) (a : List Byte) (b : List Byte), (s.port p).cak = some (a, b) ∧ ((s.adm p = 2 ∨ s.adm p = 3))) ∧
    (∃ (p : Fin 2) (f : EthFrame) (s : State), s.rd F.ETH_PORT_STAT_RATE p ≠ 0 ∧ (¬ (f.etherType = 0x8808 ∧ f.vid = none)) ∧ ((frameSize f < 64
      ∨ 9216 < frameSize f ∨ f.sTag = true ∨ f.fcsOk = false ∨ (rxBuffer < f.fill ∧ s.pfcOn p f.pcp.toNat = false)))) ∧
    (∃ (p : Fin 2) (f : EthFrame) (s : State), s.rd F.ETH_PORT_STAT_RATE p ≠ 0 ∧ (¬ (f.etherType = 0x8808 ∧ f.vid = none)) ∧ 64 ≤ frameSize f ∧
      frameSize f ≤ 9216 ∧ f.sTag = false ∧ f.fcsOk = true ∧ f.fill ≤ rxBuffer ∧ s.adm p = 3 ∧ ((s.macsecBad p f = true ∨ (f.vid.isSome =
      true ∧ untagged f.etherType.toNat = false ∧ f.macsec ≠ some true)))) ∧
    (∃ (p : Fin 2) (f : EthFrame) (s : State) (v : BitVec 12) (i : Nat), s.rd F.ETH_PORT_STAT_RATE p ≠ 0 ∧ 64 ≤ frameSize f ∧ frameSize f ≤ 9216
      ∧ f.sTag = false ∧ f.fcsOk = true ∧ f.fill ≤ rxBuffer ∧ f.vid = some v ∧ untagged f.etherType.toNat = false ∧ s.adm p = 3 ∧ f.macsec =
      some true ∧ s.macsecBad p f = false ∧ s.vlanOf p v.toNat = some i ∧ s.rd F.ETH_VLAN_CLASS i = 1 ∧ s.ports.length = 2) ∧
    (∃ (p : Fin 2) (f : EthFrame) (s : State) (q : Fin 8) (n : BitVec 16), s.rd F.ETH_PORT_STAT_RATE p ≠ 0 ∧ f.etherType = 0x8808 ∧ f.vid = none
      ∧ f.fcsOk = true ∧ f.pause = [(q, n)] ∧ n ≠ 0 ∧ s.pfcOn p q = true ∧ s.ports.length = 2) :=
  ⟨⟨1, 3, up6 [(F.ETH_PORT_CFG_EN,1,1)], by decide +kernel⟩,
   ⟨1, 3, st [(F.ETH_PORT_STAT_ADM,1,3)], by decide +kernel⟩,
   ⟨1, st [(F.ETH_PORT_STAT_ADM,1,3)], by decide +kernel⟩,
   ⟨1, st [], by decide +kernel⟩,
   ⟨1, st [], by decide +kernel⟩,
   ⟨1, st [(F.ETH_PORT_STAT_ADM,1,2)], by decide +kernel⟩,
   ⟨1, {st [(F.ETH_PORT_STAT_ADM,1,2)] with ports := [{}, {live := true, rxSa := true}]}, by decide +kernel⟩,
   ⟨1, st [], by decide +kernel⟩,
   ⟨1, st [(F.ETH_PORT_STAT_ADM,1,3)], by decide +kernel⟩,
   ⟨1, {st [(F.ETH_PORT_STAT_ADM,1,2)] with ports := [{}, {live := true, rxSa := true}]}, by decide +kernel⟩,
   ⟨1, {st [(F.ETH_PORT_STAT_ADM,1,3)] with ports := [{}, {cak := some ([1],[2])}]}, [1], [2], by decide +kernel⟩,
   ⟨1, {frame0 with size := 63, macsec := none}, st [(F.ETH_PORT_STAT_RATE,1,3)], by decide +kernel⟩,
   ⟨1, {frame0 with size := 64, macsec := none}, st [(F.ETH_PORT_STAT_RATE,1,3),(F.ETH_PORT_STAT_ADM,1,3)], by decide +kernel⟩,
   ⟨0, {frame0 with size := 88}, qpair [(F.ETH_PORT_STAT_RATE,0,3)], 0, 0, by decide +kernel⟩,
   ⟨1, {frame0 with vid := none, etherType := 0x8808, pause := [(7,0xFFFF)]}, st [(F.ETH_PORT_STAT_RATE,1,3),(F.ETH_PORT_CFG_PFC,1,0x88)], 7,
      0xFFFF, by decide +kernel⟩⟩

/-- The hypotheses of RdmaRequestsAnswered can be met, clause by clause. -/
theorem test_hypotheses_RdmaRequestsAnswered :
    (∃ (q : BitVec 12) (psn : BitVec 24) (va : BitVec 64) (key : Word) (data : List Byte) (s : State) (n : Nat) (y : Nat × Nat), s.qpClear
      q.toNat = true ∧ psn.toNat = s.rd F.ETH_QP_RPSN_VALUE q.toNat ∧ s.rd F.ETH_QP_BIND_PART q.toNat = n ∧ data.length = 64 ∧ va.toNat % 64
      = 0 ∧ (s.qp q.toNat).write = none ∧ s.served n = true ∧ s.keyOk n key.toNat va.toNat 64 true = true ∧ bitsOf key.toNat 24 4 ≠ 15 ∧
      s.inLocal n va.toNat 64 = true ∧ s.land n va.toNat = y ∧ s.asleep n = false ∧ s.rd F.MEM_STATE_STATE y.1 ≠ stFailed ∧ ((∀ d ∈
      s.fab.descs, d.id ≠ s.fab.nextDesc)) ∧ y.2 / 65536 < metaFrame) ∧
    (∃ (q : BitVec 12) (psn : BitVec 24) (s : State), s.qpClear q.toNat = true ∧ psn.toNat ≠ s.rd F.ETH_QP_RPSN_VALUE q.toNat) ∧
    (∃ (q : BitVec 12) (psn : BitVec 24) (va : BitVec 64) (key : Word) (len : Word) (s : State) (n : Nat), s.qpClear q.toNat = true ∧ psn.toNat
      = s.rd F.ETH_QP_RPSN_VALUE q.toNat ∧ s.rd F.ETH_QP_BIND_PART q.toNat = n ∧ s.served n = true ∧ s.keyOk n key.toNat va.toNat len.toNat
      false = true ∧ bitsOf key.toNat 24 4 ≠ 15 ∧ s.inLocal n va.toNat len.toNat = true ∧ s.sealed n va.toNat len.toNat = false ∧ s.asleep n
      = false ∧ 1 ≤ len.toNat ∧ len.toNat ≤ 448 ∧ va.toNat % 65536 + len.toNat ≤ 65536 ∧ (s.partRead n va.toNat len.toNat).2 = none ∧ ((∀ d
      ∈ s.fab.descs, d.id ≠ s.fab.nextDesc))) ∧
    (∃ (q : BitVec 12) (psn : BitVec 24) (va : BitVec 64) (key : Word) (len : Word) (s : State) (n : Nat), s.qpClear q.toNat = true ∧ psn.toNat
      = s.rd F.ETH_QP_RPSN_VALUE q.toNat ∧ s.rd F.ETH_QP_BIND_PART q.toNat = n ∧ s.served n = true ∧ s.keyOk n key.toNat va.toNat len.toNat
      false = true ∧ bitsOf key.toNat 24 4 ≠ 15 ∧ s.inLocal n va.toNat len.toNat = true ∧ s.sealed n va.toNat len.toNat = false ∧ s.asleep n
      = false) ∧
    (∃ (q : BitVec 12) (psn : BitVec 24) (va : BitVec 64) (key : Word) (len : Word) (s : State) (n : Nat), s.qpClear q.toNat = true ∧ psn.toNat
      = s.rd F.ETH_QP_RPSN_VALUE q.toNat ∧ s.rd F.ETH_QP_BIND_PART q.toNat = n ∧ s.served n = true ∧ s.keyOk n key.toNat va.toNat len.toNat
      false = false) ∧
    (∃ (q : BitVec 12) (s : State), s.qpClear q.toNat = true) ∧
    (∃ (q : BitVec 12) (s : State), s.qpClear q.toNat = true) ∧
    (∃ (q : BitVec 12) (s : State), s.qpState q.toNat = 2) :=
  ⟨⟨5, 0, 0, 0, List.replicate 64 9, qpair [], 0, (0,67108864), by decide +kernel⟩,
   ⟨5, 1, qpair [], by decide +kernel⟩,
   ⟨5, 0, 0, 0, 64, qpair [], 0, by decide +kernel⟩,
   ⟨5, 0, 0, 0, 64, qpair [], 0, by decide +kernel⟩,
   ⟨5, 0, 0, 1, 64, qpair [], 0, by decide +kernel⟩,
   ⟨5, qpair [], by decide +kernel⟩,
   ⟨5, qpair [], by decide +kernel⟩,
   ⟨5, qpair [(F.ETH_QP_STAT_STATE,5,2)], by decide +kernel⟩⟩

/-- The hypotheses of RdmaRequestsSentAndRetried can be met, clause by clause. -/
theorem test_hypotheses_RdmaRequestsSentAndRetried :
    (∃ (q : BitVec 12) (psn : BitVec 24) (data : List Byte) (s : State) (r : OutReq) (va : Nat) (key : Nat) (i : Nat) (c : Nat) (x : Cmd),
      s.qpState q.toNat = 1 ∧ s.qpOpen q.toNat = true ∧ (s.qp q.toNat).queued = [] ∧ (s.qp q.toNat).out = [r] ∧ r.read = some (va, key,
      data.length) ∧ r.cmd = some (i, c) ∧ r.got = 0 ∧ psn.toNat = r.psn ∧ data.length ≤ s.mtu q.toNat ∧ s.cmd i c = some x ∧ x.opc ≠ 2) ∧
    (∃ (q : BitVec 12) (syn : BitVec 8) (s : State), s.qpState q.toNat = 1 ∧ syn.toNat / 32 ≠ 1 ∧ syn.toNat ≠ synSeq) ∧
    (∃ (q : BitVec 12) (syn : BitVec 8) (s : State) (r : OutReq) (l : List OutReq), s.qpState q.toNat = 1 ∧ syn.toNat / 32 = 1 ∧ (s.qp
      q.toNat).out = r :: l ∧ r.rnr < s.rd F.ETH_QP_PARAM_RNR_RETRY q.toNat) ∧
    (∃ (q : BitVec 12) (s : State) (r : OutReq) (l : List OutReq), s.qpState q.toNat = 1 ∧ (s.qp q.toNat).out = r :: l ∧ r.tries < s.rd
      F.ETH_QP_PARAM_RETRY q.toNat) ∧
    (∃ (q : BitVec 12) (s : State) (r : OutReq) (l : List OutReq), s.qpState q.toNat = 1 ∧ (s.qp q.toNat).out = r :: l ∧ s.rd
      F.ETH_QP_PARAM_RETRY q.toNat ≤ r.tries) ∧
    (∃ (q : BitVec 12) (s : State), s.qpState q.toNat = 1 ∧ (s.qp q.toNat).queued = []) ∧
    (∃ (q : BitVec 12) (s : State), (s.qp q.toNat).cnpAt = none) ∧
    (∃ (q : BitVec 12) (s : State) (u : Nat), (s.qp q.toNat).cnpAt = some u ∧ s.up < u + 50000) :=
  ⟨⟨5, 7, List.replicate 64 9, withCmd (cmd0 1) (withQp {out := [{req0 with read := some (0,0,64), cmd := some (0,0)}]} (qpair [])),
      {req0 with read := some (0,0,64), cmd := some (0,0)}, 0, 0, 0, 0, cmd0 1, by decide +kernel⟩,
   ⟨5, 0x63, qpair [], by decide +kernel⟩,
   ⟨5, 0x20, withQp {out := [req0]} (qpair [(F.ETH_QP_PARAM_RNR_RETRY,5,1)]), req0, [], by decide +kernel⟩,
   ⟨5, withQp {out := [req0]} (qpair [(F.ETH_QP_PARAM_RETRY,5,1)]), req0, [], by decide +kernel⟩,
   ⟨5, withQp {out := [req0]} (qpair [(F.ETH_QP_PARAM_RETRY,5,0)]), req0, [], by decide +kernel⟩,
   ⟨5, withQp {out := [req0]} (qpair []), by decide +kernel⟩,
   ⟨5, qpair [], by decide +kernel⟩,
   ⟨5, withQp {cnpAt := some 0} (qpair []), 0, by decide +kernel⟩⟩

/-- The hypotheses of QueuePairsWindowsAndVlans can be met, clause by clause. -/
theorem test_hypotheses_QueuePairsWindowsAndVlans :
    (∃ (q : BitVec 12) (w : Word) (s : State), s.flag F.ETH_QP_BIND_EN q.toNat = false ∧ fieldOf w F.ETH_QP_BIND_EN = 1) ∧
    (∃ (q : BitVec 12) (w : Word) (s : State), s.flag F.ETH_QP_BIND_EN q.toNat = true ∧ fieldOf w F.ETH_QP_BIND_EN = 0) ∧
    (∃ (i : Fin 64) (w : Word) (s : State), (s.setReg .ETH_VLAN i (w &&& Reg.accMask .ETH_VLAN .RW)).mgmtEntries (i.val / 32) = 1) ∧
    (∃ (i : Fin 64) (w : Word) (s : State), (s.setReg .ETH_VLAN i (w &&& Reg.accMask .ETH_VLAN .RW)).mgmtEntries (i.val / 32) ≠ 1) :=
  ⟨⟨5, 0x80000000#32, st [], by decide +kernel⟩,
   ⟨5, 0, st [(F.ETH_QP_BIND_EN,5,1)], by decide +kernel⟩,
   ⟨63, 0#32, up6 [(F.ETH_VLAN_VALID,40,1),(F.ETH_VLAN_CLASS,40,0)], by decide +kernel⟩,
   ⟨63, 0x80000000#32, up6 [(F.ETH_VLAN_VALID,40,1),(F.ETH_VLAN_CLASS,40,0)], by decide +kernel⟩⟩

/-- The hypotheses of SessionsResolutionTimeAndNeighbours can be met, clause by clause. -/
theorem test_hypotheses_SessionsResolutionTimeAndNeighbours :
    (∃ (p : Fin 2) (c : Nat) (a : List Byte) (s : State), s.hmpUp = true ∧ s.adm p ≠ 0 ∧ s.mgmtEntry p ≠ none ∧ s.sessions.elem c = false ∧ ((a
      ∈ s.conf.anchors ∨ s.flag F.CFG_STAT_RECOVERY = true)) ∧ s.sessions.length < 4) ∧
    (∃ (p : Fin 2) (c : Nat) (a : List Byte) (s : State), s.hmpUp = true ∧ s.adm p ≠ 0 ∧ s.mgmtEntry p ≠ none ∧ s.sessions.elem c = false ∧ ((4
      ≤ s.sessions.length ∨ (a ∉ s.conf.anchors ∧ s.flag F.CFG_STAT_RECOVERY = false)))) ∧
    (∃ (p : Fin 2) (c : Nat) (s : State), ((s.hmpUp = false ∨ s.adm p = 0 ∨ s.mgmtEntry p = none ∨ s.sessions.elem c = true))) ∧
    (∃ (i : Fin 64) (ip : BitVec 128) (s : State), s.entryUp i.val = true ∧ s.ipOf i.val = ip.toNat ∧ s.sendsNow (s.onEntry i.val 0 0) = true) ∧
    (∃ (i : Fin 64) (ip : BitVec 128) (s : State), s.entryUp i.val = true ∧ s.ipOf i.val = ip.toNat ∧ s.sendsNow (s.onEntry i.val 0 0) = true) ∧
    (∃ (i : Fin 64) (ip : BitVec 128) (s : State), s.entryUp i.val = true ∧ s.rd F.ETH_VLAN_CLASS i = 0 ∧ s.ipOf i.val = ip.toNat ∧ s.sendsNow
      (s.onEntry i.val 0 0) = true) ∧
    (∃ (i : Fin 64) (ip : BitVec 128) (s : State), s.ipOf i.val ≠ ip.toNat) ∧
    (∃ (p : Fin 2) (dom : BitVec 8) (s : State), s.ptpOn p = true ∧ s.rd F.ETH_PTP_CFG_DOMAIN p = dom.toNat ∧ 8 ≤ s.rd F.ETH_PORT_STAT_PTP_STATE
      p ∧ s.flag F.TIM_STAT_LOCKED = false) ∧
    (∃ (p : Fin 2) (dom : BitVec 8) (off : ℤ) (s : State), s.ptpOn p = true ∧ s.rd F.ETH_PTP_CFG_DOMAIN p = dom.toNat ∧ 8 ≤ s.rd
      F.ETH_PORT_STAT_PTP_STATE p ∧ s.flag F.TIM_STAT_LOCKED = true ∧ s.rd F.TIM_STAT_LOCK_PORT = p.val ∧ s.flag F.TIM_CTL_PTP_EN = true ∧
      ((off < -1000000 ∨ 1000000 < off))) ∧
    (∃ (p : Fin 2) (dom : BitVec 8) (off : ℤ) (s : State), s.ptpOn p = true ∧ s.rd F.ETH_PTP_CFG_DOMAIN p = dom.toNat ∧ 8 ≤ s.rd
      F.ETH_PORT_STAT_PTP_STATE p ∧ s.flag F.TIM_STAT_LOCKED = true ∧ s.rd F.TIM_STAT_LOCK_PORT = p.val ∧ s.flag F.TIM_CTL_PTP_EN = true ∧
      -1000000 ≤ off ∧ off ≤ 1000000) ∧
    (∃ (p : Fin 2) (dom : BitVec 8) (s : State), s.ptpOn p = true ∧ s.rd F.ETH_PTP_CFG_DOMAIN p = dom.toNat ∧ 8 ≤ s.rd F.ETH_PORT_STAT_PTP_STATE
      p ∧ s.flag F.TIM_STAT_LOCKED = true ∧ s.rd F.TIM_STAT_LOCK_PORT = p.val) ∧
    (∃ (p : Fin 2) (dom : BitVec 8) (s : State), s.ptpOn p = true ∧ s.rd F.ETH_PTP_CFG_DOMAIN p = dom.toNat ∧ s.ports.length = 2) ∧
    (∃ (p : Fin 2) (dom : BitVec 8) (s : State), s.ptpOn p = true ∧ s.rd F.ETH_PTP_CFG_DOMAIN p = dom.toNat ∧ s.rd F.ETH_PORT_STAT_PTP_STATE p =
      6) ∧
    (∃ (p : Fin 2) (dom : BitVec 8) (s : State), ((s.ptpOn p = false ∨ s.rd F.ETH_PTP_CFG_DOMAIN p ≠ dom.toNat))) ∧
    (∃ (p : Fin 2) (s : State), s.flag F.TIM_STAT_LOCKED = true ∧ s.rd F.TIM_STAT_LOCK_PORT = p.val) ∧
    (∃ (p : Fin 2) (s : State), s.rd F.ETH_PORT_STAT_RATE p ≠ 0) ∧
    (∃ (p : Fin 2) (a : List Byte) (s : State), s.rd F.ETH_PORT_STAT_RATE p ≠ 0 ∧ s.ports.length = 2 ∧ ((∀ x ∈ (s.port p).neighbours, x.1 ≠ a))
      ∧ (s.port p).neighbours.length < 4) ∧
    (∃ (p : Fin 2) (a : List Byte) (s : State), ((∀ x ∈ (s.port p).neighbours, x.1 ≠ a)) ∧ 4 ≤ (s.port p).neighbours.length) :=
  ⟨⟨1, 3, [1,2],
      {up6 [(F.ETH_PORT_STAT_ADM,1,1),(F.ETH_VLAN_VALID,63,1)] with sessions := [0,1,2], conf := {State.reset.conf with anchors := [[1,2]]}},
      by decide +kernel⟩,
   ⟨1, 3, [1,2],
      {up6 [(F.ETH_PORT_STAT_ADM,1,1),(F.ETH_VLAN_VALID,63,1)] with sessions := [0,1,2,4], conf := {State.reset.conf with anchors := [[1,2]]}},
      by decide +kernel⟩,
   ⟨1, 3, st [], by decide +kernel⟩,
   ⟨63, 5, put [(F.ETH_IPADDR3_VALUE,63,5)] (st [(F.ETH_VLAN_VALID,63,1),(F.ETH_VLAN_CLASS,63,1),(F.ETH_PORT_STAT_ADM,1,3)]),
      by decide +kernel⟩,
   ⟨63, 5, put [(F.ETH_IPADDR3_VALUE,63,5)] (st [(F.ETH_VLAN_VALID,63,1),(F.ETH_VLAN_CLASS,63,1),(F.ETH_PORT_STAT_ADM,1,3)]),
      by decide +kernel⟩,
   ⟨63, 5, put [(F.ETH_IPADDR3_VALUE,63,5)] (st [(F.ETH_VLAN_VALID,63,1),(F.ETH_VLAN_CLASS,63,0),(F.ETH_PORT_STAT_ADM,1,1)]),
      by decide +kernel⟩,
   ⟨63, 5, st [], by decide +kernel⟩,
   ⟨1, 0, st [(F.ETH_PTP_CFG_EN,1,1),(F.ETH_PORT_STAT_RATE,1,3),(F.ETH_PORT_STAT_PTP_STATE,1,8)], by decide +kernel⟩,
   ⟨1, 0, 1000001, st
      [(F.ETH_PTP_CFG_EN,1,1),(F.ETH_PORT_STAT_RATE,1,3),(F.ETH_PORT_STAT_PTP_STATE,1,9),(F.TIM_STAT_LOCKED,0,1),(F.TIM_STAT_LOCK_PORT,0,1),(F.TIM_CTL_PTP_EN,0,1)],
      by decide +kernel⟩,
   ⟨1, 0, -1000000, st
      [(F.ETH_PTP_CFG_EN,1,1),(F.ETH_PORT_STAT_RATE,1,3),(F.ETH_PORT_STAT_PTP_STATE,1,9),(F.TIM_STAT_LOCKED,0,1),(F.TIM_STAT_LOCK_PORT,0,1),(F.TIM_CTL_PTP_EN,0,1)],
      by decide +kernel⟩,
   ⟨1, 0, st
      [(F.ETH_PTP_CFG_EN,1,1),(F.ETH_PORT_STAT_RATE,1,3),(F.ETH_PORT_STAT_PTP_STATE,1,8),(F.TIM_STAT_LOCKED,0,1),(F.TIM_STAT_LOCK_PORT,0,1)],
      by decide +kernel⟩,
   ⟨1, 0, st [(F.ETH_PTP_CFG_EN,1,1),(F.ETH_PORT_STAT_RATE,1,3)], by decide +kernel⟩,
   ⟨1, 0, st [(F.ETH_PTP_CFG_EN,1,1),(F.ETH_PORT_STAT_RATE,1,3),(F.ETH_PORT_STAT_PTP_STATE,1,6)], by decide +kernel⟩,
   ⟨1, 1, st [(F.ETH_PTP_CFG_EN,1,1),(F.ETH_PORT_STAT_RATE,1,3),(F.ETH_PORT_STAT_PTP_STATE,1,6)], by decide +kernel⟩,
   ⟨1, st [(F.TIM_STAT_LOCKED,0,1),(F.TIM_STAT_LOCK_PORT,0,1)], by decide +kernel⟩,
   ⟨1, st [(F.ETH_PORT_STAT_RATE,1,3)], by decide +kernel⟩,
   ⟨1, [1], st [(F.ETH_PORT_STAT_RATE,1,3)], by decide +kernel⟩,
   ⟨1, [1], {State.reset with ports := [{}, {neighbours := [([2],[]),([3],[]),([4],[]),([5],[])]}]}, by decide +kernel⟩⟩

/-- The hypotheses of RegisterAccesses can be met, clause by clause. -/
theorem test_hypotheses_RegisterAccesses :
    (∃ (s : State), s.boot.off = true) ∧
    (∃ (s : State), s.boot.off = false) ∧
    (∃ (m : BitVec 10) (a : BitVec 24) (s : State), s.boot.off = false ∧ s.mayAccess m.toNat true a.toNat = false) ∧
    (∃ (m : BitVec 10) (a : BitVec 24) (s : State), s.boot.off = false ∧ s.mayAccess m.toNat true a.toNat = true ∧ regAt a.toNat = none) ∧
    (∃ (m : BitVec 10) (a : BitVec 24) (s : State) (r : Reg) (i : Nat), r ∈ [Reg.PWR_TJ_WARN, .PWR_FW_THR, .MEM_SCRUB_CTL, .SEC_ADMIT_MOD] ∧
      s.boot.off = false ∧ s.pwr.retention = false ∧ s.mayAccess m.toNat true a.toNat = true ∧ regAt a.toNat = some (r, i)) ∧
    (∃ (m : BitVec 10) (a : BitVec 24) (s : State) (r : Reg) (i : Nat), r ∈ [Reg.PWR_CAUSE, .CIO_CAUSE, .CLE_CAUSE, .FAB_PORT_CAUSE,
      .ETH_PORT_CAUSE] ∧ s.boot.off = false ∧ s.pwr.retention = false ∧ s.mayAccess m.toNat true a.toNat = true ∧ regAt a.toNat = some (r,
      i)) ∧
    (∃ (x : HmpHead) (a : Word) (s : State) (r : Reg) (i : Nat), s.hmpUp = true ∧ s.sessions.elem x.client = true ∧ x.ok = true ∧ s.flag
      F.CFG_STAT_RECOVERY = false ∧ s.mayAccess 0x80 false a.toNat = true ∧ regAt a.toNat = some (r, i) ∧ r ∉ [Reg.TIM_NOW_LO,
      .CLE_TRC_DATA, .REC_WIN] ∧ s.pwr.retention = false) ∧
    (∃ (x : HmpHead) (n : Word) (s : State), s.hmpUp = true ∧ s.sessions.elem x.client = true ∧ x.ok = true ∧ ((n = 0 ∨ 256 < n.toNat))) ∧
    (∃ (x : HmpHead) (s : State), ((s.hmpUp = false ∨ s.sessions.elem x.client = false))) ∧
    (∃ (x : HmpHead) (s : State), s.hmpUp = true ∧ s.sessions.elem x.client = true ∧ x.ok = false) ∧
    (∃ (x : HmpHead) (n : Word) (l : List Word) (s : State), s.hmpUp = true ∧ s.sessions.elem x.client = true ∧ x.ok = true ∧ ((n = 0 ∨ 256 <
      n.toNat ∨ l.length ≠ n.toNat))) ∧
    (∃ (x : HmpHead) (n : Word) (l : List Word) (s : State), s.hmpUp = true ∧ s.sessions.elem x.client = true ∧ x.ok = true ∧ s.flag
      F.CFG_STAT_RECOVERY = true ∧ n ≠ 0 ∧ n.toNat ≤ 256 ∧ l.length = n.toNat) ∧
    (∃ (x : HmpHead) (a : Word) (w : Word) (s : State) (r : Reg) (i : Nat), s.hmpUp = true ∧ s.sessions.elem x.client = true ∧ x.ok = true ∧
      s.flag F.CFG_STAT_RECOVERY = false ∧ s.rd F.SEC_STATE_ID ≠ 2 ∧ s.mayAccess 0x80 true a.toNat = true ∧ regAt a.toNat = some (r, i) ∧
      s.pwr.retention = false ∧ s.closed true 0x80 r i w = true) ∧
    (∃ (x : HmpHead) (a : Word) (s : State), s.hmpUp = true ∧ s.sessions.elem x.client = true ∧ x.ok = true ∧ s.flag F.CFG_STAT_RECOVERY = false
      ∧ s.rd F.SEC_STATE_ID ≠ 2 ∧ a.toNat = Reg.addr .PWR_CAUSE_IE 0) :=
  ⟨⟨bt (fun b => {b with off := true}) State.reset, by decide +kernel⟩,
   ⟨st [], by decide +kernel⟩,
   ⟨0x80, 2, st [], by decide +kernel⟩,
   ⟨0x80, 131100, up6 [], by decide +kernel⟩,
   ⟨0x80, adr .PWR_TJ_WARN 0, up6 [], .PWR_TJ_WARN, 0, by decide +kernel⟩,
   ⟨0x80, adr .PWR_CAUSE 0, put [(F.PWR_CAUSE_CAP_UNMET,0,1)] (up6 []), .PWR_CAUSE, 0, by decide +kernel⟩,
   ⟨hx, BitVec.ofNat 32 (Reg.addr .PWR_TJ_WARN 0), hup [], .PWR_TJ_WARN, 0, by decide +kernel⟩,
   ⟨hx, 0, hup [], by decide +kernel⟩,
   ⟨hx, st [], by decide +kernel⟩,
   ⟨⟨7,5,false⟩, hup [], by decide +kernel⟩,
   ⟨hx, 2, [1], hup [], by decide +kernel⟩,
   ⟨hx, 256, List.replicate 256 0, hup [(F.CFG_STAT_RECOVERY,0,1)], by decide +kernel⟩,
   ⟨hx, BitVec.ofNat 32 (Reg.addr .MEM_PART_SET 0), 0x101#32, hup [], .MEM_PART_SET, 0, by decide +kernel⟩,
   ⟨hx, BitVec.ofNat 32 (Reg.addr .PWR_CAUSE_IE 0), hup [], by decide +kernel⟩⟩

/-- The hypotheses of AttestationKeysClaimsAndDebug can be met, clause by clause. -/
theorem test_hypotheses_AttestationKeysClaimsAndDebug :
    (∃ (x : HmpHead) (s : State), s.hmpUp = true ∧ s.sessions.elem x.client = true ∧ x.ok = true ∧ s.flag F.CFG_STAT_RECOVERY = false ∧ s.rd
      F.SEC_STATE_ID ≠ 2) ∧
    (∃ (x : HmpHead) (s : State), s.hmpUp = true ∧ s.sessions.elem x.client = true ∧ x.ok = true ∧ ((s.flag F.CFG_STAT_RECOVERY = true ∨ s.rd
      F.SEC_STATE_ID = 2))) ∧
    (∃ (x : HmpHead) (l : List Byte) (s : State), s.hmpUp = true ∧ s.sessions.elem x.client = true ∧ x.ok = true ∧ s.flag F.CFG_STAT_RECOVERY =
      false ∧ s.rd F.SEC_STATE_ID ≠ 2 ∧ ((l.length < 16 ∨ 64 < l.length))) ∧
    (∃ (x : HmpHead) (l : List Byte) (s : State), s.hmpUp = true ∧ s.sessions.elem x.client = true ∧ x.ok = true ∧ s.flag F.CFG_STAT_RECOVERY =
      false ∧ s.rd F.SEC_STATE_ID ≠ 2 ∧ 16 ≤ l.length ∧ l.length ≤ 64 ∧ s.sec.aks.length ≤ 8) ∧
    (∃ (x : HmpHead) (s : State), s.hmpUp = true ∧ s.sessions.elem x.client = true ∧ x.ok = true ∧ s.flag F.CFG_STAT_RECOVERY = false) ∧
    (∃ (x : HmpHead) (i : Fin 16) (s : State), s.hmpUp = true ∧ s.sessions.elem x.client = true ∧ x.ok = true ∧ s.flag F.CFG_STAT_RECOVERY =
      false ∧ s.rd F.SEC_STATE_ID ≠ 2 ∧ s.nv.opKeys ≠ [] ∧ s.flag F.SEC_KSLOT_LOADED i = true ∧ s.pstate (s.rd F.SEC_KSLOT_PART i) ≠ 0 ∧
      s.pstate (s.rd F.SEC_KSLOT_PART i) ≠ 4) ∧
    (∃ (x : HmpHead) (l : List Byte) (s : State), s.hmpUp = true ∧ s.sessions.elem x.client = true ∧ x.ok = true ∧ s.flag F.CFG_STAT_RECOVERY =
      false ∧ s.rd F.SEC_STATE_ID ≠ 2 ∧ l.length ≠ 2) ∧
    (∃ (x : HmpHead) (l : List Byte) (s : State), s.hmpUp = true ∧ s.sessions.elem x.client = true ∧ x.ok = true ∧ s.flag F.CFG_STAT_RECOVERY =
      false ∧ s.rd F.SEC_STATE_ID ≠ 2 ∧ s.nv.opKeys = [] ∧ l.length = 48 ∧ s.evr.chg.length < 64) ∧
    (∃ (x : HmpHead) (l : List Byte) (s : State), s.hmpUp = true ∧ s.sessions.elem x.client = true ∧ x.ok = true ∧ s.flag F.CFG_STAT_RECOVERY =
      false ∧ s.rd F.SEC_STATE_ID ≠ 2 ∧ s.nv.opKeys.length = 4 ∧ ((l.length = 48 ∨ l.length = 241))) ∧
    (∃ (x : HmpHead) (i : Fin 64) (m : Word) (p : Word) (s : State), s.hmpUp = true ∧ s.sessions.elem x.client = true ∧ x.ok = true ∧ s.flag
      F.CFG_STAT_RECOVERY = false ∧ s.rd F.SEC_STATE_ID ≠ 2 ∧ s.nv.opKeys ≠ [] ∧ m &&&    (Reg.accMask .SEC_ADMIT_MOD .RW) = 0 ∧ p &&&
         (Reg.accMask .SEC_ADMIT_PART .RW) = 0 ∧ s.pstate (i.val / 4) ≠ 0 ∧ s.pstate (i.val / 4) ≠ 4) ∧
    (∃ (x : HmpHead) (s : State), s.hmpUp = true ∧ s.sessions.elem x.client = true ∧ x.ok = true ∧ s.flag F.CFG_STAT_RECOVERY = false ∧ s.rd
      F.SEC_STATE_ID ≠ 2) ∧
    (∃ (x : HmpHead) (s : State), s.hmpUp = true ∧ s.sessions.elem x.client = true ∧ x.ok = true ∧ s.flag F.CFG_STAT_RECOVERY = false ∧ s.rd
      F.SEC_STATE_ID ≠ 2) :=
  ⟨⟨hx, hup [], by decide +kernel⟩,
   ⟨hx, hup [(F.CFG_STAT_RECOVERY,0,1)], by decide +kernel⟩,
   ⟨hx, List.replicate 15 0, hup [], by decide +kernel⟩,
   ⟨hx, List.replicate 16 0, hup [], by decide +kernel⟩,
   ⟨hx, hup [], by decide +kernel⟩,
   ⟨hx, 15, {hup [(F.SEC_KSLOT_LOADED,15,1),(F.ETH_PART_STATE_STATE,0,1)] with nv := {State.reset.nv with opKeys := [[1]]}}, by decide +kernel⟩,
   ⟨hx, [], hup [], by decide +kernel⟩,
   ⟨hx, List.replicate 48 1, hup [], by decide +kernel⟩,
   ⟨hx, List.replicate 241 1, {hup [] with nv := {State.reset.nv with opKeys := [[1],[2],[3],[4]]}}, by decide +kernel⟩,
   ⟨hx, 63, 0, 0, {hup [(F.ETH_PART_STATE_STATE,15,1)] with nv := {State.reset.nv with opKeys := [[1]]}}, by decide +kernel⟩,
   ⟨hx, hup [], by decide +kernel⟩,
   ⟨hx, hup [], by decide +kernel⟩⟩

/-- The hypotheses of RollbackWindowsImagesAndQuiesce can be met, clause by clause. -/
theorem test_hypotheses_RollbackWindowsImagesAndQuiesce :
    (∃ (s : State), byteAt s.sec.fw 7 % 2 = 1 ∧ s.rd F.CFG_STAT_STEP = 10 ∧ s.nv.rollback < byteAt s.sec.fw 6) ∧
    (∃ (s : State), byteAt s.sec.fw 6 ≤ s.nv.rollback) ∧
    (∃ (s : State), s.atAddr .SEC_AT_BASE_LO .SEC_AT_BASE_HI ≤ s.atAddr .SEC_AT_LIMIT_LO .SEC_AT_LIMIT_HI) ∧
    (∃ (s : State), s.atAddr .SEC_AT_LIMIT_LO .SEC_AT_LIMIT_HI < s.atAddr .SEC_AT_BASE_LO .SEC_AT_BASE_HI) ∧
    (∃ (x : HmpHead) (s : State), s.hmpUp = true ∧ s.sessions.elem x.client = true ∧ x.ok = true ∧ s.flag F.CFG_STAT_RECOVERY = false ∧ s.rd
      F.SEC_STATE_ID ≠ 2 ∧ s.evr.chg.length < 64) ∧
    (∃ (x : HmpHead) (s : State), s.hmpUp = true ∧ s.sessions.elem x.client = true ∧ x.ok = true ∧ s.flag F.CFG_STAT_RECOVERY = false ∧ s.rd
      F.SEC_STATE_ID ≠ 2 ∧ s.evr.chg.length < 64) ∧
    (∃ (s : State), s.pwr.quiesce = true) ∧
    (∃ (s : State), s.pwr.quiesce = false) ∧
    (∃ (k : Fin 8) (s : State) (p : Prot), s.evr.prot[k.val]? = some p ∧ s.protDone p = true) ∧
    (∃ (k : Fin 8) (s : State), s.evr.prot[k.val]? = none) :=
  ⟨⟨{up6 [] with sec := {State.reset.sec with fw := [0,0,0,0,0,0,9,1]}}, by decide +kernel⟩,
   ⟨st [], by decide +kernel⟩,
   ⟨st [], by decide +kernel⟩,
   ⟨{st [] with regs := (State.reset.setReg .SEC_AT_BASE_HI 0 1).regs}, by decide +kernel⟩,
   ⟨hx, hup [], by decide +kernel⟩,
   ⟨hx, hup [], by decide +kernel⟩,
   ⟨pw (fun p => {p with quiesce := true, vcore := true}) State.reset, by decide +kernel⟩,
   ⟨st [], by decide +kernel⟩,
   ⟨0, {State.reset with evr := {State.reset.evr with prot := [⟨rec0,[],true⟩]}}, ⟨rec0,[],true⟩, by decide +kernel⟩,
   ⟨0, st [], by decide +kernel⟩⟩

/-- The hypotheses of PowerUpStartStepsAndRestart can be met, clause by clause. -/
theorem test_hypotheses_PowerUpStartStepsAndRestart :
    (∃ (s : State), s.boot.off = true ∧ s.boot.over_ = false) ∧
    (∃ (s : State), s.boot.off = false) ∧
    (∃ (s : State), s.boot.off = true ∧ s.boot.over_ = true) ∧
    (∃ (s : State), s.boot.off = false ∧ s.rd F.CFG_STAT_STEP = 1) ∧
    (∃ (s : State), s.boot.off = false ∧ s.rd F.CFG_STAT_STEP = 2) ∧
    (∃ (l : List (List Byte)) (s : State), s.boot.off = false ∧ s.boot.fromOff = false ∧ s.rd F.CFG_STAT_STEP = 3 ∧ s.nv.helpers = [none, none]
      ∧ 4 ≤ l.length) ∧
    (∃ (s : State), s.boot.off = false ∧ s.rd F.CFG_STAT_STEP = 4 ∧ s.nv.density < 5) ∧
    (∃ (s : State), s.boot.off = false ∧ s.rd F.CFG_STAT_STEP = 7 ∧ s.role = 0 ∧ s.permit = true) ∧
    (∃ (s : State), s.boot.off = false ∧ s.rd F.CFG_STAT_STEP = 9 ∧ s.boot.trained = true ∧ ((∀ k < 8, s.rd F.MEM_STATE_STATE k ≠ 1)) ∧
      ((s.pwr.tested = true ∨ s.pwr.vcore = false))) ∧
    (∃ (s : State), s.boot.off = false) ∧
    (∃ (s : State), s.boot.off = true) ∧
    (∃ (s : State), s.permitOn = true ∧ s.flowing = true ∧ s.rd F.CFG_STAT_STEP = 7 ∧ s.role = 0 ∧ s.dryOk = true ∧ s.emergOk = true ∧ s.inletOk
      = true ∧ s.boot.shut = none ∧ s.flag F.PWR_TRIP_TRIPPED = false) ∧
    (∃ (s : State), s.rd F.CFG_STAT_STEP = 7 ∧ s.boot.waited = false) ∧
    (∃ (s : State), s.pwr.vcore = true ∧ s.flowing = false ∧ s.boot.lost = false) ∧
    (∃ (s : State), s.boot.lost = true ∧ s.permit = true ∧ s.pwr.vcore = false ∧ s.rd F.CFG_STAT_STEP = 10) :=
  ⟨⟨bt (fun b => {b with off := true}) State.reset, by decide +kernel⟩,
   ⟨st [], by decide +kernel⟩,
   ⟨bt (fun b => {b with off := true, over_ := true}) State.reset, by decide +kernel⟩,
   ⟨st [], by decide +kernel⟩,
   ⟨st [(F.CFG_STAT_STEP,0,2)], by decide +kernel⟩,
   ⟨[[1],[2],[3],[4]], bt (fun b => {b with fromOff := false}) (st [(F.CFG_STAT_STEP,0,3)]), by decide +kernel⟩,
   ⟨st [(F.CFG_STAT_STEP,0,4)], by decide +kernel⟩,
   ⟨permits [(F.CFG_STAT_STEP,0,7)], by decide +kernel⟩,
   ⟨bt (fun b => {b with trained := true}) (st [(F.CFG_STAT_STEP,0,9)]), by decide +kernel⟩,
   ⟨st [], by decide +kernel⟩,
   ⟨bt (fun b => {b with off := true}) State.reset, by decide +kernel⟩,
   ⟨{permits [(F.CFG_STAT_STEP,0,7),(F.CIO_LEAK_STAT_LATCH,0,0)] with cio := {State.reset.cio with reads := [(0x1C, ⟨100,0⟩),(0x100, ⟨20,0⟩)]}},
      by decide +kernel⟩,
   ⟨st [(F.CFG_STAT_STEP,0,7)], by decide +kernel⟩,
   ⟨pw (fun p => {p with vcore := true}) (up6 []), by decide +kernel⟩,
   ⟨bt (fun b => {b with lost := true}) (permits [(F.CFG_STAT_STEP,0,10)]), by decide +kernel⟩⟩

/-- The hypotheses of FlowPermitAndWatchdog can be met, clause by clause. -/
theorem test_hypotheses_FlowPermitAndWatchdog :
    (∃ (s : State), s.permitOn = true ∧ s.flowing = true ∧ s.rd F.CFG_STAT_STEP = 10 ∧ s.pwr.computeReq = false) ∧
    (∃ (s : State), s.flowing = false) ∧
    (∃ (s : State), ((s.rd F.CFG_STAT_STEP = 7 ∨ s.rd F.CFG_STAT_STEP = 8)) ∧ s.boot.waited = false) ∧
    (∃ (s : State), s.boot.waited = true) ∧
    (∃ (s : State), s.pwr.vcore = true ∧ s.flowing = false ∧ s.boot.lost = false) ∧
    (∃ (s : State), s.boot.lost = true ∧ s.permit = true) ∧
    (∃ (s : State), s.permit = false) ∧
    (∃ (s : State), s.flag F.CFG_WDOG_EN = true) ∧
    (∃ (s : State), s.flag F.CFG_WDOG_EN = true ∧ s.hmpUp = true ∧ s.restartsNow.length < 3) ∧
    (∃ (s : State), s.flag F.CFG_WDOG_EN = true ∧ s.hmpUp = true ∧ 3 ≤ s.restartsNow.length) ∧
    (∃ (s : State), s.mgmt.down = true ∧ s.flag F.CFG_STAT_MGMT_DEAD = false ∧ s.epochSource ≠ some s.myId) ∧
    (∃ (s : State), s.flag F.CFG_STAT_MGMT_DEAD = true) :=
  ⟨⟨{permits [] with cio := {State.reset.cio with reads := [(0x1C, ⟨100,0⟩),(0x100, ⟨20,0⟩)]}}, by decide +kernel⟩,
   ⟨st [], by decide +kernel⟩,
   ⟨st [(F.CFG_STAT_STEP,0,8)], by decide +kernel⟩,
   ⟨bt (fun b => {b with waited := true}) State.reset, by decide +kernel⟩,
   ⟨pw (fun p => {p with vcore := true}) State.reset, by decide +kernel⟩,
   ⟨bt (fun b => {b with lost := true}) (permits []), by decide +kernel⟩,
   ⟨st [], by decide +kernel⟩,
   ⟨st [(F.CFG_WDOG_EN,0,1)], by decide +kernel⟩,
   ⟨up6 [(F.CFG_WDOG_EN,0,1)], by decide +kernel⟩,
   ⟨{up6 [(F.CFG_WDOG_EN,0,1)] with mgmt := {restarts := [0,0,0]}}, by decide +kernel⟩,
   ⟨{State.reset with mgmt := {State.reset.mgmt with down := true}}, by decide +kernel⟩,
   ⟨st [(F.CFG_STAT_MGMT_DEAD,0,1)], by decide +kernel⟩⟩

/-- The hypotheses of TrayHeartbeatModesAndShutdown can be met, clause by clause. -/
theorem test_hypotheses_TrayHeartbeatModesAndShutdown :
    (∃ (s : State), s.boot.off = false) ∧
    (∃ (m : BitVec 10) (s : State), m ≠ 0x8C ∧ s.flag F.CFG_STAT_RECOVERY = false) ∧
    (∃ (b : Bool) (s : State), s.flag F.CFG_STAT_RECOVERY = false ∧ s.flag F.CFG_TRAY_MODE = !b ∧ s.evr.chg.length < 64) ∧
    (∃ (m : BitVec 10) (s : State), m ≠ 0x8C ∧ s.flag F.CFG_STAT_RECOVERY = true) ∧
    (∃ (m : BitVec 10) (s : State), m ≠ 0x8C ∧ s.flag F.CFG_STAT_RECOVERY = false ∧ s.boot.shut.isSome = true ∧ s.boot.hbSeen = true) ∧
    (∃ (m : BitVec 10) (s : State), m ≠ 0x8C ∧ s.flag F.CFG_STAT_RECOVERY = false ∧ s.boot.shut.isSome = true ∧ s.boot.hbSeen = false) ∧
    (∃ (s : State), s.flag F.CFG_TRAY_MODE = true ∧ s.boot.off = false) ∧
    (∃ (s : State), s.flag F.CFG_TRAY_MODE = false) ∧
    (∃ (s : State), s.flag F.CFG_TRAY_MODE = true ∧ s.boot.shut = none ∧ s.boot.off = false ∧ s.pwr.vcore = true) ∧
    (∃ (s : State), s.boot.shut.isSome = true ∧ s.boot.valveHold = 1) ∧
    (∃ (s : State), s.boot.shut = none) ∧
    (∃ (s : State), s.boot.sampled = true ∧ s.boot.off = false) ∧
    (∃ (s : State), s.boot.sampled = false) :=
  ⟨⟨st [], by decide +kernel⟩,
   ⟨0x80, st [], by decide +kernel⟩,
   ⟨true, st [(F.CFG_TRAY_MODE,0,0)], by decide +kernel⟩,
   ⟨0x80, st [(F.CFG_STAT_RECOVERY,0,1)], by decide +kernel⟩,
   ⟨0x80, bt (fun b => {b with shut := some 0, hbSeen := true}) State.reset, by decide +kernel⟩,
   ⟨0x80, bt (fun b => {b with shut := some 0}) State.reset, by decide +kernel⟩,
   ⟨st [(F.CFG_TRAY_MODE,0,1)], by decide +kernel⟩,
   ⟨st [(F.CFG_TRAY_MODE,0,0)], by decide +kernel⟩,
   ⟨pw (fun p => {p with vcore := true}) (st [(F.CFG_TRAY_MODE,0,1)]), by decide +kernel⟩,
   ⟨bt (fun b => {b with shut := some 0, valveHold := 1}) State.reset, by decide +kernel⟩,
   ⟨st [], by decide +kernel⟩,
   ⟨bt (fun b => {b with sampled := true}) State.reset, by decide +kernel⟩,
   ⟨st [], by decide +kernel⟩⟩

/-- The hypotheses of RecorderFlushesFreezeAndCursors can be met, clause by clause. -/
theorem test_hypotheses_RecorderFlushesFreezeAndCursors :
    (∃ (s : State), s.evr.flushDue = true ∧ s.boot.scanned = true ∧ s.flag F.REC_STAT_FROZEN = false ∧ s.evr.buf = [] ∧ s.evr.lost = none ∧
      s.evr.chgStored.length + s.evr.chg.length ≤ 16384) ∧
    (∃ (s : State) (r : Rec) (k : Nat) (x : Sector), s.evr.flushDue = true ∧ s.boot.scanned = true ∧ s.flag F.REC_STAT_FROZEN = false ∧
      s.evr.buf = [r] ∧ s.evr.lost = none ∧ s.bySeverity = false ∧ Assoc.find s.evr.opens 0 = some k ∧ s.sector k = some x ∧ x.recs.length <
      63 ∧ k ∉ s.evr.bad) ∧
    (∃ (s : State), ((s.evr.flushDue = false ∨ s.boot.scanned = false ∨ s.flag F.REC_STAT_FROZEN = true))) ∧
    (∃ (s : State), s.boot.off = true) ∧
    (∃ (s : State), s.boot.off = false ∧ s.boot.scanned = false ∧ s.evr.prot = []) ∧
    (∃ (s : State), s.boot.off = false ∧ s.boot.scanned = true ∧ s.evr.prot = [] ∧ 5 ≤ s.rd F.CFG_STAT_STEP ∧ s.nv.counters.length = 2 ∧
      s.evr.buf.length ≤ 48) ∧
    (∃ (n : Nat) (s : State), s.evr.erasing = some n) ∧
    (∃ (s : State), s.evr.erasing = none) ∧
    (∃ (s : State), s.flag F.REC_STAT_FROZEN = true) ∧
    (∃ (s : State), s.flag F.REC_STAT_FROZEN = true) ∧
    (∃ (s : State), s.flag F.REC_STAT_FROZEN = false) ∧
    (∃ (m : BitVec 2) (s : State) (r : Rec), s.heldOrder.find? (fun r => decide (m.toNat ≤ r.sev)) = some r ∧ r.seq < 2 ^ 32) ∧
    (∃ (m : BitVec 2) (s : State), s.heldOrder.find? (fun r => decide (m.toNat ≤ r.sev)) = none) ∧
    (∃ (s : State) (r : Rec), s.evr.chgStored ++ s.evr.chg = [r] ∧ r.seq < 2 ^ 32) ∧
    (∃ (c : Fin 2) (v : Word) (s : State), ((∃ r ∈ s.held c, r.seq = v.toNat))) ∧
    (∃ (c : Fin 2) (v : Word) (s : State), ((∀ r ∈ s.held c, r.seq < v.toNat))) ∧
    (∃ (c : Fin 2) (s : State) (r : Rec) (x : Rec), s.curRec c = some r ∧ s.recAfter c r.seq = some x ∧ x.seq < 2 ^ 32) ∧
    (∃ (c : Fin 2) (s : State), s.curRec c = none) :=
  ⟨⟨bt (fun b => {b with scanned := true}) (ev (fun e => {e with flushDue := true, chg := [rec0]}) State.reset), by decide +kernel⟩,
   ⟨bt (fun b => {b with scanned := true}) (ev (fun e =>
      {e with flushDue := true, buf := [rec0], opens := [(0,5)], sectors := [⟨5,0,List.replicate 62 rec0⟩]}) State.reset), rec0, 5,
      ⟨5,0,List.replicate 62 rec0⟩, by decide +kernel⟩,
   ⟨st [], by decide +kernel⟩,
   ⟨bt (fun b => {b with off := true}) State.reset, by decide +kernel⟩,
   ⟨st [], by decide +kernel⟩,
   ⟨bt (fun b => {b with scanned := true}) (ev (fun e => {e with buf := List.replicate 48 rec0}) (st [(F.CFG_STAT_STEP,0,5)])),
      by decide +kernel⟩,
   ⟨7, ev (fun e => {e with erasing := some 7}) State.reset, by decide +kernel⟩,
   ⟨st [], by decide +kernel⟩,
   ⟨st [(F.REC_STAT_FROZEN,0,1)], by decide +kernel⟩,
   ⟨st [(F.REC_STAT_FROZEN,0,1)], by decide +kernel⟩,
   ⟨st [], by decide +kernel⟩,
   ⟨2, ev (fun e => {e with buf := [{rec0 with sev := 2}]}) State.reset, {rec0 with sev := 2}, by decide +kernel⟩,
   ⟨2, st [], by decide +kernel⟩,
   ⟨ev (fun e => {e with chg := [rec0]}) State.reset, rec0, by decide +kernel⟩,
   ⟨1, 0, ev (fun e => {e with buf := [rec0]}) State.reset, by decide +kernel⟩,
   ⟨1, 0, st [], by decide +kernel⟩,
   ⟨1, ev (fun e => {e with chg := [rec0, {rec0 with seq := 1}]}) (st [(F.REC_CUR_CTL_AREA,1,1),(F.REC_CUR_STAT_VALID,1,1)]), rec0,
      {rec0 with seq := 1}, by decide +kernel⟩,
   ⟨1, st [], by decide +kernel⟩⟩

/-- The hypotheses of TraySidebandI3cAndIrq can be met, clause by clause. -/
theorem test_hypotheses_TraySidebandI3cAndIrq :
    (∃ (s : State), s.boot.off = false) ∧
    (∃ (s : State), s.boot.off = false) ∧
    (∃ (f : Fld) (i : Nat) (ie : Reg) (n : Nat) (s : State), causeInfo f.reg = some (ie, n) ∧ (s.reg ie i).getLsbD f.lo = true) ∧
    (∃ (s : State), s.boot.off = false ∧ s.rd F.SYS_I3C_STAT_DYNADDR ≠ 0 ∧ s.periAsleep = false ∧ 7 ≤ s.i3c.mwl) ∧
    (∃ (s : State), s.boot.off = false ∧ s.rd F.SYS_I3C_STAT_DYNADDR ≠ 0 ∧ s.periAsleep = false ∧ 7 ≤ s.i3c.mwl ∧ s.wins = []) ∧
    (∃ (l : List Word), 16 < l.length) ∧
    (∃ (s : State), s.boot.off = false ∧ s.rd F.SYS_I3C_STAT_DYNADDR = 0) ∧
    (∃ (s : State), s.boot.off = false ∧ s.rd F.SYS_I3C_STAT_DYNADDR ≠ 0 ∧ s.periAsleep = false ∧ 4 ≤ s.i3c.mrl) ∧
    (∃ (n : BitVec 5), 16 < n.toNat) ∧
    (∃ (s : State), s.boot.off = false ∧ s.rd F.SYS_I3C_STAT_DYNADDR = 0) ∧
    (∃ (s : State), s.boot.off = false ∧ s.rd F.SYS_I3C_STAT_DYNADDR = 0) ∧
    (∃ (a : BitVec 7), a ≠ 0x2E) ∧
    (∃ (s : State), s.boot.off = false ∧ s.rd F.SYS_I3C_STAT_DYNADDR ≠ 0) ∧
    (∃ (s : State), s.boot.off = false ∧ s.rd F.SYS_I3C_STAT_DYNADDR ≠ 0) ∧
    (∃ (s : State), s.boot.off = false) ∧
    (∃ (s : State), s.boot.off = false ∧ s.boot.shut.isSome = true) ∧
    (∃ (b : Bool) (s : State), s.flag F.CFG_STAT_RECOVERY = false ∧ s.flag F.CFG_TRAY_MODE = b) ∧
    (∃ (s : State), s.boot.shut = none ∧ s.evr.chg.length < 64) ∧
    (∃ (s : State), s.flag F.CFG_TRAY_MODE = true ∧ s.boot.off = false) ∧
    (∃ (s : State), s.flag F.CFG_TRAY_MODE = true ∧ s.boot.shut = none ∧ s.boot.off = false ∧ s.pwr.vcore = false) ∧
    (∃ (s : State), s.boot.shut.isSome = true ∧ s.boot.valveHold = 1) ∧
    (∃ (s : State), s.boot.sampled = true ∧ s.boot.off = false ∧ s.rd F.CFG_ALIVE_COUNT = 65535) :=
  ⟨⟨st [(F.IRQ_TRAY_PEND_BLOCK,0,1)], by decide +kernel⟩,
   ⟨st [], by decide +kernel⟩,
   ⟨F.PWR_CAUSE_CAP_UNMET, 0, .PWR_CAUSE_IE, 0, put [(F.PWR_CAUSE_IE_EN,0,0xFFFFFFF)] State.reset, by decide +kernel⟩,
   ⟨st [(F.SYS_I3C_STAT_DYNADDR,0,9)], by decide +kernel⟩,
   ⟨st [(F.SYS_I3C_STAT_DYNADDR,0,9)], by decide +kernel⟩,
   ⟨List.replicate 17 0, by decide +kernel⟩,
   ⟨st [], by decide +kernel⟩,
   ⟨st [(F.SYS_I3C_STAT_DYNADDR,0,9)], by decide +kernel⟩,
   ⟨17, by decide +kernel⟩,
   ⟨st [], by decide +kernel⟩,
   ⟨st [], by decide +kernel⟩,
   ⟨0x2F, by decide +kernel⟩,
   ⟨st [(F.SYS_I3C_STAT_DYNADDR,0,8)], by decide +kernel⟩,
   ⟨st [(F.SYS_I3C_STAT_DYNADDR,0,8)], by decide +kernel⟩,
   ⟨st [], by decide +kernel⟩,
   ⟨bt (fun b => {b with shut := some 0}) State.reset, by decide +kernel⟩,
   ⟨true, st [(F.CFG_TRAY_MODE,0,1)], by decide +kernel⟩,
   ⟨st [], by decide +kernel⟩,
   ⟨st [(F.CFG_TRAY_MODE,0,1)], by decide +kernel⟩,
   ⟨st [(F.CFG_TRAY_MODE,0,1)], by decide +kernel⟩,
   ⟨bt (fun b => {b with shut := some 0, valveHold := 1}) State.reset, by decide +kernel⟩,
   ⟨bt (fun b => {b with sampled := true}) (st [(F.CFG_ALIVE_COUNT,0,65535)]), by decide +kernel⟩⟩

/-- The hypotheses of ControlSlotsComputeAtTheirTicks can be met, clause by clause. -/
theorem test_hypotheses_ControlSlotsComputeAtTheirTicks :
    (∃ (s : State), s.cleRuns = false) ∧
    (∃ (s : State), s.cleRuns = true ∧ s.flag F.CLE_CTL_EN = false ∧ ((∀ b, b < 4 → s.rd F.CLE_TRC_STAT_STATE b ≠ 1 ∧ s.rd F.CLE_TRC_STAT_STATE
      b ≠ 2))) ∧
    (∃ (k : Fin 32) (raw : Rat) (s : State), s.cleRuns = true ∧ s.flag F.CLE_CTL_EN = true ∧ ((∀ j, j < 32 → (s.slotOn j = true ↔ j = k.val))) ∧
      1 ≤ s.rd F.CLE_SLOT_CFG_PERIOD k ∧ s.rd F.CLE_SLOT_CFG_PERIOD k ≤ 200000 ∧ (s.cle.ticks + 1) % s.rd F.CLE_SLOT_CFG_PERIOD k = 0 ∧ ((∀
      b, b < 4 → s.rd F.CLE_TRC_STAT_STATE b ≠ 1 ∧ s.rd F.CLE_TRC_STAT_STATE b ≠ 2)) ∧ s.rowState ≠ 3 ∧ s.rd F.CLE_SLOT_CFG_ROLE k ≠ 1 ∧
      s.flag F.CLE_SLOT_CFG_GRPEN k = false ∧ s.dst k = 0 ∧ (s.reg .ROW_SLOTS 0).getLsbD k = false ∧ (s.reg .CLE_SLOT_FAULT 0).getLsbD k =
      false ∧ s.cw .CLE_SLOT_W_FE_LIM k = 0 ∧ s.source (s.rd F.CLE_SLOT_IO_SRC k) = some raw) ∧
    (∃ (k : Fin 32) (s : State), s.cleRuns = true ∧ s.flag F.CLE_CTL_EN = true ∧ ((∀ j, j < 32 → (s.slotOn j = true ↔ j = k.val))) ∧ 1 ≤ s.rd
      F.CLE_SLOT_CFG_PERIOD k ∧ s.rd F.CLE_SLOT_CFG_PERIOD k ≤ 200000 ∧ (s.cle.ticks + 1) % s.rd F.CLE_SLOT_CFG_PERIOD k = 0 ∧ ((∀ b, b < 4
      → s.rd F.CLE_TRC_STAT_STATE b ≠ 1 ∧ s.rd F.CLE_TRC_STAT_STATE b ≠ 2)) ∧ s.rowState ≠ 3 ∧ s.rd F.CLE_SLOT_CFG_ROLE k ≠ 1 ∧ s.flag
      F.CLE_SLOT_CFG_GRPEN k = false ∧ s.dst k = 0 ∧ s.source (s.rd F.CLE_SLOT_IO_SRC k) = none) ∧
    (∃ (k : Fin 32) (s : State), (s.reg .CLE_SLOT_FAULT 0).getLsbD k = true ∧ |(s.slot k).e| ≤ s.cw .CLE_SLOT_W_FE_LIM k ∧ (s.source (s.rd
      F.CLE_SLOT_IO_SRC k)).isSome = true) ∧
    (∃ (k : Fin 32) (s : State), (((s.reg .CLE_SLOT_FAULT 0).getLsbD k = false ∨ s.cw .CLE_SLOT_W_FE_LIM k < |(s.slot k).e| ∨ s.source (s.rd
      F.CLE_SLOT_IO_SRC k) = none))) :=
  ⟨⟨bt (fun b => {b with off := true}) State.reset, by decide +kernel⟩,
   ⟨st [(F.CLE_CTL_EN,0,0)], by decide +kernel⟩,
   ⟨31, 20, ci (fun c => {c with reads := [(0, ⟨20, 0⟩)]}) (st [(F.CLE_CTL_EN,0,1),(F.CLE_SLOT_CFG_EN,31,1),(F.CLE_SLOT_CFG_PERIOD,31,1)]),
      by decide +kernel⟩,
   ⟨31, st [(F.CLE_CTL_EN,0,1),(F.CLE_SLOT_CFG_EN,31,1),(F.CLE_SLOT_CFG_PERIOD,31,1)], by decide +kernel⟩,
   ⟨31, ci (fun c => {c with reads := [(0, ⟨20, 0⟩)]}) {State.reset with regs := (State.reset.setReg .CLE_SLOT_FAULT 0 0x80000000#32).regs},
      by decide +kernel⟩,
   ⟨31, st [], by decide +kernel⟩⟩

/-- The hypotheses of ControlSlotWritesLockAndTraces can be met, clause by clause. -/
theorem test_hypotheses_ControlSlotWritesLockAndTraces :
    (∃ (k : Fin 32) (w : Word) (s : State), s.slotOn k = false ∧ fieldOf w F.CLE_SLOT_CFG_EN = 1 ∧ fieldOf w F.CLE_SLOT_CFG_ROLE ≠ 1 ∧
      s.mayEnable k (w &&& Reg.accMask .CLE_SLOT_CFG .RW) = true) ∧
    (∃ (k : Fin 32) (w : Word) (s : State), s.slotOn k = false ∧ fieldOf w F.CLE_SLOT_CFG_EN = 1 ∧ fieldOf w F.CLE_SLOT_CFG_ROLE ≠ 1 ∧
      s.mayEnable k (w &&& Reg.accMask .CLE_SLOT_CFG .RW) = false) ∧
    (∃ (k : Fin 32) (w : Word) (s : State), s.slotOn k = false ∧ fieldOf w F.CLE_SLOT_CFG_EN = 0 ∧ fieldOf w F.CLE_SLOT_CFG_ROLE ≠ 1) ∧
    (∃ (k : Fin 32) (w : Word) (s : State), s.slotOn k = true ∧ s.rd F.CLE_SLOT_CFG_ROLE k = 1 ∧ fieldOf w F.CLE_SLOT_CFG_EN = 0) ∧
    (∃ (k : Fin 32) (j : Fin 32) (w : Word) (s : State), j ≠ k ∧ s.rd F.CLE_SLOT_CFG_ROLE j = 1 ∧ fieldOf w F.CLE_SLOT_CFG_ROLE = 1) ∧
    (∃ (k : Fin 32) (w : Word) (s : State), s.slotOn k = true ∧ fieldOf w F.CLE_SLOT_CFG_EN = 1 ∧ fieldOf w F.CLE_SLOT_CFG_ROLE ≠ 1 ∧ fieldOf w
      F.CLE_SLOT_CFG_PERIOD ≠ s.rd F.CLE_SLOT_CFG_PERIOD k) ∧
    (∃ (k : Fin 32) (s : State), s.slotOn k = true ∧ s.rd F.CLE_SLOT_CFG_ROLE k ≠ 1 ∧ s.flag F.CLE_SLOT_CFG_GRPEN k = false) ∧
    (∃ (k : Fin 32) (s : State), ((s.flag F.CLE_SLOT_CFG_REPEN k = false ∨ s.flag F.CLE_SLOT_REP_FREEZE k = true))) ∧
    (∃ (k : Fin 32) (s : State), s.flag F.CLE_SLOT_CFG_REPEN k = true ∧ s.flag F.CLE_SLOT_REP_FREEZE k = false) ∧
    (∃ (s : State), s.flag F.CLE_REP_STAT_LOCK = true) ∧
    (∃ (s : State), s.flag F.CLE_REP_STAT_LOCK = false) ∧
    (∃ (b : Fin 4) (s : State), s.rd F.CLE_TRC_CFG_TRIG b = 0 ∧ s.rd F.CLE_TRC_STAT_STATE b = 1) ∧
    (∃ (b : Fin 4) (s : State), ((s.rd F.CLE_TRC_CFG_TRIG b ≠ 0 ∨ s.rd F.CLE_TRC_STAT_STATE b ≠ 1))) ∧
    (∃ (b : Fin 4) (s : State), s.rd F.CLE_TRC_STAT_STATE b ≠ 1 ∧ s.rd F.CLE_TRC_STAT_STATE b ≠ 2) ∧
    (∃ (b : Fin 4) (s : State), ((s.rd F.CLE_TRC_STAT_STATE b = 1 ∨ s.rd F.CLE_TRC_STAT_STATE b = 2))) :=
  ⟨⟨31, 0x80000001#32, st [], by decide +kernel⟩,
   ⟨31, 1, st [], by decide +kernel⟩,
   ⟨31, 0, st [], by decide +kernel⟩,
   ⟨31, 0, st [(F.CLE_SLOT_CFG_EN,31,1),(F.CLE_SLOT_CFG_ROLE,31,1)], by decide +kernel⟩,
   ⟨31, 0, setField (0x80000001#32) F.CLE_SLOT_CFG_ROLE 1, st [(F.CLE_SLOT_CFG_ROLE,0,1)], by decide +kernel⟩,
   ⟨31, 0x80000001#32, st [(F.CLE_SLOT_CFG_EN,31,1),(F.CLE_SLOT_CFG_PERIOD,31,2)], by decide +kernel⟩,
   ⟨31, st [(F.CLE_SLOT_CFG_EN,31,1)], by decide +kernel⟩,
   ⟨31, st [], by decide +kernel⟩,
   ⟨31, st [(F.CLE_SLOT_CFG_REPEN,31,1)], by decide +kernel⟩,
   ⟨st [(F.CLE_REP_STAT_LOCK,0,1)], by decide +kernel⟩,
   ⟨st [], by decide +kernel⟩,
   ⟨3, st [(F.CLE_TRC_STAT_STATE,3,1)], by decide +kernel⟩,
   ⟨3, st [], by decide +kernel⟩,
   ⟨3, st [], by decide +kernel⟩,
   ⟨3, st [(F.CLE_TRC_STAT_STATE,3,2)], by decide +kernel⟩⟩

/-- The hypotheses of ValveOutputsFansAndTachometers can be met, clause by clause. -/
theorem test_hypotheses_ValveOutputsFansAndTachometers :
    (∃ (a : Fin 4) (s : State), s.flag F.CIO_AO_CFG_FAULT a = false) ∧
    (∃ (a : Fin 4) (s : State), s.flag F.CIO_AO_CFG_FAULT a = true) ∧
    (∃ (s : State), ((∀ d, d < 8 → s.rd F.CIO_PWM_STAT_WHY d = 0))) ∧
    (∃ (c : Fin 8) (w : Word) (s : State), s.flag F.CIO_PWM_CFG_FGEN c = true ∧ s.rd F.CIO_PWM_STAT_WHY c ≠ 0 ∧ fieldOf w F.CIO_PWM_CFG_FGRP ≠
      s.rd F.CIO_PWM_CFG_FGRP c) ∧
    (∃ (c : Fin 8) (s : State), s.driven (8 + c) = false ∧ s.flag F.CIO_PWM_CFG_EN c = true ∧ s.flag F.CIO_STAT_VPERI = true ∧ s.rd
      F.CIO_PWM_STAT_WHY c = 0) ∧
    (∃ (c : Fin 8) (s : State), s.driven (8 + c) = true) ∧
    (∃ (t : Fin 8) (n : Word) (s : State), 50000 ≤ n.toNat ∧ s.pwm t ≠ 1) ∧
    (∃ (t : Fin 8) (n : Word) (s : State), 50000 ≤ n.toNat ∧ s.pwm t = 1 ∧ s.flag F.CIO_PWM_CFG_TACHEN t = true ∧ n.toNat * max 1 (s.rd
      F.CIO_PWM_CFG_TMIN t) < 1000000000) ∧
    (∃ (t : Fin 8) (n : Word) (s : State), n.toNat < 50000 ∧ s.flag F.CIO_PWM_STAT_OVR t = false ∧ s.pwm t ≠ 1) ∧
    (∃ (c : Fin 8) (s : State), s.pwm c ≠ 1) ∧
    (∃ (c : Fin 8) (s : State), s.pwm c = 1 ∧ s.flag F.CIO_PWM_CFG_TACHEN c = false) ∧
    (∃ (c : Fin 8) (s : State), s.pwm c = 1 ∧ s.flag F.CIO_PWM_CFG_TACHEN c = true ∧ s.rd F.CIO_PWM_STAT_TRIES c < 3) ∧
    (∃ (c : Fin 8) (s : State), s.pwm c = 1 ∧ s.flag F.CIO_PWM_CFG_TACHEN c = true ∧ 3 ≤ s.rd F.CIO_PWM_STAT_TRIES c) ∧
    (∃ (c : Fin 8) (s : State), s.pwm c = 4 ∧ s.rd F.CIO_PWM_STAT_TRIES c < 7) ∧
    (∃ (c : Fin 8) (s : State), s.pwm c ≠ 4) ∧
    (∃ (c : Fin 8) (s : State), s.pwm c = 2) ∧
    (∃ (c : Fin 8) (s : State), s.pwm c ≠ 2) ∧
    (∃ (c : Fin 8) (s : State), ((s.pwm c = 2 ∨ s.pwm c = 3)) ∧ s.flag F.CIO_PWM_CFG_TACHEN c = true) ∧
    (∃ (c : Fin 8) (s : State), s.flag F.CIO_PWM_CFG_TACHEN c = false) ∧
    (∃ (t : Fin 8) (s : State), s.flag F.CIO_PWM_STAT_OVR t = true) ∧
    (∃ (t : Fin 8) (s : State), s.flag F.CIO_PWM_STAT_OVR t = false) ∧
    (∃ (c : Fin 8) (s : State), s.rd F.CIO_PWM_STAT_WHY c ≠ 0 ∧ s.flag F.CIO_PWM_CFG_EN c = true ∧ s.flag F.CIO_STAT_VPERI = true ∧ s.pwm c = 5
      ∧ s.pwmCmd c ≠ 0) :=
  ⟨⟨3, st [], by decide +kernel⟩,
   ⟨3, st [(F.CIO_AO_CFG_FAULT,3,1)], by decide +kernel⟩,
   ⟨st [], by decide +kernel⟩,
   ⟨7, 0, st [(F.CIO_PWM_CFG_FGEN,7,1),(F.CIO_PWM_CFG_FGRP,7,3),(F.CIO_PWM_STAT_WHY,7,1)], by decide +kernel⟩,
   ⟨7, st [(F.CIO_PWM_CFG_EN,7,1),(F.CIO_STAT_VPERI,0,1)], by decide +kernel⟩,
   ⟨7, st [(F.CLE_SLOT_CFG_EN,31,1),(F.CLE_SLOT_IO_DST,31,15)], by decide +kernel⟩,
   ⟨7, 50000, st [(F.CIO_PWM_STAT_OVR,7,1)], by decide +kernel⟩,
   ⟨7, 50000, st [(F.CIO_PWM_STAT_STATE,7,1),(F.CIO_PWM_CFG_TACHEN,7,1)], by decide +kernel⟩,
   ⟨7, 49999, st [], by decide +kernel⟩,
   ⟨7, st [], by decide +kernel⟩,
   ⟨7, st [(F.CIO_PWM_STAT_STATE,7,1),(F.CIO_PWM_CFG_TACHEN,7,0)], by decide +kernel⟩,
   ⟨7, st [(F.CIO_PWM_STAT_STATE,7,1),(F.CIO_PWM_CFG_TACHEN,7,1),(F.CIO_PWM_STAT_TRIES,7,2)], by decide +kernel⟩,
   ⟨7, st [(F.CIO_PWM_STAT_STATE,7,1),(F.CIO_PWM_CFG_TACHEN,7,1),(F.CIO_PWM_STAT_TRIES,7,3)], by decide +kernel⟩,
   ⟨7, st [(F.CIO_PWM_STAT_STATE,7,4),(F.CIO_PWM_STAT_TRIES,7,6)], by decide +kernel⟩,
   ⟨7, st [], by decide +kernel⟩,
   ⟨7, st [(F.CIO_PWM_STAT_STATE,7,2)], by decide +kernel⟩,
   ⟨7, st [], by decide +kernel⟩,
   ⟨7, st [(F.CIO_PWM_STAT_STATE,7,3),(F.CIO_PWM_CFG_TACHEN,7,1)], by decide +kernel⟩,
   ⟨7, st [(F.CIO_PWM_CFG_TACHEN,7,0)], by decide +kernel⟩,
   ⟨7, st [(F.CIO_PWM_STAT_OVR,7,1)], by decide +kernel⟩,
   ⟨7, st [], by decide +kernel⟩,
   ⟨7, ci (fun c => {c with cmds := [(0x3C, 0x42480000#32)]}) (st
      [(F.CIO_PWM_STAT_WHY,7,1),(F.CIO_PWM_CFG_EN,7,1),(F.CIO_STAT_VPERI,0,1),(F.CIO_PWM_STAT_STATE,7,5)]), by decide +kernel⟩⟩

/-- The hypotheses of SensorsCheckedAgainstRangeAndEachOther can be met, clause by clause. -/
theorem test_hypotheses_SensorsCheckedAgainstRangeAndEachOther :
    (∃ (ch : Fin 10) (s : State), ch.val < 8 ∧ s.rd F.CIO_AI_CFG_MODE ch ≠ 1 ∧ s.rd F.CIO_AI_CFG_MODE ch ≠ 2) ∧
    (∃ (ch : Fin 10) (raw : Rat) (s : State), ch.val < 8 ∧ s.rd F.CIO_AI_CFG_MODE ch = 2 ∧ s.rd F.CIO_AI_CFG_FILT ch = 0 ∧ 18 / 5 ≤ raw ∧ raw ≤
      21) ∧
    (∃ (ch : Fin 10) (raw : Rat) (s : State), ch.val < 8 ∧ s.rd F.CIO_AI_CFG_MODE ch = 1 ∧ s.rd F.CIO_AI_CFG_FILT ch ≠ 0 ∧ -1 / 5 ≤ raw ∧ raw ≤
      21 / 2) ∧
    (∃ (ch : Fin 10) (raw : Rat) (s : State), ch.val < 8 ∧ s.rd F.CIO_AI_CFG_MODE ch = 2 ∧ ((raw < 18 / 5 ∨ 21 < raw)) ∧ s.cio.ranged.testBit
      (16 + ch) = false ∧ s.sensBad (16 + ch) = false ∧ s.psState ≠ 3 ∧ s.psState ≠ 4) ∧
    (∃ (ch : Fin 10) (raw : Rat), 8 ≤ ch.val ∧ 780 ≤ raw ∧ raw ≤ 1600) ∧
    (∃ (k : Fin 7) (v : Rat), k.val < 4 ∧ -10 ≤ v ∧ v ≤ 110) ∧
    (∃ (k : Fin 7) (v : Rat) (s : State), k.val < 4 ∧ ((v < -10 ∨ 110 < v)) ∧ s.cio.ranged.testBit k = false ∧ s.sensBad k = false ∧ s.psState ≠
      3 ∧ s.psState ≠ 4) ∧
    (∃ (k : Fin 7) (v : Rat), 4 ≤ k.val ∧ k.val < 6 ∧ -20 ≤ v ∧ v ≤ 1050) ∧
    (∃ (v : Rat), 0 ≤ v ∧ v ≤ 10) ∧
    (∃ (b : Fin 24) (s : State), s.cio.good.testBit b = true ∧ s.cio.latched.testBit b = false) ∧
    (∃ (b : Fin 24) (s : State), s.cio.good.testBit b = false) ∧
    (∃ (i : Fin 2) (a : Rat) (b : Rat) (s : State), s.temp (2 * i) = some a ∧ s.temp (2 * i + 1) = some b ∧ a + 1 < b ∧ s.source (0x21 + i) =
      none) ∧
    (∃ (i : Fin 2) (a : Rat) (b : Rat) (m : Rat) (s : State), s.temp (2 * i) = some a ∧ s.temp (2 * i + 1) = some b ∧ 1 < |a - b| ∧ s.source
      (0x21 + i) = some m ∧ |b - m| < |a - m|) ∧
    (∃ (i : Fin 2) (a : Rat) (b : Rat) (s : State), s.temp (2 * i) = some a ∧ s.temp (2 * i + 1) = some b ∧ |a - b| ≤ 1) ∧
    (∃ (s : State), s.flag F.CIO_HB_CFG_EN = false) ∧
    (∃ (s : State), s.flag F.CIO_HB_CFG_EN = true ∧ s.rd F.PWR_INPUT_P_1S < 300) ∧
    (∃ (ti : Rat) (o : Rat) (f : Rat) (s : State), s.flag F.CIO_HB_CFG_EN = true ∧ 300 ≤ s.rd F.PWR_INPUT_P_1S ∧ s.pairMean 0 = some ti ∧
      s.pairMean 1 = some o ∧ s.flowMean = some f ∧ 1 / 2 ≤ f ∧ 0 ≤ (o - ti) * f * s.heatK ∧ (o - ti) * f * s.heatK ≤ 65534 ∧ s.flag
      F.CIO_HB_STAT_FAULT = false ∧ s.cio.over_ = 0) ∧
    (∃ (b : Fin 32) (s : State), s.cio.latched.testBit b = true ∧ s.sensPasses b = true) ∧
    (∃ (b : Fin 32) (s : State), s.cio.latched.testBit b = true ∧ s.sensPasses b = false) :=
  ⟨⟨7, st [(F.CIO_AI_CFG_MODE,7,0)], by decide +kernel⟩,
   ⟨7, 18/5, st [(F.CIO_AI_CFG_MODE,7,2),(F.CIO_AI_CFG_FILT,7,0)], by decide +kernel⟩,
   ⟨7, 21/2, st [(F.CIO_AI_CFG_MODE,7,1),(F.CIO_AI_CFG_FILT,7,1)], by decide +kernel⟩,
   ⟨7, 22, st [(F.CIO_AI_CFG_MODE,7,2),(F.CIO_AI_CFG_FILT,7,0)], by decide +kernel⟩,
   ⟨9, 1600, by decide +kernel⟩,
   ⟨3, 110, by decide +kernel⟩,
   ⟨3, 111, st [], by decide +kernel⟩,
   ⟨5, 1050, by decide +kernel⟩,
   ⟨10, by decide +kernel⟩,
   ⟨23, ci (fun c => {c with good := 2^23}) State.reset, by decide +kernel⟩,
   ⟨23, st [], by decide +kernel⟩,
   ⟨1, 20, 22, ci (fun c => {c with reads := [(0x102, ⟨20,0⟩),(0x103, ⟨22,0⟩)]}) State.reset, by decide +kernel⟩,
   ⟨1, 20, 22, 22, ci (fun c => {c with reads := [(0x22, ⟨22,0⟩),(0x102, ⟨20,0⟩),(0x103, ⟨22,0⟩)]}) (st [(F.MTR_STAT_REACH,0,1)]),
      by decide +kernel⟩,
   ⟨1, 20, 21, ci (fun c => {c with reads := [(0x102, ⟨20,0⟩),(0x103, ⟨21,0⟩)]}) State.reset, by decide +kernel⟩,
   ⟨st [(F.CIO_HB_CFG_EN,0,0)], by decide +kernel⟩,
   ⟨st [(F.CIO_HB_CFG_EN,0,1),(F.PWR_INPUT_P_1S,0,299)], by decide +kernel⟩,
   ⟨20, 30, 5, ci (fun c => {c with hist := [(0x1C,[5]),(0x100,[20]),(0x102,[30])]}) (st [(F.CIO_HB_CFG_EN,0,1),(F.PWR_INPUT_P_1S,0,3000)]),
      by decide +kernel⟩,
   ⟨31, ci (fun c => {c with latched := 2^31}) State.reset, by decide +kernel⟩,
   ⟨31, ci (fun c => {c with latched := 2^31}) (st [(F.CIO_PWM_STAT_OVR,7,1)]), by decide +kernel⟩⟩

/-- The hypotheses of LeaksEmergenciesAndDigitalInputs can be met, clause by clause. -/
theorem test_hypotheses_LeaksEmergenciesAndDigitalInputs :
    (∃ (k : Fin 5) (s : State), s.leakOn k = false) ∧
    (∃ (k : Fin 5) (r : Word) (s : State), s.leakOn k = true ∧ leakBand r.toNat ≠ (getAt {} s.cio.leak k).band) ∧
    (∃ (k : Fin 5) (r : Word) (s : State), s.leakOn k = true ∧ 8000 ≤ r.toNat ∧ r.toNat ≤ 12000 ∧ (getAt {} s.cio.leak k).band = 1 ∧ 4 ≤ (getAt
      {} s.cio.leak k).run) ∧
    (∃ (k : Fin 5) (r : Word) (s : State), s.leakOn k = true ∧ s.leakResp k = true ∧ 200 ≤ r.toNat ∧ r.toNat ≤ 6000 ∧ (getAt {} s.cio.leak
      k).band = 2 ∧ 4 ≤ (getAt {} s.cio.leak k).run ∧ s.leakState k ≠ 1 ∧ s.flag F.CIO_LEAK_STAT_LATCH = false ∧ s.psState ≠ 3 ∧ s.psState ≠
      4 ∧ s.pwr.vcore = false) ∧
    (∃ (k : Fin 5) (r : Word) (s : State), s.leakOn k = true ∧ s.leakResp k = true ∧ 200 ≤ r.toNat ∧ r.toNat ≤ 6000 ∧ (getAt {} s.cio.leak
      k).band = 2 ∧ 4 ≤ (getAt {} s.cio.leak k).run ∧ s.leakState k ≠ 1 ∧ s.flag F.CIO_LEAK_STAT_LATCH = false ∧ s.psState ≠ 3 ∧ s.psState ≠
      4 ∧ s.pwr.vcore = true) ∧
    (∃ (k : Fin 5) (r : Word) (s : State), s.leakOn k = true ∧ 15000 < r.toNat ∧ (getAt {} s.cio.leak k).band = 3 ∧ 4 ≤ (getAt {} s.cio.leak
      k).run ∧ s.leakState k ≠ 2 ∧ s.flag F.CIO_LEAK_CFG_FWET k = false ∧ s.psState ≠ 3 ∧ s.psState ≠ 4) ∧
    (∃ (s : State), s.flag F.CIO_LEAK_STAT_LATCH = true) ∧
    (∃ (s : State), s.flag F.CIO_LEAK_STAT_LATCH = false) ∧
    (∃ (d : Nat) (s : State), s.cio.dryAt = some d ∧ s.flag F.CIO_LEAK_STAT_LATCH = true ∧ d + 10000000000 ≤ s.up ∧ s.pwr.vcore = true) ∧
    (∃ (d : Nat) (s : State), s.cio.dryAt = some d ∧ s.up < d + 10000000000) ∧
    (∃ (s : State), s.cio.dryAt = none) ∧
    (∃ (d : Fin 8) (high : Bool) (s : State), (s.rd F.CIO_DI_STAT_ACTIVE).testBit d = (high == s.flag F.CIO_DI_CFG_POL d)) ∧
    (∃ (d : Fin 8) (s : State), (s.rd F.CIO_DI_STAT_ACTIVE).testBit d = false ∧ s.rd F.CIO_DI_CFG_FUNC d = 0) ∧
    (∃ (d : Fin 8) (s : State), (s.rd F.CIO_DI_STAT_ACTIVE).testBit d = false ∧ s.rd F.CIO_DI_CFG_FUNC d = 3 ∧ s.psState ≠ 3 ∧ s.psState ≠ 4 ∧
      s.pwr.vcore = false) ∧
    (∃ (d : Fin 8) (s : State), (s.rd F.CIO_DI_STAT_ACTIVE).testBit d = false ∧ s.rd F.CIO_DI_CFG_FUNC d = 1 ∧ (s.rd
      F.CIO_DI_STAT_STUCK).testBit d = false ∧ 2 ≤ ((Assoc.get [] s.cio.wakes d).filter fun (t : Nat) => s.up ≤ t + 10000000000).length) :=
  ⟨⟨3, st [], by decide +kernel⟩,
   ⟨4, 9000, st [], by decide +kernel⟩,
   ⟨4, 8000, ci (fun c => {c with leak := [{},{},{},{},{band := 1, run := 4}]}) State.reset, by decide +kernel⟩,
   ⟨4, 6000, ci (fun c => {c with leak := [{},{},{},{},{band := 2, run := 4}]}) State.reset, by decide +kernel⟩,
   ⟨4, 200, pw (fun p => {p with vcore := true}) (ci (fun c => {c with leak := [{},{},{},{},{band := 2, run := 4}]}) State.reset),
      by decide +kernel⟩,
   ⟨3, 15001, ci (fun c => {c with leak := [{},{},{},{band := 3, run := 4},{}]}) (st [(F.CIO_LEAK_CFG_EN,3,1)]), by decide +kernel⟩,
   ⟨st [(F.CIO_LEAK_STAT_LATCH,0,1)], by decide +kernel⟩,
   ⟨st [], by decide +kernel⟩,
   ⟨0, pw (fun p => {p with vcore := true}) {ci (fun c => {c with dryAt := some 0}) (st [(F.CIO_LEAK_STAT_LATCH,0,1)]) with up := 10000000000},
      by decide +kernel⟩,
   ⟨0, ci (fun c => {c with dryAt := some 0}) State.reset, by decide +kernel⟩,
   ⟨st [], by decide +kernel⟩,
   ⟨7, true, st [], by decide +kernel⟩,
   ⟨7, st [(F.CIO_DI_CFG_FUNC,7,0)], by decide +kernel⟩,
   ⟨7, st [(F.CIO_DI_CFG_FUNC,7,3)], by decide +kernel⟩,
   ⟨7, ci (fun c => {c with wakes := [(7,[0,0])]}) (st [(F.CIO_DI_CFG_FUNC,7,1)]), by decide +kernel⟩⟩

/-- The hypotheses of RowControlIsTakenHeldAndPassed can be met, clause by clause. -/
theorem test_hypotheses_RowControlIsTakenHeldAndPassed :
    (∃ (s : State), s.rowState = 2 ∧ s.peerLow = false ∧ s.row.mirror = none) ∧
    (∃ (m : MirrorSet) (s : State), s.rowState = 2 ∧ s.peerLow = false ∧ s.row.mirror = some m ∧ 28 * s.rowSlots.length + 196 ≤ m.image.length) ∧
    (∃ (s : State), ((s.rowState ≠ 2 ∨ s.peerLow = true))) ∧
    (∃ (s : State), s.boot.off = false ∧ s.rowState = 3) ∧
    (∃ (s : State), s.boot.off = false ∧ s.rowState = 2 ∧ s.role = 2) ∧
    (∃ (s : State), s.boot.off = true) ∧
    (∃ (s : State), s.rowState = 0 ∧ ((s.role = 1 ∨ s.role = 2)) ∧ 7 ≤ s.rd F.CFG_STAT_STEP ∧ s.rd F.CFG_STAT_STEP ≤ 10) ∧
    (∃ (s : State), ((s.rowState ≠ 0 ∨ s.rd F.CFG_STAT_STEP < 7))) ∧
    (∃ (s : State), s.role = 0) ∧
    (∃ (s : State), s.role ≠ 0 ∧ s.rowState = 1 ∧ s.peerLow = false) ∧
    (∃ (s : State), s.role ≠ 0 ∧ s.rowState = 1 ∧ s.peerLow = true ∧ s.row.stuck = false) ∧
    (∃ (s : State), s.role ≠ 0 ∧ s.rowState ≠ 1) ∧
    (∃ (s : State), s.rowState = 1 ∧ s.peerLow = false ∧ s.peerFlag 2 = true) ∧
    (∃ (s : State), ((s.rowState ≠ 1 ∨ s.peerLow = true ∨ s.peerFlag 2 = false))) ∧
    (∃ (w : Fin 3) (s : State), s.rowState = 3 ∧ w.val < 2) ∧
    (∃ (s : State), s.rowState = 3 ∧ s.role = 1 ∧ s.peerLow = true) ∧
    (∃ (s : State), s.rowState ≠ 3) ∧
    (∃ (s : State), s.evr.chg.length < 64 ∧ s.rowState = 3 ∧ s.flag F.ROW_STAT_HB_OK = true ∧ s.peerFlag 5 = true) ∧
    (∃ (s : State), s.evr.chg.length < 64 ∧ ((s.rowState ≠ 3 ∨ s.flag F.ROW_STAT_HB_OK = false))) ∧
    (∃ (s : State), s.role ≠ 0 ∧ s.rowState ≠ 3 ∧ s.row.mirror.isSome = true) ∧
    (∃ (s : State), ((s.role = 0 ∨ s.rowState = 3 ∨ s.row.mirror = none))) :=
  ⟨⟨st [(F.ROW_STAT_STATE,0,2)], by decide +kernel⟩,
   ⟨⟨0,0,List.replicate 196 0⟩, rw' (fun r => {r with mirror := some ⟨0,0,List.replicate 196 0⟩}) (st [(F.ROW_STAT_STATE,0,2)]),
      by decide +kernel⟩,
   ⟨st [], by decide +kernel⟩,
   ⟨st [(F.ROW_STAT_STATE,0,3)], by decide +kernel⟩,
   ⟨st [(F.ROW_STAT_STATE,0,2),(F.ROW_CFG_ROLE,0,2)], by decide +kernel⟩,
   ⟨bt (fun b => {b with off := true}) State.reset, by decide +kernel⟩,
   ⟨st [(F.ROW_CFG_ROLE,0,2),(F.CFG_STAT_STEP,0,7)], by decide +kernel⟩,
   ⟨st [], by decide +kernel⟩,
   ⟨st [], by decide +kernel⟩,
   ⟨st [(F.ROW_CFG_ROLE,0,2),(F.ROW_STAT_STATE,0,1)], by decide +kernel⟩,
   ⟨st [(F.ROW_CFG_ROLE,0,2),(F.ROW_STAT_STATE,0,1),(F.ROW_STAT_ILK_PEER,0,1)], by decide +kernel⟩,
   ⟨st [(F.ROW_CFG_ROLE,0,2)], by decide +kernel⟩,
   ⟨rw' (fun r => {r with peer := some ⟨0,4,0,[]⟩}) (st [(F.ROW_STAT_STATE,0,1)]), by decide +kernel⟩,
   ⟨st [], by decide +kernel⟩,
   ⟨1, st [(F.ROW_STAT_STATE,0,3)], by decide +kernel⟩,
   ⟨st [(F.ROW_STAT_STATE,0,3),(F.ROW_CFG_ROLE,0,1),(F.ROW_STAT_ILK_PEER,0,1)], by decide +kernel⟩,
   ⟨st [], by decide +kernel⟩,
   ⟨rw' (fun r => {r with peer := some ⟨0,32,0,[]⟩}) (st [(F.ROW_STAT_STATE,0,3),(F.ROW_STAT_HB_OK,0,1)]), by decide +kernel⟩,
   ⟨st [], by decide +kernel⟩,
   ⟨rw' (fun r => {r with mirror := some ⟨0,0,[]⟩}) (st [(F.ROW_CFG_ROLE,0,2)]), by decide +kernel⟩,
   ⟨st [], by decide +kernel⟩⟩

/-- The hypotheses of RowPumpsBudgetAndCaps can be met, clause by clause. -/
theorem test_hypotheses_RowPumpsBudgetAndCaps :
    (∃ (k : Fin 4) (s : State), s.rowState ≠ 3 ∧ s.flag F.ROW_PUMP_FITTED k = true ∧ s.pumpSt k = 3) ∧
    (∃ (s : State), s.pumpsIn 3 = [] ∧ s.rowState ≠ 3) ∧
    (∃ (k : Fin 4) (s : State), s.rowState = 3 ∧ s.flag F.ROW_PUMP_FITTED k = true ∧ s.pumpSt k ≠ 3) ∧
    (∃ (k : Fin 4) (s : State), s.pumpSt k ≠ 2) ∧
    (∃ (s : State), s.rowState ≠ 3) ∧
    (∃ (o : Nat) (n : Nat) (s : State), s.rowState = 3 ∧ s.rd F.ROW_PUMP_CFG_ROTATE ≠ 0 ∧ s.byHours true (s.pumpsIn 2) = some o ∧ s.byHours
      false (s.pumpsIn 1) = some n) ∧
    (∃ (s : State), ((s.rowState ≠ 3 ∨ s.rd F.ROW_PUMP_CFG_ROTATE = 0))) ∧
    (∃ (k : Nat) (s : State), s.row.stopping = some k ∧ s.rowState = 3 ∧ s.pumpSt k = 2) ∧
    (∃ (s : State), s.row.stopping = none) ∧
    (∃ (s : State), s.rowState ≠ 3) ∧
    (∃ (s : State), s.rowState = 3) ∧
    (∃ (s : State), s.flag F.ROW_CFG_MEMBER = true ∧ s.row.tableAt.isSome = true ∧ s.flag F.PWR_CAP_ROW_STALE = false) ∧
    (∃ (s : State), ((s.flag F.ROW_CFG_MEMBER = false ∨ s.row.tableAt = none ∨ s.flag F.PWR_CAP_ROW_STALE = true))) :=
  ⟨⟨3, st [(F.ROW_PUMP_FITTED,3,1),(F.ROW_PUMP_STATE,3,3)], by decide +kernel⟩,
   ⟨st [], by decide +kernel⟩,
   ⟨3, st [(F.ROW_STAT_STATE,0,3),(F.ROW_PUMP_FITTED,3,1)], by decide +kernel⟩,
   ⟨3, st [], by decide +kernel⟩,
   ⟨st [], by decide +kernel⟩,
   ⟨0, 3, st
      [(F.ROW_STAT_STATE,0,3),(F.ROW_PUMP_CFG_ROTATE,0,1),(F.ROW_PUMP_FITTED,0,1),(F.ROW_PUMP_STATE,0,2),(F.ROW_PUMP_FITTED,3,1),(F.ROW_PUMP_STATE,3,1)],
      by decide +kernel⟩,
   ⟨st [], by decide +kernel⟩,
   ⟨0, rw' (fun r => {r with stopping := some 0}) (st [(F.ROW_STAT_STATE,0,3),(F.ROW_PUMP_FITTED,0,1),(F.ROW_PUMP_STATE,0,2)]),
      by decide +kernel⟩,
   ⟨st [], by decide +kernel⟩,
   ⟨st [], by decide +kernel⟩,
   ⟨st [(F.ROW_STAT_STATE,0,3)], by decide +kernel⟩,
   ⟨rw' (fun r => {r with tableAt := some 0}) (st [(F.ROW_CFG_MEMBER,0,1)]), by decide +kernel⟩,
   ⟨st [], by decide +kernel⟩⟩

/-- The hypotheses of ClarnChannelsCyclesAndQueues can be met, clause by clause. -/
theorem test_hypotheses_ClarnChannelsCyclesAndQueues :
    (∃ (s : State), s.boot.off = false ∧ s.rowState = 3) ∧
    (∃ (s : State), s.boot.off = false ∧ s.rowState ≠ 3 ∧ s.clarn.noRef = true) ∧
    (∃ (s : State), ((s.boot.off = true ∨ s.rowState ≠ 3 ∧ s.clarn.noRef = false))) ∧
    (∃ (c : Fin 2) (s : State), s.rowState ≠ 3 ∧ s.clarn.noRef = false ∧ s.chanOn c = true) ∧
    (∃ (s : State), ((s.rowState = 3 ∨ s.clarn.noRef = true))) ∧
    (∃ (k : Fin 32) (s : State), ((k.val = 0 ∨ s.boot.off = true ∨ fieldOf (s.inForce .CLN_SCHED (32 * s.clarn.cycle + k)) F.CLN_SCHED_VALID =
      0))) ∧
    (∃ (k : Fin 32) (n : Nat) (s : State), k.val ≠ 0 ∧ s.boot.off = false ∧ s.clarn.cycle < s.ncyc ∧ s.role ≠ 0 ∧ s.inForce .CLN_SCHED (32 *
      s.clarn.cycle + k) = BitVec.ofNat 32 (0x8000 + n % 128 * 256 + 2)) ∧
    (∃ (c : Fin 2) (x : Tx) (i : BitVec 29) (d : Nat) (s : State), s.chanOn c = true ∧ s.rd F.CLN_CH_CFG_MODE c = 0 ∧ ((s.tdcOn c = false ∨ d ≤
      127)) ∧ (s.chan c).pend = [x] ∧ x.id = i.toNat) ∧
    (∃ (c : Fin 2) (x : Tx) (i : BitVec 29) (d : Nat) (s : State), s.chanOn c = true ∧ (s.chan c).pend = [x] ∧ x.id = i.toNat ∧ s.tdcOn c = true
      ∧ 127 < d ∧ s.rd F.CLN_CH_STAT_STATE c = 0 ∧ s.rd F.CLN_CH_STAT_TEC c + 8 ≤ 127 ∧ s.rd F.CLN_CH_STAT_REC c ≤ 127) ∧
    (∃ (c : Fin 2) (i : BitVec 29) (s : State), ((s.chanOn c = false ∨ ∀ x ∈ (s.chan c).pend, x.id ≠ i.toNat))) ∧
    (∃ (c : Fin 2) (tec : BitVec 9) (s : State), s.chanOn c = true ∧ 255 < tec.toNat) ∧
    (∃ (c : Fin 2) (tec : BitVec 9) (r : BitVec 9) (s : State), s.chanOn c = true ∧ s.rd F.CLN_CH_STAT_STATE c ≠ 1 ∧ tec.toNat ≤ 255 ∧ ((127 <
      tec.toNat ∨ 127 < r.toNat))) ∧
    (∃ (c : Fin 2) (tec : BitVec 9) (r : BitVec 9) (s : State), s.chanOn c = true ∧ tec.toNat ≤ 127 ∧ r.toNat ≤ 127) ∧
    (∃ (c : Fin 2) (s : State), s.chanOn c = false) ∧
    (∃ (c : Fin 2) (s : State), s.flag F.CLN_CH_CFG_EN c = true ∧ s.rd F.CLN_CH_STAT_STATE c = 2) ∧
    (∃ (c : Fin 2) (s : State), s.rd F.CLN_CH_STAT_STATE c ≠ 2) ∧
    (∃ (s : State), fdLen (s.rd F.CLN_EVQ_LEN_LEN) = false) ∧
    (∃ (s : State), fdLen (s.rd F.CLN_EVQ_LEN_LEN) = true ∧ s.reg .CLN_EVQ_BUSY 0 = 0xFFFFFFFF) ∧
    (∃ (c : Fin 2) (s : State), fdLen (s.rd F.CLN_EVQ_LEN_LEN) = true ∧ s.reg .CLN_EVQ_BUSY 0 = 0 ∧ s.rd F.CLN_EVQ_ID_CH = 0 ∧ s.clarn.ch.length
      = 2 ∧ s.flag F.CLN_CH_CFG_EN c = true ∧ gatedClass (idClass (s.rd F.CLN_EVQ_ID_ID)) = false) ∧
    (∃ (s : State), s.clarn.ch.length = 2) ∧
    (∃ (c : Fin 2) (n : BitVec 9) (s : State), n.toNat ≤ (s.chan c).rxq.length ∧ (s.chan c).rxq.length ≤ 256) ∧
    (∃ (c : Fin 2) (w : Word) (s : State), s.flag F.CLN_CH_CFG_EN c = false ∧ fieldOf w F.CLN_CH_CFG_EN = 1 ∧ s.timingOk c = true ∧ fieldOf w
      F.CLN_CH_CFG_MODE ≠ 3) ∧
    (∃ (c : Fin 2) (w : Word) (s : State), s.flag F.CLN_CH_CFG_EN c = false ∧ fieldOf w F.CLN_CH_CFG_EN = 1 ∧ s.timingOk c = false) ∧
    (∃ (c : Fin 2) (w : Word) (s : State), s.flag F.CLN_CH_CFG_EN c = true ∧ fieldOf w F.CLN_CH_CFG_EN = 1 ∧ fieldOf w F.CLN_CH_CFG_MODE ≠ s.rd
      F.CLN_CH_CFG_MODE c) ∧
    (∃ (c : Fin 2) (s : State), s.flag F.CLN_CH_CFG_EN c = true ∧ c.val < s.clarn.ch.length) :=
  ⟨⟨st [(F.ROW_STAT_STATE,0,3)], by decide +kernel⟩,
   ⟨cn (fun c => {c with noRef := true}) State.reset, by decide +kernel⟩,
   ⟨st [], by decide +kernel⟩,
   ⟨1, st [(F.CLN_CH_CFG_EN,1,1)], by decide +kernel⟩,
   ⟨st [(F.ROW_STAT_STATE,0,3)], by decide +kernel⟩,
   ⟨0, st [], by decide +kernel⟩,
   ⟨31, 127,
      {(st [(F.ROW_CFG_ROLE,0,1)]) with clarn := {State.reset.clarn with staged := [(regKey .CLN_SCHED 31, BitVec.ofNat 32 (0x8000 + 127 * 256 + 2))]}},
      by decide +kernel⟩,
   ⟨1, ⟨5,[],0,0⟩, 5, 0, cn (fun c => {c with ch := [{}, {pend := [⟨5,[],0,0⟩]}]}) (st [(F.CLN_CH_CFG_EN,1,1)]), by decide +kernel⟩,
   ⟨1, ⟨5,[],0,0⟩, 5, 128, cn (fun c => {c with ch := [{}, {pend := [⟨5,[],0,0⟩]}]}) (st
      [(F.CLN_CH_CFG_EN,1,1),(F.CLN_CH_STAT_TEC,1,119),(F.CLN_CH_STAT_STATE,1,0),(F.CLN_CH_CFG_TDC_EN,1,1)]), by decide +kernel⟩,
   ⟨1, 5, st [], by decide +kernel⟩,
   ⟨1, 256, st [(F.CLN_CH_CFG_EN,1,1)], by decide +kernel⟩,
   ⟨1, 128, 0, st [(F.CLN_CH_CFG_EN,1,1)], by decide +kernel⟩,
   ⟨1, 127, 127, st [(F.CLN_CH_CFG_EN,1,1)], by decide +kernel⟩,
   ⟨1, st [], by decide +kernel⟩,
   ⟨1, st [(F.CLN_CH_CFG_EN,1,1),(F.CLN_CH_STAT_STATE,1,2)], by decide +kernel⟩,
   ⟨1, st [], by decide +kernel⟩,
   ⟨st [(F.CLN_EVQ_LEN_LEN,0,9)], by decide +kernel⟩,
   ⟨{State.reset with regs := (State.reset.setReg .CLN_EVQ_BUSY 0 0xFFFFFFFF).regs}, by decide +kernel⟩,
   ⟨1, st [(F.CLN_CH_CFG_EN,1,1),(F.CLN_EVQ_LEN_LEN,0,8),(F.CLN_EVQ_ID_CH,0,0),(F.CLN_EVQ_ID_ID,0,0x1000000)], by decide +kernel⟩,
   ⟨cn (fun c => {c with ch := [{pend := [⟨5,[],31,0⟩]}, {}]}) State.reset, by decide +kernel⟩,
   ⟨1, 1, cn (fun c => {c with ch := [{}, {rxq := [⟨0,5,false,[]⟩]}]}) State.reset, by decide +kernel⟩,
   ⟨1, 0x80000000#32, st
      [(F.CLN_NBT_NPRE,1,0),(F.CLN_NBT_NTSEG1,1,100),(F.CLN_NBT_NTSEG2,1,30),(F.CLN_NBT_NSJW,1,10),(F.CLN_DBT_DPRE,1,0),(F.CLN_DBT_DTSEG1,1,10),(F.CLN_DBT_DTSEG2,1,5),(F.CLN_DBT_DSJW,1,1)],
      by decide +kernel⟩,
   ⟨1, 0x80000000#32, st [(F.CLN_NBT_NTSEG1,1,0)], by decide +kernel⟩,
   ⟨1, 0x80000100#32, st [(F.CLN_CH_CFG_EN,1,1)], by decide +kernel⟩,
   ⟨1, st [(F.CLN_CH_CFG_EN,1,1)], by decide +kernel⟩⟩

/-- The hypotheses of ClarnFramesReceivedAndActedOn can be met, clause by clause. -/
theorem test_hypotheses_ClarnFramesReceivedAndActedOn :
    (∃ (f : CanFrame), fdLen f.data.length = false) ∧
    (∃ (c : Fin 2) (f : CanFrame) (s : State), fdLen f.data.length = true ∧ ((s.chanOn c = false ∨ s.rd F.CLN_CH_CFG_MODE c = 1))) ∧
    (∃ (c : Fin 2) (f : CanFrame) (s : State), fdLen f.data.length = true ∧ s.chanOn c = true ∧ s.rd F.CLN_CH_CFG_MODE c ≠ 1 ∧ ((f.fdExt = false
      ∨ f.id.toNat % 2 ^ 13 ≠ 0))) ∧
    (∃ (c : Fin 2) (f : CanFrame) (s : State), fdLen f.data.length = true ∧ s.chanOn c = true ∧ s.rd F.CLN_CH_CFG_MODE c ≠ 1 ∧ f.fdExt = true ∧
      f.id.toNat % 2 ^ 13 = 0 ∧ s.rxAccepts f.id.toNat (byteAt f.data 0) = false) ∧
    (∃ (c : Fin 2) (f : CanFrame) (s : State), fdLen f.data.length = true ∧ s.chanOn c = true ∧ s.rd F.CLN_CH_CFG_MODE c = 0 ∧ f.fdExt = true ∧
      f.id.toNat % 2 ^ 13 = 0 ∧ 16 ≤ idClass f.id.toNat ∧ idClass f.id.toNat < 32 ∧ s.rxAccepts f.id.toNat (byteAt f.data 0) = true ∧ c.val
      < s.clarn.ch.length ∧ (s.reg .CLN_RXQ_MASK_LO 0).getLsbD (idClass f.id.toNat) = true ∧ (s.chan c).rxq.length < 256) ∧
    (∃ (c : Fin 2) (f : CanFrame) (s : State), s.hears c f 0 = true ∧ s.rowState ≠ 3) ∧
    (∃ (c : Fin 2) (f : CanFrame) (s : State), s.hears c f 1 = true ∧ s.flag F.ROW_CFG_MEMBER = true ∧ byteAt f.data 1 = s.node / 32 ∧ s.node /
      32 < 3 ∧ ((∀ p < 3, p ≠ s.node / 32 → (s.row.tparts.any fun (e : Nat × Nat × List Byte) => e.1 = leAt f.data 2 2 ∧ e.2.1 = p) = true))
      ∧ bitsOf (leAt (sliceAt f.data 4 48) 0 48) (12 * (s.node % 32)) 12 ≠ 0) ∧
    (∃ (c : Fin 2) (f : CanFrame) (s : State), s.hears c f 2 = true ∧ s.role ≠ 0) ∧
    (∃ (c : Fin 2) (f : CanFrame) (s : State), s.hears c f 3 = true ∧ s.role ≠ 0 ∧ s.rowState = 0 ∧ byteAt f.data 1 = 0 ∧ byteAt f.data 2 = 1) ∧
    (∃ (c : Fin 2) (f : CanFrame) (s : State), s.hears c f 4 = true ∧ s.role ≠ 0 ∧ idNode f.id.toNat < 96 ∧ s.flag F.ROW_MEMBER_VALID (idNode
      f.id.toNat) = true) ∧
    (∃ (c : Fin 2) (k : Fin 4) (f : CanFrame) (s : State), s.hears c f 9 = true ∧ (byteAt f.data 1).testBit 1 = true ∧ s.rowState = 3 ∧ s.flag
      F.ROW_PUMP_FITTED k = true ∧ s.rd F.ROW_PUMP_NODE k = idNode f.id.toNat ∧ s.pumpSt k ≠ 3) :=
  ⟨⟨{fr 4 5 [] with data := List.replicate 9 0}, by decide +kernel⟩,
   ⟨1, fr 4 5 (List.replicate 16 1), st [], by decide +kernel⟩,
   ⟨1, {fr 4 5 (List.replicate 16 1) with fdExt := false}, st [(F.CLN_CH_CFG_EN,1,1)], by decide +kernel⟩,
   ⟨1, fr 4 5 (List.replicate 16 0), cn (fun c => {c with held := [((fr 4 5 []).id.toNat, 0)]}) (st [(F.CLN_CH_CFG_EN,1,1)]),
      by decide +kernel⟩,
   ⟨1, fr 31 5 (List.replicate 16 1), put [(F.CLN_RXQ_MASK_LO_CLASS,0,0x80000000)] (cn (fun c =>
      {c with ch := [{}, {rxq := List.replicate 255 ⟨0,5,false,[]⟩}]}) (st [(F.CLN_CH_CFG_EN,1,1)])), by decide +kernel⟩,
   ⟨1, fr 0 5 (List.replicate 12 1), st [(F.CLN_CH_CFG_EN,1,1)], by decide +kernel⟩,
   ⟨1, fr 1 5 ([1,0,0,0] ++ List.replicate 60 255), rw' (fun r => {r with tparts := [(0,1,[]),(0,2,[])]}) (st
      [(F.CLN_CH_CFG_EN,1,1),(F.ROW_CFG_MEMBER,0,1),(F.ROW_CFG_NODE,0,5)]), by decide +kernel⟩,
   ⟨1, fr 2 5 (List.replicate 8 1), st [(F.CLN_CH_CFG_EN,1,1),(F.ROW_CFG_ROLE,0,2)], by decide +kernel⟩,
   ⟨1, fr 3 5 ([1,0,1] ++ List.replicate 61 0), st [(F.CLN_CH_CFG_EN,1,1),(F.ROW_CFG_ROLE,0,2)], by decide +kernel⟩,
   ⟨1, fr 4 95 (List.replicate 16 1), st [(F.CLN_CH_CFG_EN,1,1),(F.ROW_CFG_ROLE,0,2),(F.ROW_MEMBER_VALID,95,1)], by decide +kernel⟩,
   ⟨1, 3, fr 9 100 (1 :: List.replicate 7 2), st
      [(F.CLN_CH_CFG_EN,1,1),(F.ROW_STAT_STATE,0,3),(F.ROW_PUMP_FITTED,3,1),(F.ROW_PUMP_NODE,3,100)], by decide +kernel⟩⟩

/-- The hypotheses of MeterCalculatesStoresAndSeals can be met, clause by clause. -/
theorem test_hypotheses_MeterCalculatesStoresAndSeals :
    (∃ (s : State), s.meter.running = false) ∧
    (∃ (v f ti o : Rat) (s : State), s.meter.running = true ∧ s.meter.medium = false ∧ s.meter.flags &&& 15 = 0 ∧ 3 / 10 ≤ f ∧ f ≤ 8 ∧ 10 ≤ ti ∧
      o ≤ 70 ∧ 1 ≤ o - ti ∧ o - ti ≤ 50 ∧ 0 ≤ v * Config.waterK ti o * (o - ti) ∧ 0 ≤ v) ∧
    (∃ (f : Rat) (ti : Rat) (o : Rat) (s : State), s.meter.running = true ∧ s.meter.medium = false ∧ s.meter.flags &&& 15 = 0 ∧ -20 ≤ ti ∧ ti ≤
      150 ∧ -20 ≤ o ∧ o ≤ 150 ∧ f < 1 / 10) ∧
    (∃ (v : Rat) (f : Rat) (ti : Rat) (o : Rat) (s : State), s.meter.running = true ∧ s.meter.medium = false ∧ s.meter.flags &&& 15 = 0 ∧ -20 ≤
      ti ∧ ti ≤ 150 ∧ -20 ≤ o ∧ o ≤ ti ∧ 1 / 10 ≤ f ∧ f ≤ 10 ∧ 0 ≤ v) ∧
    (∃ (ti : Rat) (s : State), s.meter.running = true ∧ ((ti < -20 ∨ 150 < ti))) ∧
    (∃ (s : State), s.meter.running = true) ∧
    (∃ (s : State), s.meter.running = false) ∧
    (∃ (s : State), s.meter.loopOpen = false) ∧
    (∃ (s : State), s.meter.loopOpen = true) ∧
    (∃ (a : BitVec 8) (s : State), s.meter.addressed a.toNat = true) ∧
    (∃ (a : BitVec 8) (s : State), s.meter.addressed a.toNat = false) ∧
    (∃ (a : BitVec 8) (s : State), s.meter.addressed a.toNat = true) ∧
    (∃ (a : BitVec 8) (s : State), s.meter.addressed a.toNat = true ∧ s.meter.loopOpen = false) ∧
    (∃ (a : BitVec 8) (s : State), s.meter.addressed a.toNat = true ∧ s.meter.loopOpen = true) ∧
    (∃ (a : BitVec 8) (x : BitVec 8) (s : State), s.meter.addressed a.toNat = true ∧ 1 ≤ x.toNat ∧ x.toNat ≤ 250) ∧
    (∃ (s : State), s.meter.loopOpen = true) ∧
    (∃ (s : State), s.meter.loopOpen = false) ∧
    (∃ (s : State), s.meter.loopOpen = true ∧ s.meter.running = false) :=
  ⟨⟨mt (fun m => {m with running := false}) State.reset, by decide +kernel⟩,
   ⟨0, 3 / 10, 10, 60, State.reset, rfl, rfl, rfl, by norm_num⟩,
   ⟨0, -20, 150, st [], by decide +kernel⟩,
   ⟨1, 10, 150, -20, st [], by decide +kernel⟩,
   ⟨151, st [], by decide +kernel⟩,
   ⟨st [], by decide +kernel⟩,
   ⟨mt (fun m => {m with running := false}) State.reset, by decide +kernel⟩,
   ⟨st [], by decide +kernel⟩,
   ⟨mt (fun m => {m with loopOpen := true}) State.reset, by decide +kernel⟩,
   ⟨1, st [], by decide +kernel⟩,
   ⟨2, st [], by decide +kernel⟩,
   ⟨1, st [], by decide +kernel⟩,
   ⟨1, st [], by decide +kernel⟩,
   ⟨1, mt (fun m => {m with loopOpen := true}) State.reset, by decide +kernel⟩,
   ⟨1, 250, st [], by decide +kernel⟩,
   ⟨mt (fun m => {m with loopOpen := true}) State.reset, by decide +kernel⟩,
   ⟨st [], by decide +kernel⟩,
   ⟨mt (fun m => {m with loopOpen := true, running := false}) State.reset, by decide +kernel⟩⟩

/-- The hypotheses of MeterSnapshotsAndRequests can be met, clause by clause. -/
theorem test_hypotheses_MeterSnapshotsAndRequests :
    (∃ (s : State), s.meter.running = false) ∧
    (∃ (s : State), s.meter.running = true ∧ s.boot.off = false) ∧
    (∃ (s : State), s.flag F.MTR_STAT_REACH = true) ∧
    (∃ (s : State), s.flag F.MTR_STAT_REACH = false) ∧
    (∃ (s : State), s.flag F.MTR_REQ_BUSY = true) ∧
    (∃ (s : State), s.flag F.MTR_REQ_BUSY = false ∧ s.meter.running = true) ∧
    (∃ (s : State), s.flag F.MTR_REQ_BUSY = false ∧ s.meter.running = true) ∧
    (∃ (n : BitVec 8) (x : MLog) (s : State), s.flag F.MTR_REQ_BUSY = false ∧ s.meter.running = true ∧ s.meter.log[n.toNat]? = some x) ∧
    (∃ (s : State), s.flag F.MTR_REQ_BUSY = false ∧ s.meter.running = true) ∧
    (∃ (s : State), s.flag F.MTR_REQ_BUSY = false ∧ s.meter.running = false) ∧
    (∃ (s : State), s.mtrIf.answer = none) ∧
    (∃ (l : List Word) (s : State), s.mtrIf.answer = some l ∧ s.rd F.MTR_REQ_CODE ≠ 2) ∧
    (∃ (l : List Word) (o : Nat) (s : State), s.mtrIf.answer = some l ∧ s.rd F.MTR_REQ_CODE = 2 ∧ s.mtrIf.thisChange = none ∧ s.mtrIf.prevChange
      = some o ∧ o ≠ (getAt 0 l 1).toNat) ∧
    (∃ (l : List Word) (s : State), s.mtrIf.answer = some l) ∧
    (∃ (s : State), s.flag F.MTR_REQ_BUSY = true) ∧
    (∃ (s : State), s.flag F.MTR_REQ_BUSY = false) ∧
    (∃ (s : State), s.meter.running = true ∧ s.boot.off = true) :=
  ⟨⟨mt (fun m => {m with running := false}) State.reset, by decide +kernel⟩,
   ⟨st [], by decide +kernel⟩,
   ⟨st [(F.MTR_STAT_REACH,0,1)], by decide +kernel⟩,
   ⟨st [], by decide +kernel⟩,
   ⟨st [(F.MTR_REQ_BUSY,0,1)], by decide +kernel⟩,
   ⟨st [], by decide +kernel⟩,
   ⟨st [], by decide +kernel⟩,
   ⟨0, ⟨1,2,3⟩, mt (fun m => {m with log := [⟨1,2,3⟩]}) State.reset, by decide +kernel⟩,
   ⟨st [], by decide +kernel⟩,
   ⟨mt (fun m => {m with running := false}) State.reset, by decide +kernel⟩,
   ⟨st [], by decide +kernel⟩,
   ⟨[7,8], {State.reset with mtrIf := {answer := some [7,8]}}, by decide +kernel⟩,
   ⟨[7,8], 3, {st [(F.MTR_REQ_CODE,0,2)] with mtrIf := {answer := some [7,8], prevChange := some 3}}, by decide +kernel⟩,
   ⟨[7,8], {State.reset with mtrIf := {answer := some [7,8]}}, by decide +kernel⟩,
   ⟨st [(F.MTR_REQ_BUSY,0,1)], by decide +kernel⟩,
   ⟨st [], by decide +kernel⟩,
   ⟨bt (fun b => {b with off := true}) State.reset, by decide +kernel⟩⟩

/-- The hypotheses of StepRunsTheFrontCommand can be met, clause by clause. -/
theorem test_hypotheses_StepRunsTheFrontCommand :
    (∃ (c : Instr) (l : List Instr) (s : State), s.pending = c :: l) ∧
    (∃ (s : State), s.pending = [] ∧ s.boot.off = true) :=
  ⟨⟨.resetN, [.heartbeat], {State.reset with pending := [.resetN, .heartbeat]}, by decide +kernel⟩,
   ⟨bt (fun b => {b with off := true}) State.reset, by decide +kernel⟩⟩

/-- The hypotheses of ResetLeavesTheModuleAtStepOne can be met, clause by clause. -/
theorem test_hypotheses_ResetLeavesTheModuleAtStepOne :
    ∃ (n : Nat), n < 16 :=
  ⟨15, by decide +kernel⟩

/-- The hypotheses of EveryStepKeepsTheMemoriesCanonical can be met, clause by clause. -/
theorem test_hypotheses_EveryStepKeepsTheMemoriesCanonical :
    ∃ (s t : State), s.memWf = true ∧ s.regsWf = true ∧ step s = .next t :=
  ⟨bt (fun b => {b with off := true}) State.reset, bt (fun b => {b with off := true}) State.reset, by decide +kernel, by decide +kernel,
    rfl⟩

/-- The hypotheses of WellFormedCommandsCompleteAndLeaveTheQueue can be met, clause by clause. -/
theorem test_hypotheses_WellFormedCommandsCompleteAndLeaveTheQueue :
    (∃ (c : Instr), c.wellFormed = true) ∧
    (∃ (c : Instr), c.wellFormed = false) :=
  ⟨⟨.heartbeat, by decide +kernel⟩,
   ⟨.sync 0 0 (mkI 1), by decide +kernel⟩⟩

/-- The hypotheses of PacketsInstructionsAndDescriptorsReadBack can be met, clause by clause. -/
theorem test_hypotheses_PacketsInstructionsAndDescriptorsReadBack :
    (∃ (p : Packet), p.lines.toNat ≤ 7 ∧ p.route ≠ 3 ∧ p.data.length = (if p.typ = 2 then 0 else 64 * p.lines.toNat)) ∧
    (∃ (p : Packet), 7 < p.lines.toNat) ∧
    (∃ (p : Packet) (l : List Byte), readPacket l = some p) :=
  ⟨⟨{pkt0 with lines := 7, data := List.replicate 448 255}, by decide +kernel⟩,
   ⟨{pkt0 with lines := 8}, by decide +kernel⟩,
   ⟨pkt0, pkt0.bytes ++ List.replicate 212 0, by decide +kernel⟩⟩

/-- The hypotheses of RegistersStandInTheirBlocks can be met, clause by clause. -/
theorem test_hypotheses_RegistersStandInTheirBlocks :
    (∃ (r : Reg) (i : Nat), i < r.info.count) ∧
    (∃ a, (0x70000 ≤ a ∧ a ≤ 0x7FFFF ∨ 0xD0000 ≤ a ∧ a ≤ 0xFFFFF ∨ 0x380000 ≤ a ∧ a ≤ 0x3FFFFF ∨ 0x510000 ≤ a)) ∧
    (∃ (s : State), s.evr.buf.length < 1024) :=
  ⟨⟨.CLU_STATE, 67, by decide +kernel⟩,
   ⟨0x510000, by decide +kernel⟩,
   ⟨ev (fun e => {e with buf := List.replicate 1023 rec0}) State.reset, by decide +kernel⟩⟩

/-- The hypotheses of ACrowdedBufferDisplacesLowerSeverities can be met, clause by clause. -/
theorem test_hypotheses_ACrowdedBufferDisplacesLowerSeverities :
    (∃ (s : State), s.evr.buf.length < 1024) ∧
    (∃ (r x : Rec) (l m : List Rec) (s : State), 1024 ≤ s.evr.buf.length ∧ s.evr.buf = l ++ x :: m ∧ x.sev < r.sev ∧ (∀ y ∈ m, y.sev ≠ x.sev) ∧
      (∀ y ∈ s.evr.buf, y.sev < r.sev → x.sev ≤ y.sev)) ∧
    (∃ (r : Rec) (s : State), 1024 ≤ s.evr.buf.length ∧ (∀ y ∈ s.evr.buf, r.sev ≤ y.sev)) ∧
    (∃ (n a b : Nat) (s : State), s.evr.lost = some (n, a, b) ∧ s.evr.buf.length < 1024) :=
  ⟨⟨ev (fun e => {e with buf := List.replicate 1023 rec0}) State.reset, by decide +kernel⟩,
   ⟨{rec0 with sev := 3}, rec0, List.replicate 1023 rec0, [], ev (fun e => {e with buf := List.replicate 1023 rec0 ++ [rec0]}) State.reset,
      by decide +kernel⟩,
   ⟨{rec0 with sev := 3}, ev (fun e => {e with buf := List.replicate 1024 {rec0 with sev := 3}}) State.reset, by decide +kernel⟩,
   ⟨1, 7, 7, ev (fun e => {e with lost := some (1, 7, 7)}) State.reset, by decide +kernel⟩⟩

/-- The hypotheses of ALostTachometerFailsItsChannel can be met, clause by clause. -/
theorem test_hypotheses_ALostTachometerFailsItsChannel :
    ∃ (c : Fin 8) (s : State), (s.pwm c = 2 ∨ s.pwm c = 3) ∧ s.flag F.CIO_PWM_CFG_TACHEN c = true ∧ s.evr.buf.length < 1024 :=
  ⟨7, put [(F.CIO_PWM_STAT_STATE,7,3),(F.CIO_PWM_CFG_TACHEN,7,1)] State.reset, by decide +kernel⟩

end Sys2Proof.Tests
end

section
/-! PROOFS.  Register accesses (R8, R9, R230, R260, R262, R445): what a rejection latches, which writes are plain, what a
guarded write and an HMP request come to, and the statement on them. -/

namespace Sys2Proof.Machine

/-! ### The word a write leaves (R9) -/

/-- Without W1C bits a write replaces the RW bits alone. -/
theorem accWord_of_no_w1c {r : Reg} (h : r.accMask .W1C = 0#32) (old w : Word) :
    accWord r old w = (old &&& ~~~(r.accMask .RW)) ||| (w &&& r.accMask .RW) := by
  rw [accWord, h, BitVec.and_comm (r.accMask .RW) w, BitVec.zero_and, BitVec.not_zero, BitVec.and_allOnes]

theorem accWord_and_rw (r : Reg) (old w : Word) : accWord r old w &&& r.accMask .RW = w &&& r.accMask .RW := by
  ext k
  simp only [accWord, BitVec.getElem_and, BitVec.getElem_or, BitVec.getElem_not]
  cases (r.accMask .RW)[k] <;> simp

/-- In a register without RW bits a W1C bit is cleared by a 1 and kept by a 0. -/
theorem accWord_and_w1c {r : Reg} (h : r.accMask .RW = 0) (old w : Word) :
    accWord r old w &&& r.accMask .W1C = old &&& r.accMask .W1C &&& ~~~w := by
  rw [accWord, h]
  ext k
  simp only [BitVec.getElem_and, BitVec.getElem_or, BitVec.getElem_not]
  cases (r.accMask .W1C)[k] <;> simp

/-! ### Plain writes -/

theorem State.reg_plainWrite_same (s : State) (r : Reg) (i : Nat) (w : Word) :
    (s.plainWrite r i w).reg r i = accWord r (s.reg r i) w := by
  rw [State.plainWrite, State.reg_setReg, if_pos ⟨rfl, rfl⟩]

theorem State.reg_plainWrite_idx (s : State) (r : Reg) (i k : Nat) (w : Word) (h : k ≠ i) :
    (s.plainWrite r i w).reg r k = s.reg r k := by
  rw [State.plainWrite, State.reg_setReg, if_neg fun e => h e.2]

theorem OnlyRegs.plainWrite (s : State) (r : Reg) (i : Nat) (w : Word) : OnlyRegs [r] s (s.plainWrite r i w) :=
  ⟨fun q j hq => State.reg_setReg_ne s r q i j _ (by simpa using hq), rfl⟩

/-- A frame of fewer registers is a frame of more. -/
theorem OnlyRegs.mono {rs rs' : List Reg} {s t : State} (h : OnlyRegs rs s t) (hsub : rs ⊆ rs') : OnlyRegs rs' s t :=
  ⟨fun q j hq => h.1 q j fun e => hq (hsub e), h.2⟩

/-- The plain registers that the statement names: a write has the effect of R9 and no other. -/
def plainRegs : List Reg := [.PWR_TJ_WARN, .PWR_FW_THR, .MEM_SCRUB_CTL, .SEC_ADMIT_MOD]

/-- The cause registers that the statement names: clearing their bits has no other effect. -/
def plainCauses : List Reg := [.PWR_CAUSE, .CIO_CAUSE, .CLE_CAUSE, .FAB_PORT_CAUSE, .ETH_PORT_CAUSE]

theorem accMask_w1c_of_plainRegs : ∀ r ∈ plainRegs, r.accMask .W1C = 0 := by decide

theorem accMask_rw_of_plainCauses : ∀ r ∈ plainCauses, r.accMask .RW = 0 := by decide

/-- Neither a cap nor a register with a change record of its own is among them. -/
theorem unlogged_of_plain : ∀ r ∈ plainRegs ++ plainCauses,
    r ≠ .PWR_CAP_CFG ∧ r ≠ .PWR_CAP_TRAY ∧ r ≠ .ROW_CMD ∧ r ≠ .CFG_TRAY ∧ rowLogged r = false := by decide

/-- A write of one of them is the plain write, and no other register's CFGERR can refuse it. -/
theorem State.tryWrite_of_plain (s : State) (m i : Nat) (w : Word) (r : Reg) (hr : r ∈ plainRegs ++ plainCauses) :
    s.tryWrite m r i w = (s.plainWrite r i w, false) := by
  simp only [plainRegs, plainCauses, List.cons_append, List.nil_append, List.mem_cons, List.not_mem_nil, or_false] at hr
  rcases hr with rfl | rfl | rfl | rfl | rfl | rfl | rfl | rfl | rfl <;> rfl

/-! ### Guarded writes (R276, R363, R445) -/

/-- A write that is neither closed nor a change record, and that its register takes, has the register's effect and status 0. -/
theorem State.guardedWrite_of_unlogged {s t : State} {hmp : Bool} {m i : Nat} {r : Reg} {w : Word}
    (hc : s.closed hmp m r i w = false) (hl : s.logged hmp r i w = false) (ho : s.selfLogged m r w = false)
    (ht : s.tryWrite m r i w = (t, false)) : s.guardedWrite hmp m r i w = (t, 0) := by
  simp [State.guardedWrite, hc, hl, ho, ht]

/-- A write that R445 refuses changes nothing and has status 3. -/
theorem State.guardedWrite_of_closed {s : State} {hmp : Bool} {m i : Nat} {r : Reg} {w : Word}
    (hc : s.closed hmp m r i w = true) : s.guardedWrite hmp m r i w = (s, 3) := if_pos hc

theorem State.selfLogged_eq_false (s : State) (m : Nat) {r : Reg} (w : Word) (h1 : r ≠ .ROW_CMD) (h2 : r ≠ .CFG_TRAY) :
    s.selfLogged m r w = false := by
  simp [State.selfLogged, h1, h2]

/-- A guarded write of a plain register by a master other than HMP is the plain write. -/
theorem State.guardedWrite_of_plain (s : State) (m i : Nat) (w : Word) (r : Reg) (hr : r ∈ plainRegs ++ plainCauses) :
    s.guardedWrite false m r i w = (s.plainWrite r i w, 0) := by
  obtain ⟨hcap, htray, hcmd, hcfg, hrow⟩ := unlogged_of_plain r hr
  refine State.guardedWrite_of_unlogged ?_ ?_ (State.selfLogged_eq_false s m w hcmd hcfg) (State.tryWrite_of_plain s m i w r hr)
  · simp [State.closed, htray]
  · simp [State.logged, hcap, htray, hrow]

/-! ### Accesses by address -/

theorem State.cluWake_of_awake (s : State) (a : Nat) (h : s.pwr.retention = false) : s.cluWake a = s := by
  simp [State.cluWake, h]

theorem State.cluWake_of_target (s : State) (a : Nat) (h : accTarget a ≠ 0x6E) : s.cluWake a = s := by
  simp [State.cluWake, h]

/-- A permitted access of a register comes to the guarded write of it, where it wakes nothing. -/
theorem State.accessWrite_at {s : State} {hmp : Bool} {m a i : Nat} {r : Reg} (w : Word) (hm : s.mayAccess m true a = true)
    (ha : regAt a = some (r, i)) (hw : s.cluWake a = s) : s.accessWrite hmp m a w = s.guardedWrite hmp m r i w := by
  simp [State.accessWrite, hm, ha, hw]

/-- A rejected access ends in the rejection, with status 1. -/
theorem State.accessWrite_of_denied {s : State} {hmp : Bool} {m a : Nat} (w : Word) (hm : s.mayAccess m true a = false) :
    s.accessWrite hmp m a w = (s.reject m (accTarget a) kWrite (accOffset a), 1) := by
  simp [State.accessWrite, hm]

/-- A write of an address without a register is ignored (R11). -/
theorem State.accessWrite_of_bare {s : State} {hmp : Bool} {m a : Nat} (w : Word) (hm : s.mayAccess m true a = true)
    (ha : regAt a = none) : s.accessWrite hmp m a w = (s, 0) := by
  simp [State.accessWrite, hm, ha]

theorem State.readEffect_of_quiet (s : State) (m i : Nat) {r : Reg} (h : r ∉ [Reg.TIM_NOW_LO, .CLE_TRC_DATA, .REC_WIN]) :
    s.readEffect m r i = s := by
  simp only [List.mem_cons, List.not_mem_nil, or_false, not_or] at h
  obtain ⟨h1, h2, h3⟩ := h
  unfold State.readEffect
  split
  · exact absurd rfl h1
  · exact absurd rfl h2
  · exact absurd rfl h3
  · rfl

/-- A permitted read of a register without a read effect answers what the master sees and changes nothing. -/
theorem State.accessRead_at {s : State} {m a i : Nat} {r : Reg} (hm : s.mayAccess m false a = true)
    (ha : regAt a = some (r, i)) (hr : r ∉ [Reg.TIM_NOW_LO, .CLE_TRC_DATA, .REC_WIN]) (hw : s.cluWake a = s) :
    s.accessRead m a = (s.view m r i, s, true) := by
  simp [State.accessRead, hm, ha, State.readEffect_of_quiet s m i hr, hw]

/-! ### Rejections (R262) -/

/-- The latch of a rejection: nothing while an earlier one is held. -/
def State.latchFault (s : State) (master target kind addr : Nat) : State :=
  if s.flag F.SEC_AF_LAST_VALID then s
  else (((((s.wr F.SEC_AF_LAST_VALID 0 1).wr F.SEC_AF_LAST_MASTER 0 master).wr F.SEC_AF_LAST_TARGET 0 target).wr
    F.SEC_AF_LAST_KIND 0 kind).wr F.SEC_AF_ADDR_LO_ADDR 0 addr).wr F.SEC_AF_ADDR_HI_ADDR 0 (addr / 2 ^ 32)

/-- Registers that a rejection writes besides those of a record. -/
def rejectRegs : List Reg := [.SEC_CAUSE, .SEC_AF_CNT, .SEC_AF_LAST, .SEC_AF_ADDR_LO, .SEC_AF_ADDR_HI]

/-- After its count and latch a rejection sets the cause bit, with a record or, for a pair seen within 1 ms, without. -/
theorem State.reject_cases (s : State) (m t k a : Nat) :
    s.reject m t k a = ((s.count F.SEC_AF_CNT_COUNT 0).latchFault m t k a).raiseBit F.SEC_CAUSE_ACCESS_FAULT 0 ∨
    ∃ l d, s.reject m t k a =
      ({ (s.count F.SEC_AF_CNT_COUNT 0).latchFault m t k a with afSeen := l }).raise F.SEC_CAUSE_ACCESS_FAULT 0 2 d m :=
  (ite_eq_or_eq _ _ _).imp id fun h => ⟨_, _, h⟩

theorem State.flag_latchFault (s : State) (m t k a : Nat) : (s.latchFault m t k a).flag F.SEC_AF_LAST_VALID = true := by
  unfold State.latchFault
  split
  · assumption
  · rw [State.flag_wr_ne _ _ _ _ _ _ (by decide), State.flag_wr_ne _ _ _ _ _ _ (by decide),
      State.flag_wr_ne _ _ _ _ _ _ (by decide), State.flag_wr_ne _ _ _ _ _ _ (by decide),
      State.flag_wr_ne _ _ _ _ _ _ (by decide), State.flag_wr_same _ _ _ _ (by decide)]
    rfl

theorem OnlyLogs.latchFault {s u : State} (h : OnlyLogs rejectRegs s u) (m t k a : Nat) :
    OnlyLogs rejectRegs s (u.latchFault m t k a) := by
  unfold State.latchFault
  split
  · exact h
  · exact (((((h.wr _ _ _ (by decide)).wr _ _ _ (by decide)).wr _ _ _ (by decide)).wr _ _ _ (by decide)).wr _ _ _
      (by decide)).wr _ _ _ (by decide)

theorem State.afSeen_latchFault (s : State) (m t k a : Nat) : (s.latchFault m t k a).afSeen = s.afSeen := by
  unfold State.latchFault
  split <;> rfl

/-- The same change of the pairs seen on both sides keeps a frame. -/
theorem OnlyLogs.withAfSeen {rs : List Reg} {s t : State} (h : OnlyLogs rs s t) (l : List (Nat × Nat)) :
    OnlyLogs rs { s with afSeen := l } { t with afSeen := l } :=
  ⟨h.1, congrArg (fun u : State => { u with afSeen := l }) h.2⟩

theorem State.flag_raiseBit (s : State) (f g : Fld) (i j : Nat) (h : g.reg ≠ .IRQ_TRAY_PEND) :
    (s.raiseBit f i).flag g j = (s.wr f i 1).flag g j := by
  rw [State.flag, State.rd, State.reg_raiseBit _ _ _ _ _ h]; rfl

theorem State.afSeen_raiseBit (s : State) (f : Fld) (i : Nat) : (s.raiseBit f i).afSeen = s.afSeen := by rw [State.raiseBit_eq]

theorem State.afSeen_raise (s : State) (f : Fld) (i sev : Nat) (d : List Word) (m : Nat) :
    (s.raise f i sev d m).afSeen = s.afSeen := by rw [State.raise_eq]

/-- A rejection latches the access fault and touches nothing beside its own registers, the pairs seen and its record. -/
theorem State.reject_latches (s : State) (m t k a : Nat) :
    (s.reject m t k a).flag F.SEC_CAUSE_ACCESS_FAULT = true ∧ (s.reject m t k a).flag F.SEC_AF_LAST_VALID = true ∧
      OnlyLogs rejectRegs { s with afSeen := (s.reject m t k a).afSeen } (s.reject m t k a) := by
  have hvalid := State.flag_latchFault (s.count F.SEC_AF_CNT_COUNT 0) m t k a
  have hcount : OnlyLogs rejectRegs s (s.count F.SEC_AF_CNT_COUNT 0) := (OnlyLogs.refl _ s).wr _ _ _ (by decide)
  have hframe := hcount.latchFault m t k a
  rcases State.reject_cases s m t k a with h | ⟨l, d, h⟩
  · rw [h]
    refine ⟨?_, ?_, ?_⟩
    · rw [State.flag_raiseBit _ _ _ _ _ (by decide), State.flag_wr_same _ _ _ _ (by decide)]; rfl
    · rw [State.flag_raiseBit _ _ _ _ _ (by decide), State.flag_wr_ne _ _ _ _ _ _ (by decide), hvalid]
    · rw [State.afSeen_raiseBit, State.afSeen_latchFault, State.count, State.afSeen_wr]
      exact hframe.raiseBit _ _ (by decide)
  · rw [h]
    refine ⟨?_, ?_, ?_⟩
    · rw [State.flag_raise _ _ _ _ _ _ _ _ (by decide), State.flag_wr_same _ _ _ _ (by decide)]; rfl
    · rw [State.flag_raise _ _ _ _ _ _ _ _ (by decide), State.flag_wr_ne _ _ _ _ _ _ (by decide)]
      exact hvalid
    · rw [State.afSeen_raise]
      exact (hframe.withAfSeen l).raise _ _ _ _ _ (by decide)

/-! ### REGISTER_WRITE -/

theorem execRegisterWrite_of_narrow {s : State} (m : BitVec 10) (a : BitVec 24) (w : Word) (h : s.boot.off = false) :
    execRegisterWrite m a false w s = .next (s.reject m.toNat (accTarget a.toNat) kWrite (accOffset a.toNat)) := by
  simp [execRegisterWrite, h]

theorem execRegisterWrite_of_wide {s : State} (m : BitVec 10) (a : BitVec 24) (w : Word) (h : s.boot.off = false) :
    execRegisterWrite m a true w s = .next (s.accessWrite false m.toNat a.toNat w).1 := by
  simp [execRegisterWrite, h]

/-- A permitted REGISTER_WRITE of a plain register is the plain write of it. -/
theorem execRegisterWrite_of_plain {s : State} {m : BitVec 10} {a : BitVec 24} {r : Reg} {i : Nat} (w : Word)
    (hoff : s.boot.off = false) (hret : s.pwr.retention = false) (hm : s.mayAccess m.toNat true a.toNat = true)
    (ha : regAt a.toNat = some (r, i)) (hr : r ∈ plainRegs ++ plainCauses) :
    execRegisterWrite m a true w s = .next (s.plainWrite r i w) := by
  rw [execRegisterWrite_of_wide m a w hoff, State.accessWrite_at w hm ha (State.cluWake_of_awake s _ hret),
    State.guardedWrite_of_plain s _ i w r hr]

/-! ### HMP requests (R230) -/

/-- Without the firmware or a session neither request is answered. -/
theorem execReg_of_no_session {s : State} {x : HmpHead} (a n : Word) (l : List Word)
    (h : s.hmpUp = false ∨ s.sessions.elem x.client = false) : execRegRead x a n s = .next s ∧ execRegWrite x a n l s = .next s := by
  have hno : (!s.hmpUp || !(s.sessions.elem x.client)) = true := by
    rcases h with h | h <;> rw [h] <;> simp
  exact ⟨if_pos hno, if_pos hno⟩

section Session
variable {s : State} {x : HmpHead} (hup : s.hmpUp = true) (hses : s.sessions.elem x.client = true)
include hup hses

theorem not_without_session : ¬ (!s.hmpUp || !(s.sessions.elem x.client)) = true := by
  rw [hup, hses]; decide

theorem execRegRead_malformed (a n : Word) (h : (!x.ok) = true ∨ n = 0 ∨ 256 < n.toNat) :
    execRegRead x a n s = .next (s.hmpSay x 1 2 []) :=
  (if_neg (not_without_session hup hses)).trans (if_pos h)

theorem execRegWrite_malformed (a n : Word) (l : List Word)
    (h : (!x.ok) = true ∨ n = 0 ∨ 256 < n.toNat ∨ l.length ≠ n.toNat) : execRegWrite x a n l s = .next (s.hmpSay x 2 2 []) :=
  (if_neg (not_without_session hup hses)).trans (if_pos h)

theorem execRegWrite_in_recovery {n : Word} {l : List Word} (a : Word) (hok : x.ok = true)
    (hrec : s.flag F.CFG_STAT_RECOVERY = true) (h0 : n ≠ 0) (h256 : n.toNat ≤ 256) (hl : l.length = n.toNat) :
    execRegWrite x a n l s = .next (s.hmpSay x 2 1 []) := by
  refine (if_neg (not_without_session hup hses)).trans ((if_neg ?_).trans (if_pos (by rw [hrec]; rfl)))
  simpa [hok, hl, Nat.not_lt.2 h256] using h0

/-- REG_READ of one register with a sound header reads that register. -/
theorem execRegRead_one {r : Reg} {i : Nat} {a : Word} (hok : x.ok = true) (hrec : s.flag F.CFG_STAT_RECOVERY = false)
    (hread : s.accessRead 0x80 a.toNat = (s.view 0x80 r i, s, true)) :
    execRegRead x a 1 s = .next (s.hmpSay x 1 0 (natLE 4 (s.view 0x80 r i).toNat)) := by
  have hall : s.hmpReadAll a.toNat (1 : Word).toNat = ([s.view 0x80 r i], s, true) := by
    change s.hmpReadAll a.toNat (0 + 1) = _
    simp [State.hmpReadAll, hrec, hread]
  refine (if_neg (not_without_session hup hses)).trans ((if_neg (by simp [hok])).trans ?_)
  rw [hall]
  simp

/-- REG_WRITE of one word with a sound header, out of recovery and with an identity, answers the access's status. -/
theorem execRegWrite_one {t : State} {n : Nat} {a w : Word} (hok : x.ok = true) (hrec : s.flag F.CFG_STAT_RECOVERY = false)
    (hid : s.rd F.SEC_STATE_ID ≠ 2) (hwrite : s.accessWrite true 0x80 a.toNat w = (t, n)) :
    execRegWrite x a 1 [w] s = .next (t.hmpSay x 2 n []) := by
  have hall : s.hmpWriteAll a.toNat [w] = (t, n) := by
    simp only [State.hmpWriteAll, hwrite]
    split
    · next h => rw [h]
    · rfl
  refine (if_neg (not_without_session hup hses)).trans ((if_neg (by simp [hok])).trans ((if_neg (by simp [hrec, hid])).trans ?_))
  rw [hall]

end Session

/-! ### HMP writes of an enable register -/

theorem regAt_pwrCauseIe : regAt (Reg.addr .PWR_CAUSE_IE 0) = some (.PWR_CAUSE_IE, 0) := by decide

/-- A management core may write every aligned address of a block, the meter's request space apart, whose writes are not kept from
it (R260). -/
theorem State.mayAccess_of_mgmt {m a : Nat} {b : Block} (s : State) (hm : m ≠ 0x84 ∧ isMgmt m = true) (h4 : a % 4 = 0)
    (hb : blockAt a = some b) (hk : writeKept m b (a - b.base) = true) (ht : accTarget a ≠ 0x71) :
    s.mayAccess m true a = true := by
  simp [State.mayAccess, State.grantsMaster, h4, hb, hk, hm, ht]

theorem State.mayAccess_pwrCauseIe (s : State) : s.mayAccess 0x80 true (Reg.addr .PWR_CAUSE_IE 0) = true :=
  s.mayAccess_of_mgmt (b := .PWR) (by decide) (by decide) (by decide) (by decide) (by decide)

/-- Through HMP the enables of a cause register are open at runtime and no change record (log entry 55). -/
theorem State.guardedWrite_pwrCauseIe (s : State) (w : Word) :
    s.guardedWrite true 0x80 .PWR_CAUSE_IE 0 w = (s.writeIe .PWR_CAUSE .PWR_CAUSE_IE 0 w, 0) := by
  have hset : setByConfig .PWR_CAUSE_IE = false := by decide
  refine State.guardedWrite_of_unlogged ?_ ?_ (State.selfLogged_eq_false s _ w (by decide) (by decide)) rfl
  · simp [State.closed, hset]
  · simp [State.logged, rowLogged, category]

theorem OnlyRegs.setPend {rs : List Reg} {s u : State} (b : Nat) (h : OnlyRegs rs s u) (hr : .IRQ_TRAY_PEND ∈ rs) :
    OnlyRegs rs { s with irqPulse := (u.setPend b).irqPulse } (u.setPend b) := by
  refine ⟨fun q j hq => ?_, ?_⟩
  · rw [State.reg_setPend _ _ _ _ (ne_of_mem_of_not_mem hr hq).symm]
    exact h.1 q j hq
  · rw [State.setPend_eq]
    exact congrArg (fun v : State => { v with irqPulse := (u.setPend b).irqPulse }) h.2

/-- A write of an enable register writes its RW bits, and beside it the tray's pending bits at most (R492). -/
theorem State.writeIe_effect (s : State) (c r : Reg) (i : Nat) (w : Word) (hr : r ≠ .IRQ_TRAY_PEND) :
    (s.writeIe c r i w).reg r i = accWord r (s.reg r i) w ∧
      OnlyRegs [r, .IRQ_TRAY_PEND] { s with irqPulse := (s.writeIe c r i w).irqPulse } (s.writeIe c r i w) := by
  have hplain : OnlyRegs [r, .IRQ_TRAY_PEND] s (s.plainWrite r i w) := (OnlyRegs.plainWrite s r i w).mono (by simp)
  unfold State.writeIe
  simp only
  split
  · exact ⟨State.reg_plainWrite_same s r i w, hplain⟩
  · exact ⟨by rw [State.reg_setPend _ _ _ _ hr, State.reg_plainWrite_same], hplain.setPend _ (by simp)⟩

/-- What only writes registers sends nothing. -/
theorem OnlyRegs.out_eq {rs : List Reg} {s t : State} (h : OnlyRegs rs s t) : t.out = s.out :=
  (congrArg State.out h.2 :)

/-- An answer sent is the only thing that `hmpSay` adds. -/
theorem OnlyRegs.hmpSay {rs : List Reg} {s t : State} (h : OnlyRegs rs s t) (x : HmpHead) (typ n : Nat) (l : List Byte) :
    OnlyRegs rs { s with out := (t.hmpSay x typ n l).out } (t.hmpSay x typ n l) :=
  ⟨h.1, congrArg (fun u : State => { u with out := (t.hmpSay x typ n l).out }) h.2⟩

/-- REG_WRITE of the PWR cause enables writes their RW bits and answers status 0. -/
theorem execRegWrite_pwrCauseIe {s : State} {x : HmpHead} {a : Word} (w : Word) (hup : s.hmpUp = true)
    (hses : s.sessions.elem x.client = true) (hok : x.ok = true) (hrec : s.flag F.CFG_STAT_RECOVERY = false)
    (hid : s.rd F.SEC_STATE_ID ≠ 2) (ha : a.toNat = Reg.addr .PWR_CAUSE_IE 0) :
    execRegWrite x a 1 [w] s = .next ((s.writeIe .PWR_CAUSE .PWR_CAUSE_IE 0 w).hmpSay x 2 0 []) := by
  refine execRegWrite_one hup hses hok hrec hid ?_
  rw [ha, State.accessWrite_at w s.mayAccess_pwrCauseIe regAt_pwrCauseIe (s.cluWake_of_target _ (by decide)),
    State.guardedWrite_pwrCauseIe]

/-! ### The statement -/

/-- Settles O34: a write comes to a rejection, to nothing or to the register's own write, and an HMP request to the checks of
its header and session and then to the same accesses. -/
theorem registerAccesses : Obligations.RegisterAccesses := by
  unfold Obligations.RegisterAccesses
  refine ⟨?off, ?narrow, ?denied, ?bare, ?plain, ?cause, ?read, ?readCount, ?noSession, ?header, ?writeCount, ?recovery,
    ?closed, ?enable⟩
  case off => exact fun _ _ _ _ _ h => if_pos h
  case narrow => exact fun m a w s h => ⟨_, execRegisterWrite_of_narrow m a w h, s.reject_latches _ _ _ _⟩
  case denied =>
    intro m a w s hoff hm
    refine ⟨_, execRegisterWrite_of_wide m a w hoff, ?_⟩
    rw [State.accessWrite_of_denied w hm]
    obtain ⟨hfault, _, hframe⟩ := s.reject_latches m.toNat (accTarget a.toNat) kWrite (accOffset a.toNat)
    exact ⟨hfault, hframe⟩
  case bare =>
    intro m a w s hoff hm ha
    refine (execRegisterWrite_of_wide m a w hoff).trans ?_
    rw [State.accessWrite_of_bare w hm ha]
  case plain =>
    intro m a w s r i hr hoff hret hm ha
    refine ⟨_, execRegisterWrite_of_plain w hoff hret hm ha (List.mem_append_left _ hr), ?_,
      fun k hk => s.reg_plainWrite_idx r i k w hk, OnlyRegs.plainWrite s r i w⟩
    rw [State.reg_plainWrite_same, accWord_of_no_w1c (accMask_w1c_of_plainRegs r hr)]
  case cause =>
    intro m a w s r i hr hoff hret hm ha
    refine ⟨_, execRegisterWrite_of_plain w hoff hret hm ha (List.mem_append_right _ hr), ?_, OnlyRegs.plainWrite s r i w⟩
    rw [State.reg_plainWrite_same, accWord_and_w1c (accMask_rw_of_plainCauses r hr)]
  case read =>
    intro x a s r i hup hses hok hrec hm ha hr hret
    exact execRegRead_one hup hses hok hrec (State.accessRead_at hm ha hr (s.cluWake_of_awake _ hret))
  case readCount => exact fun x a n s hup hses _ hn => execRegRead_malformed hup hses a n (.inr hn)
  case noSession => exact fun x a n l s h => execReg_of_no_session a n l h
  case header =>
    intro x a n l s hup hses hok
    have hbad : (!x.ok) = true := by rw [hok]; rfl
    exact ⟨execRegRead_malformed hup hses a n (.inl hbad), execRegWrite_malformed hup hses a n l (.inl hbad)⟩
  case writeCount => exact fun x a n l s hup hses _ hn => execRegWrite_malformed hup hses a n l (.inr hn)
  case recovery => exact fun x a n l s hup hses hok hrec h0 h256 hl => execRegWrite_in_recovery hup hses a hok hrec h0 h256 hl
  case closed =>
    intro x a w s r i hup hses hok hrec hid hm ha hret hc
    refine execRegWrite_one hup hses hok hrec hid ?_
    rw [State.accessWrite_at w hm ha (s.cluWake_of_awake _ hret), State.guardedWrite_of_closed hc]
  case enable =>
    intro x a w s hup hses hok hrec hid ha
    obtain ⟨hreg, hframe⟩ := s.writeIe_effect .PWR_CAUSE .PWR_CAUSE_IE 0 w (by decide)
    refine ⟨_, execRegWrite_pwrCauseIe w hup hses hok hrec hid ha, ?_, ?_, hframe.hmpSay x 2 0 []⟩
    · exact congrArg (· ++ [Emit.hmp x.client 0x8002 0 x.seq.toNat []]) hframe.out_eq
    · exact (congrArg (· &&& Reg.accMask .PWR_CAUSE_IE .RW) hreg).trans (accWord_and_rw _ _ w)

end Sys2Proof.Machine
end

section
/-! PROOFS.  Flags after writes and raised causes, frames of registers and of records, and folds. -/

namespace Sys2Proof.Machine

/-! ### Folds over lists -/

/-- What one element brings about and every element keeps holds after all of them. -/
theorem foldl_of_mem {α σ : Type} (P : σ → Prop) (f : σ → α → σ) (hkeep : ∀ s x, P s → P (f s x)) {x : α}
    (hx : ∀ s, P (f s x)) (l : List α) (s : σ) (hl : x ∈ l) : P (l.foldl f s) := by
  induction l generalizing s with
  | nil => exact absurd hl List.not_mem_nil
  | cons y l ih =>
    rcases List.mem_cons.1 hl with rfl | hl
    · exact List.foldlRecOn l f (hx s) fun s hs y _ => hkeep s y hs
    · exact ih _ hl

/-! ### One-bit fields -/

theorem State.flag_wr_one (s : State) (f : Fld) (i : Nat) (h : f.lo ≤ f.hi ∧ f.hi < 32) : (s.wr f i 1).flag f i = true := by
  rw [State.flag_wr_same _ _ _ _ h, Nat.mod_eq_of_lt (Nat.one_lt_two_pow (by omega))]; rfl

theorem State.flag_wr_zero (s : State) (f : Fld) (i : Nat) (h : f.lo ≤ f.hi ∧ f.hi < 32) : (s.wr f i 0).flag f i = false := by
  rw [State.flag_wr_same _ _ _ _ h, Nat.zero_mod]; rfl

/-- A raised cause is set. -/
theorem State.flag_raise_same (s : State) (f : Fld) (i sev : Nat) (d : List Word) (m : Nat)
    (h : f.reg ∉ recRegs ∧ f.lo ≤ f.hi ∧ f.hi < 32) : (s.raise f i sev d m).flag f i = true := by
  rw [State.flag_raise _ _ _ _ _ _ _ _ h.1, State.flag_wr_one _ _ _ h.2]

/-- Raising a cause leaves the other flags outside the recorder's registers as they were. -/
theorem State.flag_raise_ne (s : State) (f g : Fld) (i j sev : Nat) (d : List Word) (m : Nat)
    (h : g.reg ∉ recRegs ∧ (g.reg ≠ f.reg ∨ (f.lo ≤ f.hi ∧ (g.hi < f.lo ∨ f.hi < g.lo)))) :
    (s.raise f i sev d m).flag g j = s.flag g j := by
  rw [State.flag_raise _ _ _ _ _ _ _ _ h.1, State.flag_wr_ne _ _ _ _ _ _ h.2]

theorem fieldOf_lt (w : Word) (f : Fld) : fieldOf w f < 2 ^ (f.hi + 1 - f.lo) := Nat.mod_lt _ (Nat.two_pow_pos _)

/-! ### Frames of registers -/

section Frames
variable {rs : List Reg} {s u : State}

theorem State.rd_congr {g : Fld} {i : Nat} (h : u.reg g.reg i = s.reg g.reg i) : u.rd g i = s.rd g i := by
  rw [State.rd, State.rd, h]

theorem State.flag_congr {g : Fld} {i : Nat} (h : u.reg g.reg i = s.reg g.reg i) : u.flag g i = s.flag g i := by
  rw [State.flag, State.flag, State.rd_congr h]

variable (h : OnlyRegs rs s u)
include h

theorem OnlyRegs.setReg {r : Reg} (i : Nat) (w : Word) (hr : r ∈ rs) : OnlyRegs rs s (u.setReg r i w) :=
  ⟨fun q j hq => (State.reg_setReg_ne _ _ _ _ _ _ (ne_of_mem_of_not_mem hr hq).symm).trans (h.1 q j hq), h.2⟩

theorem OnlyRegs.foldl {α : Type} {f : State → α → State} (l : List α) (hf : ∀ v x, OnlyRegs rs s v → OnlyRegs rs s (f v x)) :
    OnlyRegs rs s (l.foldl f u) :=
  List.foldlRecOn l f h fun v hv x _ => hf v x hv

theorem OnlyRegs.trans {t : State} (h' : OnlyRegs rs u t) : OnlyRegs rs s t :=
  ⟨fun r i hr => (h'.1 r i hr).trans (h.1 r i hr), h'.2.trans h.2⟩

end Frames

/-! ### Frames of records -/

theorem OnlyLogs.trans {rs : List Reg} {s t u : State} (h : OnlyLogs rs s t) (h' : OnlyLogs rs t u) : OnlyLogs rs s u :=
  ⟨fun r i hr => (h'.1 r i hr).trans (h.1 r i hr), h'.2.trans h.2⟩

/-- A frame of fewer registers is a frame of more. -/
theorem OnlyLogs.mono {rs rs' : List Reg} {s t : State} (h : OnlyLogs rs s t) (hsub : rs ⊆ rs') : OnlyLogs rs' s t :=
  ⟨fun r i hr => h.1 r i fun e => hr ((List.mem_append.1 e).elim (List.mem_append_left _ <| hsub ·) (List.mem_append_right _)), h.2⟩

/-- What changes the recorder's own state alone keeps a frame. -/
theorem OnlyLogs.withEvr {rs : List Reg} {s t : State} (h : OnlyLogs rs s t) (e : RecState) : OnlyLogs rs s { t with evr := e } :=
  ⟨h.1, h.2⟩

theorem OnlyLogs.requestFlush {rs : List Reg} {s t : State} (h : OnlyLogs rs s t) : OnlyLogs rs s t.requestFlush :=
  ⟨fun r i hr => (State.reg_requestFlush t r i fun e => hr (List.mem_append_right _ (by simp [e, recRegs]))).trans (h.1 r i hr), h.2⟩

theorem OnlyLogs.insertRec {rs : List Reg} {s t : State} (h : OnlyLogs rs s t) (r : Rec) : OnlyLogs rs s (t.insertRec r) :=
  ⟨fun q i hq => (State.reg_insertRec t r q i fun e => hq (List.mem_append_right _ e)).trans (h.1 q i hq),
    (by rw [State.insertRec_eq]; rfl : (t.insertRec r).logless = t.logless).trans h.2⟩

/-! ### Free values -/

/-- Nothing has changed but the place in the free values. -/
def OnlyFree (s t : State) : Prop := t = { s with free := t.free }

theorem OnlyFree.trans {s t u : State} (h : OnlyFree s t) (h' : OnlyFree t u) : OnlyFree s u := by
  have ht : t = { s with free := t.free } := h
  have hu : u = { t with free := u.free } := h'
  exact hu.trans (congrArg (fun v : State => { v with free := u.free }) ht)

theorem OnlyFree.onlyLogs {s t : State} (h : OnlyFree s t) (rs : List Reg) : OnlyLogs rs { s with free := t.free } t :=
  (congrArg (OnlyLogs rs · t) h).mp (OnlyLogs.refl rs t)

end Sys2Proof.Machine
end

section
/-! PROOFS.  The reference clock, the time base and the saved counters (R24, R423, R425, R426), and the statement on them. -/

namespace Sys2Proof.Machine

/-! ### The reference clock (R24) -/

/-- The domains run from the reference or from the backup oscillator, and the change raises its cause. -/
def State.onClock (s : State) (backup ok : Nat) (cause : Fld) : State :=
  (((s.wr F.SYS_CLK_BACKUP 0 backup).wr F.SYS_CLK_REF_OK 0 ok).wr F.TIM_STAT_HOLDOVER 0 backup).raise cause

/-- Precision time is in holdover exactly on the backup oscillator. -/
theorem State.onClock_effect (s : State) (b k : Nat) {f : Fld} (hf : f.reg = .SYS_CAUSE ∧ f.lo ≤ f.hi ∧ f.hi < 32) :
    (s.onClock b k f).flag F.SYS_CLK_BACKUP = decide (b % 2 ≠ 0) ∧ (s.onClock b k f).flag F.SYS_CLK_REF_OK = decide (k % 2 ≠ 0) ∧
      (s.onClock b k f).flag F.TIM_STAT_HOLDOVER = decide (b % 2 ≠ 0) ∧ (s.onClock b k f).flag f = true ∧
      OnlyLogs [.SYS_CLK, .TIM_STAT, .SYS_CAUSE] s (s.onClock b k f) := by
  obtain ⟨hreg, hbits⟩ := hf
  have hraise (u : State) (g : Fld) (hg : g.reg ∉ recRegs ∧ g.reg ≠ .SYS_CAUSE) : (u.raise f).flag g = u.flag g :=
    State.flag_raise_ne _ _ _ _ _ _ _ _ ⟨hg.1, .inl (by rw [hreg]; exact hg.2)⟩
  refine ⟨?_, ?_, ?_, State.flag_raise_same _ _ _ _ _ _ ⟨by rw [hreg]; decide, hbits⟩, ?_⟩
  · rw [State.onClock, hraise _ _ (by decide), State.flag_wr_ne _ _ _ _ _ _ (by decide), State.flag_wr_ne _ _ _ _ _ _ (by decide),
      State.flag_wr_same _ _ _ _ (by decide)]
    rfl
  · rw [State.onClock, hraise _ _ (by decide), State.flag_wr_ne _ _ _ _ _ _ (by decide), State.flag_wr_same _ _ _ _ (by decide)]
    rfl
  · rw [State.onClock, hraise _ _ (by decide), State.flag_wr_same _ _ _ _ (by decide)]
    rfl
  · exact ((((OnlyLogs.refl _ s).wr _ _ _ (by decide)).wr _ _ _ (by decide)).wr _ _ _ (by decide)).raise _ _ _ _ _
      (by rw [hreg]; decide)

/-! ### The time base (R423) -/

/-- The same time base on both sides keeps a frame. -/
theorem OnlyLogs.withTime {rs : List Reg} {s t : State} (h : OnlyLogs rs s t) (v : BitVec 64) :
    OnlyLogs rs { s with timeBase := v, timeFrac := 0 } { t with timeBase := v, timeFrac := 0 } :=
  ⟨h.1, congrArg (fun u : State => { u with timeBase := v, timeFrac := 0 }) h.2⟩

theorem State.timeBase_raise (s : State) (f : Fld) (i sev : Nat) (d : List Word) (m : Nat) :
    (s.raise f i sev d m).timeBase = s.timeBase := by rw [State.raise_eq]

/-- TIM_SET is a number of 64 bits. -/
theorem State.timSet_lt (s : State) : s.timSet < 2 ^ 64 := by
  have hhi : s.rd F.TIM_SET_HI_NS < 2 ^ 32 := fieldOf_lt _ F.TIM_SET_HI_NS
  have hlo : s.rd F.TIM_SET_LO_NS < 2 ^ 32 := fieldOf_lt _ F.TIM_SET_LO_NS
  simp only [State.timSet]
  omega

/-- Setting the time base clears the marks of an untrusted time and raises STEP. -/
theorem State.setTime_effect (s : State) (v m : Nat) :
    (s.setTime v m).timeBase = BitVec.ofNat 64 v ∧ (s.setTime v m).flag F.TIM_STAT_UNSET = false ∧
      (s.setTime v m).flag F.TIM_STAT_DISC = false ∧ (s.setTime v m).flag F.TIM_STAT_AONSTOP = false ∧
      (s.setTime v m).flag F.TIM_CAUSE_STEP = true ∧
      OnlyLogs [.TIM_STAT, .TIM_CAUSE] { s with timeBase := BitVec.ofNat 64 v, timeFrac := 0 } (s.setTime v m) := by
  unfold State.setTime
  refine ⟨State.timeBase_raise _ _ _ _ _ _, ?_, ?_, ?_, State.flag_raise_same _ _ _ _ _ _ (by decide), ?_⟩
  · simp (disch := decide) only [State.flag_raise_ne, State.flag_wr_ne, State.flag_wr_zero]
  · simp (disch := decide) only [State.flag_raise_ne, State.flag_wr_ne, State.flag_wr_zero]
  · simp (disch := decide) only [State.flag_raise_ne, State.flag_wr_zero]
  · exact ((((OnlyLogs.refl _ _).wr _ _ _ (by decide)).wr _ _ _ (by decide)).wr _ _ _ (by decide)).raise _ _ _ _ _ (by decide)

/-- The word TIM_SET writes to TIM_CTL has its SET bit. -/
theorem fieldOf_timCtl_set (w : Word) : fieldOf (w ||| 2) F.TIM_CTL_SET = 1 := by
  have h : (w ||| 2).toNat.testBit 1 = true := by
    rw [BitVec.toNat_or, Nat.testBit_or, Bool.or_eq_true]
    exact .inr (by decide)
  rw [Nat.testBit_eq_decide_div_mod_eq] at h
  exact of_decide_eq_true h

/-- With no lock a write of SET to TIM_CTL sets the time base, with a lock it writes PTP_EN alone. -/
theorem State.writeTimCtl_set (s : State) (m : Nat) (w : Word) (h : fieldOf w F.TIM_CTL_SET = 1) :
    s.writeTimCtl m w = if s.flag F.TIM_STAT_LOCKED = false then
      (s.wr F.TIM_CTL_PTP_EN 0 (fieldOf w F.TIM_CTL_PTP_EN)).setTime s.timSet m
    else s.wr F.TIM_CTL_PTP_EN 0 (fieldOf w F.TIM_CTL_PTP_EN) := by
  have hlock (v : Nat) : (s.wr F.TIM_CTL_PTP_EN 0 v).flag F.TIM_STAT_LOCKED = s.flag F.TIM_STAT_LOCKED :=
    State.flag_wr_ne _ _ _ _ _ _ (by decide)
  have hset (v : Nat) : (s.wr F.TIM_CTL_PTP_EN 0 v).timSet = s.timSet := by
    simp (disch := decide) only [State.timSet, State.rd_wr_ne]
  simp only [State.writeTimCtl, h, hlock, hset, true_and]

theorem execTimSet_unlocked (m : BitVec 10) {s : State} (h : s.flag F.TIM_STAT_LOCKED = false) :
    ∃ t, execTimSet m s = .next t ∧
      t.timeBase.toNat = s.rd F.TIM_SET_HI_NS * 2 ^ 32 + s.rd F.TIM_SET_LO_NS ∧ t.flag F.TIM_STAT_UNSET = false ∧
      t.flag F.TIM_STAT_DISC = false ∧ t.flag F.TIM_STAT_AONSTOP = false ∧ t.flag F.TIM_CAUSE_STEP = true ∧
      OnlyLogs [.TIM_CTL, .TIM_STAT, .TIM_CAUSE] { s with timeBase := t.timeBase, timeFrac := 0 } t := by
  have hw : execTimSet m s = .next _ :=
    congrArg Host.Outcome.next ((State.writeTimCtl_set s m.toNat _ (fieldOf_timCtl_set _)).trans (if_pos h))
  obtain ⟨hbase, hunset, hdisc, haon, hstep, hframe⟩ := State.setTime_effect (s.wr F.TIM_CTL_PTP_EN 0
    (fieldOf (s.reg .TIM_CTL 0 ||| 2) F.TIM_CTL_PTP_EN)) s.timSet m.toNat
  refine ⟨_, hw, ?_, hunset, hdisc, haon, hstep, ?_⟩
  · rw [hbase, BitVec.toNat_ofNat, Nat.mod_eq_of_lt s.timSet_lt, State.timSet]
  · rw [hbase]
    have hctl (x : Nat) : OnlyLogs [.TIM_CTL, .TIM_STAT, .TIM_CAUSE] s (s.wr F.TIM_CTL_PTP_EN 0 x) :=
      (OnlyLogs.refl _ s).wr _ _ _ (by decide)
    exact ((hctl _).withTime _).trans (hframe.mono (by decide))

theorem execTimSet_locked (m : BitVec 10) {s : State} (h : s.flag F.TIM_STAT_LOCKED = true) :
    ∃ t, execTimSet m s = .next t ∧ OnlyRegs [.TIM_CTL] s t :=
  ⟨_, congrArg Host.Outcome.next ((State.writeTimCtl_set s m.toNat _ (fieldOf_timCtl_set _)).trans (if_neg (by simp [h]))),
    (OnlyRegs.refl _ s).wr _ _ _ (by decide)⟩

/-! ### Counters (R426) -/

/-- The module with other saved counters. -/
def State.withCounters (s : State) (cs : List (Option (Nat × Nat × Nat))) : State := { s with nv := { s.nv with counters := cs } }

/-- Of two copies one takes the counters and the other stays. -/
theorem State.persist_two {s : State} {a b : Option (Nat × Nat × Nat)} (h : s.nv.counters = [a, b]) :
    ∃ q, s.persist true = s.withCounters [some (s.rd F.TIM_OPTIME_COUNT, s.rd F.TIM_CYCLES_COUNT, q), b] ∨
      s.persist true = s.withCounters [a, some (s.rd F.TIM_OPTIME_COUNT, s.rd F.TIM_CYCLES_COUNT, q)] := by
  simp only [State.persist, if_true, h, State.withCounters]
  rcases a with _ | a
  · exact ⟨_, .inl rfl⟩
  · rcases b with _ | b
    · exact ⟨_, .inr rfl⟩
    · by_cases hlt : a.2.2 < b.2.2
      · exact ⟨_, .inl (congrArg s.withCounters (if_pos hlt))⟩
      · exact ⟨_, .inr (congrArg s.withCounters (if_neg hlt))⟩

/-- COUNTER_PERSIST puts both counters into one of the two copies and changes nothing else. -/
theorem execCounterPersist_saved {s : State} (h : s.nv.counters.length = 2) :
    ∃ t q, execCounterPersist true s = .next t ∧
      some (s.rd F.TIM_OPTIME_COUNT, s.rd F.TIM_CYCLES_COUNT, q) ∈ t.nv.counters ∧ t.nv.counters.length = 2 ∧
      t = { s with nv := { s.nv with counters := t.nv.counters } } := by
  obtain ⟨a, b, hab⟩ := List.length_eq_two.1 h
  obtain ⟨q, hq | hq⟩ := State.persist_two hab
  · exact ⟨_, q, congrArg Host.Outcome.next hq, List.mem_cons_self, rfl, rfl⟩
  · exact ⟨_, q, congrArg Host.Outcome.next hq, List.mem_cons_of_mem _ List.mem_cons_self, rfl, rfl⟩

/-! ### AON_OSC_STOP and the statement -/

theorem execAonOscStop_effect (s : State) :
    ∃ t, execAonOscStop s = .next t ∧ t.flag F.TIM_STAT_AONSTOP = true ∧ t.flag F.TIM_STAT_DISC = true ∧
      t.flag F.TIM_CAUSE_DISC = true ∧ OnlyLogs [.TIM_STAT, .TIM_CAUSE] s t := by
  refine ⟨_, rfl, ?_, ?_, State.flag_raise_same _ _ _ _ _ _ (by decide), ?_⟩
  · simp (disch := decide) only [State.flag_raise_ne, State.flag_wr_ne, State.flag_wr_one]
  · simp (disch := decide) only [State.flag_raise_ne, State.flag_wr_one]
  · exact (((OnlyLogs.refl _ s).wr _ _ _ (by decide)).wr _ _ _ (by decide)).raise _ _ _ _ _ (by decide)

/-- Settles O1: each command is a few field writes and at most one raised cause, whose frames compose. -/
theorem referenceClockAndTimeBase : Obligations.ReferenceClockAndTimeBase := by
  unfold Obligations.ReferenceClockAndTimeBase
  refine ⟨?loss, ?restored, ?set, ?locked, ?read, ?aon, ?saved, ?failed⟩
  case loss => exact fun s h => ⟨s.onClock 1 0 F.SYS_CAUSE_REF_LOSS, if_neg (by simp [h]), s.onClock_effect 1 0 (by decide)⟩
  case restored => exact fun s h => ⟨s.onClock 0 1 F.SYS_CAUSE_REF_BACK, if_pos h, s.onClock_effect 0 1 (by decide)⟩
  case set => exact fun m s h => execTimSet_unlocked m h
  case locked => exact fun m s h => execTimSet_locked m h
  case read => exact fun m s => rfl
  case aon => exact fun s => execAonOscStop_effect s
  case saved => exact fun s h => execCounterPersist_saved h
  case failed =>
    exact fun s => ⟨_, rfl, State.flag_raise_same _ _ _ _ _ _ (by decide), (OnlyLogs.refl _ s).raise _ _ _ _ _ (by decide)⟩

end Sys2Proof.Machine
end

section
/-! PROOFS.  The end of jobs, the stop and the training of links, and the alarm leave the trip and core power as they were. -/

namespace Sys2Proof.Machine

/-! ### What the ends of jobs and links leave as it was -/

/-- Registers of the trip and of partition states, which no step of an ending writes but the one that ends a job. -/
def heldRegs : List Reg := [.PWR_TRIP, .PWR_CAUSE, .ETH_PART_STATE]

/-- What ending jobs, taking links down and queueing alarms leave: the stacks and stores, core power, the trip and its causes;
and no partition comes into JOB. -/
structure Still (s t : State) : Prop where
  mem : t.mem = s.mem
  store : t.store = s.store
  pwr : t.pwr = s.pwr
  trip : ∀ i, t.reg .PWR_TRIP i = s.reg .PWR_TRIP i
  cause : ∀ i, t.reg .PWR_CAUSE i = s.reg .PWR_CAUSE i
  job : ∀ n, t.pstate n = 2 → s.pstate n = 2

section Still
variable {s u v : State}

theorem Still.refl (s : State) : Still s s := ⟨rfl, rfl, rfl, fun _ => rfl, fun _ => rfl, fun _ h => h⟩

theorem Still.ite {c : Prop} [Decidable c] (hu : Still s u) (hv : Still s v) : Still s (if c then u else v) := by
  split <;> assumption

theorem Still.foldl {α : Type} {f : State → α → State} (h : Still s u) (l : List α)
    (hf : ∀ v x, Still s v → Still s (f v x)) : Still s (l.foldl f u) :=
  List.foldlRecOn l f h fun v hv x _ => hf v x hv

variable (h : Still s u)
include h

/-- A change outside these fields and registers. -/
theorem Still.regs (hm : v.mem = u.mem) (hs : v.store = u.store) (hp : v.pwr = u.pwr)
    (hr : ∀ r ∈ heldRegs, ∀ i, v.reg r i = u.reg r i) : Still s v where
  mem := hm.trans h.mem
  store := hs.trans h.store
  pwr := hp.trans h.pwr
  trip i := (hr _ (by decide) i).trans (h.trip i)
  cause i := (hr _ (by decide) i).trans (h.cause i)
  job n hn := h.job n (by rwa [State.pstate, State.rd, hr _ (by decide)] at hn)

/-- A change of fields that are none of these. -/
theorem Still.other (hm : v.mem = u.mem) (hs : v.store = u.store) (hp : v.pwr = u.pwr) (hr : v.regs = u.regs) : Still s v :=
  h.regs hm hs hp fun r _ i => by rw [State.reg, State.reg, hr]

theorem Still.setReg {r : Reg} (i : Nat) (w : Word) (hr : r ∉ heldRegs) : Still s (u.setReg r i w) :=
  h.regs rfl rfl rfl fun _ hq _ => State.reg_setReg_ne _ _ _ _ _ _ (ne_of_mem_of_not_mem hq hr)

theorem Still.wr {f : Fld} (i v : Nat) (hf : f.reg ∉ heldRegs) : Still s (u.wr f i v) := h.setReg i _ hf

theorem Still.record (a b c e g : Nat) (d : List Word) (m : Nat) : Still s (u.record a b c e g d m) :=
  h.regs (by rw [State.record_eq]) (by rw [State.record_eq]) (by rw [State.record_eq]) fun q hq _ =>
    State.reg_record _ _ _ _ _ _ _ _ q _ ((by decide : ∀ q ∈ heldRegs, q ∉ recRegs) q hq)

theorem Still.raise {f : Fld} (i sev : Nat) (d : List Word) (m : Nat) (hf : f.reg ∉ heldRegs) : Still s (u.raise f i sev d m) :=
  h.regs (by rw [State.raise_eq]) (by rw [State.raise_eq]) (by rw [State.raise_eq]) fun q hq j => by
    rw [State.reg_raise _ _ _ _ _ _ _ _ ((by decide : ∀ q ∈ heldRegs, q ∉ recRegs) q hq),
      State.reg_wr_ne _ _ _ _ _ _ (ne_of_mem_of_not_mem hq hf)]

theorem Still.modRun (n : Nat) (f : Cmd → Cmd) : Still s (u.modRun n f) := h.other rfl rfl rfl rfl

theorem Still.modPart (n : Nat) (f : Part → Part) : Still s (u.modPart n f) := h.other rfl rfl rfl rfl

theorem Still.modLink (j : Nat) (f : Link → Link) : Still s (u.modLink j f) := h.other rfl rfl rfl rfl

theorem Still.modChan (c : Nat) (f : Chan → Chan) : Still s (u.modChan c f) := h.other rfl rfl rfl rfl

theorem Still.modColl (c : Coll) (f : Coll → Coll) : Still s (u.modColl c f) := h.other rfl rfl rfl rfl

theorem Still.modDesc (id : Nat) (f : DescRun → DescRun) : Still s (u.modDesc id f) := h.other rfl rfl rfl rfl

theorem Still.setTx (k : Nat) (f : TxFlow) : Still s (u.setTx k f) := h.other rfl rfl rfl rfl

theorem Still.addPeer (n m : Nat) : Still s (u.addPeer n m) := h.other rfl rfl rfl rfl

theorem Still.emit (e : Emit) : Still s (u.emit e) := h.other rfl rfl rfl rfl

theorem Still.stopPattern (n : Nat) : Still s (u.stopPattern n) := h.other rfl rfl rfl rfl

/-! ### Tokens and descriptors -/

theorem Still.tokAdd (k n : Nat) : Still s (u.tokAdd k n).1 := by
  have h1 : Still s { u with tok := Assoc.set 0 u.tok k (min (u.tokCount k + n) 65535), tokSig := Assoc.put u.tokSig k u.up } :=
    h.other rfl rfl rfl rfl
  unfold State.tokAdd
  simp only
  split
  · exact h1
  · split
    · exact h1
    · next p _ =>
      have h2 := h1.raise (f := F.CLU_CAUSE_TOKOVF) p 0 [] 0x3FF (by decide)
      split
      · exact h2
      · exact (h2.modRun _ _).stopPattern _

theorem Still.bobSignal (p : Nat) (d : BobDesc) : Still s (u.bobSignal p d) := by
  unfold State.bobSignal
  split
  · split
    · exact h.tokAdd _ _
    · exact h
  · exact h

theorem Still.endDesc (d : DescRun) : Still s (u.endDesc d) := by
  have h1 : Still s { u with fab := { u.fab with descs := u.fab.descs.erase d } } := h.other rfl rfl rfl rfl
  unfold State.endDesc
  refine .ite ?_ (Still.bobSignal (.ite h1 (h1.modRun _ _)) _ _)
  exact h1.other rfl rfl rfl rfl

theorem Still.failDesc (desc : Option Nat) (status origin : Nat) : Still s (u.failDesc desc status origin) := by
  cases desc with
  | none => exact h
  | some id => exact h.other rfl rfl rfl rfl

theorem Still.settle (desc : Option Nat) (n : Nat) : Still s (u.settle desc n) := by
  cases desc with
  | none => exact h
  | some id => exact h.modDesc _ _

theorem Still.unsettle (desc : Option Nat) : Still s (u.unsettle desc) := by
  cases desc with
  | none => exact h
  | some id => exact h.modDesc _ _

/-! ### Packets sent -/

theorem Still.enqueue (j : Nat) (p : Packet) (e : Bool) : Still s (u.enqueue j p e) :=
  .ite h (.ite (u := { u with fab := { u.fab with inbox := u.fab.inbox ++ [(j, p)] } }) (h.other rfl rfl rfl rfl) (h.modLink _ _))

theorem Still.sendNow (p : Packet) (desc : Option Nat) : Still s (u.sendNow p desc) := by
  unfold State.sendNow
  simp only
  split
  · exact ((h.raise _ _ _ _ (by decide)).failDesc _ _ _).settle _ _
  · exact (h.setTx _ _).enqueue _ _ _

theorem Still.inject (p : Packet) (desc : Option Nat) : Still s (u.inject p desc) := by
  have h2 : Still s ((if p.cls = 3 then u else u.addPeer p.srcPart.toNat p.dstMod.toNat).unsettle desc) :=
    Still.unsettle (.ite h (h.addPeer _ _)) desc
  unfold State.inject
  exact .ite (h.failDesc _ _ _) (.ite (h2.sendNow _ _) (h2.setTx _ _))

theorem Still.sendCtl (c : Coll) (dst kind count : Nat) : Still s (u.sendCtl c dst kind count) := h.inject _ _

/-! ### Collectives -/

theorem Still.setBusy (n id v : Nat) : Still s (u.setBusy n id v) :=
  .ite (h.setReg _ _ (by decide)) (h.setReg _ _ (by decide))

theorem Still.collOver (c : Coll) (ok : Bool) : Still s (u.collOver c ok) := by
  unfold State.collOver
  have h1 (f : Coll → Coll) : Still s ((u.modColl c f).setBusy c.part c.id 0) :=
    (h.modColl _ _).setBusy _ _ _
  have h2 (f : Coll → Coll) : Still s (if ok then (u.modColl c f).setBusy c.part c.id 0 else
      ((u.modColl c f).setBusy c.part c.id 0).raise F.FAB_TR_CAUSE_COLL_FAIL 0 0 [wd c.part, wd c.id]) :=
    .ite (h1 f) ((h1 f).raise _ _ _ _ (by decide))
  have h3 : ∀ w : State, Still s w → ∀ g : Cmd → Cmd, Still s (if c.poison && ok then w.modRun c.part g else w) :=
    fun w hw g => .ite (hw.modRun _ _) hw
  simp only
  split
  · exact Still.endDesc (h3 _ (h2 _) _) _
  · exact h3 _ (h2 _) _

theorem Still.collDecide (c : Coll) : Still s (u.collDecide c) := by
  have h1 : Still s ((u.others c).foldl (fun s r => if c.sentCommit then s.sendCtl c r 2 c.mark else s.sendCtl c r 3 0) u) :=
    h.foldl _ fun v r hv => .ite (hv.sendCtl _ _ _ _) (hv.sendCtl _ _ _ _)
  exact .ite (h1.collOver _ _) h1

theorem Still.collSettle (c : Coll) : Still s (u.collSettle c) :=
  .ite (h.collDecide c) (h.foldl _ fun _ _ hv => hv.sendCtl _ _ _ _)

theorem Still.collAbort (c : Coll) : Still s (u.collAbort c) := .ite (h.collSettle c) (h.sendCtl _ _ _ _)

/-! ### The end of a job -/

theorem Still.endColls (n : Nat) : Still s (u.endColls n) :=
  h.foldl _ fun _ _ hv => .ite ((hv.collAbort _).collOver _ _) (hv.collAbort _)

theorem Still.endLoans (n : Nat) : Still s (u.endLoans n) :=
  Still.setReg (Still.modPart (h.foldl _ fun _ _ hv => hv.inject _ _) _ _) _ _ (by decide)

theorem Still.relaxEnd (n : Nat) : Still s (u.relaxEnd n) :=
  .ite ((h.modPart _ _).record _ _ _ _ _ _ _) h

theorem Still.loseRep (n : Nat) : Still s (u.loseRep n) := by
  have h1 : Still s { u with beats := [] } := h.other rfl rfl rfl rfl
  exact .ite (.ite ((h1.wr _ _ (by decide)).raise _ _ _ _ (by decide)) h1) h

/-- ENDED is not JOB. -/
theorem Still.toEnded (n : Nat) : Still s (u.wr F.ETH_PART_STATE_STATE n 3) where
  mem := h.mem
  store := h.store
  pwr := h.pwr
  trip i := (State.reg_wr_ne _ _ _ _ _ _ (by decide)).trans (h.trip i)
  cause i := (State.reg_wr_ne _ _ _ _ _ _ (by decide)).trans (h.cause i)
  job k hk := by
    by_cases e : k = n
    · subst e
      rw [State.pstate, State.rd_wr_same _ _ _ _ (by decide)] at hk
      exact absurd hk (by decide)
    · rw [State.pstate, State.rd_wr_idx _ _ _ _ _ _ e] at hk
      exact h.job k hk

theorem Still.abandon (n : Nat) : Still s (u.abandon n) :=
  h.other rfl rfl rfl rfl

theorem Still.jobEnd (n status origin : Nat) : Still s (u.jobEnd n status origin) := by
  have hrun : Still s (u.endRunning n status origin) := h.other rfl rfl rfl rfl
  have habandon : Still s (((u.endRunning n status origin).endColls n).abandon n) :=
    (hrun.endColls n).abandon n
  exact .ite ((((habandon.endLoans n).relaxEnd n).loseRep n).toEnded n) h

theorem Still.jobEndAll (status origin : Nat) : Still s (u.jobEndAll status origin) :=
  h.foldl _ fun _ n hv => hv.jobEnd n status origin

/-! ### Links and alarms -/

theorem Still.setLanes (p : Nat) (l : List Nat) (st : Nat) : Still s (u.setLanes p l st) :=
  h.foldl _ fun _ _ hv => hv.wr _ _ (by decide)

theorem Still.portStat (p : Nat) : Still s (u.portStat p) := by
  have h1 (a b : Nat) : Still s ((u.wr F.FAB_PORT_STAT_LINKS_UP p a).wr F.FAB_PORT_STAT_LANES_UP p b) :=
    (h.wr _ _ (by decide)).wr _ _ (by decide)
  unfold State.portStat
  simp only
  split
  · exact (h1 _ _).wr _ _ (by decide)
  · exact h1 _ _

theorem Still.clearLink (j st : Nat) : Still s (u.clearLink j st) := by
  have h1 (a : Nat) (f : Link → Link) : Still s ((u.wr F.FAB_PORT_CMD_RETRAIN (j / 8) a).modLink j f) :=
    (h.wr _ _ (by decide)).modLink _ _
  exact Still.portStat (Still.setLanes (((h1 _ _).wr _ _ (by decide)).wr _ _ (by decide)) _ _ _) _

theorem Still.ctrlNow (j : Nat) (m : CtrlMsg) : Still s (u.ctrlNow j m) := .ite (h.modLink _ _) ((h.modLink _ _).emit _)

theorem Still.sendDown (j : Nat) (b : Bool) : Still s (u.sendDown j b) := .ite h (h.ctrlNow _ _)

theorem Still.stopFabric : Still s u.stopFabric := h.foldl _ fun _ _ hv => (hv.sendDown _ _).clearLink _ _

theorem Still.train (j : Nat) : Still s (u.train j) := by
  have h1 (use dis : List Nat) : Still s ((((u.setLanes (j / 8) use 1).setLanes (j / 8) dis 6).wr F.FAB_LINK_STAT_STATE j lkTraining).wr
      F.FAB_LINK_PEER_VALID j 0) := (((h.setLanes _ _ _).setLanes _ _ _).wr _ _ (by decide)).wr _ _ (by decide)
  unfold State.train
  exact (h1 _ _).modLink _ _

theorem Still.trainAll : Still s u.trainAll := by
  have h1 : Still s { u with boot := { u.boot with trained := true } } := h.other rfl rfl rfl rfl
  refine .ite h (Still.foldl (h1.foldl _ ?_) _ ?_)
  · exact fun v k hv => .ite (hv.wr _ _ (by decide)) hv
  · exact fun v p hv => hv.foldl _ fun _ _ hw => hw.train _

theorem Still.holdBack : Still s u.holdBack := (h.wr _ _ (by decide)).raise _ _ _ _ (by decide)

theorem Still.offer (c : Nat) (t : Tx) : Still s (u.offer c t) :=
  .ite h (.ite h.holdBack (Still.modChan (.ite (h.wr _ _ (by decide)) h) _ _))

theorem Still.queueFrame (mask i : Nat) (body : List Byte) (src : Nat) (bare : Bool) :
    Still s (u.queueFrame mask i body src bare) := by
  have h1 (sent : List (Nat × Nat)) (ord : Nat) : Still s { u with clarn := { u.clarn with sent := sent, ord := ord } } :=
    h.other rfl rfl rfl rfl
  exact (h1 _ _).foldl _ fun _ c hv => hv.offer c _

theorem Still.alarm (code : Nat) : Still s (u.alarm code) :=
  Still.queueFrame (h.foldl _ fun _ _ hv => hv.modChan _ _) _ _ _ _ _

end Still

end Sys2Proof.Machine
end

section
/-! PROOFS.  Core power off, the thermal trip and the restart after it (R28, R280, R436), and the statement on them. -/

namespace Sys2Proof.Machine

/-! ### Core power off -/

theorem OnlyRegs.holdGear {rs : List Reg} {s u : State} (h : OnlyRegs rs s u) (hr : .CLE_SLOT_STAT ∈ rs) :
    OnlyRegs rs s u.holdGear :=
  h.foldl _ fun _ _ hv => (hv.wr _ _ _ hr).wr _ _ _ hr

/-- The module with core power off and the clusters' contents lost, before any register shows it. -/
def State.coreless (s : State) : State := { s with
  pwr := { s.pwr with vcore := false, retention := false, tested := false, quiesce := false, forced := false, mv := 550, goal := 0, rates := [] }
  store := [], storePoison := [], ueLines := [], patrol := [], tok := [], tokSig := [], waiters := [], granted := []
  tabs := [], vregs := [], rng := [], engQ := [], bobQ := [], replayQ := [] }

/-- Every cluster is OFF and has no stalled unit. -/
def State.clustersOff (s : State) : State :=
  allP.foldl (fun (s : State) (p : Nat) => (s.setReg .CLU_STALL p 0).wr F.CLU_STATE_STATE p 0) s

/-- After the clusters are OFF core power's own registers follow. -/
theorem State.coreOff_after_clusters (s : State) :
    OnlyRegs [.PWR_GEAR_STAT, .PWR_CADENCE, .CFG_STAT, .PWR_PS_STAT, .CLE_SLOT_STAT] s.coreless.clustersOff s.coreOff := by
  have hgear := (((((OnlyRegs.refl [.PWR_GEAR_STAT, .PWR_CADENCE, .CFG_STAT, .PWR_PS_STAT, .CLE_SLOT_STAT]
    s.coreless.clustersOff).wr F.PWR_GEAR_STAT_DUTY 0 0 (by decide)).wr F.PWR_GEAR_STAT_SLEW 0 0 (by decide)).wr
    F.PWR_GEAR_STAT_GEAR 0 0 (by decide)).wr F.PWR_GEAR_STAT_FBB 0 0 (by decide)).wr F.PWR_GEAR_STAT_ASSIST 0 0 (by decide)
  exact ((((hgear.wr _ _ _ (by decide)).wr _ _ _ (by decide)).wr _ _ _ (by decide)).wr _ _ _ (by decide)).holdGear (by decide)

/-- The registers that core power off writes. -/
def coreRegs : List Reg := [.CLU_STALL, .CLU_STATE, .PWR_GEAR_STAT, .PWR_CADENCE, .CFG_STAT, .PWR_PS_STAT, .CLE_SLOT_STAT]

theorem State.coreOff_onlyRegs (s : State) : OnlyRegs coreRegs s.coreless s.coreOff := by
  have hclusters : OnlyRegs coreRegs s.coreless s.coreless.clustersOff :=
    (OnlyRegs.refl _ _).foldl _ fun _ _ hv => (hv.setReg _ _ (by decide)).wr _ _ _ (by decide)
  exact hclusters.trans (s.coreOff_after_clusters.mono (by decide))

theorem State.reg_coreOff (s : State) {r : Reg} (i : Nat) (hr : r ∉ coreRegs) : s.coreOff.reg r i = s.reg r i :=
  s.coreOff_onlyRegs.1 r i hr

theorem State.pwr_coreOff (s : State) : s.coreOff.pwr = s.coreless.pwr := (congrArg State.pwr s.coreOff_onlyRegs.2 :)

theorem State.mem_coreOff (s : State) : s.coreOff.mem = s.mem := (congrArg State.mem s.coreOff_onlyRegs.2 :)

theorem State.store_coreOff (s : State) : s.coreOff.store = [] := (congrArg State.store s.coreOff_onlyRegs.2 :)

/-! ### The trip (R280) -/

/-- Once every job is ended no partition is in JOB. -/
theorem State.pstate_jobEnd (s : State) (n status origin : Nat) : (s.jobEnd n status origin).pstate n ≠ 2 := by
  unfold State.jobEnd
  split
  · simp only
    rw [State.pstate, State.rd_wr_same _ _ _ _ (by decide)]
    decide
  · assumption

theorem State.pstate_jobEndAll (s : State) {n : Nat} (hn : n < 16) (status origin : Nat) :
    (s.jobEndAll status origin).pstate n ≠ 2 :=
  foldl_of_mem (fun t => t.pstate n ≠ 2) _ (fun s k hs e => hs (((Still.refl s).jobEnd k status origin).job n e))
    (fun s => s.pstate_jobEnd n status origin) _ s (List.mem_range.2 hn)

/-- Beside its cause bit a protective action writes its record and an alarm. -/
theorem State.protect_still (s : State) (f : Fld) (inst : Nat) (leak : Bool) : Still (s.raiseBit f 0) (s.protect f inst leak) := by
  have h1 (e : RecState) : Still (s.raiseBit f 0) { s.raiseBit f 0 with evr := e } := (Still.refl _).other rfl rfl rfl rfl
  unfold State.protect
  simp only
  split
  · exact (h1 _).alarm _
  · exact h1 _

/-- The module as a trip leaves it before core power falls: jobs and relaxation are ended. -/
def State.tripJobs (s : State) : State :=
  (List.range 16).foldl (fun (s : State) (n : Nat) => s.relaxEnd n) ((s.protect F.PWR_CAUSE_TRIP 0 false).jobEndAll 0x30 0)

theorem State.tripJobs_still (s : State) : Still (s.raiseBit F.PWR_CAUSE_TRIP 0) s.tripJobs :=
  ((s.protect_still _ _ _).jobEndAll _ _).foldl _ fun _ _ hv => hv.relaxEnd _

theorem State.pstate_tripJobs (s : State) {n : Nat} (hn : n < 16) : s.tripJobs.pstate n ≠ 2 := fun e =>
  State.pstate_jobEndAll _ hn _ _ (((Still.refl _).foldl _ fun _ _ hv => hv.relaxEnd _).job n e)

theorem State.mem_raiseBit (s : State) (f : Fld) (i : Nat) : (s.raiseBit f i).mem = s.mem := by rw [State.raiseBit_eq]

/-- After its jobs core power and the fabric stop. -/
def State.tripStop (s : State) : State := s.tripJobs.coreOff.stopFabric

theorem State.tripStop_still (s : State) : Still s.tripJobs.coreOff s.tripStop := (Still.refl _).stopFabric

/-- A trip's own registers stand when all has stopped. -/
theorem State.reg_tripStop_trip (s : State) (i : Nat) : s.tripStop.reg .PWR_TRIP i = s.reg .PWR_TRIP i := by
  rw [s.tripStop_still.trip, State.reg_coreOff _ _ (by decide), s.tripJobs_still.trip, State.reg_raiseBit _ _ _ _ _ (by decide),
    State.reg_wr_ne _ _ _ _ _ _ (by decide)]

theorem State.flag_tripStop_cause (s : State) : s.tripStop.flag F.PWR_CAUSE_TRIP = true := by
  have hcause : s.tripStop.reg .PWR_CAUSE 0 = (s.raiseBit F.PWR_CAUSE_TRIP 0).reg .PWR_CAUSE 0 := by
    rw [s.tripStop_still.cause, State.reg_coreOff _ _ (by decide), s.tripJobs_still.cause]
  rw [State.flag_congr (g := F.PWR_CAUSE_TRIP) hcause, State.flag_raiseBit _ _ _ _ _ (by decide), State.flag_wr_one _ _ _ (by decide)]

theorem State.pstate_tripStop (s : State) {n : Nat} (hn : n < 16) : s.tripStop.pstate n ≠ 2 := fun e =>
  s.pstate_tripJobs hn ((State.rd_congr (g := F.ETH_PART_STATE_STATE) (s.tripJobs.reg_coreOff n (by decide))).symm.trans
    (s.tripStop_still.job n e))

theorem State.pwr_tripStop (s : State) : s.tripStop.pwr = s.tripJobs.coreless.pwr :=
  s.tripStop_still.pwr.trans (State.pwr_coreOff _)

theorem State.store_tripStop (s : State) : s.tripStop.store = [] := s.tripStop_still.store.trans (State.store_coreOff _)

theorem State.mem_tripStop (s : State) : s.tripStop.mem = s.mem := by
  rw [s.tripStop_still.mem, State.mem_coreOff, s.tripJobs_still.mem, State.mem_raiseBit]

theorem execThermalTrip_of_tripped (v : BitVec 12) {s : State} (h : s.flag F.PWR_TRIP_TRIPPED = true) :
    execThermalTrip v s = .next s := if_pos h

theorem execThermalTrip_effect (v : BitVec 12) {s : State} (h : s.flag F.PWR_TRIP_TRIPPED = false) :
    ∃ t, execThermalTrip v s = .next t ∧ t.pwr.vcore = false ∧ t.flag F.PWR_TRIP_TRIPPED = true ∧
      t.rd F.PWR_TRIP_TJ_AT_TRIP = v.toNat ∧ t.flag F.PWR_CAUSE_TRIP = true ∧
      (∀ n < 16, t.pstate n ≠ 2) ∧ t.store = [] ∧ t.mem = s.mem := by
  have hexec : execThermalTrip v s =
      .next ((s.wr F.PWR_TRIP_TRIPPED 0 1).wr F.PWR_TRIP_TJ_AT_TRIP 0 v.toNat).tripStop := if_neg (by simp [h])
  refine ⟨_, hexec, ?_, ?_, ?_, State.flag_tripStop_cause _, fun n hn => State.pstate_tripStop _ hn, State.store_tripStop _,
    State.mem_tripStop _⟩
  · rw [State.pwr_tripStop]; rfl
  · rw [State.flag_congr (State.reg_tripStop_trip _ 0), State.flag_wr_ne _ _ _ _ _ _ (by decide),
      State.flag_wr_one _ _ _ (by decide)]
  · rw [State.rd_congr (State.reg_tripStop_trip _ 0), State.rd_wr_same _ _ _ _ (by decide)]
    exact Nat.mod_eq_of_lt v.isLt

/-! ### The restart after a trip (R280, R436) -/

/-- The permit but for TRIP_OK reads no register of the trip. -/
theorem State.permitBut_congr {s t : State} (h : OnlyRegs [.PWR_TRIP] s t) : t.permitBut = s.permitBut := by
  have hreg (r : Reg) (i : Nat) (hr : r ≠ .PWR_TRIP) : t.reg r i = s.reg r i := h.1 r i (by simpa using hr)
  have hup : t.up = s.up := (congrArg State.up h.2 :)
  have hcio : t.cio = s.cio := (congrArg State.cio h.2 :)
  have hboot : t.boot = s.boot := (congrArg State.boot h.2 :)
  have hinlet : t.inletOk = s.inletOk := by
    simp (disch := decide) only [State.inletOk, State.pair, State.temp, State.fresh, State.sensBad, State.rd, hreg, hup, hcio] <;> rfl
  simp (disch := decide) only [State.permitBut, State.permitOn, State.dryOk, State.allDry, State.leakOn, State.leakResp,
    State.leakState, State.emergOk, State.diActive, State.flag, State.rd, hreg, hboot, hinlet] <;> rfl

/-- VCORE comes up untested, the re-arm is done with, and TRIPPED stands as it was. -/
theorem State.coreOn_effect (s : State) : s.coreOn.pwr.vcore = true ∧ s.coreOn.pwr.tested = false ∧
    s.coreOn.flag F.PWR_TRIP_REARM = false ∧ s.coreOn.flag F.PWR_TRIP_TRIPPED = s.flag F.PWR_TRIP_TRIPPED := by
  refine ⟨rfl, rfl, ?_, ?_⟩
  · simp (disch := decide) only [State.coreOn, State.flag_wr_ne, State.flag_wr_zero]
  · simp (disch := decide) only [State.coreOn, State.flag_wr_ne]
    exact State.flag_congr ((Still.refl s).trainAll.trip 0)

/-- The permit is given at steps 7 to 10 only. -/
theorem State.step_le_of_permitBut {s : State} (h : s.permitBut = true) : s.rd F.CFG_STAT_STEP ≤ 10 := by
  simp only [State.permitBut, State.permitOn, Bool.and_eq_true, decide_eq_true_eq] at h
  tauto

/-- A request for compute opens the gate where core power is off and the permit is given past step 8. -/
theorem State.tryGate_of_permit {s : State} (hp : s.permitBut = true) (ht : s.flag F.PWR_TRIP_TRIPPED = false)
    (hr : s.pwr.computeReq = true) (hv : s.pwr.vcore = false) (hstep : 9 ≤ s.rd F.CFG_STAT_STEP) : s.tryGate = s.coreOn := by
  have hle := State.step_le_of_permitBut hp
  have h9 : s.rd F.CFG_STAT_STEP = 9 ∨ s.rd F.CFG_STAT_STEP = 10 := by omega
  exact if_pos (by simp [State.permit, hp, ht, hr, hv, h9])

/-- The gate opens or nothing happens. -/
theorem State.tryGate_cases (s : State) : s.tryGate = s.coreOn ∨ s.tryGate = s := ite_eq_or_eq _ _ _

/-- The module with its trip cleared and compute requested. -/
def State.untripped (s : State) : State :=
  { s.wr F.PWR_TRIP_TRIPPED 0 0 with pwr := { s.pwr with computeReq := true } }

theorem State.flag_untripped (s : State) : s.untripped.flag F.PWR_TRIP_TRIPPED = false := State.flag_wr_zero s _ _ (by decide)

theorem State.permitBut_untripped (s : State) : s.untripped.permitBut = s.permitBut :=
  (State.permitBut_congr ((OnlyRegs.refl [.PWR_TRIP] s).wr _ _ _ (by decide)) :
    (s.wr F.PWR_TRIP_TRIPPED 0 0).permitBut = s.permitBut)

/-- A restart clears TRIPPED and, where core power is off past step 8, powers the core. -/
theorem execTripRestart_effect {s : State} (htrip : s.flag F.PWR_TRIP_TRIPPED = true) (hrearm : s.flag F.PWR_TRIP_REARM = true)
    (htj : s.rd F.PWR_TJ_MAX < 640) (hpermit : s.permitBut = true) :
    ∃ t, execTripRestart s = .next t ∧ t.flag F.PWR_TRIP_TRIPPED = false ∧
      (s.pwr.vcore = false → 9 ≤ s.rd F.CFG_STAT_STEP →
        t.pwr.vcore = true ∧ t.pwr.tested = false ∧ t.flag F.PWR_TRIP_REARM = false) := by
  have hexec : execTripRestart s = .next s.untripped.tryGate := if_pos ⟨htrip, hrearm, htj, hpermit⟩
  obtain ⟨hv, ht, hr, hflag⟩ := s.untripped.coreOn_effect
  refine ⟨_, hexec, ?_, fun hoff hstep => ?_⟩
  · rcases s.untripped.tryGate_cases with h | h
    · rw [h, hflag, s.flag_untripped]
    · rw [h, s.flag_untripped]
  · have hstep' : 9 ≤ s.untripped.rd F.CFG_STAT_STEP :=
      hstep.trans_eq (State.rd_wr_ne s F.PWR_TRIP_TRIPPED _ _ _ _ (by decide)).symm
    rw [State.tryGate_of_permit (s.permitBut_untripped.trans hpermit) s.flag_untripped rfl hoff hstep']
    exact ⟨hv, ht, hr⟩

theorem execTripRestart_refused {s : State}
    (h : ¬ (s.flag F.PWR_TRIP_REARM = true ∧ s.rd F.PWR_TJ_MAX < 640 ∧ s.permitBut = true)) : execTripRestart s = .next s :=
  if_neg fun hc => h hc.2

/-- REARM takes the value of TRIPPED. -/
theorem execPwrTripRearm_effect (s : State) :
    ∃ t, execPwrTripRearm s = .next t ∧ t.flag F.PWR_TRIP_REARM = s.flag F.PWR_TRIP_TRIPPED ∧ OnlyRegs [.PWR_TRIP] s t := by
  refine ⟨_, rfl, ?_, (OnlyRegs.refl _ s).wr _ _ _ (by decide)⟩
  cases h : s.flag F.PWR_TRIP_TRIPPED
  · exact State.flag_wr_zero _ _ _ (by decide)
  · exact State.flag_wr_one _ _ _ (by decide)

/-- Settles O6: ending jobs, stopping the fabric and the alarm leave the trip's registers, the stacks and core power as they are,
so what a trip shows is what it wrote itself and core power off; a restart is the gate of R436 with the trip cleared. -/
theorem thermalTripAndRestart : Obligations.ThermalTripAndRestart := by
  unfold Obligations.ThermalTripAndRestart
  refine ⟨?trip, ?again, ?rearm, ?restart, ?refused⟩
  case trip => exact fun v s h => execThermalTrip_effect v h
  case again => exact fun v s h => execThermalTrip_of_tripped v h
  case rearm => exact fun s => execPwrTripRearm_effect s
  case restart => exact fun s htrip hrearm htj hpermit => execTripRestart_effect htrip hrearm htj hpermit
  case refused => exact fun s h => execTripRestart_refused h

end Sys2Proof.Machine
end

section
/-! PROOFS.  The rollback counter, access windows, stored images, quiesce and the records of protective actions (R28, R243, R268,
R446, R457). -/

namespace Sys2Proof.Machine

/-! ### The rollback counter (R243) -/

theorem byteAt_lt (l : List Byte) (off : Nat) : byteAt l off < 256 := by
  unfold byteAt leAt
  rcases (l.drop off) with _ | ⟨b, t⟩
  · decide
  · simp only [List.take_succ_cons, List.take_zero, leNat]
    exact b.isLt

/-- The module with the rollback counter at `c`. -/
def State.withRollback (s : State) (c : Nat) : State := { s with nv := { s.nv with rollback := c } }

/-- Bits of the counter are written up to `c`, and the register shows them. -/
def State.rolledTo (s : State) (c : Nat) : State := (s.withRollback c).wr F.SEC_SVN_COUNTER 0 c

/-- On arrival at the image's number ADVANCED is set and the cause raised. -/
def State.rolledIn (s : State) (c : Nat) : State :=
  ((s.rolledTo c).wr F.SEC_SVN_ADVANCED 0 1).raise F.SEC_CAUSE_SVN_ADVANCE 0 1 [wd s.nv.rollback, wd (byteAt s.sec.fw 6)]

/-- Where `n` bits more bring the counter: the running image's number at most. -/
def State.rollGoal (s : State) (n : BitVec 8) : Nat := min (byteAt s.sec.fw 6) (s.nv.rollback + n.toNat)

theorem State.rollGoal_lt (s : State) (n : BitVec 8) : s.rollGoal n < 256 := (min_le_left _ _).trans_lt (byteAt_lt _ _)

theorem State.rolledTo_frame (s : State) (c : Nat) : OnlyLogs [.SEC_SVN, .SEC_CAUSE] (s.withRollback c) (s.rolledTo c) :=
  (OnlyLogs.refl _ _).wr _ _ _ (by decide)

theorem State.rolledIn_frame (s : State) (c : Nat) : OnlyLogs [.SEC_SVN, .SEC_CAUSE] (s.withRollback c) (s.rolledIn c) :=
  ((s.rolledTo_frame c).wr _ _ _ (by decide)).raise _ _ _ _ _ (by decide)

theorem State.rd_rolledTo (s : State) {c : Nat} (h : c < 256) : (s.rolledTo c).rd F.SEC_SVN_COUNTER = c := by
  rw [State.rolledTo, State.rd_wr_same _ _ _ _ (by decide)]
  exact Nat.mod_eq_of_lt h

theorem State.rd_rolledIn (s : State) {c : Nat} (h : c < 256) : (s.rolledIn c).rd F.SEC_SVN_COUNTER = c := by
  rw [State.rolledIn, State.rd_raise _ _ _ _ _ _ _ _ (by decide), State.rd_wr_ne _ _ _ _ _ _ (by decide),
    State.rd_wr_ne _ _ _ _ _ _ (by decide), s.rd_rolledTo h]

theorem State.nv_rolledIn (s : State) (c : Nat) : (s.rolledIn c).nv = (s.withRollback c).nv := by
  rw [State.rolledIn, State.raise_eq]; rfl

theorem State.flags_rolledIn (s : State) (c : Nat) :
    (s.rolledIn c).flag F.SEC_SVN_ADVANCED = true ∧ (s.rolledIn c).flag F.SEC_CAUSE_SVN_ADVANCE = true := by
  refine ⟨?_, State.flag_raise_same _ _ _ _ _ _ (by decide)⟩
  rw [State.rolledIn]
  simp (disch := decide) only [State.flag_raise_ne, State.flag_wr_one]

/-- The counter rises by at most `n` bits and stops at the running image's number. -/
theorem execSvnAdvance_effect (n : BitVec 8) {s : State} (hadv : byteAt s.sec.fw 7 % 2 = 1) (hstep : s.rd F.CFG_STAT_STEP = 10)
    (hlt : s.nv.rollback < byteAt s.sec.fw 6) :
    ∃ t, execSvnAdvance n s = .next t ∧ t.nv.rollback = min (byteAt s.sec.fw 6) (s.nv.rollback + n.toNat) ∧
      t.rd F.SEC_SVN_COUNTER = t.nv.rollback ∧
      (t.nv.rollback = byteAt s.sec.fw 6 → t.flag F.SEC_SVN_ADVANCED = true ∧ t.flag F.SEC_CAUSE_SVN_ADVANCE = true) ∧
      OnlyLogs [.SEC_SVN, .SEC_CAUSE] { s with nv := { s.nv with rollback := t.nv.rollback } } t := by
  have hexec : execSvnAdvance n s =
      .next (if s.rollGoal n = byteAt s.sec.fw 6 then s.rolledIn (s.rollGoal n) else s.rolledTo (s.rollGoal n)) :=
    if_pos ⟨hadv, hstep, hlt⟩
  have hgoal := s.rollGoal_lt n
  by_cases harrive : s.rollGoal n = byteAt s.sec.fw 6
  · rw [if_pos harrive] at hexec
    have hroll : (s.rolledIn (s.rollGoal n)).nv.rollback = s.rollGoal n := congrArg Nv.rollback (s.nv_rolledIn _)
    refine ⟨_, hexec, hroll, (s.rd_rolledIn hgoal).trans hroll.symm, fun _ => s.flags_rolledIn _, ?_⟩
    rw [hroll]
    exact s.rolledIn_frame _
  · rw [if_neg harrive] at hexec
    exact ⟨_, hexec, rfl, s.rd_rolledTo hgoal, fun h => absurd h harrive, s.rolledTo_frame _⟩

theorem execSvnAdvance_reached (n : BitVec 8) {s : State} (h : byteAt s.sec.fw 6 ≤ s.nv.rollback) : execSvnAdvance n s = .next s :=
  if_neg fun hc => absurd hc.2.2 (Nat.not_lt.2 h)

/-! ### Access windows (R268) -/

/-- The window that the address registers hold, with the rights and the validity of a written word. -/
def State.heldWin (s : State) (w : Word) : Win :=
  { valid := w.getLsbD 31, base := s.atAddr .SEC_AT_BASE_LO .SEC_AT_BASE_HI, limit := s.atAddr .SEC_AT_LIMIT_LO .SEC_AT_LIMIT_HI
    r := w.getLsbD 0, w := w.getLsbD 1, x := w.getLsbD 2 }

/-- A window whose limit is not below its base is set in the selected place, and nowhere else. -/
theorem execSecAtRightsWrite_effect (w : Word) {s : State}
    (h : s.atAddr .SEC_AT_BASE_LO .SEC_AT_BASE_HI ≤ s.atAddr .SEC_AT_LIMIT_LO .SEC_AT_LIMIT_HI) :
    ∃ t, execSecAtRightsWrite w s = .next t ∧ t.win s.selWin = s.heldWin w ∧
      (∀ k, k ≠ s.selWin → t.win k = s.win k) ∧ OnlyRegs [.SEC_AT_RIGHTS] { s with wins := t.wins } t := by
  refine ⟨_, congrArg Host.Outcome.next (if_neg (Nat.not_lt.2 h)), ?_, fun k hk => ?_, ?_⟩
  · exact (Assoc.get_set _ _ _ _ _).trans (if_pos rfl)
  · exact (Assoc.get_set _ _ _ _ _).trans (if_neg hk)
  · exact (OnlyRegs.refl _ _).setReg _ _ (by decide)

theorem execSecAtRightsWrite_refused (w : Word) {s : State}
    (h : s.atAddr .SEC_AT_LIMIT_LO .SEC_AT_LIMIT_HI < s.atAddr .SEC_AT_BASE_LO .SEC_AT_BASE_HI) :
    execSecAtRightsWrite w s = .next s := congrArg Host.Outcome.next (if_pos h)

/-! ### Stored images (R446, R465) -/

theorem State.originWords_free (s : State) (m : Nat) : OnlyFree s (s.originWords m).2 := by
  unfold State.originWords
  split
  · rfl
  · split <;> rfl

/-- With room in its buffer a change record is entered, and nothing changes beside it. -/
theorem State.logChange_of_room {s : State} (h : s.evr.chg.length < 64) (b i a : Nat) (old new : Word) (m : Nat) :
    ∃ t, s.logChange b i a old new m = (t, true) ∧ OnlyLogs [] { s with free := t.free } t := by
  have hfree := (s.originWords_free m).onlyLogs []
  refine ⟨_, if_neg (Nat.not_le.2 h), ?_⟩
  split
  · exact (hfree.withEvr _).requestFlush
  · exact hfree.withEvr _

/-- A stored image stands in the configuration memory, and its sender is answered OK. -/
theorem State.storeImage_of_room {s : State} (h : s.evr.chg.length < 64) (x : HmpHead) (obj : Nat) (l : List Byte) (put : Nv → Nv) :
    (s.storeImage x obj l put).1.nv = put s.nv ∧
      (s.storeImage x obj l put).1.out = s.out ++ [.hmp x.client 0x8004 0 x.seq.toNat []] ∧
      (s.storeImage x obj l put).1.mem = s.mem ∧ (s.storeImage x obj l put).1.store = s.store := by
  obtain ⟨t, ht, hframe⟩ := State.logChange_of_room h 4 0 obj 0 (BitVec.ofNat 32 (leAt (Config.sha384 l) 0 4)) 0x80
  have hnv : t.nv = s.nv := (congrArg State.nv hframe.2 :)
  have hout : t.out = s.out := (congrArg State.out hframe.2 :)
  have hmem : t.mem = s.mem := (congrArg State.mem hframe.2 :)
  have hstore : t.store = s.store := (congrArg State.store hframe.2 :)
  simp only [State.storeImage, ht, if_true]
  exact ⟨congrArg put hnv, congrArg (· ++ _) hout, hmem, hstore⟩

/-- What an image object does, sound or refused. -/
def State.takeImage (s : State) (ok : Bool) (x : HmpHead) (obj : Nat) (l : List Byte) (put : Nv → Nv) : State :=
  if ok then (s.storeImage x obj l put).1 else s.imageRefused x

theorem State.takeImage_effect {s : State} (h : s.evr.chg.length < 64) (ok : Bool) (x : HmpHead) (obj : Nat) (l : List Byte)
    (put : Nv → Nv) : (ok = true → (s.takeImage ok x obj l put).nv = put s.nv ∧
        (s.takeImage ok x obj l put).out = s.out ++ [.hmp x.client 0x8004 0 x.seq.toNat []]) ∧
      (ok = false → (s.takeImage ok x obj l put).nv = s.nv) ∧
      (s.takeImage ok x obj l put).mem = s.mem ∧ (s.takeImage ok x obj l put).store = s.store := by
  cases ok with
  | false => exact ⟨fun e => absurd e (by decide), fun _ => rfl, rfl, rfl⟩
  | true =>
    obtain ⟨hnv, hout, hmem, hstore⟩ := State.storeImage_of_room h x obj l put
    exact ⟨fun _ => ⟨hnv, hout⟩, fun e => absurd e (by decide), hmem, hstore⟩

section Session
variable {s : State} {x : HmpHead} (hup : s.hmpUp = true) (hses : s.sessions.elem x.client = true) (hok : x.ok = true)
  (hrec : s.flag F.CFG_STAT_RECOVERY = false) (hid : s.rd F.SEC_STATE_ID ≠ 2)
include hup hses hok hrec hid

/-- An object request with a session and a sound header, out of recovery and with an identity, has its object's effect. -/
theorem hmpObj_taken (typ : Nat) (f : State → State) : hmpObj typ x f s = .next (f s) :=
  (if_neg (not_without_session hup hses)).trans ((if_neg (by simp [hok])).trans (if_neg (by simp [hrec, hid])))

theorem execCfgImage_taken (l : List Byte) :
    execCfgImage x l s = .next (s.takeImage (s.cfgOk l) x 0x00040001 l fun n => { n with cfgImage := l }) :=
  hmpObj_taken hup hses hok hrec hid _ _

/-- Out of recovery FW_IMAGE restarts nothing. -/
theorem execFwImage_taken (l : List Byte) :
    execFwImage x l s = .next (s.takeImage (s.fwOk l) x 0x00040002 l fun n => { n with fwImage := l }) :=
  (if_neg (by simp [hrec])).trans (hmpObj_taken hup hses hok hrec hid _ _)

end Session

/-! ### Quiesce (R28) -/

theorem State.flag_gate_coreOff (s : State) : s.coreOff.flag F.CFG_STAT_GATE = false := by
  have hafter : ∃ u : State, OnlyRegs [.PWR_PS_STAT, .CLE_SLOT_STAT] (u.wr F.CFG_STAT_GATE 0 0) s.coreOff :=
    ⟨_, ((OnlyRegs.refl _ _).wr F.PWR_PS_STAT_CORE_AWAKE 0 0 (by decide)).holdGear (by decide)⟩
  obtain ⟨u, hregs, _⟩ := hafter
  rw [State.flag_congr (hregs _ _ (by decide)), State.flag_wr_zero _ _ _ (by decide)]

theorem State.cluster_off (s : State) {p : Nat} (hp : p < 68) : s.coreOff.rd F.CLU_STATE_STATE p = 0 := by
  rw [State.rd_congr (s.coreOff_after_clusters.1 _ _ (by decide))]
  refine foldl_of_mem (fun t : State => t.rd F.CLU_STATE_STATE p = 0) _ (fun t q ht => ?_) (fun t => ?_) _ _ (List.mem_range.2 hp)
  · by_cases e : p = q
    · subst e
      exact (State.rd_wr_same _ _ _ _ (by decide)).trans (Nat.zero_mod _)
    · rw [State.rd_wr_idx _ _ _ _ _ _ e, State.rd_congr (State.reg_setReg_ne _ _ _ _ _ _ (by decide)), ht]
  · exact (State.rd_wr_same _ _ _ _ (by decide)).trans (Nat.zero_mod _)

theorem execQuiesceComplete_effect {s : State} (h : s.pwr.quiesce = true) :
    ∃ t, execQuiesceComplete s = .next t ∧ t.pwr.vcore = false ∧ t.pwr.quiesce = false ∧ t.store = [] ∧ t.storePoison = [] ∧
      t.tok = [] ∧ t.flag F.CFG_STAT_GATE = false ∧ t.mem = s.mem ∧ (∀ p < 68, t.rd F.CLU_STATE_STATE p = 0) ∧
      SameRegs coreRegs s t := by
  obtain ⟨hregs, hrest⟩ := s.coreOff_onlyRegs
  exact ⟨s.coreOff, if_pos h, (congrArg Pwr.vcore s.pwr_coreOff :), (congrArg Pwr.quiesce s.pwr_coreOff :), s.store_coreOff,
    (congrArg State.storePoison hrest :), (congrArg State.tok hrest :), s.flag_gate_coreOff, s.mem_coreOff,
    fun p hp => s.cluster_off hp, hregs⟩

theorem execQuiesceComplete_idle {s : State} (h : s.pwr.quiesce = false) : execQuiesceComplete s = .next s := if_neg (by simp [h])

/-! ### Records of protective actions (R457) -/

theorem State.read16_free (s : State) (v : Option Rat) (k : Rat) : OnlyFree s (s.read16 v k).2 := by
  unfold State.read16
  split
  · rfl
  · simp only [State.roundOff]
    split <;> rfl

/-- Taking the readings rounds them, and changes nothing else. -/
theorem State.readSet_free (s : State) : OnlyFree s s.readSet.2 :=
  List.foldlRecOn (motive := fun r : List Nat × State => OnlyFree s r.2) _ _ rfl fun r hr x _ => hr.trans (r.2.read16_free x.1 x.2)

theorem State.prot_requestFlush (s : State) : s.requestFlush.evr.prot = s.evr.prot := rfl

theorem State.prot_discardRec (s : State) (q : Nat) : (s.discardRec q).evr.prot = s.evr.prot := by
  simp only [State.discardRec]
  rw [State.raiseBit_eq]
  rfl

/-- Entering a record leaves the protective records that wait. -/
theorem State.prot_insertRec (s : State) (r : Rec) : (s.insertRec r).evr.prot = s.evr.prot := by
  unfold State.insertRec
  generalize hu : (if r.sev = 3 then { s with evr := { s.evr with critAt := some s.up, critEver := true } } else s) = u
  have hcrit : u.evr.prot = s.evr.prot := by rw [← hu]; split <;> rfl
  simp only
  split
  · split
    · exact hcrit
    · exact hcrit
  · split
    · rw [State.prot_requestFlush, State.prot_discardRec, hcrit]
    · rw [State.prot_discardRec, hcrit]

theorem State.free_insertRec (s : State) (r : Rec) : (s.insertRec r).free = s.free := by rw [State.insertRec_eq]

/-- A waiting record whose action is over is written, and waits no longer. -/
theorem execProtectiveAfterReadings_effect {k : Fin 8} {s : State} {p : Prot} (h : s.evr.prot[k.val]? = some p)
    (hdone : s.protDone p = true) :
    ∃ t, execProtectiveAfterReadings k s = .next t ∧ t.evr.prot = s.evr.prot.eraseIdx k ∧ OnlyLogs [] { s with free := t.free } t := by
  have hfree := s.readSet_free
  have hexec : execProtectiveAfterReadings k s = .next
      (({ s.readSet.2 with evr := { s.readSet.2.evr with prot := s.readSet.2.evr.prot.eraseIdx k } }).insertRec
        { p.r with data := packSets (p.before ++ s.readSet.1) }) := by
    simp only [execProtectiveAfterReadings, h, hdone, if_true]
  refine ⟨_, hexec, ?_, ?_⟩
  · rw [State.prot_insertRec]
    have hevr : s.readSet.2.evr = s.evr := (congrArg State.evr hfree :)
    exact congrArg (fun e : RecState => e.prot.eraseIdx k) hevr
  · rw [State.free_insertRec]
    exact ((hfree.onlyLogs []).withEvr _).insertRec _

theorem execProtectiveAfterReadings_none {k : Fin 8} {s : State} (h : s.evr.prot[k.val]? = none) :
    execProtectiveAfterReadings k s = .next s := by simp only [execProtectiveAfterReadings, h]

/-- Settles O36: each command is what its own rule writes, with the frame of a change record, of core power off or of a record. -/
theorem rollbackWindowsImagesAndQuiesce : Obligations.RollbackWindowsImagesAndQuiesce := by
  unfold Obligations.RollbackWindowsImagesAndQuiesce
  refine ⟨?advance, ?reached, ?window, ?below, ?cfg, ?fw, ?quiesce, ?idle, ?after, ?none, ?off⟩
  case advance => exact fun n s hadv hstep hlt => execSvnAdvance_effect n hadv hstep hlt
  case reached => exact fun n s h => execSvnAdvance_reached n h
  case window => exact fun w s h => execSecAtRightsWrite_effect w h
  case below => exact fun w s h => execSecAtRightsWrite_refused w h
  case cfg =>
    exact fun x l s hup hses hok hrec hid hroom =>
      ⟨_, execCfgImage_taken hup hses hok hrec hid l, State.takeImage_effect hroom _ _ _ _ _⟩
  case fw =>
    exact fun x l s hup hses hok hrec hid hroom =>
      ⟨_, execFwImage_taken hup hses hok hrec hid l, State.takeImage_effect hroom _ _ _ _ _⟩
  case quiesce => exact fun s h => execQuiesceComplete_effect h
  case idle => exact fun s h => execQuiesceComplete_idle h
  case after => exact fun k s p h hdone => execProtectiveAfterReadings_effect h hdone
  case none => exact fun k s h => execProtectiveAfterReadings_none h
  case off => exact fun s => rfl

end Sys2Proof.Machine
end

section
/-! PROOFS.  What an engine's work between WAIT and SIGNAL writes (R62, R74 to R76, R80, R106): bytes of a span, and one rule per
operation of the state. -/

namespace Sys2Proof.Machine

/-! ### Lengths -/

theorem length_natLE (n v : Nat) : (natLE n v).length = n := by
  induction n generalizing v with
  | zero => rfl
  | succ n ih => simp [natLE, ih]

theorem length_natBytes (n v : Nat) : (natBytes n v).length = n := by
  induction n generalizing v with
  | zero => rfl
  | succ n ih => simp [natBytes, ih]

theorem length_markLE (n : Nat) (v : Nat × Bool) : (markLE n v).length = n := by simp [markLE, length_natLE]

/-- Pieces of one length make up their number times that length. -/
theorem length_flatMap_of_const {α β : Type} {f : α → List β} {c : Nat} {l : List α} (h : ∀ x ∈ l, (f x).length = c) :
    (l.flatMap f).length = l.length * c := by
  rw [List.length_flatMap, List.map_congr_left h, List.map_const', List.sum_const_nat]

/-! ### Store bytes outside a span -/

theorem storeKey_inj {p q a b : Nat} (ha : a < 2 ^ 26) (hb : b < 2 ^ 26) : storeKey q b = storeKey p a ↔ q = p ∧ b = a := by
  simp only [storeKey]; omega

/-- Pieces of a span lie in it. -/
theorem splitLines_within (fuel a : Nat) (l : List Byte) :
    ∀ x ∈ splitLines fuel a l, a ≤ x.1 ∧ x.1 + x.2.length ≤ a + l.length := by
  induction fuel generalizing a l with
  | zero => simp [splitLines]
  | succ k ih =>
    intro x hx
    rw [splitLines] at hx
    split at hx
    · exact absurd hx List.not_mem_nil
    · rcases List.mem_cons.1 hx with rfl | hx
      · simp
      · have hrest := ih _ _ x hx
        have hlong : 64 - a % 64 < l.length := by
          by_contra hn
          rw [List.drop_eq_nil_of_le (Nat.not_lt.1 hn)] at hx
          cases k <;> simp [splitLines] at hx
        rw [List.length_drop] at hrest
        omega

section Bytes
variable {p q a b : Nat} (s : State) (hb : b < 2 ^ 26)
include hb

theorem State.storeByte_storePut_outside (l : List Byte) (hfit : a + l.length ≤ 2 ^ 26)
    (hout : ¬ (q = p ∧ a ≤ b ∧ b < a + l.length)) : (s.storePut p a l).storeByte q b = s.storeByte q b := by
  rw [State.storeByte_storePut]
  refine List.foldlRecOn l.zipIdx _ (motive := fun v => v = s.storeByte q b) rfl fun v hv x hx => ?_
  have hx := List.snd_lt_of_mem_zipIdx hx
  have hmiss : storeKey q b ≠ storeKey p (a + x.2) := fun e => by
    obtain ⟨hq, hab⟩ := (storeKey_inj (by omega) hb).1 e
    exact hout ⟨hq, by omega, by omega⟩
  rw [if_neg hmiss, hv]

theorem State.storeByte_storeLine_outside (l : List Byte) (poison : Bool) (hfit : a + l.length ≤ 2 ^ 26)
    (hout : ¬ (q = p ∧ a ≤ b ∧ b < a + l.length)) : (s.storeLine p a l poison).storeByte q b = s.storeByte q b := by
  have hput := s.storeByte_storePut_outside hb l hfit hout
  unfold State.storeLine
  simp only
  split
  · rfl
  · split <;> exact hput

/-- A write of a span leaves every byte outside it. -/
theorem State.storeByte_storeWriteP_outside (l : List (Byte × Bool)) (hfit : a + l.length ≤ 2 ^ 26)
    (hout : ¬ (q = p ∧ a ≤ b ∧ b < a + l.length)) : (s.storeWriteP p a l).storeByte q b = s.storeByte q b := by
  refine List.foldlRecOn (splitLines _ a (l.map Prod.fst)) _ (motive := fun u : State => u.storeByte q b = s.storeByte q b) rfl
    fun u hu x hx => ?_
  obtain ⟨hlow, hhigh⟩ := splitLines_within _ _ _ x hx
  rw [List.length_map] at hhigh
  exact (u.storeByte_storeLine_outside hb x.2 _ (by omega) (fun h => hout ⟨h.1, by omega, by omega⟩)).trans hu

end Bytes

/-- A write of a span changes the stores and their poison alone. -/
theorem State.storeWriteP_eq (s : State) (p a : Nat) (l : List (Byte × Bool)) : s.storeWriteP p a l =
    { s with store := (s.storeWriteP p a l).store, storePoison := (s.storeWriteP p a l).storePoison } := by
  refine List.foldlRecOn (splitLines _ a (l.map Prod.fst)) _
    (motive := fun u : State => u = { s with store := u.store, storePoison := u.storePoison }) rfl fun u hu x _ => ?_
  rw [State.storeLine]
  split
  · exact hu
  · rw [hu]; split <;> rfl

/-! ### The frame of the work -/

/-- Registers that an engine instruction may write besides those of a record. -/
def engRegs : List Reg := [.CLU_ARITH_STAT, .CLU_CAUSE, .CLU_ARITH_RELAX_CNT, .CLU_STORE_UE_ADDR, .CLU_STORE_CE_CNT]

/-- Fields that no engine instruction changes before its SIGNAL. -/
def State.engRest (s : State) : List Host.Cell × List (Nat × Bool) × Nv × Pwr × List (Nat × List EngInstr) :=
  (s.mem, s.memPoison, s.nv, s.pwr, s.engQ)

/-- What the work of instruction `i` in cluster `p` leaves as it was, up to its SIGNAL. -/
structure EngWork (p : Nat) (i : EngInstr) (s t : State) : Prop where
  byte : ∀ q a, a < 2 ^ 26 → ¬ (q = p ∧ engOut i a = true) → t.storeByte q a = s.storeByte q a
  regs : SameRegs (engRegs ++ recRegs) s t
  rest : t.engRest = s.engRest

section Work
variable {p : Nat} {i : EngInstr} {s u v : State}

theorem EngWork.refl (p : Nat) (i : EngInstr) (s : State) : EngWork p i s s := ⟨fun _ _ _ _ => rfl, fun _ _ _ => rfl, rfl⟩

theorem EngWork.ite {c : Prop} [Decidable c] (hu : EngWork p i s u) (hv : EngWork p i s v) :
    EngWork p i s (if c then u else v) := by
  split <;> assumption

theorem EngWork.foldl {α : Type} {f : State → α → State} (h : EngWork p i s u) (l : List α)
    (hf : ∀ v x, EngWork p i s v → EngWork p i s (f v x)) : EngWork p i s (l.foldl f u) :=
  List.foldlRecOn l f h fun v hv x _ => hf v x hv

variable (h : EngWork p i s u)
include h

/-- A change outside the stores that writes no register but those of an engine instruction. -/
theorem EngWork.change (hs : v.store = u.store) (hr : SameRegs (engRegs ++ recRegs) u v) (hv : v.engRest = u.engRest) :
    EngWork p i s v where
  byte q a ha hq := (by rw [State.storeByte, State.storeByte, hs] : v.storeByte q a = u.storeByte q a).trans (h.byte q a ha hq)
  regs r j hj := (hr r j hj).trans (h.regs r j hj)
  rest := hv.trans h.rest

/-- A change of other fields. -/
theorem EngWork.other (hs : v.store = u.store) (hr : v.regs = u.regs) (hv : v.engRest = u.engRest) : EngWork p i s v :=
  h.change hs (fun r j _ => by rw [State.reg, State.reg, hr]) hv

theorem EngWork.setReg {r : Reg} (j : Nat) (w : Word) (hr : r ∈ engRegs) : EngWork p i s (u.setReg r j w) :=
  h.change rfl (fun _ _ hq => State.reg_setReg_ne _ _ _ _ _ _ (ne_of_mem_of_not_mem (List.mem_append_left _ hr) hq).symm) rfl

theorem EngWork.wr {f : Fld} (j w : Nat) (hf : f.reg ∈ engRegs) : EngWork p i s (u.wr f j w) := h.setReg j _ hf

theorem EngWork.raise {f : Fld} (j sev : Nat) (d : List Word) (m : Nat) (hf : f.reg ∈ engRegs) :
    EngWork p i s (u.raise f j sev d m) := by
  have hlogs : OnlyLogs engRegs u (u.raise f j sev d m) := (OnlyLogs.refl _ u).raise f j sev d m hf
  exact h.change (congrArg State.store hlogs.2 :) hlogs.1 (congrArg State.engRest hlogs.2 :)

theorem EngWork.setLinePoison (q a : Nat) (b : Bool) : EngWork p i s (u.setLinePoison q a b) := h.other rfl rfl rfl

theorem EngWork.freeNat (n : Nat) : EngWork p i s (u.freeNat n).2 := h.other rfl rfl rfl

theorem EngWork.modPart (n : Nat) (f : Part → Part) : EngWork p i s (u.modPart n f) := h.other rfl rfl rfl

theorem EngWork.setRnd (n c : Nat) (r : RndSrc) : EngWork p i s (u.setRnd n c r) := .ite (h.other rfl rfl rfl) h

theorem EngWork.noteAt (q : Nat) (f : Cmd → Cmd) : EngWork p i s (u.noteAt q f) := by
  unfold State.noteAt
  split
  · exact h.other rfl rfl rfl
  · exact h

theorem EngWork.notePoison (q : Nat) (b : Bool) : EngWork p i s (u.notePoison q b) := .ite (h.noteAt _ _) h

theorem EngWork.noteIndex (q : Nat) (b : Bool) : EngWork p i s (u.noteIndex q b) := .ite (h.noteAt _ _) h

theorem EngWork.arithLevel (q : Nat) : EngWork p i s (u.arithLevel q) :=
  .ite (h.raise _ _ _ _ (by decide)) (h.wr _ _ (by decide))

theorem EngWork.arith (q e fl : Nat) : EngWork p i s (u.arith q e fl) :=
  .ite h (((h.setReg _ _ (by decide)).arithLevel _).noteAt _ _)

theorem EngWork.countRelaxed (q e : Nat) : EngWork p i s (u.countRelaxed q e) :=
  (((h.wr _ _ (by decide)).arith _ _ _).modPart _ _).noteAt _ _

theorem EngWork.freeBytes (n : Nat) : EngWork p i s (u.freeBytes n).2 := by
  induction n generalizing u with
  | zero => exact h
  | succ n ih => exact ih (h.freeNat 256)

theorem EngWork.freeOrder (n : Nat) (l : List Nat) : EngWork p i s (u.freeOrder n l).2 := by
  induction n generalizing u l with
  | zero => exact h
  | succ n ih => exact ih (h.freeNat _) _

/-! ### Store errors and the WAIT -/

theorem EngWork.storeUE (q a : Nat) : EngWork p i s (u.storeUE q a) := by
  have hpoison := h.setLinePoison q a true
  have hlatch : EngWork p i s (if (u.setLinePoison q a true).flag F.CLU_STORE_UE_ADDR_VALID q then u.setLinePoison q a true
      else ((u.setLinePoison q a true).wr F.CLU_STORE_UE_ADDR_LINE q (a / 64)).wr F.CLU_STORE_UE_ADDR_VALID q 1) :=
    .ite hpoison ((hpoison.wr _ _ (by decide)).wr _ _ (by decide))
  refine EngWork.raise (f := F.CLU_CAUSE_STORE_UE) ?_ _ _ _ _ (by decide)
  exact hlatch.other rfl rfl rfl

theorem EngWork.storeCE (q : Nat) : EngWork p i s (u.storeCE q) := by
  have hcount : EngWork p i s (u.count F.CLU_STORE_CE_CNT_COUNT q) := h.wr _ _ (by decide)
  exact hcount.raise _ _ _ _ (by decide)

theorem EngWork.eccHits (q : Nat) (l : List EccHit) : EngWork p i s (u.eccHits q l) :=
  h.foldl l fun _ _ hv => .ite (hv.storeUE _ _) (hv.storeCE _)

theorem EngWork.waitOn (c k n : Nat) : EngWork p i s (u.waitOn c k n).1 := by
  unfold State.waitOn
  split
  · exact h.other rfl rfl rfl
  · split
    · exact h
    · split <;> exact h.other rfl rfl rfl

theorem EngWork.engWait (q e : Nat) (j : EngInstr) : EngWork p i s (u.engWait q e j).1 := by
  unfold State.engWait
  split
  · split
    · exact h.waitOn _ _ _
    · exact h
  · exact h

/-! ### Output -/

/-- A span within the output may be written. -/
theorem EngWork.write {a : Nat} {l : List (Byte × Bool)} (hfit : a + l.length ≤ 2 ^ 26)
    (hout : ∀ b, a ≤ b → b < a + l.length → engOut i b = true) : EngWork p i s (u.storeWriteP p a l) where
  byte q b hb hq := (u.storeByte_storeWriteP_outside hb l hfit fun e => hq ⟨e.1, hout b e.2.1 e.2.2⟩).trans (h.byte q b hb hq)
  regs r j hj := (by rw [u.storeWriteP_eq]; rfl : (u.storeWriteP p a l).reg r j = u.reg r j).trans (h.regs r j hj)
  rest := (by rw [u.storeWriteP_eq]; rfl : (u.storeWriteP p a l).engRest = u.engRest).trans h.rest

end Work

end Sys2Proof.Machine
end

section
/-! PROOFS.  Each engine instruction writes its own output (R40 to R72, R105, R108, R519), its SIGNAL adds to a token alone (R82,
R106), and the statement on them. -/

namespace Sys2Proof.Machine

/-! ### Output of an instruction whose form is right (R105, R108) -/

/-- An instruction's output ends below the pattern area, and so does the exponent list of a QUANT. -/
structure OutFits (i : EngInstr) : Prop where
  out : i.addrC.toNat + outBytes i ≤ 0x027C0000
  list : i.opc.toNat = 0x18 → i.list = true → i.addrLA.toNat + 2 * i.len.toNat ≤ 0x027C0000

theorem opc_of_engForm {opc : Nat} {i : EngInstr} (h : engForm opc i = true) : i.opc.toNat = opc :=
  of_decide_eq_true (Bool.and_eq_true_iff.1 h).1

theorem addrC_and_engBody_of_engForm {opc : Nat} {i : EngInstr} (h : engForm opc i = true) :
    i.addrC.toNat < 0x027C0000 ∧ engBody i = true := by
  simp only [engForm, engOk, Bool.and_eq_true, decide_eq_true_eq] at h
  obtain ⟨-, ⟨-, haddrC⟩, hbody⟩ := h
  exact ⟨haddrC, hbody⟩

theorem outFits_of_engForm {opc : Nat} {i : EngInstr} (h : engForm opc i = true) : OutFits i := by
  obtain ⟨haddrC, hbody⟩ := addrC_and_engBody_of_engForm h
  constructor
  · -- the form of each opcode holds the end of its own output
    unfold outBytes
    simp only
    split
    all_goals
      rename_i ho
      simp [engBody, ho, storeOperand] at hbody
      omega
  · intro ho hl
    simp [engBody, ho, hl, storeOperand] at hbody
    omega

theorem engOut_of_mem {i : EngInstr} {b : Nat} (hlow : i.addrC.toNat ≤ b) (hhigh : b < i.addrC.toNat + outBytes i) :
    engOut i b = true := by simp [engOut, hlow, hhigh]

theorem engOut_of_list {i : EngInstr} {b : Nat} (ho : i.opc.toNat = 0x18) (hl : i.list = true) (hlow : i.addrLA.toNat ≤ b)
    (hhigh : b < i.addrLA.toNat + 2 * i.len.toNat) : engOut i b = true := by simp [engOut, ho, hl, hlow, hhigh]

section Bodies
variable {p : Nat} {i : EngInstr} {s u : State}

theorem EngWork.output (hu : EngWork p i s u) (hfit : OutFits i) {a : Nat} {l : List (Byte × Bool)} (hlow : i.addrC.toNat ≤ a)
    (hhigh : a + l.length ≤ i.addrC.toNat + outBytes i) : EngWork p i s (u.storeWriteP p a l) :=
  hu.write (by have := hfit.out; omega) fun _ h1 h2 => engOut_of_mem (by omega) (by omega)

theorem EngWork.exponents (hu : EngWork p i s u) (hfit : OutFits i) (ho : i.opc.toNat = 0x18) (hl : i.list = true)
    {l : List (Byte × Bool)} (hlen : l.length = i.len.toNat * 2) : EngWork p i s (u.storeWriteP p i.addrLA.toNat l) :=
  hu.write (by have := hfit.list ho hl; omega) fun _ h1 h2 => engOut_of_list ho hl h1 (by omega)

theorem State.length_freeBytes (s : State) (n : Nat) : (s.freeBytes n).1.length = n := by
  induction n generalizing s with
  | zero => rfl
  | succ n ih => simp [State.freeBytes, ih]

/-! ### Matrix operations (R66, R67) -/

theorem length_relaxRows (fa : Nat) (A B6 : BlkFmt) (l : List (List (Blk × Bool))) (r : RndSrc) :
    (relaxRows fa A B6 l r).1.length = l.length := by
  induction l generalizing r with
  | nil => rfl
  | cons b l ih => simp [relaxRows, ih]

theorem length_rowOut (f : Nat → Nat × Nat × Bool) : (rowOut f).length = 64 := by simp [rowOut]

theorem length_wsRowOut (f : Nat → Option Nat) (l : List (List (Nat × Nat × Bool))) (o : List Nat) :
    (wsRowOut f l o).length = 64 := by simp [wsRowOut]

theorem EngWork.putRow (hu : EngWork p i s u) (hfit : OutFits i) {a : Nat} (acc : Bool) {row : List (Nat × Nat × Bool)}
    (hrow : row.length = 64) (hlow : i.addrC.toNat ≤ a) (hhigh : a + 256 ≤ i.addrC.toNat + outBytes i) :
    EngWork p i s (u.putRow p a acc row).1 := by
  refine hu.output hfit hlow ?_
  rw [length_flatMap_of_const (c := 4) fun _ _ => length_markLE _ _, List.length_map, List.length_zipIdx, hrow]
  exact hhigh

theorem EngWork.putRows (hu : EngWork p i s u) (hfit : OutFits i) (acc : Bool) {m : Nat} (hm : outBytes i = m * 256)
    {rows : List (List (Nat × Nat × Bool))} {k : Nat} (hrows : ∀ row ∈ rows, row.length = 64) (hk : k + rows.length ≤ m) :
    EngWork p i s (u.putRows p i.addrC.toNat acc rows k).1 := by
  induction rows generalizing u k with
  | nil => exact hu
  | cons row rows ih =>
    rw [List.length_cons] at hk
    have hfirst := hu.putRow hfit (a := i.addrC.toNat + k * 256) acc (hrows row List.mem_cons_self) (by omega) (by omega)
    exact ih hfirst (fun r hr => hrows r (List.mem_cons_of_mem _ hr)) (by omega)

/-- The 64 rows of an output-stationary tile fill the output. -/
theorem EngWork.putTile {α : Type} (hu : EngWork p i s u) (hfit : OutFits i) (ho : i.opc.toNat = 0x01) (acc : Bool) {rows : List α}
    (hrows : rows.length = 64) (f : α → Nat → Nat × Nat × Bool) :
    EngWork p i s (u.putRows p i.addrC.toNat acc (rows.map fun row => rowOut (f row)) 0).1 := by
  have hout : outBytes i = 64 * 256 := by simp [outBytes, ho]
  refine hu.putRows hfit acc hout (fun row hr => ?_) ?_
  · obtain ⟨_, -, rfl⟩ := List.mem_map.1 hr
    exact length_rowOut _
  · rw [List.length_map, hrows]

theorem EngWork.mmaOsBlocks (hu : EngWork p i s u) (hfit : OutFits i) (ho : i.opc.toNat = 0x01) (e : Nat) (A B B6 : BlkFmt) :
    EngWork p i s (mmaOsBlocks p e i A B B6 u) := by
  have hrel (c : Bool) (n x : Nat) (r : RndSrc) : EngWork p i s (if c then (u.setRnd n x r).countRelaxed p e else u) :=
    .ite ((hu.setRnd _ _ _).countRelaxed _ _) hu
  unfold Machine.mmaOsBlocks
  simp only
  split
  · refine EngWork.arith (EngWork.notePoison (EngWork.putTile (hrel _ _ _ _) hfit ho _ ?_ _) _ _) _ _ _
    split
    · rw [length_relaxRows, List.length_map, List.length_range]
    · rw [List.length_map, List.length_range]
  · refine EngWork.notePoison (EngWork.noteAt (EngWork.raise (f := F.CLU_CAUSE_EXPLIST) ?_ _ _ _ _ (by decide)) _ _) _ _
    refine EngWork.output ((hrel _ _ _ _).freeBytes _) hfit le_rfl ?_
    have hout : outBytes i = 16384 := by simp [outBytes, ho]
    rw [List.length_map, State.length_freeBytes, hout]

theorem EngWork.mmaOsHalf (hu : EngWork p i s u) (hfit : OutFits i) (ho : i.opc.toNat = 0x01) (e : Nat) :
    EngWork p i s (mmaOsHalf p e i u) := by
  refine EngWork.arith (EngWork.notePoison (hu.putTile hfit ho _ ?_ _) _ _) _ _ _
  rw [List.length_map, List.length_range]

theorem EngWork.mmaOs (hu : EngWork p i s u) (hfit : OutFits i) (ho : i.opc.toNat = 0x01) (e : Nat) :
    EngWork p i s (mmaOs p e i u) := by
  unfold Machine.mmaOs
  split
  · exact hu.mmaOsBlocks hfit ho e _ _ _
  · exact hu.mmaOsHalf hfit ho e

theorem EngWork.mmaWsRows (hu : EngWork p i s u) (hfit : OutFits i) {m : Nat} (hm : outBytes i = m * 256) (e : Nat)
    (rel : Bool) (n r : Nat) (hn : r + n ≤ m) : EngWork p i s (mmaWsRows p e i rel n r u) := by
  induction n generalizing u r with
  | zero => exact hu
  | succ n ih =>
    have hdraw (c : Bool) (y x : Nat) (q : RndSrc) : EngWork p i s (if c then u.setRnd y x q else u) := .ite (hu.setRnd _ _ _) hu
    rw [Machine.mmaWsRows]
    refine ih ?_ _ (by omega)
    refine EngWork.arith (EngWork.notePoison ?_ _ _) _ _ _
    refine EngWork.other (EngWork.output ((hdraw _ _ _ _).freeOrder _ _) hfit (a := i.addrC.toNat + r * 256) (by omega) ?_) rfl rfl rfl
    rw [length_flatMap_of_const (c := 4) fun _ _ => length_markLE _ _, List.length_map, List.length_zipIdx, length_wsRowOut]
    omega

theorem EngWork.mmaWs (hu : EngWork p i s u) (hfit : OutFits i) (ho : i.opc.toNat = 0x02) (e : Nat) :
    EngWork p i s (mmaWs p e i u) := by
  have hout : outBytes i = (i.aux.toNat % 32 + 1) * 256 := by simp [outBytes, ho]
  exact EngWork.mmaWsRows (.ite (hu.countRelaxed _ _) hu) hfit hout _ _ _ _ (by omega)

/-! ### The vector unit (R71, R72, R519) -/

theorem EngWork.elems (hu : EngWork p i s u) (q e fo : Nat) {f : Nat → State → (Nat × Nat × Bool) × State}
    (hf : ∀ k v, EngWork p i s v → EngWork p i s (f k v).2) (n k : Nat) : EngWork p i s (u.elems q e fo f n k).1 := by
  induction n generalizing u k with
  | zero => exact hu
  | succ n ih => exact ih ((hf k u hu).setRnd _ _ _) _

theorem State.length_elems (s : State) (p e fo : Nat) (f : Nat → State → (Nat × Nat × Bool) × State) (n k : Nat) :
    (s.elems p e fo f n k).2.2.length = n := by
  induction n generalizing s k with
  | zero => rfl
  | succ n ih => simp [State.elems, ih]

theorem EngWork.vecEnd {r : State × Nat × Bool} (h : EngWork p i s r.1) (q e : Nat) : EngWork p i s (State.vecEnd r q e) :=
  (h.notePoison _ _).arith _ _ _

/-- An operation over elements whose outputs fill the output. -/
theorem EngWork.mapElems (hu : EngWork p i s u) (hfit : OutFits i) (e fo : Nat) {f : Nat → State → (Nat × Nat × Bool) × State}
    (hf : ∀ k v, EngWork p i s v → EngWork p i s (f k v).2) {n : Nat} (hn : n * scalarBytes fo = outBytes i) :
    EngWork p i s (State.vecEnd (u.mapElems p e fo f i.addrC.toNat n) p e) := by
  refine EngWork.vecEnd (EngWork.output (hu.elems _ _ _ hf _ _) hfit le_rfl ?_) _ _
  rw [length_flatMap_of_const fun _ _ => length_markLE _ _, State.length_elems, hn]

theorem EngWork.vecEw (hu : EngWork p i s u) (hfit : OutFits i) (ho : i.opc.toNat = 0x10) (e : Nat) :
    EngWork p i s (vecEw p e i u) :=
  hu.mapElems hfit e i.fo (fun _ _ hv => hv) (by simp [outBytes, ho])

theorem EngWork.vecRed (hu : EngWork p i s u) (hfit : OutFits i) (ho : i.opc.toNat = 0x11) (e : Nat) :
    EngWork p i s (vecRed p e i u) :=
  hu.mapElems hfit e 7 (fun _ _ hv => hv) (by simp [outBytes, ho, scalarBytes])

theorem EngWork.actVal (hu : EngWork p i s u) (tab : ActTab) (x : Nat) : EngWork p i s (u.actVal tab x).2 := by
  unfold State.actVal
  split
  · exact hu
  · split
    · exact hu
    · exact hu.freeNat 2
    · exact hu.freeNat 256

theorem EngWork.vecAct (hu : EngWork p i s u) (hfit : OutFits i) (ho : i.opc.toNat = 0x12) (e : Nat) :
    EngWork p i s (vecAct p e i u) :=
  hu.mapElems hfit e i.fo (fun _ _ hv => hv.actVal _ _) (by simp [outBytes, ho])

theorem EngWork.vecTload (hu : EngWork p i s u) (e : Nat) : EngWork p i s (vecTload p e i u) := by
  refine EngWork.notePoison ?_ _ _
  exact hu.other rfl rfl rfl

theorem EngWork.freeRecip (hu : EngWork p i s u) (k x : Nat) : EngWork p i s (u.freeRecip k x).2 := by
  unfold State.freeRecip
  split
  · exact hu
  · split
    · exact hu.freeNat (2 ^ 32)
    · next c _ => exact hu.freeNat c.length

theorem EngWork.vecRecip (hu : EngWork p i s u) (hfit : OutFits i) (ho : i.opc.toNat = 0x15) (e : Nat) :
    EngWork p i s (vecRecip p e i u) :=
  hu.mapElems hfit e i.fo (fun _ _ hv => hv.freeRecip _ _) (by simp [outBytes, ho])

theorem EngWork.actVals (hu : EngWork p i s u) (tab : ActTab) (l : List Nat) : EngWork p i s (u.actVals tab l).2 := by
  induction l generalizing u with
  | nil => exact hu
  | cons x l ih => exact ih (hu.actVal tab x)

theorem State.length_actVals (s : State) (tab : ActTab) (l : List Nat) : (s.actVals tab l).1.length = l.length := by
  induction l generalizing s with
  | nil => rfl
  | cons x l ih => simp [State.actVals, ih]

theorem EngWork.vecSoftmax (hu : EngWork p i s u) (hfit : OutFits i) (ho : i.opc.toNat = 0x14) (e : Nat) :
    EngWork p i s (vecSoftmax p e i u) := by
  have hout : outBytes i = i.len.toNat * 256 := by simp [outBytes, ho]
  refine EngWork.arith (EngWork.notePoison (EngWork.output ?draws hfit le_rfl ?_) _ _) _ _ _
  case draws => exact EngWork.freeRecip ((hu.actVals _ _).freeOrder _ _) _ _
  rw [length_flatMap_of_const (c := 4) fun _ _ => length_markLE _ _, hout]
  rw [List.length_map, List.length_map, List.length_zip, State.length_actVals]
  simp only [List.length_map, min_self]
  rw [length_flatMap_of_const (c := 64) fun x hx => ?_, List.length_map, List.length_range]
  · omega
  · obtain ⟨v, -, rfl⟩ := List.mem_map.1 hx
    rw [State.lanes, List.length_map, List.length_range]

/-! ### Quantising (R40 to R43, R68) -/

/-- A block is its elements, its exponent and, in SB4, its darts (R36). -/
theorem blkBytes_of_blkFmt : ∀ {fmt : Nat} {f : BlkFmt}, blkFmt fmt = some f →
    elemBytes fmt + 1 + (if fmt = 0 then 1 else 0) = blkBytes fmt
  | 0, _, _ | 1, _, _ | 2, _, _ | 3, _, _ | 4, _, _ | 5, _, _ => rfl
  | _ + 6, _, h => nomatch h

theorem length_writeBlk {fmt : Nat} {f : BlkFmt} (h : blkFmt fmt = some f) (b : Blk) : (writeBlk fmt f b).length = blkBytes fmt := by
  rw [writeBlk, List.length_append, List.length_append, length_natBytes, ← blkBytes_of_blkFmt h]
  split <;> rfl

theorem EngWork.quantBlocks (hu : EngWork p i s u) (q e : Nat) (f : BlkFmt) (n b : Nat) :
    EngWork p i s (quantBlocks q e i f n b u).1 := by
  induction n generalizing u b with
  | zero => exact hu
  | succ n ih => exact ih (hu.setRnd _ _ _) _

theorem length_quantBlocks (p e : Nat) (i : EngInstr) (f : BlkFmt) (n b : Nat) (s : State) :
    (quantBlocks p e i f n b s).2.2.length = n := by
  induction n generalizing s b with
  | zero => rfl
  | succ n ih => simp [quantBlocks, ih]

theorem length_of_mem_quantBlocks (p e : Nat) {i : EngInstr} {f : BlkFmt} (hf : blkFmt i.fo = some f) (n b : Nat) (s : State) :
    ∀ x ∈ (quantBlocks p e i f n b s).2.2, x.1.length = blkBytes i.fo := by
  induction n generalizing s b with
  | zero => exact fun x hx => absurd hx List.not_mem_nil
  | succ n ih =>
    intro x hx
    rw [quantBlocks] at hx
    rcases List.mem_cons.1 hx with rfl | hx
    · exact length_writeBlk hf _
    · exact ih _ _ x hx

theorem length_expList (len : Nat) (out : List (List Byte × Nat × Bool)) : (expList len out).length = len * 2 := by
  rw [expList, length_flatMap_of_const (c := 2) fun _ _ => length_markLE _ _, List.length_range]

theorem EngWork.quantOp (hu : EngWork p i s u) (hfit : OutFits i) (ho : i.opc.toNat = 0x18) (e : Nat) :
    EngWork p i s (quantOp p e i u) := by
  have hout : outBytes i = i.len.toNat * blkBytes i.fo := by simp [outBytes, ho]
  unfold Machine.quantOp
  split
  · next f hf =>
    have hblocks : EngWork p i s ((Machine.quantBlocks p e i f i.len.toNat 0 u).1.storeWriteP p i.addrC.toNat
        ((Machine.quantBlocks p e i f i.len.toNat 0 u).2.2.flatMap fun x => x.1.map fun b => (b, x.2.2))) := by
      refine EngWork.output (hu.quantBlocks _ _ _ _ _) hfit le_rfl ?_
      rw [length_flatMap_of_const (c := blkBytes i.fo) fun x hx => ?_, length_quantBlocks, hout]
      rw [List.length_map, length_of_mem_quantBlocks p e hf _ _ _ x hx]
    refine EngWork.vecEnd ?_ _ _
    simp only
    split
    · next hl => exact hblocks.exponents hfit ho hl (length_expList _ _)
    · exact hblocks
  · exact hu

theorem State.length_dequantAt (s : State) (p : Nat) (i : EngInstr) (f : BlkFmt) (b : Nat) : (s.dequantAt p i f b).1.length = 32 := by
  simp [State.dequantAt, blkVals]

theorem EngWork.dequantOp (hu : EngWork p i s u) (hfit : OutFits i) (ho : i.opc.toNat = 0x19) (e : Nat) :
    EngWork p i s (dequantOp p e i u) := by
  have hout : outBytes i = i.len.toNat * (32 * scalarBytes i.fo) := by simp [outBytes, ho, Nat.mul_assoc]
  unfold Machine.dequantOp
  split
  · next f _ =>
    refine EngWork.vecEnd (hu.output hfit le_rfl ?_) _ _
    rw [length_flatMap_of_const (c := 32 * scalarBytes i.fo) fun x hx => ?_, List.length_map, List.length_range, hout]
    obtain ⟨b, -, rfl⟩ := List.mem_map.1 hx
    rw [length_flatMap_of_const fun _ _ => length_markLE _ _, State.length_dequantAt]
  · exact hu

/-! ### GATHER and SCATTER (R71, R108) -/

/-- A row of the output is written whole. -/
theorem EngWork.copyRow (hu : EngWork p i s u) (hfit : OutFits i) {rows rb k : Nat} (hout : outBytes i = rows * rb) (hk : k < rows)
    (src : Nat) (extra : Bool) : EngWork p i s (u.copyRow p src (i.addrC.toNat + k * rb) rb extra) := by
  have hrow : (k + 1) * rb ≤ rows * rb := Nat.mul_le_mul_right rb hk
  refine hu.output hfit (Nat.le_add_right _ _) ?_
  rw [List.length_map, List.length_range, hout]
  rw [Nat.succ_mul] at hrow
  omega

theorem EngWork.gatherRows (hu : EngWork p i s u) (hfit : OutFits i) (scatter : Bool)
    (hout : outBytes i = (if scatter then i.addrLB.toNat else i.len.toNat) * (i.aux.toNat * 64)) (m n : Nat)
    (hn : n + m ≤ i.len.toNat) : EngWork p i s (gatherRows p i scatter m n u) := by
  induction m generalizing u n with
  | zero => exact hu
  | succ m ih =>
    rw [Machine.gatherRows]
    refine ih ?_ _ (by omega)
    split
    · next hix =>
      refine EngWork.notePoison (hu.copyRow hfit hout ?_ _ _) _ _
      cases scatter with
      | true => exact hix
      | false => simp only [Bool.false_eq_true, if_false]; omega
    · exact (hu.notePoison _ _).noteIndex _ _

end Bodies

/-! ### The course of an instruction (R82, R106) -/

section Course
variable {p : Fin 68} {i : EngInstr} {s t u : State}

theorem EngFrame.trans (h : EngFrame p i s u) (h' : EngFrame p i u t) : EngFrame p i s t := by
  obtain ⟨hbyte, hregs, hmem, hpoison, hnv, hpwr⟩ := h
  obtain ⟨hbyte', hregs', hmem', hpoison', hnv', hpwr'⟩ := h'
  exact ⟨fun q a ha hq => (hbyte' q a ha hq).trans (hbyte q a ha hq), fun r j hr => (hregs' r j hr).trans (hregs r j hr),
    hmem'.trans hmem, hpoison'.trans hpoison, hnv'.trans hnv, hpwr'.trans hpwr⟩

/-- A change of other fields, the streams among them. -/
theorem EngFrame.other (h : EngFrame p i s u) (hs : t.store = u.store) (hr : t.regs = u.regs) (hm : t.mem = u.mem)
    (hp : t.memPoison = u.memPoison) (hn : t.nv = u.nv) (hw : t.pwr = u.pwr) : EngFrame p i s t :=
  h.trans ⟨fun q a _ _ => by rw [State.storeByte, State.storeByte, hs], fun r j _ => by rw [State.reg, State.reg, hr], hm, hp, hn, hw⟩

/-- The work before the SIGNAL is within the instruction's frame. -/
theorem EngWork.frame (h : EngWork p i s u) : EngFrame p i s u :=
  ⟨h.byte, h.regs, congrArg (·.1) h.rest, congrArg (·.2.1) h.rest, congrArg (·.2.2.1) h.rest, congrArg (·.2.2.2.1) h.rest⟩

theorem EngWork.engQ (h : EngWork p i s u) : u.engQ = s.engQ := congrArg (·.2.2.2.2) h.rest

/-- Adding to a token raises TOKOVF at most, and stops the pattern with it. -/
theorem EngFrame.tokAdd (p : Fin 68) (i : EngInstr) (u : State) (k n : Nat) : EngFrame p i u (u.tokAdd k n).1 := by
  have hadd : EngWork p i u { u with tok := Assoc.set 0 u.tok k (min (u.tokCount k + n) 65535), tokSig := Assoc.put u.tokSig k u.up } :=
    (EngWork.refl p i u).other rfl rfl rfl
  unfold State.tokAdd
  simp only
  split
  · exact hadd.frame
  · split
    · exact hadd.frame
    · next q _ =>
      have hovf := hadd.raise (f := F.CLU_CAUSE_TOKOVF) q 0 [] 0x3FF (by decide)
      generalize State.raise _ _ _ = v at hovf ⊢
      split
      · exact hovf.frame
      · exact hovf.frame.other rfl rfl rfl rfl rfl rfl

theorem EngFrame.engSignal (p : Fin 68) (i : EngInstr) (u : State) : EngFrame p i u (u.engSignal p i) := by
  unfold State.engSignal
  split
  · split
    · exact .tokAdd p i u _ _
    · exact (EngWork.refl p i u).frame
  · exact (EngWork.refl p i u).frame

theorem EngFrame.popEng (p : Fin 68) (i : EngInstr) (u : State) (e : Nat) : EngFrame p i u (u.popEng p e i) := by
  have hself := (EngWork.refl p i u).frame
  unfold State.popEng
  simp only
  split
  · split
    · exact hself.other rfl rfl rfl rfl rfl rfl
    · exact hself
  · exact hself

/-- What stands in the streams after an instruction is taken off follows from what stood in them before. -/
theorem State.engQ_popEng_congr (h : u.engQ = s.engQ) (p e : Nat) (i : EngInstr) : (u.popEng p e i).engQ = (s.popEng p e i).engQ := by
  simp only [State.popEng, h]
  split
  · split
    · rfl
    · exact h
  · exact h

end Course

/-- An opcode whose work stays within its output runs to its end. -/
theorem engRuns_of_work {opc : Nat} {c : Fin 68 → Fin 16 → EngInstr → List EccHit → Instr}
    (body : Nat → Nat → EngInstr → State → State)
    (hexec : ∀ (p : Fin 68) (e : Fin 16) i h s, exec (c p e i h) s = runEng p e opc i h (body p e i) s)
    (hwork : ∀ {p i s u} (e : Nat), OutFits i → i.opc.toNat = opc → EngWork p i s u → EngWork p i s (body p e i u)) :
    EngRuns opc c := by
  intro p e i h s hform hgoes
  obtain ⟨hreplay, hwait⟩ := Bool.and_eq_true_iff.1 hgoes
  have hstart : EngWork p i s ((s.engWait p e i).1.eccHits p h) := ((EngWork.refl p i s).engWait _ _ _).eccHits _ _
  have hbody := hwork e.val (outFits_of_engForm hform) (opc_of_engForm hform) hstart
  refine ⟨_, ?_, (hbody.frame.trans (.popEng p i _ e.val)).trans (.engSignal p i _), fun hsig => ?_⟩
  · rw [hexec, runEng, if_pos hform, if_neg (by simpa using hreplay)]
    simp only [hwait, if_true]
  · rw [State.engSignal, if_neg (by simp [hsig])]
    exact State.engQ_popEng_congr hbody.engQ _ _ _

/-- Settles O11: each opcode's work keeps to its output, by the rule of each operation of the state. -/
theorem engineInstructionsWriteOnlyTheirOutput : Obligations.EngineInstructionsWriteOnlyTheirOutput := by
  unfold Obligations.EngineInstructionsWriteOnlyTheirOutput
  refine ⟨?mmaOs, ?mmaWs, ?vecEw, ?vecRed, ?vecAct, ?vecTload, ?vecSoftmax, ?vecRecip, ?quant, ?dequant, ?gather, ?scatter⟩
  case mmaOs => exact engRuns_of_work mmaOs (fun _ _ _ _ _ => rfl) fun e hfit ho hu => hu.mmaOs hfit ho e
  case mmaWs => exact engRuns_of_work mmaWs (fun _ _ _ _ _ => rfl) fun e hfit ho hu => hu.mmaWs hfit ho e
  case vecEw => exact engRuns_of_work vecEw (fun _ _ _ _ _ => rfl) fun e hfit ho hu => hu.vecEw hfit ho e
  case vecRed => exact engRuns_of_work vecRed (fun _ _ _ _ _ => rfl) fun e hfit ho hu => hu.vecRed hfit ho e
  case vecAct => exact engRuns_of_work vecAct (fun _ _ _ _ _ => rfl) fun e hfit ho hu => hu.vecAct hfit ho e
  case vecTload => exact engRuns_of_work vecTload (fun _ _ _ _ _ => rfl) fun e _ _ hu => hu.vecTload e
  case vecSoftmax => exact engRuns_of_work vecSoftmax (fun _ _ _ _ _ => rfl) fun e hfit ho hu => hu.vecSoftmax hfit ho e
  case vecRecip => exact engRuns_of_work vecRecip (fun _ _ _ _ _ => rfl) fun e hfit ho hu => hu.vecRecip hfit ho e
  case quant => exact engRuns_of_work quantOp (fun _ _ _ _ _ => rfl) fun e hfit ho hu => hu.quantOp hfit ho e
  case dequant => exact engRuns_of_work dequantOp (fun _ _ _ _ _ => rfl) fun e hfit ho hu => hu.dequantOp hfit ho e
  case gather =>
    exact engRuns_of_work (fun p _ i => gatherRows p i false i.len.toNat 0) (fun _ _ _ _ _ => rfl) fun _ hfit ho hu =>
      hu.gatherRows hfit false (by simp [outBytes, ho, Nat.mul_assoc]) _ _ (Nat.zero_add _).le
  case scatter =>
    exact engRuns_of_work (fun p _ i => gatherRows p i true i.len.toNat 0) (fun _ _ _ _ _ => rfl) fun _ hfit ho hu =>
      hu.gatherRows hfit true (by simp [outBytes, ho, Nat.mul_assoc]) _ _ (Nat.zero_add _).le

end Sys2Proof.Machine
end

section
/-! PROOFS.  What votes, messages to lenders and the end of a scrub leave alone (R146, R155, R263, R411), the steps of the scrub,
the relaxation flag (R59), and the statement on them. -/

namespace Sys2Proof.Machine

/-! ### Memories and partitions left alone -/

/-- Stack memory, the zero-fills that run, and the bookkeeping and state of the partitions are as they were. -/
structure Untouched (s t : State) : Prop where
  mem : t.mem = s.mem
  zfills : t.zfills = s.zfills
  parts : t.parts = s.parts
  state : ∀ n, t.reg .ETH_PART_STATE n = s.reg .ETH_PART_STATE n

section Untouched
variable {s t u v : State}

theorem Untouched.refl (s : State) : Untouched s s := ⟨rfl, rfl, rfl, fun _ => rfl⟩

theorem Untouched.ite {c : Prop} [Decidable c] (hu : Untouched s u) (hv : Untouched s v) : Untouched s (if c then u else v) := by
  split <;> assumption

theorem Untouched.pstate (h : Untouched s t) (n : Nat) : t.pstate n = s.pstate n := State.rd_congr (h.state n)

theorem Untouched.part (h : Untouched s t) (n : Nat) : t.part n = s.part n := by rw [State.part, State.part, h.parts]

variable (h : Untouched s u)
include h

theorem Untouched.trans (h' : Untouched u t) : Untouched s t :=
  ⟨h'.mem.trans h.mem, h'.zfills.trans h.zfills, h'.parts.trans h.parts, fun n => (h'.state n).trans (h.state n)⟩

theorem Untouched.foldl {α : Type} {f : State → α → State} (l : List α) (hf : ∀ v x, Untouched s v → Untouched s (f v x)) :
    Untouched s (l.foldl f u) :=
  List.foldlRecOn l f h fun v hv x _ => hf v x hv

/-- A change of other fields. -/
theorem Untouched.other (hm : v.mem = u.mem) (hz : v.zfills = u.zfills) (hp : v.parts = u.parts) (hr : v.regs = u.regs) :
    Untouched s v :=
  h.trans ⟨hm, hz, hp, fun n => by rw [State.reg, State.reg, hr]⟩

theorem Untouched.setReg {r : Reg} (i : Nat) (w : Word) (hr : r ≠ .ETH_PART_STATE) : Untouched s (u.setReg r i w) :=
  h.trans ⟨rfl, rfl, rfl, fun _ => State.reg_setReg_ne _ _ _ _ _ _ hr.symm⟩

theorem Untouched.wr {f : Fld} (i w : Nat) (hf : f.reg ≠ .ETH_PART_STATE) : Untouched s (u.wr f i w) := h.setReg i _ hf

theorem Untouched.clearReg {r : Reg} (i : Nat) (hr : r ≠ .ETH_PART_STATE) : Untouched s (u.clearReg i r) := h.setReg i _ hr

theorem Untouched.logs {rs : List Reg} (hl : OnlyLogs rs u v) (hrs : .ETH_PART_STATE ∉ rs ++ recRegs) : Untouched s v :=
  h.trans ⟨(congrArg State.mem hl.2 :), (congrArg State.zfills hl.2 :), (congrArg State.parts hl.2 :), fun n => hl.1 _ n hrs⟩

theorem Untouched.raise {f : Fld} (i sev : Nat) (d : List Word) (m : Nat) (hf : .ETH_PART_STATE ∉ f.reg :: recRegs) :
    Untouched s (u.raise f i sev d m) :=
  h.logs ((OnlyLogs.refl [f.reg] u).raise f i sev d m (List.mem_singleton_self _)) hf

theorem Untouched.recordOpen (b i sev : Nat) (d : List Word) : Untouched s (u.recordOpen b i sev d) := by
  have hfree : Untouched s (u.freeNat 256).2 := h.other rfl rfl rfl rfl
  exact hfree.logs ((OnlyLogs.refl [] _).record _ _ _ _ _ _ _) (by decide)

theorem Untouched.modLink (j : Nat) (f : Link → Link) : Untouched s (u.modLink j f) := h.other rfl rfl rfl rfl

theorem Untouched.setTx (k : Nat) (f : TxFlow) : Untouched s (u.setTx k f) := h.other rfl rfl rfl rfl

/-! ### Messages to lenders (R155, R193) -/

theorem Untouched.enqueue (j : Nat) (p : Packet) (e : Bool) : Untouched s (u.enqueue j p e) :=
  .ite h (.ite (u := { u with fab := { u.fab with inbox := u.fab.inbox ++ [(j, p)] } }) (h.other rfl rfl rfl rfl) (h.modLink _ _))

theorem Untouched.sendNow (p : Packet) : Untouched s (u.sendNow p none) := by
  unfold State.sendNow
  simp only
  split
  · exact h.raise _ _ _ _ (by decide)
  · exact (h.setTx _ _).enqueue _ _ _

theorem Untouched.inject (p : Packet) : Untouched s (u.inject p none) := by
  have hpeer : Untouched s (if p.cls = 3 then u else u.addPeer p.srcPart.toNat p.dstMod.toNat) := .ite h (h.other rfl rfl rfl rfl)
  exact .ite h (.ite (hpeer.sendNow _) (hpeer.setTx _ _))

theorem Untouched.sendLend (dst n kind arg : Nat) : Untouched s (u.sendLend dst n kind arg) := h.inject _

/-! ### Links (R178) -/

theorem Untouched.setLanes (p : Nat) (l : List Nat) (st : Nat) : Untouched s (u.setLanes p l st) :=
  h.foldl l fun _ _ hv => hv.wr _ _ (by decide)

theorem Untouched.train (j : Nat) : Untouched s (u.train j) := by
  have hset (use dis : List Nat) : Untouched s ((((u.setLanes (j / 8) use 1).setLanes (j / 8) dis 6).wr
      F.FAB_LINK_STAT_STATE j lkTraining).wr F.FAB_LINK_PEER_VALID j 0) :=
    (((h.setLanes _ _ _).setLanes _ _ _).wr _ _ (by decide)).wr _ _ (by decide)
  unfold State.train
  exact (hset _ _).modLink _ _

theorem Untouched.ctrlNow (j : Nat) (m : CtrlMsg) : Untouched s (u.ctrlNow j m) :=
  .ite (h.modLink _ _) (h.other rfl rfl rfl rfl)

theorem Untouched.widenPort (p : Nat) : Untouched s (u.widenPort p) :=
  (h.setLanes _ _ _).foldl _ fun _ _ hv => hv.train _

theorem Untouched.widenAll : Untouched s u.widenAll :=
  h.foldl _ fun _ _ hv => .ite ((hv.ctrlNow _ _).widenPort _) (hv.foldl _ fun _ _ hw => hw.train _)

/-! ### Power states and votes (R411 to R418) -/

theorem Untouched.withPs (x : Ps) : Untouched s { u with ps := x } := h.other rfl rfl rfl rfl

theorem Untouched.dropPend : Untouched s u.dropPend := .ite ((h.wr _ _ (by decide)).raise _ _ _ _ (by decide)) h

theorem Untouched.putPend (t : Nat) : Untouched s (u.putPend t) :=
  .ite h ((h.dropPend.wr _ _ (by decide)).wr _ _ (by decide))

theorem Untouched.psRunning (t : Nat) : Untouched s (u.psRunning t) := by
  have hset : Untouched s ({ u with ps := { u.ps with ran := t, abort := 0, wake := false } }.psSet t) :=
    ((h.withPs _).wr _ _ (by decide)).wr _ _ (by decide)
  have hawake := (hset.wr (f := F.PWR_PS_STAT_STACKS_AWAKE) 0 0 (by decide)).wr (f := F.PWR_PS_STAT_CORE_AWAKE) 0 0 (by decide)
  exact .ite (hawake.foldl _ fun _ _ hv => hv.wr _ _ (by decide)) hawake

theorem Untouched.enterStandby : Untouched s u.enterStandby :=
  (((h.withPs _).wr _ _ (by decide)).wr _ _ (by decide)).wr _ _ (by decide)

theorem Untouched.enterFreewheel : Untouched s u.enterFreewheel := by
  have hpoint : Untouched s (((({ u with ps := { u.ps with abort := 0, wake := false } }.wr F.PWR_PS_STAT_STATE 0 psEntering).wr
      F.PWR_PS_STAT_TGT 0 psFreewheel).wr F.PWR_PS_STAT_POINT 0 4).wr F.PWR_HS_STAT_WAITING 0 0xFF) :=
    ((((h.withPs _).wr _ _ (by decide)).wr _ _ (by decide)).wr _ _ (by decide)).wr _ _ (by decide)
  exact hpoint.logs (OnlyLogs.refl [] _).requestFlush (by decide)

theorem Untouched.wakeFreewheel : Untouched s u.wakeFreewheel := ((h.withPs _).wr _ _ (by decide)).wr _ _ (by decide)

theorem Untouched.wakeStandby (t : Nat) : Untouched s (u.wakeStandby t) := by
  have hwide : Untouched s ((({ u with ps := { u.ps with ran := t, abort := 0 } }.wr F.PWR_PS_STAT_STATE 0 psWaking).wr
      F.PWR_PS_STAT_TGT 0 t).widenAll) := Untouched.widenAll (((h.withPs _).wr _ _ (by decide)).wr _ _ (by decide))
  exact .ite ((hwide.psRunning t).raise _ _ _ _ (by decide)) hwide

theorem Untouched.wakeEvent {f : Fld} (hf : f.reg ≠ .ETH_PART_STATE) : Untouched s (u.wakeEvent f) :=
  .ite (h.wr _ _ hf).wakeFreewheel (.ite (.ite (h.withPs _) ((h.withPs _).wr _ _ hf)) h)

theorem Untouched.requestNow (t : Nat) : Untouched s (u.requestNow t) := by
  have hdrop := h.dropPend
  unfold State.requestNow
  refine .ite hdrop (.ite (.ite (hdrop.psRunning t) (.ite (hdrop.wakeStandby t) ?_)) ?_)
  · exact ((h.putPend t).wr _ _ (by decide)).wakeFreewheel
  · exact .ite hdrop.wakeFreewheel (.ite (h.putPend t) (.ite hdrop.enterFreewheel (.ite (h.enterStandby.putPend _) hdrop.enterStandby)))

theorem Untouched.requestBusy (t : Nat) : Untouched s (u.requestBusy t) := by
  have hput := h.putPend t
  unfold State.requestBusy
  refine .ite (.ite (h.dropPend.withPs _) (.ite (hput.wakeEvent (by decide)) (.ite h hput))) (.ite ?_ (.ite h hput))
  exact (h.dropPend.withPs _).wr _ _ (by decide)

theorem Untouched.psRequest (t : Nat) : Untouched s (u.psRequest t) := .ite (h.requestNow t) (h.requestBusy t)

theorem Untouched.psArrive : Untouched s u.psArrive := .ite ((h.wr _ _ (by decide)).requestNow _) h

/-- A look at the votes may move the power state alone. -/
theorem Untouched.voteCheck : Untouched s u.voteCheck := by
  have hwake := h.wakeEvent (f := F.PWR_WAKE_SRC_REQ) (by decide)
  unfold State.voteCheck
  exact .ite (.ite (h.psRequest _) (.ite hwake (.ite (.ite hwake (h.withPs _)) h))) h.psArrive

end Untouched

/-! ### Partitions -/

theorem getAt_modifyAt_same {α : Type} (d : α) {l : List α} {n : Nat} (f : α → α) (hn : n < l.length) :
    getAt d (modifyAt n f l) n = f (getAt d l n) := by
  induction l generalizing n with
  | nil => exact absurd hn (Nat.not_lt_zero _)
  | cons x l ih =>
    cases n with
    | zero => rfl
    | succ n => simpa [modifyAt, getAt] using ih (Nat.lt_of_succ_lt_succ hn)

theorem length_modifyAt {α : Type} (l : List α) (n : Nat) (f : α → α) : (modifyAt n f l).length = l.length := by
  induction l generalizing n with
  | nil => simp [modifyAt]
  | cons x l ih =>
    cases n with
    | zero => rfl
    | succ n => simp [modifyAt, ih]

theorem State.part_modPart (s : State) {n : Nat} (f : Part → Part) (hn : n < s.parts.length) :
    (s.modPart n f).part n = f (s.part n) := getAt_modifyAt_same Part.empty f hn

theorem State.length_parts_modPart (s : State) (n : Nat) (f : Part → Part) : (s.modPart n f).parts.length = s.parts.length :=
  length_modifyAt _ _ _

/-! ### The stores are zeroed (R263 step 4) -/

/-- A map without the keys that fail a test. -/
theorem Assoc.get_filter_key {β : Type} (d : β) (keep : Nat → Bool) (m : List (Nat × β)) (k : Nat) :
    Assoc.get d (m.filter fun e => keep e.1) k = if keep k then Assoc.get d m k else d := by
  induction m with
  | nil => simp [Assoc.get]
  | cons e m ih =>
    by_cases hkey : e.1 = k
    · cases hk : keep k <;> simp_all [Assoc.get]
    · cases he : keep e.1 <;> simp [he, Assoc.get, hkey, ih]

/-- A store that reads zeros still does when any is zeroed. -/
theorem State.storeByte_storeZero_of_zero {s : State} {q a : Nat} (h : s.storeByte q a = 0) (p : Nat) :
    (s.storeZero p).storeByte q a = 0 := by
  have hget := Assoc.get_filter_key (0 : Byte) (fun k => decide (k / 2 ^ 26 ≠ p)) s.store (storeKey q a)
  exact hget.trans (by rw [State.storeByte] at h; rw [h, ite_self])

/-- Zero the store of a cluster and clear its causes but the one of bit 0. -/
def State.zeroUnit (s : State) (p : Nat) : State := (s.storeZero p).setReg .CLU_CAUSE p (s.reg .CLU_CAUSE p &&& 1)

/-- Clear a cluster's arithmetic status, stalls and error latch. -/
def State.clearUnit (s : State) (p : Nat) : State :=
  ((s.setReg .CLU_ARITH_STAT p 0).setReg .CLU_STALL p 0).wr F.CLU_STORE_UE_ADDR_VALID p 0

/-- The clusters of partition `n` zeroed and cleared. -/
def State.unitsCleared (s : State) (n : Nat) : State :=
  (s.clusters n).foldl State.clearUnit ((s.clusters n).foldl State.zeroUnit s)

theorem Untouched.zeroUnits (s : State) (n : Nat) : Untouched s (s.zeroUnits n) := by
  have hzero : Untouched s ((s.clusters n).foldl State.zeroUnit s) :=
    (Untouched.refl s).foldl _ fun v p hv =>
      have hstore : Untouched s (v.storeZero p) := hv.other rfl rfl rfl rfl
      hstore.setReg _ _ (by decide)
  have hclear : Untouched s (s.unitsCleared n) :=
    hzero.foldl _ fun v p hv => ((hv.setReg _ _ (by decide)).setReg _ _ (by decide)).wr _ _ (by decide)
  exact hclear.other rfl rfl rfl rfl

/-- Every store of the partition's clusters reads zeros. -/
theorem State.storeByte_zeroUnits (s : State) {n p : Nat} (hp : p < 68) (hn : s.partOf p = some n) (a : Nat) :
    (s.zeroUnits n).storeByte p a = 0 := by
  have hmine : p ∈ s.clusters n := by simp [State.clusters, allP, hp, hn]
  have hzero : ((s.clusters n).foldl State.zeroUnit s).storeByte p a = 0 :=
    foldl_of_mem (fun u : State => u.storeByte p a = 0) State.zeroUnit (fun u q hu => State.storeByte_storeZero_of_zero hu q)
      (fun u => u.storeByte_storeZero p a) _ s hmine
  have hclear : (s.unitsCleared n).storeByte p a = 0 :=
    List.foldlRecOn (s.clusters n) State.clearUnit (motive := fun u : State => u.storeByte p a = 0) hzero fun u hu q _ => hu
  exact hclear

/-- SCRUB_HALTED in step 3 (R263 step 4). -/
theorem execScrubHalted_effect {n : Fin 16} {s : State} (hst : s.pstate n.val = 4) (hstep : (s.part n.val).scrubStep = 3)
    (hlen : s.parts.length = 16) : ∃ t, execScrubHalted n s = .next t ∧ (t.part n.val).scrubStep = 4 ∧
      (∀ p < 68, s.partOf p = some n.val → ∀ a, t.storeByte p a = 0) ∧ t.mem = s.mem ∧ t.pstate n.val = 4 := by
  have hkeep := Untouched.zeroUnits s n
  refine ⟨_, if_pos ⟨hst, hstep⟩, ?_, fun p hp hn a => s.storeByte_zeroUnits hp hn a, hkeep.mem, (hkeep.pstate n).trans hst⟩
  rw [State.part_modPart _ _ (by rw [hkeep.parts, hlen]; exact n.isLt)]

/-! ### The scrub ends (R263 step 6) -/

theorem Untouched.sweepShow {s u : State} (h : Untouched s u) : Untouched s u.sweepShow :=
  h.foldl _ fun _ _ hv => hv.wr _ _ (by decide)

theorem Untouched.clearSeals {s u : State} (h : Untouched s u) (n : Nat) : Untouched s (u.clearSeals n) :=
  h.foldl _ fun _ _ hv => (hv.setReg _ _ (by decide)).setReg _ _ (by decide)

theorem Untouched.clearWins {s u : State} (h : Untouched s u) (n : Nat) : Untouched s (u.clearWins n) := h.other rfl rfl rfl rfl

theorem Untouched.clearPeers {s u : State} (h : Untouched s u) (n : Nat) : Untouched s (u.clearPeers n) := h.other rfl rfl rfl rfl

/-- The bookkeeping of partition `n` is emptied and its state is FREE. -/
def State.emptied (s : State) (n : Nat) : State := (s.modPart n fun _ => Part.empty).setReg .ETH_PART_STATE n 0

theorem State.pstate_emptied (s : State) (n : Nat) : (s.emptied n).pstate n = 0 := by
  rw [State.pstate, State.emptied, State.rd_setReg, if_pos ⟨rfl, rfl⟩]; rfl

theorem State.part_emptied (s : State) {n : Nat} (hn : n < s.parts.length) : (s.emptied n).part n = Part.empty :=
  s.part_modPart _ hn

/-- The end of a scrub empties its partition, and leaves all else of the memories and partitions. -/
theorem State.scrubDone_effect (s : State) (n : Nat) : ∃ u, Untouched s u ∧ Untouched (u.emptied n) (s.scrubDone n) := by
  unfold State.scrubDone
  extract_lets failed s0 s1 s2 s3 fab s4 time s5 s6 s7
  have h0 : Untouched s s0 := (Untouched.refl s).other rfl rfl rfl rfl
  have h1 : Untouched s s1 := ((h0.clearSeals n).clearWins n).clearPeers n
  have h2 : Untouched s s2 := (h1.setReg _ _ (by decide)).setReg _ _ (by decide)
  have h3 : Untouched s s3 := h2.foldl _ fun _ _ hv =>
    (((hv.wr _ _ (by decide)).wr _ _ (by decide)).wr _ _ (by decide)).setReg _ _ (by decide)
  have h4 : Untouched s s4 := by
    refine List.foldlRecOn _ _ (h3.other rfl rfl rfl rfl) fun v hv r hr => hv.clearReg _ ?_
    rintro rfl
    exact absurd hr (by decide)
  have h6 : Untouched s5 s6 := (((Untouched.refl s5).wr _ _ (by decide)).wr _ _ (by decide)).wr _ _ (by decide)
  have h7 : Untouched s5 s7 := .ite (h6.recordOpen _ _ _ _) h6
  exact ⟨s4, h4, h7.sweepShow.raise _ _ _ _ (by decide)⟩

/-! ### The zero-fill of a scrub (R146, R263 step 5) -/

theorem State.parts_zeroFill (s : State) (mask base frames : Nat) (loan : Bool) (owner : Nat) :
    (s.zeroFill mask base frames loan owner).parts = s.parts :=
  List.foldlRecOn (motive := fun u : State => u.parts = s.parts) _ _ rfl fun _ hu _ _ => hu

/-- The state of step 5: the loans of partition `n` have ended. -/
def State.scrubbed (s : State) (n : Nat) : State := (s.endLoans n).modPart n fun p => { p with scrubStep := 5 }

theorem Untouched.tellLenders (s : State) (l : List LoanIn) (n : Nat) :
    Untouched s (l.foldl (fun u x => u.sendLend x.lender n 4 x.slot) s) :=
  (Untouched.refl s).foldl _ fun _ _ hv => hv.sendLend _ _ _ _

theorem State.length_parts_endLoans (s : State) (n : Nat) : (s.endLoans n).parts.length = s.parts.length :=
  (State.length_parts_modPart _ n _).trans (congrArg List.length (Untouched.tellLenders s _ n).parts)

theorem State.loans_endLoans (s : State) {n : Nat} (hn : n < s.parts.length) : ((s.endLoans n).part n).loans = [] :=
  congrArg Part.loans (State.part_modPart _ (fun p => { p with loans := [] }) (by rwa [(Untouched.tellLenders s _ n).parts]))

/-- After step 5 has begun the partition has no loans. -/
theorem State.part_scrubbed (s : State) {n : Nat} (hn : n < s.parts.length) :
    ((s.scrubbed n).part n).loans = [] ∧ ((s.scrubbed n).part n).scrubStep = 5 := by
  rw [State.scrubbed, State.part_modPart _ _ (by rwa [State.length_parts_endLoans])]
  exact ⟨s.loans_endLoans hn, rfl⟩

/-- SCRUB_STORES_ZEROED in step 4 (R263 step 5). -/
theorem execScrubStoresZeroed_effect {n : Fin 16} {s : State} (hst : s.pstate n.val = 4) (hstep : (s.part n.val).scrubStep = 4)
    (hlen : s.parts.length = 16) : ∃ t, execScrubStoresZeroed n s = .next t ∧ (t.part n.val).loans = [] ∧
      (t.pstate n.val = 0 ∨ (t.part n.val).scrubStep = 5) := by
  have hn : n.val < s.parts.length := by rw [hlen]; exact n.isLt
  obtain ⟨hloans, hfive⟩ := s.part_scrubbed hn
  refine ⟨_, if_pos ⟨hst, hstep⟩, ?_⟩
  unfold State.scrubFill
  extract_lets s1 s2
  have hparts : s2.parts = s1.parts := State.parts_zeroFill _ _ _ _ _ _
  have hpart : s2.part n = s1.part n := by rw [State.part, State.part, hparts]
  split
  · rw [hpart]
    exact ⟨hloans, .inr hfive⟩
  · obtain ⟨u, hu, hdone⟩ := s2.scrubDone_effect n
    have hlen2 : n.val < u.parts.length := by
      rw [hu.parts, hparts, State.length_parts_modPart, State.length_parts_endLoans]; exact hn
    rw [hdone.part, hdone.pstate, State.part_emptied _ hlen2]
    exact ⟨rfl, .inl (State.pstate_emptied _ _)⟩

/-! ### ZERO_FILL_DONE (R146) -/

/-- Stack memory and the zero-fills that run are as they were. -/
def SameFills (s t : State) : Prop := t.mem = s.mem ∧ t.zfills = s.zfills

theorem State.scrubDone_sameFills (s : State) (n : Nat) : SameFills s (s.scrubDone n) := by
  obtain ⟨u, hu, hdone⟩ := s.scrubDone_effect n
  exact ⟨hdone.mem.trans hu.mem, hdone.zfills.trans hu.zfills⟩

theorem State.loanFreed_sameFills (s : State) (k : Nat) : SameFills s (s.loanFreed k) := by
  unfold State.loanFreed
  split <;> exact ⟨rfl, rfl⟩

/-- The end of a zero-fill takes it off the list, and its range reads zeros. -/
theorem State.zeroFillEnd_effect (s : State) (z : ZFill) :
    (s.zeroFillEnd z).zfills = s.zfills.erase z ∧ ∀ e ∈ (s.zeroFillEnd z).mem, inRange z e.1 1 = false := by
  unfold State.zeroFillEnd
  extract_lets s1 s2
  have hs : Untouched s1 s2 := .ite (.refl s1) ((Untouched.refl s1).wr _ _ (by decide))
  have hraise : Untouched s1 (s2.raise F.MEM_CAUSE_ZERO_DONE z.stack) := hs.raise _ _ _ _ (by decide)
  refine ⟨hraise.zfills, fun e he => ?_⟩
  rw [hraise.mem] at he
  simpa using (List.mem_filter.1 he).2

/-- ZERO_FILL_DONE of a fill that runs: what follows its end leaves memory and the fills. -/
theorem execZeroFillDone_effect {k : Fin 8} {loan : Bool} {owner : Fin 32} {s : State} {z : ZFill}
    (h : s.zfills.find? (fun z => z.stack = k.val && z.loan = loan && z.owner = owner.val) = some z) :
    ∃ t, execZeroFillDone k loan owner s = .next t ∧ t.zfills = s.zfills.erase z ∧ ∀ e ∈ t.mem, inRange z e.1 1 = false := by
  obtain ⟨hfills, hmem⟩ := s.zeroFillEnd_effect z
  suffices hnext : ∃ t, execZeroFillDone k loan owner s = .next t ∧ SameFills (s.zeroFillEnd z) t by
    obtain ⟨t, ht, hm, hz⟩ := hnext
    exact ⟨t, ht, hz.trans hfills, fun e he => hmem e (hm ▸ he)⟩
  unfold execZeroFillDone
  simp only [h]
  split
  · exact ⟨_, rfl, rfl, rfl⟩
  · split
    · exact ⟨_, rfl, State.loanFreed_sameFills _ _⟩
    · split
      · obtain ⟨hm, hz⟩ := (s.zeroFillEnd z).scrubDone_sameFills owner
        have hvote := (Untouched.refl ((s.zeroFillEnd z).scrubDone owner)).voteCheck
        exact ⟨_, rfl, hvote.mem.trans hm, hvote.zfills.trans hz⟩
      · exact ⟨_, rfl, rfl, rfl⟩

/-- Settles O10: each step of the scrub is its own effect, and what follows a zero-fill's end leaves memory and the other fills. -/
theorem scrubBetweenUsers : Obligations.ScrubBetweenUsers := by
  unfold Obligations.ScrubBetweenUsers
  refine ⟨?halted, ?zeroed, ?filled, ?relax⟩
  case halted => exact fun n s hst hstep hlen => execScrubHalted_effect hst hstep hlen
  case zeroed => exact fun n s hst hstep hlen => execScrubStoresZeroed_effect hst hstep hlen
  case filled => exact fun k loan owner s z h => execZeroFillDone_effect h
  case relax => exact fun s => ⟨rfl, rfl⟩

end Sys2Proof.Machine
end

section
/-! PROOFS.  Tokens (R80 to R83): what a wait, a release, a signal and a stalled wait come to, and the statement on them. -/

namespace Sys2Proof.Machine

/-! ### Waits (R80) -/

theorem State.tokCount_tokTake (s : State) (k n : Nat) : (s.tokTake k n).tokCount k = s.tokCount k - n :=
  (Assoc.get_set _ _ _ _ _).trans (if_pos rfl)

/-- A unit without a grant that waits nowhere takes a ready token, and joins the waiters of another. -/
theorem State.waitOn_of_fresh {s : State} {u : Nat} (k n : Nat) (hgrant : s.granted.elem u = false)
    (hwait : s.waiters.any (fun w => w.unit = u) = false) :
    s.waitOn u k n = if s.tokReady k n then (s.tokTake k n, true)
      else ({ s with waiters := s.waiters ++ [{ tok := k, unit := u, n := n, since := s.up }] }, false) := by
  rw [State.waitOn, if_neg (by rw [hgrant]; decide), if_neg (by rw [hwait]; decide)]

/-- TOKEN_WAIT on a token that there is comes to the wait on it. -/
theorem execTokenWait_of_key {p : Fin 68} {g : Bool} {a : BitVec 8} {s : State} {k : Nat} (u : Fin 21) (n : BitVec 8)
    (hg : g = true → a.toNat < 64) (hk : s.tokKey p g a.toNat = some k) :
    execTokenWait p u g a n s = .next (s.waitOn (unitCode p u) k n.toNat).1 := by
  rw [execTokenWait, if_neg (by simpa using hg), hk]

theorem execTokenWait_effect {p : Fin 68} {u : Fin 21} {g : Bool} {a : BitVec 8} {s : State} {k : Nat} (n : BitVec 8)
    (hg : g = true → a.toNat < 64) (hk : s.tokKey p g a.toNat = some k) (hgrant : s.granted.elem (unitCode p u) = false)
    (hwait : s.waiters.any (fun w => w.unit = unitCode p u) = false) :
    ∃ t, execTokenWait p u g a n s = .next t ∧
      (s.tokReady k n.toNat = true → t.tokCount k = s.tokCount k - n.toNat ∧ t = { s with tok := t.tok }) ∧
      (s.tokReady k n.toNat = false →
        t = { s with waiters := s.waiters ++ [{ tok := k, unit := unitCode p u, n := n.toNat, since := s.up }] }) := by
  refine ⟨_, execTokenWait_of_key u n hg hk, ?_⟩
  rw [State.waitOn_of_fresh k n.toNat hgrant hwait]
  cases s.tokReady k n.toNat with
  | true => exact ⟨fun _ => ⟨s.tokCount_tokTake k _, rfl⟩, fun h => absurd h (by decide)⟩
  | false => exact ⟨fun h => absurd h (by decide), fun _ => rfl⟩

/-! ### Stall bits (R83) and releases -/

theorem stallBit_getLsbD (w : Word) (u : Nat) :
    (w ||| BitVec.ofNat 32 (stallBit u)).getLsbD (u % 32) = true ∧ (w &&& ~~~(BitVec.ofNat 32 (stallBit u))).getLsbD (u % 32) = false := by
  have hlt : u % 32 < 32 := Nat.mod_lt _ (by decide)
  have hbit : (BitVec.ofNat 32 (stallBit u)).getLsbD (u % 32) = true := by
    rw [BitVec.getLsbD_ofNat, stallBit, Nat.testBit_two_pow_self]
    exact Bool.and_eq_true_iff.2 ⟨decide_eq_true hlt, rfl⟩
  rw [BitVec.getLsbD_or, BitVec.getLsbD_and, BitVec.getLsbD_not, hbit]
  simp

theorem unitCode_mod (p k : Nat) : unitCode p k % 32 = k % 32 := by rw [unitCode]; omega

theorem State.stall_clearStall (s : State) (u : Nat) : ((s.clearStall u).reg .CLU_STALL (u / 32)).getLsbD (u % 32) = false := by
  rw [State.clearStall, State.reg_setReg, if_pos ⟨rfl, rfl⟩]
  exact (stallBit_getLsbD _ u).2

theorem OnlyRegs.clearStall (s : State) (u : Nat) : OnlyRegs [.CLU_STALL] s (s.clearStall u) :=
  (OnlyRegs.refl _ s).setReg _ _ (by decide)

/-- The first waiter of a token is served: it no longer waits, and holds a grant. -/
def State.served1 (s : State) (k : Nat) (w : Waiter) : State :=
  { s.tokTake k w.n with waiters := s.waiters.erase w, granted := s.granted ++ [w.unit] }

theorem State.tokRelease_of_first {s : State} {k : Nat} {w : Waiter} (hw : s.waiters.find? (fun w => w.tok = k) = some w)
    (hn : w.n ≤ s.tokCount k) : s.tokRelease k = (s.served1 k w).clearStall w.unit := by
  simp only [State.tokRelease, hw, if_neg (Nat.not_lt.2 hn)]
  rfl

theorem execTokenWaitRelease_effect {p : Fin 68} {g : Bool} {a : BitVec 8} {s : State} {k : Nat} {w : Waiter}
    (hk : s.tokKey p g a.toNat = some k) (hw : s.waiters.find? (fun w => w.tok = k) = some w) (hn : w.n ≤ s.tokCount k) :
    ∃ t, execTokenWaitRelease p g a s = .next t ∧ t.tokCount k = s.tokCount k - w.n ∧ t.waiters = s.waiters.erase w ∧
      t.granted = s.granted ++ [w.unit] ∧ (t.reg .CLU_STALL (w.unit / 32)).getLsbD (w.unit % 32) = false ∧
      OnlyRegs [.CLU_STALL] { s with tok := t.tok, waiters := t.waiters, granted := t.granted } t := by
  have hexec : execTokenWaitRelease p g a s = .next ((s.served1 k w).clearStall w.unit) := by
    rw [execTokenWaitRelease, hk]
    exact congrArg Host.Outcome.next (State.tokRelease_of_first hw hn)
  exact ⟨_, hexec, s.tokCount_tokTake k w.n, rfl, rfl, State.stall_clearStall _ _, OnlyRegs.clearStall _ _⟩

/-! ### Signals (R80, R82) -/

/-- The module with `n` added to token `k`, before an overflow is looked at. -/
def State.tokAdded (s : State) (k n : Nat) : State :=
  { s with tok := Assoc.set 0 s.tok k (min (s.tokCount k + n) 65535), tokSig := Assoc.put s.tokSig k s.up }

theorem State.tokCount_tokAdded (s : State) (k n : Nat) : (s.tokAdded k n).tokCount k = min (s.tokCount k + n) 65535 :=
  (Assoc.get_set _ _ _ _ _).trans (if_pos rfl)

theorem State.tok_raise (s : State) (f : Fld) (i sev : Nat) (d : List Word) (m : Nat) : (s.raise f i sev d m).tok = s.tok := by
  rw [State.raise_eq]

/-- After TOKOVF at cluster `q` the RUN of its partition takes the status, and its pattern stops. -/
def State.tokStopped (s : State) (q : Nat) : State :=
  match s.partOf q with
  | none => s
  | some n => (s.modRun n fun c => c.note 0x23 (s.rd F.CLU_ID_LOGICAL q)).stopPattern n

theorem State.tokStopped_keeps (s : State) (q : Nat) : (s.tokStopped q).regs = s.regs ∧ (s.tokStopped q).tok = s.tok := by
  unfold State.tokStopped
  split <;> exact ⟨rfl, rfl⟩

theorem State.tokAdd_of_fits {s : State} {k n : Nat} (h : s.tokCount k + n ≤ 65535) : (s.tokAdd k n).1 = s.tokAdded k n :=
  congrArg Prod.fst (if_pos h)

/-- An overflow raises TOKOVF at the token's holder, where it has one. -/
theorem State.tokAdd_of_overflow {s : State} {k n : Nat} (h : 65535 < s.tokCount k + n) :
    (s.tokAdd k n).1 = (s.tokHolder k).elim (s.tokAdded k n) fun q => ((s.tokAdded k n).raise F.CLU_CAUSE_TOKOVF q).tokStopped q := by
  unfold State.tokAdd
  extract_lets c s1
  rw [if_neg (Nat.not_le.2 h)]
  change _ = (s1.tokHolder k).elim s1 fun q => (s1.raise F.CLU_CAUSE_TOKOVF q).tokStopped q
  clear_value s1
  cases s1.tokHolder k with
  | none => rfl
  | some q =>
    dsimp only [Option.elim]
    generalize State.raise _ _ _ = u
    unfold State.tokStopped
    cases u.partOf q <;> rfl

theorem State.flag_tokovf (s : State) (q : Nat) : ((s.raise F.CLU_CAUSE_TOKOVF q).tokStopped q).flag F.CLU_CAUSE_TOKOVF q = true := by
  have hreg : ((s.raise F.CLU_CAUSE_TOKOVF q).tokStopped q).reg .CLU_CAUSE q = (s.raise F.CLU_CAUSE_TOKOVF q).reg .CLU_CAUSE q := by
    rw [State.reg, State.reg, (State.tokStopped_keeps _ q).1]
  rw [State.flag_congr (g := F.CLU_CAUSE_TOKOVF) hreg, State.flag_raise_same _ _ _ _ _ _ (by decide)]

/-- Whether or not it overflows, an addition leaves the sum in the token, at most 65535. -/
theorem State.tokCount_tokAdd (s : State) (k n : Nat) : (s.tokAdd k n).1.tokCount k = min (s.tokCount k + n) 65535 := by
  rw [← s.tokCount_tokAdded k n]
  rcases Nat.lt_or_ge 65535 (s.tokCount k + n) with hover | hfits
  · rw [State.tokAdd_of_overflow hover]
    cases s.tokHolder k with
    | none => rfl
    | some q => exact congrArg (Assoc.get 0 · k) ((State.tokStopped_keeps _ q).2.trans (State.tok_raise _ _ _ _ _ _))
  · rw [State.tokAdd_of_fits hfits]

/-- TOKEN_SIGNAL on a token that there is comes to the addition. -/
theorem execTokenSignal_of_key {p : Fin 68} {g : Bool} {a : BitVec 8} {s : State} {k : Nat} (n : BitVec 8)
    (hg : g = true → a.toNat < 64) (hk : s.tokKey p g a.toNat = some k) :
    execTokenSignal p g a n s = .next (s.tokAdd k n.toNat).1 := by
  rw [execTokenSignal, if_neg (by simpa using hg), hk]

theorem execTokenSignal_effect {p : Fin 68} {g : Bool} {a : BitVec 8} {s : State} {k : Nat} (n : BitVec 8)
    (hg : g = true → a.toNat < 64) (hk : s.tokKey p g a.toNat = some k) :
    ∃ t, execTokenSignal p g a n s = .next t ∧ t.tokCount k = min (s.tokCount k + n.toNat) 65535 ∧
      (s.tokCount k + n.toNat ≤ 65535 → t = { s with tok := t.tok, tokSig := t.tokSig }) ∧
      (65535 < s.tokCount k + n.toNat → ∀ q, s.tokHolder k = some q → t.flag F.CLU_CAUSE_TOKOVF q = true) := by
  refine ⟨_, execTokenSignal_of_key n hg hk, s.tokCount_tokAdd k _, fun hfits => ?_, fun hover q hq => ?_⟩
  · rw [State.tokAdd_of_fits hfits]
    rfl
  · rw [State.tokAdd_of_overflow hover, hq]
    exact State.flag_tokovf _ q

/-! ### Tokens that are none (R81) -/

theorem exec_of_global_above (p : Fin 68) {a : BitVec 8} (n : BitVec 8) (u : Fin 21) (s : State) (h : 64 ≤ a.toNat) :
    execTokenSignal p true a n s = .next s ∧ execTokenWait p u true a n s = .next s :=
  ⟨if_pos (by simpa using h), if_pos (by simpa using h)⟩

/-- A cluster in no partition names no global token. -/
theorem exec_of_no_partition {p : Fin 68} (a n : BitVec 8) (u : Fin 21) {s : State} (h : s.partOf p = none) :
    execTokenSignal p true a n s = .next s ∧ execTokenWait p u true a n s = .next s := by
  have hkey : s.tokKey p true a.toNat = none := by simp [State.tokKey, h]
  constructor
  · rw [execTokenSignal, hkey, ite_self]
  · rw [execTokenWait, hkey, ite_self]

/-! ### The stall check (R83) -/

theorem execStallTimeout_effect {p : Fin 68} {u : Fin 21} {s : State} (hlim : s.rd F.CLU_WDOG_LIMIT p ≠ 0)
    (hwait : s.waiters.any (fun w => w.unit = unitCode p u) = true) :
    ∃ t, execStallTimeout p u s = .next t ∧ t.flag F.CLU_CAUSE_STALL p = true ∧ (t.reg .CLU_STALL p).getLsbD u = true ∧
      OnlyLogs [.CLU_STALL, .CLU_CAUSE] s t := by
  have hset : OnlyLogs [.CLU_STALL, .CLU_CAUSE] s
      (s.setReg .CLU_STALL p (s.reg .CLU_STALL p ||| BitVec.ofNat 32 (stallBit (unitCode p u)))) :=
    ⟨fun _ _ hr => State.reg_setReg_ne _ _ _ _ _ _ fun e => hr (by simp [e]), rfl⟩
  refine ⟨_, if_pos ⟨hlim, hwait⟩, State.flag_raise_same _ _ _ _ _ _ (by decide), ?_, hset.raise _ _ _ _ _ (by decide)⟩
  have hbit := (stallBit_getLsbD (s.reg .CLU_STALL p) (unitCode p u)).1
  have hu : unitCode p u % 32 = u.val := by rw [unitCode_mod, Nat.mod_eq_of_lt (by omega)]
  rw [State.reg_raise _ _ _ _ _ _ _ _ (by decide), State.reg_wr_ne _ _ _ _ _ _ (by decide), State.reg_setReg, if_pos ⟨rfl, rfl⟩]
  rwa [hu] at hbit

/-- Settles O13: a wait and a signal come to the operation on the token they name, a release serves its first waiter, and an
overflow marks its holder alone. -/
theorem tokensCountAndStall : Obligations.TokensCountAndStall := by
  unfold Obligations.TokensCountAndStall
  refine ⟨?wait, ?release, ?signal, ?above, ?outside, ?stall⟩
  case wait => exact fun p u g a n s k hg hk hgrant hwait => execTokenWait_effect n hg hk hgrant hwait
  case release => exact fun p g a s k w hk hw hn => execTokenWaitRelease_effect hk hw hn
  case signal => exact fun p g a n s k hg hk => execTokenSignal_effect n hg hk
  case above => exact fun p a n u s h => exec_of_global_above p n u s h
  case outside => exact fun p a n u s h => exec_of_no_partition a n u h
  case stall => exact fun p u s hlim hwait => execStallTimeout_effect hlim hwait

end Sys2Proof.Machine
end

section
/-! PROOFS.  The start-up cluster tests, the cluster map in the configuration memory and gating in Trim (R90, R413, R432), and the
statement on them. -/

namespace Sys2Proof.Machine

/-! ### The cluster tests (R90) -/

/-- Registers that the cluster tests write. -/
def testRegs : List Reg := [.CLU_STATE, .CLU_ID, .CLU_ENG_MAP]

theorem OnlyRegs.ite {rs : List Reg} {s u v : State} {c : Prop} [Decidable c] (hu : OnlyRegs rs s u) (hv : OnlyRegs rs s v) :
    OnlyRegs rs s (if c then u else v) := by
  split <;> assumption

/-- The tests write the clusters' states, numbers and engine maps, and end every bring-in. -/
theorem OnlyRegs.clusterTests (s : State) (pass : BitVec 68) (bad : List (Fin 68 × BitVec 16)) :
    OnlyRegs testRegs { s with mapDue := (s.clusterTests pass bad).mapDue, bringIns := [] } (s.clusterTests pass bad) := by
  unfold State.clusterTests
  extract_lets m mask ok enabled spareOk pl places s1 s2 s3 changed
  have h1 : OnlyRegs testRegs s s1 := (OnlyRegs.refl _ s).foldl _ fun _ _ hv =>
    (((hv.setReg _ _ (by decide)).wr _ _ _ (by decide)).wr _ _ _ (by decide)).wr _ _ _ (by decide)
  have h2 : OnlyRegs testRegs s s2 := h1.foldl _ fun _ _ hv => .ite (hv.wr _ _ _ (by decide)) (hv.wr _ _ _ (by decide))
  have h3 : OnlyRegs testRegs s s3 := by
    refine h2.foldl _ fun v x hv => ?_
    have hid := hv.wr F.CLU_ID_LOGICAL x.1.2 x.2 (by decide)
    simp only
    split
    · exact ((hid.wr _ _ _ (by decide)).wr _ _ _ (by decide)).wr _ _ _ (by decide)
    · exact hid
  exact ⟨h3.1, congrArg (fun u : State => { u with mapDue := s.mapDue || changed, bringIns := [] }) h3.2⟩

theorem execClusterTestDone_effect (pass : BitVec 68) (bad : List (Fin 68 × BitVec 16)) {s : State} (h : s.pwr.vcore = true) :
    ∃ t, execClusterTestDone pass bad s = .next t ∧
      OnlyRegs testRegs { s with mapDue := t.mapDue, bringIns := [], pwr := { s.pwr with tested := true } } t := by
  obtain ⟨hregs, hrest⟩ := OnlyRegs.clusterTests s pass bad
  exact ⟨_, if_pos h, hregs, congrArg (fun u : State => { u with pwr := { u.pwr with tested := true } }) hrest⟩

/-! ### The cluster map (R90, R432) -/

/-- The module with other copies of the cluster map, and no map to be written. -/
def State.withMaps (s : State) (l : List (Option ClusterMap)) : State := { s with mapDue := false, nv := { s.nv with maps := l } }

/-- Of the two copies one takes the map in force and the other stays. -/
theorem execClusterMapWrite_two {s : State} {a b : Option ClusterMap} (hdue : s.mapDue = true) (hup : s.mgmt.down = false)
    (hmaps : s.nv.maps = [a, b]) : execClusterMapWrite s = .next (s.withMaps [some s.mapNow, b]) ∨
      execClusterMapWrite s = .next (s.withMaps [a, some s.mapNow]) := by
  rw [execClusterMapWrite, if_pos (by simp [hdue, hup]), hmaps]
  rcases a with _ | a
  · exact .inl rfl
  · rcases b with _ | b
    · exact .inr rfl
    · by_cases hlt : a.seq < b.seq
      · exact .inl (congrArg (fun l => Host.Outcome.next (s.withMaps l)) (if_pos hlt))
      · exact .inr (congrArg (fun l => Host.Outcome.next (s.withMaps l)) (if_neg hlt))

theorem execClusterMapWrite_effect {s : State} (hdue : s.mapDue = true) (hup : s.mgmt.down = false) (hlen : s.nv.maps.length = 2) :
    ∃ t, execClusterMapWrite s = .next t ∧ some s.mapNow ∈ t.nv.maps ∧
      t = { s with mapDue := false, nv := { s.nv with maps := t.nv.maps } } := by
  obtain ⟨a, b, hab⟩ := List.length_eq_two.1 hlen
  rcases execClusterMapWrite_two hdue hup hab with h | h
  · exact ⟨_, h, List.mem_cons_self, rfl⟩
  · exact ⟨_, h, List.mem_cons_of_mem _ List.mem_cons_self, rfl⟩

theorem execClusterMapWrite_waits {s : State} (h : s.mgmt.down = true) : execClusterMapWrite s = .next s := if_neg (by simp [h])

/-! ### Gating (R413) -/

theorem execClusterGate_effect {p : Fin 68} {s : State} (htrim : s.rd F.PWR_PS_STAT_STATE = 1) (hen : s.enabled p.val = true)
    (hidle : ∀ n, s.partOf p = some n → s.runActive n = false) :
    ∃ t, execClusterGate p s = .next t ∧ t.flag F.CLU_STATE_GATED p = true ∧ OnlyRegs [.CLU_STATE] s t := by
  refine ⟨_, if_pos ⟨htrim, hen, ?_⟩, State.flag_wr_one _ _ _ (by decide), (OnlyRegs.refl _ s).wr _ _ _ (by decide)⟩
  cases hp : s.partOf p with
  | none => rfl
  | some n => simp [hidle n hp]

theorem execClusterUngate_effect (p : Fin 68) (s : State) :
    ∃ t, execClusterUngate p s = .next t ∧ t.flag F.CLU_STATE_GATED p = false ∧ OnlyRegs [.CLU_STATE] s t :=
  ⟨_, rfl, State.flag_wr_zero _ _ _ (by decide), (OnlyRegs.refl _ s).wr _ _ _ (by decide)⟩

theorem execClusterGate_outside_trim (p : Fin 68) {s : State} (h : s.rd F.PWR_PS_STAT_STATE ≠ 1) : execClusterGate p s = .next s :=
  if_neg fun hc => h hc.1

/-- Settles O3: the tests and the gates write the registers they name, and of the two copies of the map one is written. -/
theorem clusterTestsMapAndGating : Obligations.ClusterTestsMapAndGating := by
  unfold Obligations.ClusterTestsMapAndGating
  refine ⟨?tests, ?map, ?waits, ?gate, ?ungate, ?outside⟩
  case tests => exact fun pass bad s h => execClusterTestDone_effect pass bad h
  case map => exact fun s hdue hup hlen => execClusterMapWrite_effect hdue hup hlen
  case waits => exact fun s h => execClusterMapWrite_waits h
  case gate => exact fun p s htrim hen hidle => execClusterGate_effect htrim hen hidle
  case ungate => exact fun p s => execClusterUngate_effect p s
  case outside => exact fun p s h => execClusterGate_outside_trim p h

end Sys2Proof.Machine
end

section
/-! PROOFS.  The course of an engine instruction's stream (R80, R102, R106), the step beacon (R109, R302), and the statement on the
instructions that move their stream alone. -/

namespace Sys2Proof.Machine

/-! ### What moves in a stream (R80, R106) -/

/-- What a wait with answer `r` comes to: satisfied, it takes from a token or uses a grant up; else it may add a waiter. -/
def Waited (s : State) (r : State × Bool) : Prop :=
  (r.2 = true → ∃ tok granted, r.1 = { s with tok := tok, granted := granted }) ∧
    (r.2 = false → ∃ waiters, r.1 = { s with waiters := waiters })

theorem State.waited_waitOn (s : State) (u k n : Nat) : Waited s (s.waitOn u k n) := by
  unfold State.waitOn
  split
  · exact ⟨fun _ => ⟨_, _, rfl⟩, nofun⟩
  · split
    · exact ⟨nofun, fun _ => ⟨_, rfl⟩⟩
    · split
      · exact ⟨fun _ => ⟨_, _, rfl⟩, nofun⟩
      · exact ⟨nofun, fun _ => ⟨_, rfl⟩⟩

theorem State.waited_engWait (s : State) (p e : Nat) (i : EngInstr) : Waited s (s.engWait p e i) := by
  unfold State.engWait
  split
  · split
    · exact s.waited_waitOn _ _ _
    · exact ⟨nofun, fun _ => ⟨_, rfl⟩⟩
  · exact ⟨fun _ => ⟨_, _, rfl⟩, nofun⟩

/-- Taking an instruction off changes the streams alone. -/
theorem State.popEng_eq (s : State) (p e : Nat) (i : EngInstr) : ∃ q, s.popEng p e i = { s with engQ := q } := by
  unfold State.popEng
  simp only
  split
  · split <;> exact ⟨_, rfl⟩
  · exact ⟨_, rfl⟩

/-- An instruction that stands at the front of its stream is taken off. -/
theorem StreamMoves.popEng {p : Fin 68} {e : Fin 16} {i : EngInstr} {s u : State} (h : u.engQ = s.engQ) :
    StreamMoves p e i s (u.popEng p e i) := by
  intro l hl
  rw [State.popEng]
  simp only [h, hl, if_true]
  exact (Assoc.find_put _ _ _ _).trans (if_pos rfl)

theorem State.engSignal_of_none {i : EngInstr} (s : State) (p : Nat) (h : i.sigEn = false) : s.engSignal p i = s :=
  if_neg (by simp [h])

/-! ### The course of an instruction -/

section Course
variable {p : Fin 68} {e : Fin 16} {opc : Nat} {i : EngInstr} {s : State}

/-- Once its stream goes on, an instruction of its form has its effect, leaves the stream and signals. -/
theorem runEng_of_goes (h : List EccHit) (body : State → State) (hform : engForm opc i = true) (hgoes : s.goes p e i = true) :
    runEng p e opc i h body s = .next (((body ((s.engWait p e i).1.eccHits p h)).popEng p e i).engSignal p i) := by
  obtain ⟨hreplay, hwait⟩ := Bool.and_eq_true_iff.1 hgoes
  rw [runEng, if_pos hform, if_neg (by simpa using hreplay)]
  simp only [hwait, if_true]

/-- An instruction whose WAIT is not satisfied has the effect of its wait alone. -/
theorem runEng_of_stalled (h : List EccHit) (body : State → State) (hform : engForm opc i = true)
    (hreplay : s.replayQ.any (fun r => r.cluster = p && r.engine = e) = false) (hwait : (s.engWait p e i).2 = false) :
    runEng p e opc i h body s = .next (s.engWait p e i).1 := by
  rw [runEng, if_pos hform, if_neg (by simp [hreplay])]
  simp only [hwait, Bool.false_eq_true, if_false]

theorem runEng_refused (h : List EccHit) (body : State → State) (hform : engForm opc i = false) :
    runEng p e opc i h body s = .refused .illFormed := if_neg (by simp [hform])

theorem engWait_of_goes (hgoes : s.goes p e i = true) : (s.engWait p e i).2 = true := (Bool.and_eq_true_iff.1 hgoes).2

/-- With no work of its own and no SIGNAL an instruction moves its stream, its token and its grant alone. -/
theorem runEng_moves (hform : engForm opc i = true) (hgoes : s.goes p e i = true) (hsig : i.sigEn = false) :
    ∃ t, runEng p e opc i [] id s = .next t ∧ StreamMoves p e i s t ∧
      OnlyRegs [] { s with engQ := t.engQ, tok := t.tok, granted := t.granted } t := by
  obtain ⟨tok, granted, hw⟩ := (s.waited_engWait p e i).1 (engWait_of_goes hgoes)
  have hexec : runEng p e opc i [] id s = .next ((s.engWait p e i).1.popEng p e i) :=
    (runEng_of_goes [] id hform hgoes).trans (congrArg Host.Outcome.next (State.engSignal_of_none _ p hsig))
  refine ⟨_, hexec, StreamMoves.popEng (by rw [hw]), ?_⟩
  obtain ⟨q, hq⟩ := (s.engWait p e i).1.popEng_eq p e i
  rw [hq, hw]
  exact OnlyRegs.refl _ _

end Course

/-! ### The step beacon (R109, R302) -/

/-- Registers that a beacon may write besides those of a record. -/
def beaconRegs : List Reg := [.CLE_REP_STAT, .CLE_CAUSE]

/-- What a beacon leaves as it was: streams, stores, stacks, and every register but its own. -/
structure Beaconed (s t : State) : Prop where
  engQ : t.engQ = s.engQ
  store : t.store = s.store
  mem : t.mem = s.mem
  regs : SameRegs (beaconRegs ++ recRegs) s t

section Beacon
variable {s u v : State}

theorem Beaconed.refl (s : State) : Beaconed s s := ⟨rfl, rfl, rfl, fun _ _ _ => rfl⟩

theorem Beaconed.ite {c : Prop} [Decidable c] (hu : Beaconed s u) (hv : Beaconed s v) : Beaconed s (if c then u else v) := by
  split <;> assumption

variable (h : Beaconed s u)
include h

/-- A change of other fields. -/
theorem Beaconed.other (he : v.engQ = u.engQ) (hs : v.store = u.store) (hm : v.mem = u.mem) (hr : v.regs = u.regs) : Beaconed s v :=
  have hreg (r : Reg) (j : Nat) : v.reg r j = u.reg r j := by rw [State.reg, State.reg, hr]
  ⟨he.trans h.engQ, hs.trans h.store, hm.trans h.mem, fun r j hj => (hreg r j).trans (h.regs r j hj)⟩

theorem Beaconed.trans (h' : Beaconed u v) : Beaconed s v :=
  ⟨h'.engQ.trans h.engQ, h'.store.trans h.store, h'.mem.trans h.mem, fun r j hj => (h'.regs r j hj).trans (h.regs r j hj)⟩

/-- Writes of a beacon's registers, and records. -/
theorem Beaconed.logs (hl : OnlyLogs beaconRegs u v) : Beaconed s v :=
  ⟨(congrArg State.engQ hl.2 :).trans h.engQ, (congrArg State.store hl.2 :).trans h.store, (congrArg State.mem hl.2 :).trans h.mem,
    fun r j hj => (hl.1 r j hj).trans (h.regs r j hj)⟩

theorem Beaconed.modPart (n : Nat) (f : Part → Part) : Beaconed s (u.modPart n f) := h.other rfl rfl rfl rfl

theorem Beaconed.modSlot (k : Nat) (f : Slot → Slot) : Beaconed s (u.modSlot k f) := h.other rfl rfl rfl rfl

theorem Beaconed.record (a b c e g : Nat) (d : List Word) (m : Nat) : Beaconed s (u.record a b c e g d m) :=
  h.logs ((OnlyLogs.refl _ u).record a b c e g d m)

theorem Beaconed.wr {f : Fld} (i w : Nat) (hf : f.reg ∈ beaconRegs) : Beaconed s (u.wr f i w) :=
  h.logs ((OnlyLogs.refl _ u).wr f i w hf)

theorem Beaconed.relaxAt (n : Nat) : Beaconed s (u.relaxAt n) := by
  have hend : Beaconed s (u.relaxEnd n) := .ite ((h.modPart _ _).record _ _ _ _ _ _ _) h
  exact .ite ((h.modPart _ _).record _ _ _ _ _ _ _) (.ite hend h)

theorem Beaconed.setLock (b : Bool) : Beaconed s (u.setLock b) := by
  have hlock := h.wr (f := F.CLE_REP_STAT_LOCK) 0 (if b then 1 else 0) (by decide)
  exact .ite h (hlock.logs ((OnlyLogs.refl _ _).raise _ _ _ _ _ (by decide)))

theorem Beaconed.repSmooth (k : Nat) : Beaconed s (u.repSmooth k) := .ite (h.modSlot _ _) h

theorem Beaconed.roundNat (w : Nat) (x : Rat) : Beaconed s (u.roundNat w x).2 := by
  unfold State.roundNat State.roundOff
  simp only
  split
  · exact h
  · exact h.other rfl rfl rfl rfl

theorem Beaconed.cleBeacon (t aux : Nat) : Beaconed s (u.cleBeacon t aux) := by
  unfold State.cleBeacon
  extract_lets l iv cle s1 mean cle2 a s2
  have h1 : Beaconed s s1 := h.other rfl rfl rfl rfl
  have h2 : Beaconed s s2 := by
    refine .ite (Beaconed.setLock (Beaconed.wr (Beaconed.roundNat ?_ _ _) _ _ (by decide)) _) h1
    exact h1.other rfl rfl rfl rfl
  exact List.foldlRecOn _ _ h2 fun v hv k _ => hv.repSmooth k

end Beacon

/-- The work of a BEACON in stream `e` of cluster `p`. -/
def State.beaconWork (s : State) (p e : Nat) (i : EngInstr) : State :=
  match s.partOf p with
  | some n =>
    if e = 0 && (s.slotPhys n 0 == some p) then
      let s1 := (s.modPart n fun q => { q with beacon := some (s.timeBase.toNat, i.aux.toNat) }).relaxAt n
      if (s1.part n).beaconOn && s1.flag F.CLE_REP_SRC_EN && s1.rd F.CLE_REP_SRC_PART = n then
        s1.cleBeacon s.timeBase.toNat i.aux.toNat
      else s1
    else s
  | none => s

theorem Beaconed.beaconWork (s : State) (p e : Nat) (i : EngInstr) : Beaconed s (s.beaconWork p e i) := by
  unfold State.beaconWork
  split
  · next n _ =>
    have hrelax := ((Beaconed.refl s).modPart n fun q => { q with beacon := some (s.timeBase.toNat, i.aux.toNat) }).relaxAt n
    exact .ite (.ite (hrelax.cleBeacon _ _) hrelax) (Beaconed.refl s)
  · exact .refl s

/-- In another stream than 0 a beacon is a NOP. -/
theorem State.beaconWork_of_ne_zero (s : State) (p : Nat) {e : Nat} (i : EngInstr) (h : e ≠ 0) : s.beaconWork p e i = s := by
  unfold State.beaconWork
  split
  · exact if_neg (by simp [h])
  · rfl

theorem execBeacon_effect {p : Fin 68} {e : Fin 16} {i : EngInstr} {s : State} (hform : engForm 0x22 i = true)
    (hgoes : s.goes p e i = true) (hsig : i.sigEn = false) :
    ∃ t, execBeacon p e i s = .next t ∧ StreamMoves p e i s t ∧ t.store = s.store ∧ t.mem = s.mem ∧
      SameRegs ([.CLE_REP_STAT, .CLE_CAUSE] ++ recRegs) s t ∧ (e.val ≠ 0 → t.regs = s.regs ∧ t.parts = s.parts ∧ t.beats = s.beats) := by
  obtain ⟨tok, granted, hw⟩ := (s.waited_engWait p e i).1 (engWait_of_goes hgoes)
  have hstart : Beaconed s (s.engWait p e i).1 := by rw [hw]; exact (Beaconed.refl s).other rfl rfl rfl rfl
  have hexec : execBeacon p e i s = .next (((s.engWait p e i).1.beaconWork p e i).popEng p e i) :=
    (runEng_of_goes [] (fun u => u.beaconWork p e i) hform hgoes).trans (congrArg Host.Outcome.next (State.engSignal_of_none _ p hsig))
  obtain ⟨hengQ, hstore, hmem, hregs⟩ := hstart.trans (Beaconed.beaconWork _ p e i)
  refine ⟨_, hexec, StreamMoves.popEng hengQ, ?_⟩
  obtain ⟨q, hq⟩ := ((s.engWait p e i).1.beaconWork p e i).popEng_eq p e i
  rw [hq]
  refine ⟨hstore, hmem, hregs, fun he => ?_⟩
  rw [State.beaconWork_of_ne_zero _ _ _ he, hw]
  exact ⟨rfl, rfl, rfl⟩

/-! ### The statement -/

/-- A SYNC that signals adds its amount to its token. -/
theorem execSync_signals {p : Fin 68} {e : Fin 16} {i : EngInstr} {s : State} {k : Nat} (hform : engForm 0x20 i = true)
    (hgoes : s.goes p e i = true) (hwait : i.waitEn = false) (hsig : i.sigEn = true) (hk : s.tokKey p i.sigG i.sigTok.toNat = some k) :
    ∃ t, execSync p e i s = .next t ∧ t.tokCount k = min (s.tokCount k + i.sigN.toNat) 65535 := by
  refine ⟨_, runEng_of_goes [] id hform hgoes, ?_⟩
  have hw : (s.engWait p e i).1 = s := by rw [State.engWait, if_neg (by simp [hwait])]
  change (((s.engWait p e i).1.popEng p e i).engSignal p i).tokCount k = _
  obtain ⟨q, hq⟩ := s.popEng_eq p e i
  have hk' : State.tokKey { s with engQ := q } p i.sigG i.sigTok.toNat = some k := hk
  rw [hw, hq, State.engSignal, if_pos hsig, hk']
  exact State.tokCount_tokAdd _ _ _

/-- Settles O12: the shared course of an engine instruction is a wait, its work, its place in the stream and its SIGNAL; the work
of NOP, SYNC and END is none, and that of BEACON keeps to the beacon's registers. -/
theorem streamControlInstructions : Obligations.StreamControlInstructions := by
  unfold Obligations.StreamControlInstructions
  refine ⟨?moves, ?signals, ?stalls, ?refused⟩
  case moves =>
    exact fun p e i s hgoes hsig => ⟨fun hform => runEng_moves hform hgoes hsig, fun hform => runEng_moves hform hgoes hsig,
      fun hform => runEng_moves hform hgoes hsig, fun hform => execBeacon_effect hform hgoes hsig⟩
  case signals => exact fun p e i s k hform hgoes hwait hsig hk => execSync_signals hform hgoes hwait hsig hk
  case stalls =>
    intro p e i s hreplay hwait hform
    obtain ⟨waiters, hw⟩ := (s.waited_engWait p e i).2 hwait
    exact ⟨_, runEng_of_stalled [] id hform hreplay hwait, by rw [hw]⟩
  case refused => exact fun p e i s hform => runEng_refused [] id hform

end Sys2Proof.Machine
end

section
/-! PROOFS.  What ends of jobs, loans and scrubs, and looks at the votes, leave as it was: the marks of faults, memories, and the set
of spares (R90, R96, R155, R263, R411). -/

namespace Sys2Proof.Machine

/-! ### The marks of faults -/

/-- Fields that tell of faults of engines, clusters and stacks. -/
def faultFlds : List Fld :=
  [F.CLU_ENG_MAP_FAILED, F.CLU_ENG_MAP_NFAIL, F.CLU_CAUSE_ENGFAULT, F.CLU_CAUSE_CLFAULT, F.MEM_STATE_STATE, F.MEM_CAUSE_FAIL]

/-- A write of `f` leaves the state of every cluster and the marks of faults. -/
abbrev ApartFromFaults (f : Fld) : Prop :=
  ∀ g ∈ F.CLU_STATE_STATE :: faultFlds, g.reg ≠ f.reg ∨ (f.lo ≤ f.hi ∧ (g.hi < f.lo ∨ f.hi < g.lo))

/-- The stacks, the marks of faults and the due map are as they were, and no cluster has become a spare. -/
structure FaultKept (s t : State) : Prop where
  mem : t.mem = s.mem
  mapDue : t.mapDue = s.mapDue
  fault : ∀ f ∈ faultFlds, ∀ i, t.rd f i = s.rd f i
  spare : ∀ p, t.rd F.CLU_STATE_STATE p = 2 → s.rd F.CLU_STATE_STATE p = 2

/-- Beside that the stores are as they were. -/
structure Steady (s t : State) : Prop extends FaultKept s t where
  store : t.store = s.store

section Kept
variable {s t u v : State}

theorem FaultKept.refl (s : State) : FaultKept s s := ⟨rfl, rfl, fun _ _ _ => rfl, fun _ h => h⟩

theorem Steady.refl (s : State) : Steady s s := ⟨.refl s, rfl⟩

theorem FaultKept.trans (h : FaultKept s u) (h' : FaultKept u t) : FaultKept s t :=
  ⟨h'.mem.trans h.mem, h'.mapDue.trans h.mapDue, fun f hf i => (h'.fault f hf i).trans (h.fault f hf i),
    fun p hp => h.spare p (h'.spare p hp)⟩

/-- A change of other fields. -/
theorem FaultKept.other (h : FaultKept s u) (hm : v.mem = u.mem) (hd : v.mapDue = u.mapDue) (hr : v.regs = u.regs) : FaultKept s v :=
  have hrd (f : Fld) (i : Nat) : v.rd f i = u.rd f i := by rw [State.rd, State.rd, State.reg, State.reg, hr]
  h.trans ⟨hm, hd, fun f _ i => hrd f i, fun p hp => (hrd _ p).symm.trans hp⟩

theorem FaultKept.flag (h : FaultKept s t) {f : Fld} (hf : f ∈ faultFlds) (i : Nat) : t.flag f i = s.flag f i := by
  rw [State.flag, State.flag, h.fault f hf i]

theorem Steady.ite {c : Prop} [Decidable c] (hu : Steady s u) (hv : Steady s v) : Steady s (if c then u else v) := by
  split <;> assumption

variable (h : Steady s u)
include h

theorem Steady.trans (h' : Steady u t) : Steady s t := ⟨h.toFaultKept.trans h'.toFaultKept, h'.store.trans h.store⟩

theorem Steady.foldl {α : Type} {f : State → α → State} (l : List α) (hf : ∀ v x, Steady s v → Steady s (f v x)) :
    Steady s (l.foldl f u) :=
  List.foldlRecOn l f h fun v hv x _ => hf v x hv

/-! ### Operations of the state -/

theorem Steady.other (hm : v.mem = u.mem) (hs : v.store = u.store) (hd : v.mapDue = u.mapDue) (hr : v.regs = u.regs) : Steady s v :=
  ⟨h.toFaultKept.other hm hd hr, hs.trans h.store⟩

/-- A change of registers that leaves the clusters' states and the marks of faults. -/
theorem Steady.regs (hm : v.mem = u.mem) (hs : v.store = u.store) (hd : v.mapDue = u.mapDue)
    (hr : ∀ g ∈ F.CLU_STATE_STATE :: faultFlds, ∀ i, v.rd g i = u.rd g i) : Steady s v :=
  h.trans ⟨⟨hm, hd, fun f hf i => hr f (List.mem_cons_of_mem _ hf) i, fun p hp => (hr _ List.mem_cons_self p).symm.trans hp⟩, hs⟩

theorem Steady.wr {f : Fld} (i w : Nat) (hf : ApartFromFaults f) : Steady s (u.wr f i w) :=
  h.regs rfl rfl rfl fun g hg _ => State.rd_wr_ne _ _ _ _ _ _ (hf g hg)

theorem Steady.setReg {r : Reg} (i : Nat) (w : Word) (hr : ∀ g ∈ F.CLU_STATE_STATE :: faultFlds, g.reg ≠ r) :
    Steady s (u.setReg r i w) :=
  h.regs rfl rfl rfl fun g hg _ => State.rd_congr (State.reg_setReg_ne _ _ _ _ _ _ (hr g hg))

theorem Steady.record (a b c e g : Nat) (d : List Word) (m : Nat) : Steady s (u.record a b c e g d m) := by
  refine h.regs (by rw [State.record_eq]) (by rw [State.record_eq]) (by rw [State.record_eq]) fun f hf i => ?_
  exact State.rd_congr (State.reg_record _ _ _ _ _ _ _ _ _ _ ((by decide : ∀ f ∈ F.CLU_STATE_STATE :: faultFlds, f.reg ∉ recRegs) f hf))

theorem Steady.raise {f : Fld} (i sev : Nat) (d : List Word) (m : Nat) (hf : ApartFromFaults f) : Steady s (u.raise f i sev d m) := by
  refine h.regs (by rw [State.raise_eq]) (by rw [State.raise_eq]) (by rw [State.raise_eq]) fun g hg j => ?_
  rw [State.rd_raise _ _ _ _ _ _ _ _ ((by decide : ∀ f ∈ F.CLU_STATE_STATE :: faultFlds, f.reg ∉ recRegs) g hg)]
  exact State.rd_wr_ne _ _ _ _ _ _ (hf g hg)

theorem Steady.recordOpen (b i sev : Nat) (d : List Word) : Steady s (u.recordOpen b i sev d) := by
  have hfree : Steady s (u.freeNat 256).2 := h.other rfl rfl rfl rfl
  exact hfree.record _ _ _ _ _ _ _

theorem Steady.modRun (n : Nat) (f : Cmd → Cmd) : Steady s (u.modRun n f) := h.other rfl rfl rfl rfl

theorem Steady.modPart (n : Nat) (f : Part → Part) : Steady s (u.modPart n f) := h.other rfl rfl rfl rfl

theorem Steady.modLink (j : Nat) (f : Link → Link) : Steady s (u.modLink j f) := h.other rfl rfl rfl rfl

theorem Steady.modColl (c : Coll) (f : Coll → Coll) : Steady s (u.modColl c f) := h.other rfl rfl rfl rfl

theorem Steady.setTx (k : Nat) (f : TxFlow) : Steady s (u.setTx k f) := h.other rfl rfl rfl rfl

theorem Steady.withPs (x : Ps) : Steady s { u with ps := x } := h.other rfl rfl rfl rfl

/-! ### Tokens, descriptors and packets -/

theorem Steady.tokStopped (q : Nat) : Steady s (u.tokStopped q) := by
  unfold State.tokStopped
  split
  · exact h
  · exact h.other rfl rfl rfl rfl

theorem Steady.tokAdd (k n : Nat) : Steady s (u.tokAdd k n).1 := by
  have hadd : Steady s (u.tokAdded k n) := h.other rfl rfl rfl rfl
  rcases Nat.lt_or_ge 65535 (u.tokCount k + n) with hover | hfits
  · rw [State.tokAdd_of_overflow hover]
    cases u.tokHolder k with
    | none => exact hadd
    | some q => exact (hadd.raise _ _ _ _ (by decide)).tokStopped q
  · rw [State.tokAdd_of_fits hfits]
    exact hadd

theorem Steady.bobSignal (p : Nat) (d : BobDesc) : Steady s (u.bobSignal p d) := by
  unfold State.bobSignal
  split
  · split
    · exact h.tokAdd _ _
    · exact h
  · exact h

theorem Steady.endDesc (d : DescRun) : Steady s (u.endDesc d) := by
  have herase : Steady s { u with fab := { u.fab with descs := u.fab.descs.erase d } } := h.other rfl rfl rfl rfl
  exact .ite (herase.other rfl rfl rfl rfl) (Steady.bobSignal (.ite herase (herase.modRun _ _)) _ _)

theorem Steady.failDesc (desc : Option Nat) (status origin : Nat) : Steady s (u.failDesc desc status origin) := by
  cases desc with
  | none => exact h
  | some id => exact h.other rfl rfl rfl rfl

theorem Steady.settle (desc : Option Nat) (n : Nat) : Steady s (u.settle desc n) := by
  cases desc with
  | none => exact h
  | some id => exact h.other rfl rfl rfl rfl

theorem Steady.unsettle (desc : Option Nat) : Steady s (u.unsettle desc) := by
  cases desc with
  | none => exact h
  | some id => exact h.other rfl rfl rfl rfl

theorem Steady.enqueue (j : Nat) (p : Packet) (e : Bool) : Steady s (u.enqueue j p e) :=
  .ite h (.ite (u := { u with fab := { u.fab with inbox := u.fab.inbox ++ [(j, p)] } }) (h.other rfl rfl rfl rfl) (h.modLink _ _))

theorem Steady.sendNow (p : Packet) (desc : Option Nat) : Steady s (u.sendNow p desc) := by
  unfold State.sendNow
  simp only
  split
  · exact ((h.raise _ _ _ _ (by decide)).failDesc _ _ _).settle _ _
  · exact (h.setTx _ _).enqueue _ _ _

theorem Steady.inject (p : Packet) (desc : Option Nat) : Steady s (u.inject p desc) := by
  have hpeer : Steady s (if p.cls = 3 then u else u.addPeer p.srcPart.toNat p.dstMod.toNat) := .ite h (h.other rfl rfl rfl rfl)
  have hopen := hpeer.unsettle desc
  exact .ite (h.failDesc _ _ _) (.ite (hopen.sendNow _ _) (hopen.setTx _ _))

theorem Steady.sendLend (dst n kind arg : Nat) : Steady s (u.sendLend dst n kind arg) := h.inject _ _

theorem Steady.sendCtl (c : Coll) (dst kind count : Nat) : Steady s (u.sendCtl c dst kind count) := h.inject _ _

/-! ### Collectives (R206) -/

theorem Steady.setBusy (n id w : Nat) : Steady s (u.setBusy n id w) := .ite (h.setReg _ _ (by decide)) (h.setReg _ _ (by decide))

theorem Steady.collOver (c : Coll) (ok : Bool) : Steady s (u.collOver c ok) := by
  unfold State.collOver
  extract_lets s1 s2 s3
  have h1 : Steady s s1 := (h.modColl _ _).setBusy _ _ _
  have h2 : Steady s s2 := .ite h1 (h1.raise _ _ _ _ (by decide))
  have h3 : Steady s s3 := .ite (h2.modRun _ _) h2
  split
  · exact h3.endDesc _
  · exact h3

theorem Steady.collDecide (c : Coll) : Steady s (u.collDecide c) := by
  have htold : Steady s ((u.others c).foldl (fun s r => if c.sentCommit then s.sendCtl c r 2 c.mark else s.sendCtl c r 3 0) u) :=
    h.foldl _ fun v r hv => .ite (hv.sendCtl _ _ _ _) (hv.sendCtl _ _ _ _)
  exact .ite (htold.collOver _ _) htold

theorem Steady.collSettle (c : Coll) : Steady s (u.collSettle c) :=
  .ite (h.collDecide c) (h.foldl _ fun _ _ hv => hv.sendCtl _ _ _ _)

theorem Steady.collAbort (c : Coll) : Steady s (u.collAbort c) := .ite (h.collSettle c) (h.sendCtl _ _ _ _)

/-! ### The end of a job (R96) -/

theorem Steady.endColls (n : Nat) : Steady s (u.endColls n) :=
  h.foldl _ fun _ _ hv => .ite ((hv.collAbort _).collOver _ _) (hv.collAbort _)

theorem Steady.endLoans (n : Nat) : Steady s (u.endLoans n) :=
  Steady.setReg (Steady.modPart (h.foldl _ fun _ _ hv => hv.sendLend _ _ _ _) _ _) _ _ (by decide)

theorem Steady.relaxEnd (n : Nat) : Steady s (u.relaxEnd n) := .ite ((h.modPart _ _).record _ _ _ _ _ _ _) h

theorem Steady.loseRep (n : Nat) : Steady s (u.loseRep n) := by
  have hbeats : Steady s { u with beats := [] } := h.other rfl rfl rfl rfl
  exact .ite (.ite ((hbeats.wr _ _ (by decide)).raise _ _ _ _ (by decide)) hbeats) h

theorem Steady.endRunning (n status origin : Nat) : Steady s (u.endRunning n status origin) := h.other rfl rfl rfl rfl

theorem Steady.jobEnd (n status origin : Nat) : Steady s (u.jobEnd n status origin) := by
  have habandon : Steady s (((u.endRunning n status origin).endColls n).abandon n) :=
    ((h.endRunning n status origin).endColls n).other rfl rfl rfl rfl
  exact .ite ((((habandon.endLoans n).relaxEnd n).loseRep n).wr _ _ (by decide)) h

theorem Steady.returnGrants (a : LendAsk) : Steady s (u.returnGrants a) := by
  have hforget : Steady s { u with asks := u.asks.erase a } := h.other rfl rfl rfl rfl
  refine hforget.foldl _ fun v x hv => ?_
  split
  · exact hv.sendLend _ _ _ _
  · exact hv

/-! ### Loans and scrubs (R146, R155, R263) -/

theorem Steady.zeroFill (mask base frames : Nat) (loan : Bool) (owner : Nat) : Steady s (u.zeroFill mask base frames loan owner) := by
  refine h.foldl _ fun v k hv => Steady.wr ?_ _ _ (by decide)
  exact hv.other rfl rfl rfl rfl

theorem Steady.endLoanOut (l : LoanOut) : Steady s (u.endLoanOut l) := by
  have hfreed : Steady s { u with loansOut := u.loansOut.erase l } := h.other rfl rfl rfl rfl
  exact .ite h (.ite (hfreed.wr _ _ (by decide)) (h.zeroFill _ _ _ _ _))

theorem Steady.sweepShow : Steady s u.sweepShow := h.foldl _ fun _ _ hv => hv.wr _ _ (by decide)

/-- A cluster of a partition that is scrubbed is free, and one of another state keeps it. -/
theorem Steady.freed (p : Nat) : Steady s (u.wr F.CLU_STATE_STATE p (if u.rd F.CLU_STATE_STATE p = 5 then 4 else u.rd F.CLU_STATE_STATE p)) := by
  refine h.trans ⟨⟨rfl, rfl, fun f hf i => ?_, fun q hq => ?_⟩, rfl⟩
  · exact State.rd_wr_ne _ _ _ _ _ _
      ((by decide : ∀ f ∈ faultFlds, f.reg ≠ F.CLU_STATE_STATE.reg ∨ (F.CLU_STATE_STATE.lo ≤ F.CLU_STATE_STATE.hi ∧
        (f.hi < F.CLU_STATE_STATE.lo ∨ F.CLU_STATE_STATE.hi < f.lo))) f hf)
  · by_cases e : q = p
    · subst e
      rw [State.rd_wr_same _ _ _ _ (by decide)] at hq
      split at hq
      · exact absurd hq (by decide)
      · exact (Nat.mod_eq_of_lt (fieldOf_lt _ F.CLU_STATE_STATE)).symm.trans hq
    · rwa [State.rd_wr_idx _ _ _ _ _ _ e] at hq

theorem Steady.clearSeals (n : Nat) : Steady s (u.clearSeals n) :=
  h.foldl _ fun _ _ hv => (hv.setReg _ _ (by decide)).setReg _ _ (by decide)

theorem Steady.clearWins (n : Nat) : Steady s (u.clearWins n) := h.other rfl rfl rfl rfl

theorem Steady.clearPeers (n : Nat) : Steady s (u.clearPeers n) := h.other rfl rfl rfl rfl

theorem Steady.scrubDone (n : Nat) : Steady s (u.scrubDone n) := by
  unfold State.scrubDone
  extract_lets failed s0 s1 s2 s3 fab s4 time s5 s6 s7
  have h0 : Steady s s0 := h.other rfl rfl rfl rfl
  have h1 : Steady s s1 := ((h0.clearSeals n).clearWins n).clearPeers n
  have h2 : Steady s s2 := (h1.setReg _ _ (by decide)).setReg _ _ (by decide)
  have h3 : Steady s s3 := h2.foldl _ fun _ p hv =>
    (((hv.freed p).wr _ _ (by decide)).wr _ _ (by decide)).setReg _ _ (by decide)
  have h4 : Steady s s4 := by
    refine List.foldlRecOn _ _ (h3.other rfl rfl rfl rfl) fun v hv r hr => hv.setReg _ _ fun g hg => ?_
    rintro rfl
    exact absurd hr ((by decide : ∀ g ∈ F.CLU_STATE_STATE :: faultFlds,
      g.reg ∉ [Reg.MEM_PART_SET, .MEM_PART_BASE, .MEM_PART_FRAMES, .MEM_PART_LEND, .MEM_ROT_CTL, .MEM_ROT_OLDCNT]) g hg)
  have h5 : Steady s s5 := (h4.modPart _ _).setReg _ _ (by decide)
  have h6 : Steady s s6 := ((h5.wr _ _ (by decide)).wr _ _ (by decide)).wr _ _ (by decide)
  have h7 : Steady s s7 := .ite (h6.recordOpen _ _ _ _) h6
  exact h7.sweepShow.raise _ _ _ _ (by decide)

/-! ### Links (R178) -/

theorem Steady.setLanes (p : Nat) (l : List Nat) (st : Nat) : Steady s (u.setLanes p l st) :=
  h.foldl l fun _ _ hv => hv.wr _ _ (by decide)

theorem Steady.train (j : Nat) : Steady s (u.train j) := by
  have hset (use dis : List Nat) : Steady s ((((u.setLanes (j / 8) use 1).setLanes (j / 8) dis 6).wr
      F.FAB_LINK_STAT_STATE j lkTraining).wr F.FAB_LINK_PEER_VALID j 0) :=
    (((h.setLanes _ _ _).setLanes _ _ _).wr _ _ (by decide)).wr _ _ (by decide)
  unfold State.train
  exact (hset _ _).modLink _ _

theorem Steady.ctrlNow (j : Nat) (m : CtrlMsg) : Steady s (u.ctrlNow j m) := .ite (h.modLink _ _) (h.other rfl rfl rfl rfl)

theorem Steady.widenPort (p : Nat) : Steady s (u.widenPort p) := (h.setLanes _ _ _).foldl _ fun _ _ hv => hv.train _

theorem Steady.widenAll : Steady s u.widenAll :=
  h.foldl _ fun _ _ hv => .ite ((hv.ctrlNow _ _).widenPort _) (hv.foldl _ fun _ _ hw => hw.train _)

/-! ### Power states and votes (R411 to R418) -/

theorem Steady.requestFlush : Steady s u.requestFlush := by
  have hevr : Steady s { u with evr := { u.evr with flushDue := true } } := h.other rfl rfl rfl rfl
  exact hevr.wr _ _ (by decide)

theorem Steady.dropPend : Steady s u.dropPend := .ite ((h.wr _ _ (by decide)).raise _ _ _ _ (by decide)) h

theorem Steady.putPend (t : Nat) : Steady s (u.putPend t) := .ite h ((h.dropPend.wr _ _ (by decide)).wr _ _ (by decide))

theorem Steady.psRunning (t : Nat) : Steady s (u.psRunning t) := by
  have hset : Steady s ({ u with ps := { u.ps with ran := t, abort := 0, wake := false } }.psSet t) :=
    ((h.withPs _).wr _ _ (by decide)).wr _ _ (by decide)
  have hawake := (hset.wr (f := F.PWR_PS_STAT_STACKS_AWAKE) 0 0 (by decide)).wr (f := F.PWR_PS_STAT_CORE_AWAKE) 0 0 (by decide)
  exact .ite (hawake.foldl _ fun _ _ hv => hv.wr _ _ (by decide)) hawake

theorem Steady.enterStandby : Steady s u.enterStandby := (((h.withPs _).wr _ _ (by decide)).wr _ _ (by decide)).wr _ _ (by decide)

theorem Steady.enterFreewheel : Steady s u.enterFreewheel :=
  ((((((h.withPs _).wr _ _ (by decide)).wr _ _ (by decide)).wr _ _ (by decide)).wr _ _ (by decide))).requestFlush

theorem Steady.wakeFreewheel : Steady s u.wakeFreewheel := ((h.withPs _).wr _ _ (by decide)).wr _ _ (by decide)

theorem Steady.wakeStandby (t : Nat) : Steady s (u.wakeStandby t) := by
  have hwide : Steady s ((({ u with ps := { u.ps with ran := t, abort := 0 } }.wr F.PWR_PS_STAT_STATE 0 psWaking).wr
      F.PWR_PS_STAT_TGT 0 t).widenAll) := Steady.widenAll (((h.withPs _).wr _ _ (by decide)).wr _ _ (by decide))
  exact .ite ((hwide.psRunning t).raise _ _ _ _ (by decide)) hwide

theorem Steady.wakeEvent {f : Fld} (hf : ApartFromFaults f) : Steady s (u.wakeEvent f) :=
  .ite (h.wr _ _ hf).wakeFreewheel (.ite (.ite (h.withPs _) ((h.withPs _).wr _ _ hf)) h)

theorem Steady.requestNow (t : Nat) : Steady s (u.requestNow t) := by
  have hdrop := h.dropPend
  unfold State.requestNow
  refine .ite hdrop (.ite (.ite (hdrop.psRunning t) (.ite (hdrop.wakeStandby t) ?_)) ?_)
  · exact ((h.putPend t).wr _ _ (by decide)).wakeFreewheel
  · exact .ite hdrop.wakeFreewheel (.ite (h.putPend t) (.ite hdrop.enterFreewheel (.ite (h.enterStandby.putPend _) hdrop.enterStandby)))

theorem Steady.requestBusy (t : Nat) : Steady s (u.requestBusy t) := by
  have hput := h.putPend t
  unfold State.requestBusy
  refine .ite (.ite (h.dropPend.withPs _) (.ite (hput.wakeEvent (by decide)) (.ite h hput))) (.ite ?_ (.ite h hput))
  exact (h.dropPend.withPs _).wr _ _ (by decide)

theorem Steady.psRequest (t : Nat) : Steady s (u.psRequest t) := .ite (h.requestNow t) (h.requestBusy t)

theorem Steady.psArrive : Steady s u.psArrive := .ite ((h.wr _ _ (by decide)).requestNow _) h

theorem Steady.voteCheck : Steady s u.voteCheck := by
  have hwake := h.wakeEvent (f := F.PWR_WAKE_SRC_REQ) (by decide)
  unfold State.voteCheck
  exact .ite (.ite (h.psRequest _) (.ite hwake (.ite (.ite hwake (h.withPs _)) h))) h.psArrive

end Kept

end Sys2Proof.Machine
end

section
/-! PROOFS.  Faults of engines, clusters, routers and stacks and the bringing in of a spare (R88 to R92, R139, R472 to R476), and the
statement on them. -/

namespace Sys2Proof.Machine

/-! ### Engine faults (R92, R472, R473) -/

/-- The module with engine `e` of cluster `p` removed, before its work in flight is looked at. -/
def State.engineOut (s : State) (p e : Nat) : State :=
  ((({ s with mapDue := true }).wr F.CLU_ENG_MAP_FAILED p (s.rd F.CLU_ENG_MAP_FAILED p ||| 2 ^ e)).wr
    F.CLU_ENG_MAP_NFAIL p (min 4 (s.rd F.CLU_ENG_MAP_NFAIL p + 1))).raise F.CLU_CAUSE_ENGFAULT p 2 [wd e]

/-- A sound engine of an enabled cluster with fewer than four failed ones is removed, and its work in flight is caught. -/
theorem State.engineFail_of_sound {s : State} {p e : Nat} (l : List InFlight) (hen : s.enabled p = true)
    (hbit : (s.rd F.CLU_ENG_MAP_FAILED p).testBit e = false) (hfew : s.rd F.CLU_ENG_MAP_NFAIL p < 4) :
    s.engineFail p e l = l.foldl (fun s x => s.catchInFlight p x) (s.engineOut p e) :=
  (if_pos (by simp [hen, hbit])).trans (if_neg (Nat.not_le.2 hfew))

theorem State.engineOut_frame (s : State) (p e : Nat) :
    OnlyLogs [.CLU_ENG_MAP, .CLU_CAUSE] { s with mapDue := true } (s.engineOut p e) :=
  (((OnlyLogs.refl _ _).wr _ _ _ (by decide)).wr _ _ _ (by decide)).raise _ _ _ _ _ (by decide)

theorem State.rd_engineOut_failed (s : State) (p : Nat) {e : Nat} (he : e < 16) :
    (s.engineOut p e).rd F.CLU_ENG_MAP_FAILED p = s.rd F.CLU_ENG_MAP_FAILED p ||| 2 ^ e := by
  have hlt : s.rd F.CLU_ENG_MAP_FAILED p ||| 2 ^ e < 2 ^ 16 :=
    Nat.or_lt_two_pow (fieldOf_lt _ F.CLU_ENG_MAP_FAILED) (Nat.pow_lt_pow_right (by decide) he)
  rw [State.engineOut, State.rd_raise _ _ _ _ _ _ _ _ (by decide), State.rd_wr_ne _ _ _ _ _ _ (by decide),
    State.rd_wr_ne _ _ _ _ _ _ (by decide), State.rd_wr_same _ _ _ _ (by decide)]
  exact Nat.mod_eq_of_lt hlt

theorem State.rd_engineOut_nfail (s : State) {p : Nat} (e : Nat) (hfew : s.rd F.CLU_ENG_MAP_NFAIL p < 4) :
    (s.engineOut p e).rd F.CLU_ENG_MAP_NFAIL p = s.rd F.CLU_ENG_MAP_NFAIL p + 1 := by
  rw [State.engineOut, State.rd_raise _ _ _ _ _ _ _ _ (by decide), State.rd_wr_ne _ _ _ _ _ _ (by decide),
    State.rd_wr_same _ _ _ _ (by decide), Nat.min_eq_right (by omega)]
  exact Nat.mod_eq_of_lt (Nat.lt_trans (Nat.succ_lt_succ hfew) (by decide))

theorem State.flag_engineOut (s : State) (p e : Nat) : (s.engineOut p e).flag F.CLU_CAUSE_ENGFAULT p = true :=
  State.flag_raise_same _ _ _ _ _ _ (by decide)

theorem FaultKept.freeBytes {s u : State} (h : FaultKept s u) (n : Nat) : FaultKept s (u.freeBytes n).2 := by
  induction n generalizing u with
  | zero => exact h
  | succ n ih => exact ih (h.other rfl rfl rfl)

theorem FaultKept.spoilLine {s u : State} (h : FaultKept s u) (p : Nat) (i : EngInstr) : FaultKept s (u.spoilLine p i) :=
  (h.freeBytes 64).other rfl rfl rfl

theorem FaultKept.engWait {s u : State} (h : FaultKept s u) (p e : Nat) (i : EngInstr) : FaultKept s (u.engWait p e i).1 := by
  obtain ⟨htaken, hstalled⟩ := u.waited_engWait p e i
  cases hgo : (u.engWait p e i).2 with
  | true =>
    obtain ⟨tok, granted, hw⟩ := htaken hgo
    rw [hw]
    exact h.other rfl rfl rfl
  | false =>
    obtain ⟨waiters, hw⟩ := hstalled hgo
    rw [hw]
    exact h.other rfl rfl rfl

theorem FaultKept.popEng {s u : State} (h : FaultKept s u) (p e : Nat) (i : EngInstr) : FaultKept s (u.popEng p e i) := by
  obtain ⟨q, hq⟩ := u.popEng_eq p e i
  rw [hq]
  exact h.other rfl rfl rfl

theorem FaultKept.ite {s u v : State} {c : Prop} [Decidable c] (hu : FaultKept s u) (hv : FaultKept s v) :
    FaultKept s (if c then u else v) := by
  split <;> assumption

/-- What is caught in flight leaves the marks of the fault. -/
theorem FaultKept.catchInFlight {s u : State} (h : FaultKept s u) (p : Nat) (x : InFlight) : FaultKept s (u.catchInFlight p x) := by
  have hwait := h.engWait p x.stream x.instr
  have hpop := hwait.popEng p x.stream x.instr
  have hspoil : FaultKept s (if x.wrote then ((u.engWait p x.stream x.instr).1.popEng p x.stream x.instr).spoilLine p x.instr
      else (u.engWait p x.stream x.instr).1.popEng p x.stream x.instr) := .ite (hpop.spoilLine p x.instr) hpop
  refine .ite h (.ite hwait (.ite ?_ (hspoil.other rfl rfl rfl)))
  split
  · exact hspoil.trans ((Steady.refl _).jobEnd _ _ _).toFaultKept
  · exact hspoil

theorem execEngineFault_effect {p : Fin 68} {e : Fin 16} (l : List InFlight) {s : State} (hen : s.enabled p.val = true)
    (hbit : (s.rd F.CLU_ENG_MAP_FAILED p).testBit e = false) (hfew : s.rd F.CLU_ENG_MAP_NFAIL p < 4) :
    ∃ t, execEngineFault p e l s = .next t ∧ t.rd F.CLU_ENG_MAP_FAILED p = s.rd F.CLU_ENG_MAP_FAILED p ||| 2 ^ e.val ∧
      t.rd F.CLU_ENG_MAP_NFAIL p = s.rd F.CLU_ENG_MAP_NFAIL p + 1 ∧ t.flag F.CLU_CAUSE_ENGFAULT p = true ∧ t.mapDue = true ∧
      t.mem = s.mem := by
  have hkept : FaultKept (s.engineOut p e) (s.engineFail p e (flights l)) := by
    rw [State.engineFail_of_sound _ hen hbit hfew]
    exact List.foldlRecOn _ _ (FaultKept.refl _) fun v hv x _ => hv.catchInFlight p x
  have hframe := s.engineOut_frame p e
  refine ⟨_, rfl, ?_, ?_, ?_, hkept.mapDue.trans (congrArg State.mapDue hframe.2 :), hkept.mem.trans (congrArg State.mem hframe.2 :)⟩
  · rw [hkept.fault _ (by decide), s.rd_engineOut_failed p e.isLt]
  · rw [hkept.fault _ (by decide), s.rd_engineOut_nfail e hfew]
  · rw [hkept.flag (by decide), s.flag_engineOut]

theorem execEngineFault_idle {p : Fin 68} {e : Fin 16} {s : State} (hen : s.enabled p.val = true)
    (hbit : (s.rd F.CLU_ENG_MAP_FAILED p).testBit e = false) (hfew : s.rd F.CLU_ENG_MAP_NFAIL p < 4) :
    ∃ t, execEngineFault p e [] s = .next t ∧ OnlyLogs [.CLU_ENG_MAP, .CLU_CAUSE] { s with mapDue := true } t :=
  ⟨_, congrArg Host.Outcome.next (State.engineFail_of_sound [] hen hbit hfew), s.engineOut_frame p e⟩

/-- Whatever the replayed instruction comes to, its entry is taken. -/
theorem execEngineReplay_effect {p : Fin 68} {e : Fin 16} (h : List EccHit) {s : State} {r : Replay}
    (hr : s.replayQ.find? (fun r => r.cluster = p.val && r.engine = e.val) = some r) (hen : s.enabled p.val = true) :
    ∃ t, execEngineReplay p e h s = .next t ∧ t.replayQ = s.replayQ.erase r := by
  unfold execEngineReplay
  simp only [hr, hen, Bool.not_true, Bool.false_eq_true, if_false]
  split <;> exact ⟨_, rfl, rfl⟩

/-! ### Cluster faults (R91, R474, R475) -/

/-- Cluster `p` has failed: it is out of service with its number given up, and its store reads zeros. -/
structure ClusterDown (p : Nat) (s t : State) : Prop where
  state : t.rd F.CLU_STATE_STATE p = 6
  logical : t.rd F.CLU_ID_LOGICAL p = 0xFF
  cause : t.flag F.CLU_CAUSE_CLFAULT p = true
  mapDue : t.mapDue = true
  store : ∀ a, t.storeByte p a = 0
  mem : t.mem = s.mem

/-- A spare is one of its candidates. -/
theorem mem_of_chooseSpare {p q : Nat} {l : List Nat} (h : chooseSpare p l = some q) : q ∈ l := by
  obtain ⟨d, -, hd⟩ := List.exists_of_findSome?_eq_some h
  exact List.mem_of_find?_eq_some hd

theorem State.mem_spareList {s : State} {q : Nat} (h : q ∈ s.spareList) : s.rd F.CLU_STATE_STATE q = 2 := by
  simpa using (List.mem_filter.1 h).2

theorem State.not_spare_of_enabled {s : State} {p : Nat} (h : s.enabled p = true) : s.rd F.CLU_STATE_STATE p ≠ 2 := by
  simp only [State.enabled, Bool.or_eq_true, decide_eq_true_eq] at h
  omega

/-- Bringing a spare in leaves the failed cluster as it is. -/
theorem ClusterDown.bringIn {p q : Nat} {s u : State} (h : ClusterDown p s u) (hq : p ≠ q) (l : List BringIn) :
    ClusterDown p s { u.wr F.CLU_STATE_STATE q 1 with bringIns := l } where
  state := (State.rd_wr_idx u _ _ _ _ _ hq).trans h.state
  logical := (State.rd_wr_idx u _ _ _ _ _ hq).trans h.logical
  cause := (State.flag_wr_idx u _ _ _ _ _ hq).trans h.cause
  mapDue := h.mapDue
  store := h.store
  mem := h.mem

/-- The cluster reads FAILED, has no number, and its store is zeroed. -/
def State.takenDown (s : State) (p : Nat) : State :=
  ((({ s with mapDue := true }).setReg .CLU_STATE p 6).wr F.CLU_ID_LOGICAL p 0xFF).storeZero p

theorem State.rd_storeZero (s : State) (p : Nat) (f : Fld) (i : Nat) : (s.storeZero p).rd f i = s.rd f i := rfl

theorem State.rd_takenDown_state (s : State) (p : Nat) : (s.takenDown p).rd F.CLU_STATE_STATE p = 6 := by
  rw [State.takenDown, State.rd_storeZero, State.rd_wr_ne _ _ _ _ _ _ (by decide), State.rd_setReg, if_pos ⟨rfl, rfl⟩]
  decide

theorem State.rd_takenDown_logical (s : State) (p : Nat) : (s.takenDown p).rd F.CLU_ID_LOGICAL p = 0xFF := by
  rw [State.takenDown, State.rd_storeZero, State.rd_wr_same _ _ _ _ (by decide)]
  decide

theorem State.flag_takenDown (s : State) (p : Nat) : (s.takenDown p).flag F.CLU_CAUSE_CLFAULT p = s.flag F.CLU_CAUSE_CLFAULT p := by
  rw [State.flag, State.takenDown, State.rd_storeZero, State.rd_wr_ne _ _ _ _ _ _ (by decide),
    State.rd_congr (State.reg_setReg_ne _ _ _ _ _ _ (by decide))]
  rfl

theorem ClusterDown.takenDown {s u : State} {p : Nat} (hmem : u.mem = s.mem) (hcause : u.flag F.CLU_CAUSE_CLFAULT p = true) :
    ClusterDown p s (u.takenDown p) where
  state := u.rd_takenDown_state p
  logical := u.rd_takenDown_logical p
  cause := (u.flag_takenDown p).trans hcause
  mapDue := by rw [State.takenDown]; rfl
  store a := by rw [State.takenDown]; exact State.storeByte_storeZero _ _ a
  mem := hmem

/-- A failing enabled cluster goes down, whatever ends with it. -/
theorem State.clusterFail_down {s : State} {p : Nat} (hen : s.enabled p = true) : ClusterDown p s (s.clusterFail p) := by
  rw [State.clusterFail, if_pos hen]
  extract_lets n num s1 s2 spare s3
  clear_value n
  have hlogs : OnlyLogs [.CLU_CAUSE] s s1 := (OnlyLogs.refl _ s).raise _ _ _ _ _ (by decide)
  have hjob : Steady s1 s2 := by
    cases n with
    | none => exact .refl s1
    | some k => exact (Steady.refl s1).jobEnd _ _ _
  have hmem : s2.mem = s.mem := hjob.mem.trans (congrArg State.mem hlogs.2 :)
  have hcause : s2.flag F.CLU_CAUSE_CLFAULT p = true :=
    (hjob.flag (by decide) p).trans (State.flag_raise_same _ _ _ _ _ _ (by decide))
  have hdown : ClusterDown p s s3 := .takenDown hmem hcause
  cases hspare : spare with
  | none => exact hdown
  | some q =>
    -- the spare reads SPARE, and the failing cluster did not
    have hq : q ∈ s2.spareList := by
      have hchosen : (if s2.pwr.quiesce || !s2.pwr.vcore then none else chooseSpare p s2.spareList) = some q := hspare
      split at hchosen
      · exact absurd hchosen (by simp)
      · exact mem_of_chooseSpare hchosen
    refine hdown.bringIn (fun e => State.not_spare_of_enabled hen ?_) _
    rw [← State.rd_congr (hlogs.1 .CLU_STATE p (by decide))]
    exact hjob.spare p (State.mem_spareList (e ▸ hq))

theorem execClusterFault_effect {p : Fin 68} {s : State} (hen : s.enabled p.val = true) :
    ∃ t, execClusterFault p s = .next t ∧ t.rd F.CLU_STATE_STATE p = 6 ∧ t.rd F.CLU_ID_LOGICAL p = 0xFF ∧
      t.flag F.CLU_CAUSE_CLFAULT p = true ∧ t.mapDue = true ∧ (∀ a, t.storeByte p a = 0) ∧ t.mem = s.mem := by
  obtain ⟨hstate, hlogical, hcause, hdue, hstore, hmem⟩ := State.clusterFail_down hen
  exact ⟨_, rfl, hstate, hlogical, hcause, hdue, hstore, hmem⟩

/-! ### Spares (R91) -/

theorem execSpareBringInComplete_failed {p : Fin 68} {s : State} {b : BringIn}
    (hb : s.bringIns.find? (fun b => b.spare = p.val) = some b) (hv : s.pwr.vcore = true) :
    ∃ t, execSpareBringInComplete p false s = .next t ∧ t.rd F.CLU_STATE_STATE p = 3 ∧
      OnlyRegs [.CLU_STATE] { s with bringIns := s.bringIns.erase b, mapDue := true } t := by
  refine ⟨State.wr { s with bringIns := s.bringIns.erase b, mapDue := true } F.CLU_STATE_STATE p 3, ?_,
    State.rd_wr_same _ _ _ _ (by decide), (OnlyRegs.refl _ _).wr _ _ _ (by decide)⟩
  simp [execSpareBringInComplete, hb, hv]

/-- The spare has the number and the state of its place, before the partition's mark and the record. -/
def State.placed (s : State) (p : Nat) (b : BringIn) : State :=
  (((State.storeZero { s with bringIns := s.bringIns.erase b, mapDue := true } p).wr F.CLU_ID_LOGICAL p b.logical).wr
    F.CLU_STATE_STATE p (if b.part.isSome then 5 else 4))

/-- A spare of a partition shows it. -/
def State.marked (s : State) (p : Nat) : Option Nat → State
  | some n => (s.wr F.CLU_STATE_PART p n).wr F.CLU_STATE_PVALID p 1
  | none => s

theorem execSpareBringInComplete_of_pass {p : Fin 68} {s : State} {b : BringIn}
    (hb : s.bringIns.find? (fun b => b.spare = p.val) = some b) (hv : s.pwr.vcore = true) :
    execSpareBringInComplete p true s =
      .next (((s.placed p b).marked p b.part).raise F.CLU_CAUSE_SPAREIN p 1 [wd b.logical]) := by
  simp only [execSpareBringInComplete, hb, hv, Bool.not_true, Bool.false_eq_true, if_false, if_true]
  obtain ⟨spare, logical, part⟩ := b
  cases part <;> rfl

theorem execSpareBringInComplete_passed {p : Fin 68} {s : State} {b : BringIn}
    (hb : s.bringIns.find? (fun b => b.spare = p.val) = some b) (hv : s.pwr.vcore = true) (hlog : b.logical < 256) :
    ∃ t, execSpareBringInComplete p true s = .next t ∧ t.rd F.CLU_ID_LOGICAL p = b.logical ∧
      t.rd F.CLU_STATE_STATE p = (if b.part.isSome then 5 else 4) ∧ t.flag F.CLU_CAUSE_SPAREIN p = true ∧
      t.bringIns = s.bringIns.erase b ∧ (∀ a, t.storeByte p a = 0) := by
  have hid : (s.placed p b).rd F.CLU_ID_LOGICAL p = b.logical := by
    rw [State.placed, State.rd_wr_ne _ _ _ _ _ _ (by decide), State.rd_wr_same _ _ _ _ (by decide)]
    exact Nat.mod_eq_of_lt hlog
  have hstate : (s.placed p b).rd F.CLU_STATE_STATE p = if b.part.isSome then 5 else 4 := by
    rw [State.placed, State.rd_wr_same _ _ _ _ (by decide)]
    split <;> rfl
  have hmark : OnlyRegs [.CLU_STATE] (s.placed p b) ((s.placed p b).marked p b.part) ∧
      ((s.placed p b).marked p b.part).rd F.CLU_STATE_STATE p = (s.placed p b).rd F.CLU_STATE_STATE p := by
    cases b.part with
    | none => exact ⟨OnlyRegs.refl _ _, rfl⟩
    | some n =>
      refine ⟨((OnlyRegs.refl _ _).wr _ _ _ (by decide)).wr _ _ _ (by decide), ?_⟩
      rw [State.marked, State.rd_wr_ne _ _ _ _ _ _ (by decide), State.rd_wr_ne _ _ _ _ _ _ (by decide)]
  have hraise : OnlyLogs [.CLU_CAUSE] _ (((s.placed p b).marked p b.part).raise F.CLU_CAUSE_SPAREIN p 1 [wd b.logical]) :=
    (OnlyLogs.refl _ _).raise _ _ _ _ _ (by decide)
  refine ⟨_, execSpareBringInComplete_of_pass hb hv, ?_, ?_, State.flag_raise_same _ _ _ _ _ _ (by decide), ?_, fun a => ?_⟩
  · rw [State.rd_congr (hraise.1 .CLU_ID p (by decide)), State.rd_congr (hmark.1.1 .CLU_ID p (by decide)), hid]
  · rw [State.rd_congr (hraise.1 .CLU_STATE p (by decide)), hmark.2, hstate]
  · exact (congrArg State.bringIns hraise.2 :).trans (congrArg State.bringIns hmark.1.2 :)
  · have hstore := (congrArg State.store hraise.2 :).trans (congrArg State.store hmark.1.2 :)
    exact (congrArg (Assoc.get 0 · (storeKey p a)) hstore).trans (State.storeByte_storeZero _ p a)

/-! ### Routers (R88) -/

/-- A router fault ends every job and stops the fabric, and leaves the stacks. -/
theorem execRouterFault_effect (s : State) :
    ∃ t, execRouterFault s = .next t ∧ t.pwr.routerBad = true ∧ (∀ n < 16, t.pstate n ≠ 2) ∧ t.mem = s.mem := by
  have hjobs : Still { s with pwr := { s.pwr with routerBad := true } } _ := (Still.refl _).jobEndAll 0x30 0
  have hstop : Still (State.jobEndAll { s with pwr := { s.pwr with routerBad := true } } 0x30 0) _ := (Still.refl _).stopFabric
  refine ⟨_, rfl, ?_, fun n hn e => State.pstate_jobEndAll _ hn _ _ (hstop.job n e), hstop.mem.trans hjobs.mem⟩
  rw [hstop.pwr, hjobs.pwr]

/-! ### Stacks (R139) -/

theorem Steady.stackLost {s u : State} (h : Steady s u) (n k : Nat) : Steady s (u.stackLost n k) := by
  have hpart := h.modPart n fun p => { p with rotOff := true }
  unfold State.stackLost
  refine .ite (Steady.wr (Steady.endRunning ?_ _ _ _) _ _ (by decide)) (hpart.jobEnd _ _ _)
  exact hpart.foldl _ fun _ _ hv => hv.returnGrants _

theorem Steady.failOps {s u : State} (h : Steady s u) (k : Nat) (l : List (Nat × Option (List (Option Byte) × Bool))) :
    Steady s (u.failOps k l) :=
  h.foldl _ fun v x hv => .ite (u := v.emit (.stackLine k x.1 (v.memBytes k x.1 64) true)) (hv.other rfl rfl rfl rfl) hv

/-- The stack reads FAILED and the failure is raised, before what it held ends. -/
def State.stackDown (s : State) (k : Nat) : State := (s.wr F.MEM_STATE_STATE k stFailed).raise F.MEM_CAUSE_FAIL k 3 [wd k]

/-- What a failed stack held ends, and the marks of the failure stay. -/
theorem State.stackFail_steady {s : State} {k : Nat} (h : s.rd F.MEM_STATE_STATE k ≠ stFailed) : Steady (s.stackDown k) (s.stackFail k) := by
  rw [State.stackFail, if_neg h]
  extract_lets s1 ops s2 s3 s4 s5
  change Steady s1 _
  have h2 : Steady s1 s2 := by
    refine Steady.failOps (u := ?emptied) ?_ _ _
    exact (Steady.refl s1).other rfl rfl rfl rfl
  have h3 : Steady s1 s3 := h2.foldl _ fun _ _ hv => hv.stackLost _ _
  have h4 : Steady s1 s4 := h3.foldl _ fun _ _ hv => (hv.sendLend _ _ _ _).endLoanOut _
  have h5 : Steady s1 s5 := h4.foldl _ fun _ _ hv => hv.scrubDone _
  exact (h5.wr _ _ (by decide)).sweepShow.voteCheck

theorem execStackFail_effect {k : Fin 8} {s : State} (h : s.rd F.MEM_STATE_STATE k ≠ stFailed) :
    ∃ t, execStackFail k s = .next t ∧ t.rd F.MEM_STATE_STATE k = stFailed ∧ t.flag F.MEM_CAUSE_FAIL k = true ∧ t.store = s.store := by
  have hkept := State.stackFail_steady h
  have hdown : OnlyLogs [.MEM_STATE, .MEM_CAUSE] s (s.stackDown k) :=
    ((OnlyLogs.refl _ s).wr _ _ _ (by decide)).raise _ _ _ _ _ (by decide)
  refine ⟨_, rfl, ?_, ?_, hkept.store.trans (congrArg State.store hdown.2 :)⟩
  · rw [hkept.fault _ (by decide), State.stackDown, State.rd_raise _ _ _ _ _ _ _ _ (by decide),
      State.rd_wr_ne _ _ _ _ _ _ (by decide), State.rd_wr_same _ _ _ _ (by decide)]
    decide
  · rw [hkept.flag (by decide), State.stackDown, State.flag_raise_same _ _ _ _ _ _ (by decide)]

/-- Settles O2: each fault writes its own marks, and what ends with it leaves them: ends of jobs, loans and scrubs and looks at the
votes write no mark of a fault and make no cluster a spare. -/
theorem engineAndClusterFaults : Obligations.EngineAndClusterFaults := by
  unfold Obligations.EngineAndClusterFaults
  refine ⟨?engine, ?idle, ?replay, ?cluster, ?spare, ?router, ?stack⟩
  case engine => exact fun p e l s hen hbit hfew => ⟨execEngineFault_effect l hen hbit hfew, rfl⟩
  case idle => exact fun p e s hen hbit hfew => execEngineFault_idle hen hbit hfew
  case replay => exact fun p e h s r hr hen => execEngineReplay_effect h hr hen
  case cluster => exact fun p s hen => execClusterFault_effect hen
  case spare =>
    exact fun p s b hb hv => ⟨execSpareBringInComplete_failed hb hv, fun hlog => execSpareBringInComplete_passed hb hv hlog⟩
  case router => exact fun s => execRouterFault_effect s
  case stack => exact fun k s h => execStackFail_effect h

end Sys2Proof.Machine
end

section
/-! PROOFS.  The scrub and the patrol of cluster stores (R75, R76, R474, R475), and the statement on them. -/

namespace Sys2Proof.Machine

/-! ### Store errors (R76) -/

/-- Registers that a store error writes, besides those of a record. -/
def eccRegs : List Reg := [.CLU_CAUSE, .CLU_STORE_UE_ADDR, .CLU_STORE_CE_CNT]

/-- The line of an uncorrectable error is poisoned and listed, before it is latched and raised. -/
def State.ueMarked (s : State) (p a : Nat) : State :=
  { s.setLinePoison p a true with ueLines := Assoc.put s.ueLines (lineKey p a) true }

/-- The first uncorrectable error of a cluster is latched. -/
def State.ueLatched (s : State) (p a : Nat) : State :=
  if s.flag F.CLU_STORE_UE_ADDR_VALID p then s
  else (s.wr F.CLU_STORE_UE_ADDR_LINE p (a / 64)).wr F.CLU_STORE_UE_ADDR_VALID p 1

theorem State.storeUE_eq (s : State) (p a : Nat) :
    s.storeUE p a = ((s.ueMarked p a).ueLatched p a).raise F.CLU_CAUSE_STORE_UE p 2 [wd a] := by
  have hflag : (s.setLinePoison p a true).flag F.CLU_STORE_UE_ADDR_VALID p = s.flag F.CLU_STORE_UE_ADDR_VALID p := rfl
  have hmarked : (s.ueMarked p a).flag F.CLU_STORE_UE_ADDR_VALID p = s.flag F.CLU_STORE_UE_ADDR_VALID p := rfl
  rw [State.storeUE, State.ueLatched, hmarked]
  simp only [hflag]
  split <;> rfl

theorem State.ueLatched_frame (s : State) (p a : Nat) : OnlyRegs [.CLU_STORE_UE_ADDR] s (s.ueLatched p a) :=
  .ite (.refl _ s) (((OnlyRegs.refl _ s).wr _ _ _ (by decide)).wr _ _ _ (by decide))

theorem State.flag_ueLatched (s : State) (p a : Nat) : (s.ueLatched p a).flag F.CLU_STORE_UE_ADDR_VALID p = true := by
  by_cases h : s.flag F.CLU_STORE_UE_ADDR_VALID p = true
  · rwa [State.ueLatched, if_pos h]
  · rw [State.ueLatched, if_neg h, State.flag_wr_one _ _ _ (by decide)]

/-- Beyond its mark an uncorrectable error is told of in registers and the recorder alone. -/
theorem State.storeUE_frame (s : State) (p a : Nat) : OnlyLogs eccRegs (s.ueMarked p a) (s.storeUE p a) := by
  have hlatched : OnlyRegs eccRegs _ _ := ((s.ueMarked p a).ueLatched_frame p a).mono (by decide)
  rw [State.storeUE_eq]
  refine OnlyLogs.raise _ _ _ _ _ ⟨fun r i hr => hlatched.1 r i fun h => hr (List.mem_append_left _ h), ?_⟩ (by decide)
  exact (congrArg State.logless hlatched.2 :)

theorem State.storeCE_frame (s : State) (p : Nat) : OnlyLogs eccRegs s (s.storeCE p) :=
  OnlyLogs.raise _ _ _ _ _ ((OnlyLogs.refl _ s).wr _ _ _ (by decide)) (by decide)

theorem State.linePoison_storeUE (s : State) (p a : Nat) : (s.storeUE p a).linePoison p a = true := by
  have hpoison : (s.storeUE p a).storePoison = (s.ueMarked p a).storePoison := (congrArg State.storePoison (s.storeUE_frame p a).2 :)
  rw [State.linePoison, hpoison]
  exact (Assoc.get_set false s.storePoison (lineKey p a) (lineKey p a) true).trans (if_pos rfl)

theorem State.flag_storeUE_cause (s : State) (p a : Nat) : (s.storeUE p a).flag F.CLU_CAUSE_STORE_UE p = true := by
  rw [State.storeUE_eq, State.flag_raise_same _ _ _ _ _ _ (by decide)]

theorem State.flag_storeUE_latch (s : State) (p a : Nat) : (s.storeUE p a).flag F.CLU_STORE_UE_ADDR_VALID p = true := by
  rw [State.storeUE_eq, State.flag_raise _ _ _ _ _ _ _ _ (by decide), State.flag_wr_ne _ _ _ _ _ _ (by decide), State.flag_ueLatched]

theorem State.flag_storeCE (s : State) (p : Nat) : (s.storeCE p).flag F.CLU_CAUSE_STORE_CE p = true :=
  State.flag_raise_same _ _ _ _ _ _ (by decide)

theorem satInc_lt (w v : Nat) : satInc w v < 2 ^ w := by
  have hpos := Nat.two_pow_pos w
  unfold satInc
  split <;> omega

theorem State.rd_storeCE_count (s : State) (p : Nat) :
    (s.storeCE p).rd F.CLU_STORE_CE_CNT_COUNT p = satInc 32 (s.rd F.CLU_STORE_CE_CNT_COUNT p) := by
  rw [State.storeCE, State.rd_raise _ _ _ _ _ _ _ _ (by decide), State.rd_wr_ne _ _ _ _ _ _ (by decide), State.count,
    State.rd_wr_same _ _ _ _ (by decide)]
  exact Nat.mod_eq_of_lt (satInc_lt 32 _)

/-! ### The errors of a read -/

/-- The data of stores and stacks, the patrol's lines and all registers but those of store errors are as they were. -/
structure EccKept (s t : State) : Prop where
  store : t.store = s.store
  mem : t.mem = s.mem
  patrol : t.patrol = s.patrol
  regs : SameRegs (eccRegs ++ recRegs) s t

theorem EccKept.logs {s u t : State} (h : EccKept s u) (ht : OnlyLogs eccRegs u t) : EccKept s t where
  store := (congrArg State.store ht.2 :).trans h.store
  mem := (congrArg State.mem ht.2 :).trans h.mem
  patrol := (congrArg State.patrol ht.2 :).trans h.patrol
  regs r i hr := (ht.1 r i hr).trans (h.regs r i hr)

theorem EccKept.storeUE {s u : State} (h : EccKept s u) (p a : Nat) : EccKept s (u.storeUE p a) := by
  have hmarked : EccKept s (u.ueMarked p a) := ⟨h.store, h.mem, h.patrol, h.regs⟩
  exact hmarked.logs (u.storeUE_frame p a)

theorem State.eccHits_kept (s : State) (p : Nat) (l : List EccHit) : EccKept s (s.eccHits p l) := by
  refine List.foldlRecOn l _ (⟨rfl, rfl, rfl, fun _ _ _ => rfl⟩ : EccKept s s) fun u hu x _ => ?_
  split
  · exact hu.storeUE _ _
  · exact hu.logs (u.storeCE_frame p)

/-! ### Banks that lost too many lines (R474) -/

theorem State.bankCheck_of_sound {s : State} {p : Nat} (h : s.bankLost p = false) : s.bankCheck p = s :=
  if_neg (by simp [h])

theorem State.bankCheck_of_lost {s : State} {p : Nat} (h : s.bankLost p = true) : s.bankCheck p = s.clusterFail p := if_pos h

/-- Fewer than sixteen lines lose no bank. -/
theorem State.bankLost_of_short {s : State} (p : Nat) (h : s.ueLines.length < 16) : s.bankLost p = false := by
  simp only [State.bankLost, List.any_eq_false, decide_eq_true_eq, Nat.not_le]
  exact fun b _ => Nat.lt_of_le_of_lt (List.length_filter_le _ _) h

theorem State.bankLost_congr {s t : State} {p : Nat} (h : t.ueLines = s.ueLines) : t.bankLost p = s.bankLost p := by
  rw [State.bankLost, State.bankLost, h]

theorem State.bankLost_storeUE {s : State} (p a : Nat) (h : s.ueLines = []) : (s.storeUE p a).bankLost p = false := by
  have hlines : (s.storeUE p a).ueLines = Assoc.put s.ueLines (lineKey p a) true := (congrArg State.ueLines (s.storeUE_frame p a).2 :)
  refine State.bankLost_of_short p ?_
  rw [hlines, h]
  exact (by decide : 1 < 16)

/-! ### The patrol (R75, R76) -/

/-- Bank `b` of cluster `p` is on its next line. -/
def patrolStep (p : Nat) (m : List (Nat × Nat)) (b : Nat) : List (Nat × Nat) :=
  Assoc.set 0 m (p * 32 + b) ((Assoc.get 0 m (p * 32 + b) + 1) % 20480)

/-- A step of one bank moves that bank alone. -/
theorem get_patrolStep (p : Nat) (m : List (Nat × Nat)) (b c : Nat) : Assoc.get 0 (patrolStep p m c) (p * 32 + b) =
    if b = c then (Assoc.get 0 m (p * 32 + b) + 1) % 20480 else Assoc.get 0 m (p * 32 + b) := by
  rw [patrolStep, Assoc.get_set]
  by_cases h : b = c
  · rw [if_pos (by omega), if_pos h, h]
  · rw [if_neg (by omega), if_neg h]

/-- Steps of the first `n` banks move each of them once. -/
theorem get_patrolSteps (p : Nat) (m : List (Nat × Nat)) (n b : Nat) :
    Assoc.get 0 ((List.range n).foldl (patrolStep p) m) (p * 32 + b) =
      if b < n then (Assoc.get 0 m (p * 32 + b) + 1) % 20480 else Assoc.get 0 m (p * 32 + b) := by
  induction n with
  | zero => rfl
  | succ n ih =>
    rw [List.range_succ, List.foldl_append, List.foldl_cons, List.foldl_nil, get_patrolStep, ih]
    rcases Nat.lt_trichotomy b n with h | h | h
    · rw [if_neg (by omega), if_pos h, if_pos (by omega)]
    · rw [if_pos h, if_neg (by omega), if_pos (by omega)]
    · rw [if_neg (by omega), if_neg (by omega), if_neg (by omega)]

/-- A module whose patrol is on the lines `m`. -/
def State.onLines (s : State) (m : List (Nat × Nat)) : State := { s with patrol := m }

/-- Which banks are lost does not turn on the patrol. -/
theorem State.bankLost_onLines (s : State) (m : List (Nat × Nat)) (p : Nat) : (s.onLines m).bankLost p = s.bankLost p := rfl

/-- The patrol steps every bank, and at the end of a pass the list of lost lines is begun anew. -/
theorem execStorePatrolRead_eq (p : Fin 68) (h : List EccHit) (s : State) :
    ∃ m l, m = (List.range 32).foldl (patrolStep p) s.patrol ∧
      execStorePatrolRead p h s = .next { ((s.eccHits p h).onLines m).bankCheck p with ueLines := l } := by
  obtain ⟨m, hm⟩ : ∃ m, m = (List.range 32).foldl (patrolStep p) s.patrol := ⟨_, rfl⟩
  have hread : execStorePatrolRead p h s =
      .next (if Assoc.get 0 (s.eccHits p h).patrol (p.val * 32) + 1 = 20480 then
        { ((s.eccHits p h).onLines m).bankCheck p with
          ueLines := (((s.eccHits p h).onLines m).bankCheck p).ueLines.filter fun e => e.1 / 2 ^ 20 ≠ p.val }
        else ((s.eccHits p h).onLines m).bankCheck p) := by
    rw [hm, ← (s.eccHits_kept p h).patrol]
    rfl
  rw [hread]
  split
  · exact ⟨m, _, hm, rfl⟩
  · exact ⟨m, (((s.eccHits p h).onLines m).bankCheck p).ueLines, hm, rfl⟩

/-- Where no bank is lost a patrol read comes to its errors and the next lines. -/
theorem execStorePatrolRead_of_sound {p : Fin 68} {h : List EccHit} {s : State} (hb : (s.eccHits p h).bankLost p = false) :
    ∃ m l, m = (List.range 32).foldl (patrolStep p) s.patrol ∧
      execStorePatrolRead p h s = .next { s.eccHits p h with patrol := m, ueLines := l } := by
  obtain ⟨m, l, hm, hl⟩ := execStorePatrolRead_eq p h s
  rw [State.bankCheck_of_sound ((State.bankLost_onLines _ m p).trans hb)] at hl
  exact ⟨m, l, hm, hl⟩

theorem execStorePatrolRead_effect {p : Fin 68} {h : List EccHit} {s : State} (hb : (s.eccHits p h).bankLost p = false) :
    ∃ t, execStorePatrolRead p h s = .next t ∧
      (∀ b < 32, Assoc.get 0 t.patrol (p.val * 32 + b) = (Assoc.get 0 s.patrol (p.val * 32 + b) + 1) % 20480) ∧
      t.store = s.store ∧ t.mem = s.mem ∧ SameRegs (eccRegs ++ recRegs) s t := by
  obtain ⟨m, l, hm, hl⟩ := execStorePatrolRead_of_sound hb
  obtain ⟨hstore, hmem, -, hregs⟩ := s.eccHits_kept p h
  refine ⟨_, hl, fun b hlt => ?_, hstore, hmem, hregs⟩
  rw [hm, get_patrolSteps, if_pos hlt]

theorem execStoreScrubForced_effect {p : Fin 68} {b : Fin 32} {h : List EccHit} {s : State} (hb : (s.eccHits p h).bankLost p = false) :
    ∃ t, execStoreScrubForced p b h s = .next t ∧
      Assoc.get 0 t.patrol (p.val * 32 + b.val) = (Assoc.get 0 s.patrol (p.val * 32 + b.val) + 1) % 20480 ∧
      t.store = s.store ∧ t.mem = s.mem ∧ SameRegs (eccRegs ++ recRegs) s t := by
  obtain ⟨hstore, hmem, -, hregs⟩ := s.eccHits_kept p h
  have hread : ((s.eccHits p h).onLines (patrolStep p s.patrol b)).bankLost p = false := (State.bankLost_onLines _ _ p).trans hb
  refine ⟨_, congrArg Host.Outcome.next (State.bankCheck_of_sound hread), ?_, hstore, hmem, hregs⟩
  exact (get_patrolStep p s.patrol b b).trans (if_pos rfl)

theorem execStorePatrolRead_uncorrectable {p : Fin 68} (a : BitVec 26) {s : State} (h : s.ueLines = []) :
    ∃ t, execStorePatrolRead p [{ addr := a, uncorrectable := true }] s = .next t ∧ t.linePoison p a.toNat = true ∧
      t.flag F.CLU_CAUSE_STORE_UE p = true ∧ t.flag F.CLU_STORE_UE_ADDR_VALID p = true := by
  obtain ⟨m, l, -, hl⟩ := execStorePatrolRead_of_sound (s := s) (h := [{ addr := a, uncorrectable := true }]) (State.bankLost_storeUE p a.toNat h)
  exact ⟨_, hl, s.linePoison_storeUE p a.toNat, s.flag_storeUE_cause p a.toNat, s.flag_storeUE_latch p a.toNat⟩

theorem execStorePatrolRead_corrected {p : Fin 68} (a : BitVec 26) {s : State} (h : s.bankLost p = false) :
    ∃ t, execStorePatrolRead p [{ addr := a, uncorrectable := false }] s = .next t ∧ t.storePoison = s.storePoison ∧
      t.flag F.CLU_CAUSE_STORE_CE p = true ∧ t.rd F.CLU_STORE_CE_CNT_COUNT p = satInc 32 (s.rd F.CLU_STORE_CE_CNT_COUNT p) := by
  have hframe := s.storeCE_frame p
  have hb : (s.storeCE p).bankLost p = false := (State.bankLost_congr (congrArg State.ueLines hframe.2 :)).trans h
  obtain ⟨m, l, -, hl⟩ := execStorePatrolRead_of_sound (s := s) (h := [{ addr := a, uncorrectable := false }]) hb
  exact ⟨_, hl, (congrArg State.storePoison hframe.2 :), s.flag_storeCE p, s.rd_storeCE_count p⟩

/-- A read that finds a bank lost fails the cluster, which its errors left enabled. -/
theorem execStorePatrolRead_lost {p : Fin 68} {h : List EccHit} {s : State} (hb : (s.eccHits p h).bankLost p = true)
    (hen : s.enabled p = true) :
    ∃ t, execStorePatrolRead p h s = .next t ∧ t.rd F.CLU_STATE_STATE p = 6 ∧ t.flag F.CLU_CAUSE_CLFAULT p = true ∧
      (∀ a, t.storeByte p a = 0) ∧ t.mem = s.mem := by
  obtain ⟨m, l, -, hl⟩ := execStorePatrolRead_eq p h s
  have hkept := s.eccHits_kept p h
  have hstate : (s.eccHits p h).rd F.CLU_STATE_STATE p = s.rd F.CLU_STATE_STATE p :=
    State.rd_congr (hkept.regs .CLU_STATE p (by decide))
  have henabled : ((s.eccHits p h).onLines m).enabled p = true := by
    change (s.eccHits p h).enabled p = true
    rwa [State.enabled, hstate]
  rw [State.bankCheck_of_lost ((State.bankLost_onLines _ m p).trans hb)] at hl
  obtain ⟨hfailed, -, hcause, -, hstore, hmem⟩ := State.clusterFail_down henabled
  exact ⟨_, hl, hfailed, hcause, hstore, hmem.trans hkept.mem⟩

/-- Settles O14: errors met touch poison, latches and causes alone, each bank's line is stepped, and a lost bank fails the cluster. -/
theorem storeScrubAndPatrol : Obligations.StoreScrubAndPatrol := by
  unfold Obligations.StoreScrubAndPatrol
  refine ⟨?forced, ?patrol, ?uncorrectable, ?corrected, ?lost⟩
  case forced => exact fun p b h s hb => execStoreScrubForced_effect hb
  case patrol => exact fun p h s hb => execStorePatrolRead_effect hb
  case uncorrectable => exact fun p a s h => execStorePatrolRead_uncorrectable a h
  case corrected => exact fun p a s h => execStorePatrolRead_corrected a h
  case lost => exact fun p h s hb hen => execStorePatrolRead_lost hb hen

end Sys2Proof.Machine
end

section
/-! PROOFS.  A bobbin whose index list lies with another module keeps its descriptor (R79, R110 to R112), which the statement on the
eight descriptors leaves out. -/

namespace Sys2Proof.Machine

/-- A GATHER of one row of 64 bytes in partition memory, whose index list of one entry lies in the memory of module 1. -/
def awayGather : BobDesc where
  opc := 2
  flags := 0
  waitTok := 0
  waitN := 0
  sigTok := 0
  sigN := 0
  flow := 0
  src := 0
  dst := 0
  rows := 1
  rowBytes := 64
  srcStride := 0
  dstStride := 0
  index := 0x2001000000000000
  nindex := 1
  listDst := 0
  aux := 0
  argsel := 0

/-- Cluster 0 belongs to partition 0, and that GATHER stands in the queue of its bobbin 0. -/
def awayModule : State := { State.reset.wr F.CLU_STATE_PVALID 0 1 with bobQ := [(unitCode 0 16, [awayGather])] }

/-- The GATHER goes on: it has a right form, no FENCE and no WAIT. -/
theorem bobGoes_awayGather : awayModule.bobGoes 0 0 awayGather 0 = true := by decide

theorem bobForm_awayGather : bobForm 2 awayGather = true := by decide

/-- The index list is asked for first. -/
theorem mustFetch_awayGather : awayModule.mustFetch 0 awayGather = true := by decide

/-- The GATHER stays in its queue while its list is asked for. -/
theorem bobQ_awayGather :
    (awayModule.runBobIn 0 0 awayGather [] [] (bobIndexed 0 awayGather true)).bobQ = [(unitCode 0 16, [awayGather])] := by
  decide

theorem bobQ_popBob_awayGather : (awayModule.popBob (unitCode 0 16) awayGather).bobQ = [(unitCode 0 16, [])] := by decide

theorem exec_awayGather : exec (.bobbinGather 0 0 awayGather [] []) awayModule =
    .next (awayModule.runBobIn 0 0 awayGather [] [] (bobIndexed 0 awayGather true)) :=
  if_pos (c := bobForm 2 awayGather = true) (e := .refused .illFormed) bobForm_awayGather

/-- Refutes O15: a GATHER that goes on with its index list in another module stays in the bobbin's queue until the list is here. -/
theorem not_bobbinDescriptorsRun : ¬ Obligations.BobbinDescriptorsRun := by
  unfold Obligations.BobbinDescriptorsRun
  rintro ⟨hmoves, -⟩
  obtain ⟨-, hgather, -⟩ := hmoves 0 0 awayGather [] [] 0 awayModule bobGoes_awayGather rfl
  obtain ⟨t, ht, hqueue, -⟩ := hgather bobForm_awayGather
  have htaken : t = awayModule.runBobIn 0 0 awayGather [] [] (bobIndexed 0 awayGather true) :=
    Host.Outcome.next.inj (ht.symm.trans exec_awayGather)
  rw [htaken, bobQ_awayGather] at hqueue
  exact absurd (hqueue.trans bobQ_popBob_awayGather) (by decide)

end Sys2Proof.Machine
end

section
/-! PROOFS.  What messages, ends of jobs and scrubs, looks at the votes, requests to hosts and writes of partition memory leave of the
cluster stores, the partitions and the commands in flight (R96, R122, R125, R263, R411). -/

namespace Sys2Proof.Machine

/-! ### Commands and partitions left alone -/

/-- The number of a command in flight: its ring and its SEQ. -/
def Cmd.num (c : Cmd) : Nat × Nat := (c.ring, c.seq)

/-- Registers that only the ring commands and the steps of a partition's life write. -/
def ringRegs : List Reg := [.ETH_PART_STATE, .ETH_RING_DONE]

/-- The cluster stores, the number of partitions, the registers above and what `k` shows of each command in flight are as they
were.  With `id` for `k` the commands are the same. -/
structure RingKept {γ : Type} (k : Cmd → γ) (s t : State) : Prop where
  store : t.store = s.store
  parts : t.parts.length = s.parts.length
  cmds : t.cmds.map k = s.cmds.map k
  regs : ∀ r ∈ ringRegs, ∀ i, t.reg r i = s.reg r i

section Kept
variable {γ : Type} {k : Cmd → γ} {s t u v : State}

theorem RingKept.refl (k : Cmd → γ) (s : State) : RingKept k s s := ⟨rfl, rfl, rfl, fun _ _ _ => rfl⟩

theorem RingKept.ite {c : Prop} [Decidable c] (hu : RingKept k s u) (hv : RingKept k s v) : RingKept k s (if c then u else v) := by
  split <;> assumption

theorem RingKept.cmds_eq (h : RingKept id s t) : t.cmds = s.cmds := by simpa using h.cmds

theorem RingKept.rd (h : RingKept k s t) {f : Fld} (i : Nat) (hf : f.reg ∈ ringRegs) : t.rd f i = s.rd f i :=
  State.rd_congr (h.regs _ hf i)

theorem RingKept.pstate (h : RingKept k s t) (n : Nat) : t.pstate n = s.pstate n := h.rd n (by decide)

/-- Commands that keep their numbers keep their rings. -/
theorem RingKept.not_ring {n : Nat} (h : RingKept Cmd.num s t) (hs : ∀ c ∈ s.cmds, c.ring / 4 ≠ n) : ∀ c ∈ t.cmds, c.ring / 4 ≠ n := by
  intro c hc
  have hnum : c.num ∈ s.cmds.map Cmd.num := h.cmds ▸ List.mem_map_of_mem hc
  obtain ⟨d, hd, hdc⟩ := List.mem_map.1 hnum
  have hring : d.ring = c.ring := congrArg Prod.fst hdc
  exact hring ▸ hs d hd

variable (h : RingKept k s u)
include h

theorem RingKept.trans (h' : RingKept k u t) : RingKept k s t :=
  ⟨h'.store.trans h.store, h'.parts.trans h.parts, h'.cmds.trans h.cmds, fun r hr i => (h'.regs r hr i).trans (h.regs r hr i)⟩

theorem RingKept.foldl {α : Type} {f : State → α → State} (l : List α) (hf : ∀ v x, RingKept k s v → RingKept k s (f v x)) :
    RingKept k s (l.foldl f u) :=
  List.foldlRecOn l f h fun v hv x _ => hf v x hv

/-- A change of other fields. -/
theorem RingKept.other (hs : v.store = u.store) (hp : v.parts.length = u.parts.length) (hc : v.cmds = u.cmds) (hr : v.regs = u.regs) :
    RingKept k s v :=
  h.trans ⟨hs, hp, congrArg (List.map k) hc, fun r _ i => by rw [State.reg, State.reg, hr]⟩

theorem RingKept.setReg {r : Reg} (i : Nat) (w : Word) (hr : r ∉ ringRegs) : RingKept k s (u.setReg r i w) :=
  h.trans ⟨rfl, rfl, rfl, fun _ hq _ => State.reg_setReg_ne _ _ _ _ _ _ (ne_of_mem_of_not_mem hq hr)⟩

theorem RingKept.wr {f : Fld} (i w : Nat) (hf : f.reg ∉ ringRegs) : RingKept k s (u.wr f i w) := h.setReg i _ hf

theorem RingKept.clearReg {r : Reg} (i : Nat) (hr : r ∉ ringRegs) : RingKept k s (u.clearReg i r) := h.setReg i _ hr

theorem RingKept.logs {rs : List Reg} (hl : OnlyLogs rs u v) (hrs : ∀ r ∈ ringRegs, r ∉ rs ++ recRegs) : RingKept k s v :=
  h.trans ⟨(congrArg State.store hl.2 :), (congrArg (fun x : State => x.parts.length) hl.2 :),
    (congrArg (fun x : State => x.cmds.map k) hl.2 :), fun r hr i => hl.1 r i (hrs r hr)⟩

theorem RingKept.record (a b c e g : Nat) (d : List Word) (m : Nat) : RingKept k s (u.record a b c e g d m) :=
  h.logs ((OnlyLogs.refl [] u).record a b c e g d m) (by decide)

theorem RingKept.raise {f : Fld} (i sev : Nat) (d : List Word) (m : Nat) (hf : ∀ r ∈ ringRegs, r ∉ f.reg :: recRegs) :
    RingKept k s (u.raise f i sev d m) :=
  h.logs ((OnlyLogs.refl [f.reg] u).raise f i sev d m (List.mem_singleton_self _)) hf

theorem RingKept.raiseBit {f : Fld} (i : Nat) (hf : ∀ r ∈ ringRegs, r ∉ f.reg :: recRegs) : RingKept k s (u.raiseBit f i) :=
  h.logs ((OnlyLogs.refl [f.reg] u).raiseBit f i (List.mem_singleton_self _)) hf

theorem RingKept.modPart (n : Nat) (f : Part → Part) : RingKept k s (u.modPart n f) :=
  h.other rfl (length_modifyAt _ _ _) rfl rfl

theorem RingKept.modLink (j : Nat) (f : Link → Link) : RingKept k s (u.modLink j f) := h.other rfl rfl rfl rfl

theorem RingKept.modColl (c : Coll) (f : Coll → Coll) : RingKept k s (u.modColl c f) := h.other rfl rfl rfl rfl

theorem RingKept.setTx (n : Nat) (f : TxFlow) : RingKept k s (u.setTx n f) := h.other rfl rfl rfl rfl

theorem RingKept.withPs (x : Ps) : RingKept k s { u with ps := x } := h.other rfl rfl rfl rfl

theorem RingKept.modQp (q : Nat) (f : Qp → Qp) : RingKept k s (u.modQp q f) := h.other rfl rfl rfl rfl

theorem RingKept.modPort (p : Nat) (f : EthPort → EthPort) : RingKept k s (u.modPort p f) := h.other rfl rfl rfl rfl

theorem RingKept.emit (e : Emit) : RingKept k s (u.emit e) := h.other rfl rfl rfl rfl

/-! ### Packets sent (R193, R198) -/

theorem RingKept.failDesc (desc : Option Nat) (status origin : Nat) : RingKept k s (u.failDesc desc status origin) := by
  cases desc with
  | none => exact h
  | some id => exact h.other rfl rfl rfl rfl

theorem RingKept.settle (desc : Option Nat) (n : Nat) : RingKept k s (u.settle desc n) := by
  cases desc with
  | none => exact h
  | some id => exact h.other rfl rfl rfl rfl

theorem RingKept.unsettle (desc : Option Nat) : RingKept k s (u.unsettle desc) := by
  cases desc with
  | none => exact h
  | some id => exact h.other rfl rfl rfl rfl

theorem RingKept.enqueue (j : Nat) (p : Packet) (e : Bool) : RingKept k s (u.enqueue j p e) :=
  .ite h (.ite (u := { u with fab := { u.fab with inbox := u.fab.inbox ++ [(j, p)] } }) (h.other rfl rfl rfl rfl) (h.modLink _ _))

theorem RingKept.sendNow (p : Packet) (desc : Option Nat) : RingKept k s (u.sendNow p desc) := by
  unfold State.sendNow
  simp only
  split
  · exact ((h.raise _ _ _ _ (by decide)).failDesc _ _ _).settle _ _
  · exact (h.setTx _ _).enqueue _ _ _

theorem RingKept.inject (p : Packet) (desc : Option Nat) : RingKept k s (u.inject p desc) := by
  have hpeer : RingKept k s (if p.cls = 3 then u else u.addPeer p.srcPart.toNat p.dstMod.toNat) := .ite h (h.other rfl rfl rfl rfl)
  have hopen := hpeer.unsettle desc
  exact .ite (h.failDesc _ _ _) (.ite (hopen.sendNow _ _) (hopen.setTx _ _))

theorem RingKept.sendLend (dst n kind arg : Nat) : RingKept k s (u.sendLend dst n kind arg) := h.inject _ _

theorem RingKept.returnGrants (a : LendAsk) : RingKept k s (u.returnGrants a) := by
  have hforget : RingKept k s { u with asks := u.asks.erase a } := h.other rfl rfl rfl rfl
  refine hforget.foldl _ fun v x hv => ?_
  split
  · exact hv.sendLend _ _ _ _
  · exact hv

/-! ### The end of a job (R59, R96, R155) -/

theorem RingKept.endLoans (n : Nat) : RingKept k s (u.endLoans n) :=
  RingKept.setReg (RingKept.modPart (h.foldl _ fun _ _ hv => hv.sendLend _ _ _ _) _ _) _ _ (by decide)

theorem RingKept.relaxEnd (n : Nat) : RingKept k s (u.relaxEnd n) := .ite ((h.modPart _ _).record _ _ _ _ _ _ _) h

theorem RingKept.loseRep (n : Nat) : RingKept k s (u.loseRep n) := by
  have hbeats : RingKept k s { u with beats := [] } := h.other rfl rfl rfl rfl
  exact .ite (.ite ((hbeats.wr _ _ (by decide)).raise _ _ _ _ (by decide)) hbeats) h

theorem RingKept.abandon (n : Nat) : RingKept k s (u.abandon n) := h.other rfl (length_modifyAt _ _ _) rfl rfl

/-! ### Links (R178) -/

theorem RingKept.setLanes (p : Nat) (l : List Nat) (st : Nat) : RingKept k s (u.setLanes p l st) :=
  h.foldl l fun _ _ hv => hv.wr _ _ (by decide)

theorem RingKept.train (j : Nat) : RingKept k s (u.train j) := by
  have hset (use dis : List Nat) : RingKept k s ((((u.setLanes (j / 8) use 1).setLanes (j / 8) dis 6).wr
      F.FAB_LINK_STAT_STATE j lkTraining).wr F.FAB_LINK_PEER_VALID j 0) :=
    (((h.setLanes _ _ _).setLanes _ _ _).wr _ _ (by decide)).wr _ _ (by decide)
  unfold State.train
  exact (hset _ _).modLink _ _

theorem RingKept.ctrlNow (j : Nat) (m : CtrlMsg) : RingKept k s (u.ctrlNow j m) := .ite (h.modLink _ _) ((h.modLink _ _).emit _)

theorem RingKept.widenPort (p : Nat) : RingKept k s (u.widenPort p) := (h.setLanes _ _ _).foldl _ fun _ _ hv => hv.train _

theorem RingKept.widenAll : RingKept k s u.widenAll :=
  h.foldl _ fun _ _ hv => .ite ((hv.ctrlNow _ _).widenPort _) (hv.foldl _ fun _ _ hw => hw.train _)

/-! ### Power states and votes (R411 to R418) -/

theorem RingKept.requestFlush : RingKept k s u.requestFlush := h.logs (OnlyLogs.refl [] u).requestFlush (by decide)

theorem RingKept.dropPend : RingKept k s u.dropPend := .ite ((h.wr _ _ (by decide)).raise _ _ _ _ (by decide)) h

theorem RingKept.putPend (t : Nat) : RingKept k s (u.putPend t) := .ite h ((h.dropPend.wr _ _ (by decide)).wr _ _ (by decide))

theorem RingKept.psRunning (t : Nat) : RingKept k s (u.psRunning t) := by
  have hset : RingKept k s ({ u with ps := { u.ps with ran := t, abort := 0, wake := false } }.psSet t) :=
    ((h.withPs _).wr _ _ (by decide)).wr _ _ (by decide)
  have hawake := (hset.wr (f := F.PWR_PS_STAT_STACKS_AWAKE) 0 0 (by decide)).wr (f := F.PWR_PS_STAT_CORE_AWAKE) 0 0 (by decide)
  exact .ite (hawake.foldl _ fun _ _ hv => hv.wr _ _ (by decide)) hawake

theorem RingKept.enterStandby : RingKept k s u.enterStandby := (((h.withPs _).wr _ _ (by decide)).wr _ _ (by decide)).wr _ _ (by decide)

theorem RingKept.enterFreewheel : RingKept k s u.enterFreewheel :=
  RingKept.requestFlush (((((h.withPs _).wr _ _ (by decide)).wr _ _ (by decide)).wr _ _ (by decide)).wr _ _ (by decide))

theorem RingKept.wakeFreewheel : RingKept k s u.wakeFreewheel := ((h.withPs _).wr _ _ (by decide)).wr _ _ (by decide)

theorem RingKept.wakeStandby (t : Nat) : RingKept k s (u.wakeStandby t) := by
  have hwide : RingKept k s ((({ u with ps := { u.ps with ran := t, abort := 0 } }.wr F.PWR_PS_STAT_STATE 0 psWaking).wr
      F.PWR_PS_STAT_TGT 0 t).widenAll) := RingKept.widenAll (((h.withPs _).wr _ _ (by decide)).wr _ _ (by decide))
  exact .ite ((hwide.psRunning t).raise _ _ _ _ (by decide)) hwide

theorem RingKept.wakeEvent {f : Fld} (hf : f.reg ∉ ringRegs) : RingKept k s (u.wakeEvent f) :=
  .ite (h.wr _ _ hf).wakeFreewheel (.ite (.ite (h.withPs _) ((h.withPs _).wr _ _ hf)) h)

theorem RingKept.requestNow (t : Nat) : RingKept k s (u.requestNow t) := by
  have hdrop := h.dropPend
  unfold State.requestNow
  refine .ite hdrop (.ite (.ite (hdrop.psRunning t) (.ite (hdrop.wakeStandby t) ?_)) ?_)
  · exact ((h.putPend t).wr _ _ (by decide)).wakeFreewheel
  · exact .ite hdrop.wakeFreewheel (.ite (h.putPend t) (.ite hdrop.enterFreewheel (.ite (h.enterStandby.putPend _) hdrop.enterStandby)))

theorem RingKept.requestBusy (t : Nat) : RingKept k s (u.requestBusy t) := by
  have hput := h.putPend t
  unfold State.requestBusy
  refine .ite (.ite (h.dropPend.withPs _) (.ite (hput.wakeEvent (by decide)) (.ite h hput))) (.ite ?_ (.ite h hput))
  exact (h.dropPend.withPs _).wr _ _ (by decide)

theorem RingKept.psRequest (t : Nat) : RingKept k s (u.psRequest t) := .ite (h.requestNow t) (h.requestBusy t)

theorem RingKept.psArrive : RingKept k s u.psArrive := .ite ((h.wr _ _ (by decide)).requestNow _) h

theorem RingKept.voteCheck : RingKept k s u.voteCheck := by
  have hwake := h.wakeEvent (f := F.PWR_WAKE_SRC_REQ) (by decide)
  unfold State.voteCheck
  exact .ite (.ite (h.psRequest _) (.ite hwake (.ite (.ite hwake (h.withPs _)) h))) h.psArrive

/-! ### Requests to hosts (R121, R125, R220, R223) -/

theorem RingKept.freeBytes (n : Nat) : RingKept k s (u.freeBytes n).2 := by
  induction n generalizing u with
  | zero => exact h
  | succ n ih =>
    have hfree : RingKept k s (u.freeNat 256).2 := h.other rfl rfl rfl rfl
    exact ih hfree

theorem RingKept.putEth (x : EthHdr) (e : Emit) : RingKept k s (u.putEth x e) := by
  have hsent := h.emit e
  unfold State.putEth
  simp only
  split
  · have hnext := hsent.modPort x.port fun y => { y with txPn := (u.port x.port).txPn + 1 }
    split
    · exact .ite ((hnext.freeBytes 12).emit _) hnext
    · exact hnext
  · exact hsent

theorem RingKept.sendEth (x : EthHdr) (e : Emit) : RingKept k s (u.sendEth x e) := by
  unfold State.sendEth
  split
  · exact .ite (h.modPort _ _) (h.putEth _ _)
  · exact h.putEth _ _

theorem RingKept.wireReq (q : Nat) (r : OutReq) : RingKept k s (u.wireReq q r) := by
  unfold State.wireReq
  split
  · split <;> exact h.sendEth _ _
  · exact h

theorem RingKept.pumpQp (q n : Nat) : RingKept k s (u.pumpQp q n) := by
  induction n generalizing u with
  | zero => exact h
  | succ n ih =>
    unfold State.pumpQp
    simp only
    split
    · exact h
    · exact .ite h (ih (RingKept.wireReq ((h.modQp _ _).wr _ _ (by decide)) _ _))

theorem RingKept.hostNotify (q i c : Nat) : RingKept k s (u.hostNotify q i c) := .ite ((h.modQp _ _).pumpQp _ _) h

/-! ### Writes of partition memory (R136, R142, R143) -/

theorem RingKept.sweepShow : RingKept k s u.sweepShow := h.foldl _ fun _ _ hv => hv.wr _ _ (by decide)

theorem RingKept.sweepDone (n : Nat) : RingKept k s (u.sweepDone n) := by
  unfold State.sweepDone
  extract_lets old s1 s2
  have h1 : RingKept k s s1 := h.other rfl rfl rfl rfl
  have h2 : RingKept k s s2 := by
    unfold s2
    split
    · exact h1
    · exact (h1.raise _ _ _ _ (by decide)).foldl _ fun _ _ hv => hv.raiseBit _ (by decide)
  exact h2.wr _ _ (by decide)

theorem RingKept.countOld (n : Nat) : RingKept k s (u.countOld n) := by
  have hcount := h.wr (f := F.MEM_ROT_OLDCNT_PAGES) n (u.oldPages n) (by decide)
  exact RingKept.sweepShow (.ite (hcount.sweepDone n) hcount)

theorem RingKept.convert (j f : Nat) : RingKept k s (u.convert j f) := by
  have hpage (l : List (Nat × Page)) : RingKept k s { u with pages := l } := h.other rfl rfl rfl rfl
  unfold State.convert
  simp only
  split
  · split
    · exact (hpage _).countOld _
    · exact hpage _
  · exact hpage _

theorem RingKept.memLine (j a : Nat) (l : List (Option Byte)) (b : Bool) : RingKept k s (u.memLine j a l b) :=
  .ite (u := u.setMemPoison j a true) (h.other rfl rfl rfl rfl)
    (.ite (v := (u.memPut j a l).setMemPoison j a false) h (h.other rfl rfl rfl rfl))

theorem RingKept.memOp (j : Nat) (x : Nat × Option (List (Option Byte) × Bool)) : RingKept k s (u.memOp j x) := by
  unfold State.memOp
  split
  · exact h.memLine _ _ _ _
  · exact h.emit _

theorem RingKept.settled (j f : Nat) : RingKept k s (u.settled j f) := by
  unfold State.settled
  split
  · next c _ =>
    have hends : RingKept k s { u with convs := u.convs.erase c } := h.other rfl rfl rfl rfl
    exact (hends.convert _ _).foldl _ fun _ _ hv => hv.memOp _ _
  · exact h

theorem RingKept.memWriteLine (j a : Nat) (l : List (Option Byte)) (b : Bool) : RingKept k s (u.memWriteLine j a l b) :=
  have hpage := h.settled j (a / 65536)
  .ite h (RingKept.memLine (.ite (hpage.convert _ _) hpage) _ _ _ _)

theorem RingKept.partWrite (n o : Nat) (l : List Byte) (b : Bool) : RingKept k s (u.partWrite n o l b) :=
  h.foldl _ fun _ _ hv => .ite hv (hv.memWriteLine _ _ _ _)

/-! ### What a scrub drops (R237, R253, R263) -/

theorem RingKept.clearRegs (i : Nat) {l : List Reg} (hl : ∀ r ∈ l, r ∉ ringRegs) :
    RingKept k s (l.foldl (fun v r => v.clearReg i r) u) :=
  List.foldlRecOn l _ h fun _ hv r hr => hv.clearReg i (hl r hr)

theorem RingKept.clearEth (n : Nat) : RingKept k s (u.clearEth n) := by
  unfold State.clearEth
  extract_lets s1 s2 s3 d
  have h1 : RingKept k s s1 := h.foldl _ fun _ _ hv => (hv.clearRegs _ (by decide)).modQp _ _
  have h2 : RingKept k s s2 := h1.foldl _ fun _ _ hv => hv.clearRegs _ (by decide)
  have h3 : RingKept k s s3 := h2.foldl _ fun _ _ hv => hv.clearRegs _ (by decide)
  have hd : RingKept k s d.2 := h3.other rfl rfl rfl rfl
  exact hd.wr _ _ (by decide)

theorem RingKept.dropKeys (n : Nat) : RingKept k s (u.dropKeys n) := by
  refine h.foldl _ fun v j hv => RingKept.setReg ?_ _ _ (by decide)
  exact hv.other rfl rfl rfl rfl

end Kept

/-! ### Collectives (R206): a RUN may take a status, and keeps its number -/

section Numbered

theorem Cmd.num_note (c : Cmd) (status origin : Nat) : (c.note status origin).num = c.num := by
  unfold Cmd.note
  split <;> rfl

theorem Cmd.num_addPoison (c : Cmd) (origin : Nat) : (c.addPoison origin).num = c.num := Cmd.num_note _ _ _

variable {s u : State} (h : RingKept Cmd.num s u)
include h

/-- A change of the commands in flight that keeps their numbers. -/
theorem RingKept.mapCmds {f : Cmd → Cmd} (hf : ∀ c, (f c).num = c.num) : RingKept Cmd.num s { u with cmds := u.cmds.map f } :=
  h.trans ⟨rfl, rfl, by simp [Function.comp_def, hf], fun _ _ _ => rfl⟩

theorem RingKept.modRun (n : Nat) {f : Cmd → Cmd} (hf : ∀ c, (f c).num = c.num) : RingKept Cmd.num s (u.modRun n f) :=
  h.mapCmds fun c => by rw [apply_ite Cmd.num, hf, ite_self]

theorem RingKept.tokStopped (q : Nat) : RingKept Cmd.num s (u.tokStopped q) := by
  unfold State.tokStopped
  split
  · exact h
  · next n _ => exact (h.modRun n fun c => c.num_note _ _).other rfl rfl rfl rfl

theorem RingKept.tokAdd (j n : Nat) : RingKept Cmd.num s (u.tokAdd j n).1 := by
  have hadd : RingKept Cmd.num s (u.tokAdded j n) := h.other rfl rfl rfl rfl
  rcases Nat.lt_or_ge 65535 (u.tokCount j + n) with hover | hfits
  · rw [State.tokAdd_of_overflow hover]
    cases u.tokHolder j with
    | none => exact hadd
    | some q => exact (hadd.raise _ _ _ _ (by decide)).tokStopped q
  · rw [State.tokAdd_of_fits hfits]
    exact hadd

theorem RingKept.bobSignal (p : Nat) (d : BobDesc) : RingKept Cmd.num s (u.bobSignal p d) := by
  unfold State.bobSignal
  split
  · split
    · exact h.tokAdd _ _
    · exact h
  · exact h

theorem RingKept.endDesc (d : DescRun) : RingKept Cmd.num s (u.endDesc d) := by
  have herase : RingKept Cmd.num s { u with fab := { u.fab with descs := u.fab.descs.erase d } } := h.other rfl rfl rfl rfl
  have hputs := herase.mapCmds (f := fun c => if c.put.elem d.id then { c.note d.status d.origin with put := c.put.erase d.id } else c)
    fun c => by split; exacts [c.num_note _ _, rfl]
  exact .ite (hputs.other rfl rfl rfl rfl) (RingKept.bobSignal (.ite herase (herase.modRun _ fun c => c.num_note _ _)) _ _)

theorem RingKept.sendCtl (c : Coll) (dst kind count : Nat) : RingKept Cmd.num s (u.sendCtl c dst kind count) := h.inject _ _

theorem RingKept.setBusy (n id w : Nat) : RingKept Cmd.num s (u.setBusy n id w) :=
  .ite (h.setReg _ _ (by decide)) (h.setReg _ _ (by decide))

theorem RingKept.collOver (c : Coll) (ok : Bool) : RingKept Cmd.num s (u.collOver c ok) := by
  unfold State.collOver
  extract_lets s1 s2 s3
  have h1 : RingKept Cmd.num s s1 := (h.modColl _ _).setBusy _ _ _
  have h2 : RingKept Cmd.num s s2 := .ite h1 (h1.raise _ _ _ _ (by decide))
  have h3 : RingKept Cmd.num s s3 := .ite (h2.modRun _ fun m => m.num_addPoison _) h2
  split
  · exact h3.endDesc _
  · exact h3

theorem RingKept.collDecide (c : Coll) : RingKept Cmd.num s (u.collDecide c) := by
  have htold : RingKept Cmd.num s
      ((u.others c).foldl (fun s r => if c.sentCommit then s.sendCtl c r 2 c.mark else s.sendCtl c r 3 0) u) :=
    h.foldl _ fun v r hv => .ite (hv.sendCtl _ _ _ _) (hv.sendCtl _ _ _ _)
  exact .ite (htold.collOver _ _) htold

theorem RingKept.collSettle (c : Coll) : RingKept Cmd.num s (u.collSettle c) :=
  .ite (h.collDecide c) (h.foldl _ fun _ _ hv => hv.sendCtl _ _ _ _)

theorem RingKept.collAbort (c : Coll) : RingKept Cmd.num s (u.collAbort c) := .ite (h.collSettle c) (h.sendCtl _ _ _ _)

theorem RingKept.endColls (n : Nat) : RingKept Cmd.num s (u.endColls n) :=
  h.foldl _ fun _ _ hv => .ite ((hv.collAbort _).collOver _ _) (hv.collAbort _)

end Numbered

end Sys2Proof.Machine
end

section
/-! PROOFS.  PART_ASSIGN, PART_RELEASE and PART_STATE (R95, R96, R230, R263, R520), and the statement on them. -/

namespace Sys2Proof.Machine

theorem OnlyRegs.mem_eq {rs : List Reg} {s t : State} (h : OnlyRegs rs s t) : t.mem = s.mem := (congrArg State.mem h.2 :)

theorem OnlyRegs.store_eq {rs : List Reg} {s t : State} (h : OnlyRegs rs s t) : t.store = s.store := (congrArg State.store h.2 :)

/-! ### A partition is assigned (R520) -/

theorem mask_lt_of_readAssign {l : List Byte} {a : Assign} (h : readAssign l = some a) : a.mask < 256 := by
  unfold readAssign at h
  extract_lets b k at h
  split at h
  · exact (Option.some.inj h) ▸ byteAt_lt l 1
  · exact absurd h (by simp)

/-- A range that the checks accept ends before the page metadata. -/
theorem State.fits_of_assignResult {s : State} {a : Assign} (h : s.assignResult a = 0) : a.base + a.frames ≤ 1177344 := by
  unfold State.assignResult at h
  simp only at h
  split at h
  · exact absurd h (by decide)
  · split at h
    · exact absurd h (by decide)
    · split at h
      · exact absurd h (by decide)
      · next hfree => simp_all

/-- The range of partition `a.n` as an assign binds it. -/
def State.ranged (s : State) (a : Assign) : State :=
  (((s.wr F.MEM_PART_SET_VALID a.n 1).wr F.MEM_PART_SET_STACKS a.n a.mask).wr F.MEM_PART_BASE_VALUE a.n a.base).wr
    F.MEM_PART_FRAMES_VALUE a.n a.frames

theorem State.rd_ranged {s : State} {a : Assign} (hmask : a.mask < 256) (hfits : a.base + a.frames ≤ 1177344) :
    (s.ranged a).rd F.MEM_PART_SET_STACKS a.n = a.mask ∧ (s.ranged a).rd F.MEM_PART_BASE_VALUE a.n = a.base ∧
      (s.ranged a).rd F.MEM_PART_FRAMES_VALUE a.n = a.frames := by
  have hbase : a.base < 2 ^ 21 := by omega
  have hframes : a.frames < 2 ^ 21 := by omega
  unfold State.ranged
  refine ⟨?_, ?_, ?_⟩
  · rw [State.rd_wr_ne _ _ _ _ _ _ (by decide), State.rd_wr_ne _ _ _ _ _ _ (by decide), State.rd_wr_same _ _ _ _ (by decide)]
    exact Nat.mod_eq_of_lt hmask
  · rw [State.rd_wr_ne _ _ _ _ _ _ (by decide), State.rd_wr_same _ _ _ _ (by decide)]
    exact Nat.mod_eq_of_lt hbase
  · rw [State.rd_wr_same _ _ _ _ (by decide)]
    exact Nat.mod_eq_of_lt hframes

theorem State.ranged_onlyRegs (s : State) (a : Assign) :
    OnlyRegs [.MEM_PART_SET, .MEM_PART_BASE, .MEM_PART_FRAMES] s (s.ranged a) :=
  ((((OnlyRegs.refl _ s).wr _ _ _ (by decide)).wr _ _ _ (by decide)).wr _ _ _ (by decide)).wr _ _ _ (by decide)

/-- A key of generation 0 is drawn and stands in every stack of the set. -/
def State.keyed (s : State) (a : Assign) : State :=
  { s.drawKey.2 with keys := s.drawKey.2.keys ++ (stacksOf a.mask).map fun k =>
    ({ stack := k, loan := false, owner := a.n, gen := 0, key := s.drawKey.1 } : KeySlot) }

theorem State.keyed_rest (s : State) (a : Assign) :
    (s.keyed a).regs = s.regs ∧ (s.keyed a).out = s.out ∧ (s.keyed a).mem = s.mem ∧ (s.keyed a).store = s.store :=
  ⟨rfl, rfl, rfl, rfl⟩

/-- The clusters that an assign names belong to its partition. -/
def State.manned (s : State) (a : Assign) : State :=
  ((List.range 64).filter fun c => a.clusters.testBit c).foldl (fun s c =>
    match s.physOf c with
    | some p => ((s.wr F.CLU_STATE_STATE p 5).wr F.CLU_STATE_PART p a.n).wr F.CLU_STATE_PVALID p 1
    | none => s) s

theorem State.manned_onlyRegs (s : State) (a : Assign) : OnlyRegs [.CLU_STATE] s (s.manned a) :=
  (OnlyRegs.refl _ s).foldl _ fun v c hv => by
    split
    · exact ((hv.wr _ _ _ (by decide)).wr _ _ _ (by decide)).wr _ _ _ (by decide)
    · exact hv

/-- The partition begins anew, with its tokens 0, and is ASSIGNED. -/
def State.begun (s : State) (n : Nat) : State := ((s.modPart n fun _ => Part.empty).clearTokens n).wr F.ETH_PART_STATE_STATE n 1

theorem State.begun_rest (s : State) (n : Nat) :
    (s.begun n).out = s.out ∧ (s.begun n).mem = s.mem ∧ (s.begun n).store = s.store := ⟨rfl, rfl, rfl⟩

theorem State.reg_begun (s : State) (n : Nat) {r : Reg} (i : Nat) (hr : r ≠ .ETH_PART_STATE) : (s.begun n).reg r i = s.reg r i :=
  State.reg_wr_ne _ _ _ _ _ _ hr

theorem State.assign_eq (s : State) (a : Assign) : s.assign a = (((s.ranged a).keyed a).manned a).begun a.n := rfl

theorem State.pstate_assign (s : State) (a : Assign) : (s.assign a).pstate a.n = 1 := State.rd_wr_same _ _ _ _ (by decide)

/-- After its range is bound an assign writes the states of clusters and of its partition alone. -/
theorem State.reg_assign (s : State) (a : Assign) {r : Reg} (i : Nat) (hr : r ≠ .CLU_STATE ∧ r ≠ .ETH_PART_STATE) :
    (s.assign a).reg r i = (s.ranged a).reg r i := by
  rw [State.assign_eq, State.reg_begun _ _ _ hr.2, (State.manned_onlyRegs _ a).1 r i (by simpa using hr.1), State.reg,
    (State.keyed_rest _ a).1, State.reg]

/-- An assign leaves memories and messages. -/
theorem State.assign_rest (s : State) (a : Assign) :
    (s.assign a).out = s.out ∧ (s.assign a).mem = s.mem ∧ (s.assign a).store = s.store := by
  have hrange := s.ranged_onlyRegs a
  have hmanned := ((s.ranged a).keyed a).manned_onlyRegs a
  obtain ⟨-, hout, hmem, hstore⟩ := (s.ranged a).keyed_rest a
  obtain ⟨hout', hmem', hstore'⟩ := State.begun_rest (((s.ranged a).keyed a).manned a) a.n
  rw [State.assign_eq]
  refine ⟨?_, ?_, ?_⟩
  · rw [hout', hmanned.out_eq, hout, hrange.out_eq]
  · rw [hmem', hmanned.mem_eq, hmem, hrange.mem_eq]
  · rw [hstore', hmanned.store_eq, hstore, hrange.store_eq]

/-! ### A partition is released (R96, R263) -/

/-- A scrub begins: its partition is in SCRUB and its step 3, and none of its commands is in flight. -/
theorem State.scrubBegin_effect {s : State} {n : Nat} (hn : n < s.parts.length) :
    (s.scrubBegin n).pstate n = 4 ∧ ((s.scrubBegin n).part n).scrubStep = 3 ∧ ∀ c ∈ (s.scrubBegin n).cmds, c.ring / 4 ≠ n := by
  unfold State.scrubBegin
  extract_lets s1 s2 s3 s4 s5 s6 s7
  have hstate : s1.pstate n = 4 :=
    (State.rd_wr_ne _ _ _ _ _ _ (by decide)).trans (State.rd_wr_same _ _ _ _ (by decide))
  have h2 : RingKept id s1 s2 := (RingKept.refl _ _).foldl _ fun _ a hv => hv.returnGrants a
  have h5 : RingKept Cmd.num s3 s5 := (((RingKept.refl _ s3).dropKeys n).clearEth n).foldl _ fun _ _ hv =>
    (hv.clearReg _ (by decide)).clearReg _ (by decide)
  have hsent : RingKept Cmd.num s3 (((s5.endColls n).abandon n).dropSent n) :=
    ((h5.endColls n).abandon n).other rfl rfl rfl rfl
  have h6 : RingKept Cmd.num s3 s6 := (hsent.relaxEnd n).loseRep n
  have hstate6 : s6.pstate n = 4 := (h6.pstate n).trans ((h2.pstate n).trans hstate)
  have hparts : n < s6.parts.length := by rw [h6.parts]; exact lt_of_lt_of_eq hn h2.parts.symm
  have hgone : ∀ c ∈ s6.cmds, c.ring / 4 ≠ n := h6.not_ring fun c hc => by simpa using (List.mem_filter.1 hc).2
  let f : Part → Part := fun p => { p with
    scrubStep := 3, scrubStart := s.up, rotOff := true, scrubQps := ((s.partQps n).filter fun q => s.qpState q ≠ 0).map fun q => (q, s.qpHdr q) }
  have huntouched : Untouched (s6.modPart n f) ((s7.wr F.MEM_ROT_CTL_REQ n 0).sweepShow) :=
    (((Untouched.refl (s6.modPart n f)).other (v := s7) rfl rfl rfl rfl).wr _ _ (by decide)).sweepShow
  have hring : RingKept Cmd.num s6 ((s7.wr F.MEM_ROT_CTL_REQ n 0).sweepShow) :=
    ((((RingKept.refl _ s6).modPart n f).other (v := s7) rfl rfl rfl rfl).wr _ _ (by decide)).sweepShow
  refine ⟨(hring.pstate n).trans hstate6, ?_, hring.not_ring hgone⟩
  rw [huntouched.part, State.part_modPart _ _ hparts]

theorem State.scrubBegin_voteCheck_effect {s : State} {n : Nat} (hn : n < s.parts.length) :
    (s.scrubBegin n).voteCheck.pstate n = 4 ∧ ((s.scrubBegin n).voteCheck.part n).scrubStep = 3 ∧
      ∀ c ∈ (s.scrubBegin n).voteCheck.cmds, c.ring / 4 ≠ n := by
  obtain ⟨hstate, hstep, hgone⟩ := State.scrubBegin_effect hn
  have hvote := (Untouched.refl (s.scrubBegin n)).voteCheck
  exact ⟨(hvote.pstate n).trans hstate, (congrArg Part.scrubStep (hvote.part n)).trans hstep,
    (RingKept.refl Cmd.num (s.scrubBegin n)).voteCheck.not_ring hgone⟩

/-! ### Answers over HMP (R230) -/

theorem execPart_of_no_session {s : State} {x : HmpHead} (b : List Byte) (h : s.hmpUp = false ∨ s.sessions.elem x.client = false) :
    execPartState x s = .next s ∧ execPartAssign x b s = .next s ∧ execPartRelease x b s = .next s := by
  have hno : (!s.hmpUp || !(s.sessions.elem x.client)) = true := by
    rcases h with h | h <;> rw [h] <;> simp
  exact ⟨if_pos hno, if_pos hno, if_pos hno⟩

theorem execPartState_malformed {s : State} {x : HmpHead} (hup : s.hmpUp = true) (hses : s.sessions.elem x.client = true)
    (hok : x.ok = false) : execPartState x s = .next (s.hmpSay x 3 2 []) :=
  (if_neg (not_without_session hup hses)).trans (if_pos (by rw [hok]; rfl))

theorem State.answer4_rest (s : State) (x : HmpHead) (r n : Nat) :
    (s.answer4 x r).pstate n = s.pstate n ∧ (s.answer4 x r).part n = s.part n ∧ (s.answer4 x r).cmds = s.cmds := ⟨rfl, rfl, rfl⟩

/-- A record of its own kind leaves all but the recorder and the place in the free values. -/
theorem OnlyLogs.recordOpen (s : State) (b i sev : Nat) (d : List Word) :
    OnlyLogs [] { s with free := (s.recordOpen b i sev d).free } (s.recordOpen b i sev d) := by
  have hrec : OnlyLogs [] (s.freeNat 256).2 (s.recordOpen b i sev d) := (OnlyLogs.refl [] _).record _ _ _ _ _ _ _
  have hfree : (s.recordOpen b i sev d).free = (s.freeNat 256).2.free := (congrArg State.free hrec.2 :)
  rw [hfree]
  exact hrec

theorem OnlyLogs.out_eq {rs : List Reg} {s t : State} (h : OnlyLogs rs s t) : t.out = s.out := (congrArg State.out h.2 :)

/-- An answer sent is the only thing that `answer4` adds. -/
theorem OnlyLogs.answer4 {rs : List Reg} {s t : State} (h : OnlyLogs rs s t) (x : HmpHead) (r : Nat) :
    OnlyLogs rs { s with out := (t.answer4 x r).out } (t.answer4 x r) :=
  ⟨h.1, congrArg (fun u : State => { u with out := (t.answer4 x r).out }) h.2⟩

section Session
variable {s : State} {x : HmpHead} (hup : s.hmpUp = true) (hses : s.sessions.elem x.client = true) (hok : x.ok = true)
  (hrec : s.flag F.CFG_STAT_RECOVERY = false) (hid : s.rd F.SEC_STATE_ID ≠ 2)
include hup hses hok hrec hid

theorem execPartAssign_of_read {body : List Byte} {a : Assign} (ha : readAssign body = some a) :
    execPartAssign x body s = .next (if s.assignResult a = 0 then (s.assign a).answer4 x 0
      else (s.recordOpen 14 a.n 2 [wd (s.assignResult a)]).answer4 x (s.assignResult a)) := by
  refine (hmpObj_taken hup hses hok hrec hid _ _).trans ?_
  simp only [ha]

theorem execPartAssign_effect {body : List Byte} {a : Assign} (ha : readAssign body = some a) (hres : s.assignResult a = 0) :
    ∃ t, execPartAssign x body s = .next t ∧ t.pstate a.n = 1 ∧ t.rd F.MEM_PART_SET_STACKS a.n = a.mask ∧
      t.rd F.MEM_PART_BASE_VALUE a.n = a.base ∧ t.rd F.MEM_PART_FRAMES_VALUE a.n = a.frames ∧
      t.out = s.out ++ [.hmp x.client 0x8004 0 x.seq.toNat [0, 0, 0, 0]] ∧ t.mem = s.mem ∧ t.store = s.store := by
  obtain ⟨hout, hmem, hstore⟩ := s.assign_rest a
  obtain ⟨hset, hbase, hframes⟩ := s.rd_ranged (mask_lt_of_readAssign ha) (State.fits_of_assignResult hres)
  have hassign : execPartAssign x body s = .next ((s.assign a).answer4 x 0) := by
    rw [execPartAssign_of_read hup hses hok hrec hid ha, if_pos hres]
  refine ⟨_, hassign, s.pstate_assign a, ?_, ?_, ?_, congrArg (· ++ _) hout, hmem, hstore⟩
  · exact (State.rd_congr (s.reg_assign a _ (by decide))).trans hset
  · exact (State.rd_congr (s.reg_assign a _ (by decide))).trans hbase
  · exact (State.rd_congr (s.reg_assign a _ (by decide))).trans hframes

theorem execPartAssign_refused {body : List Byte} {a : Assign} (ha : readAssign body = some a) (hres : s.assignResult a ≠ 0) :
    ∃ t, execPartAssign x body s = .next t ∧ t.out = s.out ++ [.hmp x.client 0x8004 0 x.seq.toNat (natLE 4 (s.assignResult a))] ∧
      OnlyLogs [] { s with free := t.free, out := t.out } t := by
  have hframe := OnlyLogs.recordOpen s 14 a.n 2 [wd (s.assignResult a)]
  have hexec : execPartAssign x body s = .next ((s.recordOpen 14 a.n 2 [wd (s.assignResult a)]).answer4 x (s.assignResult a)) := by
    rw [execPartAssign_of_read hup hses hok hrec hid ha, if_neg hres]
  exact ⟨_, hexec, congrArg (· ++ _) hframe.out_eq, hframe.answer4 x _⟩

theorem execPartState_effect :
    execPartState x s = .next (s.hmpSay x 3 0 ((List.range 16).flatMap fun n => natLE 4 (s.reg .ETH_PART_STATE n).toNat)) :=
  hmpObj_taken hup hses hok hrec hid _ _

theorem execPartRelease_effect {body : List Byte} (hlen : body.length = 4) (hn : byteAt body 0 < 16) (hz : zerosAt body 1 3 = true)
    (hserved : s.served (byteAt body 0) = true) (hparts : s.parts.length = 16) :
    ∃ t, execPartRelease x body s = .next t ∧ t.pstate (byteAt body 0) = 4 ∧ (t.part (byteAt body 0)).scrubStep = 3 ∧
      ∀ c ∈ t.cmds, c.ring / 4 ≠ byteAt body 0 := by
  have hform : ¬ (body.length ≠ 4 ∨ 16 ≤ byteAt body 0 ∨ zerosAt body 1 3 = false) := by simp [hlen, hn, hz]
  have htaken : execPartRelease x body s = .next ((s.scrubBegin (byteAt body 0)).voteCheck.answer4 x 0) := by
    refine (hmpObj_taken hup hses hok hrec hid _ _).trans ?_
    simp only [if_neg hform, if_pos hserved]
  have hkeep := State.answer4_rest (s.scrubBegin (byteAt body 0)).voteCheck x 0 (byteAt body 0)
  have heffect := State.scrubBegin_voteCheck_effect (s := s) (n := byteAt body 0) (by omega)
  refine ⟨_, htaken, ?_⟩
  rwa [hkeep.1, hkeep.2.1, hkeep.2.2]

end Session

/-- Settles O9: an assign reads its body's set, base and frames back and answers its result; a release leaves the partition in
step 3 of its scrub, and every later step of the release keeps the numbers of the commands that are left. -/
theorem partitionsAssignedAndReleased : Obligations.PartitionsAssignedAndReleased := by
  unfold Obligations.PartitionsAssignedAndReleased
  refine ⟨fun x body a s hup hses hok hrec hid ha hres => ?_, fun x body a s hup hses hok hrec hid ha hres => ?_,
    fun x body s hup hses hok hrec hid hlen hn hz hserved hparts => ?_, fun x s hup hses hok hrec hid => ?_,
    fun x b s h => ?_, fun x s hup hses hok => ?_⟩
  · exact execPartAssign_effect hup hses hok hrec hid ha hres
  · exact execPartAssign_refused hup hses hok hrec hid ha hres
  · exact execPartRelease_effect hup hses hok hrec hid hlen hn hz hserved hparts
  · exact execPartState_effect hup hses hok hrec hid
  · exact execPart_of_no_session b h
  · exact execPartState_malformed hup hses hok

end Sys2Proof.Machine
end

section
/-! PROOFS.  Commands in flight are found, changed and ended (R119, R124), and the statement on the commands of a ring and their
completion (R96, R102, R114, R122). -/

namespace Sys2Proof.Machine

/-! ### A command in flight -/

/-- The command found has its ring and its number. -/
theorem State.num_of_cmd {s : State} {i c : Nat} {x : Cmd} (h : s.cmd i c = some x) : x.ring = i ∧ x.seq = c := by
  simpa using List.find?_some h

theorem State.mem_of_cmd {s : State} {i c : Nat} {x : Cmd} (h : s.cmd i c = some x) : x ∈ s.cmds := List.mem_of_find?_eq_some h

theorem State.cmd_congr {s t : State} (h : t.cmds = s.cmds) (i c : Nat) : t.cmd i c = s.cmd i c := by
  rw [State.cmd, State.cmd, h]

/-- A change that keeps the number is found by it. -/
theorem State.cmd_modCmd (s : State) (i c : Nat) {f : Cmd → Cmd} (hf : ∀ x, (f x).num = x.num) :
    (s.modCmd i c f).cmd i c = (s.cmd i c).map f := by
  have hring (x : Cmd) : (f x).ring = x.ring := congrArg Prod.fst (hf x)
  have hseq (x : Cmd) : (f x).seq = x.seq := congrArg Prod.snd (hf x)
  unfold State.cmd State.modCmd
  induction s.cmds with
  | nil => rfl
  | cons x l ih =>
    by_cases hx : x.ring = i ∧ x.seq = c
    · simp [hx, hring, hseq]
    · have hno : (decide (x.ring = i) && decide (x.seq = c)) = false := by simpa using hx
      simpa [hx, hno] using ih

theorem State.cmd_modCmd_of_cmd {s : State} {i c : Nat} {x : Cmd} (h : s.cmd i c = some x) {f : Cmd → Cmd}
    (hf : ∀ x, (f x).num = x.num) : (s.modCmd i x.seq f).cmd i c = some (f x) := by
  rw [(State.num_of_cmd h).2, State.cmd_modCmd s i c hf, h, Option.map_some]

/-- Ending a command keeps the number of every one. -/
theorem Cmd.num_ended (status origin : Nat) (x : Cmd) :
    (if x.phase = .ready then x else { x.note status origin with phase := .ready }).num = x.num := by
  split
  · rfl
  · exact x.num_note status origin

/-- A command that ends without a status is ready, and otherwise as it was. -/
theorem State.cmd_cmdEnd {s : State} {i c : Nat} {x : Cmd} (h : s.cmd i c = some x) (hphase : x.phase = .started) :
    (s.cmdEnd i x.seq 0 0).cmd i c = some { x with phase := .ready } := by
  have hnote : x.note 0 0 = x := if_neg (by simp)
  rw [State.cmdEnd, State.cmd_modCmd_of_cmd h (Cmd.num_ended 0 0), if_neg (by simp [hphase]), hnote]

theorem State.cmd_running {s : State} {i c : Nat} {x : Cmd} (h : s.cmd i c = some x) :
    (s.modCmd i x.seq fun y => { y with phase := .running }).cmd i c = some { x with phase := .running } :=
  State.cmd_modCmd_of_cmd h (f := fun y => { y with phase := .running }) fun _ => rfl

/-- A RUN that is running is the RUN of its partition. -/
theorem State.runActive_of_cmd {s : State} {i c : Nat} {x : Cmd} (h : s.cmd i c = some x) (hopc : x.opc = 3)
    (hphase : x.phase = .running) : s.runActive (i / 4) = true := by
  refine List.any_eq_true.2 ⟨x, State.mem_of_cmd h, ?_⟩
  simp [(State.num_of_cmd h).1, hopc, hphase]

/-! ### Commands that have started -/

/-- A started command of its code has the effect of its code. -/
theorem onStarted_of_cmd {i : Fin 64} {c : Word} {s : State} {x : Cmd} (h : s.cmd i c.toNat = some x) (hphase : x.phase = .started)
    {opc : Nat} (hopc : x.opc = opc) (f : Cmd → State → State) : onStarted i c opc f s = .next (f x s) := by
  unfold onStarted
  simp [h, hopc, hphase]

section Started
variable {i : Fin 64} {c : Word} {s : State} {x : Cmd} (h : s.cmd i c.toNat = some x) (hphase : x.phase = .started)
include h hphase

theorem execCmdNop_effect (hopc : x.opc = 0) : ∃ t, execCmdNop i c s = .next t ∧
    t.cmd i c.toNat = some { x with phase := .ready } ∧ t = { s with cmds := t.cmds } := by
  refine ⟨_, onStarted_of_cmd h hphase hopc _, State.cmd_cmdEnd h hphase, rfl⟩

theorem execFence_effect (hopc : x.opc = 4) : ∃ t, execFence i c s = .next t ∧
    t.cmd i c.toNat = some { x with phase := .running } ∧ t = { s with cmds := t.cmds } := by
  refine ⟨_, onStarted_of_cmd h hphase hopc _, State.cmd_running h, rfl⟩

theorem execMark_effect (hopc : x.opc = 6) : ∃ t, execMark i c s = .next t ∧
    t.cmd i c.toNat = some { x with phase := .running } ∧ t = { s with cmds := t.cmds } := by
  refine ⟨_, onStarted_of_cmd h hphase hopc _, State.cmd_running h, rfl⟩

/-! ### SIGNAL (R114) -/

theorem execSignal_held (hopc : x.opc = 5) (hrun : s.runActive (i.val / 4) = false) (hparts : s.parts.length = 16) :
    ∃ t, execSignal i c s = .next t ∧ t.cmd i c.toNat = some { x with phase := .ready } ∧
      (t.part (i.val / 4)).held = (s.part (i.val / 4)).held ++ [(byteAt x.entry 8, byteAt x.entry 9)] ∧
      t = { s with cmds := t.cmds, parts := t.parts } := by
  let f : Part → Part := fun p => { p with held := p.held ++ [(byteAt x.entry 8, byteAt x.entry 9)] }
  have htaken : execSignal i c s = .next ((s.modPart (i.val / 4) f).cmdEnd i x.seq 0 0) := by
    refine (onStarted_of_cmd h hphase hopc _).trans ?_
    simp [hrun, f]
  have hpart := s.part_modPart f (n := i.val / 4) (by omega)
  exact ⟨_, htaken, State.cmd_cmdEnd (s := s.modPart (i.val / 4) f) h hphase, congrArg Part.held hpart, rfl⟩

theorem execSignal_added (hopc : x.opc = 5) (hrun : s.runActive (i.val / 4) = true) :
    ∃ t, execSignal i c s = .next t ∧ t.tokCount (globalTok (i.val / 4) (byteAt x.entry 8)) =
      min (s.tokCount (globalTok (i.val / 4) (byteAt x.entry 8)) + byteAt x.entry 9) 65535 := by
  refine ⟨_, onStarted_of_cmd h hphase hopc _, ?_⟩
  simp only [hrun, if_true]
  split <;> exact State.tokCount_tokAdd _ _ _

end Started

/-! ### RUN (R102, R113) -/

/-- Commands, partitions, stack memory and stores are as they were: a run's plan and its streams touch none of them. -/
structure Fed (s t : State) : Prop where
  cmds : t.cmds = s.cmds
  parts : t.parts = s.parts
  mem : t.mem = s.mem
  store : t.store = s.store

section Fed
variable {s u v : State}

theorem Fed.refl (s : State) : Fed s s := ⟨rfl, rfl, rfl, rfl⟩

variable (h : Fed s u)
include h

theorem Fed.foldl {α : Type} {f : State → α → State} (l : List α) (hf : ∀ v x, Fed s v → Fed s (f v x)) : Fed s (l.foldl f u) :=
  List.foldlRecOn l f h fun v hv x _ => hf v x hv

/-- A change of other fields. -/
theorem Fed.other (hc : v.cmds = u.cmds) (hp : v.parts = u.parts) (hm : v.mem = u.mem) (hs : v.store = u.store) : Fed s v :=
  ⟨hc.trans h.cmds, hp.trans h.parts, hm.trans h.mem, hs.trans h.store⟩

theorem Fed.ungate (l : List (Nat × Nat)) : Fed s (l.foldl (fun s r => s.wr F.CLU_STATE_GATED r.2 0) u) :=
  h.foldl l fun _ _ hv => hv.other rfl rfl rfl rfl

theorem Fed.applyPlan (n : Nat) (p : Pattern) : Fed s (u.applyPlan n p) := by
  unfold State.applyPlan
  extract_lets rk put s1 s2
  have h1 : Fed s s1 := h.other rfl rfl rfl rfl
  have hput (v : State) (k c : Nat) (hv : Fed s v) : Fed s (put v k c) := hv.other rfl rfl rfl rfl
  have h2 : Fed s s2 := h1.foldl _ fun v x hv => by
    split
    · exact hv.foldl _ fun _ _ hw => hput _ _ _ hw
    · exact hv
  exact h2.foldl _ fun _ _ hv => hput _ _ _ hv

theorem Fed.feed (n : Nat) (p : Pattern) (e : Nat) : Fed s (u.feed n p e) := by
  refine h.foldl _ fun v k hv => ?_
  split
  · exact hv
  · extract_lets s1
    have h1 : Fed s s1 := hv.foldl _ fun w y hw => hw.other rfl rfl rfl rfl
    exact h1.foldl _ fun w y hw => hw.other rfl rfl rfl rfl

end Fed

section Run
variable {i : Fin 64} {c : Word} {s : State} {x : Cmd} (h : s.cmd i c.toNat = some x)
include h

/-- A RUN of a pattern and an entry that exist, with nothing held. -/
theorem execRun_effect (hphase : x.phase = .started) (hopc : x.opc = 3) (hparts : s.parts.length = 16) {p : Pattern}
    (hpat : (s.part (i.val / 4)).pats[byteAt x.entry 8]? = some p) (hentry : byteAt x.entry 9 < p.entries)
    (hheld : (s.part (i.val / 4)).held = []) :
    ∃ t, execRun i c s = .next t ∧ t.cmd i c.toNat = some { x with phase := .running } ∧
      (t.part (i.val / 4)).run = some { pat := byteAt x.entry 8, entry := byteAt x.entry 9, args := (List.range 4).map fun k => leAt x.entry (16 + 8 * k) 8 } ∧
      t.runActive (i.val / 4) = true ∧ t.mem = s.mem ∧ t.store = s.store := by
  let r : RunInfo := { pat := byteAt x.entry 8, entry := byteAt x.entry 9, args := (List.range 4).map fun k => leAt x.entry (16 + 8 * k) 8 }
  let u := s.modCmd i x.seq fun y => { y with phase := .running }
  let v := u.modPart (i.val / 4) fun q => { q with run := some r, held := [] }
  let w := (v.ranks (i.val / 4)).foldl (fun s r => s.wr F.CLU_STATE_GATED r.2 0) v
  have hexec : execRun i c s = .next ((w.applyPlan (i.val / 4) p).feed (i.val / 4) p (byteAt x.entry 9)) := by
    refine (onStarted_of_cmd h hphase hopc _).trans ?_
    simp only [hpat, if_neg (Nat.not_le.2 hentry), hheld, List.foldl_nil]
    rfl
  have hfed : Fed v ((w.applyPlan (i.val / 4) p).feed (i.val / 4) p (byteAt x.entry 9)) :=
    (((Fed.refl v).ungate _).applyPlan _ _).feed _ _ _
  have hcmd := (State.cmd_congr hfed.cmds i c.toNat).trans (State.cmd_running (s := s) h)
  have hpart : (v.part (i.val / 4)).run = some r :=
    congrArg Part.run (u.part_modPart (fun q => { q with run := some r, held := [] }) (lt_of_lt_of_eq (by omega) hparts.symm))
  refine ⟨_, hexec, hcmd, ?_, State.runActive_of_cmd hcmd hopc rfl, hfed.mem, hfed.store⟩
  rw [State.part, hfed.parts]
  exact hpart

end Run

/-! ### JOB_CLOSE (R96) -/

theorem Untouched.loseRep {s u : State} (h : Untouched s u) (n : Nat) : Untouched s (u.loseRep n) := by
  have hbeats : Untouched s { u with beats := [] } := h.other rfl rfl rfl rfl
  exact .ite (.ite ((hbeats.wr _ _ (by decide)).raise _ _ _ _ (by decide)) hbeats) h

/-- The end of a relaxation episode leaves the loans. -/
theorem State.loans_relaxEnd {s : State} {n : Nat} (hn : n < s.parts.length) : ((s.relaxEnd n).part n).loans = (s.part n).loans := by
  unfold State.relaxEnd
  extract_lets p
  split
  · have hrecord (u : State) (d : List Word) : Untouched u (u.record 14 15 0x44 n 1 d) :=
      (Untouched.refl u).logs ((OnlyLogs.refl [] u).record _ _ _ _ _ _ _) (by decide)
    rw [(hrecord _ _).part n, State.part_modPart _ _ hn]
  · rfl

/-- The loans, the episode and the beats of partition `n` have ended: what a JOB_CLOSE does before the patterns go. -/
def State.ended (s : State) (n : Nat) : State := (((s.abandon n).endLoans n).relaxEnd n).loseRep n

theorem State.ended_kept (s : State) (n : Nat) : RingKept id s (s.ended n) :=
  ((((RingKept.refl id s).abandon n).endLoans n).relaxEnd n).loseRep n

theorem State.ended_still (s : State) (n : Nat) : Still s (s.ended n) :=
  ((((Still.refl s).abandon n).endLoans n).relaxEnd n).loseRep n

theorem State.loans_ended {s : State} {n : Nat} (hn : n < s.parts.length) : ((s.ended n).part n).loans = [] := by
  have hlent : n < (s.abandon n).parts.length := by rwa [((RingKept.refl id s).abandon n).parts]
  have hrelax : n < ((s.abandon n).endLoans n).parts.length := by rwa [(((RingKept.refl id s).abandon n).endLoans n).parts]
  rw [State.ended, ((Untouched.refl _).loseRep n).part, State.loans_relaxEnd hrelax, State.loans_endLoans _ hlent]

/-- The patterns of partition `n` are discarded, its tokens are 0, and it is ASSIGNED with none. -/
def State.emptiedJob (s : State) (n : Nat) : State :=
  (((s.clearTokens n).modPart n fun p => { p with pats := [], run := none, held := [] }).wr F.ETH_PART_STATE_STATE n 1).wr
    F.ETH_PART_STATE_NPAT n 0

theorem State.emptiedJob_rest (s : State) (n : Nat) :
    (s.emptiedJob n).cmds = s.cmds ∧ (s.emptiedJob n).mem = s.mem ∧ (s.emptiedJob n).store = s.store := ⟨rfl, rfl, rfl⟩

theorem State.pstate_emptiedJob (s : State) (n : Nat) : (s.emptiedJob n).pstate n = 1 ∧ (s.emptiedJob n).rd F.ETH_PART_STATE_NPAT n = 0 :=
  ⟨(State.rd_wr_ne _ _ _ _ _ _ (by decide)).trans (State.rd_wr_same _ _ _ _ (by decide)), State.rd_wr_same _ _ _ _ (by decide)⟩

theorem State.part_emptiedJob (s : State) {n : Nat} (hn : n < s.parts.length) :
    (s.emptiedJob n).part n = { s.part n with pats := [], run := none, held := [] } :=
  State.part_modPart (s.clearTokens n) (fun p => { p with pats := [], run := none, held := [] }) hn

theorem State.closeJob_eq (s : State) (n : Nat) : s.closeJob n = (s.ended n).emptiedJob n := rfl

theorem State.closeJob_effect {s : State} {n : Nat} (hn : n < s.parts.length) :
    (s.closeJob n).pstate n = 1 ∧ (s.closeJob n).rd F.ETH_PART_STATE_NPAT n = 0 ∧ ((s.closeJob n).part n).pats = [] ∧
      ((s.closeJob n).part n).loans = [] := by
  have hparts : n < (s.ended n).parts.length := by rwa [(s.ended_kept n).parts]
  obtain ⟨hstate, hpat⟩ := (s.ended n).pstate_emptiedJob n
  rw [State.closeJob_eq, State.part_emptiedJob _ hparts]
  exact ⟨hstate, hpat, rfl, State.loans_ended hn⟩

theorem State.closeJob_rest (s : State) (n : Nat) :
    (s.closeJob n).cmds = s.cmds ∧ (s.closeJob n).mem = s.mem ∧ (s.closeJob n).store = s.store := by
  obtain ⟨hcmds, hmem, hstore⟩ := (s.ended n).emptiedJob_rest n
  exact ⟨hcmds.trans (s.ended_kept n).cmds_eq, hmem.trans (s.ended_still n).mem, hstore.trans (s.ended_still n).store⟩

theorem State.cmdEnd_rest (s : State) (i c status origin n : Nat) :
    (s.cmdEnd i c status origin).regs = s.regs ∧ (s.cmdEnd i c status origin).part n = s.part n ∧
      (s.cmdEnd i c status origin).mem = s.mem ∧ (s.cmdEnd i c status origin).store = s.store := ⟨rfl, rfl, rfl, rfl⟩

theorem execJobClose_effect {i : Fin 64} {c : Word} {s : State} {x : Cmd} (h : s.cmd i c.toNat = some x) (hphase : x.phase = .started)
    (hopc : x.opc = 7) (hparts : s.parts.length = 16) : ∃ t, execJobClose i c s = .next t ∧ t.pstate (i.val / 4) = 1 ∧
      t.rd F.ETH_PART_STATE_NPAT (i.val / 4) = 0 ∧ (t.part (i.val / 4)).pats = [] ∧ (t.part (i.val / 4)).loans = [] ∧
      t.cmd i c.toNat = some { x with phase := .ready } ∧ t.mem = s.mem ∧ t.store = s.store := by
  obtain ⟨hstate, hnpat, hpats, hloans⟩ := State.closeJob_effect (s := s) (n := i.val / 4) (by omega)
  obtain ⟨hcmds, hmem, hstore⟩ := s.closeJob_rest (i.val / 4)
  have hcmd := State.cmd_cmdEnd ((State.cmd_congr hcmds i c.toNat).trans h) hphase
  obtain ⟨hregs, hpart, hmem', hstore'⟩ := State.cmdEnd_rest (s.closeJob (i.val / 4)) i x.seq 0 0 (i.val / 4)
  have hrd (f : Fld) (n : Nat) : ((s.closeJob (i.val / 4)).cmdEnd i x.seq 0 0).rd f n = (s.closeJob (i.val / 4)).rd f n :=
    State.rd_congr (by rw [State.reg, State.reg, hregs])
  refine ⟨_, onStarted_of_cmd h hphase hopc _, (hrd _ _).trans hstate, (hrd _ _).trans hnpat, ?_, ?_, hcmd, hmem'.trans hmem,
    hstore'.trans hstore⟩
  · rw [hpart, hpats]
  · rw [hpart, hloans]

/-! ### The completion record (R122, R124) -/

theorem State.fenceStatus_seq (s : State) (x : Cmd) : (s.fenceStatus x).seq = x.seq := by
  unfold State.fenceStatus
  split
  · exact congrArg Prod.snd (x.num_note _ _)
  · split
    · exact congrArg Prod.snd (x.num_note _ _)
    · rfl

theorem State.seq_ite_fenceStatus (s : State) (x : Cmd) : (if x.isFence then s.fenceStatus x else x).seq = x.seq := by
  split
  · exact s.fenceStatus_seq x
  · rfl

/-- The command of a number leaves its ring. -/
def State.takeCmd (s : State) (i c : Nat) : State := { s with cmds := s.cmds.filter fun z => !(z.ring = i && z.seq = c) }

theorem State.takeCmd_rest (s : State) (i c : Nat) : (s.takeCmd i c).store = s.store ∧ ∀ f k, (s.takeCmd i c).rd f k = s.rd f k :=
  ⟨rfl, fun _ _ => rfl⟩

theorem State.cmd_takeCmd (s : State) (i c : Nat) : (s.takeCmd i c).cmd i c = none := by
  refine List.find?_eq_none.2 fun z hz => ?_
  simpa only [Bool.not_eq_true', Bool.not_eq_true] using (List.mem_filter.1 hz).2

theorem RingKept.noteScope {s u : State} (h : RingKept id s u) (c : Cmd) : RingKept id s (u.noteScope c) :=
  .ite (h.other rfl rfl rfl rfl) (.ite h (h.other rfl rfl rfl rfl))

theorem RingKept.keyCounts {s u : State} (h : RingKept id s u) (slot : Nat) : RingKept id s (u.keyCounts slot) :=
  (h.wr _ _ (by decide)).wr _ _ (by decide)

/-- DONE of ring `i` counts one more. -/
def State.counted (s : State) (i : Nat) : State := s.wr F.ETH_RING_DONE_COUNT i ((s.rd F.ETH_RING_DONE_COUNT i + 1) % 2 ^ 32)

theorem State.counted_rest (s : State) (i : Nat) : (s.counted i).store = s.store ∧ (s.counted i).cmds = s.cmds := ⟨rfl, rfl⟩

theorem State.rd_counted (s : State) (i : Nat) :
    (s.counted i).rd F.ETH_RING_DONE_COUNT i = (s.rd F.ETH_RING_DONE_COUNT i + 1) % 2 ^ 32 :=
  (State.rd_wr_same _ _ _ _ (by decide)).trans (Nat.mod_mod _ _)

theorem execCommandComplete_effect {i : Fin 64} {c : Word} {s : State} {x : Cmd} (h : s.cmd i c.toNat = some x)
    (hdone : s.finished x = true) : ∃ t, execCommandComplete i c s = .next t ∧ t.cmd i c.toNat = none ∧
      t.rd F.ETH_RING_DONE_COUNT i = (s.rd F.ETH_RING_DONE_COUNT i + 1) % 2 ^ 32 ∧ t.store = s.store := by
  unfold execCommandComplete
  simp -zeta only [h, hdone, if_true]
  extract_lets n y k s1 s2 s3 s4 s5 s6
  have hseq : y.seq = c.toNat := (s.seq_ite_fenceStatus x).trans (State.num_of_cmd h).2
  have h1 : RingKept id s s1 := (RingKept.refl id s).partWrite _ _ _ _
  obtain ⟨hstore, hrd⟩ := s1.takeCmd_rest i y.seq
  obtain ⟨hstore', hcmds'⟩ := s2.counted_rest i
  have h3 : RingKept id (s2.counted i) s3 := (RingKept.refl id _).noteScope y
  have h4 : RingKept id (s2.counted i) s4 := .ite (h3.modPart _ _) h3
  have h5 : RingKept id (s2.counted i) s5 := .ite ((h4.wr _ _ (by decide)).wr _ _ (by decide)) h4
  have h6 : RingKept id (s2.counted i) s6 := by
    unfold s6
    split
    · exact h5.keyCounts _
    · exact h5
  have hlast := RingKept.voteCheck (.ite (c := byteAt y.entry 1 % 2 = 1 && s6.flag F.ETH_RING_CTL_NOTIFY_EN i)
    (h6.hostNotify (s6.rd F.ETH_RING_CTL_NQP i) i y.seq) h6)
  have hcmd : s2.cmd i c.toNat = none := hseq ▸ s1.cmd_takeCmd i y.seq
  have hcount : s2.rd F.ETH_RING_DONE_COUNT i = s.rd F.ETH_RING_DONE_COUNT i := (hrd _ _).trans (h1.rd i (by decide))
  refine ⟨_, rfl, ?_, ?_, hlast.store.trans (hstore'.trans (hstore.trans h1.store))⟩
  · exact (State.cmd_congr (hlast.cmds_eq.trans hcmds') _ _).trans hcmd
  · rw [hlast.rd i (by decide), State.rd_counted, hcount]

/-- Settles O17: a started command of its code is found again by its number after the effect of its code. -/
theorem ringCommandsAndCompletion : Obligations.RingCommandsAndCompletion := by
  unfold Obligations.RingCommandsAndCompletion
  refine ⟨fun i c s x h hopc hphase => ?_, fun i c s x h hopc hphase => ?_, fun i c s x h hopc hphase => ?_,
    fun i c s x h hopc hphase => ⟨fun hrun hparts => ?_, fun hrun => ?_⟩,
    fun i c s x p h hopc hphase hparts hpat hentry hheld => ?_, fun i c s x h hopc hphase hparts => ?_, fun i c s x h hdone => ?_⟩
  · exact execCmdNop_effect h hphase hopc
  · exact execFence_effect h hphase hopc
  · exact execMark_effect h hphase hopc
  · exact execSignal_held h hphase hopc hrun hparts
  · exact execSignal_added h hphase hopc hrun
  · exact execRun_effect h hphase hopc hparts hpat hentry hheld
  · exact execJobClose_effect h hphase hopc hparts
  · exact execCommandComplete_effect h hdone

end Sys2Proof.Machine
end

section
/-! PROOFS.  A ring enabled while the management cores are down (R30, R128), against the statement on rings. -/

namespace Sys2Proof.Machine

/-- Partition 15 has one page of stack 0 from page 0 on, and the management cores are down. -/
def coresDown : State :=
  { ((State.reset.wr F.MEM_PART_SET_VALID 15 1).wr F.MEM_PART_SET_STACKS 15 1).wr F.MEM_PART_FRAMES_VALUE 15 1 with
    mgmt := { State.reset.mgmt with down := true } }

/-- A write of ETH_RING_CTL that enables a ring of 2^6 entries. -/
def enableRing : Word := 0x80000006#32

theorem fields_enableRing : fieldOf enableRing F.ETH_RING_CTL_EN = 1 ∧ fieldOf enableRing F.ETH_RING_CTL_LOG2SIZE = 6 := by decide

/-- No power-state change is under way, and ring 63 is not enabled. -/
theorem coresDown_settled : coresDown.psState ≤ psTrim ∧ coresDown.flag F.PWR_PS_STAT_PEND = false ∧
    coresDown.flag F.ETH_RING_CTL_EN 63 = false := by decide

/-- The two buffers of ring 63 lie in the memory of partition 15. -/
theorem coresDown_buffers : coresDown.inLocal 15 (coresDown.ringBase 63) (2 ^ 6 * 64) = true ∧
    coresDown.inLocal 15 (coresDown.cqBase 63) (2 ^ 6 * 32) = true := by decide

/-- No wait shows before the write; after it the ring waits for the cores. -/
theorem ringStat_coresDown : coresDown.reg .ETH_RING_STAT 63 = 0 ∧
    ((coresDown.writeRingCtl 63 enableRing).voteCheck).reg .ETH_RING_STAT 63 ≠ 0 := by decide

/-- Refutes O16: a ring that is enabled while the management cores are down waits for them, so that ETH_RING_STAT.MGMT_WAIT changes
with ETH_RING_CTL. -/
theorem not_ringDoorbellFetchAndStart : ¬ Obligations.RingDoorbellFetchAndStart := by
  unfold Obligations.RingDoorbellFetchAndStart
  rintro ⟨-, -, henable, -⟩
  obtain ⟨hen, hsize⟩ := fields_enableRing
  obtain ⟨hps, hpend, hoff⟩ := coresDown_settled
  obtain ⟨hring, hcq⟩ := coresDown_buffers
  obtain ⟨t, ht, -, -, honly⟩ := henable 63 enableRing coresDown hps hpend hoff hen (by rw [hsize]) (by rw [hsize]; decide)
    (by rw [hsize]; exact hring) (by rw [hsize]; exact hcq)
  have htaken : t = (coresDown.writeRingCtl 63 enableRing).voteCheck := Host.Outcome.next.inj ht.symm
  obtain ⟨hbefore, hafter⟩ := ringStat_coresDown
  have hkept : t.reg .ETH_RING_STAT 63 = 0 := (honly.1 .ETH_RING_STAT 63 (by decide)).trans hbefore
  exact hafter (htaken ▸ hkept)

end Sys2Proof.Machine
end

section
/-! PROOFS.  Packets taken in order and messages sent (R193, R194), the loans of frames (R152 to R155), and the statement on them. -/

namespace Sys2Proof.Machine

/-! ### What messages leave as it was -/

/-- Nothing has changed but the state of the fabric. -/
def OnlyFab (s t : State) : Prop := t = { s with fab := t.fab }

/-- The state but for the fabric, registers and what entering a record changes: all that a message changes. -/
def State.fabless (s : State) : State := { s.logless with fab := {} }

/-- Nothing has changed but the fabric, registers and what entering a record changes. -/
def OnlySent (s t : State) : Prop := t.fabless = s.fabless

section Sent
variable {s t u : State}

theorem OnlyFab.trans (h : OnlyFab s t) (h' : OnlyFab t u) : OnlyFab s u :=
  Eq.trans h' (congrArg (fun v : State => { v with fab := u.fab }) h)

theorem OnlyFab.onlySent (h : OnlyFab s t) : OnlySent s t := (congrArg State.fabless h :)

theorem OnlySent.ite {c : Prop} [Decidable c] (ht : OnlySent s t) (hu : OnlySent s u) : OnlySent s (if c then t else u) := by
  split <;> assumption

theorem OnlySent.trans (h : OnlySent s t) (h' : OnlySent t u) : OnlySent s u := Eq.trans h' h

theorem OnlySent.loansOut (h : OnlySent s t) : t.loansOut = s.loansOut := (congrArg State.loansOut h :)

theorem OnlySent.keys (h : OnlySent s t) : t.keys = s.keys := (congrArg State.keys h :)

theorem OnlySent.mem (h : OnlySent s t) : t.mem = s.mem := (congrArg State.mem h :)

theorem OnlySent.store (h : OnlySent s t) : t.store = s.store := (congrArg State.store h :)

theorem State.enqueue_onlyFab (s : State) (j : Nat) (p : Packet) (e : Bool) : OnlyFab s (s.enqueue j p e) := by
  unfold State.enqueue
  split
  · rfl
  · split <;> rfl

theorem State.sendLoose_onlyFab (s : State) (p : Packet) : OnlyFab s (s.sendLoose p) := by
  unfold State.sendLoose
  simp only
  split
  · rfl
  · exact s.enqueue_onlyFab _ _ _

theorem State.ackDue_onlyFab (s : State) (k : Nat) : OnlyFab s (s.ackDue k) := by
  unfold State.ackDue State.sendAck
  split
  · exact OnlyFab.trans (t := s.setRx k { s.rxFlow k with since := 0 }) rfl (State.sendLoose_onlyFab _ _)
  · rfl

theorem State.sendNow_onlySent (s : State) (p : Packet) : OnlySent s (s.sendNow p none) := by
  unfold State.sendNow
  simp only
  split
  · exact (congrArg (fun v : State => { v with fab := {} }) (s.logless_raise F.FAB_TR_CAUSE_NO_ROUTE 0 0 [wd p.dstMod.toNat] 0x3FF) :)
  · exact (OnlyFab.trans (t := s.setTx _ _) rfl (State.enqueue_onlyFab _ _ _ _)).onlySent

theorem State.inject_onlySent (s : State) (p : Packet) : OnlySent s (s.inject p none) := by
  have hpeer : OnlySent s ((if p.cls = 3 then s else s.addPeer p.srcPart.toNat p.dstMod.toNat).unsettle none) :=
    .ite (c := p.cls = 3) rfl rfl
  unfold State.inject
  exact .ite rfl (.ite (hpeer.trans (State.sendNow_onlySent _ _)) (hpeer.trans rfl))

theorem State.sendLend_onlySent (s : State) (dst part kind arg : Nat) : OnlySent s (s.sendLend dst part kind arg) :=
  s.inject_onlySent _

/-- A message to a flow class whose places are taken waits (R193). -/
theorem State.inject_of_full {s : State} {p : Packet} {m : Nat} (hdst : p.dstMod.toNat = m) (hcls : p.cls = 3)
    (hfull : s.full m 3 = true) : s.inject p none =
      s.setTx (flowKey m 3) { s.txFlow (flowKey m 3) with waiting := (s.txFlow (flowKey m 3)).waiting ++ [(p, none)] } := by
  rw [State.full, Bool.and_eq_true, decide_eq_true_eq, Bool.not_eq_true', List.elem_eq_mem, decide_eq_false_iff_not] at hfull
  obtain ⟨hplaces, hlost⟩ := hfull
  have hroom : decide ((s.txFlow (flowKey m 3)).unacked.length < 512) = false := decide_eq_false (Nat.not_lt.2 hplaces)
  simp [State.inject, State.unsettle, hdst, hcls, hlost, hroom]

end Sent

/-! ### A packet that its flow class takes next (R193) -/

/-- A packet has been taken in: the packets received, the links' buffers, the receiving sides of flow classes and the stalls they
await have changed alone. -/
def TakenIn (s u : State) : Prop := ∃ inbox links rx stalled,
  u = { s with fab := { s.fab with inbox := inbox, links := links, rx := rx, stalled := stalled } }

section TakenIn
variable {s u : State}

/-- What the state shows alike whatever stands in these fields. -/
theorem TakenIn.eq {α : Type} (h : TakenIn s u) (f : State → α)
    (hf : ∀ inbox links rx stalled,
      f { s with fab := { s.fab with inbox := inbox, links := links, rx := rx, stalled := stalled } } = f s) : f u = f s := by
  obtain ⟨_, _, _, _, rfl⟩ := h
  exact hf _ _ _ _

theorem TakenIn.onlySent (h : TakenIn s u) : OnlySent s u := h.eq (·.fabless) fun _ _ _ _ => rfl

theorem TakenIn.inPeloton (h : TakenIn s u) (m : Nat) : u.inPeloton m = s.inPeloton m := h.eq (·.inPeloton m) fun _ _ _ _ => rfl

theorem TakenIn.freeOffer (h : TakenIn s u) : u.freeOffer = s.freeOffer := h.eq (·.freeOffer) fun _ _ _ _ => rfl

theorem TakenIn.loanPlace (h : TakenIn s u) (n : Nat) : u.loanPlace n = s.loanPlace n := h.eq (·.loanPlace n) fun _ _ _ _ => rfl

/-- The modules reached turn on the links known alone. -/
theorem TakenIn.reach (h : TakenIn s u) : u.reach = s.reach := by
  have hnext : u.topoNext = s.topoNext := h.eq (·.topoNext) fun _ _ _ _ => rfl
  funext l n
  induction n generalizing l with
  | zero => rfl
  | succ n ih => simp only [State.reach, hnext, ih]

theorem TakenIn.pelotonBig (h : TakenIn s u) : u.pelotonBig = s.pelotonBig := by
  have hreach := h.reach
  obtain ⟨_, _, _, _, rfl⟩ := h
  rw [State.pelotonBig, State.pelotonCount, State.reachable, hreach]
  rfl

end TakenIn

/-- The awaited packet is delivered, alone where nothing is held ahead. -/
theorem RxFlow.take_next {f : RxFlow} {p : Packet} (hahead : f.ahead = []) (hpsn : p.psn.toNat = f.next) :
    (f.take p).2 = [p] := by
  have hdist : (p.psn.toNat + 65536 - f.next) % 65536 = 0 := by omega
  have hadvance : (({ f with ahead := [p] } : RxFlow).advance 512).2 = [p] := by
    simp [RxFlow.advance, hpsn]
  simp only [RxFlow.take, hdist, hahead, List.any_nil, List.nil_append]
  split
  · next h => simp at h
  · split
    · exact hadvance
    · rfl

theorem State.unbox_takenIn (s : State) (j : Nat) (p : Packet) :
    ∃ inbox links, s.unbox j p = { s with fab := { s.fab with inbox := inbox, links := links } } := by
  unfold State.unbox
  simp only
  split <;> exact ⟨_, _, rfl⟩

/-- A packet sent once only is no stall. -/
theorem State.noteStall_of_first {s : State} {p : Packet} (h : p.retx = false) (k : Nat) :
    ∃ stalled, s.noteStall k p = { s with fab := { s.fab with stalled := stalled } } := by
  unfold State.noteStall
  split
  · split
    · simp only [h, Bool.false_eq_true, if_false]
      exact ⟨_, rfl⟩
    · exact ⟨_, rfl⟩
  · exact ⟨_, rfl⟩

/-- A packet that its class takes next is handed on once, and the acknowledgement due changes the fabric alone. -/
theorem State.recvSeq_next {s : State} {p : Packet} (hnext : s.nextIn p = true) (hretx : p.retx = false) (j : Nat) :
    ∃ u, TakenIn s u ∧ ∀ (f : Packet → State → State) (v : State), f p u = v → OnlyFab v (s.recvSeq j p f) := by
  simp only [State.nextIn, Bool.and_eq_true, Bool.not_eq_true', decide_eq_true_eq, and_assoc] at hnext
  obtain ⟨hepoch, hcarries, hahead, -, hpsn⟩ := hnext
  obtain ⟨inbox, links, hunbox⟩ := s.unbox_takenIn j p
  have hdeliver := RxFlow.take_next hahead hpsn
  generalize hk : flowKey p.srcMod.toNat p.cls.toNat = k at *
  obtain ⟨stalled, hstall⟩ := (s.unbox j p).noteStall_of_first hretx k
  have hepoch' : (s.unbox j p).oldEpoch p = false := by rw [hunbox]; exact hepoch
  have hcarries' : (s.unbox j p).carriesIn p = true := by rw [hunbox]; exact hcarries
  have hflow : (s.unbox j p).rxFlow k = s.rxFlow k := by rw [hunbox]; rfl
  refine ⟨((s.unbox j p).noteStall k p).setRx k ((s.rxFlow k).take p).1, ?_, ?_⟩
  · rw [hstall, hunbox]
    exact ⟨_, _, _, _, rfl⟩
  · rintro f _ rfl
    simp only [State.recvSeq, hk, hepoch', hcarries', hflow, hdeliver, hpsn, Bool.false_eq_true, Bool.not_true, if_false, if_true,
      List.cons_ne_nil, decide_false, Bool.false_and, List.foldl_cons, List.foldl_nil]
    exact State.ackDue_onlyFab _ _

/-! ### Offers (R152) -/

theorem mem_putOffer (m f : Nat) (l : List Offer) : { module := m, frames := f } ∈ putOffer m f l := by
  simp [putOffer]

/-- An offer kept for a module displaces its offer before. -/
theorem frames_of_mem_putOffer {m f : Nat} {l : List Offer} {o : Offer} (h : o ∈ putOffer m f l) (hm : o.module = m) :
    o.frames = f := by
  have hothers : o ∉ l.filter fun o => o.module ≠ m := by simp [hm]
  simp only [putOffer, List.mem_append, List.mem_singleton] at h
  obtain (htake | rfl) | hdrop := h
  · exact absurd ((List.takeWhile_sublist _).subset htake) hothers
  · rfl
  · exact absurd ((List.dropWhile_sublist _).subset hdrop) hothers

theorem execLendOfferAdvertise_effect {m : Nat} {i : TopoMod} {s : State} (hbig : s.pelotonBig = false)
    (hmods : s.fab.mods = [(m, i)]) (hother : m ≠ s.myId) (hm : m < 4096) (hpeloton : s.inPeloton m = true)
    (hfull : s.full m 3 = true) : ∃ t q, execLendOfferAdvertise s = .next t ∧ Waits m 3 s t q ∧ q.typ = 0x13 ∧ q.tag = 0 ∧
      q.addr = BitVec.ofNat 64 s.freeOffer ∧ t = { s with fab := t.fab } := by
  have hdst : (BitVec.ofNat 12 m).toNat = m := by rw [BitVec.toNat_ofNat]; exact Nat.mod_eq_of_lt hm
  have hsent : execLendOfferAdvertise s = .next (s.sendLend m 0 0 s.freeOffer) := by
    simp [execLendOfferAdvertise, hbig, hmods, hother, hpeloton]
  have hwaits : s.sendLend m 0 0 s.freeOffer = _ := State.inject_of_full hdst rfl hfull
  refine ⟨_, { s.blank 0x13 3 m 0 0 with tag := 0, addr := BitVec.ofNat 64 s.freeOffer }, hsent, ?_, rfl, rfl, rfl, ?_⟩
  · rw [Waits, hwaits]
    exact congrArg TxFlow.waiting ((Assoc.get_set _ _ _ _ _).trans (if_pos rfl))
  · rw [hwaits]
    rfl

/-! ### Requests and returns (R153, R155) -/

/-- Slot 0 goes to the first loan given. -/
theorem loanSlot_of_none {l : List LoanOut} (h : l = []) : (List.range 32).find? (fun i => !(l.any fun x => x.slot = i)) = some 0 := by
  rw [h]; rfl

/-- The loan placed, with its base-die keys drawn, before the grant is sent. -/
def State.lent (s : State) (m part mask base per : Nat) : State :=
  let d := s.drawKey
  let s1 := { d.2 with
    loansOut := d.2.loansOut ++ [({ slot := 0, module := m, part := part, mask := mask, base := base, frames := per } : LoanOut)]
    keys := d.2.keys ++ (stacksOf mask).map fun k => ({ stack := k, loan := true, owner := 0, gen := 0, key := d.1 } : KeySlot) }
  s1.wr F.MEM_LEND_OUT_FRAMES 0 (s1.rd F.MEM_LEND_OUT_FRAMES + per * (stacksOf mask).length)

theorem State.lend_placed {s : State} {m part n mask base per : Nat} (hpeloton : s.inPeloton m = true) (hbig : s.pelotonBig = false)
    (hone : 1 ≤ n) (hfits : n ≤ s.freeOffer) (hnone : s.loansOut = []) (hplace : s.loanPlace n = some (mask, base, per)) :
    OnlySent (s.lent m part mask base per) (s.lend m part n) := by
  have hok : (s.inPeloton m && !s.pelotonBig && 1 ≤ n && n ≤ s.freeOffer) = true := by simp [hpeloton, hbig, hone, hfits]
  simp only [State.lend, hok, hplace, loanSlot_of_none hnone, if_true]
  exact State.sendLend_onlySent _ _ _ _ _

theorem State.lend_refused {s : State} {n : Nat} (h : s.freeOffer < n) (m part : Nat) : OnlySent s (s.lend m part n) := by
  have hok : (s.inPeloton m && !s.pelotonBig && 1 ≤ n && n ≤ s.freeOffer) = false := by simp [Nat.not_le.2 h]
  simp only [State.lend, hok, Bool.false_eq_true, if_false]
  generalize List.find? _ (List.range 32) = slot
  cases slot <;> exact State.sendLend_onlySent _ _ _ _ _

/-- A zero-fill runs and shows in its stack's state. -/
def ZFill.RunsIn (z : ZFill) (s : State) : Prop := z ∈ s.zfills ∧ s.flag F.MEM_STATE_ZFILL z.stack = true

/-- A zero-fill is started in each stack of the mask that has not failed (R146, R155). -/
theorem State.zeroFill_of_mem {s : State} {mask : Nat} {z : ZFill} (hk : z.stack ∈ stacksOf mask)
    (hlive : s.rd F.MEM_STATE_STATE z.stack ≠ stFailed) : z.RunsIn (s.zeroFill mask z.base z.frames z.loan z.owner) := by
  refine foldl_of_mem z.RunsIn _ ?keeps (x := z.stack) ?starts _ s ?live
  case keeps =>
    rintro v i ⟨hmem, hflag⟩
    refine ⟨List.mem_append_left _ hmem, ?_⟩
    by_cases h : z.stack = i
    · rw [h]
      exact State.flag_wr_one _ _ _ (by decide)
    · exact (State.flag_wr_idx _ _ _ _ _ _ h).trans hflag
  case starts => exact fun v => ⟨List.mem_append_right _ (List.mem_singleton_self _), State.flag_wr_one _ _ _ (by decide)⟩
  case live => exact List.mem_filter.2 ⟨hk, decide_eq_true hlive⟩

/-- The end of a loan none of whose frames is zero-filled yet, in a stack that has not failed. -/
theorem State.endLoanOut_of_live {s : State} {l : LoanOut} {k : Nat} (hfree : s.zfills = []) (hk : k ∈ stacksOf l.mask)
    (hlive : s.rd F.MEM_STATE_STATE k ≠ stFailed) : s.endLoanOut l = s.zeroFill l.mask l.base l.frames true l.slot := by
  have hsome : (stacksOf l.mask).filter (fun k => s.rd F.MEM_STATE_STATE k ≠ stFailed) ≠ [] :=
    List.ne_nil_of_mem (List.mem_filter.2 ⟨hk, decide_eq_true hlive⟩)
  rw [State.endLoanOut, hfree, if_neg (by simp)]
  exact if_neg hsome

/-! ### Packets of lending -/

section Packets
variable {j : Fin 145} {p : Packet} {s : State} (hmine : s.mine p 0x13 = true) (hnext : s.nextIn p = true) (hretx : p.retx = false)
include hmine hnext hretx

/-- An offer that comes next is kept. -/
theorem execLendOffer_of_offer (htag : p.tag = 0) (hpeloton : s.inPeloton p.srcMod.toNat = true) (hbig : s.pelotonBig = false) :
    ∃ u t, TakenIn s u ∧ execLendOffer j p s = .next t ∧
      OnlyFab { u with offers := putOffer p.srcMod.toNat p.addr.toNat u.offers } t := by
  obtain ⟨u, htaken, hdone⟩ := State.recvSeq_next hnext hretx j
  have hgoes : (s.mine p 0x13 && p.tag.toNat = 0) = true := by simp [hmine, htag]
  have hkept : (u.inPeloton p.srcMod.toNat && !u.pelotonBig) = true := by
    rw [htaken.inPeloton, htaken.pelotonBig, hpeloton, hbig]; rfl
  exact ⟨u, _, htaken, if_pos hgoes, hdone _ _ (if_pos hkept)⟩

theorem execLendOffer_effect (htag : p.tag = 0) (hpeloton : s.inPeloton p.srcMod.toNat = true) (hbig : s.pelotonBig = false) :
    ∃ t, execLendOffer j p s = .next t ∧ { module := p.srcMod.toNat, frames := p.addr.toNat } ∈ t.offers ∧
      (∀ o ∈ t.offers, o.module = p.srcMod.toNat → o.frames = p.addr.toNat) ∧ t = { s with fab := t.fab, offers := t.offers } := by
  obtain ⟨u, t, htaken, ht, hfab⟩ := execLendOffer_of_offer (j := j) hmine hnext hretx htag hpeloton hbig
  have hoffers : t.offers = putOffer p.srcMod.toNat p.addr.toNat u.offers := (congrArg State.offers hfab :)
  refine ⟨t, ht, hoffers ▸ mem_putOffer _ _ _, fun o ho => frames_of_mem_putOffer (hoffers ▸ ho), ?_⟩
  obtain ⟨_, _, _, _, rfl⟩ := htaken
  exact Eq.trans hfab (by rw [hoffers])

/-- A request that comes next is met. -/
theorem execLendRequest_of_request (htag : p.tag = 1) : ∃ u t, TakenIn s u ∧ execLendRequest j p s = .next t ∧
    OnlyFab (u.lend p.srcMod.toNat p.srcPart.toNat p.addr.toNat) t := by
  obtain ⟨u, htaken, hdone⟩ := State.recvSeq_next hnext hretx j
  have hgoes : (s.mine p 0x13 && (p.tag.toNat = 1 || p.tag.toNat = 4)) = true := by simp [hmine, htag]
  exact ⟨u, _, htaken, if_pos hgoes, hdone _ _ (if_pos (by rw [htag]; rfl))⟩

theorem execLendRequest_placed {mask base per : Nat} (htag : p.tag = 1) (hpeloton : s.inPeloton p.srcMod.toNat = true)
    (hbig : s.pelotonBig = false) (hone : 1 ≤ p.addr.toNat) (hfits : p.addr.toNat ≤ s.freeOffer) (hnone : s.loansOut = [])
    (hplace : s.loanPlace p.addr.toNat = some (mask, base, per)) : ∃ t, execLendRequest j p s = .next t ∧
      t.loansOut = [{ slot := 0, module := p.srcMod.toNat, part := p.srcPart.toNat, mask := mask, base := base, frames := per }] ∧
      (∀ k ∈ stacksOf mask, ∃ q ∈ t.keys, q.stack = k ∧ q.loan = true ∧ q.owner = 0) ∧ t.mem = s.mem ∧ t.store = s.store := by
  obtain ⟨u, t, htaken, ht, hfab⟩ := execLendRequest_of_request (j := j) hmine hnext hretx htag
  have hloans : u.loansOut = [] := (htaken.eq (·.loansOut) fun _ _ _ _ => rfl).trans hnone
  have hsent : OnlySent (u.lent p.srcMod.toNat p.srcPart.toNat mask base per) t :=
    (State.lend_placed (by rw [htaken.inPeloton, hpeloton]) (by rw [htaken.pelotonBig, hbig]) hone (by rw [htaken.freeOffer]; exact hfits)
      hloans (by rw [htaken.loanPlace, hplace])).trans hfab.onlySent
  refine ⟨t, ht, ?_, fun k hk => ?_, ?_, ?_⟩
  · exact hsent.loansOut.trans (congrArg (· ++ _) hloans)
  · rw [hsent.keys]
    exact ⟨_, List.mem_append_right _ (List.mem_map_of_mem hk), rfl, rfl, rfl⟩
  · exact hsent.mem.trans htaken.onlySent.mem
  · exact hsent.store.trans htaken.onlySent.store

theorem execLendRequest_refused (htag : p.tag = 1) (hover : s.freeOffer < p.addr.toNat) :
    ∃ t, execLendRequest j p s = .next t ∧ t.loansOut = s.loansOut ∧ t.keys = s.keys ∧ t.mem = s.mem ∧ t.store = s.store := by
  obtain ⟨u, t, htaken, ht, hfab⟩ := execLendRequest_of_request (j := j) hmine hnext hretx htag
  have hsent : OnlySent s t := htaken.onlySent.trans
    ((State.lend_refused (by rw [htaken.freeOffer]; exact hover) _ _).trans hfab.onlySent)
  exact ⟨t, ht, hsent.loansOut, hsent.keys, hsent.mem, hsent.store⟩

/-- A return that comes next ends the loan. -/
theorem execLendRequest_of_return {l : LoanOut} (htag : p.tag = 4)
    (hloan : s.loansOut.find? (fun l => l.slot = p.addr.toNat && l.module = p.srcMod.toNat) = some l) :
    ∃ u t, TakenIn s u ∧ execLendRequest j p s = .next t ∧ OnlyFab (u.endLoanOut l) t := by
  obtain ⟨u, htaken, hdone⟩ := State.recvSeq_next hnext hretx j
  have hgoes : (s.mine p 0x13 && (p.tag.toNat = 1 || p.tag.toNat = 4)) = true := by simp [hmine, htag]
  have hloans : u.loansOut = s.loansOut := htaken.eq (·.loansOut) fun _ _ _ _ => rfl
  exact ⟨u, _, htaken, if_pos hgoes, hdone _ _ ((if_neg (by rw [htag]; decide)).trans (by rw [hloans, hloan]))⟩

theorem execLendRequest_returned {l : LoanOut} {k : Nat} (htag : p.tag = 4)
    (hloan : s.loansOut.find? (fun l => l.slot = p.addr.toNat && l.module = p.srcMod.toNat) = some l) (hfree : s.zfills = [])
    (hk : k ∈ stacksOf l.mask) (hlive : s.rd F.MEM_STATE_STATE k ≠ stFailed) : ∃ t, execLendRequest j p s = .next t ∧
      { stack := k, base := l.base, frames := l.frames, loan := true, owner := l.slot } ∈ t.zfills ∧
      t.flag F.MEM_STATE_ZFILL k = true := by
  obtain ⟨u, t, htaken, ht, hfab⟩ := execLendRequest_of_return (j := j) hmine hnext hretx htag hloan
  have hfills : u.zfills = [] := (htaken.eq (·.zfills) fun _ _ _ _ => rfl).trans hfree
  have hstate : u.rd F.MEM_STATE_STATE k ≠ stFailed := by
    rwa [htaken.eq (·.rd F.MEM_STATE_STATE k) fun _ _ _ _ => rfl]
  rw [State.endLoanOut_of_live hfills hk hstate] at hfab
  obtain ⟨hmem, hflag⟩ := State.zeroFill_of_mem (z := { stack := k, base := l.base, frames := l.frames, loan := true, owner := l.slot })
    hk hstate
  have hzfills : t.zfills = _ := (congrArg State.zfills hfab :)
  exact ⟨t, ht, hzfills ▸ hmem, (congrArg (·.flag F.MEM_STATE_ZFILL k) hfab).trans hflag⟩

/-! ### Grants (R153) -/

/-- A grant that comes next, of the one lender asked, is kept. -/
theorem execLendGrant_of_grant {a : LendAsk} {b : Nat × Nat × Option Nat} (htag : p.tag = 2) (hasks : s.asks = [a])
    (hpart : a.part = p.srcPart.toNat) (hask : a.asks = [b]) (hlender : b.1 = p.srcMod.toNat) (hopen : b.2.2 = none) :
    ∃ u t, TakenIn s u ∧ execLendGrant j p s = .next t ∧
      OnlyFab { u with asks := [{ a with asks := [(b.1, b.2.1, some (p.addr.toNat % 32))] }] } t := by
  obtain ⟨u, htaken, hdone⟩ := State.recvSeq_next hnext hretx j
  have hgoes : (s.mine p 0x13 && (p.tag.toNat = 2 || p.tag.toNat = 3 || p.tag.toNat = 5)) = true := by simp [hmine, htag]
  have hwaits : u.asks = [a] := (htaken.eq (·.asks) fun _ _ _ _ => rfl).trans hasks
  exact ⟨u, _, htaken, if_pos hgoes, hdone _ _ (by simp [htag, hwaits, hpart, hask, hlender, hopen])⟩

theorem execLendGrant_effect {a : LendAsk} {b : Nat × Nat × Option Nat} (htag : p.tag = 2) (hasks : s.asks = [a])
    (hpart : a.part = p.srcPart.toNat) (hask : a.asks = [b]) (hlender : b.1 = p.srcMod.toNat) (hopen : b.2.2 = none) :
    ∃ t, execLendGrant j p s = .next t ∧ t.asks = [{ a with asks := [(b.1, b.2.1, some (p.addr.toNat % 32))] }] ∧
      t = { s with fab := t.fab, asks := t.asks } := by
  obtain ⟨u, t, htaken, ht, hfab⟩ := execLendGrant_of_grant (j := j) hmine hnext hretx htag hasks hpart hask hlender hopen
  have hgranted : t.asks = [{ a with asks := [(b.1, b.2.1, some (p.addr.toNat % 32))] }] := (congrArg State.asks hfab :)
  refine ⟨t, ht, hgranted, ?_⟩
  obtain ⟨_, _, _, _, rfl⟩ := htaken
  exact Eq.trans hfab (by rw [hgranted])

end Packets

/-- Settles O28: a packet of lending is handed on once, and what is sent for it changes neither loans nor keys nor memories. -/
theorem framesLentAndBorrowed : Obligations.FramesLentAndBorrowed := by
  unfold Obligations.FramesLentAndBorrowed
  refine ⟨?advertise, ?big, ?offer, ?placed, ?refused, ?returned, ?granted⟩
  case advertise => exact fun m i s hbig hmods hother hm hpeloton hfull => execLendOfferAdvertise_effect hbig hmods hother hm hpeloton hfull
  case big => exact fun s hbig => if_pos hbig
  case offer =>
    exact fun j p s hmine htag hnext hretx hpeloton hbig => execLendOffer_effect hmine hnext hretx htag hpeloton hbig
  case placed =>
    rintro j p s _ mask base per hmine htag hnext hretx rfl hpeloton hbig hone hfits hnone hplace
    exact execLendRequest_placed hmine hnext hretx htag hpeloton hbig hone hfits hnone hplace
  case refused => exact fun j p s hmine htag hnext hretx hover => execLendRequest_refused hmine hnext hretx htag hover
  case returned =>
    exact fun j p s l k hmine htag hnext hretx hloan hfree hk hlive =>
      execLendRequest_returned hmine hnext hretx htag hloan hfree hk hlive
  case granted =>
    exact fun j p s a b hmine htag hnext hretx hasks hpart hask hlender hopen =>
      execLendGrant_effect hmine hnext hretx htag hasks hpart hask hlender hopen

end Sys2Proof.Machine
end

section
/-! PROOFS.  Lines of the stacks read and written, and the conversion of a page (R134 to R142), and the statement on them. -/

namespace Sys2Proof.Machine

/-! ### Bytes of a stack -/

theorem Assoc.get_put {β : Type} (d : β) (m : List (Nat × β)) (k j : Nat) (v : β) :
    Assoc.get d (Assoc.put m k v) j = if j = k then v else Assoc.get d m j := by
  rw [Assoc.put, Assoc.get_insert d _ k j v fun e he => ((Assoc.mem_erase m k e).1 he).2, Assoc.get_erase]
  split <;> rfl

/-- Keys of bytes at addresses within a stack tell stack and address. -/
theorem memKey_inj {q k a b : Nat} (ha : a < 2 ^ 37) (hb : b < 2 ^ 37) : memKey q a = memKey k b ↔ q = k ∧ a = b := by
  rw [memKey, memKey, Nat.mod_eq_of_lt ha, Nat.mod_eq_of_lt hb]
  omega

theorem getElem?_natLE (n v i : Nat) (h : i < n) : (natLE n v)[i]? = some (BitVec.ofNat 8 (v / 256 ^ i)) := by
  induction n generalizing v i with
  | zero => exact absurd h (Nat.not_lt_zero i)
  | succ n ih =>
    cases i with
    | zero => simp [natLE]
    | succ i => rw [natLE, List.getElem?_cons_succ, ih _ i (Nat.lt_of_succ_lt_succ h), Nat.div_div_eq_div_mul, Nat.pow_succ']

/-- One byte of a line put, unless it is masked out. -/
def putByte (k a : Nat) (m : List Host.Cell) (x : Option Byte × Nat) : List Host.Cell :=
  match x.1 with
  | some b => Assoc.set 0 m (memKey k (a + x.2)) b
  | none => m

theorem State.mem_memPut (s : State) (k a : Nat) (l : List (Option Byte)) :
    (s.memPut k a l).mem = l.zipIdx.foldl (putByte k a) s.mem := rfl

theorem get_putByte (k a key : Nat) (m : List Host.Cell) (x : Option Byte × Nat) : Assoc.get 0 (putByte k a m x) key =
    if key = memKey k (a + x.2) then x.1.getD (Assoc.get 0 m key) else Assoc.get 0 m key := by
  obtain ⟨_ | b, i⟩ := x
  · simp [putByte]
  · exact Assoc.get_set 0 m _ _ b

/-- Bytes put leave those of other keys. -/
theorem get_putBytes_of_ne {k a key : Nat} (l : List (Option Byte)) (n : Nat) (m : List Host.Cell)
    (h : ∀ i, n ≤ i → i < n + l.length → key ≠ memKey k (a + i)) :
    Assoc.get 0 ((l.zipIdx n).foldl (putByte k a) m) key = Assoc.get 0 m key := by
  induction l generalizing n m with
  | nil => rfl
  | cons x l ih =>
    rw [List.length_cons] at h
    rw [List.zipIdx_cons, List.foldl_cons, ih _ _ fun i hi hl => h i (by omega) (by omega), get_putByte,
      if_neg (h n (Nat.le_refl n) (by omega))]

/-- The byte put at a place within a stack is the one there, or the byte before where it is masked out. -/
theorem get_putBytes {k a i : Nat} {o : Option Byte} (l : List (Option Byte)) (n : Nat) (m : List Host.Cell) (ho : l[i]? = some o)
    (hend : a + n + l.length ≤ 2 ^ 37) : Assoc.get 0 ((l.zipIdx n).foldl (putByte k a) m) (memKey k (a + n + i)) =
      o.getD (Assoc.get 0 m (memKey k (a + n + i))) := by
  induction l generalizing n m i with
  | nil => simp at ho
  | cons x l ih =>
    rw [List.length_cons] at hend
    have hlen := (List.getElem?_eq_some_iff.1 ho).1
    rw [List.length_cons] at hlen
    have hkey (j : Nat) (hj : j ≤ n + l.length) : memKey k (a + n + i) = memKey k (a + j) ↔ n + i = j := by
      rw [memKey_inj (by omega) (by omega)]
      omega
    rw [List.zipIdx_cons, List.foldl_cons]
    cases i with
    | zero =>
      obtain rfl : x = o := Option.some.inj ho
      rw [get_putBytes_of_ne l _ _ fun j hj hl => mt (hkey j (by omega)).1 (by omega), get_putByte, if_pos ((hkey n (by omega)).2 rfl)]
    | succ i =>
      have hrest := ih (i := i) (n + 1) (putByte k a m (x, n)) ho (by omega)
      rw [show a + (n + 1) + i = a + n + (i + 1) by omega] at hrest
      rw [hrest, get_putByte, if_neg (mt (hkey n (by omega)).1 (by omega))]

/-- A byte of a page that holds data is the one stored. -/
theorem State.memByte_of_data {s : State} {k a : Nat} (hframe : a / 65536 < metaFrame) (hdata : (s.page k (a / 65536)).data = true) :
    s.memByte k a = Assoc.get 0 s.mem (memKey k a) := by
  rw [State.memByte, if_neg (Nat.not_le.2 hframe), if_pos hdata]

/-- A byte reads as before where the same is stored under its key and nothing else has changed but the marks of poison. -/
theorem State.memByte_congr {s t : State} {k a : Nat} (ht : t = { s with mem := t.mem, memPoison := t.memPoison })
    (hget : Assoc.get 0 t.mem (memKey k a) = Assoc.get 0 s.mem (memKey k a)) : t.memByte k a = s.memByte k a := by
  have hmeta : t.metaByte k a = s.metaByte k a := (congrArg (·.metaByte k a) ht :)
  have hpage : t.page k (a / 65536) = s.page k (a / 65536) := (congrArg (·.page k (a / 65536)) ht :)
  rw [State.memByte, State.memByte, hmeta, hpage, hget]

/-- Registers of the partitions' ranges, by which a frame's owner is found (R133). -/
def rangeRegs : List Reg := [.MEM_PART_SET, .MEM_PART_BASE, .MEM_PART_FRAMES]

/-- What a stack reads does not turn on what entering a record changes, nor on registers but those of the partitions' ranges. -/
theorem State.memByte_of_onlyLogs {s t : State} {rs : List Reg} (h : OnlyLogs rs s t)
    (hrs : ∀ r ∈ rangeRegs, r ∉ rs ++ recRegs) (k a : Nat) : t.memByte k a = s.memByte k a := by
  have hrd (f : Fld) (hf : f.reg ∈ rangeRegs) (n : Nat) : t.rd f n = s.rd f n :=
    State.rd_congr (h.1 _ n (hrs _ hf))
  have hset (n : Nat) : t.stackSet n = s.stackSet n := by
    rw [State.stackSet, State.stackSet, State.flag, State.flag, hrd _ (by decide), hrd _ (by decide)]
  have howner (f : Nat) : t.frameOwner k f = s.frameOwner k f := by
    simp only [State.frameOwner, hset, hrd F.MEM_PART_BASE_VALUE (by decide), hrd F.MEM_PART_FRAMES_VALUE (by decide)]
  have hpage (f : Nat) : t.page k f = s.page k f := (congrArg (·.page k f) h.2 :)
  have hloan (f : Nat) : t.frameLoan k f = s.frameLoan k f := (congrArg (·.frameLoan k f) h.2 :)
  have hfilled : t.filled k = s.filled k := (congrArg (·.filled k) h.2 :)
  have hmeta (f : Nat) : t.pageMeta k f = s.pageMeta k f := by
    rw [State.pageMeta, State.pageMeta, howner, hpage, hloan, hfilled]
  have hmem : t.mem = s.mem := (congrArg State.mem h.2 :)
  rw [State.memByte, State.memByte, State.metaByte, State.metaByte, hmeta, hpage, hmem]

/-! ### A line written (R136) -/

theorem State.memLine_poisoned (s : State) (k a : Nat) (l : List (Option Byte)) : s.memLine k a l true = s.setMemPoison k a true := rfl

/-- A write to a line changes bytes and marks of poison alone. -/
theorem State.memLine_eq (s : State) (k a : Nat) (l : List (Option Byte)) (p : Bool) :
    s.memLine k a l p = { s with mem := (s.memLine k a l p).mem, memPoison := (s.memLine k a l p).memPoison } := by
  unfold State.memLine
  simp only
  split
  · rfl
  · split <;> rfl

theorem State.page_memLine (s : State) (k a : Nat) (l : List (Option Byte)) (p : Bool) : (s.memLine k a l p).page = s.page :=
  (congrArg State.page (s.memLine_eq k a l p) :)

/-- Clean data is put where no poison stands. -/
theorem State.mem_memLine {s : State} {k a : Nat} (h : s.memLinePoison k a = false) (l : List (Option Byte)) :
    (s.memLine k a l false).mem = l.zipIdx.foldl (putByte k a) s.mem := by
  simp [State.memLine, h, State.mem_memPut]

/-- The bytes of a write, those masked out as none. -/
def lineBytes (d : BitVec 512) (m : BitVec 64) : List (Option Byte) :=
  (natLE 64 d.toNat).zipIdx.map fun x => if m.getLsbD x.2 then some x.1 else none

theorem length_lineBytes (d : BitVec 512) (m : BitVec 64) : (lineBytes d m).length = 64 := by
  simp [lineBytes, length_natLE]

theorem getElem?_lineBytes (d : BitVec 512) (m : BitVec 64) {i : Nat} (h : i < 64) :
    (lineBytes d m)[i]? = some (if m.getLsbD i then some (BitVec.ofNat 8 (d.toNat / 256 ^ i)) else none) := by
  simp [lineBytes, getElem?_natLE _ _ _ h]

/-- A page that needs no conversion holds data. -/
theorem State.data_of_not_needsConv {s : State} {k f : Nat} (h : s.needsConv k f = false) : (s.page k f).data = true := by
  rw [State.needsConv, Bool.or_eq_false_iff, Bool.not_eq_false'] at h
  exact h.1

/-- A marked line of a page that holds data reads as poison. -/
theorem State.memLinePoison_setMemPoison {s : State} {k a : Nat} (h : (s.page k (a / 65536)).data = true) (b : Bool) :
    (s.setMemPoison k a b).memLinePoison k a = b := by
  have hget : Assoc.get false (s.setMemPoison k a b).memPoison (memKey k a / 64) = b := (Assoc.get_set _ _ _ _ _).trans (if_pos rfl)
  have hpage : (s.setMemPoison k a b).page k (a / 65536) = s.page k (a / 65536) := rfl
  rw [State.memLinePoison, hget, hpage, h, Bool.true_and]

/-- The bytes of a line once it is written. -/
theorem State.memByte_memLine {s : State} {k line b : Nat} (hline : line < 2 ^ 31) (hframe : line / 1024 < metaFrame)
    (hdata : (s.page k (line * 64 / 65536)).data = true) (hsound : s.memLinePoison k (line * 64) = false) (d : BitVec 512) (m : BitVec 64)
    (hb : b < 64) : (s.memLine k (line * 64) (lineBytes d m) false).memByte k (line * 64 + b) =
      if m.getLsbD b then BitVec.ofNat 8 (d.toNat / 256 ^ b) else s.memByte k (line * 64 + b) := by
  have hsame : (line * 64 + b) / 65536 = line * 64 / 65536 := by omega
  have hbelow : (line * 64 + b) / 65536 < metaFrame := by omega
  have hput := get_putBytes (k := k) (a := line * 64) (lineBytes d m) 0 s.mem (getElem?_lineBytes d m hb)
    (by rw [length_lineBytes]; omega)
  rw [Nat.add_zero] at hput
  rw [State.memByte_of_data hbelow (by rw [State.page_memLine, hsame, hdata]), State.memByte_of_data hbelow (by rw [hsame, hdata]),
    State.mem_memLine hsound, hput]
  split <;> rfl

/-- A line written leaves every byte of other lines. -/
theorem State.memByte_memLine_of_ne {s : State} {k q line a : Nat} (hline : line < 2 ^ 31) (ha : a < 2 ^ 37)
    (hsound : s.memLinePoison k (line * 64) = false) (d : BitVec 512) (m : BitVec 64) (hother : q ≠ k ∨ a / 64 ≠ line) :
    (s.memLine k (line * 64) (lineBytes d m) false).memByte q a = s.memByte q a := by
  refine State.memByte_congr (s.memLine_eq _ _ _ _) ?_
  rw [State.mem_memLine hsound]
  refine get_putBytes_of_ne (lineBytes d m) 0 s.mem fun i _ hi => ?_
  rw [length_lineBytes] at hi
  rw [Ne, memKey_inj ha (by omega)]
  omega

/-- An access that waits changes conversions and row copies alone. -/
theorem State.waitMem_eq (s : State) (k a : Nat) (w : Option (List (Option Byte) × Bool)) :
    s.waitMem k a w = { s with convs := (s.waitMem k a w).convs, rowCopies := (s.waitMem k a w).rowCopies } := by
  unfold State.waitMem
  split <;> rfl

/-! ### Packets and errors (R131, R135 to R138) -/

/-- A packet that comes at its first try is no repeat. -/
theorem State.packetTries_zero (s : State) (k : Nat) : s.packetTries k 0 = s := rfl

/-- One to eight failed tries are repeated and raise LINK. -/
theorem State.packetTries_of_repeat {crc : Fin 10} (hone : 1 ≤ crc.val) (hfew : crc.val ≤ 8) (s : State) (k : Nat) :
    s.packetTries k crc = s.raise F.MEM_CAUSE_LINK k := by
  rw [State.packetTries, if_neg (by omega)]
  exact if_neg (by omega)

/-- The data of stores and stacks and what the module has sent are as they were. -/
structure DataKept (s t : State) : Prop where
  mem : t.mem = s.mem
  store : t.store = s.store
  out : t.out = s.out

section DataKept
variable {s t u v : State}

theorem DataKept.refl (s : State) : DataKept s s := ⟨rfl, rfl, rfl⟩

theorem DataKept.ite {c : Prop} [Decidable c] (hu : DataKept s u) (hv : DataKept s v) : DataKept s (if c then u else v) := by
  split <;> assumption

variable (h : DataKept s u)
include h

/-- A change of other fields. -/
theorem DataKept.other (hm : v.mem = u.mem) (hs : v.store = u.store) (ho : v.out = u.out) : DataKept s v :=
  ⟨hm.trans h.mem, hs.trans h.store, ho.trans h.out⟩

theorem DataKept.wr (f : Fld) (i w : Nat) : DataKept s (u.wr f i w) := h.other rfl rfl rfl

theorem DataKept.raise (f : Fld) (i sev : Nat) (d : List Word) (m : Nat) : DataKept s (u.raise f i sev d m) :=
  have hlog := u.logless_raise f i sev d m
  h.other (congrArg State.mem hlog :) (congrArg State.store hlog :) (congrArg State.out hlog :)

theorem DataKept.spareRow (x : StackHit) : DataKept s (u.spareRow x) := .ite h (h.other rfl rfl rfl)

theorem DataKept.stackUE (x : StackHit) : DataKept s (u.stackUE x) := by
  unfold State.stackUE
  extract_lets k a s0 s1 s2
  have h0 : DataKept s s0 := .ite (u := u.setMemPoison k a true) (h.other rfl rfl rfl) h
  have h1 : DataKept s s1 := h0.wr _ _ _
  have h2 : DataKept s s2 := .ite h1 (((h1.wr _ _ _).wr _ _ _).wr _ _ _)
  exact (h2.raise _ _ _ _ _).spareRow x

theorem DataKept.stackCE (x : StackHit) : DataKept s (u.stackCE x) := by
  unfold State.stackCE
  extract_lets k f p s1 s2 th
  have h1 : DataKept s s1 := h.other rfl rfl rfl
  have h2 : DataKept s s2 := (h1.wr _ _ _).raise _ _ _ _ _
  exact .ite (h2.spareRow x) h2

end DataKept

/-- Errors of at most two symbols are corrected or detected, and change no data. -/
theorem State.stackHits_kept {l : List StackHit} (hl : ∀ x ∈ l, x.symbols.val ≤ 2) (s : State) : DataKept s (s.stackHits l) := by
  refine List.foldlRecOn l _ (DataKept.refl s) fun u hu x hx => ?_
  have hfew := hl x hx
  rw [State.stackHit]
  split
  · exact hu
  · split
    · exact hu.stackCE x
    · rw [if_pos (by omega)]
      exact hu.stackUE x

/-! ### STACK_READ (R136, R142) -/

/-- The answer to a line read: its bytes, and whether it is poison. -/
def State.answerLine (s : State) (k a : Nat) (poison : Bool) : State := s.emit (.stackLine k a (s.memBytes k a 64) poison)

/-- The answer to a read of a line as it stands. -/
def State.answerRead (s : State) (k a : Nat) : State := s.answerLine k a (s.memLinePoison k a)

/-- The answer to a read does not turn on what entering a record changes. -/
theorem OnlyLogs.logless_answerRead {s t : State} {rs : List Reg} (h : OnlyLogs rs s t)
    (hrs : ∀ r ∈ rangeRegs, r ∉ rs ++ recRegs) (k a : Nat) :
    (t.answerRead k a).logless = (s.answerRead k a).logless := by
  have hbytes : t.memBytes k a 64 = s.memBytes k a 64 := List.map_congr_left fun i _ => State.memByte_of_onlyLogs h hrs k (a + i)
  have hpoison : t.memLinePoison k a = s.memLinePoison k a := (congrArg (·.memLinePoison k a) h.2 :)
  have hanswer := congrArg (·.emit (.stackLine k a (s.memBytes k a 64) (s.memLinePoison k a))) h.2
  rw [State.answerRead, State.answerLine, hbytes, hpoison]
  exact hanswer

section Access
variable {k : Fin 8} {line : BitVec 31} {s : State}

/-- A read of a failed stack returns poison. -/
theorem execStackRead_of_failed (hfailed : s.rd F.MEM_STATE_STATE k = stFailed) (crc : Fin 10) (h : List StackHit) :
    execStackRead k line crc h s = .next (s.answerLine k (line.toNat * 64) true) := by
  simp only [execStackRead, hfailed, if_true]
  rfl

section Live
variable (hlive : s.rd F.MEM_STATE_STATE k ≠ stFailed)
include hlive

theorem execStackRead_of_waits (hwaits : s.accessWaits k (line.toNat * 64) = true) (h : List StackHit) :
    execStackRead k line 0 h s = .next (s.waitMem k (line.toNat * 64) none) := by
  simp only [execStackRead, State.packetTries_zero, hlive, hwaits, if_true, if_false]

/-- A line that nothing holds up is answered as it stands after the tries of its packet and the errors met. -/
theorem execStackRead_of_clear {u : State} {crc : Fin 10} (hu : s.packetTries k crc = u) (hstate : u.rd F.MEM_STATE_STATE k ≠ stFailed)
    (hclear : u.accessWaits k (line.toNat * 64) = false) (h : List StackHit) : execStackRead k line crc h s =
      .next ((u.stackHits (h.filter fun x => x.stack = k ∧ x.addr.toNat / 64 = line.toNat)).answerRead k (line.toNat * 64)) := by
  simp only [execStackRead, hlive, if_false, hu, hstate, hclear, Bool.false_eq_true]
  rfl

theorem execStackRead_effect (hclear : s.accessWaits k (line.toNat * 64) = false) {h : List StackHit}
    (hfew : ∀ x ∈ h, x.symbols.val ≤ 2) : ∃ t, execStackRead k line 0 h s = .next t ∧ t.mem = s.mem ∧ t.store = s.store ∧
      t.out = s.out ++ [.stackLine k (line.toNat * 64) (t.memBytes k (line.toNat * 64) 64) (t.memLinePoison k (line.toNat * 64))] := by
  have hkept : DataKept s (s.stackHits (h.filter fun x => x.stack = k ∧ x.addr.toNat / 64 = line.toNat)) :=
    State.stackHits_kept (fun x hx => hfew x (List.mem_of_mem_filter hx)) s
  exact ⟨_, execStackRead_of_clear hlive (State.packetTries_zero s k) hlive hclear h, hkept.mem, hkept.store,
    congrArg (· ++ _) hkept.out⟩

/-- A packet that was repeated is answered as at its first try, and LINK is raised. -/
theorem execStackRead_of_repeat (hclear : s.accessWaits k (line.toNat * 64) = false) {crc : Fin 10} (hone : 1 ≤ crc.val)
    (hfew : crc.val ≤ 8) : ∃ t, execStackRead k line crc [] s = .next t ∧ t.flag F.MEM_CAUSE_LINK k = true ∧
      OnlyLogs [.MEM_CAUSE] (s.answerRead k (line.toNat * 64)) t := by
  have hlog : OnlyLogs [.MEM_CAUSE] s (s.raise F.MEM_CAUSE_LINK k) := (OnlyLogs.refl _ s).raise _ _ _ _ _ (by decide)
  have hflag := s.flag_raise_same F.MEM_CAUSE_LINK k 0 [] 0x3FF (by decide)
  have htries := s.packetTries_of_repeat hone hfew k
  generalize s.raise F.MEM_CAUSE_LINK k = u at hlog hflag htries
  have hstate : u.rd F.MEM_STATE_STATE k ≠ stFailed := by rwa [State.rd_congr (hlog.1 _ _ (by decide))]
  have hopen : u.accessWaits k (line.toNat * 64) = false := (congrArg (·.accessWaits k (line.toNat * 64)) hlog.2 :).trans hclear
  have hread : execStackRead k line crc [] s = .next (u.answerRead k (line.toNat * 64)) :=
    execStackRead_of_clear hlive htries hstate hopen []
  exact ⟨_, hread, hflag, hlog.1, hlog.logless_answerRead (by decide) k _⟩

/-! ### STACK_WRITE (R136, R142) -/

theorem execStackWrite_of_waits (hwaits : s.accessWaits k (line.toNat * 64) = true) (d : BitVec 512) (m : BitVec 64) (p : Bool) :
    ∃ t, execStackWrite k line d m p 0 s = .next t ∧ t = { s with convs := t.convs, rowCopies := t.rowCopies } := by
  simp only [execStackWrite, State.packetTries_zero, hlive, hwaits, if_true, if_false, decide_false, Bool.false_or]
  split
  · exact ⟨s, rfl, rfl⟩
  · exact ⟨_, rfl, State.waitMem_eq _ _ _ _⟩

section Clear
variable (hframe : line.toNat / 1024 < metaFrame) (hclear : s.accessWaits k (line.toNat * 64) = false)
include hframe hclear

/-- A write to a page that needs none converts nothing; another starts a conversion. -/
theorem execStackWrite_of_clear (d : BitVec 512) (m : BitVec 64) (p : Bool) : execStackWrite k line d m p 0 s =
    if s.needsConv k (line.toNat * 64 / 65536) then
      .next { s with convs := s.convs ++ [⟨k, line.toNat * 64 / 65536, s.writeGen k (line.toNat * 64 / 65536),
        [(line.toNat * 64, some (lineBytes d m, p))]⟩] }
    else .next (s.memLine k (line.toNat * 64) (lineBytes d m) p) := by
  have hbelow : ¬ metaFrame ≤ line.toNat * 64 / 65536 := by omega
  simp only [execStackWrite, State.packetTries_zero, hlive, hclear, hbelow, if_false, decide_false, Bool.false_or, Bool.false_eq_true]
  rfl

theorem execStackWrite_converts (hconv : s.needsConv k (line.toNat * 64 / 65536) = true) (d : BitVec 512) (m : BitVec 64) (p : Bool) :
    ∃ t c, execStackWrite k line d m p 0 s = .next t ∧ t.convs = s.convs ++ [c] ∧ c.stack = k.val ∧
      c.frame = line.toNat * 64 / 65536 ∧ c.ops.length = 1 ∧ t = { s with convs := t.convs } :=
  ⟨_, _, (execStackWrite_of_clear hlive hframe hclear d m p).trans (if_pos hconv), rfl, rfl, rfl, rfl, rfl⟩

variable (hconv : s.needsConv k (line.toNat * 64 / 65536) = false)
include hconv

theorem execStackWrite_poisons (d : BitVec 512) (m : BitVec 64) : ∃ t, execStackWrite k line d m true 0 s = .next t ∧
    t.memLinePoison k (line.toNat * 64) = true ∧ t = { s with memPoison := t.memPoison } := by
  have hwrite := (execStackWrite_of_clear hlive hframe hclear d m true).trans (if_neg (by rw [hconv]; decide))
  refine ⟨_, hwrite, ?_, rfl⟩
  rw [State.memLine_poisoned, State.memLinePoison_setMemPoison]
  exact State.data_of_not_needsConv hconv

theorem execStackWrite_effect (hsound : s.memLinePoison k (line.toNat * 64) = false) (d : BitVec 512) (m : BitVec 64) :
    ∃ t, execStackWrite k line d m false 0 s = .next t ∧
      (∀ b < 64, t.memByte k (line.toNat * 64 + b) =
        if m.getLsbD b then BitVec.ofNat 8 (d.toNat / 256 ^ b) else s.memByte k (line.toNat * 64 + b)) ∧
      (∀ q : Fin 8, ∀ a < 2 ^ 37, (q ≠ k ∨ a / 64 ≠ line.toNat) → t.memByte q a = s.memByte q a) ∧
      t = { s with mem := t.mem, memPoison := t.memPoison } := by
  have hwrite := (execStackWrite_of_clear hlive hframe hclear d m false).trans (if_neg (by rw [hconv]; decide))
  refine ⟨_, hwrite, fun b hb => ?_, fun q a ha hother => ?_, s.memLine_eq _ _ _ _⟩
  · exact State.memByte_memLine line.isLt hframe (State.data_of_not_needsConv hconv) hsound d m hb
  · exact State.memByte_memLine_of_ne line.isLt ha hsound d m (hother.imp_left (mt Fin.ext))

end Clear

end Live

/-- The metadata frames are the base die's own, and nothing is written to a failed stack. -/
theorem execStackWrite_of_barred (hbarred : metaFrame ≤ line.toNat / 1024 ∨ s.rd F.MEM_STATE_STATE k = stFailed) (d : BitVec 512)
    (m : BitVec 64) (p : Bool) : execStackWrite k line d m p 0 s = .next s := by
  have hstop : (decide (s.rd F.MEM_STATE_STATE k = stFailed) || decide (metaFrame ≤ line.toNat * 64 / 65536)) = true := by
    rw [Bool.or_eq_true, decide_eq_true_eq, decide_eq_true_eq]
    omega
  simp only [execStackWrite, State.packetTries_zero, ite_self, hstop, if_true]

end Access

/-! ### A conversion ends (R142, R143) -/

/-- The state but for registers, keys and what entering a record changes: all that counting a partition's old pages changes. -/
def State.keyless (s : State) : State := { s.logless with keys := [] }

theorem State.keyless_wr (s : State) (f : Fld) (i v : Nat) : (s.wr f i v).keyless = s.keyless := rfl

theorem State.keyless_of_onlyLogs {s t : State} {rs : List Reg} (h : OnlyLogs rs s t) : t.keyless = s.keyless :=
  (congrArg (fun v : State => { v with keys := [] }) h.2 :)

theorem State.keyless_foldl {α : Type} {f : State → α → State} (hf : ∀ v x, (f v x).keyless = v.keyless) (l : List α) (s : State) :
    (l.foldl f s).keyless = s.keyless :=
  List.foldlRecOn (motive := fun v => v.keyless = s.keyless) l f rfl fun v hv x _ => (hf v x).trans hv

theorem State.keyless_sweepShow (s : State) : s.sweepShow.keyless = s.keyless := by
  unfold State.sweepShow
  exact State.keyless_foldl (fun v k => v.keyless_wr _ k _) _ s

theorem State.keyless_sweepDone (s : State) (n : Nat) : (s.sweepDone n).keyless = s.keyless := by
  unfold State.sweepDone
  extract_lets old s1 s2
  have h2 : s2.keyless = s.keyless := by
    unfold s2
    split
    · rfl
    · refine (State.keyless_foldl (fun v k => ?_) _ _).trans ?_
      · exact State.keyless_of_onlyLogs ((OnlyLogs.refl [.MEM_CAUSE] v).raiseBit F.MEM_CAUSE_SWEEP_DONE k (by decide))
      · exact State.keyless_of_onlyLogs (s := s1) ((OnlyLogs.refl [.MEM_CAUSE] s1).raise F.MEM_CAUSE_SWEEP_DONE _ _ _ _ (by decide))
  exact h2

theorem State.keyless_countOld (s : State) (n : Nat) : (s.countOld n).keyless = s.keyless := by
  refine (State.keyless_sweepShow _).trans ?_
  split
  · exact State.keyless_sweepDone _ n
  · rfl

/-- A page converted holds data, and beside it registers, keys and the recorder have changed alone. -/
theorem State.keyless_convert (s : State) (k f : Nat) : (s.convert k f).keyless =
    { s with pages := Assoc.put s.pages (pageKey k f) { s.page k f with data := true, gen := s.writeGen k f } }.keyless := by
  unfold State.convert
  simp only
  split
  · split
    · exact State.keyless_countOld _ _
    · rfl
  · rfl

/-- The state but for the data of the stacks and what has been sent: all that an access changes. -/
def State.dataless (s : State) : State := { s with mem := [], memPoison := [], out := [] }

theorem State.dataless_memLine (s : State) (k a : Nat) (l : List (Option Byte)) (p : Bool) : (s.memLine k a l p).dataless = s.dataless :=
  (congrArg State.dataless (s.memLine_eq k a l p) :)

theorem State.dataless_memOp (s : State) (k : Nat) (x : Nat × Option (List (Option Byte) × Bool)) :
    (s.memOp k x).dataless = s.dataless := by
  unfold State.memOp
  split
  · exact s.dataless_memLine _ _ _ _
  · rfl

/-- The accesses that waited change data and what has been sent alone. -/
theorem State.dataless_convEnd (s : State) (c : Conv) :
    (s.convEnd c).dataless = (({ s with convs := s.convs.erase c } : State).convert c.stack c.frame).dataless :=
  List.foldlRecOn (motive := fun v : State => v.dataless = _) c.ops _ rfl fun v hv x _ => (v.dataless_memOp c.stack x).trans hv

theorem execPageConversionDone_effect {k : Fin 8} {f : BitVec 21} {s : State} {c : Conv}
    (hc : ((s.convs.filter fun c => c.stack = k.val).take 4).find? (fun c => c.frame = f.toNat) = some c) :
    ∃ t, execPageConversionDone k f s = .next t ∧ (t.page k f.toNat).data = true ∧ t.convs = s.convs.erase c ∧ t.store = s.store ∧
      (c.ops = [] → t.mem = s.mem) := by
  have hframe : c.frame = f.toNat := by simpa using List.find?_some hc
  have hstack : c.stack = k.val := by simpa using (List.mem_filter.1 (List.mem_of_mem_take (List.mem_of_find?_eq_some hc))).2
  have hdone : execPageConversionDone k f s = .next (s.convEnd c) := by rw [execPageConversionDone, hc]
  have hops := s.dataless_convEnd c
  have hconvert := ({ s with convs := s.convs.erase c } : State).keyless_convert c.stack c.frame
  have hpages : (s.convEnd c).pages = Assoc.put s.pages (pageKey k f.toNat) _ :=
    (congrArg State.pages hops :).trans ((congrArg State.pages hconvert :).trans (by rw [hstack, hframe]; rfl))
  refine ⟨_, hdone, ?_, ?_, ?_, fun hnone => ?_⟩
  · rw [State.page, hpages, Assoc.get_put, if_pos rfl]
  · exact (congrArg State.convs hops :).trans (congrArg State.convs hconvert :)
  · exact (congrArg State.store hops :).trans (congrArg State.store hconvert :)
  · rw [State.convEnd, hnone]
    exact (congrArg State.mem hconvert :)

/-- Settles O19: a line's bytes are stored under keys of their own, errors of two symbols change no data, and the end of a
conversion changes pages before the accesses that waited are performed. -/
theorem stackLinesReadAndWritten : Obligations.StackLinesReadAndWritten := by
  unfold Obligations.StackLinesReadAndWritten
  refine ⟨?read, ?readErrors, ?readFailed, ?readRepeat, ?readWaits, ?write, ?writePoison, ?writeConverts, ?writeWaits, ?writeBarred,
    ?converted⟩
  case read => exact fun k line s hlive hclear => execStackRead_of_clear hlive (s.packetTries_zero k) hlive hclear []
  case readErrors => exact fun k line h s hlive hclear hfew => execStackRead_effect hlive hclear hfew
  case readFailed => exact fun k line crc h s hfailed => execStackRead_of_failed hfailed crc h
  case readRepeat => exact fun k line crc s hlive hclear hone hfew => execStackRead_of_repeat hlive hclear hone hfew
  case readWaits =>
    exact fun k line h s hwaits hlive => ⟨_, execStackRead_of_waits hlive hwaits h, State.waitMem_eq _ _ _ _⟩
  case write =>
    exact fun k line d m s hlive hframe hclear hconv hsound => execStackWrite_effect hlive hframe hclear hconv hsound d m
  case writePoison => exact fun k line d m s hlive hframe hclear hconv => execStackWrite_poisons hlive hframe hclear hconv d m
  case writeConverts => exact fun k line d m p s hlive hframe hclear hconv => execStackWrite_converts hlive hframe hclear hconv d m p
  case writeWaits => exact fun k line d m p s hlive hwaits => execStackWrite_of_waits hlive hwaits d m p
  case writeBarred => exact fun k line d m p s hbarred => execStackWrite_of_barred hbarred d m p
  case converted => exact fun k f s c hc => execPageConversionDone_effect hc

end Sys2Proof.Machine
end

section
/-! PROOFS.  The page metadata of a stack that has passed its training (R132, R141, R156), against the statement on patrol, sparing,
training and rotation. -/

namespace Sys2Proof.Machine

/-- Stack 0 trains. -/
def training : State := State.reset.wr F.MEM_STATE_STATE 0 1

/-- Stack 0 has passed its training: nothing was held in it, and no bank is spent. -/
def trained : State :=
  ((training.wr F.MEM_SPARE_STAT_SPARED 0 0).wr F.MEM_SPARE_STAT_EXHAUSTED 0 0).wr F.MEM_STATE_STATE 0 stReady

theorem training_trains : training.rd F.MEM_STATE_STATE 0 = 1 ∧ training.spentBanks 0 < 16 := by decide

theorem execStackTrainingDone_training : execStackTrainingDone 0 true training = .next trained := rfl

/-- Byte 1 of the first metadata entry: ZERO, as the page holds no data, and the mark of the module reserve. -/
theorem metadata_trained : trained.memByte 0 (metaFrame * 65536 + 1) = 5 := by decide

/-- Refutes O20: the metadata frames of a stack read the ZERO marks of its pages after training, and no zeros. -/
theorem not_stackScrubSparingAndRotation : ¬ Obligations.StackScrubSparingAndRotation := by
  unfold Obligations.StackScrubSparingAndRotation
  rintro ⟨-, -, htrain, -⟩
  obtain ⟨hstate, hspent⟩ := training_trains
  obtain ⟨⟨t, ht, -, hzero, -⟩, -⟩ := htrain 0 training hstate hspent
  have htrained : trained = t := Host.Outcome.next.inj (execStackTrainingDone_training.symm.trans ht)
  have hread : trained.memByte 0 (metaFrame * 65536 + 1) = 0 := htrained ▸ hzero _ (by decide)
  exact absurd (metadata_trained.symm.trans hread) (by decide)

end Sys2Proof.Machine
end

section
/-! PROOFS.  Flits sent and received (R162 to R170): the header every flit carries, the choice of a slot, flits taken and refused, and
the statement on them. -/

namespace Sys2Proof.Machine

/-! ### The state of a link -/

theorem State.link_modLink (s : State) (j i : Nat) (f : Link → Link) :
    (s.modLink j f).link i = if i = j then f (s.link j) else s.link i := Assoc.get_set _ _ _ _ _

theorem State.link_modLink_same (s : State) (j : Nat) (f : Link → Link) : (s.modLink j f).link j = f (s.link j) := by
  rw [State.link_modLink, if_pos rfl]

/-- Nothing has changed but the state of link `j` beside its registers. -/
def OnlyLink (j : Nat) (s t : State) : Prop :=
  (∀ i ≠ j, t.link i = s.link i) ∧ t = { s with fab := { s.fab with links := t.fab.links } }

theorem OnlyLink.refl (j : Nat) (s : State) : OnlyLink j s s := ⟨fun _ _ => rfl, rfl⟩

theorem OnlyLink.inbox {j : Nat} {s t : State} (h : OnlyLink j s t) : t.fab.inbox = s.fab.inbox := (congrArg (·.fab.inbox) h.2 :)

theorem OnlyLink.regs {j : Nat} {s t : State} (h : OnlyLink j s t) : t.regs = s.regs := (congrArg State.regs h.2 :)

theorem OnlyLink.modLink {j : Nat} {s u : State} (h : OnlyLink j s u) (f : Link → Link) : OnlyLink j s (u.modLink j f) := by
  obtain ⟨hlink, hrest⟩ := h
  refine ⟨fun i hi => ?_, congrArg (fun v : State => v.modLink j f) hrest⟩
  rw [State.link_modLink, if_neg hi, hlink i hi]

/-! ### The header of a flit and the choice of a slot (R164, R167, R169) -/

/-- What a flit leaves with, and what stays, where link `l` sends it: the received count, the NAK that was due, and none due. -/
structure Carried (l : Link) (r : Flit × Link) : Prop where
  ack : r.1.ack = BitVec.ofNat 8 l.rxAck
  nak : r.1.nak = l.nakDue
  done : r.2.nakDue = false

/-- The header part fills ACK, NAK and credits of the flit, and changes the due NAK and the credits to return of the link. -/
theorem Link.carry_eq (l : Link) (f : Flit) : ∃ v n returns,
    l.carry f = ({ f with ack := BitVec.ofNat 8 l.rxAck, nak := l.nakDue, crvc := v, credits := n },
      { l with nakDue := false, returns := returns }) := by
  unfold Link.carry
  split
  · exact ⟨_, _, _, rfl⟩
  · exact ⟨_, _, _, rfl⟩

/-- Send a flit with the header part in it; `n` slots have then passed since the last idle flit. -/
def Link.send (l : Link) (f : Flit) (n : Nat) : Flit × Link := ((l.carry f).1, { (l.carry f).2 with slots := n })

theorem Link.send_eq (l : Link) (f : Flit) (n : Nat) : ∃ v k returns,
    l.send f n = ({ f with ack := BitVec.ofNat 8 l.rxAck, nak := l.nakDue, crvc := v, credits := k },
      { l with nakDue := false, returns := returns, slots := n }) := by
  obtain ⟨v, k, returns, h⟩ := l.carry_eq f
  rw [Link.send, h]
  exact ⟨v, k, returns, rfl⟩

/-- The choice of a new flit leaves what the header part needs. -/
def Link.SameHeader (l m : Link) : Prop := m.rxAck = l.rxAck ∧ m.nakDue = l.nakDue

theorem Link.send_carried {l : Link} (m : Link) (h : l.SameHeader m) (f : Flit) (n : Nat) : Carried l (m.send f n) := by
  obtain ⟨hack, hnak⟩ := h
  obtain ⟨v, k, returns, hsend⟩ := m.send_eq f n
  rw [hsend, hack, hnak]
  exact ⟨rfl, rfl, rfl⟩

theorem Link.takeVc_keeps {l m : Link} {v : Nat} {t : TxFlit} (h : l.takeVc v = some (t, m)) : l.SameHeader m := by
  unfold Link.takeVc at h
  cases hq : getAt [] l.vcq v with
  | nil => exact nomatch (by simpa only [hq] using h : (none : Option (TxFlit × Link)) = some (t, m))
  | cons q rest =>
    simp only [hq, Option.ite_none_left_eq_some] at h
    obtain ⟨-, h⟩ := h
    obtain ⟨-, rfl⟩ := Prod.mk.inj (Option.some.inj h)
    exact ⟨rfl, rfl⟩

theorem Link.takeWrr_keeps {l m : Link} {a b : Nat} {t : TxFlit} (h : l.takeWrr a b = some (t, m)) : l.SameHeader m := by
  unfold Link.takeWrr at h
  extract_lets weight cur left at h
  split at h
  · next htake =>
    have hkeep := Link.takeVc_keeps htake
    obtain ⟨-, rfl⟩ := Prod.mk.inj (Option.some.inj h)
    exact hkeep
  · split at h
    · next htake =>
      have hkeep := Link.takeVc_keeps htake
      obtain ⟨-, rfl⟩ := Prod.mk.inj (Option.some.inj h)
      exact hkeep
    · exact nomatch h

theorem Link.takeNew_keeps {l m : Link} {data : Bool} {a b : Nat} {t : TxFlit} (h : l.takeNew data a b = some (t, m)) :
    l.SameHeader m := by
  unfold Link.takeNew at h
  split at h
  · exact nomatch h
  split at h
  · obtain ⟨-, rfl⟩ := Prod.mk.inj (Option.some.inj h)
    exact ⟨rfl, rfl⟩
  split at h
  · exact nomatch h
  split at h
  · next htake => exact Link.takeVc_keeps (htake.trans h)
  split at h
  · next htake => exact Link.takeVc_keeps (htake.trans h)
  · exact Link.takeWrr_keeps h

theorem Link.slot_carried (l : Link) (data : Bool) (a b : Nat) : Carried l (l.slot data a b) := by
  unfold Link.slot
  extract_lets send idle
  have hsend (t : TxFlit) (m : Link) (h : l.SameHeader m) : Carried l (send t m) := Link.send_carried m h _ _
  have hidle (m : Link) (h : l.SameHeader m) : Carried l (idle m) := Link.send_carried m h _ _
  split
  · split
    · exact hsend _ _ ⟨rfl, rfl⟩
    · exact hidle _ ⟨rfl, rfl⟩
  · split
    · exact hidle _ ⟨rfl, rfl⟩
    split
    · next htake =>
      have hkeep := Link.takeNew_keeps htake
      exact hsend _ _ hkeep
    · exact hidle _ ⟨rfl, rfl⟩

/-- A slot with nothing to replay is idle when an idle flit is due, or while 64 flits are unacknowledged. -/
theorem Link.slot_of_idle {l : Link} (hreplay : l.replayPos = none) (hidle : 2047 ≤ l.slots ∨ 64 ≤ l.replay.length)
    (data : Bool) (a b : Nat) : l.slot data a b = l.send idleFlit 0 := by
  have hnone : ¬ 2047 ≤ l.slots → l.takeNew data a b = none := fun hfew => if_pos (hidle.resolve_left hfew)
  unfold Link.slot
  rw [hreplay]
  by_cases hdue : 2047 ≤ l.slots
  · simp only [if_pos hdue]
    rfl
  · simp only [if_neg hdue, hnone hdue]
    rfl

/-- The replay entry of a control message. -/
def ctrlEntry (m : CtrlMsg) (seq : Nat) : TxFlit := { seq := seq, vc := 0, piece := none, ctrl := some m }

/-- The link once control message `m` is numbered and kept, with `rest` still to be sent. -/
def Link.takesCtrl (l : Link) (m : CtrlMsg) (rest : List CtrlMsg) : Link :=
  { l with ctrl := rest, txSeq := (l.txSeq + 1) % 256, replay := l.replay ++ [ctrlEntry m l.txSeq] }

/-- Else the first control message that waits goes out, into the replay buffer. -/
theorem Link.slot_of_ctrl {l : Link} {m : CtrlMsg} {rest : List CtrlMsg} (hreplay : l.replayPos = none) (hslots : l.slots < 2047)
    (hroom : l.replay.length < 64) (hctrl : l.ctrl = m :: rest) (data : Bool) (a b : Nat) :
    l.slot data a b = (l.takesCtrl m rest).send (ctrlEntry m l.txSeq).flit (l.slots + 1) := by
  have htake : l.takeNew data a b = some (ctrlEntry m l.txSeq, { l with ctrl := rest }) := by
    rw [Link.takeNew, if_neg (by omega), hctrl]
    rfl
  unfold Link.slot
  rw [hreplay]
  simp only [if_neg (show ¬ 2047 ≤ l.slots by omega), htake]
  rfl

/-! ### FLIT_TRANSMIT -/

section Transmit
variable {j : Fin 144} {s : State}

/-- The slot of a link that runs or trains. -/
def State.nextSlot (s : State) (j : Nat) : Flit × Link :=
  (s.link j).slot (s.lkCarries j) (s.rd F.FAB_PORT_ARB_W_ORD (j / 8)) (s.rd F.FAB_PORT_ARB_W_UNORD (j / 8))

/-- The slot of link `j` goes out. -/
def State.transmitted (s : State) (j : Nat) : State := (s.modLink j fun _ => (s.nextSlot j).2).emit (.flit j (s.nextSlot j).1)

theorem State.link_transmitted (s : State) (j : Nat) : (s.transmitted j).link j = (s.nextSlot j).2 :=
  s.link_modLink_same j fun _ => (s.nextSlot j).2

theorem State.lkRuns_of_carries {j : Nat} {s : State} (h : s.lkCarries j = true) : s.lkRuns j = true := Bool.or_eq_true_iff.2 (.inl h)

theorem execFlitTransmit_of_runs (h : s.lkRuns j = true ∨ s.lkState j = lkTraining) :
    execFlitTransmit j s = .next (s.transmitted j) := if_pos (by simpa using h)

theorem execFlitTransmit_effect (h : s.lkRuns j = true ∨ s.lkState j = lkTraining) : ∃ t f, execFlitTransmit j s = .next t ∧
    t.out = s.out ++ [.flit j f] ∧ f.ack = BitVec.ofNat 8 (s.link j).rxAck ∧ f.nak = (s.link j).nakDue ∧
    (t.link j).nakDue = false ∧ (∀ i ≠ j.val, t.link i = s.link i) ∧
    t = { s with out := t.out, fab := { s.fab with links := t.fab.links } } := by
  obtain ⟨hack, hnak, hdone⟩ := (s.link j).slot_carried (s.lkCarries j) (s.rd F.FAB_PORT_ARB_W_ORD (j.val / 8))
    (s.rd F.FAB_PORT_ARB_W_UNORD (j.val / 8))
  refine ⟨_, _, execFlitTransmit_of_runs h, rfl, hack, hnak, ?_, fun i hi => ?_, rfl⟩
  · rw [State.link_transmitted]
    exact hdone
  · exact (s.link_modLink j i fun _ => (s.nextSlot j).2).trans (if_neg hi)

theorem execFlitTransmit_idle (hcarries : s.lkCarries j = true) (hreplay : (s.link j).replayPos = none)
    (hidle : 2047 ≤ (s.link j).slots ∨ 64 ≤ (s.link j).replay.length) : ∃ t f, execFlitTransmit j s = .next t ∧
    t.out = s.out ++ [.flit j f] ∧ f.typ = 0 ∧ (t.link j).txSeq = (s.link j).txSeq ∧ (t.link j).replay = (s.link j).replay ∧
    (t.link j).slots = 0 := by
  refine ⟨_, _, execFlitTransmit_of_runs (.inl (State.lkRuns_of_carries hcarries)), rfl, ?_⟩
  obtain ⟨v, n, returns, hsend⟩ := (s.link j).send_eq idleFlit 0
  rw [State.link_transmitted, State.nextSlot, Link.slot_of_idle hreplay hidle, hsend]
  exact ⟨rfl, rfl, rfl, rfl⟩

theorem execFlitTransmit_ctrl {m : CtrlMsg} {l : List CtrlMsg} (hcarries : s.lkCarries j = true)
    (hreplay : (s.link j).replayPos = none) (hslots : (s.link j).slots < 2047) (hroom : (s.link j).replay.length < 64)
    (hctrl : (s.link j).ctrl = m :: l) : ∃ t f, execFlitTransmit j s = .next t ∧
    t.out = s.out ++ [.flit j f] ∧ f.typ = 2 ∧ f.ctrl = some m ∧ f.seq = BitVec.ofNat 8 (s.link j).txSeq ∧ (t.link j).ctrl = l ∧
    (t.link j).txSeq = ((s.link j).txSeq + 1) % 256 ∧ (t.link j).replay.length = (s.link j).replay.length + 1 := by
  refine ⟨_, _, execFlitTransmit_of_runs (.inl (State.lkRuns_of_carries hcarries)), rfl, ?_⟩
  obtain ⟨v, n, returns, hsend⟩ := ((s.link j).takesCtrl m l).send_eq (ctrlEntry m (s.link j).txSeq).flit ((s.link j).slots + 1)
  rw [State.link_transmitted, State.nextSlot, Link.slot_of_ctrl hreplay hslots hroom hctrl, hsend]
  exact ⟨rfl, rfl, rfl, rfl, rfl, List.length_append⟩

end Transmit

/-! ### FLIT_RECEIVE -/

theorem Link.rxAck_acked (l : Link) (a : Nat) : (l.acked a).rxAck = l.rxAck := by
  unfold Link.acked
  extract_lets covered kept
  split
  · rfl
  · rfl

/-- The header of a received flit leaves the received count. -/
theorem Link.rxAck_header (l : Link) (f : Flit) : (l.header f).rxAck = l.rxAck := by
  unfold Link.header
  extract_lets l1 l2
  have h2 : l2.rxAck = l.rxAck := l.rxAck_acked _
  split
  · exact h2
  · exact h2

/-- A flit met with good codewords alone leaves no lane suspected. -/
theorem State.fecLanes_nil (s : State) (j : Nat) : s.fecLanes j [] = s.modLink j fun k => { k with badLanes := [] } := by
  have hnone (g : Nat → Bool) : (List.range 8).filter (fun l => ([] : List Bool) ≠ [] && g l) = [] := by simp
  unfold State.fecLanes
  simp only [List.filter_nil, List.map_nil, hnone, if_pos]

section Receive
variable {j : Fin 144} {f : Flit} {s : State}

/-- A good flit's header is applied. -/
def State.headed (s : State) (j : Nat) (f : Flit) : State := s.modLink j fun _ => (s.link j).header f

theorem State.link_headed (s : State) (j : Nat) (f : Flit) : (s.headed j f).link j = (s.link j).header f := s.link_modLink_same j _

theorem State.rxAck_headed (s : State) (j : Nat) (f : Flit) : ((s.headed j f).link j).rxAck = (s.link j).rxAck := by
  rw [State.link_headed, Link.rxAck_header]

theorem execFlitReceive_of_good (hruns : s.lkRuns j = true) (hok : flitOk f = true) (hnak : f.nak = false) (copy : Bool) :
    execFlitReceive j f true copy [] s =
      .next ((if f.typ ≠ 1 then s.headed j f else (s.headed j f).dataFlit j f copy).fecLanes j []) := by
  have hheader : s.flitHeader j f = (s.headed j f, true) := if_neg (by simp [hnak])
  have hgood : ¬ (!true || !(flitOk f) || ([] : List (Fin 8 × Bool)).any Prod.snd) = true := by simp [hok]
  refine (if_pos (Bool.or_eq_true_iff.2 (.inl hruns))).trans ?_
  refine (if_neg hgood).trans ?_
  have hempty : s.fecCount (j.val / 8) [] = s := rfl
  simp only [hempty, hheader, Bool.not_true, Bool.false_or]
  simp

/-- A MISWIRED link takes no DATA flit (R177). -/
theorem State.dataFlit_of_bare {u : State} {j : Nat} (h : u.lkCarries j = false) (f : Flit) (copy : Bool) : u.dataFlit j f copy = u :=
  if_pos (by simp [h])

/-- The link's state after a flit in its turn. -/
def State.assembled (s : State) (j : Nat) (f : Flit) : State :=
  (s.inTurn j).modLink j fun _ => (((s.inTurn j).link j).assemble f).1

theorem State.link_inTurn (s : State) (j : Nat) :
    (s.inTurn j).link j = { s.link j with rxAck := ((s.link j).rxAck + 1) % 256, nakSent := false } := s.link_modLink_same j _

theorem Link.assemble_keeps (l : Link) (f : Flit) : (l.assemble f).1.rxAck = l.rxAck ∧ (l.assemble f).1.nakSent = l.nakSent := by
  unfold Link.assemble
  cases f.sop with
  | false => exact ⟨rfl, rfl⟩
  | true => exact ⟨rfl, rfl⟩

theorem State.link_assembled (s : State) (j : Nat) (f : Flit) :
    ((s.assembled j f).link j).rxAck = ((s.link j).rxAck + 1) % 256 ∧ ((s.assembled j f).link j).nakSent = false := by
  obtain ⟨hack, hnak⟩ := ((s.inTurn j).link j).assemble_keeps f
  rw [State.assembled, State.link_modLink_same, hack, hnak, State.link_inTurn]
  exact ⟨rfl, rfl⟩

theorem OnlyLink.assembled {u : State} {j : Nat} (h : OnlyLink j s u) (f : Flit) : OnlyLink j s (u.assembled j f) :=
  (h.modLink _).modLink _

theorem State.dataFlit_of_next {u : State} {j : Nat} (hcarries : u.lkCarries j = true) (hawake : u.psState ≠ psFreewheel)
    (hseq : f.seq.toNat = (u.link j).rxAck) (copy : Bool) : u.dataFlit j f copy =
      match (((u.inTurn j).link j).assemble f).2 with
      | some bytes => (u.assembled j f).packetIn j f.vc.toNat bytes
      | none => u.assembled j f := by
  unfold State.dataFlit
  rw [if_neg (by simp [hcarries]), if_neg hawake, if_pos hseq]
  rfl

/-- A flit that ends no packet only adds to what its channel assembles. -/
theorem State.dataFlit_of_part {u : State} {j : Nat} (hcarries : u.lkCarries j = true) (hawake : u.psState ≠ psFreewheel)
    (hseq : f.seq.toNat = (u.link j).rxAck) (heop : f.eop = false) (copy : Bool) : u.dataFlit j f copy = u.assembled j f := by
  have hnone : (((u.inTurn j).link j).assemble f).2 = none := if_neg (by simp [heop])
  rw [State.dataFlit_of_next hcarries hawake hseq, hnone]

/-- A packet is put last in the inbox. -/
def State.boxed (s : State) (j : Nat) (p : Packet) : State := { s with fab := { s.fab with inbox := s.fab.inbox ++ [(j, p)] } }

theorem OnlyLink.boxed {u : State} {j : Nat} (h : OnlyLink j s u) (p : Packet) (g : Link → Link) :
    ((u.boxed j p).modLink j g).fab.inbox = s.fab.inbox ++ [(j, p)] ∧ ((u.boxed j p).modLink j g).regs = s.regs :=
  ⟨congrArg (· ++ [(j, p)]) h.inbox, h.regs⟩

/-- A flit that is a whole packet puts it last in the inbox. -/
theorem State.dataFlit_of_packet {u : State} {j : Nat} {p : Packet} (hcarries : u.lkCarries j = true) (hawake : u.psState ≠ psFreewheel)
    (hseq : f.seq.toNat = (u.link j).rxAck) (hsop : f.sop = true) (heop : f.eop = true) (hp : readPacket f.payload = some p)
    (copy : Bool) : u.dataFlit j f copy = (u.assembled j f).boxed j p := by
  have hwhole : (((u.inTurn j).link j).assemble f).2 = some f.payload := (if_pos heop).trans (congrArg some (if_pos hsop))
  rw [State.dataFlit_of_next hcarries hawake hseq, hwhole]
  simp only [State.packetIn, hp]
  rfl

/-- A flit beyond the window is discarded without a NAK (R167). -/
theorem State.dataFlit_of_beyond {u : State} {j : Nat} (hcarries : u.lkCarries j = true) (hawake : u.psState ≠ psFreewheel)
    (hseq : f.seq.toNat ≠ (u.link j).rxAck) (hfar : 64 ≤ seqDist (u.link j).rxAck f.seq.toNat) (copy : Bool) :
    u.dataFlit j f copy = u := by
  unfold State.dataFlit
  rw [if_neg (by simp [hcarries]), if_neg hawake, if_neg hseq]
  exact if_neg (by omega)

theorem execFlitReceive_miswired (hstate : s.lkState j = lkMiswired) (hok : flitOk f = true) (hnak : f.nak = false) (copy : Bool) :
    ∃ t, execFlitReceive j f true copy [] s = .next t ∧ (t.link j).rxAck = (s.link j).rxAck ∧
    t = { s with fab := { s.fab with links := t.fab.links } } := by
  have hruns : s.lkRuns j = true := Bool.or_eq_true_iff.2 (.inr (by simp [hstate]))
  have hbare : (s.headed j f).lkCarries j = false := by
    have hkeep : (s.headed j f).lkState j = lkMiswired := hstate
    simp [State.lkCarries, hkeep]
  refine ⟨_, execFlitReceive_of_good hruns hok hnak copy, ?_⟩
  rw [State.dataFlit_of_bare hbare, ite_self, State.fecLanes_nil, State.link_modLink_same]
  exact ⟨s.rxAck_headed j f, rfl⟩

theorem execFlitReceive_bad (hcarries : s.lkCarries j = true) (hfirst : (s.link j).nakSent = false) (copy : Bool) :
    ∃ t, execFlitReceive j f false copy [] s = .next t ∧ (t.link j).nakDue = true ∧ (t.link j).nakSent = true ∧
    (t.link j).rxAck = (s.link j).rxAck ∧ OnlyLink j s t := by
  have hdiscard : (s.link j).discard copy = { s.link j with nakDue := true, nakSent := true } := if_pos (by simp [hfirst])
  refine ⟨(s.modLink j fun l => l.discard copy).fecLanes j [], if_pos ?_, ?_⟩
  · exact Bool.or_eq_true_iff.2 (.inl (State.lkRuns_of_carries hcarries))
  · rw [State.fecLanes_nil, State.link_modLink_same, State.link_modLink_same, hdiscard]
    exact ⟨rfl, rfl, rfl, ((OnlyLink.refl j.val s).modLink _).modLink _⟩

variable (hcarries : s.lkCarries j = true) (hok : flitOk f = true) (htyp : f.typ = 1) (hnak : f.nak = false)
  (hawake : s.psState ≠ psFreewheel)
include hcarries hok htyp hnak

theorem execFlitReceive_of_data (copy : Bool) :
    execFlitReceive j f true copy [] s = .next (((s.headed j f).dataFlit j f copy).fecLanes j []) := by
  rw [execFlitReceive_of_good (State.lkRuns_of_carries hcarries) hok hnak, if_neg (not_not_intro htyp)]

include hawake

theorem execFlitReceive_part (heop : f.eop = false) (hseq : f.seq.toNat = (s.link j).rxAck) (copy : Bool) :
    ∃ t, execFlitReceive j f true copy [] s = .next t ∧ (t.link j).rxAck = ((s.link j).rxAck + 1) % 256 ∧
    (t.link j).nakSent = false ∧ t.fab.inbox = s.fab.inbox ∧ OnlyLink j s t := by
  refine ⟨_, execFlitReceive_of_data hcarries hok htyp hnak copy, ?_⟩
  rw [State.dataFlit_of_part (u := s.headed j f) hcarries hawake (hseq.trans (s.rxAck_headed j f).symm) heop,
    State.fecLanes_nil, State.link_modLink_same]
  obtain ⟨hcount, hsent⟩ := (s.headed j f).link_assembled j f
  rw [State.rxAck_headed] at hcount
  have hkeep : OnlyLink j s (((s.headed j f).assembled j f).modLink j fun k => { k with badLanes := [] }) :=
    (((OnlyLink.refl j.val s).modLink _).assembled f).modLink _
  exact ⟨hcount, hsent, hkeep.inbox, hkeep⟩

theorem execFlitReceive_packet {p : Packet} (hsop : f.sop = true) (heop : f.eop = true) (hseq : f.seq.toNat = (s.link j).rxAck)
    (hp : readPacket f.payload = some p) (copy : Bool) : ∃ t, execFlitReceive j f true copy [] s = .next t ∧
    t.fab.inbox = s.fab.inbox ++ [(j.val, p)] ∧ t.regs = s.regs := by
  refine ⟨_, execFlitReceive_of_data hcarries hok htyp hnak copy, ?_⟩
  have hkeep : OnlyLink j s ((s.headed j f).assembled j f) := ((OnlyLink.refl j.val s).modLink _).assembled f
  rw [State.dataFlit_of_packet (u := s.headed j f) hcarries hawake (hseq.trans (s.rxAck_headed j f).symm) hsop heop hp,
    State.fecLanes_nil]
  exact hkeep.boxed p _

theorem execFlitReceive_beyond (hseq : f.seq.toNat ≠ (s.link j).rxAck) (hfar : 64 ≤ seqDist (s.link j).rxAck f.seq.toNat)
    (copy : Bool) : ∃ t, execFlitReceive j f true copy [] s = .next t ∧ (t.link j).rxAck = (s.link j).rxAck ∧
    t.fab.inbox = s.fab.inbox ∧ t.regs = s.regs := by
  rw [← s.rxAck_headed j f] at hseq hfar
  refine ⟨_, execFlitReceive_of_data hcarries hok htyp hnak copy, ?_⟩
  rw [State.dataFlit_of_beyond (u := s.headed j f) hcarries hawake hseq hfar, State.fecLanes_nil, State.link_modLink_same]
  exact ⟨s.rxAck_headed j f, rfl, rfl⟩

end Receive

/-- Settles O23: whatever a slot carries has the header part of its link, and a received flit is taken in its turn alone. -/
theorem flitSlotsAndFlitsReceived : Obligations.FlitSlotsAndFlitsReceived := by
  unfold Obligations.FlitSlotsAndFlitsReceived
  refine ⟨?slot, ?idle, ?ctrl, ?miswired, ?bad, ?part, ?packet, ?beyond⟩
  case slot => exact fun j s h => execFlitTransmit_effect h
  case idle => exact fun j s hcarries hreplay hidle => execFlitTransmit_idle hcarries hreplay hidle
  case ctrl => exact fun j s m l hcarries hreplay hslots hroom hctrl => execFlitTransmit_ctrl hcarries hreplay hslots hroom hctrl
  case miswired => exact fun j f copy s hstate hok hnak => execFlitReceive_miswired hstate hok hnak copy
  case bad => exact fun j f copy s hcarries hfirst => execFlitReceive_bad hcarries hfirst copy
  case part =>
    exact fun j f copy s hcarries hok htyp hnak heop hawake hseq => execFlitReceive_part hcarries hok htyp hnak hawake heop hseq copy
  case packet =>
    exact fun j f copy s p hcarries hok htyp hnak hsop heop hawake hseq hp =>
      execFlitReceive_packet hcarries hok htyp hnak hawake hsop heop hseq hp copy
  case beyond =>
    exact fun j f copy s hcarries hok htyp hnak hawake hseq hfar =>
      execFlitReceive_beyond hcarries hok htyp hnak hawake hseq hfar copy

end Sys2Proof.Machine
end

section
/-! PROOFS.  What messages, ends of jobs and the loss of links and modules leave as it was: memories, cable ends, and every register
but those they write (R96, R155, R175, R198 to R202). -/

namespace Sys2Proof.Machine

/-! ### Registers that may differ -/

section Registers
variable {rs : List Reg} {s t : State}

theorem SameRegs.rd (h : SameRegs rs s t) {f : Fld} (hf : f.reg ∉ rs) (i : Nat) : t.rd f i = s.rd f i := State.rd_congr (h _ i hf)

theorem SameRegs.flag (h : SameRegs rs s t) {f : Fld} (hf : f.reg ∉ rs) (i : Nat) : t.flag f i = s.flag f i :=
  State.flag_congr (h _ i hf)

end Registers

/-- The stacks, the stores, the start-up and the cable ends are as they were, and no register but those of `rs` has changed. -/
structure Within (rs : List Reg) (s t : State) : Prop where
  mem : t.mem = s.mem
  store : t.store = s.store
  boot : t.boot = s.boot
  cables : t.fab.cables = s.fab.cables
  regs : SameRegs rs s t

section Within
variable {rs : List Reg} {s t u v : State}

theorem Within.refl (rs : List Reg) (s : State) : Within rs s s := ⟨rfl, rfl, rfl, rfl, fun _ _ _ => rfl⟩

theorem Within.ite {c : Prop} [Decidable c] (hu : Within rs s u) (hv : Within rs s v) : Within rs s (if c then u else v) := by
  split <;> assumption

theorem Within.of_onlyRegs (h : OnlyRegs rs s t) : Within rs s t where
  mem := (congrArg State.mem h.2 :)
  store := (congrArg State.store h.2 :)
  boot := (congrArg State.boot h.2 :)
  cables := (congrArg (·.fab.cables) h.2 :)
  regs := h.1

theorem Within.of_onlyLogs (h : OnlyLogs rs s t) : Within (rs ++ recRegs) s t where
  mem := (congrArg State.mem h.2 :)
  store := (congrArg State.store h.2 :)
  boot := (congrArg State.boot h.2 :)
  cables := (congrArg (·.fab.cables) h.2 :)
  regs := h.1

variable (h : Within rs s u)
include h

theorem Within.mono {qs : List Reg} (hsub : rs ⊆ qs) : Within qs s u :=
  { h with regs := fun r i hr => h.regs r i fun e => hr (hsub e) }

theorem Within.trans (h' : Within rs u t) : Within rs s t where
  mem := h'.mem.trans h.mem
  store := h'.store.trans h.store
  boot := h'.boot.trans h.boot
  cables := h'.cables.trans h.cables
  regs r i hr := (h'.regs r i hr).trans (h.regs r i hr)

theorem Within.foldl {α : Type} {f : State → α → State} (l : List α) (hf : ∀ v x, Within rs s v → Within rs s (f v x)) :
    Within rs s (l.foldl f u) :=
  List.foldlRecOn l f h fun v hv x _ => hf v x hv

/-- A change of other fields. -/
theorem Within.other (hm : v.mem = u.mem) (hs : v.store = u.store) (hb : v.boot = u.boot) (hc : v.fab.cables = u.fab.cables)
    (hr : v.regs = u.regs) : Within rs s v :=
  h.trans ⟨hm, hs, hb, hc, fun r i _ => by rw [State.reg, State.reg, hr]⟩

theorem Within.withFab (f : Fabric) (hc : f.cables = u.fab.cables := by rfl) :
    Within rs s { u with fab := f } := h.other rfl rfl rfl hc rfl

theorem Within.onlyRegs {qs : List Reg} (hv : OnlyRegs qs u v) (hsub : qs ⊆ rs) : Within rs s v :=
  h.trans ((Within.of_onlyRegs hv).mono hsub)

theorem Within.onlyLogs {qs : List Reg} (hv : OnlyLogs qs u v) (hsub : qs ++ recRegs ⊆ rs) : Within rs s v :=
  h.trans ((Within.of_onlyLogs hv).mono hsub)

theorem Within.setReg {r : Reg} (i : Nat) (w : Word) (hr : r ∈ rs) : Within rs s (u.setReg r i w) :=
  h.onlyRegs ((OnlyRegs.refl [r] u).setReg i w List.mem_cons_self) (List.cons_subset.2 ⟨hr, List.nil_subset _⟩)

theorem Within.wr {f : Fld} (i w : Nat) (hf : f.reg ∈ rs) : Within rs s (u.wr f i w) := h.setReg i _ hf

theorem Within.raise {f : Fld} (i sev : Nat) (d : List Word) (m : Nat) (hf : f.reg :: recRegs ⊆ rs) :
    Within rs s (u.raise f i sev d m) :=
  h.onlyLogs ((OnlyLogs.refl [f.reg] u).raise f i sev d m List.mem_cons_self) hf

theorem Within.record (a b c e g : Nat) (d : List Word) (m : Nat) (hrec : recRegs ⊆ rs) : Within rs s (u.record a b c e g d m) :=
  h.onlyLogs ((OnlyLogs.refl [] u).record a b c e g d m) hrec

theorem Within.modRun (n : Nat) (f : Cmd → Cmd) : Within rs s (u.modRun n f) := h.other rfl rfl rfl rfl rfl

theorem Within.modPart (n : Nat) (f : Part → Part) : Within rs s (u.modPart n f) := h.other rfl rfl rfl rfl rfl

theorem Within.modLink (j : Nat) (f : Link → Link) : Within rs s (u.modLink j f) := h.other rfl rfl rfl rfl rfl

theorem Within.modColl (c : Coll) (f : Coll → Coll) : Within rs s (u.modColl c f) := h.other rfl rfl rfl rfl rfl

theorem Within.emit (e : Emit) : Within rs s (u.emit e) := h.other rfl rfl rfl rfl rfl

theorem Within.setTx (k : Nat) (f : TxFlow) : Within rs s (u.setTx k f) := h.other rfl rfl rfl rfl rfl

end Within

/-! ### Messages, descriptors and collectives -/

/-- Registers that messages, ends of jobs and loans, and the notices of a loss write. -/
def lossRegs : List Reg :=
  [.FAB_TR_CAUSE, .FAB_TR_RETX_CNT, .FAB_TR_DROP_CNT, .FAB_TR_LAST_STALL, .FAB_RT_CTL, .FAB_ROUTE_HI, .FAB_COLL_BUSY_LO,
    .FAB_COLL_BUSY_HI, .CLU_CAUSE, .CLE_REP_STAT, .CLE_CAUSE, .ETH_PART_STATE, .MEM_PART_LEND, .MEM_STATE, .MEM_LEND_OUT] ++ recRegs

section Loss
variable {s u : State} (h : Within lossRegs s u)
include h

theorem Within.tokStopped (q : Nat) : Within lossRegs s (u.tokStopped q) := by
  unfold State.tokStopped
  split
  · exact h
  · exact h.other rfl rfl rfl rfl rfl

theorem Within.tokAdd (k n : Nat) : Within lossRegs s (u.tokAdd k n).1 := by
  have hadd : Within lossRegs s (u.tokAdded k n) := h.other rfl rfl rfl rfl rfl
  rcases Nat.lt_or_ge 65535 (u.tokCount k + n) with hover | hfits
  · rw [State.tokAdd_of_overflow hover]
    cases u.tokHolder k with
    | none => exact hadd
    | some q => exact (hadd.raise _ _ _ _ (by decide)).tokStopped q
  · rw [State.tokAdd_of_fits hfits]
    exact hadd

theorem Within.bobSignal (p : Nat) (d : BobDesc) : Within lossRegs s (u.bobSignal p d) := by
  unfold State.bobSignal
  split
  · split
    · exact h.tokAdd _ _
    · exact h
  · exact h

theorem Within.endDesc (d : DescRun) : Within lossRegs s (u.endDesc d) := by
  have herase : Within lossRegs s { u with fab := { u.fab with descs := u.fab.descs.erase d } } := h.other rfl rfl rfl rfl rfl
  exact .ite (herase.other rfl rfl rfl rfl rfl) (Within.bobSignal (.ite herase (herase.modRun _ _)) _ _)

theorem Within.tryEnd (id : Nat) : Within lossRegs s (u.tryEnd id) := by
  unfold State.tryEnd
  split
  · exact .ite (h.endDesc _) h
  · exact h

theorem Within.failDesc (desc : Option Nat) (status origin : Nat) : Within lossRegs s (u.failDesc desc status origin) := by
  cases desc with
  | none => exact h
  | some id => exact h.other rfl rfl rfl rfl rfl

theorem Within.settle (desc : Option Nat) (n : Nat) : Within lossRegs s (u.settle desc n) := by
  cases desc with
  | none => exact h
  | some id => exact h.other rfl rfl rfl rfl rfl

theorem Within.unsettle (desc : Option Nat) : Within lossRegs s (u.unsettle desc) := by
  cases desc with
  | none => exact h
  | some id => exact h.other rfl rfl rfl rfl rfl

theorem Within.enqueue (j : Nat) (p : Packet) (e : Bool) : Within lossRegs s (u.enqueue j p e) := by
  have hbox : Within lossRegs s { u with fab := { u.fab with inbox := u.fab.inbox ++ [(j, p)] } } := h.other rfl rfl rfl rfl rfl
  exact .ite h (.ite hbox (h.modLink _ _))

theorem Within.sendNow (p : Packet) (desc : Option Nat) : Within lossRegs s (u.sendNow p desc) := by
  unfold State.sendNow
  simp only
  split
  · exact ((h.raise _ _ _ _ (by decide)).failDesc _ _ _).settle _ _
  · exact (h.setTx _ _).enqueue _ _ _

theorem Within.inject (p : Packet) (desc : Option Nat) : Within lossRegs s (u.inject p desc) := by
  have hpeer : Within lossRegs s (if p.cls = 3 then u else u.addPeer p.srcPart.toNat p.dstMod.toNat) :=
    .ite h (h.other rfl rfl rfl rfl rfl)
  have hopen := hpeer.unsettle desc
  exact .ite (h.failDesc _ _ _) (.ite (hopen.sendNow _ _) (hopen.setTx _ _))

theorem Within.sendLend (dst n kind arg : Nat) : Within lossRegs s (u.sendLend dst n kind arg) := h.inject _ _

theorem Within.sendCtl (c : Coll) (dst kind count : Nat) : Within lossRegs s (u.sendCtl c dst kind count) := h.inject _ _

theorem Within.setBusy (n id w : Nat) : Within lossRegs s (u.setBusy n id w) :=
  .ite (h.setReg _ _ (by decide)) (h.setReg _ _ (by decide))

theorem Within.collOver (c : Coll) (ok : Bool) : Within lossRegs s (u.collOver c ok) := by
  unfold State.collOver
  extract_lets s1 s2 s3
  have h1 : Within lossRegs s s1 := (h.modColl _ _).setBusy _ _ _
  have h2 : Within lossRegs s s2 := .ite h1 (h1.raise _ _ _ _ (by decide))
  have h3 : Within lossRegs s s3 := .ite (h2.modRun _ _) h2
  split
  · exact h3.endDesc _
  · exact h3

theorem Within.collDecide (c : Coll) : Within lossRegs s (u.collDecide c) := by
  have htold : Within lossRegs s
      ((u.others c).foldl (fun s r => if c.sentCommit then s.sendCtl c r 2 c.mark else s.sendCtl c r 3 0) u) :=
    h.foldl _ fun v r hv => .ite (hv.sendCtl _ _ _ _) (hv.sendCtl _ _ _ _)
  exact .ite (htold.collOver _ _) htold

theorem Within.collSettle (c : Coll) : Within lossRegs s (u.collSettle c) :=
  .ite (h.collDecide c) (h.foldl _ fun _ _ hv => hv.sendCtl _ _ _ _)

theorem Within.collAbort (c : Coll) : Within lossRegs s (u.collAbort c) := .ite (h.collSettle c) (h.sendCtl _ _ _ _)

/-! ### Ends of jobs and loans (R96, R155) -/

theorem Within.endColls (n : Nat) : Within lossRegs s (u.endColls n) :=
  h.foldl _ fun _ _ hv => .ite ((hv.collAbort _).collOver _ _) (hv.collAbort _)

theorem Within.endLoans (n : Nat) : Within lossRegs s (u.endLoans n) :=
  Within.setReg (Within.modPart (h.foldl _ fun _ _ hv => hv.sendLend _ _ _ _) _ _) _ _ (by decide)

theorem Within.relaxEnd (n : Nat) : Within lossRegs s (u.relaxEnd n) :=
  .ite ((h.modPart _ _).record _ _ _ _ _ _ _ (by decide)) h

theorem Within.loseRep (n : Nat) : Within lossRegs s (u.loseRep n) := by
  have hbeats : Within lossRegs s { u with beats := [] } := h.other rfl rfl rfl rfl rfl
  exact .ite (.ite ((hbeats.wr _ _ (by decide)).raise _ _ _ _ (by decide)) hbeats) h

theorem Within.jobEnd (n status origin : Nat) : Within lossRegs s (u.jobEnd n status origin) := by
  have hrun : Within lossRegs s (u.endRunning n status origin) := h.other rfl rfl rfl rfl rfl
  have habandon : Within lossRegs s (((u.endRunning n status origin).endColls n).abandon n) :=
    (hrun.endColls n).other rfl rfl rfl rfl rfl
  exact .ite ((((habandon.endLoans n).relaxEnd n).loseRep n).wr _ _ (by decide)) h

theorem Within.endLoanOut (l : LoanOut) : Within lossRegs s (u.endLoanOut l) := by
  have hfreed : Within lossRegs s { u with loansOut := u.loansOut.erase l } := h.other rfl rfl rfl rfl rfl
  have hfill : Within lossRegs s (u.zeroFill l.mask l.base l.frames true l.slot) := by
    refine h.foldl _ fun v k hv => Within.wr ?_ _ _ (by decide)
    exact hv.other rfl rfl rfl rfl rfl
  exact .ite h (.ite (hfreed.wr _ _ (by decide)) hfill)

/-! ### Notices and lost modules (R200 to R202) -/

theorem Within.flood (typ tag : Nat) : Within lossRegs s (u.flood typ tag) := h.foldl _ fun _ _ hv => hv.inject _ _

theorem Within.notice (kind m p l : Nat) : Within lossRegs s (u.notice kind m p l) :=
  .ite h (Within.flood (h.withFab _) _ _)

theorem Within.dropFlows (m : Nat) : Within lossRegs s (u.dropFlows m) := by
  refine h.foldl _ fun v c hv => ?_
  extract_lets k f s1 tags fab s2 ds
  have h2 : Within lossRegs s s2 := (hv.setTx k _).withFab _
  refine h2.foldl _ fun w d hw => ?_
  cases d with
  | none => exact hw
  | some i => exact ((hw.failDesc _ _ _).settle _ _).tryEnd i

theorem Within.loseModule (m : Nat) : Within lossRegs s (u.loseModule m) := by
  unfold State.loseModule
  extract_lets fab s1 s2 s3 mask s4
  have h1 : Within lossRegs s s1 := (h.withFab _).raise _ _ _ _ (by decide)
  have h3 : Within lossRegs s s3 := (h1.dropFlows m).foldl _ fun _ c hv => .ite (hv.collSettle c) hv
  have h4 : Within lossRegs s s4 := h3.foldl _ fun _ _ hv => hv.jobEnd _ _ _
  exact .ite h (h4.foldl _ fun _ _ hv => hv.endLoanOut _)

theorem Within.peerGone (m j : Nat) (b : Bool) : Within lossRegs s (u.peerGone m j b) :=
  .ite ((h.notice 3 m 0 0).loseModule m) (.ite h ((h.withFab _).notice _ _ _ _))

/-! ### Packets sent on again (R200) -/

theorem Within.pathless (p : Packet) : Within lossRegs s (u.pathless p) := by
  have hforget (v : State) (hv : Within lossRegs s v) (k : Nat) (x : Unacked) : Within lossRegs s (v.forget k x) := by
    unfold State.forget
    extract_lets fab s1 flow s2
    have h2 : Within lossRegs s s2 := Within.setTx (hv.withFab _) _ _
    split
    · exact (h2.settle _ _).tryEnd _
    · exact h2
  unfold State.pathless
  simp only
  split
  · exact h
  · exact hforget _ ((h.raise _ _ _ _ (by decide)).failDesc _ _ _) _ _

theorem Within.count {f : Fld} (i : Nat) (hf : f.reg ∈ lossRegs) : Within lossRegs s (u.count f i) := h.wr _ _ hf

theorem Within.resendHeld (l : List Packet) : Within lossRegs s (u.resendHeld l) := by
  refine h.foldl _ fun v p hv => ?_
  extract_lets q own
  split
  · exact Within.enqueue (.ite (hv.count _ (by decide)) hv) _ _ _
  · exact .ite (hv.pathless _) (Within.raise (hv.count _ (by decide)) _ _ _ _ (by decide))

theorem Within.markStale (j : Nat) : Within lossRegs s (u.markStale j) := h.foldl _ fun _ _ hv => hv.wr _ _ (by decide)

theorem Within.faultSeen : Within lossRegs s u.faultSeen :=
  (((h.withFab _).wr _ _ (by decide)).wr _ _ (by decide)).raise _ _ _ _ (by decide)

end Loss

end Sys2Proof.Machine
end

section
/-! PROOFS.  Links and lanes: what each operation on a link writes, the state of the link and of its lanes after it (R159 to R178). -/

namespace Sys2Proof.Machine

/-! ### Registers of links, lanes and ports -/

/-- Registers that the course of links writes. -/
def seamRegs : List Reg :=
  [.FAB_LINK_STAT, .FAB_LANE_STAT, .FAB_PORT_STAT, .FAB_PORT_CMD, .FAB_PORT_CAUSE, .FAB_LINK_PEER, .FAB_LINK_REPLAY_CNT,
    .FAB_LINK_DOWN_CNT] ++ lossRegs

theorem lossRegs_subset_seamRegs : lossRegs ⊆ seamRegs := List.subset_append_right _ _

theorem OnlyRegs.fab_eq {rs : List Reg} {s t : State} (h : OnlyRegs rs s t) : t.fab = s.fab := (congrArg State.fab h.2 :)

theorem OnlyLogs.fab_eq {rs : List Reg} {s t : State} (h : OnlyLogs rs s t) : t.fab = s.fab := (congrArg State.fab h.2 :)

theorem State.link_congr {s t : State} (h : t.fab = s.fab) (j : Nat) : t.link j = s.link j := by rw [State.link, h, State.link]

theorem State.setLanes_onlyRegs (s : State) (p : Nat) (l : List Nat) (st : Nat) : OnlyRegs [.FAB_LANE_STAT] s (s.setLanes p l st) :=
  (OnlyRegs.refl _ s).foldl l fun _ _ hv => hv.wr _ _ _ (by decide)

theorem State.portStat_onlyRegs (s : State) (p : Nat) : OnlyRegs [.FAB_PORT_STAT] s (s.portStat p) := by
  unfold State.portStat
  extract_lets ups lanes s1
  have h1 : OnlyRegs [.FAB_PORT_STAT] s s1 := ((OnlyRegs.refl _ s).wr _ _ _ (by decide)).wr _ _ _ (by decide)
  split
  · exact h1.wr _ _ _ (by decide)
  · exact h1

theorem State.linkWidth_onlyRegs (s : State) (j : Nat) : OnlyRegs [.FAB_LINK_STAT, .FAB_PORT_STAT] s (s.linkWidth j) := by
  have hwidth (n : Nat) : OnlyRegs [.FAB_LINK_STAT, .FAB_PORT_STAT] s (s.wr F.FAB_LINK_STAT_WIDTH j n) :=
    (OnlyRegs.refl _ s).wr _ _ _ (by decide)
  refine OnlyRegs.trans (OnlyRegs.ite ?_ (hwidth _)) ((State.portStat_onlyRegs _ _).mono (by decide))
  exact (hwidth _).wr _ _ _ (by decide)

theorem State.raisePort_onlyLogs (s : State) {f : Fld} (hf : f.reg = .FAB_PORT_CAUSE) (j sev : Nat) :
    OnlyLogs [.FAB_PORT_CAUSE] s (s.raisePort f j sev) :=
  ((OnlyLogs.refl _ s).wr _ _ _ (by decide)).raise _ _ _ _ _ (by simp [hf])

theorem State.flag_raisePort (s : State) {f : Fld} (hf : f.reg = .FAB_PORT_CAUSE ∧ f.lo ≤ f.hi ∧ f.hi < 32) (j sev : Nat) :
    (s.raisePort f j sev).flag f (j / 8) = true :=
  State.flag_raise_same _ _ _ _ _ _ ⟨by rw [hf.1]; decide, hf.2⟩

/-! ### The state of a link -/

theorem State.lkState_wr (s : State) (j i st : Nat) (hst : st < 8) :
    (s.wr F.FAB_LINK_STAT_STATE j st).lkState i = if i = j then st else s.lkState i := by
  split
  · next e => rw [e, State.lkState, State.rd_wr_same _ _ _ _ (by decide)]; exact Nat.mod_eq_of_lt hst
  · next e => exact State.rd_wr_idx _ _ _ _ _ _ e

theorem SameRegs.lkState {rs : List Reg} {s t : State} (h : SameRegs rs s t) (hr : .FAB_LINK_STAT ∉ rs) (j : Nat) :
    t.lkState j = s.lkState j := h.rd hr j

theorem State.lkCarries_iff (s : State) (j : Nat) : s.lkCarries j = true ↔ s.lkState j = 3 ∨ s.lkState j = 4 ∨ s.lkState j = 5 := by
  simp [State.lkCarries, or_assoc]

theorem State.lkRuns_iff (s : State) (j : Nat) : s.lkRuns j = true ↔ 3 ≤ s.lkState j ∧ s.lkState j ≤ 6 := by
  have hruns : s.lkRuns j = true ↔ s.lkCarries j = true ∨ s.lkState j = 6 := by simp [State.lkRuns]
  rw [hruns, State.lkCarries_iff]
  omega

theorem State.lkState_linkWidth (s : State) (j : Nat) : (s.linkWidth j).lkState j =
    if s.lkState j = 3 ∨ s.lkState j = 4 then (if (s.activeLanes j).length = modeWidth (s.mode j) then 3 else 4) else s.lkState j := by
  unfold State.linkWidth
  extract_lets n s1 s2
  have h1 : s1.lkState j = s.lkState j := State.rd_wr_ne _ _ _ _ _ _ (by decide)
  rw [(s2.portStat_onlyRegs _).1.lkState (by decide), show s2.lkState j = _ from apply_ite (fun v : State => v.lkState j) _ _ _, h1]
  split
  · rw [State.lkState_wr _ _ _ _ (by split <;> decide), if_pos rfl]
  · rfl

/-! ### The states of lanes -/

theorem State.lane_wr (s : State) (k i st : Nat) (hst : st < 8) :
    (s.wr F.FAB_LANE_STAT_STATE k st).rd F.FAB_LANE_STAT_STATE i = if i = k then st else s.rd F.FAB_LANE_STAT_STATE i := by
  split
  · next e => rw [e, State.rd_wr_same _ _ _ _ (by decide)]; exact Nat.mod_eq_of_lt hst
  · next e => exact State.rd_wr_idx _ _ _ _ _ _ e

/-- Lanes that are set read what they are set to. -/
theorem State.lane_setLanes_of_mem (s : State) {p st x : Nat} {l : List Nat} (hst : st < 8) (hx : x ∈ l) :
    (s.setLanes p l st).rd F.FAB_LANE_STAT_STATE (8 * p + x) = st := by
  refine foldl_of_mem (fun v : State => v.rd F.FAB_LANE_STAT_STATE (8 * p + x) = st) _ (fun v y hv => ?_) (fun v => ?_) l s hx
  · rw [State.lane_wr _ _ _ _ hst, hv, ite_self]
  · rw [State.lane_wr _ _ _ _ hst, if_pos rfl]

theorem State.laneOn_iff (s : State) (i : Nat) :
    s.laneOn i = true ↔ s.rd F.FAB_LANE_STAT_STATE i = 2 ∨ s.rd F.FAB_LANE_STAT_STATE i = 3 := by simp [State.laneOn]

theorem State.laneOff_of_lane {s : State} {i st : Nat} (h : s.rd F.FAB_LANE_STAT_STATE i = st) (hst : st ≠ 2 ∧ st ≠ 3) :
    s.laneOn i = false := by
  rw [Bool.eq_false_iff, ne_eq, State.laneOn_iff, h]
  omega

theorem SameRegs.laneOn {rs : List Reg} {s t : State} (h : SameRegs rs s t) (hr : .FAB_LANE_STAT ∉ rs) (i : Nat) :
    t.laneOn i = s.laneOn i := by
  have hrd : t.rd F.FAB_LANE_STAT_STATE i = s.rd F.FAB_LANE_STAT_STATE i := h.rd hr i
  rw [State.laneOn, hrd, State.laneOn]

/-- A lane that is off stays off while lanes are set to a state that is off. -/
theorem State.laneOff_setLanes {s : State} {i : Nat} (h : s.laneOn i = false) (p : Nat) (l : List Nat) {st : Nat}
    (hst : st < 8 ∧ st ≠ 2 ∧ st ≠ 3) : (s.setLanes p l st).laneOn i = false := by
  obtain ⟨hlt, hoff⟩ := hst
  refine List.foldlRecOn (motive := fun v : State => v.laneOn i = false) l _ h fun v hv x _ => ?_
  have hwr := v.lane_wr (8 * p + x) i st hlt
  split at hwr
  · exact State.laneOff_of_lane hwr hoff
  · rw [State.laneOn, hwr]
    exact hv

theorem State.mem_activeLanes (s : State) (i j : Nat) : i ∈ s.activeLanes j ↔
    (∃ x ∈ linkLanes (s.mode j) (j % 8), i = 8 * (j / 8) + x) ∧ s.laneOn i = true := by
  simp only [State.activeLanes, List.mem_filter, List.mem_map, State.laneOn, mul_comm, eq_comm]

theorem SameRegs.activeLanes {rs : List Reg} {s t : State} (h : SameRegs rs s t)
    (hr : .FAB_LANE_STAT ∉ rs ∧ .FAB_PORT_CFG ∉ rs) (j : Nat) : t.activeLanes j = s.activeLanes j := by
  have hmode : t.mode j = s.mode j := h.rd (f := F.FAB_PORT_CFG_MODE) hr.2 _
  have hlane (i : Nat) : t.rd F.FAB_LANE_STAT_STATE i = s.rd F.FAB_LANE_STAT_STATE i := h.rd hr.1 i
  simp only [State.activeLanes, hmode, hlane]

/-! ### Control messages -/

theorem Within.ctrlNow {rs : List Reg} {s u : State} (h : Within rs s u) (j : Nat) (m : CtrlMsg) : Within rs s (u.ctrlNow j m) :=
  .ite (h.modLink _ _) ((h.modLink _ _).emit _)

/-- A control message leaves the registers. -/
theorem State.regs_ctrlNow (s : State) (j : Nat) (m : CtrlMsg) : SameRegs [] s (s.ctrlNow j m) :=
  ((Within.refl [] s).ctrlNow j m).regs

theorem State.nakCount_ctrlNow (s : State) (j : Nat) (m : CtrlMsg) : ((s.ctrlNow j m).link j).nakCount = (s.link j).nakCount := by
  unfold State.ctrlNow
  extract_lets l t c
  split
  · have hlink : (s.sendCtrl j m).link j = { s.link j with ctrl := (s.link j).ctrl ++ [m] } := s.link_modLink_same j _
    rw [hlink]
  · obtain ⟨v, n, returns, hcarry⟩ := Link.carry_eq
      { l with txSeq := (l.txSeq + 1) % 256, replay := l.replay ++ [t], slots := l.slots + 1 } t.flit
    have hc : c.2 = _ := congrArg Prod.snd hcarry
    have hlink : ((s.modLink j fun _ => c.2).emit (.flit j c.1)).link j = c.2 := s.link_modLink_same j fun _ => c.2
    rw [hlink, hc]

theorem Within.replayFrom {rs : List Reg} {s u : State} (h : Within rs s u) (hr : .FAB_LINK_REPLAY_CNT ∈ rs) (j : Nat) :
    Within rs s (u.replayFrom j) := .ite (h.modLink _ _) ((h.modLink _ _).wr _ _ hr)

/-! ### A link goes down -/

/-- What is left of the state of a link that goes out of service. -/
def Link.cleared (l : Link) : Link := { ({} : Link) with expect := l.expect, interval := l.interval, faulted := l.faulted }

/-- The link is out of service; its lanes have still to be given back. -/
def State.unlinked (s : State) (j st : Nat) : State :=
  (((s.modLink j Link.cleared).wr F.FAB_PORT_CMD_RETRAIN (j / 8) (s.rd F.FAB_PORT_CMD_RETRAIN (j / 8) &&& (255 - 2 ^ (j % 8)))).wr
    F.FAB_LINK_STAT_STATE j st).wr F.FAB_LINK_STAT_WIDTH j 0

theorem State.clearLink_eq (s : State) (j st : Nat) : ∃ l,
    s.clearLink j st = (((s.unlinked j st).setLanes (j / 8) l 0).portStat (j / 8)) := ⟨_, rfl⟩

theorem State.clearLink_onlyRegs (s : State) (j st : Nat) :
    OnlyRegs [.FAB_LANE_STAT, .FAB_PORT_STAT] (s.unlinked j st) (s.clearLink j st) := by
  obtain ⟨l, h⟩ := s.clearLink_eq j st
  rw [h]
  exact ((State.setLanes_onlyRegs _ _ _ _).mono (by decide)).trans ((State.portStat_onlyRegs _ _).mono (by decide))

theorem State.unlinked_onlyRegs (s : State) (j st : Nat) :
    OnlyRegs [.FAB_PORT_CMD, .FAB_LINK_STAT] (s.modLink j Link.cleared) (s.unlinked j st) :=
  (((OnlyRegs.refl _ _).wr _ _ _ (by decide)).wr _ _ _ (by decide)).wr _ _ _ (by decide)

theorem State.unlinked_within (s : State) (j st : Nat) : Within [.FAB_PORT_CMD, .FAB_LINK_STAT] s (s.unlinked j st) :=
  ((Within.refl _ s).modLink j _).trans (.of_onlyRegs (s.unlinked_onlyRegs j st))

/-- A write of RETRAIN leaves the states of links. -/
theorem State.lkState_wr_retrain (s : State) (p v i : Nat) : (s.wr F.FAB_PORT_CMD_RETRAIN p v).lkState i = s.lkState i :=
  State.rd_wr_ne _ _ _ _ _ _ (by decide)

theorem State.lkState_unlinked (s : State) (j i : Nat) {st : Nat} (hst : st < 8) :
    (s.unlinked j st).lkState i = if i = j then st else s.lkState i := by
  unfold State.unlinked
  rw [State.lkState, State.rd_wr_ne _ _ _ _ _ _ (by decide), ← State.lkState, State.lkState_wr _ _ _ _ hst, State.lkState_wr_retrain,
    ((Within.refl [] s).modLink j Link.cleared).regs.lkState (by decide)]

theorem State.lkState_clearLink (s : State) (j i : Nat) {st : Nat} (hst : st < 8) :
    (s.clearLink j st).lkState i = if i = j then st else s.lkState i := by
  rw [(s.clearLink_onlyRegs j st).1.lkState (by decide), State.lkState_unlinked _ _ _ hst]

theorem State.link_clearLink (s : State) (j st : Nat) : (s.clearLink j st).link j = (s.link j).cleared := by
  rw [State.link_congr ((s.clearLink_onlyRegs j st).fab_eq.trans (s.unlinked_onlyRegs j st).fab_eq), State.link_modLink_same]

theorem State.laneOff_clearLink {s : State} {i : Nat} (h : s.laneOn i = false) (j st : Nat) : (s.clearLink j st).laneOn i = false := by
  obtain ⟨l, hclear⟩ := s.clearLink_eq j st
  rw [hclear, (State.portStat_onlyRegs _ _).1.laneOn (by decide)]
  refine State.laneOff_setLanes ?_ _ _ (by decide)
  rw [(s.unlinked_within j st).regs.laneOn (by decide)]
  exact h

theorem Within.clearLink {s u : State} (h : Within seamRegs s u) (j st : Nat) : Within seamRegs s (u.clearLink j st) :=
  (h.trans ((u.unlinked_within j st).mono (by decide))).onlyRegs (u.clearLink_onlyRegs j st) (by decide)

theorem State.linkStop_after (s : State) (j st : Nat) : Within lossRegs (s.clearLink j st) (s.linkStop j st) :=
  (Within.refl _ _).resendHeld _

theorem Within.linkStop {s u : State} (h : Within seamRegs s u) (j st : Nat) : Within seamRegs s (u.linkStop j st) :=
  (h.clearLink j st).trans ((u.linkStop_after j st).mono lossRegs_subset_seamRegs)

theorem State.lkState_linkStop (s : State) (j i : Nat) {st : Nat} (hst : st < 8) :
    (s.linkStop j st).lkState i = if i = j then st else s.lkState i := by
  rw [(s.linkStop_after j st).regs.lkState (by decide), State.lkState_clearLink _ _ _ hst]

/-! ### Faults of links (R175, R200, R201) -/

theorem Within.sendDown {rs : List Reg} {s u : State} (h : Within rs s u) (j : Nat) (b : Bool) : Within rs s (u.sendDown j b) :=
  .ite h (h.ctrlNow _ _)

/-- A link is down by a fault, with its cause raised; notices and packets to be sent again come after. -/
def State.torn (s : State) (j : Nat) : State :=
  ((((s.sendDown j false).clearLink j lkDown).modLink j fun l => { l with faulted := true }).count
    F.FAB_LINK_DOWN_CNT_COUNT j).raisePort F.FAB_PORT_CAUSE_LINK_DOWN j 2

/-- Registers that a link's fault writes beside its own state and those of its lanes. -/
theorem State.torn_after (s : State) (j : Nat) : Within ([.FAB_LINK_DOWN_CNT, .FAB_PORT_CAUSE] ++ recRegs)
    ((s.sendDown j false).clearLink j lkDown) (s.torn j) :=
  (((Within.refl _ _).modLink _ _).wr _ _ (by decide)).onlyLogs (State.raisePort_onlyLogs _ rfl _ _) (by decide)

theorem State.linkLoss_after (s : State) (j : Nat) : Within lossRegs (s.torn j) (s.linkLoss j) :=
  (((Within.refl _ _).markStale j).faultSeen).resendHeld _

theorem State.lkState_linkLoss (s : State) (j i : Nat) : (s.linkLoss j).lkState i = if i = j then lkDown else s.lkState i := by
  rw [(s.linkLoss_after j).regs.lkState (by decide), (s.torn_after j).regs.lkState (by decide), State.lkState_clearLink _ _ _ (by decide),
    ((Within.refl [] s).sendDown j false).regs.lkState (by decide)]

theorem State.flag_linkLoss (s : State) (j : Nat) : (s.linkLoss j).flag F.FAB_PORT_CAUSE_LINK_DOWN (j / 8) = true := by
  rw [(s.linkLoss_after j).regs.flag (by decide)]
  exact State.flag_raisePort _ (by decide) _ _

theorem State.laneOff_linkLoss {s : State} {i : Nat} (h : s.laneOn i = false) (j : Nat) : (s.linkLoss j).laneOn i = false := by
  rw [(s.linkLoss_after j).regs.laneOn (by decide), (s.torn_after j).regs.laneOn (by decide)]
  refine State.laneOff_clearLink ?_ _ _
  rw [((Within.refl [] s).sendDown j false).regs.laneOn (by decide)]
  exact h

theorem Within.linkLoss {s u : State} (h : Within seamRegs s u) (j : Nat) : Within seamRegs s (u.linkLoss j) :=
  (((h.sendDown j false).clearLink j _).trans ((u.torn_after j).mono (by decide))).trans
    ((u.linkLoss_after j).mono lossRegs_subset_seamRegs)

theorem State.linkFault_of_up {s : State} {j : Nat} (h : s.lkState j ≠ lkDown ∧ s.lkState j ≠ lkDisabled) (b : Bool) :
    Within lossRegs (s.linkLoss j) (s.linkFault j b) := by
  have hnotice : Within lossRegs (s.linkLoss j) ((s.linkLoss j).notice 0 s.myId (j / 8) (j % 8)) := (Within.refl _ _).notice _ _ _ _
  unfold State.linkFault
  rw [if_neg (by simp [h.1, h.2])]
  exact .ite (hnotice.peerGone _ _ _) hnotice

theorem State.linkFault_cases (s : State) (j : Nat) (b : Bool) :
    s.linkFault j b = s ∨ Within lossRegs (s.linkLoss j) (s.linkFault j b) := by
  by_cases h : s.lkState j = lkDown ∨ s.lkState j = lkDisabled
  · exact .inl (if_pos (by simpa using h))
  · exact .inr (State.linkFault_of_up (not_or.1 h) b)

theorem Within.linkFault {s u : State} (h : Within seamRegs s u) (j : Nat) (b : Bool) : Within seamRegs s (u.linkFault j b) := by
  rcases u.linkFault_cases j b with hnone | hfault
  · rw [hnone]
    exact h
  · exact (h.linkLoss j).trans (hfault.mono lossRegs_subset_seamRegs)

theorem State.laneOff_linkFault {s : State} {i : Nat} (h : s.laneOn i = false) (j : Nat) (b : Bool) :
    (s.linkFault j b).laneOn i = false := by
  rcases s.linkFault_cases j b with hnone | hfault
  · rw [hnone]
    exact h
  · rw [hfault.regs.laneOn (by decide)]
    exact State.laneOff_linkLoss h j

/-- A link that runs is down after a fault, with LINK_DOWN raised. -/
theorem State.linkFault_of_runs {s : State} {j : Nat} (h : s.lkRuns j = true) (b : Bool) :
    (s.linkFault j b).lkState j = lkDown ∧ (s.linkFault j b).flag F.FAB_PORT_CAUSE_LINK_DOWN (j / 8) = true := by
  obtain ⟨hlow, -⟩ := (s.lkRuns_iff j).1 h
  have hup : s.lkState j ≠ lkDown ∧ s.lkState j ≠ lkDisabled :=
    ⟨((by decide : lkDown < 3).trans_le hlow).ne', ((by decide : lkDisabled < 3).trans_le hlow).ne'⟩
  have hfault := State.linkFault_of_up hup b
  rw [hfault.regs.lkState (by decide), hfault.regs.flag (by decide), State.lkState_linkLoss, if_pos rfl, State.flag_linkLoss]
  exact ⟨rfl, rfl⟩

/-! ### Lanes leave a link (R172, R178) -/

/-- The lanes of a link after some of them leave: a keep-alive lane is replaced. -/
def State.dropped (s : State) (j : Nat) (lanes : List Nat) (st : Nat) : State :=
  if (lanes.any fun l => s.rd F.FAB_LANE_STAT_STATE (8 * (j / 8) + l) = 3) = true ∧
    (s.setLanes (j / 8) lanes st).activeLanes j = [] then (s.setLanes (j / 8) lanes st).nextKeep j else s.setLanes (j / 8) lanes st

/-- Registers that lanes leaving a link write beside the states of lanes. -/
def dropRegs : List Reg := [.FAB_LINK_STAT, .FAB_PORT_STAT, .FAB_PORT_CAUSE] ++ recRegs

theorem State.dropLanes_after (s : State) (j : Nat) (lanes : List Nat) (st : Nat) (note : Bool) :
    Within dropRegs (s.dropped j lanes st) (s.dropLanes j lanes st note) := by
  have hwidth : Within dropRegs (s.dropped j lanes st) (((s.dropped j lanes st).linkWidth j).modLink j fun l => { l with nakCount := 0 }) :=
    ((Within.refl _ _).onlyRegs (State.linkWidth_onlyRegs _ _) (by decide)).modLink _ _
  exact .ite (hwidth.onlyLogs (State.raisePort_onlyLogs _ rfl _ _) (by decide)) hwidth

theorem State.nextKeep_onlyRegs (s : State) (j : Nat) : OnlyRegs [.FAB_LANE_STAT, .FAB_PORT_STAT] s (s.nextKeep j) := by
  unfold State.nextKeep
  split
  · exact ((State.setLanes_onlyRegs _ _ _ _).mono (by decide)).trans ((State.portStat_onlyRegs _ _).mono (by decide))
  · exact OnlyRegs.refl _ _

/-- The lane that takes the place of a keep-alive lane read 0 before. -/
theorem State.lane_nextKeep {s : State} {i st : Nat} (h : s.rd F.FAB_LANE_STAT_STATE i = st) (hst : st ≠ 0) (j : Nat) :
    (s.nextKeep j).rd F.FAB_LANE_STAT_STATE i = st := by
  unfold State.nextKeep
  split
  · next l hl =>
    have hzero : s.rd F.FAB_LANE_STAT_STATE (j / 8 * 8 + l) = 0 := by simpa using List.find?_some hl
    have hne : i ≠ 8 * (j / 8) + l := by
      rintro rfl
      rw [mul_comm, hzero] at h
      exact hst h.symm
    rw [(State.portStat_onlyRegs _ _).1.rd (by decide)]
    exact (State.rd_wr_idx _ _ _ _ _ _ hne).trans h
  · exact h

theorem State.lane_dropped (s : State) (j : Nat) {lanes : List Nat} {st x : Nat} (hst : st < 8 ∧ st ≠ 0) (hx : x ∈ lanes) :
    (s.dropped j lanes st).rd F.FAB_LANE_STAT_STATE (8 * (j / 8) + x) = st := by
  have hset := s.lane_setLanes_of_mem (p := j / 8) hst.1 hx
  unfold State.dropped
  split
  · exact State.lane_nextKeep hset hst.2 j
  · exact hset

theorem Within.setLanes {rs : List Reg} {s u : State} (h : Within rs s u) (hr : .FAB_LANE_STAT ∈ rs) (p : Nat) (l : List Nat) (st : Nat) :
    Within rs s (u.setLanes p l st) :=
  h.onlyRegs (u.setLanes_onlyRegs p l st) (List.cons_subset.2 ⟨hr, List.nil_subset _⟩)

theorem Within.dropLanes {s u : State} (h : Within seamRegs s u) (j : Nat) (lanes : List Nat) (st : Nat) (note : Bool) :
    Within seamRegs s (u.dropLanes j lanes st note) := by
  have hset := h.setLanes (by decide) (j / 8) lanes st
  have hdrop : Within seamRegs s (u.dropped j lanes st) := .ite (hset.onlyRegs (State.nextKeep_onlyRegs _ _) (by decide)) hset
  exact hdrop.trans ((u.dropLanes_after j lanes st note).mono (by decide))

/-! ### Training (R176, R177) -/

/-- A link in training, its lanes set: its state beside its registers has still to be cleared. -/
def State.intoTraining (s : State) (j : Nat) (use dis : List Nat) : State :=
  (((s.setLanes (j / 8) use 1).setLanes (j / 8) dis 6).wr F.FAB_LINK_STAT_STATE j lkTraining).wr F.FAB_LINK_PEER_VALID j 0

theorem State.train_eq (s : State) (j : Nat) : ∃ use dis f, s.train j = (s.intoTraining j use dis).modLink j f := by
  unfold State.train
  exact ⟨_, _, _, rfl⟩

theorem State.train_after (s : State) (j : Nat) : ∃ use dis, Within [] (s.intoTraining j use dis) (s.train j) := by
  obtain ⟨use, dis, f, htrain⟩ := s.train_eq j
  exact ⟨use, dis, htrain ▸ (Within.refl [] _).modLink j f⟩

theorem State.train_within (s : State) (j : Nat) : Within [.FAB_LANE_STAT, .FAB_LINK_STAT, .FAB_LINK_PEER] s (s.train j) := by
  obtain ⟨use, dis, hafter⟩ := s.train_after j
  refine Within.trans ?_ (hafter.mono (List.nil_subset _))
  exact ((((Within.refl _ s).setLanes (by decide) _ _ _).setLanes (by decide) _ _ _).wr _ _ (by decide)).wr _ _ (by decide)

theorem Within.train {s u : State} (h : Within seamRegs s u) (j : Nat) : Within seamRegs s (u.train j) :=
  h.trans ((u.train_within j).mono (by decide))

theorem State.lkState_train (s : State) (j i : Nat) : (s.train j).lkState i = if i = j then lkTraining else s.lkState i := by
  obtain ⟨use, dis, hafter⟩ := s.train_after j
  rw [hafter.regs.lkState (by decide), State.intoTraining, State.lkState, State.rd_wr_ne _ _ _ _ _ _ (by decide), ← State.lkState,
    State.lkState_wr _ _ _ _ (by decide), (State.setLanes_onlyRegs _ _ _ _).1.lkState (by decide),
    (State.setLanes_onlyRegs _ _ _ _).1.lkState (by decide)]

theorem State.flag_train (s : State) (j : Nat) : (s.train j).flag F.FAB_LINK_PEER_VALID j = false := by
  obtain ⟨use, dis, hafter⟩ := s.train_after j
  rw [hafter.regs.flag (by decide)]
  exact State.flag_wr_zero _ _ _ (by decide)

end Sys2Proof.Machine
end

section
/-! PROOFS.  HELLO, training, retraining and the set-up of ports (R165, R168, R174 to R180), and the statement on them. -/

namespace Sys2Proof.Machine

/-! ### HELLO and round trips (R168, R177) -/

/-- The peer's HELLO is taken: its identity is shown, and the link keeps what its buffers hold. -/
def State.greeted (s : State) (j : Nat) (h : Hello) : State :=
  (((((s.inTurn j).wr F.FAB_LINK_PEER_VALID j 1).wr F.FAB_LINK_PEER_MODULE j h.module.toNat).wr F.FAB_LINK_PEER_PORT j
    h.port.toNat).wr F.FAB_LINK_PEER_LINK j h.link.toNat).modLink j fun l =>
      { l with peerWidth := h.width.toNat, peerBuf := h.vcbuf.map BitVec.toNat, peerKeep := h.keepalive }

/-- A duplicate of this module's ID is noted (R182). -/
def State.dupSeen (s : State) (id : Nat) : State :=
  ({ s with fab := { s.fab with dupId := true } }).raise F.FAB_TR_CAUSE_DUPID 0 0 [wd id]

/-- A change of the fabric, of registers of `rs` and of what entering a record changes. -/
theorem OnlyLogs.of_onlySent {rs : List Reg} {s t : State} (h : OnlySent s t) (hr : SameRegs (rs ++ recRegs) s t) :
    OnlyLogs rs { s with fab := t.fab } t :=
  ⟨hr, (congrArg (fun v : State => { v with fab := t.fab }) h :)⟩

theorem OnlySent.wr {s u : State} (h : OnlySent s u) (f : Fld) (i v : Nat) : OnlySent s (u.wr f i v) := h

theorem OnlySent.modLink {s u : State} (h : OnlySent s u) (j : Nat) (f : Link → Link) : OnlySent s (u.modLink j f) := h

theorem OnlySent.onlyLogs {rs : List Reg} {s u v : State} (h : OnlySent s u) (hv : OnlyLogs rs u v) : OnlySent s v :=
  (congrArg (fun w : State => { w with fab := {} }) hv.2 :).trans h

theorem State.greeted_onlySent (s : State) (j : Nat) (h : Hello) : OnlySent s (s.greeted j h) := by
  have hturn : OnlySent s (s.inTurn j) := OnlySent.modLink (show OnlySent s s from rfl) j _
  exact ((((hturn.wr _ _ _).wr _ _ _).wr _ _ _).wr _ _ _).modLink j _

theorem State.greeted_within (s : State) (j : Nat) (h : Hello) :
    Within ([.FAB_LINK_PEER, .FAB_TR_CAUSE] ++ recRegs) s (s.greeted j h) := by
  have hturn : Within ([.FAB_LINK_PEER, .FAB_TR_CAUSE] ++ recRegs) s (s.inTurn j) := (Within.refl _ s).modLink j _
  exact ((((hturn.wr _ _ (by decide)).wr _ _ (by decide)).wr _ _ (by decide)).wr _ _ (by decide)).modLink j _

/-- The fields of a peer's identity lie apart. -/
theorem State.rd_greeted (s : State) (j : Nat) (h : Hello) : (s.greeted j h).flag F.FAB_LINK_PEER_VALID j = true ∧
    (s.greeted j h).rd F.FAB_LINK_PEER_MODULE j = h.module.toNat ∧ (s.greeted j h).rd F.FAB_LINK_PEER_PORT j = h.port.toNat ∧
    (s.greeted j h).rd F.FAB_LINK_PEER_LINK j = h.link.toNat := by
  unfold State.greeted
  generalize s.inTurn j = u
  have hregs (v : State) (f : Link → Link) (g : Fld) : (v.modLink j f).rd g j = v.rd g j :=
    ((Within.refl [] v).modLink j f).regs.rd List.not_mem_nil j
  rw [State.flag, hregs, hregs, hregs, hregs]
  refine ⟨?valid, ?module, ?port, ?link⟩
  case valid =>
    rw [State.rd_wr_ne _ _ _ _ _ _ (by decide), State.rd_wr_ne _ _ _ _ _ _ (by decide), State.rd_wr_ne _ _ _ _ _ _ (by decide)]
    exact u.flag_wr_one F.FAB_LINK_PEER_VALID j (by decide)
  case module =>
    rw [State.rd_wr_ne _ _ _ _ _ _ (by decide), State.rd_wr_ne _ _ _ _ _ _ (by decide), State.rd_wr_same _ _ _ _ (by decide)]
    exact Nat.mod_eq_of_lt h.module.isLt
  case port =>
    rw [State.rd_wr_ne _ _ _ _ _ _ (by decide), State.rd_wr_same _ _ _ _ (by decide)]
    exact Nat.mod_eq_of_lt h.port.isLt
  case link =>
    rw [State.rd_wr_same _ _ _ _ (by decide)]
    exact Nat.mod_eq_of_lt h.link.isLt

theorem State.dupSeen_frame (s : State) (id : Nat) :
    OnlyLogs [.FAB_TR_CAUSE] { s with fab := { s.fab with dupId := true } } (s.dupSeen id) :=
  (OnlyLogs.refl _ _).raise _ _ _ _ _ (by decide)

theorem State.dupSeen_regs (s : State) (id : Nat) : SameRegs ([.FAB_TR_CAUSE] ++ recRegs) s (s.dupSeen id) := (s.dupSeen_frame id).1

theorem State.dupSeen_onlySent (s : State) (id : Nat) : OnlySent s (s.dupSeen id) :=
  OnlySent.onlyLogs (u := { s with fab := { s.fab with dupId := true } }) rfl (s.dupSeen_frame id)

theorem State.dupSeen_effect (s : State) (id : Nat) : (s.dupSeen id).fab.dupId = true ∧
    (s.dupSeen id).flag F.FAB_TR_CAUSE_DUPID = true :=
  ⟨congrArg Fabric.dupId (s.dupSeen_frame id).fab_eq, State.flag_raise_same _ _ _ _ _ _ (by decide)⟩

theorem execHello_effect {j : Fin 144} {q : BitVec 8} {s : State} (htrain : s.lkState j = lkTraining)
    (hseq : q.toNat = (s.link j).rxAck) (h : Hello) : ∃ t, execHello j q h s = .next t ∧ t.flag F.FAB_LINK_PEER_VALID j = true ∧
    t.rd F.FAB_LINK_PEER_MODULE j = h.module.toNat ∧ t.rd F.FAB_LINK_PEER_PORT j = h.port.toNat ∧
    t.rd F.FAB_LINK_PEER_LINK j = h.link.toNat ∧
    (h.module.toNat = s.myId → t.fab.dupId = true ∧ t.flag F.FAB_TR_CAUSE_DUPID = true) ∧
    OnlyLogs [.FAB_LINK_PEER, .FAB_TR_CAUSE] { s with fab := t.fab } t := by
  have hexec : execHello j q h s = if h.module.toNat = s.myId then .next ((s.greeted j h).dupSeen s.myId) else .next (s.greeted j h) :=
    if_pos ⟨htrain, hseq⟩
  obtain ⟨hvalid, hmodule, hport, hlink⟩ := s.rd_greeted j h
  by_cases hid : h.module.toNat = s.myId
  · have hpeer {f : Fld} (hf : f.reg = .FAB_LINK_PEER) : ((s.greeted j h).dupSeen s.myId).rd f j = (s.greeted j h).rd f j :=
      ((s.greeted j h).dupSeen_regs s.myId).rd (by rw [hf]; decide) j
    have hregs : SameRegs ([.FAB_LINK_PEER, .FAB_TR_CAUSE] ++ recRegs) s ((s.greeted j h).dupSeen s.myId) := fun r i hr =>
      (((s.greeted j h).dupSeen_regs s.myId) r i fun e => hr (List.mem_cons_of_mem _ e)).trans ((s.greeted_within j h).regs r i hr)
    refine ⟨_, hexec.trans (if_pos hid), ?_⟩
    rw [State.flag, hpeer rfl, hpeer rfl, hpeer rfl, hpeer rfl]
    exact ⟨hvalid, hmodule, hport, hlink, fun _ => State.dupSeen_effect _ _,
      .of_onlySent ((s.greeted_onlySent j h).trans (State.dupSeen_onlySent _ _)) hregs⟩
  · exact ⟨_, hexec.trans (if_neg hid), hvalid, hmodule, hport, hlink, fun e => absurd e hid,
      .of_onlySent (s.greeted_onlySent j h) (s.greeted_within j h).regs⟩

theorem execRttMeasure_effect {j : Fin 144} {s : State} (h : s.lkCarries j = true) (ns : Nat) : ∃ t, execRttMeasure j ns s = .next t ∧
    t.rd F.FAB_LINK_STAT_RTT j = min ns 0xFFFF ∧ OnlyRegs [.FAB_LINK_STAT] s t := by
  refine ⟨_, if_pos h, ?_, (OnlyRegs.refl _ s).wr _ _ _ (by decide)⟩
  rw [State.rd_wr_same _ _ _ _ (by decide)]
  exact Nat.mod_eq_of_lt ((min_le_right _ _).trans_lt (by decide))

/-! ### The end of training (R159, R168, R172, R176 to R178) -/

section Done
variable {j : Fin 144} {s : State}

/-- RETRAIN shows no longer for a link whose training has ended. -/
def State.trainOver (s : State) (j : Nat) : State :=
  s.wr F.FAB_PORT_CMD_RETRAIN (j / 8) (s.rd F.FAB_PORT_CMD_RETRAIN (j / 8) &&& (255 - 2 ^ (j % 8)))

theorem State.trainFail_effect (s : State) (j : Nat) : (s.trainFail j).lkState j = lkDown ∧
    ((s.trainFail j).link j).interval = min 10000 (2 * (s.link j).interval) ∧
    (s.trainFail j).flag F.FAB_PORT_CAUSE_TRAIN_FAIL (j / 8) = true ∧ Within seamRegs s (s.trainFail j) := by
  have hraise := State.raisePort_onlyLogs ((s.clearLink j lkDown).modLink j fun l => { l with interval := min 10000 (2 * l.interval) })
    (f := F.FAB_PORT_CAUSE_TRAIN_FAIL) rfl j 0
  have hclear := ((Within.refl seamRegs s).clearLink j lkDown).modLink j fun l => { l with interval := min 10000 (2 * l.interval) }
  refine ⟨?state, ?interval, State.flag_raisePort _ (by decide) _ _, hclear.onlyLogs hraise (by decide)⟩
  case state =>
    rw [State.trainFail, hraise.1.lkState (by decide), ((Within.refl [] _).modLink j _).regs.lkState (by decide),
      State.lkState_clearLink _ _ _ (by decide), if_pos rfl]
  case interval =>
    rw [State.trainFail, State.link_congr hraise.fab_eq, State.link_modLink_same, State.link_clearLink]
    rfl

theorem execLinkTrainingDone_unheard (lanes : BitVec 8) (rtt : BitVec 16) (htrain : s.lkState j = lkTraining)
    (hpeer : s.flag F.FAB_LINK_PEER_VALID j = false) : ∃ t, execLinkTrainingDone j lanes rtt s = .next t ∧
    t.lkState j = lkDown ∧ (t.link j).interval = min 10000 (2 * (s.link j).interval) ∧
    t.flag F.FAB_PORT_CAUSE_TRAIN_FAIL (j.val / 8) = true ∧ t.mem = s.mem ∧ t.store = s.store := by
  have hfirst : ¬ (s.lkState j = lkKeep ∨ s.lkState j = lkMiswired) := by rw [htrain]; decide
  have hflag : (s.trainOver j).flag F.FAB_LINK_PEER_VALID j = false := (State.flag_wr_ne _ _ _ _ _ _ (by decide)).trans hpeer
  have hwithin : Within seamRegs s (s.trainOver j) := (Within.refl _ s).wr _ _ (by decide)
  obtain ⟨hdown, hinterval, hfail, hframe⟩ := (s.trainOver j).trainFail_effect j
  have hall := hwithin.trans hframe
  refine ⟨(s.trainOver j).trainFail j, ?_, hdown, hinterval, hfail, hall.mem, hall.store⟩
  rw [execLinkTrainingDone, if_neg hfirst, if_pos htrain]
  exact if_pos (by rw [Bool.or_eq_true_iff, Bool.or_eq_true_iff]; exact .inl (.inr (by rw [← State.trainOver, hflag]; rfl)))

/-- The lanes of a link after training, with the measured round trip: lanes `good` passed, lanes `bad` did not. -/
def State.trainedOn (s : State) (j : Nat) (good bad : List Nat) (rtt : Nat) : State :=
  (((s.trainOver j).setLanes (j / 8) good 2).setLanes (j / 8) bad 4).wr F.FAB_LINK_STAT_RTT j rtt

/-- The peer's buffers are the credits of a link whose training is done. -/
def State.credited (s : State) (j : Nat) : State :=
  s.modLink j fun l => { l with credits := l.peerBuf, interval := 100, faulted := false }

/-- A link whose lanes are trained comes up. -/
def State.cameUp (s : State) (j : Nat) : State :=
  (((s.credited j).wr F.FAB_LINK_STAT_STATE j lkUp).linkWidth j).raisePort F.FAB_PORT_CAUSE_LINK_UP j 0

/-- The recomputed width leaves the round trip. -/
theorem State.rtt_linkWidth (s : State) (j : Nat) : (s.linkWidth j).rd F.FAB_LINK_STAT_RTT j = s.rd F.FAB_LINK_STAT_RTT j := by
  unfold State.linkWidth
  extract_lets n s1 s2
  have h1 : s1.rd F.FAB_LINK_STAT_RTT j = s.rd F.FAB_LINK_STAT_RTT j := State.rd_wr_ne _ _ _ _ _ _ (by decide)
  have h2 : s2.rd F.FAB_LINK_STAT_RTT j = s1.rd F.FAB_LINK_STAT_RTT j :=
    (apply_ite (fun v : State => v.rd F.FAB_LINK_STAT_RTT j) _ _ _).trans
      (by rw [State.rd_wr_ne _ _ _ _ _ _ (by decide), ite_self])
  rw [(s2.portStat_onlyRegs _).1.rd (by decide), h2, h1]

theorem State.carries_linkWidth {s : State} {j : Nat} (h : s.lkState j = lkUp) : (s.linkWidth j).lkCarries j = true := by
  rw [State.lkCarries_iff, State.lkState_linkWidth, if_pos (.inl h)]
  split
  · exact .inl rfl
  · exact .inr (.inl rfl)

theorem State.trainedOn_onlyRegs (s : State) (j : Nat) (good bad : List Nat) (rtt : Nat) :
    OnlyRegs [.FAB_PORT_CMD, .FAB_LANE_STAT, .FAB_LINK_STAT] s (s.trainedOn j good bad rtt) := by
  have hover : OnlyRegs [.FAB_PORT_CMD, .FAB_LANE_STAT, .FAB_LINK_STAT] s (s.trainOver j) := (OnlyRegs.refl _ s).wr _ _ _ (by decide)
  exact ((hover.trans ((State.setLanes_onlyRegs _ _ _ _).mono (by decide))).trans
    ((State.setLanes_onlyRegs _ _ _ _).mono (by decide))).wr _ _ _ (by decide)

theorem State.rtt_trainedOn (s : State) (j : Nat) (good bad : List Nat) (rtt : BitVec 16) :
    (s.trainedOn j good bad rtt.toNat).rd F.FAB_LINK_STAT_RTT j = rtt.toNat :=
  (State.rd_wr_same _ _ _ _ (by decide)).trans (Nat.mod_eq_of_lt rtt.isLt)

theorem State.credited_within (s : State) (j : Nat) : Within [] s (s.credited j) := (Within.refl [] s).modLink j _

theorem State.cameUp_onlyLogs (s : State) (j : Nat) : OnlyLogs [.FAB_PORT_CAUSE]
    (((s.credited j).wr F.FAB_LINK_STAT_STATE j lkUp).linkWidth j) (s.cameUp j) := State.raisePort_onlyLogs _ rfl _ _

theorem State.widthUp_onlyRegs (s : State) (j : Nat) : OnlyRegs [.FAB_LINK_STAT, .FAB_PORT_STAT] (s.credited j)
    (((s.credited j).wr F.FAB_LINK_STAT_STATE j lkUp).linkWidth j) :=
  ((OnlyRegs.refl _ _).wr _ _ _ (by decide)).trans (State.linkWidth_onlyRegs _ _)

theorem State.cameUp_effect (s : State) (j : Nat) : (s.cameUp j).lkCarries j = true ∧
    (s.cameUp j).rd F.FAB_LINK_STAT_RTT j = s.rd F.FAB_LINK_STAT_RTT j ∧ ((s.cameUp j).link j).credits = (s.link j).peerBuf ∧
    (s.cameUp j).flag F.FAB_PORT_CAUSE_LINK_UP (j / 8) = true ∧ Within seamRegs s (s.cameUp j) := by
  refine ⟨?carries, ?rtt, ?credits, State.flag_raisePort _ (by decide) _ _, ?frame⟩
  case carries =>
    rw [State.lkCarries_iff, (s.cameUp_onlyLogs j).1.lkState (by decide), ← State.lkCarries_iff]
    exact State.carries_linkWidth ((State.lkState_wr _ _ _ _ (by decide)).trans (if_pos rfl))
  case rtt =>
    rw [(s.cameUp_onlyLogs j).1.rd (by decide), State.rtt_linkWidth, State.rd_wr_ne _ _ _ _ _ _ (by decide),
      (s.credited_within j).regs.rd List.not_mem_nil]
  case credits =>
    rw [State.link_congr ((s.cameUp_onlyLogs j).fab_eq.trans (s.widthUp_onlyRegs j).fab_eq), State.credited, State.link_modLink_same]
  case frame =>
    exact (((s.credited_within j).mono (List.nil_subset _)).onlyRegs (s.widthUp_onlyRegs j) (by decide)).onlyLogs
      (s.cameUp_onlyLogs j) (by decide)

/-- The lanes of a link that are under test and passed. -/
def State.passing (s : State) (j : Nat) (lanes : BitVec 8) : List Nat :=
  (linkLanes (s.mode j) (j % 8)).filter fun l => lanes.getLsbD l && s.rd F.FAB_LANE_STAT_STATE (8 * (j / 8) + l) = 1

theorem execLinkTrainingDone_up (lanes : BitVec 8) (rtt : BitVec 16) (htrain : s.lkState j = lkTraining)
    (hpeer : s.flag F.FAB_LINK_PEER_VALID j = true) (hwidth : (s.link j).peerWidth = modeWidth (s.mode j))
    (hexpect : (s.link j).expect = none) (hgood : s.passing j lanes ≠ []) : ∃ t, execLinkTrainingDone j lanes rtt s = .next t ∧
    t.lkCarries j = true ∧ t.rd F.FAB_LINK_STAT_RTT j = rtt.toNat ∧ (t.link j).credits = (s.link j).peerBuf ∧
    t.flag F.FAB_PORT_CAUSE_LINK_UP (j.val / 8) = true ∧ t.mem = s.mem ∧ t.store = s.store := by
  have hfirst : ¬ (s.lkState j = lkKeep ∨ s.lkState j = lkMiswired) := by rw [htrain]; decide
  have hflag : (s.trainOver j).flag F.FAB_LINK_PEER_VALID j = true := (State.flag_wr_ne _ _ _ _ _ _ (by decide)).trans hpeer
  have hexec : ∃ bad, execLinkTrainingDone j lanes rtt s = .next ((s.trainedOn j (s.passing j lanes) bad rtt.toNat).cameUp j) := by
    rw [execLinkTrainingDone, if_neg hfirst, if_pos htrain]
    extract_lets p w good s0 l bad s1 s2 wrong
    have hcome : ¬ (good = [] || !(s0.flag F.FAB_LINK_PEER_VALID j) || l.peerWidth ≠ w) = true := by
      have hs0 : s0.flag F.FAB_LINK_PEER_VALID j = true := hflag
      have hl : l.peerWidth = w := hwidth
      have hg : good ≠ [] := hgood
      simp [hs0, hl, hg]
    have hright : wrong = false := by
      have hl : l.expect = none := hexpect
      simp only [wrong, hl]
    rw [if_neg hcome, hright]
    exact ⟨bad, rfl⟩
  obtain ⟨bad, hexec⟩ := hexec
  have htrained := s.trainedOn_onlyRegs j (s.passing j lanes) bad rtt.toNat
  obtain ⟨hcarries, hrtt, hcredits, hup, hframe⟩ := (s.trainedOn j (s.passing j lanes) bad rtt.toNat).cameUp_effect j
  have hall := ((Within.of_onlyRegs htrained).mono (by decide)).trans hframe
  exact ⟨_, hexec, hcarries, hrtt.trans (State.rtt_trainedOn _ _ _ _ _),
    hcredits.trans (congrArg Link.peerBuf (State.link_congr htrained.fab_eq j)), hup, hall.mem, hall.store⟩

theorem State.remapWide_effect (s : State) (j : Nat) (back : List Nat) : (s.remapWide j back).lkState j ≠ lkKeep ∧
    (∀ x ∈ back, (s.remapWide j back).rd F.FAB_LANE_STAT_STATE (8 * (j / 8) + x) = 2) ∧
    ((s.remapWide j back).link j).nakCount = (s.link j).nakCount ∧ Within seamRegs s (s.remapWide j back) := by
  unfold State.remapWide
  extract_lets mask keep s1 s2
  have h1 : OnlyRegs [.FAB_LANE_STAT] s s1 := s.setLanes_onlyRegs _ _ _
  have h2 : OnlyRegs [.FAB_LINK_STAT] s1 s2 := .ite ((OnlyRegs.refl _ _).wr _ _ _ (by decide)) (OnlyRegs.refl _ _)
  have hstate : s2.lkState j ≠ lkKeep := by
    have hif : s2.lkState j = if s1.lkState j = lkKeep then lkUp else s1.lkState j :=
      (apply_ite (fun v : State => v.lkState j) _ _ _).trans (by rw [State.lkState_wr _ _ _ _ (by decide), if_pos rfl])
    rw [hif]
    split
    · decide
    · assumption
  have hwidth := s2.linkWidth_onlyRegs j
  have hctrl := (s2.linkWidth j).regs_ctrlNow j (.remap mask)
  refine ⟨?state, fun x hx => ?lane, ?nak, ?frame⟩
  case state =>
    rw [hctrl.lkState (by decide), State.lkState_linkWidth]
    split
    · split
      · decide
      · decide
    · exact hstate
  case lane =>
    rw [hctrl.rd (by decide), hwidth.1.rd (by decide), h2.1.rd (by decide)]
    exact s.lane_setLanes_of_mem (by decide) (List.mem_append_right _ hx)
  case nak =>
    rw [State.nakCount_ctrlNow, State.link_congr (hwidth.fab_eq.trans (h2.fab_eq.trans h1.fab_eq))]
  case frame =>
    exact ((((Within.refl seamRegs s).onlyRegs h1 (by decide)).onlyRegs h2 (by decide)).onlyRegs hwidth (by decide)).ctrlNow _ _

theorem execLinkTrainingDone_wide (lanes : BitVec 8) (rtt : BitVec 16) (hstate : s.lkState j = lkKeep ∨ s.lkState j = lkMiswired)
    (hback : s.passing j lanes ≠ []) : ∃ t, execLinkTrainingDone j lanes rtt s = .next t ∧ t.lkState j ≠ lkKeep ∧
    (∀ l ∈ linkLanes (s.mode j) (j.val % 8), lanes.getLsbD l = true → s.rd F.FAB_LANE_STAT_STATE (8 * (j.val / 8) + l) = 1 →
      t.rd F.FAB_LANE_STAT_STATE (8 * (j.val / 8) + l) = 2) ∧ t.mem = s.mem ∧ t.store = s.store := by
  obtain ⟨hkeep, hlane, -, hframe⟩ := s.remapWide_effect j (s.passing j lanes)
  refine ⟨s.remapWide j (s.passing j lanes), ?_, hkeep, fun l hl hpass htest => hlane l ?_, hframe.mem, hframe.store⟩
  · rw [execLinkTrainingDone, if_pos hstate]
    exact if_neg hback
  · exact List.mem_filter.2 ⟨hl, by simp [hpass, htest]⟩

/-! ### Training begins (R176 to R180) -/

theorem execLinkRetrainTimer_effect (hstart : s.boot.trained = true) (hon : s.seamsOn = true ∨ (s.link j).faulted = true)
    (hdown : s.lkState j = lkDown) (hport : s.flag F.FAB_PORT_CFG_EN (j.val / 8) = true)
    (hused : (portLinks (s.mode j)).elem (j.val % 8) = true) : ∃ t, execLinkRetrainTimer j s = .next t ∧ t.lkState j = lkTraining ∧
    t.flag F.FAB_LINK_PEER_VALID j = false ∧ SameRegs [.FAB_LANE_STAT, .FAB_LINK_STAT, .FAB_LINK_PEER] s t ∧
    t.mem = s.mem ∧ t.store = s.store :=
  have hframe := s.train_within j
  ⟨s.train j, if_pos ⟨hstart, hon, hdown, hport, hused⟩, (s.lkState_train j j).trans (if_pos rfl), s.flag_train j, hframe.regs,
    hframe.mem, hframe.store⟩

end Done

section Retrain
variable {s : State} {p k : Nat}

theorem testBit_all_but_one : ∀ m k : Fin 8, k ≠ m → (255 - 2 ^ m.val).testBit k.val = true := by decide

/-- Taking a link down clears its own bit of RETRAIN alone. -/
theorem State.retrain_clearLink (s : State) {j p k : Nat} (hk : k < 8) (hother : ¬ (p = j / 8 ∧ k = j % 8)) (st : Nat) :
    ((s.clearLink j st).rd F.FAB_PORT_CMD_RETRAIN p).testBit k = (s.rd F.FAB_PORT_CMD_RETRAIN p).testBit k := by
  rw [(s.clearLink_onlyRegs j st).1.rd (by decide), State.unlinked, State.rd_wr_ne _ _ _ _ _ _ (by decide),
    State.rd_wr_ne _ _ _ _ _ _ (by decide)]
  by_cases hp : p = j / 8
  · have hbit := testBit_all_but_one ⟨j % 8, Nat.mod_lt _ (by decide)⟩ ⟨k, hk⟩ fun e => hother ⟨hp, congrArg Fin.val e⟩
    rw [hp, State.rd_wr_same _ _ _ _ (by decide), show F.FAB_PORT_CMD_RETRAIN.hi + 1 - F.FAB_PORT_CMD_RETRAIN.lo = 8 from rfl,
      Nat.testBit_mod_two_pow, Nat.testBit_and, hbit]
    simp [hk]
  · rw [State.rd_wr_idx _ _ _ _ _ _ hp]
    exact congrArg (Nat.testBit · k) (((Within.refl [] s).modLink j Link.cleared).regs.rd (by decide) p)

/-- A link is taken down as planned, and its lanes' retry counts and lost lanes start again. -/
def State.retrainReady (s : State) (p k : Nat) : State :=
  let lanes := linkLanes (s.mode (8 * p + k)) k
  let s1 := lanes.foldl (fun s l => s.wr F.FAB_LANE_STAT_TRIES (8 * p + l) 0) (s.linkStop (8 * p + k) lkDown)
  s1.setLanes p (lanes.filter fun l => s1.rd F.FAB_LANE_STAT_STATE (8 * p + l) = 5) 0

/-- Link `k` of port `p` retrains at a write of RETRAIN. -/
def State.retrained (s : State) (p k : Nat) : State :=
  ((s.retrainReady p k).train (8 * p + k)).wr F.FAB_PORT_CMD_RETRAIN p ((s.retrainReady p k).rd F.FAB_PORT_CMD_RETRAIN p ||| 2 ^ k)

theorem State.retrainReady_onlyRegs (s : State) (p k : Nat) :
    OnlyRegs [.FAB_LANE_STAT] (s.linkStop (8 * p + k) lkDown) (s.retrainReady p k) :=
  ((OnlyRegs.refl _ _).foldl _ fun _ _ hv => hv.wr _ _ _ (by decide)).trans (State.setLanes_onlyRegs _ _ _ _)

theorem Within.retrained {u : State} (h : Within seamRegs s u) (p k : Nat) : Within seamRegs s (u.retrained p k) :=
  (((h.linkStop _ _).onlyRegs (u.retrainReady_onlyRegs p k) (by decide)).train _).wr _ _ (by decide)

theorem State.lkState_retrained (s : State) (p k i : Nat) :
    (s.retrained p k).lkState i = if i = 8 * p + k then lkTraining else s.lkState i := by
  rw [State.retrained, State.lkState_wr_retrain, State.lkState_train]
  split
  · rfl
  · next hne =>
    rw [(s.retrainReady_onlyRegs p k).1.lkState (by decide), State.lkState_linkStop _ _ _ (by decide), if_neg hne]

theorem State.retrain_retrained (s : State) {p n k : Nat} (hk : k < 8) : ((s.retrained p n).rd F.FAB_PORT_CMD_RETRAIN p).testBit k =
    (((s.retrainReady p n).rd F.FAB_PORT_CMD_RETRAIN p).testBit k || decide (n = k)) := by
  rw [State.retrained, State.rd_wr_same _ _ _ _ (by decide), show F.FAB_PORT_CMD_RETRAIN.hi + 1 - F.FAB_PORT_CMD_RETRAIN.lo = 8 from rfl,
    Nat.testBit_mod_two_pow, Nat.testBit_or, Nat.testBit_two_pow]
  simp [hk]

/-- Link `k` of port `p` trains, and RETRAIN shows it. -/
def State.Retrains (s : State) (p k : Nat) : Prop :=
  s.lkState (8 * p + k) = lkTraining ∧ (s.rd F.FAB_PORT_CMD_RETRAIN p).testBit k = true

theorem State.retrains_same (s : State) (hk : k < 8) : (s.retrained p k).Retrains p k := by
  rw [State.Retrains, State.lkState_retrained, if_pos rfl, State.retrain_retrained _ hk]
  simp

/-- Another link that retrains after it leaves it in training. -/
theorem State.Retrains.retrained (h : s.Retrains p k) (hk : k < 8) (n : Nat) : (s.retrained p n).Retrains p k := by
  obtain ⟨hstate, hshown⟩ := h
  by_cases hn : n = k
  · exact hn ▸ s.retrains_same (hn ▸ hk)
  · have hother : ¬ (p = (8 * p + n) / 8 ∧ k = (8 * p + n) % 8) := by omega
    rw [State.Retrains, State.lkState_retrained, if_neg (by omega), State.retrain_retrained _ hk,
      (s.retrainReady_onlyRegs p n).1.rd (by decide), (s.linkStop_after _ _).regs.rd (by decide), s.retrain_clearLink hk hother, hshown]
    exact ⟨hstate, rfl⟩

theorem lt_of_mem_portLinks {mode k : Nat} (h : k ∈ portLinks mode) : k < 8 := by
  have hpow : 2 ^ (mode % 4) ≤ 2 ^ 3 := Nat.pow_le_pow_right (by decide) (by omega)
  exact (List.mem_range.1 h).trans_le hpow

theorem execRetrain_effect {p : Fin 18} {m : BitVec 8} (hport : s.flag F.FAB_PORT_CFG_EN p = true)
    (hlink : k ∈ portLinks (s.rd F.FAB_PORT_CFG_MODE p)) (hnamed : m.getLsbD k = true) : ∃ t, execRetrain p m s = .next t ∧
    t.lkState (8 * p.val + k) = lkTraining ∧ (t.rd F.FAB_PORT_CMD_RETRAIN p).testBit k = true ∧
    t.mem = s.mem ∧ t.store = s.store := by
  have hk := lt_of_mem_portLinks hlink
  have hmem : k ∈ (portLinks (s.rd F.FAB_PORT_CFG_MODE p)).filter fun k => m.getLsbD k := List.mem_filter.2 ⟨hlink, hnamed⟩
  obtain ⟨hstate, hshown⟩ := foldl_of_mem (fun v : State => v.Retrains p k) (fun v n => v.retrained p n)
    (fun v n hv => hv.retrained hk n) (fun v => v.retrains_same hk) _ s hmem
  have hframe : Within seamRegs s (((portLinks (s.rd F.FAB_PORT_CFG_MODE p)).filter fun k => m.getLsbD k).foldl
    (fun v n => v.retrained p n) s) := (Within.refl _ s).foldl _ fun _ _ hv => hv.retrained _ _
  exact ⟨_, if_pos hport, hstate, hshown, hframe.mem, hframe.store⟩

end Retrain

/-! ### The set-up of a port (R159, R173, R180) -/

section PortCfg
variable {s u : State}

theorem Within.laneDisable (h : Within seamRegs s u) (p l : Nat) : Within seamRegs s (u.laneDisable p l) := by
  unfold State.laneDisable
  extract_lets j m s1
  have h1 : Within seamRegs s s1 := h.dropLanes _ _ _ _
  exact .ite (.ite ((h.linkStop _ _).setLanes (by decide) _ _ _) ((h1.ctrlNow _ _).ctrlNow _ _)) (h.setLanes (by decide) _ _ _)

theorem Within.seamsOn {rs : List Reg} (h : Within rs s u) (hr : .PWR_PS_STAT ∉ rs) : u.seamsOn = s.seamsOn := by
  have hstate : u.psState = s.psState := h.regs.rd hr 0
  rw [State.seamsOn, State.seamsOn, h.boot, hstate]

/-- The writable fields of a port's configuration, without EN, while the port is off. -/
def State.portSet (s : State) (p : Nat) (w : Word) : State :=
  (((s.wr F.FAB_PORT_CFG_MODE p (fieldOf w F.FAB_PORT_CFG_MODE)).wr F.FAB_PORT_CFG_KEEPALIVE p (fieldOf w F.FAB_PORT_CFG_KEEPALIVE)).wr
    F.FAB_PORT_CFG_LANE_EN p (fieldOf w F.FAB_PORT_CFG_LANE_EN)).wr F.FAB_PORT_CFG_AUTOREADD p (fieldOf w F.FAB_PORT_CFG_AUTOREADD)

theorem State.portSet_onlyRegs (s : State) (p : Nat) (w : Word) : OnlyRegs [.FAB_PORT_CFG] s (s.portSet p w) :=
  ((((OnlyRegs.refl _ s).wr _ _ _ (by decide)).wr _ _ _ (by decide)).wr _ _ _ (by decide)).wr _ _ _ (by decide)

theorem State.mode_portSet (s : State) (p : Nat) (w : Word) :
    (s.portSet p w).rd F.FAB_PORT_CFG_MODE p = fieldOf w F.FAB_PORT_CFG_MODE := by
  rw [State.portSet, State.rd_wr_ne _ _ _ _ _ _ (by decide), State.rd_wr_ne _ _ _ _ _ _ (by decide),
    State.rd_wr_ne _ _ _ _ _ _ (by decide), State.rd_wr_same _ _ _ _ (by decide)]
  exact Nat.mod_eq_of_lt (fieldOf_lt w F.FAB_PORT_CFG_MODE)

/-- Lanes that lose their enable are disabled, and those that gain it are free to train. -/
def State.lanesSet (s : State) (p old new : Nat) : State :=
  (List.range 8).foldl (fun s l =>
    if old.testBit l && !(new.testBit l) then s.laneDisable p l
    else if !(old.testBit l) && new.testBit l && s.rd F.FAB_LANE_STAT_STATE (8 * p + l) = 6 then s.setLanes p [l] 0
    else s) s

theorem State.lanesSet_within (s : State) (p old new : Nat) : Within seamRegs s (s.lanesSet p old new) :=
  (Within.refl _ s).foldl _ fun _ _ hv => .ite (hv.laneDisable _ _) (.ite (hv.setLanes (by decide) _ _ _) hv)

/-- A port is enabled with its lanes set; its links have still to train. -/
def State.portOn (s : State) (p : Nat) (w : Word) : State :=
  ((s.portSet p w).lanesSet p (s.rd F.FAB_PORT_CFG_LANE_EN p) (fieldOf w F.FAB_PORT_CFG_LANE_EN)).wr F.FAB_PORT_CFG_EN p 1

theorem State.portOn_effect (s : State) (p : Nat) (w : Word) : (s.portOn p w).flag F.FAB_PORT_CFG_EN p = true ∧
    (s.portOn p w).rd F.FAB_PORT_CFG_MODE p = fieldOf w F.FAB_PORT_CFG_MODE ∧ Within (.FAB_PORT_CFG :: seamRegs) s (s.portOn p w) := by
  have hlanes := State.lanesSet_within (s.portSet p w) p (s.rd F.FAB_PORT_CFG_LANE_EN p) (fieldOf w F.FAB_PORT_CFG_LANE_EN)
  have hset : Within (.FAB_PORT_CFG :: seamRegs) s (s.portSet p w) := (Within.of_onlyRegs (s.portSet_onlyRegs p w)).mono (by decide)
  refine ⟨State.flag_wr_one _ _ _ (by decide), ?_, (hset.trans (hlanes.mono (List.subset_cons_self _ _))).wr _ _ (by decide)⟩
  rw [State.portOn, State.rd_wr_ne _ _ _ _ _ _ (by decide), hlanes.regs.rd (by decide), State.mode_portSet]

/-- With the seams on, every link named starts training. -/
theorem State.foldl_train_of_seamsOn (l : List Nat) {s : State} (h : s.seamsOn = true) :
    l.foldl (fun (s : State) (j : Nat) => if s.seamsOn then s.train j else s.wr F.FAB_LINK_STAT_STATE j lkDown) s =
      l.foldl (fun s j => s.train j) s := by
  induction l generalizing s with
  | nil => rfl
  | cons j l ih =>
    rw [List.foldl_cons, List.foldl_cons, if_pos h]
    exact ih (((s.train_within j).seamsOn (by decide)).trans h)

theorem State.training_foldl_train {l : List Nat} {j : Nat} (hj : j ∈ l) (s : State) :
    (l.foldl (fun s j => s.train j) s).lkState j = lkTraining := by
  refine foldl_of_mem (fun v : State => v.lkState j = lkTraining) _ (fun v i hv => ?_) (fun v => ?_) l s hj
  · rw [State.lkState_train, hv, ite_self]
  · rw [State.lkState_train, if_pos rfl]

theorem execFabPortCfgWrite_of_enable {p : Fin 18} {w : Word} (hoff : s.flag F.FAB_PORT_CFG_EN p = false)
    (hon : fieldOf w F.FAB_PORT_CFG_EN = 1) : execFabPortCfgWrite p w s =
      .next ((((portLinks ((s.portOn p w).rd F.FAB_PORT_CFG_MODE p)).map fun k => 8 * p.val + k).foldl
        (fun (s : State) (j : Nat) => if s.seamsOn then s.train j else s.wr F.FAB_LINK_STAT_STATE j lkDown) (s.portOn p w))) := by
  unfold execFabPortCfgWrite
  extract_lets en s1 old new s2 s3 on s4 links
  have hs1 : s1 = (s.wr F.FAB_PORT_CFG_MODE p (fieldOf w F.FAB_PORT_CFG_MODE)).wr F.FAB_PORT_CFG_KEEPALIVE p
      (fieldOf w F.FAB_PORT_CFG_KEEPALIVE) := if_neg (by simp [en, hoff])
  have hswitch : on := by simp only [on, hon]; decide
  have hs4 : s4 = s.portOn p w := by
    simp only [s4, s3, s2, hs1, if_pos hswitch]
    rfl
  rw [if_pos (by simp [en, hoff, hswitch]), hs4]
  simp only [links, hs4]

theorem execFabPortCfgWrite_effect {p : Fin 18} {w : Word} (hoff : s.flag F.FAB_PORT_CFG_EN p = false)
    (hon : fieldOf w F.FAB_PORT_CFG_EN = 1) (hseams : s.seamsOn = true) : ∃ t, execFabPortCfgWrite p w s = .next t ∧
    t.flag F.FAB_PORT_CFG_EN p = true ∧ t.rd F.FAB_PORT_CFG_MODE p = fieldOf w F.FAB_PORT_CFG_MODE ∧
    (∀ k ∈ portLinks (fieldOf w F.FAB_PORT_CFG_MODE), t.lkState (8 * p.val + k) = lkTraining) ∧
    t.mem = s.mem ∧ t.store = s.store := by
  obtain ⟨hen, hmode, hframe⟩ := s.portOn_effect p w
  refine ⟨_, execFabPortCfgWrite_of_enable hoff hon, ?_⟩
  rw [State.foldl_train_of_seamsOn _ ((hframe.seamsOn (by decide)).trans hseams), hmode]
  have htrain : Within seamRegs (s.portOn p w) (((portLinks (fieldOf w F.FAB_PORT_CFG_MODE)).map fun k => 8 * p.val + k).foldl
    (fun s j => s.train j) (s.portOn p w)) := (Within.refl _ _).foldl _ fun _ _ hv => hv.train _
  rw [htrain.regs.flag (by decide), htrain.regs.rd (by decide)]
  exact ⟨hen, hmode, fun k hk => State.training_foldl_train (List.mem_map_of_mem hk) _, htrain.mem.trans hframe.mem,
    htrain.store.trans hframe.store⟩

end PortCfg

/-- Settles O21: training ends by the lanes that passed and the peer's HELLO, and whatever starts it puts the link in training. -/
theorem seamLinksTrainAndComeUp : Obligations.SeamLinksTrainAndComeUp := by
  unfold Obligations.SeamLinksTrainAndComeUp
  refine ⟨?hello, ?unheard, ?up, ?wide, ?timer, ?rtt, ?retrain, ?port⟩
  case hello => exact fun j q h s htrain hseq => execHello_effect htrain hseq h
  case unheard => exact fun j lanes rtt s htrain hpeer => execLinkTrainingDone_unheard lanes rtt htrain hpeer
  case up =>
    exact fun j lanes rtt s htrain hpeer hwidth hexpect hgood => execLinkTrainingDone_up lanes rtt htrain hpeer hwidth hexpect hgood
  case wide => exact fun j lanes rtt s hstate hback => execLinkTrainingDone_wide lanes rtt hstate hback
  case timer => exact fun j s hstart hon hdown hport hused => execLinkRetrainTimer_effect hstart hon hdown hport hused
  case rtt => exact fun j ns s hcarries => execRttMeasure_effect hcarries ns
  case retrain => exact fun p m s k hport hlink hnamed => execRetrain_effect hport hlink hnamed
  case port => exact fun p w s hoff hon hseams => execFabPortCfgWrite_effect hoff hon hseams

end Sys2Proof.Machine
end

section
/-! PROOFS.  Lanes dropped and added, links narrowed, widened and lost, and cable ends (R165, R171 to R175, R178, R510), and the
statement on them. -/

namespace Sys2Proof.Machine

/-! ### Control messages in and out of sequence (R167) -/

section Control
variable {j : Fin 144} {q : BitVec 8} {s : State}

theorem ctrlRow_of_next (hruns : s.lkRuns j = true) (hseq : q.toNat = (s.link j).rxAck) (f : State → State) :
    ctrlRow j q.toNat f s = .next (f (s.inTurn j)) := (if_pos hruns).trans (by rw [if_pos hseq])

theorem ctrlRow_of_other (hruns : s.lkRuns j = true) (hseq : q.toNat ≠ (s.link j).rxAck) (f : State → State) :
    ctrlRow j q.toNat f s = .next (s.outOfTurn j q.toNat false) := (if_pos hruns).trans (by rw [if_neg hseq])

/-- Counting a flit leaves the registers. -/
theorem State.inTurn_within (s : State) (j : Nat) : Within [] s (s.inTurn j) := (Within.refl [] s).modLink j _

theorem State.outOfTurn_effect (s : State) (j n : Nat) (copy : Bool) : ((s.outOfTurn j n copy).link j).rxAck = (s.link j).rxAck ∧
    OnlyLink j s (s.outOfTurn j n copy) := by
  have hdiscard : ((s.link j).discard copy).rxAck = (s.link j).rxAck := by
    unfold Link.discard
    split
    · rfl
    · split
      · rfl
      · rfl
  unfold State.outOfTurn
  split
  · rw [State.link_modLink_same]
    exact ⟨hdiscard, (OnlyLink.refl j s).modLink _⟩
  · exact ⟨rfl, .refl j s⟩

theorem exec_of_other (hruns : s.lkRuns j = true) (hseq : q.toNat ≠ (s.link j).rxAck) (mask : BitVec 8) (b : Bool) :
    ∃ t, execLaneDrop j q mask b s = .next t ∧ execLaneAdd j q mask s = .next t ∧ execRemap j q mask s = .next t ∧
    execNarrow j q s = .next t ∧ execWiden j q s = .next t ∧ execDown j q b s = .next t ∧
    (t.link j).rxAck = (s.link j).rxAck ∧ t = { s with fab := { s.fab with links := t.fab.links } } := by
  obtain ⟨hcount, -, hrest⟩ := s.outOfTurn_effect j q.toNat false
  exact ⟨_, ctrlRow_of_other hruns hseq _, ctrlRow_of_other hruns hseq _, ctrlRow_of_other hruns hseq _, ctrlRow_of_other hruns hseq _,
    ctrlRow_of_other hruns hseq _, ctrlRow_of_other hruns hseq _, hcount, hrest⟩

variable (hruns : s.lkRuns j = true) (hseq : q.toNat = (s.link j).rxAck)
include hruns hseq

theorem execLaneDrop_effect (mask : BitVec 8) (planned : Bool) : ∃ t, execLaneDrop j q mask planned s = .next t ∧
    (t.link j).dropDue = (s.link j).dropDue ||| mask.toNat ∧ (t.link j).dropPlan = planned ∧
    (t.link j).rxAck = ((s.link j).rxAck + 1) % 256 ∧ OnlyLink j s t := by
  refine ⟨_, ctrlRow_of_next hruns hseq _, ?_⟩
  rw [State.link_modLink_same, State.link_inTurn]
  exact ⟨rfl, rfl, rfl, ((OnlyLink.refl j.val s).modLink _).modLink _⟩

theorem execLaneAdd_effect (mask : BitVec 8) : ∃ t, execLaneAdd j q mask s = .next t ∧
    (t.link j).addDue = (s.link j).addDue ||| mask.toNat ∧ (t.link j).rxAck = ((s.link j).rxAck + 1) % 256 ∧ OnlyLink j s t := by
  refine ⟨_, ctrlRow_of_next hruns hseq _, ?_⟩
  rw [State.link_modLink_same, State.link_inTurn]
  exact ⟨rfl, rfl, ((OnlyLink.refl j.val s).modLink _).modLink _⟩

end Control

/-! ### REMAP (R172, R174, R178) -/

/-- The lanes a LANE_DROP named that are in use. -/
def State.leaving (s : State) (j : Nat) : List Nat :=
  (linkLanes (s.mode j) (j % 8)).filter fun x => (s.link j).dropDue.testBit x && s.laneOn (8 * (j / 8) + x)

/-- The lanes a LANE_ADD named that are under test or dropped. -/
def State.joining (s : State) (j : Nat) : List Nat :=
  (linkLanes (s.mode j) (j % 8)).filter fun x => (s.link j).addDue.testBit x &&
    (s.rd F.FAB_LANE_STAT_STATE (8 * (j / 8) + x) = 1 || s.rd F.FAB_LANE_STAT_STATE (8 * (j / 8) + x) = 4)

/-- A REMAP takes what was noted. -/
def State.unnoted (s : State) (j : Nat) : State :=
  s.modLink j fun l => { l with nakCount := 0, dropDue := 0, dropPlan := false, addDue := 0 }

theorem State.unnoted_within (s : State) (j : Nat) : Within [] s (s.unnoted j) := (Within.refl [] s).modLink j _

theorem State.nakCount_unnoted (s : State) (j : Nat) : ((s.unnoted j).link j).nakCount = 0 :=
  congrArg Link.nakCount (s.link_modLink_same j fun l => { l with nakCount := 0, dropDue := 0, dropPlan := false, addDue := 0 })

/-- What a REMAP does to the lanes. -/
def State.remapped (s : State) (j : Nat) (mask : BitVec 8) : State :=
  if s.leaving j ≠ [] then (s.unnoted j).remapDrop j (s.leaving j) (s.link j).dropPlan
  else if s.joining j ≠ [] then (s.unnoted j).remapAdd j (s.joining j)
  else if s.passing j mask ≠ [] then (s.unnoted j).remapWide j (s.passing j mask)
  else s.unnoted j

/-- Lanes that leave at a REMAP are off, even where the link then faults. -/
theorem State.laneOff_remapDrop (s : State) (j : Nat) {gone : List Nat} {x : Nat} (hx : x ∈ gone) (planned : Bool) :
    (s.remapDrop j gone planned).laneOn (8 * (j / 8) + x) = false := by
  unfold State.remapDrop
  extract_lets mask s1 s2
  have h1 : s1.rd F.FAB_LANE_STAT_STATE (8 * (j / 8) + x) = 4 :=
    ((s.dropLanes_after j gone 4 true).regs.rd (by decide) _).trans (s.lane_dropped j (by decide) hx)
  have h2 : Within [.FAB_LINK_REPLAY_CNT] s1 s2 := (Within.refl _ s1).ctrlNow _ _
  split
  · exact State.laneOff_linkFault (State.laneOff_of_lane (s.lane_setLanes_of_mem (by decide) hx) (by decide)) j false
  · have hend : Within [.FAB_LINK_REPLAY_CNT] s1 (if planned = true then s2 else s2.replayFrom j) := .ite h2 (h2.replayFrom (by decide) j)
    exact State.laneOff_of_lane ((hend.regs.rd (by decide) _).trans h1) (by decide)

theorem Within.remapDrop {s u : State} (h : Within seamRegs s u) (j : Nat) (gone : List Nat) (planned : Bool) :
    Within seamRegs s (u.remapDrop j gone planned) := by
  unfold State.remapDrop
  extract_lets mask s1 s2
  have h2 : Within seamRegs s s2 := (h.dropLanes _ _ _ _).ctrlNow _ _
  exact .ite ((h.setLanes (by decide) _ _ _).linkFault _ _) (.ite h2 (h2.replayFrom (by decide) _))

theorem State.remapAdd_effect (s : State) (j : Nat) (back : List Nat) : ((s.remapAdd j back).link j).nakCount = (s.link j).nakCount ∧
    (∀ x ∈ back, (s.remapAdd j back).rd F.FAB_LANE_STAT_STATE (8 * (j / 8) + x) = 2) ∧
    (s.remapAdd j back).flag F.FAB_PORT_CAUSE_LANE_ADD (j / 8) = true ∧ Within seamRegs s (s.remapAdd j back) := by
  unfold State.remapAdd
  extract_lets mask
  have hset := s.setLanes_onlyRegs (j / 8) back 2
  have hwidth := (s.setLanes (j / 8) back 2).linkWidth_onlyRegs j
  have hctrl := ((s.setLanes (j / 8) back 2).linkWidth j).regs_ctrlNow j (.remap mask)
  have hraise := State.raisePort_onlyLogs (((s.setLanes (j / 8) back 2).linkWidth j).ctrlNow j (.remap mask))
    (f := F.FAB_PORT_CAUSE_LANE_ADD) rfl j 0
  refine ⟨?nak, fun x hx => ?lane, State.flag_raisePort _ (by decide) _ _, ?frame⟩
  case nak =>
    rw [State.link_congr hraise.fab_eq, State.nakCount_ctrlNow, State.link_congr (hwidth.fab_eq.trans hset.fab_eq)]
  case lane =>
    rw [hraise.1.rd (by decide), hctrl.rd (by decide), hwidth.1.rd (by decide)]
    exact s.lane_setLanes_of_mem (by decide) hx
  case frame =>
    exact ((((Within.refl seamRegs s).onlyRegs hset (by decide)).onlyRegs hwidth (by decide)).ctrlNow _ _).onlyLogs hraise (by decide)

section Remap
variable {j : Fin 144} {q : BitVec 8} {s : State} (hruns : s.lkRuns j = true) (hseq : q.toNat = (s.link j).rxAck) (mask : BitVec 8)
include hruns hseq

theorem execRemap_of_next : execRemap j q mask s = .next ((s.inTurn j).remapped j mask) := ctrlRow_of_next hruns hseq _

theorem execRemap_drop {x : Nat} (hx : x ∈ linkLanes (s.mode j) (j.val % 8)) (hnamed : (s.link j).dropDue.testBit x = true)
    (hon : s.laneOn (8 * (j.val / 8) + x) = true) : ∃ t, execRemap j q mask s = .next t ∧
    t.laneOn (8 * (j.val / 8) + x) = false ∧ t.mem = s.mem ∧ t.store = s.store := by
  have hmem : x ∈ (s.inTurn j).leaving j := by
    refine List.mem_filter.2 ⟨hx, ?_⟩
    rw [State.link_inTurn, (s.inTurn_within j).regs.laneOn (by decide), hnamed, hon]
    rfl
  have hframe := ((s.inTurn_within j).trans ((s.inTurn j).unnoted_within j)).mono (qs := seamRegs) (List.nil_subset _)
  have hall := hframe.remapDrop j ((s.inTurn j).leaving j) ((s.inTurn j).link j).dropPlan
  refine ⟨_, execRemap_of_next hruns hseq mask, ?_⟩
  rw [State.remapped, if_pos (List.ne_nil_of_mem hmem)]
  exact ⟨State.laneOff_remapDrop _ _ hmem _, hall.mem, hall.store⟩

variable (hdrop : (s.link j).dropDue = 0)
include hdrop

omit hruns hseq in
theorem State.leaving_of_none : (s.inTurn j).leaving j = [] := by
  rw [State.leaving, State.link_inTurn, hdrop]
  simp

theorem execRemap_add {x : Nat} (hx : x ∈ linkLanes (s.mode j) (j.val % 8)) (hnamed : (s.link j).addDue.testBit x = true)
    (hlane : s.rd F.FAB_LANE_STAT_STATE (8 * (j.val / 8) + x) = 4) : ∃ t, execRemap j q mask s = .next t ∧ (t.link j).nakCount = 0 ∧
    t.rd F.FAB_LANE_STAT_STATE (8 * (j.val / 8) + x) = 2 ∧ t.flag F.FAB_PORT_CAUSE_LANE_ADD (j.val / 8) = true ∧
    t.mem = s.mem ∧ t.store = s.store := by
  have hmem : x ∈ (s.inTurn j).joining j := by
    refine List.mem_filter.2 ⟨hx, ?_⟩
    rw [State.link_inTurn, (s.inTurn_within j).regs.rd (by decide), hnamed, hlane]
    rfl
  have hframe := ((s.inTurn_within j).trans ((s.inTurn j).unnoted_within j)).mono (qs := seamRegs) (List.nil_subset _)
  obtain ⟨hnak, hset, hcause, hadd⟩ := ((s.inTurn j).unnoted j).remapAdd_effect j ((s.inTurn j).joining j)
  refine ⟨_, execRemap_of_next hruns hseq mask, ?_⟩
  rw [State.remapped, if_neg (not_not_intro (State.leaving_of_none hdrop)), if_pos (List.ne_nil_of_mem hmem)]
  exact ⟨hnak.trans (State.nakCount_unnoted _ _), hset x hmem, hcause, (hframe.trans hadd).mem, (hframe.trans hadd).store⟩

theorem execRemap_wide (hadd : (s.link j).addDue = 0) : ∃ t, execRemap j q mask s = .next t ∧ (t.link j).nakCount = 0 ∧
    (∀ l ∈ linkLanes (s.mode j) (j.val % 8), mask.getLsbD l = true → s.rd F.FAB_LANE_STAT_STATE (8 * (j.val / 8) + l) = 1 →
      t.rd F.FAB_LANE_STAT_STATE (8 * (j.val / 8) + l) = 2) ∧ t.mem = s.mem ∧ t.store = s.store := by
  have hjoin : (s.inTurn j).joining j = [] := by
    rw [State.joining, State.link_inTurn, hadd]
    simp
  have hpass (l : Nat) (hl : l ∈ linkLanes (s.mode j) (j.val % 8)) (hnamed : mask.getLsbD l = true)
      (htest : s.rd F.FAB_LANE_STAT_STATE (8 * (j.val / 8) + l) = 1) : l ∈ (s.inTurn j).passing j mask := by
    refine List.mem_filter.2 ⟨hl, ?_⟩
    rw [(s.inTurn_within j).regs.rd (by decide), hnamed, htest]
    rfl
  have hframe := ((s.inTurn_within j).trans ((s.inTurn j).unnoted_within j)).mono (qs := seamRegs) (List.nil_subset _)
  refine ⟨_, execRemap_of_next hruns hseq mask, ?_⟩
  rw [State.remapped, if_neg (not_not_intro (State.leaving_of_none hdrop)), if_neg (not_not_intro hjoin)]
  split
  · obtain ⟨-, hset, hnak, hwide⟩ := ((s.inTurn j).unnoted j).remapWide_effect j ((s.inTurn j).passing j mask)
    exact ⟨hnak.trans (State.nakCount_unnoted _ _), fun l hl hnamed htest => hset l (hpass l hl hnamed htest),
      (hframe.trans hwide).mem, (hframe.trans hwide).store⟩
  · next hnone =>
    exact ⟨State.nakCount_unnoted _ _, fun l hl hnamed htest => absurd (List.ne_nil_of_mem (hpass l hl hnamed htest)) hnone,
      hframe.mem, hframe.store⟩

end Remap

/-! ### NARROW, WIDEN and DOWN (R175, R178) -/
section Down
variable {j : Fin 144} {q : BitVec 8} {s : State}

theorem execNarrow_effect (hruns : s.lkRuns j = true) (hseq : q.toNat = (s.link j).rxAck) (hother : j.val % 8 ≠ 0) :
    ∃ t, execNarrow j q s = .next t ∧ t.lkState j = lkDown ∧ t.mem = s.mem ∧ t.store = s.store := by
  have hframe := ((s.inTurn_within j).mono (qs := seamRegs) (List.nil_subset _)).linkStop j lkDown
  refine ⟨(s.inTurn j).linkStop j lkDown, (ctrlRow_of_next hruns hseq _).trans (by rw [if_neg hother]), ?_, hframe.mem, hframe.store⟩
  rw [State.lkState_linkStop _ _ _ (by decide), if_pos rfl]

theorem State.widenPort_effect (s : State) (p : Nat) : (∀ k ∈ portLinks (s.rd F.FAB_PORT_CFG_MODE p), k ≠ 0 →
    s.lkState (8 * p + k) = lkDown → (s.widenPort p).lkState (8 * p + k) = lkTraining) ∧ Within seamRegs s (s.widenPort p) := by
  unfold State.widenPort
  extract_lets mode off
  have hset : Within seamRegs s (s.setLanes p off 1) := (Within.refl _ s).setLanes (by decide) _ _ _
  refine ⟨fun k hk hne hdown => ?_, hset.foldl _ fun _ _ hv => hv.train _⟩
  refine foldl_of_mem (fun v : State => v.lkState (8 * p + k) = lkTraining) _ (fun v n hv => ?_) (fun v => ?_) _ _
    (List.mem_filter.2 ⟨hk, by simp [hne, hdown]⟩)
  · rw [State.lkState_train, hv, ite_self]
  · rw [State.lkState_train, if_pos rfl]

theorem execWiden_effect (hkeep : s.lkState j = lkKeep) (hseq : q.toNat = (s.link j).rxAck) : ∃ t, execWiden j q s = .next t ∧
    (∀ k ∈ portLinks (s.rd F.FAB_PORT_CFG_MODE (j.val / 8)), k ≠ 0 →
      s.lkState (8 * (j.val / 8) + k) = lkDown → t.lkState (8 * (j.val / 8) + k) = lkTraining) ∧
      t.mem = s.mem ∧ t.store = s.store := by
  have hruns : s.lkRuns j = true := (s.lkRuns_iff j).2 (by rw [hkeep]; decide)
  have hkept : (s.inTurn j).lkState j = lkKeep := hkeep
  obtain ⟨htrain, hframe⟩ := (s.inTurn j).widenPort_effect (j.val / 8)
  exact ⟨(s.inTurn j).widenPort (j.val / 8), (ctrlRow_of_next hruns hseq _).trans (by rw [if_pos hkept]), htrain, hframe.mem,
    hframe.store⟩

theorem execDown_effect (hruns : s.lkRuns j = true) (hseq : q.toNat = (s.link j).rxAck) (b : Bool) : ∃ t, execDown j q b s = .next t ∧
    t.lkState j = lkDown ∧ t.flag F.FAB_PORT_CAUSE_LINK_DOWN (j.val / 8) = true ∧ t.mem = s.mem ∧ t.store = s.store := by
  have hframe := ((s.inTurn_within j).mono (qs := seamRegs) (List.nil_subset _)).linkFault j b
  obtain ⟨hdown, hcause⟩ := State.linkFault_of_runs (s := s.inTurn j) hruns b
  exact ⟨_, ctrlRow_of_next hruns hseq _, hdown, hcause, hframe.mem, hframe.store⟩

theorem execLinkSilenceTimeout_effect (hruns : s.lkRuns j = true) : ∃ t, execLinkSilenceTimeout j s = .next t ∧
    t.lkState j = lkDown ∧ t.flag F.FAB_PORT_CAUSE_LINK_DOWN (j.val / 8) = true ∧ t.mem = s.mem ∧ t.store = s.store := by
  have hframe := (Within.refl seamRegs s).linkFault j false
  obtain ⟨hdown, hcause⟩ := State.linkFault_of_runs hruns false
  exact ⟨_, if_pos hruns, hdown, hcause, hframe.mem, hframe.store⟩

/-! ### All lanes of a link fail (R171) -/

/-- The lanes of a mask that are active lanes of link `j`. -/
def State.faulty (s : State) (j : Nat) (mask : BitVec 8) : List Nat :=
  (lanesOf mask).filter fun l => (s.activeLanes j).elem (8 * (j / 8) + l)

/-- As many faulty lanes as active ones are all of them. -/
theorem State.faulty_of_all {j : Nat} {mask : BitVec 8} (hall : (s.faulty j mask).length = (s.activeLanes j).length) {i : Nat}
    (hi : i ∈ s.activeLanes j) : ∃ x ∈ s.faulty j mask, i = 8 * (j / 8) + x := by
  have hnodup : ((s.faulty j mask).map (8 * (j / 8) + ·)).Nodup :=
    ((List.nodup_range.filter _).filter _).map fun _ _ h => Nat.add_left_cancel h
  have hsub : (s.faulty j mask).map (8 * (j / 8) + ·) ⊆ s.activeLanes j := by
    intro i hi
    obtain ⟨x, hx, rfl⟩ := List.mem_map.1 hi
    exact List.elem_iff.1 (List.mem_filter.1 hx).2
  have hperm := (List.subperm_of_subset hnodup hsub).perm_of_length_le (by rw [List.length_map, hall])
  obtain ⟨x, hx, rfl⟩ := List.mem_map.1 (hperm.mem_iff.2 hi)
  exact ⟨x, hx, rfl⟩

/-- Once all its active lanes are dropped, none of which is a keep-alive lane, a link has no lane left. -/
theorem State.activeLanes_dropLanes {j : Nat} {mask : BitVec 8} (hall : (s.faulty j mask).length = (s.activeLanes j).length)
    (hplain : ∀ l ∈ s.activeLanes j, s.rd F.FAB_LANE_STAT_STATE l = 2) (note : Bool) :
    (s.dropLanes j (s.faulty j mask) 4 note).activeLanes j = [] := by
  have hkeep : ((s.faulty j mask).any fun l => s.rd F.FAB_LANE_STAT_STATE (8 * (j / 8) + l) = 3) = false := by
    refine List.any_eq_false.2 fun x hx => ?_
    rw [hplain _ (List.elem_iff.1 (List.mem_filter.1 hx).2)]
    decide
  have hdropped : s.dropped j (s.faulty j mask) 4 = s.setLanes (j / 8) (s.faulty j mask) 4 := if_neg (by simp [hkeep])
  have hmode : (s.setLanes (j / 8) (s.faulty j mask) 4).mode j = s.mode j :=
    (State.setLanes_onlyRegs _ _ _ _).1.rd (f := F.FAB_PORT_CFG_MODE) (by decide) _
  rw [(s.dropLanes_after j (s.faulty j mask) 4 note).regs.activeLanes (by decide), hdropped, List.eq_nil_iff_forall_not_mem]
  intro i hi
  obtain ⟨hlane, hon⟩ := (State.mem_activeLanes _ _ _).1 hi
  rw [hmode] at hlane
  have hoff : (s.setLanes (j / 8) (s.faulty j mask) 4).laneOn i = false := by
    cases hwas : s.laneOn i with
    | false => exact State.laneOff_setLanes hwas _ _ (by decide)
    | true =>
      obtain ⟨x, hx, rfl⟩ := State.faulty_of_all hall ((s.mem_activeLanes _ _).2 ⟨hlane, hwas⟩)
      exact State.laneOff_of_lane (s.lane_setLanes_of_mem (by decide) hx) (by decide)
  exact absurd (hoff.symm.trans hon) (by decide)

theorem execLaneFault_effect {mask : BitVec 8} (hruns : s.lkRuns j = true) (hsome : s.activeLanes j ≠ [])
    (hplain : ∀ l ∈ s.activeLanes j, s.rd F.FAB_LANE_STAT_STATE l = 2)
    (hall : (s.faulty j mask).length = (s.activeLanes j).length) : ∃ t, execLaneFault j mask s = .next t ∧ t.lkState j = lkDown ∧
    t.mem = s.mem ∧ t.store = s.store := by
  have hset := (Within.refl seamRegs s).setLanes (by decide) (j.val / 8) (s.faulty j mask) 4
  have hframe := hset.linkFault j false
  have hstill : (s.setLanes (j.val / 8) (s.faulty j mask) 4).lkRuns j = true := by
    rw [State.lkRuns_iff, (State.setLanes_onlyRegs _ _ _ _).1.lkState (by decide), ← State.lkRuns_iff]
    exact hruns
  have hhit : ¬ ((!(s.lkRuns j) || s.faulty j mask = []) = true) := by
    have hne : s.faulty j mask ≠ [] := fun e => hsome (List.eq_nil_of_length_eq_zero (by rw [← hall, e]; rfl))
    simp [hruns, hne]
  have hfault : s.laneFault j mask = (s.setLanes (j.val / 8) (s.faulty j mask) 4).linkFault j false :=
    (if_neg hhit).trans (if_pos (State.activeLanes_dropLanes hall hplain true))
  exact ⟨_, congrArg Host.Outcome.next hfault, (State.linkFault_of_runs hstill false).1, hframe.mem, hframe.store⟩

end Down

/-! ### Dropped lanes are tried again (R174) -/

section Readd
variable {l : Fin 144} {s : State}

theorem execLaneReaddRetry_effect (hauto : s.flag F.FAB_PORT_CFG_AUTOREADD (l.val / 8) = true)
    (hlane : s.rd F.FAB_LANE_STAT_STATE l = 4) (htries : s.rd F.FAB_LANE_STAT_TRIES l < 3)
    (hcarries : s.lkCarries (s.linkOfLane (l.val / 8) (l.val % 8)) = true)
    (hwide : s.lkState (s.linkOfLane (l.val / 8) (l.val % 8)) ≠ lkKeep) : ∃ t, execLaneReaddRetry l s = .next t ∧
    t.rd F.FAB_LANE_STAT_STATE l = 1 ∧ t.rd F.FAB_LANE_STAT_TRIES l = s.rd F.FAB_LANE_STAT_TRIES l + 1 ∧
    OnlyRegs [.FAB_LANE_STAT] s t := by
  refine ⟨_, if_pos ⟨hauto, hlane, htries, hcarries, hwide⟩, ?_, ?_,
    ((OnlyRegs.refl _ s).wr _ _ _ (by decide)).wr _ _ _ (by decide)⟩
  · rw [State.rd_wr_ne _ _ _ _ _ _ (by decide), State.lane_wr _ _ _ _ (by decide), if_pos rfl]
  · rw [State.rd_wr_same _ _ _ _ (by decide)]
    exact Nat.mod_eq_of_lt (Nat.succ_lt_succ htries)

theorem execLaneReaddTestDone_pass (htest : s.rd F.FAB_LANE_STAT_STATE l = 1)
    (hcarries : s.lkCarries (s.linkOfLane (l.val / 8) (l.val % 8)) = true) : ∃ t, execLaneReaddTestDone l true s = .next t ∧
    t.rd F.FAB_LANE_STAT_STATE l = 2 ∧ t.flag F.FAB_PORT_CAUSE_LANE_ADD (s.linkOfLane (l.val / 8) (l.val % 8) / 8) = true := by
  refine ⟨_, if_pos ⟨htest, hcarries⟩, ?_, State.flag_raisePort _ (by decide) _ _⟩
  rw [(State.raisePort_onlyLogs _ rfl _ _).1.rd (by decide), (State.regs_ctrlNow _ _ _).rd (by decide),
    (State.regs_ctrlNow _ _ _).rd (by decide), (State.linkWidth_onlyRegs _ _).1.rd (by decide), State.lane_wr _ _ _ _ (by decide),
    if_pos rfl]

theorem execLaneReaddTestDone_fail (htest : s.rd F.FAB_LANE_STAT_STATE l = 1)
    (hcarries : s.lkCarries (s.linkOfLane (l.val / 8) (l.val % 8)) = true) : ∃ t, execLaneReaddTestDone l false s = .next t ∧
    t.rd F.FAB_LANE_STAT_STATE l = (if 3 ≤ s.rd F.FAB_LANE_STAT_TRIES l then 5 else 4) ∧ OnlyRegs [.FAB_LANE_STAT] s t := by
  refine ⟨_, if_pos ⟨htest, hcarries⟩, ?_, (OnlyRegs.refl _ s).wr _ _ _ (by decide)⟩
  rw [State.lane_wr _ _ _ _ (by split <;> decide), if_pos rfl]

end Readd

/-! ### Cable ends (R510) -/

theorem find?_insCable (p : Nat) (b : Bool) {l : List (Nat × Bool × Bool)} (h : ∀ c ∈ l, c.1 ≠ p) :
    (State.setCable.insCable p b l).find? (fun c => c.1 = p) = some (p, true, b) := by
  induction l with
  | nil => simp [State.setCable.insCable]
  | cons c t ih =>
    have hc : c.1 ≠ p := h c List.mem_cons_self
    unfold State.setCable.insCable
    split
    · simp
    · rw [List.find?_cons_of_neg (by simp [hc])]
      exact ih fun d hd => h d (List.mem_cons_of_mem _ hd)

/-- A cable end reads as it was set; an absent one has no supply. -/
theorem State.cable_setCable (s : State) (p : Nat) (present powered : Bool) :
    (s.setCable p present powered).cable p = if present then (true, powered) else (false, false) := by
  have hother : ∀ c ∈ s.fab.cables.filter (fun c => c.1 ≠ p), c.1 ≠ p := fun c hc => by simpa using (List.mem_filter.1 hc).2
  unfold State.cable State.setCable
  cases present with
  | true => simp only [if_pos, find?_insCable p powered hother]
  | false =>
    have hnone : (s.fab.cables.filter fun c => c.1 ≠ p).find? (fun c => c.1 = p) = none :=
      List.find?_eq_none.2 fun c hc => by simpa using hother c hc
    simp only [Bool.false_eq_true, if_false, hnone]

theorem execCablePresent_effect {p : Fin 18} {b : Bool} {s : State} (h : (s.cable p).1 ≠ b) : ∃ t, execCablePresent p b s = .next t ∧
    t.cable p = (b, b) ∧ t = { s with fab := { s.fab with cables := t.fab.cables } } := by
  refine ⟨_, if_neg h, ?_, rfl⟩
  rw [State.cable_setCable]
  cases b with
  | true => rfl
  | false => rfl

theorem SameRegs.lkCarries {rs : List Reg} {s t : State} (h : SameRegs rs s t) (hr : .FAB_LINK_STAT ∉ rs) (j : Nat) :
    t.lkCarries j = s.lkCarries j := by
  rw [Bool.eq_iff_iff, State.lkCarries_iff, State.lkCarries_iff, h.lkState hr]

/-- A link that a fault takes down, or that carried nothing before, carries nothing after it. -/
theorem State.idle_linkLoss {s : State} {i j : Nat} (h : i = j ∨ s.lkCarries i = false) : (s.linkLoss j).lkCarries i = false := by
  rw [Bool.eq_false_iff, ne_eq, State.lkCarries_iff, State.lkState_linkLoss]
  split
  · decide
  · next hne => exact fun hc => absurd ((s.lkCarries_iff i).2 hc) (by simp [h.resolve_left hne])

theorem State.idle_foldl_linkLoss {s : State} {i : Nat} {l : List Nat} (h : i ∈ l ∨ s.lkCarries i = false) :
    (l.foldl State.linkLoss s).lkCarries i = false := by
  have hkeep : ∀ (v : State) (j : Nat), v.lkCarries i = false → (v.linkLoss j).lkCarries i = false :=
    fun _ _ hv => State.idle_linkLoss (.inr hv)
  rcases h with hmem | hidle
  · exact foldl_of_mem (fun v : State => v.lkCarries i = false) State.linkLoss hkeep
      (fun _ => State.idle_linkLoss (.inl rfl)) l s hmem
  · exact List.foldlRecOn (motive := fun v : State => v.lkCarries i = false) l State.linkLoss hidle fun v hv j _ => hkeep v j hv

/-- The links of a port that are neither down nor disabled. -/
def State.portUp (s : State) (p : Nat) : List Nat :=
  ((List.range 8).map fun k => 8 * p + k).filter fun j => s.lkState j ≠ lkDown && s.lkState j ≠ lkDisabled

theorem State.idle_of_not_portUp {s : State} {p k : Nat} (hk : k < 8) (h : 8 * p + k ∉ s.portUp p) :
    s.lkCarries (8 * p + k) = false := by
  rw [Bool.eq_false_iff, ne_eq, State.lkCarries_iff]
  intro hcarries
  refine h (List.mem_filter.2 ⟨List.mem_map_of_mem (List.mem_range.2 hk), ?_⟩)
  rcases hcarries with e | e | e
  all_goals rw [e]; decide

theorem State.portFault_cases (s : State) (p : Nat) : (s.portUp p = [] ∧ s.portFault p = s) ∨
    Within lossRegs ((s.portUp p).foldl State.linkLoss s) (s.portFault p) := by
  by_cases hnone : s.portUp p = []
  · exact .inl ⟨hnone, if_pos hnone⟩
  · refine .inr ?_
    have hfault : s.portFault p = _ := if_neg hnone
    rw [hfault]
    exact ((Within.refl _ _).notice _ _ _ _).foldl _ fun _ _ hv => hv.peerGone _ _ _

theorem State.portFault_effect (s : State) (p : Nat) : (∀ k < 8, (s.portFault p).lkCarries (8 * p + k) = false) ∧
    Within seamRegs s (s.portFault p) := by
  rcases s.portFault_cases p with ⟨hnone, hsame⟩ | hfault
  · rw [hsame]
    exact ⟨fun k hk => State.idle_of_not_portUp hk (by simp [hnone]), .refl _ s⟩
  · have hloss : Within seamRegs s ((s.portUp p).foldl State.linkLoss s) := (Within.refl _ s).foldl _ fun _ _ hv => hv.linkLoss _
    refine ⟨fun k hk => ?_, hloss.trans (hfault.mono lossRegs_subset_seamRegs)⟩
    rw [hfault.regs.lkCarries (by decide)]
    exact State.idle_foldl_linkLoss ((em _).imp_right (State.idle_of_not_portUp hk))

theorem execCableOvercurrent_effect {p : Fin 18} {s : State} (h : (s.cable p).2 = true) : ∃ t, execCableOvercurrent p s = .next t ∧
    t.cable p = (true, false) ∧ (∀ k < 8, t.lkCarries (8 * p.val + k) = false) ∧ t.mem = s.mem ∧ t.store = s.store := by
  obtain ⟨hidle, hframe⟩ := (s.setCable p true false).portFault_effect p
  refine ⟨_, if_pos h, ?_, hidle, hframe.mem, hframe.store⟩
  rw [State.cable, hframe.cables]
  exact s.cable_setCable p true false

/-- Settles O22: the noted lanes leave or rejoin at the REMAP, a link without a lane or a flit faults, and a fault's notices leave
the states of links and lanes. -/
theorem seamLinksLoseLanesAndGoDown : Obligations.SeamLinksLoseLanesAndGoDown := by
  unfold Obligations.SeamLinksLoseLanesAndGoDown
  refine ⟨?laneDrop, ?laneAdd, ?other, ?remapDrop, ?remapAdd, ?remapWide, ?narrow, ?widen, ?down, ?silence, ?laneFault, ?retry,
    ?tested, ?cable, ?overcurrent⟩
  case laneDrop => exact fun j q mask planned s hruns hseq => execLaneDrop_effect hruns hseq mask planned
  case laneAdd => exact fun j q mask s hruns hseq => execLaneAdd_effect hruns hseq mask
  case other => exact fun j q mask b s hruns hseq => exec_of_other hruns hseq mask b
  case remapDrop => exact fun j q mask s x hruns hseq hx hnamed hon => execRemap_drop hruns hseq mask hx hnamed hon
  case remapAdd =>
    exact fun j q mask s x hruns hseq hdrop hx hnamed hlane => execRemap_add hruns hseq mask hdrop hx hnamed hlane
  case remapWide => exact fun j q mask s hruns hseq hdrop hadd => execRemap_wide hruns hseq mask hdrop hadd
  case narrow => exact fun j q s hruns hseq hother => execNarrow_effect hruns hseq hother
  case widen => exact fun j q s hkeep hseq => execWiden_effect hkeep hseq
  case down => exact fun j q b s hruns hseq => execDown_effect hruns hseq b
  case silence => exact fun j s hruns => execLinkSilenceTimeout_effect hruns
  case laneFault => exact fun j mask s hruns _ hsome hplain hall => execLaneFault_effect hruns hsome hplain hall
  case retry => exact fun l s hauto hlane htries hcarries hwide => execLaneReaddRetry_effect hauto hlane htries hcarries hwide
  case tested =>
    exact fun l s htest hcarries => ⟨execLaneReaddTestDone_pass htest hcarries, execLaneReaddTestDone_fail htest hcarries⟩
  case cable => exact fun p b s h => execCablePresent_effect h
  case overcurrent => exact fun p s h => execCableOvercurrent_effect h

end Sys2Proof.Machine
end

section
/-! PROOFS.  Read data for memory on loan (R154, R185, R196), against the statement on packets. -/

namespace Sys2Proof.Machine

/-- Partition 0 has one frame on loan from module 5 and none of its own; the data of its GET_REQ 7 are to go to offset 1. -/
def awaitsLoanData : State :=
  { State.reset with
    parts := [{ loans := [{ lender := 5, slot := 0, frames := 1 }] }]
    fab := { State.reset.fab with
      gets := [{ tag := 7, desc := none, part := 0, dst := .mem 1, lines := 1, bad := false }] } }

/-- One line of data for GET_REQ 7. -/
def loanData : Packet :=
  { State.reset.blank 0x03 1 0 0 0 with srcMod := 5, tag := 7, lines := 1, data := List.replicate 64 9 }

theorem loanData_comes : awaitsLoanData.mine loanData 0x03 = true ∧ awaitsLoanData.nextIn loanData = true := by decide

/-- The data lie across two lines of the loan, and each is asked for before it is merged (R185). -/
theorem tags_of_loanData {t : State} (h : execGetResp 144 loanData awaitsLoanData = .next t) : t.fab.gets.map GetWait.tag = [0, 1] := by
  rw [← Host.Outcome.next.inj h]
  decide

/-- Refutes O24: for read data that lie across lines of memory on loan, GET_RESP issues a GET_REQ for each of these lines, so that the
list of requests comes to hold more than the one answered leaves. -/
theorem not_packetsDeliveredForwardedAndKept : ¬ Obligations.PacketsDeliveredForwardedAndKept := by
  unfold Obligations.PacketsDeliveredForwardedAndKept
  rintro ⟨-, -, -, hresp, -⟩
  obtain ⟨hmine, hnext⟩ := loanData_comes
  obtain ⟨t, ht, hgets⟩ := hresp 144 loanData awaitsLoanData _ hmine hnext rfl rfl rfl
  have hnone : t.fab.gets.map GetWait.tag = [] := congrArg (List.map GetWait.tag) hgets
  exact List.cons_ne_nil _ _ ((tags_of_loanData ht).symm.trans hnone)

end Sys2Proof.Machine
end

section
/-! PROOFS.  A flood over a link whose peer is not known (R177, R188, R198, R200), against the statements on notices and on topology. -/

namespace Sys2Proof.Machine

/-- Link 0 of module 1 is up, no HELLO has said to what module it leads, and no routing entry is valid. -/
def unnamedPeer : State := (State.reset.wr F.FAB_LINK_STAT_STATE 0 lkUp).wr F.FAB_TR_ID_MODULE 0 1

/-- The first message that module 3 floods. -/
def firstNote : Note := ⟨3, 0⟩

theorem unnamedPeer_takes : unnamedPeer.noteNew firstNote = true := by decide

theorem noRoute_unnamedPeer : unnamedPeer.flag F.FAB_TR_CAUSE_NO_ROUTE = false := by decide

/-- SUSPECT about module 5 is flooded on, and its copy for the one neighbour has no path. -/
theorem noRoute_of_suspect {t : State} (h : execNoticeSuspect firstNote 5 unnamedPeer = .next t) :
    t.flag F.FAB_TR_CAUSE_NO_ROUTE = true := by
  rw [← Host.Outcome.next.inj h]
  decide

/-- The marker of epoch 1 is flooded on, and its copy for the one neighbour has no path. -/
theorem noRoute_of_epoch {t : State} (h : execEpoch firstNote 1 unnamedPeer = .next t) : t.flag F.FAB_TR_CAUSE_NO_ROUTE = true := by
  rw [← Host.Outcome.next.inj h]
  decide

/-- Every register is as before when the fabric's own state alone has changed. -/
theorem OnlyFab.flag {s t : State} (h : OnlyFab s t) (f : Fld) (i : Nat) : t.flag f i = s.flag f i := (congrArg (·.flag f i) h :)

/-- Refutes O26: a notice flooded to a neighbour that no path leads to raises NO_ROUTE, so that registers change beside the fabric's
own state. -/
theorem not_noticesOfFaultsAndLostModules : ¬ Obligations.NoticesOfFaultsAndLostModules := by
  unfold Obligations.NoticesOfFaultsAndLostModules
  rintro ⟨-, -, -, hsuspect, -⟩
  obtain ⟨t, ht, -, -, hfab⟩ := hsuspect firstNote 5 unnamedPeer unnamedPeer_takes
  have hkept : t.flag F.FAB_TR_CAUSE_NO_ROUTE = false := (OnlyFab.flag hfab _ _).trans noRoute_unnamedPeer
  exact Bool.false_ne_true (hkept.symm.trans (noRoute_of_suspect ht))

/-- Refutes O27: an epoch marker flooded to a neighbour that no path leads to raises NO_ROUTE, so that registers change beside the
fabric's own state although the marker waits. -/
theorem not_shapeShadowsAndRoutingEpochs : ¬ Obligations.ShapeShadowsAndRoutingEpochs := by
  unfold Obligations.ShapeShadowsAndRoutingEpochs
  rintro ⟨-, hwaits, -⟩
  obtain ⟨t, ht, -, hfab⟩ := hwaits firstNote 1 unnamedPeer unnamedPeer_takes (by decide) (by decide) (by decide)
  have hkept : t.flag F.FAB_TR_CAUSE_NO_ROUTE = false := (OnlyFab.flag hfab _ _).trans noRoute_unnamedPeer
  exact Bool.false_ne_true (hkept.symm.trans (noRoute_of_epoch ht))

end Sys2Proof.Machine
end
section
/-! PROOFS.  What signals, messages and writes of data leave of the collectives a module takes part in (R79, R136, R154, R193, R206). -/

namespace Sys2Proof.Machine

theorem State.fab_foldl {α : Type} {f : State → α → State} (hf : ∀ v x, (f v x).fab = v.fab) (l : List α) (s : State) :
    (l.foldl f s).fab = s.fab :=
  List.foldlRecOn (motive := fun v => v.fab = s.fab) l f rfl fun v hv x _ => (hf v x).trans hv

/-- What is done in one of two ways leaves the collectives when each of them does. -/
theorem State.colls_ite {s u v : State} {c : Prop} [Decidable c] (hu : u.fab.colls = s.fab.colls) (hv : v.fab.colls = s.fab.colls) :
    (if c then u else v).fab.colls = s.fab.colls := by
  split <;> assumption

/-! ### Records and rejections -/

theorem State.fab_raiseBit (s : State) (f : Fld) (i : Nat) : (s.raiseBit f i).fab = s.fab := by rw [State.raiseBit_eq]

theorem State.fab_raise (s : State) (f : Fld) (i sev : Nat) (d : List Word) (m : Nat) : (s.raise f i sev d m).fab = s.fab := by
  rw [State.raise_eq]

theorem State.fab_reject (s : State) (m t k a : Nat) : (s.reject m t k a).fab = s.fab :=
  (State.reject_latches s m t k a).2.2.fab_eq

/-! ### Tokens and descriptors -/

/-- What a SIGNAL and the status of a RUN leave: the collectives, and every register but the causes of clusters and the recorder's. -/
structure Signalled (s t : State) : Prop where
  colls : t.fab.colls = s.fab.colls
  regs : SameRegs (.CLU_CAUSE :: recRegs) s t

section Signalled
variable {s t u v : State}

theorem Signalled.refl (s : State) : Signalled s s := ⟨rfl, fun _ _ _ => rfl⟩

theorem Signalled.ite {c : Prop} [Decidable c] (hu : Signalled s u) (hv : Signalled s v) : Signalled s (if c then u else v) := by
  split <;> assumption

variable (h : Signalled s u)
include h

theorem Signalled.trans (h' : Signalled u t) : Signalled s t :=
  ⟨h'.colls.trans h.colls, fun r i hr => (h'.regs r i hr).trans (h.regs r i hr)⟩

/-- A change of other fields. -/
theorem Signalled.other (hc : v.fab.colls = u.fab.colls) (hr : v.regs = u.regs) : Signalled s v :=
  h.trans ⟨hc, fun r i _ => by rw [State.reg, State.reg, hr]⟩

theorem Signalled.modRun (n : Nat) (f : Cmd → Cmd) : Signalled s (u.modRun n f) := h.other rfl rfl

theorem Signalled.tokovf (q : Nat) : Signalled s (u.raise F.CLU_CAUSE_TOKOVF q) :=
  h.trans ⟨by rw [State.fab_raise], ((OnlyLogs.refl [.CLU_CAUSE] u).raise _ _ _ _ _ (by decide)).1⟩

theorem Signalled.tokStopped (q : Nat) : Signalled s (u.tokStopped q) := by
  unfold State.tokStopped
  split
  · exact h
  · exact h.other rfl rfl

theorem Signalled.tokAdd (k n : Nat) : Signalled s (u.tokAdd k n).1 := by
  have hadd : Signalled s (u.tokAdded k n) := h.other rfl rfl
  rcases Nat.lt_or_ge 65535 (u.tokCount k + n) with hover | hfits
  · rw [State.tokAdd_of_overflow hover]
    cases u.tokHolder k with
    | none => exact hadd
    | some q => exact (hadd.tokovf q).tokStopped q
  · rw [State.tokAdd_of_fits hfits]
    exact hadd

theorem Signalled.bobSignal (p : Nat) (d : BobDesc) : Signalled s (u.bobSignal p d) := by
  unfold State.bobSignal
  split
  · split
    · exact h.tokAdd _ _
    · exact h
  · exact h

theorem Signalled.endDesc (d : DescRun) : Signalled s (u.endDesc d) := by
  have herase : Signalled s { u with fab := { u.fab with descs := u.fab.descs.erase d } } := h.other rfl rfl
  exact .ite (herase.other rfl rfl) (Signalled.bobSignal (.ite herase (herase.modRun _ _)) _ _)

end Signalled

/-! ### Packets sent (R193, R198) -/

theorem State.colls_failDesc (s : State) (desc : Option Nat) (status origin : Nat) :
    (s.failDesc desc status origin).fab.colls = s.fab.colls := by cases desc <;> rfl

theorem State.colls_settle (s : State) (desc : Option Nat) (n : Nat) : (s.settle desc n).fab.colls = s.fab.colls := by
  cases desc <;> rfl

theorem State.colls_unsettle (s : State) (desc : Option Nat) : (s.unsettle desc).fab.colls = s.fab.colls := by
  cases desc <;> rfl

theorem State.colls_enqueue (s : State) (j : Nat) (p : Packet) (e : Bool) : (s.enqueue j p e).fab.colls = s.fab.colls :=
  State.colls_ite rfl (State.colls_ite (u := { s with fab := { s.fab with inbox := s.fab.inbox ++ [(j, p)] } }) rfl rfl)

theorem State.colls_sendNow (s : State) (p : Packet) (desc : Option Nat) : (s.sendNow p desc).fab.colls = s.fab.colls := by
  unfold State.sendNow
  simp only
  split
  · rw [State.colls_settle, State.colls_failDesc, State.fab_raise]
  · exact State.colls_enqueue _ _ _ _

theorem State.colls_inject (s : State) (p : Packet) (desc : Option Nat) : (s.inject p desc).fab.colls = s.fab.colls := by
  have hopen : ((if p.cls = 3 then s else s.addPeer p.srcPart.toNat p.dstMod.toNat).unsettle desc).fab.colls = s.fab.colls :=
    (State.colls_unsettle _ _).trans (State.colls_ite rfl rfl)
  unfold State.inject
  exact State.colls_ite (State.colls_failDesc _ _ _ _) (State.colls_ite ((State.colls_sendNow _ _ _).trans hopen) hopen)

theorem State.colls_sendCtl (s : State) (c : Coll) (dst kind count : Nat) :
    (s.sendCtl c dst kind count).fab.colls = s.fab.colls := State.colls_inject _ _ _

/-! ### Writes of partition memory (R136, R142, R143) -/

theorem State.fab_sweepShow (s : State) : s.sweepShow.fab = s.fab :=
  State.fab_foldl (fun v _ => v.fab_wr _ _ _) _ _

theorem State.fab_sweepDone (s : State) (n : Nat) : (s.sweepDone n).fab = s.fab := by
  unfold State.sweepDone
  extract_lets old s1 s2
  change s2.fab = s1.fab
  unfold s2
  split
  · rfl
  · rw [State.fab_foldl fun v k => v.fab_raiseBit _ k, State.fab_raise]

theorem State.fab_countOld (s : State) (n : Nat) : (s.countOld n).fab = s.fab := by
  rw [State.countOld, State.fab_sweepShow]
  split
  · exact State.fab_sweepDone _ _
  · rfl

theorem State.fab_convert (s : State) (k f : Nat) : (s.convert k f).fab = s.fab := by
  unfold State.convert
  simp only
  split
  · split
    · exact State.fab_countOld _ _
    · rfl
  · rfl

theorem State.fab_memLine (s : State) (k a : Nat) (l : List (Option Byte)) (b : Bool) : (s.memLine k a l b).fab = s.fab := by
  unfold State.memLine
  split
  · rfl
  · exact (apply_ite State.fab _ _ _).trans (ite_self _)

theorem State.fab_memOp (s : State) (k : Nat) (x : Nat × Option (List (Option Byte) × Bool)) : (s.memOp k x).fab = s.fab := by
  unfold State.memOp
  split
  · exact State.fab_memLine _ _ _ _ _
  · rfl

theorem State.fab_settled (s : State) (k f : Nat) : (s.settled k f).fab = s.fab := by
  unfold State.settled
  split
  · rw [State.convEnd, State.fab_foldl fun v x => v.fab_memOp _ x, State.fab_convert]
  · rfl

theorem State.fab_memWriteLine (s : State) (k a : Nat) (l : List (Option Byte)) (b : Bool) : (s.memWriteLine k a l b).fab = s.fab := by
  unfold State.memWriteLine
  split
  · rfl
  · simp only [State.fab_memLine]
    split
    · rw [State.fab_convert, State.fab_settled]
    · exact State.fab_settled _ _ _

theorem State.fab_partWrite (s : State) (n o : Nat) (l : List Byte) (b : Bool) : (s.partWrite n o l b).fab = s.fab := by
  refine State.fab_foldl (fun v x => ?_) _ _
  simp only
  split
  · rfl
  · exact State.fab_memWriteLine _ _ _ _ _

/-! ### Writes of moved data (R111, R154) -/

theorem State.colls_putLines (s : State) (n : Nat) (desc : Option Nat) (ord : Bool) (flow m part : Nat) (space : Bool) (addr : Nat)
    (l : List (Byte × Bool)) : (s.putLines n desc ord flow m part space addr l).fab.colls = s.fab.colls := State.colls_inject _ _ _

theorem State.colls_mergeLine (s : State) (n : Nat) (desc : Option Nat) (ord : Bool) (flow m slot off : Nat) (l : List (Byte × Bool)) :
    (s.mergeLine n desc ord flow m slot off l).fab.colls = s.fab.colls := State.colls_inject _ _ _

theorem State.colls_loanWrite (s : State) (n : Nat) (desc : Option Nat) (ord : Bool) (flow m slot off : Nat) (l : List (Byte × Bool)) :
    (s.loanWrite n desc ord flow m slot off l).fab.colls = s.fab.colls := by
  unfold State.loanWrite
  extract_lets h body s1 s2
  have h1 : s1.fab.colls = s.fab.colls := State.colls_ite rfl (State.colls_mergeLine _ _ _ _ _ _ _ _ _)
  have h2 : s2.fab.colls = s.fab.colls := State.colls_ite h1 ((State.colls_putLines _ _ _ _ _ _ _ _ _ _).trans h1)
  exact State.colls_ite h2 ((State.colls_mergeLine _ _ _ _ _ _ _ _ _).trans h2)

theorem State.colls_pageWriteMem (s : State) (n : Nat) (desc : Option Nat) (ord : Bool) (flow o : Nat) (l : List (Byte × Bool)) :
    (s.pageWriteMem n desc ord flow o l).fab.colls = s.fab.colls := by
  unfold State.pageWriteMem
  split
  case h_1 => exact congrArg Fabric.colls (State.fab_foldl (fun v x => v.fab_partWrite _ _ _ _) _ _)
  case h_2 => exact State.colls_loanWrite _ _ _ _ _ _ _ _ _
  case h_3 => rw [State.colls_failDesc, State.fab_reject]

/-- Data written to their destination leave the collectives as they were. -/
theorem State.colls_writeDest (s : State) (n : Nat) (desc : Option Nat) (ord : Bool) (flow : Nat) (d : Dest) (l : List (Byte × Bool)) :
    (s.writeDest n desc ord flow d l).fab.colls = s.fab.colls := by
  cases d with
  | mem o =>
    exact State.colls_ite (State.colls_pageWriteMem _ _ _ _ _ _ _)
      ((State.colls_pageWriteMem _ _ _ _ _ _ _).trans (State.colls_pageWriteMem _ _ _ _ _ _ _))
  | store p a => exact (congrArg (·.fab.colls) (s.storeWriteP_eq p a l) :)
  | peer a => exact State.colls_putLines _ _ _ _ _ _ _ _ _ _
  | host id off => rfl
  | index id off => rfl
  | merge m slot off x ord flow => exact State.colls_ite rfl (State.colls_putLines _ _ _ _ _ _ _ _ _ _)

end Sys2Proof.Machine
end

section
/-! PROOFS.  Messages of collectives: a collective is found, changed and ended (R204 to R208), and the statement on them. -/

namespace Sys2Proof.Machine

/-! ### A collective among the others -/

/-- What names a collective: its partition, its ID and its run. -/
def Coll.key (c : Coll) : Nat × Nat × Nat := (c.part, c.id, c.run)

theorem Coll.key_eq (x c : Coll) : (x.part = c.part ∧ x.id = c.id ∧ x.run = c.run) ↔ x.key = c.key := by simp [Coll.key]

theorem State.collNow_eq (s : State) (c : Coll) : s.collNow c = (s.fab.colls.find? fun x => x.key = c.key).getD c := by
  simp only [State.collNow, Coll.key_eq]

theorem State.collNow_congr {s t : State} (h : t.fab.colls = s.fab.colls) (c : Coll) : t.collNow c = s.collNow c := by
  rw [State.collNow, h, State.collNow]

theorem State.key_collNow (s : State) (c : Coll) : (s.collNow c).key = c.key := by
  rw [State.collNow_eq]
  cases hfind : s.fab.colls.find? fun x => x.key = c.key with
  | none => rfl
  | some x => simpa using List.find?_some hfind

/-- Whether a state lists a collective of this name. -/
def State.lists (s : State) (c : Coll) : Prop := c.key ∈ s.fab.colls.map Coll.key

theorem State.modColl_onlyFab (s : State) (c : Coll) (f : Coll → Coll) : OnlyFab s (s.modColl c f) := rfl

/-- Collectives of one name are changed alike. -/
theorem State.modColl_congr (s : State) {c d : Coll} (h : d.key = c.key) (f : Coll → Coll) : s.modColl d f = s.modColl c f := by
  simp only [State.modColl, Coll.key_eq, h]

/-- A change of a collective that is listed shows in its present form. -/
theorem State.collNow_modColl {s : State} {c : Coll} (hc : s.lists c) {f : Coll → Coll}
    (hf : ∀ x, (f x).key = x.key) : (s.modColl c f).collNow c = f (s.collNow c) := by
  have hkeys : (fun x => decide ((if x.key = c.key then f x else x).key = c.key)) = fun x => decide (x.key = c.key) := by
    funext x
    split
    · rw [hf]
    · rfl
  obtain ⟨y, hy⟩ : ∃ y, s.fab.colls.find? (fun x => x.key = c.key) = some y :=
    Option.isSome_iff_exists.1 (List.find?_isSome.2 (by simpa [State.lists] using hc))
  have hykey : y.key = c.key := by simpa using List.find?_some hy
  simp only [State.collNow_eq, State.modColl, Coll.key_eq, List.find?_map, Function.comp_def, hkeys, hy, Option.map_some, Option.getD_some,
    if_pos hykey]

/-- Collectives that `f` shows alike, in order, each with what names it. -/
def CollsShow {β : Type} (f : Coll → β) (s t : State) : Prop :=
  t.fab.colls.map (fun c => (c.key, f c)) = s.fab.colls.map fun c => (c.key, f c)

section CollsShow
variable {β : Type} {f : Coll → β} {s t u v : State}

theorem CollsShow.refl (f : Coll → β) (s : State) : CollsShow f s s := rfl

theorem CollsShow.ite {c : Prop} [Decidable c] (hu : CollsShow f s u) (hv : CollsShow f s v) : CollsShow f s (if c then u else v) := by
  split <;> assumption

/-- The present form of a collective shows as before. -/
theorem CollsShow.collNow (h : CollsShow f s t) (c : Coll) : f (t.collNow c) = f (s.collNow c) := by
  have hshow (u : State) : f (u.collNow c) =
      (((u.fab.colls.map fun c => (c.key, f c)).find? fun x => x.1 = c.key).map Prod.snd).getD (f c) := by
    rw [State.collNow_eq, List.find?_map, Option.map_map]
    simp only [Function.comp_def]
    cases u.fab.colls.find? fun x => decide (x.key = c.key) <;> rfl
  rw [hshow, hshow, h]

variable (h : CollsShow f s u)
include h

theorem CollsShow.trans (h' : CollsShow f u t) : CollsShow f s t := Eq.trans h' h

theorem CollsShow.foldl {α : Type} {g : State → α → State} (l : List α) (hg : ∀ v x, CollsShow f s v → CollsShow f s (g v x)) :
    CollsShow f s (l.foldl g u) :=
  List.foldlRecOn l g h fun v hv x _ => hg v x hv

theorem CollsShow.lists {c : Coll} (hc : s.lists c) : u.lists c := by
  have hkeys (w : State) : w.fab.colls.map Coll.key = (w.fab.colls.map fun c => (c.key, f c)).map Prod.fst := by simp
  rwa [State.lists, hkeys, h, ← hkeys]

theorem CollsShow.other (hc : v.fab.colls = u.fab.colls) : CollsShow f s v := by rwa [CollsShow, hc]

/-- A change of a collective that neither its name nor `f` shows. -/
theorem CollsShow.modColl (c : Coll) {g : Coll → Coll} (hg : ∀ x, (g x).key = x.key ∧ f (g x) = f x) :
    CollsShow f s (u.modColl c g) := by
  refine h.trans ?_
  simp only [CollsShow, State.modColl, List.map_map]
  refine List.map_congr_left fun x _ => ?_
  simp only [Function.comp_apply]
  split
  · rw [(hg x).1, (hg x).2]
  · rfl

end CollsShow

/-! ### Busy bits (R208) -/

/-- A bit that is masked out is clear. -/
theorem getLsbD_masked (w : Word) (b : Nat) : (w &&& ~~~BitVec.ofNat 32 (2 ^ b)).getLsbD b = false := by
  rw [BitVec.getLsbD_and, BitVec.getLsbD_not, BitVec.getLsbD_ofNat, Nat.testBit_two_pow_self, Bool.and_true,
    Bool.and_not_self, Bool.and_false]

theorem State.busy_setBusy (s : State) (n id : Nat) : (s.setBusy n id 0).busy n id = false := by
  unfold State.setBusy State.busy
  by_cases hlow : id < 32
  · simp only [if_pos hlow, State.reg_setReg, and_self, if_true, getLsbD_masked, zero_ne_one, if_false]
  · simp only [if_neg hlow, State.reg_setReg, and_self, if_true, getLsbD_masked, zero_ne_one, if_false]

theorem SameRegs.busy {rs : List Reg} {s t : State} (h : SameRegs rs s t) (hlo : .FAB_COLL_BUSY_LO ∉ rs) (hhi : .FAB_COLL_BUSY_HI ∉ rs)
    (n id : Nat) : t.busy n id = s.busy n id := by
  rw [State.busy, h _ _ hlo, h _ _ hhi, State.busy]

/-! ### A collective is over (R206) -/

/-- A collective that is over, with success or without. -/
def Coll.over (ok : Bool) (c : Coll) : Coll := { c with done := some ok, msgs := [], acc := [] }

/-- The collective is marked over, and its ID is free. -/
def State.collFreed (s : State) (c : Coll) (ok : Bool) : State :=
  (s.modColl c (Coll.over ok)).setBusy c.part c.id 0

/-- One that failed raises COLL_FAIL. -/
def State.collEnded (s : State) (c : Coll) (ok : Bool) : State :=
  if ok then s.collFreed c ok else (s.collFreed c ok).raise F.FAB_TR_CAUSE_COLL_FAIL 0 0 [wd c.part, wd c.id]

/-- After that only the RUN takes a status and the step's SIGNAL follows. -/
theorem State.collOver_signalled (s : State) (c : Coll) (ok : Bool) : Signalled (s.collEnded c ok) (s.collOver c ok) := by
  unfold State.collOver
  extract_lets s1 s2 s3
  have h3 : Signalled s2 s3 := .ite ((Signalled.refl s2).modRun _ _) (.refl s2)
  change Signalled s2 _
  split
  · exact h3.endDesc _
  · exact h3

theorem State.colls_setBusy (s : State) (n id v : Nat) : (s.setBusy n id v).fab.colls = s.fab.colls := State.colls_ite rfl rfl

theorem State.colls_collEnded (s : State) (c : Coll) (ok : Bool) : (s.collEnded c ok).fab.colls =
    (s.modColl c (Coll.over ok)).fab.colls :=
  have hfreed := State.colls_setBusy (s.modColl c (Coll.over ok)) c.part c.id 0
  State.colls_ite hfreed ((congrArg Fabric.colls (State.fab_raise _ _ _ _ _ _)).trans hfreed)

theorem State.busy_collEnded (s : State) (c : Coll) (ok : Bool) : (s.collEnded c ok).busy c.part c.id = false := by
  have hfreed : (s.collFreed c ok).busy c.part c.id = false := State.busy_setBusy _ _ _
  unfold State.collEnded
  split
  · exact hfreed
  · exact (SameRegs.busy ((OnlyLogs.refl [.FAB_TR_CAUSE] _).raise _ _ _ _ _ (by decide)).1 (by decide) (by decide) _ _).trans hfreed

/-- The end of a collective, named by any of its forms, at this participant. -/
theorem State.collOver_ends {s : State} {c d : Coll} (hkey : d.key = c.key) (hc : s.lists c) (ok : Bool) :
    ((s.collOver d ok).collNow c).done = some ok ∧ (s.collOver d ok).busy c.part c.id = false := by
  have hover := s.collOver_signalled d ok
  have hname : d.part = c.part ∧ d.id = c.id ∧ d.run = c.run := (Coll.key_eq d c).2 hkey
  constructor
  · rw [State.collNow_congr (hover.colls.trans (s.colls_collEnded d ok)), s.modColl_congr hkey,
      State.collNow_modColl (f := Coll.over ok) hc fun _ => rfl, Coll.over]
  · rw [hover.regs.busy (by decide) (by decide), ← hname.1, ← hname.2.1, State.busy_collEnded]

/-- One that failed has raised COLL_FAIL. -/
theorem State.flag_collOver (s : State) (c : Coll) : (s.collOver c false).flag F.FAB_TR_CAUSE_COLL_FAIL = true := by
  rw [(s.collOver_signalled c false).regs.flag (by decide)]
  exact State.flag_raise_same _ _ _ _ _ _ (by decide)

/-! ### What an ALL_TO_ALL counts (R207) -/

/-- The ENDs held and the rows received. -/
def Coll.tally (c : Coll) : List (Nat × Nat) × List (Nat × Nat) := (c.ends, c.rowsIn)

/-- A collective with the count `n` of rank `r`'s END. -/
def Coll.withEnd (r n : Nat) (c : Coll) : Coll := { c with ends := Assoc.put c.ends r n }

/-- A collective with `n` lines of rank `r` received. -/
def Coll.withRows (r n : Nat) (c : Coll) : Coll := { c with rowsIn := Assoc.put c.rowsIn r n }

section Tally
variable {s u : State} (h : CollsShow Coll.tally s u)
include h

theorem CollsShow.sendCtl (c : Coll) (dst kind count : Nat) : CollsShow Coll.tally s (u.sendCtl c dst kind count) :=
  h.other (u.colls_sendCtl c dst kind count)

theorem CollsShow.collOver (c : Coll) (ok : Bool) : CollsShow Coll.tally s (u.collOver c ok) :=
  (h.modColl c (g := Coll.over ok) fun _ => ⟨rfl, rfl⟩).other ((u.collOver_signalled c ok).colls.trans (u.colls_collEnded c ok))

theorem CollsShow.collReady (c : Coll) (r : Nat) (bad : Bool) : CollsShow Coll.tally s (u.collReady c r bad) := by
  unfold State.collReady
  extract_lets rs s1 s2 now
  have h1 : CollsShow Coll.tally s s1 := h.modColl c fun _ => ⟨rfl, rfl⟩
  have h2 : CollsShow Coll.tally s s2 := h1.modColl c fun _ => ⟨rfl, rfl⟩
  exact .ite ((h2.foldl _ fun _ _ hv => hv.sendCtl _ _ _ _).collOver now true) h1

/-- READY leaves the counts. -/
theorem CollsShow.collCheck (c : Coll) : CollsShow Coll.tally s (u.collCheck c) := by
  unfold State.collCheck
  extract_lets now left ends s1
  have h1 : CollsShow Coll.tally s s1 := h.modColl _ fun _ => ⟨rfl, rfl⟩
  exact .ite (.ite (h1.collReady _ _ _) (h1.sendCtl _ _ _ _)) h

end Tally

theorem State.counts_collCheck (s : State) (c : Coll) : ((s.collCheck c).collNow c).ends = (s.collNow c).ends ∧
    ((s.collCheck c).collNow c).rowsIn = (s.collNow c).rowsIn :=
  have hkept := ((CollsShow.refl _ s).collCheck c).collNow c
  ⟨congrArg Prod.fst hkept, congrArg Prod.snd hkept⟩

/-! ### READY of all (R206) -/

/-- A collective with READY of `l`, and with poison where one of them met it. -/
def Coll.withReady (l : List Nat) (bad : Bool) (c : Coll) : Coll := { c with ready := l, poison := c.poison || bad }

/-- READY of a rank that is not the last to come. -/
theorem State.collReady_early {c : Coll} {r : Nat} (hnew : r ∉ c.ready) (hmore : c.ready.length + 1 ≠ c.n) (s : State)
    (bad : Bool) :
    s.collReady c r bad = s.modColl c (Coll.withReady (r :: c.ready) bad) := by
  simp only [State.collReady, List.elem_eq_mem, hnew, decide_false, Bool.false_eq_true, if_false, List.length_cons, hmore, Bool.false_and]
  rfl

/-- The last READY commits the collective. -/
theorem State.collReady_last {s : State} {c : Coll} {r : Nat} (hc : s.lists c) (hnew : r ∉ c.ready) (hlast : c.ready.length + 1 = c.n)
    (hopen : c.sentCommit = false) (bad : Bool) :
    ((s.collReady c r bad).collNow c).done = some true ∧ (s.collReady c r bad).busy c.part c.id = false := by
  have hall : ((if c.ready.elem r then c.ready else r :: c.ready).length = c.n && !c.sentCommit) = true := by
    simp [hnew, hlast, hopen]
  unfold State.collReady
  extract_lets rs s1 s2 now
  rw [if_pos hall]
  have h1 : CollsShow Coll.tally s s1 := (CollsShow.refl _ s).modColl c fun _ => ⟨rfl, rfl⟩
  have h2 : CollsShow Coll.tally s s2 := h1.modColl c fun _ => ⟨rfl, rfl⟩
  exact State.collOver_ends (s2.key_collNow c) ((h2.foldl _ fun _ _ hv => hv.sendCtl _ _ _ _).lists hc) true

/-- COMMIT held, with poison where a participant met it, and the collective over with it. -/
def State.committed (s : State) (c : Coll) (bad : Bool) : State :=
  let told := s.modColl c fun x => { x with sentCommit := true, poison := x.poison || bad }
  told.collOver (told.collNow c) true

theorem State.committed_ends {s : State} {c : Coll} (hc : s.lists c) (bad : Bool) :
    ((s.committed c bad).collNow c).done = some true ∧ (s.committed c bad).busy c.part c.id = false := by
  unfold State.committed
  extract_lets told
  have htold : CollsShow Coll.tally s told := (CollsShow.refl _ s).modColl c fun _ => ⟨rfl, rfl⟩
  exact State.collOver_ends (told.key_collNow c) (htold.lists hc) true

/-! ### A message taken in (R193, R204, R257) -/

theorem State.lists_of_mem {s : State} {c : Coll} (h : c ∈ s.fab.colls) : s.lists c := List.mem_map_of_mem h

theorem State.lists_of_collOf {s : State} {p : Packet} {c : Coll} (h : s.collOf p = some c) : s.lists c :=
  State.lists_of_mem (List.mem_of_find?_eq_some h)

theorem State.mem_of_collAny {s : State} {p : Packet} {c : Coll} (h : s.collAny p = some c) :
    c ∈ s.fab.colls ∧ c.id = p.tag.toNat % 64 := by
  have hmem := List.mem_filter.1 (List.mem_of_getLast? h)
  simp only [Bool.and_eq_true, decide_eq_true_eq] at hmem
  exact ⟨hmem.1, hmem.2.2⟩

theorem State.lists_of_collOpen {s : State} {p : Packet} {c : Coll} (h : s.collOpen p = some c) : s.lists c := by
  unfold State.collOpen at h
  split at h
  next d hd => exact Option.some.inj h ▸ State.lists_of_collOf hd
  next => exact State.lists_of_mem (List.mem_filter.1 (List.mem_of_getLast? h)).1

/-- The state in which a packet that its class takes next is delivered. -/
def State.delivering (s : State) (j : Nat) (p : Packet) : State :=
  let k := flowKey p.srcMod.toNat p.cls.toNat
  ((s.unbox j p).noteStall k p).setRx k ((s.rxFlow k).take p).1

theorem State.delivering_takenIn {p : Packet} (hretx : p.retx = false) (s : State) (j : Nat) : TakenIn s (s.delivering j p) := by
  obtain ⟨_, _, hunbox⟩ := s.unbox_takenIn j p
  obtain ⟨_, hstall⟩ := (s.unbox j p).noteStall_of_first hretx (flowKey p.srcMod.toNat p.cls.toNat)
  rw [State.delivering, hstall, hunbox]
  exact ⟨_, _, _, _, rfl⟩

/-- It is handed on once, and an acknowledgement may follow. -/
theorem State.recvSeq_eq {s : State} {p : Packet} (hnext : s.nextIn p = true) (j : Nat) (f : Packet → State → State) :
    s.recvSeq j p f = (f p (s.delivering j p)).ackDue (flowKey p.srcMod.toNat p.cls.toNat) := by
  simp only [State.nextIn, Bool.and_eq_true, Bool.not_eq_true', decide_eq_true_eq, and_assoc] at hnext
  obtain ⟨hepoch, hcarries, hahead, -, hpsn⟩ := hnext
  have hunboxed : (s.unbox j p).oldEpoch p = false ∧ (s.unbox j p).carriesIn p = true ∧ (s.unbox j p).rxFlow = s.rxFlow := by
    obtain ⟨_, _, hunbox⟩ := s.unbox_takenIn j p
    rw [hunbox]
    exact ⟨hepoch, hcarries, rfl⟩
  obtain ⟨hepoch', hcarries', hflow⟩ := hunboxed
  simp [State.recvSeq, State.delivering, hepoch', hcarries', hflow, RxFlow.take_next hahead hpsn, hpsn]

/-- The collective that a control message of a kind is for. -/
def ctlFind (kind : Nat) (s : State) (p : Packet) : Option Coll :=
  if kind = 0 || kind = 1 || kind = 4 then s.collOpen p else s.collAny p

section TakenIn
variable {s t u : State} (h : TakenIn s u)
include h

theorem TakenIn.trans (h' : TakenIn u t) : TakenIn s t := by
  obtain ⟨_, _, _, _, rfl⟩ := h
  obtain ⟨_, _, _, _, rfl⟩ := h'
  exact ⟨_, _, _, _, rfl⟩

theorem TakenIn.onlyFab : OnlyFab s u := by
  obtain ⟨_, _, _, _, rfl⟩ := h
  rfl

theorem TakenIn.txFlow (k : Nat) : u.txFlow k = s.txFlow k := h.eq (·.txFlow k) fun _ _ _ _ => rfl

theorem TakenIn.collNow (c : Coll) : u.collNow c = s.collNow c := h.eq (·.collNow c) fun _ _ _ _ => rfl

theorem TakenIn.lists {c : Coll} (hc : s.lists c) : u.lists c := (h.eq (·.lists c) fun _ _ _ _ => rfl).mpr hc

theorem TakenIn.busy (n id : Nat) : u.busy n id = s.busy n id := h.eq (·.busy n id) fun _ _ _ _ => rfl

theorem TakenIn.flag (f : Fld) (i : Nat) : u.flag f i = s.flag f i := h.eq (·.flag f i) fun _ _ _ _ => rfl

theorem TakenIn.full (m cls : Nat) : u.full m cls = s.full m cls := h.eq (·.full m cls) fun _ _ _ _ => rfl

theorem TakenIn.coordinator (c : Coll) : u.coordinator c = s.coordinator c := h.eq (·.coordinator c) fun _ _ _ _ => rfl

theorem TakenIn.collAdmits (p : Packet) : u.collAdmits p = s.collAdmits p := h.eq (·.collAdmits p) fun _ _ _ _ => rfl

theorem TakenIn.collOf (p : Packet) : u.collOf p = s.collOf p := h.eq (·.collOf p) fun _ _ _ _ => rfl

theorem TakenIn.ctlFind (kind : Nat) (p : Packet) : Machine.ctlFind kind u p = Machine.ctlFind kind s p :=
  h.eq (fun v => Machine.ctlFind kind v p) fun _ _ _ _ => rfl

end TakenIn

/-- An acknowledgement sent changes what a packet taken in may change. -/
theorem State.ackDue_takenIn (s : State) (k : Nat) : TakenIn s (s.ackDue k) := by
  have hqueue (v : State) (j : Nat) (p : Packet) (e : Bool) : TakenIn v (v.enqueue j p e) := by
    unfold State.enqueue
    split
    · exact ⟨_, _, _, _, rfl⟩
    · split <;> exact ⟨_, _, _, _, rfl⟩
  have hsend (v : State) (p : Packet) : TakenIn v (v.sendLoose p) := by
    unfold State.sendLoose
    simp only
    split
    · exact ⟨_, _, _, _, rfl⟩
    · exact hqueue _ _ _ _
  have hrx : TakenIn s (s.setRx k { s.rxFlow k with since := 0 }) := ⟨_, _, _, _, rfl⟩
  unfold State.ackDue State.sendAck
  split
  · exact hrx.trans (hsend _ _)
  · exact ⟨_, _, _, _, rfl⟩

/-- A message of type `typ` that comes next in its flow, from the participant of `c` its rank names, which the partition admits; `c` is
the present form of the collective. -/
structure CollComes (typ : Nat) (p : Packet) (c : Coll) (s : State) : Prop where
  mine : s.mine p typ = true
  admits : s.collAdmits p = true
  sentBy : c.sentBy p = true
  next : s.nextIn p = true
  first : p.retx = false
  now : s.collNow c = c

section Comes
variable {typ : Nat} {p : Packet} {c : Coll} {s : State}

theorem CollComes.delivering (h : CollComes typ p c s) (j : Nat) : TakenIn s (s.delivering j p) := s.delivering_takenIn h.first j

theorem CollComes.now_delivering (h : CollComes typ p c s) (j : Nat) : (s.delivering j p).collNow c = c := by
  rw [(h.delivering j).collNow, h.now]

/-- It is taken for the collective it finds. -/
theorem CollComes.collRecv (h : CollComes typ p c s) {find : State → Packet → Option Coll} {j : Nat}
    (hfind : find (s.delivering j p) p = some c) (f : Coll → Packet → State → State) :
    s.collRecv j p find f = (f c p (s.delivering j p)).ackDue (flowKey p.srcMod.toNat p.cls.toNat) := by
  have hadmits : (s.delivering j p).collAdmits p = true := by rw [(h.delivering j).collAdmits, h.admits]
  rw [State.collRecv, State.recvSeq_eq h.next]
  simp only [hadmits, hfind, h.sentBy, Bool.not_true, Bool.false_eq_true, if_false, if_true]

/-- So is a control message; `v` is the state it leaves before an acknowledgement. -/
theorem CollComes.ctlRecv (h : CollComes 0x09 p c s) {kind : Nat} {j : Fin 145} (hkind : bitsOf p.tag.toNat 17 3 = kind)
    (hfind : ctlFind kind s p = some c) {f : Coll → Packet → State → State} {v : State} (hv : f c p (s.delivering j p) = v) :
    ∃ t, Machine.ctlRecv j p kind f s = .next t ∧ TakenIn v t := by
  have hgoes : (s.mine p 0x09 && bitsOf p.tag.toNat 17 3 = kind) = true := by simp [h.mine, hkind]
  have hnone : ((ctlFind kind s p).isNone && s.collAdmits p) = false := by simp [hfind]
  have hrecv := h.collRecv (find := ctlFind kind) (j := j) (by rw [(h.delivering j).ctlFind, hfind]) f
  refine ⟨_, (if_pos hgoes).trans ((if_neg (ne_true_of_eq_false hnone)).trans (congrArg _ hrecv)), ?_⟩
  rw [hv]
  exact State.ackDue_takenIn _ _

end Comes

/-! ### Messages that wait (R193) -/

theorem State.txFlow_addPeer (s : State) (n m : Nat) : (s.addPeer n m).txFlow = s.txFlow := rfl

/-- What a packet handed to a flow class whose places are taken leaves: its peer noted, and the packet last among those that wait. -/
theorem State.inject_of_places {s : State} {p : Packet} {k : Nat} (hk : flowKey p.dstMod.toNat p.cls.toNat = k)
    (hfull : s.full p.dstMod.toNat p.cls.toNat = true) : s.inject p none =
      (if p.cls = 3 then s else s.addPeer p.srcPart.toNat p.dstMod.toNat).setTx k
        { s.txFlow k with waiting := (s.txFlow k).waiting ++ [(p, none)] } := by
  rw [State.full, Bool.and_eq_true, decide_eq_true_eq, Bool.not_eq_true', hk] at hfull
  obtain ⟨hplaces, hlost⟩ := hfull
  have hroom : decide ((s.txFlow k).unacked.length < 512) = false := decide_eq_false (Nat.not_lt.2 hplaces)
  by_cases hcls : p.cls = 3
  · simp only [State.inject, State.unsettle, hk, hlost, hroom, if_pos hcls, Bool.false_and, Bool.false_eq_true, if_false]
  · simp only [State.inject, State.unsettle, hk, hlost, State.txFlow_addPeer, hroom, if_neg hcls, Bool.false_and, Bool.false_eq_true,
      if_false]

/-- It waits, and only the fabric changes. -/
theorem State.inject_waits {s : State} {p : Packet} (hfull : s.full p.dstMod.toNat p.cls.toNat = true) :
    Waits p.dstMod.toNat p.cls.toNat s (s.inject p none) p ∧ OnlyFab s (s.inject p none) := by
  rw [State.inject_of_places rfl hfull]
  constructor
  · exact congrArg TxFlow.waiting ((Assoc.get_set _ _ _ _ _).trans (if_pos rfl))
  · split <;> rfl

/-- The control message of a kind that a participant sends to a rank. -/
def State.ctlPacket (s : State) (c : Coll) (dst kind count : Nat) : Packet :=
  { s.blank 0x09 2 (c.mod dst) (c.prt dst) c.part with
    tag := BitVec.ofNat 32 (c.id + c.rank * 2 ^ 6 + kind * 2 ^ 17), addr := BitVec.ofNat 64 count }

theorem State.sendCtl_waits {s : State} {c : Coll} {dst kind count : Nat} (hfull : s.full (c.mod dst) 2 = true) :
    Waits (c.mod dst) 2 s (s.sendCtl c dst kind count) (s.ctlPacket c dst kind count) ∧ OnlyFab s (s.sendCtl c dst kind count) := by
  have hdst : (s.ctlPacket c dst kind count).dstMod.toNat = c.mod dst :=
    (BitVec.toNat_ofNat _ _).trans (Nat.mod_eq_of_lt (Nat.mod_lt _ (by decide)))
  have hwaits := State.inject_waits (s := s) (p := s.ctlPacket c dst kind count) (by rw [hdst]; exact hfull)
  rw [hdst] at hwaits
  exact hwaits

/-- The kind of a control message stands in TAG above ID and rank (R186). -/
theorem ctlTag_kind {id rank kind : Nat} (hid : id < 64) (hrank : rank < 2048) (hkind : kind < 8) :
    bitsOf (BitVec.ofNat 32 (id + rank * 2 ^ 6 + kind * 2 ^ 17)).toNat 17 3 = kind := by
  rw [bitsOf, BitVec.toNat_ofNat]
  omega

/-! ### Barriers, READY and COMMIT (R205 to R207) -/

section Control
variable {j : Fin 145} {p : Packet} {c : Coll} {s : State} (h : CollComes 0x09 p c s)
include h

theorem execArrive_effect (hkind : bitsOf p.tag.toNat 17 3 = 0) (hfind : s.collOpen p = some c) (hopen : c.done = none)
    (hcoord : s.coordinator c = c.rank) (hnew : tagRank p ∉ c.ready) (hmore : c.ready.length + 1 ≠ c.n) :
    ∃ t, execArrive j p s = .next t ∧ (t.collNow c).ready = tagRank p :: c.ready ∧ (t.collNow c).done = none ∧ t.regs = s.regs ∧
      t.mem = s.mem ∧ t.store = s.store := by
  have htaken := h.delivering j
  have hgoes : ((s.delivering j p).coordinator c = c.rank && c.done.isNone) = true := by simp [htaken.coordinator, hcoord, hopen]
  obtain ⟨t, ht, hack⟩ : ∃ t, execArrive j p s = .next t ∧ TakenIn ((s.delivering j p).collReady c (tagRank p) false) t :=
    h.ctlRecv hkind hfind (if_pos hgoes)
  rw [State.collReady_early hnew hmore] at hack
  have hfab : OnlyFab s t := htaken.onlyFab.trans ((State.modColl_onlyFab _ _ _).trans hack.onlyFab)
  have hnow := State.collNow_modColl (htaken.lists (State.lists_of_collOpen hfind))
    (f := Coll.withReady (tagRank p :: c.ready) false) fun _ => rfl
  rw [h.now_delivering] at hnow
  refine ⟨t, ht, ?_, ?_, (congrArg State.regs hfab :), (congrArg State.mem hfab :), (congrArg State.store hfab :)⟩
  · rw [hack.collNow, hnow, Coll.withReady]
  · rw [hack.collNow, hnow]
    exact hopen

theorem execReady_commits (hkind : bitsOf p.tag.toNat 17 3 = 1) (hfind : s.collOpen p = some c) (hopen : c.done = none)
    (hcoord : s.coordinator c = 0) (hrank : c.rank = 0) (hnew : tagRank p ∉ c.ready) (hlast : c.ready.length + 1 = c.n)
    (hsent : c.sentCommit = false) :
    ∃ t, execReady j p s = .next t ∧ (t.collNow c).done = some true ∧ t.busy c.part c.id = false := by
  have htaken := h.delivering j
  have hhere : (s.delivering j p).coordinator c = c.rank := by rw [htaken.coordinator, hcoord, hrank]
  obtain ⟨t, ht, hack⟩ : ∃ t, execReady j p s = .next t ∧
      TakenIn ((s.delivering j p).collReady c (tagRank p) (p.addr.getLsbD 0)) t := h.ctlRecv hkind hfind
    ((if_neg (not_not.2 hhere)).trans ((if_pos hrank).trans (if_pos (Option.isNone_iff_eq_none.2 hopen))))
  obtain ⟨hdone, hbusy⟩ := State.collReady_last (htaken.lists (State.lists_of_collOpen hfind)) hnew hlast hsent (p.addr.getLsbD 0)
  exact ⟨t, ht, by rw [hack.collNow, hdone], by rw [hack.busy, hbusy]⟩

theorem execCommit_effect (hkind : bitsOf p.tag.toNat 17 3 = 2) (hfind : s.collAny p = some c) (hopen : c.done = none)
    (hcoord : s.coordinator c ≠ c.rank) :
    ∃ t, execCommit j p s = .next t ∧ (t.collNow c).done = some true ∧ t.busy c.part c.id = false := by
  have htaken := h.delivering j
  have hnone : ((s.delivering j p).coordinator c = c.rank && c.rank ≠ 0) = false := by simp [htaken.coordinator, hcoord]
  obtain ⟨t, ht, hack⟩ : ∃ t, execCommit j p s = .next t ∧ TakenIn ((s.delivering j p).committed c (p.addr.getLsbD 0)) t :=
    h.ctlRecv hkind hfind ((if_neg (ne_true_of_eq_false hnone)).trans (if_pos (Option.isNone_iff_eq_none.2 hopen)))
  obtain ⟨hdone, hbusy⟩ := State.committed_ends (htaken.lists (State.lists_of_mem (State.mem_of_collAny hfind).1)) (p.addr.getLsbD 0)
  exact ⟨t, ht, by rw [hack.collNow, hdone], by rw [hack.busy, hbusy]⟩

theorem execAbort_effect (hkind : bitsOf p.tag.toNat 17 3 = 3) (hfind : s.collAny p = some c) (hopen : c.done = none)
    (hcoord : s.coordinator c ≠ c.rank) : ∃ t, execAbort j p s = .next t ∧ (t.collNow c).done = some false ∧
      t.busy c.part c.id = false ∧ t.flag F.FAB_TR_CAUSE_COLL_FAIL = true := by
  have htaken := h.delivering j
  have helsewhere : (s.delivering j p).coordinator c ≠ c.rank := by rwa [htaken.coordinator]
  obtain ⟨t, ht, hack⟩ : ∃ t, execAbort j p s = .next t ∧ TakenIn ((s.delivering j p).collOver c false) t :=
    h.ctlRecv hkind hfind ((if_neg helsewhere).trans (if_pos (Option.isNone_iff_eq_none.2 hopen)))
  obtain ⟨hdone, hbusy⟩ := State.collOver_ends rfl (htaken.lists (State.lists_of_mem (State.mem_of_collAny hfind).1)) false
  exact ⟨t, ht, by rw [hack.collNow, hdone], by rw [hack.busy, hbusy], by rw [hack.flag, State.flag_collOver]⟩

theorem execCollEnd_effect (hkind : bitsOf p.tag.toNat 17 3 = 4) (hfind : s.collOpen p = some c) :
    ∃ t, execCollEnd j p s = .next t ∧ (t.collNow c).ends = Assoc.put c.ends (tagRank p) p.addr.toNat := by
  obtain ⟨t, ht, hack⟩ : ∃ t, execCollEnd j p s = .next t ∧
      TakenIn (((s.delivering j p).modColl c (Coll.withEnd (tagRank p) p.addr.toNat)).collCheck c) t := h.ctlRecv hkind hfind rfl
  refine ⟨t, ht, ?_⟩
  rw [hack.collNow, (State.counts_collCheck _ c).1,
    State.collNow_modColl (f := Coll.withEnd (tagRank p) p.addr.toNat) ((h.delivering j).lists (State.lists_of_collOpen hfind))
      fun _ => rfl,
    Coll.withEnd, h.now_delivering]

theorem execQuery_effect (hkind : bitsOf p.tag.toNat 17 3 = 5) (hfind : s.collAny p = some c)
    (hfull : s.full (c.mod (tagRank p)) 2 = true) (hrank : c.rank < 2048) :
    ∃ t q, execQuery j p s = .next t ∧ Waits (c.mod (tagRank p)) 2 s t q ∧ q.typ = 9 ∧
      bitsOf q.tag.toNat 17 3 = (if c.done = some true then 2 else 1) ∧ t.regs = s.regs ∧ t.mem = s.mem ∧ t.store = s.store := by
  have htaken := h.delivering j
  have hid : c.id < 64 := by
    rw [(State.mem_of_collAny hfind).2]
    exact Nat.mod_lt _ (by decide)
  have hanswer : (if c.done = some true then 2 else 1) < 8 := by split <;> decide
  obtain ⟨t, ht, hack⟩ : ∃ t, execQuery j p s = .next t ∧
      TakenIn ((s.delivering j p).sendCtl c (tagRank p) (if c.done = some true then 2 else 1) c.mark) t := h.ctlRecv hkind hfind rfl
  obtain ⟨hwaits, hsent⟩ := State.sendCtl_waits (s := s.delivering j p) (kind := if c.done = some true then 2 else 1)
    (count := c.mark) (by rwa [htaken.full])
  have hfab : OnlyFab s t := htaken.onlyFab.trans (hsent.trans hack.onlyFab)
  refine ⟨t, (s.delivering j p).ctlPacket c (tagRank p) _ c.mark, ht, ?_, rfl, ctlTag_kind hid hrank hanswer,
    (congrArg State.regs hfab :), (congrArg State.mem hfab :), (congrArg State.store hfab :)⟩
  rw [Waits, hack.txFlow, ← htaken.txFlow]
  exact hwaits

end Control

/-! ### Data of an ALL_TO_ALL (R207) -/

theorem State.collOutRow_shows (s : State) (c : Coll) (pos off : Nat) (l : List (Byte × Bool)) :
    CollsShow Coll.tally s (s.collOutRow c pos off l) := by
  unfold State.collOutRow
  split
  · exact CollsShow.modColl ((CollsShow.refl _ s).other (State.colls_writeDest _ _ _ _ _ _ _)) c fun _ => ⟨rfl, rfl⟩
  · exact .refl _ s

/-- The lines of an ALL_TO_ALL written, and counted for the rank that sent them. -/
def State.takeRow (s : State) (c : Coll) (p : Packet) : State :=
  let off := p.addr.toNat % 2 ^ 40
  let rb := c.desc.rowBytes.toNat
  ((s.addPeer c.part p.srcMod.toNat).collOutRow c (off / rb) (off % rb)
    ((pktLines p).flatMap fun x => x.2.1.map fun b => (b, x.2.2))).modColl c
      (Coll.withRows (tagRank p) (Assoc.get 0 c.rowsIn (tagRank p) + p.data.length / 64))

theorem State.rowsIn_takeRow {s : State} {c : Coll} (hc : s.lists c) (p : Packet) :
    Assoc.get 0 ((s.takeRow c p).collNow c).rowsIn (tagRank p) = Assoc.get 0 c.rowsIn (tagRank p) + p.data.length / 64 := by
  have hpeer : CollsShow Coll.tally s (s.addPeer c.part p.srcMod.toNat) := .refl _ s
  unfold State.takeRow
  extract_lets off rb
  rw [State.collNow_modColl (f := Coll.withRows (tagRank p) _) ((hpeer.trans (State.collOutRow_shows _ _ _ _ _)).lists hc) fun _ => rfl]
  exact (Assoc.get_put _ _ _ _ _).trans (if_pos rfl)

theorem execCollData_effect {j : Fin 145} {p : Packet} {c : Coll} {s : State} (h : CollComes 0x08 p c s) (hfind : s.collOf p = some c)
    (hop : collOp c.desc = 6) : ∃ t, execCollData j p s = .next t ∧
      Assoc.get 0 (t.collNow c).rowsIn (tagRank p) = Assoc.get 0 c.rowsIn (tagRank p) + p.data.length / 64 := by
  have htaken := h.delivering j
  have hfound : ((s.collOf p).isNone && s.collAdmits p) = false := by simp [hfind]
  obtain ⟨t, ht, hack⟩ : ∃ t, execCollData j p s = .next t ∧ TakenIn (((s.delivering j p).takeRow c p).collCheck c) t := by
    refine ⟨_, (if_pos h.mine).trans (if_neg (ne_true_of_eq_false hfound)), ?_⟩
    rw [h.collRecv (by rw [htaken.collOf, hfind])]
    simp only [hop]
    exact State.ackDue_takenIn _ _
  refine ⟨t, ht, ?_⟩
  rw [hack.collNow, (State.counts_collCheck _ c).2, State.rowsIn_takeRow (htaken.lists (State.lists_of_collOf hfind))]

/-- Settles O25: a message that comes next is handed on once to the collective it finds, and what else it sets off (READY, SIGNAL, an
acknowledgement) leaves what it has changed there. -/
theorem collectivesTakeTheirMessages : Obligations.CollectivesTakeTheirMessages := by
  unfold Obligations.CollectivesTakeTheirMessages
  refine ⟨?data, ?arrive, ?ready, ?commit, ?abort, ?ends, ?query⟩
  case data =>
    exact fun j p s c hmine hadm hsent hnext hretx hfind hnow hop =>
      execCollData_effect ⟨hmine, hadm, hsent, hnext, hretx, hnow⟩ hfind hop
  case arrive =>
    exact fun j p s c hmine hadm hsent hkind hnext hretx hfind hnow hopen hcoord hnew hmore =>
      execArrive_effect ⟨hmine, hadm, hsent, hnext, hretx, hnow⟩ hkind hfind hopen hcoord hnew hmore
  case ready =>
    exact fun j p s c hmine hadm hsent hkind hnext hretx hfind hnow hopen hcoord hrank hnew hlast hcommit =>
      execReady_commits ⟨hmine, hadm, hsent, hnext, hretx, hnow⟩ hkind hfind hopen hcoord hrank hnew hlast hcommit
  case commit =>
    exact fun j p s c hmine hadm hsent hkind hnext hretx hfind hnow hopen hcoord =>
      execCommit_effect ⟨hmine, hadm, hsent, hnext, hretx, hnow⟩ hkind hfind hopen hcoord
  case abort =>
    exact fun j p s c hmine hadm hsent hkind hnext hretx hfind hnow hopen hcoord =>
      execAbort_effect ⟨hmine, hadm, hsent, hnext, hretx, hnow⟩ hkind hfind hopen hcoord
  case ends =>
    exact fun j p s c hmine hadm hsent hkind hnext hretx hfind hnow =>
      execCollEnd_effect ⟨hmine, hadm, hsent, hnext, hretx, hnow⟩ hkind hfind
  case query =>
    exact fun j p s c hmine hadm hsent hkind hnext hretx hfind hnow hfull hrank =>
      execQuery_effect ⟨hmine, hadm, hsent, hnext, hretx, hnow⟩ hkind hfind hfull hrank

end Sys2Proof.Machine
end

section
/-! PROOFS.  Ethernet ports and queue pairs: their bookkeeping, what sending a frame changes (R216, R220), and what a queue pair
in error leaves (R225, R228). -/

namespace Sys2Proof.Machine

/-! ### Fields beside those written -/

/-- A field of another register, or of other bits of the same one. -/
abbrev Fld.apart (f g : Fld) : Prop := g.reg ≠ f.reg ∨ (f.lo ≤ f.hi ∧ (g.hi < f.lo ∨ f.hi < g.lo))

theorem State.rd_raise_ne (s : State) (f g : Fld) (i j sev : Nat) (d : List Word) (m : Nat) (h : g.reg ∉ recRegs ∧ f.apart g) :
    (s.raise f i sev d m).rd g j = s.rd g j := by
  rw [State.rd_raise _ _ _ _ _ _ _ _ h.1, State.rd_wr_ne _ _ _ _ _ _ h.2]

/-- A counter of 32 bits goes up by one and saturates. -/
theorem State.rd_count_word (s : State) {f : Fld} (i : Nat) (h : f.lo = 0 ∧ f.hi = 31) :
    (s.count f i).rd f i = min 0xFFFFFFFF (s.rd f i + 1) := by
  obtain ⟨hlo, hhi⟩ := h
  have hlt : satInc 32 (s.rd f i) < 2 ^ 32 := satInc_lt 32 _
  rw [State.count, State.rd_wr_same _ _ _ _ (by omega), hlo, hhi, Nat.mod_eq_of_lt hlt, satInc]
  split <;> omega

theorem OnlyRegs.count {rs : List Reg} {s u : State} (h : OnlyRegs rs s u) (f : Fld) (i : Nat) (hf : f.reg ∈ rs) :
    OnlyRegs rs s (u.count f i) := h.wr f i _ hf

/-! ### Ports -/

theorem modifyAt_eq_modify {α : Type} (l : List α) (n : Nat) (f : α → α) : modifyAt n f l = l.modify n f := by
  induction l generalizing n with
  | nil => simp [modifyAt]
  | cons x l ih => cases n <;> simp [modifyAt, ih]

theorem State.port_modPort (s : State) {p : Nat} (f : EthPort → EthPort) (hp : p < s.ports.length) :
    (s.modPort p f).port p = f (s.port p) := getAt_modifyAt_same ({} : EthPort) f hp

/-- What a change of a port keeps, every port keeps. -/
theorem State.port_modPort_keeps {β : Type} (g : EthPort → β) {f : EthPort → EthPort} (hf : ∀ x, g (f x) = g x) (s : State)
    (p q : Nat) : g ((s.modPort p f).port q) = g (s.port q) := by
  rw [State.port, State.modPort, modifyAt_eq_modify, State.port, getAt, getAt, List.getElem?_modify]
  cases s.ports[q]? with
  | none => rfl
  | some x => by_cases hq : p = q <;> simp [hq, hf]

/-- A value that a change gives and that a port no list holds has too. -/
theorem State.port_modPort_gives {β : Type} (g : EthPort → β) {f : EthPort → EthPort} {b : β} (hf : ∀ x, g (f x) = b)
    (hnone : g {} = b) (s : State) (p : Nat) : g ((s.modPort p f).port p) = b := by
  rw [State.port, State.modPort, modifyAt_eq_modify, getAt, List.getElem?_modify]
  cases s.ports[p]? with
  | none => exact hnone
  | some x => simp [hf]

theorem State.port_congr {s t : State} (h : t.ports = s.ports) (p : Nat) : t.port p = s.port p :=
  congrArg (fun l => getAt ({} : EthPort) l p) h

theorem OnlyLogs.ports_eq {rs : List Reg} {s t : State} (h : OnlyLogs rs s t) : t.ports = s.ports := (congrArg State.ports h.2 :)

theorem State.ports_raise (s : State) (f : Fld) (i sev : Nat) (d : List Word) (m : Nat) : (s.raise f i sev d m).ports = s.ports := by
  rw [State.raise_eq]

/-- Nothing has changed but the ports' bookkeeping, registers of `rs`, and what entering a record changes. -/
def PortLogs (rs : List Reg) (s t : State) : Prop := OnlyLogs rs { s with ports := t.ports } t

section PortLogs
variable {rs : List Reg} {s u v : State}

theorem PortLogs.refl (rs : List Reg) (s : State) : PortLogs rs s s := OnlyLogs.refl rs s

variable (h : PortLogs rs s u)
include h

theorem PortLogs.ite {c : Prop} [Decidable c] (hv : PortLogs rs s v) : PortLogs rs s (if c then u else v) := by
  split
  · exact h
  · exact hv

theorem PortLogs.trans (h' : PortLogs rs u v) : PortLogs rs s v :=
  ⟨fun r i hr => (h'.1 r i hr).trans (h.1 r i hr), h'.2.trans (congrArg (fun x : State => { x with ports := v.ports }) h.2)⟩

theorem PortLogs.onlyLogs (h' : OnlyLogs rs u v) : PortLogs rs s v :=
  h.trans (by rw [PortLogs, h'.ports_eq]; exact h')

theorem PortLogs.wr (f : Fld) (i w : Nat) (hf : f.reg ∈ rs) : PortLogs rs s (u.wr f i w) :=
  h.onlyLogs ((OnlyLogs.refl rs u).wr f i w hf)

theorem PortLogs.raise (f : Fld) (i sev : Nat) (d : List Word) (m : Nat) (hf : f.reg ∈ rs) : PortLogs rs s (u.raise f i sev d m) :=
  h.onlyLogs ((OnlyLogs.refl rs u).raise f i sev d m hf)

theorem PortLogs.modPort (p : Nat) (f : EthPort → EthPort) : PortLogs rs s (u.modPort p f) := h.trans ⟨fun _ _ _ => rfl, rfl⟩

end PortLogs

/-! ### Frames sent -/

/-- Nothing has changed but what the module sends, the ports' bookkeeping, and the place in the free values. -/
def OnlyWire (s t : State) : Prop := t = { s with out := t.out, ports := t.ports, free := t.free }

section Wire
variable {s t u : State}

theorem OnlyWire.refl (s : State) : OnlyWire s s := rfl

theorem OnlyWire.ite {c : Prop} [Decidable c] (ht : OnlyWire s t) (hu : OnlyWire s u) : OnlyWire s (if c then t else u) := by
  split
  · exact ht
  · exact hu

theorem OnlyWire.trans (ht : OnlyWire s t) (hu : OnlyWire t u) : OnlyWire s u :=
  Eq.trans hu (congrArg (fun v : State => { v with out := u.out, ports := u.ports, free := u.free }) ht)

theorem OnlyWire.foldl {α : Type} {f : State → α → State} (l : List α) (hf : ∀ v x, OnlyWire v (f v x)) (s : State) :
    OnlyWire s (l.foldl f s) :=
  List.foldlRecOn l f (OnlyWire.refl s) fun v hv x _ => hv.trans (hf v x)

theorem OnlyWire.up_eq (h : OnlyWire s t) : t.up = s.up := (congrArg State.up h :)

theorem OnlyWire.qp (h : OnlyWire s t) (q : Nat) : t.qp q = s.qp q := (congrArg (·.qp q) h :)

theorem State.freeBytes_free (s : State) (n : Nat) : OnlyFree s (s.freeBytes n).2 := by
  induction n generalizing s with
  | zero => rfl
  | succ n ih => exact OnlyFree.trans (t := (s.freeNat 256).2) rfl (ih _)

theorem State.mkpdu_onlyWire (s : State) (p : Nat) (ckn : List Byte) (ask : Bool) : OnlyWire s (s.mkpdu p ckn ask) := by
  have hfree : (s.freeBytes 12).2 = { s with free := (s.freeBytes 12).2.free } := s.freeBytes_free 12
  rw [State.mkpdu, hfree]
  rfl

theorem State.putEth_onlyWire (s : State) (h : EthHdr) (e : Emit) : OnlyWire s (s.putEth h e) := by
  have hnext : OnlyWire s ((s.emit e).modPort h.port fun x => { x with txPn := (s.port h.port).txPn + 1 }) := rfl
  refine .ite ?_ rfl
  split
  · exact .ite (hnext.trans (State.mkpdu_onlyWire _ _ _ _)) hnext
  · exact hnext

theorem State.sendEth_onlyWire (s : State) (h : EthHdr) (e : Emit) : OnlyWire s (s.sendEth h e) := by
  unfold State.sendEth
  split
  · exact .ite rfl (s.putEth_onlyWire h e)
  · exact s.putEth_onlyWire h e

/-- A frame whose priority is free and whose packet number asks for no new SAK goes out alone. -/
theorem State.sendEth_of_sendsNow {h : EthHdr} (hnow : s.sendsNow h = true) (e : Emit) :
    ∃ ports, s.sendEth h e = { s with out := s.out ++ [e], ports := ports } := by
  obtain ⟨hheld, hpn⟩ := Bool.and_eq_true_iff.1 hnow
  have hput : s.sendEth h e = s.putEth h e := by
    unfold State.sendEth
    split
    · exact if_neg (by simpa [*] using hheld)
    · rfl
  rw [hput, State.putEth]
  by_cases hsec : h.secured = true
  · have hno : (s.port h.port).txPn + 1 ≠ pnLimit := by simpa [hsec] using hpn
    rw [if_pos hsec]
    split
    · exact ⟨_, if_neg hno⟩
    · exact ⟨_, rfl⟩
  · exact ⟨s.ports, if_neg hsec⟩

theorem State.wireReq_onlyWire (s : State) (q : Nat) (r : OutReq) : OnlyWire s (s.wireReq q r) := by
  refine .ite ?_ rfl
  split <;> exact State.sendEth_onlyWire _ _ _

theorem State.resendQp_onlyWire (s : State) (q : Nat) : OnlyWire s (s.resendQp q) :=
  OnlyWire.foldl _ (fun v r => v.wireReq_onlyWire q r) s

end Wire

/-! ### Queue pairs -/

theorem State.qp_modQp (s : State) (q : Nat) (f : Qp → Qp) : (s.modQp q f).qp q = f (s.qp q) := by
  rw [State.qp, State.modQp, Assoc.get_set, if_pos rfl]

theorem State.answerCe_unmarked (s : State) (q : Nat) : s.answerCe q false = s := rfl

/-- With no request that waits, none is sent. -/
theorem State.pumpQp_of_none {s : State} {q : Nat} (h : (s.qp q).queued = []) (n : Nat) : s.pumpQp q n = s := by
  cases n with
  | zero => rfl
  | succ n => simp only [State.pumpQp, h]

/-- Nothing has changed but the commands in flight. -/
def OnlyCmds (s t : State) : Prop := t = { s with cmds := t.cmds }

/-- The commands that requests of a queue pair feed end with REMOTE (R225, R228). -/
def State.endFeeds (s : State) (q : Nat) (l : List OutReq) : State :=
  l.foldl (fun s r => match r.cmd with
    | some (i, c) => s.cmdEnd i c 0x25 q
    | none => s) s

theorem State.endFeeds_onlyCmds (s : State) (q : Nat) (l : List OutReq) : OnlyCmds s (s.endFeeds q l) := by
  refine List.foldlRecOn (motive := OnlyCmds s) l _ rfl fun v hv r _ => ?_
  split
  next i c _ => exact (congrArg (fun x : State => { x with cmds := (v.cmdEnd i c 0x25 q).cmds }) hv :)
  next => exact hv

/-- The registers of a requester's queue pair that goes to ERR, with its cause and its record (R228). -/
def State.qpFailed (s : State) (q syn : Nat) : State :=
  ((s.wr F.ETH_QP_STAT_STATE q 2).wr F.ETH_QP_STAT_SYNDROME q syn).raise F.ETH_PORT_CAUSE_QP_ERR (s.qpPort q) 0 [wd q]

theorem State.qpFailed_onlyLogs (s : State) (q syn : Nat) : OnlyLogs [.ETH_QP_STAT, .ETH_PORT_CAUSE] s (s.qpFailed q syn) :=
  (((OnlyLogs.refl _ s).wr _ _ _ (by decide)).wr _ _ _ (by decide)).raise _ _ _ _ _ (by decide)

theorem State.qpState_qpFailed (s : State) (q syn : Nat) : (s.qpFailed q syn).qpState q = 2 := by
  rw [State.qpState, State.qpFailed, State.rd_raise_ne _ _ _ _ _ _ _ _ (by decide), State.rd_wr_ne _ _ _ _ _ _ (by decide),
    State.rd_wr_same _ _ _ _ (by decide)]
  rfl

theorem State.syndrome_qpFailed (s : State) (q syn : Nat) : (s.qpFailed q syn).rd F.ETH_QP_STAT_SYNDROME q = syn % 2 ^ 8 := by
  rw [State.qpFailed, State.rd_raise_ne _ _ _ _ _ _ _ _ (by decide), State.rd_wr_same _ _ _ _ (by decide)]
  rfl

/-- What a frame keeps beside queue pairs, commands and answers owed. -/
theorem OnlyLogs.withQps {rs : List Reg} {s t : State} (h : OnlyLogs rs s t) (qps : List (Nat × Qp)) (cmds : List Cmd) (owed : List Owed) :
    OnlyLogs rs { s with qps := qps, cmds := cmds, owed := owed } { t with qps := qps, cmds := cmds, owed := owed } :=
  ⟨h.1, congrArg (fun x : State => { x with qps := qps, cmds := cmds, owed := owed }) h.2⟩

/-- A queue pair without requests. -/
def Qp.ended (x : Qp) : Qp := { x with out := [], queued := [], write := none }

/-- The failed queue pair without requests, and nothing owed for it. -/
def State.qpSilent (s : State) (q syn : Nat) : State :=
  { s.qpFailed q syn with owed := (s.qpFailed q syn).owed.filter fun o => o.qp ≠ q }.modQp q Qp.ended

/-- A requester's queue pair goes to ERR: no request is left. -/
theorem State.qpError_eq {s : State} {q : Nat} (h : s.qpState q = 1) (syn : Nat) :
    ∃ qps cmds owed, s.qpError q syn false none = { s.qpFailed q syn with qps := qps, cmds := cmds, owed := owed } ∧
      (Assoc.get {} qps q).out = [] := by
  have hend : s.qpError q syn false none =
      (s.qpSilent q syn).endFeeds q (((s.qpFailed q syn).qp q).out ++ ((s.qpFailed q syn).qp q).queued) := if_pos h
  exact ⟨(s.qpSilent q syn).qps, _, (s.qpSilent q syn).owed, hend.trans ((s.qpSilent q syn).endFeeds_onlyCmds q _),
    congrArg Qp.out (State.qp_modQp _ q Qp.ended)⟩

theorem State.qpError_effect {s : State} {q : Nat} (h : s.qpState q = 1) (syn : Nat) :
    (s.qpError q syn false none).qpState q = 2 ∧ (s.qpError q syn false none).rd F.ETH_QP_STAT_SYNDROME q = syn % 2 ^ 8 ∧
      ((s.qpError q syn false none).qp q).out = [] ∧
      (s.qpError q syn false none).flag F.ETH_PORT_CAUSE_QP_ERR (s.qpPort q) = true ∧
      OnlyLogs [.ETH_QP_STAT, .ETH_PORT_CAUSE]
        { s with qps := (s.qpError q syn false none).qps, cmds := (s.qpError q syn false none).cmds,
                 owed := (s.qpError q syn false none).owed } (s.qpError q syn false none) := by
  obtain ⟨qps, cmds, owed, heq, hout⟩ := State.qpError_eq h syn
  rw [heq]
  exact ⟨s.qpState_qpFailed q syn, s.syndrome_qpFailed q syn, hout, State.flag_raise_same _ _ _ _ _ _ (by decide),
    (s.qpFailed_onlyLogs q syn).withQps qps cmds owed⟩

end Sys2Proof.Machine
end

section
/-! PROOFS.  A write that meets a page conversion with a waiting read (R142, R226), and a queue pair disabled while it owes an answer
(R225, R237), against the statements on requests of the host and on the set-up of queue pairs. -/

namespace Sys2Proof.Machine

/-- Partition 0 has one frame, queue pair 5 is ready on an open data VLAN, and window 0 may be written. -/
def hostMayWrite : State :=
  [(F.ETH_QP_STAT_STATE, 5, 1), (F.ETH_PORT_STAT_ADM, 0, 3), (F.ETH_VLAN_VALID, 0, 1), (F.ETH_VLAN_CLASS, 0, 1),
    (F.ETH_PART_STATE_STATE, 0, 1), (F.ETH_MW_CTL_VALID, 0, 1), (F.ETH_MW_CTL_WR, 0, 1), (F.ETH_MW_LEN_UNITS, 0, 1),
    (F.MEM_PART_SET_VALID, 0, 1), (F.MEM_PART_SET_STACKS, 0, 1), (F.MEM_PART_BASE_VALUE, 0, 1024), (F.MEM_PART_FRAMES_VALUE, 0, 1),
    (F.MEM_STATE_STATE, 0, stReady)].foldl (fun s x => s.wr x.1 x.2.1 x.2.2) State.reset

/-- Its frame is being converted, and a read of the first line waits. -/
def readAwaitsConversion : State :=
  { hostMayWrite with convs := [{ stack := 0, frame := 1024, gen := 0, ops := [(1024 * 65536, none)] }] }

/-- The host writes the line that the read waits for. -/
def hostWrites : Instr := .rdmaWrite 5 0 .only 0 0 64 (List.replicate 64 9) false

/-- How many messages stand on the outputs after a command. -/
def Out.sent : Out → Nat
  | .next t => t.out.length
  | _ => 0

/-- The write waits for the conversion, whose end performs the read: its line goes out before the acknowledgement (R142). -/
theorem sent_hostWrites : Out.sent (exec hostWrites readAwaitsConversion) = 2 := by decide +kernel

/-- The queue pair, the key, the span and the stack are as the statement asks. -/
theorem readAwaitsConversion_admits :
    readAwaitsConversion.qpClear 5 = true ∧ readAwaitsConversion.rd F.ETH_QP_RPSN_VALUE 5 = 0 ∧
      readAwaitsConversion.rd F.ETH_QP_BIND_PART 5 = 0 ∧ (readAwaitsConversion.qp 5).write = none ∧
      readAwaitsConversion.served 0 = true ∧ readAwaitsConversion.keyOk 0 0 0 64 true = true ∧
      readAwaitsConversion.inLocal 0 0 64 = true ∧ readAwaitsConversion.land 0 0 = (0, 1024 * 65536) ∧
      readAwaitsConversion.asleep 0 = false ∧ readAwaitsConversion.rd F.MEM_STATE_STATE 0 ≠ stFailed ∧
      readAwaitsConversion.fab.descs = [] := by decide +kernel

/-- Refutes O30: a write to a page that is being converted waits for the reads that wait before it, and their lines go out too. -/
theorem not_rdmaRequestsAnswered : ¬ Obligations.RdmaRequestsAnswered := by
  unfold Obligations.RdmaRequestsAnswered
  rintro ⟨hwrite, -⟩
  obtain ⟨hclear, hpsn, hpart, hnone, hserved, hkey, hlocal, hland, hawake, hlive, hdescs⟩ := readAwaitsConversion_admits
  obtain ⟨t, ht, -, -, hout, -⟩ := hwrite 5 0 0 0 (List.replicate 64 9) readAwaitsConversion 0 (0, 1024 * 65536) hclear hpsn.symm hpart
    List.length_replicate rfl hnone hserved hkey (by decide) hlocal hland hawake hlive (by simp [hdescs]) (by decide)
  have htwo : t.out.length = 2 := (congrArg Out.sent ht).symm.trans sent_hostWrites
  have hone : t.out.length = 1 := congrArg List.length hout
  exact absurd (htwo.symm.trans hone) (by decide)

/-- Queue pair 0 is bound and owes the acknowledgement of a WRITE that is not yet visible. -/
def owesAnswer : State :=
  { State.reset.wr F.ETH_QP_BIND_EN 0 1 with owed := [{ qp := 0, psn := 0, id := 0, job := .write, settled := false }] }

theorem owesAnswer_bound : owesAnswer.flag F.ETH_QP_BIND_EN 0 = true := by decide

/-- A queue pair that is disabled owes nothing any more. -/
theorem owed_of_disabled {t : State} (h : execEthQpBindWrite 0 0 owesAnswer = .next t) : t.owed = [] := by
  rw [← Host.Outcome.next.inj h]
  decide

/-- Refutes O32: a queue pair that is disabled forgets the answers it owes too, which are neither registers nor requests. -/
theorem not_queuePairsWindowsAndVlans : ¬ Obligations.QueuePairsWindowsAndVlans := by
  unfold Obligations.QueuePairsWindowsAndVlans
  rintro ⟨-, hdisable, -⟩
  obtain ⟨t, ht, -, -, hkept⟩ := hdisable 0 0 owesAnswer owesAnswer_bound (by decide)
  have howed : t.owed = owesAnswer.owed := (congrArg State.owed hkept.2 :)
  exact List.cons_ne_nil _ _ (howed.symm.trans (owed_of_disabled ht))

end Sys2Proof.Machine
end

section
/-! PROOFS.  Requests of the module's own queue pairs: answered, refused, retried and slowed (R223, R227, R228), and the statement on
them. -/

namespace Sys2Proof.Machine

section Requests
variable {q : BitVec 12} {s : State}

/-! ### Answers to requests (R223) -/

/-- Data for a command that is no LOAD are kept for it. -/
theorem State.feedCmd_of_cmd {i c : Nat} {x : Cmd} (h : s.cmd i c = some x) (hopc : x.opc ≠ 2) (l : List Byte) :
    (s.feedCmd i c l).cmd i c = some { x with buf := x.buf ++ l } ∧ OnlyCmds s (s.feedCmd i c l) := by
  have hcmd : (s.modCmd i c fun y => { y with buf := y.buf ++ l }).cmd i c = some { x with buf := x.buf ++ l } := by
    rw [State.cmd_modCmd s i c (f := fun y => { y with buf := y.buf ++ l }) fun _ => rfl, h, Option.map_some]
  have hfeed : s.feedCmd i c l = s.modCmd i c fun y => { y with buf := y.buf ++ l } := by
    rw [State.feedCmd, hcmd]
    dsimp only
    split
    · exact if_neg fun e => hopc e.1
    · rfl
  rw [hfeed]
  exact ⟨hcmd, rfl⟩

/-- A queue pair that no longer awaits a request. -/
def Qp.without (r : OutReq) (x : Qp) : Qp := { x with out := x.out.erase r }

/-- The response that makes the one READ whole takes it from the queue pair. -/
theorem execRdmaReadResponse_whole {psn : BitVec 24} {data : List Byte} {r : OutReq} {va key i c : Nat} (hstate : s.qpState q.toNat = 1)
    (hopen : s.qpOpen q.toNat = true) (hqueued : (s.qp q.toNat).queued = []) (hout : (s.qp q.toNat).out = [r])
    (hread : r.read = some (va, key, data.length)) (hcmd : r.cmd = some (i, c)) (hgot : r.got = 0) (hpsn : psn.toNat = r.psn)
    (hmtu : data.length ≤ s.mtu q.toNat) :
    execRdmaReadResponse q psn data false s = .next ((s.modQp q.toNat (Qp.without r)).feedCmd i c data) := by
  have hfind : (s.qp q.toNat).out.find? (fun r => r.read.isSome) = some r := by simp [hout, hread]
  have hfits : psn.toNat = (r.psn + r.got / s.mtu q.toNat) % 2 ^ 24 ∧ data.length = min (s.mtu q.toNat) (data.length - r.got) := by
    have hlt := psn.isLt
    rw [hgot, Nat.zero_div, ← hpsn]
    omega
  have hpump : ((s.modQp q.toNat (Qp.without r)).qp q.toNat).queued = [] := by
    rw [State.qp_modQp]
    exact hqueued
  rw [execRdmaReadResponse, State.answerCe_unmarked, hfind]
  simp only [hread, hcmd]
  rw [if_pos ⟨hstate, hopen, hfits.1, hfits.2⟩, if_pos (by rw [hgot]; omega)]
  exact congrArg (fun u : State => Host.Outcome.next (u.feedCmd i c data)) (State.pumpQp_of_none hpump 16)

theorem execRdmaReadResponse_effect {psn : BitVec 24} {data : List Byte} {r : OutReq} {va key i c : Nat} {x : Cmd}
    (hstate : s.qpState q.toNat = 1) (hopen : s.qpOpen q.toNat = true) (hqueued : (s.qp q.toNat).queued = [])
    (hout : (s.qp q.toNat).out = [r]) (hread : r.read = some (va, key, data.length)) (hcmd : r.cmd = some (i, c)) (hgot : r.got = 0)
    (hpsn : psn.toNat = r.psn) (hmtu : data.length ≤ s.mtu q.toNat) (hx : s.cmd i c = some x) (hopc : x.opc ≠ 2) :
    ∃ t y, execRdmaReadResponse q psn data false s = .next t ∧ (t.qp q.toNat).out = [] ∧ t.cmd i c = some y ∧
      y.buf = x.buf ++ data ∧ t = { s with qps := t.qps, cmds := t.cmds } := by
  let u := s.modQp q.toNat (Qp.without r)
  obtain ⟨hfed, honly⟩ := State.feedCmd_of_cmd (s := u) hx hopc data
  have hqp : (u.qp q.toNat).out = [] := by
    rw [State.qp_modQp, Qp.without, hout]
    exact List.erase_cons_head r []
  have hkept : (u.feedCmd i c data).qp q.toNat = u.qp q.toNat := (congrArg (·.qp q.toNat) honly :)
  refine ⟨_, _, execRdmaReadResponse_whole hstate hopen hqueued hout hread hcmd hgot hpsn hmtu, by rw [hkept, hqp], hfed, rfl, ?_⟩
  have hqps : (u.feedCmd i c data).qps = u.qps := (congrArg State.qps honly :)
  rw [hqps]
  exact honly

theorem execRoceAcknowledge_effect (psn : BitVec 24) (hstate : s.qpState q.toNat = 1) (hqueued : (s.qp q.toNat).queued = []) :
    ∃ t, execRoceAcknowledge q psn false s = .next t ∧
      (t.qp q.toNat).out = ((s.qp q.toNat).out.filter fun r => r.read.isSome || 2 ^ 23 ≤ (psn.toNat + 2 ^ 24 - r.psn) % 2 ^ 24) ∧
      t = { s with qps := t.qps } := by
  refine ⟨_, if_pos hstate, ?_⟩
  rw [State.answerCe_unmarked, State.pumpQp_of_none (by rw [State.qp_modQp]; exact hqueued), State.qp_modQp]
  exact ⟨rfl, rfl⟩

/-! ### Retries (R228) -/

/-- The oldest request with one retry more. -/
def OutReq.again (rnr : Bool) (r : OutReq) : OutReq := if rnr then { r with rnr := r.rnr + 1 } else { r with tries := r.tries + 1 }

/-- The retries of a kind that a request has spent, and those its queue pair allows. -/
def OutReq.spent (rnr : Bool) (r : OutReq) : Nat := if rnr then r.rnr else r.tries

def State.retries (s : State) (q : Nat) (rnr : Bool) : Nat :=
  if rnr then s.rd F.ETH_QP_PARAM_RNR_RETRY q else s.rd F.ETH_QP_PARAM_RETRY q

/-- While retries are left every outstanding request is sent again. -/
theorem State.retryQp_repeats {k : Nat} {r : OutReq} {l : List OutReq} {rnr : Bool} (hout : (s.qp k).out = r :: l)
    (hleft : r.spent rnr < s.retries k rnr) :
    ((s.retryQp k rnr).qp k).out = r.again rnr :: l ∧ OnlyWire { s with qps := (s.retryQp k rnr).qps } (s.retryQp k rnr) := by
  let u := s.modQp k fun x => { x with out := r.again rnr :: l }
  have hretry : s.retryQp k rnr = u.resendQp k := by
    rw [State.retryQp, hout]
    exact if_neg fun e => absurd e.1 (Nat.not_le.2 hleft)
  have hwire : OnlyWire u (u.resendQp k) := u.resendQp_onlyWire k
  have hqps : (u.resendQp k).qps = u.qps := (congrArg State.qps hwire :)
  rw [hretry, hqps, hwire.qp, State.qp_modQp]
  exact ⟨rfl, hwire⟩

/-- With no retries left the queue pair goes to ERR. -/
theorem State.retryQp_ends {k : Nat} {r : OutReq} {l : List OutReq} (hout : (s.qp k).out = r :: l)
    (hspent : s.rd F.ETH_QP_PARAM_RETRY k ≤ r.tries) :
    s.retryQp k false = s.qpError k (s.rd F.ETH_QP_STAT_SYNDROME k) false none := by
  rw [State.retryQp, hout]
  exact if_pos ⟨hspent, by simp⟩

theorem execRoceAckTimeout_repeats {r : OutReq} {l : List OutReq} (hstate : s.qpState q.toNat = 1) (hout : (s.qp q.toNat).out = r :: l)
    (hleft : r.tries < s.rd F.ETH_QP_PARAM_RETRY q.toNat) :
    ∃ t, execRoceAckTimeout q s = .next t ∧ (t.qp q.toNat).out = { r with tries := r.tries + 1 } :: l ∧
      t = { s with qps := t.qps, out := t.out, ports := t.ports, free := t.free } :=
  ⟨_, if_pos hstate, State.retryQp_repeats (rnr := false) hout hleft⟩

theorem execRoceAckTimeout_ends {r : OutReq} {l : List OutReq} (hstate : s.qpState q.toNat = 1) (hout : (s.qp q.toNat).out = r :: l)
    (hspent : s.rd F.ETH_QP_PARAM_RETRY q.toNat ≤ r.tries) :
    ∃ t, execRoceAckTimeout q s = .next t ∧ t.qpState q.toNat = 2 ∧ (t.qp q.toNat).out = [] ∧
      t.flag F.ETH_PORT_CAUSE_QP_ERR (s.qpPort q.toNat) = true := by
  obtain ⟨herr, -, hnone, hcause, -⟩ := State.qpError_effect hstate (s.rd F.ETH_QP_STAT_SYNDROME q.toNat)
  refine ⟨_, if_pos hstate, ?_⟩
  rw [State.retryQp_ends hout hspent]
  exact ⟨herr, hnone, hcause⟩

/-! ### NAKs (R228) -/

/-- The queue pair with the syndrome of a NAK. -/
def State.nakSeen (s : State) (q : Nat) (syn : BitVec 8) : State := s.wr F.ETH_QP_STAT_SYNDROME q syn.toNat

theorem State.qpState_nakSeen (s : State) (k : Nat) (syn : BitVec 8) : (s.nakSeen k syn).qpState k = s.qpState k :=
  State.rd_wr_ne _ _ _ _ _ _ (by decide)

theorem execRoceNakReceived_rnr {syn : BitVec 8} {r : OutReq} {l : List OutReq} (hstate : s.qpState q.toNat = 1)
    (hsyn : syn.toNat / 32 = 1) (hout : (s.qp q.toNat).out = r :: l) (hleft : r.rnr < s.rd F.ETH_QP_PARAM_RNR_RETRY q.toNat) :
    ∃ t, execRoceNakReceived q syn false s = .next t ∧ (t.qp q.toNat).out = { r with rnr := r.rnr + 1 } :: l ∧
      OnlyRegs [.ETH_QP_STAT] { s with qps := t.qps, out := t.out, ports := t.ports, free := t.free } t := by
  have hlim : (s.nakSeen q.toNat syn).retries q.toNat true = s.rd F.ETH_QP_PARAM_RNR_RETRY q.toNat :=
    State.rd_wr_ne _ _ _ _ _ _ (by decide)
  obtain ⟨hagain, hwire⟩ := State.retryQp_repeats (s := s.nakSeen q.toNat syn) (rnr := true) hout (hlim.symm ▸ hleft)
  have htaken : execRoceNakReceived q syn false s = .next ((s.nakSeen q.toNat syn).retryQp q.toNat true) :=
    (if_neg (not_not_intro hstate)).trans (if_pos hsyn)
  refine ⟨_, htaken, hagain, ?_⟩
  generalize (s.nakSeen q.toNat syn).retryQp q.toNat true = t at hwire
  have hframe : OnlyRegs [.ETH_QP_STAT] { s with qps := t.qps, out := t.out, ports := t.ports, free := t.free }
      ({ s with qps := t.qps, out := t.out, ports := t.ports, free := t.free }.wr F.ETH_QP_STAT_SYNDROME q.toNat syn.toNat) :=
    (OnlyRegs.refl _ _).wr _ _ _ (by decide)
  exact (congrArg (OnlyRegs [.ETH_QP_STAT] _) hwire).mpr hframe

theorem execRoceNakReceived_fatal {syn : BitVec 8} (hstate : s.qpState q.toNat = 1) (hrnr : syn.toNat / 32 ≠ 1)
    (hseq : syn.toNat ≠ synSeq) :
    ∃ t, execRoceNakReceived q syn false s = .next t ∧ t.qpState q.toNat = 2 ∧ t.rd F.ETH_QP_STAT_SYNDROME q.toNat = syn.toNat ∧
      (t.qp q.toNat).out = [] ∧ t.flag F.ETH_PORT_CAUSE_QP_ERR (s.qpPort q.toNat) = true ∧
      OnlyLogs [.ETH_QP_STAT, .ETH_PORT_CAUSE] { s with qps := t.qps, cmds := t.cmds, owed := t.owed } t := by
  have hseen : (s.nakSeen q.toNat syn).qpState q.toNat = 1 := (State.qpState_nakSeen s _ syn).trans hstate
  obtain ⟨herr, hsyn, hnone, hcause, hlogs⟩ := State.qpError_effect hseen syn.toNat
  have hport : (s.nakSeen q.toNat syn).qpPort q.toNat = s.qpPort q.toNat := State.rd_wr_ne _ _ _ _ _ _ (by decide)
  have htaken : execRoceNakReceived q syn false s = .next ((s.nakSeen q.toNat syn).qpError q.toNat syn.toNat false none) :=
    (if_neg (not_not_intro hstate)).trans ((if_neg hrnr).trans (if_neg hseq))
  refine ⟨_, htaken, herr, hsyn.trans (Nat.mod_eq_of_lt syn.isLt), hnone, hport ▸ hcause, ?_⟩
  exact ((OnlyLogs.refl _ _).wr F.ETH_QP_STAT_SYNDROME q.toNat syn.toNat (by decide)).trans hlogs

/-! ### Congestion (R227) -/

/-- A congestion notification is counted. -/
def State.cnpCounted (s : State) (k : Nat) : State := s.count F.ETH_PORT_CNP_CNT_VALUE (s.qpPort k)

theorem State.cnpCounted_onlyRegs (s : State) (k : Nat) : OnlyRegs [.ETH_PORT_CNP_CNT] s (s.cnpCounted k) :=
  (OnlyRegs.refl _ s).count _ _ (by decide)

/-- The limit falls by an eighth, to its floor at the least. -/
def Qp.slowed (up : Nat) (x : Qp) : Qp := { x with limit := max (x.limit * 7 / 8) (2 ^ 32), cnpAt := some up }

/-- The limit rises by a 64th of the rate, to the rate at the most. -/
def Qp.sped (x : Qp) : Qp := { x with limit := min (x.limit + 2 ^ 34) (2 ^ 40) }

theorem execCnpReceive_of_none {x : Qp} (hx : s.qp q.toNat = x) (h : x.cnpAt = none) :
    execCnpReceive q s = .next ((s.cnpCounted q.toNat).modQp q.toNat (Qp.slowed s.up)) := by
  have hqp : (s.count F.ETH_PORT_CNP_CNT_VALUE (s.qpPort q.toNat)).qp q.toNat = x := hx
  rw [execCnpReceive, hqp, h]
  rfl

theorem execCnpReceive_of_early {u : Nat} (h : (s.qp q.toNat).cnpAt = some u) (hsoon : s.up < u + 50000) :
    execCnpReceive q s = .next (s.cnpCounted q.toNat) := by
  have hqp : ((s.count F.ETH_PORT_CNP_CNT_VALUE (s.qpPort q.toNat)).qp q.toNat).cnpAt = some u := h
  rw [execCnpReceive, hqp]
  exact if_pos (decide_eq_true hsoon)

theorem execCnpReceive_effect (h : (s.qp q.toNat).cnpAt = none) :
    ∃ t, execCnpReceive q s = .next t ∧ t.qp q.toNat = (s.qp q.toNat).slowed s.up ∧
      t.rd F.ETH_PORT_CNP_CNT_VALUE (s.qpPort q.toNat) = min 0xFFFFFFFF (s.rd F.ETH_PORT_CNP_CNT_VALUE (s.qpPort q.toNat) + 1) ∧
      OnlyRegs [.ETH_PORT_CNP_CNT] { s with qps := t.qps } t := by
  obtain ⟨hregs, hrest⟩ := s.cnpCounted_onlyRegs q.toNat
  refine ⟨_, execCnpReceive_of_none rfl h, State.qp_modQp _ _ _, s.rd_count_word _ (by decide), hregs, ?_⟩
  exact (congrArg (fun x : State => { x with qps := ((s.cnpCounted q.toNat).modQp q.toNat (Qp.slowed s.up)).qps }) hrest :)

theorem execCnpRateRecovery_effect (q : BitVec 12) (s : State) :
    ∃ t, execCnpRateRecovery q s = .next t ∧ t.qp q.toNat = (s.qp q.toNat).sped ∧ t = { s with qps := t.qps } :=
  ⟨s.modQp q.toNat Qp.sped, rfl, State.qp_modQp s q.toNat Qp.sped, rfl⟩

end Requests

/-- Settles O31: each answer to a request of the module in turn, and congestion. -/
theorem rdmaRequestsSentAndRetried : Obligations.RdmaRequestsSentAndRetried := by
  unfold Obligations.RdmaRequestsSentAndRetried
  refine ⟨?_, ?_, ?_, ?_, ?_, ?_, ?_, ?_, ?_⟩
  · intro q psn data s r va key i c x hstate hopen hqueued hout hread hcmd hgot hpsn hmtu hx hopc
    exact execRdmaReadResponse_effect hstate hopen hqueued hout hread hcmd hgot hpsn hmtu hx hopc
  · exact fun q syn s hstate hrnr hseq => execRoceNakReceived_fatal hstate hrnr hseq
  · exact fun q syn s r l hstate hsyn hout hleft => execRoceNakReceived_rnr hstate hsyn hout hleft
  · exact fun q s r l hstate hout hleft => execRoceAckTimeout_repeats hstate hout hleft
  · exact fun q s r l hstate hout hspent => execRoceAckTimeout_ends hstate hout hspent
  · exact fun q psn s hstate hqueued => execRoceAcknowledge_effect psn hstate hqueued
  · intro q s h
    obtain ⟨t, ht, hqp, hcount, hframe⟩ := execCnpReceive_effect h
    exact ⟨t, ht, congrArg Qp.limit hqp, congrArg Qp.cnpAt hqp, hcount, hframe⟩
  · exact fun q s u h hsoon => ⟨_, execCnpReceive_of_early h hsoon, s.cnpCounted_onlyRegs q.toNat⟩
  · intro q s
    obtain ⟨t, ht, hqp, hframe⟩ := execCnpRateRecovery_effect q s
    exact ⟨t, ht, by rw [hqp, Qp.sped], hframe⟩

end Sys2Proof.Machine
end

section
/-! PROOFS.  Links of Ethernet ports, admission by MKA, and received frames (R212 to R221), and the statement on them. -/

namespace Sys2Proof.Machine

/-! ### PTP states follow the link (R232) -/

/-- The registers that a change of a port's link or PTP state writes. -/
def linkRegs : List Reg := [.ETH_PORT_STAT, .ETH_PORT_CAUSE, .TIM_STAT, .TIM_CAUSE]

/-- The fields that a change of a port's PTP state writes. -/
def ptpFields : List Fld := [F.ETH_PORT_STAT_PTP_STATE, F.ETH_PORT_CAUSE_PTP, F.TIM_STAT_LOCKED, F.TIM_CAUSE_LOCK]

/-- The associations of a port: a live peer, the receive and the transmit association (R217). -/
def EthPort.associations (x : EthPort) : Bool × Bool × Bool := (x.live, x.rxSa, x.txSa)

section Link
variable {s : State} {p : Nat}

/-- The port in its new PTP state, with its cause. -/
def State.ptpEntered (s : State) (p st : Nat) : State := (s.wr F.ETH_PORT_STAT_PTP_STATE p st).raise F.ETH_PORT_CAUSE_PTP p

/-- The time base's lock is lost, with its cause. -/
def State.unlocked (s : State) : State := (s.wr F.TIM_STAT_LOCKED 0 0).raise F.TIM_CAUSE_LOCK

theorem State.ptpGo_cases (s : State) (p st : Nat) :
    s.ptpGo p st = s ∨ s.ptpGo p st = s.ptpEntered p st ∨ s.ptpGo p st = (s.ptpEntered p st).unlocked := by
  unfold State.ptpGo
  split
  · exact .inl rfl
  · dsimp only
    split
    · exact .inr (.inr rfl)
    · exact .inr (.inl rfl)

theorem State.ptpEntered_onlyLogs (s : State) (p st : Nat) : OnlyLogs linkRegs s (s.ptpEntered p st) :=
  ((OnlyLogs.refl _ s).wr _ _ _ (by decide)).raise _ _ _ _ _ (by decide)

theorem State.unlocked_onlyLogs (s : State) : OnlyLogs [.TIM_STAT, .TIM_CAUSE] s s.unlocked :=
  ((OnlyLogs.refl _ s).wr _ _ _ (by decide)).raise _ _ _ _ _ (by decide)

theorem State.ptpGo_onlyLogs (s : State) (p st : Nat) : OnlyLogs linkRegs s (s.ptpGo p st) := by
  have hentered := s.ptpEntered_onlyLogs p st
  rcases s.ptpGo_cases p st with h | h | h <;> rw [h]
  · exact OnlyLogs.refl _ s
  · exact hentered
  · exact hentered.trans ((State.unlocked_onlyLogs _).mono (by decide))

/-- What is neither a port's PTP state, the lock, nor one of their causes reads as before. -/
theorem State.rd_ptpGo (s : State) (p st j : Nat) {g : Fld} (hrec : g.reg ∉ recRegs) (hg : ∀ f ∈ ptpFields, f.apart g) :
    (s.ptpGo p st).rd g j = s.rd g j := by
  simp only [ptpFields, List.forall_mem_cons] at hg
  obtain ⟨hstate, hcause, hlocked, hlock, -⟩ := hg
  have hentered : (s.ptpEntered p st).rd g j = s.rd g j := by
    rw [State.ptpEntered, State.rd_raise_ne _ _ _ _ _ _ _ _ ⟨hrec, hcause⟩, State.rd_wr_ne _ _ _ _ _ _ hstate]
  rcases s.ptpGo_cases p st with h | h | h <;> rw [h]
  · exact hentered
  · rw [State.unlocked, State.rd_raise_ne _ _ _ _ _ _ _ _ ⟨hrec, hlock⟩, State.rd_wr_ne _ _ _ _ _ _ hlocked, hentered]

/-- The PTP state follows the link at the most by one change of state, which leaves the port's associations. -/
theorem State.ptpLink_cases (s : State) (p : Nat) :
    s.ptpLink p = s ∨ ∃ f st, s.ptpLink p = (s.modPort p f).ptpGo p st ∧ ∀ x, (f x).associations = x.associations := by
  unfold State.ptpLink
  split
  · split
    · exact .inr ⟨_, _, rfl, fun _ => rfl⟩
    · exact .inl rfl
  · exact .inr ⟨_, _, rfl, fun _ => rfl⟩

theorem State.ptpLink_portLogs (s : State) (p : Nat) : PortLogs linkRegs s (s.ptpLink p) := by
  rcases s.ptpLink_cases p with h | ⟨f, st, h, -⟩ <;> rw [h]
  · exact PortLogs.refl _ s
  · exact ((PortLogs.refl _ s).modPort p f).onlyLogs (State.ptpGo_onlyLogs _ p st)

theorem State.rd_ptpLink (s : State) (p j : Nat) {g : Fld} (hrec : g.reg ∉ recRegs) (hg : ∀ f ∈ ptpFields, f.apart g) :
    (s.ptpLink p).rd g j = s.rd g j := by
  rcases s.ptpLink_cases p with h | ⟨f, st, h, -⟩ <;> rw [h]
  exact State.rd_ptpGo (s.modPort p f) p st j hrec hg

theorem State.flag_ptpLink (s : State) (p j : Nat) {g : Fld} (hrec : g.reg ∉ recRegs) (hg : ∀ f ∈ ptpFields, f.apart g) :
    (s.ptpLink p).flag g j = s.flag g j := by
  rw [State.flag, State.flag, s.rd_ptpLink p j hrec hg]

theorem State.associations_ptpLink (s : State) (p q : Nat) : ((s.ptpLink p).port q).associations = (s.port q).associations := by
  rcases s.ptpLink_cases p with h | ⟨f, st, h, hf⟩ <;> rw [h]
  rw [State.port_congr (State.ptpGo_onlyLogs _ p st).ports_eq, State.port_modPort_keeps _ hf]

/-! ### A link comes up (R211, R212, R217) -/

theorem State.adm_reAdmit (s : State) (p : Nat) : (s.reAdmit p).adm p = if s.flag F.ETH_PORT_STAT_CAK p then 2 else 1 := by
  rw [State.adm, State.reAdmit, State.rd_wr_same _ _ _ _ (by decide)]
  split <;> rfl

/-- The port at its rate, in MGMT or in MKA, with its cause. -/
def State.ethUp (s : State) (p r : Nat) : State := ((s.wr F.ETH_PORT_STAT_RATE p r).reAdmit p).raise F.ETH_PORT_CAUSE_LINK_UP p

theorem State.ethUp_onlyLogs (s : State) (p r : Nat) : OnlyLogs linkRegs s (s.ethUp p r) :=
  (((OnlyLogs.refl _ s).wr _ _ _ (by decide)).wr _ _ _ (by decide)).raise _ _ _ _ _ (by decide)

theorem State.rate_ethUp (s : State) (p : Nat) (r : BitVec 2) : (s.ethUp p r.toNat).rd F.ETH_PORT_STAT_RATE p = r.toNat := by
  rw [State.ethUp, State.rd_raise_ne _ _ _ _ _ _ _ _ (by decide), State.reAdmit, State.rd_wr_ne _ _ _ _ _ _ (by decide),
    State.rd_wr_same _ _ _ _ (by decide)]
  exact Nat.mod_eq_of_lt r.isLt

theorem State.adm_ethUp (s : State) (p r : Nat) : (s.ethUp p r).adm p = if s.flag F.ETH_PORT_STAT_CAK p then 2 else 1 := by
  rw [State.adm, State.ethUp, State.rd_raise_ne _ _ _ _ _ _ _ _ (by decide)]
  exact (State.adm_reAdmit _ p).trans (by rw [State.flag_wr_ne _ _ _ _ _ _ (by decide)])

theorem execEthLinkUp_effect {p : Fin 2} {r : BitVec 2} (hmay : s.ethMay p.val r.toNat = true)
    (hen : s.flag F.ETH_PORT_CFG_EN p = true) (hdown : s.adm p = 0) (hrate : s.rateOk p r.toNat = true) :
    ∃ t, execEthLinkUp p r s = .next t ∧ t.rd F.ETH_PORT_STAT_RATE p = r.toNat ∧
      t.adm p = (if s.flag F.ETH_PORT_STAT_CAK p then 2 else 1) ∧ t.flag F.ETH_PORT_CAUSE_LINK_UP p = true ∧
      PortLogs linkRegs s t := by
  refine ⟨(s.ethUp p r.toNat).ptpLink p, if_pos ⟨hmay, hen, hdown, hrate⟩, ?_, ?_, ?_, ?_⟩
  · rw [State.rd_ptpLink _ _ _ (by decide) (by decide), s.rate_ethUp]
  · rw [State.adm, State.rd_ptpLink _ _ _ (by decide) (by decide)]
    exact s.adm_ethUp p r.toNat
  · rw [State.flag_ptpLink _ _ _ (by decide) (by decide)]
    exact State.flag_raise_same _ _ _ _ _ _ (by decide)
  · exact ((PortLogs.refl _ s).onlyLogs (s.ethUp_onlyLogs p r.toNat)).trans (State.ptpLink_portLogs _ p)

theorem execEthLinkUp_refused {p : Fin 2} {r : BitVec 2}
    (h : s.adm p ≠ 0 ∨ s.flag F.ETH_PORT_CFG_EN p = false ∨ s.rateOk p r.toNat = false) : execEthLinkUp p r s = .next s := by
  refine if_neg fun e => ?_
  obtain ⟨-, hen, hdown, hrate⟩ := e
  rcases h with h | h | h
  · exact h hdown
  · exact Bool.false_ne_true (h.symm.trans hen)
  · exact Bool.false_ne_true (h.symm.trans hrate)

/-! ### Associations are dropped (R217) -/

/-- A port without associations. -/
def EthPort.bare (x : EthPort) : EthPort := { x with live := false, rxSa := false, txSa := false, older := false }

theorem State.associations_dropSa (s : State) (p : Nat) : ((s.dropSa p).port p).associations = (false, false, false) :=
  State.port_modPort_gives EthPort.associations (f := EthPort.bare) (fun _ => rfl) rfl s p

theorem State.associations_closePort (s : State) (p sev : Nat) :
    ((s.closePort p sev).port p).associations = (false, false, false) := by
  rw [State.closePort, State.port_congr (State.ports_raise _ _ _ _ _ _), s.associations_dropSa p]

theorem PortLogs.closePort {rs : List Reg} {u : State} (h : PortLogs rs s u) (hr : .ETH_PORT_CAUSE ∈ rs) (p sev : Nat) :
    PortLogs rs s (u.closePort p sev) := (h.modPort p _).raise _ _ _ _ _ hr

theorem State.flag_closePort (s : State) (p sev : Nat) : (s.closePort p sev).flag F.ETH_PORT_CAUSE_CLOSED p = true :=
  State.flag_raise_same _ _ _ _ _ _ (by decide)

/-! ### A link goes down (R212, R217, R235) -/

/-- The port without its associations: closed with its cause, if it was open. -/
def State.unsecured (s : State) (p : Nat) : State := if s.adm p = 3 then s.closePort p 0 else s.dropSa p

/-- The port down, with its cause. -/
def State.ethLost (s : State) (p : Nat) : State :=
  (((s.unsecured p).wr F.ETH_PORT_STAT_RATE p 0).wr F.ETH_PORT_STAT_ADM p 0).raise F.ETH_PORT_CAUSE_LINK_DOWN p

/-- Pauses of a port are over, and no frame waits for one. -/
def EthPort.unpaused (x : EthPort) : EthPort := { x with paused := [], waiting := [], xoff := [] }

theorem State.associations_unsecured (s : State) (p : Nat) : ((s.unsecured p).port p).associations = (false, false, false) := by
  unfold State.unsecured
  split
  · exact s.associations_closePort p 0
  · exact s.associations_dropSa p

theorem State.ethLost_portLogs (s : State) (p : Nat) : PortLogs linkRegs s (s.ethLost p) := by
  have hunsecured : PortLogs linkRegs s (s.unsecured p) :=
    ((PortLogs.refl _ s).closePort (by decide) p 0).ite ((PortLogs.refl _ s).modPort p _)
  exact ((hunsecured.wr _ _ _ (by decide)).wr _ _ _ (by decide)).raise _ _ _ _ _ (by decide)

theorem State.associations_ethLost (s : State) (p : Nat) : ((s.ethLost p).port p).associations = (false, false, false) := by
  rw [State.ethLost, State.port_congr (State.ports_raise _ _ _ _ _ _)]
  exact s.associations_unsecured p

theorem State.rd_ethLost (s : State) (p : Nat) : (s.ethLost p).adm p = 0 ∧ (s.ethLost p).rd F.ETH_PORT_STAT_RATE p = 0 := by
  constructor
  · rw [State.adm, State.ethLost, State.rd_raise_ne _ _ _ _ _ _ _ _ (by decide), State.rd_wr_same _ _ _ _ (by decide)]
    rfl
  · rw [State.ethLost, State.rd_raise_ne _ _ _ _ _ _ _ _ (by decide), State.rd_wr_ne _ _ _ _ _ _ (by decide),
      State.rd_wr_same _ _ _ _ (by decide)]
    rfl

theorem State.closed_ethLost (h : s.adm p = 3) : (s.ethLost p).flag F.ETH_PORT_CAUSE_CLOSED p = true := by
  rw [State.ethLost, State.flag_raise_ne _ _ _ _ _ _ _ _ (by decide), State.flag_wr_ne _ _ _ _ _ _ (by decide),
    State.flag_wr_ne _ _ _ _ _ _ (by decide), State.unsecured, if_pos h]
  exact s.flag_closePort p 0

theorem State.ethDown_eq (h : s.adm p ≠ 0) : s.ethDown p = ((s.ethLost p).modPort p EthPort.unpaused).ptpLink p := if_neg h

theorem State.rd_ethDown (h : s.adm p ≠ 0) {g : Fld} (hrec : g.reg ∉ recRegs) (hg : ∀ f ∈ ptpFields, f.apart g) :
    (s.ethDown p).rd g p = (s.ethLost p).rd g p := by
  rw [State.ethDown_eq h, State.rd_ptpLink _ _ _ hrec hg]
  rfl

theorem State.flag_ethDown (h : s.adm p ≠ 0) {g : Fld} (hrec : g.reg ∉ recRegs) (hg : ∀ f ∈ ptpFields, f.apart g) :
    (s.ethDown p).flag g p = (s.ethLost p).flag g p := by
  rw [State.flag, State.flag, State.rd_ethDown h hrec hg]

theorem State.associations_ethDown (h : s.adm p ≠ 0) : ((s.ethDown p).port p).associations = (false, false, false) := by
  rw [State.ethDown_eq h, State.associations_ptpLink,
    State.port_modPort_keeps EthPort.associations (f := EthPort.unpaused) fun _ => rfl, s.associations_ethLost]

theorem State.ethDown_portLogs (h : s.adm p ≠ 0) : PortLogs linkRegs s (s.ethDown p) := by
  rw [State.ethDown_eq h]
  exact ((s.ethLost_portLogs p).modPort p _).trans (State.ptpLink_portLogs _ p)

theorem execEthLinkDown_effect {p : Fin 2} (h : s.adm p ≠ 0) :
    ∃ t, execEthLinkDown p s = .next t ∧ t.adm p = 0 ∧ t.rd F.ETH_PORT_STAT_RATE p = 0 ∧
      t.flag F.ETH_PORT_CAUSE_LINK_DOWN p = true ∧ (s.adm p = 3 → t.flag F.ETH_PORT_CAUSE_CLOSED p = true) ∧
      (t.port p).associations = (false, false, false) ∧ PortLogs linkRegs s t := by
  obtain ⟨hadm, hrate⟩ := s.rd_ethLost p
  refine ⟨s.ethDown p, rfl, ?_, ?_, ?_, fun hopen => ?_, State.associations_ethDown h, State.ethDown_portLogs h⟩
  · rw [State.adm, State.rd_ethDown h (by decide) (by decide)]
    exact hadm
  · rw [State.rd_ethDown h (by decide) (by decide), hrate]
  · rw [State.flag_ethDown h (by decide) (by decide)]
    exact State.flag_raise_same _ _ _ _ _ _ (by decide)
  · rw [State.flag_ethDown h (by decide) (by decide), State.closed_ethLost hopen]

theorem execEthLinkRetry_effect {p : Fin 2} (h : s.adm p = 0) :
    ∃ t, execEthLinkRetry p s = .next t ∧ t.rd F.ETH_PORT_STAT_RATE p = 0 ∧ OnlyRegs [.ETH_PORT_STAT] s t := by
  refine ⟨_, congrArg Host.Outcome.next (if_pos h), ?_, (OnlyRegs.refl _ s).wr _ _ _ (by decide)⟩
  rw [State.rd_wr_same _ _ _ _ (by decide)]
  rfl

/-! ### MKA (R217, R219, R220) -/

theorem State.port_lt (hports : s.ports.length = 2) (p : Fin 2) : p.val < s.ports.length := by omega

theorem execMkaFrame_effect {p : Fin 2} (hports : s.ports.length = 2) (hadm : s.adm p = 2 ∨ s.adm p = 3) (b : Bool) :
    ∃ t, execMkaFrame p true b s = .next t ∧ (t.port p).live = true ∧ (t.port p).rxSa = ((s.port p).rxSa || b) ∧
      t = { s with ports := t.ports } := by
  have hport := s.port_modPort (fun x => { x with live := true, rxSa := x.rxSa || b }) (State.port_lt hports p)
  exact ⟨_, if_pos ⟨rfl, hadm⟩, congrArg EthPort.live hport, congrArg EthPort.rxSa hport, rfl⟩

theorem execMkaFrame_invalid (p : Fin 2) (b : Bool) (s : State) : execMkaFrame p false b s = .next s :=
  if_neg fun e => Bool.false_ne_true e.1

/-- A port with both associations installed; packet numbers begin with them, and an older session's end. -/
def EthPort.installed (x : EthPort) : EthPort := { x with txSa := true, older := false, txPn := 1, rxPn := 1 }

theorem execMkaSaInstalled_effect {p : Fin 2} (hports : s.ports.length = 2) (hlive : (s.port p).live = true)
    (hrx : (s.port p).rxSa = true) (hadm : s.adm p = 2) :
    ∃ t, execMkaSaInstalled p s = .next t ∧ t.adm p = 3 ∧ (t.port p).txSa = true ∧ t.flag F.ETH_PORT_CAUSE_OPEN p = true ∧
      PortLogs [.ETH_PORT_STAT, .ETH_PORT_CAUSE] s t := by
  let u := s.modPort p EthPort.installed
  have hport : u.port p = (s.port p).installed := s.port_modPort EthPort.installed (State.port_lt hports p)
  refine ⟨(u.wr F.ETH_PORT_STAT_ADM p 3).raise F.ETH_PORT_CAUSE_OPEN p 1, (if_pos ⟨hlive, hrx⟩).trans (if_pos hadm), ?_, ?_, ?_, ?_⟩
  · rw [State.adm, State.rd_raise_ne _ _ _ _ _ _ _ _ (by decide), State.rd_wr_same _ _ _ _ (by decide)]
    rfl
  · rw [State.port_congr (State.ports_raise _ _ _ _ _ _)]
    exact congrArg EthPort.txSa hport
  · exact State.flag_raise_same _ _ _ _ _ _ (by decide)
  · exact (((PortLogs.refl _ s).modPort p _).wr _ _ _ (by decide)).raise _ _ _ _ _ (by decide)

theorem execMkaSaInstalled_refused {p : Fin 2} (h : (s.port p).live = false ∨ (s.port p).rxSa = false) :
    execMkaSaInstalled p s = .next s := by
  refine if_neg fun e => ?_
  rcases h with h | h
  · exact Bool.false_ne_true (h.symm.trans e.1)
  · exact Bool.false_ne_true (h.symm.trans e.2)

theorem execMkaPeerTimeout_open {p : Fin 2} (h : s.adm p = 3) :
    ∃ t, execMkaPeerTimeout p s = .next t ∧ t.adm p = (if s.flag F.ETH_PORT_STAT_CAK p then 2 else 1) ∧
      (t.port p).live = false ∧ t.flag F.ETH_PORT_CAUSE_CLOSED p = true ∧ PortLogs [.ETH_PORT_STAT, .ETH_PORT_CAUSE] s t := by
  let u := s.closePort p 2
  have hcak : u.flag F.ETH_PORT_STAT_CAK p = s.flag F.ETH_PORT_STAT_CAK p := State.flag_raise_ne _ _ _ _ _ _ _ _ (by decide)
  refine ⟨u.reAdmit p, if_pos h, ?_, ?_, ?_, ?_⟩
  · rw [u.adm_reAdmit, hcak]
  · exact congrArg Prod.fst (s.associations_closePort p 2)
  · rw [State.reAdmit, State.flag_wr_ne _ _ _ _ _ _ (by decide)]
    exact s.flag_closePort p 2
  · exact ((PortLogs.refl _ s).closePort (by decide) p 2).wr _ _ _ (by decide)

theorem execMkaPeerTimeout_waiting {p : Fin 2} (h : s.adm p = 2) :
    ∃ t, execMkaPeerTimeout p s = .next t ∧ (t.port p).live = false ∧ (t.port p).rxSa = false ∧ t = { s with ports := t.ports } := by
  have hnone := s.associations_dropSa p
  refine ⟨s.dropSa p, ?_, congrArg Prod.fst hnone, congrArg (·.2.1) hnone, rfl⟩
  rw [execMkaPeerTimeout, if_neg (by omega), if_pos h]

theorem execMkaHello_effect {p : Fin 2} {a b : List Byte} (hcak : (s.port p).cak = some (a, b)) (hadm : s.adm p = 2 ∨ s.adm p = 3) :
    ∃ t l, execMkaHello p s = .next t ∧ l.length = 12 ∧
      t.out = s.out ++ [.frame { port := p.val } 0x888E (BitVec.ofNat 8 s.conf.ksPrio :: (l ++ a ++ [0]))] ∧
      t = { s with out := t.out, free := t.free } := by
  have hfree : (s.freeBytes 12).2 = { s with free := (s.freeBytes 12).2.free } := s.freeBytes_free 12
  have htaken : execMkaHello p s = .next (s.mkpdu p a false) := by
    rw [execMkaHello, hcak]
    exact if_pos hadm
  refine ⟨_, (s.freeBytes 12).1, htaken, s.length_freeBytes 12, ?_, ?_⟩
  · rw [State.mkpdu, hfree]
    rfl
  · rw [State.mkpdu, hfree]
    rfl

end Link

/-! ### Received frames (R213, R214, R216, R220, R221) -/

section Frames
variable {s : State} {p : Fin 2} {f : EthFrame}

/-- Whether a frame has a bad length, tag or FCS, or meets a full buffer without flow control. -/
def State.unsound (s : State) (p : Nat) (f : EthFrame) : Bool :=
  frameSize f < 64 || 9216 < frameSize f || f.sTag || !f.fcsOk || (rxBuffer < f.fill && !(s.pfcOn p f.pcp.toNat))

theorem State.unsound_iff (s : State) (p : Nat) (f : EthFrame) : s.unsound p f = true ↔
    frameSize f < 64 ∨ 9216 < frameSize f ∨ f.sTag = true ∨ f.fcsOk = false ∨ (rxBuffer < f.fill ∧ s.pfcOn p f.pcp.toNat = false) := by
  simp [State.unsound, or_assoc]

theorem State.sound_of {q : Nat} (hmin : 64 ≤ frameSize f) (hmax : frameSize f ≤ 9216) (htag : f.sTag = false) (hfcs : f.fcsOk = true)
    (hfill : f.fill ≤ rxBuffer) : ¬ s.unsound q f = true := by
  rw [State.unsound_iff, htag, hfcs]
  rintro (h | h | h | h | h)
  · exact absurd hmin (Nat.not_le.2 h)
  · exact absurd hmax (Nat.not_le.2 h)
  · exact Bool.false_ne_true h
  · exact Bool.false_ne_true h.symm
  · exact absurd hfill (Nat.not_le.2 h.1)

theorem State.frameFate_of_unsound {q : Nat} (h : s.unsound q f = true) : s.frameFate q f = .drop := if_pos h

/-- On an open port a frame that MACsec fails, or a tagged one that it does not protect, is no sound one (R218, R221). -/
theorem State.frameFate_secErr {q : Nat} (hsound : ¬ s.unsound q f = true) (hopen : s.adm q = 3)
    (hbad : s.macsecBad q f = true ∨ (f.vid.isSome = true ∧ untagged f.etherType.toNat = false ∧ f.macsec ≠ some true)) :
    s.frameFate q f = .secErr := by
  refine (if_neg hsound).trans ?_
  cases hmac : s.macsecBad q f with
  | true => exact if_pos (by simp [hopen])
  | false =>
    obtain ⟨hvid, huntagged, hplain⟩ := hbad.resolve_left (by simp [hmac])
    obtain ⟨v, hv⟩ := Option.isSome_iff_exists.1 hvid
    rw [if_neg (by simp), hv]
    exact (if_neg (by simp [huntagged])).trans (if_pos (by simp [hopen, hplain]))

/-- On an open port a sound protected frame of a data entry is delivered (R214, R218). -/
theorem State.frameFate_deliver {q i : Nat} {v : BitVec 12} (hsound : ¬ s.unsound q f = true) (hopen : s.adm q = 3)
    (hmac : s.macsecBad q f = false) (hv : f.vid = some v) (huntagged : untagged f.etherType.toNat = false)
    (hprotected : f.macsec = some true) (hvlan : s.vlanOf q v.toNat = some i) (hclass : s.rd F.ETH_VLAN_CLASS i = 1) :
    s.frameFate q f = .deliver := by
  refine (if_neg hsound).trans ((if_neg (by simp [hmac])).trans ?_)
  rw [hv]
  refine (if_neg (by simp [huntagged])).trans ((if_neg (by simp [hprotected])).trans ?_)
  rw [hvlan]
  exact (if_neg (by simp [hclass])).trans (if_pos hopen)

/-- What a frame that is no PAUSE leaves, by its fate. -/
def State.received (s : State) (q : Nat) (f : EthFrame) : FrameFate → State
  | .deliver => (s.pnSeen q f).bufferSeen q f.pcp.toNat f.fill
  | .drop => s.count F.ETH_PORT_DROP_CNT_VALUE q
  | .secErr => (s.count F.ETH_PORT_SECERR_CNT_VALUE q).raise F.ETH_PORT_CAUSE_SECERR q

theorem execEthFrameReceive_of_fate {fate : FrameFate} (hrate : s.rd F.ETH_PORT_STAT_RATE p ≠ 0)
    (hpause : ¬ (f.etherType = 0x8808 ∧ f.vid = none)) (hfate : s.frameFate p f = fate) :
    execEthFrameReceive p f s = .next (s.received p f fate) := by
  rw [execEthFrameReceive, if_neg hrate, if_neg fun e => hpause ⟨e.1, e.2.1⟩, hfate]
  cases fate <;> rfl

theorem execEthFrameReceive_dropped (hrate : s.rd F.ETH_PORT_STAT_RATE p ≠ 0) (hpause : ¬ (f.etherType = 0x8808 ∧ f.vid = none))
    (h : s.unsound p f = true) :
    ∃ t, execEthFrameReceive p f s = .next t ∧
      t.rd F.ETH_PORT_DROP_CNT_VALUE p = min 0xFFFFFFFF (s.rd F.ETH_PORT_DROP_CNT_VALUE p + 1) ∧
      OnlyRegs [.ETH_PORT_DROP_CNT] s t :=
  ⟨_, execEthFrameReceive_of_fate hrate hpause (State.frameFate_of_unsound h), s.rd_count_word p (by decide),
    (OnlyRegs.refl _ s).count _ _ (by decide)⟩

theorem execEthFrameReceive_secErr (hrate : s.rd F.ETH_PORT_STAT_RATE p ≠ 0) (hpause : ¬ (f.etherType = 0x8808 ∧ f.vid = none))
    (hfate : s.frameFate p f = .secErr) :
    ∃ t, execEthFrameReceive p f s = .next t ∧
      t.rd F.ETH_PORT_SECERR_CNT_VALUE p = min 0xFFFFFFFF (s.rd F.ETH_PORT_SECERR_CNT_VALUE p + 1) ∧
      t.flag F.ETH_PORT_CAUSE_SECERR p = true ∧ OnlyLogs [.ETH_PORT_SECERR_CNT, .ETH_PORT_CAUSE] s t := by
  refine ⟨_, execEthFrameReceive_of_fate hrate hpause hfate, ?_, State.flag_raise_same _ _ _ _ _ _ (by decide), ?_⟩
  · rw [State.received, State.rd_raise_ne _ _ _ _ _ _ _ _ (by decide), s.rd_count_word p (by decide)]
  · exact ((OnlyLogs.refl _ s).wr _ _ _ (by decide)).raise _ _ _ _ _ (by decide)

/-- What a receive buffer says of itself changes the port's bookkeeping and the outputs alone. -/
theorem State.bufferSeen_cases (s : State) (q k n : Nat) : s.bufferSeen q k n = s ∨
    ∃ g e, s.bufferSeen q k n = (s.modPort q g).emit e ∧ ∀ x, (g x).rxPn = x.rxPn := by
  unfold State.bufferSeen
  split
  · exact .inl rfl
  · split
    · exact .inr ⟨_, _, rfl, fun _ => rfl⟩
    · split
      · exact .inr ⟨_, _, rfl, fun _ => rfl⟩
      · exact .inl rfl

theorem State.bufferSeen_eq (s : State) (q k n : Nat) :
    s.bufferSeen q k n = { s with ports := (s.bufferSeen q k n).ports, out := (s.bufferSeen q k n).out } := by
  rcases s.bufferSeen_cases q k n with h | ⟨g, e, h, -⟩
  · rw [h]
  · rw [h]
    rfl

theorem State.rxPn_bufferSeen (s : State) (q k n j : Nat) : ((s.bufferSeen q k n).port j).rxPn = (s.port j).rxPn := by
  rcases s.bufferSeen_cases q k n with h | ⟨g, e, h, hg⟩ <;> rw [h]
  exact s.port_modPort_keeps EthPort.rxPn hg q j

/-- A port that expects a packet number or a later one. -/
def EthPort.expects (n : Nat) (x : EthPort) : EthPort := { x with rxPn := max x.rxPn n }

theorem execEthFrameReceive_delivered {v : BitVec 12} (hrate : s.rd F.ETH_PORT_STAT_RATE p ≠ 0) (hv : f.vid = some v)
    (hfate : s.frameFate p f = .deliver) (hprotected : f.macsec = some true) (hports : s.ports.length = 2) :
    ∃ t, execEthFrameReceive p f s = .next t ∧ (t.port p).rxPn = max (s.port p).rxPn (f.pn.toNat + 1) ∧
      t = { s with ports := t.ports, out := t.out } := by
  have hseen : s.pnSeen p f = s.modPort p (EthPort.expects (f.pn.toNat + 1)) := if_pos hprotected
  have hport := s.port_modPort (EthPort.expects (f.pn.toNat + 1)) (State.port_lt hports p)
  refine ⟨_, execEthFrameReceive_of_fate hrate (by simp [hv]) hfate, ?_, ?_⟩
  · rw [State.received, State.rxPn_bufferSeen, hseen]
    exact congrArg EthPort.rxPn hport
  · rw [State.received, hseen]
    exact State.bufferSeen_eq (s.modPort p (EthPort.expects (f.pn.toNat + 1))) p f.pcp.toNat f.fill

/-! ### Pauses (R216) -/

theorem State.paused_putEth (s : State) (h : EthHdr) (e : Emit) (q : Nat) : ((s.putEth h e).port q).paused = (s.port q).paused := by
  have hnext := (s.emit e).port_modPort_keeps EthPort.paused (f := fun x => { x with txPn := (s.port h.port).txPn + 1 }) (fun _ => rfl)
    h.port q
  have hmkpdu (u : State) (c : List Byte) : ((u.mkpdu h.port c true).port q) = u.port q := by
    have hfree : (u.freeBytes 12).2 = { u with free := (u.freeBytes 12).2.free } := u.freeBytes_free 12
    rw [State.mkpdu, hfree]
    rfl
  unfold State.putEth
  split
  · dsimp only
    split
    · split
      · rw [hmkpdu]
        exact hnext
      · exact hnext
    · exact hnext
  · rfl

/-- Frames that waited go out, in order. -/
def State.sendWaiting (s : State) (l : List (Nat × Emit)) : State := l.foldl (fun s w => s.putEth w.2.header w.2) s

theorem State.sendWaiting_onlyWire (s : State) (l : List (Nat × Emit)) : OnlyWire s (s.sendWaiting l) :=
  OnlyWire.foldl l (fun v w => v.putEth_onlyWire w.2.header w.2) s

theorem State.paused_sendWaiting (s : State) (l : List (Nat × Emit)) (q : Nat) :
    ((s.sendWaiting l).port q).paused = (s.port q).paused :=
  List.foldlRecOn (motive := fun u : State => (u.port q).paused = (s.port q).paused) l _ rfl
    fun u hu w _ => (u.paused_putEth w.2.header w.2 q).trans hu

/-- A port's frames whose pause has ended go out, and of its pauses those that go on stay. -/
theorem State.flushPort_onlyWire (s : State) (q : Nat) : OnlyWire s (s.flushPort q) :=
  OnlyWire.trans (t := s.modPort q _) rfl (State.sendWaiting_onlyWire _ _)

theorem State.paused_flushPort {q : Nat} (hq : q < s.ports.length) :
    ((s.flushPort q).port q).paused = (s.port q).paused.filter fun z => decide (s.up < z.2) := by
  refine (State.paused_sendWaiting _ _ q).trans ?_
  rw [State.port_modPort s _ hq]

/-- A port on which the priorities of a PAUSE are paused, each until its time. -/
def EthPort.pausedBy (l : List (Fin 8 × BitVec 16)) (ends : BitVec 16 → Nat) (x : EthPort) : EthPort :=
  { x with paused := (x.paused.filter fun z => !(l.any fun y => y.1.val = z.1)) ++ l.map fun y => (y.1.val, ends y.2) }

/-- When a pause of so many quanta ends. -/
def State.pauseEnd (s : State) (q : Nat) (n : BitVec 16) : Nat :=
  s.up + (n.toNat * 32 * 2 ^ (5 - s.rd F.ETH_PORT_STAT_RATE q) + 99) / 100

theorem State.lt_pauseEnd (s : State) (q : Nat) {n : BitVec 16} (hn : n ≠ 0) : s.up < s.pauseEnd q n := by
  have hquanta : 0 < n.toNat := Nat.pos_of_ne_zero fun e => hn (BitVec.eq_of_toNat_eq e)
  have htime : 0 < n.toNat * 32 * 2 ^ (5 - s.rd F.ETH_PORT_STAT_RATE q) := Nat.mul_pos (by omega) (Nat.two_pow_pos _)
  exact Nat.lt_add_of_pos_right (Nat.div_pos (by omega) (by decide))

theorem State.pauseTaken_eq (s : State) (q : Nat) (l : List (Fin 8 × BitVec 16)) :
    s.pauseTaken q l = (s.modPort q (EthPort.pausedBy (l.filter fun x => s.pfcOn q x.1) (s.pauseEnd q))).flushPort q := rfl

theorem State.pauseTaken_onlyWire (s : State) (q : Nat) (l : List (Fin 8 × BitVec 16)) : OnlyWire s (s.pauseTaken q l) :=
  OnlyWire.trans (t := s.modPort q _) rfl (State.flushPort_onlyWire _ q)

/-- A priority with flow control that a PAUSE names is held. -/
theorem State.prioHeld_pauseTaken {q : Nat} {k : Fin 8} {n : BitVec 16} (hq : q < s.ports.length) (hn : n ≠ 0)
    (hpfc : s.pfcOn q k = true) : (s.pauseTaken q [(k, n)]).prioHeld q k = true := by
  let u := s.modPort q (EthPort.pausedBy [(k, n)] (s.pauseEnd q))
  have htaken : s.pauseTaken q [(k, n)] = u.flushPort q := by
    rw [State.pauseTaken_eq, List.filter_cons_of_pos (p := fun x : Fin 8 × BitVec 16 => s.pfcOn q x.1) hpfc, List.filter_nil]
  have hlater : s.up < s.pauseEnd q n := s.lt_pauseEnd q hn
  have hmem : (k.val, s.pauseEnd q n) ∈ ((u.flushPort q).port q).paused := by
    rw [State.paused_flushPort ((length_modifyAt _ _ _).symm ▸ hq), s.port_modPort _ hq, List.mem_filter]
    exact ⟨List.mem_append_right _ (List.mem_singleton_self _), decide_eq_true hlater⟩
  have hup : (u.flushPort q).up = s.up := (u.flushPort_onlyWire q).up_eq
  rw [htaken, State.prioHeld, Bool.or_eq_true_iff]
  exact .inl (List.any_eq_true.2 ⟨_, hmem, by simp [hup, hlater]⟩)

theorem execEthFrameReceive_paused {k : Fin 8} {n : BitVec 16} (hrate : s.rd F.ETH_PORT_STAT_RATE p ≠ 0) (htype : f.etherType = 0x8808)
    (hvid : f.vid = none) (hfcs : f.fcsOk = true) (hpause : f.pause = [(k, n)]) (hn : n ≠ 0) (hpfc : s.pfcOn p k = true)
    (hports : s.ports.length = 2) :
    ∃ t, execEthFrameReceive p f s = .next t ∧ t.prioHeld p k = true ∧ t = { s with ports := t.ports, out := t.out, free := t.free } := by
  have hany : s.rd F.ETH_PORT_CFG_PFC p ≠ 0 := fun e => by simp [State.pfcOn, e] at hpfc
  refine ⟨s.pauseTaken p [(k, n)], ?_, State.prioHeld_pauseTaken (State.port_lt hports p) hn hpfc, s.pauseTaken_onlyWire p _⟩
  rw [execEthFrameReceive, if_neg hrate, if_pos ⟨htype, hvid, hfcs, hany⟩, hpause]

end Frames

/-- Settles O29: links, MKA and received frames, each command in turn. -/
theorem ethernetLinksAndAdmission : Obligations.EthernetLinksAndAdmission := by
  unfold Obligations.EthernetLinksAndAdmission
  refine ⟨?_, ?_, ?_, ?_, ?_, ?_, ?_, ?_, ?_, ?_, ?_, ?_, ?_, ?_, ?_, ?_⟩
  · exact fun p r s hmay hen hdown hrate => execEthLinkUp_effect hmay hen hdown hrate
  · exact fun p r s h => execEthLinkUp_refused h
  · intro p s h
    obtain ⟨t, ht, hadm, hrate, hdown, hclosed, hnone, hframe⟩ := execEthLinkDown_effect h
    exact ⟨t, ht, hadm, hrate, hdown, hclosed, congrArg (·.2.1) hnone, congrArg (·.2.2) hnone, hframe⟩
  · exact fun p s h => congrArg Host.Outcome.next (if_pos h)
  · exact fun p s h => execEthLinkRetry_effect h
  · exact fun p b s hports hadm => execMkaFrame_effect hports hadm b
  · exact fun p b s => execMkaFrame_invalid p b s
  · exact fun p s hports hlive hrx hadm => execMkaSaInstalled_effect hports hlive hrx hadm
  · exact fun p s h => execMkaSaInstalled_refused h
  · exact fun p s h => execMkaPeerTimeout_open h
  · exact fun p s h => execMkaPeerTimeout_waiting h
  · exact fun p s a b hcak hadm => execMkaHello_effect hcak hadm
  · exact fun p f s hrate hpause hbad => execEthFrameReceive_dropped hrate hpause ((s.unsound_iff p f).2 hbad)
  · intro p f s hrate hpause hmin hmax htag hfcs hfill hopen hbad
    exact execEthFrameReceive_secErr hrate hpause (State.frameFate_secErr (State.sound_of hmin hmax htag hfcs hfill) hopen hbad)
  · intro p f s v i hrate hmin hmax htag hfcs hfill hv huntagged hopen hprotected hmac hvlan hclass hports
    have hfate := State.frameFate_deliver (State.sound_of hmin hmax htag hfcs hfill) hopen hmac hv huntagged hprotected hvlan hclass
    exact execEthFrameReceive_delivered hrate hv hfate hprotected hports
  · exact fun p f s q n hrate htype hvid hfcs hpause hn hpfc hports =>
      execEthFrameReceive_paused hrate htype hvid hfcs hpause hn hpfc hports

end Sys2Proof.Machine
end

section
/-! PROOFS.  HMP sessions (R229, R231), address resolution and echo (R214, R215), precision time (R232, R423) and LLDP (R233), and the
statement on them. -/

namespace Sys2Proof.Machine

section Sessions
variable {s : State}

/-! ### HMP sessions (R229) -/

/-- The module's side of a handshake is one message; its certificate and signature depend on the identity held. -/
theorem State.tlsAnswer_eq (s : State) (c : Nat) (h : List Byte) :
    ∃ x g free, s.tlsAnswer c h = { s with out := s.out ++ [.tls c x g], free := free } := by
  have hfree : (s.freeBytes 16).2 = { s with free := (s.freeBytes 16).2.free } := s.freeBytes_free 16
  unfold State.tlsAnswer
  dsimp only
  split
  · exact ⟨_, _, s.free, rfl⟩
  · rw [hfree]
    exact ⟨_, _, _, rfl⟩

/-- A client of the module's trust anchors, or any in recovery, finds one of 4 sessions free. -/
def State.mayJoin (s : State) (a : List Byte) : Prop :=
  (s.conf.anchors.elem a = true ∨ s.flag F.CFG_STAT_RECOVERY = true) ∧ s.sessions.length < 4

section Connect
variable {p : Fin 2} {c : Nat} {a h : List Byte} (hup : s.hmpUp = true) (hadm : s.adm p ≠ 0) (hentry : s.mgmtEntry p ≠ none)
  (hnew : s.sessions.elem c = false)
include hup hadm hentry hnew

theorem State.hmpReached : ¬ (s.mgmt.down = true ∨ s.hmpUp = false ∨ s.sessions.elem c = true ∨ s.adm p = 0 ∨ s.mgmtEntry p = none) := by
  rintro (hd | hd | hd | hd | hd)
  · simp [State.hmpUp, hd] at hup
  · exact Bool.false_ne_true (hd.symm.trans hup)
  · exact Bool.false_ne_true (hnew.symm.trans hd)
  · exact hadm hd
  · exact hentry hd

theorem execHmpConnect_joins (hjoin : s.mayJoin a) :
    ∃ t x g, execHmpConnect p c a h s = .next t ∧ t.sessions = s.sessions ++ [c] ∧
      t = { s with sessions := t.sessions, out := s.out ++ [.tls c x g], free := t.free } := by
  obtain ⟨x, g, free, hanswer⟩ := s.tlsAnswer_eq c h
  refine ⟨_, x, g, (if_neg (State.hmpReached hup hadm hentry hnew)).trans (if_pos hjoin), ?_, ?_⟩
  · rw [hanswer]
  · rw [hanswer]

theorem execHmpConnect_alerts (hjoin : ¬ s.mayJoin a) :
    ∃ t x g, execHmpConnect p c a h s = .next t ∧ t = { s with out := s.out ++ [.tls c x g, .tlsAlert c], free := t.free } := by
  obtain ⟨x, g, free, hanswer⟩ := s.tlsAnswer_eq c h
  refine ⟨_, x, g, (if_neg (State.hmpReached hup hadm hentry hnew)).trans (if_neg hjoin), ?_⟩
  rw [hanswer, State.emit, List.append_assoc]
  rfl

end Connect

theorem execHmpConnect_unreached {p : Fin 2} {c : Nat} (a h : List Byte)
    (hno : s.hmpUp = false ∨ s.adm p = 0 ∨ s.mgmtEntry p = none ∨ s.sessions.elem c = true) : execHmpConnect p c a h s = .next s := by
  refine if_pos (.inr ?_)
  rcases hno with hup | hadm | hentry | hknown
  · exact .inl hup
  · exact .inr (.inr (.inl hadm))
  · exact .inr (.inr (.inr hentry))
  · exact .inr (.inl hknown)

/-! ### Address resolution and echo (R214, R215) -/

/-- A frame on an entry whose frames go out at once goes out alone. -/
theorem State.say_of_sendsNow {i : Nat} (hnow : s.sendsNow (s.onEntry i 0 0) = true) (k : Nat) (l : List Byte) :
    s.say i k l = { s with ports := (s.say i k l).ports, out := s.out ++ [.frame (s.onEntry i 0 0) k l] } := by
  obtain ⟨ports, hsent⟩ := State.sendEth_of_sendsNow hnow (.frame (s.onEntry i 0 0) k l)
  rw [State.say, hsent]

/-! ### Precision time (R232, R423) -/

variable {p : Fin 2} {dom : BitVec 8}

/-- A port that becomes SLAVE takes that state at the most. -/
theorem State.ptpGo_slave_cases (s : State) (q : Nat) :
    (s.rd F.ETH_PORT_STAT_PTP_STATE q = 9 ∧ s.ptpGo q 9 = s) ∨ s.ptpGo q 9 = s.ptpEntered q 9 := by
  by_cases h : s.rd F.ETH_PORT_STAT_PTP_STATE q = 9
  · exact .inl ⟨h, if_pos h⟩
  · exact .inr ((if_neg h).trans (if_neg (by simp)))

theorem State.ptpGo_slave_onlyLogs (s : State) (q : Nat) : OnlyLogs [.ETH_PORT_STAT, .ETH_PORT_CAUSE] s (s.ptpGo q 9) := by
  rcases s.ptpGo_slave_cases q with ⟨-, h⟩ | h <;> rw [h]
  · exact OnlyLogs.refl _ s
  · exact ((OnlyLogs.refl _ s).wr _ _ _ (by decide)).raise _ _ _ _ _ (by decide)

theorem State.ptpState_ptpGo_slave (s : State) (q : Nat) : (s.ptpGo q 9).rd F.ETH_PORT_STAT_PTP_STATE q = 9 := by
  rcases s.ptpGo_slave_cases q with ⟨hslave, h⟩ | h <;> rw [h]
  · exact hslave
  · rw [State.ptpEntered, State.rd_raise_ne _ _ _ _ _ _ _ _ (by decide), State.rd_wr_same _ _ _ _ (by decide)]
    rfl

/-- The time base locked to a port, with its cause. -/
def State.lockedTo (s : State) (q : Nat) : State :=
  ((s.wr F.TIM_STAT_LOCKED 0 1).wr F.TIM_STAT_LOCK_PORT 0 q).raise F.TIM_CAUSE_LOCK

theorem State.lockedTo_onlyLogs (s : State) (q : Nat) : OnlyLogs [.TIM_STAT, .TIM_CAUSE] s (s.lockedTo q) :=
  (((OnlyLogs.refl _ s).wr _ _ _ (by decide)).wr _ _ _ (by decide)).raise _ _ _ _ _ (by decide)

theorem State.lock_lockedTo (s : State) (p : Fin 2) :
    (s.lockedTo p).flag F.TIM_STAT_LOCKED = true ∧ (s.lockedTo p).rd F.TIM_STAT_LOCK_PORT = p.val ∧
      (s.lockedTo p).flag F.TIM_CAUSE_LOCK = true := by
  refine ⟨?_, ?_, State.flag_raise_same _ _ _ _ _ _ (by decide)⟩
  · rw [State.lockedTo, State.flag_raise_ne _ _ _ _ _ _ _ _ (by decide), State.flag_wr_ne _ _ _ _ _ _ (by decide),
      State.flag_wr_one _ _ _ (by decide)]
  · rw [State.lockedTo, State.rd_raise_ne _ _ _ _ _ _ _ _ (by decide), State.rd_wr_same _ _ _ _ (by decide)]
    exact Nat.mod_eq_of_lt p.isLt

section Message
variable (hon : s.ptpOn p = true) (hdom : s.rd F.ETH_PTP_CFG_DOMAIN p = dom.toNat)
include hon hdom

theorem execPtpMessage_timing (l : Bool) (off : Option Int) (utc : Option (BitVec 16)) :
    execPtpMessage p dom (.timing l off utc) s = .next (s.ptpTiming p l off utc) := if_pos ⟨hon, hdom⟩

theorem execPtpMessage_announce (d : PtpData) : execPtpMessage p dom (.announce d) s = .next (s.ptpHear p d) := if_pos ⟨hon, hdom⟩

/-- A master answers a delay request with its time. -/
theorem execPtpMessage_delayReq (n : BitVec 16) (hmaster : s.rd F.ETH_PORT_STAT_PTP_STATE p = 6) :
    execPtpMessage p dom (.delayReq n) s = .next { s with
      out := s.out ++ [.frame { port := p.val } 0x88F7 ([0x09, dom] ++ natBE 2 n.toNat ++ natBE 8 s.timeBase.toNat)] } :=
  (if_pos ⟨hon, hdom⟩).trans (if_pos hmaster)

end Message

/-- The port is SLAVE where its servo has locked. -/
def State.maySlave (s : State) (l : Bool) (q : Nat) : State := if l then s.ptpGo q 9 else s

/-- The time base is locked to the port where its servo has locked and no port had it. -/
def State.mayLock (s : State) (l : Bool) (q : Nat) : State := if l && !(s.flag F.TIM_STAT_LOCKED) then s.lockedTo q else s

/-- An offset is removed, and the marks of the time base with it. -/
def State.steered (s : State) (off : Int) : State :=
  (((s.discipline off).wr F.TIM_STAT_UNSET 0 0).wr F.TIM_STAT_DISC 0 0).wr F.TIM_STAT_AONSTOP 0 0

/-- Whether the time base is locked to a port. -/
def State.lockedBy (s : State) (q : Nat) : Bool := s.flag F.TIM_STAT_LOCKED && s.rd F.TIM_STAT_LOCK_PORT = q

/-- Offset and UTC of the port that the time base is locked to are taken. -/
def State.timed (s : State) (q : Nat) (off : Option Int) (utc : Option (BitVec 16)) : State :=
  let u := match off with
    | some o => if s.lockedBy q && s.flag F.TIM_CTL_PTP_EN then s.steered o else s
    | none => s
  match utc with
  | some w => if s.lockedBy q then u.wr F.TIM_UTC_OFFSET 0 w.toNat else u
  | none => u

/-- In UNCALIBRATED or SLAVE the timing messages act on the port, the lock and the time base in turn. -/
theorem State.ptpTiming_eq (hslave : 8 ≤ s.rd F.ETH_PORT_STAT_PTP_STATE p) (l : Bool) (off : Option Int) (utc : Option (BitVec 16)) :
    s.ptpTiming p l off utc = ((s.maySlave l p).mayLock l p).timed p off utc := by
  refine (if_neg (Nat.not_lt.2 hslave)).trans ?_
  cases off <;> cases utc <;> rfl

theorem State.maySlave_onlyLogs (s : State) (l : Bool) (q : Nat) : OnlyLogs [.ETH_PORT_STAT, .ETH_PORT_CAUSE] s (s.maySlave l q) := by
  cases l
  · exact OnlyLogs.refl _ s
  · exact s.ptpGo_slave_onlyLogs q

/-- Neither the time base nor its lock and its control change with the state of a port. -/
theorem State.time_maySlave (s : State) (l : Bool) (q : Nat) :
    (s.maySlave l q).flag F.TIM_STAT_LOCKED = s.flag F.TIM_STAT_LOCKED ∧
      (s.maySlave l q).rd F.TIM_STAT_LOCK_PORT = s.rd F.TIM_STAT_LOCK_PORT ∧
      (s.maySlave l q).flag F.TIM_CTL_PTP_EN = s.flag F.TIM_CTL_PTP_EN ∧ (s.maySlave l q).timeBase = s.timeBase := by
  obtain ⟨hregs, hrest⟩ := s.maySlave_onlyLogs l q
  exact ⟨hregs.flag (by decide) 0, hregs.rd (by decide) 0, hregs.flag (by decide) 0, (congrArg State.timeBase hrest :)⟩

theorem execPtpMessage_locks (hon : s.ptpOn p = true) (hdom : s.rd F.ETH_PTP_CFG_DOMAIN p = dom.toNat)
    (hslave : 8 ≤ s.rd F.ETH_PORT_STAT_PTP_STATE p) (hfree : s.flag F.TIM_STAT_LOCKED = false) :
    ∃ t, execPtpMessage p dom (.timing true none none) s = .next t ∧ t.rd F.ETH_PORT_STAT_PTP_STATE p = 9 ∧
      t.flag F.TIM_STAT_LOCKED = true ∧ t.rd F.TIM_STAT_LOCK_PORT = p.val ∧ t.flag F.TIM_CAUSE_LOCK = true ∧
      OnlyLogs linkRegs s t := by
  have hstill : (s.ptpGo p 9).flag F.TIM_STAT_LOCKED = false := (s.time_maySlave true p).1.trans hfree
  have hlocks : (s.ptpGo p 9).mayLock true p = (s.ptpGo p 9).lockedTo p := if_pos (by simp [hstill])
  obtain ⟨hlocked, hport, hcause⟩ := (s.ptpGo p 9).lock_lockedTo p
  have hlogs := (s.ptpGo p 9).lockedTo_onlyLogs p
  refine ⟨(s.ptpGo p 9).lockedTo p, ?_, ?_, hlocked, hport, hcause, ?_⟩
  · rw [execPtpMessage_timing hon hdom, State.ptpTiming_eq hslave]
    exact congrArg Host.Outcome.next hlocks
  · rw [hlogs.1.rd (by decide), s.ptpState_ptpGo_slave]
  · exact ((s.ptpGo_slave_onlyLogs p).mono (by decide)).trans (hlogs.mono (by decide))

section Locked
variable (hslave : 8 ≤ s.rd F.ETH_PORT_STAT_PTP_STATE p) (hlocked : s.flag F.TIM_STAT_LOCKED = true)
  (hport : s.rd F.TIM_STAT_LOCK_PORT = p.val)
include hslave hlocked hport

/-- With the time base locked to the port already, the lock changes the port's state alone. -/
theorem State.ptpTiming_of_locked (l : Bool) (off : Option Int) (utc : Option (BitVec 16)) :
    s.ptpTiming p l off utc = (s.maySlave l p).timed p off utc ∧ (s.maySlave l p).lockedBy p = true := by
  obtain ⟨hflag, hrd, -, -⟩ := s.time_maySlave l p
  refine ⟨?_, by simp [State.lockedBy, hflag, hrd, hlocked, hport]⟩
  rw [State.ptpTiming_eq hslave, State.mayLock, if_neg (by simp [hflag, hlocked])]

theorem State.ptpTiming_offset (hen : s.flag F.TIM_CTL_PTP_EN = true) (l : Bool) (off : Int) :
    s.ptpTiming p l (some off) none = (s.maySlave l p).steered off := by
  obtain ⟨htimed, hmine⟩ := State.ptpTiming_of_locked hslave hlocked hport l (some off) none
  obtain ⟨-, -, hctl, -⟩ := s.time_maySlave l p
  exact htimed.trans (if_pos (by simp [hmine, hctl, hen]))

theorem State.ptpTiming_utc (l : Bool) (w : BitVec 16) :
    s.ptpTiming p l none (some w) = (s.maySlave l p).wr F.TIM_UTC_OFFSET 0 w.toNat := by
  obtain ⟨htimed, hmine⟩ := State.ptpTiming_of_locked hslave hlocked hport l none (some w)
  exact htimed.trans (if_pos hmine)

end Locked

/-- The time base set to a time, with its cause. -/
def State.steppedTo (s : State) (v : Nat) : State :=
  ({ s with timeBase := BitVec.ofNat 64 v, timeFrac := 0 }).raise F.TIM_CAUSE_STEP 0 1 (halves s.timeBase.toNat ++ halves v)

/-- An offset beyond 1 ms steps the time base (R423). -/
theorem State.steered_steps {off : Int} (h : off < -1000000 ∨ 1000000 < off) :
    (s.steered off).timeBase = BitVec.ofNat 64 ((s.timeBase.toNat : Int) - off).toNat ∧
      (s.steered off).flag F.TIM_CAUSE_STEP = true ∧ (s.steered off).flag F.TIM_STAT_UNSET = false := by
  have hstep : s.discipline off = s.steppedTo ((s.timeBase.toNat : Int) - off).toNat := if_neg (by omega)
  refine ⟨?_, ?_, ?_⟩
  · rw [State.steered, State.timeBase_wr, State.timeBase_wr, State.timeBase_wr, hstep, State.steppedTo, State.timeBase_raise]
  · rw [State.steered, State.flag_wr_ne _ _ _ _ _ _ (by decide), State.flag_wr_ne _ _ _ _ _ _ (by decide),
      State.flag_wr_ne _ _ _ _ _ _ (by decide), hstep]
    exact State.flag_raise_same _ _ _ _ _ _ (by decide)
  · rw [State.steered, State.flag_wr_ne _ _ _ _ _ _ (by decide), State.flag_wr_ne _ _ _ _ _ _ (by decide),
      State.flag_wr_zero _ _ _ (by decide)]

/-- A small signed number is read back from a word. -/
theorem State.rdS_wrS_of_small (s : State) {f : Fld} (i : Nat) {v : Int} (hf : f.lo = 0 ∧ f.hi = 31) (hv : -500000 ≤ v ∧ v ≤ 500000) :
    (s.wrS f i v).rdS f i = v := by
  obtain ⟨hlo, hhi⟩ := hf
  rw [State.rdS, State.wrS, State.rd_wr_same _ _ _ _ (by omega), hlo, hhi, signedOf]
  norm_num
  split <;> omega

/-- The rate trim against an offset, of a size that is free (R423). -/
def trimFor (off : Int) (d : Nat) : Int := if off = 0 then 0 else if 0 < off then -(d : Int) else d

theorem trimFor_le (off : Int) {d : Nat} (h : d < 500001) : -500000 ≤ trimFor off d ∧ trimFor off d ≤ 500000 := by
  unfold trimFor
  split
  · omega
  · split <;> omega

/-- An offset within 1 ms is removed by the rate, within 500 ppm (R423). -/
theorem State.steered_trims {off : Int} (hmin : -1000000 ≤ off) (hmax : off ≤ 1000000) :
    (s.steered off).timeBase = s.timeBase ∧ -500000 ≤ (s.steered off).rdS F.TIM_RATE_TRIM ∧
      (s.steered off).rdS F.TIM_RATE_TRIM ≤ 500000 := by
  have hv := trimFor_le off (d := (s.freeNat 500001).1) (Nat.mod_lt _ (by decide))
  have htrim : s.discipline off = (s.freeNat 500001).2.wrS F.TIM_RATE_TRIM 0 (trimFor off (s.freeNat 500001).1) := if_pos ⟨hmin, hmax⟩
  have hread : (s.steered off).rdS F.TIM_RATE_TRIM = trimFor off (s.freeNat 500001).1 := by
    rw [State.rdS, State.steered, State.rd_wr_ne _ _ _ _ _ _ (by decide), State.rd_wr_ne _ _ _ _ _ _ (by decide),
      State.rd_wr_ne _ _ _ _ _ _ (by decide), htrim]
    exact State.rdS_wrS_of_small _ 0 (by decide) hv
  rw [hread]
  refine ⟨?_, hv⟩
  rw [State.steered, htrim]
  rfl

/-- The states of both ports decided anew change registers and the record alone. -/
theorem State.ptpDecide_onlyLogs (s : State) : OnlyLogs linkRegs s s.ptpDecide := by
  refine List.foldlRecOn (motive := OnlyLogs linkRegs s) _ _ (OnlyLogs.refl _ s) fun u hu q _ => ?_
  split
  · exact hu
  · split
    · exact hu
    · exact hu.trans (u.ptpGo_onlyLogs q _)

/-- A port that hears a clock keeps it, unless it knows a better one (R232). -/
def EthPort.hears (d : PtpData) (now : Nat) (x : EthPort) : EthPort :=
  { x with foreign := match x.foreign with
    | some o => if o.1.id = d.id || ptpBetter d o.1 then some (d, now) else some o
    | none => some (d, now) }

theorem EthPort.foreign_hears (d : PtpData) (now : Nat) (x : EthPort) : ∃ o, (x.hears d now).foreign = some o := by
  unfold EthPort.hears
  dsimp only
  split
  · split <;> exact ⟨_, rfl⟩
  · exact ⟨_, rfl⟩

theorem State.ptpHear_eq (s : State) (q : Nat) (d : PtpData) : s.ptpHear q d = (s.modPort q (EthPort.hears d s.up)).ptpDecide := rfl

theorem execPtpMessage_hears (hon : s.ptpOn p = true) (hdom : s.rd F.ETH_PTP_CFG_DOMAIN p = dom.toNat) (hports : s.ports.length = 2)
    (d : PtpData) :
    ∃ t o, execPtpMessage p dom (.announce d) s = .next t ∧ (t.port p).foreign = some o ∧ PortLogs linkRegs s t := by
  obtain ⟨o, ho⟩ := (s.port p).foreign_hears d s.up
  refine ⟨_, o, execPtpMessage_announce hon hdom d, ?_, ?_⟩
  · rw [State.ptpHear_eq, State.port_congr (State.ptpDecide_onlyLogs _).ports_eq, s.port_modPort _ (State.port_lt hports p), ho]
  · exact ((PortLogs.refl _ s).modPort p _).onlyLogs (State.ptpDecide_onlyLogs _)

theorem execPtpLockLost_effect (hlocked : s.flag F.TIM_STAT_LOCKED = true) (hport : s.rd F.TIM_STAT_LOCK_PORT = p.val) :
    ∃ t, execPtpLockLost p s = .next t ∧ t.flag F.TIM_STAT_LOCKED = false ∧ t.flag F.TIM_CAUSE_LOCK = true ∧
      OnlyLogs [.TIM_STAT, .TIM_CAUSE] s t := by
  refine ⟨s.unlocked, if_pos ⟨hlocked, hport⟩, ?_, State.flag_raise_same _ _ _ _ _ _ (by decide), s.unlocked_onlyLogs⟩
  rw [State.unlocked, State.flag_raise_ne _ _ _ _ _ _ _ _ (by decide), State.flag_wr_zero _ _ _ (by decide)]

/-! ### LLDP (R233) -/

theorem execLldpSend_effect (hrate : s.rd F.ETH_PORT_STAT_RATE p ≠ 0) :
    ∃ l, s.nv.serial <+: l ∧ execLldpSend p s = .next { s with out := s.out ++ [.frame { port := p.val } 0x88CC l] } := by
  refine ⟨_, ?_, if_neg hrate⟩
  simp only [List.append_assoc]
  exact List.prefix_append _ _

/-- What LLDP has heard on a port after a neighbour's message: one known is heard anew, and a new one has one of 4 places. -/
def heard (l : List (List Byte × List Byte)) (a b : List Byte) : List (List Byte × List Byte) :=
  if l.any fun x => x.1 = a then l.map fun x => if x.1 = a then (a, b) else x
  else if l.length < 4 then l ++ [(a, b)] else l

theorem heard_of_new {l : List (List Byte × List Byte)} {a : List Byte} (hnew : ∀ x ∈ l, x.1 ≠ a) (b : List Byte) :
    heard l a b = if l.length < 4 then l ++ [(a, b)] else l := if_neg (by simpa using fun y h => hnew (a, y) h rfl)

/-- A port with neighbours. -/
def EthPort.withNeighbours (l : List (List Byte × List Byte)) (x : EthPort) : EthPort := { x with neighbours := l }

theorem execLldpReceive_records {a b : List Byte} (hrate : s.rd F.ETH_PORT_STAT_RATE p ≠ 0) (hports : s.ports.length = 2)
    (hnew : ∀ x ∈ (s.port p).neighbours, x.1 ≠ a) (hroom : (s.port p).neighbours.length < 4) :
    ∃ t, execLldpReceive p a b s = .next t ∧ (t.port p).neighbours = (s.port p).neighbours ++ [(a, b)] ∧
      t.flag F.ETH_PORT_CAUSE_LLDP p = true ∧ PortLogs [.ETH_PORT_CAUSE] s t := by
  have hheard : heard (s.port p).neighbours a b = (s.port p).neighbours ++ [(a, b)] := (heard_of_new hnew b).trans (if_pos hroom)
  have hmore : heard (s.port p).neighbours a b ≠ (s.port p).neighbours := by simp [hheard]
  refine ⟨(s.modPort p (EthPort.withNeighbours (heard (s.port p).neighbours a b))).raise F.ETH_PORT_CAUSE_LLDP p,
    (if_neg hrate).trans (if_neg hmore), ?_, State.flag_raise_same _ _ _ _ _ _ (by decide),
    ((PortLogs.refl _ s).modPort p _).raise _ _ _ _ _ (by decide)⟩
  rw [State.port_congr (State.ports_raise _ _ _ _ _ _), s.port_modPort _ (State.port_lt hports p)]
  exact hheard

theorem execLldpReceive_full {a : List Byte} (b : List Byte) (hnew : ∀ x ∈ (s.port p).neighbours, x.1 ≠ a)
    (hfull : 4 ≤ (s.port p).neighbours.length) : execLldpReceive p a b s = .next s := by
  have hheard : heard (s.port p).neighbours a b = (s.port p).neighbours := (heard_of_new hnew b).trans (if_neg (Nat.not_lt.2 hfull))
  by_cases hrate : s.rd F.ETH_PORT_STAT_RATE p = 0
  · exact if_pos hrate
  · exact (if_neg hrate).trans (if_pos hheard)

end Sessions

/-- Settles O33: sessions, address resolution, echo, precision time and LLDP, each command in turn. -/
theorem sessionsResolutionTimeAndNeighbours : Obligations.SessionsResolutionTimeAndNeighbours := by
  unfold Obligations.SessionsResolutionTimeAndNeighbours
  refine ⟨?_, ?_, ?_, ?_, ?_, ?_, ?_, ?_, ?_, ?_, ?_, ?_, ?_, ?_, ?_, ?_, ?_, ?_, ?_⟩
  · intro p c a h s hup hadm hentry hnew htrust hroom
    exact execHmpConnect_joins hup hadm hentry hnew ⟨htrust.imp_left List.elem_iff.2, hroom⟩
  · intro p c a h s hup hadm hentry hnew hrefused
    refine execHmpConnect_alerts hup hadm hentry hnew fun hjoin => ?_
    obtain ⟨htrust, hroom⟩ := hjoin
    rcases hrefused with hfull | ⟨hstranger, hrun⟩
    · exact absurd hroom (Nat.not_lt.2 hfull)
    · exact htrust.elim (fun e => hstranger (List.elem_iff.1 e)) fun e => Bool.false_ne_true (hrun.symm.trans e)
  · exact fun p c a h s hno => execHmpConnect_unreached a h hno
  · exact fun _ _ => rfl
  · exact fun i ip s hentry hip hnow => ⟨_, if_pos ⟨hentry, hip⟩, State.say_of_sendsNow hnow _ _⟩
  · exact fun i ip s hentry hip hnow => ⟨_, if_pos ⟨hentry, hip⟩, State.say_of_sendsNow hnow _ _⟩
  · exact fun i ip l s hentry hclass hip hnow => ⟨_, _, if_pos ⟨hentry, hclass, hip⟩, State.say_of_sendsNow hnow _ _⟩
  · exact fun i ip l s hip => ⟨if_neg fun e => hip e.2, if_neg fun e => hip e.2, if_neg fun e => hip e.2.2⟩
  · exact fun p dom s hon hdom hslave hfree => execPtpMessage_locks hon hdom hslave hfree
  · intro p dom l off s hon hdom hslave hlocked hport hen hoff
    obtain ⟨htime, hstep, hset⟩ := (s.maySlave l p).steered_steps hoff
    refine ⟨_, execPtpMessage_timing hon hdom l (some off) none, ?_⟩
    rw [State.ptpTiming_offset hslave hlocked hport hen, htime, (s.time_maySlave l p).2.2.2]
    exact ⟨rfl, hstep, hset⟩
  · intro p dom l off s hon hdom hslave hlocked hport hen hmin hmax
    obtain ⟨htime, hlow, hhigh⟩ := (s.maySlave l p).steered_trims hmin hmax
    refine ⟨_, execPtpMessage_timing hon hdom l (some off) none, ?_⟩
    rw [State.ptpTiming_offset hslave hlocked hport hen]
    exact ⟨htime.trans (s.time_maySlave l p).2.2.2, hlow, hhigh⟩
  · intro p dom l w s hon hdom hslave hlocked hport
    refine ⟨_, execPtpMessage_timing hon hdom l none (some w), ?_⟩
    rw [State.ptpTiming_utc hslave hlocked hport, State.rd_wr_same _ _ _ _ (by decide)]
    exact Nat.mod_eq_of_lt w.isLt
  · exact fun p dom d s hon hdom hports => execPtpMessage_hears hon hdom hports d
  · exact fun p dom n s hon hdom hmaster => execPtpMessage_delayReq hon hdom n hmaster
  · exact fun p dom m s h => if_neg fun e => h.elim (fun hoff => Bool.false_ne_true (hoff.symm.trans e.1)) fun hother => hother e.2
  · exact fun p s hlocked hport => execPtpLockLost_effect hlocked hport
  · exact fun p s hrate => execLldpSend_effect hrate
  · exact fun p a b s hrate hports hnew hroom => execLldpReceive_records hrate hports hnew hroom
  · exact fun p a b s hnew hfull => execLldpReceive_full b hnew hfull

end Sys2Proof.Machine
end

section
/-! PROOFS.  The security core's HMP objects (R244 to R247, R250 to R253, R257, R261): attestation, delivery and revocation of keys,
claims, admissions and debug unlocks, and the statement on them. -/

namespace Sys2Proof.Machine

/-! ### Frames and numbers read back -/

/-- A frame of registers is a frame of records. -/
theorem OnlyRegs.onlyLogs {rs : List Reg} {s t : State} (h : OnlyRegs rs s t) : OnlyLogs rs s t :=
  ⟨fun r i hr => h.1 r i fun e => hr (List.mem_append_left _ e),
    congrArg (fun u : State => { u with evr := {}, irqPulse := false }) h.2⟩

/-- The same answer on both sides keeps a frame of registers. -/
theorem OnlyRegs.answered {rs : List Reg} {s t : State} (h : OnlyRegs rs s t) (x : HmpHead) (r : Nat) :
    OnlyRegs rs (s.answer4 x r) (t.answer4 x r) := ⟨h.1, congrArg (State.answer4 · x r) h.2⟩

/-- The same answer on both sides keeps a frame of records. -/
theorem OnlyLogs.answered {rs : List Reg} {s t : State} (h : OnlyLogs rs s t) (x : HmpHead) (r : Nat) :
    OnlyLogs rs (s.answer4 x r) (t.answer4 x r) := ⟨h.1, congrArg (State.answer4 · x r) h.2⟩

theorem leNat_natLE {n v : Nat} (h : v < 256 ^ n) : leNat (natLE n v) = v := by
  induction n generalizing v with
  | zero => rw [Nat.pow_zero] at h; rw [natLE, leNat]; omega
  | succ n ih =>
    have hhigh : v / 256 < 256 ^ n := by rw [Nat.pow_succ] at h; omega
    rw [natLE, leNat, ih hhigh, BitVec.toNat_ofNat]
    exact Nat.mod_add_div v 256

/-! ### Answers with a result (R251, R252) -/

/-- A result other than 0 raises KEY_REFUSED. -/
theorem State.flag_keyAnswer_refused (s : State) (x : HmpHead) {r : Nat} (hr : r ≠ 0) :
    (s.keyAnswer x r).flag F.SEC_CAUSE_KEY_REFUSED = true := by
  rw [State.keyAnswer, if_neg hr]
  exact State.flag_raise_same s _ _ _ _ _ (by decide)

/-- Beside the answer sent, a result writes its cause and its record alone. -/
theorem State.keyAnswer_onlyLogs (s : State) (x : HmpHead) (r : Nat) : OnlyLogs [.SEC_CAUSE] (s.answer4 x r) (s.keyAnswer x r) := by
  unfold State.keyAnswer
  split
  · exact OnlyLogs.refl _ _
  · exact ((OnlyLogs.refl _ s).raise _ _ _ _ _ (by decide)).answered x r

theorem State.out_keyAnswer (s : State) (x : HmpHead) (r : Nat) :
    (s.keyAnswer x r).out = s.out ++ [.hmp x.client 0x8004 0 x.seq.toNat (natLE 4 r)] := (s.keyAnswer_onlyLogs x r).out_eq

/-! ### Identity and attestation (R246, R247) -/

section Session
variable {s : State} {x : HmpHead} (hup : s.hmpUp = true) (hses : s.sessions.elem x.client = true) (hok : x.ok = true)
include hup hses hok

/-- In recovery and without an identity an object is answered with status 1. -/
theorem hmpObj_barred (typ : Nat) (f : State → State) (h : s.flag F.CFG_STAT_RECOVERY = true ∨ s.rd F.SEC_STATE_ID = 2) :
    hmpObj typ x f s = .next (s.hmpSay x typ 1 []) :=
  (if_neg (not_without_session hup hses)).trans ((if_neg (by simp [hok])).trans (if_pos (by simpa using h)))

theorem execIdentityChain_barred (h : s.flag F.CFG_STAT_RECOVERY = true ∨ s.rd F.SEC_STATE_ID = 2) :
    execIdentityChain x s = .next (s.hmpSay x 3 1 []) := hmpObj_barred hup hses hok _ _ h

end Session

/-- The attestation keys that stay beside a new one: the live ones, without the oldest where eight are live. -/
def State.keptAks (s : State) : List AttKey :=
  let live := s.sec.aks.filter fun y => s.akLive y
  if live.length < 8 then live else live.drop 1

theorem State.length_keptAks_lt {s : State} (h : s.sec.aks.length ≤ 8) : s.keptAks.length < 8 := by
  have hlive : (s.sec.aks.filter fun y => s.akLive y).length ≤ 8 := (List.length_filter_le _ _).trans h
  simp only [State.keptAks]
  split
  · assumption
  · rw [List.length_drop]; omega

/-- The module with a new attestation key. -/
def State.withAk (s : State) (k : AttKey) : State := { s with sec := { s.sec with aks := s.keptAks ++ [k] } }

/-- A new attestation key is held, its cause raised, and its certificate sent. -/
def State.issued (s : State) (x : HmpHead) (k : AttKey) (cert : List Byte) : State :=
  (((s.withAk k).raise F.SEC_CAUSE_ATTEST).freeNat 1).2.hmpSay x 4 0 cert

theorem State.aks_issued (s : State) (x : HmpHead) (k : AttKey) (cert : List Byte) :
    (s.issued x k cert).sec.aks = s.keptAks ++ [k] := by
  have hsec : (s.issued x k cert).sec = ((s.withAk k).raise F.SEC_CAUSE_ATTEST).sec := rfl
  rw [hsec, State.raise_eq]
  rfl

theorem State.flag_issued (s : State) (x : HmpHead) (k : AttKey) (cert : List Byte) :
    (s.issued x k cert).flag F.SEC_CAUSE_ATTEST = true := State.flag_raise_same (s.withAk k) _ _ _ _ _ (by decide)

theorem State.issued_onlyLogs (s : State) (n : Nat) (x : HmpHead) (k : AttKey) (cert : List Byte) :
    let t := ({ s with free := n } : State).issued x k cert
    OnlyLogs [.SEC_CAUSE] { s with free := t.free, out := t.out, sec := { s.sec with aks := t.sec.aks } } t := by
  intro t
  have hraise : OnlyLogs [.SEC_CAUSE] (({ s with free := n } : State).withAk k)
      ((({ s with free := n } : State).withAk k).raise F.SEC_CAUSE_ATTEST) := (OnlyLogs.refl _ _).raise _ _ _ _ _ (by decide)
  refine ⟨hraise.1, ?_⟩
  rw [State.aks_issued]
  exact congrArg (fun u : State => { u with free := t.free, out := t.out }) hraise.2

/-! ### Ingest key slots (R253) -/

/-- The counts of LOADs leave a slot's LOADED and PART. -/
theorem State.slot_keyCounts (s : State) (i : Nat) : (s.keyCounts i).flag F.SEC_KSLOT_LOADED i = s.flag F.SEC_KSLOT_LOADED i ∧
    (s.keyCounts i).rd F.SEC_KSLOT_PART i = s.rd F.SEC_KSLOT_PART i := by
  unfold State.keyCounts
  constructor
  · simp (disch := decide) only [State.flag_wr_ne]
  · simp (disch := decide) only [State.rd_wr_ne]

theorem OnlyRegs.keyCounts {rs : List Reg} {s u : State} (h : OnlyRegs rs s u) (i : Nat) (hr : .SEC_KSLOT ∈ rs) :
    OnlyRegs rs s (u.keyCounts i) := (h.wr _ _ _ hr).wr _ _ _ hr

theorem State.kslots_placeKey (s : State) (i n : Nat) (key : List Byte) :
    Assoc.find (s.placeKey i n key).kslots i = some { id := s.deliveries, key := key } :=
  (Assoc.find_put _ _ _ _).trans (if_pos rfl)

/-- A placed key's slot shows that it is loaded and for which partition. -/
theorem State.slot_placeKey (s : State) (i : Nat) {n : Nat} (key : List Byte) (hn : n < 16) :
    (s.placeKey i n key).flag F.SEC_KSLOT_LOADED i = true ∧ (s.placeKey i n key).rd F.SEC_KSLOT_PART i = n := by
  obtain ⟨hloaded, hpart⟩ := State.slot_keyCounts (((({ s with
    kslots := Assoc.put s.kslots i { id := s.deliveries, key := key }, deliveries := s.deliveries + 1 } : State).wr
      F.SEC_KSLOT_LOADED i 1).wr F.SEC_KSLOT_PART i n)) i
  refine ⟨hloaded.trans ?_, hpart.trans ?_⟩
  · rw [State.flag_wr_ne _ _ _ _ _ _ (by decide), State.flag_wr_one _ _ _ (by decide)]
  · rw [State.rd_wr_same _ _ _ _ (by decide)]
    exact Nat.mod_eq_of_lt hn

theorem State.placeKey_onlyRegs (s : State) (i n : Nat) (key : List Byte) :
    OnlyRegs [.SEC_KSLOT] { s with kslots := (s.placeKey i n key).kslots, deliveries := s.deliveries + 1 } (s.placeKey i n key) :=
  (((OnlyRegs.refl _ _).wr F.SEC_KSLOT_LOADED i 1 (by decide)).wr F.SEC_KSLOT_PART i n (by decide)).keyCounts i (by decide)

/-- The slot without its key. -/
def State.dropKey (s : State) (i : Nat) : State :=
  (({ s with kslots := Assoc.erase s.kslots i } : State).wr F.SEC_KSLOT_LOADED i 0).keyCounts i

theorem State.dropKey_effect (s : State) (i : Nat) : (s.dropKey i).flag F.SEC_KSLOT_LOADED i = false ∧
    Assoc.find (s.dropKey i).kslots i = none ∧ OnlyRegs [.SEC_KSLOT] { s with kslots := (s.dropKey i).kslots } (s.dropKey i) := by
  refine ⟨(State.slot_keyCounts _ i).1.trans (State.flag_wr_zero _ _ _ (by decide)), (Assoc.find_erase _ _ _).trans (if_pos rfl), ?_⟩
  exact ((OnlyRegs.refl _ _).wr F.SEC_KSLOT_LOADED i 0 (by decide)).keyCounts i (by decide)

/-! ### KEY_DELIVER (R250, R251) -/

theorem State.out_setCak (s : State) (p : Nat) (ckn cak : List Byte) : (s.setCak p ckn cak).out = s.out := by
  unfold State.setCak
  extract_lets s0 s1
  have hold : s0.out = s.out := by unfold s0; split <;> rfl
  split
  · exact hold
  · exact hold

/-- Only a well-formed object has result 0. -/
theorem State.wrapOk_of_deliverResult {s : State} {l : List Byte} (h : (s.deliverResult l).1 = 0) : wrapOk l = true := by
  by_contra hbad
  rw [State.deliverResult, if_pos (by simpa using hbad)] at h
  exact absurd h (by decide)

/-- A well-formed object for a slot names one of 16 partitions. -/
theorem part_lt_of_wrapOk {l : List Byte} (h : wrapOk l = true) (hslot : byteAt l 6 = 1) : byteAt l 8 < 16 := by
  simp only [wrapOk, hslot, Bool.and_eq_true, Bool.or_eq_true, decide_eq_true_eq] at h
  omega

/-- What a delivery with result 0 loads: a slot key or a port's CAK. -/
def State.loaded (s : State) (l : List Byte) : State :=
  if byteAt l 6 = 1 then s.placeKey (byteAt l 7) (byteAt l 8) ((s.deliverResult l).2.take 32)
  else s.setCak (byteAt l 7) ((s.deliverResult l).2.drop 32) ((s.deliverResult l).2.take 32)

theorem State.out_loaded (s : State) (l : List Byte) : (s.loaded l).out = s.out := by
  unfold State.loaded
  split
  · rfl
  · exact s.out_setCak _ _ _

theorem State.keyDeliver_refused {s : State} {l : List Byte} (x : HmpHead) (h : (s.deliverResult l).1 ≠ 0) :
    s.keyDeliver x l = s.keyAnswer x (s.deliverResult l).1 := if_pos h

theorem State.keyDeliver_good {s : State} {l : List Byte} (x : HmpHead) (h : (s.deliverResult l).1 = 0) :
    s.keyDeliver x l = ((s.loaded l).raise F.SEC_CAUSE_KEY_LOADED).keyAnswer x 0 := if_neg (not_not_intro h)

/-- A delivery answers the result of its checks. -/
theorem State.out_keyDeliver (s : State) (x : HmpHead) (l : List Byte) :
    (s.keyDeliver x l).out = s.out ++ [.hmp x.client 0x8004 0 x.seq.toNat (natLE 4 (s.deliverResult l).1)] := by
  by_cases h : (s.deliverResult l).1 = 0
  · have hraise : ((s.loaded l).raise F.SEC_CAUSE_KEY_LOADED).out = (s.loaded l).out :=
      ((OnlyLogs.refl [.SEC_CAUSE] _).raise _ _ _ _ _ (by decide)).out_eq
    rw [State.keyDeliver_good x h, State.out_keyAnswer, hraise, State.out_loaded, h]
  · rw [State.keyDeliver_refused x h, State.out_keyAnswer]

theorem State.flag_keyDeliver_good {s : State} {l : List Byte} (x : HmpHead) (h : (s.deliverResult l).1 = 0) :
    (s.keyDeliver x l).flag F.SEC_CAUSE_KEY_LOADED = true := by
  rw [State.keyDeliver_good x h]
  exact State.flag_raise_same (s.loaded l) _ _ _ _ _ (by decide)

/-- A good delivery to a slot loads the unwrapped key there, for the partition it names. -/
theorem State.loaded_slot {s : State} {l : List Byte} (h : (s.deliverResult l).1 = 0) (hslot : byteAt l 6 = 1) :
    (s.loaded l).flag F.SEC_KSLOT_LOADED (byteAt l 7) = true ∧ (s.loaded l).rd F.SEC_KSLOT_PART (byteAt l 7) = byteAt l 8 ∧
      Assoc.find (s.loaded l).kslots (byteAt l 7) = some { id := s.deliveries, key := (s.deliverResult l).2.take 32 } ∧
      OnlyRegs [.SEC_KSLOT] { s with kslots := (s.loaded l).kslots, deliveries := s.deliveries + 1 } (s.loaded l) := by
  have hpart : byteAt l 8 < 16 := part_lt_of_wrapOk (s.wrapOk_of_deliverResult h) hslot
  obtain ⟨hloaded, hnamed⟩ := s.slot_placeKey (byteAt l 7) ((s.deliverResult l).2.take 32) hpart
  rw [State.loaded, if_pos hslot]
  exact ⟨hloaded, hnamed, s.kslots_placeKey _ _ _, s.placeKey_onlyRegs _ _ _⟩

/-- What follows the loading of a slot key is its cause and its answer. -/
theorem State.keyDeliver_slot {s : State} {l : List Byte} (x : HmpHead) (h : (s.deliverResult l).1 = 0) (hslot : byteAt l 6 = 1) :
    (s.keyDeliver x l).flag F.SEC_KSLOT_LOADED (byteAt l 7) = true ∧ (s.keyDeliver x l).rd F.SEC_KSLOT_PART (byteAt l 7) = byteAt l 8 ∧
      Assoc.find (s.keyDeliver x l).kslots (byteAt l 7) = some { id := s.deliveries, key := (s.deliverResult l).2.take 32 } ∧
      OnlyLogs [.SEC_CAUSE, .SEC_KSLOT] { s with
        out := (s.keyDeliver x l).out, kslots := (s.keyDeliver x l).kslots, deliveries := s.deliveries + 1 } (s.keyDeliver x l) := by
  obtain ⟨hloaded, hpart, hkey, hplaced⟩ := State.loaded_slot h hslot
  have hraise : OnlyLogs [.SEC_CAUSE] (s.loaded l) ((s.loaded l).raise F.SEC_CAUSE_KEY_LOADED) :=
    (OnlyLogs.refl _ _).raise _ _ _ _ _ (by decide)
  have hslots : (s.keyDeliver x l).kslots = (s.loaded l).kslots := by
    rw [State.keyDeliver_good x h]
    exact (congrArg State.kslots hraise.2 :)
  rw [hslots, s.out_keyDeliver, h, State.keyDeliver_good x h]
  refine ⟨?_, ?_, hkey, ?_⟩
  · exact (State.flag_congr (hraise.1 _ _ (by decide))).trans hloaded
  · exact (State.rd_congr (hraise.1 _ _ (by decide))).trans hpart
  · exact ((hplaced.onlyLogs.mono (by decide)).trans (hraise.mono (by decide))).answered x 0

theorem execKeyDeliver_taken {s : State} {x : HmpHead} (hup : s.hmpUp = true) (hses : s.sessions.elem x.client = true)
    (hok : x.ok = true) (hrec : s.flag F.CFG_STAT_RECOVERY = false) (l : List Byte) :
    execKeyDeliver x l s = .next (s.keyDeliver x l) := by
  have htakes : s.hmpTakes x = true := by rw [State.hmpTakes, hup, hses, hok]; rfl
  exact if_pos ⟨htakes, hrec⟩

theorem execKeyDeliver_effect {s : State} {x : HmpHead} (hup : s.hmpUp = true) (hses : s.sessions.elem x.client = true)
    (hok : x.ok = true) (hrec : s.flag F.CFG_STAT_RECOVERY = false) (l : List Byte) :
    ∃ t, execKeyDeliver x l s = .next t ∧
      t.out = s.out ++ [.hmp x.client 0x8004 0 x.seq.toNat (natLE 4 (s.deliverResult l).1)] ∧
      ((s.deliverResult l).1 ≠ 0 → t.flag F.SEC_CAUSE_KEY_REFUSED = true ∧ OnlyLogs [.SEC_CAUSE] { s with out := t.out } t) ∧
      ((s.deliverResult l).1 = 0 → t.flag F.SEC_CAUSE_KEY_LOADED = true) ∧
      ((s.deliverResult l).1 = 0 → byteAt l 6 = 1 → t.flag F.SEC_KSLOT_LOADED (byteAt l 7) = true ∧
        t.rd F.SEC_KSLOT_PART (byteAt l 7) = byteAt l 8 ∧
        Assoc.find t.kslots (byteAt l 7) = some { id := s.deliveries, key := (s.deliverResult l).2.take 32 } ∧
        OnlyLogs [.SEC_CAUSE, .SEC_KSLOT] { s with out := t.out, kslots := t.kslots, deliveries := s.deliveries + 1 } t) := by
  refine ⟨_, execKeyDeliver_taken hup hses hok hrec l, s.out_keyDeliver x l, fun hres => ?_, State.flag_keyDeliver_good x,
    State.keyDeliver_slot x⟩
  rw [State.keyDeliver_refused x hres, State.out_keyAnswer]
  exact ⟨s.flag_keyAnswer_refused x hres, s.keyAnswer_onlyLogs x _⟩

/-! ### KEY_REVOKE (R252, R253) -/

theorem State.unclaimed_eq_false {s : State} (h : s.nv.opKeys ≠ []) : s.unclaimed = false := decide_eq_false h

/-- The two bytes that name slot `i`. -/
def slotBody (i : Fin 16) : List Byte := [1, BitVec.ofNat 8 i]

theorem byteAt_slotBody (i : Fin 16) : byteAt (slotBody i) 0 = 1 ∧ byteAt (slotBody i) 1 = i := by revert i; decide

theorem State.revokeResult_slot {s : State} {i : Fin 16} (hclaimed : s.nv.opKeys ≠ [])
    (hnone : s.pstate (s.rd F.SEC_KSLOT_PART i) ≠ 0) (hscrub : s.pstate (s.rd F.SEC_KSLOT_PART i) ≠ 4) :
    s.revokeResult (slotBody i) = 0 := by
  obtain ⟨htype, hplace⟩ := byteAt_slotBody i
  have hlen : (slotBody i).length = 2 := rfl
  simp [State.revokeResult, htype, hplace, hlen, i.isLt, hnone, hscrub, State.unclaimed_eq_false hclaimed]

/-! ### CLAIM (R244, R465) -/

/-- With room in its buffer a change record is one more. -/
theorem State.length_chg_logChange {s : State} (h : s.evr.chg.length < 64) (b i a : Nat) (old new : Word) (m : Nat) :
    (s.logChange b i a old new m).1.evr.chg.length = s.evr.chg.length + 1 := by
  have hevr : (s.originWords m).2.evr = s.evr := (congrArg State.evr (s.originWords_free m) :)
  rw [State.logChange, if_neg (Nat.not_le.2 h)]
  simp only [hevr]
  split <;> simp [State.requestFlush, State.wr, State.setReg]

/-- The module with one operator hash more, which OPKEY counts. -/
def State.withOpKey (s : State) (l : List Byte) : State :=
  ({ s with nv := { s.nv with opKeys := s.nv.opKeys ++ [l.take 48] } } : State).wr F.SEC_STATE_OPKEY 0 (s.nv.opKeys ++ [l.take 48]).length

/-! ### PEER_ADMIT (R252, R257) -/

/-- Entry `i` of the admissions with both words. -/
def State.peerAdmitted (s : State) (i : Nat) (m p : Word) : State := (s.setReg .SEC_ADMIT_MOD i m).setReg .SEC_ADMIT_PART i p

theorem State.peerAdmitted_effect (s : State) (i : Nat) (m p : Word) : (s.peerAdmitted i m p).reg .SEC_ADMIT_MOD i = m ∧
    (s.peerAdmitted i m p).reg .SEC_ADMIT_PART i = p ∧ OnlyRegs [.SEC_ADMIT_MOD, .SEC_ADMIT_PART] s (s.peerAdmitted i m p) := by
  refine ⟨?_, ?_, ((OnlyRegs.refl _ s).setReg i m (by decide)).setReg i p (by decide)⟩
  · rw [State.peerAdmitted, State.reg_setReg_ne _ _ _ _ _ _ (by decide), State.reg_setReg, if_pos ⟨rfl, rfl⟩]
  · rw [State.peerAdmitted, State.reg_setReg, if_pos ⟨rfl, rfl⟩]

/-- The body of an admission (log entry 47): entry, module word, partition word. -/
def admissionBody (i : Fin 64) (m p : Word) : List Byte := natLE 4 i ++ natLE 4 m.toNat ++ natLE 4 p.toNat

theorem leAt_admissionBody (i : Fin 64) (m p : Word) : leAt (admissionBody i m p) 0 4 = i ∧ leAt (admissionBody i m p) 4 4 = m.toNat ∧
    leAt (admissionBody i m p) 8 4 = p.toNat :=
  ⟨leNat_natLE (n := 4) (by omega), leNat_natLE (n := 4) m.isLt, leNat_natLE (n := 4) p.isLt⟩

/-! ### Debug (R261) -/

/-- The module without a debug challenge. -/
def State.spent (s : State) : State := { s with sec := { s.sec with challenge := none } }

/-- Debug is unlocked, and the cause raised. -/
def State.debugUnlocked (s : State) : State := (s.wr F.SEC_STATE_DEBUG 0 1).raise F.SEC_CAUSE_DEBUG_UNLOCK 0 2

theorem State.debugUnlocked_effect (s : State) : s.debugUnlocked.flag F.SEC_STATE_DEBUG = true ∧
    s.debugUnlocked.flag F.SEC_CAUSE_DEBUG_UNLOCK = true ∧ OnlyLogs [.SEC_STATE, .SEC_CAUSE] s s.debugUnlocked := by
  refine ⟨?_, State.flag_raise_same _ _ _ _ _ _ (by decide), ?_⟩
  · rw [State.debugUnlocked, State.flag_raise_ne _ _ _ _ _ _ _ _ (by decide), State.flag_wr_one _ _ _ (by decide)]
  · exact ((OnlyLogs.refl _ s).wr F.SEC_STATE_DEBUG 0 1 (by decide)).raise _ _ _ _ _ (by decide)

theorem OnlyLogs.sec_eq {rs : List Reg} {s t : State} (h : OnlyLogs rs s t) : t.sec = s.sec := (congrArg State.sec h.2 :)

/-! ### Objects taken in a session, out of recovery and with an identity -/

section Session
variable {s : State} {x : HmpHead} (hup : s.hmpUp = true) (hses : s.sessions.elem x.client = true) (hok : x.ok = true)
  (hrec : s.flag F.CFG_STAT_RECOVERY = false) (hid : s.rd F.SEC_STATE_ID ≠ 2)
include hup hses hok hrec hid

theorem execIdentityChain_taken : execIdentityChain x s = .next (s.hmpSay x 3 0 s.nv.cert) :=
  hmpObj_taken hup hses hok hrec hid _ _

/-- A nonce of 16 to 64 bytes gives a key that is bound to it. -/
theorem execAttest_issues (l : List Byte) (b : Bool) (h16 : 16 ≤ l.length) (h64 : l.length ≤ 64) :
    ∃ n k cert, execAttest x l b s = .next (({ s with free := n } : State).issued x k cert) ∧ k.nonce = l ∧ k.issued = s.up := by
  have hdraw : OnlyFree s ((s.draw 48).2.draw 16).2 := (s.freeBytes_free 48).trans (State.freeBytes_free _ 16)
  have hexec : ∃ k cert, execAttest x l b s = .next (((s.draw 48).2.draw 16).2.issued x k cert) ∧ k.nonce = l ∧
      k.issued = ((s.draw 48).2.draw 16).2.up :=
    ⟨_, _, (hmpObj_taken hup hses hok hrec hid _ _).trans (congrArg Host.Outcome.next (if_neg (by omega))), rfl, rfl⟩
  obtain ⟨k, cert, hnext, hnonce, hissued⟩ := hexec
  refine ⟨((s.draw 48).2.draw 16).2.free, k, cert, hnext.trans ?_, hnonce, hissued.trans (congrArg State.up hdraw :)⟩
  exact congrArg (fun u : State => Host.Outcome.next (u.issued x k cert)) hdraw

theorem execAttest_effect (l : List Byte) (b : Bool) (h16 : 16 ≤ l.length) (h64 : l.length ≤ 64) (haks : s.sec.aks.length ≤ 8) :
    ∃ t k, execAttest x l b s = .next t ∧ k ∈ t.sec.aks ∧ k.nonce = l ∧ k.issued = s.up ∧ t.sec.aks.length ≤ 8 ∧
      t.flag F.SEC_CAUSE_ATTEST = true ∧
      OnlyLogs [.SEC_CAUSE] { s with free := t.free, out := t.out, sec := { s.sec with aks := t.sec.aks } } t := by
  obtain ⟨n, k, cert, hnext, hnonce, hissued⟩ := execAttest_issues hup hses hok hrec hid l b h16 h64
  have hkept : ({ s with free := n } : State).keptAks.length < 8 := State.length_keptAks_lt haks
  refine ⟨_, k, hnext, ?_, hnonce, hissued, ?_, State.flag_issued _ _ _ _, s.issued_onlyLogs n x k cert⟩
  · rw [State.aks_issued]
    exact List.mem_append_right _ List.mem_cons_self
  · rw [State.aks_issued, List.length_append]
    exact hkept

theorem execAttest_malformed (l : List Byte) (b : Bool) (h : l.length < 16 ∨ 64 < l.length) :
    execAttest x l b s = .next (s.hmpSay x 4 2 []) :=
  (hmpObj_taken hup hses hok hrec hid _ _).trans (congrArg Host.Outcome.next (if_pos h))

theorem execKeyRevoke_refused {l : List Byte} (h : s.revokeResult l ≠ 0) :
    execKeyRevoke x l s = .next (s.keyAnswer x (s.revokeResult l)) :=
  (hmpObj_taken hup hses hok hrec hid _ _).trans (congrArg Host.Outcome.next (if_pos h))

/-- A revocation of a slot takes the key out of it. -/
theorem execKeyRevoke_slot {i : Fin 16} (h : s.revokeResult (slotBody i) = 0) :
    execKeyRevoke x (slotBody i) s = .next ((s.dropKey i).answer4 x 0) := by
  obtain ⟨htype, hplace⟩ := byteAt_slotBody i
  refine (hmpObj_taken hup hses hok hrec hid _ _).trans ?_
  simp only [h, htype, hplace, ne_eq, not_true_eq_false, if_false, if_true]
  rfl

theorem execKeyRevoke_malformed {l : List Byte} (h : l.length ≠ 2) : execKeyRevoke x l s = .next (s.keyAnswer x 1) := by
  have hres : s.revokeResult l = 1 := if_pos (.inl h)
  rw [execKeyRevoke_refused hup hses hok hrec hid (by rw [hres]; decide), hres]

theorem execClaim_refused {l : List Byte} (h : s.claimResult l ≠ 0) : execClaim x l s = .next (s.keyAnswer x (s.claimResult l)) :=
  (hmpObj_taken hup hses hok hrec hid _ _).trans (congrArg Host.Outcome.next (if_pos h))

/-- An accepted claim with room in the change log is logged and installs its hash. -/
theorem execClaim_good {l : List Byte} (h : s.claimResult l = 0) (hroom : s.evr.chg.length < 64) :
    ∃ u, execClaim x l s = .next ((u.withOpKey l).answer4 x 0) ∧ u.evr.chg.length = s.evr.chg.length + 1 ∧
      OnlyLogs [] { s with free := u.free } u := by
  obtain ⟨u, hu, hframe⟩ := State.logChange_of_room hroom 6 0 0x00090005 0 (BitVec.ofNat 32 (leAt l 0 4)) 0x80
  have hlen := State.length_chg_logChange hroom 6 0 0x00090005 0 (BitVec.ofNat 32 (leAt l 0 4)) 0x80
  rw [hu] at hlen
  refine ⟨u, (hmpObj_taken hup hses hok hrec hid _ _).trans ?_, hlen, hframe⟩
  simp only [h, hu, ne_eq, not_true_eq_false, if_false, Bool.not_true, Bool.false_eq_true]
  rfl

theorem execClaim_first {l : List Byte} (hkeys : s.nv.opKeys = []) (hl : l.length = 48) (hroom : s.evr.chg.length < 64) :
    ∃ t, execClaim x l s = .next t ∧ t.nv.opKeys = [l] ∧ t.rd F.SEC_STATE_OPKEY = 1 ∧ t.evr.chg.length = s.evr.chg.length + 1 ∧
      t.out = s.out ++ [.hmp x.client 0x8004 0 x.seq.toNat (natLE 4 0)] ∧ t.mem = s.mem ∧ t.store = s.store := by
  have hres : s.claimResult l = 0 := by simp [State.claimResult, State.unclaimed, hkeys, hl]
  obtain ⟨u, hnext, hlen, hframe⟩ := execClaim_good hup hses hok hrec hid hres hroom
  have hnv : u.nv = s.nv := (congrArg State.nv hframe.2 :)
  have hslots : u.nv.opKeys ++ [l.take 48] = [l] := by rw [hnv, hkeys, List.take_of_length_le hl.le, List.nil_append]
  refine ⟨_, hnext, hslots, ?_, hlen, congrArg (· ++ _) hframe.out_eq, (congrArg State.mem hframe.2 :),
    (congrArg State.store hframe.2 :)⟩
  refine (State.rd_wr_same _ _ _ _ (by decide)).trans ?_
  rw [hslots]
  rfl

/-- All four slots taken, no claim enters. -/
theorem execClaim_full {l : List Byte} (hkeys : s.nv.opKeys.length = 4) (hl : l.length = 48 ∨ l.length = 241) :
    execClaim x l s = .next (s.keyAnswer x 10) := by
  have hres : s.claimResult l = 10 := (if_neg (by omega)).trans (if_pos hkeys)
  rw [execClaim_refused hup hses hok hrec hid (by rw [hres]; decide), hres]

/-- Words without reserved bits for a live partition of a claimed module are written. -/
theorem execPeerAdmit_good {i : Fin 64} {m p : Word} (hclaimed : s.nv.opKeys ≠ [])
    (hm : m &&& ~~~(Reg.accMask .SEC_ADMIT_MOD .RW) = 0) (hp : p &&& ~~~(Reg.accMask .SEC_ADMIT_PART .RW) = 0)
    (hnone : s.pstate (i.val / 4) ≠ 0) (hscrub : s.pstate (i.val / 4) ≠ 4) :
    execPeerAdmit x (admissionBody i m p) s = .next ((s.peerAdmitted i m p).answer4 x 0) := by
  obtain ⟨hentry, hmod, hpart⟩ := leAt_admissionBody i m p
  have hlen : (admissionBody i m p).length = 12 := rfl
  have hform : ¬ ((admissionBody i m p).length ≠ 12 ∨ 64 ≤ i.val ∨ m &&& ~~~(Reg.accMask .SEC_ADMIT_MOD .RW) ≠ 0 ∨
      p &&& ~~~(Reg.accMask .SEC_ADMIT_PART .RW) ≠ 0) := by simp [hlen, i.isLt, hm, hp]
  have hpartition : ¬ (s.pstate (i.val / 4) = 0 ∨ s.pstate (i.val / 4) = 4) := not_or.2 ⟨hnone, hscrub⟩
  refine (hmpObj_taken hup hses hok hrec hid _ _).trans ?_
  simp only [hentry, hmod, hpart, BitVec.ofNat_toNat, BitVec.setWidth_eq, if_neg hform, if_neg hpartition,
    State.unclaimed_eq_false hclaimed]
  rfl

/-- A challenge of 32 drawn bytes is held, with its time, and sent. -/
theorem execDebugChallenge_effect : ∃ t c, execDebugChallenge x s = .next t ∧ c.length = 32 ∧
    t = { s with
      sec := { s.sec with challenge := some (c, s.up) }, free := t.free, out := s.out ++ [.hmp x.client 0x8003 0 x.seq.toNat c] } := by
  have hdraw : (s.draw 32).2 = { s with free := (s.draw 32).2.free } := s.freeBytes_free 32
  refine ⟨_, (s.draw 32).1, hmpObj_taken hup hses hok hrec hid _ _, s.length_freeBytes 32, ?_⟩
  simp only
  rw [hdraw]
  rfl

theorem execDebugUnlock_refused {l : List Byte} (h : s.unlockResult l ≠ 0) :
    execDebugUnlock x l s = .next (s.spent.keyAnswer x (s.unlockResult l)) :=
  (hmpObj_taken hup hses hok hrec hid _ _).trans (congrArg Host.Outcome.next (if_pos h))

theorem execDebugUnlock_good {l : List Byte} (h : s.unlockResult l = 0) :
    execDebugUnlock x l s = .next (s.spent.debugUnlocked.answer4 x 0) :=
  (hmpObj_taken hup hses hok hrec hid _ _).trans (congrArg Host.Outcome.next (if_neg (not_not_intro h)))

/-- An attempt spends the challenge, and unlocks exactly with result 0. -/
theorem execDebugUnlock_effect (l : List Byte) : ∃ t, execDebugUnlock x l s = .next t ∧ t.sec.challenge = none ∧
    (s.unlockResult l ≠ 0 → t.flag F.SEC_STATE_DEBUG = s.flag F.SEC_STATE_DEBUG ∧ t.flag F.SEC_CAUSE_KEY_REFUSED = true) ∧
    (s.unlockResult l = 0 → t.flag F.SEC_STATE_DEBUG = true ∧ t.flag F.SEC_CAUSE_DEBUG_UNLOCK = true) ∧
    OnlyLogs [.SEC_STATE, .SEC_CAUSE] { s with out := t.out, sec := { s.sec with challenge := none } } t := by
  by_cases h : s.unlockResult l = 0
  · obtain ⟨hdebug, hcause, hframe⟩ := s.spent.debugUnlocked_effect
    refine ⟨_, execDebugUnlock_good hup hses hok hrec hid h, congrArg Sec.challenge hframe.sec_eq, absurd h,
      fun _ => ⟨hdebug, hcause⟩, ?_⟩
    exact hframe.answer4 x 0
  · have hframe := s.spent.keyAnswer_onlyLogs x (s.unlockResult l)
    refine ⟨_, execDebugUnlock_refused hup hses hok hrec hid h, congrArg Sec.challenge hframe.sec_eq,
      fun _ => ⟨State.flag_congr (hframe.1 _ _ (by decide)), s.spent.flag_keyAnswer_refused x h⟩, fun e => absurd e h, ?_⟩
    rw [State.out_keyAnswer]
    exact hframe.mono (by decide)

end Session

/-! ### The statement -/

/-- Settles O35: each object request is taken or answered by the checks of its head, and its effect is what the result of its own
checks writes; a refusal is one raised cause. -/
theorem attestationKeysClaimsAndDebug : Obligations.AttestationKeysClaimsAndDebug := by
  unfold Obligations.AttestationKeysClaimsAndDebug
  refine ⟨?chain, ?barred, ?nonce, ?attest, ?expiry, ?deliver, ?revoke, ?revokeForm, ?claim, ?claimFull, ?admission, ?challenge, ?unlock⟩
  case chain => exact fun x s hup hses hok hrec hid => execIdentityChain_taken hup hses hok hrec hid
  case barred => exact fun x s hup hses hok h => execIdentityChain_barred hup hses hok h
  case nonce => exact fun x l b s hup hses hok hrec hid h => execAttest_malformed hup hses hok hrec hid l b h
  case attest =>
    exact fun x l b s hup hses hok hrec hid h16 h64 haks => execAttest_effect hup hses hok hrec hid l b h16 h64 haks
  case expiry => exact fun i s => rfl
  case deliver => exact fun x l s hup hses hok hrec => execKeyDeliver_effect hup hses hok hrec l
  case revoke =>
    intro x i s hup hses hok hrec hid hclaimed _ hnone hscrub
    obtain ⟨hloaded, hkey, hframe⟩ := s.dropKey_effect i
    exact ⟨_, execKeyRevoke_slot hup hses hok hrec hid (State.revokeResult_slot hclaimed hnone hscrub), hloaded, hkey,
      hframe.answered x 0⟩
  case revokeForm =>
    exact fun x l s hup hses hok hrec hid hl => ⟨_, execKeyRevoke_malformed hup hses hok hrec hid hl,
      s.flag_keyAnswer_refused x (by decide), s.keyAnswer_onlyLogs x 1⟩
  case claim => exact fun x l s hup hses hok hrec hid hkeys hl hroom => execClaim_first hup hses hok hrec hid hkeys hl hroom
  case claimFull =>
    exact fun x l s hup hses hok hrec hid hkeys hl => ⟨_, execClaim_full hup hses hok hrec hid hkeys hl,
      s.flag_keyAnswer_refused x (by decide), s.keyAnswer_onlyLogs x 10⟩
  case admission =>
    intro x i m p s hup hses hok hrec hid hclaimed hm hp hnone hscrub
    obtain ⟨hmod, hpart, hframe⟩ := s.peerAdmitted_effect i m p
    exact ⟨_, execPeerAdmit_good hup hses hok hrec hid hclaimed hm hp hnone hscrub, hmod, hpart, hframe.answered x 0⟩
  case challenge => exact fun x s hup hses hok hrec hid => execDebugChallenge_effect hup hses hok hrec hid
  case unlock => exact fun x l s hup hses hok hrec hid => execDebugUnlock_effect hup hses hok hrec hid l

end Sys2Proof.Machine
end

section
/-! PROOFS.  Gears, the moves between them and the fast limiter (R269, R272, R274, R278), and the statement on them. -/

namespace Sys2Proof.Machine

/-! ### Frames with another power state -/

/-- The same power state on both sides keeps a frame of registers. -/
theorem OnlyRegs.withPwr {rs : List Reg} {s t : State} (h : OnlyRegs rs s t) (p : Pwr) :
    OnlyRegs rs { s with pwr := p } { t with pwr := p } := ⟨h.1, congrArg (fun u : State => { u with pwr := p }) h.2⟩

/-- The same power state on both sides keeps a frame of records. -/
theorem OnlyLogs.withPwr {rs : List Reg} {s t : State} (h : OnlyLogs rs s t) (p : Pwr) :
    OnlyLogs rs { s with pwr := p } { t with pwr := p } := ⟨h.1, congrArg (fun u : State => { u with pwr := p }) h.2⟩

/-! ### The level and the duty (R273) -/

/-- The level is made of the ceiling, the limiter hold and the highest gear. -/
theorem State.level_congr {s t : State} (hceil : t.rd F.PWR_GEAR_STAT_CEIL = s.rd F.PWR_GEAR_STAT_CEIL)
    (hhold : t.pwr.hold = s.pwr.hold) (hmax : t.pwr.maxGear = s.pwr.maxGear) : t.level = s.level := by
  simp only [State.level, hceil, hhold, hmax]

theorem State.level_wr (s : State) {f : Fld} (i v : Nat) (h : f.apart F.PWR_GEAR_STAT_CEIL) : (s.wr f i v).level = s.level :=
  State.level_congr (State.rd_wr_ne _ _ _ _ _ _ h) rfl rfl

/-- The ceiling has five bits, so the level has. -/
theorem State.level_lt (s : State) : s.level < 32 := by
  have hceil : s.rd F.PWR_GEAR_STAT_CEIL < 32 := fieldOf_lt _ F.PWR_GEAR_STAT_CEIL
  unfold State.level
  cases s.pwr.hold with
  | none => exact (min_le_left _ _).trans_lt hceil
  | some h => exact ((min_le_left _ _).trans (min_le_left _ _)).trans_lt hceil

/-- The duty is made of the level and of core power, whatever VCORE's course and the limiter's records. -/
theorem State.duty_congr {s t : State} (hlevel : t.level = s.level)
    (hpwr : t.pwr = { s.pwr with mv := t.pwr.mv, goal := t.pwr.goal, limRec := t.pwr.limRec }) : t.duty = s.duty := by
  rw [State.duty, hlevel, hpwr]
  rfl

theorem State.duty_wr (s : State) {f : Fld} (i v : Nat) (h : f.apart F.PWR_GEAR_STAT_CEIL) : (s.wr f i v).duty = s.duty :=
  State.duty_congr (s.level_wr i v h) rfl

theorem dutyOf_le (l : Nat) : dutyOf l ≤ 8 := by
  unfold dutyOf
  split <;> omega

theorem State.duty_le (s : State) : s.duty ≤ 8 := by
  simp only [State.duty]
  split_ifs with hoff huntested hforced
  · exact Nat.zero_le 8
  · exact le_rfl
  · exact (min_le_right 4 _).trans (dutyOf_le _)
  · exact dutyOf_le _

/-- The forced duty is at most 4/8 once the clusters are tested. -/
theorem State.duty_le_of_forced {s : State} (hforced : s.pwr.forced = true) (htested : s.pwr.tested = true) : s.duty ≤ 4 := by
  simp only [State.duty, htested, hforced, Bool.not_true, Bool.false_eq_true, if_false, if_true]
  split_ifs with hoff
  · exact Nat.zero_le 4
  · exact min_le_left 4 _

theorem State.rd_wr_duty (s : State) {v : Nat} (h : v ≤ 8) : (s.wr F.PWR_GEAR_STAT_DUTY 0 v).rd F.PWR_GEAR_STAT_DUTY = v :=
  (State.rd_wr_same _ _ _ _ (by decide)).trans (Nat.mod_eq_of_lt (h.trans_lt (by decide)))

/-! ### What the status shows -/

/-- A field beside LEVEL and HOLD reads as before. -/
theorem State.rd_relevel (s : State) {g : Fld} (i : Nat)
    (h : F.PWR_GEAR_STAT_LEVEL.apart g ∧ F.PWR_GEAR_STAT_HOLD.apart g) : s.relevel.rd g i = s.rd g i := by
  rw [State.relevel, State.rd_wr_ne _ _ _ _ _ _ h.2, State.rd_wr_ne _ _ _ _ _ _ h.1]

theorem State.rd_relevel_level (s : State) : s.relevel.rd F.PWR_GEAR_STAT_LEVEL = s.level := by
  rw [State.relevel, State.rd_wr_ne _ _ _ _ _ _ (by decide), State.rd_wr_same _ _ _ _ (by decide)]
  exact Nat.mod_eq_of_lt s.level_lt

theorem OnlyRegs.relevel {rs : List Reg} {s u : State} (h : OnlyRegs rs s u) (hr : .PWR_GEAR_STAT ∈ rs) : OnlyRegs rs s u.relevel :=
  (h.wr _ _ _ hr).wr _ _ _ hr

/-- LEVEL, HOLD and DUTY follow what they are made of. -/
def State.shown (s : State) : State := s.relevel.wr F.PWR_GEAR_STAT_DUTY 0 s.relevel.duty

theorem State.pwr_shown (s : State) : s.shown.pwr = s.pwr := rfl

theorem State.level_relevel (s : State) : s.relevel.level = s.level := State.level_congr (s.rd_relevel 0 (by decide)) rfl rfl

theorem State.duty_relevel (s : State) : s.relevel.duty = s.duty := State.duty_congr s.level_relevel rfl

theorem State.level_shown (s : State) : s.shown.level = s.level := (s.relevel.level_wr _ _ (by decide)).trans s.level_relevel

theorem State.duty_shown (s : State) : s.shown.duty = s.duty := State.duty_congr s.level_shown rfl

theorem State.rd_shown (s : State) {g : Fld} (i : Nat) (h : F.PWR_GEAR_STAT_LEVEL.apart g ∧ F.PWR_GEAR_STAT_HOLD.apart g)
    (hd : F.PWR_GEAR_STAT_DUTY.apart g) : s.shown.rd g i = s.rd g i :=
  (State.rd_wr_ne _ _ _ _ _ _ hd).trans (s.rd_relevel i h)

theorem State.rd_shown_level (s : State) : s.shown.rd F.PWR_GEAR_STAT_LEVEL = s.level :=
  (State.rd_wr_ne _ _ _ _ _ _ (by decide)).trans s.rd_relevel_level

theorem State.rd_shown_duty (s : State) : s.shown.rd F.PWR_GEAR_STAT_DUTY = s.duty :=
  (s.relevel.rd_wr_duty s.relevel.duty_le).trans s.duty_relevel

theorem OnlyRegs.shown {rs : List Reg} {s u : State} (h : OnlyRegs rs s u) (hr : .PWR_GEAR_STAT ∈ rs) : OnlyRegs rs s u.shown :=
  (h.relevel hr).wr _ _ _ hr

/-! ### Moving between gears (R274) -/

/-- A field beside GEAR and SLEW reads as before. -/
theorem State.rd_retarget (s : State) (mv : Nat) {g : Fld} (i : Nat)
    (h : F.PWR_GEAR_STAT_GEAR.apart g ∧ F.PWR_GEAR_STAT_SLEW.apart g) : (s.retarget mv).rd g i = s.rd g i :=
  (State.rd_wr_ne _ _ _ _ _ _ h.2).trans (State.rd_wr_ne _ _ _ _ _ _ h.1)

theorem State.flag_retarget (s : State) (mv : Nat) {g : Fld} (i : Nat)
    (h : F.PWR_GEAR_STAT_GEAR.apart g ∧ F.PWR_GEAR_STAT_SLEW.apart g) : (s.retarget mv).flag g i = s.flag g i := by
  rw [State.flag, State.flag, s.rd_retarget mv i h]

/-- A slew under way goes on. -/
theorem State.slew_retarget {s : State} (mv : Nat) (h : s.flag F.PWR_GEAR_STAT_SLEW = true) :
    (s.retarget mv).flag F.PWR_GEAR_STAT_SLEW = true := by
  simp only [State.retarget, h, Bool.not_true, Bool.and_false, Bool.false_eq_true, if_false]
  exact State.flag_wr_one _ _ _ (by decide)

theorem State.retarget_frame (s : State) (mv : Nat) :
    OnlyRegs [.PWR_GEAR_STAT] { s with pwr := { s.pwr with mv := mv, goal := gearOf s.level } } (s.retarget mv) :=
  ((OnlyRegs.refl _ _).wr _ _ _ (by decide)).wr _ _ _ (by decide)

/-- Where no slew is under way and the gear is another, the status is shown and VCORE starts toward the level's gear. -/
theorem execGearChange_starts {s : State} {mv : BitVec 12} (hcore : s.pwr.vcore = true) (htested : s.pwr.tested = true)
    (hfull : s.pwr.retention = false) (hstill : s.flag F.PWR_GEAR_STAT_SLEW = false) (hmv : mv.toNat = s.pwr.mv)
    (hgear : gearOf s.level ≠ s.pwr.goal) : execGearChange mv s = .next (s.shown.retarget s.pwr.mv) := by
  have hslew : s.shown.flag F.PWR_GEAR_STAT_SLEW = false := by rw [State.flag, s.rd_shown 0 (by decide) (by decide)]; exact hstill
  have hpath : s.shown.onPath s.pwr.mv = true := by simp [State.onPath, hslew, s.pwr_shown]
  have hswitch : ¬ s.shown.switching s.pwr.mv = true := by simp [State.switching, hslew]
  have hgo : gearOf s.shown.level ≠ s.shown.pwr.goal := by rwa [s.level_shown]
  rw [execGearChange, hmv]
  exact (if_pos ⟨hcore, htested, hfull, hpath, hgo⟩).trans (congrArg Host.Outcome.next (if_neg hswitch))

theorem execGearChange_effect {s : State} {mv : BitVec 12} (hcore : s.pwr.vcore = true) (htested : s.pwr.tested = true)
    (hfull : s.pwr.retention = false) (hstill : s.flag F.PWR_GEAR_STAT_SLEW = false) (hmv : mv.toNat = s.pwr.mv)
    (hgear : gearOf s.level ≠ s.pwr.goal) : ∃ t, execGearChange mv s = .next t ∧ t.pwr.goal = gearOf s.level ∧
      t.pwr.mv = s.pwr.mv ∧ t.rd F.PWR_GEAR_STAT_DUTY = s.duty ∧ t.rd F.PWR_GEAR_STAT_LEVEL = s.level ∧
      OnlyRegs [.PWR_GEAR_STAT] { s with pwr := t.pwr } t := by
  refine ⟨_, execGearChange_starts hcore htested hfull hstill hmv hgear, congrArg gearOf s.level_shown, rfl,
    (State.rd_retarget _ _ _ (by decide)).trans s.rd_shown_duty, (State.rd_retarget _ _ _ (by decide)).trans s.rd_shown_level, ?_⟩
  exact (((OnlyRegs.refl [.PWR_GEAR_STAT] s).shown (by decide)).withPwr _).trans (s.shown.retarget_frame s.pwr.mv)

/-- The two switches a slew can stop at: body bias and SRAM assist. -/
def gearSwitches : List Fld := [F.PWR_GEAR_STAT_FBB, F.PWR_GEAR_STAT_ASSIST]

theorem gearSwitches_place : ∀ f ∈ gearSwitches, f.reg = .PWR_GEAR_STAT ∧ (f.lo ≤ f.hi ∧ f.hi < 32) ∧
    f.apart F.PWR_GEAR_STAT_CEIL ∧ f.apart F.PWR_GEAR_STAT_SLEW ∧ F.PWR_GEAR_STAT_GEAR.apart f ∧ F.PWR_GEAR_STAT_SLEW.apart f := by
  decide

/-- A switch is made, and the slew goes on from where it stood. -/
def State.switched (s : State) (f : Fld) (on : Bool) (mv : Nat) : State := (s.wr f 0 (if on then 1 else 0)).retarget mv

theorem State.switched_effect {s : State} {f : Fld} (hf : f ∈ gearSwitches) (on : Bool) (mv : Nat)
    (hslew : s.flag F.PWR_GEAR_STAT_SLEW = true) : (s.switched f on mv).pwr.goal = gearOf s.level ∧
      (s.switched f on mv).flag F.PWR_GEAR_STAT_SLEW = true ∧ (s.switched f on mv).flag f = on ∧
      OnlyRegs [.PWR_GEAR_STAT] { s with pwr := (s.switched f on mv).pwr } (s.switched f on mv) := by
  obtain ⟨hreg, hbits, hceil, hside, hgear, hslewing⟩ := gearSwitches_place f hf
  have hon : (s.wr f 0 (if on then 1 else 0)).flag f = on := by
    cases on with
    | true => exact State.flag_wr_one _ _ _ hbits
    | false => exact State.flag_wr_zero _ _ _ hbits
  refine ⟨congrArg gearOf (s.level_wr _ _ hceil), State.slew_retarget _ ?_, ?_, ?_⟩
  · rw [State.flag_wr_ne _ _ _ _ _ _ hside, hslew]
  · rw [State.switched, State.flag_retarget _ _ _ ⟨hgear, hslewing⟩, hon]
  · exact OnlyRegs.trans ((OnlyRegs.refl _ _).wr f _ _ (by simp [hreg])) (State.retarget_frame _ mv)

theorem execGearSwitchDone_bias {s : State} (hslew : s.flag F.PWR_GEAR_STAT_SLEW = true)
    (hstop : (s.nextStop s.pwr.mv s.pwr.goal).2 = some true) : execGearSwitchDone s =
      .next (s.switched F.PWR_GEAR_STAT_FBB (wantsBias s.pwr.goal) (s.nextStop s.pwr.mv s.pwr.goal).1) := by
  simp only [execGearSwitchDone, hslew, hstop, Bool.true_eq_false, if_false]
  rfl

theorem execGearSwitchDone_assist {s : State} (hslew : s.flag F.PWR_GEAR_STAT_SLEW = true)
    (hstop : (s.nextStop s.pwr.mv s.pwr.goal).2 = some false) : execGearSwitchDone s =
      .next (s.switched F.PWR_GEAR_STAT_ASSIST (wantsAssist s.pwr.goal) (s.nextStop s.pwr.mv s.pwr.goal).1) := by
  simp only [execGearSwitchDone, hslew, hstop, Bool.true_eq_false, if_false]
  rfl

theorem execGearSwitchDone_effect {s : State} {b : Bool} (hslew : s.flag F.PWR_GEAR_STAT_SLEW = true)
    (hstop : (s.nextStop s.pwr.mv s.pwr.goal).2 = some b) : ∃ t, execGearSwitchDone s = .next t ∧ t.pwr.goal = gearOf s.level ∧
      t.flag F.PWR_GEAR_STAT_SLEW = true ∧ (b = true → t.flag F.PWR_GEAR_STAT_FBB = wantsBias s.pwr.goal) ∧
      (b = false → t.flag F.PWR_GEAR_STAT_ASSIST = wantsAssist s.pwr.goal) ∧
      OnlyRegs [.PWR_GEAR_STAT] { s with pwr := t.pwr } t := by
  cases b with
  | true =>
    obtain ⟨hgoal, hgoes, hbias, hframe⟩ := State.switched_effect (f := F.PWR_GEAR_STAT_FBB) (by decide) (wantsBias s.pwr.goal)
      (s.nextStop s.pwr.mv s.pwr.goal).1 hslew
    exact ⟨_, execGearSwitchDone_bias hslew hstop, hgoal, hgoes, fun _ => hbias, nofun, hframe⟩
  | false =>
    obtain ⟨hgoal, hgoes, hassist, hframe⟩ := State.switched_effect (f := F.PWR_GEAR_STAT_ASSIST) (by decide)
      (wantsAssist s.pwr.goal) (s.nextStop s.pwr.mv s.pwr.goal).1 hslew
    exact ⟨_, execGearSwitchDone_assist hslew hstop, hgoal, hgoes, nofun, fun _ => hassist, hframe⟩

/-- Where no switch waits, the slew ends at the voltage of the goal's gear. -/
theorem State.nextStop_of_none {s : State} {mv g : Nat} (h : (s.nextStop mv g).2 = none) : (s.nextStop mv g).1 = mvOf g := by
  simp only [State.nextStop] at h ⊢
  split_ifs at h ⊢ with hboth hup hbias hassist
  · rfl

theorem execGearSettled_effect {s : State} (hslew : s.flag F.PWR_GEAR_STAT_SLEW = true)
    (hstop : (s.nextStop s.pwr.mv s.pwr.goal).2 = none) (hgoal : s.pwr.goal < 16) :
    ∃ t, execGearSettled s = .next t ∧ t.flag F.PWR_GEAR_STAT_SLEW = false ∧ t.rd F.PWR_GEAR_STAT_GEAR = s.pwr.goal ∧
      t.pwr.mv = 550 + 20 * s.pwr.goal ∧ OnlyRegs [.PWR_GEAR_STAT] { s with pwr := { s.pwr with mv := t.pwr.mv } } t := by
  refine ⟨_, if_pos ⟨hslew, hstop⟩, State.flag_wr_zero _ _ _ (by decide), ?_, State.nextStop_of_none hstop,
    ((OnlyRegs.refl _ _).wr _ _ _ (by decide)).wr _ _ _ (by decide)⟩
  rw [State.rd_wr_ne _ _ _ _ _ _ (by decide), State.rd_wr_same _ _ _ _ (by decide)]
  exact Nat.mod_eq_of_lt hgoal

/-! ### The fast limiter (R278) -/

/-- The hold STEP levels below, and the forced duty. -/
def State.heldDown (s : State) : State :=
  { s with pwr := { s.pwr with hold := some (s.level - max 1 (s.rd F.PWR_LIM_CFG_STEP)), forced := true } }

/-- The limiter acts: the hold and the duty are in force and shown, the event is counted and raised. -/
def State.limited (s : State) : State := (s.heldDown.shown.count F.PWR_LIM_CNT_COUNT 0).raiseBit F.PWR_CAUSE_LIMIT 0

theorem State.rd_raiseBit (s : State) (f g : Fld) (i j : Nat) (h : g.reg ≠ .IRQ_TRAY_PEND) :
    (s.raiseBit f i).rd g j = (s.wr f i 1).rd g j := State.rd_congr (State.reg_raiseBit _ _ _ _ _ h)

theorem State.limited_frame (s : State) : OnlyLogs [.PWR_GEAR_STAT, .PWR_LIM_CNT, .PWR_CAUSE] s.heldDown s.limited :=
  (((OnlyRegs.refl _ s.heldDown).shown (by decide)).onlyLogs.wr _ _ _ (by decide)).raiseBit _ _ (by decide)

theorem State.pwr_limited (s : State) : s.limited.pwr = s.heldDown.pwr := (congrArg State.pwr s.limited_frame.2 :)

/-- Counting and raising leave the gear status as it is shown. -/
theorem State.rd_limited_gear (s : State) {g : Fld} (h : g.reg = .PWR_GEAR_STAT) : s.limited.rd g = s.heldDown.shown.rd g := by
  rw [State.limited, State.rd_raiseBit _ _ _ _ _ (by rw [h]; decide), State.rd_wr_ne _ _ _ _ _ _ (.inl (by rw [h]; decide)),
    State.count, State.rd_wr_ne _ _ _ _ _ _ (.inl (by rw [h]; decide))]

theorem State.duty_limited (s : State) : s.limited.duty = s.heldDown.duty := by
  have hceil : s.limited.rd F.PWR_GEAR_STAT_CEIL = s.heldDown.rd F.PWR_GEAR_STAT_CEIL :=
    (s.rd_limited_gear rfl).trans (s.heldDown.rd_shown 0 (by decide) (by decide))
  exact State.duty_congr (State.level_congr hceil (by rw [s.pwr_limited]) (by rw [s.pwr_limited])) (by rw [s.pwr_limited])

theorem State.rd_limited_duty (s : State) : s.limited.rd F.PWR_GEAR_STAT_DUTY = s.limited.duty := by
  rw [s.rd_limited_gear rfl, s.heldDown.rd_shown_duty, s.duty_limited]

theorem State.rd_limited_count (s : State) :
    s.limited.rd F.PWR_LIM_CNT_COUNT = satInc 32 (s.rd F.PWR_LIM_CNT_COUNT) := by
  have hcount : s.heldDown.shown.rd F.PWR_LIM_CNT_COUNT = s.rd F.PWR_LIM_CNT_COUNT :=
    s.heldDown.rd_shown 0 (by decide) (by decide)
  rw [State.limited, State.rd_raiseBit _ _ _ _ _ (by decide), State.rd_wr_ne _ _ _ _ _ _ (by decide), State.count,
    State.rd_wr_same _ _ _ _ (by decide), hcount]
  exact Nat.mod_eq_of_lt (satInc_lt 32 _)

theorem State.flag_limited (s : State) : s.limited.flag F.PWR_CAUSE_LIMIT = true := by
  rw [State.limited, State.flag_raiseBit _ _ _ _ _ (by decide), State.flag_wr_one _ _ _ (by decide)]

/-- The limiter acts, and at most its record with the record's time comes beside. -/
theorem execLimiterTrigger_acts {s : State} (hcore : s.pwr.vcore = true) : ∃ t r, execLimiterTrigger s = .next t ∧
    OnlyLogs [] { s.limited with pwr := { s.limited.pwr with limRec := r } } t := by
  have hacts : execLimiterTrigger s = .next s.limited ∨ execLimiterTrigger s = .next (({ s.limited with
      pwr := { s.limited.pwr with limRec := some s.limited.up } }).record 2 0 F.PWR_CAUSE_LIMIT.lo 0 1 [wd s.limited.level]) := by
    rw [execLimiterTrigger, if_neg (by simp [hcore])]
    exact ite_eq_or_eq _ _ _
  rcases hacts with h | h
  · exact ⟨_, s.limited.pwr.limRec, h, OnlyLogs.refl _ _⟩
  · exact ⟨_, some s.limited.up, h, (OnlyLogs.refl _ _).record _ _ _ _ _ _ _⟩

theorem execLimiterTrigger_effect {s : State} (hcore : s.pwr.vcore = true) : ∃ t, execLimiterTrigger s = .next t ∧
    t.pwr.hold = some (s.level - max 1 (s.rd F.PWR_LIM_CFG_STEP)) ∧ t.pwr.forced = true ∧ t.rd F.PWR_GEAR_STAT_DUTY = t.duty ∧
    (t.pwr.tested = true → t.duty ≤ 4) ∧ t.flag F.PWR_CAUSE_LIMIT = true ∧
    t.rd F.PWR_LIM_CNT_COUNT = satInc 32 (s.rd F.PWR_LIM_CNT_COUNT) ∧
    OnlyLogs [.PWR_GEAR_STAT, .PWR_LIM_CNT, .PWR_CAUSE] { s with pwr := t.pwr } t := by
  obtain ⟨t, r, hexec, hlogs⟩ := execLimiterTrigger_acts hcore
  obtain ⟨hregs, hrest⟩ := hlogs
  have hpwr : t.pwr = { s.limited.pwr with limRec := r } := (congrArg State.pwr hrest :)
  have hrd {g : Fld} (hg : g.reg ∉ recRegs) : t.rd g = s.limited.rd g := SameRegs.rd hregs hg 0
  have hforced : t.pwr.forced = true := by rw [hpwr, s.pwr_limited]; rfl
  have hduty : t.duty = s.limited.duty :=
    State.duty_congr (State.level_congr (hrd (by decide)) (by rw [hpwr]) (by rw [hpwr])) (by rw [hpwr])
  refine ⟨t, hexec, by rw [hpwr, s.pwr_limited]; rfl, hforced, by rw [hrd (by decide), hduty, s.rd_limited_duty],
    State.duty_le_of_forced hforced, (SameRegs.flag hregs (by decide) 0).trans s.flag_limited,
    (hrd (by decide)).trans s.rd_limited_count, ?_⟩
  rw [hpwr]
  exact (s.limited_frame.withPwr _).trans (OnlyLogs.mono ⟨hregs, hrest⟩ (List.nil_subset _))

theorem execLimiterRelease_effect {s : State} (hforced : s.pwr.forced = true) (hstill : s.flag F.PWR_GEAR_STAT_SLEW = false) :
    ∃ t, execLimiterRelease s = .next t ∧ t.pwr.forced = false ∧ t.rd F.PWR_GEAR_STAT_DUTY = t.duty ∧
      OnlyRegs [.PWR_GEAR_STAT] { s with pwr := { s.pwr with forced := false } } t :=
  ⟨_, if_pos ⟨hforced, hstill⟩, rfl, (State.rd_wr_duty _ (State.duty_le _)).trans (State.duty_wr _ _ _ (by decide)).symm,
    (OnlyRegs.refl _ _).wr _ _ _ (by decide)⟩

theorem execLimiterHoldStep_effect {s : State} {h : Nat} (hhold : s.pwr.hold = some h) : ∃ t, execLimiterHoldStep s = .next t ∧
    (t.pwr.hold = if min (s.rd F.PWR_GEAR_STAT_CEIL) (s.pwr.maxGear + 7) ≤ h + 1 then none else some (h + 1)) ∧
    OnlyRegs [.PWR_GEAR_STAT] { s with pwr := { s.pwr with hold := t.pwr.hold } } t := by
  rw [execLimiterHoldStep, hhold]
  exact ⟨_, rfl, rfl, (OnlyRegs.refl _ _).relevel (by decide)⟩

/-! ### The statement -/

/-- Settles O4: a move of the gear writes the status alone, and the limiter's hold, duty and count are one state that at most
a record follows. -/
theorem gearsAndTheFastLimiter : Obligations.GearsAndTheFastLimiter := by
  unfold Obligations.GearsAndTheFastLimiter
  refine ⟨?change, ?switch, ?settled, ?trigger, ?release, ?holdStep⟩
  case change =>
    exact fun mv s hcore htested hfull hstill hmv hgear => execGearChange_effect hcore htested hfull hstill hmv hgear
  case switch => exact fun s b hslew hstop => execGearSwitchDone_effect hslew hstop
  case settled => exact fun s hslew hstop hgoal => execGearSettled_effect hslew hstop hgoal
  case trigger => exact fun s hcore => execLimiterTrigger_effect hcore
  case release => exact fun s hforced hstill => execLimiterRelease_effect hforced hstill
  case holdStep => exact fun s h hhold => execLimiterHoldStep_effect hhold

end Sys2Proof.Machine
end

section
/-! PROOFS.  Cadence windows, input power and its cap, and the junction temperature (R271, R276, R277, R279), and the statement on
them. -/

namespace Sys2Proof.Machine

/-! ### Cadence (R271) -/

/-- Rounding uses at most a free value. -/
theorem State.roundNat_free (s : State) (w : Nat) (v : Rat) : OnlyFree s (s.roundNat w v).2 := by
  simp only [State.roundNat, State.roundOff]
  split <;> rfl

theorem foldl_min_le {l : List Nat} {x : Nat} (hx : x ∈ l) (a : Nat) : l.foldl min a ≤ x :=
  foldl_of_mem (· ≤ x) min (fun _ _ h => (min_le_left _ _).trans h) (fun _ => min_le_right _ _) l a hx

/-- The rates of a window that count, by cluster. -/
def State.tickingRates (s : State) (rates : Vector (BitVec 16) 68) : List (Nat × Nat) :=
  ((rates.toList.map BitVec.toNat).zipIdx.map fun (x : Nat × Nat) => (x.2, x.1)).filter fun (x : Nat × Nat) => s.ticking x.1

/-- The rate of every ticking cluster counts. -/
theorem State.mem_tickingRates {s : State} {p : Fin 68} (rates : Vector (BitVec 16) 68) (h : s.ticking p = true) :
    (p.val, rates[p].toNat) ∈ s.tickingRates rates := by
  refine List.mem_filter.2 ⟨List.mem_map.2 ⟨(rates[p].toNat, p.val), ?_, rfl⟩, h⟩
  rw [List.mem_zipIdx_iff_getElem?]
  simp

theorem execCadenceWindow_off (rates : Vector (BitVec 16) 68) {s : State} (hcore : s.pwr.vcore = false) :
    ∃ t, execCadenceWindow rates s = .next t ∧ t.rd F.PWR_CADENCE_MIN = 0 ∧ t.rd F.PWR_CADENCE_MEAN = 0 ∧
      OnlyRegs [.PWR_CADENCE] { s with pwr := { s.pwr with rates := [] } } t := by
  refine ⟨_, if_pos (by simp [hcore]), ?_, State.rd_wr_same _ _ _ _ (by decide),
    ((OnlyRegs.refl _ _).wr _ _ _ (by decide)).wr _ _ _ (by decide)⟩
  rw [State.rd_wr_ne _ _ _ _ _ _ (by decide), State.rd_wr_same _ _ _ _ (by decide), Nat.zero_mod]

/-- With core power MIN takes the least of the rates that count, and MEAN a rounded number. -/
theorem execCadenceWindow_counts (rates : Vector (BitVec 16) 68) {s : State} (hcore : s.pwr.vcore = true)
    (hfull : s.pwr.retention = false) : ∃ u mean a l, OnlyFree s u ∧ execCadenceWindow rates s =
      .next ((({ u with pwr := { u.pwr with rates := l } }).wr F.PWR_CADENCE_MIN 0
        (((s.tickingRates rates).map Prod.snd).foldl min a)).wr F.PWR_CADENCE_MEAN 0 mean) := by
  refine ⟨_, _, _, _, ?_, if_neg (by simp [hcore, hfull])⟩
  split
  · rfl
  · exact s.roundNat_free _ _

theorem execCadenceWindow_on (rates : Vector (BitVec 16) 68) {s : State} (hcore : s.pwr.vcore = true)
    (hfull : s.pwr.retention = false) : ∃ t, execCadenceWindow rates s = .next t ∧
      (∀ p : Fin 68, s.ticking p = true → t.rd F.PWR_CADENCE_MIN ≤ rates[p].toNat) ∧
      OnlyRegs [.PWR_CADENCE] { s with free := t.free, pwr := { s.pwr with rates := t.pwr.rates } } t := by
  obtain ⟨u, mean, a, l, hu, hexec⟩ := execCadenceWindow_counts rates hcore hfull
  refine ⟨_, hexec, fun p hp => ?_, ?_⟩
  · rw [State.rd_wr_ne _ _ _ _ _ _ (by decide), State.rd_wr_same _ _ _ _ (by decide)]
    exact (Nat.mod_le _ _).trans (foldl_min_le (List.mem_map_of_mem (State.mem_tickingRates rates hp)) a)
  · rw [hu]
    exact ((OnlyRegs.refl _ _).wr _ _ _ (by decide)).wr _ _ _ (by decide)

/-! ### Input power (R276, R277) -/

/-- A reading just kept is fresh. -/
theorem State.fresh_setRead (s : State) (k per : Nat) (v : Rat) : (s.setRead k v).fresh k per = some v := by
  simp [State.fresh, State.setRead, Assoc.find_put]

/-- Source 0x28 shows the 10 ms mean of the register while its reading is fresh. -/
theorem State.source_power (s : State) :
    s.source 0x28 = (s.fresh 0x28 50000).map fun _ => (s.rd F.PWR_INPUT_P_10MS : Rat) := rfl

/-- The module with the means of 10 ms and 1 s in the register and a reading of input power. -/
def State.powerShown (s : State) (short long : Nat) (v : Rat) : State :=
  ((s.wr F.PWR_INPUT_P_10MS 0 short).wr F.PWR_INPUT_P_1S 0 long).setRead 0x28 v

theorem State.source_powerShown (s : State) (short long : Nat) (v : Rat) : (s.powerShown short long v).source 0x28 =
    some (((s.powerShown short long v).rd F.PWR_INPUT_P_10MS : Nat) : Rat) := by
  rw [State.source_power, State.powerShown, State.fresh_setRead]
  rfl

/-- A sample stands first in the history, and its means, rounded, are shown. -/
theorem execPowerSample_shows (w : BitVec 16) (s : State) : ∃ u short long v,
    OnlyFree { s with pwr := { s.pwr with power := w.toNat :: s.pwr.power.take 19999 } } u ∧
      execPowerSample w s = .next (u.powerShown short long v) :=
  ⟨_, _, _, _, (State.roundNat_free _ _ _).trans (State.roundNat_free _ _ _), rfl⟩

theorem execPowerSample_effect (w : BitVec 16) (s : State) : ∃ t, execPowerSample w s = .next t ∧
    t.pwr.power = w.toNat :: s.pwr.power.take 19999 ∧ t.source 0x28 = some ((t.rd F.PWR_INPUT_P_10MS : Nat) : Rat) ∧
    OnlyRegs [.PWR_INPUT]
      { s with free := t.free, pwr := { s.pwr with power := t.pwr.power }, cio := { s.cio with reads := t.cio.reads } } t := by
  obtain ⟨u, short, long, v, hu, hexec⟩ := execPowerSample_shows w s
  refine ⟨_, hexec, (congrArg (·.pwr.power) hu :), u.source_powerShown short long v, ?_⟩
  rw [hu]
  exact ((OnlyRegs.refl _ _).wr F.PWR_INPUT_P_10MS 0 short (by decide)).wr F.PWR_INPUT_P_1S 0 long (by decide)

theorem execCapUnmet_effect {s : State} (hceil : s.rd F.PWR_GEAR_STAT_CEIL = 0)
    (hover : 102 * s.rd F.PWR_CAP_EFF_WATTS < 100 * s.rd F.PWR_INPUT_P_1S) :
    ∃ t, execCapUnmet s = .next t ∧ t.flag F.PWR_CAUSE_CAP_UNMET = true ∧ OnlyLogs [.PWR_CAUSE] s t :=
  ⟨_, if_pos ⟨hceil, hover⟩, State.flag_raise_same _ _ _ _ _ _ (by decide), (OnlyLogs.refl _ s).raise _ _ _ _ _ (by decide)⟩

/-! ### The junction temperature (R279) -/

/-- The warning threshold in force: at most 104 °C. -/
def State.tjLimit (s : State) : Nat := min 0x340 (s.rd F.PWR_TJ_WARN_THRESH)

/-- The module with a sample of the hottest junction shown. -/
def State.tjShown (s : State) (src : BitVec 7) (v : BitVec 12) : State :=
  ((s.wr F.PWR_TJ_MAX 0 v.toNat).wr F.PWR_TJ_SRC 0 src.toNat).setRead 0x29 ((v.toNat : Rat) / 8)

/-- The module with the warning armed or not. -/
def State.tjArm (s : State) (b : Bool) : State := { s with pwr := { s.pwr with tjArmed := b } }

theorem State.rd_tjShown (s : State) (src : BitVec 7) (v : BitVec 12) :
    (s.tjShown src v).rd F.PWR_TJ_MAX = v.toNat ∧ (s.tjShown src v).rd F.PWR_TJ_SRC = src.toNat :=
  ⟨(State.rd_wr_ne (s.wr F.PWR_TJ_MAX 0 v.toNat) F.PWR_TJ_SRC _ _ _ _ (by decide)).trans
      ((State.rd_wr_same _ _ _ _ (by decide)).trans (Nat.mod_eq_of_lt v.isLt)),
    (State.rd_wr_same _ F.PWR_TJ_SRC _ _ (by decide)).trans (Nat.mod_eq_of_lt src.isLt)⟩

/-- Beside the sample shown, a raised warning and whether the next one is armed are all that changes. -/
theorem execTjSample_warns (src : BitVec 7) (v : BitVec 12) (s : State) : ∃ t, execTjSample src v s = .next t ∧
    (s.tjLimit ≤ v.toNat → s.pwr.tjArmed = true → t.flag F.PWR_CAUSE_TJ_WARN = true ∧ t.pwr.tjArmed = false) ∧
    (v.toNat + 40 ≤ s.tjLimit → t.pwr.tjArmed = true) ∧
    OnlyLogs [.PWR_CAUSE] ((s.tjShown src v).tjArm t.pwr.tjArmed) t := by
  by_cases hhot : s.tjLimit ≤ v.toNat
  · by_cases harmed : s.pwr.tjArmed = true
    · have hexec : execTjSample src v s =
          .next (((s.tjShown src v).tjArm false).raise F.PWR_CAUSE_TJ_WARN 0 2 [wd v.toNat, wd src.toNat]) :=
        (if_pos hhot).trans (if_pos harmed)
      have hframe := (OnlyLogs.refl [.PWR_CAUSE] ((s.tjShown src v).tjArm false)).raise F.PWR_CAUSE_TJ_WARN 0 2
        [wd v.toNat, wd src.toNat] 0x3FF (by decide)
      have hoff : (((s.tjShown src v).tjArm false).raise F.PWR_CAUSE_TJ_WARN 0 2 [wd v.toNat, wd src.toNat]).pwr.tjArmed = false :=
        (congrArg (·.pwr.tjArmed) hframe.2 :)
      refine ⟨_, hexec, fun _ _ => ⟨State.flag_raise_same _ _ _ _ _ _ (by decide), hoff⟩, fun h => by omega, ?_⟩
      rwa [hoff]
    · exact ⟨_, (if_pos hhot).trans (if_neg harmed), fun _ h => absurd h harmed, fun h => by omega, OnlyLogs.refl _ _⟩
  · by_cases hcool : v.toNat + 40 ≤ s.tjLimit
    · exact ⟨_, (if_neg hhot).trans (if_pos hcool), fun h => absurd h hhot, fun _ => rfl, OnlyLogs.refl _ _⟩
    · exact ⟨_, (if_neg hhot).trans (if_neg hcool), fun h => absurd h hhot, fun h => absurd h hcool, OnlyLogs.refl _ _⟩

theorem execTjSample_effect (src : BitVec 7) (v : BitVec 12) (s : State) : ∃ t, execTjSample src v s = .next t ∧
    t.rd F.PWR_TJ_MAX = v.toNat ∧ t.rd F.PWR_TJ_SRC = src.toNat ∧
    (s.tjLimit ≤ v.toNat → s.pwr.tjArmed = true → t.flag F.PWR_CAUSE_TJ_WARN = true ∧ t.pwr.tjArmed = false) ∧
    (v.toNat + 40 ≤ s.tjLimit → t.pwr.tjArmed = true) ∧
    OnlyLogs [.PWR_TJ, .PWR_CAUSE]
      { s with cio := { s.cio with reads := t.cio.reads }, pwr := { s.pwr with tjArmed := t.pwr.tjArmed } } t := by
  obtain ⟨t, hexec, hwarn, hrearm, hlogs⟩ := execTjSample_warns src v s
  obtain ⟨hmax, hsrc⟩ := s.rd_tjShown src v
  have hcio : t.cio = (s.tjShown src v).cio := (congrArg State.cio hlogs.2 :)
  refine ⟨t, hexec, (SameRegs.rd hlogs.1 (by decide) 0).trans hmax, (SameRegs.rd hlogs.1 (by decide) 0).trans hsrc, hwarn, hrearm, ?_⟩
  rw [hcio]
  refine OnlyLogs.trans (t := (s.tjShown src v).tjArm t.pwr.tjArmed) ?_ (hlogs.mono (by decide))
  exact ((OnlyLogs.refl _ _).wr F.PWR_TJ_MAX 0 v.toNat (by decide)).wr F.PWR_TJ_SRC 0 src.toNat (by decide)

/-! ### The statement -/

/-- Settles O5: each sample is shown in its register; beside that a rounding takes a free value, a kept reading stands in the
inputs, and a cause is raised. -/
theorem cadencePowerCapAndTemperature : Obligations.CadencePowerCapAndTemperature := by
  unfold Obligations.CadencePowerCapAndTemperature
  refine ⟨?off, ?on, ?power, ?unmet, ?junction⟩
  case off => exact fun rates s hcore => execCadenceWindow_off rates hcore
  case on => exact fun rates s hcore hfull => execCadenceWindow_on rates hcore hfull
  case power => exact fun w s => execPowerSample_effect w s
  case unmet => exact fun s hceil hover => execCapUnmet_effect hceil hover
  case junction => exact fun src v s => execTjSample_effect src v s

end Sys2Proof.Machine
end

section
/-! PROOFS.  Records in the buffer (R455, R459, R461), and the statement on a crowded buffer. -/

namespace Sys2Proof.Machine

/-! ### What entering a record leaves in the buffer -/

theorem State.evr_raiseBit (s : State) (f : Fld) (i : Nat) : (s.raiseBit f i).evr = s.evr := by rw [State.raiseBit_eq]

theorem State.evr_requestFlush (s : State) : s.requestFlush.evr = { s.evr with flushDue := true } := rfl

theorem State.buf_discardRec (s : State) (q : Nat) : (s.discardRec q).evr.buf = s.evr.buf := by
  simp [State.discardRec, State.evr_raiseBit, State.count]

/-- The state in which a record of severity `sev` meets the buffer: a critical one notes its time. -/
def State.noteCrit (s : State) (sev : Nat) : State :=
  if sev = 3 then { s with evr := { s.evr with critAt := some s.up, critEver := true } } else s

theorem State.evr_noteCrit (s : State) (sev : Nat) : (s.noteCrit sev).evr.buf = s.evr.buf ∧ (s.noteCrit sev).evr.lost = s.evr.lost ∧
    (s.noteCrit sev).regs = s.regs := by
  unfold State.noteCrit; split <;> exact ⟨rfl, rfl, rfl⟩

/-- With room the record stands last in the buffer, and what may follow is a flush that is asked for. -/
theorem State.insertRec_room {s : State} (r : Rec) (h : s.evr.buf.length < 1024) :
    (s.insertRec r).evr.buf = s.evr.buf ++ [r] ∧ (s.insertRec r).evr.lost = s.evr.lost := by
  obtain ⟨hbuf, hlost, -⟩ := s.evr_noteCrit r.sev
  unfold State.insertRec
  rw [← State.noteCrit]
  simp only [hbuf, h, if_true]
  split <;> exact ⟨by simp [State.evr_requestFlush], by simp [State.evr_requestFlush, hlost]⟩

theorem State.insertRec_displaces {s : State} {r : Rec} {v : Nat} (h : 1024 ≤ s.evr.buf.length)
    (hv : lowestSevBelow r.sev s.evr.buf = some v) : (s.insertRec r).evr.buf = dropNewest v s.evr.buf ++ [r] := by
  obtain ⟨hbuf, -, -⟩ := s.evr_noteCrit r.sev
  unfold State.insertRec
  rw [← State.noteCrit]
  simp only [hbuf, Nat.not_lt.2 h, if_false, hv, State.evr_requestFlush, State.buf_discardRec]

theorem State.insertRec_discards {s : State} {r : Rec} (h : 1024 ≤ s.evr.buf.length)
    (hv : lowestSevBelow r.sev s.evr.buf = none) : s.insertRec r = (s.noteCrit r.sev).discardRec r.seq := by
  obtain ⟨hbuf, -, -⟩ := s.evr_noteCrit r.sev
  unfold State.insertRec
  rw [← State.noteCrit]
  simp only [hbuf, Nat.not_lt.2 h, if_false, hv]

/-! ### Which record gives way (R461) -/

/-- The lowest severity below that of a record is the one the buffer holds and that no lower one there undercuts. -/
theorem lowestSevBelow_eq_some {sev : Nat} {l : List Rec} {x : Rec} (hx : x ∈ l) (hlt : x.sev < sev)
    (hmin : ∀ y ∈ l, y.sev < sev → x.sev ≤ y.sev) : lowestSevBelow sev l = some x.sev := by
  rw [lowestSevBelow, List.find?_range_eq_some]
  refine ⟨by simpa using ⟨x, hx, rfl⟩, by simpa using hlt, fun j hj => ?_⟩
  simp only [Bool.not_eq_true', List.any_eq_false, decide_eq_true_eq]
  intro y hy he
  have := hmin y hy (by omega)
  omega

theorem lowestSevBelow_eq_none {sev : Nat} {l : List Rec} (h : ∀ y ∈ l, sev ≤ y.sev) : lowestSevBelow sev l = none := by
  simp only [lowestSevBelow, List.find?_eq_none, List.mem_range, List.any_eq_true, decide_eq_true_eq, not_exists, not_and]
  intro v hv y hy he
  have := h y hy
  omega

/-- The newest record of a severity is the last one of it. -/
theorem dropNewest_append (l m : List Rec) (x : Rec) (h : ∀ y ∈ m, y.sev ≠ x.sev) : dropNewest x.sev (l ++ x :: m) = l ++ m := by
  have hm : ∀ y ∈ m.reverse, ¬ decide (y.sev = x.sev) = true := by simpa using h
  rw [dropNewest, List.reverse_append, List.reverse_cons, List.append_assoc, List.eraseP_append_right _ hm]
  simp

/-! ### What a discard counts and raises (R461) -/

theorem State.rd_lostCnt_discardRec (s : State) (q : Nat) :
    (s.discardRec q).rd F.REC_LOST_CNT_VALUE = satInc 32 (s.rd F.REC_LOST_CNT_VALUE) := by
  have hreg : (s.discardRec q).reg .REC_LOST_CNT 0 = (s.count F.REC_LOST_CNT_VALUE 0).reg .REC_LOST_CNT 0 :=
    (State.reg_raiseBit _ _ _ _ _ (by decide)).trans (State.reg_wr_ne _ _ _ _ _ _ (by decide))
  have hlt : satInc 32 (s.rd F.REC_LOST_CNT_VALUE) < 2 ^ 32 := by unfold satInc; split <;> omega
  exact (State.rd_congr hreg).trans ((State.rd_wr_same _ _ _ _ (by decide)).trans (Nat.mod_eq_of_lt hlt))

theorem State.flag_lost_discardRec (s : State) (q : Nat) : (s.discardRec q).flag F.REC_CAUSE_LOST = true :=
  (State.flag_congr (State.reg_raiseBit (s.count F.REC_LOST_CNT_VALUE 0) F.REC_CAUSE_LOST 0 .REC_CAUSE 0 (by decide))).trans
    (State.flag_wr_one _ _ _ (by decide))

theorem State.lost_discardRec (s : State) (q : Nat) : (s.discardRec q).evr.lost ≠ none := by
  simp only [State.discardRec]; split <;> simp

/-- A record the module makes, entered with room, stands last in the buffer with the contents it was given. -/
theorem State.record_room {s : State} (block reg event inst sev : Nat) (data : List Word) (m : Nat) (h : s.evr.buf.length < 1024) :
    ∃ r : Rec, (s.record block reg event inst sev data m).evr.buf = s.evr.buf ++ [r] ∧
      (s.record block reg event inst sev data m).evr.lost = s.evr.lost ∧
      r.block = block ∧ r.event = event ∧ r.inst = inst ∧ r.sev = sev ∧ r.data = data := by
  obtain ⟨hbuf, hlost⟩ := State.insertRec_room (s := { s with evr := { s.evr with nextSeq := seqAfter s.evr.nextSeq } })
    { time := s.timeBase.toNat, optime := s.rd F.TIM_OPTIME_COUNT, cycles := s.rd F.TIM_CYCLES_COUNT,
      seq := s.evr.nextSeq, master := m, block := block, reg := reg, event := event, inst := inst,
      sev := sev, disc := s.flag F.TIM_STAT_DISC, unset := s.flag F.TIM_STAT_UNSET, data := data } h
  exact ⟨_, hbuf, hlost, rfl, rfl, rfl, rfl, rfl⟩

/-- A cause raised with room in the buffer enters its record (R456). -/
theorem State.raiseFor_room {s : State} (f : Fld) (i inst sev : Nat) (data : List Word) (m : Nat) (h : s.evr.buf.length < 1024) :
    ∃ r : Rec, (s.raiseFor f i inst sev data m).evr.buf = s.evr.buf ++ [r] ∧
      r.block = f.reg.info.block.num ∧ r.event = f.lo ∧ r.inst = inst ∧ r.sev = sev ∧ r.data = data := by
  obtain ⟨r, hbuf, -, hr⟩ := State.record_room (s := s.raiseBit f i) f.reg.info.block.num ((causeInfo f.reg).elim 15 Prod.snd) f.lo inst
    sev data m (by rwa [State.evr_raiseBit])
  exact ⟨r, hbuf.trans (by rw [State.evr_raiseBit]), hr⟩

/-! ### The statement -/

/-- Settles O59: a record meets the buffer with room, over a lower severity or against none, and the discards are reported once
there is room. -/
theorem aCrowdedBufferDisplacesLowerSeverities : Obligations.ACrowdedBufferDisplacesLowerSeverities := by
  unfold Obligations.ACrowdedBufferDisplacesLowerSeverities
  refine ⟨?room, ?displaces, ?discards, ?reported⟩
  case room => exact fun r s h => (State.insertRec_room r h).1
  case displaces =>
    intro r x l m s hfull hl hlt hnewest hmin
    have hx : x ∈ s.evr.buf := by rw [hl]; simp
    rw [State.insertRec_displaces hfull (lowestSevBelow_eq_some hx hlt hmin), hl, dropNewest_append _ _ _ hnewest]
  case discards =>
    intro r s hfull hmin
    obtain ⟨hbuf, -, hregs⟩ := s.evr_noteCrit r.sev
    have hcount : (s.noteCrit r.sev).rd F.REC_LOST_CNT_VALUE = s.rd F.REC_LOST_CNT_VALUE := by simp only [State.rd, State.reg, hregs]
    rw [State.insertRec_discards hfull (lowestSevBelow_eq_none hmin), State.buf_discardRec, hbuf, State.rd_lostCnt_discardRec, hcount]
    exact ⟨rfl, rfl, State.flag_lost_discardRec _ _, State.lost_discardRec _ _⟩
  case reported =>
    intro n a b s hlost hroom
    have hrep : s.reportLost = (s.modRec fun e => { e with lost := none }).record 5 15 0x41 0 2 [wd n, wd a, wd b] := by
      simp only [State.reportLost, hlost, hroom, if_true]
    rw [hrep]
    obtain ⟨r, hbuf, hnone, hblock, hevent, -, hsev, hdata⟩ :=
      State.record_room (s := s.modRec fun e => { e with lost := none }) 5 15 0x41 0 2 [wd n, wd a, wd b] 0x3FF hroom
    exact ⟨r, hbuf, hblock, hevent, hsev, hdata, hnone⟩

end Sys2Proof.Machine
end

section
/-! PROOFS.  A step (log entry 3), and the metadata frames right after reset (R132, R141) against the statement on reset. -/

namespace Sys2Proof.Machine

/-! ### A step -/

theorem step_cons {s : State} {c : Instr} {l : List Instr} (h : s.pending = c :: l) : step s = exec c { s with pending := l } := by
  simp only [step, h]

theorem step_nil {s : State} (h : s.pending = []) : step s = .next s.idle := by
  simp only [step, h]

theorem State.idle_off {s : State} (h : s.boot.off = true) : s.idle = s := by
  simp only [State.idle, h, if_true]

/-- Settles O53: a step looks at the queue alone. -/
theorem stepRunsTheFrontCommand : Obligations.StepRunsTheFrontCommand := by
  unfold Obligations.StepRunsTheFrontCommand
  exact ⟨fun c l s h => step_cons h, fun c s => step_cons rfl, fun s h => step_nil h,
    fun s h hoff => (step_nil h).trans (by rw [State.idle_off hoff])⟩

/-! ### The state after reset -/

/-- Byte 1 of the first metadata entry: ZERO, as no page holds data, and the mark of the module reserve. -/
theorem metadata_reset : State.reset.memByte 0 (metaFrame * 65536 + 1) = 5 := by decide

/-- Refutes O54: of the bytes of a stack those of the metadata frames do not read 0 after reset, since every page has ZERO = 1. -/
theorem not_resetLeavesTheModuleAtStepOne : ¬ Obligations.ResetLeavesTheModuleAtStepOne := by
  unfold Obligations.ResetLeavesTheModuleAtStepOne
  rintro ⟨-, -, -, -, -, -, -, -, -, -, hzero, -⟩
  exact absurd (metadata_reset.symm.trans (hzero 0 _)) (by decide)

end Sys2Proof.Machine
end

section
/-! PROOFS.  The address map (R485): each register instance at its address alone, the holes, the records of causes (R455), and the
statement on them. -/

namespace Sys2Proof.Machine

/-! ### Where an instance stands in its block -/

/-- Offset of instance `i` from the base of its block. -/
def RegInfo.place (n : RegInfo) (i : Nat) : Nat := n.off + i / n.inner * n.outerStep + i % n.inner * n.innerStep

/-- The steps of a register's instances do not run into each other. -/
def RegInfo.sound (n : RegInfo) : Bool :=
  decide (1 ≤ n.inner) && (decide (n.count ≤ 1) || (decide (0 < n.outerStep) && (decide (n.inner = 1) ||
    (decide (0 < n.innerStep) && decide ((n.inner - 1) * n.innerStep < n.outerStep)))))

theorem Reg.info_sound (r : Reg) : r.info.sound = true := by cases r <;> rfl

/-- The inner and the outer number of an instance. -/
theorem inner_outer {m : Nat} (hm : 1 ≤ m) (a k : Nat) (hk : k < m) : (a * m + k) / m = a ∧ (a * m + k) % m = k := by
  rw [Nat.add_comm, Nat.add_mul_div_right _ _ hm, Nat.add_mul_mod_self_right, Nat.div_eq_of_lt hk, Nat.mod_eq_of_lt hk]
  exact ⟨Nat.zero_add a, rfl⟩

theorem Reg.instAt_place (r : Reg) {i : Nat} (hi : i < r.info.count) : r.instAt (r.info.place i) = some i := by
  have hs := r.info_sound
  simp only [RegInfo.sound, Bool.and_eq_true, Bool.or_eq_true, decide_eq_true_eq] at hs
  obtain ⟨hinner, hs⟩ := hs
  have hoff : ¬ r.info.place i < r.info.off := by unfold RegInfo.place; omega
  by_cases hone : r.info.count ≤ 1
  · have h0 : i = 0 := by omega
    subst h0
    simp [Reg.instAt, hone, RegInfo.place]
  · obtain ⟨houter, hs⟩ := hs.resolve_left hone
    have hd : r.info.place i - r.info.off = i % r.info.inner * r.info.innerStep + i / r.info.inner * r.info.outerStep := by
      unfold RegInfo.place; omega
    rcases hs with h1 | ⟨hstep, hfit⟩
    · have hz : i % r.info.inner = 0 := by rw [h1, Nat.mod_one]
      have hq : i / r.info.inner = i := by rw [h1, Nat.div_one]
      rw [hz, hq, Nat.zero_mul, Nat.zero_add] at hd
      simp only [Reg.instAt, hoff, if_false, hone, hd, Nat.mul_div_cancel _ houter, Nat.mul_mod_left, h1, le_refl, if_true, hi, and_self]
    · by_cases h1 : r.info.inner ≤ 1
      · have hz : i % r.info.inner = 0 := by rw [Nat.le_antisymm h1 hinner, Nat.mod_one]
        have hq : i / r.info.inner = i := by rw [Nat.le_antisymm h1 hinner, Nat.div_one]
        rw [hz, hq, Nat.zero_mul, Nat.zero_add] at hd
        simp only [Reg.instAt, hoff, if_false, hone, hd, Nat.mul_div_cancel _ houter, Nat.mul_mod_left, h1, if_true, hi, and_self]
      · have hk : i % r.info.inner < r.info.inner := Nat.mod_lt _ hinner
        have hlt : i % r.info.inner * r.info.innerStep < r.info.outerStep :=
          lt_of_le_of_lt (Nat.mul_le_mul_right _ (Nat.le_sub_one_of_lt hk)) hfit
        have ha : (r.info.place i - r.info.off) / r.info.outerStep = i / r.info.inner := by
          rw [hd, Nat.add_mul_div_right _ _ houter, Nat.div_eq_of_lt hlt, Nat.zero_add]
        have hb : (r.info.place i - r.info.off) % r.info.outerStep = i % r.info.inner * r.info.innerStep := by
          rw [hd, Nat.add_mul_mod_self_right, Nat.mod_eq_of_lt hlt]
        have hi' : i / r.info.inner * r.info.inner + i % r.info.inner = i := Nat.div_add_mod' i _
        simp only [Reg.instAt, hoff, if_false, hone, ha, hb, h1, Nat.mul_mod_left, Nat.mul_div_cancel _ hstep, hk, hi', hi, and_self, if_true]

theorem Reg.place_of_instAt {r : Reg} {o i : Nat} (h : r.instAt o = some i) : i < r.info.count ∧ o = r.info.place i := by
  have hs := r.info_sound
  simp only [RegInfo.sound, Bool.and_eq_true, Bool.or_eq_true, decide_eq_true_eq] at hs
  obtain ⟨hinner, hs⟩ := hs
  simp only [Reg.instAt] at h
  split at h
  · simp at h
  · next hlt =>
    split at h
    · next hone =>
      split at h
      · next ho =>
        obtain rfl := Option.some.inj h
        have hc : 0 < r.info.count := by cases r <;> decide
        exact ⟨hc, by simp [RegInfo.place, ho]⟩
      · simp at h
    · next hone =>
      have hdm := Nat.div_add_mod (o - r.info.off) r.info.outerStep
      split at h
      · next h1 =>
        split at h
        · next hb =>
          obtain rfl := Option.some.inj h
          refine ⟨hb.2, ?_⟩
          have hi1 : r.info.inner = 1 := Nat.le_antisymm h1 hinner
          rw [RegInfo.place, hi1, Nat.div_one, Nat.mod_one, Nat.mul_comm]
          omega
        · simp at h
      · next h1 =>
        split at h
        · next hb =>
          obtain rfl := Option.some.inj h
          refine ⟨hb.2.2, ?_⟩
          obtain ⟨hq, hm⟩ := inner_outer hinner ((o - r.info.off) / r.info.outerStep) _ hb.2.1
          rw [RegInfo.place, hq, hm, Nat.div_mul_cancel (Nat.dvd_of_mod_eq_zero hb.1), Nat.mul_comm _ r.info.outerStep]
          omega
        · simp at h

/-! ### Registers of a block stand apart -/

/-- Offset of a register's last instance. -/
def RegInfo.final (n : RegInfo) : Nat := n.place (n.count - 1)

/-- Where a register's instances stand within an outer step. -/
def RegInfo.residues (n : RegInfo) : List Nat := (List.range n.inner).map fun j => (n.off + j * n.innerStep) % n.outerStep

/-- All instances of `n` lie within one outer step of `m`, between the instances of `m`. -/
def RegInfo.between (n m : RegInfo) : Bool :=
  decide (n.off / m.outerStep = n.final / m.outerStep) && m.residues.all fun x => decide (x < n.off % m.outerStep ∨ n.final % m.outerStep < x)

/-- Two registers of a block stand apart: one after the other, at different places of equal steps, or one within a step of the
other. -/
def RegInfo.apart (n m : RegInfo) : Bool :=
  decide (n.final < m.off) || decide (m.final < n.off) ||
    (decide (n.outerStep = m.outerStep) && n.residues.all fun x => !(m.residues.elem x)) || n.between m || m.between n

theorem RegInfo.place_residue {n : RegInfo} (hinner : 1 ≤ n.inner) (i : Nat) : n.place i % n.outerStep ∈ n.residues := by
  refine List.mem_map.2 ⟨i % n.inner, List.mem_range.2 (Nat.mod_lt _ hinner), ?_⟩
  have : n.place i = n.off + i % n.inner * n.innerStep + n.outerStep * (i / n.inner) := by
    rw [RegInfo.place, Nat.mul_comm (i / n.inner)]; omega
  rw [this, Nat.add_mul_mod_self_left]

/-- Instances stand in the order of their numbers. -/
theorem RegInfo.place_mono {n : RegInfo} (hs : n.sound = true) {i j : Nat} (hij : i ≤ j) (hj : j < n.count) : n.place i ≤ n.place j := by
  simp only [RegInfo.sound, Bool.and_eq_true, Bool.or_eq_true, decide_eq_true_eq] at hs
  obtain ⟨hinner, hs⟩ := hs
  rcases hs with hone | ⟨houter, hs⟩
  · rw [show i = j by omega]
  · have hquot : i / n.inner ≤ j / n.inner := Nat.div_le_div_right hij
    have hwithin : i % n.inner * n.innerStep < n.outerStep ∨ i % n.inner = 0 := by
      rcases hs with h1 | ⟨-, hfit⟩
      · exact .inr (by rw [h1, Nat.mod_one])
      · exact .inl (lt_of_le_of_lt (Nat.mul_le_mul_right _ (Nat.le_sub_one_of_lt (Nat.mod_lt _ hinner))) hfit)
    rcases Nat.eq_or_lt_of_le hquot with heq | hlt
    · have hi := Nat.div_add_mod i n.inner
      have hj := Nat.div_add_mod j n.inner
      rw [heq] at hi
      have hk : i % n.inner * n.innerStep ≤ j % n.inner * n.innerStep := Nat.mul_le_mul_right _ (by omega)
      simp only [RegInfo.place, heq]
      omega
    · have hmul : i / n.inner * n.outerStep + n.outerStep ≤ j / n.inner * n.outerStep := by
        rw [← Nat.succ_mul]; exact Nat.mul_le_mul_right _ hlt
      have hsmall : i % n.inner * n.innerStep ≤ n.outerStep := by
        rcases hwithin with h | h
        · exact h.le
        · rw [h, Nat.zero_mul]; exact Nat.zero_le _
      simp only [RegInfo.place]
      omega

theorem RegInfo.place_bounds {n : RegInfo} (hs : n.sound = true) {i : Nat} (hi : i < n.count) : n.off ≤ n.place i ∧ n.place i ≤ n.final :=
  ⟨by unfold RegInfo.place; omega, RegInfo.place_mono hs (Nat.le_sub_one_of_lt hi) (by omega)⟩

theorem RegInfo.place_ne_of_between {n m : RegInfo} (hn : n.sound = true) (hm : m.sound = true) (h : n.between m = true) {i j : Nat}
    (hi : i < n.count) : n.place i ≠ m.place j := by
  simp only [RegInfo.between, Bool.and_eq_true, decide_eq_true_eq, List.all_eq_true] at h
  obtain ⟨hstep, hres⟩ := h
  have hinner : 1 ≤ m.inner := by
    simp only [RegInfo.sound, Bool.and_eq_true, decide_eq_true_eq] at hm; exact hm.1
  obtain ⟨hlo, hhi⟩ := RegInfo.place_bounds hn hi
  intro he
  have hx := hres _ (he ▸ RegInfo.place_residue hinner j)
  have hq : n.off / m.outerStep = n.place i / m.outerStep :=
    Nat.le_antisymm (Nat.div_le_div_right hlo) (hstep ▸ Nat.div_le_div_right hhi)
  have hoff := Nat.div_add_mod n.off m.outerStep
  have hplace := Nat.div_add_mod (n.place i) m.outerStep
  have hfinal := Nat.div_add_mod n.final m.outerStep
  rw [← hq] at hplace
  rw [← hstep] at hfinal
  omega

theorem RegInfo.place_ne_of_apart {n m : RegInfo} (hn : n.sound = true) (hm : m.sound = true) (h : n.apart m = true) {i j : Nat}
    (hi : i < n.count) (hj : j < m.count) : n.place i ≠ m.place j := by
  have hin : 1 ≤ n.inner := by simp only [RegInfo.sound, Bool.and_eq_true, decide_eq_true_eq] at hn; exact hn.1
  have him : 1 ≤ m.inner := by simp only [RegInfo.sound, Bool.and_eq_true, decide_eq_true_eq] at hm; exact hm.1
  obtain ⟨hnlo, hnhi⟩ := RegInfo.place_bounds hn hi
  obtain ⟨hmlo, hmhi⟩ := RegInfo.place_bounds hm hj
  simp only [RegInfo.apart, Bool.or_eq_true, decide_eq_true_eq] at h
  rcases h with (((hbefore | hafter) | hplaces) | hbetween) | hbetween
  · omega
  · omega
  · simp only [Bool.and_eq_true, decide_eq_true_eq, List.all_eq_true, Bool.not_eq_true', List.elem_eq_mem, decide_eq_false_iff_not] at hplaces
    intro he
    have hx := RegInfo.place_residue hin i
    exact hplaces.2 _ hx (he ▸ hplaces.1 ▸ RegInfo.place_residue him j)
  · exact RegInfo.place_ne_of_between hn hm hbetween hi
  · exact (RegInfo.place_ne_of_between hm hn hbetween hj).symm

/-- The registers of each block stand apart from each other. -/
theorem Block.regs_apart (b : Block) : ∀ r ∈ b.regs, ∀ q ∈ b.regs, q = r ∨ r.info.apart q.info = true := by
  cases b <;> decide

/-! ### Finding a register -/

theorem Reg.mem_regs (r : Reg) : r ∈ r.info.block.regs := by cases r <;> decide

/-- The register found is the one of the list that has an instance there. -/
theorem findReg_of_apart {o i : Nat} {r : Reg} (hr : r.instAt o = some i) :
    ∀ l : List Reg, r ∈ l → (∀ q ∈ l, q ≠ r → q.instAt o = none) → findReg o l = some (r, i)
  | [], h, _ => absurd h List.not_mem_nil
  | q :: l, hmem, hne => by
    by_cases hq : q = r
    · subst hq; simp only [findReg, hr]
    · have hl : r ∈ l := (List.mem_cons.1 hmem).resolve_left (Ne.symm hq)
      have hnone := hne q (List.mem_cons_self ..) hq
      simp only [findReg, hnone]
      exact findReg_of_apart hr l hl fun q hq' => hne q (List.mem_cons_of_mem _ hq')

/-- No other register of the block has an instance at the place of one. -/
theorem Reg.instAt_place_ne {r q : Reg} (hq : q ∈ r.info.block.regs) (hne : q ≠ r) {i : Nat} (hi : i < r.info.count) :
    q.instAt (r.info.place i) = none := by
  cases h : q.instAt (r.info.place i) with
  | none => rfl
  | some j =>
    obtain ⟨hj, he⟩ := Reg.place_of_instAt h
    have hap := ((Block.regs_apart r.info.block) r (Reg.mem_regs r) q hq).resolve_left hne
    exact absurd he (RegInfo.place_ne_of_apart r.info_sound q.info_sound hap hi hj)

theorem Reg.addr_eq (r : Reg) (i : Nat) : r.addr i = r.info.block.base + r.info.place i := by
  simp only [Reg.addr, RegInfo.place]; omega

/-- Every register ends within its block. -/
theorem Reg.final_le (r : Reg) : r.info.block.base + r.info.final ≤ r.info.block.last := by cases r <;> decide

theorem Reg.addr_bounds (r : Reg) {i : Nat} (hi : i < r.info.count) : r.info.block.base ≤ r.addr i ∧ r.addr i ≤ r.info.block.last := by
  have hplace := (RegInfo.place_bounds r.info_sound hi).2
  have hfinal := r.final_le
  rw [Reg.addr_eq]
  omega

/-- The blocks of the map do not overlap. -/
theorem Block.disjoint (b c : Block) : b = c ∨ b.last < c.base ∨ c.last < b.base := by
  cases b <;> cases c <;> decide

/-- An address within a block finds that block. -/
theorem blockAt_of_bounds (b : Block) {a : Nat} (h : b.base ≤ a ∧ a ≤ b.last) : blockAt a = some b := by
  cases hat : blockAt a with
  | none =>
    have hall : b ∈ Block.all := by cases b <;> decide
    exact absurd h (by simpa using List.find?_eq_none.1 hat b hall)
  | some c =>
    have hc : c.base ≤ a ∧ a ≤ c.last := by simpa using List.find?_some hat
    rcases Block.disjoint b c with rfl | hd
    · rfl
    · omega

theorem regAt_addr (r : Reg) {i : Nat} (hi : i < r.info.count) : regAt (r.addr i) = some (r, i) := by
  have hplace : r.addr i - r.info.block.base = r.info.place i := by rw [Reg.addr_eq, Nat.add_sub_cancel_left]
  simp only [regAt, blockAt_of_bounds _ (r.addr_bounds hi), hplace]
  exact findReg_of_apart (Reg.instAt_place r hi) _ (Reg.mem_regs r) fun q hq hne => Reg.instAt_place_ne hq hne hi

/-- No block lies in a hole of the map. -/
theorem blockAt_hole {a : Nat} (h : 0x70000 ≤ a ∧ a ≤ 0x7FFFF ∨ 0xD0000 ≤ a ∧ a ≤ 0xFFFFF ∨ 0x380000 ≤ a ∧ a ≤ 0x3FFFFF ∨ 0x510000 ≤ a) :
    blockAt a = none := by
  simp only [blockAt, List.find?_eq_none, decide_eq_true_eq]
  intro b _
  cases b <;> simp only [Block.base, Block.last] <;> omega

/-- Settles O58: the steps of each register do not run into each other, and the registers of a block stand apart. -/
theorem registersStandInTheirBlocks : Obligations.RegistersStandInTheirBlocks := by
  unfold Obligations.RegistersStandInTheirBlocks
  refine ⟨by decide, fun r i hi => ⟨regAt_addr r hi, r.addr_bounds hi⟩, fun a ha => ?hole, fun f i inst s hroom => ?cause⟩
  case hole => exact ⟨by simp only [regAt, blockAt_hole ha], by simp only [accTarget, blockAt_hole ha]⟩
  case cause =>
    obtain ⟨r, hbuf, hblock, hevent, hinst, -⟩ := State.raiseFor_room f i inst 0 [] 0x3FF hroom
    exact ⟨r, by rw [hbuf]; exact List.mem_append_right _ (List.mem_singleton.2 rfl), hblock, hevent, hinst⟩

end Sys2Proof.Machine
end

section
/-! PROOFS.  A packet that does not end its last flit (R185), against the statement on packets read back. -/

namespace Sys2Proof.Machine

/-- A packet without data. -/
def shortPacket : Packet :=
  { dstMod := 0, dstPart := 0, srcMod := 0, srcPart := 0, typ := 0, lines := 0, retx := false, epoch := false, route := 0, pmask := 0,
    unit := 0, flow := 0, psn := 0, cls := 0, hops := 0, space := false, addr := 0, tag := 0, data := [] }

/-- Its bytes alone are the 28 of the header and the 4 of the CRC, less than the 244 of a flit's payload. -/
theorem length_shortPacket : shortPacket.bytes.length = 32 := by
  have hheader : shortPacket.header.length = 28 := by decide
  simp only [Packet.bytes, List.length_append, length_natLE, hheader]
  rfl

theorem readPacket_short : readPacket shortPacket.bytes = none := by
  have hnd : leNat ((shortPacket.bytes.drop 5).take 1) = 0 := rfl
  simp only [readPacket, length_shortPacket, hnd]
  rw [if_pos (.inl (by split <;> decide))]

/-- Refutes O57: the bytes of a packet read as that packet with its padding to whole flits alone, not with just anything after
them. -/
theorem not_packetsInstructionsAndDescriptorsReadBack : ¬ Obligations.PacketsInstructionsAndDescriptorsReadBack := by
  unfold Obligations.PacketsInstructionsAndDescriptorsReadBack
  rintro ⟨hread, -⟩
  have hsome := hread shortPacket [] (by decide) (by decide) rfl
  rw [List.append_nil, readPacket_short] at hsome
  exact nomatch hsome

end Sys2Proof.Machine
end

section
/-! PROOFS.  Frames of registers and of whatever a projection forgets, what registers alone decide, and folds with an invariant. -/

namespace Sys2Proof.Machine

/-! ### What registers alone decide -/

theorem State.reg_congr_regs {s t : State} (h : t.regs = s.regs) (r : Reg) (i : Nat) : t.reg r i = s.reg r i := by
  simp only [State.reg, h]

theorem State.rd_congr_regs {s t : State} (h : t.regs = s.regs) (f : Fld) (i : Nat) : t.rd f i = s.rd f i :=
  State.rd_congr (State.reg_congr_regs h _ _)

theorem State.flag_congr_regs {s t : State} (h : t.regs = s.regs) (f : Fld) (i : Nat) : t.flag f i = s.flag f i :=
  State.flag_congr (State.reg_congr_regs h _ _)

theorem State.regs_wr_congr {s t : State} (h : t.regs = s.regs) (f : Fld) (i v : Nat) : (t.wr f i v).regs = (s.wr f i v).regs := by
  simp only [State.wr, State.setReg, State.reg, h]

/-! ### One-bit fields -/

theorem State.flag_eq_true {s : State} {f : Fld} {i : Nat} : s.flag f i = true ↔ s.rd f i ≠ 0 := by simp [State.flag]

theorem State.flag_eq_false {s : State} {f : Fld} {i : Nat} : s.flag f i = false ↔ s.rd f i = 0 := by simp [State.flag]

/-! ### Frames -/

/-- Nothing has changed but registers of `rs` and what `k` forgets. -/
def Frame (k : State → State) (rs : List Reg) (s t : State) : Prop := SameRegs rs s t ∧ k t = k s

namespace Frame
variable {k : State → State} {rs : List Reg} {s t u : State}

theorem refl (k : State → State) (rs : List Reg) (s : State) : Frame k rs s s := ⟨fun _ _ _ => rfl, rfl⟩

theorem trans (h : Frame k rs s t) (h' : Frame k rs t u) : Frame k rs s u :=
  ⟨fun r i hr => (h'.1 r i hr).trans (h.1 r i hr), h'.2.trans h.2⟩

theorem mono {rs' : List Reg} (h : Frame k rs s t) (hsub : rs ⊆ rs') : Frame k rs' s t := ⟨fun r i hr => h.1 r i fun e => hr (hsub e), h.2⟩

theorem rd (h : Frame k rs s t) (f : Fld) (hf : f.reg ∉ rs) (i : Nat) : t.rd f i = s.rd f i := State.rd_congr (h.1 _ _ hf)

theorem flag (h : Frame k rs s t) (f : Fld) (hf : f.reg ∉ rs) (i : Nat) : t.flag f i = s.flag f i := State.flag_congr (h.1 _ _ hf)

theorem ite {c : Prop} [Decidable c] (ht : Frame k rs s t) (hu : Frame k rs s u) : Frame k rs s (if c then t else u) := by
  split
  · exact ht
  · exact hu

theorem foldl {α : Type} {f : State → α → State} (l : List α) (h : Frame k rs s u) (hf : ∀ v x, Frame k rs v (f v x)) :
    Frame k rs s (l.foldl f u) :=
  List.foldlRecOn l f h fun v hv x _ => hv.trans (hf v x)

/-- What leaves the registers and is forgotten. -/
theorem other (h : Frame k rs s t) (hregs : u.regs = t.regs) (hk : k u = k t) : Frame k rs s u :=
  ⟨fun r i hr => (State.reg_congr_regs hregs r i).trans (h.1 r i hr), hk.trans h.2⟩

theorem setReg (hk : ∀ v : State, k v.regless = k v) (h : Frame k rs s t) {r : Reg} (i : Nat) (w : Word) (hr : r ∈ rs) :
    Frame k rs s (t.setReg r i w) :=
  ⟨fun q j hq => (State.reg_setReg_ne _ _ _ _ _ _ (ne_of_mem_of_not_mem hr hq).symm).trans (h.1 q j hq),
    ((hk (t.setReg r i w)).symm.trans (hk t)).trans h.2⟩

theorem wr (hk : ∀ v : State, k v.regless = k v) (h : Frame k rs s t) (f : Fld) (i v : Nat) (hf : f.reg ∈ rs) :
    Frame k rs s (t.wr f i v) := setReg hk h i _ hf

theorem raiseFor (hk : ∀ v : State, k v.logless = k v) (h : Frame k rs s t) (f : Fld) (i inst sev : Nat) (d : List Word) (m : Nat)
    (hf : f.reg ∈ rs) (hrec : recRegs ⊆ rs) : Frame k rs s (t.raiseFor f i inst sev d m) := by
  have hlog : (t.raiseFor f i inst sev d m).logless = t.logless := by rw [State.raiseFor_eq]; rfl
  refine ⟨fun r j hr => ?_, ?_⟩
  · rw [State.reg_raiseFor _ _ _ _ _ _ _ _ _ fun e => hr (hrec e), State.reg_wr_ne _ _ _ _ _ _ (ne_of_mem_of_not_mem hf hr).symm]
    exact h.1 r j hr
  · rw [← hk, hlog, hk]; exact h.2

theorem raise (hk : ∀ v : State, k v.logless = k v) (h : Frame k rs s t) (f : Fld) (i sev : Nat) (d : List Word) (m : Nat)
    (hf : f.reg ∈ rs) (hrec : recRegs ⊆ rs) : Frame k rs s (t.raise f i sev d m) := h.raiseFor hk f i i sev d m hf hrec

theorem record (hk : ∀ v : State, k v.logless = k v) (h : Frame k rs s t) (a b c e g : Nat) (d : List Word) (m : Nat)
    (hrec : recRegs ⊆ rs) : Frame k rs s (t.record a b c e g d m) :=
  ⟨fun r j hr => (State.reg_record _ _ _ _ _ _ _ _ _ _ fun e => hr (hrec e)).trans (h.1 r j hr), by
    rw [← hk, State.logless_record, hk]; exact h.2⟩

/-- A frame of registers alone is one of every projection that forgets them. -/
theorem of_onlyRegs (hk : ∀ v : State, k v.regless = k v) (h : OnlyRegs rs s t) : Frame k rs s t :=
  ⟨h.1, by rw [← hk t, h.2, hk]⟩

end Frame

/-! ### Folds -/

/-- What one element brings about under an invariant that every element keeps holds after all of them. -/
theorem foldl_of_mem_of {α σ : Type} (B Q : σ → Prop) {f : σ → α → σ} (hB : ∀ s y, B s → B (f s y)) {x : α}
    (hx : ∀ s, B s → Q (f s x)) (hQ : ∀ s y, B s → Q s → Q (f s y)) (l : List α) (s : σ) (hl : x ∈ l) (hs : B s) : Q (l.foldl f s) := by
  induction l generalizing s with
  | nil => exact absurd hl List.not_mem_nil
  | cons y l ih =>
    rcases List.mem_cons.1 hl with rfl | hl
    · exact (List.foldlRecOn l f (motive := fun s => B s ∧ Q s) ⟨hB s _ hs, hx s hs⟩
        fun s hs y _ => ⟨hB s y hs.1, hQ s y hs.1 hs.2⟩).2
    · exact ih _ hl (hB s y hs)

end Sys2Proof.Machine
end

section
/-! PROOFS.  Valve and analogue outputs, fans and pumps on PWM channels (R318 to R325), and the statements on them. -/

namespace Sys2Proof.Machine

/-! ### Frames of a channel -/

/-- What the PWM channels may change beside registers is forgotten: applied outputs, the bookkeeping of coolant I/O, free values. -/
def State.fanless (s : State) : State := { s with regs := [], cle := {}, cio := {}, free := 0 }

/-- As `fanless`, with the bookkeeping of coolant I/O kept. -/
def State.fanlessCio (s : State) : State := { s with regs := [], cle := {}, free := 0 }

/-- As `fanless`, with the recorder forgotten as well. -/
def State.fanlogless (s : State) : State := { s with regs := [], cle := {}, cio := {}, free := 0, evr := {}, irqPulse := false }

theorem Frame.onlyRegs_fan {rs : List Reg} {s t : State} (h : Frame State.fanless rs s t) :
    OnlyRegs rs { s with cle := t.cle, cio := t.cio, free := t.free } t :=
  ⟨h.1, congrArg (fun u : State => { u with cle := t.cle, cio := t.cio, free := t.free }) h.2⟩

theorem Frame.onlyRegs_fanCio {rs : List Reg} {s t : State} (h : Frame State.fanlessCio rs s t) :
    OnlyRegs rs { s with cle := t.cle, free := t.free } t :=
  ⟨h.1, congrArg (fun u : State => { u with cle := t.cle, free := t.free }) h.2⟩

theorem Frame.onlyLogs_fan {rs : List Reg} {s t : State} (h : Frame State.fanlogless (rs ++ recRegs) s t) :
    OnlyLogs rs { s with cle := t.cle, cio := t.cio, free := t.free } t :=
  ⟨h.1, congrArg (fun u : State => { u with cle := t.cle, cio := t.cio, free := t.free }) h.2⟩

/-- What keeps to `fanless` keeps to `fanlogless`. -/
theorem Frame.fanlog {rs : List Reg} {s t : State} (h : Frame State.fanless rs s t) : Frame State.fanlogless rs s t :=
  ⟨h.1, congrArg (fun u : State => { u with evr := {}, irqPulse := false }) h.2⟩

theorem Frame.fan {rs : List Reg} {s t : State} (h : Frame State.fanlessCio rs s t) : Frame State.fanless rs s t :=
  ⟨h.1, congrArg (fun u : State => { u with cio := {} }) h.2⟩

/-! ### Rounding -/

/-- A whole number is rounded to itself. -/
theorem State.roundNat_natCast (s : State) {w n : Nat} (h : n < 2 ^ w) : s.roundNat w (n : Rat) = (n, s) := by
  have hoff : s.roundOff (n : Rat) = ((n : Int), s) := by
    have hfloor : (n : Rat).floor = (n : Int) := by simpa using Rat.floor_intCast (n : Int)
    simp [State.roundOff, hfloor]
  rw [State.roundNat, hoff]
  simp
  omega

theorem State.regs_roundNat (s : State) (w : Nat) (v : Rat) : (s.roundNat w v).2.regs = s.regs := by
  rw [s.roundNat_free w v]

/-! ### DUTY and the applied output (R320) -/

theorem State.pwmShow_regs (s : State) (c : Nat) : ∃ v, (s.pwmShow c).regs = (s.wr F.CIO_PWM_STAT_DUTY c v).regs :=
  ⟨_, State.regs_wr_congr (s.regs_roundNat 10 _) _ _ _⟩

theorem State.pwmShow_frame (s : State) (c : Nat) : Frame State.fanlessCio [.CIO_PWM_STAT] s (s.pwmShow c) := by
  have hround : Frame State.fanlessCio [.CIO_PWM_STAT] s (s.roundNat 10 (10 * s.pwmDuty c)).2 :=
    (Frame.refl _ _ s).other (s.regs_roundNat _ _) (by rw [s.roundNat_free 10 (10 * s.pwmDuty c)]; rfl)
  exact (hround.wr (fun _ => rfl) F.CIO_PWM_STAT_DUTY c _ (by decide)).other rfl rfl

theorem State.cio_pwmShow (s : State) (c : Nat) : (s.pwmShow c).cio = s.cio :=
  (congrArg State.cio (s.pwmShow_frame c).2 :)

/-- The other fields of a channel's status stay. -/
theorem State.rd_pwmShow (s : State) (c d : Nat) (g : Fld) (h : g.reg ≠ .CIO_PWM_STAT ∨ 9 < g.lo) :
    (s.pwmShow c).rd g d = s.rd g d := by
  obtain ⟨v, hv⟩ := s.pwmShow_regs c
  rw [State.rd_congr_regs hv, State.rd_wr_ne]
  exact h.imp id fun h => ⟨by decide, .inr h⟩

/-- What is shown of a channel whose output is a whole percentage. -/
theorem State.pwmShow_whole {s : State} {c n : Nat} (h : s.pwmDuty c = n) (hn : n ≤ 100) :
    (s.pwmShow c).rd F.CIO_PWM_STAT_DUTY c = 10 * n ∧ (s.pwmShow c).act (8 + c) = n := by
  have hround : s.roundNat 10 (10 * s.pwmDuty c) = (10 * n, s) := by
    rw [h, ← s.roundNat_natCast (w := 10) (n := 10 * n) (by omega)]; push_cast; rfl
  have hmin : min 1000 (10 * n) = 10 * n := by omega
  have hshow : s.pwmShow c = (s.wr F.CIO_PWM_STAT_DUTY c (10 * n)).setAct (8 + c) n := by
    simp only [State.pwmShow, hround, hmin]
    rw [h]
  rw [hshow]
  refine ⟨?_, ?_⟩
  · refine (State.rd_congr_regs (s := s.wr F.CIO_PWM_STAT_DUTY c (10 * n)) rfl F.CIO_PWM_STAT_DUTY c).trans ((State.rd_wr_same _ _ _ _ (by decide)).trans ?_)
    exact Nat.mod_eq_of_lt (show 10 * n < 2 ^ 10 by omega)
  · simp [State.act, State.setAct, Assoc.get_set]

/-- Another channel's output stays. -/
theorem State.act_pwmShow_ne (s : State) {c d : Nat} (h : d ≠ c) : (s.pwmShow c).act (8 + d) = s.act (8 + d) := by
  have hcle : (s.roundNat 10 (10 * s.pwmDuty c)).2.cle = s.cle := by rw [s.roundNat_free 10 (10 * s.pwmDuty c)]
  simp only [State.pwmShow, State.act, State.setAct, Assoc.get_set, State.cle_wr, hcle]
  rw [if_neg (by omega)]

/-! ### FULL and the group (R325) -/

theorem State.pwmRampFrom_frame (s : State) (c : Nat) : Frame State.fanless [.CIO_PWM_STAT] s (s.pwmRampFrom c) :=
  ((Frame.refl _ _ s).wr (fun _ => rfl) F.CIO_PWM_STAT_STATE c pwRamp (by decide)).other rfl rfl

/-- What a channel's FULL becomes. -/
def State.pwmFull (s : State) (c : Nat) : Nat :=
  if s.flag F.CIO_STAT_VPERI && s.flag F.CIO_PWM_CFG_EN c && s.rd F.CIO_PWM_STAT_WHY c = 0 && s.pwmGroupFailed c then 1 else 0

/-- FULL follows the group; a channel that leaves it running, ramping or off ramps. -/
theorem State.pwmGroup_cases (s : State) (c : Nat) : s.pwmGroup c = s.wr F.CIO_PWM_STAT_FULL c (s.pwmFull c) ∨
    (s.flag F.CIO_PWM_STAT_FULL c = true ∧ (s.pwm c = pwRun ∨ s.pwm c = pwRamp ∨ s.pwm c = pwOff) ∧
      s.pwmGroup c = (s.wr F.CIO_PWM_STAT_FULL c (s.pwmFull c)).pwmRampFrom c) := by
  have hc : (s.wr F.CIO_PWM_STAT_FULL c (s.pwmFull c)).pwm c = s.pwm c := State.rd_wr_ne _ _ _ _ _ _ (.inr (by decide))
  rw [State.pwmGroup, ← State.pwmFull, hc]
  split
  · next h =>
    simp only [Bool.and_eq_true, Bool.or_eq_true, decide_eq_true_eq, or_assoc] at h
    exact .inr ⟨h.1.1, h.2, rfl⟩
  · exact .inl rfl

theorem State.regs_pwmRampFrom (s : State) (c : Nat) : (s.pwmRampFrom c).regs = (s.wr F.CIO_PWM_STAT_STATE c pwRamp).regs := rfl

theorem State.pwmGroup_frame (s : State) (c : Nat) : Frame State.fanless [.CIO_PWM_STAT] s (s.pwmGroup c) := by
  have hfull : ∀ v, Frame State.fanless [.CIO_PWM_STAT] s (s.wr F.CIO_PWM_STAT_FULL c v) :=
    fun v => (Frame.refl _ _ s).wr (fun _ => rfl) F.CIO_PWM_STAT_FULL c v (by decide)
  obtain h | ⟨-, -, h⟩ := s.pwmGroup_cases c
  · rw [h]; exact hfull _
  · rw [h]; exact (hfull _).trans (State.pwmRampFrom_frame _ c)

/-- Whatever FULL becomes, a channel that neither runs nor ramps nor is off stays in its state, and so does every other channel. -/
theorem State.pwm_pwmGroup (s : State) (c d : Nat) (hd : d ≠ c ∨ (s.pwm c ≠ pwRun ∧ s.pwm c ≠ pwRamp ∧ s.pwm c ≠ pwOff)) :
    (s.pwmGroup c).pwm d = s.pwm d := by
  have hwr : ∀ v, (s.wr F.CIO_PWM_STAT_FULL c v).pwm d = s.pwm d := fun v => State.rd_wr_ne _ _ _ _ _ _ (.inr (by decide))
  obtain h | ⟨-, hst, h⟩ := s.pwmGroup_cases c
  · rw [h]; exact hwr _
  · rcases hd with hd | ⟨hrun, hramp, hoff⟩
    · rw [h, State.pwm, State.rd_congr_regs (State.regs_pwmRampFrom _ _), State.rd_wr_idx _ _ _ _ _ _ hd]; exact hwr _
    · exact absurd hst (by simp [hrun, hramp, hoff])

/-- Without its FULL set before, a channel keeps its state. -/
theorem State.pwm_pwmGroup_of_not_full (s : State) (c : Nat) (hfull : s.flag F.CIO_PWM_STAT_FULL c = false) :
    (s.pwmGroup c).pwm c = s.pwm c := by
  obtain h | ⟨ht, -⟩ := s.pwmGroup_cases c
  · rw [h]; exact State.rd_wr_ne _ _ _ _ _ _ (.inr (by decide))
  · exact absurd ht (by simp [hfull])

/-- WHY, TRIES, OVR and DUTY of the channels stay. -/
theorem State.rd_pwmGroup (s : State) (c d : Nat) (g : Fld) (hg : g.reg ≠ .CIO_PWM_STAT ∨ g.hi < 28) :
    (s.pwmGroup c).rd g d = s.rd g d := by
  have hwr : ∀ v, (s.wr F.CIO_PWM_STAT_FULL c v).rd g d = s.rd g d :=
    fun v => State.rd_wr_ne _ _ _ _ _ _ (hg.imp id fun h => ⟨by decide, .inl h⟩)
  obtain h | ⟨-, -, h⟩ := s.pwmGroup_cases c
  · rw [h]; exact hwr _
  · rw [h, State.rd_congr_regs (State.regs_pwmRampFrom _ _), State.rd_wr_ne _ _ _ _ _ _
      (hg.imp id fun h => ⟨by decide, .inl (Nat.lt_of_lt_of_le h (by decide))⟩)]
    exact hwr _

/-- Neither commands nor outputs change with FULL. -/
theorem State.pwmGroup_keeps (s : State) (c : Nat) : (s.pwmGroup c).cio.cmds = s.cio.cmds ∧ (s.pwmGroup c).cle = s.cle := by
  obtain h | ⟨-, -, h⟩ := s.pwmGroup_cases c <;> rw [h] <;> exact ⟨rfl, rfl⟩

/-! ### Every channel -/

theorem State.pwmAll_frame (s : State) : Frame State.fanless [.CIO_PWM_STAT] s s.pwmAll :=
  Frame.foldl _ (Frame.refl _ _ s) fun v c => (v.pwmGroup_frame c).trans ((v.pwmGroup c).pwmShow_frame c).fan

/-- A channel that neither runs nor ramps nor is off keeps its state. -/
theorem State.pwm_pwmAll {s : State} {c x : Nat} (h : s.pwm c = x) (hx : x ≠ pwRun ∧ x ≠ pwRamp ∧ x ≠ pwOff) : s.pwmAll.pwm c = x := by
  refine List.foldlRecOn _ _ (motive := fun u : State => u.pwm c = x) h fun u hu d _ => ?_
  refine (State.rd_pwmShow _ _ _ _ (.inr (by decide))).trans ((State.pwm_pwmGroup _ _ _ ?_).trans hu)
  by_cases hd : c = d
  · subst hd; exact .inr (hu ▸ hx)
  · exact .inl hd

/-- WHY, TRIES and OVR of the channels stay, and so do other registers. -/
theorem State.rd_pwmAll (s : State) (d : Nat) (g : Fld) (h : g.reg ≠ .CIO_PWM_STAT ∨ (9 < g.lo ∧ g.hi < 28)) : s.pwmAll.rd g d = s.rd g d :=
  List.foldlRecOn _ _ (motive := fun u : State => u.rd g d = s.rd g d) rfl fun _ hu _ _ =>
    ((State.rd_pwmShow _ _ _ _ (h.imp id And.left)).trans (State.rd_pwmGroup _ _ _ _ (h.imp id And.right))).trans hu

/-! ### A channel that fails (R322, R323) -/

/-- Whether a channel has failed for a lost tachometer. -/
def State.tachFailed (s : State) (c : Nat) : Prop := s.pwm c = pwFailed ∧ s.rd F.CIO_PWM_STAT_WHY c = 2

theorem State.tachFailed_show {s : State} {c : Nat} (h : s.tachFailed c) (d : Nat) : ((s.pwmGroup d).pwmShow d).tachFailed c := by
  obtain ⟨hst, hwhy⟩ := h
  refine ⟨(State.rd_pwmShow _ _ _ _ (.inr (by decide))).trans ((State.pwm_pwmGroup _ _ _ ?_).trans hst),
    (State.rd_pwmShow _ _ _ _ (.inr (by decide))).trans ((State.rd_pwmGroup _ _ _ _ (.inr (by decide))).trans hwhy)⟩
  by_cases hd : c = d
  · subst hd; rw [hst]; exact .inr (by decide)
  · exact .inl hd

/-- A channel failed for a lost tachometer is driven in full. -/
theorem State.pwmAll_tachFailed {s : State} {c : Nat} (hc : c < 8) (h : s.tachFailed c) :
    s.pwmAll.rd F.CIO_PWM_STAT_DUTY c = 1000 ∧ s.pwmAll.act (8 + c) = 100 := by
  have hx : ∀ u : State, u.tachFailed c →
      ((u.pwmGroup c).pwmShow c).rd F.CIO_PWM_STAT_DUTY c = 1000 ∧ ((u.pwmGroup c).pwmShow c).act (8 + c) = 100 := by
    intro u hu
    obtain ⟨hst, hwhy⟩ := hu
    have hst' : (u.pwmGroup c).pwm c = pwFailed := (State.pwm_pwmGroup _ _ _ (by rw [hst]; exact .inr (by decide))).trans hst
    have hwhy' : (u.pwmGroup c).rd F.CIO_PWM_STAT_WHY c = 2 := (State.rd_pwmGroup _ _ _ _ (.inr (by decide))).trans hwhy
    have hduty : (u.pwmGroup c).pwmDuty c = (100 : Nat) := by
      unfold State.pwmDuty
      simp [hst', hwhy']
    exact State.pwmShow_whole hduty (by decide)
  refine foldl_of_mem_of (fun u : State => u.tachFailed c) (fun u => u.rd F.CIO_PWM_STAT_DUTY c = 1000 ∧ u.act (8 + c) = 100)
    (fun u d hu => State.tachFailed_show hu d) hx (fun u d hu hq => ?_) _ s (List.mem_range.2 hc) h
  by_cases hd : c = d
  · subst hd; exact hx u hu
  · obtain ⟨hduty, hact⟩ := hq
    obtain ⟨v, hv⟩ := (u.pwmGroup d).pwmShow_regs d
    refine ⟨?_, (State.act_pwmShow_ne _ hd).trans ((congrArg (fun x : Cle => Assoc.get 0 x.acts (8 + c)) (u.pwmGroup_keeps d).2).trans hact)⟩
    exact (State.rd_congr_regs hv _ _).trans ((State.rd_wr_idx _ _ _ _ _ _ hd).trans
      ((State.rd_pwmGroup _ _ _ _ (.inr (by decide))).trans hduty))

/-- The channel marked failed, with the cause raised. -/
def State.pwmMarked (s : State) (c why : Nat) : State :=
  ((s.wr F.CIO_PWM_STAT_STATE c pwFailed).wr F.CIO_PWM_STAT_WHY c why).raiseFor F.CIO_CAUSE_FAN_FAIL 0 c 2 [wd c, wd why]

theorem State.pwmFail_eq (s : State) (c why : Nat) : s.pwmFail c why = (s.pwmMarked c why).pwmAll := rfl

theorem State.pwmMarked_marks (s : State) (c : Nat) {why : Nat} (hw : why < 4) :
    (s.pwmMarked c why).pwm c = pwFailed ∧ (s.pwmMarked c why).rd F.CIO_PWM_STAT_WHY c = why := by
  have hreg : ∀ g : Fld, g.reg = .CIO_PWM_STAT →
      (s.pwmMarked c why).rd g c = ((s.wr F.CIO_PWM_STAT_STATE c pwFailed).wr F.CIO_PWM_STAT_WHY c why).rd g c := fun g hg =>
    State.rd_congr ((State.reg_raiseFor _ _ _ _ _ _ _ _ _ (by rw [hg]; decide)).trans
      (State.reg_wr_ne _ _ _ _ _ _ (by rw [hg]; decide)))
  refine ⟨(hreg _ rfl).trans ?_, (hreg _ rfl).trans ?_⟩
  · exact (State.rd_wr_ne _ F.CIO_PWM_STAT_WHY _ _ _ _ (.inr (by decide))).trans ((State.rd_wr_same _ _ _ _ (by decide)).trans rfl)
  · exact (State.rd_wr_same _ _ _ _ (by decide)).trans (Nat.mod_eq_of_lt hw)

theorem State.pwmFail_effect (s : State) (c : Nat) {why : Nat} (hw : why < 4) :
    (s.pwmFail c why).pwm c = pwFailed ∧ (s.pwmFail c why).rd F.CIO_PWM_STAT_WHY c = why ∧
    (s.pwmFail c why).flag F.CIO_CAUSE_FAN_FAIL = true ∧
    Frame State.fanlogless ([.CIO_PWM_STAT, .CIO_CAUSE] ++ recRegs) s (s.pwmFail c why) := by
  obtain ⟨hst, hwhy⟩ := s.pwmMarked_marks c hw
  have hmarked : Frame State.fanlogless ([.CIO_PWM_STAT, .CIO_CAUSE] ++ recRegs) s (s.pwmMarked c why) :=
    (((Frame.refl _ _ s).wr (fun _ => rfl) F.CIO_PWM_STAT_STATE c _ (by decide)).wr (fun _ => rfl) F.CIO_PWM_STAT_WHY c _ (by decide)).raiseFor
      (fun _ => rfl) _ _ _ _ _ _ (by decide) (by decide)
  refine ⟨State.pwm_pwmAll hst (by decide), (State.rd_pwmAll _ _ _ (.inr (by decide))).trans hwhy, ?_,
    hmarked.trans ((State.pwmAll_frame _).fanlog.mono (by decide))⟩
  rw [State.pwmFail_eq, (State.pwmAll_frame _).flag _ (by decide)]
  exact (State.flag_congr (State.reg_raiseFor _ _ _ _ _ _ _ _ _ (by decide))).trans (State.flag_wr_one _ _ _ (by decide))

/-- Settles O60: the channel is marked failed with its record, and no channel's FULL or state moves it on. -/
theorem aLostTachometerFailsItsChannel : Obligations.ALostTachometerFailsItsChannel := by
  unfold Obligations.ALostTachometerFailsItsChannel
  intro c s hst htach hroom
  obtain ⟨hpwm, hwhy, hfan, -⟩ := s.pwmFail_effect c (why := 2) (by decide)
  obtain ⟨hduty, hact⟩ := State.pwmAll_tachFailed (s := s.pwmMarked c 2) c.isLt (s.pwmMarked_marks c (by decide))
  obtain ⟨r, hbuf, hblock, hevent, hinst, hsev, -⟩ :=
    State.raiseFor_room (s := (s.wr F.CIO_PWM_STAT_STATE c pwFailed).wr F.CIO_PWM_STAT_WHY c 2) F.CIO_CAUSE_FAN_FAIL 0 c 2 [wd c, wd 2] 0x3FF hroom
  have hevr : (s.pwmFail c 2).evr = (s.pwmMarked c 2).evr := (congrArg State.evr (State.pwmAll_frame (s.pwmMarked c 2)).2 :)
  refine ⟨_, if_pos ⟨hst, htach⟩, hpwm, hwhy, hact, hduty, hfan, r, ?_, hblock, hevent, hinst, hsev⟩
  rw [hevr, State.pwmMarked, hbuf]
  exact List.mem_append_right _ (List.mem_singleton.2 rfl)

/-! ### A channel in line with its enable, supply, failure and command (R318, R320) -/

/-- The state the first part of `pwmEval` leaves. -/
def State.pwmSet (s : State) (c : Nat) : State :=
  if !(s.flag F.CIO_PWM_CFG_EN c) || !(s.flag F.CIO_STAT_VPERI) then s.wr F.CIO_PWM_STAT_STATE c pwReleased
  else if s.rd F.CIO_PWM_STAT_WHY c ≠ 0 then s.wr F.CIO_PWM_STAT_STATE c pwFailed
  else if s.pwmCmd c = 0 then s.wr F.CIO_PWM_STAT_STATE c pwOff
  else if s.pwm c = pwOff || s.pwm c = pwReleased || s.pwm c = pwFailed then s.wr F.CIO_PWM_STAT_STATE c pwKick
  else s

theorem State.pwmEval_eq (s : State) (c : Nat) : s.pwmEval c = ((s.pwmSet c).pwmGroup c).pwmShow c := rfl

theorem State.pwmSet_frame (s : State) (c : Nat) : Frame State.fanlessCio [.CIO_PWM_STAT] s (s.pwmSet c) := by
  have hwr : ∀ v, Frame State.fanlessCio [.CIO_PWM_STAT] s (s.wr F.CIO_PWM_STAT_STATE c v) :=
    fun v => (Frame.refl _ _ s).wr (fun _ => rfl) F.CIO_PWM_STAT_STATE c v (by decide)
  exact .ite (hwr _) (.ite (hwr _) (.ite (hwr _) (.ite (hwr _) (.refl _ _ s))))

theorem State.pwmEval_frame (s : State) (c : Nat) : Frame State.fanless [.CIO_PWM_STAT] s (s.pwmEval c) :=
  (s.pwmSet_frame c).fan.trans (((s.pwmSet c).pwmGroup_frame c).trans (((s.pwmSet c).pwmGroup c).pwmShow_frame c).fan)

theorem State.cmds_pwmEval (s : State) (c : Nat) : (s.pwmEval c).cio.cmds = s.cio.cmds := by
  rw [State.pwmEval_eq, State.cio_pwmShow, (State.pwmGroup_keeps _ c).1]
  exact (congrArg (fun u : State => u.cio.cmds) (s.pwmSet_frame c).2 :)

/-- Only STATE of the channel is set. -/
theorem State.rd_pwmSet (s : State) (c : Nat) {g : Fld} (hg : g.hi < 29) (d : Nat) : (s.pwmSet c).rd g d = s.rd g d := by
  have hwr : ∀ v, (s.wr F.CIO_PWM_STAT_STATE c v).rd g d = s.rd g d :=
    fun v => State.rd_wr_ne _ _ _ _ _ _ (.inr ⟨by decide, .inl hg⟩)
  unfold State.pwmSet
  split
  · exact hwr _
  · split
    · exact hwr _
    · split
      · exact hwr _
      · split
        · exact hwr _
        · rfl

/-- WHY, TRIES and OVR stay. -/
theorem State.rd_pwmEval (s : State) (c d : Nat) {g : Fld} (hg : 9 < g.lo ∧ g.hi < 28) : (s.pwmEval c).rd g d = s.rd g d :=
  (State.rd_pwmShow _ _ _ _ (.inr hg.1)).trans ((State.rd_pwmGroup _ _ _ _ (.inr hg.2)).trans (State.rd_pwmSet _ _ (by omega) _))

theorem State.pwm_pwmEval {s : State} {c x : Nat} (h : (s.pwmSet c).pwm c = x) (hx : x ≠ pwRun ∧ x ≠ pwRamp ∧ x ≠ pwOff) :
    (s.pwmEval c).pwm c = x := by
  rw [State.pwmEval_eq]
  exact (State.rd_pwmShow _ _ _ _ (.inr (by decide))).trans ((State.pwm_pwmGroup _ _ _ (.inr (h ▸ hx))).trans h)

/-- A channel without enable or supply is released. -/
theorem State.pwm_pwmEval_released {s : State} {c : Nat} (h : s.flag F.CIO_PWM_CFG_EN c = false) : (s.pwmEval c).pwm c = pwReleased := by
  have hset : s.pwmSet c = s.wr F.CIO_PWM_STAT_STATE c pwReleased := if_pos (by simp [h])
  have hst : (s.pwmSet c).pwm c = pwReleased := by rw [hset]; exact State.rd_wr_same _ _ _ _ (by decide)
  exact State.pwm_pwmEval hst (by decide)

/-- A commanded channel that is off, released or failed no more is kicked. -/
theorem State.pwm_pwmEval_kick {s : State} {c : Nat} (hen : s.flag F.CIO_PWM_CFG_EN c = true) (hsup : s.flag F.CIO_STAT_VPERI = true)
    (hwhy : s.rd F.CIO_PWM_STAT_WHY c = 0) (hcmd : s.pwmCmd c ≠ 0) (hst : s.pwm c = pwOff ∨ s.pwm c = pwReleased ∨ s.pwm c = pwFailed) :
    (s.pwmEval c).pwm c = pwKick := by
  have hset : s.pwmSet c = s.wr F.CIO_PWM_STAT_STATE c pwKick := by
    have hany : (decide (s.pwm c = pwOff) || decide (s.pwm c = pwReleased) || decide (s.pwm c = pwFailed)) = true := by
      simpa [or_assoc] using hst
    simp only [State.pwmSet, hen, hsup, hwhy, hcmd, hany]
    rfl
  have hkick : (s.pwmSet c).pwm c = pwKick := by rw [hset]; exact State.rd_wr_same _ _ _ _ (by decide)
  exact State.pwm_pwmEval hkick (by decide)

/-- The drivers of a destination follow the slots' registers. -/
theorem State.driven_congr {s t : State} (h : ∀ r k, r = .CLE_SLOT_CFG ∨ r = .CLE_SLOT_IO → t.reg r k = s.reg r k) (d : Nat) :
    t.driven d = s.driven d := by
  have hen : ∀ k, t.flag F.CLE_SLOT_CFG_EN k = s.flag F.CLE_SLOT_CFG_EN k := fun k => State.flag_congr (h _ _ (.inl rfl))
  have hdst : ∀ k, t.rd F.CLE_SLOT_IO_DST k = s.rd F.CLE_SLOT_IO_DST k := fun k => State.rd_congr (h _ _ (.inr rfl))
  have hdrivers : t.drivers d = s.drivers d := by simp only [State.drivers, hen, hdst]
  rw [State.driven, State.driven, hdrivers]

/-! ### Configuration and commands of a channel (R320, R338, R341) -/

/-- Without a failed channel the word is taken. -/
theorem State.writePwmCfg_taken {s : State} (c : Nat) (w : Word) (h : ∀ d, d < 8 → s.rd F.CIO_PWM_STAT_WHY d = 0) :
    s.writePwmCfg c w = ((s.setReg .CIO_PWM_CFG c (w &&& Reg.accMask .CIO_PWM_CFG .RW)).pwmEval c).pwmAll := by
  have hnone : ∀ x : Word, ((List.range 8).any fun d => s.flag F.CIO_PWM_CFG_FGEN d &&
      decide (s.rd F.CIO_PWM_CFG_FGRP d = fieldOf x F.CIO_PWM_CFG_FGRP) && decide (s.rd F.CIO_PWM_STAT_WHY d ≠ 0)) = false := by
    intro x
    rw [List.any_eq_false]
    intro d hd
    simp [h d (List.mem_range.1 hd)]
  simp only [State.writePwmCfg, hnone, Bool.and_false, Bool.or_self, Bool.false_eq_true, if_false]

/-- The bits of a field that every access mask bit of it covers. -/
theorem fieldOf_and_mask (w m : Word) (f : Fld) (h : ∀ i, f.lo ≤ i → i ≤ f.hi → m.getLsbD i = true) : fieldOf (w &&& m) f = fieldOf w f := by
  apply Nat.eq_of_testBit_eq
  intro i
  rw [fieldOf, fieldOf, bitsOf_testBit, bitsOf_testBit, ← BitVec.getLsbD, ← BitVec.getLsbD, BitVec.getLsbD_and]
  by_cases hi : i < f.hi + 1 - f.lo
  · rw [h _ (by omega) (by omega), Bool.and_true]
  · simp [hi]

/-- A member of a group with a failure keeps the group it has. -/
def State.pwmKept (s : State) (c : Nat) (w : Word) : Word :=
  setField (setField (w &&& Reg.accMask .CIO_PWM_CFG .RW) F.CIO_PWM_CFG_FGEN (fieldOf (s.reg .CIO_PWM_CFG c) F.CIO_PWM_CFG_FGEN))
    F.CIO_PWM_CFG_FGRP (fieldOf (s.reg .CIO_PWM_CFG c) F.CIO_PWM_CFG_FGRP)

theorem State.writePwmCfg_kept {s : State} {c : Nat} {w : Word} (hc : c < 8) (hgen : s.flag F.CIO_PWM_CFG_FGEN c = true)
    (hwhy : s.rd F.CIO_PWM_STAT_WHY c ≠ 0) (hleave : fieldOf w F.CIO_PWM_CFG_FGRP ≠ s.rd F.CIO_PWM_CFG_FGRP c) :
    s.writePwmCfg c w = ((s.setReg .CIO_PWM_CFG c (s.pwmKept c w)).raise F.CIO_CAUSE_CFGERR).pwmEval c := by
  have hgrp : fieldOf (w &&& Reg.accMask .CIO_PWM_CFG .RW) F.CIO_PWM_CFG_FGRP = fieldOf w F.CIO_PWM_CFG_FGRP :=
    fieldOf_and_mask _ _ _ fun i hlo hhi => by
      have hlo : 24 ≤ i := hlo
      have hhi : i ≤ 25 := hhi
      interval_cases i <;> decide
  have hmoves : decide (fieldOf (s.reg .CIO_PWM_CFG c) F.CIO_PWM_CFG_FGRP ≠ fieldOf (w &&& Reg.accMask .CIO_PWM_CFG .RW) F.CIO_PWM_CFG_FGRP) = true := by
    rw [hgrp, decide_eq_true_eq]; exact hleave.symm
  have hone : decide (fieldOf (s.reg .CIO_PWM_CFG c) F.CIO_PWM_CFG_FGEN = 1) = true := by
    have hlt : fieldOf (s.reg .CIO_PWM_CFG c) F.CIO_PWM_CFG_FGEN < 2 := fieldOf_lt _ _
    have hne : fieldOf (s.reg .CIO_PWM_CFG c) F.CIO_PWM_CFG_FGEN ≠ 0 := State.flag_eq_true.1 hgen
    rw [decide_eq_true_eq]; omega
  have hfailed : ((List.range 8).any fun d => s.flag F.CIO_PWM_CFG_FGEN d &&
      decide (s.rd F.CIO_PWM_CFG_FGRP d = fieldOf (s.reg .CIO_PWM_CFG c) F.CIO_PWM_CFG_FGRP) && decide (s.rd F.CIO_PWM_STAT_WHY d ≠ 0)) = true :=
    List.any_eq_true.2 ⟨c, List.mem_range.2 hc, by simp [hgen, hwhy]; rfl⟩
  unfold State.writePwmCfg
  simp only [hmoves, hone, hfailed, Bool.and_self, Bool.or_true, Bool.true_or, if_true]
  rfl

/-- PWM_CFG_WRITE of a channel whose group holds no failure. -/
theorem State.writePwmCfg_effect {s : State} (c : Nat) (w : Word) (h : ∀ d, d < 8 → s.rd F.CIO_PWM_STAT_WHY d = 0) :
    (s.writePwmCfg c w).reg .CIO_PWM_CFG c = w &&& Reg.accMask .CIO_PWM_CFG .RW ∧
    (fieldOf w F.CIO_PWM_CFG_EN = 0 → (s.writePwmCfg c w).pwm c = pwReleased) ∧
    Frame State.fanless [.CIO_PWM_CFG, .CIO_PWM_STAT] s (s.writePwmCfg c w) := by
  rw [State.writePwmCfg_taken c w h]
  generalize hu : s.setReg .CIO_PWM_CFG c (w &&& Reg.accMask .CIO_PWM_CFG .RW) = u
  have hcfg : u.reg .CIO_PWM_CFG c = w &&& Reg.accMask .CIO_PWM_CFG .RW := by rw [← hu, State.reg_setReg, if_pos ⟨rfl, rfl⟩]
  have hframe : Frame State.fanless [.CIO_PWM_STAT] u (u.pwmEval c).pwmAll := (u.pwmEval_frame c).trans (u.pwmEval c).pwmAll_frame
  refine ⟨(hframe.1 _ _ (by decide)).trans hcfg, fun hen => ?_, ?_⟩
  · have hmask : fieldOf (w &&& Reg.accMask .CIO_PWM_CFG .RW) F.CIO_PWM_CFG_EN = fieldOf w F.CIO_PWM_CFG_EN :=
      fieldOf_and_mask _ _ _ fun i hlo hhi => by
        have hlo : 31 ≤ i := hlo
        have hhi : i ≤ 31 := hhi
        interval_cases i; decide
    have hoff : u.flag F.CIO_PWM_CFG_EN c = false := State.flag_eq_false.2 (by rw [State.rd]; exact (congrArg (fieldOf · _) hcfg).trans (hmask.trans hen))
    exact State.pwm_pwmAll (State.pwm_pwmEval_released hoff) (by decide)
  · have hset : Frame State.fanless [.CIO_PWM_CFG, .CIO_PWM_STAT] s u := hu ▸ (Frame.refl _ _ s).setReg (fun _ => rfl) _ _ (by decide)
    exact hset.trans (hframe.mono (by decide))

/-- PWM_CFG_WRITE that would leave a group with a failure. -/
theorem State.writePwmCfg_leave {s : State} {c : Nat} {w : Word} (hc : c < 8) (hgen : s.flag F.CIO_PWM_CFG_FGEN c = true)
    (hwhy : s.rd F.CIO_PWM_STAT_WHY c ≠ 0) (hleave : fieldOf w F.CIO_PWM_CFG_FGRP ≠ s.rd F.CIO_PWM_CFG_FGRP c) :
    (s.writePwmCfg c w).flag F.CIO_CAUSE_CFGERR = true ∧ (s.writePwmCfg c w).rd F.CIO_PWM_CFG_FGRP c = s.rd F.CIO_PWM_CFG_FGRP c ∧
    (s.writePwmCfg c w).flag F.CIO_PWM_CFG_FGEN c = true ∧
    Frame State.fanlogless ([.CIO_PWM_CFG, .CIO_PWM_STAT, .CIO_CAUSE] ++ recRegs) s (s.writePwmCfg c w) := by
  rw [State.writePwmCfg_kept hc hgen hwhy hleave]
  generalize hu : (s.setReg .CIO_PWM_CFG c (s.pwmKept c w)).raise F.CIO_CAUSE_CFGERR = u
  have heval := u.pwmEval_frame c
  have hcfg : u.reg .CIO_PWM_CFG c = s.pwmKept c w := by
    rw [← hu, State.reg_raise _ _ _ _ _ _ _ _ (by decide), State.reg_wr_ne _ _ _ _ _ _ (by decide), State.reg_setReg, if_pos ⟨rfl, rfl⟩]
  have hgrp : fieldOf (s.pwmKept c w) F.CIO_PWM_CFG_FGRP = s.rd F.CIO_PWM_CFG_FGRP c :=
    (fieldOf_setField _ _ _ (by decide) (by decide)).trans (Nat.mod_eq_of_lt (fieldOf_lt _ _))
  have hfgen : fieldOf (s.pwmKept c w) F.CIO_PWM_CFG_FGEN = s.rd F.CIO_PWM_CFG_FGEN c :=
    (fieldOf_setField_ne _ _ _ _ (by decide) (by decide)).trans
      ((fieldOf_setField _ _ _ (by decide) (by decide)).trans (Nat.mod_eq_of_lt (fieldOf_lt _ _)))
  have hkeep : ∀ g : Fld, g.reg = .CIO_PWM_CFG → (u.pwmEval c).rd g c = fieldOf (s.pwmKept c w) g := fun g hg => by
    rw [heval.rd g (by rw [hg]; decide), State.rd, hg, hcfg]
  refine ⟨?_, (hkeep _ rfl).trans hgrp, ?_, ?_⟩
  · rw [heval.flag _ (by decide), ← hu]; exact State.flag_raise_same _ _ _ _ _ _ (by decide)
  · rw [State.flag_eq_true, hkeep _ rfl, hfgen]; exact State.flag_eq_true.1 hgen
  · have hset : Frame State.fanlogless ([.CIO_PWM_CFG, .CIO_PWM_STAT, .CIO_CAUSE] ++ recRegs) s u :=
      hu ▸ ((Frame.refl _ _ s).setReg (fun _ => rfl) _ _ (by decide)).raise (fun _ => rfl) _ _ _ _ _ (by decide) (by decide)
    exact hset.trans (heval.fanlog.mono (by decide))

/-- A percent write to a channel that no slot drives. -/
theorem State.writePwmCmd_effect {s : State} (c : Nat) (w : Word) (hdrv : s.driven (8 + c) = false) (hen : s.flag F.CIO_PWM_CFG_EN c = true)
    (hsup : s.flag F.CIO_STAT_VPERI = true) (hwhy : s.rd F.CIO_PWM_STAT_WHY c = 0) :
    (s.writePwmCmd c w).pwmCmd c = percent (cwVal w) ∧ (s.pwm c = pwOff → 0 < cwVal w → (s.writePwmCmd c w).pwm c = pwKick) ∧
    Frame State.fanless [.CIO_PWM_STAT] s (s.writePwmCmd c w) := by
  have hwrite : s.writePwmCmd c w = (s.modCio fun x => { x with cmds := Assoc.set 0 x.cmds (0x20 + 4 * c) w }).pwmEval c := by
    rw [State.writePwmCmd, if_neg (by simp [hdrv])]
  rw [hwrite]
  generalize hu : (s.modCio fun x => { x with cmds := Assoc.set 0 x.cmds (0x20 + 4 * c) w }) = u
  have hregs : u.regs = s.regs := by rw [← hu]; rfl
  have hcmds : Assoc.get 0 u.cio.cmds (0x20 + 4 * c) = w := by rw [← hu]; simp [State.modCio, Assoc.get_set]
  have hdrv' : u.driven (8 + c) = false := (State.driven_congr (fun r k _ => State.reg_congr_regs hregs r k) _).trans hdrv
  have hcmd : ∀ v : State, v.driven (8 + c) = false → v.cio.cmds = u.cio.cmds → v.pwmCmd c = percent (cwVal w) := fun v hv hc => by
    simp only [State.pwmCmd, hv, hc, hcmds, Bool.false_eq_true, if_false]
  have heval := u.pwmEval_frame c
  have hdrvEval : (u.pwmEval c).driven (8 + c) = false :=
    (State.driven_congr (fun r k hr => heval.1 r k (by rcases hr with rfl | rfl <;> decide)) _).trans hdrv'
  have hmod : Frame State.fanless [.CIO_PWM_STAT] s u := (Frame.refl _ _ s).other hregs (by rw [← hu]; rfl)
  refine ⟨hcmd _ hdrvEval (u.cmds_pwmEval c), fun hoff hpos => ?_, hmod.trans heval⟩
  have hne : u.pwmCmd c ≠ 0 := by
    have hmin : 0 < percent (cwVal w) := lt_max_of_lt_right (lt_min (by norm_num) hpos)
    rw [hcmd u hdrv' rfl]; exact ne_of_gt hmin
  have hst : u.pwm c = pwOff := (State.rd_congr_regs hregs _ _).trans hoff
  exact State.pwm_pwmEval_kick ((State.flag_congr_regs hregs _ _).trans hen) ((State.flag_congr_regs hregs _ _).trans hsup)
    ((State.rd_congr_regs hregs _ _).trans hwhy) hne (.inl hst)

/-! ### Tachometers and kicks (R321 to R324) -/

/-- A channel shown after its state is set. -/
theorem State.pwm_shown (s : State) (c : Nat) {x : Nat} (hx : x < 8) : ((s.wr F.CIO_PWM_STAT_STATE c x).pwmShow c).pwm c = x :=
  (State.rd_pwmShow _ _ _ _ (.inr (by decide))).trans ((State.rd_wr_same _ _ _ _ (by decide)).trans (Nat.mod_eq_of_lt hx))

theorem State.shown_frame (s : State) (c x : Nat) :
    Frame State.fanlessCio [.CIO_PWM_STAT] s ((s.wr F.CIO_PWM_STAT_STATE c x).pwmShow c) :=
  ((Frame.refl _ _ s).wr (fun _ => rfl) F.CIO_PWM_STAT_STATE c x (by decide)).trans (State.pwmShow_frame _ c)

theorem State.pwm_ramped (s : State) (c : Nat) : ((s.pwmRampFrom c).pwmShow c).pwm c = pwRamp :=
  (State.rd_pwmShow _ _ _ _ (.inr (by decide))).trans
    ((State.rd_congr_regs (s.regs_pwmRampFrom c) _ _).trans (State.rd_wr_same _ _ _ _ (by decide)))

theorem State.ramped_frame (s : State) (c : Nat) : Frame State.fanless [.CIO_PWM_STAT] s ((s.pwmRampFrom c).pwmShow c) :=
  (s.pwmRampFrom_frame c).trans (State.pwmShow_frame _ c).fan

/-- The module with the speed of a period of `n` ns shown. -/
def State.tachShown (s : State) (t n : Nat) : State := (s.wr F.CIO_PWM_STAT_OVR t 0).setRead (0x0A + t) ((1000000000 : Rat) / n)

theorem State.regs_tachShown (s : State) (t n : Nat) : (s.tachShown t n).regs = (s.wr F.CIO_PWM_STAT_OVR t 0).regs := rfl

theorem execTachEdge_good (t : Fin 8) (n : Word) (s : State) (h : 50000 ≤ n.toNat) : execTachEdge t n s =
    if n.toNat * max 1 (s.rd F.CIO_PWM_CFG_TMIN t) < 1000000000 ∧ s.pwm t = pwKick ∧ s.flag F.CIO_PWM_CFG_TACHEN t = true then
      .next (((s.tachShown t n.toNat).pwmRampFrom t).pwmShow t) else .next (s.tachShown t n.toNat) := by
  have hovr : decide (n.toNat < 50000) = false := decide_eq_false (by omega)
  have htmin : (s.tachShown t n.toNat).rd F.CIO_PWM_CFG_TMIN t = s.rd F.CIO_PWM_CFG_TMIN t :=
    (State.rd_congr_regs (s.regs_tachShown _ _) _ _).trans (State.rd_wr_ne _ _ _ _ _ _ (.inl (by decide)))
  have hpwm : (s.tachShown t n.toNat).pwm t = s.pwm t :=
    (State.rd_congr_regs (s.regs_tachShown _ _) _ _).trans (State.rd_wr_ne _ _ _ _ _ _ (.inr (by decide)))
  have hen : (s.tachShown t n.toNat).flag F.CIO_PWM_CFG_TACHEN t = s.flag F.CIO_PWM_CFG_TACHEN t :=
    (State.flag_congr_regs (s.regs_tachShown _ _) _ _).trans (State.flag_wr_ne _ _ _ _ _ _ (.inl (by decide)))
  simp only [execTachEdge, hovr, Bool.false_eq_true, if_false]
  rw [← State.tachShown, htmin, hpwm, hen]

theorem State.tachShown_effect (s : State) (t n : Nat) : (s.tachShown t n).flag F.CIO_PWM_STAT_OVR t = false ∧
    Assoc.find (s.tachShown t n).cio.reads (0x0A + t) = some { v := 1000000000 / (n : Rat), at_ := s.up } ∧
    OnlyRegs [.CIO_PWM_STAT] { s with cio := (s.tachShown t n).cio } (s.tachShown t n) := by
  refine ⟨(State.flag_congr_regs (s.regs_tachShown t n) _ _).trans (State.flag_wr_zero _ _ _ (by decide)), ?_, ?_⟩
  · simp [State.tachShown, State.setRead, Assoc.find_put]
  · exact ⟨fun r i hr => (State.reg_congr_regs (s.regs_tachShown t n) r i).trans (State.reg_wr_ne _ _ _ _ _ _ fun e => hr (by rw [e]; decide)), rfl⟩

/-- A period too short for the tachometer of a channel that is not kicked. -/
theorem execTachEdge_short {t : Fin 8} {n : Word} {s : State} (h : n.toNat < 50000) (hovr : s.flag F.CIO_PWM_STAT_OVR t = false)
    (hst : s.pwm t ≠ pwKick) :
    execTachEdge t n s = .next ((s.wr F.CIO_PWM_STAT_OVR t 1).raiseFor F.CIO_CAUSE_TACH_OVR 0 t) := by
  have hpwm : ((s.wr F.CIO_PWM_STAT_OVR t 1).raiseFor F.CIO_CAUSE_TACH_OVR 0 t).pwm t = s.pwm t :=
    (State.rd_congr ((State.reg_raiseFor _ _ _ _ _ _ _ _ _ (by decide)).trans (State.reg_wr_ne _ _ _ _ _ _ (by decide)))).trans
      (State.rd_wr_ne _ _ _ _ _ _ (.inr (by decide)))
  simp only [execTachEdge, decide_eq_true h, hovr, if_true, Bool.false_eq_true, if_false, hpwm]
  exact if_neg fun e => hst e.2.1

theorem State.tachOvr_effect (s : State) (t : Nat) :
    ((s.wr F.CIO_PWM_STAT_OVR t 1).raiseFor F.CIO_CAUSE_TACH_OVR 0 t).flag F.CIO_PWM_STAT_OVR t = true ∧
    ((s.wr F.CIO_PWM_STAT_OVR t 1).raiseFor F.CIO_CAUSE_TACH_OVR 0 t).flag F.CIO_CAUSE_TACH_OVR = true ∧
    OnlyLogs [.CIO_PWM_STAT, .CIO_CAUSE] s ((s.wr F.CIO_PWM_STAT_OVR t 1).raiseFor F.CIO_CAUSE_TACH_OVR 0 t) := by
  have hframe : Frame State.logless ([.CIO_PWM_STAT, .CIO_CAUSE] ++ recRegs) s ((s.wr F.CIO_PWM_STAT_OVR t 1).raiseFor F.CIO_CAUSE_TACH_OVR 0 t) :=
    ((Frame.refl _ _ s).wr (fun _ => rfl) F.CIO_PWM_STAT_OVR t 1 (by decide)).raiseFor (fun _ => rfl) _ _ _ _ _ _ (by decide) (by decide)
  refine ⟨?_, ?_, hframe⟩
  · exact (State.flag_congr ((State.reg_raiseFor _ _ _ _ _ _ _ _ _ (by decide)).trans (State.reg_wr_ne _ _ _ _ _ _ (by decide)))).trans
      (State.flag_wr_one _ _ _ (by decide))
  · exact (State.flag_congr (State.reg_raiseFor _ _ _ _ _ _ _ _ _ (by decide))).trans (State.flag_wr_one _ _ _ (by decide))

/-- Settles O44: each command writes a channel's status, and what follows in its group leaves the channel's state. -/
theorem valveOutputsFansAndTachometers : Obligations.ValveOutputsFansAndTachometers := by
  unfold Obligations.ValveOutputsFansAndTachometers
  refine ⟨?aoFault, ?aoAgain, ?aoClear, ?cfg, ?leave, ?percent, ?driven, ?edge, ?edgeKick, ?short, ?noKick, ?kickRamp, ?kickPause, ?kickFail,
    ?pause, ?noPause, ?rampEnd, ?noRamp, ?lost, ?noTach, ?ovr, ?noOvr, ?clear⟩
  case aoFault =>
    intro a s h
    have hset : ((s.wr F.CIO_AO_CFG_FAULT a 1).raiseFor F.CIO_CAUSE_AO_FAULT 0 a 2).flag F.CIO_AO_CFG_FAULT a = true :=
      (State.flag_congr ((State.reg_raiseFor _ _ _ _ _ _ _ _ _ (by decide)).trans (State.reg_wr_ne _ _ _ _ _ _ (by decide)))).trans
        (State.flag_wr_one _ _ _ (by decide))
    have hframe : Frame State.logless ([.CIO_AO_CFG, .CIO_CAUSE] ++ recRegs) s ((s.wr F.CIO_AO_CFG_FAULT a 1).raiseFor F.CIO_CAUSE_AO_FAULT 0 a 2) :=
      ((Frame.refl _ _ s).wr (fun _ => rfl) F.CIO_AO_CFG_FAULT a 1 (by decide)).raiseFor (fun _ => rfl) _ _ _ _ _ _ (by decide) (by decide)
    exact ⟨_, if_neg (by simp [h]), hset,
      (State.flag_congr (State.reg_raiseFor _ _ _ _ _ _ _ _ _ (by decide))).trans (State.flag_wr_one _ _ _ (by decide)), hframe⟩
  case aoAgain => exact fun a s h => if_pos h
  case aoClear =>
    exact fun a s => ⟨_, rfl, State.flag_wr_zero _ _ _ (by decide), (OnlyRegs.refl _ s).wr F.CIO_AO_CFG_FAULT a 0 (by decide)⟩
  case cfg =>
    intro c w s h
    obtain ⟨hreg, hrel, hframe⟩ := State.writePwmCfg_effect c w h
    exact ⟨_, rfl, hreg, hrel, hframe.onlyRegs_fan⟩
  case leave =>
    intro c w s hgen hwhy hleave
    obtain ⟨herr, hgrp, hfgen, hframe⟩ := State.writePwmCfg_leave c.isLt hgen hwhy hleave
    exact ⟨_, rfl, herr, hgrp, hfgen, hframe.onlyLogs_fan⟩
  case percent =>
    intro c w s hdrv hen hsup hwhy
    obtain ⟨hcmd, hkick, hframe⟩ := State.writePwmCmd_effect c w hdrv hen hsup hwhy
    exact ⟨_, rfl, hcmd, fun hoff _ hpos => hkick hoff hpos, hframe.onlyRegs_fan⟩
  case driven => exact fun c w s h => congrArg Host.Outcome.next (if_pos h : s.writePwmCmd c w = s)
  case edge =>
    intro t n s hn hst
    obtain ⟨hovr, hread, hframe⟩ := s.tachShown_effect t n.toNat
    exact ⟨_, (execTachEdge_good t n s hn).trans (if_neg fun e => hst e.2.1), hovr, hread, hframe⟩
  case edgeKick =>
    intro t n s hn hst hen hfast
    have hshown : Frame State.fanless [.CIO_PWM_STAT] s (s.tachShown t n.toNat) :=
      ((Frame.refl _ _ s).wr (fun _ => rfl) F.CIO_PWM_STAT_OVR t 0 (by decide)).other rfl rfl
    exact ⟨_, (execTachEdge_good t n s hn).trans (if_pos ⟨hfast, hst, hen⟩), State.pwm_ramped _ _,
      (hshown.trans (State.ramped_frame _ t)).onlyRegs_fan⟩
  case short => exact fun t n s hn hovr hst => ⟨_, execTachEdge_short hn hovr hst, s.tachOvr_effect t⟩
  case noKick => exact fun c s h => if_pos h
  case kickRamp =>
    exact fun c s hst hen => ⟨_, (if_neg (not_not.2 hst)).trans (if_pos (by simp [hen])), State.pwm_ramped _ _, (s.ramped_frame c).onlyRegs_fan⟩
  case kickPause =>
    intro c s hst hen htries
    refine ⟨_, (if_neg (not_not.2 hst)).trans ((if_neg (by simp [hen])).trans (if_pos htries)), State.pwm_shown _ _ (by decide), fun hfull => ?_,
      (s.shown_frame c _).onlyRegs_fanCio⟩
    have hduty : (s.wr F.CIO_PWM_STAT_STATE c pwPause).pwmDuty c = (0 : Nat) := by
      have hpause : (s.wr F.CIO_PWM_STAT_STATE c pwPause).pwm c = pwPause := State.rd_wr_same _ _ _ _ (by decide)
      have hnot : (s.wr F.CIO_PWM_STAT_STATE c pwPause).flag F.CIO_PWM_STAT_FULL c = false :=
        (State.flag_wr_ne _ _ _ _ _ _ (.inr (by decide))).trans hfull
      simp [State.pwmDuty, hpause, hnot]
    exact (State.pwmShow_whole hduty (by decide)).1
  case kickFail =>
    intro c s hst hen htries
    obtain ⟨hpwm, hwhy, hfan, hframe⟩ := s.pwmFail_effect c (why := 1) (by decide)
    exact ⟨_, (if_neg (not_not.2 hst)).trans ((if_neg (by simp [hen])).trans (if_neg (by omega))), hpwm, hwhy, hfan, hframe.onlyLogs_fan⟩
  case pause =>
    intro c s hst htries
    generalize hu : (s.wr F.CIO_PWM_STAT_STATE c pwKick).wr F.CIO_PWM_STAT_TRIES c (s.rd F.CIO_PWM_STAT_TRIES c + 1) = u
    have hkick : u.pwm c = pwKick := by
      rw [← hu]; exact (State.rd_wr_ne _ _ _ _ _ _ (.inr (by decide))).trans (State.rd_wr_same _ _ _ _ (by decide))
    have htried : u.rd F.CIO_PWM_STAT_TRIES c = s.rd F.CIO_PWM_STAT_TRIES c + 1 := by
      rw [← hu]; exact (State.rd_wr_same _ _ _ _ (by decide)).trans (Nat.mod_eq_of_lt (show _ < 2 ^ 3 by omega))
    have hframe : Frame State.fanlessCio [.CIO_PWM_STAT] s u :=
      hu ▸ ((Frame.refl _ _ s).wr (fun _ => rfl) F.CIO_PWM_STAT_STATE c _ (by decide)).wr (fun _ => rfl) F.CIO_PWM_STAT_TRIES c _ (by decide)
    exact ⟨_, (if_pos hst).trans (by rw [hu]), (State.rd_pwmShow _ _ _ _ (.inr (by decide))).trans hkick,
      (State.rd_pwmShow _ _ _ _ (.inr (by decide))).trans htried, (hframe.trans (u.pwmShow_frame c)).onlyRegs_fanCio⟩
  case noPause => exact fun c s h => if_neg h
  case rampEnd =>
    exact fun c s h => ⟨_, if_pos h, State.pwm_shown _ _ (by split <;> decide), (s.shown_frame c _).onlyRegs_fanCio⟩
  case noRamp => exact fun c s h => if_neg h
  case lost =>
    intro c s hst hen
    obtain ⟨hpwm, hwhy, hfan, hframe⟩ := s.pwmFail_effect c (why := 2) (by decide)
    exact ⟨_, if_pos ⟨hst, hen⟩, hpwm, hwhy, hfan, hframe.onlyLogs_fan⟩
  case noTach => exact fun c s h => if_neg fun e => by simp [h] at e
  case ovr =>
    intro t s h
    refine ⟨_, if_pos h, ?_, (OnlyRegs.refl _ _).setReg 0 _ (by decide)⟩
    have hreg : ∀ f, (((s.setReg .CIO_SENS_STAT 0 (s.reg .CIO_SENS_STAT 0 ||| BitVec.ofNat 32 (2 ^ (24 + t.val))))).modCio f).reg .CIO_SENS_STAT 0 =
        s.reg .CIO_SENS_STAT 0 ||| BitVec.ofNat 32 (2 ^ (24 + t.val)) := fun f => (State.reg_setReg _ _ _ _ _ _).trans (if_pos ⟨rfl, rfl⟩)
    rw [State.sensBad, hreg, BitVec.getLsbD_or, BitVec.getLsbD_ofNat]
    simp [show 24 + t.val < 32 by omega]
  case noOvr => exact fun t s h => if_neg (by simp [h])
  case clear =>
    intro c s hwhy hen hsup hst hcmd
    have hmask : ∀ d ∈ List.range 8, (BitVec.ofNat 8 (2 ^ c.val)).getLsbD d = decide (d = c.val) := by
      intro d hd
      have hd := List.mem_range.1 hd
      rw [BitVec.getLsbD_ofNat, Nat.testBit_two_pow]
      simp [hd, eq_comm]
    have hone : ((List.range 8).filter fun d => (BitVec.ofNat 8 (2 ^ c.val)).getLsbD d && decide (s.rd F.CIO_PWM_STAT_WHY d ≠ 0)) = [c.val] := by
      have hcond : ∀ d ∈ List.range 8, ((BitVec.ofNat 8 (2 ^ c.val)).getLsbD d && decide (s.rd F.CIO_PWM_STAT_WHY d ≠ 0)) = decide (d = c.val) := by
        intro d hd
        rw [hmask d hd]
        by_cases he : d = c.val
        · subst he; simp [hwhy]
        · simp [he]
      rw [List.filter_congr hcond]
      fin_cases c <;> rfl
    generalize hu : (s.wr F.CIO_PWM_STAT_WHY c 0).wr F.CIO_PWM_STAT_TRIES c 0 = u
    have hframe : Frame State.fanless [.CIO_PWM_STAT] s u :=
      hu ▸ ((Frame.refl _ _ s).wr (fun _ => rfl) F.CIO_PWM_STAT_WHY c _ (by decide)).wr (fun _ => rfl) F.CIO_PWM_STAT_TRIES c _ (by decide)
    have hexec : execCioPwmClr (BitVec.ofNat 8 (2 ^ c.val)) s = .next (u.pwmEval c).pwmAll := by
      rw [execCioPwmClr, hone, List.foldl_cons, List.foldl_nil, hu]
    have hwhy' : u.rd F.CIO_PWM_STAT_WHY c = 0 := by
      rw [← hu]; exact (State.rd_wr_ne _ _ _ _ _ _ (.inr (by decide))).trans (State.rd_wr_same _ _ _ _ (by decide))
    have htries : u.rd F.CIO_PWM_STAT_TRIES c = 0 := by rw [← hu]; exact State.rd_wr_same _ _ _ _ (by decide)
    have hst' : u.pwm c = pwFailed := by
      rw [← hu]; exact (State.rd_wr_ne _ _ _ _ _ _ (.inr (by decide))).trans ((State.rd_wr_ne _ _ _ _ _ _ (.inr (by decide))).trans hst)
    have hcmd' : u.pwmCmd c ≠ 0 := by
      have hdrv : u.driven (8 + c) = s.driven (8 + c) :=
        State.driven_congr (fun r k hr => hframe.1 r k (by rcases hr with rfl | rfl <;> decide)) _
      have hsame : u.pwmCmd c = s.pwmCmd c := by rw [State.pwmCmd, State.pwmCmd, hdrv, ← hu]; rfl
      rwa [hsame]
    have hkick := State.pwm_pwmEval_kick ((hframe.flag _ (by decide) _).trans hen) ((hframe.flag _ (by decide) _).trans hsup) hwhy' hcmd'
      (.inr (.inr hst'))
    exact ⟨_, hexec, State.pwm_pwmAll hkick (by decide), (State.rd_pwmAll _ _ _ (.inr (by decide))).trans ((State.rd_pwmEval _ _ _ (by decide)).trans hwhy'),
      (State.rd_pwmAll _ _ _ (.inr (by decide))).trans ((State.rd_pwmEval _ _ _ (by decide)).trans htries),
      (hframe.trans ((u.pwmEval_frame c).trans (State.pwmAll_frame _))).onlyRegs_fan⟩

end Sys2Proof.Machine
end

section
/-! PROOFS.  Sensors: range checks, latched faults, pair mismatch and the heat balance (R315 to R317, R333 to R337), and the statement on them. -/

namespace Sys2Proof.Machine

/-! ### Frames of coolant I/O -/

/-- Registers and the bookkeeping of coolant I/O are forgotten. -/
def State.cioless (s : State) : State := { s with regs := [], cio := {} }

/-- As `cioless`, with the recorder forgotten as well. -/
def State.ciologless (s : State) : State := { s with regs := [], cio := {}, evr := {}, irqPulse := false }

/-- As `cioless`, with applied outputs forgotten as well. -/
def State.cioactless (s : State) : State := { s with regs := [], cio := {}, cle := {} }

section CioFrames
variable {rs : List Reg} {s t : State}

theorem Frame.onlyRegs_cio (h : Frame State.cioless rs s t) : OnlyRegs rs { s with cio := t.cio } t :=
  ⟨h.1, congrArg (fun u : State => { u with cio := t.cio }) h.2⟩

theorem Frame.onlyRegs_cioact (h : Frame State.cioactless rs s t) : OnlyRegs rs { s with cio := t.cio, cle := t.cle } t :=
  ⟨h.1, congrArg (fun u : State => { u with cio := t.cio, cle := t.cle }) h.2⟩

theorem Frame.onlyLogs_cio (h : Frame State.ciologless (rs ++ recRegs) s t) : OnlyLogs rs { s with cio := t.cio } t :=
  ⟨h.1, congrArg (fun u : State => { u with cio := t.cio }) h.2⟩

theorem Frame.onlyRegs_cioFree {u : State} (hfree : OnlyFree s u) (h : Frame State.cioless rs u t) :
    OnlyRegs rs { s with cio := t.cio, free := t.free } t := by
  have hk : u.cioless = { s.cioless with free := u.free } := congrArg State.cioless hfree
  exact ⟨fun r i hr => (h.1 r i hr).trans (State.reg_congr_regs (congrArg State.regs hfree) r i),
    congrArg (fun v : State => { v with cio := t.cio, free := t.free }) (h.2.trans hk)⟩

theorem Frame.modCio (h : Frame State.cioless rs s t) (f : Cio → Cio) : Frame State.cioless rs s (t.modCio f) := h.other rfl rfl

theorem Frame.setRead (h : Frame State.cioless rs s t) (k : Nat) (v : Rat) : Frame State.cioless rs s (t.setRead k v) := h.other rfl rfl

theorem Frame.ciolog (h : Frame State.cioless rs s t) : Frame State.ciologless rs s t :=
  ⟨h.1, congrArg (fun u : State => { u with evr := {}, irqPulse := false }) h.2⟩

theorem Frame.cioact (h : Frame State.cioless rs s t) : Frame State.cioactless rs s t :=
  ⟨h.1, congrArg (fun u : State => { u with cle := {} }) h.2⟩

theorem OnlyRegs.cio (h : OnlyRegs rs s t) : Frame State.cioless rs s t := ⟨h.1, congrArg (fun u : State => { u with cio := {} }) h.2⟩

end CioFrames

/-! ### A sensor's bit (R333, R334) -/

/-- Whether a sensor is out of range or latched. -/
def State.sensOn (s : State) (b : Nat) : Bool := s.cio.ranged.testBit b || s.cio.latched.testBit b

/-- CIO_SENS_STAT with a sensor's bit as it is to be. -/
def State.sensWord (s : State) (b : Nat) : Word :=
  if s.sensOn b then s.reg .CIO_SENS_STAT 0 ||| BitVec.ofNat 32 (2 ^ b) else s.reg .CIO_SENS_STAT 0 &&& ~~~BitVec.ofNat 32 (2 ^ b)

theorem State.sensShow_eq (s : State) (b : Nat) : s.sensShow b = if 16 ≤ b ∧ b < 24 then
    (s.setReg .CIO_SENS_STAT 0 (s.sensWord b)).wr F.CIO_AI_CFG_FAULT (b - 16) (if s.sensOn b then 1 else 0)
    else s.setReg .CIO_SENS_STAT 0 (s.sensWord b) := rfl

theorem State.sensWord_getLsbD (s : State) {b : Nat} (h : b < 32) : (s.sensWord b).getLsbD b = s.sensOn b := by
  have hbit : (BitVec.ofNat 32 (2 ^ b)).getLsbD b = true := by rw [BitVec.getLsbD_ofNat, Nat.testBit_two_pow_self]; simp [h]
  unfold State.sensWord
  cases s.sensOn b
  · rw [if_neg Bool.false_ne_true, BitVec.getLsbD_and, BitVec.getLsbD_not, hbit]; simp
  · rw [if_pos rfl, BitVec.getLsbD_or, hbit, Bool.or_true]

theorem State.sensBad_sensShow (s : State) {b : Nat} (h : b < 32) : (s.sensShow b).sensBad b = s.sensOn b := by
  have hreg : (s.sensShow b).reg .CIO_SENS_STAT 0 = s.sensWord b := by
    rw [State.sensShow_eq]
    split
    · exact (State.reg_wr_ne _ _ _ _ _ _ (by decide)).trans ((State.reg_setReg _ _ _ _ _ _).trans (if_pos ⟨rfl, rfl⟩))
    · exact (State.reg_setReg _ _ _ _ _ _).trans (if_pos ⟨rfl, rfl⟩)
  rw [State.sensBad, hreg, s.sensWord_getLsbD h]

theorem State.sensShow_onlyRegs (s : State) (b : Nat) : OnlyRegs [.CIO_SENS_STAT, .CIO_AI_CFG] s (s.sensShow b) := by
  have hbit : OnlyRegs [.CIO_SENS_STAT, .CIO_AI_CFG] s (s.setReg .CIO_SENS_STAT 0 (s.sensWord b)) := (OnlyRegs.refl _ s).setReg 0 _ (by decide)
  rw [State.sensShow_eq]
  split
  · exact hbit.wr _ _ _ (by decide)
  · exact hbit

/-- A sensor that is no analogue input has its bit alone. -/
theorem State.sensShow_onlyStat (s : State) {b : Nat} (h : b < 16 ∨ 24 ≤ b) : OnlyRegs [.CIO_SENS_STAT] s (s.sensShow b) := by
  rw [State.sensShow_eq, if_neg (by omega)]
  exact (OnlyRegs.refl _ s).setReg 0 _ (by decide)

theorem State.cio_sensShow (s : State) (b : Nat) : (s.sensShow b).cio = s.cio :=
  (congrArg State.cio (s.sensShow_onlyRegs b).2 :)

theorem State.fault_sensShow (s : State) (i : Nat) (h : i < 8) : (s.sensShow (16 + i)).flag F.CIO_AI_CFG_FAULT i = s.sensOn (16 + i) := by
  rw [State.sensShow_eq, if_pos (by omega), show 16 + i - 16 = i by omega]
  cases s.sensOn (16 + i)
  · exact State.flag_wr_zero _ _ _ (by decide)
  · exact State.flag_wr_one _ _ _ (by decide)

/-! ### Readings in and out of range (R317, R333) -/

theorem State.wakeEvent_awake {s : State} (f : Fld) (h3 : s.psState ≠ 3) (h4 : s.psState ≠ 4) : s.wakeEvent f = s :=
  (if_neg h3).trans (if_neg h4)

theorem State.rangeCheck_good (s : State) (b : Nat) : s.rangeCheck b true = s.modCio fun c => { c with good := c.good ||| 2 ^ b } := rfl

/-- The module with a sensor marked as out of range. -/
def State.outOfRange (s : State) (b : Nat) : State :=
  ((s.modCio fun c => { c with good := c.good &&& (2 ^ 32 - 1 - 2 ^ b) }).modCio fun c => { c with ranged := c.ranged ||| 2 ^ b }).sensShow b

theorem State.outOfRange_frame (s : State) (b : Nat) : Frame State.cioless [.CIO_SENS_STAT, .CIO_AI_CFG] s (s.outOfRange b) :=
  ((Frame.refl _ _ s).other rfl rfl).trans (State.sensShow_onlyRegs _ b).cio

theorem State.outOfRange_onlyStat (s : State) {b : Nat} (h : b < 16 ∨ 24 ≤ b) : Frame State.cioless [.CIO_SENS_STAT] s (s.outOfRange b) :=
  ((Frame.refl _ _ s).other rfl rfl).trans (State.sensShow_onlyStat _ h).cio

theorem State.sensOn_ranged (s : State) (f : Cio → Cio) (b : Nat) :
    ((s.modCio f).modCio fun c => { c with ranged := c.ranged ||| 2 ^ b }).sensOn b = true := by
  simp [State.sensOn, State.modCio]

theorem State.rangeCheck_bad {s : State} {b : Nat} (hranged : s.cio.ranged.testBit b = false) (hbad : s.sensBad b = false)
    (h3 : s.psState ≠ 3) (h4 : s.psState ≠ 4) : s.rangeCheck b false = (s.outOfRange b).raiseFor F.CIO_CAUSE_SENS_FAULT 0 b 2 [wd b] := by
  have hps : ((s.outOfRange b).raiseFor F.CIO_CAUSE_SENS_FAULT 0 b 2 [wd b]).psState = s.psState :=
    (State.rd_congr (State.reg_raiseFor _ _ _ _ _ _ _ _ _ (by decide))).trans
      ((State.rd_wr_ne _ _ _ _ _ _ (.inl (by decide))).trans ((s.outOfRange_frame b).rd _ (by decide) _))
  have hgood : (s.modCio fun c => { c with good := c.good &&& (2 ^ 32 - 1 - 2 ^ b) }).cio.ranged.testBit b = false := hranged
  have hwas : (s.modCio fun c => { c with good := c.good &&& (2 ^ 32 - 1 - 2 ^ b) }).sensBad b = false := hbad
  simp only [State.rangeCheck, Bool.false_eq_true, if_false, hgood, hwas, Bool.or_self]
  exact State.wakeEvent_awake _ (hps ▸ h3) (hps ▸ h4)

/-- What a reading out of range brings about. -/
theorem State.rangeCheck_bad_effect {s : State} {b : Nat} (hb : b < 32) {rs : List Reg} (hfr : Frame State.cioless rs s (s.outOfRange b))
    (hrs : .CIO_CAUSE ∈ rs ++ recRegs) (hranged : s.cio.ranged.testBit b = false) (hbad : s.sensBad b = false)
    (h3 : s.psState ≠ 3) (h4 : s.psState ≠ 4) :
    (s.rangeCheck b false).sensBad b = true ∧ (s.rangeCheck b false).flag F.CIO_CAUSE_SENS_FAULT = true ∧
    (s.rangeCheck b false).cio.reads = s.cio.reads ∧ OnlyLogs rs { s with cio := (s.rangeCheck b false).cio } (s.rangeCheck b false) ∧
    ∀ i, (s.rangeCheck b false).flag F.CIO_AI_CFG_FAULT i = (s.outOfRange b).flag F.CIO_AI_CFG_FAULT i := by
  rw [State.rangeCheck_bad hranged hbad h3 h4]
  generalize hu : s.outOfRange b = u at hfr ⊢
  have hreg : ∀ r i, r ∉ recRegs → r ≠ .CIO_CAUSE → (u.raiseFor F.CIO_CAUSE_SENS_FAULT 0 b 2 [wd b]).reg r i = u.reg r i := fun r i hr hc =>
    (State.reg_raiseFor _ _ _ _ _ _ _ _ _ hr).trans (State.reg_wr_ne _ _ _ _ _ _ hc)
  refine ⟨?_, ?_, ?_, ?_, fun i => State.flag_congr (hreg _ _ (by decide) (by decide))⟩
  · rw [State.sensBad, hreg _ _ (by decide) (by decide), ← State.sensBad, ← hu, State.outOfRange, State.sensBad_sensShow _ hb]
    exact State.sensOn_ranged _ _ _
  · exact (State.flag_congr (State.reg_raiseFor _ _ _ _ _ _ _ _ _ (by decide))).trans (State.flag_wr_one _ _ _ (by decide))
  · rw [State.raiseFor_eq]
    show u.cio.reads = _
    rw [← hu, State.outOfRange, State.cio_sensShow]; rfl
  · refine Frame.onlyLogs_cio (Frame.raiseFor (fun _ => rfl) (hfr.mono ?_).ciolog _ _ _ _ _ _ hrs ?_)
    · exact List.subset_append_left _ _
    · exact List.subset_append_right _ _

/-! ### Latched faults (R334, R337) -/

theorem State.latchSens_frame (s : State) (b : Nat) : Frame State.cioless [.CIO_SENS_STAT, .CIO_AI_CFG] s (s.latchSens b) :=
  ((Frame.refl _ _ s).other rfl rfl).trans (State.sensShow_onlyRegs _ b).cio

theorem State.latchSens_onlyStat (s : State) {b : Nat} (h : b < 16 ∨ 24 ≤ b) : Frame State.cioless [.CIO_SENS_STAT] s (s.latchSens b) :=
  ((Frame.refl _ _ s).other rfl rfl).trans (State.sensShow_onlyStat _ h).cio

theorem State.sensBad_latchSens (s : State) {b : Nat} (h : b < 32) : (s.latchSens b).sensBad b = true := by
  rw [State.latchSens, State.sensBad_sensShow _ h]
  simp [State.sensOn, State.modCio]

/-- The pair member that a mismatch marks. -/
def State.mismatched (s : State) (b : Nat) : State := (s.latchSens b).raiseFor F.CIO_CAUSE_PAIR_MISMATCH 0 b 0 [wd b]

theorem State.mismatched_effect (s : State) {b : Nat} (h : b < 16) : (s.mismatched b).sensBad b = true ∧
    (s.mismatched b).cio.latched = s.cio.latched ||| 2 ^ b ∧ (s.mismatched b).flag F.CIO_CAUSE_PAIR_MISMATCH = true ∧
    OnlyLogs [.CIO_SENS_STAT, .CIO_CAUSE] { s with cio := (s.mismatched b).cio } (s.mismatched b) := by
  refine ⟨?_, ?_, ?_, ?_⟩
  · rw [State.sensBad, State.mismatched, State.reg_raiseFor _ _ _ _ _ _ _ _ _ (by decide), State.reg_wr_ne _ _ _ _ _ _ (by decide)]
    exact s.sensBad_latchSens (by omega)
  · rw [State.mismatched, State.raiseFor_eq]
    show (s.latchSens b).cio.latched = _
    rw [State.latchSens, State.cio_sensShow]; rfl
  · exact (State.flag_congr (State.reg_raiseFor _ _ _ _ _ _ _ _ _ (by decide))).trans (State.flag_wr_one _ _ _ (by decide))
  · refine Frame.onlyLogs_cio (Frame.raiseFor (fun _ => rfl) ?_ _ _ _ _ _ _ (by decide) (by decide))
    exact ((s.latchSens_onlyStat (.inl h)).mono (by decide)).ciolog

/-- The member farther from the meter's reading is marked, the lower one where the meter gives none. -/
theorem execPairMismatch_marks {i : Fin 2} {a b : Rat} {s : State} (ha : s.temp (2 * i) = some a) (hb : s.temp (2 * i + 1) = some b)
    (hapart : 1 < apart a b) (hfar : (s.source (0x21 + i) = none ∧ a < b) ∨ ∃ m, s.source (0x21 + i) = some m ∧ apart b m < apart a m) :
    execPairMismatch i s = .next (s.mismatched (2 * i)) := by
  simp only [execPairMismatch, ha, hb, if_pos hapart]
  rcases hfar with ⟨hm, hlow⟩ | ⟨m, hm, hfar⟩
  · simp only [hm, if_pos hlow]; rfl
  · simp only [hm, if_pos hfar]; rfl

/-! ### The valve's force -/

theorem State.refreshValve_eq (s : State) : s.refreshValve = { s with cle := s.refreshValve.cle } := by
  unfold State.refreshValve
  split <;> rfl

theorem State.regs_refreshValve (s : State) : s.refreshValve.regs = s.regs := by rw [State.refreshValve_eq]

theorem State.cio_refreshValve (s : State) : s.refreshValve.cio = s.cio := by rw [State.refreshValve_eq]

/-! ### Clearing latched faults (R337) -/

theorem range_filter_eq {n b : Nat} (h : b < n) : ((List.range n).filter fun d => decide (d = b)) = [b] := by
  have hone : (List.range n).count b = 1 := List.count_eq_one_of_mem List.nodup_range (List.mem_range.2 h)
  exact (List.filter_eq b).trans (by rw [hone]; rfl)

/-- The faults that a write of one bit clears. -/
theorem sensCleared {b : Fin 32} {s : State} (hlatched : s.cio.latched.testBit b = true) :
    ((List.range 32).filter fun d => (BitVec.ofNat 32 (2 ^ b.val)).getLsbD d && s.cio.latched.testBit d && s.sensPasses d) =
    if s.sensPasses b then [b.val] else [] := by
  have hcond : ∀ d ∈ List.range 32, ((BitVec.ofNat 32 (2 ^ b.val)).getLsbD d && s.cio.latched.testBit d && s.sensPasses d) =
      (decide (d = b.val) && s.sensPasses b) := by
    intro d hd
    rw [BitVec.getLsbD_ofNat, Nat.testBit_two_pow]
    by_cases he : d = b.val
    · subst he; simp [hlatched, b.isLt]
    · simp [he, Ne.symm he]
  rw [List.filter_congr hcond]
  cases s.sensPasses b
  · simp
  · simpa using range_filter_eq b.isLt

/-- ISOLATED ends with the last isolated sensor. -/
theorem State.isolated_frame (s : State) :
    Frame State.cioactless [.CIO_HB_STAT] s (if s.cio.iso = 0 then s.wr F.CIO_HB_STAT_ISOLATED 0 0 else s).refreshValve := by
  have hiso : Frame State.cioactless [.CIO_HB_STAT] s (if s.cio.iso = 0 then s.wr F.CIO_HB_STAT_ISOLATED 0 0 else s) :=
    .ite ((Frame.refl _ _ s).wr (fun _ => rfl) _ _ _ (by decide)) (.refl _ _ s)
  exact hiso.other (State.regs_refreshValve _) (by rw [State.refreshValve_eq]; rfl)

/-- A sensor's latched fault cleared. -/
def State.unlatched (s : State) (b : Nat) : State :=
  (s.modCio fun c => { c with latched := c.latched &&& (2 ^ 32 - 1 - 2 ^ b), iso := c.iso &&& (2 ^ 32 - 1 - 2 ^ b) }).sensShow b

theorem State.cio_unlatched (s : State) (b : Nat) : (s.unlatched b).cio =
    { s.cio with latched := s.cio.latched &&& (2 ^ 32 - 1 - 2 ^ b), iso := s.cio.iso &&& (2 ^ 32 - 1 - 2 ^ b) } := State.cio_sensShow _ _

theorem testBit_and_notBit (n : Nat) {b : Nat} (h : b < 32) : (n &&& (2 ^ 32 - 1 - 2 ^ b)).testBit b = false := by
  have hbit : (2 ^ 32 - 1 - 2 ^ b).testBit b = false := by
    rw [show 2 ^ 32 - 1 - 2 ^ b = 2 ^ 32 - (2 ^ b + 1) by omega, Nat.testBit_two_pow_sub_succ (Nat.pow_lt_pow_right (by decide) h)]
    simp
  rw [Nat.testBit_and, hbit, Bool.and_false]

theorem State.sensBad_unlatched (s : State) {b : Nat} (h : b < 32) : (s.unlatched b).sensBad b = s.cio.ranged.testBit b := by
  rw [State.unlatched, State.sensBad_sensShow _ h]
  show (s.cio.ranged.testBit b || (s.cio.latched &&& (2 ^ 32 - 1 - 2 ^ b)).testBit b) = _
  rw [testBit_and_notBit _ h, Bool.or_false]

theorem State.unlatched_frame (s : State) (b : Nat) : Frame State.cioless [.CIO_SENS_STAT, .CIO_AI_CFG] s (s.unlatched b) :=
  ((Frame.refl _ _ s).other rfl rfl).trans (State.sensShow_onlyRegs _ b).cio

/-! ### Rounding -/

theorem State.roundOff_near (s : State) (v : Rat) : v.floor ≤ (s.roundOff v).1 ∧ ((s.roundOff v).1 : Rat) < v + 1 ∧ v < (s.roundOff v).1 + 1 := by
  have hle : (v.floor : Rat) ≤ v := Rat.floor_le v
  have hlt : v < (v.floor : Rat) + 1 := by exact_mod_cast Rat.lt_floor_add_one v
  simp only [State.roundOff]
  split
  · next h => exact ⟨le_rfl, by linarith, hlt⟩
  · next h =>
    have hlow : (v.floor : Rat) < v := lt_of_le_of_ne hle (Ne.symm h)
    have hd : (s.freeNat 2).1 < 2 := Nat.mod_lt _ (by decide)
    have hd' : (((s.freeNat 2).1 : Nat) : Rat) ≤ 1 := by exact_mod_cast Nat.le_of_lt_succ hd
    have hd0 : (0 : Rat) ≤ (((s.freeNat 2).1 : Nat) : Rat) := Nat.cast_nonneg _
    refine ⟨by omega, ?_, ?_⟩ <;> push_cast <;> linarith

/-- A value that fits the field is rounded to one within 1 of it. -/
theorem State.roundNat_near (s : State) {w n : Nat} {v : Rat} (h0 : 0 ≤ v) (hv : v ≤ n) (hn : n + 1 < 2 ^ w) :
    |((s.roundNat w v).1 : Rat) - v| < 1 ∧ (s.roundNat w v).1 < 2 ^ w := by
  obtain ⟨hfloor, hup, hlow⟩ := s.roundOff_near v
  have hpos : 0 ≤ (s.roundOff v).1 := (Rat.le_floor_iff.2 (by simpa using h0)).trans hfloor
  have hle : (s.roundOff v).1 ≤ n := by
    have : ((s.roundOff v).1 : Rat) < n + 1 := by linarith
    have : (s.roundOff v).1 < n + 1 := by exact_mod_cast this
    omega
  have hval : (((s.roundNat w v).1 : Nat) : Int) = (s.roundOff v).1 := by
    show ((min (s.roundOff v).1.toNat (2 ^ w - 1) : Nat) : Int) = _
    omega
  have hcast : (((s.roundNat w v).1 : Nat) : Rat) = ((s.roundOff v).1 : Rat) := by exact_mod_cast hval
  refine ⟨?_, by omega⟩
  rw [hcast, abs_lt]
  constructor <;> linarith

/-! ### The heat balance (R335) -/

/-- The module with the balance shown: Q, M and no LOWP. -/
def State.heatShown (u : State) (q : Rat) (a b : Nat) : State :=
  (((u.wr F.CIO_HB_STAT_LOWP 0 0).wr F.CIO_HB_STAT_Q 0 a).wr F.CIO_HB_STAT_M 0 b).modCio fun c => { c with q := q }

theorem State.regs_heatShown (u : State) (q : Rat) (a b : Nat) : (u.heatShown q a b).regs =
    (((u.wr F.CIO_HB_STAT_LOWP 0 0).wr F.CIO_HB_STAT_Q 0 a).wr F.CIO_HB_STAT_M 0 b).regs := rfl

theorem State.heatShown_frame (u : State) (q : Rat) (a b : Nat) : Frame State.cioless [.CIO_HB_STAT] u (u.heatShown q a b) :=
  ((((Frame.refl _ _ u).wr (fun _ => rfl) _ _ _ (by decide)).wr (fun _ => rfl) _ _ _ (by decide)).wr (fun _ => rfl) _ _ _
    (by decide)).other (u.regs_heatShown q a b) rfl

theorem State.rd_heatShown (u : State) (q : Rat) {a : Nat} (b : Nat) (ha : a < 2 ^ 16) :
    (u.heatShown q a b).rd F.CIO_HB_STAT_Q = a := by
  rw [State.rd_congr_regs (u.regs_heatShown q a b), State.rd_wr_ne _ _ _ _ _ _ (.inr (by decide)), State.rd_wr_same _ _ _ _ (by decide)]
  exact Nat.mod_eq_of_lt ha

theorem State.lowp_heatShown (u : State) (q : Rat) (a b : Nat) : (u.heatShown q a b).flag F.CIO_HB_STAT_LOWP = false := by
  rw [State.flag_congr_regs (u.regs_heatShown q a b), State.flag_wr_ne _ _ _ _ _ _ (.inr (by decide)),
    State.flag_wr_ne _ _ _ _ _ _ (.inr (by decide)), State.flag_wr_zero _ _ _ (by decide)]

theorem State.cio_heatShown (u : State) (q : Rat) (a b : Nat) : (u.heatShown q a b).cio = { u.cio with q := q } := rfl

theorem State.flag_heatShown (u : State) (q : Rat) (a b : Nat) : (u.heatShown q a b).flag F.CIO_HB_STAT_FAULT = u.flag F.CIO_HB_STAT_FAULT := by
  rw [State.flag_congr_regs (u.regs_heatShown q a b), State.flag_wr_ne _ _ _ _ _ _ (.inr (by decide)),
    State.flag_wr_ne _ _ _ _ _ _ (.inr (by decide)), State.flag_wr_ne _ _ _ _ _ _ (.inr (by decide))]

/-- The module with the balance stopped. -/
def State.balanceStopped (s : State) : State := (s.wr F.CIO_HB_STAT_LOWP 0 1).modCio fun c => { c with over_ := 0, under := 0 }

theorem State.balanceStopped_effect (s : State) : s.balanceStopped.flag F.CIO_HB_STAT_LOWP = true ∧
    OnlyRegs [.CIO_HB_STAT] { s with cio := s.balanceStopped.cio } s.balanceStopped := by
  have hregs : s.balanceStopped.regs = (s.wr F.CIO_HB_STAT_LOWP 0 1).regs := rfl
  have hframe : OnlyRegs [.CIO_HB_STAT] s (s.wr F.CIO_HB_STAT_LOWP 0 1) := (OnlyRegs.refl _ s).wr _ _ _ (by decide)
  exact ⟨(State.flag_congr_regs hregs _ _).trans (State.flag_wr_one _ _ _ (by decide)),
    fun r i hr => (State.reg_congr_regs hregs r i).trans (hframe.1 r i hr), rfl⟩

/-- Without enough power, or without the readings, the balance stops. -/
theorem execHeatBalance_stops {s : State} (hen : s.flag F.CIO_HB_CFG_EN = true) (hp : s.rd F.PWR_INPUT_P_1S < 300) :
    execHeatBalance s = .next s.balanceStopped := by
  have hlow : ((s.rd F.PWR_INPUT_P_1S : Nat) : Rat) < 300 := by exact_mod_cast hp
  simp only [execHeatBalance, hen, Bool.not_true, Bool.false_eq_true, if_false]
  split
  · exact if_pos (.inl hlow)
  · rfl

/-- With power and the readings Q and M are shown, and a first excess faults nothing. -/
theorem execHeatBalance_shows {s : State} {ti o f : Rat} (hen : s.flag F.CIO_HB_CFG_EN = true) (hp : 300 ≤ s.rd F.PWR_INPUT_P_1S)
    (hti : s.pairMean 0 = some ti) (ho : s.pairMean 1 = some o) (hf : s.flowMean = some f) (hflow : 1 / 2 ≤ f)
    (hfault : s.flag F.CIO_HB_STAT_FAULT = false) (hover : s.cio.over_ = 0) : ∃ u m c, OnlyFree s u ∧
    execHeatBalance s = .next ((u.heatShown ((o - ti) * f * s.heatK) (s.roundNat 16 ((o - ti) * f * s.heatK)).1 m).modCio c) := by
  have hpow : ¬(((s.rd F.PWR_INPUT_P_1S : Nat) : Rat) < 300 ∨ f < 1 / 2) := by
    have : (300 : Rat) ≤ ((s.rd F.PWR_INPUT_P_1S : Nat) : Rat) := by exact_mod_cast hp
    exact not_or.2 ⟨not_lt.2 this, not_lt.2 hflow⟩
  simp only [execHeatBalance, hen, Bool.not_true, Bool.false_eq_true, if_false, hti, ho, hf, if_neg hpow]
  generalize (o - ti) * f * s.heatK = q
  generalize apart ((s.rd F.PWR_INPUT_P_1S : Nat) : Rat) q / ((s.rd F.PWR_INPUT_P_1S : Nat) : Rat) * 100 = m
  generalize hu : ((s.roundNat 16 q).2.roundNat 8 m).2 = u
  generalize ((s.roundNat 16 q).2.roundNat 8 m).1 = b
  have hfree : OnlyFree s u := hu ▸ (s.roundNat_free 16 q).trans (State.roundNat_free _ 8 m)
  have hcio : u.cio.over_ = 0 := (congrArg (fun v : State => v.cio.over_) hfree).trans hover
  have hnot : u.flag F.CIO_HB_STAT_FAULT = false := (State.flag_congr_regs (congrArg State.regs hfree) _ _).trans hfault
  rw [← State.heatShown]
  generalize (s.roundNat 16 q).1 = a
  have hkeep : ∀ c, ((u.heatShown q a b).modCio c).flag F.CIO_HB_STAT_FAULT = false := fun c =>
    (State.flag_congr_regs rfl _ _).trans ((u.flag_heatShown q a b).trans hnot)
  split
  · refine ⟨u, b, _, hfree, congrArg Host.Outcome.next (if_neg ?_)⟩
    have hone : ((u.heatShown q a b).modCio fun c => { c with over_ := c.over_ + 1, under := 0 }).cio.over_ = 1 := by
      show (u.heatShown q a b).cio.over_ + 1 = 1
      rw [State.cio_heatShown, hcio]
    simp only [hone, Bool.and_eq_true, decide_eq_true_eq, not_and]
    omega
  · refine ⟨u, b, _, hfree, congrArg Host.Outcome.next (if_neg ?_)⟩
    simp only [hkeep, Bool.and_false, Bool.false_eq_true, not_false_eq_true]

/-! ### The statement -/

theorem State.find_setRead (s : State) (k : Nat) (v : Rat) : Assoc.find (s.setRead k v).cio.reads k = some { v := v, at_ := s.up } := by
  simp [State.setRead, Assoc.find_put]

/-- A reading of an analogue input in range is kept. -/
theorem State.kept_effect (s : State) (i : Nat) (v : Rat) (b : Nat) :
    Assoc.find (((s.rangeCheck b true).setRead i v).sensShow b).cio.reads i = some { v := v, at_ := s.up } ∧
    OnlyRegs [.CIO_SENS_STAT, .CIO_AI_CFG] { s with cio := (((s.rangeCheck b true).setRead i v).sensShow b).cio }
      (((s.rangeCheck b true).setRead i v).sensShow b) := by
  refine ⟨?_, Frame.onlyRegs_cio (Frame.trans ((Frame.refl _ _ s).other rfl rfl) (State.sensShow_onlyRegs _ b).cio)⟩
  rw [State.cio_sensShow]
  exact State.find_setRead _ _ _

/-- The module with a reading of a sensor in range kept, and in the history of its code. -/
def State.histKept (s : State) (b k : Nat) (v : Rat) : State := ((s.rangeCheck b true).setRead k v).histPut k 100 v

theorem State.histKept_frame (rs : List Reg) (s : State) (b k : Nat) (v : Rat) : Frame State.cioless rs s (s.histKept b k v) :=
  (((Frame.refl _ rs s).modCio _).setRead k v).modCio _

theorem State.find_histKept (s : State) (b k : Nat) (v : Rat) : Assoc.find (s.histKept b k v).cio.reads k = some { v := v, at_ := s.up } :=
  State.find_setRead _ _ _

theorem execSensorSample_flow {k : Fin 7} {v : Rat} {s : State} (hk : 6 ≤ k.val) (hlow : 0 ≤ v) (hhigh : v ≤ 10) :
    execSensorSample k v s = .next (s.histKept 6 0x1C (if v < 1 / 2 then 0 else v)).flowCheck := by
  have hok : decide (0 ≤ v ∧ v ≤ 10) = true := decide_eq_true ⟨hlow, hhigh⟩
  refine (if_neg (by omega)).trans ((if_neg (by omega)).trans ?_)
  simp only [hok, if_true]
  rw [← State.histKept]

theorem State.flowCheck_frame (s : State) : Frame State.cioless [.CFG_STAT] s s.flowCheck :=
  .ite (.refl _ _ s) ((Frame.refl _ _ s).wr (fun _ => rfl) _ _ _ (by decide))

theorem State.cio_flowCheck (s : State) : s.flowCheck.cio = s.cio := by unfold State.flowCheck; split <;> rfl

/-- FLOW ends as flow falls below FLOW_MIN. -/
theorem State.flowCheck_stopped (s : State) (h : s.flowCheck.flowing = false) : s.flowCheck.flag F.CFG_STAT_FLOW = false := by
  unfold State.flowCheck at h ⊢
  split
  · next hf => rw [if_pos hf] at h; exact absurd hf (by simp [h])
  · exact State.flag_wr_zero _ _ _ (by decide)

theorem execAiSample_kept {ch : Fin 10} {raw v : Rat} {s : State} (h8 : ch.val < 8)
    (hmode : s.rd F.CIO_AI_CFG_MODE ch = 1 ∨ s.rd F.CIO_AI_CFG_MODE ch = 2)
    (hok : (if s.rd F.CIO_AI_CFG_MODE ch = 2 then decide (18 / 5 ≤ raw ∧ raw ≤ 21) else decide (-1 / 5 ≤ raw ∧ raw ≤ 21 / 2)) = true) :
    execAiSample ch raw v s = .next (((s.rangeCheck (16 + ch) true).setRead ch
      (if s.rd F.CIO_AI_CFG_FILT ch = 0 then aiPercent (s.rd F.CIO_AI_CFG_MODE ch) raw else v)).sensShow (16 + ch)) := by
  refine (if_pos h8).trans ((if_neg (by omega)).trans ?_)
  simp only [hok, if_true]

theorem execAiSample_bad {ch : Fin 10} {raw v : Rat} {s : State} (h8 : ch.val < 8) (hmode : s.rd F.CIO_AI_CFG_MODE ch = 2)
    (hok : raw < 18 / 5 ∨ 21 < raw) : execAiSample ch raw v s = .next (s.rangeCheck (16 + ch) false) := by
  have hbad : decide (18 / 5 ≤ raw ∧ raw ≤ 21) = false := decide_eq_false fun h => hok.elim (not_lt.2 h.1) (not_lt.2 h.2)
  refine (if_pos h8).trans ((if_neg (by omega)).trans ?_)
  simp only [hmode, if_true, hbad, Bool.false_eq_true, if_false]

/-- Settles O45: each check marks or clears one sensor's bit, and what it leaves is outside its registers. -/
theorem sensorsCheckedAgainstRangeAndEachOther : Obligations.SensorsCheckedAgainstRangeAndEachOther := by
  unfold Obligations.SensorsCheckedAgainstRangeAndEachOther
  refine ⟨?off, ?current, ?voltage, ?outside, ?pt1000, ?temp, ?tempBad, ?pressure, ?flow, ?clear, ?notGood, ?lower, ?farther, ?within,
    ?hbOff, ?lowPower, ?balance, ?passes, ?stays⟩
  case off =>
    exact fun ch raw v s h8 h1 h2 => (if_pos h8).trans (if_pos ⟨h1, h2⟩)
  case current =>
    intro ch raw v s h8 hmode hfilt hlow hhigh
    obtain ⟨hread, hframe⟩ := s.kept_effect ch ((raw - 4) * 100 / 16) (16 + ch)
    refine ⟨_, (execAiSample_kept h8 (.inr hmode) (by rw [if_pos hmode]; exact decide_eq_true ⟨hlow, hhigh⟩)).trans ?_, hread, hframe⟩
    rw [if_pos hfilt, aiPercent, if_pos hmode]
  case voltage =>
    intro ch raw v s h8 hmode hfilt hlow hhigh
    obtain ⟨hread, hframe⟩ := s.kept_effect ch v (16 + ch)
    refine ⟨_, (execAiSample_kept h8 (.inl hmode) ?_).trans (by rw [if_neg hfilt]), hread, hframe⟩
    rw [if_neg (by omega)]; exact decide_eq_true ⟨hlow, hhigh⟩
  case outside =>
    intro ch raw v s h8 hmode hout hranged hbad h3 h4
    obtain ⟨hsens, hcause, hreads, hframe, hfault⟩ := State.rangeCheck_bad_effect (b := 16 + ch) (by omega)
      (rs := [.CIO_SENS_STAT, .CIO_AI_CFG, .CIO_CAUSE]) ((s.outOfRange_frame _).mono (by decide)) (by decide) hranged hbad h3 h4
    refine ⟨_, execAiSample_bad h8 hmode hout, hsens, ?_, hcause, hreads, hframe⟩
    rw [hfault, State.outOfRange, State.fault_sensShow _ _ h8]
    exact State.sensOn_ranged _ _ _
  case pt1000 =>
    intro ch raw v s h8 hlow hhigh
    have hok : decide (780 ≤ raw ∧ raw ≤ 1600) = true := decide_eq_true ⟨hlow, hhigh⟩
    refine ⟨(s.rangeCheck (ch.val - 1) true).setRead ch.val v, (if_neg (by omega)).trans ?_, rfl, State.find_setRead _ _ _⟩
    simp only [hok, if_true]
  case temp =>
    intro k v s h4 hlow hhigh
    have hok : decide (-10 ≤ v ∧ v ≤ 110) = true := decide_eq_true ⟨hlow, hhigh⟩
    refine ⟨((s.rangeCheck k true).setRead (0x100 + k) v).histPut (0x100 + k) 100 v, (if_pos h4).trans ?_, rfl, State.find_setRead _ _ _⟩
    simp only [hok, if_true]
  case tempBad =>
    intro k v s h4 hout hranged hbad hp3 hp4
    have hok : decide (-10 ≤ v ∧ v ≤ 110) = false := decide_eq_false fun h => hout.elim (not_lt.2 h.1) (not_lt.2 h.2)
    obtain ⟨hsens, hcause, hreads, hframe, -⟩ := State.rangeCheck_bad_effect (b := k) (by omega)
      (rs := [.CIO_SENS_STAT, .CIO_CAUSE]) ((s.outOfRange_onlyStat (.inl (by omega))).mono (by decide)) (by decide) hranged hbad hp3 hp4
    refine ⟨_, (if_pos h4).trans ?_, hsens, hcause, hreads, hframe⟩
    simp only [hok, Bool.false_eq_true, if_false]
  case pressure =>
    intro k v s h4 h6 hlow hhigh
    have hok : decide (-20 ≤ v ∧ v ≤ 1050) = true := decide_eq_true ⟨hlow, hhigh⟩
    refine ⟨(s.rangeCheck k true).setRead (0x16 + k) v, (if_neg (by omega)).trans ((if_pos h6).trans ?_), rfl, State.find_setRead _ _ _⟩
    simp only [hok, if_true]
  case flow =>
    intro v s hlow hhigh
    refine ⟨_, execSensorSample_flow (k := 6) (by decide) hlow hhigh, ((s.histKept_frame _ _ _ _).trans (State.flowCheck_frame _)).onlyRegs_cio, ?_,
      State.flowCheck_stopped _⟩
    rw [State.cio_flowCheck]; exact s.find_histKept _ _ _
  case clear =>
    intro b s hgood hlatched
    generalize hu : (s.modCio fun c => { c with ranged := c.ranged &&& (2 ^ 32 - 1 - 2 ^ b.val) }) = u
    have hframe : Frame State.cioless [.CIO_SENS_STAT, .CIO_AI_CFG] s u := (Frame.refl _ _ s).other (by rw [← hu]; rfl) (by rw [← hu]; rfl)
    refine ⟨u.sensShow b, (if_pos hgood).trans (by rw [hu]), ?_, Frame.onlyRegs_cio (hframe.trans (u.sensShow_onlyRegs b).cio)⟩
    rw [State.sensBad_sensShow _ (by omega), ← hu]
    show ((s.cio.ranged &&& (2 ^ 32 - 1 - 2 ^ b.val)).testBit b || s.cio.latched.testBit b) = false
    rw [testBit_and_notBit _ (by omega), hlatched, Bool.or_false]
  case notGood => exact fun b s h => if_neg (by simp [h])
  case lower =>
    intro i a b s ha hb hlt hnone
    have habs : 1 < apart a b := by rw [apart, abs_sub_comm, abs_of_nonneg (by linarith)]; linarith
    exact ⟨_, execPairMismatch_marks ha hb habs (.inl ⟨hnone, by linarith⟩), s.mismatched_effect (by omega)⟩
  case farther =>
    intro i a b m s ha hb habs hm hfar
    obtain ⟨hbad, -, hcause, hframe⟩ := s.mismatched_effect (b := 2 * i) (by omega)
    exact ⟨_, execPairMismatch_marks ha hb habs (.inr ⟨m, hm, hfar⟩), hbad, hcause, hframe⟩
  case within =>
    intro i a b s ha hb habs
    simp only [exec, execPairMismatch, ha, hb]
    exact if_neg (not_lt.2 habs)
  case hbOff => exact fun s h => if_pos (by simp [h])
  case lowPower => exact fun s hen hp => ⟨_, execHeatBalance_stops hen hp, s.balanceStopped_effect⟩
  case balance =>
    intro ti o f s hen hp hti ho hf hflow h0 hmax hfault hover
    obtain ⟨u, m, c, hfree, hexec⟩ := execHeatBalance_shows hen hp hti ho hf hflow hfault hover
    generalize (o - ti) * f * s.heatK = q at *
    obtain ⟨hnear, hlt⟩ := s.roundNat_near (w := 16) (n := 65534) h0 (by exact_mod_cast hmax) (by decide)
    generalize (s.roundNat 16 q).1 = a at *
    generalize hv : u.heatShown q a m = v at *
    have hframe : Frame State.cioless [.CIO_HB_STAT] u v := hv ▸ u.heatShown_frame q a m
    have hq : v.rd F.CIO_HB_STAT_Q = a := hv ▸ u.rd_heatShown q m hlt
    have hlow : v.flag F.CIO_HB_STAT_LOWP = false := hv ▸ u.lowp_heatShown q a m
    have hregs : (v.modCio c).regs = v.regs := rfl
    refine ⟨v.modCio c, hexec, (State.flag_congr_regs hregs _ _).trans hlow, ?_, Frame.onlyRegs_cioFree hfree (hframe.other hregs rfl)⟩
    rwa [State.rd_congr_regs hregs, hq]
  case passes =>
    intro b s hlatched hpass
    generalize hu : s.unlatched b = u
    have hframe : Frame State.cioactless [.CIO_SENS_STAT, .CIO_AI_CFG, .CIO_HB_STAT] s u := hu ▸ (s.unlatched_frame b).cioact.mono (by decide)
    have hexec : execSensStatClear (BitVec.ofNat 32 (2 ^ b.val)) s =
        .next (if u.cio.iso = 0 then u.wr F.CIO_HB_STAT_ISOLATED 0 0 else u).refreshValve := by
      simp only [execSensStatClear]
      rw [sensCleared hlatched, if_pos hpass, List.foldl_cons, List.foldl_nil, ← State.unlatched, hu]
    have hiso := u.isolated_frame
    refine ⟨_, hexec, ?_, fun hranged => ?_, Frame.onlyRegs_cioact (hframe.trans (hiso.mono (by decide)))⟩
    · have hcio : (if u.cio.iso = 0 then u.wr F.CIO_HB_STAT_ISOLATED 0 0 else u).refreshValve.cio = u.cio := by
        rw [State.cio_refreshValve]; split <;> rfl
      rw [hcio, ← hu, State.cio_unlatched]
      exact testBit_and_notBit _ b.isLt
    · rw [State.sensBad, hiso.1 _ _ (by decide), ← State.sensBad, ← hu, State.sensBad_unlatched _ b.isLt, hranged]
  case stays =>
    intro b s hlatched hpass
    have hexec : execSensStatClear (BitVec.ofNat 32 (2 ^ b.val)) s =
        .next (if s.cio.iso = 0 then s.wr F.CIO_HB_STAT_ISOLATED 0 0 else s).refreshValve := by
      simp only [execSensStatClear]
      rw [sensCleared hlatched, if_neg (c := s.sensPasses b = true) (by simp [hpass]), List.foldl_nil]
    refine ⟨_, hexec, s.isolated_frame.1, ?_⟩
    rw [State.refreshValve_eq]
    split <;> rfl

end Sys2Proof.Machine
end

section
/-! PROOFS.  What the protective actions share: the alarm, the record that waits, quiescing compute, a request for compute. -/

namespace Sys2Proof.Machine

theorem Frame.raiseBit {k : State → State} {rs : List Reg} {s t : State} (hk : ∀ v : State, k v.logless = k v) (h : Frame k rs s t)
    (f : Fld) (i : Nat) (hf : f.reg ∈ rs) (hrec : recRegs ⊆ rs) : Frame k rs s (t.raiseBit f i) :=
  ⟨fun r j hr => (State.reg_raiseBit _ _ _ _ _ fun e => hr (hrec (by rw [e]; decide))).trans
    ((State.reg_wr_ne _ _ _ _ _ _ (ne_of_mem_of_not_mem hf hr).symm).trans (h.1 r j hr)), by
    rw [← hk, State.logless_raiseBit, hk]; exact h.2⟩

/-! ### The alarm (R371, R379) -/

/-- Nothing has changed but the channels' frames. -/
def OnlyFrames (s t : State) : Prop := t = { s with clarn := t.clarn }

theorem OnlyFrames.refl (s : State) : OnlyFrames s s := rfl

theorem OnlyFrames.trans {s t u : State} (h : OnlyFrames s t) (h' : OnlyFrames t u) : OnlyFrames s u := by
  have ht : t = { s with clarn := t.clarn } := h
  have hu : u = { t with clarn := u.clarn } := h'
  exact hu.trans (congrArg (fun v : State => { v with clarn := u.clarn }) ht)

theorem OnlyFrames.regs {s t : State} (h : OnlyFrames s t) : t.regs = s.regs := (congrArg State.regs h :)

/-- A frame that is neither gated nor scheduled changes nothing but the channel's frames. -/
theorem State.offer_onlyFrames (s : State) (c : Nat) {t : Tx} (hsrc : t.src ≠ 33) (hclass : gatedClass (idClass t.id) = false) :
    OnlyFrames s (s.offer c t) := by
  unfold State.offer
  simp only [hclass, hsrc, Bool.false_and, Bool.false_eq_true, if_false, decide_false]
  split <;> rfl

theorem State.queueFrame_onlyFrames (s : State) (mask i : Nat) (body : List Byte) {src : Nat} (bare : Bool) (hsrc : src ≠ 33)
    (hclass : gatedClass (idClass i) = false) : OnlyFrames s (s.queueFrame mask i body src bare) := by
  unfold State.queueFrame
  extract_lets q t l s1
  exact List.foldlRecOn _ _ (motive := OnlyFrames s) (show OnlyFrames s s1 from rfl)
    fun u hu c _ => hu.trans (u.offer_onlyFrames c hsrc hclass)

/-- The class of an identifier is the one it is formed with. -/
theorem idClass_clarnId (prio cls node : Nat) : idClass (clarnId prio cls node) = cls % 64 := by
  unfold idClass clarnId; omega

theorem State.alarm_onlyFrames (s : State) (code : Nat) : OnlyFrames s (s.alarm code) := by
  unfold State.alarm
  extract_lets s1
  have h1 : OnlyFrames s s1 := List.foldlRecOn _ _ (motive := OnlyFrames s) (OnlyFrames.refl s) fun u hu c _ => hu.trans rfl
  exact h1.trans (State.queueFrame_onlyFrames _ _ _ _ _ (by decide) (by rw [idClass_clarnId]; decide))

/-! ### A protective action's record (R457) -/

/-- What a protective action may change beside registers is forgotten: the recorder and the alarm. -/
def State.protless (s : State) : State := { s with regs := [], evr := {}, irqPulse := false, clarn := {} }

theorem OnlyFrames.protless {s t : State} (h : OnlyFrames s t) : t.protless = s.protless :=
  have ht : t = { s with clarn := t.clarn } := h
  (congrArg State.protless ht).trans rfl

theorem State.protect_frame (s : State) (f : Fld) (inst : Nat) (leak : Bool) :
    Frame State.protless (f.reg :: recRegs) s (s.protect f inst leak) := by
  have hbit : Frame State.protless (f.reg :: recRegs) s (s.raiseBit f 0) :=
    (Frame.refl _ _ s).raiseBit (fun _ => rfl) f 0 List.mem_cons_self (List.subset_cons_self _ _)
  unfold State.protect
  extract_lets s1 r e s2
  have h2 : Frame State.protless (f.reg :: recRegs) s s2 := hbit.other rfl rfl
  split
  · next c _ => exact h2.other (s2.alarm_onlyFrames c).regs (s2.alarm_onlyFrames c).protless
  · exact h2

/-- The cause is set and the record waits. -/
theorem State.protect_effect (s : State) {f : Fld} (hf : f.reg ≠ .IRQ_TRAY_PEND ∧ f.lo ≤ f.hi ∧ f.hi < 32) (inst : Nat) (leak : Bool) :
    (s.protect f inst leak).flag f = true ∧ (s.protect f inst leak).evr.prot.length = s.evr.prot.length + 1 := by
  have hflag : (s.raiseBit f 0).flag f = true := (State.flag_raiseBit _ _ _ _ _ hf.1).trans (State.flag_wr_one _ _ _ hf.2)
  have hprot : ∀ p : Prot, ((s.raiseBit f 0).evr.prot ++ [p]).length = s.evr.prot.length + 1 := fun p => by
    rw [State.evr_raiseBit, List.length_append, List.length_singleton]
  unfold State.protect
  extract_lets s1 r e s2
  split
  · next c _ =>
    have hframes := s2.alarm_onlyFrames c
    exact ⟨(State.flag_congr_regs hframes.regs f 0).trans hflag, (congrArg (fun v : State => v.evr.prot.length) hframes).trans (hprot _)⟩
  · exact ⟨hflag, hprot _⟩

/-! ### Quiescing (R28) -/

theorem State.quiesceNow_of_off {s : State} (h : s.pwr.vcore = false) : s.quiesceNow = s := if_neg (by simp [h])

/-- The registers that quiescing writes. -/
def quiesceRegs : List Reg := [.PWR_GEAR_STAT, .CLE_SLOT_STAT] ++ lossRegs

/-- With core power the module quiesces at duty 0 with no job open, stacks and stores kept. -/
theorem State.quiesceNow_effect {s : State} (h : s.pwr.vcore = true) :
    s.quiesceNow.pwr = { s.pwr with quiesce := true } ∧ s.quiesceNow.rd F.PWR_GEAR_STAT_DUTY = 0 ∧
    Within quiesceRegs s s.quiesceNow ∧ ∀ n < 16, s.quiesceNow.pstate n ≠ 2 := by
  have hexec : s.quiesceNow = (((({ s with pwr := { s.pwr with quiesce := true }, replayQ := [] } : State).jobEndAll 0x30 0).wr
      F.PWR_GEAR_STAT_DUTY 0 0).holdGear) := if_pos h
  rw [hexec]
  generalize hs : ({ s with pwr := { s.pwr with quiesce := true }, replayQ := [] } : State) = s0
  have hpwr : s0.pwr = { s.pwr with quiesce := true } := by rw [← hs]
  have hquiet : Within quiesceRegs s s0 := by rw [← hs]; exact (Within.refl _ s).other rfl rfl rfl rfl rfl
  have hjobs : Within quiesceRegs s (s0.jobEndAll 0x30 0) :=
    hquiet.trans (((Within.refl lossRegs s0).foldl _ fun _ n hv => hv.jobEnd n 0x30 0).mono (by decide))
  have hstill : Still s0 (s0.jobEndAll 0x30 0) := (Still.refl s0).jobEndAll 0x30 0
  generalize hj : s0.jobEndAll 0x30 0 = j at hjobs hstill ⊢
  have hold : OnlyRegs [.CLE_SLOT_STAT] (j.wr F.PWR_GEAR_STAT_DUTY 0 0) (j.wr F.PWR_GEAR_STAT_DUTY 0 0).holdGear :=
    (OnlyRegs.refl _ _).holdGear (by decide)
  refine ⟨?_, ?_, ?_, fun n hn => ?_⟩
  · exact (congrArg State.pwr hold.2 :).trans (hstill.pwr.trans hpwr)
  · exact (State.rd_congr (hold.1 _ _ (by decide))).trans (State.rd_wr_same _ _ _ _ (by decide))
  · exact (hjobs.wr 0 0 (by decide)).trans ((Within.of_onlyRegs hold).mono (by decide))
  · have hpart : (j.wr F.PWR_GEAR_STAT_DUTY 0 0).holdGear.pstate n = j.pstate n :=
      (State.rd_congr (hold.1 _ _ (by decide))).trans (State.rd_wr_ne _ _ _ _ _ _ (.inl (by decide)))
    rw [hpart, ← hj]
    exact State.pstate_jobEndAll s0 hn 0x30 0

/-! ### A request for compute (R436) -/

/-- With core power on a request is kept and nothing opens. -/
theorem State.requestCompute_of_on {s : State} (h : s.pwr.vcore = true) :
    s.requestCompute = { s with pwr := { s.pwr with computeReq := true } } := if_neg (by simp [h])

end Sys2Proof.Machine
end

section
/-! PROOFS.  Leak sensing, the valve's closure and digital inputs (R326 to R328, R330 to R332), and the statement on them. -/

namespace Sys2Proof.Machine

/-- What forgets more keeps a frame. -/
theorem Frame.forget {k k' : State → State} {rs : List Reg} {s t : State} (hk : ∀ v, k' (k v) = k' v) (h : Frame k rs s t) :
    Frame k' rs s t := ⟨h.1, by rw [← hk t, h.2, hk]⟩

/-! ### An input's state (R330) -/

/-- An input's two bits of CIO_LEAK_STAT. -/
abbrev leakFld (k : Nat) : Fld := ⟨.CIO_LEAK_STAT, 2 * k + 1, 2 * k⟩

theorem State.leakState_eq (s : State) (k : Nat) : s.leakState k = s.rd (leakFld k) := by
  show _ = bitsOf _ (2 * k) (2 * k + 1 + 1 - 2 * k)
  rw [show 2 * k + 1 + 1 - 2 * k = 2 by omega]
  rfl

theorem State.leakState_congr {s t : State} (h : t.reg .CIO_LEAK_STAT 0 = s.reg .CIO_LEAK_STAT 0) (k : Nat) : t.leakState k = s.leakState k := by
  rw [State.leakState, State.leakState, h]

theorem State.leakState_wr (s : State) {f : Fld} (v k : Nat) (hk : k < 5) (hf : 9 < f.lo ∧ f.lo ≤ f.hi) : (s.wr f 0 v).leakState k = s.leakState k := by
  rw [State.leakState_eq, State.leakState_eq, State.rd_wr_ne _ _ _ _ _ _ (.inr ⟨hf.2, .inl (show 2 * k + 1 < _ by omega)⟩)]

/-- The module with an input's decision noted. -/
def State.leakMarked (s : State) (k code : Nat) : State :=
  (s.setReg .CIO_LEAK_STAT 0 (setField (s.reg .CIO_LEAK_STAT 0) (leakFld k) code)).modCio fun c =>
    { c with leak := modifyAt k (fun x => { x with undecided := false }) c.leak }

theorem State.leakMarked_frame (s : State) (k code : Nat) : Frame State.cioless [.CIO_LEAK_STAT] s (s.leakMarked k code) :=
  ((Frame.refl _ _ s).setReg (fun _ => rfl) 0 _ (by decide)).modCio _

theorem State.regs_leakMarked (s : State) (k code : Nat) : (s.leakMarked k code).regs = (s.wr (leakFld k) 0 code).regs := rfl

theorem State.leakState_leakMarked (s : State) {k code : Nat} (hk : k < 5) (hcode : code < 4) : (s.leakMarked k code).leakState k = code := by
  rw [State.leakState_congr (State.reg_congr_regs (s.regs_leakMarked k code) _ _), State.leakState_eq,
    State.rd_wr_same _ _ _ _ ⟨by show 2 * k ≤ 2 * k + 1; omega, by show 2 * k + 1 < 32; omega⟩]
  show code % 2 ^ (2 * k + 1 + 1 - 2 * k) = code
  rw [show 2 * k + 1 + 1 - 2 * k = 2 by omega]
  exact Nat.mod_eq_of_lt hcode

theorem State.latch_leakMarked (s : State) {k : Nat} (code : Nat) (hk : k < 5) :
    (s.leakMarked k code).flag F.CIO_LEAK_STAT_LATCH = s.flag F.CIO_LEAK_STAT_LATCH := by
  rw [State.flag_congr_regs (s.regs_leakMarked k code), State.flag_wr_ne _ _ _ _ _ _ (.inr ⟨by show 2 * k ≤ 2 * k + 1; omega,
    .inr (by show 2 * k + 1 < 16; omega)⟩)]

theorem State.dryCheck_frame (rs : List Reg) (s : State) : Frame State.cioless rs s s.dryCheck := (Frame.refl _ _ s).modCio _

theorem State.regs_dryCheck (s : State) : s.dryCheck.regs = s.regs := rfl

/-! ### Five samples decide (R330) -/

/-- The module with the fifth sample of a band counted. -/
def State.leakCounted (s : State) (k b : Nat) : State :=
  s.modCio fun c => { c with leak := modifyAt k (fun x => { x with band := b, run := 5 }) c.leak }

theorem State.leakCounted_frame (rs : List Reg) (s : State) (k b : Nat) : Frame State.cioless rs s (s.leakCounted k b) :=
  (Frame.refl _ _ s).modCio _

theorem State.regs_leakCounted (s : State) (k b : Nat) : (s.leakCounted k b).regs = s.regs := rfl

theorem execLeakSample_decides {k : Fin 5} {r : Word} {s : State} {b : Nat} (hon : s.leakOn k = true) (hband : leakBand r.toNat = b) (hb : b ≠ 0)
    (hsame : (getAt {} s.cio.leak k).band = b) (hrun : 4 ≤ (getAt {} s.cio.leak k).run) :
    execLeakSample k r s = .next ((s.leakCounted k b).leakDecide k b) := by
  have hfive : min 5 ((getAt {} s.cio.leak k).run + 1) = 5 := by omega
  simp only [execLeakSample, hon, Bool.not_true, Bool.false_eq_true, if_false, hband, hb, hsame, if_true, hfive]
  rfl

/-- A sample of another band starts its count. -/
theorem execLeakSample_starts {k : Fin 5} {r : Word} {s : State} (hon : s.leakOn k = true) (hband : leakBand r.toNat ≠ (getAt {} s.cio.leak k).band) :
    ∃ f, execLeakSample k r s = .next (s.modCio f) := by
  refine ⟨_, (if_neg (by simp [hon])).trans (if_neg ?_)⟩
  rw [if_neg hband]
  split <;> decide

theorem State.leakDecide_dry (s : State) (k : Nat) : (s.leakState k = 0 ∧ s.leakDecide k 1 = s) ∨ s.leakDecide k 1 = (s.leakMarked k 0).dryCheck := by
  unfold State.leakDecide
  simp only
  split
  · next h => exact .inl ⟨(by simpa using h : _ ∧ _).1, rfl⟩
  · exact .inr rfl

theorem State.leakDecide_wet {s : State} {k : Nat} (hwas : s.leakState k ≠ 1) (hresp : (s.leakMarked k 1).leakResp k = true) :
    s.leakDecide k 2 = (((s.leakMarked k 1).leakResponse k).wakeEvent F.PWR_WAKE_SRC_LEAK).dryCheck := by
  unfold State.leakDecide
  extract_lets code first w s1 wet s2 s3
  have hnot : ¬(decide (s.leakState k = code) && !first) = true := by simp [code, hwas]
  rw [if_neg hnot, show s3 = (wet s1).wakeEvent F.PWR_WAKE_SRC_LEAK from if_pos rfl]
  show (State.wakeEvent (if s1.leakResp k = true then _ else _) _).dryCheck = _
  rw [if_pos (show s1.leakResp k = true from hresp)]
  rfl

theorem State.leakDecide_broken {s : State} {k : Nat} (hwas : s.leakState k ≠ 2)
    (hwet : (((s.leakMarked k 2).raiseFor F.CIO_CAUSE_LEAK_FAULT 0 k 2).wakeEvent F.PWR_WAKE_SRC_LEAK).flag F.CIO_LEAK_CFG_FWET k = false) :
    s.leakDecide k 3 = (((s.leakMarked k 2).raiseFor F.CIO_CAUSE_LEAK_FAULT 0 k 2).wakeEvent F.PWR_WAKE_SRC_LEAK).dryCheck := by
  unfold State.leakDecide
  extract_lets code first w s1 wet s2 s3
  have hnot : ¬(decide (s.leakState k = code) && !first) = true := by simp [code, hwas]
  have hfwet : ¬s2.flag F.CIO_LEAK_CFG_FWET k = true := Bool.eq_false_iff.1 hwet
  rw [if_neg hnot, show s3 = s2 from (if_neg (by decide)).trans ((if_pos rfl).trans (if_neg hfwet))]
  rfl

/-! ### The leak response (R331) -/

/-- The module with the leak latched and its protective action raised. -/
def State.leakRaised (s : State) (inst : Nat) : State :=
  ((s.wr F.CIO_STAT_LEAK 0 1).wr F.CIO_LEAK_STAT_LATCH 0 1).protect F.CIO_CAUSE_LEAK_WET inst true

theorem State.leakResponse_first {s : State} (inst : Nat) (h : s.flag F.CIO_LEAK_STAT_LATCH = false) :
    s.leakResponse inst = (s.leakRaised inst).quiesceNow.refreshValve := if_neg (by simp [h])

/-- The registers of a leak. -/
abbrev leakRegs : List Reg := [.CIO_LEAK_STAT, .CIO_STAT, .CIO_CAUSE] ++ recRegs

theorem State.leakRaised_frame (s : State) (inst : Nat) : Frame State.protless leakRegs s (s.leakRaised inst) :=
  (((Frame.refl _ _ s).wr (fun _ => rfl) _ _ _ (by decide)).wr (fun _ => rfl) _ _ _ (by decide)).trans
    ((State.protect_frame _ _ _ _).mono (by decide))

theorem State.leakRaised_effect (s : State) (inst : Nat) :
    (s.leakRaised inst).flag F.CIO_LEAK_STAT_LATCH = true ∧ (s.leakRaised inst).flag F.CIO_STAT_LEAK = true ∧
    (s.leakRaised inst).flag F.CIO_CAUSE_LEAK_WET = true ∧ (s.leakRaised inst).evr.prot.length = s.evr.prot.length + 1 ∧
    ∀ k < 5, (s.leakRaised inst).leakState k = s.leakState k := by
  have hkeep := ((s.wr F.CIO_STAT_LEAK 0 1).wr F.CIO_LEAK_STAT_LATCH 0 1).protect_frame F.CIO_CAUSE_LEAK_WET inst true
  obtain ⟨hcause, hprot⟩ := ((s.wr F.CIO_STAT_LEAK 0 1).wr F.CIO_LEAK_STAT_LATCH 0 1).protect_effect
    (f := F.CIO_CAUSE_LEAK_WET) (by decide) inst true
  refine ⟨?_, ?_, hcause, hprot, fun k hk => ?_⟩
  · exact (hkeep.flag _ (by decide) 0).trans (State.flag_wr_one _ _ _ (by decide))
  · exact (hkeep.flag _ (by decide) 0).trans ((State.flag_wr_ne _ _ _ _ _ _ (.inl (by decide))).trans (State.flag_wr_one _ _ _ (by decide)))
  · rw [State.leakRaised, State.leakState_congr (hkeep.1 _ _ (by decide)), State.leakState_wr _ _ _ hk (by decide)]
    exact State.leakState_congr (State.reg_wr_ne _ _ _ _ _ _ (by decide)) k

/-- What a leak may change beside registers is forgotten. -/
def State.leakless (s : State) : State := { s with regs := [], evr := {}, irqPulse := false, clarn := {}, cio := {}, cle := {} }

theorem Frame.onlyLogs_leak {rs : List Reg} {s t : State} (h : Frame State.leakless (rs ++ recRegs) s t) :
    OnlyLogs rs { s with cio := t.cio, cle := t.cle, clarn := t.clarn } t :=
  ⟨h.1, congrArg (fun u : State => { u with cio := t.cio, cle := t.cle, clarn := t.clarn }) h.2⟩

theorem State.refreshValve_frame (rs : List Reg) (s : State) : Frame State.leakless rs s s.refreshValve :=
  (Frame.refl _ _ s).other s.regs_refreshValve (by rw [State.refreshValve_eq]; rfl)

theorem State.leakRaised_leak (s : State) (inst : Nat) : Frame State.leakless leakRegs s (s.leakRaised inst) :=
  Frame.forget (k := State.protless) (fun _ => rfl) (s.leakRaised_frame inst)

theorem State.psState_congr {s t : State} (h : t.reg .PWR_PS_STAT 0 = s.reg .PWR_PS_STAT 0) : t.psState = s.psState := State.rd_congr h

/-- A first leak without core power: latched, raised, its record waits. -/
theorem State.leakResponse_off {s : State} (inst : Nat) (hlatch : s.flag F.CIO_LEAK_STAT_LATCH = false) (hcore : s.pwr.vcore = false) :
    (s.leakResponse inst).regs = (s.leakRaised inst).regs ∧ (s.leakResponse inst).evr = (s.leakRaised inst).evr ∧
    Frame State.leakless leakRegs s (s.leakResponse inst) := by
  have hoff : (s.leakRaised inst).pwr.vcore = false := (congrArg (fun u : State => u.pwr.vcore) (s.leakRaised_frame inst).2 :).trans hcore
  rw [State.leakResponse_first inst hlatch, State.quiesceNow_of_off hoff]
  exact ⟨State.regs_refreshValve _, by rw [State.refreshValve_eq], (s.leakRaised_leak inst).trans (State.refreshValve_frame _ _)⟩

/-- A first leak with core power quiesces. -/
theorem State.leakResponse_on {s : State} (inst : Nat) (hlatch : s.flag F.CIO_LEAK_STAT_LATCH = false) (hcore : s.pwr.vcore = true) :
    (s.leakResponse inst).pwr.quiesce = true ∧ (s.leakResponse inst).rd F.PWR_GEAR_STAT_DUTY = 0 ∧
    SameRegs quiesceRegs (s.leakRaised inst) (s.leakResponse inst) := by
  have hon : (s.leakRaised inst).pwr.vcore = true := (congrArg (fun u : State => u.pwr.vcore) (s.leakRaised_frame inst).2 :).trans hcore
  obtain ⟨hpwr, hduty, hwithin, -⟩ := State.quiesceNow_effect hon
  rw [State.leakResponse_first inst hlatch]
  refine ⟨?_, (State.rd_congr_regs (State.regs_refreshValve _) _ _).trans hduty, fun r i hr =>
    (State.reg_congr_regs (State.regs_refreshValve _) r i).trans (hwithin.regs r i hr)⟩
  rw [State.refreshValve_eq]
  exact congrArg Pwr.quiesce hpwr

/-! ### Digital inputs (R326 to R328) -/

/-- The module with a digital input shown as active. -/
def State.diShown (s : State) (d : Nat) : State := s.wr F.CIO_DI_STAT_ACTIVE 0 (s.rd F.CIO_DI_STAT_ACTIVE ||| 2 ^ d)

theorem State.diShown_onlyRegs (s : State) (d : Nat) : OnlyRegs [.CIO_DI_STAT] s (s.diShown d) := (OnlyRegs.refl _ s).wr _ _ _ (by decide)

theorem State.active_diShown (s : State) {d : Nat} (hd : d < 8) :
    (s.diShown d).rd F.CIO_DI_STAT_ACTIVE = s.rd F.CIO_DI_STAT_ACTIVE ||| 2 ^ d := by
  refine (State.rd_wr_same _ _ _ _ (by decide)).trans (Nat.mod_eq_of_lt ?_)
  exact Nat.or_lt_two_pow (fieldOf_lt _ _) (Nat.pow_lt_pow_right (by decide) hd)

theorem execDiChange_active {d : Fin 8} {s : State} (h : (s.rd F.CIO_DI_STAT_ACTIVE).testBit d = false) :
    execDiChange d (s.flag F.CIO_DI_CFG_POL d) s = .next ((s.diShown d).diAct d) := by
  have hact : (s.flag F.CIO_DI_CFG_POL d == s.flag F.CIO_DI_CFG_POL d) = true := beq_self_eq_true _
  simp only [execDiChange, hact, h, Bool.false_eq_true, if_false, if_true]
  rfl

theorem State.func_diShown (s : State) (d e : Nat) : (s.diShown d).rd F.CIO_DI_CFG_FUNC e = s.rd F.CIO_DI_CFG_FUNC e :=
  State.rd_congr ((s.diShown_onlyRegs d).1 _ _ (by decide))

/-- An active emergency input takes EMERG_OK. -/
theorem State.emergOk_of_active {s : State} {d : Nat} (hd : d < 8) (hfunc : s.rd F.CIO_DI_CFG_FUNC d = 3)
    (hact : (s.rd F.CIO_DI_STAT_ACTIVE).testBit d = true) : s.emergOk = false := by
  have hany : s.diActive 3 = true := List.any_eq_true.2 ⟨d, List.mem_range.2 hd, by simp [hfunc, hact]⟩
  rw [State.emergOk, hany]; rfl

/-- The module with an emergency raised. -/
def State.emergRaised (s : State) (d : Nat) : State := (s.wr F.CIO_STAT_EMERG 0 1).protect F.CIO_CAUSE_EMERG d false

theorem State.emergRaised_frame (s : State) (d : Nat) : Frame State.protless ([.CIO_STAT, .CIO_CAUSE] ++ recRegs) s (s.emergRaised d) :=
  ((Frame.refl _ _ s).wr (fun _ => rfl) F.CIO_STAT_EMERG 0 1 (by decide)).trans ((State.protect_frame _ _ _ _).mono (by decide))

theorem State.emergRaised_effect (s : State) (d : Nat) :
    (s.emergRaised d).flag F.CIO_STAT_EMERG = true ∧ (s.emergRaised d).flag F.CIO_CAUSE_EMERG = true := by
  refine ⟨?_, (State.protect_effect _ (f := F.CIO_CAUSE_EMERG) (by decide) d false).1⟩
  exact ((State.protect_frame _ F.CIO_CAUSE_EMERG d false).flag _ (by decide) 0).trans (State.flag_wr_one _ _ _ (by decide))

theorem State.diAct_emerg {s : State} {d : Nat} (hfunc : s.rd F.CIO_DI_CFG_FUNC d = 3) (hcore : s.pwr.vcore = false)
    (h3 : s.psState ≠ 3) (h4 : s.psState ≠ 4) : s.diAct d = s.emergRaised d := by
  have hframe := s.emergRaised_frame d
  have hoff : (s.emergRaised d).pwr.vcore = false := (congrArg (fun u : State => u.pwr.vcore) hframe.2 :).trans hcore
  have hps : (s.emergRaised d).psState = s.psState := State.psState_congr (hframe.1 _ _ (by decide))
  have hact : s.diAct d = (s.emergRaised d).quiesceNow.wakeEvent F.PWR_WAKE_SRC_LEAK := by rw [State.diAct, hfunc]; rfl
  rw [hact, State.quiesceNow_of_off hoff, State.wakeEvent_awake _ (hps ▸ h3) (hps ▸ h4)]

/-- The module with a wake input masked. -/
def State.wakeMasked (s : State) (d : Nat) (w : List (Nat × List Nat)) : State :=
  ((s.modCio fun c => { c with wakes := w }).wr F.CIO_DI_STAT_STUCK 0 (s.rd F.CIO_DI_STAT_STUCK ||| 2 ^ d)).raiseFor F.CIO_CAUSE_DI_STUCK 0 d 2

/-- The third wake within 10 s is masked. -/
theorem State.diAct_third {s : State} {d : Nat} (hfunc : s.rd F.CIO_DI_CFG_FUNC d = 1) (hstuck : (s.rd F.CIO_DI_STAT_STUCK).testBit d = false)
    (hthird : 2 ≤ ((Assoc.get [] s.cio.wakes d).filter fun (t : Nat) => s.up ≤ t + 10000000000).length) :
    ∃ w, s.diAct d = s.wakeMasked d w := by
  have hact : s.diAct d = s.wakeInput d := by rw [State.diAct, hfunc]; rfl
  rw [hact, State.wakeInput, if_neg (by simp [hstuck])]
  exact ⟨_, if_pos (by simpa using hthird)⟩

theorem State.wakeMasked_effect (s : State) {d : Nat} (hd : d < 8) (w : List (Nat × List Nat)) :
    (s.wakeMasked d w).rd F.CIO_DI_STAT_STUCK = s.rd F.CIO_DI_STAT_STUCK ||| 2 ^ d ∧
    (s.wakeMasked d w).flag F.CIO_CAUSE_DI_STUCK = true ∧
    Frame State.ciologless ([.CIO_DI_STAT, .CIO_CAUSE] ++ recRegs) s (s.wakeMasked d w) := by
  have hlt : s.rd F.CIO_DI_STAT_STUCK ||| 2 ^ d < 2 ^ 8 := Nat.or_lt_two_pow (fieldOf_lt _ _) (Nat.pow_lt_pow_right (by decide) hd)
  refine ⟨?_, ?_, ?_⟩
  · refine (State.rd_congr (State.reg_raiseFor _ _ _ _ _ _ _ _ _ (by decide))).trans ((State.rd_wr_ne _ _ _ _ _ _ (.inl (by decide))).trans
      ((State.rd_wr_same _ _ _ _ (by decide)).trans (Nat.mod_eq_of_lt hlt)))
  · exact (State.flag_congr (State.reg_raiseFor _ _ _ _ _ _ _ _ _ (by decide))).trans (State.flag_wr_one _ _ _ (by decide))
  · exact Frame.raiseFor (fun _ => rfl) (Frame.wr (fun _ => rfl) (((Frame.refl _ _ s).modCio _).ciolog) _ _ _ (by decide)) _ _ _ _ _ _
      (by decide) (by decide)

/-! ### Acknowledgement (R332) -/

/-- The module with the leak's latch and closure cleared. -/
def State.leakCleared (s : State) : State := ((s.wr F.CIO_STAT_LEAK 0 0).wr F.CIO_LEAK_STAT_LATCH 0 0).wr F.CIO_LEAK_STAT_VCLOSED 0 0

theorem State.leakCleared_onlyRegs (s : State) : OnlyRegs [.CIO_LEAK_STAT, .CIO_STAT] s s.leakCleared :=
  (((OnlyRegs.refl _ s).wr _ _ _ (by decide)).wr _ _ _ (by decide)).wr _ _ _ (by decide)

theorem State.leakCleared_effect (s : State) : s.leakCleared.flag F.CIO_LEAK_STAT_LATCH = false ∧ s.leakCleared.flag F.CIO_STAT_LEAK = false ∧
    s.leakCleared.flag F.CIO_LEAK_STAT_VCLOSED = false := by
  refine ⟨?_, ?_, State.flag_wr_zero _ _ _ (by decide)⟩
  · exact (State.flag_wr_ne _ _ _ _ _ _ (.inr (by decide))).trans (State.flag_wr_zero _ _ _ (by decide))
  · exact (State.flag_wr_ne _ _ _ _ _ _ (.inl (by decide))).trans ((State.flag_wr_ne _ _ _ _ _ _ (.inl (by decide))).trans
      (State.flag_wr_zero _ _ _ (by decide)))

/-- An acknowledgement after 10 s dry, with core power on. -/
theorem execLeakAck_clears {d : Nat} {s : State} (hdry : s.cio.dryAt = some d) (hlatch : s.flag F.CIO_LEAK_STAT_LATCH = true)
    (hlong : d + 10000000000 ≤ s.up) (hcore : s.pwr.vcore = true) : ∃ c f, execLeakAck s =
    .next { s.leakCleared with cle := c, clarn := f, pwr := { s.pwr with computeReq := true } } := by
  have hexec : execLeakAck s = .next (s.leakCleared.refreshValve.alarm 5).requestCompute := by
    simp only [execLeakAck, hdry]
    exact if_pos ⟨hlatch, hlong⟩
  have hvalve : s.leakCleared.refreshValve = { s.leakCleared with cle := s.leakCleared.refreshValve.cle } := State.refreshValve_eq _
  have halarm := s.leakCleared.refreshValve.alarm_onlyFrames 5
  generalize s.leakCleared.refreshValve.alarm 5 = u at hexec halarm
  have hu : u = { s.leakCleared with cle := s.leakCleared.refreshValve.cle, clarn := u.clarn } :=
    Eq.trans halarm (congrArg (fun v : State => { v with clarn := u.clarn }) hvalve)
  have hpwr : u.pwr = s.pwr := (congrArg State.pwr hu).trans (congrArg State.pwr s.leakCleared_onlyRegs.2 :)
  refine ⟨s.leakCleared.refreshValve.cle, u.clarn, hexec.trans (congrArg _ ?_)⟩
  rw [State.requestCompute_of_on (by rw [hpwr]; exact hcore), hpwr]
  exact congrArg (fun v : State => { v with pwr := { s.pwr with computeReq := true } }) hu

/-! ### The statement -/

theorem leakBand_dry {n : Nat} (h : 8000 ≤ n) (h' : n ≤ 12000) : leakBand n = 1 := by
  rw [leakBand, if_neg (by omega), if_pos ⟨h, h'⟩]

theorem leakBand_wet {n : Nat} (h : 200 ≤ n) (h' : n ≤ 6000) : leakBand n = 2 := by
  rw [leakBand, if_neg (by omega), if_neg (by omega), if_pos ⟨h, h'⟩]

theorem leakBand_broken {n : Nat} (h : 15000 < n) : leakBand n = 3 := if_pos h

/-- The module with an input counted and decided as wet. -/
def State.leakWet (s : State) (k : Nat) : State := (s.leakCounted k 2).leakMarked k 1

theorem State.leakWet_frame (s : State) (k : Nat) : Frame State.cioless [.CIO_LEAK_STAT] s (s.leakWet k) :=
  (s.leakCounted_frame _ k 2).trans (State.leakMarked_frame _ k 1)

/-- The fifth wet reading of an input whose state was another starts the leak response. -/
theorem execLeakSample_wet {k : Fin 5} {r : Word} {s : State} (hon : s.leakOn k = true) (hresp : s.leakResp k = true)
    (hlow : 200 ≤ r.toNat) (hhigh : r.toNat ≤ 6000) (hband : (getAt {} s.cio.leak k).band = 2) (hrun : 4 ≤ (getAt {} s.cio.leak k).run)
    (hwas : s.leakState k ≠ 1) : execLeakSample k r s =
    .next (((s.leakWet k).leakResponse k).wakeEvent F.PWR_WAKE_SRC_LEAK).dryCheck := by
  have hresp' : (s.leakWet k).leakResp k = true := by
    rw [State.leakResp, (s.leakWet_frame k).flag _ (by decide)]; exact hresp
  rw [execLeakSample_decides hon (leakBand_wet hlow hhigh) (by decide) hband hrun, State.leakDecide_wet (s := s.leakCounted k 2) hwas hresp',
    State.leakWet]

/-- What stands before the response: the input wet, the latch and power as before. -/
theorem State.leakWet_effect (s : State) {k : Nat} (hk : k < 5) : (s.leakWet k).leakState k = 1 ∧
    (s.leakWet k).flag F.CIO_LEAK_STAT_LATCH = s.flag F.CIO_LEAK_STAT_LATCH ∧ (s.leakWet k).pwr = s.pwr ∧ (s.leakWet k).evr = s.evr := by
  refine ⟨State.leakState_leakMarked _ hk (by decide), ?_, (congrArg State.pwr (s.leakWet_frame k).2 :), (congrArg State.evr (s.leakWet_frame k).2 :)⟩
  exact (State.latch_leakMarked _ 1 hk).trans (State.flag_congr_regs (s.regs_leakCounted k 2) _ _)

/-- Settles O46: a decision writes its input's state, and each response is raised and logged beside what it leaves. -/
theorem leaksEmergenciesAndDigitalInputs : Obligations.LeaksEmergenciesAndDigitalInputs := by
  unfold Obligations.LeaksEmergenciesAndDigitalInputs
  refine ⟨?off, ?start, ?dry, ?wetOff, ?wetOn, ?broken, ?valve, ?noValve, ?ack, ?early, ?notDry, ?level, ?shown, ?emerg, ?stuck, ?clear⟩
  case off => exact fun k r s h => if_pos (by simp [h])
  case start =>
    intro k r s hon hband
    obtain ⟨f, hexec⟩ := execLeakSample_starts hon hband
    exact ⟨_, hexec, rfl⟩
  case dry =>
    intro k r s hon hlow hhigh hband hrun
    have hexec := execLeakSample_decides hon (leakBand_dry hlow hhigh) (by decide) hband hrun
    have hcount := s.leakCounted_frame [.CIO_LEAK_STAT] k 1
    rcases (s.leakCounted k 1).leakDecide_dry k with ⟨hdry, hsame⟩ | hmark
    · exact ⟨_, hexec, by rw [hsame]; exact hdry, by rw [hsame]; exact hcount.onlyRegs_cio⟩
    · rw [hmark] at hexec
      refine ⟨_, hexec, ?_, ((hcount.trans (State.leakMarked_frame _ k 0)).trans (State.dryCheck_frame _ _)).onlyRegs_cio⟩
      rw [State.leakState_congr (State.reg_congr_regs (State.regs_dryCheck _) _ _)]
      exact State.leakState_leakMarked _ k.isLt (by decide)
  case wetOff =>
    intro k r s hon hresp hlow hhigh hband hrun hwas hlatch h3 h4 hcore
    have hexec := execLeakSample_wet hon hresp hlow hhigh hband hrun hwas
    obtain ⟨hstate, hlatch', hpwr, hevr⟩ := s.leakWet_effect k.isLt
    have hframe := s.leakWet_frame k
    generalize s.leakWet k = u at hexec hstate hlatch' hpwr hevr hframe
    obtain ⟨hregs, hrec, hleak⟩ := State.leakResponse_off k (hlatch'.trans hlatch) ((congrArg Pwr.vcore hpwr).trans hcore)
    obtain ⟨hset, hleakFlag, hcause, hprot, hkeep⟩ := u.leakRaised_effect k
    have hall : Frame State.leakless leakRegs s (u.leakResponse k) :=
      (Frame.forget (k := State.cioless) (fun _ => rfl) (hframe.mono (by decide))).trans hleak
    have hps : (u.leakResponse k).psState = s.psState := State.psState_congr (hall.1 _ _ (by decide))
    rw [State.wakeEvent_awake _ (hps ▸ h3) (hps ▸ h4)] at hexec
    have hdry : (u.leakResponse k).dryCheck.regs = (u.leakRaised k).regs := hregs
    refine ⟨_, hexec, ?_, ?_, ?_, ?_, ?_, (hall.trans (Frame.forget (k := State.cioless) (fun _ => rfl) (State.dryCheck_frame _ _))).onlyLogs_leak⟩
    · rw [State.leakState_congr (State.reg_congr_regs hdry _ _), hkeep k k.isLt, hstate]
    · rw [State.flag_congr_regs hdry, hset]
    · rw [State.flag_congr_regs hdry, hleakFlag]
    · rw [State.flag_congr_regs hdry, hcause]
    · show (u.leakResponse k).evr.prot.length = _
      rw [hrec, hprot, hevr]
  case wetOn =>
    intro k r s hon hresp hlow hhigh hband hrun hwas hlatch h3 h4 hcore
    have hexec := execLeakSample_wet hon hresp hlow hhigh hband hrun hwas
    obtain ⟨hstate, hlatch', hpwr, -⟩ := s.leakWet_effect k.isLt
    have hframe := s.leakWet_frame k
    generalize s.leakWet k = u at hexec hstate hlatch' hpwr hframe
    obtain ⟨hquiesce, hduty, hkeep⟩ := State.leakResponse_on k (hlatch'.trans hlatch) ((congrArg Pwr.vcore hpwr).trans hcore)
    obtain ⟨hset, -, -, -, hstates⟩ := u.leakRaised_effect k
    have hps : (u.leakResponse k).psState = s.psState :=
      State.psState_congr ((hkeep _ _ (by decide)).trans (((u.leakRaised_leak k).1 _ _ (by decide)).trans (hframe.1 _ _ (by decide))))
    rw [State.wakeEvent_awake _ (hps ▸ h3) (hps ▸ h4)] at hexec
    have hdry : (u.leakResponse k).dryCheck.regs = (u.leakResponse k).regs := State.regs_dryCheck _
    refine ⟨_, hexec, ?_, ?_, hquiesce, (State.rd_congr_regs hdry _ _).trans hduty⟩
    · rw [State.leakState_congr (State.reg_congr_regs hdry _ _), State.leakState_congr (hkeep _ _ (by decide)), hstates k k.isLt, hstate]
    · rw [State.flag_congr_regs hdry, State.flag_congr (hkeep _ _ (by decide)), hset]
  case broken =>
    intro k r s hon hhigh hband hrun hwas hfwet h3 h4
    have hexec := execLeakSample_decides hon (leakBand_broken hhigh) (by decide) hband hrun
    generalize hu : (s.leakCounted k 3).leakMarked k 2 = u
    have hstate : u.leakState k = 2 := hu ▸ State.leakState_leakMarked _ k.isLt (by decide)
    have hframe : Frame State.ciologless ([.CIO_LEAK_STAT, .CIO_CAUSE] ++ recRegs) s (u.raiseFor F.CIO_CAUSE_LEAK_FAULT 0 k 2) := by
      have hmark : Frame State.cioless [.CIO_LEAK_STAT] s u := hu ▸ (s.leakCounted_frame _ k 3).trans (State.leakMarked_frame _ k 2)
      exact Frame.raiseFor (fun _ => rfl) ((hmark.mono (by decide)).ciolog) _ _ _ _ _ _ (by decide) (by decide)
    have hps : (u.raiseFor F.CIO_CAUSE_LEAK_FAULT 0 k 2).psState = s.psState := State.psState_congr (hframe.1 _ _ (by decide))
    have hawake : (u.raiseFor F.CIO_CAUSE_LEAK_FAULT 0 k 2).wakeEvent F.PWR_WAKE_SRC_LEAK = u.raiseFor F.CIO_CAUSE_LEAK_FAULT 0 k 2 :=
      State.wakeEvent_awake _ (hps ▸ h3) (hps ▸ h4)
    rw [State.leakDecide_broken (s := s.leakCounted k 3) hwas (by rw [hu, hawake, hframe.flag _ (by decide), hfwet]), hu, hawake] at hexec
    generalize hv : u.raiseFor F.CIO_CAUSE_LEAK_FAULT 0 k 2 = v at hexec hframe
    have hdry : v.dryCheck.regs = v.regs := State.regs_dryCheck v
    have hreg : v.reg .CIO_LEAK_STAT 0 = u.reg .CIO_LEAK_STAT 0 :=
      hv ▸ (State.reg_raiseFor _ _ _ _ _ _ _ _ _ (by decide)).trans (State.reg_wr_ne _ _ _ _ _ _ (by decide))
    have hcause : v.flag F.CIO_CAUSE_LEAK_FAULT = true :=
      hv ▸ (State.flag_congr (State.reg_raiseFor _ _ _ _ _ _ _ _ _ (by decide))).trans (State.flag_wr_one _ _ _ (by decide))
    refine ⟨_, hexec, ?_, (State.flag_congr_regs hdry _ _).trans hcause, (hframe.trans (State.dryCheck_frame _ v).ciolog).onlyLogs_cio⟩
    rw [State.leakState_congr ((State.reg_congr_regs hdry _ _).trans hreg), hstate]
  case valve =>
    intro s h
    generalize hu : s.wr F.CIO_LEAK_STAT_VCLOSED 0 1 = u
    have hframe : OnlyRegs [.CIO_LEAK_STAT] s u := hu ▸ (OnlyRegs.refl _ s).wr _ _ _ (by decide)
    have hclosed : u.flag F.CIO_LEAK_STAT_VCLOSED = true := hu ▸ State.flag_wr_one _ _ _ (by decide)
    have hdst : u.valveDst = s.valveDst := by rw [State.valveDst, State.valveDst, State.rd_congr (hframe.1 _ _ (by decide))]
    have hshut : u.valveShut = s.valveShut := by
      rw [State.valveShut, State.valveShut, State.rd_congr (g := F.CIO_LEAK_CTL_VALVE) (hframe.1 _ _ (by decide)),
        State.flag_congr (g := F.CIO_AO_CFG_REV) (hframe.1 _ _ (by decide))]
    have hforce : u.refreshValve = u.setAct s.valveDst s.valveShut := by
      rw [State.refreshValve, State.valveForce, if_pos hclosed, hdst, hshut]
    refine ⟨u.refreshValve, (if_pos h).trans (by rw [hu]), ?_, ?_, ?_⟩
    · exact (State.flag_congr_regs (State.regs_refreshValve _) _ _).trans hclosed
    · rw [hforce]; simp [State.act, State.setAct, Assoc.get_set]
    · refine ⟨fun r i hr => (State.reg_congr_regs (State.regs_refreshValve _) r i).trans (hframe.1 r i hr), ?_⟩
      rw [State.refreshValve_eq]
      exact congrArg (fun v : State => { v with cle := u.refreshValve.cle }) hframe.2
  case noValve => exact fun s h => if_neg (by simp [h])
  case ack =>
    intro d s hdry hlatch hlong hcore
    obtain ⟨c, f, hexec⟩ := execLeakAck_clears hdry hlatch hlong hcore
    obtain ⟨hset, hleak, hclosed⟩ := s.leakCleared_effect
    have hregs : ({ s.leakCleared with cle := c, clarn := f, pwr := { s.pwr with computeReq := true } } : State).regs = s.leakCleared.regs := rfl
    refine ⟨_, hexec, (State.flag_congr_regs hregs _ _).trans hset, (State.flag_congr_regs hregs _ _).trans hleak,
      (State.flag_congr_regs hregs _ _).trans hclosed, fun r i hr => (State.reg_congr_regs hregs r i).trans (s.leakCleared_onlyRegs.1 r i hr), ?_⟩
    exact congrArg (fun v : State => { v with cle := c, clarn := f, pwr := { s.pwr with computeReq := true } }) s.leakCleared_onlyRegs.2
  case early =>
    intro d s hdry hsoon
    simp only [exec, execLeakAck, hdry]
    exact if_neg fun h => absurd h.2 (by omega)
  case notDry =>
    intro s hdry
    simp only [exec, execLeakAck, hdry]
  case level => exact fun d high s h => if_pos h
  case shown =>
    intro d s hact hfunc
    have hact' : (s.diShown d).diAct d = s.diShown d := by rw [State.diAct, State.func_diShown, hfunc]; rfl
    refine ⟨s.diShown d, (execDiChange_active hact).trans (by rw [hact']), s.active_diShown d.isLt, s.diShown_onlyRegs d⟩
  case emerg =>
    intro d s hact hfunc h3 h4 hcore
    have hshown := s.diShown_onlyRegs d
    have hactive := s.active_diShown d.isLt
    have hfunc' := (s.func_diShown d d).trans hfunc
    have hcore' : (s.diShown d).pwr.vcore = false := hcore
    have hexec := execDiChange_active hact
    generalize s.diShown d = u at *
    have hps : u.psState = s.psState := State.psState_congr (hshown.1 _ _ (by decide))
    rw [State.diAct_emerg hfunc' hcore' (hps ▸ h3) (hps ▸ h4)] at hexec
    have hframe := u.emergRaised_frame d
    obtain ⟨hemerg, hcause⟩ := u.emergRaised_effect d
    refine ⟨_, hexec, hemerg, hcause, State.emergOk_of_active d.isLt ((hframe.rd _ (by decide) _).trans hfunc') ?_, fun r i hr => ?_, ?_⟩
    · rw [hframe.rd _ (by decide), hactive, Nat.testBit_or, Nat.testBit_two_pow_self, Bool.or_true]
    · refine (hframe.1 r i fun e => hr ?_).trans (hshown.1 r i fun e => hr ?_)
      · exact List.mem_cons_of_mem _ e
      · exact List.mem_append_left _ (by rw [List.mem_singleton.1 e]; decide)
    · have hk : (u.emergRaised d).protless = s.protless := hframe.2.trans
        (congrArg State.protless hshown.2 : u.regless.protless = s.regless.protless)
      exact congrArg (fun v : State => { v with clarn := (u.emergRaised d).clarn }) hk
  case stuck =>
    intro d s hact hfunc hstuck hthird
    have hshown := s.diShown_onlyRegs d
    have hfunc' := (s.func_diShown d d).trans hfunc
    have hstuck' : (s.diShown d).rd F.CIO_DI_STAT_STUCK = s.rd F.CIO_DI_STAT_STUCK := State.rd_wr_ne _ _ _ _ _ _ (.inr (by decide))
    have hexec := execDiChange_active hact
    obtain ⟨w, hw⟩ := State.diAct_third hfunc' (by rw [hstuck']; exact hstuck) (show 2 ≤ _ from hthird)
    obtain ⟨hmask, hcause, hframe⟩ := (s.diShown d).wakeMasked_effect d.isLt w
    rw [hw] at hexec
    exact ⟨_, hexec, hmask.trans (by rw [hstuck']), hcause, ((hshown.cio.ciolog.mono (by decide)).trans hframe).onlyLogs_cio⟩
  case clear =>
    intro m s
    refine ⟨_, rfl, (State.rd_wr_same _ _ _ _ (by decide)).trans (Nat.mod_eq_of_lt ?_), (OnlyRegs.refl _ s).wr _ _ _ (by decide)⟩
    exact lt_of_le_of_lt Nat.and_le_left (fieldOf_lt _ _)

end Sys2Proof.Machine
end

section
/-! PROOFS.  The heat meter's calculation, storage, seal and M-Bus (R390 to R400), and the statement on them. -/

namespace Sys2Proof.Machine

/-! ### Calculation (R391 to R394) -/

/-- Whether the medium is in fault after an interval without a transit fault in which the speed of sound fits. -/
def Meter.mediumFault (m : Meter) : Bool := !m.medium && (decide (m.flags &&& mfMedium ≠ 0) && decide (min 240 (m.medGood + 1) < 240))

/-- The faults of such an interval. -/
def Meter.calcFaults (m : Meter) (flow ti t : Rat) : Nat :=
  (if ti < -20 ∨ 150 < ti then mfTin else 0) + (if t < -20 ∨ 150 < t then mfTout else 0) + (if 10 < flow then mfFlow else 0) +
    (if m.mediumFault then mfMedium else 0)

/-- The row of R392's table for such an interval. -/
def Meter.calcRow (m : Meter) (flow ti t : Rat) : Nat :=
  if m.calcFaults flow ti t ≠ 0 then 2
  else if flow < 1 / 10 then 3
  else if t - ti ≤ 0 then 4
  else if m.medium then 5
  else if flow < 3 / 10 ∨ 8 < flow ∨ ti < 10 ∨ 70 < ti ∨ t < 10 ∨ 70 < t ∨ t - ti < 1 ∨ 50 < t - ti then 6
  else 7

/-- The meter and free values are forgotten. -/
def State.meterless (s : State) : State := { s with meter := {}, free := 0 }

theorem State.eq_of_meterless {s u : State} (h : u.meterless = s.meterless) : u = { s with meter := u.meter, free := u.free } :=
  congrArg (fun x : State => { x with meter := u.meter, free := u.free }) h

theorem OnlyFree.meterless {s u : State} (h : OnlyFree s u) : u.meterless = s.meterless :=
  have hu : u = { s with free := u.free } := h
  (congrArg State.meterless hu).trans rfl

theorem OnlyFree.meter {s u : State} (h : OnlyFree s u) : u.meter = s.meter := (congrArg State.meter h :)

theorem State.roundOff_free (s : State) (v : Rat) : OnlyFree s (s.roundOff v).2 := by
  simp only [State.roundOff]
  split <;> rfl

theorem testBit_putFlag {f i : Nat} (n : Nat) (on : Bool) (h : f.testBit i = false) (h' : (511 - f).testBit i = true) :
    (putFlag n f on).testBit i = n.testBit i := by
  cases on
  · show (n &&& (511 - f)).testBit i = _
    rw [Nat.testBit_and, h', Bool.and_true]
  · show (n ||| f).testBit i = _
    rw [Nat.testBit_or, h, Bool.or_false]

/-- An inlet temperature out of range is the first fault. -/
theorem Meter.calcFaults_testBit {m : Meter} {flow ti t : Rat} (h : ti < -20 ∨ 150 < ti) : (m.calcFaults flow ti t).testBit 0 = true := by
  have hodd : m.calcFaults flow ti t % 2 = 1 := by
    rw [Meter.calcFaults, if_pos h]
    have h2 : ∀ (c : Prop) [Decidable c] (n : Nat), n % 2 = 0 → (if c then n else 0) % 2 = 0 := by
      intro c _ n hn; split
      · exact hn
      · rfl
    have hone : mfTin = 1 := rfl
    have hb := h2 (t < -20 ∨ 150 < t) mfTout (by decide)
    have hc := h2 (10 < flow) mfFlow (by decide)
    have hd := h2 (m.mediumFault = true) mfMedium (by decide)
    omega
  rw [Nat.testBit_zero, hodd]; rfl

/-- What an interval without a transit fault, in which the speed of sound fits, does to the registers: `n` is the energy and `w` the
volume it counts. -/
structure Calculated (vol flow ti t : Rat) (s u : State) (n w : Nat) : Prop where
  only : u = { s with meter := u.meter, free := u.free }
  legal : u.meter.legal = if s.meter.calcRow flow ti t = 7 then (s.meter.legal + n) % 1000000000000000000 else s.meter.legal
  inform : s.meter.calcRow flow ti t ≠ 5 → s.meter.calcRow flow ti t ≠ 6 → u.meter.inform = s.meter.inform
  err : s.meter.calcRow flow ti t ≠ 2 → u.meter.err = s.meter.err
  errTime : u.meter.errTime = if s.meter.calcRow flow ti t = 2 then s.meter.errTime + 250 else s.meter.errTime
  opTime : u.meter.opTime = s.meter.opTime + 250
  still : s.meter.calcRow flow ti t = 3 → u.meter.volume = s.meter.volume
  counted : 4 ≤ s.meter.calcRow flow ti t → u.meter.volume = (s.meter.volume + w) % 1000000000000000
  fault : u.meter.flags.testBit 0 = (s.meter.calcFaults flow ti t).testBit 0
  energy : 5 ≤ s.meter.calcRow flow ti t → n = (s.roundOff (vol * s.meter.k ti t * (t - ti))).1.toNat
  volume : 0 ≤ vol → |(w : Rat) - vol| < 1

/-- A value that is not negative is rounded to a natural number within 1 of it. -/
theorem State.roundOff_toNat_near (s : State) {v : Rat} (h : 0 ≤ v) : |(((s.roundOff v).1.toNat : Nat) : Rat) - v| < 1 := by
  obtain ⟨hfloor, hup, hlow⟩ := s.roundOff_near v
  have hpos : 0 ≤ (s.roundOff v).1 := (Rat.le_floor_iff.2 (by simpa using h)).trans hfloor
  have hcast : (((s.roundOff v).1.toNat : Nat) : Rat) = ((s.roundOff v).1 : Rat) := by exact_mod_cast Int.toNat_of_nonneg hpos
  rw [hcast, abs_lt]
  constructor <;> linarith

theorem execMeterCalc_running (vol flow ti t : Rat) {s : State} (hrun : s.meter.running = true) :
    ∃ u n w, execMeterCalc vol flow ti t false false s = .next u ∧ Calculated vol flow ti t s u n w := by
  unfold execMeterCalc
  extract_lets m tinBad toutBad flowBad off mb mg was med f dT e row sub r en v counts rev flags erring wasErr lim s1
  have hf : s.meter.calcFaults flow ti t = f := by
    simp only [f, Meter.calcFaults, tinBad, toutBad, flowBad, decide_eq_true_eq, Bool.false_or]
    rfl
  have hrow : s.meter.calcRow flow ti t = row := by simp only [Meter.calcRow, hf, row, dT, m]
  have hsub : OnlyFree s sub.2 := by
    simp only [sub]
    split
    · exact s.roundOff_free _
    · rfl
  have hen : OnlyFree s en.2 := by
    simp only [en]
    split
    · exact hsub
    · split
      · exact s.roundOff_free _
      · rfl
  have hv : OnlyFree s v.2 := hen.trans (en.2.roundOff_free vol)
  have hm1 : v.2.meter = s.meter := hv.meter
  have hlow : (putFlag (putFlag (putFlag (m.flags &&& (511 - 15) ||| f) mfRange (row = 6)) mfReverse (rev = 240)) mfPg25 m.medium).testBit 0 =
      f.testBit 0 := by
    rw [testBit_putFlag _ _ (by decide) (by decide), testBit_putFlag _ _ (by decide) (by decide), testBit_putFlag _ _ (by decide) (by decide),
      Nat.testBit_or, Nat.testBit_and]
    simp
  generalize hu : (if (decide erring && !decide wasErr) = true then s1.modMeter fun m => m.note 5 f
    else if (!decide erring && decide wasErr) = true then s1.modMeter fun m => m.note 6 0 else s1) = u
  have hlog : u.meterless = s1.meterless ∧ ∃ l, u.meter = { s1.meter with log := l } := by
    rw [← hu]
    split
    · exact ⟨rfl, _, rfl⟩
    · split <;> exact ⟨rfl, _, rfl⟩
  obtain ⟨hless, l, hmeter⟩ := hlog
  refine ⟨u, en.1, v.1.toNat, if_neg (by simp [m, hrun]), ?_⟩
  constructor
  case only => exact State.eq_of_meterless (hless.trans hv.meterless)
  case legal =>
    rw [hmeter, hrow]
    show (if row = 7 then wrapAdd lim v.2.meter.legal en.1 else v.2.meter.legal) = _
    rw [hm1]; rfl
  case inform =>
    intro h5 h6
    rw [hmeter]
    rw [hrow] at h5 h6
    show (if (decide (row = 5) || decide (row = 6)) = true then wrapAdd lim v.2.meter.inform en.1 else v.2.meter.inform) = _
    rw [if_neg (by simp [h5, h6]), hm1]
  case err =>
    intro h2
    rw [hmeter]
    show (if row = 2 then wrapAdd lim v.2.meter.err en.1 else v.2.meter.err) = _
    rw [if_neg (hrow ▸ h2), hm1]
  case errTime =>
    rw [hmeter, hrow]
    show (if row = 2 then v.2.meter.errTime + 250 else v.2.meter.errTime) = _
    rw [hm1]
  case opTime =>
    rw [hmeter]
    show v.2.meter.opTime + 250 = _
    rw [hm1]
  case still =>
    intro h3
    rw [hrow] at h3
    rw [hmeter]
    show (if counts = true then wrapAdd 1000000000000000 v.2.meter.volume v.1.toNat else v.2.meter.volume) = _
    rw [if_neg (by simp [counts, h3]), hm1]
  case counted =>
    intro h4
    rw [hrow] at h4
    have hle : row ≤ 7 := by simp only [row]; split_ifs <;> decide
    have hcounts : counts = true := by
      simp only [counts, Bool.or_eq_true, decide_eq_true_eq]
      omega
    rw [hmeter]
    show (if counts = true then wrapAdd 1000000000000000 v.2.meter.volume v.1.toNat else v.2.meter.volume) = _
    rw [if_pos hcounts, hm1]; rfl
  case fault => rw [hmeter, hf]; exact hlow
  case energy =>
    intro h5
    rw [hrow] at h5
    have hr : en = (r.1.toNat, r.2) := (if_neg (by omega)).trans (if_pos h5)
    rw [hr]
  case volume => exact fun h => en.2.roundOff_toNat_near h

/-- Without a fault before and with everything in range there is no fault. -/
theorem Meter.calcFaults_none {m : Meter} {flow ti t : Rat} (hflags : m.flags &&& 15 = 0) (hti : -20 ≤ ti ∧ ti ≤ 150) (ht : -20 ≤ t ∧ t ≤ 150)
    (hflow : flow ≤ 10) : m.calcFaults flow ti t = 0 := by
  have hmed : m.flags &&& mfMedium = 0 := by
    calc m.flags &&& 8 = m.flags &&& 15 &&& 8 := by rw [Nat.and_assoc]; rfl
      _ = 0 := by rw [hflags]; rfl
  have hfault : m.mediumFault = false := by simp [Meter.mediumFault, hmed]
  rw [Meter.calcFaults, if_neg (not_or.2 ⟨not_lt.2 hti.1, not_lt.2 hti.2⟩), if_neg (not_or.2 ⟨not_lt.2 ht.1, not_lt.2 ht.2⟩),
    if_neg (not_lt.2 hflow), hfault]
  rfl

/-! ### M-Bus (R399, R400) -/

theorem State.roundAll_free (s : State) (l : List Rat) : OnlyFree s (s.roundAll l).2 :=
  List.foldlRecOn (motive := fun r : List Int × State => OnlyFree s r.2) l _ rfl fun r hr v _ => hr.trans (r.2.roundOff_free v)

/-- A readout's data records: fourteen, of which the legal register is the first. -/
theorem execReqUd2_answers {a : BitVec 8} {s : State} (h : s.meter.addressed a.toNat = true) : ∃ u st l, OnlyFree s u ∧
    execReqUd2 a s = .next (u.emit (.rspUd st ((0x03, ((s.meter.legal / 1000 : Nat) : Int)) :: l))) ∧ l.length = 13 :=
  ⟨_, _, _, s.roundAll_free _, if_pos h, rfl⟩

/-- A telegram that addresses the meter and selects nothing is acknowledged. -/
theorem execSndUd_medium {a : BitVec 8} {s : State} (b : Bool) (h : s.meter.addressed a.toNat = true) : execSndUd a (.medium b) s =
    .next ((if s.meter.loopOpen then s.modMeter fun m => ({ m with medium := b }).changed 3 0 else s).emit .mbusAck) := by
  simp only [execSndUd, h, Bool.or_false, Bool.not_true, Bool.false_eq_true, if_false, Bool.false_and]

theorem execSndUd_address {a x : BitVec 8} {s : State} (h : s.meter.addressed a.toNat = true) (h1 : 1 ≤ x.toNat) (h250 : x.toNat ≤ 250) :
    execSndUd a (.address x) s = .next ((s.modMeter fun m => ({ m with addr := x.toNat }).note 10 x.toNat).emit .mbusAck) := by
  simp only [execSndUd, h, Bool.or_false, Bool.not_true, Bool.false_eq_true, if_false, Bool.false_and, h1, h250, and_self, if_true]

/-! ### The statement -/

/-- Settles O51: the row of R392's table that an interval falls in says what each register counts. -/
theorem meterCalculatesStoresAndSeals : Obligations.MeterCalculatesStoresAndSeals := by
  unfold Obligations.MeterCalculatesStoresAndSeals
  refine ⟨?stopped, ?legal, ?still, ?noHeat, ?badTemp, ?commit, ?noCommit, ?supply, ?opens, ?closes, ?same, ?nke, ?notAddressed, ?readout,
    ?sealed, ?medium, ?address, ?begins, ?shut, ?image⟩
  case stopped => exact fun v f ti o nt so s h => if_pos (by simp [h])
  case legal =>
    intro v f ti o s hrun hmed hflags hf0 hf1 hti ho hd1 hd50 hheat hv
    obtain ⟨u, n, w, hexec, hcalc⟩ := execMeterCalc_running v f ti o hrun
    have hrow : s.meter.calcRow f ti o = 7 := by
      have hfaults := Meter.calcFaults_none (flow := f) hflags ⟨by linarith, by linarith⟩ (t := o) ⟨by linarith, by linarith⟩ (by linarith) (ti := ti)
      rw [Meter.calcRow, if_neg (by simp [hfaults]), if_neg (by linarith), if_neg (by linarith), if_neg (by simp [hmed]), if_neg]
      simp only [not_or, not_lt]
      refine ⟨hf0, hf1, hti, ?_, ?_, ho, hd1, hd50⟩ <;> linarith
    have hn := hcalc.energy (by omega)
    rw [Meter.k, hmed] at hn
    refine ⟨u, n, w, hexec, ?_, by rw [hcalc.legal, if_pos hrow], hcalc.volume hv, hcalc.counted (by omega), hcalc.inform (by omega) (by omega),
      hcalc.err (by omega), by rw [hcalc.errTime, if_neg (by omega)], hcalc.opTime, hcalc.only⟩
    rw [hn]; exact s.roundOff_toNat_near hheat
  case still =>
    intro v f ti o s hrun hmed hflags hti0 hti1 ho0 ho1 hf
    obtain ⟨u, n, w, hexec, hcalc⟩ := execMeterCalc_running v f ti o hrun
    have hrow : s.meter.calcRow f ti o = 3 := by
      rw [Meter.calcRow, if_neg (by simp [Meter.calcFaults_none (flow := f) hflags ⟨hti0, hti1⟩ ⟨ho0, ho1⟩ (by linarith)]), if_pos hf]
    exact ⟨u, hexec, by rw [hcalc.legal, if_neg (by omega)], hcalc.inform (by omega) (by omega), hcalc.err (by omega), hcalc.still hrow, hcalc.only⟩
  case noHeat =>
    intro v f ti o s hrun hmed hflags hti0 hti1 ho0 ho1 hf0 hf1 hv
    obtain ⟨u, n, w, hexec, hcalc⟩ := execMeterCalc_running v f ti o hrun
    have hrow : s.meter.calcRow f ti o = 4 := by
      rw [Meter.calcRow, if_neg (by simp [Meter.calcFaults_none (flow := f) hflags ⟨hti0, hti1⟩ ⟨ho0, ho1.trans hti1⟩ hf1]),
        if_neg (not_lt.2 hf0), if_pos (by linarith)]
    exact ⟨u, w, hexec, by rw [hcalc.legal, if_neg (by omega)], hcalc.inform (by omega) (by omega), hcalc.err (by omega), hcalc.volume hv,
      hcalc.counted (by omega), hcalc.only⟩
  case badTemp =>
    intro v f ti o s hrun hti
    obtain ⟨u, n, w, hexec, hcalc⟩ := execMeterCalc_running v f ti o hrun
    have hbit := Meter.calcFaults_testBit (m := s.meter) (flow := f) (t := o) hti
    have hrow : s.meter.calcRow f ti o = 2 := if_pos fun h0 => by simp [h0] at hbit
    exact ⟨u, hexec, hcalc.fault.trans hbit, by rw [hcalc.legal, if_neg (by omega)], hcalc.inform (by omega) (by omega),
      by rw [hcalc.errTime, if_pos hrow], hcalc.only⟩
  case commit => exact fun s h => ⟨if_pos h, if_pos h⟩
  case noCommit => exact fun b s h => if_neg (by simp [h])
  case supply => exact fun s => ⟨_, rfl, rfl, rfl, rfl, rfl⟩
  case opens => exact fun s h => ⟨_, if_pos (by simp [h]), rfl, rfl, rfl⟩
  case closes =>
    intro s h
    refine ⟨s.modMeter fun m => ({ m with loopOpen := false }).note 2 0, ?_, rfl, rfl⟩
    simp only [exec, execSealCheck, h, Bool.not_true, Bool.not_false, Bool.and_false, Bool.and_true, Bool.false_eq_true, if_false, if_true]
  case same => exact fun s => (if_neg (by simp)).trans (if_neg (by simp))
  case nke => exact fun a s h => if_pos h
  case notAddressed => exact fun a s h => ⟨if_neg (by simp [h]), if_neg (by simp [h])⟩
  case readout =>
    intro a s h
    obtain ⟨u, st, l, hfree, hexec, hlen⟩ := execReqUd2_answers h
    have hu : u = { s with free := u.free } := hfree
    have hout : u.out = s.out := (congrArg State.out hfree :)
    refine ⟨_, st, _, hexec, congrArg (· ++ _) hout, by rw [List.length_cons, hlen], rfl, ?_⟩
    exact congrArg (fun x : State => { x with out := u.out ++ [Emit.rspUd st ((0x03, ((s.meter.legal / 1000 : Nat) : Int)) :: l)] }) hu
  case sealed =>
    intro a b s h hloop
    exact (execSndUd_medium b h).trans (by rw [hloop]; rfl)
  case medium =>
    intro a b s h hloop
    exact ⟨_, (execSndUd_medium b h).trans (by rw [if_pos hloop]), rfl, rfl, rfl⟩
  case address => exact fun a x s h h1 h250 => ⟨_, execSndUd_address h h1 h250, rfl, rfl⟩
  case begins => exact fun s h => congrArg Host.Outcome.next (if_pos h)
  case shut =>
    intro u s h
    cases u with
    | begin_ => exact congrArg Host.Outcome.next (if_neg (by simp [h]))
    | image ver body key sig => exact if_pos (by simp [h])
  case image =>
    intro ver body key sig s hloop hrun
    by_cases hok : Config.sha384 key = s.meter.fwKey ∧ Config.ecdsaVerify key (Config.sha384 body) sig = true
    · refine ⟨_, (if_neg (by simp [hloop, hrun])).trans (congrArg (fun f => Host.Outcome.next (s.modMeter f)) (funext fun m => if_pos hok)), rfl,
        fun _ _ => ⟨rfl, rfl, rfl⟩, fun h => absurd hok.2 (by simp [h]), rfl⟩
    · refine ⟨_, (if_neg (by simp [hloop, hrun])).trans (congrArg (fun f => Host.Outcome.next (s.modMeter f)) (funext fun m => if_neg hok)), rfl,
        fun hk hv => absurd ⟨hk, hv⟩ hok, fun _ => ⟨rfl, rfl⟩, rfl⟩

end Sys2Proof.Machine
end

section
/-! PROOFS.  The meter's snapshots and the requests of the MTR block (R401 to R407), and the statement on them. -/

namespace Sys2Proof.Machine

/-! ### Requests (R406) -/

/-- The module with a request shown as under way. -/
def State.asked (s : State) (code arg : Nat) : State :=
  (((s.wr F.MTR_REQ_CODE 0 code).wr F.MTR_REQ_ARG 0 arg).wr F.MTR_REQ_GO 0 1).wr F.MTR_REQ_BUSY 0 1

theorem State.asked_onlyRegs (s : State) (code arg : Nat) : OnlyRegs [.MTR_REQ] s (s.asked code arg) :=
  ((((OnlyRegs.refl _ s).wr _ _ _ (by decide)).wr _ _ _ (by decide)).wr _ _ _ (by decide)).wr _ _ _ (by decide)

theorem State.busy_asked (s : State) (code arg : Nat) : (s.asked code arg).flag F.MTR_REQ_BUSY = true := State.flag_wr_one _ _ _ (by decide)

theorem State.rd_asked (s : State) {code arg : Nat} (hcode : code < 256) (harg : arg < 256) :
    (s.asked code arg).rd F.MTR_REQ_CODE = code ∧ (s.asked code arg).rd F.MTR_REQ_ARG = arg := by
  unfold State.asked
  constructor
  · rw [State.rd_wr_ne _ _ _ _ _ _ (.inr (by decide)), State.rd_wr_ne _ _ _ _ _ _ (.inr (by decide)),
      State.rd_wr_ne _ _ _ _ _ _ (.inr (by decide)), State.rd_wr_same _ _ _ _ (by decide)]
    exact Nat.mod_eq_of_lt hcode
  · rw [State.rd_wr_ne _ _ _ _ _ _ (.inr (by decide)), State.rd_wr_ne _ _ _ _ _ _ (.inr (by decide)), State.rd_wr_same _ _ _ _ (by decide)]
    exact Nat.mod_eq_of_lt harg

/-- The module with an answer to the meter interface. -/
def State.answered (s : State) (l : Option (List Word)) : State := { s with mtrIf := { s.mtrIf with answer := l } }

/-- A request that draws no free value has the meter's words coming. -/
theorem State.meterAsk_running {s : State} {code arg : Nat} {ans : Meter → State → List Word × State} {l : List Word}
    (hbusy : s.flag F.MTR_REQ_BUSY = false) (hrun : s.meter.running = true) (hans : ∀ u : State, ans s.meter u = (l, u)) :
    s.meterAsk code arg ans = (s.asked code arg).answered (some l) := by
  have hans' : ans (s.asked code arg).meter (s.asked code arg) = (l, s.asked code arg) := hans _
  refine (if_neg (by simp [hbusy])).trans ((if_pos hrun).trans ?_)
  rw [← State.asked, hans']
  rfl

theorem State.meterAsk_stopped {s : State} {code arg : Nat} {ans : Meter → State → List Word × State}
    (hbusy : s.flag F.MTR_REQ_BUSY = false) (hrun : s.meter.running = false) :
    s.meterAsk code arg ans = (s.asked code arg).answered none :=
  (if_neg (by simp [hbusy])).trans (if_neg (by simp [State.meter_wr, hrun]))

theorem State.meterAsk_busy {s : State} {code arg : Nat} {ans : Meter → State → List Word × State}
    (hbusy : s.flag F.MTR_REQ_BUSY = true) : s.meterAsk code arg ans = s.raise F.MTR_CAUSE_CFGERR := if_pos hbusy

theorem State.regs_answered (s : State) (l : Option (List Word)) : (s.answered l).regs = s.regs := rfl

theorem OnlyRegs.withAnswer {rs : List Reg} {s u : State} (h : OnlyRegs rs s u) (l : Option (List Word)) :
    OnlyRegs rs { s with mtrIf := { s.mtrIf with answer := l } } (u.answered l) :=
  ⟨fun r i hr => (State.reg_congr_regs (u.regs_answered l) r i).trans (h.1 r i hr), congrArg (fun v : State => v.answered l) h.2⟩

/-- What a request shows. -/
theorem State.asked_answered_effect (s : State) {code arg : Nat} (hcode : code < 256) (harg : arg < 256) (l : Option (List Word)) :
    ((s.asked code arg).answered l).flag F.MTR_REQ_BUSY = true ∧ ((s.asked code arg).answered l).rd F.MTR_REQ_CODE = code ∧
    ((s.asked code arg).answered l).rd F.MTR_REQ_ARG = arg ∧
    OnlyRegs [.MTR_REQ] { s with mtrIf := { s.mtrIf with answer := l } } ((s.asked code arg).answered l) := by
  have hregs := (s.asked code arg).regs_answered l
  obtain ⟨hc, ha⟩ := s.rd_asked hcode harg
  exact ⟨(State.flag_congr_regs hregs _ _).trans (s.busy_asked code arg), (State.rd_congr_regs hregs _ _).trans hc,
    (State.rd_congr_regs hregs _ _).trans ha, (s.asked_onlyRegs code arg).withAnswer l⟩

/-! ### Ends of requests (R402, R404, R407) -/

theorem State.regs_meterEnd (s : State) (r : Nat) :
    (s.meterEnd r).regs = (((s.wr F.MTR_REQ_BUSY 0 0).wr F.MTR_REQ_GO 0 0).wr F.MTR_REQ_RESULT 0 r).regs := rfl

theorem State.meterEnd_effect (s : State) {r : Nat} (hr : r < 4) : (s.meterEnd r).rd F.MTR_REQ_RESULT = r ∧
    (s.meterEnd r).flag F.MTR_REQ_BUSY = false ∧ (s.meterEnd r).flag F.MTR_REQ_GO = false ∧
    OnlyRegs [.MTR_REQ] { s with mtrIf := { s.mtrIf with answer := none } } (s.meterEnd r) := by
  have hregs := s.regs_meterEnd r
  refine ⟨?_, ?_, ?_, ?_⟩
  · rw [State.rd_congr_regs hregs, State.rd_wr_same _ _ _ _ (by decide)]
    exact Nat.mod_eq_of_lt hr
  · rw [State.flag_congr_regs hregs, State.flag_wr_ne _ _ _ _ _ _ (.inr (by decide)), State.flag_wr_ne _ _ _ _ _ _ (.inr (by decide)),
      State.flag_wr_zero _ _ _ (by decide)]
  · rw [State.flag_congr_regs hregs, State.flag_wr_ne _ _ _ _ _ _ (.inr (by decide)), State.flag_wr_zero _ _ _ (by decide)]
  · exact ((OnlyRegs.refl _ _).wr _ _ _ (by decide)).wr _ _ _ (by decide) |>.wr _ _ _ (by decide)

/-- A request without a valid answer: its result, the count and LINK. -/
theorem State.meterLink_effect (s : State) {r : Nat} (hr : r < 4) : (s.meterLink r).rd F.MTR_REQ_RESULT = r ∧
    (s.meterLink r).flag F.MTR_REQ_BUSY = false ∧ (s.meterLink r).rd F.MTR_LINK_CNT_COUNT = satInc 32 (s.rd F.MTR_LINK_CNT_COUNT) ∧
    (s.meterLink r).flag F.MTR_CAUSE_LINK = true ∧
    OnlyLogs [.MTR_REQ, .MTR_LINK_CNT, .MTR_CAUSE] { s with mtrIf := { s.mtrIf with answer := none } } (s.meterLink r) := by
  obtain ⟨hres, hbusy, -, honly⟩ := s.meterEnd_effect hr
  have hcount : (s.meterEnd r).rd F.MTR_LINK_CNT_COUNT = s.rd F.MTR_LINK_CNT_COUNT := State.rd_congr (honly.1 _ _ (by decide))
  have hframe : Frame State.logless ([.MTR_REQ, .MTR_LINK_CNT, .MTR_CAUSE] ++ recRegs) { s with mtrIf := { s.mtrIf with answer := none } }
      (s.meterLink r) :=
    (((Frame.of_onlyRegs (fun _ => rfl) honly).mono (by decide)).wr (fun _ => rfl) _ _ _
      (by decide)).raiseBit (fun _ => rfl) _ _ (by decide) (by decide)
  have hother : ∀ q, q ≠ .MTR_LINK_CNT → q ≠ .MTR_CAUSE → q ≠ .IRQ_TRAY_PEND → ∀ j, (s.meterLink r).reg q j = (s.meterEnd r).reg q j :=
    fun q h1 h2 h3 j => (State.reg_raiseBit _ _ _ _ _ h3).trans ((State.reg_wr_ne _ _ _ _ _ _ h2).trans (State.reg_wr_ne _ _ _ _ _ _ h1))
  refine ⟨?_, ?_, ?_, ?_, hframe⟩
  · exact (State.rd_congr (hother _ (by decide) (by decide) (by decide) 0)).trans hres
  · exact (State.flag_congr (hother _ (by decide) (by decide) (by decide) 0)).trans hbusy
  · refine (State.rd_congr (State.reg_raiseBit _ _ _ _ _ (by decide))).trans ((State.rd_wr_ne _ _ _ _ _ _ (.inl (by decide))).trans
      ((State.rd_wr_same _ _ _ _ (by decide)).trans ((Nat.mod_eq_of_lt (satInc_lt 32 _)).trans (by rw [hcount]))))
  · exact (State.flag_raiseBit _ _ _ _ _ (by decide)).trans (State.flag_wr_one _ _ _ (by decide))

/-- A change counter that differs from the one of the last start. -/
theorem State.changeSeen_differs {s : State} {o c : Nat} (hthis : s.mtrIf.thisChange = none) (hprev : s.mtrIf.prevChange = some o) (hne : o ≠ c) :
    ((s.changeSeen c).flag F.MTR_CAUSE_CHANGE = true ∧ (s.changeSeen c).mtrIf.thisChange = some c ∧
      (s.changeSeen c).rd F.MTR_REQ_RESULT = s.rd F.MTR_REQ_RESULT) ∧
    OnlyLogs [.MTR_CAUSE] { s with mtrIf := { s.mtrIf with thisChange := some c } } (s.changeSeen c) := by
  have heq : s.changeSeen c = ({ s with mtrIf := { s.mtrIf with thisChange := some c } } : State).raise F.MTR_CAUSE_CHANGE 0 1 [wd o, wd c] := by
    simp only [State.changeSeen, hthis, hprev, if_neg hne]
  rw [heq]
  have hframe : OnlyLogs [.MTR_CAUSE] { s with mtrIf := { s.mtrIf with thisChange := some c } }
      (({ s with mtrIf := { s.mtrIf with thisChange := some c } } : State).raise F.MTR_CAUSE_CHANGE 0 1 [wd o, wd c]) :=
    (OnlyLogs.refl _ _).raise _ _ _ _ _ (by decide)
  exact ⟨⟨State.flag_raise_same _ _ _ _ _ _ (by decide), (congrArg (fun v : State => v.mtrIf.thisChange) hframe.2 :),
    State.rd_congr (hframe.1 _ _ (by decide))⟩, hframe⟩

/-- The module with an answer's words in MTR_RESP from the `n`-th on. -/
def State.responded (s : State) (l : List Word) (n : Nat) : State :=
  (l.zipIdx n).foldl (fun (s : State) (x : Word × Nat) => s.setReg .MTR_RESP x.2 x.1) s

theorem State.responded_cons (s : State) (a : Word) (l : List Word) (n : Nat) :
    s.responded (a :: l) n = (s.setReg .MTR_RESP n a).responded l (n + 1) := rfl

/-- The words of an answer stand in MTR_RESP. -/
theorem State.responded_effect (l : List Word) (n : Nat) (s : State) : OnlyRegs [.MTR_RESP] s (s.responded l n) ∧
    (∀ j < n, (s.responded l n).reg .MTR_RESP j = s.reg .MTR_RESP j) ∧
    ∀ i w, l[i]? = some w → (s.responded l n).reg .MTR_RESP (n + i) = w := by
  induction l generalizing n s with
  | nil => exact ⟨OnlyRegs.refl _ s, fun _ _ => rfl, fun i w h => by simp at h⟩
  | cons a l ih =>
    obtain ⟨honly, hlow, hword⟩ := ih (n + 1) (s.setReg .MTR_RESP n a)
    rw [State.responded_cons]
    refine ⟨((OnlyRegs.refl _ s).setReg n a (by decide)).trans honly, fun j hj => ?_, fun i w h => ?_⟩
    · rw [hlow j (by omega), State.reg_setReg, if_neg (by omega)]
    · cases i with
      | zero =>
        refine (hlow n (by omega)).trans ((State.reg_setReg _ _ _ _ _ _).trans ((if_pos ⟨rfl, rfl⟩).trans ?_))
        simpa using h
      | succ i =>
        rw [show n + (i + 1) = n + 1 + i by omega]
        exact hword i w (by simpa using h)

/-! ### Snapshots (R401, R404) -/

/-- What a snapshot may change beside registers is forgotten: readings and free values. -/
def State.snapless (s : State) : State := { s with regs := [], cio := {}, free := 0 }

section SnapFrames
variable {rs : List Reg} {s t : State} (h : Frame State.snapless rs s t)
include h

theorem Frame.snapRead (k : Nat) (v : Rat) : Frame State.snapless rs s (t.setRead k v) := h.other rfl rfl

theorem Frame.snapHist (k n : Nat) (v : Rat) : Frame State.snapless rs s (t.histPut k n v) := h.other rfl rfl

end SnapFrames

/-- The module with the snapshot's number moved. -/
def State.snapCounted (s : State) : State := s.modMeter fun m => { m with seq := (m.seq + 1) % 65536 }

/-- The present values of a snapshot, rounded. -/
def State.snapValues (s : State) : List Int × State := s.roundAll [s.meter.flow * 1000, s.meter.tin * 100, s.meter.tout * 100, s.meter.power]

/-- The module with a snapshot's words. -/
def State.snapWords (s : State) : State :=
  (((((s.snapValues.2.wrS F.MTR_SNAP_FLOW_VALUE 0 (getAt 0 s.snapValues.1 0)).wrS F.MTR_SNAP_TEMP_TIN 0 (getAt 0 s.snapValues.1 1)).wrS
    F.MTR_SNAP_TEMP_TOUT 0 (getAt 0 s.snapValues.1 2)).wrS F.MTR_SNAP_PWR_VALUE 0 (getAt 0 s.snapValues.1 3)).setReg .MTR_SNAP_STATUS 0
    (wd s.meter.status)).setReg .MTR_SNAP_STAMP 0 (wd (s.timeBase.toNat / 1000))

/-- The module with the four sources fed. -/
def State.snapFed (s : State) (m : Meter) : State :=
  (((s.setRead 0x20 m.flow).setRead 0x21 m.tin).setRead 0x22 m.tout).setRead 0x23 m.power

/-- The module with the sources' histories fed and the meter reached. -/
def State.snapReached (s : State) (m : Meter) : State :=
  (((s.histPut 0x20 4 m.flow).histPut 0x21 4 m.tin).histPut 0x22 4 m.tout).wr F.MTR_STAT_REACH 0 1

/-- A loss of snapshots that was reported ends. -/
def State.snapBack (s : State) : State :=
  if s.mtrIf.unreach then ({ s with mtrIf := { s.mtrIf with unreach := false } } : State).raise F.MTR_CAUSE_REACH 0 1 else s

/-- ERRTIME follows the meter. -/
def State.snapErr (s : State) (err : Bool) : State :=
  if s.flag F.MTR_STAT_ERRTIME = err then s
  else (s.wr F.MTR_STAT_ERRTIME 0 (if err then 1 else 0)).raise F.MTR_CAUSE_ERRTIME 0 (if err then 2 else 1)

/-- SEAL_OPENED follows the meter. -/
def State.snapSeal (s : State) (opened : Bool) : State :=
  (if opened && !(s.flag F.MTR_STAT_SEAL_OPENED) then s.raise F.MTR_CAUSE_SEAL 0 2 else s).wr F.MTR_STAT_SEAL_OPENED 0 (if opened then 1 else 0)

/-- MEDIUM_DIFF follows the meter's medium and the module's. -/
def State.snapDiff (s : State) (diff : Bool) : State :=
  (if diff && !(s.flag F.MTR_STAT_MEDIUM_DIFF) then s.raise F.MTR_CAUSE_MEDIUM_DIFF 0 2 else s).wr F.MTR_STAT_MEDIUM_DIFF 0 (if diff then 1 else 0)

/-- MEDIUM and MEDIUM_DIFF follow the meter. -/
def State.snapMedium (s : State) (medium : Bool) : State :=
  (s.wr F.MTR_STAT_MEDIUM 0 (if medium then 1 else 0)).snapDiff
    (medium != (s.wr F.MTR_STAT_MEDIUM 0 (if medium then 1 else 0)).flag F.CIO_HB_CFG_FLUID)

/-- The module with a snapshot's values. -/
def State.snapStored (s : State) : State := (s.snapCounted.snapWords.snapFed s.snapCounted.meter).snapReached s.snapCounted.meter

theorem execSnapshot_eq {s : State} (hrun : s.meter.running = true) (hon : s.boot.off = false) : execSnapshot s =
    .next ((((s.snapStored.snapBack.snapErr (s.meter.flags &&& 15 ≠ 0)).snapSeal (s.meter.flags &&& mfSeal ≠ 0)).snapMedium s.meter.medium).flowCheck) :=
  (if_neg (by simp [hrun])).trans (if_neg (by simp [State.modMeter, hon]))

/-- What tells of a snapshot changes and logs MTR_STAT and MTR_CAUSE. -/
abbrev SnapTold (s t : State) : Prop := OnlyLogs [.MTR_STAT, .MTR_CAUSE] s t

theorem State.snapErr_told (s : State) (err : Bool) : SnapTold s (s.snapErr err) := by
  unfold State.snapErr
  split
  · exact OnlyLogs.refl _ s
  · exact ((OnlyLogs.refl _ s).wr _ _ _ (by decide)).raise _ _ _ _ _ (by decide)

theorem State.snapSeal_told (s : State) (opened : Bool) : SnapTold s (s.snapSeal opened) := by
  unfold State.snapSeal
  refine OnlyLogs.wr _ _ _ ?_ (by decide)
  split
  · exact (OnlyLogs.refl _ s).raise _ _ _ _ _ (by decide)
  · exact OnlyLogs.refl _ s

theorem State.snapDiff_told (s : State) (diff : Bool) : SnapTold s (s.snapDiff diff) := by
  unfold State.snapDiff
  refine OnlyLogs.wr _ _ _ ?_ (by decide)
  split
  · exact (OnlyLogs.refl _ s).raise _ _ _ _ _ (by decide)
  · exact OnlyLogs.refl _ s

theorem State.snapMedium_told (s : State) (medium : Bool) : SnapTold s (s.snapMedium medium) :=
  ((OnlyLogs.refl _ s).wr _ _ _ (by decide)).trans (State.snapDiff_told _ _)

/-- Flags of MTR_STAT after a cause is raised or not. -/
theorem State.flag_raise_or {s : State} (c : Bool) (f : Fld) (sev : Nat) (g : Fld) (h : g.reg = .MTR_STAT) (hf : f.reg = .MTR_CAUSE) :
    (if c then s.raise f 0 sev else s).flag g = s.flag g := by
  split
  · exact State.flag_raise_ne _ _ _ _ _ _ _ _ ⟨by rw [h]; decide, .inl (by rw [h, hf]; decide)⟩
  · rfl

theorem State.flag_snapErr (s : State) (err : Bool) (g : Fld) (h : g.reg = .MTR_STAT) (hg : g.hi < 2 ∨ 2 < g.lo) :
    (s.snapErr err).flag g = s.flag g := by
  unfold State.snapErr
  split
  · rfl
  · rw [State.flag_raise_ne _ _ _ _ _ _ _ _ ⟨by rw [h]; decide, .inl (by rw [h]; decide)⟩, State.flag_wr_ne _ _ _ _ _ _ (.inr ⟨by decide, hg⟩)]

theorem State.flag_snapSeal (s : State) (opened : Bool) : (s.snapSeal opened).flag F.MTR_STAT_SEAL_OPENED = opened ∧
    (s.snapSeal opened).flag F.MTR_STAT_REACH = s.flag F.MTR_STAT_REACH := by
  unfold State.snapSeal
  constructor
  · cases opened
    · exact State.flag_wr_zero _ _ _ (by decide)
    · exact State.flag_wr_one _ _ _ (by decide)
  · rw [State.flag_wr_ne _ _ _ _ _ _ (.inr (by decide)), State.flag_raise_or _ _ _ _ rfl rfl]

theorem State.flag_snapDiff (s : State) (diff : Bool) (g : Fld) (h : g.reg = .MTR_STAT) (hg : g.hi < 4 ∨ 4 < g.lo) :
    (s.snapDiff diff).flag g = s.flag g := by
  rw [State.snapDiff, State.flag_wr_ne _ _ _ _ _ _ (.inr ⟨by decide, hg⟩), State.flag_raise_or _ _ _ _ h rfl]

theorem State.flag_snapMedium (s : State) (medium : Bool) : (s.snapMedium medium).flag F.MTR_STAT_MEDIUM = medium ∧
    (s.snapMedium medium).flag F.MTR_STAT_SEAL_OPENED = s.flag F.MTR_STAT_SEAL_OPENED ∧
    (s.snapMedium medium).flag F.MTR_STAT_REACH = s.flag F.MTR_STAT_REACH := by
  unfold State.snapMedium
  refine ⟨?_, ?_, ?_⟩
  · rw [State.flag_snapDiff _ _ _ rfl (by decide)]
    cases medium
    · exact State.flag_wr_zero _ _ _ (by decide)
    · exact State.flag_wr_one _ _ _ (by decide)
  · rw [State.flag_snapDiff _ _ _ rfl (by decide), State.flag_wr_ne _ _ _ _ _ _ (.inr (by decide))]
  · rw [State.flag_snapDiff _ _ _ rfl (by decide), State.flag_wr_ne _ _ _ _ _ _ (.inr (by decide))]

/-- A loss of snapshots that was reported is reported as ended. -/
theorem State.snapBack_logs (s : State) : OnlyLogs [.MTR_CAUSE] { s with mtrIf := { s.mtrIf with unreach := false } } s.snapBack := by
  unfold State.snapBack
  split
  · exact (OnlyLogs.refl _ _).raise _ _ _ _ _ (by decide)
  · next h =>
    have hsame : ({ s.mtrIf with unreach := false } : MtrIf) = s.mtrIf := by
      have hoff : s.mtrIf.unreach = false := by simpa using h
      rw [← hoff]
    rw [hsame]
    exact OnlyLogs.refl _ s

theorem State.snapWords_frame (s : State) :
    Frame State.snapless [.MTR_SNAP_FLOW, .MTR_SNAP_TEMP, .MTR_SNAP_PWR, .MTR_SNAP_STATUS, .MTR_SNAP_STAMP] s s.snapWords := by
  have hvalues : Frame State.snapless [.MTR_SNAP_FLOW, .MTR_SNAP_TEMP, .MTR_SNAP_PWR, .MTR_SNAP_STATUS, .MTR_SNAP_STAMP] s s.snapValues.2 := by
    have hfree : OnlyFree s s.snapValues.2 := s.roundAll_free _
    exact (Frame.refl _ _ s).other (congrArg State.regs hfree :) ((congrArg State.snapless (show s.snapValues.2 = _ from hfree)).trans rfl)
  exact (((((hvalues.wr (fun _ => rfl) _ _ _ (by decide)).wr (fun _ => rfl) _ _ _ (by decide)).wr (fun _ => rfl) _ _ _ (by decide)).wr
    (fun _ => rfl) _ _ _ (by decide)).setReg (fun _ => rfl) _ _ (by decide)).setReg (fun _ => rfl) _ _ (by decide)

theorem State.reg_snapWords (s : State) : s.snapWords.reg .MTR_SNAP_STATUS 0 = wd s.meter.status ∧
    s.snapWords.reg .MTR_SNAP_STAMP 0 = wd (s.timeBase.toNat / 1000) := by
  unfold State.snapWords
  refine ⟨?_, (State.reg_setReg _ _ _ _ _ _).trans (if_pos ⟨rfl, rfl⟩)⟩
  rw [State.reg_setReg_ne _ _ _ _ _ _ (by decide), State.reg_setReg, if_pos ⟨rfl, rfl⟩]

theorem State.find_setRead_ne (s : State) {k j : Nat} (v : Rat) (h : j ≠ k) :
    Assoc.find (s.setRead k v).cio.reads j = Assoc.find s.cio.reads j := by
  simp [State.setRead, Assoc.find_put, h]

/-- The four sources after a snapshot. -/
theorem State.find_snapFed (s : State) (m : Meter) :
    Assoc.find (s.snapFed m).cio.reads 0x20 = some { v := m.flow, at_ := s.up } ∧
    Assoc.find (s.snapFed m).cio.reads 0x21 = some { v := m.tin, at_ := s.up } ∧
    Assoc.find (s.snapFed m).cio.reads 0x22 = some { v := m.tout, at_ := s.up } ∧
    Assoc.find (s.snapFed m).cio.reads 0x23 = some { v := m.power, at_ := s.up } := by
  unfold State.snapFed
  refine ⟨?_, ?_, ?_, State.find_setRead _ _ _⟩
  · rw [State.find_setRead_ne _ _ (by decide), State.find_setRead_ne _ _ (by decide), State.find_setRead_ne _ _ (by decide)]
    exact State.find_setRead _ _ _
  · rw [State.find_setRead_ne _ _ (by decide), State.find_setRead_ne _ _ (by decide)]
    exact State.find_setRead _ _ _
  · rw [State.find_setRead_ne _ _ (by decide)]
    exact State.find_setRead _ _ _

theorem State.reads_histPut (s : State) (k n : Nat) (v : Rat) : (s.histPut k n v).cio.reads = s.cio.reads := rfl

theorem State.reads_snapReached (s : State) (m : Meter) : (s.snapReached m).cio.reads = s.cio.reads := by
  rw [State.snapReached, State.cio_wr, State.reads_histPut, State.reads_histPut, State.reads_histPut]

theorem State.snapFed_frame (rs : List Reg) (s : State) (m : Meter) : Frame State.snapless rs s (s.snapFed m) :=
  ((((Frame.refl _ rs s).snapRead _ _).snapRead _ _).snapRead _ _).snapRead _ _

theorem State.snapReached_frame (s : State) (m : Meter) : Frame State.snapless [.MTR_STAT] s (s.snapReached m) :=
  ((((Frame.refl _ _ s).snapHist _ _ _).snapHist _ _ _).snapHist _ _ _).wr (fun _ => rfl) _ _ _ (by decide)

/-- The registers of a snapshot's values. -/
abbrev snapRegs : List Reg := [.MTR_SNAP_FLOW, .MTR_SNAP_TEMP, .MTR_SNAP_PWR, .MTR_SNAP_STATUS, .MTR_SNAP_STAMP, .MTR_STAT]

theorem State.snapStored_frame (s : State) : Frame State.snapless snapRegs s.snapCounted s.snapStored :=
  ((s.snapCounted.snapWords_frame.mono (by decide)).trans (State.snapFed_frame _ _ _)).trans ((State.snapReached_frame _ _).mono (by decide))

/-- What a snapshot's values leave: its words, the sources, and REACH. -/
theorem State.snapStored_effect (s : State) :
    s.snapStored.reg .MTR_SNAP_STATUS 0 = wd s.snapCounted.meter.status ∧
    s.snapStored.reg .MTR_SNAP_STAMP 0 = wd (s.timeBase.toNat / 1000) ∧
    s.snapStored.cio.reads = (s.snapCounted.snapWords.snapFed s.snapCounted.meter).cio.reads ∧ s.snapStored.flag F.MTR_STAT_REACH = true := by
  obtain ⟨hstatus, hstamp⟩ := s.snapCounted.reg_snapWords
  have hfed := State.snapFed_frame [] s.snapCounted.snapWords s.snapCounted.meter
  have hreach := State.snapReached_frame (s.snapCounted.snapWords.snapFed s.snapCounted.meter) s.snapCounted.meter
  refine ⟨?_, ?_, State.reads_snapReached _ _, State.flag_wr_one _ _ _ (by decide)⟩
  · exact (hreach.1 _ _ (by decide)).trans ((hfed.1 _ _ (by decide)).trans hstatus)
  · exact (hreach.1 _ _ (by decide)).trans ((hfed.1 _ _ (by decide)).trans hstamp)

/-- What tells of the snapshot: the flags, and what it leaves. -/
def State.snapTold (s : State) (m : Meter) : State :=
  (((s.snapBack.snapErr (m.flags &&& 15 ≠ 0)).snapSeal (m.flags &&& mfSeal ≠ 0)).snapMedium m.medium).flowCheck

theorem State.snapTold_effect (s : State) (m : Meter) :
    (s.snapTold m).flag F.MTR_STAT_REACH = s.flag F.MTR_STAT_REACH ∧
    (s.snapTold m).flag F.MTR_STAT_SEAL_OPENED = decide (m.flags &&& mfSeal ≠ 0) ∧ (s.snapTold m).flag F.MTR_STAT_MEDIUM = m.medium ∧
    OnlyLogs [.MTR_STAT, .MTR_CAUSE, .CFG_STAT] { s with mtrIf := { s.mtrIf with unreach := false } } (s.snapTold m) := by
  have hflow : OnlyRegs [.CFG_STAT] (((s.snapBack.snapErr (m.flags &&& 15 ≠ 0)).snapSeal (m.flags &&& mfSeal ≠ 0)).snapMedium m.medium)
      (s.snapTold m) := by
    unfold State.snapTold State.flowCheck
    split
    · exact OnlyRegs.refl _ _
    · exact (OnlyRegs.refl _ _).wr _ _ _ (by decide)
  obtain ⟨hmedium, hsealKept, hreach⟩ := ((s.snapBack.snapErr (m.flags &&& 15 ≠ 0)).snapSeal (m.flags &&& mfSeal ≠ 0)).flag_snapMedium m.medium
  obtain ⟨hseal, hreach'⟩ := (s.snapBack.snapErr (m.flags &&& 15 ≠ 0)).flag_snapSeal (m.flags &&& mfSeal ≠ 0)
  have herr := s.snapBack.flag_snapErr (m.flags &&& 15 ≠ 0) F.MTR_STAT_REACH rfl (by decide)
  have hback := s.snapBack_logs
  have hstat : ∀ g : Fld, g.reg = .MTR_STAT → (s.snapTold m).flag g =
      (((s.snapBack.snapErr (m.flags &&& 15 ≠ 0)).snapSeal (m.flags &&& mfSeal ≠ 0)).snapMedium m.medium).flag g :=
    fun g hg => State.flag_congr (hflow.1 _ _ (by rw [hg]; decide))
  refine ⟨?_, ?_, ?_, ?_⟩
  · rw [hstat _ rfl, hreach, hreach', herr]
    exact State.flag_congr (hback.1 _ _ (by decide))
  · rw [hstat _ rfl, hsealKept, hseal]
  · rw [hstat _ rfl, hmedium]
  · have htold := ((hback.mono (rs' := [.MTR_STAT, .MTR_CAUSE, .CFG_STAT]) (by decide)).trans ((s.snapBack.snapErr_told (m.flags &&& 15 ≠ 0)).mono
      (by decide))).trans ((((s.snapBack.snapErr (m.flags &&& 15 ≠ 0)).snapSeal_told (m.flags &&& mfSeal ≠ 0)).mono (by decide)).trans
      ((((s.snapBack.snapErr (m.flags &&& 15 ≠ 0)).snapSeal (m.flags &&& mfSeal ≠ 0)).snapMedium_told m.medium).mono (by decide)))
    exact htold.trans ((Frame.of_onlyRegs (k := State.logless) (fun _ => rfl) hflow).mono (by decide))

/-! ### The statement -/

/-- Settles O52: a snapshot's words are stored before anything tells of them, and a request's registers carry it from start to end. -/
theorem meterSnapshotsAndRequests : Obligations.MeterSnapshotsAndRequests := by
  unfold Obligations.MeterSnapshotsAndRequests
  refine ⟨?stopped, ?snapshot, ?unreach, ?notReached, ?busy, ?acc, ?ident, ?log, ?param, ?noMeter, ?noAnswer, ?answer, ?change, ?bad,
    ?timeout, ?noTimeout, ?off⟩
  case stopped => exact fun s h => if_pos (by simp [h])
  case snapshot =>
    intro s hrun hon
    obtain ⟨hstatus, hstamp, hreads, hreach⟩ := s.snapStored_effect
    obtain ⟨hflow, htin, htout, hpower⟩ := s.snapCounted.snapWords.find_snapFed s.snapCounted.meter
    have hup : s.snapCounted.snapWords.up = s.up := (congrArg State.up s.snapCounted.snapWords_frame.2 :)
    rw [hup] at hflow htin htout hpower
    have hframe := s.snapStored_frame
    obtain ⟨hreach', hseal, hmedium, htold⟩ := s.snapStored.snapTold_effect s.meter
    have hexec : execSnapshot s = .next (s.snapStored.snapTold s.meter) := execSnapshot_eq hrun hon
    generalize s.snapStored = u at *
    generalize u.snapTold s.meter = t at *
    have hcio : t.cio = u.cio := (congrArg State.cio htold.2 :)
    have hseq : t.meter.seq = (s.meter.seq + 1) % 65536 := by
      have h1 : t.meter = u.meter := (congrArg State.meter htold.2 :)
      have h2 : u.meter = s.snapCounted.meter := (congrArg State.meter hframe.2 :)
      rw [h1, h2]; rfl
    refine ⟨t, hexec, hreach'.trans hreach, hseq, ?_, (htold.1 _ _ (by decide)).trans hstamp, ?_, ?_, ?_, ?_, by rw [hseal]; exact decide_eq_true_iff,
      hmedium, fun r i hr => ?_, ?_⟩
    · refine (htold.1 _ _ (by decide)).trans (hstatus.trans ?_)
      show BitVec.ofNat 32 (s.meter.flags % 512 + (s.meter.seq + 1) % 65536 % 65536 * 65536) = _
      rw [Nat.mod_mod]
    · rw [hcio, hreads, hflow]; rfl
    · rw [hcio, hreads, htin]; rfl
    · rw [hcio, hreads, htout]; rfl
    · rw [hcio, hreads, hpower]; rfl
    · refine (htold.1 r i fun e => hr ?_).trans (hframe.1 r i fun e => hr ?_)
      · exact (by decide : [Reg.MTR_STAT, .MTR_CAUSE, .CFG_STAT] ++ recRegs ⊆ [Reg.MTR_SNAP_FLOW, .MTR_SNAP_TEMP, .MTR_SNAP_PWR,
          .MTR_SNAP_STATUS, .MTR_SNAP_STAMP, .MTR_STAT, .MTR_CAUSE, .CFG_STAT] ++ recRegs) e
      · exact (by decide : snapRegs ⊆ [Reg.MTR_SNAP_FLOW, .MTR_SNAP_TEMP, .MTR_SNAP_PWR,
          .MTR_SNAP_STATUS, .MTR_SNAP_STAMP, .MTR_STAT, .MTR_CAUSE, .CFG_STAT] ++ recRegs) e
    · have h1 := congrArg (fun v : State => { v with cio := t.cio, free := t.free }) htold.2
      have h2 := congrArg (fun v : State => { v.logless with cio := t.cio, free := t.free, mtrIf := { v.mtrIf with unreach := false } }) hframe.2
      refine h1.trans (h2.trans ?_)
      rw [hseq]; rfl
  case unreach =>
    intro s h
    have hframe : OnlyLogs [.MTR_STAT, .MTR_CAUSE] { s with mtrIf := { s.mtrIf with unreach := true } }
        (((({ s with mtrIf := { s.mtrIf with unreach := true } } : State).wr F.MTR_STAT_REACH 0 0).raise F.MTR_CAUSE_UNREACH 0 2)) :=
      ((OnlyLogs.refl _ _).wr _ _ _ (by decide)).raise _ _ _ _ _ (by decide)
    refine ⟨_, if_pos h, ?_, State.flag_raise_same _ _ _ _ _ _ (by decide), hframe⟩
    rw [State.flag_raise_ne _ _ _ _ _ _ _ _ (by decide), State.flag_wr_zero _ _ _ (by decide)]
  case notReached => exact fun s h => if_neg (by simp [h])
  case busy =>
    intro n s h
    have hask : ∀ code arg ans, Host.Outcome.next (s.meterAsk code arg ans) = (Host.Outcome.next (s.raise F.MTR_CAUSE_CFGERR) : Out) :=
      fun code arg ans => congrArg Host.Outcome.next (State.meterAsk_busy h)
    exact ⟨_, hask _ _ _, hask _ _ _, hask _ _ _, hask _ _ _, State.flag_raise_same _ _ _ _ _ _ (by decide),
      (OnlyLogs.refl _ s).raise _ _ _ _ _ (by decide)⟩
  case acc =>
    intro s hbusy hrun
    obtain ⟨hset, hcode, -, honly⟩ := s.asked_answered_effect (code := 1) (arg := 0) (by decide) (by decide) (some (accWords s.meter))
    exact ⟨_, congrArg Host.Outcome.next (State.meterAsk_running (l := accWords s.meter) hbusy hrun fun _ => rfl), hset, hcode, honly⟩
  case ident =>
    intro s hbusy hrun
    obtain ⟨hset, hcode, -, honly⟩ := s.asked_answered_effect (code := 2) (arg := 0) (by decide) (by decide) (some (idWords s.meter))
    exact ⟨_, congrArg Host.Outcome.next (State.meterAsk_running (l := idWords s.meter) hbusy hrun fun _ => rfl), hset, hcode, honly⟩
  case log =>
    intro n x s hbusy hrun hx
    obtain ⟨hset, hcode, harg, honly⟩ := s.asked_answered_effect (code := 3) (by decide) n.isLt
      (some [wd x.clock, wd (x.code % 256 + x.data % 2 ^ 24 * 256)])
    exact ⟨_, congrArg Host.Outcome.next (State.meterAsk_running hbusy hrun fun _ => by rw [hx]), hset, hcode, harg, honly⟩
  case param =>
    intro s hbusy hrun
    obtain ⟨hset, hcode, -, honly⟩ := s.asked_answered_effect (code := 4) (arg := 0) (by decide) (by decide)
      (some [wd (if s.meter.medium then 1 else 0), wd (s.meter.addr % 256 + s.meter.baud % 4 * 256), wd s.meter.verified])
    exact ⟨_, congrArg Host.Outcome.next (State.meterAsk_running hbusy hrun fun _ => rfl), hset, hcode, honly⟩
  case noMeter =>
    intro n s hbusy hrun
    obtain ⟨hset, -, -, honly⟩ := s.asked_answered_effect (code := 1) (arg := 0) (by decide) (by decide) none
    obtain ⟨hset', -, -, honly'⟩ := s.asked_answered_effect (code := 3) (by decide) n.isLt none
    exact ⟨⟨_, congrArg Host.Outcome.next (State.meterAsk_stopped hbusy hrun), hset, honly⟩, _, congrArg Host.Outcome.next (State.meterAsk_stopped hbusy hrun), hset', honly'⟩
  case noAnswer =>
    intro b s h
    simp only [exec, execMeterAnswer, h]
  case answer =>
    intro l s h hcode
    have hexec : execMeterAnswer true s = .next ((s.responded l 0).meterEnd 0) := by
      simp only [execMeterAnswer, h, if_true, if_neg hcode]; rfl
    obtain ⟨hresp, -, hwords⟩ := State.responded_effect l 0 s
    obtain ⟨hres, hbusy, hgo, honly⟩ := (s.responded l 0).meterEnd_effect (r := 0) (by decide)
    generalize s.responded l 0 = u at *
    refine ⟨_, hexec, fun i w hw => ?_, hbusy, hgo, hres, fun r i hr => ?_, ?_⟩
    · exact (honly.1 _ _ (by decide)).trans ((congrArg _ (Nat.zero_add i)).symm.trans (hwords i w hw))
    · exact (honly.1 r i fun e => hr (List.mem_cons_of_mem _ e)).trans (hresp.1 r i fun e => hr (List.mem_of_mem_head? (by
        rw [List.mem_singleton.1 e]; rfl)))
    · exact honly.2.trans (congrArg (fun v : State => { v with mtrIf := { v.mtrIf with answer := none } }) hresp.2)
  case change =>
    intro l o s h hcode hthis hprev hne
    have hexec : execMeterAnswer true s = .next (((s.responded l 0).meterEnd 0).changeSeen (getAt 0 l 1).toNat) := by
      simp only [execMeterAnswer, h, if_true, if_pos hcode]; rfl
    obtain ⟨hresp, -, -⟩ := State.responded_effect l 0 s
    obtain ⟨hres, -, -, honly⟩ := (s.responded l 0).meterEnd_effect (r := 0) (by decide)
    have hmtr : ((s.responded l 0).meterEnd 0).mtrIf = { s.mtrIf with answer := none } :=
      (congrArg State.mtrIf honly.2 :).trans (congrArg (fun v : State => { v.mtrIf with answer := none }) hresp.2)
    have hother : ((s.responded l 0).meterEnd 0).regless = { s.regless with mtrIf := { s.mtrIf with answer := none } } :=
      honly.2.trans (congrArg (fun v : State => { v with mtrIf := { v.mtrIf with answer := none } }) hresp.2)
    have hsame : SameRegs [.MTR_RESP, .MTR_REQ] s ((s.responded l 0).meterEnd 0) := fun r i hr =>
      (honly.1 r i fun e => hr (List.mem_cons_of_mem _ e)).trans (hresp.1 r i fun e => hr (by rw [List.mem_singleton.1 e]; decide))
    generalize (s.responded l 0).meterEnd 0 = u at *
    obtain ⟨hseen, hlogs⟩ := State.changeSeen_differs (s := u) (by rw [hmtr]; exact hthis) (by rw [hmtr]; exact hprev) hne
    refine ⟨_, hexec, hseen.1, hseen.2.1, hseen.2.2.trans hres, fun r i hr => ?_, ?_⟩
    · exact (hlogs.1 r i fun e => hr (by revert e; exact fun e => List.mem_cons_of_mem _ (List.mem_cons_of_mem _ e))).trans
        (hsame r i fun e => hr (List.mem_append_left recRegs ((by decide : [Reg.MTR_RESP, .MTR_REQ] ⊆ [.MTR_RESP, .MTR_REQ, .MTR_CAUSE]) e)))
    · rw [hseen.2.1]
      refine hlogs.2.trans ?_
      exact congrArg (fun v : State => { v.logless with mtrIf := { v.mtrIf with thisChange := some (getAt 0 l 1).toNat } }) hother
  case bad =>
    intro l s h
    have hexec : execMeterAnswer false s = .next (s.meterLink 2) := by
      simp only [execMeterAnswer, h, Bool.false_eq_true, if_false]
    exact ⟨_, hexec, s.meterLink_effect (by decide)⟩
  case timeout =>
    intro s h
    obtain ⟨hres, hbusy, -, hlink, hframe⟩ := s.meterLink_effect (r := if s.flag F.MTR_STAT_REACH then 1 else 3) (by split <;> decide)
    exact ⟨_, if_pos h, hres, hbusy, hlink, hframe⟩
  case noTimeout => exact fun s h => if_neg (by simp [h])
  case off => exact fun s hrun hoff => (if_neg (by simp [hrun])).trans (if_pos hoff)

end Sys2Proof.Machine
end

section
/-! PROOFS.  A warning of power failure stops the fabric (R201, R449), against the statement on the recorder. -/

namespace Sys2Proof.Machine

/-- After reset link 0 is up. -/
def oneLinkUp : State := State.reset.wr F.FAB_LINK_STAT_STATE 0 lkUp

/-- The warning takes the link down. -/
theorem linkDown_of_pfWarn {t : State} (h : execPfWarnN true oneLinkUp = .next t) : t.rd F.FAB_LINK_STAT_STATE 0 = lkDown := by
  rw [← Host.Outcome.next.inj h]
  decide

/-- Refutes O40: a warning before the scan of start-up takes the links down too, whose registers are none of the recorder's. -/
theorem not_recorderFlushesFreezeAndCursors : ¬ Obligations.RecorderFlushesFreezeAndCursors := by
  unfold Obligations.RecorderFlushesFreezeAndCursors
  rintro ⟨-, -, -, -, -, -, hwarn, -⟩
  obtain ⟨t, ht, -, hframe⟩ := hwarn true oneLinkUp rfl rfl rfl
  have hkept : t.rd F.FAB_LINK_STAT_STATE 0 = oneLinkUp.rd F.FAB_LINK_STAT_STATE 0 := State.rd_congr (hframe.1 _ _ (by decide))
  rw [linkDown_of_pfWarn ht] at hkept
  exact absurd hkept (by decide)

end Sys2Proof.Machine
end

section
/-! PROOFS.  A sensor out of range wakes the module from Freewheel (R333, R418), against the statement on the sequencer's samples. -/

namespace Sys2Proof.Machine

/-- In Freewheel, with an outlet threshold of 50 °C. -/
def asleep : State := (State.reset.wr F.PWR_PS_STAT_STATE 0 psFreewheel).wr F.PWR_FW_THR_TOUT 0 400

/-- Outlet temperatures of 20 °C; inlet A and the outlet pressure are out of range. -/
def coldSample : Vector Rat 7 := #v[200, 20, 20, 20, 0, 2000, 0]

/-- No analogue input is in use. -/
def noInputs : Vector (Rat × Rat) 8 := Vector.replicate 8 (0, 0)

/-- The module wakes, although the outlet pair stands below its threshold and the pressure has no reading. -/
theorem awake_of_coldSample {t : State} (h : execFwSequencerSample coldSample noInputs asleep = .next t) :
    t.pair 1 = some 20 ∧ t.source 0x1B = none ∧ t.psState = psWaking := by
  rw [← Host.Outcome.next.inj h]
  decide +kernel

/-- Refutes O8: an inlet sensor out of range is a wake event of its own. -/
theorem not_entryHandshakeAndWake : ¬ Obligations.EntryHandshakeAndWake := by
  unfold Obligations.EntryHandshakeAndWake
  rintro ⟨-, -, -, -, -, -, -, -, -, -, hsample, -⟩
  obtain ⟨t, ht, -, -, -, hbelow⟩ := hsample coldSample noInputs asleep (by decide)
  obtain ⟨hpair, hpress, hstate⟩ := awake_of_coldSample ht
  have hthreshold : (20 : Rat) < (asleep.rd F.PWR_FW_THR_TOUT : Rat) / 8 := by
    rw [show asleep.rd F.PWR_FW_THR_TOUT = 400 by decide]; norm_num
  exact absurd (hstate.symm.trans (hbelow 20 hpair hthreshold hpress)) (by decide)

end Sys2Proof.Machine
end

section
/-! PROOFS.  Core power up: what the gate's opening, a request for compute and the flow permit read and change (R26, R282, R436). -/

namespace Sys2Proof.Machine

/-! ### The gate opens -/

/-- What the gate's opening may change beside registers is forgotten: the links that train, the note that they did, core power. -/
def State.gateless (s : State) : State :=
  { s with regs := [], fab := {}, boot := { s.boot with trained := false }, pwr := {} }

/-- The registers that the gate's opening writes. -/
def gateRegs : List Reg :=
  [.MEM_STATE, .FAB_LANE_STAT, .FAB_LINK_STAT, .FAB_LINK_PEER, .CFG_STAT, .PWR_GEAR_STAT, .PWR_TRIP, .PWR_PS_STAT]

theorem Frame.gateLink {rs : List Reg} {s t : State} (h : Frame State.gateless rs s t) (j : Nat) (f : Link → Link) :
    Frame State.gateless rs s (t.modLink j f) := h.other rfl rfl

theorem State.train_frame (s : State) (j : Nat) :
    Frame State.gateless [.FAB_LANE_STAT, .FAB_LINK_STAT, .FAB_LINK_PEER] s (s.train j) := by
  have hlanes : ∀ (u : State) (p : Nat) (l : List Nat) (st : Nat),
      Frame State.gateless [.FAB_LANE_STAT, .FAB_LINK_STAT, .FAB_LINK_PEER] u (u.setLanes p l st) := fun u p l st =>
    (Frame.of_onlyRegs (fun _ => rfl) (u.setLanes_onlyRegs p l st)).mono (by decide)
  unfold State.train
  extract_lets p en lanes use dis s1
  have h1 : Frame State.gateless [.FAB_LANE_STAT, .FAB_LINK_STAT, .FAB_LINK_PEER] s s1 :=
    (((hlanes s p use 1).trans (hlanes _ p dis 6)).wr (fun _ => rfl) _ _ _ (by decide)).wr (fun _ => rfl) _ _ _ (by decide)
  exact h1.gateLink _ _

theorem State.trainAll_frame (s : State) :
    Frame State.gateless [.MEM_STATE, .FAB_LANE_STAT, .FAB_LINK_STAT, .FAB_LINK_PEER] s s.trainAll := by
  unfold State.trainAll
  refine .ite (Frame.refl _ _ s) ?_
  extract_lets boot s1
  have h1 : Frame State.gateless [.MEM_STATE, .FAB_LANE_STAT, .FAB_LINK_STAT, .FAB_LINK_PEER] s s1 :=
    Frame.foldl _ ((Frame.refl _ _ s).other rfl rfl) fun v _ =>
      .ite ((Frame.refl _ _ v).wr (fun _ => rfl) _ _ _ (by decide)) (Frame.refl _ _ v)
  exact h1.foldl _ fun v p => (Frame.refl _ _ v).foldl _ fun w k => (w.train_frame _).mono (by decide)

/-- Core power with its registers, after the training has begun. -/
theorem State.coreOn_after_training (s : State) :
    Frame State.gateless [.CFG_STAT, .PWR_GEAR_STAT, .PWR_TRIP, .PWR_PS_STAT] s.trainAll s.coreOn := by
  unfold State.coreOn
  extract_lets u pwr s1 s2
  have hfld : ∀ {v : State}, Frame State.gateless [.CFG_STAT, .PWR_GEAR_STAT, .PWR_TRIP, .PWR_PS_STAT] u v → ∀ (f : Fld) (n : Nat),
      f.reg ∈ [.CFG_STAT, .PWR_GEAR_STAT, .PWR_TRIP, .PWR_PS_STAT] →
      Frame State.gateless [.CFG_STAT, .PWR_GEAR_STAT, .PWR_TRIP, .PWR_PS_STAT] u (v.wr f 0 n) :=
    fun h f n hf => h.wr (fun _ => rfl) f 0 n hf
  have h1 : Frame State.gateless [.CFG_STAT, .PWR_GEAR_STAT, .PWR_TRIP, .PWR_PS_STAT] u s1 := (Frame.refl _ _ u).other rfl rfl
  have h2 : Frame State.gateless [.CFG_STAT, .PWR_GEAR_STAT, .PWR_TRIP, .PWR_PS_STAT] u s2 :=
    hfld (hfld (hfld (hfld (hfld h1 _ _ (by decide)) _ _ (by decide)) _ _ (by decide)) _ _ (by decide)) _ _ (by decide)
  exact hfld (hfld h2 _ _ (by decide)) _ _ (by decide)

theorem State.coreOn_frame (s : State) : Frame State.gateless gateRegs s s.coreOn :=
  (s.trainAll_frame.mono (by decide)).trans (s.coreOn_after_training.mono (by decide))

theorem State.pwr_coreOn (s : State) : s.coreOn.pwr.vcore = true ∧ s.coreOn.pwr.computeReq = false := ⟨rfl, rfl⟩

/-- Of CFG_STAT the opening writes GATE alone. -/
theorem State.rd_coreOn_of_cfgStat (s : State) {f : Fld} (hf : f.reg = .CFG_STAT)
    (hsep : f.hi < F.CFG_STAT_GATE.lo ∨ F.CFG_STAT_GATE.hi < f.lo) : s.coreOn.rd f = s.rd f := by
  have htrain : s.trainAll.rd f = s.rd f := s.trainAll_frame.rd f (by rw [hf]; decide) 0
  have hother : ∀ g : Reg, g ≠ .CFG_STAT → f.reg ≠ g := fun g hg => by rw [hf]; exact hg.symm
  unfold State.coreOn
  simp only
  rw [State.rd_wr_ne _ _ _ _ _ _ (.inl (hother _ (by decide))), State.rd_wr_ne _ _ _ _ _ _ (.inl (hother _ (by decide))),
    State.rd_wr_ne _ _ _ _ _ _ (.inl (hother _ (by decide))), State.rd_wr_ne _ _ _ _ _ _ (.inl (hother _ (by decide))),
    State.rd_wr_ne _ _ _ _ _ _ (.inl (hother _ (by decide))), State.rd_wr_ne _ _ _ _ _ _ (.inl (hother _ (by decide))),
    State.rd_wr_ne _ _ _ _ _ _ (.inr ⟨by decide, hsep⟩)]
  exact (State.rd_congr_regs rfl f 0).trans htrain

/-- What may differ after a request for compute, whether or not the gate opens. -/
theorem State.tryGate_frame (s : State) : Frame State.gateless gateRegs s s.tryGate := .ite s.coreOn_frame (Frame.refl _ _ s)

theorem State.requestCompute_frame (s : State) : Frame State.gateless gateRegs s s.requestCompute :=
  ((Frame.refl State.gateless gateRegs s).other rfl rfl).trans (State.tryGate_frame _)

theorem State.rd_requestCompute_of_cfgStat (s : State) {f : Fld} (hf : f.reg = .CFG_STAT)
    (hsep : f.hi < F.CFG_STAT_GATE.lo ∨ F.CFG_STAT_GATE.hi < f.lo) : s.requestCompute.rd f = s.rd f := by
  unfold State.requestCompute
  rcases State.tryGate_cases { s with pwr := { s.pwr with computeReq := true } } with h | h
  · rw [h, State.rd_coreOn_of_cfgStat _ hf hsep]; exact State.rd_congr_regs rfl f 0
  · rw [h]; exact State.rd_congr_regs rfl f 0

/-- A request for compute under the permit: past step 8 core power is on after it, and before it the request stays. -/
theorem State.pwr_requestCompute {s : State} (hpermit : s.permit = true) :
    s.requestCompute.pwr.computeReq = (s.pwr.vcore || decide (s.rd F.CFG_STAT_STEP < 9)) ∧
    (9 ≤ s.rd F.CFG_STAT_STEP → s.requestCompute.pwr.vcore = true) := by
  obtain ⟨hbut, htrip⟩ : s.permitBut = true ∧ s.flag F.PWR_TRIP_TRIPPED = false := by simpa [State.permit] using hpermit
  by_cases hv : s.pwr.vcore = true
  · rw [State.requestCompute_of_on hv]
    exact ⟨by rw [hv]; rfl, fun _ => hv⟩
  · have hoff : s.pwr.vcore = false := by simpa using hv
    by_cases hstep : 9 ≤ s.rd F.CFG_STAT_STEP
    · have hopen : s.requestCompute = State.coreOn { s with pwr := { s.pwr with computeReq := true } } :=
        State.tryGate_of_permit hbut htrip rfl hoff hstep
      rw [hopen, hoff]
      exact ⟨by rw [(State.pwr_coreOn _).2]; simpa using hstep, fun _ => (State.pwr_coreOn _).1⟩
    · have hshut : s.requestCompute = { s with pwr := { s.pwr with computeReq := true } } := by
        refine if_neg fun h => hstep ?_
        have h9 : (decide (s.rd F.CFG_STAT_STEP = 9) || decide (s.rd F.CFG_STAT_STEP = 10)) = true :=
          ((Bool.and_eq_true _ _).mp h).2
        rw [Bool.or_eq_true, decide_eq_true_eq, decide_eq_true_eq] at h9
        omega
      rw [hshut]
      exact ⟨by simpa [hoff] using hstep, fun h => absurd h hstep⟩

theorem State.mem_of_gateless {s t : State} (h : t.gateless = s.gateless) : t.mem = s.mem := (congrArg State.mem h :)

theorem State.shut_of_gateless {s t : State} (h : t.gateless = s.gateless) : t.boot.shut = s.boot.shut :=
  (congrArg (fun u : State => u.boot.shut) h :)

theorem State.valveHold_of_gateless {s t : State} (h : t.gateless = s.gateless) : t.boot.valveHold = s.boot.valveHold :=
  (congrArg (fun u : State => u.boot.valveHold) h :)

/-! ### The permit's conditions -/

/-- The permit's conditions beside FLOW and the step read no register of CFG_STAT. -/
theorem State.conditions_congr {s t : State} (h : SameRegs [.CFG_STAT] s t) (hup : t.up = s.up) (hcio : t.cio = s.cio) :
    t.dryOk = s.dryOk ∧ t.emergOk = s.emergOk ∧ t.inletOk = s.inletOk := by
  have hreg (r : Reg) (i : Nat) (hr : r ≠ .CFG_STAT) : t.reg r i = s.reg r i := h r i (by simpa using hr)
  refine ⟨?_, ?_, ?_⟩
  · simp (disch := decide) only [State.dryOk, State.allDry, State.leakOn, State.leakResp, State.leakState, State.flag, State.rd, hreg] <;> rfl
  · simp (disch := decide) only [State.emergOk, State.diActive, State.rd, hreg] <;> rfl
  · simp (disch := decide) only [State.inletOk, State.pair, State.temp, State.fresh, State.sensBad, State.rd, hreg, hup, hcio] <;> rfl

end Sys2Proof.Machine
end

section
/-! PROOFS.  The flow permit and the watchdog of the management cores (R436, R437, R447, R448). -/

namespace Sys2Proof.Machine

/-! ### The permit is lost (R437) -/

/-- A protective action that quiesces compute: its cause, duty 0 and no open job; the start-up, the stacks and the stores stay. -/
theorem State.protect_quiesceNow {s : State} (hcore : s.pwr.vcore = true) {f : Fld}
    (hf : (f.reg ≠ .IRQ_TRAY_PEND ∧ f.lo ≤ f.hi ∧ f.hi < 32) ∧ f.reg ∉ quiesceRegs) (inst : Nat) (leak : Bool) :
    (s.protect f inst leak).quiesceNow.flag f = true ∧ (s.protect f inst leak).quiesceNow.pwr = { s.pwr with quiesce := true } ∧
    (s.protect f inst leak).quiesceNow.rd F.PWR_GEAR_STAT_DUTY = 0 ∧ (∀ n < 16, (s.protect f inst leak).quiesceNow.pstate n ≠ 2) ∧
    Within (f.reg :: quiesceRegs) s (s.protect f inst leak).quiesceNow := by
  have hframe := s.protect_frame f inst leak
  have hflag := (s.protect_effect hf.1 inst leak).1
  generalize s.protect f inst leak = p at hframe hflag ⊢
  have hpwr : p.pwr = s.pwr := (congrArg State.pwr hframe.2 :)
  obtain ⟨hquiet, hduty, hwithin, hjobs⟩ := State.quiesceNow_effect (hpwr ▸ hcore : p.pwr.vcore = true)
  have hprot : Within (f.reg :: quiesceRegs) s p :=
    { mem := (congrArg State.mem hframe.2 :), store := (congrArg State.store hframe.2 :), boot := (congrArg State.boot hframe.2 :)
      cables := (congrArg (fun u : State => u.fab.cables) hframe.2 :)
      regs := (hframe.mono (List.cons_subset_cons _ (by decide))).1 }
  exact ⟨(hwithin.regs.flag hf.2 0).trans hflag, hquiet.trans (by rw [hpwr]), hduty, hjobs,
    hprot.trans (hwithin.mono (List.subset_cons_self _ _))⟩

/-- The loss is noted with FLOW clear. -/
def State.permitGone (s : State) : State := (s.wr F.CFG_STAT_FLOW 0 0).modBoot fun b => { b with lost := true }

theorem execPermitLost_next {s : State} (hcore : s.pwr.vcore = true) (hflow : s.flowing = false) (hlost : s.boot.lost = false) :
    execPermitLost s = .next (s.permitGone.protect F.CFG_CAUSE_PERMIT_LOST 0 false).quiesceNow := by
  have hcheck : s.flowCheck = s.wr F.CFG_STAT_FLOW 0 0 := if_neg (by simp [hflow])
  unfold execPermitLost
  rw [if_pos ⟨hcore, hflow, hlost⟩, hcheck]
  rfl

theorem execPermitLost_effect {s : State} (hcore : s.pwr.vcore = true) (hflow : s.flowing = false) (hlost : s.boot.lost = false) :
    ∃ t, execPermitLost s = .next t ∧ t.boot.lost = true ∧ t.flag F.CFG_CAUSE_PERMIT_LOST = true ∧ t.pwr.quiesce = true ∧
      t.rd F.PWR_GEAR_STAT_DUTY = 0 ∧ (∀ n < 16, t.pstate n ≠ 2) ∧ t.store = s.store := by
  obtain ⟨hflag, hpwr, hduty, hjobs, hwithin⟩ :=
    State.protect_quiesceNow (s := s.permitGone) hcore (f := F.CFG_CAUSE_PERMIT_LOST) (by decide) 0 false
  exact ⟨_, execPermitLost_next hcore hflow hlost, (congrArg Boot.lost hwithin.boot :), hflag, (congrArg Pwr.quiesce hpwr :),
    hduty, hjobs, hwithin.store⟩

/-! ### The permit returns -/

theorem execPermitRegain_effect {s : State} (hlost : s.boot.lost = true) (hpermit : s.permit = true) :
    ∃ t, execPermitRegain s = .next t ∧ t.boot.lost = false ∧
      t.pwr.computeReq = (s.pwr.vcore || decide (s.rd F.CFG_STAT_STEP < 9)) ∧ t.mem = s.mem := by
  have hframe := (s.modBoot fun b => { b with lost := false }).requestCompute_frame.2
  exact ⟨_, if_pos ⟨hlost, hpermit⟩, (congrArg (fun u : State => u.boot.lost) hframe :),
    (State.pwr_requestCompute (s := s.modBoot fun b => { b with lost := false }) hpermit).1, (congrArg State.mem hframe :)⟩

/-! ### FLOW_PERMIT_HELD and PERMIT_WAIT -/

theorem execFlowPermitHeld_flowing {s : State} (hon : s.permitOn = true) (hflow : s.flowing = true)
    (hstep : s.rd F.CFG_STAT_STEP = 10) (hreq : s.pwr.computeReq = false) :
    ∃ t, execFlowPermitHeld s = .next t ∧ t.flag F.CFG_STAT_FLOW = true ∧ OnlyRegs [.CFG_STAT] s t := by
  have hten : (s.wr F.CFG_STAT_FLOW 0 1).rd F.CFG_STAT_STEP = 10 := (State.rd_wr_ne _ _ _ _ _ _ (.inr (by decide))).trans hstep
  have hgate : (s.wr F.CFG_STAT_FLOW 0 1).tryGate = s.wr F.CFG_STAT_FLOW 0 1 := by
    have hreq1 : (s.wr F.CFG_STAT_FLOW 0 1).pwr.computeReq = false := hreq
    exact if_neg (by rw [hreq1]; simp)
  refine ⟨_, ?_, State.flag_wr_one s _ _ (by decide), (OnlyRegs.refl _ s).wr _ _ _ (by decide)⟩
  unfold execFlowPermitHeld
  rw [if_pos (by simp [hon, hflow])]
  simp only [hten, hgate]
  rfl

theorem execFlowPermitHeld_still {s : State} (hflow : s.flowing = false) :
    ∃ t, execFlowPermitHeld s = .next t ∧ t.flag F.CFG_STAT_FLOW = false ∧ OnlyRegs [.CFG_STAT] s t := by
  have hcheck : s.flowCheck = s.wr F.CFG_STAT_FLOW 0 0 := if_neg (by simp [hflow])
  have hexec : execFlowPermitHeld s = .next s.flowCheck := if_neg (by simp [hflow])
  exact ⟨_, hexec.trans (by rw [hcheck]), State.flag_wr_zero s _ _ (by decide), (OnlyRegs.refl _ s).wr _ _ _ (by decide)⟩

theorem execPermitWait_effect {s : State} (hstep : s.rd F.CFG_STAT_STEP = 7 ∨ s.rd F.CFG_STAT_STEP = 8) (hwait : s.boot.waited = false) :
    ∃ t, execPermitWait s = .next t ∧ t.flag F.CFG_CAUSE_PERMIT_WAIT = true ∧
      OnlyLogs [.CFG_CAUSE] { s with boot := { s.boot with waited := true } } t :=
  ⟨_, if_pos ⟨hstep, hwait⟩, State.flag_raise_same _ _ _ _ _ _ (by decide), (OnlyLogs.refl _ _).raise _ _ _ _ _ (by decide)⟩

/-! ### The watchdog -/

/-- A field below bit 31 of a word with KICK set. -/
theorem fieldOf_withKick (w : Word) {f : Fld} (hlo : f.lo ≤ f.hi) (hf : f.hi < 31) : fieldOf (w ||| 0x80000000) f = fieldOf w f := by
  refine Nat.eq_of_testBit_eq fun i => ?_
  have hbit : i < f.hi + 1 - f.lo → (0x80000000 : Word).getLsbD (f.lo + i) = false := fun hi => by
    have hlt : f.lo + i < 31 := by omega
    generalize f.lo + i = k at hlt
    interval_cases k <;> rfl
  simp only [fieldOf, bitsOf_testBit, BitVec.testBit_toNat, BitVec.getLsbD_or]
  by_cases hi : i < f.hi + 1 - f.lo
  · rw [hbit hi, Bool.or_false]
  · simp [hi]

/-- A kick of an enabled watchdog writes TIMEOUT and EN as they read, and restarts the period. -/
theorem execWdogKick_next {s : State} (hen : s.flag F.CFG_WDOG_EN = true) :
    execWdogKick s = .next { (s.wr F.CFG_WDOG_TIMEOUT 0 (s.rd F.CFG_WDOG_TIMEOUT)).wr F.CFG_WDOG_EN 0 1 with
      mgmt := { s.mgmt with kickAt := some s.up } } := by
  have htime : fieldOf (s.reg .CFG_WDOG 0 ||| 0x80000000) F.CFG_WDOG_TIMEOUT = s.rd F.CFG_WDOG_TIMEOUT :=
    fieldOf_withKick _ (by decide) (by decide)
  have hlt : s.rd F.CFG_WDOG_EN < 2 := fieldOf_lt _ F.CFG_WDOG_EN
  have hne : s.rd F.CFG_WDOG_EN ≠ 0 := State.flag_eq_true.1 hen
  have hone : fieldOf (s.reg .CFG_WDOG 0 ||| 0x80000000) F.CFG_WDOG_EN = 1 :=
    (fieldOf_withKick _ (by decide) (by decide)).trans (by omega : s.rd F.CFG_WDOG_EN = 1)
  have hkick : (s.reg .CFG_WDOG 0 ||| 0x80000000).getLsbD 31 = true := by
    rw [BitVec.getLsbD_or]; exact Bool.or_eq_true_iff.2 (.inr (by decide))
  unfold execWdogKick State.writeWdog
  simp only [htime, hone, hkick, decide_true, Bool.true_or, if_true]
  rfl

theorem execWdogKick_effect {s : State} (hen : s.flag F.CFG_WDOG_EN = true) :
    ∃ t, execWdogKick s = .next t ∧ t.mgmt.kickAt = some s.up ∧ t.flag F.CFG_WDOG_EN = true ∧
      OnlyRegs [.CFG_WDOG] { s with mgmt := { s.mgmt with kickAt := some s.up } } t ∧
      t.rd F.CFG_WDOG_TIMEOUT = s.rd F.CFG_WDOG_TIMEOUT := by
  have hlt : s.rd F.CFG_WDOG_TIMEOUT < 2 ^ 16 := fieldOf_lt _ F.CFG_WDOG_TIMEOUT
  refine ⟨_, execWdogKick_next hen, rfl, ?_, ?_, ?_⟩
  · exact (State.flag_congr_regs rfl _ _).trans
      (State.flag_wr_one (s.wr F.CFG_WDOG_TIMEOUT 0 (s.rd F.CFG_WDOG_TIMEOUT)) F.CFG_WDOG_EN 0 (by decide))
  · exact ((OnlyRegs.refl [.CFG_WDOG] { s with mgmt := { s.mgmt with kickAt := some s.up } }).wr F.CFG_WDOG_TIMEOUT 0
      (s.rd F.CFG_WDOG_TIMEOUT) (by decide)).wr F.CFG_WDOG_EN 0 1 (by decide)
  · refine (State.rd_congr_regs rfl _ _).trans ((State.rd_wr_ne (s.wr F.CFG_WDOG_TIMEOUT 0 (s.rd F.CFG_WDOG_TIMEOUT)) _ _ _ _ _
      (.inr (by decide))).trans ?_)
    rw [State.rd_wr_same _ _ _ _ (by decide)]
    exact Nat.mod_eq_of_lt hlt

/-- MGMT_WAIT of the rings, which alone changes. -/
theorem State.ringsWait_onlyRegs (s : State) (v : Nat) : OnlyRegs [.ETH_RING_STAT] s (s.ringsWait v) :=
  (OnlyRegs.refl _ s).foldl _ fun _ _ hv => .ite (hv.wr _ _ _ (by decide)) hv

theorem State.flag_ringsWait_zero (s : State) {i : Nat} (hi : i < 64) : (s.ringsWait 0).flag F.ETH_RING_STAT_MGMT_WAIT i = false := by
  refine foldl_of_mem (fun t => t.flag F.ETH_RING_STAT_MGMT_WAIT i = false) _ (fun t j ht => ?_) (fun t => ?_) _ s (List.mem_range.2 hi)
  · simp only [decide_true, Bool.true_or, if_true]
    by_cases hij : i = j
    · rw [hij]; exact State.flag_wr_zero _ _ _ (by decide)
    · rw [State.flag_wr_idx _ _ _ _ _ _ hij]; exact ht
  · simp only [decide_true, Bool.true_or, if_true]
    exact State.flag_wr_zero _ _ _ (by decide)

/-- The cores are held in reset, their sessions gone. -/
def State.coresDown (s : State) : State :=
  { s with mgmt := { s.mgmt with down := true, restarts := s.up :: s.restartsNow }, sessions := [] }

/-- The state an expiry leaves before its cause. -/
def State.expired (s : State) : State := (s.coresDown.ringsWait 1).wr F.CFG_STAT_RESTARTS 0 (min 15 (s.restartsNow.length + 1))

theorem State.expired_onlyRegs (s : State) : OnlyRegs [.ETH_RING_STAT, .CFG_STAT] s.coresDown s.expired :=
  ((s.coresDown.ringsWait_onlyRegs 1).mono (by decide)).wr _ _ _ (by decide)

theorem execWdogExpiry_of_up {s : State} (hen : s.flag F.CFG_WDOG_EN = true) (hup : s.hmpUp = true) :
    execWdogExpiry s = if 3 ≤ s.restartsNow.length then
      .next ((s.expired.wr F.CFG_STAT_MGMT_DEAD 0 1).raise F.CFG_CAUSE_MGMT_DEAD 0 3)
      else .next (s.expired.raise F.CFG_CAUSE_MGMT_RESTART 0 2) := by
  have hdown : s.mgmt.down = false := by
    simp only [State.hmpUp, Bool.and_eq_true] at hup
    simpa using hup.1.1
  exact if_neg (by simp [hen, hup, hdown])

/-- What an expiry with its cause leaves: the cores down without sessions, stacks and stores as they were. -/
theorem State.expired_logs {s t : State} {rs : List Reg} (h : OnlyLogs rs s.expired t) :
    t.mgmt.down = true ∧ t.sessions = [] ∧ t.mem = s.mem ∧ t.store = s.store := by
  have hall : t.logless = s.coresDown.logless := h.2.trans (congrArg State.logless s.expired_onlyRegs.2 :)
  exact ⟨(congrArg (fun u : State => u.mgmt.down) hall :), (congrArg State.sessions hall :), (congrArg State.mem hall :),
    (congrArg State.store hall :)⟩

theorem execWdogExpiry_restart {s : State} (hen : s.flag F.CFG_WDOG_EN = true) (hup : s.hmpUp = true) (hfew : s.restartsNow.length < 3) :
    ∃ t, execWdogExpiry s = .next t ∧ t.mgmt.down = true ∧ t.sessions = [] ∧ t.flag F.CFG_CAUSE_MGMT_RESTART = true ∧
      t.mem = s.mem ∧ t.store = s.store := by
  have hlogs : OnlyLogs [.CFG_CAUSE] s.expired (s.expired.raise F.CFG_CAUSE_MGMT_RESTART 0 2) :=
    (OnlyLogs.refl _ _).raise _ _ _ _ _ (by decide)
  obtain ⟨hdown, hnone, hmem, hstore⟩ := State.expired_logs hlogs
  exact ⟨_, (execWdogExpiry_of_up hen hup).trans (if_neg (by omega)), hdown, hnone, State.flag_raise_same _ _ _ _ _ _ (by decide),
    hmem, hstore⟩

theorem execWdogExpiry_dead {s : State} (hen : s.flag F.CFG_WDOG_EN = true) (hup : s.hmpUp = true) (hmany : 3 ≤ s.restartsNow.length) :
    ∃ t, execWdogExpiry s = .next t ∧ t.mgmt.down = true ∧ t.flag F.CFG_STAT_MGMT_DEAD = true ∧
      t.flag F.CFG_CAUSE_MGMT_DEAD = true ∧ t.mem = s.mem ∧ t.store = s.store := by
  have hlogs : OnlyLogs [.CFG_CAUSE, .CFG_STAT] s.expired
      ((s.expired.wr F.CFG_STAT_MGMT_DEAD 0 1).raise F.CFG_CAUSE_MGMT_DEAD 0 3) :=
    ((OnlyLogs.refl _ _).wr _ _ _ (by decide)).raise _ _ _ _ _ (by decide)
  obtain ⟨hdown, _, hmem, hstore⟩ := State.expired_logs hlogs
  refine ⟨_, (execWdogExpiry_of_up hen hup).trans (if_pos hmany), hdown, ?_, State.flag_raise_same _ _ _ _ _ _ (by decide), hmem, hstore⟩
  rw [State.flag_raise_ne _ _ _ _ _ _ _ _ (by decide), State.flag_wr_one _ _ _ (by decide)]

theorem State.reach_congr {s t : State} (hfab : t.fab = s.fab) (n : Nat) (l : List Nat) : t.reach l n = s.reach l n := by
  have hnext : t.topoNext = s.topoNext := by funext m; rw [State.topoNext, State.topoNext, hfab]
  induction n generalizing l with
  | zero => rfl
  | succ n ih => simp only [State.reach, hnext, ih]

/-- Which module is the epoch source is read from the links, the topology and FAB_TR. -/
theorem State.epochSource_congr {s t : State} (hfab : t.fab = s.fab) (hreg : SameRegs [.ETH_RING_STAT] s t) :
    t.epochSource = s.epochSource ∧ t.myId = s.myId := by
  have hrd (f : Fld) (hf : f.reg ∉ [Reg.ETH_RING_STAT]) (i : Nat) : t.rd f i = s.rd f i := hreg.rd hf i
  have hid : t.myId = s.myId := hrd _ (by decide) 0
  have hnear : t.neighbours = s.neighbours := by
    simp (disch := decide) only [State.neighbours, State.lkCarries, State.lkState, hrd] <;> rfl
  have hreach : t.reachable = s.reachable := by
    rw [State.reachable, State.reachable, hnear, hfab, hid, State.reach_congr hfab]
  refine ⟨?_, hid⟩
  rw [State.epochSource, State.epochSource, hreach, hfab, hid, hreg.flag (by decide)]

theorem execMgmtRestartDone_effect {s : State} (hdown : s.mgmt.down = true) (halive : s.flag F.CFG_STAT_MGMT_DEAD = false)
    (hsource : s.epochSource ≠ some s.myId) :
    ∃ t, execMgmtRestartDone s = .next t ∧ t.mgmt.down = false ∧ (∀ i < 64, t.flag F.ETH_RING_STAT_MGMT_WAIT i = false) ∧
      OnlyRegs [.ETH_RING_STAT] { s with mgmt := { s.mgmt with down := false, kickAt := some s.up } } t := by
  have hexec : execMgmtRestartDone s =
      .next (({ s with mgmt := { s.mgmt with down := false, kickAt := some s.up } } : State).ringsWait 0).tryEpoch := if_pos ⟨hdown, halive⟩
  have hrings := State.ringsWait_onlyRegs { s with mgmt := { s.mgmt with down := false, kickAt := some s.up } } 0
  have hwait := fun i hi => State.flag_ringsWait_zero { s with mgmt := { s.mgmt with down := false, kickAt := some s.up } } (i := i) hi
  generalize State.ringsWait _ 0 = t at hexec hrings hwait
  obtain ⟨hsrc, hid⟩ := State.epochSource_congr (s := s) hrings.fab_eq hrings.1
  have htry : t.tryEpoch = t := if_neg (by simp [hsrc, hid, hsource])
  exact ⟨t, hexec.trans (by rw [htry]), (congrArg (fun u : State => u.mgmt.down) hrings.2 :), hwait, hrings⟩

/-- Settles O38: the permit's events go through the gate and the protective action, the watchdog's through the rings' MGMT_WAIT. -/
theorem flowPermitAndWatchdog : Obligations.FlowPermitAndWatchdog := by
  unfold Obligations.FlowPermitAndWatchdog
  refine ⟨?held, ?still, ?wait, ?waited, ?lost, ?regain, ?noPermit, ?kick, ?restart, ?dead, ?done, ?never⟩
  case held => exact fun s hon hflow hstep hreq => execFlowPermitHeld_flowing hon hflow hstep hreq
  case still => exact fun s hflow => execFlowPermitHeld_still hflow
  case wait => exact fun s hstep hwait => execPermitWait_effect hstep hwait
  case waited => exact fun s hwait => if_neg (by simp [hwait])
  case lost => exact fun s hcore hflow hlost => execPermitLost_effect hcore hflow hlost
  case regain => exact fun s hlost hpermit => execPermitRegain_effect hlost hpermit
  case noPermit => exact fun s hpermit => if_neg (by simp [hpermit])
  case kick => exact fun s hen => execWdogKick_effect hen
  case restart => exact fun s hen hup hfew => execWdogExpiry_restart hen hup hfew
  case dead => exact fun s hen hup hmany => execWdogExpiry_dead hen hup hmany
  case done => exact fun s hdown halive hsource => execMgmtRestartDone_effect hdown halive hsource
  case never => exact fun s hdead => if_neg (by simp [hdead])

end Sys2Proof.Machine
end

section
/-! PROOFS.  The tray controller's heartbeat, mode, restart and shutdown, and the alive count (R450, R451). -/

namespace Sys2Proof.Machine

/-! ### A write of CFG_TRAY once it is logged -/

/-- The fields but MODE and RESTART. -/
def State.trayFields (s : State) (w : Word) : State :=
  ((s.wr F.CFG_TRAY_MINFLOW 0 (fieldOf w F.CFG_TRAY_MINFLOW)).wr F.CFG_TRAY_PERIOD 0 (fieldOf w F.CFG_TRAY_PERIOD)).wr
    F.CFG_TRAY_AUTO 0 (fieldOf w F.CFG_TRAY_AUTO)

/-- MODE, unless guard is refused in recovery. -/
def State.trayModed (s : State) (w : Word) : State :=
  if decide (fieldOf w F.CFG_TRAY_MODE = 1) && (s.trayFields w).flag F.CFG_STAT_RECOVERY then (s.trayFields w).raise F.CFG_CAUSE_CFGERR
  else (s.trayFields w).wr F.CFG_TRAY_MODE 0 (fieldOf w F.CFG_TRAY_MODE)

/-- RESTART. -/
def State.trayAgain (s : State) (w : Word) : State :=
  if !(decide (fieldOf w F.CFG_TRAY_RESTART = 1)) || decide (s.boot.shut = none) then s
  else if s.boot.hbSeen then s.endShutdown else s.wr F.CFG_TRAY_RESTART 0 1

theorem State.writeTray_of_other {m : Nat} (hm : m ≠ 0x8C) (s : State) (w : Word) :
    s.writeTray m w = (s.trayModed w).refreshValve.trayAgain w := by
  unfold State.writeTray
  simp only [hm, decide_false, Bool.false_and, Bool.false_eq_true, if_false, Bool.not_true]
  rfl

theorem State.writeTray_of_tray {s u : State} {w : Word}
    (hchg : (decide (fieldOf w F.CFG_TRAY_RESTART = 1) || (decide (fieldOf w F.CFG_TRAY_MODE = 1) != s.flag F.CFG_TRAY_MODE)) = true)
    (hlog : s.logChange 4 0 (Reg.addr .CFG_TRAY 0) (s.reg .CFG_TRAY 0) w 0x8C = (u, true)) :
    s.writeTray 0x8C w = (u.trayModed w).refreshValve.trayAgain w := by
  unfold State.writeTray
  simp only [hchg, hlog, decide_true, Bool.true_and, if_true, Bool.not_true, Bool.false_eq_true, if_false]
  rfl

theorem State.trayFields_onlyRegs (s : State) (w : Word) : OnlyRegs [.CFG_TRAY] s (s.trayFields w) :=
  (((OnlyRegs.refl _ s).wr _ _ _ (by decide)).wr _ _ _ (by decide)).wr _ _ _ (by decide)

/-- MODE outlasts the other fields. -/
theorem State.flag_trayFields_mode (s : State) (w : Word) : (s.trayFields w).flag F.CFG_TRAY_MODE = s.flag F.CFG_TRAY_MODE := by
  simp (disch := decide) only [State.trayFields, State.flag_wr_ne]

theorem State.trayModed_of_taken {s : State} (hrec : s.flag F.CFG_STAT_RECOVERY = false) (w : Word) :
    s.trayModed w = (s.trayFields w).wr F.CFG_TRAY_MODE 0 (fieldOf w F.CFG_TRAY_MODE) :=
  if_neg (by rw [(s.trayFields_onlyRegs w).1.flag (by decide), hrec, Bool.and_false]; simp)

/-- A write with RESTART clear ends with the valve's refresh. -/
theorem State.trayAgain_of_clear {w : Word} (h : fieldOf w F.CFG_TRAY_RESTART = 0) (s : State) : s.trayAgain w = s := if_pos (by simp [h])

/-- A write that is taken, RESTART clear: MODE, and nothing beside the register but what the valve drives. -/
theorem State.tray_taken {s : State} (hrec : s.flag F.CFG_STAT_RECOVERY = false) (w : Word) :
    (s.trayModed w).refreshValve.flag F.CFG_TRAY_MODE = decide (fieldOf w F.CFG_TRAY_MODE % 2 ≠ 0) ∧
    (s.trayModed w).refreshValve.evr = s.evr ∧ (s.trayModed w).refreshValve.boot = s.boot := by
  rw [State.trayModed_of_taken hrec w]
  have hregs : OnlyRegs [.CFG_TRAY] s ((s.trayFields w).wr F.CFG_TRAY_MODE 0 (fieldOf w F.CFG_TRAY_MODE)) :=
    (s.trayFields_onlyRegs w).wr _ _ _ (by decide)
  have hmode := State.flag_wr_same (s.trayFields w) F.CFG_TRAY_MODE 0 (fieldOf w F.CFG_TRAY_MODE) (by decide)
  generalize (s.trayFields w).wr F.CFG_TRAY_MODE 0 (fieldOf w F.CFG_TRAY_MODE) = u at hregs hmode ⊢
  refine ⟨(State.flag_congr_regs u.regs_refreshValve _ _).trans hmode, ?_, ?_⟩
  · rw [State.refreshValve_eq]; exact (congrArg State.evr hregs.2 :)
  · rw [State.refreshValve_eq]; exact (congrArg State.boot hregs.2 :)

/-! ### TRAY_MODE_WRITE -/

/-- The word a write of MODE writes. -/
def State.modeWord (s : State) (guard : Bool) : Word :=
  setField (setField (s.reg .CFG_TRAY 0) F.CFG_TRAY_MODE (if guard then 1 else 0)) F.CFG_TRAY_RESTART 0

theorem State.fieldOf_modeWord (s : State) (guard : Bool) :
    fieldOf (s.modeWord guard) F.CFG_TRAY_MODE = (if guard then 1 else 0) ∧ fieldOf (s.modeWord guard) F.CFG_TRAY_RESTART = 0 := by
  refine ⟨?_, fieldOf_setField _ _ _ (by decide) (by decide)⟩
  rw [State.modeWord, fieldOf_setField_ne _ _ _ _ (by decide) (by decide), fieldOf_setField _ _ _ (by decide) (by decide)]
  cases guard <;> rfl

theorem BitVec10.toNat_ne {m : BitVec 10} (hm : m ≠ 0x8C) : m.toNat ≠ 0x8C := fun h => hm (BitVec.eq_of_toNat_eq h)

theorem execTrayModeWrite_other {m : BitVec 10} (hm : m ≠ 0x8C) (b : Bool) {s : State} (hrec : s.flag F.CFG_STAT_RECOVERY = false) :
    ∃ t, execTrayModeWrite m b s = .next t ∧ t.flag F.CFG_TRAY_MODE = b ∧ t.evr.chg = s.evr.chg ∧ t.boot = s.boot := by
  obtain ⟨hmode, hclear⟩ := s.fieldOf_modeWord b
  obtain ⟨hflag, hevr, hboot⟩ := State.tray_taken hrec (s.modeWord b)
  have hexec : execTrayModeWrite m b s = .next (s.trayModed (s.modeWord b)).refreshValve :=
    (congrArg Host.Outcome.next ((State.writeTray_of_other (BitVec10.toNat_ne hm) s (s.modeWord b)).trans
      (State.trayAgain_of_clear hclear _)) :)
  refine ⟨_, hexec, hflag.trans ?_, congrArg RecState.chg hevr, hboot⟩
  rw [hmode]; cases b <;> rfl

/-- By the tray a change of MODE is a change record. -/
theorem execTrayModeWrite_tray (b : Bool) {s : State} (hrec : s.flag F.CFG_STAT_RECOVERY = false) (hold : s.flag F.CFG_TRAY_MODE = !b)
    (hroom : s.evr.chg.length < 64) :
    ∃ t, execTrayModeWrite 0x8C b s = .next t ∧ t.flag F.CFG_TRAY_MODE = b ∧ t.evr.chg.length = s.evr.chg.length + 1 := by
  obtain ⟨hmode, hclear⟩ := s.fieldOf_modeWord b
  obtain ⟨u, hlog, hframe⟩ := State.logChange_of_room hroom 4 0 (Reg.addr .CFG_TRAY 0) (s.reg .CFG_TRAY 0) (s.modeWord b) 0x8C
  have hlen : u.evr.chg.length = s.evr.chg.length + 1 := by
    rw [← State.length_chg_logChange hroom 4 0 (Reg.addr .CFG_TRAY 0) (s.reg .CFG_TRAY 0) (s.modeWord b) 0x8C, hlog]
  have hurec : u.flag F.CFG_STAT_RECOVERY = false := (State.flag_congr (hframe.1 _ _ (by decide))).trans hrec
  obtain ⟨hflag, hevr, _⟩ := State.tray_taken hurec (s.modeWord b)
  have hchg : (decide (fieldOf (s.modeWord b) F.CFG_TRAY_RESTART = 1) ||
      (decide (fieldOf (s.modeWord b) F.CFG_TRAY_MODE = 1) != s.flag F.CFG_TRAY_MODE)) = true := by
    rw [hmode, hclear, hold]; cases b <;> rfl
  have hexec : execTrayModeWrite 0x8C b s = .next (u.trayModed (s.modeWord b)).refreshValve :=
    (congrArg Host.Outcome.next ((State.writeTray_of_tray hchg hlog).trans (State.trayAgain_of_clear hclear _)) :)
  refine ⟨_, hexec, hflag.trans ?_, (congrArg (fun e : RecState => e.chg.length) hevr).trans hlen⟩
  rw [hmode]; cases b <;> rfl

/-- In recovery guard is refused. -/
theorem execTrayModeWrite_refused {m : BitVec 10} (hm : m ≠ 0x8C) {s : State} (hrec : s.flag F.CFG_STAT_RECOVERY = true) :
    ∃ t, execTrayModeWrite m true s = .next t ∧ t.flag F.CFG_TRAY_MODE = s.flag F.CFG_TRAY_MODE ∧ t.flag F.CFG_CAUSE_CFGERR = true := by
  obtain ⟨hmode, hclear⟩ := s.fieldOf_modeWord true
  have hmoded : s.trayModed (s.modeWord true) = (s.trayFields (s.modeWord true)).raise F.CFG_CAUSE_CFGERR :=
    if_pos (by rw [(s.trayFields_onlyRegs _).1.flag (by decide), hrec, hmode]; rfl)
  have hexec : execTrayModeWrite m true s = .next ((s.trayFields (s.modeWord true)).raise F.CFG_CAUSE_CFGERR).refreshValve :=
    (congrArg Host.Outcome.next (((State.writeTray_of_other (BitVec10.toNat_ne hm) s (s.modeWord true)).trans
      (State.trayAgain_of_clear hclear _)).trans (by rw [hmoded])) :)
  refine ⟨_, hexec, ?_, ?_⟩ <;> rw [State.flag_congr_regs (State.regs_refreshValve _)]
  · rw [State.flag_raise_ne _ _ _ _ _ _ _ _ (by decide), State.flag_trayFields_mode]
  · exact State.flag_raise_same _ _ _ _ _ _ (by decide)

/-! ### TRAY_RESTART -/

/-- The word a write of RESTART writes. -/
def State.restartWord (s : State) : Word := setField (s.reg .CFG_TRAY 0) F.CFG_TRAY_RESTART 1

theorem execTrayRestart_next {m : BitVec 10} (hm : m ≠ 0x8C) {s : State} (hshut : s.boot.shut.isSome = true)
    (hrec : s.flag F.CFG_STAT_RECOVERY = false) :
    ∃ u : State, u.boot = s.boot ∧ execTrayRestart m s = .next (if s.boot.hbSeen then u.endShutdown else u.wr F.CFG_TRAY_RESTART 0 1) := by
  obtain ⟨_, _, hboot⟩ := State.tray_taken hrec s.restartWord
  have hagain : fieldOf s.restartWord F.CFG_TRAY_RESTART = 1 := fieldOf_setField _ _ _ (by decide) (by decide)
  have hwrite : s.writeTray m.toNat s.restartWord = (s.trayModed s.restartWord).refreshValve.trayAgain s.restartWord :=
    State.writeTray_of_other (BitVec10.toNat_ne hm) s s.restartWord
  generalize (s.trayModed s.restartWord).refreshValve = u at hboot hwrite
  have hsome : s.boot.shut ≠ none := Option.isSome_iff_ne_none.1 hshut
  have htake : u.trayAgain s.restartWord = if s.boot.hbSeen then u.endShutdown else u.wr F.CFG_TRAY_RESTART 0 1 := by
    rw [← hboot]
    exact if_neg (by rw [hboot]; simp [hagain, hsome])
  exact ⟨u, hboot, congrArg Host.Outcome.next (hwrite.trans htake)⟩

/-- The end of a shutdown clears its bookkeeping and RESTART. -/
theorem State.endShutdown_effect (s : State) :
    s.endShutdown.boot.shut = none ∧ s.endShutdown.boot.valveHold = 0 ∧ s.endShutdown.flag F.CFG_TRAY_RESTART = false := by
  have hover : ∀ u : State, u.refreshValve.requestCompute.boot.shut = u.boot.shut ∧
      u.refreshValve.requestCompute.boot.valveHold = u.boot.valveHold ∧
      u.refreshValve.requestCompute.flag F.CFG_TRAY_RESTART = u.flag F.CFG_TRAY_RESTART := fun u => by
    have hframe := u.refreshValve.requestCompute_frame
    have hboot : u.refreshValve.boot = u.boot := by rw [State.refreshValve_eq]
    exact ⟨(State.shut_of_gateless hframe.2).trans (congrArg Boot.shut hboot),
      (State.valveHold_of_gateless hframe.2).trans (congrArg Boot.valveHold hboot),
      (hframe.flag _ (by decide) 0).trans (State.flag_congr_regs u.regs_refreshValve _ _)⟩
  obtain ⟨hshut, hhold, hflag⟩ := hover ((s.modBoot fun b => { b with shut := none, hbSeen := false, valveHold := 0 }).wr F.CFG_TRAY_RESTART 0 0)
  exact ⟨hshut, hhold, hflag.trans (State.flag_wr_zero _ _ _ (by decide))⟩

theorem execTrayRestart_seen {m : BitVec 10} (hm : m ≠ 0x8C) {s : State} (hrec : s.flag F.CFG_STAT_RECOVERY = false)
    (hshut : s.boot.shut.isSome = true) (hseen : s.boot.hbSeen = true) :
    ∃ t, execTrayRestart m s = .next t ∧ t.boot.shut = none ∧ t.boot.valveHold = 0 ∧ t.flag F.CFG_TRAY_RESTART = false := by
  obtain ⟨u, _, hexec⟩ := execTrayRestart_next hm hshut hrec
  exact ⟨_, hexec.trans (congrArg Host.Outcome.next (if_pos hseen)), u.endShutdown_effect⟩

theorem execTrayRestart_unseen {m : BitVec 10} (hm : m ≠ 0x8C) {s : State} (hrec : s.flag F.CFG_STAT_RECOVERY = false)
    (hshut : s.boot.shut.isSome = true) (hseen : s.boot.hbSeen = false) :
    ∃ t, execTrayRestart m s = .next t ∧ t.boot.shut = s.boot.shut ∧ t.flag F.CFG_TRAY_RESTART = true := by
  obtain ⟨u, hboot, hexec⟩ := execTrayRestart_next hm hshut hrec
  exact ⟨_, hexec.trans (congrArg Host.Outcome.next (if_neg (by simp [hseen]))), congrArg Boot.shut hboot,
    State.flag_wr_one u F.CFG_TRAY_RESTART 0 (by decide)⟩

/-! ### The tray's shutdown (R450) -/

/-- A shutdown begins: the valve is held. -/
def State.shutBegun (s : State) : State :=
  s.modBoot fun b => { b with shut := some s.up, hbSeen := false, valveHold := 1, heldValve := s.act s.valveDst }

theorem execTrayShutdown_effect {s : State} (hmode : s.flag F.CFG_TRAY_MODE = true) (hshut : s.boot.shut = none)
    (hon : s.boot.off = false) (hcore : s.pwr.vcore = true) :
    ∃ t, execTrayShutdown s = .next t ∧ t.boot.shut = some s.up ∧ t.boot.hbSeen = false ∧ t.boot.valveHold = 1 ∧
      t.flag F.CFG_CAUSE_TRAY_SHUT = true ∧ t.pwr.quiesce = true ∧ (∀ n < 16, t.pstate n ≠ 2) := by
  obtain ⟨hflag, hpwr, _, hjobs, hwithin⟩ :=
    State.protect_quiesceNow (s := s.shutBegun) hcore (f := F.CFG_CAUSE_TRAY_SHUT) (by decide) 0 false
  have hexec : execTrayShutdown s = .next (s.shutBegun.protect F.CFG_CAUSE_TRAY_SHUT 0 false).quiesceNow.refreshValve :=
    if_pos ⟨hmode, hshut, hon⟩
  have hboot := hwithin.boot
  generalize (s.shutBegun.protect F.CFG_CAUSE_TRAY_SHUT 0 false).quiesceNow = q at hexec hflag hpwr hjobs hboot
  have hqboot : q.refreshValve.boot = s.shutBegun.boot := by rw [State.refreshValve_eq]; exact hboot
  refine ⟨_, hexec, congrArg Boot.shut hqboot, congrArg Boot.hbSeen hqboot, congrArg Boot.valveHold hqboot,
    (State.flag_congr_regs q.regs_refreshValve _ _).trans hflag, ?_, fun n hn => ?_⟩
  · rw [State.refreshValve_eq]; exact congrArg Pwr.quiesce hpwr
  · exact fun h => hjobs n hn ((State.rd_congr_regs q.regs_refreshValve F.ETH_PART_STATE_STATE n).symm.trans h)

theorem execTrayValveHoldEnd_effect {s : State} (hshut : s.boot.shut.isSome = true) (hhold : s.boot.valveHold = 1) :
    ∃ t, execTrayValveHoldEnd s = .next t ∧ t.boot.valveHold = 2 ∧ t.mem = s.mem ∧ t.store = s.store := by
  have hexec : execTrayValveHoldEnd s = .next (s.modBoot fun b => { b with valveHold := 2 }).refreshValve := if_pos ⟨hshut, hhold⟩
  exact ⟨_, hexec, by rw [State.refreshValve_eq]; rfl, by rw [State.refreshValve_eq]; rfl, by rw [State.refreshValve_eq]; rfl⟩

/-! ### Heartbeats and the alive count -/

theorem execHbMiss_effect {s : State} (hmode : s.flag F.CFG_TRAY_MODE = true) (hon : s.boot.off = false) :
    ∃ t, execHbMiss s = .next t ∧ t.flag F.CFG_CAUSE_HB_MISS = true ∧ OnlyLogs [.CFG_CAUSE] s t :=
  ⟨_, if_pos ⟨hmode, hon⟩, State.flag_raise_same _ _ _ _ _ _ (by decide), (OnlyLogs.refl _ s).raise _ _ _ _ _ (by decide)⟩

theorem execAliveTick_effect {s : State} (hsampled : s.boot.sampled = true) (hon : s.boot.off = false) :
    ∃ t, execAliveTick s = .next t ∧ t.rd F.CFG_ALIVE_COUNT = (s.rd F.CFG_ALIVE_COUNT + 1) % 65536 ∧
      t.boot.sampled = false ∧ OnlyRegs [.CFG_ALIVE] { s with boot := { s.boot with sampled := false } } t := by
  refine ⟨_, if_pos ⟨hsampled, hon⟩, ?_, rfl, ?_⟩
  · refine (State.rd_congr_regs rfl _ _).trans ((State.rd_wr_same s F.CFG_ALIVE_COUNT 0 _ (by decide)).trans ?_)
    exact Nat.mod_eq_of_lt (Nat.mod_lt _ (by decide))
  · exact (OnlyRegs.refl [.CFG_ALIVE] { s with boot := { s.boot with sampled := false } }).wr F.CFG_ALIVE_COUNT 0
      ((s.rd F.CFG_ALIVE_COUNT + 1) % 65536) (by decide)

/-- Settles O39: a write of CFG_TRAY is its log, its fields, MODE, the valve and RESTART in turn; the shutdown is a protective action. -/
theorem trayHeartbeatModesAndShutdown : Obligations.TrayHeartbeatModesAndShutdown := by
  unfold Obligations.TrayHeartbeatModesAndShutdown
  refine ⟨?beat, ?mode, ?logged, ?refused, ?seen, ?unseen, ?miss, ?alone, ?shut, ?hold, ?noHold, ?tick, ?noTick⟩
  case beat => exact fun s hon => if_neg (by simp [hon])
  case mode => exact fun m b s hm hrec => execTrayModeWrite_other hm b hrec
  case logged => exact fun b s hrec hold hroom => execTrayModeWrite_tray b hrec hold hroom
  case refused => exact fun m s hm hrec => execTrayModeWrite_refused hm hrec
  case seen => exact fun m s hm hrec hshut hseen => execTrayRestart_seen hm hrec hshut hseen
  case unseen => exact fun m s hm hrec hshut hseen => execTrayRestart_unseen hm hrec hshut hseen
  case miss => exact fun s hmode hon => execHbMiss_effect hmode hon
  case alone => exact fun s hmode => ⟨if_neg (by simp [hmode]), if_neg (by simp [hmode])⟩
  case shut => exact fun s hmode hshut hon hcore => execTrayShutdown_effect hmode hshut hon hcore
  case hold => exact fun s hshut hhold => execTrayValveHoldEnd_effect hshut hhold
  case noHold => exact fun s hshut => if_neg (by simp [hshut])
  case tick => exact fun s hsampled hon => execAliveTick_effect hsampled hon
  case noTick => exact fun s hsampled => if_neg (by simp [hsampled])

end Sys2Proof.Machine
end

section
/-! PROOFS.  Power-up and overvoltage, the start-up steps, the warm restart (R408, R435 to R439, R449, R503). -/

namespace Sys2Proof.Machine

/-! ### VAON (R408, R435, R503) -/

/-- The meter's start changes the meter alone. -/
theorem State.meterStart_eq (s : State) : s.meterStart = { s with meter := s.meterStart.meter } := by
  unfold State.meterStart
  split <;> rfl

/-- A power-up begins step 1 from the reset state, the configuration memory, the spares and the stored records kept. -/
theorem State.powerUp_effect (s : State) : s.powerUp.boot.off = false ∧ s.powerUp.rd F.CFG_STAT_STEP = 1 ∧ s.powerUp.nv = s.nv ∧
    s.powerUp.spares = s.spares ∧ s.powerUp.pwr.vcore = false ∧ s.powerUp.store = [] ∧ s.powerUp.mem = [] ∧
    s.powerUp.evr.sectors = s.evr.sectors := by
  have hstep : s.bare.rd F.CFG_STAT_STEP = 1 := (State.rd_congr_regs (s := State.reset) rfl _ _).trans (by decide)
  have hmeter : s.powerUp = { s.bare with meter := s.bare.meterStart.meter } := s.bare.meterStart_eq
  rw [hmeter]
  exact ⟨rfl, (State.rd_congr_regs rfl _ _).trans hstep, rfl, rfl, rfl, rfl, rfl, rfl⟩

/-! ### Steps 1 to 3 -/

theorem execStartupStepComplete_clock (d : StepData) {s : State} (hon : s.boot.off = false) (hstep : s.rd F.CFG_STAT_STEP = 1) :
    ∃ t, execStartupStepComplete d s = .next t ∧ t.rd F.CFG_STAT_STEP = 2 ∧
      t.flag F.SYS_CLK_REF_OK = !(s.flag F.SYS_CLK_BACKUP) ∧ OnlyRegs [.SYS_CLK, .CFG_STAT] s t := by
  refine ⟨(s.wr F.SYS_CLK_REF_OK 0 (if s.flag F.SYS_CLK_BACKUP then 0 else 1)).wr F.CFG_STAT_STEP 0 2, ?_,
    State.rd_wr_same _ _ _ _ (by decide), ?_, ((OnlyRegs.refl _ s).wr _ _ _ (by decide)).wr _ _ _ (by decide)⟩
  · unfold execStartupStepComplete
    rw [hstep]
    exact if_neg (by simp [hon])
  · rw [State.flag_wr_ne _ _ _ _ _ _ (.inl (by decide)), State.flag_wr_same _ _ _ _ (by decide)]
    cases s.flag F.SYS_CLK_BACKUP <;> rfl

theorem execStartupStepComplete_second (d : StepData) {s : State} (hon : s.boot.off = false) (hstep : s.rd F.CFG_STAT_STEP = 2) :
    ∃ t, execStartupStepComplete d s = .next t ∧ t.rd F.CFG_STAT_STEP = 3 ∧ OnlyRegs [.CFG_STAT] s t := by
  refine ⟨s.wr F.CFG_STAT_STEP 0 3, ?_, State.rd_wr_same _ _ _ _ (by decide), (OnlyRegs.refl _ s).wr _ _ _ (by decide)⟩
  unfold execStartupStepComplete
  rw [hstep]
  exact if_neg (by simp [hon])

/-- Without helper data no reading gives the seed. -/
theorem State.seedCopy_none {s : State} (h : s.nv.helpers = [none, none]) (l : List (List Byte)) : s.seedCopy l = none := by
  simp [State.seedCopy, h, getAt, seedOk, List.range_succ]

theorem State.seedOf_none {s : State} (h : s.nv.helpers = [none, none]) (l : List (List Byte)) : s.seedOf l = none := by
  simp [State.seedOf, h, getAt, seedOk, List.range_succ]

/-- The secrets of step 3 after a warm restart stand in the security area; registers and configuration memory stay. -/
theorem State.step3Keys_regs {s : State} (hwarm : s.boot.fromOff = false) (l : List (List Byte)) :
    (s.step3Keys l).regs = s.regs ∧ (s.step3Keys l).nv = s.nv := by
  unfold State.step3Keys
  extract_lets m src u p psrc psec k
  have hu : u = s := if_neg (by simp [hwarm])
  have hp : p.2 = { s with free := p.2.free } := by
    rw [← hu]; exact State.freeBytes_free u _
  have hregs : p.2.regs = s.regs := by rw [hp]
  have hnv : p.2.nv = s.nv := by rw [hp]
  split
  · exact ⟨hregs, hnv⟩
  · have hk : k.2 = { p.2 with free := k.2.free } := State.freeBytes_free p.2 48
    exact ⟨(congrArg State.regs hk :).trans hregs, (congrArg State.nv hk :).trans hnv⟩

theorem State.step3_unidentified {s : State} (hwarm : s.boot.fromOff = false) (hnone : s.nv.helpers = [none, none]) (l : List (List Byte)) :
    (s.step3 l).rd F.SEC_STATE_ID = 2 ∧ (s.step3 l).flag F.SEC_CAUSE_ID_FAIL = true := by
  obtain ⟨-, hnv⟩ := State.step3Keys_regs hwarm l
  unfold State.step3
  extract_lets u s1
  have hcopy : s1.seedCopy l = none := State.seedCopy_none ((congrArg Nv.helpers hnv :).trans hnone) l
  rw [hcopy]
  refine ⟨?_, State.flag_raise_same _ _ _ _ _ _ (by decide)⟩
  exact (State.rd_raise_ne _ _ _ _ _ _ _ _ (by decide)).trans ((State.rd_wr_same _ _ _ _ (by decide)).trans (by decide))

theorem execStartupStepComplete_unidentified {l : List (List Byte)} {s : State} (hon : s.boot.off = false)
    (hwarm : s.boot.fromOff = false) (hstep : s.rd F.CFG_STAT_STEP = 3) (hnone : s.nv.helpers = [none, none]) (hlen : 4 ≤ l.length) :
    ∃ t, execStartupStepComplete (.puf l) s = .next t ∧ t.rd F.CFG_STAT_STEP = 4 ∧ t.rd F.SEC_STATE_ID = 2 ∧
      t.flag F.SEC_CAUSE_ID_FAIL = true := by
  obtain ⟨hid, hfail⟩ := State.step3_unidentified hwarm hnone l
  have hne : l ≠ [] := by rintro rfl; simp at hlen
  have hskip : ¬ (l = [] ∨ (l.length < 4 ∧ s.seedCopy l = none)) := by
    rintro (h | ⟨h, -⟩)
    · exact hne h
    · omega
  refine ⟨(s.step3 l).wr F.CFG_STAT_STEP 0 4, ?_, State.rd_wr_same _ _ _ _ (by decide), ?_, ?_⟩
  · unfold execStartupStepComplete
    rw [hstep]
    simp only [hon, Bool.false_eq_true, if_false, if_neg hskip, hwarm]
  · rw [State.rd_wr_ne _ _ _ _ _ _ (.inl (by decide))]; exact hid
  · rw [State.flag_wr_ne _ _ _ _ _ _ (.inl (by decide))]; exact hfail

/-! ### Step 4 -/

/-- What the scan of the configuration memory may change beside registers is forgotten. -/
def State.scanless (s : State) : State := { s with regs := [], evr := {}, irqPulse := false, boot := {} }

/-- The registers it writes beside CFG_STAT. -/
def scanRegs : List Reg := [.REC_STAT, .REC_CAUSE, .SYS_SERIAL, .TIM_OPTIME, .TIM_CYCLES, .CLU_ENG_MAP] ++ recRegs

theorem State.readCounters_onlyRegs (s : State) : OnlyRegs [.TIM_OPTIME, .TIM_CYCLES] s s.readCounters := by
  unfold State.readCounters
  split
  · extract_lets c
    exact ((OnlyRegs.refl _ s).wr _ _ _ (by decide)).wr _ _ _ (by decide)
  · exact OnlyRegs.refl _ s

theorem State.readMap_onlyRegs (s : State) : OnlyRegs [.CLU_ENG_MAP] s s.readMap :=
  (OnlyRegs.refl _ s).foldl _ fun _ _ hv => (hv.wr _ _ _ (by decide)).wr _ _ _ (by decide)

theorem State.recScan_frame (s : State) (bad : List (Bool × Word)) : Frame State.scanless scanRegs s (s.recScan bad) := by
  unfold State.recScan
  extract_lets hit gone secs chgs cold b cb re s1 s2
  clear_value hit gone secs chgs cold b cb re
  have h1 : Frame State.scanless scanRegs s s1 := (Frame.refl _ _ s).other rfl rfl
  have h2 : Frame State.scanless scanRegs s s2 :=
    h1.foldl _ fun v _ => (Frame.refl _ _ v).raise (fun _ => rfl) _ _ _ _ _ (by decide) (by decide)
  exact (h2.record (fun _ => rfl) 5 15 0x40 0 1 _ _ (by decide)).other rfl rfl

/-- Before it ends, step 4 has shown the density and read the memory. -/
theorem State.step4_effect {s : State} (hdense : s.nv.density < 5) (bad : List (Bool × Word)) :
    (s.step4 bad).rd F.CFG_STAT_STEP = s.rd F.CFG_STAT_STEP ∧ (s.step4 bad).rd F.CFG_STAT_DENSITY = s.nv.density ∧
      (s.step4 bad).boot.scanned = true := by
  unfold State.step4
  rw [if_neg (by omega)]
  extract_lets s1 s2
  have h2 : Frame State.scanless scanRegs s1 s2 :=
    (Frame.refl _ _ s1).foldl _ fun v _ => (Frame.refl _ _ v).wr (fun _ => rfl) _ _ _ (by decide)
  have hread : Frame State.scanless scanRegs s1 s2.readCounters.readMap :=
    (h2.trans ((Frame.of_onlyRegs (fun _ => rfl) s2.readCounters_onlyRegs).mono (by decide))).trans
      ((Frame.of_onlyRegs (fun _ => rfl) (State.readMap_onlyRegs _)).mono (by decide))
  have hall := hread.trans (State.recScan_frame _ bad)
  refine ⟨?_, ?_, rfl⟩
  · rw [hall.rd _ (by decide)]
    exact (State.rd_wr_ne _ _ _ _ _ _ (.inl (by decide))).trans (State.rd_wr_ne _ _ _ _ _ _ (.inr (by decide)))
  · rw [hall.rd _ (by decide)]
    refine (State.rd_wr_ne _ _ _ _ _ _ (.inl (by decide))).trans ((State.rd_wr_same _ _ _ _ (by decide)).trans ?_)
    exact Nat.mod_eq_of_lt (lt_trans hdense (by decide))

theorem execStartupStepComplete_scan (l : List (Bool × Word)) {s : State} (hon : s.boot.off = false) (hstep : s.rd F.CFG_STAT_STEP = 4)
    (hdense : s.nv.density < 5) :
    ∃ t, execStartupStepComplete (.scan l) s = .next t ∧ t.rd F.CFG_STAT_STEP = 5 ∧ t.rd F.CFG_STAT_DENSITY = s.nv.density ∧
      t.boot.scanned = true := by
  obtain ⟨hfour, hshown, hscanned⟩ := State.step4_effect hdense l
  refine ⟨(s.step4 l).wr F.CFG_STAT_STEP 0 5, ?_, State.rd_wr_same _ _ _ _ (by decide), ?_, hscanned⟩
  · unfold execStartupStepComplete
    rw [hstep]
    simp only [hon, Bool.false_eq_true, if_false, if_pos (hfour.trans hstep)]
  · rw [State.rd_wr_ne _ _ _ _ _ _ (.inr (by decide))]; exact hshown

/-! ### Steps 7 and 9 -/

/-- In step 9 the permit is what it is in step 7. -/
theorem State.permit_stepNine {s : State} (hpermit : s.permit = true) :
    (s.wr F.CFG_STAT_STEP 0 9).permit = true := by
  have hregs : OnlyRegs [.CFG_STAT] s (s.wr F.CFG_STAT_STEP 0 9) := (OnlyRegs.refl _ s).wr _ _ _ (by decide)
  obtain ⟨hdry, hemerg, hinlet⟩ := State.conditions_congr hregs.1 rfl rfl
  have hnine : (s.wr F.CFG_STAT_STEP 0 9).rd F.CFG_STAT_STEP = 9 := State.rd_wr_same _ _ _ _ (by decide)
  have hflow : (s.wr F.CFG_STAT_STEP 0 9).flag F.CFG_STAT_FLOW = s.flag F.CFG_STAT_FLOW := State.flag_wr_ne _ _ _ _ _ _ (.inr (by decide))
  have htrip : (s.wr F.CFG_STAT_STEP 0 9).flag F.PWR_TRIP_TRIPPED = s.flag F.PWR_TRIP_TRIPPED := hregs.1.flag (by decide) 0
  have hboot : (s.wr F.CFG_STAT_STEP 0 9).boot = s.boot := rfl
  simp only [State.permit, State.permitBut, State.permitOn, hdry, hemerg, hinlet, hnine, hflow, htrip, hboot, Bool.and_eq_true] at hpermit ⊢
  tauto

/-- With the whole permit step 7 leads to step 9 with core power. -/
theorem State.stepNine_effect {s : State} (hpermit : s.permit = true) :
    (s.wr F.CFG_STAT_STEP 0 9).requestCompute.rd F.CFG_STAT_STEP = 9 ∧
    (s.wr F.CFG_STAT_STEP 0 9).requestCompute.pwr.computeReq = s.pwr.vcore ∧
    (s.wr F.CFG_STAT_STEP 0 9).requestCompute.pwr.vcore = true ∧
    (s.wr F.CFG_STAT_STEP 0 9).requestCompute.flag F.CFG_STAT_FLOW = s.flag F.CFG_STAT_FLOW := by
  have hnine : (s.wr F.CFG_STAT_STEP 0 9).rd F.CFG_STAT_STEP = 9 := State.rd_wr_same _ _ _ _ (by decide)
  obtain ⟨hreq, hcore⟩ := State.pwr_requestCompute (State.permit_stepNine hpermit)
  refine ⟨(State.rd_requestCompute_of_cfgStat _ rfl (by decide)).trans hnine, ?_, hcore hnine.ge, ?_⟩
  · rw [hreq, hnine]; exact Bool.or_false _
  · rw [State.flag, State.rd_requestCompute_of_cfgStat _ rfl (by decide)]
    exact State.flag_wr_ne _ _ _ _ _ _ (.inr (by decide))

theorem execStartupStepComplete_seven (d : StepData) {s : State} (hon : s.boot.off = false) (hstep : s.rd F.CFG_STAT_STEP = 7)
    (hrole : s.role = 0) (hpermit : s.permit = true) :
    ∃ t, execStartupStepComplete d s = .next t ∧ t.rd F.CFG_STAT_STEP = 9 ∧ t.pwr.computeReq = s.pwr.vcore ∧ t.pwr.vcore = true := by
  obtain ⟨hnine, hreq, hcore, -⟩ := State.stepNine_effect hpermit
  refine ⟨_, ?_, hnine, hreq, hcore⟩
  unfold execStartupStepComplete
  rw [hstep]
  simp only [hon, Bool.false_eq_true, if_false, State.step7, hrole, if_true, hpermit]

/-- Step 9 ends: STARTED, and guard where AUTO asks for it. -/
def State.startedUp (s : State) : State := (s.wr F.CFG_STAT_STEP 0 10).raise F.CFG_CAUSE_STARTED

theorem execStartupStepComplete_nine (d : StepData) {s : State} (hon : s.boot.off = false) (hstep : s.rd F.CFG_STAT_STEP = 9)
    (htrained : s.boot.trained = true) (hidle : ∀ k < 8, s.rd F.MEM_STATE_STATE k ≠ 1)
    (htested : s.pwr.tested = true ∨ s.pwr.vcore = false) :
    ∃ t, execStartupStepComplete d s = .next t ∧ t.rd F.CFG_STAT_STEP = 10 ∧ t.flag F.CFG_CAUSE_STARTED = true ∧
      (s.flag F.CFG_TRAY_AUTO = true → t.flag F.CFG_TRAY_MODE = true) ∧ OnlyLogs [.CFG_STAT, .CFG_CAUSE, .CFG_TRAY] s t := by
  have hnone : ((List.range 8).any fun k => decide (s.rd F.MEM_STATE_STATE k = 1)) = false := by
    rw [List.any_eq_false]
    exact fun k hk => by simpa using hidle k (List.mem_range.1 hk)
  have hready : (s.boot.trained && !((List.range 8).any fun k => decide (s.rd F.MEM_STATE_STATE k = 1)) &&
      (s.pwr.tested || !s.pwr.vcore)) = true := by
    rw [hnone, htrained]
    rcases htested with h | h <;> simp [h]
  have hstep9 : s.step9 = if s.startedUp.flag F.CFG_TRAY_AUTO then s.startedUp.wr F.CFG_TRAY_MODE 0 1 else s.startedUp := if_pos hready
  have hexec : execStartupStepComplete d s = .next s.step9 := by
    unfold execStartupStepComplete
    rw [hstep]
    exact if_neg (by simp [hon])
  have hten : s.startedUp.rd F.CFG_STAT_STEP = 10 :=
    (State.rd_raise_ne _ _ _ _ _ _ _ _ (by decide)).trans (State.rd_wr_same _ _ _ _ (by decide))
  have hstarted : s.startedUp.flag F.CFG_CAUSE_STARTED = true := State.flag_raise_same _ _ _ _ _ _ (by decide)
  have hlogs : OnlyLogs [.CFG_STAT, .CFG_CAUSE, .CFG_TRAY] s s.startedUp :=
    ((OnlyLogs.refl _ s).wr _ _ _ (by decide)).raise _ _ _ _ _ (by decide)
  have hauto : s.startedUp.flag F.CFG_TRAY_AUTO = s.flag F.CFG_TRAY_AUTO :=
    (State.flag_raise_ne _ _ _ _ _ _ _ _ (by decide)).trans (State.flag_wr_ne _ _ _ _ _ _ (.inl (by decide)))
  refine ⟨_, hexec, ?_⟩
  rw [hstep9, hauto]
  by_cases h : s.flag F.CFG_TRAY_AUTO = true
  · rw [if_pos h]
    exact ⟨(State.rd_wr_ne _ _ _ _ _ _ (.inl (by decide))).trans hten, (State.flag_wr_ne _ _ _ _ _ _ (.inl (by decide))).trans hstarted,
      fun _ => State.flag_wr_one _ _ _ (by decide), hlogs.wr _ _ _ (by decide)⟩
  · rw [if_neg h]
    exact ⟨hten, hstarted, fun h' => absurd h' h, hlogs⟩

/-! ### The warm restart (R449, R495, R496) -/

/-- Registers of reset blocks read their reset values, and those that have them keep them. -/
theorem State.reg_filter_reset {s : State} {r : Reg} (keep : Nat → Bool) (h : ∀ i, s.reg r i = r.reset i) (i : Nat) :
    State.reg { s with regs := s.regs.filter fun e => keep e.1 } r i = r.reset i := by
  have hget := Assoc.get_filter_key (r.reset i) keep s.regs (regKey r i)
  have hold : Assoc.get (r.reset i) s.regs (regKey r i) = r.reset i := h i
  refine hget.trans ?_
  rw [hold, ite_self]

theorem State.reg_resetBlock_kept {s : State} {r : Reg} (h : ∀ i, s.reg r i = r.reset i) (b : Block) (keep : List Reg) (i : Nat) :
    (s.resetBlock b keep).reg r i = r.reset i :=
  State.reg_filter_reset (fun k => !(((b.regs.filter fun r => !(keep.elem r)).map Reg.ctorIdx).elem (k % 1024))) h i

theorem State.reg_resetReg_kept {s : State} {r : Reg} (h : ∀ i, s.reg r i = r.reset i) (q : Reg) (i : Nat) :
    (s.resetReg q).reg r i = r.reset i :=
  State.reg_filter_reset (fun k => decide (k % 1024 ≠ q.ctorIdx)) h i

theorem State.reg_resetBlock_of_mem (s : State) {r : Reg} {b : Block} {keep : List Reg} (hr : r ∈ b.regs) (hk : r ∉ keep) (i : Nat) :
    (s.resetBlock b keep).reg r i = r.reset i := by
  have hkey : regKey r i % 1024 = r.ctorIdx := by have := r.ctorIdx_lt; unfold regKey; omega
  have hgone : ((b.regs.filter fun r => !(keep.elem r)).map Reg.ctorIdx).elem (regKey r i % 1024) = true := by
    rw [hkey, List.elem_eq_mem, decide_eq_true_eq]
    exact List.mem_map_of_mem (List.mem_filter.2 ⟨hr, by simpa using hk⟩)
  refine (Assoc.get_filter_key (r.reset i)
    (fun k => !(((b.regs.filter fun r => !(keep.elem r)).map Reg.ctorIdx).elem (k % 1024))) s.regs (regKey r i)).trans ?_
  rw [hgone]
  rfl

/-- The registers as a warm restart resets them, core power off. -/
def State.warmRegs (s : State) : State :=
  ((((Block.all.filter fun b => !(keptBlock b)).foldl (fun (s : State) (b : Block) => s.resetBlock b (warmKept b)) s.coreOff).resetReg
    .REC_CUR_CTL).resetReg .REC_CUR_SEQ).resetReg .REC_CUR_STAT

theorem State.resetBlocks_regless (l : List Block) (s : State) :
    (l.foldl (fun (s : State) (b : Block) => s.resetBlock b (warmKept b)) s).regless = s.regless := by
  induction l generalizing s with
  | nil => rfl
  | cons b l ih => exact (ih _).trans rfl

theorem State.warmRegs_regless (s : State) : s.warmRegs.regless = s.coreless.regless := by
  have hfold := State.resetBlocks_regless (Block.all.filter fun b => !(keptBlock b)) s.coreOff
  unfold State.warmRegs
  generalize List.foldl _ s.coreOff _ = u at hfold ⊢
  exact (hfold.trans s.coreOff_onlyRegs.2 : _)

theorem State.reg_warmRegs (s : State) {r : Reg} {b : Block} (hr : r ∈ b.regs) (hb : b ∈ Block.all.filter fun b => !(keptBlock b))
    (hk : r ∉ warmKept b) (i : Nat) : s.warmRegs.reg r i = r.reset i := by
  have hfold : ∀ i, ((Block.all.filter fun b => !(keptBlock b)).foldl (fun (s : State) (b : Block) => s.resetBlock b (warmKept b))
      s.coreOff).reg r i = r.reset i :=
    foldl_of_mem (fun u : State => ∀ i, u.reg r i = r.reset i) _ (fun u c hu => State.reg_resetBlock_kept hu c (warmKept c))
      (fun u => u.reg_resetBlock_of_mem hr hk) _ s.coreOff hb
  exact State.reg_resetReg_kept (State.reg_resetReg_kept (State.reg_resetReg_kept hfold _) _) _ i

/-- What the warm restart leaves of the memories, keys and commands. -/
def State.warmCleared (s : State) : State :=
  { s.warmRegs with
    parts := State.reset.parts, rings := State.reset.rings, cmds := [], mem := [], memPoison := [], pages := [], convs := [], keys := []
    zfills := [], memPatrol := [], rowCe := [], rowCopies := [], loansOut := [], offers := [], asks := []
    fab := { cables := s.fab.cables, dupId := s.fab.dupId }, wins := [], afSeen := [], pwr := {}, mapDue := false, qps := [], ports := [{}, {}], kslots := []
    conf := {}, sessions := [], beats := [], mgmt := {}, owed := [], sec := { tempKey := s.sec.tempKey }, ps := {}, i3c := {}
    boot := { s.boot with fromOff := false, scanned := false, waited := false, lost := false, trained := false } }

theorem State.recap_onlyLogs (s : State) : OnlyLogs [.PWR_CAP_EFF, .PWR_CAUSE] s s.recap := by
  unfold State.recap
  extract_lets old c s1
  clear_value old c
  have h1 : OnlyLogs [.PWR_CAP_EFF, .PWR_CAUSE] s s1 := ((OnlyLogs.refl _ s).wr _ _ _ (by decide)).wr _ _ _ (by decide)
  split
  · exact h1
  · exact h1.raise _ _ _ _ _ (by decide)

theorem State.setVperi_frame (s : State) (on : Bool) : Frame State.fanless [.CIO_STAT, .CIO_PWM_STAT] s (s.setVperi on) :=
  .ite (Frame.refl _ _ s) (((Frame.refl _ _ s).wr (fun _ => rfl) _ _ _ (by decide)).foldl _ fun v c => (v.pwmEval_frame c).mono (by decide))

theorem State.restartEngine_frame (s : State) : Frame State.fanless [] s s.restartEngine :=
  (Frame.refl _ _ s).foldl _ fun v _ => (Frame.refl _ _ v).other rfl rfl

/-- Where the warm restart goes on: the type of reset, step 2, the tray's mode hold. -/
def State.warmStep (s : State) (last : Nat) : State :=
  ((s.warmCleared.wr F.SYS_RESET_LAST 0 last).wr F.CFG_STAT_STEP 0 2).wr F.CFG_TRAY_MODE 0 0

/-- The registers that the cap and VPERI write after it. -/
def warmLateRegs : List Reg := [.PWR_CAP_EFF, .PWR_CAUSE, .CIO_STAT, .CIO_PWM_STAT] ++ recRegs

theorem Frame.of_onlyLogs {k : State → State} {rs : List Reg} {s t : State} (hk : ∀ v : State, k v.logless = k v) (h : OnlyLogs rs s t) :
    Frame k (rs ++ recRegs) s t := ⟨h.1, by rw [← hk t, h.2, hk]⟩

theorem State.warmRestart_frame (s : State) (last : Nat) :
    Frame State.fanlogless warmLateRegs (s.warmStep last) (s.warmRestart last) := by
  have hcap : ∀ u : State, Frame State.fanlogless warmLateRegs u u.recap := fun u =>
    (Frame.of_onlyLogs (fun _ => rfl) u.recap_onlyLogs).mono (by decide)
  have hfan : ∀ {qs : List Reg} {u v : State}, qs ⊆ warmLateRegs → Frame State.fanless qs u v → Frame State.fanlogless warmLateRegs u v :=
    fun hsub h => Frame.forget (k := State.fanless) (fun _ => rfl) (h.mono hsub)
  have hexec : s.warmRestart last = if (s.psState ≠ psFreewheel && !(s.psState = psWaking && s.psTgt = psStandby)) = true then
      (s.warmStep last).recap else ((s.warmStep last).recap.setVperi true).restartEngine := rfl
  rw [hexec]
  exact .ite (hcap _) (((hcap _).trans (hfan (by decide) (State.setVperi_frame _ _))).trans (hfan (by decide) (State.restartEngine_frame _)))

theorem State.warmStep_effect (s : State) : (s.warmStep 1).rd F.SYS_RESET_LAST = 1 ∧ (s.warmStep 1).rd F.CFG_STAT_STEP = 2 := by
  unfold State.warmStep
  generalize s.warmCleared = c
  constructor
  · rw [State.rd_wr_ne _ _ _ _ _ _ (.inl (by decide)), State.rd_wr_ne _ _ _ _ _ _ (.inl (by decide))]
    exact State.rd_wr_same _ _ _ _ (by decide)
  · rw [State.rd_wr_ne _ _ _ _ _ _ (.inl (by decide))]
    exact State.rd_wr_same _ _ _ _ (by decide)

theorem State.warmCleared_effect (s : State) : s.warmCleared.pwr.vcore = false ∧ s.warmCleared.store = [] ∧ s.warmCleared.mem = [] ∧
    s.warmCleared.keys = [] ∧ s.warmCleared.kslots = [] ∧ s.warmCleared.cmds = [] ∧ (∀ n, s.warmCleared.pstate n = 0) ∧
    s.warmCleared.nv = s.nv := by
  have hregless := s.warmRegs_regless
  have hword : ∀ n, s.warmRegs.reg .ETH_PART_STATE n = Reg.reset .ETH_PART_STATE n := fun n =>
    s.reg_warmRegs (b := .ETH) (by decide) (by decide) (by decide) n
  unfold State.warmCleared
  generalize s.warmRegs = w at hregless hword
  refine ⟨rfl, (congrArg State.store hregless :), rfl, rfl, rfl, rfl, fun n => ?_, (congrArg State.nv hregless :)⟩
  have hreset : fieldOf (Reg.resetBase .ETH_PART_STATE) F.ETH_PART_STATE_STATE = 0 := by decide
  have hzero : w.rd F.ETH_PART_STATE_STATE n = 0 :=
    (congrArg (fun x : Word => fieldOf x F.ETH_PART_STATE_STATE) (hword n) :).trans hreset
  exact (State.rd_congr_regs rfl _ _).trans hzero

/-- After RESET_N: step 2, nothing in memory, no key, no command, every partition FREE, the configuration memory as it was. -/
theorem execResetN_effect {s : State} (hon : s.boot.off = false) :
    ∃ t, execResetN s = .next t ∧ t.rd F.SYS_RESET_LAST = 1 ∧ t.rd F.CFG_STAT_STEP = 2 ∧ t.pwr.vcore = false ∧
      t.store = [] ∧ t.mem = [] ∧ t.keys = [] ∧ t.kslots = [] ∧ t.cmds = [] ∧ (∀ n < 16, t.pstate n = 0) ∧ t.nv = s.nv := by
  have hexec : execResetN s = .next (s.warmRestart 1) := if_neg (by simp [hon])
  have hframe := s.warmRestart_frame 1
  have hregs : OnlyRegs [.SYS_RESET, .CFG_STAT, .CFG_TRAY] s.warmCleared (s.warmStep 1) :=
    (((OnlyRegs.refl _ _).wr _ _ _ (by decide)).wr _ _ _ (by decide)).wr _ _ _ (by decide)
  obtain ⟨hlast, hstep⟩ := s.warmStep_effect
  obtain ⟨hcore, hstore, hmem, hkeys, hslots, hcmds, hfree, hnv⟩ := s.warmCleared_effect
  have hkept : (s.warmRestart 1).fanlogless = s.warmCleared.fanlogless :=
    hframe.2.trans (Frame.of_onlyRegs (k := State.fanlogless) (fun _ => rfl) hregs).2
  have hparts : ∀ n, (s.warmRestart 1).pstate n = s.warmCleared.pstate n := fun n =>
    (hframe.rd F.ETH_PART_STATE_STATE (by decide) n).trans (hregs.1.rd (by decide) n)
  have hrd := hframe.rd
  generalize s.warmCleared = c at hcore hstore hmem hkeys hslots hcmds hfree hnv hkept hparts
  generalize s.warmRestart 1 = t at hexec hkept hparts hrd
  exact ⟨t, hexec, (hrd _ (by decide) 0).trans hlast, (hrd _ (by decide) 0).trans hstep,
    (congrArg (fun u : State => u.pwr.vcore) hkept :).trans hcore, (congrArg State.store hkept :).trans hstore,
    (congrArg State.mem hkept :).trans hmem, (congrArg State.keys hkept :).trans hkeys, (congrArg State.kslots hkept :).trans hslots,
    (congrArg State.cmds hkept :).trans hcmds, fun n _ => (hparts n).trans (hfree n), (congrArg State.nv hkept :).trans hnv⟩

/-! ### The permit at step 7 -/

theorem execFlowPermitHeld_seven {s : State} (hon : s.permitOn = true) (hflow : s.flowing = true) (hstep : s.rd F.CFG_STAT_STEP = 7)
    (hrole : s.role = 0) (hdry : s.dryOk = true) (hemerg : s.emergOk = true) (hinlet : s.inletOk = true) (hshut : s.boot.shut = none)
    (htrip : s.flag F.PWR_TRIP_TRIPPED = false) :
    ∃ t, execFlowPermitHeld s = .next t ∧ t.rd F.CFG_STAT_STEP = 9 ∧ t.pwr.vcore = true ∧ t.flag F.CFG_STAT_FLOW = true := by
  have hregs : OnlyRegs [.CFG_STAT] s (s.wr F.CFG_STAT_FLOW 0 1) := (OnlyRegs.refl _ s).wr _ _ _ (by decide)
  obtain ⟨hdry1, hemerg1, hinlet1⟩ := State.conditions_congr hregs.1 rfl rfl
  have hseven : (s.wr F.CFG_STAT_FLOW 0 1).rd F.CFG_STAT_STEP = 7 := (State.rd_wr_ne _ _ _ _ _ _ (.inr (by decide))).trans hstep
  have hshown : (s.wr F.CFG_STAT_FLOW 0 1).flag F.CFG_STAT_FLOW = true := State.flag_wr_one _ _ _ (by decide)
  have htrip1 : (s.wr F.CFG_STAT_FLOW 0 1).flag F.PWR_TRIP_TRIPPED = false := (hregs.1.flag (by decide) 0).trans htrip
  have hrole1 : (s.wr F.CFG_STAT_FLOW 0 1).role = 0 := (hregs.1.rd (by decide) 0).trans hrole
  have hpermit : (s.wr F.CFG_STAT_FLOW 0 1).permit = true := by
    simp [State.permit, State.permitBut, State.permitOn, hdry1, hemerg1, hinlet1, hdry, hemerg, hinlet, hseven, hshown, htrip1, hshut]
  obtain ⟨hnine, -, hcore, hkept⟩ := State.stepNine_effect hpermit
  refine ⟨_, ?_, hnine, hcore, hkept.trans hshown⟩
  unfold execFlowPermitHeld
  rw [if_pos (by simp [hon, hflow])]
  exact congrArg Host.Outcome.next (if_pos ⟨hseven, hrole1, hpermit⟩)

theorem execPermitWait_seven {s : State} (hstep : s.rd F.CFG_STAT_STEP = 7) (hwait : s.boot.waited = false) :
    ∃ t, execPermitWait s = .next t ∧ t.flag F.CFG_CAUSE_PERMIT_WAIT = true ∧ t.boot.waited = true ∧ t.rd F.CFG_STAT_STEP = 7 := by
  obtain ⟨t, hexec, hflag, hlogs⟩ := execPermitWait_effect (.inl hstep) hwait
  exact ⟨t, hexec, hflag, (congrArg (fun u : State => u.boot.waited) hlogs.2 :), (hlogs.1.rd (by decide) 0).trans hstep⟩

theorem execPermitLost_kept {s : State} (hcore : s.pwr.vcore = true) (hflow : s.flowing = false) (hlost : s.boot.lost = false) :
    ∃ t, execPermitLost s = .next t ∧ t.flag F.CFG_STAT_FLOW = false ∧ t.rd F.CFG_STAT_STEP = s.rd F.CFG_STAT_STEP ∧ t.mem = s.mem := by
  obtain ⟨-, -, -, -, hwithin⟩ :=
    State.protect_quiesceNow (s := s.permitGone) hcore (f := F.CFG_CAUSE_PERMIT_LOST) (by decide) 0 false
  have hclear : s.permitGone.flag F.CFG_STAT_FLOW = false := State.flag_wr_zero s F.CFG_STAT_FLOW 0 (by decide)
  have hstep : s.permitGone.rd F.CFG_STAT_STEP = s.rd F.CFG_STAT_STEP := State.rd_wr_ne s F.CFG_STAT_FLOW _ _ _ _ (.inr (by decide))
  exact ⟨_, execPermitLost_next hcore hflow hlost, (hwithin.regs.flag (by decide) 0).trans hclear,
    (hwithin.regs.rd (by decide) 0).trans hstep, hwithin.mem⟩

theorem execPermitRegain_ten {s : State} (hlost : s.boot.lost = true) (hpermit : s.permit = true) (hstep : s.rd F.CFG_STAT_STEP = 10) :
    ∃ t, execPermitRegain s = .next t ∧ t.pwr.vcore = true ∧ t.boot.lost = false ∧ t.mem = s.mem := by
  have hframe := (s.modBoot fun b => { b with lost := false }).requestCompute_frame.2
  have hten : 9 ≤ (s.modBoot fun b => { b with lost := false }).rd F.CFG_STAT_STEP := by
    rw [show (s.modBoot fun b => { b with lost := false }).rd F.CFG_STAT_STEP = 10 from hstep]; decide
  exact ⟨_, if_pos ⟨hlost, hpermit⟩, (State.pwr_requestCompute (s := s.modBoot fun b => { b with lost := false }) hpermit).2 hten,
    (congrArg (fun u : State => u.boot.lost) hframe :), (congrArg State.mem hframe :)⟩

/-- Settles O37: each step is the registers it writes and the frame of what it runs; the warm restart's blocks read their reset values. -/
theorem powerUpStartStepsAndRestart : Obligations.PowerUpStartStepsAndRestart := by
  unfold Obligations.PowerUpStartStepsAndRestart
  refine ⟨?up, ?upOn, ?down, ?volt, ?back, ?one, ?two, ?three, ?four, ?seven, ?nine, ?reset, ?resetOff, ?held, ?wait, ?lost, ?regain⟩
  case up =>
    intro s hoff hover
    obtain ⟨hon, hstep, hnv, hspares, hcore, hstore, hmem, hrecs⟩ := s.powerUp_effect
    exact ⟨_, if_pos ⟨hoff, hover⟩, hon, hstep, hnv, hspares, hcore, hstore, hmem, hrecs⟩
  case upOn => exact fun s hon => if_neg (by simp [hon])
  case down => exact fun s => ⟨_, rfl, rfl, rfl, rfl, rfl, rfl⟩
  case volt => exact fun s => ⟨_, rfl, rfl, rfl, rfl, rfl, rfl⟩
  case back =>
    intro s hoff hover
    obtain ⟨hon, hstep, hnv, -⟩ := s.powerUp_effect
    exact ⟨_, if_pos ⟨hoff, hover⟩, hon, hstep, hnv⟩
  case one => exact fun d s hon hstep => execStartupStepComplete_clock d hon hstep
  case two => exact fun d s hon hstep => execStartupStepComplete_second d hon hstep
  case three => exact fun l s hon hwarm hstep hnone hlen => execStartupStepComplete_unidentified hon hwarm hstep hnone hlen
  case four => exact fun l s hon hstep hdense => execStartupStepComplete_scan l hon hstep hdense
  case seven => exact fun d s hon hstep hrole hpermit => execStartupStepComplete_seven d hon hstep hrole hpermit
  case nine => exact fun d s hon hstep htrained hidle htested => execStartupStepComplete_nine d hon hstep htrained hidle htested
  case reset => exact fun s hon => execResetN_effect hon
  case resetOff => exact fun s hoff => if_pos hoff
  case held =>
    exact fun s hon hflow hstep hrole hdry hemerg hinlet hshut htrip =>
      execFlowPermitHeld_seven hon hflow hstep hrole hdry hemerg hinlet hshut htrip
  case wait => exact fun s hstep hwait => execPermitWait_seven hstep hwait
  case lost => exact fun s hcore hflow hlost => execPermitLost_kept hcore hflow hlost
  case regain => exact fun s hlost hpermit _ hstep => execPermitRegain_ten hlost hpermit hstep

end Sys2Proof.Machine
end

section
/-! PROOFS.  The layer of the row and the Clarn bus: channels, the gate and what it holds back, the interlock, health (R346 to R356, R379). -/

namespace Sys2Proof.Machine

/-! ### What a frame forgets -/

/-- The channels, with the recorder. -/
def State.buslogless (s : State) : State := { s with regs := [], evr := {}, irqPulse := false, clarn := {} }

/-- The row's bookkeeping, with the recorder. -/
def State.rowlogless (s : State) : State := { s with regs := [], evr := {}, irqPulse := false, row := {} }

/-- Both, with the recorder. -/
def State.rowbuslogless (s : State) : State := { s with regs := [], evr := {}, irqPulse := false, row := {}, clarn := {} }

/-- Both and the free values, with the recorder. -/
def State.rowbusfreelogless (s : State) : State :=
  { s with regs := [], evr := {}, irqPulse := false, row := {}, clarn := {}, free := 0 }

section Forms
variable {rs : List Reg} {s t : State}

theorem Frame.onlyLogs_bus (h : Frame State.buslogless (rs ++ recRegs) s t) : OnlyLogs rs { s with clarn := t.clarn } t :=
  ⟨h.1, congrArg (fun u : State => { u with clarn := t.clarn }) h.2⟩

theorem Frame.onlyLogs_row (h : Frame State.rowlogless (rs ++ recRegs) s t) : OnlyLogs rs { s with row := t.row } t :=
  ⟨h.1, congrArg (fun u : State => { u with row := t.row }) h.2⟩

theorem Frame.onlyLogs_rowBus (h : Frame State.rowbuslogless (rs ++ recRegs) s t) :
    OnlyLogs rs { s with row := t.row, clarn := t.clarn } t :=
  ⟨h.1, congrArg (fun u : State => { u with row := t.row, clarn := t.clarn }) h.2⟩

theorem Frame.onlyLogs_rowBusFree (h : Frame State.rowbusfreelogless (rs ++ recRegs) s t) :
    OnlyLogs rs { s with row := t.row, clarn := t.clarn, free := t.free } t :=
  ⟨h.1, congrArg (fun u : State => { u with row := t.row, clarn := t.clarn, free := t.free }) h.2⟩

theorem Frame.rowBus (h : Frame State.buslogless rs s t) : Frame State.rowbuslogless rs s t :=
  Frame.forget (k := State.buslogless) (fun _ => rfl) h

theorem Frame.rowBusFree (h : Frame State.rowbuslogless rs s t) : Frame State.rowbusfreelogless rs s t :=
  Frame.forget (k := State.rowbuslogless) (fun _ => rfl) h

end Forms

/-! ### Channels -/

theorem getAt_modifyAt_ne {α : Type} (d : α) (l : List α) {n m : Nat} (f : α → α) (h : m ≠ n) : getAt d (modifyAt n f l) m = getAt d l m := by
  simp [getAt, modifyAt_eq_modify, h.symm]

/-- A channel beyond those there are is as it was. -/
theorem getAt_modifyAt_ge {α : Type} (d : α) {l : List α} {n : Nat} (f : α → α) (h : l.length ≤ n) : getAt d (modifyAt n f l) n = d := by
  rw [getAt, List.getElem?_eq_none (by rwa [length_modifyAt])]
  rfl

theorem State.chan_modChan_same {s : State} {c : Nat} (hc : c < s.clarn.ch.length) (f : Chan → Chan) :
    (s.modChan c f).chan c = f (s.chan c) := getAt_modifyAt_same _ f hc

theorem State.chan_modChan_ne (s : State) {c d : Nat} (f : Chan → Chan) (h : d ≠ c) : (s.modChan c f).chan d = s.chan d :=
  getAt_modifyAt_ne _ _ f h

theorem State.chan_of_ge {s : State} {c : Nat} (h : s.clarn.ch.length ≤ c) : s.chan c = {} := by
  rw [State.chan, getAt, List.getElem?_eq_none h]; rfl

theorem State.chan_congr {s t : State} (h : t.clarn = s.clarn) (c : Nat) : t.chan c = s.chan c := by rw [State.chan, State.chan, h]

theorem State.length_ch_modChan (s : State) (c : Nat) (f : Chan → Chan) : (s.modChan c f).clarn.ch.length = s.clarn.ch.length :=
  length_modifyAt _ _ _

/-- A change that keeps a property of every channel's pending frames, the empty list among them. -/
theorem State.pend_modChan {P : List Tx → Prop} {s : State} {c : Nat} {f : Chan → Chan} (hf : P (f (s.chan c)).pend) (hnil : P []) :
    P ((s.modChan c f).chan c).pend := by
  rcases Nat.lt_or_ge c s.clarn.ch.length with hc | hc
  · rw [State.chan_modChan_same hc]; exact hf
  · have : (s.modChan c f).chan c = {} := State.chan_of_ge (by rwa [State.length_ch_modChan])
    rw [this]; exact hnil

/-! ### Frames held back (R347) -/

theorem Frame.count {k : State → State} {rs : List Reg} {s t : State} (hk : ∀ v : State, k v.regless = k v) (h : Frame k rs s t) (f : Fld)
    (i : Nat) (hf : f.reg ∈ rs) : Frame k rs s (t.count f i) := h.wr hk f i _ hf

/-- The registers a held-back frame writes. -/
def gatedRegs : List Reg := [.ROW_GATED_CNT, .ROW_CAUSE] ++ recRegs

theorem State.holdBack_frame (s : State) : Frame State.logless gatedRegs s s.holdBack :=
  ((Frame.refl State.logless gatedRegs s).count (fun _ => rfl) _ _ (by decide)).raise (fun _ => rfl) _ _ _ _ _ (by decide) (by decide)

theorem State.clarn_of_logless {s t : State} (h : t.logless = s.logless) : t.clarn = s.clarn := (congrArg State.clarn h :)

theorem State.row_of_logless {s t : State} (h : t.logless = s.logless) : t.row = s.row := (congrArg State.row h :)

/-- The gated frames of a channel are held back. -/
def State.dropGated (s : State) (c : Nat) : State :=
  (List.range ((s.chan c).pend.filter fun t => gatedClass (idClass t.id)).length).foldl (fun (s : State) (_ : Nat) => s.holdBack)
    (s.modChan c fun h => { h with pend := h.pend.filter fun t => !(gatedClass (idClass t.id)) })

theorem State.dropGated_after (s : State) (c : Nat) :
    Frame State.logless gatedRegs (s.modChan c fun h => { h with pend := h.pend.filter fun t => !(gatedClass (idClass t.id)) }) (s.dropGated c) :=
  (Frame.refl _ _ _).foldl _ fun v _ => v.holdBack_frame

theorem State.dropGated_frame (s : State) (c : Nat) : Frame State.buslogless gatedRegs s (s.dropGated c) := by
  have hmod : Frame State.buslogless gatedRegs s
      (s.modChan c fun h => { h with pend := h.pend.filter fun t => !(gatedClass (idClass t.id)) }) := (Frame.refl _ _ s).other rfl rfl
  exact hmod.trans (Frame.forget (k := State.logless) (fun _ => rfl) (s.dropGated_after c))

/-- Whether none of a channel's pending frames is of a gated class. -/
def State.ungated (s : State) (c : Nat) : Prop := ∀ x ∈ (s.chan c).pend, gatedClass (idClass x.id) = false

theorem State.ungated_dropGated (s : State) (c : Nat) : (s.dropGated c).ungated c := by
  have hchan := State.chan_congr (State.clarn_of_logless (s.dropGated_after c).2) c
  unfold State.ungated
  rw [hchan]
  refine State.pend_modChan (P := fun l => ∀ x ∈ l, gatedClass (idClass x.id) = false) (fun x hx => ?_) (fun x hx => absurd hx List.not_mem_nil)
  simpa using (List.mem_filter.1 hx).2

theorem State.ungated_dropGated_of {s : State} {c : Nat} (d : Nat) (h : s.ungated c) : (s.dropGated d).ungated c := by
  by_cases hcd : c = d
  · rw [hcd]; exact s.ungated_dropGated d
  · have hchan := State.chan_congr (State.clarn_of_logless (s.dropGated_after d).2) c
    unfold State.ungated
    rw [hchan, State.chan_modChan_ne _ _ hcd]
    exact h

/-! ### The gate (R347) -/

/-- GATE shows the gate. -/
def State.gateShown (s : State) : State := s.wr F.ROW_STAT_GATE 0 (if s.gateOpen then 1 else 0)

theorem State.gateCheck_eq (s : State) :
    s.gateCheck = if s.gateOpen then s.gateShown else (List.range 2).foldl (fun (s : State) (c : Nat) => s.dropGated c) s.gateShown := rfl

theorem State.gateCheck_after (s : State) : Frame State.buslogless gatedRegs s.gateShown s.gateCheck := by
  rw [State.gateCheck_eq]
  exact .ite (Frame.refl _ _ _) ((Frame.refl _ _ _).foldl _ fun v c => v.dropGated_frame c)

theorem State.gateCheck_of_open {s : State} (h : s.gateOpen = true) : s.gateCheck = s.gateShown := by rw [State.gateCheck_eq, if_pos h]

theorem State.ungated_gateCheck {s : State} (h : s.gateOpen = false) {c : Nat} (hc : c < 2) : s.gateCheck.ungated c := by
  rw [State.gateCheck_eq, if_neg (by simp [h])]
  exact foldl_of_mem (fun t : State => t.ungated c) _ (fun t d ht => State.ungated_dropGated_of d ht) (fun t => t.ungated_dropGated c) _ _
    (List.mem_range.2 hc)

theorem State.flag_gateCheck (s : State) : s.gateCheck.flag F.ROW_STAT_GATE = s.gateOpen := by
  have hshown : s.gateShown.flag F.ROW_STAT_GATE = s.gateOpen := by
    rw [State.gateShown, State.flag_wr_same _ _ _ _ (by decide)]
    cases s.gateOpen <;> rfl
  exact (s.gateCheck_after.flag _ (by decide) 0).trans hshown

/-- A field of ROW_STAT that is not GATE. -/
def statBeside (f : Fld) : Prop := f.reg = .ROW_STAT ∧ (f.hi < F.ROW_STAT_GATE.lo ∨ F.ROW_STAT_GATE.hi < f.lo)

theorem State.rd_gateCheck (s : State) {f : Fld} (hf : statBeside f) : s.gateCheck.rd f = s.rd f := by
  obtain ⟨hreg, hsep⟩ := hf
  have hshown : s.gateShown.rd f = s.rd f := State.rd_wr_ne _ _ _ _ _ _ (.inr ⟨by decide, hsep⟩)
  exact (s.gateCheck_after.rd f (by rw [hreg]; decide) 0).trans hshown

theorem State.gateCheck_frame (s : State) : Frame State.buslogless (.ROW_STAT :: gatedRegs) s s.gateCheck :=
  ((Frame.refl _ _ s).wr (fun _ => rfl) F.ROW_STAT_GATE 0 _ List.mem_cons_self).trans (s.gateCheck_after.mono (List.subset_cons_self _ _))

theorem State.row_of_buslogless {s t : State} (h : t.buslogless = s.buslogless) : t.row = s.row := (congrArg State.row h :)

/-! ### The own line (R346, R353) -/

/-- The state and the own line, before the gate follows. -/
def State.rowSet (s : State) (st : Nat) (low : Bool) : State := (s.wr F.ROW_STAT_STATE 0 st).wr F.ROW_STAT_ILK_OWN 0 (if low then 1 else 0)

theorem State.rowGo_eq (s : State) (st : Nat) (low : Bool) : s.rowGo st low = (s.rowSet st low).gateCheck := rfl

theorem State.rowSet_onlyRegs (s : State) (st : Nat) (low : Bool) : OnlyRegs [.ROW_STAT] s (s.rowSet st low) :=
  ((OnlyRegs.refl _ s).wr _ _ _ (by decide)).wr _ _ _ (by decide)

theorem State.rowSet_effect (s : State) {st : Nat} (hst : st < 8) (low : Bool) :
    (s.rowSet st low).rowState = st ∧ (s.rowSet st low).flag F.ROW_STAT_ILK_OWN = low ∧ (s.rowSet st low).peerLow = s.peerLow := by
  refine ⟨?_, ?_, ?_⟩
  · exact (State.rd_wr_ne _ _ _ _ _ _ (.inr (by decide))).trans ((State.rd_wr_same _ _ _ _ (by decide)).trans (Nat.mod_eq_of_lt hst))
  · rw [State.rowSet, State.flag_wr_same _ _ _ _ (by decide)]; cases low <;> rfl
  · exact (State.flag_wr_ne _ _ _ _ _ _ (.inr (by decide))).trans (State.flag_wr_ne _ _ _ _ _ _ (.inr (by decide)))

theorem State.gateOpen_rowSet (s : State) {st : Nat} (hst : st < 8) (low : Bool) :
    (s.rowSet st low).gateOpen = (decide (st = 3) && low && !s.peerLow) := by
  obtain ⟨hstate, hown, hpeer⟩ := s.rowSet_effect hst low
  have hstate' : (s.rowSet st low).rd F.ROW_STAT_STATE = st := hstate
  have hpeer' : (s.rowSet st low).flag F.ROW_STAT_ILK_PEER = s.peerLow := hpeer
  rw [State.gateOpen, hstate', hown, hpeer']

theorem State.rowGo_frame (s : State) (st : Nat) (low : Bool) : Frame State.buslogless (.ROW_STAT :: gatedRegs) s (s.rowGo st low) :=
  ((Frame.of_onlyRegs (fun _ => rfl) (s.rowSet_onlyRegs st low)).mono (by decide)).trans (State.gateCheck_frame _)

/-- A state taken with the own line: both, and the gate that follows. -/
theorem State.rowGo_effect (s : State) {st : Nat} (hst : st < 8) (low : Bool) :
    (s.rowGo st low).rowState = st ∧ (s.rowGo st low).flag F.ROW_STAT_ILK_OWN = low ∧
    (s.rowGo st low).flag F.ROW_STAT_GATE = (decide (st = 3) && low && !s.peerLow) := by
  obtain ⟨hstate, hown, -⟩ := s.rowSet_effect hst low
  rw [State.rowGo_eq]
  exact ⟨(State.rd_gateCheck _ (by unfold statBeside; decide)).trans hstate,
    by rw [State.flag, State.rd_gateCheck _ (by unfold statBeside; decide)]; exact hown, (State.flag_gateCheck _).trans (s.gateOpen_rowSet hst low)⟩

/-- Fields of ROW_STAT beside the state, the own line and GATE stay. -/
theorem State.flag_rowGo (s : State) (st : Nat) (low : Bool) {f : Fld} (hf : statBeside f)
    (hst : f.hi < F.ROW_STAT_STATE.lo ∨ F.ROW_STAT_STATE.hi < f.lo) (hown : f.hi < F.ROW_STAT_ILK_OWN.lo ∨ F.ROW_STAT_ILK_OWN.hi < f.lo) :
    (s.rowGo st low).flag f = s.flag f := by
  rw [State.rowGo_eq, State.flag, State.rd_gateCheck _ hf]
  exact (State.flag_wr_ne _ _ _ _ _ _ (.inr ⟨by decide, hown⟩)).trans (State.flag_wr_ne _ _ _ _ _ _ (.inr ⟨by decide, hst⟩))

/-! ### Health (R355) -/

/-- Nothing has changed but the row's bookkeeping. -/
def OnlyRow (s t : State) : Prop := t = { s with row := t.row }

theorem State.healthCheck_onlyRow (s : State) : OnlyRow s s.healthCheck := by
  unfold State.healthCheck
  split
  · split <;> rfl
  · rfl

theorem OnlyRow.regs {s t : State} (h : OnlyRow s t) : t.regs = s.regs := (congrArg State.regs h :)

theorem OnlyRow.onlyRegs {s t : State} (h : OnlyRow s t) (rs : List Reg) : OnlyRegs rs { s with row := t.row } t :=
  ⟨fun r i _ => State.reg_congr_regs (show t.regs = ({ s with row := t.row } : State).regs from h.regs) r i, congrArg State.regless h⟩

/-- What health follows of the row's bookkeeping is whether it goes on. -/
theorem State.row_healthCheck (s : State) : ∃ a w, s.healthCheck.row = { s.row with okAt := a, well := w } := by
  unfold State.healthCheck
  split
  · split
    · exact ⟨_, _, rfl⟩
    · exact ⟨_, _, rfl⟩
  · exact ⟨_, _, rfl⟩

theorem State.healthCheck_frame (rs : List Reg) (s : State) : Frame State.rowlogless rs s s.healthCheck :=
  (Frame.refl _ _ s).other s.healthCheck_onlyRow.regs ((congrArg State.rowlogless s.healthCheck_onlyRow :).trans rfl)

end Sys2Proof.Machine
end

section
/-! PROOFS.  Control of the row: acquired, held, released and handed over (R346 to R356). -/

namespace Sys2Proof.Machine

/-- The registers of the interlock, beside the recorder's. -/
def lineRegs : List Reg := [.ROW_STAT, .ROW_GATED_CNT, .ROW_CAUSE]

/-! ### Holding (R348, R352, R353) -/

/-- What taking control may change beside registers is forgotten: the row's bookkeeping, the channels, the slots. -/
def State.holdless (s : State) : State := { s with regs := [], row := {}, clarn := {}, cle := {} }

theorem Frame.onlyRegs_hold {rs : List Reg} {s t : State} (h : Frame State.holdless rs s t) :
    OnlyRegs rs { s with row := t.row, clarn := t.clarn, cle := t.cle } t :=
  ⟨h.1, congrArg (fun u : State => { u with row := t.row, clarn := t.clarn, cle := t.cle }) h.2⟩

theorem Frame.modRow {rs : List Reg} {s t : State} (h : Frame State.holdless rs s t) (f : Row → Row) : Frame State.holdless rs s (t.modRow f) :=
  h.other rfl rfl

theorem Frame.modSlot {rs : List Reg} {s t : State} (h : Frame State.holdless rs s t) (k : Nat) (f : Slot → Slot) :
    Frame State.holdless rs s (t.modSlot k f) := h.other rfl rfl

theorem Frame.setAct {rs : List Reg} {s t : State} (h : Frame State.holdless rs s t) (d : Nat) (v : Rat) :
    Frame State.holdless rs s (t.setAct d v) := h.other rfl rfl

theorem Frame.holdWr {rs : List Reg} {s t : State} (h : Frame State.holdless rs s t) (f : Fld) (i v : Nat) (hf : f.reg ∈ rs) :
    Frame State.holdless rs s (t.wr f i v) := h.wr (fun _ => rfl) f i v hf

/-- The bookkeeping of a hold that begins. -/
def State.holdBegun (s : State) : State :=
  s.modRow fun r => { r with releasing := false, okAt := none, well := false, kick := decide (s.rd F.CFG_STAT_STEP = 8) }

/-- The row slots start afresh. -/
def State.slotsStarted (s : State) : State :=
  s.rowSlots.foldl (fun (s : State) (k : Nat) => s.modSlot k fun x => { x with start := true }) s

/-- Neither the cap table nor the mirror set is under way. -/
def State.partsFresh (s : State) : State := { s with clarn := { s.clarn with prevRef := none, capPart := 0, mirPart := 0 } }

/-- The mirror set that is held is loaded; without one the row slots and the pumps start afresh. -/
def State.holdLoaded (s : State) : State :=
  match s.row.mirror with
  | some m => if 28 * s.rowSlots.length + 196 ≤ m.image.length then (s.loadMirror m.image).modRow fun r => { r with outSeq := m.seq }
      else s.startPumps
  | none => s.slotsStarted.startPumps

theorem State.enterHold_eq (s : State) : s.enterHold = s.holdBegun.holdLoaded.partsFresh.rowGo rwHold true := rfl

theorem State.holdLoaded_fresh {s : State} (h : s.row.mirror = none) : s.holdLoaded = s.slotsStarted.startPumps := by
  unfold State.holdLoaded; rw [h]

theorem State.holdLoaded_mirror {s : State} {m : MirrorSet} (h : s.row.mirror = some m)
    (hlen : 28 * s.rowSlots.length + 196 ≤ m.image.length) :
    s.holdLoaded = (s.loadMirror m.image).modRow fun r => { r with outSeq := m.seq } := by
  unfold State.holdLoaded; rw [h]; exact if_pos hlen

theorem State.fillDuty_onlyRegs (s : State) : OnlyRegs [.ROW_PUMP] s s.fillDuty :=
  (OnlyRegs.refl _ s).foldl _ fun _ _ hv => .ite (hv.wr _ _ _ (by decide)) hv

theorem State.startPumps_frame (s : State) : Frame State.holdless [.ROW_PUMP] s s.startPumps := by
  have hset : Frame State.holdless [.ROW_PUMP] s
      ((List.range 4).foldl (fun (s : State) (k : Nat) => s.wr F.ROW_PUMP_STATE k (if s.flag F.ROW_PUMP_FITTED k then puSpare else puOff)) s) :=
    (Frame.refl _ _ s).foldl _ fun v k => (Frame.refl _ _ v).holdWr _ _ _ (by decide)
  exact (hset.trans (Frame.of_onlyRegs (fun _ => rfl) (State.fillDuty_onlyRegs _))).modRow _

theorem State.slotsStarted_frame (s : State) : Frame State.holdless [.ROW_PUMP] s s.slotsStarted :=
  (Frame.refl _ _ s).foldl _ fun v _ => (Frame.refl _ _ v).modSlot _ _

theorem State.slot_modSlot (s : State) (j k : Nat) (f : Slot → Slot) : (s.modSlot j f).slot k = if k = j then f (s.slot j) else s.slot k :=
  Assoc.get_put _ _ _ _ _

/-- A row slot is to start. -/
theorem State.start_slotsStarted {s : State} {k : Nat} (hk : k ∈ s.rowSlots) : (s.slotsStarted.slot k).start = true := by
  refine foldl_of_mem (fun t : State => (t.slot k).start = true) _ (fun t j ht => ?_) (fun t => ?_) _ s hk
  · rw [State.slot_modSlot]
    split
    · rfl
    · exact ht
  · rw [State.slot_modSlot, if_pos rfl]

theorem State.mem_rowSlots {s : State} {k : Nat} (hk : k < 32) (hbit : (s.reg .ROW_SLOTS 0).getLsbD k = true) : k ∈ s.rowSlots :=
  List.mem_filter.2 ⟨List.mem_range.2 hk, hbit⟩

/-- With the peer's line high HOLD opens the gate. -/
theorem State.rowGo_hold {s : State} (hpeer : s.peerLow = false) :
    (s.rowGo rwHold true).rowState = 3 ∧ (s.rowGo rwHold true).flag F.ROW_STAT_ILK_OWN = true ∧
    (s.rowGo rwHold true).flag F.ROW_STAT_GATE = true ∧ OnlyRegs [.ROW_STAT] s (s.rowGo rwHold true) := by
  obtain ⟨hstate, hown, hgate⟩ := s.rowGo_effect (st := rwHold) (by decide) true
  have hopen : (s.rowSet rwHold true).gateOpen = true := by rw [State.gateOpen_rowSet _ (by decide), hpeer]; rfl
  refine ⟨hstate, hown, by rw [hgate, hpeer]; rfl, ?_⟩
  rw [State.rowGo_eq, State.gateCheck_of_open hopen]
  exact (s.rowSet_onlyRegs rwHold true).wr _ _ _ (by decide)

theorem State.peerLow_congr {rs : List Reg} {s t : State} (h : SameRegs rs s t) (hr : .ROW_STAT ∉ rs) : t.peerLow = s.peerLow :=
  State.flag_congr (h _ 0 hr)

theorem State.holdBegun_frame (rs : List Reg) (s : State) : Frame State.holdless rs s s.holdBegun := (Frame.refl _ _ s).modRow _

theorem State.partsFresh_frame (rs : List Reg) (s : State) : Frame State.holdless rs s s.partsFresh := (Frame.refl _ _ s).other rfl rfl

/-- The pumps leave the slots as they are. -/
theorem State.cle_startPumps (s : State) : s.startPumps.cle = s.cle := by
  have hset : ∀ (l : List Nat) (u : State), (l.foldl (fun (s : State) (k : Nat) =>
      s.wr F.ROW_PUMP_STATE k (if s.flag F.ROW_PUMP_FITTED k then puSpare else puOff)) u).cle = u.cle := fun l u =>
    List.foldlRecOn l _ (motive := fun v : State => v.cle = u.cle) rfl fun v hv k _ => hv
  unfold State.startPumps
  exact (congrArg State.cle (State.fillDuty_onlyRegs _).2 : _).trans (hset _ s)

/-- Without a mirror set every row slot is to start. -/
theorem State.holdLoaded_starts {s : State} (h : s.row.mirror = none) : Frame State.holdless [.ROW_PUMP] s s.holdLoaded ∧
    ∀ k, k < 32 → (s.reg .ROW_SLOTS 0).getLsbD k = true → (s.holdLoaded.slot k).start = true := by
  rw [State.holdLoaded_fresh h]
  refine ⟨s.slotsStarted_frame.trans (State.startPumps_frame _), fun k hk hbit => ?_⟩
  rw [State.slot, State.cle_startPumps]
  exact State.start_slotsStarted (State.mem_rowSlots hk hbit)

/-- Once it is loaded HOLD opens the gate. -/
theorem execAcquireTimeout_next {s : State} (hstate : s.rowState = 2) (hpeer : s.peerLow = false) {qs : List Reg}
    (hload : Frame State.holdless qs s.holdBegun s.holdBegun.holdLoaded) (hqs : .ROW_STAT ∉ qs) :
    ∃ t, execAcquireTimeout s = .next t ∧ t.rowState = 3 ∧ t.flag F.ROW_STAT_ILK_OWN = true ∧ t.flag F.ROW_STAT_GATE = true ∧
      OnlyRegs [.ROW_STAT] s.holdBegun.holdLoaded.partsFresh t ∧
      OnlyRegs (.ROW_STAT :: qs) { s with row := t.row, clarn := t.clarn, cle := t.cle } t := by
  have hexec : execAcquireTimeout s = .next (s.holdBegun.holdLoaded.partsFresh.rowGo rwHold true) :=
    (if_pos ⟨hstate, hpeer⟩).trans (congrArg Host.Outcome.next s.enterHold_eq)
  have hprep : Frame State.holdless qs s s.holdBegun.holdLoaded.partsFresh :=
    ((s.holdBegun_frame qs).trans hload).trans (State.partsFresh_frame qs _)
  generalize s.holdBegun.holdLoaded.partsFresh = p at hexec hprep ⊢
  obtain ⟨hhold, hown, hgate, hregs⟩ := State.rowGo_hold ((State.peerLow_congr hprep.1 hqs).trans hpeer)
  exact ⟨_, hexec, hhold, hown, hgate, hregs, ((hprep.mono (List.subset_cons_self _ _)).trans
    ((Frame.of_onlyRegs (fun _ => rfl) hregs).mono (List.cons_subset_cons _ (List.nil_subset _)))).onlyRegs_hold⟩

theorem execAcquireTimeout_fresh {s : State} (hstate : s.rowState = 2) (hpeer : s.peerLow = false) (hmirror : s.row.mirror = none) :
    ∃ t, execAcquireTimeout s = .next t ∧ t.rowState = 3 ∧ t.flag F.ROW_STAT_ILK_OWN = true ∧ t.flag F.ROW_STAT_GATE = true ∧
      (∀ k, k < 32 → (s.reg .ROW_SLOTS 0).getLsbD k = true → (t.slot k).start = true) ∧
      OnlyRegs [.ROW_STAT, .ROW_PUMP] { s with row := t.row, clarn := t.clarn, cle := t.cle } t := by
  obtain ⟨hload, hstart⟩ := State.holdLoaded_starts (s := s.holdBegun) hmirror
  obtain ⟨t, hexec, hhold, hown, hgate, hafter, hregs⟩ := execAcquireTimeout_next hstate hpeer hload (by decide)
  have hcle : t.cle = s.holdBegun.holdLoaded.cle := (congrArg State.cle hafter.2 :)
  refine ⟨t, hexec, hhold, hown, hgate, fun k hk hbit => ?_, hregs⟩
  rw [State.slot, hcle]
  exact hstart k hk hbit

/-! ### A mirror set is loaded -/

/-- The registers a mirror set writes. -/
def mirrorRegs : List Reg := [.ROW_PUMP, .ROW_MEMBER, .ROW_BUDGET, .CLE_SLOT_W_W, .CLE_SLOT_STAT]

theorem State.resumeSlot_frame (s : State) (k : Nat) (l : List Byte) : Frame State.holdless mirrorRegs s (s.resumeSlot k l) := by
  unfold State.resumeSlot
  extract_lets w u s1 s2
  have h1 : Frame State.holdless mirrorRegs s s1 :=
    ((Frame.refl State.holdless mirrorRegs s).setReg (fun _ => rfl) k (w 0) (by decide)).modSlot _ _
  have h2 : Frame State.holdless mirrorRegs s s2 := h1.holdWr _ _ _ (by decide)
  exact .ite (h2.setAct _ _) h2

theorem State.loadMirror_effect (s : State) (l : List Byte) : Frame State.holdless mirrorRegs s (s.loadMirror l) ∧
    (s.loadMirror l).rd F.ROW_BUDGET_TRIM = byteAt l (28 * s.rowSlots.length + 38) % 128 := by
  unfold State.loadMirror
  extract_lets n s1 o s2 trim s3
  have h1 : Frame State.holdless mirrorRegs s s1 := (Frame.refl _ _ s).foldl _ fun v x => v.resumeSlot_frame _ _
  have h2 : Frame State.holdless mirrorRegs s s2 :=
    h1.foldl _ fun v k => ((Frame.refl _ _ v).holdWr _ _ _ (by decide)).holdWr _ _ _ (by decide)
  have h3 : Frame State.holdless mirrorRegs s s3 :=
    h2.foldl _ fun v i => ((Frame.refl _ _ v).holdWr _ _ _ (by decide)).holdWr _ _ _ (by decide)
  have hfill := (s3.wr F.ROW_BUDGET_TRIM 0 trim).fillDuty_onlyRegs
  refine ⟨((h3.holdWr _ _ _ (by decide)).trans ((Frame.of_onlyRegs (fun _ => rfl) hfill).mono (by decide))).modRow _, ?_⟩
  exact (State.rd_congr_regs rfl _ _).trans ((hfill.1.rd (by decide) 0).trans (State.rd_wr_same _ _ _ _ (by decide)))

theorem execAcquireTimeout_mirror {m : MirrorSet} {s : State} (hstate : s.rowState = 2) (hpeer : s.peerLow = false)
    (hmirror : s.row.mirror = some m) (hlen : 28 * s.rowSlots.length + 196 ≤ m.image.length) :
    ∃ t, execAcquireTimeout s = .next t ∧ t.rowState = 3 ∧ t.flag F.ROW_STAT_ILK_OWN = true ∧ t.flag F.ROW_STAT_GATE = true ∧
      t.row.outSeq = m.seq ∧ t.rd F.ROW_BUDGET_TRIM = byteAt m.image (28 * s.rowSlots.length + 38) % 128 ∧
      OnlyRegs [.ROW_STAT, .ROW_PUMP, .ROW_MEMBER, .ROW_BUDGET, .CLE_SLOT_W_W, .CLE_SLOT_STAT]
        { s with row := t.row, clarn := t.clarn, cle := t.cle } t := by
  obtain ⟨hloaded, htrim⟩ := s.holdBegun.loadMirror_effect m.image
  have heq := State.holdLoaded_mirror (s := s.holdBegun) hmirror hlen
  have hload : Frame State.holdless mirrorRegs s.holdBegun s.holdBegun.holdLoaded := heq ▸ hloaded.modRow _
  have hseq : s.holdBegun.holdLoaded.row.outSeq = m.seq := by rw [heq]; rfl
  have hshown : s.holdBegun.holdLoaded.rd F.ROW_BUDGET_TRIM = byteAt m.image (28 * s.rowSlots.length + 38) % 128 := by
    rw [heq]; exact (State.rd_congr_regs rfl _ _).trans htrim
  obtain ⟨t, hexec, hhold, hown, hgate, hafter, hregs⟩ := execAcquireTimeout_next hstate hpeer hload (by decide)
  exact ⟨t, hexec, hhold, hown, hgate, (congrArg (fun u : State => u.row.outSeq) hafter.2 :).trans hseq,
    (hafter.1.rd (by decide) 0).trans ((State.rd_congr_regs rfl _ _).trans hshown), hregs⟩

/-! ### The peer's line (R346, R348) -/

/-- Out of WAIT a released control is not taken. -/
theorem State.relCheck_of_ne {s : State} (h : s.rowState ≠ 1) : s.relCheck = s := by
  unfold State.relCheck
  split
  · exact if_neg fun hc => h hc.1
  · rfl

theorem State.takeOver_of_ne {s : State} (h : s.rowState ≠ 1) : s.takeOver = s := if_neg (by simp [h])

/-- The peer's line reads low, and the gate is shut. -/
def State.lineLow (s : State) : State := (s.wr F.ROW_STAT_ILK_PEER 0 1).gateCheck

theorem State.lineLow_effect (s : State) : s.lineLow.peerLow = true ∧ s.lineLow.flag F.ROW_STAT_GATE = false ∧
    s.lineLow.rowState = s.rowState ∧ (∀ c < 2, s.lineLow.ungated c) ∧ OnlyLogs lineRegs { s with clarn := s.lineLow.clarn } s.lineLow := by
  have hlow : (s.wr F.ROW_STAT_ILK_PEER 0 1).flag F.ROW_STAT_ILK_PEER = true := State.flag_wr_one _ _ _ (by decide)
  have hshut : (s.wr F.ROW_STAT_ILK_PEER 0 1).gateOpen = false := by
    rw [State.gateOpen, hlow, Bool.not_true, Bool.and_false]
  refine ⟨?_, (State.flag_gateCheck _).trans hshut, ?_, fun c hc => State.ungated_gateCheck hshut hc, ?_⟩
  · rw [State.peerLow, State.flag, State.lineLow, State.rd_gateCheck _ (by unfold statBeside; decide)]
    exact hlow
  · exact (State.rd_gateCheck _ (by unfold statBeside; decide)).trans (State.rd_wr_ne _ _ _ _ _ _ (.inr (by decide)))
  · have hwr : Frame State.buslogless (lineRegs ++ recRegs) s (s.wr F.ROW_STAT_ILK_PEER 0 1) :=
      (Frame.refl _ _ s).wr (fun _ => rfl) _ _ _ (by decide)
    exact (hwr.trans ((State.gateCheck_frame _).mono (by decide))).onlyLogs_bus

theorem execIlkInChange_hold {s : State} (hon : s.boot.off = false) (hhold : s.rowState = 3) :
    ∃ t, execIlkInChange true s = .next t ∧ t.peerLow = true ∧ t.flag F.ROW_STAT_GATE = false ∧ t.rowState = 3 ∧
      (∀ c, c < 2 → ∀ x ∈ (t.chan c).pend, gatedClass (idClass x.id) = false) ∧
      OnlyLogs [.ROW_STAT, .ROW_GATED_CNT, .ROW_CAUSE] { s with clarn := t.clarn } t := by
  obtain ⟨hpeer, hgate, hstate, hchans, hlogs⟩ := s.lineLow_effect
  have hthree : s.lineLow.rowState = 3 := hstate.trans hhold
  have hne : s.lineLow.rowState ≠ 1 := by rw [hthree]; decide
  refine ⟨s.lineLow, ?_, hpeer, hgate, hthree, hchans, hlogs⟩
  have hexec : execIlkInChange true s = if (true && decide (s.lineLow.rowState = rwAcquire) && decide (s.lineLow.role = 2)) = true then
      .next (s.lineLow.rowGo rwWait false) else .next s.lineLow.relCheck.takeOver := if_neg (by simp [hon])
  rw [hexec, hthree, if_neg (by simp), State.relCheck_of_ne hne, State.takeOver_of_ne hne]

/-- A row-standby that acquires goes back to WAIT. -/
theorem execIlkInChange_back {s : State} (hon : s.boot.off = false) (hacquire : s.rowState = 2) (hrole : s.role = 2) :
    ∃ t, execIlkInChange true s = .next t ∧ t.rowState = 1 ∧ t.flag F.ROW_STAT_ILK_OWN = false ∧
      OnlyLogs [.ROW_STAT, .ROW_GATED_CNT, .ROW_CAUSE] { s with clarn := t.clarn } t := by
  obtain ⟨-, -, hstate, -, hlogs⟩ := s.lineLow_effect
  have htwo : s.lineLow.rowState = 2 := hstate.trans hacquire
  have hrole' : s.lineLow.role = 2 := (hlogs.1.rd (f := F.ROW_CFG_ROLE) (by decide) 0).trans hrole
  have hexec : execIlkInChange true s = if (true && decide (s.lineLow.rowState = rwAcquire) && decide (s.lineLow.role = 2)) = true then
      .next (s.lineLow.rowGo rwWait false) else .next s.lineLow.relCheck.takeOver := if_neg (by simp [hon])
  obtain ⟨hwait, hown, -⟩ := s.lineLow.rowGo_effect (st := rwWait) (by decide) false
  refine ⟨_, hexec.trans (if_pos (by simp [htwo, hrole'])), hwait, hown, ?_⟩
  have hlow : Frame State.buslogless (lineRegs ++ recRegs) s s.lineLow :=
    ((Frame.refl _ _ s).wr (fun _ => rfl) F.ROW_STAT_ILK_PEER 0 1 (by decide)).trans ((State.gateCheck_frame _).mono (by decide))
  exact (hlow.trans ((State.rowGo_frame _ _ _).mono (by decide))).onlyLogs_bus

/-! ### LISTEN ends -/

theorem execListenEnd_effect {s : State} (hlisten : s.rowState = 0) (hrole : s.role = 1 ∨ s.role = 2)
    (hfirst : 7 ≤ s.rd F.CFG_STAT_STEP) (hlast : s.rd F.CFG_STAT_STEP ≤ 10) :
    ∃ t, execListenEnd s = .next t ∧ t.rowState = (if s.peerLow = true ∨ s.peerFlag 2 = true then 1 else 2) ∧
      (t.flag F.ROW_STAT_ILK_OWN = true ↔ t.rowState = 2) ∧
      OnlyLogs [.ROW_STAT, .ROW_GATED_CNT, .ROW_CAUSE] { s with clarn := t.clarn } t := by
  have hexec : execListenEnd s = .next (if (s.peerLow || s.peerFlag 2) = true then s.rowGo rwWait false else s.rowGo rwAcquire true) :=
    if_pos ⟨hlisten, hrole, hfirst, hlast⟩
  have hframe : ∀ st low, OnlyLogs [.ROW_STAT, .ROW_GATED_CNT, .ROW_CAUSE] { s with clarn := (s.rowGo st low).clarn } (s.rowGo st low) :=
    fun st low => Frame.onlyLogs_bus ((s.rowGo_frame st low).mono (by decide))
  refine ⟨_, hexec, ?_⟩
  by_cases hheld : s.peerLow = true ∨ s.peerFlag 2 = true
  · obtain ⟨hstate, hown, -⟩ := s.rowGo_effect (st := rwWait) (by decide) false
    rw [if_pos (by simpa using hheld), if_pos hheld, hstate, hown]
    exact ⟨rfl, by simp, hframe _ _⟩
  · obtain ⟨hstate, hown, -⟩ := s.rowGo_effect (st := rwAcquire) (by decide) true
    rw [if_neg (by simpa using hheld), if_neg hheld, hstate, hown]
    exact ⟨rfl, by simp, hframe _ _⟩

/-! ### The peer's heartbeat is missing (R350, R353) -/

/-- HB_OK clears, and health is looked at. -/
def State.hbGone (s : State) : State := (s.wr F.ROW_STAT_HB_OK 0 0).healthCheck

theorem State.hbGone_regs (s : State) : s.hbGone.regs = (s.wr F.ROW_STAT_HB_OK 0 0).regs := (State.healthCheck_onlyRow _).regs

theorem State.hbGone_onlyRegs (s : State) : OnlyRegs [.ROW_STAT] { s with row := s.hbGone.row } s.hbGone := by
  have hrow := (s.wr F.ROW_STAT_HB_OK 0 0).healthCheck_onlyRow
  refine ⟨fun r i hr => (State.reg_congr_regs s.hbGone_regs r i).trans ?_, (congrArg State.regless hrow :)⟩
  exact State.reg_wr_ne _ _ _ _ _ _ fun e => hr (by rw [e]; decide)

theorem State.hbGone_effect (s : State) : s.hbGone.flag F.ROW_STAT_HB_OK = false ∧ s.hbGone.rowState = s.rowState ∧
    s.hbGone.peerLow = s.peerLow ∧ s.hbGone.role = s.role ∧ s.hbGone.row.stuck = s.row.stuck := by
  refine ⟨?_, ?_, ?_, ?_, ?_⟩
  · exact (State.flag_congr_regs s.hbGone_regs _ _).trans (State.flag_wr_zero _ _ _ (by decide))
  · exact (State.rd_congr_regs s.hbGone_regs _ _).trans (State.rd_wr_ne _ _ _ _ _ _ (.inr (by decide)))
  · exact (State.flag_congr_regs s.hbGone_regs _ _).trans (State.flag_wr_ne _ _ _ _ _ _ (.inr (by decide)))
  · exact (State.rd_congr_regs s.hbGone_regs _ _).trans (State.rd_wr_ne _ _ _ _ _ _ (.inl (by decide)))
  · obtain ⟨a, w, hrow⟩ := (s.wr F.ROW_STAT_HB_OK 0 0).row_healthCheck
    exact (congrArg Row.stuck hrow :)

theorem execHbMissing_eq {s : State} (hrole : s.role ≠ 0) : execHbMissing s =
    if (decide (s.hbGone.rowState = rwWait) && s.hbGone.peerLow) = true then
      (if s.hbGone.row.stuck then .next s.hbGone
        else .next ((s.hbGone.modRow fun r => { r with stuck := true }).raise F.ROW_CAUSE_ILK_STUCK 0 3))
    else .next s.hbGone.takeOver := if_neg hrole

theorem execHbMissing_takeover {s : State} (hrole : s.role ≠ 0) (hwait : s.rowState = 1) (hpeer : s.peerLow = false) :
    ∃ t, execHbMissing s = .next t ∧ t.rowState = 2 ∧ t.flag F.ROW_STAT_ILK_OWN = true ∧ t.flag F.ROW_STAT_HB_OK = false ∧
      t.flag F.ROW_CAUSE_TAKEOVER = true ∧
      OnlyLogs [.ROW_STAT, .ROW_GATED_CNT, .ROW_CAUSE] { s with row := t.row, clarn := t.clarn } t := by
  obtain ⟨hok, hstate, hlow, hrole', -⟩ := s.hbGone_effect
  have hexec := execHbMissing_eq hrole
  have hregs := s.hbGone_onlyRegs
  generalize s.hbGone = u at hok hstate hlow hrole' hexec hregs
  have htake : u.takeOver = (u.rowGo rwAcquire true).raise F.ROW_CAUSE_TAKEOVER 0 2 :=
    if_pos (by simp [hstate, hwait, hrole', hrole, hok, hlow, hpeer])
  obtain ⟨hacquire, hown, -⟩ := u.rowGo_effect (st := rwAcquire) (by decide) true
  have hkept : (u.rowGo rwAcquire true).flag F.ROW_STAT_HB_OK = false :=
    (u.flag_rowGo rwAcquire true (by unfold statBeside; decide) (by decide) (by decide)).trans hok
  have hgone : Frame State.rowbuslogless (lineRegs ++ recRegs) s u :=
    ⟨fun r i hr => hregs.1 r i fun e => hr ((by decide : [Reg.ROW_STAT] ⊆ lineRegs ++ recRegs) e),
      (congrArg State.rowbuslogless (show u.regless = ({ s with row := u.row } : State).regless from hregs.2) :)⟩
  have hgo : Frame State.rowbuslogless (lineRegs ++ recRegs) u (u.rowGo rwAcquire true) := ((u.rowGo_frame rwAcquire true).rowBus).mono (by decide)
  rw [htake, hstate, hwait, hlow, hpeer] at hexec
  refine ⟨_, hexec.trans (if_neg (by simp)), ?_, ?_, ?_, State.flag_raise_same _ _ _ _ _ _ (by decide),
    Frame.onlyLogs_rowBus ((hgone.trans hgo).raise (fun _ => rfl) _ _ _ _ _ (by decide) (by decide))⟩
  · exact (State.rd_raise_ne _ _ _ _ _ _ _ _ (by decide)).trans hacquire
  · exact (State.flag_raise_ne _ _ _ _ _ _ _ _ (by decide)).trans hown
  · exact (State.flag_raise_ne _ _ _ _ _ _ _ _ (by decide)).trans hkept

theorem execHbMissing_stuck {s : State} (hrole : s.role ≠ 0) (hwait : s.rowState = 1) (hpeer : s.peerLow = true)
    (hstuck : s.row.stuck = false) :
    ∃ t, execHbMissing s = .next t ∧ t.rowState = 1 ∧ t.flag F.ROW_STAT_HB_OK = false ∧ t.flag F.ROW_CAUSE_ILK_STUCK = true ∧
      OnlyLogs [.ROW_STAT, .ROW_CAUSE] { s with row := t.row } t := by
  obtain ⟨hok, hstate, hlow, -, hstuck'⟩ := s.hbGone_effect
  have hexec := execHbMissing_eq hrole
  have hregs := s.hbGone_onlyRegs
  generalize s.hbGone = u at hok hstate hlow hstuck' hexec hregs
  rw [hstate, hwait, hlow, hpeer, hstuck', hstuck] at hexec
  have hgone : Frame State.rowlogless ([.ROW_STAT, .ROW_CAUSE] ++ recRegs) s (u.modRow fun r => { r with stuck := true }) :=
    ⟨fun r i hr => hregs.1 r i fun e => hr ((by decide : [Reg.ROW_STAT] ⊆ [.ROW_STAT, .ROW_CAUSE] ++ recRegs) e),
      (congrArg State.rowlogless (show u.regless = ({ s with row := u.row } : State).regless from hregs.2) :)⟩
  refine ⟨_, hexec.trans (if_pos (by simp)), ?_, ?_, State.flag_raise_same _ _ _ _ _ _ (by decide),
    Frame.onlyLogs_row (hgone.raise (fun _ => rfl) _ _ _ _ _ (by decide) (by decide))⟩
  · exact (State.rd_raise_ne _ _ _ _ _ _ _ _ (by decide)).trans (hstate.trans hwait)
  · exact (State.flag_raise_ne _ _ _ _ _ _ _ _ (by decide)).trans hok

theorem execHbMissing_other {s : State} (hrole : s.role ≠ 0) (hwait : s.rowState ≠ 1) :
    ∃ t, execHbMissing s = .next t ∧ t.flag F.ROW_STAT_HB_OK = false ∧ t.rowState = s.rowState ∧ OnlyRegs [.ROW_STAT] { s with row := t.row } t := by
  obtain ⟨hok, hstate, -⟩ := s.hbGone_effect
  have hne : s.hbGone.rowState ≠ 1 := by rw [hstate]; exact hwait
  refine ⟨s.hbGone, ?_, hok, hstate, s.hbGone_onlyRegs⟩
  rw [execHbMissing_eq hrole, if_neg (by simp [hne]), State.takeOver_of_ne hne]

/-! ### Control is left (R349, R355) -/

theorem State.leaveHold_effect (s : State) : s.leaveHold.rowState = 1 ∧ s.leaveHold.flag F.ROW_STAT_ILK_OWN = false ∧
    s.leaveHold.flag F.ROW_STAT_GATE = false ∧ Frame State.rowbuslogless (lineRegs ++ recRegs) s s.leaveHold ∧
    s.leaveHold.row = { s.row with kick := false, okAt := none } := by
  obtain ⟨hstate, hown, hgate⟩ := (s.modRow fun r => { r with kick := false, okAt := none }).rowGo_effect (st := rwWait) (by decide) false
  have hgo := (s.modRow fun r => { r with kick := false, okAt := none }).rowGo_frame rwWait false
  have hrow : Frame State.rowbuslogless (lineRegs ++ recRegs) s (s.modRow fun r => { r with kick := false, okAt := none }) :=
    (Frame.refl _ _ s).other rfl rfl
  exact ⟨hstate, hown, hgate, hrow.trans ((hgo.rowBus).mono (by decide)), State.row_of_buslogless hgo.2⟩

theorem Frame.recordOpen {rs : List Reg} {s t : State} (h : Frame State.rowbusfreelogless rs s t) (b i sev : Nat) (hrec : recRegs ⊆ rs) :
    Frame State.rowbusfreelogless rs s (t.recordOpen b i sev) := by
  have hfree : Frame State.rowbusfreelogless rs s (t.freeNat 256).2 := h.other rfl rfl
  exact hfree.record (fun _ => rfl) _ _ _ _ _ _ _ hrec

theorem State.recordOpen_regs (s : State) (b i sev : Nat) (f : Fld) (hf : f.reg ∉ recRegs) : (s.recordOpen b i sev).rd f = s.rd f :=
  (((Frame.refl State.rowbusfreelogless recRegs s).recordOpen b i sev (List.Subset.refl _)).rd f hf 0)

theorem execHolderSelfRelease_early (w : Fin 3) {s : State} (hhold : s.rowState = 3) (hw : w.val < 2) :
    ∃ t, execHolderSelfRelease w s = .next t ∧ t.rowState = 1 ∧ t.flag F.ROW_STAT_ILK_OWN = false ∧ t.flag F.ROW_STAT_GATE = false ∧
      OnlyLogs [.ROW_STAT, .ROW_GATED_CNT, .ROW_CAUSE] { s with row := t.row, clarn := t.clarn, free := t.free } t := by
  obtain ⟨hstate, hown, hgate, hframe, -⟩ := s.leaveHold_effect
  have hexec : execHolderSelfRelease w s = .next (s.leaveHold.recordOpen 9 0 2) :=
    (if_neg (by simp [hhold])).trans (if_neg (by omega))
  have hkept := s.leaveHold.recordOpen_regs 9 0 2
  refine ⟨_, hexec, (hkept _ (by decide)).trans hstate, ?_, ?_,
    Frame.onlyLogs_rowBusFree ((hframe.rowBusFree).recordOpen 9 0 2 (by decide))⟩
  · rw [State.flag, hkept _ (by decide)]; exact hown
  · rw [State.flag, hkept _ (by decide)]; exact hgate

theorem execHolderSelfRelease_conflict {s : State} (hhold : s.rowState = 3) (hrole : s.role = 1) (hpeer : s.peerLow = true) :
    ∃ t, execHolderSelfRelease 2 s = .next t ∧ t.rowState = 1 ∧ t.flag F.ROW_STAT_ILK_OWN = false ∧
      t.flag F.ROW_CAUSE_ILK_CONFLICT = true ∧
      OnlyLogs [.ROW_STAT, .ROW_GATED_CNT, .ROW_CAUSE] { s with row := t.row, clarn := t.clarn } t := by
  obtain ⟨hstate, hown, -, hframe, -⟩ := s.leaveHold_effect
  have hexec : execHolderSelfRelease 2 s = .next (s.leaveHold.raise F.ROW_CAUSE_ILK_CONFLICT 0 2) :=
    ((if_neg (by simp [hhold])).trans (if_pos rfl)).trans (if_pos ⟨hrole, hpeer⟩)
  refine ⟨_, hexec, ?_, ?_, State.flag_raise_same _ _ _ _ _ _ (by decide),
    Frame.onlyLogs_rowBus (hframe.raise (fun _ => rfl) _ _ _ _ _ (by decide) (by decide))⟩
  · exact (State.rd_raise_ne _ _ _ _ _ _ _ _ (by decide)).trans hstate
  · exact (State.flag_raise_ne _ _ _ _ _ _ _ _ (by decide)).trans hown

/-! ### Control is handed over (R356) -/

/-- The final mirror set and the heartbeat with RELEASING wait on the channels. -/
def State.handReady (s : State) : State :=
  let s1 := s.newMirror.modRow fun r => { r with releasing := true }
  let s2 := (List.range s1.mirrorParts).foldl (fun (s : State) (k : Nat) => s.queueFrame 3 (clarnId 5 3 s.node) (s.mirrorBody k) 34) s1
  s2.queueFrame 3 (clarnId 2 2 s2.node) s2.hbBody 34

theorem State.handBack_eq (s : State) : s.handBack = s.handReady.leaveHold.raise F.ROW_CAUSE_HANDBACK 0 1 := rfl

/-- Nothing has changed but the row's bookkeeping, the channels' frames and the place in the free values. -/
def OnlyHand (s t : State) : Prop := t = { s with row := t.row, clarn := t.clarn, free := t.free }

theorem OnlyHand.regs {s t : State} (h : OnlyHand s t) : t.regs = s.regs := (congrArg State.regs h :)

theorem OnlyHand.evr {s t : State} (h : OnlyHand s t) : t.evr = s.evr := (congrArg State.evr h :)

theorem OnlyHand.frame {s t : State} (h : OnlyHand s t) (rs : List Reg) : Frame State.rowbusfreelogless rs s t :=
  ⟨fun r i _ => State.reg_congr_regs h.regs r i, (congrArg State.rowbusfreelogless h :).trans rfl⟩

theorem OnlyFrames.hand {s t u : State} (h : OnlyHand s t) (h' : OnlyFrames t u) : OnlyHand s u ∧ u.row = t.row := by
  have hu : u = { t with clarn := u.clarn } := h'
  have ht : t = { s with row := t.row, clarn := t.clarn, free := t.free } := h
  have hrow : u.row = t.row := (congrArg State.row hu :)
  have hfree : u.free = t.free := (congrArg State.free hu :)
  refine ⟨?_, hrow⟩
  show u = { s with row := u.row, clarn := u.clarn, free := u.free }
  rw [hrow, hfree]
  exact hu.trans (congrArg (fun v : State => { v with clarn := u.clarn }) ht)

theorem OnlyFree.hand {s u : State} (h : OnlyFree s u) (f : Row → Row) : OnlyHand s (u.modRow f) := by
  obtain ⟨n, rfl⟩ : ∃ n, u = { s with free := n } := ⟨_, h⟩
  rfl

theorem State.newMirror_hand (s : State) : OnlyHand s (s.newMirror.modRow fun r => { r with releasing := true }) := by
  have hfree : OnlyFree s s.mirrorImage.2 := State.roundNat_free s 32 _
  unfold State.newMirror
  extract_lets m
  exact hfree.hand fun r => { r with outSeq := (r.outSeq + 1) % 65536, outImage := m.1, releasing := true }

theorem State.handReady_effect (s : State) : OnlyHand s s.handReady ∧ s.handReady.row.releasing = true := by
  unfold State.handReady
  extract_lets s1 s2
  have h1 : OnlyHand s s1 := s.newMirror_hand
  have hparts : OnlyFrames s1 s2 := List.foldlRecOn _ _ (motive := OnlyFrames s1) (OnlyFrames.refl s1) fun u hu k _ =>
    hu.trans (State.queueFrame_onlyFrames _ _ _ _ _ (by decide) (by rw [idClass_clarnId]; decide))
  have hbeat : OnlyFrames s1 (s2.queueFrame 3 (clarnId 2 2 s2.node) s2.hbBody 34) :=
    hparts.trans (State.queueFrame_onlyFrames _ _ _ _ _ (by decide) (by rw [idClass_clarnId]; decide))
  obtain ⟨hhand, hrow⟩ := hbeat.hand h1
  exact ⟨hhand, congrArg Row.releasing hrow⟩

/-! ### The change buffer beside causes -/

theorem State.chg_discardRec (s : State) (q : Nat) : (s.discardRec q).evr.chg = s.evr.chg := by
  have hraise : ((s.count F.REC_LOST_CNT_VALUE 0).raiseBit F.REC_CAUSE_LOST 0).evr = s.evr := State.evr_raiseBit _ _ _
  exact (congrArg RecState.chg hraise :)

theorem State.chg_requestFlush (s : State) : s.requestFlush.evr.chg = s.evr.chg := rfl

theorem State.chg_insertRec (s : State) (r : Rec) : (s.insertRec r).evr.chg = s.evr.chg := by
  unfold State.insertRec
  extract_lets e s0 s1
  have h0 : s0.evr.chg = s.evr.chg := by
    show (if r.sev = 3 then _ else s : State).evr.chg = _
    split <;> rfl
  split
  · split
    · exact h0
    · exact h0
  · split
    · exact (State.chg_requestFlush _).trans ((State.chg_discardRec _ _).trans h0)
    · exact (State.chg_discardRec _ _).trans h0

theorem State.chg_raise (s : State) (f : Fld) (i sev : Nat) (d : List Word) (m : Nat) : (s.raise f i sev d m).evr.chg = s.evr.chg :=
  (State.chg_insertRec _ _).trans (congrArg RecState.chg (s.evr_raiseBit f i) :)

theorem State.chg_rowGo (s : State) (st : Nat) (low : Bool) : (s.rowGo st low).evr.chg = s.evr.chg := by
  have hhold : ∀ u : State, u.holdBack.evr.chg = u.evr.chg := fun u => State.chg_raise _ _ _ _ _ _
  have hdrop : ∀ (u : State) (c : Nat), (u.dropGated c).evr.chg = u.evr.chg := fun u c =>
    List.foldlRecOn _ _ (motive := fun v : State => v.evr.chg = u.evr.chg) rfl fun v hv _ _ => (hhold v).trans hv
  have hgate : ∀ u : State, u.gateCheck.evr.chg = u.evr.chg := fun u => by
    rw [State.gateCheck_eq]
    split
    · rfl
    · exact List.foldlRecOn _ _ (motive := fun v : State => v.evr.chg = u.evr.chg) rfl fun v hv c _ => (hdrop v c).trans hv
  exact hgate _

/-- A hand-over, its NOREVERT written: the peer is to take control. -/
theorem State.handBack_effect (s : State) : s.handBack.rowState = 1 ∧ s.handBack.flag F.ROW_STAT_ILK_OWN = false ∧
    s.handBack.row.releasing = true ∧ s.handBack.flag F.ROW_CAUSE_HANDBACK = true ∧
    s.handBack.flag F.ROW_STAT_NOREVERT = s.flag F.ROW_STAT_NOREVERT ∧ s.handBack.evr.chg = s.evr.chg ∧
    Frame State.rowbusfreelogless (lineRegs ++ recRegs) s s.handBack := by
  obtain ⟨hhand, hrel⟩ := s.handReady_effect
  rw [State.handBack_eq]
  generalize s.handReady = u at hhand hrel ⊢
  obtain ⟨hstate, hown, -, hframe, hrow⟩ := u.leaveHold_effect
  have hnorevert : u.leaveHold.flag F.ROW_STAT_NOREVERT = u.flag F.ROW_STAT_NOREVERT :=
    (State.flag_rowGo _ rwWait false (by unfold statBeside; decide) (by decide) (by decide)).trans (State.flag_congr_regs rfl _ _)
  have hchg : u.leaveHold.evr.chg = u.evr.chg := State.chg_rowGo _ rwWait false
  have hraised : (u.leaveHold.raise F.ROW_CAUSE_HANDBACK 0 1).row = u.leaveHold.row := by rw [State.raise_eq]
  refine ⟨?_, ?_, ?_, State.flag_raise_same _ _ _ _ _ _ (by decide), ?_, ?_, ?_⟩
  · exact (State.rd_raise_ne _ _ _ _ _ _ _ _ (by decide)).trans hstate
  · exact (State.flag_raise_ne _ _ _ _ _ _ _ _ (by decide)).trans hown
  · rw [hraised, hrow]; exact hrel
  · exact (State.flag_raise_ne _ _ _ _ _ _ _ _ (by decide)).trans (hnorevert.trans (State.flag_congr_regs hhand.regs _ _))
  · rw [State.chg_raise, hchg, hhand.evr]
  · exact ((hhand.frame _).trans hframe.rowBusFree).raise (fun _ => rfl) _ _ _ _ _ (by decide) (by decide)

/-- NOREVERT of a row-active that hands over. -/
theorem State.passControl_effect (s : State) : s.passControl.rowState = 1 ∧ s.passControl.flag F.ROW_STAT_ILK_OWN = false ∧
    s.passControl.row.releasing = true ∧ s.passControl.flag F.ROW_CAUSE_HANDBACK = true ∧
    s.passControl.flag F.ROW_STAT_NOREVERT = (decide (s.role = 1) || s.flag F.ROW_STAT_NOREVERT) ∧
    s.passControl.evr.chg = s.evr.chg ∧ Frame State.rowbusfreelogless (lineRegs ++ recRegs) s s.passControl := by
  unfold State.passControl
  by_cases hrole : s.role = 1
  · obtain ⟨hstate, hown, hrel, hback, hnorevert, hchg, hframe⟩ := (s.wr F.ROW_STAT_NOREVERT 0 1).handBack_effect
    rw [if_pos hrole]
    exact ⟨hstate, hown, hrel, hback, by rw [hnorevert, State.flag_wr_one _ _ _ (by decide)]; simp [hrole], hchg,
      ((Frame.refl _ _ s).wr (fun _ => rfl) _ _ _ (by decide)).trans hframe⟩
  · obtain ⟨hstate, hown, hrel, hback, hnorevert, hchg, hframe⟩ := s.handBack_effect
    rw [if_neg hrole]
    exact ⟨hstate, hown, hrel, hback, by simp [hnorevert, hrole], hchg, hframe⟩

/-- A row-standby's NOREVERT clears when it hands over while it holds. -/
def State.handNoted (s : State) : State :=
  if decide (s.rowState = rwHold) && decide (s.role = 2) then s.wr F.ROW_STAT_NOREVERT 0 0 else s

theorem State.handNoted_effect (s : State) : OnlyRegs [.ROW_STAT] s s.handNoted ∧ s.handNoted.rowState = s.rowState ∧
    s.handNoted.flag F.ROW_STAT_HB_OK = s.flag F.ROW_STAT_HB_OK ∧
    (s.rowState = 3 → s.role = 2 → s.handNoted.flag F.ROW_STAT_NOREVERT = false) := by
  unfold State.handNoted
  split
  · exact ⟨(OnlyRegs.refl _ s).wr _ _ _ (by decide), State.rd_wr_ne _ _ _ _ _ _ (.inr (by decide)),
      State.flag_wr_ne _ _ _ _ _ _ (.inr (by decide)), fun _ _ => State.flag_wr_zero _ _ _ (by decide)⟩
  · next h => exact ⟨OnlyRegs.refl _ s, rfl, rfl, fun hs hr => absurd (by simp [hs, hr]) h⟩

/-- The write is a change record first. -/
theorem execHandover_next (m : BitVec 10) {s : State} (hroom : s.evr.chg.length < 64) :
    ∃ u, OnlyLogs [] { s with free := u.free } u ∧ u.evr.chg.length = s.evr.chg.length + 1 ∧ execHandover m s =
      .next (if (decide (u.rowState = rwHold) && u.handNoted.flag F.ROW_STAT_HB_OK && u.handNoted.peerFlag 5) = true then
        u.handNoted.passControl else u.handNoted.raise F.ROW_CAUSE_CFGERR) := by
  obtain ⟨u, hlog, hframe⟩ := State.logChange_of_room hroom 9 0 (Reg.addr .ROW_CMD 0) 0 0x10 m.toNat
  have hlen := State.length_chg_logChange hroom 9 0 (Reg.addr .ROW_CMD 0) 0 0x10 m.toNat
  rw [hlog] at hlen
  refine ⟨u, hframe, hlen, ?_⟩
  unfold execHandover State.handover
  simp only [hlog, Bool.not_true, Bool.false_eq_true, if_false]
  rfl

theorem execHandover_passed (m : BitVec 10) {s : State} (hroom : s.evr.chg.length < 64) (hhold : s.rowState = 3)
    (hok : s.flag F.ROW_STAT_HB_OK = true) (hpeer : s.peerFlag 5 = true) :
    ∃ t, execHandover m s = .next t ∧ t.rowState = 1 ∧ t.flag F.ROW_STAT_ILK_OWN = false ∧ t.row.releasing = true ∧
      t.flag F.ROW_CAUSE_HANDBACK = true ∧ (s.role = 1 → t.flag F.ROW_STAT_NOREVERT = true) ∧
      (s.role = 2 → t.flag F.ROW_STAT_NOREVERT = false) ∧ t.evr.chg.length = s.evr.chg.length + 1 ∧
      OnlyLogs [.ROW_STAT, .ROW_GATED_CNT, .ROW_CAUSE] { s with row := t.row, clarn := t.clarn, free := t.free } t := by
  obtain ⟨u, hlogs, hlen, hexec⟩ := execHandover_next m hroom
  obtain ⟨hregs, -, hok', hnote⟩ := u.handNoted_effect
  obtain ⟨hstate, hown, hrel, hback, hnorevert, hchg, hframe⟩ := u.handNoted.passControl_effect
  have huhold : u.rowState = 3 := (hlogs.1.rd (by decide) 0).trans hhold
  have hurole : u.role = s.role := hlogs.1.rd (f := F.ROW_CFG_ROLE) (by decide) 0
  have hnrole : u.handNoted.role = s.role := (hregs.1.rd (f := F.ROW_CFG_ROLE) (by decide) 0).trans hurole
  have huok : u.flag F.ROW_STAT_HB_OK = true := (hlogs.1.flag (by decide) 0).trans hok
  have hrow : u.handNoted.row = s.row := (congrArg State.row hregs.2 :).trans (congrArg State.row hlogs.2 :)
  have hupeer : u.handNoted.peerFlag 5 = true := by rw [State.peerFlag, hrow]; exact hpeer
  have hevr : u.handNoted.evr = u.evr := (congrArg State.evr hregs.2 :)
  have hlogged : Frame State.rowbusfreelogless (lineRegs ++ recRegs) s u := by
    have hall : u.rowbusfreelogless = s.rowbusfreelogless :=
      (congrArg State.rowbusfreelogless (show u.logless = ({ s with free := u.free } : State).logless from hlogs.2) :)
    exact ⟨fun r i hr => hlogs.1 r i fun e => hr ((by decide : ([] : List Reg) ++ recRegs ⊆ lineRegs ++ recRegs) e), hall⟩
  have hnoted : Frame State.rowbusfreelogless (lineRegs ++ recRegs) u u.handNoted :=
    (Frame.of_onlyRegs (k := State.rowbusfreelogless) (fun _ => rfl) hregs).mono (by decide)
  refine ⟨_, hexec.trans (congrArg Host.Outcome.next (if_pos (by simp [huhold, hok', huok, hupeer]))), hstate, hown, hrel, hback,
    fun hrole => ?_, fun hrole => ?_, ?_, ((hlogged.trans hnoted).trans hframe).onlyLogs_rowBusFree⟩
  · rw [hnorevert, hnrole, hrole]; rfl
  · rw [hnorevert, hnrole, hrole, hnote huhold (hurole.trans hrole)]; rfl
  · rw [hchg, hevr]; exact hlen

theorem execHandover_refused (m : BitVec 10) {s : State} (hroom : s.evr.chg.length < 64)
    (hno : s.rowState ≠ 3 ∨ s.flag F.ROW_STAT_HB_OK = false) :
    ∃ t, execHandover m s = .next t ∧ t.flag F.ROW_CAUSE_CFGERR = true ∧ t.rowState = s.rowState ∧
      OnlyLogs [.ROW_STAT, .ROW_CAUSE] { s with free := t.free } t := by
  obtain ⟨u, hlogs, -, hexec⟩ := execHandover_next m hroom
  obtain ⟨hregs, hstate, hok, -⟩ := u.handNoted_effect
  have hustate : u.rowState = s.rowState := hlogs.1.rd (f := F.ROW_STAT_STATE) (by decide) 0
  have huok : u.flag F.ROW_STAT_HB_OK = s.flag F.ROW_STAT_HB_OK := hlogs.1.flag (by decide) 0
  have hrefuse : ¬ (decide (u.rowState = rwHold) && u.handNoted.flag F.ROW_STAT_HB_OK && u.handNoted.peerFlag 5) = true := by
    rw [hok, huok, hustate]
    rcases hno with h | h <;> simp [h]
  have hlog : OnlyLogs [.ROW_STAT, .ROW_CAUSE] { s with free := u.free } (u.handNoted.raise F.ROW_CAUSE_CFGERR) :=
    (((hlogs.mono (List.nil_subset _)).trans hregs.onlyLogs).mono (by decide) : OnlyLogs [.ROW_STAT, .ROW_CAUSE] _ _).raise _ _ _ _ _ (by decide)
  have hfree : (u.handNoted.raise F.ROW_CAUSE_CFGERR).free = u.free := (congrArg State.free hlog.2 :)
  refine ⟨_, hexec.trans (congrArg Host.Outcome.next (if_neg hrefuse)), State.flag_raise_same _ _ _ _ _ _ (by decide), ?_, ?_⟩
  · exact (State.rd_raise_ne _ _ _ _ _ _ _ _ (by decide)).trans (hstate.trans hustate)
  · rw [hfree]; exact hlog

/-! ### The statement -/

theorem execHealthReached_effect (s : State) : ∃ t, execHealthReached s = .next t ∧ t = { s with row := t.row } ∧
    (s.wellNow = true → t.row.well = true) ∧ (s.wellNow = false → t.row.well = false ∧ t.row.okAt = none) := by
  have hrow : OnlyRow s s.healthCheck := s.healthCheck_onlyRow
  have hwell : s.healthCheck.wellNow = s.wellNow := by
    obtain ⟨a, w, h⟩ := s.row_healthCheck
    rw [show s.healthCheck = { s with row := { s.row with okAt := a, well := w } } from hrow.trans (by rw [h])]
    rfl
  by_cases h : s.wellNow = true
  · have hexec : execHealthReached s = .next (s.healthCheck.modRow fun r => { r with well := true }) :=
      (congrArg Host.Outcome.next (if_pos (hwell.trans h)) :)
    exact ⟨_, hexec, congrArg (fun u : State => u.modRow fun r => { r with well := true }) hrow, fun _ => rfl, fun h' => by simp [h] at h'⟩
  · have hexec : execHealthReached s = .next s.healthCheck := (congrArg Host.Outcome.next (if_neg (hwell ▸ h : ¬ s.healthCheck.wellNow = true)) :)
    have hlapsed : s.healthCheck = s.modRow fun r => { r with okAt := none, well := false } := if_neg h
    exact ⟨_, hexec, hrow, fun h' => absurd h' h, fun _ => by rw [hlapsed]; exact ⟨rfl, rfl⟩⟩

theorem execMirrorOld_effect {s : State} (hrole : s.role ≠ 0) (hstate : s.rowState ≠ 3) (hmirror : s.row.mirror.isSome = true) :
    ∃ t, execMirrorOld s = .next t ∧ t.flag F.ROW_CAUSE_MIRROR_OLD = true ∧ OnlyLogs [.ROW_CAUSE] { s with row := t.row } t := by
  have hexec : execMirrorOld s = .next (s.raise F.ROW_CAUSE_MIRROR_OLD).healthCheck := if_pos ⟨hrole, hstate, hmirror⟩
  have hraise : Frame State.rowlogless ([.ROW_CAUSE] ++ recRegs) s (s.raise F.ROW_CAUSE_MIRROR_OLD) :=
    (Frame.refl _ _ s).raise (fun _ => rfl) _ _ _ _ _ (by decide) (by decide)
  exact ⟨_, hexec, (State.flag_congr_regs (State.healthCheck_onlyRow _).regs _ _).trans (State.flag_raise_same _ _ _ _ _ _ (by decide)),
    (hraise.trans (State.healthCheck_frame _ _)).onlyLogs_row⟩

/-- Settles O47: every change of hands is the state with the own line and the gate that follows, after what it prepares. -/
theorem rowControlIsTakenHeldAndPassed : Obligations.RowControlIsTakenHeldAndPassed := by
  unfold Obligations.RowControlIsTakenHeldAndPassed
  refine ⟨?health, ?fresh, ?mirror, ?noAcquire, ?low, ?back, ?off, ?listen, ?noListen, ?noRole, ?takeover, ?stuck, ?other, ?conflict,
    ?noConflict, ?release, ?released, ?noRelease, ?hand, ?noHand, ?old, ?noOld⟩
  case health => exact fun s => execHealthReached_effect s
  case fresh => exact fun s hstate hpeer hmirror => execAcquireTimeout_fresh hstate hpeer hmirror
  case mirror => exact fun m s hstate hpeer hmirror hlen => execAcquireTimeout_mirror hstate hpeer hmirror hlen
  case noAcquire =>
    refine fun s h => if_neg fun hc => ?_
    rcases h with h | h
    · exact h hc.1
    · exact absurd hc.2 (by simp [h])
  case low => exact fun s hon hhold => execIlkInChange_hold hon hhold
  case back => exact fun s hon hacquire hrole => execIlkInChange_back hon hacquire hrole
  case off => exact fun low s hoff => if_pos hoff
  case listen => exact fun s hlisten hrole hfirst hlast => execListenEnd_effect hlisten hrole hfirst hlast
  case noListen =>
    refine fun s h => if_neg fun hc => ?_
    rcases h with h | h
    · exact h hc.1
    · have := hc.2.2.1; omega
  case noRole => exact fun s hrole => if_pos hrole
  case takeover => exact fun s hrole hwait hpeer => execHbMissing_takeover hrole hwait hpeer
  case stuck => exact fun s hrole hwait hpeer hstuck => execHbMissing_stuck hrole hwait hpeer hstuck
  case other => exact fun s hrole hwait => execHbMissing_other hrole hwait
  case conflict =>
    exact fun s hwait hpeer hshown => ⟨_, if_pos ⟨hwait, hpeer, hshown⟩, State.flag_raise_same _ _ _ _ _ _ (by decide),
      (OnlyLogs.refl _ s).raise _ _ _ _ _ (by decide)⟩
  case noConflict =>
    refine fun s h => if_neg fun hc => ?_
    rcases h with h | h | h
    · exact h hc.1
    · exact absurd hc.2.1 (by simp [h])
    · exact absurd hc.2.2 (by simp [h])
  case release => exact fun w s hhold hw => execHolderSelfRelease_early w hhold hw
  case released => exact fun s hhold hrole hpeer => execHolderSelfRelease_conflict hhold hrole hpeer
  case noRelease => exact fun w s hne => if_pos hne
  case hand => exact fun m s hroom hhold hok hpeer => execHandover_passed m hroom hhold hok hpeer
  case noHand => exact fun m s hroom hno => execHandover_refused m hroom hno
  case old => exact fun s hrole hstate hmirror => execMirrorOld_effect hrole hstate hmirror
  case noOld =>
    refine fun s h => if_neg fun hc => ?_
    rcases h with h | h | h
    · exact hc.1 h
    · exact hc.2.1 h
    · exact absurd hc.2.2 (by simp [h])

end Sys2Proof.Machine
end

section
/-! PROOFS.  The row's pumps, its budget and the caps of its members (R345, R357 to R361, R438). -/

namespace Sys2Proof.Machine

/-! ### Pumps (R345) -/

theorem State.pumpSt_wr_same (s : State) (k : Nat) {v : Nat} (hv : v < 8) : (s.wr F.ROW_PUMP_STATE k v).pumpSt k = v :=
  (State.rd_wr_same _ _ _ _ (by decide)).trans (Nat.mod_eq_of_lt hv)

theorem State.pumpSt_wr_ne (s : State) {j k : Nat} (v : Nat) (h : j ≠ k) : (s.wr F.ROW_PUMP_STATE k v).pumpSt j = s.pumpSt j :=
  State.rd_wr_idx _ _ _ _ _ _ h

theorem State.pumpSt_congr {rs : List Reg} {s t : State} (h : SameRegs rs s t) (hr : .ROW_PUMP ∉ rs) (k : Nat) : t.pumpSt k = s.pumpSt k :=
  State.rd_congr (h _ k hr)

/-- Pumps of a list take a state, no other changing. -/
theorem State.pumpSt_foldl (l : List Nat) (s : State) {v : Nat} (hv : v < 8) (j : Nat) :
    (l.foldl (fun (s : State) (k : Nat) => s.wr F.ROW_PUMP_STATE k v) s).pumpSt j = if j ∈ l then v else s.pumpSt j := by
  induction l generalizing s with
  | nil => rfl
  | cons k l ih =>
    rw [List.foldl_cons, ih]
    by_cases hl : j ∈ l
    · rw [if_pos hl, if_pos (List.mem_cons_of_mem _ hl)]
    · by_cases hk : j = k
      · rw [if_neg hl, if_pos (by rw [hk]; exact List.mem_cons_self), hk, State.pumpSt_wr_same _ _ hv]
      · rw [if_neg hl, if_neg (by simp [hk, hl]), State.pumpSt_wr_ne _ _ hk]

theorem State.mem_pumpsIn {s : State} {k st : Nat} :
    k ∈ s.pumpsIn st ↔ k < 4 ∧ s.flag F.ROW_PUMP_FITTED k = true ∧ s.pumpSt k = st := by
  simp [State.pumpsIn]

/-- Cleared marks, before spares fill the duty. -/
def State.marksCleared (s : State) (m : Nat) : State :=
  ((s.pumpsIn puFailed).filter fun k => m.testBit k).foldl (fun (s : State) (k : Nat) => s.wr F.ROW_PUMP_STATE k puSpare) s

theorem State.marksCleared_onlyRegs (s : State) (m : Nat) : OnlyRegs [.ROW_PUMP] s (s.marksCleared m) :=
  (OnlyRegs.refl _ s).foldl _ fun _ _ hv => hv.wr _ _ _ (by decide)

theorem State.clearPumps_of_idle {s : State} (h : s.rowState ≠ 3) (m : Nat) : s.clearPumps m = s.marksCleared m :=
  if_neg fun (h' : (s.marksCleared m).rowState = rwHold) => h (((s.marksCleared_onlyRegs m).1.rd (f := F.ROW_STAT_STATE) (by decide) 0).symm.trans h')

theorem execPumpclr_effect (k : Fin 4) {s : State} (hidle : s.rowState ≠ 3) (hfit : s.flag F.ROW_PUMP_FITTED k = true)
    (hfailed : s.pumpSt k = 3) :
    ∃ t, execPumpclr (BitVec.ofNat 4 (2 ^ k.val)) s = .next t ∧ t.pumpSt k = 1 ∧
      (∀ j, j < 4 → j ≠ k.val → t.pumpSt j = s.pumpSt j) ∧ OnlyRegs [.ROW_PUMP] s t := by
  have hmask : (BitVec.ofNat 4 (2 ^ k.val)).toNat = 2 ^ k.val := by
    rw [BitVec.toNat_ofNat]; exact Nat.mod_eq_of_lt (Nat.pow_lt_pow_right (by decide) k.isLt)
  have hmem : ∀ j, j ∈ ((s.pumpsIn puFailed).filter fun j => (2 ^ k.val).testBit j) ↔ j ∈ s.pumpsIn puFailed ∧ k.val = j := fun j => by
    rw [List.mem_filter, Nat.testBit_two_pow, decide_eq_true_eq]
  refine ⟨_, congrArg Host.Outcome.next ((State.clearPumps_of_idle hidle _).trans (by rw [hmask])), ?_, fun j _ hjk => ?_,
    s.marksCleared_onlyRegs _⟩
  · rw [State.marksCleared, State.pumpSt_foldl _ _ (by decide), if_pos ((hmem _).2 ⟨State.mem_pumpsIn.2 ⟨k.isLt, hfit, hfailed⟩, rfl⟩)]
  · rw [State.marksCleared, State.pumpSt_foldl _ _ (by decide), if_neg fun h => hjk ((hmem j).1 h).2.symm]

theorem execPumpclr_none (m : BitVec 4) {s : State} (hnone : s.pumpsIn 3 = []) (hidle : s.rowState ≠ 3) : execPumpclr m s = .next s := by
  refine congrArg Host.Outcome.next ((State.clearPumps_of_idle hidle _).trans ?_)
  rw [State.marksCleared, show s.pumpsIn puFailed = [] from hnone]
  rfl

/-- Spares take the place of missing duty pumps; a pump that is none stays. -/
theorem State.pumpSt_fillDuty {s : State} {j : Nat} (h : s.pumpSt j ≠ 1) : s.fillDuty.pumpSt j = s.pumpSt j := by
  refine (List.foldlRecOn _ _ (motive := fun t : State => t.pumpSt j = s.pumpSt j) rfl fun t ht k _ => ?_ :)
  split
  · next hc =>
    by_cases hjk : j = k
    · exact absurd (by rw [← ht, hjk]; exact hc.2.2) h
    · exact (State.pumpSt_wr_ne _ _ hjk).trans ht
  · exact ht

/-- A pump that fails, before spares fill the duty. -/
def State.pumpMarked (s : State) (k : Nat) : State :=
  ((s.wr F.ROW_PUMP_STATE k puFailed).raiseFor F.ROW_CAUSE_PUMP_FAIL 0 k 2).modRow fun r =>
    { r with stopping := if r.stopping = some k then none else r.stopping }

theorem State.failPump_of_runs {s : State} {k : Nat} (hhold : s.rowState = 3) (hfit : s.flag F.ROW_PUMP_FITTED k = true)
    (hst : s.pumpSt k ≠ 3) :
    s.failPump k = if (s.pumpMarked k).fillDuty.pumpsIn puDuty = [] then (s.pumpMarked k).fillDuty.record 9 1 6 k 3
      else (s.pumpMarked k).fillDuty := if_neg (by simp [hhold, hfit, hst])

/-- The registers a pump's failure writes. -/
def pumpRegs : List Reg := [.ROW_PUMP, .ROW_CAUSE] ++ recRegs

theorem State.pumpMarked_frame (s : State) (k : Nat) : Frame State.rowlogless pumpRegs s (s.pumpMarked k) :=
  (((Frame.refl State.rowlogless pumpRegs s).wr (fun _ => rfl) F.ROW_PUMP_STATE k puFailed (by decide)).raiseFor (fun _ => rfl)
    F.ROW_CAUSE_PUMP_FAIL 0 k 2 [] 0x3FF (by decide) (by decide)).other rfl rfl

theorem State.failPump_frame (s : State) (k : Nat) : Frame State.rowlogless pumpRegs s (s.failPump k) := by
  have hfill : Frame State.rowlogless pumpRegs s (s.pumpMarked k).fillDuty :=
    (s.pumpMarked_frame k).trans ((Frame.of_onlyRegs (fun _ => rfl) (State.fillDuty_onlyRegs _)).mono (by decide))
  exact .ite (Frame.refl _ _ s) (.ite (hfill.record (fun _ => rfl) _ _ _ _ _ _ _ (by decide)) hfill)

theorem State.pumpSt_pumpMarked (s : State) (k j : Nat) : (s.pumpMarked k).pumpSt j = if j = k then 3 else s.pumpSt j := by
  have hcause : ((s.wr F.ROW_PUMP_STATE k puFailed).raiseFor F.ROW_CAUSE_PUMP_FAIL 0 k 2).pumpSt j =
      (s.wr F.ROW_PUMP_STATE k puFailed).pumpSt j :=
    State.rd_congr ((State.reg_raiseFor _ _ _ _ _ _ _ _ _ (by decide)).trans (State.reg_wr_ne _ _ _ _ _ _ (by decide)))
  have hrow : (s.pumpMarked k).pumpSt j = ((s.wr F.ROW_PUMP_STATE k puFailed).raiseFor F.ROW_CAUSE_PUMP_FAIL 0 k 2).pumpSt j :=
    State.rd_congr_regs rfl _ _
  rw [hrow, hcause]
  split
  · next h => rw [h, State.pumpSt_wr_same _ _ (by decide)]
  · next h => exact State.pumpSt_wr_ne _ _ h

theorem State.flag_pumpMarked (s : State) (k : Nat) : (s.pumpMarked k).flag F.ROW_CAUSE_PUMP_FAIL = true := by
  have hcause : ((s.wr F.ROW_PUMP_STATE k puFailed).raiseFor F.ROW_CAUSE_PUMP_FAIL 0 k 2).flag F.ROW_CAUSE_PUMP_FAIL = true :=
    (State.flag_congr (State.reg_raiseFor _ _ _ _ _ _ _ _ _ (by decide))).trans (State.flag_wr_one _ _ _ (by decide))
  exact (State.flag_congr_regs rfl _ _).trans hcause

theorem State.failPump_effect {s : State} {k : Nat} (hhold : s.rowState = 3) (hfit : s.flag F.ROW_PUMP_FITTED k = true)
    (hst : s.pumpSt k ≠ 3) : (s.failPump k).pumpSt k = 3 ∧ (s.failPump k).flag F.ROW_CAUSE_PUMP_FAIL = true ∧
    ∀ j, j ≠ k → s.pumpSt j ≠ 1 → (s.failPump k).pumpSt j = s.pumpSt j := by
  have hmarked : (s.pumpMarked k).pumpSt k = 3 := (s.pumpSt_pumpMarked k k).trans (if_pos rfl)
  have hfill : SameRegs [.ROW_PUMP] (s.pumpMarked k) (s.pumpMarked k).fillDuty := (State.fillDuty_onlyRegs _).1
  have hfailed : (s.pumpMarked k).fillDuty.pumpSt k = 3 := (State.pumpSt_fillDuty (by rw [hmarked]; decide)).trans hmarked
  have hcause : (s.pumpMarked k).fillDuty.flag F.ROW_CAUSE_PUMP_FAIL = true := (hfill.flag (by decide) 0).trans (s.flag_pumpMarked k)
  have hothers : ∀ j, j ≠ k → s.pumpSt j ≠ 1 → (s.pumpMarked k).fillDuty.pumpSt j = s.pumpSt j := fun j hjk hj => by
    have hj' : (s.pumpMarked k).pumpSt j = s.pumpSt j := (s.pumpSt_pumpMarked k j).trans (if_neg hjk)
    exact (State.pumpSt_fillDuty (by rw [hj']; exact hj)).trans hj'
  rw [State.failPump_of_runs hhold hfit hst]
  generalize (s.pumpMarked k).fillDuty = u at hfailed hcause hothers
  split
  · have hrec : SameRegs recRegs u (u.record 9 1 6 k 3) := fun r i hr => State.reg_record _ _ _ _ _ _ _ _ _ _ hr
    exact ⟨(State.pumpSt_congr hrec (by decide) k).trans hfailed, (hrec.flag (by decide) 0).trans hcause,
      fun j hjk hj => (State.pumpSt_congr hrec (by decide) j).trans (hothers j hjk hj)⟩
  · exact ⟨hfailed, hcause, hothers⟩

theorem execPumpStatusTimeout_silent (k : Fin 4) {s : State} (hhold : s.rowState = 3) (hfit : s.flag F.ROW_PUMP_FITTED k = true)
    (hst : s.pumpSt k ≠ 3) :
    ∃ t, execPumpStatusTimeout k false s = .next t ∧ t.pumpSt k = 3 ∧ t.flag F.ROW_CAUSE_PUMP_FAIL = true ∧
      (∀ j, j < 4 → j ≠ k.val → s.pumpSt j ≠ 1 → t.pumpSt j = s.pumpSt j) ∧
      OnlyLogs [.ROW_PUMP, .ROW_CAUSE] { s with row := t.row } t := by
  obtain ⟨hfailed, hcause, hothers⟩ := State.failPump_effect hhold hfit hst
  exact ⟨_, rfl, hfailed, hcause, fun j _ hjk hj => hothers j hjk hj, (s.failPump_frame k).onlyLogs_row⟩

theorem execPumpStatusTimeout_idle (k : Fin 4) (b : Bool) {s : State} (h : s.rowState ≠ 3) : execPumpStatusTimeout k b s = .next s := by
  have hfail : s.failPump k = s := if_pos (by simp [h])
  unfold execPumpStatusTimeout
  rw [hfail, ite_self]

/-! ### Rotation -/

theorem State.mem_of_byHours {s : State} {most : Bool} {l : List Nat} {k : Nat} (h : s.byHours most l = some k) : k ∈ l := by
  have hall : ∀ j, s.byHours most l = some j → j ∈ l := by
    refine (List.foldlRecOn l _ (motive := fun b : Option Nat => ∀ j, b = some j → j ∈ l) (fun j hj => absurd hj.symm (Option.some_ne_none j)) fun b hb k hk j hj => ?_ :)
    cases b with
    | none => exact Option.some.inj hj ▸ hk
    | some i =>
      simp only at hj
      split at hj
      · exact Option.some.inj hj ▸ hk
      · exact hb j hj
  exact hall k h

/-- A state taken by a pump between two changes of the row's bookkeeping. -/
theorem State.modRow_wr_modRow (f g : Row → Row) (s : State) {n v : Nat} (hv : v < 8) :
    let t := ((s.modRow f).wr F.ROW_PUMP_STATE n v).modRow g
    t.pumpSt n = v ∧ (∀ j, j ≠ n → t.pumpSt j = s.pumpSt j) ∧ OnlyRegs [.ROW_PUMP] { s with row := t.row } t := by
  refine ⟨(State.rd_congr_regs rfl _ _).trans (State.pumpSt_wr_same _ n hv), fun j hj => ?_, ?_⟩
  · exact (State.rd_congr_regs rfl _ _).trans ((State.pumpSt_wr_ne _ _ hj).trans (State.rd_congr_regs rfl _ _))
  · exact (OnlyRegs.refl [.ROW_PUMP] { s with row := g (f s.row) }).wr F.ROW_PUMP_STATE n v (by decide)

theorem execPumpRotation_effect {o n : Nat} {s : State} (hhold : s.rowState = 3) (hrot : s.rd F.ROW_PUMP_CFG_ROTATE ≠ 0)
    (hold : s.byHours true (s.pumpsIn 2) = some o) (hnew : s.byHours false (s.pumpsIn 1) = some n) :
    ∃ t, execPumpRotation s = .next t ∧ t.pumpSt n = 2 ∧ t.pumpSt o = 2 ∧ t.row.stopping = some o ∧
      OnlyRegs [.ROW_PUMP] { s with row := t.row } t := by
  obtain ⟨-, -, hduty⟩ := State.mem_pumpsIn.1 (State.mem_of_byHours hold)
  obtain ⟨-, -, hspare⟩ := State.mem_pumpsIn.1 (State.mem_of_byHours hnew)
  have hne : o ≠ n := by rintro rfl; omega
  have hexec : execPumpRotation s = .next (((s.modRow fun r => { r with rotAt := s.up + s.rotPeriod }).wr F.ROW_PUMP_STATE n puDuty).modRow
      fun r => { r with stopping := some o }) := by
    unfold execPumpRotation
    rw [if_neg (by simp [hhold, hrot])]
    simp only [hold, hnew]
  obtain ⟨hstarts, hothers, hregs⟩ :=
    s.modRow_wr_modRow (fun r => { r with rotAt := s.up + s.rotPeriod }) (fun r => { r with stopping := some o }) (n := n) (v := puDuty) (by decide)
  exact ⟨_, hexec, hstarts, (hothers o hne).trans hduty, rfl, hregs⟩

theorem execRotationStopOld_effect {k : Nat} {s : State} (hstop : s.row.stopping = some k) (hhold : s.rowState = 3) (hduty : s.pumpSt k = 2) :
    ∃ t, execRotationStopOld s = .next t ∧ t.pumpSt k = 1 ∧ t.row = { s.row with stopping := none } ∧
      OnlyRegs [.ROW_PUMP] { s with row := t.row } t := by
  have hexec : execRotationStopOld s = .next ((s.modRow fun r => { r with stopping := none }).wr F.ROW_PUMP_STATE k puSpare) := by
    unfold execRotationStopOld
    rw [hstop]
    exact congrArg Host.Outcome.next (if_pos ⟨hhold, hduty⟩)
  exact ⟨_, hexec, State.pumpSt_wr_same _ k (by decide), rfl,
    (OnlyRegs.refl [.ROW_PUMP] { s with row := { s.row with stopping := none } }).wr F.ROW_PUMP_STATE k puSpare (by decide)⟩

theorem execRotationStopOld_none {s : State} (hstop : s.row.stopping = none) : execRotationStopOld s = .next s := by
  unfold execRotationStopOld
  rw [hstop]

/-! ### The sharing of an excess (R358) -/

/-- Caps from 600 W to 2,400 W for the members of `l` and no other. -/
def Shares (l : List Demand) (r : List (Nat × Rat)) : Prop :=
  (∀ p ∈ r, 600 ≤ p.2 ∧ p.2 ≤ 2400) ∧ ∀ i, i ∈ r.map Prod.fst ↔ i ∈ l.map Demand.i

/-- Demands as they are shared: from 600 W to 2,400 W, with a weight that is not negative. -/
def Clamped (l : List Demand) : Prop := ∀ x ∈ l, 600 ≤ x.d ∧ x.d ≤ 2400 ∧ 0 ≤ x.w

theorem shares_map {l : List Demand} {c : Demand → Rat} (hc : ∀ x ∈ l, 600 ≤ c x ∧ c x ≤ 2400) : Shares l (l.map fun x => (x.i, c x)) := by
  refine ⟨fun p hp => ?_, fun i => by rw [List.map_map]; rfl⟩
  obtain ⟨x, hx, rfl⟩ := List.mem_map.1 hp
  exact hc x hx

/-- Members that clamp at 2,400 W beside the others. -/
theorem shares_append {g : List Demand} {r : List (Nat × Rat)} (hr : Shares (g.filter fun x => x.d ≤ 2400) r) :
    Shares g (((g.filter fun x => 2400 < x.d).map fun x => (x.i, (2400 : Rat))) ++ r) := by
  obtain ⟨hbounds, hmem⟩ := hr
  refine ⟨fun p hp => ?_, fun i => ?_⟩
  · rcases List.mem_append.1 hp with hp | hp
    · obtain ⟨x, -, rfl⟩ := List.mem_map.1 hp
      exact ⟨by norm_num, le_refl _⟩
    · exact hbounds p hp
  · rw [List.map_append, List.mem_append, hmem, List.map_map]
    simp only [List.mem_map, List.mem_filter, decide_eq_true_eq, Function.comp_apply]
    constructor
    · rintro (⟨x, ⟨hx, -⟩, rfl⟩ | ⟨x, ⟨hx, -⟩, rfl⟩) <;> exact ⟨x, hx, rfl⟩
    · rintro ⟨x, hx, rfl⟩
      rcases lt_or_ge 2400 x.d with h | h
      · exact .inl ⟨x, ⟨hx, h⟩, rfl⟩
      · exact .inr ⟨x, ⟨hx, h⟩, rfl⟩

theorem shares_shareUp (n : Nat) {e : Rat} {l : List Demand} (he : 0 ≤ e) (hl : Clamped l) : Shares l (shareUp n e l) := by
  induction n generalizing e l with
  | zero => exact shares_map fun x hx => ⟨(hl x hx).1, (hl x hx).2.1⟩
  | succ n ih =>
    have htotal : 0 ≤ (l.map Demand.w).sum := List.sum_nonneg fun w hw => by
      obtain ⟨x, hx, rfl⟩ := List.mem_map.1 hw
      exact (hl x hx).2.2
    rw [shareUp]
    generalize (l.map Demand.w).sum = total at htotal
    set g : List Demand := l.map fun x => { x with d := x.d + e * x.w / total } with hg
    have hgl : ∀ i, i ∈ g.map Demand.i ↔ i ∈ l.map Demand.i := fun i => by rw [hg, List.map_map]; rfl
    have hmin : ∀ x ∈ g, 600 ≤ x.d ∧ 0 ≤ x.w := fun x hx => by
      obtain ⟨y, hy, rfl⟩ := List.mem_map.1 hx
      obtain ⟨hd, -, hw⟩ := hl y hy
      exact ⟨by have := div_nonneg (mul_nonneg he hw) htotal; simp only; linarith, hw⟩
    have hshares : Shares g (if (g.filter fun x => 2400 < x.d) = [] then g.map fun x => (x.i, x.d)
        else ((g.filter fun x => 2400 < x.d).map fun x => (x.i, (2400 : Rat))) ++
          shareUp n (((g.filter fun x => 2400 < x.d).map fun x => x.d - 2400).sum) (g.filter fun x => x.d ≤ 2400)) := by
      split
      · next hnone =>
        refine shares_map fun x hx => ⟨(hmin x hx).1, ?_⟩
        simpa using List.filter_eq_nil_iff.1 hnone x hx
      · refine shares_append (ih (List.sum_nonneg fun v hv => ?_) fun x hx => ?_)
        · obtain ⟨x, hx, rfl⟩ := List.mem_map.1 hv
          have : 2400 < x.d := by simpa using (List.mem_filter.1 hx).2
          linarith
        · obtain ⟨hxg, hx⟩ := List.mem_filter.1 hx
          exact ⟨(hmin x hxg).1, by simpa using hx, (hmin x hxg).2⟩
    exact ⟨hshares.1, fun i => (hshares.2 i).trans (hgl i)⟩

theorem shares_shareCaps (b : Rat) {l : List Demand} (hl : Clamped l) : Shares l (shareCaps b l).1 := by
  unfold shareCaps
  split
  · next h => rw [h]; exact ⟨fun p hp => absurd hp List.not_mem_nil, fun i => Iff.rfl⟩
  · split
    · exact shares_map fun x _ => ⟨le_refl _, by norm_num⟩
    · extract_lets sum
      split
      · next hsum => exact shares_shareUp 97 (sub_nonneg.2 hsum) hl
      · exact shares_map fun x hx => ⟨le_min (hl x hx).1 (le_max_left _ _), (min_le_left _ _).trans (hl x hx).2.1⟩

/-! ### The budget (R357) -/

/-- What the budget's computation leaves: all but registers, the recorder, free values and its own notes. -/
def State.budgetless (s : State) : State :=
  { s with regs := [], evr := {}, irqPulse := false, free := 0,
           row := { s.row with trim := 0, hiAt := none, invAt := none, invTold := false, runMs := [] } }

/-- All but registers, the recorder, free values and the row's bookkeeping. -/
def State.rowfreelogless (s : State) : State := { s with regs := [], evr := {}, irqPulse := false, free := 0, row := {} }

/-- The registers it writes. -/
def budgetRegs : List Reg := [.ROW_BUDGET, .ROW_PUMP, .ROW_CAUSE] ++ recRegs

theorem OnlyFree.budget {s t : State} (h : OnlyFree s t) : Frame State.budgetless budgetRegs s t :=
  (Frame.refl _ _ s).other (congrArg State.regs h :) ((congrArg State.budgetless (show t = { s with free := t.free } from h) :).trans rfl)

theorem State.trimStep_frame (s : State) : Frame State.budgetless budgetRegs s s.trimStep := by
  have hshow : ∀ t : State, Frame State.budgetless budgetRegs t ((t.roundNat 7 t.row.trim).2.wr F.ROW_BUDGET_TRIM 0 (t.roundNat 7 t.row.trim).1) :=
    fun t => (t.roundNat_free 7 t.row.trim).budget.wr (fun _ => rfl) _ _ _ (by decide)
  unfold State.trimStep
  extract_lets k t v
  have hmoved : Frame State.budgetless budgetRegs s t := by
    simp only [t]
    split
    · exact (Frame.refl _ _ s).other rfl rfl
    · exact (Frame.refl _ _ s).other rfl rfl
  clear_value t
  exact hmoved.trans (hshow t)

theorem State.runHours_frame (s : State) : Frame State.budgetless budgetRegs s s.runHours := by
  refine (Frame.refl _ _ s).foldl _ fun v k => ?_
  exact .ite ((Frame.refl _ _ v).other rfl rfl) (((Frame.refl _ _ v).count (fun _ => rfl) F.ROW_PUMP_HOURS k (by decide)).other rfl rfl)

theorem State.showBudget_frame (s : State) (b : Int) : Frame State.budgetless budgetRegs s (s.showBudget b) := by
  have hfree : OnlyFree s (s.freeNat (2 ^ 18)).2 := rfl
  exact .ite ((Frame.refl _ _ s).wr (fun _ => rfl) _ _ _ (by decide)) (hfree.budget.wr (fun _ => rfl) _ _ _ (by decide))

/-- The budget when its inputs are missing: after 10 s, shown as the sum of the reserves, with BUDGET_INV. -/
def State.budgetTold (s : State) : State :=
  if s.row.invTold then s else (s.modRow fun r => { r with invTold := true }).raise F.ROW_CAUSE_BUDGET_INV

theorem State.budgetTold_frame (s : State) : Frame State.budgetless budgetRegs s s.budgetTold := by
  have htold : Frame State.budgetless budgetRegs s (s.modRow fun r => { r with invTold := true }) := (Frame.refl _ _ s).other rfl rfl
  exact .ite (Frame.refl _ _ s) (htold.raise (fun _ => rfl) _ _ _ _ _ (by decide) (by decide))

/-- The time since when the inputs are missing, noted. -/
def State.missingSince (s : State) (a : Nat) : State := s.modRow fun r => { r with invAt := some a }

theorem State.missingSince_frame (s : State) (a : Nat) : Frame State.budgetless budgetRegs s (s.missingSince a) :=
  (Frame.refl _ _ s).other rfl rfl

/-- The sum of the members' reserves. -/
def State.reserves (s : State) : Int := ((s.rowMembers.map s.reserve).sum : Nat)

theorem State.budgetStep_of_none {s : State} (h : s.budget = none) :
    s.budgetStep.2 = ((s.missingSince (s.row.invAt.getD s.up)).showBudget (s.missingSince (s.row.invAt.getD s.up)).reserves).budgetTold ∨
      s.budgetStep.2 = s.missingSince (s.row.invAt.getD s.up) := by
  unfold State.budgetStep State.budgetTold State.missingSince State.reserves
  rw [h]
  dsimp only
  generalize s.row.invAt.getD s.up = a
  generalize a + 10000000000 = due
  split
  · dsimp only
    exact .inl rfl
  · exact .inr rfl

theorem State.budgetStep_frame (s : State) : Frame State.budgetless budgetRegs s s.budgetStep.2 := by
  cases h : s.budget with
  | some b =>
    have hstep : s.budgetStep.2 = (s.showBudget b).modRow fun r => { r with invAt := none, invTold := false } := by
      unfold State.budgetStep; rw [h]
    exact hstep ▸ (s.showBudget_frame b).other rfl rfl
  | none =>
    obtain hstep | hstep := State.budgetStep_of_none h
    · exact hstep ▸ ((s.missingSince_frame _).trans (State.showBudget_frame _ _)).trans (State.budgetTold_frame _)
    · exact hstep ▸ s.missingSince_frame _

/-! ### The caps (R358) -/

/-- A member's cap, and whether it is silent. -/
def State.memberSet (s : State) (i c b : Nat) : State := (s.wr F.ROW_MEMBER_CAP i c).wr F.ROW_MEMBER_SILENT i b

theorem State.memberSet_onlyRegs (s : State) (i c b : Nat) : OnlyRegs [.ROW_MEMBER] s (s.memberSet i c b) :=
  ((OnlyRegs.refl _ s).wr _ _ _ (by decide)).wr _ _ _ (by decide)

theorem State.reg_memberSet_ne (s : State) {i j : Nat} (c b : Nat) (h : j ≠ i) : (s.memberSet i c b).reg .ROW_MEMBER j = s.reg .ROW_MEMBER j :=
  ((State.reg_setReg _ _ _ _ _ _).trans (if_neg fun e => h e.2)).trans ((State.reg_setReg _ _ _ _ _ _).trans (if_neg fun e => h e.2))

theorem State.memberSet_effect (s : State) (i c b : Nat) :
    (s.memberSet i c b).rd F.ROW_MEMBER_CAP i = c % 4096 ∧ (s.memberSet i c b).flag F.ROW_MEMBER_SILENT i = decide (b % 2 ≠ 0) :=
  ⟨(State.rd_wr_ne _ _ _ _ _ _ (.inr (by decide))).trans (State.rd_wr_same _ _ _ _ (by decide)), State.flag_wr_same _ _ _ _ (by decide)⟩


theorem State.reg_foldl_member {α : Type} (idx : α → Nat) {f : State → α → State}
    (hf : ∀ v x j, j ≠ idx x → (f v x).reg .ROW_MEMBER j = v.reg .ROW_MEMBER j) (l : List α) (s : State) {j : Nat} (hj : j ∉ l.map idx) :
    (l.foldl f s).reg .ROW_MEMBER j = s.reg .ROW_MEMBER j := by
  refine List.foldlRecOn l f (motive := fun t : State => t.reg .ROW_MEMBER j = s.reg .ROW_MEMBER j) rfl fun t ht x hx => ?_
  exact (hf t x j fun h => hj (h ▸ List.mem_map_of_mem hx)).trans ht

/-- A silent member is held at its reserve. -/
def State.markSilent (s : State) (i : Nat) : State := s.memberSet i (s.reserve i) 1

/-- A member that reports gets its cap. -/
def State.capGiven (s : State) (x : Nat × Rat) : State := s.memberSet x.1 x.2.floor.toNat 0

theorem State.reg_markSilent_ne (s : State) (i j : Nat) (h : j ≠ i) : (s.markSilent i).reg .ROW_MEMBER j = s.reg .ROW_MEMBER j :=
  s.reg_memberSet_ne _ _ h

theorem State.reg_capGiven_ne (s : State) (x : Nat × Rat) (j : Nat) (h : j ≠ x.1) : (s.capGiven x).reg .ROW_MEMBER j = s.reg .ROW_MEMBER j :=
  s.reg_memberSet_ne _ _ h

theorem capActs_getD_le (w : Nat) : (capActs w).getD 0 ≤ 2400 := by
  unfold capActs
  split
  · exact Nat.zero_le _
  · show max 600 (min 2400 w) ≤ 2400
    omega

theorem State.reserve_lt (s : State) (i : Nat) : s.reserve i < 4096 := by
  have hcap : s.rd F.ROW_MEMBER_CAP i < 4096 := fieldOf_lt _ F.ROW_MEMBER_CAP
  have hstale := capActs_getD_le (s.rd F.ROW_CFG_STALE_CAP)
  unfold State.reserve
  omega

theorem State.reserve_congr {s t : State} {i : Nat} (hm : t.reg .ROW_MEMBER i = s.reg .ROW_MEMBER i) (hc : t.reg .ROW_CFG 0 = s.reg .ROW_CFG 0) :
    t.reserve i = s.reserve i := by
  have hcap : t.rd F.ROW_MEMBER_CAP i = s.rd F.ROW_MEMBER_CAP i := State.rd_congr hm
  have hstale : t.rd F.ROW_CFG_STALE_CAP = s.rd F.ROW_CFG_STALE_CAP := State.rd_congr hc
  rw [State.reserve, State.reserve, hcap, hstale]

theorem State.foldl_markSilent {l : List Nat} (hl : l.Nodup) (s : State) {i : Nat} (hi : i ∈ l) :
    (l.foldl (fun (s : State) (i : Nat) => s.markSilent i) s).rd F.ROW_MEMBER_CAP i = s.reserve i ∧
    (l.foldl (fun (s : State) (i : Nat) => s.markSilent i) s).flag F.ROW_MEMBER_SILENT i = true := by
  induction l generalizing s with
  | nil => exact absurd hi List.not_mem_nil
  | cons j l ih =>
    obtain ⟨hj, hnodup⟩ := List.nodup_cons.1 hl
    rw [List.foldl_cons]
    by_cases hij : i = j
    · subst hij
      have hkeep := State.reg_foldl_member (fun i : Nat => i) (fun v x j h => v.reg_markSilent_ne x j h) l (s.markSilent i) (j := i) (by simpa using hj)
      obtain ⟨hcap, hsilent⟩ := s.memberSet_effect i (s.reserve i) 1
      exact ⟨(State.rd_congr hkeep).trans (hcap.trans (Nat.mod_eq_of_lt (s.reserve_lt i))), (State.flag_congr hkeep).trans hsilent⟩
    · obtain ⟨hcap, hsilent⟩ := ih hnodup (s.markSilent j) ((List.mem_cons.1 hi).resolve_left hij)
      exact ⟨hcap.trans (State.reserve_congr (s.reg_markSilent_ne j i hij) ((s.memberSet_onlyRegs j _ _).1 _ _ (by decide))), hsilent⟩

theorem State.foldl_capGiven {l : List (Nat × Rat)} (hl : ∀ p ∈ l, 600 ≤ p.2 ∧ p.2 ≤ 2400) (s : State) {i : Nat} (hi : i ∈ l.map Prod.fst) :
    let t := l.foldl (fun (s : State) (x : Nat × Rat) => s.capGiven x) s
    600 ≤ t.rd F.ROW_MEMBER_CAP i ∧ t.rd F.ROW_MEMBER_CAP i ≤ 2400 ∧ t.flag F.ROW_MEMBER_SILENT i = false := by
  induction l generalizing s with
  | nil => exact absurd hi List.not_mem_nil
  | cons p l ih =>
    rw [List.foldl_cons]
    by_cases hlater : i ∈ l.map Prod.fst
    · exact ih (fun q hq => hl q (List.mem_cons_of_mem _ hq)) (s.capGiven p) hlater
    · have hip : i = p.1 := (List.mem_cons.1 hi).resolve_right hlater
      subst hip
      have hkeep := State.reg_foldl_member Prod.fst (fun v x j h => v.reg_capGiven_ne x j h) l (s.capGiven p) hlater
      obtain ⟨hcap, hsilent⟩ := s.memberSet_effect p.1 p.2.floor.toNat 0
      obtain ⟨hmin, hmax⟩ := hl p List.mem_cons_self
      have hmin' : 600 ≤ p.2.floor := Rat.le_floor_iff.2 (by exact_mod_cast hmin)
      have hmax' : p.2.floor ≤ 2400 := by exact_mod_cast (Rat.floor_le p.2).trans hmax
      have hcap' : (l.foldl (fun (s : State) (x : Nat × Rat) => s.capGiven x) (s.capGiven p)).rd F.ROW_MEMBER_CAP p.1 = p.2.floor.toNat :=
        (State.rd_congr hkeep).trans (hcap.trans (Nat.mod_eq_of_lt (by omega)))
      exact ⟨by rw [hcap']; omega, by rw [hcap']; omega, (State.flag_congr hkeep).trans hsilent⟩

/-- The members no status came of. -/
def State.quietMembers (s : State) : List Nat := s.rowMembers.filter s.silentNow

/-- The demands of the members that report. -/
def State.demands (s : State) : List Demand :=
  (s.rowMembers.filter fun i => !(s.silentNow i)).map fun i =>
    ({ i := i, d := max 600 (min 2400 ((s.rd F.ROW_MEMBER_P i : Rat) + s.rd F.ROW_HEAT_CFG2_HEADROOM)), w := max 1 (s.rd F.ROW_MEMBER_WEIGHT i) } : Demand)

/-- What they get of a budget. -/
def State.sharesOf (s : State) (b : Int) : List (Nat × Rat) × Bool :=
  shareCaps ((b - ((s.quietMembers.map s.reserve).sum : Nat) : Int) : Rat) s.demands

/-- All members have their caps. -/
def State.capped (s : State) (b : Int) : State :=
  (s.sharesOf b).1.foldl (fun (s : State) (x : Nat × Rat) => s.capGiven x) (s.quietMembers.foldl (fun (s : State) (i : Nat) => s.markSilent i) s)

/-- A budget that is short is told once. -/
def State.shortTold (s : State) (short : Bool) : State := if short && !s.row.short then s.raise F.ROW_CAUSE_ROW_SHORT else s

theorem State.shareStep_eq (s : State) (b : Int) : s.shareStep b = ((s.capped b).shortTold (s.sharesOf b).2).modRow fun x =>
    { x with short := (s.sharesOf b).2, capSeq := (x.capSeq + 1) % 65536 } := rfl

theorem State.mem_rowMembers {s : State} {i : Nat} : i ∈ s.rowMembers ↔ i < 96 ∧ s.flag F.ROW_MEMBER_VALID i = true := by
  simp [State.rowMembers]

theorem State.mem_quietMembers {s : State} {i : Nat} : i ∈ s.quietMembers ↔ i ∈ s.rowMembers ∧ s.silentNow i = true := List.mem_filter

theorem State.nodup_quietMembers (s : State) : s.quietMembers.Nodup := (List.nodup_range.filter _).filter _

theorem State.mem_demands {s : State} {i : Nat} : i ∈ s.demands.map Demand.i ↔ i ∈ s.rowMembers ∧ s.silentNow i = false := by
  simp [State.demands]

theorem State.clamped_demands (s : State) : Clamped s.demands := fun x hx => by
  obtain ⟨i, -, rfl⟩ := List.mem_map.1 hx
  exact ⟨le_max_left _ _, max_le (by norm_num) (min_le_left _ _), le_max_of_le_left zero_le_one⟩

theorem State.shares_sharesOf (s : State) (b : Int) : Shares s.demands (s.sharesOf b).1 := shares_shareCaps _ s.clamped_demands

theorem State.capped_onlyRegs (s : State) (b : Int) : OnlyRegs [.ROW_MEMBER] s (s.capped b) :=
  ((OnlyRegs.refl _ s).foldl _ fun _ _ hv => hv.trans (State.memberSet_onlyRegs _ _ _ _)).foldl _
    fun _ _ hv => hv.trans (State.memberSet_onlyRegs _ _ _ _)

theorem State.capped_silent {s : State} {i : Nat} (b : Int) (hi : i ∈ s.rowMembers) (hs : s.silentNow i = true) :
    (s.capped b).rd F.ROW_MEMBER_CAP i = s.reserve i ∧ (s.capped b).flag F.ROW_MEMBER_SILENT i = true := by
  obtain ⟨-, hshares⟩ := s.shares_sharesOf b
  have hout : i ∉ (s.sharesOf b).1.map Prod.fst := fun h => by simpa [hs] using State.mem_demands.1 ((hshares i).1 h)
  have hkeep := State.reg_foldl_member Prod.fst (fun v x j h => v.reg_capGiven_ne x j h) (s.sharesOf b).1
    (s.quietMembers.foldl (fun (s : State) (i : Nat) => s.markSilent i) s) hout
  obtain ⟨hcap, hsilent⟩ := State.foldl_markSilent s.nodup_quietMembers s (State.mem_quietMembers.2 ⟨hi, hs⟩)
  exact ⟨(State.rd_congr hkeep).trans hcap, (State.flag_congr hkeep).trans hsilent⟩

theorem State.capped_heard {s : State} {i : Nat} (b : Int) (hi : i ∈ s.rowMembers) (hs : s.silentNow i = false) :
    600 ≤ (s.capped b).rd F.ROW_MEMBER_CAP i ∧ (s.capped b).rd F.ROW_MEMBER_CAP i ≤ 2400 ∧ (s.capped b).flag F.ROW_MEMBER_SILENT i = false := by
  obtain ⟨hbounds, hshares⟩ := s.shares_sharesOf b
  exact State.foldl_capGiven hbounds _ ((hshares i).2 (State.mem_demands.2 ⟨hi, hs⟩))

theorem State.capped_other {s : State} {i : Nat} (b : Int) (hi : i ∉ s.rowMembers) : (s.capped b).reg .ROW_MEMBER i = s.reg .ROW_MEMBER i := by
  obtain ⟨-, hshares⟩ := s.shares_sharesOf b
  refine (State.reg_foldl_member Prod.fst (fun v x j h => v.reg_capGiven_ne x j h) _ _
    fun h => hi (State.mem_demands.1 ((hshares i).1 h)).1).trans ?_
  exact State.reg_foldl_member (fun i : Nat => i) (fun v x j h => v.reg_markSilent_ne x j h) _ s
    fun h => hi (State.mem_quietMembers.1 (by simpa using h)).1

theorem State.shortTold_frame (s : State) (b : Bool) : Frame State.logless ([.ROW_CAUSE] ++ recRegs) s (s.shortTold b) :=
  .ite ((Frame.refl _ _ s).raise (fun _ => rfl) _ _ _ _ _ (by decide) (by decide)) (Frame.refl _ _ s)

/-- ROW_BUDGET_COMPUTE's states: after the budget, and its end. -/
def State.budgeted (s : State) : State := s.trimStep.runHours.budgetStep.2

theorem State.budgeted_frame (s : State) : Frame State.budgetless budgetRegs s s.budgeted :=
  (s.trimStep_frame.trans s.trimStep.runHours_frame).trans s.trimStep.runHours.budgetStep_frame

theorem State.silentNow_congr {s t : State} (h : t.budgetless = s.budgetless) : t.silentNow = s.silentNow := by
  have hheard : t.row.heard = s.row.heard := (congrArg (fun u : State => u.row.heard) h :)
  have hup : t.up = s.up := (congrArg State.up h :)
  funext i
  rw [State.silentNow, State.silentNow, hheard, hup]

/-- After the caps: the members as they have them, and all that may have changed. -/
theorem State.shareStep_effect (s : State) (b : Int) :
    (s.shareStep b).row.capSeq = (s.row.capSeq + 1) % 65536 ∧
    (∀ i, (s.shareStep b).reg .ROW_MEMBER i = (s.capped b).reg .ROW_MEMBER i) ∧
    Frame State.rowlogless ([.ROW_MEMBER, .ROW_CAUSE] ++ recRegs) s (s.shareStep b) := by
  have htold := (s.capped b).shortTold_frame (s.sharesOf b).2
  have hcapped := s.capped_onlyRegs b
  rw [State.shareStep_eq]
  generalize s.capped b = u at htold hcapped
  generalize u.shortTold (s.sharesOf b).2 = v at htold
  have hseq : v.row.capSeq = s.row.capSeq :=
    (congrArg (fun t : State => t.row.capSeq) htold.2 :).trans (congrArg (fun t : State => t.row.capSeq) hcapped.2 :)
  have hall : Frame State.rowlogless ([.ROW_MEMBER, .ROW_CAUSE] ++ recRegs) s v :=
    ((Frame.of_onlyRegs (k := State.rowlogless) (fun _ => rfl) hcapped).mono (by decide)).trans
      ((Frame.forget (k := State.logless) (fun _ => rfl) htold).mono (by decide))
  exact ⟨congrArg (fun n : Nat => (n + 1) % 65536) hseq, fun i => htold.1 _ _ (by decide), hall.other rfl rfl⟩

theorem execRowBudgetCompute_effect {s : State} (hhold : s.rowState = 3) :
    ∃ t, execRowBudgetCompute s = .next t ∧ t.row.capSeq = (s.row.capSeq + 1) % 65536 ∧
    (∀ i, i < 96 → s.flag F.ROW_MEMBER_VALID i = true → s.silentNow i = true →
      t.rd F.ROW_MEMBER_CAP i = s.reserve i ∧ t.flag F.ROW_MEMBER_SILENT i = true) ∧
    (∀ i, i < 96 → s.flag F.ROW_MEMBER_VALID i = true → s.silentNow i = false →
      600 ≤ t.rd F.ROW_MEMBER_CAP i ∧ t.rd F.ROW_MEMBER_CAP i ≤ 2400 ∧ t.flag F.ROW_MEMBER_SILENT i = false) ∧
    (∀ i, i < 96 → s.flag F.ROW_MEMBER_VALID i = false → t.reg .ROW_MEMBER i = s.reg .ROW_MEMBER i) ∧
    OnlyLogs [.ROW_BUDGET, .ROW_PUMP, .ROW_MEMBER, .ROW_CAUSE] { s with row := t.row, free := t.free } t := by
  have hexec : execRowBudgetCompute s = .next (s.budgeted.shareStep s.trimStep.runHours.budgetStep.1) := if_neg (by simp [hhold])
  have hbudget := s.budgeted_frame
  generalize s.trimStep.runHours.budgetStep.1 = b at hexec
  generalize s.budgeted = u at hexec hbudget
  obtain ⟨hseq, hmember, hshare⟩ := u.shareStep_effect b
  have hkept : ∀ i, u.reg .ROW_MEMBER i = s.reg .ROW_MEMBER i := fun i => hbudget.1 _ _ (by decide)
  have hreserve : ∀ i, u.reserve i = s.reserve i := fun i => State.reserve_congr (hkept i) (hbudget.1 _ _ (by decide))
  have hvalid : ∀ i, u.flag F.ROW_MEMBER_VALID i = s.flag F.ROW_MEMBER_VALID i := fun i => State.flag_congr (hkept i)
  have hsilent := State.silentNow_congr hbudget.2
  have hmem : ∀ i, i < 96 → s.flag F.ROW_MEMBER_VALID i = true → i ∈ u.rowMembers := fun i hi hv =>
    State.mem_rowMembers.2 ⟨hi, (hvalid i).trans hv⟩
  generalize u.shareStep b = t at hexec hseq hmember hshare
  refine ⟨t, hexec, ?_, fun i hi hv hs => ?_, fun i hi hv hs => ?_, fun i _ hv => ?_, ?_⟩
  · rw [hseq, show u.row.capSeq = s.row.capSeq from (congrArg (fun v : State => v.row.capSeq) hbudget.2 :)]
  · obtain ⟨hcap, hmark⟩ := State.capped_silent b (hmem i hi hv) ((congrFun hsilent i).trans hs)
    exact ⟨(State.rd_congr (hmember i)).trans (hcap.trans (hreserve i)), (State.flag_congr (hmember i)).trans hmark⟩
  · obtain ⟨hmin, hmax, hmark⟩ := State.capped_heard b (hmem i hi hv) ((congrFun hsilent i).trans hs)
    have hcap : t.rd F.ROW_MEMBER_CAP i = (u.capped b).rd F.ROW_MEMBER_CAP i := State.rd_congr (hmember i)
    exact ⟨by rw [hcap]; exact hmin, by rw [hcap]; exact hmax, (State.flag_congr (hmember i)).trans hmark⟩
  · have hout : i ∉ u.rowMembers := fun h => by
      have := (State.mem_rowMembers.1 h).2
      rw [hvalid, hv] at this
      exact Bool.false_ne_true this
    exact (hmember i).trans ((State.capped_other b hout).trans (hkept i))
  · have hall : Frame State.rowfreelogless ([.ROW_BUDGET, .ROW_PUMP, .ROW_MEMBER, .ROW_CAUSE] ++ recRegs) s t :=
      ((Frame.forget (k := State.budgetless) (fun _ => rfl) hbudget).mono (by decide)).trans
        ((Frame.forget (k := State.rowlogless) (fun _ => rfl) hshare).mono (by decide))
    exact ⟨hall.1, congrArg (fun v : State => { v with row := t.row, free := t.free }) hall.2⟩

theorem execRowBudgetCompute_idle {s : State} (h : s.rowState ≠ 3) : execRowBudgetCompute s = .next s := if_pos h

/-! ### The cap of a member (R276, R359, R360) -/

theorem State.capNow_congr {s t : State} (hc : t.reg .PWR_CAP_CFG 0 = s.reg .PWR_CAP_CFG 0) (ht : t.reg .PWR_CAP_TRAY 0 = s.reg .PWR_CAP_TRAY 0)
    (hr : t.reg .PWR_CAP_ROW 0 = s.reg .PWR_CAP_ROW 0) : t.capNow = s.capNow := by
  have hcfg : t.rd F.PWR_CAP_CFG_WATTS = s.rd F.PWR_CAP_CFG_WATTS := State.rd_congr hc
  have htray : t.rd F.PWR_CAP_TRAY_WATTS = s.rd F.PWR_CAP_TRAY_WATTS := State.rd_congr ht
  have hrow : t.rd F.PWR_CAP_ROW_WATTS = s.rd F.PWR_CAP_ROW_WATTS := State.rd_congr hr
  rw [State.capNow, State.capNow, hcfg, htray, hrow]

theorem State.capNow_le (s : State) : s.capNow.1 ≤ 2400 := by
  unfold State.capNow
  refine List.foldlRecOn _ _ (motive := fun r : Nat × Nat => r.1 ≤ 2400) ?_ fun r hr x _ => ?_
  · exact le_refl 2400
  unfold capActs
  split_ifs
  · exact hr
  · show (if r.2 = 0 ∨ max 600 (min 2400 x.1) < r.1 then (max 600 (min 2400 x.1), x.2) else r).1 ≤ 2400
    split
    · show max 600 (min 2400 x.1) ≤ 2400
      omega
    · exact hr

theorem State.recap_effect (s : State) : s.recap.rd F.PWR_CAP_EFF_WATTS = s.recap.capNow.1 := by
  have hnow : s.recap.capNow = s.capNow :=
    State.capNow_congr (s.recap_onlyLogs.1 _ _ (by decide)) (s.recap_onlyLogs.1 _ _ (by decide)) (s.recap_onlyLogs.1 _ _ (by decide))
  rw [hnow]
  unfold State.recap
  extract_lets old c s1
  have hshown : s1.rd F.PWR_CAP_EFF_WATTS = c.1 :=
    (State.rd_wr_ne _ _ _ _ _ _ (.inr (by decide))).trans
      ((State.rd_wr_same _ _ _ _ (by decide)).trans (Nat.mod_eq_of_lt (lt_of_le_of_lt s.capNow_le (by decide))))
  clear_value old s1
  split
  · exact hshown
  · exact (State.rd_raise _ _ _ _ _ _ _ _ (by decide)).trans ((State.rd_wr_ne _ _ _ _ _ _ (.inl (by decide))).trans hshown)

/-- The effective cap leaves the row's cause. -/
theorem State.flag_recap_rowStale (s : State) : s.recap.flag F.PWR_CAUSE_ROW_STALE = s.flag F.PWR_CAUSE_ROW_STALE := by
  unfold State.recap
  extract_lets old c s1
  have hshown : s1.flag F.PWR_CAUSE_ROW_STALE = s.flag F.PWR_CAUSE_ROW_STALE :=
    (State.flag_wr_ne _ _ _ _ _ _ (.inl (by decide))).trans (State.flag_wr_ne _ _ _ _ _ _ (.inl (by decide)))
  clear_value old c s1
  split
  · exact hshown
  · exact (State.flag_raise_ne _ _ _ _ _ _ _ _ (by decide)).trans hshown

/-- The row's cap, before the effective one follows. -/
def State.rowCapSet (s : State) (w : Nat) (stale : Bool) : State := (s.wr F.PWR_CAP_ROW_WATTS 0 w).wr F.PWR_CAP_ROW_STALE 0 (if stale then 1 else 0)

theorem State.rowCapSet_effect (s : State) {w : Nat} (hw : w < 4096) (stale : Bool) :
    (s.rowCapSet w stale).rd F.PWR_CAP_ROW_WATTS = w ∧ (s.rowCapSet w stale).flag F.PWR_CAP_ROW_STALE = stale ∧
    OnlyRegs [.PWR_CAP_ROW] s (s.rowCapSet w stale) := by
  refine ⟨?_, ?_, ((OnlyRegs.refl _ s).wr _ _ _ (by decide)).wr _ _ _ (by decide)⟩
  · exact (State.rd_wr_ne _ _ _ _ _ _ (.inr (by decide))).trans ((State.rd_wr_same _ _ _ _ (by decide)).trans (Nat.mod_eq_of_lt hw))
  · rw [State.rowCapSet, State.flag_wr_same _ _ _ _ (by decide)]; cases stale <;> rfl

theorem execCapTableStale_effect {s : State} (hmember : s.flag F.ROW_CFG_MEMBER = true) (htable : s.row.tableAt.isSome = true)
    (hfresh : s.flag F.PWR_CAP_ROW_STALE = false) :
    ∃ t, execCapTableStale s = .next t ∧
    t.flag F.PWR_CAP_ROW_STALE = true ∧ t.rd F.PWR_CAP_ROW_WATTS = s.rd F.ROW_CFG_STALE_CAP ∧ t.flag F.PWR_CAUSE_ROW_STALE = true ∧
    t.rd F.PWR_CAP_EFF_WATTS = t.capNow.1 ∧ OnlyLogs [.PWR_CAP_ROW, .PWR_CAP_EFF, .PWR_CAUSE] s t := by
  have hcap : s.rowCap (s.rd F.ROW_CFG_STALE_CAP) true =
      ((s.rowCapSet (s.rd F.ROW_CFG_STALE_CAP) true).raise F.PWR_CAUSE_ROW_STALE 0 1).recap :=
    congrArg State.recap (if_pos (by rw [hfresh]; rfl))
  obtain ⟨hwatts, hstale, hset⟩ := s.rowCapSet_effect (w := s.rd F.ROW_CFG_STALE_CAP) (fieldOf_lt _ _) true
  generalize s.rowCapSet (s.rd F.ROW_CFG_STALE_CAP) true = u at hcap hwatts hstale hset
  have hset' : OnlyLogs [.PWR_CAP_ROW, .PWR_CAUSE] s u := (Frame.of_onlyRegs (k := State.logless) (fun _ => rfl) hset).mono (by decide)
  have hraised : OnlyLogs [.PWR_CAP_ROW, .PWR_CAUSE] s (u.raise F.PWR_CAUSE_ROW_STALE 0 1) := hset'.raise _ _ _ _ _ (by decide)
  have hcause : (u.raise F.PWR_CAUSE_ROW_STALE 0 1).flag F.PWR_CAUSE_ROW_STALE = true := State.flag_raise_same _ _ _ _ _ _ (by decide)
  have hkeep : ∀ i, (u.raise F.PWR_CAUSE_ROW_STALE 0 1).reg .PWR_CAP_ROW i = u.reg .PWR_CAP_ROW i := fun i =>
    State.reg_raiseFor _ _ _ _ _ _ _ _ _ (by decide) |>.trans (State.reg_wr_ne _ _ _ _ _ _ (by decide))
  refine ⟨_, (if_pos ⟨hmember, htable, hfresh⟩ : execCapTableStale s = _).trans (congrArg Host.Outcome.next hcap), ?_, ?_, ?_, State.recap_effect _,
    (hraised.mono (by decide)).trans ((State.recap_onlyLogs _).mono (by decide))⟩
  · exact (State.flag_congr (((State.recap_onlyLogs _).1 _ _ (by decide)).trans (hkeep 0))).trans hstale
  · exact (State.rd_congr (((State.recap_onlyLogs _).1 _ _ (by decide)).trans (hkeep 0))).trans hwatts
  · exact (State.flag_recap_rowStale _).trans hcause

theorem execCapTableStale_none {s : State}
    (h : s.flag F.ROW_CFG_MEMBER = false ∨ s.row.tableAt = none ∨ s.flag F.PWR_CAP_ROW_STALE = true) : execCapTableStale s = .next s := by
  refine if_neg fun ⟨hmember, htable, hfresh⟩ => ?_
  rcases h with h | h | h
  · exact Bool.false_ne_true (h.symm.trans hmember)
  · rw [h] at htable; exact Bool.false_ne_true htable
  · exact Bool.false_ne_true (hfresh.symm.trans h)

/-- Settles O48: the pumps' states under each command, the rotation's two halves, the reserve of silent members and the bounds of
the others' caps, and the stale cap of a member. -/
theorem rowPumpsBudgetAndCaps : Obligations.RowPumpsBudgetAndCaps := by
  unfold Obligations.RowPumpsBudgetAndCaps
  refine ⟨fun k s => execPumpclr_effect k, fun m s => execPumpclr_none m, fun k s => execPumpStatusTimeout_silent k,
    fun k s hst => if_pos (by simp [State.pumpDriven, hst]), fun k b s => execPumpStatusTimeout_idle k b, fun o n s => execPumpRotation_effect,
    fun s h => if_pos ?_, fun k s => execRotationStopOld_effect, fun s => execRotationStopOld_none, fun s => rfl,
    fun s => execRowBudgetCompute_idle, fun s => execRowBudgetCompute_effect, fun s => execCapTableStale_effect, fun s => execCapTableStale_none⟩
  simpa using h

end Sys2Proof.Machine
end

section
/-! PROOFS.  Clarn cycles, the schedule, transmission and bus errors, the event and receive queues (R365 to R388). -/

namespace Sys2Proof.Machine

/-! ### Bits -/

theorem testBit_packBits (l : List Bool) (n : Nat) : (packBits l).testBit n = l[n]?.getD false := by
  induction l generalizing n with
  | nil => simp [packBits]
  | cons b l ih =>
    have hodd : (packBits (b :: l)).testBit 0 = b := by
      rw [packBits, Nat.testBit_zero]
      cases b <;> simp
    cases n with
    | zero => exact hodd
    | succ n =>
      have hhalf : packBits (b :: l) / 2 = packBits l := by
        rw [packBits]
        split <;> omega
      rw [Nat.testBit_succ, hhalf, ih, List.getElem?_cons_succ]

/-- A bit of a register is the field of that bit. -/
theorem State.getLsbD_eq_flag (s : State) (r : Reg) (i n : Nat) : (s.reg r i).getLsbD n = s.flag ⟨r, n, n⟩ i := by
  show (s.reg r i).toNat.testBit n = decide ((s.reg r i).toNat / 2 ^ n % 2 ^ (n + 1 - n) ≠ 0)
  rw [Nat.add_sub_cancel_left, Nat.pow_one, Nat.testBit_eq_decide_div_mod_eq]
  rcases Nat.mod_two_eq_zero_or_one ((s.reg r i).toNat / 2 ^ n) with h | h <;> simp [h]

/-! ### Queued frames (R366, R378, R379) -/

/-- The registers a queued frame can write. -/
def offerRegs : List Reg := [.SUPERSEDED, .ROW_GATED_CNT, .ROW_CAUSE] ++ recRegs

/-- The older copy of a scheduled frame is counted. -/
def State.superseding (s : State) (c : Nat) (t : Tx) : State :=
  if t.src = 33 && (s.chan c).pend.any fun x => x.sameCell t.id then s.count F.SUPERSEDED_COUNT c else s

/-- A frame waits on a channel, behind all but the scheduled frame it supersedes. -/
def State.waiting (s : State) (c : Nat) (t : Tx) : State :=
  (s.superseding c t).modChan c fun h => { h with pend := (h.pend.filter fun x => !(t.src = 33 && x.sameCell t.id)) ++ [t] }

theorem State.offer_eq (s : State) (c : Nat) (t : Tx) : s.offer c t =
    if !(s.flag F.CLN_CH_CFG_EN c) then s else if gatedClass (idClass t.id) && !s.gateOpen then s.holdBack else s.waiting c t := rfl

theorem State.superseding_onlyRegs (s : State) (c : Nat) (t : Tx) : OnlyRegs [.SUPERSEDED] s (s.superseding c t) := by
  unfold State.superseding
  split
  · exact (OnlyRegs.refl _ s).wr F.SUPERSEDED_COUNT c _ (by decide)
  · exact OnlyRegs.refl _ s

theorem State.clarn_superseding (s : State) (c : Nat) (t : Tx) : (s.superseding c t).clarn = s.clarn :=
  (congrArg State.clarn (s.superseding_onlyRegs c t).2 :)

/-- The channels' list alone of the bus's bookkeeping has changed. -/
def OnlyCh (s t : State) : Prop := t.clarn = { s.clarn with ch := t.clarn.ch } ∧ t.clarn.ch.length = s.clarn.ch.length

theorem OnlyCh.refl (s : State) : OnlyCh s s := ⟨rfl, rfl⟩

theorem OnlyCh.trans {s t u : State} (h : OnlyCh s t) (h' : OnlyCh t u) : OnlyCh s u :=
  ⟨h'.1.trans (congrArg (fun k : Clarn => { k with ch := u.clarn.ch }) h.1), h'.2.trans h.2⟩

theorem OnlyCh.of_eq {s t : State} (h : t.clarn = s.clarn) : OnlyCh s t := ⟨by rw [h], by rw [h]⟩

theorem OnlyCh.modChan (s : State) (c : Nat) (f : Chan → Chan) : OnlyCh s (s.modChan c f) := ⟨rfl, s.length_ch_modChan c f⟩

theorem State.waiting_onlyCh (s : State) (c : Nat) (t : Tx) : OnlyCh s (s.waiting c t) :=
  (OnlyCh.of_eq (s.clarn_superseding c t)).trans (OnlyCh.modChan _ c _)

theorem State.offer_onlyCh (s : State) (c : Nat) (t : Tx) : OnlyCh s (s.offer c t) := by
  rw [State.offer_eq]
  split
  · exact OnlyCh.refl s
  · split
    · exact OnlyCh.of_eq (State.clarn_of_logless s.holdBack_frame.2)
    · exact s.waiting_onlyCh c t

theorem State.offer_frame (s : State) (c : Nat) (t : Tx) : Frame State.buslogless offerRegs s (s.offer c t) := by
  have hwait : Frame State.buslogless offerRegs s (s.waiting c t) :=
    ((Frame.of_onlyRegs (k := State.buslogless) (fun _ => rfl) (s.superseding_onlyRegs c t)).mono (by decide)).other rfl rfl
  rw [State.offer_eq]
  exact .ite (Frame.refl _ _ s) (.ite ((Frame.forget (k := State.logless) (fun _ => rfl) s.holdBack_frame).mono (by decide)) hwait)

/-- An enabled channel takes a frame the gate lets pass. -/
theorem State.offer_of_open {s : State} {c : Nat} {t : Tx} (hen : s.flag F.CLN_CH_CFG_EN c = true)
    (hopen : gatedClass (idClass t.id) = false ∨ s.gateOpen = true) : s.offer c t = s.waiting c t := by
  rw [State.offer_eq, if_neg (by simp [hen]), if_neg (by rcases hopen with h | h <;> simp [h])]

theorem State.mem_waiting {s : State} {c : Nat} (hc : c < s.clarn.ch.length) (t : Tx) : t ∈ ((s.waiting c t).chan c).pend := by
  have hc' : c < (s.superseding c t).clarn.ch.length := by rw [State.clarn_superseding]; exact hc
  rw [State.waiting, State.chan_modChan_same hc']
  exact List.mem_append_right _ List.mem_cons_self

theorem State.chan_offer_ne (s : State) {c d : Nat} (t : Tx) (h : d ≠ c) : (s.offer c t).chan d = s.chan d := by
  rw [State.offer_eq]
  split
  · rfl
  · split
    · exact State.chan_congr (State.clarn_of_logless s.holdBack_frame.2) d
    · exact (State.chan_modChan_ne _ _ h).trans (State.chan_congr (s.clarn_superseding c t) d)

theorem State.gateOpen_congr {s t : State} (h : t.reg .ROW_STAT 0 = s.reg .ROW_STAT 0) : t.gateOpen = s.gateOpen := by
  have hstate : t.rd F.ROW_STAT_STATE = s.rd F.ROW_STAT_STATE := State.rd_congr h
  have hown : t.flag F.ROW_STAT_ILK_OWN = s.flag F.ROW_STAT_ILK_OWN := State.flag_congr h
  have hpeer : t.flag F.ROW_STAT_ILK_PEER = s.flag F.ROW_STAT_ILK_PEER := State.flag_congr h
  rw [State.gateOpen, State.gateOpen, hstate, hown, hpeer]

/-- A channel that takes frames of a class. -/
def State.chanTakes (s : State) (c cls : Nat) : Prop :=
  s.flag F.CLN_CH_CFG_EN c = true ∧ c < s.clarn.ch.length ∧ (gatedClass cls = false ∨ s.gateOpen = true)

theorem State.chanTakes_offer {s : State} {c cls : Nat} (d : Nat) (t : Tx) (h : s.chanTakes c cls) : (s.offer d t).chanTakes c cls := by
  obtain ⟨hen, hc, hopen⟩ := h
  have hframe := s.offer_frame d t
  refine ⟨(hframe.flag _ (by decide) c).trans hen, by rw [(s.offer_onlyCh d t).2]; exact hc, hopen.imp_right fun h => ?_⟩
  exact (State.gateOpen_congr (hframe.1 _ _ (by decide))).trans h

/-- The copy of a frame that is queued. -/
def State.copyOf (s : State) (i : Nat) (body : List Byte) (src : Nat) (bare : Bool) : Tx :=
  { id := i, data := if bare then [] else BitVec.ofNat 8 (s.seqNext i) :: body, src := src, ord := s.clarn.ord }

/-- Its SEQ is used. -/
def State.seqUsed (s : State) (i : Nat) : State :=
  { s with clarn := { s.clarn with sent := Assoc.put s.clarn.sent i (s.seqNext i), ord := s.clarn.ord + 1 } }

theorem State.queueFrame_eq (s : State) (mask i : Nat) (body : List Byte) (src : Nat) (bare : Bool) : s.queueFrame mask i body src bare =
    ((List.range 2).filter fun c => mask.testBit c).foldl (fun (v : State) (c : Nat) => v.offer c (s.copyOf i body src bare)) (s.seqUsed i) := rfl

theorem State.queueFrame_onlyCh (s : State) (mask i : Nat) (body : List Byte) (src : Nat) (bare : Bool) :
    OnlyCh (s.seqUsed i) (s.queueFrame mask i body src bare) := by
  rw [State.queueFrame_eq]
  exact List.foldlRecOn _ _ (motive := OnlyCh (s.seqUsed i)) (OnlyCh.refl _) fun v hv c _ => hv.trans (v.offer_onlyCh c _)

theorem State.queueFrame_frame (s : State) (mask i : Nat) (body : List Byte) (src : Nat) (bare : Bool) :
    Frame State.buslogless offerRegs s (s.queueFrame mask i body src bare) := by
  rw [State.queueFrame_eq]
  exact ((Frame.refl State.buslogless offerRegs s).other (u := s.seqUsed i) rfl rfl).foldl _ fun v c => v.offer_frame c _

/-- A queued frame waits on every channel of its mask that takes it. -/
theorem State.mem_queueFrame {s : State} {mask i c : Nat} (body : List Byte) (src : Nat) (bare : Bool) (hc : c < 2) (hmask : mask.testBit c = true)
    (htakes : s.chanTakes c (idClass i)) : s.copyOf i body src bare ∈ ((s.queueFrame mask i body src bare).chan c).pend := by
  rw [State.queueFrame_eq]
  refine foldl_of_mem_of (fun v : State => v.chanTakes c (idClass i)) (fun v : State => s.copyOf i body src bare ∈ (v.chan c).pend)
    (fun v d hv => State.chanTakes_offer d _ hv) (fun v hv => ?_) (fun v d hv hq => ?_) _ (s.seqUsed i) (List.mem_filter.2 ⟨List.mem_range.2 hc, hmask⟩) htakes
  · rw [State.offer_of_open hv.1 hv.2.2]
    exact State.mem_waiting hv.2.1 _
  · by_cases hd : c = d
    · subst hd
      rw [State.offer_of_open hv.1 hv.2.2]
      exact State.mem_waiting hv.2.1 _
    · rw [State.chan_offer_ne _ _ hd]
      exact hq

/-! ### Cycles (R374) -/

theorem execCycleStart_holder {s : State} (hoff : s.boot.off = false) (hhold : s.rowState = 3) : ∃ t, execCycleStart s = .next t ∧
    t.clarn.cycle = (s.clarn.cycle + 1) % s.ncyc ∧ t.clarn.staged = [] ∧ t.clarn.prevRef = some s.timeBase.toNat ∧
    (∀ c, c < 2 → c < s.clarn.ch.length → s.flag F.CLN_CH_CFG_EN c = true → s.gateOpen = true →
      ∃ x ∈ (t.chan c).pend, x.id = clarnId 0 0 s.node) ∧
    OnlyLogs [.SUPERSEDED, .ROW_GATED_CNT, .ROW_CAUSE] { s with clarn := t.clarn } t := by
  let s1 := s.startCycle ((s.clarn.cycle + 1) % s.ncyc)
  let body := natLE 1 ((s.clarn.cycle + 1) % s.ncyc) ++ natLE 1 s1.ncyc ++ [0] ++ natLE 8 (s1.clarn.prevRef.getD 0)
  let s2 := s1.queueFrame 3 (clarnId 0 0 s1.node) body 33
  have hexec : execCycleStart s = .next { s2 with clarn := { s2.clarn with prevRef := some s2.timeBase.toNat } } :=
    (if_neg (by simp [hoff])).trans (if_pos hhold)
  have hch : OnlyCh (s1.seqUsed (clarnId 0 0 s1.node)) s2 := State.queueFrame_onlyCh _ _ _ _ _ _
  have hstart : Frame State.buslogless offerRegs s s1 := (Frame.refl _ _ s).other rfl rfl
  have hframe : Frame State.buslogless offerRegs s s2 := hstart.trans (State.queueFrame_frame _ _ _ _ _ _)
  have hmem : ∀ c, c < 2 → s1.chanTakes c (idClass (clarnId 0 0 s1.node)) → s1.copyOf (clarnId 0 0 s1.node) body 33 false ∈ (s2.chan c).pend :=
    fun c hc ht => State.mem_queueFrame body 33 false hc (by interval_cases c <;> rfl) ht
  have htime : s2.timeBase = s.timeBase := (congrArg State.timeBase hframe.2 :)
  clear_value s2
  refine ⟨_, hexec, (congrArg Clarn.cycle hch.1 :), (congrArg Clarn.staged hch.1 :), congrArg (fun v : BitVec 64 => some v.toNat) htime,
    fun c hc hlen hen hopen => ⟨_, hmem c hc ⟨hen, hlen, .inr hopen⟩, rfl⟩, ?_⟩
  have hend : Frame State.buslogless ([.SUPERSEDED, .ROW_GATED_CNT, .ROW_CAUSE] ++ recRegs) s
      { s2 with clarn := { s2.clarn with prevRef := some s2.timeBase.toNat } } := hframe.other rfl rfl
  exact hend.onlyLogs_bus

theorem execCycleStart_timer {s : State} (hoff : s.boot.off = false) (hhold : s.rowState ≠ 3) (href : s.clarn.noRef = true) :
    ∃ t, execCycleStart s = .next t ∧ t = { s with clarn := t.clarn } ∧ t.clarn.cycle = (s.clarn.cycle + 1) % s.ncyc ∧ t.clarn.staged = [] :=
  ⟨_, (if_neg (by simp [hoff])).trans ((if_neg hhold).trans (if_pos href)), rfl, rfl, rfl⟩

theorem execCycleStart_none {s : State} (h : s.boot.off = true ∨ s.rowState ≠ 3 ∧ s.clarn.noRef = false) : execCycleStart s = .next s := by
  rcases h with h | ⟨hhold, href⟩
  · exact if_pos h
  · cases hoff : s.boot.off with
    | true => exact if_pos hoff
    | false => exact (if_neg (by simp [hoff])).trans ((if_neg hhold).trans (if_neg (by simp [href])))

theorem execRefLost_effect {c : Fin 2} {s : State} (hhold : s.rowState ≠ 3) (href : s.clarn.noRef = false) (hon : s.chanOn c = true) :
    ∃ t, execRefLost s = .next t ∧ t.clarn = { s.clarn with noRef := true } ∧
    t.flag F.CLN_CAUSE_REF_LOST = true ∧ OnlyLogs [.CLN_CAUSE] { s with clarn := t.clarn } t := by
  have hany : ((List.range 2).all fun c => !(s.chanOn c)) = false := by
    rw [List.all_eq_false]
    exact ⟨c, List.mem_range.2 c.isLt, by simp [hon]⟩
  let s1 : State := { s with clarn := { s.clarn with noRef := true } }
  have hexec : execRefLost s = .next (s1.raise F.CLN_CAUSE_REF_LOST) := if_neg (by simp [hhold, href, hany])
  have hraise : OnlyLogs [.CLN_CAUSE] s1 (s1.raise F.CLN_CAUSE_REF_LOST) := (OnlyLogs.refl _ s1).raise _ _ _ _ _ (by decide)
  have hclarn : (s1.raise F.CLN_CAUSE_REF_LOST).clarn = s1.clarn := (congrArg State.clarn hraise.2 :)
  exact ⟨_, hexec, hclarn, State.flag_raise_same _ _ _ _ _ _ (by decide), by rw [hclarn]; exact hraise⟩

theorem execRefLost_none {s : State} (h : s.rowState = 3 ∨ s.clarn.noRef = true) : execRefLost s = .next s :=
  if_pos (h.imp_right .inl)

/-! ### The schedule (R375) -/

theorem execSchedSlot_none {k : Fin 32} {s : State}
    (h : k.val = 0 ∨ s.boot.off = true ∨ fieldOf (s.inForce .CLN_SCHED (32 * s.clarn.cycle + k)) F.CLN_SCHED_VALID = 0) :
    execSchedSlot k s = .next s :=
  if_pos (by
    rcases h with h | h | h
    · exact .inr (.inl h)
    · exact .inl h
    · exact .inr (.inr (.inr h)))

/-- The word of a heartbeat's cell. -/
theorem fieldOf_hbCell (n : Nat) : fieldOf (BitVec.ofNat 32 (0x8000 + n % 128 * 256 + 2)) F.CLN_SCHED_VALID = 1 ∧
    fieldOf (BitVec.ofNat 32 (0x8000 + n % 128 * 256 + 2)) F.CLN_SCHED_CLASS = 2 ∧
    fieldOf (BitVec.ofNat 32 (0x8000 + n % 128 * 256 + 2)) F.CLN_SCHED_NODE = n % 128 := by
  have hword : (BitVec.ofNat 32 (0x8000 + n % 128 * 256 + 2)).toNat = 0x8000 + n % 128 * 256 + 2 := by
    rw [BitVec.toNat_ofNat]; exact Nat.mod_eq_of_lt (by omega)
  refine ⟨?_, ?_, ?_⟩
  · show (BitVec.ofNat 32 _).toNat / 2 ^ 15 % 2 ^ 1 = 1
    rw [hword]; omega
  · show (BitVec.ofNat 32 _).toNat / 2 ^ 0 % 2 ^ 6 = 2
    rw [hword]; omega
  · show (BitVec.ofNat 32 _).toNat / 2 ^ 8 % 2 ^ 7 = _
    rw [hword]; omega

/-- All but registers and the channels. -/
def State.busless (s : State) : State := { s with regs := [], clarn := {} }

theorem Frame.onlyRegs_bus {rs : List Reg} {s t : State} (h : Frame State.busless rs s t) : OnlyRegs rs { s with clarn := t.clarn } t :=
  ⟨h.1, congrArg (fun u : State => { u with clarn := t.clarn }) h.2⟩

/-- A frame of a class that is not gated changes nothing but the channels and the count of superseded frames. -/
theorem State.offer_ungated (s : State) (c : Nat) {t : Tx} (hclass : gatedClass (idClass t.id) = false) :
    Frame State.busless [.SUPERSEDED] s (s.offer c t) := by
  have hwait : Frame State.busless [.SUPERSEDED] s (s.waiting c t) :=
    (Frame.of_onlyRegs (k := State.busless) (fun _ => rfl) (s.superseding_onlyRegs c t)).other rfl rfl
  rw [State.offer_eq, if_neg (c := (gatedClass (idClass t.id) && !s.gateOpen) = true) (by simp [hclass])]
  exact .ite (Frame.refl _ _ s) hwait

theorem State.queueFrame_ungated (s : State) (mask : Nat) {i : Nat} (body : List Byte) (src : Nat) (bare : Bool)
    (hclass : gatedClass (idClass i) = false) : Frame State.busless [.SUPERSEDED] s (s.queueFrame mask i body src bare) := by
  rw [State.queueFrame_eq]
  exact ((Frame.refl State.busless [.SUPERSEDED] s).other (u := s.seqUsed i) rfl rfl).foldl _ fun v c => v.offer_ungated c hclass

theorem execSchedSlot_heartbeat {k : Fin 32} {n : Nat} {s : State} (hk : k.val ≠ 0) (hoff : s.boot.off = false) (hcycle : s.clarn.cycle < s.ncyc)
    (hrole : s.role ≠ 0) (hcell : s.inForce .CLN_SCHED (32 * s.clarn.cycle + k) = BitVec.ofNat 32 (0x8000 + n % 128 * 256 + 2)) :
    ∃ t, execSchedSlot k s = .next t ∧
    (∀ c, c < 2 → c < s.clarn.ch.length → s.flag F.CLN_CH_CFG_EN c = true →
      ∃ x ∈ (t.chan c).pend, x.id = clarnId 2 2 (n % 128) ∧ x.data.drop 1 = s.hbBody ∧ x.src = 33) ∧
    OnlyRegs [.SUPERSEDED] { s with clarn := t.clarn } t := by
  obtain ⟨hvalid, hclass, hnode⟩ := fieldOf_hbCell n
  have hbody : s.cellBody 2 (n % 128) = (some s.hbBody, s) := by
    show (if s.role ≠ 0 then some s.hbBody else none, s) = _
    rw [if_pos hrole]
  have hexec : execSchedSlot k s = .next (s.queueFrame 3 (clarnId 2 2 (n % 128)) s.hbBody 33) := by
    unfold execSchedSlot
    rw [hcell]
    extract_lets w cls node
    have hcls : cls = 2 := hclass
    have hnod : node = n % 128 := hnode
    have hval : fieldOf w F.CLN_SCHED_VALID = 1 := hvalid
    clear_value cls node w
    rw [if_neg (by simp [hk, hoff, hval]; omega), hcls, hnod, hbody]
    exact congrArg Host.Outcome.next (if_neg (by simp))
  have hungated : gatedClass (idClass (clarnId 2 2 (n % 128))) = false := by rw [idClass_clarnId]; decide
  refine ⟨_, hexec, fun c hc hlen hen => ⟨_, State.mem_queueFrame s.hbBody 33 false hc (by interval_cases c <;> rfl) ⟨hen, hlen, .inl hungated⟩,
    rfl, rfl, rfl⟩, (State.queueFrame_ungated _ _ _ _ _ hungated).onlyRegs_bus⟩

/-! ### Error confinement (R384) -/

/-- The counters as they are shown. -/
def State.countersSet (s : State) (c tec rec_ : Nat) : State := (s.wr F.CLN_CH_STAT_TEC c (min 255 tec)).wr F.CLN_CH_STAT_REC c (min 127 rec_)

theorem State.countersSet_effect (s : State) (c tec rec_ : Nat) : (s.countersSet c tec rec_).rd F.CLN_CH_STAT_TEC c = min 255 tec ∧
    (s.countersSet c tec rec_).rd F.CLN_CH_STAT_REC c = min 127 rec_ ∧ OnlyRegs [.CLN_CH_STAT] s (s.countersSet c tec rec_) := by
  refine ⟨?_, ?_, ((OnlyRegs.refl _ s).wr _ _ _ (by decide)).wr _ _ _ (by decide)⟩
  · exact (State.rd_wr_ne _ _ _ _ _ _ (.inr (by decide))).trans
      ((State.rd_wr_same _ _ _ _ (by decide)).trans (Nat.mod_eq_of_lt (lt_of_le_of_lt (min_le_left _ _) (by decide))))
  · exact (State.rd_wr_same _ _ _ _ (by decide)).trans (Nat.mod_eq_of_lt (lt_of_le_of_lt (min_le_left _ _) (by decide)))

theorem State.confine_busOff (s : State) (c : Nat) {tec : Nat} (rec_ : Nat) (h : 255 < tec) : s.confine c tec rec_ =
    (((s.countersSet c tec rec_).wr F.CLN_CH_STAT_STATE c 2).count F.BUSOFF_CNT_COUNT c).raise (F.CLN_CAUSE_BUSOFF.bit c) 0 2 := if_pos h

theorem State.confine_passive {s : State} {c tec rec_ : Nat} (hwas : s.rd F.CLN_CH_STAT_STATE c ≠ 1) (hlow : tec ≤ 255) (h : 127 < tec ∨ 127 < rec_) :
    s.confine c tec rec_ = ((s.countersSet c tec rec_).wr F.CLN_CH_STAT_STATE c 1).raise (F.CLN_CAUSE_PASSIVE.bit c) :=
  (if_neg (by omega)).trans ((if_pos h).trans (if_neg hwas))

theorem State.confine_active (s : State) (c : Nat) {tec rec_ : Nat} (ht : tec ≤ 127) (hr : rec_ ≤ 127) :
    s.confine c tec rec_ = (s.countersSet c tec rec_).wr F.CLN_CH_STAT_STATE c 0 := (if_neg (by omega)).trans (if_neg (by omega))

/-- The state shown beside the counters. -/
theorem State.stateShown (s : State) (c : Nat) {v : Nat} (hv : v < 4) : (s.wr F.CLN_CH_STAT_STATE c v).rd F.CLN_CH_STAT_STATE c = v ∧
    (s.wr F.CLN_CH_STAT_STATE c v).rd F.CLN_CH_STAT_TEC c = s.rd F.CLN_CH_STAT_TEC c ∧
    (s.wr F.CLN_CH_STAT_STATE c v).rd F.CLN_CH_STAT_REC c = s.rd F.CLN_CH_STAT_REC c :=
  ⟨(State.rd_wr_same _ _ _ _ (by decide)).trans (Nat.mod_eq_of_lt hv), State.rd_wr_ne _ _ _ _ _ _ (.inr (by decide)),
    State.rd_wr_ne _ _ _ _ _ _ (.inr (by decide))⟩

/-- Health follows, and nothing else does. -/
theorem OnlyLogs.healthCheck {rs : List Reg} {s t : State} (h : OnlyLogs rs s t) : OnlyLogs rs { s with row := t.healthCheck.row } t.healthCheck := by
  have hrow := t.healthCheck_onlyRow
  refine ⟨fun r i hr => (State.reg_congr_regs hrow.regs r i).trans (h.1 r i hr), ?_⟩
  have hkeep : t.healthCheck.logless = ({ t.logless with row := t.healthCheck.row } : State) := (congrArg State.logless hrow :)
  rw [hkeep, h.2]
  rfl

theorem OnlyRegs.healthCheck {rs : List Reg} {s t : State} (h : OnlyRegs rs s t) : OnlyRegs rs { s with row := t.healthCheck.row } t.healthCheck := by
  have hrow := t.healthCheck_onlyRow
  refine ⟨fun r i hr => (State.reg_congr_regs hrow.regs r i).trans (h.1 r i hr), ?_⟩
  have hkeep : t.healthCheck.regless = ({ t.regless with row := t.healthCheck.row } : State) := (congrArg State.regless hrow :)
  rw [hkeep, h.2]
  rfl

theorem execClarnBusError_on {c : Fin 2} (tec r : BitVec 9) {s : State} (hon : s.chanOn c = true) :
    execClarnBusError c tec r s = .next (s.confine c tec.toNat r.toNat).healthCheck := if_pos hon

/-- A raised cause leaves the fields of other registers. -/
theorem State.rd_raise_other (s : State) {f g : Fld} (i j sev : Nat) (hf : g.reg ≠ f.reg) (h : g.reg ∉ recRegs) :
    (s.raise f i sev).rd g j = s.rd g j := (State.rd_raise _ _ _ _ _ _ _ _ h).trans (State.rd_wr_ne _ _ _ _ _ _ (.inl hf))

theorem State.getLsbD_raise (s : State) {n : Nat} (sev : Nat) (hn : n < 32) :
    ((s.raise ⟨.CLN_CAUSE, n, n⟩ 0 sev).reg .CLN_CAUSE 0).getLsbD n = true :=
  (State.getLsbD_eq_flag _ _ _ _).trans (State.flag_raise_same _ _ _ _ _ _ ⟨by show Reg.CLN_CAUSE ∉ recRegs; decide, le_refl n, hn⟩)

theorem busOff_bit (c : Nat) : F.CLN_CAUSE_BUSOFF.bit c = ⟨.CLN_CAUSE, c, c⟩ := by simp [Fld.bit, F.CLN_CAUSE_BUSOFF]

theorem passive_bit (c : Nat) : F.CLN_CAUSE_PASSIVE.bit c = ⟨.CLN_CAUSE, 2 + c, 2 + c⟩ := rfl

theorem State.confine_busOff_effect (s : State) {c tec : Nat} (rec_ : Nat) (hc : c < 2) (h : 255 < tec) :
    let t := s.confine c tec rec_
    t.rd F.CLN_CH_STAT_STATE c = 2 ∧ t.rd F.BUSOFF_CNT_COUNT c = satInc 32 (s.rd F.BUSOFF_CNT_COUNT c) ∧
    (t.reg .CLN_CAUSE 0).getLsbD c = true ∧ OnlyLogs [.CLN_CH_STAT, .BUSOFF_CNT, .CLN_CAUSE] s t := by
  obtain ⟨-, -, hset⟩ := s.countersSet_effect c tec rec_
  have hconf := s.confine_busOff c rec_ h
  rw [busOff_bit] at hconf
  rw [hconf]
  generalize s.countersSet c tec rec_ = u at hset
  have hset' : OnlyLogs [.CLN_CH_STAT, .BUSOFF_CNT, .CLN_CAUSE] s u := (Frame.of_onlyRegs (k := State.logless) (fun _ => rfl) hset).mono (by decide)
  have hcount : (u.wr F.CLN_CH_STAT_STATE c 2).rd F.BUSOFF_CNT_COUNT c = s.rd F.BUSOFF_CNT_COUNT c :=
    (State.rd_wr_ne _ _ _ _ _ _ (.inl (by decide))).trans (hset.1.rd (by decide) c)
  refine ⟨?_, ?_, State.getLsbD_raise _ _ (by omega), ((hset'.wr _ _ _ (by decide)).wr _ _ _ (by decide)).raise _ _ _ _ _ (by show Reg.CLN_CAUSE ∈ _; decide)⟩
  · exact (State.rd_raise_other _ _ _ _ (by show Reg.CLN_CH_STAT ≠ .CLN_CAUSE; decide) (by decide)).trans
      ((State.rd_wr_ne _ _ _ _ _ _ (.inl (by decide))).trans (u.stateShown c (by decide)).1)
  · refine (State.rd_raise_other _ _ _ _ (by show Reg.BUSOFF_CNT ≠ .CLN_CAUSE; decide) (by decide)).trans ?_
    exact (State.rd_wr_same _ _ _ _ (by decide)).trans ((Nat.mod_eq_of_lt (satInc_lt _ _)).trans (congrArg (satInc 32) hcount))

theorem execClarnBusError_busOff {c : Fin 2} {tec : BitVec 9} (r : BitVec 9) {s : State} (hon : s.chanOn c = true) (h : 255 < tec.toNat) :
    ∃ t, execClarnBusError c tec r s = .next t ∧ t.rd F.CLN_CH_STAT_STATE c = 2 ∧
    t.rd F.BUSOFF_CNT_COUNT c = satInc 32 (s.rd F.BUSOFF_CNT_COUNT c) ∧ (t.reg .CLN_CAUSE 0).getLsbD c = true ∧
    OnlyLogs [.CLN_CH_STAT, .BUSOFF_CNT, .CLN_CAUSE] { s with row := t.row } t := by
  obtain ⟨hstate, hcount, hcause, hlogs⟩ := s.confine_busOff_effect r.toNat c.isLt h
  have hregs := (s.confine c tec.toNat r.toNat).healthCheck_onlyRow.regs
  exact ⟨_, execClarnBusError_on tec r hon, (State.rd_congr_regs hregs _ _).trans hstate, (State.rd_congr_regs hregs _ _).trans hcount,
    by rw [State.reg_congr_regs hregs]; exact hcause, hlogs.healthCheck⟩

theorem State.confine_passive_effect {s : State} {c tec rec_ : Nat} (hc : c < 2) (hwas : s.rd F.CLN_CH_STAT_STATE c ≠ 1) (hlow : tec ≤ 255)
    (h : 127 < tec ∨ 127 < rec_) :
    let t := s.confine c tec rec_
    t.rd F.CLN_CH_STAT_STATE c = 1 ∧ (t.reg .CLN_CAUSE 0).getLsbD (2 + c) = true ∧ t.rd F.CLN_CH_STAT_TEC c = tec ∧
    OnlyLogs [.CLN_CH_STAT, .CLN_CAUSE] s t := by
  obtain ⟨htec, -, hset⟩ := s.countersSet_effect c tec rec_
  have hconf := State.confine_passive hwas hlow h
  rw [passive_bit] at hconf
  rw [hconf]
  generalize s.countersSet c tec rec_ = u at hset htec
  have hset' : OnlyLogs [.CLN_CH_STAT, .CLN_CAUSE] s u := (Frame.of_onlyRegs (k := State.logless) (fun _ => rfl) hset).mono (by decide)
  obtain ⟨hstate, htec', -⟩ := u.stateShown c (v := 1) (by decide)
  refine ⟨?_, State.getLsbD_raise _ _ (by omega), ?_, (hset'.wr _ _ _ (by decide)).raise _ _ _ _ _ (by show Reg.CLN_CAUSE ∈ _; decide)⟩
  · exact (State.rd_raise_other _ _ _ _ (by show Reg.CLN_CH_STAT ≠ .CLN_CAUSE; decide) (by decide)).trans hstate
  · refine (State.rd_raise_other _ _ _ _ (by show Reg.CLN_CH_STAT ≠ .CLN_CAUSE; decide) (by decide)).trans ?_
    rw [htec', htec]
    exact min_eq_right hlow

theorem execClarnBusError_passive {c : Fin 2} {tec r : BitVec 9} {s : State} (hon : s.chanOn c = true) (hwas : s.rd F.CLN_CH_STAT_STATE c ≠ 1)
    (hlow : tec.toNat ≤ 255) (h : 127 < tec.toNat ∨ 127 < r.toNat) :
    ∃ t, execClarnBusError c tec r s = .next t ∧ t.rd F.CLN_CH_STAT_STATE c = 1 ∧ (t.reg .CLN_CAUSE 0).getLsbD (2 + c) = true ∧
    t.rd F.CLN_CH_STAT_TEC c = tec.toNat ∧ OnlyLogs [.CLN_CH_STAT, .CLN_CAUSE] { s with row := t.row } t := by
  obtain ⟨hstate, hcause, htec, hlogs⟩ := State.confine_passive_effect c.isLt hwas hlow h
  have hregs := (s.confine c tec.toNat r.toNat).healthCheck_onlyRow.regs
  exact ⟨_, execClarnBusError_on tec r hon, (State.rd_congr_regs hregs _ _).trans hstate, by rw [State.reg_congr_regs hregs]; exact hcause,
    (State.rd_congr_regs hregs _ _).trans htec, hlogs.healthCheck⟩

theorem State.confine_active_effect (s : State) (c : Nat) {tec rec_ : Nat} (ht : tec ≤ 127) (hr : rec_ ≤ 127) :
    let t := s.confine c tec rec_
    t.rd F.CLN_CH_STAT_STATE c = 0 ∧ t.rd F.CLN_CH_STAT_TEC c = tec ∧ t.rd F.CLN_CH_STAT_REC c = rec_ ∧ OnlyRegs [.CLN_CH_STAT] s t := by
  obtain ⟨htec, hrec, hset⟩ := s.countersSet_effect c tec rec_
  rw [State.confine_active s c ht hr]
  generalize s.countersSet c tec rec_ = u at hset htec hrec
  obtain ⟨hstate, htec', hrec'⟩ := u.stateShown c (v := 0) (by decide)
  exact ⟨hstate, by rw [htec', htec]; omega, by rw [hrec', hrec]; omega, hset.wr _ _ _ (by decide)⟩

theorem execClarnBusError_active {c : Fin 2} {tec r : BitVec 9} {s : State} (hon : s.chanOn c = true) (ht : tec.toNat ≤ 127) (hr : r.toNat ≤ 127) :
    ∃ t, execClarnBusError c tec r s = .next t ∧ t.rd F.CLN_CH_STAT_STATE c = 0 ∧ t.rd F.CLN_CH_STAT_TEC c = tec.toNat ∧
    t.rd F.CLN_CH_STAT_REC c = r.toNat ∧ OnlyRegs [.CLN_CH_STAT] { s with row := t.row } t := by
  obtain ⟨hstate, htec, hrec, hset⟩ := s.confine_active_effect c ht hr
  have hregs := (s.confine c tec.toNat r.toNat).healthCheck_onlyRow.regs
  exact ⟨_, execClarnBusError_on tec r hon, (State.rd_congr_regs hregs _ _).trans hstate, (State.rd_congr_regs hregs _ _).trans htec,
    (State.rd_congr_regs hregs _ _).trans hrec, hset.healthCheck⟩

theorem execClarnBusError_off {c : Fin 2} (tec r : BitVec 9) {s : State} (h : s.chanOn c = false) : execClarnBusError c tec r s = .next s :=
  if_neg (by simp [h])

/-- A channel's state with both counters at 0. -/
theorem State.countersClear_effect (s : State) (c : Nat) {v : Nat} (hv : v < 4) :
    let t := ((s.wr F.CLN_CH_STAT_STATE c v).wr F.CLN_CH_STAT_TEC c 0).wr F.CLN_CH_STAT_REC c 0
    t.rd F.CLN_CH_STAT_STATE c = v ∧ t.rd F.CLN_CH_STAT_TEC c = 0 ∧ t.rd F.CLN_CH_STAT_REC c = 0 ∧ OnlyRegs [.CLN_CH_STAT] s t := by
  refine ⟨?_, ?_, State.rd_wr_same _ _ _ _ (by decide), (((OnlyRegs.refl _ s).wr _ _ _ (by decide)).wr _ _ _ (by decide)).wr _ _ _ (by decide)⟩
  · exact (State.rd_wr_ne _ _ _ _ _ _ (.inr (by decide))).trans ((State.rd_wr_ne _ _ _ _ _ _ (.inr (by decide))).trans (s.stateShown c hv).1)
  · exact (State.rd_wr_ne _ _ _ _ _ _ (.inr (by decide))).trans (State.rd_wr_same _ _ _ _ (by decide))

theorem execBusoffRecovery_effect {c : Fin 2} {s : State} (hen : s.flag F.CLN_CH_CFG_EN c = true) (hst : s.rd F.CLN_CH_STAT_STATE c = 2) :
    ∃ t, execBusoffRecovery c s = .next t ∧ t.rd F.CLN_CH_STAT_STATE c = 0 ∧ t.rd F.CLN_CH_STAT_TEC c = 0 ∧ t.rd F.CLN_CH_STAT_REC c = 0 ∧
    OnlyRegs [.CLN_CH_STAT] s t := ⟨_, if_pos ⟨hen, hst⟩, s.countersClear_effect c (by decide)⟩

theorem execBusoffRecovery_none {c : Fin 2} {s : State} (hst : s.rd F.CLN_CH_STAT_STATE c ≠ 2) : execBusoffRecovery c s = .next s :=
  if_neg fun h => hst h.2

end Sys2Proof.Machine
end

section
/-! PROOFS.  Frames sent, the event queue, the receive queues and a channel's configuration, and the statement on the bus (R365 to R388). -/

namespace Sys2Proof.Machine

/-! ### BUSY (R379) -/

/-- Whether a frame of an entry waits. -/
def State.waits (s : State) (e : Nat) : Bool := s.clarn.ch.any fun h => h.pend.any fun t => t.src = e

/-- BUSY as it follows. -/
def State.busyWord (s : State) : Word := BitVec.ofNat 32 (packBits ((List.range 32).map s.waits))

theorem State.busyShow_eq (s : State) : s.busyShow = s.setReg .CLN_EVQ_BUSY 0 s.busyWord := by
  unfold State.busyShow State.busyWord State.waits
  rfl

theorem State.busyShow_onlyRegs (s : State) : OnlyRegs [.CLN_EVQ_BUSY] s s.busyShow := by
  rw [State.busyShow_eq]
  generalize s.busyWord = w
  exact (OnlyRegs.refl _ s).setReg _ _ (by decide)

theorem State.clarn_busyShow (s : State) : s.busyShow.clarn = s.clarn := by
  rw [State.busyShow_eq, State.clarn_setReg]

theorem State.busy_busyShow (s : State) {e : Nat} (he : e < 32) : (s.busyShow.reg .CLN_EVQ_BUSY 0).getLsbD e = s.waits e := by
  rw [State.busyShow_eq, State.reg_setReg, if_pos ⟨rfl, rfl⟩, State.busyWord, BitVec.getLsbD_ofNat, testBit_packBits, List.getElem?_map,
    List.getElem?_range he]
  simp [he]

theorem State.chan_mem {s : State} {c : Nat} (hc : c < s.clarn.ch.length) : s.chan c ∈ s.clarn.ch := by
  rw [State.chan, getAt, List.getElem?_eq_getElem hc]
  exact List.getElem_mem hc

theorem State.waits_of_mem {s : State} {c : Nat} (hc : c < s.clarn.ch.length) {x : Tx} (hx : x ∈ (s.chan c).pend) : s.waits x.src = true := by
  rw [State.waits, List.any_eq_true]
  exact ⟨_, State.chan_mem hc, List.any_eq_true.2 ⟨x, hx, by simp⟩⟩

theorem State.waits_eq_false {s : State} {e : Nat} (h : ∀ c, c < s.clarn.ch.length → ∀ x ∈ (s.chan c).pend, x.src ≠ e) : s.waits e = false := by
  rw [State.waits, List.any_eq_false]
  intro y hy
  obtain ⟨c, hc, rfl⟩ := List.mem_iff_getElem.1 hy
  have hchan : s.chan c = s.clarn.ch[c] := by rw [State.chan, getAt, List.getElem?_eq_getElem hc]; rfl
  simpa [hchan] using h c hc

/-! ### Frames sent (R368, R380, R384) -/

theorem State.tdcSeen_frame (s : State) (c d : Nat) : Frame State.busless [.CLN_CH_STAT] s (s.tdcSeen c d) :=
  .ite (((Frame.refl _ _ s).wr (fun _ => rfl) F.CLN_CH_STAT_TDCV c d (by decide)).other rfl rfl) (Frame.refl _ _ s)

theorem State.regs_tdcSeen (s : State) (c d : Nat) : (s.tdcSeen c d).regs = if s.tdcOn c then (s.wr F.CLN_CH_STAT_TDCV c d).regs else s.regs := by
  unfold State.tdcSeen
  split
  · generalize s.wr F.CLN_CH_STAT_TDCV c d = u
    rfl
  · rfl

theorem State.rd_tdcSeen (s : State) (c d : Nat) {f : Fld} (hf : f.hi < 16 ∨ 22 < f.lo) : (s.tdcSeen c d).rd f c = s.rd f c := by
  have hregs := s.regs_tdcSeen c d
  split at hregs
  · exact (State.rd_congr_regs hregs f c).trans (State.rd_wr_ne _ _ _ _ _ _ (.inr ⟨by decide, hf⟩))
  · exact State.rd_congr_regs hregs f c

theorem State.tdcv_tdcSeen {s : State} {c d : Nat} (hon : s.tdcOn c = true) (hd : d ≤ 127) : (s.tdcSeen c d).rd F.CLN_CH_STAT_TDCV c = d := by
  have hregs := (s.regs_tdcSeen c d).trans (if_pos hon)
  exact (State.rd_congr_regs hregs _ c).trans ((State.rd_wr_same _ _ _ _ (by decide)).trans (Nat.mod_eq_of_lt (by show d < 128; omega)))

theorem State.tdcSeen_chan (s : State) (c d : Nat) : ((s.tdcSeen c d).chan c).pend = (s.chan c).pend ∧
    (s.tdcSeen c d).clarn.ch.length = s.clarn.ch.length := by
  unfold State.tdcSeen
  split
  · refine ⟨?_, State.length_ch_modChan _ _ _⟩
    rcases Nat.lt_or_ge c s.clarn.ch.length with hc | hc
    · rw [State.chan_modChan_same (s := s.wr _ _ _) hc]; rfl
    · rw [State.chan_of_ge (by rw [State.length_ch_modChan]; exact hc), State.chan_of_ge hc]
  · exact ⟨rfl, rfl⟩

/-- A frame sent, before the channel's state follows. -/
def State.tecDown (s : State) (c : Nat) : State := s.wr F.CLN_CH_STAT_TEC c (s.rd F.CLN_CH_STAT_TEC c - 1)

theorem State.txGood_eq (s : State) (c : Nat) : s.txGood c =
    if s.rd F.CLN_CH_STAT_STATE c = 1 ∧ s.rd F.CLN_CH_STAT_TEC c - 1 < 128 ∧ s.rd F.CLN_CH_STAT_REC c < 127 then
      (s.tecDown c).wr F.CLN_CH_STAT_STATE c 0 else s.tecDown c := rfl

theorem State.txGood_effect (s : State) (c : Nat) : (s.txGood c).rd F.CLN_CH_STAT_TEC c = s.rd F.CLN_CH_STAT_TEC c - 1 ∧
    (s.txGood c).rd F.CLN_CH_STAT_TDCV c = s.rd F.CLN_CH_STAT_TDCV c ∧ OnlyRegs [.CLN_CH_STAT] s (s.txGood c) := by
  have hdown : OnlyRegs [.CLN_CH_STAT] s (s.tecDown c) := (OnlyRegs.refl _ s).wr _ _ _ (by decide)
  have htec : (s.tecDown c).rd F.CLN_CH_STAT_TEC c = s.rd F.CLN_CH_STAT_TEC c - 1 :=
    (State.rd_wr_same _ _ _ _ (by decide)).trans (Nat.mod_eq_of_lt (lt_of_le_of_lt (Nat.sub_le _ _) (fieldOf_lt _ F.CLN_CH_STAT_TEC)))
  have htdcv : (s.tecDown c).rd F.CLN_CH_STAT_TDCV c = s.rd F.CLN_CH_STAT_TDCV c := State.rd_wr_ne _ _ _ _ _ _ (.inr (by decide))
  rw [State.txGood_eq]
  split
  · exact ⟨(State.rd_wr_ne _ _ _ _ _ _ (.inr (by decide))).trans htec, (State.rd_wr_ne _ _ _ _ _ _ (.inr (by decide))).trans htdcv,
      hdown.wr _ _ _ (by decide)⟩
  · exact ⟨htec, htdcv, hdown⟩

/-- The frame that is sent leaves its channel. -/
def State.frameGone (s : State) (c d : Nat) (x : Tx) : State :=
  ((s.tdcSeen c d).modChan c fun h => { h with pend := h.pend.erase x }).busyShow

theorem State.frameGone_frame (s : State) (c d : Nat) (x : Tx) : Frame State.busless [.CLN_CH_STAT, .CLN_EVQ_BUSY] s (s.frameGone c d x) := by
  have hseen := (s.tdcSeen_frame c d).mono (rs' := [.CLN_CH_STAT, .CLN_EVQ_BUSY]) (by decide)
  unfold State.frameGone
  generalize s.tdcSeen c d = u at hseen
  have hmod : Frame State.busless [.CLN_CH_STAT, .CLN_EVQ_BUSY] s (u.modChan c fun h => { h with pend := h.pend.erase x }) := hseen.other rfl rfl
  generalize u.modChan c _ = v at hmod
  exact hmod.trans ((Frame.of_onlyRegs (k := State.busless) (fun _ => rfl) v.busyShow_onlyRegs).mono (by decide))

theorem State.chan_frameGone (s : State) {c : Nat} (d : Nat) (x : Tx) (hc : c < s.clarn.ch.length) :
    ((s.frameGone c d x).chan c).pend = (s.chan c).pend.erase x := by
  obtain ⟨hpend, hlen⟩ := s.tdcSeen_chan c d
  unfold State.frameGone
  generalize s.tdcSeen c d = u at hpend hlen
  rw [State.chan_congr (State.clarn_busyShow _), State.chan_modChan_same (by rw [hlen]; exact hc), ← hpend]

theorem State.rd_frameGone (s : State) (c d : Nat) (x : Tx) {f : Fld} (hf : f.reg = .CLN_CH_STAT) : (s.frameGone c d x).rd f c = (s.tdcSeen c d).rd f c := by
  unfold State.frameGone
  generalize s.tdcSeen c d = u
  exact ((State.busyShow_onlyRegs _).1.rd (by rw [hf]; decide) c).trans (State.rd_congr_regs (s := u) rfl _ _)

/-- The only pending frame of an identifier is the one that is sent. -/
theorem execClarnTxDone_single {c : Fin 2} {x : Tx} {i : BitVec 29} (d : Nat) {s : State} (hon : s.chanOn c = true)
    (hpend : (s.chan c).pend = [x]) (hid : x.id = i.toNat) :
    execClarnTxDone c i d s =
      if s.tdcOn c && 127 < d then .next (s.confine c (s.rd F.CLN_CH_STAT_TEC c + 8) (s.rd F.CLN_CH_STAT_REC c)).healthCheck
      else .next (if s.rd F.CLN_CH_CFG_MODE c = 0 then (s.frameGone c d x).txGood c else ((s.frameGone c d x).txGood c).filterIn c x.id true x.data) := by
  have hfirst : (([x].find? fun t : Tx => t.src = 33) <|> [x].head?) = some x := by
    by_cases h : x.src = 33 <;> simp [h]
  unfold execClarnTxDone
  rw [if_neg (by simp [hon])]
  have hl : ((s.chan c).pend.filter fun t => t.id = i.toNat) = [x] := by rw [hpend]; simp [hid]
  simp only [hl, hfirst]
  rfl

theorem execClarnTxDone_sent {c : Fin 2} {x : Tx} {i : BitVec 29} {d : Nat} {s : State} (hon : s.chanOn c = true)
    (hmode : s.rd F.CLN_CH_CFG_MODE c = 0) (hd : s.tdcOn c = false ∨ d ≤ 127) (hpend : (s.chan c).pend = [x]) (hid : x.id = i.toNat) :
    ∃ t, execClarnTxDone c i d s = .next t ∧ (t.chan c).pend = [] ∧ (s.tdcOn c = true → t.rd F.CLN_CH_STAT_TDCV c = d) ∧
      t.rd F.CLN_CH_STAT_TEC c = s.rd F.CLN_CH_STAT_TEC c - 1 ∧
    OnlyRegs [.CLN_CH_STAT, .CLN_EVQ_BUSY] { s with clarn := t.clarn } t := by
  have hc : c.val < s.clarn.ch.length := by
    by_contra h
    rw [State.chan_of_ge (Nat.le_of_not_lt h)] at hpend
    exact absurd hpend (List.cons_ne_nil _ _).symm
  have hexec : execClarnTxDone c i d s = .next ((s.frameGone c d x).txGood c) := by
    rw [execClarnTxDone_single d hon hpend hid, if_neg (by rcases hd with h | h <;> simp [h]), if_pos hmode]
  have hgone := s.frameGone_frame c d x
  have hchan := s.chan_frameGone d x hc
  have htecs := s.rd_frameGone c d x (f := F.CLN_CH_STAT_TEC) rfl
  have htdcvs := s.rd_frameGone c d x (f := F.CLN_CH_STAT_TDCV) rfl
  generalize s.frameGone c d x = u at hexec hgone hchan htecs htdcvs
  obtain ⟨htec, htdcv, hgood⟩ := u.txGood_effect c
  have hclarn : (u.txGood c).clarn = u.clarn := (congrArg State.clarn hgood.2 :)
  refine ⟨_, hexec, ?_, fun htdc => ?_, ?_,
    (hgone.trans ((Frame.of_onlyRegs (k := State.busless) (fun _ => rfl) hgood).mono (by decide))).onlyRegs_bus⟩
  · rw [State.chan_congr hclarn, hchan, hpend, List.erase_cons_head]
  · exact htdcv.trans (htdcvs.trans (State.tdcv_tdcSeen htdc (hd.resolve_left (by simp [htdc]))))
  · rw [htec, htecs, State.rd_tdcSeen _ _ _ (.inl (by decide))]

theorem execClarnTxDone_bitError {c : Fin 2} {x : Tx} {i : BitVec 29} {d : Nat} {s : State} (hon : s.chanOn c = true)
    (hpend : (s.chan c).pend = [x]) (hid : x.id = i.toNat) (htdc : s.tdcOn c = true) (hd : 127 < d)
    (htec : s.rd F.CLN_CH_STAT_TEC c + 8 ≤ 127) (hrec : s.rd F.CLN_CH_STAT_REC c ≤ 127) :
    ∃ t, execClarnTxDone c i d s = .next t ∧ t.rd F.CLN_CH_STAT_TEC c = s.rd F.CLN_CH_STAT_TEC c + 8 ∧ (t.chan c).pend = [x] := by
  have hexec := execClarnTxDone_single d hon hpend hid
  rw [if_pos (by simp [htdc, hd])] at hexec
  obtain ⟨-, htec', -, hset⟩ := s.confine_active_effect c htec hrec
  have hrow := (s.confine c (s.rd F.CLN_CH_STAT_TEC c + 8) (s.rd F.CLN_CH_STAT_REC c)).healthCheck_onlyRow
  refine ⟨_, hexec, (State.rd_congr_regs hrow.regs _ _).trans htec', ?_⟩
  have hclarn : (s.confine c (s.rd F.CLN_CH_STAT_TEC c + 8) (s.rd F.CLN_CH_STAT_REC c)).healthCheck.clarn = s.clarn :=
    (congrArg State.clarn hrow :).trans (congrArg State.clarn hset.2 :)
  rw [State.chan_congr hclarn, hpend]

theorem execClarnTxDone_none {c : Fin 2} {i : BitVec 29} (d : Nat) {s : State}
    (h : s.chanOn c = false ∨ ∀ x ∈ (s.chan c).pend, x.id ≠ i.toNat) : execClarnTxDone c i d s = .next s := by
  unfold execClarnTxDone
  split
  · rfl
  · next hon =>
    have hnone : ((s.chan c).pend.filter fun t => t.id = i.toNat) = [] :=
      List.filter_eq_nil_iff.2 fun x hx => by simpa using h.resolve_left (by simpa using hon) x hx
    simp only [hnone]
    rfl

/-! ### The event queue (R379) -/

theorem State.clnErr_effect (s : State) : s.clnErr.flag F.CLN_CAUSE_CFGERR = true ∧ OnlyLogs [.CLN_CAUSE] s s.clnErr :=
  ⟨State.flag_raise_same _ _ _ _ _ _ (by decide), (OnlyLogs.refl _ s).raise _ _ _ _ _ (by decide)⟩

theorem execSubmit_badLength {s : State} (h : fdLen (s.rd F.CLN_EVQ_LEN_LEN) = false) :
    ∃ t, execSubmit s = .next t ∧ t.flag F.CLN_CAUSE_CFGERR = true ∧ OnlyLogs [.CLN_CAUSE] s t :=
  ⟨_, congrArg Host.Outcome.next (if_pos (by simp [h])), s.clnErr_effect⟩

/-- The lowest free entry of the event queue. -/
def freeEntry (busy : Word) : Option Nat := (List.range 32).find? fun e => !(busy.getLsbD e)

theorem execSubmit_full {s : State} (hlen : fdLen (s.rd F.CLN_EVQ_LEN_LEN) = true) (hfull : s.reg .CLN_EVQ_BUSY 0 = 0xFFFFFFFF) :
    ∃ t, execSubmit s = .next t ∧ t.flag F.CLN_CAUSE_EVQ_FULL = true ∧ OnlyLogs [.CLN_CAUSE] s t := by
  have hfree : freeEntry (s.reg .CLN_EVQ_BUSY 0) = none := by rw [hfull]; decide
  have hexec : execSubmit s = .next (s.raise F.CLN_CAUSE_EVQ_FULL) := by
    unfold execSubmit State.submit
    rw [if_neg (by simp [hlen]), show ((List.range 32).find? fun e => !((s.reg .CLN_EVQ_BUSY 0).getLsbD e)) = none from hfree]
  exact ⟨_, hexec, State.flag_raise_same _ _ _ _ _ _ (by decide), (OnlyLogs.refl _ s).raise _ _ _ _ _ (by decide)⟩

/-- The bytes of a submitted frame. -/
def State.evqBytes (s : State) : List Byte :=
  ((List.range 16).flatMap fun w => wordBytes (s.reg .CLN_EVQ_DATA w)).take (s.rd F.CLN_EVQ_LEN_LEN)

theorem execSubmit_both {s : State} (hlen : fdLen (s.rd F.CLN_EVQ_LEN_LEN) = true) (hidle : s.reg .CLN_EVQ_BUSY 0 = 0)
    (hch : s.rd F.CLN_EVQ_ID_CH = 0) :
    execSubmit s = .next (((s.queueFrame 3 (s.rd F.CLN_EVQ_ID_ID) (s.evqBytes.drop 1) 0 (s.rd F.CLN_EVQ_LEN_LEN = 0)).wr
      F.CLN_EVQ_CMD_LAST 0 0).busyShow) := by
  have hfree : freeEntry (s.reg .CLN_EVQ_BUSY 0) = some 0 := by rw [hidle]; decide
  unfold execSubmit State.submit
  rw [if_neg (by simp [hlen]), show ((List.range 32).find? fun e => !((s.reg .CLN_EVQ_BUSY 0).getLsbD e)) = some 0 from hfree]
  simp only [hch, if_true]
  rfl

theorem execSubmit_effect {c : Fin 2} {s : State} (hlen : fdLen (s.rd F.CLN_EVQ_LEN_LEN) = true) (hidle : s.reg .CLN_EVQ_BUSY 0 = 0)
    (hch : s.rd F.CLN_EVQ_ID_CH = 0) (hchans : s.clarn.ch.length = 2) (hen : s.flag F.CLN_CH_CFG_EN c = true)
    (hclass : gatedClass (idClass (s.rd F.CLN_EVQ_ID_ID)) = false) :
    ∃ t, execSubmit s = .next t ∧ t.rd F.CLN_EVQ_CMD_LAST = 0 ∧ (t.reg .CLN_EVQ_BUSY 0).getLsbD 0 = true ∧
    (∃ x ∈ (t.chan c).pend, x.id = s.rd F.CLN_EVQ_ID_ID ∧ x.src = 0) ∧ OnlyRegs [.CLN_EVQ_CMD, .CLN_EVQ_BUSY] { s with clarn := t.clarn } t := by
  let q := s.queueFrame 3 (s.rd F.CLN_EVQ_ID_ID) (s.evqBytes.drop 1) 0 (s.rd F.CLN_EVQ_LEN_LEN = 0)
  have hframes : OnlyFrames s q := State.queueFrame_onlyFrames s 3 _ _ _ (by decide) hclass
  have hmem : s.copyOf (s.rd F.CLN_EVQ_ID_ID) (s.evqBytes.drop 1) 0 (s.rd F.CLN_EVQ_LEN_LEN = 0) ∈ (q.chan c).pend :=
    State.mem_queueFrame _ _ _ c.isLt (by fin_cases c <;> rfl) ⟨hen, by rw [hchans]; exact c.isLt, .inl hclass⟩
  have hlen' : q.clarn.ch.length = 2 := (State.queueFrame_onlyCh s 3 _ _ _ _).2.trans hchans
  have hframe : Frame State.busless [.CLN_EVQ_CMD, .CLN_EVQ_BUSY] s q :=
    (Frame.refl _ _ s).other hframes.regs ((congrArg State.busless hframes :).trans rfl)
  have hexec := execSubmit_both hlen hidle hch
  change execSubmit s = .next ((q.wr F.CLN_EVQ_CMD_LAST 0 0).busyShow) at hexec
  clear_value q
  have hnoted : Frame State.busless [.CLN_EVQ_CMD, .CLN_EVQ_BUSY] s (q.wr F.CLN_EVQ_CMD_LAST 0 0) := hframe.wr (fun _ => rfl) _ _ _ (by decide)
  have hlast : (q.wr F.CLN_EVQ_CMD_LAST 0 0).rd F.CLN_EVQ_CMD_LAST = 0 := State.rd_wr_same _ _ _ _ (by decide)
  have hclarn : (q.wr F.CLN_EVQ_CMD_LAST 0 0).clarn = q.clarn := rfl
  generalize q.wr F.CLN_EVQ_CMD_LAST 0 0 = u at hexec hnoted hlast hclarn
  have hmem' : s.copyOf (s.rd F.CLN_EVQ_ID_ID) (s.evqBytes.drop 1) 0 (s.rd F.CLN_EVQ_LEN_LEN = 0) ∈ (u.chan c).pend := by
    rw [State.chan_congr hclarn]; exact hmem
  refine ⟨_, hexec, (u.busyShow_onlyRegs.1.rd (by decide) 0).trans hlast, ?_,
    ⟨_, by rw [State.chan_congr u.clarn_busyShow]; exact hmem', rfl, rfl⟩,
    (hnoted.trans ((Frame.of_onlyRegs (k := State.busless) (fun _ => rfl) u.busyShow_onlyRegs).mono (by decide))).onlyRegs_bus⟩
  rw [State.busy_busyShow _ (by decide)]
  exact State.waits_of_mem (c := c) (by rw [hclarn, hlen']; exact c.isLt) hmem'

theorem fieldOf_cancelWord : ∀ e : BitVec 5, fieldOf (0x40000000 ||| e.setWidth 32) F.CLN_EVQ_CMD_ENTRY = e.toNat ∧
    fieldOf (0x40000000 ||| e.setWidth 32) F.CLN_EVQ_CMD_CANCEL = 1 ∧ fieldOf (0x40000000 ||| e.setWidth 32) F.CLN_EVQ_CMD_SUBMIT = 0 := by decide

/-- The frames of an entry leave every channel. -/
def State.entryGone (s : State) (e : Nat) : State :=
  (s.modChan 0 fun h => { h with pend := h.pend.filter fun t => t.src ≠ e }).modChan 1 fun h => { h with pend := h.pend.filter fun t => t.src ≠ e }

theorem State.cancelEv_eq (s : State) (e : Nat) : s.cancelEv e = (s.entryGone e).busyShow := by
  unfold State.cancelEv State.entryGone
  rw [show List.range 2 = [0, 1] from rfl]
  rfl

theorem State.pend_entryGone {s : State} (hlen : s.clarn.ch.length = 2) (e : Nat) {c : Nat} (hc : c < 2) :
    ((s.entryGone e).chan c).pend = (s.chan c).pend.filter fun x => x.src ≠ e := by
  unfold State.entryGone
  rcases (by omega : c = 0 ∨ c = 1) with rfl | rfl
  · rw [State.chan_modChan_ne _ _ (by decide), State.chan_modChan_same (by omega)]
  · rw [State.chan_modChan_same (by rw [State.length_ch_modChan]; omega), State.chan_modChan_ne _ _ (by decide)]

theorem State.entryGone_frame (s : State) (e : Nat) (rs : List Reg) : Frame State.busless rs s (s.entryGone e) := (Frame.refl _ _ s).other rfl rfl

theorem execCancel_effect (e : BitVec 5) {s : State} (hlen : s.clarn.ch.length = 2) :
    ∃ t, execCancel e s = .next t ∧ (t.reg .CLN_EVQ_BUSY 0).getLsbD e.toNat = false ∧
    (∀ c, c < 2 → (t.chan c).pend = (s.chan c).pend.filter fun x => x.src ≠ e.toNat) ∧
    OnlyRegs [.CLN_EVQ_CMD, .CLN_EVQ_BUSY] { s with clarn := t.clarn } t := by
  obtain ⟨hentry, hcancel, hsubmit⟩ := fieldOf_cancelWord e
  have hexec : execCancel e s = .next (((s.wr F.CLN_EVQ_CMD_ENTRY 0 e.toNat).entryGone e.toNat).busyShow) := by
    unfold execCancel State.writeEvqCmd
    rw [hentry, hcancel, hsubmit]
    exact congrArg Host.Outcome.next (State.cancelEv_eq _ _)
  have hnoted : Frame State.busless [.CLN_EVQ_CMD, .CLN_EVQ_BUSY] s (s.wr F.CLN_EVQ_CMD_ENTRY 0 e.toNat) :=
    (Frame.refl _ _ s).wr (fun _ => rfl) _ _ _ (by decide)
  have hclarn : (s.wr F.CLN_EVQ_CMD_ENTRY 0 e.toNat).clarn = s.clarn := State.clarn_wr _ _ _ _
  generalize s.wr F.CLN_EVQ_CMD_ENTRY 0 e.toNat = u at hexec hnoted hclarn
  have hgone := hnoted.trans (u.entryGone_frame e.toNat _)
  have hpend : ∀ c, c < 2 → ((u.entryGone e.toNat).chan c).pend = (s.chan c).pend.filter fun x => x.src ≠ e.toNat := fun c hc => by
    rw [State.pend_entryGone (by rw [hclarn]; exact hlen) _ hc, State.chan_congr hclarn]
  have hlen' : (u.entryGone e.toNat).clarn.ch.length = 2 := by
    rw [State.entryGone, State.length_ch_modChan, State.length_ch_modChan, hclarn, hlen]
  generalize u.entryGone e.toNat = v at hexec hgone hpend hlen'
  refine ⟨_, hexec, ?_, fun c hc => by rw [State.chan_congr v.clarn_busyShow]; exact hpend c hc,
    (hgone.trans ((Frame.of_onlyRegs (k := State.busless) (fun _ => rfl) v.busyShow_onlyRegs).mono (by decide))).onlyRegs_bus⟩
  rw [State.busy_busyShow _ e.isLt]
  refine State.waits_eq_false fun c hc x hx => ?_
  rw [hpend c (by omega)] at hx
  simpa using (List.mem_filter.1 hx).2

/-! ### The receive queues (R382) -/

/-- The oldest entries leave a channel's queue. -/
def State.rxDropped (s : State) (c k : Nat) : State := s.modChan c fun h => { h with rxq := h.rxq.drop k, dropping := h.dropping && k = 0 }

theorem State.rxq_rxDropped (s : State) (c k : Nat) : ((s.rxDropped c k).chan c).rxq = (s.chan c).rxq.drop k := by
  unfold State.rxDropped
  rcases Nat.lt_or_ge c s.clarn.ch.length with hc | hc
  · rw [State.chan_modChan_same hc]
  · rw [State.chan_of_ge (by rw [State.length_ch_modChan]; exact hc), State.chan_of_ge hc]
    exact List.drop_nil.symm

theorem execClnRxqAck_effect {c : Fin 2} {n : BitVec 9} {s : State} (hn : n.toNat ≤ (s.chan c).rxq.length) (hlen : (s.chan c).rxq.length ≤ 256) :
    ∃ t, execClnRxqAck c n s = .next t ∧ (t.chan c).rxq = (s.chan c).rxq.drop n.toNat ∧
    t.rd F.CLN_RXQ_STAT_FILL c = (s.chan c).rxq.length - n.toNat ∧
    t.rd F.CLN_RXQ_STAT_OLDEST c = (s.rd F.CLN_RXQ_STAT_OLDEST c + n.toNat) % 256 ∧
    OnlyRegs [.CLN_RXQ_STAT] { s with clarn := t.clarn } t := by
  have hexec : execClnRxqAck c n s =
      .next (((s.rxDropped c n.toNat).wr F.CLN_RXQ_STAT_OLDEST c ((s.rd F.CLN_RXQ_STAT_OLDEST c + n.toNat) % 256)).fillShow c) := by
    unfold execClnRxqAck State.ackRx
    rw [min_eq_left hn]
    rfl
  have hq := s.rxq_rxDropped c n.toNat
  have hdrop : Frame State.busless [.CLN_RXQ_STAT] s (s.rxDropped c n.toNat) := (Frame.refl _ _ s).other rfl rfl
  generalize s.rxDropped c n.toNat = u at hexec hq hdrop
  generalize hv : u.wr F.CLN_RXQ_STAT_OLDEST c ((s.rd F.CLN_RXQ_STAT_OLDEST c + n.toNat) % 256) = v at hexec
  have hshown : Frame State.busless [.CLN_RXQ_STAT] s v := hv ▸ hdrop.wr (fun _ => rfl) _ _ _ (by decide)
  have hclarn : v.clarn = u.clarn := by rw [← hv, State.clarn_wr]
  have hold : v.rd F.CLN_RXQ_STAT_OLDEST c = (s.rd F.CLN_RXQ_STAT_OLDEST c + n.toNat) % 256 := by
    rw [← hv, State.rd_wr_same _ _ _ _ (by decide)]
    exact Nat.mod_eq_of_lt (Nat.mod_lt _ (by decide))
  have hq' : (v.chan c).rxq = (s.chan c).rxq.drop n.toNat := by rw [State.chan_congr hclarn, hq]
  refine ⟨_, hexec, ?_, ?_, (State.rd_wr_ne _ _ _ _ _ _ (.inr (by decide))).trans hold, (hshown.wr (fun _ => rfl) _ _ _ (by decide)).onlyRegs_bus⟩
  · rw [State.fillShow, State.chan_congr (State.clarn_wr _ _ _ _)]
    exact hq'
  · rw [State.fillShow, State.rd_wr_same _ _ _ _ (by decide), hq', List.length_drop]
    exact Nat.mod_eq_of_lt (by show _ < 512; omega)

/-! ### A channel's configuration (R365, R367, R388) -/

/-- The compensation of a write, which is always taken. -/
def State.tdcTaken (s : State) (c : Nat) (w : Word) : State := s.wr F.CLN_CH_CFG_TDC_EN c (fieldOf w F.CLN_CH_CFG_TDC_EN)

/-- The fields of a write that a disabled channel takes. -/
def State.cfgTaken (s : State) (c : Nat) (w : Word) : State :=
  ((s.tdcTaken c w).wr F.CLN_CH_CFG_MODE c (fieldOf w F.CLN_CH_CFG_MODE)).wr F.CLN_CH_CFG_TERM c (fieldOf w F.CLN_CH_CFG_TERM)

/-- A channel enabled. -/
def State.chanStart (s : State) (c : Nat) : State :=
  (((s.wr F.CLN_CH_CFG_EN c 1).wr F.CLN_CH_STAT_STATE c 0).wr F.CLN_CH_STAT_TEC c 0).wr F.CLN_CH_STAT_REC c 0

theorem State.writeChCfg_enabling {s : State} {c : Nat} {w : Word} (hoff : s.flag F.CLN_CH_CFG_EN c = false) (hon : fieldOf w F.CLN_CH_CFG_EN = 1) :
    s.writeChCfg c w = if (s.cfgTaken c w).timingOk c && (s.cfgTaken c w).rd F.CLN_CH_CFG_MODE c ≠ 3 then (s.cfgTaken c w).chanStart c
      else (s.cfgTaken c w).clnErr :=
  (if_neg (by simp [hoff])).trans (if_neg (by simp [hon]))

/-- Whether a write keeps what is fixed while a channel is enabled. -/
def State.cfgSame (s : State) (c : Nat) (w : Word) : Bool :=
  fieldOf w F.CLN_CH_CFG_MODE = s.rd F.CLN_CH_CFG_MODE c && fieldOf w F.CLN_CH_CFG_TERM = s.rd F.CLN_CH_CFG_TERM c

theorem State.writeChCfg_enabled {s : State} {c : Nat} {w : Word} (hon : s.flag F.CLN_CH_CFG_EN c = true) : s.writeChCfg c w =
    if fieldOf w F.CLN_CH_CFG_EN = 1 then (if s.cfgSame c w then s.tdcTaken c w else (s.tdcTaken c w).clnErr)
    else (if s.cfgSame c w then s.tdcTaken c w else (s.tdcTaken c w).clnErr).chanStop c := if_pos hon

theorem State.tdcTaken_effect (s : State) (c : Nat) (w : Word) : (s.tdcTaken c w).rd F.CLN_CH_CFG_MODE c = s.rd F.CLN_CH_CFG_MODE c ∧
    OnlyRegs [.CLN_CH_CFG] s (s.tdcTaken c w) := ⟨State.rd_wr_ne _ _ _ _ _ _ (.inr (by decide)), (OnlyRegs.refl _ s).wr _ _ _ (by decide)⟩

theorem SameRegs.timingOk {rs : List Reg} {s t : State} (h : SameRegs rs s t) (hn : .CLN_NBT ∉ rs) (hd : .CLN_DBT ∉ rs) (c : Nat) :
    t.timingOk c = s.timingOk c := by
  have hnbt : ∀ f : Fld, f.reg = .CLN_NBT → t.rd f c = s.rd f c := fun f hf => h.rd (by rw [hf]; exact hn) c
  have hdbt : ∀ f : Fld, f.reg = .CLN_DBT → t.rd f c = s.rd f c := fun f hf => h.rd (by rw [hf]; exact hd) c
  simp only [State.timingOk, hnbt F.CLN_NBT_NPRE rfl, hnbt F.CLN_NBT_NTSEG1 rfl, hnbt F.CLN_NBT_NTSEG2 rfl, hnbt F.CLN_NBT_NSJW rfl,
    hdbt F.CLN_DBT_DPRE rfl, hdbt F.CLN_DBT_DTSEG1 rfl, hdbt F.CLN_DBT_DTSEG2 rfl, hdbt F.CLN_DBT_DSJW rfl]

theorem State.cfgTaken_effect (s : State) (c : Nat) (w : Word) : (s.cfgTaken c w).rd F.CLN_CH_CFG_MODE c = fieldOf w F.CLN_CH_CFG_MODE ∧
    (s.cfgTaken c w).flag F.CLN_CH_CFG_EN c = s.flag F.CLN_CH_CFG_EN c ∧ (s.cfgTaken c w).timingOk c = s.timingOk c ∧
    OnlyRegs [.CLN_CH_CFG] s (s.cfgTaken c w) := by
  have hall : OnlyRegs [.CLN_CH_CFG] s (s.cfgTaken c w) :=
    (((OnlyRegs.refl _ s).wr F.CLN_CH_CFG_TDC_EN c _ (by decide)).wr F.CLN_CH_CFG_MODE c _ (by decide)).wr F.CLN_CH_CFG_TERM c _ (by decide)
  refine ⟨?_, ?_, hall.1.timingOk (by decide) (by decide) c, hall⟩
  · exact (State.rd_wr_ne _ _ _ _ _ _ (.inr (by decide))).trans
      ((State.rd_wr_same _ _ _ _ (by decide)).trans (Nat.mod_eq_of_lt (fieldOf_lt w F.CLN_CH_CFG_MODE)))
  · exact (State.flag_wr_ne _ _ _ _ _ _ (.inr (by decide))).trans ((State.flag_wr_ne _ _ _ _ _ _ (.inr (by decide))).trans
      (State.flag_wr_ne _ _ _ _ _ _ (.inr (by decide))))

theorem State.chanStart_effect (s : State) (c : Nat) : (s.chanStart c).flag F.CLN_CH_CFG_EN c = true ∧
    (s.chanStart c).rd F.CLN_CH_CFG_MODE c = s.rd F.CLN_CH_CFG_MODE c ∧ (s.chanStart c).rd F.CLN_CH_STAT_STATE c = 0 ∧
    (s.chanStart c).rd F.CLN_CH_STAT_TEC c = 0 ∧ (s.chanStart c).rd F.CLN_CH_STAT_REC c = 0 ∧
    OnlyRegs [.CLN_CH_CFG, .CLN_CH_STAT] s (s.chanStart c) := by
  have hen : (s.wr F.CLN_CH_CFG_EN c 1).flag F.CLN_CH_CFG_EN c = true := State.flag_wr_one _ _ _ (by decide)
  have hmode : (s.wr F.CLN_CH_CFG_EN c 1).rd F.CLN_CH_CFG_MODE c = s.rd F.CLN_CH_CFG_MODE c := State.rd_wr_ne _ _ _ _ _ _ (.inr (by decide))
  have hset : OnlyRegs [.CLN_CH_CFG, .CLN_CH_STAT] s (s.wr F.CLN_CH_CFG_EN c 1) := (OnlyRegs.refl _ s).wr _ _ _ (by decide)
  unfold State.chanStart
  generalize s.wr F.CLN_CH_CFG_EN c 1 = u at hen hmode hset
  obtain ⟨hstate, htec, hrec, hclear⟩ := u.countersClear_effect c (v := 0) (by decide)
  exact ⟨(hclear.1.flag (by decide) c).trans hen, (hclear.1.rd (by decide) c).trans hmode, hstate, htec, hrec, hset.trans (hclear.mono (by decide))⟩

theorem execClnChCfgWrite_enables {c : Fin 2} {w : Word} {s : State} (hoff : s.flag F.CLN_CH_CFG_EN c = false) (hon : fieldOf w F.CLN_CH_CFG_EN = 1)
    (htime : s.timingOk c = true) (hmode : fieldOf w F.CLN_CH_CFG_MODE ≠ 3) :
    ∃ t, execClnChCfgWrite c w s = .next t ∧ t.flag F.CLN_CH_CFG_EN c = true ∧ t.rd F.CLN_CH_CFG_MODE c = fieldOf w F.CLN_CH_CFG_MODE ∧
    t.rd F.CLN_CH_STAT_STATE c = 0 ∧ t.rd F.CLN_CH_STAT_TEC c = 0 ∧ t.rd F.CLN_CH_STAT_REC c = 0 ∧ OnlyRegs [.CLN_CH_CFG, .CLN_CH_STAT] s t := by
  obtain ⟨htaken, -, htime', hset⟩ := s.cfgTaken_effect c w
  have hexec := (State.writeChCfg_enabling hoff hon).trans (if_pos (by rw [htime', htime, htaken]; simp [hmode]))
  obtain ⟨hen, hmode', hstate, htec, hrec, hstart⟩ := (s.cfgTaken c w).chanStart_effect c
  exact ⟨_, congrArg Host.Outcome.next hexec, hen, hmode'.trans htaken, hstate, htec, hrec, (hset.mono (by decide)).trans hstart⟩

theorem OnlyRegs.clnErr {s t : State} (h : OnlyRegs [.CLN_CH_CFG] s t) : OnlyLogs [.CLN_CH_CFG, .CLN_CAUSE] s t.clnErr :=
  ((Frame.of_onlyRegs (k := State.logless) (fun _ => rfl) h).mono (by decide)).trans (t.clnErr_effect.2.mono (by decide))

theorem execClnChCfgWrite_badTiming {c : Fin 2} {w : Word} {s : State} (hoff : s.flag F.CLN_CH_CFG_EN c = false)
    (hon : fieldOf w F.CLN_CH_CFG_EN = 1) (htime : s.timingOk c = false) :
    ∃ t, execClnChCfgWrite c w s = .next t ∧ t.flag F.CLN_CH_CFG_EN c = false ∧ t.flag F.CLN_CAUSE_CFGERR = true ∧
    OnlyLogs [.CLN_CH_CFG, .CLN_CAUSE] s t := by
  obtain ⟨-, hen, htime', hset⟩ := s.cfgTaken_effect c w
  have hexec := (State.writeChCfg_enabling hoff hon).trans (if_neg (by rw [htime', htime]; simp))
  generalize s.cfgTaken c w = u at hexec hen hset
  exact ⟨_, congrArg Host.Outcome.next hexec,
    (State.flag_congr (u.clnErr_effect.2.1 _ _ (by decide))).trans (hen.trans hoff), u.clnErr_effect.1, hset.clnErr⟩

theorem execClnChCfgWrite_modeFixed {c : Fin 2} {w : Word} {s : State} (hen : s.flag F.CLN_CH_CFG_EN c = true)
    (hon : fieldOf w F.CLN_CH_CFG_EN = 1) (hmode : fieldOf w F.CLN_CH_CFG_MODE ≠ s.rd F.CLN_CH_CFG_MODE c) :
    ∃ t, execClnChCfgWrite c w s = .next t ∧ t.rd F.CLN_CH_CFG_MODE c = s.rd F.CLN_CH_CFG_MODE c ∧ t.flag F.CLN_CAUSE_CFGERR = true ∧
    OnlyLogs [.CLN_CH_CFG, .CLN_CAUSE] s t := by
  have hexec := (State.writeChCfg_enabled hen).trans ((if_pos hon).trans (if_neg (by simp [State.cfgSame, hmode])))
  obtain ⟨hkept, hset⟩ := s.tdcTaken_effect c w
  generalize s.tdcTaken c w = u at hexec hkept hset
  exact ⟨_, congrArg Host.Outcome.next hexec,
    (State.rd_congr (u.clnErr_effect.2.1 _ _ (by decide))).trans hkept, u.clnErr_effect.1, hset.clnErr⟩

/-- A channel disabled, before its frames go. -/
def State.chanOff (s : State) (c : Nat) : State :=
  (((s.wr F.CLN_CH_CFG_EN c 0).wr F.CLN_CH_STAT_STATE c 3).wr F.CLN_CH_STAT_TEC c 0).wr F.CLN_CH_STAT_REC c 0

theorem State.chanOff_effect (s : State) (c : Nat) : (s.chanOff c).flag F.CLN_CH_CFG_EN c = false ∧ (s.chanOff c).rd F.CLN_CH_STAT_STATE c = 3 ∧
    OnlyRegs [.CLN_CH_CFG, .CLN_CH_STAT] s (s.chanOff c) := by
  have hen : (s.wr F.CLN_CH_CFG_EN c 0).flag F.CLN_CH_CFG_EN c = false := State.flag_wr_same _ _ _ _ (by decide)
  have hset : OnlyRegs [.CLN_CH_CFG, .CLN_CH_STAT] s (s.wr F.CLN_CH_CFG_EN c 0) := (OnlyRegs.refl _ s).wr _ _ _ (by decide)
  unfold State.chanOff
  generalize s.wr F.CLN_CH_CFG_EN c 0 = u at hen hset
  obtain ⟨hstate, -, -, hclear⟩ := u.countersClear_effect c (v := 3) (by decide)
  exact ⟨(hclear.1.flag (by decide) c).trans hen, hstate, hset.trans (hclear.mono (by decide))⟩

theorem State.chanStop_eq (s : State) (c : Nat) :
    s.chanStop c = ((s.chanOff c).modChan c fun h => { h with pend := [], heardAt := none }).busyShow := rfl

theorem State.chanStop_effect {s : State} {c : Nat} (hc : c < s.clarn.ch.length) : (s.chanStop c).flag F.CLN_CH_CFG_EN c = false ∧
    (s.chanStop c).rd F.CLN_CH_STAT_STATE c = 3 ∧ ((s.chanStop c).chan c).pend = [] ∧
    Frame State.busless [.CLN_CH_CFG, .CLN_CH_STAT, .CLN_EVQ_BUSY] s (s.chanStop c) := by
  obtain ⟨hen, hstate, hset⟩ := s.chanOff_effect c
  rw [State.chanStop_eq]
  have hlen : (s.chanOff c).clarn = s.clarn := (congrArg State.clarn hset.2 :)
  generalize s.chanOff c = u at hen hstate hset hlen
  generalize hv : (u.modChan c fun h => { h with pend := [], heardAt := none }) = v
  have hregs : v.regs = u.regs := by rw [← hv]; rfl
  have hframe : Frame State.busless [.CLN_CH_CFG, .CLN_CH_STAT, .CLN_EVQ_BUSY] s v :=
    ((Frame.of_onlyRegs (k := State.busless) (fun _ => rfl) hset).mono (by decide)).other hregs (by rw [← hv]; rfl)
  have hpend : (v.chan c).pend = [] := by rw [← hv, State.chan_modChan_same (by rw [hlen]; exact hc)]
  exact ⟨(v.busyShow_onlyRegs.1.flag (by decide) c).trans ((State.flag_congr_regs hregs _ _).trans hen),
    (v.busyShow_onlyRegs.1.rd (by decide) c).trans ((State.rd_congr_regs hregs _ _).trans hstate),
    by rw [State.chan_congr v.clarn_busyShow]; exact hpend,
    hframe.trans ((Frame.of_onlyRegs (k := State.busless) (fun _ => rfl) v.busyShow_onlyRegs).mono (by decide))⟩

theorem execClnChCfgWrite_disables {c : Fin 2} {s : State} (hen : s.flag F.CLN_CH_CFG_EN c = true) (hc : c.val < s.clarn.ch.length) :
    ∃ t, execClnChCfgWrite c (setField (s.reg .CLN_CH_CFG c) F.CLN_CH_CFG_EN 0) s = .next t ∧ t.flag F.CLN_CH_CFG_EN c = false ∧
    t.rd F.CLN_CH_STAT_STATE c = 3 ∧ (t.chan c).pend = [] ∧ OnlyRegs [.CLN_CH_CFG, .CLN_CH_STAT, .CLN_EVQ_BUSY] { s with clarn := t.clarn } t := by
  have hsame : s.cfgSame c (setField (s.reg .CLN_CH_CFG c) F.CLN_CH_CFG_EN 0) = true := by
    rw [State.cfgSame, fieldOf_setField_ne _ _ _ _ (by decide) (by decide), fieldOf_setField_ne _ _ _ _ (by decide) (by decide)]
    exact Bool.and_eq_true_iff.2 ⟨decide_eq_true rfl, decide_eq_true rfl⟩
  have hclear : fieldOf (setField (s.reg .CLN_CH_CFG c) F.CLN_CH_CFG_EN 0) F.CLN_CH_CFG_EN ≠ 1 := by
    rw [fieldOf_setField _ _ _ (by decide) (by decide)]; decide
  have hexec := (State.writeChCfg_enabled (w := setField (s.reg .CLN_CH_CFG c) F.CLN_CH_CFG_EN 0) hen).trans (if_neg hclear)
  rw [if_pos hsame] at hexec
  obtain ⟨-, hset⟩ := s.tdcTaken_effect c (setField (s.reg .CLN_CH_CFG c) F.CLN_CH_CFG_EN 0)
  generalize s.tdcTaken c (setField (s.reg .CLN_CH_CFG c) F.CLN_CH_CFG_EN 0) = u at hexec hset
  have hclarn : u.clarn = s.clarn := (congrArg State.clarn hset.2 :)
  obtain ⟨hoff, hstate, hpend, hstop⟩ := State.chanStop_effect (s := u) (c := c) (by rw [hclarn]; exact hc)
  exact ⟨_, congrArg Host.Outcome.next hexec, hoff, hstate, hpend,
    (((Frame.of_onlyRegs (k := State.busless) (fun _ => rfl) hset).mono (by decide)).trans hstop).onlyRegs_bus⟩

/-- Settles O49: cycles and the frames queued in them, the error counters' thresholds, the frame that is sent or fails, the entries of
the event queue, the receive queues and a channel's enabling. -/
theorem clarnChannelsCyclesAndQueues : Obligations.ClarnChannelsCyclesAndQueues := by
  unfold Obligations.ClarnChannelsCyclesAndQueues
  exact ⟨fun s => execCycleStart_holder, fun s => execCycleStart_timer, fun s => execCycleStart_none, fun c s => execRefLost_effect,
    fun s => execRefLost_none, fun k s => execSchedSlot_none, fun k n s => execSchedSlot_heartbeat, fun c x i d s => execClarnTxDone_sent,
    fun c x i d s hon hpend hid htdc hd _ => execClarnTxDone_bitError hon hpend hid htdc hd, fun c i d s => execClarnTxDone_none d,
    fun c tec r s => execClarnBusError_busOff r, fun c tec r s => execClarnBusError_passive, fun c tec r s => execClarnBusError_active,
    fun c tec r s => execClarnBusError_off tec r, fun c s => execBusoffRecovery_effect, fun c s => execBusoffRecovery_none,
    fun s => execSubmit_badLength, fun s => execSubmit_full, fun c s => execSubmit_effect, fun e s => execCancel_effect e,
    fun c n s => execClnRxqAck_effect, fun c w s => execClnChCfgWrite_enables, fun c w s => execClnChCfgWrite_badTiming,
    fun c w s => execClnChCfgWrite_modeFixed, fun c s => execClnChCfgWrite_disables, fun i s => rfl⟩

end Sys2Proof.Machine
end

section
/-! PROOFS.  Frames received on the bus: what is refused, ignored, filtered or queued, and what a heard frame leaves (R369, R370, R382). -/

namespace Sys2Proof.Machine

/-! ### Payloads (R371; log entry 8) -/

theorem fdLen_le {n : Nat} (h : fdLen n = true) : n ≤ 64 := by
  unfold fdLen at h
  simp at h
  omega

/-- The length a payload is filled up to. -/
def fdFill (m : Nat) : Nat := ([8, 12, 16, 20, 24, 32, 48, 64].find? fun n => m ≤ n).getD 64

theorem fdLen_fill : ∀ m < 65, fdLen m = false → fdLen (m + (fdFill m - m)) = true := by decide

theorem fdData_eq (l : List Byte) : fdData l = if fdLen (l.take 64).length then l.take 64
    else l.take 64 ++ List.replicate (fdFill (l.take 64).length - (l.take 64).length) 0 := rfl

theorem fdLen_fdData (l : List Byte) : fdLen (fdData l).length = true := by
  rw [fdData_eq]
  split
  · next h => exact h
  · next h =>
    rw [List.length_append, List.length_replicate]
    exact fdLen_fill _ (by rw [List.length_take]; omega) (by simpa using h)

theorem fdData_of_fdLen {l : List Byte} (h : fdLen l.length = true) : fdData l = l := by
  have htake : l.take 64 = l := List.take_of_length_le (fdLen_le h)
  rw [fdData_eq, htake, if_pos h]

theorem execClarnFrameReceive_eq (c : Fin 2) {f : CanFrame} (s : State) (h : fdLen f.data.length = true) :
    execClarnFrameReceive c f s = .next (s.frameIn c f) := by
  show Host.Outcome.next (s.frameIn c { f with data := fdData f.data }) = _
  rw [fdData_of_fdLen h]

/-! ### A frame on a channel (R382, R384) -/

/-- All but registers and free values. -/
def State.regfreeless (s : State) : State := { s with regs := [], free := 0 }

theorem Frame.onlyRegs_free {rs : List Reg} {s t : State} (h : Frame State.regfreeless rs s t) : OnlyRegs rs { s with free := t.free } t :=
  ⟨h.1, congrArg (fun u : State => { u with free := t.free }) h.2⟩

theorem State.rxGood_frame (s : State) (c : Nat) : Frame State.regfreeless [.CLN_CH_STAT] s (s.rxGood c) := by
  have hfree : Frame State.regfreeless [.CLN_CH_STAT] s (s.freeNat 9).2 := (Frame.refl _ _ s).other rfl rfl
  have hrec : Frame State.regfreeless [.CLN_CH_STAT] s ((s.freeNat 9).2.wr F.CLN_CH_STAT_REC c (119 + (s.freeNat 9).1)) :=
    hfree.wr (fun _ => rfl) _ _ _ (by decide)
  unfold State.rxGood
  refine .ite (.ite (hrec.wr (fun _ => rfl) _ _ _ (by decide)) hrec) ((Frame.refl _ _ s).wr (fun _ => rfl) _ _ _ (by decide))

theorem State.frameIn_none {s : State} {c : Nat} (f : CanFrame) (h : s.chanOn c = false ∨ s.rd F.CLN_CH_CFG_MODE c = 1) : s.frameIn c f = s :=
  if_pos (by rcases h with h | h <;> simp [h])

theorem State.frameIn_ignored {s : State} {c : Nat} {f : CanFrame} (hon : s.chanOn c = true) (hmode : s.rd F.CLN_CH_CFG_MODE c ≠ 1)
    (hform : f.fdExt = false ∨ f.id.toNat % 2 ^ 13 ≠ 0) : s.frameIn c f = (s.rxGood c).count F.IGNORED_COUNT c := by
  refine (if_neg (by simp [hon, hmode])).trans (if_pos ?_)
  generalize f.id.toNat % 2 ^ 13 = m at hform
  simpa using hform

theorem State.frameIn_filter {s : State} {c : Nat} {f : CanFrame} (hon : s.chanOn c = true) (hmode : s.rd F.CLN_CH_CFG_MODE c ≠ 1)
    (hext : f.fdExt = true) (hid : f.id.toNat % 2 ^ 13 = 0) :
    s.frameIn c f = (s.rxGood c).filterIn c f.id.toNat (s.rd F.CLN_CH_CFG_MODE c = 2) f.data := by
  have hkept : (s.rxGood c).rd F.CLN_CH_CFG_MODE c = s.rd F.CLN_CH_CFG_MODE c := (s.rxGood_frame c).rd _ (by decide) c
  refine (if_neg (by simp [hon, hmode])).trans ((if_neg ?_).trans ?_)
  · rw [hid, hext]; decide
  · rw [hkept]

theorem State.rd_count_same (s : State) (r : Reg) (c : Nat) : (s.count ⟨r, 31, 0⟩ c).rd ⟨r, 31, 0⟩ c = satInc 32 (s.rd ⟨r, 31, 0⟩ c) :=
  (State.rd_wr_same _ _ _ _ (by show 0 ≤ 31 ∧ 31 < 32; decide)).trans (Nat.mod_eq_of_lt (satInc_lt _ _))

theorem execClarnFrameReceive_ignored {c : Fin 2} {f : CanFrame} {s : State} (hlen : fdLen f.data.length = true) (hon : s.chanOn c = true)
    (hmode : s.rd F.CLN_CH_CFG_MODE c ≠ 1) (hform : f.fdExt = false ∨ f.id.toNat % 2 ^ 13 ≠ 0) :
    ∃ t, execClarnFrameReceive c f s = .next t ∧ t.rd F.IGNORED_COUNT c = satInc 32 (s.rd F.IGNORED_COUNT c) ∧
    OnlyRegs [.CLN_CH_STAT, .IGNORED] { s with free := t.free } t := by
  have hgood := s.rxGood_frame c
  have hexec := (execClarnFrameReceive_eq c s hlen).trans (congrArg Host.Outcome.next (State.frameIn_ignored hon hmode hform))
  generalize s.rxGood c = u at hgood hexec
  exact ⟨_, hexec, (u.rd_count_same .IGNORED c).trans (congrArg (satInc 32) (hgood.rd F.IGNORED_COUNT (by decide) c)),
    ((hgood.mono (by decide)).count (fun _ => rfl) _ _ (by decide)).onlyRegs_free⟩

theorem State.rxAccepts_congr {s t : State} (h : t.clarn = s.clarn) (i q : Nat) : t.rxAccepts i q = s.rxAccepts i q := by
  rw [State.rxAccepts, State.rxAccepts, h]

theorem execClarnFrameReceive_duplicate {c : Fin 2} {f : CanFrame} {s : State} (hlen : fdLen f.data.length = true) (hon : s.chanOn c = true)
    (hmode : s.rd F.CLN_CH_CFG_MODE c ≠ 1) (hext : f.fdExt = true) (hid : f.id.toNat % 2 ^ 13 = 0)
    (hseq : s.rxAccepts f.id.toNat (byteAt f.data 0) = false) :
    ∃ t, execClarnFrameReceive c f s = .next t ∧ t.rd F.DUPLICATE_COUNT c = satInc 32 (s.rd F.DUPLICATE_COUNT c) ∧
    OnlyRegs [.CLN_CH_STAT, .DUPLICATE] { s with free := t.free } t := by
  have hgood := s.rxGood_frame c
  have hexec := (execClarnFrameReceive_eq c s hlen).trans (congrArg Host.Outcome.next (State.frameIn_filter hon hmode hext hid))
  generalize s.rxGood c = u at hgood hexec
  have hdup : u.filterIn c f.id.toNat (s.rd F.CLN_CH_CFG_MODE c = 2) f.data = u.count F.DUPLICATE_COUNT c :=
    if_pos (by rw [State.rxAccepts_congr (s := s) (t := u) (congrArg State.clarn hgood.2 :), hseq]; rfl)
  rw [hdup] at hexec
  exact ⟨_, hexec, (u.rd_count_same .DUPLICATE c).trans (congrArg (satInc 32) (hgood.rd F.DUPLICATE_COUNT (by decide) c)),
    ((hgood.mono (by decide)).count (fun _ => rfl) _ _ (by decide)).onlyRegs_free⟩

/-! ### An accepted frame (R370, R382) -/

/-- SEQ is held, and the channel has heard a frame. -/
def State.seqHeld (s : State) (c i q : Nat) : State :=
  ({ s with clarn := { s.clarn with held := Assoc.put s.clarn.held i q } } : State).modChan c fun h => { h with heardAt := some s.up }

theorem State.filterIn_taken {s : State} {c i : Nat} {d : List Byte} (hseq : s.rxAccepts i (byteAt d 0) = true) :
    s.filterIn c i false d = (((s.seqHeld c i (byteAt d 0)).rxStore c i false d).actFrame i d) :=
  (if_neg (by simp [hseq])).trans (if_neg (by decide))

/-- All but registers, the recorder, the bus and free values. -/
def State.rxless (s : State) : State := { s with regs := [], evr := {}, irqPulse := false, clarn := {}, free := 0 }

theorem State.rxStore_frame (s : State) (c i : Nat) (loop : Bool) (d : List Byte) :
    Frame State.rxless (rxRegs ++ recRegs) s (s.rxStore c i loop d) := by
  have hdrop : Frame State.rxless (rxRegs ++ recRegs) s (s.count F.RX_DROP_COUNT c) := (Frame.refl _ _ s).count (fun _ => rfl) _ _ (by decide)
  have hmark : Frame State.rxless (rxRegs ++ recRegs) s ((s.count F.RX_DROP_COUNT c).modChan c fun h => { h with dropping := true }) :=
    hdrop.other rfl rfl
  have hqueue : ∀ g : Chan → Chan, Frame State.rxless (rxRegs ++ recRegs) s (s.modChan c g) := fun g => (Frame.refl _ _ s).other rfl rfl
  refine .ite (Frame.refl _ _ s) (.ite (.ite hdrop ?_) ?_)
  · exact hmark.raise (fun _ => rfl) _ _ _ _ _ (by show Reg.CLN_CAUSE ∈ _; decide) (by decide)
  · exact (hqueue _).wr (fun _ => rfl) _ _ _ (by decide)

theorem State.clarn_raise (s : State) (f : Fld) (i sev : Nat) (d : List Word) (m : Nat) : (s.raise f i sev d m).clarn = s.clarn :=
  (congrArg State.clarn (s.logless_raise f i sev d m) :)

/-- The receive queue leaves what is held and kept. -/
theorem State.clarn_rxStore (s : State) (c i : Nat) (loop : Bool) (d : List Byte) :
    (s.rxStore c i loop d).clarn.held = s.clarn.held ∧ (s.rxStore c i loop d).clarn.got = s.clarn.got := by
  unfold State.rxStore
  extract_lets k wanted s1
  have hs1 : s1.clarn = s.clarn := State.clarn_wr _ _ _ _
  clear_value s1 wanted
  split
  · exact ⟨rfl, rfl⟩
  · split
    · split
      · exact ⟨congrArg Clarn.held hs1, congrArg Clarn.got hs1⟩
      · rw [State.clarn_raise]
        exact ⟨(congrArg Clarn.held hs1 : s1.clarn.held = _), (congrArg Clarn.got hs1 : s1.clarn.got = _)⟩
    · rw [State.fillShow, State.clarn_wr]
      exact ⟨rfl, rfl⟩

theorem State.seqHeld_effect (s : State) (c i q : Nat) : Assoc.find (s.seqHeld c i q).clarn.held i = some q ∧
    Frame State.rxless (rxRegs ++ recRegs) s (s.seqHeld c i q) :=
  ⟨(Assoc.find_put _ _ _ _).trans (if_pos rfl), (Frame.refl _ _ s).other rfl rfl⟩

/-! ### Frames without meaning (R382) -/

/-- All but registers, the bus and free values. -/
def State.busfreeless (s : State) : State := { s with regs := [], clarn := {}, free := 0 }

theorem Frame.onlyRegs_busFree {rs : List Reg} {s t : State} (h : Frame State.busfreeless rs s t) :
    OnlyRegs rs { s with clarn := t.clarn, free := t.free } t :=
  ⟨h.1, congrArg (fun u : State => { u with clarn := t.clarn, free := t.free }) h.2⟩

/-- An entry enters a channel's queue. -/
def State.rxPush (s : State) (c : Nat) (e : RxEnt) : State := s.modChan c fun h => { h with rxq := h.rxq ++ [e], dropping := false }

theorem State.rxStore_room {s : State} {c i : Nat} (d : List Byte) (hclass : idClass i < 32)
    (hmask : (s.reg .CLN_RXQ_MASK_LO 0).getLsbD (idClass i) = true) (hroom : (s.chan c).rxq.length < 256) :
    s.rxStore c i false d = (s.rxPush c { stamp := s.micros, id := i, loop := false, data := d }).fillShow c := by
  refine (if_neg ?_).trans (if_neg (Nat.not_le_of_lt hroom))
  rw [if_pos hclass, hmask]
  decide

theorem State.rxPush_effect {s : State} {c : Nat} (e : RxEnt) (hc : c < s.clarn.ch.length) (hroom : (s.chan c).rxq.length < 256) :
    let t := (s.rxPush c e).fillShow c
    (t.chan c).rxq = (s.chan c).rxq ++ [e] ∧ t.rd F.CLN_RXQ_STAT_FILL c = (s.chan c).rxq.length + 1 ∧
    Frame State.busfreeless [.CLN_RXQ_STAT] s t := by
  have hq : ((s.rxPush c e).chan c).rxq = (s.chan c).rxq ++ [e] := by rw [State.rxPush, State.chan_modChan_same hc]
  have hframe : Frame State.busfreeless [.CLN_RXQ_STAT] s (s.rxPush c e) := (Frame.refl _ _ s).other rfl rfl
  generalize s.rxPush c e = u at hq hframe
  refine ⟨?_, ?_, hframe.wr (fun _ => rfl) _ _ _ (by decide)⟩
  · rw [State.fillShow, State.chan_congr (State.clarn_wr _ _ _ _), hq]
  · rw [State.fillShow, State.rd_wr_same _ _ _ _ (by decide), hq, List.length_append, List.length_singleton]
    exact Nat.mod_eq_of_lt (by show _ < 512; omega)

theorem execClarnFrameReceive_queued {c : Fin 2} {f : CanFrame} {s : State} (hlen : fdLen f.data.length = true) (hon : s.chanOn c = true)
    (hmode : s.rd F.CLN_CH_CFG_MODE c = 0) (hext : f.fdExt = true) (hid : f.id.toNat % 2 ^ 13 = 0) (hmin : 16 ≤ idClass f.id.toNat)
    (hmax : idClass f.id.toNat < 32) (hseq : s.rxAccepts f.id.toNat (byteAt f.data 0) = true) (hc : c.val < s.clarn.ch.length)
    (hmask : (s.reg .CLN_RXQ_MASK_LO 0).getLsbD (idClass f.id.toNat) = true) (hroom : (s.chan c).rxq.length < 256) :
    ∃ t, execClarnFrameReceive c f s = .next t ∧
    (t.chan c).rxq = (s.chan c).rxq ++ [{ stamp := s.micros, id := f.id.toNat, loop := false, data := f.data }] ∧
    t.rd F.CLN_RXQ_STAT_FILL c = (s.chan c).rxq.length + 1 ∧
    OnlyRegs [.CLN_CH_STAT, .CLN_RXQ_STAT] { s with clarn := t.clarn, free := t.free } t := by
  have hgood := s.rxGood_frame c
  have hexec := (execClarnFrameReceive_eq c s hlen).trans
    (congrArg Host.Outcome.next (State.frameIn_filter hon (by rw [hmode]; decide) hext hid))
  rw [hmode, show (decide ((0 : Nat) = 2)) = false from rfl] at hexec
  generalize s.rxGood c = u at hgood hexec
  have hclarn : u.clarn = s.clarn := (congrArg State.clarn hgood.2 :)
  have hmicros : u.micros = s.micros := (congrArg State.micros hgood.2 :)
  rw [State.filterIn_taken (by rw [State.rxAccepts_congr hclarn]; exact hseq)] at hexec
  have hunlisted : listedClass (idClass f.id.toNat) = false := by
    rw [listedClass, decide_eq_false (by omega : ¬ idClass f.id.toNat < 16)]; rfl
  have hact : ∀ v : State, v.actFrame f.id.toNat f.data = v := fun v => if_neg (by simp [hunlisted])
  rw [hact] at hexec
  have hheld : ((u.seqHeld c f.id.toNat (byteAt f.data 0)).chan c).rxq = (s.chan c).rxq := by
    unfold State.seqHeld
    rw [State.chan_modChan_same (by show c.val < u.clarn.ch.length; rw [hclarn]; exact hc), ← State.chan_congr hclarn]
    rfl
  have hframe : Frame State.busfreeless [.CLN_CH_STAT, .CLN_RXQ_STAT] s (u.seqHeld c f.id.toNat (byteAt f.data 0)) :=
    ((Frame.forget (k := State.regfreeless) (fun _ => rfl) hgood).mono (by decide)).other rfl rfl
  have hlen' : (u.seqHeld c f.id.toNat (byteAt f.data 0)).clarn.ch.length = s.clarn.ch.length :=
    (State.length_ch_modChan _ _ _).trans (show u.clarn.ch.length = _ by rw [hclarn])
  have hmicros' : (u.seqHeld c f.id.toNat (byteAt f.data 0)).micros = s.micros := hmicros
  generalize u.seqHeld c f.id.toNat (byteAt f.data 0) = v at hexec hheld hframe hlen' hmicros'
  rw [State.rxStore_room _ hmax (by rw [hframe.1 _ _ (by decide)]; exact hmask) (by rw [hheld]; exact hroom), hmicros'] at hexec
  obtain ⟨hq, hfill, hpush⟩ := State.rxPush_effect (s := v) (c := c) { stamp := s.micros, id := f.id.toNat, loop := false, data := f.data }
    (by rw [hlen']; exact hc) (by rw [hheld]; exact hroom)
  exact ⟨_, hexec, by rw [hq, hheld], by rw [hfill, hheld], (hframe.trans (hpush.mono (by decide))).onlyRegs_busFree⟩

/-! ### A frame that is heard -/

theorem State.hears_iff {s : State} {c : Nat} {f : CanFrame} {cls : Nat} : s.hears c f cls = true ↔
    s.chanOn c = true ∧ s.rd F.CLN_CH_CFG_MODE c = 0 ∧ f.fdExt = true ∧ f.id.toNat % 2 ^ 13 = 0 ∧ idClass f.id.toNat = cls ∧
    listedClass cls = true ∧ f.id.toNat / 2 ^ 26 % 8 = classPrio cls ∧ f.data.length = classLen cls ∧
    s.rxAccepts f.id.toNat (byteAt f.data 0) = true := by
  unfold State.hears
  generalize f.id.toNat % 2 ^ 13 = m
  simp [and_assoc]

theorem fdLen_classLen : ∀ cls < 16, fdLen (classLen cls) = true := by decide

/-- The frame is kept as the latest of its class and node. -/
def State.gotKept (s : State) (cls node : Nat) (d : List Byte) : State :=
  { s with clarn := { s.clarn with got := Assoc.put s.clarn.got (cls * 128 + node) (s.up, d) } }

/-- What a heard frame leaves before its class acts: SEQ held, the frame kept, and nothing but the bus, rxRegs and the recorder changed. -/
structure Heard (f : CanFrame) (cls : Nat) (s v : State) : Prop where
  held : Assoc.find v.clarn.held f.id.toNat = some (byteAt f.data 0)
  got : Assoc.find v.clarn.got (cls * 128 + idNode f.id.toNat) = some (s.up, f.data)
  frame : Frame State.rxless (rxRegs ++ recRegs) s v

theorem execClarnFrameReceive_heard {c : Fin 2} {f : CanFrame} {cls : Nat} {s : State} (h : s.hears c f cls = true) :
    ∃ v, Heard f cls s v ∧ execClarnFrameReceive c f s = .next (v.actClass cls (idNode f.id.toNat) f.data).healthCheck := by
  obtain ⟨hon, hmode, hext, hid, hclass, hlisted, hprio, hlen, hseq⟩ := State.hears_iff.1 h
  have hcls : cls < 16 := by
    by_contra hge
    rw [listedClass, decide_eq_false hge] at hlisted
    exact Bool.false_ne_true hlisted
  have hgood := s.rxGood_frame c
  have hexec := (execClarnFrameReceive_eq c s (by rw [hlen]; exact fdLen_classLen cls hcls)).trans
    (congrArg Host.Outcome.next (State.frameIn_filter hon (by rw [hmode]; decide) hext hid))
  rw [hmode, show (decide ((0 : Nat) = 2)) = false from rfl] at hexec
  generalize s.rxGood c = u at hgood hexec
  rw [State.filterIn_taken (by rw [State.rxAccepts_congr (s := s) (t := u) (congrArg State.clarn hgood.2 :)]; exact hseq)] at hexec
  obtain ⟨hheld, hheard⟩ := u.seqHeld_effect c f.id.toNat (byteAt f.data 0)
  have hframe : Frame State.rxless (rxRegs ++ recRegs) s (u.seqHeld c f.id.toNat (byteAt f.data 0)) :=
    ((Frame.forget (k := State.regfreeless) (fun _ => rfl) hgood).mono (by decide)).trans hheard
  generalize u.seqHeld c f.id.toNat (byteAt f.data 0) = v at hexec hheld hframe
  have hstore := hframe.trans (v.rxStore_frame c f.id.toNat false f.data)
  have hheld' : Assoc.find (v.rxStore c f.id.toNat false f.data).clarn.held f.id.toNat = some (byteAt f.data 0) := by
    rw [(v.clarn_rxStore c f.id.toNat false f.data).1]; exact hheld
  generalize v.rxStore c f.id.toNat false f.data = w at hexec hstore hheld'
  have hup : w.up = s.up := (congrArg State.up hstore.2 :)
  have hact : w.actFrame f.id.toNat f.data = ((w.gotKept cls (idNode f.id.toNat) f.data).actClass cls (idNode f.id.toNat) f.data).healthCheck := by
    unfold State.actFrame
    rw [hclass]
    exact if_pos (by rw [hlisted, hprio, hlen]; simp)
  rw [hact] at hexec
  have hgot : Assoc.find (w.gotKept cls (idNode f.id.toNat) f.data).clarn.got (cls * 128 + idNode f.id.toNat) = some (s.up, f.data) :=
    (Assoc.find_put _ _ _ _).trans ((if_pos rfl).trans (by rw [hup]))
  exact ⟨w.gotKept cls (idNode f.id.toNat) f.data, ⟨hheld', hgot, hstore.other rfl rfl⟩, hexec⟩

/-- A class that keeps what is held and kept leaves the frame kept, whatever of the row follows health. -/
theorem Heard.kept {f : CanFrame} {cls : Nat} {s v w : State} (h : Heard f cls s v) (hheld : w.clarn.held = v.clarn.held)
    (hgot : w.clarn.got = v.clarn.got) : Kept f cls s w.healthCheck := by
  have hclarn : w.healthCheck.clarn = w.clarn := (congrArg State.clarn w.healthCheck_onlyRow :)
  unfold Kept
  rw [hclarn, hheld, hgot]
  exact ⟨h.held, h.got⟩

theorem Heard.onlyLogs {f : CanFrame} {cls : Nat} {rs : List Reg} {s v w : State} (h : Heard f cls s v)
    (hw : Frame State.rowbusfreelogless (rxRegs ++ rs ++ recRegs) v w) :
    OnlyLogs (rxRegs ++ rs) { s with clarn := w.healthCheck.clarn, row := w.healthCheck.row, free := w.healthCheck.free } w.healthCheck := by
  have hheard : Frame State.rowbusfreelogless (rxRegs ++ rs ++ recRegs) s v :=
    (Frame.forget (k := State.rxless) (fun _ => rfl) h.frame).mono fun r hr => by
      simp only [List.mem_append] at hr ⊢
      tauto
  have hcheck : Frame State.rowbusfreelogless (rxRegs ++ rs ++ recRegs) w w.healthCheck :=
    Frame.forget (k := State.rowlogless) (fun _ => rfl) (w.healthCheck_frame _)
  exact ((hheard.trans hw).trans hcheck).onlyLogs_rowBusFree

theorem Heard.onlyLogs' {f : CanFrame} {cls : Nat} {s v w : State} (h : Heard f cls s v)
    (hw : Frame State.rowbusfreelogless (rxRegs ++ recRegs) v w) :
    OnlyLogs rxRegs { s with clarn := w.healthCheck.clarn, row := w.healthCheck.row, free := w.healthCheck.free } w.healthCheck := by
  simpa only [List.append_nil] using h.onlyLogs (rs := []) (by simpa only [List.append_nil] using hw)

end Sys2Proof.Machine
end

section
/-! PROOFS.  What the frames of each class of the catalogue do, and the statement on received frames (R344 to R359, R369 to R383). -/

namespace Sys2Proof.Machine

/-! ### What health leaves -/

theorem State.healthCheck_keeps (s : State) : s.healthCheck.clarn = s.clarn ∧ s.healthCheck.regs = s.regs ∧ s.healthCheck.up = s.up :=
  ⟨(congrArg State.clarn s.healthCheck_onlyRow :), s.healthCheck_onlyRow.regs, (congrArg State.up s.healthCheck_onlyRow :)⟩

/-- The row's bookkeeping beside health stays. -/
theorem State.row_healthCheck_of {α : Type} (g : Row → α) (hg : ∀ (r : Row) a w, g { r with okAt := a, well := w } = g r) (s : State) :
    g s.healthCheck.row = g s.row := by
  obtain ⟨a, w, h⟩ := s.row_healthCheck
  rw [h, hg]

/-! ### The reference (R374) -/

theorem State.actRef_effect {s : State} (h : s.rowState ≠ 3) (d : List Byte) : (s.actRef d).clarn.cycle = byteAt d 1 % 16 ∧
    (s.actRef d).clarn.noRef = false ∧ (s.actRef d).clarn.held = s.clarn.held ∧ (s.actRef d).clarn.got = s.clarn.got ∧
    Frame State.rowbusfreelogless (rxRegs ++ recRegs) s (s.actRef d) := by
  rw [State.actRef, if_neg h]
  exact ⟨rfl, rfl, rfl, rfl, (Frame.refl _ _ s).other rfl rfl⟩

theorem Heard.rowState {f : CanFrame} {cls : Nat} {s v : State} (h : Heard f cls s v) : v.rowState = s.rowState :=
  h.frame.rd F.ROW_STAT_STATE (by decide) 0

theorem execRef_effect {c : Fin 2} {f : CanFrame} {s : State} (h : s.hears c f 0 = true) (hhold : s.rowState ≠ 3) :
    ∃ t, execRef c f s = .next t ∧ Kept f 0 s t ∧ t.clarn.cycle = byteAt f.data 1 % 16 ∧
    t.clarn.noRef = false ∧ OnlyLogs rxRegs { s with clarn := t.clarn, row := t.row, free := t.free } t := by
  obtain ⟨v, hv, hexec⟩ := execClarnFrameReceive_heard h
  obtain ⟨hcycle, href, hheld, hgot, hframe⟩ := State.actRef_effect (s := v) (by rw [hv.rowState]; exact hhold) f.data
  change _ = Host.Outcome.next (v.actRef f.data).healthCheck at hexec
  generalize v.actRef f.data = w at hexec hcycle href hheld hgot hframe
  exact ⟨_, hexec, hv.kept hheld hgot, by rw [w.healthCheck_keeps.1, hcycle], by rw [w.healthCheck_keeps.1, href], hv.onlyLogs' hframe⟩

/-! ### The cap table (R358, R359) -/

/-- The parts of a cap table with one more, which takes the place of an older one of its number. -/
def partsWith (l : List (Nat × Nat × List Byte)) (q k : Nat) (d : List Byte) : List (Nat × Nat × List Byte) :=
  (l.filter fun (x : Nat × Nat × List Byte) => x.1 = q && x.2.1 ≠ k) ++ [(q, k, d)]

theorem partsWith_complete {l : List (Nat × Nat × List Byte)} {q k : Nat} (d : List Byte)
    (h : ∀ p < 3, p ≠ k → (l.any fun (e : Nat × Nat × List Byte) => e.1 = q ∧ e.2.1 = p) = true) :
    ((List.range 3).all fun p => (partsWith l q k d).any fun x => x.2.1 = p) = true := by
  rw [List.all_eq_true]
  intro p hp
  rw [List.any_eq_true]
  by_cases hpk : p = k
  · exact ⟨(q, k, d), List.mem_append_right _ List.mem_cons_self, by simp [hpk]⟩
  · obtain ⟨x, hx, hxp⟩ := List.any_eq_true.1 (h p (List.mem_range.1 hp) hpk)
    have hxp' : x.1 = q ∧ x.2.1 = p := by simpa using hxp
    exact ⟨x, List.mem_append_left _ (List.mem_filter.2 ⟨hx, by simp [hxp', hpk]⟩), by simp [hxp'.2]⟩

theorem find_partsWith (l : List (Nat × Nat × List Byte)) (q k : Nat) (d : List Byte) :
    (partsWith l q k d).find? (fun x => x.2.1 = k) = some (q, k, d) := by
  rw [partsWith, List.find?_append, List.find?_eq_none.2 fun x hx => by simpa using (Bool.and_eq_true_iff.1 (List.mem_filter.1 hx).2).2]
  simp

/-- A cap of a complete table takes effect. -/
theorem State.rowCap_fresh {s : State} {w : Nat} (hw : w < 4096) : (s.rowCap w false).rd F.PWR_CAP_ROW_WATTS = w ∧
    (s.rowCap w false).flag F.PWR_CAP_ROW_STALE = false ∧ (s.rowCap w false).clarn = s.clarn ∧ (s.rowCap w false).row = s.row ∧
    Frame State.rowbusfreelogless ([.PWR_CAP_ROW, .PWR_CAP_EFF, .PWR_CAUSE] ++ recRegs) s (s.rowCap w false) := by
  obtain ⟨hwatts, hstale, hset⟩ := s.rowCapSet_effect hw false
  let u := s.rowCapSet w false
  let v := if s.flag F.PWR_CAP_ROW_STALE && !false then u.recordOpen 2 0 1 else u
  have hcap : s.rowCap w false = v.recap := rfl
  have hu : Frame State.rowbusfreelogless ([.PWR_CAP_ROW, .PWR_CAP_EFF, .PWR_CAUSE] ++ recRegs) s u :=
    (Frame.of_onlyRegs (k := State.rowbusfreelogless) (fun _ => rfl) hset).mono (by decide)
  have hopen : OnlyLogs [] { u with free := (u.recordOpen 2 0 1).free } (u.recordOpen 2 0 1) := OnlyLogs.recordOpen u 2 0 1 []
  have hv : v.clarn = s.clarn ∧ v.row = s.row ∧ Frame State.rowbusfreelogless ([.PWR_CAP_ROW, .PWR_CAP_EFF, .PWR_CAUSE] ++ recRegs) s v ∧
      v.reg .PWR_CAP_ROW 0 = u.reg .PWR_CAP_ROW 0 := by
    have huc : u.clarn = s.clarn := (congrArg State.clarn hset.2 :)
    have hur : u.row = s.row := (congrArg State.row hset.2 :)
    by_cases hc : (s.flag F.PWR_CAP_ROW_STALE && !false) = true
    · rw [show v = u.recordOpen 2 0 1 from if_pos hc]
      exact ⟨(congrArg State.clarn hopen.2 :).trans huc, (congrArg State.row hopen.2 :).trans hur, hu.recordOpen _ _ _ (by decide),
        hopen.1 _ _ (by decide)⟩
    · rw [show v = u from if_neg hc]
      exact ⟨huc, hur, hu, rfl⟩
  have hrecap := v.recap_onlyLogs
  rw [hcap]
  clear_value v
  obtain ⟨hvc, hvr, hvf, hvreg⟩ := hv
  have hreg : v.recap.reg .PWR_CAP_ROW 0 = u.reg .PWR_CAP_ROW 0 := (hrecap.1 _ _ (by decide)).trans hvreg
  exact ⟨(State.rd_congr hreg).trans hwatts, (State.flag_congr hreg).trans hstale, (congrArg State.clarn hrecap.2 :).trans hvc,
    (congrArg State.row hrecap.2 :).trans hvr, hvf.trans ((Frame.of_onlyLogs (fun _ => rfl) hrecap).mono (by decide))⟩

/-- The table of a cycle is taken. -/
def State.tableTaken (s : State) (q : Nat) : State :=
  (s.modRow fun r => { r with tparts := [] }).modRow fun r => { r with tseq := q, tableAt := some s.up }

/-- The cap a table's parts hold for a node. -/
def capIn (l : List (Nat × Nat × List Byte)) (node : Nat) : Nat :=
  match l.find? fun x => x.2.1 = node / 32 with
  | some x => bitsOf (leAt x.2.2 0 48) (12 * (node % 32)) 12
  | none => 0

/-- A table's parts once it is complete. -/
def State.capActed (s : State) (q cap : Nat) : State :=
  if cap = 0 then s.modRow fun r => { r with tparts := [] } else (s.tableTaken q).rowCap cap false

theorem State.actCapTable_eq (s : State) (d : List Byte) : s.actCapTable d =
    if !(s.flag F.ROW_CFG_MEMBER) then s
    else
      let l := partsWith s.row.tparts (leAt d 2 2) (byteAt d 1) (sliceAt d 4 48)
      let s1 := s.modRow fun r => { r with tparts := l }
      if !((List.range 3).all fun p => l.any fun x => x.2.1 = p) then s1 else s1.capActed (leAt d 2 2) (capIn l s.node) := rfl

theorem State.actCapTable_complete {s : State} {d : List Byte} (hmember : s.flag F.ROW_CFG_MEMBER = true) (hown : byteAt d 1 = s.node / 32)
    (hparts : ∀ p < 3, p ≠ s.node / 32 → (s.row.tparts.any fun (e : Nat × Nat × List Byte) => e.1 = leAt d 2 2 ∧ e.2.1 = p) = true)
    (hcap : bitsOf (leAt (sliceAt d 4 48) 0 48) (12 * (s.node % 32)) 12 ≠ 0) :
    ∃ f : Row → Row, s.actCapTable d =
      ((s.modRow f).tableTaken (leAt d 2 2)).rowCap (bitsOf (leAt (sliceAt d 4 48) 0 48) (12 * (s.node % 32)) 12) false := by
  have hall := partsWith_complete (l := s.row.tparts) (q := leAt d 2 2) (k := s.node / 32) (sliceAt d 4 48) hparts
  have hin : capIn (partsWith s.row.tparts (leAt d 2 2) (s.node / 32) (sliceAt d 4 48)) s.node =
      bitsOf (leAt (sliceAt d 4 48) 0 48) (12 * (s.node % 32)) 12 := by
    rw [capIn, find_partsWith]
  refine ⟨fun r => { r with tparts := partsWith s.row.tparts (leAt d 2 2) (s.node / 32) (sliceAt d 4 48) }, ?_⟩
  rw [State.actCapTable_eq, if_neg (by simp [hmember]), hown]
  refine (if_neg (by rw [hall]; decide)).trans ?_
  rw [hin]
  exact if_neg hcap

theorem State.modRow_rowFrame (s : State) (f : Row → Row) (rs : List Reg) : Frame State.rowbusfreelogless rs s (s.modRow f) :=
  (Frame.refl _ rs s).other rfl rfl

theorem State.tableTaken_effect (s : State) (f : Row → Row) (q : Nat) : ((s.modRow f).tableTaken q).clarn = s.clarn ∧
    ((s.modRow f).tableTaken q).row.tableAt = some s.up ∧ ((s.modRow f).tableTaken q).row.tseq = q ∧
    ∀ rs, Frame State.rowbusfreelogless rs s ((s.modRow f).tableTaken q) :=
  ⟨rfl, rfl, rfl, fun rs => ((s.modRow_rowFrame f rs).trans (State.modRow_rowFrame _ _ rs)).trans (State.modRow_rowFrame _ _ rs)⟩

theorem execCapTable_effect {c : Fin 2} {f : CanFrame} {s : State} (h : s.hears c f 1 = true) (hmember : s.flag F.ROW_CFG_MEMBER = true)
    (hown : byteAt f.data 1 = s.node / 32)
    (hparts : ∀ p < 3, p ≠ s.node / 32 → (s.row.tparts.any fun (e : Nat × Nat × List Byte) => e.1 = leAt f.data 2 2 ∧ e.2.1 = p) = true)
    (hcap : bitsOf (leAt (sliceAt f.data 4 48) 0 48) (12 * (s.node % 32)) 12 ≠ 0) :
    ∃ t, execCapTable c f s = .next t ∧ Kept f 1 s t ∧
    t.rd F.PWR_CAP_ROW_WATTS = bitsOf (leAt (sliceAt f.data 4 48) 0 48) (12 * (s.node % 32)) 12 ∧ t.flag F.PWR_CAP_ROW_STALE = false ∧
    t.row.tableAt = some s.up ∧ t.row.tseq = leAt f.data 2 2 ∧
    OnlyLogs (rxRegs ++ [.PWR_CAP_ROW, .PWR_CAP_EFF, .PWR_CAUSE]) { s with clarn := t.clarn, row := t.row, free := t.free } t := by
  obtain ⟨v, hv, hexec⟩ := execClarnFrameReceive_heard h
  have hnode : v.node = s.node := hv.frame.rd F.ROW_CFG_NODE (by decide) 0
  have hrow : v.row = s.row := (congrArg State.row hv.frame.2 :)
  have hup : v.up = s.up := (congrArg State.up hv.frame.2 :)
  obtain ⟨g, hact⟩ := State.actCapTable_complete (s := v) (d := f.data) ((hv.frame.flag F.ROW_CFG_MEMBER (by decide) 0).trans hmember)
    (by rw [hnode]; exact hown) (by rw [hnode, hrow]; exact hparts) (by rw [hnode]; exact hcap)
  change _ = Host.Outcome.next (v.actCapTable f.data).healthCheck at hexec
  rw [hact, hnode] at hexec
  obtain ⟨hclarn, hat, hseq, hframe⟩ := v.tableTaken_effect g (leAt f.data 2 2)
  generalize (v.modRow g).tableTaken (leAt f.data 2 2) = u at hexec hclarn hat hseq hframe
  have hlt : bitsOf (leAt (sliceAt f.data 4 48) 0 48) (12 * (s.node % 32)) 12 < 4096 := Nat.mod_lt _ (by decide)
  generalize bitsOf (leAt (sliceAt f.data 4 48) 0 48) (12 * (s.node % 32)) 12 = w at hexec hlt
  obtain ⟨hwatts, hstale, hclarn', hrow', hframe'⟩ := State.rowCap_fresh (s := u) hlt
  generalize u.rowCap w false = x at hexec hwatts hstale hclarn' hrow' hframe'
  obtain ⟨-, hregs, -⟩ := x.healthCheck_keeps
  have hkeep : x.clarn = v.clarn := hclarn'.trans hclarn
  refine ⟨_, hexec, hv.kept (by rw [hkeep]) (by rw [hkeep]), (State.rd_congr_regs hregs _ _).trans hwatts,
    (State.flag_congr_regs hregs _ _).trans hstale, ?_, ?_, ?_⟩
  · rw [State.row_healthCheck_of Row.tableAt (fun _ _ _ => rfl), hrow', hat, hup]
  · rw [State.row_healthCheck_of Row.tseq (fun _ _ _ => rfl), hrow', hseq]
  · exact hv.onlyLogs ((hframe _).trans (hframe'.mono (by decide)))

/-! ### The heartbeat (R344, R350, R353) -/

theorem State.dropGated_onlyCh (s : State) (c : Nat) : OnlyCh s (s.dropGated c) :=
  (OnlyCh.modChan s c _).trans (OnlyCh.of_eq (State.clarn_of_logless (s.dropGated_after c).2))

theorem State.gateCheck_onlyCh (s : State) : OnlyCh s s.gateCheck := by
  have hshown : OnlyCh s s.gateShown := OnlyCh.of_eq (State.clarn_wr _ _ _ _)
  rw [State.gateCheck_eq]
  split
  · exact hshown
  · exact List.foldlRecOn _ _ (motive := OnlyCh s) hshown fun v hv c _ => hv.trans (v.dropGated_onlyCh c)

theorem State.rowGo_onlyCh (s : State) (st : Nat) (low : Bool) : OnlyCh s (s.rowGo st low) :=
  (OnlyCh.of_eq (congrArg State.clarn (s.rowSet_onlyRegs st low).2 :)).trans (State.gateCheck_onlyCh _)

/-- A held-back frame raises GATED alone. -/
theorem State.diff_holdBack (s : State) : s.holdBack.flag F.ROW_CAUSE_CFG_DIFF = s.flag F.ROW_CAUSE_CFG_DIFF :=
  (State.flag_raise_ne _ _ _ _ _ _ _ _ (by decide)).trans (State.flag_wr_ne _ _ _ _ _ _ (.inl (by decide)))

theorem State.diff_dropGated (s : State) (c : Nat) : (s.dropGated c).flag F.ROW_CAUSE_CFG_DIFF = s.flag F.ROW_CAUSE_CFG_DIFF :=
  List.foldlRecOn _ _ (motive := fun t : State => t.flag F.ROW_CAUSE_CFG_DIFF = s.flag F.ROW_CAUSE_CFG_DIFF) (State.flag_congr_regs rfl _ _)
    fun t ht _ _ => t.diff_holdBack.trans ht

theorem State.diff_rowGo (s : State) (st : Nat) (low : Bool) : (s.rowGo st low).flag F.ROW_CAUSE_CFG_DIFF = s.flag F.ROW_CAUSE_CFG_DIFF := by
  have hset : (s.rowSet st low).flag F.ROW_CAUSE_CFG_DIFF = s.flag F.ROW_CAUSE_CFG_DIFF := (s.rowSet_onlyRegs st low).1.flag (by decide) 0
  have hshown : (s.rowSet st low).gateShown.flag F.ROW_CAUSE_CFG_DIFF = s.flag F.ROW_CAUSE_CFG_DIFF :=
    (State.flag_wr_ne _ _ _ _ _ _ (.inl (by decide))).trans hset
  rw [State.rowGo_eq, State.gateCheck_eq]
  split
  · exact hshown
  · exact List.foldlRecOn _ _ (motive := fun t : State => t.flag F.ROW_CAUSE_CFG_DIFF = s.flag F.ROW_CAUSE_CFG_DIFF) hshown
      fun t ht c _ => (t.diff_dropGated c).trans ht

theorem State.relCheck_cases (s : State) : s.relCheck = s ∨ s.relCheck = s.rowGo 2 true := by
  unfold State.relCheck
  split
  · split
    · exact .inr rfl
    · exact .inl rfl
  · exact .inl rfl

/-- A peer's heartbeat as it is kept. -/
def hbPeer (up : Nat) (d : List Byte) : RowPeer := { at_ := up, flags := byteAt d 1, seq := leAt d 2 2, hash := sliceAt d 4 4 }

/-- The registers a heartbeat can write. -/
def hbRegs : List Reg := [.ROW_STAT, .ROW_CAUSE, .ROW_GATED_CNT]

/-- After a heartbeat: the peer, HB_OK, and CFG_DIFF where `diff` holds. -/
structure HbTaken (p : RowPeer) (diff : Prop) (s t : State) : Prop where
  peer : t.row.peer = some p
  ok : t.flag F.ROW_STAT_HB_OK = true
  told : diff → t.flag F.ROW_CAUSE_CFG_DIFF = true
  bus : OnlyCh s t
  frame : Frame State.rowbusfreelogless (rxRegs ++ hbRegs ++ recRegs) s t

namespace HbTaken
variable {p : RowPeer} {diff : Prop} {s t : State}

theorem modRow (h : HbTaken p diff s t) {f : Row → Row} (hf : ∀ r, (f r).peer = r.peer) : HbTaken p diff s (t.modRow f) where
  peer := (hf t.row).trans h.peer
  ok := (State.flag_congr_regs rfl _ _).trans h.ok
  told hd := (State.flag_congr_regs rfl _ _).trans (h.told hd)
  bus := h.bus.trans (OnlyCh.of_eq rfl)
  frame := h.frame.trans (t.modRow_rowFrame f _)

theorem noRevert (h : HbTaken p diff s t) (v : Nat) : HbTaken p diff s (t.wr F.ROW_STAT_NOREVERT 0 v) where
  peer := by rw [State.row_wr]; exact h.peer
  ok := (State.flag_wr_ne _ _ _ _ _ _ (.inr (by decide))).trans h.ok
  told hd := (State.flag_wr_ne _ _ _ _ _ _ (.inl (by decide))).trans (h.told hd)
  bus := h.bus.trans (OnlyCh.of_eq (State.clarn_wr _ _ _ _))
  frame := h.frame.wr (fun _ => rfl) _ _ _ (by decide)

theorem relCheck (h : HbTaken p diff s t) : HbTaken p diff s t.relCheck := by
  rcases t.relCheck_cases with hc | hc
  · rw [hc]; exact h
  · have hgo := t.rowGo_frame 2 true
    rw [hc]
    exact ⟨(congrArg Row.peer (State.row_of_buslogless hgo.2)).trans h.peer, (t.flag_rowGo 2 true (by unfold statBeside; decide) (by decide) (by decide)).trans h.ok,
      fun hd => (t.diff_rowGo 2 true).trans (h.told hd), h.bus.trans (t.rowGo_onlyCh 2 true),
      h.frame.trans ((Frame.forget (k := State.buslogless) (fun _ => rfl) hgo).mono (by decide))⟩

theorem healthCheck (h : HbTaken p diff s t) : HbTaken p diff s t.healthCheck where
  peer := (State.row_healthCheck_of Row.peer (fun _ _ _ => rfl) t).trans h.peer
  ok := (State.flag_congr_regs t.healthCheck_keeps.2.1 _ _).trans h.ok
  told hd := (State.flag_congr_regs t.healthCheck_keeps.2.1 _ _).trans (h.told hd)
  bus := h.bus.trans (OnlyCh.of_eq t.healthCheck_keeps.1)
  frame := h.frame.trans (Frame.forget (k := State.rowlogless) (fun _ => rfl) (t.healthCheck_frame _))

end HbTaken

theorem State.actHb_taken {s : State} (d : List Byte) (hrole : s.role ≠ 0) :
    HbTaken (hbPeer s.up d) (sliceAt d 4 4 ≠ s.rowHash ∧ s.row.diff = false) s (s.actHb d) := by
  unfold State.actHb
  rw [if_neg hrole]
  extract_lets fl p s1 bad s2 s3 s4
  have h1 : HbTaken p False s s1 := by
    have hset : OnlyRegs [.ROW_STAT] (s.modRow fun r => { r with peer := some p, stuck := false, releasing := r.releasing && fl % 4 < 2 }) s1 :=
      (OnlyRegs.refl _ _).wr _ _ _ (by decide)
    exact ⟨(congrArg (fun v : State => v.row.peer) hset.2 :), State.flag_wr_one _ _ _ (by decide), False.elim,
      OnlyCh.of_eq (congrArg State.clarn hset.2 :), (s.modRow_rowFrame _ _).trans ((Frame.of_onlyRegs (fun _ => rfl) hset).mono (by decide))⟩
  have h2 : HbTaken p (sliceAt d 4 4 ≠ s.rowHash ∧ s.row.diff = false) s s2 := by
    have hbad : bad = decide (sliceAt d 4 4 ≠ s.rowHash) := rfl
    clear_value s1 bad
    by_cases hc : (bad && !s.row.diff) = true
    · rw [show s2 = s1.raise F.ROW_CAUSE_CFG_DIFF 0 2 from if_pos hc]
      have hraise : Frame State.logless ([.ROW_CAUSE] ++ recRegs) s1 (s1.raise F.ROW_CAUSE_CFG_DIFF 0 2) :=
        (Frame.refl _ _ s1).raise (fun _ => rfl) _ _ _ _ _ (by decide) (by decide)
      exact ⟨(congrArg (fun r : Row => r.peer) (State.row_of_logless hraise.2)).trans h1.peer, (hraise.flag _ (by decide) 0).trans h1.ok,
        fun _ => State.flag_raise_same _ _ _ _ _ _ (by decide), h1.bus.trans (OnlyCh.of_eq (State.clarn_of_logless hraise.2)),
        h1.frame.trans ((Frame.forget (k := State.logless) (fun _ => rfl) hraise).mono (by decide))⟩
    · rw [show s2 = s1 from if_neg hc]
      exact { h1 with told := fun hd => absurd (by rw [hbad, hd.2]; simpa using hd.1) hc }
  clear_value s2 s1 bad
  have h3 : HbTaken p (sliceAt d 4 4 ≠ s.rowHash ∧ s.row.diff = false) s s3 := h2.modRow fun _ => rfl
  clear_value s3
  have h4 : HbTaken p (sliceAt d 4 4 ≠ s.rowHash ∧ s.row.diff = false) s s4 := by
    simp only [s4]
    split
    · exact h3.noRevert _
    · split
      · exact h3.noRevert _
      · exact h3
  exact h4.relCheck.healthCheck

/-- The configuration's hash is one of registers that no received frame writes. -/
theorem State.rowHash_congr {s t : State} (h : ∀ r i, r ∉ rxRegs ++ recRegs → t.reg r i = s.reg r i) : t.rowHash = s.rowHash := by
  have hslots : t.rowSlots = s.rowSlots := by rw [State.rowSlots, State.rowSlots, h _ _ (by decide)]
  have hwords : ∀ r ∈ [Reg.CLE_SLOT_CFG, .CLE_SLOT_IO, .CLE_SLOT_FE, .CLE_SLOT_REP] ++ slotWords, r ∉ rxRegs ++ recRegs := by decide
  have hconfig : t.rowConfig = s.rowConfig := by
    rw [State.rowConfig, State.rowConfig, hslots, h _ _ (by decide), h _ _ (by decide)]
    congr 2
    exact List.flatMap_congr fun k _ => List.flatMap_congr fun r hr => by rw [h r k (hwords r hr)]
  rw [State.rowHash, State.rowHash, hconfig]

theorem execHb_effect {c : Fin 2} {f : CanFrame} {s : State} (h : s.hears c f 2 = true) (hrole : s.role ≠ 0) :
    ∃ t, execHb c f s = .next t ∧ Kept f 2 s t ∧ t.flag F.ROW_STAT_HB_OK = true ∧
    t.row.peer = some { at_ := s.up, flags := byteAt f.data 1, seq := leAt f.data 2 2, hash := sliceAt f.data 4 4 } ∧
    (sliceAt f.data 4 4 ≠ s.rowHash → s.row.diff = false → t.flag F.ROW_CAUSE_CFG_DIFF = true) ∧
    OnlyLogs (rxRegs ++ [.ROW_STAT, .ROW_CAUSE, .ROW_GATED_CNT]) { s with clarn := t.clarn, row := t.row, free := t.free } t := by
  obtain ⟨v, hv, hexec⟩ := execClarnFrameReceive_heard h
  have hrow : v.row = s.row := (congrArg State.row hv.frame.2 :)
  have hup : v.up = s.up := (congrArg State.up hv.frame.2 :)
  have hhash : v.rowHash = s.rowHash := State.rowHash_congr hv.frame.1
  have hhb := State.actHb_taken (s := v) f.data (by rw [show v.role = s.role from hv.frame.rd F.ROW_CFG_ROLE (by decide) 0]; exact hrole)
  change _ = Host.Outcome.next (v.actHb f.data).healthCheck at hexec
  rw [hhash, hrow, hup] at hhb
  generalize v.actHb f.data = w at hexec hhb
  have hend := hhb.healthCheck
  exact ⟨_, hexec, hv.kept (congrArg Clarn.held hhb.bus.1 :) (congrArg Clarn.got hhb.bus.1 :), hend.ok, hend.peer, fun h1 h2 => hend.told ⟨h1, h2⟩,
    hv.onlyLogs hhb.frame⟩

/-! ### The mirror (R351) -/

/-- A set's parts with one more. -/
def mirrorWith (l : List (Nat × Nat × Nat × List Byte)) (q n k : Nat) (d : List Byte) : List (Nat × Nat × Nat × List Byte) :=
  (l.filter fun (x : Nat × Nat × Nat × List Byte) => x.1 = q && x.2.1 = n && x.2.2.1 ≠ k) ++ [(q, n, k, d)]

theorem find_mirrorWith (l : List (Nat × Nat × Nat × List Byte)) (q n k : Nat) (d : List Byte) :
    (mirrorWith l q n k d).find? (fun x => x.2.2.1 = k) = some (q, n, k, d) := by
  rw [mirrorWith, List.find?_append, List.find?_eq_none.2 fun x hx => by simpa using (Bool.and_eq_true_iff.1 (List.mem_filter.1 hx).2).2]
  simp

/-- The image of a set's parts. -/
def imageOf (l : List (Nat × Nat × Nat × List Byte)) (n : Nat) : List Byte :=
  (List.range n).flatMap fun p => match l.find? fun x => x.2.2.1 = p with
    | some x => x.2.2.2
    | none => []

theorem State.actMirror_eq (s : State) (d : List Byte) : s.actMirror d =
    if s.role = 0 || s.rowState = rwHold then s
    else
      let l := mirrorWith s.row.parts (leAt d 4 2) (byteAt d 2) (byteAt d 1) (sliceAt d 8 56)
      if 0 < byteAt d 2 && (List.range (byteAt d 2)).all fun p => l.any fun x => x.2.2.1 = p then
        (s.modRow fun r => { r with parts := [], mirror := some { seq := leAt d 4 2, at_ := s.up, image := imageOf l (byteAt d 2) } }).relCheck.healthCheck
      else s.modRow fun r => { r with parts := l } := rfl

theorem State.actMirror_single {s : State} {d : List Byte} (hrole : s.role ≠ 0) (hlisten : s.rowState = 0) (hk : byteAt d 1 = 0) (hn : byteAt d 2 = 1) :
    s.actMirror d = (s.modRow fun r =>
      { r with parts := [], mirror := some { seq := leAt d 4 2, at_ := s.up, image := sliceAt d 8 56 } }).healthCheck := by
  have hfind := find_mirrorWith s.row.parts (leAt d 4 2) 1 0 (sliceAt d 8 56)
  have himage : imageOf (mirrorWith s.row.parts (leAt d 4 2) 1 0 (sliceAt d 8 56)) 1 = sliceAt d 8 56 := by
    rw [imageOf, show List.range 1 = [0] from rfl, List.flatMap_singleton, hfind]
  have hall : (decide (0 < 1) && (List.range 1).all fun p => (mirrorWith s.row.parts (leAt d 4 2) 1 0 (sliceAt d 8 56)).any fun x => x.2.2.1 = p) = true := by
    simp [mirrorWith]
  rw [State.actMirror_eq, if_neg (by simp [hrole, hlisten]), hk, hn]
  refine (if_pos hall).trans ?_
  rw [himage, State.relCheck_of_ne]
  exact fun h => absurd (h.symm.trans ((State.rd_congr_regs rfl F.ROW_STAT_STATE 0).trans hlisten)) (by decide)

theorem execMirror_effect {c : Fin 2} {f : CanFrame} {s : State} (h : s.hears c f 3 = true) (hrole : s.role ≠ 0) (hlisten : s.rowState = 0)
    (hk : byteAt f.data 1 = 0) (hn : byteAt f.data 2 = 1) :
    ∃ t, execMirror c f s = .next t ∧ Kept f 3 s t ∧
      t.row.mirror = some { seq := leAt f.data 4 2, at_ := s.up, image := sliceAt f.data 8 56 } ∧ t.row.parts = [] ∧
    OnlyLogs rxRegs { s with clarn := t.clarn, row := t.row, free := t.free } t := by
  obtain ⟨v, hv, hexec⟩ := execClarnFrameReceive_heard h
  have hup : v.up = s.up := (congrArg State.up hv.frame.2 :)
  have hact := State.actMirror_single (s := v) (d := f.data) (by rw [show v.role = s.role from hv.frame.rd F.ROW_CFG_ROLE (by decide) 0]; exact hrole)
    (hv.rowState.trans hlisten) hk hn
  change _ = Host.Outcome.next (v.actMirror f.data).healthCheck at hexec
  rw [hact, hup] at hexec
  have hset := v.modRow_rowFrame (fun r => { r with parts := [], mirror := some { seq := leAt f.data 4 2, at_ := s.up, image := sliceAt f.data 8 56 } })
    (rxRegs ++ recRegs)
  generalize hw : (v.modRow fun r => { r with parts := [], mirror := some { seq := leAt f.data 4 2, at_ := s.up, image := sliceAt f.data 8 56 } }) = w
    at hexec hset
  have hmirror : w.row.mirror = some { seq := leAt f.data 4 2, at_ := s.up, image := sliceAt f.data 8 56 } := by rw [← hw]; rfl
  have hparts : w.row.parts = [] := by rw [← hw]; rfl
  have hclarn : w.clarn = v.clarn := by rw [← hw]; rfl
  have hkeep : w.healthCheck.clarn = v.clarn := w.healthCheck_keeps.1.trans hclarn
  refine ⟨_, hexec, hv.kept (by rw [hkeep]) (by rw [hkeep]), ?_, ?_,
    hv.onlyLogs' (hset.trans (Frame.forget (k := State.rowlogless) (fun _ => rfl) (w.healthCheck_frame _)))⟩
  · rw [State.row_healthCheck_of Row.mirror (fun _ _ _ => rfl), State.row_healthCheck_of Row.mirror (fun _ _ _ => rfl), hmirror]
  · rw [State.row_healthCheck_of Row.parts (fun _ _ _ => rfl), State.row_healthCheck_of Row.parts (fun _ _ _ => rfl), hparts]

/-! ### A member's status (R358) -/

/-- A member's power and when it was heard. -/
def State.statusTaken (s : State) (node p : Nat) : State :=
  (s.wr F.ROW_MEMBER_P node p).modRow fun r => { r with heard := Assoc.put r.heard node s.up }

theorem State.actModStatus_member {s : State} {node : Nat} {d : List Byte} (hrole : s.role ≠ 0) (hnode : node < 96)
    (hvalid : s.flag F.ROW_MEMBER_VALID node = true) : s.actModStatus node d = s.statusTaken node (min 4095 (leAt d 2 2)) :=
  if_pos (by simp [hrole, hnode, hvalid])

theorem State.statusTaken_effect (s : State) (node : Nat) {p : Nat} (hp : p < 4096) : (s.statusTaken node p).rd F.ROW_MEMBER_P node = p ∧
    Assoc.find (s.statusTaken node p).row.heard node = some s.up ∧ (s.statusTaken node p).clarn = s.clarn ∧
    (s.statusTaken node p).up = s.up ∧ (∀ i, i ≠ node → (s.statusTaken node p).reg .ROW_MEMBER i = s.reg .ROW_MEMBER i) ∧
    Frame State.rowbusfreelogless (rxRegs ++ [.ROW_MEMBER] ++ recRegs) s (s.statusTaken node p) := by
  have hwr : Frame State.rowbusfreelogless (rxRegs ++ [.ROW_MEMBER] ++ recRegs) s (s.wr F.ROW_MEMBER_P node p) :=
    (Frame.refl _ _ s).wr (fun _ => rfl) _ _ _ (by decide)
  refine ⟨(State.rd_congr_regs (s := s.wr F.ROW_MEMBER_P node p) rfl _ _).trans ((State.rd_wr_same _ _ _ _ (by decide)).trans (Nat.mod_eq_of_lt hp)),
    (Assoc.find_put _ _ _ _).trans (if_pos rfl), rfl, rfl, fun i hi => ?_, hwr.trans (State.modRow_rowFrame _ _ _)⟩
  exact (State.reg_congr_regs (s := s.wr F.ROW_MEMBER_P node p) rfl _ _).trans ((State.reg_wr _ _ _ _ _ _).trans (if_neg fun e => hi e.2))

theorem execModStatus_effect {c : Fin 2} {f : CanFrame} {s : State} (h : s.hears c f 4 = true) (hrole : s.role ≠ 0) (hnode : idNode f.id.toNat < 96)
    (hvalid : s.flag F.ROW_MEMBER_VALID (idNode f.id.toNat) = true) :
    ∃ t, execModStatus c f s = .next t ∧ Kept f 4 s t ∧ t.rd F.ROW_MEMBER_P (idNode f.id.toNat) = min 4095 (leAt f.data 2 2) ∧
    t.silentNow (idNode f.id.toNat) = false ∧ (∀ i, i ≠ idNode f.id.toNat → t.reg .ROW_MEMBER i = s.reg .ROW_MEMBER i) ∧
    OnlyLogs (rxRegs ++ [.ROW_MEMBER]) { s with clarn := t.clarn, row := t.row, free := t.free } t := by
  obtain ⟨v, hv, hexec⟩ := execClarnFrameReceive_heard h
  have hact := State.actModStatus_member (s := v) (d := f.data)
    (by rw [show v.role = s.role from hv.frame.rd F.ROW_CFG_ROLE (by decide) 0]; exact hrole) hnode
    ((hv.frame.flag F.ROW_MEMBER_VALID (by decide) _).trans hvalid)
  change _ = Host.Outcome.next (v.actModStatus (idNode f.id.toNat) f.data).healthCheck at hexec
  rw [hact] at hexec
  have hmember : ∀ i, v.reg .ROW_MEMBER i = s.reg .ROW_MEMBER i := fun i => hv.frame.1 _ _ (by decide)
  obtain ⟨hpower, hheard, hclarn, hup, hothers, hframe⟩ := v.statusTaken_effect (idNode f.id.toNat) (p := min 4095 (leAt f.data 2 2))
    (lt_of_le_of_lt (min_le_left _ _) (by decide))
  generalize v.statusTaken (idNode f.id.toNat) (min 4095 (leAt f.data 2 2)) = w at hexec hpower hheard hclarn hup hothers hframe
  obtain ⟨-, hregs, hup'⟩ := w.healthCheck_keeps
  refine ⟨_, hexec, hv.kept (by rw [hclarn]) (by rw [hclarn]), (State.rd_congr_regs hregs _ _).trans hpower, ?_,
    fun i hi => (State.reg_congr_regs hregs _ _).trans ((hothers i hi).trans (hmember i)), hv.onlyLogs hframe⟩
  rw [State.silentNow, State.row_healthCheck_of Row.heard (fun _ _ _ => rfl), hheard, hup', hup]
  exact decide_eq_false (by omega)

/-! ### A pump's status (R345) -/

theorem State.failed_fillDuty (s : State) (j : Nat) : s.fillDuty.pumpSt j = 3 ↔ s.pumpSt j = 3 := by
  refine (List.foldlRecOn _ _ (motive := fun t : State => t.pumpSt j = 3 ↔ s.pumpSt j = 3) Iff.rfl fun t ht k _ => ?_ :)
  split
  · next hc =>
    by_cases hjk : j = k
    · subst hjk
      rw [State.pumpSt_wr_same _ _ (by decide), ← ht, hc.2.2]
      decide
    · rw [State.pumpSt_wr_ne _ _ hjk]; exact ht
  · exact ht

theorem State.fitted_wrState (s : State) (k v j : Nat) : (s.wr F.ROW_PUMP_STATE k v).flag F.ROW_PUMP_FITTED j = s.flag F.ROW_PUMP_FITTED j :=
  State.flag_wr_ne _ _ _ _ _ _ (.inr (by decide))

theorem State.fitted_fillDuty (s : State) (j : Nat) : s.fillDuty.flag F.ROW_PUMP_FITTED j = s.flag F.ROW_PUMP_FITTED j := by
  refine (List.foldlRecOn _ _ (motive := fun t : State => t.flag F.ROW_PUMP_FITTED j = s.flag F.ROW_PUMP_FITTED j) rfl fun t ht k _ => ?_ :)
  split
  · exact (t.fitted_wrState _ _ _).trans ht
  · exact ht

theorem State.fitted_pumpMarked (s : State) (k j : Nat) : (s.pumpMarked k).flag F.ROW_PUMP_FITTED j = s.flag F.ROW_PUMP_FITTED j := by
  have hfailed := s.fitted_wrState k puFailed j
  unfold State.pumpMarked
  generalize s.wr F.ROW_PUMP_STATE k puFailed = u at hfailed
  have hraised : (u.raiseFor F.ROW_CAUSE_PUMP_FAIL 0 k 2).flag F.ROW_PUMP_FITTED j = u.flag F.ROW_PUMP_FITTED j :=
    (State.flag_congr (State.reg_raiseFor _ _ _ _ _ _ _ _ _ (by decide))).trans (State.flag_wr_ne _ _ _ _ _ _ (.inl (by decide)))
  generalize u.raiseFor F.ROW_CAUSE_PUMP_FAIL 0 k 2 = v at hraised
  exact (State.flag_congr_regs (s := v) rfl _ _).trans (hraised.trans hfailed)

/-- A pump that does not fail leaves all as it is; one that does is marked, and spares fill the duty. -/
theorem State.failPump_cases (s : State) (k : Nat) : s.failPump k = s ∨
    (s.rowState = 3 ∧ s.flag F.ROW_PUMP_FITTED k = true ∧ s.pumpSt k ≠ 3) ∧ SameRegs recRegs (s.pumpMarked k).fillDuty (s.failPump k) := by
  by_cases hc : s.rowState ≠ 3 ∨ s.flag F.ROW_PUMP_FITTED k = false ∨ s.pumpSt k = 3
  · exact .inl (if_pos (by rcases hc with h | h | h <;> simp [h]))
  · simp only [not_or, ne_eq, not_not, Bool.not_eq_false] at hc
    refine .inr ⟨hc, ?_⟩
    rw [State.failPump_of_runs hc.1 hc.2.1 hc.2.2]
    split
    · exact fun r i hr => State.reg_record _ _ _ _ _ _ _ _ _ _ hr
    · exact fun _ _ _ => rfl

/-- A pump that is watched while others fail: the module holds control, the pump is fitted, and PUMP_FAIL is set once it has failed. -/
def State.watched (k : Nat) (s : State) : Prop :=
  s.rowState = 3 ∧ s.flag F.ROW_PUMP_FITTED k = true ∧ (s.pumpSt k = 3 → s.flag F.ROW_CAUSE_PUMP_FAIL = true)

theorem State.failPump_watched {s : State} {k : Nat} (j : Nat) (h : s.watched k) : (s.failPump j).watched k := by
  obtain ⟨hhold, hfit, htold⟩ := h
  rcases s.failPump_cases j with hc | ⟨⟨hhold', hfit', hst⟩, hregs⟩
  · rw [hc]; exact ⟨hhold, hfit, htold⟩
  · have hmarked := s.fitted_pumpMarked j k
    have hstate : (s.failPump j).rowState = s.rowState := (s.failPump_frame j).rd F.ROW_STAT_STATE (by decide) 0
    have hfitted : (s.failPump j).flag F.ROW_PUMP_FITTED k = (s.pumpMarked j).fillDuty.flag F.ROW_PUMP_FITTED k := hregs.flag (by decide) k
    have hcause := (State.failPump_effect hhold' hfit' hst).2.1
    generalize s.failPump j = t at hstate hfitted hcause
    exact ⟨hstate.trans hhold, hfitted.trans ((State.fitted_fillDuty _ k).trans (hmarked.trans hfit)), fun _ => hcause⟩

theorem State.failPump_stays {s : State} {k : Nat} (j : Nat) (h : s.pumpSt k = 3) : (s.failPump j).pumpSt k = 3 := by
  rcases s.failPump_cases j with hc | ⟨-, hregs⟩
  · rw [hc]; exact h
  · refine (State.pumpSt_congr hregs (by decide) k).trans ((State.failed_fillDuty _ k).2 ?_)
    rw [State.pumpSt_pumpMarked]
    split
    · rfl
    · exact h

theorem State.failPump_fails {s : State} {k : Nat} (h : s.watched k) : (s.failPump k).pumpSt k = 3 := by
  by_cases hst : s.pumpSt k = 3
  · exact State.failPump_stays k hst
  · exact (State.failPump_effect h.1 h.2.1 hst).1

/-- The pumps of a node fail. -/
def State.nodePumps (s : State) (node : Nat) : List Nat := (List.range 4).filter fun k => s.rd F.ROW_PUMP_NODE k = node

theorem State.actPumpStatus_fault {s : State} {node : Nat} {d : List Byte} (h : (byteAt d 1).testBit 1 = true) :
    s.actPumpStatus node d = (s.nodePumps node).foldl (fun (s : State) (k : Nat) => s.failPump k) s := if_pos h

theorem execPumpStatus_effect {c : Fin 2} {k : Fin 4} {f : CanFrame} {s : State} (h : s.hears c f 9 = true) (hfault : (byteAt f.data 1).testBit 1 = true)
    (hhold : s.rowState = 3) (hfit : s.flag F.ROW_PUMP_FITTED k = true) (hnode : s.rd F.ROW_PUMP_NODE k = idNode f.id.toNat) (hst : s.pumpSt k ≠ 3) :
    ∃ t, execPumpStatus c f s = .next t ∧ Kept f 9 s t ∧ t.pumpSt k = 3 ∧ t.flag F.ROW_CAUSE_PUMP_FAIL = true ∧
      OnlyLogs (rxRegs ++ [.ROW_PUMP, .ROW_CAUSE]) { s with clarn := t.clarn, row := t.row, free := t.free } t := by
  obtain ⟨v, hv, hexec⟩ := execClarnFrameReceive_heard h
  have hst' : v.pumpSt k ≠ 3 := by rw [State.pumpSt_congr hv.frame.1 (by decide)]; exact hst
  have hwatched : v.watched k := ⟨hv.rowState.trans hhold, (hv.frame.flag _ (by decide) _).trans hfit, fun h => absurd h hst'⟩
  have hmem : k.val ∈ v.nodePumps (idNode f.id.toNat) :=
    List.mem_filter.2 ⟨List.mem_range.2 k.isLt, decide_eq_true ((hv.frame.rd F.ROW_PUMP_NODE (by decide) _).trans hnode)⟩
  have hfailed := foldl_of_mem_of (fun u : State => u.watched k) (fun u : State => u.pumpSt k = 3) (f := fun (u : State) (j : Nat) => u.failPump j)
    (fun u j hu => State.failPump_watched j hu) (fun u hu => State.failPump_fails hu) (fun u j _ hu => State.failPump_stays j hu) _ v hmem hwatched
  have hend : ((v.nodePumps (idNode f.id.toNat)).foldl (fun (u : State) (j : Nat) => u.failPump j) v).watched k :=
    List.foldlRecOn _ _ (motive := fun u : State => u.watched k) hwatched fun u hu j _ => State.failPump_watched j hu
  have hframe : Frame State.rowlogless (rxRegs ++ [.ROW_PUMP, .ROW_CAUSE] ++ recRegs) v
      ((v.nodePumps (idNode f.id.toNat)).foldl (fun (u : State) (j : Nat) => u.failPump j) v) :=
    (Frame.refl _ _ v).foldl _ fun u j => (u.failPump_frame j).mono (by decide)
  change _ = Host.Outcome.next (v.actPumpStatus (idNode f.id.toNat) f.data).healthCheck at hexec
  rw [State.actPumpStatus_fault hfault] at hexec
  generalize (v.nodePumps (idNode f.id.toNat)).foldl (fun (u : State) (j : Nat) => u.failPump j) v = w at hexec hfailed hend hframe
  have hclarn : w.clarn = v.clarn := (congrArg State.clarn hframe.2 :)
  obtain ⟨-, hregs, -⟩ := w.healthCheck_keeps
  exact ⟨_, hexec, hv.kept (by rw [hclarn]) (by rw [hclarn]), (State.rd_congr_regs hregs _ _).trans hfailed,
    (State.flag_congr_regs hregs _ _).trans (hend.2.2 hfailed), hv.onlyLogs (Frame.forget (k := State.rowlogless) (fun _ => rfl) hframe)⟩

/-! ### Classes that are kept alone -/

/-- A class that does nothing more. -/
theorem execClarnFrameReceive_kept {c : Fin 2} {f : CanFrame} {cls : Nat} {s : State} (hidle : ∀ v : State, v.actClass cls (idNode f.id.toNat) f.data = v)
    (h : s.hears c f cls = true) : ∃ t, execClarnFrameReceive c f s = .next t ∧ Kept f cls s t ∧
    OnlyLogs rxRegs { s with clarn := t.clarn, row := t.row, free := t.free } t := by
  obtain ⟨v, hv, hexec⟩ := execClarnFrameReceive_heard h
  rw [hidle] at hexec
  exact ⟨_, hexec, hv.kept rfl rfl, hv.onlyLogs' (Frame.refl _ _ v)⟩

theorem execNodeHello_effect {c : Fin 2} {f : CanFrame} {s : State} (h : s.hears c f 15 = true) :
    ∃ t, execNodeHello c f s = .next t ∧ Kept f 15 s t ∧ t.flag F.CLN_CAUSE_HELLO = true ∧
    OnlyLogs rxRegs { s with clarn := t.clarn, row := t.row, free := t.free } t := by
  obtain ⟨v, hv, hexec⟩ := execClarnFrameReceive_heard h
  change _ = Host.Outcome.next (v.raise F.CLN_CAUSE_HELLO).healthCheck at hexec
  have hframe : Frame State.rowbusfreelogless (rxRegs ++ recRegs) v (v.raise F.CLN_CAUSE_HELLO) :=
    (Frame.refl _ _ v).raise (fun _ => rfl) _ _ _ _ _ (by decide) (by decide)
  have hclarn : (v.raise F.CLN_CAUSE_HELLO).clarn = v.clarn := State.clarn_raise _ _ _ _ _ _
  have hflag : (v.raise F.CLN_CAUSE_HELLO).flag F.CLN_CAUSE_HELLO = true := State.flag_raise_same _ _ _ _ _ _ (by decide)
  generalize v.raise F.CLN_CAUSE_HELLO = w at hexec hframe hclarn hflag
  exact ⟨_, hexec, hv.kept (by rw [hclarn]) (by rw [hclarn]), (State.flag_congr_regs w.healthCheck_keeps.2.1 _ _).trans hflag, hv.onlyLogs' hframe⟩

/-- Settles O50: what is not taken, ignored, filtered or queued, and what a heard frame of each class leaves. -/
theorem clarnFramesReceivedAndActedOn : Obligations.ClarnFramesReceivedAndActedOn := by
  unfold Obligations.ClarnFramesReceivedAndActedOn
  refine ⟨fun c f s _ => ⟨?_, fdLen_fdData _⟩, fun c f s => ⟨rfl, rfl, rfl, rfl, rfl, rfl, rfl, rfl, rfl, rfl, rfl⟩,
    fun c f s hlen h => (execClarnFrameReceive_eq c s hlen).trans (congrArg Host.Outcome.next (State.frameIn_none f h)),
    fun c f s => execClarnFrameReceive_ignored, fun c f s => execClarnFrameReceive_duplicate, fun c f s hlen hon hmode hext hid hmin hmax hseq hc hmask hroom =>
      execClarnFrameReceive_queued hlen hon hmode hext hid hmin hmax hseq hc hmask hroom,
    fun c f s => execRef_effect, fun c f s h hm hown _ hparts hcap => execCapTable_effect h hm hown hparts hcap, fun c f s => execHb_effect,
    fun c f s => execMirror_effect, fun c f s => execModStatus_effect, fun c k f s => execPumpStatus_effect,
    fun c f s => ⟨execClarnFrameReceive_kept fun _ => rfl, execClarnFrameReceive_kept fun _ => rfl, execClarnFrameReceive_kept fun _ => rfl,
      execClarnFrameReceive_kept fun _ => rfl, execNodeHello_effect⟩⟩
  exact ((execClarnFrameReceive_eq c (f := { f with data := fdData f.data }) s (fdLen_fdData _)).symm :)

end Sys2Proof.Machine
end

section
/-! PROOFS.  The control engine's slots, its repetitive controller and its trace buffers as they are written and read (R287 to R314). -/

namespace Sys2Proof.Machine

/-! ### Slots -/

/-- All but registers and the engine's own state. -/
def State.cleless (s : State) : State := { s with regs := [], cle := {} }

theorem Frame.onlyRegs_cle {rs : List Reg} {s t : State} (h : Frame State.cleless rs s t) : OnlyRegs rs { s with cle := t.cle } t :=
  ⟨h.1, congrArg (fun u : State => { u with cle := t.cle }) h.2⟩

theorem State.modSlot_frame (s : State) (k : Nat) (f : Slot → Slot) (rs : List Reg) : Frame State.cleless rs s (s.modSlot k f) :=
  (Frame.refl _ rs s).other rfl rfl

theorem State.slot_modSlot_same (s : State) (k : Nat) (f : Slot → Slot) : (s.modSlot k f).slot k = f (s.slot k) :=
  (s.slot_modSlot k k f).trans (if_pos rfl)

theorem State.slotOn_iff {s : State} {k : Nat} : s.slotOn k = true ↔ s.rd F.CLE_SLOT_CFG_EN k = 1 := by
  have hlt : s.rd F.CLE_SLOT_CFG_EN k < 2 := fieldOf_lt _ F.CLE_SLOT_CFG_EN
  rw [State.slotOn, State.flag_eq_true]
  omega

theorem State.slotOn_eq_false {s : State} {k : Nat} : s.slotOn k = false ↔ s.rd F.CLE_SLOT_CFG_EN k ≠ 1 := by
  rw [← Bool.not_eq_true, State.slotOn_iff]

/-! ### A slot's configuration (R287, R310) -/

/-- What a write of CLE_SLOT_CFG can set. -/
abbrev cfgMask : Word := Reg.accMask .CLE_SLOT_CFG .RW

/-- The fields of CLE_SLOT_CFG that are fixed while the slot is enabled. -/
abbrev cfgFixed : List Fld := [F.CLE_SLOT_CFG_DIR, F.CLE_SLOT_CFG_GRP, F.CLE_SLOT_CFG_GRPEN, F.CLE_SLOT_CFG_ROLE, F.CLE_SLOT_CFG_PERIOD]

theorem cfgMask_covers : ∀ f ∈ F.CLE_SLOT_CFG_EN :: cfgFixed, ∀ i < 32, f.lo ≤ i → i ≤ f.hi → cfgMask.getLsbD i = true := by decide

theorem fieldOf_cfgMask (w : Word) {f : Fld} (hf : f ∈ F.CLE_SLOT_CFG_EN :: cfgFixed) : fieldOf (w &&& cfgMask) f = fieldOf w f := by
  have hlt : ∀ f ∈ F.CLE_SLOT_CFG_EN :: cfgFixed, f.hi < 32 := by decide
  exact fieldOf_and_mask w _ f fun i h1 h2 => cfgMask_covers f hf i (by have := hlt f hf; omega) h1 h2

/-- A second power-cap slot. -/
def State.secondCap (s : State) (k : Nat) (w : Word) : Bool :=
  fieldOf w F.CLE_SLOT_CFG_ROLE = 1 && (List.range 32).any fun j => j ≠ k && s.rd F.CLE_SLOT_CFG_ROLE j = 1

/-- The word an enabled slot takes: what is fixed is kept. -/
def State.cfgKept (s : State) (k : Nat) (w : Word) : Word := cfgFixed.foldl (fun (x : Word) (f : Fld) => setField x f (fieldOf (s.reg .CLE_SLOT_CFG k) f)) w

/-- Whether a write would change what is fixed. -/
def State.cfgClash (s : State) (k : Nat) (w : Word) : Bool := cfgFixed.any fun f => fieldOf (s.reg .CLE_SLOT_CFG k) f ≠ fieldOf w f

/-- A refused write of the engine. -/
def State.cleErr (s : State) : State := s.raise F.CLE_CAUSE_CFGERR

theorem State.cleErr_effect (s : State) : s.cleErr.flag F.CLE_CAUSE_CFGERR = true ∧ OnlyLogs [.CLE_CAUSE] s s.cleErr :=
  ⟨State.flag_raise_same _ _ _ _ _ _ (by decide), (OnlyLogs.refl _ s).raise _ _ _ _ _ (by decide)⟩

/-- A slot enabled. -/
def State.slotTaken (s : State) (k : Nat) (w : Word) : State :=
  (s.setReg .CLE_SLOT_CFG k w).modSlot k fun x => { x with
    start := true, integ := 0, resid := 0, d := 0, y := none, uc := s.act (s.dst k), uPrev := s.act (s.dst k), old := none, match_ := none }

/-- A slot disabled. -/
def State.slotStopped (s : State) (k : Nat) : State := (s.stat k F.CLE_SLOT_STAT_RUN false).stat k F.CLE_SLOT_STAT_WINNING false

theorem State.writeSlotCfg_eq (s : State) (k : Nat) (w0 : Word) : s.writeSlotCfg k w0 =
    if ((fieldOf (s.reg .CLE_SLOT_CFG k) F.CLE_SLOT_CFG_ROLE = 1 && fieldOf (s.reg .CLE_SLOT_CFG k) F.CLE_SLOT_CFG_EN = 1 &&
        !(fieldOf (w0 &&& cfgMask) F.CLE_SLOT_CFG_EN = 1)) || s.secondCap k (w0 &&& cfgMask)) = true then s.cleErr
    else if fieldOf (s.reg .CLE_SLOT_CFG k) F.CLE_SLOT_CFG_EN = 1 then
      let s1 := s.setReg .CLE_SLOT_CFG k (s.cfgKept k (w0 &&& cfgMask))
      let s2 := if s.cfgClash k (w0 &&& cfgMask) then s1.cleErr else s1
      if fieldOf (w0 &&& cfgMask) F.CLE_SLOT_CFG_EN = 1 then s2
      else if fieldOf (s.reg .CLE_SLOT_CFG k) F.CLE_SLOT_CFG_GRPEN = 1 then
        (s2.slotStopped k).resolveGroup (fieldOf (s.reg .CLE_SLOT_CFG k) F.CLE_SLOT_CFG_GRP) else s2.slotStopped k
    else if fieldOf (w0 &&& cfgMask) F.CLE_SLOT_CFG_EN = 1 then
      if s.mayEnable k (w0 &&& cfgMask) then s.slotTaken k (w0 &&& cfgMask)
      else (s.setReg .CLE_SLOT_CFG k (setField (w0 &&& cfgMask) F.CLE_SLOT_CFG_EN 0)).cleErr
    else s.setReg .CLE_SLOT_CFG k (w0 &&& cfgMask) := rfl

section
variable {k : Fin 32} {w : Word} {s : State}

/-- A write that is refused as a whole. -/
theorem writeSlotCfg_refused (h : (s.rd F.CLE_SLOT_CFG_ROLE k = 1 ∧ s.rd F.CLE_SLOT_CFG_EN k = 1 ∧ fieldOf w F.CLE_SLOT_CFG_EN ≠ 1) ∨
    s.secondCap k (w &&& cfgMask) = true) : s.writeSlotCfg k w = s.cleErr := by
  rw [State.writeSlotCfg_eq, fieldOf_cfgMask w (f := F.CLE_SLOT_CFG_EN) (by decide)]
  refine if_pos ?_
  rcases h with ⟨hrole, hen, hon⟩ | h
  · rw [show fieldOf (s.reg .CLE_SLOT_CFG k) F.CLE_SLOT_CFG_ROLE = 1 from hrole, show fieldOf (s.reg .CLE_SLOT_CFG k) F.CLE_SLOT_CFG_EN = 1 from hen]
    simp [hon]
  · simp [h]

/-- A write that no rule of the power-cap slot refuses. -/
theorem secondCap_of_ne (hrole : fieldOf w F.CLE_SLOT_CFG_ROLE ≠ 1) : s.secondCap k (w &&& cfgMask) = false := by
  rw [State.secondCap, fieldOf_cfgMask w (by decide)]
  simp [hrole]

theorem writeSlotCfg_disabled (hoff : s.slotOn k = false) (hrole : fieldOf w F.CLE_SLOT_CFG_ROLE ≠ 1) : s.writeSlotCfg k w =
    if fieldOf w F.CLE_SLOT_CFG_EN = 1 then
      if s.mayEnable k (w &&& cfgMask) then s.slotTaken k (w &&& cfgMask)
      else (s.setReg .CLE_SLOT_CFG k (setField (w &&& cfgMask) F.CLE_SLOT_CFG_EN 0)).cleErr
    else s.setReg .CLE_SLOT_CFG k (w &&& cfgMask) := by
  have hen : fieldOf (s.reg .CLE_SLOT_CFG k) F.CLE_SLOT_CFG_EN ≠ 1 := State.slotOn_eq_false.1 hoff
  rw [State.writeSlotCfg_eq, secondCap_of_ne hrole, if_neg (by simp [hen]), if_neg hen, fieldOf_cfgMask w (f := F.CLE_SLOT_CFG_EN) (by decide)]

theorem execSlotCfgWrite_enables (hoff : s.slotOn k = false) (hon : fieldOf w F.CLE_SLOT_CFG_EN = 1) (hrole : fieldOf w F.CLE_SLOT_CFG_ROLE ≠ 1)
    (hmay : s.mayEnable k (w &&& cfgMask) = true) : ∃ t, execSlotCfgWrite k w s = .next t ∧
    t.reg .CLE_SLOT_CFG k = w &&& cfgMask ∧ t.slotOn k = true ∧ (t.slot k).start = true ∧ (t.slot k).integ = 0 ∧
    OnlyRegs [.CLE_SLOT_CFG] { s with cle := t.cle } t := by
  have hexec := (writeSlotCfg_disabled hoff hrole).trans ((if_pos hon).trans (if_pos hmay))
  have hset : Frame State.cleless [.CLE_SLOT_CFG] s (s.setReg .CLE_SLOT_CFG k (w &&& cfgMask)) := (Frame.refl _ _ s).setReg (fun _ => rfl) _ _ (by decide)
  have hreg : (s.setReg .CLE_SLOT_CFG k (w &&& cfgMask)).reg .CLE_SLOT_CFG k = w &&& cfgMask := (State.reg_setReg _ _ _ _ _ _).trans (if_pos ⟨rfl, rfl⟩)
  have hon' : fieldOf (w &&& cfgMask) F.CLE_SLOT_CFG_EN = 1 := (fieldOf_cfgMask w (by decide)).trans hon
  unfold State.slotTaken at hexec
  generalize w &&& cfgMask = x at hexec hset hreg hon'
  generalize s.setReg .CLE_SLOT_CFG k x = u at hexec hset hreg
  refine ⟨_, congrArg Host.Outcome.next hexec, (State.reg_congr_regs (State.regs_modSlot u _ _) _ _).trans hreg, ?_, ?_, ?_,
    (hset.trans (u.modSlot_frame k _ _)).onlyRegs_cle⟩
  · rw [State.slotOn_iff, State.rd_congr_regs (State.regs_modSlot u _ _), State.rd, show u.reg F.CLE_SLOT_CFG_EN.reg k = x from hreg]
    exact hon'
  · rw [State.slot_modSlot_same]
  · rw [State.slot_modSlot_same]

theorem execSlotCfgWrite_mayNot (hoff : s.slotOn k = false) (hon : fieldOf w F.CLE_SLOT_CFG_EN = 1) (hrole : fieldOf w F.CLE_SLOT_CFG_ROLE ≠ 1)
    (hmay : s.mayEnable k (w &&& cfgMask) = false) : ∃ t, execSlotCfgWrite k w s = .next t ∧
    t.flag F.CLE_CAUSE_CFGERR = true ∧ t.slotOn k = false ∧ OnlyLogs [.CLE_SLOT_CFG, .CLE_CAUSE] s t := by
  have hexec := (writeSlotCfg_disabled hoff hrole).trans ((if_pos hon).trans (if_neg (by rw [hmay]; decide)))
  have hen : fieldOf (setField (w &&& cfgMask) F.CLE_SLOT_CFG_EN 0) F.CLE_SLOT_CFG_EN = 0 := fieldOf_setField _ _ _ (by decide) (by decide)
  generalize setField (w &&& cfgMask) F.CLE_SLOT_CFG_EN 0 = x at hexec hen
  have hset : OnlyRegs [.CLE_SLOT_CFG] s (s.setReg .CLE_SLOT_CFG k x) := (OnlyRegs.refl _ s).setReg _ _ (by decide)
  have hreg : (s.setReg .CLE_SLOT_CFG k x).reg .CLE_SLOT_CFG k = x := (State.reg_setReg _ _ _ _ _ _).trans (if_pos ⟨rfl, rfl⟩)
  generalize s.setReg .CLE_SLOT_CFG k x = u at hexec hset hreg
  refine ⟨_, congrArg Host.Outcome.next hexec, u.cleErr_effect.1, ?_,
    ((Frame.of_onlyRegs (k := State.logless) (fun _ => rfl) hset).mono (by decide)).trans (u.cleErr_effect.2.mono (by decide))⟩
  have hreg' : u.cleErr.reg F.CLE_SLOT_CFG_EN.reg k = x := (u.cleErr_effect.2.1 _ _ (by decide)).trans hreg
  rw [State.slotOn_eq_false, State.rd, hreg', hen]
  decide

theorem execSlotCfgWrite_stays (hoff : s.slotOn k = false) (hon : fieldOf w F.CLE_SLOT_CFG_EN = 0) (hrole : fieldOf w F.CLE_SLOT_CFG_ROLE ≠ 1) :
    ∃ t, execSlotCfgWrite k w s = .next t ∧ t.reg .CLE_SLOT_CFG k = w &&& cfgMask ∧ OnlyRegs [.CLE_SLOT_CFG] s t :=
  ⟨_, congrArg Host.Outcome.next ((writeSlotCfg_disabled hoff hrole).trans (if_neg (by rw [hon]; decide))),
    (State.reg_setReg _ _ _ _ _ _).trans (if_pos ⟨rfl, rfl⟩), (OnlyRegs.refl _ s).setReg _ _ (by decide)⟩

theorem execSlotCfgWrite_refused (h : (s.rd F.CLE_SLOT_CFG_ROLE k = 1 ∧ s.rd F.CLE_SLOT_CFG_EN k = 1 ∧ fieldOf w F.CLE_SLOT_CFG_EN ≠ 1) ∨
    s.secondCap k (w &&& cfgMask) = true) : ∃ t, execSlotCfgWrite k w s = .next t ∧ t.flag F.CLE_CAUSE_CFGERR = true ∧
    t.reg .CLE_SLOT_CFG k = s.reg .CLE_SLOT_CFG k ∧ OnlyLogs [.CLE_CAUSE] s t :=
  ⟨_, congrArg Host.Outcome.next (writeSlotCfg_refused h), s.cleErr_effect.1, s.cleErr_effect.2.1 _ _ (by decide), s.cleErr_effect.2⟩

theorem secondCap_of_eq {j : Fin 32} (hj : j ≠ k) (hrole : s.rd F.CLE_SLOT_CFG_ROLE j = 1) (hw : fieldOf w F.CLE_SLOT_CFG_ROLE = 1) :
    s.secondCap k (w &&& cfgMask) = true := by
  rw [State.secondCap, fieldOf_cfgMask w (by decide), hw, Bool.and_eq_true_iff]
  exact ⟨rfl, List.any_eq_true.2 ⟨j, List.mem_range.2 j.isLt, by simpa [hrole] using fun h => hj (Fin.ext h)⟩⟩

theorem writeSlotCfg_enabled (hen : s.slotOn k = true) (hon : s.rd F.CLE_SLOT_CFG_ROLE k ≠ 1 ∨ fieldOf w F.CLE_SLOT_CFG_EN = 1)
    (hrole : fieldOf w F.CLE_SLOT_CFG_ROLE ≠ 1) : s.writeSlotCfg k w =
      let s1 := s.setReg .CLE_SLOT_CFG k (s.cfgKept k (w &&& cfgMask))
      let s2 := if s.cfgClash k (w &&& cfgMask) then s1.cleErr else s1
      if fieldOf w F.CLE_SLOT_CFG_EN = 1 then s2
      else if fieldOf (s.reg .CLE_SLOT_CFG k) F.CLE_SLOT_CFG_GRPEN = 1 then
        (s2.slotStopped k).resolveGroup (fieldOf (s.reg .CLE_SLOT_CFG k) F.CLE_SLOT_CFG_GRP) else s2.slotStopped k := by
  have hen' : fieldOf (s.reg .CLE_SLOT_CFG k) F.CLE_SLOT_CFG_EN = 1 := State.slotOn_iff.1 hen
  rw [State.writeSlotCfg_eq, secondCap_of_ne hrole, fieldOf_cfgMask w (f := F.CLE_SLOT_CFG_EN) (by decide)]
  refine (if_neg ?_).trans (if_pos hen')
  rcases hon with h | h
  · rw [decide_eq_false (show ¬ fieldOf (s.reg .CLE_SLOT_CFG k) F.CLE_SLOT_CFG_ROLE = 1 from h)]
    simp
  · simp [h]

/-- The fixed fields are the old ones; EN is the new one. -/
theorem fieldOf_cfgKept (x : Word) : (∀ f ∈ cfgFixed, fieldOf (s.cfgKept k x) f = s.rd f k) ∧
    fieldOf (s.cfgKept k x) F.CLE_SLOT_CFG_EN = fieldOf x F.CLE_SLOT_CFG_EN := by
  have hsame : ∀ (y z : Word) {f : Fld}, f.lo ≤ f.hi ∧ f.hi < 32 → fieldOf (setField y f (fieldOf z f)) f = fieldOf z f := fun y z f hf =>
    (fieldOf_setField _ _ _ hf.1 hf.2).trans (Nat.mod_eq_of_lt (fieldOf_lt z f))
  have hne : ∀ (y : Word) (v : Nat) {f g : Fld}, f.lo ≤ f.hi ∧ (g.hi < f.lo ∨ f.hi < g.lo) → fieldOf (setField y f v) g = fieldOf y g :=
    fun y v f g h => fieldOf_setField_ne _ _ _ _ h.1 h.2
  unfold State.cfgKept
  simp only [List.foldl_cons, List.foldl_nil]
  generalize hz : s.reg .CLE_SLOT_CFG k = z
  have hrd : ∀ f ∈ cfgFixed, s.rd f k = fieldOf z f := fun f hf => by
    have hreg : ∀ f ∈ cfgFixed, f.reg = .CLE_SLOT_CFG := by decide
    rw [State.rd, hreg f hf, hz]
  refine ⟨fun f hf => ?_, ?_⟩
  · rw [hrd f hf]
    simp only [List.mem_cons, List.not_mem_nil, or_false] at hf
    rcases hf with rfl | rfl | rfl | rfl | rfl
    · rw [hne _ _ (by decide), hne _ _ (by decide), hne _ _ (by decide), hne _ _ (by decide), hsame _ _ (by decide)]
    · rw [hne _ _ (by decide), hne _ _ (by decide), hne _ _ (by decide), hsame _ _ (by decide)]
    · rw [hne _ _ (by decide), hne _ _ (by decide), hsame _ _ (by decide)]
    · rw [hne _ _ (by decide), hsame _ _ (by decide)]
    · rw [hsame _ _ (by decide)]
  · rw [hne _ _ (by decide), hne _ _ (by decide), hne _ _ (by decide), hne _ _ (by decide), hne _ _ (by decide)]

theorem execSlotCfgWrite_fixed (hen : s.slotOn k = true) (hon : fieldOf w F.CLE_SLOT_CFG_EN = 1) (hrole : fieldOf w F.CLE_SLOT_CFG_ROLE ≠ 1)
    (hperiod : fieldOf w F.CLE_SLOT_CFG_PERIOD ≠ s.rd F.CLE_SLOT_CFG_PERIOD k) : ∃ t, execSlotCfgWrite k w s = .next t ∧
    t.flag F.CLE_CAUSE_CFGERR = true ∧
    (∀ f ∈ [F.CLE_SLOT_CFG_DIR, F.CLE_SLOT_CFG_GRP, F.CLE_SLOT_CFG_GRPEN, F.CLE_SLOT_CFG_ROLE, F.CLE_SLOT_CFG_PERIOD, F.CLE_SLOT_CFG_EN],
      t.rd f k = s.rd f k) ∧ OnlyLogs [.CLE_SLOT_CFG, .CLE_CAUSE] s t := by
  have hclash : s.cfgClash k (w &&& cfgMask) = true := by
    refine List.any_eq_true.2 ⟨F.CLE_SLOT_CFG_PERIOD, by decide, ?_⟩
    rw [fieldOf_cfgMask w (by decide)]
    exact decide_eq_true fun h => hperiod h.symm
  have hexec := writeSlotCfg_enabled hen (.inr hon) hrole
  simp only [hclash, hon, if_true] at hexec
  obtain ⟨hkept, hen'⟩ := fieldOf_cfgKept (s := s) (k := k) (w &&& cfgMask)
  rw [fieldOf_cfgMask w (by decide), hon] at hen'
  generalize s.cfgKept k (w &&& cfgMask) = x at hexec hkept hen'
  have hset : OnlyRegs [.CLE_SLOT_CFG] s (s.setReg .CLE_SLOT_CFG k x) := (OnlyRegs.refl _ s).setReg _ _ (by decide)
  have hreg : (s.setReg .CLE_SLOT_CFG k x).reg .CLE_SLOT_CFG k = x := (State.reg_setReg _ _ _ _ _ _).trans (if_pos ⟨rfl, rfl⟩)
  generalize s.setReg .CLE_SLOT_CFG k x = u at hexec hset hreg
  have hreg' : u.cleErr.reg .CLE_SLOT_CFG k = x := (u.cleErr_effect.2.1 _ _ (by decide)).trans hreg
  refine ⟨_, congrArg Host.Outcome.next hexec, u.cleErr_effect.1, fun f hf => ?_,
    ((Frame.of_onlyRegs (k := State.logless) (fun _ => rfl) hset).mono (by decide)).trans (u.cleErr_effect.2.mono (by decide))⟩
  have hcfg : ∀ f ∈ F.CLE_SLOT_CFG_EN :: cfgFixed, f.reg = .CLE_SLOT_CFG := by decide
  rcases List.mem_append.1 (show f ∈ cfgFixed ++ [F.CLE_SLOT_CFG_EN] from hf) with hf | hf
  · rw [State.rd, hcfg f (List.mem_cons_of_mem _ hf), hreg', hkept f hf]
  · rw [List.mem_singleton.1 hf, State.slotOn_iff.1 hen, State.rd, show u.cleErr.reg F.CLE_SLOT_CFG_EN.reg k = x from hreg', hen']

theorem State.slotStopped_effect (s : State) (k : Nat) : (s.slotStopped k).flag F.CLE_SLOT_STAT_RUN k = false ∧
    OnlyRegs [.CLE_SLOT_STAT] s (s.slotStopped k) :=
  ⟨(State.flag_wr_ne _ _ _ _ _ _ (.inr (by decide))).trans (State.flag_wr_same _ _ _ _ (by decide)),
    ((OnlyRegs.refl _ s).wr _ _ _ (by decide)).wr _ _ _ (by decide)⟩

theorem execSlotCfgWrite_disables (hen : s.slotOn k = true) (hrole : s.rd F.CLE_SLOT_CFG_ROLE k ≠ 1) (hgroup : s.flag F.CLE_SLOT_CFG_GRPEN k = false) :
    ∃ t, execSlotCfgWrite k (setField (s.reg .CLE_SLOT_CFG k) F.CLE_SLOT_CFG_EN 0) s = .next t ∧ t.slotOn k = false ∧
    t.flag F.CLE_SLOT_STAT_RUN k = false ∧ OnlyRegs [.CLE_SLOT_CFG, .CLE_SLOT_STAT] s t := by
  generalize hw : setField (s.reg .CLE_SLOT_CFG k) F.CLE_SLOT_CFG_EN 0 = w
  have hfixed : ∀ f ∈ cfgFixed, fieldOf w f = fieldOf (s.reg .CLE_SLOT_CFG k) f := fun f hf => by
    have hsep : ∀ f ∈ cfgFixed, F.CLE_SLOT_CFG_EN.lo ≤ F.CLE_SLOT_CFG_EN.hi ∧ (f.hi < F.CLE_SLOT_CFG_EN.lo ∨ F.CLE_SLOT_CFG_EN.hi < f.lo) := by decide
    rw [← hw, fieldOf_setField_ne _ _ _ _ (hsep f hf).1 (hsep f hf).2]
  have hoff : fieldOf w F.CLE_SLOT_CFG_EN = 0 := by rw [← hw, fieldOf_setField _ _ _ (by decide) (by decide)]; rfl
  have hclash : s.cfgClash k (w &&& cfgMask) = false := by
    refine List.any_eq_false.2 fun f hf => ?_
    rw [fieldOf_cfgMask w (List.mem_cons_of_mem _ hf), hfixed f hf]
    simp
  have hungrouped : fieldOf (s.reg .CLE_SLOT_CFG k) F.CLE_SLOT_CFG_GRPEN ≠ 1 := by
    rw [show fieldOf (s.reg .CLE_SLOT_CFG k) F.CLE_SLOT_CFG_GRPEN = 0 from State.flag_eq_false.1 hgroup]; decide
  have hexec := writeSlotCfg_enabled hen (.inl hrole) (by rw [hfixed _ (by decide)]; exact hrole)
  simp only [hclash, hoff, Bool.false_eq_true, if_false, Nat.zero_ne_one] at hexec
  rw [if_neg hungrouped] at hexec
  have hen' := (fieldOf_cfgKept (s := s) (k := k) (w &&& cfgMask)).2
  rw [fieldOf_cfgMask w (by decide), hoff] at hen'
  generalize s.cfgKept k (w &&& cfgMask) = x at hexec hen'
  have hset : OnlyRegs [.CLE_SLOT_CFG] s (s.setReg .CLE_SLOT_CFG k x) := (OnlyRegs.refl _ s).setReg _ _ (by decide)
  have hreg : (s.setReg .CLE_SLOT_CFG k x).reg .CLE_SLOT_CFG k = x := (State.reg_setReg _ _ _ _ _ _).trans (if_pos ⟨rfl, rfl⟩)
  generalize s.setReg .CLE_SLOT_CFG k x = u at hexec hset hreg
  obtain ⟨hrun, hstop⟩ := u.slotStopped_effect k
  refine ⟨_, congrArg Host.Outcome.next hexec, ?_, hrun, (hset.mono (by decide)).trans (hstop.mono (by decide))⟩
  have hreg' : (u.slotStopped k).reg F.CLE_SLOT_CFG_EN.reg k = x := (hstop.1 _ _ (by decide)).trans hreg
  rw [State.slotOn_eq_false, State.rd, hreg', hen']
  decide

end

/-! ### Coefficients and the repetitive table (R302, R310, R314) -/

theorem State.writeSlotWord_effect (s : State) (r : Reg) (k : Nat) (w : Word) : (s.writeSlotWord r k w).reg r k = w ∧
    Frame State.cleless [r] s (s.writeSlotWord r k w) ∧ (gainWords.elem r = false → (s.writeSlotWord r k w).cle = s.cle) := by
  have hset : ∀ u : State, (u.setReg r k w).reg r k = w := fun u => (State.reg_setReg _ _ _ _ _ _).trans (if_pos ⟨rfl, rfl⟩)
  have hframe : ∀ u : State, Frame State.cleless [r] u (u.setReg r k w) := fun u => (Frame.refl _ _ u).setReg (fun _ => rfl) _ _ List.mem_cons_self
  unfold State.writeSlotWord
  split
  · next h => exact ⟨hset _, (s.modSlot_frame k _ _).trans (hframe _), fun h' => absurd (h.symm.trans h') (by decide)⟩
  · exact ⟨hset s, hframe s, fun _ => rfl⟩

theorem execRepTableWrite_takes {k : Fin 32} {i : BitVec 8} {w : Word} {s : State}
    (h : s.flag F.CLE_SLOT_CFG_REPEN k = false ∨ s.flag F.CLE_SLOT_REP_FREEZE k = true) : ∃ t, execRepTableWrite k i w s = .next t ∧
    t = { s with cle := t.cle } ∧ Assoc.get 0 (t.slot k).q i.toNat = w := by
  refine ⟨_, congrArg Host.Outcome.next (if_neg (by rcases h with h | h <;> simp [h])), rfl, ?_⟩
  rw [State.slot_modSlot_same]
  exact (Assoc.get_set (0 : Word) _ _ _ _).trans (if_pos rfl)

theorem execRepTableWrite_refused {k : Fin 32} {i : BitVec 8} {w : Word} {s : State} (hon : s.flag F.CLE_SLOT_CFG_REPEN k = true)
    (hrun : s.flag F.CLE_SLOT_REP_FREEZE k = false) : ∃ t, execRepTableWrite k i w s = .next t ∧
    t.flag F.CLE_CAUSE_CFGERR = true ∧ OnlyLogs [.CLE_CAUSE] s t :=
  ⟨s.cleErr, congrArg Host.Outcome.next (if_pos (by simp [hon, hrun])), s.cleErr_effect⟩

theorem execRepBeaconTimeout_effect {s : State} (h : s.flag F.CLE_REP_STAT_LOCK = true) : ∃ t, execRepBeaconTimeout s = .next t ∧
    t.flag F.CLE_REP_STAT_LOCK = false ∧ t.flag F.CLE_CAUSE_REP_LOCK = true ∧ OnlyLogs [.CLE_REP_STAT, .CLE_CAUSE] s t := by
  have hlost : (s.wr F.CLE_REP_STAT_LOCK 0 0).flag F.CLE_REP_STAT_LOCK = false := State.flag_wr_same _ _ _ _ (by decide)
  have hset : OnlyLogs [.CLE_REP_STAT, .CLE_CAUSE] s (s.wr F.CLE_REP_STAT_LOCK 0 0) := (OnlyLogs.refl _ s).wr _ _ _ (by decide)
  exact ⟨_, congrArg Host.Outcome.next (if_neg (by simp [h])), (State.flag_raise_ne _ _ _ _ _ _ _ _ (by decide)).trans hlost,
    State.flag_raise_same _ _ _ _ _ _ (by decide), hset.raise _ _ _ _ _ (by decide)⟩

/-! ### Trace buffers (R306) -/

/-- A buffer takes another content. -/
def State.putTrace (s : State) (b : Nat) (x : Trace) : State := { s with cle := { s.cle with traces := Assoc.put s.cle.traces b x } }

theorem State.putTrace_frame (s : State) (b : Nat) (x : Trace) (rs : List Reg) : Frame State.cleless rs s (s.putTrace b x) :=
  (Frame.refl _ rs s).other rfl rfl

/-- A buffer's state with the samples it kept. -/
theorem State.traceStat_effect (s : State) (b : Nat) {v n : Nat} (hv : v < 4) :
    let t := (s.wr F.CLE_TRC_STAT_STATE b v).wr F.CLE_TRC_STAT_PRE_GOT b n
    t.rd F.CLE_TRC_STAT_STATE b = v ∧ t.rd F.CLE_TRC_STAT_PRE_GOT b = n % 8192 ∧ t.cle = s.cle ∧ OnlyRegs [.CLE_TRC_STAT] s t :=
  ⟨(State.rd_wr_ne _ _ _ _ _ _ (.inr (by decide))).trans ((State.rd_wr_same _ _ _ _ (by decide)).trans (Nat.mod_eq_of_lt hv)),
    State.rd_wr_same _ _ _ _ (by decide), rfl, ((OnlyRegs.refl _ s).wr _ _ _ (by decide)).wr _ _ _ (by decide)⟩

theorem execTraceArm_effect (b : Fin 4) (s : State) : ∃ t, execTraceArm b s = .next t ∧ t.rd F.CLE_TRC_STAT_STATE b = 1 ∧
    t.rd F.CLE_TRC_STAT_PRE_GOT b = 0 ∧ (Assoc.get {} t.cle.traces b.val).data = [] ∧
    OnlyRegs [.CLE_TRC_CFG, .CLE_TRC_STAT] { s with cle := t.cle } t := by
  have harmed : Frame State.cleless [.CLE_TRC_CFG, .CLE_TRC_STAT] s ((s.putTrace b {}).wr F.CLE_TRC_CFG_ARM b 1) :=
    (s.putTrace_frame b {} _).trans ((Frame.refl _ _ _).wr (fun _ => rfl) _ _ _ (by decide))
  have hdata : (Assoc.get {} ((s.putTrace b {}).wr F.CLE_TRC_CFG_ARM b 1).cle.traces b.val).data = [] := by
    rw [State.cle_wr]
    exact congrArg Trace.data ((Assoc.get_put _ _ _ _ _).trans (if_pos rfl))
  have hexec : execTraceArm b s = .next ((((s.putTrace b {}).wr F.CLE_TRC_CFG_ARM b 1).wr F.CLE_TRC_STAT_STATE b 1).wr F.CLE_TRC_STAT_PRE_GOT b 0) := rfl
  generalize (s.putTrace b {}).wr F.CLE_TRC_CFG_ARM b 1 = u at harmed hdata hexec
  obtain ⟨hstate, hgot, hcle, hset⟩ := u.traceStat_effect b (v := 1) (n := 0) (by decide)
  exact ⟨_, hexec, hstate, hgot, by rw [hcle]; exact hdata,
    (harmed.trans ((Frame.of_onlyRegs (fun _ => rfl) hset).mono (by decide))).onlyRegs_cle⟩

theorem execTraceFire_effect {b : Fin 4} {s : State} (htrig : s.rd F.CLE_TRC_CFG_TRIG b = 0) (harmed : s.rd F.CLE_TRC_STAT_STATE b = 1) :
    ∃ t, execTraceFire b s = .next t ∧ t.rd F.CLE_TRC_STAT_STATE b = 2 ∧ OnlyRegs [.CLE_TRC_STAT] { s with cle := t.cle } t := by
  have hexec : ∃ (x : Trace) (n : Nat), execTraceFire b s = .next (((s.putTrace b x).wr F.CLE_TRC_STAT_STATE b 2).wr F.CLE_TRC_STAT_PRE_GOT b n) :=
    ⟨_, _, if_pos ⟨htrig, harmed⟩⟩
  obtain ⟨x, n, hexec⟩ := hexec
  have hput := s.putTrace_frame b x [.CLE_TRC_STAT]
  generalize s.putTrace b x = u at hexec hput
  obtain ⟨hstate, -, -, hset⟩ := u.traceStat_effect b (v := 2) (n := n) (by decide)
  exact ⟨_, hexec, hstate, (hput.trans (Frame.of_onlyRegs (fun _ => rfl) hset)).onlyRegs_cle⟩

theorem execTraceFire_none {b : Fin 4} {s : State} (h : s.rd F.CLE_TRC_CFG_TRIG b ≠ 0 ∨ s.rd F.CLE_TRC_STAT_STATE b ≠ 1) :
    execTraceFire b s = .next s := if_neg fun ⟨htrig, harmed⟩ => h.elim (· htrig) (· harmed)

theorem State.traceAdvance_effect {s : State} {b : Nat} (hidle : ¬ (s.rd F.CLE_TRC_STAT_STATE b = 1 ∨ s.rd F.CLE_TRC_STAT_STATE b = 2)) :
    (s.traceAdvance b).rd F.CLE_TRC_CUR_NODE b = (s.rd F.CLE_TRC_CUR_NODE b + 1) % 8 ∧ OnlyRegs [.CLE_TRC_CUR] s (s.traceAdvance b) := by
  have hlt : s.rd F.CLE_TRC_CUR_NODE b < 8 := fieldOf_lt _ F.CLE_TRC_CUR_NODE
  have hadv : s.traceAdvance b = if s.rd F.CLE_TRC_CUR_NODE b < 7 then s.wr F.CLE_TRC_CUR_NODE b (s.rd F.CLE_TRC_CUR_NODE b + 1)
      else (s.wr F.CLE_TRC_CUR_NODE b 0).wr F.CLE_TRC_CUR_SAMPLE b ((s.rd F.CLE_TRC_CUR_SAMPLE b + 1) % 8192) := if_neg hidle
  rw [hadv]
  split
  · exact ⟨State.rd_wr_same _ _ _ _ (by decide), (OnlyRegs.refl _ s).wr _ _ _ (by decide)⟩
  · next h =>
    refine ⟨?_, ((OnlyRegs.refl _ s).wr _ _ _ (by decide)).wr _ _ _ (by decide)⟩
    rw [State.rd_wr_ne _ _ _ _ _ _ (.inr (by decide)), State.rd_wr_same _ _ _ _ (by decide), show s.rd F.CLE_TRC_CUR_NODE b = 7 by omega]
    rfl

/-- An answer adds to what is sent alone. -/
theorem OnlyRegs.emitted {rs : List Reg} {s u : State} (h : OnlyRegs rs s u) (x : Emit) : OnlyRegs rs { s with out := (u.emit x).out } (u.emit x) :=
  ⟨fun r i hr => (State.reg_congr_regs rfl r i).trans (h.1 r i hr), congrArg (fun v : State => { v with out := (u.emit x).out }) h.2⟩

theorem execTraceDataRead_effect {b : Fin 4} {m : BitVec 10} {s : State} (h1 : s.rd F.CLE_TRC_STAT_STATE b ≠ 1)
    (h2 : s.rd F.CLE_TRC_STAT_STATE b ≠ 2) : ∃ t, execTraceDataRead b m s = .next t ∧
    t.out = s.out ++ [.readData m.toNat [getAt 0 (getAt [] (Assoc.get {} s.cle.traces b.val).data (s.rd F.CLE_TRC_CUR_SAMPLE b)) (s.rd F.CLE_TRC_CUR_NODE b)]] ∧
    t.rd F.CLE_TRC_CUR_NODE b = (s.rd F.CLE_TRC_CUR_NODE b + 1) % 8 ∧ OnlyRegs [.CLE_TRC_CUR] { s with out := t.out } t := by
  have hidle : ¬ (s.rd F.CLE_TRC_STAT_STATE b = 1 ∨ s.rd F.CLE_TRC_STAT_STATE b = 2) := fun h => h.elim h1 h2
  have hword : s.traceWord b = getAt 0 (getAt [] (Assoc.get {} s.cle.traces b.val).data (s.rd F.CLE_TRC_CUR_SAMPLE b)) (s.rd F.CLE_TRC_CUR_NODE b) := if_neg hidle
  obtain ⟨hnode, hset⟩ := State.traceAdvance_effect hidle
  have hexec : execTraceDataRead b m s = .next ((s.traceAdvance b).emit (.readData m.toNat [s.traceWord b])) := rfl
  rw [hword] at hexec
  generalize s.traceAdvance b = u at hnode hset hexec
  have hout : u.out = s.out := (congrArg State.out hset.2 :)
  exact ⟨_, hexec, congrArg (· ++ _) hout, (State.rd_congr_regs rfl _ _).trans hnode, hset.emitted _⟩

theorem execTraceDataRead_recording {b : Fin 4} {m : BitVec 10} {s : State} (h : s.rd F.CLE_TRC_STAT_STATE b = 1 ∨ s.rd F.CLE_TRC_STAT_STATE b = 2) :
    execTraceDataRead b m s = .next { s with out := s.out ++ [.readData m.toNat [0]] } := by
  have hword : s.traceWord b = 0 := if_pos h
  have hstay : s.traceAdvance b = s := if_pos h
  unfold execTraceDataRead
  rw [hword, hstay]
  rfl

/-- Settles O43: a slot's configuration by whether it is enabled, its control words, the repetitive table and lock, and the trace
buffers' states. -/
theorem controlSlotWritesLockAndTraces : Obligations.ControlSlotWritesLockAndTraces := by
  unfold Obligations.ControlSlotWritesLockAndTraces
  exact ⟨fun k w s => execSlotCfgWrite_enables, fun k w s => execSlotCfgWrite_mayNot, fun k w s => execSlotCfgWrite_stays,
    fun k w s hen hrole hoff => execSlotCfgWrite_refused (.inl ⟨hrole, State.slotOn_iff.1 hen, by rw [hoff]; decide⟩),
    fun k j w s hj hrole hw => execSlotCfgWrite_refused (.inr (secondCap_of_eq hj hrole hw)), fun k w s => execSlotCfgWrite_fixed,
    fun k s => execSlotCfgWrite_disables,
    fun k j w s => ⟨_, rfl, (s.writeSlotWord_effect _ k w).1, (s.writeSlotWord_effect _ k w).2.1.onlyRegs_cle, (s.writeSlotWord_effect _ k w).2.2⟩,
    fun k i w s => execRepTableWrite_takes, fun k i w s => execRepTableWrite_refused, fun s => execRepBeaconTimeout_effect,
    fun s h => congrArg Host.Outcome.next (if_pos h), fun b s => execTraceArm_effect b s, fun b s => execTraceFire_effect,
    fun b s => execTraceFire_none, fun b m s => execTraceDataRead_effect, fun b m s => execTraceDataRead_recording⟩

end Sys2Proof.Machine
end

section
/-! PROOFS.  The base tick of the control engine and one sample of a slot (R286, R290 to R297). -/

namespace Sys2Proof.Machine

/-! ### What a sample leaves -/

/-- All but registers, the recorder, readings and the engine's own state beside its ticks. -/
def State.sampleless (s : State) : State := { s with regs := [], evr := {}, irqPulse := false, cio := {}, cle := { ticks := s.cle.ticks } }

/-- The same without the place in the free values. -/
def State.samplefreeless (s : State) : State :=
  { s with regs := [], evr := {}, irqPulse := false, cio := {}, cle := { ticks := s.cle.ticks }, free := 0 }

/-- The registers a sample of a slot can write. -/
def sampleRegs : List Reg := [.CLE_SLOT_STAT, .CLE_SLOT_DEGR, .CLE_SLOT_Y, .CLE_SLOT_U, .CLE_SLOT_I, .CLE_CAUSE]

/-- A sample's frame, where free values may have been taken. -/
abbrev SampleFrame (s t : State) : Prop := Frame State.samplefreeless (sampleRegs ++ recRegs) s t

theorem State.modSlot_sampleFrame (s : State) (k : Nat) (f : Slot → Slot) : SampleFrame s (s.modSlot k f) := (Frame.refl _ _ s).other rfl rfl

theorem State.stat_sampleFrame (s : State) (k : Nat) (f : Fld) (v : Bool) (hf : f.reg = .CLE_SLOT_STAT) : SampleFrame s (s.stat k f v) :=
  (Frame.refl _ _ s).wr (fun _ => rfl) _ _ _ (by rw [hf]; decide)

theorem State.raiseFor_sampleFrame (s : State) (f : Fld) (k sev : Nat) (hf : f.reg = .CLE_CAUSE) : SampleFrame s (s.raiseFor f 0 k sev) :=
  (Frame.refl _ _ s).raiseFor (fun _ => rfl) _ _ _ _ _ _ (by rw [hf]; decide) (by decide)

theorem State.cle_raiseFor (s : State) (f : Fld) (i inst sev : Nat) : (s.raiseFor f i inst sev).cle = s.cle := by
  have h : (s.raiseFor f i inst sev).logless = s.logless := by rw [State.raiseFor_eq]; rfl
  exact (congrArg State.cle h :)

theorem State.slot_congr {s t : State} (h : t.cle = s.cle) (k : Nat) : t.slot k = s.slot k := by rw [State.slot, State.slot, h]

/-! ### A slot without a destination (R289, R300) -/

/-- What no destination forces. -/
theorem State.forceAt_zero (s : State) : s.forceAt 0 = none := by
  have hvalve : ¬ (0 = s.valveDst) := by rw [State.valveDst]; omega
  rw [State.forceAt, if_neg hvalve, if_neg (by decide), if_neg (by decide)]

theorem State.applied_zero {s : State} {k : Nat} (h : s.dst k = 0) : s.applied k = (s.slot k).uc := if_pos h

theorem State.resolve_zero {s : State} {k : Nat} (hgroup : s.flag F.CLE_SLOT_CFG_GRPEN k = false) (hdst : s.dst k = 0) :
    s.resolve k = { s with cle := { s.cle with res := Assoc.put s.cle.res 0 (s.slot k).uc } } := by
  rw [State.resolve, if_neg (by simp [hgroup]), hdst]
  rfl

/-! ### What the stage chain keeps of a slot that has run -/

/-- Slot `k` has run: its output, RUN and no INVALID, and nothing but a sample's registers and state changed since `s`. -/
structure Ran (k : Nat) (u : Rat) (s t : State) : Prop where
  frame : SampleFrame s t
  out : (t.slot k).uc = u
  run : t.flag F.CLE_SLOT_STAT_RUN k = true
  valid : t.flag F.CLE_SLOT_STAT_INVALID k = false

namespace Ran
variable {k : Nat} {u : Rat} {s t : State}

/-- A field of CLE_SLOT_STAT beside RUN and INVALID. -/
theorem wrStat (h : Ran k u s t) (f : Fld) (v : Nat) (hf : f.reg = .CLE_SLOT_STAT ∧ f.lo ≤ f.hi ∧ 3 < f.lo) : Ran k u s (t.wr f k v) where
  frame := h.frame.wr (fun _ => rfl) _ _ _ (by rw [hf.1]; decide)
  out := by rw [State.slot_congr (State.cle_wr _ _ _ _)]; exact h.out
  run := (State.flag_wr_ne _ _ _ _ _ _ (.inr ⟨hf.2.1, .inl (lt_of_le_of_lt (by decide) hf.2.2)⟩)).trans h.run
  valid := (State.flag_wr_ne _ _ _ _ _ _ (.inr ⟨hf.2.1, .inl (lt_of_le_of_lt (by decide) hf.2.2)⟩)).trans h.valid

theorem stat (h : Ran k u s t) (f : Fld) (v : Bool) (hf : f.reg = .CLE_SLOT_STAT ∧ f.lo ≤ f.hi ∧ 3 < f.lo) : Ran k u s (t.stat k f v) :=
  h.wrStat f _ hf

theorem raiseFor (h : Ran k u s t) (f : Fld) (hf : f.reg = .CLE_CAUSE) : Ran k u s (t.raiseFor f 0 k) where
  frame := h.frame.trans (t.raiseFor_sampleFrame f k 0 hf)
  out := by rw [State.slot_congr (t.cle_raiseFor f 0 k 0)]; exact h.out
  run := (State.flag_congr ((State.reg_raiseFor _ _ _ _ _ _ _ _ _ (by decide)).trans
    (State.reg_wr_ne _ _ _ _ _ _ (by rw [hf]; decide)))).trans h.run
  valid := (State.flag_congr ((State.reg_raiseFor _ _ _ _ _ _ _ _ _ (by decide)).trans
    (State.reg_wr_ne _ _ _ _ _ _ (by rw [hf]; decide)))).trans h.valid

/-- What leaves the registers and the slot's output. -/
theorem other (h : Ran k u s t) {v : State} (hregs : v.regs = t.regs) (hk : v.samplefreeless = t.samplefreeless) (hout : (v.slot k).uc = (t.slot k).uc) :
    Ran k u s v where
  frame := h.frame.other hregs hk
  out := hout.trans h.out
  run := (State.flag_congr_regs hregs _ _).trans h.run
  valid := (State.flag_congr_regs hregs _ _).trans h.valid

theorem modSlot (h : Ran k u s t) (f : Slot → Slot) (hf : ∀ x, (f x).uc = x.uc) : Ran k u s (t.modSlot k f) :=
  h.other rfl rfl (by rw [State.slot_modSlot_same, hf])

theorem ite {c : Prop} [Decidable c] {v w : State} (hv : Ran k u s v) (hw : Ran k u s w) : Ran k u s (if c then v else w) := by
  split
  · exact hv
  · exact hw

theorem repLearn (h : Ran k u s t) (e : Rat) : Ran k u s (t.repLearn k e) := by
  have hrange := h.stat F.CLE_SLOT_STAT_REP_RANGE (!(t.repRange k)) (by decide)
  unfold State.repLearn
  refine .ite h ?_
  extract_lets lock s1 b v s2
  have h1 : Ran k u s s1 := hrange
  have h2 : Ran k u s s2 := .ite (h1.modSlot _ fun _ => rfl) h1
  clear_value s2
  exact h2.modSlot _ fun _ => rfl

theorem resolve (h : Ran k u s t) (hgroup : s.flag F.CLE_SLOT_CFG_GRPEN k = false) (hdst : s.dst k = 0) : Ran k u s (t.resolve k) := by
  have hgroup' : t.flag F.CLE_SLOT_CFG_GRPEN k = false := (h.frame.flag _ (by decide) k).trans hgroup
  have hdst' : t.dst k = 0 := (h.frame.rd F.CLE_SLOT_IO_DST (by decide) k).trans hdst
  rw [State.resolve_zero hgroup' hdst']
  exact h.other rfl rfl rfl

end Ran

/-! ### The stage chain (R292 to R297) -/

theorem State.rootOff_free (s : State) (q : Rat) : OnlyFree s (s.rootOff q).2 := by
  unfold State.rootOff
  extract_lets n r d
  split <;> rfl

theorem State.profile_free (s : State) (k : Nat) (W t : Rat) : OnlyFree s (s.profile k W t).2 := by
  unfold State.profile
  extract_lets x vl al jl d root
  have hroot : OnlyFree s root.2 := s.rootOff_free _
  clear_value root al jl d vl
  split
  · rfl
  · exact hroot

theorem OnlyFree.sampleFrame {s t : State} (h : OnlyFree s t) : SampleFrame s t :=
  (Frame.refl _ _ s).other (congrArg State.regs (show t = { s with free := t.free } from h) :)
    ((congrArg State.samplefreeless (show t = { s with free := t.free } from h) :).trans rfl)

theorem State.showDegraded_sampleFrame (s : State) (k : Nat) (v : Bool) : SampleFrame s (s.showDegraded k v) :=
  (s.stat_sampleFrame k F.CLE_SLOT_STAT_DEGRADED v rfl).setReg (fun _ => rfl) _ _ (by decide)

theorem State.cw_congr {s t : State} (h : SampleFrame s t) (r : Reg) (hr : r ∉ sampleRegs ++ recRegs) (k : Nat) : t.cw r k = s.cw r k := by
  rw [State.cw, State.cw, h.1 r k hr]

theorem State.faultStops_of {s t : State} (h : SampleFrame s t) {k : Nat} (hfault : (s.reg .CLE_SLOT_FAULT 0).getLsbD k = false) :
    t.faultStops k = false := by rw [State.faultStops, h.1 _ _ (by decide), hfault, Bool.false_and]

theorem State.slotHeld_of {s t : State} (h : SampleFrame s t) {k : Nat} (hdst : s.dst k = 0) (hrow : (s.reg .ROW_SLOTS 0).getLsbD k = false) :
    t.slotHeld k = false := by
  have hdst' : t.dst k = 0 := (h.rd F.CLE_SLOT_IO_DST (by decide) k).trans hdst
  rw [State.slotHeld, h.1 _ _ (by decide), hrow, hdst']
  simp

theorem State.faultStops_of_clear {s : State} {k : Nat} (hfault : (s.reg .CLE_SLOT_FAULT 0).getLsbD k = false) : s.faultStops k = false :=
  State.faultStops_of (Frame.refl _ _ s) hfault

/-- A slot that runs: its output is within its limits. -/
theorem State.sampleRun_ran {s : State} {k : Nat} (raw : Rat) (hgroup : s.flag F.CLE_SLOT_CFG_GRPEN k = false) (hdst : s.dst k = 0)
    (hrow : (s.reg .ROW_SLOTS 0).getLsbD k = false) (hfault : (s.reg .CLE_SLOT_FAULT 0).getLsbD k = false) (hlimit : s.cw .CLE_SLOT_W_FE_LIM k = 0) :
    ∃ v : Rat, Ran k (min (max v (s.cw .CLE_SLOT_W_UMIN k)) (s.cw .CLE_SLOT_W_UMAX k)) s (s.sampleRun k raw) := by
  unfold State.sampleRun
  extract_lets x t back yx W degr stopped fresh s1 pr w s2 was s3 s4 b1 y we er e ff rr r now g x4 held wasHeld forced goal others old frozen iv I u uc
    ovf out s5 s6 s7 lim n s8 s9 s10 s11 s12
  have h1 : SampleFrame s s1 := .ite (s.modSlot_sampleFrame k _) (Frame.refl _ _ s)
  have hpr : SampleFrame s pr.2 := by
    simp only [pr]
    split
    · exact h1
    · exact h1.trans (State.profile_free _ _ _ _).sampleFrame
  have h2 : SampleFrame s s2 := hpr.trans (State.modSlot_sampleFrame _ _ _)
  have h3 : SampleFrame s s3 := h2.trans (State.showDegraded_sampleFrame _ _ _)
  have h4 : SampleFrame s s4 := .ite (h3.trans (State.raiseFor_sampleFrame _ _ _ _ rfl)) h3
  have hfrozen : frozen = false := by
    rw [show frozen = (stopped || held) from rfl, show stopped = false from State.faultStops_of_clear hfault,
      show held = false from State.slotHeld_of h4 hdst hrow]
    rfl
  have hheld : held = false := State.slotHeld_of h4 hdst hrow
  have hout : out = min (max u.1 (s.cw .CLE_SLOT_W_UMIN k)) (s.cw .CLE_SLOT_W_UMAX k) := by
    rw [show out = uc from if_neg (by rw [hfrozen]; decide), ← State.cw_congr h4 .CLE_SLOT_W_UMIN (by decide),
      ← State.cw_congr h4 .CLE_SLOT_W_UMAX (by decide)]
  refine ⟨u.1, ?_⟩
  rw [← hout]
  have h5 : SampleFrame s s5 := h4.trans (State.modSlot_sampleFrame _ _ _)
  have hs5 : (s5.slot k).uc = out := by simp only [s5]; rw [State.slot_modSlot_same]
  clear_value s5 ovf out s4 held forced
  have hran : Ran k out s ((s5.stat k F.CLE_SLOT_STAT_INVALID false).stat k F.CLE_SLOT_STAT_RUN (!frozen)) := by
    rw [hfrozen]
    exact ⟨(h5.trans (s5.stat_sampleFrame _ _ _ rfl)).trans (State.stat_sampleFrame _ _ _ _ rfl), hs5,
      State.flag_wr_one _ _ _ (by decide), (State.flag_wr_ne _ _ _ _ _ _ (.inr (by decide))).trans (State.flag_wr_same _ _ _ _ (by decide))⟩
  have h6 : Ran k out s s6 := ((hran.stat _ _ (by decide)).stat _ _ (by decide)).stat _ _ (by decide)
  clear_value s6
  have h7 : Ran k out s s7 := .ite (h6.raiseFor _ rfl) h6
  have hlim : lim = 0 := (State.cw_congr h7.frame .CLE_SLOT_W_FE_LIM (by decide) k).trans hlimit
  have hn : n = 0 := if_neg (by rw [hlim]; simp)
  clear_value n s7
  have h8 : Ran k out s s8 := h7.wrStat _ _ (by decide)
  have h9 : s9 = s8 := if_neg (by rw [hn]; omega)
  rw [← h9] at h8
  clear_value s9
  have h10 : Ran k out s s10 := by
    simp only [s10]
    rw [if_neg (by rw [State.faultStops_of h8.frame hfault]; decide)]
    exact h8.stat _ _ (by decide)
  clear_value s10
  have h11 : Ran k out s s11 := .ite h10 (h10.repLearn _)
  clear_value s11
  have h12 : Ran k out s s12 := .ite h11 (h11.resolve hgroup hdst)
  clear_value s12
  exact h12.modSlot _ fun _ => rfl

/-! ### A sample without an input (R296) -/

/-- A lost sample's frame: no free value is taken. -/
abbrev LostFrame (s t : State) : Prop := Frame State.sampleless (sampleRegs ++ recRegs) s t

theorem State.modSlot_lostFrame (s : State) (k : Nat) (f : Slot → Slot) : LostFrame s (s.modSlot k f) := (Frame.refl _ _ s).other rfl rfl

/-- The status of a slot whose input is lost. -/
def State.lostShown (s : State) (k : Nat) : State :=
  ((((s.showDegraded k false).stat k F.CLE_SLOT_STAT_INVALID true).stat k F.CLE_SLOT_STAT_RUN false).stat k F.CLE_SLOT_STAT_HELD
    (s.slotHeld k)).stat k F.CLE_SLOT_STAT_FORCED (s.forceAt (s.dst k)).isSome

/-- The loss is told once. -/
def State.lossTold (s : State) (k : Nat) : State :=
  if (s.slot k).lost then s else (s.modSlot k fun x => { x with lost := true }).raiseFor F.CLE_CAUSE_INPUT_LOST 0 k

/-- The output of a lost slot goes where it drives, and the trace nodes follow. -/
def State.lostDriven (s : State) (k : Nat) (held : Bool) : State :=
  let s4 := if held then s else s.resolve k
  let new := s4.slotNodes k 0 0 0 0 0 0 0 0 0
  s4.modSlot k fun x => { x with nodes := (List.range 16).map fun i => getAt 0 (if i < 10 ∨ i = 12 then x.nodes else new) i }

theorem State.sampleLost_eq (s : State) (k : Nat) : s.sampleLost k =
    (((s.lostShown k).lossTold k).stoppedOut k (((s.lostShown k).lossTold k).rd F.CLE_SLOT_CFG_FACT k = 2)).lostDriven k (s.slotHeld k) := rfl

theorem State.lostShown_effect (s : State) (k : Nat) : (s.lostShown k).flag F.CLE_SLOT_STAT_INVALID k = true ∧
    (s.lostShown k).flag F.CLE_SLOT_STAT_RUN k = false ∧ (s.lostShown k).cle = s.cle ∧ LostFrame s (s.lostShown k) := by
  have hdegr : LostFrame s (s.showDegraded k false) :=
    ((Frame.refl State.sampleless (sampleRegs ++ recRegs) s).wr (fun _ => rfl) F.CLE_SLOT_STAT_DEGRADED k _ (by decide)).setReg (fun _ => rfl) _ _ (by decide)
  have hcle : (s.showDegraded k false).cle = s.cle := rfl
  unfold State.lostShown
  generalize s.showDegraded k false = u at hdegr hcle
  unfold State.stat
  refine ⟨?_, ?_, ?_, ?_⟩
  · exact (State.flag_wr_ne _ _ _ _ _ _ (.inr (by decide))).trans ((State.flag_wr_ne _ _ _ _ _ _ (.inr (by decide))).trans
      ((State.flag_wr_ne _ _ _ _ _ _ (.inr (by decide))).trans (State.flag_wr_one _ _ _ (by decide))))
  · exact (State.flag_wr_ne _ _ _ _ _ _ (.inr (by decide))).trans ((State.flag_wr_ne _ _ _ _ _ _ (.inr (by decide))).trans
      (State.flag_wr_same _ _ _ _ (by decide)))
  · rw [State.cle_wr, State.cle_wr, State.cle_wr, State.cle_wr, hcle]
  · exact (((hdegr.wr (fun _ => rfl) _ _ _ (by decide)).wr (fun _ => rfl) _ _ _ (by decide)).wr (fun _ => rfl) _ _ _ (by decide)).wr
      (fun _ => rfl) _ _ _ (by decide)

/-- The status flags of a slot, which nothing but CLE_SLOT_STAT decides. -/
theorem State.statFlags_congr {s t : State} {k : Nat} (h : t.reg .CLE_SLOT_STAT k = s.reg .CLE_SLOT_STAT k) :
    t.flag F.CLE_SLOT_STAT_INVALID k = s.flag F.CLE_SLOT_STAT_INVALID k ∧ t.flag F.CLE_SLOT_STAT_RUN k = s.flag F.CLE_SLOT_STAT_RUN k :=
  ⟨State.flag_congr h, State.flag_congr h⟩

theorem State.lossTold_effect (s : State) (k : Nat) : ((s.lossTold k).slot k).lost = true ∧ ((s.lossTold k).slot k).uc = (s.slot k).uc ∧
    ((s.slot k).lost = false → (s.lossTold k).flag F.CLE_CAUSE_INPUT_LOST = true) ∧
    (s.lossTold k).reg .CLE_SLOT_STAT k = s.reg .CLE_SLOT_STAT k ∧ LostFrame s (s.lossTold k) := by
  unfold State.lossTold
  by_cases h : (s.slot k).lost = true
  · rw [if_pos h]
    exact ⟨h, rfl, fun h' => absurd (h.symm.trans h') (by decide), rfl, Frame.refl _ _ s⟩
  · rw [if_neg h]
    have hset : LostFrame s (s.modSlot k fun x => { x with lost := true }) := s.modSlot_lostFrame k _
    have hslot : (s.modSlot k fun x => { x with lost := true }).slot k = { s.slot k with lost := true } := s.slot_modSlot_same k _
    have hreg : (s.modSlot k fun x => { x with lost := true }).reg .CLE_SLOT_STAT k = s.reg .CLE_SLOT_STAT k := rfl
    generalize (s.modSlot k fun x => { x with lost := true }) = u at hset hslot hreg
    have hslot' : (u.raiseFor F.CLE_CAUSE_INPUT_LOST 0 k).slot k = { s.slot k with lost := true } :=
      (State.slot_congr (u.cle_raiseFor _ 0 k 0) k).trans hslot
    refine ⟨by rw [hslot'], by rw [hslot'], fun _ => ?_, ?_, hset.raiseFor (fun _ => rfl) _ _ _ _ _ _ (by decide) (by decide)⟩
    · exact (State.flag_congr (State.reg_raiseFor _ _ _ _ _ _ _ _ _ (by decide))).trans (State.flag_wr_one _ _ _ (by decide))
    · exact ((State.reg_raiseFor _ _ _ _ _ _ _ _ _ (by decide)).trans (State.reg_wr_ne _ _ _ _ _ _ (by decide))).trans hreg

theorem State.stoppedOut_effect (s : State) (k : Nat) (safe : Bool) : ((s.stoppedOut k safe).slot k).lost = (s.slot k).lost ∧
    ((s.stoppedOut k safe).slot k).uc = (if safe then s.cw .CLE_SLOT_W_SAFE k else (s.slot k).uc) ∧ (s.stoppedOut k safe).regs = s.regs ∧
    LostFrame s (s.stoppedOut k safe) := by
  unfold State.stoppedOut
  cases safe with
  | true =>
    rw [if_pos rfl, if_pos rfl, State.slot_modSlot_same]
    exact ⟨rfl, rfl, rfl, s.modSlot_lostFrame k _⟩
  | false => exact ⟨rfl, rfl, rfl, Frame.refl _ _ s⟩

theorem State.lostDriven_effect {s : State} {k : Nat} (held : Bool) (hgroup : s.flag F.CLE_SLOT_CFG_GRPEN k = false) (hdst : s.dst k = 0) :
    ((s.lostDriven k held).slot k).lost = (s.slot k).lost ∧ ((s.lostDriven k held).slot k).uc = (s.slot k).uc ∧
    (s.lostDriven k held).regs = s.regs ∧ LostFrame s (s.lostDriven k held) := by
  unfold State.lostDriven
  extract_lets s4 new
  have h4 : s4.slot k = s.slot k ∧ s4.regs = s.regs ∧ LostFrame s s4 := by
    cases held with
    | true => exact ⟨rfl, rfl, Frame.refl _ _ s⟩
    | false =>
      rw [show s4 = _ from State.resolve_zero hgroup hdst]
      exact ⟨rfl, rfl, (Frame.refl _ _ s).other rfl rfl⟩
  clear_value new s4
  obtain ⟨hslot, hregs, hframe⟩ := h4
  rw [State.slot_modSlot_same]
  exact ⟨(congrArg Slot.lost hslot :), (congrArg Slot.uc hslot :), hregs, hframe.trans (s4.modSlot_lostFrame k _)⟩

theorem State.sampleLost_effect {s : State} {k : Nat} (hgroup : s.flag F.CLE_SLOT_CFG_GRPEN k = false) (hdst : s.dst k = 0) :
    ((s.sampleLost k).slot k).uc = (if s.rd F.CLE_SLOT_CFG_FACT k = 2 then s.cw .CLE_SLOT_W_SAFE k else (s.slot k).uc) ∧
    ((s.sampleLost k).slot k).lost = true ∧ (s.sampleLost k).flag F.CLE_SLOT_STAT_INVALID k = true ∧
    (s.sampleLost k).flag F.CLE_SLOT_STAT_RUN k = false ∧
    ((s.slot k).lost = false → (s.sampleLost k).flag F.CLE_CAUSE_INPUT_LOST = true) ∧ LostFrame s (s.sampleLost k) := by
  obtain ⟨hinvalid, hrun, hcle, hshown⟩ := s.lostShown_effect k
  rw [State.sampleLost_eq]
  generalize s.lostShown k = u at hinvalid hrun hcle hshown
  obtain ⟨hlost, huc, htold, hstat, htoldFrame⟩ := u.lossTold_effect k
  have hv := hshown.trans htoldFrame
  rw [State.slot_congr hcle] at huc htold
  generalize u.lossTold k = v at hlost huc htold hstat htoldFrame hv
  obtain ⟨hlost', huc', hregs', hstopFrame⟩ := v.stoppedOut_effect k (decide (v.rd F.CLE_SLOT_CFG_FACT k = 2))
  have hw := hv.trans hstopFrame
  generalize v.stoppedOut k (decide (v.rd F.CLE_SLOT_CFG_FACT k = 2)) = w at hlost' huc' hregs' hstopFrame hw
  obtain ⟨hlost'', huc'', hregs'', hdriven⟩ := State.lostDriven_effect (s := w) (k := k) (s.slotHeld k) ((hw.flag _ (by decide) k).trans hgroup)
    ((hw.rd F.CLE_SLOT_IO_DST (by decide) k).trans hdst)
  have hregs := hregs''.trans hregs'
  obtain ⟨hinv', hrun'⟩ := State.statFlags_congr hstat
  refine ⟨?_, hlost''.trans (hlost'.trans hlost), (State.flag_congr_regs hregs _ _).trans (hinv'.trans hinvalid),
    (State.flag_congr_regs hregs _ _).trans (hrun'.trans hrun), fun h => (State.flag_congr_regs hregs _ _).trans (htold h), hw.trans hdriven⟩
  have hfact : v.rd F.CLE_SLOT_CFG_FACT k = s.rd F.CLE_SLOT_CFG_FACT k := hv.rd _ (by decide) k
  have hsafe : v.cw .CLE_SLOT_W_SAFE k = s.cw .CLE_SLOT_W_SAFE k := congrArg cwVal (hv.1 _ _ (by decide))
  rw [huc'', huc', hsafe, huc, hfact]
  simp only [decide_eq_true_eq]

/-! ### What a sample shows (R288, R313) -/

/-- The registers that show a sample, and the slot's own source. -/
def State.sampleShown (s : State) (k : Nat) : State :=
  let s2 := (s.setReg .CLE_SLOT_Y k (cwOf ((s.slot k).y.getD 0))).setReg .CLE_SLOT_I k (cwOf (s.slot k).integ)
  (s2.setRead (0x30 + k) (s2.applied k)).showApplied k

theorem State.sample_eq {s : State} {k : Nat} (h : s.rd F.CLE_SLOT_CFG_ROLE k ≠ 1) : s.sample k =
    (match s.source (s.rd F.CLE_SLOT_IO_SRC k) with
    | some raw => s.sampleRun k raw
    | none => s.sampleLost k).sampleShown k := by
  unfold State.sample
  rw [if_neg h]
  rfl

/-- A slot's own applied value shows in U, and in the source of the slot where it has one. -/
def State.uShown (s : State) (k : Nat) (a : Rat) : State :=
  let s1 := s.setReg .CLE_SLOT_U k (cwOf a)
  match Assoc.find s1.cio.reads (0x30 + k) with
  | some x => { s1 with cio := { s1.cio with reads := Assoc.put s1.cio.reads (0x30 + k) { x with v := a } } }
  | none => s1

theorem State.uShown_effect (s : State) (k : Nat) (a : Rat) : (s.uShown k a).reg .CLE_SLOT_U k = cwOf a ∧ (s.uShown k a).cle = s.cle ∧
    Frame State.sampleless [.CLE_SLOT_U] s (s.uShown k a) := by
  have hreg : (s.setReg .CLE_SLOT_U k (cwOf a)).reg .CLE_SLOT_U k = cwOf a := (State.reg_setReg _ _ _ _ _ _).trans (if_pos ⟨rfl, rfl⟩)
  have hset : Frame State.sampleless [.CLE_SLOT_U] s (s.setReg .CLE_SLOT_U k (cwOf a)) := (Frame.refl _ _ s).setReg (fun _ => rfl) _ _ (by decide)
  have hcle : (s.setReg .CLE_SLOT_U k (cwOf a)).cle = s.cle := State.cle_setReg _ _ _ _
  unfold State.uShown
  generalize s.setReg .CLE_SLOT_U k (cwOf a) = u at hreg hset hcle
  dsimp only
  split
  · exact ⟨hreg, hcle, hset.other rfl rfl⟩
  · exact ⟨hreg, hcle, hset⟩

theorem State.showApplied_single {s : State} {k : Nat} (hgroup : s.flag F.CLE_SLOT_CFG_GRPEN k = false) : s.showApplied k = s.uShown k (s.applied k) := by
  unfold State.showApplied
  rw [if_neg (by simp [hgroup])]
  rfl

theorem State.sampleShown_effect {s : State} {k : Nat} (hgroup : s.flag F.CLE_SLOT_CFG_GRPEN k = false) (hdst : s.dst k = 0) :
    (s.sampleShown k).reg .CLE_SLOT_U k = cwOf (s.slot k).uc ∧ (s.sampleShown k).reg .CLE_SLOT_Y k = cwOf ((s.slot k).y.getD 0) ∧
    (s.sampleShown k).cle = s.cle ∧ Frame State.sampleless [.CLE_SLOT_Y, .CLE_SLOT_U, .CLE_SLOT_I] s (s.sampleShown k) := by
  let s2 := (s.setReg .CLE_SLOT_Y k (cwOf ((s.slot k).y.getD 0))).setReg .CLE_SLOT_I k (cwOf (s.slot k).integ)
  let s3 := s2.setRead (0x30 + k) (s2.applied k)
  have h2 : Frame State.sampleless [.CLE_SLOT_Y, .CLE_SLOT_U, .CLE_SLOT_I] s s2 :=
    ((Frame.refl _ _ s).setReg (fun _ => rfl) _ _ (by decide)).setReg (fun _ => rfl) _ _ (by decide)
  have h3 : Frame State.sampleless [.CLE_SLOT_Y, .CLE_SLOT_U, .CLE_SLOT_I] s s3 := h2.other rfl rfl
  have hy : s3.reg .CLE_SLOT_Y k = cwOf ((s.slot k).y.getD 0) :=
    (State.reg_setReg_ne _ _ _ _ _ _ (by decide)).trans ((State.reg_setReg _ _ _ _ _ _).trans (if_pos ⟨rfl, rfl⟩))
  have hcle : s3.cle = s.cle := rfl
  have hshown : s.sampleShown k = s3.showApplied k := rfl
  clear_value s3
  have happlied : s3.applied k = (s.slot k).uc := by
    rw [State.applied_zero ((h3.rd F.CLE_SLOT_IO_DST (by decide) k).trans hdst), State.slot_congr hcle]
  rw [hshown, State.showApplied_single ((h3.flag _ (by decide) k).trans hgroup), happlied]
  obtain ⟨hu, hcle', hframe⟩ := s3.uShown_effect k (s.slot k).uc
  exact ⟨hu, (hframe.1 _ _ (by decide)).trans hy, hcle'.trans hcle, h3.trans (hframe.mono (by decide))⟩

/-! ### The base tick (R286) -/

/-- No trace buffer is armed or records. -/
def State.tracesIdle (s : State) : Prop := ∀ b, b < 4 → s.rd F.CLE_TRC_STAT_STATE b ≠ 1 ∧ s.rd F.CLE_TRC_STAT_STATE b ≠ 2

theorem State.traceTakes_of_idle {s : State} (h : s.tracesIdle) (l : List Nat) (hl : ∀ b ∈ l, b < 4) :
    l.foldl (fun (s : State) (b : Nat) => s.traceTake b) s = s := by
  have hkeep : ∀ b ∈ l, s.traceTake b = s := fun b hb => if_pos (h b (hl b hb))
  exact List.foldlRecOn l _ (motive := fun t : State => t = s) rfl fun t ht b hb => by rw [ht]; exact hkeep b hb

/-- The tick is counted. -/
def State.tickCounted (s : State) : State := { s with cle := { s.cle with ticks := s.cle.ticks + 1 } }

/-- The slots due at the tick. -/
def State.slotsDue (s : State) : List Nat :=
  (List.range 32).filter fun k =>
    let p := s.rd F.CLE_SLOT_CFG_PERIOD k
    s.flag F.CLE_CTL_EN && s.slotOn k && 1 ≤ p && p ≤ 200000 && (s.cle.ticks + 1) % p = 0

/-- A slot's sample with what the buffers take of it. -/
def State.sampleTraced (s : State) (k : Nat) : State :=
  ((List.range 4).filter fun b => s.rd F.CLE_TRC_CFG_DIV b = 0 && s.rd F.CLE_TRC_CFG_TSLOT b = k).foldl
    (fun (s : State) (b : Nat) => s.traceTake b) (s.sample k)

/-- What the buffers with a divisor take at a tick. -/
def State.divTraced (s : State) (n : Nat) : State :=
  ((List.range 4).filter fun b => s.rd F.CLE_TRC_CFG_DIV b ≠ 0 && n % s.rd F.CLE_TRC_CFG_DIV b = 0).foldl
    (fun (s : State) (b : Nat) => s.traceTake b) s

theorem State.cleTick_eq (s : State) : s.cleTick =
    (let s2 := (s.slotsDue.foldl (fun (s : State) (k : Nat) => s.sampleTraced k) s.tickCounted).divTraced (s.cle.ticks + 1)
     ({ s2 with boot := { s2.boot with sampled := s2.boot.sampled || s.slotsDue ≠ [] } }, s.slotsDue)) := rfl

theorem State.divTraced_of_idle {s : State} (h : s.tracesIdle) (n : Nat) : s.divTraced n = s :=
  State.traceTakes_of_idle h _ fun _ hb => List.mem_range.1 (List.mem_filter.1 hb).1

theorem execCleTick_off {s : State} (h : s.cleRuns = false) : execCleTick s = .next s := if_pos (by simp [h])

/-- A tick at which no holder can be asked for control. -/
theorem execCleTick_of {s : State} (hruns : s.cleRuns = true) (h : s.cleTick.1.rowState ≠ 3 ∨ s.cleTick.2 = []) :
    execCleTick s = .next s.cleTick.1 := by
  have hmay : ((s.cleTick.1.rowState = rwHold && s.cleTick.1.flag F.ROW_STAT_HB_OK && s.cleTick.1.peerFlag 5) &&
      s.cleTick.2.any fun k => (s.cleTick.1.reg .ROW_SLOTS 0).getLsbD k) = false := by
    rcases h with h | h
    · rw [decide_eq_false h]; simp
    · rw [h]; simp
  unfold execCleTick
  rw [if_neg (by simp [hruns])]
  extract_lets t may
  rw [show may = false from hmay]
  rfl

theorem execCleTick_disabled {s : State} (hruns : s.cleRuns = true) (hen : s.flag F.CLE_CTL_EN = false) (hidle : s.tracesIdle) :
    execCleTick s = .next { s with cle := { s.cle with ticks := s.cle.ticks + 1 } } := by
  have hdue : s.slotsDue = [] := List.filter_eq_nil_iff.2 fun k _ => by simp [hen]
  have htick : s.cleTick = (s.tickCounted, []) := by
    have hidle' : s.tickCounted.tracesIdle := hidle
    rw [State.cleTick_eq, hdue, List.foldl_nil, State.divTraced_of_idle hidle']
    show (({ s.tickCounted with boot := { s.tickCounted.boot with sampled := s.tickCounted.boot.sampled || false } } : State), ([] : List Nat)) = _
    rw [Bool.or_false]
  have hexec := execCleTick_of hruns (.inr (by rw [htick]))
  rw [htick] at hexec
  exact hexec

/-- One slot is due. -/
theorem State.slotsDue_single {s : State} {k : Fin 32} (hen : s.flag F.CLE_CTL_EN = true) (hon : ∀ j, j < 32 → (s.slotOn j = true ↔ j = k.val))
    (hmin : 1 ≤ s.rd F.CLE_SLOT_CFG_PERIOD k) (hmax : s.rd F.CLE_SLOT_CFG_PERIOD k ≤ 200000)
    (hdue : (s.cle.ticks + 1) % s.rd F.CLE_SLOT_CFG_PERIOD k = 0) : s.slotsDue = [k.val] := by
  have hfilter : s.slotsDue = (List.range 32).filter fun j => j = k.val := by
    refine List.filter_congr fun j hj => ?_
    by_cases hjk : j = k.val
    · subst hjk
      simp [hen, (hon k k.isLt).2 rfl, hmin, hmax, hdue]
    · have hoff : s.slotOn j = false := by
        rw [← Bool.not_eq_true]
        exact fun h => hjk ((hon j (List.mem_range.1 hj)).1 h)
      simp [hoff, hjk]
  have hpick : ∀ k : Fin 32, ((List.range 32).filter fun j => j = k.val) = [k.val] := by decide
  exact hfilter.trans (hpick k)

/-- After a slot's sample: the buffers stay idle, so nothing more happens at the tick. -/
theorem execCleTick_single {s u : State} {k : Fin 32} (hruns : s.cleRuns = true) (hdue : s.slotsDue = [k.val]) (hsample : s.tickCounted.sample k = u)
    (hidle : u.tracesIdle) (hrow : u.rowState ≠ 3) : execCleTick s = .next { u with boot := { u.boot with sampled := true } } := by
  have htraced : s.tickCounted.sampleTraced k = u := by
    unfold State.sampleTraced
    rw [hsample]
    exact State.traceTakes_of_idle hidle _ fun _ hb => List.mem_range.1 (List.mem_filter.1 hb).1
  have htick : s.cleTick = ({ u with boot := { u.boot with sampled := true } }, [k.val]) := by
    rw [State.cleTick_eq, hdue, List.foldl_cons, List.foldl_nil, htraced, State.divTraced_of_idle hidle]
    show (({ u with boot := { u.boot with sampled := u.boot.sampled || true } } : State), [k.val]) = _
    rw [Bool.or_true]
  have hexec := execCleTick_of hruns (.inl (by rw [htick]; exact hrow))
  rw [htick] at hexec
  exact hexec

theorem State.tickCounted_regs (s : State) : s.tickCounted.regs = s.regs := rfl

theorem State.source_tickCounted (s : State) (c : Nat) : s.tickCounted.source c = s.source c := rfl

/-- What one slot's tick may have changed. -/
theorem sampled_onlyLogs {s u : State} (h : SampleFrame s.tickCounted u) :
    OnlyLogs sampleRegs { s with cle := u.cle, cio := u.cio, free := u.free, boot := { s.boot with sampled := true } }
      { u with boot := { u.boot with sampled := true } } :=
  ⟨h.1, congrArg (fun v : State => { v with cle := u.cle, cio := u.cio, free := u.free, boot := { v.boot with sampled := true } }) h.2⟩

theorem lost_onlyLogs {s u : State} (h : LostFrame s.tickCounted u) :
    OnlyLogs sampleRegs { s with cle := u.cle, cio := u.cio, boot := { s.boot with sampled := true } }
      { u with boot := { u.boot with sampled := true } } :=
  ⟨h.1, congrArg (fun v : State => { v with cle := u.cle, cio := u.cio, boot := { v.boot with sampled := true } }) h.2⟩

theorem State.tracesIdle_of {s t : State} (h : s.tracesIdle) (hregs : ∀ r i, r ∉ sampleRegs ++ recRegs → t.reg r i = s.reg r i) : t.tracesIdle := by
  intro b hb
  have hrd : t.rd F.CLE_TRC_STAT_STATE b = s.rd F.CLE_TRC_STAT_STATE b := State.rd_congr (hregs _ _ (by decide))
  rw [hrd]
  exact h b hb

theorem execCleTick_runs {k : Fin 32} {raw : Rat} {s : State} (hruns : s.cleRuns = true) (hen : s.flag F.CLE_CTL_EN = true)
    (hon : ∀ j, j < 32 → (s.slotOn j = true ↔ j = k.val)) (hmin : 1 ≤ s.rd F.CLE_SLOT_CFG_PERIOD k) (hmax : s.rd F.CLE_SLOT_CFG_PERIOD k ≤ 200000)
    (hdue : (s.cle.ticks + 1) % s.rd F.CLE_SLOT_CFG_PERIOD k = 0) (hidle : s.tracesIdle) (hstate : s.rowState ≠ 3)
    (hrole : s.rd F.CLE_SLOT_CFG_ROLE k ≠ 1) (hgroup : s.flag F.CLE_SLOT_CFG_GRPEN k = false) (hdst : s.dst k = 0)
    (hrow : (s.reg .ROW_SLOTS 0).getLsbD k = false) (hfault : (s.reg .CLE_SLOT_FAULT 0).getLsbD k = false)
    (hlimit : s.cw .CLE_SLOT_W_FE_LIM k = 0) (hsource : s.source (s.rd F.CLE_SLOT_IO_SRC k) = some raw) :
    ∃ t, execCleTick s = .next t ∧
    (t.slot k).uc ≤ s.cw .CLE_SLOT_W_UMAX k ∧ (s.cw .CLE_SLOT_W_UMIN k ≤ s.cw .CLE_SLOT_W_UMAX k → s.cw .CLE_SLOT_W_UMIN k ≤ (t.slot k).uc) ∧
    t.reg .CLE_SLOT_U k = cwOf (t.slot k).uc ∧ t.reg .CLE_SLOT_Y k = cwOf ((t.slot k).y.getD 0) ∧ t.flag F.CLE_SLOT_STAT_RUN k = true ∧
    t.flag F.CLE_SLOT_STAT_INVALID k = false ∧ t.cle.ticks = s.cle.ticks + 1 ∧
    OnlyLogs sampleRegs { s with cle := t.cle, cio := t.cio, free := t.free, boot := { s.boot with sampled := true } } t := by
  have hrole' : s.tickCounted.rd F.CLE_SLOT_CFG_ROLE k ≠ 1 := hrole
  have hsample := State.sample_eq hrole'
  rw [show s.tickCounted.source (s.tickCounted.rd F.CLE_SLOT_IO_SRC k) = some raw from hsource] at hsample
  obtain ⟨v, hran⟩ := State.sampleRun_ran (s := s.tickCounted) (k := k) raw hgroup hdst hrow hfault hlimit
  change s.tickCounted.sample k = (s.tickCounted.sampleRun k raw).sampleShown k at hsample
  generalize s.tickCounted.sampleRun k raw = w at hran hsample
  obtain ⟨hu, hy, hcle, hshown⟩ := State.sampleShown_effect (s := w) (k := k) ((hran.frame.flag _ (by decide) k).trans hgroup)
    ((hran.frame.rd F.CLE_SLOT_IO_DST (by decide) k).trans hdst)
  have hframe : SampleFrame s.tickCounted (w.sampleShown k) :=
    hran.frame.trans ((Frame.forget (k := State.sampleless) (fun _ => rfl) hshown).mono (by decide))
  have huc : ((w.sampleShown k).slot k).uc = min (max v (s.cw .CLE_SLOT_W_UMIN k)) (s.cw .CLE_SLOT_W_UMAX k) :=
    (congrArg Slot.uc (State.slot_congr hcle k)).trans hran.out
  have hstat : (w.sampleShown k).reg .CLE_SLOT_STAT k = w.reg .CLE_SLOT_STAT k := hshown.1 _ _ (by decide)
  rw [← State.slot_congr hcle] at hu hy
  generalize w.sampleShown k = x at hsample hu hy hcle hshown hframe huc hstat
  have hexec := execCleTick_single hruns (State.slotsDue_single hen hon hmin hmax hdue) hsample
    (State.tracesIdle_of (s := s.tickCounted) hidle hframe.1)
    (by rw [show x.rowState = s.rowState from hframe.rd F.ROW_STAT_STATE (by decide) 0]; exact hstate)
  obtain ⟨hinvalid, hrun⟩ := State.statFlags_congr hstat
  refine ⟨_, hexec, ?_, fun hle => ?_, hu, hy, hrun.trans hran.run, hinvalid.trans hran.valid, (congrArg (fun u : State => u.cle.ticks) hframe.2 :), sampled_onlyLogs (u := x) hframe⟩
  · show (x.slot k).uc ≤ _
    rw [huc]; exact min_le_right _ _
  · show _ ≤ (x.slot k).uc
    rw [huc]; exact le_min (le_max_right _ _) hle

theorem execCleTick_lost {k : Fin 32} {s : State} (hruns : s.cleRuns = true) (hen : s.flag F.CLE_CTL_EN = true)
    (hon : ∀ j, j < 32 → (s.slotOn j = true ↔ j = k.val)) (hmin : 1 ≤ s.rd F.CLE_SLOT_CFG_PERIOD k) (hmax : s.rd F.CLE_SLOT_CFG_PERIOD k ≤ 200000)
    (hdue : (s.cle.ticks + 1) % s.rd F.CLE_SLOT_CFG_PERIOD k = 0) (hidle : s.tracesIdle) (hstate : s.rowState ≠ 3)
    (hrole : s.rd F.CLE_SLOT_CFG_ROLE k ≠ 1) (hgroup : s.flag F.CLE_SLOT_CFG_GRPEN k = false) (hdst : s.dst k = 0)
    (hsource : s.source (s.rd F.CLE_SLOT_IO_SRC k) = none) :
    ∃ t, execCleTick s = .next t ∧
    (t.slot k).uc = (if s.rd F.CLE_SLOT_CFG_FACT k = 2 then s.cw .CLE_SLOT_W_SAFE k else (s.slot k).uc) ∧ (t.slot k).lost = true ∧
    t.flag F.CLE_SLOT_STAT_INVALID k = true ∧ t.flag F.CLE_SLOT_STAT_RUN k = false ∧
    ((s.slot k).lost = false → t.flag F.CLE_CAUSE_INPUT_LOST = true) ∧
    OnlyLogs sampleRegs { s with cle := t.cle, cio := t.cio, boot := { s.boot with sampled := true } } t := by
  have hrole' : s.tickCounted.rd F.CLE_SLOT_CFG_ROLE k ≠ 1 := hrole
  have hsample := State.sample_eq hrole'
  rw [show s.tickCounted.source (s.tickCounted.rd F.CLE_SLOT_IO_SRC k) = none from hsource] at hsample
  obtain ⟨huc, hlost, hinvalid, hrun, htold, hframe⟩ := State.sampleLost_effect (s := s.tickCounted) (k := k) hgroup hdst
  change s.tickCounted.sample k = (s.tickCounted.sampleLost k).sampleShown k at hsample
  generalize s.tickCounted.sampleLost k = w at huc hlost hinvalid hrun htold hframe hsample
  obtain ⟨-, -, hcle, hshown⟩ := State.sampleShown_effect (s := w) (k := k) ((hframe.flag _ (by decide) k).trans hgroup)
    ((hframe.rd F.CLE_SLOT_IO_DST (by decide) k).trans hdst)
  have hall : LostFrame s.tickCounted (w.sampleShown k) := hframe.trans (hshown.mono (by decide))
  have hslot := State.slot_congr hcle k
  have hcause : (w.sampleShown k).flag F.CLE_CAUSE_INPUT_LOST = w.flag F.CLE_CAUSE_INPUT_LOST := hshown.flag _ (by decide) 0
  have hstat : (w.sampleShown k).reg .CLE_SLOT_STAT k = w.reg .CLE_SLOT_STAT k := hshown.1 _ _ (by decide)
  generalize w.sampleShown k = x at hsample hcle hshown hall hslot hcause hstat
  have hexec := execCleTick_single hruns (State.slotsDue_single hen hon hmin hmax hdue) hsample
    (State.tracesIdle_of (s := s.tickCounted) hidle hall.1)
    (by rw [show x.rowState = s.rowState from hall.rd F.ROW_STAT_STATE (by decide) 0]; exact hstate)
  obtain ⟨hinvalid', hrun'⟩ := State.statFlags_congr hstat
  exact ⟨_, hexec, (congrArg Slot.uc hslot).trans huc, (congrArg Slot.lost hslot).trans hlost, hinvalid'.trans hinvalid, hrun'.trans hrun,
    fun h => hcause.trans (htold h), lost_onlyLogs (u := x) hall⟩

/-! ### A fault's clearing (R295) -/

/-- The registers that decide what forces a destination. -/
def forceRegs : List Reg := [.CIO_LEAK_CTL, .CIO_AO_CFG, .CIO_LEAK_STAT, .CFG_TRAY, .CIO_STAT, .CIO_PWM_STAT, .ROW_STAT, .ROW_PUMP, .ROW_PUMP_CFG, .CLN_TXMAP]

theorem State.forceAt_congr {rs : List Reg} {s t : State} (h : OnlyRegs rs s t) (hr : ∀ r ∈ forceRegs, r ∉ rs) (d : Nat) : t.forceAt d = s.forceAt d := by
  have hrd : ∀ (f : Fld) (i : Nat), f.reg ∈ forceRegs → t.rd f i = s.rd f i := fun f i hf => h.1.rd (hr _ hf) i
  have hflag : ∀ (f : Fld) (i : Nat), f.reg ∈ forceRegs → t.flag f i = s.flag f i := fun f i hf => h.1.flag (hr _ hf) i
  have hboot : t.boot = s.boot := (congrArg State.boot h.2 :)
  have hcio : t.cio = s.cio := (congrArg State.cio h.2 :)
  have hrow : t.row = s.row := (congrArg State.row h.2 :)
  have hclarn : t.clarn = s.clarn := (congrArg State.clarn h.2 :)
  have hvalve : t.valveDst = s.valveDst := by rw [State.valveDst, State.valveDst, hrd _ _ (by decide)]
  have hforce : t.valveForce = s.valveForce := by
    simp only [State.valveForce, State.valveShut, State.valveOpen, hrd F.CIO_LEAK_CTL_VALVE 0 (by decide), hrd F.CFG_TRAY_MINFLOW 0 (by decide),
      hflag F.CIO_LEAK_STAT_VCLOSED 0 (by decide), hflag F.CIO_AO_CFG_REV _ (by decide), hflag F.CIO_STAT_HB_FAULT 0 (by decide),
      hflag F.CIO_LEAK_STAT_LATCH 0 (by decide), hboot, hcio]
  have hin : ∀ p, t.pumpsIn p = s.pumpsIn p := fun p => by
    simp only [State.pumpsIn, State.pumpSt, hflag F.ROW_PUMP_FITTED _ (by decide), hrd F.ROW_PUMP_STATE _ (by decide)]
    rfl
  have hfull : t.pumpFull = s.pumpFull := by
    simp only [State.pumpFull, State.nduty, hin, hrd F.ROW_STAT_STATE 0 (by decide), hrd F.ROW_PUMP_CFG_NDUTY 0 (by decide), hrow]
    rfl
  have htx : ∀ v, t.txPump v = s.txPump v := fun v => by
    simp only [State.txPump, State.txNames, State.inForce, hflag F.ROW_PUMP_FITTED _ (by decide), hrd F.ROW_PUMP_NODE _ (by decide), hclarn,
      h.1 .CLN_TXMAP _ (hr _ (by decide))]
    rfl
  simp only [State.forceAt, hvalve, hforce, hfull, htx, hflag F.CIO_PWM_STAT_FULL _ (by decide), hrd F.CIO_PWM_STAT_STATE _ (by decide),
    hrd F.CIO_PWM_STAT_DUTY _ (by decide)]

theorem State.applied_congr {rs : List Reg} {s t : State} (h : OnlyRegs rs s t) (hr : ∀ r ∈ forceRegs, r ∉ rs) (hio : .CLE_SLOT_IO ∉ rs)
    (hcfg : .CLE_SLOT_CFG ∉ rs) (k : Nat) : t.applied k = s.applied k := by
  have hdst : t.dst k = s.dst k := h.1.rd hio k
  have hgroup : t.flag F.CLE_SLOT_CFG_GRPEN k = s.flag F.CLE_SLOT_CFG_GRPEN k := h.1.flag hcfg k
  have hcle : t.cle = s.cle := (congrArg State.cle h.2 :)
  simp only [State.applied, hdst, hgroup, State.forceAt_congr h hr, State.slot_congr hcle, State.act, hcle]

/-- A fault's bit and count are cleared. -/
def State.faultCleared (s : State) (k : Nat) : State :=
  ((s.setReg .CLE_SLOT_FAULT 0 (s.reg .CLE_SLOT_FAULT 0 &&& ~~~(BitVec.ofNat 32 (2 ^ k)))).stat k F.CLE_SLOT_STAT_FAULT false).wr F.CLE_SLOT_STAT_FE_COUNT k 0

theorem State.faultCleared_effect (s : State) (k : Nat) :
    (s.faultCleared k).reg .CLE_SLOT_FAULT 0 = s.reg .CLE_SLOT_FAULT 0 &&& ~~~(BitVec.ofNat 32 (2 ^ k)) ∧
    (s.faultCleared k).flag F.CLE_SLOT_STAT_FAULT k = false ∧ (s.faultCleared k).rd F.CLE_SLOT_STAT_FE_COUNT k = 0 ∧
    OnlyRegs [.CLE_SLOT_FAULT, .CLE_SLOT_STAT] s (s.faultCleared k) := by
  refine ⟨?_, ?_, State.rd_wr_same _ _ _ _ (by decide),
    (((OnlyRegs.refl _ s).setReg _ _ (by decide)).wr _ _ _ (by decide)).wr _ _ _ (by decide)⟩
  · exact (State.reg_wr_ne _ _ _ _ _ _ (by decide)).trans ((State.reg_wr_ne _ _ _ _ _ _ (by decide)).trans
      ((State.reg_setReg _ _ _ _ _ _).trans (if_pos ⟨rfl, rfl⟩)))
  · exact (State.flag_wr_ne _ _ _ _ _ _ (.inr (by decide))).trans (State.flag_wr_same _ _ _ _ (by decide))

/-- Slot `k` starts bumplessly from what is applied. -/
def State.faultRestart (s : State) (k : Nat) : State :=
  (s.faultCleared k).modSlot k fun x => { x with match_ := some ((s.faultCleared k).applied k), start := true }

/-- Whether a slot's fault may be cleared. -/
def State.faultClears (s : State) (k : Nat) : Bool :=
  (s.reg .CLE_SLOT_FAULT 0).getLsbD k && decide (|(s.slot k).e| ≤ s.cw .CLE_SLOT_W_FE_LIM k) && (s.source (s.rd F.CLE_SLOT_IO_SRC k)).isSome

theorem execSlotFaultClear_single (k : Fin 32) (s : State) :
    execSlotFaultClear (BitVec.ofNat 32 (2 ^ k.val)) s = .next (if s.faultClears k then s.faultRestart k else s) := by
  have hbit : ∀ k : Fin 32, ∀ j < 32, (BitVec.ofNat 32 (2 ^ k.val)).getLsbD j = decide (j = k.val) := by decide
  have hlist : ((List.range 32).filter fun j => (BitVec.ofNat 32 (2 ^ k.val)).getLsbD j && (s.reg .CLE_SLOT_FAULT 0).getLsbD j &&
      decide (|(s.slot j).e| ≤ s.cw .CLE_SLOT_W_FE_LIM j) && (s.source (s.rd F.CLE_SLOT_IO_SRC j)).isSome) = if s.faultClears k then [k.val] else [] := by
    have hpick : ∀ k : Fin 32, ((List.range 32).filter fun j => j = k.val) = [k.val] := by decide
    have hand : ((List.range 32).filter fun j => (BitVec.ofNat 32 (2 ^ k.val)).getLsbD j && (s.reg .CLE_SLOT_FAULT 0).getLsbD j &&
        decide (|(s.slot j).e| ≤ s.cw .CLE_SLOT_W_FE_LIM j) && (s.source (s.rd F.CLE_SLOT_IO_SRC j)).isSome) =
        (List.range 32).filter fun j => decide (j = k.val) && s.faultClears k := by
      refine List.filter_congr fun j hj => ?_
      rw [hbit k j (List.mem_range.1 hj)]
      by_cases hjk : j = k.val
      · subst hjk; simp [State.faultClears]
      · simp [hjk]
    rw [hand]
    cases s.faultClears k with
    | true => simpa using hpick k
    | false => simp
  unfold execSlotFaultClear
  rw [hlist]
  cases s.faultClears k <;> rfl

theorem execSlotFaultClear_effect {k : Fin 32} {s : State} (hfault : (s.reg .CLE_SLOT_FAULT 0).getLsbD k = true)
    (herror : |(s.slot k).e| ≤ s.cw .CLE_SLOT_W_FE_LIM k) (hsource : (s.source (s.rd F.CLE_SLOT_IO_SRC k)).isSome = true) :
    ∃ t, execSlotFaultClear (BitVec.ofNat 32 (2 ^ k.val)) s = .next t ∧
    t.reg .CLE_SLOT_FAULT 0 = s.reg .CLE_SLOT_FAULT 0 &&& ~~~(BitVec.ofNat 32 (2 ^ k.val)) ∧ t.flag F.CLE_SLOT_STAT_FAULT k = false ∧
    t.rd F.CLE_SLOT_STAT_FE_COUNT k = 0 ∧ (t.slot k).start = true ∧ (t.slot k).match_ = some (s.applied k) ∧
    OnlyRegs [.CLE_SLOT_FAULT, .CLE_SLOT_STAT] { s with cle := t.cle } t := by
  have hclears : s.faultClears k = true := by simp [State.faultClears, hfault, herror, hsource]
  have hexec := execSlotFaultClear_single k s
  rw [if_pos hclears, State.faultRestart] at hexec
  obtain ⟨hreg, hflag, hcount, hset⟩ := s.faultCleared_effect k
  have happlied := State.applied_congr hset (by decide) (by decide) (by decide) k
  generalize s.faultCleared k = u at hexec hreg hflag hcount hset happlied
  have hregs : (u.modSlot k fun x => { x with match_ := some (u.applied k), start := true }).regs = u.regs := State.regs_modSlot u _ _
  refine ⟨_, hexec, (State.reg_congr_regs hregs _ _).trans hreg, (State.flag_congr_regs hregs _ _).trans hflag,
    (State.rd_congr_regs hregs _ _).trans hcount, ?_, ?_, ((Frame.of_onlyRegs (fun _ => rfl) hset).trans (u.modSlot_frame k _ _)).onlyRegs_cle⟩
  · rw [State.slot_modSlot_same]
  · rw [State.slot_modSlot_same, happlied]

theorem execSlotFaultClear_none {k : Fin 32} {s : State} (h : (s.reg .CLE_SLOT_FAULT 0).getLsbD k = false ∨
    s.cw .CLE_SLOT_W_FE_LIM k < |(s.slot k).e| ∨ s.source (s.rd F.CLE_SLOT_IO_SRC k) = none) :
    execSlotFaultClear (BitVec.ofNat 32 (2 ^ k.val)) s = .next s := by
  have hclears : s.faultClears k = false := by
    rcases h with h | h | h
    · rw [State.faultClears, h]; rfl
    · simp [State.faultClears, h]
    · simp [State.faultClears, h]
  rw [execSlotFaultClear_single, hclears]
  rfl

/-- Settles O42: the tick by whether the engine runs and a slot is due, the limits of a slot's output, the loss of its input, and the
clearing of its fault. -/
theorem controlSlotsComputeAtTheirTicks : Obligations.ControlSlotsComputeAtTheirTicks := by
  unfold Obligations.ControlSlotsComputeAtTheirTicks
  exact ⟨fun s => execCleTick_off, fun s => execCleTick_disabled, fun k raw s => execCleTick_runs, fun k s => execCleTick_lost,
    fun k s => execSlotFaultClear_effect, fun k s => execSlotFaultClear_none⟩

end Sys2Proof.Machine
end

section
/-! PROOFS.  Power states: what links, ports and outputs leave of votes and of the power state, requests, entries and wakes (R411 to R420). -/

namespace Sys2Proof.Machine

/-! ### What leaves votes and the power state -/

/-- Registers that the power state, the votes and the sleep of the stacks show in. -/
def powerRegs : List Reg := [.PWR_PS_STAT, .PWR_VOTE, .ETH_PART_STATE, .ETH_RING_CTL, .ETH_RING_PI, .ETH_RING_CI, .MEM_STATE]

/-- The registers above, the bookkeeping of transitions and the rings of the commands in flight are as they were. -/
structure PowerKept (s t : State) : Prop where
  regs : ∀ r ∈ powerRegs, ∀ i, t.reg r i = s.reg r i
  ps : t.ps = s.ps
  rings : t.cmds.map Cmd.ring = s.cmds.map Cmd.ring

theorem Cmd.ring_note (c : Cmd) (status origin : Nat) : (c.note status origin).ring = c.ring := by
  unfold Cmd.note
  split <;> rfl

section Kept
variable {s t u v : State}

theorem PowerKept.refl (s : State) : PowerKept s s := ⟨fun _ _ _ => rfl, rfl, rfl⟩

theorem PowerKept.ite {c : Prop} [Decidable c] (hu : PowerKept s u) (hv : PowerKept s v) : PowerKept s (if c then u else v) := by
  split
  · exact hu
  · exact hv

theorem PowerKept.rd (h : PowerKept s t) {f : Fld} (hf : f.reg ∈ powerRegs) (i : Nat) : t.rd f i = s.rd f i := State.rd_congr (h.regs _ hf i)

theorem PowerKept.flag (h : PowerKept s t) {f : Fld} (hf : f.reg ∈ powerRegs) (i : Nat) : t.flag f i = s.flag f i :=
  State.flag_congr (h.regs _ hf i)

variable (h : PowerKept s u)
include h

theorem PowerKept.trans (h' : PowerKept u t) : PowerKept s t :=
  ⟨fun r hr i => (h'.regs r hr i).trans (h.regs r hr i), h'.ps.trans h.ps, h'.rings.trans h.rings⟩

theorem PowerKept.foldl {α : Type} {f : State → α → State} (l : List α) (hf : ∀ v x, PowerKept s v → PowerKept s (f v x)) :
    PowerKept s (l.foldl f u) :=
  List.foldlRecOn l f h fun v hv x _ => hf v x hv

/-- A change of other fields. -/
theorem PowerKept.other (hr : v.regs = u.regs) (hp : v.ps = u.ps) (hc : v.cmds = u.cmds) : PowerKept s v :=
  h.trans ⟨fun _ _ _ => State.reg_congr_regs hr _ _, hp, congrArg (List.map Cmd.ring) hc⟩

/-- A change of commands that leaves their rings. -/
theorem PowerKept.mapCmds (f : Cmd → Cmd) (hf : ∀ c, (f c).ring = c.ring) : PowerKept s { u with cmds := u.cmds.map f } :=
  h.trans ⟨fun _ _ _ => rfl, rfl, by rw [List.map_map]; exact List.map_congr_left fun c _ => hf c⟩

theorem PowerKept.frame {k : State → State} {rs : List Reg} (hf : Frame k rs u v) (hrs : ∀ r ∈ powerRegs, r ∉ rs)
    (hps : ∀ x : State, (k x).ps = x.ps) (hcmds : ∀ x : State, (k x).cmds = x.cmds) : PowerKept s v :=
  h.trans ⟨fun r hr i => hf.1 r i (hrs r hr), by rw [← hps v, hf.2, hps], by rw [← hcmds v, hf.2, hcmds]⟩

theorem PowerKept.logs {rs : List Reg} (hl : OnlyLogs rs u v) (hrs : ∀ r ∈ powerRegs, r ∉ rs ++ recRegs) : PowerKept s v :=
  h.trans ⟨fun r hr i => hl.1 r i (hrs r hr), (congrArg State.ps hl.2 :), (congrArg (fun x : State => x.cmds.map Cmd.ring) hl.2 :)⟩

theorem PowerKept.wr {f : Fld} (i w : Nat) (hf : f.reg ∉ powerRegs) : PowerKept s (u.wr f i w) :=
  h.trans ⟨fun _ hq _ => State.reg_wr_ne _ _ _ _ _ _ (ne_of_mem_of_not_mem hq hf), rfl, rfl⟩

theorem PowerKept.raise {f : Fld} (i sev : Nat) (d : List Word) (m : Nat) (hf : ∀ r ∈ powerRegs, r ∉ f.reg :: recRegs) :
    PowerKept s (u.raise f i sev d m) :=
  h.logs ((OnlyLogs.refl [f.reg] u).raise f i sev d m (List.mem_singleton_self _)) hf

theorem PowerKept.modLink (j : Nat) (f : Link → Link) : PowerKept s (u.modLink j f) := h.other rfl rfl rfl

theorem PowerKept.setTx (n : Nat) (f : TxFlow) : PowerKept s (u.setTx n f) := h.other rfl rfl rfl

theorem PowerKept.modPort (p : Nat) (f : EthPort → EthPort) : PowerKept s (u.modPort p f) := h.other rfl rfl rfl

theorem PowerKept.emit (e : Emit) : PowerKept s (u.emit e) := h.other rfl rfl rfl

/-! ### Descriptors end (R111, R198) -/

theorem PowerKept.note (n status origin : Nat) : PowerKept s (u.modRun n fun c => c.note status origin) :=
  h.mapCmds _ fun c => by
    split
    · exact c.ring_note _ _
    · rfl

theorem PowerKept.tokStopped (q : Nat) : PowerKept s (u.tokStopped q) := by
  unfold State.tokStopped
  cases u.partOf q with
  | none => exact h
  | some n => exact (h.note n _ _).other rfl rfl rfl

theorem PowerKept.tokAdd (k n : Nat) : PowerKept s (u.tokAdd k n).1 := by
  have hadd : PowerKept s (u.tokAdded k n) := h.other rfl rfl rfl
  rcases Nat.lt_or_ge 65535 (u.tokCount k + n) with hover | hfits
  · rw [State.tokAdd_of_overflow hover]
    cases u.tokHolder k with
    | none => exact hadd
    | some q => exact (hadd.raise _ _ _ _ (by decide)).tokStopped q
  · rw [State.tokAdd_of_fits hfits]
    exact hadd

theorem PowerKept.bobSignal (p : Nat) (d : BobDesc) : PowerKept s (u.bobSignal p d) := by
  unfold State.bobSignal
  split
  · split
    · exact h.tokAdd _ _
    · exact h
  · exact h

theorem PowerKept.endDesc (d : DescRun) : PowerKept s (u.endDesc d) := by
  have herase : PowerKept s { u with fab := { u.fab with descs := u.fab.descs.erase d } } := h.other rfl rfl rfl
  unfold State.endDesc
  refine .ite ?_ (PowerKept.bobSignal (.ite herase (herase.note _ _ _)) _ _)
  exact (herase.mapCmds (fun c => if c.put.elem d.id then { c.note d.status d.origin with put := c.put.erase d.id } else c)
    fun c => by
      split
      · exact c.ring_note _ _
      · rfl).other rfl rfl rfl

theorem PowerKept.tryEnd (id : Nat) : PowerKept s (u.tryEnd id) := by
  unfold State.tryEnd
  split
  · exact .ite (h.endDesc _) h
  · exact h

theorem PowerKept.failDesc (desc : Option Nat) (status origin : Nat) : PowerKept s (u.failDesc desc status origin) := by
  cases desc with
  | none => exact h
  | some id => exact h.other rfl rfl rfl

theorem PowerKept.settle (desc : Option Nat) (n : Nat) : PowerKept s (u.settle desc n) := by
  cases desc with
  | none => exact h
  | some id => exact h.other rfl rfl rfl

theorem PowerKept.forget (k : Nat) (x : Unacked) : PowerKept s (u.forget k x) := by
  unfold State.forget
  extract_lets fab s1 flow s2
  have h2 : PowerKept s s2 := (PowerKept.other (v := s1) h rfl rfl rfl).setTx _ _
  split
  · exact (h2.settle _ _).tryEnd _
  · exact h2

theorem PowerKept.pathless (p : Packet) : PowerKept s (u.pathless p) := by
  unfold State.pathless
  extract_lets k
  split
  · exact h
  · exact ((h.raise _ _ _ _ (by decide)).failDesc _ _ _).forget _ _

/-! ### Links (R175 to R178) -/

theorem PowerKept.enqueue (j : Nat) (p : Packet) (e : Bool) : PowerKept s (u.enqueue j p e) := by
  have hfab := u.enqueue_onlyFab j p e
  exact h.other (congrArg State.regs hfab :) (congrArg State.ps hfab :) (congrArg State.cmds hfab :)

theorem PowerKept.resendHeld (l : List Packet) : PowerKept s (u.resendHeld l) := by
  refine h.foldl _ fun v p hv => ?_
  extract_lets q own
  split
  · exact PowerKept.enqueue (.ite (hv.wr _ _ (by decide)) hv) _ _ _
  · exact .ite (hv.pathless _) (PowerKept.raise (hv.wr _ _ (by decide)) _ _ _ _ (by decide))

theorem PowerKept.regs_of {rs : List Reg} (ho : OnlyRegs rs u v) (hrs : ∀ r ∈ powerRegs, r ∉ rs) : PowerKept s v :=
  h.trans ⟨fun r hr i => ho.1 r i (hrs r hr), (congrArg State.ps ho.2 :), (congrArg (fun x : State => x.cmds.map Cmd.ring) ho.2 :)⟩

theorem PowerKept.setLanes (p : Nat) (l : List Nat) (st : Nat) : PowerKept s (u.setLanes p l st) :=
  h.regs_of (u.setLanes_onlyRegs p l st) (by decide)

theorem PowerKept.portStat (p : Nat) : PowerKept s (u.portStat p) := h.regs_of (u.portStat_onlyRegs p) (by decide)

theorem PowerKept.clearLink (j st : Nat) : PowerKept s (u.clearLink j st) :=
  ((h.modLink j _).regs_of (u.unlinked_onlyRegs j st) (by decide)).regs_of (u.clearLink_onlyRegs j st) (by decide)

theorem PowerKept.linkStop (j st : Nat) : PowerKept s (u.linkStop j st) := (h.clearLink j st).resendHeld _

theorem PowerKept.ctrlNow (j : Nat) (m : CtrlMsg) : PowerKept s (u.ctrlNow j m) :=
  .ite (h.modLink _ _) ((h.modLink _ _).emit _)

theorem PowerKept.sendDown (j : Nat) (b : Bool) : PowerKept s (u.sendDown j b) := .ite h (h.ctrlNow _ _)

theorem PowerKept.train (j : Nat) : PowerKept s (u.train j) := by
  obtain ⟨use, dis, f, htrain⟩ := u.train_eq j
  rw [htrain]
  exact ((((h.setLanes _ _ _).setLanes _ _ _).wr _ _ (by decide)).wr _ _ (by decide)).modLink _ _

theorem PowerKept.widenPort (p : Nat) : PowerKept s (u.widenPort p) := (h.setLanes _ _ _).foldl _ fun _ _ hv => hv.train _

theorem PowerKept.widenAll : PowerKept s u.widenAll :=
  h.foldl _ fun _ _ hv => .ite ((hv.ctrlNow _ _).widenPort _) (hv.foldl _ fun _ _ hw => hw.train _)

theorem PowerKept.narrowPort (p : Nat) : PowerKept s (u.narrowPort p) := by
  unfold State.narrowPort
  extract_lets s1
  have h1 : PowerKept s s1 := h.foldl _ fun _ _ hv => hv.linkStop _ _
  clear_value s1
  split
  · split
    · extract_lets s2 s3
      have h2 : PowerKept s s2 := (h1.setLanes _ _ _).wr _ _ (by decide)
      exact PowerKept.portStat (PowerKept.wr (.ite (h2.wr _ _ (by decide)) h2) _ _ (by decide)) _
    · exact h1
  · exact h1

theorem PowerKept.narrowAll : PowerKept s u.narrowAll := by
  refine h.foldl _ fun v p hv => ?_
  extract_lets on
  refine .ite ((hv.foldl _ fun _ _ hw => hw.ctrlNow _ _).narrowPort _) (hv.foldl _ fun w k hw => ?_)
  exact PowerKept.linkStop (.ite (hw.sendDown _ _) hw) _ _

/-! ### Ports (R217, R234) -/

theorem PowerKept.ethDown (p : Nat) : PowerKept s (u.ethDown p) := by
  by_cases hadm : u.adm p = 0
  · rw [State.ethDown, if_pos hadm]; exact h
  · have hports := State.ethDown_portLogs hadm
    exact (h.other (v := { u with ports := (u.ethDown p).ports }) rfl rfl rfl).logs hports (by decide)

theorem PowerKept.ethStandby : PowerKept s u.ethStandby := (PowerKept.ite h (h.ethDown 0)).ethDown 1

/-! ### Outputs (R309, R320) -/

theorem PowerKept.setVperi (on : Bool) : PowerKept s (u.setVperi on) :=
  h.frame (u.setVperi_frame on) (by decide) (fun _ => rfl) (fun _ => rfl)

theorem PowerKept.restartEngine : PowerKept s u.restartEngine :=
  h.frame u.restartEngine_frame (by decide) (fun _ => rfl) (fun _ => rfl)

end Kept

end Sys2Proof.Machine
end

section
/-! PROOFS.  Requests, votes, entries and wakes complete with their effect (R411 to R420). -/

namespace Sys2Proof.Machine

/-! ### Votes (R411) -/

/-- The registers that votes are looked up in. -/
def voteRegs : List Reg := [.PWR_VOTE, .ETH_PART_STATE, .ETH_RING_CTL, .ETH_RING_PI, .ETH_RING_CI]

theorem State.ringsBusy_congr {s t : State} (hregs : ∀ r ∈ voteRegs, ∀ i, t.reg r i = s.reg r i)
    (hrings : t.cmds.map Cmd.ring = s.cmds.map Cmd.ring) (n : Nat) : t.ringsBusy n = s.ringsBusy n := by
  have hcmds : ∀ u : State, (u.cmds.any fun c => c.ring / 4 = n) = (u.cmds.map Cmd.ring).any fun r => decide (r / 4 = n) :=
    fun u => by rw [List.any_map]; rfl
  have hen : ∀ i, t.flag F.ETH_RING_CTL_EN i = s.flag F.ETH_RING_CTL_EN i := fun i => State.flag_congr (hregs _ (by decide) i)
  have hpi : ∀ i, t.rd F.ETH_RING_PI_COUNT i = s.rd F.ETH_RING_PI_COUNT i := fun i => State.rd_congr (hregs _ (by decide) i)
  have hci : ∀ i, t.rd F.ETH_RING_CI_COUNT i = s.rd F.ETH_RING_CI_COUNT i := fun i => State.rd_congr (hregs _ (by decide) i)
  simp only [State.ringsBusy, hcmds, hrings, hen, hpi, hci]

theorem State.votes_congr {s t : State} (hregs : ∀ r ∈ voteRegs, ∀ i, t.reg r i = s.reg r i)
    (hrings : t.cmds.map Cmd.ring = s.cmds.map Cmd.ring) : t.votes = s.votes := by
  have hstate : ∀ n, t.pstate n = s.pstate n := fun n => State.rd_congr (hregs _ (by decide) n)
  have hhold : t.rd F.PWR_VOTE_HOLD = s.rd F.PWR_VOTE_HOLD := State.rd_congr (hregs _ (by decide) 0)
  have hfor : t.votesFor = s.votesFor := funext fun n => by
    simp only [State.votesFor, hstate, hhold, State.ringsBusy_congr hregs hrings]
  rw [State.votes, State.votes, hfor]

theorem PowerKept.votes {s t : State} (h : PowerKept s t) : t.votes = s.votes :=
  State.votes_congr (fun r hr => h.regs r ((by decide : voteRegs ⊆ powerRegs) hr)) h.rings

theorem OnlyLogs.votes {rs : List Reg} {s t : State} (h : OnlyLogs rs s t) (hrs : ∀ r ∈ voteRegs, r ∉ rs ++ recRegs) : t.votes = s.votes :=
  State.votes_congr (fun r hr i => h.1 r i (hrs r hr)) (congrArg (fun x : State => x.cmds.map Cmd.ring) h.2 :)

/-- A held vote is a vote. -/
theorem State.votes_of_hold {s : State} {n : Nat} (hn : n < 16) (h : (s.rd F.PWR_VOTE_HOLD).testBit n = true) : s.votes.testBit n = true := by
  rw [State.votes, testBit_packBits, List.getElem?_map, List.getElem?_range hn]
  simp [State.votesFor, h]

/-! ### Requests (R412, R417) -/

theorem State.dropPend_none {s : State} (h : s.flag F.PWR_PS_STAT_PEND = false) : s.dropPend = s := if_neg (by simp [h])

theorem State.psArrive_none {s : State} (h : s.flag F.PWR_PS_STAT_PEND = false) : s.psArrive = s := if_neg (by simp [h])

theorem State.voteCheck_none {s : State} (hvotes : s.votes = 0) (h : s.flag F.PWR_PS_STAT_PEND = false) : s.voteCheck = s := by
  unfold State.voteCheck
  extract_lets st
  rw [if_neg (not_not.2 hvotes)]
  exact State.psArrive_none h

theorem State.writePsReq_go (s : State) {w : Word} {n : Nat} (htarget : fieldOf w F.PWR_PS_REQ_TARGET = n) (hn : n < 4)
    (hgo : fieldOf w F.PWR_PS_REQ_GO = 1) : s.writePsReq w = (s.wr F.PWR_PS_REQ_TARGET 0 n).psRequest n := by
  unfold State.writePsReq
  rw [htarget, if_pos hgo, State.rd_wr_same _ _ _ _ (by decide)]
  exact congrArg _ (Nat.mod_eq_of_lt hn)

/-- A request with none pending. -/
theorem State.psRequest_now {s : State} (h : s.psState < psEntering) (n : Nat) : s.psRequest n = s.requestNow n := if_pos h

/-- The module with the target of a request. -/
def State.targeted (s : State) (n : Nat) : State := s.wr F.PWR_PS_REQ_TARGET 0 n

theorem State.targeted_onlyRegs (s : State) (n : Nat) : OnlyRegs [.PWR_PS_REQ] s (s.targeted n) := (OnlyRegs.refl _ s).wr _ _ _ (by decide)

/-- What a request looks at is as it was before its target was written. -/
theorem State.targeted_same (s : State) (n : Nat) : (s.targeted n).psState = s.psState ∧
    (s.targeted n).flag F.PWR_PS_STAT_PEND = s.flag F.PWR_PS_STAT_PEND ∧ (s.targeted n).votes = s.votes :=
  ⟨(s.targeted_onlyRegs n).1.rd (by decide) 0, (s.targeted_onlyRegs n).1.flag (by decide) 0, (s.targeted_onlyRegs n).onlyLogs.votes (by decide)⟩

theorem exec_reqRun (s : State) : exec .reqRun s = .next ((s.targeted 0).psRequest 0) := by
  rw [show exec .reqRun s = .next (s.writePsReq 0x80000000) from rfl, s.writePsReq_go (n := 0) (by decide) (by decide) (by decide)]
  rfl

theorem exec_reqTrim (s : State) : exec .reqTrim s = .next ((s.targeted 1).psRequest 1) := by
  rw [show exec .reqTrim s = .next (s.writePsReq 0x80000001) from rfl, s.writePsReq_go (n := 1) (by decide) (by decide) (by decide)]
  rfl

theorem exec_reqStandby (s : State) : exec .reqStandby s = .next ((s.targeted 2).psRequest 2) := by
  rw [show exec .reqStandby s = .next (s.writePsReq 0x80000002) from rfl, s.writePsReq_go (n := 2) (by decide) (by decide) (by decide)]
  rfl

theorem exec_reqFreewheel (s : State) : exec .reqFreewheel s = .next ((s.targeted 3).psRequest 3) := by
  rw [show exec .reqFreewheel s = .next (s.writePsReq 0x80000003) from rfl, s.writePsReq_go (n := 3) (by decide) (by decide) (by decide)]
  rfl

/-! ### Run and Trim are reached (R413) -/

theorem State.psSet_effect (s : State) {n : Nat} (hn : n < 4) : (s.psSet n).psState = n ∧ (s.psSet n).psTgt = n ∧
    (s.psSet n).flag F.PWR_PS_STAT_PEND = s.flag F.PWR_PS_STAT_PEND ∧ OnlyRegs [.PWR_PS_STAT] s (s.psSet n) := by
  refine ⟨?_, ?_, ?_, ((OnlyRegs.refl _ s).wr _ _ _ (by decide)).wr _ _ _ (by decide)⟩
  · exact (State.rd_wr_ne _ _ _ _ _ _ (by decide)).trans ((State.rd_wr_same _ _ _ _ (by decide)).trans (Nat.mod_eq_of_lt (Nat.lt_of_lt_of_le hn (by decide))))
  · exact (State.rd_wr_same _ _ _ _ (by decide)).trans (Nat.mod_eq_of_lt hn)
  · exact (State.flag_wr_ne _ _ _ _ _ _ (by decide)).trans (State.flag_wr_ne _ _ _ _ _ _ (by decide))

theorem State.psSet_ps (s : State) (n : Nat) : (s.psSet n).ps = s.ps := rfl

/-- The module in state `n` with nothing shown awake. -/
def State.arrived (s : State) (n : Nat) : State := ((s.psSet n).wr F.PWR_PS_STAT_STACKS_AWAKE 0 0).wr F.PWR_PS_STAT_CORE_AWAKE 0 0

theorem State.arrived_effect (s : State) {n : Nat} (hn : n < 4) : (s.arrived n).psState = n ∧ (s.arrived n).psTgt = n ∧
    (s.arrived n).flag F.PWR_PS_STAT_PEND = s.flag F.PWR_PS_STAT_PEND ∧ OnlyRegs [.PWR_PS_STAT] s (s.arrived n) := by
  obtain ⟨hstate, htgt, hpend, hset⟩ := s.psSet_effect hn
  unfold State.arrived
  generalize s.psSet n = u at hstate htgt hpend hset ⊢
  refine ⟨?_, ?_, ?_, (hset.wr _ _ _ (by decide)).wr _ _ _ (by decide)⟩
  · exact (State.rd_wr_ne _ _ _ _ _ _ (by decide)).trans ((State.rd_wr_ne _ _ _ _ _ _ (by decide)).trans hstate)
  · exact (State.rd_wr_ne _ _ _ _ _ _ (by decide)).trans ((State.rd_wr_ne _ _ _ _ _ _ (by decide)).trans htgt)
  · exact (State.flag_wr_ne _ _ _ _ _ _ (by decide)).trans ((State.flag_wr_ne _ _ _ _ _ _ (by decide)).trans hpend)

theorem OnlyRegs.ps_eq {rs : List Reg} {s t : State} (h : OnlyRegs rs s t) : t.ps = s.ps := (congrArg State.ps h.2 :)

theorem State.ungateAll_onlyRegs (s : State) : OnlyRegs [.CLU_STATE] s s.ungateAll :=
  (OnlyRegs.refl _ s).foldl _ fun _ _ hv => hv.wr _ _ _ (by decide)

theorem State.ungateAll_ungated (s : State) {p : Nat} (hp : p < 68) : s.ungateAll.flag F.CLU_STATE_GATED p = false := by
  refine foldl_of_mem (fun v : State => v.flag F.CLU_STATE_GATED p = false) _ (fun v n hv => ?_) (fun v => ?_) _ _ (List.mem_range.2 hp)
  · by_cases hpn : p = n
    · subst hpn; exact State.flag_wr_zero _ _ _ (by decide)
    · rw [State.flag_wr_idx _ _ _ _ _ _ hpn]; exact hv
  · exact State.flag_wr_zero _ _ _ (by decide)

/-- The bookkeeping of transitions in Run or Trim. -/
def State.ranPs (s : State) (n : Nat) : State := { s with ps := { ran := n, abort := 0, wake := false, t0 := s.ps.t0 } }

theorem State.psRunning_run (s : State) : s.psRunning psRun = ((s.ranPs psRun).arrived psRun).ungateAll := rfl

theorem State.psRunning_ungated (s : State) {p : Nat} (hp : p < 68) : (s.psRunning psRun).flag F.CLU_STATE_GATED p = false := by
  rw [State.psRunning_run]
  exact State.ungateAll_ungated _ hp

theorem State.psRunning_trim (s : State) : s.psRunning psTrim = (s.ranPs psTrim).arrived psTrim := rfl

theorem State.psRunning_effect (s : State) {n : Nat} (hn : n ≤ psTrim) : (s.psRunning n).psState = n ∧ (s.psRunning n).psTgt = n ∧
    (s.psRunning n).flag F.PWR_PS_STAT_PEND = s.flag F.PWR_PS_STAT_PEND ∧ (s.psRunning n).ps.ran = n ∧
    OnlyRegs [.PWR_PS_STAT, .CLU_STATE] (s.ranPs n) (s.psRunning n) := by
  obtain ⟨hstate, htgt, hpend, hset⟩ := (s.ranPs n).arrived_effect (lt_of_le_of_lt hn (by decide))
  have hps : ((s.ranPs n).arrived n).ps.ran = n := rfl
  rcases Nat.le_one_iff_eq_zero_or_eq_one.1 hn with rfl | rfl
  · rw [State.psRunning_run]
    generalize (s.ranPs psRun).arrived psRun = u at hstate htgt hpend hset hps ⊢
    have hgate := u.ungateAll_onlyRegs
    exact ⟨(hgate.1.rd (by decide) 0).trans hstate, (hgate.1.rd (by decide) 0).trans htgt, (hgate.1.flag (by decide) 0).trans hpend,
      (congrArg Ps.ran hgate.ps_eq).trans hps, (hset.mono (by decide)).trans (hgate.mono (by decide))⟩
  · rw [State.psRunning_trim]
    exact ⟨hstate, htgt, hpend, hps, hset.mono (by decide)⟩

/-! ### Requests from a state (R411, R412) -/

theorem State.requestNow_running {s : State} {n : Nat} (hn : n ≤ psTrim) (hstate : s.psState ≤ psTrim) (hne : n ≠ s.psState)
    (hpend : s.flag F.PWR_PS_STAT_PEND = false) : s.psRequest n = s.psRunning n := by
  rw [State.psRequest_now (lt_of_le_of_lt hstate (by decide))]
  unfold State.requestNow
  extract_lets st
  rw [if_neg hne, if_pos hn, if_pos hstate, State.dropPend_none hpend]

theorem State.requestNow_wakes {s : State} {n : Nat} (hn : n ≤ psTrim) (hstate : s.psState = psStandby)
    (hpend : s.flag F.PWR_PS_STAT_PEND = false) : s.psRequest n = s.wakeStandby n := by
  rw [State.psRequest_now (by rw [hstate]; decide)]
  unfold State.requestNow
  extract_lets st
  have hne : n ≠ s.psState := fun e => absurd (e ▸ hn) (by rw [hstate]; decide)
  rw [if_neg hne, if_pos hn, if_neg (by rw [show st = psStandby from hstate]; decide), if_pos hstate, State.dropPend_none hpend]

theorem State.putPend_none {s : State} (hpend : s.flag F.PWR_PS_STAT_PEND = false) (n : Nat) :
    s.putPend n = (s.wr F.PWR_PS_STAT_PEND 0 1).wr F.PWR_PS_STAT_PEND_TGT 0 n := by
  unfold State.putPend
  rw [if_neg (by simp [hpend]), State.dropPend_none hpend]

/-- A request for Standby from Run or Trim waits for the votes. -/
theorem State.requestNow_standby {s u : State} (hstate : s.psState ≤ psTrim)
    (hu : (if s.votes ≠ 0 then s.putPend psStandby else s.dropPend.enterStandby) = u) : s.psRequest psStandby = u := by
  have hne : ¬ psStandby = s.psState := fun e => absurd (e ▸ hstate) (by decide)
  have hfw : ¬ (psStandby = psStandby ∧ s.psState = psFreewheel) := fun e => absurd (e.2 ▸ hstate) (by decide)
  rw [State.psRequest_now (lt_of_le_of_lt hstate (by decide))]
  unfold State.requestNow
  extract_lets st
  rw [if_neg hne, if_neg (by decide), if_neg hfw, if_neg (Ne.symm hne), if_neg (by decide : ¬ psStandby = psFreewheel)]
  exact hu

theorem State.requestNow_freewheel {s : State} (hstate : s.psState = psStandby) (hvotes : s.votes = 0)
    (hpend : s.flag F.PWR_PS_STAT_PEND = false) : s.psRequest psFreewheel = s.enterFreewheel := by
  rw [State.psRequest_now (by rw [hstate]; decide)]
  unfold State.requestNow
  extract_lets st
  have hne : ¬ psFreewheel = st := by rw [show st = psStandby from hstate]; decide
  rw [if_neg hne, if_neg (by decide), if_neg (fun e => absurd e.1 (by decide)), if_neg (not_not.2 hvotes), if_pos hstate,
    State.dropPend_none hpend]

theorem reqTrim_effect {s : State} (hstate : s.psState = psRun) (hpend : s.flag F.PWR_PS_STAT_PEND = false) :
    ∃ t, exec .reqTrim s = .next t ∧ t.psState = psTrim ∧
    OnlyRegs [.PWR_PS_REQ, .PWR_PS_STAT] { s with ps := { ran := psTrim, abort := 0, wake := false, t0 := s.ps.t0 } } t := by
  obtain ⟨hst, hpd, -⟩ := s.targeted_same psTrim
  have hnow : (s.targeted psTrim).psRequest psTrim = (s.targeted psTrim).psRunning psTrim :=
    State.requestNow_running (by decide) (by rw [hst, hstate]; decide) (by rw [hst, hstate]; decide) (hpd.trans hpend)
  obtain ⟨hrun, -, -, hset⟩ := ((s.targeted psTrim).ranPs psTrim).arrived_effect (n := psTrim) (by decide)
  refine ⟨_, (exec_reqTrim s).trans (congrArg _ hnow), hrun, ?_⟩
  exact (((OnlyRegs.refl _ (s.ranPs psTrim)).wr F.PWR_PS_REQ_TARGET 0 1 (by decide) :
    OnlyRegs _ (s.ranPs psTrim) ((s.targeted psTrim).ranPs psTrim))).trans (hset.mono (by decide))

theorem reqRun_effect {s : State} (hstate : s.psState = psTrim) (hpend : s.flag F.PWR_PS_STAT_PEND = false) :
    ∃ t, exec .reqRun s = .next t ∧ t.psState = psRun ∧ (∀ p < 68, t.flag F.CLU_STATE_GATED p = false) ∧
    OnlyRegs [.PWR_PS_REQ, .PWR_PS_STAT, .CLU_STATE] { s with ps := { ran := psRun, abort := 0, wake := false, t0 := s.ps.t0 } } t := by
  obtain ⟨hst, hpd, -⟩ := s.targeted_same psRun
  have hnow : (s.targeted psRun).psRequest psRun = (s.targeted psRun).psRunning psRun :=
    State.requestNow_running (by decide) (hst.trans hstate).le (by rw [hst, hstate]; decide) (hpd.trans hpend)
  obtain ⟨hrun, -, -, -, hset⟩ := (s.targeted psRun).psRunning_effect (n := psRun) (by decide)
  refine ⟨_, (exec_reqRun s).trans (congrArg _ hnow), hrun, fun p hp => State.psRunning_ungated _ hp, ?_⟩
  exact (((OnlyRegs.refl _ (s.ranPs psRun)).wr F.PWR_PS_REQ_TARGET 0 0 (by decide) :
    OnlyRegs _ (s.ranPs psRun) ((s.targeted psRun).ranPs psRun))).trans (hset.mono (by decide))

/-! ### Wakes and entries begin (R414 to R416) -/

theorem State.wakeStandby_effect (s : State) {n : Nat} (hn : n ≤ psTrim) : (s.wakeStandby n).psTgt = n ∧ (s.wakeStandby n).ps.ran = n := by
  unfold State.wakeStandby
  have hkept := PowerKept.widenAll (PowerKept.refl
    ((({ s with ps := { s.ps with ran := n, abort := 0 } }).wr F.PWR_PS_STAT_STATE 0 psWaking).wr F.PWR_PS_STAT_TGT 0 n))
  extract_lets _ s1
  change PowerKept _ s1 at hkept
  clear_value s1
  split
  · obtain ⟨-, htgt, -, hran, -⟩ := s1.psRunning_effect hn
    refine ⟨(State.rd_raise_other (g := F.PWR_PS_STAT_TGT) _ _ _ _ (by decide) (by decide)).trans htgt, ?_⟩
    rw [State.raise_eq]
    exact hran
  · refine ⟨?_, (congrArg Ps.ran hkept.ps :)⟩
    exact (hkept.rd (by decide) 0).trans ((State.rd_wr_same _ _ _ _ (by decide)).trans
      (Nat.mod_eq_of_lt (lt_of_le_of_lt hn (by decide))))

theorem reqRun_wakes {s : State} (hstate : s.psState = psStandby) (hpend : s.flag F.PWR_PS_STAT_PEND = false) :
    ∃ t, exec .reqRun s = .next t ∧ t.psTgt = psRun ∧ t.ps.ran = psRun := by
  obtain ⟨hst, hpd, -⟩ := s.targeted_same psRun
  have hnow : (s.targeted psRun).psRequest psRun = (s.targeted psRun).wakeStandby psRun :=
    State.requestNow_wakes (by decide) (hst.trans hstate) (hpd.trans hpend)
  exact ⟨_, (exec_reqRun s).trans (congrArg _ hnow), State.wakeStandby_effect _ (by decide)⟩

theorem State.enterStandby_effect (s : State) : s.enterStandby.psState = psEntering ∧ s.enterStandby.psTgt = psStandby ∧
    s.enterStandby.rd F.PWR_PS_STAT_POINT = 1 ∧ OnlyRegs [.PWR_PS_STAT] (s.ranPs s.psState) s.enterStandby := by
  refine ⟨?_, ?_, State.rd_wr_same _ _ _ _ (by decide), (((OnlyRegs.refl _ (s.ranPs s.psState)).wr _ _ _ (by decide)).wr _ _ _ (by decide)).wr _ _ _ (by decide)⟩
  · exact (State.rd_wr_ne _ _ _ _ _ _ (by decide)).trans ((State.rd_wr_ne _ _ _ _ _ _ (by decide)).trans (State.rd_wr_same _ _ _ _ (by decide)))
  · exact (State.rd_wr_ne _ _ _ _ _ _ (by decide)).trans (State.rd_wr_same _ _ _ _ (by decide))

theorem State.psRequest_standby {s : State} (hstate : s.psState ≤ psTrim) (hvotes : s.votes = 0) (hpend : s.flag F.PWR_PS_STAT_PEND = false) :
    s.psRequest psStandby = s.enterStandby := by
  refine State.requestNow_standby hstate ?_
  rw [if_neg (not_not.2 hvotes), State.dropPend_none hpend]

theorem reqStandby_enters {s : State} (hstate : s.psState ≤ psTrim) (hvotes : s.votes = 0) (hpend : s.flag F.PWR_PS_STAT_PEND = false) :
    ∃ t, exec .reqStandby s = .next t ∧ t.psState = psEntering ∧ t.psTgt = psStandby ∧ t.rd F.PWR_PS_STAT_POINT = 1 ∧
    OnlyRegs [.PWR_PS_REQ, .PWR_PS_STAT] { s with ps := { ran := s.psState, abort := 0, wake := false, t0 := s.ps.t0 } } t := by
  obtain ⟨hst, hpd, hv⟩ := s.targeted_same psStandby
  have hnow := State.psRequest_standby (hst ▸ hstate) (hv.trans hvotes) (hpd.trans hpend)
  obtain ⟨hentering, htgt, hpoint, hset⟩ := (s.targeted psStandby).enterStandby_effect
  rw [hst] at hset
  refine ⟨_, (exec_reqStandby s).trans (congrArg _ hnow), hentering, htgt, hpoint, ?_⟩
  exact (((OnlyRegs.refl _ (s.ranPs s.psState)).wr F.PWR_PS_REQ_TARGET 0 2 (by decide) :
    OnlyRegs _ (s.ranPs s.psState) ((s.targeted psStandby).ranPs s.psState))).trans (hset.mono (by decide))

theorem autoStandbyIdle_enters {s : State} (hauto : s.flag F.PWR_PS_CFG_AUTO = true) (hvotes : s.votes = 0) (hstate : s.psState ≤ psTrim)
    (hpend : s.flag F.PWR_PS_STAT_PEND = false) : ∃ t, exec .autoStandbyIdle s = .next t ∧ t.psState = psEntering ∧ t.psTgt = psStandby ∧
    OnlyRegs [.PWR_PS_STAT] { s with ps := { ran := s.psState, abort := 0, wake := false, t0 := s.ps.t0 } } t := by
  obtain ⟨hentering, htgt, -, hset⟩ := s.enterStandby_effect
  have hexec : exec .autoStandbyIdle s = .next (s.psRequest psStandby) := if_pos ⟨hauto, hvotes, hstate⟩
  exact ⟨_, hexec.trans (congrArg _ (State.psRequest_standby hstate hvotes hpend)), hentering, htgt, hset⟩

theorem reqStandby_waits {s : State} (hstate : s.psState ≤ psTrim) (hvotes : s.votes ≠ 0) (hpend : s.flag F.PWR_PS_STAT_PEND = false) :
    ∃ t, exec .reqStandby s = .next t ∧ t.psState = s.psState ∧ t.flag F.PWR_PS_STAT_PEND = true ∧
    t.rd F.PWR_PS_STAT_PEND_TGT = psStandby ∧ OnlyRegs [.PWR_PS_REQ, .PWR_PS_STAT] s t := by
  obtain ⟨hst, hpd, hv⟩ := s.targeted_same psStandby
  have htargeted := s.targeted_onlyRegs psStandby
  have hexec := exec_reqStandby s
  generalize hu : s.targeted psStandby = u at *
  have hstate' : u.psState ≤ psTrim := hst ▸ hstate
  have hpend' := hpd.trans hpend
  have hnow : u.psRequest psStandby = (u.wr F.PWR_PS_STAT_PEND 0 1).wr F.PWR_PS_STAT_PEND_TGT 0 psStandby := by
    refine State.requestNow_standby hstate' ?_
    rw [if_pos (by rw [hv]; exact hvotes)]
    exact State.putPend_none hpend' _
  refine ⟨_, hexec.trans (congrArg _ hnow), ?_, ?_, State.rd_wr_same _ _ _ _ (by decide), ?_⟩
  · exact (State.rd_wr_ne _ _ _ _ _ _ (by decide)).trans ((State.rd_wr_ne _ _ _ _ _ _ (by decide)).trans hst)
  · exact (State.flag_wr_ne _ _ _ _ _ _ (by decide)).trans (State.flag_wr_one _ _ _ (by decide))
  · exact ((htargeted.mono (by decide)).wr _ _ _ (by decide)).wr _ _ _ (by decide)

theorem reqFreewheel_enters {s : State} (hstate : s.psState = psStandby) (hvotes : s.votes = 0) (hpend : s.flag F.PWR_PS_STAT_PEND = false) :
    ∃ t, exec .reqFreewheel s = .next t ∧ t.psState = psEntering ∧ t.psTgt = psFreewheel ∧ t.rd F.PWR_PS_STAT_POINT = 4 ∧
    t.rd F.PWR_HS_STAT_WAITING = 0xFF ∧ t.evr.flushDue = true := by
  obtain ⟨hst, hpd, hv⟩ := s.targeted_same psFreewheel
  have hexec := exec_reqFreewheel s
  generalize s.targeted psFreewheel = u at hexec hst hpd hv
  have hnow : u.psRequest psFreewheel = u.enterFreewheel :=
    State.requestNow_freewheel (hst.trans hstate) (hv.trans hvotes) (hpd.trans hpend)
  refine ⟨_, hexec.trans (congrArg _ hnow), ?_⟩
  unfold State.enterFreewheel
  generalize ({ u with ps := { u.ps with abort := 0, wake := false } } : State) = w
  have hflush : ∀ x : State, OnlyLogs [] x x.requestFlush ∧ x.requestFlush.evr.flushDue = true := fun x =>
    ⟨(OnlyLogs.refl [] x).requestFlush, rfl⟩
  have hwait : (((w.wr F.PWR_PS_STAT_STATE 0 psEntering).wr F.PWR_PS_STAT_TGT 0 psFreewheel).wr F.PWR_PS_STAT_POINT 0 4).psState = psEntering ∧
      (((w.wr F.PWR_PS_STAT_STATE 0 psEntering).wr F.PWR_PS_STAT_TGT 0 psFreewheel).wr F.PWR_PS_STAT_POINT 0 4).psTgt = psFreewheel ∧
      (((w.wr F.PWR_PS_STAT_STATE 0 psEntering).wr F.PWR_PS_STAT_TGT 0 psFreewheel).wr F.PWR_PS_STAT_POINT 0 4).rd F.PWR_PS_STAT_POINT = 4 :=
    ⟨(State.rd_wr_ne _ _ _ _ _ _ (by decide)).trans ((State.rd_wr_ne _ _ _ _ _ _ (by decide)).trans (State.rd_wr_same _ _ _ _ (by decide))),
      (State.rd_wr_ne _ _ _ _ _ _ (by decide)).trans (State.rd_wr_same _ _ _ _ (by decide)), State.rd_wr_same _ _ _ _ (by decide)⟩
  generalize ((w.wr F.PWR_PS_STAT_STATE 0 psEntering).wr F.PWR_PS_STAT_TGT 0 psFreewheel).wr F.PWR_PS_STAT_POINT 0 4 = x at hwait ⊢
  obtain ⟨hentering, htgt, hpoint⟩ := hwait
  obtain ⟨hlogs, hdue⟩ := hflush (x.wr F.PWR_HS_STAT_WAITING 0 0xFF)
  have hps : ∀ f : Fld, f.reg = .PWR_PS_STAT → (x.wr F.PWR_HS_STAT_WAITING 0 0xFF).requestFlush.rd f = x.rd f := fun f hf =>
    (hlogs.1.rd (by rw [hf]; decide) 0).trans (State.rd_wr_ne _ _ _ _ _ _ (.inl (by rw [hf]; decide)))
  exact ⟨(hps _ rfl).trans hentering, (hps _ rfl).trans htgt, (hps _ rfl).trans hpoint,
    (hlogs.1.rd (by decide) 0).trans (State.rd_wr_same _ _ _ _ (by decide)), hdue⟩

theorem pwrVoteWrite_effect (m : BitVec 16) {s : State} (hstate : s.psState ≤ psTrim) (hpend : s.flag F.PWR_PS_STAT_PEND = false) :
    ∃ t, exec (.pwrVoteWrite m) s = .next t ∧ t.rd F.PWR_VOTE_HOLD = m.toNat ∧
    (∀ n < 16, m.getLsbD n = true → t.votes.testBit n = true) ∧ OnlyRegs [.PWR_VOTE] s t := by
  have hset : OnlyRegs [.PWR_VOTE] s (s.wr F.PWR_VOTE_HOLD 0 m.toNat) := (OnlyRegs.refl _ s).wr _ _ _ (by decide)
  have hhold : (s.wr F.PWR_VOTE_HOLD 0 m.toNat).rd F.PWR_VOTE_HOLD = m.toNat :=
    (State.rd_wr_same _ _ _ _ (by decide)).trans (Nat.mod_eq_of_lt m.isLt)
  have hexec : exec (.pwrVoteWrite m) s = .next (s.wr F.PWR_VOTE_HOLD 0 m.toNat).voteCheck := rfl
  generalize s.wr F.PWR_VOTE_HOLD 0 m.toNat = u at hset hhold hexec
  have hst : u.psState = s.psState := hset.1.rd (by decide) 0
  have hpd : u.flag F.PWR_PS_STAT_PEND = false := (hset.1.flag (by decide) 0).trans hpend
  have hcheck : u.voteCheck = u := by
    by_cases hv : u.votes = 0
    · exact State.voteCheck_none hv hpd
    · have h (n : Nat) (hn : psTrim < n) : ¬ u.psState = n := fun e => absurd (hst ▸ hstate) (by rw [e]; exact not_le.2 hn)
      unfold State.voteCheck
      extract_lets st
      rw [if_pos hv, if_neg (h _ (by decide)), if_neg (h _ (by decide)), if_neg (h _ (by decide))]
  refine ⟨u, hexec.trans (congrArg _ hcheck), hhold, fun n hn hm => State.votes_of_hold hn ?_, hset⟩
  rw [hhold]
  exact hm

end Sys2Proof.Machine
end

section
/-! PROOFS.  Standby and Freewheel are reached, given up and left (R414 to R420). -/

namespace Sys2Proof.Machine

/-! ### What goes to sleep (R408, R410) -/

/-- Every ready stack goes into self-refresh. -/
def State.stacksSleep (s : State) : State := (List.range 8).foldl (fun (s : State) (k : Nat) => s.stackSleep k) s

theorem State.stackSleep_onlyRegs (s : State) (k : Nat) : OnlyRegs [.MEM_STATE] s (s.stackSleep k) :=
  .ite ((OnlyRegs.refl _ s).wr _ _ _ (by decide)) (.refl _ s)

theorem State.stackSleep_ready {s : State} {k : Nat} (h : s.rd F.MEM_STATE_STATE k = stReady) : (s.stackSleep k).rd F.MEM_STATE_STATE k = 3 := by
  rw [State.stackSleep, if_pos h]
  exact State.rd_wr_same _ _ _ _ (by decide)

theorem State.stackSleep_ne (s : State) {j k : Nat} (h : j ≠ k) : (s.stackSleep k).rd F.MEM_STATE_STATE j = s.rd F.MEM_STATE_STATE j := by
  unfold State.stackSleep
  split
  · exact State.rd_wr_idx _ _ _ _ _ _ h
  · rfl

/-- A stack that sleeps stays asleep. -/
theorem State.stackSleep_asleep {s : State} {k : Nat} (j : Nat) (h : s.rd F.MEM_STATE_STATE k = 3) :
    (s.stackSleep j).rd F.MEM_STATE_STATE k = 3 := by
  by_cases hjk : k = j
  · subst hjk
    rw [State.stackSleep, if_neg (by rw [h]; decide)]
    exact h
  · rw [State.stackSleep_ne _ hjk]; exact h

theorem State.stacksSleep_onlyRegs (s : State) : OnlyRegs [.MEM_STATE] s s.stacksSleep :=
  (OnlyRegs.refl _ s).foldl _ fun v k hv => hv.trans (v.stackSleep_onlyRegs k)

theorem State.stacksSleep_ready {s : State} {k : Nat} (hk : k < 8) (h : s.rd F.MEM_STATE_STATE k = stReady) :
    s.stacksSleep.rd F.MEM_STATE_STATE k = 3 := by
  refine foldl_of_mem_of (fun v : State => v.rd F.MEM_STATE_STATE k = stReady ∨ v.rd F.MEM_STATE_STATE k = 3)
    (fun v : State => v.rd F.MEM_STATE_STATE k = 3) (x := k) (fun v j hv => ?_) (fun v hv => ?_)
    (fun v j _ hv => State.stackSleep_asleep j hv) _ _ (List.mem_range.2 hk) (.inl h)
  · by_cases hjk : k = j
    · subst hjk
      exact .inr (hv.elim State.stackSleep_ready (State.stackSleep_asleep k))
    · rw [State.stackSleep_ne _ hjk]; exact hv
  · exact hv.elim State.stackSleep_ready (State.stackSleep_asleep k)

theorem State.coreSleep_on {s : State} (h : s.pwr.vcore = true) : s.coreSleep.pwr.retention = true ∧
    s.coreSleep.rd F.PWR_GEAR_STAT_DUTY = 0 ∧ OnlyRegs [.PWR_GEAR_STAT, .PWR_CADENCE] { s with pwr := s.coreSleep.pwr } s.coreSleep := by
  unfold State.coreSleep
  rw [if_pos h]
  refine ⟨rfl, ?_, ?_⟩
  · exact (State.rd_wr_ne _ _ _ _ _ _ (.inl (by decide))).trans ((State.rd_wr_ne _ _ _ _ _ _ (.inl (by decide))).trans
      (State.rd_wr_same _ _ _ _ (by decide)))
  · exact (((((((OnlyRegs.refl _ _).wr _ _ _ (by decide)).wr _ _ _ (by decide)).wr _ _ _ (by decide)).wr _ _ _ (by decide)).wr _ _ _
      (by decide)).wr _ _ _ (by decide)).wr _ _ _ (by decide)

theorem PowerKept.coreSleep {s u : State} (h : PowerKept s u) : PowerKept s u.coreSleep := by
  by_cases hcore : u.pwr.vcore = true
  · obtain ⟨-, -, hset⟩ := State.coreSleep_on hcore
    exact (h.other (v := { u with pwr := u.coreSleep.pwr }) rfl rfl rfl).regs_of hset (by decide)
  · rw [State.coreSleep, if_neg hcore]; exact h

/-! ### A state is entered (R414, R421) -/

/-- The module in state `n`, with ENTERED raised. -/
def State.entered (s : State) (n : Nat) : State := (s.arrived n).raise F.PWR_PS_CAUSE_ENTERED

/-- A cause of the power states is raised: it stands, and what registers show the state, requests and stacks is left. -/
theorem State.raisePs_effect (s : State) {f : Fld} (hf : f.reg = .PWR_PS_CAUSE ∧ f.lo ≤ f.hi ∧ f.hi < 32) (sev : Nat) (d : List Word) :
    (s.raise f 0 sev d).flag f = true ∧ OnlyLogs [.PWR_PS_CAUSE] s (s.raise f 0 sev d) :=
  ⟨State.flag_raise_same _ _ _ _ _ _ ⟨by rw [hf.1]; decide, hf.2⟩, (OnlyLogs.refl _ s).raise f 0 sev d _ (by rw [hf.1]; decide)⟩

theorem State.entered_effect (s : State) {n : Nat} (hn : n < 4) : (s.entered n).psState = n ∧
    (s.entered n).flag F.PWR_PS_STAT_PEND = s.flag F.PWR_PS_STAT_PEND ∧ (s.entered n).flag F.PWR_PS_CAUSE_ENTERED = true ∧
    OnlyLogs [.PWR_PS_STAT, .PWR_PS_CAUSE] s (s.entered n) := by
  obtain ⟨hstate, -, hpend, hset⟩ := s.arrived_effect hn
  obtain ⟨hraised, hlogs⟩ := (s.arrived n).raisePs_effect (f := F.PWR_PS_CAUSE_ENTERED) (by decide) 0 []
  change (s.entered n).flag _ = true at hraised
  change OnlyLogs _ _ (s.entered n) at hlogs
  exact ⟨(hlogs.1.rd (by decide) 0).trans hstate, (hlogs.1.flag (by decide) 0).trans hpend, hraised,
    (hset.onlyLogs.mono (by decide)).trans (hlogs.mono (by decide))⟩

theorem OnlyLogs.ps_eq {rs : List Reg} {s t : State} (h : OnlyLogs rs s t) : t.ps = s.ps := (congrArg State.ps h.2 :)

/-- What is asleep once Standby is reached. -/
def State.standbyAsleep (s : State) : State := s.stacksSleep.narrowAll.ethStandby

theorem State.standby_eq (s : State) : s.standby =
    if (s.standbyAsleep.entered psStandby).ps.abort = 2 then
      ({ s.standbyAsleep.entered psStandby with ps := { (s.standbyAsleep.entered psStandby).ps with abort := 0 } }).requestNow
        (s.standbyAsleep.entered psStandby).ps.ran
    else if (s.standbyAsleep.entered psStandby).ps.abort = 1 ∧ (s.standbyAsleep.entered psStandby).flag F.PWR_PS_STAT_PEND then
      ((s.standbyAsleep.entered psStandby).wr F.PWR_PS_STAT_PEND 0 0).psAborted 4
    else ({ s.standbyAsleep.entered psStandby with ps := { (s.standbyAsleep.entered psStandby).ps with abort := 0 } }).psArrive.voteCheck := rfl

theorem State.standbyAsleep_kept (s : State) : PowerKept s.stacksSleep s.standbyAsleep := (PowerKept.refl _).narrowAll.ethStandby

/-- The votes after stacks went to sleep and power states changed. -/
theorem State.votes_after {s t u : State} (hsleep : OnlyRegs [.MEM_STATE] s u) (hkept : PowerKept u t) : t.votes = s.votes :=
  hkept.votes.trans (hsleep.onlyLogs.votes (by decide))

theorem entryStepComplete_standby {s : State} (hstate : s.psState = psEntering) (hpoint : s.rd F.PWR_PS_STAT_POINT = 3) (habort : s.ps.abort = 0)
    (hpend : s.flag F.PWR_PS_STAT_PEND = false) (hvotes : s.votes = 0) :
    ∃ t, exec .entryStepComplete s = .next t ∧ t.psState = psStandby ∧
    (∀ k < 8, s.rd F.MEM_STATE_STATE k = stReady → t.rd F.MEM_STATE_STATE k = 3) ∧ t.flag F.PWR_PS_CAUSE_ENTERED = true := by
  have hexec : exec .entryStepComplete s = .next s.standby := by
    refine (if_neg (not_not.2 hstate)).trans ?_
    rw [hpoint]
    rfl
  have hsleep := s.stacksSleep_onlyRegs
  have hkept := s.standbyAsleep_kept
  have hready : ∀ k < 8, s.rd F.MEM_STATE_STATE k = stReady → s.standbyAsleep.rd F.MEM_STATE_STATE k = 3 := fun k hk hr =>
    (hkept.rd (by decide) k).trans (State.stacksSleep_ready hk hr)
  have hpend1 : s.standbyAsleep.flag F.PWR_PS_STAT_PEND = false :=
    (hkept.flag (by decide) 0).trans ((hsleep.1.flag (by decide) 0).trans hpend)
  have hvotes1 : s.standbyAsleep.votes = 0 := (State.votes_after hsleep hkept).trans hvotes
  have hps1 : s.standbyAsleep.ps.abort = 0 := (congrArg Ps.abort (hkept.ps.trans hsleep.ps_eq)).trans habort
  rw [hexec, State.standby_eq]
  generalize s.standbyAsleep = a at hready hpend1 hvotes1 hps1
  obtain ⟨hstandby, hpend2, hentered, hlogs⟩ := a.entered_effect (n := psStandby) (by decide)
  have hready2 : ∀ k < 8, s.rd F.MEM_STATE_STATE k = stReady → (a.entered psStandby).rd F.MEM_STATE_STATE k = 3 := fun k hk hr =>
    (hlogs.1.rd (by decide) k).trans (hready k hk hr)
  have hvotes2 : (a.entered psStandby).votes = 0 := (hlogs.votes (by decide)).trans hvotes1
  have hps2 : (a.entered psStandby).ps.abort = 0 := (congrArg Ps.abort hlogs.ps_eq).trans hps1
  generalize a.entered psStandby = b at hstandby hpend2 hentered hready2 hvotes2 hps2 ⊢
  rw [hpend1] at hpend2
  rw [if_neg (by rw [hps2]; decide), if_neg (fun e => absurd (hps2.symm.trans e.1) (by decide))]
  have harrive : ({ b with ps := { b.ps with abort := 0 } } : State).psArrive = { b with ps := { b.ps with abort := 0 } } :=
    State.psArrive_none hpend2
  have hcheck : ({ b with ps := { b.ps with abort := 0 } } : State).voteCheck = { b with ps := { b.ps with abort := 0 } } :=
    State.voteCheck_none hvotes2 hpend2
  rw [harrive, hcheck]
  exact ⟨_, rfl, hstandby, hready2, hentered⟩

/-! ### Freewheel is reached (R414) -/

/-- What is asleep once Freewheel is reached, the peripheral supply still on. -/
def State.freewheelAsleep (s : State) : State := (s.stacksSleep.coreSleep.ethDown 0).ethDown 1

theorem State.freewheelAsleep_kept (s : State) : PowerKept s.stacksSleep s.freewheelAsleep :=
  ((PowerKept.refl _).coreSleep.ethDown 0).ethDown 1

theorem State.freewheel_eq (s : State) : s.freewheel =
    if ((s.freewheelAsleep.setVperi false).entered psFreewheel).ps.wake then
      ((s.freewheelAsleep.setVperi false).entered psFreewheel).wakeFreewheel
    else ((s.freewheelAsleep.setVperi false).entered psFreewheel).psArrive.voteCheck := rfl

theorem State.flag_setVperi (s : State) (on : Bool) : (s.setVperi on).flag F.CIO_STAT_VPERI = on := by
  unfold State.setVperi
  split
  · next h => exact h
  · have hwr : (s.wr F.CIO_STAT_VPERI 0 (if on then 1 else 0)).flag F.CIO_STAT_VPERI = on := by
      cases on
      · exact State.flag_wr_zero _ _ _ (by decide)
      · exact State.flag_wr_one _ _ _ (by decide)
    have hfold := Frame.foldl (k := State.fanless) (rs := [.CIO_PWM_STAT]) (List.range 8) (Frame.refl _ _
      (s.wr F.CIO_STAT_VPERI 0 (if on then 1 else 0))) (f := fun (s : State) (c : Nat) => s.pwmEval c) fun v c => v.pwmEval_frame c
    exact (hfold.flag _ (by decide) 0).trans hwr

theorem entryStepComplete_freewheel {s : State} (hstate : s.psState = psEntering) (hpoint : s.rd F.PWR_PS_STAT_POINT = 5)
    (hwake : s.ps.wake = false) (hpend : s.flag F.PWR_PS_STAT_PEND = false) (hvotes : s.votes = 0) :
    ∃ t, exec .entryStepComplete s = .next t ∧ t.psState = psFreewheel ∧ t.flag F.CIO_STAT_VPERI = false ∧
    t.flag F.PWR_PS_CAUSE_ENTERED = true := by
  have hexec : exec .entryStepComplete s = .next s.freewheel := by
    refine (if_neg (not_not.2 hstate)).trans ?_
    rw [hpoint]
    rfl
  have hsleep := s.stacksSleep_onlyRegs
  have hkept := s.freewheelAsleep_kept.setVperi false
  have hvperi := s.freewheelAsleep.flag_setVperi false
  have hpend1 : (s.freewheelAsleep.setVperi false).flag F.PWR_PS_STAT_PEND = false :=
    (hkept.flag (by decide) 0).trans ((hsleep.1.flag (by decide) 0).trans hpend)
  have hvotes1 : (s.freewheelAsleep.setVperi false).votes = 0 := (State.votes_after hsleep hkept).trans hvotes
  have hps1 : (s.freewheelAsleep.setVperi false).ps.wake = false := (congrArg Ps.wake (hkept.ps.trans hsleep.ps_eq)).trans hwake
  rw [hexec, State.freewheel_eq]
  generalize s.freewheelAsleep.setVperi false = a at hvperi hpend1 hvotes1 hps1
  obtain ⟨hfreewheel, hpend2, hentered, hlogs⟩ := a.entered_effect (n := psFreewheel) (by decide)
  have hvotes2 : (a.entered psFreewheel).votes = 0 := (hlogs.votes (by decide)).trans hvotes1
  have hps2 : (a.entered psFreewheel).ps.wake = false := (congrArg Ps.wake hlogs.ps_eq).trans hps1
  have hvperi2 : (a.entered psFreewheel).flag F.CIO_STAT_VPERI = false := (hlogs.1.flag (by decide) 0).trans hvperi
  generalize a.entered psFreewheel = b at hfreewheel hpend2 hentered hvotes2 hps2 hvperi2 ⊢
  rw [hpend1] at hpend2
  rw [if_neg (by simp [hps2]), State.psArrive_none hpend2, State.voteCheck_none hvotes2 hpend2]
  exact ⟨b, rfl, hfreewheel, hvperi2, hentered⟩

/-! ### The handshake (R415) -/

theorem handshakeReply_idle {s : State} (hstate : s.psState = psEntering) (hpoint : s.rd F.PWR_PS_STAT_POINT = 4)
    (hwaits : (s.rd F.PWR_HS_STAT_WAITING).testBit 5 = true) : ∃ t, exec (.handshakeReply 5) s = .next t ∧
    (t.rd F.PWR_HS_STAT_WAITING).testBit 5 = false ∧ OnlyRegs [.PWR_HS_STAT] s t := by
  have hexec : exec (.handshakeReply 5) s = .next (s.wr F.PWR_HS_STAT_WAITING 0 (s.rd F.PWR_HS_STAT_WAITING - 2 ^ 5)) :=
    if_pos ⟨hstate, hpoint, hwaits⟩
  have hlow : s.rd F.PWR_HS_STAT_WAITING < 256 := fieldOf_lt _ F.PWR_HS_STAT_WAITING
  refine ⟨_, hexec, ?_, (OnlyRegs.refl _ s).wr _ _ _ (by decide)⟩
  rw [State.rd_wr_same _ _ _ _ (by decide)]
  rw [Nat.testBit_eq_decide_div_mod_eq, decide_eq_true_eq] at hwaits
  rw [Nat.testBit_eq_decide_div_mod_eq, decide_eq_false_iff_not]
  show ¬ ((s.rd F.PWR_HS_STAT_WAITING - 2 ^ 5) % 2 ^ 8) / 2 ^ 5 % 2 = 1
  omega

/-- The handshake of block `c` is given up; requests and votes are not yet looked at. -/
def State.handshakeOver (s : State) (c : Nat) (timeout : Bool) : State :=
  let s1 := ((s.wr F.PWR_HS_STAT_LAST 0 c).wr F.PWR_HS_STAT_TIMEOUT 0 (if timeout then 1 else 0)).wr F.PWR_HS_STAT_WAITING 0 0
  (({ s1 with ps := { s1.ps with abort := 0, wake := false } }).psSet psStandby).raise F.PWR_PS_CAUSE_REFUSED 0 1 [wd c]

theorem State.handshakeOver_effect (s : State) {c : Nat} (hc : c < 8) (timeout : Bool) : (s.handshakeOver c timeout).psState = psStandby ∧
    (s.handshakeOver c timeout).rd F.PWR_HS_STAT_LAST = c ∧ (s.handshakeOver c timeout).rd F.PWR_HS_STAT_WAITING = 0 ∧
    (s.handshakeOver c timeout).flag F.PWR_PS_STAT_PEND = s.flag F.PWR_PS_STAT_PEND ∧ (s.handshakeOver c timeout).votes = s.votes := by
  unfold State.handshakeOver
  have hhs : OnlyRegs [.PWR_HS_STAT] s (((s.wr F.PWR_HS_STAT_LAST 0 c).wr F.PWR_HS_STAT_TIMEOUT 0 (if timeout then 1 else 0)).wr F.PWR_HS_STAT_WAITING 0 0) :=
    (((OnlyRegs.refl _ s).wr _ _ _ (by decide)).wr _ _ _ (by decide)).wr _ _ _ (by decide)
  have hlast : (((s.wr F.PWR_HS_STAT_LAST 0 c).wr F.PWR_HS_STAT_TIMEOUT 0 (if timeout then 1 else 0)).wr F.PWR_HS_STAT_WAITING 0 0).rd
      F.PWR_HS_STAT_LAST = c := (State.rd_wr_ne _ _ _ _ _ _ (by decide)).trans ((State.rd_wr_ne _ _ _ _ _ _ (by decide)).trans
    ((State.rd_wr_same _ _ _ _ (by decide)).trans (Nat.mod_eq_of_lt (lt_of_lt_of_le hc (by decide)))))
  have hwait : (((s.wr F.PWR_HS_STAT_LAST 0 c).wr F.PWR_HS_STAT_TIMEOUT 0 (if timeout then 1 else 0)).wr F.PWR_HS_STAT_WAITING 0 0).rd
      F.PWR_HS_STAT_WAITING = 0 := State.rd_wr_same _ _ _ _ (by decide)
  generalize ((s.wr F.PWR_HS_STAT_LAST 0 c).wr F.PWR_HS_STAT_TIMEOUT 0 (if timeout then 1 else 0)).wr F.PWR_HS_STAT_WAITING 0 0 = u at hhs hlast hwait ⊢
  have hbare : ∀ (f : Fld) (i : Nat), ({ u with ps := { u.ps with abort := 0, wake := false } } : State).rd f i = u.rd f i := fun _ _ => rfl
  have hpd : ({ u with ps := { u.ps with abort := 0, wake := false } } : State).flag F.PWR_PS_STAT_PEND = s.flag F.PWR_PS_STAT_PEND :=
    hhs.1.flag (by decide) 0
  have hv : ({ u with ps := { u.ps with abort := 0, wake := false } } : State).votes = s.votes := (hhs.onlyLogs.votes (by decide) : u.votes = _)
  dsimp only
  generalize ({ u with ps := { u.ps with abort := 0, wake := false } } : State) = b at hbare hpd hv ⊢
  obtain ⟨hstandby, -, hpend, hset⟩ := b.psSet_effect (n := psStandby) (by decide)
  obtain ⟨-, hlogs⟩ := (b.psSet psStandby).raisePs_effect (f := F.PWR_PS_CAUSE_REFUSED) (by decide) 1 [wd c]
  exact ⟨(hlogs.1.rd (by decide) 0).trans hstandby,
    (hlogs.1.rd (by decide) 0).trans ((hset.1.rd (by decide) 0).trans ((hbare _ _).trans hlast)),
    (hlogs.1.rd (by decide) 0).trans ((hset.1.rd (by decide) 0).trans ((hbare _ _).trans hwait)),
    (hlogs.1.flag (by decide) 0).trans (hpend.trans hpd),
    (hlogs.votes (by decide)).trans ((hset.onlyLogs.votes (by decide)).trans hv)⟩

theorem handshakeTimeout_cores {s : State} (hstate : s.psState = psEntering) (hpoint : s.rd F.PWR_PS_STAT_POINT = 4)
    (hwaits : s.rd F.PWR_HS_STAT_WAITING = 0x80) (hvotes : s.votes = 0) (hpend : s.flag F.PWR_PS_STAT_PEND = false) :
    ∃ t, exec .handshakeTimeout s = .next t ∧ t.psState = psStandby ∧ t.rd F.PWR_HS_STAT_LAST = 7 ∧ t.rd F.PWR_HS_STAT_WAITING = 0 := by
  have hfirst : ((List.range 8).find? fun c => Nat.testBit 0x80 c).getD 0 = 7 := by decide
  have hexec : exec .handshakeTimeout s = .next (s.handshakeOver 7 true).psArrive.voteCheck := by
    refine (if_pos ⟨hstate, hpoint, by rw [hwaits]; decide⟩).trans ?_
    rw [hwaits, hfirst]
    rfl
  obtain ⟨hstandby, hlast, hwait, hpd, hv⟩ := s.handshakeOver_effect (c := 7) (by decide) true
  generalize s.handshakeOver 7 true = u at hexec hstandby hlast hwait hpd hv
  rw [State.psArrive_none (hpd.trans hpend), State.voteCheck_none (hv.trans hvotes) (hpd.trans hpend)] at hexec
  exact ⟨u, hexec, hstandby, hlast, hwait⟩

/-! ### Waking (R418, R419) -/

/-- The module back in Standby from Freewheel, with the time base at `b` and `f`: requests and votes are not yet looked at. -/
def State.wokenAt (s : State) (b : BitVec 64) (f : Nat) : State :=
  ((({ s with timeBase := b, timeFrac := f }).setVperi true).restartEngine.psSet psStandby).raise F.PWR_PS_CAUSE_WAKE

theorem State.wokenAt_effect (s : State) (b : BitVec 64) (f : Nat) : (s.wokenAt b f).flag F.CIO_STAT_VPERI = true ∧
    (s.wokenAt b f).mem = s.mem ∧ (s.wokenAt b f).store = s.store ∧ (s.wokenAt b f).flag F.PWR_PS_STAT_PEND = s.flag F.PWR_PS_STAT_PEND ∧
    (s.wokenAt b f).votes = s.votes := by
  unfold State.wokenAt
  have hclock : PowerKept s { s with timeBase := b, timeFrac := f } := (PowerKept.refl s).other rfl rfl rfl
  have hmem : ({ s with timeBase := b, timeFrac := f } : State).mem = s.mem := rfl
  have hstore : ({ s with timeBase := b, timeFrac := f } : State).store = s.store := rfl
  generalize ({ s with timeBase := b, timeFrac := f } : State) = u at hclock hmem hstore ⊢
  have hkept := (hclock.setVperi true).restartEngine
  have hframe := (u.setVperi_frame true).trans ((u.setVperi true).restartEngine_frame.mono (List.nil_subset _))
  have hvperi : (u.setVperi true).restartEngine.flag F.CIO_STAT_VPERI = true :=
    ((u.setVperi true).restartEngine_frame.flag _ (by decide) 0).trans (u.flag_setVperi true)
  generalize (u.setVperi true).restartEngine = w at hkept hframe hvperi ⊢
  obtain ⟨-, -, hpend, hset⟩ := w.psSet_effect (n := psStandby) (by decide)
  obtain ⟨-, hlogs⟩ := (w.psSet psStandby).raisePs_effect (f := F.PWR_PS_CAUSE_WAKE) (by decide) 0 []
  have hall := (hset.onlyLogs.mono (by decide)).trans (hlogs.mono (rs' := [.PWR_PS_STAT, .PWR_PS_CAUSE]) (by decide))
  exact ⟨(hall.1.flag (by decide) 0).trans hvperi,
    (congrArg State.mem hall.2 :).trans ((congrArg State.mem hframe.2 :).trans hmem),
    (congrArg State.store hall.2 :).trans ((congrArg State.store hframe.2 :).trans hstore),
    (hlogs.1.flag (by decide) 0).trans (hpend.trans (hkept.flag (by decide) 0)),
    (hall.votes (by decide)).trans hkept.votes⟩

theorem wakeComplete_effect (n : BitVec 48) {s : State} (hstate : s.psState = psWaking) (htgt : s.psTgt = psStandby) (hvotes : s.votes = 0)
    (hpend : s.flag F.PWR_PS_STAT_PEND = false) :
    ∃ t, exec (.wakeComplete n) s = .next t ∧ t.flag F.CIO_STAT_VPERI = true ∧ t.mem = s.mem ∧ t.store = s.store := by
  have hexec : exec (.wakeComplete n) s = .next (s.wokenAt (BitVec.ofNat 64 ((s.ps.t0 + n.toNat * 30517578125000) / 1000000000))
      ((s.ps.t0 + n.toNat * 30517578125000) % 1000000000)).psArrive.voteCheck := if_pos ⟨hstate, htgt⟩
  obtain ⟨hvperi, hmem, hstore, hpd, hv⟩ := s.wokenAt_effect (BitVec.ofNat 64 ((s.ps.t0 + n.toNat * 30517578125000) / 1000000000))
    ((s.ps.t0 + n.toNat * 30517578125000) % 1000000000)
  generalize s.wokenAt _ _ = u at hexec hvperi hmem hstore hpd hv
  rw [State.psArrive_none (hpd.trans hpend), State.voteCheck_none (hv.trans hvotes) (hpd.trans hpend)] at hexec
  exact ⟨u, hexec, hvperi, hmem, hstore⟩

theorem State.allAwake_of {s : State} (hret : s.pwr.retention = false) (h : ∀ j < 8, s.rd F.MEM_STATE_STATE j ≠ 3) : s.allAwake = true := by
  simpa [State.allAwake, hret] using h

theorem domainAwake_last {k : Fin 9} {s : State} (hk : k.val < 8) (hstate : s.psState = psWaking) (htgt : s.psTgt ≤ psTrim)
    (habort : s.ps.abort = 0) (hasleep : s.rd F.MEM_STATE_STATE k = 3) (hret : s.pwr.retention = false)
    (hothers : ∀ j < 8, j ≠ k.val → s.rd F.MEM_STATE_STATE j ≠ 3) (hpend : s.flag F.PWR_PS_STAT_PEND = false) :
    ∃ t, exec (.domainAwake k) s = .next t ∧ t.rd F.MEM_STATE_STATE k = stReady ∧ t.psState = s.psTgt ∧
    t.flag F.PWR_PS_CAUSE_WAKE = true := by
  have hset : OnlyRegs [.MEM_STATE] s (s.wr F.MEM_STATE_STATE k stReady) := (OnlyRegs.refl _ s).wr _ _ _ (by decide)
  have hready : (s.wr F.MEM_STATE_STATE k stReady).rd F.MEM_STATE_STATE k = stReady := State.rd_wr_same _ _ _ _ (by decide)
  have hawake : (s.wr F.MEM_STATE_STATE k stReady).allAwake = true := by
    refine State.allAwake_of hret fun j hj => ?_
    by_cases hjk : j = k.val
    · rw [hjk, hready]; decide
    · rw [State.rd_wr_idx _ _ _ _ _ _ hjk]; exact hothers j hj hjk
  have hstandby : decide (s.psState = psStandby) = false := by rw [hstate]; rfl
  have hexec : exec (.domainAwake k) s = if (s.wr F.MEM_STATE_STATE k stReady).psState = psWaking ∧
      (s.wr F.MEM_STATE_STATE k stReady).psTgt ≤ psTrim ∧ (s.wr F.MEM_STATE_STATE k stReady).allAwake = true then
      .next (if (s.wr F.MEM_STATE_STATE k stReady).ps.abort = 3 then
        (s.wr F.MEM_STATE_STATE k stReady).psRunning (s.wr F.MEM_STATE_STATE k stReady).psTgt
        else ((s.wr F.MEM_STATE_STATE k stReady).psRunning (s.wr F.MEM_STATE_STATE k stReady).psTgt).raise F.PWR_PS_CAUSE_WAKE).psArrive
      else .next (s.wr F.MEM_STATE_STATE k stReady) := by
    show execDomainAwake k s = _
    unfold execDomainAwake
    simp only [if_pos hk, if_pos hasleep, hstandby, Bool.false_eq_true, if_false]
  have hst : (s.wr F.MEM_STATE_STATE k stReady).psState = psWaking := (hset.1.rd (by decide) 0).trans hstate
  have htg : (s.wr F.MEM_STATE_STATE k stReady).psTgt = s.psTgt := hset.1.rd (by decide) 0
  have hpd : (s.wr F.MEM_STATE_STATE k stReady).flag F.PWR_PS_STAT_PEND = false := (hset.1.flag (by decide) 0).trans hpend
  have hab : (s.wr F.MEM_STATE_STATE k stReady).ps.abort = 0 := habort
  generalize s.wr F.MEM_STATE_STATE k stReady = u at hready hawake hexec hst htg hpd hab
  rw [if_pos ⟨hst, htg ▸ htgt, hawake⟩, if_neg (by rw [hab]; decide), htg] at hexec
  obtain ⟨hrun, -, hpend2, -, hrunning⟩ := u.psRunning_effect htgt
  obtain ⟨hwake, hlogs⟩ := (u.psRunning s.psTgt).raisePs_effect (f := F.PWR_PS_CAUSE_WAKE) (by decide) 0 []
  rw [State.psArrive_none ((hlogs.1.flag (by decide) 0).trans (hpend2.trans hpd))] at hexec
  exact ⟨_, hexec, (hlogs.1.rd (by decide) k).trans ((hrunning.1.rd (by decide) k).trans hready), (hlogs.1.rd (by decide) 0).trans hrun, hwake⟩

theorem domainIdle_core {s : State} (hstate : s.psState = psStandby) (hvotes : s.votes = 0)
    (hawake : s.flag F.PWR_PS_STAT_CORE_AWAKE = true) (hcore : s.pwr.vcore = true) : ∃ t, exec (.domainIdle 8) s = .next t ∧
    t.pwr.retention = true ∧ t.flag F.PWR_PS_STAT_CORE_AWAKE = false ∧ t.rd F.PWR_GEAR_STAT_DUTY = 0 ∧
    OnlyRegs [.PWR_PS_STAT, .PWR_GEAR_STAT, .PWR_CADENCE] { s with pwr := t.pwr } t := by
  have hexec : exec (.domainIdle 8) s = .next (s.coreSleep.wr F.PWR_PS_STAT_CORE_AWAKE 0 0) := by
    refine (if_neg (by simp [hstate, hvotes])).trans ((if_neg (by decide)).trans ((if_pos hawake).trans rfl))
  obtain ⟨hret, hduty, hset⟩ := State.coreSleep_on hcore
  generalize s.coreSleep = u at hexec hret hduty hset
  exact ⟨_, hexec, hret, State.flag_wr_zero _ _ _ (by decide), (State.rd_wr_ne _ _ _ _ _ _ (by decide)).trans hduty,
    (hset.mono (by decide)).wr _ _ _ (by decide)⟩

/-! ### Samples in Freewheel (R418) -/

/-- The state without its log, its coolant readings and the bookkeeping of transitions. -/
def State.sensless (s : State) : State := { s.logless with cio := {}, ps := {} }

/-- The registers that a sample writes. -/
def sensRegs : List Reg := [.CIO_SENS_STAT, .CIO_AI_CFG, .CIO_CAUSE, .PWR_WAKE_SRC, .PWR_PS_STAT, .CFG_STAT] ++ recRegs

theorem Frame.sens_of_cio {rs : List Reg} {s t : State} (h : Frame State.cioless rs s t) : Frame State.sensless rs s t :=
  Frame.forget (k := State.cioless) (fun _ => rfl) h

theorem State.wakeEvent_sens {f : Fld} (hf : f.reg = .PWR_WAKE_SRC) (s : State) : Frame State.sensless sensRegs s (s.wakeEvent f) := by
  have hfreg : f.reg ∈ sensRegs := by rw [hf]; decide
  have hps (v : State) (x : Ps) : Frame State.sensless sensRegs v { v with ps := x } := (Frame.refl _ _ v).other rfl rfl
  have hfree (v : State) : Frame State.sensless sensRegs v v.wakeFreewheel :=
    ((hps v _).wr (fun _ => rfl) _ _ _ (by decide)).wr (fun _ => rfl) _ _ _ (by decide)
  have hwr (v : State) : Frame State.sensless sensRegs v (v.wr f 0 1) := (Frame.refl _ _ v).wr (fun _ => rfl) _ _ _ hfreg
  unfold State.wakeEvent
  extract_lets leak fw s1
  exact .ite ((hwr s).trans (hfree _)) (.ite (.ite (hps s _) ((hps s _).trans (hwr _))) (.refl _ _ s))

theorem State.rangeCheck_sens (s : State) (b : Nat) (ok : Bool) : Frame State.sensless sensRegs s (s.rangeCheck b ok) := by
  unfold State.rangeCheck
  extract_lets s1 had s2
  have h1 : Frame State.sensless sensRegs s s1 := (Frame.refl _ _ s).other rfl rfl
  have h2 : Frame State.sensless sensRegs s s2 :=
    (h1.other rfl rfl).trans (Frame.sens_of_cio ((State.sensShow_onlyRegs _ b).cio.mono (by decide)))
  clear_value s1 s2 had
  exact .ite h1 ((Frame.ite h2 (h2.raiseFor (fun _ => rfl) _ _ _ _ _ _ (by decide) (by decide))).trans (State.wakeEvent_sens rfl _))

theorem execSensorSample_sens (k : Fin 7) (v : Rat) (s : State) : Frame State.sensless sensRegs s (nextOr s (execSensorSample k v s)) := by
  have hread (u : State) (hu : Frame State.sensless sensRegs s u) (a b : Nat) (x : Rat) : Frame State.sensless sensRegs s ((u.setRead a x).histPut a b x) :=
    hu.other rfl rfl
  unfold execSensorSample
  split
  · exact .ite (hread _ (s.rangeCheck_sens _ _) _ _ _) (s.rangeCheck_sens _ _)
  · split
    · exact .ite ((s.rangeCheck_sens _ _).other rfl rfl) (s.rangeCheck_sens _ _)
    · exact .ite ((hread _ (s.rangeCheck_sens _ _) _ _ _).trans (Frame.sens_of_cio ((State.flowCheck_frame _).mono (by decide))))
        (s.rangeCheck_sens _ _)

theorem execAiSample_sens (ch : Fin 10) (raw v : Rat) (s : State) : Frame State.sensless sensRegs s (nextOr s (execAiSample ch raw v s)) := by
  unfold execAiSample
  split
  · extract_lets i mode
    split
    · exact .refl _ _ s
    · exact .ite (((s.rangeCheck_sens _ _).other rfl rfl).trans (Frame.sens_of_cio ((State.sensShow_onlyRegs _ _).cio.mono (by decide))))
        (s.rangeCheck_sens _ _)
  · exact .ite ((s.rangeCheck_sens _ _).other rfl rfl) (s.rangeCheck_sens _ _)

/-- The sensors and the inputs sampled, one after the other. -/
def State.sampledAll (s : State) (sens : Vector Rat 7) (ai : Vector (Rat × Rat) 8) : State :=
  (List.finRange 8).foldl (fun (s : State) (k : Fin 8) => nextOr s (execAiSample (k.castLE (by omega)) ai[k].1 ai[k].2 s))
    ((List.finRange 7).foldl (fun (s : State) (k : Fin 7) => nextOr s (execSensorSample k sens[k] s)) s)

theorem State.sampledAll_sens (s : State) (sens : Vector Rat 7) (ai : Vector (Rat × Rat) 8) :
    Frame State.sensless sensRegs s (s.sampledAll sens ai) :=
  ((Frame.refl _ _ s).foldl _ fun v k => execSensorSample_sens k _ v).foldl _ fun v _ => execAiSample_sens _ _ _ v

theorem fwSequencerSample_effect (sens : Vector Rat 7) (ai : Vector (Rat × Rat) 8) {s : State} (hstate : s.psState = psFreewheel) :
    ∃ t, exec (.fwSequencerSample sens ai) s = .next t ∧ t.boot.sampled = true ∧ t.mem = s.mem ∧ t.store = s.store := by
  have hframe := s.sampledAll_sens sens ai
  have hexec : ∃ c : Bool, exec (.fwSequencerSample sens ai) s =
      .next (if c then ({ s.sampledAll sens ai with boot := { (s.sampledAll sens ai).boot with sampled := true } } : State).wakeEvent F.PWR_WAKE_SRC_THRESH
        else { s.sampledAll sens ai with boot := { (s.sampledAll sens ai).boot with sampled := true } }) :=
    ⟨_, if_neg (not_not.2 hstate)⟩
  obtain ⟨c, hexec⟩ := hexec
  have hmem : (s.sampledAll sens ai).mem = s.mem := (congrArg State.mem hframe.2 :)
  have hstore : (s.sampledAll sens ai).store = s.store := (congrArg State.store hframe.2 :)
  generalize s.sampledAll sens ai = u at hexec hmem hstore
  have hwake := State.wakeEvent_sens (f := F.PWR_WAKE_SRC_THRESH) rfl ({ u with boot := { u.boot with sampled := true } } : State)
  refine ⟨_, hexec, ?_⟩
  cases c with
  | false => exact ⟨rfl, hmem, hstore⟩
  | true => exact ⟨(congrArg (fun x : State => x.boot.sampled) hwake.2 :), (congrArg State.mem hwake.2 :).trans hmem,
      (congrArg State.store hwake.2 :).trans hstore⟩

/-- Settles O7: each request, vote, step, reply and wake by its case, over what links, ports and outputs leave of votes and power state. -/
theorem powerStateRequestsAndVotes : Obligations.PowerStateRequestsAndVotes := by
  unfold Obligations.PowerStateRequestsAndVotes
  exact ⟨fun s hs _ hp => reqRun_wakes hs hp, fun s => reqTrim_effect, fun s => reqRun_effect, fun s => reqStandby_enters,
    fun s => reqStandby_waits, fun s => reqFreewheel_enters, fun m s => pwrVoteWrite_effect m, fun s => autoStandbyIdle_enters,
    fun s => entryStepComplete_standby, fun s => entryStepComplete_freewheel, fun s => handshakeReply_idle, fun s => handshakeTimeout_cores,
    fun n s => wakeComplete_effect n, fun _ s => domainAwake_last, fun s => domainIdle_core, fun sens ai s => fwSequencerSample_effect sens ai⟩

end Sys2Proof.Machine
end

section
/-! PROOFS.  What every command keeps: the queue, and the canonical form of the memories and of the register map.  First the relation and
the operations that write them. -/

namespace Sys2Proof.Machine

/-- What a step is to keep: the queue and, where they were canonical, the memories and the register map. -/
structure Sound (s t : State) : Prop where
  pending : t.pending = s.pending
  mem : s.memWf = true → t.memWf = true
  regs : s.regsWf = true → t.regsWf = true

theorem State.regsWf_iff (s : State) : s.regsWf = true ↔ s.regs.Pairwise fun x y => x.1 < y.1 := by
  simp [State.regsWf]

theorem Sound.refl (s : State) : Sound s s := ⟨rfl, id, id⟩

/-- The meaning of a command: it has a next state, which keeps what a step is to keep. -/
def Completes (s : State) (o : Out) : Prop := ∃ t, o = .next t ∧ Sound s t

section Sound
variable {s t u v : State}

theorem Sound.ite {c : Prop} [Decidable c] (hu : Sound s u) (hv : Sound s v) : Sound s (if c then u else v) := by
  split
  · exact hu
  · exact hv

theorem Completes.ite {c : Prop} [Decidable c] {o o' : Out} (h : Completes s o) (h' : Completes s o') : Completes s (if c then o else o') := by
  split
  · exact h
  · exact h'

/-- The state of a pair that a function gives. -/
theorem Sound.of_fst {α : Type} {x : State × α} {a : α} (h : Sound s x.1) (e : x = (u, a)) : Sound s u := by rw [e] at h; exact h

theorem Sound.of_snd {α : Type} {x : α × State} {a : α} (h : Sound s x.2) (e : x = (a, u)) : Sound s u := by rw [e] at h; exact h

variable (h : Sound s u)
include h

theorem Sound.next : Completes s (.next u) := ⟨u, rfl, h⟩

theorem Sound.trans (h' : Sound u t) : Sound s t :=
  ⟨h'.pending.trans h.pending, fun e => h'.mem (h.mem e), fun e => h'.regs (h.regs e)⟩

theorem Sound.foldl {α : Type} {f : State → α → State} (l : List α) (hf : ∀ v x, Sound s v → Sound s (f v x)) : Sound s (l.foldl f u) :=
  List.foldlRecOn l f h fun v hv x _ => hf v x hv

/-- A fold over pairs of a state and a result. -/
theorem Sound.foldFst {α β : Type} {f : State × α → β → State × α} {a : α} (l : List β)
    (hf : ∀ r x, Sound s r.1 → Sound s (f r x).1) : Sound s (l.foldl f (u, a)).1 :=
  List.foldlRecOn (motive := fun r => Sound s r.1) l f h fun r hr x _ => hf r x hr

theorem Sound.foldSnd {α β : Type} {f : α × State → β → α × State} {a : α} (l : List β)
    (hf : ∀ r x, Sound s r.2 → Sound s (f r x).2) : Sound s (l.foldl f (a, u)).2 :=
  List.foldlRecOn (motive := fun r => Sound s r.2) l f h fun r hr x _ => hf r x hr

/-- A change of the other fields. -/
theorem Sound.other {free up timeBase irqPulse evr out ueLines patrol tok tokSig waiters granted tabs vregs rng engQ bobQ replayQ parts
      rings cmds pages convs keys modKey zfills memPatrol rowCe spares rowCopies loansOut offers asks fab wins afSeen pwr nv mapDue bringIns
      qps ports kslots deliveries conf sessions beats mgmt owed timeFrac timLatch cio cle sec meter mtrIf boot ps clarn row i3c : _} :
    Sound s { u with
      free, up, timeBase, irqPulse, evr, out, ueLines, patrol, tok, tokSig, waiters, granted, tabs, vregs, rng, engQ, bobQ, replayQ,
      parts, rings, cmds, pages, convs, keys, modKey, zfills, memPatrol, rowCe, spares, rowCopies, loansOut, offers, asks, fab, wins,
      afSeen, pwr, nv, mapDue, bringIns, qps, ports, kslots, deliveries, conf, sessions, beats, mgmt, owed, timeFrac, timLatch, cio, cle,
      sec, meter, mtrIf, boot, ps, clarn, row, i3c } :=
  h.trans ⟨rfl, id, id⟩

/-! ### The operations that write them -/

theorem Sound.withRegs {l : List (Nat × Word)} (hl : (u.regs.Pairwise fun x y => x.1 < y.1) → l.Pairwise fun x y => x.1 < y.1) :
    Sound s { u with regs := l } :=
  h.trans ⟨rfl, id, fun e => (State.regsWf_iff _).2 (hl ((State.regsWf_iff _).1 e))⟩

theorem Sound.setReg (r : Reg) (i : Nat) (w : Word) : Sound s (u.setReg r i w) := by
  refine h.withRegs fun e => ?_
  have herase : (Assoc.erase u.regs (regKey r i)).Pairwise fun x y => x.1 < y.1 := e.sublist List.filter_sublist
  unfold Assoc.set
  split
  · exact herase
  · exact Assoc.pairwise_insert _ _ _ herase fun x hx => ((Assoc.mem_erase _ _ _).1 hx).2

theorem Sound.resetReg (r : Reg) : Sound s (u.resetReg r) := h.withRegs fun e => e.sublist List.filter_sublist

theorem Sound.resetBlock (b : Block) (keep : List Reg) : Sound s (u.resetBlock b keep) := h.withRegs fun e => e.sublist List.filter_sublist

/-- A change of the memories that keeps their form. -/
theorem Sound.withMem (hv : v.pending = u.pending ∧ v.regs = u.regs) (hmem : u.memWf = true → v.memWf = true) : Sound s v :=
  h.trans ⟨hv.1, hmem, fun e => by rw [State.regsWf, hv.2]; exact e⟩

theorem Sound.storePut (p a : Nat) (l : List Byte) : Sound s (u.storePut p a l) := h.withMem ⟨rfl, rfl⟩ (u.memWf_storePut p a l)

theorem Sound.setLinePoison (p a : Nat) (b : Bool) : Sound s (u.setLinePoison p a b) := h.withMem ⟨rfl, rfl⟩ (u.memWf_setLinePoison p a b)

theorem Sound.storeZero (p : Nat) : Sound s (u.storeZero p) := h.withMem ⟨rfl, rfl⟩ (u.memWf_storeZero p)

theorem Sound.memPut (k a : Nat) (l : List (Option Byte)) : Sound s (u.memPut k a l) := h.withMem ⟨rfl, rfl⟩ (u.memWf_memPut k a l)

theorem Sound.setMemPoison (k a : Nat) (b : Bool) : Sound s (u.setMemPoison k a b) := h.withMem ⟨rfl, rfl⟩ (u.memWf_setMemPoison k a b)

/-- The cluster stores are empty. -/
theorem Sound.dropStores : Sound s { u with store := [], storePoison := [] } := by
  refine h.withMem ⟨rfl, rfl⟩ fun e => ?_
  rw [State.memWf_iff] at e ⊢
  obtain ⟨⟨-, hmem⟩, -, hmp⟩ := e
  exact ⟨⟨Assoc.wf_nil 0, hmem⟩, Assoc.wf_nil false, hmp⟩

/-- Stack memory is empty. -/
theorem Sound.dropMem : Sound s { u with mem := [], memPoison := [] } := by
  refine h.withMem ⟨rfl, rfl⟩ fun e => ?_
  rw [State.memWf_iff] at e ⊢
  obtain ⟨⟨hstore, -⟩, hsp, -⟩ := e
  exact ⟨⟨hstore, Assoc.wf_nil 0⟩, hsp, Assoc.wf_nil false⟩

/-- Forgetting a part of stack memory. -/
theorem Sound.filterMem (f : Host.Cell → Bool) (g : Nat × Bool → Bool) :
    Sound s { u with mem := u.mem.filter f, memPoison := u.memPoison.filter g } := by
  refine h.withMem ⟨rfl, rfl⟩ fun e => ?_
  rw [State.memWf_iff] at e ⊢
  obtain ⟨⟨hstore, hmem⟩, hsp, hmp⟩ := e
  exact ⟨⟨hstore, Assoc.wf_filter 0 _ _ hmem⟩, hsp, Assoc.wf_filter false _ _ hmp⟩

end Sound

end Sys2Proof.Machine
end

section
/-! PROOFS.  What every command keeps, function by function (1 of 6): the order of the model's definitions, the first of which
call no other. -/

namespace Sys2Proof.Machine

section
variable {s t u v : State} (h : Sound s u)
include h

/-! ### Ops -/

theorem Sound.wr (f : Fld) (i v : Nat) : Sound s (u.wr f i v) := h.setReg _ _ _

theorem Sound.count (f : Fld) (i : Nat) : Sound s (u.count f i) := h.wr _ _ _

theorem Sound.wrS (f : Fld) (i : Nat) (v : Int) : Sound s (u.wrS f i v) := h.wr _ _ _

theorem Sound.freeNat (n : Nat) : Sound s (u.freeNat n).2 := h.other

theorem Sound.freeBytes (n : Nat) : Sound s (u.freeBytes n).2 := by
  induction n generalizing u with
  | zero => exact h
  | succ n ih => exact ih (h.freeNat 256)

theorem Sound.emit (e : Emit) : Sound s (u.emit e) := h.other

theorem Sound.requestFlush : Sound s u.requestFlush := h.other.wr _ _ _

theorem Sound.setPend (b : Nat) : Sound s (u.setPend b) := .ite ((h.wr _ _ _).other) (h.wr _ _ _)

theorem Sound.raiseBit (f : Fld) (i : Nat) : Sound s (u.raiseBit f i) := by
  unfold State.raiseBit
  extract_lets s1
  split
  · exact h.wr _ _ _
  · exact .ite ((h.wr _ _ _).setPend _) (h.wr _ _ _)

theorem Sound.discardRec (q : Nat) : Sound s (u.discardRec q) := ((h.count _ _).raiseBit _ _).other

theorem Sound.insertRec (r : Rec) : Sound s (u.insertRec r) := by
  unfold State.insertRec
  extract_lets src s' src' s1
  have hs' : Sound s s' := .ite h.other h
  refine .ite ?_ ?_
  · exact .ite (hs'.other.requestFlush) hs'.other
  · split
    · exact (hs'.other.discardRec _).requestFlush
    · exact hs'.discardRec _

theorem Sound.record (block reg event inst sev : Nat) (data : List Word) (master : Nat) :
    Sound s (u.record block reg event inst sev data master) :=
  h.other.insertRec _

theorem Sound.raiseFor (f : Fld) (i inst sev : Nat) (data : List Word) (master : Nat) : Sound s (u.raiseFor f i inst sev data master) :=
  (h.raiseBit _ _).record _ _ _ _ _ _ _

theorem Sound.raise (f : Fld) (i sev : Nat) (data : List Word) (master : Nat) : Sound s (u.raise f i sev data master) := h.raiseFor _ _ _ _ _ _

theorem Sound.recordOpen (block inst sev : Nat) (data : List Word) : Sound s (u.recordOpen block inst sev data) :=
  (h.freeNat _).record _ _ _ _ _ _ _

theorem Sound.wakeFreewheel : Sound s u.wakeFreewheel := (h.other.wr _ _ _).wr _ _ _

theorem Sound.wakeEvent (f : Fld) : Sound s (u.wakeEvent f) := .ite ((h.wr _ _ _).wakeFreewheel) (.ite (.ite h.other (h.other.wr _ _ _)) h)

/-! ### Cluster -/

theorem Sound.modPart (n : Nat) (f : Part → Part) : Sound s (u.modPart n f) := h.other

theorem Sound.modRun (n : Nat) (f : Cmd → Cmd) : Sound s (u.modRun n f) := h.other

theorem Sound.noteAt (p : Nat) (f : Cmd → Cmd) : Sound s (u.noteAt p f) := by
  unfold State.noteAt
  split
  · exact h.modRun _ _
  · exact h

theorem Sound.arithLevel (p : Nat) : Sound s (u.arithLevel p) := .ite (h.raise _ _ _ _ _) (h.wr _ _ _)

theorem Sound.arith (p e fl : Nat) : Sound s (u.arith p e fl) := .ite h (((h.setReg _ _ _).arithLevel _).noteAt _ _)

theorem Sound.storeLine (p a : Nat) (l : List Byte) (poison : Bool) : Sound s (u.storeLine p a l poison) :=
  .ite h (.ite ((h.storePut _ _ _).setLinePoison _ _ _) ((h.storePut _ _ _).setLinePoison _ _ _))

theorem Sound.storeWrite (p a : Nat) (l : List Byte) (poison : Bool) : Sound s (u.storeWrite p a l poison) :=
  h.foldl _ fun _ _ hv => hv.storeLine _ _ _ _

theorem Sound.storeUE (p a : Nat) : Sound s (u.storeUE p a) := by
  unfold State.storeUE
  extract_lets s1 s2 s3
  have hs2 : Sound s s2 := .ite (h.setLinePoison _ _ _) (((h.setLinePoison _ _ _).wr _ _ _).wr _ _ _)
  exact hs2.other.raise _ _ _ _ _

theorem Sound.storeCE (p : Nat) : Sound s (u.storeCE p) := (h.count _ _).raise _ _ _ _ _

theorem Sound.eccHits (p : Nat) (l : List EccHit) : Sound s (u.eccHits p l) := h.foldl _ fun _ _ hv => .ite (hv.storeUE _ _) (hv.storeCE _)

theorem Sound.stopPattern (n : Nat) : Sound s (u.stopPattern n) := h.other

theorem Sound.tokAdd (k n : Nat) : Sound s (u.tokAdd k n).1 := by
  unfold State.tokAdd
  extract_lets c s1
  split
  · exact h.other
  · split
    · exact h.other
    · extract_lets s2
      split
      · exact h.other.raise _ _ _ _ _
      · exact ((h.other.raise _ _ _ _ _).modRun _ _).stopPattern _

theorem Sound.tokTake (k n : Nat) : Sound s (u.tokTake k n) := h.other

theorem Sound.waitOn (unit k n : Nat) : Sound s (u.waitOn unit k n).1 := by
  unfold State.waitOn
  split
  · exact h.other
  · split
    · exact h
    · split
      · exact h.tokTake _ _
      · exact h.other

theorem Sound.clearStall (unit : Nat) : Sound s (u.clearStall unit) := h.setReg _ _ _

theorem Sound.tokRelease (k : Nat) : Sound s (u.tokRelease k) := by
  unfold State.tokRelease
  split
  · exact h
  · exact .ite h (((h.tokTake _ _).other).clearStall _)

theorem Sound.setRnd (n c : Nat) (r : RndSrc) : Sound s (u.setRnd n c r) := .ite h.other h

/-! ### Engine -/

theorem Sound.storeWriteP (p a : Nat) (l : List (Byte × Bool)) : Sound s (u.storeWriteP p a l) := h.foldl _ fun _ _ hv => hv.storeLine _ _ _ _

theorem Sound.notePoison (p : Nat) (b : Bool) : Sound s (u.notePoison p b) := .ite (h.noteAt _ _) h

theorem Sound.noteIndex (p : Nat) (b : Bool) : Sound s (u.noteIndex p b) := .ite (h.noteAt _ _) h

theorem Sound.popEng (p e : Nat) (i : EngInstr) : Sound s (u.popEng p e i) := by
  unfold State.popEng
  extract_lets u'
  split
  · exact .ite h.other h
  · exact h

theorem Sound.engSignal (p : Nat) (i : EngInstr) : Sound s (u.engSignal p i) := by
  unfold State.engSignal
  refine .ite ?_ ?_
  · split
    · exact h.tokAdd _ _
    · exact h
  · exact h

theorem Sound.engWait (p e : Nat) (i : EngInstr) : Sound s (u.engWait p e i).1 := by
  unfold State.engWait
  split
  · split
    · exact h.waitOn _ _ _
    · exact h
  · exact h

theorem Sound.runEng (p : Fin 68) (e : Fin 16) {opc : Nat} {i : EngInstr} {hits : List EccHit} {body : State → State}
    (hform : engForm opc i = true) (hbody : ∀ v, Sound s v → Sound s (body v)) : Completes s (runEng p e opc i hits body u) := by
  unfold Machine.runEng
  extract_lets w
  have hw : Sound s w.1 := h.engWait _ _ _
  rw [if_pos hform]
  exact .ite h.next (.ite (((hbody _ (hw.eccHits _ _)).popEng _ _ _).engSignal _ _).next hw.next)

theorem Sound.countRelaxed (p e : Nat) : Sound s (u.countRelaxed p e) := (((h.count _ _).arith _ _ _).modPart _ _).noteAt _ _

theorem Sound.putRow (p a : Nat) (acc : Bool) (row : List (Nat × Nat × Bool)) : Sound s (u.putRow p a acc row).1 := h.storeWriteP _ _ _

theorem Sound.putRows (p a : Nat) (acc : Bool) (l : List (List (Nat × Nat × Bool))) (i : Nat) : Sound s (u.putRows p a acc l i).1 := by
  induction l generalizing u i with
  | nil => exact h
  | cons row t ih => exact ih (h.putRow _ _ _ _) _

theorem Sound.mmaOsBlocks (p e : Nat) (i : EngInstr) (A B B6 : BlkFmt) : Sound s (mmaOsBlocks p e i A B B6 u) := by
  unfold Machine.mmaOsBlocks
  extract_lets len rows cols rel lists listPoison src rx s1 fa FA out w fr bad s2 s3
  have hs1 : Sound s s1 := .ite ((h.setRnd _ _ _).countRelaxed _ _) h
  refine .ite ?_ ?_
  · exact ((hs1.putRows _ _ _ _ _).notePoison _ _).arith _ _ _
  · exact ((((hs1.freeBytes _).storeWriteP _ _ _).raise _ _ _ _ _).noteAt _ _).notePoison _ _

theorem Sound.mmaOsHalf (p e : Nat) (i : EngInstr) : Sound s (mmaOsHalf p e i u) := ((h.putRows _ _ _ _ _).notePoison _ _).arith _ _ _

theorem Sound.mmaOs (p e : Nat) (i : EngInstr) : Sound s (mmaOs p e i u) := by
  unfold Machine.mmaOs
  split
  · exact h.mmaOsBlocks _ _ _ _ _ _
  · exact h.mmaOsHalf _ _ _

theorem Sound.freeOrder (n : Nat) (l : List Nat) : Sound s (u.freeOrder n l).2 := by
  induction n generalizing u l with
  | zero => exact h
  | succ n ih => exact ih (h.freeNat _) _

theorem Sound.mmaWsRows (p e : Nat) (i : EngInstr) (rel : Bool) (n r : Nat) : Sound s (mmaWsRows p e i rel n r u) := by
  induction n generalizing u r with
  | zero => exact h
  | succ n ih =>
    unfold Machine.mmaWsRows
    extract_lets w src addr parts s1 fa FA tiles ord acc ca row marked bytes s2 s3 s4
    have hs1 : Sound s s1 := .ite (h.setRnd _ _ _) h
    have hs2 : Sound s s2 := (hs1.freeOrder _ _).storeWriteP _ _ _
    have hs3 : Sound s s3 := hs2.other
    exact ih (hs3.notePoison _ _ |>.arith _ _ _) _

theorem Sound.mmaWs (p e : Nat) (i : EngInstr) : Sound s (mmaWs p e i u) := (Sound.ite (h.countRelaxed _ _) h).mmaWsRows _ _ _ _ _ _

theorem Sound.elems (p e fo : Nat) {f : Nat → State → (Nat × Nat × Bool) × State} (hf : ∀ k v, Sound s v → Sound s (f k v).2) (n k : Nat) :
    Sound s (u.elems p e fo f n k).1 := by
  induction n generalizing u k with
  | zero => exact h
  | succ n ih => exact ih ((hf _ _ h).setRnd _ _ _) _

theorem Sound.mapElems (p e fo : Nat) {f : Nat → State → (Nat × Nat × Bool) × State} (hf : ∀ k v, Sound s v → Sound s (f k v).2)
    (dst n : Nat) : Sound s (u.mapElems p e fo f dst n).1 := (h.elems p e fo hf n 0).storeWriteP _ _ _

theorem Sound.vecEnd (a : Nat × Bool) (p e : Nat) : Sound s (State.vecEnd (u, a) p e) := (h.notePoison _ _).arith _ _ _

theorem Sound.vecEw (p e : Nat) (i : EngInstr) : Sound s (vecEw p e i u) :=
  (h.mapElems p e i.fo (fun _ _ hv => hv) i.addrC.toNat (i.len.toNat * 64)).vecEnd _ _ _

theorem Sound.vecRed (p e : Nat) (i : EngInstr) : Sound s (vecRed p e i u) :=
  (h.mapElems p e 7 (fun _ _ hv => hv) i.addrC.toNat i.len.toNat).vecEnd _ _ _

theorem Sound.actVal (tab : ActTab) (x : Nat) : Sound s (u.actVal tab x).2 := by
  unfold State.actVal
  split
  · exact h
  · split
    · exact h
    · exact h.freeNat 2
    · exact h.freeNat 256

theorem Sound.actVals (tab : ActTab) (l : List Nat) : Sound s (u.actVals tab l).2 := by
  induction l generalizing u with
  | nil => exact h
  | cons x t ih => exact ih (h.actVal _ _)

theorem Sound.vecAct (p e : Nat) (i : EngInstr) : Sound s (vecAct p e i u) :=
  (h.mapElems p e i.fo (fun _ _ hv => hv.actVal _ _) i.addrC.toNat (i.len.toNat * 64)).vecEnd _ _ _

theorem Sound.vecTload (p e : Nat) (i : EngInstr) : Sound s (vecTload p e i u) := h.other.notePoison _ _

theorem Sound.freeRecip (k x : Nat) : Sound s (u.freeRecip k x).2 := by
  unfold State.freeRecip
  split
  · exact h
  · split
    · exact h.freeNat (2 ^ 32)
    · exact h.freeNat (recipChoices k (fvalOf 23 x)).length

theorem Sound.vecRecip (p e : Nat) (i : EngInstr) : Sound s (vecRecip p e i u) :=
  (h.mapElems p e i.fo (fun _ _ hv => hv.freeRecip _ _) i.addrC.toNat (i.len.toNat * 64)).vecEnd _ _ _

theorem Sound.vecSoftmax (p e : Nat) (i : EngInstr) : Sound s (vecSoftmax p e i u) :=
  ((((h.actVals _ _).freeOrder _ _).freeRecip _ _).storeWriteP _ _ _ |>.notePoison _ _).arith _ _ _

theorem Sound.quantBlocks (p e : Nat) (i : EngInstr) (f : BlkFmt) (n b : Nat) : Sound s (quantBlocks p e i f n b u).1 := by
  induction n generalizing u b with
  | zero => exact h
  | succ n ih => exact ih (h.setRnd _ _ _) _

theorem Sound.quantOp (p e : Nat) (i : EngInstr) : Sound s (quantOp p e i u) := by
  unfold Machine.quantOp
  split
  · extract_lets r s1 s2
    have hs1 : Sound s s1 := (h.quantBlocks _ _ _ _ _ _).storeWriteP _ _ _
    have hs2 : Sound s s2 := .ite (hs1.storeWriteP _ _ _) hs1
    exact hs2.vecEnd _ _ _
  · exact h

theorem Sound.dequantOp (p e : Nat) (i : EngInstr) : Sound s (dequantOp p e i u) := by
  unfold Machine.dequantOp
  split
  · exact (h.storeWriteP _ _ _).vecEnd _ _ _
  · exact h

theorem Sound.copyRow (p src dst n : Nat) (extra : Bool) : Sound s (u.copyRow p src dst n extra) := h.storeWriteP _ _ _

theorem Sound.gatherRows (p : Nat) (i : EngInstr) (scatter : Bool) (m n : Nat) : Sound s (gatherRows p i scatter m n u) := by
  induction m generalizing u n with
  | zero => exact h
  | succ m ih => exact ih (.ite ((h.copyRow _ _ _ _ _).notePoison _ _) ((h.notePoison _ _).noteIndex _ _)) _

theorem Sound.execNop (p : Fin 68) (e : Fin 16) (i : EngInstr) (hform : engForm 0x00 i = true) : Completes s (execNop p e i u) :=
  h.runEng p e hform fun _ hv => hv

theorem Sound.execMmaOs (p : Fin 68) (e : Fin 16) (i : EngInstr) (l : List EccHit) (hform : engForm 0x01 i = true) :
    Completes s (execMmaOs p e i l u) := h.runEng p e hform fun _ hv => hv.mmaOs _ _ _

theorem Sound.execMmaWs (p : Fin 68) (e : Fin 16) (i : EngInstr) (l : List EccHit) (hform : engForm 0x02 i = true) :
    Completes s (execMmaWs p e i l u) := h.runEng p e hform fun _ hv => hv.mmaWs _ _ _

theorem Sound.execVecEw (p : Fin 68) (e : Fin 16) (i : EngInstr) (l : List EccHit) (hform : engForm 0x10 i = true) :
    Completes s (execVecEw p e i l u) := h.runEng p e hform fun _ hv => hv.vecEw _ _ _

theorem Sound.execVecRed (p : Fin 68) (e : Fin 16) (i : EngInstr) (l : List EccHit) (hform : engForm 0x11 i = true) :
    Completes s (execVecRed p e i l u) := h.runEng p e hform fun _ hv => hv.vecRed _ _ _

theorem Sound.execVecAct (p : Fin 68) (e : Fin 16) (i : EngInstr) (l : List EccHit) (hform : engForm 0x12 i = true) :
    Completes s (execVecAct p e i l u) := h.runEng p e hform fun _ hv => hv.vecAct _ _ _

theorem Sound.execVecTload (p : Fin 68) (e : Fin 16) (i : EngInstr) (l : List EccHit) (hform : engForm 0x13 i = true) :
    Completes s (execVecTload p e i l u) := h.runEng p e hform fun _ hv => hv.vecTload _ _ _

theorem Sound.execVecSoftmax (p : Fin 68) (e : Fin 16) (i : EngInstr) (l : List EccHit) (hform : engForm 0x14 i = true) :
    Completes s (execVecSoftmax p e i l u) := h.runEng p e hform fun _ hv => hv.vecSoftmax _ _ _

theorem Sound.execVecRecip (p : Fin 68) (e : Fin 16) (i : EngInstr) (l : List EccHit) (hform : engForm 0x15 i = true) :
    Completes s (execVecRecip p e i l u) := h.runEng p e hform fun _ hv => hv.vecRecip _ _ _

theorem Sound.execQuant (p : Fin 68) (e : Fin 16) (i : EngInstr) (l : List EccHit) (hform : engForm 0x18 i = true) :
    Completes s (execQuant p e i l u) := h.runEng p e hform fun _ hv => hv.quantOp _ _ _

theorem Sound.execDequant (p : Fin 68) (e : Fin 16) (i : EngInstr) (l : List EccHit) (hform : engForm 0x19 i = true) :
    Completes s (execDequant p e i l u) := h.runEng p e hform fun _ hv => hv.dequantOp _ _ _

theorem Sound.execGather (p : Fin 68) (e : Fin 16) (i : EngInstr) (l : List EccHit) (hform : engForm 0x1A i = true) :
    Completes s (execGather p e i l u) := h.runEng p e hform fun _ hv => hv.gatherRows _ _ _ _ _

theorem Sound.execScatter (p : Fin 68) (e : Fin 16) (i : EngInstr) (l : List EccHit) (hform : engForm 0x1B i = true) :
    Completes s (execScatter p e i l u) := h.runEng p e hform fun _ hv => hv.gatherRows _ _ _ _ _

theorem Sound.execSync (p : Fin 68) (e : Fin 16) (i : EngInstr) (hform : engForm 0x20 i = true) : Completes s (execSync p e i u) :=
  h.runEng p e hform fun _ hv => hv

theorem Sound.execEnd (p : Fin 68) (e : Fin 16) (i : EngInstr) (hform : engForm 0x3F i = true) : Completes s (execEnd p e i u) :=
  h.runEng p e hform fun _ hv => hv

theorem Sound.execTokenWait (p : Fin 68) (unit : Fin 21) (glob : Bool) (t n : BitVec 8) : Completes s (execTokenWait p unit glob t n u) := by
  unfold Machine.execTokenWait
  refine .ite ?_ ?_
  · exact h.next
  · split
    · exact h.next
    · exact (h.waitOn _ _ _).next

theorem Sound.execTokenWaitRelease (p : Fin 68) (glob : Bool) (t : BitVec 8) : Completes s (execTokenWaitRelease p glob t u) := by
  unfold Machine.execTokenWaitRelease
  split
  · exact h.next
  · exact (h.tokRelease _).next

theorem Sound.execTokenSignal (p : Fin 68) (glob : Bool) (t n : BitVec 8) : Completes s (execTokenSignal p glob t n u) := by
  unfold Machine.execTokenSignal
  refine .ite ?_ ?_
  · exact h.next
  · split
    · exact h.next
    · exact (h.tokAdd _ _).next

theorem Sound.execStallTimeout (p : Fin 68) (unit : Fin 21) : Completes s (execStallTimeout p unit u) :=
  .ite (((h.setReg _ _ _).raise _ _ _ _ _).next) h.next

/-! ### Memory -/

theorem Sound.memLine (k a : Nat) (l : List (Option Byte)) (poison : Bool) : Sound s (u.memLine k a l poison) :=
  .ite (h.setMemPoison _ _ _) (.ite h ((h.memPut _ _ _).setMemPoison _ _ _))

theorem Sound.sweepShow : Sound s u.sweepShow := h.foldl _ fun _ _ hv => hv.wr _ _ _

theorem Sound.sweepDone (n : Nat) : Sound s (u.sweepDone n) := by
  unfold State.sweepDone
  extract_lets old s1 s2
  have hs2 : Sound s s2 := by
    unfold s2
    split
    · exact h.other
    · exact (h.other.raise _ _ _ _ _).foldl _ fun _ _ hv => hv.raiseBit _ _
  exact hs2.wr _ _ _

theorem Sound.countOld (n : Nat) : Sound s (u.countOld n) := (Sound.ite ((h.wr _ _ _).sweepDone _) (h.wr _ _ _)).sweepShow

theorem Sound.convert (k f : Nat) : Sound s (u.convert k f) := by
  unfold State.convert
  extract_lets was p s1
  refine .ite ?_ ?_
  · split
    · exact h.other.countOld _
    · exact h.other
  · exact h.other

theorem Sound.memOp (k : Nat) (x : Nat × Option (List (Option Byte) × Bool)) : Sound s (u.memOp k x) := by
  unfold State.memOp
  split
  · exact h.memLine _ _ _ _
  · exact h.emit _

theorem Sound.convEnd (c : Conv) : Sound s (u.convEnd c) := (h.other.convert _ _).foldl _ fun _ _ hv => hv.memOp _ _

theorem Sound.settled (k f : Nat) : Sound s (u.settled k f) := by
  unfold State.settled
  split
  · exact h.convEnd _
  · exact h

theorem Sound.memWriteLine (k a : Nat) (l : List (Option Byte)) (poison : Bool) : Sound s (u.memWriteLine k a l poison) :=
  .ite h ((Sound.ite ((h.settled _ _).convert _ _) (h.settled _ _)).memLine _ _ _ _)

theorem Sound.spareRow (h' : StackHit) : Sound s (u.spareRow h') := .ite h h.other

theorem Sound.stackUE (h' : StackHit) : Sound s (u.stackUE h') := by
  unfold State.stackUE
  extract_lets k a s0 s1 s2
  have hs0 : Sound s s0 := .ite (h.setMemPoison _ _ _) h
  have hs2 : Sound s s2 := .ite (hs0.count _ _) ((((hs0.count _ _).wr _ _ _).wr _ _ _).wr _ _ _)
  exact (hs2.raise _ _ _ _ _).spareRow _

theorem Sound.stackCE (h' : StackHit) : Sound s (u.stackCE h') :=
  .ite (((h.other.count _ _).raise _ _ _ _ _).spareRow _) ((h.other.count _ _).raise _ _ _ _ _)

theorem Sound.stackWrong (h' : StackHit) : Sound s (u.stackWrong h') := .ite ((h.freeBytes _).memPut _ _ _) h

theorem Sound.stackHit (h' : StackHit) : Sound s (u.stackHit h') := by
  unfold State.stackHit
  extract_lets r
  refine .ite ?_ ?_
  · exact h
  · refine .ite ?_ ?_
    · exact h.stackCE _
    · refine .ite ?_ ?_
      · exact h.stackUE _
      · exact .ite ((h.freeNat _).stackUE _) (.ite (((h.freeNat _).stackWrong _).stackCE _) ((h.freeNat _).stackWrong _))

theorem Sound.stackHits (l : List StackHit) : Sound s (u.stackHits l) := by
  unfold State.stackHits
  refine Sound.foldl ?_ _ fun v x hv => ?_
  · exact h
  · exact hv.stackHit _

theorem Sound.waitMem (k a : Nat) (w : Option (List (Option Byte) × Bool)) : Sound s (u.waitMem k a w) := .ite h.other h.other

theorem Sound.drawKey : Sound s u.drawKey.2 := h.freeNat _

theorem Sound.zeroFill (mask base frames : Nat) (loan : Bool) (owner : Nat) : Sound s (u.zeroFill mask base frames loan owner) :=
  h.foldl _ fun _ _ hv => hv.other.wr _ _ _

theorem Sound.zeroFillEnd (z : ZFill) : Sound s (u.zeroFillEnd z) := by
  unfold State.zeroFillEnd
  extract_lets s1 s2
  have hs1 : Sound s s1 := h.withMem ⟨rfl, rfl⟩ fun e => by
    rw [State.memWf_iff] at e ⊢
    exact ⟨⟨e.1.1, Assoc.wf_filter 0 _ _ e.1.2⟩, e.2.1, Assoc.wf_filter false _ _ e.2.2⟩
  exact Sound.raise (.ite hs1 (hs1.wr _ _ _)) _ _ _ _ _

theorem Sound.spanSettled (n o len : Nat) : Sound s (u.spanSettled n o len) := .ite h (h.foldl _ fun _ _ hv => hv.settled _ _)

theorem Sound.partWrite (n o : Nat) (l : List Byte) (poison : Bool) : Sound s (u.partWrite n o l poison) :=
  h.foldl _ fun _ _ hv => .ite hv (hv.memWriteLine _ _ _ _)

/-! ### Decomp -/

omit h in
theorem Sound.zadd {r : ZOut × State} (hr : Sound s r.2) (x : ZFrame) : Sound s (State.zadd r x).2 := by
  unfold State.zadd
  cases x with
  | away =>
    dsimp only
    exact hr.freeBytes 4096
  | bytes l => exact hr
  | bad k => exact hr
  | poison k => exact hr
  | outside o => exact hr

theorem Sound.decodeObject (n o first len : Nat) : Sound s (u.decodeObject n o first len).2 := by
  have hall (l : List ZFrame) : Sound s (l.foldl State.zadd ({}, u)).2 := h.foldSnd _ fun _ _ hr => hr.zadd _
  unfold State.decodeObject
  extract_lets count all r
  show Sound s r.2
  unfold r
  split
  · exact hall _
  · exact hall _
  · exact hall _
  · split
    · exact hall _
    · exact h.foldSnd _ fun _ _ hr => hr.zadd _

/-! ### Guard -/

theorem Sound.reject (master target kind addr : Nat) : Sound s (u.reject master target kind addr) := by
  unfold State.reject
  extract_lets s1 s2 key old
  have hs2 : Sound s s2 := .ite (h.count _ _) (((((((h.count _ _).wr _ _ _).wr _ _ _).wr _ _ _).wr _ _ _).wr _ _ _).wr _ _ _)
  exact .ite (hs2.raiseBit _ _) (hs2.other.raise _ _ _ _ _)

theorem Sound.addSeal (n a b : Nat) : ∀ t, u.addSeal n a b = some t → Sound s t := by
  intro t ht
  unfold State.addSeal at ht
  obtain ⟨r, -, rfl⟩ := Option.map_eq_some_iff.1 ht
  exact (((h.foldl _ fun _ _ hv => (hv.setReg _ _ _).setReg _ _ _).wr _ _ _).wr _ _ _).wr _ _ _

theorem Sound.clearSeals (n : Nat) : Sound s (u.clearSeals n) := h.foldl _ fun _ _ hv => (hv.setReg _ _ _).setReg _ _ _

theorem Sound.clearWins (n : Nat) : Sound s (u.clearWins n) := h.other

/-! ### Seam -/

theorem Sound.modLink (j : Nat) (f : Link → Link) : Sound s (u.modLink j f) := h.other

theorem Sound.portStat (p : Nat) : Sound s (u.portStat p) := by
  unfold State.portStat
  extract_lets ups lanes s1
  split
  · exact ((h.wr _ _ _).wr _ _ _).wr _ _ _
  · exact (h.wr _ _ _).wr _ _ _

theorem Sound.linkWidth (j : Nat) : Sound s (u.linkWidth j) := (Sound.ite ((h.wr _ _ _).wr _ _ _) (h.wr _ _ _)).portStat _

theorem Sound.raisePort (f : Fld) (j sev : Nat) : Sound s (u.raisePort f j sev) := (h.wr _ _ _).raise _ _ _ _ _

theorem Sound.sendCtrl (j : Nat) (m : CtrlMsg) : Sound s (u.sendCtrl j m) := h.modLink _ _

theorem Sound.setLanes (p : Nat) (lanes : List Nat) (st : Nat) : Sound s (u.setLanes p lanes st) := h.foldl _ fun _ _ hv => hv.wr _ _ _

theorem Sound.ctrlNow (j : Nat) (m : CtrlMsg) : Sound s (u.ctrlNow j m) := .ite (h.sendCtrl _ _) ((h.modLink _ _).emit _)

theorem Sound.nextKeep (j : Nat) : Sound s (u.nextKeep j) := by
  unfold State.nextKeep
  split
  · exact (h.setLanes _ _ _).portStat _
  · exact h

theorem Sound.dropLanes (j : Nat) (lanes : List Nat) (st : Nat) (note : Bool) : Sound s (u.dropLanes j lanes st note) := by
  unfold State.dropLanes
  extract_lets s0 keep s1 s2
  have hs2 : Sound s s2 := ((Sound.ite ((h.setLanes _ _ _).nextKeep _) (h.setLanes _ _ _)).linkWidth _).modLink _ _
  exact .ite (hs2.raisePort _ _ _) hs2

theorem Sound.replayFrom (j : Nat) : Sound s (u.replayFrom j) := .ite (h.modLink _ _) ((h.modLink _ _).count _ _)

theorem Sound.clearLink (j st : Nat) : Sound s (u.clearLink j st) := (((((h.wr _ _ _).modLink _ _).wr _ _ _).wr _ _ _).setLanes _ _ _).portStat _

/-! ### Route -/

theorem Sound.enqueue (j : Nat) (p : Packet) (extra_ : Bool) : Sound s (u.enqueue j p extra_) := .ite h (.ite h.other (h.modLink _ _))

theorem Sound.dropPacket : Sound s u.dropPacket := h.count _ _

theorem Sound.bobSignal (p : Nat) (d : BobDesc) : Sound s (u.bobSignal p d) := by
  unfold State.bobSignal
  refine .ite ?_ ?_
  · split
    · exact h.tokAdd _ _
    · exact h
  · exact h

theorem Sound.modDesc (id : Nat) (f : DescRun → DescRun) : Sound s (u.modDesc id f) := h.other

theorem Sound.endDesc (d : DescRun) : Sound s (u.endDesc d) := by
  unfold State.endDesc
  extract_lets src s1 s2
  have hs1 : Sound s s1 := h.other
  have hs2 : Sound s s2 := .ite hs1 (hs1.modRun _ _)
  exact .ite hs1.other (hs2.bobSignal _ _)

theorem Sound.tryEnd (id : Nat) : Sound s (u.tryEnd id) := by
  unfold State.tryEnd
  split
  · exact .ite (h.endDesc _) h
  · exact h

theorem Sound.newDesc (n unit : Nat) : Sound s (u.newDesc n unit).2 := h.other

theorem Sound.closeDesc (id : Nat) : Sound s (u.closeDesc id) := (h.modDesc _ _).tryEnd _

theorem Sound.failDesc (desc : Option Nat) (status origin : Nat) : Sound s (u.failDesc desc status origin) := by
  unfold State.failDesc
  extract_lets src
  split
  · exact h
  · exact h.other.modDesc _ _

theorem Sound.settle (desc : Option Nat) (n : Nat) : Sound s (u.settle desc n) := by
  unfold State.settle
  split
  · exact h
  · exact h.modDesc _ _

theorem Sound.unsettle (desc : Option Nat) : Sound s (u.unsettle desc) := by
  unfold State.unsettle
  split
  · exact h
  · exact h.modDesc _ _

theorem Sound.setTx (k : Nat) (f : TxFlow) : Sound s (u.setTx k f) := h.other

theorem Sound.addPeer (n m : Nat) : Sound s (u.addPeer n m) := h.other

theorem Sound.clearPeers (n : Nat) : Sound s (u.clearPeers n) := h.other

theorem Sound.sendNow (p : Packet) (desc : Option Nat) : Sound s (u.sendNow p desc) := by
  unfold State.sendNow
  extract_lets k f q
  split
  · exact ((h.raise _ _ _ _ _).failDesc _ _ _).settle _ _
  · exact (h.setTx _ _).enqueue _ _ _

theorem Sound.inject (p : Packet) (desc : Option Nat) : Sound s (u.inject p desc) := by
  unfold State.inject
  extract_lets d s1 s2 k f
  have hs1 : Sound s s1 := .ite h (h.addPeer _ _)
  exact .ite (h.failDesc _ _ _) (.ite ((hs1.unsettle _).sendNow _ _) ((hs1.unsettle _).setTx _ _))

theorem Sound.pump (k n : Nat) : Sound s (u.pump k n) := by
  induction n generalizing u with
  | zero => exact h
  | succ n ih =>
    unfold State.pump
    extract_lets f
    split
    · exact h
    · exact .ite (ih ((h.setTx _ _).sendNow _ _)) h

theorem Sound.sendLoose (p : Packet) : Sound s (u.sendLoose p) := by
  unfold State.sendLoose
  extract_lets q
  split
  · exact h
  · exact h.enqueue _ _ _

theorem Sound.forget (k : Nat) (u' : Unacked) : Sound s (u.forget k u') := by
  unfold State.forget
  extract_lets src s1 src' s2
  split
  · exact ((h.other.setTx _ _).settle _ _).tryEnd _
  · exact h.other.setTx _ _

theorem Sound.giveUp (k : Nat) (u' : Unacked) : Sound s (u.giveUp k u') := (h.failDesc _ _ _).forget _ _

theorem Sound.pathless (p : Packet) : Sound s (u.pathless p) := by
  unfold State.pathless
  extract_lets k
  split
  · exact h
  · exact (h.raise _ _ _ _ _).giveUp _ _

theorem Sound.resend (k : Nat) (u' : Unacked) : Sound s (u.resend k u') := by
  unfold State.resend
  extract_lets src q s1 src' s2
  refine .ite ?_ ?_
  · exact h
  · split
    · exact ((h.count _ _).setTx _ _).pathless _
    · exact ((h.count _ _).setTx _ _).enqueue _ _ _

theorem Sound.notePart (n origin : Nat) (b : Bool) : Sound s (u.notePart n origin b) := .ite (h.modRun _ _) h

theorem Sound.issueGet (n : Nat) (id : Option Nat) (req : Packet) (len : Nat) (dst : Dest) (bad : Bool) :
    Sound s (u.issueGet n id req len dst bad) :=
  h.other.inject _ _

theorem Sound.putLines (n : Nat) (desc : Option Nat) (ord : Bool) (flow m part : Nat) (space : Bool) (addr : Nat) (l : List (Byte × Bool)) :
    Sound s (u.putLines n desc ord flow m part space addr l) :=
  h.inject _ _

theorem Sound.mergeLine (n : Nat) (desc : Option Nat) (ord : Bool) (flow m slot off : Nat) (l : List (Byte × Bool)) :
    Sound s (u.mergeLine n desc ord flow m slot off l) :=
  h.issueGet _ _ _ _ _ _

theorem Sound.loanWrite (n : Nat) (desc : Option Nat) (ord : Bool) (flow m slot off : Nat) (l : List (Byte × Bool)) :
    Sound s (u.loanWrite n desc ord flow m slot off l) := by
  unfold State.loanWrite
  extract_lets h' body s1 s2
  have hs1 : Sound s s1 := .ite h (h.mergeLine _ _ _ _ _ _ _ _)
  have hs2 : Sound s s2 := .ite hs1 (hs1.putLines _ _ _ _ _ _ _ _ _)
  exact .ite hs2 (hs2.mergeLine _ _ _ _ _ _ _ _)

theorem Sound.pageWriteMem (n : Nat) (desc : Option Nat) (ord : Bool) (flow o : Nat) (l : List (Byte × Bool)) :
    Sound s (u.pageWriteMem n desc ord flow o l) := by
  unfold State.pageWriteMem
  split
  · exact h.foldl _ fun _ _ hv => hv.partWrite _ _ _ _
  · exact h.loanWrite _ _ _ _ _ _ _ _
  · exact (h.reject _ _ _ _).failDesc _ _ _

theorem Sound.writeDest (n : Nat) (desc : Option Nat) (ord : Bool) (flow : Nat) (d : Dest) (l : List (Byte × Bool)) :
    Sound s (u.writeDest n desc ord flow d l) := by
  unfold State.writeDest
  split
  · exact .ite (h.pageWriteMem _ _ _ _ _ _) ((h.pageWriteMem _ _ _ _ _ _).pageWriteMem _ _ _ _ _ _)
  · exact h.storeWriteP _ _ _
  · exact h.putLines _ _ _ _ _ _ _ _ _
  · exact h.other
  · exact h.modDesc _ _
  · exact .ite h (h.putLines _ _ _ _ _ _ _ _ _)

theorem Sound.setRx (k : Nat) (f : RxFlow) : Sound s (u.setRx k f) := h.other

theorem Sound.sendAck (k : Nat) : Sound s (u.sendAck k) := (h.setRx _ _).sendLoose _

theorem Sound.noteStall (k : Nat) (p : Packet) : Sound s (u.noteStall k p) := by
  unfold State.noteStall
  extract_lets src s0
  split
  · exact .ite (.ite (.ite ((h.other.wr _ _ _).raise _ _ _ _ _) (h.other.wr _ _ _)) h.other) h
  · exact h

theorem Sound.ackDue (k : Nat) : Sound s (u.ackDue k) := .ite (h.sendAck _) h

theorem Sound.recvNote (x : Note) {f : State → State} (hf : ∀ v, Sound s v → Sound s (f v)) : Sound s (u.recvNote x f) :=
  .ite h.dropPacket ((hf _ (h.setRx _ _)).ackDue _)

/-! ### Coll -/

theorem Sound.readLocal (n : Nat) (d : Dest) (len : Nat) : Sound s (u.readLocal n d len).2 := by
  unfold State.readLocal
  extract_lets r
  split
  · exact h
  · exact h.freeBytes _
  · exact h.freeBytes _

theorem Sound.collIn (c : Coll) (off len : Nat) : Sound s (u.collIn c off len).2 := by
  refine h.foldSnd _ fun r x hr => ?_
  extract_lets o
  split
  · exact hr.readLocal _ _ _
  · exact hr

theorem Sound.modColl (c : Coll) (f : Coll → Coll) : Sound s (u.modColl c f) := h.other

theorem Sound.collOut (c : Coll) (off : Nat) (l : List (Byte × Bool)) : Sound s (u.collOut c off l) := by
  unfold State.collOut
  extract_lets d s1
  have hs1 : Sound s s1 := by
    unfold s1
    dsimp only
    refine Sound.foldl ?_ _ fun v x hv => ?_
    · exact h
    · split
      · exact hv.writeDest _ _ _ _ _ _
      · exact hv
  exact hs1.modColl _ _

theorem Sound.sendCtl (c : Coll) (dst kind count : Nat) : Sound s (u.sendCtl c dst kind count) := h.inject _ _

theorem Sound.sendData (c : Coll) (dst step off : Nat) (l : List (Byte × Bool)) : Sound s (u.sendData c dst step off l) :=
  h.foldl _ fun _ _ hv => hv.inject _ _

theorem Sound.setBusy (n id v : Nat) : Sound s (u.setBusy n id v) := .ite (h.setReg _ _ _) (h.setReg _ _ _)

theorem Sound.collOver (c : Coll) (ok : Bool) : Sound s (u.collOver c ok) := by
  unfold State.collOver
  extract_lets s1 s2 s3
  have hs1 : Sound s s1 := (h.modColl _ _).setBusy _ _ _
  have hs2 : Sound s s2 := .ite hs1 (hs1.raise _ _ _ _ _)
  have hs3 : Sound s s3 := .ite (hs2.modRun _ _) hs2
  split
  · exact hs3.endDesc _
  · exact hs3

theorem Sound.collDecide (c : Coll) : Sound s (u.collDecide c) := by
  unfold State.collDecide
  extract_lets s1
  have hs1 : Sound s s1 := h.foldl _ fun _ _ hv => .ite (hv.sendCtl _ _ _ _) (hv.sendCtl _ _ _ _)
  exact .ite (hs1.collOver _ _) hs1

theorem Sound.collSettle (c : Coll) : Sound s (u.collSettle c) := .ite (h.collDecide _) (h.foldl _ fun _ _ hv => hv.sendCtl _ _ _ _)

theorem Sound.collAbort (c : Coll) : Sound s (u.collAbort c) := .ite (h.collSettle _) (h.sendCtl _ _ _ _)

theorem Sound.collReady (c : Coll) (r : Nat) (bad : Bool) : Sound s (u.collReady c r bad) :=
  .ite ((((h.modColl _ _).modColl _ _).foldl _ fun _ _ hv => hv.sendCtl _ _ _ _).collOver _ _) (h.modColl _ _)

theorem Sound.collCheck (c0 : Coll) : Sound s (u.collCheck c0) :=
  .ite (.ite ((h.modColl _ _).collReady _ _ _) ((h.modColl _ _).sendCtl _ _ _ _)) h

theorem Sound.collCheckAll : Sound s u.collCheckAll := by
  unfold State.collCheckAll
  refine Sound.foldl ?_ _ fun v x hv => ?_
  · exact h
  · exact hv.collCheck _

theorem Sound.collCombine (c : Coll) (p : Nat) (a b : List (Byte × Bool)) : Sound s (u.collCombine c p a b).2 := (h.setRnd _ _ _).modRun _ _

theorem Sound.collTakeDown (c : Coll) (off : Nat) (l : List (Byte × Bool)) : Sound s (u.collTakeDown c off l) :=
  .ite (.ite (h.collOut _ _ _) h) (h.collOut _ _ _)

theorem Sound.collDown (c : Coll) (off : Nat) (l : List (Byte × Bool)) : Sound s (u.collDown c off l) :=
  h.foldl _ fun _ _ hv => hv.sendData _ _ _ _ _

theorem Sound.collRootDone (c : Coll) (off : Nat) (l : List (Byte × Bool)) : Sound s (u.collRootDone c off l) :=
  .ite (h.collOut _ _ _) ((h.collTakeDown _ _ _).collDown _ _ _)

theorem Sound.collMsg (c : Coll) (p step off : Nat) (l : List (Byte × Bool)) : Sound s (u.collMsg c p step off l) := by
  unfold State.collMsg
  extract_lets n next op own r s1 r' s1'
  have hr : Sound s r.2 := (h.collIn _ _ _).collCombine _ _ _ _
  have hs1' : Sound s s1' := (h.collCombine _ _ _ _).modColl _ _
  refine .ite ?_ ?_
  · clear_value op
    split
    · refine .ite ?_ ?_
      · exact .ite (hr.sendData _ _ _ _ _) (.ite (hr.collOut _ _ _) ((hr.collOut _ _ _).sendData _ _ _ _ _))
      · exact .ite ((h.collOut _ _ _).sendData _ _ _ _ _) (h.collOut _ _ _)
    · refine .ite ?_ ?_
      · exact .ite (hr.sendData _ _ _ _ _) (.ite (hr.collOut _ _ _) ((hr.collOut _ _ _).sendData _ _ _ _ _))
      · exact .ite ((h.collOut _ _ _).sendData _ _ _ _ _) (h.collOut _ _ _)
    · exact .ite ((h.collOut _ _ _).sendData _ _ _ _ _) (h.collOut _ _ _)
    · exact .ite (hr.collOut _ _ _) (hr.sendData _ _ _ _ _)
    · exact .ite (h.collOut _ _ _) ((h.collOut _ _ _).sendData _ _ _ _ _)
  · refine .ite ?_ ?_
    · exact (h.collTakeDown _ _ _).collDown _ _ _
    · refine .ite ?_ ?_
      · exact .ite (h.collRootDone _ _ _) (h.sendData _ _ _ _ _)
      · exact .ite hs1' (.ite (hs1'.collRootDone _ _ _) (hs1'.sendData _ _ _ _ _))

theorem Sound.collPiece (c : Coll) (p step from_ off : Nat) (l : List (Byte × Bool)) : Sound s (u.collPiece c p step from_ off l) :=
  .ite (h.modColl _ _) ((h.modColl _ _).collMsg _ _ _ _ _)

theorem Sound.collBegin (c : Coll) : Sound s (u.collBegin c) := by
  unfold State.collBegin
  extract_lets n d op next w x x'
  clear_value op
  split
  · exact .ite (h.collReady _ _ _) (h.sendCtl _ _ _ _)
  · exact h
  · refine .ite ?_ ?_
    · split
      · exact (h.collIn _ _ _).sendData _ _ _ _ _
      · exact (h.collIn _ _ _).sendData _ _ _ _ _
      · exact ((h.collIn _ _ _).collOut _ _ _).sendData _ _ _ _ _
      · exact .ite ((h.collIn _ _ _).sendData _ _ _ _ _) h
      · exact .ite (((h.collIn _ _ _).collOut _ _ _).sendData _ _ _ _ _) h
    · refine .ite ?_ ?_
      · exact .ite (((h.collIn _ _ _).collOut _ _ _).collDown _ _ _) h
      · refine .ite ?_ ?_
        · exact .ite ((h.collIn _ _ _).collRootDone _ _ _) ((h.collIn _ _ _).sendData _ _ _ _ _)
        · refine .ite ?_ ?_
          · exact .ite ((h.collIn _ _ _).collRootDone _ _ _) ((h.collIn _ _ _).sendData _ _ _ _ _)
          · exact (h.collIn _ _ _).modColl _ _

theorem Sound.collOutRow (c : Coll) (pos off : Nat) (l : List (Byte × Bool)) : Sound s (u.collOutRow c pos off l) := by
  unfold State.collOutRow
  split
  · exact (h.writeDest _ _ _ _ _ _).modColl _ _
  · exact h

theorem Sound.allToAll (c : Coll) : Sound s (u.allToAll c) := by
  unfold State.allToAll
  extract_lets d rb rowsN sent
  have hsent : Sound s sent.1 := by
    refine h.foldFst _ fun r i hr => ?_
    extract_lets e dst row x s1
    split
    · exact hr.modRun _ _
    · exact .ite ((hr.collIn _ _ _).collOutRow _ _ _ _) ((hr.collIn _ _ _).sendData _ _ _ _ _)
  exact hsent.foldl _ fun v r hv => hv.sendCtl _ _ _ _

/-! ### Ending -/

theorem Sound.relaxEnd (n : Nat) : Sound s (u.relaxEnd n) := .ite ((h.modPart _ _).record _ _ _ _ _ _ _) h

theorem Sound.sendLend (dst part kind arg : Nat) : Sound s (u.sendLend dst part kind arg) := h.inject _ _

theorem Sound.endLoans (n : Nat) : Sound s (u.endLoans n) := ((h.foldl _ fun _ _ hv => hv.sendLend _ _ _ _).modPart _ _).setReg _ _ _

theorem Sound.endRunning (n status origin : Nat) : Sound s (u.endRunning n status origin) := h.other

theorem Sound.abandon (n : Nat) : Sound s (u.abandon n) := (h.other.stopPattern _).modPart _ _

theorem Sound.endColls (n : Nat) : Sound s (u.endColls n) := h.foldl _ fun _ _ hv => .ite ((hv.collAbort _).collOver _ _) (hv.collAbort _)

theorem Sound.loseRep (n : Nat) : Sound s (u.loseRep n) := .ite (.ite ((h.other.wr _ _ _).raise _ _ _ _ _) h.other) h

theorem Sound.jobEnd (n status origin : Nat) : Sound s (u.jobEnd n status origin) :=
  .ite (((((((h.endRunning _ _ _).endColls _).abandon _).endLoans _).relaxEnd _).loseRep _).wr _ _ _) h

theorem Sound.jobEndAll (status origin : Nat) : Sound s (u.jobEndAll status origin) := h.foldl _ fun _ _ hv => hv.jobEnd _ _ _

theorem Sound.endLoanOut (l : LoanOut) : Sound s (u.endLoanOut l) := .ite h (.ite (h.other.wr _ _ _) (h.zeroFill _ _ _ _ _))

theorem Sound.flood (typ tag : Nat) : Sound s (u.flood typ tag) := h.foldl _ fun _ _ hv => hv.inject _ _

theorem Sound.notice (kind m p l : Nat) : Sound s (u.notice kind m p l) := .ite h (h.other.flood _ _)

theorem Sound.dropFlows (m : Nat) : Sound s (u.dropFlows m) := by
  unfold State.dropFlows
  refine h.foldl _ fun v c hv => ?_
  extract_lets k f s1 tags src s2 ds
  have hs1 : Sound s s1 := hv.setTx _ _
  have hs2 : Sound s s2 := hs1.other
  refine hs2.foldl _ fun w d hw => ?_
  split
  · exact ((hw.failDesc _ _ _).settle _ _).tryEnd _
  · exact hw

theorem Sound.collLost (c : Coll) : Sound s (u.collLost c) := .ite (h.collSettle _) h

theorem Sound.loseModule (m : Nat) : Sound s (u.loseModule m) := by
  unfold State.loseModule
  extract_lets src s1 s2 s3 mask s4
  have hs2 : Sound s s2 := (h.other.raise _ _ _ _ _).dropFlows _
  have hs3 : Sound s s3 := by
    refine Sound.foldl ?_ _ fun v x hv => ?_
    · exact hs2
    · exact hv.collLost _
  have hs4 : Sound s s4 := hs3.foldl _ fun _ _ hv => hv.jobEnd _ _ _
  refine .ite ?_ ?_
  · exact h
  · refine Sound.foldl ?_ _ fun v x hv => ?_
    · exact hs4
    · exact hv.endLoanOut _

theorem Sound.markStale (j : Nat) : Sound s (u.markStale j) := h.foldl _ fun _ _ hv => hv.wr _ _ _

theorem Sound.resendHeld (l : List Packet) : Sound s (u.resendHeld l) := by
  unfold State.resendHeld
  dsimp only
  refine Sound.foldl ?_ _ fun v x hv => ?_
  · exact h
  · split
    · exact (Sound.ite (hv.count _ _) hv).enqueue _ _ _
    · exact .ite (hv.pathless _) (hv.dropPacket.raise _ _ _ _ _)

theorem Sound.faultSeen : Sound s u.faultSeen := ((h.other.wr _ _ _).wr _ _ _).raise _ _ _ _ _

theorem Sound.linkStop (j st : Nat) : Sound s (u.linkStop j st) := (h.clearLink _ _).resendHeld _

theorem Sound.sendDown (j : Nat) (moduleStops : Bool) : Sound s (u.sendDown j moduleStops) := .ite h (h.ctrlNow _ _)

theorem Sound.linkLoss (j : Nat) : Sound s (u.linkLoss j) :=
  (((((((h.sendDown _ _).clearLink _ _).modLink _ _).count _ _).raisePort _ _ _).markStale _).faultSeen).resendHeld _

theorem Sound.peerGone (m j : Nat) (moduleStops : Bool) : Sound s (u.peerGone m j moduleStops) :=
  .ite ((h.notice _ _ _ _).loseModule _) (.ite h (h.other.notice _ _ _ _))

theorem Sound.linkFault (j : Nat) (moduleStops : Bool) : Sound s (u.linkFault j moduleStops) :=
  .ite h (.ite (((h.linkLoss _).notice _ _ _ _).peerGone _ _ _) ((h.linkLoss _).notice _ _ _ _))

theorem Sound.portFault (p : Nat) : Sound s (u.portFault p) := by
  unfold State.portFault
  extract_lets js ms s1
  have hs1 : Sound s s1 := by
    refine Sound.notice ?_ _ _ _ _
    refine Sound.foldl ?_ _ fun v x hv => ?_
    · exact h
    · exact hv.linkLoss _
  exact .ite h (hs1.foldl _ fun _ _ hv => hv.peerGone _ _ _)

theorem Sound.stopFabric : Sound s u.stopFabric := h.foldl _ fun _ _ hv => (hv.sendDown _ _).clearLink _ _

/-! ### Transport -/

theorem Sound.unbox (j : Nat) (p : Packet) : Sound s (u.unbox j p) := .ite (h.other.modLink _ _) h.other

theorem Sound.epochDrop : Sound s u.epochDrop := h.dropPacket.raise _ _ _ _ _

theorem Sound.recvSeq (j : Nat) (p : Packet) {f : Packet → State → State} (hf : ∀ q v, Sound s v → Sound s (f q v)) :
    Sound s (u.recvSeq j p f) := by
  unfold State.recvSeq
  extract_lets s1 k old r s2 s3
  have hs1 : Sound s s1 := h.unbox _ _
  have hs2 : Sound s s2 := .ite hs1.dropPacket hs1
  have hs3 : Sound s s3 := .ite (hs2.noteStall _ _) hs2
  exact .ite hs1.epochDrop (.ite hs1.dropPacket (((hs3.setRx _ _).foldl _ fun _ _ hv => hf _ _ hv).ackDue _))

theorem Sound.refuse (p : Packet) (target kind addr : Nat) : Sound s (u.refuse p target kind addr) := (h.reject _ _ _ _).sendLoose _

theorem Sound.putData (p : Packet) : Sound s (u.putData p) := by
  unfold State.putData
  split
  · exact h.refuse _ _ _ _
  · exact (h.addPeer _ _).foldl _ fun _ _ hv => hv.partWrite _ _ _ _
  · exact (h.addPeer _ _).foldl _ fun _ _ hv => hv.storeWrite _ _ _ _
  · exact h.foldl _ fun _ _ hv => .ite hv (hv.memWriteLine _ _ _ _)

theorem Sound.getAnswer (p : Packet) : Sound s (u.getAnswer p) := by
  unfold State.getAnswer
  extract_lets len g s1 src
  have hs1 : Sound s s1 := by
    unfold s1
    clear_value g
    split
    · exact h
    · exact h.addPeer _ _
  clear_value g
  split
  · exact h.refuse _ _ _ _
  · exact hs1.inject _ _

theorem Sound.release (k : Nat) (f : Unacked → Bool) : Sound s (u.release k f) := by
  unfold State.release
  extract_lets fl gone s1 s2
  have hs2 : Sound s s2 := by
    refine Sound.foldl ?_ _ fun v x hv => ?_
    · exact h.setTx _ _
    · refine .ite ?_ ?_
      · exact hv
      · split
        · exact (hv.settle _ _).tryEnd _
        · exact hv
  exact (hs2.pump _ _).collCheckAll

theorem Sound.getTake (p : Packet) : Sound s (u.getTake p) := by
  unfold State.getTake
  extract_lets src
  split
  · exact h
  · extract_lets l d s1 s2 s3 s4
    have hs2 : Sound s s2 := h.other.writeDest _ _ _ _ _ _
    have hs3 : Sound s s3 := by
      unfold s3
      clear_value d
      split
      · exact .ite hs2 (hs2.notePart _ _ _)
      · exact hs2
    have hs4 : Sound s s4 := by
      unfold s4
      split
      · exact (hs3.settle _ _).tryEnd _
      · exact hs3
    exact hs4.release _ _

theorem Sound.execPut (j : Fin 145) (p : Packet) : Completes s (execPut j p u) := .ite ((h.recvSeq _ _ (fun _ _ hv => hv.putData _)).next) h.next

theorem Sound.execGetReq (j : Fin 145) (p : Packet) (h' : List StackHit) : Completes s (execGetReq j p h' u) :=
  .ite ((h.recvSeq _ _ (fun _ _ hv => (hv.stackHits _).getAnswer _)).next) h.next

theorem Sound.execGetResp (j : Fin 145) (p : Packet) : Completes s (execGetResp j p u) :=
  .ite ((h.recvSeq _ _ (fun _ _ hv => hv.getTake _)).next) h.next

theorem Sound.execAck (j : Fin 145) (p : Packet) : Completes s (execAck j p u) := by
  unfold Machine.execAck
  extract_lets s'
  refine .ite ?_ ?_
  · refine .ite ?_ ?_
    · exact ((h.unbox _ _).epochDrop).next
    · exact .ite (((h.unbox _ _).dropPacket).next) (((h.unbox _ _).release _ _).next)
  · exact h.next

theorem Sound.execRefuse (j : Fin 145) (p : Packet) : Completes s (execRefuse j p u) := by
  unfold Machine.execRefuse
  extract_lets s' k
  refine .ite ?_ ?_
  · refine .ite ?_ ?_
    · exact ((h.unbox _ _).epochDrop).next
    · refine .ite ?_ ?_
      · exact ((h.unbox _ _).dropPacket).next
      · split
        · exact (h.unbox _ _).next
        · exact (((((h.unbox _ _).failDesc _ _ _).forget _ _).pump _ _).collCheckAll).next
  · exact h.next

theorem Sound.execPacketForward (j : Fin 144) (p : Packet) : Completes s (execPacketForward j p u) := by
  unfold Machine.execPacketForward
  extract_lets s1 h' q
  refine .ite ?_ ?_
  · exact h.next
  · refine .ite ?_ ?_
    · exact ((h.unbox _ _).epochDrop).next
    · refine .ite ?_ ?_
      · exact ((h.unbox _ _).dropPacket).next
      · refine .ite ?_ ?_
        · exact (((h.unbox _ _).dropPacket).raise _ _ _ _ _).next
        · split
          · exact ((h.unbox _ _).enqueue _ _ _).next
          · exact (((h.unbox _ _).dropPacket).raise _ _ _ _ _).next

theorem Sound.execAckTimer : Completes s (execAckTimer u) := (h.foldl _ fun _ _ hv => hv.sendAck _).next

theorem Sound.execE2eTimeout (m : BitVec 12) (cls : BitVec 2) (psn : BitVec 16) : Completes s (execE2eTimeout m cls psn u) := by
  unfold Machine.execE2eTimeout
  extract_lets k
  split
  · exact h.next
  · exact .ite ((h.resend _ _).next) (((h.giveUp _ _).pump _ _).next)

theorem Sound.collRecv (j : Nat) (p : Packet) (find : State → Packet → Option Coll) {f : Coll → Packet → State → State}
    (hf : ∀ c q v, Sound s v → Sound s (f c q v)) : Sound s (u.collRecv j p find f) := by
  refine h.recvSeq _ _ fun q v hv => .ite (hv.refuse _ _ _ _) ?_
  split
  · exact hv
  · exact .ite (hf _ _ _ hv) (.ite (hv.collAbort _) hv)

theorem Sound.execCollData (j : Fin 145) (p : Packet) : Completes s (execCollData j p u) := by
  unfold Machine.execCollData
  refine .ite ?_ ?_
  · refine .ite ?_ ?_
    · exact h.next
    · exact (h.collRecv _ _ _ (fun _ _ _ hv => .ite ((hv.addPeer _ _).collAbort _) (.ite
        ((((hv.addPeer _ _).collOutRow _ _ _ _).modColl _ _).collCheck _) (((hv.addPeer _ _).collPiece _ _ _ _ _ _).collCheck _)))).next
  · exact h.next

theorem Sound.ctlRecv (j : Fin 145) (p : Packet) (kind : Nat) {f : Coll → Packet → State → State}
    (hf : ∀ c q v, Sound s v → Sound s (f c q v)) : Completes s (ctlRecv j p kind f u) :=
  .ite (.ite h.next (h.collRecv _ _ _ hf).next) h.next

theorem Sound.execArrive (j : Fin 145) (p : Packet) : Completes s (execArrive j p u) :=
  h.ctlRecv _ _ _ (fun _ _ _ hv => .ite (hv.collReady _ _ _) hv)

theorem Sound.execReady (j : Fin 145) (p : Packet) : Completes s (execReady j p u) := by
  unfold Machine.execReady
  exact h.ctlRecv _ _ _ (fun _ _ _ hv => .ite hv (.ite (.ite (hv.collReady _ _ _) hv) (.ite ((hv.modColl _ _).collDecide _) (hv.modColl _ _))))

theorem Sound.execCommit (j : Fin 145) (p : Packet) : Completes s (execCommit j p u) :=
  h.ctlRecv _ _ _ (fun _ _ _ hv => .ite ((hv.modColl _ _).collDecide _) (.ite ((hv.modColl _ _).collOver _ _) hv))

theorem Sound.execAbort (j : Fin 145) (p : Packet) : Completes s (execAbort j p u) :=
  h.ctlRecv _ _ _ (fun _ _ _ hv => .ite (hv.collSettle _) (.ite (hv.collOver _ _) hv))

theorem Sound.execCollEnd (j : Fin 145) (p : Packet) : Completes s (execCollEnd j p u) :=
  h.ctlRecv _ _ _ (fun _ _ _ hv => (hv.modColl _ _).collCheck _)

theorem Sound.execQuery (j : Fin 145) (p : Packet) : Completes s (execQuery j p u) := h.ctlRecv _ _ _ (fun _ _ _ hv => hv.sendCtl _ _ _ _)

theorem Sound.resendOld : Sound s u.resendOld := h.foldl _ fun _ _ hv => hv.foldl _ fun _ _ hw => hw.resend _ _

theorem Sound.noteFault (m p l : Nat) : Sound s (u.noteFault m p l) := by
  unfold State.noteFault
  extract_lets here
  refine .ite ?_ ?_
  · exact h
  · refine Sound.notice ?_ _ _ _ _
    refine Sound.resendOld ?_
    refine Sound.foldl ?_ _ fun v x hv => ?_
    · exact h.faultSeen
    · exact hv.markStale _

theorem Sound.execNoticeFault (x : Note) (m : BitVec 12) (p : Fin 18) (l : Fin 9) : Completes s (execNoticeFault x m p l u) :=
  (h.recvNote _ (fun _ hv => hv.noteFault _ _ _)).next

theorem Sound.execNoticeSuspect (x : Note) (m : BitVec 12) : Completes s (execNoticeSuspect x m u) :=
  (h.recvNote _ (fun _ hv => .ite ((hv.notice _ _ _ _).notice _ _ _ _) (hv.notice _ _ _ _))).next

theorem Sound.execNoticeAlive (x : Note) (m : BitVec 12) : Completes s (execNoticeAlive x m u) :=
  (h.recvNote _ (fun _ hv => .ite hv (hv.other.notice _ _ _ _))).next

theorem Sound.execNoticeLost (x : Note) (m : BitVec 12) : Completes s (execNoticeLost x m u) :=
  (h.recvNote _ (fun _ hv => (hv.notice _ _ _ _).loseModule _)).next

theorem Sound.execSuspectTimeout (m : BitVec 12) : Completes s (execSuspectTimeout m u) := .ite (((h.notice _ _ _ _).loseModule _).next) h.next

theorem Sound.epochSwitch (e : Nat) : Sound s (u.epochSwitch e) := by
  unfold State.epochSwitch
  extract_lets b s1 src s2 s3 s4
  have hs1 : Sound s s1 := (((h.wr _ _ _).wr _ _ _).wr _ _ _).wr _ _ _
  have hs3 : Sound s s3 := hs1.other.foldl _ fun _ _ hv => .ite (hv.modLink _ _) hv
  exact (hs3.raise _ _ _ _ _).foldl _ fun _ _ hv => hv.pump _ _

theorem Sound.epochMark (e : Nat) : Sound s (u.epochMark e) := .ite h (.ite ((h.flood _ _).epochSwitch _) ((h.flood _ _).other))

theorem Sound.execEpoch (x : Note) (e : BitVec 16) : Completes s (execEpoch x e u) := (h.recvNote _ (fun _ hv => hv.epochMark _)).next

theorem Sound.putReady (m e : Nat) : Sound s (u.putReady m e) := h.other

theorem Sound.tryEpoch : Sound s u.tryEpoch := .ite (h.epochMark _) h

theorem Sound.execTopoLinkState (x : Note) (m : BitVec 12) (link : Fin 144) (peer : BitVec 12) (linkUp : Bool) (peloton : BitVec 12)
    (srcEn : Bool) :
    Completes s (execTopoLinkState x m link peer linkUp peloton srcEn u) := by
  unfold Machine.execTopoLinkState
  extract_lets key v info
  exact (h.recvNote _ (fun _ hv => .ite (.ite (hv.other.raise _ _ _ _ _) hv) (.ite hv (.ite ((hv.other.flood _ _).raise _ _ _ _ _)
    (hv.other.flood _ _))))).next

theorem Sound.execTopoReady (x : Note) (m : BitVec 12) (e : BitVec 16) : Completes s (execTopoReady x m e u) :=
  (h.recvNote _ (fun _ hv => .ite hv (((hv.putReady _ _).flood _ _).tryEpoch))).next

theorem Sound.execRelay (j : Fin 145) (p : Packet) : Completes s (execRelay j p u) :=
  .ite ((h.recvSeq _ _ (fun _ _ hv => hv.emit _)).next) h.next

theorem Sound.shadowReady : Sound s u.shadowReady := by
  unfold State.shadowReady
  extract_lets s1
  split
  · exact .ite ((h.wr _ _ _).epochSwitch _) (h.wr _ _ _)
  · exact h.wr _ _ _

theorem Sound.routeWrite (bank d : Nat) (lo hi : Option Word) : Sound s (u.routeWrite bank d lo hi) := by
  unfold State.routeWrite
  extract_lets ix s1
  have hs1 : Sound s s1 := by
    unfold s1
    split
    · exact h.setReg _ _ _
    · exact h
  refine .ite ?_ ?_
  · exact h.raise _ _ _ _ _
  · split
    · exact (hs1.setReg _ _ _).wr _ _ _
    · exact hs1

theorem Sound.execShadowRebuild (entries : List (BitVec 12 × Word × Word)) : Completes s (execShadowRebuild entries u) := by
  unfold Machine.execShadowRebuild
  extract_lets b s1 s2 e s3
  have hs1 : Sound s s1 := h.withRegs fun e => e.sublist List.filter_sublist
  have hs2 : Sound s s2 := hs1.foldl _ fun _ _ hv => hv.routeWrite _ _ _ _
  exact .ite h.next (((hs2.wr _ _ _).putReady _ _).shadowReady.flood _ _).tryEpoch.next

theorem Sound.execShadowReadyWrite (ready : Bool) : Completes s (execShadowReadyWrite ready u) :=
  .ite h.next (.ite (h.shadowReady.next) ((h.wr _ _ _).next))

theorem Sound.execEpochSourceTimeout : Completes s (execEpochSourceTimeout u) := .ite ((h.epochMark _).next) h.next

theorem Sound.execEpochDrainEnd : Completes s (execEpochDrainEnd u) := (h.wr _ _ _).next

theorem Sound.execLendOfferAdvertise : Completes s (execLendOfferAdvertise u) := .ite h.next ((h.foldl _ fun _ _ hv => hv.sendLend _ _ _ _).next)

theorem Sound.execLendOffer (j : Fin 145) (p : Packet) : Completes s (execLendOffer j p u) :=
  .ite ((h.recvSeq _ _ (fun _ _ hv => .ite hv.other hv)).next) h.next

theorem Sound.lend (m part n : Nat) : Sound s (u.lend m part n) := by
  unfold State.lend
  extract_lets slot ok d src
  clear_value slot
  split
  · exact ((h.drawKey.other).wr _ _ _).sendLend _ _ _ _
  · exact h.sendLend _ _ _ _

theorem Sound.execLendRequest (j : Fin 145) (p : Packet) : Completes s (execLendRequest j p u) := by
  unfold Machine.execLendRequest
  refine .ite ?_ ?_
  · refine Sound.next ?_
    refine h.recvSeq _ _ fun x0 x1 hv => ?_
    refine .ite ?_ ?_
    · exact hv.lend _ _ _
    · split
      · exact hv.endLoanOut _
      · exact hv
  · exact h.next

/-! ### Bobbin -/

theorem Sound.popBob (u' : Nat) (d : BobDesc) : Sound s (u.popBob u' d) := by
  unfold State.popBob
  split
  · exact .ite h.other h
  · exact h

theorem Sound.bobWait (p u' : Nat) (d : BobDesc) : Sound s (u.bobWait p u' d).1 := by
  unfold State.bobWait
  split
  · split
    · exact h.waitOn _ _ _
    · exact h
  · exact h

theorem Sound.bobAccess (n id target kind addr : Nat) : Sound s (u.bobAccess n id target kind addr) := (h.reject _ _ _ _).failDesc _ _ _

theorem Sound.movePiece (n id : Nat) (d : BobDesc) (src dst : BitVec 64) (so dof len : Nat) (bad : Bool) :
    Sound s (u.movePiece n id d src dst so dof len bad).1 := by
  unfold State.movePiece
  extract_lets a b flow src' req
  split
  · exact h
  · clear_value a
    clear_value b
    split
    · exact h.bobAccess _ _ _ _ _
    · exact h.bobAccess _ _ _ _ _
    · dsimp only
      split
      · split
        · exact ((h.readLocal _ _ _).notePart _ _ _).writeDest _ _ _ _ _ _
        · exact h.issueGet _ _ _ _ _ _
        · exact h.bobAccess _ _ _ _ _
      · exact ((h.readLocal _ _ _).notePart _ _ _).writeDest _ _ _ _ _ _
      · exact h.issueGet _ _ _ _ _ _
      · exact h
    · exact h

theorem Sound.moveRows (n id : Nat) (d : BobDesc) (src dst : BitVec 64) (rows : List RowMove) : Sound s (u.moveRows n id d src dst rows).1 :=
  h.foldFst _ fun _ _ hr => hr.foldFst _ fun _ _ hs => hs.foldFst _ fun _ _ ht => ht.movePiece _ _ _ _ _ _ _ _ _

theorem Sound.bobList (n id p : Nat) (d : BobDesc) (fmt : Option Nat) (data : Option (List (Byte × Bool))) :
    Sound s (u.bobList n id p d fmt data) := by
  unfold State.bobList
  dsimp only
  split
  · exact h
  · refine .ite ?_ ?_
    · refine Sound.bobAccess ?_ _ _ _ _ _
      split
      · exact h
      · exact h.freeNat _
    · split
      · refine Sound.foldl ?_ _ fun v x hv => ?_
        · split
          · exact h
          · exact h.freeNat _
        · exact hv.storeWriteP _ _ _
      · refine Sound.foldl ?_ _ fun v x hv => ?_
        · split
          · exact h
          · exact h.freeNat _
        · exact (hv.freeNat _).storeWriteP _ _ _

theorem Sound.fetchIndex (n id : Nat) (d : BobDesc) : Sound s (u.fetchIndex n id d) := by
  unfold State.fetchIndex
  extract_lets len src req
  dsimp only
  refine Sound.foldl ?_ _ fun v x hv => ?_
  · exact h
  · refine Sound.foldl ?_ _ fun v x hv => ?_
    · exact hv
    · split
      · split
        · exact hv.issueGet _ _ _ _ _ _
        · exact (hv.readLocal _ _ _).modDesc _ _
      · exact hv.issueGet _ _ _ _ _ _
      · exact hv

theorem Sound.relRefuse (n id kind : Nat) (a : BitVec 64) (arg : Nat) : Sound s (u.relRefuse n id kind a arg) := h.bobAccess _ _ _ _ _

end

end Sys2Proof.Machine
end

section
/-! PROOFS.  What every command keeps, function by function (2 of 6): the order of the model's definitions, the first of which
call no other. -/

namespace Sys2Proof.Machine

section
variable {s t u v : State} (h : Sound s u)
include h

/-! ### Bobbin -/

theorem Sound.bobIssue (n id : Nat) (d : BobDesc) {body : Nat → Nat → BitVec 64 → BitVec 64 → State → State}
    (hbody : ∀ n id a b v, Sound s v → Sound s (body n id a b v)) : Sound s (u.bobIssue n id d body) := by
  unfold State.bobIssue
  extract_lets args sel
  split
  · exact (hbody _ _ _ _ _ h).closeDesc _
  · exact (h.relRefuse _ _ _ _ _).closeDesc _
  · exact (h.relRefuse _ _ _ _ _).closeDesc _

theorem Sound.runBobIn (p b : Nat) (d : BobDesc) (l : List EccHit) (m : List StackHit)
    {body : Nat → Nat → BitVec 64 → BitVec 64 → State → State} (hbody : ∀ n id a b v, Sound s v → Sound s (body n id a b v)) :
    Sound s (u.runBobIn p b d l m body) := by
  unfold State.runBobIn
  extract_lets k w id
  have hw : Sound s w.1 := h.bobWait _ _ _
  split
  · exact h
  · split
    · refine .ite h ?_
      extract_lets s1
      have hs1 : Sound s s1 := (((h.eccHits _ _).stackHits _).popBob _ _).modDesc _ _
      exact .ite (hs1.closeDesc _) (hs1.bobIssue _ _ _ hbody)
    · refine .ite h ?_
      extract_lets away run s1 src s2
      have hs1 : Sound s s1 := .ite hw (((hw.eccHits _ _).stackHits _).popBob _ _)
      have hs2 : Sound s s2 := hs1.other
      exact .ite hw (.ite (hs2.fetchIndex _ _ _) (hs2.bobIssue _ _ _ hbody))

theorem Sound.runBob (p : Fin 68) (b : Fin 4) {opc : Nat} {d : BobDesc} (l : List EccHit) (m : List StackHit)
    {body : Nat → Nat → BitVec 64 → BitVec 64 → State → State} (hform : bobForm opc d = true)
    (hbody : ∀ n id a b v, Sound s v → Sound s (body n id a b v)) : Completes s (runBob p b opc d l m body u) := by
  unfold Machine.runBob
  rw [if_pos hform]
  exact (h.runBobIn _ _ _ _ _ hbody).next

theorem Sound.bobMove (p : Fin 68) (d : BobDesc) (n id : Nat) (src dst : BitVec 64) : Sound s (bobMove p d n id src dst u) :=
  .ite ((h.moveRows _ _ _ _ _ _).bobList _ _ _ _ _ _) (h.moveRows _ _ _ _ _ _)

theorem Sound.bobDecomp (p : Fin 68) (d : BobDesc) (n id : Nat) (src dst : BitVec 64) : Sound s (bobDecomp p d n id src dst u) := by
  unfold Machine.bobDecomp
  extract_lets rb o r s1 s2 s3 fmt
  have hs1 : Sound s s1 := (h.decodeObject _ _ _ _).foldl _ fun _ _ hv => (hv.raise _ _ _ _ _).notePart _ _ _
  have hs2 : Sound s s2 := hs1.foldl _ fun _ _ hv => hv.notePart _ _ _
  have hs3 : Sound s s3 := by
    unfold s3
    dsimp only
    refine Sound.foldl ?_ _ fun v x hv => ?_
    · exact hs2
    · split
      · exact .ite hv (hv.foldl _ fun _ _ hv => hv.writeDest _ _ _ _ _ _)
      · exact .ite hv (hv.bobAccess _ _ _ _ _)
      · exact hv
  split
  · exact (h.decodeObject _ _ _ _).bobAccess _ _ _ _ _
  · exact .ite (hs3.bobList _ _ _ _ _ _) hs3

theorem Sound.bobIndexed (p : Fin 68) (d : BobDesc) (gather : Bool) (n id : Nat) (src dst : BitVec 64) :
    Sound s (bobIndexed p d gather n id src dst u) := by
  unfold Machine.bobIndexed
  split
  · exact h.bobAccess _ _ _ _ _
  · extract_lets ix bad rows s1 r
    have hr : Sound s r.1 := ((h.notePart _ _ _).noteIndex _ _).moveRows _ _ _ _ _ _
    exact .ite (hr.bobList _ _ _ _ _ _) hr

theorem Sound.execBobbinMove (p : Fin 68) (b : Fin 4) (d : BobDesc) (l : List EccHit) (m : List StackHit) (hform : bobForm 1 d = true) :
    Completes s (execBobbinMove p b d l m u) := by
  refine h.runBob p b l m hform fun n id a a' v hv => ?_
  split
  · exact hv.bobDecomp _ _ _ _ _ _
  · exact hv.bobMove _ _ _ _ _ _

theorem Sound.execBobbinGather (p : Fin 68) (b : Fin 4) (d : BobDesc) (l : List EccHit) (m : List StackHit) (hform : bobForm 2 d = true) :
    Completes s (execBobbinGather p b d l m u) := h.runBob p b l m hform fun _ _ _ _ _ hv => hv.bobIndexed _ _ _ _ _ _ _

theorem Sound.execBobbinScatter (p : Fin 68) (b : Fin 4) (d : BobDesc) (l : List EccHit) (m : List StackHit) (hform : bobForm 3 d = true) :
    Completes s (execBobbinScatter p b d l m u) := h.runBob p b l m hform fun _ _ _ _ _ hv => hv.bobIndexed _ _ _ _ _ _ _

theorem Sound.execBobbinPut (p : Fin 68) (b : Fin 4) (d : BobDesc) (l : List EccHit) (m : List StackHit) (hform : bobForm 4 d = true) :
    Completes s (execBobbinPut p b d l m u) := h.runBob p b l m hform fun _ _ _ _ _ hv => hv.bobMove _ _ _ _ _ _

theorem Sound.execBobbinGet (p : Fin 68) (b : Fin 4) (d : BobDesc) (hform : bobForm 5 d = true) :
    Completes s (execBobbinGet p b d u) := h.runBob p b [] [] hform fun _ _ _ _ _ hv => hv.bobMove _ _ _ _ _ _

theorem Sound.collRefuse (id : Nat) (d : BobDesc) : Sound s (u.collRefuse id d) := by
  unfold State.collRefuse
  split
  · exact h.endDesc _
  · exact h

theorem Sound.collMismatch (p : Nat) (d : BobDesc) (n id rank : Nat) : Sound s (u.collMismatch p d n id rank) :=
  (Sound.ite (h.raise _ _ _ _ _) ((h.raise _ _ _ _ _).sendCtl _ _ _ _)).collRefuse _ _

theorem Sound.bobColl (p : Fin 68) (d : BobDesc) (n id : Nat) (x x' : BitVec 64) : Sound s (bobColl p d n id x x' u) := by
  unfold Machine.bobColl
  extract_lets bad s'
  split
  · exact (h.notePoison _ _).collMismatch _ _ _ _ _
  · split
    · extract_lets c s1 old src s2 s3
      have hs1 : Sound s s1 := ((h.notePoison _ _).foldl _ fun _ _ hv => hv.addPeer _ _).setBusy _ _ _
      have hs3 : Sound s s3 := .ite (hs1.other.allToAll _) (hs1.other.collBegin _)
      exact .ite ((h.notePoison _ _).collRefuse _ _) (.ite (hs1.other.collAbort _) ((hs3.modDesc _ _).collCheck _))
    · exact (h.notePoison _ _).collMismatch _ _ _ _ _

theorem Sound.execBobbinColl (p : Fin 68) (b : Fin 4) (d : BobDesc) (l : List EccHit) (m : List StackHit) (hform : bobForm 6 d = true) :
    Completes s (execBobbinColl p b d l m u) := .ite h.next (h.runBob p b l m hform fun _ _ _ _ _ hv => hv.bobColl _ _ _ _ _ _)

theorem Sound.execBobbinSync (p : Fin 68) (b : Fin 4) (d : BobDesc) (hform : bobForm 7 d = true) :
    Completes s (execBobbinSync p b d u) := h.runBob p b [] [] hform fun _ _ _ _ _ hv => hv

theorem Sound.execBobbinEnd (p : Fin 68) (b : Fin 4) (d : BobDesc) (hform : bobForm 0 d = true) :
    Completes s (execBobbinEnd p b d u) := h.runBob p b [] [] hform fun _ _ _ _ _ hv => hv

theorem Sound.execDescriptorStatusEnd (p : Fin 68) (b : Fin 4) : Completes s (execDescriptorStatusEnd p b u) := by
  unfold Machine.execDescriptorStatusEnd
  split
  · exact ((h.modDesc _ _).tryEnd _).next
  · exact h.next

/-! ### Faults -/

theorem Sound.spoilLine (p : Nat) (i : EngInstr) : Sound s (u.spoilLine p i) := (h.freeBytes _).storePut _ _ _

theorem Sound.catchInFlight (p : Nat) (x : InFlight) : Sound s (u.catchInFlight p x) := by
  unfold State.catchInFlight
  extract_lets e r w s1 s2
  have hs1 : Sound s s1 := (h.engWait _ _ _).popEng _ _ _
  have hs2 : Sound s s2 := .ite (hs1.spoilLine _ _) hs1
  refine .ite ?_ ?_
  · exact h
  · refine .ite ?_ ?_
    · exact h.engWait _ _ _
    · refine .ite ?_ ?_
      · split
        · exact hs2.jobEnd _ _ _
        · exact hs2
      · exact hs2.other

theorem Sound.clusterFail (p : Nat) : Sound s (u.clusterFail p) := by
  unfold State.clusterFail
  refine .ite ?_ h
  extract_lets n num s1 s2 spare s3
  have hs1 : Sound s s1 := h.raise _ _ _ _ _
  have hs2 : Sound s s2 := by
    clear_value n
    unfold s2
    split
    · exact hs1.jobEnd _ _ _
    · exact hs1
  have hmap : Sound s { s2 with mapDue := true } := hs2.other
  have hs3 : Sound s s3 := ((hmap.setReg _ _ _).wr _ _ _).storeZero _
  clear_value spare
  split
  · extract_lets src
    have hsrc : Sound s src := hs3.wr _ _ _
    exact hsrc.other
  · exact hs3

theorem Sound.engineFail (p e : Nat) (l : List InFlight) : Sound s (u.engineFail p e l) := by
  unfold State.engineFail
  extract_lets n s1
  have hs1 : Sound s s1 := ((h.other.wr _ _ _).wr _ _ _).raise _ _ _ _ _
  exact .ite (.ite (hs1.clusterFail _) (hs1.foldl _ fun _ _ hv => hv.catchInFlight _ _)) h

theorem Sound.execEngineFault (p : Fin 68) (e : Fin 16) (l : List InFlight) : Completes s (execEngineFault p e l u) := (h.engineFail _ _ _).next

theorem Sound.execEngineHandshakeTimeout (p : Fin 68) (e : Fin 16) (l : List InFlight) : Completes s (execEngineHandshakeTimeout p e l u) :=
  (h.engineFail _ _ _).next

theorem Sound.engineRun (p : Fin 68) (e : Fin 16) {i : EngInstr} (l : List EccHit) (hform : engForm i.opc.toNat i = true) :
    Completes s (engineRun p e i l u) := by
  unfold Machine.engineRun
  split
  case h_16 => exact h.next
  all_goals
    rename_i hop
    rw [hop] at hform
  · exact h.execNop _ _ _ hform
  · exact h.execMmaOs _ _ _ _ hform
  · exact h.execMmaWs _ _ _ _ hform
  · exact h.execVecEw _ _ _ _ hform
  · exact h.execVecRed _ _ _ _ hform
  · exact h.execVecAct _ _ _ _ hform
  · exact h.execVecTload _ _ _ _ hform
  · exact h.execVecSoftmax _ _ _ _ hform
  · exact h.execVecRecip _ _ _ _ hform
  · exact h.execQuant _ _ _ _ hform
  · exact h.execDequant _ _ _ _ hform
  · exact h.execGather _ _ _ _ hform
  · exact h.execScatter _ _ _ _ hform
  · exact h.execSync _ _ _ hform
  · exact h.execEnd _ _ _ hform

omit h in
theorem runEng_of_not_form (p : Fin 68) (e : Fin 16) {opc : Nat} {i : EngInstr} (l : List EccHit) (body : State → State) (u : State)
    (hform : engForm opc i = false) : runEng p e opc i l body u = .refused .illFormed := by
  simp [runEng, hform]

omit h in
theorem engineRun_of_not_form (p : Fin 68) (e : Fin 16) {i : EngInstr} (l : List EccHit) (u : State)
    (hform : engForm i.opc.toNat i = false) : engineRun p e i l u = .refused .illFormed ∨ engineRun p e i l u = .next u := by
  unfold engineRun
  split
  case h_16 => exact .inr rfl
  all_goals
    rename_i hop
    rw [hop] at hform
    exact .inl (runEng_of_not_form _ _ _ _ _ hform)

theorem Sound.execEngineReplay (p : Fin 68) (e : Fin 16) (l : List EccHit) : Completes s (execEngineReplay p e l u) := by
  unfold Machine.execEngineReplay
  extract_lets mine
  split
  · exact h.next
  next r hr =>
    refine .ite h.next ?_
    extract_lets src i
    have hv : Sound s { u with replayQ := u.replayQ.filter fun r => !(mine r) } := h.other
    cases hform : engForm i.opc.toNat i with
    | true =>
      obtain ⟨t, ht, hst⟩ := hv.engineRun p e l hform
      rw [ht]
      exact (Sound.other hst).next
    | false =>
      obtain ht | ht := engineRun_of_not_form p e l _ hform
      · rw [ht]
        exact (Sound.other h).next
      · rw [ht]
        exact (Sound.other hv).next

theorem Sound.bankCheck (p : Nat) : Sound s (u.bankCheck p) := .ite (h.clusterFail _) h

theorem Sound.execStoreScrubForced (p : Fin 68) (bank : Fin 32) (h' : List EccHit) : Completes s (execStoreScrubForced p bank h' u) :=
  (((h.eccHits _ _).other).bankCheck _).next

theorem Sound.execStorePatrolRead (p : Fin 68) (l : List EccHit) : Completes s (execStorePatrolRead p l u) := by
  unfold Machine.execStorePatrolRead
  extract_lets s1 step wrapped s2
  have hs1 : Sound s s1 := h.eccHits p l
  have hpatrol : Sound s { s1 with patrol := (List.range 32).foldl step s1.patrol } := hs1.other
  have hs2 : Sound s s2 := hpatrol.bankCheck _
  exact (Sound.ite hs2.other hs2).next

theorem Sound.execClusterFault (p : Fin 68) : Completes s (execClusterFault p u) := (h.clusterFail _).next

theorem Sound.execSpareBringInComplete (p : Fin 68) (pass : Bool) : Completes s (execSpareBringInComplete p pass u) := by
  unfold Machine.execSpareBringInComplete
  split
  · exact h.next
  · extract_lets s1 s2 s3
    have hs2 : Sound s s2 := ((h.other.storeZero _).wr _ _ _).wr _ _ _
    have hs3 : Sound s s3 := by
      unfold s3
      split
      · exact (hs2.wr _ _ _).wr _ _ _
      · exact hs2
    exact .ite h.next (.ite ((hs3.raise _ _ _ _ _).next) ((h.other.wr _ _ _).next))

theorem Sound.execRouterFault : Completes s (execRouterFault u) := ((h.other.jobEndAll _ _).stopFabric).next

theorem Sound.clusterTests (pass : BitVec 68) (bad : List (Fin 68 × BitVec 16)) : Sound s (u.clusterTests pass bad) := by
  unfold State.clusterTests
  extract_lets m mask ok enabled spareOk pl places s1 s2 s3 changed
  have hs1 : Sound s s1 := h.foldl _ fun _ _ hv => (((hv.setReg _ _ _).wr _ _ _).wr _ _ _).wr _ _ _
  have hs2 : Sound s s2 := hs1.foldl _ fun _ _ hv => .ite (hv.wr _ _ _) (hv.wr _ _ _)
  have hs3 : Sound s s3 := by
    unfold s3
    dsimp only
    refine Sound.foldl ?_ _ fun v x hv => ?_
    · exact hs2
    · split
      · exact (((hv.wr _ _ _).wr _ _ _).wr _ _ _).wr _ _ _
      · exact hv.wr _ _ _
  exact hs3.other

theorem Sound.execClusterTestDone (pass : BitVec 68) (bad : List (Fin 68 × BitVec 16)) : Completes s (execClusterTestDone pass bad u) :=
  .ite (((h.clusterTests _ _).other).next) h.next

theorem Sound.execClusterMapWrite : Completes s (execClusterMapWrite u) := .ite (h.other.next) h.next

theorem Sound.execClusterGate (p : Fin 68) : Completes s (execClusterGate p u) := .ite ((h.wr _ _ _).next) h.next

theorem Sound.execClusterUngate (p : Fin 68) : Completes s (execClusterUngate p u) := (h.wr _ _ _).next

/-! ### Hostio -/

theorem Sound.modPort (p : Nat) (f : EthPort → EthPort) : Sound s (u.modPort p f) := h.other

theorem Sound.mkpdu (p : Nat) (ckn : List Byte) (ask : Bool) : Sound s (u.mkpdu p ckn ask) := (h.freeBytes _).emit _

theorem Sound.putEth (h' : EthHdr) (e : Emit) : Sound s (u.putEth h' e) := by
  unfold State.putEth
  extract_lets s1 n s2
  refine .ite ?_ ?_
  · split
    · exact .ite (((h.emit _).modPort _ _).mkpdu _ _ _) ((h.emit _).modPort _ _)
    · exact (h.emit _).modPort _ _
  · exact h.emit _

theorem Sound.sendEth (h' : EthHdr) (e : Emit) : Sound s (u.sendEth h' e) := by
  unfold State.sendEth
  split
  · exact .ite (h.modPort _ _) (h.putEth _ _)
  · exact h.putEth _ _

theorem Sound.flushPort (p : Nat) : Sound s (u.flushPort p) := (h.modPort _ _).foldl _ fun _ _ hv => hv.putEth _ _

theorem Sound.modQp (q : Nat) (f : Qp → Qp) : Sound s (u.modQp q f) := h.other

theorem Sound.roce (q : Nat) (p : RocePkt) : Sound s (u.roce q p) := h.sendEth _ _

theorem Sound.wireReq (q : Nat) (r : OutReq) : Sound s (u.wireReq q r) := by
  unfold State.wireReq
  refine .ite ?_ ?_
  · split
    · exact h.roce _ _
    · exact h.roce _ _
  · exact h

theorem Sound.pumpQp (q n : Nat) : Sound s (u.pumpQp q n) := by
  induction n generalizing u with
  | zero => exact h
  | succ n ih =>
    unfold State.pumpQp
    extract_lets x
    split
    · exact h
    · exact .ite h (ih (((h.modQp _ _).wr _ _ _).wireReq _ _))

theorem Sound.modCmd (i c : Nat) (f : Cmd → Cmd) : Sound s (u.modCmd i c f) := h.other

theorem Sound.cmdEnd (i c status origin : Nat) : Sound s (u.cmdEnd i c status origin) := h.modCmd _ _ _

theorem Sound.qpError (q syndrome : Nat) (quiet : Bool) (data : Option (List Word)) : Sound s (u.qpError q syndrome quiet data) := by
  unfold State.qpError
  extract_lets p s1 s2 x s2' s3
  have hs2 : Sound s s2 := by
    unfold s2
    split
    · exact ((h.wr _ _ _).wr _ _ _).raise _ _ _ _ _
    · exact .ite (((h.wr _ _ _).wr _ _ _).raiseBit _ _) (((h.wr _ _ _).wr _ _ _).raise _ _ _ _ _)
  have hs2' : Sound s s2' := .ite hs2 hs2.other
  refine .ite ?_ ?_
  · refine Sound.foldl ?_ _ fun v x hv => ?_
    · exact hs2'.modQp _ _
    · split
      · exact hv.cmdEnd _ _ _ _
      · exact hv
  · exact h

theorem Sound.hostRead (q i c va rkey len : Nat) : Sound s (u.hostRead q i c va rkey len) := .ite ((h.modQp _ _).pumpQp _ _) (h.cmdEnd _ _ _ _)

theorem Sound.hostNotify (q i c : Nat) : Sound s (u.hostNotify q i c) := .ite ((h.modQp _ _).pumpQp _ _) h

theorem Sound.drawTag : Sound s u.drawTag.2 := h.freeNat _

theorem Sound.clearReg (i : Nat) (r : Reg) : Sound s (u.clearReg i r) := h.setReg _ _ _

theorem Sound.clearEth (n : Nat) : Sound s (u.clearEth n) := by
  unfold State.clearEth
  extract_lets s1 s2 s3 d
  have hs1 : Sound s s1 := h.foldl _ fun _ _ hv => (hv.foldl _ fun _ _ hw => hw.clearReg _ _).modQp _ _
  have hs2 : Sound s s2 := hs1.foldl _ fun _ _ hv => hv.foldl _ fun _ _ hw => hw.clearReg _ _
  have hs3 : Sound s s3 := hs2.foldl _ fun _ _ hv => hv.foldl _ fun _ _ hw => hw.clearReg _ _
  exact hs3.drawTag.wr _ _ _

/-! ### Links -/

theorem Sound.execFlitTransmit (j : Fin 144) : Completes s (execFlitTransmit j u) := .ite (((h.modLink _ _).emit _).next) h.next

theorem Sound.fecCount (p : Nat) (l : List (Fin 8 × Bool)) : Sound s (u.fecCount p l) := h.foldl _ fun _ _ hv => hv.count _ _

theorem Sound.flitHeader (j : Nat) (f : Flit) : Sound s (u.flitHeader j f).1 := by
  unfold State.flitHeader
  extract_lets l s1 s2
  have hs1 : Sound s s1 := h.modLink _ _
  have hs2 : Sound s s2 := .ite hs1 (hs1.count _ _)
  split
  · split
    · exact hs2.linkFault _ _
    · exact hs2
  · exact hs1

theorem Sound.packetIn (j v : Nat) (l : List Byte) : Sound s (u.packetIn j v l) := by
  unfold State.packetIn
  extract_lets src
  split
  · exact h.other
  · exact (h.modLink _ _).dropPacket

theorem Sound.inTurn (j : Nat) : Sound s (u.inTurn j) := h.modLink _ _

theorem Sound.outOfTurn (j q : Nat) (copy : Bool) : Sound s (u.outOfTurn j q copy) := .ite (h.modLink _ _) h

theorem Sound.dataFlit (j : Nat) (f : Flit) (copy : Bool) : Sound s (u.dataFlit j f copy) := by
  unfold State.dataFlit
  extract_lets s1 s2 r s3
  have hs1 : Sound s s1 := .ite (h.wakeEvent _) h
  have hs3 : Sound s s3 := (hs1.inTurn _).modLink _ _
  refine .ite ?_ ?_
  · exact h
  · refine .ite ?_ ?_
    · split
      · exact hs3.packetIn _ _ _
      · exact hs3
    · exact hs1.outOfTurn _ _ _

theorem Sound.laneFault (j : Nat) (mask : BitVec 8) : Sound s (u.laneFault j mask) := by
  unfold State.laneFault
  extract_lets p hit s1 s2
  have hs2 : Sound s s2 := ((h.dropLanes _ _ _ _).ctrlNow _ _).ctrlNow _ _
  exact .ite h (.ite ((h.setLanes _ _ _).linkFault _ _) (.ite (hs2.replayFrom _) hs2))

theorem Sound.fecLanes (j : Nat) (fec : List (Fin 8 × Bool)) : Sound s (u.fecLanes j fec) := .ite (h.modLink _ _) ((h.modLink _ _).laneFault _ _)

theorem Sound.execFlitReceive (j : Fin 144) (f : Flit) (good copy : Bool) (fec : List (Fin 8 × Bool)) :
    Completes s (execFlitReceive j f good copy fec u) := by
  unfold Machine.execFlitReceive
  extract_lets s1 h'
  have hh' : Sound s h'.1 := (h.fecCount _ _).flitHeader _ _
  refine .ite ?_ ?_
  · refine .ite ?_ ?_
    · exact (((h.fecCount _ _).modLink _ _).fecLanes _ _).next
    · exact ((Sound.ite hh' (hh'.dataFlit _ _ _)).fecLanes _ _).next
  · exact h.next

theorem Sound.ctrlRow (j q : Nat) {f : State → State} (hf : ∀ v, Sound s v → Sound s (f v)) : Completes s (ctrlRow j q f u) :=
  .ite (Sound.ite (hf _ (h.inTurn _)) (h.outOfTurn _ _ _)).next h.next

theorem Sound.execHello (j : Fin 144) (q : BitVec 8) (x : Hello) : Completes s (execHello j q x u) := by
  unfold Machine.execHello
  refine .ite ?_ h.next
  extract_lets s1 s2 src
  have hs1 : Sound s s1 := ((((h.inTurn _).wr _ _ _).wr _ _ _).wr _ _ _).wr _ _ _
  have hs2 : Sound s s2 := hs1.modLink _ _
  exact .ite (Sound.raise (Sound.other hs2) _ _ _ _ _).next hs2.next

theorem Sound.execLaneDrop (j : Fin 144) (q mask : BitVec 8) (planned : Bool) : Completes s (execLaneDrop j q mask planned u) :=
  h.ctrlRow _ _ (fun _ hv => hv.modLink _ _)

theorem Sound.execLaneAdd (j : Fin 144) (q mask : BitVec 8) : Completes s (execLaneAdd j q mask u) := h.ctrlRow _ _ (fun _ hv => hv.modLink _ _)

theorem Sound.remapDrop (j : Nat) (gone : List Nat) (planned : Bool) : Sound s (u.remapDrop j gone planned) := by
  unfold State.remapDrop
  extract_lets mask s1 s2
  have hs2 : Sound s s2 := (h.dropLanes _ _ _ _).ctrlNow _ _
  exact .ite ((h.setLanes _ _ _).linkFault _ _) (.ite hs2 (hs2.replayFrom _))

theorem Sound.remapAdd (j : Nat) (back : List Nat) :
    Sound s (u.remapAdd j back) := (((h.setLanes _ _ _).linkWidth _).ctrlNow _ _).raisePort _ _ _

theorem Sound.remapWide (j : Nat) (back : List Nat) : Sound s (u.remapWide j back) :=
  ((Sound.ite ((h.setLanes _ _ _).wr _ _ _) (h.setLanes _ _ _)).linkWidth _).ctrlNow _ _

theorem Sound.execRemap (j : Fin 144) (q mask : BitVec 8) : Completes s (execRemap j q mask u) := by
  unfold Machine.execRemap
  extract_lets p
  exact h.ctrlRow _ _ (fun _ hv => .ite ((hv.modLink _ _).remapDrop _ _ _) (.ite ((hv.modLink _ _).remapAdd _ _) (.ite
    ((hv.modLink _ _).remapWide _ _) (hv.modLink _ _))))

theorem Sound.narrowPort (p : Nat) : Sound s (u.narrowPort p) := by
  unfold State.narrowPort
  extract_lets s1
  have hs1 : Sound s s1 := h.foldl _ fun _ _ hv => hv.linkStop _ _
  refine .ite ?_ ?_
  · split
    · exact ((Sound.ite (((hs1.setLanes _ _ _).wr _ _ _).wr _ _ _) ((hs1.setLanes _ _ _).wr _ _ _)).wr _ _ _).portStat _
    · exact hs1
  · exact hs1

theorem Sound.execNarrow (j : Fin 144) (q : BitVec 8) : Completes s (execNarrow j q u) :=
  h.ctrlRow _ _ (fun _ hv => .ite (hv.narrowPort _) (hv.linkStop _ _))

theorem Sound.train (j : Nat) : Sound s (u.train j) := by
  unfold State.train
  exact ((((h.setLanes _ _ _).setLanes _ _ _).wr _ _ _).wr _ _ _).modLink _ _

theorem Sound.widenPort (p : Nat) : Sound s (u.widenPort p) := (h.setLanes _ _ _).foldl _ fun _ _ hv => hv.train _

theorem Sound.execWiden (j : Fin 144) (q : BitVec 8) : Completes s (execWiden j q u) := h.ctrlRow _ _ (fun _ hv => .ite (hv.widenPort _) hv)

theorem Sound.execDown (j : Fin 144) (q : BitVec 8) (moduleStops : Bool) : Completes s (execDown j q moduleStops u) :=
  h.ctrlRow _ _ (fun _ hv => hv.linkFault _ _)

theorem Sound.execLaneFault (j : Fin 144) (mask : BitVec 8) : Completes s (execLaneFault j mask u) := (h.laneFault _ _).next

theorem Sound.execLinkSilenceTimeout (j : Fin 144) : Completes s (execLinkSilenceTimeout j u) := .ite ((h.linkFault _ _).next) h.next

theorem Sound.execLinkRetrainTimer (j : Fin 144) : Completes s (execLinkRetrainTimer j u) := .ite ((h.train _).next) h.next

theorem Sound.trainFail (j : Nat) : Sound s (u.trainFail j) := ((h.clearLink _ _).modLink _ _).raisePort _ _ _

theorem Sound.execLinkTrainingDone (j : Fin 144) (lanes : BitVec 8) (rtt : BitVec 16) : Completes s (execLinkTrainingDone j lanes rtt u) := by
  unfold Machine.execLinkTrainingDone
  extract_lets p back w s0 l bad s1 s2 wrong
  have hs2 : Sound s s2 := ((((h.wr _ _ _).setLanes _ _ _).setLanes _ _ _).wr _ _ _).modLink _ _
  refine .ite ?_ ?_
  · exact .ite h.next ((h.remapWide _ _).next)
  · refine .ite ?_ ?_
    · refine .ite ?_ ?_
      · exact ((h.wr _ _ _).trainFail _).next
      · refine .ite ?_ ?_
        · exact ((((hs2.wr _ _ _).wr _ _ _).portStat _).raisePort _ _ _).next
        · exact (((hs2.wr _ _ _).linkWidth _).raisePort _ _ _).next
    · exact h.next

theorem Sound.execLaneReaddRetry (l : Fin 144) : Completes s (execLaneReaddRetry l u) := .ite (((h.wr _ _ _).wr _ _ _).next) h.next

theorem Sound.execLaneReaddTestDone (l : Fin 144) (pass : Bool) : Completes s (execLaneReaddTestDone l pass u) :=
  .ite (.ite ((((((h.wr _ _ _).linkWidth _).ctrlNow _ _).ctrlNow _ _).raisePort _ _ _).next) ((h.wr _ _ _).next)) h.next

theorem Sound.execRetrain (p : Fin 18) (mask : BitVec 8) : Completes s (execRetrain p mask u) := by
  unfold Machine.execRetrain
  extract_lets ks
  refine .ite ?_ ?_
  · exact (h.foldl _ fun _ _ hv => ((((hv.linkStop _ _).foldl _ fun _ _ hw => hw.wr _ _ _).setLanes _ _ _).train _).wr _ _ _).next
  · exact h.next

theorem Sound.laneDisable (p l : Nat) : Sound s (u.laneDisable p l) :=
  .ite (.ite ((h.linkStop _ _).setLanes _ _ _) (((h.dropLanes _ _ _ _).ctrlNow _ _).ctrlNow _ _)) (h.setLanes _ _ _)

theorem Sound.execFabPortCfgWrite (p : Fin 18) (w : Word) : Completes s (execFabPortCfgWrite p w u) := by
  unfold Machine.execFabPortCfgWrite
  extract_lets en s1 old new s2 s3 on s4 links
  have hs1 : Sound s s1 := .ite h ((h.wr _ _ _).wr _ _ _)
  have hs3 : Sound s s3 := ((hs1.wr _ _ _).wr _ _ _).foldl _ fun _ _ hv => .ite (hv.laneDisable _ _) (.ite (hv.setLanes _ _ _) hv)
  refine .ite ?_ ?_
  · exact ((hs3.wr _ _ _).foldl _ fun _ _ hv => .ite (hv.train _) (hv.wr _ _ _)).next
  · refine .ite ?_ ?_
    · exact ((hs3.wr _ _ _).foldl _ fun _ _ hv => (Sound.ite (hv.sendDown _ _) hv).linkStop _ _).next
    · exact (hs3.wr _ _ _).next

theorem Sound.execRttMeasure (j : Fin 144) (ns : Nat) : Completes s (execRttMeasure j ns u) := .ite ((h.wr _ _ _).next) h.next

theorem Sound.setCable (p : Nat) (present powered : Bool) : Sound s (u.setCable p present powered) := h.other

theorem Sound.execCablePresent (p : Fin 18) (present : Bool) : Completes s (execCablePresent p present u) :=
  .ite h.next ((h.setCable _ _ _).next)

theorem Sound.execCableOvercurrent (p : Fin 18) : Completes s (execCableOvercurrent p u) := .ite (((h.setCable _ _ _).portFault _).next) h.next

/-! ### Votes -/

theorem Sound.dropPend : Sound s u.dropPend := .ite ((h.wr _ _ _).raise _ _ _ _ _) h

theorem Sound.putPend (t : Nat) : Sound s (u.putPend t) := .ite h ((h.dropPend.wr _ _ _).wr _ _ _)

theorem Sound.psSet (t : Nat) : Sound s (u.psSet t) := (h.wr _ _ _).wr _ _ _

theorem Sound.ungateAll : Sound s u.ungateAll := h.foldl _ fun _ _ hv => hv.wr _ _ _

theorem Sound.psRunning (t : Nat) : Sound s (u.psRunning t) :=
  .ite ((((h.other.psSet _).wr _ _ _).wr _ _ _).ungateAll) (((h.other.psSet _).wr _ _ _).wr _ _ _)

theorem Sound.enterStandby : Sound s u.enterStandby := ((h.other.wr _ _ _).wr _ _ _).wr _ _ _

theorem Sound.enterFreewheel : Sound s u.enterFreewheel := ((((h.other.wr _ _ _).wr _ _ _).wr _ _ _).wr _ _ _).requestFlush

theorem Sound.widenAll : Sound s u.widenAll := h.foldl _ fun _ _ hv => .ite ((hv.ctrlNow _ _).widenPort _) (hv.foldl _ fun _ _ hw => hw.train _)

theorem Sound.wakeStandby (t : Nat) : Sound s (u.wakeStandby t) :=
  .ite (((((h.other.wr _ _ _).wr _ _ _).widenAll).psRunning _).raise _ _ _ _ _) (((h.other.wr _ _ _).wr _ _ _).widenAll)

theorem Sound.requestNow (t : Nat) : Sound s (u.requestNow t) := by
  unfold State.requestNow
  extract_lets st
  refine .ite ?_ ?_
  · exact h.dropPend
  · refine .ite ?_ ?_
    · exact .ite (h.dropPend.psRunning _) (.ite (h.dropPend.wakeStandby _) (((h.putPend _).wr _ _ _).wakeFreewheel))
    · refine .ite ?_ ?_
      · exact h.dropPend.wakeFreewheel
      · refine .ite ?_ ?_
        · exact h.putPend _
        · exact .ite (h.dropPend.enterFreewheel) (.ite (h.enterStandby.putPend _) (h.dropPend.enterStandby))

theorem Sound.requestBusy (t : Nat) : Sound s (u.requestBusy t) := by
  unfold State.requestBusy
  extract_lets tgt src src'
  refine .ite ?_ ?_
  · exact .ite (h.dropPend.other) (.ite ((h.putPend _).wakeEvent _) (.ite h (h.putPend _)))
  · exact .ite ((h.dropPend.other).wr _ _ _) (.ite h (h.putPend _))

theorem Sound.psRequest (t : Nat) : Sound s (u.psRequest t) := .ite (h.requestNow _) (h.requestBusy _)

theorem Sound.psArrive : Sound s u.psArrive := .ite ((h.wr _ _ _).requestNow _) h

theorem Sound.voteCheck : Sound s u.voteCheck := by
  unfold State.voteCheck
  exact .ite (.ite (h.psRequest _) (.ite (h.wakeEvent _) (.ite (.ite (h.wakeEvent _) h.other) h))) h.psArrive

theorem Sound.writePsReq (w : Word) : Sound s (u.writePsReq w) := .ite ((h.wr _ _ _).psRequest _) (h.wr _ _ _)

theorem Sound.execReqRun : Completes s (execReqRun u) := (h.writePsReq _).next

theorem Sound.execReqTrim : Completes s (execReqTrim u) := (h.writePsReq _).next

theorem Sound.execReqStandby : Completes s (execReqStandby u) := (h.writePsReq _).next

theorem Sound.execReqFreewheel : Completes s (execReqFreewheel u) := (h.writePsReq _).next

theorem Sound.execPwrVoteWrite (m : BitVec 16) : Completes s (execPwrVoteWrite m u) := ((h.wr _ _ _).voteCheck).next

theorem Sound.execAutoStandbyIdle : Completes s (execAutoStandbyIdle u) := .ite ((h.psRequest _).next) h.next

/-! ### Jobs -/

theorem Sound.modRing (i : Nat) (f : Ring → Ring) : Sound s (u.modRing i f) := h.other

end

end Sys2Proof.Machine
end

section
/-! PROOFS.  What every command keeps, function by function (3 of 6): the order of the model's definitions, the first of which
call no other. -/

namespace Sys2Proof.Machine

section
variable {s t u v : State} (h : Sound s u)
include h

/-! ### Jobs -/

theorem Sound.trimFetch (i : Nat) : Sound s (u.trimFetch i) := h.modRing _ _

theorem Sound.writePi (i v : Nat) : Sound s (u.writePi i v) := .ite (h.wr _ _ _) (((h.wr _ _ _).trimFetch _).voteCheck)

theorem Sound.execEthRingPiWrite (i : Fin 64) (v : Word) : Completes s (execEthRingPiWrite i v u) := (h.writePi _ _).next

theorem Sound.writeRingCtl (i : Nat) (w : Word) : Sound s (u.writeRingCtl i w) := by
  unfold State.writeRingCtl
  extract_lets en keep v s1 k s2
  have hs2 : Sound s s2 := (h.setReg _ _ _).modRing _ _
  refine .ite ?_ ?_
  · exact .ite ((h.setReg _ _ _).modRing _ _) (h.setReg _ _ _)
  · exact .ite (h.setReg _ _ _) (.ite (((h.setReg _ _ _).wr _ _ _).wr _ _ _) (.ite (hs2.wr _ _ _) hs2))

theorem Sound.execEthRingCtlWrite (i : Fin 64) (w : Word) : Completes s (execEthRingCtlWrite i w u) := ((h.writeRingCtl _ _).voteCheck).next

theorem Sound.writeCqCi (i : Nat) (w : Word) : Sound s (u.writeCqCi i w) := .ite ((h.setReg _ _ _).wr _ _ _) (h.setReg _ _ _)

theorem Sound.execEthCqCiWrite (i : Fin 64) (w : Word) : Completes s (execEthCqCiWrite i w u) := (h.writeCqCi _ _).next

theorem Sound.execRingFetch (i : Fin 64) (h' : List StackHit) : Completes s (execRingFetch i h' u) :=
  .ite (.ite ((((h.stackHits _).reject _ _ _ _).modRing _ _).next) (((h.stackHits _).modRing _ _).next)) h.next

theorem Sound.keyCounts (slot : Nat) : Sound s (u.keyCounts slot) := (h.wr _ _ _).wr _ _ _

theorem Sound.relaxAt (n : Nat) : Sound s (u.relaxAt n) := .ite ((h.modPart _ _).record _ _ _ _ _ _ _) (.ite (h.relaxEnd _) h)

theorem Sound.execCommandStart (i : Fin 64) : Completes s (execCommandStart i u) := by
  unfold Machine.execCommandStart
  extract_lets n ci st
  split
  · exact h.next
  · extract_lets opc base c c' src s1 s2 s3
    have hsrc : Sound s src := h.modRing _ _
    have hs3 : Sound s s3 := by
      unfold s3
      split
      · exact (hsrc.other.wr _ _ _).keyCounts _
      · exact hsrc.other.wr _ _ _
    exact .ite h.next (.ite ((h.wr _ _ _).next) ((Sound.ite (hs3.relaxAt _) hs3).next))

theorem Sound.onStarted (i : Fin 64) (c : Word) (opc : Nat) {f : Cmd → State → State} (hf : ∀ x v, Sound s v → Sound s (f x v)) :
    Completes s (onStarted i c opc f u) := by
  unfold Machine.onStarted
  split
  · exact .ite (hf _ _ h).next h.next
  · exact h.next

theorem Sound.execCmdNop (i : Fin 64) (c : Word) : Completes s (execCmdNop i c u) := h.onStarted _ _ _ (fun _ _ hv => hv.cmdEnd _ _ _ _)

theorem Sound.execFence (i : Fin 64) (c : Word) : Completes s (execFence i c u) := h.onStarted _ _ _ (fun _ _ hv => hv.modCmd _ _ _)

theorem Sound.execMark (i : Fin 64) (c : Word) : Completes s (execMark i c u) := h.onStarted _ _ _ (fun _ _ hv => hv.modCmd _ _ _)

theorem Sound.execSignal (i : Fin 64) (c : Word) : Completes s (execSignal i c u) := by
  unfold Machine.execSignal
  extract_lets n
  exact h.onStarted _ _ _ (fun _ _ hv => .ite (.ite ((hv.tokAdd _ _).cmdEnd _ _ _ _) ((hv.tokAdd _ _).cmdEnd _ _ _ _))
    ((hv.modPart _ _).cmdEnd _ _ _ _))

theorem Sound.clearTokens (n : Nat) : Sound s (u.clearTokens n) := h.other

theorem Sound.applyPlan (n : Nat) (p : Pattern) : Sound s (u.applyPlan n p) := by
  unfold State.applyPlan
  dsimp only
  refine Sound.foldl ?_ _ fun v x hv => ?_
  · refine Sound.foldl ?_ _ fun v x hv => ?_
    · exact h.clearTokens _
    · split
      · exact hv.foldl _ fun _ _ hv => hv.other
      · exact hv
  · exact hv.other

theorem Sound.feed (n : Nat) (p : Pattern) (e : Nat) : Sound s (u.feed n p e) := by
  unfold State.feed
  extract_lets rk
  dsimp only
  refine Sound.foldl ?_ _ fun v x hv => ?_
  · exact h
  · split
    · exact hv
    · exact (hv.foldl _ fun _ _ hv => hv.other).foldl _ fun _ _ hv => hv.other

theorem Sound.execRun (i : Fin 64) (c : Word) : Completes s (execRun i c u) := by
  unfold Machine.execRun
  extract_lets n
  dsimp only
  refine h.onStarted _ _ _ fun x0 x1 hv => ?_
  split
  · exact hv.cmdEnd _ _ _ _
  · refine .ite ?_ ?_
    · exact hv.cmdEnd _ _ _ _
    · exact (((((hv.modCmd _ _ _).modPart _ _).foldl _ fun _ _ hv => hv.wr _ _ _).applyPlan _ _).feed _ _ _).foldl _ fun _ _ hv => hv.tokAdd _ _

theorem Sound.memPieces (n : Nat) (desc : Option Nat) (a : Nat) (l : List Byte) : Sound s (u.memPieces n desc a l) :=
  h.foldl _ fun _ _ hv => hv.writeDest _ _ _ _ _ _

theorem Sound.loadPut (x : Cmd) (a : Nat) (l : List Byte) : Sound s (u.loadPut x a l) :=
  .ite (h.memPieces _ _ _ _) ((((h.newDesc _ _).modCmd _ _ _).memPieces _ _ _ _).closeDesc _)

theorem Sound.streamPut (x : Cmd) (base pos : Nat) (tail new : List Byte) (ends : Bool) : Sound s (u.streamPut x base pos tail new ends).1 := by
  unfold State.streamPut
  extract_lets all a full rest
  split
  · exact h
  · split
    · exact .ite h (h.loadPut _ _ _)
    · exact .ite h (h.loadPut _ _ _)

theorem Sound.loadBlocks (x : Cmd) (o : LoadOp) (l : List Byte) (ends : Bool) : Sound s (u.loadBlocks x o l ends).1 := by
  unfold State.loadBlocks
  extract_lets out count r entries size tiles lists before q
  have hq : Sound s q.1 := by
    unfold q
    split
    · exact (h.streamPut _ _ _ _ _ _).streamPut _ _ _ _ _ _
    · exact h.streamPut _ _ _ _ _ _
  exact hq.modCmd _ _ _

theorem Sound.loadFlush (x : Cmd) (o : LoadOp) : Sound s (u.loadFlush x o) := h.loadBlocks _ _ _ _

theorem Sound.loadAccess (i c n addr : Nat) : Sound s (u.loadAccess i c n addr) := (h.reject _ _ _ _).cmdEnd _ _ _ _

theorem Sound.loadPlain (x : Cmd) (o : LoadOp) : Sound s (u.loadPlain x o) :=
  .ite (h.loadAccess _ _ _ _) (((h.loadBlocks _ _ _ _).modCmd _ _ _).cmdEnd _ _ _ _)

theorem Sound.execLoad (i : Fin 64) (c : Word) : Completes s (execLoad i c u) := by
  unfold Machine.execLoad
  dsimp only
  refine h.onStarted _ _ _ fun x0 x1 hv => ?_
  split
  · exact hv.cmdEnd _ _ _ _
  · refine .ite ?_ ?_
    · exact hv.cmdEnd _ _ _ _
    · exact .ite (hv.cmdEnd _ _ _ _) (.ite ((hv.modCmd _ _ _).cmdEnd _ _ _ _) ((hv.modCmd _ _ _).hostRead _ _ _ _ _ _))

theorem Sound.sealLoad (x : Cmd) (o : LoadOp) : Sound s (u.sealLoad x o).1 := by
  unfold State.sealLoad
  extract_lets n t bytes
  split
  · exact h.cmdEnd _ _ _ _
  · split
    · exact h.loadAccess _ _ _ _
    · split
      · exact h
      · split
        · exact h.addSeal _ _ _ _ (by assumption)
        · exact h.cmdEnd _ _ _ _

theorem Sound.sealedRecord (x : Cmd) (o : LoadOp) (k : BoundKey) : Sound s (u.sealedRecord x o k) := by
  unfold State.sealedRecord
  extract_lets l p bad done
  refine .ite ?_ ?_
  · exact (h.modCmd _ _ _).cmdEnd _ _ _ _
  · split
    · exact (h.loadFlush _ _).cmdEnd _ _ _ _
    · exact .ite (((h.loadBlocks _ _ _ _).modCmd _ _ _).cmdEnd _ _ _ _) ((h.loadBlocks _ _ _ _).modCmd _ _ _)

theorem Sound.execIngestSealedRecord (i : Fin 64) (c : Word) : Completes s (execIngestSealedRecord i c u) := by
  unfold Machine.execIngestSealedRecord
  split
  · exact h.next
  · split
    · extract_lets r
      have hr : Sound s r.1 := by
        unfold r
        split
        · exact h.sealLoad _ _
        · exact h
      exact .ite ((Sound.ite (hr.sealedRecord _ _ _) hr).next) h.next
    · exact h.next

theorem Sound.returnGrants (a : LendAsk) : Sound s (u.returnGrants a) := by
  unfold State.returnGrants
  refine Sound.foldl ?_ _ fun v x hv => ?_
  · exact h.other
  · split
    · exact hv.sendLend _ _ _ _
    · exact hv

theorem Sound.openFail (i c status origin detail : Nat) : Sound s (u.openFail i c status origin detail) := by
  unfold State.openFail
  extract_lets s1
  have hs1 : Sound s s1 := by
    unfold s1
    split
    · exact h.returnGrants _
    · exact h
  exact (hs1.modCmd _ _ _).cmdEnd _ _ _ _

theorem Sound.openJob (n : Nat) (l : List Byte) (pats : List Pattern) (loans : List LoanIn) : Sound s (u.openJob n l pats loans) := by
  unfold State.openJob
  extract_lets src s1 s2 rk s3 s4 s5 s6
  have hsrc : Sound s src := h.modPart _ _
  have hs2 : Sound s s2 := by
    unfold s2
    split
    · exact hsrc.other.applyPlan _ _
    · exact hsrc.other
  have hs3 : Sound s s3 := by
    refine Sound.foldl ?_ _ fun v x hv => ?_
    · exact hs2
    · refine Sound.foldl ?_ _ fun v x hv => ?_
      · exact hv
      · split
        · exact hv.storeWrite _ _ _ _
        · exact hv
  have hs6 : Sound s s6 := ((((((hs3.wr _ _ _).wr _ _ _).setReg _ _ _).wr _ _ _).wr _ _ _).clearPeers _).foldl _ fun _ _ hv => hv.addPeer _ _
  exact hs6.foldl _ fun _ _ hv => hv.modRing _ _

theorem Sound.openCheck (i c n : Nat) (l : List Byte) (loans : List LoanIn) : Sound s (u.openCheck i c n l loans) := by
  unfold State.openCheck
  extract_lets npat ps pats s1
  split
  · exact h.openFail _ _ _ _ _
  · split
    · exact h.openFail _ _ _ _ _
    · split
      · exact h.openFail _ _ _ _ _
      · exact ((h.other.openJob _ _ _ _).modCmd _ _ _).cmdEnd _ _ _ _

theorem Sound.openBundle (i c n : Nat) (l : List Byte) : Sound s (u.openBundle i c n l) := by
  unfold State.openBundle
  split
  · exact h.openFail _ _ _ _ _
  · refine .ite ?_ ?_
    · exact h.openFail _ _ _ _ _
    · split
      · exact h.openCheck _ _ _ _ _
      · exact h.openCheck _ _ _ _ _
      · exact h
      · exact h.other.foldl _ fun _ _ hv => hv.sendLend _ _ _ _
      · exact h.openFail _ _ _ _ _

theorem Sound.execJobOpen (i : Fin 64) (c : Word) : Completes s (execJobOpen i c u) := by
  unfold Machine.execJobOpen
  extract_lets n
  split
  · exact h.next
  · extract_lets len s1
    refine .ite ?_ ?_
    · exact h.next
    · refine .ite ?_ ?_
      · refine .ite ?_ ?_
        · exact (h.cmdEnd _ _ _ _).next
        · exact .ite (((h.modCmd _ _ _).openBundle _ _ _ _).next) (((h.modCmd _ _ _).hostRead _ _ _ _ _ _).next)
      · exact .ite h.next ((h.openBundle _ _ _ _).next)

theorem Sound.execLendGrant (j : Fin 145) (p : Packet) : Completes s (execLendGrant j p u) := by
  unfold Machine.execLendGrant
  extract_lets kind
  refine .ite ?_ ?_
  · dsimp only
    refine Sound.next ?_
    refine h.recvSeq _ _ fun x0 x1 hv => ?_
    refine .ite ?_ ?_
    · exact .ite (hv.jobEnd _ _ _) hv
    · split
      · exact .ite (hv.sendLend _ _ _ _) hv
      · refine .ite ?_ ?_
        · split
          · exact hv.openFail _ _ _ _ _
          · exact hv.returnGrants _
        · exact hv.other
  · exact h.next

theorem Sound.execLoanTimeout (i : Fin 64) (c : Word) : Completes s (execLoanTimeout i c u) := by
  unfold Machine.execLoanTimeout
  split
  · exact (h.openFail _ _ _ _ _).next
  · exact h.next

theorem Sound.closeJob (n : Nat) : Sound s (u.closeJob n) :=
  (((((((h.abandon _).endLoans _).relaxEnd _).loseRep _).clearTokens _).modPart _ _).wr _ _ _).wr _ _ _

theorem Sound.execJobClose (i : Fin 64) (c : Word) : Completes s (execJobClose i c u) :=
  h.onStarted _ _ _ (fun _ _ hv => (hv.closeJob _).cmdEnd _ _ _ _)

theorem Sound.noteScope (c : Cmd) : Sound s (u.noteScope c) := .ite (h.modRing _ _) (.ite h (h.modRing _ _))

theorem Sound.execCommandComplete (i : Fin 64) (c : Word) : Completes s (execCommandComplete i c u) := by
  unfold Machine.execCommandComplete
  extract_lets n k
  split
  · exact h.next
  · extract_lets y s1 s2 s3 s4 s5 s6
    have hs1 : Sound s s1 := h.partWrite _ _ _ _
    have hs3 : Sound s s3 := (hs1.other.wr _ _ _).noteScope _
    have hs4 : Sound s s4 := .ite (hs3.modPart _ _) hs3
    have hs5 : Sound s s5 := .ite ((hs4.wr _ _ _).wr _ _ _) hs4
    have hs6 : Sound s s6 := by
      unfold s6
      split
      · exact hs5.keyCounts _
      · exact hs5
    exact .ite (((Sound.ite (hs6.hostNotify _ _ _) hs6).voteCheck).next) h.next

/-! ### Scrub -/

theorem Sound.hmpSay (x : HmpHead) (typ status : Nat) (body : List Byte) : Sound s (u.hmpSay x typ status body) := h.emit _

theorem Sound.hmpObj (typ : Nat) (x : HmpHead) {f : State → State} (hf : ∀ v, Sound s v → Sound s (f v)) :
    Completes s (hmpObj typ x f u) :=
  .ite h.next (.ite (h.hmpSay _ _ _ _).next (.ite (h.hmpSay _ _ _ _).next (hf _ h).next))

theorem Sound.answer4 (x : HmpHead) (r : Nat) : Sound s (u.answer4 x r) := h.hmpSay _ _ _ _

theorem Sound.assign (a : Assign) : Sound s (u.assign a) := by
  unfold State.assign
  extract_lets s1 d src s2 s3
  have hd : Sound s d.2 := ((((h.wr _ _ _).wr _ _ _).wr _ _ _).wr _ _ _).drawKey
  have hs3 : Sound s s3 := by
    refine Sound.foldl ?_ _ fun v x hv => ?_
    · exact hd.other
    · split
      · exact ((hv.wr _ _ _).wr _ _ _).wr _ _ _
      · exact hv
  exact ((hs3.modPart _ _).clearTokens _).wr _ _ _

theorem Sound.execPartAssign (x : HmpHead) (body : List Byte) : Completes s (execPartAssign x body u) := by
  unfold Machine.execPartAssign
  dsimp only
  refine h.hmpObj _ _ fun x0 hv => ?_
  split
  · exact (hv.recordOpen _ _ _ _).answer4 _ _
  · exact .ite ((hv.assign _).answer4 _ _) ((hv.recordOpen _ _ _ _).answer4 _ _)

theorem Sound.execPartState (x : HmpHead) : Completes s (execPartState x u) := h.hmpObj _ _ (fun _ hv => hv.hmpSay _ _ _ _)

theorem Sound.dropKeys (n : Nat) : Sound s (u.dropKeys n) := h.foldl _ fun _ _ hv => hv.other.setReg _ _ _

theorem Sound.dropSent (n : Nat) : Sound s (u.dropSent n) := h.other

theorem Sound.dropOwed (n : Nat) : Sound s (u.dropOwed n) := h.other

theorem Sound.scrubBegin (n : Nat) : Sound s (u.scrubBegin n) := by
  unfold State.scrubBegin
  extract_lets s1 s2 s3 s4 s5 s6 s7
  have hs2 : Sound s s2 := by
    refine Sound.foldl ?_ _ fun v x hv => ?_
    · exact (h.wr _ _ _).wr _ _ _
    · exact hv.returnGrants _
  have hs5 : Sound s s5 := ((hs2.other.dropKeys _).clearEth _).foldl _ fun _ _ hv => (hv.clearReg _ _).clearReg _ _
  exact ((((((((hs5.endColls _).abandon _).dropSent _).relaxEnd _).loseRep _).modPart _ _).dropOwed _).wr _ _ _).sweepShow

theorem Sound.execPartRelease (x : HmpHead) (body : List Byte) : Completes s (execPartRelease x body u) := by
  unfold Machine.execPartRelease
  extract_lets n
  exact h.hmpObj _ _ (fun _ hv => .ite ((hv.recordOpen _ _ _ _).answer4 _ _) (.ite (((hv.scrubBegin _).voteCheck).answer4 _ _)
    ((hv.recordOpen _ _ _ _).answer4 _ _)))

theorem Sound.zeroUnits (n : Nat) : Sound s (u.zeroUnits n) := by
  unfold State.zeroUnits
  extract_lets mine s1 s2 of_
  have hs1 : Sound s s1 := h.foldl _ fun _ _ hv => (hv.storeZero _).setReg _ _ _
  have hs2 : Sound s s2 := hs1.foldl _ fun _ _ hv => ((hv.setReg _ _ _).setReg _ _ _).wr _ _ _
  exact hs2.other.clearTokens _

theorem Sound.scrubDone (n : Nat) : Sound s (u.scrubDone n) := by
  unfold State.scrubDone
  extract_lets failed s0 s1 s2 s3 src s4 t s5 s6 s7
  have hs2 : Sound s s2 := ((((h.other.clearSeals _).clearWins _).clearPeers _).setReg _ _ _).setReg _ _ _
  have hs3 : Sound s s3 := hs2.foldl _ fun _ _ hv => (((hv.wr _ _ _).wr _ _ _).wr _ _ _).setReg _ _ _
  have hs4 : Sound s s4 := hs3.other.foldl _ fun _ _ hv => hv.clearReg _ _
  have hs6 : Sound s s6 := ((((hs4.modPart _ _).setReg _ _ _).wr _ _ _).wr _ _ _).wr _ _ _
  have hs7 : Sound s s7 := .ite (hs6.recordOpen _ _ _ _) hs6
  exact hs7.sweepShow.raise _ _ _ _ _

theorem Sound.scrubFill (n : Nat) : Sound s (u.scrubFill n) :=
  .ite (((h.endLoans _).modPart _ _).zeroFill _ _ _ _ _) ((((h.endLoans _).modPart _ _).zeroFill _ _ _ _ _).scrubDone _)

theorem Sound.execScrubHalted (n : Fin 16) : Completes s (execScrubHalted n u) := .ite (((h.zeroUnits _).modPart _ _).next) h.next

theorem Sound.execScrubStoresZeroed (n : Fin 16) : Completes s (execScrubStoresZeroed n u) := .ite ((h.scrubFill _).next) h.next

theorem Sound.loanFreed (slot : Nat) : Sound s (u.loanFreed slot) := by
  unfold State.loanFreed
  split
  · exact h.other.wr _ _ _
  · exact h

theorem Sound.execZeroFillDone (k : Fin 8) (loan : Bool) (owner : Fin 32) : Completes s (execZeroFillDone k loan owner u) := by
  unfold Machine.execZeroFillDone
  split
  · exact h.next
  · extract_lets s1
    refine .ite ?_ ?_
    · exact (h.zeroFillEnd _).next
    · refine .ite ?_ ?_
      · exact ((h.zeroFillEnd _).loanFreed _).next
      · exact .ite ((((h.zeroFillEnd _).scrubDone _).voteCheck).next) ((h.zeroFillEnd _).next)

theorem Sound.execRelaxPending : Completes s (execRelaxPending u) := h.other.next

theorem Sound.execRelaxEndPending : Completes s (execRelaxEndPending u) := h.other.next

/-! ### Stacks -/

theorem Sound.stackLost (n k : Nat) : Sound s (u.stackLost n k) := by
  unfold State.stackLost
  extract_lets s1 s2
  have hs2 : Sound s s2 := by
    refine Sound.foldl ?_ _ fun v x hv => ?_
    · exact h.modPart _ _
    · exact hv.returnGrants _
  exact .ite ((hs2.endRunning _ _ _).wr _ _ _) ((h.modPart _ _).jobEnd _ _ _)

theorem Sound.failOps (k : Nat) (l : List (Nat × Option (List (Option Byte) × Bool))) : Sound s (u.failOps k l) :=
  h.foldl _ fun _ _ hv => .ite (hv.emit _) hv

theorem Sound.stackFail (k : Nat) : Sound s (u.stackFail k) := by
  unfold State.stackFail
  extract_lets s1 ops s2 s3 s4 s5
  have hs1 : Sound s s1 := (h.wr _ _ _).raise _ _ _ _ _
  have hs3 : Sound s s3 := (hs1.other.failOps _ _).foldl _ fun _ _ hv => hv.stackLost _ _
  have hs4 : Sound s s4 := hs3.foldl _ fun _ _ hv => (hv.sendLend _ _ _ _).endLoanOut _
  have hs5 : Sound s s5 := by
    refine Sound.foldl ?_ _ fun v x hv => ?_
    · exact hs4
    · exact hv.scrubDone _
  exact .ite h (((hs5.wr _ _ _).sweepShow).voteCheck)

theorem Sound.packetTries (k : Nat) (crc : Fin 10) : Sound s (u.packetTries k crc) :=
  .ite h (.ite ((h.raise _ _ _ _ _).stackFail _) (h.raise _ _ _ _ _))

theorem Sound.execStackRead (k : Fin 8) (line : BitVec 31) (crc : Fin 10) (h' : List StackHit) :
    Completes s (execStackRead k line crc h' u) := by
  unfold Machine.execStackRead
  extract_lets a s' s1
  have hs' : Sound s s' := .ite h (h.packetTries _ _)
  exact .ite ((hs'.emit _).next) (.ite ((hs'.waitMem _ _ _).next) (((hs'.stackHits _).emit _).next))

theorem Sound.execStackWrite (k : Fin 8) (line : BitVec 31) (data : BitVec 512) (mask : BitVec 64) (poison : Bool) (crc : Fin 10) :
    Completes s (execStackWrite k line data mask poison crc u) := by
  unfold Machine.execStackWrite
  extract_lets a f l s'
  have hs' : Sound s s' := .ite h (h.packetTries _ _)
  exact .ite hs'.next (.ite ((hs'.waitMem _ _ _).next) (.ite (hs'.other.next) ((hs'.memLine _ _ _ _).next)))

theorem Sound.execPageConversionDone (k : Fin 8) (frame : BitVec 21) : Completes s (execPageConversionDone k frame u) := by
  unfold Machine.execPageConversionDone
  split
  · exact h.next
  · exact (h.convEnd _).next

theorem Sound.execMemPatrolScrub (k : Fin 8) (h' : List StackHit) : Completes s (execMemPatrolScrub k h' u) := by
  unfold Machine.execMemPatrolScrub
  extract_lets line s1 next s2
  have hs1 : Sound s s1 := h.stackHits _
  have hs2 : Sound s s2 := hs1.other
  exact .ite ((Sound.ite hs2.other hs2).next) h.next

theorem Sound.execRowSpareDone (k : Fin 8) (bank : Fin 512) : Completes s (execRowSpareDone k bank u) := by
  unfold Machine.execRowSpareDone
  extract_lets key used
  split
  · exact h.next
  · extract_lets s1 s2 s3
    have hs2 : Sound s s2 := ((h.other.foldl _ fun _ _ hv => hv.memOp _ _).count _ _).raise _ _ _ _ _
    have hs3 : Sound s s3 := .ite ((hs2.count _ _).raise _ _ _ _ _) hs2
    exact (Sound.ite (hs3.stackFail _) hs3).next

theorem Sound.execStackTrainingDone (k : Fin 8) (ok : Bool) : Completes s (execStackTrainingDone k ok u) := by
  unfold Machine.execStackTrainingDone
  refine .ite (.ite ?_ (h.wr _ _ _).next) h.next
  extract_lets s1 banks s2
  have hs1 : Sound s s1 := Sound.other (h.filterMem (fun e => e.1 / 2 ^ 37 ≠ k.val) fun e => e.1 / 2 ^ 31 ≠ k.val)
  have hs2 : Sound s s2 := (hs1.wr _ _ _).wr _ _ _
  exact (Sound.ite (hs2.stackFail _) (hs2.wr _ _ _)).next

theorem Sound.execStackFail (k : Fin 8) : Completes s (execStackFail k u) := (h.stackFail _).next

theorem Sound.execRotationReq (n : Fin 16) : Completes s (execRotationReq n u) := .ite h.next ((h.wr _ _ _).next)

theorem Sound.execRotationKeyLoaded (n : Fin 16) : Completes s (execRotationKeyLoaded n u) :=
  .ite (((((((h.drawKey.other).wr _ _ _).wr _ _ _).wr _ _ _).wr _ _ _).countOld _).next) h.next

theorem Sound.execSweepConversion (k : Fin 8) (n : Fin 16) (h' : List StackHit) : Completes s (execSweepConversion k n h' u) := by
  unfold Machine.execSweepConversion
  refine .ite ?_ ?_
  · split
    · exact h.next
    · exact (((h.stackHits _).settled _ _).convert _ _).next
  · exact h.next

/-! ### Time -/

theorem Sound.setTime (v master : Nat) : Sound s (u.setTime v master) := (((h.other.wr _ _ _).wr _ _ _).wr _ _ _).raise _ _ _ _ _

theorem Sound.writeTimCtl (master : Nat) (w : Word) : Sound s (u.writeTimCtl master w) := .ite ((h.wr _ _ _).setTime _ _) (h.wr _ _ _)

theorem Sound.execTimSet (master : BitVec 10) : Completes s (execTimSet master u) := (h.writeTimCtl _ _).next

theorem Sound.execTimNowLoRead (master : BitVec 10) : Completes s (execTimNowLoRead master u) := (h.other.emit _).next

theorem Sound.execAonOscStop : Completes s (execAonOscStop u) := (((h.wr _ _ _).wr _ _ _).raise _ _ _ _ _).next

theorem Sound.persist (ok : Bool) : Sound s (u.persist ok) := .ite h.other (h.raise _ _ _ _ _)

theorem Sound.execCounterPersist (ok : Bool) : Completes s (execCounterPersist ok u) := (h.persist _).next

theorem Sound.execReferenceLoss : Completes s (execReferenceLoss u) := .ite h.next (((((h.wr _ _ _).wr _ _ _).wr _ _ _).raise _ _ _ _ _).next)

theorem Sound.execReferenceRestored : Completes s (execReferenceRestored u) :=
  .ite (((((h.wr _ _ _).wr _ _ _).wr _ _ _).raise _ _ _ _ _).next) h.next

theorem Sound.tick : Sound s u.tick := .ite (h.other.count _ _) h.other

/-! ### Ether -/

theorem Sound.dropSa (p : Nat) : Sound s (u.dropSa p) := h.modPort _ _

theorem Sound.closePort (p sev : Nat) : Sound s (u.closePort p sev) := (h.dropSa _).raise _ _ _ _ _

theorem Sound.reAdmit (p : Nat) : Sound s (u.reAdmit p) := h.wr _ _ _

theorem Sound.ptpGo (p st : Nat) : Sound s (u.ptpGo p st) :=
  .ite h (.ite ((((h.wr _ _ _).raise _ _ _ _ _).wr _ _ _).raise _ _ _ _ _) ((h.wr _ _ _).raise _ _ _ _ _))

theorem Sound.ptpLink (p : Nat) : Sound s (u.ptpLink p) := .ite (.ite ((h.modPort _ _).ptpGo _ _) h) ((h.modPort _ _).ptpGo _ _)

theorem Sound.execEthLinkUp (p : Fin 2) (rate : BitVec 2) : Completes s (execEthLinkUp p rate u) :=
  .ite (((((h.wr _ _ _).reAdmit _).raise _ _ _ _ _).ptpLink _).next) h.next

theorem Sound.ethDown (p : Nat) : Sound s (u.ethDown p) :=
  .ite h ((((((Sound.ite (h.closePort _ _) (h.dropSa _)).wr _ _ _).wr _ _ _).raise _ _ _ _ _).modPort _ _).ptpLink _)

theorem Sound.execEthLinkDown (p : Fin 2) : Completes s (execEthLinkDown p u) := (h.ethDown _).next

theorem Sound.execEthLinkRetry (p : Fin 2) : Completes s (execEthLinkRetry p u) := (Sound.ite (h.wr _ _ _) h).next

theorem Sound.setCak (p : Nat) (ckn cak : List Byte) : Sound s (u.setCak p ckn cak) := by
  unfold State.setCak
  extract_lets s0 s1
  have hs0 : Sound s s0 := .ite (h.modPort _ _) h
  have hs1 : Sound s s1 := (hs0.modPort _ _).wr _ _ _
  exact .ite (hs1.wr _ _ _) hs1

theorem Sound.revokeCak (p : Nat) : Sound s (u.revokeCak p) := by
  unfold State.revokeCak
  extract_lets s1
  refine .ite ?_ ?_
  · exact (((h.modPort _ _).wr _ _ _).closePort _ _).wr _ _ _
  · exact .ite ((((h.modPort _ _).wr _ _ _).dropSa _).wr _ _ _) ((h.modPort _ _).wr _ _ _)

theorem Sound.execMkaFrame (p : Fin 2) (valid sak : Bool) : Completes s (execMkaFrame p valid sak u) := .ite ((h.modPort _ _).next) h.next

theorem Sound.execMkaSaInstalled (p : Fin 2) : Completes s (execMkaSaInstalled p u) :=
  .ite (.ite ((((h.modPort _ _).wr _ _ _).raise _ _ _ _ _).next) ((h.modPort _ _).next)) h.next

theorem Sound.execMkaPeerTimeout (p : Fin 2) : Completes s (execMkaPeerTimeout p u) :=
  .ite (((h.closePort _ _).reAdmit _).next) (.ite ((h.dropSa _).next) h.next)

theorem Sound.execMkaHello (p : Fin 2) : Completes s (execMkaHello p u) := by
  unfold Machine.execMkaHello
  split
  · exact .ite ((h.mkpdu _ _ _).next) h.next
  · exact h.next

end

end Sys2Proof.Machine
end

section
/-! PROOFS.  What every command keeps, function by function (4 of 6): the order of the model's definitions, the first of which
call no other. -/

namespace Sys2Proof.Machine

section
variable {s t u v : State} (h : Sound s u)
include h

/-! ### Ether -/

theorem Sound.pauseTaken (p : Nat) (l : List (Fin 8 × BitVec 16)) : Sound s (u.pauseTaken p l) := (h.modPort _ _).flushPort _

theorem Sound.bufferSeen (p prio fill : Nat) : Sound s (u.bufferSeen p prio fill) :=
  .ite h (.ite ((h.modPort _ _).emit _) (.ite ((h.modPort _ _).emit _) h))

theorem Sound.buffersEmpty (p : Nat) : Sound s (u.buffersEmpty p) := h.foldl _ fun _ _ hv => hv.bufferSeen _ _ _

theorem Sound.pnSeen (p : Nat) (f : EthFrame) : Sound s (u.pnSeen p f) := .ite (h.modPort _ _) h

theorem Sound.execEthFrameReceive (p : Fin 2) (f : EthFrame) : Completes s (execEthFrameReceive p f u) := by
  unfold Machine.execEthFrameReceive
  refine .ite ?_ ?_
  · exact h.next
  · refine .ite ?_ ?_
    · exact (h.pauseTaken _ _).next
    · split
      · exact ((h.pnSeen _ _).bufferSeen _ _ _).next
      · exact (h.count _ _).next
      · exact ((h.count _ _).raise _ _ _ _ _).next

theorem Sound.qpReply (q : Nat) (p : RocePkt) : Sound s (u.qpReply q p) := .ite (h.roce _ _) h

theorem Sound.owe (q psn id : Nat) (job : OwedJob) (settled : Bool) : Sound s (u.owe q psn id job settled) := h.other

theorem Sound.oweNow (q psn : Nat) (job : OwedJob) : Sound s (u.oweNow q psn job) := h.other.owe _ _ _ _ _

theorem Sound.nakSide (q syn : Nat) (data : Option (List Word)) : Sound s (u.nakSide q syn data) :=
  .ite (h.wr _ _ _) ((h.wr _ _ _).qpError _ _ _ _)

theorem Sound.pageWrite (n off : Nat) (w : Word) : Sound s (u.pageWrite n off w) := by
  unfold State.pageWrite
  split
  · exact h.writePi _ _
  · exact h.writeRingCtl _ _
  · exact h.writeCqCi _ _
  · exact h.setReg _ _ _
  · exact .ite (h.setReg _ _ _) h
  · exact h

theorem Sound.payOne (o : Owed) : Sound s (u.payOne o) := by
  unfold State.payOne
  extract_lets n oper
  have hoper : Sound s oper := (h.other.qpReply _ _).nakSide _ _ _
  split
  · exact .ite hoper (h.qpReply _ _)
  · exact .ite hoper (h.qpReply _ _)
  · exact (h.pageWrite _ _ _).qpReply _ _
  · exact h.qpReply _ _
  · exact h.qpReply _ _

theorem Sound.payOwed (n : Nat) : Sound s (u.payOwed n) := by
  induction n generalizing u with
  | zero => exact h
  | succ n ih =>
    unfold State.payOwed
    split
    · exact h
    · exact ih (h.other.payOne _)

theorem Sound.pay : Sound s u.pay := h.payOwed _

theorem Sound.nak (q psn syn : Nat) (data : Option (List Word)) : Sound s (u.nak q psn syn data) := ((h.oweNow _ _ _).nakSide _ _ _).pay

theorem Sound.nakAccess (q psn rkey va : Nat) : Sound s (u.nakAccess q psn rkey va) := h.nak _ _ _ _

theorem Sound.answerCe (q : Nat) (ce : Bool) : Sound s (u.answerCe q ce) := .ite ((h.modQp _ _).roce _ _) h

theorem Sound.bumpRpsn (q psn n : Nat) : Sound s (u.bumpRpsn q psn n) := h.wr _ _ _

theorem Sound.rdmaPut (q n psn va : Nat) (page : Bool) (l : List Byte) : Sound s (u.rdmaPut q n psn va page l) :=
  .ite (h.oweNow _ _ _) ((((h.newDesc _ _).owe _ _ _ _ _).foldl _ fun _ _ hv => hv.writeDest _ _ _ _ _ _).closeDesc _)

theorem Sound.rdmaGet (q n psn a len : Nat) : Sound s (u.rdmaGet q n psn a len) := by
  unfold State.rdmaGet
  extract_lets x s1
  have hs1 : Sound s s1 := by
    unfold s1
    dsimp only
    refine Sound.foldl ?_ _ fun v x hv => ?_
    · exact (h.newDesc _ _).owe _ _ _ _ _
    · split
      · exact hv.issueGet _ _ _ _ _ _
      · exact hv.writeDest _ _ _ _ _ _
  exact hs1.closeDesc _

theorem Sound.scrubNak (q psn : Nat) : Sound s (u.scrubNak q psn) := by
  unfold State.scrubNak
  refine .ite ?_ ?_
  · exact h
  · split
    · exact .ite (h.sendEth _ _) h
    · exact h

theorem Sound.execRdmaWrite (q : BitVec 12) (psn : BitVec 24) (pos : WritePos) (va : BitVec 64) (rkey len : Word) (data : List Byte)
    (ce : Bool) :
    Completes s (execRdmaWrite q psn pos va rkey len data ce u) := by
  unfold Machine.execRdmaWrite
  extract_lets q' psn' s' n head cur ends
  refine .ite ?_ ?_
  · exact (h.scrubNak _ _).next
  · refine .ite ?_ ?_
    · exact ((h.answerCe _ _).nak _ _ _ _).next
    · clear_value cur
      split
      · exact ((h.answerCe _ _).nak _ _ _ _).next
      · extract_lets fits page s1
        refine .ite ?_ ?_
        · exact ((h.answerCe _ _).nak _ _ _ _).next
        · refine .ite ?_ ?_
          · exact ((h.answerCe _ _).nak _ _ _ _).next
          · refine .ite ?_ ?_
            · exact ((h.answerCe _ _).nakAccess _ _ _ _).next
            · refine .ite ?_ ?_
              · exact (((h.answerCe _ _).reject _ _ _ _).nakAccess _ _ _ _).next
              · refine .ite ?_ ?_
                · exact ((h.answerCe _ _).nak _ _ _ _).next
                · exact (((((h.answerCe _ _).rdmaPut _ _ _ _ _ _).bumpRpsn _ _ _).modQp _ _).pay).next

theorem Sound.execRdmaReadRequest (q : BitVec 12) (psn : BitVec 24) (va : BitVec 64) (rkey len : Word) (ce : Bool) (h' : List StackHit) :
    Completes s (execRdmaReadRequest q psn va rkey len ce h' u) := by
  unfold Machine.execRdmaReadRequest
  extract_lets q' psn' a key len' s' n s1
  have hs1 : Sound s s1 := (h.answerCe _ _).stackHits _
  refine .ite ?_ ?_
  · exact (h.scrubNak _ _).next
  · refine .ite ?_ ?_
    · exact ((h.answerCe _ _).nak _ _ _ _).next
    · refine .ite ?_ ?_
      · exact ((h.answerCe _ _).nak _ _ _ _).next
      · refine .ite ?_ ?_
        · exact ((h.answerCe _ _).nakAccess _ _ _ _).next
        · refine .ite ?_ ?_
          · exact ((((h.answerCe _ _).oweNow _ _ _).bumpRpsn _ _ _).pay).next
          · refine .ite ?_ ?_
            · exact (((h.answerCe _ _).reject _ _ _ _).nakAccess _ _ _ _).next
            · refine .ite ?_ ?_
              · exact (((h.answerCe _ _).reject _ _ _ _).nakAccess _ _ _ _).next
              · exact .ite (((h.answerCe _ _).nak _ _ _ _).next) ((((hs1.rdmaGet _ _ _ _ _).bumpRpsn _ _ _).pay).next)

theorem Sound.execRoceInvalidRequest (q : BitVec 12) (psn : BitVec 24) (ce : Bool) : Completes s (execRoceInvalidRequest q psn ce u) :=
  .ite (((h.answerCe _ _).nak _ _ _ _).next) ((h.scrubNak _ _).next)

theorem Sound.execRnrNak (q : BitVec 12) (psn : BitVec 24) : Completes s (execRnrNak q psn u) := .ite ((h.nak _ _ _ _).next) h.next

theorem Sound.feedCmd (i c : Nat) (l : List Byte) : Sound s (u.feedCmd i c l) := by
  unfold State.feedCmd
  extract_lets s1
  split
  · exact h.modCmd _ _ _
  · split
    · exact .ite ((h.modCmd _ _ _).loadPlain _ _) (h.modCmd _ _ _)
    · exact h.modCmd _ _ _

theorem Sound.execRdmaReadResponse (q : BitVec 12) (psn : BitVec 24) (data : List Byte) (ce : Bool) :
    Completes s (execRdmaReadResponse q psn data ce u) := by
  unfold Machine.execRdmaReadResponse
  extract_lets q' s'
  split
  · exact (h.answerCe _ _).next
  · split
    · extract_lets want r1 s1
      have hs1 : Sound s s1 := .ite ((h.answerCe _ _).modQp _ _) ((h.answerCe _ _).modQp _ _)
      exact .ite (((hs1.pumpQp _ _).feedCmd _ _ _).next) ((h.answerCe _ _).next)
    · exact (h.answerCe _ _).next

theorem Sound.resendQp (q : Nat) : Sound s (u.resendQp q) := h.foldl _ fun _ _ hv => hv.wireReq _ _

theorem Sound.retryQp (q : Nat) (rnr : Bool) : Sound s (u.retryQp q rnr) := by
  unfold State.retryQp
  extract_lets lim
  split
  · exact h
  · exact .ite (h.qpError _ _ _ _) ((h.modQp _ _).resendQp _)

theorem Sound.execRoceNakReceived (q : BitVec 12) (syn : BitVec 8) (ce : Bool) : Completes s (execRoceNakReceived q syn ce u) := by
  unfold Machine.execRoceNakReceived
  extract_lets q' s' s1
  have hs1 : Sound s s1 := (h.answerCe _ _).wr _ _ _
  refine .ite ?_ ?_
  · exact (h.answerCe _ _).next
  · exact .ite ((hs1.retryQp _ _).next) (.ite ((hs1.retryQp _ _).next) ((hs1.qpError _ _ _ _).next))

theorem Sound.execRoceAckTimeout (q : BitVec 12) : Completes s (execRoceAckTimeout q u) := .ite ((h.retryQp _ _).next) h.next

theorem Sound.execRoceAcknowledge (q : BitVec 12) (psn : BitVec 24) (ce : Bool) : Completes s (execRoceAcknowledge q psn ce u) :=
  .ite ((((h.answerCe _ _).modQp _ _).pumpQp _ _).next) ((h.answerCe _ _).next)

theorem Sound.execCnpReceive (q : BitVec 12) : Completes s (execCnpReceive q u) := .ite ((h.count _ _).next) (((h.count _ _).modQp _ _).next)

theorem Sound.execCnpRateRecovery (q : BitVec 12) : Completes s (execCnpRateRecovery q u) := (h.modQp _ _).next

theorem Sound.writeQpBind (q : Nat) (w : Word) : Sound s (u.writeQpBind q w) := by
  unfold State.writeQpBind
  extract_lets was v s1 x s2
  have hs1 : Sound s s1 := h.setReg _ _ _
  refine .ite ?_ ?_
  · exact .ite hs1 ((hs1.setReg _ _ _).wr _ _ _)
  · refine .ite ?_ ?_
    · refine Sound.foldl ?_ _ fun v x hv => ?_
      · exact (hs1.other.setReg _ _ _).modQp _ _
      · split
        · exact hv.cmdEnd _ _ _ _
        · exact hv
    · exact hs1

theorem Sound.execEthQpBindWrite (q : BitVec 12) (w : Word) : Completes s (execEthQpBindWrite q w u) := (h.writeQpBind _ _).next

theorem Sound.writeMwCtl (i : Nat) (w : Word) : Sound s (u.writeMwCtl i w) :=
  .ite (((((h.wr _ _ _).wr _ _ _).wr _ _ _).drawTag).wr _ _ _) (((h.wr _ _ _).wr _ _ _).wr _ _ _)

theorem Sound.execEthMwCtlWrite (i : Fin 128) (w : Word) : Completes s (execEthMwCtlWrite i w u) := (h.writeMwCtl _ _).next

theorem Sound.execEthDbTagNew (n : Fin 16) : Completes s (execEthDbTagNew n u) := (h.drawTag.wr _ _ _).next

theorem Sound.writeVlan (i : Nat) (w : Word) : Sound s (u.writeVlan i w) := .ite (h.setReg _ _ _) (h.raise _ _ _ _ _)

theorem Sound.execEthVlanWrite (i : Fin 64) (w : Word) : Completes s (execEthVlanWrite i w u) := (h.writeVlan _ _).next

theorem Sound.tlsAnswer (client : Nat) (hash : List Byte) : Sound s (u.tlsAnswer client hash) := by
  unfold State.tlsAnswer
  extract_lets digest r utc
  split
  · exact h.emit _
  · exact (h.freeBytes _).emit _

theorem Sound.execHmpConnect (p : Fin 2) (client : Nat) (anchor hash : List Byte) : Completes s (execHmpConnect p client anchor hash u) :=
  .ite h.next (.ite (((h.tlsAnswer _ _).other).next) (((h.tlsAnswer _ _).emit _).next))

theorem Sound.execHmpIdleTimeout (client : Nat) : Completes s (execHmpIdleTimeout client u) := h.other.next

theorem Sound.say (i etherType : Nat) (body : List Byte) : Sound s (u.say i etherType body) := h.sendEth _ _

theorem Sound.execArpRequest (i : Fin 64) (ip : BitVec 128) : Completes s (execArpRequest i ip u) := .ite ((h.say _ _ _).next) h.next

theorem Sound.execNeighbourSolicitation (i : Fin 64) (ip : BitVec 128) : Completes s (execNeighbourSolicitation i ip u) :=
  .ite ((h.say _ _ _).next) h.next

theorem Sound.execIcmpEcho (i : Fin 64) (ip : BitVec 128) (payload : List Byte) : Completes s (execIcmpEcho i ip payload u) :=
  .ite ((h.say _ _ _).next) h.next

theorem Sound.discipline (off : Int) : Sound s (u.discipline off) := .ite ((h.freeNat _).wrS _ _ _) (h.other.raise _ _ _ _ _)

theorem Sound.ptpDecide : Sound s u.ptpDecide := h.foldl _ fun _ _ hv => .ite hv (.ite hv (hv.ptpGo _ _))

theorem Sound.ptpSend (p : Nat) (body : List Byte) : Sound s (u.ptpSend p body) := h.sendEth _ _

theorem Sound.ptpHear (p : Nat) (d : PtpData) : Sound s (u.ptpHear p d) := (h.modPort _ _).ptpDecide

theorem Sound.ptpTiming (p : Nat) (lock : Bool) (off : Option Int) (utc : Option (BitVec 16)) : Sound s (u.ptpTiming p lock off utc) := by
  unfold State.ptpTiming
  extract_lets s1 s2 mine s3
  have hs1 : Sound s s1 := .ite (h.ptpGo _ _) h
  have hs2 : Sound s s2 := .ite (((hs1.wr _ _ _).wr _ _ _).raise _ _ _ _ _) hs1
  have hs3 : Sound s s3 := by
    unfold s3
    split
    · exact .ite ((((hs2.discipline _).wr _ _ _).wr _ _ _).wr _ _ _) hs2
    · exact hs2
  refine .ite ?_ ?_
  · exact h
  · split
    · exact .ite (hs3.wr _ _ _) hs3
    · exact hs3

theorem Sound.execPtpMessage (p : Fin 2) (dom : BitVec 8) (m : PtpMsg) : Completes s (execPtpMessage p dom m u) := by
  unfold Machine.execPtpMessage
  refine .ite ?_ ?_
  · split
    · exact (h.ptpHear _ _).next
    · exact (h.ptpTiming _ _ _ _).next
    · exact .ite ((h.ptpSend _ _).next) h.next
  · exact h.next

theorem Sound.ptpSpeak (p : Nat) : Sound s (u.ptpSpeak p) :=
  .ite h (.ite (((h.ptpSend _ _).ptpSend _ _).ptpSend _ _) ((h.ptpSend _ _).ptpSend _ _))

theorem Sound.ptpTick : Sound s u.ptpTick := ((h.other.ptpDecide).ptpSpeak _).ptpSpeak _

theorem Sound.ethTick (before : Nat) : Sound s (u.ethTick before) := by
  unfold State.ethTick
  extract_lets s1 s2
  have hs2 : Sound s s2 := ((((h.flushPort _).flushPort _).buffersEmpty _).buffersEmpty _).pay
  exact .ite hs2.ptpTick hs2

theorem Sound.execPtpLockLost (p : Fin 2) : Completes s (execPtpLockLost p u) := .ite (((h.wr _ _ _).raise _ _ _ _ _).next) h.next

theorem Sound.execLldpSend (p : Fin 2) : Completes s (execLldpSend p u) := .ite h.next ((h.emit _).next)

theorem Sound.execLldpReceive (p : Fin 2) (id info : List Byte) : Completes s (execLldpReceive p id info u) :=
  .ite h.next (.ite h.next (((h.modPort _ _).raise _ _ _ _ _).next))

/-! ### Queue -/

theorem Sound.modChan (c : Nat) (f : Chan → Chan) : Sound s (u.modChan c f) := h.other

theorem Sound.holdBack : Sound s u.holdBack := (h.count _ _).raise _ _ _ _ _

theorem Sound.offer (c : Nat) (t : Tx) : Sound s (u.offer c t) := .ite h (.ite h.holdBack ((Sound.ite (h.count _ _) h).modChan _ _))

theorem Sound.queueFrame (mask i : Nat) (body : List Byte) (src : Nat) (bare : Bool) : Sound s (u.queueFrame mask i body src bare) :=
  h.other.foldl _ fun _ _ hv => hv.offer _ _

theorem Sound.alarm (code : Nat) : Sound s (u.alarm code) := (h.foldl _ fun _ _ hv => hv.modChan _ _).queueFrame _ _ _ _ _

theorem Sound.gateCheck : Sound s u.gateCheck :=
  .ite (h.wr _ _ _) ((h.wr _ _ _).foldl _ fun _ _ hv => (hv.modChan _ _).foldl _ fun _ _ hw => hw.holdBack)

theorem Sound.busyShow : Sound s u.busyShow := h.setReg _ _ _

theorem Sound.stage (r : Reg) (i : Nat) (w : Word) : Sound s (u.stage r i w) := (Sound.ite h h.other).setReg _ _ _

/-! ### Sources -/

theorem Sound.roundOff (v : Rat) : Sound s (u.roundOff v).2 := by
  unfold State.roundOff
  extract_lets f d
  split
  · exact h
  · dsimp only
    exact h.freeNat _

theorem Sound.roundNat (w : Nat) (v : Rat) : Sound s (u.roundNat w v).2 := h.roundOff _

theorem Sound.setRead (k : Nat) (v : Rat) : Sound s (u.setRead k v) := h.other

theorem Sound.dropRead (k : Nat) : Sound s (u.dropRead k) := h.other

theorem Sound.setAct (dst : Nat) (v : Rat) : Sound s (u.setAct dst v) := h.other

/-! ### Protect -/

theorem Sound.read16 (v : Option Rat) (k : Rat) : Sound s (u.read16 v k).2 := by
  unfold State.read16
  split
  · exact h
  · exact h.roundOff _

theorem Sound.readSet : Sound s u.readSet.2 := h.foldSnd _ fun _ _ hr => hr.read16 _ _

theorem Sound.keepReadings : Sound s u.keepReadings := h.readSet.other

theorem Sound.protect (f : Fld) (inst : Nat) (leak : Bool) : Sound s (u.protect f inst leak) := by
  unfold State.protect
  extract_lets s1 r src s2
  have hs1 : Sound s s1 := h.raiseBit _ _
  split
  · exact hs1.other.alarm _
  · exact hs1.other

theorem Sound.execProtectiveAfterReadings (k : Fin 8) : Completes s (execProtectiveAfterReadings k u) := by
  unfold Machine.execProtectiveAfterReadings
  extract_lets a src src'
  split
  · exact .ite (((h.readSet.other).insertRec _).next) h.next
  · exact h.next

theorem Sound.execCriticalOutputOff : Completes s (execCriticalOutputOff u) := h.other.next

theorem Sound.holdGear : Sound s u.holdGear := h.foldl _ fun _ _ hv => (hv.wr _ _ _).wr _ _ _

theorem Sound.coreOff : Sound s u.coreOff := by
  unfold State.coreOff
  extract_lets src s0 s1 s2
  have hs0 : Sound s s0 := (h.dropStores).other
  have hs1 : Sound s s1 := hs0.foldl _ fun _ _ hv => (hv.setReg _ _ _).wr _ _ _
  have hs2 : Sound s s2 := ((((hs1.wr _ _ _).wr _ _ _).wr _ _ _).wr _ _ _).wr _ _ _
  exact ((((hs2.wr _ _ _).wr _ _ _).wr _ _ _).wr _ _ _).holdGear

theorem Sound.quiesceNow : Sound s u.quiesceNow := .ite (((h.other.jobEndAll _ _).wr _ _ _).holdGear) h

theorem Sound.execQuiesceComplete : Completes s (execQuiesceComplete u) := .ite (h.coreOff.next) h.next

theorem Sound.trainAll : Sound s u.trainAll :=
  .ite h ((h.other.foldl _ fun _ _ hv => .ite (hv.wr _ _ _) hv).foldl _ fun _ _ hv => hv.foldl _ fun _ _ hw => hw.train _)

theorem Sound.coreOn : Sound s u.coreOn := (((((((h.trainAll.other).wr _ _ _).wr _ _ _).wr _ _ _).wr _ _ _).wr _ _ _).wr _ _ _).wr _ _ _

theorem Sound.flowCheck : Sound s u.flowCheck := .ite h (h.wr _ _ _)

theorem Sound.tryGate : Sound s u.tryGate := .ite h.coreOn h

theorem Sound.requestCompute : Sound s u.requestCompute := h.other.tryGate

/-! ### Power -/

theorem Sound.relevel : Sound s u.relevel := (h.wr _ _ _).wr _ _ _

theorem Sound.setCeil (c : Nat) : Sound s (u.setCeil c) := (h.wr _ _ _).relevel

theorem Sound.retarget (mv : Nat) : Sound s (u.retarget mv) := (h.other.wr _ _ _).wr _ _ _

theorem Sound.execGearChange (mv : BitVec 12) : Completes s (execGearChange mv u) :=
  .ite ((Sound.ite ((h.relevel.wr _ _ _).other) ((h.relevel.wr _ _ _).retarget _)).next) ((h.relevel.wr _ _ _).next)

theorem Sound.execGearSwitchDone : Completes s (execGearSwitchDone u) := by
  unfold Machine.execGearSwitchDone
  extract_lets t
  refine .ite ?_ ?_
  · exact h.next
  · split
    · exact ((h.wr _ _ _).retarget _).next
    · exact ((h.wr _ _ _).retarget _).next
    · exact h.next

theorem Sound.execGearSettled : Completes s (execGearSettled u) := .ite (((h.other.wr _ _ _).wr _ _ _).next) h.next

theorem Sound.execCadenceWindow (rates : Vector (BitVec 16) 68) : Completes s (execCadenceWindow rates u) := by
  unfold Machine.execCadenceWindow
  extract_lets src l v m src' src'' s1
  have hm : Sound s m.2 := by
    unfold m
    split
    · exact h
    · exact h.roundNat _ _
  exact .ite (((h.other.wr _ _ _).wr _ _ _).next) (((hm.other.wr _ _ _).wr _ _ _).next)

theorem Sound.recap : Sound s u.recap := .ite ((h.wr _ _ _).wr _ _ _) (((h.wr _ _ _).wr _ _ _).raise _ _ _ _ _)

theorem Sound.capSample : Sound s u.capSample := (h.recap.other).relevel

theorem Sound.writeGearReq (w : Word) : Sound s (u.writeGearReq w) := .ite (((h.wr _ _ _).other).relevel) (h.wr _ _ _)

theorem Sound.execPowerSample (w : BitVec 16) : Completes s (execPowerSample w u) :=
  (((((h.other.roundNat _ _).roundNat _ _).wr _ _ _).wr _ _ _).setRead _ _).next

theorem Sound.execCapUnmet : Completes s (execCapUnmet u) := .ite ((h.raise _ _ _ _ _).next) h.next

theorem Sound.execLimiterTrigger : Completes s (execLimiterTrigger u) := by
  unfold Machine.execLimiterTrigger
  extract_lets step src s1 s2 s3 old src'
  have hs3 : Sound s s3 := (((h.other.relevel).wr _ _ _).count _ _).raiseBit _ _
  exact .ite h.next (.ite hs3.next ((hs3.other.record _ _ _ _ _ _ _).next))

theorem Sound.execLimiterRelease : Completes s (execLimiterRelease u) := .ite ((h.other.wr _ _ _).next) h.next

theorem Sound.execLimiterHoldStep : Completes s (execLimiterHoldStep u) := by
  unfold Machine.execLimiterHoldStep
  extract_lets l src
  split
  · exact (h.other.relevel).next
  · exact h.next

theorem Sound.execTjSample (src : BitVec 7) (t : BitVec 12) : Completes s (execTjSample src t u) := by
  unfold Machine.execTjSample
  extract_lets lim s1 src'
  have hs1 : Sound s s1 := ((h.wr _ _ _).wr _ _ _).setRead _ _
  exact .ite (.ite ((hs1.other.raise _ _ _ _ _).next) hs1.next) (.ite (hs1.other.next) hs1.next)

theorem Sound.execThermalTrip (t : BitVec 12) : Completes s (execThermalTrip t u) := by
  unfold Machine.execThermalTrip
  extract_lets s1 s2 s3
  have hs3 : Sound s s3 := ((((h.wr _ _ _).wr _ _ _).protect _ _ _).jobEndAll _ _).foldl _ fun _ _ hv => hv.relaxEnd _
  exact .ite h.next ((hs3.coreOff.stopFabric).next)

theorem Sound.execPwrTripRearm : Completes s (execPwrTripRearm u) := (h.wr _ _ _).next

theorem Sound.execTripRestart : Completes s (execTripRestart u) := .ite (((h.wr _ _ _).requestCompute).next) h.next

/-! ### Cio -/

theorem Sound.modCio (f : Cio → Cio) : Sound s (u.modCio f) := h.other

theorem Sound.refreshValve : Sound s u.refreshValve := by
  unfold State.refreshValve
  split
  · exact h.setAct _ _
  · exact h

theorem Sound.driveAo (a : Nat) (v : Rat) : Sound s (u.driveAo a v) := by
  unfold State.driveAo
  exact (h.setAct _ _).modCio _

theorem Sound.aoInit : Sound s u.aoInit := h.foldl _ fun _ _ hv => hv.setAct _ _

theorem Sound.writeAoCmd (a : Nat) (w : Word) : Sound s (u.writeAoCmd a w) := .ite h ((h.modCio _).driveAo _ _)

theorem Sound.execAoFault (a : Fin 4) : Completes s (execAoFault a u) := .ite h.next (((h.wr _ _ _).raiseFor _ _ _ _ _ _).next)

theorem Sound.execAoFaultClear (a : Fin 4) : Completes s (execAoFaultClear a u) := (h.wr _ _ _).next

theorem Sound.pwmShow (c : Nat) : Sound s (u.pwmShow c) := ((h.roundNat _ _).wr _ _ _).setAct _ _

theorem Sound.pwmRampFrom (c : Nat) : Sound s (u.pwmRampFrom c) := (h.wr _ _ _).modCio _

theorem Sound.pwmGroup (c : Nat) : Sound s (u.pwmGroup c) := .ite ((h.wr _ _ _).pwmRampFrom _) (h.wr _ _ _)

theorem Sound.pwmEval (c : Nat) : Sound s (u.pwmEval c) :=
  ((Sound.ite (h.wr _ _ _) (.ite (h.wr _ _ _) (.ite (h.wr _ _ _) (.ite (h.wr _ _ _) h)))).pwmGroup _).pwmShow _

theorem Sound.pwmAll : Sound s u.pwmAll := h.foldl _ fun _ _ hv => (hv.pwmGroup _).pwmShow _

theorem Sound.setVperi (on : Bool) : Sound s (u.setVperi on) := .ite h ((h.wr _ _ _).foldl _ fun _ _ hv => hv.pwmEval _)

theorem Sound.pwmFail (c why : Nat) : Sound s (u.pwmFail c why) := (((h.wr _ _ _).wr _ _ _).raiseFor _ _ _ _ _ _).pwmAll

theorem Sound.writePwmCfg (c : Nat) (w : Word) : Sound s (u.writePwmCfg c w) :=
  .ite (((h.setReg _ _ _).raise _ _ _ _ _).pwmEval _) (((h.setReg _ _ _).pwmEval _).pwmAll)

theorem Sound.writePwmCmd (c : Nat) (w : Word) : Sound s (u.writePwmCmd c w) := .ite h ((h.modCio _).pwmEval _)

theorem Sound.execPwmCfgWrite (c : Fin 8) (cmd : Bool) (w : Word) : Completes s (execPwmCfgWrite c cmd w u) :=
  (Sound.ite (h.writePwmCmd _ _) (h.writePwmCfg _ _)).next

theorem Sound.execTachEdge (t : Fin 8) (period : Word) : Completes s (execTachEdge t period u) := by
  unfold Machine.execTachEdge
  extract_lets n ovr s1 reports
  have hs1 : Sound s s1 := .ite (.ite h ((h.wr _ _ _).raiseFor _ _ _ _ _ _)) ((h.wr _ _ _).setRead _ _)
  exact .ite (((hs1.pwmRampFrom _).pwmShow _).next) hs1.next

theorem Sound.execKickTimeout (c : Fin 8) : Completes s (execKickTimeout c u) :=
  .ite h.next (.ite (((h.pwmRampFrom _).pwmShow _).next) (.ite (((h.wr _ _ _).pwmShow _).next) ((h.pwmFail _ _).next)))

theorem Sound.execPauseEnd (c : Fin 8) : Completes s (execPauseEnd c u) := .ite ((((h.wr _ _ _).wr _ _ _).pwmShow _).next) h.next

theorem Sound.execPwmRampEnd (c : Fin 8) : Completes s (execPwmRampEnd c u) := .ite (((h.wr _ _ _).pwmShow _).next) h.next

theorem Sound.execTachLost (c : Fin 8) : Completes s (execTachLost c u) := .ite ((h.pwmFail _ _).next) h.next

theorem Sound.execTachOvrTimeout (t : Fin 8) : Completes s (execTachOvrTimeout t u) := .ite (((h.setReg _ _ _).modCio _).next) h.next

theorem Sound.execCioPwmClr (m : BitVec 8) : Completes s (execCioPwmClr m u) :=
  ((h.foldl _ fun _ _ hv => ((hv.wr _ _ _).wr _ _ _).pwmEval _).pwmAll).next

theorem Sound.rampTick : Sound s u.rampTick := h.foldl _ fun _ _ hv => hv.pwmShow _

theorem Sound.sensShow (b : Nat) : Sound s (u.sensShow b) := .ite ((h.setReg _ _ _).wr _ _ _) (h.setReg _ _ _)

theorem Sound.rangeCheck (b : Nat) (ok : Bool) : Sound s (u.rangeCheck b ok) := by
  unfold State.rangeCheck
  extract_lets s1 had s2
  have hs2 : Sound s s2 := ((h.modCio _).modCio _).sensShow _
  exact .ite (h.modCio _) ((Sound.ite hs2 (hs2.raiseFor _ _ _ _ _ _)).wakeEvent _)

theorem Sound.execAiSample (ch : Fin 10) (raw val : Rat) : Completes s (execAiSample ch raw val u) := by
  unfold Machine.execAiSample
  extract_lets i mode ok s1 v ok' s1'
  refine .ite ?_ ?_
  · exact .ite h.next ((Sound.ite (((h.rangeCheck _ _).setRead _ _).sensShow _) (h.rangeCheck _ _)).next)
  · exact (Sound.ite ((h.rangeCheck _ _).setRead _ _) (h.rangeCheck _ _)).next

theorem Sound.histPut (k n : Nat) (v : Rat) : Sound s (u.histPut k n v) := h.modCio _

theorem Sound.execSensorSample (k : Fin 7) (v : Rat) : Completes s (execSensorSample k v u) := by
  unfold Machine.execSensorSample
  extract_lets ok s1 ok' s1' ok'' s1'' f
  refine .ite ?_ ?_
  · exact (Sound.ite (((h.rangeCheck _ _).setRead _ _).histPut _ _ _) (h.rangeCheck _ _)).next
  · refine .ite ?_ ?_
    · exact (Sound.ite ((h.rangeCheck _ _).setRead _ _) (h.rangeCheck _ _)).next
    · exact (Sound.ite ((((h.rangeCheck _ _).setRead _ _).histPut _ _ _).flowCheck) (h.rangeCheck _ _)).next

theorem Sound.execRangeFaultClear (b : Fin 24) : Completes s (execRangeFaultClear b u) := .ite (((h.modCio _).sensShow _).next) h.next

theorem Sound.latchSens (b : Nat) : Sound s (u.latchSens b) := (h.modCio _).sensShow _

theorem Sound.execPairMismatch (i : Fin 2) : Completes s (execPairMismatch i u) := by
  unfold Machine.execPairMismatch
  split
  · exact .ite (((h.latchSens _).raiseFor _ _ _ _ _ _).next) h.next
  · exact h.next

theorem Sound.plausFault (p q : Rat) : Sound s (u.plausFault p q) := by
  unfold State.plausFault
  extract_lets s1 far bad s2 s3 a
  have hs2 : Sound s s2 := ((h.wr _ _ _).wr _ _ _).foldl _ fun _ _ hv => (hv.latchSens _).modCio _
  have hs3 : Sound s s3 := .ite hs2 (hs2.wr _ _ _)
  exact ((hs3.roundOff _).raise _ _ _ _ _).refreshValve

theorem Sound.execHeatBalance : Completes s (execHeatBalance u) := by
  unfold Machine.execHeatBalance
  refine .ite h.next ?_
  extract_lets p stop lim n
  have hstop : Completes s (stop u) := ((h.wr _ _ _).modCio _).next
  split
  · refine .ite hstop ?_
    extract_lets q m a b s1 s2 s2'
    have hb : Sound s b.2 := (h.roundNat _ _).roundNat _ _
    have hs1 : Sound s s1 := (((hb.wr _ _ _).wr _ _ _).wr _ _ _).modCio _
    have hs2 : Sound s s2 := hs1.modCio _
    have hs2' : Sound s s2' := hs1.modCio _
    exact .ite (Sound.ite (hs2.plausFault _ _) hs2).next (Sound.ite ((hs2'.wr _ _ _).wr _ _ _).refreshValve hs2').next
  · exact hstop

theorem Sound.execSensStatClear (w : Word) : Completes s (execSensStatClear w u) := by
  unfold Machine.execSensStatClear
  extract_lets bs s1
  have hs1 : Sound s s1 := h.foldl _ fun _ _ hv => (hv.modCio _).sensShow _
  exact ((Sound.ite (hs1.wr _ _ _) hs1).refreshValve).next

theorem Sound.dryCheck : Sound s u.dryCheck := by
  unfold State.dryCheck
  exact h.modCio _

theorem Sound.leakResponse (inst : Nat) : Sound s (u.leakResponse inst) :=
  .ite (h.raiseFor _ _ _ _ _ _) (((((h.wr _ _ _).wr _ _ _).protect _ _ _).quiesceNow).refreshValve)

theorem Sound.leakDecide (k band : Nat) : Sound s (u.leakDecide k band) := by
  unfold State.leakDecide
  extract_lets code first w s1 wet s3 s2
  have hwet {v : State} (hv : Sound s v) : Sound s (wet v) := .ite (hv.leakResponse _) (hv.raiseFor _ _ _ _ _ _)
  have hs1 : Sound s s1 := (h.setReg _ _ _).modCio _
  have hs3 : Sound s s3 := (hs1.raiseFor _ _ _ _ _ _).wakeEvent _
  have hs2 : Sound s s2 := .ite ((hwet hs1).wakeEvent _) (.ite (.ite (hwet hs3) hs3) hs1)
  exact .ite h hs2.dryCheck

theorem Sound.execLeakSample (k : Fin 5) (ohm : Word) : Completes s (execLeakSample k ohm u) :=
  .ite h.next (.ite (((h.modCio _).leakDecide _ _).next) ((h.modCio _).next))

theorem Sound.writeLeakCfg (k : Nat) (w : Word) : Sound s (u.writeLeakCfg k w) := by
  unfold State.writeLeakCfg
  extract_lets was s1 put wet s2
  have hs1 : Sound s s1 := h.setReg _ _ _
  have hput (v : Nat) : Sound s (put s1 v) := hs1.setReg _ _ _
  have hs2 : Sound s s2 :=
    .ite ((hput 2).modCio _) (.ite (hput 3) (.ite hs1 (.ite (hs1.leakResponse _) (hs1.raiseFor _ _ _ _ _ _))))
  exact hs2.dryCheck

theorem Sound.execValveCloseDelay : Completes s (execValveCloseDelay u) := .ite (((h.wr _ _ _).refreshValve).next) h.next

theorem Sound.execLeakAck : Completes s (execLeakAck u) := by
  unfold Machine.execLeakAck
  extract_lets s1
  split
  · exact .ite (((((((h.wr _ _ _).wr _ _ _).wr _ _ _).refreshValve).alarm _).requestCompute).next) h.next
  · exact h.next

theorem Sound.wakeInput (d : Nat) : Sound s (u.wakeInput d) :=
  .ite h (.ite ((((h.modCio _).modCio _).wr _ _ _).raiseFor _ _ _ _ _ _) ((h.modCio _).wakeEvent _))

theorem Sound.emergCheck (d : Nat) : Sound s (u.emergCheck d) := .ite h (((h.wr _ _ _).recordOpen _ _ _ _).requestCompute)

theorem Sound.diAct (d : Nat) : Sound s (u.diAct d) := by
  unfold State.diAct
  split
  · exact h.wakeInput _
  · exact ((h.leakResponse _).wakeEvent _).dryCheck
  · exact (((h.wr _ _ _).protect _ _ _).quiesceNow).wakeEvent _
  · exact h

theorem Sound.execDiChange (d : Fin 8) (high : Bool) : Completes s (execDiChange d high u) :=
  .ite h.next ((Sound.ite ((h.wr _ _ _).diAct _) (((h.wr _ _ _).emergCheck _).dryCheck)).next)

theorem Sound.execDiStuckClear (m : BitVec 8) : Completes s (execDiStuckClear m u) := (h.wr _ _ _).next

/-! ### Cle -/

theorem Sound.modSlot (k : Nat) (f : Slot → Slot) : Sound s (u.modSlot k f) := h.other

theorem Sound.stat (k : Nat) (f : Fld) (v : Bool) : Sound s (u.stat k f v) := h.wr _ _ _

theorem Sound.rootOff (q : Rat) : Sound s (u.rootOff q).2 := by
  unfold State.rootOff
  extract_lets n r d
  split
  · exact h
  · dsimp only
    exact h.freeNat _

theorem Sound.profile (k : Nat) (W t : Rat) : Sound s (u.profile k W t).2 := by
  unfold State.profile
  extract_lets x vl al jl d root stop vdes ades a v reach
  split
  · exact h
  · exact h.rootOff _

theorem Sound.quantCeil (u' : Rat) : Sound s (u.quantCeil u') := h.setCeil _

theorem Sound.driveDst (dst : Nat) (u' : Rat) : Sound s (u.driveDst dst u') := by
  unfold State.driveDst
  extract_lets src s1
  refine .ite ?_ ?_
  · exact h.other
  · refine .ite ?_ ?_
    · exact h.other.driveAo _ _
    · exact .ite (h.other.pwmEval _) (.ite ((h.other.quantCeil _).setAct _ _) (h.other.setAct _ _))

theorem Sound.traceTrig (kind : Nat) (sel : Nat → Bool) : Sound s (u.traceTrig kind sel) := h.foldl _ fun _ _ hv => (hv.other.wr _ _ _).wr _ _ _

theorem Sound.resolveGroup (g : Nat) : Sound s (u.resolveGroup g) := by
  unfold State.resolveGroup
  extract_lets l
  split
  · exact h.wr _ _ _
  · extract_lets d moved s1 s2 s3
    have hs2 : Sound s s2 := (((h.wr _ _ _).wr _ _ _).wr _ _ _).foldl _ fun _ _ hv => hv.stat _ _ _
    have hs3 : Sound s s3 := .ite ((Sound.ite (hs2.raiseFor _ _ _ _ _ _) hs2).traceTrig _ _) hs2
    exact hs3.driveDst _ _

end

end Sys2Proof.Machine
end

section
/-! PROOFS.  What every command keeps, function by function (5 of 6): the order of the model's definitions, the first of which
call no other. -/

namespace Sys2Proof.Machine

section
variable {s t u v : State} (h : Sound s u)
include h

/-! ### Cle -/

theorem Sound.resolve (k : Nat) : Sound s (u.resolve k) := .ite (h.resolveGroup _) (h.driveDst _ _)

theorem Sound.repLearn (k : Nat) (e : Rat) :
    Sound s (u.repLearn k e) := .ite h ((Sound.ite ((h.stat _ _ _).modSlot _ _) (h.stat _ _ _)).modSlot _ _)

theorem Sound.repSmooth (k : Nat) : Sound s (u.repSmooth k) := .ite (h.modSlot _ _) h

theorem Sound.setLock (v : Bool) : Sound s (u.setLock v) := .ite h ((h.wr _ _ _).raise _ _ _ _ _)

theorem Sound.cleBeacon (t aux : Nat) : Sound s (u.cleBeacon t aux) := by
  unfold State.cleBeacon
  extract_lets l iv src s1 p src' a s2
  have hs1 : Sound s s1 := h.other
  have hs2 : Sound s s2 := .ite (((hs1.other.roundNat _ _).wr _ _ _).setLock _) hs1
  exact hs2.foldl _ fun _ _ hv => hv.repSmooth _

theorem Sound.execRepBeaconTimeout : Completes s (execRepBeaconTimeout u) := (h.setLock _).next

theorem Sound.execBeacon (p : Fin 68) (e : Fin 16) (i : EngInstr) (hform : engForm 0x22 i = true) : Completes s (execBeacon p e i u) := by
  refine h.runEng p e hform fun v hv => ?_
  split
  · refine .ite ?_ hv
    extract_lets t s1
    have hs1 : Sound s s1 := (hv.modPart _ _).relaxAt _
    exact .ite (hs1.cleBeacon _ _) hs1
  · exact hv

theorem Sound.slotFault (k : Nat) : Sound s (u.slotFault k) := .ite h ((((h.setReg _ _ _).stat _ _ _).raiseFor _ _ _ _ _ _).traceTrig _ _)

theorem Sound.stoppedOut (k : Nat) (safe : Bool) : Sound s (u.stoppedOut k safe) := .ite (h.modSlot _ _) h

theorem Sound.showDegraded (k : Nat) (v : Bool) : Sound s (u.showDegraded k v) := (h.stat _ _ _).setReg _ _ _

theorem Sound.sampleLost (k : Nat) : Sound s (u.sampleLost k) := by
  unfold State.sampleLost
  extract_lets held forced s1 s2 s3 s4 new
  have hs1 : Sound s s1 := ((((h.showDegraded _ _).stat _ _ _).stat _ _ _).stat _ _ _).stat _ _ _
  have hs2 : Sound s s2 := .ite hs1 ((hs1.modSlot _ _).raiseFor _ _ _ _ _ _)
  have hs4 : Sound s s4 := .ite (hs2.stoppedOut _ _) ((hs2.stoppedOut _ _).resolve _)
  exact hs4.modSlot _ _

theorem Sound.sampleRun (k : Nat) (raw : Rat) : Sound s (u.sampleRun k raw) := by
  unfold State.sampleRun
  extract_lets x t back yx W degr stopped fresh s1 pr w s2 was s3 s4 b1 y we er e ff rr r now g x4 held wasHeld forced goal others old frozen iv
    I u' uc ovf out s5 s6 s7 lim n s8 s9 s10 s11 s12
  have hs1 : Sound s s1 := .ite (h.modSlot _ _) h
  have hpr : Sound s pr.2 := by
    unfold pr
    split
    · exact hs1
    · exact hs1.profile _ _ _
  have hs3 : Sound s s3 := (hpr.modSlot _ _).showDegraded _ _
  have hs4 : Sound s s4 := .ite (hs3.raiseFor _ _ _ _ _ _) hs3
  have hs6 : Sound s s6 := (((((hs4.modSlot _ _).stat _ _ _).stat _ _ _).stat _ _ _).stat _ _ _).stat _ _ _
  have hs7 : Sound s s7 := .ite (hs6.raiseFor _ _ _ _ _ _) hs6
  have hs9 : Sound s s9 := .ite ((hs7.wr _ _ _).slotFault _) (hs7.wr _ _ _)
  have hs10 : Sound s s10 := (Sound.ite (hs9.stoppedOut _ _) hs9).stat _ _ _
  have hs11 : Sound s s11 := .ite hs10 (hs10.repLearn _ _)
  have hs12 : Sound s s12 := .ite hs11 (hs11.resolve _)
  exact hs12.modSlot _ _

theorem Sound.showApplied (k : Nat) : Sound s (u.showApplied k) := by
  unfold State.showApplied
  extract_lets l
  dsimp only
  refine Sound.foldl ?_ _ fun v x hv => ?_
  · exact h
  · split
    · exact (hv.setReg _ _ _).other
    · exact hv.setReg _ _ _

theorem Sound.sample (k : Nat) : Sound s (u.sample k) := by
  unfold State.sample
  extract_lets s' s1 s2
  have hs' : Sound s s' := .ite h.capSample h
  have hs1 : Sound s s1 := by
    unfold s1
    split
    · exact hs'.sampleRun _ _
    · exact hs'.sampleLost _
  have hs2 : Sound s s2 := (hs1.setReg _ _ _).setReg _ _ _
  exact (hs2.setRead _ _).showApplied _

theorem Sound.traceTake (b : Nat) : Sound s (u.traceTake b) := by
  unfold State.traceTake
  dsimp only
  refine .ite ?_ ?_
  · exact h
  · refine .ite ?_ ?_
    · exact .ite (((h.other.wr _ _ _).wr _ _ _).raiseFor _ _ _ _ _ _) h.other
    · exact .ite ((h.other.wr _ _ _).wr _ _ _) h.other

theorem Sound.execTraceArm (b : Fin 4) : Completes s (execTraceArm b u) := (((h.other.wr _ _ _).wr _ _ _).wr _ _ _).next

theorem Sound.execTraceFire (b : Fin 4) : Completes s (execTraceFire b u) := .ite (((h.other.wr _ _ _).wr _ _ _).next) h.next

theorem Sound.traceAdvance (b : Nat) : Sound s (u.traceAdvance b) := .ite h (.ite (h.wr _ _ _) ((h.wr _ _ _).wr _ _ _))

theorem Sound.execTraceDataRead (b : Fin 4) (master : BitVec 10) : Completes s (execTraceDataRead b master u) := ((h.traceAdvance _).emit _).next

theorem Sound.execSlotFaultClear (w : Word) : Completes s (execSlotFaultClear w u) :=
  (h.foldl _ fun _ _ hv => (((hv.setReg _ _ _).stat _ _ _).wr _ _ _).modSlot _ _).next

theorem Sound.writeSlotCfg (k : Nat) (w0 : Word) : Sound s (u.writeSlotCfg k w0) := by
  unfold State.writeSlotCfg
  extract_lets old w err wasOn on cap second fs bad kept s1 s2 s3
  have herr {v : State} (hv : Sound s v) : Sound s (err v) := hv.raise _ _ _ _ _
  have hs1 : Sound s s1 := h.setReg _ _ _
  have hs2 : Sound s s2 := .ite (herr hs1) hs1
  have hs3 : Sound s s3 := (hs2.stat _ _ _).stat _ _ _
  refine .ite (herr h) (.ite (.ite hs2 (.ite (hs3.resolveGroup _) hs3)) (.ite (.ite ?_ (herr (h.setReg _ _ _))) (h.setReg _ _ _)))
  exact (h.setReg _ _ _).modSlot _ _

theorem Sound.execSlotCfgWrite (k : Fin 32) (w : Word) : Completes s (execSlotCfgWrite k w u) := (h.writeSlotCfg _ _).next

theorem Sound.writeSlotIo (k : Nat) (w : Word) : Sound s (u.writeSlotIo k w) := .ite (.ite h (h.raise _ _ _ _ _)) (h.setReg _ _ _)

theorem Sound.writeSlotWord (r : Reg) (k : Nat) (w : Word) : Sound s (u.writeSlotWord r k w) :=
  .ite ((h.modSlot _ _).setReg _ _ _) (h.setReg _ _ _)

theorem Sound.execSlotCoeffWrite (k : Fin 32) (j : Fin 21) (w : Word) : Completes s (execSlotCoeffWrite k j w u) := (h.writeSlotWord _ _ _).next

theorem Sound.writeRep (k i : Nat) (w : Word) : Sound s (u.writeRep k i w) := .ite (h.raise _ _ _ _ _) (h.modSlot _ _)

theorem Sound.execRepTableWrite (k : Fin 32) (i : BitVec 8) (w : Word) : Completes s (execRepTableWrite k i w u) := (h.writeRep _ _ _).next

theorem Sound.writeTrcCfg (b : Nat) (w : Word) : Sound s (u.writeTrcCfg b w) := by
  unfold State.writeTrcCfg
  extract_lets st s1 s2
  have hs1 : Sound s s1 := .ite h (h.setReg _ _ _)
  have hs2 : Sound s s2 := by
    obtain ⟨t, ht, hst⟩ := hs1.execTraceArm (Fin.ofNat 4 b)
    refine .ite ?_ hs1
    rw [ht]
    exact hst
  obtain ⟨t, ht, hst⟩ := hs2.execTraceFire (Fin.ofNat 4 b)
  refine .ite ?_ hs2
  rw [ht]
  exact hst

theorem Sound.putLoop (l : Loop) : Sound s (u.putLoop l) := by
  unfold State.putLoop
  extract_lets s1 s2 s3
  have hs1 : Sound s s1 := h.foldl _ fun _ _ hv => hv.setReg _ _ _
  exact (((((((((((hs1.wr _ _ _).wr _ _ _).wr _ _ _).wr _ _ _).wr _ _ _).wr _ _ _).wr _ _ _).wr _ _ _).wr _ _ _).wr _ _ _).wr _ _ _).wr _ _ _

theorem Sound.loadLoops (l : List Loop) : Sound s (u.loadLoops l) := by
  unfold State.loadLoops
  refine Sound.foldl ?_ _ fun v x hv => ?_
  · exact h
  · exact hv.putLoop _

theorem Sound.startEngine : Sound s u.startEngine := by
  unfold State.startEngine
  extract_lets s0 s1
  have hs0 : Sound s s0 := ((h.wr _ _ _).setCeil _).setAct _ _
  have hs1 : Sound s s1 := .ite hs0 hs0.holdGear
  exact hs1.foldl _ fun _ _ hv => hv.modSlot _ _

theorem Sound.restartEngine : Sound s u.restartEngine := h.foldl _ fun _ _ hv => hv.modSlot _ _

/-! ### MeterPart -/

theorem Sound.modMeter (f : Meter → Meter) : Sound s (u.modMeter f) := h.other

theorem Sound.execMeterCalc (vol flow ti t : Rat) (noTransit soundOff : Bool) :
    Completes s (execMeterCalc vol flow ti t noTransit soundOff u) := by
  unfold Machine.execMeterCalc
  extract_lets m tinBad toutBad flowBad off mb mg was med f dT e row sub r en v counts rev flags erring wasErr lim s1
  have hsub : Sound s sub.2 := by
    unfold sub
    split
    · exact h.roundOff _
    · exact h.freeNat _
  have hen : Sound s en.2 := by
    unfold en
    clear_value sub
    split
    · exact hsub
    · split
      · exact h.roundOff _
      · exact h
  have hs1 : Sound s s1 := (hen.roundOff _).modMeter _
  exact .ite ((h.modMeter _).next) ((Sound.ite (hs1.modMeter _) (.ite (hs1.modMeter _) hs1)).next)

theorem Sound.execMeterCommit (marked : Bool) : Completes s (execMeterCommit marked u) := .ite ((h.modMeter _).next) h.next

theorem Sound.execMeterSupplyFail : Completes s (execMeterSupplyFail u) := (h.modMeter _).next

theorem Sound.meterStart : Sound s u.meterStart := .ite h (h.modMeter _)

theorem Sound.execSealCheck (loopOpen : Bool) : Completes s (execSealCheck loopOpen u) :=
  .ite ((h.modMeter _).next) (.ite ((h.modMeter _).next) h.next)

theorem Sound.execMeterFwUpdate (u' : MeterUpdate) : Completes s (execMeterFwUpdate u' u) := by
  unfold Machine.execMeterFwUpdate
  split
  · exact (Sound.ite (h.modMeter _) h).next
  · exact .ite h.next ((h.modMeter _).next)

theorem Sound.execSndNke (a : BitVec 8) : Completes s (execSndNke a u) := .ite (((h.modMeter _).emit _).next) h.next

theorem Sound.roundAll (l : List Rat) : Sound s (u.roundAll l).2 := h.foldSnd _ fun _ _ hr => hr.roundOff _

theorem Sound.execReqUd2 (a : BitVec 8) : Completes s (execReqUd2 a u) := .ite (((h.roundAll _).emit _).next) h.next

theorem Sound.execSndUd (a : BitVec 8) (w : MbusWrite) : Completes s (execSndUd a w u) := by
  unfold Machine.execSndUd
  dsimp only
  refine .ite ?_ ?_
  · exact h.next
  · refine Sound.next ?_
    refine .ite ?_ ?_
    · split
      · exact h.modMeter _
      · exact .ite (h.modMeter _) h
      · exact .ite (h.modMeter _) h
      · exact .ite (h.modMeter _) h
      · exact .ite (h.modMeter _) h
      · exact .ite (h.modMeter _) h
      · exact .ite (h.modMeter _) h
      · exact h.modMeter _
    · refine Sound.emit ?_ _
      split
      · exact h.modMeter _
      · exact .ite (h.modMeter _) h
      · exact .ite (h.modMeter _) h
      · exact .ite (h.modMeter _) h
      · exact .ite (h.modMeter _) h
      · exact .ite (h.modMeter _) h
      · exact .ite (h.modMeter _) h
      · exact h.modMeter _

theorem Sound.execSnapshot : Completes s (execSnapshot u) := by
  unfold Machine.execSnapshot
  extract_lets s0 m v g us s1 s2 s3 src s4 err s5 opened s6 s7 diff s8
  have hv : Sound s v.2 := (h.modMeter _).roundAll _
  have hs3 : Sound s s3 :=
    (((((((((((((hv.wrS _ _ _).wrS _ _ _).wrS _ _ _).wrS _ _ _).setReg _ _ _).setReg _ _ _).setRead _ _).setRead _ _).setRead _ _).setRead _
    _).histPut _ _ _).histPut _ _ _).histPut _ _ _).wr _ _ _
  have hs4 : Sound s s4 := .ite (hs3.other.raise _ _ _ _ _) hs3
  have hs5 : Sound s s5 := .ite hs4 ((hs4.wr _ _ _).raise _ _ _ _ _)
  have hs7 : Sound s s7 := ((Sound.ite (hs5.raise _ _ _ _ _) hs5).wr _ _ _).wr _ _ _
  exact .ite h.next (.ite ((h.modMeter _).next) ((((Sound.ite (hs7.raise _ _ _ _ _) hs7).wr _ _ _).flowCheck).next))

theorem Sound.execMeterUnreach : Completes s (execMeterUnreach u) := .ite (((h.other.wr _ _ _).raise _ _ _ _ _).next) h.next

theorem Sound.meterAsk (code arg : Nat) {ans : Meter → State → List Word × State} (hans : ∀ m v, Sound s v → Sound s (ans m v).2) :
    Sound s (u.meterAsk code arg ans) := by
  unfold State.meterAsk
  refine .ite (h.raise _ _ _ _ _) ?_
  extract_lets s1 a
  have hs1 : Sound s s1 := (((h.wr _ _ _).wr _ _ _).wr _ _ _).wr _ _ _
  have ha : Sound s a.2 := hans _ _ hs1
  exact .ite ha.other hs1.other

theorem Sound.execReadAcc : Completes s (execReadAcc u) := (h.meterAsk _ _ (fun _ _ hv => hv)).next

theorem Sound.execReadId : Completes s (execReadId u) := (h.meterAsk _ _ (fun _ _ hv => hv)).next

theorem Sound.execReadLog (n : BitVec 8) : Completes s (execReadLog n u) := by
  refine (h.meterAsk _ _ fun m v hv => ?_).next
  split
  · exact hv
  · exact (hv.freeNat (2 ^ 32)).freeNat (2 ^ 32)

theorem Sound.execReadParam : Completes s (execReadParam u) := (h.meterAsk _ _ (fun _ _ hv => hv)).next

theorem Sound.meterAskBad (code arg : Nat) : Sound s (u.meterAskBad code arg) :=
  .ite (h.raise _ _ _ _ _) (((((h.wr _ _ _).wr _ _ _).wr _ _ _).wr _ _ _).other)

theorem Sound.meterEnd (r : Nat) : Sound s (u.meterEnd r) := ((h.other.wr _ _ _).wr _ _ _).wr _ _ _

theorem Sound.meterLink (r : Nat) : Sound s (u.meterLink r) := ((h.meterEnd _).count _ _).raiseBit _ _

theorem Sound.changeSeen (c : Nat) : Sound s (u.changeSeen c) := by
  unfold State.changeSeen
  extract_lets src s1
  split
  · exact h
  · split
    · exact .ite h.other (h.other.raise _ _ _ _ _)
    · exact h.other

theorem Sound.execMeterAnswer (crcOk : Bool) : Completes s (execMeterAnswer crcOk u) := by
  unfold Machine.execMeterAnswer
  split
  · exact h.next
  · extract_lets s1 s2
    have hs1 : Sound s s1 := h.foldl _ fun _ _ hv => hv.setReg _ _ _
    exact .ite ((Sound.ite ((hs1.meterEnd _).changeSeen _) (hs1.meterEnd _)).next) ((h.meterLink _).next)

theorem Sound.execMeterReqTimeout : Completes s (execMeterReqTimeout u) := .ite ((h.meterLink _).next) h.next

theorem Sound.writeMtrReq (w : Word) : Sound s (u.writeMtrReq w) := by
  have hrun {o : Out} (ho : Completes s o) : Sound s (match o with
      | .next t => t
      | _ => u) := by
    obtain ⟨t, rfl, ht⟩ := ho
    exact ht
  unfold State.writeMtrReq
  exact .ite (.ite (hrun h.execReadAcc) (.ite (hrun h.execReadId) (.ite (hrun (h.execReadLog _)) (.ite (hrun h.execReadParam)
    (h.meterAskBad _ _))))) ((h.wr _ _ _).wr _ _ _)

/-! ### Security -/

theorem Sound.originWords (master : Nat) : Sound s (u.originWords master).2 := by
  unfold State.originWords
  extract_lets a b
  split
  · dsimp only
    exact (h.freeNat _).freeNat _
  · split
    · exact h
    · exact h

theorem Sound.logChange (block inst addr : Nat) (old new : Word) (master : Nat) : Sound s (u.logChange block inst addr old new master).1 := by
  unfold State.logChange
  extract_lets o s1 r src s2
  have hs1 : Sound s s1 := h.originWords _
  split
  · exact h.raise _ _ _ _ _
  · exact .ite (hs1.other.requestFlush) hs1.other

theorem Sound.draw (n : Nat) : Sound s (u.draw n).2 := h.freeBytes _

theorem Sound.execAttest (x : HmpHead) (nonce : List Byte) (meterUp : Bool) : Completes s (execAttest x nonce meterUp u) := by
  unfold Machine.execAttest
  exact h.hmpObj _ _ (fun _ hv => .ite (hv.hmpSay _ _ _ _) ((((((hv.draw _).draw _).other).raise _ _ _ _ _).freeNat _).hmpSay _ _ _ _))

theorem Sound.execAttestKeyExpiry (i : Fin 8) : Completes s (execAttestKeyExpiry i u) := h.other.next

theorem Sound.execIdentityChain (x : HmpHead) : Completes s (execIdentityChain x u) := h.hmpObj _ _ (fun _ hv => hv.hmpSay _ _ _ _)

theorem Sound.keyAnswer (x : HmpHead) (r : Nat) : Sound s (u.keyAnswer x r) := (Sound.ite h (h.raise _ _ _ _ _)).answer4 _ _

theorem Sound.placeKey (slot n : Nat) (key : List Byte) : Sound s (u.placeKey slot n key) := ((h.other.wr _ _ _).wr _ _ _).keyCounts _

theorem Sound.keyDeliver (x : HmpHead) (l : List Byte) : Sound s (u.keyDeliver x l) :=
  .ite (h.keyAnswer _ _) (((Sound.ite (h.placeKey _ _ _) (h.setCak _ _ _)).raise _ _ _ _ _).keyAnswer _ _)

theorem Sound.execKeyDeliver (x : HmpHead) (body : List Byte) : Completes s (execKeyDeliver x body u) :=
  .ite (h.keyDeliver _ _).next (h.hmpObj _ _ fun _ hv => hv)

theorem Sound.execKeyRevoke (x : HmpHead) (body : List Byte) : Completes s (execKeyRevoke x body u) := by
  unfold Machine.execKeyRevoke
  extract_lets i
  exact h.hmpObj _ _ (fun _ hv => .ite (hv.keyAnswer _ _) ((Sound.ite ((hv.other.wr _ _ _).keyCounts _) (hv.revokeCak _)).keyAnswer _ _))

theorem Sound.execClaim (x : HmpHead) (body : List Byte) : Completes s (execClaim x body u) := by
  unfold Machine.execClaim
  exact h.hmpObj _ _ (fun _ hv => .ite (hv.keyAnswer _ _) (.ite ((hv.logChange _ _ _ _ _ _).hmpSay _ _ _ _)
    ((((hv.logChange _ _ _ _ _ _).other).wr _ _ _).keyAnswer _ _)))

theorem Sound.execPeerAdmit (x : HmpHead) (body : List Byte) : Completes s (execPeerAdmit x body u) :=
  h.hmpObj _ _ (fun _ hv => .ite (hv.keyAnswer _ _) (((hv.setReg _ _ _).setReg _ _ _).keyAnswer _ _))

theorem Sound.execDebugChallenge (x : HmpHead) : Completes s (execDebugChallenge x u) :=
  h.hmpObj _ _ (fun _ hv => ((hv.draw _).other).hmpSay _ _ _ _)

theorem Sound.execDebugUnlock (x : HmpHead) (body : List Byte) : Completes s (execDebugUnlock x body u) :=
  h.hmpObj _ _ (fun _ hv => .ite (hv.other.keyAnswer _ _) (((hv.other.wr _ _ _).raise _ _ _ _ _).keyAnswer _ _))

theorem Sound.execSvnAdvance (n : BitVec 8) : Completes s (execSvnAdvance n u) :=
  .ite ((Sound.ite (((h.other.wr _ _ _).wr _ _ _).raise _ _ _ _ _) (h.other.wr _ _ _)).next) h.next

theorem Sound.showWin : Sound s u.showWin := ((((h.setReg _ _ _).setReg _ _ _).setReg _ _ _).setReg _ _ _).setReg _ _ _

theorem Sound.writeRights (w : Word) : Sound s (u.writeRights w) := .ite h (h.other.setReg _ _ _)

theorem Sound.execSecAtRightsWrite (w : Word) : Completes s (execSecAtRightsWrite w u) := (h.writeRights _).next

/-! ### Sleep -/

theorem Sound.coreSleep : Sound s u.coreSleep := .ite (((((((h.other.wr _ _ _).wr _ _ _).wr _ _ _).wr _ _ _).wr _ _ _).wr _ _ _).wr _ _ _) h

theorem Sound.coreWake : Sound s u.coreWake := (h.other.wr _ _ _).wr _ _ _

theorem Sound.stackSleep (k : Nat) : Sound s (u.stackSleep k) := .ite (h.wr _ _ _) h

theorem Sound.narrowAll : Sound s u.narrowAll := by
  unfold State.narrowAll
  exact h.foldl _ fun _ _ hv => .ite ((hv.foldl _ fun _ _ hw => hw.ctrlNow _ _).narrowPort _) (hv.foldl _ fun _ _ hw => (Sound.ite
    (hw.sendDown _ _) hw).linkStop _ _)

theorem Sound.ethStandby : Sound s u.ethStandby := (Sound.ite h (h.ethDown _)).ethDown _

theorem Sound.psAborted (k : Nat) : Sound s (u.psAborted k) := h.other.raise _ _ _ _ _

theorem Sound.undoCore : Sound s u.undoCore :=
  .ite (((((h.psAborted _).wr _ _ _).wr _ _ _).psRunning _).psArrive) ((((h.psAborted _).wr _ _ _).wr _ _ _).other)

theorem Sound.standby : Sound s u.standby := by
  unfold State.standby
  extract_lets s1 s2 src
  have hs2 : Sound s s2 := ((((((h.foldl _ fun _ _ hv => hv.stackSleep _).narrowAll).ethStandby).psSet _).wr _ _ _).wr _ _ _).raise _ _ _ _ _
  exact .ite (hs2.other.requestNow _) (.ite ((hs2.wr _ _ _).psAborted _) ((hs2.other.psArrive).voteCheck))

theorem Sound.freewheel : Sound s u.freewheel := by
  unfold State.freewheel
  extract_lets s1 s2
  have hs2 : Sound s s2 := ((((((((h.foldl _ fun _ _ hv => hv.stackSleep _).coreSleep).ethDown _).ethDown _).setVperi _).psSet _).wr _ _ _).wr _
    _ _).raise _ _ _ _ _
  exact .ite hs2.wakeFreewheel (hs2.psArrive.voteCheck)

theorem Sound.execEntryStepComplete : Completes s (execEntryStepComplete u) := by
  unfold Machine.execEntryStepComplete
  extract_lets src
  refine .ite ?_ ?_
  · exact h.next
  · split
    · exact .ite ((h.wr _ _ _).next) ((((h.psAborted _).psRunning _).psArrive).next)
    · exact .ite ((h.coreSleep.wr _ _ _).next) ((h.coreSleep.undoCore).next)
    · exact h.standby.next
    · exact .ite h.next (.ite ((h.other.wr _ _ _).next) (((((h.psAborted _).psSet _).psArrive).voteCheck).next))
    · exact h.freewheel.next
    · exact h.next

theorem Sound.hsGiveUp (c : Nat) (timeout : Bool) : Sound s (u.hsGiveUp c timeout) := by
  unfold State.hsGiveUp
  exact (((((((h.wr _ _ _).wr _ _ _).wr _ _ _).other).psSet _).raise _ _ _ _ _).psArrive).voteCheck

theorem Sound.execHandshakeReply (c : Fin 8) : Completes s (execHandshakeReply c u) := by
  unfold Machine.execHandshakeReply
  extract_lets w
  refine .ite ?_ ?_
  · split
    · exact (h.wr _ _ _).next
    · exact (h.hsGiveUp _ _).next
    · exact h.next
  · exact h.next

theorem Sound.execHandshakeTimeout : Completes s (execHandshakeTimeout u) := .ite ((h.hsGiveUp _ _).next) h.next

theorem Sound.nextOr {o : Out} (ho : Completes s o) : Sound s (nextOr u o) := by
  obtain ⟨t, rfl, ht⟩ := ho
  exact ht

theorem Sound.execFwSequencerSample (sens : Vector Rat 7) (ai : Vector (Rat × Rat) 8) :
    Completes s (execFwSequencerSample sens ai u) := by
  unfold Machine.execFwSequencerSample
  refine .ite h.next ?_
  extract_lets s1 s2 src s3 hot high
  have hs1 : Sound s s1 := h.foldl _ fun _ _ hv => hv.nextOr (hv.execSensorSample _ _)
  have hs2 : Sound s s2 := hs1.foldl _ fun _ _ hv => hv.nextOr (hv.execAiSample _ _ _)
  have hs3 : Sound s s3 := hs2.other
  exact (Sound.ite (hs3.wakeEvent _) hs3).next

theorem Sound.execWakeComplete (n : BitVec 48) : Completes s (execWakeComplete n u) :=
  .ite (((((((h.other.setVperi _).restartEngine).psSet _).raise _ _ _ _ _).psArrive).voteCheck).next) h.next

theorem Sound.execDomainAwake (d : Fin 9) : Completes s (execDomainAwake d u) := by
  unfold Machine.execDomainAwake
  extract_lets inStandby t s1 s2
  have hs1 : Sound s s1 := .ite (.ite (.ite ((h.wr _ _ _).wr _ _ _) (h.wr _ _ _)) h) (.ite (.ite (h.coreWake.wr _ _ _) h.coreWake) h)
  exact .ite (((Sound.ite (hs1.psRunning _) ((hs1.psRunning _).raise _ _ _ _ _)).psArrive).next) hs1.next

theorem Sound.execDomainIdle (d : Fin 9) : Completes s (execDomainIdle d u) :=
  .ite h.next (.ite (.ite (((h.stackSleep _).wr _ _ _).next) h.next) (.ite ((h.coreSleep.wr _ _ _).next) h.next))

/-! ### Recorder -/

theorem Sound.modRec (f : RecState → RecState) : Sound s (u.modRec f) := h.other

theorem Sound.eraseSector (n : Nat) : Sound s (u.eraseSector n) := (h.modRec _).wr _ _ _

theorem Sound.makeReady (v : Nat) : Sound s (u.makeReady v) := by
  unfold State.makeReady
  split
  · exact .ite ((h.modRec _).eraseSector _) (h.modRec _)
  · exact h.modRec _

theorem Sound.openFor (v : Nat) : Sound s (u.openFor v).2 := by
  unfold State.openFor
  extract_lets good cur s1 k
  have hs1 : Sound s s1 := .ite h (h.makeReady _)
  clear_value cur
  split
  · exact h
  · split
    · split
      · dsimp only
        exact (hs1.modRec _).makeReady _
      · exact hs1
    · clear_value k
      split
      · exact .ite ((h.modRec _).eraseSector _) (h.modRec _)
      · exact h

theorem Sound.storeRec (r : Rec) : Sound s (u.storeRec r) := by
  unfold State.storeRec
  extract_lets v o
  split
  · extract_lets s1
    refine .ite ?_ ?_
    · exact (h.openFor _).modRec _
    · split
      · exact .ite (((h.openFor _).modRec _).eraseSector _) ((h.openFor _).modRec _)
      · exact (h.openFor _).modRec _
  · exact ((h.openFor _).raiseBit _ _).discardRec _

theorem Sound.flashErr (v : Nat) : Sound s (u.flashErr v) := by
  unfold State.flashErr
  split
  · exact ((h.openFor _).modRec _).raise _ _ _ _ _
  · exact h

theorem Sound.flushChanges : Sound s u.flushChanges := h.modRec _

theorem Sound.reportLost : Sound s u.reportLost := by
  unfold State.reportLost
  split
  · exact .ite ((h.modRec _).record _ _ _ _ _ _ _) h
  · exact h

theorem Sound.flushAll (bad : Bool) : Sound s (u.flushAll bad) := by
  unfold State.flushAll
  extract_lets s0 s1
  have hs0 : Sound s s0 := by
    unfold s0
    split
    · exact .ite (h.flashErr _) h
    · exact h
  have hs1 : Sound s s1 := by
    refine Sound.modRec ?_ _
    refine Sound.foldl ?_ _ fun v x hv => ?_
    · exact hs0
    · exact hv.storeRec _
  exact ((hs1.flushChanges.wr _ _ _).wr _ _ _).reportLost

theorem Sound.execRecorderFlush (bad : Bool) : Completes s (execRecorderFlush bad u) := .ite ((h.flushAll _).next) h.next

theorem Sound.execFlushTimer : Completes s (execFlushTimer u) := h.requestFlush.next

theorem Sound.writeRecCtl (w : Word) : Sound s (u.writeRecCtl w) := by
  unfold State.writeRecCtl
  extract_lets s1 was s2 s3
  have hs2 : Sound s s2 := ((h.wr _ _ _).wr _ _ _).wr _ _ _
  have hs3 : Sound s s3 := .ite hs2.requestFlush (.ite (hs2.wr _ _ _) hs2)
  exact .ite ((hs3.wr _ _ _).requestFlush) hs3

theorem Sound.execFlush : Completes s (execFlush u) := (h.writeRecCtl _).next

theorem Sound.execFreeze (on : Bool) : Completes s (execFreeze on u) := (h.writeRecCtl _).next

theorem Sound.unfreeze : Sound s u.unfreeze := .ite (((h.wr _ _ _).wr _ _ _).requestFlush) h

theorem Sound.execFreezeEnd : Completes s (execFreezeEnd u) := .ite ((h.unfreeze.raise _ _ _ _ _).next) h.next

theorem Sound.execSectorEraseDone (ok : Bool) : Completes s (execSectorEraseDone ok u) := by
  unfold Machine.execSectorEraseDone
  extract_lets s1
  split
  · exact h.next
  · exact .ite (((h.modRec _).wr _ _ _).next) (((((h.modRec _).wr _ _ _).modRec _).raise _ _ _ _ _).next)

theorem Sound.flushProt : Sound s u.flushProt := (h.modRec _).foldl _ fun _ _ hv => hv.insertRec _

theorem Sound.failFlush : Sound s u.failFlush := by
  unfold State.failFlush
  extract_lets l s0 s1 s2 s3 s4
  have hs1 : Sound s s1 := (h.modRec _).foldl _ fun _ _ hv => hv.discardRec _
  have hs2 : Sound s s2 := by
    refine Sound.foldl ?_ _ fun v x hv => ?_
    · exact hs1
    · exact hv.storeRec _
  have hs4 : Sound s s4 := by
    refine Sound.foldl ?_ _ fun v x hv => ?_
    · exact hs2.reportLost.modRec _
    · exact hv.storeRec _
  refine .ite ?_ ?_
  · refine Sound.wr ?_ _ _ _
    refine Sound.wr ?_ _ _ _
    refine Sound.flushChanges ?_
    refine Sound.foldl ?_ _ fun v x hv => ?_
    · exact h.modRec _
    · exact hv.storeRec _
  · exact (hs4.flushChanges.wr _ _ _).wr _ _ _

theorem Sound.execPfWarnN (ok : Bool) : Completes s (execPfWarnN ok u) := by
  unfold Machine.execPfWarnN
  extract_lets s1 s2
  have hs2 : Sound s s2 := .ite (h.stopFabric.flushProt) ((h.stopFabric.flushProt).persist _)
  exact .ite h.next (.ite (((h.stopFabric.flushProt).requestFlush).next) ((((hs2.wr _ _ _).wr _ _ _).failFlush).next))

theorem Sound.setCursor (c : Nat) (r : Option Rec) : Sound s (u.setCursor c r) := by
  unfold State.setCursor
  split
  · exact (h.wr _ _ _).wr _ _ _
  · exact h.wr _ _ _

theorem Sound.writeCurCtl (c : Nat) (w : Word) : Sound s (u.writeCurCtl c w) :=
  .ite (((h.wr _ _ _).wr _ _ _).setCursor _ _) (.ite (((h.wr _ _ _).wr _ _ _).setCursor _ _) ((h.wr _ _ _).wr _ _ _))

theorem Sound.execCursorFirst (c : Fin 2) (area : Bool) (minsev : BitVec 2) : Completes s (execCursorFirst c area minsev u) :=
  (h.writeCurCtl _ _).next

theorem Sound.execCursorLast (c : Fin 2) (area : Bool) (minsev : BitVec 2) : Completes s (execCursorLast c area minsev u) :=
  (h.writeCurCtl _ _).next

theorem Sound.writeCurSeq (c v : Nat) : Sound s (u.writeCurSeq c v) := (h.wr _ _ _).setCursor _ _

theorem Sound.execRecCurSeqWrite (c : Fin 2) (v : Word) : Completes s (execRecCurSeqWrite c v u) := (h.writeCurSeq _ _).next

theorem Sound.recAdvance (c : Nat) : Sound s (u.recAdvance c) := by
  unfold State.recAdvance
  split
  · exact h.setCursor _ _
  · exact h.wr _ _ _

theorem Sound.execRecWinWord15Read (c : Fin 2) (master : BitVec 10) : Completes s (execRecWinWord15Read c master u) :=
  ((h.emit _).recAdvance _).next

/-! ### Row -/

theorem Sound.modRow (f : Row → Row) : Sound s (u.modRow f) := h.other

theorem Sound.rowGo (st : Nat) (low : Bool) : Sound s (u.rowGo st low) := ((h.wr _ _ _).wr _ _ _).gateCheck

theorem Sound.leaveHold : Sound s u.leaveHold := (h.modRow _).rowGo _ _

theorem Sound.relCheck : Sound s u.relCheck := by
  unfold State.relCheck
  split
  · exact .ite (h.rowGo _ _) h
  · exact h

theorem Sound.healthCheck : Sound s u.healthCheck := .ite (.ite h (h.modRow _)) (h.modRow _)

theorem Sound.execHealthReached : Completes s (execHealthReached u) := (Sound.ite (h.healthCheck.modRow _) h.healthCheck).next

theorem Sound.mirrorImage : Sound s u.mirrorImage.2 := by
  unfold State.mirrorImage
  dsimp only
  exact h.roundNat _ _

theorem Sound.newMirror : Sound s u.newMirror := by
  unfold State.newMirror
  exact h.mirrorImage.modRow _

theorem Sound.handBack : Sound s u.handBack := by
  unfold State.handBack
  extract_lets s1 s2
  have hs2 : Sound s s2 := (h.newMirror.modRow _).foldl _ fun _ _ hv => hv.queueFrame _ _ _ _ _
  exact ((hs2.queueFrame _ _ _ _ _).leaveHold).raise _ _ _ _ _

theorem Sound.fillDuty : Sound s u.fillDuty := h.foldl _ fun _ _ hv => .ite (hv.wr _ _ _) hv

theorem Sound.startPumps : Sound s u.startPumps := ((h.foldl _ fun _ _ hv => hv.wr _ _ _).fillDuty).modRow _

theorem Sound.resumeSlot (k : Nat) (l : List Byte) : Sound s (u.resumeSlot k l) :=
  .ite ((((h.setReg _ _ _).modSlot _ _).stat _ _ _).setAct _ _) (((h.setReg _ _ _).modSlot _ _).stat _ _ _)

theorem Sound.loadMirror (l : List Byte) : Sound s (u.loadMirror l) := by
  unfold State.loadMirror
  extract_lets n s1 o s2 trim s3
  have hs1 : Sound s s1 := h.foldl _ fun _ _ hv => hv.resumeSlot _ _
  have hs2 : Sound s s2 := hs1.foldl _ fun _ _ hv => (hv.wr _ _ _).wr _ _ _
  have hs3 : Sound s s3 := hs2.foldl _ fun _ _ hv => (hv.wr _ _ _).wr _ _ _
  exact ((hs3.wr _ _ _).fillDuty).modRow _

theorem Sound.enterHold : Sound s u.enterHold := by
  unfold State.enterHold
  extract_lets s0 s1 src s2
  have hs1 : Sound s s1 := by
    unfold s1
    split
    · exact .ite (((h.modRow _).loadMirror _).modRow _) ((h.modRow _).startPumps)
    · exact ((h.modRow _).foldl _ fun _ _ hv => hv.modSlot _ _).startPumps
  exact hs1.other.rowGo _ _

theorem Sound.execAcquireTimeout : Completes s (execAcquireTimeout u) := .ite (h.enterHold.next) h.next

theorem Sound.takeOver : Sound s u.takeOver := .ite ((h.rowGo _ _).raise _ _ _ _ _) h

theorem Sound.execIlkInChange (low : Bool) : Completes s (execIlkInChange low u) :=
  .ite h.next (.ite ((((h.wr _ _ _).gateCheck).rowGo _ _).next) (((((h.wr _ _ _).gateCheck).relCheck).takeOver).next))

theorem Sound.execListenEnd : Completes s (execListenEnd u) := .ite ((Sound.ite (h.rowGo _ _) (h.rowGo _ _)).next) h.next

theorem Sound.execHbMissing : Completes s (execHbMissing u) := by
  unfold Machine.execHbMissing
  extract_lets s1
  refine .ite ?_ ?_
  · exact h.next
  · refine .ite ?_ ?_
    · exact .ite (((h.wr _ _ _).healthCheck).next) (((((h.wr _ _ _).healthCheck).modRow _).raise _ _ _ _ _).next)
    · exact (((h.wr _ _ _).healthCheck).takeOver).next

theorem Sound.execIlkConflict : Completes s (execIlkConflict u) := .ite ((h.raise _ _ _ _ _).next) h.next

theorem Sound.execHolderSelfRelease (why : Fin 3) : Completes s (execHolderSelfRelease why u) :=
  .ite h.next (.ite (.ite ((h.leaveHold.raise _ _ _ _ _).next) h.next) ((h.leaveHold.recordOpen _ _ _ _).next))

theorem Sound.passControl : Sound s u.passControl := (Sound.ite (h.wr _ _ _) h).handBack

theorem Sound.handover (master : Nat) : Sound s (u.handover master) := by
  unfold State.handover
  extract_lets c s1 hold s2
  have hs2 : Sound s s2 := .ite ((h.logChange _ _ _ _ _ _).wr _ _ _) (h.logChange _ _ _ _ _ _)
  exact .ite (h.logChange _ _ _ _ _ _) (.ite hs2.passControl (hs2.raise _ _ _ _ _))

theorem Sound.execHandover (master : BitVec 10) : Completes s (execHandover master u) := (h.handover _).next

theorem Sound.clearPumps (m : Nat) : Sound s (u.clearPumps m) :=
  .ite ((h.foldl _ fun _ _ hv => hv.wr _ _ _).fillDuty) (h.foldl _ fun _ _ hv => hv.wr _ _ _)

theorem Sound.execPumpclr (m : BitVec 4) : Completes s (execPumpclr m u) := (h.clearPumps _).next

theorem Sound.writeRowCmd (master : Nat) (w : Word) : Sound s (u.writeRowCmd master w) := .ite ((h.clearPumps _).handover _) (h.clearPumps _)

theorem Sound.failPump (k : Nat) : Sound s (u.failPump k) := by
  unfold State.failPump
  extract_lets s1
  have hs1 : Sound s s1 := (((h.wr _ _ _).raiseFor _ _ _ _ _ _).modRow _).fillDuty
  exact .ite h (.ite (hs1.record _ _ _ _ _ _ _) hs1)

theorem Sound.execPumpRotation : Completes s (execPumpRotation u) := by
  unfold Machine.execPumpRotation
  extract_lets s0
  refine .ite ?_ ?_
  · exact h.next
  · split
    · exact (((h.modRow _).wr _ _ _).modRow _).next
    · exact (h.modRow _).next

theorem Sound.execRotationStopOld : Completes s (execRotationStopOld u) := by
  unfold Machine.execRotationStopOld
  extract_lets s1
  split
  · exact h.next
  · exact (Sound.ite ((h.modRow _).wr _ _ _) (h.modRow _)).next

theorem Sound.execStartupPumpKickEnd : Completes s (execStartupPumpKickEnd u) := (h.modRow _).next

theorem Sound.execPumpStatusTimeout (k : Fin 4) (slow : Bool) : Completes s (execPumpStatusTimeout k slow u) := .ite h.next ((h.failPump _).next)

theorem Sound.trimStep : Sound s u.trimStep := by
  unfold State.trimStep
  extract_lets k t v
  have ht : Sound s t := by
    unfold t
    split
    · exact h.modRow _
    · exact h.modRow _
  exact (ht.roundNat _ _).wr _ _ _

theorem Sound.showBudget (b : Int) : Sound s (u.showBudget b) := .ite (h.wr _ _ _) ((h.freeNat _).wr _ _ _)

theorem Sound.budgetStep : Sound s u.budgetStep.2 := by
  unfold State.budgetStep
  extract_lets a s1 b s2
  have hs2 : Sound s s2 := (h.modRow _).showBudget _
  split
  · dsimp only
    exact (h.showBudget _).modRow _
  · split
    · dsimp only
      exact .ite hs2 ((hs2.modRow _).raise _ _ _ _ _)
    · dsimp only
      exact h.modRow _

theorem Sound.shareStep (b : Int) : Sound s (u.shareStep b) := by
  unfold State.shareStep
  extract_lets ms quiet l r s1 s2 s3
  have hs1 : Sound s s1 := h.foldl _ fun _ _ hv => (hv.wr _ _ _).wr _ _ _
  have hs2 : Sound s s2 := hs1.foldl _ fun _ _ hv => (hv.wr _ _ _).wr _ _ _
  have hs3 : Sound s s3 := .ite (hs2.raise _ _ _ _ _) hs2
  exact hs3.modRow _

theorem Sound.runHours : Sound s u.runHours := h.foldl _ fun _ _ hv => .ite (hv.modRow _) ((hv.count _ _).modRow _)

theorem Sound.execRowBudgetCompute : Completes s (execRowBudgetCompute u) := .ite h.next ((((h.trimStep.runHours).budgetStep).shareStep _).next)

theorem Sound.rowCap (w : Nat) (stale : Bool) : Sound s (u.rowCap w stale) := by
  unfold State.rowCap
  extract_lets was s1 s2
  have hs2 : Sound s s2 := .ite (((h.wr _ _ _).wr _ _ _).raise _ _ _ _ _) (.ite (((h.wr _ _ _).wr _ _ _).recordOpen _ _ _ _)
    ((h.wr _ _ _).wr _ _ _))
  exact hs2.recap

theorem Sound.execCapTableStale : Completes s (execCapTableStale u) := .ite ((h.rowCap _ _).next) h.next

theorem Sound.actCapTable (d : List Byte) : Sound s (u.actCapTable d) :=
  .ite h (.ite (h.modRow _) (.ite ((h.modRow _).modRow _) ((((h.modRow _).modRow _).modRow _).rowCap _ _)))

theorem Sound.actHb (d : List Byte) : Sound s (u.actHb d) := by
  unfold State.actHb
  extract_lets fl p s1 bad s2 s3 s4
  have hs2 : Sound s s2 := .ite (((h.modRow _).wr _ _ _).raise _ _ _ _ _) ((h.modRow _).wr _ _ _)
  have hs4 : Sound s s4 := .ite ((hs2.modRow _).wr _ _ _) (.ite ((hs2.modRow _).wr _ _ _) (hs2.modRow _))
  exact .ite h (hs4.relCheck.healthCheck)

theorem Sound.actMirror (d : List Byte) : Sound s (u.actMirror d) := .ite h (.ite (((h.modRow _).relCheck).healthCheck) (h.modRow _))

theorem Sound.execMirrorOld : Completes s (execMirrorOld u) := .ite (((h.raise _ _ _ _ _).healthCheck).next) h.next

theorem Sound.actModStatus (node : Nat) (d : List Byte) : Sound s (u.actModStatus node d) := .ite ((h.wr _ _ _).modRow _) h

theorem Sound.actPumpStatus (node : Nat) (d : List Byte) : Sound s (u.actPumpStatus node d) := .ite (h.foldl _ fun _ _ hv => hv.failPump _) h

theorem Sound.cleTick : Sound s u.cleTick.1 := by
  unfold State.cleTick
  extract_lets n src s0 on due s1 s2 src'
  have hs1 : Sound s s1 := h.other.foldl _ fun _ _ hv => (hv.sample _).foldl _ fun _ _ hw => hw.traceTake _
  have hs2 : Sound s s2 := hs1.foldl _ fun _ _ hv => hv.traceTake _
  exact hs2.other

theorem Sound.execCleTick : Completes s (execCleTick u) :=
  .ite h.next ((Sound.ite (h.cleTick.handBack) (.ite (h.cleTick.passControl) h.cleTick)).next)

/-! ### Clarn -/

theorem Sound.clnErr : Sound s u.clnErr := h.raise _ _ _ _ _

theorem Sound.chanStop (c : Nat) : Sound s (u.chanStop c) := (((((h.wr _ _ _).wr _ _ _).wr _ _ _).wr _ _ _).modChan _ _).busyShow

theorem Sound.writeChCfg (c : Nat) (w : Word) : Sound s (u.writeChCfg c w) := by
  unfold State.writeChCfg
  extract_lets s1 on same s2 s2'
  have hs2 : Sound s s2 := .ite (h.wr _ _ _) ((h.wr _ _ _).clnErr)
  have hs2' : Sound s s2' := ((h.wr _ _ _).wr _ _ _).wr _ _ _
  refine .ite ?_ ?_
  · exact .ite hs2 (hs2.chanStop _)
  · exact .ite hs2' (.ite ((((hs2'.wr _ _ _).wr _ _ _).wr _ _ _).wr _ _ _) hs2'.clnErr)

theorem Sound.execClnChCfgWrite (c : Fin 2) (w : Word) : Completes s (execClnChCfgWrite c w u) := (h.writeChCfg _ _).next

theorem Sound.writeTiming (r : Reg) (c : Nat) (w : Word) : Sound s (u.writeTiming r c w) := .ite h.clnErr (h.setReg _ _ _)

theorem Sound.confine (c tec rec_ : Nat) : Sound s (u.confine c tec rec_) := by
  unfold State.confine
  extract_lets was s1
  refine .ite ?_ ?_
  · exact ((((h.wr _ _ _).wr _ _ _).wr _ _ _).count _ _).raise _ _ _ _ _
  · refine .ite ?_ ?_
    · exact .ite ((h.wr _ _ _).wr _ _ _) ((((h.wr _ _ _).wr _ _ _).wr _ _ _).raise _ _ _ _ _)
    · exact ((h.wr _ _ _).wr _ _ _).wr _ _ _

theorem Sound.execClarnBusError (c : Fin 2) (tec rec_ : BitVec 9) : Completes s (execClarnBusError c tec rec_ u) :=
  .ite (((h.confine _ _ _).healthCheck).next) h.next

theorem Sound.execBusoffRecovery (c : Fin 2) : Completes s (execBusoffRecovery c u) := .ite ((((h.wr _ _ _).wr _ _ _).wr _ _ _).next) h.next

theorem Sound.txGood (c : Nat) : Sound s (u.txGood c) := .ite ((h.wr _ _ _).wr _ _ _) (h.wr _ _ _)

theorem Sound.rxGood (c : Nat) : Sound s (u.rxGood c) := .ite (.ite (((h.freeNat _).wr _ _ _).wr _ _ _) ((h.freeNat _).wr _ _ _)) (h.wr _ _ _)

theorem Sound.fillShow (c : Nat) : Sound s (u.fillShow c) := h.wr _ _ _

theorem Sound.rxStore (c i : Nat) (loop : Bool) (d : List Byte) : Sound s (u.rxStore c i loop d) :=
  .ite h (.ite (.ite (h.count _ _) (((h.count _ _).modChan _ _).raise _ _ _ _ _)) ((h.modChan _ _).fillShow _))

theorem Sound.ackRx (c n : Nat) : Sound s (u.ackRx c n) := ((h.modChan _ _).wr _ _ _).fillShow _

theorem Sound.execClnRxqAck (c : Fin 2) (n : BitVec 9) : Completes s (execClnRxqAck c n u) := (h.ackRx _ _).next

theorem Sound.startCycle (n : Nat) : Sound s (u.startCycle n) := h.other

theorem Sound.execCycleStart : Completes s (execCycleStart u) :=
  .ite h.next (.ite ((((h.startCycle _).queueFrame _ _ _ _ _).other).next) (.ite ((h.startCycle _).next) h.next))

theorem Sound.execRefLost : Completes s (execRefLost u) := .ite h.next ((h.other.raise _ _ _ _ _).next)

theorem Sound.actRef (d : List Byte) : Sound s (u.actRef d) := .ite h ((h.startCycle _).other)

theorem Sound.actClass (cls node : Nat) (d : List Byte) : Sound s (u.actClass cls node d) := by
  unfold State.actClass
  split
  · exact h.actRef _
  · exact h.actCapTable _
  · exact h.actHb _
  · exact h.actMirror _
  · exact h.actModStatus _ _
  · exact h.actPumpStatus _ _
  · exact h.raise _ _ _ _ _
  · exact h

theorem Sound.actFrame (i : Nat) (d : List Byte) : Sound s (u.actFrame i d) := .ite ((h.other.actClass _ _ _).healthCheck) h

theorem Sound.filterIn (c i : Nat) (loop : Bool) (d : List Byte) : Sound s (u.filterIn c i loop d) :=
  .ite (h.count _ _) (.ite (h.other.rxStore _ _ _ _) (((h.other.modChan _ _).rxStore _ _ _ _).actFrame _ _))

theorem Sound.frameIn (c : Nat) (f : CanFrame) :
    Sound s (u.frameIn c f) := .ite h (.ite ((h.rxGood _).count _ _) ((h.rxGood _).filterIn _ _ _ _))

theorem Sound.rxRow (c : Nat) (f : CanFrame) : Completes s (rxRow c f u) := (h.frameIn _ _).next

theorem Sound.execClarnFrameReceive (c : Fin 2) (f : CanFrame) : Completes s (execClarnFrameReceive c f u) := (h.frameIn _ _).next

theorem Sound.execRef (c : Fin 2) (f : CanFrame) : Completes s (execRef c f u) := h.rxRow _ _

theorem Sound.execCapTable (c : Fin 2) (f : CanFrame) : Completes s (execCapTable c f u) := h.rxRow _ _

theorem Sound.execHb (c : Fin 2) (f : CanFrame) : Completes s (execHb c f u) := h.rxRow _ _

theorem Sound.execMirror (c : Fin 2) (f : CanFrame) : Completes s (execMirror c f u) := h.rxRow _ _

theorem Sound.execModStatus (c : Fin 2) (f : CanFrame) : Completes s (execModStatus c f u) := h.rxRow _ _

theorem Sound.execModAlarm (c : Fin 2) (f : CanFrame) : Completes s (execModAlarm c f u) := h.rxRow _ _

theorem Sound.execPumpStatus (c : Fin 2) (f : CanFrame) : Completes s (execPumpStatus c f u) := h.rxRow _ _

theorem Sound.execValveStatus (c : Fin 2) (f : CanFrame) : Completes s (execValveStatus c f u) := h.rxRow _ _

theorem Sound.execSensorValue (c : Fin 2) (f : CanFrame) : Completes s (execSensorValue c f u) := h.rxRow _ _

theorem Sound.execLeakStatus (c : Fin 2) (f : CanFrame) : Completes s (execLeakStatus c f u) := h.rxRow _ _

theorem Sound.execNodeHello (c : Fin 2) (f : CanFrame) : Completes s (execNodeHello c f u) := h.rxRow _ _

theorem Sound.execSeqForget (id : BitVec 29) : Completes s (execSeqForget id u) := h.other.next

theorem Sound.field16 (v : Option Rat) : Sound s (u.field16 v).2 := by
  unfold State.field16
  split
  · exact h.roundOff _
  · exact h.freeNat _

theorem Sound.statusBody : Sound s u.statusBody.2 := ((h.field16 _).field16 _).field16 _

theorem Sound.cellBody (cls node : Nat) : Sound s (u.cellBody cls node).2 := by
  unfold State.cellBody
  extract_lets hold k s1 src k' s1' src' r
  have hs1 : Sound s s1 := .ite (h.modRow _) h
  have hs1' : Sound s s1' := .ite h.newMirror h
  split
  · split
    · exact hs1.other
    · exact h
  · exact h
  · split
    · exact hs1'.other
    · exact hs1'
  · split
    · exact h.statusBody
    · exact h
  · exact h
  · exact h
  · exact h

theorem Sound.execSchedSlot (slot : Fin 32) : Completes s (execSchedSlot slot u) := by
  unfold Machine.execSchedSlot
  extract_lets w cls node
  refine .ite ?_ ?_
  · exact h.next
  · split
    · rename_i x1 w2 e3
      have hw2 : Sound s w2 := .of_snd (h.cellBody _ _) e3
      exact hw2.next
    · rename_i x1 x2 w3 e4
      have hw3 : Sound s w3 := .of_snd (h.cellBody _ _) e4
      exact (Sound.ite ((hw3.queueFrame _ _ _ _ _).actClass _ _ _) (hw3.queueFrame _ _ _ _ _)).next

end

end Sys2Proof.Machine
end

section
/-! PROOFS.  What every command keeps, function by function (6 of 6): the order of the model's definitions, the first of which
call no other. -/

namespace Sys2Proof.Machine

section
variable {s t u v : State} (h : Sound s u)
include h

/-! ### Clarn -/

theorem Sound.cellCheck : Sound s u.cellCheck := .ite h (h.foldl _ fun _ _ hv => hv.raise _ _ _ _ _)

theorem Sound.writeSched (k : Nat) (w : Word) : Sound s (u.writeSched k w) := .ite h.clnErr ((h.stage _ _ _).cellCheck)

theorem Sound.writeTxmap (v : Nat) (w : Word) : Sound s (u.writeTxmap v w) := .ite h.clnErr ((h.stage _ _ _).cellCheck)

theorem Sound.writeRxmap (v : Nat) (w : Word) : Sound s (u.writeRxmap v w) := (h.stage _ _ _).cellCheck

theorem Sound.writeClnCtl (w : Word) : Sound s (u.writeClnCtl w) := .ite h.clnErr ((h.setReg _ _ _).cellCheck)

theorem Sound.putCell (cycle slot cls node : Nat) : Sound s (u.putCell cycle slot cls node) := .ite (((h.wr _ _ _).wr _ _ _).wr _ _ _) h

theorem Sound.fillMatrix : Sound s u.fillMatrix := by
  unfold State.fillMatrix
  extract_lets n row a b c es s1
  have hb : Sound s b := ((h.putCell _ _ _ _).putCell _ _ _ _).foldl _ fun _ _ hv => hv.putCell _ _ _ _
  have hc : Sound s c := hb.foldl _ fun _ _ hv => hv.putCell _ _ _ _
  have hs1 : Sound s s1 := .ite (hc.foldl _ fun _ _ hv => hv.putCell _ _ _ _) h
  exact .ite (hs1.putCell _ _ _ _) hs1

theorem Sound.tdcSeen (c delay : Nat) : Sound s (u.tdcSeen c delay) := .ite ((h.wr _ _ _).modChan _ _) h

theorem Sound.execClarnTxDone (c : Fin 2) (id : BitVec 29) (delay : Nat) : Completes s (execClarnTxDone c id delay u) := by
  unfold Machine.execClarnTxDone
  extract_lets l
  refine .ite ?_ ?_
  · exact h.next
  · split
    · exact h.next
    · extract_lets s1
      have hs1 : Sound s s1 := (((h.tdcSeen _ _).modChan _ _).busyShow).txGood _
      exact .ite (((h.confine _ _ _).healthCheck).next) ((Sound.ite hs1 (hs1.filterIn _ _ _ _)).next)

theorem Sound.submit : Sound s u.submit := by
  unfold State.submit
  extract_lets len ch d
  refine .ite ?_ ?_
  · exact h.clnErr
  · split
    · exact h.raise _ _ _ _ _
    · exact ((h.queueFrame _ _ _ _ _).wr _ _ _).busyShow

theorem Sound.execSubmit : Completes s (execSubmit u) := h.submit.next

theorem Sound.cancelEv (e : Nat) : Sound s (u.cancelEv e) := (h.foldl _ fun _ _ hv => hv.modChan _ _).busyShow

theorem Sound.writeEvqCmd (w : Word) : Sound s (u.writeEvqCmd w) :=
  .ite ((Sound.ite ((h.wr _ _ _).cancelEv _) (h.wr _ _ _)).submit) (.ite ((h.wr _ _ _).cancelEv _) (h.wr _ _ _))

theorem Sound.execCancel (e : BitVec 5) : Completes s (execCancel e u) := (h.writeEvqCmd _).next

/-! ### Tray -/

theorem Sound.modBoot (f : Boot → Boot) : Sound s (u.modBoot f) := h.other

theorem Sound.execFlowPermitHeld : Completes s (execFlowPermitHeld u) :=
  .ite ((Sound.ite (((h.wr _ _ _).wr _ _ _).requestCompute) ((h.wr _ _ _).tryGate)).next) (h.flowCheck.next)

theorem Sound.execPermitWait : Completes s (execPermitWait u) := .ite (((h.modBoot _).raise _ _ _ _ _).next) h.next

theorem Sound.execPermitLost : Completes s (execPermitLost u) := .ite ((((h.flowCheck.modBoot _).protect _ _ _).quiesceNow).next) h.next

theorem Sound.execPermitRegain : Completes s (execPermitRegain u) := .ite (((h.modBoot _).requestCompute).next) h.next

theorem Sound.writeWdog (w : Word) : Sound s (u.writeWdog w) := by
  unfold State.writeWdog
  extract_lets s1 s2 src
  have hs2 : Sound s s2 := .ite ((h.wr _ _ _).wr _ _ _) (h.wr _ _ _)
  exact .ite hs2.other hs2

theorem Sound.execWdogKick : Completes s (execWdogKick u) := (h.writeWdog _).next

theorem Sound.ringsWait (v : Nat) : Sound s (u.ringsWait v) := h.foldl _ fun _ _ hv => .ite (hv.wr _ _ _) hv

theorem Sound.execWdogExpiry : Completes s (execWdogExpiry u) := by
  unfold Machine.execWdogExpiry
  extract_lets l src s1 s2
  have hs2 : Sound s s2 := (h.other.ringsWait _).wr _ _ _
  exact .ite h.next (.ite (((hs2.wr _ _ _).raise _ _ _ _ _).next) ((hs2.raise _ _ _ _ _).next))

theorem Sound.execMgmtRestartDone : Completes s (execMgmtRestartDone u) := .ite (((h.other.ringsWait _).tryEpoch).next) h.next

theorem Sound.heartbeat : Sound s u.heartbeat := h.modBoot _

theorem Sound.execHeartbeat : Completes s (execHeartbeat u) := .ite h.next (h.heartbeat.next)

theorem Sound.execHbMiss : Completes s (execHbMiss u) := .ite ((h.raise _ _ _ _ _).next) h.next

theorem Sound.execTrayShutdown : Completes s (execTrayShutdown u) := .ite (((((h.modBoot _).protect _ _ _).quiesceNow).refreshValve).next) h.next

theorem Sound.execTrayValveHoldEnd : Completes s (execTrayValveHoldEnd u) := .ite (((h.modBoot _).refreshValve).next) h.next

theorem Sound.endShutdown : Sound s u.endShutdown := (((h.modBoot _).wr _ _ _).refreshValve).requestCompute

theorem Sound.writeTray (master : Nat) (w : Word) : Sound s (u.writeTray master w) := by
  unfold State.writeTray
  extract_lets guard again old log c s1 s2 s3
  have hc : Sound s c.1 := by
    unfold c
    split
    · exact h.logChange _ _ _ _ _ _
    · exact h
  have hs1 : Sound s s1 := ((hc.wr _ _ _).wr _ _ _).wr _ _ _
  have hs2 : Sound s s2 := .ite (hs1.raise _ _ _ _ _) (hs1.wr _ _ _)
  exact .ite hc (.ite hs2.refreshValve (.ite (hs2.refreshValve.endShutdown) (hs2.refreshValve.wr _ _ _)))

theorem Sound.execTrayModeWrite (master : BitVec 10) (guard : Bool) : Completes s (execTrayModeWrite master guard u) := (h.writeTray _ _).next

theorem Sound.execTrayRestart (master : BitVec 10) : Completes s (execTrayRestart master u) := (h.writeTray _ _).next

theorem Sound.execAliveTick : Completes s (execAliveTick u) := .ite (((h.wr _ _ _).modBoot _).next) h.next

/-! ### Write -/

theorem Sound.plainWrite (r : Reg) (i : Nat) (w : Word) : Sound s (u.plainWrite r i w) := h.setReg _ _ _

theorem Sound.writeIe (c r : Reg) (i : Nat) (w : Word) :
    Sound s (u.writeIe c r i w) := .ite (h.plainWrite _ _ _) ((h.plainWrite _ _ _).setPend _)

theorem Sound.writeSecCause (w : Word) : Sound s (u.writeSecCause w) := .ite (h.plainWrite _ _ _) ((h.plainWrite _ _ _).wr _ _ _)

theorem Sound.writeMemCause (k : Nat) (w : Word) : Sound s (u.writeMemCause k w) := .ite (h.plainWrite _ _ _) ((h.plainWrite _ _ _).wr _ _ _)

theorem Sound.writeCluCause (p : Nat) (w : Word) : Sound s (u.writeCluCause p w) := .ite (h.plainWrite _ _ _) ((h.plainWrite _ _ _).wr _ _ _)

theorem Sound.writeDiCfg (d : Nat) (w : Word) : Sound s (u.writeDiCfg d w) :=
  ((Sound.ite ((h.plainWrite _ _ _).diAct _) (h.plainWrite _ _ _)).emergCheck _).dryCheck

theorem Sound.writeAoCfg (a : Nat) (w : Word) : Sound s (u.writeAoCfg a w) := by
  unfold State.writeAoCfg
  extract_lets s1 s2
  have hs2 : Sound s s2 := .ite (h.plainWrite _ _ _) ((h.plainWrite _ _ _).wr _ _ _)
  exact (Sound.ite hs2.aoInit hs2).refreshValve

theorem Sound.writeAiCfg (i : Nat) (w : Word) : Sound s (u.writeAiCfg i w) :=
  .ite (h.plainWrite _ _ _) (((h.plainWrite _ _ _).wr _ _ _).dropRead _)

theorem Sound.writeLeakCtl (w : Word) : Sound s (u.writeLeakCtl w) := by
  unfold State.writeLeakCtl
  extract_lets s1
  have hs1 : Sound s s1 := (h.plainWrite _ _ _).refreshValve
  exact .ite (hs1.nextOr hs1.execLeakAck) hs1

theorem Sound.writeEthPort (p : Nat) (w : Word) : Sound s (u.writeEthPort p w) :=
  .ite (.ite ((h.wr _ _ _).ethDown _) (h.wr _ _ _)) (.ite (h.raise _ _ _ _ _) (h.plainWrite _ _ _))

theorem Sound.writePtp (p : Nat) (w : Word) : Sound s (u.writePtp p w) := (h.plainWrite _ _ _).ptpLink _

theorem Sound.writeRingBase (r : Reg) (i : Nat) (w : Word) : Sound s (u.writeRingBase r i w) := .ite h (h.plainWrite _ _ _)

theorem Sound.writeQpWord (r : Reg) (q : Nat) (w : Word) : Sound s (u.writeQpWord r q w) := .ite h (h.plainWrite _ _ _)

theorem Sound.writeVcBuf (p : Nat) (w : Word) : Sound s (u.writeVcBuf p w) := .ite h (.ite (h.raise _ _ _ _ _) (h.plainWrite _ _ _))

theorem Sound.writeRowHeld (r : Reg) (w : Word) : Sound s (u.writeRowHeld r w) := .ite (h.raise _ _ _ _ _) (h.plainWrite _ _ _)

theorem Sound.writeRowPump (k : Nat) (w : Word) : Sound s (u.writeRowPump k w) := .ite (.ite h (h.raise _ _ _ _ _)) (h.plainWrite _ _ _)

theorem Sound.writeTrcNode (j : Nat) (w : Word) : Sound s (u.writeTrcNode j w) := .ite h (h.plainWrite _ _ _)

theorem Sound.writeBase (master : Nat) (r : Reg) (i : Nat) (w : Word) : Sound s (u.writeBase master r i w) := by
  unfold State.writeBase
  split
  · exact h.writeGearReq _
  · exact .ite (h.nextOr h.execPwrTripRearm) h
  · exact h.writePsReq _
  · exact (h.wr _ _ _).voteCheck
  · exact h.writeTimCtl _ _
  · exact h.writeTray _ _
  · exact h.heartbeat
  · exact h.writeWdog _
  · exact h.writeRecCtl _
  · exact h.writeCurCtl _ _
  · exact h.writeCurSeq _ _
  · exact h.writeSecCause _
  · exact (h.plainWrite _ _ _).showWin
  · exact h.writeRights _
  · split
    · exact h.writeIe _ _ _ _
    · exact h.plainWrite _ _ _

theorem Sound.writeControl (r : Reg) (i : Nat) (w : Word) : Sound s (u.writeControl r i w) := by
  unfold State.writeControl
  split
  · exact h.nextOr (h.execSlotFaultClear _)
  · exact h.writeSlotCfg _ _
  · exact h.writeSlotIo _ _
  · exact h.writeTrcCfg _ _
  · exact h.writeTrcNode _ _
  · exact h.writeRep _ _ _
  · exact h.writePwmCfg _ _
  · exact h.nextOr (h.execCioPwmClr _)
  · exact h.writeAoCfg _ _
  · exact h.writeAiCfg _ _
  · exact h.writeDiCfg _ _
  · exact h.nextOr (h.execDiStuckClear _)
  · exact h.writeLeakCfg _ _
  · exact h.writeLeakCtl _
  · exact h.nextOr (h.execSensStatClear _)
  · exact h.writeAoCmd _ _
  · exact h.writePwmCmd _ _
  · refine .ite ?_ ?_
    · exact h.writeSlotWord _ _ _
    · split
      · exact h.writeIe _ _ _ _
      · exact h.plainWrite _ _ _

theorem Sound.writeBus (master : Nat) (r : Reg) (i : Nat) (w : Word) : Sound s (u.writeBus master r i w) := by
  unfold State.writeBus
  split
  · exact h.writeChCfg _ _
  · exact h.writeTiming _ _ _
  · exact h.writeTiming _ _ _
  · exact h.ackRx _ _
  · exact h.writeClnCtl _
  · exact h.writeEvqCmd _
  · exact h.writeSched _ _
  · exact h.writeTxmap _ _
  · exact h.writeRxmap _ _
  · exact h.writeRowCmd _ _
  · exact h.writeRowHeld _ _
  · exact h.writeRowHeld _ _
  · exact h.writeRowPump _ _
  · exact h.writeMtrReq _
  · split
    · exact h.writeIe _ _ _ _
    · exact h.plainWrite _ _ _

theorem Sound.writeCompute (r : Reg) (i : Nat) (w : Word) : Sound s (u.writeCompute r i w) := by
  unfold State.writeCompute
  split
  · exact h.nextOr (h.execFabPortCfgWrite _ _)
  · exact h.nextOr (h.execRetrain _ _)
  · exact h.writeVcBuf _ _
  · exact h.nextOr (h.execShadowReadyWrite _)
  · exact h.routeWrite _ _ _ _
  · exact h.routeWrite _ _ _ _
  · exact h.writeMemCause _ _
  · exact .ite (h.nextOr (h.execRotationReq _)) h
  · exact h
  · exact h
  · exact h
  · exact h.writeCluCause _ _
  · exact (h.plainWrite _ _ _).arithLevel _
  · exact (h.plainWrite _ _ _).arithLevel _
  · split
    · exact h.writeIe _ _ _ _
    · exact h.plainWrite _ _ _

theorem Sound.writeEth (r : Reg) (i : Nat) (w : Word) : Sound s (u.writeEth r i w) := by
  unfold State.writeEth
  split
  · exact h.writeEthPort _ _
  · exact h.writePtp _ _
  · exact h.writeVlan _ _
  · exact h.writeMwCtl _ _
  · exact .ite (h.nextOr (h.execEthDbTagNew _)) h
  · exact h.writeQpBind _ _
  · exact (h.writeRingCtl _ _).voteCheck
  · exact h.writePi _ _
  · exact h.writeCqCi _ _
  · refine .ite ?_ ?_
    · exact h.writeQpWord _ _ _
    · refine .ite ?_ ?_
      · exact h.writeRingBase _ _ _
      · split
        · exact h.writeIe _ _ _ _
        · exact h.plainWrite _ _ _

theorem Sound.writeReg (master : Nat) (r : Reg) (i : Nat) (w : Word) : Sound s (u.writeReg master r i w) := by
  unfold State.writeReg
  split
  · exact h.writeControl _ _ _
  · exact h.writeControl _ _ _
  · exact h.writeBus _ _ _ _
  · exact h.writeBus _ _ _ _
  · exact h.writeCompute _ _ _
  · exact h.writeCompute _ _ _
  · exact h.writeCompute _ _ _
  · exact h.writeEth _ _ _
  · exact h.writeBase _ _ _ _

theorem Sound.tryWrite (master : Nat) (r : Reg) (i : Nat) (w : Word) : Sound s (u.tryWrite master r i w).1 := by
  unfold State.tryWrite
  split
  · exact h.writeReg _ _ _ _
  · extract_lets was t
    have ht : Sound s t := (h.wr _ _ _).writeReg _ _ _ _
    split
    · exact h.writeReg _ _ _ _
    · split
      · exact ht
      · exact .ite (ht.wr _ _ _) ht

/-! ### Startup -/

theorem Sound.putVlan (i : Nat) (w : Word) (ip : List Byte) : Sound s (u.putVlan i w ip) :=
  ((((h.setReg _ _ _).setReg _ _ _).setReg _ _ _).setReg _ _ _).setReg _ _ _

theorem Sound.bareVlan : Sound s u.bareVlan := h.foldl _ fun _ _ hv => hv.putVlan _ _ _

theorem Sound.vlanRecs (rs : List (List Byte)) : Sound s (u.vlanRecs rs) :=
  h.foldl _ fun _ _ hv => .ite hv (.ite (hv.foldl _ fun _ _ hw => hw.putVlan _ _ _) (hv.raise _ _ _ _ _))

theorem Sound.rowRec (warm : Bool) (v : List Byte) : Sound s (u.rowRec warm v) := by
  unfold State.rowRec
  extract_lets s1
  have hs1 : Sound s s1 := .ite h ((((h.wr _ _ _).wr _ _ _).wr _ _ _).wr _ _ _)
  exact .ite (hs1.rowCap _ _) hs1

theorem Sound.applyRec (warm : Bool) (r : CfgRec) : Sound s (u.applyRec warm r) := by
  unfold State.applyRec
  extract_lets v
  split
  · exact (h.wr _ _ _).wr _ _ _
  · exact h.modLink _ _
  · exact h.rowRec _ _
  · exact .ite h (h.foldl _ fun _ _ hv => hv.setReg _ _ _)
  · exact .ite h (h.record _ _ _ _ _ _ _)

theorem Sound.applyReg (warm : Bool) (x : Nat × Word) : Sound s (u.applyReg warm x) := by
  unfold State.applyReg
  split
  · exact h
  · exact .ite h (.ite (((h.tryWrite _ _ _ _).setReg _ _ _).raise _ _ _ _ _) (h.tryWrite _ _ _ _))

theorem Sound.defaultsOff : Sound s u.defaultsOff := (h.loadLoops _).foldl _ fun _ _ hv => hv.wr _ _ _

theorem Sound.defaultsOn (named : List Nat) : Sound s (u.defaultsOn named) := h.foldl _ fun _ _ hv => hv.wr _ _ _

theorem Sound.configure (warm : Bool) (rs : Option (List CfgRec)) : Sound s (u.configure warm rs) := by
  unfold State.configure
  extract_lets base src s1 s2
  have hbase : Sound s base := .ite h (h.defaultsOff.wr _ _ _)
  have hs2 : Sound s s2 := ((hbase.other.bareVlan).wr _ _ _).wr _ _ _
  split
  · exact .ite hs2 ((hs2.defaultsOn _).fillMatrix)
  · extract_lets s1' s2' xs s3 s4 s5 src'
    have hs1' : Sound s s1' := hbase.other.foldl _ fun _ _ hv => hv.applyRec _ _
    have hs3 : Sound s s3 := (hs1'.vlanRecs _).foldl _ fun _ _ hv => hv.applyReg _ _
    have hs5 : Sound s s5 := .ite (((hs3.defaultsOn _).fillMatrix).foldl _ fun _ _ hv => hv.applyReg _ _) (hs3.defaultsOn _)
    exact .ite hs3 hs5.other

theorem Sound.step3Keys (readings : List (List Byte)) : Sound s (u.step3Keys readings) := by
  unfold State.step3Keys
  extract_lets m src s' p src' src'' k src''' src''''
  have hs' : Sound s s' := .ite (h.drawKey.other) h
  have hsrc' : Sound s src' := hs'.freeBytes _
  have hk : Sound s k.2 := (hs'.freeBytes _).freeBytes _
  split
  · exact hsrc'.other
  · exact hk.other

theorem Sound.step3 (readings : List (List Byte)) : Sound s (u.step3 readings) := by
  unfold State.step3
  extract_lets s' s1 src
  have hs1 : Sound s s1 := ((h.step3Keys _).wr _ _ _).wr _ _ _
  split
  · exact hs1.wr _ _ _
  · exact (hs1.other.wr _ _ _).wr _ _ _
  · exact (hs1.wr _ _ _).raise _ _ _ _ _

theorem Sound.recScan (bad : List (Bool × Word)) : Sound s (u.recScan bad) := by
  unfold State.recScan
  exact (((h.modRec _).foldl _ fun _ _ hv => hv.raise _ _ _ _ _).record _ _ _ _ _ _ _).modBoot _

theorem Sound.readCounters : Sound s u.readCounters := .ite ((h.wr _ _ _).wr _ _ _) h

theorem Sound.readMap : Sound s u.readMap := h.foldl _ fun _ _ hv => (hv.wr _ _ _).wr _ _ _

theorem Sound.enterRecovery (vlans : List (List Byte)) : Sound s (u.enterRecovery vlans) := by
  unfold State.enterRecovery
  extract_lets s1 s2 s3 s4
  have hs1 : Sound s s1 := ((h.wr _ _ _).wr _ _ _).recordOpen _ _ _ _
  have hs2 : Sound s s2 := .ite hs1 ((hs1.loadLoops _).startEngine)
  exact ((((((hs2.wr _ _ _).rowGo _ _).wr _ _ _).bareVlan).vlanRecs _).wr _ _ _).wr _ _ _

theorem Sound.step4 (bad : List (Bool × Word)) : Sound s (u.step4 bad) := by
  unfold State.step4
  extract_lets s1 s2
  have hs2 : Sound s s2 := ((h.wr _ _ _).wr _ _ _).foldl _ fun _ _ hv => hv.wr _ _ _
  exact .ite (h.enterRecovery _) ((hs2.readCounters.readMap).recScan _)

theorem Sound.step5 : Sound s u.step5 := by
  unfold State.step5
  extract_lets warm cfg l src src' s1 s2
  have hs1 : Sound s s1 := (h.other.wr _ _ _).wr _ _ _
  have hs2 : Sound s s2 := .ite hs1 (.ite (hs1.wr _ _ _) ((hs1.wr _ _ _).raise _ _ _ _ _))
  exact .ite ((hs2.configure _ _).wr _ _ _) (h.enterRecovery _)

theorem Sound.step6 : Sound s u.step6 := by
  unfold State.step6
  extract_lets s1 s2 s3
  have hs1 : Sound s s1 := .ite h h.startEngine
  have hs2 : Sound s s2 := hs1.foldl _ fun _ _ hv => .ite hv (hv.writeChCfg _ _)
  exact .ite ((hs2.wr _ _ _).cellCheck) (hs2.wr _ _ _)

theorem Sound.step7 : Sound s u.step7 := .ite (.ite ((h.wr _ _ _).requestCompute) h) (.ite (.ite ((h.wr _ _ _).modRow _) (h.wr _ _ _)) h)

theorem Sound.step8 : Sound s u.step8 := .ite ((h.wr _ _ _).requestCompute) h

theorem Sound.step9 : Sound s u.step9 := .ite (.ite (((h.wr _ _ _).raise _ _ _ _ _).wr _ _ _) ((h.wr _ _ _).raise _ _ _ _ _)) h

theorem Sound.execStartupStepComplete (d : StepData) : Completes s (execStartupStepComplete d u) := by
  unfold Machine.execStartupStepComplete
  extract_lets t
  refine .ite ?_ ?_
  · exact h.next
  · split
    · exact ((h.wr _ _ _).wr _ _ _).next
    · exact (h.wr _ _ _).next
    · split
      · exact .ite h.next ((Sound.ite ((((h.step3 _).wr _ _ _).setVperi _).aoInit) ((h.step3 _).wr _ _ _)).next)
      · exact h.next
    · exact (Sound.ite ((h.step4 _).wr _ _ _) (h.step4 _)).next
    · exact h.step5.next
    · exact h.step6.next
    · exact h.step7.next
    · exact h.step8.next
    · exact h.step9.next
    · exact h.next

theorem Sound.bare : Sound s u.bare where
  pending := h.pending
  mem _ := (State.memWf_iff _).2 ⟨⟨Assoc.wf_nil 0, Assoc.wf_nil 0⟩, Assoc.wf_nil false, Assoc.wf_nil false⟩
  regs _ := (State.regsWf_iff _).2 List.Pairwise.nil

theorem Sound.powerUp : Sound s u.powerUp := h.bare.meterStart

theorem Sound.powerOff (volt : Bool) : Sound s (u.powerOff volt) := h.bare.other

theorem Sound.execVaonUp : Completes s (execVaonUp u) := .ite (h.powerUp.next) h.next

theorem Sound.execVaonDown : Completes s (execVaonDown u) := (h.powerOff _).next

theorem Sound.execOvervoltage : Completes s (execOvervoltage u) := (h.powerOff _).next

theorem Sound.execOvervoltageRecovery : Completes s (execOvervoltageRecovery u) := .ite (h.powerUp.next) h.next

theorem Sound.warmRestart (last : Nat) : Sound s (u.warmRestart last) := by
  unfold State.warmRestart
  extract_lets awake s0 s1 s2 src s3 s4 s5
  have hs0 : Sound s s0 := h.coreOff
  have hs1 : Sound s s1 := hs0.foldl _ fun _ _ hv => hv.resetBlock _ _
  have hs2 : Sound s s2 := ((hs1.resetReg _).resetReg _).resetReg _
  have hs3 : Sound s s3 := Sound.other hs2.dropMem
  have hs5 : Sound s s5 := (((hs3.wr _ _ _).wr _ _ _).wr _ _ _).recap
  exact .ite hs5 (hs5.setVperi _).restartEngine

theorem Sound.execResetN : Completes s (execResetN u) := .ite h.next ((h.warmRestart _).next)

theorem Sound.imageRefused (x : HmpHead) : Sound s (u.imageRefused x) := (h.freeNat _).hmpSay _ _ _ _

theorem Sound.storeImage (x : HmpHead) (obj : Nat) (l : List Byte) (put : Nv → Nv) : Sound s (u.storeImage x obj l put).1 := by
  unfold State.storeImage
  extract_lets c src
  have hsrc : Sound s src := h.logChange _ _ _ _ _ _
  split
  · exact hsrc.other.hmpSay _ _ _ _
  · exact (h.logChange _ _ _ _ _ _).hmpSay _ _ _ _

theorem Sound.execCfgImage (x : HmpHead) (body : List Byte) : Completes s (execCfgImage x body u) :=
  h.hmpObj _ _ (fun _ hv => .ite (hv.storeImage _ _ _ _) (hv.imageRefused _))

theorem Sound.execFwImage (x : HmpHead) (body : List Byte) : Completes s (execFwImage x body u) := by
  unfold Machine.execFwImage
  exact .ite (.ite ((Sound.ite ((h.storeImage _ _ _ _).warmRestart _) (h.storeImage _ _ _ _)).next) ((h.imageRefused _).next)) (h.hmpObj _ _
    (fun _ hv => .ite (hv.storeImage _ _ _ _) (hv.imageRefused _)))

/-! ### Access -/

theorem Sound.readEffect (master : Nat) (r : Reg) (i : Nat) : Sound s (u.readEffect master r i) := by
  unfold State.readEffect
  split
  · exact h.other
  · exact h.traceAdvance _
  · exact .ite (h.recAdvance _) h
  · exact h

theorem Sound.cluWake (a : Nat) : Sound s (u.cluWake a) := .ite (h.coreWake.wr _ _ _) h

theorem Sound.accessRead (m a : Nat) : Sound s (u.accessRead m a).2.1 := by
  unfold State.accessRead
  split
  · split
    · exact (h.readEffect _ _ _).cluWake _
    · exact h
  · exact h.reject _ _ _ _

theorem Sound.guardedWrite (hmp : Bool) (m : Nat) (r : Reg) (i : Nat) (w : Word) : Sound s (u.guardedWrite hmp m r i w).1 := by
  unfold State.guardedWrite
  extract_lets log t
  split
  · exact h
  · split
    · exact h.tryWrite _ _ _ _
    · split
      · exact h.raise _ _ _ _ _
      · split
        · exact (h.logChange _ _ _ _ _ _).tryWrite _ _ _ _
        · exact h.tryWrite _ _ _ _

theorem Sound.accessWrite (hmp : Bool) (m a : Nat) (w : Word) : Sound s (u.accessWrite hmp m a w).1 := by
  unfold State.accessWrite
  split
  · split
    · exact (h.cluWake _).guardedWrite _ _ _ _ _
    · exact h
  · exact h.reject _ _ _ _

theorem Sound.execRegisterWrite (master : BitVec 10) (addr : BitVec 24) (wide : Bool) (w : Word) :
    Completes s (execRegisterWrite master addr wide w u) :=
  .ite h.next (.ite ((h.accessWrite _ _ _ _).next) ((h.reject _ _ _ _).next))

theorem Sound.hmpReadAll (a n : Nat) : Sound s (u.hmpReadAll a n).2.1 := by
  induction n generalizing u a with
  | zero => exact h
  | succ n ih =>
    unfold State.hmpReadAll
    split
    · exact h
    · extract_lets x t
      have hx : Sound s x.2.1 := h.accessRead _ _
      split
      · exact ih hx _
      · exact hx

theorem Sound.execRegRead (x : HmpHead) (addr n : Word) : Completes s (execRegRead x addr n u) := by
  unfold Machine.execRegRead
  extract_lets t
  refine .ite ?_ ?_
  · exact h.next
  · refine .ite ?_ ?_
    · exact (h.hmpSay _ _ _ _).next
    · exact (Sound.ite ((h.hmpReadAll _ _).hmpSay _ _ _ _) ((h.hmpReadAll _ _).hmpSay _ _ _ _)).next

theorem Sound.hmpWriteAll (a : Nat) (l : List Word) : Sound s (u.hmpWriteAll a l).1 := by
  induction l generalizing u a with
  | nil => exact h
  | cons w t ih =>
    unfold State.hmpWriteAll
    extract_lets x
    have hx : Sound s x.1 := h.accessWrite _ _ _ _
    split
    · exact ih hx _
    · exact hx

theorem Sound.execRegWrite (x : HmpHead) (addr n : Word) (vals : List Word) : Completes s (execRegWrite x addr n vals u) := by
  unfold Machine.execRegWrite
  extract_lets t
  refine .ite ?_ ?_
  · exact h.next
  · exact .ite ((h.hmpSay _ _ _ _).next) (.ite ((h.hmpSay _ _ _ _).next) (((h.hmpWriteAll _ _).hmpSay _ _ _ _).next))

/-! ### I3c -/

theorem Sound.execIrqTrayPendWrite (master : BitVec 10) (w : Word) : Completes s (execIrqTrayPendWrite master w u) :=
  .ite h.next ((h.accessWrite _ _ _ _).next)

theorem Sound.execIrqReedgePulseEnd : Completes s (execIrqReedgePulseEnd u) := h.other.next

theorem Sound.nack (f : Fld) : Sound s (u.nack f) := (h.wr _ _ _).emit _

theorem Sound.trayWriteAll (a : Nat) (l : List Word) : Sound s (u.trayWriteAll a l).1 := by
  induction l generalizing u a with
  | nil => exact h
  | cons w t ih => exact ih (h.accessWrite _ _ _ _) _

theorem Sound.execI3cPrivateWrite (addr : BitVec 24) (words : List Word) : Completes s (execI3cPrivateWrite addr words u) := by
  unfold Machine.execI3cPrivateWrite
  extract_lets t
  refine .ite ?_ ?_
  · exact h.next
  · refine .ite ?_ ?_
    · exact (h.emit _).next
    · refine .ite ?_ ?_
      · exact ((h.wakeEvent _).nack _).next
      · refine .ite ?_ ?_
        · exact ((h.raise _ _ _ _ _).nack _).next
        · exact (Sound.ite ((h.trayWriteAll _ _).wr _ _ _) (h.trayWriteAll _ _)).next

theorem Sound.trayReadAll (a n : Nat) : Sound s (u.trayReadAll a n).2.1 := by
  induction n generalizing u a with
  | zero => exact h
  | succ n ih => exact ih (h.accessRead _ _) _

theorem Sound.execI3cPrivateRead (addr : BitVec 24) (n : BitVec 5) : Completes s (execI3cPrivateRead addr n u) := by
  unfold Machine.execI3cPrivateRead
  extract_lets t s1
  have hs1 : Sound s s1 := .ite ((h.trayReadAll _ _).wr _ _ _) (h.trayReadAll _ _)
  exact .ite h.next (.ite ((h.emit _).next) (.ite (((h.wakeEvent _).nack _).next) ((hs1.emit _).next)))

theorem Sound.cccAnswer (l : List Byte) : Completes s (u.cccAnswer l) := .ite h.next ((h.emit _).next)

theorem Sound.i3cBcr : Sound s u.i3cBcr.2 := by
  unfold State.i3cBcr
  dsimp only
  exact h.freeNat _

theorem Sound.execEntdaa (da : BitVec 7) : Completes s (execEntdaa da u) := .ite h.next ((((h.i3cBcr.freeNat _).emit _).wr _ _ _).next)

theorem Sound.execSetdasa (static da : BitVec 7) : Completes s (execSetdasa static da u) := .ite h.next ((h.wr _ _ _).next)

theorem Sound.execRstdaa : Completes s (execRstdaa u) := (h.wr _ _ _).next

theorem Sound.execSetnewda (da : BitVec 7) : Completes s (execSetnewda da u) := .ite h.next ((h.wr _ _ _).next)

theorem Sound.execGetpid : Completes s (execGetpid u) := h.cccAnswer _

theorem Sound.execGetbcr : Completes s (execGetbcr u) := h.i3cBcr.cccAnswer _

theorem Sound.execGetdcr : Completes s (execGetdcr u) := (h.freeBytes _).cccAnswer _

theorem Sound.execGetstatus : Completes s (execGetstatus u) := (h.freeNat _).cccAnswer _

theorem Sound.execSetmwl (n : BitVec 16) : Completes s (execSetmwl n u) := (Sound.ite h h.other).next

theorem Sound.execSetmrl (n : BitVec 16) : Completes s (execSetmrl n u) := (Sound.ite h h.other).next

theorem Sound.execGetmwl : Completes s (execGetmwl u) := h.cccAnswer _

theorem Sound.execGetmrl : Completes s (execGetmrl u) := h.cccAnswer _

/-! ### Idle -/

theorem Sound.keepDue (before : Nat) : Sound s (u.keepDue before) := .ite h.keepReadings h

theorem Sound.idle : Sound s u.idle := .ite h ((((((h.tick.rampTick).keepDue _).ethTick _).voteCheck).healthCheck).tryGate)

/-! ### Dispatch -/

theorem Sound.exec {c : Instr} (hform : c.wellFormed = true) : Completes s (exec c u) := by
  cases c with
  | referenceLoss => exact h.execReferenceLoss
  | referenceRestored => exact h.execReferenceRestored
  | nop _ _ _ => exact h.execNop _ _ _ hform
  | mmaOs _ _ _ _ => exact h.execMmaOs _ _ _ _ hform
  | mmaWs _ _ _ _ => exact h.execMmaWs _ _ _ _ hform
  | vecEw _ _ _ _ => exact h.execVecEw _ _ _ _ hform
  | vecRed _ _ _ _ => exact h.execVecRed _ _ _ _ hform
  | vecAct _ _ _ _ => exact h.execVecAct _ _ _ _ hform
  | vecTload _ _ _ _ => exact h.execVecTload _ _ _ _ hform
  | vecSoftmax _ _ _ _ => exact h.execVecSoftmax _ _ _ _ hform
  | vecRecip _ _ _ _ => exact h.execVecRecip _ _ _ _ hform
  | quant _ _ _ _ => exact h.execQuant _ _ _ _ hform
  | dequant _ _ _ _ => exact h.execDequant _ _ _ _ hform
  | gather _ _ _ _ => exact h.execGather _ _ _ _ hform
  | scatter _ _ _ _ => exact h.execScatter _ _ _ _ hform
  | sync _ _ _ => exact h.execSync _ _ _ hform
  | beacon _ _ _ => exact h.execBeacon _ _ _ hform
  | endSeg _ _ _ => exact h.execEnd _ _ _ hform
  | tokenWait _ _ _ _ _ => exact h.execTokenWait _ _ _ _ _
  | tokenWaitRelease _ _ _ => exact h.execTokenWaitRelease _ _ _
  | tokenSignal _ _ _ _ => exact h.execTokenSignal _ _ _ _
  | stallTimeout _ _ => exact h.execStallTimeout _ _
  | storeScrubForced _ _ _ => exact h.execStoreScrubForced _ _ _
  | storePatrolRead _ _ => exact h.execStorePatrolRead _ _
  | bobbinMove _ _ _ _ _ => exact h.execBobbinMove _ _ _ _ _ hform
  | bobbinGather _ _ _ _ _ => exact h.execBobbinGather _ _ _ _ _ hform
  | bobbinScatter _ _ _ _ _ => exact h.execBobbinScatter _ _ _ _ _ hform
  | bobbinPut _ _ _ _ _ => exact h.execBobbinPut _ _ _ _ _ hform
  | bobbinGet _ _ _ => exact h.execBobbinGet _ _ _ hform
  | bobbinColl _ _ _ _ _ => exact h.execBobbinColl _ _ _ _ _ hform
  | bobbinSync _ _ _ => exact h.execBobbinSync _ _ _ hform
  | bobbinEnd _ _ _ => exact h.execBobbinEnd _ _ _ hform
  | descriptorStatusEnd _ _ => exact h.execDescriptorStatusEnd _ _
  | engineFault _ _ _ => exact h.execEngineFault _ _ _
  | engineHandshakeTimeout _ _ _ => exact h.execEngineHandshakeTimeout _ _ _
  | engineReplay _ _ _ => exact h.execEngineReplay _ _ _
  | clusterFault _ => exact h.execClusterFault _
  | spareBringInComplete _ _ => exact h.execSpareBringInComplete _ _
  | routerFault => exact h.execRouterFault
  | clusterTestDone _ _ => exact h.execClusterTestDone _ _
  | clusterMapWrite => exact h.execClusterMapWrite
  | clusterGate _ => exact h.execClusterGate _
  | clusterUngate _ => exact h.execClusterUngate _
  | relaxPending => exact h.execRelaxPending
  | relaxEndPending => exact h.execRelaxEndPending
  | partAssign _ _ => exact h.execPartAssign _ _
  | partRelease _ _ => exact h.execPartRelease _ _
  | partState _ => exact h.execPartState _
  | scrubHalted _ => exact h.execScrubHalted _
  | scrubStoresZeroed _ => exact h.execScrubStoresZeroed _
  | zeroFillDone _ _ _ => exact h.execZeroFillDone _ _ _
  | ethRingPiWrite _ _ => exact h.execEthRingPiWrite _ _
  | ethRingCtlWrite _ _ => exact h.execEthRingCtlWrite _ _
  | ethCqCiWrite _ _ => exact h.execEthCqCiWrite _ _
  | ringFetch _ _ => exact h.execRingFetch _ _
  | commandStart _ => exact h.execCommandStart _
  | cmdNop _ _ => exact h.execCmdNop _ _
  | jobOpen _ _ => exact h.execJobOpen _ _
  | load _ _ => exact h.execLoad _ _
  | run _ _ => exact h.execRun _ _
  | fence _ _ => exact h.execFence _ _
  | signal _ _ => exact h.execSignal _ _
  | mark _ _ => exact h.execMark _ _
  | jobClose _ _ => exact h.execJobClose _ _
  | commandComplete _ _ => exact h.execCommandComplete _ _
  | ingestSealedRecord _ _ => exact h.execIngestSealedRecord _ _
  | stackRead _ _ _ _ => exact h.execStackRead _ _ _ _
  | stackWrite _ _ _ _ _ _ => exact h.execStackWrite _ _ _ _ _ _
  | pageConversionDone _ _ => exact h.execPageConversionDone _ _
  | memPatrolScrub _ _ => exact h.execMemPatrolScrub _ _
  | rowSpareDone _ _ => exact h.execRowSpareDone _ _
  | stackFail _ => exact h.execStackFail _
  | rotationReq _ => exact h.execRotationReq _
  | rotationKeyLoaded _ => exact h.execRotationKeyLoaded _
  | sweepConversion _ _ _ => exact h.execSweepConversion _ _ _
  | lendOfferAdvertise => exact h.execLendOfferAdvertise
  | lendOffer _ _ => exact h.execLendOffer _ _
  | lendRequest _ _ => exact h.execLendRequest _ _
  | lendGrant _ _ => exact h.execLendGrant _ _
  | loanTimeout _ _ => exact h.execLoanTimeout _ _
  | stackTrainingDone _ _ => exact h.execStackTrainingDone _ _
  | flitTransmit _ => exact h.execFlitTransmit _
  | flitReceive _ _ _ _ _ => exact h.execFlitReceive _ _ _ _ _
  | hello _ _ _ => exact h.execHello _ _ _
  | laneDrop _ _ _ _ => exact h.execLaneDrop _ _ _ _
  | laneAdd _ _ _ => exact h.execLaneAdd _ _ _
  | remap _ _ _ => exact h.execRemap _ _ _
  | narrow _ _ => exact h.execNarrow _ _
  | widen _ _ => exact h.execWiden _ _
  | down _ _ _ => exact h.execDown _ _ _
  | laneFault _ _ => exact h.execLaneFault _ _
  | linkSilenceTimeout _ => exact h.execLinkSilenceTimeout _
  | linkRetrainTimer _ => exact h.execLinkRetrainTimer _
  | linkTrainingDone _ _ _ => exact h.execLinkTrainingDone _ _ _
  | laneReaddRetry _ => exact h.execLaneReaddRetry _
  | laneReaddTestDone _ _ => exact h.execLaneReaddTestDone _ _
  | retrain _ _ => exact h.execRetrain _ _
  | fabPortCfgWrite _ _ => exact h.execFabPortCfgWrite _ _
  | rttMeasure _ _ => exact h.execRttMeasure _ _
  | cablePresent _ _ => exact h.execCablePresent _ _
  | cableOvercurrent _ => exact h.execCableOvercurrent _
  | put _ _ => exact h.execPut _ _
  | getReq _ _ _ => exact h.execGetReq _ _ _
  | getResp _ _ => exact h.execGetResp _ _
  | ack _ _ => exact h.execAck _ _
  | refuse _ _ => exact h.execRefuse _ _
  | packetForward _ _ => exact h.execPacketForward _ _
  | ackTimer => exact h.execAckTimer
  | e2eTimeout _ _ _ => exact h.execE2eTimeout _ _ _
  | collData _ _ => exact h.execCollData _ _
  | arrive _ _ => exact h.execArrive _ _
  | ready _ _ => exact h.execReady _ _
  | commit _ _ => exact h.execCommit _ _
  | abort _ _ => exact h.execAbort _ _
  | collEnd _ _ => exact h.execCollEnd _ _
  | query _ _ => exact h.execQuery _ _
  | noticeFault _ _ _ _ => exact h.execNoticeFault _ _ _ _
  | noticeSuspect _ _ => exact h.execNoticeSuspect _ _
  | noticeAlive _ _ => exact h.execNoticeAlive _ _
  | noticeLost _ _ => exact h.execNoticeLost _ _
  | suspectTimeout _ => exact h.execSuspectTimeout _
  | epoch _ _ => exact h.execEpoch _ _
  | topoLinkState _ _ _ _ _ _ _ => exact h.execTopoLinkState _ _ _ _ _ _ _
  | topoReady _ _ _ => exact h.execTopoReady _ _ _
  | relay _ _ => exact h.execRelay _ _
  | shadowRebuild _ => exact h.execShadowRebuild _
  | shadowReadyWrite _ => exact h.execShadowReadyWrite _
  | epochSourceTimeout => exact h.execEpochSourceTimeout
  | epochDrainEnd => exact h.execEpochDrainEnd
  | ethLinkUp _ _ => exact h.execEthLinkUp _ _
  | ethLinkDown _ => exact h.execEthLinkDown _
  | ethLinkRetry _ => exact h.execEthLinkRetry _
  | ethFrameReceive _ _ => exact h.execEthFrameReceive _ _
  | mkaFrame _ _ _ => exact h.execMkaFrame _ _ _
  | mkaSaInstalled _ => exact h.execMkaSaInstalled _
  | mkaPeerTimeout _ => exact h.execMkaPeerTimeout _
  | rdmaWrite _ _ _ _ _ _ _ _ => exact h.execRdmaWrite _ _ _ _ _ _ _ _
  | rdmaReadRequest _ _ _ _ _ _ _ => exact h.execRdmaReadRequest _ _ _ _ _ _ _
  | roceInvalidRequest _ _ _ => exact h.execRoceInvalidRequest _ _ _
  | rdmaReadResponse _ _ _ _ => exact h.execRdmaReadResponse _ _ _ _
  | roceNakReceived _ _ _ => exact h.execRoceNakReceived _ _ _
  | roceAckTimeout _ => exact h.execRoceAckTimeout _
  | cnpReceive _ => exact h.execCnpReceive _
  | cnpRateRecovery _ => exact h.execCnpRateRecovery _
  | ethQpBindWrite _ _ => exact h.execEthQpBindWrite _ _
  | ethMwCtlWrite _ _ => exact h.execEthMwCtlWrite _ _
  | ethDbTagNew _ => exact h.execEthDbTagNew _
  | ethVlanWrite _ _ => exact h.execEthVlanWrite _ _
  | hmpConnect _ _ _ _ => exact h.execHmpConnect _ _ _ _
  | hmpIdleTimeout _ => exact h.execHmpIdleTimeout _
  | regRead _ _ _ => exact h.execRegRead _ _ _
  | regWrite _ _ _ _ => exact h.execRegWrite _ _ _ _
  | arpRequest _ _ => exact h.execArpRequest _ _
  | neighbourSolicitation _ _ => exact h.execNeighbourSolicitation _ _
  | icmpEcho _ _ _ => exact h.execIcmpEcho _ _ _
  | ptpMessage _ _ _ => exact h.execPtpMessage _ _ _
  | lldpSend _ => exact h.execLldpSend _
  | lldpReceive _ _ _ => exact h.execLldpReceive _ _ _
  | identityChain _ => exact h.execIdentityChain _
  | attest _ _ _ => exact h.execAttest _ _ _
  | keyDeliver _ _ => exact h.execKeyDeliver _ _
  | keyRevoke _ _ => exact h.execKeyRevoke _ _
  | claim _ _ => exact h.execClaim _ _
  | peerAdmit _ _ => exact h.execPeerAdmit _ _
  | debugChallenge _ => exact h.execDebugChallenge _
  | debugUnlock _ _ => exact h.execDebugUnlock _ _
  | attestKeyExpiry _ => exact h.execAttestKeyExpiry _
  | svnAdvance _ => exact h.execSvnAdvance _
  | secAtRightsWrite _ => exact h.execSecAtRightsWrite _
  | cadenceWindow _ => exact h.execCadenceWindow _
  | powerSample _ => exact h.execPowerSample _
  | capUnmet => exact h.execCapUnmet
  | gearChange _ => exact h.execGearChange _
  | gearSwitchDone => exact h.execGearSwitchDone
  | gearSettled => exact h.execGearSettled
  | limiterTrigger => exact h.execLimiterTrigger
  | limiterRelease => exact h.execLimiterRelease
  | limiterHoldStep => exact h.execLimiterHoldStep
  | tjSample _ _ => exact h.execTjSample _ _
  | thermalTrip _ => exact h.execThermalTrip _
  | pwrTripRearm => exact h.execPwrTripRearm
  | tripRestart => exact h.execTripRestart
  | quiesceComplete => exact h.execQuiesceComplete
  | cleTick => exact h.execCleTick
  | slotFaultClear _ => exact h.execSlotFaultClear _
  | slotCfgWrite _ _ => exact h.execSlotCfgWrite _ _
  | slotCoeffWrite _ _ _ => exact h.execSlotCoeffWrite _ _ _
  | repTableWrite _ _ _ => exact h.execRepTableWrite _ _ _
  | repBeaconTimeout => exact h.execRepBeaconTimeout
  | traceArm _ => exact h.execTraceArm _
  | traceFire _ => exact h.execTraceFire _
  | traceDataRead _ _ => exact h.execTraceDataRead _ _
  | pwmCfgWrite _ _ _ => exact h.execPwmCfgWrite _ _ _
  | tachEdge _ _ => exact h.execTachEdge _ _
  | kickTimeout _ => exact h.execKickTimeout _
  | pauseEnd _ => exact h.execPauseEnd _
  | pwmRampEnd _ => exact h.execPwmRampEnd _
  | tachLost _ => exact h.execTachLost _
  | tachOvrTimeout _ => exact h.execTachOvrTimeout _
  | cioPwmClr _ => exact h.execCioPwmClr _
  | aoFault _ => exact h.execAoFault _
  | aoFaultClear _ => exact h.execAoFaultClear _
  | aiSample _ _ _ => exact h.execAiSample _ _ _
  | sensorSample _ _ => exact h.execSensorSample _ _
  | rangeFaultClear _ => exact h.execRangeFaultClear _
  | pairMismatch _ => exact h.execPairMismatch _
  | heatBalance => exact h.execHeatBalance
  | diChange _ _ => exact h.execDiChange _ _
  | diStuckClear _ => exact h.execDiStuckClear _
  | leakSample _ _ => exact h.execLeakSample _ _
  | valveCloseDelay => exact h.execValveCloseDelay
  | protectiveAfterReadings _ => exact h.execProtectiveAfterReadings _
  | leakAck => exact h.execLeakAck
  | sensStatClear _ => exact h.execSensStatClear _
  | ilkInChange _ => exact h.execIlkInChange _
  | acquireTimeout => exact h.execAcquireTimeout
  | listenEnd => exact h.execListenEnd
  | hbMissing => exact h.execHbMissing
  | ilkConflict => exact h.execIlkConflict
  | holderSelfRelease _ => exact h.execHolderSelfRelease _
  | healthReached => exact h.execHealthReached
  | handover _ => exact h.execHandover _
  | pumpclr _ => exact h.execPumpclr _
  | pumpStatusTimeout _ _ => exact h.execPumpStatusTimeout _ _
  | pumpRotation => exact h.execPumpRotation
  | rotationStopOld => exact h.execRotationStopOld
  | startupPumpKickEnd => exact h.execStartupPumpKickEnd
  | rowBudgetCompute => exact h.execRowBudgetCompute
  | capTableStale => exact h.execCapTableStale
  | cycleStart => exact h.execCycleStart
  | schedSlot _ => exact h.execSchedSlot _
  | refLost => exact h.execRefLost
  | clarnTxDone _ _ _ => exact h.execClarnTxDone _ _ _
  | clarnBusError _ _ _ => exact h.execClarnBusError _ _ _
  | busoffRecovery _ => exact h.execBusoffRecovery _
  | submit => exact h.execSubmit
  | cancel _ => exact h.execCancel _
  | clnRxqAck _ _ => exact h.execClnRxqAck _ _
  | clnChCfgWrite _ _ => exact h.execClnChCfgWrite _ _
  | seqForget _ => exact h.execSeqForget _
  | clarnFrameReceive _ _ => exact h.execClarnFrameReceive _ _
  | ref _ _ => exact h.execRef _ _
  | capTable _ _ => exact h.execCapTable _ _
  | hb _ _ => exact h.execHb _ _
  | mirror _ _ => exact h.execMirror _ _
  | modStatus _ _ => exact h.execModStatus _ _
  | modAlarm _ _ => exact h.execModAlarm _ _
  | pumpStatus _ _ => exact h.execPumpStatus _ _
  | valveStatus _ _ => exact h.execValveStatus _ _
  | sensorValue _ _ => exact h.execSensorValue _ _
  | leakStatus _ _ => exact h.execLeakStatus _ _
  | nodeHello _ _ => exact h.execNodeHello _ _
  | meterCalc _ _ _ _ _ _ => exact h.execMeterCalc _ _ _ _ _ _
  | meterCommit _ => exact h.execMeterCommit _
  | meterSupplyFail => exact h.execMeterSupplyFail
  | sealCheck _ => exact h.execSealCheck _
  | sndNke _ => exact h.execSndNke _
  | reqUd2 _ => exact h.execReqUd2 _
  | sndUd _ _ => exact h.execSndUd _ _
  | meterFwUpdate _ => exact h.execMeterFwUpdate _
  | snapshot => exact h.execSnapshot
  | meterUnreach => exact h.execMeterUnreach
  | readAcc => exact h.execReadAcc
  | readId => exact h.execReadId
  | readLog _ => exact h.execReadLog _
  | readParam => exact h.execReadParam
  | meterAnswer _ => exact h.execMeterAnswer _
  | meterReqTimeout => exact h.execMeterReqTimeout
  | reqRun => exact h.execReqRun
  | reqTrim => exact h.execReqTrim
  | reqStandby => exact h.execReqStandby
  | reqFreewheel => exact h.execReqFreewheel
  | pwrVoteWrite _ => exact h.execPwrVoteWrite _
  | autoStandbyIdle => exact h.execAutoStandbyIdle
  | entryStepComplete => exact h.execEntryStepComplete
  | handshakeReply _ => exact h.execHandshakeReply _
  | handshakeTimeout => exact h.execHandshakeTimeout
  | fwSequencerSample _ _ => exact h.execFwSequencerSample _ _
  | wakeComplete _ => exact h.execWakeComplete _
  | domainAwake _ => exact h.execDomainAwake _
  | domainIdle _ => exact h.execDomainIdle _
  | timSet _ => exact h.execTimSet _
  | timNowLoRead _ => exact h.execTimNowLoRead _
  | aonOscStop => exact h.execAonOscStop
  | counterPersist _ => exact h.execCounterPersist _
  | vaonUp => exact h.execVaonUp
  | vaonDown => exact h.execVaonDown
  | overvoltage => exact h.execOvervoltage
  | startupStepComplete _ => exact h.execStartupStepComplete _
  | flowPermitHeld => exact h.execFlowPermitHeld
  | permitWait => exact h.execPermitWait
  | permitLost => exact h.execPermitLost
  | permitRegain => exact h.execPermitRegain
  | wdogKick => exact h.execWdogKick
  | wdogExpiry => exact h.execWdogExpiry
  | mgmtRestartDone => exact h.execMgmtRestartDone
  | resetN => exact h.execResetN
  | pfWarnN _ => exact h.execPfWarnN _
  | heartbeat => exact h.execHeartbeat
  | trayModeWrite _ _ => exact h.execTrayModeWrite _ _
  | trayRestart _ => exact h.execTrayRestart _
  | hbMiss => exact h.execHbMiss
  | trayShutdown => exact h.execTrayShutdown
  | trayValveHoldEnd => exact h.execTrayValveHoldEnd
  | aliveTick => exact h.execAliveTick
  | recorderFlush _ => exact h.execRecorderFlush _
  | flushTimer => exact h.execFlushTimer
  | flush => exact h.execFlush
  | sectorEraseDone _ => exact h.execSectorEraseDone _
  | freeze _ => exact h.execFreeze _
  | freezeEnd => exact h.execFreezeEnd
  | cursorFirst _ _ _ => exact h.execCursorFirst _ _ _
  | cursorLast _ _ _ => exact h.execCursorLast _ _ _
  | recCurSeqWrite _ _ => exact h.execRecCurSeqWrite _ _
  | recWinWord15Read _ _ => exact h.execRecWinWord15Read _ _
  | irqTrayPendWrite _ _ => exact h.execIrqTrayPendWrite _ _
  | irqReedgePulseEnd => exact h.execIrqReedgePulseEnd
  | i3cPrivateWrite _ _ => exact h.execI3cPrivateWrite _ _
  | i3cPrivateRead _ _ => exact h.execI3cPrivateRead _ _
  | entdaa _ => exact h.execEntdaa _
  | setdasa _ _ => exact h.execSetdasa _ _
  | rstdaa => exact h.execRstdaa
  | setnewda _ => exact h.execSetnewda _
  | getpid => exact h.execGetpid
  | getbcr => exact h.execGetbcr
  | getdcr => exact h.execGetdcr
  | getstatus => exact h.execGetstatus
  | setmwl _ => exact h.execSetmwl _
  | setmrl _ => exact h.execSetmrl _
  | getmwl => exact h.execGetmwl
  | getmrl => exact h.execGetmrl
  | cfgImage _ _ => exact h.execCfgImage _ _
  | fwImage _ _ => exact h.execFwImage _ _
  | registerWrite _ _ _ _ => exact h.execRegisterWrite _ _ _ _
  | overvoltageRecovery => exact h.execOvervoltageRecovery
  | mirrorOld => exact h.execMirrorOld
  | criticalOutputOff => exact h.execCriticalOutputOff
  | rnrNak _ _ => exact h.execRnrNak _ _
  | roceAcknowledge _ _ _ => exact h.execRoceAcknowledge _ _ _
  | mkaHello _ => exact h.execMkaHello _
  | ptpLockLost _ => exact h.execPtpLockLost _

end

end Sys2Proof.Machine
end

section
/-! PROOFS.  Every well-formed command completes and keeps the queue, every other is refused, and each step keeps the canonical form. -/

namespace Sys2Proof.Machine

/-! ### Commands that are not of their form -/

theorem runBob_of_not_form (p : Fin 68) (b : Fin 4) {opc : Nat} {d : BobDesc} (l : List EccHit) (m : List StackHit)
    (body : Nat → Nat → BitVec 64 → BitVec 64 → State → State) (s : State) (hform : bobForm opc d = false) :
    runBob p b opc d l m body s = .refused .illFormed := by
  simp [runBob, hform]

theorem execBobbinColl_of_not_form (p : Fin 68) (b : Fin 4) {d : BobDesc} (l : List EccHit) (m : List StackHit) (s : State)
    (hform : bobForm 6 d = false) : execBobbinColl p b d l m s = .refused .illFormed := by
  unfold execBobbinColl
  rw [hform, Bool.false_and, if_neg Bool.false_ne_true]
  exact runBob_of_not_form _ _ _ _ _ _ hform

theorem execBeacon_of_not_form (p : Fin 68) (e : Fin 16) {i : EngInstr} (s : State) (hform : engForm 0x22 i = false) :
    execBeacon p e i s = .refused .illFormed := by
  unfold execBeacon
  exact runEng_of_not_form _ _ _ _ _ hform

theorem exec_of_not_form {c : Instr} (s : State) (hform : c.wellFormed = false) : exec c s = .refused .illFormed := by
  cases c with
  | nop _ _ _ => exact runEng_of_not_form _ _ _ _ _ hform
  | mmaOs _ _ _ _ => exact runEng_of_not_form _ _ _ _ _ hform
  | mmaWs _ _ _ _ => exact runEng_of_not_form _ _ _ _ _ hform
  | vecEw _ _ _ _ => exact runEng_of_not_form _ _ _ _ _ hform
  | vecRed _ _ _ _ => exact runEng_of_not_form _ _ _ _ _ hform
  | vecAct _ _ _ _ => exact runEng_of_not_form _ _ _ _ _ hform
  | vecTload _ _ _ _ => exact runEng_of_not_form _ _ _ _ _ hform
  | vecSoftmax _ _ _ _ => exact runEng_of_not_form _ _ _ _ _ hform
  | vecRecip _ _ _ _ => exact runEng_of_not_form _ _ _ _ _ hform
  | quant _ _ _ _ => exact runEng_of_not_form _ _ _ _ _ hform
  | dequant _ _ _ _ => exact runEng_of_not_form _ _ _ _ _ hform
  | gather _ _ _ _ => exact runEng_of_not_form _ _ _ _ _ hform
  | scatter _ _ _ _ => exact runEng_of_not_form _ _ _ _ _ hform
  | sync _ _ _ => exact runEng_of_not_form _ _ _ _ _ hform
  | beacon _ _ _ => exact execBeacon_of_not_form _ _ _ hform
  | endSeg _ _ _ => exact runEng_of_not_form _ _ _ _ _ hform
  | bobbinMove _ _ _ _ _ => exact runBob_of_not_form _ _ _ _ _ _ hform
  | bobbinGather _ _ _ _ _ => exact runBob_of_not_form _ _ _ _ _ _ hform
  | bobbinScatter _ _ _ _ _ => exact runBob_of_not_form _ _ _ _ _ _ hform
  | bobbinPut _ _ _ _ _ => exact runBob_of_not_form _ _ _ _ _ _ hform
  | bobbinGet _ _ _ => exact runBob_of_not_form _ _ _ _ _ _ hform
  | bobbinColl _ _ _ _ _ => exact execBobbinColl_of_not_form _ _ _ _ _ hform
  | bobbinSync _ _ _ => exact runBob_of_not_form _ _ _ _ _ _ hform
  | bobbinEnd _ _ _ => exact runBob_of_not_form _ _ _ _ _ _ hform
  | _ => exact Bool.noConfusion hform

/-! ### The two obligations -/

/-- Settles O56: a well-formed command completes and keeps the queue, the others are refused by the test of their form. -/
theorem wellFormedCommandsCompleteAndLeaveTheQueue : Obligations.WellFormedCommandsCompleteAndLeaveTheQueue := by
  unfold Obligations.WellFormedCommandsCompleteAndLeaveTheQueue
  refine fun c s => ⟨fun hform => ?_, exec_of_not_form s⟩
  obtain ⟨t, ht, hst⟩ := (Sound.refl s).exec hform
  exact ⟨t, ht, hst.pending⟩

/-- What one step answers keeps the memories and the register map in canonical form. -/
theorem wf_of_step {s t : State} (h : step s = .next t) (hmem : s.memWf = true) (hregs : s.regsWf = true) :
    t.memWf = true ∧ t.regsWf = true := by
  unfold step at h
  split at h
  · cases h
    have hidle : Sound s s.idle := (Sound.refl s).idle
    exact ⟨hidle.mem hmem, hidle.regs hregs⟩
  next c rest hq =>
    cases hform : c.wellFormed with
    | true =>
      obtain ⟨t', ht, hst⟩ := (Sound.refl { s with pending := rest }).exec hform
      rw [h] at ht
      cases ht
      exact ⟨hst.mem hmem, hst.regs hregs⟩
    | false =>
      rw [exec_of_not_form _ hform] at h
      cases h

/-- Settles O55, by the rule of each function a command or a tick runs. -/
theorem everyStepKeepsTheMemoriesCanonical : Obligations.EveryStepKeepsTheMemoriesCanonical := by
  unfold Obligations.EveryStepKeepsTheMemoriesCanonical
  exact fun _ _ hmem hregs h => wf_of_step h hmem hregs

end Sys2Proof.Machine
end
